-- ==== Sys2Proof/Word.lean ====
section
/-! DEFINITION. The word types of the module: a register and a core word are 32 bits, a memory cell is 8 bits, a
reckoner accumulator is 72 bits (R3, R6, R127). -/
namespace Sys2Proof

/-- A register or core word (R12, R127). -/
abbrev Word := BitVec 32

/-- The smallest addressable unit of memory (R6). -/
abbrev Byte := BitVec 8

/-- A reckoner's accumulator (R127, R138). -/
abbrev Acc := BitVec 72

end Sys2Proof

/-- A vector with the entry at `i` changed by `f`. -/
def Vector.upd {α : Type} {n : Nat} (v : Vector α n) (i : Fin n) (f : α → α) : Vector α n := v.set i.val (f v[i])
end

