-- ==== Sys2Proof/Syntax.lean ====
section
/-! DEFINITION. The commands of the module: one constructor per row of the operation table, with the operands a sender
gives (addresses, values, measured bits, times that the environment decides), and the types of those operands. -/
namespace Sys2Proof

/-- R21: the masters of the crossbar: the stewards, the reckoners, a DMA channel, the link receivers (with the TAG of the far
request, R396), Ethernet, the host
port, the debug port and the block port (writes, or the scrub's reads). -/
inductive Master where
  | steward (n : Fin 2)
  | reckoner (n : Fin 4)
  | dma (ch : Fin 32)
  | link (l : Fin 4) (tag : BitVec 6)
  | eth
  | host
  | debug
  | block
  | scrub
  deriving DecidableEq, Repr

/-- R6, R12, R21: an access: its address, its size as a power of two (1, 2, 4 or 8 bytes), and the data of a write. -/
structure Access where
  addr : Word
  size : Fin 4
  write : Option (BitVec 64)
  deriving DecidableEq, Repr

/-- R62: the two PLLs. -/
inductive PllSel where
  | sys | sync
  deriving DecidableEq, Repr

/-- R73, R496: the supply voltage of a clock-output or pad bank, as sensed. -/
inductive Supply where
  | v18 | v25 | v33 | none
  deriving DecidableEq, Repr

/-- R99: the health faults of a modulator input. -/
inductive HealthKind where
  | clkloss | stuck | manv
  deriving DecidableEq, Repr

/-- R196: the shadow registers of PWM: a carrier's period; a leg's compares and phase offset. -/
inductive Shadow where
  | per (c : Fin 8)
  | cmpa (n : Fin 48)
  | cmpb (n : Fin 48)
  | ofs (n : Fin 48)
  deriving DecidableEq, Repr

/-- R204: the force events that map to domains: a MODIN force line (2n high, 2n + 1 low of input n), a FLTIN pin, a PROT
block line. -/
inductive ForceEvent where
  | modin (e : Fin 112)
  | fltin (i : Fin 8)
  | prot (l : Fin 2)
  deriving DecidableEq, Repr

/-- R262: the configuration registers of a DC input whose writes may be refused. -/
inductive DcCfgReg where
  | cfg | legsLo | legsHi
  deriving DecidableEq, Repr

/-- R130: an instruction of format R: PRED, E, RD, RA, RB and the bits [2:0]. -/
structure RForm where
  pred : BitVec 4
  e : Bool
  rd : BitVec 4
  ra : BitVec 4
  rb : BitVec 4
  res : BitVec 3
  deriving DecidableEq, Repr

/-- R130: an instruction of format I: PRED, RD, RA, IMM, and the extension word if E = 1. -/
structure IForm where
  pred : BitVec 4
  rd : BitVec 4
  ra : BitVec 4
  imm : BitVec 13
  ext : Option Word
  deriving DecidableEq, Repr

/-- R130: an instruction of format M: PRED, RD, AB, AM, OFS, and the extension word if E = 1. -/
structure MForm where
  pred : BitVec 4
  rd : BitVec 4
  ab : Fin 8
  am : BitVec 2
  ofs : BitVec 12
  ext : Option Word
  deriving DecidableEq, Repr

/-- R130, R146: an instruction of format C. -/
structure CForm where
  pred : BitVec 4
  e : Bool
  w : Fin 4
  d : Fin 16
  ac : Fin 8
  ax : Fin 8
  ix : BitVec 2
  ic : Bool
  res : BitVec 3
  deriving DecidableEq, Repr

/-- R130: an instruction of format B: PRED, OFF, and the extension word if E = 1. -/
structure BForm where
  pred : BitVec 4
  off : BitVec 21
  ext : Option Word
  deriving DecidableEq, Repr

/-- R130, R150: an instruction of format L. -/
structure LForm where
  pred : BitVec 4
  e : Bool
  lc : Fin 2
  cr : Bool
  stop : BitVec 11
  count : BitVec 8
  deriving DecidableEq, Repr

/-- R130, R151: an instruction of format S. -/
structure SForm where
  pred : BitVec 4
  e : Bool
  rd : Fin 16
  p : Fin 4
  res : BitVec 6
  cr : Bool
  ch : BitVec 8
  deriving DecidableEq, Repr

/-- R155, R363: a register of a core, as the debug port names it, or the enable of its BKPT. -/
inductive CoreReg where
  | d (n : Fin 16)
  | a (n : Fin 8)
  | w (n : Fin 4)
  | p (n : Fin 4)
  | lc (n : Fin 2)
  | sys (n : BitVec 6)
  | pc
  | bkpt
  deriving DecidableEq, Repr

/-- R84: what a modulator's line carries in one MCLK period, from its reference edge on: its level in each step of 312.5 ps
(bit i: the ith step), and in Manchester mode its levels before (bit 1) and after (bit 0) the middle of the cell. -/
structure MdatPeriod where
  levels : BitVec 640
  cell : BitVec 2
  deriving DecidableEq, Repr

/-- An event at an input, a link or a leg, or of a kind: where it is, and what is seen there. -/
structure Seen (ι α : Type) where
  site : ι
  what : α
  deriving DecidableEq, Repr

/-- A level that a pin takes, and how long it has held it, in the unit of its filter. -/
structure HeldLevel where
  level : Bool
  held : Nat
  deriving DecidableEq, Repr

/-- R197: the carriers that a write of LOADALL names, and whether it lands in the cycle of another landing. -/
structure LoadallMask where
  mask : BitVec 8
  same : Bool
  deriving DecidableEq, Repr

/-- R237–R243: the readings of one grid-point update, channels 0–38. The spec gives what each of them is to within an error
(R240), and the tracker's angle and frequency (5, 6) while it settles not at all; the readings say which of the values
that it leaves open the module takes. -/
structure GridUpdate where
  value : Vector Word 39
  deriving DecidableEq, Repr

/-- R295–R297: what feeds a metering point's sample at one instant: what the line of each channel (VA, VB, VC, IA, IB, IC,
IN) has carried, up to 93.75 µs after the instant, the oldest period first; and the channels that a stop of MCLK or a
health fault of that time after the instant spoils. -/
structure MeterSample where
  lines : Vector (List MdatPeriod) 7
  spoilt : BitVec 7
  deriving DecidableEq, Repr

/-- R390: what a lane's margin scan sees: for each equaliser setting, the sampling steps with an error (bit i: step i). -/
structure LaneScan where
  errors : Vector (BitVec 64) 16
  deriving DecidableEq, Repr

/-- R389: why training fails: no forwarded clock, or, with the margin scans made, an eye too narrow or no READY. -/
inductive TrainFail where
  | clock
  | scanned (lane0 lane1 : LaneScan)
  deriving DecidableEq, Repr

/-- R391, R393: the bits that the two data lanes carry in one cell slot, first bit first, scrambled and stuffed. -/
structure LaneBits where
  lane0 : List Bool
  lane1 : List Bool
  deriving DecidableEq, Repr

/-- R483: what telemetry measures each millisecond: die temperatures in 0.01 °C, VIN, CHOLD and the VIO supplies in mV,
and the crossbar share of the background work in 0.01 %. -/
structure Telemetry where
  temps : Vector Word 4
  vin : BitVec 16
  chold : BitVec 16
  vio : Vector (BitVec 16) 8
  share : BitVec 10
  deriving DecidableEq, Repr

/-- R484: what the scrub finds in a word. -/
inductive ScrubFind where
  | clean | single | double
  deriving DecidableEq, Repr

/-- The commands: register accesses, instructions of the cores, bus and link traffic, and the events of the blocks. -/
inductive Instr where
  /-- REGISTER_WRITE (R8). -/
  | registerWrite (addr value : Word)
  /-- COUNTER_READ_CLEAR (R7). -/
  | counterReadClear (addr : Word)
  /-- STAMP_LO_READ (R7). -/
  | stampLoRead (addr : Word)
  /-- CROSSBAR_TRANSACTION (R21). -/
  | crossbarTransaction (m : Master) (a : Access)
  /-- TRANSACTION_COMPLETE (R21). -/
  | transactionComplete (tag : Fin 64)
  /-- TCM_EXTERNAL_ACCESS (R23). -/
  | tcmExternalAccess (rk : Fin 4)
  /-- MRAM_WRITE_DURABLE (R486). -/
  | mramWriteDurable
  /-- WEAR_LEVEL_MOVE (R485). -/
  | wearLevelMove
  /-- WEAR_LEVEL_MOVE_END (R485). -/
  | wearLevelMoveEnd
  /-- ADDFRAC_WRITE (R36). -/
  | addfracWrite (value : Word)
  /-- STEP_APPLY (R37). -/
  | stepApply
  /-- NOW_LO_READ (R39). -/
  | nowLoRead
  /-- ROD_ARM (R43). -/
  | rodArm (n : Fin 16) (irq : Bool)
  /-- ROD_PERIOD_COMMIT (R44). -/
  | rodPeriodCommit (n : Fin 16) (hi : BitVec 8)
  /-- ROD_FIRING (R43). -/
  | rodFiring (n : Fin 16)
  /-- QUEUE_PUSH (R45). -/
  | queuePush
  /-- QUEUE_ENTRY_FIRE (R47). -/
  | queueEntryFire
  /-- QUEUE_CANCEL (R48). -/
  | queueCancel (handle : BitVec 6)
  /-- QUEUE_FLUSH (R48). -/
  | queueFlush
  /-- SOFTWARE_LAUNCH (R49). -/
  | softwareLaunch (swl : BitVec 16)
  /-- TRGIN_EDGE (R55). -/
  | trginEdge (i : Fin 8) (edge : HeldLevel)
  /-- TRGOUT_LAUNCH (R56). -/
  | trgoutLaunch (j : Fin 8)
  /-- TRGOUT_PULSE_END (R56). -/
  | trgoutPulseEnd (j : Fin 8)
  /-- FORWARDED_EVENT_FIRE (R51). -/
  | forwardedEventFire (l : Fin 4) (c : Fin 8)
  /-- LAUNCH_HOLD_RESUME (R58). -/
  | launchHoldResume
  /-- RELOCK_SYS (R65). -/
  | relockSys
  /-- RELOCK_SYNC (R65). -/
  | relockSync
  /-- PLL_LOCK_COMPLETE (R65). -/
  | pllLockComplete (pll : PllSel) (band : Fin 32)
  /-- REFERENCE_LOSS (R67). -/
  | referenceLoss (pll : PllSel)
  /-- REFERENCE_RETURN (R67). -/
  | referenceReturn (pll : PllSel)
  /-- SYNC_PLL_LOSS_OF_LOCK (R67). -/
  | syncPllLossOfLock
  /-- SYS_PLL_LOSS_OF_LOCK (R67). -/
  | sysPllLossOfLock
  /-- PLL_UPDATE_GO (R69). -/
  | pllUpdateGo
  /-- PLL_UPDATE_APPLY (R69). -/
  | pllUpdateApply (vck : Vector Supply 8)
  /-- MAIN_RESULT_ISSUE (R89). -/
  | mainResultIssue (n : Fin 56) (line : List MdatPeriod)
  /-- CAPTURE_STROBE (R92). -/
  | captureStrobe (g : Fin 7)
  /-- OVERCURRENT_ASSERT (R97). -/
  | overcurrentAssert (n : Fin 56) (hi : Bool) (line : List MdatPeriod)
  /-- OVERCURRENT_DEASSERT (R97). -/
  | overcurrentDeassert (n : Fin 56) (hi : Bool) (line : List MdatPeriod)
  /-- CLKLOSS_DETECT (R99). -/
  | clklossDetect (missing : Seen (Fin 56) Nat)
  /-- STUCK_DETECT (R99). -/
  | stuckDetect (line : Seen (Fin 56) (List MdatPeriod))
  /-- MANCHESTER_VIOLATION (R99). -/
  | manchesterViolation (cell : Seen (Fin 56) (BitVec 2))
  /-- HEALTH_FAULT_END (R99). -/
  | healthFaultEnd (n : Fin 56) (absent : Seen HealthKind Nat)
  /-- INPUT_CFG_WRITE (R101). -/
  | inputCfgWrite (n : Fin 56) (value : Word)
  /-- GROUP_CFG_WRITE (R101). -/
  | groupCfgWrite (g : Fin 7) (value : Word)
  /-- ACU_SINGLE (R113). -/
  | acuSingle
  /-- ACU_LISTGO (R116). -/
  | acuListgo
  /-- ACU_LISTSTOP (R117). -/
  | acuListstop
  /-- ACU_CALZERO (R121). -/
  | acuCalzero
  /-- ACU_CALFULL (R121). -/
  | acuCalfull
  /-- ACU_URGENT (R118). -/
  | acuUrgent (byLaunch : Bool)
  /-- ACU_CFG_WRITE (R113). -/
  | acuCfgWrite (value : Word)
  /-- ACU_LIST_STEP (R116). -/
  | acuListStep
  /-- ACU_CONVERSION_START (R110). -/
  | acuConversionStart
  /-- ACU_RESULT (R111). -/
  | acuResult (line : List MdatPeriod)
  /-- ACU_NOCLK (R112). -/
  | acuNoclk
  /-- ACU_CAL_ENTRY_DURABLE (R121). -/
  | acuCalEntryDurable
  /-- ACU_CAL_LOAD_DONE (R122). -/
  | acuCalLoadDone
  /-- ADD (R141). -/
  | add (c : Fin 6) (f : RForm)
  /-- SUB (R141). -/
  | sub (c : Fin 6) (f : RForm)
  /-- ADDS (R141). -/
  | adds (c : Fin 6) (f : RForm)
  /-- SUBS (R141). -/
  | subs (c : Fin 6) (f : RForm)
  /-- AND (R141). -/
  | andd (c : Fin 6) (f : RForm)
  /-- OR (R141). -/
  | orr (c : Fin 6) (f : RForm)
  /-- XOR (R141). -/
  | xor (c : Fin 6) (f : RForm)
  /-- ANDN (R141). -/
  | andn (c : Fin 6) (f : RForm)
  /-- SHL (R141). -/
  | shl (c : Fin 6) (f : RForm)
  /-- SHR (R141). -/
  | shr (c : Fin 6) (f : RForm)
  /-- SRA (R141). -/
  | sra (c : Fin 6) (f : RForm)
  /-- SHLS (R141). -/
  | shls (c : Fin 6) (f : RForm)
  /-- MUL (R141). -/
  | mul (c : Fin 6) (f : RForm)
  /-- MULH (R141). -/
  | mulh (c : Fin 6) (f : RForm)
  /-- MULHU (R141). -/
  | mulhu (c : Fin 6) (f : RForm)
  /-- MULQ (R141). -/
  | mulq (c : Fin 6) (f : RForm)
  /-- DIV (R141). -/
  | div (c : Fin 6) (f : RForm)
  /-- DIVU (R141). -/
  | divu (c : Fin 6) (f : RForm)
  /-- MIN (R141). -/
  | min (c : Fin 6) (f : RForm)
  /-- MAX (R141). -/
  | max (c : Fin 6) (f : RForm)
  /-- MINU (R141). -/
  | minu (c : Fin 6) (f : RForm)
  /-- MAXU (R141). -/
  | maxu (c : Fin 6) (f : RForm)
  /-- ABSS (R141). -/
  | abss (c : Fin 6) (f : RForm)
  /-- NEGS (R141). -/
  | negs (c : Fin 6) (f : RForm)
  /-- CLZ (R141). -/
  | clz (c : Fin 6) (f : RForm)
  /-- MOV (R141). -/
  | mov (c : Fin 6) (f : RForm)
  /-- SEL (R141). -/
  | sel (c : Fin 6) (f : RForm)
  /-- MDA (R141). -/
  | mda (c : Fin 6) (f : RForm)
  /-- MAD (R141). -/
  | mad (c : Fin 6) (f : RForm)
  /-- ADDAR (R141). -/
  | addar (c : Fin 6) (f : RForm)
  /-- CMPEQ (R141). -/
  | cmpeq (c : Fin 6) (f : RForm)
  /-- CMPNE (R141). -/
  | cmpne (c : Fin 6) (f : RForm)
  /-- CMPLT (R141). -/
  | cmplt (c : Fin 6) (f : RForm)
  /-- CMPLE (R141). -/
  | cmple (c : Fin 6) (f : RForm)
  /-- CMPLTU (R141). -/
  | cmpltu (c : Fin 6) (f : RForm)
  /-- CMPLEU (R141). -/
  | cmpleu (c : Fin 6) (f : RForm)
  /-- ADDI (R142). -/
  | addi (c : Fin 6) (f : IForm)
  /-- ADDSI (R142). -/
  | addsi (c : Fin 6) (f : IForm)
  /-- ANDI (R142). -/
  | andi (c : Fin 6) (f : IForm)
  /-- ORI (R142). -/
  | ori (c : Fin 6) (f : IForm)
  /-- XORI (R142). -/
  | xori (c : Fin 6) (f : IForm)
  /-- SHLI (R142). -/
  | shli (c : Fin 6) (f : IForm)
  /-- SHRI (R142). -/
  | shri (c : Fin 6) (f : IForm)
  /-- SRAI (R142). -/
  | srai (c : Fin 6) (f : IForm)
  /-- MOVI (R142). -/
  | movi (c : Fin 6) (f : IForm)
  /-- MULI (R142). -/
  | muli (c : Fin 6) (f : IForm)
  /-- CMPEQI (R142). -/
  | cmpeqi (c : Fin 6) (f : IForm)
  /-- CMPLTI (R142). -/
  | cmplti (c : Fin 6) (f : IForm)
  /-- CMPLTUI (R142). -/
  | cmpltui (c : Fin 6) (f : IForm)
  /-- MOVA (R142). -/
  | mova (c : Fin 6) (f : IForm)
  /-- ADDA (R142). -/
  | adda (c : Fin 6) (f : IForm)
  /-- PAND (R143). -/
  | pand (c : Fin 6) (f : RForm)
  /-- POR (R143). -/
  | por (c : Fin 6) (f : RForm)
  /-- PXOR (R143). -/
  | pxor (c : Fin 6) (f : RForm)
  /-- PANDN (R143). -/
  | pandn (c : Fin 6) (f : RForm)
  /-- PNOT (R143). -/
  | pnot (c : Fin 6) (f : RForm)
  /-- PSET (R143). -/
  | pset (c : Fin 6) (f : RForm)
  /-- MOVDP (R143). -/
  | movdp (c : Fin 6) (f : RForm)
  /-- MOVPD (R143). -/
  | movpd (c : Fin 6) (f : RForm)
  /-- LD_B (R145). -/
  | ldB (c : Fin 6) (f : MForm)
  /-- LD_BU (R145). -/
  | ldBu (c : Fin 6) (f : MForm)
  /-- LD_H (R145). -/
  | ldH (c : Fin 6) (f : MForm)
  /-- LD_HU (R145). -/
  | ldHu (c : Fin 6) (f : MForm)
  /-- LD_W (R145). -/
  | ldW (c : Fin 6) (f : MForm)
  /-- LD_D (R145). -/
  | ldD (c : Fin 6) (f : MForm)
  /-- LDA (R145). -/
  | lda (c : Fin 6) (f : MForm)
  /-- ST_B (R145). -/
  | stB (c : Fin 6) (f : MForm)
  /-- ST_H (R145). -/
  | stH (c : Fin 6) (f : MForm)
  /-- ST_W (R145). -/
  | stW (c : Fin 6) (f : MForm)
  /-- ST_D (R145). -/
  | stD (c : Fin 6) (f : MForm)
  /-- STA (R145). -/
  | sta (c : Fin 6) (f : MForm)
  /-- NONLOCAL_LOAD_DONE (R135). -/
  | nonlocalLoadDone (c : Fin 6)
  /-- POSTED_STORE_ACCEPT (R136). -/
  | postedStoreAccept (rk : Fin 4)
  /-- POSTED_STORE_BUS_ERROR (R168). -/
  | postedStoreBusError (rk : Fin 4)
  /-- MACD (R146). -/
  | macd (c : Fin 6) (f : CForm)
  /-- MSUD (R146). -/
  | msud (c : Fin 6) (f : CForm)
  /-- MACC (R146). -/
  | macc (c : Fin 6) (f : CForm)
  /-- MSUC (R146). -/
  | msuc (c : Fin 6) (f : CForm)
  /-- CLRW (R147). -/
  | clrw (c : Fin 6) (f : RForm)
  /-- MOVW (R147). -/
  | movw (c : Fin 6) (f : RForm)
  /-- ADDW (R147). -/
  | addw (c : Fin 6) (f : RForm)
  /-- SUBW (R147). -/
  | subw (c : Fin 6) (f : RForm)
  /-- NEGW (R147). -/
  | negw (c : Fin 6) (f : RForm)
  /-- MOVQW (R147). -/
  | movqw (c : Fin 6) (f : RForm)
  /-- RDWL (R147). -/
  | rdwl (c : Fin 6) (f : RForm)
  /-- RDWH (R147). -/
  | rdwh (c : Fin 6) (f : RForm)
  /-- RDWG (R147). -/
  | rdwg (c : Fin 6) (f : RForm)
  /-- WRWL (R147). -/
  | wrwl (c : Fin 6) (f : RForm)
  /-- WRWH (R147). -/
  | wrwh (c : Fin 6) (f : RForm)
  /-- WRWG (R147). -/
  | wrwg (c : Fin 6) (f : RForm)
  /-- MACR (R147). -/
  | macr (c : Fin 6) (f : RForm)
  /-- MSUR (R147). -/
  | msur (c : Fin 6) (f : RForm)
  /-- EXTR (R140). -/
  | extr (c : Fin 6) (f : IForm)
  /-- BR (R149). -/
  | br (c : Fin 6) (f : BForm)
  /-- CALL (R149). -/
  | call (c : Fin 6) (f : BForm)
  /-- JR (R149). -/
  | jr (c : Fin 6) (f : RForm)
  /-- CALLR (R149). -/
  | callr (c : Fin 6) (f : RForm)
  /-- RET (R149). -/
  | ret (c : Fin 6) (f : RForm)
  /-- LOOP (R150). -/
  | loop (c : Fin 6) (f : LForm)
  /-- LOOP_BODY_END (R150). -/
  | loopBodyEnd (c : Fin 6)
  /-- SMP (R151). -/
  | smp (c : Fin 6) (f : SForm)
  /-- STG (R153). -/
  | stg (c : Fin 6) (f : IForm)
  /-- TDONE (R154). -/
  | tdone (c : Fin 6) (f : RForm)
  /-- BSWP (R154). -/
  | bswp (c : Fin 6) (f : RForm)
  /-- NOP (R155). -/
  | nop (c : Fin 6) (f : RForm)
  /-- FENCE (R155). -/
  | fence (c : Fin 6) (f : RForm)
  /-- FENCE_DRAIN_END (R155). -/
  | fenceDrainEnd (c : Fin 6)
  /-- BKPT (R155). -/
  | bkpt (c : Fin 6) (f : RForm)
  /-- CLRC (R155). -/
  | clrc (c : Fin 6) (f : RForm)
  /-- ENDL (R155). -/
  | endl (c : Fin 6) (f : RForm)
  /-- EI (R155). -/
  | ei (c : Fin 6) (f : RForm)
  /-- DI (R155). -/
  | di (c : Fin 6) (f : RForm)
  /-- RETI (R353). -/
  | reti (c : Fin 6) (f : RForm)
  /-- WFI (R353). -/
  | wfi (c : Fin 6) (f : RForm)
  /-- WFI_WAKE (R353). -/
  | wfiWake (n : Fin 2)
  /-- TRAP (R155). -/
  | trap (c : Fin 6) (f : RForm)
  /-- MFS (R156). -/
  | mfs (c : Fin 6) (f : IForm)
  /-- MTS (R156). -/
  | mts (c : Fin 6) (f : IForm)
  /-- SWAP (R157). -/
  | swap (c : Fin 6) (f : MForm)
  /-- AADD (R157). -/
  | aadd (c : Fin 6) (f : MForm)
  /-- CCLN (R157). -/
  | ccln (c : Fin 6) (f : MForm)
  /-- CINV (R157). -/
  | cinv (c : Fin 6) (f : MForm)
  /-- CCI (R157). -/
  | cci (c : Fin 6) (f : MForm)
  /-- ICINV (R157). -/
  | icinv (c : Fin 6) (f : MForm)
  /-- RECKONER_LAUNCH (R162). -/
  | reckonerLaunch (n : Fin 4) (k : Fin 8)
  /-- TASK_DISPATCH (R164). -/
  | taskDispatch (n : Fin 4)
  /-- TASK_END_RELEASE (R173). -/
  | taskEndRelease (n : Fin 4)
  /-- RELEASE_LANDING (R173). -/
  | releaseLanding (rks : BitVec 4) (sys : Bool)
  /-- DEADLINE_MISS (R167). -/
  | deadlineMiss (n : Fin 4)
  /-- RECKONER_ENABLE_WRITE (R163). -/
  | reckonerEnableWrite (n : Fin 4) (en : Bool)
  /-- ABORTNOW (R168). -/
  | abortnow (n : Fin 4)
  /-- BANK_SWAP_REQUEST (R176). -/
  | bankSwapRequest (n : Fin 4)
  /-- BANK_SWAP_CANCEL (R176). -/
  | bankSwapCancel (n : Fin 4)
  /-- CARRIER_ZERO (R189). -/
  | carrierZero (c : Fin 8)
  /-- CARRIER_PEAK (R189). -/
  | carrierPeak (c : Fin 8)
  /-- CARRIER_RESTART (R191). -/
  | carrierRestart (c : Fin 8)
  /-- PWM_RESTART_WRITE (R191). -/
  | pwmRestartWrite (mask : BitVec 8)
  /-- CARRIER_CFG_WRITE (R211). -/
  | carrierCfgWrite (c : Fin 8) (value : Word)
  /-- LOADALL_WRITE (R197). -/
  | loadallWrite (value : LoadallMask)
  /-- CARRIER_LOADALL_LAUNCH (R197). -/
  | carrierLoadallLaunch (c : Fin 8)
  /-- LOADCNCL_WRITE (R199). -/
  | loadcnclWrite (mask : BitVec 8)
  /-- SHADOW_WRITE_LAND (R200). -/
  | shadowWriteLand (shadow : Shadow) (value : Word) (sameCycle : Bool)
  /-- REF_EDGE (R192). -/
  | refEdge (n : Fin 48)
  /-- DEAD_TIME_END (R201). -/
  | deadTimeEnd (n : Fin 48)
  /-- LEG_OVR_WRITE (R203). -/
  | legOvrWrite (n : Fin 48) (value : Word)
  /-- LEG_CFG_WRITE (R211). -/
  | legCfgWrite (n : Fin 48) (value : Word)
  /-- FORCE_EVENT_ASSERT (R204). -/
  | forceEventAssert (e : ForceEvent)
  /-- FLTIN_ASSERT (R205). -/
  | fltinAssert (i : Fin 8)
  /-- FORCE_SAFE_ON (R206). -/
  | forceSafeOn (n : Fin 48)
  /-- FORCE_DOMAIN_CLEAR (R207). -/
  | forceDomainClear (k : Fin 8)
  /-- PWM_FREEZE (R208). -/
  | pwmFreeze
  /-- PWM_FREEZE_END (R208). -/
  | pwmFreezeEnd
  /-- MAXON_GUARD_TRIP (R209). -/
  | maxonGuardTrip (n : Fin 48)
  /-- DELAY_LINE_CALIBRATION (R194). -/
  | delayLineCalibration (n : Fin 48) (spans : Bool)
  /-- DRIVE_CODE_LAND (R223). -/
  | driveCodeLand (n : Fin 48) (value : Word) (sameCycle : Bool)
  /-- DSL_FRAME_SEND (R219). -/
  | dslFrameSend (k : Fin 12)
  /-- DSL_REFRESH_FRAME (R220). -/
  | dslRefreshFrame (k : Fin 12)
  /-- DRIVE_GROUP_CFG_WRITE (R221). -/
  | driveGroupCfgWrite (k : Fin 12) (value : Word)
  /-- PRIMING_BURST_END (R228). -/
  | primingBurstEnd (k : Fin 12)
  /-- BOOTSTRAP_REFRESH (R225). -/
  | bootstrapRefresh (n : Fin 48)
  /-- DRIVER_FAULT_REPORT (R227). -/
  | driverFaultReport (k : Fin 12) (legs : BitVec 4)
  /-- DRIVER_FAULT_CLASSIFY (R227). -/
  | driverFaultClassify (leg : Seen (Fin 12) (Fin 4)) (width : Option (BitVec 17))
  /-- RETRY_WAIT_END (R228). -/
  | retryWaitEnd (k : Fin 12) (fltn : BitVec 4)
  /-- TRY_WINDOW_EXPIRE (R228). -/
  | tryWindowExpire (k : Fin 12)
  /-- DRIVE_CLEAR (R229). -/
  | driveClear (k : Fin 12) (fltn : BitVec 4)
  /-- GRID_UPDATE_ISSUE (R236). -/
  | gridUpdateIssue (g : Fin 4) (q : GridUpdate)
  /-- SEQ_INPUT_SAMPLE (R245). -/
  | seqInputSample (g : Fin 4) (j : Fin 6) (line : List MdatPeriod)
  /-- STAGE_LATCH (R246). -/
  | stageLatch (k : Fin 16)
  /-- EXCURSION_RETURN_EXPIRE (R251). -/
  | excursionReturnExpire (c : Fin 4)
  /-- CURVE_TIME_EXPIRE (R251). -/
  | curveTimeExpire (c : Fin 4)
  /-- PROT_UPDATE_TIMEOUT (R247). -/
  | protUpdateTimeout
  /-- PROT_SWTRIP (R245). -/
  | protSwtrip
  /-- TRIP_LATCH_CLEAR (R248). -/
  | tripLatchClear (mask : BitVec 16)
  /-- DC_ARM (R254). -/
  | dcArm
  /-- DC_SOFTWARE_TRIGGER (R255). -/
  | dcSoftwareTrigger
  /-- DC_FRAME (R254). -/
  | dcFrame
  /-- DC_POST_COMPLETE (R256). -/
  | dcPostComplete
  /-- DC_COPY_COMPLETE (R256). -/
  | dcCopyComplete
  /-- DC_CFG_WRITE (R262). -/
  | dcCfgWrite (k : Fin 8) (reg : DcCfgReg) (value : Word)
  /-- SWEEP_GO (R266). -/
  | sweepGo (k : Fin 8)
  /-- SWEEP_STOP (R270). -/
  | sweepStop (k : Fin 8)
  /-- SWEEP_STEP_START (R267). -/
  | sweepStepStart (k : Fin 8)
  /-- SWEEP_ENTRY_WRITE (R268). -/
  | sweepEntryWrite (k : Fin 8)
  /-- SWEEP_NO_ZERO_TIMEOUT (R270). -/
  | sweepNoZeroTimeout (k : Fin 8)
  /-- NIGHT_ENTER (R272). -/
  | nightEnter (k : Fin 8)
  /-- WAKE_DETECT (R272). -/
  | wakeDetect (k : Fin 8)
  /-- PROBE_CHIP_STEP (R279). -/
  | probeChipStep
  /-- PROBE_STEP_MISS (R279). -/
  | probeStepMiss
  /-- PROBE_PERIOD_RESULT (R283). -/
  | probePeriodResult
  /-- ISL_CLEAR (R286). -/
  | islClear
  /-- METER_SAMPLE (R296). -/
  | meterSample (x : Vector MeterSample 4)
  /-- METER_WINDOW_END (R303). -/
  | meterWindowEnd (p : Fin 4) (x : MeterSample)
  /-- METER_SNAPSHOT (R311). -/
  | meterSnapshot (p : Fin 4) (byLaunch : Bool)
  /-- METER_SNAPSHOT_WRITTEN (R311). -/
  | meterSnapshotWritten (p : Fin 4)
  /-- METER_PULSE_START (R313). -/
  | meterPulseStart (q : Fin 4)
  /-- METER_PULSE_END (R313). -/
  | meterPulseEnd (q : Fin 4)
  /-- METER_PERIODIC_SAVE (R315). -/
  | meterPeriodicSave
  /-- METER_SAVE_DONE (R315). -/
  | meterSaveDone (ok : Bool)
  /-- METER_TSG_WRITE (R308). -/
  | meterTsgWrite (value : Word)
  /-- SAFE_INPUT_CHANGE (R326). -/
  | safeInputChange (input : Fin 8) (chB : Bool) (change : HeldLevel)
  /-- TEST_PULSE_START (R329). -/
  | testPulseStart (onB : Bool) (rawA : BitVec 8) (rawB : BitVec 8)
  /-- TEST_PULSE_CHECK (R330). -/
  | testPulseCheck (onB : Bool) (rawA : BitVec 8) (rawB : BitVec 8)
  /-- SAFE_DISCREPANCY (R331). -/
  | safeDiscrepancy (i : Fin 8)
  /-- SAFE_READBACK_FAULT (R331). -/
  | safeReadbackFault (j : Fin 4) (chB : Bool)
  /-- SAFE_LOGIC_COMPARE_FAULT (R331). -/
  | safeLogicCompareFault
  /-- SAFE_OSC_FAULT (R331). -/
  | safeOscFault
  /-- SAFE_PWM_CLOCK_LOSS (R328). -/
  | safePwmClockLoss
  /-- SAFE_PWM_CLOCK_RETURN (R328). -/
  | safePwmClockReturn
  /-- SAFE_SUPPLY_DEMAND (R328). -/
  | safeSupplyDemand
  /-- SAFE_LOCKOUT_RECORD (R333). -/
  | safeLockoutRecord
  /-- SAFE_RESET_PULSE_START (R335). -/
  | safeResetPulseStart
  /-- SAFE_RESET_PROCEDURE (R335). -/
  | safeResetProcedure (widthUs : Nat) (selfTestOk : Bool)
  /-- SAFE_RESET_DONE (R335). -/
  | safeResetDone
  /-- SAFE_SELFTEST_DONE (R338). -/
  | safeSelftestDone (pass : Bool)
  /-- INTERRUPT_ENTRY (R352). -/
  | interruptEntry (n : Fin 2)
  /-- NMI_ENTRY (R352). -/
  | nmiEntry (n : Fin 2)
  /-- CMAINT_ICINV (R345). -/
  | cmaintIcinv (n : Fin 2)
  /-- CMAINT_CLEAN (R345). -/
  | cmaintClean (n : Fin 2)
  /-- CMAINT_DCINV (R345). -/
  | cmaintDcinv (n : Fin 2)
  /-- CACHE_MAINT_DONE (R345). -/
  | cacheMaintDone (n : Fin 2)
  /-- CACHE_MISS_FILL (R343). -/
  | cacheMissFill (n : Fin 2)
  /-- WRITE_BUFFER_ACCEPT (R346). -/
  | writeBufferAccept (n : Fin 2)
  /-- REMOTE_STORE_ERROR (R357). -/
  | remoteStoreError (n : Fin 2)
  /-- WATCHDOG_ENABLE (R358). -/
  | watchdogEnable (k : Fin 2)
  /-- WATCHDOG_KICK (R359). -/
  | watchdogKick (k : Fin 2) (key : Word)
  /-- WATCHDOG_STAGE1 (R359). -/
  | watchdogStage1 (k : Fin 2)
  /-- WATCHDOG_STAGE2 (R359). -/
  | watchdogStage2 (k : Fin 2)
  /-- HOST_READ (R361). -/
  | hostRead (addr : Word) (count : Byte) (inTime : Bool) (extra : BitVec 8)
  /-- HOST_WRITE (R362). -/
  | hostWrite (addr : Word) (words : List Word)
  /-- HOST_STATUS (R362). -/
  | hostStatus
  /-- HOST_READ_COMPLETE (R361). -/
  | hostReadComplete
  /-- DEBUG_HALT (R363). -/
  | debugHalt (c : Fin 6)
  /-- DEBUG_RESUME (R363). -/
  | debugResume (c : Fin 6)
  /-- DEBUG_STEP (R363). -/
  | debugStep (c : Fin 6)
  /-- DEBUG_REGISTER_ACCESS (R363). -/
  | debugRegisterAccess (c : Fin 6) (r : CoreReg) (value : Option (BitVec 72))
  /-- DEBUG_MEMORY_ACCESS (R363). -/
  | debugMemoryAccess (a : Access)
  /-- DEBUG_RESET (R363). -/
  | debugReset
  /-- JTAG_EXTEST (R505). -/
  | jtagExtest (captured : List Bool)
  /-- JTAG_SAMPLE_PRELOAD (R505). -/
  | jtagSamplePreload (captured : List Bool) (cells : List Bool)
  /-- JTAG_IDCODE (R505). -/
  | jtagIdcode
  /-- JTAG_CLAMP (R505). -/
  | jtagClamp
  /-- JTAG_HIGHZ (R505). -/
  | jtagHighz
  /-- JTAG_DEBUG (R505). -/
  | jtagDebug
  /-- JTAG_BYPASS (R505). -/
  | jtagBypass (code : BitVec 5)
  /-- DMA_START (R371). -/
  | dmaStart (ch : Fin 32)
  /-- DMA_STOP (R380). -/
  | dmaStop (ch : Fin 32)
  /-- DMA_RESUME (R372). -/
  | dmaResume (ch : Fin 32)
  /-- DMA_DESC_WRITE (R371). -/
  | dmaDescWrite (ch : Fin 32) (value : Word)
  /-- DMA_SWTRIG (R370). -/
  | dmaSwtrig (ch : Fin 32)
  /-- DMA_LAUNCH_TRIGGER (R376). -/
  | dmaLaunchTrigger (ch : Fin 32)
  /-- DMA_DESCRIPTOR_FETCH (R372). -/
  | dmaDescriptorFetch (ch : Fin 32)
  /-- DMA_BLOCK_END (R376). -/
  | dmaBlockEnd (ch : Fin 32)
  /-- DMA_DESCRIPTOR_COMPLETE (R378). -/
  | dmaDescriptorComplete (ch : Fin 32) (moved : BitVec 24)
  /-- LINK_ENABLE_WRITE (R389). -/
  | linkEnableWrite (l : Fin 4) (value : Word)
  /-- LINK_TRAIN (R389). -/
  | linkTrain (l : Fin 4)
  /-- LINK_TRAINING_COMPLETE (R389). -/
  | linkTrainingComplete (l : Fin 4) (lane0 : LaneScan) (lane1 : LaneScan)
  /-- LINK_TRAINING_FAIL (R389). -/
  | linkTrainingFail (l : Fin 4) (cause : TrainFail)
  /-- LINK_AUTO_RETRAIN (R389). -/
  | linkAutoRetrain (l : Fin 4)
  /-- CELL_IDLE (R396). -/
  | cellIdle (l : Fin 4) (line : LaneBits)
  /-- CELL_RDREQ (R402). -/
  | cellRdreq (l : Fin 4) (line : LaneBits)
  /-- CELL_RDRESP (R396). -/
  | cellRdresp (l : Fin 4) (line : LaneBits)
  /-- CELL_WR (R402). -/
  | cellWr (l : Fin 4) (line : LaneBits)
  /-- CELL_WRCMP (R402). -/
  | cellWrcmp (l : Fin 4) (line : LaneBits)
  /-- CELL_EVENT (R404). -/
  | cellEvent (l : Fin 4) (line : LaneBits)
  /-- CELL_STREAM (R409). -/
  | cellStream (l : Fin 4) (lane0 lane1 : List Bool)
  /-- CELL_TBX_REQ (R405). -/
  | cellTbxReq (l : Fin 4) (line : LaneBits)
  /-- CELL_TBX_RESP (R405). -/
  | cellTbxResp (l : Fin 4) (line : LaneBits)
  /-- CELL_TBX_FIN (R405). -/
  | cellTbxFin (l : Fin 4) (line : LaneBits)
  /-- CELL_MARK_REQUEST (R407). -/
  | cellMarkRequest (l : Fin 4) (line : LaneBits)
  /-- CELL_MARK_ECHO (R407). -/
  | cellMarkEcho (l : Fin 4) (line : LaneBits) (rtt : Word)
  /-- CELL_CRC_CLASS_ERROR (R397). -/
  | cellCrcClassError (l : Fin 4) (line : LaneBits)
  /-- NAK_HOLDOFF_EXPIRE (R398). -/
  | nakHoldoffExpire (l : Fin 4)
  /-- REPLAY_TIMEOUT (R399). -/
  | replayTimeout (l : Fin 4)
  /-- REMOTE_ACCESS_SEND (R401). -/
  | remoteAccessSend (l : Fin 4)
  /-- TIMEBASE_EXCHANGE_REQUEST (R405). -/
  | timebaseExchangeRequest (l : Fin 4)
  /-- STREAM_RAW_SEND (R408). -/
  | streamRawSend (l : Fin 4) (c : Fin 8) (g : Fin 7) (lines : Vector (List MdatPeriod) 8)
  /-- LINK_CLOCK_LOSS (R410). -/
  | linkClockLoss (l : Fin 4)
  /-- LINK_STUFF_VIOLATION (R393). -/
  | linkStuffViolation (line : Seen (Fin 4) LaneBits)
  /-- PRBS_INJECT (R412). -/
  | prbsInject (l : Fin 4) (lanes : BitVec 2)
  /-- PRBS_CFG_WRITE (R412). -/
  | prbsCfgWrite (l : Fin 4) (value : Word)
  /-- ETH_FRAME_RECEIVE (R420). -/
  | ethFrameReceive (p : Fin 2) (frame : List Byte) (bad : Bool) (residence : Word)
  /-- ETH_TX_KICK (R419). -/
  | ethTxKick (p : Fin 2)
  /-- ETH_TX_COMPLETE (R419). -/
  | ethTxComplete (p : Fin 2)
  /-- ETH_CFG_WRITE (R421). -/
  | ethCfgWrite (value : Word)
  /-- DUP_ENTRY_AGE (R422). -/
  | dupEntryAge
  /-- GOOSE_TAL_EXPIRE (R426). -/
  | gooseTalExpire (k : Fin 32)
  /-- PTP_RESIDENCE_TIMEOUT (R424). -/
  | ptpResidenceTimeout
  /-- SV_PUBLISH_REQUEST (R427). -/
  | svPublishRequest (n : Fin 2)
  /-- SV_FRAME_SEND (R427). -/
  | svFrameSend (n : Fin 2)
  /-- BOOT_ROM_SEQUENCE (R435). -/
  | bootRomSequence (otpOk : Bool)
  /-- ST1_ENTRY (R435). -/
  | st1Entry (addr : Word)
  /-- SEC_HASH (R441). -/
  | secHash
  /-- SEC_VERIFY (R441). -/
  | secVerify
  /-- SEC_ATTEST (R440). -/
  | secAttest
  /-- SEC_APPSIGN (R439). -/
  | secAppsign
  /-- SEC_ROLLADV (R438). -/
  | secRolladv
  /-- SEC_OTPOWNER (R438). -/
  | secOtpowner
  /-- SEC_REBOOT (R436). -/
  | secReboot
  /-- SEC_DBGCLOSE (R438). -/
  | secDbgclose
  /-- SEC_COMMAND_DONE (R441). -/
  | secCommandDone
  /-- TRNG_READ (R441). -/
  | trngRead (healthy : Bool)
  /-- CONSENT_OPEN (R444). -/
  | consentOpen (set : BitVec 3)
  /-- CONSENT_STAGING_WRITE (R446). -/
  | consentStagingWrite (i : BitVec 10) (value : Word)
  /-- CONSENT_REQUEST (R446). -/
  | consentRequest
  /-- CONSENT_DIGEST_DONE (R446). -/
  | consentDigestDone
  /-- CONSENT_APPROVE (R447). -/
  | consentApprove (key : Fin 4)
  /-- CONSENT_CHECK_DONE (R444). -/
  | consentCheckDone
  /-- CONSENT_CANCEL (R444). -/
  | consentCancel
  /-- PHYSICAL_CONSENT (R447). -/
  | physicalConsent
  /-- CONSENT_WINDOW_TIMEOUT (R444). -/
  | consentWindowTimeout
  /-- CONSENT_LOCK_END (R445). -/
  | consentLockEnd
  /-- CONSENT_SWITCHOVER (R448). -/
  | consentSwitchover
  /-- CONSENT_COUNTER_DURABLE (R448). -/
  | consentCounterDurable
  /-- CONSENT_RESTORE_DONE (R443). -/
  | consentRestoreDone
  /-- POWER_UP (R456). -/
  | powerUp (vinFell : Bool) (vio : Vector Supply 8)
  /-- RESET_RELEASE (R366). -/
  | resetRelease
  /-- HOLDUP_READY (R458). -/
  | holdupReady (mv : BitVec 16)
  /-- VIO_FAULT (R455). -/
  | vioFault (b : Fin 8)
  /-- POWER_FAIL_WARNING (R459). -/
  | powerFailWarning (rail : Bool)
  /-- STEWARD_WINDOW_END (R460). -/
  | stewardWindowEnd
  /-- SAVE_ENGINE_START (R461). -/
  | saveEngineStart
  /-- SAVE_CAPTURE_INSTANT (R461). -/
  | saveCaptureInstant
  /-- SAVE_COMPLETE (R460). -/
  | saveComplete
  /-- PMU_SLEEP (R473). -/
  | pmuSleep
  /-- SENTINEL_START (R467). -/
  | sentinelStart (fromVin : Bool)
  /-- SENTINEL_STOP (R467). -/
  | sentinelStop
  /-- SENTINEL_VIN_LOSS (R471). -/
  | sentinelVinLoss
  /-- SENTINEL_VIN_RETURN (R471). -/
  | sentinelVinReturn
  /-- LONG_DARKNESS (R469). -/
  | longDarkness (lstore : BitVec 16) (sstore : BitVec 16) (vbat : BitVec 16)
  /-- SENTINEL_RESUME (R469). -/
  | sentinelResume (lstore : BitVec 16)
  /-- LEDGER_BURST (R471). -/
  | ledgerBurst (sstore : BitVec 16) (words : Fin 9)
  /-- LEDGER_CHECKPOINT (R471). -/
  | ledgerCheckpoint
  /-- TAMPER_EVENT (R472). -/
  | tamperEvent (input : Seen (Fin 2) HeldLevel)
  /-- WAKE_INPUT (R473). -/
  | wakeInput
  /-- RTC_ALARM (R473). -/
  | rtcAlarm
  /-- RTCSET (R477). -/
  | rtcset
  /-- HV1_SAMPLE (R468). -/
  | hv1Sample (mv : BitVec 16)
  /-- MONITOR_VALUE (R479). -/
  | monitorValue (k : Fin 16) (cls : Fin 8)
  /-- MONITOR_WINDOW_LAUNCH (R481). -/
  | monitorWindowLaunch (w : Fin 4)
  /-- MONITOR_WINDOW_CLOSE (R481). -/
  | monitorWindowClose (w : Fin 4)
  /-- MONITOR_CLEAR (R482). -/
  | monitorClear (mask : BitVec 16)
  /-- MONITOR_MARK (R478). -/
  | monitorMark (k : Fin 16)
  /-- TELEMETRY_SAMPLE (R483). -/
  | telemetrySample (t : Telemetry)
  /-- SRAM_SCRUB (R484). -/
  | sramScrub (find : ScrubFind)
  /-- GPIO_SET (R507). -/
  | gpioSet (mask : BitVec 16)
  /-- GPIO_CLR (R507). -/
  | gpioClr (mask : BitVec 16)
  /-- TEST_PULSE_END (R329). -/
  | testPulseEnd (onB : Bool)
  /-- VIO_RETURN (R455). -/
  | vioReturn (b : Fin 8)
  /-- HOLDUP_MEASURE (R458). -/
  | holdupMeasure (rise : Word) (step : Word)
  /-- FLTIN_DEASSERT (R207). -/
  | fltinDeassert (i : Fin 8)
  /-- RGMII_INBAND_STATUS (R418). -/
  | rgmiiInbandStatus (p : Fin 2) (link : Bool) (speed : Fin 4)
  /-- TAMPER_INPUT_INACTIVE (R472). -/
  | tamperInputInactive (input : Seen (Fin 2) HeldLevel)
  deriving DecidableEq, Repr

end Sys2Proof
end

