-- ==== Sys2Proof/Decode.lean ====
section
/-! DEFINITION. The command that a word of the operation table spells, and the instruction that an instruction word spells:
its fields by format, its opcodes and function codes (R129–R131, R141, R143, R146, R147, R155, R157). -/
namespace Sys2Proof

/-- The operation table gives none of its rows any bits, so no word spells a command (log entry 5). -/
def decodeTableWord (_ _ : Nat) : Option Instr := none

/-! ### The fields of an instruction word (R129, R130) -/

/-- The `n` bits of an instruction word from bit `lo` on. -/
def insnField (w : Word) (lo n : Nat) : BitVec n := w.extractLsb' lo n

/-- R129: PRED. -/
def insnPred (w : Word) : BitVec 4 := insnField w 28 4

/-- R129: E. -/
def insnExt (w : Word) : Bool := w.getLsbD 27

/-- R129: OP. -/
def insnOp (w : Word) : Nat := (insnField w 21 6).toNat

/-- R129: the extension word `x`, if E is 1. -/
def insnExtWord (w x : Word) : Option Word := if insnExt w then some x else none

/-- R130: format R. -/
def RForm.ofWord (w : Word) : RForm :=
  { pred := insnPred w, e := insnExt w, rd := insnField w 17 4, ra := insnField w 13 4, rb := insnField w 9 4, res := insnField w 0 3 }

/-- R130: FN of format R. -/
def insnFn (w : Word) : Nat := (insnField w 3 6).toNat

/-- R130: format I. -/
def IForm.ofWord (w x : Word) : IForm :=
  { pred := insnPred w, rd := insnField w 17 4, ra := insnField w 13 4, imm := insnField w 0 13, ext := insnExtWord w x }

/-- R130: format M. -/
def MForm.ofWord (w x : Word) : MForm :=
  { pred := insnPred w, rd := insnField w 17 4, ab := (insnField w 14 3).toFin, am := insnField w 12 2, ofs := insnField w 0 12
    ext := insnExtWord w x }

/-- R130: format C. -/
def CForm.ofWord (w : Word) : CForm :=
  { pred := insnPred w, e := insnExt w, w := (insnField w 19 2).toFin, d := (insnField w 15 4).toFin
    ac := (insnField w 12 3).toFin, ax := (insnField w 9 3).toFin, ix := insnField w 4 2, ic := w.getLsbD 3, res := insnField w 0 3 }

/-- R130: FN of format C. -/
def insnFnC (w : Word) : Nat := (insnField w 6 3).toNat

/-- R130: format B. -/
def BForm.ofWord (w x : Word) : BForm := { pred := insnPred w, off := insnField w 0 21, ext := insnExtWord w x }

/-- R130: format L. -/
def LForm.ofWord (w : Word) : LForm :=
  { pred := insnPred w, e := insnExt w, lc := (insnField w 20 1).toFin, cr := w.getLsbD 19, stop := insnField w 8 11
    count := insnField w 0 8 }

/-- R130: format S. -/
def SForm.ofWord (w : Word) : SForm :=
  { pred := insnPred w, e := insnExt w, rd := (insnField w 17 4).toFin, p := (insnField w 15 2).toFin, res := insnField w 9 6
    cr := w.getLsbD 8, ch := insnField w 0 8 }

/-! ### The opcodes -/

/-- R141: the ALU group, by FN. -/
def aluOf (op : Nat) : Option (Fin 6 → RForm → Instr) :=
  List.lookup op [
    (0x00, .add), (0x01, .sub), (0x02, .adds), (0x03, .subs), (0x04, .andd), (0x05, .orr),
    (0x06, .xor), (0x07, .andn), (0x08, .shl), (0x09, .shr), (0x0A, .sra), (0x0B, .shls),
    (0x0C, .mul), (0x0D, .mulh), (0x0E, .mulhu), (0x0F, .mulq), (0x10, .div), (0x11, .divu),
    (0x12, .min), (0x13, .max), (0x14, .minu), (0x15, .maxu), (0x16, .abss), (0x17, .negs),
    (0x18, .clz), (0x19, .mov), (0x1A, .sel), (0x1C, .mda), (0x1D, .mad), (0x1E, .addar),
    (0x20, .cmpeq), (0x21, .cmpne), (0x22, .cmplt), (0x23, .cmple), (0x24, .cmpltu), (0x25, .cmpleu)]

/-- R143: the predicate group, by FN. -/
def predOf (op : Nat) : Option (Fin 6 → RForm → Instr) :=
  List.lookup op [
    (0x00, .pand), (0x01, .por), (0x02, .pxor), (0x03, .pandn), (0x04, .pnot), (0x05, .pset),
    (0x06, .movdp), (0x07, .movpd)]

/-- R147: the accumulator group, by FN. -/
def accOf (op : Nat) : Option (Fin 6 → RForm → Instr) :=
  List.lookup op [
    (0x00, .clrw), (0x01, .movw), (0x02, .addw), (0x03, .subw), (0x04, .negw), (0x05, .movqw),
    (0x06, .rdwl), (0x07, .rdwh), (0x08, .rdwg), (0x09, .wrwl), (0x0A, .wrwh), (0x0B, .wrwg),
    (0x0C, .macr), (0x0D, .msur)]

/-- R155: the SYS group, by FN. -/
def sysOf (op : Nat) : Option (Fin 6 → RForm → Instr) :=
  List.lookup op [
    (0x00, .nop), (0x01, .fence), (0x02, .tdone), (0x03, .bkpt), (0x04, .clrc), (0x05, .jr),
    (0x06, .callr), (0x07, .ret), (0x08, .endl), (0x09, .bswp), (0x10, .ei), (0x11, .di),
    (0x12, .reti), (0x13, .wfi), (0x14, .trap)]

/-- R146: the MAC group, by FN. -/
def macOf (op : Nat) : Option (Fin 6 → CForm → Instr) :=
  List.lookup op [
    (0x00, .macd), (0x01, .msud), (0x02, .macc), (0x03, .msuc)]

/-- R157: CACHE, by RD. -/
def cacheOf (op : Nat) : Option (Fin 6 → MForm → Instr) :=
  List.lookup op [
    (0x00, .ccln), (0x01, .cinv), (0x02, .cci), (0x03, .icinv)]

/-- R131: the instructions of format I, by OP. -/
def immOf (op : Nat) : Option (Fin 6 → IForm → Instr) :=
  List.lookup op [
    (0x05, .extr), (0x08, .addi), (0x09, .addsi), (0x0A, .andi), (0x0B, .ori), (0x0C, .xori),
    (0x0D, .shli), (0x0E, .shri), (0x0F, .srai), (0x10, .movi), (0x11, .muli), (0x12, .cmpeqi),
    (0x13, .cmplti), (0x14, .cmpltui), (0x15, .mova), (0x16, .adda), (0x31, .stg), (0x38, .mfs),
    (0x39, .mts)]

/-- R131: the instructions of format M with a mnemonic of their own, by OP. -/
def memOf (op : Nat) : Option (Fin 6 → MForm → Instr) :=
  List.lookup op [
    (0x18, .ldB), (0x19, .ldBu), (0x1A, .ldH), (0x1B, .ldHu), (0x1C, .ldW), (0x1D, .ldD),
    (0x1E, .lda), (0x20, .stB), (0x21, .stH), (0x22, .stW), (0x23, .stD), (0x24, .sta),
    (0x3C, .swap), (0x3D, .aadd)]

/-- R131: the instruction of core `c` that a word spells, `x` being the word after it; none: its OP or FN is reserved, which
raises ILLEGAL (R132). -/
def decodeInsn (c : Fin 6) (w x : Word) : Option Instr :=
  match insnOp w with
  | 0x00 => (sysOf (insnFn w)).map fun k => k c (.ofWord w)
  | 0x01 => (aluOf (insnFn w)).map fun k => k c (.ofWord w)
  | 0x02 => (predOf (insnFn w)).map fun k => k c (.ofWord w)
  | 0x03 => (accOf (insnFn w)).map fun k => k c (.ofWord w)
  | 0x04 => (macOf (insnFnC w)).map fun k => k c (.ofWord w)
  | 0x28 => some (.br c (.ofWord w x))
  | 0x29 => some (.call c (.ofWord w x))
  | 0x2A => some (.loop c (.ofWord w))
  | 0x30 => some (.smp c (.ofWord w))
  | 0x3E => (cacheOf (insnField w 17 4).toNat).map fun k => k c (.ofWord w x)
  | op =>
    match immOf op with
    | some k => some (k c (.ofWord w x))
    | none => (memOf op).map fun k => k c (.ofWord w x)

end Sys2Proof
end

