-- ==== Sys2Proof/Config.lean ====
section
/-! DEFINITION. What the spec leaves open: free values without a body, which no proof can see. -/
namespace Sys2Proof

/-- A value the spec leaves open; the argument is the state's counter of free values (log entry 1). -/
opaque Config.freeWord : Nat → BitVec 32

/-- R84, R99: the bit that a Manchester cell without its mid-cell transition gives, by its level: the spec states none (log
entry 14). -/
opaque Config.violationBit : Bool → Bool

/-- R432: SHA-512 of the Birwecel root public key, programmed at manufacture: byte k at bits 8k (log entry 1). -/
opaque Config.vrkh : BitVec 512

/-- R432: the device identity number, programmed at manufacture (log entry 1). -/
opaque Config.devid : BitVec 64

/-- R432: the identity seed, generated at manufacture: byte k at bits 8k (log entry 1). -/
opaque Config.idSeed : BitVec 256

/-- R358: a millisecond of watchdog 1's own oscillator, in tbu: the spec gives it to within ±20 % (log entry 56). -/
opaque Config.watchdogMs : Nat

/-- R296: the output of METER's resampler, whose taps the spec does not give, from the decimated samples that feed it: the
time of each from the sampling instant, and its value (log entry 54). -/
opaque Config.meterResampler : List (Int × Int) → Int

/-- R302: the output of METER's quadrature filter, whose taps the spec does not give, from a channel's latest samples, the
newest first (log entry 54). -/
opaque Config.meterQuadrature : List Int → Int

end Sys2Proof
end

