-- ==== Sys2Proof/Machine/RegMap.lean ====
section
/-! DEFINITION. The register map of every block: for each register of the spec's register tables its address
(`Reg`), its fields (`Fd`), the event counter of each write-one-to-clear flag (`Ev`, R9), and one access row
(`RegRow`) per register kind, from which the generic register access of R7, R8 and R10 is computed. -/
namespace Sys2Proof.Machine

/-- A field of a register: the register's address, the field's least significant bit and its width. -/
structure Fld where
  addr : Nat
  lo : Nat
  w : Nat
  deriving DecidableEq, Repr

/-- R9: a W1C flag with the address of its saturating event counter. -/
structure EvFlag where
  addr : Nat
  bit : Nat
  cnt : Nat
  deriving DecidableEq, Repr

/-- What a read does besides returning the value (R7): nothing, clear the register (a saturating counter), or latch
the high word into the HI register four bytes above (a count's or stamp's LO register). -/
inductive ReadKind where
  | plain | clear | latch
  deriving DecidableEq, Repr

/-- One register kind: address `base + s1*i + s2*j + s3*l` for `i < n1`, `j < n2`, `l < n3`; its reset value; the masks of its RW, W1C,
W1S and RWL bits; what a read does. A write changes RW and W1C bits only; W1S bits command, and RWL bits change only at a
consent switch-over (R8). -/
structure RegRow where
  base : Nat
  s1 : Nat
  n1 : Nat
  s2 : Nat
  n2 : Nat
  s3 : Nat
  n3 : Nat
  reset : Nat
  rw : Nat
  w1c : Nat
  w1s : Nat
  rwl : Nat
  rd : ReadKind
  deriving DecidableEq, Repr

/-! ### Addresses -/
namespace Reg
/-- R61: TBL_CTRL. -/
def TBL_CTRL : Nat := 0x40000000
/-- R61: TBL_STATUS. -/
def TBL_STATUS : Nat := 0x40000004
/-- R61: TBL_IRQEN. -/
def TBL_IRQEN : Nat := 0x40000008
/-- R61: TBL_NOW_LO. -/
def TBL_NOW_LO : Nat := 0x40000010
/-- R61: TBL_NOW_HI. -/
def TBL_NOW_HI : Nat := 0x40000014
/-- R61: TBL_ADDFRAC. -/
def TBL_ADDFRAC : Nat := 0x40000018
/-- R61: TBL_STEP_LO. -/
def TBL_STEP_LO : Nat := 0x40000020
/-- R61: TBL_STEP_HI. -/
def TBL_STEP_HI : Nat := 0x40000024
/-- R61: TBL_STEPCMD. -/
def TBL_STEPCMD : Nat := 0x40000028
/-- R61: TBL_ALIGN. -/
def TBL_ALIGN : Nat := 0x40000030
/-- R61: TBL_ALIGNTOL. -/
def TBL_ALIGNTOL : Nat := 0x40000034
/-- R61: TBL_EVCNT. -/
def TBL_EVCNT (n : Nat) : Nat := 0x40000040 + 0x4 * n
/-- R61: TBL_MERGECNT. -/
def TBL_MERGECNT : Nat := 0x40000060
/-- R61: TBL_SUPPRCNT. -/
def TBL_SUPPRCNT : Nat := 0x40000064
/-- R61: TBL_ROD_START_LO. -/
def TBL_ROD_START_LO (n : Nat) : Nat := 0x40000100 + 0x20 * n
/-- R61: TBL_ROD_START_HI. -/
def TBL_ROD_START_HI (n : Nat) : Nat := 0x40000104 + 0x20 * n
/-- R61: TBL_ROD_PER_LO. -/
def TBL_ROD_PER_LO (n : Nat) : Nat := 0x40000108 + 0x20 * n
/-- R61: TBL_ROD_PER_HI. -/
def TBL_ROD_PER_HI (n : Nat) : Nat := 0x4000010c + 0x20 * n
/-- R61: TBL_ROD_COUNT. -/
def TBL_ROD_COUNT (n : Nat) : Nat := 0x40000110 + 0x20 * n
/-- R61: TBL_ROD_CTRL. -/
def TBL_ROD_CTRL (n : Nat) : Nat := 0x40000114 + 0x20 * n
/-- R61: TBL_ROD_STATE. -/
def TBL_ROD_STATE (n : Nat) : Nat := 0x40000118 + 0x20 * n
/-- R61: TBL_ROD_SKIPCNT. -/
def TBL_ROD_SKIPCNT (n : Nat) : Nat := 0x4000011c + 0x20 * n
/-- R61: TBL_QTIME_LO. -/
def TBL_QTIME_LO : Nat := 0x40000400
/-- R61: TBL_QTIME_HI. -/
def TBL_QTIME_HI : Nat := 0x40000404
/-- R61: TBL_QTARGET. -/
def TBL_QTARGET : Nat := 0x40000408
/-- R61: TBL_QPUSH. -/
def TBL_QPUSH : Nat := 0x4000040c
/-- R61: TBL_QCANCEL. -/
def TBL_QCANCEL : Nat := 0x40000410
/-- R61: TBL_QSTATUS. -/
def TBL_QSTATUS : Nat := 0x40000414
/-- R61: TBL_QFLUSH. -/
def TBL_QFLUSH : Nat := 0x40000418
/-- R61: TBL_QCANMISSCNT. -/
def TBL_QCANMISSCNT : Nat := 0x4000041c
/-- R61: TBL_TGTSEL. -/
def TBL_TGTSEL (n : Nat) : Nat := 0x40000800 + 0x4 * n
/-- R61: TBL_FWD. -/
def TBL_FWD (n k : Nat) : Nat := 0x40000a00 + 0x20 * n + 0x4 * k
/-- R61: TBL_LFWDDLY. -/
def TBL_LFWDDLY (n : Nat) : Nat := 0x40000a80 + 0x4 * n
/-- R61: TBL_LFWDMEAS. -/
def TBL_LFWDMEAS (n : Nat) : Nat := 0x40000a90 + 0x4 * n
/-- R61: TBL_SWLAUNCH. -/
def TBL_SWLAUNCH : Nat := 0x40000e00
/-- R61: TBL_TRGIN_CFG. -/
def TBL_TRGIN_CFG (n : Nat) : Nat := 0x40000c00 + 0x10 * n
/-- R61: TBL_TRGIN_STAMP_LO. -/
def TBL_TRGIN_STAMP_LO (n : Nat) : Nat := 0x40000c04 + 0x10 * n
/-- R61: TBL_TRGIN_STAMP_HI. -/
def TBL_TRGIN_STAMP_HI (n : Nat) : Nat := 0x40000c08 + 0x10 * n
/-- R61: TBL_TRGOUT_CFG. -/
def TBL_TRGOUT_CFG (n : Nat) : Nat := 0x40000d00 + 0x4 * n
/-- R81: PLL_CTRL. -/
def PLL_CTRL : Nat := 0x40010000
/-- R81: PLL_STATUS. -/
def PLL_STATUS : Nat := 0x40010004
/-- R81: PLL_FLAGS. -/
def PLL_FLAGS : Nat := 0x40010008
/-- R81: PLL_IRQEN. -/
def PLL_IRQEN : Nat := 0x4001000c
/-- R81: PLL_EVCNT. -/
def PLL_EVCNT (n : Nat) : Nat := 0x40010010 + 0x4 * n
/-- R81: PLL_MCLKDIV. -/
def PLL_MCLKDIV (n : Nat) : Nat := 0x40010040 + 0x4 * n
/-- R81: PLL_UPDATE. -/
def PLL_UPDATE : Nat := 0x40010080
/-- R81: PLL_CKOUT. -/
def PLL_CKOUT (n : Nat) : Nat := 0x400100c0 + 0x4 * n
/-- R81: PLL_CKOUTSTAT. -/
def PLL_CKOUTSTAT : Nat := 0x40010100
/-- R213: PWM_CTRL. -/
def PWM_CTRL : Nat := 0x40020000
/-- R213: PWM_STATUS. -/
def PWM_STATUS : Nat := 0x40020004
/-- R213: PWM_GFLAGS. -/
def PWM_GFLAGS : Nat := 0x40020008
/-- R213: PWM_GIRQEN. -/
def PWM_GIRQEN : Nat := 0x4002000c
/-- R213: PWM_GEVCNT. -/
def PWM_GEVCNT (n : Nat) : Nat := 0x40020010 + 0x4 * n
/-- R213: PWM_LEGIRQEN. -/
def PWM_LEGIRQEN : Nat := 0x40020040
/-- R213: PWM_LEGPEND_LO. -/
def PWM_LEGPEND_LO : Nat := 0x40020044
/-- R213: PWM_LEGPEND_HI. -/
def PWM_LEGPEND_HI : Nat := 0x40020048
/-- R213: PWM_CALSTAT. -/
def PWM_CALSTAT : Nat := 0x40020050
/-- R213: PWM_RESTART. -/
def PWM_RESTART : Nat := 0x40020100
/-- R213: PWM_LOADALL. -/
def PWM_LOADALL : Nat := 0x40020104
/-- R213: PWM_LOADCNCL. -/
def PWM_LOADCNCL : Nat := 0x40020108
/-- R213: PWM_C_CFG. -/
def PWM_C_CFG (n : Nat) : Nat := 0x40020200 + 0x20 * n
/-- R213: PWM_C_PER. -/
def PWM_C_PER (n : Nat) : Nat := 0x40020204 + 0x20 * n
/-- R213: PWM_C_ACTPER. -/
def PWM_C_ACTPER (n : Nat) : Nat := 0x40020208 + 0x20 * n
/-- R213: PWM_C_CNT. -/
def PWM_C_CNT (n : Nat) : Nat := 0x4002020c + 0x20 * n
/-- R213: PWM_C_FLAGS. -/
def PWM_C_FLAGS (n : Nat) : Nat := 0x40020210 + 0x20 * n
/-- R213: PWM_C_IRQEN. -/
def PWM_C_IRQEN (n : Nat) : Nat := 0x40020214 + 0x20 * n
/-- R213: PWM_C_LOADCNT. -/
def PWM_C_LOADCNT (n : Nat) : Nat := 0x40020218 + 0x20 * n
/-- R213: PWM_C_EVCNT. -/
def PWM_C_EVCNT (n k : Nat) : Nat := 0x40020400 + 0x10 * n + 0x4 * k
/-- R213: PWM_LEG_CFG. -/
def PWM_LEG_CFG (n : Nat) : Nat := 0x40021000 + 0x40 * n
/-- R213: PWM_LEG_CMPA. -/
def PWM_LEG_CMPA (n : Nat) : Nat := 0x40021004 + 0x40 * n
/-- R213: PWM_LEG_CMPB. -/
def PWM_LEG_CMPB (n : Nat) : Nat := 0x40021008 + 0x40 * n
/-- R213: PWM_LEG_OFS. -/
def PWM_LEG_OFS (n : Nat) : Nat := 0x4002100c + 0x40 * n
/-- R213: PWM_LEG_DT. -/
def PWM_LEG_DT (n : Nat) : Nat := 0x40021010 + 0x40 * n
/-- R213: PWM_LEG_MINP. -/
def PWM_LEG_MINP (n : Nat) : Nat := 0x40021014 + 0x40 * n
/-- R213: PWM_LEG_ACTA. -/
def PWM_LEG_ACTA (n : Nat) : Nat := 0x40021018 + 0x40 * n
/-- R213: PWM_LEG_ACTB. -/
def PWM_LEG_ACTB (n : Nat) : Nat := 0x4002101c + 0x40 * n
/-- R213: PWM_LEG_ACTOFS. -/
def PWM_LEG_ACTOFS (n : Nat) : Nat := 0x40021020 + 0x40 * n
/-- R213: PWM_LEG_OVR. -/
def PWM_LEG_OVR (n : Nat) : Nat := 0x40021024 + 0x40 * n
/-- R213: PWM_LEG_GUARD. -/
def PWM_LEG_GUARD (n : Nat) : Nat := 0x40021028 + 0x40 * n
/-- R213: PWM_LEG_FLAGS. -/
def PWM_LEG_FLAGS (n : Nat) : Nat := 0x4002102c + 0x40 * n
/-- R213: PWM_LEG_STATE. -/
def PWM_LEG_STATE (n : Nat) : Nat := 0x40021030 + 0x40 * n
/-- R213: PWM_LEG_EVCNT. -/
def PWM_LEG_EVCNT (n k : Nat) : Nat := 0x40022000 + 0x10 * n + 0x4 * k
/-- R213: PWM_FMAPMOD. -/
def PWM_FMAPMOD (n : Nat) : Nat := 0x40020800 + 0x4 * n
/-- R213: PWM_FMAPFLT. -/
def PWM_FMAPFLT (n : Nat) : Nat := 0x40020880 + 0x4 * n
/-- R213: PWM_FMAPPROT. -/
def PWM_FMAPPROT : Nat := 0x40020888
/-- R213: PWM_FLTINCFG. -/
def PWM_FLTINCFG : Nat := 0x4002088c
/-- R213: PWM_FSTAT. -/
def PWM_FSTAT : Nat := 0x40020890
/-- R213: PWM_FEVCNT. -/
def PWM_FEVCNT (n : Nat) : Nat := 0x400208a0 + 0x4 * n
/-- R213: PWM_FEVCNTSYS. -/
def PWM_FEVCNTSYS : Nat := 0x400208c0
/-- R213: PWM_FEVCNTDBG. -/
def PWM_FEVCNTDBG : Nat := 0x400208c4
/-- R233: DRIVE_IRQSTAT. -/
def DRIVE_IRQSTAT : Nat := 0x40030000
/-- R233: DRIVE_G_CFG. -/
def DRIVE_G_CFG (n : Nat) : Nat := 0x40030100 + 0x40 * n
/-- R233: DRIVE_G_RETRY. -/
def DRIVE_G_RETRY (n : Nat) : Nat := 0x40030104 + 0x40 * n
/-- R233: DRIVE_G_CTRL. -/
def DRIVE_G_CTRL (n : Nat) : Nat := 0x40030108 + 0x40 * n
/-- R233: DRIVE_G_STAT. -/
def DRIVE_G_STAT (n : Nat) : Nat := 0x4003010c + 0x40 * n
/-- R233: DRIVE_G_FLAGS. -/
def DRIVE_G_FLAGS (n : Nat) : Nat := 0x40030110 + 0x40 * n
/-- R233: DRIVE_G_IRQEN. -/
def DRIVE_G_IRQEN (n : Nat) : Nat := 0x40030114 + 0x40 * n
/-- R233: DRIVE_G_WAITREM. -/
def DRIVE_G_WAITREM (n : Nat) : Nat := 0x40030118 + 0x40 * n
/-- R233: DRIVE_G_EVCNT. -/
def DRIVE_G_EVCNT (n k : Nat) : Nat := 0x40030400 + 0x20 * n + 0x4 * k
/-- R233: DRIVE_LEG_CODE. -/
def DRIVE_LEG_CODE (n : Nat) : Nat := 0x40031000 + 0x20 * n
/-- R233: DRIVE_LEG_SENT. -/
def DRIVE_LEG_SENT (n : Nat) : Nat := 0x40031004 + 0x20 * n
/-- R233: DRIVE_LEG_HS. -/
def DRIVE_LEG_HS (n : Nat) : Nat := 0x40031008 + 0x20 * n
/-- R233: DRIVE_LEG_RFCNT. -/
def DRIVE_LEG_RFCNT (n : Nat) : Nat := 0x4003100c + 0x20 * n
/-- R107: MODIN_IRQSTAT. -/
def MODIN_IRQSTAT : Nat := 0x40040000
/-- R107: MODIN_GFLAGS. -/
def MODIN_GFLAGS : Nat := 0x40040004
/-- R107: MODIN_GIRQEN. -/
def MODIN_GIRQEN : Nat := 0x40040008
/-- R107: MODIN_CFGERRCNT. -/
def MODIN_CFGERRCNT : Nat := 0x4004000c
/-- R107: MODIN_GCFG. -/
def MODIN_GCFG (n : Nat) : Nat := 0x40040100 + 0x40 * n
/-- R107: MODIN_GEXTDLY. -/
def MODIN_GEXTDLY (n : Nat) : Nat := 0x40040104 + 0x40 * n
/-- R107: MODIN_GSTAMP_LO. -/
def MODIN_GSTAMP_LO (n : Nat) : Nat := 0x40040108 + 0x40 * n
/-- R107: MODIN_GSTAMP_HI. -/
def MODIN_GSTAMP_HI (n : Nat) : Nat := 0x4004010c + 0x40 * n
/-- R107: MODIN_GRESCNT. -/
def MODIN_GRESCNT (n : Nat) : Nat := 0x40040110 + 0x40 * n
/-- R107: MODIN_GFLAGSG. -/
def MODIN_GFLAGSG (n : Nat) : Nat := 0x40040114 + 0x40 * n
/-- R107: MODIN_GIRQENG. -/
def MODIN_GIRQENG (n : Nat) : Nat := 0x40040118 + 0x40 * n
/-- R107: MODIN_GSTBOVFCNT. -/
def MODIN_GSTBOVFCNT (n : Nat) : Nat := 0x4004011c + 0x40 * n
/-- R107: MODIN_IN_CFG. -/
def MODIN_IN_CFG (n : Nat) : Nat := 0x40040400 + 0x20 * n
/-- R107: MODIN_IN_RES. -/
def MODIN_IN_RES (n : Nat) : Nat := 0x40040404 + 0x20 * n
/-- R107: MODIN_IN_FAST. -/
def MODIN_IN_FAST (n : Nat) : Nat := 0x40040408 + 0x20 * n
/-- R107: MODIN_IN_THHI. -/
def MODIN_IN_THHI (n : Nat) : Nat := 0x4004040c + 0x20 * n
/-- R107: MODIN_IN_THLO. -/
def MODIN_IN_THLO (n : Nat) : Nat := 0x40040410 + 0x20 * n
/-- R107: MODIN_IN_OCCFG. -/
def MODIN_IN_OCCFG (n : Nat) : Nat := 0x40040414 + 0x20 * n
/-- R107: MODIN_IN_FLAGS. -/
def MODIN_IN_FLAGS (n : Nat) : Nat := 0x40040418 + 0x20 * n
/-- R107: MODIN_IN_HCFG. -/
def MODIN_IN_HCFG (n : Nat) : Nat := 0x4004041c + 0x20 * n
/-- R107: MODIN_IN_EVCNT. -/
def MODIN_IN_EVCNT (n k : Nat) : Nat := 0x40041000 + 0x20 * n + 0x4 * k
/-- R126: ACU_CFG. -/
def ACU_CFG : Nat := 0x40050000
/-- R126: ACU_CMD. -/
def ACU_CMD : Nat := 0x40050004
/-- R126: ACU_CHSEL. -/
def ACU_CHSEL : Nat := 0x40050008
/-- R126: ACU_URGSEL. -/
def ACU_URGSEL : Nat := 0x4005000c
/-- R126: ACU_STATUS. -/
def ACU_STATUS : Nat := 0x40050010
/-- R126: ACU_FLAGS. -/
def ACU_FLAGS : Nat := 0x40050014
/-- R126: ACU_IRQEN. -/
def ACU_IRQEN : Nat := 0x40050018
/-- R126: ACU_RES. -/
def ACU_RES : Nat := 0x40050020
/-- R126: ACU_RESINFO. -/
def ACU_RESINFO : Nat := 0x40050024
/-- R126: ACU_URGRES. -/
def ACU_URGRES : Nat := 0x40050028
/-- R126: ACU_STAMP_LO. -/
def ACU_STAMP_LO : Nat := 0x40050030
/-- R126: ACU_STAMP_HI. -/
def ACU_STAMP_HI : Nat := 0x40050034
/-- R126: ACU_LISTCTRL. -/
def ACU_LISTCTRL : Nat := 0x40050038
/-- R126: ACU_EVCNT. -/
def ACU_EVCNT (n : Nat) : Nat := 0x40050040 + 0x4 * n
/-- R126: ACU_CALCH. -/
def ACU_CALCH : Nat := 0x40050080
/-- R126: ACU_CALREF. -/
def ACU_CALREF : Nat := 0x40050084
/-- R126: ACU_CAL_OFS. -/
def ACU_CAL_OFS (n : Nat) : Nat := 0x40050100 + 0x8 * n
/-- R126: ACU_CAL_GAIN. -/
def ACU_CAL_GAIN (n : Nat) : Nat := 0x40050104 + 0x8 * n
/-- R126: ACU_WIN_CFG. -/
def ACU_WIN_CFG (n : Nat) : Nat := 0x40050200 + 0x10 * n
/-- R126: ACU_WIN_LO. -/
def ACU_WIN_LO (n : Nat) : Nat := 0x40050204 + 0x10 * n
/-- R126: ACU_WIN_HI. -/
def ACU_WIN_HI (n : Nat) : Nat := 0x40050208 + 0x10 * n
/-- R126: ACU_WIN_HYST. -/
def ACU_WIN_HYST (n : Nat) : Nat := 0x4005020c + 0x10 * n
/-- R126: ACU_WINSTAT. -/
def ACU_WINSTAT : Nat := 0x40050300
/-- R126: ACU_WINIRQEN. -/
def ACU_WINIRQEN : Nat := 0x40050304
/-- R126: ACU_WINCNT. -/
def ACU_WINCNT (n : Nat) : Nat := 0x40050340 + 0x4 * n
/-- R126: ACU_LIST. -/
def ACU_LIST (n : Nat) : Nat := 0x40051000 + 0x4 * n
/-- R126: ACU_RESMEM. -/
def ACU_RESMEM (n : Nat) : Nat := 0x40052000 + 0x4 * n
/-- R324: METER_STATUS. -/
def METER_STATUS : Nat := 0x40060000
/-- R324: METER_FLAGS. -/
def METER_FLAGS : Nat := 0x40060004
/-- R324: METER_IRQEN. -/
def METER_IRQEN : Nat := 0x40060008
/-- R324: METER_SAVECFG. -/
def METER_SAVECFG : Nat := 0x4006000c
/-- R324: METER_SAVESEQ. -/
def METER_SAVESEQ : Nat := 0x40060010
/-- R324: METER_RINGIDX. -/
def METER_RINGIDX : Nat := 0x40060014
/-- R324: METER_LOSS. -/
def METER_LOSS (n : Nat) : Nat := 0x40060018 + 0x4 * n
/-- R324: METER_TSGCFG. -/
def METER_TSGCFG : Nat := 0x40060028
/-- R324: METER_TSGV. -/
def METER_TSGV : Nat := 0x4006002c
/-- R324: METER_TSGI. -/
def METER_TSGI : Nat := 0x40060030
/-- R324: METER_TSGPH. -/
def METER_TSGPH : Nat := 0x40060034
/-- R324: METER_TSGF. -/
def METER_TSGF : Nat := 0x40060038
/-- R324: METER_EVCNT. -/
def METER_EVCNT (n : Nat) : Nat := 0x40060040 + 0x4 * n
/-- R324: METER_PLS_CFG. -/
def METER_PLS_CFG (n : Nat) : Nat := 0x40060080 + 0x10 * n
/-- R324: METER_PLS_KP. -/
def METER_PLS_KP (n : Nat) : Nat := 0x40060084 + 0x10 * n
/-- R324: METER_PLS_WIDTH. -/
def METER_PLS_WIDTH (n : Nat) : Nat := 0x40060088 + 0x10 * n
/-- R324: METER_PLS_STAT. -/
def METER_PLS_STAT (n : Nat) : Nat := 0x4006008c + 0x10 * n
/-- R324: METER_PLS_DROPCNT. -/
def METER_PLS_DROPCNT (n : Nat) : Nat := 0x400600c0 + 0x4 * n
/-- R324: METER_MP_CFG. -/
def METER_MP_CFG (n : Nat) : Nat := 0x40060100 + 0x40 * n
/-- R324: METER_MP_VIN. -/
def METER_MP_VIN (n : Nat) : Nat := 0x40060104 + 0x40 * n
/-- R324: METER_MP_IIN. -/
def METER_MP_IIN (n : Nat) : Nat := 0x40060108 + 0x40 * n
/-- R324: METER_MP_PFS. -/
def METER_MP_PFS (n : Nat) : Nat := 0x4006010c + 0x40 * n
/-- R324: METER_MP_INOM. -/
def METER_MP_INOM (n : Nat) : Nat := 0x40060110 + 0x40 * n
/-- R324: METER_MP_STRT. -/
def METER_MP_STRT (n : Nat) : Nat := 0x40060114 + 0x40 * n
/-- R324: METER_MP_STATUS. -/
def METER_MP_STATUS (n : Nat) : Nat := 0x40060118 + 0x40 * n
/-- R324: METER_MP_MISSCNT. -/
def METER_MP_MISSCNT (n : Nat) : Nat := 0x4006011c + 0x40 * n
/-- R324: METER_MP_CMD. -/
def METER_MP_CMD (n : Nat) : Nat := 0x40060120 + 0x40 * n
/-- R324: METER_CH_OFS. -/
def METER_CH_OFS (n k : Nat) : Nat := 0x40061000 + 0x400 * n + 0x80 * k
/-- R324: METER_CH_BND. -/
def METER_CH_BND (n k j : Nat) : Nat := 0x40061004 + 0x400 * n + 0x80 * k + 0x4 * j
/-- R324: METER_CH_GAIN. -/
def METER_CH_GAIN (n k j : Nat) : Nat := 0x40061020 + 0x400 * n + 0x80 * k + 0x8 * j
/-- R324: METER_CH_DLY. -/
def METER_CH_DLY (n k j : Nat) : Nat := 0x40061024 + 0x400 * n + 0x80 * k + 0x8 * j
/-- R324: METER_E_LO. -/
def METER_E_LO (n k : Nat) : Nat := 0x40062000 + 0x400 * n + 0x10 * k
/-- R324: METER_E_HI. -/
def METER_E_HI (n k : Nat) : Nat := 0x40062004 + 0x400 * n + 0x10 * k
/-- R324: METER_E_FRAC. -/
def METER_E_FRAC (n k : Nat) : Nat := 0x40062008 + 0x400 * n + 0x10 * k
/-- R324: METER_SNAP_LO. -/
def METER_SNAP_LO (n k : Nat) : Nat := 0x40062200 + 0x400 * n + 0x10 * k
/-- R324: METER_SNAP_HI. -/
def METER_SNAP_HI (n k : Nat) : Nat := 0x40062204 + 0x400 * n + 0x10 * k
/-- R324: METER_SNAP_FRAC. -/
def METER_SNAP_FRAC (n k : Nat) : Nat := 0x40062208 + 0x400 * n + 0x10 * k
/-- R324: METER_SNAPSTAMP_LO. -/
def METER_SNAPSTAMP_LO (n : Nat) : Nat := 0x400623e0 + 0x400 * n
/-- R324: METER_SNAPSTAMP_HI. -/
def METER_SNAPSTAMP_HI (n : Nat) : Nat := 0x400623e4 + 0x400 * n
/-- R324: METER_SNAPSEQ. -/
def METER_SNAPSEQ (n : Nat) : Nat := 0x400623e8 + 0x400 * n
/-- R324: METER_WINRES. -/
def METER_WINRES (n k : Nat) : Nat := 0x40063000 + 0x100 * n + 0x4 * k
/-- R324: METER_HARM. -/
def METER_HARM (n k j : Nat) : Nat := 0x40064000 + 0x800 * n + 0xc8 * k + 0x4 * j
/-- R259: SEQ_IRQSTAT. -/
def SEQ_IRQSTAT : Nat := 0x40070000
/-- R259: SEQ_GP_CFG. -/
def SEQ_GP_CFG (n : Nat) : Nat := 0x40070100 + 0x80 * n
/-- R259: SEQ_GP_IN0. -/
def SEQ_GP_IN0 (n : Nat) : Nat := 0x40070104 + 0x80 * n
/-- R259: SEQ_GP_IN1. -/
def SEQ_GP_IN1 (n : Nat) : Nat := 0x40070108 + 0x80 * n
/-- R259: SEQ_GP_NOMV. -/
def SEQ_GP_NOMV (n : Nat) : Nat := 0x4007010c + 0x80 * n
/-- R259: SEQ_GP_NOMI. -/
def SEQ_GP_NOMI (n : Nat) : Nat := 0x40070110 + 0x80 * n
/-- R259: SEQ_GP_NOMF. -/
def SEQ_GP_NOMF (n : Nat) : Nat := 0x40070114 + 0x80 * n
/-- R259: SEQ_GP_TRK. -/
def SEQ_GP_TRK (n : Nat) : Nat := 0x40070118 + 0x80 * n
/-- R259: SEQ_GP_AVG. -/
def SEQ_GP_AVG (n : Nat) : Nat := 0x4007011c + 0x80 * n
/-- R259: SEQ_GP_V2DET. -/
def SEQ_GP_V2DET (n : Nat) : Nat := 0x40070120 + 0x80 * n
/-- R259: SEQ_GP_FREF. -/
def SEQ_GP_FREF (n : Nat) : Nat := 0x40070124 + 0x80 * n
/-- R259: SEQ_GP_STATUS. -/
def SEQ_GP_STATUS (n : Nat) : Nat := 0x40070128 + 0x80 * n
/-- R259: SEQ_GP_FLAGS. -/
def SEQ_GP_FLAGS (n : Nat) : Nat := 0x4007012c + 0x80 * n
/-- R259: SEQ_GP_IRQEN. -/
def SEQ_GP_IRQEN (n : Nat) : Nat := 0x40070130 + 0x80 * n
/-- R259: SEQ_GP_UPDCNT. -/
def SEQ_GP_UPDCNT (n : Nat) : Nat := 0x40070134 + 0x80 * n
/-- R259: SEQ_GP_STAMP_LO. -/
def SEQ_GP_STAMP_LO (n : Nat) : Nat := 0x40070138 + 0x80 * n
/-- R259: SEQ_GP_STAMP_HI. -/
def SEQ_GP_STAMP_HI (n : Nat) : Nat := 0x4007013c + 0x80 * n
/-- R259: SEQ_GP_EVCNT. -/
def SEQ_GP_EVCNT (n k : Nat) : Nat := 0x40070140 + 0x80 * n + 0x4 * k
/-- R259: SEQ_GP_CH. -/
def SEQ_GP_CH (n k : Nat) : Nat := 0x40071000 + 0x100 * n + 0x4 * k
/-- R294: PROBE_CFG. -/
def PROBE_CFG : Nat := 0x40080000
/-- R294: PROBE_AMP. -/
def PROBE_AMP : Nat := 0x40080004
/-- R294: PROBE_CHIPLEN. -/
def PROBE_CHIPLEN : Nat := 0x40080008
/-- R294: PROBE_GUARD. -/
def PROBE_GUARD : Nat := 0x4008000c
/-- R294: PROBE_ZTHR. -/
def PROBE_ZTHR : Nat := 0x40080010
/-- R294: PROBE_CMDADDR. -/
def PROBE_CMDADDR : Nat := 0x40080014
/-- R294: PROBE_XCODE0. -/
def PROBE_XCODE0 : Nat := 0x40080018
/-- R294: PROBE_XCODE1. -/
def PROBE_XCODE1 : Nat := 0x4008001c
/-- R294: PROBE_STATUS. -/
def PROBE_STATUS : Nat := 0x40080020
/-- R294: PROBE_FLAGS. -/
def PROBE_FLAGS : Nat := 0x40080024
/-- R294: PROBE_IRQEN. -/
def PROBE_IRQEN : Nat := 0x40080028
/-- R294: PROBE_CLR. -/
def PROBE_CLR : Nat := 0x4008002c
/-- R294: PROBE_PERNUM. -/
def PROBE_PERNUM : Nat := 0x40080030
/-- R294: PROBE_ZR. -/
def PROBE_ZR : Nat := 0x40080034
/-- R294: PROBE_ZX. -/
def PROBE_ZX : Nat := 0x40080038
/-- R294: PROBE_ZMAG. -/
def PROBE_ZMAG : Nat := 0x4008003c
/-- R294: PROBE_PCAUSE. -/
def PROBE_PCAUSE : Nat := 0x40080040
/-- R294: PROBE_APPLIED. -/
def PROBE_APPLIED (n : Nat) : Nat := 0x40080050 + 0x4 * n
/-- R294: PROBE_XRESP. -/
def PROBE_XRESP (n : Nat) : Nat := 0x40080064 + 0x4 * n
/-- R294: PROBE_EVCNT. -/
def PROBE_EVCNT (n : Nat) : Nat := 0x40080080 + 0x4 * n
/-- R260: PROT_STATUS. -/
def PROT_STATUS : Nat := 0x40090000
/-- R260: PROT_FLAGS. -/
def PROT_FLAGS : Nat := 0x40090004
/-- R260: PROT_IRQEN. -/
def PROT_IRQEN : Nat := 0x40090008
/-- R260: PROT_PICKUP. -/
def PROT_PICKUP : Nat := 0x4009000c
/-- R260: PROT_TRIPLAT. -/
def PROT_TRIPLAT : Nat := 0x40090010
/-- R260: PROT_CMD. -/
def PROT_CMD : Nat := 0x40090014
/-- R260: PROT_TRIPCFG. -/
def PROT_TRIPCFG : Nat := 0x40090018
/-- R260: PROT_RTCFG. -/
def PROT_RTCFG : Nat := 0x4009001c
/-- R260: PROT_RTVCONT. -/
def PROT_RTVCONT : Nat := 0x40090020
/-- R260: PROT_RTFCONT. -/
def PROT_RTFCONT : Nat := 0x40090024
/-- R260: PROT_RTTIME. -/
def PROT_RTTIME (n : Nat) : Nat := 0x40090030 + 0x4 * n
/-- R260: PROT_EVCNT. -/
def PROT_EVCNT (n : Nat) : Nat := 0x40090040 + 0x4 * n
/-- R260: PROT_PRESET. -/
def PROT_PRESET (n : Nat) : Nat := 0x40090060 + 0x4 * n
/-- R260: PROT_LATCNT. -/
def PROT_LATCNT (n : Nat) : Nat := 0x40090080 + 0x4 * n
/-- R260: PROT_STG_CFG. -/
def PROT_STG_CFG (n : Nat) : Nat := 0x40090100 + 0x10 * n
/-- R260: PROT_STG_TIME. -/
def PROT_STG_TIME (n : Nat) : Nat := 0x40090104 + 0x10 * n
/-- R260: PROT_STG_STATE. -/
def PROT_STG_STATE (n : Nat) : Nat := 0x40090108 + 0x10 * n
/-- R260: PROT_RT_W0. -/
def PROT_RT_W0 (n k : Nat) : Nat := 0x40090400 + 0x80 * n + 0x8 * k
/-- R260: PROT_RT_W1. -/
def PROT_RT_W1 (n k : Nat) : Nat := 0x40090404 + 0x80 * n + 0x8 * k
/-- R260: PROT_DCCFG. -/
def PROT_DCCFG : Nat := 0x40090800
/-- R260: PROT_DCCH. -/
def PROT_DCCH (n : Nat) : Nat := 0x40090804 + 0x4 * n
/-- R260: PROT_DCTRIG. -/
def PROT_DCTRIG : Nat := 0x40090814
/-- R260: PROT_DCPRE. -/
def PROT_DCPRE : Nat := 0x40090818
/-- R260: PROT_DCPOST. -/
def PROT_DCPOST : Nat := 0x4009081c
/-- R260: PROT_DCBUF. -/
def PROT_DCBUF : Nat := 0x40090820
/-- R260: PROT_DCBUFLEN. -/
def PROT_DCBUFLEN : Nat := 0x40090824
/-- R260: PROT_DCMBASE. -/
def PROT_DCMBASE : Nat := 0x40090828
/-- R260: PROT_DCMLEN. -/
def PROT_DCMLEN : Nat := 0x4009082c
/-- R260: PROT_DCSTAT. -/
def PROT_DCSTAT : Nat := 0x40090830
/-- R260: PROT_DCLAST. -/
def PROT_DCLAST : Nat := 0x40090834
/-- R260: PROT_DCCNT. -/
def PROT_DCCNT : Nat := 0x40090838
/-- R122: ACUX_CAL_OFS. -/
def ACUX_CAL_OFS (n : Nat) : Nat := 0x140050200 + 0x8 * n
/-- R122: ACUX_CAL_GAIN. -/
def ACUX_CAL_GAIN (n : Nat) : Nat := 0x140050204 + 0x8 * n
/-- R385: DMA_CTRL. -/
def DMA_CTRL : Nat := 0x400a0000
/-- R385: DMA_IRQSTAT. -/
def DMA_IRQSTAT : Nat := 0x400a0004
/-- R385: DMA_TAGS. -/
def DMA_TAGS : Nat := 0x400a0008
/-- R385: DMA_CH_CTRL. -/
def DMA_CH_CTRL (n : Nat) : Nat := 0x400a0100 + 0x40 * n
/-- R385: DMA_CH_CFG. -/
def DMA_CH_CFG (n : Nat) : Nat := 0x400a0104 + 0x40 * n
/-- R385: DMA_CH_DESC. -/
def DMA_CH_DESC (n : Nat) : Nat := 0x400a0108 + 0x40 * n
/-- R385: DMA_CH_STAT. -/
def DMA_CH_STAT (n : Nat) : Nat := 0x400a010c + 0x40 * n
/-- R385: DMA_CH_FLAGS. -/
def DMA_CH_FLAGS (n : Nat) : Nat := 0x400a0110 + 0x40 * n
/-- R385: DMA_CH_IRQEN. -/
def DMA_CH_IRQEN (n : Nat) : Nat := 0x400a0114 + 0x40 * n
/-- R385: DMA_CH_SWTRIG. -/
def DMA_CH_SWTRIG (n : Nat) : Nat := 0x400a0118 + 0x40 * n
/-- R385: DMA_CH_LASTST. -/
def DMA_CH_LASTST (n : Nat) : Nat := 0x400a011c + 0x40 * n
/-- R385: DMA_CH_DONECNT. -/
def DMA_CH_DONECNT (n : Nat) : Nat := 0x400a0120 + 0x40 * n
/-- R385: DMA_CH_EVCNT. -/
def DMA_CH_EVCNT (n k : Nat) : Nat := 0x400a1000 + 0x20 * n + 0x4 * k
/-- R417: LINK_IRQSTAT. -/
def LINK_IRQSTAT : Nat := 0x400b0000
/-- R417: LINK_L_CTRL. -/
def LINK_L_CTRL (n : Nat) : Nat := 0x400b0100 + 0x100 * n
/-- R417: LINK_L_STATUS. -/
def LINK_L_STATUS (n : Nat) : Nat := 0x400b0104 + 0x100 * n
/-- R417: LINK_L_FLAGS. -/
def LINK_L_FLAGS (n : Nat) : Nat := 0x400b0108 + 0x100 * n
/-- R417: LINK_L_IRQEN. -/
def LINK_L_IRQEN (n : Nat) : Nat := 0x400b010c + 0x100 * n
/-- R417: LINK_L_EQ. -/
def LINK_L_EQ (n : Nat) : Nat := 0x400b0110 + 0x100 * n
/-- R417: LINK_L_ASYM. -/
def LINK_L_ASYM (n : Nat) : Nat := 0x400b0114 + 0x100 * n
/-- R417: LINK_L_MARGIN. -/
def LINK_L_MARGIN (n : Nat) : Nat := 0x400b0118 + 0x100 * n
/-- R417: LINK_L_RTT. -/
def LINK_L_RTT (n : Nat) : Nat := 0x400b011c + 0x100 * n
/-- R417: LINK_L_CRCCNT. -/
def LINK_L_CRCCNT (n : Nat) : Nat := 0x400b0120 + 0x100 * n
/-- R417: LINK_L_REPLAYCNT. -/
def LINK_L_REPLAYCNT (n : Nat) : Nat := 0x400b0124 + 0x100 * n
/-- R417: LINK_L_DUPCNT. -/
def LINK_L_DUPCNT (n : Nat) : Nat := 0x400b0128 + 0x100 * n
/-- R417: LINK_L_PRBS. -/
def LINK_L_PRBS (n : Nat) : Nat := 0x400b0130 + 0x100 * n
/-- R417: LINK_L_PRBSERR. -/
def LINK_L_PRBSERR (n k : Nat) : Nat := 0x400b0134 + 0x100 * n + 0x4 * k
/-- R417: LINK_L_EVCNT. -/
def LINK_L_EVCNT (n k : Nat) : Nat := 0x400b0140 + 0x100 * n + 0x4 * k
/-- R417: LINK_STX_CFG. -/
def LINK_STX_CFG (n k : Nat) : Nat := 0x400b1000 + 0x200 * n + 0x20 * k
/-- R417: LINK_SRX_CFG. -/
def LINK_SRX_CFG (n k : Nat) : Nat := 0x400b1004 + 0x200 * n + 0x20 * k
/-- R417: LINK_SRX_BASE. -/
def LINK_SRX_BASE (n k : Nat) : Nat := 0x400b1008 + 0x200 * n + 0x20 * k
/-- R417: LINK_SRX_LEN. -/
def LINK_SRX_LEN (n k : Nat) : Nat := 0x400b100c + 0x200 * n + 0x20 * k
/-- R417: LINK_SRX_WPTR. -/
def LINK_SRX_WPTR (n k : Nat) : Nat := 0x400b1010 + 0x200 * n + 0x20 * k
/-- R417: LINK_SRX_CNT. -/
def LINK_SRX_CNT (n k : Nat) : Nat := 0x400b1014 + 0x200 * n + 0x20 * k
/-- R431: ETH_CFG. -/
def ETH_CFG : Nat := 0x400c0000
/-- R431: ETH_STATUS. -/
def ETH_STATUS : Nat := 0x400c0004
/-- R431: ETH_FLAGS. -/
def ETH_FLAGS : Nat := 0x400c0008
/-- R431: ETH_IRQEN. -/
def ETH_IRQEN : Nat := 0x400c000c
/-- R431: ETH_DUPFILL. -/
def ETH_DUPFILL : Nat := 0x400c0010
/-- R431: ETH_GDROP. -/
def ETH_GDROP : Nat := 0x400c0014
/-- R431: ETH_EVCNT. -/
def ETH_EVCNT (n : Nat) : Nat := 0x400c0040 + 0x4 * n
/-- R431: ETH_P_CTRL. -/
def ETH_P_CTRL (n : Nat) : Nat := 0x400c0100 + 0x80 * n
/-- R431: ETH_P_MACLO. -/
def ETH_P_MACLO (n : Nat) : Nat := 0x400c0104 + 0x80 * n
/-- R431: ETH_P_MACHI. -/
def ETH_P_MACHI (n : Nat) : Nat := 0x400c0108 + 0x80 * n
/-- R431: ETH_P_RXBASE. -/
def ETH_P_RXBASE (n : Nat) : Nat := 0x400c010c + 0x80 * n
/-- R431: ETH_P_TXBASE. -/
def ETH_P_TXBASE (n : Nat) : Nat := 0x400c0110 + 0x80 * n
/-- R431: ETH_P_RXCNT. -/
def ETH_P_RXCNT (n : Nat) : Nat := 0x400c0114 + 0x80 * n
/-- R431: ETH_P_TXCNT. -/
def ETH_P_TXCNT (n : Nat) : Nat := 0x400c0118 + 0x80 * n
/-- R431: ETH_P_RXBUFSZ. -/
def ETH_P_RXBUFSZ (n : Nat) : Nat := 0x400c011c + 0x80 * n
/-- R431: ETH_P_RXIDX. -/
def ETH_P_RXIDX (n : Nat) : Nat := 0x400c0120 + 0x80 * n
/-- R431: ETH_P_TXIDX. -/
def ETH_P_TXIDX (n : Nat) : Nat := 0x400c0124 + 0x80 * n
/-- R431: ETH_P_TXKICK. -/
def ETH_P_TXKICK (n : Nat) : Nat := 0x400c0128 + 0x80 * n
/-- R431: ETH_P_TXLAT. -/
def ETH_P_TXLAT (n : Nat) : Nat := 0x400c012c + 0x80 * n
/-- R431: ETH_P_RXLAT. -/
def ETH_P_RXLAT (n : Nat) : Nat := 0x400c0130 + 0x80 * n
/-- R431: ETH_P_PDELAY. -/
def ETH_P_PDELAY (n : Nat) : Nat := 0x400c0134 + 0x80 * n
/-- R431: ETH_P_RXFRM. -/
def ETH_P_RXFRM (n : Nat) : Nat := 0x400c0140 + 0x80 * n
/-- R431: ETH_P_RXDROP. -/
def ETH_P_RXDROP (n : Nat) : Nat := 0x400c0144 + 0x80 * n
/-- R431: ETH_P_TXFRM. -/
def ETH_P_TXFRM (n : Nat) : Nat := 0x400c0148 + 0x80 * n
/-- R431: ETH_GF_MACLO. -/
def ETH_GF_MACLO (n : Nat) : Nat := 0x400c0400 + 0x10 * n
/-- R431: ETH_GF_MACHI. -/
def ETH_GF_MACHI (n : Nat) : Nat := 0x400c0404 + 0x10 * n
/-- R431: ETH_GF_CFG. -/
def ETH_GF_CFG (n : Nat) : Nat := 0x400c0408 + 0x10 * n
/-- R431: ETH_GF_STNUM. -/
def ETH_GF_STNUM (n : Nat) : Nat := 0x400c040c + 0x10 * n
/-- R431: ETH_GF_REPCNT. -/
def ETH_GF_REPCNT (n : Nat) : Nat := 0x400c0600 + 0x4 * n
/-- R431: ETH_SV_CFG. -/
def ETH_SV_CFG (n : Nat) : Nat := 0x400c0800 + 0x100 * n
/-- R431: ETH_SV_PER. -/
def ETH_SV_PER (n : Nat) : Nat := 0x400c0804 + 0x100 * n
/-- R431: ETH_SV_LAYOUT. -/
def ETH_SV_LAYOUT (n : Nat) : Nat := 0x400c0808 + 0x100 * n
/-- R431: ETH_SV_CH. -/
def ETH_SV_CH (n k : Nat) : Nat := 0x400c0820 + 0x100 * n + 0x4 * k
/-- R431: ETH_SV_SCALE. -/
def ETH_SV_SCALE (n k : Nat) : Nat := 0x400c0860 + 0x100 * n + 0x4 * k
/-- R431: ETH_SV_SENT. -/
def ETH_SV_SENT (n : Nat) : Nat := 0x400c08a0 + 0x100 * n
/-- R431: ETH_SV_TPL. -/
def ETH_SV_TPL (n k : Nat) : Nat := 0x400c2000 + 0x100 * n + 0x4 * k
/-- R452: SEC_STATUS. -/
def SEC_STATUS : Nat := 0x400d0000
/-- R452: SEC_FLAGS. -/
def SEC_FLAGS : Nat := 0x400d0004
/-- R452: SEC_IRQEN. -/
def SEC_IRQEN : Nat := 0x400d0008
/-- R452: SEC_VERSION. -/
def SEC_VERSION : Nat := 0x400d000c
/-- R452: SEC_CMD. -/
def SEC_CMD : Nat := 0x400d0010
/-- R452: SEC_HADDR. -/
def SEC_HADDR : Nat := 0x400d0014
/-- R452: SEC_HLEN. -/
def SEC_HLEN : Nat := 0x400d0018
/-- R452: SEC_BUF. -/
def SEC_BUF (n : Nat) : Nat := 0x400d0100 + 0x4 * n
/-- R452: SEC_MEAS. -/
def SEC_MEAS (n : Nat) : Nat := 0x400d0200 + 0x4 * n
/-- R452: SEC_IDPUB. -/
def SEC_IDPUB (n : Nat) : Nat := 0x400d0240 + 0x4 * n
/-- R452: SEC_APPPUB. -/
def SEC_APPPUB (n : Nat) : Nat := 0x400d0260 + 0x4 * n
/-- R452: SEC_DEVID_LO. -/
def SEC_DEVID_LO : Nat := 0x400d0280
/-- R452: SEC_DEVID_HI. -/
def SEC_DEVID_HI : Nat := 0x400d0284
/-- R452: SEC_TRNG. -/
def SEC_TRNG : Nat := 0x400d0290
/-- R452: SEC_ST1ENTRY. -/
def SEC_ST1ENTRY : Nat := 0x400d02a0
/-- R452: SEC_EVCNT. -/
def SEC_EVCNT (n : Nat) : Nat := 0x400d0300 + 0x4 * n
/-- R342: SAFE_STATUS. -/
def SAFE_STATUS : Nat := 0x400e0000
/-- R342: SAFE_INPUTS. -/
def SAFE_INPUTS : Nat := 0x400e0004
/-- R342: SAFE_OUTPUTS. -/
def SAFE_OUTPUTS : Nat := 0x400e0008
/-- R342: SAFE_LOCKREC. -/
def SAFE_LOCKREC : Nat := 0x400e000c
/-- R342: SAFE_CFGCRC. -/
def SAFE_CFGCRC : Nat := 0x400e0010
/-- R342: SAFE_TPCNT. -/
def SAFE_TPCNT : Nat := 0x400e0014
/-- R342: SAFE_FLAGS. -/
def SAFE_FLAGS : Nat := 0x400e0100
/-- R342: SAFE_IRQEN. -/
def SAFE_IRQEN : Nat := 0x400e0104
/-- R342: SAFE_EVCNT. -/
def SAFE_EVCNT (n : Nat) : Nat := 0x400e0110 + 0x4 * n
/-- R342: SAFE_IN_CFG. -/
def SAFE_IN_CFG (n : Nat) : Nat := 0x400e0200 + 0x4 * n
/-- R342: SAFE_OUT_CFG. -/
def SAFE_OUT_CFG (n : Nat) : Nat := 0x400e0240 + 0x4 * n
/-- R476: PMU_STATUS. -/
def PMU_STATUS : Nat := 0x400f0000
/-- R476: PMU_FLAGS. -/
def PMU_FLAGS : Nat := 0x400f0004
/-- R476: PMU_IRQEN. -/
def PMU_IRQEN : Nat := 0x400f0008
/-- R476: PMU_CMD. -/
def PMU_CMD : Nat := 0x400f000c
/-- R476: PMU_VIN. -/
def PMU_VIN : Nat := 0x400f0010
/-- R476: PMU_CHOLD. -/
def PMU_CHOLD : Nat := 0x400f0014
/-- R476: PMU_HUMEAS. -/
def PMU_HUMEAS : Nat := 0x400f0018
/-- R476: PMU_HUEAV. -/
def PMU_HUEAV : Nat := 0x400f001c
/-- R476: PMU_HUREQ. -/
def PMU_HUREQ : Nat := 0x400f0020
/-- R476: PMU_EVHEAD_LO. -/
def PMU_EVHEAD_LO : Nat := 0x400f0028
/-- R476: PMU_EVHEAD_HI. -/
def PMU_EVHEAD_HI : Nat := 0x400f002c
/-- R476: PMU_RSTINFO. -/
def PMU_RSTINFO : Nat := 0x400f0030
/-- R476: PMU_SAVESEQ. -/
def PMU_SAVESEQ : Nat := 0x400f0034
/-- R476: PMU_EVCNT. -/
def PMU_EVCNT (n : Nat) : Nat := 0x400f0040 + 0x4 * n
/-- R476: PMU_SWBUF. -/
def PMU_SWBUF (n : Nat) : Nat := 0x400f8000 + 0x4 * n
/-- R477: SENT_CFG. -/
def SENT_CFG : Nat := 0x40100000
/-- R477: SENT_STATUS. -/
def SENT_STATUS : Nat := 0x40100004
/-- R477: SENT_FLAGS. -/
def SENT_FLAGS : Nat := 0x40100008
/-- R477: SENT_IRQEN. -/
def SENT_IRQEN : Nat := 0x4010000c
/-- R477: SENT_RTC_LO. -/
def SENT_RTC_LO : Nat := 0x40100010
/-- R477: SENT_RTC_HI. -/
def SENT_RTC_HI : Nat := 0x40100014
/-- R477: SENT_ALARM_LO. -/
def SENT_ALARM_LO : Nat := 0x40100018
/-- R477: SENT_ALARM_HI. -/
def SENT_ALARM_HI : Nat := 0x4010001c
/-- R477: SENT_LCUT. -/
def SENT_LCUT : Nat := 0x40100020
/-- R477: SENT_LMAX. -/
def SENT_LMAX : Nat := 0x40100024
/-- R477: SENT_HV1. -/
def SENT_HV1 : Nat := 0x40100028
/-- R477: SENT_VSTORE. -/
def SENT_VSTORE : Nat := 0x4010002c
/-- R477: SENT_VBAT. -/
def SENT_VBAT : Nat := 0x40100030
/-- R477: SENT_LEDGER. -/
def SENT_LEDGER : Nat := 0x40100034
/-- R477: SENT_CMD. -/
def SENT_CMD : Nat := 0x40100038
/-- R477: SENT_EVCNT. -/
def SENT_EVCNT (n : Nat) : Nat := 0x40100040 + 0x4 * n
/-- R489: MON_CTRL. -/
def MON_CTRL : Nat := 0x40110000
/-- R489: MON_FLAGS. -/
def MON_FLAGS : Nat := 0x40110004
/-- R489: MON_IRQEN. -/
def MON_IRQEN : Nat := 0x40110008
/-- R489: MON_CLR. -/
def MON_CLR : Nat := 0x4011000c
/-- R489: MON_HOLD. -/
def MON_HOLD : Nat := 0x40110010
/-- R489: MON_WINLEN. -/
def MON_WINLEN (n : Nat) : Nat := 0x40110020 + 0x4 * n
/-- R489: MON_WINSTAT. -/
def MON_WINSTAT : Nat := 0x40110030
/-- R489: MON_SCRUBPASS. -/
def MON_SCRUBPASS : Nat := 0x40110040
/-- R489: MON_SRAMCE. -/
def MON_SRAMCE : Nat := 0x40110044
/-- R489: MON_SRAMUE. -/
def MON_SRAMUE : Nat := 0x40110048
/-- R489: MON_SRAMUEADDR. -/
def MON_SRAMUEADDR : Nat := 0x4011004c
/-- R489: MON_MRAMWL. -/
def MON_MRAMWL : Nat := 0x40110050
/-- R489: MON_MRAMWEAR. -/
def MON_MRAMWEAR : Nat := 0x40110054
/-- R489: MON_BGBW. -/
def MON_BGBW : Nat := 0x40110058
/-- R489: MON_TEMP. -/
def MON_TEMP (n : Nat) : Nat := 0x40110060 + 0x4 * n
/-- R489: MON_EVCNT. -/
def MON_EVCNT (n : Nat) : Nat := 0x40110080 + 0x4 * n
/-- R489: MON_M_CFG. -/
def MON_M_CFG (n : Nat) : Nat := 0x40110200 + 0x40 * n
/-- R489: MON_M_ORIGIN. -/
def MON_M_ORIGIN (n : Nat) : Nat := 0x40110204 + 0x40 * n
/-- R489: MON_M_WIDTH. -/
def MON_M_WIDTH (n : Nat) : Nat := 0x40110208 + 0x40 * n
/-- R489: MON_M_ALARM. -/
def MON_M_ALARM (n : Nat) : Nat := 0x4011020c + 0x40 * n
/-- R489: MON_M_MIN. -/
def MON_M_MIN (n : Nat) : Nat := 0x40110210 + 0x40 * n
/-- R489: MON_M_MAX. -/
def MON_M_MAX (n : Nat) : Nat := 0x40110214 + 0x40 * n
/-- R489: MON_M_COUNT. -/
def MON_M_COUNT (n : Nat) : Nat := 0x40110218 + 0x40 * n
/-- R489: MON_M_UNDER. -/
def MON_M_UNDER (n : Nat) : Nat := 0x4011021c + 0x40 * n
/-- R489: MON_M_OVER. -/
def MON_M_OVER (n : Nat) : Nat := 0x40110220 + 0x40 * n
/-- R489: MON_M_MISSED. -/
def MON_M_MISSED (n : Nat) : Nat := 0x40110224 + 0x40 * n
/-- R489: MON_M_BIN. -/
def MON_M_BIN (n k : Nat) : Nat := 0x40111000 + 0x100 * n + 0x4 * k
/-- R367: SYSCFG_RSTCAUSE. -/
def SYSCFG_RSTCAUSE : Nat := 0x40120000
/-- R367: SYSCFG_RSTCNT. -/
def SYSCFG_RSTCNT (n : Nat) : Nat := 0x40120040 + 0x4 * n
/-- R367: SYSCFG_DBGSEL. -/
def SYSCFG_DBGSEL : Nat := 0x40120010
/-- R367: SYSCFG_HOSTCTL. -/
def SYSCFG_HOSTCTL : Nat := 0x40120020
/-- R367: SYSCFG_ST_STATUS. -/
def SYSCFG_ST_STATUS (n : Nat) : Nat := 0x40120100 + 0x40 * n
/-- R367: SYSCFG_ST_NC_BASE. -/
def SYSCFG_ST_NC_BASE (n k : Nat) : Nat := 0x40120110 + 0x40 * n + 0x8 * k
/-- R367: SYSCFG_ST_NC_LIM. -/
def SYSCFG_ST_NC_LIM (n k : Nat) : Nat := 0x40120114 + 0x40 * n + 0x8 * k
/-- R367: SYSCFG_IRQ. -/
def SYSCFG_IRQ (n : Nat) : Nat := 0x40120400 + 0x4 * n
/-- R367: SYSCFG_WDG_CFG. -/
def SYSCFG_WDG_CFG (n : Nat) : Nat := 0x40120800 + 0x20 * n
/-- R367: SYSCFG_WDG_PERIOD. -/
def SYSCFG_WDG_PERIOD (n : Nat) : Nat := 0x40120804 + 0x20 * n
/-- R367: SYSCFG_WDG_GRACE. -/
def SYSCFG_WDG_GRACE (n : Nat) : Nat := 0x40120808 + 0x20 * n
/-- R367: SYSCFG_WDG_WINDOW. -/
def SYSCFG_WDG_WINDOW (n : Nat) : Nat := 0x4012080c + 0x20 * n
/-- R367: SYSCFG_WDG_KICK. -/
def SYSCFG_WDG_KICK (n : Nat) : Nat := 0x40120810 + 0x20 * n
/-- R367: SYSCFG_WDG_STATUS. -/
def SYSCFG_WDG_STATUS (n : Nat) : Nat := 0x40120814 + 0x20 * n
/-- R367: SYSCFG_WDG_EVCNT. -/
def SYSCFG_WDG_EVCNT (n : Nat) : Nat := 0x40120818 + 0x20 * n
/-- R367: SYSCFG_PAD. -/
def SYSCFG_PAD (n : Nat) : Nat := 0x40120c00 + 0x4 * n
/-- R367: SYSCFG_RGMII. -/
def SYSCFG_RGMII : Nat := 0x40120c20
/-- R367: SYSCFG_GPIO_DIR. -/
def SYSCFG_GPIO_DIR : Nat := 0x40120d00
/-- R367: SYSCFG_GPIO_OUT. -/
def SYSCFG_GPIO_OUT : Nat := 0x40120d04
/-- R367: SYSCFG_GPIO_SET. -/
def SYSCFG_GPIO_SET : Nat := 0x40120d08
/-- R367: SYSCFG_GPIO_CLR. -/
def SYSCFG_GPIO_CLR : Nat := 0x40120d0c
/-- R367: SYSCFG_GPIO_IN. -/
def SYSCFG_GPIO_IN : Nat := 0x40120d10
/-- R367: SYSCFG_GPIO_PULL. -/
def SYSCFG_GPIO_PULL : Nat := 0x40120d14
/-- R367: SYSCFG_RK_CTRL. -/
def SYSCFG_RK_CTRL (n : Nat) : Nat := 0x40121000 + 0x400 * n
/-- R367: SYSCFG_RK_STATUS. -/
def SYSCFG_RK_STATUS (n : Nat) : Nat := 0x40121004 + 0x400 * n
/-- R367: SYSCFG_RK_FLAGS. -/
def SYSCFG_RK_FLAGS (n : Nat) : Nat := 0x40121008 + 0x400 * n
/-- R367: SYSCFG_RK_BANKCTL. -/
def SYSCFG_RK_BANKCTL (n : Nat) : Nat := 0x4012100c + 0x400 * n
/-- R367: SYSCFG_RK_LASTABORT. -/
def SYSCFG_RK_LASTABORT (n : Nat) : Nat := 0x40121010 + 0x400 * n
/-- R367: SYSCFG_RK_EVCNT. -/
def SYSCFG_RK_EVCNT (n k : Nat) : Nat := 0x40121020 + 0x400 * n + 0x4 * k
/-- R367: SYSCFG_SLOT_CFG. -/
def SYSCFG_SLOT_CFG (n k : Nat) : Nat := 0x40121100 + 0x400 * n + 0x20 * k
/-- R367: SYSCFG_SLOT_DL. -/
def SYSCFG_SLOT_DL (n k : Nat) : Nat := 0x40121104 + 0x400 * n + 0x20 * k
/-- R367: SYSCFG_SLOT_LASTCYC. -/
def SYSCFG_SLOT_LASTCYC (n k : Nat) : Nat := 0x40121108 + 0x400 * n + 0x20 * k
/-- R367: SYSCFG_SLOT_MAXCYC. -/
def SYSCFG_SLOT_MAXCYC (n k : Nat) : Nat := 0x4012110c + 0x400 * n + 0x20 * k
/-- R367: SYSCFG_SLOT_DONECNT. -/
def SYSCFG_SLOT_DONECNT (n k : Nat) : Nat := 0x40121110 + 0x400 * n + 0x20 * k
/-- R367: SYSCFG_SLOT_MISSCNT. -/
def SYSCFG_SLOT_MISSCNT (n k : Nat) : Nat := 0x40121114 + 0x400 * n + 0x20 * k
/-- R367: SYSCFG_SLOT_OVRCNT. -/
def SYSCFG_SLOT_OVRCNT (n k : Nat) : Nat := 0x40121118 + 0x400 * n + 0x20 * k
/-- R367: SYSCFG_DC_CFG. -/
def SYSCFG_DC_CFG (n : Nat) : Nat := 0x40124000 + 0x100 * n
/-- R367: SYSCFG_DC_LEGS_LO. -/
def SYSCFG_DC_LEGS_LO (n : Nat) : Nat := 0x40124004 + 0x100 * n
/-- R367: SYSCFG_DC_LEGS_HI. -/
def SYSCFG_DC_LEGS_HI (n : Nat) : Nat := 0x40124008 + 0x100 * n
/-- R367: SYSCFG_DC_REFADDR. -/
def SYSCFG_DC_REFADDR (n : Nat) : Nat := 0x4012400c + 0x100 * n
/-- R367: SYSCFG_DC_SWCFG. -/
def SYSCFG_DC_SWCFG (n : Nat) : Nat := 0x40124010 + 0x100 * n
/-- R367: SYSCFG_DC_SWDWELL. -/
def SYSCFG_DC_SWDWELL (n : Nat) : Nat := 0x40124014 + 0x100 * n
/-- R367: SYSCFG_DC_IMIN. -/
def SYSCFG_DC_IMIN (n : Nat) : Nat := 0x40124018 + 0x100 * n
/-- R367: SYSCFG_DC_VLMAX. -/
def SYSCFG_DC_VLMAX (n : Nat) : Nat := 0x4012401c + 0x100 * n
/-- R367: SYSCFG_DC_SWCMD. -/
def SYSCFG_DC_SWCMD (n : Nat) : Nat := 0x40124020 + 0x100 * n
/-- R367: SYSCFG_DC_SWSTAT. -/
def SYSCFG_DC_SWSTAT (n : Nat) : Nat := 0x40124024 + 0x100 * n
/-- R367: SYSCFG_DC_SWRES. -/
def SYSCFG_DC_SWRES (n : Nat) : Nat := 0x40124028 + 0x100 * n
/-- R367: SYSCFG_DC_SWCNT. -/
def SYSCFG_DC_SWCNT (n : Nat) : Nat := 0x4012402c + 0x100 * n
/-- R367: SYSCFG_DC_FLAGS. -/
def SYSCFG_DC_FLAGS (n : Nat) : Nat := 0x40124030 + 0x100 * n
/-- R367: SYSCFG_DC_EVCNT. -/
def SYSCFG_DC_EVCNT (n k : Nat) : Nat := 0x40124034 + 0x100 * n + 0x4 * k
/-- R367: SYSCFG_DC_SLEEPV. -/
def SYSCFG_DC_SLEEPV (n : Nat) : Nat := 0x40124050 + 0x100 * n
/-- R367: SYSCFG_DC_WAKEV. -/
def SYSCFG_DC_WAKEV (n : Nat) : Nat := 0x40124054 + 0x100 * n
/-- R367: SYSCFG_DC_NWTIME. -/
def SYSCFG_DC_NWTIME (n : Nat) : Nat := 0x40124058 + 0x100 * n
/-- R367: SYSCFG_DC_NSTAT. -/
def SYSCFG_DC_NSTAT (n : Nat) : Nat := 0x4012405c + 0x100 * n
/-- R367: SYSCFG_DC_TABLE. -/
def SYSCFG_DC_TABLE (n k : Nat) : Nat := 0x40126000 + 0x400 * n + 0x4 * k
/-- R367: SYSCFG_DC_CAP. -/
def SYSCFG_DC_CAP (n k : Nat) : Nat := 0x40128000 + 0x1000 * n + 0x4 * k
/-- R453: CONSENT_STATUS. -/
def CONSENT_STATUS : Nat := 0x40130000
/-- R453: CONSENT_FLAGS. -/
def CONSENT_FLAGS : Nat := 0x40130004
/-- R453: CONSENT_IRQEN. -/
def CONSENT_IRQEN : Nat := 0x40130008
/-- R453: CONSENT_CMD. -/
def CONSENT_CMD : Nat := 0x4013000c
/-- R453: CONSENT_CTR_LO. -/
def CONSENT_CTR_LO : Nat := 0x40130010
/-- R453: CONSENT_CTR_HI. -/
def CONSENT_CTR_HI : Nat := 0x40130014
/-- R453: CONSENT_SETCTR. -/
def CONSENT_SETCTR (n : Nat) : Nat := 0x40130020 + 0x4 * n
/-- R453: CONSENT_WINREM. -/
def CONSENT_WINREM : Nat := 0x40130038
/-- R453: CONSENT_LOCKREM. -/
def CONSENT_LOCKREM : Nat := 0x4013003c
/-- R453: CONSENT_DIGEST. -/
def CONSENT_DIGEST (n : Nat) : Nat := 0x40130040 + 0x4 * n
/-- R453: CONSENT_SIG. -/
def CONSENT_SIG (n : Nat) : Nat := 0x40130080 + 0x4 * n
/-- R453: CONSENT_EVCNT. -/
def CONSENT_EVCNT (n : Nat) : Nat := 0x401300c0 + 0x4 * n
/-- R453: CONSENT_STAGE. -/
def CONSENT_STAGE (n : Nat) : Nat := 0x40131000 + 0x4 * n
/-- R453: CONSENT_LIVE. -/
def CONSENT_LIVE (n k : Nat) : Nat := 0x40138000 + 0x1000 * n + 0x4 * k
/-- R486: MRAMC_STATUS. -/
def MRAMC_STATUS : Nat := 0x40140000
/-- R486: MRAMC_MOVEPAGE. -/
def MRAMC_MOVEPAGE : Nat := 0x40140004
/-- R486: MRAMC_WRITES_LO. -/
def MRAMC_WRITES_LO : Nat := 0x40140008
/-- R486: MRAMC_WRITES_HI. -/
def MRAMC_WRITES_HI : Nat := 0x4014000c
/-- R486: MRAMC_SPREAD. -/
def MRAMC_SPREAD : Nat := 0x40140010
end Reg

/-! ### Fields -/
namespace Fd
def TBL_CTRL_ROLE : Fld := ⟨Reg.TBL_CTRL, 0, 2⟩
def TBL_CTRL_DBGSTOP : Fld := ⟨Reg.TBL_CTRL, 2, 1⟩
def TBL_CTRL_RESUME : Fld := ⟨Reg.TBL_CTRL, 3, 1⟩
def TBL_CTRL_LINKSEL : Fld := ⟨Reg.TBL_CTRL, 4, 2⟩
def TBL_STATUS_TBINV : Fld := ⟨Reg.TBL_STATUS, 0, 1⟩
def TBL_STATUS_ALIGNERR : Fld := ⟨Reg.TBL_STATUS, 1, 1⟩
def TBL_STATUS_QREF : Fld := ⟨Reg.TBL_STATUS, 2, 1⟩
def TBL_STATUS_QLATE : Fld := ⟨Reg.TBL_STATUS, 3, 1⟩
def TBL_STATUS_RODSKIP : Fld := ⟨Reg.TBL_STATUS, 4, 1⟩
def TBL_STATUS_RODEND : Fld := ⟨Reg.TBL_STATUS, 5, 1⟩
def TBL_STATUS_LFWDLATE : Fld := ⟨Reg.TBL_STATUS, 6, 1⟩
def TBL_STATUS_TRGIN : Fld := ⟨Reg.TBL_STATUS, 7, 1⟩
def TBL_STATUS_HOLD : Fld := ⟨Reg.TBL_STATUS, 8, 1⟩
def TBL_STATUS_QFULL : Fld := ⟨Reg.TBL_STATUS, 9, 1⟩
def TBL_IRQEN_EN : Fld := ⟨Reg.TBL_IRQEN, 0, 8⟩
def TBL_NOW_LO_NOW_LO : Fld := ⟨Reg.TBL_NOW_LO, 0, 32⟩
def TBL_NOW_HI_NOW_HI : Fld := ⟨Reg.TBL_NOW_HI, 0, 32⟩
def TBL_ADDFRAC_FRAC : Fld := ⟨Reg.TBL_ADDFRAC, 0, 32⟩
def TBL_STEP_LO_STEP_LO : Fld := ⟨Reg.TBL_STEP_LO, 0, 32⟩
def TBL_STEP_HI_STEP_HI : Fld := ⟨Reg.TBL_STEP_HI, 0, 32⟩
def TBL_STEPCMD_APPLY : Fld := ⟨Reg.TBL_STEPCMD, 0, 1⟩
def TBL_ALIGN_OFFSET : Fld := ⟨Reg.TBL_ALIGN, 0, 32⟩
def TBL_ALIGNTOL_TOL : Fld := ⟨Reg.TBL_ALIGNTOL, 0, 16⟩
def TBL_EVCNT_COUNT (n : Nat) : Fld := ⟨Reg.TBL_EVCNT n, 0, 16⟩
def TBL_MERGECNT_COUNT : Fld := ⟨Reg.TBL_MERGECNT, 0, 16⟩
def TBL_SUPPRCNT_COUNT : Fld := ⟨Reg.TBL_SUPPRCNT, 0, 16⟩
def TBL_ROD_START_LO_START (n : Nat) : Fld := ⟨Reg.TBL_ROD_START_LO n, 0, 32⟩
def TBL_ROD_START_HI_START (n : Nat) : Fld := ⟨Reg.TBL_ROD_START_HI n, 0, 32⟩
def TBL_ROD_PER_LO_PER (n : Nat) : Fld := ⟨Reg.TBL_ROD_PER_LO n, 0, 32⟩
def TBL_ROD_PER_HI_PER (n : Nat) : Fld := ⟨Reg.TBL_ROD_PER_HI n, 0, 8⟩
def TBL_ROD_COUNT_COUNT (n : Nat) : Fld := ⟨Reg.TBL_ROD_COUNT n, 0, 16⟩
def TBL_ROD_CTRL_ARM (n : Nat) : Fld := ⟨Reg.TBL_ROD_CTRL n, 0, 1⟩
def TBL_ROD_CTRL_IRQ (n : Nat) : Fld := ⟨Reg.TBL_ROD_CTRL n, 1, 1⟩
def TBL_ROD_STATE_REMAIN (n : Nat) : Fld := ⟨Reg.TBL_ROD_STATE n, 0, 16⟩
def TBL_ROD_STATE_ACTIVE (n : Nat) : Fld := ⟨Reg.TBL_ROD_STATE n, 16, 1⟩
def TBL_ROD_STATE_BADPER (n : Nat) : Fld := ⟨Reg.TBL_ROD_STATE n, 17, 1⟩
def TBL_ROD_SKIPCNT_COUNT (n : Nat) : Fld := ⟨Reg.TBL_ROD_SKIPCNT n, 0, 16⟩
def TBL_QTIME_LO_TIME : Fld := ⟨Reg.TBL_QTIME_LO, 0, 32⟩
def TBL_QTIME_HI_TIME : Fld := ⟨Reg.TBL_QTIME_HI, 0, 32⟩
def TBL_QTARGET_TARGET : Fld := ⟨Reg.TBL_QTARGET, 0, 7⟩
def TBL_QPUSH_HANDLE : Fld := ⟨Reg.TBL_QPUSH, 0, 8⟩
def TBL_QCANCEL_HANDLE : Fld := ⟨Reg.TBL_QCANCEL, 0, 6⟩
def TBL_QSTATUS_LEVEL : Fld := ⟨Reg.TBL_QSTATUS, 0, 6⟩
def TBL_QSTATUS_CANMISS : Fld := ⟨Reg.TBL_QSTATUS, 8, 1⟩
def TBL_QFLUSH_ALL : Fld := ⟨Reg.TBL_QFLUSH, 0, 1⟩
def TBL_QCANMISSCNT_COUNT : Fld := ⟨Reg.TBL_QCANMISSCNT, 0, 16⟩
def TBL_TGTSEL_SRC (n : Nat) : Fld := ⟨Reg.TBL_TGTSEL n, 0, 7⟩
def TBL_TGTSEL_EN (n : Nat) : Fld := ⟨Reg.TBL_TGTSEL n, 8, 1⟩
def TBL_FWD_SRC (n k : Nat) : Fld := ⟨Reg.TBL_FWD n k, 0, 7⟩
def TBL_FWD_EN (n k : Nat) : Fld := ⟨Reg.TBL_FWD n k, 8, 1⟩
def TBL_LFWDDLY_DLY (n : Nat) : Fld := ⟨Reg.TBL_LFWDDLY n, 0, 16⟩
def TBL_LFWDMEAS_MEAS (n : Nat) : Fld := ⟨Reg.TBL_LFWDMEAS n, 0, 16⟩
def TBL_SWLAUNCH_SWL : Fld := ⟨Reg.TBL_SWLAUNCH, 0, 16⟩
def TBL_TRGIN_CFG_EDGE (n : Nat) : Fld := ⟨Reg.TBL_TRGIN_CFG n, 0, 2⟩
def TBL_TRGIN_CFG_FILT (n : Nat) : Fld := ⟨Reg.TBL_TRGIN_CFG n, 8, 8⟩
def TBL_TRGIN_CFG_IRQ (n : Nat) : Fld := ⟨Reg.TBL_TRGIN_CFG n, 16, 1⟩
def TBL_TRGIN_STAMP_LO_STAMP (n : Nat) : Fld := ⟨Reg.TBL_TRGIN_STAMP_LO n, 0, 32⟩
def TBL_TRGIN_STAMP_HI_STAMP (n : Nat) : Fld := ⟨Reg.TBL_TRGIN_STAMP_HI n, 0, 32⟩
def TBL_TRGOUT_CFG_MODE (n : Nat) : Fld := ⟨Reg.TBL_TRGOUT_CFG n, 0, 2⟩
def TBL_TRGOUT_CFG_WIDTH (n : Nat) : Fld := ⟨Reg.TBL_TRGOUT_CFG n, 16, 16⟩
def PLL_CTRL_SYNCREF : Fld := ⟨Reg.PLL_CTRL, 0, 2⟩
def PLL_CTRL_RELOCK_SYS : Fld := ⟨Reg.PLL_CTRL, 2, 1⟩
def PLL_CTRL_RELOCK_SYNC : Fld := ⟨Reg.PLL_CTRL, 3, 1⟩
def PLL_STATUS_SYSLOCK : Fld := ⟨Reg.PLL_STATUS, 0, 1⟩
def PLL_STATUS_SYNCLOCK : Fld := ⟨Reg.PLL_STATUS, 1, 1⟩
def PLL_STATUS_SYSHOLD : Fld := ⟨Reg.PLL_STATUS, 2, 1⟩
def PLL_STATUS_SYNCHOLD : Fld := ⟨Reg.PLL_STATUS, 3, 1⟩
def PLL_STATUS_PHASEDET : Fld := ⟨Reg.PLL_STATUS, 4, 1⟩
def PLL_STATUS_SYSBAND : Fld := ⟨Reg.PLL_STATUS, 8, 5⟩
def PLL_STATUS_SYNCBAND : Fld := ⟨Reg.PLL_STATUS, 16, 5⟩
def PLL_FLAGS_SYSLOL : Fld := ⟨Reg.PLL_FLAGS, 0, 1⟩
def PLL_FLAGS_SYNCLOL : Fld := ⟨Reg.PLL_FLAGS, 1, 1⟩
def PLL_FLAGS_REFLOSS : Fld := ⟨Reg.PLL_FLAGS, 2, 1⟩
def PLL_FLAGS_OUTERR : Fld := ⟨Reg.PLL_FLAGS, 3, 1⟩
def PLL_IRQEN_EN : Fld := ⟨Reg.PLL_IRQEN, 0, 4⟩
def PLL_EVCNT_COUNT (n : Nat) : Fld := ⟨Reg.PLL_EVCNT n, 0, 16⟩
def PLL_MCLKDIV_DIV (n : Nat) : Fld := ⟨Reg.PLL_MCLKDIV n, 0, 10⟩
def PLL_MCLKDIV_EN (n : Nat) : Fld := ⟨Reg.PLL_MCLKDIV n, 15, 1⟩
def PLL_MCLKDIV_ACTDIV (n : Nat) : Fld := ⟨Reg.PLL_MCLKDIV n, 16, 10⟩
def PLL_MCLKDIV_ACTEN (n : Nat) : Fld := ⟨Reg.PLL_MCLKDIV n, 31, 1⟩
def PLL_UPDATE_GO : Fld := ⟨Reg.PLL_UPDATE, 0, 1⟩
def PLL_UPDATE_PEND : Fld := ⟨Reg.PLL_UPDATE, 1, 1⟩
def PLL_CKOUT_DIV (n : Nat) : Fld := ⟨Reg.PLL_CKOUT n, 0, 12⟩
def PLL_CKOUT_SRC (n : Nat) : Fld := ⟨Reg.PLL_CKOUT n, 12, 2⟩
def PLL_CKOUT_FMT (n : Nat) : Fld := ⟨Reg.PLL_CKOUT n, 16, 3⟩
def PLL_CKOUTSTAT_ERR : Fld := ⟨Reg.PLL_CKOUTSTAT, 0, 8⟩
def PLL_CKOUTSTAT_ACTIVE : Fld := ⟨Reg.PLL_CKOUTSTAT, 8, 8⟩
def PWM_CTRL_OUTEN : Fld := ⟨Reg.PWM_CTRL, 0, 1⟩
def PWM_CTRL_DBGACT : Fld := ⟨Reg.PWM_CTRL, 1, 1⟩
def PWM_STATUS_HUWAIT : Fld := ⟨Reg.PWM_STATUS, 0, 1⟩
def PWM_STATUS_FROZEN : Fld := ⟨Reg.PWM_STATUS, 1, 1⟩
def PWM_STATUS_RUN : Fld := ⟨Reg.PWM_STATUS, 8, 8⟩
def PWM_GFLAGS_FORCE : Fld := ⟨Reg.PWM_GFLAGS, 0, 1⟩
def PWM_GFLAGS_SYSF : Fld := ⟨Reg.PWM_GFLAGS, 1, 1⟩
def PWM_GFLAGS_PFWF : Fld := ⟨Reg.PWM_GFLAGS, 2, 1⟩
def PWM_GFLAGS_DBGF : Fld := ⟨Reg.PWM_GFLAGS, 3, 1⟩
def PWM_GFLAGS_WCOLL : Fld := ⟨Reg.PWM_GFLAGS, 4, 1⟩
def PWM_GFLAGS_CFGERR : Fld := ⟨Reg.PWM_GFLAGS, 5, 1⟩
def PWM_GFLAGS_CALERR : Fld := ⟨Reg.PWM_GFLAGS, 6, 1⟩
def PWM_GIRQEN_EN : Fld := ⟨Reg.PWM_GIRQEN, 0, 7⟩
def PWM_GEVCNT_COUNT (n : Nat) : Fld := ⟨Reg.PWM_GEVCNT n, 0, 16⟩
def PWM_LEGIRQEN_EN : Fld := ⟨Reg.PWM_LEGIRQEN, 0, 4⟩
def PWM_LEGPEND_LO_PEND : Fld := ⟨Reg.PWM_LEGPEND_LO, 0, 32⟩
def PWM_LEGPEND_HI_PEND : Fld := ⟨Reg.PWM_LEGPEND_HI, 0, 16⟩
def PWM_CALSTAT_LEG : Fld := ⟨Reg.PWM_CALSTAT, 0, 6⟩
def PWM_RESTART_RESTART : Fld := ⟨Reg.PWM_RESTART, 0, 8⟩
def PWM_LOADALL_ALL : Fld := ⟨Reg.PWM_LOADALL, 0, 8⟩
def PWM_LOADCNCL_CNCL : Fld := ⟨Reg.PWM_LOADCNCL, 0, 8⟩
def PWM_C_CFG_EN (n : Nat) : Fld := ⟨Reg.PWM_C_CFG n, 0, 1⟩
def PWM_C_CFG_MODE (n : Nat) : Fld := ⟨Reg.PWM_C_CFG n, 1, 1⟩
def PWM_C_CFG_LDPT (n : Nat) : Fld := ⟨Reg.PWM_C_CFG n, 2, 2⟩
def PWM_C_PER_PER (n : Nat) : Fld := ⟨Reg.PWM_C_PER n, 0, 31⟩
def PWM_C_ACTPER_PER (n : Nat) : Fld := ⟨Reg.PWM_C_ACTPER n, 0, 31⟩
def PWM_C_CNT_CNT (n : Nat) : Fld := ⟨Reg.PWM_C_CNT n, 0, 31⟩
def PWM_C_CNT_DOWN (n : Nat) : Fld := ⟨Reg.PWM_C_CNT n, 31, 1⟩
def PWM_C_FLAGS_LOADED (n : Nat) : Fld := ⟨Reg.PWM_C_FLAGS n, 0, 1⟩
def PWM_C_FLAGS_LATE (n : Nat) : Fld := ⟨Reg.PWM_C_FLAGS n, 1, 1⟩
def PWM_C_FLAGS_CLAMP (n : Nat) : Fld := ⟨Reg.PWM_C_FLAGS n, 2, 1⟩
def PWM_C_FLAGS_PHLOST (n : Nat) : Fld := ⟨Reg.PWM_C_FLAGS n, 3, 1⟩
def PWM_C_IRQEN_EN (n : Nat) : Fld := ⟨Reg.PWM_C_IRQEN n, 0, 4⟩
def PWM_C_LOADCNT_COUNT (n : Nat) : Fld := ⟨Reg.PWM_C_LOADCNT n, 0, 32⟩
def PWM_C_EVCNT_COUNT (n k : Nat) : Fld := ⟨Reg.PWM_C_EVCNT n k, 0, 16⟩
def PWM_LEG_CFG_EN (n : Nat) : Fld := ⟨Reg.PWM_LEG_CFG n, 0, 1⟩
def PWM_LEG_CFG_CAR (n : Nat) : Fld := ⟨Reg.PWM_LEG_CFG n, 1, 3⟩
def PWM_LEG_CFG_MODE (n : Nat) : Fld := ⟨Reg.PWM_LEG_CFG n, 4, 2⟩
def PWM_LEG_CFG_EDGE (n : Nat) : Fld := ⟨Reg.PWM_LEG_CFG n, 6, 1⟩
def PWM_LEG_CFG_SHORTACT (n : Nat) : Fld := ⟨Reg.PWM_LEG_CFG n, 7, 1⟩
def PWM_LEG_CFG_FDOM (n : Nat) : Fld := ⟨Reg.PWM_LEG_CFG n, 8, 3⟩
def PWM_LEG_CFG_SAFE (n : Nat) : Fld := ⟨Reg.PWM_LEG_CFG n, 12, 2⟩
def PWM_LEG_CMPA_CMPA (n : Nat) : Fld := ⟨Reg.PWM_LEG_CMPA n, 0, 32⟩
def PWM_LEG_CMPB_CMPB (n : Nat) : Fld := ⟨Reg.PWM_LEG_CMPB n, 0, 32⟩
def PWM_LEG_OFS_OFS (n : Nat) : Fld := ⟨Reg.PWM_LEG_OFS n, 0, 30⟩
def PWM_LEG_DT_DTR (n : Nat) : Fld := ⟨Reg.PWM_LEG_DT n, 0, 16⟩
def PWM_LEG_DT_DTF (n : Nat) : Fld := ⟨Reg.PWM_LEG_DT n, 16, 16⟩
def PWM_LEG_MINP_MINP (n : Nat) : Fld := ⟨Reg.PWM_LEG_MINP n, 0, 16⟩
def PWM_LEG_ACTA_VALUE (n : Nat) : Fld := ⟨Reg.PWM_LEG_ACTA n, 0, 32⟩
def PWM_LEG_ACTB_VALUE (n : Nat) : Fld := ⟨Reg.PWM_LEG_ACTB n, 0, 32⟩
def PWM_LEG_ACTOFS_VALUE (n : Nat) : Fld := ⟨Reg.PWM_LEG_ACTOFS n, 0, 32⟩
def PWM_LEG_OVR_EN (n : Nat) : Fld := ⟨Reg.PWM_LEG_OVR n, 0, 1⟩
def PWM_LEG_OVR_H (n : Nat) : Fld := ⟨Reg.PWM_LEG_OVR n, 1, 1⟩
def PWM_LEG_OVR_L (n : Nat) : Fld := ⟨Reg.PWM_LEG_OVR n, 2, 1⟩
def PWM_LEG_GUARD_MAXON (n : Nat) : Fld := ⟨Reg.PWM_LEG_GUARD n, 0, 16⟩
def PWM_LEG_FLAGS_CLAMP (n : Nat) : Fld := ⟨Reg.PWM_LEG_FLAGS n, 0, 1⟩
def PWM_LEG_FLAGS_SHORT (n : Nat) : Fld := ⟨Reg.PWM_LEG_FLAGS n, 1, 1⟩
def PWM_LEG_FLAGS_SHOOT (n : Nat) : Fld := ⟨Reg.PWM_LEG_FLAGS n, 2, 1⟩
def PWM_LEG_FLAGS_GUARD (n : Nat) : Fld := ⟨Reg.PWM_LEG_FLAGS n, 3, 1⟩
def PWM_LEG_STATE_H (n : Nat) : Fld := ⟨Reg.PWM_LEG_STATE n, 0, 1⟩
def PWM_LEG_STATE_L (n : Nat) : Fld := ⟨Reg.PWM_LEG_STATE n, 1, 1⟩
def PWM_LEG_STATE_REF (n : Nat) : Fld := ⟨Reg.PWM_LEG_STATE n, 2, 1⟩
def PWM_LEG_STATE_FORCED (n : Nat) : Fld := ⟨Reg.PWM_LEG_STATE n, 3, 1⟩
def PWM_LEG_STATE_HELD (n : Nat) : Fld := ⟨Reg.PWM_LEG_STATE n, 4, 1⟩
def PWM_LEG_STATE_GUARDED (n : Nat) : Fld := ⟨Reg.PWM_LEG_STATE n, 5, 1⟩
def PWM_LEG_EVCNT_COUNT (n k : Nat) : Fld := ⟨Reg.PWM_LEG_EVCNT n k, 0, 16⟩
def PWM_FMAPMOD_MASK (n : Nat) : Fld := ⟨Reg.PWM_FMAPMOD n, 0, 32⟩
def PWM_FMAPFLT_MASK (n : Nat) : Fld := ⟨Reg.PWM_FMAPFLT n, 0, 32⟩
def PWM_FMAPPROT_MASK : Fld := ⟨Reg.PWM_FMAPPROT, 0, 16⟩
def PWM_FLTINCFG_EN : Fld := ⟨Reg.PWM_FLTINCFG, 0, 8⟩
def PWM_FLTINCFG_POL : Fld := ⟨Reg.PWM_FLTINCFG, 8, 8⟩
def PWM_FSTAT_DOM : Fld := ⟨Reg.PWM_FSTAT, 0, 8⟩
def PWM_FSTAT_DEMAND : Fld := ⟨Reg.PWM_FSTAT, 8, 8⟩
def PWM_FSTAT_SYS : Fld := ⟨Reg.PWM_FSTAT, 16, 1⟩
def PWM_FSTAT_PFW : Fld := ⟨Reg.PWM_FSTAT, 17, 1⟩
def PWM_FSTAT_DBG : Fld := ⟨Reg.PWM_FSTAT, 18, 1⟩
def PWM_FSTAT_GRPLK : Fld := ⟨Reg.PWM_FSTAT, 20, 12⟩
def PWM_FEVCNT_COUNT (n : Nat) : Fld := ⟨Reg.PWM_FEVCNT n, 0, 16⟩
def PWM_FEVCNTSYS_COUNT : Fld := ⟨Reg.PWM_FEVCNTSYS, 0, 16⟩
def PWM_FEVCNTDBG_COUNT : Fld := ⟨Reg.PWM_FEVCNTDBG, 0, 16⟩
def DRIVE_IRQSTAT_PEND : Fld := ⟨Reg.DRIVE_IRQSTAT, 0, 12⟩
def DRIVE_G_CFG_LANEEN (n : Nat) : Fld := ⟨Reg.DRIVE_G_CFG n, 0, 1⟩
def DRIVE_G_CFG_HPOL (n : Nat) : Fld := ⟨Reg.DRIVE_G_CFG n, 1, 1⟩
def DRIVE_G_CFG_LPOL (n : Nat) : Fld := ⟨Reg.DRIVE_G_CFG n, 2, 1⟩
def DRIVE_G_RETRY_WAIT (n : Nat) : Fld := ⟨Reg.DRIVE_G_RETRY n, 0, 10⟩
def DRIVE_G_RETRY_MAXTRY (n : Nat) : Fld := ⟨Reg.DRIVE_G_RETRY n, 16, 4⟩
def DRIVE_G_RETRY_WINDOW (n : Nat) : Fld := ⟨Reg.DRIVE_G_RETRY n, 24, 6⟩
def DRIVE_G_CTRL_CLEAR (n : Nat) : Fld := ⟨Reg.DRIVE_G_CTRL n, 0, 1⟩
def DRIVE_G_STAT_STATE (n : Nat) : Fld := ⟨Reg.DRIVE_G_STAT n, 0, 2⟩
def DRIVE_G_STAT_TRIES (n : Nat) : Fld := ⟨Reg.DRIVE_G_STAT n, 4, 5⟩
def DRIVE_G_STAT_KIND (n : Nat) : Fld := ⟨Reg.DRIVE_G_STAT n, 10, 2⟩
def DRIVE_G_STAT_LEG (n : Nat) : Fld := ⟨Reg.DRIVE_G_STAT n, 12, 2⟩
def DRIVE_G_STAT_FLTN (n : Nat) : Fld := ⟨Reg.DRIVE_G_STAT n, 16, 4⟩
def DRIVE_G_STAT_BREAK (n : Nat) : Fld := ⟨Reg.DRIVE_G_STAT n, 20, 1⟩
def DRIVE_G_STAT_RESTORED (n : Nat) : Fld := ⟨Reg.DRIVE_G_STAT n, 21, 1⟩
def DRIVE_G_FLAGS_FAULT (n : Nat) : Fld := ⟨Reg.DRIVE_G_FLAGS n, 0, 1⟩
def DRIVE_G_FLAGS_RETRY (n : Nat) : Fld := ⟨Reg.DRIVE_G_FLAGS n, 1, 1⟩
def DRIVE_G_FLAGS_LOCK (n : Nat) : Fld := ⟨Reg.DRIVE_G_FLAGS n, 2, 1⟩
def DRIVE_G_FLAGS_LATEFR (n : Nat) : Fld := ⟨Reg.DRIVE_G_FLAGS n, 3, 1⟩
def DRIVE_G_FLAGS_RFWIDE (n : Nat) : Fld := ⟨Reg.DRIVE_G_FLAGS n, 4, 1⟩
def DRIVE_G_FLAGS_CLRREF (n : Nat) : Fld := ⟨Reg.DRIVE_G_FLAGS n, 5, 1⟩
def DRIVE_G_FLAGS_WCOLL (n : Nat) : Fld := ⟨Reg.DRIVE_G_FLAGS n, 6, 1⟩
def DRIVE_G_FLAGS_CFGERR (n : Nat) : Fld := ⟨Reg.DRIVE_G_FLAGS n, 7, 1⟩
def DRIVE_G_IRQEN_EN (n : Nat) : Fld := ⟨Reg.DRIVE_G_IRQEN n, 0, 8⟩
def DRIVE_G_WAITREM_MS (n : Nat) : Fld := ⟨Reg.DRIVE_G_WAITREM n, 0, 10⟩
def DRIVE_G_EVCNT_COUNT (n k : Nat) : Fld := ⟨Reg.DRIVE_G_EVCNT n k, 0, 16⟩
def DRIVE_LEG_CODE_HON (n : Nat) : Fld := ⟨Reg.DRIVE_LEG_CODE n, 0, 4⟩
def DRIVE_LEG_CODE_HOFF (n : Nat) : Fld := ⟨Reg.DRIVE_LEG_CODE n, 4, 4⟩
def DRIVE_LEG_CODE_LON (n : Nat) : Fld := ⟨Reg.DRIVE_LEG_CODE n, 8, 4⟩
def DRIVE_LEG_CODE_LOFF (n : Nat) : Fld := ⟨Reg.DRIVE_LEG_CODE n, 12, 4⟩
def DRIVE_LEG_CODE_CPEN (n : Nat) : Fld := ⟨Reg.DRIVE_LEG_CODE n, 16, 1⟩
def DRIVE_LEG_SENT_CODE (n : Nat) : Fld := ⟨Reg.DRIVE_LEG_SENT n, 0, 17⟩
def DRIVE_LEG_HS_MODE (n : Nat) : Fld := ⟨Reg.DRIVE_LEG_HS n, 0, 1⟩
def DRIVE_LEG_HS_K (n : Nat) : Fld := ⟨Reg.DRIVE_LEG_HS n, 8, 8⟩
def DRIVE_LEG_HS_RFW (n : Nat) : Fld := ⟨Reg.DRIVE_LEG_HS n, 16, 16⟩
def DRIVE_LEG_RFCNT_COUNT (n : Nat) : Fld := ⟨Reg.DRIVE_LEG_RFCNT n, 0, 32⟩
def MODIN_IRQSTAT_PEND : Fld := ⟨Reg.MODIN_IRQSTAT, 0, 8⟩
def MODIN_GFLAGS_CFGERR : Fld := ⟨Reg.MODIN_GFLAGS, 0, 1⟩
def MODIN_GIRQEN_CFGERREN : Fld := ⟨Reg.MODIN_GIRQEN, 0, 1⟩
def MODIN_CFGERRCNT_COUNT : Fld := ⟨Reg.MODIN_CFGERRCNT, 0, 16⟩
def MODIN_GCFG_MODE (n : Nat) : Fld := ⟨Reg.MODIN_GCFG n, 0, 2⟩
def MODIN_GCFG_EDGE (n : Nat) : Fld := ⟨Reg.MODIN_GCFG n, 2, 1⟩
def MODIN_GCFG_DEC (n : Nat) : Fld := ⟨Reg.MODIN_GCFG n, 3, 1⟩
def MODIN_GCFG_RDYSEL (n : Nat) : Fld := ⟨Reg.MODIN_GCFG n, 4, 3⟩
def MODIN_GCFG_SKEW (n : Nat) : Fld := ⟨Reg.MODIN_GCFG n, 8, 7⟩
def MODIN_GEXTDLY_EXTDLY (n : Nat) : Fld := ⟨Reg.MODIN_GEXTDLY n, 0, 16⟩
def MODIN_GSTAMP_LO_STAMP (n : Nat) : Fld := ⟨Reg.MODIN_GSTAMP_LO n, 0, 32⟩
def MODIN_GSTAMP_HI_STAMP (n : Nat) : Fld := ⟨Reg.MODIN_GSTAMP_HI n, 0, 32⟩
def MODIN_GRESCNT_COUNT (n : Nat) : Fld := ⟨Reg.MODIN_GRESCNT n, 0, 32⟩
def MODIN_GFLAGSG_STBOVF (n : Nat) : Fld := ⟨Reg.MODIN_GFLAGSG n, 0, 1⟩
def MODIN_GIRQENG_OCEN (n : Nat) : Fld := ⟨Reg.MODIN_GIRQENG n, 0, 8⟩
def MODIN_GIRQENG_HEN (n : Nat) : Fld := ⟨Reg.MODIN_GIRQENG n, 8, 8⟩
def MODIN_GIRQENG_STBOVFEN (n : Nat) : Fld := ⟨Reg.MODIN_GIRQENG n, 16, 1⟩
def MODIN_GSTBOVFCNT_COUNT (n : Nat) : Fld := ⟨Reg.MODIN_GSTBOVFCNT n, 0, 16⟩
def MODIN_IN_CFG_EN (n : Nat) : Fld := ⟨Reg.MODIN_IN_CFG n, 0, 1⟩
def MODIN_IN_CFG_ORD (n : Nat) : Fld := ⟨Reg.MODIN_IN_CFG n, 1, 3⟩
def MODIN_IN_CFG_OSR (n : Nat) : Fld := ⟨Reg.MODIN_IN_CFG n, 4, 11⟩
def MODIN_IN_CFG_FORD (n : Nat) : Fld := ⟨Reg.MODIN_IN_CFG n, 16, 2⟩
def MODIN_IN_CFG_FOSR (n : Nat) : Fld := ⟨Reg.MODIN_IN_CFG n, 18, 7⟩
def MODIN_IN_CFG_HFORCE (n : Nat) : Fld := ⟨Reg.MODIN_IN_CFG n, 25, 1⟩
def MODIN_IN_CFG_INV (n : Nat) : Fld := ⟨Reg.MODIN_IN_CFG n, 26, 1⟩
def MODIN_IN_RES_VALUE (n : Nat) : Fld := ⟨Reg.MODIN_IN_RES n, 0, 32⟩
def MODIN_IN_FAST_VALUE (n : Nat) : Fld := ⟨Reg.MODIN_IN_FAST n, 0, 32⟩
def MODIN_IN_THHI_TH (n : Nat) : Fld := ⟨Reg.MODIN_IN_THHI n, 0, 32⟩
def MODIN_IN_THLO_TH (n : Nat) : Fld := ⟨Reg.MODIN_IN_THLO n, 0, 32⟩
def MODIN_IN_OCCFG_HIEN (n : Nat) : Fld := ⟨Reg.MODIN_IN_OCCFG n, 0, 1⟩
def MODIN_IN_OCCFG_LOEN (n : Nat) : Fld := ⟨Reg.MODIN_IN_OCCFG n, 1, 1⟩
def MODIN_IN_OCCFG_DEB (n : Nat) : Fld := ⟨Reg.MODIN_IN_OCCFG n, 4, 4⟩
def MODIN_IN_FLAGS_OCHI (n : Nat) : Fld := ⟨Reg.MODIN_IN_FLAGS n, 0, 1⟩
def MODIN_IN_FLAGS_OCLO (n : Nat) : Fld := ⟨Reg.MODIN_IN_FLAGS n, 1, 1⟩
def MODIN_IN_FLAGS_CLKLOSS (n : Nat) : Fld := ⟨Reg.MODIN_IN_FLAGS n, 2, 1⟩
def MODIN_IN_FLAGS_STUCK (n : Nat) : Fld := ⟨Reg.MODIN_IN_FLAGS n, 3, 1⟩
def MODIN_IN_FLAGS_MANV (n : Nat) : Fld := ⟨Reg.MODIN_IN_FLAGS n, 4, 1⟩
def MODIN_IN_FLAGS_SAT (n : Nat) : Fld := ⟨Reg.MODIN_IN_FLAGS n, 5, 1⟩
def MODIN_IN_FLAGS_VALID (n : Nat) : Fld := ⟨Reg.MODIN_IN_FLAGS n, 8, 1⟩
def MODIN_IN_FLAGS_SETTLE (n : Nat) : Fld := ⟨Reg.MODIN_IN_FLAGS n, 9, 1⟩
def MODIN_IN_FLAGS_FAULT (n : Nat) : Fld := ⟨Reg.MODIN_IN_FLAGS n, 10, 1⟩
def MODIN_IN_HCFG_ACTMAX (n : Nat) : Fld := ⟨Reg.MODIN_IN_HCFG n, 0, 10⟩
def MODIN_IN_HCFG_MANVTHR (n : Nat) : Fld := ⟨Reg.MODIN_IN_HCFG n, 16, 4⟩
def MODIN_IN_EVCNT_COUNT (n k : Nat) : Fld := ⟨Reg.MODIN_IN_EVCNT n k, 0, 16⟩
def ACU_CFG_URGMODE : Fld := ⟨Reg.ACU_CFG, 0, 1⟩
def ACU_CFG_CORREN : Fld := ⟨Reg.ACU_CFG, 1, 1⟩
def ACU_CFG_PACE : Fld := ⟨Reg.ACU_CFG, 2, 1⟩
def ACU_CFG_WRAP : Fld := ⟨Reg.ACU_CFG, 3, 1⟩
def ACU_CFG_OSR : Fld := ⟨Reg.ACU_CFG, 16, 13⟩
def ACU_CMD_SINGLE : Fld := ⟨Reg.ACU_CMD, 0, 1⟩
def ACU_CMD_LISTGO : Fld := ⟨Reg.ACU_CMD, 1, 1⟩
def ACU_CMD_LISTSTOP : Fld := ⟨Reg.ACU_CMD, 2, 1⟩
def ACU_CMD_CALZERO : Fld := ⟨Reg.ACU_CMD, 3, 1⟩
def ACU_CMD_CALFULL : Fld := ⟨Reg.ACU_CMD, 4, 1⟩
def ACU_CMD_URGENT : Fld := ⟨Reg.ACU_CMD, 5, 1⟩
def ACU_CHSEL_CH : Fld := ⟨Reg.ACU_CHSEL, 0, 6⟩
def ACU_CHSEL_OSR : Fld := ⟨Reg.ACU_CHSEL, 16, 13⟩
def ACU_URGSEL_CH : Fld := ⟨Reg.ACU_URGSEL, 0, 6⟩
def ACU_URGSEL_OSR : Fld := ⟨Reg.ACU_URGSEL, 16, 13⟩
def ACU_STATUS_BUSY : Fld := ⟨Reg.ACU_STATUS, 0, 1⟩
def ACU_STATUS_LISTRUN : Fld := ⟨Reg.ACU_STATUS, 1, 1⟩
def ACU_STATUS_URGPEND : Fld := ⟨Reg.ACU_STATUS, 2, 1⟩
def ACU_STATUS_STEPPEND : Fld := ⟨Reg.ACU_STATUS, 3, 1⟩
def ACU_STATUS_CALRUN : Fld := ⟨Reg.ACU_STATUS, 4, 1⟩
def ACU_STATUS_CALLOAD : Fld := ⟨Reg.ACU_STATUS, 5, 1⟩
def ACU_STATUS_IDX : Fld := ⟨Reg.ACU_STATUS, 16, 10⟩
def ACU_FLAGS_LISTDONE : Fld := ⟨Reg.ACU_FLAGS, 0, 1⟩
def ACU_FLAGS_SINGLEDONE : Fld := ⟨Reg.ACU_FLAGS, 1, 1⟩
def ACU_FLAGS_URGDONE : Fld := ⟨Reg.ACU_FLAGS, 2, 1⟩
def ACU_FLAGS_LISTOVF : Fld := ⟨Reg.ACU_FLAGS, 3, 1⟩
def ACU_FLAGS_STEPOVF : Fld := ⟨Reg.ACU_FLAGS, 4, 1⟩
def ACU_FLAGS_URGOVF : Fld := ⟨Reg.ACU_FLAGS, 5, 1⟩
def ACU_FLAGS_BADWORD : Fld := ⟨Reg.ACU_FLAGS, 6, 1⟩
def ACU_FLAGS_REFUSED : Fld := ⟨Reg.ACU_FLAGS, 7, 1⟩
def ACU_FLAGS_NOCLK : Fld := ⟨Reg.ACU_FLAGS, 8, 1⟩
def ACU_FLAGS_SAT : Fld := ⟨Reg.ACU_FLAGS, 9, 1⟩
def ACU_FLAGS_CALDONE : Fld := ⟨Reg.ACU_FLAGS, 10, 1⟩
def ACU_FLAGS_CALERR : Fld := ⟨Reg.ACU_FLAGS, 11, 1⟩
def ACU_FLAGS_ABORT : Fld := ⟨Reg.ACU_FLAGS, 12, 1⟩
def ACU_IRQEN_EN : Fld := ⟨Reg.ACU_IRQEN, 0, 13⟩
def ACU_RES_VALUE : Fld := ⟨Reg.ACU_RES, 0, 32⟩
def ACU_RESINFO_CH : Fld := ⟨Reg.ACU_RESINFO, 0, 6⟩
def ACU_RESINFO_VALID : Fld := ⟨Reg.ACU_RESINFO, 8, 1⟩
def ACU_RESINFO_KIND : Fld := ⟨Reg.ACU_RESINFO, 9, 2⟩
def ACU_RESINFO_IDX : Fld := ⟨Reg.ACU_RESINFO, 16, 10⟩
def ACU_URGRES_VALUE : Fld := ⟨Reg.ACU_URGRES, 0, 32⟩
def ACU_STAMP_LO_STAMP : Fld := ⟨Reg.ACU_STAMP_LO, 0, 32⟩
def ACU_STAMP_HI_STAMP : Fld := ⟨Reg.ACU_STAMP_HI, 0, 32⟩
def ACU_LISTCTRL_FIRST : Fld := ⟨Reg.ACU_LISTCTRL, 0, 10⟩
def ACU_EVCNT_COUNT (n : Nat) : Fld := ⟨Reg.ACU_EVCNT n, 0, 16⟩
def ACU_CALCH_CH : Fld := ⟨Reg.ACU_CALCH, 0, 6⟩
def ACU_CALCH_AVG : Fld := ⟨Reg.ACU_CALCH, 8, 4⟩
def ACU_CALCH_OSR : Fld := ⟨Reg.ACU_CALCH, 16, 13⟩
def ACU_CALREF_REF : Fld := ⟨Reg.ACU_CALREF, 0, 24⟩
def ACU_CAL_OFS_OFS (n : Nat) : Fld := ⟨Reg.ACU_CAL_OFS n, 0, 24⟩
def ACU_CAL_GAIN_GAIN (n : Nat) : Fld := ⟨Reg.ACU_CAL_GAIN n, 0, 24⟩
def ACU_CAL_GAIN_MISS (n : Nat) : Fld := ⟨Reg.ACU_CAL_GAIN n, 31, 1⟩
def ACU_WIN_CFG_CH (n : Nat) : Fld := ⟨Reg.ACU_WIN_CFG n, 0, 6⟩
def ACU_WIN_CFG_EN (n : Nat) : Fld := ⟨Reg.ACU_WIN_CFG n, 8, 1⟩
def ACU_WIN_LO_LO (n : Nat) : Fld := ⟨Reg.ACU_WIN_LO n, 0, 24⟩
def ACU_WIN_HI_HI (n : Nat) : Fld := ⟨Reg.ACU_WIN_HI n, 0, 24⟩
def ACU_WIN_HYST_HYST (n : Nat) : Fld := ⟨Reg.ACU_WIN_HYST n, 0, 24⟩
def ACU_WINSTAT_OUT : Fld := ⟨Reg.ACU_WINSTAT, 0, 16⟩
def ACU_WINSTAT_OUTSIDE : Fld := ⟨Reg.ACU_WINSTAT, 16, 16⟩
def ACU_WINIRQEN_EN : Fld := ⟨Reg.ACU_WINIRQEN, 0, 16⟩
def ACU_WINCNT_COUNT (n : Nat) : Fld := ⟨Reg.ACU_WINCNT n, 0, 16⟩
def ACU_LIST_WORD (n : Nat) : Fld := ⟨Reg.ACU_LIST n, 0, 32⟩
def ACU_RESMEM_VALUE (n : Nat) : Fld := ⟨Reg.ACU_RESMEM n, 0, 24⟩
def ACU_RESMEM_VALID (n : Nat) : Fld := ⟨Reg.ACU_RESMEM n, 24, 1⟩
def ACU_RESMEM_CH (n : Nat) : Fld := ⟨Reg.ACU_RESMEM n, 25, 6⟩
def ACU_RESMEM_SAT (n : Nat) : Fld := ⟨Reg.ACU_RESMEM n, 31, 1⟩
def METER_STATUS_RESTORING : Fld := ⟨Reg.METER_STATUS, 0, 1⟩
def METER_STATUS_FRESH : Fld := ⟨Reg.METER_STATUS, 1, 1⟩
def METER_STATUS_SAVEFAIL : Fld := ⟨Reg.METER_STATUS, 2, 1⟩
def METER_STATUS_SAVING : Fld := ⟨Reg.METER_STATUS, 3, 1⟩
def METER_FLAGS_SNAP : Fld := ⟨Reg.METER_FLAGS, 0, 1⟩
def METER_FLAGS_SNAPOVF : Fld := ⟨Reg.METER_FLAGS, 1, 1⟩
def METER_FLAGS_SAVEDONE : Fld := ⟨Reg.METER_FLAGS, 2, 1⟩
def METER_FLAGS_SAVEERR : Fld := ⟨Reg.METER_FLAGS, 3, 1⟩
def METER_FLAGS_MTR_LOSS : Fld := ⟨Reg.METER_FLAGS, 4, 1⟩
def METER_FLAGS_RESTORED : Fld := ⟨Reg.METER_FLAGS, 5, 1⟩
def METER_FLAGS_INVAL : Fld := ⟨Reg.METER_FLAGS, 6, 1⟩
def METER_FLAGS_NOLOAD : Fld := ⟨Reg.METER_FLAGS, 7, 1⟩
def METER_FLAGS_RATEOVF : Fld := ⟨Reg.METER_FLAGS, 8, 1⟩
def METER_FLAGS_BADCFG : Fld := ⟨Reg.METER_FLAGS, 9, 1⟩
def METER_FLAGS_TESTON : Fld := ⟨Reg.METER_FLAGS, 10, 1⟩
def METER_IRQEN_EN : Fld := ⟨Reg.METER_IRQEN, 0, 11⟩
def METER_SAVECFG_SAVEINT : Fld := ⟨Reg.METER_SAVECFG, 0, 13⟩
def METER_SAVESEQ_SEQ : Fld := ⟨Reg.METER_SAVESEQ, 0, 32⟩
def METER_RINGIDX_SLOT : Fld := ⟨Reg.METER_RINGIDX, 0, 10⟩
def METER_LOSS_WH (n : Nat) : Fld := ⟨Reg.METER_LOSS n, 0, 32⟩
def METER_TSGCFG_EN : Fld := ⟨Reg.METER_TSGCFG, 0, 1⟩
def METER_TSGCFG_PT : Fld := ⟨Reg.METER_TSGCFG, 1, 2⟩
def METER_TSGV_PEAK : Fld := ⟨Reg.METER_TSGV, 0, 32⟩
def METER_TSGI_PEAK : Fld := ⟨Reg.METER_TSGI, 0, 32⟩
def METER_TSGPH_PH : Fld := ⟨Reg.METER_TSGPH, 0, 32⟩
def METER_TSGF_F : Fld := ⟨Reg.METER_TSGF, 0, 32⟩
def METER_EVCNT_COUNT (n : Nat) : Fld := ⟨Reg.METER_EVCNT n, 0, 16⟩
def METER_PLS_CFG_EN (n : Nat) : Fld := ⟨Reg.METER_PLS_CFG n, 0, 1⟩
def METER_PLS_CFG_PT (n : Nat) : Fld := ⟨Reg.METER_PLS_CFG n, 1, 2⟩
def METER_PLS_CFG_ACC (n : Nat) : Fld := ⟨Reg.METER_PLS_CFG n, 4, 4⟩
def METER_PLS_CFG_POL (n : Nat) : Fld := ⟨Reg.METER_PLS_CFG n, 8, 1⟩
def METER_PLS_KP_KP (n : Nat) : Fld := ⟨Reg.METER_PLS_KP n, 0, 32⟩
def METER_PLS_WIDTH_W (n : Nat) : Fld := ⟨Reg.METER_PLS_WIDTH n, 0, 8⟩
def METER_PLS_STAT_PEND (n : Nat) : Fld := ⟨Reg.METER_PLS_STAT n, 0, 16⟩
def METER_PLS_STAT_HIGH (n : Nat) : Fld := ⟨Reg.METER_PLS_STAT n, 16, 1⟩
def METER_PLS_DROPCNT_COUNT (n : Nat) : Fld := ⟨Reg.METER_PLS_DROPCNT n, 0, 16⟩
def METER_MP_CFG_EN (n : Nat) : Fld := ⟨Reg.METER_MP_CFG n, 0, 1⟩
def METER_MP_CFG_WIRE (n : Nat) : Fld := ⟨Reg.METER_MP_CFG n, 1, 1⟩
def METER_MP_CFG_GP (n : Nat) : Fld := ⟨Reg.METER_MP_CFG n, 2, 2⟩
def METER_MP_CFG_TESTOK (n : Nat) : Fld := ⟨Reg.METER_MP_CFG n, 4, 1⟩
def METER_MP_VIN_VA (n : Nat) : Fld := ⟨Reg.METER_MP_VIN n, 0, 6⟩
def METER_MP_VIN_VB (n : Nat) : Fld := ⟨Reg.METER_MP_VIN n, 8, 6⟩
def METER_MP_VIN_VC (n : Nat) : Fld := ⟨Reg.METER_MP_VIN n, 16, 6⟩
def METER_MP_IIN_IA (n : Nat) : Fld := ⟨Reg.METER_MP_IIN n, 0, 6⟩
def METER_MP_IIN_IB (n : Nat) : Fld := ⟨Reg.METER_MP_IIN n, 8, 6⟩
def METER_MP_IIN_IC (n : Nat) : Fld := ⟨Reg.METER_MP_IIN n, 16, 6⟩
def METER_MP_IIN_IN (n : Nat) : Fld := ⟨Reg.METER_MP_IIN n, 24, 6⟩
def METER_MP_PFS_PFS (n : Nat) : Fld := ⟨Reg.METER_MP_PFS n, 0, 32⟩
def METER_MP_INOM_INOM (n : Nat) : Fld := ⟨Reg.METER_MP_INOM n, 0, 32⟩
def METER_MP_STRT_ISTR (n : Nat) : Fld := ⟨Reg.METER_MP_STRT n, 0, 16⟩
def METER_MP_STATUS_RUN (n : Nat) : Fld := ⟨Reg.METER_MP_STATUS n, 0, 1⟩
def METER_MP_STATUS_NOLOAD (n : Nat) : Fld := ⟨Reg.METER_MP_STATUS n, 1, 1⟩
def METER_MP_STATUS_TEST (n : Nat) : Fld := ⟨Reg.METER_MP_STATUS n, 2, 1⟩
def METER_MP_STATUS_BADCFG (n : Nat) : Fld := ⟨Reg.METER_MP_STATUS n, 3, 1⟩
def METER_MP_STATUS_INVAL (n : Nat) : Fld := ⟨Reg.METER_MP_STATUS n, 4, 1⟩
def METER_MP_STATUS_SEG (n : Nat) : Fld := ⟨Reg.METER_MP_STATUS n, 8, 12⟩
def METER_MP_MISSCNT_COUNT (n : Nat) : Fld := ⟨Reg.METER_MP_MISSCNT n, 0, 32⟩
def METER_MP_CMD_SNAP (n : Nat) : Fld := ⟨Reg.METER_MP_CMD n, 0, 1⟩
def METER_CH_OFS_OFS (n k : Nat) : Fld := ⟨Reg.METER_CH_OFS n k, 0, 32⟩
def METER_CH_BND_BND (n k j : Nat) : Fld := ⟨Reg.METER_CH_BND n k j, 0, 32⟩
def METER_CH_GAIN_GAIN (n k j : Nat) : Fld := ⟨Reg.METER_CH_GAIN n k j, 0, 32⟩
def METER_CH_DLY_DLY (n k j : Nat) : Fld := ⟨Reg.METER_CH_DLY n k j, 0, 16⟩
def METER_E_LO_INT (n k : Nat) : Fld := ⟨Reg.METER_E_LO n k, 0, 32⟩
def METER_E_HI_INT (n k : Nat) : Fld := ⟨Reg.METER_E_HI n k, 0, 32⟩
def METER_E_FRAC_FRAC (n k : Nat) : Fld := ⟨Reg.METER_E_FRAC n k, 0, 32⟩
def METER_SNAP_LO_INT (n k : Nat) : Fld := ⟨Reg.METER_SNAP_LO n k, 0, 32⟩
def METER_SNAP_HI_INT (n k : Nat) : Fld := ⟨Reg.METER_SNAP_HI n k, 0, 32⟩
def METER_SNAP_FRAC_FRAC (n k : Nat) : Fld := ⟨Reg.METER_SNAP_FRAC n k, 0, 32⟩
def METER_SNAPSTAMP_LO_STAMP (n : Nat) : Fld := ⟨Reg.METER_SNAPSTAMP_LO n, 0, 32⟩
def METER_SNAPSTAMP_HI_STAMP (n : Nat) : Fld := ⟨Reg.METER_SNAPSTAMP_HI n, 0, 32⟩
def METER_SNAPSEQ_SEQ (n : Nat) : Fld := ⟨Reg.METER_SNAPSEQ n, 0, 32⟩
def METER_WINRES_WORD (n k : Nat) : Fld := ⟨Reg.METER_WINRES n k, 0, 32⟩
def METER_HARM_MAG (n k j : Nat) : Fld := ⟨Reg.METER_HARM n k j, 0, 32⟩
def SEQ_IRQSTAT_PEND : Fld := ⟨Reg.SEQ_IRQSTAT, 0, 4⟩
def SEQ_GP_CFG_EN (n : Nat) : Fld := ⟨Reg.SEQ_GP_CFG n, 0, 1⟩
def SEQ_GP_CFG_WIN (n : Nat) : Fld := ⟨Reg.SEQ_GP_CFG n, 1, 2⟩
def SEQ_GP_CFG_RATE (n : Nat) : Fld := ⟨Reg.SEQ_GP_CFG n, 8, 5⟩
def SEQ_GP_CFG_IOSR (n : Nat) : Fld := ⟨Reg.SEQ_GP_CFG n, 16, 9⟩
def SEQ_GP_IN0_VA (n : Nat) : Fld := ⟨Reg.SEQ_GP_IN0 n, 0, 6⟩
def SEQ_GP_IN0_VB (n : Nat) : Fld := ⟨Reg.SEQ_GP_IN0 n, 8, 6⟩
def SEQ_GP_IN0_VC (n : Nat) : Fld := ⟨Reg.SEQ_GP_IN0 n, 16, 6⟩
def SEQ_GP_IN1_IA (n : Nat) : Fld := ⟨Reg.SEQ_GP_IN1 n, 0, 6⟩
def SEQ_GP_IN1_IB (n : Nat) : Fld := ⟨Reg.SEQ_GP_IN1 n, 8, 6⟩
def SEQ_GP_IN1_IC (n : Nat) : Fld := ⟨Reg.SEQ_GP_IN1 n, 16, 6⟩
def SEQ_GP_NOMV_NOM (n : Nat) : Fld := ⟨Reg.SEQ_GP_NOMV n, 0, 32⟩
def SEQ_GP_NOMI_NOM (n : Nat) : Fld := ⟨Reg.SEQ_GP_NOMI n, 0, 32⟩
def SEQ_GP_NOMF_NOMF (n : Nat) : Fld := ⟨Reg.SEQ_GP_NOMF n, 0, 32⟩
def SEQ_GP_TRK_PLLBW (n : Nat) : Fld := ⟨Reg.SEQ_GP_TRK n, 0, 7⟩
def SEQ_GP_TRK_TRKMIN (n : Nat) : Fld := ⟨Reg.SEQ_GP_TRK n, 16, 16⟩
def SEQ_GP_AVG_ROCWIN (n : Nat) : Fld := ⟨Reg.SEQ_GP_AVG n, 0, 10⟩
def SEQ_GP_AVG_DCWIN (n : Nat) : Fld := ⟨Reg.SEQ_GP_AVG n, 16, 8⟩
def SEQ_GP_V2DET_V2DET (n : Nat) : Fld := ⟨Reg.SEQ_GP_V2DET n, 0, 16⟩
def SEQ_GP_FREF_FREF (n : Nat) : Fld := ⟨Reg.SEQ_GP_FREF n, 0, 32⟩
def SEQ_GP_STATUS_LOCK (n : Nat) : Fld := ⟨Reg.SEQ_GP_STATUS n, 0, 1⟩
def SEQ_GP_STATUS_HOLD (n : Nat) : Fld := ⟨Reg.SEQ_GP_STATUS n, 1, 1⟩
def SEQ_GP_STATUS_VALID (n : Nat) : Fld := ⟨Reg.SEQ_GP_STATUS n, 2, 1⟩
def SEQ_GP_STATUS_SETTLE (n : Nat) : Fld := ⟨Reg.SEQ_GP_STATUS n, 3, 1⟩
def SEQ_GP_STATUS_BADCFG (n : Nat) : Fld := ⟨Reg.SEQ_GP_STATUS n, 4, 1⟩
def SEQ_GP_STATUS_V2 (n : Nat) : Fld := ⟨Reg.SEQ_GP_STATUS n, 5, 1⟩
def SEQ_GP_FLAGS_V2 (n : Nat) : Fld := ⟨Reg.SEQ_GP_FLAGS n, 0, 1⟩
def SEQ_GP_FLAGS_LOCK (n : Nat) : Fld := ⟨Reg.SEQ_GP_FLAGS n, 1, 1⟩
def SEQ_GP_FLAGS_LOCKLOSS (n : Nat) : Fld := ⟨Reg.SEQ_GP_FLAGS n, 2, 1⟩
def SEQ_GP_FLAGS_INVALID (n : Nat) : Fld := ⟨Reg.SEQ_GP_FLAGS n, 3, 1⟩
def SEQ_GP_FLAGS_WCOLL (n : Nat) : Fld := ⟨Reg.SEQ_GP_FLAGS n, 4, 1⟩
def SEQ_GP_IRQEN_EN (n : Nat) : Fld := ⟨Reg.SEQ_GP_IRQEN n, 0, 5⟩
def SEQ_GP_UPDCNT_COUNT (n : Nat) : Fld := ⟨Reg.SEQ_GP_UPDCNT n, 0, 32⟩
def SEQ_GP_STAMP_LO_STAMP (n : Nat) : Fld := ⟨Reg.SEQ_GP_STAMP_LO n, 0, 32⟩
def SEQ_GP_STAMP_HI_STAMP (n : Nat) : Fld := ⟨Reg.SEQ_GP_STAMP_HI n, 0, 32⟩
def SEQ_GP_EVCNT_COUNT (n k : Nat) : Fld := ⟨Reg.SEQ_GP_EVCNT n k, 0, 16⟩
def SEQ_GP_CH_VALUE (n k : Nat) : Fld := ⟨Reg.SEQ_GP_CH n k, 0, 32⟩
def PROBE_CFG_EN : Fld := ⟨Reg.PROBE_CFG, 0, 1⟩
def PROBE_CFG_MODE : Fld := ⟨Reg.PROBE_CFG, 1, 1⟩
def PROBE_CFG_GP : Fld := ⟨Reg.PROBE_CFG, 2, 2⟩
def PROBE_CFG_CODE : Fld := ⟨Reg.PROBE_CFG, 8, 6⟩
def PROBE_CFG_CONSEC : Fld := ⟨Reg.PROBE_CFG, 16, 3⟩
def PROBE_CFG_TRIP0 : Fld := ⟨Reg.PROBE_CFG, 24, 1⟩
def PROBE_CFG_TRIP1 : Fld := ⟨Reg.PROBE_CFG, 25, 1⟩
def PROBE_CFG_BLK0 : Fld := ⟨Reg.PROBE_CFG, 26, 1⟩
def PROBE_CFG_BLK1 : Fld := ⟨Reg.PROBE_CFG, 27, 1⟩
def PROBE_AMP_AMP : Fld := ⟨Reg.PROBE_AMP, 0, 8⟩
def PROBE_CHIPLEN_LEN : Fld := ⟨Reg.PROBE_CHIPLEN, 0, 32⟩
def PROBE_GUARD_GUARD : Fld := ⟨Reg.PROBE_GUARD, 0, 16⟩
def PROBE_ZTHR_ZTHR : Fld := ⟨Reg.PROBE_ZTHR, 0, 32⟩
def PROBE_CMDADDR_RK : Fld := ⟨Reg.PROBE_CMDADDR, 0, 2⟩
def PROBE_CMDADDR_ADDR : Fld := ⟨Reg.PROBE_CMDADDR, 3, 13⟩
def PROBE_XCODE0_W1 : Fld := ⟨Reg.PROBE_XCODE0, 8, 6⟩
def PROBE_XCODE0_W2 : Fld := ⟨Reg.PROBE_XCODE0, 16, 6⟩
def PROBE_XCODE0_W3 : Fld := ⟨Reg.PROBE_XCODE0, 24, 6⟩
def PROBE_XCODE1_W4 : Fld := ⟨Reg.PROBE_XCODE1, 0, 6⟩
def PROBE_XCODE1_W5 : Fld := ⟨Reg.PROBE_XCODE1, 8, 6⟩
def PROBE_XCODE1_W6 : Fld := ⟨Reg.PROBE_XCODE1, 16, 6⟩
def PROBE_XCODE1_W7 : Fld := ⟨Reg.PROBE_XCODE1, 24, 6⟩
def PROBE_STATUS_STATE : Fld := ⟨Reg.PROBE_STATUS, 0, 2⟩
def PROBE_STATUS_ISL : Fld := ⟨Reg.PROBE_STATUS, 2, 1⟩
def PROBE_STATUS_BADCFG : Fld := ⟨Reg.PROBE_STATUS, 3, 1⟩
def PROBE_STATUS_COUNT : Fld := ⟨Reg.PROBE_STATUS, 4, 3⟩
def PROBE_STATUS_CHIP : Fld := ⟨Reg.PROBE_STATUS, 8, 6⟩
def PROBE_FLAGS_PERDONE : Fld := ⟨Reg.PROBE_FLAGS, 0, 1⟩
def PROBE_FLAGS_ISL : Fld := ⟨Reg.PROBE_FLAGS, 1, 1⟩
def PROBE_FLAGS_UNUSED : Fld := ⟨Reg.PROBE_FLAGS, 2, 1⟩
def PROBE_FLAGS_STEPERR : Fld := ⟨Reg.PROBE_FLAGS, 3, 1⟩
def PROBE_FLAGS_STEPMISS : Fld := ⟨Reg.PROBE_FLAGS, 4, 1⟩
def PROBE_FLAGS_SUSP : Fld := ⟨Reg.PROBE_FLAGS, 5, 1⟩
def PROBE_FLAGS_CFGERR : Fld := ⟨Reg.PROBE_FLAGS, 6, 1⟩
def PROBE_FLAGS_CLRREF : Fld := ⟨Reg.PROBE_FLAGS, 7, 1⟩
def PROBE_IRQEN_EN : Fld := ⟨Reg.PROBE_IRQEN, 0, 8⟩
def PROBE_CLR_ISLCLR : Fld := ⟨Reg.PROBE_CLR, 0, 1⟩
def PROBE_PERNUM_N : Fld := ⟨Reg.PROBE_PERNUM, 0, 32⟩
def PROBE_ZR_VALUE : Fld := ⟨Reg.PROBE_ZR, 0, 32⟩
def PROBE_ZX_VALUE : Fld := ⟨Reg.PROBE_ZX, 0, 32⟩
def PROBE_ZMAG_VALUE : Fld := ⟨Reg.PROBE_ZMAG, 0, 32⟩
def PROBE_PCAUSE_CAUSE : Fld := ⟨Reg.PROBE_PCAUSE, 0, 3⟩
def PROBE_APPLIED_IQ (n : Nat) : Fld := ⟨Reg.PROBE_APPLIED n, 0, 32⟩
def PROBE_XRESP_RESP (n : Nat) : Fld := ⟨Reg.PROBE_XRESP n, 0, 32⟩
def PROBE_EVCNT_COUNT (n : Nat) : Fld := ⟨Reg.PROBE_EVCNT n, 0, 16⟩
def PROT_STATUS_REGION : Fld := ⟨Reg.PROT_STATUS, 0, 3⟩
def PROT_STATUS_RTOUT : Fld := ⟨Reg.PROT_STATUS, 3, 1⟩
def PROT_STATUS_TIMING : Fld := ⟨Reg.PROT_STATUS, 4, 1⟩
def PROT_STATUS_TRIPPED : Fld := ⟨Reg.PROT_STATUS, 5, 1⟩
def PROT_STATUS_PFRT : Fld := ⟨Reg.PROT_STATUS, 6, 1⟩
def PROT_STATUS_CURVEERR : Fld := ⟨Reg.PROT_STATUS, 7, 1⟩
def PROT_STATUS_UVREG : Fld := ⟨Reg.PROT_STATUS, 8, 3⟩
def PROT_STATUS_OVREG : Fld := ⟨Reg.PROT_STATUS, 12, 3⟩
def PROT_STATUS_UFREG : Fld := ⟨Reg.PROT_STATUS, 16, 3⟩
def PROT_STATUS_OFREG : Fld := ⟨Reg.PROT_STATUS, 20, 3⟩
def PROT_FLAGS_TRIP : Fld := ⟨Reg.PROT_FLAGS, 0, 1⟩
def PROT_FLAGS_PICKUP : Fld := ⟨Reg.PROT_FLAGS, 1, 1⟩
def PROT_FLAGS_REGCHG : Fld := ⟨Reg.PROT_FLAGS, 2, 1⟩
def PROT_FLAGS_MCEND : Fld := ⟨Reg.PROT_FLAGS, 3, 1⟩
def PROT_FLAGS_DCDONE : Fld := ⟨Reg.PROT_FLAGS, 4, 1⟩
def PROT_FLAGS_DCLOST : Fld := ⟨Reg.PROT_FLAGS, 5, 1⟩
def PROT_FLAGS_CLRREF : Fld := ⟨Reg.PROT_FLAGS, 6, 1⟩
def PROT_FLAGS_MEASINV : Fld := ⟨Reg.PROT_FLAGS, 7, 1⟩
def PROT_IRQEN_EN : Fld := ⟨Reg.PROT_IRQEN, 0, 8⟩
def PROT_PICKUP_PICKUP : Fld := ⟨Reg.PROT_PICKUP, 0, 16⟩
def PROT_TRIPLAT_LAT : Fld := ⟨Reg.PROT_TRIPLAT, 0, 16⟩
def PROT_CMD_SWTRIP : Fld := ⟨Reg.PROT_CMD, 0, 1⟩
def PROT_CMD_DCTRIG : Fld := ⟨Reg.PROT_CMD, 1, 1⟩
def PROT_CMD_DCARM : Fld := ⟨Reg.PROT_CMD, 2, 1⟩
def PROT_TRIPCFG_POL0 : Fld := ⟨Reg.PROT_TRIPCFG, 0, 1⟩
def PROT_TRIPCFG_POL1 : Fld := ⟨Reg.PROT_TRIPCFG, 1, 1⟩
def PROT_RTCFG_EN : Fld := ⟨Reg.PROT_RTCFG, 0, 1⟩
def PROT_RTCFG_GP : Fld := ⟨Reg.PROT_RTCFG, 1, 2⟩
def PROT_RTCFG_VSEL : Fld := ⟨Reg.PROT_RTCFG, 3, 1⟩
def PROT_RTCFG_MCBLK : Fld := ⟨Reg.PROT_RTCFG, 4, 1⟩
def PROT_RTCFG_CONTRET : Fld := ⟨Reg.PROT_RTCFG, 16, 16⟩
def PROT_RTVCONT_CONTLO : Fld := ⟨Reg.PROT_RTVCONT, 0, 16⟩
def PROT_RTVCONT_CONTHI : Fld := ⟨Reg.PROT_RTVCONT, 16, 16⟩
def PROT_RTFCONT_CONTUF : Fld := ⟨Reg.PROT_RTFCONT, 0, 16⟩
def PROT_RTFCONT_CONTOF : Fld := ⟨Reg.PROT_RTFCONT, 16, 16⟩
def PROT_RTTIME_MS (n : Nat) : Fld := ⟨Reg.PROT_RTTIME n, 0, 24⟩
def PROT_EVCNT_COUNT (n : Nat) : Fld := ⟨Reg.PROT_EVCNT n, 0, 16⟩
def PROT_PRESET_ADDR (n : Nat) : Fld := ⟨Reg.PROT_PRESET n, 0, 32⟩
def PROT_LATCNT_COUNT (n : Nat) : Fld := ⟨Reg.PROT_LATCNT n, 0, 16⟩
def PROT_STG_CFG_EN (n : Nat) : Fld := ⟨Reg.PROT_STG_CFG n, 0, 1⟩
def PROT_STG_CFG_TRIP0 (n : Nat) : Fld := ⟨Reg.PROT_STG_CFG n, 1, 1⟩
def PROT_STG_CFG_TRIP1 (n : Nat) : Fld := ⟨Reg.PROT_STG_CFG n, 2, 1⟩
def PROT_STG_CFG_BLK0 (n : Nat) : Fld := ⟨Reg.PROT_STG_CFG n, 3, 1⟩
def PROT_STG_CFG_BLK1 (n : Nat) : Fld := ⟨Reg.PROT_STG_CFG n, 4, 1⟩
def PROT_STG_CFG_CAP (n : Nat) : Fld := ⟨Reg.PROT_STG_CFG n, 5, 1⟩
def PROT_STG_CFG_INVACT (n : Nat) : Fld := ⟨Reg.PROT_STG_CFG n, 6, 1⟩
def PROT_STG_CFG_HYST (n : Nat) : Fld := ⟨Reg.PROT_STG_CFG n, 8, 8⟩
def PROT_STG_CFG_LEVEL (n : Nat) : Fld := ⟨Reg.PROT_STG_CFG n, 16, 16⟩
def PROT_STG_TIME_TSET (n : Nat) : Fld := ⟨Reg.PROT_STG_TIME n, 0, 24⟩
def PROT_STG_STATE_PICKUP (n : Nat) : Fld := ⟨Reg.PROT_STG_STATE n, 0, 1⟩
def PROT_STG_STATE_TIMING (n : Nat) : Fld := ⟨Reg.PROT_STG_STATE n, 1, 1⟩
def PROT_STG_STATE_LATCHED (n : Nat) : Fld := ⟨Reg.PROT_STG_STATE n, 2, 1⟩
def PROT_STG_STATE_ELAPSED (n : Nat) : Fld := ⟨Reg.PROT_STG_STATE n, 8, 24⟩
def PROT_RT_W0_LEVEL (n k : Nat) : Fld := ⟨Reg.PROT_RT_W0 n k, 0, 16⟩
def PROT_RT_W0_SLOPE (n k : Nat) : Fld := ⟨Reg.PROT_RT_W0 n k, 16, 16⟩
def PROT_RT_W1_TMAX (n k : Nat) : Fld := ⟨Reg.PROT_RT_W1 n k, 0, 24⟩
def PROT_RT_W1_REGION (n k : Nat) : Fld := ⟨Reg.PROT_RT_W1 n k, 24, 3⟩
def PROT_RT_W1_EXP (n k : Nat) : Fld := ⟨Reg.PROT_RT_W1 n k, 27, 1⟩
def PROT_DCCFG_EN : Fld := ⟨Reg.PROT_DCCFG, 0, 1⟩
def PROT_DCCFG_AUTO : Fld := ⟨Reg.PROT_DCCFG, 1, 1⟩
def PROT_DCCFG_REGTRIG : Fld := ⟨Reg.PROT_DCCFG, 2, 1⟩
def PROT_DCCFG_RATE : Fld := ⟨Reg.PROT_DCCFG, 8, 8⟩
def PROT_DCCFG_NCH : Fld := ⟨Reg.PROT_DCCFG, 16, 5⟩
def PROT_DCCH_CH (n : Nat) : Fld := ⟨Reg.PROT_DCCH n, 0, 32⟩
def PROT_DCTRIG_PICK : Fld := ⟨Reg.PROT_DCTRIG, 0, 16⟩
def PROT_DCTRIG_LATCH : Fld := ⟨Reg.PROT_DCTRIG, 16, 16⟩
def PROT_DCPRE_FRAMES : Fld := ⟨Reg.PROT_DCPRE, 0, 24⟩
def PROT_DCPOST_FRAMES : Fld := ⟨Reg.PROT_DCPOST, 0, 24⟩
def PROT_DCBUF_ADDR : Fld := ⟨Reg.PROT_DCBUF, 0, 32⟩
def PROT_DCBUFLEN_LEN : Fld := ⟨Reg.PROT_DCBUFLEN, 0, 32⟩
def PROT_DCMBASE_ADDR : Fld := ⟨Reg.PROT_DCMBASE, 0, 32⟩
def PROT_DCMLEN_LEN : Fld := ⟨Reg.PROT_DCMLEN, 0, 32⟩
def PROT_DCSTAT_STATE : Fld := ⟨Reg.PROT_DCSTAT, 0, 2⟩
def PROT_DCSTAT_FILL : Fld := ⟨Reg.PROT_DCSTAT, 8, 24⟩
def PROT_DCLAST_ADDR : Fld := ⟨Reg.PROT_DCLAST, 0, 32⟩
def PROT_DCCNT_COUNT : Fld := ⟨Reg.PROT_DCCNT, 0, 32⟩
def ACUX_CAL_OFS_OFS (n : Nat) : Fld := ⟨Reg.ACUX_CAL_OFS n, 0, 24⟩
def ACUX_CAL_GAIN_GAIN (n : Nat) : Fld := ⟨Reg.ACUX_CAL_GAIN n, 0, 24⟩
def ACUX_CAL_GAIN_MISS (n : Nat) : Fld := ⟨Reg.ACUX_CAL_GAIN n, 31, 1⟩
def DMA_CTRL_DBGSTOP : Fld := ⟨Reg.DMA_CTRL, 0, 1⟩
def DMA_IRQSTAT_PEND : Fld := ⟨Reg.DMA_IRQSTAT, 0, 32⟩
def DMA_TAGS_INFLIGHT : Fld := ⟨Reg.DMA_TAGS, 0, 5⟩
def DMA_TAGS_READS : Fld := ⟨Reg.DMA_TAGS, 8, 5⟩
def DMA_CH_CTRL_EN (n : Nat) : Fld := ⟨Reg.DMA_CH_CTRL n, 0, 1⟩
def DMA_CH_CTRL_START (n : Nat) : Fld := ⟨Reg.DMA_CH_CTRL n, 1, 1⟩
def DMA_CH_CTRL_STOP (n : Nat) : Fld := ⟨Reg.DMA_CH_CTRL n, 2, 1⟩
def DMA_CH_CTRL_RESUME (n : Nat) : Fld := ⟨Reg.DMA_CH_CTRL n, 3, 1⟩
def DMA_CH_CFG_PRI (n : Nat) : Fld := ⟨Reg.DMA_CH_CFG n, 0, 2⟩
def DMA_CH_DESC_ADDR (n : Nat) : Fld := ⟨Reg.DMA_CH_DESC n, 5, 27⟩
def DMA_CH_STAT_STATE (n : Nat) : Fld := ⟨Reg.DMA_CH_STAT n, 0, 3⟩
def DMA_CH_STAT_TPEND (n : Nat) : Fld := ⟨Reg.DMA_CH_STAT n, 3, 1⟩
def DMA_CH_STAT_BYTES (n : Nat) : Fld := ⟨Reg.DMA_CH_STAT n, 8, 24⟩
def DMA_CH_FLAGS_DONE (n : Nat) : Fld := ⟨Reg.DMA_CH_FLAGS n, 0, 1⟩
def DMA_CH_FLAGS_ERR (n : Nat) : Fld := ⟨Reg.DMA_CH_FLAGS n, 1, 1⟩
def DMA_CH_FLAGS_OVR (n : Nat) : Fld := ⟨Reg.DMA_CH_FLAGS n, 2, 1⟩
def DMA_CH_FLAGS_EMPTY (n : Nat) : Fld := ⟨Reg.DMA_CH_FLAGS n, 3, 1⟩
def DMA_CH_FLAGS_STOPPED (n : Nat) : Fld := ⟨Reg.DMA_CH_FLAGS n, 4, 1⟩
def DMA_CH_FLAGS_MISMATCH (n : Nat) : Fld := ⟨Reg.DMA_CH_FLAGS n, 5, 1⟩
def DMA_CH_FLAGS_CFGERR (n : Nat) : Fld := ⟨Reg.DMA_CH_FLAGS n, 6, 1⟩
def DMA_CH_FLAGS_IGN (n : Nat) : Fld := ⟨Reg.DMA_CH_FLAGS n, 7, 1⟩
def DMA_CH_IRQEN_EN (n : Nat) : Fld := ⟨Reg.DMA_CH_IRQEN n, 0, 8⟩
def DMA_CH_SWTRIG_TRIG (n : Nat) : Fld := ⟨Reg.DMA_CH_SWTRIG n, 0, 1⟩
def DMA_CH_LASTST_STATUS (n : Nat) : Fld := ⟨Reg.DMA_CH_LASTST n, 0, 3⟩
def DMA_CH_DONECNT_COUNT (n : Nat) : Fld := ⟨Reg.DMA_CH_DONECNT n, 0, 32⟩
def DMA_CH_EVCNT_COUNT (n k : Nat) : Fld := ⟨Reg.DMA_CH_EVCNT n k, 0, 16⟩
def LINK_IRQSTAT_PEND : Fld := ⟨Reg.LINK_IRQSTAT, 0, 8⟩
def LINK_L_CTRL_EN (n : Nat) : Fld := ⟨Reg.LINK_L_CTRL n, 0, 1⟩
def LINK_L_CTRL_TRAIN (n : Nat) : Fld := ⟨Reg.LINK_L_CTRL n, 1, 1⟩
def LINK_L_CTRL_AUTO (n : Nat) : Fld := ⟨Reg.LINK_L_CTRL n, 2, 1⟩
def LINK_L_CTRL_RATE (n : Nat) : Fld := ⟨Reg.LINK_L_CTRL n, 4, 2⟩
def LINK_L_CTRL_LOOP (n : Nat) : Fld := ⟨Reg.LINK_L_CTRL n, 8, 3⟩
def LINK_L_STATUS_STATE (n : Nat) : Fld := ⟨Reg.LINK_L_STATUS n, 0, 2⟩
def LINK_L_STATUS_CLKOK (n : Nat) : Fld := ⟨Reg.LINK_L_STATUS n, 2, 1⟩
def LINK_L_STATUS_LPLLOCK (n : Nat) : Fld := ⟨Reg.LINK_L_STATUS n, 3, 1⟩
def LINK_L_STATUS_EQ0 (n : Nat) : Fld := ⟨Reg.LINK_L_STATUS n, 8, 4⟩
def LINK_L_STATUS_EQ1 (n : Nat) : Fld := ⟨Reg.LINK_L_STATUS n, 12, 4⟩
def LINK_L_STATUS_CRED (n : Nat) : Fld := ⟨Reg.LINK_L_STATUS n, 16, 5⟩
def LINK_L_STATUS_RPLFILL (n : Nat) : Fld := ⟨Reg.LINK_L_STATUS n, 24, 6⟩
def LINK_L_FLAGS_UP (n : Nat) : Fld := ⟨Reg.LINK_L_FLAGS n, 0, 1⟩
def LINK_L_FLAGS_DOWN (n : Nat) : Fld := ⟨Reg.LINK_L_FLAGS n, 1, 1⟩
def LINK_L_FLAGS_TRAINFAIL (n : Nat) : Fld := ⟨Reg.LINK_L_FLAGS n, 2, 1⟩
def LINK_L_FLAGS_CFGERR (n : Nat) : Fld := ⟨Reg.LINK_L_FLAGS n, 3, 1⟩
def LINK_L_FLAGS_CRCERR (n : Nat) : Fld := ⟨Reg.LINK_L_FLAGS n, 4, 1⟩
def LINK_L_FLAGS_REPLAY (n : Nat) : Fld := ⟨Reg.LINK_L_FLAGS n, 5, 1⟩
def LINK_L_FLAGS_DUP (n : Nat) : Fld := ⟨Reg.LINK_L_FLAGS n, 6, 1⟩
def LINK_L_FLAGS_STRMOVF (n : Nat) : Fld := ⟨Reg.LINK_L_FLAGS n, 7, 1⟩
def LINK_L_FLAGS_EVLOST (n : Nat) : Fld := ⟨Reg.LINK_L_FLAGS n, 8, 1⟩
def LINK_L_FLAGS_XLOST (n : Nat) : Fld := ⟨Reg.LINK_L_FLAGS n, 9, 1⟩
def LINK_L_FLAGS_REMERR (n : Nat) : Fld := ⟨Reg.LINK_L_FLAGS n, 10, 1⟩
def LINK_L_FLAGS_PRBSERR (n : Nat) : Fld := ⟨Reg.LINK_L_FLAGS n, 11, 1⟩
def LINK_L_IRQEN_EN (n : Nat) : Fld := ⟨Reg.LINK_L_IRQEN n, 0, 12⟩
def LINK_L_EQ_MANUAL (n : Nat) : Fld := ⟨Reg.LINK_L_EQ n, 0, 1⟩
def LINK_L_EQ_SET0 (n : Nat) : Fld := ⟨Reg.LINK_L_EQ n, 4, 4⟩
def LINK_L_EQ_SET1 (n : Nat) : Fld := ⟨Reg.LINK_L_EQ n, 8, 4⟩
def LINK_L_ASYM_ASYM (n : Nat) : Fld := ⟨Reg.LINK_L_ASYM n, 0, 32⟩
def LINK_L_MARGIN_WIDTH0 (n : Nat) : Fld := ⟨Reg.LINK_L_MARGIN n, 0, 7⟩
def LINK_L_MARGIN_WIDTH1 (n : Nat) : Fld := ⟨Reg.LINK_L_MARGIN n, 8, 7⟩
def LINK_L_MARGIN_PHASE0 (n : Nat) : Fld := ⟨Reg.LINK_L_MARGIN n, 16, 6⟩
def LINK_L_MARGIN_PHASE1 (n : Nat) : Fld := ⟨Reg.LINK_L_MARGIN n, 24, 6⟩
def LINK_L_RTT_RTT (n : Nat) : Fld := ⟨Reg.LINK_L_RTT n, 0, 32⟩
def LINK_L_CRCCNT_COUNT (n : Nat) : Fld := ⟨Reg.LINK_L_CRCCNT n, 0, 32⟩
def LINK_L_REPLAYCNT_COUNT (n : Nat) : Fld := ⟨Reg.LINK_L_REPLAYCNT n, 0, 32⟩
def LINK_L_DUPCNT_COUNT (n : Nat) : Fld := ⟨Reg.LINK_L_DUPCNT n, 0, 32⟩
def LINK_L_PRBS_PAT (n : Nat) : Fld := ⟨Reg.LINK_L_PRBS n, 0, 2⟩
def LINK_L_PRBS_GEN (n : Nat) : Fld := ⟨Reg.LINK_L_PRBS n, 2, 1⟩
def LINK_L_PRBS_CHK (n : Nat) : Fld := ⟨Reg.LINK_L_PRBS n, 3, 1⟩
def LINK_L_PRBS_INJ0 (n : Nat) : Fld := ⟨Reg.LINK_L_PRBS n, 4, 1⟩
def LINK_L_PRBS_INJ1 (n : Nat) : Fld := ⟨Reg.LINK_L_PRBS n, 5, 1⟩
def LINK_L_PRBSERR_COUNT (n k : Nat) : Fld := ⟨Reg.LINK_L_PRBSERR n k, 0, 32⟩
def LINK_L_EVCNT_COUNT (n k : Nat) : Fld := ⟨Reg.LINK_L_EVCNT n k, 0, 16⟩
def LINK_STX_CFG_EN (n k : Nat) : Fld := ⟨Reg.LINK_STX_CFG n k, 0, 1⟩
def LINK_STX_CFG_KIND (n k : Nat) : Fld := ⟨Reg.LINK_STX_CFG n k, 1, 1⟩
def LINK_STX_CFG_SRC (n k : Nat) : Fld := ⟨Reg.LINK_STX_CFG n k, 2, 6⟩
def LINK_SRX_CFG_EN (n k : Nat) : Fld := ⟨Reg.LINK_SRX_CFG n k, 0, 1⟩
def LINK_SRX_CFG_RK (n k : Nat) : Fld := ⟨Reg.LINK_SRX_CFG n k, 2, 2⟩
def LINK_SRX_BASE_ADDR (n k : Nat) : Fld := ⟨Reg.LINK_SRX_BASE n k, 0, 32⟩
def LINK_SRX_LEN_LEN (n k : Nat) : Fld := ⟨Reg.LINK_SRX_LEN n k, 0, 21⟩
def LINK_SRX_WPTR_WPTR (n k : Nat) : Fld := ⟨Reg.LINK_SRX_WPTR n k, 0, 21⟩
def LINK_SRX_CNT_COUNT (n k : Nat) : Fld := ⟨Reg.LINK_SRX_CNT n k, 0, 32⟩
def ETH_CFG_REDMODE : Fld := ⟨Reg.ETH_CFG, 0, 2⟩
def ETH_CFG_FORGET : Fld := ⟨Reg.ETH_CFG, 16, 16⟩
def ETH_STATUS_SPEED0 : Fld := ⟨Reg.ETH_STATUS, 0, 2⟩
def ETH_STATUS_SPEED1 : Fld := ⟨Reg.ETH_STATUS, 2, 2⟩
def ETH_STATUS_LINK0 : Fld := ⟨Reg.ETH_STATUS, 4, 1⟩
def ETH_STATUS_LINK1 : Fld := ⟨Reg.ETH_STATUS, 5, 1⟩
def ETH_STATUS_TSVALID : Fld := ⟨Reg.ETH_STATUS, 8, 1⟩
def ETH_FLAGS_RXD0 : Fld := ⟨Reg.ETH_FLAGS, 0, 1⟩
def ETH_FLAGS_RXD1 : Fld := ⟨Reg.ETH_FLAGS, 1, 1⟩
def ETH_FLAGS_TXD0 : Fld := ⟨Reg.ETH_FLAGS, 2, 1⟩
def ETH_FLAGS_TXD1 : Fld := ⟨Reg.ETH_FLAGS, 3, 1⟩
def ETH_FLAGS_RXEMPTY0 : Fld := ⟨Reg.ETH_FLAGS, 4, 1⟩
def ETH_FLAGS_RXEMPTY1 : Fld := ⟨Reg.ETH_FLAGS, 5, 1⟩
def ETH_FLAGS_DUPLATE : Fld := ⟨Reg.ETH_FLAGS, 6, 1⟩
def ETH_FLAGS_DUPFULL : Fld := ⟨Reg.ETH_FLAGS, 7, 1⟩
def ETH_FLAGS_GNEW : Fld := ⟨Reg.ETH_FLAGS, 8, 1⟩
def ETH_FLAGS_GTAL : Fld := ⟨Reg.ETH_FLAGS, 9, 1⟩
def ETH_FLAGS_SVOVR0 : Fld := ⟨Reg.ETH_FLAGS, 10, 1⟩
def ETH_FLAGS_SVOVR1 : Fld := ⟨Reg.ETH_FLAGS, 11, 1⟩
def ETH_FLAGS_CFGERR : Fld := ⟨Reg.ETH_FLAGS, 12, 1⟩
def ETH_FLAGS_FRMERR : Fld := ⟨Reg.ETH_FLAGS, 13, 1⟩
def ETH_FLAGS_TSINV : Fld := ⟨Reg.ETH_FLAGS, 14, 1⟩
def ETH_FLAGS_PAUSE : Fld := ⟨Reg.ETH_FLAGS, 15, 1⟩
def ETH_IRQEN_EN : Fld := ⟨Reg.ETH_IRQEN, 0, 16⟩
def ETH_DUPFILL_FILL : Fld := ⟨Reg.ETH_DUPFILL, 0, 11⟩
def ETH_GDROP_COUNT : Fld := ⟨Reg.ETH_GDROP, 0, 32⟩
def ETH_EVCNT_COUNT (n : Nat) : Fld := ⟨Reg.ETH_EVCNT n, 0, 16⟩
def ETH_P_CTRL_EN (n : Nat) : Fld := ⟨Reg.ETH_P_CTRL n, 0, 1⟩
def ETH_P_CTRL_RXEN (n : Nat) : Fld := ⟨Reg.ETH_P_CTRL n, 1, 1⟩
def ETH_P_CTRL_TXEN (n : Nat) : Fld := ⟨Reg.ETH_P_CTRL n, 2, 1⟩
def ETH_P_CTRL_PROMISC (n : Nat) : Fld := ⟨Reg.ETH_P_CTRL n, 3, 1⟩
def ETH_P_MACLO_MAC (n : Nat) : Fld := ⟨Reg.ETH_P_MACLO n, 0, 32⟩
def ETH_P_MACHI_MAC (n : Nat) : Fld := ⟨Reg.ETH_P_MACHI n, 0, 16⟩
def ETH_P_RXBASE_ADDR (n : Nat) : Fld := ⟨Reg.ETH_P_RXBASE n, 4, 28⟩
def ETH_P_TXBASE_ADDR (n : Nat) : Fld := ⟨Reg.ETH_P_TXBASE n, 4, 28⟩
def ETH_P_RXCNT_COUNT (n : Nat) : Fld := ⟨Reg.ETH_P_RXCNT n, 0, 9⟩
def ETH_P_TXCNT_COUNT (n : Nat) : Fld := ⟨Reg.ETH_P_TXCNT n, 0, 9⟩
def ETH_P_RXBUFSZ_SIZE (n : Nat) : Fld := ⟨Reg.ETH_P_RXBUFSZ n, 0, 12⟩
def ETH_P_RXIDX_IDX (n : Nat) : Fld := ⟨Reg.ETH_P_RXIDX n, 0, 8⟩
def ETH_P_TXIDX_IDX (n : Nat) : Fld := ⟨Reg.ETH_P_TXIDX n, 0, 8⟩
def ETH_P_TXKICK_KICK (n : Nat) : Fld := ⟨Reg.ETH_P_TXKICK n, 0, 1⟩
def ETH_P_TXLAT_LAT (n : Nat) : Fld := ⟨Reg.ETH_P_TXLAT n, 0, 16⟩
def ETH_P_RXLAT_LAT (n : Nat) : Fld := ⟨Reg.ETH_P_RXLAT n, 0, 16⟩
def ETH_P_PDELAY_DELAY (n : Nat) : Fld := ⟨Reg.ETH_P_PDELAY n, 0, 32⟩
def ETH_P_RXFRM_COUNT (n : Nat) : Fld := ⟨Reg.ETH_P_RXFRM n, 0, 32⟩
def ETH_P_RXDROP_COUNT (n : Nat) : Fld := ⟨Reg.ETH_P_RXDROP n, 0, 32⟩
def ETH_P_TXFRM_COUNT (n : Nat) : Fld := ⟨Reg.ETH_P_TXFRM n, 0, 32⟩
def ETH_GF_MACLO_MAC (n : Nat) : Fld := ⟨Reg.ETH_GF_MACLO n, 0, 32⟩
def ETH_GF_MACHI_MAC (n : Nat) : Fld := ⟨Reg.ETH_GF_MACHI n, 0, 16⟩
def ETH_GF_MACHI_APPID (n : Nat) : Fld := ⟨Reg.ETH_GF_MACHI n, 16, 16⟩
def ETH_GF_CFG_EN (n : Nat) : Fld := ⟨Reg.ETH_GF_CFG n, 0, 1⟩
def ETH_GF_CFG_ALLREP (n : Nat) : Fld := ⟨Reg.ETH_GF_CFG n, 1, 1⟩
def ETH_GF_CFG_ALIVE (n : Nat) : Fld := ⟨Reg.ETH_GF_CFG n, 2, 1⟩
def ETH_GF_CFG_TALREM (n : Nat) : Fld := ⟨Reg.ETH_GF_CFG n, 16, 16⟩
def ETH_GF_STNUM_STNUM (n : Nat) : Fld := ⟨Reg.ETH_GF_STNUM n, 0, 32⟩
def ETH_GF_REPCNT_COUNT (n : Nat) : Fld := ⟨Reg.ETH_GF_REPCNT n, 0, 32⟩
def ETH_SV_CFG_EN (n : Nat) : Fld := ⟨Reg.ETH_SV_CFG n, 0, 1⟩
def ETH_SV_CFG_PORT (n : Nat) : Fld := ⟨Reg.ETH_SV_CFG n, 1, 1⟩
def ETH_SV_CFG_NVAL (n : Nat) : Fld := ⟨Reg.ETH_SV_CFG n, 8, 5⟩
def ETH_SV_CFG_SMPWRAP (n : Nat) : Fld := ⟨Reg.ETH_SV_CFG n, 16, 16⟩
def ETH_SV_PER_PER (n : Nat) : Fld := ⟨Reg.ETH_SV_PER n, 0, 32⟩
def ETH_SV_LAYOUT_CNTOFS (n : Nat) : Fld := ⟨Reg.ETH_SV_LAYOUT n, 0, 8⟩
def ETH_SV_LAYOUT_SYNCOFS (n : Nat) : Fld := ⟨Reg.ETH_SV_LAYOUT n, 8, 8⟩
def ETH_SV_LAYOUT_VALOFS (n : Nat) : Fld := ⟨Reg.ETH_SV_LAYOUT n, 16, 8⟩
def ETH_SV_LAYOUT_TPLLEN (n : Nat) : Fld := ⟨Reg.ETH_SV_LAYOUT n, 24, 8⟩
def ETH_SV_CH_CH (n k : Nat) : Fld := ⟨Reg.ETH_SV_CH n k, 0, 8⟩
def ETH_SV_SCALE_SCALE (n k : Nat) : Fld := ⟨Reg.ETH_SV_SCALE n k, 0, 32⟩
def ETH_SV_SENT_COUNT (n : Nat) : Fld := ⟨Reg.ETH_SV_SENT n, 0, 32⟩
def ETH_SV_TPL_WORD (n k : Nat) : Fld := ⟨Reg.ETH_SV_TPL n k, 0, 32⟩
def SEC_STATUS_SLOT : Fld := ⟨Reg.SEC_STATUS, 0, 1⟩
def SEC_STATUS_ROMEXIT : Fld := ⟨Reg.SEC_STATUS, 1, 1⟩
def SEC_STATUS_DBGOPEN : Fld := ⟨Reg.SEC_STATUS, 2, 1⟩
def SEC_STATUS_RECOV : Fld := ⟨Reg.SEC_STATUS, 3, 1⟩
def SEC_STATUS_OKHSET : Fld := ⟨Reg.SEC_STATUS, 4, 1⟩
def SEC_STATUS_BUSY : Fld := ⟨Reg.SEC_STATUS, 5, 1⟩
def SEC_STATUS_PASS : Fld := ⟨Reg.SEC_STATUS, 6, 1⟩
def SEC_STATUS_ROLLBACK : Fld := ⟨Reg.SEC_STATUS, 8, 8⟩
def SEC_FLAGS_DONE : Fld := ⟨Reg.SEC_FLAGS, 0, 1⟩
def SEC_FLAGS_REFUSED : Fld := ⟨Reg.SEC_FLAGS, 1, 1⟩
def SEC_FLAGS_TRNGERR : Fld := ⟨Reg.SEC_FLAGS, 2, 1⟩
def SEC_FLAGS_OTPERR : Fld := ⟨Reg.SEC_FLAGS, 3, 1⟩
def SEC_FLAGS_VERFAIL : Fld := ⟨Reg.SEC_FLAGS, 4, 1⟩
def SEC_IRQEN_EN : Fld := ⟨Reg.SEC_IRQEN, 0, 5⟩
def SEC_VERSION_VERSION : Fld := ⟨Reg.SEC_VERSION, 0, 32⟩
def SEC_CMD_OP : Fld := ⟨Reg.SEC_CMD, 0, 4⟩
def SEC_HADDR_ADDR : Fld := ⟨Reg.SEC_HADDR, 0, 32⟩
def SEC_HLEN_LEN : Fld := ⟨Reg.SEC_HLEN, 0, 32⟩
def SEC_BUF_DATA (n : Nat) : Fld := ⟨Reg.SEC_BUF n, 0, 32⟩
def SEC_MEAS_H (n : Nat) : Fld := ⟨Reg.SEC_MEAS n, 0, 32⟩
def SEC_IDPUB_KEY (n : Nat) : Fld := ⟨Reg.SEC_IDPUB n, 0, 32⟩
def SEC_APPPUB_KEY (n : Nat) : Fld := ⟨Reg.SEC_APPPUB n, 0, 32⟩
def SEC_DEVID_LO_DEVID : Fld := ⟨Reg.SEC_DEVID_LO, 0, 32⟩
def SEC_DEVID_HI_DEVID : Fld := ⟨Reg.SEC_DEVID_HI, 0, 32⟩
def SEC_TRNG_BITS : Fld := ⟨Reg.SEC_TRNG, 0, 32⟩
def SEC_ST1ENTRY_ADDR : Fld := ⟨Reg.SEC_ST1ENTRY, 0, 32⟩
def SEC_EVCNT_COUNT (n : Nat) : Fld := ⟨Reg.SEC_EVCNT n, 0, 16⟩
def SAFE_STATUS_LOCK : Fld := ⟨Reg.SAFE_STATUS, 0, 1⟩
def SAFE_STATUS_SELFTEST : Fld := ⟨Reg.SAFE_STATUS, 1, 1⟩
def SAFE_STATUS_PWMCLK : Fld := ⟨Reg.SAFE_STATUS, 2, 1⟩
def SAFE_STATUS_SUPPLY : Fld := ⟨Reg.SAFE_STATUS, 3, 1⟩
def SAFE_STATUS_OUTON : Fld := ⟨Reg.SAFE_STATUS, 4, 4⟩
def SAFE_STATUS_ACKWAIT : Fld := ⟨Reg.SAFE_STATUS, 8, 4⟩
def SAFE_STATUS_RSTRUN : Fld := ⟨Reg.SAFE_STATUS, 12, 1⟩
def SAFE_STATUS_CFGVALID : Fld := ⟨Reg.SAFE_STATUS, 13, 1⟩
def SAFE_INPUTS_PERMIT : Fld := ⟨Reg.SAFE_INPUTS, 0, 8⟩
def SAFE_INPUTS_RAWA : Fld := ⟨Reg.SAFE_INPUTS, 8, 8⟩
def SAFE_INPUTS_RAWB : Fld := ⟨Reg.SAFE_INPUTS, 16, 8⟩
def SAFE_INPUTS_DISC : Fld := ⟨Reg.SAFE_INPUTS, 24, 8⟩
def SAFE_OUTPUTS_CMDA : Fld := ⟨Reg.SAFE_OUTPUTS, 0, 4⟩
def SAFE_OUTPUTS_CMDB : Fld := ⟨Reg.SAFE_OUTPUTS, 4, 4⟩
def SAFE_OUTPUTS_RBA : Fld := ⟨Reg.SAFE_OUTPUTS, 8, 4⟩
def SAFE_OUTPUTS_RBB : Fld := ⟨Reg.SAFE_OUTPUTS, 12, 4⟩
def SAFE_LOCKREC_CAUSE : Fld := ⟨Reg.SAFE_LOCKREC, 0, 4⟩
def SAFE_LOCKREC_INDEX : Fld := ⟨Reg.SAFE_LOCKREC, 4, 3⟩
def SAFE_LOCKREC_CH : Fld := ⟨Reg.SAFE_LOCKREC, 7, 1⟩
def SAFE_LOCKREC_LOCKCNT : Fld := ⟨Reg.SAFE_LOCKREC, 16, 16⟩
def SAFE_CFGCRC_CRC : Fld := ⟨Reg.SAFE_CFGCRC, 0, 32⟩
def SAFE_TPCNT_COUNT : Fld := ⟨Reg.SAFE_TPCNT, 0, 32⟩
def SAFE_FLAGS_LOCK : Fld := ⟨Reg.SAFE_FLAGS, 0, 1⟩
def SAFE_FLAGS_DEMAND : Fld := ⟨Reg.SAFE_FLAGS, 1, 1⟩
def SAFE_FLAGS_RSTDONE : Fld := ⟨Reg.SAFE_FLAGS, 2, 1⟩
def SAFE_FLAGS_RSTREF : Fld := ⟨Reg.SAFE_FLAGS, 3, 1⟩
def SAFE_FLAGS_CFGAPPLIED : Fld := ⟨Reg.SAFE_FLAGS, 4, 1⟩
def SAFE_IRQEN_EN : Fld := ⟨Reg.SAFE_IRQEN, 0, 5⟩
def SAFE_EVCNT_COUNT (n : Nat) : Fld := ⟨Reg.SAFE_EVCNT n, 0, 16⟩
def SAFE_IN_CFG_EN (n : Nat) : Fld := ⟨Reg.SAFE_IN_CFG n, 0, 1⟩
def SAFE_IN_CFG_TPEN (n : Nat) : Fld := ⟨Reg.SAFE_IN_CFG n, 1, 1⟩
def SAFE_IN_CFG_FILT (n : Nat) : Fld := ⟨Reg.SAFE_IN_CFG n, 4, 8⟩
def SAFE_OUT_CFG_EN (n : Nat) : Fld := ⟨Reg.SAFE_OUT_CFG n, 0, 1⟩
def SAFE_OUT_CFG_MANUAL (n : Nat) : Fld := ⟨Reg.SAFE_OUT_CFG n, 1, 1⟩
def SAFE_OUT_CFG_MAP (n : Nat) : Fld := ⟨Reg.SAFE_OUT_CFG n, 8, 8⟩
def PMU_STATUS_PFW : Fld := ⟨Reg.PMU_STATUS, 0, 1⟩
def PMU_STATUS_HUWAIT : Fld := ⟨Reg.PMU_STATUS, 1, 1⟩
def PMU_STATUS_RESTORING : Fld := ⟨Reg.PMU_STATUS, 2, 1⟩
def PMU_STATUS_SAVING : Fld := ⟨Reg.PMU_STATUS, 3, 1⟩
def PMU_STATUS_CSBVALID : Fld := ⟨Reg.PMU_STATUS, 4, 1⟩
def PMU_STATUS_SAVEINC : Fld := ⟨Reg.PMU_STATUS, 5, 1⟩
def PMU_STATUS_FRESH : Fld := ⟨Reg.PMU_STATUS, 6, 1⟩
def PMU_STATUS_VIOERR : Fld := ⟨Reg.PMU_STATUS, 8, 8⟩
def PMU_FLAGS_PFW : Fld := ⟨Reg.PMU_FLAGS, 0, 1⟩
def PMU_FLAGS_HUREADY : Fld := ⟨Reg.PMU_FLAGS, 1, 1⟩
def PMU_FLAGS_HUWEAK : Fld := ⟨Reg.PMU_FLAGS, 2, 1⟩
def PMU_FLAGS_RAILERR : Fld := ⟨Reg.PMU_FLAGS, 3, 1⟩
def PMU_FLAGS_SAVEDONE : Fld := ⟨Reg.PMU_FLAGS, 4, 1⟩
def PMU_FLAGS_SAVEINC : Fld := ⟨Reg.PMU_FLAGS, 5, 1⟩
def PMU_FLAGS_SLEEPREF : Fld := ⟨Reg.PMU_FLAGS, 6, 1⟩
def PMU_IRQEN_EN : Fld := ⟨Reg.PMU_IRQEN, 0, 7⟩
def PMU_CMD_SLEEP : Fld := ⟨Reg.PMU_CMD, 0, 1⟩
def PMU_VIN_MV : Fld := ⟨Reg.PMU_VIN, 0, 16⟩
def PMU_CHOLD_MV : Fld := ⟨Reg.PMU_CHOLD, 0, 16⟩
def PMU_HUMEAS_CAP : Fld := ⟨Reg.PMU_HUMEAS, 0, 16⟩
def PMU_HUMEAS_ESR : Fld := ⟨Reg.PMU_HUMEAS, 16, 16⟩
def PMU_HUEAV_MJ : Fld := ⟨Reg.PMU_HUEAV, 0, 16⟩
def PMU_HUREQ_MJ : Fld := ⟨Reg.PMU_HUREQ, 0, 16⟩
def PMU_EVHEAD_LO_HEAD : Fld := ⟨Reg.PMU_EVHEAD_LO, 0, 32⟩
def PMU_EVHEAD_HI_HEAD : Fld := ⟨Reg.PMU_EVHEAD_HI, 0, 32⟩
def PMU_RSTINFO_CAUSE : Fld := ⟨Reg.PMU_RSTINFO, 0, 3⟩
def PMU_SAVESEQ_SEQ : Fld := ⟨Reg.PMU_SAVESEQ, 0, 32⟩
def PMU_EVCNT_COUNT (n : Nat) : Fld := ⟨Reg.PMU_EVCNT n, 0, 16⟩
def PMU_SWBUF_DATA (n : Nat) : Fld := ⟨Reg.PMU_SWBUF n, 0, 32⟩
def SENT_CFG_LDPOL : Fld := ⟨Reg.SENT_CFG, 0, 1⟩
def SENT_CFG_WAKEEN : Fld := ⟨Reg.SENT_CFG, 1, 1⟩
def SENT_CFG_ALARMEN : Fld := ⟨Reg.SENT_CFG, 2, 1⟩
def SENT_CFG_HV1EN : Fld := ⟨Reg.SENT_CFG, 3, 1⟩
def SENT_CFG_HV2EN : Fld := ⟨Reg.SENT_CFG, 4, 1⟩
def SENT_CFG_TAMPEN : Fld := ⟨Reg.SENT_CFG, 5, 2⟩
def SENT_CFG_TAMPPOL : Fld := ⟨Reg.SENT_CFG, 7, 2⟩
def SENT_CFG_CKINT : Fld := ⟨Reg.SENT_CFG, 11, 5⟩
def SENT_STATUS_RTCVALID : Fld := ⟨Reg.SENT_STATUS, 0, 1⟩
def SENT_STATUS_CUT : Fld := ⟨Reg.SENT_STATUS, 1, 1⟩
def SENT_STATUS_ONVBAT : Fld := ⟨Reg.SENT_STATUS, 2, 1⟩
def SENT_STATUS_ONVIN : Fld := ⟨Reg.SENT_STATUS, 3, 1⟩
def SENT_STATUS_QLEVEL : Fld := ⟨Reg.SENT_STATUS, 4, 3⟩
def SENT_FLAGS_TAMP0 : Fld := ⟨Reg.SENT_FLAGS, 0, 1⟩
def SENT_FLAGS_TAMP1 : Fld := ⟨Reg.SENT_FLAGS, 1, 1⟩
def SENT_FLAGS_BURSTREF : Fld := ⟨Reg.SENT_FLAGS, 2, 1⟩
def SENT_FLAGS_CUTOFF : Fld := ⟨Reg.SENT_FLAGS, 3, 1⟩
def SENT_FLAGS_QDROP : Fld := ⟨Reg.SENT_FLAGS, 4, 1⟩
def SENT_IRQEN_EN : Fld := ⟨Reg.SENT_IRQEN, 0, 5⟩
def SENT_RTC_LO_TICKS : Fld := ⟨Reg.SENT_RTC_LO, 0, 32⟩
def SENT_RTC_HI_TICKS : Fld := ⟨Reg.SENT_RTC_HI, 0, 16⟩
def SENT_ALARM_LO_TICKS : Fld := ⟨Reg.SENT_ALARM_LO, 0, 32⟩
def SENT_ALARM_HI_TICKS : Fld := ⟨Reg.SENT_ALARM_HI, 0, 16⟩
def SENT_LCUT_MV : Fld := ⟨Reg.SENT_LCUT, 0, 12⟩
def SENT_LMAX_MV : Fld := ⟨Reg.SENT_LMAX, 0, 13⟩
def SENT_HV1_FRAC : Fld := ⟨Reg.SENT_HV1, 0, 7⟩
def SENT_VSTORE_SSTORE : Fld := ⟨Reg.SENT_VSTORE, 0, 16⟩
def SENT_VSTORE_LSTORE : Fld := ⟨Reg.SENT_VSTORE, 16, 16⟩
def SENT_VBAT_MV : Fld := ⟨Reg.SENT_VBAT, 0, 16⟩
def SENT_LEDGER_HEAD : Fld := ⟨Reg.SENT_LEDGER, 0, 13⟩
def SENT_CMD_RTCSET : Fld := ⟨Reg.SENT_CMD, 0, 1⟩
def SENT_EVCNT_COUNT (n : Nat) : Fld := ⟨Reg.SENT_EVCNT n, 0, 16⟩
def MON_CTRL_DBGSTOP : Fld := ⟨Reg.MON_CTRL, 0, 1⟩
def MON_FLAGS_ALARM : Fld := ⟨Reg.MON_FLAGS, 0, 16⟩
def MON_FLAGS_SRAMCE : Fld := ⟨Reg.MON_FLAGS, 16, 1⟩
def MON_FLAGS_SRAMUE : Fld := ⟨Reg.MON_FLAGS, 17, 1⟩
def MON_IRQEN_EN : Fld := ⟨Reg.MON_IRQEN, 0, 18⟩
def MON_CLR_MON : Fld := ⟨Reg.MON_CLR, 0, 16⟩
def MON_HOLD_MON : Fld := ⟨Reg.MON_HOLD, 0, 16⟩
def MON_WINLEN_LEN (n : Nat) : Fld := ⟨Reg.MON_WINLEN n, 0, 32⟩
def MON_WINSTAT_OPEN : Fld := ⟨Reg.MON_WINSTAT, 0, 4⟩
def MON_SCRUBPASS_COUNT : Fld := ⟨Reg.MON_SCRUBPASS, 0, 32⟩
def MON_SRAMCE_COUNT : Fld := ⟨Reg.MON_SRAMCE, 0, 32⟩
def MON_SRAMUE_COUNT : Fld := ⟨Reg.MON_SRAMUE, 0, 32⟩
def MON_SRAMUEADDR_ADDR : Fld := ⟨Reg.MON_SRAMUEADDR, 3, 29⟩
def MON_MRAMWL_COUNT : Fld := ⟨Reg.MON_MRAMWL, 0, 32⟩
def MON_MRAMWEAR_PPM : Fld := ⟨Reg.MON_MRAMWEAR, 0, 20⟩
def MON_BGBW_SHARE : Fld := ⟨Reg.MON_BGBW, 0, 10⟩
def MON_TEMP_T (n : Nat) : Fld := ⟨Reg.MON_TEMP n, 0, 32⟩
def MON_EVCNT_COUNT (n : Nat) : Fld := ⟨Reg.MON_EVCNT n, 0, 16⟩
def MON_M_CFG_EN (n : Nat) : Fld := ⟨Reg.MON_M_CFG n, 0, 1⟩
def MON_M_CFG_CLASS (n : Nat) : Fld := ⟨Reg.MON_M_CFG n, 1, 3⟩
def MON_M_CFG_INDEX (n : Nat) : Fld := ⟨Reg.MON_M_CFG n, 4, 8⟩
def MON_M_CFG_WIN (n : Nat) : Fld := ⟨Reg.MON_M_CFG n, 12, 3⟩
def MON_M_ORIGIN_ORIGIN (n : Nat) : Fld := ⟨Reg.MON_M_ORIGIN n, 0, 32⟩
def MON_M_WIDTH_WIDTH (n : Nat) : Fld := ⟨Reg.MON_M_WIDTH n, 0, 32⟩
def MON_M_ALARM_LIMIT (n : Nat) : Fld := ⟨Reg.MON_M_ALARM n, 0, 32⟩
def MON_M_MIN_MIN (n : Nat) : Fld := ⟨Reg.MON_M_MIN n, 0, 32⟩
def MON_M_MAX_MAX (n : Nat) : Fld := ⟨Reg.MON_M_MAX n, 0, 32⟩
def MON_M_COUNT_COUNT (n : Nat) : Fld := ⟨Reg.MON_M_COUNT n, 0, 32⟩
def MON_M_UNDER_COUNT (n : Nat) : Fld := ⟨Reg.MON_M_UNDER n, 0, 32⟩
def MON_M_OVER_COUNT (n : Nat) : Fld := ⟨Reg.MON_M_OVER n, 0, 32⟩
def MON_M_MISSED_COUNT (n : Nat) : Fld := ⟨Reg.MON_M_MISSED n, 0, 32⟩
def MON_M_BIN_COUNT (n k : Nat) : Fld := ⟨Reg.MON_M_BIN n k, 0, 32⟩
def SYSCFG_RSTCAUSE_POWER : Fld := ⟨Reg.SYSCFG_RSTCAUSE, 0, 1⟩
def SYSCFG_RSTCAUSE_WDG0 : Fld := ⟨Reg.SYSCFG_RSTCAUSE, 1, 1⟩
def SYSCFG_RSTCAUSE_WDG1 : Fld := ⟨Reg.SYSCFG_RSTCAUSE, 2, 1⟩
def SYSCFG_RSTCAUSE_DEBUG : Fld := ⟨Reg.SYSCFG_RSTCAUSE, 3, 1⟩
def SYSCFG_RSTCAUSE_REBOOT : Fld := ⟨Reg.SYSCFG_RSTCAUSE, 4, 1⟩
def SYSCFG_RSTCAUSE_SLEEP : Fld := ⟨Reg.SYSCFG_RSTCAUSE, 5, 1⟩
def SYSCFG_RSTCAUSE_VINFAIL : Fld := ⟨Reg.SYSCFG_RSTCAUSE, 6, 1⟩
def SYSCFG_RSTCAUSE_RAIL : Fld := ⟨Reg.SYSCFG_RSTCAUSE, 7, 1⟩
def SYSCFG_RSTCNT_COUNT (n : Nat) : Fld := ⟨Reg.SYSCFG_RSTCNT n, 0, 16⟩
def SYSCFG_DBGSEL_SEL : Fld := ⟨Reg.SYSCFG_DBGSEL, 0, 6⟩
def SYSCFG_HOSTCTL_EN : Fld := ⟨Reg.SYSCFG_HOSTCTL, 0, 1⟩
def SYSCFG_ST_STATUS_RUN (n : Nat) : Fld := ⟨Reg.SYSCFG_ST_STATUS n, 0, 1⟩
def SYSCFG_ST_STATUS_HALT (n : Nat) : Fld := ⟨Reg.SYSCFG_ST_STATUS n, 1, 1⟩
def SYSCFG_ST_STATUS_DFAULT (n : Nat) : Fld := ⟨Reg.SYSCFG_ST_STATUS n, 2, 1⟩
def SYSCFG_ST_STATUS_WFI (n : Nat) : Fld := ⟨Reg.SYSCFG_ST_STATUS n, 3, 1⟩
def SYSCFG_ST_STATUS_CURLVL (n : Nat) : Fld := ⟨Reg.SYSCFG_ST_STATUS n, 8, 4⟩
def SYSCFG_ST_NC_BASE_BASE (n k : Nat) : Fld := ⟨Reg.SYSCFG_ST_NC_BASE n k, 12, 20⟩
def SYSCFG_ST_NC_LIM_EN (n k : Nat) : Fld := ⟨Reg.SYSCFG_ST_NC_LIM n k, 0, 1⟩
def SYSCFG_ST_NC_LIM_LIM (n k : Nat) : Fld := ⟨Reg.SYSCFG_ST_NC_LIM n k, 12, 20⟩
def SYSCFG_IRQ_LEVEL (n : Nat) : Fld := ⟨Reg.SYSCFG_IRQ n, 0, 3⟩
def SYSCFG_IRQ_ST0EN (n : Nat) : Fld := ⟨Reg.SYSCFG_IRQ n, 4, 1⟩
def SYSCFG_IRQ_ST1EN (n : Nat) : Fld := ⟨Reg.SYSCFG_IRQ n, 5, 1⟩
def SYSCFG_WDG_CFG_EN (n : Nat) : Fld := ⟨Reg.SYSCFG_WDG_CFG n, 0, 1⟩
def SYSCFG_WDG_CFG_OWNER (n : Nat) : Fld := ⟨Reg.SYSCFG_WDG_CFG n, 1, 1⟩
def SYSCFG_WDG_CFG_DBGSTOP (n : Nat) : Fld := ⟨Reg.SYSCFG_WDG_CFG n, 2, 1⟩
def SYSCFG_WDG_PERIOD_MS (n : Nat) : Fld := ⟨Reg.SYSCFG_WDG_PERIOD n, 0, 16⟩
def SYSCFG_WDG_GRACE_MS (n : Nat) : Fld := ⟨Reg.SYSCFG_WDG_GRACE n, 0, 10⟩
def SYSCFG_WDG_WINDOW_MS (n : Nat) : Fld := ⟨Reg.SYSCFG_WDG_WINDOW n, 0, 16⟩
def SYSCFG_WDG_KICK_KEY (n : Nat) : Fld := ⟨Reg.SYSCFG_WDG_KICK n, 0, 32⟩
def SYSCFG_WDG_STATUS_FIRED (n : Nat) : Fld := ⟨Reg.SYSCFG_WDG_STATUS n, 0, 1⟩
def SYSCFG_WDG_STATUS_REMAIN (n : Nat) : Fld := ⟨Reg.SYSCFG_WDG_STATUS n, 16, 16⟩
def SYSCFG_WDG_EVCNT_COUNT (n : Nat) : Fld := ⟨Reg.SYSCFG_WDG_EVCNT n, 0, 16⟩
def SYSCFG_PAD_DRV (n : Nat) : Fld := ⟨Reg.SYSCFG_PAD n, 0, 2⟩
def SYSCFG_PAD_SLOW (n : Nat) : Fld := ⟨Reg.SYSCFG_PAD n, 2, 1⟩
def SYSCFG_PAD_SENSED (n : Nat) : Fld := ⟨Reg.SYSCFG_PAD n, 8, 2⟩
def SYSCFG_RGMII_TXDLY0 : Fld := ⟨Reg.SYSCFG_RGMII, 0, 1⟩
def SYSCFG_RGMII_RXDLY0 : Fld := ⟨Reg.SYSCFG_RGMII, 1, 1⟩
def SYSCFG_RGMII_TXDLY1 : Fld := ⟨Reg.SYSCFG_RGMII, 2, 1⟩
def SYSCFG_RGMII_RXDLY1 : Fld := ⟨Reg.SYSCFG_RGMII, 3, 1⟩
def SYSCFG_GPIO_DIR_DIR : Fld := ⟨Reg.SYSCFG_GPIO_DIR, 0, 16⟩
def SYSCFG_GPIO_OUT_OUT : Fld := ⟨Reg.SYSCFG_GPIO_OUT, 0, 16⟩
def SYSCFG_GPIO_SET_SET : Fld := ⟨Reg.SYSCFG_GPIO_SET, 0, 16⟩
def SYSCFG_GPIO_CLR_CLR : Fld := ⟨Reg.SYSCFG_GPIO_CLR, 0, 16⟩
def SYSCFG_GPIO_IN_IN : Fld := ⟨Reg.SYSCFG_GPIO_IN, 0, 16⟩
def SYSCFG_GPIO_PULL_PULL : Fld := ⟨Reg.SYSCFG_GPIO_PULL, 0, 32⟩
def SYSCFG_RK_CTRL_EN (n : Nat) : Fld := ⟨Reg.SYSCFG_RK_CTRL n, 0, 1⟩
def SYSCFG_RK_CTRL_DBGDL (n : Nat) : Fld := ⟨Reg.SYSCFG_RK_CTRL n, 1, 1⟩
def SYSCFG_RK_CTRL_ABORTNOW (n : Nat) : Fld := ⟨Reg.SYSCFG_RK_CTRL n, 2, 1⟩
def SYSCFG_RK_STATUS_RUN (n : Nat) : Fld := ⟨Reg.SYSCFG_RK_STATUS n, 0, 1⟩
def SYSCFG_RK_STATUS_SLOT (n : Nat) : Fld := ⟨Reg.SYSCFG_RK_STATUS n, 1, 3⟩
def SYSCFG_RK_STATUS_BANK (n : Nat) : Fld := ⟨Reg.SYSCFG_RK_STATUS n, 4, 1⟩
def SYSCFG_RK_STATUS_SWPPEND (n : Nat) : Fld := ⟨Reg.SYSCFG_RK_STATUS n, 5, 1⟩
def SYSCFG_RK_STATUS_PEND (n : Nat) : Fld := ⟨Reg.SYSCFG_RK_STATUS n, 8, 8⟩
def SYSCFG_RK_STATUS_IDLE (n : Nat) : Fld := ⟨Reg.SYSCFG_RK_STATUS n, 16, 1⟩
def SYSCFG_RK_STATUS_HALT (n : Nat) : Fld := ⟨Reg.SYSCFG_RK_STATUS n, 17, 1⟩
def SYSCFG_RK_FLAGS_MISS (n : Nat) : Fld := ⟨Reg.SYSCFG_RK_FLAGS n, 0, 1⟩
def SYSCFG_RK_FLAGS_OVR (n : Nat) : Fld := ⟨Reg.SYSCFG_RK_FLAGS n, 1, 1⟩
def SYSCFG_RK_FLAGS_EXC (n : Nat) : Fld := ⟨Reg.SYSCFG_RK_FLAGS n, 2, 1⟩
def SYSCFG_RK_FLAGS_CARRY (n : Nat) : Fld := ⟨Reg.SYSCFG_RK_FLAGS n, 3, 1⟩
def SYSCFG_RK_FLAGS_STGCOLL (n : Nat) : Fld := ⟨Reg.SYSCFG_RK_FLAGS n, 4, 1⟩
def SYSCFG_RK_FLAGS_DROP (n : Nat) : Fld := ⟨Reg.SYSCFG_RK_FLAGS n, 5, 1⟩
def SYSCFG_RK_FLAGS_SWAPD (n : Nat) : Fld := ⟨Reg.SYSCFG_RK_FLAGS n, 6, 1⟩
def SYSCFG_RK_BANKCTL_SWAP (n : Nat) : Fld := ⟨Reg.SYSCFG_RK_BANKCTL n, 0, 1⟩
def SYSCFG_RK_BANKCTL_CANCEL (n : Nat) : Fld := ⟨Reg.SYSCFG_RK_BANKCTL n, 1, 1⟩
def SYSCFG_RK_BANKCTL_SWAPCNT (n : Nat) : Fld := ⟨Reg.SYSCFG_RK_BANKCTL n, 16, 16⟩
def SYSCFG_RK_LASTABORT_CODE (n : Nat) : Fld := ⟨Reg.SYSCFG_RK_LASTABORT n, 0, 5⟩
def SYSCFG_RK_LASTABORT_SLOT (n : Nat) : Fld := ⟨Reg.SYSCFG_RK_LASTABORT n, 8, 3⟩
def SYSCFG_RK_LASTABORT_PCW (n : Nat) : Fld := ⟨Reg.SYSCFG_RK_LASTABORT n, 16, 14⟩
def SYSCFG_RK_EVCNT_COUNT (n k : Nat) : Fld := ⟨Reg.SYSCFG_RK_EVCNT n k, 0, 16⟩
def SYSCFG_SLOT_CFG_ENTRY (n k : Nat) : Fld := ⟨Reg.SYSCFG_SLOT_CFG n k, 0, 14⟩
def SYSCFG_SLOT_CFG_EN (n k : Nat) : Fld := ⟨Reg.SYSCFG_SLOT_CFG n k, 16, 1⟩
def SYSCFG_SLOT_DL_DL (n k : Nat) : Fld := ⟨Reg.SYSCFG_SLOT_DL n k, 0, 24⟩
def SYSCFG_SLOT_LASTCYC_CYC (n k : Nat) : Fld := ⟨Reg.SYSCFG_SLOT_LASTCYC n k, 0, 24⟩
def SYSCFG_SLOT_MAXCYC_CYC (n k : Nat) : Fld := ⟨Reg.SYSCFG_SLOT_MAXCYC n k, 0, 24⟩
def SYSCFG_SLOT_DONECNT_COUNT (n k : Nat) : Fld := ⟨Reg.SYSCFG_SLOT_DONECNT n k, 0, 32⟩
def SYSCFG_SLOT_MISSCNT_COUNT (n k : Nat) : Fld := ⟨Reg.SYSCFG_SLOT_MISSCNT n k, 0, 16⟩
def SYSCFG_SLOT_OVRCNT_COUNT (n k : Nat) : Fld := ⟨Reg.SYSCFG_SLOT_OVRCNT n k, 0, 16⟩
def SYSCFG_DC_CFG_EN (n : Nat) : Fld := ⟨Reg.SYSCFG_DC_CFG n, 0, 1⟩
def SYSCFG_DC_CFG_CAR (n : Nat) : Fld := ⟨Reg.SYSCFG_DC_CFG n, 1, 3⟩
def SYSCFG_DC_CFG_VIN (n : Nat) : Fld := ⟨Reg.SYSCFG_DC_CFG n, 4, 6⟩
def SYSCFG_DC_CFG_IIN (n : Nat) : Fld := ⟨Reg.SYSCFG_DC_CFG n, 10, 6⟩
def SYSCFG_DC_CFG_LINKIN (n : Nat) : Fld := ⟨Reg.SYSCFG_DC_CFG n, 16, 6⟩
def SYSCFG_DC_CFG_RK (n : Nat) : Fld := ⟨Reg.SYSCFG_DC_CFG n, 22, 2⟩
def SYSCFG_DC_CFG_RTN (n : Nat) : Fld := ⟨Reg.SYSCFG_DC_CFG n, 24, 1⟩
def SYSCFG_DC_CFG_EVSWL (n : Nat) : Fld := ⟨Reg.SYSCFG_DC_CFG n, 25, 4⟩
def SYSCFG_DC_LEGS_LO_LEGS (n : Nat) : Fld := ⟨Reg.SYSCFG_DC_LEGS_LO n, 0, 32⟩
def SYSCFG_DC_LEGS_HI_LEGS (n : Nat) : Fld := ⟨Reg.SYSCFG_DC_LEGS_HI n, 0, 16⟩
def SYSCFG_DC_REFADDR_ADDR (n : Nat) : Fld := ⟨Reg.SYSCFG_DC_REFADDR n, 3, 13⟩
def SYSCFG_DC_SWCFG_NSTEP (n : Nat) : Fld := ⟨Reg.SYSCFG_DC_SWCFG n, 0, 9⟩
def SYSCFG_DC_SWCFG_SWLIDX (n : Nat) : Fld := ⟨Reg.SYSCFG_DC_SWCFG n, 12, 8⟩
def SYSCFG_DC_SWCFG_CAPP (n : Nat) : Fld := ⟨Reg.SYSCFG_DC_SWCFG n, 24, 4⟩
def SYSCFG_DC_SWDWELL_DWELL (n : Nat) : Fld := ⟨Reg.SYSCFG_DC_SWDWELL n, 0, 8⟩
def SYSCFG_DC_IMIN_IMIN (n : Nat) : Fld := ⟨Reg.SYSCFG_DC_IMIN n, 0, 32⟩
def SYSCFG_DC_VLMAX_VLMAX (n : Nat) : Fld := ⟨Reg.SYSCFG_DC_VLMAX n, 0, 32⟩
def SYSCFG_DC_SWCMD_GO (n : Nat) : Fld := ⟨Reg.SYSCFG_DC_SWCMD n, 0, 1⟩
def SYSCFG_DC_SWCMD_STOP (n : Nat) : Fld := ⟨Reg.SYSCFG_DC_SWCMD n, 1, 1⟩
def SYSCFG_DC_SWSTAT_STATE (n : Nat) : Fld := ⟨Reg.SYSCFG_DC_SWSTAT n, 0, 2⟩
def SYSCFG_DC_SWSTAT_STEP (n : Nat) : Fld := ⟨Reg.SYSCFG_DC_SWSTAT n, 8, 9⟩
def SYSCFG_DC_SWSTAT_ACAUSE (n : Nat) : Fld := ⟨Reg.SYSCFG_DC_SWSTAT n, 20, 4⟩
def SYSCFG_DC_SWRES_MAXIDX (n : Nat) : Fld := ⟨Reg.SYSCFG_DC_SWRES n, 0, 9⟩
def SYSCFG_DC_SWRES_MAXVALID (n : Nat) : Fld := ⟨Reg.SYSCFG_DC_SWRES n, 16, 1⟩
def SYSCFG_DC_SWCNT_COUNT (n : Nat) : Fld := ⟨Reg.SYSCFG_DC_SWCNT n, 0, 32⟩
def SYSCFG_DC_FLAGS_DONE (n : Nat) : Fld := ⟨Reg.SYSCFG_DC_FLAGS n, 0, 1⟩
def SYSCFG_DC_FLAGS_ABORT (n : Nat) : Fld := ⟨Reg.SYSCFG_DC_FLAGS n, 1, 1⟩
def SYSCFG_DC_FLAGS_REFUSED (n : Nat) : Fld := ⟨Reg.SYSCFG_DC_FLAGS n, 2, 1⟩
def SYSCFG_DC_FLAGS_NIGHT (n : Nat) : Fld := ⟨Reg.SYSCFG_DC_FLAGS n, 3, 1⟩
def SYSCFG_DC_FLAGS_WAKE (n : Nat) : Fld := ⟨Reg.SYSCFG_DC_FLAGS n, 4, 1⟩
def SYSCFG_DC_FLAGS_CFGERR (n : Nat) : Fld := ⟨Reg.SYSCFG_DC_FLAGS n, 5, 1⟩
def SYSCFG_DC_EVCNT_COUNT (n k : Nat) : Fld := ⟨Reg.SYSCFG_DC_EVCNT n k, 0, 16⟩
def SYSCFG_DC_SLEEPV_LEVEL (n : Nat) : Fld := ⟨Reg.SYSCFG_DC_SLEEPV n, 0, 32⟩
def SYSCFG_DC_WAKEV_LEVEL (n : Nat) : Fld := ⟨Reg.SYSCFG_DC_WAKEV n, 0, 32⟩
def SYSCFG_DC_NWTIME_SLEEPT (n : Nat) : Fld := ⟨Reg.SYSCFG_DC_NWTIME n, 0, 16⟩
def SYSCFG_DC_NWTIME_WAKET (n : Nat) : Fld := ⟨Reg.SYSCFG_DC_NWTIME n, 16, 16⟩
def SYSCFG_DC_NSTAT_NIGHT (n : Nat) : Fld := ⟨Reg.SYSCFG_DC_NSTAT n, 0, 1⟩
def SYSCFG_DC_NSTAT_ELAPSED (n : Nat) : Fld := ⟨Reg.SYSCFG_DC_NSTAT n, 16, 16⟩
def SYSCFG_DC_TABLE_REF (n k : Nat) : Fld := ⟨Reg.SYSCFG_DC_TABLE n k, 0, 32⟩
def SYSCFG_DC_CAP_WORD (n k : Nat) : Fld := ⟨Reg.SYSCFG_DC_CAP n k, 0, 32⟩
def CONSENT_STATUS_STATE : Fld := ⟨Reg.CONSENT_STATUS, 0, 3⟩
def CONSENT_STATUS_SETID : Fld := ⟨Reg.CONSENT_STATUS, 3, 3⟩
def CONSENT_STATUS_HELD : Fld := ⟨Reg.CONSENT_STATUS, 6, 1⟩
def CONSENT_STATUS_RESTORING : Fld := ⟨Reg.CONSENT_STATUS, 7, 1⟩
def CONSENT_STATUS_CONSENTN : Fld := ⟨Reg.CONSENT_STATUS, 8, 1⟩
def CONSENT_STATUS_REJCNT : Fld := ⟨Reg.CONSENT_STATUS, 16, 4⟩
def CONSENT_FLAGS_SWITCHED : Fld := ⟨Reg.CONSENT_FLAGS, 0, 1⟩
def CONSENT_FLAGS_REJECT : Fld := ⟨Reg.CONSENT_FLAGS, 1, 1⟩
def CONSENT_FLAGS_CANCELLED : Fld := ⟨Reg.CONSENT_FLAGS, 2, 1⟩
def CONSENT_FLAGS_TIMEOUT : Fld := ⟨Reg.CONSENT_FLAGS, 3, 1⟩
def CONSENT_FLAGS_REFUSED : Fld := ⟨Reg.CONSENT_FLAGS, 4, 1⟩
def CONSENT_FLAGS_RESTOREERR : Fld := ⟨Reg.CONSENT_FLAGS, 5, 1⟩
def CONSENT_FLAGS_LOCKOUT : Fld := ⟨Reg.CONSENT_FLAGS, 6, 1⟩
def CONSENT_IRQEN_EN : Fld := ⟨Reg.CONSENT_IRQEN, 0, 7⟩
def CONSENT_CMD_OPEN : Fld := ⟨Reg.CONSENT_CMD, 0, 1⟩
def CONSENT_CMD_REQUEST : Fld := ⟨Reg.CONSENT_CMD, 1, 1⟩
def CONSENT_CMD_APPROVE : Fld := ⟨Reg.CONSENT_CMD, 2, 1⟩
def CONSENT_CMD_CANCEL : Fld := ⟨Reg.CONSENT_CMD, 3, 1⟩
def CONSENT_CMD_SETID : Fld := ⟨Reg.CONSENT_CMD, 8, 3⟩
def CONSENT_CMD_KEY : Fld := ⟨Reg.CONSENT_CMD, 12, 2⟩
def CONSENT_CTR_LO_CTR : Fld := ⟨Reg.CONSENT_CTR_LO, 0, 32⟩
def CONSENT_CTR_HI_CTR : Fld := ⟨Reg.CONSENT_CTR_HI, 0, 32⟩
def CONSENT_SETCTR_CTR (n : Nat) : Fld := ⟨Reg.CONSENT_SETCTR n, 0, 32⟩
def CONSENT_WINREM_S : Fld := ⟨Reg.CONSENT_WINREM, 0, 12⟩
def CONSENT_LOCKREM_S : Fld := ⟨Reg.CONSENT_LOCKREM, 0, 6⟩
def CONSENT_DIGEST_D (n : Nat) : Fld := ⟨Reg.CONSENT_DIGEST n, 0, 32⟩
def CONSENT_SIG_SIG (n : Nat) : Fld := ⟨Reg.CONSENT_SIG n, 0, 32⟩
def CONSENT_EVCNT_COUNT (n : Nat) : Fld := ⟨Reg.CONSENT_EVCNT n, 0, 16⟩
def CONSENT_STAGE_WORD (n : Nat) : Fld := ⟨Reg.CONSENT_STAGE n, 0, 32⟩
def CONSENT_LIVE_WORD (n k : Nat) : Fld := ⟨Reg.CONSENT_LIVE n k, 0, 32⟩
def MRAMC_STATUS_BUSY : Fld := ⟨Reg.MRAMC_STATUS, 0, 1⟩
def MRAMC_STATUS_MOVING : Fld := ⟨Reg.MRAMC_STATUS, 1, 1⟩
def MRAMC_STATUS_DEPTH : Fld := ⟨Reg.MRAMC_STATUS, 8, 16⟩
def MRAMC_MOVEPAGE_PAGE : Fld := ⟨Reg.MRAMC_MOVEPAGE, 0, 12⟩
def MRAMC_WRITES_LO_COUNT : Fld := ⟨Reg.MRAMC_WRITES_LO, 0, 32⟩
def MRAMC_WRITES_HI_COUNT : Fld := ⟨Reg.MRAMC_WRITES_HI, 0, 32⟩
def MRAMC_SPREAD_WRITES : Fld := ⟨Reg.MRAMC_SPREAD, 0, 21⟩
end Fd

/-! ### W1C flags with their event counters (R9) -/
namespace Ev
def TBL_STATUS_TBINV : EvFlag := ⟨Reg.TBL_STATUS, 0, 0x40000040 + 0x0⟩
def TBL_STATUS_ALIGNERR : EvFlag := ⟨Reg.TBL_STATUS, 1, 0x40000040 + 0x4⟩
def TBL_STATUS_QREF : EvFlag := ⟨Reg.TBL_STATUS, 2, 0x40000040 + 0x8⟩
def TBL_STATUS_QLATE : EvFlag := ⟨Reg.TBL_STATUS, 3, 0x40000040 + 0xc⟩
def TBL_STATUS_RODSKIP : EvFlag := ⟨Reg.TBL_STATUS, 4, 0x40000040 + 0x10⟩
def TBL_STATUS_RODEND : EvFlag := ⟨Reg.TBL_STATUS, 5, 0x40000040 + 0x14⟩
def TBL_STATUS_LFWDLATE : EvFlag := ⟨Reg.TBL_STATUS, 6, 0x40000040 + 0x18⟩
def TBL_STATUS_TRGIN : EvFlag := ⟨Reg.TBL_STATUS, 7, 0x40000040 + 0x1c⟩
def TBL_QSTATUS_CANMISS : EvFlag := ⟨Reg.TBL_QSTATUS, 8, 0x4000041c⟩
def PLL_FLAGS_SYSLOL : EvFlag := ⟨Reg.PLL_FLAGS, 0, 0x40010010 + 0x0⟩
def PLL_FLAGS_SYNCLOL : EvFlag := ⟨Reg.PLL_FLAGS, 1, 0x40010010 + 0x4⟩
def PLL_FLAGS_REFLOSS : EvFlag := ⟨Reg.PLL_FLAGS, 2, 0x40010010 + 0x8⟩
def PLL_FLAGS_OUTERR : EvFlag := ⟨Reg.PLL_FLAGS, 3, 0x40010010 + 0xc⟩
def PWM_GFLAGS_FORCE : EvFlag := ⟨Reg.PWM_GFLAGS, 0, 0x40020010 + 0x0⟩
def PWM_GFLAGS_SYSF : EvFlag := ⟨Reg.PWM_GFLAGS, 1, 0x40020010 + 0x4⟩
def PWM_GFLAGS_DBGF : EvFlag := ⟨Reg.PWM_GFLAGS, 3, 0x40020010 + 0xc⟩
def PWM_GFLAGS_WCOLL : EvFlag := ⟨Reg.PWM_GFLAGS, 4, 0x40020010 + 0x10⟩
def PWM_GFLAGS_CFGERR : EvFlag := ⟨Reg.PWM_GFLAGS, 5, 0x40020010 + 0x14⟩
def PWM_GFLAGS_CALERR : EvFlag := ⟨Reg.PWM_GFLAGS, 6, 0x40020010 + 0x18⟩
def PWM_C_FLAGS_LOADED (n : Nat) : EvFlag := ⟨Reg.PWM_C_FLAGS n, 0, 0x40020400 + 0x10 * n + 0x0⟩
def PWM_C_FLAGS_LATE (n : Nat) : EvFlag := ⟨Reg.PWM_C_FLAGS n, 1, 0x40020400 + 0x10 * n + 0x4⟩
def PWM_C_FLAGS_CLAMP (n : Nat) : EvFlag := ⟨Reg.PWM_C_FLAGS n, 2, 0x40020400 + 0x10 * n + 0x8⟩
def PWM_C_FLAGS_PHLOST (n : Nat) : EvFlag := ⟨Reg.PWM_C_FLAGS n, 3, 0x40020400 + 0x10 * n + 0xc⟩
def PWM_LEG_FLAGS_CLAMP (n : Nat) : EvFlag := ⟨Reg.PWM_LEG_FLAGS n, 0, 0x40022000 + 0x10 * n + 0x0⟩
def PWM_LEG_FLAGS_SHORT (n : Nat) : EvFlag := ⟨Reg.PWM_LEG_FLAGS n, 1, 0x40022000 + 0x10 * n + 0x4⟩
def PWM_LEG_FLAGS_SHOOT (n : Nat) : EvFlag := ⟨Reg.PWM_LEG_FLAGS n, 2, 0x40022000 + 0x10 * n + 0x8⟩
def PWM_LEG_FLAGS_GUARD (n : Nat) : EvFlag := ⟨Reg.PWM_LEG_FLAGS n, 3, 0x40022000 + 0x10 * n + 0xc⟩
def PWM_FSTAT_DOM (b : Nat) : EvFlag := ⟨Reg.PWM_FSTAT, 0 + b, 0x400208a0 + 0x0 + 4 * b⟩
def PWM_FSTAT_SYS : EvFlag := ⟨Reg.PWM_FSTAT, 16, 0x400208c0⟩
def PWM_FSTAT_DBG : EvFlag := ⟨Reg.PWM_FSTAT, 18, 0x400208c4⟩
def DRIVE_G_FLAGS_FAULT (n : Nat) : EvFlag := ⟨Reg.DRIVE_G_FLAGS n, 0, 0x40030400 + 0x20 * n + 0x0⟩
def DRIVE_G_FLAGS_RETRY (n : Nat) : EvFlag := ⟨Reg.DRIVE_G_FLAGS n, 1, 0x40030400 + 0x20 * n + 0x4⟩
def DRIVE_G_FLAGS_LOCK (n : Nat) : EvFlag := ⟨Reg.DRIVE_G_FLAGS n, 2, 0x40030400 + 0x20 * n + 0x8⟩
def DRIVE_G_FLAGS_LATEFR (n : Nat) : EvFlag := ⟨Reg.DRIVE_G_FLAGS n, 3, 0x40030400 + 0x20 * n + 0xc⟩
def DRIVE_G_FLAGS_RFWIDE (n : Nat) : EvFlag := ⟨Reg.DRIVE_G_FLAGS n, 4, 0x40030400 + 0x20 * n + 0x10⟩
def DRIVE_G_FLAGS_CLRREF (n : Nat) : EvFlag := ⟨Reg.DRIVE_G_FLAGS n, 5, 0x40030400 + 0x20 * n + 0x14⟩
def DRIVE_G_FLAGS_WCOLL (n : Nat) : EvFlag := ⟨Reg.DRIVE_G_FLAGS n, 6, 0x40030400 + 0x20 * n + 0x18⟩
def DRIVE_G_FLAGS_CFGERR (n : Nat) : EvFlag := ⟨Reg.DRIVE_G_FLAGS n, 7, 0x40030400 + 0x20 * n + 0x1c⟩
def MODIN_GFLAGS_CFGERR : EvFlag := ⟨Reg.MODIN_GFLAGS, 0, 0x4004000c⟩
def MODIN_GFLAGSG_STBOVF (n : Nat) : EvFlag := ⟨Reg.MODIN_GFLAGSG n, 0, 0x4004011c + 0x40 * n + 0x0⟩
def MODIN_IN_FLAGS_OCHI (n : Nat) : EvFlag := ⟨Reg.MODIN_IN_FLAGS n, 0, 0x40041000 + 0x20 * n + 0x0⟩
def MODIN_IN_FLAGS_OCLO (n : Nat) : EvFlag := ⟨Reg.MODIN_IN_FLAGS n, 1, 0x40041000 + 0x20 * n + 0x4⟩
def MODIN_IN_FLAGS_CLKLOSS (n : Nat) : EvFlag := ⟨Reg.MODIN_IN_FLAGS n, 2, 0x40041000 + 0x20 * n + 0x8⟩
def MODIN_IN_FLAGS_STUCK (n : Nat) : EvFlag := ⟨Reg.MODIN_IN_FLAGS n, 3, 0x40041000 + 0x20 * n + 0xc⟩
def MODIN_IN_FLAGS_MANV (n : Nat) : EvFlag := ⟨Reg.MODIN_IN_FLAGS n, 4, 0x40041000 + 0x20 * n + 0x10⟩
def MODIN_IN_FLAGS_SAT (n : Nat) : EvFlag := ⟨Reg.MODIN_IN_FLAGS n, 5, 0x40041000 + 0x20 * n + 0x14⟩
def ACU_FLAGS_LISTDONE : EvFlag := ⟨Reg.ACU_FLAGS, 0, 0x40050040 + 0x0⟩
def ACU_FLAGS_SINGLEDONE : EvFlag := ⟨Reg.ACU_FLAGS, 1, 0x40050040 + 0x4⟩
def ACU_FLAGS_URGDONE : EvFlag := ⟨Reg.ACU_FLAGS, 2, 0x40050040 + 0x8⟩
def ACU_FLAGS_LISTOVF : EvFlag := ⟨Reg.ACU_FLAGS, 3, 0x40050040 + 0xc⟩
def ACU_FLAGS_STEPOVF : EvFlag := ⟨Reg.ACU_FLAGS, 4, 0x40050040 + 0x10⟩
def ACU_FLAGS_URGOVF : EvFlag := ⟨Reg.ACU_FLAGS, 5, 0x40050040 + 0x14⟩
def ACU_FLAGS_BADWORD : EvFlag := ⟨Reg.ACU_FLAGS, 6, 0x40050040 + 0x18⟩
def ACU_FLAGS_REFUSED : EvFlag := ⟨Reg.ACU_FLAGS, 7, 0x40050040 + 0x1c⟩
def ACU_FLAGS_NOCLK : EvFlag := ⟨Reg.ACU_FLAGS, 8, 0x40050040 + 0x20⟩
def ACU_FLAGS_SAT : EvFlag := ⟨Reg.ACU_FLAGS, 9, 0x40050040 + 0x24⟩
def ACU_FLAGS_CALDONE : EvFlag := ⟨Reg.ACU_FLAGS, 10, 0x40050040 + 0x28⟩
def ACU_FLAGS_CALERR : EvFlag := ⟨Reg.ACU_FLAGS, 11, 0x40050040 + 0x2c⟩
def ACU_FLAGS_ABORT : EvFlag := ⟨Reg.ACU_FLAGS, 12, 0x40050040 + 0x30⟩
def ACU_WINSTAT_OUT (b : Nat) : EvFlag := ⟨Reg.ACU_WINSTAT, 0 + b, 0x40050340 + 0x0 + 4 * b⟩
def METER_FLAGS_SNAP : EvFlag := ⟨Reg.METER_FLAGS, 0, 0x40060040 + 0x0⟩
def METER_FLAGS_SNAPOVF : EvFlag := ⟨Reg.METER_FLAGS, 1, 0x40060040 + 0x4⟩
def METER_FLAGS_SAVEDONE : EvFlag := ⟨Reg.METER_FLAGS, 2, 0x40060040 + 0x8⟩
def METER_FLAGS_SAVEERR : EvFlag := ⟨Reg.METER_FLAGS, 3, 0x40060040 + 0xc⟩
def METER_FLAGS_MTR_LOSS : EvFlag := ⟨Reg.METER_FLAGS, 4, 0x40060040 + 0x10⟩
def METER_FLAGS_RESTORED : EvFlag := ⟨Reg.METER_FLAGS, 5, 0x40060040 + 0x14⟩
def METER_FLAGS_INVAL : EvFlag := ⟨Reg.METER_FLAGS, 6, 0x40060040 + 0x18⟩
def METER_FLAGS_NOLOAD : EvFlag := ⟨Reg.METER_FLAGS, 7, 0x40060040 + 0x1c⟩
def METER_FLAGS_RATEOVF : EvFlag := ⟨Reg.METER_FLAGS, 8, 0x40060040 + 0x20⟩
def METER_FLAGS_BADCFG : EvFlag := ⟨Reg.METER_FLAGS, 9, 0x40060040 + 0x24⟩
def METER_FLAGS_TESTON : EvFlag := ⟨Reg.METER_FLAGS, 10, 0x40060040 + 0x28⟩
def SEQ_GP_FLAGS_V2 (n : Nat) : EvFlag := ⟨Reg.SEQ_GP_FLAGS n, 0, 0x40070140 + 0x80 * n + 0x0⟩
def SEQ_GP_FLAGS_LOCK (n : Nat) : EvFlag := ⟨Reg.SEQ_GP_FLAGS n, 1, 0x40070140 + 0x80 * n + 0x4⟩
def SEQ_GP_FLAGS_LOCKLOSS (n : Nat) : EvFlag := ⟨Reg.SEQ_GP_FLAGS n, 2, 0x40070140 + 0x80 * n + 0x8⟩
def SEQ_GP_FLAGS_INVALID (n : Nat) : EvFlag := ⟨Reg.SEQ_GP_FLAGS n, 3, 0x40070140 + 0x80 * n + 0xc⟩
def SEQ_GP_FLAGS_WCOLL (n : Nat) : EvFlag := ⟨Reg.SEQ_GP_FLAGS n, 4, 0x40070140 + 0x80 * n + 0x10⟩
def PROBE_FLAGS_PERDONE : EvFlag := ⟨Reg.PROBE_FLAGS, 0, 0x40080080 + 0x0⟩
def PROBE_FLAGS_ISL : EvFlag := ⟨Reg.PROBE_FLAGS, 1, 0x40080080 + 0x4⟩
def PROBE_FLAGS_UNUSED : EvFlag := ⟨Reg.PROBE_FLAGS, 2, 0x40080080 + 0x8⟩
def PROBE_FLAGS_STEPERR : EvFlag := ⟨Reg.PROBE_FLAGS, 3, 0x40080080 + 0xc⟩
def PROBE_FLAGS_STEPMISS : EvFlag := ⟨Reg.PROBE_FLAGS, 4, 0x40080080 + 0x10⟩
def PROBE_FLAGS_SUSP : EvFlag := ⟨Reg.PROBE_FLAGS, 5, 0x40080080 + 0x14⟩
def PROBE_FLAGS_CFGERR : EvFlag := ⟨Reg.PROBE_FLAGS, 6, 0x40080080 + 0x18⟩
def PROBE_FLAGS_CLRREF : EvFlag := ⟨Reg.PROBE_FLAGS, 7, 0x40080080 + 0x1c⟩
def PROT_FLAGS_TRIP : EvFlag := ⟨Reg.PROT_FLAGS, 0, 0x40090040 + 0x0⟩
def PROT_FLAGS_PICKUP : EvFlag := ⟨Reg.PROT_FLAGS, 1, 0x40090040 + 0x4⟩
def PROT_FLAGS_REGCHG : EvFlag := ⟨Reg.PROT_FLAGS, 2, 0x40090040 + 0x8⟩
def PROT_FLAGS_MCEND : EvFlag := ⟨Reg.PROT_FLAGS, 3, 0x40090040 + 0xc⟩
def PROT_FLAGS_DCDONE : EvFlag := ⟨Reg.PROT_FLAGS, 4, 0x40090040 + 0x10⟩
def PROT_FLAGS_DCLOST : EvFlag := ⟨Reg.PROT_FLAGS, 5, 0x40090040 + 0x14⟩
def PROT_FLAGS_CLRREF : EvFlag := ⟨Reg.PROT_FLAGS, 6, 0x40090040 + 0x18⟩
def PROT_FLAGS_MEASINV : EvFlag := ⟨Reg.PROT_FLAGS, 7, 0x40090040 + 0x1c⟩
def PROT_TRIPLAT_LAT (b : Nat) : EvFlag := ⟨Reg.PROT_TRIPLAT, 0 + b, 0x40090080 + 0x0 + 4 * b⟩
def DMA_CH_FLAGS_DONE (n : Nat) : EvFlag := ⟨Reg.DMA_CH_FLAGS n, 0, 0x400a1000 + 0x20 * n + 0x0⟩
def DMA_CH_FLAGS_ERR (n : Nat) : EvFlag := ⟨Reg.DMA_CH_FLAGS n, 1, 0x400a1000 + 0x20 * n + 0x4⟩
def DMA_CH_FLAGS_OVR (n : Nat) : EvFlag := ⟨Reg.DMA_CH_FLAGS n, 2, 0x400a1000 + 0x20 * n + 0x8⟩
def DMA_CH_FLAGS_EMPTY (n : Nat) : EvFlag := ⟨Reg.DMA_CH_FLAGS n, 3, 0x400a1000 + 0x20 * n + 0xc⟩
def DMA_CH_FLAGS_STOPPED (n : Nat) : EvFlag := ⟨Reg.DMA_CH_FLAGS n, 4, 0x400a1000 + 0x20 * n + 0x10⟩
def DMA_CH_FLAGS_MISMATCH (n : Nat) : EvFlag := ⟨Reg.DMA_CH_FLAGS n, 5, 0x400a1000 + 0x20 * n + 0x14⟩
def DMA_CH_FLAGS_CFGERR (n : Nat) : EvFlag := ⟨Reg.DMA_CH_FLAGS n, 6, 0x400a1000 + 0x20 * n + 0x18⟩
def DMA_CH_FLAGS_IGN (n : Nat) : EvFlag := ⟨Reg.DMA_CH_FLAGS n, 7, 0x400a1000 + 0x20 * n + 0x1c⟩
def LINK_L_FLAGS_UP (n : Nat) : EvFlag := ⟨Reg.LINK_L_FLAGS n, 0, 0x400b0140 + 0x100 * n + 0x0⟩
def LINK_L_FLAGS_DOWN (n : Nat) : EvFlag := ⟨Reg.LINK_L_FLAGS n, 1, 0x400b0140 + 0x100 * n + 0x4⟩
def LINK_L_FLAGS_TRAINFAIL (n : Nat) : EvFlag := ⟨Reg.LINK_L_FLAGS n, 2, 0x400b0140 + 0x100 * n + 0x8⟩
def LINK_L_FLAGS_CFGERR (n : Nat) : EvFlag := ⟨Reg.LINK_L_FLAGS n, 3, 0x400b0140 + 0x100 * n + 0xc⟩
def LINK_L_FLAGS_CRCERR (n : Nat) : EvFlag := ⟨Reg.LINK_L_FLAGS n, 4, 0x400b0140 + 0x100 * n + 0x10⟩
def LINK_L_FLAGS_REPLAY (n : Nat) : EvFlag := ⟨Reg.LINK_L_FLAGS n, 5, 0x400b0140 + 0x100 * n + 0x14⟩
def LINK_L_FLAGS_DUP (n : Nat) : EvFlag := ⟨Reg.LINK_L_FLAGS n, 6, 0x400b0140 + 0x100 * n + 0x18⟩
def LINK_L_FLAGS_STRMOVF (n : Nat) : EvFlag := ⟨Reg.LINK_L_FLAGS n, 7, 0x400b0140 + 0x100 * n + 0x1c⟩
def LINK_L_FLAGS_EVLOST (n : Nat) : EvFlag := ⟨Reg.LINK_L_FLAGS n, 8, 0x400b0140 + 0x100 * n + 0x20⟩
def LINK_L_FLAGS_XLOST (n : Nat) : EvFlag := ⟨Reg.LINK_L_FLAGS n, 9, 0x400b0140 + 0x100 * n + 0x24⟩
def LINK_L_FLAGS_REMERR (n : Nat) : EvFlag := ⟨Reg.LINK_L_FLAGS n, 10, 0x400b0140 + 0x100 * n + 0x28⟩
def LINK_L_FLAGS_PRBSERR (n : Nat) : EvFlag := ⟨Reg.LINK_L_FLAGS n, 11, 0x400b0140 + 0x100 * n + 0x2c⟩
def ETH_FLAGS_RXD0 : EvFlag := ⟨Reg.ETH_FLAGS, 0, 0x400c0040 + 0x0⟩
def ETH_FLAGS_RXD1 : EvFlag := ⟨Reg.ETH_FLAGS, 1, 0x400c0040 + 0x4⟩
def ETH_FLAGS_TXD0 : EvFlag := ⟨Reg.ETH_FLAGS, 2, 0x400c0040 + 0x8⟩
def ETH_FLAGS_TXD1 : EvFlag := ⟨Reg.ETH_FLAGS, 3, 0x400c0040 + 0xc⟩
def ETH_FLAGS_RXEMPTY0 : EvFlag := ⟨Reg.ETH_FLAGS, 4, 0x400c0040 + 0x10⟩
def ETH_FLAGS_RXEMPTY1 : EvFlag := ⟨Reg.ETH_FLAGS, 5, 0x400c0040 + 0x14⟩
def ETH_FLAGS_DUPLATE : EvFlag := ⟨Reg.ETH_FLAGS, 6, 0x400c0040 + 0x18⟩
def ETH_FLAGS_DUPFULL : EvFlag := ⟨Reg.ETH_FLAGS, 7, 0x400c0040 + 0x1c⟩
def ETH_FLAGS_GNEW : EvFlag := ⟨Reg.ETH_FLAGS, 8, 0x400c0040 + 0x20⟩
def ETH_FLAGS_GTAL : EvFlag := ⟨Reg.ETH_FLAGS, 9, 0x400c0040 + 0x24⟩
def ETH_FLAGS_SVOVR0 : EvFlag := ⟨Reg.ETH_FLAGS, 10, 0x400c0040 + 0x28⟩
def ETH_FLAGS_SVOVR1 : EvFlag := ⟨Reg.ETH_FLAGS, 11, 0x400c0040 + 0x2c⟩
def ETH_FLAGS_CFGERR : EvFlag := ⟨Reg.ETH_FLAGS, 12, 0x400c0040 + 0x30⟩
def ETH_FLAGS_FRMERR : EvFlag := ⟨Reg.ETH_FLAGS, 13, 0x400c0040 + 0x34⟩
def ETH_FLAGS_TSINV : EvFlag := ⟨Reg.ETH_FLAGS, 14, 0x400c0040 + 0x38⟩
def ETH_FLAGS_PAUSE : EvFlag := ⟨Reg.ETH_FLAGS, 15, 0x400c0040 + 0x3c⟩
def SEC_FLAGS_DONE : EvFlag := ⟨Reg.SEC_FLAGS, 0, 0x400d0300 + 0x0⟩
def SEC_FLAGS_REFUSED : EvFlag := ⟨Reg.SEC_FLAGS, 1, 0x400d0300 + 0x4⟩
def SEC_FLAGS_TRNGERR : EvFlag := ⟨Reg.SEC_FLAGS, 2, 0x400d0300 + 0x8⟩
def SEC_FLAGS_OTPERR : EvFlag := ⟨Reg.SEC_FLAGS, 3, 0x400d0300 + 0xc⟩
def SEC_FLAGS_VERFAIL : EvFlag := ⟨Reg.SEC_FLAGS, 4, 0x400d0300 + 0x10⟩
def SAFE_FLAGS_LOCK : EvFlag := ⟨Reg.SAFE_FLAGS, 0, 0x400e0110 + 0x0⟩
def SAFE_FLAGS_DEMAND : EvFlag := ⟨Reg.SAFE_FLAGS, 1, 0x400e0110 + 0x4⟩
def SAFE_FLAGS_RSTDONE : EvFlag := ⟨Reg.SAFE_FLAGS, 2, 0x400e0110 + 0x8⟩
def SAFE_FLAGS_RSTREF : EvFlag := ⟨Reg.SAFE_FLAGS, 3, 0x400e0110 + 0xc⟩
def SAFE_FLAGS_CFGAPPLIED : EvFlag := ⟨Reg.SAFE_FLAGS, 4, 0x400e0110 + 0x10⟩
def PMU_FLAGS_PFW : EvFlag := ⟨Reg.PMU_FLAGS, 0, 0x400f0040 + 0x0⟩
def PMU_FLAGS_HUREADY : EvFlag := ⟨Reg.PMU_FLAGS, 1, 0x400f0040 + 0x4⟩
def PMU_FLAGS_HUWEAK : EvFlag := ⟨Reg.PMU_FLAGS, 2, 0x400f0040 + 0x8⟩
def PMU_FLAGS_RAILERR : EvFlag := ⟨Reg.PMU_FLAGS, 3, 0x400f0040 + 0xc⟩
def PMU_FLAGS_SAVEDONE : EvFlag := ⟨Reg.PMU_FLAGS, 4, 0x400f0040 + 0x10⟩
def PMU_FLAGS_SAVEINC : EvFlag := ⟨Reg.PMU_FLAGS, 5, 0x400f0040 + 0x14⟩
def PMU_FLAGS_SLEEPREF : EvFlag := ⟨Reg.PMU_FLAGS, 6, 0x400f0040 + 0x18⟩
def SENT_FLAGS_TAMP0 : EvFlag := ⟨Reg.SENT_FLAGS, 0, 0x40100040 + 0x0⟩
def SENT_FLAGS_TAMP1 : EvFlag := ⟨Reg.SENT_FLAGS, 1, 0x40100040 + 0x4⟩
def SENT_FLAGS_BURSTREF : EvFlag := ⟨Reg.SENT_FLAGS, 2, 0x40100040 + 0x8⟩
def SENT_FLAGS_CUTOFF : EvFlag := ⟨Reg.SENT_FLAGS, 3, 0x40100040 + 0xc⟩
def SENT_FLAGS_QDROP : EvFlag := ⟨Reg.SENT_FLAGS, 4, 0x40100040 + 0x10⟩
def MON_FLAGS_ALARM (b : Nat) : EvFlag := ⟨Reg.MON_FLAGS, 0 + b, 0x40110080 + 0x0 + 4 * b⟩
def MON_FLAGS_SRAMCE : EvFlag := ⟨Reg.MON_FLAGS, 16, 0x40110080 + 0x40⟩
def MON_FLAGS_SRAMUE : EvFlag := ⟨Reg.MON_FLAGS, 17, 0x40110080 + 0x44⟩
def SYSCFG_RSTCAUSE_POWER : EvFlag := ⟨Reg.SYSCFG_RSTCAUSE, 0, 0x40120040 + 0x0⟩
def SYSCFG_RSTCAUSE_WDG0 : EvFlag := ⟨Reg.SYSCFG_RSTCAUSE, 1, 0x40120040 + 0x4⟩
def SYSCFG_RSTCAUSE_WDG1 : EvFlag := ⟨Reg.SYSCFG_RSTCAUSE, 2, 0x40120040 + 0x8⟩
def SYSCFG_RSTCAUSE_DEBUG : EvFlag := ⟨Reg.SYSCFG_RSTCAUSE, 3, 0x40120040 + 0xc⟩
def SYSCFG_RSTCAUSE_REBOOT : EvFlag := ⟨Reg.SYSCFG_RSTCAUSE, 4, 0x40120040 + 0x10⟩
def SYSCFG_RSTCAUSE_SLEEP : EvFlag := ⟨Reg.SYSCFG_RSTCAUSE, 5, 0x40120040 + 0x14⟩
def SYSCFG_RSTCAUSE_VINFAIL : EvFlag := ⟨Reg.SYSCFG_RSTCAUSE, 6, 0x40120040 + 0x18⟩
def SYSCFG_RSTCAUSE_RAIL : EvFlag := ⟨Reg.SYSCFG_RSTCAUSE, 7, 0x40120040 + 0x1c⟩
def SYSCFG_WDG_STATUS_FIRED (n : Nat) : EvFlag := ⟨Reg.SYSCFG_WDG_STATUS n, 0, 0x40120818 + 0x20 * n + 0x0⟩
def SYSCFG_RK_FLAGS_MISS (n : Nat) : EvFlag := ⟨Reg.SYSCFG_RK_FLAGS n, 0, 0x40121020 + 0x400 * n + 0x0⟩
def SYSCFG_RK_FLAGS_OVR (n : Nat) : EvFlag := ⟨Reg.SYSCFG_RK_FLAGS n, 1, 0x40121020 + 0x400 * n + 0x4⟩
def SYSCFG_RK_FLAGS_EXC (n : Nat) : EvFlag := ⟨Reg.SYSCFG_RK_FLAGS n, 2, 0x40121020 + 0x400 * n + 0x8⟩
def SYSCFG_RK_FLAGS_CARRY (n : Nat) : EvFlag := ⟨Reg.SYSCFG_RK_FLAGS n, 3, 0x40121020 + 0x400 * n + 0xc⟩
def SYSCFG_RK_FLAGS_STGCOLL (n : Nat) : EvFlag := ⟨Reg.SYSCFG_RK_FLAGS n, 4, 0x40121020 + 0x400 * n + 0x10⟩
def SYSCFG_RK_FLAGS_DROP (n : Nat) : EvFlag := ⟨Reg.SYSCFG_RK_FLAGS n, 5, 0x40121020 + 0x400 * n + 0x14⟩
def SYSCFG_RK_FLAGS_SWAPD (n : Nat) : EvFlag := ⟨Reg.SYSCFG_RK_FLAGS n, 6, 0x40121020 + 0x400 * n + 0x18⟩
def SYSCFG_DC_FLAGS_DONE (n : Nat) : EvFlag := ⟨Reg.SYSCFG_DC_FLAGS n, 0, 0x40124034 + 0x100 * n + 0x0⟩
def SYSCFG_DC_FLAGS_ABORT (n : Nat) : EvFlag := ⟨Reg.SYSCFG_DC_FLAGS n, 1, 0x40124034 + 0x100 * n + 0x4⟩
def SYSCFG_DC_FLAGS_REFUSED (n : Nat) : EvFlag := ⟨Reg.SYSCFG_DC_FLAGS n, 2, 0x40124034 + 0x100 * n + 0x8⟩
def SYSCFG_DC_FLAGS_NIGHT (n : Nat) : EvFlag := ⟨Reg.SYSCFG_DC_FLAGS n, 3, 0x40124034 + 0x100 * n + 0xc⟩
def SYSCFG_DC_FLAGS_WAKE (n : Nat) : EvFlag := ⟨Reg.SYSCFG_DC_FLAGS n, 4, 0x40124034 + 0x100 * n + 0x10⟩
def SYSCFG_DC_FLAGS_CFGERR (n : Nat) : EvFlag := ⟨Reg.SYSCFG_DC_FLAGS n, 5, 0x40124034 + 0x100 * n + 0x14⟩
def CONSENT_FLAGS_SWITCHED : EvFlag := ⟨Reg.CONSENT_FLAGS, 0, 0x401300c0 + 0x0⟩
def CONSENT_FLAGS_REJECT : EvFlag := ⟨Reg.CONSENT_FLAGS, 1, 0x401300c0 + 0x4⟩
def CONSENT_FLAGS_CANCELLED : EvFlag := ⟨Reg.CONSENT_FLAGS, 2, 0x401300c0 + 0x8⟩
def CONSENT_FLAGS_TIMEOUT : EvFlag := ⟨Reg.CONSENT_FLAGS, 3, 0x401300c0 + 0xc⟩
def CONSENT_FLAGS_REFUSED : EvFlag := ⟨Reg.CONSENT_FLAGS, 4, 0x401300c0 + 0x10⟩
def CONSENT_FLAGS_RESTOREERR : EvFlag := ⟨Reg.CONSENT_FLAGS, 5, 0x401300c0 + 0x14⟩
def CONSENT_FLAGS_LOCKOUT : EvFlag := ⟨Reg.CONSENT_FLAGS, 6, 0x401300c0 + 0x18⟩
end Ev

/-! ### Access rows, block by block -/
/-- R61: the register kinds of TBL. -/
def rowsTBL : List RegRow :=
  [⟨0x40000000, 0x4, 1, 0x4, 1, 0x4, 1, 0x0, 0x37, 0x0, 0x0, 0x0, .plain⟩,
   ⟨0x40000004, 0x4, 1, 0x4, 1, 0x4, 1, 0x1, 0x0, 0xff, 0x0, 0x0, .plain⟩,
   ⟨0x40000008, 0x4, 1, 0x4, 1, 0x4, 1, 0x0, 0xff, 0x0, 0x0, 0x0, .plain⟩,
   ⟨0x40000010, 0x4, 1, 0x4, 1, 0x4, 1, 0x0, 0x0, 0x0, 0x0, 0x0, .latch⟩,
   ⟨0x40000014, 0x4, 1, 0x4, 1, 0x4, 1, 0x0, 0x0, 0x0, 0x0, 0x0, .plain⟩,
   ⟨0x40000018, 0x4, 1, 0x4, 1, 0x4, 1, 0x0, 0xffffffff, 0x0, 0x0, 0x0, .plain⟩,
   ⟨0x40000020, 0x4, 1, 0x4, 1, 0x4, 1, 0x0, 0xffffffff, 0x0, 0x0, 0x0, .plain⟩,
   ⟨0x40000024, 0x4, 1, 0x4, 1, 0x4, 1, 0x0, 0xffffffff, 0x0, 0x0, 0x0, .plain⟩,
   ⟨0x40000028, 0x4, 1, 0x4, 1, 0x4, 1, 0x0, 0x0, 0x0, 0x0, 0x0, .plain⟩,
   ⟨0x40000030, 0x4, 1, 0x4, 1, 0x4, 1, 0x0, 0x0, 0x0, 0x0, 0x0, .plain⟩,
   ⟨0x40000034, 0x4, 1, 0x4, 1, 0x4, 1, 0x33, 0xffff, 0x0, 0x0, 0x0, .plain⟩,
   ⟨0x40000040, 0x4, 8, 0x4, 1, 0x4, 1, 0x0, 0x0, 0x0, 0x0, 0x0, .clear⟩,
   ⟨0x40000060, 0x4, 1, 0x4, 1, 0x4, 1, 0x0, 0x0, 0x0, 0x0, 0x0, .clear⟩,
   ⟨0x40000064, 0x4, 1, 0x4, 1, 0x4, 1, 0x0, 0x0, 0x0, 0x0, 0x0, .clear⟩,
   ⟨0x40000100, 0x20, 16, 0x20, 1, 0x20, 1, 0x0, 0xffffffff, 0x0, 0x0, 0x0, .plain⟩,
   ⟨0x40000104, 0x20, 16, 0x20, 1, 0x20, 1, 0x0, 0xffffffff, 0x0, 0x0, 0x0, .plain⟩,
   ⟨0x40000108, 0x20, 16, 0x20, 1, 0x20, 1, 0x0, 0xffffffff, 0x0, 0x0, 0x0, .plain⟩,
   ⟨0x4000010c, 0x20, 16, 0x20, 1, 0x20, 1, 0x0, 0xff, 0x0, 0x0, 0x0, .plain⟩,
   ⟨0x40000110, 0x20, 16, 0x20, 1, 0x20, 1, 0x0, 0xffff, 0x0, 0x0, 0x0, .plain⟩,
   ⟨0x40000114, 0x20, 16, 0x20, 1, 0x20, 1, 0x0, 0x3, 0x0, 0x0, 0x0, .plain⟩,
   ⟨0x40000118, 0x20, 16, 0x20, 1, 0x20, 1, 0x0, 0x0, 0x0, 0x0, 0x0, .plain⟩,
   ⟨0x4000011c, 0x20, 16, 0x20, 1, 0x20, 1, 0x0, 0x0, 0x0, 0x0, 0x0, .clear⟩,
   ⟨0x40000400, 0x4, 1, 0x4, 1, 0x4, 1, 0x0, 0xffffffff, 0x0, 0x0, 0x0, .plain⟩,
   ⟨0x40000404, 0x4, 1, 0x4, 1, 0x4, 1, 0x0, 0xffffffff, 0x0, 0x0, 0x0, .plain⟩,
   ⟨0x40000408, 0x4, 1, 0x4, 1, 0x4, 1, 0x0, 0x7f, 0x0, 0x0, 0x0, .plain⟩,
   ⟨0x4000040c, 0x4, 1, 0x4, 1, 0x4, 1, 0x0, 0x0, 0x0, 0x0, 0x0, .plain⟩,
   ⟨0x40000410, 0x4, 1, 0x4, 1, 0x4, 1, 0x0, 0x0, 0x0, 0x0, 0x0, .plain⟩,
   ⟨0x40000414, 0x4, 1, 0x4, 1, 0x4, 1, 0x0, 0x0, 0x100, 0x0, 0x0, .plain⟩,
   ⟨0x40000418, 0x4, 1, 0x4, 1, 0x4, 1, 0x0, 0x0, 0x0, 0x0, 0x0, .plain⟩,
   ⟨0x4000041c, 0x4, 1, 0x4, 1, 0x4, 1, 0x0, 0x0, 0x0, 0x0, 0x0, .clear⟩,
   ⟨0x40000800, 0x4, 112, 0x4, 1, 0x4, 1, 0x0, 0x17f, 0x0, 0x0, 0x0, .plain⟩,
   ⟨0x40000a00, 0x20, 4, 0x4, 8, 0x4, 1, 0x0, 0x17f, 0x0, 0x0, 0x0, .plain⟩,
   ⟨0x40000a80, 0x4, 4, 0x4, 1, 0x4, 1, 0xfa0, 0xffff, 0x0, 0x0, 0x0, .plain⟩,
   ⟨0x40000a90, 0x4, 4, 0x4, 1, 0x4, 1, 0x0, 0x0, 0x0, 0x0, 0x0, .plain⟩,
   ⟨0x40000e00, 0x4, 1, 0x4, 1, 0x4, 1, 0x0, 0x0, 0x0, 0x0, 0x0, .plain⟩,
   ⟨0x40000c00, 0x10, 8, 0x10, 1, 0x10, 1, 0x0, 0x1ff03, 0x0, 0x0, 0x0, .plain⟩,
   ⟨0x40000c04, 0x10, 8, 0x10, 1, 0x10, 1, 0x0, 0x0, 0x0, 0x0, 0x0, .latch⟩,
   ⟨0x40000c08, 0x10, 8, 0x10, 1, 0x10, 1, 0x0, 0x0, 0x0, 0x0, 0x0, .plain⟩,
   ⟨0x40000d00, 0x4, 8, 0x4, 1, 0x4, 1, 0x0, 0xffff0003, 0x0, 0x0, 0x0, .plain⟩]
/-- R81: the register kinds of PLL. -/
def rowsPLL : List RegRow :=
  [⟨0x40010000, 0x4, 1, 0x4, 1, 0x4, 1, 0x0, 0x3, 0x0, 0x0, 0x0, .plain⟩,
   ⟨0x40010004, 0x4, 1, 0x4, 1, 0x4, 1, 0x0, 0x0, 0x0, 0x0, 0x0, .plain⟩,
   ⟨0x40010008, 0x4, 1, 0x4, 1, 0x4, 1, 0x0, 0x0, 0xf, 0x0, 0x0, .plain⟩,
   ⟨0x4001000c, 0x4, 1, 0x4, 1, 0x4, 1, 0x0, 0xf, 0x0, 0x0, 0x0, .plain⟩,
   ⟨0x40010010, 0x4, 4, 0x4, 1, 0x4, 1, 0x0, 0x0, 0x0, 0x0, 0x0, .clear⟩,
   ⟨0x40010040, 0x4, 7, 0x4, 1, 0x4, 1, 0xa000a0, 0x83ff, 0x0, 0x0, 0x0, .plain⟩,
   ⟨0x40010080, 0x4, 1, 0x4, 1, 0x4, 1, 0x0, 0x0, 0x0, 0x0, 0x0, .plain⟩,
   ⟨0x400100c0, 0x4, 8, 0x4, 1, 0x4, 1, 0x0, 0x73fff, 0x0, 0x0, 0x0, .plain⟩,
   ⟨0x40010100, 0x4, 1, 0x4, 1, 0x4, 1, 0x0, 0x0, 0x0, 0x0, 0x0, .plain⟩]
/-- R213: the register kinds of PWM. -/
def rowsPWM : List RegRow :=
  [⟨0x40020000, 0x4, 1, 0x4, 1, 0x4, 1, 0x0, 0x3, 0x0, 0x0, 0x0, .plain⟩,
   ⟨0x40020004, 0x4, 1, 0x4, 1, 0x4, 1, 0x1, 0x0, 0x0, 0x0, 0x0, .plain⟩,
   ⟨0x40020008, 0x4, 1, 0x4, 1, 0x4, 1, 0x0, 0x0, 0x7b, 0x0, 0x0, .plain⟩,
   ⟨0x4002000c, 0x4, 1, 0x4, 1, 0x4, 1, 0x0, 0x7f, 0x0, 0x0, 0x0, .plain⟩,
   ⟨0x40020010, 0x4, 7, 0x4, 1, 0x4, 1, 0x0, 0x0, 0x0, 0x0, 0x0, .clear⟩,
   ⟨0x40020040, 0x4, 1, 0x4, 1, 0x4, 1, 0x0, 0xf, 0x0, 0x0, 0x0, .plain⟩,
   ⟨0x40020044, 0x4, 1, 0x4, 1, 0x4, 1, 0x0, 0x0, 0x0, 0x0, 0x0, .plain⟩,
   ⟨0x40020048, 0x4, 1, 0x4, 1, 0x4, 1, 0x0, 0x0, 0x0, 0x0, 0x0, .plain⟩,
   ⟨0x40020050, 0x4, 1, 0x4, 1, 0x4, 1, 0x0, 0x0, 0x0, 0x0, 0x0, .plain⟩,
   ⟨0x40020100, 0x4, 1, 0x4, 1, 0x4, 1, 0x0, 0x0, 0x0, 0x0, 0x0, .plain⟩,
   ⟨0x40020104, 0x4, 1, 0x4, 1, 0x4, 1, 0x0, 0x0, 0x0, 0xff, 0x0, .plain⟩,
   ⟨0x40020108, 0x4, 1, 0x4, 1, 0x4, 1, 0x0, 0x0, 0x0, 0x0, 0x0, .plain⟩,
   ⟨0x40020200, 0x20, 8, 0x20, 1, 0x20, 1, 0x0, 0xf, 0x0, 0x0, 0x0, .plain⟩,
   ⟨0x40020204, 0x20, 8, 0x20, 1, 0x20, 1, 0x7d00, 0x7fffffff, 0x0, 0x0, 0x0, .plain⟩,
   ⟨0x40020208, 0x20, 8, 0x20, 1, 0x20, 1, 0x7d00, 0x0, 0x0, 0x0, 0x0, .plain⟩,
   ⟨0x4002020c, 0x20, 8, 0x20, 1, 0x20, 1, 0x0, 0x0, 0x0, 0x0, 0x0, .plain⟩,
   ⟨0x40020210, 0x20, 8, 0x20, 1, 0x20, 1, 0x0, 0x0, 0xf, 0x0, 0x0, .plain⟩,
   ⟨0x40020214, 0x20, 8, 0x20, 1, 0x20, 1, 0x0, 0xf, 0x0, 0x0, 0x0, .plain⟩,
   ⟨0x40020218, 0x20, 8, 0x20, 1, 0x20, 1, 0x0, 0x0, 0x0, 0x0, 0x0, .plain⟩,
   ⟨0x40020400, 0x10, 8, 0x4, 4, 0x4, 1, 0x0, 0x0, 0x0, 0x0, 0x0, .clear⟩,
   ⟨0x40021000, 0x40, 48, 0x40, 1, 0x40, 1, 0x0, 0x37ff, 0x0, 0x0, 0x0, .plain⟩,
   ⟨0x40021004, 0x40, 48, 0x40, 1, 0x40, 1, 0x0, 0xffffffff, 0x0, 0x0, 0x0, .plain⟩,
   ⟨0x40021008, 0x40, 48, 0x40, 1, 0x40, 1, 0x0, 0xffffffff, 0x0, 0x0, 0x0, .plain⟩,
   ⟨0x4002100c, 0x40, 48, 0x40, 1, 0x40, 1, 0x0, 0x3fffffff, 0x0, 0x0, 0x0, .plain⟩,
   ⟨0x40021010, 0x40, 48, 0x40, 1, 0x40, 1, 0x6400640, 0xffffffff, 0x0, 0x0, 0x0, .plain⟩,
   ⟨0x40021014, 0x40, 48, 0x40, 1, 0x40, 1, 0x640, 0xffff, 0x0, 0x0, 0x0, .plain⟩,
   ⟨0x40021018, 0x40, 48, 0x40, 1, 0x40, 1, 0x0, 0x0, 0x0, 0x0, 0x0, .plain⟩,
   ⟨0x4002101c, 0x40, 48, 0x40, 1, 0x40, 1, 0x0, 0x0, 0x0, 0x0, 0x0, .plain⟩,
   ⟨0x40021020, 0x40, 48, 0x40, 1, 0x40, 1, 0x0, 0x0, 0x0, 0x0, 0x0, .plain⟩,
   ⟨0x40021024, 0x40, 48, 0x40, 1, 0x40, 1, 0x0, 0x7, 0x0, 0x0, 0x0, .plain⟩,
   ⟨0x40021028, 0x40, 48, 0x40, 1, 0x40, 1, 0x0, 0xffff, 0x0, 0x0, 0x0, .plain⟩,
   ⟨0x4002102c, 0x40, 48, 0x40, 1, 0x40, 1, 0x0, 0x0, 0xf, 0x0, 0x0, .plain⟩,
   ⟨0x40021030, 0x40, 48, 0x40, 1, 0x40, 1, 0x0, 0x0, 0x0, 0x0, 0x0, .plain⟩,
   ⟨0x40022000, 0x10, 48, 0x4, 4, 0x4, 1, 0x0, 0x0, 0x0, 0x0, 0x0, .clear⟩,
   ⟨0x40020800, 0x4, 28, 0x4, 1, 0x4, 1, 0x0, 0xffffffff, 0x0, 0x0, 0x0, .plain⟩,
   ⟨0x40020880, 0x4, 2, 0x4, 1, 0x4, 1, 0x0, 0xffffffff, 0x0, 0x0, 0x0, .plain⟩,
   ⟨0x40020888, 0x4, 1, 0x4, 1, 0x4, 1, 0x0, 0xffff, 0x0, 0x0, 0x0, .plain⟩,
   ⟨0x4002088c, 0x4, 1, 0x4, 1, 0x4, 1, 0x0, 0xffff, 0x0, 0x0, 0x0, .plain⟩,
   ⟨0x40020890, 0x4, 1, 0x4, 1, 0x4, 1, 0x0, 0x0, 0x500ff, 0x0, 0x0, .plain⟩,
   ⟨0x400208a0, 0x4, 8, 0x4, 1, 0x4, 1, 0x0, 0x0, 0x0, 0x0, 0x0, .clear⟩,
   ⟨0x400208c0, 0x4, 1, 0x4, 1, 0x4, 1, 0x0, 0x0, 0x0, 0x0, 0x0, .clear⟩,
   ⟨0x400208c4, 0x4, 1, 0x4, 1, 0x4, 1, 0x0, 0x0, 0x0, 0x0, 0x0, .clear⟩]
/-- R233: the register kinds of DRIVE. -/
def rowsDRIVE : List RegRow :=
  [⟨0x40030000, 0x4, 1, 0x4, 1, 0x4, 1, 0x0, 0x0, 0x0, 0x0, 0x0, .plain⟩,
   ⟨0x40030100, 0x40, 12, 0x40, 1, 0x40, 1, 0x0, 0x7, 0x0, 0x0, 0x0, .plain⟩,
   ⟨0x40030104, 0x40, 12, 0x40, 1, 0x40, 1, 0xa030064, 0x3f0f03ff, 0x0, 0x0, 0x0, .plain⟩,
   ⟨0x40030108, 0x40, 12, 0x40, 1, 0x40, 1, 0x0, 0x0, 0x0, 0x0, 0x0, .plain⟩,
   ⟨0x4003010c, 0x40, 12, 0x40, 1, 0x40, 1, 0x100003, 0x0, 0x0, 0x0, 0x0, .plain⟩,
   ⟨0x40030110, 0x40, 12, 0x40, 1, 0x40, 1, 0x0, 0x0, 0xff, 0x0, 0x0, .plain⟩,
   ⟨0x40030114, 0x40, 12, 0x40, 1, 0x40, 1, 0x0, 0xff, 0x0, 0x0, 0x0, .plain⟩,
   ⟨0x40030118, 0x40, 12, 0x40, 1, 0x40, 1, 0x0, 0x0, 0x0, 0x0, 0x0, .plain⟩,
   ⟨0x40030400, 0x20, 12, 0x4, 8, 0x4, 1, 0x0, 0x0, 0x0, 0x0, 0x0, .clear⟩,
   ⟨0x40031000, 0x20, 48, 0x20, 1, 0x20, 1, 0x8888, 0x1ffff, 0x0, 0x0, 0x0, .plain⟩,
   ⟨0x40031004, 0x20, 48, 0x20, 1, 0x20, 1, 0x8888, 0x0, 0x0, 0x0, 0x0, .plain⟩,
   ⟨0x40031008, 0x20, 48, 0x20, 1, 0x20, 1, 0xc800800, 0xffffff01, 0x0, 0x0, 0x0, .plain⟩,
   ⟨0x4003100c, 0x20, 48, 0x20, 1, 0x20, 1, 0x0, 0x0, 0x0, 0x0, 0x0, .plain⟩]
/-- R107: the register kinds of MODIN. -/
def rowsMODIN : List RegRow :=
  [⟨0x40040000, 0x4, 1, 0x4, 1, 0x4, 1, 0x0, 0x0, 0x0, 0x0, 0x0, .plain⟩,
   ⟨0x40040004, 0x4, 1, 0x4, 1, 0x4, 1, 0x0, 0x0, 0x1, 0x0, 0x0, .plain⟩,
   ⟨0x40040008, 0x4, 1, 0x4, 1, 0x4, 1, 0x0, 0x1, 0x0, 0x0, 0x0, .plain⟩,
   ⟨0x4004000c, 0x4, 1, 0x4, 1, 0x4, 1, 0x0, 0x0, 0x0, 0x0, 0x0, .clear⟩,
   ⟨0x40040100, 0x40, 7, 0x40, 1, 0x40, 1, 0x0, 0x7f7f, 0x0, 0x0, 0x0, .plain⟩,
   ⟨0x40040104, 0x40, 7, 0x40, 1, 0x40, 1, 0x0, 0xffff, 0x0, 0x0, 0x0, .plain⟩,
   ⟨0x40040108, 0x40, 7, 0x40, 1, 0x40, 1, 0x0, 0x0, 0x0, 0x0, 0x0, .latch⟩,
   ⟨0x4004010c, 0x40, 7, 0x40, 1, 0x40, 1, 0x0, 0x0, 0x0, 0x0, 0x0, .plain⟩,
   ⟨0x40040110, 0x40, 7, 0x40, 1, 0x40, 1, 0x0, 0x0, 0x0, 0x0, 0x0, .plain⟩,
   ⟨0x40040114, 0x40, 7, 0x40, 1, 0x40, 1, 0x0, 0x0, 0x1, 0x0, 0x0, .plain⟩,
   ⟨0x40040118, 0x40, 7, 0x40, 1, 0x40, 1, 0x0, 0x1ffff, 0x0, 0x0, 0x0, .plain⟩,
   ⟨0x4004011c, 0x40, 7, 0x40, 1, 0x40, 1, 0x0, 0x0, 0x0, 0x0, 0x0, .clear⟩,
   ⟨0x40040400, 0x20, 56, 0x20, 1, 0x20, 1, 0x420406, 0x7ff7fff, 0x0, 0x0, 0x0, .plain⟩,
   ⟨0x40040404, 0x20, 56, 0x20, 1, 0x20, 1, 0x0, 0x0, 0x0, 0x0, 0x0, .plain⟩,
   ⟨0x40040408, 0x20, 56, 0x20, 1, 0x20, 1, 0x0, 0x0, 0x0, 0x0, 0x0, .plain⟩,
   ⟨0x4004040c, 0x20, 56, 0x20, 1, 0x20, 1, 0x7fffffff, 0xffffffff, 0x0, 0x0, 0x0, .plain⟩,
   ⟨0x40040410, 0x20, 56, 0x20, 1, 0x20, 1, 0x80000000, 0xffffffff, 0x0, 0x0, 0x0, .plain⟩,
   ⟨0x40040414, 0x20, 56, 0x20, 1, 0x20, 1, 0x0, 0xf3, 0x0, 0x0, 0x0, .plain⟩,
   ⟨0x40040418, 0x20, 56, 0x20, 1, 0x20, 1, 0x0, 0x0, 0x3f, 0x0, 0x0, .plain⟩,
   ⟨0x4004041c, 0x20, 56, 0x20, 1, 0x20, 1, 0x40100, 0xf03ff, 0x0, 0x0, 0x0, .plain⟩,
   ⟨0x40041000, 0x20, 56, 0x4, 6, 0x4, 1, 0x0, 0x0, 0x0, 0x0, 0x0, .clear⟩]
/-- R126: the register kinds of ACU. -/
def rowsACU : List RegRow :=
  [⟨0x40050000, 0x4, 1, 0x4, 1, 0x4, 1, 0x1000002, 0x1fff000f, 0x0, 0x0, 0x0, .plain⟩,
   ⟨0x40050004, 0x4, 1, 0x4, 1, 0x4, 1, 0x0, 0x0, 0x0, 0x0, 0x0, .plain⟩,
   ⟨0x40050008, 0x4, 1, 0x4, 1, 0x4, 1, 0x0, 0x1fff003f, 0x0, 0x0, 0x0, .plain⟩,
   ⟨0x4005000c, 0x4, 1, 0x4, 1, 0x4, 1, 0x0, 0x1fff003f, 0x0, 0x0, 0x0, .plain⟩,
   ⟨0x40050010, 0x4, 1, 0x4, 1, 0x4, 1, 0x20, 0x0, 0x0, 0x0, 0x0, .plain⟩,
   ⟨0x40050014, 0x4, 1, 0x4, 1, 0x4, 1, 0x0, 0x0, 0x1fff, 0x0, 0x0, .plain⟩,
   ⟨0x40050018, 0x4, 1, 0x4, 1, 0x4, 1, 0x0, 0x1fff, 0x0, 0x0, 0x0, .plain⟩,
   ⟨0x40050020, 0x4, 1, 0x4, 1, 0x4, 1, 0x0, 0x0, 0x0, 0x0, 0x0, .plain⟩,
   ⟨0x40050024, 0x4, 1, 0x4, 1, 0x4, 1, 0x0, 0x0, 0x0, 0x0, 0x0, .plain⟩,
   ⟨0x40050028, 0x4, 1, 0x4, 1, 0x4, 1, 0x0, 0x0, 0x0, 0x0, 0x0, .plain⟩,
   ⟨0x40050030, 0x4, 1, 0x4, 1, 0x4, 1, 0x0, 0x0, 0x0, 0x0, 0x0, .latch⟩,
   ⟨0x40050034, 0x4, 1, 0x4, 1, 0x4, 1, 0x0, 0x0, 0x0, 0x0, 0x0, .plain⟩,
   ⟨0x40050038, 0x4, 1, 0x4, 1, 0x4, 1, 0x0, 0x3ff, 0x0, 0x0, 0x0, .plain⟩,
   ⟨0x40050040, 0x4, 13, 0x4, 1, 0x4, 1, 0x0, 0x0, 0x0, 0x0, 0x0, .clear⟩,
   ⟨0x40050080, 0x4, 1, 0x4, 1, 0x4, 1, 0x0, 0x1fff0f3f, 0x0, 0x0, 0x0, .plain⟩,
   ⟨0x40050084, 0x4, 1, 0x4, 1, 0x4, 1, 0x0, 0xffffff, 0x0, 0x0, 0x0, .plain⟩,
   ⟨0x40050100, 0x8, 32, 0x8, 1, 0x8, 1, 0x0, 0xffffff, 0x0, 0x0, 0x0, .plain⟩,
   ⟨0x40050104, 0x8, 32, 0x8, 1, 0x8, 1, 0x400000, 0xffffff, 0x0, 0x0, 0x0, .plain⟩,
   ⟨0x40050200, 0x10, 16, 0x10, 1, 0x10, 1, 0x0, 0x13f, 0x0, 0x0, 0x0, .plain⟩,
   ⟨0x40050204, 0x10, 16, 0x10, 1, 0x10, 1, 0x0, 0xffffff, 0x0, 0x0, 0x0, .plain⟩,
   ⟨0x40050208, 0x10, 16, 0x10, 1, 0x10, 1, 0x0, 0xffffff, 0x0, 0x0, 0x0, .plain⟩,
   ⟨0x4005020c, 0x10, 16, 0x10, 1, 0x10, 1, 0x0, 0xffffff, 0x0, 0x0, 0x0, .plain⟩,
   ⟨0x40050300, 0x4, 1, 0x4, 1, 0x4, 1, 0x0, 0x0, 0xffff, 0x0, 0x0, .plain⟩,
   ⟨0x40050304, 0x4, 1, 0x4, 1, 0x4, 1, 0x0, 0xffff, 0x0, 0x0, 0x0, .plain⟩,
   ⟨0x40050340, 0x4, 16, 0x4, 1, 0x4, 1, 0x0, 0x0, 0x0, 0x0, 0x0, .clear⟩,
   ⟨0x40051000, 0x4, 1024, 0x4, 1, 0x4, 1, 0x0, 0xffffffff, 0x0, 0x0, 0x0, .plain⟩,
   ⟨0x40052000, 0x4, 1024, 0x4, 1, 0x4, 1, 0x0, 0x0, 0x0, 0x0, 0x0, .plain⟩]
/-- R324: the register kinds of METER. -/
def rowsMETER : List RegRow :=
  [⟨0x40060000, 0x4, 1, 0x4, 1, 0x4, 1, 0x0, 0x0, 0x0, 0x0, 0x0, .plain⟩,
   ⟨0x40060004, 0x4, 1, 0x4, 1, 0x4, 1, 0x0, 0x0, 0x7ff, 0x0, 0x0, .plain⟩,
   ⟨0x40060008, 0x4, 1, 0x4, 1, 0x4, 1, 0x0, 0x7ff, 0x0, 0x0, 0x0, .plain⟩,
   ⟨0x4006000c, 0x4, 1, 0x4, 1, 0x4, 1, 0x64, 0x0, 0x0, 0x0, 0x1fff, .plain⟩,
   ⟨0x40060010, 0x4, 1, 0x4, 1, 0x4, 1, 0x0, 0x0, 0x0, 0x0, 0x0, .plain⟩,
   ⟨0x40060014, 0x4, 1, 0x4, 1, 0x4, 1, 0x0, 0x0, 0x0, 0x0, 0x0, .plain⟩,
   ⟨0x40060018, 0x4, 4, 0x4, 1, 0x4, 1, 0x0, 0x0, 0x0, 0x0, 0x0, .plain⟩,
   ⟨0x40060028, 0x4, 1, 0x4, 1, 0x4, 1, 0x0, 0x7, 0x0, 0x0, 0x0, .plain⟩,
   ⟨0x4006002c, 0x4, 1, 0x4, 1, 0x4, 1, 0x0, 0xffffffff, 0x0, 0x0, 0x0, .plain⟩,
   ⟨0x40060030, 0x4, 1, 0x4, 1, 0x4, 1, 0x0, 0xffffffff, 0x0, 0x0, 0x0, .plain⟩,
   ⟨0x40060034, 0x4, 1, 0x4, 1, 0x4, 1, 0x0, 0xffffffff, 0x0, 0x0, 0x0, .plain⟩,
   ⟨0x40060038, 0x4, 1, 0x4, 1, 0x4, 1, 0x2faf080, 0xffffffff, 0x0, 0x0, 0x0, .plain⟩,
   ⟨0x40060040, 0x4, 11, 0x4, 1, 0x4, 1, 0x0, 0x0, 0x0, 0x0, 0x0, .clear⟩,
   ⟨0x40060080, 0x10, 4, 0x10, 1, 0x10, 1, 0x0, 0x0, 0x0, 0x0, 0x1f7, .plain⟩,
   ⟨0x40060084, 0x10, 4, 0x10, 1, 0x10, 1, 0x0, 0x0, 0x0, 0x0, 0xffffffff, .plain⟩,
   ⟨0x40060088, 0x10, 4, 0x10, 1, 0x10, 1, 0x28, 0xff, 0x0, 0x0, 0x0, .plain⟩,
   ⟨0x4006008c, 0x10, 4, 0x10, 1, 0x10, 1, 0x0, 0x0, 0x0, 0x0, 0x0, .plain⟩,
   ⟨0x400600c0, 0x4, 4, 0x4, 1, 0x4, 1, 0x0, 0x0, 0x0, 0x0, 0x0, .clear⟩,
   ⟨0x40060100, 0x40, 4, 0x40, 1, 0x40, 1, 0x10, 0x0, 0x0, 0x0, 0x1f, .plain⟩,
   ⟨0x40060104, 0x40, 4, 0x40, 1, 0x40, 1, 0x0, 0x0, 0x0, 0x0, 0x3f3f3f, .plain⟩,
   ⟨0x40060108, 0x40, 4, 0x40, 1, 0x40, 1, 0x3f000000, 0x0, 0x0, 0x0, 0x3f3f3f3f, .plain⟩,
   ⟨0x4006010c, 0x40, 4, 0x40, 1, 0x40, 1, 0x0, 0x0, 0x0, 0x0, 0xffffffff, .plain⟩,
   ⟨0x40060110, 0x40, 4, 0x40, 1, 0x40, 1, 0x0, 0x0, 0x0, 0x0, 0xffffffff, .plain⟩,
   ⟨0x40060114, 0x40, 4, 0x40, 1, 0x40, 1, 0x32, 0x0, 0x0, 0x0, 0xffff, .plain⟩,
   ⟨0x40060118, 0x40, 4, 0x40, 1, 0x40, 1, 0x0, 0x0, 0x0, 0x0, 0x0, .plain⟩,
   ⟨0x4006011c, 0x40, 4, 0x40, 1, 0x40, 1, 0x0, 0x0, 0x0, 0x0, 0x0, .plain⟩,
   ⟨0x40060120, 0x40, 4, 0x40, 1, 0x40, 1, 0x0, 0x0, 0x0, 0x0, 0x0, .plain⟩,
   ⟨0x40061000, 0x400, 4, 0x80, 7, 0x80, 1, 0x0, 0x0, 0x0, 0x0, 0xffffffff, .plain⟩,
   ⟨0x40061004, 0x400, 4, 0x80, 7, 0x4, 7, 0x7fffffff, 0x0, 0x0, 0x0, 0xffffffff, .plain⟩,
   ⟨0x40061020, 0x400, 4, 0x80, 7, 0x8, 8, 0x40000000, 0x0, 0x0, 0x0, 0xffffffff, .plain⟩,
   ⟨0x40061024, 0x400, 4, 0x80, 7, 0x8, 8, 0x0, 0x0, 0x0, 0x0, 0xffff, .plain⟩,
   ⟨0x40062000, 0x400, 4, 0x10, 14, 0x10, 1, 0x0, 0x0, 0x0, 0x0, 0x0, .latch⟩,
   ⟨0x40062004, 0x400, 4, 0x10, 14, 0x10, 1, 0x0, 0x0, 0x0, 0x0, 0x0, .plain⟩,
   ⟨0x40062008, 0x400, 4, 0x10, 14, 0x10, 1, 0x0, 0x0, 0x0, 0x0, 0x0, .plain⟩,
   ⟨0x40062200, 0x400, 4, 0x10, 14, 0x10, 1, 0x0, 0x0, 0x0, 0x0, 0x0, .plain⟩,
   ⟨0x40062204, 0x400, 4, 0x10, 14, 0x10, 1, 0x0, 0x0, 0x0, 0x0, 0x0, .plain⟩,
   ⟨0x40062208, 0x400, 4, 0x10, 14, 0x10, 1, 0x0, 0x0, 0x0, 0x0, 0x0, .plain⟩,
   ⟨0x400623e0, 0x400, 4, 0x400, 1, 0x400, 1, 0x0, 0x0, 0x0, 0x0, 0x0, .plain⟩,
   ⟨0x400623e4, 0x400, 4, 0x400, 1, 0x400, 1, 0x0, 0x0, 0x0, 0x0, 0x0, .plain⟩,
   ⟨0x400623e8, 0x400, 4, 0x400, 1, 0x400, 1, 0x0, 0x0, 0x0, 0x0, 0x0, .plain⟩,
   ⟨0x40063000, 0x100, 4, 0x4, 26, 0x4, 1, 0x0, 0x0, 0x0, 0x0, 0x0, .plain⟩,
   ⟨0x40064000, 0x800, 4, 0xc8, 6, 0x4, 50, 0x0, 0x0, 0x0, 0x0, 0x0, .plain⟩]
/-- R259: the register kinds of SEQ. -/
def rowsSEQ : List RegRow :=
  [⟨0x40070000, 0x4, 1, 0x4, 1, 0x4, 1, 0x0, 0x0, 0x0, 0x0, 0x0, .plain⟩,
   ⟨0x40070100, 0x80, 4, 0x80, 1, 0x80, 1, 0x100100, 0x0, 0x0, 0x0, 0x1ff1f07, .plain⟩,
   ⟨0x40070104, 0x80, 4, 0x80, 1, 0x80, 1, 0x0, 0x0, 0x0, 0x0, 0x3f3f3f, .plain⟩,
   ⟨0x40070108, 0x80, 4, 0x80, 1, 0x80, 1, 0x3f3f3f, 0x0, 0x0, 0x0, 0x3f3f3f, .plain⟩,
   ⟨0x4007010c, 0x80, 4, 0x80, 1, 0x80, 1, 0x0, 0x0, 0x0, 0x0, 0xffffffff, .plain⟩,
   ⟨0x40070110, 0x80, 4, 0x80, 1, 0x80, 1, 0x0, 0x0, 0x0, 0x0, 0xffffffff, .plain⟩,
   ⟨0x40070114, 0x80, 4, 0x80, 1, 0x80, 1, 0x2faf080, 0x0, 0x0, 0x0, 0xffffffff, .plain⟩,
   ⟨0x40070118, 0x80, 4, 0x80, 1, 0x80, 1, 0x3e80014, 0x0, 0x0, 0x0, 0xffff007f, .plain⟩,
   ⟨0x4007011c, 0x80, 4, 0x80, 1, 0x80, 1, 0x3201f4, 0x0, 0x0, 0x0, 0xff03ff, .plain⟩,
   ⟨0x40070120, 0x80, 4, 0x80, 1, 0x80, 1, 0x1f4, 0x0, 0x0, 0x0, 0xffff, .plain⟩,
   ⟨0x40070124, 0x80, 4, 0x80, 1, 0x80, 1, 0x0, 0xffffffff, 0x0, 0x0, 0x0, .plain⟩,
   ⟨0x40070128, 0x80, 4, 0x80, 1, 0x80, 1, 0x0, 0x0, 0x0, 0x0, 0x0, .plain⟩,
   ⟨0x4007012c, 0x80, 4, 0x80, 1, 0x80, 1, 0x0, 0x0, 0x1f, 0x0, 0x0, .plain⟩,
   ⟨0x40070130, 0x80, 4, 0x80, 1, 0x80, 1, 0x0, 0x1f, 0x0, 0x0, 0x0, .plain⟩,
   ⟨0x40070134, 0x80, 4, 0x80, 1, 0x80, 1, 0x0, 0x0, 0x0, 0x0, 0x0, .plain⟩,
   ⟨0x40070138, 0x80, 4, 0x80, 1, 0x80, 1, 0x0, 0x0, 0x0, 0x0, 0x0, .latch⟩,
   ⟨0x4007013c, 0x80, 4, 0x80, 1, 0x80, 1, 0x0, 0x0, 0x0, 0x0, 0x0, .plain⟩,
   ⟨0x40070140, 0x80, 4, 0x4, 5, 0x4, 1, 0x0, 0x0, 0x0, 0x0, 0x0, .clear⟩,
   ⟨0x40071000, 0x100, 4, 0x4, 48, 0x4, 1, 0x0, 0x0, 0x0, 0x0, 0x0, .plain⟩]
/-- R294: the register kinds of PROBE. -/
def rowsPROBE : List RegRow :=
  [⟨0x40080000, 0x4, 1, 0x4, 1, 0x4, 1, 0x20000, 0x0, 0x0, 0x0, 0xf073f0f, .plain⟩,
   ⟨0x40080004, 0x4, 1, 0x4, 1, 0x4, 1, 0x64, 0x0, 0x0, 0x0, 0xff, .plain⟩,
   ⟨0x40080008, 0x4, 1, 0x4, 1, 0x4, 1, 0x9896800, 0x0, 0x0, 0x0, 0xffffffff, .plain⟩,
   ⟨0x4008000c, 0x4, 1, 0x4, 1, 0x4, 1, 0x1770, 0x0, 0x0, 0x0, 0xffff, .plain⟩,
   ⟨0x40080010, 0x4, 1, 0x4, 1, 0x4, 1, 0x2710, 0x0, 0x0, 0x0, 0xffffffff, .plain⟩,
   ⟨0x40080014, 0x4, 1, 0x4, 1, 0x4, 1, 0x0, 0xfffb, 0x0, 0x0, 0x0, .plain⟩,
   ⟨0x40080018, 0x4, 1, 0x4, 1, 0x4, 1, 0x0, 0x3fffff00, 0x0, 0x0, 0x0, .plain⟩,
   ⟨0x4008001c, 0x4, 1, 0x4, 1, 0x4, 1, 0x0, 0xffffffff, 0x0, 0x0, 0x0, .plain⟩,
   ⟨0x40080020, 0x4, 1, 0x4, 1, 0x4, 1, 0x0, 0x0, 0x0, 0x0, 0x0, .plain⟩,
   ⟨0x40080024, 0x4, 1, 0x4, 1, 0x4, 1, 0x0, 0x0, 0xff, 0x0, 0x0, .plain⟩,
   ⟨0x40080028, 0x4, 1, 0x4, 1, 0x4, 1, 0x0, 0xff, 0x0, 0x0, 0x0, .plain⟩,
   ⟨0x4008002c, 0x4, 1, 0x4, 1, 0x4, 1, 0x0, 0x0, 0x0, 0x0, 0x0, .plain⟩,
   ⟨0x40080030, 0x4, 1, 0x4, 1, 0x4, 1, 0x0, 0x0, 0x0, 0x0, 0x0, .plain⟩,
   ⟨0x40080034, 0x4, 1, 0x4, 1, 0x4, 1, 0x0, 0x0, 0x0, 0x0, 0x0, .plain⟩,
   ⟨0x40080038, 0x4, 1, 0x4, 1, 0x4, 1, 0x0, 0x0, 0x0, 0x0, 0x0, .plain⟩,
   ⟨0x4008003c, 0x4, 1, 0x4, 1, 0x4, 1, 0x0, 0x0, 0x0, 0x0, 0x0, .plain⟩,
   ⟨0x40080040, 0x4, 1, 0x4, 1, 0x4, 1, 0x0, 0x0, 0x0, 0x0, 0x0, .plain⟩,
   ⟨0x40080050, 0x4, 4, 0x4, 1, 0x4, 1, 0x0, 0x0, 0x0, 0x0, 0x0, .plain⟩,
   ⟨0x40080064, 0x4, 7, 0x4, 1, 0x4, 1, 0x0, 0x0, 0x0, 0x0, 0x0, .plain⟩,
   ⟨0x40080080, 0x4, 8, 0x4, 1, 0x4, 1, 0x0, 0x0, 0x0, 0x0, 0x0, .clear⟩]
/-- R260: the register kinds of PROT. -/
def rowsPROT : List RegRow :=
  [⟨0x40090000, 0x4, 1, 0x4, 1, 0x4, 1, 0x0, 0x0, 0x0, 0x0, 0x0, .plain⟩,
   ⟨0x40090004, 0x4, 1, 0x4, 1, 0x4, 1, 0x0, 0x0, 0xff, 0x0, 0x0, .plain⟩,
   ⟨0x40090008, 0x4, 1, 0x4, 1, 0x4, 1, 0x0, 0xff, 0x0, 0x0, 0x0, .plain⟩,
   ⟨0x4009000c, 0x4, 1, 0x4, 1, 0x4, 1, 0x0, 0x0, 0x0, 0x0, 0x0, .plain⟩,
   ⟨0x40090010, 0x4, 1, 0x4, 1, 0x4, 1, 0x0, 0x0, 0xffff, 0x0, 0x0, .plain⟩,
   ⟨0x40090014, 0x4, 1, 0x4, 1, 0x4, 1, 0x0, 0x0, 0x0, 0x0, 0x0, .plain⟩,
   ⟨0x40090018, 0x4, 1, 0x4, 1, 0x4, 1, 0x0, 0x0, 0x0, 0x0, 0x3, .plain⟩,
   ⟨0x4009001c, 0x4, 1, 0x4, 1, 0x4, 1, 0x140000, 0x0, 0x0, 0x0, 0xffff001f, .plain⟩,
   ⟨0x40090020, 0x4, 1, 0x4, 1, 0x4, 1, 0x2af82260, 0x0, 0x0, 0x0, 0xffffffff, .plain⟩,
   ⟨0x40090024, 0x4, 1, 0x4, 1, 0x4, 1, 0x4b004b0, 0x0, 0x0, 0x0, 0xffffffff, .plain⟩,
   ⟨0x40090030, 0x4, 4, 0x4, 1, 0x4, 1, 0x0, 0x0, 0x0, 0x0, 0x0, .plain⟩,
   ⟨0x40090040, 0x4, 8, 0x4, 1, 0x4, 1, 0x0, 0x0, 0x0, 0x0, 0x0, .clear⟩,
   ⟨0x40090060, 0x4, 3, 0x4, 1, 0x4, 1, 0x1f000, 0x0, 0x0, 0x0, 0x0, .plain⟩,
   ⟨0x40090080, 0x4, 16, 0x4, 1, 0x4, 1, 0x0, 0x0, 0x0, 0x0, 0x0, .clear⟩,
   ⟨0x40090100, 0x10, 16, 0x10, 1, 0x10, 1, 0x0, 0x0, 0x0, 0x0, 0xffffff7f, .plain⟩,
   ⟨0x40090104, 0x10, 16, 0x10, 1, 0x10, 1, 0x0, 0x0, 0x0, 0x0, 0xffffff, .plain⟩,
   ⟨0x40090108, 0x10, 16, 0x10, 1, 0x10, 1, 0x0, 0x0, 0x0, 0x0, 0x0, .plain⟩,
   ⟨0x40090400, 0x80, 4, 0x8, 16, 0x8, 1, 0x0, 0x0, 0x0, 0x0, 0xffffffff, .plain⟩,
   ⟨0x40090404, 0x80, 4, 0x8, 16, 0x8, 1, 0x0, 0x0, 0x0, 0x0, 0xfffffff, .plain⟩,
   ⟨0x40090800, 0x4, 1, 0x4, 1, 0x4, 1, 0x0, 0x1fff07, 0x0, 0x0, 0x0, .plain⟩,
   ⟨0x40090804, 0x4, 4, 0x4, 1, 0x4, 1, 0x0, 0xffffffff, 0x0, 0x0, 0x0, .plain⟩,
   ⟨0x40090814, 0x4, 1, 0x4, 1, 0x4, 1, 0x0, 0xffffffff, 0x0, 0x0, 0x0, .plain⟩,
   ⟨0x40090818, 0x4, 1, 0x4, 1, 0x4, 1, 0x0, 0xffffff, 0x0, 0x0, 0x0, .plain⟩,
   ⟨0x4009081c, 0x4, 1, 0x4, 1, 0x4, 1, 0x0, 0xffffff, 0x0, 0x0, 0x0, .plain⟩,
   ⟨0x40090820, 0x4, 1, 0x4, 1, 0x4, 1, 0x0, 0xffffffff, 0x0, 0x0, 0x0, .plain⟩,
   ⟨0x40090824, 0x4, 1, 0x4, 1, 0x4, 1, 0x0, 0xffffffff, 0x0, 0x0, 0x0, .plain⟩,
   ⟨0x40090828, 0x4, 1, 0x4, 1, 0x4, 1, 0x0, 0xffffffff, 0x0, 0x0, 0x0, .plain⟩,
   ⟨0x4009082c, 0x4, 1, 0x4, 1, 0x4, 1, 0x0, 0xffffffff, 0x0, 0x0, 0x0, .plain⟩,
   ⟨0x40090830, 0x4, 1, 0x4, 1, 0x4, 1, 0x0, 0x0, 0x0, 0x0, 0x0, .plain⟩,
   ⟨0x40090834, 0x4, 1, 0x4, 1, 0x4, 1, 0x0, 0x0, 0x0, 0x0, 0x0, .plain⟩,
   ⟨0x40090838, 0x4, 1, 0x4, 1, 0x4, 1, 0x0, 0x0, 0x0, 0x0, 0x0, .plain⟩]
/-- R122: the register kinds of ACUX. -/
def rowsACUX : List RegRow :=
  [⟨0x140050200, 0x8, 24, 0x8, 1, 0x8, 1, 0x0, 0xffffff, 0x0, 0x0, 0x0, .plain⟩,
   ⟨0x140050204, 0x8, 24, 0x8, 1, 0x8, 1, 0x400000, 0xffffff, 0x0, 0x0, 0x0, .plain⟩]
/-- R385: the register kinds of DMA. -/
def rowsDMA : List RegRow :=
  [⟨0x400a0000, 0x4, 1, 0x4, 1, 0x4, 1, 0x0, 0x1, 0x0, 0x0, 0x0, .plain⟩,
   ⟨0x400a0004, 0x4, 1, 0x4, 1, 0x4, 1, 0x0, 0x0, 0x0, 0x0, 0x0, .plain⟩,
   ⟨0x400a0008, 0x4, 1, 0x4, 1, 0x4, 1, 0x0, 0x0, 0x0, 0x0, 0x0, .plain⟩,
   ⟨0x400a0100, 0x40, 32, 0x40, 1, 0x40, 1, 0x0, 0x1, 0x0, 0x0, 0x0, .plain⟩,
   ⟨0x400a0104, 0x40, 32, 0x40, 1, 0x40, 1, 0x0, 0x3, 0x0, 0x0, 0x0, .plain⟩,
   ⟨0x400a0108, 0x40, 32, 0x40, 1, 0x40, 1, 0x0, 0xffffffe0, 0x0, 0x0, 0x0, .plain⟩,
   ⟨0x400a010c, 0x40, 32, 0x40, 1, 0x40, 1, 0x0, 0x0, 0x0, 0x0, 0x0, .plain⟩,
   ⟨0x400a0110, 0x40, 32, 0x40, 1, 0x40, 1, 0x0, 0x0, 0xff, 0x0, 0x0, .plain⟩,
   ⟨0x400a0114, 0x40, 32, 0x40, 1, 0x40, 1, 0x0, 0xff, 0x0, 0x0, 0x0, .plain⟩,
   ⟨0x400a0118, 0x40, 32, 0x40, 1, 0x40, 1, 0x0, 0x0, 0x0, 0x0, 0x0, .plain⟩,
   ⟨0x400a011c, 0x40, 32, 0x40, 1, 0x40, 1, 0x0, 0x0, 0x0, 0x0, 0x0, .plain⟩,
   ⟨0x400a0120, 0x40, 32, 0x40, 1, 0x40, 1, 0x0, 0x0, 0x0, 0x0, 0x0, .plain⟩,
   ⟨0x400a1000, 0x20, 32, 0x4, 8, 0x4, 1, 0x0, 0x0, 0x0, 0x0, 0x0, .clear⟩]
/-- R417: the register kinds of LINK. -/
def rowsLINK : List RegRow :=
  [⟨0x400b0000, 0x4, 1, 0x4, 1, 0x4, 1, 0x0, 0x0, 0x0, 0x0, 0x0, .plain⟩,
   ⟨0x400b0100, 0x100, 4, 0x100, 1, 0x100, 1, 0x20, 0x735, 0x0, 0x0, 0x0, .plain⟩,
   ⟨0x400b0104, 0x100, 4, 0x100, 1, 0x100, 1, 0x0, 0x0, 0x0, 0x0, 0x0, .plain⟩,
   ⟨0x400b0108, 0x100, 4, 0x100, 1, 0x100, 1, 0x0, 0x0, 0xfff, 0x0, 0x0, .plain⟩,
   ⟨0x400b010c, 0x100, 4, 0x100, 1, 0x100, 1, 0x0, 0xfff, 0x0, 0x0, 0x0, .plain⟩,
   ⟨0x400b0110, 0x100, 4, 0x100, 1, 0x100, 1, 0x0, 0xff1, 0x0, 0x0, 0x0, .plain⟩,
   ⟨0x400b0114, 0x100, 4, 0x100, 1, 0x100, 1, 0x0, 0xffffffff, 0x0, 0x0, 0x0, .plain⟩,
   ⟨0x400b0118, 0x100, 4, 0x100, 1, 0x100, 1, 0x0, 0x0, 0x0, 0x0, 0x0, .plain⟩,
   ⟨0x400b011c, 0x100, 4, 0x100, 1, 0x100, 1, 0x0, 0x0, 0x0, 0x0, 0x0, .plain⟩,
   ⟨0x400b0120, 0x100, 4, 0x100, 1, 0x100, 1, 0x0, 0x0, 0x0, 0x0, 0x0, .plain⟩,
   ⟨0x400b0124, 0x100, 4, 0x100, 1, 0x100, 1, 0x0, 0x0, 0x0, 0x0, 0x0, .plain⟩,
   ⟨0x400b0128, 0x100, 4, 0x100, 1, 0x100, 1, 0x0, 0x0, 0x0, 0x0, 0x0, .plain⟩,
   ⟨0x400b0130, 0x100, 4, 0x100, 1, 0x100, 1, 0x0, 0xf, 0x0, 0x0, 0x0, .plain⟩,
   ⟨0x400b0134, 0x100, 4, 0x4, 2, 0x4, 1, 0x0, 0x0, 0x0, 0x0, 0x0, .plain⟩,
   ⟨0x400b0140, 0x100, 4, 0x4, 12, 0x4, 1, 0x0, 0x0, 0x0, 0x0, 0x0, .clear⟩,
   ⟨0x400b1000, 0x200, 4, 0x20, 8, 0x20, 1, 0x0, 0xff, 0x0, 0x0, 0x0, .plain⟩,
   ⟨0x400b1004, 0x200, 4, 0x20, 8, 0x20, 1, 0x0, 0xd, 0x0, 0x0, 0x0, .plain⟩,
   ⟨0x400b1008, 0x200, 4, 0x20, 8, 0x20, 1, 0x0, 0xffffffff, 0x0, 0x0, 0x0, .plain⟩,
   ⟨0x400b100c, 0x200, 4, 0x20, 8, 0x20, 1, 0x0, 0x1fffff, 0x0, 0x0, 0x0, .plain⟩,
   ⟨0x400b1010, 0x200, 4, 0x20, 8, 0x20, 1, 0x0, 0x0, 0x0, 0x0, 0x0, .plain⟩,
   ⟨0x400b1014, 0x200, 4, 0x20, 8, 0x20, 1, 0x0, 0x0, 0x0, 0x0, 0x0, .plain⟩]
/-- R431: the register kinds of ETH. -/
def rowsETH : List RegRow :=
  [⟨0x400c0000, 0x4, 1, 0x4, 1, 0x4, 1, 0x1900000, 0xffff0003, 0x0, 0x0, 0x0, .plain⟩,
   ⟨0x400c0004, 0x4, 1, 0x4, 1, 0x4, 1, 0x0, 0x0, 0x0, 0x0, 0x0, .plain⟩,
   ⟨0x400c0008, 0x4, 1, 0x4, 1, 0x4, 1, 0x0, 0x0, 0xffff, 0x0, 0x0, .plain⟩,
   ⟨0x400c000c, 0x4, 1, 0x4, 1, 0x4, 1, 0x0, 0xffff, 0x0, 0x0, 0x0, .plain⟩,
   ⟨0x400c0010, 0x4, 1, 0x4, 1, 0x4, 1, 0x0, 0x0, 0x0, 0x0, 0x0, .plain⟩,
   ⟨0x400c0014, 0x4, 1, 0x4, 1, 0x4, 1, 0x0, 0x0, 0x0, 0x0, 0x0, .plain⟩,
   ⟨0x400c0040, 0x4, 16, 0x4, 1, 0x4, 1, 0x0, 0x0, 0x0, 0x0, 0x0, .clear⟩,
   ⟨0x400c0100, 0x80, 2, 0x80, 1, 0x80, 1, 0x0, 0xf, 0x0, 0x0, 0x0, .plain⟩,
   ⟨0x400c0104, 0x80, 2, 0x80, 1, 0x80, 1, 0x0, 0xffffffff, 0x0, 0x0, 0x0, .plain⟩,
   ⟨0x400c0108, 0x80, 2, 0x80, 1, 0x80, 1, 0x0, 0xffff, 0x0, 0x0, 0x0, .plain⟩,
   ⟨0x400c010c, 0x80, 2, 0x80, 1, 0x80, 1, 0x0, 0xfffffff0, 0x0, 0x0, 0x0, .plain⟩,
   ⟨0x400c0110, 0x80, 2, 0x80, 1, 0x80, 1, 0x0, 0xfffffff0, 0x0, 0x0, 0x0, .plain⟩,
   ⟨0x400c0114, 0x80, 2, 0x80, 1, 0x80, 1, 0x2, 0x1ff, 0x0, 0x0, 0x0, .plain⟩,
   ⟨0x400c0118, 0x80, 2, 0x80, 1, 0x80, 1, 0x2, 0x1ff, 0x0, 0x0, 0x0, .plain⟩,
   ⟨0x400c011c, 0x80, 2, 0x80, 1, 0x80, 1, 0x600, 0xfff, 0x0, 0x0, 0x0, .plain⟩,
   ⟨0x400c0120, 0x80, 2, 0x80, 1, 0x80, 1, 0x0, 0x0, 0x0, 0x0, 0x0, .plain⟩,
   ⟨0x400c0124, 0x80, 2, 0x80, 1, 0x80, 1, 0x0, 0x0, 0x0, 0x0, 0x0, .plain⟩,
   ⟨0x400c0128, 0x80, 2, 0x80, 1, 0x80, 1, 0x0, 0x0, 0x0, 0x0, 0x0, .plain⟩,
   ⟨0x400c012c, 0x80, 2, 0x80, 1, 0x80, 1, 0x0, 0xffff, 0x0, 0x0, 0x0, .plain⟩,
   ⟨0x400c0130, 0x80, 2, 0x80, 1, 0x80, 1, 0x0, 0xffff, 0x0, 0x0, 0x0, .plain⟩,
   ⟨0x400c0134, 0x80, 2, 0x80, 1, 0x80, 1, 0x0, 0xffffffff, 0x0, 0x0, 0x0, .plain⟩,
   ⟨0x400c0140, 0x80, 2, 0x80, 1, 0x80, 1, 0x0, 0x0, 0x0, 0x0, 0x0, .plain⟩,
   ⟨0x400c0144, 0x80, 2, 0x80, 1, 0x80, 1, 0x0, 0x0, 0x0, 0x0, 0x0, .plain⟩,
   ⟨0x400c0148, 0x80, 2, 0x80, 1, 0x80, 1, 0x0, 0x0, 0x0, 0x0, 0x0, .plain⟩,
   ⟨0x400c0400, 0x10, 32, 0x10, 1, 0x10, 1, 0x0, 0xffffffff, 0x0, 0x0, 0x0, .plain⟩,
   ⟨0x400c0404, 0x10, 32, 0x10, 1, 0x10, 1, 0x0, 0xffffffff, 0x0, 0x0, 0x0, .plain⟩,
   ⟨0x400c0408, 0x10, 32, 0x10, 1, 0x10, 1, 0x0, 0x3, 0x0, 0x0, 0x0, .plain⟩,
   ⟨0x400c040c, 0x10, 32, 0x10, 1, 0x10, 1, 0x0, 0x0, 0x0, 0x0, 0x0, .plain⟩,
   ⟨0x400c0600, 0x4, 32, 0x4, 1, 0x4, 1, 0x0, 0x0, 0x0, 0x0, 0x0, .plain⟩,
   ⟨0x400c0800, 0x100, 2, 0x100, 1, 0x100, 1, 0x0, 0xffff1f03, 0x0, 0x0, 0x0, .plain⟩,
   ⟨0x400c0804, 0x100, 2, 0x100, 1, 0x100, 1, 0x0, 0xffffffff, 0x0, 0x0, 0x0, .plain⟩,
   ⟨0x400c0808, 0x100, 2, 0x100, 1, 0x100, 1, 0x0, 0xffffffff, 0x0, 0x0, 0x0, .plain⟩,
   ⟨0x400c0820, 0x100, 2, 0x4, 16, 0x4, 1, 0x0, 0xff, 0x0, 0x0, 0x0, .plain⟩,
   ⟨0x400c0860, 0x100, 2, 0x4, 16, 0x4, 1, 0x0, 0xffffffff, 0x0, 0x0, 0x0, .plain⟩,
   ⟨0x400c08a0, 0x100, 2, 0x100, 1, 0x100, 1, 0x0, 0x0, 0x0, 0x0, 0x0, .plain⟩,
   ⟨0x400c2000, 0x100, 2, 0x4, 64, 0x4, 1, 0x0, 0xffffffff, 0x0, 0x0, 0x0, .plain⟩]
/-- R452: the register kinds of SEC. -/
def rowsSEC : List RegRow :=
  [⟨0x400d0000, 0x4, 1, 0x4, 1, 0x4, 1, 0x0, 0x0, 0x0, 0x0, 0x0, .plain⟩,
   ⟨0x400d0004, 0x4, 1, 0x4, 1, 0x4, 1, 0x0, 0x0, 0x1f, 0x0, 0x0, .plain⟩,
   ⟨0x400d0008, 0x4, 1, 0x4, 1, 0x4, 1, 0x0, 0x1f, 0x0, 0x0, 0x0, .plain⟩,
   ⟨0x400d000c, 0x4, 1, 0x4, 1, 0x4, 1, 0x0, 0x0, 0x0, 0x0, 0x0, .plain⟩,
   ⟨0x400d0010, 0x4, 1, 0x4, 1, 0x4, 1, 0x0, 0x0, 0x0, 0x0, 0x0, .plain⟩,
   ⟨0x400d0014, 0x4, 1, 0x4, 1, 0x4, 1, 0x0, 0xffffffff, 0x0, 0x0, 0x0, .plain⟩,
   ⟨0x400d0018, 0x4, 1, 0x4, 1, 0x4, 1, 0x0, 0xffffffff, 0x0, 0x0, 0x0, .plain⟩,
   ⟨0x400d0100, 0x4, 64, 0x4, 1, 0x4, 1, 0x0, 0xffffffff, 0x0, 0x0, 0x0, .plain⟩,
   ⟨0x400d0200, 0x4, 16, 0x4, 1, 0x4, 1, 0x0, 0x0, 0x0, 0x0, 0x0, .plain⟩,
   ⟨0x400d0240, 0x4, 8, 0x4, 1, 0x4, 1, 0x0, 0x0, 0x0, 0x0, 0x0, .plain⟩,
   ⟨0x400d0260, 0x4, 8, 0x4, 1, 0x4, 1, 0x0, 0x0, 0x0, 0x0, 0x0, .plain⟩,
   ⟨0x400d0280, 0x4, 1, 0x4, 1, 0x4, 1, 0x0, 0x0, 0x0, 0x0, 0x0, .plain⟩,
   ⟨0x400d0284, 0x4, 1, 0x4, 1, 0x4, 1, 0x0, 0x0, 0x0, 0x0, 0x0, .plain⟩,
   ⟨0x400d0290, 0x4, 1, 0x4, 1, 0x4, 1, 0x0, 0x0, 0x0, 0x0, 0x0, .plain⟩,
   ⟨0x400d02a0, 0x4, 1, 0x4, 1, 0x4, 1, 0x0, 0xffffffff, 0x0, 0x0, 0x0, .plain⟩,
   ⟨0x400d0300, 0x4, 5, 0x4, 1, 0x4, 1, 0x0, 0x0, 0x0, 0x0, 0x0, .clear⟩]
/-- R342: the register kinds of SAFE. -/
def rowsSAFE : List RegRow :=
  [⟨0x400e0000, 0x4, 1, 0x4, 1, 0x4, 1, 0x0, 0x0, 0x0, 0x0, 0x0, .plain⟩,
   ⟨0x400e0004, 0x4, 1, 0x4, 1, 0x4, 1, 0x0, 0x0, 0x0, 0x0, 0x0, .plain⟩,
   ⟨0x400e0008, 0x4, 1, 0x4, 1, 0x4, 1, 0x0, 0x0, 0x0, 0x0, 0x0, .plain⟩,
   ⟨0x400e000c, 0x4, 1, 0x4, 1, 0x4, 1, 0x0, 0x0, 0x0, 0x0, 0x0, .plain⟩,
   ⟨0x400e0010, 0x4, 1, 0x4, 1, 0x4, 1, 0x0, 0x0, 0x0, 0x0, 0x0, .plain⟩,
   ⟨0x400e0014, 0x4, 1, 0x4, 1, 0x4, 1, 0x0, 0x0, 0x0, 0x0, 0x0, .plain⟩,
   ⟨0x400e0100, 0x4, 1, 0x4, 1, 0x4, 1, 0x0, 0x0, 0x1f, 0x0, 0x0, .plain⟩,
   ⟨0x400e0104, 0x4, 1, 0x4, 1, 0x4, 1, 0x0, 0x1f, 0x0, 0x0, 0x0, .plain⟩,
   ⟨0x400e0110, 0x4, 5, 0x4, 1, 0x4, 1, 0x0, 0x0, 0x0, 0x0, 0x0, .clear⟩,
   ⟨0x400e0200, 0x4, 8, 0x4, 1, 0x4, 1, 0xf0, 0x0, 0x0, 0x0, 0xff3, .plain⟩,
   ⟨0x400e0240, 0x4, 4, 0x4, 1, 0x4, 1, 0x0, 0x0, 0x0, 0x0, 0xff03, .plain⟩]
/-- R476: the register kinds of PMU. -/
def rowsPMU : List RegRow :=
  [⟨0x400f0000, 0x4, 1, 0x4, 1, 0x4, 1, 0x2, 0x0, 0x0, 0x0, 0x0, .plain⟩,
   ⟨0x400f0004, 0x4, 1, 0x4, 1, 0x4, 1, 0x0, 0x0, 0x7f, 0x0, 0x0, .plain⟩,
   ⟨0x400f0008, 0x4, 1, 0x4, 1, 0x4, 1, 0x0, 0x7f, 0x0, 0x0, 0x0, .plain⟩,
   ⟨0x400f000c, 0x4, 1, 0x4, 1, 0x4, 1, 0x0, 0x0, 0x0, 0x0, 0x0, .plain⟩,
   ⟨0x400f0010, 0x4, 1, 0x4, 1, 0x4, 1, 0x0, 0x0, 0x0, 0x0, 0x0, .plain⟩,
   ⟨0x400f0014, 0x4, 1, 0x4, 1, 0x4, 1, 0x0, 0x0, 0x0, 0x0, 0x0, .plain⟩,
   ⟨0x400f0018, 0x4, 1, 0x4, 1, 0x4, 1, 0x0, 0x0, 0x0, 0x0, 0x0, .plain⟩,
   ⟨0x400f001c, 0x4, 1, 0x4, 1, 0x4, 1, 0x0, 0x0, 0x0, 0x0, 0x0, .plain⟩,
   ⟨0x400f0020, 0x4, 1, 0x4, 1, 0x4, 1, 0x2d, 0xffff, 0x0, 0x0, 0x0, .plain⟩,
   ⟨0x400f0028, 0x4, 1, 0x4, 1, 0x4, 1, 0x0, 0xffffffff, 0x0, 0x0, 0x0, .plain⟩,
   ⟨0x400f002c, 0x4, 1, 0x4, 1, 0x4, 1, 0x0, 0xffffffff, 0x0, 0x0, 0x0, .plain⟩,
   ⟨0x400f0030, 0x4, 1, 0x4, 1, 0x4, 1, 0x0, 0x0, 0x0, 0x0, 0x0, .plain⟩,
   ⟨0x400f0034, 0x4, 1, 0x4, 1, 0x4, 1, 0x0, 0x0, 0x0, 0x0, 0x0, .plain⟩,
   ⟨0x400f0040, 0x4, 7, 0x4, 1, 0x4, 1, 0x0, 0x0, 0x0, 0x0, 0x0, .clear⟩,
   ⟨0x400f8000, 0x4, 1024, 0x4, 1, 0x4, 1, 0x0, 0xffffffff, 0x0, 0x0, 0x0, .plain⟩]
/-- R477: the register kinds of SENT. -/
def rowsSENT : List RegRow :=
  [⟨0x40100000, 0x4, 1, 0x4, 1, 0x4, 1, 0x100, 0xf9ff, 0x0, 0x0, 0x0, .plain⟩,
   ⟨0x40100004, 0x4, 1, 0x4, 1, 0x4, 1, 0x0, 0x0, 0x0, 0x0, 0x0, .plain⟩,
   ⟨0x40100008, 0x4, 1, 0x4, 1, 0x4, 1, 0x0, 0x0, 0x1f, 0x0, 0x0, .plain⟩,
   ⟨0x4010000c, 0x4, 1, 0x4, 1, 0x4, 1, 0x0, 0x1f, 0x0, 0x0, 0x0, .plain⟩,
   ⟨0x40100010, 0x4, 1, 0x4, 1, 0x4, 1, 0x0, 0x0, 0x0, 0x0, 0x0, .latch⟩,
   ⟨0x40100014, 0x4, 1, 0x4, 1, 0x4, 1, 0x0, 0x0, 0x0, 0x0, 0x0, .plain⟩,
   ⟨0x40100018, 0x4, 1, 0x4, 1, 0x4, 1, 0x0, 0xffffffff, 0x0, 0x0, 0x0, .plain⟩,
   ⟨0x4010001c, 0x4, 1, 0x4, 1, 0x4, 1, 0x0, 0xffff, 0x0, 0x0, 0x0, .plain⟩,
   ⟨0x40100020, 0x4, 1, 0x4, 1, 0x4, 1, 0x9c4, 0xfff, 0x0, 0x0, 0x0, .plain⟩,
   ⟨0x40100024, 0x4, 1, 0x4, 1, 0x4, 1, 0x1068, 0x1fff, 0x0, 0x0, 0x0, .plain⟩,
   ⟨0x40100028, 0x4, 1, 0x4, 1, 0x4, 1, 0x32, 0x7f, 0x0, 0x0, 0x0, .plain⟩,
   ⟨0x4010002c, 0x4, 1, 0x4, 1, 0x4, 1, 0x0, 0x0, 0x0, 0x0, 0x0, .plain⟩,
   ⟨0x40100030, 0x4, 1, 0x4, 1, 0x4, 1, 0x0, 0x0, 0x0, 0x0, 0x0, .plain⟩,
   ⟨0x40100034, 0x4, 1, 0x4, 1, 0x4, 1, 0x0, 0x0, 0x0, 0x0, 0x0, .plain⟩,
   ⟨0x40100038, 0x4, 1, 0x4, 1, 0x4, 1, 0x0, 0x0, 0x0, 0x0, 0x0, .plain⟩,
   ⟨0x40100040, 0x4, 5, 0x4, 1, 0x4, 1, 0x0, 0x0, 0x0, 0x0, 0x0, .clear⟩]
/-- R489: the register kinds of MON. -/
def rowsMON : List RegRow :=
  [⟨0x40110000, 0x4, 1, 0x4, 1, 0x4, 1, 0x0, 0x1, 0x0, 0x0, 0x0, .plain⟩,
   ⟨0x40110004, 0x4, 1, 0x4, 1, 0x4, 1, 0x0, 0x0, 0x3ffff, 0x0, 0x0, .plain⟩,
   ⟨0x40110008, 0x4, 1, 0x4, 1, 0x4, 1, 0x0, 0x3ffff, 0x0, 0x0, 0x0, .plain⟩,
   ⟨0x4011000c, 0x4, 1, 0x4, 1, 0x4, 1, 0x0, 0x0, 0x0, 0x0, 0x0, .plain⟩,
   ⟨0x40110010, 0x4, 1, 0x4, 1, 0x4, 1, 0x0, 0xffff, 0x0, 0x0, 0x0, .plain⟩,
   ⟨0x40110020, 0x4, 4, 0x4, 1, 0x4, 1, 0x0, 0xffffffff, 0x0, 0x0, 0x0, .plain⟩,
   ⟨0x40110030, 0x4, 1, 0x4, 1, 0x4, 1, 0x0, 0x0, 0x0, 0x0, 0x0, .plain⟩,
   ⟨0x40110040, 0x4, 1, 0x4, 1, 0x4, 1, 0x0, 0x0, 0x0, 0x0, 0x0, .plain⟩,
   ⟨0x40110044, 0x4, 1, 0x4, 1, 0x4, 1, 0x0, 0x0, 0x0, 0x0, 0x0, .plain⟩,
   ⟨0x40110048, 0x4, 1, 0x4, 1, 0x4, 1, 0x0, 0x0, 0x0, 0x0, 0x0, .plain⟩,
   ⟨0x4011004c, 0x4, 1, 0x4, 1, 0x4, 1, 0x0, 0x0, 0x0, 0x0, 0x0, .plain⟩,
   ⟨0x40110050, 0x4, 1, 0x4, 1, 0x4, 1, 0x0, 0x0, 0x0, 0x0, 0x0, .plain⟩,
   ⟨0x40110054, 0x4, 1, 0x4, 1, 0x4, 1, 0x0, 0x0, 0x0, 0x0, 0x0, .plain⟩,
   ⟨0x40110058, 0x4, 1, 0x4, 1, 0x4, 1, 0x0, 0x0, 0x0, 0x0, 0x0, .plain⟩,
   ⟨0x40110060, 0x4, 4, 0x4, 1, 0x4, 1, 0x0, 0x0, 0x0, 0x0, 0x0, .plain⟩,
   ⟨0x40110080, 0x4, 18, 0x4, 1, 0x4, 1, 0x0, 0x0, 0x0, 0x0, 0x0, .clear⟩,
   ⟨0x40110200, 0x40, 16, 0x40, 1, 0x40, 1, 0x0, 0x7fff, 0x0, 0x0, 0x0, .plain⟩,
   ⟨0x40110204, 0x40, 16, 0x40, 1, 0x40, 1, 0x0, 0xffffffff, 0x0, 0x0, 0x0, .plain⟩,
   ⟨0x40110208, 0x40, 16, 0x40, 1, 0x40, 1, 0x1, 0xffffffff, 0x0, 0x0, 0x0, .plain⟩,
   ⟨0x4011020c, 0x40, 16, 0x40, 1, 0x40, 1, 0x7fffffff, 0xffffffff, 0x0, 0x0, 0x0, .plain⟩,
   ⟨0x40110210, 0x40, 16, 0x40, 1, 0x40, 1, 0x7fffffff, 0x0, 0x0, 0x0, 0x0, .plain⟩,
   ⟨0x40110214, 0x40, 16, 0x40, 1, 0x40, 1, 0x80000000, 0x0, 0x0, 0x0, 0x0, .plain⟩,
   ⟨0x40110218, 0x40, 16, 0x40, 1, 0x40, 1, 0x0, 0x0, 0x0, 0x0, 0x0, .plain⟩,
   ⟨0x4011021c, 0x40, 16, 0x40, 1, 0x40, 1, 0x0, 0x0, 0x0, 0x0, 0x0, .plain⟩,
   ⟨0x40110220, 0x40, 16, 0x40, 1, 0x40, 1, 0x0, 0x0, 0x0, 0x0, 0x0, .plain⟩,
   ⟨0x40110224, 0x40, 16, 0x40, 1, 0x40, 1, 0x0, 0x0, 0x0, 0x0, 0x0, .plain⟩,
   ⟨0x40111000, 0x100, 16, 0x4, 64, 0x4, 1, 0x0, 0x0, 0x0, 0x0, 0x0, .plain⟩]
/-- R367: the register kinds of SYSCFG. -/
def rowsSYSCFG : List RegRow :=
  [⟨0x40120000, 0x4, 1, 0x4, 1, 0x4, 1, 0x0, 0x0, 0xff, 0x0, 0x0, .plain⟩,
   ⟨0x40120040, 0x4, 8, 0x4, 1, 0x4, 1, 0x0, 0x0, 0x0, 0x0, 0x0, .clear⟩,
   ⟨0x40120010, 0x4, 1, 0x4, 1, 0x4, 1, 0x0, 0x3f, 0x0, 0x0, 0x0, .plain⟩,
   ⟨0x40120020, 0x4, 1, 0x4, 1, 0x4, 1, 0x1, 0x1, 0x0, 0x0, 0x0, .plain⟩,
   ⟨0x40120100, 0x40, 2, 0x40, 1, 0x40, 1, 0x800, 0x0, 0x0, 0x0, 0x0, .plain⟩,
   ⟨0x40120110, 0x40, 2, 0x8, 4, 0x8, 1, 0x0, 0xfffff000, 0x0, 0x0, 0x0, .plain⟩,
   ⟨0x40120114, 0x40, 2, 0x8, 4, 0x8, 1, 0x0, 0xfffff001, 0x0, 0x0, 0x0, .plain⟩,
   ⟨0x40120400, 0x4, 128, 0x4, 1, 0x4, 1, 0x0, 0x37, 0x0, 0x0, 0x0, .plain⟩,
   ⟨0x40120800, 0x20, 2, 0x20, 1, 0x20, 1, 0x0, 0x6, 0x0, 0x1, 0x0, .plain⟩,
   ⟨0x40120804, 0x20, 2, 0x20, 1, 0x20, 1, 0x3e8, 0xffff, 0x0, 0x0, 0x0, .plain⟩,
   ⟨0x40120808, 0x20, 2, 0x20, 1, 0x20, 1, 0x64, 0x3ff, 0x0, 0x0, 0x0, .plain⟩,
   ⟨0x4012080c, 0x20, 2, 0x20, 1, 0x20, 1, 0x0, 0xffff, 0x0, 0x0, 0x0, .plain⟩,
   ⟨0x40120810, 0x20, 2, 0x20, 1, 0x20, 1, 0x0, 0x0, 0x0, 0x0, 0x0, .plain⟩,
   ⟨0x40120814, 0x20, 2, 0x20, 1, 0x20, 1, 0x0, 0x0, 0x1, 0x0, 0x0, .plain⟩,
   ⟨0x40120818, 0x20, 2, 0x20, 1, 0x20, 1, 0x0, 0x0, 0x0, 0x0, 0x0, .clear⟩,
   ⟨0x40120c00, 0x4, 8, 0x4, 1, 0x4, 1, 0x1, 0x7, 0x0, 0x0, 0x0, .plain⟩,
   ⟨0x40120c20, 0x4, 1, 0x4, 1, 0x4, 1, 0x0, 0xf, 0x0, 0x0, 0x0, .plain⟩,
   ⟨0x40120d00, 0x4, 1, 0x4, 1, 0x4, 1, 0x0, 0xffff, 0x0, 0x0, 0x0, .plain⟩,
   ⟨0x40120d04, 0x4, 1, 0x4, 1, 0x4, 1, 0x0, 0xffff, 0x0, 0x0, 0x0, .plain⟩,
   ⟨0x40120d08, 0x4, 1, 0x4, 1, 0x4, 1, 0x0, 0x0, 0x0, 0x0, 0x0, .plain⟩,
   ⟨0x40120d0c, 0x4, 1, 0x4, 1, 0x4, 1, 0x0, 0x0, 0x0, 0x0, 0x0, .plain⟩,
   ⟨0x40120d10, 0x4, 1, 0x4, 1, 0x4, 1, 0x0, 0x0, 0x0, 0x0, 0x0, .plain⟩,
   ⟨0x40120d14, 0x4, 1, 0x4, 1, 0x4, 1, 0x0, 0xffffffff, 0x0, 0x0, 0x0, .plain⟩,
   ⟨0x40121000, 0x400, 4, 0x400, 1, 0x400, 1, 0x0, 0x3, 0x0, 0x0, 0x0, .plain⟩,
   ⟨0x40121004, 0x400, 4, 0x400, 1, 0x400, 1, 0x10000, 0x0, 0x0, 0x0, 0x0, .plain⟩,
   ⟨0x40121008, 0x400, 4, 0x400, 1, 0x400, 1, 0x0, 0x0, 0x7f, 0x0, 0x0, .plain⟩,
   ⟨0x4012100c, 0x400, 4, 0x400, 1, 0x400, 1, 0x0, 0x0, 0x0, 0x0, 0x0, .plain⟩,
   ⟨0x40121010, 0x400, 4, 0x400, 1, 0x400, 1, 0x0, 0x0, 0x0, 0x0, 0x0, .plain⟩,
   ⟨0x40121020, 0x400, 4, 0x4, 7, 0x4, 1, 0x0, 0x0, 0x0, 0x0, 0x0, .clear⟩,
   ⟨0x40121100, 0x400, 4, 0x20, 8, 0x20, 1, 0x0, 0x13fff, 0x0, 0x0, 0x0, .plain⟩,
   ⟨0x40121104, 0x400, 4, 0x20, 8, 0x20, 1, 0x0, 0xffffff, 0x0, 0x0, 0x0, .plain⟩,
   ⟨0x40121108, 0x400, 4, 0x20, 8, 0x20, 1, 0x0, 0x0, 0x0, 0x0, 0x0, .plain⟩,
   ⟨0x4012110c, 0x400, 4, 0x20, 8, 0x20, 1, 0x0, 0xffffff, 0x0, 0x0, 0x0, .plain⟩,
   ⟨0x40121110, 0x400, 4, 0x20, 8, 0x20, 1, 0x0, 0x0, 0x0, 0x0, 0x0, .plain⟩,
   ⟨0x40121114, 0x400, 4, 0x20, 8, 0x20, 1, 0x0, 0x0, 0x0, 0x0, 0x0, .clear⟩,
   ⟨0x40121118, 0x400, 4, 0x20, 8, 0x20, 1, 0x0, 0x0, 0x0, 0x0, 0x0, .clear⟩,
   ⟨0x40124000, 0x100, 8, 0x100, 1, 0x100, 1, 0x0, 0x1fffffff, 0x0, 0x0, 0x0, .plain⟩,
   ⟨0x40124004, 0x100, 8, 0x100, 1, 0x100, 1, 0x0, 0xffffffff, 0x0, 0x0, 0x0, .plain⟩,
   ⟨0x40124008, 0x100, 8, 0x100, 1, 0x100, 1, 0x0, 0xffff, 0x0, 0x0, 0x0, .plain⟩,
   ⟨0x4012400c, 0x100, 8, 0x100, 1, 0x100, 1, 0x0, 0xfff8, 0x0, 0x0, 0x0, .plain⟩,
   ⟨0x40124010, 0x100, 8, 0x100, 1, 0x100, 1, 0x4000000, 0xf0ff1ff, 0x0, 0x0, 0x0, .plain⟩,
   ⟨0x40124014, 0x100, 8, 0x100, 1, 0x100, 1, 0xa, 0xff, 0x0, 0x0, 0x0, .plain⟩,
   ⟨0x40124018, 0x100, 8, 0x100, 1, 0x100, 1, 0x80000000, 0xffffffff, 0x0, 0x0, 0x0, .plain⟩,
   ⟨0x4012401c, 0x100, 8, 0x100, 1, 0x100, 1, 0x7fffffff, 0xffffffff, 0x0, 0x0, 0x0, .plain⟩,
   ⟨0x40124020, 0x100, 8, 0x100, 1, 0x100, 1, 0x0, 0x0, 0x0, 0x0, 0x0, .plain⟩,
   ⟨0x40124024, 0x100, 8, 0x100, 1, 0x100, 1, 0x0, 0x0, 0x0, 0x0, 0x0, .plain⟩,
   ⟨0x40124028, 0x100, 8, 0x100, 1, 0x100, 1, 0x0, 0x0, 0x0, 0x0, 0x0, .plain⟩,
   ⟨0x4012402c, 0x100, 8, 0x100, 1, 0x100, 1, 0x0, 0x0, 0x0, 0x0, 0x0, .plain⟩,
   ⟨0x40124030, 0x100, 8, 0x100, 1, 0x100, 1, 0x0, 0x0, 0x3f, 0x0, 0x0, .plain⟩,
   ⟨0x40124034, 0x100, 8, 0x4, 6, 0x4, 1, 0x0, 0x0, 0x0, 0x0, 0x0, .clear⟩,
   ⟨0x40124050, 0x100, 8, 0x100, 1, 0x100, 1, 0x0, 0xffffffff, 0x0, 0x0, 0x0, .plain⟩,
   ⟨0x40124054, 0x100, 8, 0x100, 1, 0x100, 1, 0x7fffffff, 0xffffffff, 0x0, 0x0, 0x0, .plain⟩,
   ⟨0x40124058, 0x100, 8, 0x100, 1, 0x100, 1, 0x0, 0xffffffff, 0x0, 0x0, 0x0, .plain⟩,
   ⟨0x4012405c, 0x100, 8, 0x100, 1, 0x100, 1, 0x0, 0x0, 0x0, 0x0, 0x0, .plain⟩,
   ⟨0x40126000, 0x400, 8, 0x4, 256, 0x4, 1, 0x0, 0xffffffff, 0x0, 0x0, 0x0, .plain⟩,
   ⟨0x40128000, 0x1000, 8, 0x4, 1024, 0x4, 1, 0x0, 0x0, 0x0, 0x0, 0x0, .plain⟩]
/-- R453: the register kinds of CONSENT. -/
def rowsCONSENT : List RegRow :=
  [⟨0x40130000, 0x4, 1, 0x4, 1, 0x4, 1, 0x0, 0x0, 0x0, 0x0, 0x0, .plain⟩,
   ⟨0x40130004, 0x4, 1, 0x4, 1, 0x4, 1, 0x0, 0x0, 0x7f, 0x0, 0x0, .plain⟩,
   ⟨0x40130008, 0x4, 1, 0x4, 1, 0x4, 1, 0x0, 0x7f, 0x0, 0x0, 0x0, .plain⟩,
   ⟨0x4013000c, 0x4, 1, 0x4, 1, 0x4, 1, 0x0, 0x0, 0x0, 0x0, 0x0, .plain⟩,
   ⟨0x40130010, 0x4, 1, 0x4, 1, 0x4, 1, 0x0, 0x0, 0x0, 0x0, 0x0, .plain⟩,
   ⟨0x40130014, 0x4, 1, 0x4, 1, 0x4, 1, 0x0, 0x0, 0x0, 0x0, 0x0, .plain⟩,
   ⟨0x40130020, 0x4, 5, 0x4, 1, 0x4, 1, 0x0, 0x0, 0x0, 0x0, 0x0, .plain⟩,
   ⟨0x40130038, 0x4, 1, 0x4, 1, 0x4, 1, 0x0, 0x0, 0x0, 0x0, 0x0, .plain⟩,
   ⟨0x4013003c, 0x4, 1, 0x4, 1, 0x4, 1, 0x0, 0x0, 0x0, 0x0, 0x0, .plain⟩,
   ⟨0x40130040, 0x4, 16, 0x4, 1, 0x4, 1, 0x0, 0x0, 0x0, 0x0, 0x0, .plain⟩,
   ⟨0x40130080, 0x4, 16, 0x4, 1, 0x4, 1, 0x0, 0xffffffff, 0x0, 0x0, 0x0, .plain⟩,
   ⟨0x401300c0, 0x4, 7, 0x4, 1, 0x4, 1, 0x0, 0x0, 0x0, 0x0, 0x0, .clear⟩,
   ⟨0x40131000, 0x4, 1024, 0x4, 1, 0x4, 1, 0x0, 0xffffffff, 0x0, 0x0, 0x0, .plain⟩,
   ⟨0x40138000, 0x1000, 5, 0x4, 1024, 0x4, 1, 0x0, 0x0, 0x0, 0x0, 0x0, .plain⟩]
/-- R486: the register kinds of MRAMC. -/
def rowsMRAMC : List RegRow :=
  [⟨0x40140000, 0x4, 1, 0x4, 1, 0x4, 1, 0x0, 0x0, 0x0, 0x0, 0x0, .plain⟩,
   ⟨0x40140004, 0x4, 1, 0x4, 1, 0x4, 1, 0x0, 0x0, 0x0, 0x0, 0x0, .plain⟩,
   ⟨0x40140008, 0x4, 1, 0x4, 1, 0x4, 1, 0x0, 0x0, 0x0, 0x0, 0x0, .latch⟩,
   ⟨0x4014000c, 0x4, 1, 0x4, 1, 0x4, 1, 0x0, 0x0, 0x0, 0x0, 0x0, .plain⟩,
   ⟨0x40140010, 0x4, 1, 0x4, 1, 0x4, 1, 0x0, 0x0, 0x0, 0x0, 0x0, .plain⟩]

/-- R11: the access rows of the block whose 64 KiB window number above 0x4000_0000 is `b`. -/
def blockRows (b : Nat) : List RegRow :=
  match b with
  | 0 => rowsTBL
  | 1 => rowsPLL
  | 2 => rowsPWM
  | 3 => rowsDRIVE
  | 4 => rowsMODIN
  | 5 => rowsACU
  | 6 => rowsMETER
  | 7 => rowsSEQ
  | 8 => rowsPROBE
  | 9 => rowsPROT
  | 65541 => rowsACUX
  | 10 => rowsDMA
  | 11 => rowsLINK
  | 12 => rowsETH
  | 13 => rowsSEC
  | 14 => rowsSAFE
  | 15 => rowsPMU
  | 16 => rowsSENT
  | 17 => rowsMON
  | 18 => rowsSYSCFG
  | 19 => rowsCONSENT
  | 20 => rowsMRAMC
  | _ => []

/-- Whether the kind `r` has a register at address `a`. -/
def RegRow.covers (r : RegRow) (a : Nat) : Bool :=
  r.base ≤ a &&
    (let d := a - r.base
     let d2 := d % r.s1
     let d3 := d2 % r.s2
     d / r.s1 < r.n1 && d2 / r.s2 < r.n2 && d3 / r.s3 < r.n3 && d3 % r.s3 == 0)

/-- The access row of the register at address `a`, if some register occupies it. -/
def regRow (a : Nat) : Option RegRow :=
  if a < 0x40000000 then none
  else (blockRows ((a - 0x40000000) / 0x10000)).find? (fun r => r.covers a)

end Sys2Proof.Machine
end

