-- ==== Sys2Proof/Machine/State.lean ====
section
/-! DEFINITION. The state of the module as plain data: the registers, the memory, and what every block holds behind its
registers; the faults and refusals; the state after reset. -/
namespace Sys2Proof.Machine

/-- The reasons a command can stop the machine. The spec gives every command an effect, so no command faults. -/
inductive Fault where
  /-- Raised by no command: the spec names no event that stops the module. Safe: a run never reaches it. -/
  | halted
  deriving DecidableEq, Repr

/-- The reasons a command has no meaning. -/
inductive Refusal where
  /-- Raised by an arm of `exec` for a command without a meaning yet. Safe: nothing is claimed of it. -/
  | notModelled (mnemonic : String)
  deriving DecidableEq, Repr

/-- R21: a transaction that holds a tag: its master, its access, its result once the access has been performed. -/
structure XTag where
  m : Master
  acc : Access
  result : Option (Bool × Nat)
  deriving DecidableEq, Repr

/-- The crossbar: the tag table (tags 0–7 the reckoners', two each; 8 and 9 the block port's; 10–63 shared), the
transactions whose master stalls, oldest first, the master last served in round-robin order, and the accesses that wait
at each reckoner's memory. -/
structure Xbar where
  tags : Vector (Option XTag) 64 := Vector.replicate 64 none
  stalled : List (Master × Access) := []
  last : Nat := 0
  /-- R381: the DMA channel last served. -/
  dmaLast : Nat := 0
  tcm : Vector (List (Fin 64)) 4 := Vector.replicate 4 []
  /-- R135: the reckoner last served at each reckoner's memory. -/
  tcmLast : Vector (Fin 4) 4 := Vector.replicate 4 0
  /-- R21: block writes (address, bytes, value) that stall for a tag, the oldest first. -/
  blocked : List (Nat × Nat × Nat) := []
  deriving DecidableEq, Repr

/-- R43, R44: a rod's next firing time and its active period. -/
structure Rod where
  next : Nat := 0
  per : Nat := 0
  deriving DecidableEq, Repr

/-- R45: an armed launch-queue entry; `late` records that it was pushed with a time already past (R47). -/
structure QEntry where
  time : Nat
  target : Nat
  late : Bool
  deriving DecidableEq, Repr

/-- R52–R54: a launch on its way to a target: the target, the exact time its action is reckoned from, the match cycle's
count, and the physical time of the match. -/
structure Launch where
  target : Nat
  exact : Nat
  cycle : Nat
  matched : Nat
  deriving DecidableEq, Repr

/-- R51: a forwarded event scheduled to fire source 24 + 8l + c; `late` when it arrived after its time. -/
structure FwdEvent where
  src : Nat
  time : Nat
  late : Bool
  deriving DecidableEq, Repr

/-- R35, R37, R41: an instant, physical, at which the count changed its rate or was stepped: the count with its fraction just
before, and the rate until then, both in 2^-32 tbu, the rate in each PWM cycle. -/
structure Knot where
  time : Nat
  before : Int
  rate : Int
  deriving DecidableEq, Repr

/-- The timebase and launch unit (R35–R58) behind its registers. -/
structure Tbl where
  /-- R35: the 64-bit count. -/
  count : Nat := 0
  /-- R35: the hidden fraction, in 2^-32 tbu. -/
  frac : Nat := 0
  /-- R47: the count of the previous PWM cycle. -/
  prev : Nat := 0
  /-- R41: what the follower has still to slew, in 2^-32 tbu. -/
  slew : Int := 0
  /-- R90: the count's latest changes of rate, the newest first: what a stamp is reckoned back by. -/
  knots : List Knot := []
  /-- R77: steps written while the PWM clock is stopped, applied when their places in `State.parked` come. -/
  stepWait : List Int := []
  rods : Vector Rod 16 := Vector.replicate 16 {}
  /-- R45: the 48 handles of the launch queue. -/
  queue : Vector (Option QEntry) 48 := Vector.replicate 48 none
  /-- R47: how many entries fired in the PWM cycle that began at `qcycle`. -/
  qcycle : Nat := 0
  qfired : Nat := 0
  /-- Launches that have matched and whose actions have not started. -/
  inflight : List Launch := []
  fwdIn : List FwdEvent := []
  /-- R55: the trigger input levels, by pin. -/
  trgin : BitVec 8 := 0
  /-- R56: the trigger output levels, by pin. -/
  trgout : BitVec 8 := 0
  /-- R56: PWM cycles left of a running pulse. -/
  pulse : Vector (Option Nat) 8 := Vector.replicate 8 none
  deriving DecidableEq, Repr

/-- PLL (R62–R75) behind its registers. -/
structure Pll where
  /-- R65: the system or sync PLL is in its lock phases. -/
  sysLocking : Bool := true
  syncLocking : Bool := true
  /-- R67: the lock phases of the sync PLL follow a stopped PWM clock whose return ends the PWM freeze. -/
  syncStopped : Bool := false
  /-- R67: no reference edge for 160 ns. -/
  sysRefLost : Bool := false
  syncRefLost : Bool := false
  /-- R64, R81: SYNCREF as taken at the last relock or lock of the sync PLL, and the link whose forwarded clock it then took. -/
  syncRefInUse : Nat := 0
  syncLink : Nat := 0
  /-- R64: what the reference of the sync PLL is divided by to give 25 MHz, as set at the last sync lock. -/
  syncDiv : Nat := 1
  /-- R65: when the lock phases in progress began, physical. -/
  sysSince : Nat := 0
  syncSince : Nat := 0
  /-- R77: when the system PLL last locked. -/
  sysBackAt : Nat := 0
  /-- R69: the shadows that GO caught (seven MCLKDIV words, eight CKOUT words). -/
  caught : Option (Vector Word 7 × Vector Word 8) := none
  /-- R69: the physical time at which PEND was set. -/
  pendAt : Nat := 0
  /-- R69, R81: the MCLK enables in use, whether or not the clock is gated. -/
  mclkEn : BitVec 7 := 0
  /-- R72: the clock output settings in use. -/
  ckout : Vector Word 8 := Vector.replicate 8 0
  /-- R70: a rising edge of each clock output, physical, from which its phase is reckoned. -/
  ckoutEdge : Vector Nat 8 := Vector.replicate 8 0
  /-- R73: the outputs that are enabled and passed their checks at the last update. -/
  ckoutPass : BitVec 8 := 0
  deriving DecidableEq, Repr

/-- R82–R102: an input of MODIN behind its registers. Times are physical tbu. -/
structure ModinInput where
  /-- R102: the reference edge at which the filters started cleared. -/
  restart : Nat := 0
  /-- R91: the newest reference edge of the last issued result. -/
  lastEdge : Nat := 0
  /-- R91: a newest reference edge the free-running issue positions are reckoned from. -/
  phase : Nat := 0
  /-- R97: the comparators hold their force lines asserted. -/
  hi : Bool := false
  lo : Bool := false
  /-- R99: the health faults. -/
  clk : Bool := false
  stuck : Bool := false
  manv : Bool := false
  /-- R99: when each health fault began. -/
  clkAt : Nat := 0
  stuckAt : Nat := 0
  manvAt : Nat := 0
  /-- R95, R99: since when the condition of a CLKLOSS or STUCK fault that is still active has been absent. -/
  clkGone : Option Nat := none
  stuckGone : Option Nat := none
  /-- R99: the instants of the Manchester violations of the last 256 cells. -/
  violations : List Nat := []
  /-- R99: the instant at which a MANV fault ends. -/
  manvEnd : Nat := 0
  /-- R95: the spans of time of the health faults that have ended, without their flush times. -/
  bad : List (Nat × Nat) := []
  deriving DecidableEq, Repr, Inhabited

/-- R91, R92: a capture strobe whose results are pending: the strobe time and the inputs still to issue. -/
structure Strobe where
  time : Nat
  left : BitVec 8
  deriving DecidableEq, Repr

/-- R77: the word of a register of MODIN, of group `grp`, that still decides after a write, and until when (none: until two
periods after the group's clock has started). -/
structure OldWord where
  grp : Fin 7
  addr : Nat
  word : Nat
  till : Option Nat
  deriving DecidableEq, Repr

/-- MODIN behind its registers. -/
structure Modin where
  inputs : Vector ModinInput 56 := Vector.replicate 56 {}
  /-- R91: the group's origin, its first reference edge after its MCLK started or switched over. -/
  origin : Vector Nat 7 := Vector.replicate 7 0
  /-- R91: the time of the capture strobe that last re-phased the group since its origin. -/
  strobed : Vector (Option Nat) 7 := Vector.replicate 7 none
  strobes : Vector (List Strobe) 7 := Vector.replicate 7 []
  /-- R77, R97, R102: the words that still decide, oldest first. -/
  olds : List OldWord := []
  /-- R112: when the group's MCLK last stopped. -/
  stoppedAt : Vector Nat 7 := Vector.replicate 7 0
  /-- R99, R112: the group's last reference edge before its MCLK last stopped or switched over. -/
  lastRise : Vector Nat 7 := Vector.replicate 7 0
  deriving DecidableEq, Repr

/-- R93, R151: what a sample-bus channel carries: value, VALID and stamp. -/
structure Sample where
  value : Word := 0
  valid : Bool := false
  stamp : Nat := 0
  deriving DecidableEq, Repr, Inhabited

/-- R485, R486: MRAMC behind its registers. -/
structure Mramc where
  /-- R485: writes per 4 KiB page, by page of the MRAM window; an unlisted page has none. -/
  pages : List (Nat × Nat) := []
  /-- R485: the pages a move exchanges. -/
  moving : Option (Nat × Nat) := none
  /-- R485: the addresses of the writes that wait for the end of a move. -/
  stalled : List Nat := []
  deriving DecidableEq, Repr

/-- R113: the kinds of conversion, as ACU_RESINFO.KIND numbers them. -/
inductive AcuKind where
  | single | list | urgent | cal
  deriving DecidableEq, Repr

/-- R110, R113: a conversion requested or running; `start` is its start edge once it has started, `asked` the instant of
its start command, `fall` and `corr` the URGMODE and CORREN in force then. -/
structure AcuConv where
  kind : AcuKind
  ch : Nat
  osr : Nat
  start : Option Nat := none
  asked : Nat := 0
  fall : Bool := false
  corr : Bool := false
  deriving DecidableEq, Repr

/-- R121: a calibration step: full scale or zero, input, ratio, conversions to make and made, sum of raw results. -/
structure AcuCal where
  full : Bool
  ch : Nat
  osr : Nat
  total : Nat
  made : Nat
  sum : Int
  deriving DecidableEq, Repr

/-- R110: from its reference edge `idx`, counted from the start edge, a running conversion's MCLK edges lie at `time` and every
`per` after it. -/
structure AcuTurn where
  idx : Nat
  time : Nat
  per : Nat
  deriving DecidableEq, Repr

/-- The ACU behind its registers. -/
structure Acu where
  run : Option AcuConv := none
  /-- R118: the conversion an urgent request aborted. -/
  interrupted : Option AcuConv := none
  /-- R118: urgent requests not yet started. -/
  urgent : Nat := 0
  /-- R117: LISTSTOP was written. -/
  stopping : Bool := false
  /-- R117: the entry being converted ends the list. -/
  last : Bool := false
  cal : Option AcuCal := none
  /-- R121: a calibration entry waits to be durable. -/
  calWrite : Bool := false
  /-- R110: how the running conversion's MCLK has changed since its start edge, the newest change first. -/
  turns : List AcuTurn := []
  /-- R112: no reference edge came for 4 expected periods: the running conversion has ended invalid. -/
  lost : Bool := false
  deriving DecidableEq, Repr

/-- R150: an armed loop: the addresses of its body's first word and last word. -/
structure LoopArm where
  start : Nat
  last : Nat
  deriving DecidableEq, Repr

/-- R145, R146: where a loaded value goes. -/
inductive LoadDst where
  /-- A data register, the value sign-extended or not. -/
  | d (rd : Fin 16) (signed : Bool)
  /-- An even pair of data registers. -/
  | pair (rd : Fin 16)
  /-- An address register. -/
  | a (rd : Fin 8)
  /-- An accumulator: the product with a coefficient entry is added, or subtracted. -/
  | mac (w : Fin 4) (sub : Bool) (coef : Nat)
  /-- A steward's coefficient entry, for a data operand that is known, or one that is then loaded. -/
  | coefC (w : Fin 4) (sub : Bool) (x : Word)
  | coefD (w : Fin 4) (sub : Bool) (xaddr : Nat)
  deriving DecidableEq, Repr

/-- R135, R136, R343, R346: an access that its instruction waits for: address, size, destination of a load or data of a
store, the address registers the instruction updates, the bytes of the instruction. `fill`: a cache line is awaited. -/
inductive CoreWait where
  | load (addr size : Nat) (dst : LoadDst) (upd : List (Fin 8 × Word)) (len : Nat) (fill : Bool)
  | store (addr size data : Nat) (upd : List (Fin 8 × Word)) (len : Nat) (fill : Bool)
  /-- FENCE. -/
  | fence
  /-- TDONE's drain. -/
  | drain
  /-- R350: SWAP or AADD waits for its FENCE. -/
  | atomic (addr : Nat) (add : Bool) (rd : Fin 16) (len : Nat)
  deriving DecidableEq, Repr

/-- R127: the registers of a core, and where it stands. -/
structure Cpu where
  d : Vector Word 16 := Vector.replicate 16 0
  a : Vector Word 8 := Vector.replicate 8 0
  w : Vector Acc 4 := Vector.replicate 4 0
  p : BitVec 4 := 0
  lc : Vector (BitVec 16) 2 := Vector.replicate 2 0
  /-- R128: SR.C. -/
  carry : Bool := false
  loops : Vector (Option LoopArm) 2 := Vector.replicate 2 none
  pc : Word := 0
  /-- The address of the last instruction executed (R149, R168). -/
  prev : Word := 0
  /-- R150: the address of the last word of an instruction that has just completed without a taken branch. -/
  ended : Option Nat := none
  /-- The physical time at which the next instruction may issue. -/
  next : Nat := 0
  wait : Option CoreWait := none
  /-- R159, R363: in debug halt; BKPT enabled; one step wanted. -/
  halted : Bool := false
  bkptEn : Bool := false
  step : Bool := false
  /-- R159, R363: a debug halt waits for the next instruction boundary. -/
  haltReq : Bool := false
  deriving DecidableEq, Repr

/-- R136, R346: a buffered store: address, size, data; sent to its far device already; a cache line written back; the
slot of the task that issued it. -/
structure Posted where
  addr : Nat
  size : Nat
  data : Nat
  sent : Bool := false
  line : Bool := false
  slot : Nat := 0
  deriving DecidableEq, Repr

/-- R161–R167: a task: its slot, its launch cycle, the time of its deadline, the issue time of its first instruction. -/
structure RkTask where
  slot : Fin 8
  launch : Nat
  due : Option Nat
  start : Nat
  deriving DecidableEq, Repr

/-- R162: a pending launch: its launch cycle, its deadline, and the physical time of its match. -/
structure RkPend where
  launch : Nat
  due : Option Nat
  matched : Nat := 0
  deriving DecidableEq, Repr

/-- R173: a release on its way: the time its task ended and its destinations. -/
structure Release where
  ended : Nat
  dests : List (Nat × Word)
  deriving DecidableEq, Repr

/-- A reckoner behind its registers. Times are physical tbu. -/
structure Rk where
  task : Option RkTask := none
  pend : Vector (Option RkPend) 8 := Vector.replicate 8 none
  /-- R164: the dispatch gap ends. -/
  freeAt : Nat := 0
  /-- R153: the staging area: destinations in the order in which they were first staged. -/
  staged : List (Nat × Word) := []
  /-- R151: the stamp latch. -/
  stamp : Nat := 0
  /-- R167: a SWAP write has taken effect since the task's start, with no CANCEL after it. -/
  swapWrite : Bool := false
  /-- R177: when a CANCEL last withdrew a swap, and when a swap was last taken. -/
  cancelAt : Option Nat := none
  swapAt : Option Nat := none
  /-- R154: TDONE has issued, at this time. -/
  tdone : Option Nat := none
  /-- R136: the posted write buffer, oldest first, and when it was last emptied. -/
  posted : List Posted := []
  emptyAt : Nat := 0
  /-- R168: the slots of the tasks whose posted stores failed, and when, not yet reported. -/
  errors : List (Nat × Nat) := []
  /-- R167: loads left by an aborted task (address, size), whose data will be discarded. -/
  discard : List (Nat × Nat) := []
  /-- R173: releases whose PWM part, and whose SEQ and PROBE part, have not landed. -/
  relPwm : List Release := []
  relSys : List Release := []
  /-- R184: since when a debug halt holds the deadline counts. -/
  haltAt : Option Nat := none
  /-- R168: ABORTNOW waits for the next instruction boundary. -/
  abortNow : Bool := false
  deriving DecidableEq, Repr

/-- R189–R198: a carrier behind its registers. -/
structure Carrier where
  /-- R191: it counts. -/
  run : Bool := false
  /-- R189: the time since its last zero, in tbu of timebase. -/
  tau : Nat := 0
  /-- The tbu it has counted since it last started; the reference pulses are held against it. -/
  abs : Nat := 0
  /-- R189: the peak of this period has passed. -/
  peaked : Bool := false
  /-- R198: a period loaded at the peak, active from the following zero. -/
  nextPer : Option Nat := none
  /-- R199: the physical time at which the arming that stands landed. -/
  armedAt : Nat := 0
  /-- R200: the PWM cycle of the latest arming, a repeated one included. -/
  armCycle : Option Nat := none
  /-- R200: a PWM cycle in which a LATE was set, with the flag and its count before it. -/
  lateSnap : Option (Nat × Nat × Nat) := none
  /-- R208: a restart waits for a freeze to end. -/
  restartPend : Bool := false
  /-- R478: the stamps of the groups' latest results when the arming that stands landed. -/
  stamps : Vector Nat 7 := Vector.replicate 7 0
  deriving DecidableEq, Repr

/-- R225: a refresh in progress: the step of the rule's table that it is in, and the instants of steps 2 to 4. -/
structure Refresh where
  step : Nat := 1
  onAt : Nat := 0
  offAt : Nat := 0
  backAt : Nat := 0
  deriving DecidableEq, Repr

/-- R192–R209: a leg behind its registers. Times are physical tbu unless stated. -/
structure Leg where
  /-- R192: the last reference instant decided (carrier `abs`): an edge, or a load point. -/
  last : Nat := 0
  /-- R202: REF keeps its level until the carrier's `abs` reaches this (a dropped or stretched pulse). -/
  holdTo : Nat := 0
  /-- R202: the pulse that is being dropped: where it began, and the least width that would not be short. -/
  drop : Option (Nat × Nat) := none
  /-- R202: where the running pulse began (carrier `abs`), if it is tested, and the DT and MINP in force there. -/
  pulseAt : Option Nat := none
  pulseDt : Nat := 0
  pulseMin : Nat := 0
  /-- R202: the running pulse has been found short already. -/
  pulseShort : Bool := false
  /-- R195: the loaded edge-mode offsets from the load point, and the load point's τ. -/
  edgeA : Nat := 0
  edgeB : Nat := 0
  edgeL : Nat := 0
  /-- R195: the edge-mode pulses that began or are owed, as carrier `abs`. -/
  pulses : List (Nat × Nat) := []
  /-- R201, R203: the switch that waits to turn on, and when. -/
  turnOn : Option (Bool × Nat) := none
  /-- R203: when each switch last went off. -/
  offH : Nat := 0
  offL : Nat := 0
  /-- R203: the switches held off because both are commanded on. -/
  heldH : Bool := false
  heldL : Bool := false
  /-- R209: since when each switch is on at its ball, and since when it is commanded on. -/
  onH : Option Nat := none
  onL : Option Nat := none
  cmdH : Option Nat := none
  cmdL : Option Nat := none
  /-- R206: forced, since when, and whether the safe switch is commanded on yet. -/
  forced : Bool := false
  forcedAt : Nat := 0
  safeOn : Bool := false
  /-- R207, R210: waits for a zero at least 120 tbu after `clearAt` before it follows REF again; `waitSafe` while it keeps
  the safe level of a force that ended. -/
  waits : Bool := false
  waitSafe : Bool := false
  clearAt : Nat := 0
  /-- R225: leg zeros since the end of the last low-switch conduction of at least W. -/
  zeros : Nat := 0
  /-- R225: the instant τ_n = 0 of this period has passed. -/
  zeroSeen : Bool := true
  /-- R225: the refresh in progress. -/
  refresh : Option Refresh := none
  /-- R233: the high-side supply mode in force, taken from HS.MODE at a zero. -/
  chargePump : Bool := false
  deriving DecidableEq, Repr

/-- PWM behind its registers. -/
structure Pwm where
  carriers : Vector Carrier 8 := Vector.replicate 8 {}
  legs : Vector Leg 48 := Vector.replicate 48 {}
  /-- R208: frozen, and since when. -/
  frozen : Bool := false
  frozenAt : Nat := 0
  /-- R200: held-aside values: shadow register address, value. -/
  held : List (Nat × Word) := []
  /-- R200: values that landed with a repeated arming: shadow register address, value, landing. -/
  rearmed : List (Nat × Word × Nat) := []
  /-- R200: the PWM cycle of the last release landing, and the shadows it wrote. -/
  relAt : Nat := 0
  relRegs : List Nat := []
  /-- R200: the PWM cycle of the last steward landing, and the shadow it wrote. -/
  landAt : Nat := 0
  landRegs : List Nat := []
  /-- R204: the MODIN force lines and the PROT block lines, asserted, and R205: the FLTIN pins, which pull-ups hold high. -/
  modLines : BitVec 112 := 0
  fltPins : BitVec 8 := 0xFF
  protLines : BitVec 2 := 0
  deriving DecidableEq, Repr

/-- R216, R219: the last frame a lane started. -/
structure Frame where
  leg : Nat := 0
  low : Bool := false
  off : Bool := false
  start : Nat := 0
  word : Nat := 0
  deriving DecidableEq, Repr, Inhabited

/-- R218–R230: a gate-drive group behind its registers. Times are physical tbu. -/
structure Group where
  /-- R218: the filled frame slots in the order they were filled; pair 4·LEG + 2·SW + DIR. -/
  slots : List Nat := []
  /-- R218: the lane is free from this instant. -/
  freeAt : Nat := 0
  /-- R219: the last three frames, the latest first. -/
  frames : List Frame := []
  /-- R219: the pairs whose waiting frame has set LATEFR. -/
  late : List Nat := []
  /-- R220: the next pair to refresh. -/
  refresh : Nat := 0
  /-- R221: the end of the priming burst in progress. -/
  priming : Option Nat := none
  /-- R228: the burst in progress ends a wait or a lock-out, so that its end sets RETRY. -/
  retrying : Bool := false
  /-- R227: the legs whose reports wait for their classification, the latest acceptance, and R228: a try among them. -/
  reports : BitVec 4 := 0
  reportAt : Nat := 0
  isTry : Bool := false
  /-- R228: when the report that is a try was accepted. -/
  tryAt : Nat := 0
  /-- R230: the cycle of the last CLEAR that took effect, with TRIES and RESTORED before it. -/
  cleared : Option (Nat × Nat × Nat) := none
  /-- R228: the end of the retry wait. -/
  waitEnd : Option Nat := none
  /-- R228: the start of the series of tries. -/
  series : Option Nat := none
  deriving DecidableEq, Repr, Inhabited

/-- DRIVE behind its registers. -/
structure Drive where
  groups : Vector Group 12 := Vector.replicate 12 {}
  /-- R204, R227: the lock-out lines; R231: asserted at reset. -/
  locked : BitVec 12 := 0xFFF
  /-- R214: the LEGn_FLT_N levels; the pull-ups hold them high. -/
  fltn : BitVec 48 := 0xFFFFFFFFFFFF
  /-- R223: the PWM cycle of the last release of drive codes, and the legs it wrote; and of the last steward landing. -/
  relAt : Nat := 0
  relLegs : List Nat := []
  landAt : Nat := 0
  /-- R223: the steward landings of that cycle: the leg, its code before, and the pairs whose slots it filled. -/
  landLegs : List (Nat × Nat × List Nat) := []
  /-- R215: the release of the divider from which the lanes' bit boundaries are counted. -/
  gridAt : Nat := 0
  deriving DecidableEq, Repr

/-- R236–R239: a grid point behind its registers. -/
structure GridPt where
  /-- R236: the instant U of the last update. -/
  lastU : Option Nat := none
  /-- R239: since which U the tracker has been locked and out of holdover. -/
  lockU : Option Nat := none
  /-- R238: θ in units of 1 / (16 · 10^15) turn, the last locked frequency in µHz, and the frequency in use. -/
  phase : Nat := 0
  lastF : Int := 0
  useF : Int := 0
  /-- R235: the decimated samples of each input since its filter started: stamp, value, the newest first; and the newest
  reference edge of the latest of them. -/
  hist : Vector (List (Nat × Word)) 6 := Vector.replicate 6 []
  edge : Vector Nat 6 := Vector.replicate 6 0
  /-- R238: since which U the phase error has been below 1°, and above 10°. -/
  good : Option Nat := none
  bad : Option Nat := none
  /-- R238: since which U the frequency has been outside 40–70 Hz. -/
  out : Option Nat := none
  /-- R239: the past updates, the newest first: U, the angle of V1, the tracker's frequency. -/
  track : List (Nat × Int × Int) := []
  /-- R240, R241: since which U the frequency of V1 has moved from the one before it, what it is now, and the one before. -/
  run : Option (Nat × Int × Int) := none
  /-- R239: the latest zero crossing of each input whose values have been taken. -/
  cross : Vector (Option Int) 6 := Vector.replicate 6 none
  /-- R245: the line-to-line magnitudes of the latest update, pu Q4.28. -/
  ll : Vector Word 3 := Vector.replicate 3 0
  /-- R235: the latest decimated input samples: VA, VB, VC, IA, IB, IC. -/
  input : Vector Word 6 := Vector.replicate 6 0
  /-- R238: when a steward write and a release last landed on FREF. -/
  frefAt : Option Nat := none
  relAt : Option Nat := none
  deriving DecidableEq, Repr

/-- R246: a stage's timer: time counted (tbu of REFCLK time), and since when it runs. -/
structure ProtStage where
  acc : Nat := 0
  since : Option Nat := none
  deriving DecidableEq, Repr

/-- R251: a curve's excursion: since when t_exc runs, since when x is inside the band, and the time at which the present
band is spent (t_exc in tbu) with the region it then leads to. -/
structure Curve where
  exc : Option Nat := none
  inside : Option Nat := none
  expire : Option (Nat × Nat) := none
  deriving DecidableEq, Repr

/-- R254–R256: disturbance capture behind its registers. -/
structure Capture where
  /-- frames written since arming, and the count from which the next capture instant is reckoned. -/
  frames : Nat := 0
  last : Nat := 0
  /-- the settings taken at arming. -/
  rate : Nat := 0
  nch : Nat := 0
  chans : Vector Word 4 := Vector.replicate 4 0
  buf : Nat := 0
  buflen : Nat := 0
  /-- the trigger: count, cause, region, frames before it and frames after it, and frames still to record. -/
  trig : Nat := 0
  cause : Nat := 0
  region : Nat := 0
  pre : Nat := 0
  post : Nat := 0
  left : Nat := 0
  /-- R255: the first further trigger (frame offset, cause) and their number. -/
  extra : Option (Nat × Nat) := none
  extras : Nat := 0
  /-- R256: the next free position of the MRAM ring, the position of the record being copied, and the records in the
  ring (address, length). -/
  wptr : Nat := 0
  dest : Nat := 0
  recs : List (Nat × Nat) := []
  deriving DecidableEq, Repr

/-- PROT behind its registers. Times are physical tbu. -/
structure Prot where
  stages : Vector ProtStage 16 := Vector.replicate 16 {}
  curves : Vector Curve 4 := Vector.replicate 4 {}
  /-- R248, R285: TRIP0 and TRIP1 asserted. -/
  trips : BitVec 2 := 0
  /-- R247: the update instant last evaluated, and that it was one at which no update came. -/
  lastEval : Nat := 0
  timedOut : Bool := false
  /-- R254–R256: disturbance capture. -/
  capture : Capture := {}
  deriving DecidableEq, Repr

/-- R268: the capture of one sweep step: its window in timebase counts and the sums of the two inputs. -/
structure DcCap where
  step : Nat := 0
  start : Option Nat := none
  stop : Option Nat := none
  sumV : Int := 0
  nV : Nat := 0
  sumI : Int := 0
  nI : Nat := 0
  bad : Bool := false
  doneV : Bool := false
  doneI : Bool := false
  /-- R268: since when both inputs have issued a result stamped at or after the window's end. -/
  doneAt : Nat := 0
  deriving DecidableEq, Repr

/-- R261–R275: a DC input behind its registers. -/
structure DcIn where
  /-- R267: the count at which GO landed. -/
  goAt : Nat := 0
  /-- R267: zeros of CAR since the step in force began. -/
  zeros : Nat := 0
  /-- R266, R271: when the last GO was accepted and when STOP was last written. -/
  goTime : Option Nat := none
  stopTime : Option Nat := none
  /-- R265, R267, R268: NSTEP, DWELL and CAPP of the sweep, taken at its GO (log entry 52). -/
  steps : Nat := 0
  dwell : Nat := 0
  capp : Nat := 0
  /-- R267: the zero at which a step begins has come; its count, its physical time and the table entry read there. -/
  due : Option Nat := none
  dueAt : Nat := 0
  entry : Nat := 0
  /-- R271: the last table write: the entry, its value before and the time. -/
  table : Option (Nat × Nat × Nat) := none
  /-- R270: the physical time of the last zero of CAR. -/
  lastZero : Nat := 0
  caps : List DcCap := []
  /-- R272: since when the pending day or night condition holds. -/
  since : Option Nat := none
  deriving DecidableEq, Repr

/-- R282, R284: what PROBE holds of one chip, by its boundary number. -/
structure ProbeChip where
  boundary : Nat := 0
  n : Nat := 0
  vd : Int := 0
  vq : Int := 0
  id : Int := 0
  iq : Int := 0
  invalid : Bool := false
  curtailed : Bool := false
  missed : Bool := false
  injected : Bool := false
  suspended : Bool := false
  switched : Bool := false
  deriving DecidableEq, Repr

/-- PROBE behind its registers. -/
structure Probe where
  /-- R278: the boundary number of the chip in force. -/
  boundary : Nat := 0
  /-- R279: the physical time at which the next boundary counts as missed. -/
  missAt : Nat := 0
  /-- R281: the chip in force has been tested at its end. -/
  tested : Bool := true
  /-- R278: the code period in progress. -/
  period : Nat := 0
  chips : List ProbeChip := []
  /-- R290: the period of the last switch-over, to whose end CFG, AMP and GUARD still hold what they held before it. -/
  old : Option (Nat × Vector Word 3) := none
  /-- R286, R294: the number of the last period reported. -/
  reported : Nat := 0
  /-- R291: when the latch was last cleared while it was not set. -/
  clrAt : Option Nat := none
  /-- R286: the last usable period had ZMAG ≤ ZTHR. -/
  low : Bool := false
  /-- R291: when the anti-islanding set last switched over. -/
  switchAt : Option Nat := none
  deriving DecidableEq, Repr

/-- R305: the fourteen 128-bit accumulators of a point, in 2^-64 mWh. -/
abbrev Accumulators := Vector Nat 14

/-- R311: a snapshot that waits: T_snap, and the accumulators once a sample at or after it has come. -/
structure MeterSnap where
  time : Nat
  acc : Option Accumulators
  deriving DecidableEq, Repr

/-- R296: a channel's decimator: the group's origin that its outputs count from, the next output, and the latest outputs:
stamp and value, the newest first. -/
structure MeterCh where
  origin : Nat := 0
  next : Nat := 0
  dec : List (Nat × Word) := []
  deriving DecidableEq, Repr

/-- R296, R299, R302: a point's valid sample: its instant, the corrected channels, the uncorrected currents, and the sums of
v · i and ṽ · i over the phases. -/
structure MeterTick where
  time : Nat
  c : Vector Int 7
  raw : Vector Int 4
  p : Int
  q : Int
  deriving DecidableEq, Repr

/-- A metering point behind its registers. -/
structure MeterPt where
  acc : Accumulators := Vector.replicate 14 0
  /-- R308: the test accumulators. -/
  test : Accumulators := Vector.replicate 14 0
  ch : Vector MeterCh 7 := Vector.replicate 7 {}
  /-- R303: the samples of the window in progress and the latest before it, the newest first. -/
  ticks : List MeterTick := []
  /-- R303: the start of the window in progress, its frequency in µHz, and the instants of the invalid samples from it on. -/
  winStart : Nat := 0
  winFreq : Nat := 50000000
  bad : List Nat := []
  /-- R308: the generator's phase at count 0, as a turn value. -/
  genPhase : Nat := 0
  snap : Option MeterSnap := none
  deriving DecidableEq, Repr

/-- R312, R313: a pulse output: the remainder in 2^-64 µWh, the due times of the pending pulses, the previous due time,
the start and width of the last pulse. Times are physical tbu. -/
structure Pulse where
  rem : Nat := 0
  due : List (Nat × Nat) := []
  lastDue : Option Nat := none
  start : Option Nat := none
  width : Nat := 0
  deriving DecidableEq, Repr

/-- R315, R321: what a ring record holds of its instant: the accumulators, PEND and R of each output, the TEST bits. -/
structure MeterBody where
  acc : Vector Accumulators 4
  pulses : Vector (Nat × Nat) 4
  test : Nat
  deriving DecidableEq, Repr

/-- R315: a ring record: its kind, its instant, the commit counter of the set, and its body once captured. -/
structure MeterSave where
  kind : Nat
  time : Nat
  counter : Nat
  body : Option MeterBody
  deriving DecidableEq, Repr

/-- METER behind its registers. -/
structure Meter where
  pts : Vector MeterPt 4 := Vector.replicate 4 {}
  pulses : Vector Pulse 4 := Vector.replicate 4 {}
  /-- R296: the last sampling instant. -/
  last : Nat := 0
  /-- R312: the physical time of the instant whose energy is being added. -/
  instant : Nat := 0
  /-- R311, R315: what stood before the sample of the last instant. -/
  before : MeterBody := ⟨Vector.replicate 4 (Vector.replicate 14 0), Vector.replicate 4 (0, 0), 0⟩
  /-- R315: the records to be written, the first of them in its slot; and the instant of the last periodic save. -/
  saves : List MeterSave := []
  savedAt : Nat := 0
  /-- R315: the slot that the next record goes into. -/
  slot : Nat := 0
  /-- R317: MTR_LOSS per point, as the records carry it. -/
  loss : BitVec 4 := 0
  deriving DecidableEq, Repr

/-- R329, R330: one test-pulse supply: when its pulse fell (none: high), until when the mask holds the pulsed channel's
filter, and the channels that read high before the fall and are still to be checked. -/
structure TestPulse where
  low : Option Nat := none
  mask : Nat := 0
  highA : BitVec 8 := 0
  highB : BitVec 8 := 0
  toCheck : Bool := false
  deriving DecidableEq, Repr

/-- R335: a reset procedure: when SRST_N fell and whether every enabled input has been safe since; or, after the rising
edge, the record being cleared. -/
inductive ResetProc where
  | idle
  | pulse (start : Nat) (safe : Bool)
  | clearing
  deriving DecidableEq, Repr

/-- R333, R336: SAFE's nonvolatile array: the pending marker, the lock-out record (bits as SAFE_LOCKREC 7:0), the number
of lock-outs, and the stored configuration set (IN0–IN7, OUT0–OUT3), if one has been delivered. -/
structure SafeArray where
  marker : Bool := false
  record : Option Nat := none
  count : Nat := 0
  config : Option (Vector Word 12) := none
  deriving DecidableEq, Repr

/-- R337: what the end of a reset procedure replaced: when, the registers, the record of the array, the acknowledgements. -/
structure SafeUndo where
  at_ : Nat
  regs : List (Nat × Word)
  record : Option Nat
  acked : BitVec 4
  lockAt : Option Nat
  deriving DecidableEq, Repr

/-- SAFE behind its status view (R325–R338). Times are physical tbu. -/
structure SafeUnit where
  /-- R326: the filtered channels. -/
  filtA : BitVec 8 := 0
  filtB : BitVec 8 := 0
  /-- R331: since when an input's filtered channels differ. -/
  differ : Vector (Option Nat) 8 := Vector.replicate 8 none
  /-- R327: the outputs for which a reset procedure has completed since they last went off. -/
  acked : BitVec 4 := 0
  /-- R338: the power-up self-test has passed or failed. -/
  tested : Bool := false
  proc : ResetProc := .idle
  /-- R329: the start of the running 20 ms test-pulse cycle, and the two supplies. -/
  cycle : Option Nat := none
  tpA : TestPulse := {}
  tpB : TestPulse := {}
  array : SafeArray := {}
  /-- R336: FILT of each input before the last switch-over, and when that was. -/
  filtOld : Vector Nat 8 := Vector.replicate 8 15
  filtAt : Nat := 0
  /-- R331: when each output last changed, and the readback pins (A in bits 3:0, B in bits 7:4) reported as not following,
  with their levels. -/
  outAt : Vector Nat 4 := Vector.replicate 4 0
  rbStuck : BitVec 8 := 0
  rbLevel : BitVec 8 := 0
  /-- R332: when the lock-out in force was entered. -/
  lockAt : Option Nat := none
  /-- R337: the last reset procedure that ended. -/
  undo : Option SafeUndo := none
  deriving DecidableEq, Repr

/-- R344: a line of a cache: its address, its way, dirty, its 32 bytes. -/
structure CLine where
  addr : Nat
  way : Nat
  dirty : Bool
  data : Nat
  deriving DecidableEq, Repr

/-- R344: a cache of 256 sets of four lines: the valid lines, and the round-robin pointers that are not 0, by set. -/
structure Cache where
  lines : List CLine := []
  ptr : List (Nat × Nat) := []
  deriving DecidableEq, Repr

/-- R343–R359: a steward behind its registers and status. -/
structure Steward where
  epc : Word := 0
  ecause : Word := 0
  eaddr : Word := 0
  /-- R351: ESTAT. -/
  estat : Word := 0x800
  vbase : Word := 0
  scratch0 : Word := 0
  scratch1 : Word := 0
  ccfg : Word := 0
  icache : Cache := {}
  dcache : Cache := {}
  /-- R346: the write buffer, oldest first, and when it was last emptied. -/
  wbuf : List Posted := []
  emptyAt : Nat := 0
  /-- R345: a whole-cache operation has not completed: instruction invalidate, clean, data invalidate. -/
  maint : BitVec 3 := 0
  wfi : Bool := false
  /-- R359: an NMI is pending. -/
  nmi : Bool := false
  /-- R155: the instruction after DI cannot be interrupted. -/
  shadow : Bool := false
  /-- R24, R357: the addresses of failed accesses that the next instruction boundary reports, each with POSTED: a remote
  store. -/
  storeErr : List (Nat × Bool) := []
  /-- R155: the code RB of the last TRAP. -/
  trapCode : BitVec 4 := 0
  deriving DecidableEq, Repr

/-- R358–R360: a watchdog: the last valid kick, the time of a first key, stage 1 reached, the end of the stage in
progress, since when it is paused. -/
structure Watchdog where
  kick : Option Nat := none
  first : Option Nat := none
  fired : Bool := false
  due : Nat := 0
  paused : Option Nat := none
  deriving DecidableEq, Repr

/-- R361: words kept for a Read: its address and count, the words held (none: still to come from a far device), and whether
the port holds them all. -/
structure Kept where
  addr : Nat
  count : Nat
  words : List (Option Word)
  complete : Bool
  deriving DecidableEq, Repr

/-- R361, R362: the host port: kept words, queued writes (address, word, sent to a far device), ERR, REF, and the answer
to the last frame. -/
structure HostPort where
  kept : Option Kept := none
  /-- R361: far addresses whose words will be discarded. -/
  drop : List Nat := []
  queue : List (Nat × Word × Bool) := []
  err : Bool := false
  ref : Bool := false
  out : List Word := []
  deriving DecidableEq, Repr

/-- R507: the GPIO outputs' writes of the present SYS cycle (when, and OUT, SET and CLR as written), and the levels of the
balls before they last changed (when, and what they were). -/
structure GpioPort where
  wrote : Option Nat := none
  base : BitVec 16 := 0
  sets : BitVec 16 := 0
  clrs : BitVec 16 := 0
  changed : Option (Nat × BitVec 16) := none
  deriving DecidableEq, Repr

/-- R505: what the test logic does to the balls: nothing, drives them from the boundary cells, or releases them. -/
inductive PadMode where
  | normal | scan | highz
  deriving DecidableEq, Repr

/-- R363, R505: the debug port: the sticky error, the instruction register, the effect on the balls, the boundary cells
as preloaded and as captured, the register between TDI and TDO as it was last selected. -/
structure DebugPort where
  sticky : Bool := false
  ir : BitVec 5 := 0b00010
  pads : PadMode := .normal
  cells : List Bool := []
  captured : List Bool := []
  bypass : Bool := false
  dr : BitVec 72 := 0
  deriving DecidableEq, Repr

/-- R368–R380: a DMA channel behind its registers. -/
structure DmaCh where
  /-- R368: the descriptor last fetched, and its address. -/
  words : Vector Word 8 := Vector.replicate 8 0
  addr : Nat := 0
  /-- R374: bytes done, and the length of the block that runs. -/
  pos : Nat := 0
  block : Nat := 0
  /-- R379: the STATUS to write back. -/
  status : Nat := 0
  /-- R380: a stop is wanted. -/
  stop : Bool := false
  /-- R382: when a STOP, and when a trigger of the selected source, last came. -/
  stopAt : Option Nat := none
  trigAt : Option Nat := none
  /-- R382: OVR and its count before that trigger, if it was an overrun. -/
  trigOvr : Option (Nat × Nat) := none
  /-- R377: when the trigger of the running block was taken. -/
  startAt : Nat := 0
  /-- R378: the timebase when the last destination write was accepted, at its target or by a link. -/
  stamp : Nat := 0
  deriving DecidableEq, Repr

/-- R19, R402: who waits for a remote access: a crossbar tag, a core (0–3 the reckoners, 4–5 the stewards), a DMA channel,
the host port's writes, its reads, the debug port. -/
inductive Requester where
  | tag (t : Fin 64)
  | core (c : Fin 6)
  | dma (ch : Fin 32)
  | host
  | hostRead
  | debug
  deriving DecidableEq, Repr

/-- R21, R401, R402: how far a remote access has come: its master stalls for a tag; it waits in the link; it is sent (a read
with its tag); it is complete. -/
inductive RemoteStage where
  | stalled
  | queued
  | sent (tag : Nat)
  | done (ok : Bool) (data : Nat)
  deriving DecidableEq, Repr

/-- R401: a remote access: who waits, the far local address, the size in bytes, the data of a write. -/
structure RemoteOp where
  who : Requester
  far : Nat
  size : Nat
  data : Option Nat
  stage : RemoteStage
  /-- R377: the least instant at which it may be issued. -/
  since : Nat := 0
  deriving DecidableEq, Repr

/-- R394–R396: a cell to send: its type, its SUB and LEN, its body, the credits it returns, when it was last
sent. -/
structure TxCell where
  typ : Nat
  sub : Nat
  len : Nat
  body : Nat
  cred : Nat := 0
  at_ : Nat := 0
  deriving DecidableEq, Repr

/-- R393: the run of identical bits at the end of what a lane has carried. -/
structure LineRun where
  bit : Bool := false
  n : Nat := 0
  deriving DecidableEq, Repr

/-- R386–R414: one link behind its registers. Times are physical tbu. -/
structure LinkPort where
  /-- R398: the SEQ expected next, whether a cell has been accepted since training, and consecutive CRC-class errors. -/
  expect : Nat := 0
  accepted : Bool := false
  bad : Nat := 0
  /-- R398: a NAK is due in the next cell, and when the last one was sent, while its hold-off runs. -/
  nakDue : Bool := false
  nakAt : Option Nat := none
  /-- R398: an acknowledgement is due although no other cell is waiting. -/
  ackDue : Bool := false
  /-- R399: the next SEQ to assign, the replay buffer (SEQ, cell), and the replays without an advance of ACK. -/
  seq : Nat := 0
  replay : List (Nat × TxCell) := []
  rounds : Nat := 0
  /-- R404: forwarded events to send: channel and exact time. -/
  evOut : List (Nat × Nat) := []
  /-- R400: responses and stream cells to send. -/
  respOut : List TxCell := []
  strOut : List TxCell := []
  /-- R401: remote accesses in issue order. -/
  ops : List RemoteOp := []
  /-- R401: request credits to return. -/
  credRet : Nat := 0
  /-- R405: t1 of an exchange begun as the upper end; t2 and t3 of one answered as the lower end. -/
  upper : Option Nat := none
  lower : Option (Nat × Nat) := none
  /-- R407: MARK echoes measured in training, and the largest. -/
  marks : Nat := 0
  markMax : Nat := 0
  /-- R389: when training starts again under AUTO; when it started; whether it has reached the exchange of cells. -/
  retrain : Option Nat := none
  trainAt : Nat := 0
  ready : Bool := false
  /-- R411: the loop in effect. -/
  loop : Nat := 0
  /-- R401: requests of the far device that wait for the crossbar. -/
  reqIn : List (BitVec 256) := []
  /-- R409: stream cells that wait for the crossbar, each with its number. -/
  strIn : List (BitVec 256 × Nat) := []
  /-- R410: requests passed to the crossbar before a loss, whose responses are discarded. -/
  discard : Nat := 0
  /-- R408: the least reference edge (physical time) at which the next raw cell of a channel begins. -/
  rawNext : Vector Nat 8 := Vector.replicate 8 0
  /-- R412: bits inverted by PRBS_INJECT, and the generator's newest 31 bits, per lane. -/
  injected : Vector Nat 2 := Vector.replicate 2 0
  prbs : Vector (BitVec 31) 2 := Vector.replicate 2 0
  /-- R393: the runs at the end of what each lane has sent, and of what it has received. -/
  txRun : Vector LineRun 2 := Vector.replicate 2 {}
  rxRun : Vector LineRun 2 := Vector.replicate 2 {}
  /-- R391: the half-cells that a lane has brought ahead of the other. -/
  rxHalf : Vector (List (List Bool)) 2 := Vector.replicate 2 []
  /-- The cells that the last command or tick sent, and the bits that they put on the lanes. -/
  sent : List (BitVec 256) := []
  line : LaneBits := ⟨[], []⟩
  deriving DecidableEq, Repr

/-- The links. -/
structure Links where
  ports : Vector LinkPort 4 := Vector.replicate 4 {}
  deriving DecidableEq, Repr

/-- R422: an entry of the duplicate-discard table: source address and sequence number, and when it was made. -/
structure DupEntry where
  src : Nat
  seq : Nat
  time : Nat
  deriving DecidableEq, Repr

/-- R424: the residence time of a two-step Sync, by sourcePortIdentity and sequenceId, and when it was stored. -/
structure Residence where
  key : Nat
  time : Nat
  add : Nat
  deriving DecidableEq, Repr

/-- R418–R427: Ethernet behind its registers. Times are physical tbu. -/
structure Eth where
  /-- R422: the duplicate table, oldest first, and the entries it lost by age or replacement. -/
  dups : List DupEntry := []
  gone : List (Nat × Nat) := []
  /-- R421: the next redundancy sequence number. -/
  seq : Nat := 0
  /-- R419: the transmitters that have fetched a descriptor. -/
  sending : Vector Bool 2 := Vector.replicate 2 false
  /-- R428: a sampled-value frame goes out on a port before the ring frame that was fetched. -/
  svFirst : Vector Bool 2 := Vector.replicate 2 false
  /-- R21, R419: a kick that stalls for a tag. -/
  kicked : BitVec 2 := 0
  /-- R428: the descriptor that the last frame took, and when. -/
  lastRx : Nat × Nat := (0, 0)
  /-- R429: the MACs stopped by a system PLL loss of lock, until a port is enabled again. -/
  stopped : Vector Bool 2 := Vector.replicate 2 false
  /-- R506, R507: the delays of SYSCFG_RGMII in force: the transmitter's and the receiver's of each port. -/
  rgmii : Vector (Bool × Bool) 2 := Vector.replicate 2 (false, false)
  /-- R424: the residence table, oldest first. -/
  residence : List Residence := []
  /-- R426: when a filter's supervision time runs out. -/
  tal : Vector (Option Nat) 32 := Vector.replicate 32 none
  /-- R67, R429: since when the ETH clocks are gated by a loss of lock of the system PLL. -/
  offAt : Option Nat := none
  /-- R427: a publisher's frame that has not started. -/
  sv : Vector (Option (List Nat)) 2 := Vector.replicate 2 none
  /-- The frames that the last command sent, without FCS: port and bytes. -/
  sent : List (Nat × List Nat) := []
  deriving DecidableEq, Repr

/-- R432: the fields of the one-time programmable memory that the owner programs. -/
structure Otp where
  okh : BitVec 512 := 0
  rollback : Nat := 0
  dbglock : Bool := false
  deriving DecidableEq, Repr

/-- R441: a running SEC command: its outputs (register, value), PASS for a verification, a refusal at its end. -/
structure SecRun where
  outs : List (Nat × Word)
  pass : Option Bool := none
  otp : Option Otp := none
  deriving DecidableEq, Repr

/-- SEC behind its registers. -/
structure Sec where
  otp : Otp := {}
  run : Option SecRun := none
  /-- R441: a command, by its number, that waits for a hash or a check of CONSENT. -/
  waiting : Option Nat := none
  /-- R435: the boot sequence has run since reset. -/
  booted : Bool := false
  /-- R435: ST1 waits in the ROM for its entry. -/
  st1Waits : Bool := true
  deriving DecidableEq, Repr

/-- R443–R448: CONSENT behind its registers. Times are physical tbu. -/
structure Consent where
  /-- R444: the time of the REQUEST. -/
  req : Nat := 0
  /-- R445: the lock time ends. -/
  lockEnd : Option Nat := none
  /-- R446: the digest is being computed. -/
  digesting : Bool := false
  /-- R447: the key of the check in progress; physical consent completed meanwhile. -/
  key : Nat := 0
  sig : List Nat := []
  physDone : Bool := false
  /-- R448: a counter write in progress. -/
  counter : Option Nat := none
  deriving DecidableEq, Repr

/-- R470, R471: a ledger entry that waits: type, RTC, RTCVALID, LSTORE in mV, tamper input. -/
structure LedgerEntry where
  typ : Nat
  rtc : Nat
  valid : Bool
  lstore : Nat
  tamper : Nat
  deriving DecidableEq, Repr

/-- R467–R473: the sentinel behind its registers. Times are physical tbu. -/
structure Sentinel where
  running : Bool := true
  /-- The RTC: its ticks at a time, and whether it counts. -/
  rtcBase : Nat := 0
  rtcAt : Nat := 0
  rtcRuns : Bool := true
  queue : List LedgerEntry := []
  /-- R471: the sequence number of the newest entry. -/
  seq : Nat := 0
  /-- R472: inputs that are ignored until they have been inactive. -/
  ignored : BitVec 2 := 0
  /-- R471: when the next checkpoint is due. -/
  checkpoint : Option Nat := none
  /-- R473: PWRREQ. -/
  pwrreq : Bool := true
  /-- R77, R474: register writes on their way: when they take effect, address and value. -/
  writes : List (Nat × Nat × Word) := []
  /-- R468: when HV1 was last sampled, and the voltage it regulates to, in mV. -/
  hv1At : Nat := 0
  hv1Mv : Nat := 0
  deriving DecidableEq, Repr

/-- R455–R466: PMU behind its registers. Times are physical tbu. -/
structure Pmu where
  /-- R459: the power-fail warning is latched, since `warnAt`. -/
  warned : Bool := false
  warnAt : Nat := 0
  /-- R359: the watchdog of a cause-3 warning. -/
  watchdog : Nat := 0
  /-- R463: no block is written. -/
  noBlock : Bool := false
  /-- R460: the steward window has ended, or was skipped. -/
  windowEnded : Bool := false
  skipped : Bool := false
  /-- R461: when the save engine started. -/
  engine : Option Nat := none
  /-- R461, R464: the body of the block as captured: the words from offset 8 on that are not 0. -/
  image : Option (List (Nat × Word)) := none
  /-- R465: the slot that was selected at reset. -/
  csb : Option Nat := none
  /-- R456: reset is held. -/
  held : Bool := true
  /-- R75, R460: the clocks are gated and the core rails are removed. -/
  clocksOff : Bool := false
  /-- R366: VIN fell below 9.6 V after the save sequence ended, or no previous run exists. -/
  vinFell : Bool := true
  /-- R366: the cause, and the watchdog, of the save that ended the previous run. -/
  cause : Nat := 0
  causeWdg : Nat := 0
  deriving DecidableEq, Repr

/-- R478–R484: MON behind its registers. -/
structure Mon where
  /-- R478, R480: the values that a monitor's source has produced and the monitor has not taken yet, each with whether it was
  held. -/
  queue : Vector (List (Int × Bool)) 16 := Vector.replicate 16 []
  /-- R482: when each monitor last recorded a value, and the value. -/
  recent : Vector (Option (Nat × Int)) 16 := Vector.replicate 16 none
  /-- R478: the assertion of each interrupt source that a steward has last entered. -/
  entered : List (Nat × Nat) := []
  /-- R481: the counts between which each capture window was last opened. -/
  win : Vector (Option (Nat × Nat)) 4 := Vector.replicate 4 none
  /-- R478: when each monitor sends its next MARK request, physical. -/
  mark : Vector Nat 16 := Vector.replicate 16 0
  /-- R478: the VIO supplies, mV. -/
  vio : Vector Nat 8 := Vector.replicate 8 0
  /-- R484: the next word the scrub reads and when, and the doublewords with an uncorrectable error. -/
  scrub : Nat := 0x20000000
  scrubAt : Nat := 0
  ecc : List Nat := []
  deriving DecidableEq, Repr

/-- The state of the module. -/
structure State where
  /-- Physical time since reset, in tbu. -/
  now : Nat := 0
  /-- R7, R11: every register, by address: those that differ from their reset values, addresses rising. -/
  regs : List (Nat × Word) := []
  /-- R7: the high words that the LO registers will latch, by LO address. -/
  hiLive : List (Nat × Word) := []
  /-- R15–R17: the memories (boot ROM, MRAM, SRAM, tightly coupled memories), by address: the bytes that differ from what an unlisted
  address reads as. -/
  mem : List (Nat × Byte) := []
  /-- The model's own: how many free values have been taken. -/
  free : Nat := 0
  /-- The model's own: what the last read command returned (R6: up to a doubleword, or a 72-bit register). -/
  rdata : BitVec 72 := 0
  /-- R156, R343: the stewards' core cycles until a time; from then on they have been counted at one cycle time. -/
  stCycles : Nat := 0
  stCyclesAt : Nat := 0
  /-- R9: the instant of the latest setting events of W1C flags, and the flags (register, bit) set then. -/
  setAt : Nat := 0
  setFlags : List (Nat × Nat) := []
  /-- R478: when each W1C flag last went from 0 to 1 (32 times its address and its bit, and the time). -/
  flagSince : List (Nat × Nat) := []
  /-- R77: register writes that wait in their crossing because the clock of their domain stands, oldest first. -/
  parked : List (Nat × Word) := []
  /-- R77: the parked writes of a clock that has returned are landing. -/
  landing : Bool := false
  /-- The commands that wait, the first in front. -/
  pending : List Instr := []
  tbl : Tbl := {}
  pll : Pll := {}
  modin : Modin := {}
  /-- R13, R152: the sample bus, by channel. -/
  samples : Vector Sample 256 := Vector.replicate 256 {}
  /-- R77, R151: what each channel carried before its newest result, and when that result is delivered to RK. -/
  samplesOld : Vector (Sample × Nat) 256 := Vector.replicate 256 ({}, 0)
  acu : Acu := {}
  mramc : Mramc := {}
  pwm : Pwm := {}
  drive : Drive := {}
  gp : Vector GridPt 4 := Vector.replicate 4 {}
  prot : Prot := {}
  probe : Probe := {}
  meter : Meter := {}
  dc : Vector DcIn 8 := Vector.replicate 8 {}
  safe : SafeUnit := {}
  dma : Vector DmaCh 32 := Vector.replicate 32 {}
  eth : Eth := {}
  mon : Mon := {}
  /-- The cores by COREID: the reckoners 0–3, the stewards 4 and 5. -/
  cpu : Vector Cpu 6 := Vector.replicate 6 {}
  rk : Vector Rk 4 := Vector.replicate 4 {}
  st : Vector Steward 2 := Vector.replicate 2 {}
  wdg : Vector Watchdog 2 := Vector.replicate 2 {}
  xbar : Xbar := {}
  host : HostPort := {}
  dport : DebugPort := {}
  sec : Sec := {}
  consent : Consent := {}
  link : Links := {}
  sentinel : Sentinel := {}
  pmu : Pmu := {}
  /-- R507: the levels that the board drives on the GPIO balls. -/
  gpio : BitVec 16 := 0
  gpioPort : GpioPort := {}
  deriving DecidableEq, Repr

/-- The machine right after reset: every register at its reset value, nothing in memory, no command waiting. -/
def State.reset : State := {}

/-- What a command answers. -/
abbrev Result := Host.Outcome State Fault Refusal

end Sys2Proof.Machine
end

