-- ==== Sys2Proof/Machine/Ops.lean ====
section
/-! DEFINITION. The named operations over the sparse maps, the registers, the memory and the free values, which every
meaning goes through. -/
namespace Sys2Proof.Machine

/-! ### Sparse maps in canonical form -/

/-- The value of a sparse map at `a`: the listed value, else the default. -/
def mapGet (dflt : Nat → α) : List (Nat × α) → Nat → α
  | [], a => dflt a
  | (b, w) :: t, a => if a = b then w else mapGet dflt t a

/-- Lists a value in a sparse map at its place. -/
def mapIns : List (Nat × α) → Nat → α → List (Nat × α)
  | [], a, v => [(a, v)]
  | (b, w) :: t, a, v =>
    if a < b then (a, v) :: (b, w) :: t
    else if a = b then (a, v) :: t
    else (b, w) :: mapIns t a v

/-- Sets a sparse map at `a`, keeping the canonical form: addresses strictly rising, no entry equal to the default. -/
def mapSet [DecidableEq α] (dflt : Nat → α) (m : List (Nat × α)) (a : Nat) (v : α) : List (Nat × α) :=
  (mapIns m a v).filter fun e => e.1 != a || decide (v ≠ dflt a)

/-- The canonical form of a sparse map, with every address above `lo`. -/
def mapWfFrom [DecidableEq α] (dflt : Nat → α) : Option Nat → List (Nat × α) → Bool
  | _, [] => true
  | lo, (b, w) :: t =>
    (match lo with | none => true | some l => decide (l < b)) && decide (w ≠ dflt b) && mapWfFrom dflt (some b) t

/-! ### Memory -/

/-- R253: LEVEL and TSET of the stages OV1, OV2, UV1, UV2, OF1, OF2, UF1, UF2 in the presets of Categories I, II, III. -/
def presetStages : Nat → List (Nat × Nat)
  | 0 => [(11000, 20000), (12000, 1600), (7000, 20000), (4500, 1600), (1200, 3000000), (2000, 1600), (1500, 3000000), (3500, 1600)]
  | 1 => [(11000, 20000), (12000, 1600), (7000, 100000), (4500, 1600), (1200, 3000000), (2000, 1600), (1500, 3000000), (3500, 1600)]
  | _ => [(11000, 130000), (12000, 1600), (8800, 210000), (5000, 20000), (1200, 3000000), (2000, 1600), (1500, 3000000), (3500, 1600)]

/-- R253: the words of a preset stage: EN, TRIP0, BLK0 and CAP set, INVACT 0, HYST 100 for a voltage and 50 for a frequency
stage. -/
def presetStage (k : Nat) (e : Nat × Nat) : List Nat := [0x2B + 2 ^ 8 * (if k < 4 then 100 else 50) + 2 ^ 16 * e.1, e.2]

/-- R250, R253: a breakpoint's words: LEVEL, SLOPE, TMAX (an unlimited one 0xFF_FFFF), REGION; EXP is 0. -/
def breakpointWords (level slope tmax region : Nat) : List Nat := [level + 2 ^ 16 * slope, tmax + 2 ^ 24 * region]

/-- R253: the Category II curves UV, OV, UF, OF. -/
def presetCurves : List (List (List Nat)) :=
  [[breakpointWords 6500 870 3000 1, breakpointWords 4500 0 320 2, breakpointWords 3000 0 160 2, breakpointWords 0 0 0xFFFFFF 3],
   [breakpointWords 11500 0 1000 2, breakpointWords 11750 0 500 2, breakpointWords 12000 0 200 2, breakpointWords 0xFFFF 0 0xFFFFFF 3],
   [breakpointWords 3000 0 299000 1, breakpointWords 0xFFFF 0 0xFFFFFF 2],
   [breakpointWords 1800 0 299000 1, breakpointWords 0xFFFF 0 0xFFFFFF 2]]

/-- A list filled up with zeros to a length. -/
def padTo (n : Nat) (l : List Nat) : List Nat := l ++ List.replicate (n - l.length) 0

/-- R244, R253: a preset: the image of the RWL words of PROT in register order. What the rule does not give stands at its
reset value (log entry 2). -/
def presetImage (c : Nat) : List Nat :=
  [0, 0x00140000, 0x2AF82260, 0x04B004B0] ++ padTo 32 ((presetStages c).zipIdx.flatMap fun e => presetStage e.2 e.1) ++
  if c = 1 then presetCurves.flatMap fun l => padTo 32 l.flatten else []

/-- R244, R260: the boot ROM's presets, at 0x1F000, 0x1F400 and 0x1F800. -/
def romByte (a : Nat) : Byte :=
  if 0x1F000 ≤ a ∧ a < 0x1FC00 then
    BitVec.ofNat 8 ((presetImage ((a - 0x1F000) / 0x400)).getD ((a - 0x1F000) % 0x400 / 4) 0 / 256 ^ (a % 4))
  else 0

/-- What a byte that nothing has written reads as: the presets in the boot ROM (R253), and 0 elsewhere. The spec gives that 0
for the MRAM as shipped (R17); for the system SRAM, the tightly coupled memories and the rest of the boot ROM it is a DESIGN
CHOICE (log entry 2). -/
def Memory.unlisted (a : Nat) : Byte := if a < 0x20000 then romByte a else 0

/-- The byte at `a`. -/
def Memory.read (m : List (Nat × Byte)) (a : Nat) : Byte := mapGet Memory.unlisted m a

/-- Writes one byte. -/
def Memory.write (m : List (Nat × Byte)) (a : Nat) (v : Byte) : List (Nat × Byte) := mapSet Memory.unlisted m a v

/-- The canonical form of the memory. -/
def Memory.wf (m : List (Nat × Byte)) : Bool := mapWfFrom Memory.unlisted none m

/-- R6: little-endian read of `n` bytes from `a`. -/
def Memory.readLE (m : List (Nat × Byte)) (a : Nat) : Nat → Nat
  | 0 => 0
  | n + 1 => (Memory.read m a).toNat + 256 * Memory.readLE m (a + 1) n

/-- R6: little-endian write of `n` bytes at `a`. -/
def Memory.writeLE (m : List (Nat × Byte)) (a : Nat) : Nat → Nat → List (Nat × Byte)
  | 0, _ => m
  | n + 1, v => Memory.writeLE (Memory.write m a (BitVec.ofNat 8 v)) (a + 1) n (v / 256)

/-! ### Registers -/

/-- The reset value of the register at an address; 0 where no register stands (R12). The preset addresses differ from
one preset to the next (R260), and the first word of the consent live set has reset values of its own (R452). -/
def regReset (a : Nat) : Word :=
  if a = Reg.CONSENT_LIVE 4 0 then 0x02580301
  else if a = Reg.PROT_PRESET 1 then 0x1F400
  else if a = Reg.PROT_PRESET 2 then 0x1F800
  else
    match regRow a with
    | some r => BitVec.ofNat 32 r.reset
    | none => 0

/-- The canonical form of the register file. -/
def regsWf (m : List (Nat × Word)) : Bool := mapWfFrom regReset none m

/-- The stored word of the register at `a`. -/
def State.rd (s : State) (a : Nat) : Word := mapGet regReset s.regs a

/-- Stores the word of the register at `a`. -/
def State.wr (s : State) (a : Nat) (v : Word) : State := { s with regs := mapSet regReset s.regs a v }

/-- A register's word as a number. -/
def State.rdN (s : State) (a : Nat) : Nat := (s.rd a).toNat

/-- Stores a number, modulo 2^32. -/
def State.wrN (s : State) (a : Nat) (v : Nat) : State := s.wr a (BitVec.ofNat 32 v)

/-- A field cut out of a word. -/
def cut (x lo w : Nat) : Nat := (x >>> lo) % 2 ^ w

/-- Sets or clears a bit of a vector. -/
def setBit {w : Nat} (x : BitVec w) (i : Nat) (b : Bool) : BitVec w :=
  if b then x ||| (1#w <<< i) else x &&& ~~~(1#w <<< i)

/-- A word with one field replaced. -/
def paste (x lo w v : Nat) : Nat := (x >>> (lo + w)) * 2 ^ (lo + w) + (v % 2 ^ w) * 2 ^ lo + x % 2 ^ lo

/-- A field's value. -/
def State.get (s : State) (f : Fld) : Nat := cut (s.rdN f.addr) f.lo f.w

/-- Sets a field, leaving the rest of its register. -/
def State.put (s : State) (f : Fld) (v : Nat) : State := s.wrN f.addr (paste (s.rdN f.addr) f.lo f.w v)

/-- Whether a field is not 0. -/
def State.on (s : State) (f : Fld) : Bool := s.get f != 0

/-- Sets a one-bit field from a Bool. -/
def State.putB (s : State) (f : Fld) (b : Bool) : State := s.put f b.toNat

/-- One count of a 16-bit saturating event counter (R9). -/
def State.sat16 (s : State) (a : Nat) : State :=
  if s.rdN a < 0xFFFF then s.wrN a (s.rdN a + 1) else s

/-- `k` counts of a 16-bit saturating counter. -/
def State.sat16By (s : State) (a k : Nat) : State := s.wrN a (min 0xFFFF (s.rdN a + k))

/-- One count of a 32-bit wrapping counter. -/
def State.inc32 (s : State) (a : Nat) : State := s.wrN a (s.rdN a + 1)

/-- R9: hardware sets a flag at this instant; a clear in the same cycle does not undo it. -/
def State.setNow (s : State) (e : EvFlag) : State :=
  let fs := if s.setAt = s.now then s.setFlags else []
  let since := if (s.rdN e.addr).testBit e.bit then s.flagSince else mapSet (fun _ => 0) s.flagSince (32 * e.addr + e.bit) s.now
  { s.put ⟨e.addr, e.bit, 1⟩ 1 with setAt := s.now, setFlags := (e.addr, e.bit) :: fs, flagSince := since }

/-- R9: whether hardware set bit `b` of the register at `a` in this cycle. -/
def State.justSet (s : State) (a b : Nat) : Bool := s.setAt == s.now && s.setFlags.contains (a, b)

/-- R9: the bits of a register that hardware set in this cycle. -/
def State.justSetMask (s : State) (a : Nat) : Nat :=
  if s.setAt = s.now then (s.setFlags.filter fun e => e.1 == a).foldl (fun m e => m ||| 2 ^ e.2) 0 else 0

/-- R9: a setting event of a W1C flag: the flag reads 1 and its saturating counter counts. -/
def State.raise (s : State) (e : EvFlag) : State := (s.setNow e).sat16 e.cnt

/-- `k` setting events of a W1C flag; none leaves it. -/
def State.raiseN (s : State) (e : EvFlag) (k : Nat) : State :=
  if k = 0 then s else (s.setNow e).sat16By e.cnt k

/-- A setting event if `b` holds. -/
def State.raiseIf (s : State) (b : Bool) (e : EvFlag) : State := if b then s.raise e else s

/-- Whether a flag reads 1. -/
def State.flag (s : State) (e : EvFlag) : Bool := s.on ⟨e.addr, e.bit, 1⟩

/-- Two's complement value of the low `w` bits of a number. -/
def sx (w x : Nat) : Int := if x % 2 ^ w < 2 ^ (w - 1) then (x % 2 ^ w : Int) else (x % 2 ^ w : Int) - (2 ^ w : Int)

/-- The `w`-bit two's complement code of an integer. -/
def enc (w : Nat) (x : Int) : Nat := (x % (2 ^ w : Int)).toNat

/-- A signed field's value. -/
def State.getS (s : State) (f : Fld) : Int := sx f.w (s.get f)

/-- Saturation of an integer to `w` bits, signed. -/
def satTo (w : Nat) (x : Int) : Int := max (-(2 ^ (w - 1) : Int)) (min ((2 ^ (w - 1) : Int) - 1) x)

/-- Rounding of `x / 2^k` to nearest, a half upwards. -/
def rshiftRound (x : Int) (k : Nat) : Int := (x + (2 ^ k : Int) / 2) / (2 ^ k : Int)

/-! ### The live high words behind LO registers (R7) -/

/-- Records a 64-bit count or stamp: the LO register holds its low word and the high word waits for the latch. -/
def State.setStamp (s : State) (loAddr : Nat) (v : Nat) : State :=
  let s := s.wrN loAddr v
  { s with hiLive := mapSet (fun _ => 0) s.hiLive loAddr (BitVec.ofNat 32 (v / 2 ^ 32)) }

/-- The 64-bit value behind a LO register. -/
def State.stamp (s : State) (loAddr : Nat) : Nat :=
  s.rdN loAddr + 2 ^ 32 * (mapGet (fun _ => (0 : Word)) s.hiLive loAddr).toNat

/-- R7: the read of a LO register returns it and latches the high word into the HI register four bytes above. -/
def State.latchHi (s : State) (loAddr : Nat) : State :=
  s.wr (loAddr + 4) (mapGet (fun _ => 0) s.hiLive loAddr)

/-! ### Free values -/

/-- A value the spec leaves open: the next free word. -/
def State.fresh (s : State) : Word × State := (Config.freeWord s.free, { s with free := s.free + 1 })

/-! ### Memory of the state -/

/-- Little-endian read of `n` bytes. -/
def State.memRd (s : State) (a n : Nat) : Nat := Memory.readLE s.mem a n

/-- Little-endian write of `n` bytes. -/
def State.memWr (s : State) (a n v : Nat) : State := { s with mem := Memory.writeLE s.mem a n v }

/-- The value handed back by a read command. -/
def State.answer (s : State) (v : Nat) : State := { s with rdata := BitVec.ofNat 72 v }

/-! ### Plain register writes (R7–R10) -/

/-- R7, R8, R10: the word a register holds after a write that has no operation of its own; `keep`: the flags that hardware
sets in the same cycle (R9). -/
def RegRow.written (r : RegRow) (old v keep : Nat) : Nat :=
  let x := (old ^^^ (old &&& r.rw)) ||| (v &&& r.rw)
  ((x ^^^ (x &&& (v &&& r.w1c))) ||| (x &&& keep)) ||| (v &&& r.w1s)

/-- R7, R8: a write that has no operation of its own; a write where no register stands is ignored (R12). -/
def State.plainWrite (s : State) (a : Nat) (v : Word) : State :=
  match regRow a with
  | some r => s.wrN a (r.written (s.rdN a) v.toNat (s.justSetMask a))
  | none => s

/-! ### Units of time in tbu (R4, R5) -/

/-- One PWM cycle. -/
def tPwm : Nat := 40
/-- One nanosecond. -/
def tNs : Nat := 16
/-- One microsecond. -/
def tUs : Nat := 16000
/-- One millisecond. -/
def tMs : Nat := 16000000
/-- One second. -/
def tSec : Nat := 16000000000

end Sys2Proof.Machine
end

