-- ==== Sys2Proof/Machine/Mram.lean ====
section
/-! DEFINITION. MRAMC: accepting and making durable the writes to the MRAM, and wear levelling (R18, R485, R486). -/
namespace Sys2Proof.Machine

/-- Replaces MRAMC's hidden state. -/
def State.mramM (s : State) (f : Mramc → Mramc) : State := { s with mramc := f s.mramc }

/-- R485: the 4 KiB page of an address in the MRAM window. -/
def mramPage (a : Nat) : Nat := (a - 0x08000000) / 4096

/-- R485: writes counted on a page. -/
def State.pageCount (s : State) (p : Nat) : Nat := mapGet (fun _ => 0) s.mramc.pages p

/-- R485: the most-written page with its count. -/
def State.mostWritten (s : State) : Nat × Nat :=
  s.mramc.pages.foldl (fun b x => if b.2 < x.2 then x else b) (0, 0)

/-- R485: the least-written page with its count; a page that was never written has none. -/
def State.leastWritten (s : State) : Nat × Nat :=
  match (List.range (s.mramc.pages.length + 1)).find? (fun p => p < 4096 && s.pageCount p == 0) with
  | some p => (p, 0)
  | none => s.mramc.pages.foldl (fun b x => if x.2 < b.2 then x else b) (s.mramc.pages.headD (0, 0))

/-- R485, R486: SPREAD and MON_MRAMWEAR follow the counts. -/
def State.wearShow (s : State) : State :=
  let hi := s.mostWritten.2
  (s.put Fd.MRAMC_SPREAD_WRITES (min (2 ^ 21 - 1) (hi - s.leastWritten.2))).put Fd.MON_MRAMWEAR_PPM
    (min (2 ^ 20 - 1) (hi * 10 ^ 6 / (512 * 10 ^ 10)))

/-- R486: MRAMC accepts a write to an address: it is counted, and BUSY until it is durable. -/
def State.mramAccept (s : State) (a : Nat) : State :=
  let p := mramPage a
  let s := s.mramM fun m => { m with pages := mapSet (fun _ => 0) m.pages p (mapGet (fun _ => 0) m.pages p + 1) }
  let s := s.setStamp Reg.MRAMC_WRITES_LO (enc 64 (s.stamp Reg.MRAMC_WRITES_LO + 1))
  let s := s.put Fd.MRAMC_STATUS_DEPTH (s.get Fd.MRAMC_STATUS_DEPTH + 1)
  (s.put Fd.MRAMC_STATUS_BUSY 1).wearShow

/-- R21, R485: a write to the MRAM from a master or a block: later reads see it; one to a page being moved is accepted at
the end of the move. -/
def State.mramWrite (s : State) (a n v : Nat) : State :=
  let s := s.memWr a n v
  match s.mramc.moving with
  | some (p, q) =>
    if mramPage a = p ∨ mramPage a = q then s.mramM fun m => { m with stalled := m.stalled ++ [a] } else s.mramAccept a
  | none => s.mramAccept a

/-- A list of doublewords written from `a` on. -/
def State.mramWrites (s : State) (a : Nat) : List Nat → State
  | [] => s
  | v :: t => (s.mramWrite a 8 v).mramWrites (a + 8) t

/-- R486: an accepted write becomes durable; BUSY falls once every earlier write is durable and no page moves. -/
def State.mramDurable (s : State) : State :=
  let d := s.get Fd.MRAMC_STATUS_DEPTH
  if d = 0 then s
  else
    let s := s.put Fd.MRAMC_STATUS_DEPTH (d - 1)
    if d = 1 ∧ s.mramc.moving.isNone then s.put Fd.MRAMC_STATUS_BUSY 0 else s

/-- Every accepted write becomes durable. -/
def State.mramFlush (s : State) : State :=
  let s := s.put Fd.MRAMC_STATUS_DEPTH 0
  if s.mramc.moving.isNone then s.put Fd.MRAMC_STATUS_BUSY 0 else s

/-- R485: a page whose count exceeds that of the least-written page by 2^20 starts to exchange with it; none does after
the power-fail warning (R486) or while the system PLL is unlocked (R487). -/
def State.wearMove (s : State) : State :=
  let hi := s.mostWritten
  let lo := s.leastWritten
  if s.mramc.moving.isNone && !s.pmu.warned && s.on Fd.PLL_STATUS_SYSLOCK && decide (lo.2 + 2 ^ 20 ≤ hi.2) then
    (((s.put Fd.MRAMC_STATUS_MOVING 1).put Fd.MRAMC_STATUS_BUSY 1).put Fd.MRAMC_MOVEPAGE_PAGE hi.1).mramM fun m =>
      { m with moving := some (hi.1, lo.1) }
  else s

/-- R485: the move ends: the two pages have exchanged their places and the writes that waited resume in order. -/
def State.wearMoveEnd (s : State) : State :=
  match s.mramc.moving with
  | none => s
  | some (p, q) =>
    let cp := s.pageCount p
    let cq := s.pageCount q
    let waiting := s.mramc.stalled
    let s := s.mramM fun m =>
      { m with moving := none, stalled := []
               pages := mapSet (fun _ => 0) (mapSet (fun _ => 0) m.pages p cq) q cp }
    let s := (s.inc32 Reg.MON_MRAMWL).put Fd.MRAMC_STATUS_MOVING 0
    let s := if s.get Fd.MRAMC_STATUS_DEPTH = 0 then s.put Fd.MRAMC_STATUS_BUSY 0 else s
    (waiting.foldl State.mramAccept s).wearShow

/-- R486. -/
def execMramWriteDurable (s : State) : Result := .next s.mramDurable
/-- R485. -/
def execWearLevelMove (s : State) : Result := .next s.wearMove
/-- R485. -/
def execWearLevelMoveEnd (s : State) : Result := .next s.wearMoveEnd

end Sys2Proof.Machine
end

