-- ==== Sys2Proof/Machine/Tags.lean ====
section
/-! DEFINITION. The crossbar's tags (R21): rows, caps and reserved tags, and the block port's writes, which wait for one. -/
namespace Sys2Proof.Machine

/-- Replaces a link's hidden state. -/
def State.portM (s : State) (l : Fin 4) (f : LinkPort → LinkPort) : State :=
  { s with link := { s.link with ports := s.link.ports.upd l f } }

/-- A link's hidden state. -/
def State.port (s : State) (l : Fin 4) : LinkPort := s.link.ports[l]

/-- R21: the master of a transaction, by its row of the cap table. -/
def masterRow : Master → Nat
  | .steward n => n.val
  | .reckoner n => 2 + n.val
  | .dma _ => 6
  | .link l _ => 7 + l.val
  | .eth => 11
  | .host => 12
  | .debug => 13
  | .block => 14
  | .scrub => 15

/-- R21: the cap on the transactions in flight of a row; block writes and the scrub's reads share the block port's three. -/
def rowCap (row : Nat) : Nat :=
  if row < 2 then 16 else if row < 6 then 2 else if row = 6 then 16 else if row < 11 then 8 else if row < 13 then 4
  else if row < 15 then 2 else 1

/-- R21: a row with reserved tags: the reckoners' and the block writes'. -/
def rowReserved (row : Nat) : Bool := (2 ≤ row && row < 6) || row == 14

/-- R21: the tags a row may take: from, and how many. -/
def rowTags (row : Nat) : Nat × Nat :=
  if 2 ≤ row ∧ row < 6 then (2 * (row - 2), 2) else if row = 14 then (8, 2) else (10, 54)

/-- The row of a remote access; none: its transaction holds a tag of the table. -/
def Requester.row : Requester → Option Nat
  | .tag _ => none
  | .core c => some (if c.val < 4 then 2 + c.val else c.val - 4)
  | .dma _ => some 6
  | .host | .hostRead => some 12
  | .debug => some 13

/-- R21: a remote access holds a tag from its issue to its response. -/
def RemoteStage.inFlight : RemoteStage → Bool
  | .queued | .sent _ => true
  | .stalled | .done _ _ => false

/-- Replaces the crossbar. -/
def State.xbarM (s : State) (f : Xbar → Xbar) : State := { s with xbar := f s.xbar }

/-- R21: the transactions in flight whose row satisfies `q`: those of the tag table, and remote accesses. -/
def State.tagsHeld (s : State) (q : Nat → Bool) : Nat :=
  s.xbar.tags.toList.countP (fun t => match t with | some t => q (masterRow t.m) | none => false) +
    ((List.finRange 4).map fun l => (s.port l).ops.countP fun o => o.stage.inFlight && o.who.row.any q).sum

/-- R21: a row is below its cap, and a tag that it may take is free. -/
def State.tagFree (s : State) (row : Nat) : Bool :=
  s.tagsHeld (· == row) < rowCap row && (rowReserved row || s.tagsHeld (fun r => !rowReserved r) < 54)

/-! ### The block port (R21) -/

/-- A block write lands: in MRAM or in other memory. -/
def State.blockLand (s : State) (a n v : Nat) : State :=
  if 0x08000000 ≤ a ∧ a < 0x09000000 then s.mramWrite a n v else s.memWr a n v

/-- R21: a block write: it waits behind those that stall, or for one of the two reserved tags. -/
def State.blockWrite (s : State) (a n v : Nat) : State :=
  if s.xbar.blocked.isEmpty && s.tagFree 14 then s.blockLand a n v
  else s.xbarM fun x => { x with blocked := x.blocked ++ [(a, n, v)] }

/-- R21: words of `n` bytes written from `a` on by the block port. -/
def State.blockWrites (s : State) (a n : Nat) : List Nat → State
  | [] => s
  | v :: t => (s.blockWrite a n v).blockWrites (a + n) n t

/-- R21: the block writes that stall land in order once a tag is free. -/
def State.blockDrain (s : State) : State :=
  if s.tagFree 14 then
    let l := s.xbar.blocked
    l.foldl (fun s e => s.blockLand e.1 e.2.1 e.2.2) (s.xbarM fun x => { x with blocked := [] })
  else s

/-- R21: no block write stalls. -/
def State.blockIdle (s : State) : Bool := s.xbar.blocked.isEmpty

/-- R21: a block write would be taken at once. -/
def State.blockFree (s : State) : Bool := s.blockIdle && s.tagFree 14

end Sys2Proof.Machine
end

