-- ==== Sys2Proof/Machine/Timebase.lean ====
section
/-! DEFINITION. TBL: the count and its addend, rods, the launch queue, the launch matrix with its targets, trigger pins
(R35–R61), and the passage of time that every timed event goes through. -/
namespace Sys2Proof.Machine

/-- Replaces TBL's hidden state. -/
def State.tblM (s : State) (f : Tbl → Tbl) : State := { s with tbl := f s.tbl }

/-! ### The passage of time -/

/-- R36: the limit of the addend fraction, ±1,000 ppm, in 2^-32 tbu per cycle. -/
def addLimit : Int := 0x0A3D70A4

/-- R36: the clamp of a written addend fraction. -/
def clampFrac (v : Int) : Int := max (-addLimit) (min addLimit v)

/-- R58, R67, R75: the PWM clock runs while the sync PLL holds lock, until PMU gates the clocks. -/
def State.pwmClk (s : State) : Bool := s.on Fd.PLL_STATUS_SYNCLOCK && !s.pmu.clocksOff

/-- R35: what one PWM cycle adds to the count, in 2^-32 tbu. -/
def State.addend (s : State) : Int := 40 * 2 ^ 32 + s.getS Fd.TBL_ADDFRAC_FRAC

/-- R41: what `k` cycles of slewing add, in 2^-32 tbu. -/
def slewOver (rem : Int) (k : Nat) : Int := max (-(addLimit * k)) (min (addLimit * k) rem)

/-- The count and its hidden fraction as one number. -/
def Tbl.full (t : Tbl) : Int := (t.count : Int) * 2 ^ 32 + t.frac

/-- R90: how far back a stamp can lie, 4 ms: older changes of the count's rate are forgotten. -/
def knotSpan : Nat := 4 * tMs

/-- Records changes of the count's rate, the newest first. -/
def Tbl.knotted (t : Tbl) (now : Nat) (ks : List Knot) : Tbl := { t with knots := (ks ++ t.knots).takeWhile fun k => now < k.time + knotSpan }

/-- R41: the changes of the count's rate over `k` cycles from now on: while it slews, whole cycles at the limit, and one with
the rest. -/
def State.slewKnots (s : State) (k : Nat) : List Knot :=
  let r := s.tbl.slew
  if r = 0 ∨ k = 0 then []
  else
    let m := min k (r.natAbs / addLimit.toNat)
    let fast := s.addend + (if r < 0 then -addLimit else addLimit)
    let last := s.addend + (r - (fast - s.addend) * m)
    let mid := s.tbl.full + fast * m
    (if m < k then [⟨s.now + 40 * (m + 1), mid + last, last⟩] else []) ++ [⟨s.now + 40 * m, mid, fast⟩, ⟨s.now, s.tbl.full, s.addend⟩]

/-- R35, R41: the count after `k` PWM cycles. What a follower has still to slew it slews whatever ROLE holds by then: the spec
is silent (DESIGN CHOICE, log entry 11). -/
def State.advanceCount (s : State) (k : Nat) : State :=
  let sl := slewOver s.tbl.slew k
  let full := s.tbl.full + s.addend * k + sl
  let lastCycle := s.addend + (sl - slewOver s.tbl.slew (k - 1))
  let ks := s.slewKnots k
  s.tblM fun t =>
    { t.knotted s.now ks with
      count := enc 64 (full / 2 ^ 32)
      frac := (full % 2 ^ 32).toNat
      prev := if k = 0 then t.prev else enc 64 ((full - lastCycle) / 2 ^ 32)
      slew := t.slew - sl
      pulse := t.pulse.map fun p => p.map (· - k) }

/-- R35, R189, R208: a running carrier's counter follows the count's advance unless PWM is frozen. -/
def State.advanceCarriers (s : State) (d : Nat) : State :=
  if s.pwm.frozen then s
  else { s with pwm := { s.pwm with carriers := s.pwm.carriers.map fun c => if c.run then { c with tau := c.tau + d, abs := c.abs + d } else c } }

/-- R58: the count stands from `a` to `b`. -/
def Tbl.stood (t : Tbl) (a b : Nat) (rate : Int) : Tbl :=
  if b ≤ a then t
  else
    match t.knots with
    | k :: ks => if k.time = a ∧ k.rate = 0 then { t with knots := { k with time := b } :: ks } else t.knotted a [⟨b, t.full, 0⟩, ⟨a, t.full, rate⟩]
    | [] => t.knotted a [⟨b, t.full, 0⟩, ⟨a, t.full, rate⟩]

/-- `k` PWM cycles (2.5 ns each) pass: physical time always, the count, the carriers and the pulse widths while the
PWM clock runs. -/
def State.advance (s : State) (k : Nat) : State :=
  let later := s.now + 40 * k
  if s.pwmClk then
    let s2 := { s.advanceCount k with now := later }
    s2.advanceCarriers (enc 64 ((s2.tbl.count : Int) - s.tbl.count))
  else { s with now := later, tbl := s.tbl.stood s.now later s.addend }

/-- An event that falls due at physical time `t` occurs: time has reached `t`. -/
def State.reachNow (s : State) (t : Nat) : State := s.advance ((t - s.now + 39) / 40)

/-- The quotient of two integers, rounded up, from 0 on. -/
def ceilDiv (x d : Int) : Nat := ((x + d - 1) / d).toNat

/-- R35, R41: the least number of PWM cycles after which the count has reached `t`: a slew adds to the addend, or takes
from it, by its limit until it is used up. -/
def State.cyclesTo (s : State) (t : Nat) : Nat :=
  let need := (t : Int) * 2 ^ 32 - s.tbl.full
  let r := s.tbl.slew
  if need ≤ 0 then 0
  else if 0 ≤ r then max (ceilDiv need (s.addend + addLimit)) (ceilDiv (need - r) s.addend)
  else min (ceilDiv need (s.addend - addLimit)) (ceilDiv (need - r) s.addend)

/-- An event that falls due at count `t` occurs: the count has reached `t` (R38 compares unsigned). -/
def State.reachCount (s : State) (t : Nat) : State := s.advance (s.cyclesTo t)

/-- Whether the count can have reached `t`: it has, or the clock that advances it runs. -/
def State.canReach (s : State) (t : Nat) : Bool := t ≤ s.tbl.count || s.pwmClk

/-- R81, R105: the MCLK of a group runs, until PMU gates the clocks (R75). -/
def State.mclkOn (s : State) (g : Nat) : Bool := s.on (Fd.PLL_MCLKDIV_ACTEN g) && !s.pmu.clocksOff

/-- R83: the MCLK period of a group in tbu, at the divider in use. -/
def State.mclkT (s : State) (g : Nat) : Nat := 5 * s.get (Fd.PLL_MCLKDIV_ACTDIV g)

/-- R67, R75: the clocks of the system PLL, those of RK and ETH, run. -/
def State.sysPllClk (s : State) : Bool := s.on Fd.PLL_STATUS_SYSLOCK && !s.pmu.clocksOff

/-- R67, R343, R365: a steward's cycle: 1.25 ns, or 40 ns on REFCLK. -/
def State.stCycleT (s : State) : Nat := if s.on Fd.PLL_STATUS_SYSLOCK then 20 else 640

/-- R67: a SYS cycle in tbu: 2.5 ns, or 40 ns on REFCLK. -/
def State.sysT (s : State) : Nat := if s.on Fd.PLL_STATUS_SYSLOCK then 40 else 640

/-- R156: the stewards' core cycles, to be counted at another cycle time from now on. -/
def State.stCyclesSettle (s : State) : State :=
  { s with stCycles := s.stCycles + (s.now - s.stCyclesAt) / s.stCycleT, stCyclesAt := s.now }

/-- The next RK cycle (2 ns) at or after a time. -/
def rkUp (t : Nat) : Nat := (t + 31) / 32 * 32

/-! ### Register writes that cross into a clock domain (R77) -/

/-- R77: a register write whose operation `f` is performed in the PWM domain: it lands two PWM cycles on, the least of the
2–3 (log entry 49); while the clock stands it waits in its crossing, and reads show it (`State.parkedView`). -/
def State.landPwm (s : State) (a : Nat) (v : Word) (f : State → State) : State :=
  if s.pwmClk then f (if s.landing then s else s.advance 2)
  else { s with parked := s.parked ++ [(a, v)] }

/-- R77: the same for the RK domain: `f` is performed at the second RK cycle on, the least of the 2–3. -/
def State.landRk (s : State) (a : Nat) (v : Word) (f : State → Nat → State) : State :=
  if s.sysPllClk then
    let t := rkUp s.now + (if s.landing then 0 else 64)
    f (s.reachNow t) t
  else { s with parked := s.parked ++ [(a, v)] }

/-- R77: the same for a domain whose clock runs or stands, without a delay: the operation itself reckons it. -/
def State.landWhen (s : State) (runs : Bool) (a : Nat) (v : Word) (f : State → State) : State :=
  if runs then f s else { s with parked := s.parked ++ [(a, v)] }

/-- R77: what a read of a register shows whose word would be `w`: the writes that wait in their crossings read back at
once. -/
def State.parkedView (s : State) (a w : Nat) : Nat :=
  match regRow a with
  | some r => (s.parked.filter fun e => e.1 == a).foldl (fun w e => r.written w e.2.toNat 0) w
  | none => w

/-! ### Launches -/

/-- R58, R363: a core selected in SYSCFG_DBGSEL (bits 0–3 the reckoners, bits 4–5 the stewards) is halted. -/
def State.selHalted (s : State) : Bool :=
  let sel := s.get Fd.SYSCFG_DBGSEL_SEL
  (List.finRange 4).any (fun (i : Fin 4) => sel.testBit i.val && s.cpu[i.val].halted) ||
  (List.finRange 2).any (fun (i : Fin 2) => sel.testBit (4 + i.val) && s.cpu[4 + i.val].halted)

/-- R58: launches are suppressed. -/
def State.suppressed (s : State) : Bool :=
  (s.on Fd.TBL_CTRL_DBGSTOP && s.selHalted) || s.pmu.warned || s.on Fd.TBL_STATUS_HOLD

/-- R53: adds a launch; one to the same target in the same cycle merges, is counted, and takes the earlier exact
time. -/
def addLaunch (l : Launch) : List Launch → List Launch × Bool
  | [] => ([l], false)
  | m :: t =>
    if m.target = l.target ∧ m.cycle = l.cycle then ({ m with exact := min m.exact l.exact } :: t, true)
    else let r := addLaunch l t; (m :: r.1, r.2)

/-- R52, R53, R58: target `t` is launched, with its action reckoned from `exact`. -/
def State.launch (s : State) (t exact : Nat) : State :=
  if s.suppressed then s.sat16 Reg.TBL_SUPPRCNT
  else
    let r := addLaunch ⟨t, exact, s.tbl.count, s.now⟩ s.tbl.inflight
    let s := s.tblM fun b => { b with inflight := r.1 }
    if r.2 then s.sat16 Reg.TBL_MERGECNT else s

/-- R52: target `t` is enabled and selects source `src`. -/
def State.selects (s : State) (t src : Nat) : Bool := s.on (Fd.TBL_TGTSEL_EN t) && s.get (Fd.TBL_TGTSEL_SRC t) == src

/-- R50: forwarder `c` of link `l` sends source `src`; the sources 24–55 are never forwarded again. -/
def State.forwards (s : State) (l c src : Nat) : Bool :=
  !(24 ≤ src && src ≤ 55) && s.on (Fd.TBL_FWD_EN l c) && s.get (Fd.TBL_FWD_SRC l c) == src

/-- R50, R51: sends a forwarded event carrying the low 32 bits of its exact time, if its link is up. -/
def State.forward (s : State) (l : Fin 4) (c exact : Nat) : State :=
  if s.get (Fd.LINK_L_STATUS_STATE l) = 2 then
    { s with link := { s.link with ports := s.link.ports.upd l fun p =>
        { p with evOut := p.evOut ++ [(c, exact % 2 ^ 32)] } } }
  else s

/-- R49–R52: source `src` fires with exact time `exact`: it is routed to every enabled target that selects it and to
every forwarder that selects it. -/
def State.fire (s : State) (src exact : Nat) : State :=
  let s := (List.range 112).foldl (fun s (t : Nat) => if s.selects t src then s.launch t exact else s) s
  (List.finRange 4).foldl (fun s (l : Fin 4) =>
    (List.range 8).foldl (fun s (c : Nat) => if s.forwards l.val c src then s.forward l c exact else s) s) s

/-- R49: a source without an exact time fires with residue 0 at the current count. -/
def State.fireNow (s : State) (src : Nat) : State := s.fire src s.tbl.count

/-- R49, R77: a source of another domain fires two PWM cycles after its event, the least of the 2–3. -/
def State.fireLater (s : State) (src : Nat) : State := (s.advance 2).fireNow src

/-- R54: the least time from the match to the action of a target, in tbu: 5 ns and the crossing, or three PWM cycles for
a load-all; a fine target waits for its exact time itself. The table gives the SYS targets at 400 MHz; on REFCLK the crossing
takes two SYS cycles of 40 ns (R77: DEDUCED, log entry 10). -/
def State.launchDelay (s : State) (t : Nat) : Nat :=
  if t < 8 then 0
  else if t < 16 then 120
  else if t < 48 then 208
  else if t < 55 then 80 + 2 * s.mclkT (t - 48)
  else if t < 94 then 80 + 2 * s.sysT
  else if t < 96 then 336
  else if t < 100 then
    let rate := s.get (Fd.LINK_L_CTRL_RATE (t - 96))
    80 + (if rate = 0 then 410 else if rate = 1 then 205 else 103)
  else if t < 108 then 0
  else 80 + 2 * s.sysT

/-- R54, R77: the clock of a target's domain runs; while it stands a launch waits in its crossing. A capture strobe to a
group whose MCLK stands is lost, so that it does not wait (R92). -/
def State.launchRuns (s : State) (t : Nat) : Bool :=
  if t < 16 ∨ (96 ≤ t ∧ t < 108) then s.pwmClk
  else if t < 48 ∨ t = 94 ∨ t = 95 then s.sysPllClk
  else !s.pmu.clocksOff

/-- The first launch in flight to target `t`. -/
def State.launchOf (s : State) (t : Nat) : Option Launch := s.tbl.inflight.find? (fun l => l.target == t)

/-- R54: the action of a launch in flight to target `t` starts, its delay after the match: the launch is taken and `f`
acts; without one, or while the target's clock stands, nothing happens. -/
def State.takeLaunch (s : State) (t : Nat) (f : State → Launch → State) : State :=
  match s.launchOf t with
  | none => s
  | some l =>
    if s.launchRuns t then
      let s := s.reachNow (l.matched + s.launchDelay t)
      f (s.tblM fun b => { b with inflight := b.inflight.erase l }) l
    else s

/-! ### The addend, steps and reads (R36–R39) -/

/-- ROLE = 0b10. -/
def State.follower (s : State) : Bool := s.get Fd.TBL_CTRL_ROLE == 2

/-- R36, R41: the addend fraction changes. -/
def State.addfracSet (s : State) (w : Word) : State := (s.tblM fun t => t.knotted s.now [⟨s.now, t.full, s.addend⟩]).wr Reg.TBL_ADDFRAC w

/-- R36, R41: a write of TBL_ADDFRAC; the clamped value reads back at once. -/
def State.addfracWrite (s : State) (v : Word) : State :=
  if s.follower then s
  else
    let w := BitVec.ofNat 32 (enc 32 (clampFrac v.toInt))
    s.landPwm Reg.TBL_ADDFRAC w fun s => s.addfracSet w

/-- R37, R43: how many firings of a rod at `next`, every `per`, lie strictly below `lim`. -/
def skipsBelow (next per lim : Nat) : Nat := if lim ≤ next then 0 else (lim - next + per - 1) / per

/-- R43: a rod's repeat count is spent: it disarms, and RODEND is set if its IRQ is 1. -/
def State.rodEnd (s : State) (n : Fin 16) : State :=
  ((s.put (Fd.TBL_ROD_CTRL_ARM n) 0).put (Fd.TBL_ROD_STATE_ACTIVE n) 0).raiseIf (s.on (Fd.TBL_ROD_CTRL_IRQ n)) Ev.TBL_STATUS_RODEND

/-- R43: a firing or a skipped firing consumes `k` repeats; a rod whose COUNT is 0 has no end. -/
def State.rodConsume (s : State) (n : Fin 16) (k : Nat) : State :=
  if s.get (Fd.TBL_ROD_COUNT_COUNT n) = 0 then s
  else
    let r := s.get (Fd.TBL_ROD_STATE_REMAIN n) - k
    let s := s.put (Fd.TBL_ROD_STATE_REMAIN n) r
    if r = 0 then s.rodEnd n else s

/-- R37, R44: the firings of a rod that lie below `lim` are skipped: each consumes one repeat, is counted, and is a
setting event of RODSKIP. -/
def State.rodSkip (s : State) (n : Fin 16) (lim : Nat) : State :=
  let r := s.tbl.rods[n]
  let all := skipsBelow r.next r.per lim
  let k := if s.get (Fd.TBL_ROD_COUNT_COUNT n) = 0 then all else min all (s.get (Fd.TBL_ROD_STATE_REMAIN n))
  if k = 0 then s
  else
    let s := s.tblM fun t => { t with rods := t.rods.set n { r with next := r.next + k * r.per } }
    ((s.sat16By (Reg.TBL_ROD_SKIPCNT n) k).raiseN Ev.TBL_STATUS_RODSKIP k).rodConsume n k

/-- R278: PROBE numbers its chips by the count: after a step into another chip the chip entered has its boundary behind it, with
no step accepted, and its period is the one in progress. -/
def State.probeRegrid (s : State) : State :=
  let k := s.tbl.count / max 1 (s.rdN Reg.PROBE_CHIPLEN)
  if k = s.probe.boundary ∨ k = s.probe.boundary + 1 then s
  else
    { s with
      probe := { s.probe with
        boundary := k - 1, period := k / 64, tested := true, missAt := s.now + 200 * tUs
        chips := s.probe.chips.filter fun c => 64 * (k / 64) ≤ c.boundary } }

/-- R37: adds a signed step to the count in the next PWM cycle, and skips what it steps over; every queue entry that a
forward step makes due fires late. -/
def State.stepCount (s : State) (d : Int) : State :=
  let c0 := s.tbl.count
  let s := s.advance 1
  let c1 := enc 64 ((s.tbl.count : Int) + d)
  let s := s.tblM fun t => { t.knotted s.now [⟨s.now, t.full, s.addend⟩] with count := c1, prev := if d < 0 then enc 64 ((c1 : Int) - 40) else t.prev }
  let s := s.probeRegrid
  if 0 < d then
    let s := s.tblM fun t =>
      { t with queue := t.queue.map fun q => q.map fun e => { e with late := e.late || e.time ≤ c1 } }
    (List.finRange 16).foldl (fun s (n : Fin 16) =>
      if s.on (Fd.TBL_ROD_STATE_ACTIVE n) && c0 < s.tbl.rods[n].next then s.rodSkip n (c1 - 40) else s) s
  else s

/-- R37, R77: a step of the count; while the PWM clock stands it waits in its crossing, in its place among the writes that
wait. -/
def State.stepBy (s : State) (d : Int) : State :=
  if s.pwmClk then s.stepCount d
  else { s.tblM fun t => { t with stepWait := t.stepWait ++ [d] } with parked := s.parked ++ [(Reg.TBL_STEPCMD, 1)] }

/-- R77: the oldest step that waited is applied. -/
def State.stepLand (s : State) : State :=
  match s.tbl.stepWait with
  | d :: ds => (s.tblM fun t => { t with stepWait := ds }).stepBy d
  | [] => s

/-- R37, R41: a write of TBL_STEPCMD.APPLY; ignored on a follower; it waits while the PWM clock is stopped (R77). -/
def State.stepApply (s : State) : State :=
  if s.follower then s
  else s.stepBy (sx 64 (s.rdN Reg.TBL_STEP_LO + 2 ^ 32 * s.rdN Reg.TBL_STEP_HI))

/-- R39: a read of TBL_NOW_LO returns the low word of the count and latches the high word. -/
def State.nowLoRead (s : State) : State :=
  (s.wrN Reg.TBL_NOW_HI (s.tbl.count / 2 ^ 32)).answer s.tbl.count

/-! ### Rods (R43, R44) -/

/-- The period of a rod's registers. -/
def State.rodPer (s : State) (n : Fin 16) : Nat :=
  s.rdN (Reg.TBL_ROD_PER_LO n) + 2 ^ 32 * s.get (Fd.TBL_ROD_PER_HI_PER n)

/-- R43, R44: arming takes effect with the START, PER and COUNT then in the registers; a period below 80 tbu is refused,
and a start below the count of this PWM cycle is past. A write of ARM = 1 to a rod that is armed changes its IRQ alone, and
does not start it again: the spec is silent (DESIGN CHOICE, log entry 11). REMAIN of a rod without end shows 0: the spec
gives no value (DESIGN CHOICE, log entry 11). -/
def State.rodArmed (s : State) (n : Fin 16) (irq : Bool) : State :=
  let s := s.putB (Fd.TBL_ROD_CTRL_IRQ n) irq
  if s.on (Fd.TBL_ROD_STATE_ACTIVE n) then s
  else if s.rodPer n < 80 then (s.put (Fd.TBL_ROD_CTRL_ARM n) 0).put (Fd.TBL_ROD_STATE_BADPER n) 1
  else
    let start := s.rdN (Reg.TBL_ROD_START_LO n) + 2 ^ 32 * s.rdN (Reg.TBL_ROD_START_HI n)
    let s := ((s.put (Fd.TBL_ROD_CTRL_ARM n) 1).put (Fd.TBL_ROD_STATE_BADPER n) 0).put (Fd.TBL_ROD_STATE_ACTIVE n) 1
    let s := s.put (Fd.TBL_ROD_STATE_REMAIN n) (s.get (Fd.TBL_ROD_COUNT_COUNT n))
    let s := s.tblM fun t => { t with rods := t.rods.set n ⟨start, s.rodPer n⟩ }
    s.rodSkip n s.tbl.count

/-- R43, R44: a write of ARM = 1 arms a rod where it lands. -/
def State.rodArm (s : State) (n : Fin 16) (irq : Bool) : State :=
  s.landPwm (Reg.TBL_ROD_CTRL n) (BitVec.ofNat 32 (1 + 2 * irq.toNat)) fun s => s.rodArmed n irq

/-- R43, R49: a rod fires source n with its firing time as exact time, and consumes one repeat. -/
def State.rodFire (s : State) (n : Fin 16) : State :=
  let r := s.tbl.rods[n]
  let s := s.fire n.val r.next
  let s := s.tblM fun t => { t with rods := t.rods.set n { r with next := r.next + r.per } }
  s.rodConsume n 1

/-- R44: a rod is disarmed; a firing due in the same PWM cycle takes place first. -/
def State.rodDisarm (s : State) (n : Fin 16) : State :=
  let s := if s.on (Fd.TBL_ROD_STATE_ACTIVE n) && decide (s.tbl.rods[n].next ≤ s.tbl.count) then s.rodFire n else s
  (s.put (Fd.TBL_ROD_CTRL_ARM n) 0).put (Fd.TBL_ROD_STATE_ACTIVE n) 0

/-- A write of TBL_RODn_CTRL. -/
def State.rodCtrlWrite (s : State) (n : Fin 16) (v : Word) : State :=
  if v.getLsbD 0 then s.rodArm n (v.getLsbD 1)
  else s.landPwm (Reg.TBL_ROD_CTRL n) v fun s => (s.putB (Fd.TBL_ROD_CTRL_IRQ n) (v.getLsbD 1)).rodDisarm n

/-- R44: the write of PER_HI commits the period pair of an armed rod, where it lands, for the intervals after the next
firing. -/
def State.rodPeriodCommit (s : State) (n : Fin 16) (hi : BitVec 8) : State :=
  s.landPwm (Reg.TBL_ROD_PER_HI n) (hi.setWidth 32) fun s =>
    let s := s.put (Fd.TBL_ROD_PER_HI_PER n) hi.toNat
    if !s.on (Fd.TBL_ROD_STATE_ACTIVE n) then s
    else if s.rodPer n < 80 then s.put (Fd.TBL_ROD_STATE_BADPER n) 1
    else
      (s.put (Fd.TBL_ROD_STATE_BADPER n) 0).tblM fun t =>
        { t with rods := t.rods.set n { t.rods[n] with per := s.rodPer n } }

/-- R43, R49: a rod reaches its firing time in the PWM domain and fires. -/
def State.rodFiring (s : State) (n : Fin 16) : State :=
  if s.on (Fd.TBL_ROD_STATE_ACTIVE n) && s.pwmClk then (s.reachCount s.tbl.rods[n].next).rodFire n else s

/-! ### The launch queue (R45–R48) -/

/-- The number of armed entries. -/
def Tbl.level (t : Tbl) : Nat := t.queue.toList.countP Option.isSome

/-- TBL_QSTATUS.LEVEL and TBL_STATUS.QFULL show the queue. -/
def State.queueShow (s : State) : State :=
  (s.put Fd.TBL_QSTATUS_LEVEL s.tbl.level).putB Fd.TBL_STATUS_QFULL (s.tbl.level == 48)

/-- The lowest handle that holds no armed entry. -/
def Tbl.freeHandle (t : Tbl) : Option (Fin 48) := (List.finRange 48).find? fun (h : Fin 48) => t.queue[h].isNone

/-- R45: a read of TBL_QPUSH. A target number above 111 answers 0xFE and sets no flag also when the queue is full: the rule
gives both answers for that case (DESIGN CHOICE, log entry 11). -/
def State.queuePush (s : State) : State :=
  let tgt := s.get Fd.TBL_QTARGET_TARGET
  let time := s.rdN Reg.TBL_QTIME_LO + 2 ^ 32 * s.rdN Reg.TBL_QTIME_HI
  if 111 < tgt then s.answer 0xFE
  else
    match s.tbl.freeHandle with
    | none => (s.raise Ev.TBL_STATUS_QREF).answer 0xFF
    | some h =>
      let s := s.tblM fun t => { t with queue := t.queue.set h (some ⟨time, tgt, decide (time < s.tbl.count)⟩) }
      s.queueShow.answer h.val

/-- R47: the armed entry that fires first: the earliest time, then the lowest handle. -/
def Tbl.firstEntry (t : Tbl) : Option (Fin 48 × QEntry) :=
  (List.finRange 48).foldl (fun best (h : Fin 48) =>
    match t.queue[h], best with
    | none, b => b
    | some e, none => some (h, e)
    | some e, some (g, b) => if e.time < b.time then some (h, e) else some (g, b)) none

/-- R47: how many entries have fired in the present PWM cycle. -/
def Tbl.firedNow (t : Tbl) : Nat := if t.qcycle = t.count then t.qfired else 0

/-- R47: an entry fires its target; one that fires in a later cycle than its time sets QLATE. The exact time of a late
launch, of a fifth in its cycle or one pushed with a time already past too, is the present count: the spec gives none
(DESIGN CHOICE, log entry 11). -/
def State.queueFire (s : State) (h : Fin 48) (e : QEntry) : State :=
  let late := e.late || e.time ≤ s.tbl.prev
  let s := s.tblM fun t => { t with queue := t.queue.set h none, qfired := t.firedNow + 1, qcycle := t.count }
  let s := (s.raiseIf late Ev.TBL_STATUS_QLATE).queueShow
  s.launch e.target (if late then s.tbl.count else e.time)

/-- R47: the next due entry fires its target; a fifth in one PWM cycle waits for the next cycle. -/
def State.queueEntryFire (s : State) : State :=
  match s.tbl.firstEntry with
  | none => s
  | some (h, e) =>
    if s.pwmClk then
      let s := s.reachCount e.time
      (if 4 ≤ s.tbl.firedNow then s.advance 1 else s).queueFire h e
    else s

/-- R47: how many armed entries fire before the entry of handle `h`. -/
def Tbl.aheadOf (t : Tbl) (h : Fin 48) (e : QEntry) : Nat :=
  (List.finRange 48).countP fun (g : Fin 48) =>
    match t.queue[g] with
    | some b => b.time < e.time || (b.time == e.time && g.val < h.val)
    | none => false

/-- R47, R48: an armed entry fires in the present PWM cycle: it is due, and at most three fire before it in the cycle. -/
def Tbl.firesNow (t : Tbl) (h : Fin 48) (e : QEntry) : Bool := e.time ≤ t.count && t.firedNow + t.aheadOf h e < 4

/-- R48: a cancel reaches the queue: the entry is removed, or, if it fires in the same cycle, the firing stands and CANMISS
is set, as for a handle that holds no entry. -/
def State.queueCancelled (s : State) (h : Fin 48) : State :=
  match s.tbl.queue[h] with
  | none => s.raise Ev.TBL_QSTATUS_CANMISS
  | some e =>
    if s.tbl.firesNow h e then (s.queueFire h e).raise Ev.TBL_QSTATUS_CANMISS
    else (s.tblM fun t => { t with queue := t.queue.set h none }).queueShow

/-- R48: a write of TBL_QCANCEL; a value 48–63 has no effect. -/
def State.queueCancel (s : State) (h : Nat) : State :=
  if hh : h < 48 then
    s.landPwm Reg.TBL_QCANCEL (BitVec.ofNat 32 h) fun s => s.queueCancelled ⟨h, hh⟩
  else s

/-- R48: a write of TBL_QFLUSH.ALL. -/
def State.queueFlush (s : State) : State :=
  s.landPwm Reg.TBL_QFLUSH 1 fun s => (s.tblM fun t => { t with queue := Vector.replicate 48 none }).queueShow

/-! ### Software launches and trigger pins (R49, R55, R56) -/

/-- R49, R172: source 84 + i fires for each bit set. -/
def State.swlFire (s : State) (v : Nat) : State :=
  (List.range 16).foldl (fun s (i : Nat) => if v.testBit i then s.fireNow (84 + i) else s) s

/-- R49: TBL_SWLAUNCH fires source 84 + i for each bit set, 2–3 PWM cycles after the write. -/
def State.softwareLaunch (s : State) (v : Nat) : State :=
  s.landPwm Reg.TBL_SWLAUNCH (BitVec.ofNat 32 v) fun s => s.swlFire v

/-- R55: a pin whose synchronised samples have held a new level for `held` PWM cycles: from FILT cycles on the edge is
accepted; a shorter one is rejected, and without the PWM clock nothing is sampled. -/
def State.trginEdge (s : State) (i : Fin 8) (rising : Bool) (held : Nat) : State :=
  if s.tbl.trgin.getLsbD i.val = rising ∨ held < s.get (Fd.TBL_TRGIN_CFG_FILT i) ∨ !s.pwmClk then s else
  let s := s.tblM fun t => { t with trgin := if rising then t.trgin ||| (1#8 <<< i.val) else t.trgin &&& ~~~(1#8 <<< i.val) }
  let sel := s.get (Fd.TBL_TRGIN_CFG_EDGE i)
  if (if rising then sel.testBit 0 else sel.testBit 1) then
    let at' := enc 64 ((s.tbl.count : Int) - 40 * (s.get (Fd.TBL_TRGIN_CFG_FILT i) + 2))
    let s := s.setStamp (Reg.TBL_TRGIN_STAMP_LO i) at'
    (s.raiseIf (s.on (Fd.TBL_TRGIN_CFG_IRQ i)) Ev.TBL_STATUS_TRGIN).fireNow (16 + i)
  else s

/-- Sets a trigger output's level. -/
def State.trgoutSet (s : State) (j : Fin 8) (b : Bool) : State :=
  s.tblM fun t => { t with trgout := if b then t.trgout ||| (1#8 <<< j.val) else t.trgout &&& ~~~(1#8 <<< j.val) }

/-- R56: the action of target 100 + j, by the pin's MODE. -/
def State.trgoutAct (s : State) (j : Fin 8) : State :=
  let mode := s.get (Fd.TBL_TRGOUT_CFG_MODE j)
  let w := max 1 (s.get (Fd.TBL_TRGOUT_CFG_WIDTH j))
  if mode = 0 then (s.tblM fun t => { t with pulse := t.pulse.set j (some w) }).trgoutSet j true
  else
    let s := s.tblM fun t => { t with pulse := t.pulse.set j none }
    if mode = 1 then s.trgoutSet j (!s.tbl.trgout.getLsbD j)
    else s.trgoutSet j (mode == 2)

/-- R56: a running pulse's width ends and the pin goes low; the width counts only while the PWM clock runs. -/
def State.trgoutPulseEnd (s : State) (j : Fin 8) : State :=
  match s.tbl.pulse[j] with
  | none => s
  | some w =>
    if w = 0 ∨ s.pwmClk then
      let s := s.advance w
      (s.tblM fun t => { t with pulse := t.pulse.set j none }).trgoutSet j false
    else s

/-- R51: the event due first among those scheduled for a source. -/
def firstFwd (src : Nat) (l : List FwdEvent) : Option FwdEvent :=
  l.foldl (fun b e =>
    if e.src = src then
      match b with
      | some d => if e.time < d.time then some e else some d
      | none => some e
    else b) none

/-- R51: the earliest scheduled event of link `l`, channel `c` fires its source. The exact time of one that arrived after its
time and fires at once is the present count: the spec gives none (DESIGN CHOICE, log entry 11). -/
def State.forwardedEventFire (s : State) (l : Fin 4) (c : Fin 8) : State :=
  match firstFwd (24 + 8 * l.val + c.val) s.tbl.fwdIn with
  | none => s
  | some e =>
    if s.pwmClk then
      let s := if e.late then s else s.reachCount e.time
      let s := s.tblM fun t => { t with fwdIn := t.fwdIn.erase e }
      s.fire e.src (if e.late then s.tbl.count else e.time)
    else s

/-- R58: a write of TBL_CTRL.RESUME ends the launch hold while the sync PLL is locked. -/
def State.launchHoldResume (s : State) : State :=
  if s.on Fd.PLL_STATUS_SYNCLOCK then s.put Fd.TBL_STATUS_HOLD 0 else s

/-- R61: a write of TBL_CTRL: ROLE = 0b11 is ignored, RESUME acts. -/
def State.tblCtrlWrite (s : State) (v : Word) : State :=
  let r := cut v.toNat 0 2
  let s := if r = 3 then s else s.put Fd.TBL_CTRL_ROLE r
  let s := (s.putB Fd.TBL_CTRL_DBGSTOP (v.getLsbD 2)).put Fd.TBL_CTRL_LINKSEL (cut v.toNat 4 2)
  if v.getLsbD 3 then s.launchHoldResume else s

/-- R58: sync loss or a commanded sync relock holds the launches and marks the timebase undisciplined. -/
def State.tblHold (s : State) : State := (s.put Fd.TBL_STATUS_HOLD 1).raise Ev.TBL_STATUS_TBINV

/-- R56, R58: the power-fail warning drives every TRGOUT pin low; a launch on its way to such a pin no longer acts. -/
def State.tblWarning (s : State) : State :=
  s.tblM fun t =>
    { t with
      trgout := 0
      pulse := Vector.replicate 8 none
      inflight := t.inflight.filter fun l => l.target < 100 || 108 ≤ l.target }

/-! ### The meanings -/

/-- R36. -/
def execAddfracWrite (v : Word) (s : State) : Result := .next (s.addfracWrite v)
/-- R37. -/
def execStepApply (s : State) : Result := .next s.stepApply
/-- R39. -/
def execNowLoRead (s : State) : Result := .next s.nowLoRead
/-- R43. -/
def execRodArm (n : Fin 16) (irq : Bool) (s : State) : Result := .next (s.rodArm n irq)
/-- R44. -/
def execRodPeriodCommit (n : Fin 16) (hi : BitVec 8) (s : State) : Result := .next (s.rodPeriodCommit n hi)
/-- R43. -/
def execRodFiring (n : Fin 16) (s : State) : Result := .next (s.rodFiring n)
/-- R45. -/
def execQueuePush (s : State) : Result := .next s.queuePush
/-- R47. -/
def execQueueEntryFire (s : State) : Result := .next s.queueEntryFire
/-- R48. -/
def execQueueCancel (h : BitVec 6) (s : State) : Result := .next (s.queueCancel h.toNat)
/-- R48. -/
def execQueueFlush (s : State) : Result := .next s.queueFlush
/-- R49. -/
def execSoftwareLaunch (swl : BitVec 16) (s : State) : Result := .next (s.softwareLaunch swl.toNat)
/-- R55. -/
def execTrginEdge (i : Fin 8) (x : HeldLevel) (s : State) : Result := .next (s.trginEdge i x.level x.held)
/-- R56. -/
def execTrgoutLaunch (j : Fin 8) (s : State) : Result :=
  .next (s.takeLaunch (100 + j) fun s l => (s.reachCount (l.exact + 160)).trgoutAct j)
/-- R56. -/
def execTrgoutPulseEnd (j : Fin 8) (s : State) : Result := .next (s.trgoutPulseEnd j)
/-- R51. -/
def execForwardedEventFire (l : Fin 4) (c : Fin 8) (s : State) : Result := .next (s.forwardedEventFire l c)
/-- R58. -/
def execLaunchHoldResume (s : State) : Result := .next s.launchHoldResume

end Sys2Proof.Machine
end

