-- ==== Sys2Proof/Machine/DcInput.lean ====
section
/-! DEFINITION. The DC input unit: configuration, I-V sweeps, night and wake (R261–R276). -/
namespace Sys2Proof.Machine

/-- Replaces a DC input's hidden state. -/
def State.dcM (s : State) (k : Fin 8) (f : DcIn → DcIn) : State := { s with dc := s.dc.upd k f }

/-- The legs named by an input, as a mask. -/
def State.dcLegs (s : State) (k : Nat) : Nat := s.rdN (Reg.SYSCFG_DC_LEGS_LO k) + 2 ^ 32 * s.get (Fd.SYSCFG_DC_LEGS_HI_LEGS k)

/-- R276: SYSCFG_DCk DWELL, 0 acting as 1. -/
def State.dcDwell (s : State) (k : Nat) : Nat := max 1 (s.get (Fd.SYSCFG_DC_SWDWELL_DWELL k))

/-- R265, R276: the steps of a sweep; above 256 acts as 256. -/
def State.dcSteps (s : State) (k : Nat) : Nat := min 256 (s.get (Fd.SYSCFG_DC_SWCFG_NSTEP k))

/-- R266, R270: a sweep waits or runs. -/
def State.sweeping (s : State) (k : Nat) : Bool := s.on (Fd.SYSCFG_DC_SWSTAT_STATE k)

/-- R274: a flag setting whose bit is set in EVSWL fires source 84 + SWLIDX, as a write to TBL_SWLAUNCH would: it waits for a
PWM clock that stands (R77); values above 15 act as 15. The two cycles of the crossing are passed by the caller where the
event has a command of its own (log entry 52). -/
def State.dcEvent (s : State) (k : Fin 8) (b : Nat) : State :=
  if (s.get (Fd.SYSCFG_DC_CFG_EVSWL k)).testBit b then
    let v := 2 ^ min 15 (s.get (Fd.SYSCFG_DC_SWCFG_SWLIDX k))
    if s.pwmClk then s.swlFire v else { s with parked := s.parked ++ [(Reg.TBL_SWLAUNCH, BitVec.ofNat 32 v)] }
  else s

/-- R263: the address of the doubleword of input k. -/
def State.dcDword (s : State) (k : Nat) : Nat :=
  0x24010000 + 0x40000 * s.get (Fd.SYSCFG_DC_CFG_RK k) + 8 * s.get (Fd.SYSCFG_DC_REFADDR_ADDR k)

/-- R21, R263: writes the doubleword whole, through the block port. -/
def State.dcDwordWrite (s : State) (k : Nat) (sref : Nat) (act fin' abt : Bool) : State :=
  let w1 := act.toNat + 2 * fin'.toNat + 4 * abt.toNat + 2 ^ 8 * (s.rdN (Reg.SYSCFG_DC_SWCNT k) % 256)
    + 2 ^ 16 * s.get (Fd.SYSCFG_DC_SWSTAT_STEP k)
  s.blockWrite (s.dcDword k) 8 (sref + 2 ^ 32 * w1)

/-- R262: a write that would set EN = 1 with these contents is refused. -/
def State.dcBad (s : State) (k : Fin 8) (cfg legs : Nat) : Bool :=
  let car := cut cfg 1 3
  (List.finRange 8).any (fun (j : Fin 8) => j != k && s.on (Fd.SYSCFG_DC_CFG_EN j) && (s.dcLegs j &&& legs) != 0) ||
  (List.range 48).any (fun n => legs.testBit n && s.get (Fd.PWM_LEG_CFG_CAR n) != car) ||
  55 < cut cfg 4 6 || 55 < cut cfg 10 6 || 55 < cut cfg 16 6

/-- R262: a write of DCk_CFG or a leg register; the detector's time restarts with another VIN and at EN = 0 (DEDUCED, log
entry 52). -/
def State.dcCfgWrite (s : State) (k : Fin 8) (r : DcCfgReg) (v : Word) : State :=
  if s.sweeping k then s.raise (Ev.SYSCFG_DC_FLAGS_CFGERR k)
  else
    match r with
    | .cfg =>
      if v.getLsbD 0 && s.dcBad k v.toNat (s.dcLegs k) then s.raise (Ev.SYSCFG_DC_FLAGS_CFGERR k)
      else
        let same := v.getLsbD 0 && cut v.toNat 4 6 == s.get (Fd.SYSCFG_DC_CFG_VIN k)
        (s.wrN (Reg.SYSCFG_DC_CFG k) (cut v.toNat 0 29)).dcM k fun d => { d with since := if same then d.since else none }
    | .legsLo => s.wr (Reg.SYSCFG_DC_LEGS_LO k) v
    | .legsHi => s.put (Fd.SYSCFG_DC_LEGS_HI_LEGS k) v.toNat

/-- R266: the causes that refuse GO. -/
def State.sweepRefused (s : State) (k : Nat) : Bool :=
  let capp := s.get (Fd.SYSCFG_DC_SWCFG_CAPP k)
  let legs := s.dcLegs k
  let ins := [s.get (Fd.SYSCFG_DC_CFG_VIN k), s.get (Fd.SYSCFG_DC_CFG_IIN k), s.get (Fd.SYSCFG_DC_CFG_LINKIN k)]
  !s.on (Fd.SYSCFG_DC_CFG_EN k) || s.sweeping k || s.get (Fd.SYSCFG_DC_SWCFG_NSTEP k) == 0 || capp == 0 ||
  s.dcDwell k < capp || s.on (Fd.SYSCFG_DC_NSTAT_NIGHT k) ||
  (List.range 48).any (fun n => legs.testBit n && s.on (Fd.PWM_LEG_STATE_FORCED n)) ||
  s.get Fd.PROT_STATUS_REGION != 0 || ins.any (fun i => !s.on (Fd.MODIN_IN_CFG_EN i))

/-- R266, R271: a write of GO: refused, also beside a STOP of the same cycle, or it counts and waits for the first zero. -/
def State.sweepGo (s : State) (k : Fin 8) : State :=
  if s.sweepRefused k || s.dc[k].stopTime == some s.now then s.raise (Ev.SYSCFG_DC_FLAGS_REFUSED k)
  else
    ((s.inc32 (Reg.SYSCFG_DC_SWCNT k)).put (Fd.SYSCFG_DC_SWSTAT_STATE k) 1).dcM k fun d =>
      { d with goAt := s.tbl.count, goTime := some s.now, steps := s.dcSteps k, dwell := s.dcDwell k
               capp := s.get (Fd.SYSCFG_DC_SWCFG_CAPP k), zeros := 0, due := none, caps := [], lastZero := s.now }

/-- Rounding of `x / n` to nearest, a half away from zero. -/
def meanAway (x : Int) (n : Nat) : Int :=
  if n = 0 then 0 else if 0 ≤ x then (2 * x + n) / (2 * n) else -((2 * (-x) + n) / (2 * n))

/-- R268, R269: the step of largest power among the valid entries written, the lowest index winning a tie. -/
def State.sweepBest (s : State) (k : Nat) (n : Nat) : Option Nat :=
  ((List.range n).foldl (fun (b : Option (Nat × Int)) i =>
    if (s.rdN (Reg.SYSCFG_DC_CAP k (4 * i + 3))).testBit 16 then
      let p := sx 32 (s.rdN (Reg.SYSCFG_DC_CAP k (4 * i + 2)))
      match b with
      | none => some (i, p)
      | some (j, q) => if q < p then some (i, p) else some (j, q)
    else b) none).map (·.1)

/-- R269: the last entry is written and the sweep completes: its registers. -/
def State.sweepComplete (s : State) (k : Fin 8) : State :=
  let best := s.sweepBest k s.dc[k].steps
  let s := (s.put (Fd.SYSCFG_DC_SWRES_MAXIDX k) (best.getD 0)).putB (Fd.SYSCFG_DC_SWRES_MAXVALID k) best.isSome
  ((s.raise (Ev.SYSCFG_DC_FLAGS_DONE k)).put (Fd.SYSCFG_DC_SWSTAT_STATE k) 0).dcM k fun d => { d with due := none }

/-- R269, R274: what a sweep that has completed tells: the doubleword and the launch. -/
def State.sweepReturn (s : State) (k : Fin 8) : State :=
  let ret := s.on (Fd.SYSCFG_DC_CFG_RTN k) && s.on (Fd.SYSCFG_DC_SWRES_MAXVALID k)
  let ref := s.rdN (Reg.SYSCFG_DC_TABLE k (s.get (Fd.SYSCFG_DC_SWRES_MAXIDX k)))
  (s.dcDwordWrite k (if ret then ref else 0) false ret false).dcEvent k 0

/-- R268: an entry's four words. -/
def State.sweepEntry (s : State) (k : Nat) (c : DcCap) : State :=
  let v := meanAway c.sumV c.nV
  let i := meanAway c.sumI c.nI
  let p := satTo 32 (meanAway (v * i) (2 ^ 31))
  let ok := !c.bad && c.nV != 0 && c.nI != 0
  let b := 4 * c.step
  let s := (s.wrN (Reg.SYSCFG_DC_CAP k b) (enc 32 v)).wrN (Reg.SYSCFG_DC_CAP k (b + 1)) (enc 32 i)
  (s.wrN (Reg.SYSCFG_DC_CAP k (b + 2)) (enc 32 p)).wrN (Reg.SYSCFG_DC_CAP k (b + 3))
    (min 0xFFFF c.nV + 2 ^ 16 * ok.toNat + 2 ^ 24 * (c.step % 256))

/-- R268: whether the window of a capture is past at both inputs. -/
def DcCap.ready (c : DcCap) : Bool := c.doneV && c.doneI

/-- R268, R269: the oldest capture is written; the last one completes the sweep. With what is then to be told: 0, the end of
the sweep. -/
def State.sweepTake (s : State) (k : Fin 8) (c : DcCap) : State × Option Nat :=
  let s := (s.sweepEntry k c).dcM k fun d => { d with caps := d.caps.tail }
  if c.step + 1 = s.dc[k].steps then (s.sweepComplete k, some 0) else (s, none)

/-- R270: the registers at an abort. -/
def State.sweepHalt (s : State) (k : Fin 8) (cause : Nat) : State :=
  (((s.raise (Ev.SYSCFG_DC_FLAGS_ABORT k)).put (Fd.SYSCFG_DC_SWSTAT_ACAUSE k) cause).put
    (Fd.SYSCFG_DC_SWSTAT_STATE k) 0).dcM k fun d => { d with due := none, caps := [] }

/-- R270, R274: what an abort tells: the doubleword, which cause 7 does not write, and the launch. -/
def State.sweepTell (s : State) (k : Fin 8) (cause : Nat) : State :=
  (if cause = 7 then s else s.dcDwordWrite k 0 false false true).dcEvent k 1

/-- R271: the last entry is written two SYS cycles after its window is past, so at or before this instant: the sweep
completes and an abort cause is ignored. -/
def State.sweepLast (s : State) (k : Fin 8) : Option DcCap :=
  match s.dc[k].caps with
  | c :: _ => if c.ready && c.step + 1 == s.dc[k].steps && decide (c.doneAt + 2 * s.sysT ≤ s.now) then some c else none
  | [] => none

/-- R270, R271: an abort cause meets a sweep that waits or runs: its registers, and what is then to be told: the cause, or 0,
the end of a sweep whose last entry is already due. -/
def State.sweepCut (s : State) (k : Fin 8) (cause : Nat) : State × Option Nat :=
  if s.sweeping k then
    match s.sweepLast k with
    | some c => s.sweepTake k c
    | none => (s.sweepHalt k cause, some cause)
  else (s, none)

/-- R269, R270, R274: what is to be told of sweeps: a completed one, or an abort by its cause. -/
def State.sweepTells (s : State) (l : List (Fin 8 × Option Nat)) : State :=
  l.foldl (fun s e =>
    match e.2 with
    | none => s
    | some 0 => s.sweepReturn e.1
    | some cause => s.sweepTell e.1 cause) s

/-- R270: an event of another block aborts a sweep that waits or runs. The doubleword and the launch come in the event's own
instant (log entry 52). -/
def State.sweepAbort (s : State) (k : Fin 8) (cause : Nat) : State :=
  let r := s.sweepCut k cause
  r.1.sweepTells [(k, r.2)]

/-- R264, R270: the unit's own abort: the doubleword and the launch come two PWM cycles (5.0 ns) on. -/
def State.sweepAbortOwn (s : State) (k : Fin 8) (cause : Nat) : State :=
  let r := s.sweepCut k cause
  (if r.2.isSome then r.1.advance 2 else r.1).sweepTells [(k, r.2)]

/-- R270: every input's sweep is aborted. -/
def State.sweepAbortAll (s : State) (cause : Nat) : State :=
  (List.finRange 8).foldl (fun s (k : Fin 8) => s.sweepAbort k cause) s

/-- R270: a forced leg aborts the sweeps that name it. -/
def State.sweepLegForced (s : State) (n : Nat) : State :=
  (List.finRange 8).foldl (fun s (k : Fin 8) => if (s.dcLegs k).testBit n then s.sweepAbort k 2 else s) s

/-- R265, R271: the table entry that a step starting now reads: a write of this cycle is not seen. -/
def State.tableNow (s : State) (k : Fin 8) (i : Nat) : Nat :=
  match s.dc[k].table with
  | some (j, old, at') => if j = i ∧ at' = s.now then old else s.rdN (Reg.SYSCFG_DC_TABLE k i)
  | none => s.rdN (Reg.SYSCFG_DC_TABLE k i)

/-- R265: a write of the reference table; the value before is kept for a step that starts in this cycle (R271). -/
def State.dcTableWrite (s : State) (n : Fin 2048) (v : Word) : State :=
  let k := Fin.ofNat 8 (n.val / 256)
  let i := n.val % 256
  let old := s.tableNow k i
  (s.dcM k fun d => { d with table := some (i, old, s.now) }).wr (Reg.SYSCFG_DC_TABLE k i) v

/-- R267: the step that begins at a zero of count `z` falls due: its table entry is read. -/
def State.stepDue (s : State) (k : Fin 8) (i z : Nat) : State :=
  let e := s.tableNow k i
  s.dcM k fun d => { d with due := some z, dueAt := s.now, entry := e }

/-- R267, R268: a zero of CAR at count `z` while a sweep of input `k` waits or runs: step starts fall due and windows open
and close. -/
def State.sweepZero (s : State) (k : Fin 8) (z : Nat) : State :=
  let s := s.dcM k fun d => { d with lastZero := s.now }
  let d := s.dc[k]
  let step := s.get (Fd.SYSCFG_DC_SWSTAT_STEP k)
  if s.get (Fd.SYSCFG_DC_SWSTAT_STATE k) == 1 && d.due.isNone then
    if d.goAt + 120 ≤ z then s.stepDue k 0 z else s
  else
    let n := d.zeros + 1
    let s := s.dcM k fun d =>
      { d with zeros := n
               caps := d.caps.map fun x =>
                if n = d.dwell - d.capp ∧ x.start.isNone then { x with start := some z }
                else if n = d.dwell ∧ x.stop.isNone then { x with stop := some z } else x }
    if n = d.dwell ∧ step + 1 < d.steps then s.stepDue k (step + 1) z else s

/-- R267: a zero of carrier `c` at count `z` reaches the sweeps on that carrier. -/
def State.dcZero (s : State) (c z : Nat) : State :=
  (List.finRange 8).foldl (fun s (k : Fin 8) =>
    if s.sweeping k && s.get (Fd.SYSCFG_DC_CFG_CAR k) == c then s.sweepZero k z else s) s

/-- R264, R267: a step begins: the zero has reached SYS two SYS cycles after it, the doubleword issues two SYS cycles later and
lands after 4 ns, all at their least, on the PWM clock's grid (log entry 52). -/
def State.sweepStepStart (s : State) (k : Fin 8) : State :=
  match s.dc[k].due with
  | none => s
  | some z =>
    let d := s.dc[k]
    let i := if s.get (Fd.SYSCFG_DC_SWSTAT_STATE k) == 1 then 0 else s.get (Fd.SYSCFG_DC_SWSTAT_STEP k) + 1
    let s := s.reachNow (d.dueAt + 2 * s.sysT)
    let s := (s.put (Fd.SYSCFG_DC_SWSTAT_STATE k) 2).put (Fd.SYSCFG_DC_SWSTAT_STEP k) i
    let s := s.dcM k fun x =>
      { x with due := none, zeros := 0
               caps := x.caps ++ [{ step := i, start := if x.dwell = x.capp then some z else none }] }
    (s.advance ((2 * s.sysT + 103) / 40)).dcDwordWrite k d.entry true false false

/-- R268: one result with its stamp, issued at `now`, enters a capture. -/
def DcCap.take (c : DcCap) (now : Nat) (isV : Bool) (v : Int) (valid : Bool) (stamp : Nat) : DcCap :=
  match c.start with
  | none => c
  | some a =>
    if stamp < a then c
    else if (match c.stop with | some b => decide (b ≤ stamp) | none => false) then
      let d := if isV then { c with doneV := true } else { c with doneI := true }
      if d.ready && !c.ready then { d with doneAt := now } else d
    else
      let c := if valid then c else { c with bad := true }
      if isV then { c with sumV := c.sumV + v, nV := c.nV + 1 } else { c with sumI := c.sumI + v, nI := c.nI + 1 }

/-- R272: the day-night condition of a VIN result. -/
def State.nightCond (s : State) (k : Nat) (v : Int) : Bool :=
  if s.on (Fd.SYSCFG_DC_NSTAT_NIGHT k) then decide (s.getS (Fd.SYSCFG_DC_WAKEV_LEVEL k) ≤ v)
  else decide (v < s.getS (Fd.SYSCFG_DC_SLEEPV_LEVEL k))

/-- R261, R268, R270, R272: a main-filter result of MODIN input `n` issues and reaches the unit, with what is then to be told of
the sweeps that it aborts. -/
def State.dcResult (s : State) (n : Nat) (v : Int) (valid : Bool) (stamp : Nat) : State × List (Fin 8 × Option Nat) :=
  (List.finRange 8).foldl (fun (b : State × List (Fin 8 × Option Nat)) (k : Fin 8) =>
    let s := b.1
    if s.on (Fd.SYSCFG_DC_CFG_EN k) then
      let isV := s.get (Fd.SYSCFG_DC_CFG_VIN k) == n
      let isI := s.get (Fd.SYSCFG_DC_CFG_IIN k) == n
      let isL := s.get (Fd.SYSCFG_DC_CFG_LINKIN k) == n
      let s := if isV then s.dcM k fun d => { d with caps := d.caps.map (·.take s.now true v valid stamp) } else s
      let s := if isI then s.dcM k fun d => { d with caps := d.caps.map (·.take s.now false v valid stamp) } else s
      let x := if isI && valid && decide (v < s.getS (Fd.SYSCFG_DC_IMIN_IMIN k)) then s.sweepCut k 3 else (s, none)
      let y := if isL && valid && decide (x.1.getS (Fd.SYSCFG_DC_VLMAX_VLMAX k) < v) then x.1.sweepCut k 4 else (x.1, none)
      let s := y.1
      let s := if isV && !s.pmu.warned then
          (if valid && s.nightCond k v then s.dcM k fun d => { d with since := some (d.since.getD s.now) }
          else s.dcM k fun d => { d with since := none })
        else s
      (s, b.2 ++ ([x.2, y.2].filter Option.isSome).map fun o => (k, o))
    else b) (s, [])

/-- R264, R268: two SYS cycles after both inputs have issued a result stamped at or after the window end the entry is written;
that of the last step ends the sweep, whose doubleword and launch come 5.0 ns on. -/
def State.sweepEntryWrite (s : State) (k : Fin 8) : State :=
  match s.dc[k].caps with
  | [] => s
  | c :: _ =>
    if c.ready then
      let r := (s.reachNow (c.doneAt + 2 * s.sysT)).sweepTake k c
      (if r.2.isSome then r.1.advance 2 else r.1).sweepTells [(k, r.2)]
    else s

/-- R270: no zero of CAR for two periods. -/
def State.sweepNoZero (s : State) (k : Fin 8) : State :=
  if s.sweeping k then
    (s.reachNow (s.dc[k].lastZero + 2 * s.get (Fd.PWM_C_ACTPER_PER (s.get (Fd.SYSCFG_DC_CFG_CAR k))))).sweepAbortOwn k 6
  else s

/-- R275: the PWM clock returns: a sweep whose carrier has had no zero for two periods is aborted. -/
def State.sweepOverdue (s : State) : State :=
  (List.finRange 8).foldl (fun s (k : Fin 8) =>
    let per := s.get (Fd.PWM_C_ACTPER_PER (s.get (Fd.SYSCFG_DC_CFG_CAR k)))
    if s.sweeping k && decide (s.dc[k].lastZero + 2 * per ≤ s.now) then s.sweepAbort k 6 else s) s

/-- R271: STOP in the SYS cycle in which GO was accepted wins: GO counts as refused. -/
def State.goUndone (s : State) (k : Fin 8) : State :=
  (((s.wrN (Reg.SYSCFG_DC_SWCNT k) (s.rdN (Reg.SYSCFG_DC_SWCNT k) + (2 ^ 32 - 1))).put
    (Fd.SYSCFG_DC_SWSTAT_STATE k) 0).raise (Ev.SYSCFG_DC_FLAGS_REFUSED k)).dcM k fun d => { d with due := none }

/-- R270, R271: a write of STOP; no effect while no sweep runs or waits. -/
def State.sweepStop (s : State) (k : Fin 8) : State :=
  let same := s.dc[k].goTime == some s.now
  let s := s.dcM k fun d => { d with stopTime := some s.now }
  if same && s.sweeping k then s.goUndone k else s.sweepAbortOwn k 1

/-- R271: a write of DCk_SWCMD; STOP wins over GO, which is then refused. -/
def State.swcmdWrite (s : State) (k : Fin 8) (v : Word) : State :=
  if v.getLsbD 1 then
    let s := s.sweepStop k
    s.raiseIf (v.getLsbD 0) (Ev.SYSCFG_DC_FLAGS_REFUSED k)
  else if v.getLsbD 0 then s.sweepGo k else s

/-- R272: a write of SLEEPV, WAKEV or NWTIME that would leave WAKEV ≤ SLEEPV while either time is non-zero is
refused. -/
def State.nightWrite (s : State) (k : Fin 8) (addr : Nat) (v : Word) : State :=
  let t := s.wr addr v
  if t.rdN (Reg.SYSCFG_DC_NWTIME k) ≠ 0 ∧ t.getS (Fd.SYSCFG_DC_WAKEV_LEVEL k) ≤ t.getS (Fd.SYSCFG_DC_SLEEPV_LEVEL k) then
    s.raise (Ev.SYSCFG_DC_FLAGS_CFGERR k)
  else t

/-- R272: the night condition has held for SLEEPT seconds. -/
def State.nightEnter (s : State) (k : Fin 8) : State :=
  let t := s.get (Fd.SYSCFG_DC_NWTIME_SLEEPT k)
  match s.dc[k].since with
  | none => s
  | some a =>
    if s.on (Fd.SYSCFG_DC_NSTAT_NIGHT k) || t == 0 || s.pmu.warned || !s.on (Fd.SYSCFG_DC_CFG_EN k) then s
    else
      let s := (s.reachNow (a + t * tSec)).dcM k fun d => { d with since := none }
      (((s.put (Fd.SYSCFG_DC_NSTAT_NIGHT k) 1).raise (Ev.SYSCFG_DC_FLAGS_NIGHT k)).advance 2).dcEvent k 2

/-- R272: the wake condition has held for WAKET seconds. -/
def State.wakeDetect (s : State) (k : Fin 8) : State :=
  let t := s.get (Fd.SYSCFG_DC_NWTIME_WAKET k)
  match s.dc[k].since with
  | none => s
  | some a =>
    if !s.on (Fd.SYSCFG_DC_NSTAT_NIGHT k) || t == 0 || s.pmu.warned || !s.on (Fd.SYSCFG_DC_CFG_EN k) then s
    else
      let s := (s.reachNow (a + t * tSec)).dcM k fun d => { d with since := none }
      (((s.put (Fd.SYSCFG_DC_NSTAT_NIGHT k) 0).raise (Ev.SYSCFG_DC_FLAGS_WAKE k)).advance 2).dcEvent k 3

/-- R272, R275, R276: the seconds counted toward the pending transition, to the power-fail warning at most; 0 while it is
disabled (DEDUCED, log entry 52). -/
def State.nightElapsed (s : State) (k : Fin 8) : Nat :=
  let t := if s.on (Fd.SYSCFG_DC_NSTAT_NIGHT k) then s.get (Fd.SYSCFG_DC_NWTIME_WAKET k) else s.get (Fd.SYSCFG_DC_NWTIME_SLEEPT k)
  match s.dc[k].since with
  | none => 0
  | some a => if t = 0 then 0 else min 0xFFFF (((if s.pmu.warned then s.pmu.warnAt else s.now) - a) / tSec)

/-- R275: the detector times restart. -/
def State.nightRestart (s : State) : State := { s with dc := s.dc.map fun d => { d with since := none } }

/-- R262. -/
def execDcCfgWrite (k : Fin 8) (r : DcCfgReg) (v : Word) (s : State) : Result := .next (s.dcCfgWrite k r v)
/-- R266. -/
def execSweepGo (k : Fin 8) (s : State) : Result := .next (s.sweepGo k)
/-- R270. -/
def execSweepStop (k : Fin 8) (s : State) : Result := .next (s.sweepStop k)
/-- R267. -/
def execSweepStepStart (k : Fin 8) (s : State) : Result := .next (s.sweepStepStart k)
/-- R268. -/
def execSweepEntryWrite (k : Fin 8) (s : State) : Result := .next (s.sweepEntryWrite k)
/-- R270. -/
def execSweepNoZeroTimeout (k : Fin 8) (s : State) : Result := .next (s.sweepNoZero k)
/-- R272. -/
def execNightEnter (k : Fin 8) (s : State) : Result := .next (s.nightEnter k)
/-- R272. -/
def execWakeDetect (k : Fin 8) (s : State) : Result := .next (s.wakeDetect k)

end Sys2Proof.Machine
end

