-- ==== Sys2Proof/Machine/SampleBus.lean ====
section
/-! DEFINITION. The sample bus (R93, R151, R152), and the values that the monitors of MON take from their sources as these
produce them (R478, R480). -/
namespace Sys2Proof.Machine

/-- Replaces MON's hidden state. -/
def State.monM (s : State) (f : Mon → Mon) : State := { s with mon := f s.mon }

/-- R478: a latency in tbu, rounded up to a multiple of 40 tbu. -/
def roundLatency (x : Int) : Int := (x + 39) / 40 * 40

/-- R480: the capture window that a monitor needs is open at count `t`. -/
def State.windowOk (s : State) (k : Fin 16) (t : Nat) : Bool :=
  let w := s.get (Fd.MON_M_CFG_WIN k)
  if 1 ≤ w ∧ w ≤ 4 then
    match s.mon.win.toArray.getD (w - 1) none with
    | some (a, b) => a ≤ t && t < b
    | none => false
  else true

/-- R480, R487: a monitor holds: by its HOLD bit, or while a selected core is halted. -/
def State.monHeld (s : State) (k : Fin 16) : Bool :=
  s.on ⟨Reg.MON_HOLD, k.val, 1⟩ || (s.on Fd.MON_CTRL_DBGSTOP && s.selHalted)

/-- R478, R480, R487: source `idx` of class `cls` produces value `x` at count `t`: every enabled monitor that selects it accepts
it, or refuses it by HOLD; outside its window it is neither. -/
def State.monPost (s : State) (cls idx : Nat) (x : Int) (t : Nat) : State :=
  if s.pmu.warned then s
  else
    (List.finRange 16).foldl (fun (s : State) (k : Fin 16) =>
      if s.on (Fd.MON_M_CFG_EN k) && s.get (Fd.MON_M_CFG_CLASS k) == cls && s.get (Fd.MON_M_CFG_INDEX k) == idx &&
          (s.monHeld k || s.windowOk k t) then
        let held := s.monHeld k
        s.monM fun m => { m with queue := m.queue.upd k fun q => q ++ [(x, held)] }
      else s) s

/-- R77, R93: a sample-bus channel takes a result, which reaches RK three RK cycles on, the least of the 3–4. -/
def State.sampleSet (s : State) (ch : Fin 256) (x : Sample) : State :=
  let s := { s with
    samplesOld := s.samplesOld.set ch (s.samples[ch], (s.now + 31) / 32 * 32 + 96)
    samples := s.samples.set ch x }
  if x.valid then s.monPost 5 ch.val x.value.toInt x.stamp else s

/-- R151: what a channel carries at a time: the result before, until the newest has been delivered. -/
def State.sampleAt (s : State) (ch : Fin 256) (t : Nat) : Sample :=
  if t ≤ s.samplesOld[ch].2 then s.samplesOld[ch].1 else s.samples[ch]

end Sys2Proof.Machine
end

