-- ==== Sys2Proof/Machine/Pwm.lean ====
section
/-! DEFINITION. PWM: carriers, the reference of a leg, shadows and load-all, dead time and short pulses, the interlock,
fault forcing, freeze and the maximum-on-time guard (R189–R213). -/
namespace Sys2Proof.Machine

/-- Replaces PWM's hidden state. -/
def State.pwmM (s : State) (f : Pwm → Pwm) : State := { s with pwm := f s.pwm }
/-- Replaces a carrier's hidden state. -/
def State.carM (s : State) (c : Fin 8) (f : Carrier → Carrier) : State :=
  { s with pwm := { s.pwm with carriers := s.pwm.carriers.upd c f } }
/-- Replaces a leg's hidden state. -/
def State.legM (s : State) (n : Fin 48) (f : Leg → Leg) : State :=
  { s with pwm := { s.pwm with legs := s.pwm.legs.upd n f } }

/-- The carrier a leg follows (R192). -/
def State.carOf (s : State) (n : Fin 48) : Fin 8 := Fin.ofNat 8 (s.get (Fd.PWM_LEG_CFG_CAR n))

/-- Applies `f` to every leg that follows carrier `c`. -/
def State.legsOf (s : State) (c : Fin 8) (f : State → Fin 48 → State) : State :=
  (List.finRange 48).foldl (fun s (n : Fin 48) => if s.carOf n = c then f s n else s) s

/-! ### Carriers (R189, R190) -/

/-- R189: centre-aligned. -/
def State.centre (s : State) (c : Fin 8) : Bool := s.on (Fd.PWM_C_CFG_MODE c)

/-- R189: H = floor(P/2). -/
def State.half (s : State) (c : Fin 8) : Nat := s.get (Fd.PWM_C_ACTPER_PER c) / 2

/-- R189: the effective period, P or 2H. -/
def State.period (s : State) (c : Fin 8) : Nat := if s.centre c then 2 * s.half c else s.get (Fd.PWM_C_ACTPER_PER c)

/-- R189: the counter of the carrier, with its DOWN bit. -/
def State.carCount (s : State) (c : Fin 8) : Nat × Bool :=
  let t := s.pwm.carriers[c].tau % (s.period c)
  if s.centre c ∧ s.half c < t then (2 * s.half c - t, true) else (t, false)

/-- R190: the limits of a loaded period, and whether they clamp it. -/
def clampPeriod (p : Nat) : Nat × Bool := (max 32000 (min (2 ^ 30) p), decide (p < 32000 ∨ 2 ^ 30 < p))

/-- R208: the carriers, timers and loads run. -/
def State.pwmRuns (s : State) : Bool := s.pwmClk && !s.pwm.frozen

/-- A running carrier counts on until its time since the last zero has reached `t`. -/
def State.reachTau (s : State) (c : Fin 8) (t : Nat) : State :=
  s.reachCount (s.tbl.count + (t - s.pwm.carriers[c].tau))

/-! ### The reference (R192, R195)

Instants of REF are held against the carrier's `abs`, as `Int` where a pulse may begin in the period before. -/

/-- R192: REF of a leg that is not in edge mode, within its carrier's period: the position where it rises and for how
long it is high. The compares act within the period in force (R198). -/
def State.refShape (s : State) (n : Fin 48) : Nat × Nat :=
  let c := s.carOf n
  let p := s.period c
  let top := if s.centre c then s.half c else p
  let a := min top (s.rdN (Reg.PWM_LEG_ACTA n))
  let b := min top (s.rdN (Reg.PWM_LEG_ACTB n))
  let ofs := s.rdN (Reg.PWM_LEG_ACTOFS n)
  if s.centre c then ((p - b + ofs) % p, a + b) else ((a + ofs) % p, b - a)

/-- The `abs` of a carrier's last zero. -/
def State.startOf (s : State) (c : Fin 8) : Int := (s.pwm.carriers[c].abs : Int) - s.pwm.carriers[c].tau

/-- R192, R195: the REF pulses around this period as known now, as `abs` from rise to fall: those a shape gives in the
period before, this one and the two after it, or in edge mode those begun or owed and the repeat of the next zero. -/
def State.refSpans (s : State) (n : Fin 48) : List (Int × Int) :=
  let c := s.carOf n
  let p : Int := s.period c
  let start := s.startOf c
  let g := s.pwm.legs[n]
  if s.on (Fd.PWM_LEG_CFG_EDGE n) then
    g.pulses.map (fun e => ((e.1 : Int), (e.2 : Int))) ++ [(start + p + g.edgeL + g.edgeA, start + p + g.edgeL + g.edgeB)]
  else
    let (r, w) := s.refShape n
    [-p, 0, p, 2 * p].map fun d => (start + d + r, start + d + r + w)

/-- The level of REF at the carrier's `abs` `x`. -/
def State.refAt (s : State) (n : Fin 48) (x : Int) : Bool := (s.refSpans n).any fun e => decide (e.1 ≤ x ∧ x < e.2)

/-- The first instant from `x` on at which REF is not at level `v`; none if REF never leaves it. -/
def State.refNext (s : State) (n : Fin 48) (x : Int) (v : Bool) : Option Int :=
  ((x :: (s.refSpans n).flatMap fun e => [e.1, e.2]).filter fun e => decide (x ≤ e) && s.refAt n e != v).foldl
    (fun m e => some (match m with | some y => min y e | none => e)) none

/-- R199, R202: the next load point of an armed carrier, as its `abs`. -/
def State.nextLoad (s : State) (c : Fin 8) : Option Nat :=
  let k := s.pwm.carriers[c]
  let zeroAt := k.abs + (s.period c - k.tau)
  let peakAt := if k.peaked then zeroAt + s.half c else k.abs + (s.half c - k.tau)
  if !(s.get Fd.PWM_LOADALL_ALL).testBit c.val then none
  else match s.get (Fd.PWM_C_CFG_LDPT c) with
    | 0 => some zeroAt
    | 1 => some peakAt
    | _ => some (min zeroAt peakAt)

/-- R202: the dead time before the switch that a pulse of level `v` drives; none in mode off, where nothing is tested. -/
def State.pulseDt (s : State) (n : Fin 48) (v : Bool) : Option Nat :=
  match s.get (Fd.PWM_LEG_CFG_MODE n) with
  | 0 => some (if v then s.get (Fd.PWM_LEG_DT_DTR n) else s.get (Fd.PWM_LEG_DT_DTF n))
  | 3 => none
  | _ => some 0

/-- R202: MINP, a value below 40 acting as 40. -/
def State.minp (s : State) (n : Fin 48) : Nat := max 40 (s.get (Fd.PWM_LEG_MINP_MINP n))

/-- R202: the least width DT + MINP of a pulse of level `v` that is not short, by the values in force now. -/
def State.leastW (s : State) (n : Fin 48) (v : Bool) : Option Nat := (s.pulseDt n v).map (· + s.minp n)

/-- R202: the pulse of level `v` that starts at `x`: where it ends, and whether it is short. -/
def State.pulseOf (s : State) (n : Fin 48) (x : Int) (v : Bool) : Option Int × Bool :=
  let e := s.refNext n x v
  (e, match s.leastW n v, e with
    | some least, some e => decide (e < x + least)
    | _, _ => false)

/-- R202: the edges of REF to come from `x` on while it stands at `v`, as known now: a short pulse is left out or
stretched. -/
def State.refPlan (s : State) (n : Fin 48) : Nat → Int → Bool → List (Int × Bool)
  | 0, _, _ => []
  | fuel + 1, x, v =>
    match s.refNext n x v with
    | none => []
    | some e =>
      match s.pulseOf n e !v with
      | (_, false) => (e, !v) :: s.refPlan n fuel e !v
      | (e', true) =>
        if s.on (Fd.PWM_LEG_CFG_SHORTACT n) then (e, !v) :: s.refPlan n fuel (e + (s.leastW n !v).getD 0) !v
        else s.refPlan n fuel (e'.getD e) v

/-! ### Forcing and commands (R193, R203–R210) -/

/-- R204, R206: the leg is forced by some source. -/
def State.isForced (s : State) (n : Fin 48) : Bool :=
  (s.get Fd.PWM_FSTAT_DOM).testBit (s.get (Fd.PWM_LEG_CFG_FDOM n)) || s.on Fd.PWM_FSTAT_SYS || s.on Fd.PWM_FSTAT_PFW ||
  s.on Fd.PWM_FSTAT_DBG || s.drive.locked.getLsbD (n.val / 4)

/-- R191, R210, R211: the leg holds both switches off whatever else holds. -/
def State.isOff (s : State) (n : Fin 48) : Bool :=
  !s.on (Fd.PWM_LEG_CFG_EN n) || s.on Fd.PWM_STATUS_HUWAIT || !s.on Fd.PWM_CTRL_OUTEN ||
  !s.pwm.carriers[s.carOf n].run

/-- R225: a refresh acts on this leg: on the commands of REF, of the override and of a SAFE = 0b10 force alike, and on
no other force. -/
def State.refreshActs (s : State) (n : Fin 48) : Bool :=
  let g := s.pwm.legs[n]
  !s.isOff n && s.get (Fd.PWM_LEG_CFG_MODE n) < 2 && !s.on (Fd.PWM_LEG_STATE_GUARDED n) &&
  (if g.forced || (g.waits && g.waitSafe) then s.get (Fd.PWM_LEG_CFG_SAFE n) == 2 && !s.on Fd.PWM_FSTAT_PFW else !g.waits)

/-- R206: the commands of the leg's safe level. -/
def State.safeCmd (s : State) (n : Fin 48) : Bool × Bool :=
  let on := s.pwm.legs[n].safeOn
  if s.on Fd.PWM_FSTAT_PFW then (false, false)
  else match s.get (Fd.PWM_LEG_CFG_SAFE n) with
    | 1 => (false, on)
    | 2 => (on, false)
    | _ => (false, false)

/-- R193, R203: the commands of the high and the low switch, before the guard and the interlock; a refresh overrides
them (R225). -/
def State.legCmd (s : State) (n : Fin 48) : Bool × Bool :=
  let g := s.pwm.legs[n]
  let ref := s.on (Fd.PWM_LEG_STATE_REF n)
  if s.isOff n then (false, false)
  else if g.refresh.isSome && s.refreshActs n then (false, (g.refresh.map (·.step)) == some 2 && s.get (Fd.PWM_LEG_CFG_MODE n) == 0)
  else if g.forced || (g.waits && g.waitSafe) then s.safeCmd n
  else if g.waits then (false, false)
  else if s.on (Fd.PWM_LEG_OVR_EN n) then (s.on (Fd.PWM_LEG_OVR_H n), s.on (Fd.PWM_LEG_OVR_L n))
  else match s.get (Fd.PWM_LEG_CFG_MODE n) with
    | 0 => (ref, !ref)
    | 1 => (ref, false)
    | 2 => (false, ref)
    | _ => (false, false)

/-- R193, R201: the leg follows REF in complementary mode, so that an incoming switch waits one dead time. -/
def State.deadTimed (s : State) (n : Fin 48) : Bool :=
  let g := s.pwm.legs[n]
  !g.forced && !g.waits && !s.on (Fd.PWM_LEG_OVR_EN n) && s.get (Fd.PWM_LEG_CFG_MODE n) == 0

/-- R225: the width of low conduction that refreshes a bootstrap supply. -/
def State.refreshW (s : State) (n : Fin 48) : Nat :=
  max (s.get (Fd.DRIVE_LEG_HS_RFW n)) (max 40 (s.get (Fd.PWM_LEG_MINP_MINP n)))

/-- R225: the instant τ_n = 0 of this period lies at or before carrier time `t`, and has not been counted. -/
def State.legZeroDue (s : State) (n : Fin 48) (t : Nat) : Bool :=
  !s.pwm.legs[n].zeroSeen && decide (s.rdN (Reg.PWM_LEG_ACTOFS n) ≤ t)

/-- R225: the width of low conduction that refreshes a bootstrap supply has been reached by a conduction in progress. -/
def State.refreshing (s : State) (n : Fin 48) : Bool :=
  match s.pwm.legs[n].onL with
  | some t => decide (s.refreshW n ≤ s.now - t)
  | none => false

/-- R225, R233: the leg's zero of this period, once carrier time has reached it, is counted, unless a low conduction of
at least W has not ended yet; HS.MODE applies from it. -/
def State.legZero (s : State) (n : Fin 48) (t : Nat) : State :=
  if s.legZeroDue n t then
    s.legM n fun g => { g with zeroSeen := true, zeros := if s.refreshing n then 0 else g.zeros + 1
                               chargePump := s.on (Fd.DRIVE_LEG_HS_MODE n) }
  else s

/-- R225: the leg's zeros are counted up to now. -/
def State.legZeroNow (s : State) (n : Fin 48) : State := s.legZero n s.pwm.carriers[s.carOf n].tau

/-- A switch goes off at its ball; the end of a long enough low conduction restarts the refresh count, the leg's
zero before it counted first (R225). -/
def State.ballOff (s : State) (n : Fin 48) (high : Bool) (at' : Nat) : State :=
  if high then
    (s.put (Fd.PWM_LEG_STATE_H n) 0).legM n fun g => { g with offH := at', onH := none }
  else
    let w := s.refreshW n
    let s := s.legZero n (s.pwm.carriers[s.carOf n].tau - (s.now - at'))
    (s.put (Fd.PWM_LEG_STATE_L n) 0).legM n fun g =>
      { g with offL := at', onL := none
               zeros := match g.onL with
                 | some t => if w ≤ at' - t then 0 else g.zeros
                 | none => g.zeros }

/-- A switch goes on at its ball. -/
def State.ballOn (s : State) (n : Fin 48) (high : Bool) (at' : Nat) : State :=
  if high then (s.put (Fd.PWM_LEG_STATE_H n) 1).legM n fun g => { g with onH := some at', turnOn := none }
  else (s.put (Fd.PWM_LEG_STATE_L n) 1).legM n fun g => { g with onL := some at', turnOn := none }

/-- STATE.HELD shows the interlock's holds (R203). -/
def State.heldShow (s : State) (n : Fin 48) : State :=
  let g := s.pwm.legs[n]
  s.putB (Fd.PWM_LEG_STATE_HELD n) (g.heldH || g.heldL || g.turnOn.isSome)

/-- R203: the instant at which a switch may turn on: its own dead time after `at'` where REF drives it (`dead`, R201),
and never before the other switch has been off for that dead time. -/
def State.onDue (s : State) (n : Fin 48) (high dead : Bool) (at' : Nat) : Nat :=
  let g := s.pwm.legs[n]
  let dt := if high then s.get (Fd.PWM_LEG_DT_DTR n) else s.get (Fd.PWM_LEG_DT_DTF n)
  let other := if high then g.offL else g.offH
  max (if dead then at' + dt else at') (if other = 0 then 0 else other + dt)

/-- R203: a switch is commanded on and may turn on: at once if it is due, else its timer runs; a timer already running
for it goes on. -/
def State.turnOnAt (s : State) (n : Fin 48) (high dead : Bool) (at' : Nat) : State :=
  let due := match s.pwm.legs[n].turnOn with
    | some (h, d) => if h = high then d else s.onDue n high dead at'
    | none => s.onDue n high dead at'
  if due ≤ at' then s.ballOn n high at' else s.legM n fun g => { g with turnOn := some (high, due) }

/-- R203: the PWM cycle of an instant. -/
def cycleOf (t : Nat) : Nat := t / 40

/-- R203: of two commands, the first came in an earlier PWM cycle. -/
def cameFirst (a b : Option Nat) : Bool :=
  match a, b with
  | some x, some y => decide (cycleOf x < cycleOf y)
  | _, _ => false

/-- R203: which of the two commands the interlock lets through: a switch that is on or was commanded on first keeps its
command while the other is held off; commanded on from both off in one PWM cycle, both are held. -/
def passes (ch cl h l : Bool) (cmdH cmdL : Option Nat) : Bool × Bool :=
  (ch && (h || !cl || (!l && cameFirst cmdH cmdL)), cl && (l || !ch || (!h && cameFirst cmdL cmdH)))

/-- R203, R208: the interlock applies the leg's commands at instant `at'`. Off parts act at once; a switch commanded on
while the other is commanded on is held off and each new hold sets SHOOT; a frozen unit turns nothing on. -/
def State.legApplyWith (s : State) (n : Fin 48) (dead : Bool) (at' : Nat) : State :=
  let (ch0, cl0) := s.legCmd n
  let s := s.legM n fun g =>
    { g with cmdH := if ch0 then some (g.cmdH.getD at') else none, cmdL := if cl0 then some (g.cmdL.getD at') else none }
  let g := s.pwm.legs[n]
  let guarded := s.on (Fd.PWM_LEG_STATE_GUARDED n)
  let ch := ch0 && !guarded
  let cl := cl0 && !guarded
  let h := s.on (Fd.PWM_LEG_STATE_H n)
  let l := s.on (Fd.PWM_LEG_STATE_L n)
  let (wantH, wantL) := passes ch cl h l g.cmdH g.cmdL
  if s.pwm.frozen && !(g.forced || guarded) then s
  else
    let s := if h && !wantH then s.ballOff n true at' else s
    let s := if l && !wantL then s.ballOff n false at' else s
    if !s.pwmRuns then (s.legM n fun g => { g with turnOn := none }).heldShow n
    else
      let heldH := ch && !wantH
      let heldL := cl && !wantL
      let new := (heldH && !g.heldH).toNat + (heldL && !g.heldL).toNat
      let s := (s.raiseN (Ev.PWM_LEG_FLAGS_SHOOT n) new).legM n fun g =>
        { g with heldH := heldH, heldL := heldL
                 turnOn := match g.turnOn with
                   | some (true, d) => if wantH then some (true, d) else none
                   | some (false, d) => if wantL then some (false, d) else none
                   | none => none }
      let s := if wantH && !h then s.turnOnAt n true dead at' else s
      let s := if wantL && !l then s.turnOnAt n false dead at' else s
      s.heldShow n

/-- R201, R203: the interlock applies the leg's commands, an incoming switch waiting its dead time where REF drives it. -/
def State.legApply (s : State) (n : Fin 48) (at' : Nat) : State := s.legApplyWith n (s.deadTimed n) at'

/-- R219: a frame of this leg's switch and direction has started whose window, up to 200 ns after its end, holds instant
`t`. -/
def State.inWindow (s : State) (n : Fin 48) (low off : Bool) (t : Nat) : Bool :=
  (s.drive.groups[n.val / 4]!).frames.any fun f =>
    decide (f.leg = n.val % 4 ∧ f.low = low ∧ f.off = off ∧ f.start ≤ t ∧ t < f.start + 360 * tNs)

/-- R219: an edge of a switch is moved to instant `t`, into the window of a frame that has started: LATEFR. -/
def State.movedEdge (s : State) (n : Fin 48) (low off : Bool) (t : Nat) : State :=
  s.raiseIf (s.inWindow n low off t) (Ev.DRIVE_G_FLAGS_LATEFR (n.val / 4))

/-- R204, R206, R207: a leg takes or leaves its forced state as its force sources stand. -/
def State.forceLeg (s : State) (n : Fin 48) : State :=
  let f := s.isForced n
  let g := s.pwm.legs[n]
  if f && !g.forced then
    let safeNow := match s.get (Fd.PWM_LEG_CFG_SAFE n) with
      | 1 => s.on (Fd.PWM_LEG_STATE_L n) | 2 => s.on (Fd.PWM_LEG_STATE_H n) | _ => false
    let h := s.on (Fd.PWM_LEG_STATE_H n)
    let l := s.on (Fd.PWM_LEG_STATE_L n)
    let s := (s.put (Fd.PWM_LEG_STATE_FORCED n) 1).legM n fun g =>
      { g with forced := true, forcedAt := s.now, safeOn := safeNow, waits := false }
    let s := s.legApply n s.now
    let s := if h && !s.on (Fd.PWM_LEG_STATE_H n) then s.movedEdge n false true s.now else s
    let s := if l && !s.on (Fd.PWM_LEG_STATE_L n) then s.movedEdge n true true s.now else s
    s.sweepLegForced n.val
  else if !f && g.forced then
    ((s.put (Fd.PWM_LEG_STATE_FORCED n) 0).legM n fun g =>
      { g with forced := false, waits := true, waitSafe := true, clearAt := s.now }).legApply n s.now
  else s

/-- The force sources have changed: every leg is looked at. -/
def State.forceLegs (s : State) : State := (List.finRange 48).foldl State.forceLeg s

/-- R204: the domain mask of a force event. -/
def State.forceMask (s : State) : ForceEvent → Nat
  | .modin e => cut (s.rdN (Reg.PWM_FMAPMOD (e.val / 4))) (8 * (e.val % 4)) 8
  | .fltin i => cut (s.rdN (Reg.PWM_FMAPFLT (i.val / 4))) (8 * (i.val % 4)) 8
  | .prot l => cut (s.rdN Reg.PWM_FMAPPROT) (8 * l.val) 8

/-- R204: whether a force event's line is asserted; a FLTIN acts while enabled and its pin at the level of POL (R205). -/
def State.forceLine (s : State) : ForceEvent → Bool
  | .modin e => s.pwm.modLines.getLsbD e.val
  | .fltin i => (s.get Fd.PWM_FLTINCFG_EN).testBit i.val && s.pwm.fltPins.getLsbD i.val == (s.get Fd.PWM_FLTINCFG_POL).testBit i.val
  | .prot l => s.pwm.protLines.getLsbD l.val

/-- R204: every force event. -/
def forceEvents : List ForceEvent :=
  (List.finRange 112).map .modin ++ (List.finRange 8).map .fltin ++ (List.finRange 2).map .prot

/-- R204: the domains that asserted events drive. -/
def State.demand (s : State) : Nat :=
  forceEvents.foldl (fun m e => if s.forceLine e then m ||| s.forceMask e else m) 0

/-- R204, R207: DEMAND follows the lines; a domain newly demanded latches, sets FORCE and is counted. -/
def State.forceUpdate (s : State) : State :=
  let d := s.demand
  let s := s.put Fd.PWM_FSTAT_DEMAND d
  let s := (List.range 8).foldl (fun s (k : Nat) =>
    if d.testBit k && !(s.get Fd.PWM_FSTAT_DOM).testBit k then
      (s.raise (Ev.PWM_FSTAT_DOM k)).raise Ev.PWM_GFLAGS_FORCE else s) s
  s.forceLegs

/-- R204: a force event's line changes; a FLTIN pin takes the level that POL calls active, or the other (R205). -/
def State.forceSet (s : State) (e : ForceEvent) (b : Bool) : State :=
  let pol := s.get Fd.PWM_FLTINCFG_POL
  let s := s.pwmM fun p => match e with
    | .modin i => { p with modLines := setBit p.modLines i.val b }
    | .fltin i => { p with fltPins := setBit p.fltPins i.val (b == pol.testBit i.val) }
    | .prot i => { p with protLines := setBit p.protLines i.val b }
  s.forceUpdate

/-- R67, R204: a system PLL loss of lock forces every leg. -/
def State.forceSys (s : State) : State :=
  (((s.raise Ev.PWM_FSTAT_SYS).raise Ev.PWM_GFLAGS_SYSF)).forceLegs

/-- R210: the power-fail warning forces every leg both off. -/
def State.forcePfw (s : State) : State :=
  ((((s.put Fd.PWM_FSTAT_PFW 1).put Fd.PWM_GFLAGS_PFWF 1).sat16 (Reg.PWM_GEVCNT 2)).forceLegs |>
    fun s => (List.finRange 48).foldl (fun s (n : Fin 48) => s.legApply n s.now) s)

/-- R207: the clear of a domain latch; with an event of the domain asserted the set wins and is counted. -/
def State.forceClear (s : State) (k : Nat) : State :=
  if s.demand.testBit k then (s.raise (Ev.PWM_FSTAT_DOM k)).raise Ev.PWM_GFLAGS_FORCE
  else (s.put ⟨Reg.PWM_FSTAT, k, 1⟩ 0).forceLegs

/-- R207: a leg whose waiting may end at a carrier zero of instant `z` follows REF from there. -/
def State.resumeLeg (z : Nat) (s : State) (n : Fin 48) : State :=
  let g := s.pwm.legs[n]
  if g.waits && g.clearAt + 120 ≤ z && !g.forced && !s.isOff n && !s.on (Fd.PWM_LEG_STATE_GUARDED n) then
    (s.legM n fun g => { g with waits := false, waitSafe := false }).legApply n z
  else s

/-- R210: OUTEN or HUWAIT changes: an enabled leg whose hold ends waits for a zero, and every leg takes its commands. -/
def State.outputsChanged (s : State) (held : Bool) : State :=
  let held' := s.on Fd.PWM_STATUS_HUWAIT || !s.on Fd.PWM_CTRL_OUTEN
  (List.finRange 48).foldl (fun s (n : Fin 48) =>
    let s := if held && !held' && s.on (Fd.PWM_LEG_CFG_EN n) then
      s.legM n fun g => { g with waits := true, waitSafe := g.waits && g.waitSafe, clearAt := s.now } else s
    s.legApply n s.now) s

/-! ### Loading (R195–R200) -/

/-- The shadow register of a staging destination or a shadow name (R196). -/
def shadowReg : Shadow → Nat
  | .per c => Reg.PWM_C_PER c
  | .cmpa n => Reg.PWM_LEG_CMPA n
  | .cmpb n => Reg.PWM_LEG_CMPB n
  | .ofs n => Reg.PWM_LEG_OFS n

/-- R196: the bits a shadow register holds. -/
def shadowMask : Shadow → Nat
  | .per _ => 2 ^ 31
  | .ofs _ => 2 ^ 30
  | _ => 2 ^ 32

/-- The carrier at whose load points a shadow loads (R197). -/
def State.shadowCar (s : State) : Shadow → Fin 8
  | .per c => c
  | .cmpa n => s.carOf n
  | .cmpb n => s.carOf n
  | .ofs n => s.carOf n

/-- R195: an edge time at load count `l` as an offset 0 … P, and whether it was limited. -/
def edgeOffset (l p value : Nat) : Nat × Bool :=
  let d : Int := sx 32 (enc 32 ((value : Int) - l))
  if d < 0 then (0, true) else if (p : Int) < d then (p, true) else (d.toNat, false)

/-! #### The load of a leg -/

/-- R192, R195, R197: the shadows of one leg become active at carrier time `tau` (`abs` value `x`, count `l`); the active
registers show them as limited, in edge mode as the times of the edges (R200). -/
def State.loadShadows (l tau x : Nat) (s : State) (n : Fin 48) : State :=
  let c := s.carOf n
  let p := s.period c
  let a := s.rdN (Reg.PWM_LEG_CMPA n)
  let b := s.rdN (Reg.PWM_LEG_CMPB n)
  let o := s.get (Fd.PWM_LEG_OFS_OFS n)
  let actp := s.get (Fd.PWM_C_ACTPER_PER c)
  let o' := if actp ≤ o then actp - 1 else o
  if s.on (Fd.PWM_LEG_CFG_EDGE n) then
    let ea := edgeOffset l actp a
    let eb := edgeOffset l actp b
    let s := ((s.wrN (Reg.PWM_LEG_ACTA n) (l + ea.1)).wrN (Reg.PWM_LEG_ACTB n) (l + eb.1)).wrN (Reg.PWM_LEG_ACTOFS n) o'
    let s := s.legM n fun g =>
      { g with edgeA := ea.1, edgeB := eb.1, edgeL := tau % p
               pulses := if ea.1 < eb.1 then [(x + ea.1, x + eb.1)] else [] }
    s.raiseIf (ea.2 || eb.2 || decide (actp ≤ o)) (Ev.PWM_LEG_FLAGS_CLAMP n)
  else
    let top := if s.centre c then s.half c else actp
    let a1 := cut a 0 31
    let b1 := cut b 0 31
    let s := ((s.wrN (Reg.PWM_LEG_ACTA n) (min top a1)).wrN (Reg.PWM_LEG_ACTB n) (min top b1)).wrN (Reg.PWM_LEG_ACTOFS n) o'
    s.raiseIf (decide (top < a1 ∨ top < b1 ∨ actp ≤ o)) (Ev.PWM_LEG_FLAGS_CLAMP n)

/-- R198, R202: a load at `x` meets a pulse that is being dropped or stretched. A stretch never carries its edge beyond
the load point; where the new values keep the level there, the pulse goes on and its rest is held to the same width. A
dropped pulse that still ends short under the new values stays dropped; else its edge is placed at the
load point. -/
def State.holdAtLoad (x : Nat) (s : State) (n : Fin 48) : State :=
  let g := s.pwm.legs[n]
  let v := !s.on (Fd.PWM_LEG_STATE_REF n)
  let cutTo := match g.drop with
    | some (t, least) =>
      if s.refAt n x == v then
        match s.refNext n x v with
        | some e => if e < (t : Int) + least then e.toNat else x
        | none => x
      else x
    | none => if s.refAt n x == v then x else g.holdTo
  s.legM n fun g => { g with last := x, holdTo := if x < g.holdTo then cutTo else g.holdTo }

/-- R219: the load has moved an edge of a switch into the window of a frame that has started. -/
def State.loadMoved (x : Nat) (s : State) (n : Fin 48) : State :=
  let g := s.pwm.legs[n]
  let abs := s.pwm.carriers[s.carOf n].abs
  let mode := s.get (Fd.PWM_LEG_CFG_MODE n)
  if s.isOff n || g.forced || g.waits || s.on (Fd.PWM_LEG_OVR_EN n) then s
  else (s.refPlan n 2 (max x g.holdTo) (s.on (Fd.PWM_LEG_STATE_REF n))).foldl (fun s e =>
    let t := ((s.now : Int) + e.1 - abs).toNat
    match mode with
    | 0 =>
      if e.2 then (s.movedEdge n true true t).movedEdge n false false (t + s.get (Fd.PWM_LEG_DT_DTR n))
      else (s.movedEdge n false true t).movedEdge n true false (t + s.get (Fd.PWM_LEG_DT_DTF n))
    | 1 => s.movedEdge n false (!e.2) t
    | 2 => s.movedEdge n true (!e.2) t
    | _ => s) s

/-- R195–R198, R219: the load of one leg. -/
def State.loadLeg (l tau x : Nat) (s : State) (n : Fin 48) : State :=
  let s := if tau = 0 then s else s.legZero n (tau - 1)
  let s := s.loadShadows l tau x n
  let s := s.legM n fun g => { g with zeroSeen := decide (s.rdN (Reg.PWM_LEG_ACTOFS n) < tau) }
  let s := s.holdAtLoad x n
  s.loadMoved x n

/-- Whether the shadow register at an address loads with carrier `c`. -/
def State.loadsWith (s : State) (c : Fin 8) (a : Nat) : Bool :=
  a == Reg.PWM_C_PER c ||
  (List.finRange 48).any (fun (n : Fin 48) => s.carOf n == c &&
    (a == Reg.PWM_LEG_CMPA n || a == Reg.PWM_LEG_CMPB n || a == Reg.PWM_LEG_OFS n))

/-- R200: the values that landed with a repeated arming of carrier `c` and meet a load point at `l` enter their
shadows. -/
def State.rearmedEnter (s : State) (c : Fin 8) (l : Nat) : State :=
  let (go, stay) := s.pwm.rearmed.partition fun h => s.loadsWith c h.1 && decide (h.2.2 + 120 ≤ l)
  go.foldl (fun s h => s.wr h.1 h.2.1) (s.pwmM fun p => { p with rearmed := stay })

/-- R200: the values held aside for carrier `c` enter their shadows. -/
def State.heldEnter (s : State) (c : Fin 8) : State :=
  let (go, stay) := s.pwm.held.partition fun h => s.loadsWith c h.1
  go.foldl (fun s h => s.wr h.1 h.2) (s.pwmM fun p => { p with held := stay })

/-- R199, R200: after a load, a repeated arming that came too late for it stands with its values, which then load at the
following load point; without one the carrier is disarmed and the held values enter their shadows. -/
def State.armAfterLoad (s : State) (c : Fin 8) : State :=
  let late := (s.pwm.rearmed.filter fun h => s.loadsWith c h.1).map (·.2.2)
  if late.isEmpty then (s.put ⟨Reg.PWM_LOADALL, c.val, 1⟩ 0).heldEnter c
  else
    let t := late.foldl max 0
    (s.rearmedEnter c (t + 120)).carM c fun k => { k with armedAt := t }

/-- R197, R198: the load of an armed carrier at a load point: every shadow of it and of its legs becomes active
together; a period loads at a zero, or waits for the following zero when loaded at the peak. -/
def State.loadCarrier (s : State) (c : Fin 8) (zero : Bool) (past : Nat) : State :=
  let s := s.rearmedEnter c (s.now - past)
  let per := clampPeriod (s.get (Fd.PWM_C_PER_PER c))
  let s := s.raiseIf per.2 (Ev.PWM_C_FLAGS_CLAMP c)
  let s := if zero then (s.wrN (Reg.PWM_C_ACTPER c) per.1).carM c fun k => { k with nextPer := none }
    else s.carM c fun k => { k with nextPer := some per.1 }
  let k := s.pwm.carriers[c]
  let l := enc 64 ((s.tbl.count : Int) - past)
  let s := s.legsOf c (State.loadLeg l (k.tau - past) (k.abs - past))
  let s := (List.finRange 7).foldl (fun (s : State) (g : Fin 7) =>
    if k.stamps[g] = 0 then s else s.monPost 1 (c.val + 16 * g.val) (roundLatency ((l : Int) - k.stamps[g])) l) s
  let s := s.raise (Ev.PWM_C_FLAGS_LOADED c)
  (s.inc32 (Reg.PWM_C_LOADCNT c)).armAfterLoad c

/-- R199: an armed carrier loads at a load point of instant `l` if its arming landed three PWM cycles ahead. -/
def State.loadIfArmed (s : State) (c : Fin 8) (zero : Bool) (past : Nat) : State :=
  if (s.get Fd.PWM_LOADALL_ALL).testBit c.val && s.pwm.carriers[c].armedAt + 120 ≤ s.now - past then s.loadCarrier c zero past
  else s

/-- R197: LDPT selects this load point. -/
def State.loadsAt (s : State) (c : Fin 8) (zero : Bool) : Bool :=
  match s.get (Fd.PWM_C_CFG_LDPT c) with
  | 0 => zero
  | 1 => !zero
  | _ => true

/-- R200: in a cycle in which an arming lands nothing that lands is late: the LATE that this cycle set is undone, and the
values that it held aside stand as values that landed with the arming. -/
def State.unlate (s : State) (c : Fin 8) : State :=
  match s.pwm.carriers[c].lateSnap with
  | none => s
  | some (t, flag, count) =>
    if t = s.now then
      let fresh (a : Nat) : Bool :=
        s.loadsWith c a && ((s.pwm.landAt == s.now && s.pwm.landRegs.contains a) || (s.pwm.relAt == s.now && s.pwm.relRegs.contains a))
      let (go, stay) := s.pwm.held.partition fun h => fresh h.1
      let s := s.pwmM fun p => { p with held := stay, rearmed := p.rearmed ++ go.map fun h => (h.1, h.2, s.now) }
      let s := (s.put (Fd.PWM_C_FLAGS_LATE c) flag).wrN (Ev.PWM_C_FLAGS_LATE c).cnt count
      s.carM c fun k => { k with lateSnap := none }
    else s

/-- R197, R200: an arming lands; a repeated one only takes the values that land with it. -/
def State.armCarrier (s : State) (c : Fin 8) : State :=
  if (s.get Fd.PWM_LOADALL_ALL).testBit c.val then (s.unlate c).carM c fun k => { k with armCycle := some s.now }
  else (s.put ⟨Reg.PWM_LOADALL, c.val, 1⟩ 1).carM c fun k =>
    { k with armedAt := s.now, armCycle := some s.now, stamps := Vector.ofFn fun (g : Fin 7) => s.stamp (Reg.MODIN_GSTAMP_LO g) }

/-- R77, R199: a steward's write to the PWM domain: it lands in the cycle of the landing before it, or in one of its
own. -/
def State.stewardLand (s : State) (a : Nat) (v : Word) (same : Bool) (f : State → State) : State :=
  if same && s.pwmClk then f s else s.landPwm a v f

/-- R197: a write of PWM_LOADALL lands. -/
def State.loadallWrite (s : State) (mask : Nat) (same : Bool) : State :=
  s.stewardLand Reg.PWM_LOADALL (BitVec.ofNat 32 mask) same fun s =>
    (List.finRange 8).foldl (fun s (c : Fin 8) => if mask.testBit c.val then s.armCarrier c else s) s

/-- A value is held aside, replacing an earlier one for the same shadow. -/
def holdAside (a : Nat) (v : Word) : List (Nat × Word) → List (Nat × Word)
  | [] => [(a, v)]
  | (b, w) :: t => if a = b then (a, v) :: t else (b, w) :: holdAside a v t

/-- R199, R200: a cancel lands; it disarms and held values enter their shadows, unless the load point that the arming
meets is less than 120 tbu ahead: then only a repeated arming that came too late for it is cancelled. -/
def State.loadCancel (s : State) (c : Fin 8) : State :=
  let k := s.pwm.carriers[c]
  let at' (l : Nat) : Nat := s.now + (l - k.abs)
  match s.nextLoad c with
  | some l =>
    if k.run && l < k.abs + 120 && k.armedAt + 120 ≤ at' l then
      s.pwmM fun p =>
        let (late, stay) := p.rearmed.partition fun h => s.loadsWith c h.1 && decide (at' l < h.2.2 + 120)
        { p with rearmed := stay, held := p.held.foldl (fun l h => holdAside h.1 h.2 l) (late.foldl (fun l h => holdAside h.1 h.2.1 l) []) }
    else ((s.put ⟨Reg.PWM_LOADALL, c.val, 1⟩ 0).rearmedEnter c (s.now + 120)).heldEnter c
  | none => s

/-- R199: a write of PWM_LOADCNCL lands. -/
def State.loadcnclWrite (s : State) (mask : Nat) : State :=
  s.landPwm Reg.PWM_LOADCNCL (BitVec.ofNat 32 mask) fun s =>
    (List.finRange 8).foldl (fun s (c : Fin 8) => if mask.testBit c.val then s.loadCancel c else s) s

/-- R200: a value lands on a shadow while its carrier is armed and no arming lands in this cycle: LATE, and it is held
aside. -/
def State.shadowLate (s : State) (c : Fin 8) (a : Nat) (v : Word) : State :=
  let snap := match s.pwm.carriers[c].lateSnap with
    | some (t, f, n) => if t = s.now then (t, f, n) else (s.now, s.get (Fd.PWM_C_FLAGS_LATE c), s.rdN (Ev.PWM_C_FLAGS_LATE c).cnt)
    | none => (s.now, s.get (Fd.PWM_C_FLAGS_LATE c), s.rdN (Ev.PWM_C_FLAGS_LATE c).cnt)
  ((s.carM c fun k => { k with lateSnap := some snap }).raise (Ev.PWM_C_FLAGS_LATE c)).pwmM fun p =>
    { p with held := holdAside a v p.held }

/-- R200: a value lands on a shadow: it enters it, or is held aside with LATE while the carrier is armed and no arming
lands in this cycle; one that lands with a repeated arming loads with it, after those of earlier repeated armings. -/
def State.shadowEnter (s : State) (sh : Shadow) (v : Word) (armsNow : Bool) : State :=
  let c := s.shadowCar sh
  let a := shadowReg sh
  let v := BitVec.ofNat 32 (v.toNat % shadowMask sh)
  let armed := (s.get Fd.PWM_LOADALL_ALL).testBit c.val
  if armed && !armsNow then s.shadowLate c a v
  else
    let s := s.pwmM fun p => { p with held := p.held.filter (fun h => h.1 != a) }
    if armed && s.pwm.carriers[c].armedAt != s.now then s.pwmM fun p => { p with rearmed := p.rearmed ++ [(a, v, s.now)] }
    else (s.pwmM fun p => { p with rearmed := p.rearmed.filter (fun h => h.1 != a) }).wr a v

/-- R199, R200: a steward write lands, in a PWM cycle of its own or in the cycle of the landing before it; one that
meets a release on its shadow in the same cycle is lost. -/
def State.shadowWrite (s : State) (sh : Shadow) (v : Word) (same : Bool) : State :=
  let a := shadowReg sh
  s.stewardLand a v same fun s =>
    if s.pwm.relAt == s.now && s.pwm.relRegs.contains a then s.raise Ev.PWM_GFLAGS_WCOLL
    else
      (s.shadowEnter sh v (s.pwm.carriers[s.shadowCar sh].armCycle == some s.now)).pwmM fun p =>
        { p with landRegs := if p.landAt = s.now then a :: p.landRegs else [a], landAt := s.now }

/-- R200: a release lands on a shadow; a steward write of the same cycle is lost. -/
def State.shadowRelease (s : State) (sh : Shadow) (v : Word) (arms : Bool) : State :=
  let a := shadowReg sh
  let s := s.raiseIf (s.pwm.landAt == s.now && s.pwm.landRegs.contains a) Ev.PWM_GFLAGS_WCOLL
  (s.shadowEnter sh v (arms || s.pwm.carriers[s.shadowCar sh].armCycle == some s.now)).pwmM fun p =>
    { p with relRegs := if p.relAt = s.now then a :: p.relRegs else [a], relAt := s.now }

/-- R200: the value a read of a shadow register returns. -/
def State.shadowRead (s : State) (a : Nat) : Word :=
  match s.pwm.held.find? (fun h => h.1 == a) with
  | some h => h.2
  | none => match (s.pwm.rearmed.filter fun h => h.1 == a).getLast? with
    | some h => h.2.1
    | none => s.rd a

/-! ### Carrier events (R189, R191) -/

/-- R195: at a zero at `abs` `z` the edge-mode pulse repeats at the loaded offsets; pulses that have ended are dropped. -/
def State.edgeRepeat (z : Nat) (s : State) (n : Fin 48) : State :=
  s.legM n fun g =>
    let a := z + g.edgeL + g.edgeA
    let b := z + g.edgeL + g.edgeB
    { g with zeroSeen := false, pulses := (g.pulses.filter fun e => decide (z < e.2)) ++ (if a < b then [(a, b)] else []) }

/-- R189, R191: a zero that lies `past` tbu before the present instant: the new period starts, the zero source fires,
an armed carrier loads at a zero load point, and legs whose forcing ended resume. -/
def State.zeroAt (s : State) (c : Fin 8) (past : Nat) : State :=
  let exact := enc 64 ((s.tbl.count : Int) - past)
  let s := s.legsOf c fun s n => s.legZero n (s.pwm.carriers[c].tau - past - 1)
  let s := match s.pwm.carriers[c].nextPer with
    | some p => (s.wrN (Reg.PWM_C_ACTPER c) p).carM c fun k => { k with nextPer := none }
    | none => s
  let s := s.carM c fun k => { k with tau := past, peaked := false }
  let s := s.legsOf c (State.edgeRepeat (s.pwm.carriers[c].abs - past))
  let s := s.fire (68 + c.val) exact
  let s := if s.loadsAt c true then s.loadIfArmed c true past else s
  let s := s.legsOf c State.legZeroNow
  let s := s.legsOf c (State.resumeLeg (s.now - past))
  s.dcZero c.val exact

/-- R189: a running carrier reaches its zero. -/
def State.carrierZero (s : State) (c : Fin 8) : State :=
  if s.pwm.carriers[c].run && s.pwmRuns then
    let s := s.reachTau c (s.period c)
    s.zeroAt c (s.pwm.carriers[c].tau - s.period c)
  else s

/-- R189: a running carrier reaches its peak. -/
def State.carrierPeak (s : State) (c : Fin 8) : State :=
  if s.pwm.carriers[c].run && s.pwmRuns && !s.pwm.carriers[c].peaked then
    let h := s.half c
    let s := s.reachTau c h
    let past := s.pwm.carriers[c].tau - h
    let s := s.carM c fun k => { k with peaked := true }
    let s := s.fire (76 + c.val) (enc 64 ((s.tbl.count : Int) - past))
    if s.loadsAt c false then s.loadIfArmed c false past else s
  else s

/-- R191: a restart `past` tbu ago: the counter is 0 and a new period starts at once; reference edges that the old period
still owed do not occur. It is a zero in every other respect. In a freeze, in which the counters stop, it waits for the
end of the freeze (log entry 23). -/
def State.restart (s : State) (c : Fin 8) (past : Nat) : State :=
  if !s.on (Fd.PWM_C_CFG_EN c) then s
  else if s.pwm.frozen then s.carM c fun k => { k with restartPend := true }
  else
    let s := s.carM c fun k =>
      { k with run := true, restartPend := false, abs := if k.run then k.abs else k.abs + past }
    let s := s.put ⟨Reg.PWM_STATUS, 8 + c.val, 1⟩ 1
    let x := s.pwm.carriers[c].abs - past
    let s := s.legsOf c fun s n => s.legM n fun g =>
      { g with holdTo := 0, drop := none, last := x, pulses := [] }
    let s := s.zeroAt c past
    s.legsOf c fun s n => s.legApply n (s.now - past)

/-- R191: a launch of target c restarts the carrier 160 tbu after the exact time of its source. -/
def State.carrierRestart (s : State) (c : Fin 8) : State :=
  s.takeLaunch c.val fun s l =>
    let s := s.reachCount (l.exact + 160)
    s.restart c (s.tbl.count - (l.exact + 160))

/-- R191: a write of PWM_RESTART reaches the PWM domain. -/
def State.pwmRestartWrite (s : State) (mask : Nat) : State :=
  s.landPwm Reg.PWM_RESTART (BitVec.ofNat 32 mask) fun s =>
    (List.finRange 8).foldl (fun s (c : Fin 8) => if mask.testBit c.val then s.restart c 0 else s) s

/-- R191, R202: a leg whose carrier does not run, or follows another one, has no pulse in progress. -/
def State.noPulse (s : State) (n : Fin 48) : State :=
  s.legM n fun g => { g with holdTo := 0, drop := none, pulseAt := none, pulses := [], zeroSeen := true, last := s.pwm.carriers[s.carOf n].abs }

/-- R191: EN = 0 stops the carrier; its legs' REF reads low and they hold both switches off. -/
def State.carrierStop (s : State) (c : Fin 8) : State :=
  let s := (s.put (Fd.PWM_C_CFG_EN c) 0).put ⟨Reg.PWM_STATUS, 8 + c.val, 1⟩ 0
  let s := s.carM c fun k => { k with run := false, tau := 0, peaked := false, restartPend := false }
  s.legsOf c fun s n => ((s.put (Fd.PWM_LEG_STATE_REF n) 0).noPulse n).legApply n s.now

/-- R211: a write of PWM_Cc_CFG. -/
def State.carrierCfgWrite (s : State) (c : Fin 8) (v : Word) : State :=
  s.landPwm (Reg.PWM_C_CFG c) v fun s =>
    let en := v.getLsbD 0
    let mode := cut v.toNat 1 1
    let ldpt := cut v.toNat 2 2
    let changes := decide (mode ≠ s.get (Fd.PWM_C_CFG_MODE c) ∨ ldpt ≠ s.get (Fd.PWM_C_CFG_LDPT c))
    if ldpt = 3 ∨ (s.on (Fd.PWM_C_CFG_EN c) && changes) then s.raise Ev.PWM_GFLAGS_CFGERR
    else
      let s := (s.put (Fd.PWM_C_CFG_MODE c) mode).put (Fd.PWM_C_CFG_LDPT c) ldpt
      if en then s.put (Fd.PWM_C_CFG_EN c) 1 else if s.on (Fd.PWM_C_CFG_EN c) then s.carrierStop c else s

/-! ### Reference edges (R192, R201, R202) -/

/-- R192: the next instant (carrier `abs`) at which REF leaves its level, if it lies in the current period. -/
def State.nextEdge (s : State) (n : Fin 48) : Option Nat :=
  let c := s.carOf n
  let k := s.pwm.carriers[c]
  let g := s.pwm.legs[n]
  let start := k.abs - k.tau
  match s.refNext n (max start (max g.last g.holdTo) : Nat) (s.on (Fd.PWM_LEG_STATE_REF n)) with
  | none => none
  | some x => if x < (start + s.period c : Nat) then some x.toNat else none

/-- R201, R202: a pulse of level `v` starts at `x`. A short one is dropped, so that REF keeps its level across it, or
stretched; any other takes effect. -/
def State.edgeTake (s : State) (n : Fin 48) (x : Nat) (v : Bool) : State :=
  let least := (s.leastW n v).getD 0
  let (e, short) := s.pulseOf n x v
  let s := s.raiseIf short (Ev.PWM_LEG_FLAGS_SHORT n)
  if short && !s.on (Fd.PWM_LEG_CFG_SHORTACT n) then
    s.legM n fun g => { g with last := x, holdTo := (e.getD x).toNat, drop := some (x, least) }
  else
    let at' := s.now + x - s.pwm.carriers[s.carOf n].abs
    let s := (s.putB (Fd.PWM_LEG_STATE_REF n) v).legM n fun g =>
      { g with last := x, drop := none, pulseAt := some x, pulseDt := (s.pulseDt n v).getD 0, pulseMin := s.minp n
               pulseShort := short, holdTo := if short then x + least else 0 }
    s.legApply n at'

/-- R198, R202: whether the running pulse would end at `x` too short for the values in force at its start, because a load
moved its end. -/
def State.cutShort (s : State) (n : Fin 48) (x : Nat) : Bool :=
  let g := s.pwm.legs[n]
  match g.pulseAt with
  | some p => !g.pulseShort && (s.pulseDt n (s.on (Fd.PWM_LEG_STATE_REF n))).isSome && decide (x < p + g.pulseDt + g.pulseMin)
  | none => false

/-- R192, R202: REF would leave its level at `x`: a pulse that a load has made short is stretched, or stands, and is
counted once; else the next pulse starts. -/
def State.edgeAt (s : State) (n : Fin 48) (x : Nat) : State :=
  let g := s.pwm.legs[n]
  let v := !s.on (Fd.PWM_LEG_STATE_REF n)
  if s.cutShort n x then
    let s := (s.raise (Ev.PWM_LEG_FLAGS_SHORT n)).legM n fun g => { g with pulseShort := true }
    if s.on (Fd.PWM_LEG_CFG_SHORTACT n) then
      s.legM n fun h => { h with last := x, drop := none, holdTo := g.pulseAt.getD x + g.pulseDt + g.pulseMin }
    else s.edgeTake n x v
  else s.edgeTake n x v

/-- R192: a leg's reference changes level. -/
def State.refEdge (s : State) (n : Fin 48) : State :=
  let c := s.carOf n
  if s.pwm.carriers[c].run && s.pwmRuns then
    match s.nextEdge n with
    | none => s
    | some x =>
      let k := s.pwm.carriers[c]
      (s.reachTau c (k.tau + (x - k.abs))).edgeAt n x
  else s

/-- R201, R203: a switch's dead time expires and it turns on unless the interlock holds it. -/
def State.deadTimeEnd (s : State) (n : Fin 48) : State :=
  if s.pwmRuns then
    match s.pwm.legs[n].turnOn with
    | none => s
    | some (_, d) =>
      let s := s.reachNow d
      (s.legApply n (max d (s.now - 40))).heldShow n
  else s

/-- R206: a forced leg's safe switch turns on once the other has been off for its dead time and 2–3 PWM cycles have
passed since the force asserted. -/
def State.forceSafeOn (s : State) (n : Fin 48) : State :=
  let g := s.pwm.legs[n]
  if g.forced && !s.on Fd.PWM_FSTAT_PFW && s.pwmRuns then
    let s := s.reachNow (g.forcedAt + 80)
    let s := s.legM n fun g => { g with safeOn := true }
    let h := s.on (Fd.PWM_LEG_STATE_H n)
    let l := s.on (Fd.PWM_LEG_STATE_L n)
    let s := s.legApply n s.now
    let s := match s.pwm.legs[n].turnOn with
      | some (_, d) => (s.reachNow d).legApply n (s.reachNow d).now
      | none => s
    let s := if !h && s.on (Fd.PWM_LEG_STATE_H n) then s.movedEdge n false false s.now else s
    if !l && s.on (Fd.PWM_LEG_STATE_L n) then s.movedEdge n true false s.now else s
  else s

/-- R203: a write of PWM_LEGn_OVR lands. -/
def State.legOvrWrite (s : State) (n : Fin 48) (v : Word) : State :=
  s.landPwm (Reg.PWM_LEG_OVR n) v fun s =>
    let s := s.wrN (Reg.PWM_LEG_OVR n) (cut v.toNat 0 3)
    s.legApply n s.now

/-- R211: a write of PWM_LEGn_CFG takes effect. -/
def State.legCfgLand (s : State) (n : Fin 48) (v : Word) : State :=
  let w := v.toNat
  let en := s.on (Fd.PWM_LEG_CFG_EN n)
  let edge := decide (cut w 6 1 ≠ s.get (Fd.PWM_LEG_CFG_EDGE n))
  let changes := edge || decide (cut w 1 3 ≠ s.get (Fd.PWM_LEG_CFG_CAR n) ∨ cut w 4 2 ≠ s.get (Fd.PWM_LEG_CFG_MODE n))
  if cut w 12 2 = 3 then s.raise Ev.PWM_GFLAGS_CFGERR
  else if en && changes then
    if v.getLsbD 0 then s.raise Ev.PWM_GFLAGS_CFGERR
    else (s.put (Fd.PWM_LEG_CFG_EN n) 0).legApply n s.now
  else
    let s := s.wrN (Reg.PWM_LEG_CFG n) (cut w 0 11 + 2 ^ 12 * cut w 12 2)
    let s := if changes then s.noPulse n else s
    let s := if edge then s.legM n fun g => { g with edgeA := 0, edgeB := 0 } else s
    let k := s.pwm.carriers[s.carOf n]
    let s := if k.run then (if en then s else s.legM n fun g => { g with last := k.abs, holdTo := 0, drop := none })
      else s.put (Fd.PWM_LEG_STATE_REF n) 0
    let s := s.forceLeg n
    s.legApply n s.now

/-- R211: a write of PWM_LEGn_CFG. -/
def State.legCfgWrite (s : State) (n : Fin 48) (v : Word) : State := s.landPwm (Reg.PWM_LEG_CFG n) v fun s => s.legCfgLand n v

/-- R204, R205: a write of a force mask or of PWM_FLTINCFG. -/
def State.forceCfgWrite (s : State) (a : Nat) (v : Word) : State := s.landPwm a v fun s => (s.plainWrite a v).forceUpdate

/-- R201, R202: a write of PWM_LEGn_DT or PWM_LEGn_MINP, in force from the next REF edge. -/
def State.legTimeWrite (s : State) (a : Nat) (v : Word) : State := s.landPwm a v fun s => s.plainWrite a v

/-- R209: a write of PWM_LEGn_GUARD reaches the guard in the SAFE clock domain in 20–30 ns (log entry 49). -/
def State.guardWrite (s : State) (a : Nat) (v : Word) : State := (s.advance 8).plainWrite a v

/-! ### Force pins, freeze, guard, calibration (R205–R209) -/

/-- R205: a FLTIN pin reaches its active level, or leaves it, through the filter. -/
def State.fltinSet (s : State) (i : Fin 8) (b : Bool) : State := s.forceSet (.fltin i) b

/-- R208: the edges that lie in the PWM cycle in which a freeze takes effect complete: a REF edge and a dead time's end of
each leg. -/
def State.cycleEdges (s : State) : State :=
  (List.finRange 48).foldl (fun s (n : Fin 48) =>
    let k := s.pwm.carriers[s.carOf n]
    let s := match (if k.run then s.nextEdge n else none) with
      | some x => if x < k.abs + 40 then s.edgeAt n x else s
      | none => s
    match s.pwm.legs[n].turnOn with
    | some (high, d) => if d < s.now + 40 then (s.ballOn n high d).heldShow n else s
    | none => s) s

/-- R208: the unit freezes in this PWM cycle. -/
def State.freezeNow (s : State) : State :=
  if s.pwm.frozen then s
  else
    let s := s.cycleEdges
    (s.put Fd.PWM_STATUS_FROZEN 1).pwmM fun p => { p with frozen := true, frozenAt := s.now }

/-- R208: a selected debug halt freezes the unit, or forces every leg safe. -/
def State.pwmFreeze (s : State) : State :=
  if s.selHalted then
    if s.on Fd.PWM_CTRL_DBGACT then
      (((s.raise Ev.PWM_FSTAT_DBG).raise Ev.PWM_GFLAGS_DBGF)).forceLegs
    else if s.pwm.frozen then s
    else (s.advance 2).freezeNow
  else s

/-- R208: a freeze ends: running carriers go on from their frozen counters and set PHLOST; timers go on, and restarts that
waited take place. -/
def State.unfreeze (s : State) : State :=
  if s.pwm.frozen then
    let d := s.now - s.pwm.frozenAt
    let s := (s.put Fd.PWM_STATUS_FROZEN 0).pwmM fun p =>
      { p with frozen := false
               legs := p.legs.map fun g =>
                { g with turnOn := g.turnOn.map fun t => (t.1, t.2 + d)
                         refresh := g.refresh.map fun r => { r with onAt := r.onAt + d, offAt := r.offAt + d, backAt := r.backAt + d } } }
    let s := (List.finRange 8).foldl (fun s (c : Fin 8) => s.raiseIf s.pwm.carriers[c].run (Ev.PWM_C_FLAGS_PHLOST c)) s
    let s := (List.finRange 8).foldl (fun s (c : Fin 8) => if s.pwm.carriers[c].restartPend then s.restart c 0 else s) s
    (List.finRange 48).foldl (fun s (n : Fin 48) => s.legApply n s.now) s
  else s

/-- R208: the freeze of a debug halt ends when no selected core is halted, or DBGACT has become 1, and the PWM clock runs. -/
def State.pwmFreezeEnd (s : State) : State :=
  if s.pwmClk && !(s.selHalted && !s.on Fd.PWM_CTRL_DBGACT) then s.unfreeze else s

/-- R67, R208: the PWM clock stops. -/
def State.pwmClockStop (s : State) : State := s.freezeNow

/-- R208: the PWM clock returns; a selected halt with DBGACT = 0 keeps the unit frozen. -/
def State.pwmClockReturn (s : State) : State :=
  if s.selHalted && !s.on Fd.PWM_CTRL_DBGACT then s else s.unfreeze

/-- R209: a switch has stayed on for MAXON: both switches go off through the force path and GUARD is set. -/
def State.guardTrip (s : State) (n : Fin 48) : State :=
  let m := s.get (Fd.PWM_LEG_GUARD_MAXON n)
  let g := s.pwm.legs[n]
  match (if m = 0 then none else g.onH.or g.onL) with
  | none => s
  | some t =>
    let s := s.reachNow (t + m * 15200)
    let s := (s.raise (Ev.PWM_LEG_FLAGS_GUARD n)).put (Fd.PWM_LEG_STATE_GUARDED n) 1
    s.legApply n s.now

/-- R209: the clear of GUARD; while a switch is still commanded on past MAXON, or in the cycle of its setting (R9), the set
wins. -/
def State.guardClear (s : State) (n : Fin 48) : State :=
  let m := s.get (Fd.PWM_LEG_GUARD_MAXON n) * tUs
  let g := s.pwm.legs[n]
  let past (o : Option Nat) : Bool := match o with | some t => m != 0 && t + m ≤ s.now | none => false
  if !s.on (Fd.PWM_LEG_STATE_GUARDED n) then s.put (Fd.PWM_LEG_FLAGS_GUARD n) 0
  else if s.justSet (Reg.PWM_LEG_FLAGS n) 3 then s
  else if past g.cmdH || past g.cmdL then s.raise (Ev.PWM_LEG_FLAGS_GUARD n)
  else
    let s := (s.put (Fd.PWM_LEG_FLAGS_GUARD n) 0).put (Fd.PWM_LEG_STATE_GUARDED n) 0
    (s.legM n fun g => { g with waits := true, waitSafe := false, clearAt := s.now }).legApply n s.now

/-- R209, R213: a write of PWM_LEGn_FLAGS. -/
def State.legFlagsWrite (s : State) (n : Fin 48) (v : Word) : State :=
  let s := s.plainWrite (Reg.PWM_LEG_FLAGS n) (BitVec.ofNat 32 (v.toNat &&& 7))
  if v.getLsbD 3 then s.guardClear n else s

/-- R194: a calibration that cannot span one PWM cycle is discarded. -/
def State.calibrate (s : State) (n : Fin 48) (spans : Bool) : State :=
  if spans then s else (s.raise Ev.PWM_GFLAGS_CALERR).put Fd.PWM_CALSTAT_LEG n.val

/-- R207, R208: a write of PWM_FSTAT lands; SYS clears unless it latches in this cycle (R9), and DBG when no selected core
is halted. -/
def State.fstatWrite (s : State) (v : Word) : State :=
  s.landPwm Reg.PWM_FSTAT v fun s =>
    let s := (List.range 8).foldl (fun s (k : Nat) => if v.getLsbD k then s.forceClear k else s) s
    let s := if v.getLsbD 16 && !s.justSet Reg.PWM_FSTAT 16 then (s.put Fd.PWM_FSTAT_SYS 0).forceLegs else s
    if v.getLsbD 18 then
      (if s.justSet Reg.PWM_FSTAT 18 then s
       else if s.selHalted && s.on Fd.PWM_CTRL_DBGACT then (s.raise Ev.PWM_FSTAT_DBG).raise Ev.PWM_GFLAGS_DBGF
       else (s.put Fd.PWM_FSTAT_DBG 0).forceLegs)
    else s

/-- R213: a write of PWM_CTRL. -/
def State.pwmCtrlWrite (s : State) (v : Word) : State :=
  s.landPwm Reg.PWM_CTRL v fun s =>
    let held := s.on Fd.PWM_STATUS_HUWAIT || !s.on Fd.PWM_CTRL_OUTEN
    (s.wrN Reg.PWM_CTRL (cut v.toNat 0 2)).outputsChanged held

/-- R213: the leg flags that are set with their enable, per leg. -/
def State.legPend (s : State) : Nat :=
  let en := s.get Fd.PWM_LEGIRQEN_EN
  (List.range 48).foldl (fun m (n : Nat) => if (s.get ⟨Reg.PWM_LEG_FLAGS n, 0, 4⟩ &&& en) != 0 then m + 2 ^ n else m) 0

/-! ### The meanings -/

/-- R189. -/
def execCarrierZero (c : Fin 8) (s : State) : Result := .next (s.carrierZero c)
/-- R189. -/
def execCarrierPeak (c : Fin 8) (s : State) : Result := .next (s.carrierPeak c)
/-- R191. -/
def execCarrierRestart (c : Fin 8) (s : State) : Result := .next (s.carrierRestart c)
/-- R191. -/
def execPwmRestartWrite (m : BitVec 8) (s : State) : Result := .next (s.pwmRestartWrite m.toNat)
/-- R211. -/
def execCarrierCfgWrite (c : Fin 8) (v : Word) (s : State) : Result := .next (s.carrierCfgWrite c v)
/-- R197. -/
def execLoadallWrite (x : LoadallMask) (s : State) : Result := .next (s.loadallWrite x.mask.toNat x.same)
/-- R197: 3 PWM cycles after the match. -/
def execCarrierLoadallLaunch (c : Fin 8) (s : State) : Result :=
  .next (s.takeLaunch (8 + c.val) fun s _ => s.armCarrier c)
/-- R199. -/
def execLoadcnclWrite (m : BitVec 8) (s : State) : Result := .next (s.loadcnclWrite m.toNat)
/-- R200. -/
def execShadowWriteLand (sh : Shadow) (v : Word) (same : Bool) (s : State) : Result := .next (s.shadowWrite sh v same)
/-- R192. -/
def execRefEdge (n : Fin 48) (s : State) : Result := .next (s.refEdge n)
/-- R201. -/
def execDeadTimeEnd (n : Fin 48) (s : State) : Result := .next (s.deadTimeEnd n)
/-- R203. -/
def execLegOvrWrite (n : Fin 48) (v : Word) (s : State) : Result := .next (s.legOvrWrite n v)
/-- R211. -/
def execLegCfgWrite (n : Fin 48) (v : Word) (s : State) : Result := .next (s.legCfgWrite n v)
/-- R204. -/
def execForceEventAssert (e : ForceEvent) (s : State) : Result := .next (s.forceSet e true)
/-- R205. -/
def execFltinAssert (i : Fin 8) (s : State) : Result := .next (s.fltinSet i true)
/-- R206. -/
def execForceSafeOn (n : Fin 48) (s : State) : Result := .next (s.forceSafeOn n)
/-- R207. -/
def execForceDomainClear (k : Fin 8) (s : State) : Result := .next (s.fstatWrite (BitVec.ofNat 32 (2 ^ k.val)))
/-- R208. -/
def execPwmFreeze (s : State) : Result := .next s.pwmFreeze
/-- R208. -/
def execPwmFreezeEnd (s : State) : Result := .next s.pwmFreezeEnd
/-- R209. -/
def execMaxonGuardTrip (n : Fin 48) (s : State) : Result := .next (s.guardTrip n)
/-- R194. -/
def execDelayLineCalibration (n : Fin 48) (spans : Bool) (s : State) : Result := .next (s.calibrate n spans)
/-- R207. -/
def execFltinDeassert (i : Fin 8) (s : State) : Result := .next (s.fltinSet i false)

end Sys2Proof.Machine
end

