-- ==== Sys2Proof/Machine/Drive.lean ====
section
/-! DEFINITION. DRIVE: drive-strength frames and lanes, drive codes, high-side refresh, driver faults, retries and
lock-outs (R214–R233). -/
namespace Sys2Proof.Machine

/-- Replaces a group's hidden state. -/
def State.grpM (s : State) (k : Fin 12) (f : Group → Group) : State :=
  { s with drive := { s.drive with groups := s.drive.groups.upd k f } }

/-- R204: the group's lock-out line. -/
def State.setLock (s : State) (k : Fin 12) (b : Bool) : State :=
  let s := { s with drive := { s.drive with locked := setBit s.drive.locked k.val b } }
  (s.putB ⟨Reg.PWM_FSTAT, 20 + k.val, 1⟩ b).forceLegs

/-- The FLT_N levels of a group. -/
def State.grpFltn (s : State) (k : Fin 12) : Nat := cut s.drive.fltn.toNat (4 * k.val) 4

/-- The FLT_N levels of a group change. -/
def State.setFltn (s : State) (k : Fin 12) (v : Nat) : State :=
  let s := { s with drive := { s.drive with fltn := BitVec.ofNat 48 (paste s.drive.fltn.toNat (4 * k.val) 4 v) } }
  s.put (Fd.DRIVE_G_STAT_FLTN k) v

/-- R214: the level of a leg's pin: high for a switch that is on, or low where the group's polarity bit says active low;
the off level follows it. None: the pin's bank has no supply, or the test logic has taken the ball (R495, R505). -/
def State.legPin (s : State) (n : Fin 48) (high : Bool) : Option Bool :=
  let k := n.val / 4
  if s.get ⟨Reg.SYSCFG_PAD (if k < 6 then 2 else 3), 8, 2⟩ = 0 ∨ s.dport.pads ≠ .normal then none
  else some <| if high then s.on (Fd.PWM_LEG_STATE_H n) != s.on (Fd.DRIVE_G_CFG_HPOL k) else s.on (Fd.PWM_LEG_STATE_L n) != s.on (Fd.DRIVE_G_CFG_LPOL k)

/-- R221: the lane is in break. -/
def State.inBreak (s : State) (k : Fin 12) : Bool :=
  !s.on (Fd.DRIVE_G_CFG_LANEEN k) || s.get (Fd.DRIVE_G_STAT_STATE k) == 1 || s.get (Fd.DRIVE_G_STAT_STATE k) == 2 ||
  s.drive.groups[k].reports != 0 || s.pmu.warned || !s.pwmClk

/-- DRIVE_GkSTAT.BREAK shows the lane. -/
def State.breakShow (s : State) (k : Fin 12) : State := s.putB (Fd.DRIVE_G_STAT_BREAK k) (s.inBreak k)

/-- R215: the first bit boundary at or after `t`: every fourth PWM clock edge counted from the divider release. -/
def State.bitUp (s : State) (t : Nat) : Nat := s.drive.gridAt + (t - s.drive.gridAt + 159) / 160 * 160

/-- R221: a break ends: 400 ns low, then the priming burst of 2,560 ns from a bit boundary on. -/
def State.prime (s : State) (k : Fin 12) : State :=
  let t := s.bitUp (s.now + 400 * tNs) + 2560 * tNs
  (s.grpM k fun g => { g with slots := [], late := [], priming := some t, freeAt := t }).breakShow k

/-! ### Frames (R215–R220) -/

/-- R217: one bit of the CRC-4 with polynomial x^4 + x + 1. -/
def crc4Step (c : Nat) (b : Bool) : Nat :=
  let top := c.testBit 3 != b
  let c := (c * 2) % 16
  if top then c ^^^ 3 else c

/-- R217: the CRC-4 over bits [14:5] of a frame. -/
def crc4 (w : Nat) : Nat := (List.range 10).foldl (fun c (i : Nat) => crc4Step c (w.testBit (14 - i))) 0

/-- R216: a frame word. -/
def frameWord (leg : Nat) (low off : Bool) (step : Nat) (cpen ka : Bool) : Nat :=
  let w := 2 ^ 15 + 2 ^ 13 * (leg % 4) + 2 ^ 12 * low.toNat + 2 ^ 11 * off.toNat + 2 ^ 7 * (step % 16) + 2 ^ 6 * cpen.toNat + 2 ^ 5 * ka.toNat
  w + 2 * crc4 w

/-- R223: the bit position of a pair's step in the drive-code word. -/
def pairLo (pair : Nat) : Nat := 4 * (pair % 4)

/-- R224, R233: the CPEN a frame of the leg carries: 0 while the leg's supply is in bootstrap mode. -/
def State.frameCpen (s : State) (n : Nat) : Bool :=
  (s.pwm.legs[Fin.ofNat 48 n]).chargePump && s.on (Fd.DRIVE_LEG_CODE_CPEN n)

/-- R193, R201, R219: the instants at which a switch turns on, or off, at edges of REF given with the level they lead to. -/
def State.switchTimes (s : State) (n : Fin 48) (low off : Bool) (edges : List (Int × Bool)) : List Int :=
  let at' (v : Bool) (d : Nat) : List Int := (edges.filter fun e => e.2 == v).map fun e => e.1 + d
  match s.get (Fd.PWM_LEG_CFG_MODE n), low, off with
  | 0, false, false => at' true (s.get (Fd.PWM_LEG_DT_DTR n))
  | 0, false, true => at' false 0
  | 0, true, false => at' false (s.get (Fd.PWM_LEG_DT_DTF n))
  | 0, true, true => at' true 0
  | 1, false, false => at' true 0
  | 1, false, true => at' false 0
  | 2, true, false => at' true 0
  | 2, true, true => at' false 0
  | _, _, _ => []

/-- R219: the edges of REF from the instant `z` on at which a leg that is held takes REF's level again: one at `z`, if a switch
turns on there, and those after it. -/
def State.edgesFrom (s : State) (n : Fin 48) (off : Bool) (z : Nat) : List (Int × Bool) :=
  let abs := s.pwm.carriers[s.carOf n].abs
  let x : Int := (abs : Int) + z - s.now
  let v := s.refAt n x
  let later := (s.refPlan n 6 x v).map fun e => ((s.now : Int) + e.1 - abs, e.2)
  if off then later else ((z : Int), v) :: later

/-- R207: the carrier zero at which a waiting leg follows REF again. -/
def State.resumeAt (s : State) (n : Fin 48) : Nat :=
  let c := s.carOf n
  let z := s.now + (s.period c - s.pwm.carriers[c].tau)
  if s.pwm.legs[n].clearAt + 120 ≤ z then z else z + s.period c

/-- R219: the instants of a switch's edges to come in one direction, as known now: a running dead time's end, the safe level of a
force, the steps of a refresh, the edges from the zero at which the leg resumes, and those that REF will make, short pulses
left out or stretched. -/
def State.switchEdges (s : State) (n : Fin 48) (low off : Bool) : List Int :=
  let k := s.pwm.carriers[s.carOf n]
  let g := s.pwm.legs[n]
  let timer : List Int := match g.turnOn with
    | some (h, d) => if h = !low ∧ !off then [(d : Int)] else []
    | none => []
  if s.isOff n || !s.pwmRuns then []
  else if g.forced then
    let safe := s.get (Fd.PWM_LEG_CFG_SAFE n)
    timer ++ if !off && !g.safeOn && !s.on Fd.PWM_FSTAT_PFW && safe == (if low then 1 else 2) then [(g.forcedAt : Int) + 80] else []
  else
    match g.refresh with
    | some r =>
      let own : List Int := if low && s.get (Fd.PWM_LEG_CFG_MODE n) == 0 then
          (if off then (if r.step ≤ 2 then [(r.offAt : Int)] else []) else if r.step = 1 then [(r.onAt : Int)] else [])
        else []
      let ovr := !off && s.on (if low then Fd.PWM_LEG_OVR_L n else Fd.PWM_LEG_OVR_H n)
      own ++ if s.on (Fd.PWM_LEG_OVR_EN n) then (if ovr then [(r.backAt : Int)] else []) else s.switchTimes n low off (s.edgesFrom n off r.backAt)
    | none =>
      if s.on (Fd.PWM_LEG_OVR_EN n) then timer
      else if g.waits then s.switchTimes n low off (s.edgesFrom n off (s.resumeAt n))
      else
        let x0 := max ((max g.last g.holdTo : Nat) : Int) (s.startOf (s.carOf n))
        let plan := (s.refPlan n 6 x0 (s.on (Fd.PWM_LEG_STATE_REF n))).map fun e => ((s.now : Int) + e.1 - k.abs, e.2)
        timer ++ s.switchTimes n low off plan

/-- R219: the distance in tbu from instant `t` to the leg's next edge of a switch and direction, as known now. -/
def State.switchEdge (s : State) (n : Fin 48) (low off : Bool) (t : Nat) : Option Nat :=
  (s.switchEdges n low off).foldl (fun m e =>
    if e < (t : Int) then m else some (match m with | some d => min d (e - t).toNat | none => (e - t).toNat)) none

/-- R219: a frame of the pair started at `t` would end less than 200 ns before the next edge of its switch and
direction. -/
def State.tooLate (s : State) (k : Fin 12) (pair t : Nat) : Bool :=
  match s.switchEdge (Fin.ofNat 48 (4 * k.val + pair / 4)) (pair / 2 % 2 == 1) (pair % 2 == 1) t with
  | some d => decide (d < 360 * tNs)
  | none => false

/-- R216, R219: the lane sends the frame of a pair from the present bit boundary on; DRIVE_LEGn_SENT shows what was
sent. -/
def State.sendFrame (s : State) (k : Fin 12) (pair : Nat) (ka : Bool) : State :=
  let n := 4 * k.val + pair / 4
  let s := s.legZeroNow (Fin.ofNat 48 n)
  let step := cut (s.rdN (Reg.DRIVE_LEG_CODE n)) (pairLo pair) 4
  let cpen := s.frameCpen n
  let w := frameWord (pair / 4) (pair / 2 % 2 == 1) (pair % 2 == 1) step cpen ka
  let s := (s.put ⟨Reg.DRIVE_LEG_SENT n, pairLo pair, 4⟩ step).putB ⟨Reg.DRIVE_LEG_SENT n, 16, 1⟩ cpen
  s.grpM k fun g =>
    { g with slots := g.slots.erase pair, late := g.late.erase pair, freeAt := s.now + 160 * tNs
             frames := (⟨pair / 4, pair / 2 % 2 == 1, pair % 2 == 1, s.now, w⟩ :: g.frames).take 3 }

/-- The lane may carry frames: it is not in break and no priming burst runs. -/
def State.laneOpen (s : State) (k : Fin 12) : Bool := !s.inBreak k && s.drive.groups[k].priming.isNone

/-- R219: the frame of a pair waits past its edge: LATEFR is set, once while it waits. -/
def State.frameWaits (s : State) (k : Fin 12) (pair : Nat) : State :=
  if s.drive.groups[k].late.contains pair then s
  else (s.raise (Ev.DRIVE_G_FLAGS_LATEFR k)).grpM k fun g => { g with late := pair :: g.late }

/-- R218, R219: the lane's next frame starts at the first bit boundary after the lane is free: the pending frames go in
the order in which their slots were filled, and one that would end too close to its edge holds its place until that edge
has passed, with LATEFR. -/
def State.dslFrameSend (s : State) (k : Fin 12) : State :=
  if s.laneOpen k then
    match s.drive.groups[k].slots with
    | [] => s
    | pair :: _ =>
      let s := s.reachNow (s.bitUp (max s.now s.drive.groups[k].freeAt))
      if s.tooLate k pair s.now then s.frameWaits k pair else s.sendFrame k pair false
  else s

/-- R220: a lane idle for 10 µs refreshes the next pair. -/
def State.dslRefresh (s : State) (k : Fin 12) : State :=
  let g := s.drive.groups[k]
  if s.laneOpen k && g.slots.isEmpty then
    let s := s.reachNow (s.bitUp (max s.now (g.freeAt + 10 * tUs)))
    if s.tooLate k g.refresh s.now then s.frameWaits k g.refresh
    else (s.sendFrame k g.refresh true).grpM k fun g => { g with refresh := (g.refresh + 1) % 16 }
  else s

/-! ### Drive codes (R223) -/

/-- R218: a pair's slot is filled; a filled one keeps its place. -/
def State.fillSlot (s : State) (k : Fin 12) (pair : Nat) : State :=
  s.grpM k fun g => { g with slots := if g.slots.contains pair then g.slots else g.slots ++ [pair] }

/-- R223: a drive-code word is taken: the slots of its changed fields are filled; a changed CPEN sends the HON frame. -/
def State.codeTake (s : State) (n : Fin 48) (v : Word) : State :=
  let old := s.rdN (Reg.DRIVE_LEG_CODE n)
  let new := cut v.toNat 0 17
  let k : Fin 12 := Fin.ofNat 12 (n.val / 4)
  let s := s.wrN (Reg.DRIVE_LEG_CODE n) new
  let s := (List.range 4).foldl (fun s (i : Nat) =>
    if cut old (4 * i) 4 != cut new (4 * i) 4 then s.fillSlot k (4 * (n.val % 4) + i) else s) s
  if old.testBit 16 != new.testBit 16 then s.fillSlot k (4 * (n.val % 4)) else s

/-- R223: a steward's drive-code word lands; one that meets a release on its leg in the same PWM cycle is lost. -/
def State.codeWrite (s : State) (n : Fin 48) (v : Word) (same : Bool) : State :=
  s.stewardLand (Reg.DRIVE_LEG_CODE n) v same fun s =>
    if s.drive.relAt == s.now && s.drive.relLegs.contains n.val then s.raise (Ev.DRIVE_G_FLAGS_WCOLL (n.val / 4))
    else
      let k : Fin 12 := Fin.ofNat 12 (n.val / 4)
      let old := s.rdN (Reg.DRIVE_LEG_CODE n)
      let before := s.drive.groups[k].slots
      let s := s.codeTake n v
      let e := (n.val, old, s.drive.groups[k].slots.filter fun p => !before.contains p)
      { s with drive := { s.drive with
          landLegs := if s.drive.landAt = s.now then e :: s.drive.landLegs else [e], landAt := s.now } }

/-- R223: the steward values that landed on a leg in this cycle are lost to a release: the word and the slots stand as
before them. -/
def State.codeLost (s : State) (n : Fin 48) : State :=
  if s.drive.landAt = s.now then
    (s.drive.landLegs.filter fun e => e.1 == n.val).foldl (fun s e =>
      (s.wrN (Reg.DRIVE_LEG_CODE n) e.2.1).grpM (Fin.ofNat 12 (n.val / 4)) fun g =>
        { g with slots := g.slots.filter fun p => !e.2.2.contains p })
      (s.raiseIf (s.drive.landLegs.any fun e => e.1 == n.val) (Ev.DRIVE_G_FLAGS_WCOLL (n.val / 4)))
  else s

/-- R223: a release lands on a drive-code word. -/
def State.codeRelease (s : State) (n : Fin 48) (v : Word) : State :=
  let s := (s.codeLost n).codeTake n v
  { s with drive := { s.drive with
      relLegs := if s.drive.relAt = s.now then n.val :: s.drive.relLegs else [n.val], relAt := s.now } }

/-! ### High-side supply (R224–R226) -/

/-- R224, R225, R233: refresh pulses are inserted on this leg, by the mode that its next zero, if it has not been counted, brings
into force. -/
def State.needsRefresh (s : State) (n : Fin 48) : Bool :=
  let pump := if s.pwm.legs[n].zeroSeen then s.pwm.legs[n].chargePump else s.on (Fd.DRIVE_LEG_HS_MODE n)
  (!pump || !s.on (Fd.DRIVE_LEG_CODE_CPEN n)) && s.pwmRuns && s.refreshActs n

/-- R225, R226: a refresh is inserted at the leg's zero at `z`: the high switch goes off. -/
def State.refreshStart (s : State) (n : Fin 48) (z : Nat) : State :=
  let on := z + s.get (Fd.PWM_LEG_DT_DTF n)
  let off := on + s.refreshW n
  let s := s.legM n fun g =>
    { g with refresh := some { onAt := on, offAt := off, backAt := off + s.get (Fd.PWM_LEG_DT_DTR n) }, turnOn := none }
  let s := s.inc32 (Reg.DRIVE_LEG_RFCNT n)
  let s := s.raiseIf (decide (s.get (Fd.DRIVE_LEG_HS_RFW n) < s.minp n)) (Ev.DRIVE_G_FLAGS_RFWIDE (n.val / 4))
  s.legApplyWith n false z

/-- R225: the next step of the refresh in progress: the low switch on, in complementary mode only, then off, then REF
takes effect again, a pulse that is being dropped or stretched with it (R202). In high-only mode the zeros are counted from step 3 (log entry 24). -/
def State.refreshStep (s : State) (n : Fin 48) (r : Refresh) : State :=
  match r.step with
  | 1 => ((s.reachNow r.onAt).legM n fun g => { g with refresh := some { r with step := 2 } }).legApplyWith n false r.onAt
  | 2 =>
    let s := ((s.reachNow r.offAt).legM n fun g => { g with refresh := some { r with step := 3 } }).legApplyWith n false r.offAt
    if s.get (Fd.PWM_LEG_CFG_MODE n) = 0 then s else s.legM n fun g => { g with zeros := 0 }
  | _ =>
    let s := s.reachNow r.backAt
    let x := s.pwm.carriers[s.carOf n].abs - (s.now - r.backAt)
    let s := if x < s.pwm.legs[n].holdTo then s.legM n fun g => { g with refresh := none, last := x, turnOn := none }
      else (s.putB (Fd.PWM_LEG_STATE_REF n) (s.refAt n x)).legM n fun g =>
        { g with refresh := none, last := x, holdTo := 0, drop := none, pulseAt := none, turnOn := none }
    s.legApplyWith n false r.backAt

/-- R225: the next step of a leg's refresh; without one in progress, a refresh is inserted at the zero at which the count
reaches K. -/
def State.bootstrapRefresh (s : State) (n : Fin 48) : State :=
  let c := s.carOf n
  let ofs := s.rdN (Reg.PWM_LEG_ACTOFS n)
  let kk := max 1 (s.get (Fd.DRIVE_LEG_HS_K n))
  match s.pwm.legs[n].refresh with
  | some r => if s.pwmRuns then s.refreshStep n r else s
  | none =>
    if s.needsRefresh n && kk ≤ s.pwm.legs[n].zeros + (!s.pwm.legs[n].zeroSeen).toNat then
      let s := if !s.pwm.legs[n].zeroSeen then (s.reachTau c ofs).legZeroNow n else s
      if kk ≤ s.pwm.legs[n].zeros then
        let past := s.pwm.carriers[c].tau - ofs
        s.refreshStart n (if past < 40 then s.now - past else s.now)
      else s
    else s

/-- R233: a write of DRIVE_LEGn_HS: the zeros that have passed kept the mode before it. -/
def State.hsWrite (s : State) (n : Fin 48) (v : Word) : State :=
  s.landPwm (Reg.DRIVE_LEG_HS n) v fun s => (s.legZeroNow n).plainWrite (Reg.DRIVE_LEG_HS n) v

/-! ### Driver faults (R227–R230) -/

/-- R228: WAIT in tbu: 1–1,000 ms. -/
def State.waitTime (s : State) (k : Fin 12) : Nat := max 1 (min 1000 (s.get (Fd.DRIVE_G_RETRY_WAIT k))) * tMs

/-- R228: WINDOW in tbu: 1–60 s. -/
def State.windowTime (s : State) (k : Fin 12) : Nat := max 1 (min 60 (s.get (Fd.DRIVE_G_RETRY_WINDOW k))) * tSec

/-- R228: the group enters or restarts its wait. -/
def State.enterWait (s : State) (k : Fin 12) : State :=
  ((s.put (Fd.DRIVE_G_STAT_STATE k) 1).grpM k fun g => { g with waitEnd := some (s.now + s.waitTime k), priming := none }).breakShow k

/-- R229: the group locks out. -/
def State.lockOut (s : State) (k : Fin 12) : State :=
  (((s.put (Fd.DRIVE_G_STAT_STATE k) 2).raise (Ev.DRIVE_G_FLAGS_LOCK k)).grpM k fun g =>
    { g with waitEnd := none, priming := none, series := none }).breakShow k

/-- R228: a try made at `from_` counts, and the group waits or locks out. -/
def State.countTry (s : State) (k : Fin 12) (from_ : Nat) : State :=
  let t := s.get (Fd.DRIVE_G_STAT_TRIES k)
  let s := if t = 0 then s.grpM k fun g => { g with series := some from_ } else s
  let s := s.put (Fd.DRIVE_G_STAT_TRIES k) (t + 1)
  if s.get (Fd.DRIVE_G_RETRY_MAXTRY k) < t + 1 then s.lockOut k else s.enterWait k

/-- R230: a CLEAR that took effect in this cycle meets a report, which wins: the lock-out stands and CLRREF is set. -/
def State.unclear (s : State) (k : Fin 12) : State :=
  match s.drive.groups[k].cleared with
  | none => s
  | some (t, tries, restored) =>
    if t = s.now then
      (((((s.put (Fd.DRIVE_G_STAT_STATE k) 2).put (Fd.DRIVE_G_STAT_TRIES k) tries).put (Fd.DRIVE_G_STAT_RESTORED k) restored).raise
        (Ev.DRIVE_G_FLAGS_CLRREF k)).grpM k fun g => { g with cleared := none, retrying := false })
    else s

/-- R227, R228, R230: low FLT_Ns have passed the filter: FAULT, the lock-out line and the break; the lowest-numbered leg
of a cycle's reports is the one to be classified. A report of a running group is a try, unless one waits for its
classification already (log entry 25); one during a wait restarts it. -/
def State.faultReport (s : State) (k : Fin 12) (legs : Nat) : State :=
  if legs % 16 = 0 then s
  else
    let s := (s.setFltn k (s.grpFltn k &&& (15 ^^^ (legs % 16)))).unclear k
    let g := s.drive.groups[k]
    let again := g.reports != 0 && g.reportAt == s.now
    let lowest := ((List.range 4).find? legs.testBit).getD 0
    let leg := if again then min lowest (s.get (Fd.DRIVE_G_STAT_LEG k)) else lowest
    let st := s.get (Fd.DRIVE_G_STAT_STATE k)
    let mine := if again then setBit g.reports (s.get (Fd.DRIVE_G_STAT_LEG k)) false else g.reports
    let s := (s.raise (Ev.DRIVE_G_FLAGS_FAULT k)).put (Fd.DRIVE_G_STAT_LEG k) leg
    let s := s.grpM k fun g =>
      { g with reports := setBit mine leg true, reportAt := s.now, isTry := g.isTry || (st == 0 && g.reports == 0)
               tryAt := if st == 0 && g.reports == 0 then s.now else g.tryAt
               priming := none, retrying := false, slots := [], late := [] }
    let s := (s.setLock k true).breakShow k
    if st = 1 then s.enterWait k else s

/-- R227: KIND by the width of the first low interval in tbu; none is a level still low after 5 µs. -/
def faultKind : Option Nat → Nat
  | none => 3
  | some w => if 8000 ≤ w ∧ w ≤ 24000 then 1 else if 40000 ≤ w ∧ w ≤ 56000 then 2 else 3

/-- R227, R228: a leg's report is classified, and KIND and LEG are its; the try of a running group counts here, at the end
of the first low interval as in the example of "A desaturation series", also when LANEEN has been cleared meanwhile. The break of
a report that is no try of a lane enabled meanwhile ends (R221, R230). The rise of any leg's FLT_N shows. -/
def State.faultClassify (s : State) (k : Fin 12) (leg : Nat) (width : Option Nat) : State :=
  if s.drive.groups[k].reports.getLsbD leg then
    let s := (s.put (Fd.DRIVE_G_STAT_KIND k) (faultKind width)).put (Fd.DRIVE_G_STAT_LEG k) leg
    let s := if width.isSome then s.setFltn k (s.grpFltn k ||| 2 ^ leg) else s
    let st := s.get (Fd.DRIVE_G_STAT_STATE k)
    let t := s.drive.groups[k].isTry && (st == 0 || st == 3)
    let at' := s.drive.groups[k].tryAt
    let s := s.grpM k fun g => { g with reports := setBit g.reports leg false, isTry := false }
    if t then s.countTry k at' else if st == 0 && !s.inBreak k then s.prime k else s.breakShow k
  else if width.isSome then s.setFltn k (s.grpFltn k ||| 2 ^ leg)
  else s

/-- R228, R229, R231: the break of a wait or a lock-out ends: the priming burst is sent, at once or when the PWM clock
returns, or the lane stays disabled. -/
def State.retry (s : State) (k : Fin 12) : State :=
  let s := s.grpM k fun g => { g with waitEnd := none }
  if s.on (Fd.DRIVE_G_CFG_LANEEN k) then
    let s := s.put (Fd.DRIVE_G_STAT_STATE k) 0
    if s.pwmClk then s.prime k else s.breakShow k
  else (s.put (Fd.DRIVE_G_STAT_STATE k) 3).breakShow k

/-- R228: the wait ends: with every FLT_N high the break ends and the burst is sent, else it starts again as a further
try. Retries wait for the PWM clock and none takes effect after the warning (R231). -/
def State.retryWaitEnd (s : State) (k : Fin 12) (fltn : Nat) : State :=
  match s.drive.groups[k].waitEnd with
  | none => s
  | some t =>
    if s.get (Fd.DRIVE_G_STAT_STATE k) = 1 ∧ !s.pmu.warned then
      let s := (s.reachNow t).setFltn k fltn
      if fltn % 16 ≠ 15 then s.countTry k s.now
      else if s.pwmClk && s.drive.groups[k].reports == 0 then (s.grpM k fun g => { g with retrying := true }).retry k
      else s
    else s

/-- R221: the 16 frames of a priming burst that ends at `t` have carried the current codes. -/
def State.burstSent (s : State) (k : Fin 12) (t : Nat) : State :=
  let s := (List.range 4).foldl (fun s (i : Nat) =>
    let n := 4 * k.val + i
    let s := s.legZeroNow (Fin.ofNat 48 n)
    s.wrN (Reg.DRIVE_LEG_SENT n) (cut (s.rdN (Reg.DRIVE_LEG_CODE n)) 0 16 + 2 ^ 16 * (s.frameCpen n).toNat)) s
  let n := 4 * k.val + 3
  let w := frameWord 3 true true (cut (s.rdN (Reg.DRIVE_LEG_CODE n)) 12 4) (s.frameCpen n) false
  s.grpM k fun g => { g with frames := [⟨3, true, true, t - 160 * tNs, w⟩] }

/-- R221, R228, R230: the priming burst has been sent: the lock-out line is released, with RETRY after a wait or a CLEAR,
unless a FLT_N is low. -/
def State.primingEnd (s : State) (k : Fin 12) : State :=
  match s.drive.groups[k].priming with
  | none => s
  | some t =>
    let s := (s.reachNow t).burstSent k t
    let again := s.drive.groups[k].retrying
    let s := s.grpM k fun g => { g with priming := none, retrying := false }
    if s.grpFltn k = 15 then (s.setLock k false).raiseIf again (Ev.DRIVE_G_FLAGS_RETRY k) else (s.setLock k true).enterWait k

/-- R228, R230: WINDOW seconds have passed since the series began without a lock-out; a report accepted until then is
still counted in the old series. -/
def State.tryWindowExpire (s : State) (k : Fin 12) : State :=
  match s.drive.groups[k].series with
  | none => s
  | some t =>
    let s := s.reachNow (t + s.windowTime k)
    let g := s.drive.groups[k]
    if g.isTry && g.reportAt ≤ t + s.windowTime k then s
    else (s.put (Fd.DRIVE_G_STAT_TRIES k) 0).grpM k fun g => { g with series := none }

/-- R229, R230: CLEAR ends a lock-out when every FLT_N is high, as a successful wait ends; a report in progress or a low
FLT_N refuses it. -/
def State.driveClear (s : State) (k : Fin 12) : State :=
  if s.get (Fd.DRIVE_G_STAT_STATE k) = 2 ∧ !s.pmu.warned then
    if s.grpFltn k ≠ 15 ∨ s.drive.groups[k].reports ≠ 0 then s.raise (Ev.DRIVE_G_FLAGS_CLRREF k)
    else
      let was := (s.now, s.get (Fd.DRIVE_G_STAT_TRIES k), s.get (Fd.DRIVE_G_STAT_RESTORED k))
      let s := (s.put (Fd.DRIVE_G_STAT_TRIES k) 0).put (Fd.DRIVE_G_STAT_RESTORED k) 0
      (s.grpM k fun g => { g with retrying := true, cleared := some was }).retry k
  else s

/-- R221, R233: a write of DRIVE_GkCFG lands. GkSTAT.FLTN shows the pins from the group's first enabling on. -/
def State.groupCfg (s : State) (k : Fin 12) (v : Word) : State :=
  s.landPwm (Reg.DRIVE_G_CFG k) v fun s =>
    let pol := cut v.toNat 1 2
    let polNow := cut (s.rdN (Reg.DRIVE_G_CFG k)) 1 2
    if pol != polNow && (List.range 4).any (fun i => s.on (Fd.PWM_LEG_CFG_EN (4 * k.val + i))) then
      s.raise (Ev.DRIVE_G_FLAGS_CFGERR k)
    else
      let was := s.on (Fd.DRIVE_G_CFG_LANEEN k)
      let s := s.wrN (Reg.DRIVE_G_CFG k) (cut v.toNat 0 3)
      let st := s.get (Fd.DRIVE_G_STAT_STATE k)
      if v.getLsbD 0 && !was && st == 3 then
        let s := (s.put (Fd.DRIVE_G_STAT_STATE k) 0).setFltn k (s.grpFltn k)
        if s.inBreak k then s.breakShow k else s.prime k
      else if !v.getLsbD 0 && was && st == 0 then
        (((s.put (Fd.DRIVE_G_STAT_STATE k) 3).grpM k fun g =>
          { g with slots := [], late := [], priming := none, retrying := false }).breakShow k).setLock k true
      else s

/-- R221, R231: every lane breaks: the PWM clock stops, or the power-fail warning comes. -/
def State.driveBreak (s : State) : State :=
  (List.finRange 12).foldl (fun s (k : Fin 12) =>
    (s.grpM k fun g => { g with slots := [], late := [], priming := none }).breakShow k) s

/-- R215, R221: the PWM clock returns, and with its divider's release the bit boundaries are counted anew: the lanes whose
break ends with it send their priming burst. -/
def State.driveClockReturn (s : State) : State :=
  (List.finRange 12).foldl (fun s (k : Fin 12) => if s.on (Fd.DRIVE_G_STAT_BREAK k) && !s.inBreak k then s.prime k else s)
    { s with drive := { s.drive with gridAt := s.now } }

/-- R231: at the power-fail warning the waits stop. -/
def State.driveWarning (s : State) : State :=
  ((List.finRange 12).foldl (fun s (k : Fin 12) => s.grpM k fun g => { g with waitEnd := none, series := none }) s).driveBreak

/-- R233: the milliseconds left in a wait. -/
def State.waitRem (s : State) (k : Fin 12) : Nat :=
  match s.drive.groups[k].waitEnd with
  | some t => (t - s.now + tMs - 1) / tMs
  | none => 0

/-- R232: bit k: interrupt 28 + k asserted. -/
def State.drivePend (s : State) : Nat :=
  (List.range 12).foldl (fun m (k : Nat) =>
    if (s.get ⟨Reg.DRIVE_G_FLAGS k, 0, 8⟩ &&& s.get (Fd.DRIVE_G_IRQEN_EN k)) != 0 then m + 2 ^ k else m) 0

/-! ### The meanings -/

/-- R223. -/
def execDriveCodeLand (n : Fin 48) (v : Word) (same : Bool) (s : State) : Result := .next (s.codeWrite n v same)
/-- R219. -/
def execDslFrameSend (k : Fin 12) (s : State) : Result := .next (s.dslFrameSend k)
/-- R220. -/
def execDslRefreshFrame (k : Fin 12) (s : State) : Result := .next (s.dslRefresh k)
/-- R221. -/
def execDriveGroupCfgWrite (k : Fin 12) (v : Word) (s : State) : Result := .next (s.groupCfg k v)
/-- R228. -/
def execPrimingBurstEnd (k : Fin 12) (s : State) : Result := .next (s.primingEnd k)
/-- R225. -/
def execBootstrapRefresh (n : Fin 48) (s : State) : Result := .next (s.bootstrapRefresh n)
/-- R227. -/
def execDriverFaultReport (k : Fin 12) (legs : BitVec 4) (s : State) : Result := .next (s.faultReport k legs.toNat)
/-- R227. -/
def execDriverFaultClassify (x : Seen (Fin 12) (Fin 4)) (w : Option (BitVec 17)) (s : State) : Result :=
  .next (s.faultClassify x.site x.what.val (w.map BitVec.toNat))
/-- R228. -/
def execRetryWaitEnd (k : Fin 12) (fltn : BitVec 4) (s : State) : Result := .next (s.retryWaitEnd k fltn.toNat)
/-- R228. -/
def execTryWindowExpire (k : Fin 12) (s : State) : Result := .next (s.tryWindowExpire k)
/-- R229. -/
def execDriveClear (k : Fin 12) (fltn : BitVec 4) (s : State) : Result := .next ((s.setFltn k fltn.toNat).driveClear k)

end Sys2Proof.Machine
end

