-- ==== Sys2Proof/Machine/Modin.lean ====
section
/-! DEFINITION. MODIN: main and fast sinc filters, decimation and capture strobes, stamps, overcurrent comparators and
stream health (R82–R107). -/
namespace Sys2Proof.Machine

/-- Replaces an input's hidden state. -/
def State.inM (s : State) (n : Fin 56) (f : ModinInput → ModinInput) : State :=
  { s with modin := { s.modin with inputs := s.modin.inputs.upd n f } }

/-- R82: the group of an input. -/
def grpOf (n : Fin 56) : Fin 7 := Fin.ofNat 7 (n.val / 8)

/-- Applies `f` to the enabled inputs of a group. -/
def State.enabledIn (s : State) (g : Fin 7) (f : State → Fin 56 → State) : State :=
  (List.finRange 56).foldl (fun s (n : Fin 56) => if grpOf n = g ∧ s.on (Fd.MODIN_IN_CFG_EN n) then f s n else s) s

/-! ### Sinc filters (R86, R96) -/

/-- The sums of `acc` and each prefix of a list. -/
def prefixSums (acc : Int) : List Int → List Int
  | [] => [acc]
  | x :: t => acc :: prefixSums (acc + x) t

/-- One boxcar of length `m` over a sequence. -/
def boxcar (m : Nat) (l : List Int) : List Int :=
  let p := prefixSums 0 l
  List.zipWith (· - ·) (p.drop m) p

/-- R86: the full-rate outputs of sinc^k with ratio `m`. -/
def sinc (m : Nat) : Nat → List Int → List Int
  | 0, l => l
  | k + 1, l => sinc m k (boxcar m l)

/-- R86: a bit counts +1 or −1, or the reverse with INV. -/
def bitVal (inv b : Bool) : Int := if b != inv then 1 else -1

/-- The newest `need` bits as values; bits from before the filter was cleared count 0. -/
def newest (inv : Bool) (need : Nat) (bits : List Bool) : List Int :=
  let v := (bits.drop (bits.length - need)).map (bitVal inv)
  List.replicate (need - v.length) 0 ++ v

/-- R86: the scaling to Q1.31 before saturation: 2^31 × S / OSR^k, a half away from zero. -/
def q31 (sum : Int) (m k : Nat) : Int := meanAway (2 ^ 31 * sum) (m ^ k)

/-- R86: the main filter's output over its span, unsaturated. -/
def mainValue (inv : Bool) (k m : Nat) (bits : List Bool) : Int :=
  q31 ((sinc m k (newest inv (k * (m - 1) + 1) bits)).headD 0) m k

/-! ### Receiving the bits (R84, R85) -/

/-- R70, R84: the step of 312.5 ps, after a reference edge, at which clock-plus-data mode captures: SKEW steps after the
rising or the falling edge of MCLK; the captured bit belongs to the reference edge that precedes. -/
def captureStep (div skew : Nat) (falling : Bool) : Nat := (skew + if falling then div / 2 else 0) % div

/-- R84: the bit of a Manchester cell: a low-to-high transition is 1, a high-to-low one 0. -/
def manchesterBit (cell : BitVec 2) : Bool :=
  if cell.getLsbD 0 = cell.getLsbD 1 then Config.violationBit (cell.getLsbD 0) else cell.getLsbD 0

/-- R84: the bits that the input stage receives from a line, by its group's MODE, EDGE and SKEW, oldest first. -/
def State.received (s : State) (n : Nat) (line : List MdatPeriod) : List Bool :=
  let g := n / 8
  if s.get (Fd.MODIN_GCFG_MODE g) = 1 then line.map fun p => manchesterBit p.cell
  else
    let at_ := captureStep (s.get (Fd.PLL_MCLKDIV_ACTDIV g)) (s.get (Fd.MODIN_GCFG_SKEW g)) (s.on (Fd.MODIN_GCFG_EDGE g))
    line.map fun p => p.levels.getLsbD at_

/-- R85: a bit reaches the filters this many MCLK periods after its reference edge. -/
def State.bitDelay (s : State) (g : Nat) : Nat := if s.get (Fd.MODIN_GCFG_MODE g) = 1 then 3 else 1

/-- R96: the last `cnt` outputs of the fast filter, saturated; none if too few bits have entered it. -/
def fastValues (inv : Bool) (j f cnt : Nat) (bits : List Bool) : Option (List Int) :=
  let need := j * (f - 1) + cnt
  if bits.length < need then none
  else some ((sinc f j (newest inv need bits)).map fun x => satTo 32 (q31 x f j))

/-! ### Stamps (R83, R90) -/

/-- The count with its fraction at the instant half of `x2`, reckoned back from `f` at time `t` through the changes of its
rate. -/
def countBack (x2 : Int) : Nat → Int → Int → List Knot → Int
  | t, f, r, [] => f - (2 * (t : Int) - x2) * r / 80
  | t, f, r, k :: ks => if 2 * (k.time : Int) ≤ x2 then f - (2 * (t : Int) - x2) * r / 80 else countBack x2 k.time k.before k.rate ks

/-- The count at the instant half of `x2` (in half tbu of physical time), rounded down. -/
def State.countAt2 (s : State) (x2 : Int) : Int := countBack x2 s.now s.tbl.full s.addend s.tbl.knots / 2 ^ 32

/-- The physical instant at which the count with its fraction reached `c`, reckoned back from `f` at time `t`; a value that a
step jumped over was reached at the step. -/
def instantBack (c : Int) : Nat → Int → Int → List Knot → Int
  | t, f, r, [] => (t : Int) - (f - c) * 40 / r
  | t, f, r, k :: ks =>
    if c ≤ k.before then instantBack c k.time k.before k.rate ks
    else max (k.time : Int) ((t : Int) - (f - c) * 40 / max 1 r)

/-- The physical instant of a count near the present, rounded up. -/
def State.nowAt (s : State) (c : Nat) : Nat := (instantBack ((c : Int) * 2 ^ 32) s.now s.tbl.full s.addend s.tbl.knots).toNat

/-- The first reference edge of a group at or after `x`. -/
def State.edgeFrom (s : State) (g : Fin 7) (x : Nat) : Nat :=
  let o := s.modin.origin[g]
  let t := s.mclkT g
  o + (x - o + t - 1) / t * t

/-- R88, R91: the newest reference edge of the first output whose span centre is at or after `x`. -/
def State.edgeOf (s : State) (n : Fin 56) (x : Nat) : Nat :=
  let k := s.get (Fd.MODIN_IN_CFG_ORD n)
  let m := s.get (Fd.MODIN_IN_CFG_OSR n)
  s.edgeFrom (grpOf n) (x + (k * (m - 1) * s.mclkT (grpOf n) + 1) / 2)

/-- R89: the settling time of an input's main filter, in tbu. -/
def State.settle (s : State) (n : Fin 56) : Nat :=
  (s.get (Fd.MODIN_IN_CFG_ORD n) * s.get (Fd.MODIN_IN_CFG_OSR n) + 8) * s.mclkT (grpOf n)

/-! ### Register writes that cross into MOD (R77, R102) -/

/-- R77: the word of a register of MODIN that decided at time `t`: until a write has crossed, the old one. -/
def State.modWord (s : State) (a t : Nat) : Nat :=
  match s.modin.olds.find? fun e => e.addr == a && (match e.till with | some u => decide (t < u) | none => true) with
  | some e => e.word
  | none => s.rdN a

/-- R97, R102: a write of a register of group `g` reads back at once and decides two MCLK periods on, the least of the 2–3, or
two periods after the first edge of a clock that stands. A word that has not decided for 16 periods is forgotten. -/
def State.modWrite (s : State) (g : Fin 7) (a : Nat) (v : Word) : State :=
  let recent (e : OldWord) : Bool := match e.till with | some u => decide (s.now < u + 16 * s.mclkT g) || e.grp != g | none => true
  let e : OldWord := ⟨g, a, s.rdN a, if s.mclkOn g then some (s.now + 2 * s.mclkT g) else none⟩
  ({ s with modin := { s.modin with olds := s.modin.olds.filter recent ++ [e] } }).plainWrite a v

/-- R77, R102: a write whose operation `f` is performed in the MOD domain of group `g`, two MCLK periods on; while the clock
stands it waits, and lands two periods after the clock's first edge. -/
def State.landMod (s : State) (g : Fin 7) (a : Nat) (v : Word) (f : State → State) : State :=
  if s.mclkOn g then f (s.reachNow ((if s.landing then s.modin.origin[g] else s.now) + 2 * s.mclkT g))
  else { s with parked := s.parked ++ [(a, v)] }

/-- R90: GEXTDLY of a group as it decides now. -/
def State.extDelay (s : State) (g : Nat) : Nat :=
  let f := Fd.MODIN_GEXTDLY_EXTDLY g
  cut (s.modWord f.addr s.now) f.lo f.w

/-! ### Force lines and health (R97–R100) -/

/-- R99: a health fault is active. -/
def ModinInput.fault (i : ModinInput) : Bool := i.clk || i.stuck || i.manv

/-- R95: a bit received from `lo` to `hi` came while a health fault was active. -/
def ModinInput.soiled (i : ModinInput) (lo hi : Nat) : Bool :=
  let active (from_ : Nat) (gone : Option Nat) : Bool := from_ ≤ hi && (gone.map fun g => decide (lo ≤ g)).getD true
  i.bad.any (fun b => b.1 ≤ hi && lo ≤ b.2) || (i.clk && active i.clkAt i.clkGone) || (i.stuck && active i.stuckAt i.stuckGone) ||
    (i.manv && i.manvAt ≤ hi)

/-- R89, R107: an enabled input's main filter settles: its settling time has not passed, or its clock stands. -/
def State.settling (s : State) (n : Fin 56) : Bool :=
  s.on (Fd.MODIN_IN_CFG_EN n) && (!s.mclkOn (grpOf n) || decide (s.now < s.modin.inputs[n].restart + s.settle n))

/-- R97, R100: the input's force lines and its FAULT bit follow its comparators and its health. -/
def State.inputLines (s : State) (n : Fin 56) : State :=
  let i := s.modin.inputs[n]
  let s := s.putB (Fd.MODIN_IN_FLAGS_FAULT n) i.fault
  let all := s.on (Fd.MODIN_IN_CFG_EN n) && s.on (Fd.MODIN_IN_CFG_HFORCE n) && i.fault
  let hi := i.hi || all
  let lo := i.lo || all
  let s := if s.pwm.modLines.getLsbD (2 * n.val) == hi then s else s.forceSet (.modin (Fin.ofNat 112 (2 * n.val))) hi
  if s.pwm.modLines.getLsbD (2 * n.val + 1) == lo then s else s.forceSet (.modin (Fin.ofNat 112 (2 * n.val + 1))) lo

/-- R97: a comparator's condition on the output of `ago` periods ago, by the threshold that decided then. -/
def State.ocCond (s : State) (n : Fin 56) (hi : Bool) (ago : Nat) (v : Int) : Bool :=
  let t := s.now - ago * s.mclkT (grpOf n)
  if hi then decide (sx 32 (s.modWord (Reg.MODIN_IN_THHI n) t) ≤ v) else decide (v ≤ sx 32 (s.modWord (Reg.MODIN_IN_THLO n) t))

/-- R97: OCCFG as it decides now. -/
def State.ocCfg (s : State) (n : Fin 56) : Nat := s.modWord (Reg.MODIN_IN_OCCFG n) s.now

/-- R97: a comparator is enabled. -/
def State.ocEnabled (s : State) (n : Fin 56) (hi : Bool) : Bool := (s.ocCfg n).testBit (if hi then 0 else 1)

/-- R96: how many bits have entered an input's filters since they started. -/
def State.entered (s : State) (n : Fin 56) : Nat :=
  let g := grpOf n
  (s.now + s.mclkT g - s.modin.inputs[n].restart) / s.mclkT g - s.bitDelay g

/-- R89, R102: of the newest bits of an input, those that have entered since its filters and checks started. -/
def State.sinceStart (s : State) (n : Fin 56) (bits : List Bool) : List Bool := bits.drop (bits.length - s.entered n)

/-- R97: a comparator's outputs over the periods it looks at; none while it is silent after a restart. -/
def State.fastOf (s : State) (n : Fin 56) (cnt : Nat) (bits : List Bool) : Option (List Int) :=
  let j := s.get (Fd.MODIN_IN_CFG_FORD n)
  let f := s.get (Fd.MODIN_IN_CFG_FOSR n)
  if s.entered n < j * (f - 1) + cnt then none else fastValues (s.on (Fd.MODIN_IN_CFG_INV n)) j f cnt bits

/-- R96: INn_FAST takes the fast filter's latest output. -/
def State.fastShow (s : State) (n : Fin 56) (bits : List Bool) : State :=
  let j := s.get (Fd.MODIN_IN_CFG_FORD n)
  let f := s.get (Fd.MODIN_IN_CFG_FOSR n)
  let x := (sinc f j (newest (s.on (Fd.MODIN_IN_CFG_INV n)) (j * (f - 1) + 1) (s.sinceStart n bits))).getLast?.getD 0
  s.wrN (Reg.MODIN_IN_FAST n) (enc 32 (satTo 32 (q31 x f j)))

/-- R97: the fast filter's comparator holds its condition for DEB + 1 periods: the force line asserts and the flag is
set. -/
def State.overcurrentAssert (s : State) (n : Fin 56) (hi : Bool) (line : List MdatPeriod) : State :=
  let bits := s.received n line
  match s.fastOf n (cut (s.ocCfg n) 4 4 + 1) bits with
  | none => s
  | some vs =>
    if s.on (Fd.MODIN_IN_CFG_EN n) && s.mclkOn (grpOf n) then
      let s := s.wrN (Reg.MODIN_IN_FAST n) (enc 32 (vs.getLast?.getD 0))
      if s.ocEnabled n hi && vs.zipIdx.all (fun e => s.ocCond n hi (vs.length - 1 - e.2) e.1) then
        let s := s.inM n fun i => if hi then { i with hi := true } else { i with lo := true }
        let s := if hi then s.raise (Ev.MODIN_IN_FLAGS_OCHI n) else s.raise (Ev.MODIN_IN_FLAGS_OCLO n)
        s.inputLines n
      else s
    else s

/-- R97: the condition fails in the latest period, or the comparator is no longer enabled: it deasserts. -/
def State.overcurrentDeassert (s : State) (n : Fin 56) (hi : Bool) (line : List MdatPeriod) : State :=
  match s.fastOf n 1 (s.received n line) with
  | none => s
  | some vs =>
    let v := vs.getLast?.getD 0
    if s.on (Fd.MODIN_IN_CFG_EN n) && s.mclkOn (grpOf n) then
      let s := s.wrN (Reg.MODIN_IN_FAST n) (enc 32 v)
      if s.ocEnabled n hi && s.ocCond n hi 0 v then s
      else (s.inM n fun i => if hi then { i with hi := false } else { i with lo := false }).inputLines n
    else s

/-- R71, R99: whether the clock-present check of an input can have missed `missing` edges. -/
def State.checked (s : State) (n : Fin 56) (missing : Nat) : Bool :=
  let g := grpOf n
  let from_ := if s.mclkOn g then max s.modin.origin[g] s.modin.inputs[n].restart else s.modin.lastRise[g]
  !s.pmu.clocksOff && decide (from_ + missing * s.mclkT g ≤ s.now)

/-- R99: CLKLOSS is detected: a health fault, or one whose condition comes again before its settling time has passed. -/
def ModinInput.clkSeen (i : ModinInput) (now : Nat) : ModinInput :=
  match i.clkGone with
  | some g => { i with clk := true, clkAt := now, clkGone := none, bad := (i.clkAt, g) :: i.bad }
  | none => { i with clk := true, clkAt := if i.clk then i.clkAt else now }

/-- R99: STUCK is detected. -/
def ModinInput.stuckSeen (i : ModinInput) (now : Nat) : ModinInput :=
  match i.stuckGone with
  | some g => { i with stuck := true, stuckAt := now, stuckGone := none, bad := (i.stuckAt, g) :: i.bad }
  | none => { i with stuck := true, stuckAt := if i.stuck then i.stuckAt else now }

/-- R99: CLKLOSS: no rising edge of the clock's readback for 4 expected periods flags every enabled input of a group in
clock-plus-data mode, no transition on the line for 2 cell periods this input in Manchester mode. `missing`: the periods
without one, all of them since the check started at the clock's start or the input's (R71), or since the clock stopped. -/
def State.clkloss (s : State) (n : Fin 56) (missing : Nat) : State :=
  let one (s : State) (n : Fin 56) : State :=
    ((s.raise (Ev.MODIN_IN_FLAGS_CLKLOSS n)).inM n fun i => i.clkSeen s.now).inputLines n
  if s.on (Fd.MODIN_IN_CFG_EN n) && s.checked n missing then
    if s.get (Fd.MODIN_GCFG_MODE (grpOf n)) = 0 then (if 4 ≤ missing then s.enabledIn (grpOf n) one else s)
    else if 2 ≤ missing then one s n
    else s
  else s

/-- R99: the run limit of an input: 0 disables, and 1–15 act as 16. -/
def State.runLimit (s : State) (n : Fin 56) : Nat :=
  let m := s.get (Fd.MODIN_IN_HCFG_ACTMAX n)
  if m = 0 then 0 else max 16 m

/-- R99: the newest `k` bits are there and are all alike. -/
def alike (k : Nat) (bits : List Bool) : Bool :=
  let l := bits.drop (bits.length - k)
  l.length == k && (l.all (· == true) || l.all (· == false))

/-- R99: STUCK: a run of more than ACTMAX identical bits. -/
def State.stuckDetect (s : State) (n : Fin 56) (line : List MdatPeriod) : State :=
  if s.on (Fd.MODIN_IN_CFG_EN n) && s.mclkOn (grpOf n) && s.runLimit n != 0 && alike (s.runLimit n + 1) (s.sinceStart n (s.received n line)) then
    ((s.raise (Ev.MODIN_IN_FLAGS_STUCK n)).inM n fun i => i.stuckSeen s.now).inputLines n
  else s

/-- R99: a Manchester cell without its mid-cell transition; MANVTHR of them within 256 cells are a health fault for the
following 256 cells. -/
def State.manchester (s : State) (n : Fin 56) (cell : BitVec 2) : State :=
  let t := s.mclkT (grpOf n)
  if s.on (Fd.MODIN_IN_CFG_EN n) && !s.pmu.clocksOff && s.get (Fd.MODIN_GCFG_MODE (grpOf n)) == 1 && cell.getLsbD 0 == cell.getLsbD 1 then
    let s := match s.modin.inputs[n].violations with
      | [] => s
      | v :: _ => s.reachNow (v + t)
    let s := s.raise (Ev.MODIN_IN_FLAGS_MANV n)
    let thr := s.get (Fd.MODIN_IN_HCFG_MANVTHR n)
    let vs := s.now :: s.modin.inputs[n].violations.filter (fun v => s.now < v + 256 * t)
    let s := s.inM n fun i =>
      let i := { i with violations := vs }
      if thr ≠ 0 ∧ thr ≤ vs.length then
        { i with manv := true, manvAt := if i.manv then i.manvAt else s.now, manvEnd := s.now + 256 * t }
      else i
    s.inputLines n
  else s

/-- R99: the condition of a CLKLOSS or STUCK fault that began at `from_` has been absent for `absent` MCLK periods: at least
the settling time, all of it since the fault began, with the clock running. -/
def State.absentLong (s : State) (n : Fin 56) (from_ absent : Nat) : Bool :=
  let a := absent * s.mclkT (grpOf n)
  s.mclkOn (grpOf n) && decide (s.settle n ≤ a ∧ from_ + a ≤ s.now)

/-- R99: the condition of a fault that began at `from_` has been absent for `absent` periods, less than the settling time. -/
def State.absentSome (s : State) (n : Fin 56) (from_ absent : Nat) : Bool :=
  let a := absent * s.mclkT (grpOf n)
  s.mclkOn (grpOf n) && decide (0 < a ∧ from_ + a ≤ s.now)

/-- R95, R99: a health fault ends: one settling time after its condition, or 256 cells after a MANV fault, which only a running
clock brings. Bits received in the settling time do not count as received during the fault; a shorter absence is remembered for
their sake. -/
def State.healthEnd (s : State) (n : Fin 56) (k : HealthKind) (absent : Nat) : State :=
  let i := s.modin.inputs[n]
  let gone := s.now - absent * s.mclkT (grpOf n)
  match k with
  | .clkloss =>
    if i.clk && s.absentLong n i.clkAt absent then
      (s.inM n fun i => { i with clk := false, clkGone := none, bad := (i.clkAt, gone) :: i.bad }).inputLines n
    else if i.clk && s.absentSome n i.clkAt absent then s.inM n fun i => { i with clkGone := some gone }
    else s
  | .stuck =>
    if i.stuck && s.absentLong n i.stuckAt absent then
      (s.inM n fun i => { i with stuck := false, stuckGone := none, bad := (i.stuckAt, gone) :: i.bad }).inputLines n
    else if i.stuck && s.absentSome n i.stuckAt absent then s.inM n fun i => { i with stuckGone := some gone }
    else s
  | .manv =>
    if i.manv && s.mclkOn (grpOf n) then
      ((s.reachNow i.manvEnd).inM n fun i => { i with manv := false, bad := (i.manvAt, i.manvEnd) :: i.bad }).inputLines n
    else s

/-! ### Results and strobes (R88–R95) -/

/-- R91: the newest reference edge of an input's next free-running result. A position whose issue time lies more than one
MCLK period in the past is skipped: no command came for it in its time (DESIGN CHOICE, log entry 14). -/
def State.nextFree (s : State) (n : Fin 56) : Nat :=
  let i := s.modin.inputs[n]
  let t := s.mclkT (grpOf n)
  let step := s.get (Fd.MODIN_IN_CFG_OSR n) * t
  let lo := max (max (i.lastEdge + 1) i.restart) (s.now + 1 - 9 * t)
  i.phase + (lo - i.phase + step - 1) / step * step

/-- R396, R408: a main-filter result goes to every transmit stream channel that selects the input, on a link that is
up. -/
def State.streamResult (s : State) (n v : Nat) (valid : Bool) (stamp : Nat) : State :=
  (List.finRange 4).foldl (fun s (l : Fin 4) =>
    (List.range 8).foldl (fun s c =>
      if s.on (Fd.LINK_STX_CFG_EN l c) && !s.on (Fd.LINK_STX_CFG_KIND l c) && s.get (Fd.LINK_STX_CFG_SRC l c) == n &&
          s.get (Fd.LINK_L_STATUS_STATE l) == 2 then
        let cell : TxCell :=
          { typ := 6, sub := c, len := 104
            body := v * 2 ^ 160 + stamp % 2 ^ 32 * 2 ^ 128 + valid.toNat * 2 ^ 127 + n * 2 ^ 121 }
        { s with link := { s.link with ports := s.link.ports.upd l fun p => { p with strOut := p.strOut ++ [cell] } } }
      else s) s) s

/-- R88–R95: an input issues the result whose newest reference edge is `e`, from the bits received up to its issue. -/
def State.issue (s : State) (n : Fin 56) (e : Nat) (line : List MdatPeriod) : State :=
  let g := grpOf n
  let t := s.mclkT g
  let k := s.get (Fd.MODIN_IN_CFG_ORD n)
  let m := s.get (Fd.MODIN_IN_CFG_OSR n)
  let s := s.reachNow (e + 8 * t)
  let i := s.modin.inputs[n]
  let bits := s.received n line
  let late := 8 - s.bitDelay g
  let arrive := e + s.bitDelay g * t
  let settled := decide (i.restart + s.settle n ≤ e + 8 * t)
  let valid := settled && !i.fault && !i.soiled (arrive - k * (m - 1) * t) arrive
  let raw := mainValue (s.on (Fd.MODIN_IN_CFG_INV n)) k m (bits.take (bits.length - late))
  let sat := satTo 32 raw
  let v := if valid then sat else 0
  let stamp := enc 64 (s.countAt2 (2 * (e : Int) - k * (m - 1) * t) - s.extDelay g)
  let s := s.wrN (Reg.MODIN_IN_RES n) (enc 32 v)
  let s := (s.putB (Fd.MODIN_IN_FLAGS_VALID n) valid).fastShow n bits
  let s := s.raiseIf (valid && decide (sat ≠ raw)) (Ev.MODIN_IN_FLAGS_SAT n)
  let s := s.setStamp (Reg.MODIN_GSTAMP_LO g) stamp
  let s := (s.inM n fun i => { i with lastEdge := e })
  let s := s.sampleSet (Fin.ofNat 256 n.val) ⟨BitVec.ofNat 32 (enc 32 v), valid, stamp⟩
  let r := s.dcResult n.val v valid stamp
  let s := r.1.streamResult n.val (enc 32 v) valid stamp
  let s := if s.get (Fd.MODIN_GCFG_RDYSEL g) = n.val % 8 then (s.inc32 (Reg.MODIN_GRESCNT g)).fireLater (56 + g.val)
    else if r.2.isEmpty then s else s.advance 2
  s.sweepTells r.2

/-- R91, R92: the next result of an input issues: the next free-running position, or the output selected by the oldest
pending strobe. -/
def State.mainResult (s : State) (n : Fin 56) (line : List MdatPeriod) : State :=
  let g := grpOf n
  if s.on (Fd.MODIN_IN_CFG_EN n) && s.mclkOn g then
    if s.on (Fd.MODIN_GCFG_DEC g) then
      match s.modin.strobes[g].find? (fun b => b.left.getLsbD (n.val % 8)) with
      | none => s
      | some b =>
        let take (x : Strobe) : Strobe := if x = b then { x with left := setBit x.left (n.val % 8) false } else x
        let s := { s with modin := { s.modin with
          strobes := s.modin.strobes.upd g fun l => (l.map take).filter fun x => x.left != 0 } }
        s.issue n (s.edgeOf n b.time) line
    else s.issue n (s.nextFree n) line
  else s

/-- R91, R92: a capture strobe reaches a group: it re-phases free-running inputs, or selects an output per enabled
input; a fifth pending strobe is dropped with STBOVF, and a strobe without an MCLK is lost. Results of the old phase that
lie between the strobe's arrival and the output it selects are dropped: the spec does not say (DESIGN CHOICE, log
entry 14). -/
def State.captureStrobe (s : State) (g : Fin 7) : State :=
  s.takeLaunch (48 + g.val) fun s l =>
    let x := s.nowAt l.exact
    if !s.mclkOn g then s
    else if s.on (Fd.MODIN_GCFG_DEC g) then
      if 4 ≤ s.modin.strobes[g].length then s.raise (Ev.MODIN_GFLAGSG_STBOVF g)
      else
        let left := (List.finRange 56).foldl (fun (m : BitVec 8) (n : Fin 56) =>
          if grpOf n = g ∧ s.on (Fd.MODIN_IN_CFG_EN n) then setBit m (n.val % 8) true else m) 0
        if left = 0 then s
        else { s with modin := { s.modin with strobes := s.modin.strobes.upd g (· ++ [⟨x, left⟩]) } }
    else
      let s := { s with modin := { s.modin with strobed := s.modin.strobed.set g (some x) } }
      s.enabledIn g fun s n => s.inM n fun i => { i with phase := s.edgeOf n x, lastEdge := s.edgeOf n x - 1 }

/-- R71, R102: the group's MCLK starts or switches over with its first reference edge at `e`: filters, comparators, health
checks and strobes restart there; writes that waited for the clock take effect two periods on. The cells of a MANV fault go on
counting (R99). -/
def State.modinClockStart (s : State) (g : Fin 7) (e : Nat) : State :=
  let stood := if s.modin.origin[g] < s.modin.stoppedAt[g] then e - s.modin.stoppedAt[g] else 0
  let s := { s with modin := { s.modin with
    origin := s.modin.origin.set g e, strobed := s.modin.strobed.set g none, strobes := s.modin.strobes.set g [] } }
  let t := s.mclkT g
  let land (w : OldWord) : OldWord := if w.grp = g ∧ w.till.isNone then { w with till := some (e + 2 * t) } else w
  let s := { s with modin := { s.modin with olds := s.modin.olds.map land } }
  s.enabledIn g fun s n =>
    (s.inM n fun i =>
      { i with restart := e, phase := e, lastEdge := 0, hi := false, lo := false, violations := [], manvEnd := i.manvEnd + stood }).inputLines n

/-- R83: the last reference edge of a group's MCLK at or before `x`. -/
def State.riseBy (s : State) (g : Fin 7) (x : Nat) : Nat :=
  let o := s.modin.origin[g]
  if x < o then s.modin.lastRise[g] else o + (x - o) / s.mclkT g * s.mclkT g

/-- R67, R92, R105: the group's MCLK is gated low: no result issues, and a pending strobe is lost. -/
def State.modinClockGate (s : State) (g : Fin 7) : State :=
  let s := if s.mclkOn g then
      { s with modin := { s.modin with stoppedAt := s.modin.stoppedAt.set g s.now, lastRise := s.modin.lastRise.set g (s.riseBy g s.now) } }
    else s
  let s := s.put (Fd.PLL_MCLKDIV_ACTEN g) 0
  { s with modin := { s.modin with strobes := s.modin.strobes.set g [] } }

/-- R71: the group's MCLK is switched off, its last half period ending at `e`: the filter state of its inputs is discarded, which silences the comparators. -/
def State.modinClockStop (s : State) (g : Fin 7) (e : Nat) : State :=
  let s := { s with modin := { s.modin with
    strobes := s.modin.strobes.set g [], stoppedAt := s.modin.stoppedAt.set g e } }
  s.enabledIn g fun s n => (s.inM n fun i => { i with hi := false, lo := false, violations := [] }).inputLines n

/-! ### Configuration writes (R101, R102) -/

/-- R101: the fields of a MODIN_INn_CFG word are in range. -/
def inCfgOk (w : Nat) : Bool :=
  let o := cut w 1 3; let r := cut w 4 11; let fo := cut w 16 2; let fr := cut w 18 7
  decide (1 ≤ o ∧ o ≤ 5 ∧ 4 ≤ r ∧ r ≤ 1024 ∧ 1 ≤ fo ∧ fo ≤ 3 ∧ 8 ≤ fr ∧ fr ≤ 64)

/-- R91: an input enabled later than its peers takes their phase: that of the group's last strobe, or its origin's. -/
def State.groupPhase (s : State) (n : Fin 56) : Nat :=
  match s.modin.strobed[grpOf n] with
  | some x => s.edgeOf n x
  | none => s.modin.origin[grpOf n]

/-- R77, R91, R102: an input is enabled: the write crosses in two MCLK periods and its filters start cleared at the next
reference edge. A write that waited for the clock has crossed already (`State.landMod`). -/
def State.inputStart (s : State) (n : Fin 56) : State :=
  let g := grpOf n
  let e := s.edgeFrom g (s.now + (if s.landing then 0 else 2 * s.mclkT g) + 1)
  s.inM n fun _ => { restart := e, phase := s.groupPhase n }

/-- R92: no result of a disabled input answers a pending strobe. -/
def State.strobeDrop (s : State) (n : Fin 56) : State :=
  { s with modin := { s.modin with strobes := s.modin.strobes.upd (grpOf n) fun l =>
      (l.map fun x => { x with left := setBit x.left (n.val % 8) false }).filter fun x => x.left != 0 } }

/-- R102: an input is disabled: no results, no comparators, no health checks, its force lines clear. -/
def State.inputStop (s : State) (n : Fin 56) : State :=
  (((s.put (Fd.MODIN_IN_CFG_EN n) 0).strobeDrop n).inM n fun _ => {}).inputLines n

/-- R77: a register as it reads, the writes that wait for a clock among it. -/
def State.regView (s : State) (a : Nat) : Nat := s.parkedView a (s.rdN a)

/-- R101, R102: a write of MODIN_INn_CFG, judged by the registers as they read; EN = 0 disables the input in MOD. -/
def State.inputCfg (s : State) (n : Fin 56) (v : Word) : State :=
  let w := v.toNat
  let g := grpOf n
  let a := Reg.MODIN_IN_CFG n
  let en := v.getLsbD 0
  if (s.regView a).testBit 0 then
    if en then s.raise Ev.MODIN_GFLAGS_CFGERR
    else s.landMod g a (BitVec.ofNat 32 (s.regView a - 1)) fun s => s.inputStop n
  else if !inCfgOk w || (en && 2 ≤ cut (s.regView (Reg.MODIN_GCFG g)) 0 2) then s.raise Ev.MODIN_GFLAGS_CFGERR
  else if en && !s.mclkOn g then { s with parked := s.parked ++ [(a, v)] }
  else
    let s := s.wrN a (cut w 0 15 + 2 ^ 16 * cut w 16 11)
    if en then s.inputStart n else s

/-- R101, R102: a write of MODIN_GCFGg, refused while any input of the group is enabled. -/
def State.groupCfgWrite (s : State) (g : Fin 7) (v : Word) : State :=
  if (List.finRange 56).any (fun (n : Fin 56) => grpOf n == g && (s.regView (Reg.MODIN_IN_CFG n)).testBit 0) then s.raise Ev.MODIN_GFLAGS_CFGERR
  else s.landMod g (Reg.MODIN_GCFG g) v fun s => s.wrN (Reg.MODIN_GCFG g) (cut v.toNat 0 7 + 2 ^ 8 * cut v.toNat 8 7)

/-- R100, R102: a write of an input's HCFG; its force lines follow HFORCE. -/
def State.healthCfgWrite (s : State) (n : Fin 56) (v : Word) : State :=
  s.landMod (grpOf n) (Reg.MODIN_IN_HCFG n) v fun s => (s.plainWrite (Reg.MODIN_IN_HCFG n) v).inputLines n

/-- R106: the interrupt line of a group. -/
def State.modinIrq (s : State) (g : Nat) : Bool :=
  (List.range 8).any (fun i =>
    let f := s.rdN (Reg.MODIN_IN_FLAGS (8 * g + i))
    ((f &&& 3) != 0 && (s.get (Fd.MODIN_GIRQENG_OCEN g)).testBit i) ||
    ((f &&& 0x3C) != 0 && (s.get (Fd.MODIN_GIRQENG_HEN g)).testBit i)) ||
  (s.on (Fd.MODIN_GFLAGSG_STBOVF g) && s.on (Fd.MODIN_GIRQENG_STBOVFEN g))

/-- R106: MODIN_IRQSTAT. -/
def State.modinPend (s : State) : Nat :=
  (List.range 7).foldl (fun m (g : Nat) => if s.modinIrq g then m + 2 ^ g else m) 0 +
  (if s.on Fd.MODIN_GFLAGS_CFGERR && s.on Fd.MODIN_GIRQEN_CFGERREN then 128 else 0)

/-! ### The meanings -/

/-- R89. -/
def execMainResultIssue (n : Fin 56) (line : List MdatPeriod) (s : State) : Result := .next (s.mainResult n line)
/-- R92. -/
def execCaptureStrobe (g : Fin 7) (s : State) : Result := .next (s.captureStrobe g)
/-- R97. -/
def execOvercurrentAssert (n : Fin 56) (hi : Bool) (line : List MdatPeriod) (s : State) : Result :=
  .next (s.overcurrentAssert n hi line)
/-- R97. -/
def execOvercurrentDeassert (n : Fin 56) (hi : Bool) (line : List MdatPeriod) (s : State) : Result :=
  .next (s.overcurrentDeassert n hi line)
/-- R99. -/
def execClklossDetect (x : Seen (Fin 56) Nat) (s : State) : Result := .next (s.clkloss x.site x.what)
/-- R99. -/
def execStuckDetect (x : Seen (Fin 56) (List MdatPeriod)) (s : State) : Result := .next (s.stuckDetect x.site x.what)
/-- R99. -/
def execManchesterViolation (x : Seen (Fin 56) (BitVec 2)) (s : State) : Result := .next (s.manchester x.site x.what)
/-- R99. -/
def execHealthFaultEnd (n : Fin 56) (x : Seen HealthKind Nat) (s : State) : Result := .next (s.healthEnd n x.site x.what)
/-- R101. -/
def execInputCfgWrite (n : Fin 56) (v : Word) (s : State) : Result := .next (s.inputCfg n v)
/-- R101. -/
def execGroupCfgWrite (g : Fin 7) (v : Word) (s : State) : Result := .next (s.groupCfgWrite g v)

end Sys2Proof.Machine
end

