-- ==== Sys2Proof/Machine/Acu.lean ====
section
/-! DEFINITION. The ACU: conversions, lists, urgent requests, calibration and window comparators (R108–R126). -/
namespace Sys2Proof.Machine

/-- Replaces the ACU's hidden state. -/
def State.acuM (s : State) (f : Acu → Acu) : State := { s with acu := f s.acu }

/-- R114: a select of input and ratio is valid. -/
def selOk (ch osr : Nat) : Bool := ch ≤ 55 && (osr == 0 || (256 ≤ osr && osr ≤ 4096))

/-- R113: a ratio of 0 means ACU_CFG.OSR. -/
def State.acuOsr (s : State) (o : Nat) : Nat := if o = 0 then s.get Fd.ACU_CFG_OSR else o

/-- R113: no conversion runs. -/
def State.acuIdle (s : State) : Bool := s.acu.run.isNone

/-- The live calibration of an input. The spec gives the entries 32–55 the offsets of the window registers; they are
kept apart, out of the bus's reach (log entry 6). -/
def calOfs (n : Nat) : Nat := if n < 32 then Reg.ACU_CAL_OFS n else Reg.ACUX_CAL_OFS (n - 32)
/-- The live gain of an input. -/
def calGain (n : Nat) : Nat := if n < 32 then Reg.ACU_CAL_GAIN n else Reg.ACUX_CAL_GAIN (n - 32)

/-- R122: the MRAM address of an input's calibration entry. -/
def calEntry (n : Nat) : Nat := 0x089FF000 + 8 * n

/-- STATUS shows the ACU. -/
def State.acuShow (s : State) : State :=
  ((s.putB Fd.ACU_STATUS_BUSY s.acu.run.isSome).putB Fd.ACU_STATUS_URGPEND (s.acu.urgent != 0)).putB Fd.ACU_STATUS_CALRUN s.acu.cal.isSome

/-- A refused command (R113). -/
def State.acuRefuse (s : State) (bad : Bool) : State := (s.raise Ev.ACU_FLAGS_REFUSED).raiseIf bad Ev.ACU_FLAGS_BADWORD

/-- R113: a conversion is put in front of the converter, its start command given now. The URGMODE and CORREN of this instant
hold for it: whether a write between the start command and the start edge still applies to it, the spec leaves open (DESIGN
CHOICE, log entry 16). -/
def State.acuBegin (s : State) (c : AcuConv) : State :=
  let c := { c with start := none, asked := s.now, fall := s.on Fd.ACU_CFG_URGMODE, corr := s.on Fd.ACU_CFG_CORREN }
  (s.acuM fun a => { a with run := some c, turns := [], lost := false }).acuShow

/-- R116, R118: what converts next when nothing runs: an urgent request, the work it interrupted, a calibration step, the
next list entry. -/
def State.acuNext (s : State) : State :=
  if s.acu.run.isSome || s.pmu.warned then s.acuShow
  else if 0 < s.acu.urgent then
    (s.acuM fun a => { a with urgent := a.urgent - 1 }).acuBegin { kind := .urgent, ch := 0, osr := 0 }
  else match s.acu.interrupted with
    | some c => (s.acuM fun a => { a with interrupted := none }).acuBegin c
    | none => match s.acu.cal with
      | some c => s.acuBegin { kind := .cal, ch := c.ch, osr := c.osr }
      | none =>
        if s.on Fd.ACU_STATUS_LISTRUN && (!s.on Fd.ACU_CFG_PACE || s.on Fd.ACU_STATUS_STEPPEND) then
          (s.put Fd.ACU_STATUS_STEPPEND 0).acuBegin { kind := .list, ch := 0, osr := 0 }
        else s.acuShow

/-! ### Commands (R113–R118) -/

/-- R113: SINGLE. -/
def State.acuSingle (s : State) : State :=
  let ch := s.get Fd.ACU_CHSEL_CH
  let osr := s.get Fd.ACU_CHSEL_OSR
  if !selOk ch osr then s.acuRefuse true
  else if !s.acuIdle || s.on Fd.ACU_STATUS_LISTRUN || s.pmu.warned then s.acuRefuse false
  else s.acuBegin { kind := .single, ch := ch, osr := s.acuOsr osr }

/-- R113, R116: LISTGO starts the list at FIRST, or arms it in stepped mode. -/
def State.acuListgo (s : State) : State :=
  if s.on Fd.ACU_STATUS_LISTRUN || s.acu.cal.isSome || s.pmu.warned then s.acuRefuse false
  else
    (((s.put Fd.ACU_STATUS_LISTRUN 1).put Fd.ACU_STATUS_IDX (s.get Fd.ACU_LISTCTRL_FIRST)).acuM fun a =>
      { a with stopping := false }).acuNext

/-- The list stops. A step still pending is discarded without a count: R116 and R117 say nothing of it (DESIGN CHOICE, log
entry 16). -/
def State.listStop (s : State) : State :=
  ((s.put Fd.ACU_STATUS_LISTRUN 0).put Fd.ACU_STATUS_STEPPEND 0).acuM fun a => { a with stopping := false }

/-- R117: LISTSTOP: the running entry completes, then the list stops. -/
def State.acuListstop (s : State) : State :=
  let entry := (s.acu.run.map (·.kind == .list)).getD false || (s.acu.interrupted.map (·.kind == .list)).getD false
  if !s.on Fd.ACU_STATUS_LISTRUN then s
  else if entry then s.acuM fun a => { a with stopping := true }
  else s.listStop

/-- R121: CALZERO or CALFULL. -/
def State.acuCal (s : State) (full : Bool) : State :=
  let ch := s.get Fd.ACU_CALCH_CH
  let osr := s.get Fd.ACU_CALCH_OSR
  if !selOk ch osr then s.acuRefuse true
  else if !s.acuIdle || s.on Fd.ACU_STATUS_LISTRUN || s.pmu.warned then s.acuRefuse false
  else (s.acuM fun a => { a with cal := some ⟨full, ch, s.acuOsr osr, 2 ^ min 8 (s.get Fd.ACU_CALCH_AVG), 0, 0⟩ }).acuNext

/-- R110: the instant, in half tbu, of half the `k2`-th MCLK edge after the start edge `e` of the running conversion, through
the changes of its clock. -/
def State.acuEdge2 (s : State) (c : AcuConv) (e k2 : Nat) : Nat :=
  match s.acu.turns.find? fun x => decide (2 * x.idx ≤ k2) with
  | some x => 2 * x.time + (k2 - 2 * x.idx) * x.per
  | none => 2 * e + k2 * s.mclkT (c.ch / 8)

/-- R110: the instant at which a conversion's result reaches the ACU: 5 × OSR + 8 MCLK periods after its start edge, and two
SYS cycles, the least of the 2–3. -/
def State.acuReach (s : State) (c : AcuConv) (e : Nat) : Nat := s.acuEdge2 c e (2 * (5 * c.osr + 8)) / 2 + 2 * s.sysT

/-- R110: when the result of a conversion that has started reaches the ACU. -/
def State.acuDue (s : State) (c : AcuConv) : Option Nat := if s.acu.lost then none else c.start.map fun e => s.acuReach c e

/-- R119: the running conversion's start command came in the SYS cycle of the urgent request or after it: the request takes the
start, and the conversion's command waits again. R119 says so of a result and of a step; of a LISTGO, CALZERO or CALFULL of the
same cycle the spec says nothing, and it is treated alike (DESIGN CHOICE, log entry 16). -/
def State.acuYield (s : State) (c : AcuConv) : State :=
  let s := s.acuM fun a => { a with run := none, urgent := a.urgent + 1 }
  match c.kind with
  | .list => if s.on Fd.ACU_CFG_PACE then s.put Fd.ACU_STATUS_STEPPEND 1 else s
  | .cal => s
  | _ => s.acuM fun a => { a with interrupted := some c }

/-- R114, R118, R119: an urgent request that reached the ACU at `t`. Two may run or wait; one more is dropped. The URGMODE at
the start of the running conversion decides, and a result that is due stands. -/
def State.acuUrgent (s : State) (t : Nat) : State :=
  if !selOk (s.get Fd.ACU_URGSEL_CH) (s.get Fd.ACU_URGSEL_OSR) then s.acuRefuse true
  else if s.pmu.warned then s
  else
    match s.acu.run with
    | none => (s.acuM fun a => { a with urgent := a.urgent + 1 }).acuNext
    | some c =>
      let held := s.acu.urgent + (c.kind == .urgent).toNat
      let due := ((s.acuDue c).map fun d => decide (d ≤ s.now)).getD false
      if 2 ≤ held then s.raise Ev.ACU_FLAGS_URGOVF
      else if c.kind == .urgent || c.fall || due then (s.acuM fun a => { a with urgent := a.urgent + 1 }).acuShow
      else if c.start.isNone && t < c.asked + s.sysT && c.kind != .single then (s.acuYield c).acuNext
      else
        ((s.raise Ev.ACU_FLAGS_ABORT).acuM fun a => { a with interrupted := some c, run := none, urgent := a.urgent + 1 }).acuNext

/-- R113: a write of ACU_CFG: OSR, PACE and WRAP change only while nothing runs; URGMODE and CORREN always. -/
def State.acuCfgWrite (s : State) (v : Word) : State :=
  let w := v.toNat
  let osr := cut w 16 13
  let changes := decide (osr ≠ s.get Fd.ACU_CFG_OSR ∨ cut w 2 2 ≠ cut (s.rdN Reg.ACU_CFG) 2 2)
  let busy := !s.acuIdle || s.on Fd.ACU_STATUS_LISTRUN
  let s := (s.put Fd.ACU_CFG_URGMODE (cut w 0 1)).put Fd.ACU_CFG_CORREN (cut w 1 1)
  if changes && (busy || decide (osr < 256 ∨ 4096 < osr)) then s.acuRefuse false
  else ((s.put Fd.ACU_CFG_PACE (cut w 2 1)).put Fd.ACU_CFG_WRAP (cut w 3 1)).put Fd.ACU_CFG_OSR osr

/-- R116: a step launches the next entry, is held as the one pending step, or is dropped. The rule gives steps a meaning in
stepped mode only: one that arrives while a free-running list runs is ignored without a flag (DESIGN CHOICE, log entry 16). -/
def State.acuListStep (s : State) : State :=
  if !s.on Fd.ACU_STATUS_LISTRUN || !s.on Fd.ACU_CFG_PACE then s
  else if s.on Fd.ACU_STATUS_STEPPEND then s.raise Ev.ACU_FLAGS_STEPOVF
  else (s.put Fd.ACU_STATUS_STEPPEND 1).acuNext

/-! ### Results (R109–R112, R120) -/

/-- R117: an entry completes and the list moves on or ends. A LISTSTOP written during an entry that has LAST = 1, or is entry
1,023, stops the list without LISTDONE or LISTOVF: two rows of the table apply (DESIGN CHOICE, log entry 16). -/
def State.listAdvance (s : State) (last : Bool) : State :=
  let i := s.get Fd.ACU_STATUS_IDX
  if s.acu.stopping then s.listStop
  else if last then
    let s := s.raise Ev.ACU_FLAGS_LISTDONE
    if s.on Fd.ACU_CFG_WRAP then s.put Fd.ACU_STATUS_IDX (s.get Fd.ACU_LISTCTRL_FIRST) else s.listStop
  else if i = 1023 then (s.raise Ev.ACU_FLAGS_LISTOVF).listStop
  else s.put Fd.ACU_STATUS_IDX (i + 1)

/-- R115: an entry that is not converted: BADWORD, an invalid result word, and the list moves on at once. In stepped mode the
entry after it waits for a step, as any next entry does: the rule does not say that it starts without one (DESIGN CHOICE,
log entry 16). -/
def State.badEntry (s : State) (w : Nat) : State :=
  let i := s.get Fd.ACU_STATUS_IDX
  let s := (s.raise Ev.ACU_FLAGS_BADWORD).wrN (Reg.ACU_RESMEM i) (2 ^ 25 * cut w 0 6)
  ((s.acuM fun a => { a with run := none }).listAdvance (w.testBit 31)).acuNext

/-- R110: a conversion starts at the reference edge 2–3 MCLK periods after its command. -/
def State.acuStartConv (s : State) (c : AcuConv) : State :=
  let g : Fin 7 := Fin.ofNat 7 (c.ch / 8)
  if s.mclkOn g then
    let e := s.edgeFrom g (c.asked + 2 * s.mclkT g)
    if s.acu.lost then s else (s.reachNow e).acuM fun a => { a with run := some { c with start := some e }, turns := [] }
  else s.acuM fun a => { a with run := some c }

/-- R114: an urgent conversion whose select has become invalid does not run. The rule gives VALID and KIND of RESINFO; CH and
IDX become 0 (DESIGN CHOICE, log entry 16). -/
def State.urgentInvalid (s : State) : State :=
  let s := (s.wrN Reg.ACU_URGRES 0).wrN Reg.ACU_RESINFO (2 * 2 ^ 9)
  let s := (s.raise Ev.ACU_FLAGS_BADWORD).raise Ev.ACU_FLAGS_URGDONE
  ((s.acuM fun a => { a with run := none }).acuNext).fireLater 67

/-- R110, R114, R115: the requested conversion starts; list entries and the urgent select are read now. -/
def State.acuConversionStart (s : State) : State :=
  match s.acu.run with
  | some ⟨.list, _, _, none, at_, fall, corr⟩ =>
    let w := s.rdN (Reg.ACU_LIST (s.get Fd.ACU_STATUS_IDX))
    if selOk (cut w 0 6) (cut w 16 13) then
      (s.acuM fun a => { a with last := w.testBit 31 }).acuStartConv ⟨.list, cut w 0 6, s.acuOsr (cut w 16 13), none, at_, fall, corr⟩
    else s.badEntry w
  | some ⟨.urgent, _, _, none, at_, fall, corr⟩ =>
    let ch := s.get Fd.ACU_URGSEL_CH
    let osr := s.get Fd.ACU_URGSEL_OSR
    if selOk ch osr then s.acuStartConv ⟨.urgent, ch, s.acuOsr osr, none, at_, fall, corr⟩ else s.urgentInvalid
  | some c => if c.start.isNone then s.acuStartConv c else s
  | none => s

/-- R113, R120: the corrected result and whether it saturated, with the CORREN of the conversion's start. -/
def State.corrected (s : State) (corr : Bool) (ch : Nat) (raw : Int) : Int × Bool :=
  if corr then
    let x := meanAway ((raw - sx 24 (s.rdN (calOfs ch))) * cut (s.rdN (calGain ch)) 0 24) (2 ^ 22)
    (satTo 24 x, decide (satTo 24 x ≠ x))
  else (raw, false)

/-- R123: one window comparator examines a valid corrected result. -/
def State.window (s : State) (k : Nat) (v : Int) : State :=
  let lo := s.getS (Fd.ACU_WIN_LO_LO k)
  let hi := s.getS (Fd.ACU_WIN_HI_HI k)
  let hy : Int := s.get (Fd.ACU_WIN_HYST_HYST k)
  let out : Fld := ⟨Reg.ACU_WINSTAT, 16 + k, 1⟩
  if s.on out then (if lo + hy ≤ v ∧ v ≤ hi - hy then s.put out 0 else s)
  else if v < lo ∨ hi < v then (s.put out 1).raise (Ev.ACU_WINSTAT_OUT k) else s

/-- R123: every comparator that watches the input. -/
def State.windows (s : State) (ch : Nat) (v : Int) : State :=
  (List.range 16).foldl (fun s (k : Nat) =>
    if s.on (Fd.ACU_WIN_CFG_EN k) && s.get (Fd.ACU_WIN_CFG_CH k) == ch then s.window k v else s) s

/-- R121: the code of a calibration entry. -/
def calWord (ofs gain : Nat) : Nat := ofs % 2 ^ 24 + 2 ^ 24 * (gain % 2 ^ 24) + 2 ^ 48 * 0xA5

/-- R121: the live copy of an input is updated and its entry written to MRAM. -/
def State.calStore (s : State) (ch ofs gain : Nat) : State :=
  let s := (s.wrN (calOfs ch) (ofs % 2 ^ 24)).put ⟨calGain ch, 0, 24⟩ gain
  (s.blockWrite (calEntry ch) 8 (calWord ofs gain)).acuM fun a => { a with calWrite := true }

/-- R121: a calibration step has made all its conversions. A negative gain, for which the spec states no code, is a
free value. -/
def State.calFinish (s : State) (c : AcuCal) : State :=
  let avg := meanAway c.sum c.total
  let s := s.acuM fun a => { a with cal := none }
  if c.full then
    let d := avg - sx 24 (s.rdN (calOfs c.ch))
    let gain := meanAway (s.getS Fd.ACU_CALREF_REF * 2 ^ 22) d.toNat
    if d ≤ 0 ∨ 2 ^ 24 ≤ gain then s.raise Ev.ACU_FLAGS_CALERR
    else if gain < 0 then
      let (f, s) := s.fresh
      s.calStore c.ch (s.rdN (calOfs c.ch)) f.toNat
    else s.calStore c.ch (s.rdN (calOfs c.ch)) gain.toNat
  else s.calStore c.ch (enc 24 avg) (cut (s.rdN (calGain c.ch)) 0 24)

/-- R121: a calibration conversion has ended; an invalid one ends the step with CALERR. -/
def State.calTake (s : State) (raw : Int) (valid : Bool) : State :=
  match s.acu.cal with
  | none => s
  | some c =>
    if !valid then (s.acuM fun a => { a with cal := none }).raise Ev.ACU_FLAGS_CALERR
    else
      let c := { c with made := c.made + 1, sum := c.sum + raw }
      if c.made = c.total then s.calFinish c else s.acuM fun a => { a with cal := some c }

/-- R111: a result of any kind issues: registers, stamp, source 67 and sample-bus channel 56. -/
def State.acuIssue (s : State) (c : AcuConv) (raw : Int) (rawSat valid : Bool) (stamp : Nat) : State :=
  let (cv, csat) := if valid then s.corrected c.corr c.ch raw else (0, false)
  let sat := valid && (rawSat || csat)
  let idx := if c.kind = .list then s.get Fd.ACU_STATUS_IDX else 0
  let kind := match c.kind with | .single => 0 | .list => 1 | .urgent => 2 | .cal => 3
  let s := s.raiseIf sat Ev.ACU_FLAGS_SAT
  let s := (s.wrN Reg.ACU_RES (enc 32 cv)).wrN Reg.ACU_RESINFO (c.ch + 2 ^ 8 * valid.toNat + 2 ^ 9 * kind + 2 ^ 16 * idx)
  let s := (s.setStamp Reg.ACU_STAMP_LO stamp).sampleSet 56 ⟨BitVec.ofNat 32 (enc 24 cv * 2 ^ 8), valid, stamp⟩
  let s := s.acuM fun a => { a with run := none }
  let s := match c.kind with
    | .single => s.raise Ev.ACU_FLAGS_SINGLEDONE
    | .list =>
      (s.wrN (Reg.ACU_RESMEM idx) (enc 24 cv + 2 ^ 24 * valid.toNat + 2 ^ 25 * c.ch + 2 ^ 31 * sat.toNat)).listAdvance s.acu.last
    | .urgent => (s.wrN Reg.ACU_URGRES (enc 32 cv)).raise Ev.ACU_FLAGS_URGDONE
    | .cal => s.calTake raw valid
  let s := if valid then s.windows c.ch cv else s
  s.acuNext.fireLater 67

/-- R111: the stamp of a conversion that started at edge `e`. -/
def State.acuStamp (s : State) (c : AcuConv) (e : Nat) : Nat :=
  enc 64 (s.countAt2 (s.acuEdge2 c e (5 * (c.osr - 1))) - s.extDelay (c.ch / 8))

/-- R111, R112: the stamp of a conversion that ends for want of a clock: the count at its start edge and the half span in
periods expected. -/
def State.acuStampNone (s : State) (c : AcuConv) (e : Nat) : Nat :=
  let half : Int := (5 * (c.osr - 1) * s.mclkT (c.ch / 8) : Nat)
  enc 64 (s.countAt2 (2 * (e : Int)) + half / 2 - s.extDelay (c.ch / 8))

/-- R109, R110: the running conversion's result issues 5 × OSR + 8 MCLK periods after its start edge and reaches the ACU's
registers two SYS cycles later, while the group's MCLK runs; it is invalid if its span holds a bit received during a health
fault on an enabled input (R112). A conversion that has missed its clock has ended already. -/
def State.acuResult (s : State) (line : List MdatPeriod) : State :=
  match s.acu.run with
  | none => s
  | some c =>
    match c.start with
    | none => s
    | some e =>
      let g := c.ch / 8
      if s.mclkOn g && !s.acu.lost then
        let need := 5 * (c.osr - 1) + 1
        let sum := (sinc c.osr 5 (newest (s.on (Fd.MODIN_IN_CFG_INV c.ch)) need (s.received c.ch line))).headD 0
        let x := meanAway (2 ^ 23 * sum) (c.osr ^ 5)
        let wait := s.bitDelay g * s.mclkT g
        let dirty := s.on (Fd.MODIN_IN_CFG_EN c.ch) &&
          (s.modin.inputs[c.ch]!).soiled (e + wait) (s.acuEdge2 c e (10 * (c.osr - 1)) / 2 + wait)
        (s.reachNow (s.acuReach c e)).acuIssue c (satTo 24 x) (decide (satTo 24 x ≠ x)) (!dirty) (s.acuStamp c e)
      else s

/-- R115, R118: what the running conversion converts: a list's entry and an urgent request's select are read at their start. -/
def State.acuTarget (s : State) (c : AcuConv) : AcuConv :=
  if c.start.isSome then c
  else
    match c.kind with
    | .list =>
      let w := s.rdN (Reg.ACU_LIST (s.get Fd.ACU_STATUS_IDX))
      { c with ch := cut w 0 6, osr := s.acuOsr (cut w 16 13) }
    | .urgent => { c with ch := s.get Fd.ACU_URGSEL_CH, osr := s.acuOsr (s.get Fd.ACU_URGSEL_OSR) }
    | _ => c

/-- R124: after a loss of the sync clock a list stops at the entry that runs, or that the running conversion interrupted. -/
def State.acuListEnd (s : State) (c : AcuConv) : State :=
  if !s.on Fd.ACU_STATUS_LISTRUN then s
  else if c.kind = .list then s.acuM fun a => { a with stopping := true }
  else (s.acuM fun a => { a with interrupted := a.interrupted.filter fun x => x.kind != .list }).listStop

/-- R112: no reference edge for 4 expected periods, from the start command or from the last edge: the conversion ends at once,
invalid. The clock stands, or has come back since. R124: after a loss of the sync clock a list stops at that entry. -/
def State.acuNoclk (s : State) : State :=
  match s.acu.run with
  | none => s
  | some c =>
    let c := s.acuTarget c
    let g : Fin 7 := Fin.ofNat 7 (c.ch / 8)
    if (s.mclkOn g && !s.acu.lost) || !selOk c.ch c.osr then s
    else
      let s := if s.mclkOn g then s else s.reachNow (max c.asked s.modin.lastRise[g] + 4 * s.mclkT g)
      let s := if s.pwmClk then s else s.acuListEnd c
      (s.raise Ev.ACU_FLAGS_NOCLK).acuIssue c 0 false false (s.acuStampNone c (c.start.getD s.now))

/-! ### Changes of a group's clock (R70, R71, R110, R112) -/

/-- The last edge of a conversion's clock at its old period, counted from the start edge, before it stops or switches over. -/
def State.acuMark (s : State) (g : Fin 7) : State :=
  match s.acu.run with
  | some ⟨_, ch, _, some e, _, _, _⟩ =>
    let h := s.acu.turns.headD ⟨0, e, s.mclkT g⟩
    if ch / 8 = g.val then s.acuM fun a => { a with turns := ⟨h.idx + (s.modin.lastRise[g] - h.time) / h.per, s.modin.lastRise[g], h.per⟩ :: a.turns }
    else s
  | _ => s

/-- R110, R112: the group's clock runs again with the edge `origin`, its period having been `told`: the running conversion
counts on, or has missed its clock for 4 expected periods. `sync`: the clock was lost with the sync PLL (R124). -/
def State.acuReclock (s : State) (g : Fin 7) (told : Nat) (sync : Bool) : State :=
  match s.acu.run with
  | none => s
  | some c =>
    let c := s.acuTarget c
    let e := s.modin.origin[g]
    let last := if c.start.isSome then s.modin.lastRise[g] else max c.asked s.modin.lastRise[g]
    if c.ch / 8 ≠ g.val ∨ s.acu.lost then s
    else if last + 4 * told ≤ e then
      let s := s.acuM fun a => { a with lost := true }
      if sync then s.acuListEnd c else s
    else
      match s.acu.turns with
      | h :: _ => s.acuM fun a => { a with turns := ⟨h.idx + 1, e, s.mclkT g⟩ :: a.turns }
      | [] => s

/-- R121: the calibration entry is durable. -/
def State.acuCalDurable (s : State) : State :=
  if s.acu.calWrite && s.blockIdle then (s.acuM fun a => { a with calWrite := false }).raise Ev.ACU_FLAGS_CALDONE else s

/-- R122: the reset load of the calibration table completes; it happens once. -/
def State.acuCalLoad (s : State) : State :=
  if !s.on Fd.ACU_STATUS_CALLOAD then s else
  let s := (List.range 56).foldl (fun s (n : Nat) =>
    let w := s.memRd (calEntry n) 8
    if cut w 48 8 = 0xA5 then (s.wrN (calOfs n) (cut w 0 24)).wrN (calGain n) (cut w 24 24)
    else (s.wrN (calOfs n) 0).wrN (calGain n) (0x400000 + 2 ^ 31)) s
  s.put Fd.ACU_STATUS_CALLOAD 0

/-- R124: at the power-fail warning the running conversion is abandoned and the list stops. -/
def State.acuWarning (s : State) : State :=
  ((s.acuM fun a => { a with run := none, interrupted := none, urgent := 0, cal := none }).listStop).acuShow

/-- R123, R126: a write of ACU_WINk_CFG: the comparator starts inside when EN goes to 1, and a disabled one is not
outside. -/
def State.winCfgWrite (s : State) (k : Nat) (v : Word) : State :=
  let was := s.on (Fd.ACU_WIN_CFG_EN k)
  let s := s.wrN (Reg.ACU_WIN_CFG k) (cut v.toNat 0 6 + 2 ^ 8 * cut v.toNat 8 1)
  if was && v.getLsbD 8 then s else s.put ⟨Reg.ACU_WINSTAT, 16 + k, 1⟩ 0

/-- R126: a write of ACU_CMD issues the commands whose bits are 1, lowest first. -/
def State.acuCmdWrite (s : State) (v : Word) : State :=
  let s := if v.getLsbD 0 then s.acuSingle else s
  let s := if v.getLsbD 1 then s.acuListgo else s
  let s := if v.getLsbD 2 then s.acuListstop else s
  let s := if v.getLsbD 3 then s.acuCal false else s
  let s := if v.getLsbD 4 then s.acuCal true else s
  if v.getLsbD 5 then s.acuUrgent s.now else s

/-! ### The meanings -/

/-- R113. -/
def execAcuSingle (s : State) : Result := .next s.acuSingle
/-- R116. -/
def execAcuListgo (s : State) : Result := .next s.acuListgo
/-- R117. -/
def execAcuListstop (s : State) : Result := .next s.acuListstop
/-- R121. -/
def execAcuCalzero (s : State) : Result := .next (s.acuCal false)
/-- R121. -/
def execAcuCalfull (s : State) : Result := .next (s.acuCal true)
/-- R118. -/
def execAcuUrgent (byLaunch : Bool) (s : State) : Result :=
  .next (if byLaunch then s.takeLaunch 55 fun s l => s.acuUrgent (l.matched + s.launchDelay 55) else s.acuUrgent s.now)
/-- R113. -/
def execAcuCfgWrite (v : Word) (s : State) : Result := .next (s.acuCfgWrite v)
/-- R116. -/
def execAcuListStep (s : State) : Result := .next (s.takeLaunch 56 fun s _ => s.acuListStep)
/-- R110. -/
def execAcuConversionStart (s : State) : Result := .next s.acuConversionStart
/-- R111. -/
def execAcuResult (line : List MdatPeriod) (s : State) : Result := .next (s.acuResult line)
/-- R112. -/
def execAcuNoclk (s : State) : Result := .next s.acuNoclk
/-- R121. -/
def execAcuCalEntryDurable (s : State) : Result := .next s.acuCalDurable
/-- R122. -/
def execAcuCalLoadDone (s : State) : Result := .next s.acuCalLoad

end Sys2Proof.Machine
end

