-- ==== Sys2Proof/Machine/Trip.lean ====
section
/-! DEFINITION. The trip outputs and block lines that PROT and PROBE share (R248, R285). -/
namespace Sys2Proof.Machine

/-- Replaces PROT's hidden state. -/
def State.protM (s : State) (f : Prot → Prot) : State := { s with prot := f s.prot }

/-- R248, R285: output `b` (TRIP0, TRIP1, BLK0, BLK1) is driven: a latched stage or the latched ISL selects it, or
momentary cessation asserts block line 1. -/
def State.tripDriven (s : State) (b : Nat) : Bool :=
  let lat := s.get Fd.PROT_TRIPLAT_LAT
  (List.range 16).any (fun k => lat.testBit k && (s.rdN (Reg.PROT_STG_CFG k)).testBit (1 + b)) ||
  (s.on Fd.PROBE_STATUS_ISL && (s.rdN Reg.PROBE_CFG).testBit (24 + b)) ||
  (b == 3 && s.on Fd.PROT_RTCFG_EN && s.on Fd.PROT_RTCFG_MCBLK && s.get Fd.PROT_STATUS_REGION == 3)

/-- Block line `l` follows its drivers. -/
def State.blockLine (s : State) (l : Fin 2) : State :=
  let b := s.tripDriven (2 + l.val)
  if s.pwm.protLines.getLsbD l.val = b then s else s.forceSet (.prot l) b

/-- R248: the outputs follow the latches within 100 ns; from the power-fail warning on TRIP0 and TRIP1 keep their state
(R33). -/
def State.tripUpdate (s : State) : State :=
  let s := if s.pmu.warned then s else s.protM fun p => { p with trips := setBit (setBit p.trips 0 (s.tripDriven 0)) 1 (s.tripDriven 1) }
  (s.blockLine 0).blockLine 1

/-- R260: the level of a TRIP pin: active high unless its POL bit is set. -/
def State.tripPin (s : State) (i : Fin 2) : Bool := s.prot.trips.getLsbD i.val != (s.get ⟨Reg.PROT_TRIPCFG, i.val, 1⟩ != 0)

end Sys2Proof.Machine
end

