-- ==== Sys2Proof/Machine/Probe.lean ====
section
/-! DEFINITION. PROBE: the chip grid, injection, correlation, the decision and its latch (R277–R294). -/
namespace Sys2Proof.Machine

/-- Replaces PROBE's hidden state. -/
def State.probeM (s : State) (f : Probe → Probe) : State := { s with probe := f s.probe }

/-- The number of bits set in a number. -/
def popCount (x : Nat) : Nat := (List.range 64).countP fun i => x.testBit i

/-- R277: chip `k` of the Walsh code of index `w`. -/
def walsh (w k : Nat) : Int := if popCount (w &&& k) % 2 = 0 then 1 else -1

/-- The integer square root, one bit at a time. -/
def isqrt (n : Nat) : Nat :=
  (List.range (n.log2 / 2 + 1)).foldr (fun b r => if (r + 2 ^ b) ^ 2 ≤ n then r + 2 ^ b else r) 0

/-- A square root of `num / den` rounded half away from zero. -/
def sqrtRound (num den : Nat) : Nat := (isqrt (4 * num / den) + 1) / 2

/-- R292: the live set breaks a range of the register tables, or names index 0. -/
def State.probeBad (s : State) : Bool :=
  let len := s.rdN Reg.PROBE_CHIPLEN
  let amp := s.get Fd.PROBE_AMP_AMP
  let c := s.get Fd.PROBE_CFG_CONSEC
  s.get Fd.PROBE_CFG_CODE == 0 || c == 0 || 4 < c || amp < 25 || 200 < amp ||
    len < 100000000 || 200000000 < len || len ≤ 16000 * s.get Fd.PROBE_GUARD_GUARD

/-- PROBE runs: EN = 1, the live set is run, and no power-fail warning has come (R292). -/
def State.probeRuns (s : State) : Bool := s.on Fd.PROBE_CFG_EN && !s.on Fd.PROBE_STATUS_BADCFG && !s.pmu.warned

/-- R290: a field of CFG (word 0), AMP (1) or GUARD (2) as PROBE uses it in period `n`: to the end of the period of a switch-over
what it held before; the new set applies from the next chip 0. -/
def State.probeSet (s : State) (n : Nat) (w : Fin 3) (f : Fld) : Nat :=
  match s.probe.old with
  | some (m, v) => if n ≤ m then cut v[w].toNat f.lo f.w else s.get f
  | none => s.get f

/-- R277: the own code's chip at boundary number `b`. -/
def State.probeChip (s : State) (b : Nat) : Int := walsh (s.probeSet (b / 64) 0 Fd.PROBE_CFG_CODE) (b % 64)

/-- R280: AMP in pu Q4.28, rounded, at boundary number `b`. -/
def State.probeAmp (s : State) (b : Nat) : Int := meanAway (s.probeSet (b / 64) 1 Fd.PROBE_AMP_AMP * 2 ^ 28) 10000

/-- R280: the command doubleword, written whole by the block port into the data memory of the named reckoner. -/
def State.probeCommand (s : State) (act : Bool) : State :=
  let b := s.probe.boundary
  let iq := if act then s.probeAmp b * s.probeChip b else 0
  let w1 := b % 64 + 2 ^ 8 * act.toNat + 2 ^ 16 * (b / 64 % 2 ^ 16)
  s.blockWrite (0x24010000 + 0x40000 * s.get Fd.PROBE_CMDADDR_RK + 8 * s.get Fd.PROBE_CMDADDR_ADDR) 8 (enc 32 iq + 2 ^ 32 * w1)

/-- Changes the record of the chip at boundary `b`, adding one if there is none. -/
def chipUpd (b : Nat) (f : ProbeChip → ProbeChip) : List ProbeChip → List ProbeChip
  | [] => [f { boundary := b }]
  | c :: t => if c.boundary = b then f c :: t else c :: chipUpd b f t

/-- Changes the record of one chip. -/
def State.chipM (s : State) (b : Nat) (f : ProbeChip → ProbeChip) : State :=
  s.probeM fun p => { p with chips := chipUpd b f p.chips }

/-- R281: at the end of the chip in force APPLIED is tested, once: its sign differs from the chip's, or its magnitude is
below AMP / 2. -/
def State.probeTest (s : State) : State :=
  let b := s.probe.boundary
  if !s.probe.tested && (b + 1) * s.rdN Reg.PROBE_CHIPLEN ≤ s.tbl.count then
    let v := sx 32 (s.rdN (Reg.PROBE_APPLIED (s.probeSet (b / 64) 0 Fd.PROBE_CFG_GP)))
    let curt := v * s.probeChip b ≤ 0 || v.natAbs * 20000 < s.probeSet (b / 64) 1 Fd.PROBE_AMP_AMP * 2 ^ 28
    (s.chipM b fun c => { c with curtailed := curt }).probeM fun p => { p with tested := true }
  else s

/-- R281, R291: a release lands on destination 0x210 + g; one of the SYS cycle in which a chip ends is tested. -/
def State.probeRefRelease (s : State) (g : Nat) (v : Word) : State :=
  (if s.tbl.count < (s.probe.boundary + 1) * s.rdN Reg.PROBE_CHIPLEN + tPwm then s else s.probeTest).wr (Reg.PROBE_APPLIED g) v

/-- R290: injection stops: IQ = 0 and ACT = 0 at once, the period is unusable and the count 0. -/
def State.probeStop (s : State) : State :=
  if s.get Fd.PROBE_STATUS_STATE = 2 then
    let s := ((s.put Fd.PROBE_STATUS_STATE 3).raise Ev.PROBE_FLAGS_SUSP).put Fd.PROBE_STATUS_COUNT 0
    let s := s.chipM s.probe.boundary fun c => { c with suspended := true }
    s.probeCommand false
  else s

/-- R290, R291: the conditions under which injection starts or resumes; not in the cycle of a switch-over. -/
def State.probeMayStart (s : State) : Bool :=
  s.probeRuns && s.get Fd.PROT_STATUS_REGION == 0 && !s.on Fd.PROT_STATUS_RTOUT && !s.flag Ev.TBL_STATUS_TBINV &&
    s.probe.switchAt != some s.now

/-- R279: the instant at which boundary `b` counts as missed while the count stands: reckoned from what it shows. -/
def State.probeMissTime (s : State) (b : Nat) : Nat :=
  ((s.now : Int) + ((b : Int) * s.rdN Reg.PROBE_CHIPLEN - s.tbl.count) + 200 * tUs).toNat

/-- R279: 200 µs of REFCLK time have passed since boundary `b`. -/
def State.probeMissed (s : State) (b : Nat) : State :=
  let t := b * s.rdN Reg.PROBE_CHIPLEN
  if s.canReach t then
    let s := s.reachCount t
    s.reachNow (s.nowAt t + 200 * tUs)
  else s.reachNow s.probe.missAt

/-- R279, R280, R290: a step is taken as the boundary it lies within 100 µs after, or is ignored with STEPERR; an
accepted one starts the chip, starts injection at a chip 0 when allowed, and writes the command, which lands two SYS cycles
and 4.0 ns on, the least, on the PWM clock's grid. -/
def State.probeStep (s : State) (l : Launch) : State :=
  let s := (s.reachNow (l.matched + 160)).probeTest
  if !s.probeRuns then s
  else
    let len := s.rdN Reg.PROBE_CHIPLEN
    let b := s.tbl.count / len
    if 100 * tUs < s.tbl.count - b * len then
      (s.raise Ev.PROBE_FLAGS_STEPERR).chipM b fun c => { c with missed := true }
    else
      let st := s.get Fd.PROBE_STATUS_STATE
      let s := s.probeM fun p => { p with boundary := b, missAt := s.probeMissTime (b + 1), tested := false }
      let s := s.put Fd.PROBE_STATUS_CHIP (b % 64)
      let s := if st ≠ 2 ∧ b % 64 = 0 ∧ s.probeMayStart then s.put Fd.PROBE_STATUS_STATE 2 else s
      let inj := s.get Fd.PROBE_STATUS_STATE == 2
      let s := s.chipM b fun c => { c with injected := inj }
      (s.advance ((2 * s.sysT + 103) / 40)).probeCommand inj

/-- R279: no step has been accepted 200 µs after a boundary. -/
def State.probeStepMiss (s : State) : State :=
  if s.probeRuns then
    let b := s.probe.boundary + 1
    let s := (s.probeMissed b).probeTest
    let s := (s.raise Ev.PROBE_FLAGS_STEPMISS).chipM b fun c => { c with missed := true }
    let s := s.probeM fun p => { p with boundary := b, missAt := p.missAt + s.rdN Reg.PROBE_CHIPLEN, tested := false }
    (s.put Fd.PROBE_STATUS_CHIP (b % 64)).probeStop
  else s

/-- R282: an update of the probe grid point, stamped `u`, is averaged into its chip. -/
def State.probeUpdate (s : State) (g : Nat) (u : Nat) : State :=
  let len := s.rdN Reg.PROBE_CHIPLEN
  let b := u / len
  if s.probeRuns && g == s.probeSet (b / 64) 0 Fd.PROBE_CFG_GP then
    if s.probeSet (b / 64) 2 Fd.PROBE_GUARD_GUARD * tUs ≤ u - b * len ∧ s.probe.period ≤ b / 64 then
      let ch (c : Nat) : Sample := s.samples[64 + 48 * g + c]!
      let x (c : Nat) : Int := sx 32 (ch c).value.toNat
      let ok := (ch 31).valid && (ch 32).valid && (ch 20).valid && (ch 21).valid
      s.chipM b fun c => { c with n := c.n + 1, vd := c.vd + x 31, vq := c.vq + x 32, id := c.id + x 20, iq := c.iq + x 21
                                  invalid := c.invalid || !ok }
    else s
  else s

/-- The 64 chips of a code period. -/
def periodChips (cs : List ProbeChip) (n : Nat) : List ProbeChip :=
  (List.range 64).map fun k => (cs.find? fun c => c.boundary == 64 * n + k).getD { boundary := 64 * n + k }

/-- The least common multiple of the chips' numbers of updates. -/
def chipDen (cs : List ProbeChip) : Nat := cs.foldl (fun d c => Nat.lcm d c.n) 1

/-- R283: `d` times the sum of the chip means of `f`, weighted with the code of index `w`. -/
def chipSum (cs : List ProbeChip) (d w : Nat) (f : ProbeChip → Int) : Int :=
  cs.foldl (fun a c => if c.n = 0 then a else a + walsh w (c.boundary % 64) * f c * (d / c.n)) 0

/-- R284: the lowest-numbered cause that makes a period unusable; 0 where it is usable. -/
def probeCause (cs : List ProbeChip) (weak : Bool) : Nat :=
  if cs.any (fun c => c.n == 0) then 1
  else if cs.any (·.invalid) then 2
  else if cs.any (·.curtailed) then 3
  else if weak then 4
  else if cs.any (·.missed) then 5
  else if cs.any (fun c => !c.injected || c.suspended) then 6
  else if cs.any (·.switched) then 7
  else 0

/-- R288: the response of channel `j` over period `n` in attributed mode, in 10^-6 pu, rounded half away from zero. -/
def State.probeResp (s : State) (cs : List ProbeChip) (d n : Nat) (j : Nat) : State :=
  let w := cut (s.rdN (if j < 4 then Reg.PROBE_XCODE0 else Reg.PROBE_XCODE1)) (8 * (j % 4)) 6
  if s.probeSet n 0 Fd.PROBE_CFG_MODE != 0 && w != 0 then
    let p := chipSum cs d w (·.vd)
    let q := chipSum cs d w (·.vq)
    s.wrN (Reg.PROBE_XRESP (j - 1)) (min (2 ^ 32 - 1) (sqrtRound ((p * p + q * q).toNat * 10 ^ 12) ((d * 2 ^ 34) ^ 2)))
  else s

/-- R283: Z as its real and imaginary parts times `c² + d²`, over `c² + d²`. -/
def zParts (a b c d : Int) : Int × Int × Nat := (a * c + b * d, b * c - a * d, (c * c + d * d).toNat)

/-- R285, R291: the decision of a usable period; while ISL is latched nothing latches again. A clear of the same cycle, taken
before, is refused. -/
def State.probeDecide (s : State) (high : Bool) : State :=
  let n := if high then min 7 (s.get Fd.PROBE_STATUS_COUNT + 1) else 0
  let s := (s.put Fd.PROBE_STATUS_COUNT n).probeM fun p => { p with low := !high }
  if high && s.get Fd.PROBE_CFG_CONSEC ≤ n && !s.on Fd.PROBE_STATUS_ISL then
    let s := s.raiseIf (s.probe.clrAt == some s.now) Ev.PROBE_FLAGS_CLRREF
    ((s.put Fd.PROBE_STATUS_ISL 1).raise Ev.PROBE_FLAGS_ISL).tripUpdate
  else s

/-- R283–R285: period `n` has ended: Z is computed and reported, and the period is used for the decision if usable. With a chip
without any update, or A_i = 0, the estimate is a free value. -/
def State.probeReport (s : State) (n : Nat) : State :=
  let s := s.probeTest
  let cs := periodChips s.probe.chips n
  let d := chipDen (cs.filter fun c => c.n != 0)
  let w := s.probeSet n 0 Fd.PROBE_CFG_CODE
  let z := zParts (chipSum cs d w (·.vd)) (chipSum cs d w (·.vq)) (chipSum cs d w (·.id)) (chipSum cs d w (·.iq))
  let weak := z.2.2 * 10 ^ 8 < (32 * s.probeSet n 1 Fd.PROBE_AMP_AMP * d * 2 ^ 28) ^ 2
  let cause := probeCause cs weak
  let s :=
    if z.2.2 = 0 ∨ cause = 1 then
      let r := s.fresh
      let x := r.2.fresh
      let m := x.2.fresh
      ((m.2.wr Reg.PROBE_ZR r.1).wr Reg.PROBE_ZX x.1).wr Reg.PROBE_ZMAG m.1
    else
      let s := s.wrN Reg.PROBE_ZR (enc 32 (satTo 32 (meanAway (10000 * z.1) z.2.2)))
      let s := s.wrN Reg.PROBE_ZX (enc 32 (satTo 32 (meanAway (10000 * z.2.1) z.2.2)))
      s.wrN Reg.PROBE_ZMAG (min (2 ^ 32 - 1) (sqrtRound (10 ^ 8 * (z.1 * z.1 + z.2.1 * z.2.1).toNat) (z.2.2 ^ 2)))
  let s := [1, 2, 3, 4, 5, 6, 7].foldl (fun s j => s.probeResp cs d n j) s
  let s := ((s.wrN Reg.PROBE_PERNUM n).raise Ev.PROBE_FLAGS_PERDONE).put Fd.PROBE_PCAUSE_CAUSE cause
  let s := s.probeM fun p => { p with period := n + 1, reported := n, chips := p.chips.filter fun c => 64 * (n + 1) ≤ c.boundary }
  if cause = 0 then s.probeDecide (s.rdN Reg.PROBE_ZTHR < s.rdN Reg.PROBE_ZMAG)
  else (s.raise Ev.PROBE_FLAGS_UNUSED).put Fd.PROBE_STATUS_COUNT 0

/-- R283: a code period is reported one cycle after its end. -/
def State.probePeriod (s : State) : State :=
  let t := (s.probe.period + 1) * 64 * s.rdN Reg.PROBE_CHIPLEN + tPwm
  if s.probeRuns && s.canReach t then (s.reachCount t).probeReport s.probe.period else s

/-- R283, R291: a period whose end a switch-over meets is reported before the new set stands in the registers. -/
def State.probeSettle (s : State) : State :=
  if s.probeRuns && decide ((s.probe.period + 1) * 64 * s.rdN Reg.PROBE_CHIPLEN ≤ s.tbl.count) then s.probeReport s.probe.period else s

/-- R286, R291: a write of ISLCLR; a latch of the same cycle stays. -/
def State.islClear (s : State) : State :=
  if s.on Fd.PROBE_STATUS_ISL then
    if s.probe.low && !s.justSet Ev.PROBE_FLAGS_ISL.addr Ev.PROBE_FLAGS_ISL.bit then (s.put Fd.PROBE_STATUS_ISL 0).tripUpdate else s.raise Ev.PROBE_FLAGS_CLRREF
  else s.probeM fun p => { p with clrAt := some s.now }

/-- R292: the live set is checked. -/
def State.probeCheck (s : State) : State :=
  (s.putB Fd.PROBE_STATUS_BADCFG s.probeBad).raiseIf s.probeBad Ev.PROBE_FLAGS_CFGERR

/-- R278: the chip grid is taken up at the present boundary. -/
def State.probeAnchor (s : State) : State :=
  let b := s.tbl.count / max 1 (s.rdN Reg.PROBE_CHIPLEN)
  s.probeM fun p => { p with boundary := b, missAt := s.probeMissTime (b + 1), tested := false, period := b / 64, old := none
                             chips := p.chips.filter fun c => 64 * (b / 64) ≤ c.boundary }

/-- R292: a probe that runs waits for a chip 0. -/
def State.probeWait (s : State) : State :=
  s.put Fd.PROBE_STATUS_STATE (if !s.probeRuns then 0 else if s.get Fd.PROBE_STATUS_STATE = 3 then 3 else 1)

/-- R278, R292: the live set that CONSENT restores is checked and taken up. -/
def State.probeTake (s : State) : State := s.probeCheck.probeAnchor.probeWait

/-- R285, R290, R292: the anti-islanding live set has switched over from that of `was`: the period is unusable, injection stops,
the outputs follow, and the set is checked; it applies from the next chip 0. The chip grid goes on, but with another chip length or
from a probe that was off it is taken up anew. -/
def State.probeSwitch (s was : State) : State :=
  let goes := was.get Fd.PROBE_STATUS_STATE != 0 && s.rdN Reg.PROBE_CHIPLEN == was.rdN Reg.PROBE_CHIPLEN
  let n := s.probe.boundary / 64
  let kept := s.probe.old.filter fun o => o.1 == n
  let s := s.probeStop.probeM fun p =>
    { p with old := some (n, (kept.map (·.2)).getD #v[was.rd Reg.PROBE_CFG, was.rd Reg.PROBE_AMP, was.rd Reg.PROBE_GUARD]) }
  let s := if goes then s.probeCheck else s.probeCheck.probeAnchor
  let s := s.probeWait.probeM fun p => { p with switchAt := some s.now }
  (s.chipM (max s.probe.boundary (64 * s.probe.period)) fun c => { c with switched := true }).tripUpdate

/-- R279. -/
def execProbeChipStep (s : State) : Result := .next (s.takeLaunch 61 fun s l => s.probeStep l)
/-- R279. -/
def execProbeStepMiss (s : State) : Result := .next s.probeStepMiss
/-- R283. -/
def execProbePeriodResult (s : State) : Result := .next s.probePeriod
/-- R286. -/
def execIslClear (s : State) : Result := .next s.islClear

end Sys2Proof.Machine
end

