-- ==== Sys2Proof/Machine/Phasor.lean ====
section
/-! DEFINITION. What SEQ computes from its input samples (R236, R237, R239): interpolation, the fundamental phasor over a
window, sequence phasors, RMS, THD and mean values. Angles are turn values of 32 bits, angles' cosines have 30 fractional
bits, times are counts of the timebase, and phasors have 8 bits below the input's Q1.31. -/
namespace Sys2Proof.Machine

/-! ### Sines, cosines and angles -/

/-- The partial sum of the series of cosine or sine at `t` radians (30 fractional bits) from one of its terms on. -/
def trigSeries (t : Int) : Nat → Int → Nat → Int
  | 0, _, _ => 0
  | fuel + 1, term, n => term + trigSeries t fuel (-(term * t / 2 ^ 30 * t / 2 ^ 30) / ((n + 1) * (n + 2) : Nat)) (n + 2)

/-- The cosine of a turn value: a quadrant, and the series of cosine or sine within it. -/
def cosT (a : Int) : Int :=
  let x := a % 2 ^ 32
  let t := x % 2 ^ 30 * 1686629713 / 2 ^ 30
  match (x / 2 ^ 30).toNat with
  | 0 => trigSeries t 9 (2 ^ 30) 0
  | 1 => -trigSeries t 9 t 1
  | 2 => -trigSeries t 9 (2 ^ 30) 0
  | _ => trigSeries t 9 t 1

/-- The sine of a turn value. -/
def sinT (a : Int) : Int := cosT (a - 2 ^ 30)

/-- The arc tangents of 1, 1/2, 1/4 … as turn values with 40 bits per turn. -/
def atanTable : List Int :=
  [137438953472, 81134951838, 42869480287, 21761217566, 10922836750, 5466743129, 2734038620, 1367102738,
   683561799, 341782203, 170891265, 85445653, 42722829, 21361415, 10680707, 5340354,
   2670177, 1335088, 667544, 333772, 166886, 83443, 41722, 20861, 10430, 5215, 2608, 1304]

/-- One rotation of a vector towards the positive axis, by the `i`th arc tangent. -/
def cordicStep (v : Int × Int × Int) (e : Int × Nat) : Int × Int × Int :=
  let (x, y, z) := v
  if 0 ≤ y then (x + y / 2 ^ e.2, y - x / 2 ^ e.2, z + e.1) else (x - y / 2 ^ e.2, y + x / 2 ^ e.2, z - e.1)

/-- The turn value of the angle of the vector (x, y). -/
def angleOf (x y : Int) : Int :=
  let v : Int × Int × Int := if x < 0 then (-x * 2 ^ 32, -y * 2 ^ 32, 2 ^ 39) else (x * 2 ^ 32, y * 2 ^ 32, 0)
  (((atanTable.zipIdx.foldl cordicStep v).2.2 + 2 ^ 7) / 2 ^ 8) % 2 ^ 32

/-! ### Samples of an input -/

/-- Samples (stamp, word) with their signed values. -/
def signedSamples (h : List (Nat × Word)) : List (Nat × Int) := h.map fun e => (e.1, sx 32 e.2.toNat)

/-- R236: the value at `t` of samples (stamp, value), the newest first, interpolated linearly between the two whose stamps
bracket it. -/
def interp (t : Int) : List (Nat × Int) → Option Int
  | [] => none
  | [e] => if (e.1 : Int) = t then some e.2 else none
  | e :: d :: r =>
    if (d.1 : Int) ≤ t ∧ t ≤ e.1 then
      some (d.2 + (e.2 - d.2) * (t - d.1) / ((e.1 : Int) - d.1))
    else interp t (d :: r)

/-- The signal from `a` to `b`: its interpolated ends and the samples between them, the oldest first; none where the
samples do not reach so far. -/
def windowOf (h : List (Nat × Int)) (a b : Int) : Option (List (Int × Int)) :=
  match interp a h, interp b h with
  | some x, some y =>
    some ((a, x) :: ((h.filter fun e => decide (a < e.1 ∧ (e.1 : Int) < b)).map fun e => ((e.1 : Int), e.2)).reverse ++ [(b, y)])
  | _, _ => none

/-- Twice the integral of `f` over a signal, by trapezia. -/
def integral2 (f : Int × Int → Int) : List (Int × Int) → Int
  | p :: q :: r => (q.1 - p.1) * (f p + f q) + integral2 f (q :: r)
  | _ => 0

/-! ### Phasors (R237) -/

/-- A phasor: its components along an angle and in quadrature. -/
structure Phasor where
  re : Int := 0
  im : Int := 0
  deriving DecidableEq, Repr

/-- The sum of two phasors. -/
def Phasor.add (p q : Phasor) : Phasor := ⟨p.re + q.re, p.im + q.im⟩
/-- The difference of two phasors. -/
def Phasor.sub (p q : Phasor) : Phasor := ⟨p.re - q.re, p.im - q.im⟩
/-- R237: a third of a phasor. -/
def Phasor.third (p : Phasor) : Phasor := ⟨p.re / 3, p.im / 3⟩
/-- R237: multiplication by a = e^(j2π/3). -/
def Phasor.turn (p : Phasor) : Phasor :=
  ⟨(-(p.re * 2 ^ 29) - p.im * 929887697) / 2 ^ 30, (p.re * 929887697 - p.im * 2 ^ 29) / 2 ^ 30⟩
/-- The magnitude of a phasor. -/
def Phasor.mag (p : Phasor) : Nat := isqrt (p.re * p.re + p.im * p.im).toNat
/-- The angle of a phasor. -/
def Phasor.arg (p : Phasor) : Int := angleOf p.re p.im

/-- R237: the positive-sequence phasor. -/
def seq1 (a b c : Phasor) : Phasor := (a.add (b.turn.add c.turn.turn)).third
/-- R237: the negative-sequence phasor. -/
def seq2 (a b c : Phasor) : Phasor := (a.add (b.turn.turn.add c.turn)).third
/-- R237: the zero-sequence phasor. -/
def seq0 (a b c : Phasor) : Phasor := (a.add (b.add c)).third

/-- A turn in units of (µHz · tbu): a frequency of f µHz passes f · t / `turnUnits` turns in t tbu. -/
def turnUnits : Int := 16 * 10 ^ 15

/-- The angle at `t` of a rotation that stands at `θ` at `u`. -/
def angleAt (θ f u t : Int) : Int := θ + f * (t - u) * 2 ^ 32 / turnUnits

/-- R237: the period of a frequency, in tbu. -/
def periodOf (f : Int) : Int := turnUnits / max 1 f

/-- R237: the fundamental phasor of a signal, demodulated by the angle that stands at `θ` at `u`: the amplitudes along it
and in quadrature that fit the signal best. Over a full cycle this is the demodulated average; over less, the fit cancels
the double-frequency cross terms (log entry 51). -/
def demodulate (θ f u : Int) (x : List (Int × Int)) : Phasor :=
  let y := x.map fun p => (p.1, (p.2, cosT (angleAt θ f u p.1), sinT (angleAt θ f u p.1)))
  let at' (h : Int × Int × Int → Int) : Int :=
    integral2 (fun p => p.2) (y.map fun p => (p.1, h p.2))
  let xc := at' fun v => v.1 * v.2.1
  let xs := at' fun v => v.1 * v.2.2
  let cc := at' fun v => v.2.1 * v.2.1
  let cs := at' fun v => v.2.1 * v.2.2
  let ss := at' fun v => v.2.2 * v.2.2
  let det := cc * ss - cs * cs
  ⟨(xc * ss - xs * cs) * 2 ^ 38 / det, -((xs * cc - xc * cs) * 2 ^ 38 / det)⟩

/-! ### Values over a period (R239) -/

/-- R237: phase A, B or C's offset from the angle of V1, as a turn value. -/
def phaseOffset (i : Nat) : Int := if i = 0 then 0 else if i = 1 then -1431655765 else 1431655765

/-- R239: the latest fundamental zero crossing of a phase at or before `u`, taken from θ plus the phase's offset, and
whether it rises. A phase that lies at angle ψ carries cos ψ. -/
def crossing (θ f u : Int) (i : Nat) : Int × Bool :=
  let ψ := θ + phaseOffset i
  (u - (ψ - 2 ^ 30) % 2 ^ 31 * turnUnits / (max 1 f * 2 ^ 32), decide ((ψ - 3 * 2 ^ 30) % 2 ^ 32 < 2 ^ 31))

/-- R239, R243: the RMS of a signal per unit of the nominal RMS, `nom` being its peak: Q4.28. -/
def rmsPu (nom : Nat) (len : Int) (x : List (Int × Int)) : Int :=
  isqrt ((integral2 (fun p => p.2 * p.2) x / (max 1 len)).toNat * 2 ^ 56 / (max 1 nom) ^ 2)

/-- R239: THD over one period ending at `u`, where the angle is `θ`: harmonics 2 to 25 against the fundamental, Q1.31. -/
def thdOf (θ f u : Int) (x : List (Int × Int)) : Int :=
  let power (h : Nat) : Nat :=
    let c := integral2 (fun p => p.2 * cosT (h * angleAt θ f u p.1)) x
    let s := integral2 (fun p => p.2 * sinT (h * angleAt θ f u p.1)) x
    (c * c + s * s).toNat
  let sum := ((List.range 24).map fun h => power (h + 2)).sum
  min (2 ^ 31) (isqrt (sum * 2 ^ 62 / max 1 (power 1)))

/-- R239: the mean of a signal per unit of `nom`, Q4.28. -/
def meanPu (nom : Nat) (len : Int) (x : List (Int × Int)) : Int :=
  integral2 (fun p => p.2) x * 2 ^ 28 / (2 * max 1 len * max 1 nom)

/-- R237, R243: a phasor's component or magnitude per unit of `nom`, Q4.28. -/
def puOf (nom : Nat) (x : Int) : Int := (x * 2 ^ 20 + nom / 2) / max 1 nom

/-- A reading that departs from a value by at most `dev`. -/
def near (value : Int) (dev : Nat) (reading : Int) : Int := max (value - dev) (min (value + dev) reading)

/-- A turn value that departs from another by at most `dev`. -/
def nearTurn (value : Int) (dev : Nat) (reading : Int) : Int :=
  (value + max (-(dev : Int)) (min dev (sx 32 (enc 32 (reading - value))))) % 2 ^ 32

end Sys2Proof.Machine
end

