-- ==== Sys2Proof/Machine/Grid.lean ====
section
/-! DEFINITION. SEQ and PROT: grid-point updates, protection stages, trips, the ride-through sequencer and disturbance
capture (R234–R260). -/
namespace Sys2Proof.Machine

/-! ### Grid points (R234–R243) -/

/-- The MODIN input of position `j` (VA, VB, VC, IA, IB, IC) of a grid point. -/
def State.gpInput (s : State) (g j : Nat) : Nat :=
  if j < 3 then cut (s.rdN (Reg.SEQ_GP_IN0 g)) (8 * j) 6 else cut (s.rdN (Reg.SEQ_GP_IN1 g)) (8 * (j - 3)) 6

/-- R236: the update period in tbu. -/
def State.gpStep (s : State) (g : Nat) : Nat := s.get (Fd.SEQ_GP_CFG_RATE g) * 800000

/-- R235: the input rate of an input is at least four times the update rate. -/
def State.gpRateOk (s : State) (g j : Nat) : Bool :=
  let n := s.gpInput g j
  n == 63 || s.mclkT (n / 8) * s.get (Fd.SEQ_GP_CFG_IOSR g) * 4 ≤ s.gpStep g

/-- R234, R259: the live settings of a grid point break a rule. -/
def State.gpBad (s : State) (g : Nat) : Bool :=
  let r := s.get (Fd.SEQ_GP_CFG_RATE g)
  let o := s.get (Fd.SEQ_GP_CFG_IOSR g)
  let f := s.rdN (Reg.SEQ_GP_NOMF g)
  let b := s.get (Fd.SEQ_GP_TRK_PLLBW g)
  let w := s.get (Fd.SEQ_GP_AVG_ROCWIN g)
  s.get (Fd.SEQ_GP_CFG_WIN g) == 3 || r == 0 || 20 < r || o < 16 || 256 < o || s.rdN (Reg.SEQ_GP_NOMV g) == 0 ||
    f < 45000000 || 65000000 < f || b == 0 || 100 < b || w < 20 || 1000 < w || s.get (Fd.SEQ_GP_AVG_DCWIN g) == 0 ||
    (List.range 3).any (fun j => 55 < s.gpInput g j) ||
    [3, 4, 5].any (fun j => 55 < s.gpInput g j && s.gpInput g j != 63) ||
    (List.range 6).any (fun j => !s.gpRateOk g j)

/-- R234: the grid point is run. -/
def State.gpRuns (s : State) (g : Nat) : Bool := s.on (Fd.SEQ_GP_CFG_EN g) && !s.gpBad g

/-- R234, R257: bits arrive: the clocks and the MCLKs of the inputs run. -/
def State.gpFed (s : State) (g : Nat) : Bool :=
  s.on Fd.PLL_STATUS_SYSLOCK && s.pwmClk &&
    (List.range 6).all (fun j => s.gpInput g j == 63 || s.mclkOn (s.gpInput g j / 8))

/-- Replaces a grid point's hidden state. -/
def State.gpM (s : State) (g : Fin 4) (f : GridPt → GridPt) : State := { s with gp := s.gp.upd g f }

/-- R243: writes channel `c` of a grid point on the sample bus and in its register. -/
def State.gpChannel (s : State) (g : Fin 4) (c : Nat) (v : Word) (ok : Bool) (u : Nat) : State :=
  let v := if ok then v else 0
  (s.sampleSet (Fin.ofNat 256 (64 + 48 * g.val + c)) ⟨v, ok, u⟩).wr (Reg.SEQ_GP_CH g c) v

/-- R243, R257: every channel of a grid point reads VALID = 0, value 0. -/
def State.gpInvalid (s : State) (g : Fin 4) (u : Nat) : State :=
  let s := (List.range 39).foldl (fun s (c : Nat) => s.gpChannel g c 0 false u) s
  let s := s.raiseIf (s.on (Fd.SEQ_GP_STATUS_VALID g)) (Ev.SEQ_GP_FLAGS_INVALID g)
  let s := (s.put (Fd.SEQ_GP_STATUS_VALID g) 0).put (Fd.SEQ_GP_STATUS_V2 g) 0
  s.gpM g fun p => { p with cross := Vector.replicate 6 none }

/-- R234, R243, R244: BADCFG of a grid point follows its live settings; one that does not run reads VALID = 0. -/
def State.gpCheckOne (s : State) (g : Fin 4) : State :=
  let s := s.putB (Fd.SEQ_GP_STATUS_BADCFG g) (s.on (Fd.SEQ_GP_CFG_EN g) && s.gpBad g)
  if s.gpRuns g then s else s.gpInvalid g s.tbl.count

/-- R244, R257: the filters of a grid point start afresh. -/
def State.gpRestart (s : State) (g : Fin 4) : State :=
  (s.gpInvalid g s.tbl.count).gpM g fun p =>
    { p with lockU := none, hist := Vector.replicate 6 [], track := [], run := none, good := none, bad := none, out := none }

/-- R238: θ in holdover advances at FREF, or at the last locked frequency, between two updates. -/
def State.gpPhase (s : State) (g : Fin 4) (u : Nat) : Nat :=
  let p := s.gp[g]
  let fref := sx 32 (s.rdN (Reg.SEQ_GP_FREF g))
  let f := if fref = 0 then p.lastF else fref
  let dt := match p.lastU with | some v => u - v | none => 0
  (((p.phase : Int) + f * dt) % (16 * 10 ^ 15 : Int)).toNat

/-! #### The estimates of an update (R237, R239–R241) -/

/-- R237: the window, in tbu, that WIN selects of the tracked period. -/
def State.gpWindow (s : State) (g : Nat) (f : Int) : Int := periodOf f / (2 ^ s.get (Fd.SEQ_GP_CFG_WIN g) : Int)

/-- R237: the fundamental phasors of the six inputs over the window of length `w` that ends at `u`. -/
def State.gpPhasors (s : State) (g : Fin 4) (θ f u w : Int) : List (Option Phasor) :=
  s.gp[g].hist.toList.map fun h => (windowOf (signedSamples h) (u - w) u).map (demodulate θ f u)

/-- A phasor of a list. -/
def phasorAt (l : List (Option Phasor)) (j : Nat) : Phasor := ((l.getD j none).getD {})

/-- R237: the phasor of V1 in the frame of an angle, once the three voltages reach over the window. -/
def State.gpV1 (s : State) (g : Fin 4) (θ f u w : Int) : Option Phasor :=
  let l := s.gpPhasors g θ f u w
  if (l.take 3).all Option.isSome then some (seq1 (phasorAt l 0) (phasorAt l 1) (phasorAt l 2)) else none

/-- R239: the signal of an input from `len` before its phase's latest zero crossing to that crossing. -/
def State.gpCycle (s : State) (g : Fin 4) (θ f u : Int) (j : Nat) (len : Int) : Option (List (Int × Int)) :=
  let z := (crossing θ f u (j % 3)).1
  windowOf (signedSamples (s.gp[g].hist.toArray.getD j [])) (z - len) z

/-- R239: a new crossing of the input's phase has come since its values were last taken. -/
def State.gpNewCross (s : State) (g : Fin 4) (θ f u : Int) (j : Nat) : Bool :=
  match s.gp[g].cross.toArray.getD j none with
  | some z => decide (z + periodOf f / 4 < (crossing θ f u (j % 3)).1)
  | none => true

/-- R239, R243: channel `c` where it is taken over periods that end at a crossing: RMS of a half and of a full period, THD
and, over DCWIN periods, the mean of a current. -/
def State.gpCrossValue (s : State) (g : Fin 4) (θ f u : Int) (c : Nat) : Option Int :=
  let t := periodOf f
  let nomV := s.rdN (Reg.SEQ_GP_NOMV g)
  let nomI := s.rdN (Reg.SEQ_GP_NOMI g)
  if c < 14 then (s.gpCycle g θ f u (c - 11) (t / 2)).map (rmsPu nomV (t / 2))
  else if c < 17 then (s.gpCycle g θ f u (c - 14) t).map (rmsPu nomV t)
  else if c < 20 then (s.gpCycle g θ f u (c - 17) t).map (thdOf θ f u)
  else if c < 28 then (s.gpCycle g θ f u (c - 22) t).map (rmsPu nomI t)
  else
    let len := t * s.get (Fd.SEQ_GP_AVG_DCWIN g)
    (s.gpCycle g θ f u (c - 25) len).map (meanPu nomI len)

/-- R239: the channels taken at crossings, with the input of each and whether it is taken once a cycle only, at the rising
crossing. -/
def crossChannel (c : Nat) : Option (Nat × Bool) :=
  if 11 ≤ c ∧ c < 14 then some (c - 11, false) else if 14 ≤ c ∧ c < 17 then some (c - 14, false)
  else if 17 ≤ c ∧ c < 20 then some (c - 17, true) else if 25 ≤ c ∧ c < 28 then some (c - 22, false)
  else if 28 ≤ c ∧ c < 31 then some (c - 25, true) else none

/-- R239: f(U − ROCWIN): the tracker's frequency at the latest update at or before it. -/
def State.gpPastF (s : State) (g : Fin 4) (u : Nat) : Option Int :=
  (s.gp[g].track.find? fun e => decide (e.1 + s.get (Fd.SEQ_GP_AVG_ROCWIN g) * tMs ≤ u)).map fun e => e.2.2

/-- R237, R239, R243: what a channel of the update at `u` is, in the frame of the tracked angle and frequency; none while
its window is not filled. -/
def State.gpValue (s : State) (g : Fin 4) (θ f u : Int) (l : List (Option Phasor)) (c : Nat) : Option Int :=
  let nomV := s.rdN (Reg.SEQ_GP_NOMV g)
  let nomI := s.rdN (Reg.SEQ_GP_NOMI g)
  let v (x : Int) : Option Int := if (l.take 3).all Option.isSome then some (puOf nomV x) else none
  let i (x : Int) : Option Int := if (l.drop 3).all Option.isSome then some (puOf nomI x) else none
  let ang (p : Phasor) : Option Int := if (l.take 3).all Option.isSome then some ((θ + p.arg) % 2 ^ 32) else none
  let v1 := seq1 (phasorAt l 0) (phasorAt l 1) (phasorAt l 2)
  let v2 := seq2 (phasorAt l 0) (phasorAt l 1) (phasorAt l 2)
  let v0 := seq0 (phasorAt l 0) (phasorAt l 1) (phasorAt l 2)
  let i1 := seq1 (phasorAt l 3) (phasorAt l 4) (phasorAt l 5)
  let i2 := seq2 (phasorAt l 3) (phasorAt l 4) (phasorAt l 5)
  let i0 := seq0 (phasorAt l 3) (phasorAt l 4) (phasorAt l 5)
  match c with
  | 0 => v v1.mag
  | 1 => v v2.mag
  | 2 => v v0.mag
  | 3 => ang v2
  | 4 => ang v0
  | 5 => some θ
  | 6 => some f
  | 7 => (s.gpPastF g u.toNat).map fun x => (f - x) * 1000 / s.get (Fd.SEQ_GP_AVG_ROCWIN g)
  | 8 => v (phasorAt l 0).mag
  | 9 => v (phasorAt l 1).mag
  | 10 => v (phasorAt l 2).mag
  | 20 => i i1.re
  | 21 => i i1.im
  | 22 => i i2.re
  | 23 => i (-i2.im)
  | 24 => i i0.mag
  | 31 => v v1.re
  | 32 => v v1.im
  | 33 => v v2.re
  | 34 => v (-v2.im)
  | 38 => (s.gpV1 g θ f u (periodOf f / 4)).map fun p => sx 32 p.arg.toNat
  | _ => none

/-- R240: the error that a channel's reading may add: magnitudes and RMS values 0.05 % of nominal, angles 0.01°. The tracker's
angle and frequency are bounded in `gpTracked`, and ROCOF by those of the two frequencies that it is made of. -/
def gpError (c : Nat) : Nat :=
  if 5 ≤ c ∧ c ≤ 7 then 0
  else if c = 3 ∨ c = 4 ∨ c = 38 then 2 ^ 32 / 36000
  else if 17 ≤ c ∧ c < 20 then 2 ^ 31 / 2000
  else 2 ^ 28 / 2000

/-- R239, R240, R243: a channel's word: its value with a reading's error: a turn value, an unsigned fraction, or signed. -/
def gpReading (c : Nat) (x : Int) (w : Word) : Word :=
  BitVec.ofNat 32 (enc 32 (
    if (3 ≤ c ∧ c ≤ 5) ∨ c = 38 then nearTurn x (gpError c) w.toNat
    else if 17 ≤ c ∧ c < 20 then max 0 (min (2 ^ 32 - 1) (near x (gpError c) w.toNat))
    else satTo 32 (near x (gpError c) (sx 32 w.toNat))))

/-- R234, R243: which channels may read VALID: those of an unused current not, frequency, ROCOF and vector shift only out
of holdover, ROCOF with ROCWIN of locked history. -/
def State.gpValid (s : State) (g : Fin 4) (hold : Bool) (u c : Nat) : Bool :=
  let used (j : Nat) : Bool := s.gpInput g (3 + j) != 63
  if c = 6 ∨ c = 38 then !hold
  else if c = 7 then !hold &&
    (match s.gp[g].lockU with | some l => l + s.get (Fd.SEQ_GP_AVG_ROCWIN g) * tMs ≤ u | none => false)
  else if 20 ≤ c ∧ c ≤ 24 then used 0 && used 1 && used 2
  else if 25 ≤ c ∧ c ≤ 30 then used ((c - 25) % 3)
  else true

/-- R239, R243: one channel of an update: its new value, or where it is taken at crossings the held one. -/
def State.gpOne (s : State) (g : Fin 4) (θ f : Int) (u : Nat) (hold : Bool) (l : List (Option Phasor)) (q : GridUpdate) (c : Nat) : Word × Bool :=
  let old : Sample := s.samples[64 + 48 * g.val + c]!
  let new (x : Option Int) : Word × Bool :=
    match x with
    | some x => (gpReading c x (q.value.toArray.getD c 0), s.gpValid g hold u c)
    | none => (0, false)
  match crossChannel c with
  | none => new (s.gpValue g θ f u l c)
  | some (j, cycle) =>
    if s.gpNewCross g θ f u j && (!cycle || (crossing θ f u (j % 3)).2 || !old.valid) then new (s.gpCrossValue g θ f u c)
    else (old.value, old.valid && s.gpValid g hold u c)

/-! #### The tracker (R238, R240, R241) -/

/-- R240, R241: the frequency of V1 as its angle moves: from its angle at the latest update at least a period before. -/
def State.gpTrueF (s : State) (g : Fin 4) (u : Nat) (φ : Int) : Option Int :=
  let p := s.gp[g]
  (p.track.find? fun e => decide ((e.1 : Int) + periodOf p.useF ≤ u)).map fun e =>
    let d : Int := (u : Int) - e.1
    p.useF + sx 32 (enc 32 (φ - angleAt e.2.1 p.useF e.1 u)) * turnUnits / (2 ^ 32 * max 1 d)

/-- R241: how long it takes until a step of the frequency stands in the estimate of `gpTrueF`: a window and a period. -/
def State.gpSpan (s : State) (g : Nat) (f : Int) : Int := s.gpWindow g f + periodOf f

/-- R241: since when the frequency of V1 has moved from the one that stood before, what it is now, and the one before. It moves
from the last update before its estimate leaves it by more than 2 mHz, and goes on moving for a window and a period. -/
def State.gpRun (s : State) (g : Fin 4) (u : Nat) (tf : Option Int) : Option (Nat × Int × Int) :=
  let p := s.gp[g]
  match tf, p.run with
  | some x, some r =>
    if (x - r.2.1).natAbs ≤ 2000 then some (r.1, x, r.2.2)
    else if (u : Int) ≤ r.1 + s.gpSpan g x + s.gpStep g then some (r.1, x, r.2.2)
    else some (p.lastU.getD u, x, r.2.1)
  | some x, none => some (u, x, p.useF)
  | none, _ => none

/-- R238, R240, R241: the tracker's angle and frequency: readings, within 5 % of a step of the frequency of V1 from 2 / PLLBW after
it on, and once it is steady, here after 10 / PLLBW, within 0.01° and 2 mHz of V1; no sooner than the estimate holds the whole
step (log entry 51). -/
def State.gpTracked (s : State) (g : Fin 4) (u : Nat) (φ : Option Int) (run : Option (Nat × Int × Int)) (q : GridUpdate) : Int × Int :=
  let f := sx 32 q.value[6].toNat
  let θ : Int := q.value[5].toNat
  match φ, run with
  | some φ, some r =>
    let age := (u - r.1) * s.get (Fd.SEQ_GP_TRK_PLLBW g)
    if (u : Int) ≤ r.1 + s.gpSpan g r.2.1 then (θ, f)
    else if 10 * tSec ≤ age then (nearTurn φ (2 ^ 32 / 36000) θ, near r.2.1 2000 f)
    else if 2 * tSec ≤ age then (θ, near r.2.1 (max 2000 ((r.2.1 - r.2.2).natAbs / 20)) f)
    else (θ, f)
  | _, _ => (θ, f)

/-- R238: `n` cycles of the tracker's frequency, within its range of 40–70 Hz, have passed since an instant. -/
def cyclesSince (f : Int) (n : Nat) (u : Nat) : Option Nat → Bool
  | some t => decide (n * turnUnits ≤ max 40000000 (min 70000000 f) * ((u : Int) - t))
  | none => false

/-- R238: the frequency lies in the tracker's range. -/
def inRange (f : Int) : Bool := decide (40000000 ≤ f ∧ f ≤ 70000000)

/-- R238: lock: gained after 5 consecutive cycles with a phase error below 1°, lost after one cycle with one above 10° or with the
frequency outside 40–70 Hz. -/
def State.gpLock (s : State) (g : Fin 4) (u : Nat) (f : Int) (good bad out : Option Nat) : Bool :=
  if s.on (Fd.SEQ_GP_STATUS_LOCK g) then !cyclesSince f 1 u bad && !cyclesSince f 1 u out else inRange f && cyclesSince f 5 u good

/-- R237–R243: a grid point issues the update of instant `u`. -/
def State.gpUpdate (s : State) (g : Fin 4) (u : Nat) (q : GridUpdate) : State :=
  let p := s.gp[g]
  let f0 : Int := if p.useF = 0 then s.rdN (Reg.SEQ_GP_NOMF g) else p.useF
  let θ0 := angleAt (p.phase * 2 ^ 32 / (16 * 10 ^ 15) : Nat) f0 (p.lastU.getD u) u % 2 ^ 32
  let v1 := s.gpV1 g θ0 f0 u (s.gpWindow g f0)
  let φ := v1.map fun p => (θ0 + p.arg) % 2 ^ 32
  let run := s.gpRun g u (φ.bind (s.gpTrueF g u))
  let (θt, ft) := s.gpTracked g u φ run q
  let err := φ.map fun x => (sx 32 (enc 32 (x - θt))).natAbs
  let since (b : Option Bool) (o : Option Nat) : Option Nat := if b = some true then some (o.getD u) else none
  let good := since (err.map fun e => decide (e < 2 ^ 32 / 360)) p.good
  let bad := since (err.map fun e => decide (2 ^ 32 / 36 < e)) p.bad
  let out := since (some !inRange ft) p.out
  let lock := s.gpLock g u ft good bad out
  let was := s.on (Fd.SEQ_GP_STATUS_LOCK g)
  let s := (s.raiseIf (lock && !was) (Ev.SEQ_GP_FLAGS_LOCK g)).raiseIf (was && !lock) (Ev.SEQ_GP_FLAGS_LOCKLOSS g)
  let low := match v1 with
    | some v => decide (puOf (s.rdN (Reg.SEQ_GP_NOMV g)) v.mag * 10000 < s.get (Fd.SEQ_GP_TRK_TRKMIN g) * 2 ^ 28)
    | none => true
  let hold := !lock || low
  let fref := sx 32 (s.rdN (Reg.SEQ_GP_FREF g))
  let ph := if hold then s.gpPhase g u else (θt % 2 ^ 32).toNat * (16 * 10 ^ 15) / 2 ^ 32
  let f := if hold then (if fref = 0 then p.lastF else fref) else ft
  let θ : Int := if hold then (ph * 2 ^ 32 / (16 * 10 ^ 15) : Nat) else θt
  let s := s.gpM g fun p =>
    { p with lastU := some u, phase := ph, lastF := if hold then p.lastF else f, useF := if hold && f == 0 then f0 else f
             lockU := if hold then none else some (p.lockU.getD u), good := good, bad := bad, out := out, run := run }
  let fw : Int := if f = 0 then f0 else f
  let l := s.gpPhasors g θ fw u (s.gpWindow g fw)
  let settle := !(List.range 6).all fun j => s.gpInput g j == 63 || (l.getD j none).isSome
  let cs := ((List.range 35) ++ [38]).map fun c => (c, s.gpOne g θ fw u hold l q c)
  let s := cs.foldl (fun s e => s.gpChannel g e.1 e.2.1 (e.2.2 && !settle) u) s
  let s := s.raiseIf (s.on (Fd.SEQ_GP_STATUS_VALID g) && settle) (Ev.SEQ_GP_FLAGS_INVALID g)
  let ch1 : Sample := s.samples[64 + 48 * g.val + 1]!
  let v2 := ch1.valid && decide ((s.get (Fd.SEQ_GP_V2DET_V2DET g) * 2 ^ 28 : Int) ≤ sx 32 ch1.value.toNat * 10000)
  let s := s.raiseIf (v2 && !s.on (Fd.SEQ_GP_STATUS_V2 g)) (Ev.SEQ_GP_FLAGS_V2 g)
  let s := ((s.putB (Fd.SEQ_GP_STATUS_LOCK g) lock).putB (Fd.SEQ_GP_STATUS_HOLD g) hold).putB (Fd.SEQ_GP_STATUS_VALID g) (!settle)
  let s := (s.putB (Fd.SEQ_GP_STATUS_SETTLE g) settle).putB (Fd.SEQ_GP_STATUS_V2 g) v2
  let nomV := s.rdN (Reg.SEQ_GP_NOMV g)
  let ll (a b : Nat) : Word := BitVec.ofNat 32 (enc 32 (puOf nomV ((((phasorAt l a).sub (phasorAt l b)).mag : Int) * 619925131 / 2 ^ 30)))
  let keep := periodOf 40000000 * (2 + s.get (Fd.SEQ_GP_AVG_DCWIN g))
  let s := s.gpM g fun p =>
    { p with
      ll := #v[ll 0 1, ll 1 2, ll 2 0]
      track := (match φ with
        | some x => (u, x, f) :: p.track.filter fun e => decide (u < e.1 + 2 * tSec)
        | none => [])
      cross := Vector.ofFn fun j => if s.gpNewCross g θ fw u j.val then some (crossing θ fw u (j.val % 3)).1 else p.cross[j]
      hist := p.hist.map fun h => h.filter fun e => decide ((u : Int) < e.1 + keep) }
  (s.inc32 (Reg.SEQ_GP_UPDCNT g)).setStamp (Reg.SEQ_GP_STAMP_LO g) u

/-- R238: a steward's write of FREF lands; one that meets a release in the same SYS cycle is lost. -/
def State.frefWrite (s : State) (g : Fin 4) (v : Word) : State :=
  if s.gp[g].relAt = some s.now then s.raise (Ev.SEQ_GP_FLAGS_WCOLL g)
  else (s.wr (Reg.SEQ_GP_FREF g) v).gpM g fun p => { p with frefAt := some s.now }

/-- R238: a release lands on FREF. -/
def State.seqRefRelease (s : State) (g : Fin 4) (v : Word) : State :=
  ((s.raiseIf (decide (s.gp[g].frefAt = some s.now)) (Ev.SEQ_GP_FLAGS_WCOLL g)).wr (Reg.SEQ_GP_FREF g) v).gpM g
    fun p => { p with relAt := some s.now }

/-! ### Disturbance capture (R254–R256) -/

/-- Replaces the capture's hidden state. -/
def State.capM (s : State) (f : Capture → Capture) : State := s.protM fun p => { p with capture := f p.capture }

/-- R254: the frames a ring of `len` bytes holds. -/
def capFrames (len nch : Nat) : Nat := len / (4 * (nch + 1))

/-- R254: arming is refused. -/
def State.capRefused (s : State) : Bool :=
  let rate := s.get Fd.PROT_DCCFG_RATE
  let nch := s.get Fd.PROT_DCCFG_NCH
  let buf := s.rdN Reg.PROT_DCBUF
  let len := s.rdN Reg.PROT_DCBUFLEN
  let mb := s.rdN Reg.PROT_DCMBASE
  let ml := s.rdN Reg.PROT_DCMLEN
  rate == 0 || 100 < rate || nch == 0 || 16 < nch ||
    capFrames len nch < s.get Fd.PROT_DCPRE_FRAMES + s.get Fd.PROT_DCPOST_FRAMES ||
    buf < 0x20000000 || 0x20400000 < buf + len || mb < 0x08B00000 || 0x08F00000 < mb + ml

/-- R254: arms capture, taking its settings. -/
def State.capArm (s : State) : State :=
  let s := (s.put Fd.PROT_DCSTAT_STATE 1).put Fd.PROT_DCSTAT_FILL 0
  s.capM fun c =>
    { c with
      frames := 0, last := s.tbl.count, extra := none, extras := 0, left := 0
      rate := s.get Fd.PROT_DCCFG_RATE, nch := s.get Fd.PROT_DCCFG_NCH
      chans := Vector.ofFn fun j => s.rd (Reg.PROT_DCCH j.val)
      buf := s.rdN Reg.PROT_DCBUF, buflen := s.rdN Reg.PROT_DCBUFLEN }

/-- R254: a write of DCARM. -/
def State.dcArm (s : State) : State :=
  if !s.on Fd.PROT_DCCFG_EN || s.get Fd.PROT_DCSTAT_STATE != 0 then s
  else if s.capRefused then s.raise Ev.PROT_FLAGS_DCLOST
  else s.capArm

/-- R255: a trigger of the given cause: it starts the post-trigger frames, is noted during them, or is lost. -/
def State.capTrigger (s : State) (cause : Nat) : State :=
  match s.get Fd.PROT_DCSTAT_STATE with
  | 1 =>
    let post := s.get Fd.PROT_DCPOST_FRAMES
    (s.put Fd.PROT_DCSTAT_STATE 2).capM fun c =>
      { c with trig := s.tbl.count, cause := cause, region := s.get Fd.PROT_STATUS_REGION
               pre := min (s.get Fd.PROT_DCPRE_FRAMES) c.frames, post := post, left := post }
  | 2 => s.capM fun c => { c with extra := some (c.extra.getD (c.post - c.left, cause)), extras := c.extras + 1 }
  | _ => s.raise Ev.PROT_FLAGS_DCLOST

/-- R255: a pickup of stage `k` triggers where DCTRIG selects it and its CAP bit allows it. -/
def State.capPickup (s : State) (k : Nat) : State :=
  if (s.get Fd.PROT_DCTRIG_PICK).testBit k && s.on (Fd.PROT_STG_CFG_CAP k) then s.capTrigger k else s

/-- R255: a latch of stage `k` triggers likewise. -/
def State.capLatch (s : State) (k : Nat) : State :=
  if (s.get Fd.PROT_DCTRIG_LATCH).testBit k && s.on (Fd.PROT_STG_CFG_CAP k) then s.capTrigger (16 + k) else s

/-- R254: the sample-bus channel of capture channel `i`. -/
def Capture.chan (c : Capture) (i : Nat) : Nat := cut (c.chans.toArray.getD (i / 4) 0).toNat (8 * (i % 4)) 8

/-- R254: the words of one frame. -/
def State.frameWords (s : State) (c : Capture) : List Nat :=
  let smp (i : Nat) : Sample := s.samples[c.chan i]!
  let valid := (List.range c.nch).foldl (fun m i => if (smp i).valid then m + 2 ^ i else m) 0
  (valid + 2 ^ 16 * (c.frames % 2 ^ 16)) :: (List.range c.nch).map fun i => (smp i).value.toNat

/-- Writes words to memory from `a` on. -/
def State.memWords (s : State) (a : Nat) : List Nat → State
  | [] => s
  | w :: t => (s.memWr a 4 w).memWords (a + 4) t

/-- R21, R254: at the next capture instant one frame is written to the ring, through the DMA engine's port within its cap. -/
def State.dcFrame (s : State) : State :=
  let st := s.get Fd.PROT_DCSTAT_STATE
  let c0 := s.prot.capture
  let step := c0.rate * 1600000
  let t := (c0.last / max 1 step + 1) * step
  if s.on Fd.PROT_DCCFG_EN && (st == 1 || (st == 2 && c0.left != 0)) && s.canReach t && s.tagFree 6 then
    let s := s.reachCount t
    let c := s.prot.capture
    let f := max 1 (capFrames c.buflen c.nch)
    let s := s.memWords (c.buf + (c.frames % f) * (4 * (c.nch + 1))) (s.frameWords c)
    let s := s.put Fd.PROT_DCSTAT_FILL (min (2 ^ 24 - 1) (c.frames + 1))
    s.capM fun c => { c with frames := c.frames + 1, last := t, left := if st = 2 then c.left - 1 else c.left }
  else s

/-- R256: the length of the record, header included. -/
def Capture.length (c : Capture) : Nat := 64 + (c.pre + c.post) * (4 * (c.nch + 1))

/-- R256: the last frame is recorded: the copy starts at the next free position, and the headers of the older records it
writes over lose their marks first. -/
def State.dcPostComplete (s : State) : State :=
  let c := s.prot.capture
  if s.get Fd.PROT_DCSTAT_STATE = 2 ∧ c.left = 0 then
    let mb := s.rdN Reg.PROT_DCMBASE
    let ml := s.rdN Reg.PROT_DCMLEN
    let dest := if mb ≤ c.wptr ∧ c.wptr + c.length ≤ mb + ml then c.wptr else mb
    let hit (r : Nat × Nat) : Bool := r.1 < dest + c.length && dest < r.1 + r.2
    let s := (c.recs.filter hit).foldl (fun s r => s.mramWrite r.1 4 0) s
    (s.put Fd.PROT_DCSTAT_STATE 3).capM fun c => { c with dest := dest, recs := c.recs.filter fun r => !hit r }
  else s

/-- R256: the header words 1–15. -/
def State.capHeader (s : State) (c : Capture) : List Nat :=
  [c.length, c.trig % 2 ^ 32, c.trig / 2 ^ 32, c.cause + 2 ^ 8 * c.region, c.rate + 2 ^ 8 * c.nch, c.pre, c.post,
   c.chans[0].toNat, c.chans[1].toNat, c.chans[2].toNat, c.chans[3].toNat, s.rdN Reg.PROT_DCCNT,
   (match c.extra with | some e => e.1 % 2 ^ 24 + 2 ^ 24 * e.2 | none => 0), c.extras, 0]

/-- R256: the words of the record's frames, in order, from the ring. -/
def State.capFramesOf (s : State) (c : Capture) : List Nat :=
  let f := max 1 (capFrames c.buflen c.nch)
  let first := c.frames - (c.pre + c.post)
  (List.range (c.pre + c.post)).flatMap fun i =>
    (List.range (c.nch + 1)).map fun j => s.memRd (c.buf + ((first + i) % f) * (4 * (c.nch + 1)) + 4 * j) 4

/-- Posts 32-bit words to the MRAM from `a` on. -/
def State.mramWords (s : State) (a : Nat) : List Nat → State
  | [] => s
  | w :: t => (s.mramWrite a 4 w).mramWords (a + 4) t

/-- R256: the copy ends, no page move holding up its writes: frames, header, and word 0 of the header last, all durable; DCDONE,
and AUTO re-arms. -/
def State.dcCopyComplete (s : State) : State :=
  if s.get Fd.PROT_DCSTAT_STATE = 3 ∧ s.mramc.moving.isNone ∧ s.tagFree 6 then
    let c := s.prot.capture
    let s := s.mramWords (c.dest + 64) (s.capFramesOf c)
    let s := ((s.mramWords (c.dest + 4) (s.capHeader c)).mramWrite c.dest 4 0x1D15C).mramFlush
    let s := (s.wrN Reg.PROT_DCLAST c.dest).inc32 Reg.PROT_DCCNT
    let s := s.capM fun c => { c with wptr := c.dest + c.length, recs := c.recs ++ [(c.dest, c.length)] }
    let s := (s.raise Ev.PROT_FLAGS_DCDONE).put Fd.PROT_DCSTAT_STATE 0
    if s.on Fd.PROT_DCCFG_AUTO then s.dcArm else s
  else s

/-! ### Protection stages (R245–R248) -/

/-- What a stage compares: the value in units of 1 / `unit` of LEVEL's unit, picking up above LEVEL or below it. -/
structure Quantity where
  x : Int
  unit : Int
  valid : Bool
  deriving DecidableEq, Repr

/-- Replaces a stage's timer. -/
def State.stgM (s : State) (k : Fin 16) (f : ProtStage → ProtStage) : State :=
  s.protM fun p => { p with stages := p.stages.upd k f }

/-- R257: the instant to which PROT's timers have run: they stop at the power-fail warning. -/
def State.protNow (s : State) : Nat := if s.pmu.warned then min s.now s.pmu.warnAt else s.now

/-- R246: the time a stage's timer shows. -/
def State.stgElapsed (s : State) (k : Fin 16) : Nat :=
  let t := s.prot.stages[k]
  t.acc + (match t.since with | some x => s.protNow - x | none => 0)

/-- R246: TIMING and TRIPPED follow pickups and latches. -/
def State.protShow (s : State) : State :=
  let pk := s.get Fd.PROT_PICKUP_PICKUP
  let lat := s.get Fd.PROT_TRIPLAT_LAT
  let s := (List.range 16).foldl (fun s (k : Nat) =>
    ((s.putB (Fd.PROT_STG_STATE_PICKUP k) (pk.testBit k)).putB (Fd.PROT_STG_STATE_LATCHED k) (lat.testBit k)).putB
      (Fd.PROT_STG_STATE_TIMING k) (pk.testBit k && !lat.testBit k)) s
  let timing := (List.range 16).any fun k => pk.testBit k && !lat.testBit k
  (s.putB Fd.PROT_STATUS_TIMING timing).putB Fd.PROT_STATUS_TRIPPED (lat != 0)

/-- R246, R248: stage `k` latches: its latch and TRIP are set, its outputs follow, and capture may trigger. -/
def State.stgLatch (s : State) (k : Fin 16) : State :=
  if (s.get Fd.PROT_TRIPLAT_LAT).testBit k.val then s
  else
    let e := s.stgElapsed k
    let s := s.stgM k fun t => { t with acc := e, since := none }
    let s := ((s.raise (Ev.PROT_TRIPLAT_LAT k.val)).raise Ev.PROT_FLAGS_TRIP).protShow
    (s.tripUpdate).capLatch k.val

/-- R245, R246: stage `k` picks up, its timer starting at `t`, the stamp of the evaluation; a TSET of 0 latches at once. -/
def State.stgPickup (s : State) (k : Fin 16) (t : Nat) : State :=
  if (s.get Fd.PROT_PICKUP_PICKUP).testBit k.val then s
  else
    let s := (s.put ⟨Reg.PROT_PICKUP, k.val, 1⟩ 1).raise Ev.PROT_FLAGS_PICKUP
    let s := (s.stgM k fun _ => { acc := 0, since := some t }).protShow
    let s := s.capPickup k.val
    if s.get (Fd.PROT_STG_TIME_TSET k) = 0 then s.stgLatch k else s

/-- R245, R246: stage `k` drops out and its timer clears. -/
def State.stgDrop (s : State) (k : Fin 16) : State :=
  ((s.put ⟨Reg.PROT_PICKUP, k.val, 1⟩ 0).stgM k fun _ => {}).protShow

/-- R245: stage `k` looks for values above LEVEL; the voltage stages 2 and 3 for values below. -/
def stgUnder (k : Fin 16) : Bool := k.val == 2 || k.val == 3

/-- R245, R247: one evaluation of a stage on its quantity, whose stamp is the instant `t`. -/
def State.stgEval (s : State) (k : Fin 16) (q : Quantity) (t : Nat) : State :=
  if !s.on (Fd.PROT_STG_CFG_EN k) then
    if (s.get Fd.PROT_PICKUP_PICKUP).testBit k.val then s.stgDrop k else s
  else
    let picked := (s.get Fd.PROT_PICKUP_PICKUP).testBit k.val
    let l : Int := s.get (Fd.PROT_STG_CFG_LEVEL k)
    let h : Int := s.get (Fd.PROT_STG_CFG_HYST k)
    if q.valid then
      let s := s.stgM k fun x => { x with since := if picked && x.since.isNone && !(s.get Fd.PROT_TRIPLAT_LAT).testBit k.val then some t else x.since }
      let up := if stgUnder k then decide (q.x < l * q.unit) else decide (l * q.unit < q.x)
      let down := if stgUnder k then decide ((l + h) * q.unit < q.x) else decide (q.x < (l - h) * q.unit)
      if picked then (if down then s.stgDrop k else s) else if up then s.stgPickup k t else s
    else if s.on (Fd.PROT_STG_CFG_INVACT k) then s.stgPickup k t
    else
      let e := s.stgElapsed k
      if picked then s.stgM k fun x => { x with acc := e, since := none } else s

/-- R245: a stage driven by a condition: it picks up with it at `t` and drops out when it ends. -/
def State.stgCond (s : State) (k : Fin 16) (b : Bool) (t : Nat) : State :=
  if b && s.on (Fd.PROT_STG_CFG_EN k) then s.stgPickup k t
  else if (s.get Fd.PROT_PICKUP_PICKUP).testBit k.val then s.stgDrop k else s

/-- The sequencer's grid point. -/
def State.rtGp (s : State) : Fin 4 := Fin.ofNat 4 (s.get Fd.PROT_RTCFG_GP)

/-- A channel of the sequencer's grid point. -/
def State.rtCh (s : State) (c : Nat) : Sample := s.samples[64 + 48 * s.rtGp.val + c]!

/-- R245: the three voltage measures with VSEL: fundamental phase magnitudes, or line-to-line ones. -/
def State.voltages (s : State) : List Int × Bool :=
  if s.on Fd.PROT_RTCFG_VSEL then (s.gp[s.rtGp].ll.toList.map fun w => sx 32 w.toNat, (s.rtCh 8).valid && (s.rtCh 9).valid && (s.rtCh 10).valid)
  else ([8, 9, 10].map fun c => sx 32 (s.rtCh c).value.toNat, (s.rtCh 8).valid && (s.rtCh 9).valid && (s.rtCh 10).valid)

/-- The largest and smallest of a list. -/
def maxOf (l : List Int) : Int := l.foldl max (l.headD 0)
/-- The smallest of a list. -/
def minOf (l : List Int) : Int := l.foldl min (l.headD 0)

/-- R245: the deviation of the frequency from nominal, in µHz. -/
def State.freqDev (s : State) : Int := sx 32 (s.rtCh 6).value.toNat - s.rdN (Reg.SEQ_GP_NOMF s.rtGp)

/-- R245: the quantities of the stages 0–10, each on the scale at which LEVEL counts `unit`: pu Q4.28 times 10^4, µHz,
µHz/s, turn values times 36,000. -/
def State.stgQuantity (s : State) (inv : Bool) (k : Fin 16) : Quantity :=
  let v := s.voltages
  let ok (b : Bool) : Bool := b && !inv
  let dci := [28, 29, 30].filter fun c => s.gpInput s.rtGp (3 + (c - 28)) != 63
  match k.val with
  | 0 | 1 => ⟨maxOf v.1 * 10000, 2 ^ 28, ok v.2⟩
  | 2 | 3 => ⟨minOf v.1 * 10000, 2 ^ 28, ok v.2⟩
  | 4 | 5 => ⟨s.freqDev, 1000, ok (s.rtCh 6).valid⟩
  | 6 | 7 => ⟨-s.freqDev, 1000, ok (s.rtCh 6).valid⟩
  | 8 => ⟨(sx 32 (s.rtCh 7).value.toNat).natAbs, 1000, ok (s.rtCh 7).valid⟩
  | 9 => ⟨(sx 32 (s.rtCh 38).value.toNat).natAbs * 36000, 2 ^ 32, ok (s.rtCh 38).valid⟩
  | _ => ⟨maxOf (dci.map fun c => ((sx 32 (s.rtCh c).value.toNat).natAbs : Int)) * 10000, 2 ^ 28,
      ok (dci != [] && dci.all fun c => (s.rtCh c).valid)⟩

/-- R245–R247: every stage evaluated at an update is evaluated, the update's instant being `t`; an invalid quantity sets MEASINV. -/
def State.stagesEval (s : State) (inv : Bool) (t : Nat) : State :=
  let ks := (List.finRange 16).filter fun (k : Fin 16) => k.val < 11
  let bad := ks.any fun k => s.on (Fd.PROT_STG_CFG_EN k) && !(s.stgQuantity inv k).valid
  let s := ks.foldl (fun s k => s.stgEval k (s.stgQuantity inv k) t) s
  let oc := inv && (s.on (Fd.PROT_STG_CFG_EN 11) || s.on (Fd.PROT_STG_CFG_EN 12))
  let s := if inv then (s.stgEval 11 ⟨0, 1, false⟩ t).stgEval 12 ⟨0, 1, false⟩ t else s
  s.raiseIf (bad || oc) Ev.PROT_FLAGS_MEASINV

/-- R245, R246: the OC stages are evaluated on the largest instantaneous phase current, in 10^-4 of NOMI, of a sample stamped `u`. -/
def State.ocEval (s : State) (u : Nat) : State :=
  let g := s.rtGp
  let used := [3, 4, 5].filter fun j => s.gpInput g j != 63
  let i : Int := maxOf (used.map fun j => ((sx 32 (s.gp[g].input.toArray.getD j 0).toNat).natAbs : Int))
  let q : Quantity := ⟨i * 10000, s.rdN (Reg.SEQ_GP_NOMI g), used != [] && s.gpFed g⟩
  (s.stgEval 11 q (s.nowAt u)).stgEval 12 q (s.nowAt u)

/-! ### The ride-through sequencer (R249–R252) -/

/-- The region field of a curve in PROT_STATUS. -/
def curveFld (c : Fin 4) : Fld := ⟨Reg.PROT_STATUS, 8 + 4 * c.val, 3⟩

/-- R250: a curve's breakpoints up to the first with REGION 0 (4–7 are treated as 0), each with its index. -/
def State.breakpoints (s : State) (c : Fin 4) : List Nat :=
  (List.range 16).takeWhile fun k => let r := s.get (Fd.PROT_RT_W1_REGION c k); r != 0 && r < 4

/-- R250: the breakpoints up to the first whose LEVEL does not move strictly away from the continuous band. -/
def State.orderedPoints (s : State) (c : Fin 4) : List Nat :=
  (s.breakpoints c).takeWhile fun k =>
    k == 0 || (if c.val = 0 then s.get (Fd.PROT_RT_W0_LEVEL c k) < s.get (Fd.PROT_RT_W0_LEVEL c (k - 1))
               else s.get (Fd.PROT_RT_W0_LEVEL c (k - 1)) < s.get (Fd.PROT_RT_W0_LEVEL c k))

/-- R249: the quantity of a curve, with the scale of its unit, and whether it is valid. -/
def State.curveQuantity (s : State) (c : Fin 4) : Quantity :=
  match c.val with
  | 0 => s.stgQuantity false 2
  | 1 => s.stgQuantity false 0
  | 2 => s.stgQuantity false 6
  | _ => s.stgQuantity false 4

/-- R249: x lies inside the continuous band. -/
def State.inBand (s : State) (c : Fin 4) (q : Quantity) : Bool :=
  match c.val with
  | 0 => decide ((s.get Fd.PROT_RTVCONT_CONTLO : Int) * q.unit ≤ q.x)
  | 1 => decide (q.x ≤ (s.get Fd.PROT_RTVCONT_CONTHI : Int) * q.unit)
  | 2 => decide (q.x ≤ (s.get Fd.PROT_RTFCONT_CONTUF : Int) * q.unit)
  | _ => decide (q.x ≤ (s.get Fd.PROT_RTFCONT_CONTOF : Int) * q.unit)

/-- R250: the band that contains x. -/
def State.bandOf (s : State) (c : Fin 4) (q : Quantity) : Option Nat :=
  (s.orderedPoints c).find? fun k =>
    let l := s.get (Fd.PROT_RT_W0_LEVEL c k)
    l == 0xFFFF && c.val != 0 || l == 0 && c.val == 0 ||
      (if c.val = 0 then decide ((l : Int) * q.unit ≤ q.x) else decide (q.x ≤ (l : Int) * q.unit))

/-- R251: the time allowed in band `k`, in tbu of REFCLK time; unlimited where TMAX is. -/
def State.allowed (s : State) (c : Fin 4) (k : Nat) (q : Quantity) : Option Nat :=
  let tmax := s.get (Fd.PROT_RT_W1_TMAX c k)
  if tmax = 0xFFFFFF then none
  else
    let dist := (q.x - (s.get (Fd.PROT_RT_W0_LEVEL c k) : Int) * q.unit).natAbs
    some (tmax * tMs + s.get (Fd.PROT_RT_W0_SLOPE c k) * dist * tUs / q.unit.natAbs)

/-- Replaces a curve's excursion. -/
def State.curveM (s : State) (c : Fin 4) (f : Curve → Curve) : State :=
  s.protM fun p => { p with curves := p.curves.upd c f }

/-- R251: how long a curve's excursion timer has run. -/
def State.excTime (s : State) (c : Fin 4) : Nat :=
  match s.prot.curves[c].exc with | some x => s.protNow - x | none => 0

/-- R251: one curve at the update of the instant `t`. -/
def State.curveEval (s : State) (c : Fin 4) (t : Nat) : State :=
  let q := s.curveQuantity c
  if s.breakpoints c = [] then (s.put (curveFld c) 0).curveM c fun _ => {}
  else if !q.valid then s
  else if s.inBand c q then
    let s := s.put (curveFld c) 0
    s.curveM c fun k =>
      let since := k.inside.getD t
      if k.exc.isSome && s.get Fd.PROT_RTCFG_CONTRET * tMs ≤ s.protNow - since then {}
      else { k with inside := if k.exc.isSome then some since else none, expire := none }
  else
    let s := s.curveM c fun k => { k with exc := some (k.exc.getD t), inside := none, expire := none }
    match s.bandOf c q with
    | none => s.put (curveFld c) 4
    | some k =>
      if s.get (curveFld c) = 4 then s
      else
        let spent := if s.on (Fd.PROT_RT_W1_EXP c k) then 4 else 2
        match s.allowed c k q with
        | none => s.put (curveFld c) (s.get (Fd.PROT_RT_W1_REGION c k))
        | some a =>
          if s.excTime c < a then
            (s.put (curveFld c) (s.get (Fd.PROT_RT_W1_REGION c k))).curveM c fun x => { x with expire := some (a, spent) }
          else s.put (curveFld c) spent

/-- R249, R252: the combined region follows the curves: REGCHG, MCEND, block line 1, capture, stage 13, PROBE and the
sweeps. `t`: the instant at which the regions were decided. -/
def State.regionUpdate (s : State) (t : Nat) : State :=
  let old := s.get Fd.PROT_STATUS_REGION
  let new := (List.finRange 4).foldl (fun m (c : Fin 4) => max m (s.get (curveFld c))) 0
  let running := s.prot.curves.toList.any fun c => c.exc.isSome
  let s := (s.put Fd.PROT_STATUS_REGION new).putB Fd.PROT_STATUS_RTOUT running
  let s := s.stgCond 13 ((List.finRange 4).any fun (c : Fin 4) => s.get (curveFld c) == 4) t
  if new = old then s
  else
    let s := (s.raise Ev.PROT_FLAGS_REGCHG).raiseIf (old == 3) Ev.PROT_FLAGS_MCEND
    let s := if old = 0 then s.probeStop.sweepAbortAll 5 else s
    let s := s.tripUpdate
    if s.on Fd.PROT_DCCFG_REGTRIG then s.capTrigger 32 else s

/-- R251: the sequencer at the update of the instant `t`; ride-through ends at the power-fail warning (R33). -/
def State.sequencer (s : State) (t : Nat) : State :=
  if s.on Fd.PROT_RTCFG_EN && !s.pmu.warned then
    let cut := (List.finRange 4).any fun (c : Fin 4) => decide ((s.orderedPoints c).length < (s.breakpoints c).length)
    let s := s.putB Fd.PROT_STATUS_CURVEERR cut
    ((List.finRange 4).foldl (fun s (c : Fin 4) => s.curveEval c t) s).regionUpdate t
  else s

/-- R243: channels 35–37 of a grid point. -/
def State.wordChannels (s : State) (g : Fin 4) (u : Nat) : State :=
  let mine := g == s.rtGp
  let s := s.gpChannel g 35 (BitVec.ofNat 32 (s.rdN Reg.PROT_STATUS % 2 ^ 23)) mine u
  let s := s.gpChannel g 36 (if mine then BitVec.ofNat 32 (s.get Fd.PROT_PICKUP_PICKUP) else 0) true u
  s.gpChannel g 37 (BitVec.ofNat 32 (s.rdN (Reg.SEQ_GP_STATUS g) % 2 ^ 6)) true u

/-- R236: the instant of the next update: the first multiple of the update period after the last update, or once every
used input has delivered a sample. -/
def State.gpNext (s : State) (g : Fin 4) : Nat :=
  let step := s.gpStep g
  let p := s.gp[g]
  let used := (List.range 6).filter fun j => s.gpInput g j != 63
  let first := (used.map fun j => (((p.hist.toArray.getD j []).getLast?).map (·.1)).getD 0).foldl max 0
  max (match p.lastU with | some u => (u / step + 1) * step | none => 0) ((first + step - 1) / step * step)

/-- R236: samples of every used input bracket the instant `u`. -/
def State.gpBracketed (s : State) (g : Fin 4) (u : Nat) : Bool :=
  (List.range 6).all fun j => s.gpInput g j == 63 || (interp u (signedSamples (s.gp[g].hist.toArray.getD j []))).isSome

/-- R236, R245, R251: the update of a grid point issues, once the samples that bracket its instant have come: its
quantities, the stages and the sequencer where it is the sequencer's, PROBE, and source 63 + g. -/
def State.gridUpdate (s : State) (g : Fin 4) (q : GridUpdate) : State :=
  let s := s.gpCheckOne g
  let u := s.gpNext g
  if s.gpRuns g && s.gpFed g && s.gpBracketed g u then
    let s := s.reachCount u
    let s := s.gpUpdate g u q
    let s := if g = s.rtGp then
      ((s.stagesEval false (s.nowAt u)).sequencer (s.nowAt u)).protM fun p => { p with lastEval := s.nowAt u, timedOut := false } else s
    let s := (s.wordChannels g u).probeUpdate g u
    s.fireLater (63 + g.val)
  else s

/-- R235: the newest reference edge of an input's next sample: whole multiples of IOSR periods after the group's origin, as
R91 places results; a position whose issue time lies more than one period in the past is skipped. -/
def State.gpEdge (s : State) (g : Fin 4) (j : Fin 6) : Nat :=
  let c : Fin 7 := Fin.ofNat 7 (s.gpInput g j / 8)
  let t := s.mclkT c
  let step := s.get (Fd.SEQ_GP_CFG_IOSR g) * t
  let o := s.modin.origin[c]
  let lo := max (max (s.gp[g].edge[j] + 1) o) (s.now + 1 - 9 * t)
  o + (lo - o + step - 1) / step * step

/-- R234–R236, R245: a decimated input sample arrives, of the bits that the input's line has carried, with the scaling and
stamping of a main-filter result and of MODIN's settings INV alone; a gap in the samples starts the history anew. The OC
stages are evaluated on a current of the sequencer's grid point. -/
def State.seqInput (s : State) (g : Fin 4) (j : Fin 6) (line : List MdatPeriod) : State :=
  let n := s.gpInput g j
  if s.gpRuns g && s.gpFed g && n < 56 then
    let c : Fin 7 := Fin.ofNat 7 (n / 8)
    let t := s.mclkT c
    let m := s.get (Fd.SEQ_GP_CFG_IOSR g)
    let e := s.gpEdge g j
    let s := s.reachNow (e + 8 * t)
    let bits := s.received n line
    let bits := bits.take (bits.length - (8 - s.bitDelay c))
    let v := BitVec.ofNat 32 (enc 32 (satTo 32 (mainValue (s.on (Fd.MODIN_IN_CFG_INV n)) 3 m bits)))
    let stamp := enc 64 (s.countAt2 (2 * (e : Int) - 3 * (m - 1) * t) - s.extDelay c)
    let full := decide (3 * (m - 1) + 1 ≤ bits.length)
    let next := decide (e = s.gp[g].edge[j] + m * t)
    let s := s.gpM g fun p =>
      { p with
        input := p.input.set j v, edge := p.edge.set j e
        hist := p.hist.set j (if full then (stamp, v) :: (if next then p.hist[j] else []) else []) }
    if g = s.rtGp ∧ 3 ≤ j.val then s.ocEval stamp else s
  else s

/-- R246: a picked-up stage's timer reaches TSET. -/
def State.stageLatch (s : State) (k : Fin 16) : State :=
  match s.prot.stages[k].since with
  | none => s
  | some x =>
    if (s.get Fd.PROT_PICKUP_PICKUP).testBit k.val && s.on (Fd.PROT_STG_CFG_EN k) && !s.pmu.warned then
      (s.reachNow (x + (s.get (Fd.PROT_STG_TIME_TSET k) * 100 * tUs - s.prot.stages[k].acc))).stgLatch k
    else s

/-- R251: a curve has stayed inside its continuous band for CONTRET ms: its excursion timer stops. -/
def State.excursionReturn (s : State) (c : Fin 4) : State :=
  match s.prot.curves[c].inside, s.prot.curves[c].exc with
  | some i, some _ =>
    if s.pmu.warned then s
    else
      let s := s.reachNow (i + s.get Fd.PROT_RTCFG_CONTRET * tMs)
      (s.curveM c fun _ => {}).regionUpdate s.now
  | _, _ => s

/-- R251: an excursion timer reaches the allowed time of the band: the curve moves to PO or MT. -/
def State.curveExpire (s : State) (c : Fin 4) : State :=
  match s.prot.curves[c].exc, s.prot.curves[c].expire with
  | some x, some e =>
    if s.pmu.warned then s
    else
      let s := s.reachNow (x + e.1)
      ((s.put (curveFld c) e.2).curveM c fun k => { k with expire := none }).regionUpdate s.now
  | _, _ => s

/-- R247: no update for two update periods: the stages are evaluated with every quantity invalid, at each nominal update instant
from there on. Without an update rate there is none. -/
def State.protTimeout (s : State) : State :=
  let g := s.rtGp
  let t := s.gpStep g
  if s.pmu.warned ∨ t = 0 then s
  else
    let due := s.prot.lastEval + (if s.prot.timedOut then t else 2 * t)
    let s := s.reachNow due
    let s := if s.on (Fd.SEQ_GP_STATUS_VALID g) then s.gpInvalid g s.tbl.count else s
    (s.stagesEval true due).protM fun p => { p with lastEval := due, timedOut := true }

/-- R245: a write of SWTRIP: stage 14 picks up for the instant of the write. -/
def State.protSwtrip (s : State) : State := (s.stgCond 14 true s.now).stgCond 14 false s.now

/-- R248: a write to PROT_TRIPLAT clears the latches that are not picked up; a latch of the same cycle wins (R9). -/
def State.triplatClear (s : State) (mask : Nat) : State :=
  let lat := s.get Fd.PROT_TRIPLAT_LAT
  let pk := s.get Fd.PROT_PICKUP_PICKUP
  let pk := pk ||| s.justSetMask Reg.PROT_TRIPLAT
  let refused := lat &&& mask &&& pk
  let s := s.raiseIf (refused != 0) Ev.PROT_FLAGS_CLRREF
  let keep := (List.range 16).foldl (fun m (k : Nat) =>
    if lat.testBit k && !(mask.testBit k && !pk.testBit k) then m + 2 ^ k else m) 0
  ((s.put Fd.PROT_TRIPLAT_LAT keep).protShow).tripUpdate

/-! ### Other events -/

/-- R234, R243, R244: BADCFG follows the live settings; a grid point that does not run reads VALID = 0. -/
def State.gpCheck (s : State) : State :=
  (List.finRange 4).foldl (fun s (g : Fin 4) => s.gpCheckOne g) s

/-- R244: the protection live set has switched over: the timers restart, the pickups are dropped to be evaluated afresh,
changed grid points settle afresh, and BADCFG follows the new settings. -/
def State.protSwitch (s : State) (changed : List (Fin 4)) : State :=
  let s := s.protM fun p =>
    { p with
      stages := Vector.replicate 16 {}
      curves := p.curves.map fun c => { c with exc := c.exc.map fun _ => s.now, expire := none } }
  let s := (s.put Fd.PROT_PICKUP_PICKUP 0).protShow
  let s := changed.foldl (fun s g => s.gpRestart g) s
  s.gpCheck.tripUpdate

/-- R257: no updates arrive: every channel of every grid point reads VALID = 0. -/
def State.seqStop (s : State) : State :=
  (List.finRange 4).foldl (fun s (g : Fin 4) => s.gpRestart g) s

/-- R257: capture stops; a record being copied is abandoned. -/
def State.capStop (s : State) : State :=
  let s := s.raiseIf (s.get Fd.PROT_DCSTAT_STATE == 3) Ev.PROT_FLAGS_DCLOST
  s.put Fd.PROT_DCSTAT_STATE 0

/-- R257: at a power-fail warning the stage and excursion timers stop, and capture stops. -/
def State.protWarning (s : State) : State :=
  let s := s.capStop
  let e (k : Fin 16) : Nat := s.stgElapsed k
  s.protM fun p => { p with stages := Vector.ofFn fun k => { acc := e k, since := none } }

/-- R260: the words of PROT that a read computes: a stage's ELAPSED, a curve's t_exc. -/
def State.stgStateRead (s : State) (k : Fin 16) : Nat :=
  s.rdN (Reg.PROT_STG_STATE k) % 2 ^ 8 + 2 ^ 8 * min (2 ^ 24 - 1) (s.stgElapsed k / (100 * tUs))

/-- R260: t_exc of a curve in ms, saturating. -/
def State.rttimeRead (s : State) (c : Fin 4) : Nat := min (2 ^ 24 - 1) (s.excTime c / tMs)

/-- R236. -/
def execGridUpdateIssue (g : Fin 4) (q : GridUpdate) (s : State) : Result := .next (s.gridUpdate g q)
/-- R245. -/
def execSeqInputSample (g : Fin 4) (j : Fin 6) (line : List MdatPeriod) (s : State) : Result := .next (s.seqInput g j line)
/-- R246. -/
def execStageLatch (k : Fin 16) (s : State) : Result := .next (s.stageLatch k)
/-- R251. -/
def execExcursionReturnExpire (c : Fin 4) (s : State) : Result := .next (s.excursionReturn c)
/-- R251. -/
def execCurveTimeExpire (c : Fin 4) (s : State) : Result := .next (s.curveExpire c)
/-- R247. -/
def execProtUpdateTimeout (s : State) : Result := .next s.protTimeout
/-- R245. -/
def execProtSwtrip (s : State) : Result := .next s.protSwtrip
/-- R248. -/
def execTripLatchClear (mask : BitVec 16) (s : State) : Result := .next (s.triplatClear mask.toNat)
/-- R254. -/
def execDcArm (s : State) : Result := .next s.dcArm
/-- R255. -/
def execDcSoftwareTrigger (s : State) : Result := .next (s.capTrigger 33)
/-- R254. -/
def execDcFrame (s : State) : Result := .next s.dcFrame
/-- R256. -/
def execDcPostComplete (s : State) : Result := .next s.dcPostComplete
/-- R256. -/
def execDcCopyComplete (s : State) : Result := .next s.dcCopyComplete

end Sys2Proof.Machine
end

