-- ==== Sys2Proof/Machine/Crc.lean ====
section
/-! DEFINITION. The checks the spec names: the CRC-32 of IEEE 802.3 (R317) and the CRC of the link cells (R394); byte lists of
words. -/
namespace Sys2Proof.Machine

/-- One bit of the reflected CRC-32. -/
def crcBit (c : Nat) : Nat := if c % 2 = 1 then c / 2 ^^^ 0xEDB88320 else c / 2

/-- One byte of the reflected CRC-32. -/
def crcByte (c b : Nat) : Nat := (List.range 8).foldl (fun c _ => crcBit c) (c ^^^ b % 256)

/-- The CRC-32 of IEEE 802.3 over a list of bytes. -/
def crc32 (bs : List Nat) : Nat := bs.foldl crcByte 0xFFFFFFFF ^^^ 0xFFFFFFFF

/-- R394: one step of the CRC of x^16 + x^12 + x^5 + 1, most significant bit first. -/
def crc16Bit (c : Nat) (b : Bool) : Nat :=
  let d := (c * 2) % 65536
  if (c.testBit 15 != b) then d ^^^ 0x1021 else d

/-- R394: the CRC of the top `n` bits of a value, most significant bit first, from 0xFFFF. -/
def crc16 (v : Nat) (n : Nat) : Nat := (List.range n).foldl (fun c i => crc16Bit c (v.testBit (n - 1 - i))) 0xFFFF

/-- The little-endian bytes of a number (R6). -/
def bytesLE : Nat → Nat → List Nat
  | 0, _ => []
  | n + 1, v => v % 256 :: bytesLE n (v / 256)

/-- The little-endian bytes of a list of words. -/
def wordBytes (ws : List Nat) : List Nat := ws.flatMap (bytesLE 4)

/-- The little-endian words of a number. -/
def wordsLE : Nat → Nat → List Nat
  | 0, _ => []
  | n + 1, v => v % 2 ^ 32 :: wordsLE n (v / 2 ^ 32)

/-- Two words as one doubleword each, for a list of words. -/
def pairWords : List Nat → List Nat
  | a :: b :: t => (a + 2 ^ 32 * b) :: pairWords t
  | [a] => [a]
  | [] => []

end Sys2Proof.Machine
end

