-- ==== Sys2Proof/Machine/Meter.lean ====
section
/-! DEFINITION. METER: samples and their correction, windows, accumulation, start-up, snapshots, pulse outputs, and the
metering ring (R295–R324). -/
namespace Sys2Proof.Machine

/-- Replaces METER's hidden state. -/
def State.metM (s : State) (f : Meter → Meter) : State := { s with meter := f s.meter }
/-- Replaces a point's hidden state. -/
def State.ptM (s : State) (p : Fin 4) (f : MeterPt → MeterPt) : State := s.metM fun m => { m with pts := m.pts.upd p f }
/-- Replaces a pulse output's hidden state. -/
def State.plsM (s : State) (q : Fin 4) (f : Pulse → Pulse) : State := s.metM fun m => { m with pulses := m.pulses.upd q f }

/-! ### Points (R295, R298) -/

/-- The MODIN input of channel `c` (VA … IN) of a point. -/
def State.mpInput (s : State) (p c : Nat) : Nat :=
  if c < 3 then cut (s.rdN (Reg.METER_MP_VIN p)) (8 * c) 6 else cut (s.rdN (Reg.METER_MP_IIN p)) (8 * (c - 3)) 6

/-- R298, R324: a channel's calibration breaks a rule: boundaries of a current that descend, or a gain out of range. -/
def State.calBad (s : State) (p c : Nat) : Bool :=
  (List.range 8).any (fun k => let g := s.rdN (Reg.METER_CH_GAIN p c k); g < 0x20000000 || 0x5FFFFFFF < g) ||
  (decide (3 ≤ c) && (List.range 6).any (fun k => s.rdN (Reg.METER_CH_BND p c (k + 1)) < s.rdN (Reg.METER_CH_BND p c k)))

/-- R324: the settings of the outputs and of the saves break a range. -/
def State.meterRangeBad (s : State) : Bool :=
  let n := s.get Fd.METER_SAVECFG_SAVEINT
  n < 25 || 6000 < n ||
  (List.range 4).any (fun q => 13 < s.get (Fd.METER_PLS_CFG_ACC q) ||
    (s.on (Fd.METER_PLS_CFG_EN q) && s.rdN (Reg.METER_PLS_KP q) == 0))

/-- R298: the point's live settings break a rule. -/
def State.mpBad (s : State) (p : Nat) : Bool :=
  (List.range 6).any (fun c => 55 < s.mpInput p c) || (55 < s.mpInput p 6 && s.mpInput p 6 != 63) ||
  (List.range 7).any (fun c => s.calBad p c) ||
  s.rdN (Reg.METER_MP_PFS p) == 0 || s.rdN (Reg.METER_MP_INOM p) == 0 || s.meterRangeBad

/-- R298, R319: the point runs. -/
def State.mpRuns (s : State) (p : Nat) : Bool := s.on (Fd.METER_MP_CFG_EN p) && !s.mpBad p && !s.on Fd.METER_STATUS_RESTORING

/-- R297: the MCLKs of the point's channels run. -/
def State.mpFed (s : State) (p : Nat) : Bool :=
  s.pwmClk && (List.range 7).all (fun c => s.mpInput p c == 63 || s.mclkOn (s.mpInput p c / 8))

/-- R308: the point is in test. -/
def State.inTest (s : State) (p : Nat) : Bool := s.on (Fd.METER_MP_STATUS_TEST p)

/-- R298, R308: the point runs, with its live set or in test. -/
def State.mpLive (s : State) (p : Nat) : Bool := s.mpRuns p || s.inTest p

/-! ### Filters (R295–R297, R299) -/

/-- R296: the samples of an instant are fed by bits of up to 100 µs after it, by when they are complete (log entry 54). -/
def meterAhead : Nat := 1600000

/-- R296: the ratio of a group's decimators: floor(f_M / 128 kHz). -/
def State.meterRatio (s : State) (g : Fin 7) : Nat := max 1 (125000 / s.mclkT g)

/-- R296, R88, R90: output `k` of a channel's decimator, a sinc3 whose newest bit is the (k · ratio)th of the group's
origin; `newest` is the number of the line's last bit. None where the line does not hold the span. -/
def State.meterOutput (s : State) (n : Nat) (bits : List Bool) (newest k : Nat) : Option (Nat × Word) :=
  let g : Fin 7 := Fin.ofNat 7 (n / 8)
  let t := s.mclkT g
  let m := s.meterRatio g
  let bits := bits.take (bits.length - (newest - k * m))
  if bits.length < 3 * (m - 1) + 1 then none
  else
    let v := satTo 32 (mainValue (s.on (Fd.MODIN_IN_CFG_INV n)) 3 m bits)
    let centre2 := 2 * (s.modin.origin[g] + k * m * t : Int) - 3 * (m - 1) * t
    some (enc 64 (s.countAt2 centre2 - s.extDelay g), BitVec.ofNat 32 (enc 32 v))

/-- R295, R296: a channel's decimator takes what its line has carried up to physical time `till`, by INV and no other setting
of MODIN but those that receive the bits. A stop of MCLK or its restart starts it anew, from the first output that the bits since
fill. -/
def State.meterDecimate (s : State) (p : Fin 4) (c : Fin 7) (till : Nat) (line : List MdatPeriod) : MeterCh :=
  let n := s.mpInput p c
  let g : Fin 7 := Fin.ofNat 7 (n / 8)
  if 55 < n ∨ !s.mclkOn g then {}
  else
    let ch := s.meter.pts[p].ch[c]
    let o := s.modin.origin[g]
    let m := s.meterRatio g
    let newest := (till - o) / s.mclkT g - s.bitDelay g
    let last := newest / m
    let bits := s.received n line
    if ch.origin = o ∧ last + 1 < ch.next then ch
    else
      let go := decide (ch.origin = o ∧ last < ch.next + 64)
      let first := if go then ch.next else max 3 (last + 1 - 64)
      let dec := (List.range (last + 1 - first)).foldl (fun (h : List (Nat × Word)) i =>
        match s.meterOutput n bits newest (first + i) with
        | some e => e :: h
        | none => []) (if go then ch.dec else [])
      ⟨o, max first (last + 1), dec.take 64⟩

/-- R320: a channel's decimator starts anew with its next output that the bits from now on fill. -/
def State.meterFresh (s : State) (p : Fin 4) (c : Fin 7) : MeterCh :=
  let n := s.mpInput p c
  let g : Fin 7 := Fin.ofNat 7 (n / 8)
  if 55 < n ∨ !s.mclkOn g then {}
  else ⟨s.modin.origin[g], (s.now - s.modin.origin[g]) / s.mclkT g / s.meterRatio g + 4, []⟩

/-- R296: decimated samples, the newest first, with the droop of the decimator compensated: a second difference, whose
response is the inverse of sinc3's to the second order. -/
def droopOut : List (Nat × Int) → List (Nat × Int)
  | a :: b :: c :: r => (b.1, b.2 - (a.2 - 2 * b.2 + c.2) / 8) :: droopOut (b :: c :: r)
  | _ => []

/-- R296: the value at `t` by the cubic through the two samples on each side of it, or the newest four beyond the second of them,
the newest first. -/
def cubicAt (t : Int) : List (Nat × Int) → Option Int
  | a :: b :: c :: d :: r =>
    if (c.1 : Int) ≤ t ∧ t ≤ a.1 then
      let h : Int := (b.1 : Int) - c.1
      let u := t - c.1
      some ((a.2 * ((u + h) * u * (u - h)) - 3 * b.2 * ((u + h) * u * (u - 2 * h))
        + 3 * c.2 * ((u + h) * (u - h) * (u - 2 * h)) - d.2 * (u * (u - h) * (u - 2 * h))) / (6 * h ^ 3))
    else cubicAt t (b :: c :: d :: r)
  | _ => none

/-- R300: the segment of channel `c`. -/
def State.segment (s : State) (p c : Nat) : Nat := if c < 3 then 0 else cut (s.get (Fd.METER_MP_STATUS_SEG p)) (3 * (c - 3)) 3

/-- R296, R299, R310: the uncorrected sample of a channel at `S` with its segment's delay: what the resampler gives, within
2^-18 of the value that the decimated samples have there. None until 32 of them have come. -/
def State.meterRaw (s : State) (p c : Nat) (ch : MeterCh) (S : Nat) : Option Int :=
  if ch.dec.length < 32 then none
  else
    let at_ : Int := S - sx 16 (s.rdN (Reg.METER_CH_DLY p c (s.segment p c))) * 500000 / 2 ^ 14
    (cubicAt at_ (droopOut (signedSamples ch.dec))).map fun x =>
      satTo 32 (near x (x.natAbs / 2 ^ 18) (Config.meterResampler ((signedSamples (ch.dec.take 32)).map fun e => ((e.1 : Int) - at_, e.2))))

/-- R297: a bit received up to now, of the span that feeds a channel's sample at `S`, was received while a health fault was active
on its input. -/
def State.meterSoiled (s : State) (p c S : Nat) : Bool :=
  let n := s.mpInput p c
  if h : n < 56 then
    let g : Fin 7 := Fin.ofNat 7 (n / 8)
    s.on (Fd.MODIN_IN_CFG_EN n) && s.modin.inputs[n].soiled (s.nowAt S + meterAhead - 35 * s.meterRatio g * s.mclkT g) s.now
  else false

/-! ### Correction (R299, R300) -/

/-- R299: the corrected sample of a channel. -/
def State.correct (s : State) (p c : Nat) (x : Int) : Int :=
  let k := s.segment p c
  let ofs := sx 32 (s.rdN (Reg.METER_CH_OFS p c))
  satTo 32 (meanAway ((x - ofs) * s.rdN (Reg.METER_CH_GAIN p c k)) (2 ^ 30))

/-- R300: boundary `k` (1–7) of a channel. -/
def State.bnd (s : State) (p c k : Nat) : Nat := s.rdN (Reg.METER_CH_BND p c (k - 1))

/-- R300: the segment after a window whose uncorrected RMS is `rms`. -/
def State.segMove (s : State) (p c rms : Nat) : Nat :=
  let cur := s.segment p c
  let up := (List.range 8).foldl (fun (m : Nat) k => if 0 < k ∧ s.bnd p c k ≤ rms then k else m) 0
  if cur < up then up
  else if 0 < cur ∧ rms * 100 < 98 * s.bnd p c cur then
    (List.range cur).foldl (fun (m : Nat) k => if 0 < k ∧ 98 * s.bnd p c k ≤ rms * 100 then k else m) 0
  else cur

/-- Sets the segments of the four current channels. -/
def State.segSet (s : State) (p : Nat) (f : Nat → Nat) : State :=
  s.put (Fd.METER_MP_STATUS_SEG p) (f 3 + 8 * f 4 + 64 * f 5 + 512 * f 6)

/-! ### Pulse outputs (R312, R313) -/

/-- R313: the programmed width in tbu. -/
def State.plsWidth (s : State) (q : Nat) : Nat := max 2 (min 200 (s.get (Fd.METER_PLS_WIDTH_W q))) * tMs

/-- R312, R313: one pulse falls due at the sample instant: it is pending with its width, or lost to the output. -/
def State.pulseDue (s : State) (q : Fin 4) : State :=
  let u := s.meter.pulses[q]
  let x := s.meter.instant
  let s := match u.lastDue with
    | some d => s.raiseIf (x - d < tMs) Ev.METER_FLAGS_RATEOVF
    | none => s
  let w := match u.lastDue with
    | some d => min (s.plsWidth q) ((x - d) / 2) / (10 * tUs) * (10 * tUs)
    | none => s.plsWidth q
  let n := s.get (Fd.METER_PLS_STAT_PEND q)
  let s := s.plsM q fun u => { u with lastDue := some x, due := if n < 65535 then u.due ++ [(x, w)] else u.due }
  if n < 65535 then s.put (Fd.METER_PLS_STAT_PEND q) (n + 1) else s.sat16 (Reg.METER_PLS_DROPCNT q)

/-- R312: `n` pulses fall due. -/
def State.pulsesDue (s : State) (q : Fin 4) : Nat → State
  | 0 => s
  | n + 1 => (s.pulseDue q).pulsesDue q n

/-- R312: an increment of an accumulator, in 2^-64 mWh, feeds the outputs that select it. -/
def State.pulseFeed (s : State) (p a inc : Nat) : State :=
  (List.finRange 4).foldl (fun s (q : Fin 4) =>
    if s.on (Fd.METER_PLS_CFG_EN q) && s.get (Fd.METER_PLS_CFG_PT q) == p && s.get (Fd.METER_PLS_CFG_ACC q) == a &&
        s.rdN (Reg.METER_PLS_KP q) != 0 then
      let kp := s.rdN (Reg.METER_PLS_KP q) * 2 ^ 64
      let r := s.meter.pulses[q].rem + inc * 1000
      (s.plsM q fun u => { u with rem := r % kp }).pulsesDue q (r / kp)
    else s) s

/-- R305: an amount enters an accumulator of a point, or its test accumulator in test (R308), and feeds the outputs. -/
def State.energy (s : State) (p : Fin 4) (a : Fin 14) (inc : Nat) : State :=
  if inc = 0 then s
  else
    let add (v : Accumulators) : Accumulators := v.upd a fun x => (x + inc) % 2 ^ 128
    let s := if s.inTest p then s.ptM p fun t => { t with test := add t.test } else s.ptM p fun t => { t with acc := add t.acc }
    s.pulseFeed p a inc

/-- R305: the quadrant accumulator (from `base`) of active power `p` and reactive power `q`. -/
def quadrant (base : Nat) (p q : Int) : Fin 14 :=
  Fin.ofNat 14 (base + (if 0 ≤ p then (if 0 < q then 0 else 3) else if 0 < q then 1 else 2))

/-- R313, R324: the oldest pending pulse of an output that runs starts. -/
def State.pulseStart (s : State) (q : Fin 4) : State :=
  let u := s.meter.pulses[q]
  if s.pmu.warned || s.on (Fd.METER_PLS_STAT_HIGH q) || !s.on (Fd.METER_PLS_CFG_EN q) then s
  else match u.due with
  | [] => s
  | (d, w) :: t =>
    let due := match u.start with
      | some x => max (d + 100 * tUs) (x + max (2 * u.width) tMs)
      | none => d + 100 * tUs
    let s := s.reachNow due
    let s := (s.put (Fd.METER_PLS_STAT_PEND q) t.length).put (Fd.METER_PLS_STAT_HIGH q) 1
    s.plsM q fun u => { u with due := t, start := some s.now, width := w }

/-- R313: a pulse's width expires. -/
def State.pulseEnd (s : State) (q : Fin 4) : State :=
  match s.meter.pulses[q].start with
  | some x => if s.on (Fd.METER_PLS_STAT_HIGH q) then
      (s.reachNow (x + s.meter.pulses[q].width)).put (Fd.METER_PLS_STAT_HIGH q) 0 else s
  | none => s

/-- R312: the level of MPLSq: active high unless POL is set. -/
def State.mplsPin (s : State) (q : Nat) : Bool := s.on (Fd.METER_PLS_STAT_HIGH q) != s.on (Fd.METER_PLS_CFG_POL q)

/-! ### Samples (R296, R305) -/

/-- R303: the frequency that a window starting now takes, in µHz: the grid point's, its holdover frequency, or NOMF. -/
def State.winFreq (s : State) (p : Nat) : Nat :=
  let g : Fin 4 := Fin.ofNat 4 (s.get (Fd.METER_MP_CFG_GP p))
  let f : Int :=
    if !s.gpRuns g then s.rdN (Reg.SEQ_GP_NOMF g)
    else if s.on (Fd.SEQ_GP_STATUS_HOLD g) then
      (let x := sx 32 (s.rdN (Reg.SEQ_GP_FREF g)); if x = 0 then s.gp[g].lastF else x)
    else sx 32 (s.rdN (Reg.SEQ_GP_CH g 6))
  if 0 < f then f.toNat else s.rdN (Reg.SEQ_GP_NOMF g)

/-- R300, R307: a point's filters restart: segment 0, and counting or in no-load as given. -/
def State.mpRefilter (s : State) (p : Fin 4) (noload : Bool) : State :=
  (s.segSet p fun _ => 0).putB (Fd.METER_MP_STATUS_NOLOAD p) noload

/-- R300, R307: a point starts, or starts or ends a test: as with restarted filters, and with a new window. -/
def State.mpStart (s : State) (p : Fin 4) (noload : Bool) : State :=
  let s := s.mpRefilter p noload
  let f := s.winFreq p
  s.ptM p fun t => { t with winStart := s.tbl.count, winFreq := f, bad := [], ticks := [] }

/-- R308: a test starts or ends at a sample boundary, as TSGCFG has it; the phase at which the generator starts is a free
value. -/
def State.testApply (s : State) (p : Fin 4) : State :=
  let want := s.on Fd.METER_TSGCFG_EN && s.get Fd.METER_TSGCFG_PT == p.val
  if want == s.inTest p then s
  else if want then
    let s := (s.put (Fd.METER_MP_STATUS_TEST p) 1).raise Ev.METER_FLAGS_TESTON
    let r := s.fresh
    (r.2.ptM p fun t => { t with test := Vector.replicate 14 0, genPhase := r.1.toNat }).mpStart p true
  else (s.put (Fd.METER_MP_STATUS_TEST p) 0).mpStart p false

/-- Counts a sample that is not used (R297), saturating. -/
def State.missCount (s : State) (p : Nat) : State :=
  s.wrN (Reg.METER_MP_MISSCNT p) (min (2 ^ 32 - 1) (s.rdN (Reg.METER_MP_MISSCNT p) + 1))

/-- R308: channel `c` of the generator at count `S`: balanced voltages in the sequence a, b, c, currents that lead them by
TSGPH, and no neutral. -/
def State.generator (s : State) (p : Fin 4) (S c : Nat) : Int :=
  let a := angleAt s.meter.pts[p].genPhase (s.rdN Reg.METER_TSGF) 0 S + phaseOffset (c % 3)
  if c < 3 then sx 32 (s.rdN Reg.METER_TSGV) * cosT a / 2 ^ 30
  else if c < 6 then sx 32 (s.rdN Reg.METER_TSGI) * cosT (a + sx 32 (s.rdN Reg.METER_TSGPH)) / 2 ^ 30
  else 0

/-- R296–R299, R302: a sample from its uncorrected channels, of which the generator's need no correction. -/
def State.tickOf (s : State) (p : Fin 4) (S : Nat) (test : Bool) (raw : Nat → Int) : MeterTick :=
  let v : Vector Int 7 := Vector.ofFn fun k => if test then raw k.val else s.correct p k.val (raw k.val)
  let past := s.meter.pts[p].ticks.take 63
  let quad (k : Fin 7) : Int := Config.meterQuadrature (v[k] :: past.map fun x => x.c[k])
  ⟨S, v, Vector.ofFn fun k => raw (3 + k.val), v[0] * v[3] + v[1] * v[4] + v[2] * v[5],
    quad 0 * v[3] + quad 1 * v[4] + quad 2 * v[5]⟩

/-- R296–R299, R308: the sample of a point at `S` from the decimated channels; none where it is invalid. -/
def State.tickAt (s : State) (p : Fin 4) (S : Nat) (ch : Vector MeterCh 7) (spoilt : BitVec 7) : Option MeterTick :=
  if s.inTest p then some (s.tickOf p S true (s.generator p S))
  else
    let raw (c : Fin 7) : Option Int := if s.mpInput p c.val = 63 then some 0 else s.meterRaw p c.val ch[c] S
    if (List.finRange 7).all fun c => (raw c).isSome && !spoilt.getLsbD c.val && !s.meterSoiled p c.val S then
      some (s.tickOf p S false fun c => (raw (Fin.ofNat 7 c)).getD 0)
    else none

/-- R302, R305: the energy of one sample. -/
def State.sampleEnergy (s : State) (p : Fin 4) (x : MeterTick) : State :=
  let pfs := s.rdN (Reg.METER_MP_PFS p)
  let e (x : Int) : Nat := (meanAway (x * pfs) 28800).natAbs
  let s := if 0 < x.p then s.energy p 0 (e x.p) else if x.p < 0 then s.energy p 1 (e x.p) else s
  if x.q = 0 then s else s.energy p (quadrant 2 x.p x.q) (e x.q)

/-- R296: a point's decimators take what the lines have carried up to `meterAhead` after count `S`. -/
def State.mpChannels (s : State) (p : Fin 4) (S : Nat) (x : MeterSample) : Vector MeterCh 7 :=
  Vector.ofFn fun c => s.meterDecimate p c (s.nowAt S + meterAhead) x.lines[c]

/-- R300, R307: a decimator of a point has stopped or started anew since the last sample. -/
def State.mpRestarted (s : State) (p : Fin 4) (ch : Vector MeterCh 7) : Bool :=
  (List.finRange 7).any fun c => s.meter.pts[p].ch[c].origin != ch[c].origin

/-- R296–R308: one point at the sampling instant `S`. -/
def State.mpSample (s : State) (p : Fin 4) (S : Nat) (x : MeterSample) : State :=
  let s := if s.on Fd.METER_STATUS_RESTORING then s else s.testApply p
  if !s.mpLive p then s.put (Fd.METER_MP_STATUS_RUN p) 0
  else
    let s := s.put (Fd.METER_MP_STATUS_RUN p) 1
    let test := s.inTest p
    let ch := s.mpChannels p S x
    let s := (if !test && s.mpRestarted p ch then s.mpRefilter p false else s).ptM p fun t => { t with ch := ch }
    let s := if test || !s.on Fd.PLL_STATUS_SYSLOCK then s.missCount p else s
    if !s.on Fd.PLL_STATUS_SYSLOCK then s.ptM p fun t => { t with bad := S :: t.bad }
    else
      match (if test || s.mpFed p then s.tickAt p S s.meter.pts[p].ch x.spoilt else none) with
      | none =>
        let s := ((s.missCount p).raise Ev.METER_FLAGS_INVAL).put (Fd.METER_MP_STATUS_INVAL p) 1
        s.ptM p fun t => { t with bad := S :: t.bad }
      | some y =>
        let s := (s.put (Fd.METER_MP_STATUS_INVAL p) 0).ptM p fun t =>
          { t with ticks := y :: t.ticks.filter fun z => decide (S < z.time + 600000000) }
        if s.on (Fd.METER_MP_STATUS_NOLOAD p) then s else s.sampleEnergy p y

/-- R315, R321: what a record holds, as it stands. -/
def State.meterBody (s : State) : MeterBody :=
  ⟨s.meter.pts.map (·.acc), Vector.ofFn fun q => (s.get (Fd.METER_PLS_STAT_PEND q.val), s.meter.pulses[q].rem),
    (List.range 4).foldl (fun (m : Nat) p => m + (s.inTest p).toNat * 2 ^ p) 0⟩

/-- R311, R315, R318: what a record of the instant `t` holds: without the sample of that instant, if it has run. -/
def State.bodyAt (s : State) (t : Nat) : MeterBody := if t ≤ s.meter.last then s.meter.before else s.meterBody

/-- R311, R315: what waits for an instant captures what stands before a sample at or after it is added. -/
def State.meterCapture (s : State) (t : Nat) : State :=
  let b := s.meterBody
  let s := (List.finRange 4).foldl (fun s (p : Fin 4) =>
    s.ptM p fun m => { m with snap := m.snap.map fun x => if x.acc.isNone ∧ x.time ≤ t then { x with acc := some m.acc } else x }) s
  s.metM fun m => { m with before := b, saves := m.saves.map fun v => if v.body.isNone ∧ v.time ≤ t then { v with body := some b } else v }

/-- R315: the address of a slot. -/
def ringSlot (k : Nat) : Nat := 0x08A00000 + 1024 * (k % 1024)

/-- R315, R316: the first record that waits begins to be written: word 0 of its slot is cleared. -/
def State.saveBegin (s : State) : State :=
  if s.meter.saves.isEmpty then s
  else (s.blockWrite (ringSlot s.meter.slot) 4 0).put Fd.METER_STATUS_SAVING 1

/-- R316: a record that failed is written again. -/
def State.saveRetry (s : State) : State :=
  if s.on Fd.METER_STATUS_SAVEFAIL && !s.on Fd.METER_STATUS_SAVING && !s.pmu.warned then s.saveBegin else s

/-- R296, R316, R318: METER samples every point at the next instant S_m; none is counted once the save engine has captured. -/
def State.meterSample (s : State) (x : Vector MeterSample 4) : State :=
  let s := if s.pwmClk then s.reachCount ((min s.meter.last s.tbl.count / 500000 + 1) * 500000) else s.advance 12500
  let t := if s.pwmClk then s.tbl.count / 500000 * 500000 else s.tbl.count
  let s := (s.meterCapture t).saveRetry.metM fun m => { m with last := t, instant := s.now }
  if s.pmu.image.isSome then s else (List.finRange 4).foldl (fun s (p : Fin 4) => s.mpSample p t x[p]) s

/-! ### Windows (R303, R304, R307) -/

/-- R303: a quantity of the samples over a window, from its interpolated start to its interpolated end. -/
def windowWave (ticks : List MeterTick) (a b : Nat) (f : MeterTick → Int) : List (Int × Int) :=
  (windowOf (ticks.map fun x => (x.time, f x)) a b).getD []

/-- R303: the RMS of a signal over `len`, in the signal's unit. -/
def rmsOf (len : Nat) (x : List (Int × Int)) : Nat :=
  isqrt ((integral2 (fun p => p.2 * p.2) x).toNat / (2 * max 1 len))

/-- R303: harmonic `h` of a signal over a window of `len` of frequency `f`: its amplitudes along the window's angle and in
quadrature, by the synchronous DFT, with 16 bits below the signal's unit. -/
def harmonicOf (h : Nat) (f a : Int) (len : Nat) (x : List (Int × Int)) : Phasor :=
  let part (g : Int → Int) : Int :=
    integral2 (fun p => p.2) (x.map fun p => (p.1, p.2 * g (h * angleAt 0 f a p.1))) * 2 ^ 16 / (max 1 len * 2 ^ 30)
  ⟨part cosT, -part sinT⟩

/-- R303: the RMS of a harmonic. -/
def harmonicRms (p : Phasor) : Nat := isqrt (((p.re * p.re + p.im * p.im) / 2 ^ 33).toNat)

/-- R303: what METER measures over a window, as computed: RMS in Q1.31, harmonics 1–50 of the six phase channels, and P, Q,
P1 and Q1 in 2^-32 W. -/
structure MeterWindow where
  v : List Nat
  ll : List Nat
  i : List Nat
  raw : List Nat
  harm : List (List Nat)
  p : Int
  q : Int
  p1 : Int
  q1 : Int
  deriving DecidableEq, Repr

/-- R302, R303: the measurement of a window from `a` over `len` at frequency `f`, from the samples. Without a named neutral
I_n is the RMS of i_a + i_b + i_c. -/
def State.measure (s : State) (p : Nat) (ticks : List MeterTick) (f a len : Nat) : MeterWindow :=
  let wave := windowWave ticks a (a + len)
  let pfs := s.rdN (Reg.METER_MP_PFS p)
  let x (k : Nat) : List (Int × Int) := wave fun y => y.c.toArray.getD k 0
  let diff (j k : Nat) : List (Int × Int) := wave fun y => y.c.toArray.getD j 0 - y.c.toArray.getD k 0
  let fund := (List.range 6).map fun k => harmonicOf 1 f a len (x k)
  let sum (g : Phasor → Phasor → Int) : Int :=
    ((List.range 3).map fun k => g (fund.getD k {}) (fund.getD (3 + k) {})).sum
  let neutral := if s.mpInput p 6 = 63 then wave fun y => y.c[3] + y.c[4] + y.c[5] else x 6
  { v := (List.range 3).map fun k => rmsOf len (x k)
    ll := [rmsOf len (diff 0 1), rmsOf len (diff 1 2), rmsOf len (diff 2 0)]
    i := ((List.range 3).map fun k => rmsOf len (x (3 + k))) ++ [rmsOf len neutral]
    raw := (List.range 4).map fun k => rmsOf len (wave fun y => y.raw.toArray.getD k 0)
    harm := (List.range 6).map fun k => (List.range 50).map fun h => harmonicRms (harmonicOf (h + 1) f a len (x k))
    p := pfs * integral2 (fun e => e.2) (wave fun y => y.p) / (2 ^ 31 * max 1 len)
    q := pfs * integral2 (fun e => e.2) (wave fun y => y.q) / (2 ^ 31 * max 1 len)
    p1 := pfs * sum (fun v i => v.re * i.re + v.im * i.im) / 2 ^ 63
    q1 := pfs * sum (fun v i => v.im * i.re - v.re * i.im) / 2 ^ 63 }

/-- R303: S_e in 2^-32 VA from the RMS values. -/
def State.apparent (s : State) (p : Nat) (w : MeterWindow) : Nat :=
  let sq (l : List Nat) : Nat := (l.map fun x => x ^ 2).sum
  let pfs := s.rdN (Reg.METER_MP_PFS p)
  if s.on (Fd.METER_MP_CFG_WIRE p) then sqrtRound (pfs ^ 2 * sq w.ll * sq (w.i.take 3)) (3 * 2 ^ 60)
  else sqrtRound (pfs ^ 2 * (3 * sq w.v + sq w.ll) * sq w.i) (6 * 2 ^ 60)

/-- A power in 2^-32 W as a result word: W, rounded half away from zero. -/
def powerWord (x : Int) : Nat := enc 32 (satTo 32 (meanAway x (2 ^ 32)))

/-- R303: S1 in 2^-32 VA. -/
def MeterWindow.s1 (w : MeterWindow) : Nat := isqrt ((w.p1 * w.p1 + w.q1 * w.q1).toNat)

/-- R303: the 22 result words 4–25 of a window. -/
def State.windowWords (s : State) (p : Nat) (w : MeterWindow) (freq : Nat) : List Nat :=
  let se := s.apparent p w
  let n := isqrt (((se : Int) * se - w.p * w.p).toNat)
  let pf : Int := if se = 0 then 0 else satTo 32 (meanAway (w.p * 2 ^ 31) se)
  let first := w.harm.map fun l => l.getD 0 0
  w.v ++ w.i ++ first ++
    [powerWord w.p, powerWord w.q, powerWord se, powerWord n, powerWord w.p1, powerWord w.q1, powerWord w.s1, enc 32 pf, freq]

/-- Writes result words from index `k` on. -/
def State.resWords (s : State) (p k : Nat) : List Nat → State
  | [] => s
  | x :: t => (s.wrN (Reg.METER_WINRES p k) x).resWords p (k + 1) t

/-- Writes the harmonic words of channels from `c` on. -/
def State.harmWords (s : State) (p c : Nat) : List (List Nat) → State
  | [] => s
  | l :: t => ((l.zipIdx.foldl (fun s e => s.wrN (Reg.METER_HARM p c e.2) e.1) s)).harmWords p (c + 1) t

/-- R305: the window energies. -/
def State.windowEnergy (s : State) (p : Fin 4) (w : MeterWindow) (len : Nat) : State :=
  let e (x : Int) : Nat := (meanAway (x * 2 ^ 32 * len) 57600000000).natAbs
  let s := s.energy p 6 (e (s.apparent p w))
  let s := if 0 < w.p1 then s.energy p 7 (e w.p1) else if w.p1 < 0 then s.energy p 8 (e w.p1) else s
  let s := if w.q1 = 0 then s else s.energy p (quadrant 9 w.p1 w.q1) (e w.q1)
  s.energy p 13 (e w.s1)

/-- R307: the state decided at a window end. -/
def State.noloadDecide (s : State) (p : Nat) (w : MeterWindow) : State :=
  let i := (w.i.take 3).foldl max 0
  let ist := s.get (Fd.METER_MP_STRT_ISTR p) * s.rdN (Reg.METER_MP_INOM p)
  if s.on (Fd.METER_MP_STATUS_NOLOAD p) then
    if ist ≤ i * 100000 then (s.put (Fd.METER_MP_STATUS_NOLOAD p) 0).raise Ev.METER_FLAGS_NOLOAD else s
  else if i * 10000000 < 95 * ist then (s.put (Fd.METER_MP_STATUS_NOLOAD p) 1).raise Ev.METER_FLAGS_NOLOAD
  else s

/-- R303–R307: what a window's measurement leaves: results, energies, segments and the no-load state. -/
def State.windowTake (s : State) (p : Fin 4) (w : MeterWindow) (freq len : Nat) : State :=
  let s := (s.resWords p 4 (s.windowWords p w freq)).harmWords p 0 w.harm
  let s := if s.on (Fd.METER_MP_STATUS_NOLOAD p) then s else s.windowEnergy p w len
  (s.segSet p fun c => s.segMove p c (w.raw.getD (c - 3) 0)).noloadDecide p w

/-- R303: the samples from which the window that ends at `e` is measured: the next instant's among them, under the settings
before the window's end; none where one is invalid or missing. -/
def State.windowTicks (s : State) (p : Fin 4) (e : Nat) (x : MeterSample) : Option (List MeterTick) :=
  let t := s.meter.pts[p]
  let S := (e + 499999) / 500000 * 500000
  let next := if S ≤ s.meter.last then none else s.tickAt p S (s.mpChannels p S x) x.spoilt
  let ticks := match next with
    | some y => y :: t.ticks
    | none => t.ticks
  if t.bad.any (fun b => decide (t.winStart / 500000 * 500000 ≤ b ∧ b ≤ S)) || (windowOf (ticks.map fun y => (y.time, y.p)) t.winStart e).isNone then none else some ticks

/-- R303–R307: a window ends, before the sample of the first instant at or after its end. `x`: what the lines carry for that
sample, at which the window's end is interpolated. -/
def State.windowEnd (s : State) (p : Fin 4) (x : MeterSample) : State :=
  let t := s.meter.pts[p]
  let len := 16 * 10 ^ 15 / t.winFreq
  let e := t.winStart + len
  if !s.mpLive p || !s.on Fd.PLL_STATUS_SYSLOCK || !s.canReach e then s
  else
    let s := s.reachCount e
    let s := ((s.wrN (Reg.METER_WINRES p 0) e).wrN (Reg.METER_WINRES p 1) (e / 2 ^ 32)).inc32 (Reg.METER_WINRES p 2)
    let s := s.metM fun m => { m with instant := s.nowAt e }
    let s := match s.windowTicks p e x with
      | none => s.wrN (Reg.METER_WINRES p 3) 0
      | some ticks => (s.wrN (Reg.METER_WINRES p 3) 1).windowTake p (s.measure p ticks t.winFreq t.winStart len) t.winFreq len
    let f := s.winFreq p
    s.ptM p fun t => { t with winStart := e, winFreq := f, bad := t.bad.filter fun b => decide (e / 500000 * 500000 ≤ b), ticks := t.ticks.take 64 }

/-! ### Snapshots (R311) -/

/-- R311: a snapshot of a point is requested at T_snap. -/
def State.snapRequest (s : State) (p : Fin 4) (t : Nat) : State :=
  if s.pmu.warned then s
  else if s.meter.pts[p].snap.isSome then s.raise Ev.METER_FLAGS_SNAPOVF
  else s.ptM p fun m => { m with snap := some ⟨t, if s.meter.last < t then none else some s.meter.before.acc[p]⟩ }

/-- Writes the integer and fraction words of an accumulator: LO, HI, FRAC. -/
def State.accWords (s : State) (lo acc : Nat) : State :=
  ((s.wrN lo (acc / 2 ^ 64)).wrN (lo + 4) (acc / 2 ^ 96)).wrN (lo + 8) (acc / 2 ^ 32)

/-- R311: the snapshot registers, the stamp and the sequence are written together. -/
def State.snapWritten (s : State) (p : Fin 4) : State :=
  match s.meter.pts[p].snap with
  | none => s
  | some x =>
    if s.pmu.warned then s
    else
      let acc := x.acc.getD s.meter.pts[p].acc
      let s := (List.finRange 14).foldl (fun s (a : Fin 14) => s.accWords (Reg.METER_SNAP_LO p a) acc[a]) s
      let s := (s.wrN (Reg.METER_SNAPSTAMP_LO p) x.time).wrN (Reg.METER_SNAPSTAMP_HI p) (x.time / 2 ^ 32)
      ((s.inc32 (Reg.METER_SNAPSEQ p)).raise Ev.METER_FLAGS_SNAP).ptM p fun m => { m with snap := none }

/-- R324: a read of an accumulator's LO register returns it and latches HI and FRAC; in test the test accumulator is
read (R308). -/
def State.energyRead (s : State) (p : Fin 4) (a : Fin 14) : State :=
  let t := s.meter.pts[p]
  s.accWords (Reg.METER_E_LO p a) (if s.inTest p then t.test[a] else t.acc[a])

/-! ### The metering ring (R315–R319) -/

/-- R317: the body of a record: the accumulators and the pulse block, as words 16–255. -/
def MeterBody.words (b : MeterBody) : List Nat :=
  (b.acc.toList.flatMap fun v => v.toList.flatMap fun a => wordsLE 4 a) ++
  b.pulses.toList.flatMap fun p => [p.1, 0] ++ wordsLE 2 (p.2 / 2 ^ 32)

/-- R317: the header words 1–14. -/
def State.recordHeader (s : State) (v : MeterSave) (test : Nat) : List Nat :=
  let loss := if v.kind = 2 then s.meter.loss.toNat else 0
  [s.rdN Reg.METER_SAVESEQ + 1, v.time % 2 ^ 32, v.time / 2 ^ 32, v.kind, test + 16 * loss,
   s.get Fd.METER_SAVECFG_SAVEINT, v.counter] ++
  (List.range 4).map (fun p => s.rdN (Reg.METER_LOSS p)) ++ [0, 0, 0]

/-- R317: the words of a record, word 0 aside. -/
def State.recordWords (s : State) (v : MeterSave) : List Nat :=
  let b := v.body.getD s.meterBody
  let body := b.words
  let head := s.recordHeader v b.test
  head ++ [crc32 (wordBytes (head ++ body))] ++ body

/-- R315, R317: a ring record of the given kind and set counter, of an instant: it begins to be written unless another is. -/
def State.saveStart (s : State) (kind time counter : Nat) : State :=
  let idle := s.meter.saves.isEmpty
  let s := s.metM fun m =>
    { m with saves := m.saves ++ [⟨kind, time, counter, if time ≤ m.last then some (s.bodyAt time) else none⟩] }
  if idle then s.saveBegin else s

/-- R315: the instant T_k of the next periodic save, which a sample of that instant may have preceded. -/
def State.saveNext (s : State) : Nat :=
  let step := s.get Fd.METER_SAVECFG_SAVEINT * 160000000
  (max s.meter.savedAt (s.tbl.count - 500000) / max 1 step + 1) * step

/-- R315: METER starts the periodic save of the next instant T_k. -/
def State.periodicSave (s : State) : State :=
  let t := s.saveNext
  if s.pmu.warned || s.on Fd.METER_STATUS_RESTORING || !s.canReach t then s
  else ((s.reachCount t).saveStart 0 t (s.rdN (Reg.CONSENT_SETCTR 3))).metM fun m => { m with savedAt := t }

/-- R315, R316: a ring record is durable, or failed, to be written again. Nothing is durable while a block write or a page move
holds it up. -/
def State.saveDone (s : State) (ok : Bool) : State :=
  match s.meter.saves with
  | [] => s
  | v :: rest =>
    if s.pmu.warned || !s.on Fd.METER_STATUS_SAVING then s
    else if ok then
      if !s.blockIdle || !s.tagFree 14 || s.mramc.moving.isSome then s else
      let a := ringSlot s.meter.slot
      let s := ((s.mramWords (a + 4) (s.recordWords v)).mramWrite a 4 0xABAC0001).mramFlush
      let s := ((s.inc32 Reg.METER_SAVESEQ).put Fd.METER_RINGIDX_SLOT s.meter.slot).raise Ev.METER_FLAGS_SAVEDONE
      let s := (s.put Fd.METER_STATUS_SAVING 0).put Fd.METER_STATUS_SAVEFAIL 0
      (s.metM fun m => { m with saves := rest, slot := (m.slot + 1) % 1024 }).saveBegin
    else ((s.raise Ev.METER_FLAGS_SAVEERR).put Fd.METER_STATUS_SAVEFAIL 1).put Fd.METER_STATUS_SAVING 0

/-- R308: a write to METER_TSGCFG. -/
def State.tsgWrite (s : State) (v : Word) : State :=
  if v.toNat.testBit 0 && !s.on (Fd.METER_MP_CFG_TESTOK (cut v.toNat 1 2)) then s.raise Ev.METER_FLAGS_BADCFG
  else s.wrN Reg.METER_TSGCFG (v.toNat % 8)

/-! ### Other events -/

/-- R320: the metering live set has switched over: BADCFG follows; points that start, or whose inputs changed, start
afresh, with the filters of new inputs; a record of kind 3 with the new commit counter is written. -/
def State.meterSwitch (s : State) (old : Nat → Nat) (counter : Nat) : State :=
  let s := (List.finRange 4).foldl (fun s (p : Fin 4) =>
    let bad := s.on (Fd.METER_MP_CFG_EN p) && s.mpBad p
    let s := (s.putB (Fd.METER_MP_STATUS_BADCFG p) bad).raiseIf bad Ev.METER_FLAGS_BADCFG
    let fresh (c : Nat) : Bool := !s.on (Fd.METER_MP_STATUS_RUN p) || old (7 * p.val + c) != s.mpInput p c
    if (List.range 7).any fresh then
      (s.ptM p fun t => { t with ch := Vector.ofFn fun c => if fresh c.val then s.meterFresh p c else t.ch[c] }).mpStart p false
    else s) s
  s.saveStart 3 (s.tbl.count / 500000 * 500000) counter

/-- R318: at the power-fail warning every MPLS ball goes inactive; the record being written is abandoned. -/
def State.meterWarning (s : State) : State :=
  let s := (List.range 4).foldl (fun s (q : Nat) => s.put (Fd.METER_PLS_STAT_HIGH q) 0) s
  (s.put Fd.METER_STATUS_SAVING 0).metM fun m =>
    { m with saves := [], pts := m.pts.map fun t => { t with snap := none } }

/-- R317: the record in a slot is valid: its mark and its CRC. -/
def State.recordValid (s : State) (k : Nat) : Bool :=
  let a := ringSlot k
  let w (i : Nat) : Nat := s.memRd (a + 4 * i) 4
  w 0 == 0xABAC0001 && crc32 (wordBytes (((List.range 14).map fun i => w (i + 1)) ++ ((List.range 240).map fun i => w (i + 16)))) == w 15

/-- R319: the instant of a record. -/
def State.recordTime (s : State) (k : Nat) : Nat := s.memRd (ringSlot k + 8) 8

/-- R319: the newest valid ring record. -/
def State.newestRecord (s : State) : Option Nat :=
  (List.range 1024).foldl (fun (b : Option Nat) k =>
    if s.recordValid k then
      match b with
      | some j => if s.memRd (ringSlot j + 4) 4 < s.memRd (ringSlot k + 4) 4 then some k else b
      | none => some k
    else b) none

/-- R317: takes the accumulators and the pulse block from a body at `a`. -/
def State.bodyRestore (s : State) (a : Nat) : State :=
  let pulse (q : Fin 4) (u : Pulse) : Pulse :=
    { u with rem := s.memRd (a + 0x388 + 16 * q.val) 8 * 2 ^ 32, lastDue := none, start := none
             due := List.replicate (s.memRd (a + 0x380 + 16 * q.val) 2) (s.now, s.plsWidth q) }
  let s := s.metM fun m =>
    { m with
      pts := Vector.ofFn fun p => { (m.pts[p] : MeterPt) with
        acc := Vector.ofFn fun k => s.memRd (a + 0xE0 * p.val + 0x10 * k.val) 16 }
      pulses := Vector.ofFn fun q => pulse q m.pulses[q] }
  (List.finRange 4).foldl (fun s (q : Fin 4) => s.put (Fd.METER_PLS_STAT_PEND q) (s.memRd (a + 0x380 + 16 * q.val) 2)) s

/-- R319: the loss bound of a point. -/
def State.lossBound (s : State) (p : Nat) : Nat :=
  (3 * s.rdN (Reg.METER_MP_PFS p) * (10 * s.get Fd.METER_SAVECFG_SAVEINT + 5) + 3600000 - 1) / 3600000

/-- R319: METER restores from the critical state block (its body's address and capture instant), a ring record or zero,
and writes a record of that kind. -/
def State.meterRestore (s : State) (csb : Option (Nat × Nat)) : State :=
  let newest := s.newestRecord
  let s := match newest with
    | some k => ((s.wrN Reg.METER_SAVESEQ (s.memRd (ringSlot k + 4) 4)).put Fd.METER_RINGIDX_SLOT k).metM fun m => { m with slot := (k + 1) % 1024 }
    | none => s
  let useCsb := match csb, newest with
    | some c, some k => decide (s.recordTime k < c.2)
    | some _, none => true
    | none, _ => false
  let s :=
    if useCsb then
      match csb with
      | some c => (s.bodyRestore c.1).raise Ev.METER_FLAGS_RESTORED |>.saveStart 1 s.tbl.count (s.rdN (Reg.CONSENT_SETCTR 3))
      | none => s
    else match newest with
    | some k =>
      let s := (s.bodyRestore (ringSlot k + 0x40)).raise Ev.METER_FLAGS_MTR_LOSS
      let s := (List.range 4).foldl (fun s (p : Nat) =>
        if s.on (Fd.METER_MP_CFG_EN p) then
          (s.wrN (Reg.METER_LOSS p) (s.lossBound p)).metM fun m => { m with loss := setBit m.loss p true }
        else s) s
      s.saveStart 2 s.tbl.count (s.rdN (Reg.CONSENT_SETCTR 3))
    | none => (s.put Fd.METER_STATUS_FRESH 1).saveStart 4 s.tbl.count (s.rdN (Reg.CONSENT_SETCTR 3))
  let s := s.put Fd.METER_STATUS_RESTORING 0
  (List.finRange 4).foldl (fun s (p : Fin 4) =>
    let bad := s.on (Fd.METER_MP_CFG_EN p) && s.mpBad p
    ((s.putB (Fd.METER_MP_STATUS_BADCFG p) bad).raiseIf bad Ev.METER_FLAGS_BADCFG).mpStart p false) s

/-- R296. -/
def execMeterSample (x : Vector MeterSample 4) (s : State) : Result := .next (s.meterSample x)
/-- R303. -/
def execMeterWindowEnd (p : Fin 4) (x : MeterSample) (s : State) : Result := .next (s.windowEnd p x)
/-- R311. -/
def execMeterSnapshot (p : Fin 4) (byLaunch : Bool) (s : State) : Result :=
  .next (if byLaunch then s.takeLaunch (57 + p.val) fun s l => s.snapRequest p l.exact else s.snapRequest p s.tbl.count)
/-- R311. -/
def execMeterSnapshotWritten (p : Fin 4) (s : State) : Result := .next (s.snapWritten p)
/-- R313. -/
def execMeterPulseStart (q : Fin 4) (s : State) : Result := .next (s.pulseStart q)
/-- R313. -/
def execMeterPulseEnd (q : Fin 4) (s : State) : Result := .next (s.pulseEnd q)
/-- R315. -/
def execMeterPeriodicSave (s : State) : Result := .next s.periodicSave
/-- R315. -/
def execMeterSaveDone (ok : Bool) (s : State) : Result := .next (s.saveDone ok)
/-- R308. -/
def execMeterTsgWrite (v : Word) (s : State) : Result := .next (s.tsgWrite v)

end Sys2Proof.Machine
end

