-- ==== Sys2Proof/Machine/Safe.lean ====
section
/-! DEFINITION. SAFE: channels, demands, test pulses, lock-out, the reset procedure and configuration (R325–R342). -/
namespace Sys2Proof.Machine

/-- Replaces SAFE's hidden state. -/
def State.safeM (s : State) (f : SafeUnit → SafeUnit) : State := { s with safe := f s.safe }

/-- A bit of an 8-bit set. -/
def putBit8 (v : BitVec 8) (i : Nat) (b : Bool) : BitVec 8 :=
  if b then v ||| (1#8 <<< i) else v &&& ~~~(1#8 <<< i)

/-! ### Permit, outputs and the status view -/

/-- R326: an enabled input permits while both of its filtered channels are high. -/
def State.permits (s : State) (i : Nat) : Bool :=
  s.on (Fd.SAFE_IN_CFG_EN i) && s.safe.filtA.getLsbD i && s.safe.filtB.getLsbD i

/-- R336, R342: the running set is valid: every FILT is 2–50 and no enabled output has MAP = 0. -/
def State.safeCfgOk (s : State) : Bool :=
  (List.range 8).all (fun i => 2 ≤ s.get (Fd.SAFE_IN_CFG_FILT i) && s.get (Fd.SAFE_IN_CFG_FILT i) ≤ 50) &&
  (List.range 4).all fun j => !s.on (Fd.SAFE_OUT_CFG_EN j) || s.get (Fd.SAFE_OUT_CFG_MAP j) != 0

/-- R327, R328, R332, R336: whether output `j` is on. -/
def State.outputOn (s : State) (j : Nat) : Bool :=
  let map := s.get (Fd.SAFE_OUT_CFG_MAP j)
  s.on (Fd.SAFE_OUT_CFG_EN j) && map != 0 &&
  (List.range 8).all (fun i => !map.testBit i || s.permits i) &&
  s.on Fd.SAFE_STATUS_PWMCLK && !s.on Fd.SAFE_STATUS_SUPPLY && !s.on Fd.SAFE_STATUS_LOCK &&
  s.on Fd.SAFE_STATUS_CFGVALID && s.safe.tested &&
  (!s.on (Fd.SAFE_OUT_CFG_MANUAL j) || s.safe.acked.getLsbD j)

/-- A bit set gathered from a predicate. -/
def gather (n : Nat) (p : Nat → Bool) : Nat := (List.range n).foldl (fun a i => a + (p i).toNat * 2 ^ i) 0

/-- R342: the readback pins: they follow the commanded levels, but for those reported as not following (log entry 55). -/
def State.readbackShow (s : State) : State :=
  let cmd := s.get Fd.SAFE_OUTPUTS_CMDA + 16 * s.get Fd.SAFE_OUTPUTS_CMDB
  let u := s.safe
  let rb := (BitVec.ofNat 8 cmd &&& ~~~u.rbStuck) ||| (u.rbLevel &&& u.rbStuck)
  (s.put Fd.SAFE_OUTPUTS_RBA (rb.toNat % 16)).put Fd.SAFE_OUTPUTS_RBB (rb.toNat / 16)

/-- R327: the outputs follow their conditions, and the status view follows them. An output that goes off loses its
acknowledgement, and outside a lock-out sets DEMAND. -/
def State.safeEval (s : State) : State :=
  let was := s.get Fd.SAFE_STATUS_OUTON
  let now := gather 4 s.outputOn
  let off := was &&& (15 ^^^ now)
  let s := s.safeM fun u => { u with acked := u.acked &&& ~~~(BitVec.ofNat 4 off) }
  let s := s.put Fd.SAFE_STATUS_OUTON now
  let s := s.put Fd.SAFE_STATUS_ACKWAIT
    (gather 4 fun j => s.on (Fd.SAFE_OUT_CFG_EN j) && s.on (Fd.SAFE_OUT_CFG_MANUAL j) && !s.safe.acked.getLsbD j)
  let s := s.put Fd.SAFE_INPUTS_PERMIT (gather 8 s.permits)
  let s := s.put Fd.SAFE_INPUTS_DISC (s.safe.filtA ^^^ s.safe.filtB).toNat
  let s := s.safeM fun u => { u with outAt := Vector.ofFn fun j => if (was ^^^ now).testBit j.val then s.now else u.outAt[j] }
  let s := ((s.put Fd.SAFE_OUTPUTS_CMDA now).put Fd.SAFE_OUTPUTS_CMDB now).readbackShow
  s.raiseIf (off != 0 && !s.on Fd.SAFE_STATUS_LOCK) Ev.SAFE_FLAGS_DEMAND

/-! ### Faults and lock-out -/

/-- R335, R337: a running reset procedure ends with no effect. -/
def State.safeProcEnd (s : State) : State :=
  match s.safe.proc with
  | .idle => s
  | p =>
    let s := if p = .clearing then s.put Fd.SAFE_STATUS_SELFTEST 0 else s
    ((s.safeM fun u => { u with proc := .idle }).put Fd.SAFE_STATUS_RSTRUN 0).raise Ev.SAFE_FLAGS_RSTREF

/-- R332: the record's cause, number and channel. -/
def State.lockRecord (s : State) (cause idx : Nat) (chB : Bool) : State :=
  ((s.put Fd.SAFE_LOCKREC_CAUSE cause).put Fd.SAFE_LOCKREC_INDEX idx).putB Fd.SAFE_LOCKREC_CH chB

/-- R337: a fault in the SAFE cycle in which a reset procedure ended: its end is taken back, the lock-out stays, and RSTREF is
set. -/
def State.safeUndone (s : State) : State :=
  match s.safe.undo with
  | none => s
  | some u =>
    if u.at_ / 160 = s.now / 160 then
      let old (a : Nat) : Nat := ((u.regs.find? fun r => r.1 == a).map (·.2.toNat)).getD 0
      let s := (s.wrN Reg.SAFE_LOCKREC (old Reg.SAFE_LOCKREC)).put Fd.SAFE_STATUS_LOCK (cut (old Reg.SAFE_STATUS) 0 1)
      let s := (s.put Fd.SAFE_FLAGS_RSTDONE (cut (old Reg.SAFE_FLAGS) 2 1)).wrN (Reg.SAFE_EVCNT 2) (old (Reg.SAFE_EVCNT 2))
      ((s.safeM fun x => { x with undo := none, acked := u.acked, lockAt := u.lockAt, array := { x.array with record := u.record } }).raise
        Ev.SAFE_FLAGS_RSTREF).safeEval
    else s

/-- R331–R333: a fault with its cause, number and channel enters the lock-out, which turns every output off; during a
lock-out it is not recorded, but of the faults of one SAFE cycle (10 ns) the lowest cause is. The record is not durable yet: the pending marker stands. -/
def State.safeLock (s : State) (cause idx : Nat) (chB : Bool) : State :=
  let s := s.safeProcEnd.safeUndone
  let same := decide (s.safe.lockAt.map (· / 160) = some (s.now / 160))
  if s.on Fd.SAFE_STATUS_LOCK then
    if same && s.safe.array.marker && decide (cause < s.get Fd.SAFE_LOCKREC_CAUSE) then s.lockRecord cause idx chB else s
  else
    let s := s.lockRecord cause idx chB
    let s := s.safeM fun u => { u with lockAt := some s.now, array := { u.array with marker := true, count := min 0xFFFF (u.array.count + 1) } }
    let s := s.put Fd.SAFE_LOCKREC_LOCKCNT s.safe.array.count
    ((s.put Fd.SAFE_STATUS_LOCK 1).raise Ev.SAFE_FLAGS_LOCK).safeEval

/-- R333: the record of the lock-out in force becomes durable: the copies are written and the marker is cleared. -/
def State.safeRecord (s : State) : State :=
  if s.safe.array.marker && s.on Fd.SAFE_STATUS_LOCK then
    let w := s.rdN Reg.SAFE_LOCKREC % 256
    s.safeM fun u => { u with array := { u.array with marker := false, record := some w } }
  else s

/-- R331: SOjx_RB has differed from its command for more than 0.5 ms, all of it since the command last changed. -/
def State.readbackFault (s : State) (j : Fin 4) (chB : Bool) : State :=
  let k := j.val + 4 * chB.toNat
  let cmd := (s.get (if chB then Fd.SAFE_OUTPUTS_CMDB else Fd.SAFE_OUTPUTS_CMDA)).testBit j.val
  let s := s.reachNow (s.safe.outAt[j] + 500 * tUs + 1)
  let s := s.safeM fun u => { u with rbStuck := putBit8 u.rbStuck k true, rbLevel := putBit8 u.rbLevel k !cmd }
  s.readbackShow.safeLock 4 j.val chB

/-! ### Inputs -/

/-- R335: every enabled input is safe: its filtered channels agree. -/
def State.inputsSafe (s : State) : Bool :=
  (List.range 8).all fun i => !s.on (Fd.SAFE_IN_CFG_EN i) || s.safe.filtA.getLsbD i == s.safe.filtB.getLsbD i

/-- R330: the filter of a channel is held: the input is pulse-checked and its supply's mask runs. -/
def State.filterHeld (s : State) (i : Nat) (chB : Bool) : Bool :=
  s.on (Fd.SAFE_IN_CFG_TPEN i) &&
  decide (s.now < (if chB then s.safe.tpB.mask else s.safe.tpA.mask))

/-- R326, R336: the samples of 10 µs for which a channel must read a new level: FILT, or the FILT before a switch-over that
came since the level changed. -/
def State.filtSamples (s : State) (i : Fin 8) (held : Nat) : Nat :=
  10 * (if s.now < s.safe.filtAt + held * 10 * tUs then s.safe.filtOld[i] else s.get (Fd.SAFE_IN_CFG_FILT i))

/-- R326, R331, R335: a channel's latest `held` samples, of those that its filter does not ignore, have read a level; after
FILT of them its filtered state changes. -/
def State.safeInput (s : State) (i : Fin 8) (chB level : Bool) (held : Nat) : State :=
  let f := if chB then Fd.SAFE_INPUTS_RAWB else Fd.SAFE_INPUTS_RAWA
  let s := s.putB ⟨f.addr, f.lo + i.val, 1⟩ level
  if s.filterHeld i chB || decide (held < s.filtSamples i held) then s
  else
    let s := s.safeM fun u =>
      if chB then { u with filtB := putBit8 u.filtB i level } else { u with filtA := putBit8 u.filtA i level }
    let diff := s.safe.filtA.getLsbD i != s.safe.filtB.getLsbD i
    let s := s.safeM fun u =>
      { u with differ := u.differ.upd i fun d => if diff then some (d.getD s.now) else none }
    let s := s.safeM fun u =>
      match u.proc with
      | .pulse t ok => { u with proc := .pulse t (ok && s.inputsSafe) }
      | _ => u
    s.safeEval

/-- R331, R332: the filtered channels of an enabled input have differed for 20 ms: cause 1. Which of the two channels is
recorded is not stated: a free value (log entry 1). -/
def State.safeDiscrepancy (s : State) (i : Fin 8) : State :=
  match s.safe.differ[i] with
  | some t =>
    if s.on (Fd.SAFE_IN_CFG_EN i) then
      let (w, s) := (s.reachNow (t + 20 * tMs)).fresh
      s.safeLock 1 i.val (w.getLsbD 0)
    else s
  | none => s

/-! ### Test pulses -/

/-- The two raw sample sets show in the status view. -/
def State.safeRaw (s : State) (rawA rawB : BitVec 8) : State :=
  (s.put Fd.SAFE_INPUTS_RAWA rawA.toNat).put Fd.SAFE_INPUTS_RAWB rawB.toNat

/-- R329, R330: a pulse falls at its place in the 20 ms cycle, once a cycle on each supply; the channels that read high just before are to be
checked; the pulsed channel's filter is held for 700 µs. -/
def State.testPulseStart (s : State) (onB : Bool) (rawA rawB : BitVec 8) : State :=
  match s.safe.cycle with
  | none => s
  | some t0 =>
    let fresh := s.safe.tpA.mask = 0 && s.safe.tpB.mask = 0
    let due := if onB then t0 + 10 * tMs else if fresh then t0 else t0 + 20 * tMs
    if onB && s.safe.tpB.mask == due + 700 * tUs then s else
    let s := s.reachNow due
    let p : TestPulse := { low := some due, mask := due + 700 * tUs, highA := rawA, highB := rawB, toCheck := true }
    let s := s.safeM fun u => if onB then { u with tpB := p } else { u with tpA := p, cycle := some due }
    let s := if !onB && !fresh then s.inc32 Reg.SAFE_TPCNT else s
    s.safeRaw rawA rawB

/-- R330: the fault of one input at a check sample: none, or the cause with the channel. -/
def pulseFault (onB : Bool) (hA hB a b : Bool) : Option (Nat × Bool) :=
  let respA := hA && (if onB then !a else a)
  let respB := hB && (if onB then b else !b)
  if onB then
    if respA then some (2, false) else if respB then some (3, true) else none
  else
    if respB then some (2, true) else if respA then some (3, false) else none

/-- R332: the lowest cause, then the lowest input, of the faults of one check sample. -/
def State.pulseFaults (s : State) (onB : Bool) (p : TestPulse) (rawA rawB : BitVec 8) : Option (Nat × Nat × Bool) :=
  (List.range 8).foldl (fun best i =>
    if s.on (Fd.SAFE_IN_CFG_TPEN i) then
      match pulseFault onB (p.highA.getLsbD i) (p.highB.getLsbD i) (rawA.getLsbD i) (rawB.getLsbD i), best with
      | none, b => b
      | some (c, ch), none => some (c, i, ch)
      | some (c, ch), some (c', i', ch') => if c < c' then some (c, i, ch) else some (c', i', ch')
    else best) none

/-- R330: the check sample, 350 µs after the fall. -/
def State.testPulseCheck (s : State) (onB : Bool) (rawA rawB : BitVec 8) : State :=
  let p := if onB then s.safe.tpB else s.safe.tpA
  match p.low, p.toCheck with
  | some t, true =>
    let s := (s.reachNow (t + 350 * tUs)).safeRaw rawA rawB
    let q := { p with toCheck := false }
    let s := s.safeM fun u => if onB then { u with tpB := q } else { u with tpA := q }
    match s.pulseFaults onB p rawA rawB with
    | none => s
    | some (c, i, ch) => s.safeLock c i ch
  | _, _ => s

/-- R329: a pulse ends 400 µs after it began. -/
def State.testPulseEnd (s : State) (onB : Bool) : State :=
  let p := if onB then s.safe.tpB else s.safe.tpA
  match p.low with
  | none => s
  | some t =>
    let q := { p with low := none }
    (s.reachNow (t + 400 * tUs)).safeM fun u => if onB then { u with tpB := q } else { u with tpA := q }

/-- R329, R338: the level of TPA or TPB: low until the self-test has ended, and in its pulses. -/
def State.tpPin (s : State) (onB : Bool) : Bool :=
  s.safe.cycle.isSome && (if onB then s.safe.tpB else s.safe.tpA).low.isNone

/-! ### Demands -/

/-- R328: no PWM clock edge for 1 µs: every output turns off, with a lock-out if any was on. -/
def State.safePwmLoss (s : State) : State :=
  if s.pwmClk || !s.on Fd.SAFE_STATUS_PWMCLK then s
  else
    let anyOn := s.get Fd.SAFE_STATUS_OUTON != 0
    let s := (s.reachNow (s.now + tUs)).put Fd.SAFE_STATUS_PWMCLK 0
    if anyOn then s.safeLock 8 0 false else s.safeEval

/-- R328: PWM clock edges return. -/
def State.safePwmReturn (s : State) : State :=
  if s.pwmClk then (s.put Fd.SAFE_STATUS_PWMCLK 1).safeEval else s

/-- R328: PMU asserts the supply demand. -/
def State.safeSupply (s : State) : State := (s.put Fd.SAFE_STATUS_SUPPLY 1).safeEval

/-- R328, R455: the supply demand ends. -/
def State.safeSupplyEnd (s : State) : State := (s.put Fd.SAFE_STATUS_SUPPLY 0).safeEval

/-! ### The reset procedure -/

/-- R335: SRST_N falls through its glitch filter. -/
def State.safeResetStart (s : State) : State :=
  match s.safe.proc with
  | .idle => (s.safeM fun u => { u with proc := .pulse s.now s.inputsSafe }).put Fd.SAFE_STATUS_RSTRUN 1
  | _ => s

/-- R335: SRST_N rises after `us` µs: the width, the inputs and the self-test are checked. -/
def State.safeResetRise (s : State) (us : Nat) (selfOk : Bool) : State :=
  match s.safe.proc with
  | .pulse t ok =>
    let s := s.reachNow (t + us * tUs)
    if 200000 ≤ us && us ≤ 2000000 && ok && s.inputsSafe && selfOk then
      (s.safeM fun u => { u with proc := .clearing }).put Fd.SAFE_STATUS_SELFTEST 1
    else s.safeProcEnd
  | _ => s

/-- R337: what the end of a reset procedure replaces. -/
def State.safeBefore (s : State) : SafeUndo :=
  ⟨s.now, [Reg.SAFE_LOCKREC, Reg.SAFE_STATUS, Reg.SAFE_FLAGS, Reg.SAFE_EVCNT 2].map fun a => (a, s.rd a), s.safe.array.record, s.safe.acked,
    s.safe.lockAt⟩

/-- R335: the cleared record is durable; the lock-out ends and every output is acknowledged. -/
def State.safeResetDone (s : State) : State :=
  match s.safe.proc with
  | .clearing =>
    let s := s.safeM fun u =>
      { u with undo := some s.safeBefore, proc := .idle, acked := 15#4, rbStuck := 0, lockAt := none, array := { u.array with marker := false, record := none } }
    let s := ((s.put Fd.SAFE_STATUS_RSTRUN 0).put Fd.SAFE_STATUS_SELFTEST 0).put Fd.SAFE_STATUS_LOCK 0
    let s := ((s.put Fd.SAFE_LOCKREC_CAUSE 0).put Fd.SAFE_LOCKREC_INDEX 0).put Fd.SAFE_LOCKREC_CH 0
    (s.raise Ev.SAFE_FLAGS_RSTDONE).safeEval
  | _ => s

/-- R338: the power-up self-test ends: a failure is a cause-9 lock-out, otherwise the test pulses start. -/
def State.safeSelftestDone (s : State) (pass : Bool) : State :=
  if s.safe.tested then s
  else
    let s := (s.put Fd.SAFE_STATUS_SELFTEST 0).safeM fun u => { u with tested := true, cycle := some s.now }
    if pass then s.safeEval else s.safeLock 9 0 false

/-! ### Configuration and start-up -/

/-- The registers of the safety live set, in order. -/
def safeSetRegs : List Nat := (List.range 8).map Reg.SAFE_IN_CFG ++ (List.range 4).map Reg.SAFE_OUT_CFG

/-- R336: the words of the running set. -/
def State.safeSet (s : State) : List Nat := safeSetRegs.map s.rdN

/-- The set's words stand in the registers, with their check and validity. -/
def State.safeShowSet (s : State) : State :=
  (s.wrN Reg.SAFE_CFGCRC (crc32 (wordBytes s.safeSet))).putB Fd.SAFE_STATUS_CFGVALID s.safeCfgOk

/-- R336, R337: a delivered set is checked, stored and applied in one SAFE cycle; a MANUAL output that may turn on by it
needs a reset procedure first. `s` is the state before, `t` the state
with the delivered words in the registers. -/
def State.safeDeliver (s t : State) (crcOk : Bool) : State :=
  let f (x : State) := (x.safeProcEnd)
  if crcOk then
    let t := t.safeM fun u => { u with array := { u.array with config := some (Vector.ofFn fun k : Fin 12 => t.rd (safeSetRegs.getD k.val 0)) } }
    let t := ((f t).safeShowSet.raise Ev.SAFE_FLAGS_CFGAPPLIED).safeM fun u =>
      { u with filtAt := s.now, filtOld := Vector.ofFn fun i => s.get (Fd.SAFE_IN_CFG_FILT i)
               differ := Vector.ofFn fun i => if s.on (Fd.SAFE_IN_CFG_EN i) then u.differ[i] else u.differ[i].map fun _ => s.now }
    let new := gather 4 fun j => t.outputOn j && !(t.get Fd.SAFE_STATUS_OUTON).testBit j
    (t.safeM fun u => { u with acked := u.acked &&& ~~~(BitVec.ofNat 4 new) }).safeEval
  else (f s).safeLock 6 0 false

/-- R333, R336, R338, R342: at power-up SAFE starts from its array: the stored configuration, the lock-out record, and a
marker without a record as a lock-out with cause 15; the self-test runs. -/
def State.safePowerUp (s : State) (a : SafeArray) : State :=
  let s := { s with safe := { array := a } }
  let s := s.put Fd.SAFE_LOCKREC_LOCKCNT a.count
  let s :=
    match a.config with
    | none => s
    | some w => ((List.finRange 12).foldl (fun (s : State) (k : Fin 12) => s.wr (safeSetRegs.getD k.val 0) w[k]) s).safeShowSet
  let s := (s.put Fd.SAFE_STATUS_SELFTEST 1).safeEval
  match a.record with
  | some w => ((s.wrN Reg.SAFE_LOCKREC (a.count * 65536 + w % 256)).put Fd.SAFE_STATUS_LOCK 1).raise Ev.SAFE_FLAGS_LOCK
  | none => if a.marker then s.safeLock 15 0 false else s

/-! ### The meanings -/

/-- R339: SAFE runs until PMU removes power. -/
def State.safeRun (s : State) (f : State → State) : State := if s.pmu.clocksOff then s else f s

/-- R326. -/
def execSafeInputChange (i : Fin 8) (chB : Bool) (x : HeldLevel) (s : State) : Result := .next (s.safeRun fun s => s.safeInput i chB x.level x.held)
/-- R329. -/
def execTestPulseStart (onB : Bool) (rawA rawB : BitVec 8) (s : State) : Result := .next (s.safeRun fun s => s.testPulseStart onB rawA rawB)
/-- R330. -/
def execTestPulseCheck (onB : Bool) (rawA rawB : BitVec 8) (s : State) : Result := .next (s.safeRun fun s => s.testPulseCheck onB rawA rawB)
/-- R331. -/
def execSafeDiscrepancy (i : Fin 8) (s : State) : Result := .next (s.safeRun fun s => s.safeDiscrepancy i)
/-- R331. -/
def execSafeReadbackFault (j : Fin 4) (chB : Bool) (s : State) : Result := .next (s.safeRun fun s => s.readbackFault j chB)
/-- R331. -/
def execSafeLogicCompareFault (s : State) : Result := .next (s.safeRun fun s => s.safeLock 5 0 false)
/-- R331. -/
def execSafeOscFault (s : State) : Result := .next (s.safeRun fun s => s.safeLock 7 0 false)
/-- R328. -/
def execSafePwmClockLoss (s : State) : Result := .next (s.safeRun fun s => s.safePwmLoss)
/-- R328. -/
def execSafePwmClockReturn (s : State) : Result := .next (s.safeRun fun s => s.safePwmReturn)
/-- R328. -/
def execSafeSupplyDemand (s : State) : Result := .next (s.safeRun fun s => s.safeSupply)
/-- R333. -/
def execSafeLockoutRecord (s : State) : Result := .next (s.safeRun fun s => s.safeRecord)
/-- R335. -/
def execSafeResetPulseStart (s : State) : Result := .next (s.safeRun fun s => s.safeResetStart)
/-- R335. -/
def execSafeResetProcedure (us : Nat) (ok : Bool) (s : State) : Result := .next (s.safeRun fun s => s.safeResetRise us ok)
/-- R335. -/
def execSafeResetDone (s : State) : Result := .next (s.safeRun fun s => s.safeResetDone)
/-- R338. -/
def execSafeSelftestDone (pass : Bool) (s : State) : Result := .next (s.safeRun fun s => s.safeSelftestDone pass)
/-- R329. -/
def execTestPulseEnd (onB : Bool) (s : State) : Result := .next (s.safeRun fun s => s.testPulseEnd onB)

end Sys2Proof.Machine
end

