-- ==== Sys2Proof/Machine/Crypto.lean ====
section
/-! DEFINITION. SHA-512 and Ed25519, which SEC and CONSENT name (R434, R439, R441, R446): computed as FIPS 180-4 and RFC 8032
define them (PRESUMED, log entry 3). -/
namespace Sys2Proof.Machine

/-! ### SHA-512

The constants are the first 64 bits of the fractional parts of roots of primes: square roots for the initial value, cube
roots for the rounds. The eight working variables of a round are the last four of two sequences, A (a to d) and E (e to h),
each kept newest first. -/

/-- The first eighty primes. -/
def shaPrimes : List Nat := ((List.range 410).filter fun n => 2 ≤ n && (List.range n).all fun d => d < 2 || n % d != 0).take 80

/-- The largest `r` below 2^`n` over `r0` whose `k`th power is at most `x`. -/
def rootBelow (k x : Nat) : Nat → Nat → Nat
  | 0, r0 => r0
  | n + 1, r0 => rootBelow k x n (if (r0 + 2 ^ n) ^ k ≤ x then r0 + 2 ^ n else r0)

/-- The first 64 bits of the fractional part of the `k`th root of a number below 512. -/
def rootBits (k p : Nat) : Nat := rootBelow k (p * 2 ^ (64 * k)) 69 0 % 2 ^ 64

/-- The initial hash value. -/
def shaInit : List Nat := (shaPrimes.take 8).map (rootBits 2)

/-- The round constants. -/
def shaK : List Nat := shaPrimes.map (rootBits 3)

/-- The exclusive or of a 64-bit word rotated right by each of some amounts. -/
def rotations (x : Nat) (ns : List Nat) : Nat := ns.foldl (fun r n => r ^^^ (x / 2 ^ n + x % 2 ^ n * 2 ^ (64 - n))) 0

/-- The message schedule, newest word first: `n` more words. -/
def shaSchedule : Nat → List Nat → List Nat
  | 0, w => w
  | n + 1, w =>
    let old (k : Nat) : Nat := w.getD (k - 1) 0
    shaSchedule n ((old 16 + old 7 + (rotations (old 15) [1, 8] ^^^ old 15 / 2 ^ 7) + (rotations (old 2) [19, 61] ^^^ old 2 / 2 ^ 6)) % 2 ^ 64 :: w)

/-- One round with `kw`, the sum of its constant and its schedule word: both sequences grow by one word. -/
def shaRound (v : List Nat × List Nat) (kw : Nat) : List Nat × List Nat :=
  let a (k : Nat) : Nat := v.1.getD k 0
  let e (k : Nat) : Nat := v.2.getD k 0
  let choose := ((e 1 ^^^ e 2) &&& e 0) ^^^ e 2
  let most := ((a 0 ||| a 1) &&& a 2) ||| (a 0 &&& a 1)
  let t := e 3 + choose + rotations (e 0) [14, 18, 41] + kw
  ((t + most + rotations (a 0) [28, 34, 39]) % 2 ^ 64 :: v.1.take 3, (a 3 + t) % 2 ^ 64 :: v.2.take 3)

/-- The big-endian value of a list of bytes. -/
def bytesBE (bs : List Nat) : Nat := bs.foldl (fun a b => a * 256 + b % 256) 0

/-- The big-endian bytes of a number. -/
def toBE (n v : Nat) : List Nat := (bytesLE n v).reverse

/-- One 128-byte block. -/
def shaBlock (h blk : List Nat) : List Nat :=
  let first := (List.range 16).map fun i => bytesBE ((blk.drop (120 - 8 * i)).take 8)
  let ws := (shaSchedule 64 first).reverse
  let v := (List.zipWith (· + ·) shaK ws).foldl shaRound (h.take 4, h.drop 4)
  (List.range 8).map fun i => (h.getD i 0 + (v.1 ++ v.2).getD i 0) % 2 ^ 64

/-- The hash value after the first `n` blocks of a padded message. -/
def shaBlocks (m : List Nat) : Nat → List Nat
  | 0 => shaInit
  | n + 1 => shaBlock (shaBlocks m n) (m.drop (128 * n))

/-- SHA-512 of a list of bytes, as 64 bytes: padded by a 1 bit, zeros and the length in bits to whole blocks. -/
def sha512 (m : List Nat) : List Nat :=
  let tail := 0x80 :: List.replicate (127 - (m.length + 16) % 128) 0
  let p := m ++ tail ++ toBE 16 (8 * m.length)
  (shaBlocks p (p.length / 128)).flatMap (toBE 8)

/-! ### Ed25519 -/

/-- The field prime. -/
def edP : Nat := 2 ^ 255 - 19

/-- The order of the base point. -/
def edL : Nat := 2 ^ 252 + 27742317777372353535851937790883648493

/-- Modular power by the low `n` bits of the exponent, most significant first. -/
def powMod (b e n p : Nat) : Nat :=
  (List.range n).foldl (fun a i => let q := a * a % p; if e.testBit (n - 1 - i) then q * b % p else q) 1

/-- The inverse in the field. -/
def edInv (x : Nat) : Nat := powMod x (edP - 2) 255 edP

/-- The curve constant d = −121665/121666. -/
def edD : Nat := 0x52036cee2b6ffe738cc740797779e89800700a4d4141d8ab75eb4dca135978a3

/-- A point in extended coordinates. -/
structure EdPoint where
  x : Nat
  y : Nat
  z : Nat
  t : Nat
  deriving DecidableEq, Repr

/-- The neutral element. -/
def edZero : EdPoint := ⟨0, 1, 1, 0⟩

/-- The sum of two points. -/
def edAdd (p q : EdPoint) : EdPoint :=
  let a := (p.y + edP - p.x) * (q.y + edP - q.x) % edP
  let b := (p.y + p.x) * (q.y + q.x) % edP
  let c := 2 * p.t * q.t % edP * edD % edP
  let d := 2 * p.z * q.z % edP
  let e := (b + edP - a) % edP
  let f := (d + edP - c) % edP
  let g := (d + c) % edP
  let h := (b + a) % edP
  ⟨e * f % edP, g * h % edP, f * g % edP, e * h % edP⟩

/-- A multiple of a point by a scalar below 2^256. -/
def edMul (k : Nat) (p : EdPoint) : EdPoint :=
  (List.range 256).foldl (fun a i => let d := edAdd a a; if k.testBit (255 - i) then edAdd d p else d) edZero

/-- Equality of points. -/
def edEq (p q : EdPoint) : Bool :=
  (p.x * q.z) % edP == (q.x * p.z) % edP && (p.y * q.z) % edP == (q.y * p.z) % edP

/-- The base point. -/
def edBase : EdPoint :=
  let x := 0x216936d3cd6e53fec0a4e231fdd6dc5c692cc7609525a7b2c9562d608f25d51a
  let y := 0x6666666666666666666666666666666666666666666666666666666666666658
  ⟨x, y, 1, x * y % edP⟩

/-- The 32-byte encoding of a point, as a little-endian number. -/
def edEncode (p : EdPoint) : Nat :=
  let zi := edInv p.z
  let x := p.x * zi % edP
  p.y * zi % edP + (x % 2) * 2 ^ 255

/-- The point of an encoding, if it has one. -/
def edDecode (v : Nat) : Option EdPoint :=
  let y := v % 2 ^ 255
  let sign := v / 2 ^ 255 % 2
  if edP ≤ y then none
  else
    let u := (y * y + edP - 1) % edP
    let w := (edD * (y * y % edP) + 1) % edP
    let w3 := w * w % edP * w % edP
    let x0 := u * w3 % edP * powMod (u * (w3 * w3 % edP * w % edP) % edP) ((edP - 5) / 8) 252 edP % edP
    let vx := w * (x0 * x0 % edP) % edP
    let root := if vx = u then some x0
      else if vx = (edP - u) % edP then some (x0 * powMod 2 ((edP - 1) / 4) 253 edP % edP) else none
    match root with
    | none => none
    | some x =>
      if x = 0 ∧ sign = 1 then none
      else
        let x := if x % 2 = sign then x else edP - x
        some ⟨x, y, 1, x * y % edP⟩

/-- The little-endian value of a list of bytes. -/
def fromLE (bs : List Nat) : Nat := bs.foldr (fun b a => b % 256 + 256 * a) 0

/-- The secret scalar of a seed. -/
def edScalar (h : List Nat) : Nat :=
  let v := fromLE (h.take 32)
  v % 2 ^ 254 / 8 * 8 + 2 ^ 254

/-- The public key of a seed: 32 bytes. -/
def edPublic (seed : List Nat) : List Nat := bytesLE 32 (edEncode (edMul (edScalar (sha512 seed)) edBase))

/-- The signature of a message under a seed: 64 bytes. -/
def edSign (seed msg : List Nat) : List Nat :=
  let h := sha512 seed
  let a := edScalar h
  let pub := edPublic seed
  let r := fromLE (sha512 (h.drop 32 ++ msg)) % edL
  let rb := bytesLE 32 (edEncode (edMul r edBase))
  let k := fromLE (sha512 (rb ++ pub ++ msg)) % edL
  rb ++ bytesLE 32 ((r + k * a) % edL)

/-- Whether a signature of a message verifies under a public key. -/
def edVerify (pub sig msg : List Nat) : Bool :=
  let s := fromLE (sig.drop 32)
  match edDecode (fromLE pub), edDecode (fromLE (sig.take 32)) with
  | some a, some r =>
    let k := fromLE (sha512 (sig.take 32 ++ pub ++ msg)) % edL
    decide (s < edL) && edEq (edMul s edBase) (edAdd r (edMul k a))
  | _, _ => false

end Sys2Proof.Machine
end

