-- ==== Sys2Proof/Machine/Sec.lean ====
section
/-! DEFINITION. SEC: the OTP fields, image slots, the boot sequence, commands, identity and attestation (R432–R441, R452). -/
namespace Sys2Proof.Machine

/-- Replaces SEC's hidden state. -/
def State.secM (s : State) (f : Sec → Sec) : State := { s with sec := f s.sec }

/-- Bytes of memory. -/
def State.bytesAt (s : State) (a n : Nat) : List Nat := (List.range n).map fun i => (Memory.read s.mem (a + i)).toNat

/-- The bytes of `n` registers from an address. -/
def State.regBytes (s : State) (a n : Nat) : List Nat := (List.range n).flatMap fun i => bytesLE 4 (s.rdN (a + 4 * i))

/-- The words of a list of bytes, with the addresses of the registers they go to. -/
def wordsTo (a : Nat) (bs : List Nat) : List (Nat × Word) :=
  (List.range (bs.length / 4)).map fun i => (a + 4 * i, BitVec.ofNat 32 (fromLE ((bs.drop (4 * i)).take 4)))

/-- Stores a list of register words. -/
def State.wrAll (s : State) (ws : List (Nat × Word)) : State := ws.foldl (fun s w => s.wr w.1 w.2) s

/-! ### Keys (R439) -/

/-- R439: the identity seed's bytes. -/
def idSeedBytes : List Nat := bytesLE 32 Config.idSeed.toNat

/-- R439: the seed of the application key pair. -/
def State.appSeed (s : State) : List Nat := (sha512 (idSeedBytes ++ bytesLE 64 s.sec.otp.okh.toNat)).take 32

/-- R439, R452: the public keys, DEVID and the OTP's state stand in the registers. -/
def State.secShow (s : State) : State :=
  let s := (s.wrAll (wordsTo (Reg.SEC_IDPUB 0) (edPublic idSeedBytes))).wrAll (wordsTo (Reg.SEC_APPPUB 0) (edPublic s.appSeed))
  let s := s.wrAll (wordsTo Reg.SEC_DEVID_LO (bytesLE 8 Config.devid.toNat))
  (s.put Fd.SEC_STATUS_ROLLBACK s.sec.otp.rollback).putB Fd.SEC_STATUS_OKHSET (s.sec.otp.okh != 0)

/-! ### Image slots (R433, R434) -/

/-- R17: the start of image slot A or B. -/
def slotBase (b : Bool) : Nat := if b then 0x08400000 else 0x08000000

/-- A word of a slot's header. -/
def State.imgWord (s : State) (b : Bool) (ofs : Nat) : Nat := s.memRd (slotBase b + ofs) 4

/-- R433: the header's fixed fields. -/
def State.headerOk (s : State) (b : Bool) : Bool :=
  let len := s.imgWord b 8
  let entry := s.imgWord b 12
  s.imgWord b 0 == 0x49444D47 && len % 32 == 0 && len ≤ 4194304 - 256 && entry % 4 == 0 && 0x100 ≤ entry &&
    entry < 0x100 + len && s.imgWord b 16 ≤ 1 && (s.bytesAt (slotBase b + 0x14) 0x2C).all (· == 0)

/-- R433: H of a slot. -/
def State.imgHash (s : State) (b : Bool) : List Nat :=
  sha512 (s.bytesAt (slotBase b) 0x80 ++ s.bytesAt (slotBase b + 0x100) (s.imgWord b 8))

/-- R434: a slot is valid. -/
def State.slotValid (s : State) (b : Bool) : Bool :=
  s.headerOk b &&
    (let base := slotBase b
     let h := s.imgHash b
     let vpub := s.bytesAt (base + 0x40) 32
     let opub := s.bytesAt (base + 0x60) 32
     fromLE (sha512 vpub) == Config.vrkh.toNat && edVerify vpub (s.bytesAt (base + 0x80) 64) h &&
     (s.sec.otp.okh == 0 ||
       (fromLE (sha512 opub) == s.sec.otp.okh.toNat && edVerify opub (s.bytesAt (base + 0xC0) 64) h)) &&
     decide (s.sec.otp.rollback ≤ s.imgWord b 4))

/-- R435: the candidate: the valid slot with the higher VERSION, slot A on a tie. -/
def State.bootSlot (s : State) : Option Bool :=
  match s.slotValid false, s.slotValid true with
  | true, true => some (decide (s.imgWord false 4 < s.imgWord true 4))
  | true, false => some false
  | false, true => some true
  | false, false => none

/-! ### The boot sequence (R435–R437) -/

/-- Replaces a core's registers. -/
def State.cpuM (s : State) (c : Fin 6) (f : Cpu → Cpu) : State := { s with cpu := s.cpu.upd c f }

/-- Replaces a steward's hidden state. -/
def State.stM (s : State) (n : Fin 2) (f : Steward → Steward) : State := { s with st := s.st.upd n f }

/-- R436: recovery: the host port is enabled. -/
def State.recovery (s : State) : State := (s.put Fd.SEC_STATUS_RECOV 1).put Fd.SYSCFG_HOSTCTL_EN 1

/-- R435–R437: ST0's sequence from reset, its instruction cache enabled: it ends in the image's entry or in recovery. -/
def State.bootRom (s : State) (otpOk : Bool) : State :=
  if s.sec.booted || !s.on (Fd.SYSCFG_ST_STATUS_RUN 0) || s.on Fd.CONSENT_STATUS_RESTORING then s
  else
    let s := (s.secM fun x => { x with booted := true }).secShow.stM 0 fun t => { t with ccfg := 1 }
    if !otpOk then (s.raise Ev.SEC_FLAGS_OTPERR).recovery
    else
      match s.bootSlot with
      | none => s.recovery
      | some b =>
        let s := s.wrAll (wordsTo (Reg.SEC_MEAS 0) (s.imgHash b))
        let s := (s.putB Fd.SEC_STATUS_SLOT b).wrN Reg.SEC_VERSION (s.imgWord b 4)
        let s := s.putB Fd.SEC_STATUS_DBGOPEN (!s.sec.otp.dbglock || s.imgWord b 16 % 2 == 1)
        let s := (s.put Fd.SEC_STATUS_ROMEXIT 1).stM 0 fun t => { t with ccfg := 3 }
        s.cpuM 4 fun c => { c with pc := BitVec.ofNat 32 (slotBase b + s.imgWord b 12), ended := none }

/-- R435: a write of SEC_ST1ENTRY; a non-zero, 4-aligned address releases ST1 from the ROM. -/
def State.st1EntryWrite (s : State) (v : Word) : State :=
  let s := s.wr Reg.SEC_ST1ENTRY v
  if s.sec.st1Waits && s.on (Fd.SYSCFG_ST_STATUS_RUN 1) && v != 0 && v.toNat % 4 == 0 then
    (s.secM fun x => { x with st1Waits := false }).cpuM 5 fun c => { c with pc := v, ended := none }
  else s

/-! ### Commands (R438–R441) -/

/-- A command is refused. -/
def State.secRefuse (s : State) : State := s.raise Ev.SEC_FLAGS_REFUSED

/-- A command starts to run. -/
def State.secRun (s : State) (r : SecRun) : State := (s.put Fd.SEC_STATUS_BUSY 1).secM fun x => { x with run := some r }

/-- R441: whether a range lies in SRAM or in the MRAM window. -/
def hashable (a n : Nat) : Bool :=
  (0x20000000 ≤ a && a + n ≤ 0x20400000) || (0x08000000 ≤ a && a + n ≤ 0x09000000)

/-- R440: the report's first 192 bytes. -/
def State.attestBody (s : State) : List Nat :=
  let w0 := s.get Fd.SEC_STATUS_SLOT + 2 * s.get Fd.SEC_STATUS_DBGOPEN + 4 * (s.sec.otp.okh != 0).toNat
  bytesLE 4 0x49444154 ++ bytesLE 4 w0 ++ bytesLE 8 Config.devid.toNat ++ s.regBytes Reg.SEC_VERSION 1 ++
    bytesLE 4 s.sec.otp.rollback ++ s.regBytes Reg.CONSENT_CTR_LO 2 ++ s.regBytes (Reg.SEC_MEAS 0) 16 ++
    s.regBytes (Reg.SEC_BUF 0) 8 ++ bytesLE 8 s.tbl.count ++ List.replicate 56 0

/-- R441: HASH. -/
def State.secHash (s : State) : State :=
  let a := s.rdN Reg.SEC_HADDR
  let n := s.rdN Reg.SEC_HLEN
  if hashable a n then s.secRun { outs := wordsTo (Reg.SEC_BUF 0) (sha512 (s.bytesAt a n)) } else s.secRefuse

/-- R441: VERIFY. -/
def State.secVerify (s : State) : State :=
  s.secRun { outs := [], pass := some (edVerify (s.regBytes (Reg.SEC_BUF 0) 8) (s.regBytes (Reg.SEC_BUF 8) 16) (s.regBytes (Reg.SEC_BUF 24) 16)) }

/-- R440: ATTEST. -/
def State.secAttest (s : State) : State :=
  let b := s.attestBody
  s.secRun { outs := wordsTo (Reg.SEC_BUF 0) (b ++ edSign idSeedBytes b) }

/-- R439: APPSIGN. -/
def State.secAppsign (s : State) : State :=
  s.secRun { outs := wordsTo (Reg.SEC_BUF 16) (edSign s.appSeed (s.regBytes (Reg.SEC_BUF 0) 16)) }

/-- R438: ROLLADV. -/
def State.secRolladv (s : State) : State :=
  let v := s.rdN Reg.SEC_VERSION
  let other := s.get Fd.SEC_STATUS_SLOT == 0
  if s.slotValid other && s.imgWord other 4 < v then s.secRefuse
  else s.secRun { outs := [], otp := some { s.sec.otp with rollback := max s.sec.otp.rollback (min 255 v) } }

/-- R438: OTPOWNER. -/
def State.secOtpowner (s : State) : State :=
  if s.sec.otp.okh != 0 then s.secRefuse
  else s.secRun { outs := [], otp := some { s.sec.otp with okh := BitVec.ofNat 512 (fromLE (s.regBytes (Reg.SEC_BUF 0) 16)) } }

/-- R438: DBGCLOSE. -/
def State.secDbgclose (s : State) : State := s.secRun { outs := [], otp := some { s.sec.otp with dbglock := true } }

/-- R441, R452: a command takes the engine; REBOOT (7) stands with the power-fail sequence. -/
def State.secStart (s : State) (op : Nat) : State :=
  match op with
  | 1 => s.secHash
  | 2 => s.secVerify
  | 3 => s.secAttest
  | 4 => s.secAppsign
  | 5 => s.secRolladv
  | 6 => s.secOtpowner
  | 8 => s.secDbgclose
  | _ => s.secRefuse

/-- R441, R444, R446: CONSENT wants the engine: for the digest of a REQUEST, or for a check. -/
def State.consentWants (s : State) : Bool := s.consent.digesting || s.get Fd.CONSENT_STATUS_STATE == 3

/-- R441: a write of SEC_CMD: refused while BUSY; behind CONSENT's hash or check the command is BUSY and waits. -/
def State.secCommand (s : State) (op : Nat) : State :=
  if s.on Fd.SEC_STATUS_BUSY then s.secRefuse
  else if s.consentWants then
    (if (s.secStart op).sec.run.isNone then s.secStart op
    else (s.put Fd.SEC_STATUS_BUSY 1).secM fun x => { x with waiting := some op })
  else s.secStart op

/-- R441: once CONSENT no longer wants the engine, the command that waited takes it. -/
def State.secNext (s : State) : State :=
  match s.sec.waiting with
  | none => s
  | some op =>
    if s.consentWants then s
    else ((s.put Fd.SEC_STATUS_BUSY 0).secM fun x => { x with waiting := none }).secStart op

/-- R441: a command finishes: its outputs are written, DONE is set and BUSY falls. -/
def State.secDone (s : State) : State :=
  match s.sec.run with
  | none => s
  | some r =>
    let s := (s.secM fun x => { x with run := none, otp := r.otp.getD x.otp }).wrAll r.outs
    let s := if r.otp.isSome then s.secShow else s
    let s := match r.pass with
      | none => s
      | some p => (s.putB Fd.SEC_STATUS_PASS p).raiseIf (!p) Ev.SEC_FLAGS_VERFAIL
    (s.put Fd.SEC_STATUS_BUSY 0).raise Ev.SEC_FLAGS_DONE

/-- R441: a read of SEC_TRNG: 32 fresh bits, which the spec leaves open, or 0 with TRNGERR. -/
def State.trngRead (s : State) (healthy : Bool) : State :=
  if healthy then
    let (w, s) := s.fresh
    s.answer w.toNat
  else (s.raise Ev.SEC_FLAGS_TRNGERR).answer 0

/-- R450: at the power-fail warning a running or waiting command is abandoned. -/
def State.secWarning (s : State) : State := (s.put Fd.SEC_STATUS_BUSY 0).secM fun x => { x with run := none, waiting := none }

/-! ### The meanings -/

/-- R435. -/
def execBootRomSequence (ok : Bool) (s : State) : Result := .next (s.bootRom ok)
/-- R435. -/
def execSt1Entry (v : Word) (s : State) : Result := .next (s.st1EntryWrite v)
/-- R441. -/
def execSecHash (s : State) : Result := .next (s.secCommand 1)
/-- R441. -/
def execSecVerify (s : State) : Result := .next (s.secCommand 2)
/-- R440. -/
def execSecAttest (s : State) : Result := .next (s.secCommand 3)
/-- R439. -/
def execSecAppsign (s : State) : Result := .next (s.secCommand 4)
/-- R438. -/
def execSecRolladv (s : State) : Result := .next (s.secCommand 5)
/-- R438. -/
def execSecOtpowner (s : State) : Result := .next (s.secCommand 6)
/-- R438. -/
def execSecDbgclose (s : State) : Result := .next (s.secCommand 8)
/-- R441. -/
def execSecCommandDone (s : State) : Result := .next s.secDone
/-- R441. -/
def execTrngRead (h : Bool) (s : State) : Result := .next (s.trngRead h)

end Sys2Proof.Machine
end

