-- ==== Sys2Proof/Machine/Consent.lean ====
section
/-! DEFINITION. CONSENT: the live sets and their records, the two-party commit (R442–R450, R453). -/
namespace Sys2Proof.Machine

/-- Replaces CONSENT's hidden state. -/
def State.consM (s : State) (f : Consent → Consent) : State := { s with consent := f s.consent }

/-! ### Live sets (R442) -/

/-- R442: the registers of the protection and ride-through set. -/
def protSetRegs : List Nat :=
  (List.range 4).flatMap (fun g => (List.range 9).map fun k => Reg.SEQ_GP_CFG g + 4 * k) ++
  [Reg.PROT_TRIPCFG, Reg.PROT_RTCFG, Reg.PROT_RTVCONT, Reg.PROT_RTFCONT] ++
  (List.range 16).flatMap (fun k => [Reg.PROT_STG_CFG k, Reg.PROT_STG_TIME k]) ++
  (List.range 4).flatMap fun c => (List.range 16).flatMap fun b => [Reg.PROT_RT_W0 c b, Reg.PROT_RT_W1 c b]

/-- R442: the registers of the anti-islanding set. -/
def probeSetRegs : List Nat := (List.range 5).map fun k => Reg.PROBE_CFG + 4 * k

/-- R442: the registers of the metering set. -/
def meterSetRegs : List Nat :=
  [Reg.METER_SAVECFG] ++ (List.range 4).flatMap (fun q => [Reg.METER_PLS_CFG q, Reg.METER_PLS_KP q]) ++
  (List.range 4).flatMap (fun p => (List.range 6).map fun k => Reg.METER_MP_CFG p + 4 * k) ++
  (List.range 4).flatMap fun p => (List.range 7).flatMap fun c => (List.range 24).map fun k => Reg.METER_CH_OFS p c + 4 * k

/-- R442: the registers behind the image of a set, in order. -/
def setRegs (set : Nat) : List Nat :=
  match set with
  | 0 => protSetRegs
  | 1 => probeSetRegs
  | 2 => safeSetRegs
  | 3 => meterSetRegs
  | 4 => (List.range 33).map (Reg.CONSENT_LIVE 4)
  | _ => []

/-- R442: the bits of a register that belong to a live set; every bit of the approvers' words does. -/
def rwlMask (a : Nat) : Nat :=
  if Reg.CONSENT_LIVE 4 0 ≤ a ∧ a ≤ Reg.CONSENT_LIVE 4 32 then 2 ^ 32 - 1
  else match regRow a with
    | some r => r.rwl
    | none => 0

/-- R442: a word of an image: the register with every other bit 0. -/
def State.liveAt (s : State) (a : Nat) : Nat := s.rdN a &&& rwlMask a

/-- R442: the live image of a set. -/
def State.liveImage (s : State) (set : Nat) : List Nat := (setRegs set).map s.liveAt

/-- R442: the live view of a word. -/
def State.liveView (s : State) (set i : Nat) : Nat :=
  match (setRegs set)[i]? with
  | some a => s.liveAt a
  | none => 0

/-- R442, R448: an image goes live: the bits of the set in its registers. -/
def State.liveWrite (s : State) (set : Nat) (img : List Nat) : State :=
  (List.zip (setRegs set) img).foldl (fun s aw =>
    s.wrN aw.1 ((s.rdN aw.1 &&& (2 ^ 32 - 1 - rwlMask aw.1)) ||| (aw.2 &&& rwlMask aw.1))) s

/-! ### Records (R443) -/

/-- R443: the address of record slot `b` of a set. -/
def recordSlot (set : Nat) (b : Bool) : Nat := 0x08F80000 + 0x2000 * set + 0x1000 * b.toNat

/-- R443: the global commit counter. -/
def counterAddr : Nat := 0x08FBF000

/-- R445: the durable rejection count. -/
def rejcntAddr : Nat := 0x08FBF008

/-- R443: the global counter as it stands in MRAM. -/
def State.globalCounter (s : State) : Nat := s.memRd counterAddr 8

/-- R443: COUNTER of a record. -/
def State.recCounter (s : State) (set : Nat) (b : Bool) : Nat := s.memRd (recordSlot set b + 8) 8

/-- R443: a record is valid: its mark, its length and its CRC. -/
def State.recValid (s : State) (set : Nat) (b : Bool) : Bool :=
  let a := recordSlot set b
  let n := (setRegs set).length
  s.memRd a 4 == 0x49445253 && s.memRd (a + 16) 4 == n &&
    s.memRd (a + 60) 4 == crc32 (s.bytesAt (a + 4) 56 ++ s.bytesAt (a + 64) (4 * n))

/-- A slot that has been written. -/
def State.recWritten (s : State) (set : Nat) (b : Bool) : Bool := s.memRd (recordSlot set b) 4 != 0

/-- R443: the slot that a set is restored from: valid, COUNTER not above the global counter, the higher COUNTER. -/
def State.recChosen (s : State) (set : Nat) : Option Bool :=
  let ok (b : Bool) : Bool := s.recValid set b && s.recCounter set b ≤ s.globalCounter
  match ok false, ok true with
  | true, true => some (decide (s.recCounter set false < s.recCounter set true))
  | true, false => some false
  | false, true => some true
  | false, false => none

/-- R443: the image in a record. -/
def State.recImage (s : State) (set : Nat) (b : Bool) : List Nat :=
  (List.range (setRegs set).length).map fun i => s.memRd (recordSlot set b + 64 + 4 * i) 4

/-- R448: the prepared record goes into the set's older slot. -/
def State.recWrite (s : State) (set ctr : Nat) (img : List Nat) : State :=
  let b := match s.recChosen set with
    | some b => !b
    | none => false
  let head := [0, ctr % 2 ^ 32, ctr / 2 ^ 32, img.length] ++ List.replicate 10 0
  let crc := crc32 (wordBytes (head ++ img))
  s.blockWrites (recordSlot set b) 8 (pairWords ([0x49445253] ++ head ++ [crc] ++ img))

/-! ### The commit (R444–R449) -/

/-- STATE. -/
def State.consState (s : State) : Nat := s.get Fd.CONSENT_STATUS_STATE

/-- Moves the commit to a state. -/
def State.consGo (s : State) (st : Nat) : State := s.put Fd.CONSENT_STATUS_STATE st

/-- A command or write is refused. -/
def State.consRefuse (s : State) : State := s.raise Ev.CONSENT_FLAGS_REFUSED

/-- The set of the commit. -/
def State.consSet (s : State) : Nat := s.get Fd.CONSENT_STATUS_SETID

/-- The staged words of the commit's set. -/
def State.staged (s : State) : List Nat := (List.range (setRegs s.consSet).length).map fun i => s.rdN (Reg.CONSENT_STAGE i)

/-- R453: the counter register. -/
def State.consCounter (s : State) : Nat := s.rdN Reg.CONSENT_CTR_LO + 2 ^ 32 * s.rdN Reg.CONSENT_CTR_HI

/-- R445: the lock time runs. -/
def State.consLocked (s : State) : Bool :=
  match s.consent.lockEnd with
  | some t => decide (s.now < t)
  | none => false

/-- R447: the end of WINDOW. -/
def State.consWindowEnd (s : State) : Nat := s.consent.req + cut (s.rdN (Reg.CONSENT_LIVE 4 0)) 16 16 * tSec

/-- R444: OPEN. -/
def State.consOpen (s : State) (set : Nat) : State :=
  if s.consState = 0 ∧ set ≤ 4 then
    let s := (List.range (setRegs set).length).foldl (fun (s : State) (i : Nat) => s.wrN (Reg.CONSENT_STAGE i) (s.liveView set i)) s
    (s.put Fd.CONSENT_STATUS_SETID set).consGo 1
  else s.consRefuse

/-- R446: a write to the staging area. -/
def State.consStage (s : State) (i : Nat) (v : Word) : State :=
  if s.consState = 1 ∧ i < (setRegs s.consSet).length then s.wr (Reg.CONSENT_STAGE i) v else s.consRefuse

/-- R444–R446: REQUEST. -/
def State.consRequest (s : State) : State :=
  let w := s.rdN (Reg.CONSENT_STAGE 0)
  if s.consState = 1 ∧ ¬(s.consSet = 4 ∧ !w.testBit 0 ∧ cut w 4 4 = 0) then
    let s := s.consM fun c => { c with req := s.now, digesting := true, physDone := false }
    s.consGo (if s.consLocked then 5 else 2)
  else s.consRefuse

/-- R446: the header B. -/
def State.commitHeader (s : State) : List Nat :=
  bytesLE 4 0x49444353 ++ bytesLE 4 s.consSet ++ bytesLE 8 Config.devid.toNat ++ bytesLE 8 (s.consCounter + 1) ++
    bytesLE 4 (setRegs s.consSet).length ++ bytesLE 4 0

/-- R441, R446: the digest becomes readable, once no SEC command runs; one that waited starts. -/
def State.consDigest (s : State) : State :=
  if s.consent.digesting && s.sec.run.isNone then
    let s := s.wrAll (wordsTo (Reg.CONSENT_DIGEST 0) (sha512 (s.commitHeader ++ wordBytes s.staged)))
    (s.consM fun c => { c with digesting := false }).secNext
  else s

/-- R444, R449: WINDOW has expired: TIMEOUT and IDLE. -/
def State.consTimeout (s : State) : State :=
  (((s.consGo 0).raise Ev.CONSENT_FLAGS_TIMEOUT).consM fun c => { c with digesting := false, physDone := false }).secNext

/-- R444, R447, R449: APPROVE with a key. -/
def State.consApprove (s : State) (key : Nat) : State :=
  if s.consState = 2 ∧ !s.consLocked ∧ (cut (s.rdN (Reg.CONSENT_LIVE 4 0)) 4 4).testBit key then
    if s.consWindowEnd ≤ s.now then s.consTimeout.consRefuse
    else (s.consGo 3).consM fun c => { c with key := key, sig := s.regBytes (Reg.CONSENT_SIG 0) 16 }
  else s.consRefuse

/-- R445: REJCNT is shown and durable. -/
def State.rejSet (s : State) (n : Nat) : State := (s.put Fd.CONSENT_STATUS_REJCNT n).blockWrite rejcntAddr 8 n

/-- R444, R445, R448: the commit is approved: the prepared record is written, REJCNT returns to 0. -/
def State.consApproved (s : State) : State :=
  ((s.recWrite s.consSet (s.consCounter + 1) s.staged).rejSet 0).consGo 4

/-- R444, R445, R448, R449: the verdict of the check, once its MRAM writes can be taken. -/
def State.consVerdict (s : State) : State :=
  if s.consState = 3 ∧ s.sec.run.isNone ∧ !s.consent.digesting ∧ s.blockFree then
    let pub := s.regBytes (Reg.CONSENT_LIVE 4 (1 + 8 * s.consent.key)) 8
    if edVerify pub s.consent.sig (s.regBytes (Reg.CONSENT_DIGEST 0) 16) then s.consApproved
    else
      let n := min 15 (s.get Fd.CONSENT_STATUS_REJCNT + 1)
      let s := (s.rejSet n).raise Ev.CONSENT_FLAGS_REJECT
      if s.consent.physDone then s.consApproved
      else if 8 ≤ n then
        ((s.consM fun c => { c with lockEnd := some (s.now + 60 * tSec) }).consGo 5).raise Ev.CONSENT_FLAGS_LOCKOUT
      else s.consGo 2
  else s

/-- R441, R444: the check ends; a SEC command that waited starts. -/
def State.consCheck (s : State) : State := s.consVerdict.secNext

/-- R447: CONSENT_N fell after the REQUEST, passed its glitch filter of 10 ms, and has been held low for HOLD s within
WINDOW: no sooner than both after the REQUEST. -/
def State.consPhysical (s : State) : State :=
  let w := s.rdN (Reg.CONSENT_LIVE 4 0)
  let t := max s.now (s.consent.req + 10 * tMs + cut w 8 8 * tSec)
  if s.consLocked then s.consRefuse
  else if w.testBit 0 && (s.consState == 2 && s.blockFree || s.consState == 3) && decide (t ≤ s.consWindowEnd) then
    let s := s.reachNow t
    if s.consState = 2 then s.consApproved else s.consM fun c => { c with physDone := true }
  else s

/-- R444: WINDOW expires before approval. -/
def State.consWindow (s : State) : State :=
  if s.consState = 2 ∨ s.consState = 5 then (s.reachNow s.consWindowEnd).consTimeout else s

/-- R445: the lock time ends. -/
def State.consLockEnd (s : State) : State :=
  match s.consent.lockEnd with
  | none => s
  | some t =>
    let s := (s.reachNow t).consM fun c => { c with lockEnd := none }
    if s.consState = 5 then s.consGo 2 else s

/-- R32: a switch-over is held: outside continuous operation, CONTRET still running, or a stage picked up and not latched. -/
def State.consHeld (s : State) : Bool :=
  s.get Fd.PROT_STATUS_REGION != 0 || s.on Fd.PROT_STATUS_RTOUT || s.on Fd.PROT_STATUS_TIMING

/-- R336, R448: the image, for SAFE with the CRC of its record, replaces the live set under commit counter `n`, with what the set's block then does. -/
def State.consApply (s : State) (set : Nat) (img : List Nat) (n : Nat) : State :=
  let t := s.liveWrite set img
  match set with
  | 0 => t.protSwitch ((List.finRange 4).filter fun (g : Fin 4) =>
      (List.range 3).any fun k => s.liveAt (Reg.SEQ_GP_CFG g + 4 * k) != t.liveAt (Reg.SEQ_GP_CFG g + 4 * k))
  | 1 => let u := s.probeSettle; (u.liveWrite set img).probeSwitch u
  | 2 => s.safeDeliver t ([false, true].any fun b => s.recCounter 2 b == n && s.recValid 2 b)
  | 3 => t.meterSwitch (fun i => s.mpInput (i / 7) (i % 7)) n
  | _ => t

/-- R244, R296, R448: the distance of a set's boundaries in counts: updates of the grid point of the sequencer or of PROBE, or
metering sample instants. -/
def State.boundaryStep (s : State) (set : Nat) : Nat :=
  match set with
  | 0 => max 800000 (s.gpStep s.rtGp.val)
  | 1 => max 800000 (s.gpStep (s.get Fd.PROBE_CFG_GP))
  | _ => 500000

/-- R32, R449: the present PWM cycle is the first at or after a boundary at which nothing holds the switch-over. -/
def State.atBoundary (s : State) : Bool := s.pwmClk && s.tbl.count % s.boundaryStep s.consSet < 40 && !s.consHeld

/-- R444, R449: CANCEL; refused in the cycle of a boundary at which the switch-over takes place. -/
def State.consCancel (s : State) : State :=
  let st := s.consState
  if (st = 1 ∨ st = 2 ∨ (st = 4 ∧ !s.atBoundary) ∨ st = 5) ∧ s.consent.counter.isNone then
    ((((s.consGo 0).put Fd.CONSENT_STATUS_HELD 0).raise Ev.CONSENT_FLAGS_CANCELLED).consM fun c => { c with digesting := false, physDone := false }).secNext
  else s.consRefuse

/-- R32, R448: the set's boundary: held, or the approved image replaces the live set and the counter is written. -/
def State.consSwitch (s : State) : State :=
  if s.consState = 4 ∧ s.consent.counter.isNone ∧ !s.pmu.warned ∧ s.pwmClk ∧ s.blockIdle then
    let set := s.consSet
    let step := s.boundaryStep set
    let s := s.reachCount ((s.tbl.count + step - 1) / step * step)
    if s.consHeld then s.put Fd.CONSENT_STATUS_HELD 1
    else
      let n := s.consCounter + 1
      let s := (s.put Fd.CONSENT_STATUS_HELD 0).consApply set s.staged n
      (s.blockWrite counterAddr 8 n).consM fun c => { c with counter := some n }
  else s

/-- R448: the counter write is durable. -/
def State.consDurable (s : State) : State :=
  match s.consent.counter with
  | none => s
  | some n =>
    if !s.blockIdle then s else
    let s := (s.wrN Reg.CONSENT_CTR_LO n).wrN Reg.CONSENT_CTR_HI (n / 2 ^ 32)
    let s := (s.wrN (Reg.CONSENT_SETCTR s.consSet) n).raise Ev.CONSENT_FLAGS_SWITCHED
    (s.consGo 0).consM fun c => { c with counter := none, physDone := false }

/-- R33, R450: at the power-fail warning a commit before its switch is lost. -/
def State.consWarning (s : State) : State :=
  if s.consent.counter.isSome then s
  else ((s.consGo 0).put Fd.CONSENT_STATUS_HELD 0).consM fun c => { c with digesting := false, physDone := false }

/-- R443: the restore of one set; the safety set's words come from SAFE's own array (R336). -/
def State.consRestoreSet (s : State) (set : Nat) : State :=
  match s.recChosen set with
  | some b =>
    let s := s.wrN (Reg.CONSENT_SETCTR set) (s.recCounter set b)
    if set = 2 then s else s.liveWrite set (s.recImage set b)
  | none =>
    let bad (b : Bool) : Bool := s.recWritten set b && !s.recValid set b
    let fine (b : Bool) : Bool := s.recValid set b
    s.raiseIf ((bad false || bad true) && !fine false && !fine true) Ev.CONSENT_FLAGS_RESTOREERR

/-- R319, R443, R445: the start of the restore at reset: RESTORING, METER's too, the counters, REJCNT with its lock time. -/
def State.consReset (s : State) : State :=
  let s := (s.put Fd.CONSENT_STATUS_RESTORING 1).put Fd.METER_STATUS_RESTORING 1
  let n := min 15 (s.memRd rejcntAddr 8)
  let s := s.put Fd.CONSENT_STATUS_REJCNT n
  if 8 ≤ n then s.consM fun c => { c with lockEnd := some (s.now + 60 * tSec) } else s

/-- R257, R292, R443, R465: the live sets are restored and their blocks check them, latched stages drive their outputs
again; METER then takes its part, and RESTORING falls. -/
def State.consRestore (s : State) : State :=
  if s.on Fd.CONSENT_STATUS_RESTORING then
    let g := s.globalCounter
    let s := ((List.range 5).foldl State.consRestoreSet s).gpCheck.tripUpdate
    let s := if (s.recChosen 1).isSome then s.probeTake else s
    let s := (s.wrN Reg.CONSENT_CTR_LO g).wrN Reg.CONSENT_CTR_HI (g / 2 ^ 32)
    let s := s.put Fd.CONSENT_STATUS_RESTORING 0
    let s := s.meterRestore (s.pmu.csb.map fun k =>
      let a := 0x08F00000 + 0x2000 * k
      (a + 0x40, s.memRd (a + 8) 8))
    s.put Fd.PMU_STATUS_RESTORING 0
  else s

/-- R453: CONSENT_WINREM and CONSENT_LOCKREM. -/
def State.winRem (s : State) : Nat :=
  if s.consState = 2 ∨ s.consState = 3 ∨ s.consState = 5 then (s.consWindowEnd - s.now + tSec - 1) / tSec else 0

/-- R453: the seconds left in the lock time. -/
def State.lockRem (s : State) : Nat :=
  match s.consent.lockEnd with
  | some t => (t - s.now + tSec - 1) / tSec
  | none => 0

/-- R453: a write of CONSENT_CMD. -/
def State.consCmd (s : State) (v : Word) : State :=
  let s := if v.getLsbD 0 then s.consOpen (cut v.toNat 8 3) else s
  let s := if v.getLsbD 1 then s.consRequest else s
  let s := if v.getLsbD 2 then s.consApprove (cut v.toNat 12 2) else s
  if v.getLsbD 3 then s.consCancel else s

/-! ### The meanings -/

/-- R444. -/
def execConsentOpen (set : BitVec 3) (s : State) : Result := .next (s.consOpen set.toNat)
/-- R446. -/
def execConsentStagingWrite (i : BitVec 10) (v : Word) (s : State) : Result := .next (s.consStage i.toNat v)
/-- R446. -/
def execConsentRequest (s : State) : Result := .next s.consRequest
/-- R446. -/
def execConsentDigestDone (s : State) : Result := .next s.consDigest
/-- R447. -/
def execConsentApprove (k : Fin 4) (s : State) : Result := .next (s.consApprove k.val)
/-- R444. -/
def execConsentCheckDone (s : State) : Result := .next s.consCheck
/-- R444. -/
def execConsentCancel (s : State) : Result := .next s.consCancel
/-- R447. -/
def execPhysicalConsent (s : State) : Result := .next s.consPhysical
/-- R444. -/
def execConsentWindowTimeout (s : State) : Result := .next s.consWindow
/-- R445. -/
def execConsentLockEnd (s : State) : Result := .next s.consLockEnd
/-- R448. -/
def execConsentSwitchover (s : State) : Result := .next s.consSwitch
/-- R448. -/
def execConsentCounterDurable (s : State) : Result := .next s.consDurable
/-- R443. -/
def execConsentRestoreDone (s : State) : Result := .next s.consRestore

end Sys2Proof.Machine
end

