-- ==== Sys2Proof/Machine/Lane.lean ====
section
/-! DEFINITION. LINK: what the lanes carry: scrambling (R392), stuffing (R393), the half-cells (R391), the margin scan
(R390) and the PRBS generators (R412). -/
namespace Sys2Proof.Machine

/-! ### Scrambling (R392) -/

/-- R392: the seed of a lane. -/
def laneSeed (lane : Fin 2) : Nat := if lane = 0 then 0x5A5A5A else 0x2D2D2D

/-- R392: the scrambler's output p, of x^23 + x^18 + 1. -/
def scrambleOut (r : Nat) : Bool := r.testBit 22 != r.testBit 17

/-- R392: one bit step of the 23-bit register. -/
def scrambleStep (r : Nat) : Nat := r * 2 % 2 ^ 23 + (scrambleOut r).toNat

/-- R392: a half-cell scrambled, or descrambled, from a register on. -/
def scramble : Nat → List Bool → List Bool
  | _, [] => []
  | r, b :: t => (b != scrambleOut r) :: scramble (scrambleStep r) t

/-! ### Stuffing (R393) -/

/-- R393: a lane has carried one more bit. -/
def LineRun.push (r : LineRun) (b : Bool) : LineRun := if r.n ≠ 0 ∧ b = r.bit then { r with n := r.n + 1 } else ⟨b, 1⟩

/-- R393: after 30 identical bits one of the opposite value is inserted; the bits on the line, and the run at their end. -/
def stuff : LineRun → List Bool → List Bool × LineRun
  | r, [] => ([], r)
  | r, b :: t =>
    if (r.push b).n = 30 then
      let q := stuff ⟨!b, 1⟩ t
      (b :: (!b) :: q.1, q.2)
    else
      let q := stuff (r.push b) t
      (b :: q.1, q.2)

/-- R393: the bit after every run of 30 is removed; none where it equals the run, a stuffing violation. -/
def destuff : LineRun → List Bool → Option (List Bool × LineRun)
  | r, [] => some ([], r)
  | r, b :: t =>
    if r.n = 30 then (if b = r.bit then none else destuff ⟨b, 1⟩ t)
    else (destuff (r.push b) t).map fun q => (b :: q.1, q.2)

/-! ### Half-cells (R391) -/

/-- The low `n` bits of a number, most significant bit first. -/
def bitsOf (v : Nat) : Nat → List Bool
  | 0 => []
  | n + 1 => v.testBit n :: bitsOf v n

/-- The number that bits spell, most significant bit first, after what came before. -/
def bitsValue (v : Nat) : List Bool → Nat
  | [] => v
  | b :: t => bitsValue (2 * v + b.toNat) t

/-- R391: the half-cell of a lane: cell bits [255:128] on lane 0, [127:0] on lane 1. -/
def halfCell (c : BitVec 256) (lane : Fin 2) : List Bool := bitsOf (if lane = 0 then c.toNat / 2 ^ 128 else c.toNat) 128

/-- R391–R393: the bits that a cell puts on a lane, and the run at their end. -/
def laneSend (c : BitVec 256) (lane : Fin 2) (r : LineRun) : List Bool × LineRun :=
  stuff r (scramble (laneSeed lane) (halfCell c lane))

/-- R391–R393: a cell goes onto both lanes. -/
def LinkPort.lineSend (p : LinkPort) (c : BitVec 256) : LinkPort :=
  let a := laneSend c 0 p.txRun[0]
  let b := laneSend c 1 p.txRun[1]
  { p with line := ⟨p.line.lane0 ++ a.1, p.line.lane1 ++ b.1⟩, txRun := #v[a.2, b.2] }

/-- R393: whether a lane has a stuffing violation in a cell slot. -/
def LinkPort.stuffBad (p : LinkPort) (x : LaneBits) : Bool :=
  (destuff p.rxRun[0] x.lane0).isNone || (destuff p.rxRun[1] x.lane1).isNone

/-- R391–R393: the half-cells that a lane holds once it has brought its bits of a slot, destuffed and descrambled, at most two; and
its run. None at a stuffing violation. -/
def LinkPort.halves (p : LinkPort) (lane : Fin 2) (bits : List Bool) : Option (List (List Bool) × LineRun) :=
  (destuff p.rxRun[lane] bits).map fun d =>
    (if d.1.length = 128 then (p.rxHalf[lane] ++ [scramble (laneSeed lane) d.1]).take 2 else p.rxHalf[lane], d.2)

/-- R391: the cell that two half-cells make. -/
def pairCell (a b : List Bool) : BitVec 256 := BitVec.ofNat 256 (bitsValue (bitsValue 0 a) b)

/-- R391–R393: the cell that the lanes bring with a slot, the half-cells paired in order; none while a lane has none. -/
def LinkPort.lineCell (p : LinkPort) (x : LaneBits) : Option (BitVec 256) :=
  match p.halves 0 x.lane0, p.halves 1 x.lane1 with
  | some (a :: _, _), some (b :: _, _) => some (pairCell a b)
  | _, _ => none

/-- R391, R393: the receiver has taken the bits of a slot, and the cell that they complete. -/
def LinkPort.lineTake (p : LinkPort) (x : LaneBits) : LinkPort :=
  match p.halves 0 x.lane0, p.halves 1 x.lane1 with
  | some (a, r), some (b, q) =>
    let both := !a.isEmpty && !b.isEmpty
    { p with rxRun := #v[r, q], rxHalf := if both then #v[a.tail, b.tail] else #v[a, b] }
  | _, _ => p

/-! ### The margin scan (R390) -/

/-- The longest run of steps without error among the first `n`: its length, its first step, and the run at the end. -/
def eyeRun (e : BitVec 64) : Nat → Nat × Nat × Nat
  | 0 => (0, 0, 0)
  | n + 1 =>
    let (w, a, k) := eyeRun e n
    if e.getLsbD n then (w, a, 0) else if w < k + 1 then (k + 1, n - k, k + 1) else (w, a, k + 1)

/-- R390: the eye width of a setting and the step at the centre of its longest run (DESIGN CHOICE, log entry 57). -/
def eyeOf (e : BitVec 64) : Nat × Nat :=
  let (w, a, _) := eyeRun e 64
  (w, a + w / 2)

/-- R390: the setting kept of those below `n`: the widest eye, the lowest on a tie. -/
def bestEq (x : LaneScan) : Nat → Nat
  | 0 => 0
  | n + 1 =>
    let k := bestEq x n
    if (eyeOf (x.errors.getD k 0)).1 < (eyeOf (x.errors.getD n 0)).1 then n else k

/-- R390: the result of a lane's scan, with the setting that MANUAL fixes: setting, width, phase. -/
def scanResult (x : LaneScan) (manual : Option Nat) : Nat × Nat × Nat :=
  let k := manual.getD (bestEq x 16)
  (k, eyeOf (x.errors.getD k 0))

/-! ### PRBS (R412) -/

/-- R412: the exponents of a pattern: PRBS7, 15, 23, 31. -/
def prbsTaps (pat : Nat) : Nat × Nat := match pat with | 0 => (7, 6) | 1 => (15, 14) | 2 => (23, 18) | _ => (31, 28)

/-- R412: the next bit of a pattern, from the bits before it, the newest in bit 0. -/
def prbsBit (pat : Nat) (r : BitVec 31) : Bool := r.getLsbD ((prbsTaps pat).1 - 1) != r.getLsbD ((prbsTaps pat).2 - 1)

/-- R412: a generator steps by one bit. -/
def prbsStep (pat : Nat) (r : BitVec 31) : BitVec 31 := BitVec.ofNat 31 (r.toNat * 2 + (prbsBit pat r).toNat)

end Sys2Proof.Machine
end

