-- ==== Sys2Proof/Machine/PllRef.lean ====
section
/-! DEFINITION. PLL: what the presence of a reference does (R67); the links need it for a follower's upstream clock. -/
namespace Sys2Proof.Machine

/-- Replaces PLL's hidden state. -/
def State.pllM (s : State) (f : Pll → Pll) : State := { s with pll := f s.pll }

/-- R64: PLL_CTRL.SYNCREF selects the forwarded clock of the link named in TBL_CTRL.LINKSEL, and not REFCLK. -/
def State.syncByLink (s : State) : Bool := s.get Fd.PLL_CTRL_SYNCREF == 1

/-- R64: the divider of a forwarded clock, by the link's RATE (2.5, 5, 10 Gbit/s): a quarter of the line rate over it is
25 MHz. -/
def forwardDiv (rate : Nat) : Nat := if rate = 0 then 25 else if rate = 1 then 50 else 100

/-- R64: the divider that the sync PLL's reference passes. -/
def State.refDiv (s : State) : Nat :=
  if s.syncByLink then forwardDiv (s.get (Fd.LINK_L_CTRL_RATE (s.get Fd.TBL_CTRL_LINKSEL))) else 1

/-- R64: the sync PLL takes the forwarded clock of link `l` as its reference, since its last relock. -/
def State.syncFrom (s : State) (l : Nat) : Bool := s.pll.syncRefInUse == 1 && s.pll.syncLink == l

/-- R64, R65: the reference that a relock of the sync PLL turns to is absent: that in use while SYNCREF and LINKSEL name it, else
REFCLK, or a forwarded clock that does not arrive. -/
def State.syncRefAbsent (s : State) : Bool :=
  if s.syncByLink && s.syncFrom (s.get Fd.TBL_CTRL_LINKSEL) || !s.syncByLink && s.pll.syncRefInUse == 0 then s.pll.syncRefLost
  else if s.syncByLink then !s.on (Fd.LINK_L_STATUS_CLKOK (s.get Fd.TBL_CTRL_LINKSEL))
  else s.pll.sysRefLost

/-- R72, R65: the source of an output with the settings `w` runs: a VCO's outputs are gated low until its PLL's divider
release, and PMU gates every clock at the end of a save (R75). -/
def State.ckoutRuns (s : State) (w : Nat) : Bool :=
  !s.pmu.clocksOff &&
    match cut w 12 2 with
    | 0 => s.on Fd.PLL_STATUS_SYNCLOCK | 1 => s.on Fd.PLL_STATUS_SYSLOCK | 2 => true | _ => false

/-- R81: PLL_CKOUTSTAT.ACTIVE shows the outputs that run. -/
def State.ckoutShow (s : State) : State :=
  s.put Fd.PLL_CKOUTSTAT_ACTIVE (((List.finRange 8).map fun (n : Fin 8) =>
    if s.pll.ckoutPass.getLsbD n.val && s.ckoutRuns s.pll.ckout[n].toNat then 2 ^ n.val else 0).sum)

/-- R67: no reference edge for 160 ns: REFLOSS, and a locked PLL enters holdover. -/
def State.referenceLoss (s : State) (pll : PllSel) : State :=
  match pll with
  | .sys =>
    let s := (s.raise Ev.PLL_FLAGS_REFLOSS).pllM fun p => { p with sysRefLost := true }
    if s.on Fd.PLL_STATUS_SYSLOCK then s.put Fd.PLL_STATUS_SYSHOLD 1 else s
  | .sync =>
    let s := (s.raise Ev.PLL_FLAGS_REFLOSS).pllM fun p => { p with syncRefLost := true }
    if s.on Fd.PLL_STATUS_SYNCLOCK then s.put Fd.PLL_STATUS_SYNCHOLD 1 else s

/-- R67: the reference returns and holdover ends; the sync phase is no longer known to be deterministic. -/
def State.referenceReturn (s : State) (pll : PllSel) : State :=
  match pll with
  | .sys => (s.put Fd.PLL_STATUS_SYSHOLD 0).pllM fun p =>
      { p with sysRefLost := false, sysSince := if p.sysRefLost then s.now else p.sysSince }
  | .sync =>
    let held := s.on Fd.PLL_STATUS_SYNCHOLD
    let s := (s.put Fd.PLL_STATUS_SYNCHOLD 0).pllM fun p =>
      { p with syncRefLost := false, syncSince := if p.syncRefLost then s.now else p.syncSince }
    if held then s.put Fd.PLL_STATUS_PHASEDET 0 else s

end Sys2Proof.Machine
end

