-- ==== Sys2Proof/Machine/Link.lean ====
section
/-! DEFINITION. LINK: the coding of cells, transmission and replay, training, link loss, remote accesses on their way
out, test modes (R386–R417). What an arriving cell does stands in Cells. -/
namespace Sys2Proof.Machine

/-- STATE of a link: 0 down, 1 training, 2 up, 3 test. -/
def State.linkState (s : State) (l : Fin 4) : Nat := s.get (Fd.LINK_L_STATUS_STATE l)

/-! ### Sending cells -/

/-- R394, R395: the 256 bits of a cell with its SEQ and the acknowledgement fields of the moment. -/
def encodeCell (p : LinkPort) (seq : Nat) (nak : Bool) (c : TxCell) : BitVec 256 :=
  let ack := (p.expect + 255) % 256
  let ctl := (if p.accepted then ack * 2 ^ 24 + 2 ^ 23 else 0) + nak.toNat * 2 ^ 22 + c.cred % 16 * 2 ^ 18 +
    c.len % 256 * 2 ^ 8 + c.sub % 256
  let top := c.typ % 16 * 2 ^ 236 + seq % 256 * 2 ^ 228 + ctl * 2 ^ 192 + c.body % 2 ^ 192
  BitVec.ofNat 256 (top * 2 ^ 16 + crc16 top 240)

/-- A cell leaves, with the acknowledgement and a NAK that is due: it is recorded as sent, and goes onto the lanes. -/
def LinkPort.emit (p : LinkPort) (seq : Nat) (c : TxCell) : LinkPort :=
  let x := encodeCell p seq p.nakDue c
  { p with sent := p.sent ++ [x], nakDue := false, ackDue := false }.lineSend x

/-- The credits that the next cell returns. -/
def LinkPort.takeCred (p : LinkPort) (c : TxCell) : TxCell × LinkPort :=
  ({ c with cred := min 15 p.credRet }, { p with credRet := p.credRet - min 15 p.credRet })

/-- R399, R400: a new sequenced cell takes the next SEQ and a place in the replay buffer. -/
def LinkPort.sendSeq (p : LinkPort) (now : Nat) (c : TxCell) : LinkPort :=
  let (c, p) := p.takeCred c
  let p := p.emit p.seq c
  { p with
    replay := p.replay ++ [(p.seq, { c with at_ := now })]
    seq := (p.seq + 1) % 256 }

/-- An unsequenced cell. -/
def LinkPort.sendUnseq (p : LinkPort) (c : TxCell) : LinkPort :=
  let (c, p) := p.takeCred c
  p.emit 0 c

/-- R400: the waiting cells in their order of priority: events, responses, streams. -/
def LinkPort.pumpOne (p : LinkPort) (now : Nat) : LinkPort :=
  if 48 ≤ p.replay.length then p
  else
    match p.evOut, p.respOut, p.strOut with
    | (c, t) :: r, _, _ => { p with evOut := r }.sendSeq now { typ := 5, sub := c, len := 64, body := t * 2 ^ 160 }
    | [], c :: r, _ => { p with respOut := r }.sendSeq now c
    | [], [], c :: r => { p with strOut := r }.sendSeq now c
    | [], [], [] => p

/-- R391: the waiting cells leave as far as the replay buffer has room; an IDLE cell carries what is due alone. -/
def LinkPort.pump (p : LinkPort) (now : Nat) : LinkPort :=
  let n := p.evOut.length + p.respOut.length + p.strOut.length
  let p := (List.range n).foldl (fun p _ => p.pumpOne now) p
  if p.nakDue || p.ackDue || p.credRet != 0 then p.sendUnseq { typ := 0, sub := 0, len := 32, body := 0 } else p

/-- STATUS.RPLFILL shows the replay buffer. -/
def State.linkShow (s : State) (l : Fin 4) : State := s.put (Fd.LINK_L_STATUS_RPLFILL l) (s.port l).replay.length

/-- R389, R391: cells run: the link is up, or its training has reached the exchange of cells. -/
def State.linkCells (s : State) (l : Fin 4) : Bool := s.linkState l == 2 || (s.linkState l == 1 && (s.port l).ready)

/-- R391, R411: a link whose cells run and which is not looped back for its far end sends what waits. -/
def State.linkPump (s : State) (l : Fin 4) : State :=
  if s.linkCells l ∧ (s.port l).loop ≠ 3 then (s.portM l fun p => p.pump s.now).linkShow l else s

/-- A new command of the link: what was sent before is no longer shown. -/
def State.linkFresh (s : State) (l : Fin 4) : State := s.portM l fun p => { p with sent := [], line := ⟨[], []⟩ }

/-! ### Remote accesses (R19, R20, R401, R402) -/

/-- R19: the far local address of a remote-window address, none beyond the end of the remote region; with its link. -/
def farAddr (a : Nat) : Option Nat :=
  let o := a % 0x10000000
  let seg := o / 0x4000000
  let x := o % 0x4000000
  match seg with
  | 0 => if x < 0x1000000 then some (0x08000000 + x) else none
  | 1 => if x < 0x400000 then some (0x20000000 + x) else none
  | 2 => if x < 0x100000 then some (0x24000000 + x) else none
  | _ => if x < 0x150000 then some (0x40000000 + x) else none

/-- The link of a remote-window address. -/
def windowLink (a : Nat) : Fin 4 := Fin.ofNat 4 (a / 0x10000000)

/-- Whether an address lies in a remote window. -/
def isRemote (a : Nat) : Bool := 0x80000000 ≤ a && a < 0xC0000000

/-! ### The order of service (R22, R381) -/

/-- R22: how far a row is from the one last served with a shared tag, in round-robin order. -/
def turn (last row : Nat) : Nat := (row + 15 - last) % 16

/-- R22, R381: a shared tag has been given to a row, the DMA engine's to a channel. -/
def State.served (s : State) (row : Nat) (ch : Option Nat) : State :=
  s.xbarM fun x => { x with last := if rowReserved row then x.last else row, dmaLast := ch.getD x.dmaLast }

/-- R22, R381: the place of a waiting access in the order of service: its row in round-robin order, and of the DMA engine's
channels the highest PRI, equal ones in round-robin order. -/
def State.grantKey (s : State) (row : Nat) (ch : Option Nat) : Nat :=
  turn s.xbar.last row * 1024 +
    match ch with
    | some c => (15 - s.get (Fd.DMA_CH_CFG_PRI c)) * 64 + (c + 31 - s.xbar.dmaLast) % 32
    | none => 0

/-- The DMA channel of a master. -/
def masterChannel : Master → Option Nat
  | .dma c => some c.val
  | _ => none

/-- The DMA channel of a requester. -/
def Requester.channel : Requester → Option Nat
  | .dma c => some c.val
  | _ => none

/-- R383: no beat and no fetch issues: a selected debug halt with DBGSTOP = 1, or the power-fail warning. -/
def State.dmaPaused (s : State) : Bool := (s.on Fd.DMA_CTRL_DBGSTOP && s.selHalted) || s.pmu.warned

/-- Replaces the first access equal to `o`. -/
def replaceOp (o n : RemoteOp) : List RemoteOp → List RemoteOp
  | [] => []
  | x :: t => if x = o then n :: t else x :: replaceOp o n t

/-- R22: the place in the order of service of the transaction served next of those that wait at the crossbar. -/
def State.waitingKey (s : State) : Option Nat :=
  s.xbar.stalled.foldl (fun (b : Option Nat) (w : Master × Access) =>
    if s.tagFree (masterRow w.1) then
      let k := s.grantKey (masterRow w.1) (masterChannel w.1)
      some (match b with | some j => min j k | none => k)
    else b) none

/-- R22, R377, R381, R383: the remote access served next of those that stall for a tag: the oldest of the first in turn that may
take one, unless a transaction that waits at the crossbar comes before it. -/
def State.nextStalled (s : State) : Option (Fin 4 × RemoteOp × Nat) :=
  let ready (o : RemoteOp) : Bool := o.stage == .stalled && decide (o.since ≤ s.now) && !(o.who.channel.isSome && s.dmaPaused)
  let all := (List.finRange 4).flatMap fun (l : Fin 4) => (s.port l).ops.filterMap fun o =>
    if ready o then o.who.row.map fun r => (l, o, r) else none
  let key (w : Fin 4 × RemoteOp × Nat) : Nat := s.grantKey w.2.2 w.2.1.who.channel
  let best := all.foldl (fun (b : Option (Fin 4 × RemoteOp × Nat)) (w : Fin 4 × RemoteOp × Nat) =>
    if !s.tagFree w.2.2 then b
    else
      match b with
      | some v => if key w < key v then some w else some v
      | none => some w) none
  best.filter fun w => (s.waitingKey.map fun k => decide (key w ≤ k)).getD true

/-- R401, R410: what becomes of a remote access that has its tag: it waits in the link, or fails at once while the link is
not up. -/
def State.remoteStage (s : State) (l : Fin 4) : RemoteStage := if s.linkState l = 2 then .queued else .done false 0

/-- R21, R22: up to `k` remote accesses that stall take the tags that are free. -/
def State.remoteGrant : Nat → State → State
  | 0, s => s
  | k + 1, s =>
    match s.nextStalled with
    | none => s
    | some (l, o, r) =>
      (s.portM l fun p => { p with ops := replaceOp o { o with stage := s.remoteStage l } p.ops }).served r o.who.channel |>.remoteGrant k

/-- The remote accesses that stall for a tag. -/
def State.stalledOps (s : State) : Nat :=
  ((List.finRange 4).map fun l => (s.port l).ops.countP fun o => o.stage == .stalled).sum

/-- R21, R401, R410: an access to a remote window is issued: with a tag it waits in the link, or fails at once while the
link is not up; without one its master stalls. -/
def State.remoteIssue (s : State) (who : Requester) (a size : Nat) (data : Option Nat) : State :=
  let l := windowLink a
  match farAddr a with
  | none => s.portM l fun p => { p with ops := p.ops ++ [⟨who, a, size, data, .done false 0, 0⟩] }
  | some f =>
    match who.row with
    | none => s.portM l fun p => { p with ops := p.ops ++ [⟨who, f, size, data, s.remoteStage l, 0⟩] }
    | some r =>
      let s := s.remoteGrant s.stalledOps
      let behind := (List.finRange 4).any fun k => (s.port k).ops.any fun o => o.stage == .stalled && o.who.row == some r
      if s.tagFree r && !behind then
        (s.portM l fun p => { p with ops := p.ops ++ [⟨who, f, size, data, s.remoteStage l, 0⟩] }).served r who.channel
      else s.portM l fun p => { p with ops := p.ops ++ [⟨who, f, size, data, .stalled, 0⟩] }

/-- R377: an access to a remote window that may be issued from `since` on. -/
def State.remoteLater (s : State) (who : Requester) (a size since : Nat) (data : Option Nat) : State :=
  let l := windowLink a
  s.portM l fun p => { p with ops := p.ops ++ [match farAddr a with
    | none => ⟨who, a, size, data, .done false 0, 0⟩
    | some f => ⟨who, f, size, data, .stalled, since⟩] }

/-- The oldest access of a requester on one link, if it is complete: whether it succeeded and what it read. -/
def LinkPort.result (p : LinkPort) (who : Requester) : Option (RemoteOp × Bool × Nat) :=
  match p.ops.find? (fun o => o.who == who) with
  | some o => match o.stage with
    | .done ok d => some (o, ok, d)
    | _ => none
  | none => none

/-- The oldest access of a requester on a link is taken once it is complete. -/
def State.remoteTake (s : State) (l : Fin 4) (who : Requester) : Option ((Bool × Nat) × State) :=
  match (s.port l).result who with
  | some (o, r) => some (r, s.portM l fun p => { p with ops := p.ops.erase o })
  | none => none

/-- Whether a requester still waits for an access on some link. -/
def State.remoteBusy (s : State) (who : Requester) : Bool :=
  (List.finRange 4).any fun l => (s.port l).ops.any fun o =>
    o.who == who && (match o.stage with | .done _ _ => false | _ => true)

/-- The lowest read tag that no access holds (R396). -/
def LinkPort.freeTag (p : LinkPort) : Option Nat :=
  (List.range 64).find? fun t => !p.ops.any fun o => o.stage == .sent t && o.data.isNone

/-- R401: the request cell of an access: RDREQ with its tag, or WR. -/
def reqCell (o : RemoteOp) (tag : Nat) : TxCell :=
  let head := o.far % 2 ^ 32 * 2 ^ 160 + o.size * 2 ^ 152
  match o.data with
  | none => { typ := 1, sub := tag, len := 72, body := head }
  | some d => { typ := 3, sub := 0, len := 224, body := head + d % 2 ^ 128 }

/-- R400, R401: the oldest waiting access leaves if a request credit, a place in the replay buffer and, for a read, a tag
are free, and no cell of a higher priority waits. -/
def State.remoteSend (s : State) (l : Fin 4) : State :=
  let s := ((s.remoteGrant s.stalledOps).linkFresh l).linkPump l
  let p := s.port l
  let cred := s.get (Fd.LINK_L_STATUS_CRED l)
  match p.ops.find? (fun o => o.stage == .queued), p.freeTag with
  | some o, some tag =>
    if s.linkState l = 2 ∧ p.loop ≠ 3 ∧ 0 < cred ∧ p.replay.length < 48 then
      let s := s.portM l fun p => { p with ops := replaceOp o { o with stage := .sent tag } p.ops }.sendSeq s.now (reqCell o tag)
      (s.put (Fd.LINK_L_STATUS_CRED l) (cred - 1)).linkShow l
    else s
  | _, _ => s

/-! ### Link loss (R410) -/

/-- R410: what a link loses: the replay buffer, the queues, the credits, the forwards; remote accesses fail. -/
def LinkPort.lost (p : LinkPort) : LinkPort :=
  { p with
    expect := 0, accepted := false, bad := 0, nakDue := false, nakAt := none, ackDue := false
    seq := 0, replay := [], rounds := 0, evOut := [], respOut := [], strOut := [], credRet := 0
    upper := none, lower := none, marks := 0, markMax := 0, ready := false
    reqIn := [], strIn := [], txRun := Vector.replicate 2 {}, rxRun := Vector.replicate 2 {}, rxHalf := Vector.replicate 2 []
    ops := p.ops.map fun o => match o.stage with | .done _ _ => o | _ => { o with stage := .done false 0 } }

/-- Forwarded events that a loss discards: waiting, or sent and not acknowledged. -/
def LinkPort.lostEvents (p : LinkPort) : Nat := p.evOut.length + p.replay.countP fun e => e.2.typ == 5

/-- R410: the requests of a link's far device that the crossbar holds. -/
def State.linkRequests (s : State) (l : Fin 4) : Nat :=
  let mine (m : Master) : Bool := match m with | .link k _ => k == l | _ => false
  s.xbar.tags.toList.countP (fun t => match t with | some t => mine t.m | none => false) +
    s.xbar.stalled.countP fun x => mine x.1

/-- A link falls to DOWN without being counted as a loss. -/
def State.linkOff (s : State) (l : Fin 4) : State :=
  let n := s.linkRequests l
  let s := (s.portM l fun p => { p.lost with discard := n }).put (Fd.LINK_L_STATUS_STATE l) 0
  (s.put (Fd.LINK_L_STATUS_CRED l) 0).put (Fd.LINK_L_STATUS_RPLFILL l) 0

/-- R405, R410: a link that is up goes down, which loses an exchange in progress; under AUTO it will train again after 10 ms. -/
def State.linkDown (s : State) (l : Fin 4) : State :=
  if s.linkState l = 0 then s
  else
    let up := s.linkState l == 2
    let n := (s.port l).lostEvents
    let x := (s.port l).upper.isSome || (s.port l).lower.isSome
    let s := s.linkOff l
    let s :=
      if up then ((s.raise (Ev.LINK_L_FLAGS_DOWN l)).raiseN (Ev.LINK_L_FLAGS_EVLOST l) n).raiseIf x (Ev.LINK_L_FLAGS_XLOST l)
      else s
    if up && s.on (Fd.LINK_L_CTRL_EN l) && s.on (Fd.LINK_L_CTRL_AUTO l) then
      s.portM l fun p => { p with retrain := some (s.now + 10 * tMs) }
    else s

/-- R410, R415: every link goes down. -/
def State.linksDown (s : State) : State := (List.finRange 4).foldl (fun s (l : Fin 4) => s.linkDown l) s

/-- R415: the lane reference stops: the lane PLLs lose lock and every link goes down. -/
def State.laneStop (s : State) : State :=
  (List.finRange 4).foldl (fun s (l : Fin 4) =>
    ((s.linkDown l).put (Fd.LINK_L_STATUS_LPLLOCK l) 0).put (Fd.LINK_L_STATUS_CLKOK l) 0) s

/-! ### Training (R389, R390, R407) -/

/-- R389, R411, R415: training starts, with the selected loop; not after the power-fail warning. -/
def State.linkTrain (s : State) (l : Fin 4) : State :=
  if s.pmu.warned then s
  else
    let s := s.linkDown l
    let s := s.portM l fun p => { p.lost with retrain := none, loop := s.get (Fd.LINK_L_CTRL_LOOP l), trainAt := s.now }
    s.put (Fd.LINK_L_STATUS_STATE l) 1

/-- R387, R411, R413: a write of LINKl_CTRL. -/
def State.linkCtrlWrite (s : State) (l : Fin 4) (v : Word) : State :=
  let s := s.linkFresh l
  let w := v.toNat
  let rate := cut w 4 2
  let loop := cut w 8 3
  let busy := s.linkState l = 1 ∨ s.linkState l = 2
  let changed := rate ≠ s.get (Fd.LINK_L_CTRL_RATE l) ∨ loop ≠ s.get (Fd.LINK_L_CTRL_LOOP l)
  if rate = 3 ∨ 3 < loop ∨ (busy ∧ changed) then s.raise (Ev.LINK_L_FLAGS_CFGERR l)
  else
    let s := ((s.putB (Fd.LINK_L_CTRL_EN l) (v.getLsbD 0)).putB (Fd.LINK_L_CTRL_AUTO l) (v.getLsbD 2)).put (Fd.LINK_L_CTRL_RATE l) rate
    let s := s.put (Fd.LINK_L_CTRL_LOOP l) loop
    if !v.getLsbD 0 then (s.linkDown l).portM l fun p => { p with retrain := none }
    else if s.linkState l = 0 ∨ v.getLsbD 1 then s.linkTrain l
    else s

/-- R389: a write of TRAIN on an enabled link. -/
def State.linkRetrain (s : State) (l : Fin 4) : State :=
  if s.on (Fd.LINK_L_CTRL_EN l) then (s.linkFresh l).linkTrain l else s

/-- R407: the largest variable part of the transport at a line rate. -/
def variablePart (rate : Nat) : Nat := match rate with | 0 => 2674 | 1 => 1397 | _ => 759

/-- R390: the result of a lane's scan, at the setting that MANUAL and SETn name. -/
def State.laneResult (s : State) (l : Fin 4) (x : LaneScan) (set : Fld) : Nat × Nat × Nat :=
  scanResult x (if s.on (Fd.LINK_L_EQ_MANUAL l) then some (s.get set) else none)

/-- R390: the margin scan's results of both lanes are reported. -/
def State.linkMargin (s : State) (l : Fin 4) (a b : LaneScan) : State :=
  let x := s.laneResult l a (Fd.LINK_L_EQ_SET0 l)
  let y := s.laneResult l b (Fd.LINK_L_EQ_SET1 l)
  let s := (s.put (Fd.LINK_L_STATUS_EQ0 l) x.1).put (Fd.LINK_L_STATUS_EQ1 l) y.1
  let s := (s.put (Fd.LINK_L_MARGIN_WIDTH0 l) x.2.1).put (Fd.LINK_L_MARGIN_WIDTH1 l) y.2.1
  (s.put (Fd.LINK_L_MARGIN_PHASE0 l) x.2.2).put (Fd.LINK_L_MARGIN_PHASE1 l) y.2.2

/-- R389: whether a lane's eye is narrower than 16/64 UI. -/
def State.eyeNarrow (s : State) (l : Fin 4) (a b : LaneScan) : Bool :=
  (s.laneResult l a (Fd.LINK_L_EQ_SET0 l)).2.1 < 16 || (s.laneResult l b (Fd.LINK_L_EQ_SET1 l)).2.1 < 16

/-- R389: a training that fails leaves the link down; with AUTO it starts again 10 ms later. -/
def State.trainFailed (s : State) (l : Fin 4) (clkOk : Bool) : State :=
  let s := (((s.linkOff l).putB (Fd.LINK_L_STATUS_CLKOK l) clkOk).put (Fd.LINK_L_STATUS_LPLLOCK l) 1).raise (Ev.LINK_L_FLAGS_TRAINFAIL l)
  let auto := s.on (Fd.LINK_L_CTRL_AUTO l)
  s.portM l fun p => { p with retrain := if auto then some (s.now + 10 * tMs) else none }

/-- R389, R411: training fails for want of the clock after 100 µs, of an eye, or of READY after the bound of step 5. A near-end
parallel loop has neither clock nor scan. -/
def State.linkTrainFail (s : State) (l : Fin 4) (cause : TrainFail) : State :=
  if s.linkState l ≠ 1 then s
  else
    let p := s.port l
    match cause with
    | .clock => if p.loop = 2 ∨ p.ready then s else (s.reachNow (p.trainAt + 100 * tUs)).trainFailed l false
    | .scanned a b =>
      let s := if p.loop = 2 then s else s.linkMargin l a b
      if p.loop ≠ 2 ∧ s.eyeNarrow l a b then s.trainFailed l true
      else if p.ready then s
      else (s.reachNow (p.trainAt + tMs)).trainFailed l true

/-- R407: RTT and the measured receive latency. -/
def State.linkRtt (s : State) (l : Fin 4) (rtt : Nat) : State :=
  let s := s.wrN (Reg.LINK_L_RTT l) rtt
  let x : Int := (rtt : Int) + s.getS (Fd.LINK_L_ASYM_ASYM l)
  let m := -((-x) / 32) + variablePart (s.get (Fd.LINK_L_CTRL_RATE l))
  s.put (Fd.TBL_LFWDMEAS_MEAS l) (enc 16 m)

/-- R389, R411: training ends after sixteen MARK echoes and STATE becomes UP; an eye narrower than 16/64 UI fails it. A
near-end parallel loop makes no scan. -/
def State.linkTrained (s : State) (l : Fin 4) (a b : LaneScan) : State :=
  if s.linkState l = 1 ∧ s.on Fd.PLL_STATUS_SYNCLOCK ∧ 16 ≤ (s.port l).marks then
    let s := s.linkFresh l
    let scan := (s.port l).loop != 2
    let s := if scan then s.linkMargin l a b else s
    if scan && s.eyeNarrow l a b then s.trainFailed l true
    else
      let s := s.linkRtt l (s.port l).markMax
      let s := (s.put (Fd.LINK_L_STATUS_LPLLOCK l) 1).put (Fd.LINK_L_STATUS_CLKOK l) 1
      let s := (s.put (Fd.LINK_L_STATUS_STATE l) 2).put (Fd.LINK_L_STATUS_CRED l) 16
      s.raise (Ev.LINK_L_FLAGS_UP l)
  else s

/-- R389: 10 ms after a loss or a failed training with AUTO = 1. -/
def State.linkAutoRetrain (s : State) (l : Fin 4) : State :=
  match (s.port l).retrain with
  | some t => if s.on (Fd.LINK_L_CTRL_EN l) && s.on (Fd.LINK_L_CTRL_AUTO l) then (s.reachNow t).linkTrain l else s
  | none => s

/-! ### The exchange's upper end, streams, losses, test modes -/

/-- R396: the timebase in 1/16 tbu. -/
def State.stamp16 (s : State) : Nat := enc 64 ((s.tbl.count * 16 + s.tbl.frac / 2 ^ 28 : Nat) : Int)

/-- R405: link `l` is this device's upstream link. -/
def State.upstream (s : State) (l : Fin 4) : Bool := s.follower && s.get Fd.TBL_CTRL_LINKSEL == l.val

/-- R405: a launch of target 96 + l starts an exchange; one still open is lost. -/
def State.exchangeStart (s : State) (l : Fin 4) : State :=
  s.takeLaunch (96 + l.val) fun s _ =>
    if s.upstream l || s.linkState l != 2 then s
    else
      let s := s.raiseIf (s.port l).upper.isSome (Ev.LINK_L_FLAGS_XLOST l)
      (s.linkFresh l).portM l fun p =>
        { p with upper := some s.stamp16 }.sendUnseq { typ := 7, sub := 0, len := 32, body := 0 }

/-- R64, R410: no forwarded clock for 40 periods; a sync PLL that takes this link's clock loses its reference. Which link that
is was settled at its last relock, whatever LINKSEL and ROLE hold since (DEDUCED, log entry 12). -/
def State.linkClockLoss (s : State) (l : Fin 4) : State :=
  let s := (s.linkFresh l).linkDown l |>.put (Fd.LINK_L_STATUS_CLKOK l) 0
  if s.syncFrom l.val && !s.pll.syncRefLost then s.referenceLoss .sync else s

/-- R393: a stuffing violation on a lane takes the link down. -/
def State.linkStuff (s : State) (l : Fin 4) (x : LaneBits) : State :=
  let s := s.linkFresh l
  if s.linkCells l ∧ (s.port l).loop ≠ 3 ∧ (s.port l).stuffBad x then s.linkDown l else s

/-- R399: every unacknowledged cell is sent again; the eighth replay without progress takes the link down. -/
def State.linkReplay (s : State) (l : Fin 4) : State :=
  let p := s.port l
  if p.replay.isEmpty then s
  else
    let s := (s.raise (Ev.LINK_L_FLAGS_REPLAY l)).inc32 (Reg.LINK_L_REPLAYCNT l)
    let s := s.portM l fun p =>
      let q := p.replay.foldl (fun q e => q.emit e.1 e.2) p
      { q with rounds := p.rounds + 1, replay := p.replay.map fun e => (e.1, { e.2 with at_ := s.now }) }
    if 8 ≤ (s.port l).rounds then s.linkDown l else s

/-- R393, R399: 400 cell slots in tbu, of at least 128 bit times at the line rate. -/
def cellSlots400 (rate : Nat) : Nat := match rate with | 0 => 327680 | 1 => 163840 | _ => 81920

/-- R399: since when the oldest entry of the replay buffer waits. -/
def LinkPort.oldest (p : LinkPort) : Nat := match p.replay with | e :: _ => e.2.at_ | [] => 0

/-- R399: the oldest entry has waited 400 cell slots. -/
def State.replayTimeout (s : State) (l : Fin 4) : State :=
  if s.linkCells l ∧ !(s.port l).replay.isEmpty then
    (((s.reachNow ((s.port l).oldest + cellSlots400 (s.get (Fd.LINK_L_CTRL_RATE l)))).linkFresh l).linkReplay l)
  else s

/-- R398: the NAK hold-off ends. -/
def State.nakExpire (s : State) (l : Fin 4) : State :=
  match (s.port l).nakAt with
  | some t => (s.reachNow (t + 2 * tUs)).portM l fun p => { p with nakAt := none }
  | none => s

/-- One count of a 32-bit saturating counter. -/
def State.sat32 (s : State) (a : Nat) : State := if s.rdN a < 2 ^ 32 - 1 then s.wrN a (s.rdN a + 1) else s

/-- R412: one transmitted bit of each named lane is inverted; in a near-end loop this device's own checker counts it. -/
def State.prbsInject (s : State) (l : Fin 4) (lanes : BitVec 2) : State :=
  let s := s.linkFresh l
  if !s.on (Fd.LINK_L_PRBS_GEN l) then s
  else
    (List.finRange 2).foldl (fun s (i : Fin 2) =>
      if lanes.getLsbD i.val then
        let pat := s.get (Fd.LINK_L_PRBS_PAT l)
        let s := s.portM l fun p =>
          let b := [!prbsBit pat p.prbs[i]]
          { p with
            injected := p.injected.upd i (· + 1), prbs := p.prbs.upd i (prbsStep pat)
            line := if i = 0 then { p.line with lane0 := p.line.lane0 ++ b } else { p.line with lane1 := p.line.lane1 ++ b } }
        let near := (s.port l).loop == 1 || (s.port l).loop == 2
        if near && s.on (Fd.LINK_L_PRBS_CHK l) then (s.sat32 (Reg.LINK_L_PRBSERR l i)).raise (Ev.LINK_L_FLAGS_PRBSERR l) else s
      else s) s

/-- R412, R413: a write of LINKl_PRBS; setting GEN is refused unless the link is DOWN or in TEST. -/
def State.prbsWrite (s : State) (l : Fin 4) (v : Word) : State :=
  let gen := v.getLsbD 2
  let st := s.linkState l
  if gen ∧ (st = 1 ∨ st = 2) then s.raise (Ev.LINK_L_FLAGS_CFGERR l)
  else
    let rise := v.getLsbD 3 && !s.on (Fd.LINK_L_PRBS_CHK l)
    let s := ((s.put (Fd.LINK_L_PRBS_PAT l) (cut v.toNat 0 2)).putB (Fd.LINK_L_PRBS_GEN l) gen).putB (Fd.LINK_L_PRBS_CHK l) (v.getLsbD 3)
    let s := if rise then (s.wrN (Reg.LINK_L_PRBSERR l 0) 0).wrN (Reg.LINK_L_PRBSERR l 1) 0 else s
    let s :=
      if gen then (s.portM l fun p => { p with prbs := Vector.replicate 2 (BitVec.ofNat 31 (2 ^ 31 - 1)) }).put (Fd.LINK_L_STATUS_STATE l) 3
      else if st = 3 then s.put (Fd.LINK_L_STATUS_STATE l) 0 else s
    s.prbsInject l (BitVec.ofNat 2 (cut v.toNat 4 2))

/-! ### The meanings -/

/-- R389. -/
def execLinkEnableWrite (l : Fin 4) (v : Word) (s : State) : Result := .next (s.linkCtrlWrite l v)
/-- R389. -/
def execLinkTrain (l : Fin 4) (s : State) : Result := .next (s.linkRetrain l)
/-- R389. -/
def execLinkTrainingComplete (l : Fin 4) (a b : LaneScan) (s : State) : Result := .next (s.linkTrained l a b)
/-- R389. -/
def execLinkTrainingFail (l : Fin 4) (cause : TrainFail) (s : State) : Result := .next (s.linkTrainFail l cause)
/-- R389. -/
def execLinkAutoRetrain (l : Fin 4) (s : State) : Result := .next (s.linkAutoRetrain l)
/-- R398. -/
def execNakHoldoffExpire (l : Fin 4) (s : State) : Result := .next (s.nakExpire l)
/-- R399. -/
def execReplayTimeout (l : Fin 4) (s : State) : Result := .next (s.replayTimeout l)
/-- R401. -/
def execRemoteAccessSend (l : Fin 4) (s : State) : Result := .next (s.remoteSend l)
/-- R405. -/
def execTimebaseExchangeRequest (l : Fin 4) (s : State) : Result := .next (s.exchangeStart l)
/-- R410. -/
def execLinkClockLoss (l : Fin 4) (s : State) : Result := .next (s.linkClockLoss l)
/-- R393. -/
def execLinkStuffViolation (x : Seen (Fin 4) LaneBits) (s : State) : Result := .next (s.linkStuff x.site x.what)
/-- R412. -/
def execPrbsInject (l : Fin 4) (b : BitVec 2) (s : State) : Result := .next (s.prbsInject l b)
/-- R412. -/
def execPrbsCfgWrite (l : Fin 4) (v : Word) (s : State) : Result := .next (s.prbsWrite l v)

end Sys2Proof.Machine
end

