-- ==== Sys2Proof/Machine/Dma.lean ====
section
/-! DEFINITION. DMA: channel control and triggers (R370, R371, R376, R380, R382). The fetch, the moving of data and the
write-back stand in DmaRun. -/
namespace Sys2Proof.Machine

/-- Replaces a channel's hidden state. -/
def State.dmaM (s : State) (c : Fin 32) (f : DmaCh → DmaCh) : State := { s with dma := s.dma.upd c f }

/-- STATE of a channel: 0 idle, 1 fetching, 2 waiting for a trigger, 3 running, 4 writing back. -/
def State.dmaState (s : State) (c : Fin 32) : Nat := s.get (Fd.DMA_CH_STAT_STATE c)

/-- Moves a channel to a state. -/
def State.dmaGo (s : State) (c : Fin 32) (st : Nat) : State := s.put (Fd.DMA_CH_STAT_STATE c) st

/-- R376: the channel stops, for any reason: idle, its pending trigger discarded. -/
def State.dmaHalt (s : State) (c : Fin 32) : State :=
  ((s.dmaGo c 0).put (Fd.DMA_CH_STAT_TPEND c) 0).dmaM c fun d => { d with stop := false }

/-- R368, R371: a descriptor address: 32-byte aligned in system SRAM. -/
def descAddrOk (a : Nat) : Bool := a % 32 == 0 && 0x20000000 ≤ a && a < 0x20400000

/-- R371: a write of START. -/
def State.dmaStart (s : State) (c : Fin 32) : State :=
  if s.on (Fd.DMA_CH_CTRL_EN c) && s.dmaState c == 0 then s.dmaGo c 1 else s.raise (Ev.DMA_CH_FLAGS_CFGERR c)

/-- R372, R382: a write of RESUME fetches the same address again. -/
def State.dmaResume (s : State) (c : Fin 32) : State := s.dmaStart c

/-- R382: an event of instant `t` came in the present SYS cycle. -/
def State.sameSys (s : State) (t : Option Nat) : Bool := (t.map fun t => decide (s.now < t + s.sysT)).getD false

/-- R382: a trigger that came in the same SYS cycle as a STOP is discarded and ignored: the block that it started does not
run, what it left pending is gone, and an overrun that it was does not count. -/
def State.dmaUntrigger (s : State) (c : Fin 32) : State :=
  let d := s.dma[c]
  if !s.sameSys d.trigAt then s
  else
    let s := (s.dmaM c fun d => { d with trigAt := none, trigOvr := none }).raise (Ev.DMA_CH_FLAGS_IGN c)
    let s := match d.trigOvr with
      | some (flag, count) => (s.put (Fd.DMA_CH_FLAGS_OVR c) flag).wrN (Ev.DMA_CH_FLAGS_OVR c).cnt count
      | none => s
    if s.dmaState c = 3 ∧ some d.startAt = d.trigAt then
      let s := (List.finRange 4).foldl (fun (s : State) (l : Fin 4) =>
        s.portM l fun p => { p with ops := p.ops.filter fun o => o.who != .dma c || o.data.isSome }) s
      (s.dmaM c fun d => { d with block := 0 }).dmaGo c 2
    else s.put (Fd.DMA_CH_STAT_TPEND c) 0

/-- R380: the reads of a copy's running block that no tag has let out are not issued any more: the block ends with those that
have been. -/
def State.dmaUnread (s : State) (c : Fin 32) : State :=
  let mine (o : RemoteOp) : Bool := o.who == .dma c && o.data.isNone && o.stage == .stalled
  let n := ((List.finRange 4).map fun (l : Fin 4) => (((s.port l).ops.filter mine).map RemoteOp.size).sum).sum
  if cut s.dma[c].words[0].toNat 0 2 ≠ 0 then s
  else
    let s := (List.finRange 4).foldl (fun (s : State) (l : Fin 4) => s.portM l fun p => { p with ops := p.ops.filter fun o => !mine o }) s
    s.dmaM c fun d => { d with block := d.block - n }

/-- R380, R382: STOP, or EN = 0, ends the channel at the next beat boundary. R378: a descriptor that has moved nothing takes its
completion stamp here. -/
def State.dmaStop (s : State) (c : Fin 32) : State :=
  let s := (s.dmaUntrigger c).dmaM c fun d => { d with stopAt := if s.dmaState c = 0 then d.stopAt else some s.now }
  match s.dmaState c with
  | 0 => s
  | 1 => (s.dmaHalt c).raise (Ev.DMA_CH_FLAGS_STOPPED c)
  | 2 => (s.dmaM c fun d => { d with stop := true, status := 6, stamp := if d.pos = 0 then s.tbl.count else d.stamp }).dmaGo c 4
  | _ => (s.dmaUnread c).dmaM c fun d => { d with stop := true }

/-- R371: a write of DESC. -/
def State.dmaDescWrite (s : State) (c : Fin 32) (v : Word) : State :=
  if s.dmaState c = 0 ∧ descAddrOk v.toNat then s.wr (Reg.DMA_CH_DESC c) v else s.raise (Ev.DMA_CH_FLAGS_CFGERR c)

/-! ### Fields of the fetched descriptor -/

/-- A word of the descriptor as a number. -/
def DmaCh.word (d : DmaCh) (k : Fin 8) : Nat := d.words[k].toNat
/-- R369: OP. -/
def DmaCh.op (d : DmaCh) : Nat := cut (d.word 0) 0 2
/-- R369: a bit of word 0. -/
def DmaCh.bit0 (d : DmaCh) (b : Nat) : Bool := (d.word 0).testBit b
/-- R370: LEN. -/
def DmaCh.len (d : DmaCh) : Nat := cut (d.word 3) 0 24
/-- R370: BLK. -/
def DmaCh.blk (d : DmaCh) : Nat := cut (d.word 3) 24 4
/-- R370: TRIG. -/
def DmaCh.trig (d : DmaCh) : Nat := cut (d.word 5) 0 2
/-- R370: CHSRC. -/
def DmaCh.chsrc (d : DmaCh) : Nat := cut (d.word 5) 8 5

/-- R370, R374: the length of the next block. -/
def DmaCh.nextBlock (d : DmaCh) : Nat :=
  if d.trig = 0 ∨ d.blk = 0 then d.len - d.pos else min (2 ^ d.blk) (d.len - d.pos)

/-- The largest aligned piece of at most `m` bytes at `a`, with `n` bytes left (R6). -/
def pieceSize (a n m : Nat) : Nat :=
  if 16 ≤ m ∧ a % 16 = 0 ∧ 16 ≤ n then 16
  else if 8 ≤ m ∧ a % 8 = 0 ∧ 8 ≤ n then 8
  else if a % 4 = 0 ∧ 4 ≤ n then 4
  else if a % 2 = 0 ∧ 2 ≤ n then 2 else 1

/-- R375: the widest beat at an address: 8 bytes for a tightly coupled memory, here or in a far device, else 16. -/
def beatMax (a : Nat) : Nat :=
  if (0x24000000 ≤ a ∧ a < 0x24100000) ∨ (isRemote a ∧ a % 0x10000000 / 0x4000000 = 2) then 8 else 16

/-- R401: the reads of a remote range leave as one request for each aligned piece of up to 16 bytes; `words` and a fixed
address ask for 32-bit beats (R375). They are issued from `since` on. -/
def State.dmaRemoteReads (who : Requester) (since : Nat) (words inc : Bool) : Nat → Nat → Nat → State → State
  | 0, _, _, s => s
  | _, _, 0, s => s
  | fuel + 1, a, n, s =>
    let k := if words then 4 else pieceSize a n (beatMax a)
    State.dmaRemoteReads who since words inc fuel (if inc then a + k else a) (n - k) (s.remoteLater who a k since none)

/-- R375: whether an address lies among block registers, here or in a far device. -/
def isRegTarget (a : Nat) : Bool :=
  (0x40000000 ≤ a && a < 0x40150000) || (isRemote a && a % 0x10000000 / 0x4000000 == 3)

/-- R375: whether the transfer uses 32-bit beats throughout. -/
def DmaCh.wordBeats (d : DmaCh) : Bool :=
  let fill := d.op == 1
  d.bit0 6 || isRegTarget (d.word 2) || !d.bit0 3 || (!fill && (isRegTarget (d.word 1) || !d.bit0 2))

/-- A block starts: a trigger was taken, or none is needed. R377: its first access comes two SYS cycles later. -/
def State.dmaBlockStart (s : State) (c : Fin 32) : State :=
  let d := s.dma[c]
  let n := d.nextBlock
  let s := (s.dmaM c fun d => { d with block := n, startAt := s.now }).dmaGo c 3
  let src := if d.bit0 2 then d.word 1 + d.pos else d.word 1
  let ref := if d.bit0 3 then d.word 2 + d.pos else d.word 2
  let s := if d.op ≠ 1 ∧ isRemote src then State.dmaRemoteReads (.dma c) (s.now + 2 * s.sysT) d.wordBeats (d.bit0 2) n src n s else s
  if d.op = 2 ∧ isRemote ref then State.dmaRemoteReads (.dma c) (s.now + 2 * s.sysT) d.wordBeats (d.bit0 3) n ref n s else s

/-! ### Triggers (R376) -/

/-- R370: where a trigger comes from. -/
inductive DmaTrig where
  | launch
  | software
  | channel (c : Nat)
  deriving DecidableEq, Repr

/-- R370: whether the last descriptor fetched selects a source. -/
def DmaCh.selects (d : DmaCh) (t : DmaTrig) : Bool :=
  match t with
  | .launch => d.trig == 1
  | .software => d.trig != 0
  | .channel k => d.trig == 2 && d.chsrc == k

/-- R376, R382: a trigger is taken, becomes pending, is an overrun, or is ignored with IGN. Of two in one SYS cycle the
second is an overrun; one in the cycle of a STOP is ignored. -/
def State.dmaTrigger (s : State) (c : Fin 32) (t : DmaTrig) : State :=
  let d := s.dma[c]
  if !d.selects t || s.sameSys d.stopAt then s.raise (Ev.DMA_CH_FLAGS_IGN c)
  else if s.on (Fd.DMA_CH_STAT_TPEND c) || s.sameSys d.trigAt then
    let was := (s.get (Fd.DMA_CH_FLAGS_OVR c), s.rdN (Ev.DMA_CH_FLAGS_OVR c).cnt)
    let s := if s.sameSys d.trigAt then s else s.dmaM c fun d => { d with trigAt := some s.now, trigOvr := some was }
    s.raise (Ev.DMA_CH_FLAGS_OVR c)
  else
    let s := s.dmaM c fun d => { d with trigAt := some s.now, trigOvr := none }
    if s.dmaState c = 2 then s.dmaBlockStart c else s.put (Fd.DMA_CH_STAT_TPEND c) 1

/-- R377: a software trigger is pending one SYS cycle after its write has landed. -/
def State.dmaSwtrig (s : State) (c : Fin 32) : State := (s.reachNow (s.now + s.sysT)).dmaTrigger c .software

/-- R380, R385: a write of DMA_CHc_CTRL. -/
def State.dmaCtrlWrite (s : State) (c : Fin 32) (v : Word) : State :=
  let s := s.putB (Fd.DMA_CH_CTRL_EN c) (v.getLsbD 0)
  let s := if v.getLsbD 1 then s.dmaStart c else s
  let s := if v.getLsbD 3 then s.dmaResume c else s
  if v.getLsbD 2 || !v.getLsbD 0 then s.dmaStop c else s

/-- R371. -/
def execDmaStart (c : Fin 32) (s : State) : Result := .next (s.dmaStart c)
/-- R380. -/
def execDmaStop (c : Fin 32) (s : State) : Result := .next (s.dmaStop c)
/-- R372. -/
def execDmaResume (c : Fin 32) (s : State) : Result := .next (s.dmaResume c)
/-- R371. -/
def execDmaDescWrite (c : Fin 32) (v : Word) (s : State) : Result := .next (s.dmaDescWrite c v)
/-- R370. -/
def execDmaSwtrig (c : Fin 32) (s : State) : Result := .next (s.dmaSwtrig c)
/-- R376. -/
def execDmaLaunchTrigger (c : Fin 32) (s : State) : Result :=
  .next (s.takeLaunch (62 + c.val) fun s _ => s.dmaTrigger c .launch)

end Sys2Proof.Machine
end

