-- ==== Sys2Proof/Machine/Eth.lean ====
section
/-! DEFINITION. ETH: rings, redundancy, time stamps, GOOSE filters and sampled-value publishers (R418–R431). Frames are
lists of bytes from the destination address to the last byte before the FCS. -/
namespace Sys2Proof.Machine

/-- Replaces Ethernet's hidden state. -/
def State.ethM (s : State) (f : Eth → Eth) : State := { s with eth := f s.eth }

/-! ### Reading frames -/

/-- A byte of a frame; 0 beyond its end. -/
def fb (f : List Nat) (i : Nat) : Nat := f.getD i 0

/-- A big-endian number of `n` bytes. -/
def beAt (f : List Nat) (i : Nat) : Nat → Nat
  | 0 => 0
  | n + 1 => beAt f i n * 256 + fb f (i + n)

/-- A big-endian number as bytes. -/
def beBytes (n v : Nat) : List Nat := (bytesLE n v).reverse

/-- Bytes `b` written into a frame at `i`. -/
def setBytes (f : List Nat) (i : Nat) (b : List Nat) : List Nat := f.take i ++ b ++ f.drop (i + b.length)

/-- Where the EtherType of the payload stands, past one VLAN tag and one HSR tag. -/
def typeAt (f : List Nat) : Nat :=
  let step (i : Nat) : Nat := if beAt f i 2 = 0x8100 then i + 4 else if beAt f i 2 = 0x892F then i + 6 else i
  step (step 12)

/-- R422: where an HSR tag stands, if the frame has one. -/
def hsrAt (f : List Nat) : Option Nat :=
  if beAt f 12 2 = 0x892F then some 12
  else if beAt f 12 2 = 0x8100 ∧ beAt f 16 2 = 0x892F then some 16 else none

/-- R422: the sequence number that keys a frame: the HSR tag's, or that of the PRP trailer. -/
def frameSeq (mode : Nat) (f : List Nat) : Option Nat :=
  if mode = 1 then (if beAt f (f.length - 2) 2 = 0x88FB then some (beAt f (f.length - 6) 2) else none)
  else if mode = 2 then (hsrAt f).map fun i => beAt f (i + 4) 2
  else none

/-- R421: a frame as it leaves on a port: with its redundancy trailer or tag (PRESUMED, IEC 62439-3, log entry 41). -/
def redundant (mode port seq : Nat) (f : List Nat) : List Nat :=
  let i := if beAt f 12 2 = 0x8100 then 16 else 12
  let size := f.length - (i + 2) + 6
  if mode = 1 then f ++ beBytes 2 seq ++ beBytes 2 ((0xA + port) * 4096 + size % 4096) ++ [0x88, 0xFB]
  else if mode = 2 then f.take i ++ [0x89, 0x2F] ++ beBytes 2 (port * 4096 + size % 4096) ++ beBytes 2 seq ++ f.drop i
  else f

/-! ### Registers and time stamps -/

/-- REDMODE. -/
def State.redMode (s : State) : Nat := s.get Fd.ETH_CFG_REDMODE

/-- The port's address: bytes 0–3 in MACLO, 4–5 in MACHI, the first byte in the low bits. -/
def State.ownMac (s : State) (p : Nat) : List Nat :=
  let q := if s.redMode = 0 then p else 0
  bytesLE 4 (s.rdN (Reg.ETH_P_MACLO q)) ++ bytesLE 2 (s.get (Fd.ETH_P_MACHI_MAC q))

/-- R425: time stamps are valid. -/
def State.tsValid (s : State) : Bool := !s.flag Ev.TBL_STATUS_TBINV && s.on Fd.PLL_STATUS_SYNCLOCK

/-- The speed of a port's link, as ETH_STATUS shows it. -/
def State.ethSpeed (s : State) (p : Fin 2) : Nat := s.get (if p = 0 then Fd.ETH_STATUS_SPEED0 else Fd.ETH_STATUS_SPEED1)

/-- R418: the time of a byte in tbu at a link's speed. -/
def byteTime (speed : Nat) : Nat := match speed with | 1 => 12800 | 2 => 1280 | _ => 128

/-- R423: how far a stamp may lie from the true instant, in tbu. -/
def stampBound (speed : Nat) : Nat := match speed with | 1 => 3200 | 2 => 320 | _ => 128

/-- R423: the timebase at the message timestamp point of a frame of `n` bytes that has just passed, with its FCS; where in the
bound of the rule it falls is open (log entry 58). -/
def State.ethStamp (s : State) (p : Fin 2) (n : Nat) : Int × State :=
  let (w, s) := s.fresh
  let b := stampBound (s.ethSpeed p)
  (s.countAt2 (2 * ((s.now : Int) - (n + 4) * byteTime (s.ethSpeed p))) + (w.toNat % (2 * b + 1) : Nat) - b, s)

/-- The flag of port `p` among two. -/
def portFlag (p : Fin 2) (a b : EvFlag) : EvFlag := if p = 0 then a else b

/-- R429: a port passes frames. -/
def State.portLive (s : State) (p : Fin 2) : Bool :=
  s.on (Fd.ETH_P_CTRL_EN p) && !s.eth.stopped[p] && !s.pmu.warned

/-- Whether `n` bytes from `a` lie in system SRAM. -/
def inSram (a n : Nat) : Bool := 0x20000000 ≤ a && a + n ≤ 0x20400000

/-- Bytes stored in memory from `a`. -/
def State.memBytes (s : State) (a : Nat) : List Nat → State
  | [] => s
  | b :: t => (s.memWr a 1 b).memBytes (a + 1) t

/-- `n` bytes of memory from `a`. -/
def State.memList (s : State) (a n : Nat) : List Nat := (List.range n).map fun i => s.memRd (a + i) 1

/-! ### Reception -/

/-- R420: a frame is dropped as damaged. -/
def State.ethBad (s : State) (p : Fin 2) : State := (s.inc32 (Reg.ETH_P_RXDROP p)).raise Ev.ETH_FLAGS_FRMERR

/-- What a received frame's descriptor is to show. -/
structure RxInfo where
  tsv : Bool
  stamp : Nat
  port : Nat
  goose : Option Nat
  deriving DecidableEq, Repr

/-- R419, R420: a frame goes to the next descriptor of a ring, or is dropped. -/
def State.ringWrite (s : State) (q : Fin 2) (f : List Nat) (x : RxInfo) : State :=
  let idx := s.get (Fd.ETH_P_RXIDX_IDX q)
  let d := s.rdN (Reg.ETH_P_RXBASE q) / 16 * 16 + 16 * idx
  if s.memRd d 4 < 2 ^ 31 then
    (s.inc32 (Reg.ETH_P_RXDROP q)).raise (portFlag q Ev.ETH_FLAGS_RXEMPTY0 Ev.ETH_FLAGS_RXEMPTY1)
  else
    let buf := s.memRd (d + 4) 4
    let s := if inSram buf f.length then s.memBytes buf f else s
    let (lo, s) := if x.tsv then (BitVec.ofNat 32 x.stamp, s) else s.fresh
    let (hi, s) := if x.tsv then (BitVec.ofNat 32 (x.stamp / 2 ^ 32), s) else s.fresh
    let s := (s.memWr (d + 8) 4 lo.toNat).memWr (d + 12) 4 hi.toNat
    let s := s.ethM fun e => { e with lastRx := (s.now, d) }
    let g := match x.goose with | none => 0 | some k => 2 ^ 18 + k * 2 ^ 19
    let s := s.memWr d 4 (f.length % 65536 + x.tsv.toNat * 65536 + x.port * 2 ^ 17 + g)
    let s := s.put (Fd.ETH_P_RXIDX_IDX q) ((idx + 1) % max 1 (s.get (Fd.ETH_P_RXCNT_COUNT q)))
    (s.inc32 (Reg.ETH_P_RXFRM q)).raise (portFlag q Ev.ETH_FLAGS_RXD0 Ev.ETH_FLAGS_RXD1)

/-- A BER length at `i`: the value and where the contents begin. -/
def berLen (f : List Nat) (i : Nat) : Nat × Nat :=
  let b := fb f i
  if b < 128 then (b, i + 1) else (beAt f (i + 1) (b - 128), i + 1 + (b - 128))

/-- The contents of the first element with tag `tag` among at most `n` elements from `i`. -/
def berFind (f : List Nat) (tag : Nat) : Nat → Nat → Option Nat
  | 0, _ => none
  | n + 1, i =>
    if f.length ≤ i then none
    else
      let (len, j) := berLen f (i + 1)
      if fb f i = tag then some (beAt f j (min len 8)) else berFind f tag n (j + len)

/-- R426: stNum and timeAllowedToLive of a GOOSE frame whose EtherType stands at `i` (PRESUMED, IEC 61850-8-1, log entry 41). -/
def goosePdu (f : List Nat) (i : Nat) : Option (Nat × Nat) :=
  if fb f (i + 10) = 0x61 then
    let j := (berLen f (i + 11)).2
    match berFind f 0x85 8 j, berFind f 0x81 8 j with
    | some st, some tal => some (st % 2 ^ 32, tal)
    | _, _ => none
  else none

/-- R426: the first enabled filter that matches a destination and an APPID. -/
def State.gooseMatch (s : State) (f : List Nat) (i : Nat) : Option (Fin 32) :=
  (List.finRange 32).find? fun (k : Fin 32) =>
    s.on (Fd.ETH_GF_CFG_EN k) &&
    f.take 6 == bytesLE 4 (s.rdN (Reg.ETH_GF_MACLO k)) ++ bytesLE 2 (s.get (Fd.ETH_GF_MACHI_MAC k)) &&
    beAt f (i + 2) 2 == s.get (Fd.ETH_GF_MACHI_APPID k)

/-- R426: an accepted frame restarts a filter's supervision. -/
def State.gooseAlive (s : State) (k : Fin 32) (tal : Nat) : State :=
  let s := s.ethM fun e => { e with tal := e.tal.set k (some (s.now + tal * tMs)) }
  (s.put (Fd.ETH_GF_CFG_ALIVE k) 1).put (Fd.ETH_GF_CFG_TALREM k) (min 65535 tal)

/-- R420, R423, R426: an accepted frame that is not a duplicate is filtered, stamped and written into ring `q`. -/
def State.ethDeliver (s : State) (p q : Fin 2) (f : List Nat) : State :=
  let i := typeAt f
  let ty := beAt f i 2
  let event := ty = 0x88F7 ∧ fb f (i + 2) % 16 < 4
  let hold := s.on Fd.TBL_STATUS_HOLD
  let s := s.raiseIf (decide event && hold) Ev.ETH_FLAGS_TSINV
  let (x, s) : RxInfo × State :=
    if event ∧ !hold then
      let (t, s) := s.ethStamp p f.length
      (⟨true, enc 64 (t - s.get (Fd.ETH_P_RXLAT_LAT p)), p.val, none⟩, s)
    else (⟨false, 0, p.val, none⟩, s)
  if ty = 0x88B8 then
    match s.gooseMatch f i, goosePdu f i with
    | some k, some (st, tal) =>
      let old := s.rdN (Reg.ETH_GF_STNUM k)
      let s := s.gooseAlive k tal
      if st ≠ old then
        ((s.wrN (Reg.ETH_GF_STNUM k) st).raise Ev.ETH_FLAGS_GNEW).ringWrite q f { x with goose := some k.val }
      else if s.on (Fd.ETH_GF_CFG_ALLREP k) then s.ringWrite q f { x with goose := some k.val }
      else s.inc32 (Reg.ETH_GF_REPCNT k)
    | _, _ => s.inc32 Reg.ETH_GDROP
  else s.ringWrite q f x

/-- R422: FORGET in tbu: 0 acts as 1 ms, above 1,000 as 1,000. -/
def State.forget (s : State) : Nat := max 1 (min 1000 (s.get Fd.ETH_CFG_FORGET)) * tMs

/-- DUPFILL shows the table. -/
def State.dupShow (s : State) : State := s.put Fd.ETH_DUPFILL_FILL s.eth.dups.length

/-- R422: entries older than FORGET are removed. -/
def State.dupPurge (s : State) : State :=
  let old (d : DupEntry) : Bool := d.time + s.forget < s.now
  (s.ethM fun e =>
    { e with dups := e.dups.filter fun d => !old d
             gone := (e.dups.filter old).map (fun d => (d.src, d.seq)) ++ e.gone }).dupShow

/-- R422: whether a frame is a duplicate; its entry is made or removed. -/
def State.dupCheck (s : State) (src seq : Nat) : Bool × State :=
  let s := s.dupPurge
  match s.eth.dups.find? (fun d => d.src == src && d.seq == seq) with
  | some d => (true, (s.ethM fun e => { e with dups := e.dups.erase d }).dupShow)
  | none =>
    if s.eth.gone.contains (src, seq) then
      (false, (s.ethM fun e => { e with gone := e.gone.erase (src, seq) }).raise Ev.ETH_FLAGS_DUPLATE)
    else
      let full := 1024 ≤ s.eth.dups.length
      let s := s.ethM fun e =>
        { e with dups := (if full then e.dups.drop 1 else e.dups) ++ [⟨src, seq, s.now⟩]
                 gone := (if full then (e.dups.take 1).map fun d => (d.src, d.seq) else []) ++ e.gone }
      (false, (s.raiseIf (decide full) Ev.ETH_FLAGS_DUPFULL).dupShow)

/-- R424: an amount in 2^-16 ns is added to the correctionField of a PTP message whose EtherType stands at `i`. -/
def addCorrection (f : List Nat) (i add : Nat) : List Nat :=
  setBytes f (i + 10) (beBytes 8 ((beAt f (i + 10) 8 + add) % 2 ^ 64))

/-- R424: the transparent clock's part in forwarding: residence time and link delay go into a one-step Sync, wait in the
table for a two-step Sync, and go into the Follow_Up. -/
def State.transparent (s : State) (p : Fin 2) (f : List Nat) (residence : Nat) : List Nat × State :=
  let i := typeAt f
  let add := (residence + s.rdN (Reg.ETH_P_PDELAY p)) * 4096
  let key := beAt f (i + 22) 12
  if beAt f i 2 ≠ 0x88F7 then (f, s)
  else if fb f (i + 2) % 16 = 0 then
    if fb f (i + 8) / 2 % 2 = 0 then (addCorrection f i add, s)
    else
      let full := 16 ≤ s.eth.residence.length
      let s := s.ethM fun e =>
        { e with residence := (if full then e.residence.drop 1 else e.residence) ++ [⟨key, s.now, add⟩] }
      (f, s.raiseIf full Ev.ETH_FLAGS_FRMERR)
  else if fb f (i + 2) % 16 = 8 then
    match s.eth.residence.find? (fun r => r.key == key) with
    | some r => (addCorrection f i r.add, s.ethM fun e => { e with residence := e.residence.erase r })
    | none => (f, s)
  else (f, s)

/-- A frame leaves on a port whose transmitter is enabled. -/
def State.ethOut (s : State) (p : Nat) (f : List Nat) : State :=
  if s.portLive (Fin.ofNat 2 p) && s.on (Fd.ETH_P_CTRL_TXEN p) then s.ethM fun e => { e with sent := e.sent ++ [(p, f)] } else s

/-- R428: of two copies that arrive together, the one that is delivered shows PORT = 0. -/
def State.ethTogether (s : State) (p : Fin 2) : State :=
  if p = 0 ∧ s.eth.lastRx.1 = s.now then s.memWr s.eth.lastRx.2 4 (paste (s.memRd s.eth.lastRx.2 4) 17 1 0) else s

/-- R421: a frame that is not addressed to this node alone is forwarded to the other port. -/
def State.ethForward (s : State) (p : Fin 2) (f : List Nat) (residence : Nat) : State :=
  if f.take 6 == s.ownMac 0 then s
  else
    let (f, s) := s.transparent p f residence
    s.ethOut (1 - p.val) f

/-- R418–R426: a frame arrives at a port. -/
def State.ethReceive (s : State) (p : Fin 2) (f : List Nat) (bad : Bool) (residence : Nat) : State :=
  if !(s.portLive p && s.on (Fd.ETH_P_CTRL_RXEN p) && s.tagFree 11) then s
  else
    let s := s.ethM fun e => { e with sent := [] }
    let mode := s.redMode
    let q : Fin 2 := if mode = 0 then p else 0
    let mine := s.on (Fd.ETH_P_CTRL_PROMISC q) || fb f 0 % 2 == 1 || f.take 6 == s.ownMac p
    if bad || f.length < 60 || 1532 < f.length || s.get (Fd.ETH_P_RXBUFSZ_SIZE q) < f.length then s.ethBad p
    else if beAt f (typeAt f) 2 = 0x8808 then s.raise Ev.ETH_FLAGS_PAUSE
    else if mode = 2 ∧ (f.drop 6).take 6 = s.ownMac 0 then s.inc32 (Reg.ETH_P_RXDROP p)
    else
      let together := match frameSeq mode f with
        | some n => s.eth.dups.any fun d => d.src == beAt f 6 6 && d.seq == n && d.time == s.now
        | none => false
      let (dup, s) := match frameSeq mode f with
        | some n => s.dupCheck (beAt f 6 6) n
        | none => (false, s)
      if dup then (if together && mine then s.ethTogether p else s)
      else
        let s := if mine then s.ethDeliver p q f else s
        if mode = 2 then s.ethForward p f residence else s

/-! ### Transmission -/

/-- R427: the port of a publisher. -/
def State.svPort (s : State) (n : Fin 2) : Nat := if s.redMode = 0 then s.get (Fd.ETH_SV_CFG_PORT n) else 0

/-- R428: whether a sampled-value frame waits for a port. -/
def State.svWaits (s : State) (p : Fin 2) : Bool := (List.finRange 2).any fun (n : Fin 2) => s.eth.sv[n].isSome && s.svPort n == p.val

/-- R419, R428: the transmitter fetches at TXIDX; OWN = 0 stops it. A sampled-value frame that waits goes first. -/
def State.txFetch (s : State) (p : Fin 2) : State :=
  let d := s.rdN (Reg.ETH_P_TXBASE p) / 16 * 16 + 16 * s.get (Fd.ETH_P_TXIDX_IDX p)
  let w := s.svWaits p
  s.ethM fun e => { e with sending := e.sending.set p (decide (2 ^ 31 ≤ s.memRd d 4)), svFirst := e.svFirst.set p w }

/-- R21, R419, R421: a write of TXKICK, whose fetch waits for a tag; port 1's rings are unused in PRP and HSR. -/
def State.txKick (s : State) (p : Fin 2) : State :=
  if s.portLive p && s.on (Fd.ETH_P_CTRL_TXEN p) && !s.eth.sending[p] && !(s.redMode != 0 && p == 1) then
    (if s.tagFree 11 then s.txFetch p else s.ethM fun e => { e with kicked := e.kicked ||| (1#2 <<< p.val) })
  else s

/-- R21, R419: the kicks that waited for a tag take it. -/
def State.txKicks (s : State) : State :=
  let k := s.eth.kicked
  if k = 0 || !s.tagFree 11 then s
  else (List.finRange 2).foldl (fun s (p : Fin 2) => if k.getLsbD p.val then s.txKick p else s) (s.ethM fun e => { e with kicked := 0 })

/-- R421: a frame leaves on its port, or on both with its trailer or tag. -/
def State.ethSendOut (s : State) (p : Nat) (f : List Nat) : State :=
  let mode := s.redMode
  if mode = 0 then s.ethOut p f
  else
    let n := s.eth.seq
    let s := (s.ethOut 0 (redundant mode 0 n f)).ethOut 1 (redundant mode 1 n f)
    s.ethM fun e => { e with seq := (n + 1) % 65536 }

/-- R419, R423: the frame of the fetched descriptor has left; the descriptor is written back and the next fetched. -/
def State.txComplete (s : State) (p : Fin 2) : State :=
  if !(s.portLive p && s.eth.sending[p] && !s.eth.svFirst[p] && s.tagFree 11) then s
  else
    let s := s.ethM fun e => { e with sent := [] }
    let idx := s.get (Fd.ETH_P_TXIDX_IDX p)
    let d := s.rdN (Reg.ETH_P_TXBASE p) / 16 * 16 + 16 * idx
    let w0 := s.memRd d 4
    let s := s.ethSendOut p.val (s.memList (s.memRd (d + 4) 4) (w0 % 65536))
    let req := w0.testBit 16
    let hold := s.on Fd.TBL_STATUS_HOLD
    let s := s.raiseIf (req && hold) Ev.ETH_FLAGS_TSINV
    let s :=
      if req then
        let (t, s) := s.ethStamp p (w0 % 65536 + if s.redMode = 0 then 0 else 6)
        let stamp := enc 64 (t + s.get (Fd.ETH_P_TXLAT_LAT p))
        (s.memWr (d + 8) 4 stamp).memWr (d + 12) 4 (stamp / 2 ^ 32)
      else s
    let s := s.memWr d 4 (paste (w0 % 2 ^ 31) 17 1 (req && !hold).toNat)
    let s := s.put (Fd.ETH_P_TXIDX_IDX p) ((idx + 1) % max 1 (s.get (Fd.ETH_P_TXCNT_COUNT p)))
    ((s.inc32 (Reg.ETH_P_TXFRM p)).raise (portFlag p Ev.ETH_FLAGS_TXD0 Ev.ETH_FLAGS_TXD1)).txFetch p

/-! ### Configuration writes -/

/-- R421: a write of ETH_CFG. -/
def State.ethCfgWrite (s : State) (v : Word) : State :=
  let m := cut v.toNat 0 2
  let change := m != s.redMode
  if m = 3 ∨ (change ∧ (s.on (Fd.ETH_P_CTRL_EN 0) ∨ s.on (Fd.ETH_P_CTRL_EN 1))) then s.raise Ev.ETH_FLAGS_CFGERR
  else
    let s := (s.put Fd.ETH_CFG_REDMODE m).put Fd.ETH_CFG_FORGET (cut v.toNat 16 16)
    if change then s.ethM fun e => { e with seq := 0 } else s

/-- R429, R431: a write of ETH_Pp_CTRL; enabling a port sets its rings up again and takes its delays (R507). -/
def State.ethCtrlWrite (s : State) (p : Fin 2) (v : Word) : State :=
  let was := s.on (Fd.ETH_P_CTRL_EN p)
  let s := s.wrN (Reg.ETH_P_CTRL p) (v.toNat % 16)
  let en := v.getLsbD 0
  let lock := s.on Fd.PLL_STATUS_SYSLOCK
  s.ethM fun e => { e with
    stopped := if en && lock then e.stopped.set p false else e.stopped
    sending := if en && v.getLsbD 2 then e.sending else e.sending.set p false
    rgmii := if en && !was then e.rgmii.set p (s.rd Reg.SYSCFG_RGMII |>.getLsbD (2 * p.val), s.rd Reg.SYSCFG_RGMII |>.getLsbD (2 * p.val + 1)) else e.rgmii }

/-- R431: a ring's base is written only while EN = 0. -/
def State.ethBaseWrite (s : State) (p : Fin 2) (a : Nat) (v : Word) : State :=
  if s.on (Fd.ETH_P_CTRL_EN p) then s.raise Ev.ETH_FLAGS_CFGERR else s.wrN a (v.toNat / 16 * 16)

/-- R431: a publisher's layout fits its template. -/
def svFits (nval layout : Nat) : Bool :=
  let n := cut layout 24 8
  60 ≤ n && cut layout 0 8 + 2 ≤ n && cut layout 8 8 + 1 ≤ n && cut layout 16 8 + 8 * nval ≤ n

/-- R431: a write of SVn_CFG: a bad NVAL, SMPWRAP, PER or layout refuses EN. -/
def State.svCfgWrite (s : State) (n : Fin 2) (v : Word) : State :=
  let nval := cut v.toNat 8 5
  let ok := 1 ≤ nval && nval ≤ 16 && cut v.toNat 16 16 != 0 && s.rdN (Reg.ETH_SV_PER n) != 0 &&
    svFits nval (s.rdN (Reg.ETH_SV_LAYOUT n))
  let s := ((s.put (Fd.ETH_SV_CFG_PORT n) (cut v.toNat 1 1)).put (Fd.ETH_SV_CFG_NVAL n) nval).put (Fd.ETH_SV_CFG_SMPWRAP n) (cut v.toNat 16 16)
  let s := s.putB (Fd.ETH_SV_CFG_EN n) (v.getLsbD 0 && ok)
  s.raiseIf (v.getLsbD 0 && !ok) Ev.ETH_FLAGS_CFGERR

/-- R431: a write of SVn_LAYOUT beyond the template is refused. -/
def State.svLayoutWrite (s : State) (n : Fin 2) (v : Word) : State :=
  if svFits (s.get (Fd.ETH_SV_CFG_NVAL n)) v.toNat then s.wr (Reg.ETH_SV_LAYOUT n) v else s.raise Ev.ETH_FLAGS_CFGERR

/-- R426: the milliseconds left of a filter's supervision. -/
def State.talRem (s : State) (k : Fin 32) : Nat :=
  match s.eth.tal[k] with
  | some t => min 65535 ((t - s.eth.offAt.getD s.now + tMs - 1) / tMs)
  | none => 0

/-! ### Timed events -/

/-- R67, R422: the oldest entry passes FORGET, while the ETH clocks run. -/
def State.dupAge (s : State) : State :=
  match s.eth.offAt, s.eth.dups with
  | some _, _ | _, [] => s
  | none, d :: _ => (s.reachNow (d.time + s.forget + 1)).dupPurge

/-- R67, R426, R428: a filter's supervision time runs out, at the end of its ETH cycle (8 ns), in which a frame still wins. -/
def State.talExpire (s : State) (k : Fin 32) : State :=
  match s.eth.offAt, s.eth.tal[k] with
  | some _, _ | _, none => s
  | none, some t =>
    let s := (s.reachNow (t + 128)).ethM fun e => { e with tal := e.tal.set k none }
    ((s.put (Fd.ETH_GF_CFG_ALIVE k) 0).put (Fd.ETH_GF_CFG_TALREM k) 0).raise Ev.ETH_FLAGS_GTAL

/-- R67, R424: the oldest two-step Sync has waited 100 ms, while the ETH clocks run. -/
def State.residenceTimeout (s : State) : State :=
  match s.eth.offAt, s.eth.residence with
  | some _, _ | _, [] => s
  | none, r :: t => ((s.reachNow (r.time + 100 * tMs)).ethM fun e => { e with residence := t }).raise Ev.ETH_FLAGS_FRMERR

/-! ### Sampled values -/

/-- R427: a value in protocol units: x × SCALE / 2^31, rounded half away from zero, saturated. -/
def svValue (x scale : Int) : Int := satTo 32 (meanAway (x * scale) (2 ^ 31))

/-- R427: the frame of a publisher for a launch at exact time `t`. -/
def State.svFrame (s : State) (n : Fin 2) (t : Nat) : List Nat :=
  let lay := s.rdN (Reg.ETH_SV_LAYOUT n)
  let tpl := ((List.range 64).flatMap fun k => bytesLE 4 (s.rdN (Reg.ETH_SV_TPL n k))).take (cut lay 24 8)
  let cnt := t / max 1 (s.rdN (Reg.ETH_SV_PER n)) % max 1 (s.get (Fd.ETH_SV_CFG_SMPWRAP n))
  let f := setBytes tpl (cut lay 0 8) (beBytes 2 cnt)
  let f := setBytes f (cut lay 8 8) [if s.tsValid then 2 else 0]
  (List.range (s.get (Fd.ETH_SV_CFG_NVAL n))).foldl (fun f j =>
    let x := s.samples.toArray.getD (s.get (Fd.ETH_SV_CH_CH n j)) {}
    let v := svValue x.value.toInt (s.getS (Fd.ETH_SV_SCALE_SCALE n j))
    setBytes f (cut lay 16 8 + 8 * j) (beBytes 4 (enc 32 v) ++ beBytes 4 (if x.valid then 0 else 1))) f

/-- R427: a launch of target 94 + n builds a frame, or is dropped with SVOVR. -/
def State.svRequest (s : State) (n : Fin 2) : State :=
  s.takeLaunch (94 + n.val) fun s l =>
    if !s.on (Fd.ETH_SV_CFG_EN n) then s
    else if s.eth.sv[n].isSome then s.raise (portFlag n Ev.ETH_FLAGS_SVOVR0 Ev.ETH_FLAGS_SVOVR1)
    else s.ethM fun e => { e with sv := e.sv.set n (some (s.svFrame n l.exact)) }

/-- R427: a publisher's frame starts, on both ports in PRP and HSR; publisher 0 goes first on one port. -/
def State.svSend (s : State) (n : Fin 2) : State :=
  match s.eth.sv[n] with
  | none => s
  | some f =>
    let p : Fin 2 := Fin.ofNat 2 (s.svPort n)
    let able (p : Fin 2) : Bool := s.portLive p && s.on (Fd.ETH_P_CTRL_TXEN p)
    if !(able p || s.redMode != 0 && able 1) || (n == 1 && s.eth.sv[0].isSome && s.svPort 0 == s.svPort 1) then s
    else
      let s := s.ethM fun e => { e with sent := [], sv := e.sv.set n none }
      let w := s.svWaits p
      let s := s.ethM fun e => { e with svFirst := e.svFirst.set p (e.svFirst[p] && w) }
      ((s.ethSendOut p.val f).inc32 (Reg.ETH_P_TXFRM p)).inc32 (Reg.ETH_SV_SENT n)

/-- R418: the PHY's in-band status. -/
def State.rgmii (s : State) (p : Fin 2) (link : Bool) (speed : Fin 4) : State :=
  let s := s.putB (if p = 0 then Fd.ETH_STATUS_LINK0 else Fd.ETH_STATUS_LINK1) link
  s.put (if p = 0 then Fd.ETH_STATUS_SPEED0 else Fd.ETH_STATUS_SPEED1) speed.val

/-- R429: a power-fail warning: transmitters send nothing further, reception stops. -/
def State.ethWarning (s : State) : State :=
  s.ethM fun e => { e with sending := Vector.replicate 2 false, sv := Vector.replicate 2 none }

/-- R67, R429: a system PLL loss of lock gates the ETH clocks and stops Ethernet until the rings are set up again. -/
def State.ethSysStop (s : State) : State :=
  s.ethM fun e => { e with
    offAt := some (e.offAt.getD s.now)
    stopped := Vector.replicate 2 true, sending := Vector.replicate 2 false, sv := Vector.replicate 2 none }

/-- R67: the ETH clocks return: what they time goes on from where it stood. -/
def State.ethClockBack (s : State) : State :=
  match s.eth.offAt with
  | none => s
  | some t =>
    let d := s.now - t
    s.ethM fun e => { e with
      offAt := none
      tal := e.tal.map fun x => x.map (· + d)
      dups := e.dups.map fun x => { x with time := x.time + d }
      residence := e.residence.map fun x => { x with time := x.time + d } }

/-! ### The meanings -/

/-- R420. -/
def execEthFrameReceive (p : Fin 2) (f : List Byte) (bad : Bool) (r : Word) (s : State) : Result :=
  .next (s.ethReceive p (f.map BitVec.toNat) bad r.toNat)
/-- R419. -/
def execEthTxKick (p : Fin 2) (s : State) : Result := .next (s.txKick p)
/-- R419. -/
def execEthTxComplete (p : Fin 2) (s : State) : Result := .next (s.txComplete p)
/-- R421. -/
def execEthCfgWrite (v : Word) (s : State) : Result := .next (s.ethCfgWrite v)
/-- R422. -/
def execDupEntryAge (s : State) : Result := .next s.dupAge
/-- R426. -/
def execGooseTalExpire (k : Fin 32) (s : State) : Result := .next (s.talExpire k)
/-- R424. -/
def execPtpResidenceTimeout (s : State) : Result := .next s.residenceTimeout
/-- R427. -/
def execSvPublishRequest (n : Fin 2) (s : State) : Result := .next (s.svRequest n)
/-- R427. -/
def execSvFrameSend (n : Fin 2) (s : State) : Result := .next (s.svSend n)
/-- R418. -/
def execRgmiiInbandStatus (p : Fin 2) (link : Bool) (speed : Fin 4) (s : State) : Result := .next (s.rgmii p link speed)

end Sys2Proof.Machine
end

