-- ==== Sys2Proof/Machine/Irq.lean ====
section
/-! DEFINITION. The interrupt lines (R30) as each block's flags and enables drive them, the computed IRQSTAT registers, and the
routing of a line to the stewards (R354). -/
namespace Sys2Proof.Machine

/-- The flags of a mask that are enabled, with their register. -/
def irqHit (s : State) (flags en mask : Nat) : List (Nat × Nat) := [(flags, s.rdN en &&& mask)]

/-- A flag alone, if it is enabled. -/
def irqFlag (f : Fld) (en : Bool) : Nat × Nat := (f.addr, if en then 2 ^ f.lo else 0)

/-- R30, R56 and the PLL, PWM and DRIVE chapters: the flags of lines 0–39. -/
def irqTiming (s : State) (n : Nat) : List (Nat × Nat) :=
  let g := s.rdN Reg.PWM_GIRQEN
  let legs (m : Nat) : List (Nat × Nat) := (List.range 48).map fun l => (Reg.PWM_LEG_FLAGS l, s.rdN Reg.PWM_LEGIRQEN &&& m)
  if n < 8 then irqHit s Reg.TBL_STATUS Reg.TBL_IRQEN (2 ^ n)
  else if n < 12 then irqHit s Reg.PLL_FLAGS Reg.PLL_IRQEN (2 ^ (n - 8))
  else if n < 20 then irqHit s (Reg.PWM_C_FLAGS (n - 12)) (Reg.PWM_C_IRQEN (n - 12)) 0xF
  else if n = 20 then legs 0x3
  else if n = 21 then legs 0xC
  else if n = 22 then [irqFlag Fd.PWM_GFLAGS_FORCE (g.testBit 0)]
  else if n = 23 then
    [irqFlag Fd.PWM_GFLAGS_SYSF (g.testBit 1), irqFlag Fd.PWM_GFLAGS_PFWF (g.testBit 2), irqFlag Fd.PWM_GFLAGS_DBGF (g.testBit 3)]
  else if n = 24 then [irqFlag Fd.PWM_GFLAGS_WCOLL (g.testBit 4), irqFlag Fd.PWM_GFLAGS_CFGERR (g.testBit 5)]
  else if n = 25 then [irqFlag Fd.PWM_GFLAGS_CALERR (g.testBit 6)]
  else if n < 28 then []
  else irqHit s (Reg.DRIVE_G_FLAGS (n - 28)) (Reg.DRIVE_G_IRQEN (n - 28)) 0xFF

/-- R103: the flags of a group's line of MODIN, or of the line of CFGERR. -/
def irqModin (s : State) (g : Nat) : List (Nat × Nat) :=
  if g < 7 then
    let en := s.rdN (Reg.MODIN_GIRQENG g)
    irqFlag (Fd.MODIN_GFLAGSG_STBOVF g) (en.testBit 16) :: (List.range 8).map fun i =>
      (Reg.MODIN_IN_FLAGS (8 * g + i), (if en.testBit i then 0x3 else 0) + (if en.testBit (8 + i) then 0x3C else 0))
  else [irqFlag Fd.MODIN_GFLAGS_CFGERR (s.on Fd.MODIN_GIRQEN_CFGERREN)]

/-- The flags of a link's two lines: 0 the changes of its state, 1 the rest. -/
def irqLink (s : State) (k : Nat) : List (Nat × Nat) :=
  irqHit s (Reg.LINK_L_FLAGS (k / 2)) (Reg.LINK_L_IRQEN (k / 2)) (if k % 2 = 0 then 0xF else 0xFF0)

/-- R30: the flag registers that drive interrupt source `n`, each with its enabled flags. -/
def irqFlags (s : State) (n : Nat) : List (Nat × Nat) :=
  if n < 40 then irqTiming s n
  else if n < 48 then irqModin s (n - 40)
  else if n = 48 then irqHit s Reg.ACU_FLAGS Reg.ACU_IRQEN 0x1007
  else if n = 49 then irqHit s Reg.ACU_WINSTAT Reg.ACU_WINIRQEN 0xFFFF
  else if n = 50 then irqHit s Reg.ACU_FLAGS Reg.ACU_IRQEN 0x3F8
  else if n = 51 then irqHit s Reg.ACU_FLAGS Reg.ACU_IRQEN 0xC00
  else if n = 52 then irqHit s Reg.METER_FLAGS Reg.METER_IRQEN 0x3
  else if n = 53 then irqHit s Reg.METER_FLAGS Reg.METER_IRQEN 0x3C
  else if n = 54 then irqHit s Reg.METER_FLAGS Reg.METER_IRQEN 0x6C0
  else if n = 55 then irqHit s Reg.METER_FLAGS Reg.METER_IRQEN 0x100
  else if n < 60 then irqHit s (Reg.SEQ_GP_FLAGS (n - 56)) (Reg.SEQ_GP_IRQEN (n - 56)) 0x1F
  else if n < 68 then irqHit s Reg.PROT_FLAGS Reg.PROT_IRQEN (2 ^ (n - 60))
  else if n = 68 then irqHit s Reg.PROBE_FLAGS Reg.PROBE_IRQEN 0x1
  else if n = 69 then irqHit s Reg.PROBE_FLAGS Reg.PROBE_IRQEN 0xFE
  else if n < 102 then irqHit s (Reg.DMA_CH_FLAGS (n - 70)) (Reg.DMA_CH_IRQEN (n - 70)) 0xFF
  else if n < 110 then irqLink s (n - 102)
  else if n = 110 then irqHit s Reg.ETH_FLAGS Reg.ETH_IRQEN 0x11
  else if n = 111 then irqHit s Reg.ETH_FLAGS Reg.ETH_IRQEN 0x22
  else if n = 112 then irqHit s Reg.ETH_FLAGS Reg.ETH_IRQEN 0x4
  else if n = 113 then irqHit s Reg.ETH_FLAGS Reg.ETH_IRQEN 0x8
  else if n = 114 then irqHit s Reg.ETH_FLAGS Reg.ETH_IRQEN 0xC0
  else if n = 115 then irqHit s Reg.ETH_FLAGS Reg.ETH_IRQEN 0x300
  else if n = 116 then irqHit s Reg.ETH_FLAGS Reg.ETH_IRQEN 0xC00
  else if n = 117 then irqHit s Reg.ETH_FLAGS Reg.ETH_IRQEN 0xF000
  else if n = 118 then irqHit s Reg.SEC_FLAGS Reg.SEC_IRQEN 0x1
  else if n = 119 then irqHit s Reg.SEC_FLAGS Reg.SEC_IRQEN 0x1E
  else if n = 120 then irqHit s Reg.SAFE_FLAGS Reg.SAFE_IRQEN 0x1
  else if n = 121 then irqHit s Reg.SAFE_FLAGS Reg.SAFE_IRQEN 0x1E
  else if n = 122 then irqHit s Reg.PMU_FLAGS Reg.PMU_IRQEN 0x1
  else if n = 123 then irqHit s Reg.PMU_FLAGS Reg.PMU_IRQEN 0x6
  else if n = 124 then irqHit s Reg.PMU_FLAGS Reg.PMU_IRQEN 0x78
  else if n = 125 then irqHit s Reg.SENT_FLAGS Reg.SENT_IRQEN 0x1F
  else if n = 126 then irqHit s Reg.MON_FLAGS Reg.MON_IRQEN 0xFFFFFFFF
  else if n = 127 then irqHit s Reg.CONSENT_FLAGS Reg.CONSENT_IRQEN 0x7F
  else []

/-- R30: whether interrupt source `n` is asserted. -/
def irqLine (s : State) (n : Nat) : Bool := (irqFlags s n).any fun p => (s.rdN p.1 &&& p.2) != 0

/-- R478: since when interrupt source `n` is asserted: the first of its flags that stand. -/
def irqSince (s : State) (n : Nat) : Nat :=
  (irqFlags s n).foldl (fun (t : Nat) (p : Nat × Nat) =>
    (List.range 32).foldl (fun (t : Nat) (b : Nat) =>
      if (s.rdN p.1 &&& p.2).testBit b then min t (mapGet (fun _ => s.now) s.flagSince (32 * p.1 + b)) else t) t) s.now

/-- An IRQSTAT register: bit i is line `base + i`. -/
def irqStat (s : State) (base n : Nat) : Nat :=
  ((List.range n).map fun i => if irqLine s (base + i) then 2 ^ i else 0).sum

/-- R354: whether source `n` is asserted and routed to steward `k`. -/
def irqRouted (s : State) (k n : Nat) : Bool :=
  (s.rdN (Reg.SYSCFG_IRQ n)).testBit (4 + k) && irqLine s n

/-- R354: the level of source `n`. -/
def irqLevel (s : State) (n : Nat) : Nat := s.get (Fd.SYSCFG_IRQ_LEVEL n)

/-- R351: the lowest-numbered source at the highest pending level routed to a steward, with its level. -/
def irqPending (s : State) (k : Nat) : Option (Nat × Nat) :=
  (List.range 128).foldl (fun (b : Option (Nat × Nat)) (n : Nat) =>
    if irqRouted s k n then
      match b with
      | some (m, l) => if irqLevel s n < l then some (n, irqLevel s n) else some (m, l)
      | none => some (n, irqLevel s n)
    else b) none

end Sys2Proof.Machine
end

