-- ==== Sys2Proof/Machine/Mon.lean ====
section
/-! DEFINITION. MON: the tally monitors with their capture windows, telemetry and the SRAM scrub (R478–R489). -/
namespace Sys2Proof.Machine

/-- A count that saturates at 0xFFFF_FFFF (R479). -/
def State.tally (s : State) (a : Nat) : State := s.sat32 a

/-- R479: a value is counted: MIN, MAX, COUNT, and its bin or UNDER or OVER. -/
def State.monCount (s : State) (k : Fin 16) (x : Int) : State :=
  let lo := (s.rd (Reg.MON_M_MIN k)).toInt
  let hi := (s.rd (Reg.MON_M_MAX k)).toInt
  let s := s.wrN (Reg.MON_M_MIN k) (enc 32 (satTo 32 (min lo x)))
  let s := s.wrN (Reg.MON_M_MAX k) (enc 32 (satTo 32 (max hi x)))
  let s := s.tally (Reg.MON_M_COUNT k)
  let b := (x - (s.rd (Reg.MON_M_ORIGIN k)).toInt) / (max 1 (s.rdN (Reg.MON_M_WIDTH k)) : Nat)
  if b < 0 then s.tally (Reg.MON_M_UNDER k)
  else if 63 < b then s.tally (Reg.MON_M_OVER k)
  else s.tally (Reg.MON_M_BIN k b.toNat)

/-- R479: a monitor records an accepted value. -/
def State.monRecord (s : State) (k : Fin 16) (x : Int) : State :=
  let s := (s.monCount k x).monM fun m => { m with recent := m.recent.set k (some (s.now, x)) }
  s.raiseIf (decide ((s.rd (Reg.MON_M_ALARM k)).toInt < x)) (Ev.MON_FLAGS_ALARM k)

/-- R478–R480: a monitor takes the oldest value that its source, of class `cls`, has produced. -/
def State.monValue (s : State) (k : Fin 16) (cls : Fin 8) : State :=
  match s.mon.queue[k] with
  | [] => s
  | (x, held) :: q =>
    if s.pmu.warned || s.get (Fd.MON_M_CFG_CLASS k) != cls.val then s
    else
      let s := s.monM fun m => { m with queue := m.queue.set k q }
      if held then s.tally (Reg.MON_M_MISSED k) else s.monRecord k x

/-- R481: a launch of target 108 + w opens or restarts capture window w. -/
def State.monOpen (s : State) (w : Fin 4) : State :=
  s.takeLaunch (108 + w.val) fun s _ =>
    let n := s.rdN (Reg.MON_WINLEN w)
    if n = 0 then s
    else (s.put ⟨Reg.MON_WINSTAT, w.val, 1⟩ 1).monM fun m => { m with win := m.win.set w (some (s.tbl.count, s.tbl.count + n)) }

/-- R481: a capture window's length expires. -/
def State.monClose (s : State) (w : Fin 4) : State :=
  match s.mon.win[w] with
  | some (_, b) =>
    if s.on ⟨Reg.MON_WINSTAT, w.val, 1⟩ && s.canReach b then (s.reachCount b).put ⟨Reg.MON_WINSTAT, w.val, 1⟩ 0 else s
  | none => s

/-- R482: one monitor's MIN, MAX and counts are cleared. -/
def State.monWipe (s : State) (k : Nat) : State :=
  let s := (s.wr (Reg.MON_M_MIN k) 0x7FFFFFFF).wr (Reg.MON_M_MAX k) 0x80000000
  let s := ((s.wr (Reg.MON_M_COUNT k) 0).wr (Reg.MON_M_UNDER k) 0).wr (Reg.MON_M_OVER k) 0
  (List.range 64).foldl (fun s b => s.wr (Reg.MON_M_BIN k b) 0) (s.wr (Reg.MON_M_MISSED k) 0)

/-- R482: one monitor is cleared; a value of the same SYS cycle is counted after the clear. -/
def State.monClearOne (s : State) (k : Fin 16) : State :=
  match s.mon.recent[k] with
  | some (t, x) => if t = s.now then (s.monWipe k).monCount k x else s.monWipe k
  | none => s.monWipe k

/-- R482: a write of MON_CLR. -/
def State.monClear (s : State) (mask : Nat) : State :=
  (List.finRange 16).foldl (fun s (k : Fin 16) => if mask.testBit k.val then s.monClearOne k else s) s

/-- R478: every 100 µs a class-4 monitor sends a MARK request while its link is up. -/
def State.monMark (s : State) (k : Fin 16) : State :=
  if s.on (Fd.MON_M_CFG_EN k) && s.get (Fd.MON_M_CFG_CLASS k) == 4 && s.get (Fd.MON_M_CFG_INDEX k) < 4 && !s.pmu.warned then
    let l : Fin 4 := Fin.ofNat 4 (s.get (Fd.MON_M_CFG_INDEX k))
    let s := s.reachNow s.mon.mark[k]
    if s.linkState l = 2 then
      let s := (s.linkFresh l).portM l fun p => p.sendUnseq { typ := 8, sub := 0, len := 32, body := 0 }
      s.monM fun m => { m with mark := m.mark.set k (s.now + 100 * tUs) }
    else s
  else s

/-- R458: the energy in mJ that CHOLD holds for a save sequence, ½ C (V² − V_end²), from 18 V on. -/
def State.eAvail (s : State) : Nat :=
  let v := s.get Fd.PMU_CHOLD_MV
  let vend := 10000 + s.get Fd.PMU_HUMEAS_ESR * 65 / 100
  if v < 18000 then 0 else min 65535 (s.get Fd.PMU_HUMEAS_CAP * (v * v - vend * vend) / (2 * 10 ^ 9))

/-- R478, R483: the temperatures and supplies are measured, and the monitors of classes 6 and 7 get their values. -/
def State.telemetry (s : State) (t : Telemetry) : State :=
  let s := (List.finRange 4).foldl (fun s (i : Fin 4) => s.wr (Reg.MON_TEMP i) t.temps[i]) s
  let s := (s.put Fd.PMU_VIN_MV t.vin.toNat).put Fd.PMU_CHOLD_MV t.chold.toNat
  let s := s.put Fd.PMU_HUEAV_MJ s.eAvail
  let s := (s.put Fd.MON_BGBW_SHARE t.share.toNat).monM fun m => { m with vio := t.vio.map BitVec.toNat }
  let s := (List.finRange 4).foldl (fun (s : State) (i : Fin 4) => s.monPost 6 i.val t.temps[i].toInt s.tbl.count) s
  let supplies := [t.vin.toNat, t.chold.toNat] ++ (t.vio.map BitVec.toNat).toList
  (List.range 10).foldl (fun (s : State) (i : Nat) => s.monPost 7 i (supplies.getD i 0 : Nat) s.tbl.count) s

/-- R21, R484: the scrub reads one word of the SRAM, for which it holds a tag, and corrects or reports an error. -/
def State.scrub (s : State) (f : ScrubFind) : State :=
  if s.pmu.warned || !s.on Fd.PLL_STATUS_SYSLOCK || !s.tagFree 15 then s
  else
    let s := s.reachNow s.mon.scrubAt
    let a := s.mon.scrub
    let last := a + 8 == 0x20400000
    let s := s.monM fun m => { m with scrub := if last then 0x20000000 else a + 8, scrubAt := s.now + 7600 * tNs }
    let s := if last then s.inc32 Reg.MON_SCRUBPASS else s
    match f with
    | .clean => s
    | .single => (s.tally Reg.MON_SRAMCE).raise Ev.MON_FLAGS_SRAMCE
    | .double =>
      let s := (s.tally Reg.MON_SRAMUE).raise Ev.MON_FLAGS_SRAMUE
      (s.put Fd.MON_SRAMUEADDR_ADDR (a / 8)).monM fun m => { m with ecc := a :: m.ecc.erase a }

/-- R478. -/
def execMonitorValue (k : Fin 16) (c : Fin 8) (s : State) : Result := .next (s.monValue k c)
/-- R481. -/
def execMonitorWindowLaunch (w : Fin 4) (s : State) : Result := .next (s.monOpen w)
/-- R481. -/
def execMonitorWindowClose (w : Fin 4) (s : State) : Result := .next (s.monClose w)
/-- R482. -/
def execMonitorClear (m : BitVec 16) (s : State) : Result := .next (s.monClear m.toNat)
/-- R478. -/
def execMonitorMark (k : Fin 16) (s : State) : Result := .next (s.monMark k)
/-- R483. -/
def execTelemetrySample (t : Telemetry) (s : State) : Result := .next (s.telemetry t)
/-- R484. -/
def execSramScrub (f : ScrubFind) (s : State) : Result := .next (s.scrub f)

end Sys2Proof.Machine
end

