-- ==== Sys2Proof/Machine/Flags.lean ====
section
/-! DEFINITION. The numeric rules of the cores: saturation with its event, which sets SR.C, and rounding (R137–R140). -/
namespace Sys2Proof.Machine

/-- A result word and whether a saturating event occurred (R137). -/
abbrev Flagged := Word × Bool

/-- R137: a result without a saturating event. -/
def plain (v : Word) : Flagged := (v, false)

/-- R137: sat32, and whether it changed its argument. -/
def sat32Of (x : Int) : Flagged := (BitVec.ofInt 32 (satTo 32 x), satTo 32 x != x)

/-- R137: sat72, and whether it changed its argument. -/
def sat72Of (x : Int) : Acc × Bool := (BitVec.ofInt 72 (satTo 72 x), satTo 72 x != x)

/-- R137: round(x / 2^k), half away from zero. -/
def roundAway (x : Int) (k : Nat) : Int :=
  if k = 0 then x else x.sign * (((x.natAbs + 2 ^ (k - 1)) / 2 ^ k : Nat) : Int)

/-- R141: the sum of two words, saturated. -/
def addSat (a b : Word) : Flagged := sat32Of (a.toInt + b.toInt)

/-- R141: the difference of two words, saturated. -/
def subSat (a b : Word) : Flagged := sat32Of (a.toInt - b.toInt)

/-- R141: SHL. -/
def shl (a : Word) (n : Nat) : Word := a <<< n

/-- R141: SHR. -/
def shr (a : Word) (n : Nat) : Word := a >>> n

/-- R141: SRA. -/
def sra (a : Word) (n : Nat) : Word := a.sshiftRight n

/-- R141: SHLS. -/
def shlSat (a : Word) (n : Nat) : Flagged := sat32Of (a.toInt * 2 ^ n)

/-- R141: MULQ. -/
def mulq (a b : Word) : Flagged := sat32Of (roundAway (a.toInt * b.toInt) 31)

/-- R141: DIV. -/
def divSigned (a b : Word) : Flagged :=
  if b = 0 then ((if a.toInt < 0 then 0x80000000 else 0x7FFFFFFF), true)
  else sat32Of (a.toInt.tdiv b.toInt)

/-- R141: DIVU. -/
def divUnsigned (a b : Word) : Flagged :=
  if b = 0 then (0xFFFFFFFF, true) else (BitVec.ofNat 32 (a.toNat / b.toNat), false)

/-- R141: CLZ. -/
def leadingZeros (a : Word) : Nat :=
  if a = 0 then 32 else 31 - a.toNat.log2

/-- R138: the VALUE of a coefficient entry. -/
def coefValue (e : Nat) : Int := sx 32 e

/-- R138: the SHIFT of a coefficient entry. -/
def coefShift (e : Nat) : Int := sx 6 (e / 2 ^ 32)

/-- R139: the shifted product of a coefficient entry and a data word, before its saturation. -/
def coefProduct (x : Word) (e : Nat) : Int :=
  let p := x.toInt * coefValue e
  let k := coefShift e
  if 0 ≤ k then p * 2 ^ k.toNat else p / 2 ^ (-k).toNat

/-- R139: a multiply-accumulate step. -/
def macStep (w : Acc) (sub : Bool) (x : Word) (e : Nat) : Acc × Bool :=
  let q := sat72Of (coefProduct x e)
  let r := sat72Of (if sub then w.toInt - q.1.toInt else w.toInt + q.1.toInt)
  (r.1, q.2 || r.2)

/-- R140: EXTR. -/
def extract (w : Acc) (shift : Int) : Flagged := sat32Of (roundAway (w.toInt * 2 ^ (shift + 32).toNat) 63)

end Sys2Proof.Machine
end

