-- ==== Sys2Proof/Machine/Operands.lean ====
section
/-! DEFINITION. The operand forms of the instructions: predicates, register fields, immediates, which words are legal
(R129–R132), effective addresses and the registers of a core. -/
namespace Sys2Proof
open Sys2Proof.Machine

/-! ### Predicates -/

/-- R129: PRED is not reserved. -/
def predOk (p : BitVec 4) : Bool := p == 0 || p.getLsbD 2

/-- R129: the condition that PRED names. -/
def predTrue (p : BitVec 4) (preds : BitVec 4) : Bool :=
  if p = 0 then true else preds.getLsbD (p.toNat % 4) != p.getLsbD 3

/-! ### Register fields -/

/-- R130: what a register field of an instruction names; `zero` is a field it does not use. -/
inductive Fk where
  | d | a | w | p | lc | bit | any | zero
  deriving DecidableEq, Repr

/-- R130, R132: the unused bits of a field are 0. -/
def Fk.ok (k : Fk) (v : BitVec 4) : Bool :=
  match k with
  | .d | .any => true
  | .a => v.toNat < 8
  | .w | .p => v.toNat < 4
  | .lc | .bit => v.toNat < 2
  | .zero => v.toNat == 0

/-- R132: the word of an R instruction is legal; `res` tells which values of bits [2:0] are. -/
def RForm.legal (f : RForm) (kd ka kb : Fk) (res : Nat → Bool) : Bool :=
  predOk f.pred && !f.e && kd.ok f.rd && ka.ok f.ra && kb.ok f.rb && res f.res.toNat

/-- R130: bits [2:0] of an R instruction other than SEL. -/
def resZero (v : Nat) : Bool := v == 0

/-- R130: bits [2:0] of SEL: PS, and bit 2 reserved. -/
def resSel (v : Nat) : Bool := v < 4

/-- R130, R142: the immediate: IMM sign-extended, or the extension word. -/
def IForm.value (f : IForm) : Word := f.ext.getD (f.imm.signExtend 32)

/-- R130, R132: the word of an I instruction is legal; `bits` are the bits of the immediate that it uses; IMM is unused
beside an extension word. -/
def IForm.legal (f : IForm) (kd ka : Fk) (bits : Nat) : Bool :=
  predOk f.pred && kd.ok f.rd && ka.ok f.ra &&
    (match f.ext with
     | some w => f.imm == 0 && (bits == 32 || decide (w.toNat < 2 ^ bits))
     | none => bits == 32 || decide (f.imm.toNat < 2 ^ bits))

/-- R129: the low bits of the immediate, for instructions that use only those. -/
def IForm.small (f : IForm) : Nat := match f.ext with | some w => w.toNat | none => f.imm.toNat

/-- R148: the signed shift of EXTR. -/
def IForm.shift (f : IForm) : Int := sx 6 f.small

/-- R130, R132, R144: the word of an M instruction is legal: `rd` tells which values of RD are, `modes` how many values of
AM; OFS is unused beside an extension word. -/
def MForm.legal (f : MForm) (rd : Nat → Bool) (modes : Nat) : Bool :=
  predOk f.pred && rd f.rd.toNat && decide (f.am.toNat < modes) && (f.ext.isNone || f.ofs == 0)

/-- RD of a load or store of a data register. -/
def rdAny (_ : Nat) : Bool := true

/-- R145: RD of LD.D and ST.D is even. -/
def rdEven (n : Nat) : Bool := n % 2 == 0

/-- R130: RD of LDA and STA names an address register. -/
def rdAddr (n : Nat) : Bool := n < 8

/-- R144: the offset in bytes, of an instruction whose OFS is scaled by `scale`. -/
def MForm.off (f : MForm) (scale : Nat) : Word :=
  match f.ext with
  | some w => w
  | none => BitVec.ofInt 32 (f.ofs.toInt * scale)

/-- R144: the effective address, for the word in a[AB]. -/
def MForm.addr (f : MForm) (base : Word) (scale : Nat) : Word := if f.am = 1 then base else base + f.off scale

/-- R144: what a[AB] becomes, if it changes. -/
def MForm.update (f : MForm) (base : Word) (scale : Nat) : List (Fin 8 × Word) :=
  if f.am = 0 then [] else [(f.ab, base + f.off scale)]

/-- R132, R146: the word of a multiply-accumulate instruction is legal: D is 0 in the forms with a data operand in memory,
AX and IX are 0 in the others. -/
def CForm.legal (f : CForm) (inMemory : Bool) : Bool :=
  predOk f.pred && !f.e && f.res == 0 && (if inMemory then f.d == 0 && f.ix != 3 else f.ax == 0 && f.ix == 0)

/-- R130, R132: the word of a branch is legal; OFF is unused beside an extension word. -/
def BForm.legal (f : BForm) : Bool := predOk f.pred && (f.ext.isNone || f.off == 0)

/-- R127, R149: an address that the pc takes is a multiple of 4: bits [1:0] are ignored (DESIGN CHOICE, log entry 17). -/
def pcOf (a : Word) : Word := a &&& 0xFFFFFFFC

/-- R149: the target of a branch at `pc`. -/
def BForm.target (f : BForm) (pc : Word) : Word :=
  match f.ext with
  | some w => pcOf w
  | none => pcOf (pc + f.off.signExtend 32 * 4)

/-- R132, R150: the word of LOOP is legal. -/
def LForm.legal (f : LForm) : Bool := predOk f.pred && !f.e && f.stop != 0 && (!f.cr || decide (f.count.toNat < 16))

/-- R132: the word of SMP is legal. -/
def SForm.legal (f : SForm) : Bool := predOk f.pred && !f.e && f.res == 0 && (!f.cr || decide (f.ch.toNat < 16))

namespace Machine

/-! ### The registers of a core (R127) -/

/-- A data register. -/
def Cpu.gd (c : Cpu) (n : BitVec 4) : Word := c.d[n.toNat]

/-- An address register, by the low bits of a field. -/
def Cpu.ga (c : Cpu) (n : BitVec 4) : Word := c.a[n.toNat % 8]

/-- An accumulator, by the low bits of a field. -/
def Cpu.gw (c : Cpu) (n : BitVec 4) : Acc := c.w[n.toNat % 4]

/-- A predicate, by the low bits of a field. -/
def Cpu.gp (c : Cpu) (n : BitVec 4) : Bool := c.p.getLsbD (n.toNat % 4)

/-- Writes a data register. -/
def Cpu.sd (c : Cpu) (n : BitVec 4) (v : Word) : Cpu := { c with d := c.d.set n.toNat v }

/-- Writes an address register. -/
def Cpu.sa (c : Cpu) (n : BitVec 4) (v : Word) : Cpu := { c with a := c.a.set (n.toNat % 8) v }

/-- Writes an accumulator. -/
def Cpu.sw (c : Cpu) (n : BitVec 4) (v : Acc) : Cpu := { c with w := c.w.set (n.toNat % 4) v }

/-- A bit of a word replaced. -/
def setBitAt {w : Nat} (x : BitVec w) (i : Nat) (b : Bool) : BitVec w :=
  if b then x ||| (1#w <<< i) else x &&& ~~~(1#w <<< i)

/-- Writes a predicate. -/
def Cpu.sp (c : Cpu) (n : BitVec 4) (b : Bool) : Cpu := { c with p := setBitAt c.p (n.toNat % 4) b }

/-- R137: a saturating event sets SR.C. -/
def Cpu.event (c : Cpu) (b : Bool) : Cpu := { c with carry := c.carry || b }

/-- Writes a data register with a result that may have saturated. -/
def Cpu.sdc (c : Cpu) (n : BitVec 4) (r : Flagged) : Cpu := (c.sd n r.1).event r.2

/-- Writes an accumulator with a result that may have saturated. -/
def Cpu.swc (c : Cpu) (n : BitVec 4) (r : Acc × Bool) : Cpu := (c.sw n r.1).event r.2

/-- Writes a list of address registers. -/
def Cpu.updates (c : Cpu) (l : List (Fin 8 × Word)) : Cpu := l.foldl (fun c u => { c with a := c.a.set u.1 u.2 }) c

/-- R145, R146: a loaded value reaches its destination. -/
def Cpu.loaded (c : Cpu) (dst : LoadDst) (size v : Nat) : Cpu :=
  match dst with
  | .d rd signed => { c with d := c.d.set rd (if signed then BitVec.ofInt 32 (sx (8 * size) v) else BitVec.ofNat 32 v) }
  | .pair rd => { c with d := (c.d.set (rd.val / 2 * 2) (BitVec.ofNat 32 v)).set (rd.val / 2 * 2 + 1) (BitVec.ofNat 32 (v / 2 ^ 32)) }
  | .a rd => { c with a := c.a.set rd (BitVec.ofNat 32 v) }
  | .mac w sub e =>
    let r := macStep c.w[w] sub (BitVec.ofNat 32 v) e
    ({ c with w := c.w.set w r.1 }).event r.2
  | .coefC w sub x =>
    let r := macStep c.w[w] sub x v
    ({ c with w := c.w.set w r.1 }).event r.2
  | .coefD _ _ _ => c

/-! ### Loops (R150) -/

/-- R150: whether loop `k` ends at the word `e`. -/
def Cpu.loopAt (c : Cpu) (k : Fin 2) (e : Nat) : Option LoopArm := c.loops[k].filter fun l => l.last == e

/-- R150: the body of loop `k` has completed: it repeats (true), or it ends. -/
def Cpu.loopTurn (c : Cpu) (k : Fin 2) (l : LoopArm) : Cpu × Bool :=
  if 1 < c.lc[k].toNat then ({ c with lc := c.lc.set k (c.lc[k] - 1), pc := BitVec.ofNat 32 l.start }, true)
  else ({ c with lc := c.lc.set k 0, loops := c.loops.set k none }, false)

/-- R150: what follows an instruction that ended at the last word of a body without a taken branch: lc1 nests in lc0. -/
def Cpu.loopEnd (c : Cpu) : Cpu :=
  match c.ended with
  | none => c
  | some e =>
    let c := { c with ended := none }
    let r1 := match c.loopAt 1 e with
      | some l => c.loopTurn 1 l
      | none => (c, false)
    if r1.2 then r1.1
    else
      match r1.1.loopAt 0 e with
      | some l => (r1.1.loopTurn 0 l).1
      | none => r1.1

/-- R150: a taken branch whose last word is a body's last word ends that loop. -/
def Cpu.branch (c : Cpu) (last : Nat) (target : Word) (next : Nat) : Cpu :=
  { c with
    loops := Vector.ofFn fun k : Fin 2 => if (c.loopAt k last).isSome then none else c.loops[k]
    prev := c.pc, pc := target, ended := none, next := next, step := false }

/-- An instruction of `len` bytes completes without a taken branch; the next may issue at `next`. -/
def Cpu.retire (c : Cpu) (len next : Nat) : Cpu :=
  { c with prev := c.pc, ended := some ((c.pc.toNat + len - 4) % 2 ^ 32), pc := c.pc + BitVec.ofNat 32 len, next := next
           step := false }

/-- LOOP with a count of 0: execution continues after the body. -/
def Cpu.skipTo (c : Cpu) (len : Nat) (target : Word) (next : Nat) : Cpu := { c.retire len next with pc := target, ended := none }

/-- The bytes of the instruction that waits. -/
def CoreWait.len : CoreWait → Nat
  | .load _ _ _ _ l _ | .store _ _ _ _ l _ | .atomic _ _ _ l => l
  | .fence | .drain => 4

/-- R167: the pc of the instruction that would issue next: the one after an instruction that waits, else the pc, a loop's
turn taken. -/
def Cpu.nextPc (c : Cpu) : Word :=
  (match c.wait with
   | some w => c.retire w.len c.next
   | none => c).loopEnd.pc

end Machine

end Sys2Proof
end

