-- ==== Sys2Proof/Machine/RkTasks.lean ====
section
/-! DEFINITION. The reckoners' tasks: launches, dispatch, deadlines and aborts, releases, bank swaps (R160–R188). -/
namespace Sys2Proof.Machine

/-- Replaces a reckoner's hidden state. -/
def State.rkM (s : State) (n : Fin 4) (f : Rk → Rk) : State := { s with rk := s.rk.upd n f }

/-- R156: a reckoner's COREID. -/
def rkCore (n : Fin 4) : Fin 6 := ⟨n.val, by omega⟩

/-- R156: a steward's COREID. -/
def stCore (n : Fin 2) : Fin 6 := ⟨4 + n.val, by omega⟩

/-- R16: the base of a reckoner's tightly coupled memory. -/
def tcmBase (n : Fin 4) : Nat := 0x24000000 + n.val * 0x40000

/-- R188: the word index recorded for an address of the instruction memory. -/
def pcWord (n : Fin 4) (pc : Nat) : Nat := (pc + 2 ^ 32 - tcmBase n) / 4 % 2 ^ 14

/-- R188: RUN, SLOT, PEND and IDLE show what the reckoner does. -/
def State.rkShow (s : State) (n : Fin 4) : State :=
  let r := s.rk[n]
  let pend := (List.finRange 8).foldl (fun (a : Nat) (k : Fin 8) => a + r.pend[k].isSome.toNat * 2 ^ k.val) 0
  let s := (s.putB (Fd.SYSCFG_RK_STATUS_RUN n) r.task.isSome).put (Fd.SYSCFG_RK_STATUS_PEND n) pend
  let s := match r.task with
    | some t => s.put (Fd.SYSCFG_RK_STATUS_SLOT n) t.slot
    | none => s
  s.putB (Fd.SYSCFG_RK_STATUS_IDLE n) (r.task.isNone && pend == 0)

/-! ### Starting and dispatching (R162–R165) -/

/-- R176: a bank swap is taken at the task start at `t`. -/
def State.rkSwapTake (s : State) (n : Fin 4) (t : Nat) : State :=
  let s := (s.put (Fd.SYSCFG_RK_STATUS_SWPPEND n) 0).put (Fd.SYSCFG_RK_STATUS_BANK n) (1 - s.get (Fd.SYSCFG_RK_STATUS_BANK n))
  let s := (s.put (Fd.SYSCFG_RK_BANKCTL_SWAPCNT n) (s.get (Fd.SYSCFG_RK_BANKCTL_SWAPCNT n) + 1)).raise (Ev.SYSCFG_RK_FLAGS_SWAPD n)
  s.rkM n fun r => { r with swapAt := some t }

/-- R168: the errors of posted stores that came before `t` while no task ran abort nothing. -/
def State.rkGapErrors (s : State) (n : Fin 4) (t : Nat) : State :=
  let early := s.rk[n].errors.filter fun e => e.2 < t
  early.foldl (fun s e => (s.raise (Ev.SYSCFG_RK_FLAGS_EXC n)).wrN (Reg.SYSCFG_RK_LASTABORT n) (3 + 256 * e.1))
    (s.rkM n fun r => { r with errors := r.errors.filter fun e => t ≤ e.2 })

/-- R165, R177: the start actions; the first instruction issues at `at'`. A CANCEL of the same RK cycle has no effect. -/
def State.rkStart (s : State) (n : Fin 4) (k : Fin 8) (p : RkPend) (at' : Nat) : State :=
  let s := s.rkGapErrors n at'
  let s := if s.on (Fd.SYSCFG_RK_STATUS_SWPPEND n) || s.rk[n].cancelAt == some at' then s.rkSwapTake n at' else s
  let pc := BitVec.ofNat 32 (tcmBase n + 4 * s.get (Fd.SYSCFG_SLOT_CFG_ENTRY n k))
  let s := s.cpuM (rkCore n) fun c =>
    { c with carry := false, loops := Vector.replicate 2 none, pc := pc, prev := pc, ended := none, next := at', wait := none }
  let s := s.monPost 0 (16 + 8 * n.val + k.val) (roundLatency ((at' : Int) - p.matched)) s.tbl.count
  (s.rkM n fun r =>
    { r with task := some ⟨k, p.launch, p.due, at'⟩, pend := r.pend.set k none, staged := [], swapWrite := false, tdone := none
             cancelAt := none, abortNow := false }).rkShow n

/-- R166: the deadline of a launch delivered at `l`. -/
def State.rkDue (s : State) (n : Fin 4) (k : Fin 8) (l : Nat) : Option Nat :=
  let d := s.get (Fd.SYSCFG_SLOT_DL_DL n k)
  if d = 0 then none else some (l + 32 * d)

/-- R184: a reckoner in debug halt. -/
def State.rkHalted (s : State) (n : Fin 4) : Bool := s.cpu[rkCore n].halted

/-- R162: a launch of slot `k` is delivered at `l`. -/
def State.rkDeliver (s : State) (n : Fin 4) (k : Fin 8) (l matched : Nat) : State :=
  let r := s.rk[n]
  if s.pmu.warned then s
  else if !s.on (Fd.SYSCFG_RK_CTRL_EN n) || !s.on (Fd.SYSCFG_SLOT_CFG_EN n k) then s.raise (Ev.SYSCFG_RK_FLAGS_DROP n)
  else if r.pend[k].isSome then (s.raise (Ev.SYSCFG_RK_FLAGS_OVR n)).sat16 (Reg.SYSCFG_SLOT_OVRCNT n k)
  else
    let p : RkPend := ⟨l, s.rkDue n k l, matched⟩
    if r.task.isNone && r.freeAt ≤ l && r.pend.toList.all Option.isNone && !s.rkHalted n then s.rkStart n k p l
    else (s.rkM n fun r => { r with pend := r.pend.set k (some p) }).rkShow n

/-- R54, R161: a launch of target 16 + 8n + k reaches the reckoner in the first RK cycle 13 ns or more after its
match; one that waited for the RK clock, four cycles after its return. -/
def State.rkLaunch (s : State) (n : Fin 4) (k : Fin 8) : State :=
  s.takeLaunch (16 + 8 * n.val + k.val) fun s l =>
    let t := rkUp (max (l.matched + 208) (s.pll.sysBackAt + 128))
    (s.reachNow t).rkDeliver n k t l.matched

/-- R167, R169: records an abort. -/
def State.rkRecord (s : State) (n : Fin 4) (code slot pcw : Nat) : State :=
  s.wrN (Reg.SYSCFG_RK_LASTABORT n) (code + 256 * slot + 65536 * pcw)

/-- R167: a pending launch that reaches its deadline is removed. -/
def State.rkDropPend (s : State) (n : Fin 4) (k : Fin 8) : State :=
  let s := s.rkM n fun r => { r with pend := r.pend.set k none }
  let s := (s.raise (Ev.SYSCFG_RK_FLAGS_MISS n)).sat16 (Reg.SYSCFG_SLOT_MISSCNT n k)
  (s.rkRecord n 16 k (s.get (Fd.SYSCFG_SLOT_CFG_ENTRY n k))).rkShow n

/-- Whether a deadline has come by time `t`. -/
def dueBy (d : Option Nat) (t : Nat) : Bool := match d with | some x => decide (x ≤ t) | none => false

/-- R167: pending launches whose deadlines have come by `t` are removed. -/
def State.rkExpire (s : State) (n : Fin 4) (t : Nat) : State :=
  (List.finRange 8).foldl (fun (s : State) (k : Fin 8) =>
    match s.rk[n].pend[k] with
    | some p => if dueBy p.due t then s.rkDropPend n k else s
    | none => s) s

/-- R164: the pending slot with the lowest number starts when the dispatch gap ends. -/
def State.rkDispatch (s : State) (n : Fin 4) : State :=
  if s.rk[n].task.isSome || s.rkHalted n || !s.sysPllClk then s
  else
    let t := s.rk[n].freeAt
    let s := s.rkExpire n t
    match (List.finRange 8).find? fun (k : Fin 8) => s.rk[n].pend[k].isSome with
    | none => s
    | some k =>
      match s.rk[n].pend[k] with
      | some p => (s.reachNow t).rkStart n k p t
      | none => s

/-! ### Ends (R164, R167, R168, R173) -/

/-- R159, R184: a reckoner enters debug halt. -/
def State.rkHaltNow (s : State) (n : Fin 4) : State :=
  ((s.cpuM (rkCore n) fun x => { x with halted := true, haltReq := false, step := false }).rkM n fun r =>
    { r with haltAt := some s.now }).put (Fd.SYSCFG_RK_STATUS_HALT n) 1

/-- R164: the task ends at `t`; a debug halt that waited for it takes effect. -/
def State.rkEnd (s : State) (n : Fin 4) (t : Nat) : State :=
  let s := s.cpuM (rkCore n) fun c => { c with loops := Vector.replicate 2 none, ended := none, wait := none }
  let s := if s.cpu[rkCore n].haltReq then (s.reachNow t).rkHaltNow n else s
  (s.rkM n fun r => { r with task := none, staged := [], tdone := none, freeAt := t + 96, abortNow := false }).rkShow n

/-- R167, R168: the running task is aborted at `t` with a code; `pc` is recorded. SWPPEND follows R167, after a loss of the system
PLL too, of which R186 does not say it (DESIGN CHOICE, log entry 21). -/
def State.rkAbort (s : State) (n : Fin 4) (code pc t : Nat) : State :=
  match s.rk[n].task with
  | none => s
  | some k =>
    let s := match s.cpu[rkCore n].wait with
      | some (.load a z _ _ _ _) =>
        if s.rk[n].posted.isEmpty then s.rkM n fun r => { r with discard := r.discard ++ [(a, z)] } else s
      | _ => s
    let s := s.putB (Fd.SYSCFG_RK_STATUS_SWPPEND n) s.rk[n].swapWrite
    let s :=
      if code = 16 then (s.raise (Ev.SYSCFG_RK_FLAGS_MISS n)).sat16 (Reg.SYSCFG_SLOT_MISSCNT n k.slot)
      else if code = 18 then s
      else s.raise (Ev.SYSCFG_RK_FLAGS_EXC n)
    (s.rkRecord n code k.slot (pcWord n pc)).rkEnd n t

/-- The issue time and the pc of the instruction that would issue next. -/
def State.rkNext (s : State) (n : Fin 4) : Nat × Nat := (s.cpu[rkCore n].next, s.cpu[rkCore n].nextPc.toNat)

/-- R167, R168: the running task is aborted at the instruction boundary `t` with a code, unless its deadline comes first; the pc is
that of the instruction that would have issued next. -/
def State.rkAbortAt (s : State) (n : Fin 4) (code t : Nat) : State :=
  let held := s.rkHalted n && !s.on (Fd.SYSCFG_RK_CTRL_DBGDL n)
  match (if held || s.rk[n].tdone.isSome then none else (s.rk[n].task.bind (·.due)).filter (· ≤ t)) with
  | some d => (s.reachNow d).rkAbort n 16 (s.rkNext n).2 d
  | none => s.rkAbort n code (s.rkNext n).2 t

/-- R168: ABORTNOW takes effect at `at'`: the running task is aborted at the next instruction boundary, unless its TDONE
has issued. -/
def State.rkAbortNow (s : State) (n : Fin 4) (at' : Nat) : State :=
  let r := s.rk[n]
  if r.task.isNone || r.tdone.isSome then s
  else if s.cpu[rkCore n].wait.isSome then s.rkM n fun r => { r with abortNow := true }
  else s.rkAbortAt n 17 (max (s.rkNext n).1 at')

/-- R158, R168: a posted store's bus error is reported at the next instruction boundary, to the task that then runs; PCW is the pc
of the next instruction to issue, the boundary having no faulting one (DESIGN CHOICE, log entry 21). -/
def State.rkStoreError (s : State) (n : Fin 4) : State :=
  match s.rk[n].errors with
  | [] => s
  | (k, e) :: rest =>
    if s.rk[n].task.isSome && s.cpu[rkCore n].wait.isSome then s
    else
      let s := s.rkM n fun r => { r with errors := rest }
      if s.rk[n].task.isSome then s.rkAbortAt n 3 (max (s.rkNext n).1 (rkUp e))
      else (s.raise (Ev.SYSCFG_RK_FLAGS_EXC n)).rkRecord n 3 k 0

/-- R168: an instruction boundary, with ABORTNOW or a store's error waiting. -/
def State.rkBoundary (s : State) (n : Fin 4) : State :=
  if s.cpu[rkCore n].wait.isSome || s.rk[n].task.isNone then s
  else if s.rk[n].abortNow then (s.rkM n fun r => { r with abortNow := false }).rkAbortNow n (rkUp s.now)
  else s.rkStoreError n

/-- R167, R184: the earliest deadline of the running task and the pending launches comes without TDONE; a debug halt
with DBGDL = 0 holds the counts. -/
def State.rkDeadline (s : State) (n : Fin 4) : State :=
  let r := s.rk[n]
  if s.rkHalted n && !s.on (Fd.SYSCFG_RK_CTRL_DBGDL n) then s
  else
    let run : Option Nat := match r.task with
      | some t => if r.tdone.isNone then t.due else none
      | none => none
    let pend := (List.finRange 8).foldl (fun (best : Option (Nat × Fin 8)) (k : Fin 8) =>
      match r.pend[k] with
      | some p =>
        match p.due, best with
        | some d, none => some (d, k)
        | some d, some b => if d < b.1 then some (d, k) else some b
        | none, b => b
      | none => best) none
    match run, pend with
    | some d, some (e, k) =>
      if e < d then (s.reachNow e).rkDropPend n k else (s.reachNow d).rkAbort n 16 (s.rkNext n).2 d
    | some d, none => (s.reachNow d).rkAbort n 16 (s.rkNext n).2 d
    | none, some (e, k) => (s.reachNow e).rkDropPend n k
    | none, none => s

/-- R166, R170: TDONE issues at `t` and passes. -/
def State.rkTdone (s : State) (n : Fin 4) (t : Nat) : State :=
  match s.rk[n].task with
  | none => s
  | some k =>
    let resp := (t - k.launch) / 32
    let s := s.raiseIf s.cpu[rkCore n].carry (Ev.SYSCFG_RK_FLAGS_CARRY n)
    let s := s.wrN (Reg.SYSCFG_SLOT_LASTCYC n k.slot) (resp % 2 ^ 24)
    let s := if s.rdN (Reg.SYSCFG_SLOT_MAXCYC n k.slot) < resp then s.wrN (Reg.SYSCFG_SLOT_MAXCYC n k.slot) (min resp (2 ^ 24 - 1)) else s
    let s := s.inc32 (Reg.SYSCFG_SLOT_DONECNT n k.slot)
    let s := s.cpuM (rkCore n) fun c => { c with loops := Vector.replicate 2 none, wait := some .drain, next := t + 64 }
    s.rkM n fun r => { r with tdone := some t }

/-- R172: a destination of the SYS part. -/
def sysDest (d : Nat) : Bool := (0x200 ≤ d && d ≤ 0x203) || (0x210 ≤ d && d ≤ 0x213)

/-- R164, R168, R173: TDONE's drain ends; the task ends and its staging leaves as one unit. A posted store that failed in
the drain is charged to the task, which is aborted at its end (log entry 21). -/
def State.rkTaskEnd (s : State) (n : Fin 4) : State :=
  let r := s.rk[n]
  match r.tdone with
  | none => s
  | some t =>
    if r.posted.isEmpty then
      let e := max (t + 64) (rkUp r.emptyAt)
      let s := s.reachNow e
      if !r.errors.isEmpty then
        (s.rkM n fun r => { r with errors := r.errors.drop 1 }).rkAbort n 3 s.cpu[rkCore n].pc.toNat e
      else
      let a := r.staged.filter fun d => !sysDest d.1
      let b := r.staged.filter fun d => sysDest d.1
      let s := s.rkM n fun r =>
        { r with
          relPwm := if a.isEmpty then r.relPwm else r.relPwm ++ [⟨e, a⟩]
          relSys := if b.isEmpty then r.relSys else r.relSys ++ [⟨e, b⟩] }
      s.rkEnd n e
    else s

/-! ### Landing (R173–R175) -/

/-- One landed value: its reckoner, its destination, its word. -/
structure Landed where
  n : Fin 4
  dest : Nat
  v : Word
  deriving DecidableEq, Repr

/-- R174: destinations whose bits combine by OR. -/
def orDest (d : Nat) : Bool := d == 0xC8 || d == 0xD0

/-- R174: a value that a higher-numbered reckoner overwrites in the same cycle. -/
def overwritten (ls : List Landed) (x : Landed) : Bool :=
  !orDest x.dest && ls.any fun y => y.dest == x.dest && x.n.val < y.n.val

/-- R172: the shadow a destination reaches. -/
def shadowOf (d : Nat) : Option Shadow :=
  if d < 0x30 then some (.cmpa (Fin.ofNat 48 d))
  else if 0x40 ≤ d ∧ d < 0x70 then some (.cmpb (Fin.ofNat 48 (d - 0x40)))
  else if 0x80 ≤ d ∧ d < 0xB0 then some (.ofs (Fin.ofNat 48 (d - 0x80)))
  else if 0xC0 ≤ d ∧ d < 0xC8 then some (.per (Fin.ofNat 8 (d - 0xC0)))
  else none

/-- The bits of an OR destination. -/
def orBits (ls : List Landed) (d : Nat) : Nat := ls.foldl (fun a x => if x.dest = d then a ||| x.v.toNat else a) 0

/-- One value lands; `arms` are the carriers that this landing arms. -/
def State.landOne (s : State) (arms : Nat) (x : Landed) : State :=
  match shadowOf x.dest with
  | some sh => s.shadowRelease sh x.v (arms.testBit (s.shadowCar sh).val)
  | none =>
    if 0x100 ≤ x.dest ∧ x.dest < 0x130 then s.codeRelease (Fin.ofNat 48 (x.dest - 0x100)) x.v
    else if 0x200 ≤ x.dest ∧ x.dest < 0x204 then s.seqRefRelease (Fin.ofNat 4 (x.dest - 0x200)) x.v
    else if 0x210 ≤ x.dest ∧ x.dest < 0x214 then s.probeRefRelease (x.dest - 0x210) x.v
    else s

/-- The oldest release of a reckoner in one part. -/
def Rk.head (r : Rk) (sys : Bool) : Option Release := if sys then r.relSys.head? else r.relPwm.head?

/-- R77, R173, R174: the oldest releases of the named reckoners land in one cycle, 5 ns or more after their tasks ended;
the PWM part waits while the PWM clock is stopped. -/
def State.relLand (s : State) (rks : BitVec 4) (sys : Bool) : State :=
  let who := (List.finRange 4).filter fun (n : Fin 4) => rks.getLsbD n.val && (s.rk[n].head sys).isSome
  let ls := who.flatMap fun n => match s.rk[n].head sys with
    | some r => r.dests.map fun d => (⟨n, d.1, d.2⟩ : Landed)
    | none => []
  let t := who.foldl (fun t n => match s.rk[n].head sys with
    | some r => max t (r.ended + 80)
    | none => t) 0
  if who.isEmpty || (!sys && !s.pwmClk) then s
  else
    let s := s.reachNow t
    let s := who.foldl (fun (s : State) (n : Fin 4) =>
      s.rkM n fun r => if sys then { r with relSys := r.relSys.drop 1 } else { r with relPwm := r.relPwm.drop 1 }) s
    let s := who.foldl (fun (s : State) (n : Fin 4) =>
      s.raiseIf (ls.any fun x => x.n == n && overwritten ls x) (Ev.SYSCFG_RK_FLAGS_STGCOLL n)) s
    let arms := orBits ls 0xC8
    let s := (ls.filter fun x => !orDest x.dest && !overwritten ls x).foldl (fun (s : State) (x : Landed) => s.landOne arms x) s
    if sys then s
    else
      let s := (List.finRange 8).foldl (fun (s : State) (c : Fin 8) => if arms.testBit c.val then s.armCarrier c else s) s
      let sw := orBits ls 0xD0
      s.swlFire sw

/-! ### Control (R163, R168, R176, R184–R186) -/

/-- R163: RKn_CTRL.EN takes effect. -/
def State.rkEnable (s : State) (n : Fin 4) (en : Bool) : State :=
  let s := s.putB (Fd.SYSCFG_RK_CTRL_EN n) en
  if en then s else (s.rkM n fun r => { r with pend := Vector.replicate 8 none }).rkShow n

/-- R184: the deadline of a launch after a halt from `h` to now. -/
def State.shifted (s : State) (h launch : Nat) (d : Option Nat) : Option Nat := d.map fun x => x + (s.now - max h launch)

/-- R184: the time in debug halt until now is reckoned: with DBGDL = 0 the deadlines move by it. -/
def State.rkHold (s : State) (n : Fin 4) : State :=
  match s.rk[n].haltAt with
  | none => s
  | some h =>
    let runs := s.on (Fd.SYSCFG_RK_CTRL_DBGDL n)
    let f (l : Nat) (d : Option Nat) := if runs then d else s.shifted h l d
    s.rkM n fun r =>
      { r with
        haltAt := some s.now
        task := r.task.map fun t => { t with due := f t.launch t.due }
        pend := r.pend.map fun p => p.map fun q => { q with due := f q.launch q.due } }

/-- R77, R163, R168, R184, R188: a write of RKn_CTRL. -/
def State.rkCtrlWrite (s : State) (n : Fin 4) (v : Word) : State :=
  s.landRk (Reg.SYSCFG_RK_CTRL n) v fun s t =>
    let s := (((s.rkHold n).rkEnable n (v.getLsbD 0))).putB (Fd.SYSCFG_RK_CTRL_DBGDL n) (v.getLsbD 1)
    if v.getLsbD 2 then s.rkAbortNow n t else s

/-- R77, R188: a write of RKn_SLOTk_CFG or RKn_SLOTk_DL. -/
def State.rkSlotWrite (s : State) (a : Nat) (v : Word) : State := s.landRk a v fun s _ => s.plainWrite a v

/-- R154, R176: a swap is requested. -/
def State.swapRequest (s : State) (n : Fin 4) : State := s.put (Fd.SYSCFG_RK_STATUS_SWPPEND n) 1

/-- R176, R177: a SWAP takes effect at `t`: at the start of the same RK cycle, if there is one. -/
def State.swapWrite (s : State) (n : Fin 4) (t : Nat) : State :=
  if (s.rk[n].task.map (·.start)) == some t then if s.rk[n].swapAt == some t then s else s.rkSwapTake n t
  else (s.swapRequest n).rkM n fun r => { r with swapWrite := true, cancelAt := none }

/-- R176: a CANCEL takes effect at `t`. -/
def State.swapCancel (s : State) (n : Fin 4) (t : Nat) : State :=
  if s.on (Fd.SYSCFG_RK_STATUS_SWPPEND n) then
    (s.put (Fd.SYSCFG_RK_STATUS_SWPPEND n) 0).rkM n fun r => { r with swapWrite := false, cancelAt := some t }
  else s

/-- R77, R176, R188: a write of RKn_BANKCTL. -/
def State.bankctlWrite (s : State) (n : Fin 4) (v : Word) : State :=
  s.landRk (Reg.SYSCFG_RK_BANKCTL n) v fun s t =>
    let s := if v.getLsbD 0 then s.swapWrite n t else s
    if v.getLsbD 1 then s.swapCancel n t else s

/-- R184: a debug halt of a reckoner ends. -/
def State.rkResume (s : State) (n : Fin 4) : State :=
  let s := s.rkHold n
  let s := s.rkM n fun r => { r with haltAt := none, freeAt := max r.freeAt (rkUp s.now) }
  (s.cpuM (rkCore n) fun c => { c with next := max c.next (rkUp s.now) }).put (Fd.SYSCFG_RK_STATUS_HALT n) 0

/-- R185: at the power-fail warning pending launches are discarded. -/
def State.rkWarning (s : State) : State :=
  (List.finRange 4).foldl (fun (s : State) (n : Fin 4) =>
    (s.rkM n fun r => { r with pend := Vector.replicate 8 none }).rkShow n) s

/-- R159, R186: registers whose contents are undefined: free values. -/
def State.scramble (s : State) (c : Fin 6) : State :=
  let f (i : Nat) : Word := Config.freeWord (s.free + i)
  let s' := s.cpuM c fun x =>
    { x with
      d := Vector.ofFn fun i => f i
      a := Vector.ofFn fun i => f (16 + i)
      w := Vector.ofFn fun i =>
        BitVec.ofNat 72 ((f (24 + 3 * i)).toNat + 2 ^ 32 * (f (25 + 3 * i)).toNat + 2 ^ 64 * (f (26 + 3 * i)).toNat)
      p := (f 36).setWidth 4
      lc := Vector.ofFn fun i => (f (37 + i)).setWidth 16
      carry := (f 39).getLsbD 0 }
  { s' with free := s.free + 40 }

/-- R186: the system PLL loses lock: tasks and launches are discarded, EN reads 0, the registers are undefined. The rule names
code and slot; PCW is the pc of the next instruction, as R167 has it (DESIGN CHOICE, log entry 21). -/
def State.rkSysStop (s : State) : State :=
  (List.finRange 4).foldl (fun (s : State) (n : Fin 4) =>
    let s := s.rkAbort n 18 (s.rkNext n).2 (rkUp s.now)
    let s := (s.rkEnable n false).scramble (rkCore n)
    s.cpuM (rkCore n) fun c => { c with loops := Vector.replicate 2 none }) s

/-! ### The meanings -/

/-- R162. -/
def execReckonerLaunch (n : Fin 4) (k : Fin 8) (s : State) : Result := .next (s.rkLaunch n k)
/-- R164. -/
def execTaskDispatch (n : Fin 4) (s : State) : Result := .next (s.rkDispatch n)
/-- R173. -/
def execTaskEndRelease (n : Fin 4) (s : State) : Result := .next (s.rkTaskEnd n)
/-- R173, R174. -/
def execReleaseLanding (r : BitVec 4) (sys : Bool) (s : State) : Result := .next (s.relLand r sys)
/-- R167. -/
def execDeadlineMiss (n : Fin 4) (s : State) : Result := .next (s.rkDeadline n)
/-- The word of a write of RKn_CTRL that leaves DBGDL as it is. -/
def State.rkCtrlWord (s : State) (n : Fin 4) (en abort : Bool) : Word :=
  BitVec.ofNat 32 (en.toNat + 2 * s.get (Fd.SYSCFG_RK_CTRL_DBGDL n) + 4 * abort.toNat)

/-- R163. -/
def execReckonerEnableWrite (n : Fin 4) (en : Bool) (s : State) : Result := .next (s.rkCtrlWrite n (s.rkCtrlWord n en false))
/-- R168. -/
def execAbortnow (n : Fin 4) (s : State) : Result :=
  .next (s.rkCtrlWrite n (s.rkCtrlWord n (s.on (Fd.SYSCFG_RK_CTRL_EN n)) true))
/-- R176. -/
def execBankSwapRequest (n : Fin 4) (s : State) : Result := .next (s.bankctlWrite n 1)
/-- R176. -/
def execBankSwapCancel (n : Fin 4) (s : State) : Result := .next (s.bankctlWrite n 2)

end Sys2Proof.Machine
end

