-- ==== Sys2Proof/Machine/Sentinel.lean ====
section
/-! DEFINITION. The sentinel: the RTC, the stores, the ledger, tamper inputs, wake and sleep (R467–R473, R477). -/
namespace Sys2Proof.Machine

/-- Replaces the sentinel's hidden state. -/
def State.sentM (s : State) (f : Sentinel → Sentinel) : State := { s with sentinel := f s.sentinel }

/-! ### The RTC (R467): one tick is 1953125/4 tbu -/

/-- The RTC's 48-bit count. -/
def State.rtc (s : State) : Nat :=
  if s.sentinel.rtcRuns then (s.sentinel.rtcBase + (s.now - s.sentinel.rtcAt) * 4 / 1953125) % 2 ^ 48
  else s.sentinel.rtcBase

/-- The RTC takes a value now. -/
def State.rtcSet (s : State) (v : Nat) (runs : Bool) : State :=
  s.sentM fun x => { x with rtcBase := v % 2 ^ 48, rtcAt := s.now, rtcRuns := runs }

/-- R474: the crossing between SYS and the sentinel in tbu: 61.0 µs. -/
def sentCrossing : Nat := 976000

/-- R474, R477: a read of SENT_RTC_LO returns the low word, of a value up to 61.0 µs old, and latches the high one. -/
def State.rtcRead (s : State) : State :=
  let (w, s) := s.fresh
  let v := { s with now := s.now - w.toNat % (sentCrossing + 1) }.rtc
  ((s.wrN Reg.SENT_RTC_LO v).wrN Reg.SENT_RTC_HI (v / 2 ^ 32)).answer v

/-- VIN is present at the sentinel. -/
def State.vinPresent (s : State) : Bool := s.on Fd.SENT_STATUS_ONVIN

/-- R469: the sentinel runs and is not cut off. -/
def State.sentinelLive (s : State) : Bool := s.sentinel.running && !s.on Fd.SENT_STATUS_CUT

/-! ### The ledger (R470, R471) -/

/-- R471: the address of a ledger slot. -/
def ledgerSlot (i : Nat) : Nat := 0x08FC0000 + 32 * i

/-- R471: whether a slot holds a valid entry. -/
def State.ledgerValid (s : State) (i : Nat) : Bool :=
  s.memRd (ledgerSlot i + 28) 4 == 0x49444C45 &&
    s.memRd (ledgerSlot i + 24) 4 == crc32 (bytesLE 24 (s.memRd (ledgerSlot i) 24))

/-- R471: the head: the valid entry with the highest sequence number. -/
def State.ledgerHead (s : State) : Option (Nat × Nat) :=
  (s.mem.filterMap fun c =>
      if 0x08FC0000 ≤ c.1 ∧ c.1 < 0x09000000 ∧ c.1 % 32 = 28 then some ((c.1 - 0x08FC0000) / 32) else none).foldl
    (fun best i =>
      if s.ledgerValid i then
        let q := s.memRd (ledgerSlot i + 4) 4
        match best with
        | none => some (i, q)
        | some b => if b.2 < q then some (i, q) else some b
      else best) none

/-- R471: the slot the next entry goes into. -/
def State.ledgerNext (s : State) : Nat :=
  match s.ledgerHead with
  | none => 0
  | some h => (h.1 + 1) % 8192

/-- R471: words 0–5 of an entry as one number. -/
def LedgerEntry.body (e : LedgerEntry) (seq : Nat) : Nat :=
  e.typ + 256 * e.valid.toNat + 2 ^ 32 * (seq % 2 ^ 32) + 2 ^ 64 * (e.rtc % 2 ^ 48) +
    2 ^ 128 * (e.lstore % 2 ^ 16 + 2 ^ 16 * e.tamper)

/-- R471: the two-phase commit of one entry, as far as `words` of its words 0–6 (8: the mark as well). -/
def State.ledgerWrite (s : State) (e : LedgerEntry) (words : Nat) : State :=
  let a := ledgerSlot s.ledgerNext
  let seq := s.sentinel.seq + 1
  let body := e.body seq
  let all := body + 2 ^ 192 * crc32 (bytesLE 24 body)
  let s := s.memWr (a + 28) 4 0
  let s := s.memWr a (4 * min 7 words) all
  if words = 8 then
    let i := s.ledgerNext
    let s := s.memWr (a + 28) 4 0x49444C45
    (s.put Fd.SENT_LEDGER_HEAD i).sentM fun x => { x with seq := seq }
  else s

/-- R477: QLEVEL shows the retention queue. -/
def State.ledgerShow (s : State) : State := s.put Fd.SENT_STATUS_QLEVEL s.sentinel.queue.length

/-- R470: an entry arrives; with the queue full it replaces the oldest CHECKPOINT in it, or is dropped. -/
def State.ledgerAdd (s : State) (typ tamper : Nat) : State :=
  let e : LedgerEntry := ⟨typ, s.rtc, s.on Fd.SENT_STATUS_RTCVALID, s.get Fd.SENT_VSTORE_LSTORE, tamper⟩
  let q := s.sentinel.queue
  if q.length < 4 then (s.sentM fun x => { x with queue := q ++ [e] }).ledgerShow
  else
    match q.find? (fun x => x.typ == 4) with
    | some c => (s.sentM fun x => { x with queue := q.erase c ++ [e] }).ledgerShow
    | none => s.raise Ev.SENT_FLAGS_QDROP

/-- R470: a burst is admitted from 3.1 V. -/
def State.burstAdmitted (s : State) (sstore : Nat) : Bool := s.sentinel.running && 3100 ≤ sstore

/-- R470, R471: a queued entry's burst at SSTORE = `sstore`: refused, abandoned after some of its words, or whole. -/
def State.ledgerBurst (s : State) (sstore words : Nat) : State :=
  match s.sentinel.queue with
  | [] => s
  | e :: t =>
    if s.sentinelLive then
      let s := s.put Fd.SENT_VSTORE_SSTORE sstore
      if 3100 ≤ sstore then
        let s := s.ledgerWrite e words
        if words = 8 then (s.sentM fun x => { x with queue := t }).ledgerShow else s
      else s.raise Ev.SENT_FLAGS_BURSTREF
    else s

/-- R470: every waiting entry is written. -/
def State.ledgerDrain (s : State) : State :=
  let s := s.sentinel.queue.foldl (fun s e => s.ledgerWrite e 8) s
  (s.sentM fun x => { x with queue := [] }).ledgerShow

/-! ### Start, stop, VIN (R467, R471) -/

/-- SENT's registers take their reset values. -/
def State.sentRegsReset (s : State) : State :=
  (List.range 21).foldl (fun s k => s.wr (Reg.SENT_CFG + 4 * k) (regReset (Reg.SENT_CFG + 4 * k))) s

/-- R467, R473: the sentinel starts from stopped: registers at reset, the RTC at 0 and not valid; from VIN it raises
PWRREQ. -/
def State.sentinelStart (s : State) (fromVin : Bool) : State :=
  if s.sentinel.running then s
  else
    let s := s.sentRegsReset
    let s := { s with sentinel := { rtcAt := s.now, pwrreq := fromVin, hv1At := s.now } }
    let s := s.sentM fun x => { x with seq := (s.ledgerHead.map (·.2)).getD 0 }
    let s := s.put Fd.SENT_LEDGER_HEAD ((s.ledgerHead.map (·.1)).getD 0)
    if fromVin then s.put Fd.SENT_STATUS_ONVIN 1 else s.put Fd.SENT_STATUS_ONVBAT 1

/-- R467: SSTORE falls below 2.0 V: everything that the sentinel holds is lost. -/
def State.sentinelStop (s : State) : State :=
  if s.sentinel.running then { s.sentRegsReset with sentinel := { running := false, rtcRuns := false, pwrreq := false } } else s

/-- R471: the checkpoint interval in tbu; CKINT = 0 acts as 1. -/
def State.checkpointGap (s : State) : Nat := max 1 (s.get Fd.SENT_CFG_CKINT) * 3600 * tSec

/-- R471: VIN is lost: a DARK entry; darkness begins. -/
def State.sentinelVinLoss (s : State) : State :=
  if s.sentinel.running && s.vinPresent then
    let s := (s.put Fd.SENT_STATUS_ONVIN 0).ledgerAdd 1 0
    s.sentM fun x => { x with checkpoint := some (s.now + s.checkpointGap) }
  else s

/-- R467, R471: VIN returns: a LIGHT entry; the sentinel runs from VIN. -/
def State.sentinelVinReturn (s : State) : State :=
  if s.sentinel.running && !s.vinPresent then
    let s := ((s.put Fd.SENT_STATUS_ONVIN 1).put Fd.SENT_STATUS_ONVBAT 0).ledgerAdd 2 0
    s.sentM fun x => { x with checkpoint := none }
  else s

/-- R471: CKINT hours of darkness have passed since it began or since the last checkpoint. -/
def State.ledgerCheckpoint (s : State) : State :=
  match s.sentinel.checkpoint with
  | none => s
  | some t =>
    if s.sentinelLive && !s.vinPresent then
      let s := (s.reachNow t).ledgerAdd 4 0
      s.sentM fun x => { x with checkpoint := some (t + s.checkpointGap) }
    else s

/-! ### Long darkness (R469) -/

/-- R469: the cut-off: what waits and a CUT entry if they are admitted, then the RTC, the tamper inputs and the wake logic stop. -/
def State.cutOff (s : State) (sstore : Nat) : State :=
  let s := if 3100 ≤ sstore then (s.ledgerDrain.ledgerAdd 5 0).ledgerDrain else s.raise Ev.SENT_FLAGS_BURSTREF
  let s := s.rtcSet s.rtc false
  (s.put Fd.SENT_STATUS_RTCVALID 0).put Fd.SENT_STATUS_CUT 1

/-- R469: LSTORE falls below LCUT without VIN. -/
def State.longDarkness (s : State) (lstore sstore vbat : Nat) : State :=
  if s.sentinelLive && !s.vinPresent && !s.on Fd.SENT_STATUS_ONVBAT && lstore < s.get Fd.SENT_LCUT_MV then
    let s := ((s.put Fd.SENT_VSTORE_LSTORE lstore).put Fd.SENT_VSTORE_SSTORE sstore).put Fd.SENT_VBAT_MV vbat
    if s.on Fd.SENT_CFG_LDPOL && 2500 ≤ vbat then (s.put Fd.SENT_STATUS_ONVBAT 1).ledgerAdd 7 0
    else s.cutOff sstore
  else s

/-- R469: LSTORE recovers to LCUT + 0.3 V: the sentinel resumes. -/
def State.sentinelResume (s : State) (lstore : Nat) : State :=
  if s.sentinel.running && s.on Fd.SENT_STATUS_CUT && s.get Fd.SENT_LCUT_MV + 300 ≤ lstore then
    let s := (s.put Fd.SENT_VSTORE_LSTORE lstore).put Fd.SENT_STATUS_CUT 0
    let s := (s.rtcSet s.rtc true).ledgerAdd 6 0
    s.raise Ev.SENT_FLAGS_CUTOFF
  else s

/-! ### Tamper inputs, wake, RTC, harvester (R468, R472, R473, R477) -/

/-- The flag of a tamper input. -/
def tamperFlag (n : Fin 2) : EvFlag := if n = 0 then Ev.SENT_FLAGS_TAMP0 else Ev.SENT_FLAGS_TAMP1

/-- R472: whether a level of an input is the active one by TAMPPOL. -/
def State.tamperActive (s : State) (n : Fin 2) (level : Bool) : Bool := level != (s.get Fd.SENT_CFG_TAMPPOL).testBit n.val

/-- R472: an enabled input has held a level for `held`; active for 10 ms: a TAMPER entry, TAMPn; the input is then
ignored. -/
def State.tamperEvent (s : State) (n : Fin 2) (level : Bool) (held : Nat) : State :=
  if s.sentinelLive && (s.get Fd.SENT_CFG_TAMPEN).testBit n.val && !s.sentinel.ignored.getLsbD n.val && s.tamperActive n level &&
      10 * tMs ≤ held then
    let s := (s.ledgerAdd 3 (2 ^ n.val)).raise (tamperFlag n)
    s.sentM fun x => { x with ignored := x.ignored ||| (1#2 <<< n.val) }
  else s

/-- R472: an input that has been inactive for 10 ms is watched again. -/
def State.tamperInactive (s : State) (n : Fin 2) (level : Bool) (held : Nat) : State :=
  if s.sentinelLive && !s.tamperActive n level && 10 * tMs ≤ held then s.sentM fun x => { x with ignored := x.ignored &&& ~~~(1#2 <<< n.val) } else s

/-- R473: WAKE_N has fallen and has been low for 10 ms: PWRREQ rises. -/
def State.wakeInput (s : State) : State :=
  if s.sentinelLive && s.on Fd.SENT_CFG_WAKEEN then s.sentM fun x => { x with pwrreq := true } else s

/-- SENT_ALARM. -/
def State.alarm (s : State) : Nat := s.rdN Reg.SENT_ALARM_LO + 2 ^ 32 * s.get Fd.SENT_ALARM_HI_TICKS

/-- R473: the RTC reaches SENT_ALARM. -/
def State.rtcAlarm (s : State) : State :=
  if s.sentinelLive && s.on Fd.SENT_CFG_ALARMEN && s.rtc ≤ s.alarm then
    let t := s.sentinel.rtcAt + ((s.alarm - s.sentinel.rtcBase) * 1953125 + 3) / 4
    (s.reachNow t).sentM fun x => { x with pwrreq := true }
  else s

/-- R467, R477: SENT_CMD.RTCSET loads the alarm value into the RTC, at a time; refused without VIN. -/
def State.rtcLoad (s : State) (t : Nat) : State :=
  if s.sentinelLive && s.vinPresent then
    ((s.rtcSet s.alarm true).sentM fun x => { x with rtcAt := t }).put Fd.SENT_STATUS_RTCVALID 1
  else s

/-- R468: 8 s after the last sample HV1 opens its input for 50 ms, and then regulates it to FRAC percent of the voltage
found. -/
def State.hv1Sample (s : State) (mv : Nat) : State :=
  if s.sentinel.running && s.on Fd.SENT_CFG_HV1EN then
    let t := max s.now (s.sentinel.hv1At + 8 * tSec)
    (s.reachNow (t + 50 * tMs)).sentM fun x => { x with hv1At := t, hv1Mv := mv * s.get Fd.SENT_HV1_FRAC / 100 }
  else s

/-- A value held within limits. -/
def clampTo (lo hi v : Nat) : Nat := max lo (min hi v)

/-! ### Register writes (R474, R477) -/

/-- R477: a write takes effect in the sentinel, at a time. -/
def State.sentWrite (s : State) (t a : Nat) (v : Word) : State :=
  if a = Reg.SENT_LCUT then s.wrN a (clampTo 2300 3600 (cut v.toNat 0 12))
  else if a = Reg.SENT_LMAX then s.wrN a (clampTo 3600 4200 (cut v.toNat 0 13))
  else if a = Reg.SENT_HV1 then s.wrN a (clampTo 30 80 (cut v.toNat 0 7))
  else if a = Reg.SENT_CMD then (if v.getLsbD 0 then s.rtcLoad t else s)
  else s.plainWrite a v

/-- R474: the writes whose 61.0 µs are over take effect, in their order. -/
def State.sentSettle (s : State) : State :=
  let due := s.sentinel.writes.filter fun w => decide (w.1 ≤ s.now)
  let s := s.sentM fun x => { x with writes := x.writes.filter fun w => decide (s.now < w.1) }
  due.foldl (fun s w => s.sentWrite w.1 w.2.1 w.2.2) s

/-- R474: a write of a SENT register leaves the crossbar. -/
def State.sentPost (s : State) (a : Nat) (v : Word) : State :=
  s.sentSettle.sentM fun x => { x with writes := x.writes ++ [(s.now + sentCrossing, a, v)] }

/-- R474, R477: RTCSET takes effect 61.0 µs on. -/
def State.rtcSetLand (s : State) : State :=
  let s := (s.reachNow (s.now + sentCrossing)).sentSettle
  s.rtcLoad s.now

/-! ### The meanings -/

/-- R467. -/
def execSentinelStart (v : Bool) (s : State) : Result := .next (s.sentSettle.sentinelStart v)
/-- R467. -/
def execSentinelStop (s : State) : Result := .next s.sentSettle.sentinelStop
/-- R471. -/
def execSentinelVinLoss (s : State) : Result := .next s.sentSettle.sentinelVinLoss
/-- R471. -/
def execSentinelVinReturn (s : State) : Result := .next s.sentSettle.sentinelVinReturn
/-- R469. -/
def execLongDarkness (l v b : BitVec 16) (s : State) : Result := .next (s.sentSettle.longDarkness l.toNat v.toNat b.toNat)
/-- R469. -/
def execSentinelResume (l : BitVec 16) (s : State) : Result := .next (s.sentSettle.sentinelResume l.toNat)
/-- R470, R471. -/
def execLedgerBurst (v : BitVec 16) (w : Fin 9) (s : State) : Result := .next (s.sentSettle.ledgerBurst v.toNat w.val)
/-- R471. -/
def execLedgerCheckpoint (s : State) : Result := .next s.sentSettle.ledgerCheckpoint
/-- R472. -/
def execTamperEvent (x : Seen (Fin 2) HeldLevel) (s : State) : Result := .next (s.sentSettle.tamperEvent x.site x.what.level x.what.held)
/-- R472. -/
def execTamperInputInactive (x : Seen (Fin 2) HeldLevel) (s : State) : Result :=
  .next (s.sentSettle.tamperInactive x.site x.what.level x.what.held)
/-- R473. -/
def execWakeInput (s : State) : Result := .next s.sentSettle.wakeInput
/-- R473. -/
def execRtcAlarm (s : State) : Result := .next s.sentSettle.rtcAlarm
/-- R477. -/
def execRtcset (s : State) : Result := .next s.sentSettle.rtcSetLand
/-- R468. -/
def execHv1Sample (v : BitVec 16) (s : State) : Result := .next (s.sentSettle.hv1Sample v.toNat)

end Sys2Proof.Machine
end

