-- ==== Sys2Proof/Machine/Power.lean ====
section
/-! DEFINITION. PMU: hold-up, supplies, the power-fail warning and the save sequence, power-up (R455–R466, R473, R476). -/
namespace Sys2Proof.Machine

/-- Replaces PMU's hidden state. -/
def State.pmuM (s : State) (f : Pmu → Pmu) : State := { s with pmu := f s.pmu }

/-! ### The power-fail warning (R459, R460) -/

/-- R365: both stewards stop between instructions. -/
def State.stewardsStop (s : State) : State := (s.put (Fd.SYSCFG_ST_STATUS_RUN 0) 0).put (Fd.SYSCFG_ST_STATUS_RUN 1) 0

/-- R58, R185, R206, R221, R231, R257, R270, R290, R318, R339, R415, R429, R450, R460: what the blocks do at the
warning. -/
def State.warningActs (s : State) : State :=
  let s := (s.sweepAbortAll 7).driveWarning.forcePfw.safeSupply
  let s := s.rkWarning.tblWarning.linksDown.ethWarning
  let s := s.protWarning.probeStop.acuWarning
  s.meterWarning.secWarning.consWarning

/-- R459, R463: a power-fail warning of a cause; one that is latched stands, but a SLEEP of the same cycle, which is then
refused. -/
def State.warning (s : State) (cause watchdog : Nat) : State :=
  if s.pmu.clocksOff then s
  else if s.pmu.warned then
    if s.pmu.warnAt = s.now ∧ s.get Fd.PMU_RSTINFO_CAUSE = 6 ∧ cause ≠ 6 then
      let s := (s.put Fd.PMU_RSTINFO_CAUSE cause).pmuM fun p => { p with watchdog := watchdog }
      let s := (s.sentM fun x => { x with queue := x.queue.filter (·.typ != 8) }).ledgerShow
      (s.raise Ev.PMU_FLAGS_SLEEPREF).raiseIf (cause == 2) Ev.PMU_FLAGS_RAILERR
    else s
  else
    let skip := s.on Fd.PMU_STATUS_HUWAIT
    let s := s.pmuM fun p =>
      { p with
        warned := true, warnAt := s.now, watchdog := watchdog, noBlock := s.on Fd.PMU_STATUS_RESTORING
        windowEnded := skip, skipped := skip, engine := none, image := none }
    let s := ((s.put Fd.PMU_RSTINFO_CAUSE cause).put Fd.PMU_STATUS_PFW 1).raise Ev.PMU_FLAGS_PFW
    let s := s.raiseIf (cause == 2) Ev.PMU_FLAGS_RAILERR
    let s := s.warningActs
    if skip then s.stewardsStop else s

/-- R436, R441: REBOOT; refused while a command runs. -/
def State.secReboot (s : State) : State := if s.on Fd.SEC_STATUS_BUSY then s.secRefuse else s.warning 5 0

/-- R463, R473: a write of PMU_CMD.SLEEP. -/
def State.pmuSleep (s : State) : State :=
  let s := s.sentSettle
  if s.pmu.warned || !(s.on Fd.SENT_CFG_WAKEEN || s.on Fd.SENT_CFG_ALARMEN) then s.raise Ev.PMU_FLAGS_SLEEPREF
  else
    let s := if s.sentinelLive then s.ledgerAdd 8 0 else s
    s.warning 6 0

/-- R460: 2 ms after the warning the stewards stop. -/
def State.windowStop (s : State) : State :=
  if s.pmu.warned && !s.pmu.windowEnded then
    ((s.reachNow (s.pmu.warnAt + 2 * tMs)).stewardsStop).pmuM fun p => { p with windowEnded := true }
  else s

/-! ### The save engine (R461, R464) -/

/-- R461: the engine starts once the window has ended, every reckoner has stopped and no counter write is in progress. -/
def State.engineStart (s : State) : State :=
  if s.pmu.warned && s.pmu.windowEnded && s.pmu.engine.isNone && s.rk.toList.all (·.task.isNone) && s.consent.counter.isNone then
    (s.put Fd.PMU_STATUS_SAVING 1).pmuM fun p => { p with engine := some s.now }
  else s

/-- The words of a list from a word index on. -/
def wordsFrom (i : Nat) (ws : List Nat) : List (Nat × Word) :=
  (List.range ws.length).map fun k => (i + k, BitVec.ofNat 32 (ws.getD k 0))

/-- R464: the words of the block from word 2 on, as the blocks stand and METER stood at the capture instant. -/
def State.saveWords (s : State) (body : MeterBody) : List (Nat × Word) :=
  let rtc := s.rtc
  let head := [s.tbl.count % 2 ^ 32, s.tbl.count / 2 ^ 32, rtc % 2 ^ 32, rtc / 2 ^ 32,
    s.get Fd.PMU_RSTINFO_CAUSE + 8 * s.get Fd.SENT_STATUS_RTCVALID + 16 * s.pmu.skipped.toNat]
  let prot := [s.rdN Reg.PROT_TRIPLAT, cut (s.rdN Reg.PROT_STATUS) 8 15 * 256] ++
    (List.finRange 4).map (fun (c : Fin 4) => s.rttimeRead c) ++ [(s.prot.curves.toList.any fun c => c.exc.isSome).toNat]
  let probe := [4 * s.get Fd.PROBE_STATUS_ISL + 16 * s.get Fd.PROBE_STATUS_COUNT, 0] ++ wordsLE 2 s.probe.reported
  let drive := (List.range 12).map fun k =>
    s.get (Fd.DRIVE_G_STAT_STATE k) + 16 * s.get (Fd.DRIVE_G_STAT_TRIES k) + 1024 * s.get (Fd.DRIVE_G_STAT_KIND k)
  let fstat := s.get ⟨Reg.PWM_FSTAT, 0, 8⟩ + 65536 * s.get ⟨Reg.PWM_FSTAT, 16, 3⟩
  wordsFrom 2 head ++ wordsFrom 16 body.words ++ wordsFrom 256 prot ++ wordsFrom 272 probe ++
    wordsFrom 280 drive ++ [(296, BitVec.ofNat 32 fstat)] ++ wordsFrom 304 [s.rdN Reg.PMU_EVHEAD_LO, s.rdN Reg.PMU_EVHEAD_HI] ++
    (List.range 1024).map fun w => (1024 + w, s.rd (Reg.PMU_SWBUF w))

/-- R318, R461: the capture instant: the first sample instant S_m after the engine's start, whose own sample METER's part leaves out. -/
def State.saveCapture (s : State) : State :=
  if s.pmu.engine.isSome && s.pmu.image.isNone then
    let t := (s.tbl.count + 499999) / 500000 * 500000
    let body := if s.pwmClk then s.bodyAt t else s.meterBody
    let s := if s.pwmClk then s.reachCount t else s
    s.pmuM fun p => { p with image := some ((s.saveWords body).filter fun w => w.2 != 0) }
  else s

/-- R464: the address of a slot. -/
def saveSlot (k : Nat) : Nat := 0x08F00000 + 0x2000 * k

/-- R464: a word of a slot. -/
def State.slotWord (s : State) (k i : Nat) : Nat := s.memRd (saveSlot k + 4 * i) 4

/-- R464: a slot holds a valid block. -/
def State.blockValid (s : State) (k : Nat) : Bool :=
  s.slotWord k 0 == 0x49445342 &&
    s.slotWord k 15 == crc32 (s.bytesAt (saveSlot k + 4) 56 ++ s.bytesAt (saveSlot k + 0x40) (0x2000 - 0x40))

/-- R464, R465: the valid slot with the highest sequence number. -/
def State.newestBlock (s : State) : Option Nat :=
  (List.range 64).foldl (fun (best : Option Nat) (k : Nat) =>
    if s.blockValid k then
      match best with
      | none => some k
      | some b => if s.slotWord b 1 < s.slotWord k 1 then some k else some b
    else best) none

/-- R464: the block's 2,048 words. -/
def blockWords (seq : Nat) (img : List (Nat × Word)) : List Nat :=
  let w (i : Nat) : Nat := (mapGet (fun _ => (0 : Word)) img i).toNat
  let body := (List.range 2048).map fun i => if i = 0 then 0x49445342 else if i = 1 then seq else w i
  let crc := crc32 (wordBytes (((body.drop 1).take 14) ++ body.drop 16))
  body.set 15 crc

/-- R464: the block goes into the slot after the newest valid one. -/
def State.writeBlock (s : State) (img : List (Nat × Word)) : State :=
  let newest := s.newestBlock
  let k := match newest with
    | some b => (b + 1) % 64
    | none => 0
  let seq := match newest with
    | some b => (s.slotWord b 1 + 1) % 2 ^ 32
    | none => 1
  ((s.mramWrites (saveSlot k) (pairWords (blockWords seq img))).mramFlush).wrN Reg.PMU_SAVESEQ seq

/-- R460, R473: the block is durable; SAVEDONE; the clocks are gated and the core rails removed. -/
def State.saveComplete (s : State) : State :=
  if s.pmu.engine.isSome && (s.pmu.image.isSome || s.pmu.noBlock) && !s.pmu.clocksOff then
    let s := match s.pmu.image with
      | some img => if s.pmu.noBlock then s else (s.writeBlock img).raise Ev.PMU_FLAGS_SAVEDONE
      | none => s
    let cause := s.get Fd.PMU_RSTINFO_CAUSE
    let s := if cause = 6 then s.sentM fun x => { x with pwrreq := false } else s
    let s := { s with prot := { s.prot with trips := 0 } }
    ((s.put Fd.PMU_STATUS_SAVING 0).pmuM fun p => { p with clocksOff := true, cause := cause, causeWdg := p.watchdog }).ckoutShow
  else s

/-! ### Power-up (R456) -/

/-- The code of a sensed supply (R507). -/
def supplyCode : Supply → Nat
  | .none => 0
  | .v18 => 1
  | .v25 => 2
  | .v33 => 3

/-- Registers that outlive the core rails: SENT's (R477), SYSCFG_RSTCAUSE and its counters (R366). -/
def keptReg (a : Nat) : Bool := (0x40100000 ≤ a && a < 0x40110000) || a == Reg.SYSCFG_RSTCAUSE || (0x40120040 ≤ a && a < 0x40120060)

/-- R456: from step 2 on: the rails start after 10 ms of good VIN; every block starts from reset; the banks are sensed;
reset is held until both PLLs lock. What stands in MRAM, in SAFE's array, in the OTP and in the sentinel stays. -/
def State.powerUp (s : State) (vinFell : Bool) (vio : Vector Supply 8) : State :=
  if s.pmu.clocksOff then
    let t : State :=
      { now := s.now, stCyclesAt := s.now, free := s.free, rdata := s.rdata, pending := s.pending, hiLive := []
        regs := s.regs.filter fun r => keptReg r.1
        mem := s.mem.filter fun c => decide (c.1 < 0x20000000)
        mramc := { pages := s.mramc.pages }
        safe := { array := s.safe.array }
        sec := { otp := s.sec.otp }
        sentinel := s.sentinel
        gpio := s.gpio
        prot := { lastEval := s.now, capture := { wptr := s.prot.capture.wptr, recs := s.prot.capture.recs } }
        pmu := { vinFell := vinFell, cause := s.pmu.cause, causeWdg := s.pmu.causeWdg } }
    let t := t.reachNow (s.now + 10 * tMs)
    let t := (t.put Fd.PMU_RSTINFO_CAUSE s.pmu.cause).pllM fun p => { p with sysSince := t.now, syncSince := t.now }
    (List.finRange 8).foldl (fun (t : State) (b : Fin 8) =>
      let c := supplyCode vio[b]
      let t := t.put ⟨Reg.SYSCFG_PAD b, 8, 2⟩ c
      if c = 0 then t.put ⟨Reg.PMU_STATUS, 8 + b.val, 1⟩ 1 else t) t
  else s

/-! ### Reset release and restoring (R366, R456, R465) -/

/-- The bit of SYSCFG_RSTCAUSE for a cause of R459. -/
def causeBit (cause watchdog : Nat) : Option Nat :=
  match cause with
  | 1 => some 6
  | 2 => some 7
  | 3 => some (1 + watchdog % 2)
  | 4 => some 3
  | 5 => some 4
  | 6 => some 5
  | _ => none

/-- R366: a bit of SYSCFG_RSTCAUSE is set and counted. -/
def State.causeSet (s : State) (b : Nat) : State := s.raise ⟨Reg.SYSCFG_RSTCAUSE, b, Reg.SYSCFG_RSTCNT b⟩

/-- R366: the reset causes. -/
def State.resetCauses (s : State) : State :=
  let s :=
    if s.pmu.vinFell then
      ((List.range 8).foldl (fun (s : State) (b : Nat) => s.wrN (Reg.SYSCFG_RSTCNT b) 0) (s.wrN Reg.SYSCFG_RSTCAUSE 0)).causeSet 0
    else s
  match causeBit s.pmu.cause s.pmu.causeWdg with
  | some b => s.causeSet b
  | none => s

/-- R57, R296: the count starts at a value, as reset is released; METER's instants go on from it. -/
def State.countFrom (s : State) (c : Nat) : State :=
  (s.tblM fun t => { t with count := c, frac := 0, prev := c, knots := [] }).metM fun m => { m with last := c / 500000 * 500000 }

/-- R57: the count starts at the saved timebase plus the darkness, each tick counted as 488,281.25 tbu, rounded down. -/
def State.restoreCount (s : State) (k : Nat) : State :=
  let w (i : Nat) : Nat := s.slotWord k i
  let then' := w 4 + 2 ^ 32 * w 5
  let valid := (w 6).testBit 3 && s.on Fd.SENT_STATUS_RTCVALID
  let dark := if valid then (s.rtc - then') * 1953125 / 4 else 0
  s.countFrom ((w 2 + 2 ^ 32 * w 3 + dark) % 2 ^ 64)

/-- R207, R231, R257, R286, R465: each block takes its part of the block in slot `k`. -/
def State.restoreBlock (s : State) (k : Nat) : State :=
  let w (i : Nat) : Nat := s.slotWord k i
  let s := s.restoreCount k
  let s := (s.wrN Reg.PROT_TRIPLAT (w 256)).put Fd.PROT_STATUS_PFRT (w 262 % 2)
  let s := s.protShow
  let s := (s.putB Fd.PROBE_STATUS_ISL ((w 272).testBit 2)).put Fd.PROBE_STATUS_COUNT (cut (w 272) 4 3)
  let s := (s.wrN Reg.PROBE_PERNUM (w 274)).probeM fun p => { p with reported := w 274 + 2 ^ 32 * w 275 }
  let s := s.tripUpdate
  let s := (List.range 12).foldl (fun (s : State) (g : Nat) =>
    if cut (w (280 + g)) 0 2 = 2 then
      let s := (s.put (Fd.DRIVE_G_STAT_STATE g) 2).put (Fd.DRIVE_G_STAT_TRIES g) (cut (w (280 + g)) 4 5)
      (s.put (Fd.DRIVE_G_STAT_KIND g) (cut (w (280 + g)) 10 2)).put (Fd.DRIVE_G_STAT_RESTORED g) 1
    else s) s
  let s := (s.put ⟨Reg.PWM_FSTAT, 0, 8⟩ (cut (w 296) 0 8)).put Fd.PWM_FSTAT_SYS (cut (w 296) 16 1)
  let s := (s.put Fd.PWM_FSTAT_DBG (cut (w 296) 18 1)).forceLegs
  let s := (s.wrN Reg.PMU_EVHEAD_LO (w 304)).wrN Reg.PMU_EVHEAD_HI (w 305)
  (List.range 1024).foldl (fun (s : State) (i : Nat) => s.wrN (Reg.PMU_SWBUF i) (w (1024 + i))) s

/-- R465: a save that was not completed: a slot with a sequence number above the selected one and no valid mark. -/
def State.saveIncomplete (s : State) (k : Nat) : Bool :=
  (List.range 64).any fun j => s.slotWord k 1 < s.slotWord j 1 && !s.blockValid j

/-- R465: PMU selects a block and every block takes its part, or starts from its reset state. -/
def State.restore (s : State) : State :=
  let s := (s.put Fd.PMU_STATUS_RESTORING 1).raise Ev.TBL_STATUS_TBINV
  match s.newestBlock with
  | none => ((s.countFrom 0).put Fd.PMU_STATUS_FRESH 1).pmuM fun p => { p with csb := none }
  | some k =>
    let inc := s.saveIncomplete k
    let s := (s.put Fd.PMU_STATUS_CSBVALID 1).wrN Reg.PMU_SAVESEQ (s.slotWord k 1)
    let s := (s.putB Fd.PMU_STATUS_SAVEINC inc).raiseIf inc Ev.PMU_FLAGS_SAVEINC
    (s.restoreBlock k).pmuM fun p => { p with csb := some k }

/-- R345, R435: both stewards start at 0x0000_0000, once hardware has invalidated their caches in 1,024 cycles. -/
def State.stewardsStart (s : State) : State :=
  (List.finRange 2).foldl (fun (s : State) (n : Fin 2) =>
    (s.put (Fd.SYSCFG_ST_STATUS_RUN n) 1).cpuM (stCore n) fun c => { c with pc := 0, prev := 0, next := s.now + 1024 * s.stCycleT }) s

/-- R471: the sentinel's head of the ledger, found at reset. -/
def State.ledgerFind (s : State) : State :=
  match s.ledgerHead with
  | some h => (s.put Fd.SENT_LEDGER_HEAD h.1).sentM fun x => { x with seq := h.2 }
  | none => s

/-- R366, R435, R456: reset is released after both PLLs have locked. -/
def State.resetRelease (s : State) : State :=
  if s.pmu.held && !s.pmu.clocksOff && s.on Fd.PLL_STATUS_SYSLOCK && s.on Fd.PLL_STATUS_SYNCLOCK then
    let s := (s.pmuM fun p => { p with held := false }).resetCauses
    let s := if s.sentinel.running then (s.put Fd.SENT_STATUS_ONVIN 1).ledgerFind else s
    let s := (s.safePowerUp s.safe.array).restore
    s.consReset.stewardsStart
  else s

/-! ### Hold-up and supplies (R455, R458) -/

/-- R458: C and ESR from what is measured on the way up: the rise from 12 V to 18 V in µs, and the step in µV when the charger
of 50 mA pauses; in µF and mΩ. -/
def State.huMeasure (s : State) (rise step : Nat) : State :=
  let cap := min 65535 (rise / 120)
  let esr := min 65535 (step / 50)
  let s := (s.put Fd.PMU_HUMEAS_CAP cap).put Fd.PMU_HUMEAS_ESR esr
  s.raiseIf (decide (cap < 1000 ∨ 500 < esr)) Ev.PMU_FLAGS_HUWEAK

/-- R210, R456, R458, R475: CHOLD stands at `mv`; once E_av reaches PMU_HUREQ, HUWAIT clears and HUREADY is set; the PWM unit's
copy follows two SYS cycles on. -/
def State.huReady (s : State) (mv : Nat) : State :=
  let s := s.put Fd.PMU_CHOLD_MV mv
  let s := s.put Fd.PMU_HUEAV_MJ s.eAvail
  if s.on Fd.PMU_STATUS_HUWAIT && s.get Fd.PMU_HUREQ_MJ ≤ s.eAvail then
    let s := (s.put Fd.PMU_STATUS_HUWAIT 0).raise Ev.PMU_FLAGS_HUREADY
    let s := s.reachNow (s.now + 2 * s.sysT)
    let held := s.on Fd.PWM_STATUS_HUWAIT || !s.on Fd.PWM_CTRL_OUTEN
    (s.put Fd.PWM_STATUS_HUWAIT 0).outputsChanged held
  else s

/-- R455: VIOb falls below 90 % of its level; bank 6 supplies the SAFE pins. -/
def State.vioFault (s : State) (b : Fin 8) : State :=
  let s := (s.put ⟨Reg.PMU_STATUS, 8 + b.val, 1⟩ 1).raise Ev.PMU_FLAGS_RAILERR
  if b.val = 6 then s.safeSupply else s

/-- R455: VIOb recovers. -/
def State.vioReturn (s : State) (b : Fin 8) : State :=
  let s := s.put ⟨Reg.PMU_STATUS, 8 + b.val, 1⟩ 0
  if b.val = 6 && !s.pmu.warned then s.safeSupplyEnd else s

/-! ### The meanings -/

/-- R456. -/
def execPowerUp (v : Bool) (vio : Vector Supply 8) (s : State) : Result := .next (s.powerUp v vio)
/-- R366. -/
def execResetRelease (s : State) : Result := .next s.resetRelease
/-- R458. -/
def execHoldupReady (mv : BitVec 16) (s : State) : Result := .next (s.huReady mv.toNat)
/-- R455. -/
def execVioFault (b : Fin 8) (s : State) : Result := .next (s.vioFault b)
/-- R459: VIN, or a core rail. -/
def execPowerFailWarning (rail : Bool) (s : State) : Result := .next (s.warning (if rail then 2 else 1) 0)
/-- R460. -/
def execStewardWindowEnd (s : State) : Result := .next s.windowStop
/-- R461. -/
def execSaveEngineStart (s : State) : Result := .next s.engineStart
/-- R461. -/
def execSaveCaptureInstant (s : State) : Result := .next s.saveCapture
/-- R460. -/
def execSaveComplete (s : State) : Result := .next s.saveComplete
/-- R473. -/
def execPmuSleep (s : State) : Result := .next s.pmuSleep
/-- R436. -/
def execSecReboot (s : State) : Result := .next s.secReboot
/-- R455. -/
def execVioReturn (b : Fin 8) (s : State) : Result := .next (s.vioReturn b)
/-- R458. -/
def execHoldupMeasure (rise step : Word) (s : State) : Result := .next (s.huMeasure rise.toNat step.toNat)

end Sys2Proof.Machine
end

