-- ==== Sys2Proof/Machine/Reactions.lean ====
section
/-! DEFINITION. What the module does when a PLL's clocks stop (R58, R67, R186, R208, R221, R257, R270, R415, R429). -/
namespace Sys2Proof.Machine

/-- R67: the PWM, MOD and LANE clocks stop. -/
def State.syncClockStop (s : State) : State :=
  let s := s.pwmClockStop.tblHold
  let s := (List.finRange 7).foldl (fun (s : State) (g : Fin 7) => if s.mclkOn g then (s.modinClockGate g).acuMark g else s.modinClockGate g) s
  s.laneStop.driveBreak.seqStop.probeStop.nightRestart

/-- R67: the SYS domain falls back to REFCLK; the legs are forced, the reckoners and Ethernet stop. -/
def State.sysClockStop (s : State) : State :=
  let s := (s.sweepAbortAll 8).forceSys.rkSysStop
  s.ethSysStop.seqStop.capStop.probeStop

end Sys2Proof.Machine
end

