-- ==== Sys2Proof/Machine/Pll.lean ====
section
/-! DEFINITION. PLL: locking, holdover, loss of lock and its reactions, divider and clock-output updates (R62–R81). -/
namespace Sys2Proof.Machine

/-- R65, R67: a relock of the system PLL restarts its lock phases and ends a holdover, with the reactions of its loss of
lock. -/
def State.relockSys (s : State) : State :=
  let s := ((s.stCyclesSettle.put Fd.PLL_STATUS_SYSLOCK 0).put Fd.PLL_STATUS_SYSHOLD 0).pllM fun p => { p with sysLocking := true, sysSince := s.now }
  s.ckoutShow.sysClockStop

/-- R64, R65, R67: a relock of the sync PLL, which turns to the reference that SYNCREF then selects. The PWM unit
freezes first: the edges of its last cycle complete (R208). -/
def State.relockSync (s : State) : State :=
  let lost := s.syncRefAbsent
  let s := if s.pwmClk then s.pwmClockStop else s
  let s := ((s.put Fd.PLL_STATUS_SYNCLOCK 0).put Fd.PLL_STATUS_SYNCHOLD 0).pllM fun p =>
    { p with syncLocking := true, syncStopped := true, syncRefLost := lost, syncRefInUse := s.syncByLink.toNat, syncLink := s.get Fd.TBL_CTRL_LINKSEL, syncSince := s.now }
  s.ckoutShow.syncClockStop

/-- R67: MCLKg runs at the ball again at the divider release. -/
def State.mclkRelease (s : State) : State :=
  (List.finRange 7).foldl (fun s (g : Fin 7) =>
    if s.pll.mclkEn.getLsbD g.val then ((s.put (Fd.PLL_MCLKDIV_ACTEN g) 1).modinClockStart g s.now).acuReclock g (s.mclkT g) true else s) s

/-- R65–R67: the system PLL's lock: its dividers are released, SYSLOCK is set, and the ETH clocks return. -/
def State.sysLocked (s : State) (band : Nat) : State :=
  (((s.stCyclesSettle.put Fd.PLL_STATUS_SYSLOCK 1).put Fd.PLL_STATUS_SYSBAND band).pllM fun p => { p with sysLocking := false, sysBackAt := s.now }).ckoutShow.ethClockBack

/-- R65, R66, R77, R221, R275: the sync PLL's lock: dividers released, phase deterministic, the clocks it stopped return. -/
def State.syncLocked (s : State) (band : Nat) : State :=
  let stopped := s.pll.syncStopped
  let s := (((s.put Fd.PLL_STATUS_SYNCLOCK 1).put Fd.PLL_STATUS_SYNCBAND band).put Fd.PLL_STATUS_PHASEDET 1).pllM fun p =>
    { p with syncLocking := false, syncStopped := false, syncDiv := s.refDiv }
  let s := s.ckoutShow.mclkRelease
  if stopped then s.pwmClockReturn.driveClockReturn.nightRestart.sweepOverdue else s.driveClockReturn

/-- R65: the band search of 64 reference cycles for each of five comparisons, 12.8 µs, in tbu. -/
def bandSearch : Nat := 204800

/-- R65: a PLL in its lock phases with its reference present finishes them, not before its band search has passed. -/
def State.pllLockComplete (s : State) (pll : PllSel) (band : Nat) : State :=
  match pll with
  | .sys => if s.pll.sysLocking && !s.pll.sysRefLost then (s.reachNow (s.pll.sysSince + bandSearch)).sysLocked band else s
  | .sync => if s.pll.syncLocking && !s.pll.syncRefLost then (s.reachNow (s.pll.syncSince + bandSearch)).syncLocked band else s

/-- R67: the sync PLL loses lock. -/
def State.syncLoss (s : State) : State :=
  if s.on Fd.PLL_STATUS_SYNCLOCK then (s.raise Ev.PLL_FLAGS_SYNCLOL).relockSync else s

/-- R67: the system PLL loses lock. -/
def State.sysLoss (s : State) : State :=
  if s.on Fd.PLL_STATUS_SYSLOCK then (s.raise Ev.PLL_FLAGS_SYSLOL).relockSys else s

/-- R81: a write of PLL_MCLKDIVg: DIV is clamped to 128–640 and reads back clamped. -/
def State.mclkdivWrite (s : State) (g : Fin 7) (v : Word) : State :=
  (s.put (Fd.PLL_MCLKDIV_DIV g) (max 128 (min 640 (cut v.toNat 0 10)))).putB (Fd.PLL_MCLKDIV_EN g) (v.getLsbD 15)

/-- R69, R77: GO reaches the PLL two cycles on, catches every shadow and sets PEND; a second GO while PEND is 1 has no
effect. -/
def State.pllUpdateGo (s : State) : State :=
  let s := s.advance 2
  if s.on Fd.PLL_UPDATE_PEND then s
  else (s.put Fd.PLL_UPDATE_PEND 1).pllM fun p =>
    { p with pendAt := s.now, caught := some (Vector.ofFn fun g : Fin 7 => s.rd (Reg.PLL_MCLKDIV g), Vector.ofFn fun n : Fin 8 => s.rd (Reg.PLL_CKOUT n)) }

/-- R70: the first rising edge of a clock at its new divider, the divider `old` having run from the rising edge `edge` on,
with `u` the VCO period and `low` the new low phase: the half period in progress ends at the old divider. After a high phase
comes a low one of the new divider (DESIGN CHOICE, log entry 12). An odd divider's high phase is one VCO period shorter than its
low phase. A second change before the first has taken effect starts where the first would. -/
def clockSwitch (now edge u old low : Nat) : Nat :=
  if now < edge ∨ old = 0 then max now edge
  else
    let p := (now - edge) % (u * old)
    if p < u * (old / 2) then now - p + u * (old / 2) + low else now - p + u * old

/-- R70: where the half period in progress of a clock that is switched off ends. -/
def clockEnd (now edge u old : Nat) : Nat :=
  if now < edge ∨ old = 0 then max now edge
  else
    let p := (now - edge) % (u * old)
    if p < u * (old / 2) then now - p + u * (old / 2) else now - p + u * old

/-- R70: the first rising edge of a group's MCLK at a new divider; a clock that stood starts at once. -/
def State.mclkSwitch (s : State) (g : Fin 7) (div : Nat) : Nat :=
  if s.mclkOn g then clockSwitch s.now s.modin.origin[g] 5 (s.get (Fd.PLL_MCLKDIV_ACTDIV g)) (5 * (div - div / 2)) else s.now

/-- R69–R71: a group's divider and enable are taken; a change restarts the group's filters. -/
def State.mclkTake (s : State) (g : Fin 7) (w : Word) : State :=
  let div := cut w.toNat 0 10
  let en := w.getLsbD 15
  let edge := s.mclkSwitch g div
  let ends := if s.mclkOn g then clockEnd s.now s.modin.origin[g] 5 (s.get (Fd.PLL_MCLKDIV_ACTDIV g)) else s.modin.stoppedAt[g]
  let told := s.mclkT g
  let changed := div != s.get (Fd.PLL_MCLKDIV_ACTDIV g) || en != s.pll.mclkEn.getLsbD g.val
  let s := if changed && s.mclkOn g then
      { s with modin := { s.modin with lastRise := s.modin.lastRise.set g (s.riseBy g s.now) } }.acuMark g
    else s
  let s := (s.put (Fd.PLL_MCLKDIV_ACTDIV g) div).putB (Fd.PLL_MCLKDIV_ACTEN g) (en && s.pwmClk)
  let s := s.pllM fun p => { p with mclkEn := if en then p.mclkEn ||| (1#7 <<< g.val) else p.mclkEn &&& ~~~(1#7 <<< g.val) }
  if !changed then s
  else if en && s.pwmClk then (s.modinClockStart g edge).acuReclock g told false
  else s.modinClockStop g ends

/-- R72: the frequency limit of a format in MHz. -/
def fmtLimit (fmt : Nat) : Nat :=
  match fmt with | 1 | 2 | 3 => 200 | 4 => 800 | 5 => 400 | _ => 0

/-- R72: whether the measured VCKn suits the format. -/
def fmtSupply (fmt : Nat) (v : Supply) : Bool :=
  match fmt, v with
  | 1, .v18 => true | 2, .v25 => true | 3, .v33 => true
  | 4, .v25 => true | 4, .v33 => true | 5, .v33 => true
  | _, _ => false

/-- R81: the frequency of an output as a fraction of 1 MHz; none for a source that is off. -/
def ckoutRate (w : Nat) : Option (Nat × Nat) :=
  let d := max 4 (cut w 0 12)
  match cut w 12 2 with
  | 0 => some (3200, d) | 1 => some (4000, d) | 2 => some (25, 1) | _ => none

/-- R73: whether an enabled output passes its checks. One whose SRC is 0b11, acting as off (R81), fails none, whatever its FMT
and its supply: the spec does not say whether it counts as enabled (DESIGN CHOICE, log entry 12). -/
def ckoutOk (w : Nat) (v : Supply) : Bool :=
  let fmt := cut w 16 3
  match ckoutRate w with
  | none => true
  | some (num, den) => fmtSupply fmt v && num ≤ fmtLimit fmt * den

/-- R81: the VCO period of an output's source in tbu, and its divider; REFCLK's period stands as one of 320 tbu divided by 2. -/
def ckoutClock (w : Nat) : Nat × Nat :=
  match cut w 12 2 with
  | 0 => (5, max 4 (cut w 0 12)) | 1 => (4, max 4 (cut w 0 12)) | _ => (320, 2)

/-- R70: the rising edge from which an output runs at its new settings: one whose settings stay goes on, one that ran completes
its half period. -/
def State.ckoutSwitch (s : State) (n : Fin 8) (w : Nat) : Nat :=
  let old := s.pll.ckout[n].toNat
  if old = w then s.pll.ckoutEdge[n]
  else if s.pll.ckoutPass.getLsbD n.val && s.ckoutRuns old then
    clockSwitch s.now s.pll.ckoutEdge[n] (ckoutClock old).1 (ckoutClock old).2 ((ckoutClock w).1 * ((ckoutClock w).2 - (ckoutClock w).2 / 2))
  else s.now

/-- R72, R73: an output takes its settings, or stays off with its ERR bit set. -/
def State.ckoutTake (s : State) (n : Fin 8) (w : Word) (v : Supply) : State :=
  let fmt := cut w.toNat 16 3
  let off := fmt = 0 ∨ (ckoutRate w.toNat).isNone
  let ok := ckoutOk w.toNat v
  let edge := s.ckoutSwitch n w.toNat
  let s := s.pllM fun p =>
    { p with ckout := p.ckout.set n w, ckoutEdge := p.ckoutEdge.set n edge, ckoutPass := setBit p.ckoutPass n.val (decide ¬off && ok) }
  (s.putB ⟨Reg.PLL_CKOUTSTAT, n.val, 1⟩ (decide ¬(fmt = 0) && !ok)).ckoutShow

/-- R69, R73: the second reference edge after GO, at least 40 ns after PEND: every caught setting takes effect and PEND
clears; without a reference no edge comes. R234: a changed MCLK may break a grid point's rates. -/
def State.pllUpdateApply (s : State) (vck : Vector Supply 8) : State :=
  match s.pll.caught with
  | none => s
  | some (mclk, ck) =>
    if s.pll.syncRefLost then s else
    let s := s.reachNow (s.pll.pendAt + 640)
    let s := (s.put Fd.PLL_UPDATE_PEND 0).pllM fun p => { p with caught := none }
    let s := ((List.finRange 7).foldl (fun s (g : Fin 7) => s.mclkTake g mclk[g]) s).gpCheck
    let s := (List.finRange 8).foldl (fun s (n : Fin 8) => s.ckoutTake n ck[n] vck[n]) s
    s.raiseIf (s.get Fd.PLL_CKOUTSTAT_ERR != 0) Ev.PLL_FLAGS_OUTERR

/-- A write of PLL_CTRL. -/
def State.pllCtrlWrite (s : State) (v : Word) : State :=
  let s := s.put Fd.PLL_CTRL_SYNCREF (cut v.toNat 0 2)
  let s := if v.getLsbD 2 then s.relockSys else s
  if v.getLsbD 3 then s.relockSync else s

/-- R65. -/
def execRelockSys (s : State) : Result := .next s.relockSys
/-- R65. -/
def execRelockSync (s : State) : Result := .next s.relockSync
/-- R67. -/
def execReferenceLoss (pll : PllSel) (s : State) : Result := .next (s.referenceLoss pll)
/-- R67. -/
def execReferenceReturn (pll : PllSel) (s : State) : Result := .next (s.referenceReturn pll)
/-- R67. -/
def execSyncPllLossOfLock (s : State) : Result := .next s.syncLoss
/-- R67. -/
def execSysPllLossOfLock (s : State) : Result := .next s.sysLoss
/-- R69. -/
def execPllUpdateGo (s : State) : Result := .next s.pllUpdateGo

end Sys2Proof.Machine
end

