-- ==== Sys2Proof/Machine/Watchdog.lean ====
section
/-! DEFINITION. The watchdogs (R358–R360). -/
namespace Sys2Proof.Machine

/-- Replaces a watchdog. -/
def State.wdgM (s : State) (k : Fin 2) (f : Watchdog → Watchdog) : State := { s with wdg := s.wdg.upd k f }

/-- R358: a millisecond as a watchdog counts it: on REFCLK, or on watchdog 1's own oscillator, within ±20 %. -/
def wdgMs (k : Fin 2) : Nat := if k = 0 then tMs else max (tMs * 4 / 5) (min (tMs * 6 / 5) Config.watchdogMs)

/-- R359, R367: a watchdog's count of milliseconds; 0 acts as 1. -/
def msOf (k : Fin 2) (v : Nat) : Nat := wdgMs k * max 1 v

/-- R358: the steward a watchdog serves. -/
def State.wdgOwner (s : State) (k : Nat) : Fin 2 := Fin.ofNat 2 (s.get (Fd.SYSCFG_WDG_CFG_OWNER k))

/-- R360: a watchdog is paused while its owner is in debug halt and DBGSTOP is 1; a pause moves what it counts. -/
def State.wdgPause (s : State) (k : Fin 2) : State :=
  let stop := s.on (Fd.SYSCFG_WDG_CFG_EN k) && s.on (Fd.SYSCFG_WDG_CFG_DBGSTOP k) && s.cpu[stCore (s.wdgOwner k)].halted
  match s.wdg[k].paused, stop with
  | none, true => s.wdgM k fun w => { w with paused := some s.now }
  | some t, false =>
    let d := s.now - t
    s.wdgM k fun w => { w with paused := none, due := w.due + d, kick := w.kick.map (· + d), first := w.first.map (· + d) }
  | _, _ => s

/-- R358: EN starts a watchdog. -/
def State.wdgEnable (s : State) (k : Fin 2) : State :=
  if s.on (Fd.SYSCFG_WDG_CFG_EN k) then s
  else
    let s := s.put (Fd.SYSCFG_WDG_CFG_EN k) 1
    (s.wdgM k fun _ => { due := s.now + msOf k (s.get (Fd.SYSCFG_WDG_PERIOD_MS k)) }).wdgPause k

/-- R358: a write of WDGk_CFG: EN is set by 1 and kept; OWNER is refused while EN = 1. -/
def State.wdgCfgWrite (s : State) (k : Fin 2) (v : Word) : State :=
  let s := if s.on (Fd.SYSCFG_WDG_CFG_EN k) then s else s.putB (Fd.SYSCFG_WDG_CFG_OWNER k) (v.getLsbD 1)
  let s := s.putB (Fd.SYSCFG_WDG_CFG_DBGSTOP k) (v.getLsbD 2)
  (if v.getLsbD 0 then s.wdgEnable k else s).wdgPause k

/-- R358: a write of PERIOD, GRACE or WINDOW, refused while EN = 1. -/
def State.wdgTimeWrite (s : State) (k : Fin 2) (f : Fld) (v : Word) : State :=
  if s.on (Fd.SYSCFG_WDG_CFG_EN k) then s else s.put f v.toNat

/-- R359: stage 1: FIRED is set and an NMI goes to the owner. -/
def State.wdgFire (s : State) (k : Fin 2) : State :=
  if s.wdg[k].fired then s
  else
    let s := s.raise (Ev.SYSCFG_WDG_STATUS_FIRED k)
    let s := s.stM (s.wdgOwner k) fun x => { x with nmi := true }
    s.wdgM k fun w => { w with fired := true, due := s.now + msOf k (s.get (Fd.SYSCFG_WDG_GRACE_MS k)) }

/-- R360: the time by which a watchdog counts: a pause holds it. -/
def State.wdgNow (s : State) (k : Fin 2) : Nat := s.wdg[k].paused.getD s.now

/-- R359: a write to WDGk_KICK. -/
def State.wdgKick (s : State) (k : Fin 2) (v : Word) : State :=
  if !s.on (Fd.SYSCFG_WDG_CFG_EN k) then s
  else
    let w := s.wdg[k]
    let clear := s.wdgM k fun w => { w with first := none }
    match w.first with
    | none => if v = 0x5A5A then s.wdgM k fun w => { w with first := some (s.wdgNow k) } else s.wdgFire k
    | some t =>
      let early := match w.kick with
        | some l => decide (s.wdgNow k < l + wdgMs k * s.get (Fd.SYSCFG_WDG_WINDOW_MS k))
        | none => false
      if v = 0xA5A5 ∧ s.wdgNow k ≤ t + wdgMs k ∧ early = false then
        s.wdgM k fun w =>
          { w with first := none, kick := some (s.wdgNow k), fired := false, due := s.wdgNow k + msOf k (s.get (Fd.SYSCFG_WDG_PERIOD_MS k)) }
      else clear.wdgFire k

/-- R359: PERIOD passes without a valid kick. -/
def State.wdgStage1 (s : State) (k : Fin 2) : State :=
  let w := s.wdg[k]
  if s.on (Fd.SYSCFG_WDG_CFG_EN k) && !w.fired && w.paused.isNone then (s.reachNow w.due).wdgFire k else s

/-- R359: GRACE passes after stage 1: the module resets through the save sequence. -/
def State.wdgStage2 (s : State) (k : Fin 2) : State :=
  let w := s.wdg[k]
  if s.on (Fd.SYSCFG_WDG_CFG_EN k) && w.fired && w.paused.isNone then (s.reachNow w.due).warning 3 k else s

/-- R367: REMAIN, the milliseconds left in the current stage. -/
def State.wdgRemain (s : State) (k : Fin 2) : Nat :=
  if s.on (Fd.SYSCFG_WDG_CFG_EN k) then
    let w := s.wdg[k]
    min 65535 ((w.due - s.wdgNow k + wdgMs k - 1) / wdgMs k)
  else 0

/-! ### The meanings -/

/-- R358. -/
def execWatchdogEnable (k : Fin 2) (s : State) : Result := .next (s.wdgEnable k)
/-- R359. -/
def execWatchdogKick (k : Fin 2) (v : Word) (s : State) : Result := .next (s.wdgKick k v)
/-- R359. -/
def execWatchdogStage1 (k : Fin 2) (s : State) : Result := .next (s.wdgStage1 k)
/-- R359. -/
def execWatchdogStage2 (k : Fin 2) (s : State) : Result := .next (s.wdgStage2 k)

end Sys2Proof.Machine
end

