-- ==== Sys2Proof/Machine/Bus.lean ====
section
/-! DEFINITION. Accesses at their targets: the memory map (R15–R19), the registers' reads and writes (R7–R10), and the
reads and writes of a master (R6, R12, R17, R24). -/
namespace Sys2Proof.Machine

/-! ### The memory map -/

/-- R15–R17: the regions of the address space. -/
inductive Region where
  | rom | mram | mramRo | sram
  | tcm (n : Fin 4)
  | regs | live | remote | unmapped
  deriving DecidableEq, Repr

/-- R15–R17: the region of an address. -/
def region (a : Nat) : Region :=
  if a < 0x20000 then .rom
  else if 0x08000000 ≤ a ∧ a < 0x09000000 then
    if (0x08A00000 ≤ a ∧ a < 0x08B00000) ∨ 0x08F00000 ≤ a then .mramRo else .mram
  else if 0x20000000 ≤ a ∧ a < 0x20400000 then .sram
  else if 0x24000000 ≤ a ∧ a < 0x24100000 then
    if a % 0x40000 < 0x30000 then .tcm (Fin.ofNat 4 ((a - 0x24000000) / 0x40000)) else .unmapped
  else if 0x40000000 ≤ a ∧ a < 0x40150000 then
    if 0x40138000 ≤ a ∧ a < 0x4013D000 then .live else .regs
  else if isRemote a then .remote
  else .unmapped

/-- R6: the size of an access in bytes. -/
def sizeOk (n : Nat) : Bool := n == 1 || n == 2 || n == 4 || n == 8

/-- R6, R8, R12, R15, R17, R19: whether an access is accepted at its target. -/
def busOk (a n : Nat) (write : Bool) : Bool :=
  sizeOk n && a % n == 0 &&
    match region a with
    | .rom | .mramRo => !write
    | .mram | .sram | .tcm _ => true
    | .regs => n == 4
    | .live => n == 4 && !write
    | .remote => (farAddr a).isSome
    | .unmapped => false

/-- R484: an uncorrectable error stands in a doubleword of the SRAM. -/
def State.eccBad (s : State) (a : Nat) : Bool := s.mon.ecc.contains (a / 8 * 8)

/-! ### Reading registers -/

/-- Which of `n` registers, `stride` bytes apart from `base` on, lies at an address. -/
def regIdx (n : Nat) [NeZero n] (base stride a : Nat) : Option (Fin n) :=
  if base ≤ a ∧ (a - base) % stride = 0 ∧ (a - base) / stride < n then some (Fin.ofNat n ((a - base) / stride)) else none

/-- The level of the GPIO balls: driven, pulled, or as the board drives them (R507); with their supply absent nothing on
this module drives or pulls them (R495, R497). -/
def State.gpioLevel (s : State) : Nat :=
  let dir := s.rdN Reg.SYSCFG_GPIO_DIR
  let out := s.rdN Reg.SYSCFG_GPIO_OUT
  let pull := s.rdN Reg.SYSCFG_GPIO_PULL
  ((List.range 16).map fun i =>
    let b := if s.get ⟨Reg.SYSCFG_PAD 7, 8, 2⟩ = 0 then s.gpio.getLsbD i
      else if dir.testBit i then out.testBit i
      else if cut pull (2 * i) 2 = 1 then true
      else if cut pull (2 * i) 2 = 2 then false
      else s.gpio.getLsbD i
    b.toNat * 2 ^ i).sum

/-- R507: SYSCFG_GPIO_IN shows a level two or three SYS cycles after it changes; which is open (log entry 61). -/
def State.gpioIn (s : State) : Nat :=
  match s.gpioPort.changed with
  | some (t, was) =>
    if s.now < t + 2 * s.sysT ∨ (s.now < t + 3 * s.sysT ∧ (Config.freeWord s.free).getLsbD 0) then was.toNat else s.gpioLevel
  | none => s.gpioLevel

/-- R367: STn_STATUS. -/
def State.stStatus (s : State) (n : Fin 2) : Nat :=
  s.rdN (Reg.SYSCFG_ST_STATUS n) % 8 + 8 * s.st[n].wfi.toNat + 2 ^ 8 * cut s.st[n].estat.toNat 8 4

/-- R381, R385: DMA_TAGS: the engine's transactions in flight, and the reads among them. -/
def State.dmaTags (s : State) : Nat :=
  let reads := s.xbar.tags.toList.countP (fun t => match t with | some t => masterRow t.m == 6 && t.acc.write.isNone | none => false) +
    ((List.finRange 4).map fun l => (s.port l).ops.countP fun o => o.stage.inFlight && o.who.row == some 6 && o.data.isNone).sum
  s.tagsHeld (· == 6) + 2 ^ 8 * reads

/-- Registers whose words follow what the blocks hold. -/
def State.shown (s : State) (a : Nat) : Option Nat :=
  (if a = Reg.PWM_LEGPEND_LO then some (s.legPend % 2 ^ 32) else none)
  <|> (if a = Reg.PWM_LEGPEND_HI then some (s.legPend / 2 ^ 32) else none)
  <|> (if a = Reg.PWM_FSTAT then some (paste (s.rdN a) 20 12 s.drive.locked.toNat) else none)
  <|> ((regIdx 8 (Reg.PWM_C_CNT 0) 0x20 a).map fun c => (s.carCount c).1 + 2 ^ 31 * (s.carCount c).2.toNat)
  <|> ((regIdx 8 (Reg.PWM_C_PER 0) 0x20 a).map fun _ => (s.shadowRead a).toNat)
  <|> ((regIdx 48 (Reg.PWM_LEG_CMPA 0) 0x40 a).map fun _ => (s.shadowRead a).toNat)
  <|> ((regIdx 48 (Reg.PWM_LEG_CMPB 0) 0x40 a).map fun _ => (s.shadowRead a).toNat)
  <|> ((regIdx 48 (Reg.PWM_LEG_OFS 0) 0x40 a).map fun _ => (s.shadowRead a).toNat)
  <|> (if a = Reg.DRIVE_IRQSTAT then some (irqStat s 28 12) else none)
  <|> ((regIdx 12 (Reg.DRIVE_G_WAITREM 0) 0x40 a).map fun k => s.waitRem k)
  <|> ((regIdx 56 (Reg.MODIN_IN_FLAGS 0) 0x20 a).map fun n => paste (s.rdN a) 9 1 (s.settling n).toNat)
  <|> (if a = Reg.MODIN_IRQSTAT then some (irqStat s 40 8) else none)
  <|> (if a = Reg.SEQ_IRQSTAT then some (irqStat s 56 4) else none)
  <|> (if a = Reg.DMA_TAGS then some s.dmaTags else none)
  <|> (if a = Reg.DMA_IRQSTAT then some (irqStat s 70 32) else none)
  <|> (if a = Reg.LINK_IRQSTAT then some (irqStat s 102 8) else none)
  <|> ((regIdx 16 (Reg.PROT_STG_STATE 0) 0x10 a).map fun k => s.stgStateRead k)
  <|> ((regIdx 4 (Reg.PROT_RTTIME 0) 4 a).map fun c => s.rttimeRead c)
  <|> ((regIdx 8 (Reg.SYSCFG_DC_NSTAT 0) 0x100 a).map fun k => s.rdN a % 2 ^ 16 + 2 ^ 16 * s.nightElapsed k)
  <|> (if a = Reg.ETH_STATUS then some (paste (s.rdN a) 8 1 s.tsValid.toNat) else none)
  <|> ((regIdx 32 (Reg.ETH_GF_CFG 0) 0x10 a).map fun k => s.rdN a % 2 ^ 16 + 2 ^ 16 * s.talRem k)
  <|> (if a = Reg.CONSENT_WINREM then some s.winRem else none)
  <|> (if a = Reg.CONSENT_LOCKREM then some s.lockRem else none)
  <|> ((regIdx 5120 (Reg.CONSENT_LIVE 0 0) 4 a).map fun i => s.liveView (i.val / 1024) (i.val % 1024))
  <|> ((regIdx 2 (Reg.SYSCFG_WDG_STATUS 0) 0x20 a).map fun k => s.rdN a % 2 + 2 ^ 16 * s.wdgRemain k)
  <|> ((regIdx 2 (Reg.SYSCFG_ST_STATUS 0) 0x40 a).map fun n => s.stStatus n)
  <|> (if a = Reg.SYSCFG_GPIO_IN then some s.gpioIn else none)

/-- The value an operation answers, with the answer of the last read command kept. -/
def State.quiet (s : State) (f : State → State) : Nat × State :=
  let t := f s
  (t.rdata.toNat, { t with rdata := s.rdata })

/-- Registers whose read is an operation of its block (R7, R35, R46, R324, R440, R474). -/
def State.readActs (s : State) (a : Nat) : Option (Nat × State) :=
  (if a = Reg.TBL_NOW_LO then some (s.quiet State.nowLoRead) else none)
  <|> (if a = Reg.TBL_QPUSH then some (s.quiet State.queuePush) else none)
  <|> (if a = Reg.SENT_RTC_LO then some (s.quiet State.rtcRead) else none)
  <|> (if a = Reg.SEC_TRNG then some (s.quiet fun s => let (w, s) := s.fresh; s.trngRead (w.getLsbD 0)) else none)
  <|> (match regIdx 256 (Reg.METER_E_LO 0 0) 0x10 a with
      | some i =>
        if h : i.val % 64 < 14 then
          let s := s.energyRead (Fin.ofNat 4 (i.val / 64)) ⟨i.val % 64, h⟩
          some (s.rdN a, s)
        else none
      | none => none)

/-- R7: a read of the register at an address, no write to which waits in a crossing. -/
def State.regReadNow (s : State) (a : Nat) : Nat × State :=
  match s.readActs a with
  | some r => r
  | none =>
    match s.shown a with
    | some v => (v % 2 ^ 32, s)
    | none =>
      match (regRow a).map RegRow.rd with
      | some .clear => (s.rdN a, s.wr a 0)
      | some .latch => (s.rdN a, s.latchHi a)
      | some .plain => (s.rdN a, s)
      | none => (0, s)

/-- R477: an address of SENT. -/
def isSent (a : Nat) : Bool := 0x40100000 ≤ a && a < 0x40110000

/-- R7, R77: a read of the register at an address: its value, and the state after the read's side effect. -/
def State.regRead (s : State) (a : Nat) : Nat × State :=
  let (v, t) := (if isSent a then s.sentSettle else s).regReadNow a
  (if s.parked.isEmpty then v else s.parkedView a v, t)

/-! ### Writing registers -/

/-- R507: after a write the levels of the GPIO balls may have changed. -/
def State.gpioMoved (s t : State) : State :=
  if t.gpioLevel = s.gpioLevel then t
  else { t with gpioPort := { t.gpioPort with changed := some (s.now, BitVec.ofNat 16 s.gpioLevel) } }

/-- R507: a write of OUT, SET or CLR: of those of one SYS cycle OUT applies first, and SET wins over CLR. -/
def State.gpioDrive (s : State) (out : Option (BitVec 16)) (sets clrs : BitVec 16) : State :=
  let o := BitVec.ofNat 16 (s.get Fd.SYSCFG_GPIO_OUT_OUT)
  let p := if s.gpioPort.wrote = some s.now then s.gpioPort
    else { s.gpioPort with wrote := some s.now, base := o, sets := 0, clrs := 0 }
  let p := { p with base := out.getD p.base, sets := p.sets ||| sets, clrs := p.clrs ||| clrs }
  s.gpioMoved ({ s with gpioPort := p }.put Fd.SYSCFG_GPIO_OUT_OUT ((p.base &&& ~~~p.clrs) ||| p.sets).toNat)

/-- R507: the write of SYSCFG_GPIO_SET. -/
def State.gpioSet (s : State) (m : BitVec 16) : State := s.gpioDrive none m 0

/-- R507: the write of SYSCFG_GPIO_CLR. -/
def State.gpioClr (s : State) (m : BitVec 16) : State := s.gpioDrive none 0 m

/-- R44: a write of a rod's START or COUNT, ignored while ARM reads 1, also by a write that waits in its crossing. -/
def State.unlessArmed (s : State) (n : Fin 16) (a : Nat) (v : Word) : State :=
  if (s.parkedView (Reg.TBL_ROD_CTRL n) (s.rdN (Reg.TBL_ROD_CTRL n))).testBit 0 then s else s.plainWrite a v

/-- R61, R77: a register of the launch matrix, the forwarders or the trigger pins, which lie in the PWM domain. -/
def tblPwmReg (a : Nat) : Bool :=
  (regIdx 112 (Reg.TBL_TGTSEL 0) 4 a).isSome || (regIdx 32 (Reg.TBL_FWD 0 0) 4 a).isSome || (regIdx 4 (Reg.TBL_LFWDDLY 0) 4 a).isSome ||
    (regIdx 8 (Reg.TBL_TRGIN_CFG 0) 0x10 a).isSome || (regIdx 8 (Reg.TBL_TRGOUT_CFG 0) 4 a).isSome

/-- Registers of TBL and PLL whose writes are operations (R61, R81). -/
def State.timingWrite (s : State) (a : Nat) (v : Word) : Option State :=
  (if a = Reg.TBL_CTRL then some (s.tblCtrlWrite v) else none)
  <|> (if a = Reg.TBL_ADDFRAC then some (s.addfracWrite v) else none)
  <|> (if a = Reg.TBL_STEPCMD then some (if s.landing then s.stepLand else if v.getLsbD 0 then s.stepApply else s) else none)
  <|> ((regIdx 16 (Reg.TBL_ROD_START_LO 0) 0x20 a).map fun n => s.unlessArmed n a v)
  <|> ((regIdx 16 (Reg.TBL_ROD_START_HI 0) 0x20 a).map fun n => s.unlessArmed n a v)
  <|> ((regIdx 16 (Reg.TBL_ROD_COUNT 0) 0x20 a).map fun n => s.unlessArmed n a v)
  <|> ((regIdx 16 (Reg.TBL_ROD_PER_HI 0) 0x20 a).map fun n => s.rodPeriodCommit n (v.setWidth 8))
  <|> ((regIdx 16 (Reg.TBL_ROD_CTRL 0) 0x20 a).map fun n => s.rodCtrlWrite n v)
  <|> (if a = Reg.TBL_QCANCEL then some (s.queueCancel (cut v.toNat 0 6)) else none)
  <|> (if a = Reg.TBL_QFLUSH then some (if v.getLsbD 0 then s.queueFlush else s) else none)
  <|> (if a = Reg.TBL_SWLAUNCH then some (s.softwareLaunch (cut v.toNat 0 16)) else none)
  <|> (if tblPwmReg a then some (s.landPwm a v fun s => s.plainWrite a v) else none)
  <|> (if a = Reg.PLL_CTRL then some (s.pllCtrlWrite v) else none)
  <|> ((regIdx 7 (Reg.PLL_MCLKDIV 0) 4 a).map fun g => s.mclkdivWrite g v)
  <|> (if a = Reg.PLL_UPDATE then some (if v.getLsbD 0 then s.pllUpdateGo else s) else none)

/-- Registers of PWM and DRIVE whose writes are operations (R213, R234). -/
def State.switchWrite (s : State) (a : Nat) (v : Word) : Option State :=
  (if a = Reg.PWM_CTRL then some (s.pwmCtrlWrite v) else none)
  <|> (if a = Reg.PWM_FSTAT then some (s.fstatWrite v) else none)
  <|> (if a = Reg.PWM_RESTART then some (s.pwmRestartWrite (cut v.toNat 0 8)) else none)
  <|> (if a = Reg.PWM_LOADALL then some (s.loadallWrite (cut v.toNat 0 8) false) else none)
  <|> (if a = Reg.PWM_LOADCNCL then some (s.loadcnclWrite (cut v.toNat 0 8)) else none)
  <|> ((regIdx 8 (Reg.PWM_C_CFG 0) 0x20 a).map fun c => s.carrierCfgWrite c v)
  <|> ((regIdx 8 (Reg.PWM_C_PER 0) 0x20 a).map fun c => s.shadowWrite (.per c) v false)
  <|> ((regIdx 48 (Reg.PWM_LEG_CFG 0) 0x40 a).map fun n => s.legCfgWrite n v)
  <|> ((regIdx 48 (Reg.PWM_LEG_CMPA 0) 0x40 a).map fun n => s.shadowWrite (.cmpa n) v false)
  <|> ((regIdx 48 (Reg.PWM_LEG_CMPB 0) 0x40 a).map fun n => s.shadowWrite (.cmpb n) v false)
  <|> ((regIdx 48 (Reg.PWM_LEG_OFS 0) 0x40 a).map fun n => s.shadowWrite (.ofs n) v false)
  <|> ((regIdx 48 (Reg.PWM_LEG_OVR 0) 0x40 a).map fun n => s.legOvrWrite n v)
  <|> ((regIdx 48 (Reg.PWM_LEG_FLAGS 0) 0x40 a).map fun n => s.legFlagsWrite n v)
  <|> ((regIdx 48 (Reg.PWM_LEG_DT 0) 0x40 a).map fun _ => s.legTimeWrite a v)
  <|> ((regIdx 48 (Reg.PWM_LEG_MINP 0) 0x40 a).map fun _ => s.legTimeWrite a v)
  <|> ((regIdx 48 (Reg.PWM_LEG_GUARD 0) 0x40 a).map fun _ => s.guardWrite a v)
  <|> (if Reg.PWM_FMAPMOD 0 ≤ a ∧ a ≤ Reg.PWM_FLTINCFG then some (s.forceCfgWrite a v) else none)
  <|> ((regIdx 12 (Reg.DRIVE_G_CFG 0) 0x40 a).map fun k => s.groupCfg k v)
  <|> ((regIdx 12 (Reg.DRIVE_G_CTRL 0) 0x40 a).map fun k => if v.getLsbD 0 then s.landPwm a v fun s => s.driveClear k else s)
  <|> ((regIdx 48 (Reg.DRIVE_LEG_HS 0) 0x20 a).map fun n => s.hsWrite n v)
  <|> ((regIdx 48 (Reg.DRIVE_LEG_CODE 0) 0x20 a).map fun n => s.codeWrite n v false)

/-- Registers of MODIN, the ACU, METER, SEQ, PROBE and PROT whose writes are operations. -/
def State.senseWrite (s : State) (a : Nat) (v : Word) : Option State :=
  ((regIdx 7 (Reg.MODIN_GCFG 0) 0x40 a).map fun g => s.groupCfgWrite g v)
  <|> ((regIdx 56 (Reg.MODIN_IN_CFG 0) 0x20 a).map fun n => s.inputCfg n v)
  <|> ((regIdx 56 (Reg.MODIN_IN_THHI 0) 0x20 a).map fun n => s.modWrite (grpOf n) a v)
  <|> ((regIdx 56 (Reg.MODIN_IN_THLO 0) 0x20 a).map fun n => s.modWrite (grpOf n) a v)
  <|> ((regIdx 56 (Reg.MODIN_IN_OCCFG 0) 0x20 a).map fun n => s.modWrite (grpOf n) a v)
  <|> ((regIdx 56 (Reg.MODIN_IN_HCFG 0) 0x20 a).map fun n => s.healthCfgWrite n v)
  <|> ((regIdx 7 (Reg.MODIN_GEXTDLY 0) 0x40 a).map fun g => s.modWrite g a v)
  <|> (if a = Reg.ACU_CFG then some (s.acuCfgWrite v) else none)
  <|> (if a = Reg.ACU_CMD then some (s.acuCmdWrite v) else none)
  <|> ((regIdx 16 (Reg.ACU_WIN_CFG 0) 0x10 a).map fun k => s.winCfgWrite k.val v)
  <|> (if a = Reg.METER_TSGCFG then some (s.tsgWrite v) else none)
  <|> ((regIdx 4 (Reg.METER_MP_CMD 0) 0x40 a).map fun p => if v.getLsbD 0 then s.snapRequest p s.tbl.count else s)
  <|> ((regIdx 4 (Reg.SEQ_GP_FREF 0) 0x80 a).map fun g => s.frefWrite g v)
  <|> (if a = Reg.PROBE_CLR then some (if v.getLsbD 0 then s.islClear else s) else none)
  <|> (if a = Reg.PROT_TRIPLAT then some (s.triplatClear (cut v.toNat 0 16)) else none)
  <|> (if a = Reg.PROT_CMD then
      let s := if v.getLsbD 0 then s.protSwtrip else s
      let s := if v.getLsbD 1 then s.capTrigger 33 else s
      some (if v.getLsbD 2 then s.dcArm else s)
    else none)

/-- Registers of DMA, LINK, ETH, SEC, PMU, SENT, MON and CONSENT whose writes are operations. -/
def State.serviceWrite (s : State) (a : Nat) (v : Word) : Option State :=
  ((regIdx 32 (Reg.DMA_CH_CTRL 0) 0x40 a).map fun c => s.dmaCtrlWrite c v)
  <|> ((regIdx 32 (Reg.DMA_CH_DESC 0) 0x40 a).map fun c => s.dmaDescWrite c v)
  <|> ((regIdx 32 (Reg.DMA_CH_SWTRIG 0) 0x40 a).map fun c => if v.getLsbD 0 then s.dmaSwtrig c else s)
  <|> ((regIdx 4 (Reg.LINK_L_CTRL 0) 0x100 a).map fun l => s.linkCtrlWrite l v)
  <|> ((regIdx 4 (Reg.LINK_L_PRBS 0) 0x100 a).map fun l => s.prbsWrite l v)
  <|> (if a = Reg.ETH_CFG then some (s.ethCfgWrite v) else none)
  <|> ((regIdx 2 (Reg.ETH_P_CTRL 0) 0x80 a).map fun p => s.ethCtrlWrite p v)
  <|> ((regIdx 2 (Reg.ETH_P_RXBASE 0) 0x80 a).map fun p => s.ethBaseWrite p a v)
  <|> ((regIdx 2 (Reg.ETH_P_TXBASE 0) 0x80 a).map fun p => s.ethBaseWrite p a v)
  <|> ((regIdx 2 (Reg.ETH_P_TXKICK 0) 0x80 a).map fun p => if v.getLsbD 0 then s.txKick p else s)
  <|> ((regIdx 2 (Reg.ETH_SV_CFG 0) 0x100 a).map fun n => s.svCfgWrite n v)
  <|> ((regIdx 2 (Reg.ETH_SV_LAYOUT 0) 0x100 a).map fun n => s.svLayoutWrite n v)
  <|> (if a = Reg.SEC_CMD then some (if cut v.toNat 0 4 = 7 ∧ ¬s.on Fd.SEC_STATUS_BUSY then s.secReboot else s.secCommand (cut v.toNat 0 4)) else none)
  <|> (if a = Reg.SEC_ST1ENTRY then some (s.st1EntryWrite v) else none)
  <|> (if a = Reg.PMU_CMD then some (if v.getLsbD 0 then s.pmuSleep else s) else none)
  <|> (if a = Reg.PMU_HUREQ then some (s.put Fd.PMU_HUREQ_MJ (max 45 (cut v.toNat 0 16))) else none)
  <|> (if isSent a then some (s.sentPost a v) else none)
  <|> (if a = Reg.MON_CLR then some (s.monClear (cut v.toNat 0 16)) else none)
  <|> (if a = Reg.CONSENT_CMD then some (s.consCmd v) else none)
  <|> ((regIdx 1024 (Reg.CONSENT_STAGE 0) 4 a).map fun i => s.consStage i.val v)

/-- R188: an address of a RKn_SLOTk_CFG or RKn_SLOTk_DL. -/
def rkSlotReg (a : Nat) : Bool :=
  (List.finRange 4).any fun n =>
    (regIdx 8 (Reg.SYSCFG_SLOT_CFG n 0) 0x20 a).isSome || (regIdx 8 (Reg.SYSCFG_SLOT_DL n 0) 0x20 a).isSome

/-- Registers of SYSCFG whose writes are operations. -/
def State.syscfgWrite (s : State) (a : Nat) (v : Word) : Option State :=
  ((regIdx 2 (Reg.SYSCFG_WDG_CFG 0) 0x20 a).map fun k => s.wdgCfgWrite k v)
  <|> ((regIdx 2 (Reg.SYSCFG_WDG_PERIOD 0) 0x20 a).map fun k => s.wdgTimeWrite k (Fd.SYSCFG_WDG_PERIOD_MS k) v)
  <|> ((regIdx 2 (Reg.SYSCFG_WDG_GRACE 0) 0x20 a).map fun k => s.wdgTimeWrite k (Fd.SYSCFG_WDG_GRACE_MS k) v)
  <|> ((regIdx 2 (Reg.SYSCFG_WDG_WINDOW 0) 0x20 a).map fun k => s.wdgTimeWrite k (Fd.SYSCFG_WDG_WINDOW_MS k) v)
  <|> ((regIdx 2 (Reg.SYSCFG_WDG_KICK 0) 0x20 a).map fun k => s.wdgKick k v)
  <|> (if a = Reg.SYSCFG_GPIO_SET then some (s.gpioSet (v.setWidth 16)) else none)
  <|> (if a = Reg.SYSCFG_GPIO_CLR then some (s.gpioClr (v.setWidth 16)) else none)
  <|> (if a = Reg.SYSCFG_GPIO_OUT then some (s.gpioDrive (some (v.setWidth 16)) 0 0) else none)
  <|> (if a = Reg.SYSCFG_GPIO_DIR ∨ a = Reg.SYSCFG_GPIO_PULL then some (s.gpioMoved (s.plainWrite a v)) else none)
  <|> ((regIdx 4 (Reg.SYSCFG_RK_CTRL 0) 0x400 a).map fun n => s.rkCtrlWrite n v)
  <|> ((regIdx 4 (Reg.SYSCFG_RK_BANKCTL 0) 0x400 a).map fun n => s.bankctlWrite n v)
  <|> (if rkSlotReg a then some (s.rkSlotWrite a v) else none)
  <|> ((regIdx 8 (Reg.SYSCFG_DC_CFG 0) 0x100 a).map fun k => s.dcCfgWrite k .cfg v)
  <|> ((regIdx 8 (Reg.SYSCFG_DC_LEGS_LO 0) 0x100 a).map fun k => s.dcCfgWrite k .legsLo v)
  <|> ((regIdx 8 (Reg.SYSCFG_DC_LEGS_HI 0) 0x100 a).map fun k => s.dcCfgWrite k .legsHi v)
  <|> ((regIdx 8 (Reg.SYSCFG_DC_SWCMD 0) 0x100 a).map fun k => s.swcmdWrite k v)
  <|> ((regIdx 2048 (Reg.SYSCFG_DC_TABLE 0 0) 4 a).map fun n => s.dcTableWrite n v)
  <|> ((regIdx 8 (Reg.SYSCFG_DC_SLEEPV 0) 0x100 a).map fun k => s.nightWrite k a v)
  <|> ((regIdx 8 (Reg.SYSCFG_DC_WAKEV 0) 0x100 a).map fun k => s.nightWrite k a v)
  <|> ((regIdx 8 (Reg.SYSCFG_DC_NWTIME 0) 0x100 a).map fun k => s.nightWrite k a v)

/-- The operation of a write to the register at an address, if it has one. -/
def State.writeOp (s : State) (a : Nat) (v : Word) : Option State :=
  s.timingWrite a v <|> s.switchWrite a v <|> s.senseWrite a v <|> s.serviceWrite a v <|> s.syscfgWrite a v

/-- A write to the register at an address; once PMU has gated the clocks none acts (R75). -/
def State.regWrite (s : State) (a : Nat) (v : Word) : State :=
  if s.pmu.clocksOff then s else (s.writeOp a v).getD (s.plainWrite a v)

/-- R77: the clock of a domain has returned: the writes that wait land together, in issue order, two cycles on, a step of
the count that none precedes in the first cycle; those of a domain whose clock still stands wait again. -/
def State.unpark (s : State) : State :=
  if s.parked.isEmpty then s
  else
    let steps := s.parked.takeWhile (·.1 == Reg.TBL_STEPCMD)
    let rest := s.parked.drop steps.length
    let s := steps.foldl (fun s _ => s.stepLand) { s with parked := [], landing := true }
    let s := if rest.isEmpty then s else s.advance 2
    { rest.foldl (fun s e => s.regWrite e.1 e.2) s with landing := false }

/-! ### Accesses of a master on this module -/

/-- R24, R25: a read of `n` bytes at its target: whether it is accepted, what it reads (0 for an error), and the state
after it. -/
def State.busRead (s : State) (a n : Nat) : (Bool × Nat) × State :=
  if busOk a n false then
    match region a with
    | .regs | .live => let (v, s) := s.regRead a; ((true, v), s)
    | .sram => if s.eccBad a then ((false, 0), s) else ((true, s.memRd a n), s)
    | .remote => ((false, 0), s)
    | _ => ((true, s.memRd a n), s)
  else ((false, 0), s)

/-- A write of `n` bytes at its target: whether it is accepted, and the state after it. -/
def State.busWrite (s : State) (a n v : Nat) : Bool × State :=
  if busOk a n true then
    match region a with
    | .regs => (true, s.regWrite a (BitVec.ofNat 32 v))
    | .mram => (true, s.mramWrite a n v)
    | .sram => (true, (s.memWr a n v).monM fun m => { m with ecc := m.ecc.erase (a / 8 * 8) })
    | .tcm _ => (true, s.memWr a n v)
    | _ => (false, s)
  else (false, s)

/-- Whether an address is a register that a command of the sender reaches. -/
def isReg (a : Nat) : Bool := busOk a 4 false && (region a == .regs || region a == .live)

/-! ### The meanings -/

/-- R8. -/
def execRegisterWrite (addr value : Word) (s : State) : Result :=
  .next (if isReg addr.toNat then (s.busWrite addr.toNat 4 value.toNat).2 else s)
/-- R65, R77: the lock of a PLL, and what waited for its clocks. -/
def execPllLockComplete (pll : PllSel) (band : Fin 32) (s : State) : Result := .next (s.pllLockComplete pll band.val).unpark
/-- R69, R77: the update of the dividers, and what waited for a clock that starts. -/
def execPllUpdateApply (vck : Vector Supply 8) (s : State) : Result := .next (s.pllUpdateApply vck).unpark
/-- R7, R9. -/
def execCounterReadClear (addr : Word) (s : State) : Result :=
  .next (if isReg addr.toNat then (let (v, t) := s.regRead addr.toNat; t.answer v) else s.answer 0)
/-- R7. -/
def execStampLoRead (addr : Word) (s : State) : Result :=
  .next (if isReg addr.toNat then (let (v, t) := s.regRead addr.toNat; t.answer v) else s.answer 0)
/-- R507. -/
def execGpioSet (mask : BitVec 16) (s : State) : Result := .next (s.gpioSet mask)
/-- R507. -/
def execGpioClr (mask : BitVec 16) (s : State) : Result := .next (s.gpioClr mask)

end Sys2Proof.Machine
end

