-- ==== Sys2Proof/Machine/CoreOps.lean ====
section
/-! DEFINITION. How a core issues an instruction: loops, fetch checks, predicates, results, exceptions and interrupts
(R132–R134, R149, R150, R158, R168, R351–R353). -/
namespace Sys2Proof.Machine

/-- R156: a reckoner or a steward, by COREID. -/
inductive CoreKind where
  | rk (n : Fin 4)
  | st (n : Fin 2)
  deriving DecidableEq, Repr

/-- R156: the kind of a core. -/
def coreKind (c : Fin 6) : CoreKind := if c.val < 4 then .rk (Fin.ofNat 4 c.val) else .st (Fin.ofNat 2 (c.val - 4))

/-- Whether a core is a reckoner. -/
def isRk (c : Fin 6) : Bool := c.val < 4

/-- A core's cycle: 2 ns, 1.25 ns, or 40 ns for a steward on REFCLK (R67, R343, R365). -/
def State.cycle (s : State) (c : Fin 6) : Nat :=
  if isRk c then 32 else s.stCycleT

/-- The program counter of a core. -/
def State.pc (s : State) (c : Fin 6) : Nat := s.cpu[c].pc.toNat

/-- The time at which a core's next instruction issues; in a debug step, not before now. -/
def State.issueAt (s : State) (c : Fin 6) : Nat :=
  if isRk c then if s.cpu[c].halted then max s.cpu[c].next (rkUp s.now) else s.cpu[c].next
  else max s.cpu[c].next s.now

/-! ### Exceptions (R158, R168, R352, R353) -/

/-- R352: a steward enters a handler by vector `v`. -/
def State.stEnter (s : State) (n : Fin 2) (v : Nat) (epc : Word) (cause : Nat) (level : Option Nat) (t : Nat) : State :=
  let s := s.reachNow t
  let cyc := s.cycle (stCore n)
  let s := s.stM n fun x =>
    let e := x.estat.toNat
    let cur := cut e 8 4
    { x with
      estat := BitVec.ofNat 32 (2 * (e % 2) + 4 + 2 ^ 8 * level.getD cur + 2 ^ 12 * cur)
      epc := epc, ecause := BitVec.ofNat 32 cause, wfi := false, shadow := false }
  s.cpuM (stCore n) fun c =>
    { c with pc := s.st[n].vbase + BitVec.ofNat 32 (0x20 * v), ended := none, next := t + 4 * cyc, step := false }

/-- R150, R353: an exception while EXL = 1 is a double fault; like any exception it ends both loops. -/
def State.doubleFault (s : State) (n : Fin 2) : State :=
  ((s.put (Fd.SYSCFG_ST_STATUS_DFAULT n) 1).stM n fun x => { x with wfi := false }).cpuM (stCore n) fun c =>
    { c with loops := Vector.replicate 2 none, wait := none }

/-- R352, R357: an exception of a steward at `t`; EADDR is written where an address applies; exceptions end both loops. -/
def State.stException (s : State) (n : Fin 2) (code : Nat) (epc : Word) (addr : Option Nat) (posted ecc : Bool) (t : Nat) : State :=
  if s.st[n].estat.getLsbD 2 then (s.reachNow t).doubleFault n
  else
    let s := match addr with
      | some a => s.stM n fun x => { x with eaddr := BitVec.ofNat 32 a }
      | none => s
    let s := s.cpuM (stCore n) fun c => { c with loops := Vector.replicate 2 none, wait := none }
    s.stEnter n 0 epc (code + 32 * posted.toNat + 64 * ecc.toNat) none t

/-- R158: an exception of a core at `t`: a reckoner's aborts the task and records `pc`; a steward's is taken with
EPC = `pc`. -/
def State.coreExc (s : State) (c : Fin 6) (code : Nat) (pc : Word) (addr : Option Nat) (ecc : Bool) (t : Nat) : State :=
  match coreKind c with
  | .rk n => (s.reachNow t).rkAbort n code pc.toNat t
  | .st n => s.stException n code pc addr false ecc t

/-! ### Fetch (R145, R149, R344) -/

/-- R344: the start of the line that holds an address. -/
def lineOf (a : Nat) : Nat := a / 32 * 32

/-- The set of a cache that an address falls into. -/
def setOf (a : Nat) : Nat := a / 32 % 256

/-- The line of a cache that holds an address. -/
def Cache.find (k : Cache) (a : Nat) : Option CLine := k.lines.find? fun l => l.addr == lineOf a

/-- The lines of an address's set. -/
def Cache.inSet (k : Cache) (a : Nat) : List CLine := k.lines.filter fun l => setOf l.addr == setOf a

/-- R344: the way that a new line takes: the lowest free one, else the one the round-robin pointer names. -/
def Cache.wayFor (k : Cache) (a : Nat) : Nat :=
  let ls := k.inSet a
  match (List.range 4).find? fun w => ls.all fun l => l.way != w with
  | some w => w
  | none => mapGet (fun _ => 0) k.ptr (setOf a)

/-- R344: the line that a new line replaces. -/
def Cache.victim (k : Cache) (a : Nat) : Option CLine := (k.inSet a).find? fun l => l.way == k.wayFor a

/-- R344: a line is filled; the pointer moves on when a line is replaced. -/
def Cache.fill (k : Cache) (a data : Nat) (dirty : Bool) : Cache :=
  let w := k.wayFor a
  let full := (k.victim a).isSome
  { lines := ⟨lineOf a, w, dirty, data⟩ :: k.lines.filter (fun l => !(setOf l.addr == setOf a && l.way == w))
    ptr := if full then mapSet (fun _ => 0) k.ptr (setOf a) ((w + 1) % 4) else k.ptr }

/-- A line is invalidated. -/
def Cache.drop (k : Cache) (a : Nat) : Cache := { k with lines := k.lines.filter fun l => l.addr != lineOf a }

/-- R344: the regions that a cache may hold. -/
def cacheableRegion (a : Nat) : Bool :=
  match region a with
  | .rom | .mram | .mramRo | .sram => true
  | _ => false

/-- R344, R345: a fetch brings its line into an enabled instruction cache. -/
def State.icacheFetch (s : State) (n : Fin 2) (a : Nat) : State :=
  if s.st[n].ccfg.getLsbD 0 && (s.st[n].icache.find a).isNone then
    s.stM n fun x => { x with icache := x.icache.fill a (s.memRd (lineOf a) 32) false }
  else s

/-- R21: a core's row of the cap table. -/
def coreRow (c : Fin 6) : Nat := if c.val < 4 then 2 + c.val else c.val - 4

/-- R21, R344: a steward's fetch at its pc needs no transaction, or finds a tag for it. -/
def State.fetchTag (s : State) (n : Fin 2) (c : Fin 6) : Bool :=
  (s.st[n].ccfg.getLsbD 0 && (s.st[n].icache.find (s.pc c)).isSome) || s.tagFree (coreRow c)

/-- R21, R67, R133, R164, R353, R363: the core can issue an instruction. -/
def State.canIssue (s : State) (c : Fin 6) : Bool :=
  let k := s.cpu[c]
  k.wait.isNone && (!k.halted || k.step) && !s.pmu.clocksOff &&
    match coreKind c with
    | .rk n => s.rk[n].task.isSome && s.rk[n].tdone.isNone && s.sysPllClk
    | .st n => s.on (Fd.SYSCFG_ST_STATUS_RUN n) && !s.on (Fd.SYSCFG_ST_STATUS_DFAULT n) && !s.st[n].wfi && s.fetchTag n c

/-- R149, R344, R357: why the fetch of an instruction of `len` bytes at the pc fails: the code, the pc it is charged to, the
address fetched, and whether it is an uncorrectable error. -/
def State.fetchFault (s : State) (c : Fin 6) (len : Nat) : Option (Nat × Word × Nat × Bool) :=
  let k := s.cpu[c]
  let pc := k.pc.toNat
  match coreKind c with
  | .rk n =>
    let b := tcmBase n
    if pc % 4 ≠ 0 ∨ pc < b ∨ b + 0x10000 ≤ pc then some (4, k.prev, pc, false)
    else if b + 0x10000 < pc + len then some (4, k.pc, pc + len - 4, false)
    else none
  | .st n =>
    let bad (a : Nat) : Bool := !cacheableRegion a
    let ecc (a : Nat) : Bool := region a == .sram &&
      (if s.st[n].ccfg.getLsbD 0 then (s.st[n].icache.find a).isNone && (List.range 4).any fun i => s.eccBad (lineOf a + 8 * i)
       else s.eccBad a)
    if pc % 4 ≠ 0 ∨ bad pc then some (3, k.pc, pc, false)
    else if bad (pc + len - 4) then some (3, k.pc, pc + len - 4, false)
    else if ecc pc then some (3, k.pc, pc, true)
    else if ecc (pc + len - 4) then some (3, k.pc, pc + len - 4, true)
    else none

/-! ### Issue -/

/-- What an instruction does in the core: it completes after some cycles; it branches; LOOP skips its body; it raises an
exception; it waits; it leaves the core as it has set it; or it cannot issue yet. -/
inductive Eff where
  | done (s : State) (cycles : Nat)
  | jump (s : State) (target : Word) (cycles : Nat)
  | skip (s : State) (target : Word) (cycles : Nat)
  | exc (code : Nat) (addr : Option Nat) (ecc : Bool)
  | trap (code : BitVec 4)
  | wait (s : State) (w : CoreWait)
  | left (s : State)
  | stay

/-- R155: the shadow of DI covers one instruction, the one that issues. -/
def State.shadowEnd (s : State) (c : Fin 6) : State :=
  match coreKind c with
  | .rk _ => s
  | .st n => s.stM n fun x => { x with shadow := false }

/-- The effect of an instruction of `len` bytes that issues at `t`. -/
def State.settleEff (s : State) (c : Fin 6) (len t : Nat) (e : Eff) : State :=
  let cyc := s.cycle c
  let pc := s.cpu[c].pc
  match e with
  | .done s k => s.cpuM c fun x => x.retire len (t + k * cyc)
  | .jump s a k => s.cpuM c fun x => x.branch (pc.toNat + len - 4) a (t + k * cyc)
  | .skip s a k => s.cpuM c fun x => x.skipTo len a (t + k * cyc)
  | .exc code a ecc => s.coreExc c code pc a ecc t
  | .trap code =>
    let s := match coreKind c with
      | .rk _ => s
      | .st n => s.stM n fun x => { x with trapCode := code }
    s.coreExc c 8 (pc + BitVec.ofNat 32 len) none false (t + 3 * cyc)
  | .wait s w => s.cpuM c fun x => { x with wait := some w, next := t, step := false }
  | .left s => s
  | .stay => s.cpuM c fun x => { x with step := x.halted }

/-- R24, R357: a remote store that failed raises BUS at the next instruction boundary, with POSTED = 1. -/
def State.remoteStoreError (s : State) (n : Fin 2) : State :=
  let c := stCore n
  match s.st[n].storeErr with
  | [] => s
  | (a, posted) :: rest =>
    if s.cpu[c].wait.isSome || s.cpu[c].halted || !s.on (Fd.SYSCFG_ST_STATUS_RUN n) || s.on (Fd.SYSCFG_ST_STATUS_DFAULT n) then s
    else
      let s := (s.stM n fun x => { x with storeErr := rest }).cpuM c Cpu.loopEnd
      let s := if s.st[n].wfi then s.cpuM c fun x => x.retire 4 x.next else s
      s.stException n 3 s.cpu[c].pc (some a) posted false (s.issueAt c)

/-- R167, R184: the deadline of the task that a core runs, if it has come by `t`; a debug halt with DBGDL = 0 holds it. -/
def State.lateAt (s : State) (c : Fin 6) (t : Nat) : Option (Fin 4 × Nat) :=
  match coreKind c with
  | .rk n =>
    if s.rkHalted n && !s.on (Fd.SYSCFG_RK_CTRL_DBGDL n) then none
    else ((s.rk[n].task.bind (·.due)).filter (· ≤ t)).map fun d => (n, d)
  | .st _ => none

/-- R168, R357: the error of a buffered store that the instruction boundary at `t` reports, in place of the next issue. -/
def State.storeErrAt (s : State) (c : Fin 6) (t : Nat) : Option State :=
  match coreKind c with
  | .rk n => if s.rk[n].errors.any fun e => e.2 ≤ t then some (s.rkStoreError n) else none
  | .st n => if s.st[n].storeErr.isEmpty || s.cpu[c].halted then none else some (s.remoteStoreError n)

/-- R133, R164, R167, R168: an instruction of `len` bytes issues at a core. A reckoner's task that reaches its deadline first is
aborted, and a store's error is reported first; an illegal word, or one that `ok` refuses in the state at issue, raises
ILLEGAL whatever its predicate; a false predicate leaves all but the pc. -/
def State.instr (s : State) (c : Fin 6) (len : Nat) (pred : BitVec 4) (legal : Bool) (falseCycles : Nat)
    (body : State → Nat → Eff) (ok : State → Bool := fun _ => true) : State :=
  if !s.canIssue c then s
  else
    let t := s.issueAt c
    match s.lateAt c t, s.storeErrAt c t with
    | some (n, d), _ => (s.reachNow d).rkAbort n 16 (s.rkNext n).2 d
    | none, some s => s
    | none, none =>
      let k := coreKind c
      let s := s.cpuM c fun x => { x.loopEnd with step := false }
      let s := s.reachNow t
      match s.fetchFault c len with
      | some (code, pc, a, ecc) => s.coreExc c code pc (some a) ecc t
      | none =>
        let s := match k with
          | .rk _ => s
          | .st n => (s.icacheFetch n (s.pc c)).icacheFetch n (s.pc c + len - 4)
        if !legal || !ok s then s.coreExc c 1 s.cpu[c].pc none false t
        else
          let s := s.shadowEnd c
          if !predTrue pred s.cpu[c].p then s.settleEff c len t (.done s falseCycles)
          else s.settleEff c len t (body s t)

/-- R134: the bytes of an instruction, and the cycle its extension word adds. -/
def extBytes (ext : Option Word) : Nat := if ext.isSome then 8 else 4

/-- R134: the cycle of an extension word. -/
def extCycle (ext : Option Word) : Nat := if ext.isSome then 1 else 0

/-- An R instruction that takes `k` cycles. -/
def State.issueR (s : State) (c : Fin 6) (f : RForm) (legal : Bool) (k : Nat) (body : State → Nat → Eff) : State :=
  s.instr c 4 f.pred legal k body

/-- An R instruction that changes registers of its core alone. -/
def State.regOp (s : State) (c : Fin 6) (f : RForm) (legal : Bool) (k : Nat) (g : Cpu → Cpu) : State :=
  s.issueR c f legal k fun s _ => .done (s.cpuM c g) k

/-- An I instruction that changes registers of its core alone. -/
def State.immOp (s : State) (c : Fin 6) (f : IForm) (legal : Bool) (g : Cpu → Cpu) : State :=
  let k := 1 + extCycle f.ext
  s.instr c (extBytes f.ext) f.pred legal k fun s _ => .done (s.cpuM c g) k

/-! ### Debug halts (R159, R184, R363) -/

/-- R363, R364: a core enters debug halt. -/
def State.coreHaltNow (s : State) (c : Fin 6) : State :=
  match coreKind c with
  | .rk n => s.rkHaltNow n
  | .st n =>
    let s := s.cpuM c fun x => { x with halted := true, haltReq := false, step := false }
    ((s.put (Fd.SYSCFG_ST_STATUS_HALT n) 1).wdgPause 0).wdgPause 1

/-- R159, R167, R184: a halt takes effect at the boundary at which the next instruction would issue, after the abort of a deadline
that comes before it. -/
def State.haltAtNext (s : State) (c : Fin 6) : State :=
  match s.lateAt c s.cpu[c].next with
  | some (n, d) => ((s.reachNow d).rkAbort n 16 (s.rkNext n).2 d).coreHaltNow c
  | none => (s.reachNow s.cpu[c].next).coreHaltNow c

/-- R159, R363: a halt is asked for: it takes effect at the next instruction boundary, the end of the instruction in
progress; behind one that waits, when that completes. -/
def State.coreHalt (s : State) (c : Fin 6) : State :=
  if s.cpu[c].halted then s
  else if s.cpu[c].wait.isSome then s.cpuM c fun x => { x with haltReq := true }
  else s.haltAtNext c

/-- R159: an instruction boundary, with a debug halt waiting. -/
def State.haltBoundary (s : State) (c : Fin 6) : State :=
  if s.cpu[c].haltReq && s.cpu[c].wait.isNone then s.haltAtNext c else s

/-- R363: a core leaves debug halt. -/
def State.coreResume (s : State) (c : Fin 6) : State :=
  if s.cpu[c].haltReq then s.cpuM c fun x => { x with haltReq := false }
  else if s.cpu[c].halted then
    let s := s.cpuM c fun x => { x with halted := false, step := false }
    match coreKind c with
    | .rk n => s.rkResume n
    | .st n => ((s.put (Fd.SYSCFG_ST_STATUS_HALT n) 0).wdgPause 0).wdgPause 1
  else s

end Sys2Proof.Machine
end

