-- ==== Sys2Proof/Machine/Accum.lean ====
section
/-! DEFINITION. The predicate and accumulator instructions and EXTR (R140, R143, R147, R148). -/
namespace Sys2Proof.Machine

/-- R143: pd := pa AND pb. -/
def execPand (c : Fin 6) (f : RForm) (s : State) : Result :=
  .next (s.regOp c f (f.legal .p .p .p resZero) 1 fun x => x.sp f.rd (x.gp f.ra && x.gp f.rb))

/-- R143: pd := pa OR pb. -/
def execPor (c : Fin 6) (f : RForm) (s : State) : Result :=
  .next (s.regOp c f (f.legal .p .p .p resZero) 1 fun x => x.sp f.rd (x.gp f.ra || x.gp f.rb))

/-- R143: pd := pa XOR pb. -/
def execPxor (c : Fin 6) (f : RForm) (s : State) : Result :=
  .next (s.regOp c f (f.legal .p .p .p resZero) 1 fun x => x.sp f.rd (x.gp f.ra != x.gp f.rb))

/-- R143: pd := pa AND NOT pb. -/
def execPandn (c : Fin 6) (f : RForm) (s : State) : Result :=
  .next (s.regOp c f (f.legal .p .p .p resZero) 1 fun x => x.sp f.rd (x.gp f.ra && !x.gp f.rb))

/-- R143: pd := NOT pa. -/
def execPnot (c : Fin 6) (f : RForm) (s : State) : Result :=
  .next (s.regOp c f (f.legal .p .p .zero resZero) 1 fun x => x.sp f.rd !x.gp f.ra)

/-- R143: pd := RB[0]. -/
def execPset (c : Fin 6) (f : RForm) (s : State) : Result :=
  .next (s.regOp c f (f.legal .p .zero .bit resZero) 1 fun x => x.sp f.rd (f.rb.getLsbD 0))

/-- R143: pd := (d[RA] ≠ 0). -/
def execMovdp (c : Fin 6) (f : RForm) (s : State) : Result :=
  .next (s.regOp c f (f.legal .p .d .zero resZero) 1 fun x => x.sp f.rd (x.gd f.ra != 0))

/-- R143: d[RD] := pa as 0 or 1. -/
def execMovpd (c : Fin 6) (f : RForm) (s : State) : Result :=
  .next (s.regOp c f (f.legal .d .p .zero resZero) 1 fun x => x.sd f.rd (if x.gp f.ra then 1 else 0))

/-- R147: wd := 0. -/
def execClrw (c : Fin 6) (f : RForm) (s : State) : Result :=
  .next (s.regOp c f (f.legal .w .zero .zero resZero) 1 fun x => x.sw f.rd 0)

/-- R147: wd := wa. -/
def execMovw (c : Fin 6) (f : RForm) (s : State) : Result :=
  .next (s.regOp c f (f.legal .w .w .zero resZero) 1 fun x => x.sw f.rd (x.gw f.ra))

/-- R147: wd := sat72(wd + wa). -/
def execAddw (c : Fin 6) (f : RForm) (s : State) : Result :=
  .next (s.regOp c f (f.legal .w .w .zero resZero) 1 fun x => x.swc f.rd (sat72Of ((x.gw f.rd).toInt + (x.gw f.ra).toInt)))

/-- R147: wd := sat72(wd − wa). -/
def execSubw (c : Fin 6) (f : RForm) (s : State) : Result :=
  .next (s.regOp c f (f.legal .w .w .zero resZero) 1 fun x => x.swc f.rd (sat72Of ((x.gw f.rd).toInt - (x.gw f.ra).toInt)))

/-- R147: wd := sat72(−wa). -/
def execNegw (c : Fin 6) (f : RForm) (s : State) : Result :=
  .next (s.regOp c f (f.legal .w .w .zero resZero) 1 fun x => x.swc f.rd (sat72Of (-(x.gw f.ra).toInt)))

/-- R147: wd := d[RB] × 2^31. -/
def execMovqw (c : Fin 6) (f : RForm) (s : State) : Result :=
  .next (s.regOp c f (f.legal .w .zero .d resZero) 1 fun x => x.sw f.rd (BitVec.ofInt 72 ((x.gd f.rb).toInt * 2 ^ 31)))

/-- R147: d[RB] := wa[31:0]. -/
def execRdwl (c : Fin 6) (f : RForm) (s : State) : Result :=
  .next (s.regOp c f (f.legal .zero .w .d resZero) 1 fun x => x.sd f.rb ((x.gw f.ra).extractLsb' 0 32))

/-- R147: d[RB] := wa[63:32]. -/
def execRdwh (c : Fin 6) (f : RForm) (s : State) : Result :=
  .next (s.regOp c f (f.legal .zero .w .d resZero) 1 fun x => x.sd f.rb ((x.gw f.ra).extractLsb' 32 32))

/-- R147: d[RB] := wa[71:64], sign-extended. -/
def execRdwg (c : Fin 6) (f : RForm) (s : State) : Result :=
  .next (s.regOp c f (f.legal .zero .w .d resZero) 1 fun x => x.sd f.rb (((x.gw f.ra).extractLsb' 64 8).signExtend 32))

/-- R147: wd[31:0] := d[RB]. -/
def execWrwl (c : Fin 6) (f : RForm) (s : State) : Result :=
  .next (s.regOp c f (f.legal .w .zero .d resZero) 1 fun x => x.sw f.rd (BitVec.ofNat 72 (paste (x.gw f.rd).toNat 0 32 (x.gd f.rb).toNat)))

/-- R147: wd[63:32] := d[RB]. -/
def execWrwh (c : Fin 6) (f : RForm) (s : State) : Result :=
  .next (s.regOp c f (f.legal .w .zero .d resZero) 1 fun x => x.sw f.rd (BitVec.ofNat 72 (paste (x.gw f.rd).toNat 32 32 (x.gd f.rb).toNat)))

/-- R147: wd[71:64] := d[RB][7:0]. -/
def execWrwg (c : Fin 6) (f : RForm) (s : State) : Result :=
  .next (s.regOp c f (f.legal .w .zero .d resZero) 1 fun x => x.sw f.rd (BitVec.ofNat 72 (paste (x.gw f.rd).toNat 64 8 (x.gd f.rb).toNat)))

/-- R147: wd := sat72(wd + d[RA] × d[RB]). -/
def execMacr (c : Fin 6) (f : RForm) (s : State) : Result :=
  .next (s.regOp c f (f.legal .w .d .d resZero) 1 fun x => x.swc f.rd (sat72Of ((x.gw f.rd).toInt + (x.gd f.ra).toInt * (x.gd f.rb).toInt)))

/-- R147: wd := sat72(wd − d[RA] × d[RB]). -/
def execMsur (c : Fin 6) (f : RForm) (s : State) : Result :=
  .next (s.regOp c f (f.legal .w .d .d resZero) 1 fun x => x.swc f.rd (sat72Of ((x.gw f.rd).toInt - (x.gd f.ra).toInt * (x.gd f.rb).toInt)))

/-- R140: dn := sat32(round(wk × 2^s / 2^31)), setting C on saturation. -/
def execExtr (c : Fin 6) (f : IForm) (s : State) : Result :=
  .next (s.immOp c f (f.legal .d .w 6) fun x => x.sdc f.rd (extract (x.gw f.ra) f.shift))

end Sys2Proof.Machine
end

