-- ==== Sys2Proof/Machine/Alu.lean ====
section
/-! DEFINITION. The integer, logic and immediate instructions (R141, R142). -/
namespace Sys2Proof.Machine

/-- R141: dd := da + db, wrapping. -/
def execAdd (c : Fin 6) (f : RForm) (s : State) : Result :=
  .next (s.regOp c f (f.legal .d .d .d resZero) 1 fun x => x.sd f.rd (x.gd f.ra + x.gd f.rb))

/-- R141: dd := da − db, wrapping. -/
def execSub (c : Fin 6) (f : RForm) (s : State) : Result :=
  .next (s.regOp c f (f.legal .d .d .d resZero) 1 fun x => x.sd f.rd (x.gd f.ra - x.gd f.rb))

/-- R141: dd := sat32(da + db), setting C on saturation. -/
def execAdds (c : Fin 6) (f : RForm) (s : State) : Result :=
  .next (s.regOp c f (f.legal .d .d .d resZero) 1 fun x => x.sdc f.rd (addSat (x.gd f.ra) (x.gd f.rb)))

/-- R141: dd := sat32(da − db), setting C on saturation. -/
def execSubs (c : Fin 6) (f : RForm) (s : State) : Result :=
  .next (s.regOp c f (f.legal .d .d .d resZero) 1 fun x => x.sdc f.rd (subSat (x.gd f.ra) (x.gd f.rb)))

/-- R141: dd := da AND db. -/
def execAndd (c : Fin 6) (f : RForm) (s : State) : Result :=
  .next (s.regOp c f (f.legal .d .d .d resZero) 1 fun x => x.sd f.rd (x.gd f.ra &&& x.gd f.rb))

/-- R141: dd := da OR db. -/
def execOrr (c : Fin 6) (f : RForm) (s : State) : Result :=
  .next (s.regOp c f (f.legal .d .d .d resZero) 1 fun x => x.sd f.rd (x.gd f.ra ||| x.gd f.rb))

/-- R141: dd := da XOR db. -/
def execXor (c : Fin 6) (f : RForm) (s : State) : Result :=
  .next (s.regOp c f (f.legal .d .d .d resZero) 1 fun x => x.sd f.rd (x.gd f.ra ^^^ x.gd f.rb))

/-- R141: dd := da AND NOT db. -/
def execAndn (c : Fin 6) (f : RForm) (s : State) : Result :=
  .next (s.regOp c f (f.legal .d .d .d resZero) 1 fun x => x.sd f.rd (x.gd f.ra &&& ~~~x.gd f.rb))

/-- R141: dd := da shifted left by db[5:0]. -/
def execShl (c : Fin 6) (f : RForm) (s : State) : Result :=
  .next (s.regOp c f (f.legal .d .d .d resZero) 1 fun x => x.sd f.rd (shl (x.gd f.ra) ((x.gd f.rb).toNat % 64)))

/-- R141: dd := da shifted right logically. -/
def execShr (c : Fin 6) (f : RForm) (s : State) : Result :=
  .next (s.regOp c f (f.legal .d .d .d resZero) 1 fun x => x.sd f.rd (shr (x.gd f.ra) ((x.gd f.rb).toNat % 64)))

/-- R141: dd := da shifted right arithmetically. -/
def execSra (c : Fin 6) (f : RForm) (s : State) : Result :=
  .next (s.regOp c f (f.legal .d .d .d resZero) 1 fun x => x.sd f.rd (sra (x.gd f.ra) ((x.gd f.rb).toNat % 64)))

/-- R141: dd := sat32(da × 2^amount), setting C on saturation. -/
def execShls (c : Fin 6) (f : RForm) (s : State) : Result :=
  .next (s.regOp c f (f.legal .d .d .d resZero) 1 fun x => x.sdc f.rd (shlSat (x.gd f.ra) ((x.gd f.rb).toNat % 64)))

/-- R141: dd := low 32 bits of da × db. -/
def execMul (c : Fin 6) (f : RForm) (s : State) : Result :=
  .next (s.regOp c f (f.legal .d .d .d resZero) 1 fun x => x.sd f.rd (x.gd f.ra * x.gd f.rb))

/-- R141: dd := high 32 bits of the signed product. -/
def execMulh (c : Fin 6) (f : RForm) (s : State) : Result :=
  .next (s.regOp c f (f.legal .d .d .d resZero) 1 fun x => x.sd f.rd (BitVec.ofInt 32 ((x.gd f.ra).toInt * (x.gd f.rb).toInt / 2 ^ 32)))

/-- R141: dd := high 32 bits of the unsigned product. -/
def execMulhu (c : Fin 6) (f : RForm) (s : State) : Result :=
  .next (s.regOp c f (f.legal .d .d .d resZero) 1 fun x => x.sd f.rd (BitVec.ofNat 32 ((x.gd f.ra).toNat * (x.gd f.rb).toNat / 2 ^ 32)))

/-- R141: dd := sat32(round(da × db / 2^31)), setting C on saturation. -/
def execMulq (c : Fin 6) (f : RForm) (s : State) : Result :=
  .next (s.regOp c f (f.legal .d .d .d resZero) 1 fun x => x.sdc f.rd (mulq (x.gd f.ra) (x.gd f.rb)))

/-- R141: Signed division in 18 cycles, with defined results and C on division by zero or overflow. -/
def execDiv (c : Fin 6) (f : RForm) (s : State) : Result :=
  .next (s.regOp c f (f.legal .d .d .d resZero) 18 fun x => x.sdc f.rd (divSigned (x.gd f.ra) (x.gd f.rb)))

/-- R141: Unsigned division in 18 cycles, with C on division by zero. -/
def execDivu (c : Fin 6) (f : RForm) (s : State) : Result :=
  .next (s.regOp c f (f.legal .d .d .d resZero) 18 fun x => x.sdc f.rd (divUnsigned (x.gd f.ra) (x.gd f.rb)))

/-- R141: dd := signed minimum. -/
def execMin (c : Fin 6) (f : RForm) (s : State) : Result :=
  .next (s.regOp c f (f.legal .d .d .d resZero) 1 fun x => x.sd f.rd (if (x.gd f.ra).toInt ≤ (x.gd f.rb).toInt then x.gd f.ra else x.gd f.rb))

/-- R141: dd := signed maximum. -/
def execMax (c : Fin 6) (f : RForm) (s : State) : Result :=
  .next (s.regOp c f (f.legal .d .d .d resZero) 1 fun x => x.sd f.rd (if (x.gd f.ra).toInt ≤ (x.gd f.rb).toInt then x.gd f.rb else x.gd f.ra))

/-- R141: dd := unsigned minimum. -/
def execMinu (c : Fin 6) (f : RForm) (s : State) : Result :=
  .next (s.regOp c f (f.legal .d .d .d resZero) 1 fun x => x.sd f.rd (if (x.gd f.ra).toNat ≤ (x.gd f.rb).toNat then x.gd f.ra else x.gd f.rb))

/-- R141: dd := unsigned maximum. -/
def execMaxu (c : Fin 6) (f : RForm) (s : State) : Result :=
  .next (s.regOp c f (f.legal .d .d .d resZero) 1 fun x => x.sd f.rd (if (x.gd f.ra).toNat ≤ (x.gd f.rb).toNat then x.gd f.rb else x.gd f.ra))

/-- R141: dd := sat32(|da|), setting C on saturation. -/
def execAbss (c : Fin 6) (f : RForm) (s : State) : Result :=
  .next (s.regOp c f (f.legal .d .d .zero resZero) 1 fun x => x.sdc f.rd (sat32Of ((x.gd f.ra).toInt.natAbs : Int)))

/-- R141: dd := sat32(−da), setting C on saturation. -/
def execNegs (c : Fin 6) (f : RForm) (s : State) : Result :=
  .next (s.regOp c f (f.legal .d .d .zero resZero) 1 fun x => x.sdc f.rd (sat32Of (-(x.gd f.ra).toInt)))

/-- R141: dd := number of leading zeros of da. -/
def execClz (c : Fin 6) (f : RForm) (s : State) : Result :=
  .next (s.regOp c f (f.legal .d .d .zero resZero) 1 fun x => x.sd f.rd (BitVec.ofNat 32 (leadingZeros (x.gd f.ra))))

/-- R141: dd := da. -/
def execMov (c : Fin 6) (f : RForm) (s : State) : Result :=
  .next (s.regOp c f (f.legal .d .d .zero resZero) 1 fun x => x.sd f.rd (x.gd f.ra))

/-- R141: dd := da if the predicate in PS is 1, else db. -/
def execSel (c : Fin 6) (f : RForm) (s : State) : Result :=
  .next (s.regOp c f (f.legal .d .d .d resSel) 1 fun x => x.sd f.rd (if x.p.getLsbD (f.res.toNat % 4) then x.gd f.ra else x.gd f.rb))

/-- R141: a[RD] := da. -/
def execMda (c : Fin 6) (f : RForm) (s : State) : Result :=
  .next (s.regOp c f (f.legal .a .d .zero resZero) 1 fun x => x.sa f.rd (x.gd f.ra))

/-- R141: dd := a[RA]. -/
def execMad (c : Fin 6) (f : RForm) (s : State) : Result :=
  .next (s.regOp c f (f.legal .d .a .zero resZero) 1 fun x => x.sd f.rd (x.ga f.ra))

/-- R141: a[RD] := a[RA] + db, wrapping. -/
def execAddar (c : Fin 6) (f : RForm) (s : State) : Result :=
  .next (s.regOp c f (f.legal .a .a .d resZero) 1 fun x => x.sa f.rd (x.ga f.ra + x.gd f.rb))

/-- R141: p := (da = db). -/
def execCmpeq (c : Fin 6) (f : RForm) (s : State) : Result :=
  .next (s.regOp c f (f.legal .p .d .d resZero) 1 fun x => x.sp f.rd (x.gd f.ra == x.gd f.rb))

/-- R141: p := (da ≠ db). -/
def execCmpne (c : Fin 6) (f : RForm) (s : State) : Result :=
  .next (s.regOp c f (f.legal .p .d .d resZero) 1 fun x => x.sp f.rd (x.gd f.ra != x.gd f.rb))

/-- R141: p := (da < db), signed. -/
def execCmplt (c : Fin 6) (f : RForm) (s : State) : Result :=
  .next (s.regOp c f (f.legal .p .d .d resZero) 1 fun x => x.sp f.rd (decide ((x.gd f.ra).toInt < (x.gd f.rb).toInt)))

/-- R141: p := (da ≤ db), signed. -/
def execCmple (c : Fin 6) (f : RForm) (s : State) : Result :=
  .next (s.regOp c f (f.legal .p .d .d resZero) 1 fun x => x.sp f.rd (decide ((x.gd f.ra).toInt ≤ (x.gd f.rb).toInt)))

/-- R141: p := (da < db), unsigned. -/
def execCmpltu (c : Fin 6) (f : RForm) (s : State) : Result :=
  .next (s.regOp c f (f.legal .p .d .d resZero) 1 fun x => x.sp f.rd (decide ((x.gd f.ra).toNat < (x.gd f.rb).toNat)))

/-- R141: p := (da ≤ db), unsigned. -/
def execCmpleu (c : Fin 6) (f : RForm) (s : State) : Result :=
  .next (s.regOp c f (f.legal .p .d .d resZero) 1 fun x => x.sp f.rd (decide ((x.gd f.ra).toNat ≤ (x.gd f.rb).toNat)))

/-- R142: dd := da + imm, wrapping. -/
def execAddi (c : Fin 6) (f : IForm) (s : State) : Result :=
  .next (s.immOp c f (f.legal .d .d 32) fun x => x.sd f.rd (x.gd f.ra + f.value))

/-- R142: dd := sat32(da + imm), setting C on saturation. -/
def execAddsi (c : Fin 6) (f : IForm) (s : State) : Result :=
  .next (s.immOp c f (f.legal .d .d 32) fun x => x.sdc f.rd (addSat (x.gd f.ra) f.value))

/-- R142: dd := da AND imm. -/
def execAndi (c : Fin 6) (f : IForm) (s : State) : Result :=
  .next (s.immOp c f (f.legal .d .d 32) fun x => x.sd f.rd (x.gd f.ra &&& f.value))

/-- R142: dd := da OR imm. -/
def execOri (c : Fin 6) (f : IForm) (s : State) : Result :=
  .next (s.immOp c f (f.legal .d .d 32) fun x => x.sd f.rd (x.gd f.ra ||| f.value))

/-- R142: dd := da XOR imm. -/
def execXori (c : Fin 6) (f : IForm) (s : State) : Result :=
  .next (s.immOp c f (f.legal .d .d 32) fun x => x.sd f.rd (x.gd f.ra ^^^ f.value))

/-- R142: Shift left by imm[5:0]. -/
def execShli (c : Fin 6) (f : IForm) (s : State) : Result :=
  .next (s.immOp c f (f.legal .d .d 6) fun x => x.sd f.rd (shl (x.gd f.ra) f.small))

/-- R142: Logical shift right by imm[5:0]. -/
def execShri (c : Fin 6) (f : IForm) (s : State) : Result :=
  .next (s.immOp c f (f.legal .d .d 6) fun x => x.sd f.rd (shr (x.gd f.ra) f.small))

/-- R142: Arithmetic shift right by imm[5:0]. -/
def execSrai (c : Fin 6) (f : IForm) (s : State) : Result :=
  .next (s.immOp c f (f.legal .d .d 6) fun x => x.sd f.rd (sra (x.gd f.ra) f.small))

/-- R142: dd := imm. -/
def execMovi (c : Fin 6) (f : IForm) (s : State) : Result :=
  .next (s.immOp c f (f.legal .d .zero 32) fun x => x.sd f.rd f.value)

/-- R142: dd := low 32 bits of da × imm. -/
def execMuli (c : Fin 6) (f : IForm) (s : State) : Result :=
  .next (s.immOp c f (f.legal .d .d 32) fun x => x.sd f.rd (x.gd f.ra * f.value))

/-- R142: p[RD] := (da = imm). -/
def execCmpeqi (c : Fin 6) (f : IForm) (s : State) : Result :=
  .next (s.immOp c f (f.legal .p .d 32) fun x => x.sp f.rd (x.gd f.ra == f.value))

/-- R142: p[RD] := (da < imm), signed. -/
def execCmplti (c : Fin 6) (f : IForm) (s : State) : Result :=
  .next (s.immOp c f (f.legal .p .d 32) fun x => x.sp f.rd (decide ((x.gd f.ra).toInt < f.value.toInt)))

/-- R142: p[RD] := (da < imm), unsigned. -/
def execCmpltui (c : Fin 6) (f : IForm) (s : State) : Result :=
  .next (s.immOp c f (f.legal .p .d 32) fun x => x.sp f.rd (decide ((x.gd f.ra).toNat < f.value.toNat)))

/-- R142: a[RD] := imm. -/
def execMova (c : Fin 6) (f : IForm) (s : State) : Result :=
  .next (s.immOp c f (f.legal .a .zero 32) fun x => x.sa f.rd f.value)

/-- R142: a[RD] := a[RA] + imm, wrapping. -/
def execAdda (c : Fin 6) (f : IForm) (s : State) : Result :=
  .next (s.immOp c f (f.legal .a .a 32) fun x => x.sa f.rd (x.ga f.ra + f.value))

end Sys2Proof.Machine
end

