-- ==== Sys2Proof/Machine/Cells.lean ====
section
/-! DEFINITION. LINK: what an arriving cell does: the checks of its class, acknowledgement and replay, and the effect of
each type (R394–R409). -/
namespace Sys2Proof.Machine

/-! ### Fields of a cell (R394–R396) -/

/-- R394: TYPE. -/
def cellType (c : BitVec 256) : Nat := cut c.toNat 252 4
/-- R394: SEQ. -/
def cellSeq (c : BitVec 256) : Nat := cut c.toNat 244 8
/-- R395: a field of the control word. -/
def cellCtl (c : BitVec 256) (lo w : Nat) : Nat := cut c.toNat (208 + lo) w
/-- R395: LEN. -/
def cellLen (c : BitVec 256) : Nat := cellCtl c 8 8
/-- R395: SUB. -/
def cellSub (c : BitVec 256) : Nat := cellCtl c 0 8
/-- R395: a field of the body; payload bits below LEN read as 0. -/
def cellBody (c : BitVec 256) (lo w : Nat) : Nat :=
  let payload := cut c.toNat 16 224
  cut (payload / 2 ^ (224 - cellLen c) * 2 ^ (224 - cellLen c)) lo w

/-- R396: whether cells of a type carry a SEQ. -/
def sequenced (typ : Nat) : Bool := 1 ≤ typ && typ ≤ 6

/-- R398: whether a SEQ lies within the 48 values before the expected one. -/
def LinkPort.isDup (p : LinkPort) (seq : Nat) : Bool :=
  let back := (p.expect + 256 - seq) % 256
  1 ≤ back && back ≤ 48

/-- R397: a CRC-class error. -/
def LinkPort.classError (p : LinkPort) (c : BitVec 256) : Bool :=
  crc16 (c.toNat / 2 ^ 16) 240 != c.toNat % 2 ^ 16 ||
    cut c.toNat 240 4 != 0 || cellCtl c 16 2 != 0 || 8 < cellType c ||
    224 < cellLen c || cellLen c < 32 || cellLen c % 8 != 0 ||
    (sequenced (cellType c) && cellSeq c != p.expect && !p.isDup (cellSeq c))

/-! ### Acknowledgement and replay (R398, R399) -/

/-- R397, R398: the cell is discarded whole, CRCERR is set and a NAK is due unless its hold-off runs; the fourth error in
succession takes the link down (R393). -/
def State.cellError (s : State) (l : Fin 4) : State :=
  let s := (s.raise (Ev.LINK_L_FLAGS_CRCERR l)).inc32 (Reg.LINK_L_CRCCNT l)
  let s := s.portM l fun p =>
    let q := { p with bad := p.bad + 1 }
    if q.nakAt.isSome then q else { q with nakDue := true, nakAt := some s.now }
  if 4 ≤ (s.port l).bad then s.linkDown l else s

/-- R398: a duplicate is discarded without effect, counted, and its acknowledgement repeated. -/
def State.cellDup (s : State) (l : Fin 4) : State :=
  ((s.raise (Ev.LINK_L_FLAGS_DUP l)).inc32 (Reg.LINK_L_DUPCNT l)).portM l fun p => { p with ackDue := true, bad := 0 }

/-- R399: an acknowledgement frees the entries it covers; progress ends the count of replays. -/
def LinkPort.acked (p : LinkPort) (a : Nat) : LinkPort :=
  match p.replay.findIdx? fun e => e.1 == a with
  | some i => { p with replay := p.replay.drop (i + 1), rounds := 0 }
  | none => p

/-- R395, R398, R401: the acknowledgement and the credits that a cell carries. -/
def State.cellAcks (s : State) (l : Fin 4) (c : BitVec 256) : State :=
  let s := s.portM l fun p => if cellCtl c 23 1 = 1 then p.acked (cellCtl c 24 8) else p
  s.put (Fd.LINK_L_STATUS_CRED l) (min 16 (s.get (Fd.LINK_L_STATUS_CRED l) + cellCtl c 18 4))

/-- R395, R398, R399: the NAK that a cell carries. -/
def State.cellNak (s : State) (l : Fin 4) (c : BitVec 256) : State :=
  if cellCtl c 22 1 = 1 then s.linkReplay l else s.linkShow l

/-- R395, R398–R401: the acknowledgement, the NAK and the credits that a cell carries. -/
def State.cellControl (s : State) (l : Fin 4) (c : BitVec 256) : State := (s.cellAcks l c).cellNak l c

/-- R397, R398, R400: a cell arrives: its class is checked, a duplicate is discarded, and an accepted cell acts through `f` if it is
the one (`here`) that the command brings. -/
def State.cellIn (s : State) (l : Fin 4) (c : BitVec 256) (here : Bool) (f : State → State) : State :=
  if (s.port l).classError c then (s.cellError l).linkPump l
  else if !here then s
  else if sequenced (cellType c) then
    if cellSeq c = (s.port l).expect then
      let s := s.portM l fun p =>
        { p with expect := (p.expect + 1) % 256, accepted := true, bad := 0, nakAt := none, ackDue := true }
      (f (s.cellControl l c)).linkPump l
    else (s.cellDup l).linkPump l
  else
    let s := s.portM l fun p => { p with bad := 0 }
    if cellType c = 7 then ((f (s.cellAcks l c)).cellNak l c).linkPump l else (f (s.cellControl l c)).linkPump l

/-- R391–R393, R411: what the lanes bring in a cell slot: a far-end loop sends it back bit for bit; a stuffing violation takes
the link down; else the cell that it spells goes to `f`, while cells run, or in training where `early` lets this one through or it
is a CRC-class error (R397: the far end has started its cells; log entry 57). -/
def State.cellArrive (s : State) (l : Fin 4) (x : LaneBits) (early : BitVec 256 → Bool) (f : BitVec 256 → State → State) : State :=
  let s := s.linkFresh l
  if s.linkState l ≠ 1 ∧ s.linkState l ≠ 2 then s
  else if (s.port l).loop = 3 then s.portM l fun p => { p with line := x }
  else
    match (s.port l).lineCell x with
    | some c =>
      if s.linkCells l ∨ early c ∨ (s.port l).classError c then f c (s.portM l fun p => p.lineTake x) else s
    | none =>
      if !s.linkCells l then s
      else if (s.port l).stuffBad x then s.linkDown l else s.portM l fun p => p.lineTake x

/-- A cell of a kind that only runs with the cells. -/
def never (_ : BitVec 256) : Bool := false

/-! ### Requests and responses (R401, R402) -/

/-- R402: a response waits to be sent, and a request credit is returned. -/
def State.respond (s : State) (l : Fin 4) (bad : Bool) (c : TxCell) : State :=
  let s := s.portM l fun p => { p with respOut := p.respOut ++ [c], credRet := p.credRet + 1 }
  s.raiseIf bad (Ev.LINK_L_FLAGS_REMERR l)

/-- R402: a read for the far device; 16 bytes are two doublewords. -/
def State.farRead (s : State) (a n : Nat) : (Bool × Nat) × State :=
  if n = 16 then
    if a % 16 ≠ 0 then ((false, 0), s)
    else
      match s.busRead a 8 with
      | ((true, lo), s) =>
        match s.busRead (a + 8) 8 with
        | ((true, hi), s) => ((true, lo + 2 ^ 64 * hi), s)
        | r => r
      | r => r
  else s.busRead a n

/-- R402: a write for the far device. -/
def State.farWrite (s : State) (a n v : Nat) : Bool × State :=
  if n = 16 then
    if a % 16 ≠ 0 then (false, s)
    else
      match s.busWrite a 8 (v % 2 ^ 64) with
      | (true, s) => s.busWrite (a + 8) 8 (v / 2 ^ 64)
      | r => r
  else s.busWrite a n (v % 2 ^ (8 * n))

/-- R396: the RDRESP of a read: whether it was accepted, and what it read. -/
def readResp (tag : Nat) (r : Bool × Nat) : TxCell :=
  { typ := 2, sub := tag % 64, len := 224, body := (!r.1).toNat * 2 ^ 184 + r.2 }

/-- R396: the WRCMP of one write. -/
def writeResp (a : Nat) (ok : Bool) : TxCell :=
  { typ := 4, sub := 1, len := 96, body := if ok then 0 else 2 ^ 184 + a * 2 ^ 128 }

/-- R402: an RDREQ is issued as a read and answered by RDRESP. -/
def State.rdreq (s : State) (l : Fin 4) (c : BitVec 256) : State :=
  let (r, s) := s.farRead (cellBody c 160 32) (cellBody c 152 8)
  s.respond l (!r.1) (readResp (cellSub c) r)

/-- R402: a WR is issued as a write and answered by WRCMP of one write. -/
def State.wrreq (s : State) (l : Fin 4) (c : BitVec 256) : State :=
  let a := cellBody c 160 32
  let (ok, s) := s.farWrite a (cellBody c 152 8) (cellBody c 0 128)
  s.respond l (!ok) (writeResp a ok)

/-- R21, R402: the far device's requests go to the crossbar in arrival order, while its cap leaves a tag. -/
def State.requestDrain (l : Fin 4) : Nat → State → State
  | 0, s => s
  | k + 1, s =>
    match (s.port l).reqIn with
    | [] => s
    | c :: t =>
      if s.tagFree (7 + l.val) then
        let s := s.portM l fun p => { p with reqIn := t }
        State.requestDrain l k (if cellType c = 1 then s.rdreq l c else s.wrreq l c)
      else s

/-- R402: a request of the far device arrives. -/
def State.requestIn (s : State) (l : Fin 4) (c : BitVec 256) : State :=
  let s := s.portM l fun p => { p with reqIn := p.reqIn ++ [c] }
  State.requestDrain l (s.port l).reqIn.length s

/-- R396: the remote read that carries a tag is complete. -/
def completeRead (tag : Nat) (ok : Bool) (v : Nat) (o : RemoteOp) : RemoteOp :=
  if o.stage = .sent tag ∧ o.data = none then { o with stage := .done ok (if ok then v % 2 ^ (8 * o.size) else 0) } else o

/-- R402: the oldest `n` writes that were sent are accepted, but the one at index `bad`. -/
def completeWrites (bad : Option Nat) : Nat → Nat → List RemoteOp → List RemoteOp
  | _, _, [] => []
  | n, i, o :: t =>
    match n, o.stage, o.data with
    | n + 1, .sent _, some _ => { o with stage := .done (decide (bad ≠ some i)) 0 } :: completeWrites bad n (i + 1) t
    | n, _, _ => o :: completeWrites bad n i t

/-- R396: RDRESP. -/
def State.rdresp (s : State) (l : Fin 4) (c : BitVec 256) : State :=
  s.portM l fun p => { p with ops := p.ops.map (completeRead (cellSub c) (cellBody c 184 8 == 0) (cellBody c 0 128)) }

/-- R402: WRCMP. R378: a write of a DMA channel has landed: the count is its completion stamp, if it is its last. -/
def State.wrcmp (s : State) (l : Fin 4) (c : BitVec 256) : State :=
  let bad := if cellBody c 184 8 = 0 then none else some (cellBody c 176 8)
  let old := (s.port l).ops
  let new := completeWrites bad (cellSub c) 0 old
  let hit (k : Fin 32) : Bool := (old.zip new).any fun e => e.1.who == .dma k && e.1.stage != e.2.stage
  let s := s.portM l fun p => { p with ops := new }
  (List.finRange 32).foldl (fun (s : State) (k : Fin 32) => if hit k then s.dmaM k fun d => { d with stamp := s.tbl.count } else s) s

/-! ### Forwarded events (R51, R404) -/

/-- R404: the event fires at the carried time plus the receive delay; one whose time has passed fires at once. -/
def State.eventIn (s : State) (l : Fin 4) (c : BitVec 256) : State :=
  let src := 24 + 8 * l.val + cellSub c % 8
  let t := (s.tbl.count : Int) + sx 32 (enc 32 ((cellBody c 160 32 : Int) - s.tbl.count))
  let at' := enc 64 (t + s.get (Fd.TBL_LFWDDLY_DLY l))
  let late := decide (at' < s.tbl.count)
  (s.tblM fun b => { b with fwdIn := b.fwdIn ++ [⟨src, at', late⟩] }).raiseIf late Ev.TBL_STATUS_LFWDLATE

/-! ### Streams (R409) -/

/-- R409: a main-filter result is written as one doubleword into a reckoner's data memory. -/
def State.resultIn (s : State) (l : Fin 4) (ch : Fin 8) (c : BitVec 256) : State :=
  let rk := s.get (Fd.LINK_SRX_CFG_RK l ch)
  let ofs := s.get (Fd.LINK_SRX_BASE_ADDR l ch) % 2 ^ 16 / 8 * 8
  let w1 := cellBody c 127 1 + 2 * cellBody c 128 31
  s.memWr (0x24010000 + 0x40000 * rk + ofs) 8 (cellBody c 160 32 + 2 ^ 32 * w1)

/-- A list of words written as doublewords at ascending addresses; it ends at the first refusal. -/
def State.busWrites (s : State) (a : Nat) : List Nat → Bool × State
  | [] => (true, s)
  | v :: t =>
    match s.busWrite a 8 v with
    | (true, s) => s.busWrites (a + 8) t
    | r => r

/-- R409: a raw cell is written as a record of 32 bytes into its ring; WPTR advances after SRAM has accepted it. -/
def State.rawIn (s : State) (l : Fin 4) (ch : Fin 8) (c : BitVec 256) (number : Nat) : State :=
  let w := s.get (Fd.LINK_SRX_WPTR_WPTR l ch)
  let len := s.get (Fd.LINK_SRX_LEN_LEN l ch)
  let a := s.get (Fd.LINK_SRX_BASE_ADDR l ch) + w
  let b := cellBody c 0 160
  let w1 := cut (cellSub c) 4 3 + 20 * 2 ^ 8 + number % 2 ^ 16 * 2 ^ 16
  let ws := [cellBody c 160 32, w1] ++ wordsLE 5 b ++ [0]
  if region a = .sram ∧ w + 32 ≤ len then
    match s.busWrites a (pairWords ws) with
    | (true, s) => s.put (Fd.LINK_SRX_WPTR_WPTR l ch) (if w + 64 ≤ len then w + 32 else 0)
    | (false, s) => s
  else s

/-- R21, R409: the stream cells that wait are written, while the link's cap leaves a tag. -/
def State.streamDrain (l : Fin 4) : Nat → State → State
  | 0, s => s
  | k + 1, s =>
    match (s.port l).strIn with
    | [] => s
    | (c, n) :: t =>
      if s.tagFree (7 + l.val) then
        let s := s.portM l fun p => { p with strIn := t }
        let ch : Fin 8 := Fin.ofNat 8 (cellSub c)
        State.streamDrain l k (if (cellSub c).testBit 3 then s.rawIn l ch c n else s.resultIn l ch c)
      else s

/-- R409: a STREAM cell joins the queue of 16; with the queue full its data is dropped, on a disabled channel without a
flag. -/
def State.streamIn (s : State) (l : Fin 4) (c : BitVec 256) : State :=
  let ch : Fin 8 := Fin.ofNat 8 (cellSub c)
  if !s.on (Fd.LINK_SRX_CFG_EN l ch) then s
  else
    let n := s.rdN (Reg.LINK_SRX_CNT l ch)
    let s := s.inc32 (Reg.LINK_SRX_CNT l ch)
    let s := State.streamDrain l (s.port l).strIn.length s
    if 16 ≤ (s.port l).strIn.length then s.raise (Ev.LINK_L_FLAGS_STRMOVF l)
    else
      let s := s.portM l fun p => { p with strIn := p.strIn ++ [(c, n)] }
      State.streamDrain l (s.port l).strIn.length s

/-- R391: a cell slot in which nothing else left carries IDLE. -/
def State.linkSlot (s : State) (l : Fin 4) : State :=
  if s.linkCells l ∧ (s.port l).loop ≠ 3 ∧ (s.port l).sent.isEmpty then
    (s.portM l fun p => p.sendUnseq { typ := 0, sub := 0, len := 32, body := 0 }).linkShow l
  else s

/-- The cell slots of one tick: every link takes what waits in its receiver and sends what waits in its transmitter, or IDLE. -/
def State.linkTick (s : State) : State :=
  (List.finRange 4).foldl (fun s (l : Fin 4) =>
    let s := State.requestDrain l (s.port l).reqIn.length (s.linkFresh l)
    ((State.streamDrain l (s.port l).strIn.length s).linkPump l).linkSlot l) s

/-- R408: byte `i` of a raw cell: bit j is what MDAT8g + j brought in period `i`. -/
def rawByte (bits : Vector (List Bool) 8) (i : Nat) : Nat :=
  (List.finRange 8).foldl (fun b (j : Fin 8) => b + (bits[j].getD i false).toNat * 2 ^ j.val) 0

/-- R408: the reference edge at which a channel's next raw cell begins, of those twenty periods apart from the clock's start;
one that is past by more than twenty periods is skipped. -/
def State.rawEdge (s : State) (g : Fin 7) (next : Nat) : Nat :=
  let o := s.modin.origin[g]
  let n := 20 * s.mclkT g
  o + (max next (s.now + 1 - 2 * n) - o + n - 1) / n * n

/-- R83, R408: twenty MCLK periods of a group are complete on a raw transmit channel that carries it, their bits those that
its lines brought. -/
def State.rawSend (s : State) (l : Fin 4) (c : Fin 8) (g : Fin 7) (lines : Vector (List MdatPeriod) 8) : State :=
  if s.on (Fd.LINK_STX_CFG_EN l c) && s.on (Fd.LINK_STX_CFG_KIND l c) && s.get (Fd.LINK_STX_CFG_SRC l c) == g.val && s.mclkOn g && s.linkState l == 2 then
    let e := s.rawEdge g (s.port l).rawNext[c]
    let s := s.reachNow (e + (20 + s.bitDelay g) * s.mclkT g)
    let bits := lines.map fun x => s.received (8 * g) x
    let cell : TxCell :=
      { typ := 6, sub := c.val + 8 + 16 * g.val, len := 224
        body := enc 32 (s.countAt2 (2 * (e : Int))) * 2 ^ 160 + ((List.range 20).map fun i => rawByte bits i * 2 ^ (8 * i)).sum }
    ((s.linkFresh l).portM l fun p =>
      { p with strOut := p.strOut ++ [cell], rawNext := p.rawNext.set c (e + 20 * s.mclkT g) }).linkPump l
  else s

/-! ### The timebase exchange (R41, R405) -/

/-- R405: REQ at the lower end: t2 is stamped and RESP goes out. -/
def State.tbxReq (s : State) (l : Fin 4) : State :=
  if !s.upstream l then s
  else
    let t := s.stamp16
    let s := s.raiseIf (s.port l).lower.isSome (Ev.LINK_L_FLAGS_XLOST l)
    s.portM l fun p =>
      { p with lower := some (t, t) }.sendUnseq { typ := 7, sub := 1, len := 160, body := t * 2 ^ 128 + t * 2 ^ 64 }

/-- R405: RESP at the upper end: t4 is stamped and FIN goes out with t1, t4 and TBL_ADDFRAC. -/
def State.tbxResp (s : State) (l : Fin 4) : State :=
  match (s.port l).upper with
  | none => s
  | some t1 =>
    let body := t1 * 2 ^ 128 + s.stamp16 * 2 ^ 64 + s.rdN Reg.TBL_ADDFRAC * 2 ^ 32
    s.portM l fun p => { p with upper := none }.sendUnseq { typ := 7, sub := 2, len := 192, body := body }

/-- R405: the offset from the upper end, in 1/16 tbu; `up` says which way a half goes, which the rule leaves open. -/
def exchangeOffset (t1 t2 t3 t4 : Nat) (asym : Int) (up : Bool) : Int :=
  (sx 64 (enc 64 ((t2 : Int) - t1)) - sx 64 (enc 64 ((t4 : Int) - t3)) - asym + up.toNat) / 2

/-- R41, R42: the follower removes its offset: by slewing up to 1,024 tbu, beyond that by a step, in whole tbu of the count
and the rest of the hidden fraction; it waits while the PWM clock is stopped (R77). -/
def State.alignTo (s : State) (o : Int) : State :=
  let s := s.wrN Reg.TBL_ALIGN (enc 32 (satTo 32 o))
  let s := s.raiseIf (s.get Fd.TBL_ALIGNTOL_TOL < o.natAbs) Ev.TBL_STATUS_ALIGNERR
  if o.natAbs ≤ 16 * 1024 then s.tblM fun t => { t with slew := -(o * 2 ^ 28) }
  else
    let x : Int := (s.tbl.frac : Int) - o * 2 ^ 28
    let s := s.tblM fun t => { t with slew := 0, frac := (x % 2 ^ 32).toNat }
    s.stepBy (x / 2 ^ 32)

/-- R41, R405: FIN at the lower end. -/
def State.tbxFin (s : State) (l : Fin 4) (c : BitVec 256) : State :=
  match (s.port l).lower with
  | none => s
  | some (t2, t3) =>
    if !s.upstream l then s
    else
      let s := s.portM l fun p => { p with lower := none }
      let s := s.addfracSet (BitVec.ofNat 32 (enc 32 (clampFrac (sx 32 (cellBody c 32 32)))))
      let (w, s) := s.fresh
      s.alignTo (exchangeOffset (cellBody c 128 64) t2 t3 (cellBody c 64 64) (s.getS (Fd.LINK_L_ASYM_ASYM l)) (w.getLsbD 0))

/-! ### MARK cells (R407) -/

/-- R389, R407: a MARK cell reaches a link in step 6 of its training. -/
def State.markOk (s : State) (l : Fin 4) (sub : Nat) (c : BitVec 256) : Bool :=
  s.linkState l == 1 && !(s.port l).classError c && cellType c == 8 && cellSub c == sub

/-- R389: step 5 is past: the lane PLL is locked, the clock is there, the cells run, and this end has 16 request credits. -/
def State.trainReady (s : State) (l : Fin 4) : State :=
  if s.linkState l = 1 then
    (((s.put (Fd.LINK_L_STATUS_LPLLOCK l) 1).put (Fd.LINK_L_STATUS_CLKOK l) 1).put (Fd.LINK_L_STATUS_CRED l) 16).portM l
      fun p => { p with ready := true }
  else s

/-- R407: the echo of a MARK request. -/
def State.markEcho (s : State) (l : Fin 4) : State :=
  s.portM l fun p => p.sendUnseq { typ := 8, sub := 1, len := 32, body := 0 }

/-- R407, R478: a round trip is measured: one of the sixteen of a training, or one for the monitors while the link is up. -/
def State.markTime (s : State) (l : Fin 4) (rtt : Nat) : State :=
  let up := s.linkState l == 2
  let s := if up then s.monPost 4 l.val (roundLatency ((rtt + 15) / 16 : Nat)) s.tbl.count else s
  s.portM l fun p =>
    if up then p
    else if p.marks < 16 then { p with marks := p.marks + 1, markMax := max p.markMax rtt }
    else p

/-- R398, R407: a MARK cell, in training or later. -/
def State.markIn (s : State) (l : Fin 4) (sub : Nat) (c : BitVec 256) (f : State → State) : State :=
  (if s.markOk l sub c then s.trainReady l else s).cellIn l c (cellType c == 8 && cellSub c == sub) f

/-! ### The meanings -/

/-- R408. -/
def execStreamRawSend (l : Fin 4) (c : Fin 8) (g : Fin 7) (x : Vector (List MdatPeriod) 8) (s : State) : Result :=
  .next (s.rawSend l c g x)
/-- R396. -/
def execCellIdle (l : Fin 4) (x : LaneBits) (s : State) : Result :=
  .next (s.cellArrive l x never fun c s => s.cellIn l c (cellType c == 0) id)
/-- R402. -/
def execCellRdreq (l : Fin 4) (x : LaneBits) (s : State) : Result :=
  .next (s.cellArrive l x never fun c s => s.cellIn l c (cellType c == 1) (·.requestIn l c))
/-- R396. -/
def execCellRdresp (l : Fin 4) (x : LaneBits) (s : State) : Result :=
  .next (s.cellArrive l x never fun c s => s.cellIn l c (cellType c == 2) (·.rdresp l c))
/-- R402. -/
def execCellWr (l : Fin 4) (x : LaneBits) (s : State) : Result :=
  .next (s.cellArrive l x never fun c s => s.cellIn l c (cellType c == 3) (·.requestIn l c))
/-- R402. -/
def execCellWrcmp (l : Fin 4) (x : LaneBits) (s : State) : Result :=
  .next (s.cellArrive l x never fun c s => s.cellIn l c (cellType c == 4) (·.wrcmp l c))
/-- R404. -/
def execCellEvent (l : Fin 4) (x : LaneBits) (s : State) : Result :=
  .next (s.cellArrive l x never fun c s => s.cellIn l c (cellType c == 5) (·.eventIn l c))
/-- R409. -/
def execCellStream (l : Fin 4) (lane0 lane1 : List Bool) (s : State) : Result :=
  .next (s.cellArrive l ⟨lane0, lane1⟩ never fun c s => s.cellIn l c (cellType c == 6) (·.streamIn l c))
/-- R405. -/
def execCellTbxReq (l : Fin 4) (x : LaneBits) (s : State) : Result :=
  .next (s.cellArrive l x never fun c s => s.cellIn l c (cellType c == 7 && cellSub c % 4 == 0) (·.tbxReq l))
/-- R405. -/
def execCellTbxResp (l : Fin 4) (x : LaneBits) (s : State) : Result :=
  .next (s.cellArrive l x never fun c s => s.cellIn l c (cellType c == 7 && cellSub c % 4 == 1) (·.tbxResp l))
/-- R405. -/
def execCellTbxFin (l : Fin 4) (x : LaneBits) (s : State) : Result :=
  .next (s.cellArrive l x never fun c s => s.cellIn l c (cellType c == 7 && cellSub c % 4 == 2) (·.tbxFin l c))
/-- R407. -/
def execCellMarkRequest (l : Fin 4) (x : LaneBits) (s : State) : Result :=
  .next (s.cellArrive l x (s.markOk l 0) fun c s => s.markIn l 0 c (·.markEcho l))
/-- R407. -/
def execCellMarkEcho (l : Fin 4) (x : LaneBits) (rtt : Word) (s : State) : Result :=
  .next (s.cellArrive l x (s.markOk l 1) fun c s => s.markIn l 1 c (·.markTime l rtt.toNat))
/-- R397. -/
def execCellCrcClassError (l : Fin 4) (x : LaneBits) (s : State) : Result :=
  .next (s.cellArrive l x never fun c s => s.cellIn l c false id)

end Sys2Proof.Machine
end

