-- ==== Sys2Proof/Machine/CoreMem.lean ====
section
/-! DEFINITION. The cores' memory accesses: posted writes and write buffers, the data cache, loads and stores, multiply-
accumulate operands, atomic operations (R135, R136, R144–R146, R157, R343–R350, R357). -/
namespace Sys2Proof.Machine

/-! ### The buffers of stores (R136, R346) -/

/-- The buffered stores of a core, oldest first. -/
def State.buf (s : State) (c : Fin 6) : List Posted :=
  match coreKind c with
  | .rk n => s.rk[n].posted
  | .st n => s.st[n].wbuf

/-- Replaces the buffered stores of a core; the time at which the buffer becomes empty is kept. -/
def State.setBuf (s : State) (c : Fin 6) (l : List Posted) : State :=
  match coreKind c with
  | .rk n => s.rkM n fun r => { r with posted := l, emptyAt := if l.isEmpty then s.now else r.emptyAt }
  | .st n => s.stM n fun x => { x with wbuf := l, emptyAt := if l.isEmpty then s.now else x.emptyAt }

/-- R28: the entries of a core's buffer. -/
def bufMax (c : Fin 6) : Nat := if isRk c then 4 else 8

/-- The slot of the task that a core runs. -/
def State.slotOf (s : State) (c : Fin 6) : Nat :=
  match coreKind c with
  | .rk n => (s.rk[n].task.map (·.slot.val)).getD 0
  | .st _ => 0

/-- R401: the oldest entry, a store to a far device, is handed to its link. -/
def State.bufKick (s : State) (c : Fin 6) : State :=
  match s.buf c with
  | e :: t =>
    if isRemote e.addr && !e.sent && !e.line then
      (s.setBuf c ({ e with sent := true } :: t)).remoteIssue (.core c) e.addr e.size (some e.data)
    else s
  | [] => s

/-- A store enters a buffer with a free entry. -/
def State.bufPush (s : State) (c : Fin 6) (e : Posted) : State := (s.setBuf c (s.buf c ++ [e])).bufKick c

/-- Whether a core has an access in a link. -/
def State.remoteAny (s : State) (c : Fin 6) : Bool :=
  (List.finRange 4).any fun l => (s.port l).ops.any fun o => o.who == .core c

/-- R136, R346: a load that waits is handed to its link once every earlier store has been accepted. -/
def State.loadKick (s : State) (c : Fin 6) : State :=
  match s.cpu[c].wait with
  | some (.load a z _ _ _ false) =>
    if isRemote a && (s.buf c).isEmpty && !s.remoteAny c then s.remoteIssue (.core c) a z none else s
  | _ => s

/-! ### The data cache (R344, R346) -/

/-- R344: whether an address is cached for data by a steward. -/
def State.cachedData (s : State) (n : Fin 2) (a : Nat) : Bool :=
  cacheableRegion a && s.st[n].ccfg.getLsbD 1 &&
    !(List.range 4).any fun k =>
      s.on (Fd.SYSCFG_ST_NC_LIM_EN n k) && s.get (Fd.SYSCFG_ST_NC_BASE_BASE n k) ≤ a / 4096 &&
        a / 4096 ≤ s.get (Fd.SYSCFG_ST_NC_LIM_LIM n k)

/-- The bytes of an access, cut out of its line. -/
def lineGet (data a size : Nat) : Nat := cut data (8 * (a % 32)) (8 * size)

/-- The line with the bytes of an access replaced. -/
def linePut (data a size v : Nat) : Nat := paste data (8 * (a % 32)) (8 * size) v

/-- R346: the newest write-back of an address's line that waits in the write buffer. -/
def State.bufLine (s : State) (n : Fin 2) (a : Nat) : Option Nat :=
  (s.st[n].wbuf.reverse.find? fun e => e.line && e.addr == lineOf a).map (·.data)

/-- R346: a dirty line enters the write buffer. -/
def State.pushLine (s : State) (n : Fin 2) (l : CLine) : State :=
  s.bufPush (stCore n) { addr := l.addr, size := 32, data := l.data, line := true }

/-- Changes a line of the data cache. -/
def State.lineM (s : State) (n : Fin 2) (a : Nat) (f : CLine → CLine) : State :=
  s.stM n fun x => { x with dcache := { x.dcache with lines := x.dcache.lines.map fun l => if l.addr == lineOf a then f l else l } }

/-- R345, R346: a line is brought into the data cache: from its newest write-back, or from memory. None: the line it
replaces waits for the write buffer. The Bool: no uncorrectable error. -/
def State.lineFill (s : State) (n : Fin 2) (a : Nat) : Option (Bool × State) :=
  let k := s.st[n].dcache
  let old := (k.victim a).filter (·.dirty)
  if old.isSome && decide (8 ≤ s.st[n].wbuf.length) then none
  else
    let buffered := s.bufLine n a
    let bad := region a == .sram && buffered.isNone && (List.range 4).any fun i => s.eccBad (lineOf a + 8 * i)
    if bad then some (false, s)
    else
      let data := buffered.getD (s.memRd (lineOf a) 32)
      let s := match old with
        | some l => s.pushLine n l
        | none => s
      some (true, s.stM n fun x => { x with dcache := x.dcache.fill a data false })

/-! ### Looking up an access -/

/-- What an access meets: a value after some cycles, a bus error (`ecc`: an uncorrectable one), or a wait (`fill`: for a
line). -/
inductive Look where
  | value (v cycles : Nat)
  | bad (ecc : Bool)
  | miss (fill : Bool)
  deriving DecidableEq, Repr

/-- R135: an address of a reckoner's own tightly coupled memory. -/
def ownTcm (n : Fin 4) (a : Nat) : Bool := tcmBase n ≤ a && a < tcmBase n + 0x40000

/-- R135, R146: the cycles of a local access. -/
def localCycles (n : Fin 4) (a : Nat) : Nat := if a < tcmBase n + 0x10000 then 2 else 1

/-- R135, R343, R344, R357: what a load meets. -/
def State.lookLoad (s : State) (c : Fin 6) (a size : Nat) : Look :=
  match coreKind c with
  | .rk n =>
    if ownTcm n a then
      if region a = .unmapped then .bad false else .value (s.memRd a size) (localCycles n a)
    else .miss false
  | .st n =>
    if !busOk a size false then .bad false
    else if s.cachedData n a then
      match s.st[n].dcache.find a with
      | some l => .value (lineGet l.data a size) 1
      | none =>
        match s.bufLine n a with
        | some d => .value (lineGet d a size) 1
        | none => .miss true
    else .miss false

/-- R158: the effect of a load at issue. `upd` are the address registers it updates. -/
def State.loadEff (s : State) (c : Fin 6) (a size : Nat) (dst : LoadDst) (upd : List (Fin 8 × Word)) (len : Nat) : Eff :=
  if a % size ≠ 0 then .exc 2 (some a) false
  else
    match s.lookLoad c a size with
    | .value v k => .done (s.cpuM c fun x => (x.updates upd).loaded dst size v) (k + (len / 4 - 1))
    | .bad ecc => .exc 3 (some a) ecc
    | .miss fill =>
      .wait (if !fill && isRemote a && (s.buf c).isEmpty then s.remoteIssue (.core c) a size none else s)
        (.load a size dst upd len fill)

/-- R136, R343, R346, R357: the effect of a store at issue. -/
def State.storeEff (s : State) (c : Fin 6) (a size data : Nat) (upd : List (Fin 8 × Word)) (len : Nat) : Eff :=
  let x := len / 4 - 1
  let t := s.cpuM c fun k => k.updates upd
  let post : Eff :=
    if (s.buf c).length < bufMax c then
      .done (t.bufPush c { addr := a, size := size, data := data % 2 ^ (8 * size), slot := s.slotOf c }) (1 + x)
    else .wait s (.store a size data upd len false)
  if a % size ≠ 0 then .exc 2 (some a) false
  else
    match coreKind c with
    | .rk n =>
      if ownTcm n a then
        if region a = .unmapped then .exc 3 (some a) false else .done (t.memWr a size data) (localCycles n a + x)
      else post
    | .st n =>
      if !busOk a size true then .exc 3 (some a) false
      else if s.cachedData n a then
        if (s.st[n].dcache.find a).isSome then
          .done (t.lineM n a fun l => { l with dirty := true, data := linePut l.data a size data }) (1 + x)
        else .wait s (.store a size data upd len true)
      else post

/-! ### Completing an access -/

/-- R135, R343: the least number of cycles that the model lets a waiting load take. -/
def waitCycles (c : Fin 6) (a : Nat) (fill : Bool) : Nat :=
  if isRk c then
    match region a with
    | .tcm _ => 24
    | .sram | .regs | .live => 14
    | _ => 1
  else
    match region a with
    | .sram => if fill then 36 else 28
    | .mram | .mramRo => 64
    | .rom | .regs | .live => 24
    | .tcm _ => 32
    | _ => 1

/-- When a core's buffer was last emptied. -/
def State.bufEmptyAt (s : State) (c : Fin 6) : Nat :=
  match coreKind c with
  | .rk n => s.rk[n].emptyAt
  | .st n => s.st[n].emptyAt

/-- R134–R136: the time at which the instruction after a waiting access of an instruction of `len` bytes may issue: the
access issues after the extension word's cycle and, but for a line fill, after every earlier buffered store. -/
def State.waitEnd (s : State) (c : Fin 6) (a : Nat) (fill : Bool) (len : Nat) : Nat :=
  let x := s.cpu[c].next + (len / 4 - 1) * s.cycle c
  let x := if fill then x else max x (s.bufEmptyAt c)
  let t := max s.now (x + waitCycles c a fill * s.cycle c)
  if isRk c then rkUp t else t

/-- A waiting instruction is over: ABORTNOW, a store's error and a debug halt that waited for the boundary take effect. -/
def State.boundary (s : State) (c : Fin 6) : State :=
  match coreKind c with
  | .rk n => (s.rkBoundary n).haltBoundary c
  | .st _ => s.haltBoundary c

/-- R167: the task that waited has reached its deadline by `t`: it is aborted there, its data discarded. -/
def State.lateLoad (s : State) (c : Fin 6) (t : Nat) : Option State :=
  (s.lateAt c t).map fun (n, d) => (s.cpuM c fun x => { x with wait := none }).rkAbort n 16 (s.rkNext n).2 d

/-- R135, R158: an access that an instruction waited for ends in a bus error. -/
def State.accessBad (s : State) (c : Fin 6) (a : Nat) (ecc : Bool) (t : Nat) : State :=
  match s.lateLoad c t with
  | some s => s
  | none => ((s.cpuM c fun x => { x with wait := none }).coreExc c 3 s.cpu[c].pc (some a) ecc t).boundary c

/-- The value that an instruction waited for arrives: it completes at `t`, or a steward's multiply-accumulate goes on to
its data operand. -/
def State.loadValue (s : State) (c : Fin 6) (size v : Nat) (dst : LoadDst) (upd : List (Fin 8 × Word)) (len t : Nat) : State :=
  match s.lateLoad c t with
  | some s => s
  | none =>
    let fin (s : State) (size v : Nat) (dst : LoadDst) : State :=
      (s.cpuM c fun x => { ((x.updates upd).loaded dst size v).retire len t with wait := none }).boundary c
    match dst with
    | .coefD w sub xa =>
      match s.lookLoad c xa 4 with
      | .value y _ => fin s 4 y (.mac w sub v)
      | .bad ecc => s.accessBad c xa ecc t
      | .miss fill => (s.cpuM c fun x => { x with wait := some (.load xa 4 (.mac w sub v) upd len fill), next := t }).loadKick c
    | _ => fin s size v dst

/-- R167: the load of an aborted task completes and its data is discarded. -/
def State.discardOne (s : State) (n : Fin 4) (a z : Nat) (rest : List (Nat × Nat)) : State :=
  let pop (s : State) : State := s.rkM n fun r => { r with discard := rest }
  if isRemote a then
    match s.remoteTake (windowLink a) (.core (rkCore n)) with
    | some (_, s) => pop s
    | none => s
  else pop (s.busRead a z).2

/-- R21, R135, R136, R343: a load that is not local, and not a line fill, returns; it stalls while no tag is free. -/
def State.loadDone (s : State) (c : Fin 6) : State :=
  let go (s : State) : State :=
    match s.cpu[c].wait with
    | some (.load a z dst upd len false) =>
      if !(s.buf c).isEmpty || (!isRemote a && !s.tagFree (coreRow c)) then s
      else
        let t := s.waitEnd c a false len
        if isRemote a then
          match s.remoteTake (windowLink a) (.core c) with
          | some ((true, v), s) => (s.reachNow t).loadValue c z v dst upd len t
          | some ((false, _), s) => (s.reachNow t).accessBad c a false t
          | none => s.loadKick c
        else
          let s := s.reachNow t
          let ecc := !isRk c && region a == .sram && s.eccBad a
          match s.busRead a z with
          | ((true, v), s) => s.loadValue c z v dst upd len t
          | ((false, _), s) => s.accessBad c a ecc t
    | _ => s
  match coreKind c with
  | .rk n =>
    match s.rk[n].discard with
    | (a, z) :: rest => s.discardOne n a z rest
    | [] => go s
  | .st _ => go s

/-- R343–R346: the line that a steward waits for arrives. -/
def State.missFill (s : State) (n : Fin 2) : State :=
  let c := stCore n
  let fill (a len : Nat) (k : State → Nat → State) : State :=
    if !s.tagFree (coreRow c) then s else
    let t := s.waitEnd c a true len
    match s.lineFill n a with
    | none => s
    | some (false, s) => (s.reachNow t).accessBad c a true t
    | some (true, s) => k (s.reachNow t) t
  match s.cpu[c].wait with
  | some (.load a z dst upd len true) =>
    fill a len fun s t =>
      match s.st[n].dcache.find a with
      | some l => s.loadValue c z (lineGet l.data a z) dst upd len t
      | none => s
  | some (.store a z v upd len true) =>
    fill a len fun s t =>
      let s := s.lineM n a fun l => { l with dirty := true, data := linePut l.data a z v }
      (s.cpuM c fun x => { (x.updates upd).retire len t with wait := none }).boundary c
  | _ => s

/-! ### Acceptance (R136, R346) -/

/-- R136, R346: a store that waited for a free entry enters the buffer. -/
def State.stalledStore (s : State) (c : Fin 6) : State :=
  match s.cpu[c].wait with
  | some (.store a z v upd len false) =>
    if (s.buf c).length < bufMax c then
      let t := max s.now (s.cpu[c].next + (len / 4 - 1) * s.cycle c) + s.cycle c
      let t := if isRk c then rkUp t else t
      let s := s.bufPush c { addr := a, size := z, data := v % 2 ^ (8 * z), slot := s.slotOf c }
      (s.cpuM c fun x => { (x.updates upd).retire len t with wait := none }).boundary c
    else s
  | _ => s

/-- R168, R357: the oldest buffered store leaves, accepted or not. -/
def State.bufPop (s : State) (c : Fin 6) (e : Posted) (rest : List Posted) (ok : Bool) : State :=
  let s := s.setBuf c rest
  let s := match coreKind c with
    | .rk n => if ok then s else s.rkM n fun r => { r with errors := r.errors ++ [(e.slot, s.now)] }
    | .st n => if ok then s else s.stM n fun x => { x with storeErr := x.storeErr ++ [(e.addr, true)] }
  ((s.bufKick c).stalledStore c).loadKick c

/-- R345: the four doublewords of a line are written back. -/
def State.writeLine (s : State) (a data : Nat) : State :=
  (List.range 4).foldl (fun (s : State) (i : Nat) => (s.busWrite (a + 8 * i) 8 (cut data (64 * i) 64)).2) s

/-- R21, R136, R346: the oldest buffered store is accepted at its target; it stalls while no tag is free. -/
def State.bufAccept (s : State) (c : Fin 6) : State :=
  match s.buf c with
  | [] => s
  | e :: rest =>
    if !isRemote e.addr && !s.tagFree (coreRow c) then s
    else if e.line then (s.writeLine e.addr e.data).bufPop c e rest true
    else if isRemote e.addr then
      let busy := match coreKind c with
        | .rk n => !s.rk[n].discard.isEmpty
        | .st _ => false
      if busy then s
      else
        match s.remoteTake (windowLink e.addr) (.core c) with
        | some ((ok, _), s) => s.bufPop c e rest ok
        | none => s.bufKick c
    else
      let (ok, s) := s.busWrite e.addr e.size e.data
      s.bufPop c e rest ok

/-- R155, R350: what FENCE waits for has come about. -/
def State.fenceOver (s : State) (c : Fin 6) : Bool :=
  (s.buf c).isEmpty &&
    match coreKind c with
    | .rk _ => true
    | .st n => s.st[n].maint == 0

/-! ### Atomic operations (R27, R157, R350) -/

/-- R157: SWAP or AADD is performed at the SRAM. -/
def State.atomicDo (s : State) (c : Fin 6) (a : Nat) (add : Bool) (rd : Fin 16) : State :=
  let old := s.memRd a 4
  let d := s.cpu[c].d[rd].toNat
  let s := (s.busWrite a 4 (if add then (old + d) % 2 ^ 32 else d)).2
  s.cpuM c fun x => { x with d := x.d.set rd (BitVec.ofNat 32 old) }

/-- The cycles of an atomic operation: 8, and the SRAM access (R157, R343). -/
def atomicCycles : Nat := 8 + 28

/-- R21, R157, R350: the effect of SWAP or AADD at issue. -/
def State.atomicEff (s : State) (c : Fin 6) (a : Nat) (add : Bool) (rd : Fin 16) (len : Nat) : Eff :=
  if a % 4 ≠ 0 then .exc 2 (some a) false
  else if region a ≠ .sram then .exc 3 (some a) false
  else if s.fenceOver c && s.tagFree (coreRow c) then
    if s.eccBad a then .exc 3 (some a) true else .done (s.atomicDo c a add rd) (atomicCycles + (len / 4 - 1))
  else .wait s (.atomic a add rd len)

/-- R21, R155: the buffer that FENCE, SWAP or AADD waits for is drained. -/
def State.fenceEnd (s : State) (c : Fin 6) : State :=
  if !s.fenceOver c then s
  else
    let t := max s.now s.cpu[c].next
    match s.cpu[c].wait with
    | some .fence =>
      let t := max t (s.cpu[c].next + s.cycle c)
      let t := if isRk c then rkUp t else t
      (s.cpuM c fun x => { x.retire 4 t with wait := none }).boundary c
    | some (.atomic a add rd len) =>
      if !s.tagFree (coreRow c) then s
      else if s.eccBad a then s.accessBad c a true t
      else
        let t := t + (atomicCycles + (len / 4 - 1)) * s.cycle c
        ((s.atomicDo c a add rd).cpuM c fun x => { x.retire len t with wait := none }).boundary c
    | _ => s

/-! ### Multiply-accumulate operands (R146) -/

/-- R138, R146: the coefficient entry of a reckoner's active bank at an index. -/
def State.bankEntry (s : State) (n : Fin 4) (i : Nat) : Nat :=
  s.memRd (tcmBase n + 0x20000 + 0x8000 * s.get (Fd.SYSCFG_RK_STATUS_BANK n) + 8 * (i % 4096)) 8

/-- R146: the address registers after a multiply-accumulate instruction. -/
def State.macUpdate (s : State) (c : Fin 6) (f : CForm) : List (Fin 8 × Word) :=
  let ac := s.cpu[c].a[f.ac]
  let ac' := if isRk c then BitVec.ofNat 32 (paste ac.toNat 0 12 (ac.toNat + 1)) else ac + 8
  let l1 := if f.ic then [(f.ac, ac')] else []
  let ax := if f.ic && f.ax == f.ac then ac' else s.cpu[c].a[f.ax]
  let l2 := if f.ix = 1 then [(f.ax, ax + 4)] else if f.ix = 2 then [(f.ax, ax - 4)] else []
  l1 ++ l2

/-- R146: MACC and MSUC. -/
def State.macRegEff (s : State) (c : Fin 6) (f : CForm) (sub : Bool) : Eff :=
  let upd := s.macUpdate c f
  let x := s.cpu[c].d[f.d]
  let a := s.cpu[c].a[f.ac].toNat
  match coreKind c with
  | .rk n => .done (s.cpuM c fun k => (k.updates upd).loaded (.coefC f.w sub x) 8 (s.bankEntry n a)) 1
  | .st _ => s.loadEff c a 8 (.coefC f.w sub x) upd 4

/-- R146: MACD and MSUD. -/
def State.macMemEff (s : State) (c : Fin 6) (f : CForm) (sub : Bool) : Eff :=
  let upd := s.macUpdate c f
  let a := s.cpu[c].a[f.ac].toNat
  let xa := s.cpu[c].a[f.ax].toNat
  match coreKind c with
  | .rk n => s.loadEff c xa 4 (.mac f.w sub (s.bankEntry n a)) upd 4
  | .st _ =>
    if a % 8 ≠ 0 then .exc 2 (some a) false
    else if xa % 4 ≠ 0 then .exc 2 (some xa) false
    else
      match s.lookLoad c a 8 with
      | .value e _ => s.loadEff c xa 4 (.mac f.w sub e) upd 4
      | _ => s.loadEff c a 8 (.coefD f.w sub xa) upd 4

end Sys2Proof.Machine
end

