-- ==== Sys2Proof/Machine/CoreAccess.lean ====
section
/-! DEFINITION. Loads, stores, multiply-accumulate, atomic and cache instructions, and the ends of their waits
(R135, R136, R144–R146, R155, R157, R168). -/
namespace Sys2Proof.Machine

/-- An M instruction. -/
def State.memInstr (s : State) (c : Fin 6) (f : MForm) (legal : Bool) (body : State → Eff) : State :=
  s.instr c (extBytes f.ext) f.pred legal (1 + extCycle f.ext) fun s _ => body s

/-- R144, R145: a load. -/
def State.loadInstr (s : State) (c : Fin 6) (f : MForm) (legal : Bool) (size : Nat) (dst : LoadDst) : State :=
  s.memInstr c f legal fun s =>
    let b := s.cpu[c].a[f.ab]
    s.loadEff c (f.addr b size).toNat size dst (f.update b size) (extBytes f.ext)

/-- R144, R145: a store. -/
def State.storeInstr (s : State) (c : Fin 6) (f : MForm) (legal : Bool) (size : Nat) (data : Cpu → Nat) : State :=
  s.memInstr c f legal fun s =>
    let b := s.cpu[c].a[f.ab]
    s.storeEff c (f.addr b size).toNat size (data s.cpu[c]) (f.update b size) (extBytes f.ext)

/-- A data register as a number of the file. -/
def dReg (n : BitVec 4) : Fin 16 := n.toFin

/-- An address register as a number of the file. -/
def aReg (n : BitVec 4) : Fin 8 := Fin.ofNat 8 n.toNat

/-- R145: LD.B. -/
def execLdB (c : Fin 6) (f : MForm) (s : State) : Result := .next (s.loadInstr c f (f.legal rdAny 3) 1 (.d (dReg f.rd) true))
/-- R145: LD.BU. -/
def execLdBu (c : Fin 6) (f : MForm) (s : State) : Result := .next (s.loadInstr c f (f.legal rdAny 3) 1 (.d (dReg f.rd) false))
/-- R145: LD.H. -/
def execLdH (c : Fin 6) (f : MForm) (s : State) : Result := .next (s.loadInstr c f (f.legal rdAny 3) 2 (.d (dReg f.rd) true))
/-- R145: LD.HU. -/
def execLdHu (c : Fin 6) (f : MForm) (s : State) : Result := .next (s.loadInstr c f (f.legal rdAny 3) 2 (.d (dReg f.rd) false))
/-- R145: LD.W. -/
def execLdW (c : Fin 6) (f : MForm) (s : State) : Result := .next (s.loadInstr c f (f.legal rdAny 3) 4 (.d (dReg f.rd) false))
/-- R145: LD.D. -/
def execLdD (c : Fin 6) (f : MForm) (s : State) : Result := .next (s.loadInstr c f (f.legal rdEven 3) 8 (.pair (dReg f.rd)))
/-- R145: LDA. -/
def execLda (c : Fin 6) (f : MForm) (s : State) : Result := .next (s.loadInstr c f (f.legal rdAddr 3) 4 (.a (aReg f.rd)))
/-- R145: ST.B. -/
def execStB (c : Fin 6) (f : MForm) (s : State) : Result :=
  .next (s.storeInstr c f (f.legal rdAny 3) 1 fun x => (x.gd f.rd).toNat % 2 ^ 8)
/-- R145: ST.H. -/
def execStH (c : Fin 6) (f : MForm) (s : State) : Result :=
  .next (s.storeInstr c f (f.legal rdAny 3) 2 fun x => (x.gd f.rd).toNat % 2 ^ 16)
/-- R145: ST.W. -/
def execStW (c : Fin 6) (f : MForm) (s : State) : Result := .next (s.storeInstr c f (f.legal rdAny 3) 4 fun x => (x.gd f.rd).toNat)
/-- R145: ST.D. -/
def execStD (c : Fin 6) (f : MForm) (s : State) : Result :=
  .next (s.storeInstr c f (f.legal rdEven 3) 8 fun x => (x.gd f.rd).toNat + 2 ^ 32 * (x.gd (f.rd ||| 1)).toNat)
/-- R145: STA. -/
def execSta (c : Fin 6) (f : MForm) (s : State) : Result := .next (s.storeInstr c f (f.legal rdAddr 3) 4 fun x => (x.ga f.rd).toNat)

/-- R135: a load that is not local returns. -/
def execNonlocalLoadDone (c : Fin 6) (s : State) : Result := .next (s.loadDone c)
/-- R136: the oldest posted store is accepted. -/
def execPostedStoreAccept (rk : Fin 4) (s : State) : Result := .next (s.bufAccept (rkCore rk))
/-- R168. -/
def execPostedStoreBusError (rk : Fin 4) (s : State) : Result := .next (s.rkStoreError rk)

/-- R146: MACD. -/
def execMacd (c : Fin 6) (f : CForm) (s : State) : Result := .next (s.instr c 4 f.pred (f.legal true) 1 fun s _ => s.macMemEff c f false)
/-- R146: MSUD. -/
def execMsud (c : Fin 6) (f : CForm) (s : State) : Result := .next (s.instr c 4 f.pred (f.legal true) 1 fun s _ => s.macMemEff c f true)
/-- R146: MACC. -/
def execMacc (c : Fin 6) (f : CForm) (s : State) : Result := .next (s.instr c 4 f.pred (f.legal false) 1 fun s _ => s.macRegEff c f false)
/-- R146: MSUC. -/
def execMsuc (c : Fin 6) (f : CForm) (s : State) : Result := .next (s.instr c 4 f.pred (f.legal false) 1 fun s _ => s.macRegEff c f true)

/-! ### The system extension (R157) -/

/-- SWAP or AADD. -/
def State.atomicInstr (s : State) (c : Fin 6) (f : MForm) (add : Bool) : State :=
  s.memInstr c f (!isRk c && f.legal rdAny 1) fun s =>
    s.atomicEff c (f.addr s.cpu[c].a[f.ab] 4).toNat add (dReg f.rd) (extBytes f.ext)

/-- R157: SWAP. -/
def execSwap (c : Fin 6) (f : MForm) (s : State) : Result := .next (s.atomicInstr c f false)
/-- R157: AADD. -/
def execAadd (c : Fin 6) (f : MForm) (s : State) : Result := .next (s.atomicInstr c f true)

/-- R157: the data-cache line of an address is written back if it is dirty; none while the write buffer is full. -/
def State.lineClean (s : State) (n : Fin 2) (a : Nat) : Option State :=
  match (s.st[n].dcache.find a).filter (·.dirty) with
  | none => some s
  | some l =>
    if 8 ≤ s.st[n].wbuf.length then none else some ((s.lineM n a fun l => { l with dirty := false }).pushLine n l)

/-- R157: the data-cache line of an address is invalidated. -/
def State.lineDrop (s : State) (n : Fin 2) (a : Nat) : State := s.stM n fun x => { x with dcache := x.dcache.drop a }

/-- A CACHE instruction; `g` is its operation on the line that holds the effective address. -/
def State.cacheInstr (s : State) (c : Fin 6) (f : MForm) (op : Nat) (g : State → Fin 2 → Nat → Option State) : State :=
  s.memInstr c f (!isRk c && f.legal (· == op) 2) fun s =>
    match coreKind c with
    | .rk _ => .stay
    | .st n =>
      let b := s.cpu[c].a[f.ab]
      match g s n (f.addr b 32).toNat with
      | some s => .done (s.cpuM c fun x => x.updates (f.update b 32)) (1 + extCycle f.ext)
      | none => .stay

/-- R157: CCLN. -/
def execCcln (c : Fin 6) (f : MForm) (s : State) : Result := .next (s.cacheInstr c f 0 fun s n a => s.lineClean n a)
/-- R157: CINV. -/
def execCinv (c : Fin 6) (f : MForm) (s : State) : Result := .next (s.cacheInstr c f 1 fun s n a => some (s.lineDrop n a))
/-- R157: CCI. -/
def execCci (c : Fin 6) (f : MForm) (s : State) : Result :=
  .next (s.cacheInstr c f 2 fun s n a => (s.lineClean n a).map fun s => s.lineDrop n a)
/-- R157: ICINV. -/
def execIcinv (c : Fin 6) (f : MForm) (s : State) : Result :=
  .next (s.cacheInstr c f 3 fun s n a => some (s.stM n fun x => { x with icache := x.icache.drop a }))

/-! ### Whole-cache operations and the write buffer (R345, R346) -/

/-- R345: a write of CMAINT: bit 0 empties the instruction cache at once; FENCE waits for every bit written. Operations are done in
the order of their writes: what is still to be invalidated leaves nothing to a later clean. -/
def State.cmaintWrite (s : State) (n : Fin 2) (v : BitVec 3) : State :=
  s.stM n fun x => { x with maint := x.maint ||| (if x.maint.getLsbD 2 then v &&& 1 else v), icache := if v.getLsbD 0 then {} else x.icache }

/-- R345: a whole-cache operation completes, once earlier write-backs have been accepted: dirty lines are written back,
then the data cache is invalidated, as far as each was wanted. -/
def State.cmaintDone (s : State) (n : Fin 2) : State :=
  let m := s.st[n].maint
  if m = 0 ∨ s.st[n].wbuf ≠ [] ∨ (m.getLsbD 1 && !s.tagFree (coreRow (stCore n))) then s
  else
    let s := if m.getLsbD 1 then
        (s.st[n].dcache.lines.filter (·.dirty)).foldl (fun (s : State) (l : CLine) => s.writeLine l.addr l.data) s
      else s
    s.stM n fun x =>
      { x with
        maint := 0
        dcache :=
          if m.getLsbD 2 then {}
          else if m.getLsbD 1 then { x.dcache with lines := x.dcache.lines.map fun l => { l with dirty := false } }
          else x.dcache }

/-- R345. -/
def execCmaintIcinv (n : Fin 2) (s : State) : Result := .next (s.cmaintWrite n 1)
/-- R345. -/
def execCmaintClean (n : Fin 2) (s : State) : Result := .next (s.cmaintWrite n 2)
/-- R345. -/
def execCmaintDcinv (n : Fin 2) (s : State) : Result := .next (s.cmaintWrite n 4)
/-- R345. -/
def execCacheMaintDone (n : Fin 2) (s : State) : Result := .next (s.cmaintDone n)
/-- R343, R344. -/
def execCacheMissFill (n : Fin 2) (s : State) : Result := .next (s.missFill n)
/-- R346. -/
def execWriteBufferAccept (n : Fin 2) (s : State) : Result := .next (s.bufAccept (stCore n))

/-- R357. -/
def execRemoteStoreError (n : Fin 2) (s : State) : Result := .next (s.remoteStoreError n)

end Sys2Proof.Machine
end

