-- ==== Sys2Proof/Machine/DmaRun.lean ====
section
/-! DEFINITION. DMA: the fetch of a descriptor, the moving of data by blocks, the write-back and the chain (R368–R382). -/
namespace Sys2Proof.Machine

/-! ### The fetch (R372, R379) -/

/-- R369, R370, R379: whether the descriptor is refused as ERR_DESC. -/
def DmaCh.badDesc (d : DmaCh) : Bool :=
  cut (d.word 0) 8 20 != 0 || cut (d.word 3) 28 4 != 0 || cut (d.word 5) 13 19 != 0 || cut (d.word 5) 2 6 != 0 ||
    d.op == 3 || d.trig == 3 || d.blk == 1 || (d.bit0 5 && !descAddrOk (d.word 4))

/-- R375: whether the descriptor is refused as ERR_ALIGN. -/
def DmaCh.badAlign (d : DmaCh) : Bool :=
  d.wordBeats && ((d.op != 1 && d.word 1 % 4 != 0) || d.word 2 % 4 != 0 || d.len % 4 != 0)

/-- R379: the STATUS that the checks at the fetch give, in their order. -/
def DmaCh.fetchStatus (d : DmaCh) : Nat :=
  if d.badDesc then 4 else if d.len = 0 then 2 else if d.badAlign then 5 else 0

/-- R378: the completion stamp is the timebase at which the last destination write was accepted. -/
def State.dmaStamp (s : State) (c : Fin 32) : State := s.dmaM c fun d => { d with stamp := s.tbl.count }

/-- R376: the next block waits for its trigger, or takes the one that is pending. -/
def State.dmaAwait (s : State) (c : Fin 32) : State :=
  if s.on (Fd.DMA_CH_STAT_TPEND c) then (s.put (Fd.DMA_CH_STAT_TPEND c) 0).dmaBlockStart c else s.dmaGo c 2

/-- R25, R372: the descriptor as it stands in SRAM. -/
def State.dmaLoad (s : State) (c : Fin 32) (a : Nat) : State :=
  s.dmaM c fun d =>
    { d with
      words := Vector.ofFn fun (i : Fin 8) => BitVec.ofNat 32 (s.memRd (a + 4 * i.val) 4)
      addr := a, pos := 0, block := 0
      status := if (List.range 4).any (fun k => s.eccBad (a + 8 * k)) then 3 else 0 }

/-- R372, R376: the engine fetches the descriptor at DMA_CHc_DESC; one that it does not own stands as the last one fetched. -/
def State.dmaFetch (s : State) (c : Fin 32) : State :=
  if s.dmaState c ≠ 1 ∨ s.dmaPaused ∨ !s.tagFree 6 then s
  else
    let a := s.rdN (Reg.DMA_CH_DESC c)
    if !(s.memRd a 4).testBit 31 then ((s.dmaLoad c a).dmaHalt c).raise (Ev.DMA_CH_FLAGS_EMPTY c)
    else
      let s := (s.dmaLoad c a).put (Fd.DMA_CH_STAT_BYTES c) 0
      let d := s.dma[c]
      let st := if d.status = 0 then d.fetchStatus else d.status
      if st ≠ 0 then ((s.dmaM c fun d => { d with status := st }).dmaStamp c).dmaGo c 4
      else if d.trig = 0 then s.dmaBlockStart c
      else s.dmaAwait c

/-! ### Moving the data of a block (R374, R375) -/

/-- Bytes of a list as a little-endian number. -/
def bytesNat : List Nat → Nat
  | [] => 0
  | b :: t => b % 256 + 256 * bytesNat t

/-- R374: the bytes that a fill writes from an address on. -/
def fillBytes (w : Nat) (a : Nat) : Nat → List Nat
  | 0 => []
  | n + 1 => cut w (8 * (a % 4)) 8 :: fillBytes w (a + 1) n

/-- R24: reads `n` bytes of a local range by aligned pieces: the bytes up to a piece that fails, and whether none does. -/
def State.readRange (words : Bool) : Nat → Nat → Nat → State → (List Nat × Bool) × State
  | 0, _, _, s => (([], true), s)
  | _, _, 0, s => (([], true), s)
  | fuel + 1, a, n, s =>
    let k := if words then 4 else pieceSize a n 8
    match s.busRead a k with
    | ((false, _), s) => (([], false), s)
    | ((true, v), s) =>
      let ((l, ok), s) := State.readRange words fuel (a + k) (n - k) s
      ((bytesLE k v ++ l, ok), s)

/-- The bytes that the remote reads of a channel on a link brought, in issue order, up to the first error: the reads are
taken until `n` bytes are accounted for. -/
def State.takeRemote (l : Fin 4) (who : Requester) : Nat → Nat → Bool → State → List Nat × State
  | 0, _, _, s => ([], s)
  | _, 0, _, s => ([], s)
  | fuel + 1, n, ok, s =>
    match (s.port l).ops.find? (fun o => o.who == who && o.data.isNone) with
    | none => ([], s)
    | some o =>
      let s := s.portM l fun p => { p with ops := p.ops.erase o }
      match o.stage with
      | .done true v =>
        let (r, s) := State.takeRemote l who fuel (n - o.size) ok s
        (if ok then bytesLE o.size v ++ r else r, s)
      | _ => ([], (State.takeRemote l who fuel (n - o.size) false s).2)

/-- The bytes that a beat needs, and whether they are all there: from the remote reads already taken, `off` bytes into the
block, or from here. -/
def State.beatBytes (s : State) (words : Bool) (far : Option (List Nat)) (a off k : Nat) : (List Nat × Bool) × State :=
  match far with
  | some l => (((l.drop off).take k, decide (off + k ≤ l.length)), s)
  | none => State.readRange words k a k s

/-- The first place where two byte lists differ. -/
def firstDiff : List Nat → List Nat → Option Nat
  | a :: s, b :: t => if a = b then (firstDiff s t).map (· + 1) else some 0
  | _, _ => none

/-- R24, R401: the write of a beat: here, or over a link. -/
def State.dmaPut (s : State) (c : Fin 32) (a k v : Nat) : Bool × State :=
  if isRemote a then (true, s.remoteIssue (.dma c) a k (some v))
  else if k = 16 then
    match s.busWrite a 8 (v % 2 ^ 64) with
    | (true, s) => s.busWrite (a + 8) 8 (v / 2 ^ 64)
    | r => r
  else s.busWrite a k v

/-- R379: the bytes of a beat that precede an error are written by aligned pieces: how many, and whether every write was
accepted. -/
def State.dmaPutBytes (c : Fin 32) : Nat → Nat → List Nat → State → Nat × Bool × State
  | 0, _, _, s => (0, true, s)
  | _, _, [], s => (0, true, s)
  | fuel + 1, a, l, s =>
    let k := pieceSize a l.length 8
    match s.dmaPut c a k (bytesNat (l.take k)) with
    | (false, s) => (0, false, s)
    | (true, s) =>
      let (m, ok, s) := State.dmaPutBytes c fuel (a + k) (l.drop k) s
      (k + m, ok, s)

/-- R377: two SYS cycles lie between a trigger and the first access of its block. -/
def State.dmaStartup (s : State) (c : Fin 32) : State := s.reachNow (s.dma[c].startAt + 2 * s.sysT)

/-- R374, R375, R379: the beats of a block, from byte `pos` of the descriptor for `n` bytes, in address order. Answers the
bytes done, the STATUS that ends it (0: none) and the state. -/
def State.dmaBeats (c : Fin 32) (d : DmaCh) (src ref : Option (List Nat)) (start : Nat) :
    Nat → Nat → Nat → State → Nat × Nat × State
  | 0, pos, _, s => (pos, 0, s)
  | _, pos, 0, s => (pos, 0, s)
  | fuel + 1, pos, n, s =>
    let dst := if d.bit0 3 then d.word 2 + pos else d.word 2
    let a := if d.bit0 2 then d.word 1 + pos else d.word 1
    let k := if d.wordBeats then 4 else pieceSize dst n (beatMax dst)
    let ((x, whole), s) := if d.op = 1 then ((fillBytes (d.word 1) dst k, true), s) else s.beatBytes d.wordBeats src a (pos - start) k
    if d.op = 2 then
      let ((y, wholeY), s) := s.beatBytes d.wordBeats ref dst (pos - start) k
      match firstDiff x y with
      | some i => (pos + i, 1, s)
      | none =>
        if whole && wholeY then State.dmaBeats c d src ref start fuel (pos + k) (n - k) s
        else (pos + min x.length y.length, 3, s)
    else if whole then
      match s.dmaPut c dst k (bytesNat x) with
      | (false, s) => (pos, 3, s)
      | (true, s) => State.dmaBeats c d src ref start fuel (pos + k) (n - k) s
    else
      let (m, _, s) := State.dmaPutBytes c k dst x s
      (pos + m, 3, s)

/-- The remote reads of an operand of the block, if it lies in a remote window. -/
def State.blockRemote (s : State) (c : Fin 32) (used : Bool) (a n : Nat) : Option (List Nat) × State :=
  if used && isRemote a then
    let r := State.takeRemote (windowLink a) (.dma c) n n true s
    (some r.1, r.2)
  else (none, s)

/-- R374, R380: `n` bytes of the running block are moved. -/
def State.dmaMove (s : State) (c : Fin 32) (n : Nat) : State :=
  let d := s.dma[c]
  let a := if d.bit0 2 then d.word 1 + d.pos else d.word 1
  let b := if d.bit0 3 then d.word 2 + d.pos else d.word 2
  let (src, s) := s.blockRemote c (d.op != 1) a d.block
  let (ref, s) := s.blockRemote c (d.op == 2) b d.block
  let (pos, st, s) := State.dmaBeats c d src ref d.pos n d.pos n s
  ((s.dmaM c fun e => { e with pos := pos, status := if st = 0 then e.status else st }).put (Fd.DMA_CH_STAT_BYTES c) pos).dmaStamp c

/-- Whether a remote read of the channel is still on its way. -/
def State.dmaReading (s : State) (c : Fin 32) : Bool :=
  (List.finRange 4).any fun l => (s.port l).ops.any fun o =>
    o.who == .dma c && o.data.isNone && (match o.stage with | .done _ _ => false | _ => true)

/-- R379: a remote write of the channel has failed. -/
def State.dmaFailed (s : State) (c : Fin 32) : Bool :=
  (List.finRange 4).any fun l => (s.port l).ops.any fun o =>
    o.who == .dma c && o.data.isSome && (match o.stage with | .done ok _ => !ok | _ => false)

/-- R376, R379, R380: a block ends: the descriptor is finished, or waits for its next trigger. After a failed write no new beat
issues. -/
def State.dmaBlockEnd (s : State) (c : Fin 32) : State :=
  if s.dmaState c ≠ 3 ∨ s.dmaPaused ∨ s.dmaReading c ∨ !s.tagFree 6 then s
  else if s.dmaFailed c then (s.dmaM c fun d => { d with status := 3 }).dmaGo c 4
  else
    let s := (s.dmaStartup c).dmaMove c s.dma[c].block
    let d := s.dma[c]
    if d.status ≠ 0 then s.dmaGo c 4
    else if d.stop then (s.dmaM c fun d => { d with status := 6 }).dmaGo c 4
    else if d.len ≤ d.pos then s.dmaGo c 4
    else s.dmaAwait c

/-! ### Completion (R378, R379) -/

/-- R378: whether a remote write of the channel has not landed. -/
def State.dmaWriting (s : State) (c : Fin 32) : Bool := s.remoteBusy (.dma c)

/-- R379: the bytes of a link's list of a channel's completed writes from the first failure on. -/
def failedBytes : List RemoteOp → Nat
  | [] => 0
  | o :: t => match o.stage with
    | .done true _ => failedBytes t
    | _ => ((o :: t).map RemoteOp.size).sum

/-- R379, R402: the outcome of the channel's remote writes is collected: a failure ends the descriptor with ERR_BUS, its
bytes done being the prefix before it. -/
def State.dmaLanded (s : State) (c : Fin 32) : State :=
  let bad := ((List.finRange 4).map fun (l : Fin 4) =>
    failedBytes ((s.port l).ops.filter fun o => o.who == .dma c && o.data.isSome)).sum
  let s := (List.finRange 4).foldl (fun (s : State) (l : Fin 4) =>
    s.portM l fun p => { p with ops := p.ops.filter fun o => o.who != .dma c }) s
  if bad = 0 then s
  else (s.dmaM c fun d => { d with status := 3, pos := d.pos - bad }).put (Fd.DMA_CH_STAT_BYTES c) (s.dma[c].pos - bad)

/-- R378: words 6 and 7, then word 0, are written back. -/
def State.dmaWriteBack (s : State) (c : Fin 32) : State :=
  let d := s.dma[c]
  let s := (s.busWrite (d.addr + 24) 4 (d.pos % 2 ^ 24)).2
  let s := (s.busWrite (d.addr + 28) 4 (d.stamp % 2 ^ 32)).2
  (s.busWrite d.addr 4 (paste (paste (d.word 0) 31 1 0) 28 3 d.status)).2

/-- R377, R378: the completion event reaches the channels that select this one a SYS cycle after word 0 is accepted. -/
def State.dmaSignal (s : State) (c : Fin 32) : State :=
  let s := if s.dma.toList.any (·.selects (.channel c.val)) then s.reachNow (s.now + s.sysT) else s
  (List.finRange 32).foldl (fun (s : State) (k : Fin 32) =>
    if s.dma[k].selects (.channel c.val) then s.dmaTrigger k (.channel c.val) else s) s

/-- R378, R379: after the last write has landed: write-back, flags, signal, and the next descriptor or the end. -/
def State.dmaFinish (s : State) (c : Fin 32) : State :=
  let s := (s.dmaLanded c).dmaWriteBack c
  let d := s.dma[c]
  let s := (s.inc32 (Reg.DMA_CH_DONECNT c)).put (Fd.DMA_CH_LASTST_STATUS c) d.status
  let s := if d.trig = 0 then s else s.monPost 3 c.val (roundLatency ((s.now : Int) - d.startAt)) s.tbl.count
  let s := s.raiseIf (d.bit0 4) (Ev.DMA_CH_FLAGS_DONE c)
  let s := s.raiseIf (2 ≤ d.status) (Ev.DMA_CH_FLAGS_ERR c)
  let s := s.raiseIf (d.status == 1) (Ev.DMA_CH_FLAGS_MISMATCH c)
  let s := s.raiseIf (d.status == 6 || d.stop) (Ev.DMA_CH_FLAGS_STOPPED c)
  let s := s.dmaSignal c
  if d.bit0 5 && !d.stop && (d.status == 0 || (d.status == 1 && !d.bit0 7)) then
    (s.wrN (Reg.DMA_CH_DESC c) (d.word 4)).dmaGo c 1
  else s.dmaHalt c

/-- R378, R380: a descriptor completes. From STATE 3 its last block ends first, or with a stop wanted the transfer ends
after `moved` bytes. It waits for remote writes that have not landed. -/
def State.dmaComplete (s : State) (c : Fin 32) (moved : Nat) : State :=
  let st := s.dmaState c
  if s.dmaPaused ∨ (st ≠ 3 ∧ st ≠ 4) ∨ s.dmaReading c ∨ !s.tagFree 6 then s
  else
    let d := s.dma[c]
    let s :=
      if st = 4 then s
      else if d.stop then
        let t := (s.dmaStartup c).dmaMove c (min (moved - d.pos) d.block)
        (t.dmaM c fun e => { e with status := if e.status = 0 then 6 else e.status }).dmaGo c 4
      else if d.len ≤ d.pos + d.block then s.dmaBlockEnd c
      else s
    if s.dmaState c = 4 ∧ !s.dmaWriting c then s.dmaFinish c else s

/-- R372. -/
def execDmaDescriptorFetch (c : Fin 32) (s : State) : Result := .next (s.dmaFetch c)
/-- R376. -/
def execDmaBlockEnd (c : Fin 32) (s : State) : Result := .next (s.dmaBlockEnd c)
/-- R378. -/
def execDmaDescriptorComplete (c : Fin 32) (moved : BitVec 24) (s : State) : Result := .next (s.dmaComplete c moved.toNat)

end Sys2Proof.Machine
end

