-- ==== Sys2Proof/Machine/Flow.lean ====
section
/-! DEFINITION. Program flow, samples, staging, task end, the SYS group, the system registers, interrupts
(R149–R156, R351–R354). -/
namespace Sys2Proof.Machine

/-! ### Branches (R149) -/

/-- R149: BR, or CALL with the return address written. -/
def State.branchInstr (s : State) (c : Fin 6) (f : BForm) (call : Bool) : State :=
  let len := extBytes f.ext
  let k := extCycle f.ext
  s.instr c len f.pred f.legal (1 + k) fun s _ =>
    let pc := s.cpu[c].pc
    let t := if call then s.cpuM c fun x => { x with a := x.a.set 7 (pc + BitVec.ofNat 32 len) } else s
    .jump t (f.target pc) (2 + k)

/-- R149: JR, CALLR or RET to the address that `g` takes from the registers. CALLR a7 jumps to what a7 held before the return
address is written (DESIGN CHOICE, log entry 17). -/
def State.jumpInstr (s : State) (c : Fin 6) (f : RForm) (legal call : Bool) (g : Cpu → Word) : State :=
  s.issueR c f legal 1 fun s _ =>
    let a := g s.cpu[c]
    if a.toNat % 4 ≠ 0 then .exc 2 (some a.toNat) false
    else .jump (if call then s.cpuM c fun x => { x with a := x.a.set 7 (x.pc + 4) } else s) a 2

/-- R149: BR. -/
def execBr (c : Fin 6) (f : BForm) (s : State) : Result := .next (s.branchInstr c f false)
/-- R149: CALL. -/
def execCall (c : Fin 6) (f : BForm) (s : State) : Result := .next (s.branchInstr c f true)
/-- R149: JR. -/
def execJr (c : Fin 6) (f : RForm) (s : State) : Result :=
  .next (s.jumpInstr c f (f.legal .zero .a .zero resZero) false fun x => x.ga f.ra)
/-- R149: CALLR. -/
def execCallr (c : Fin 6) (f : RForm) (s : State) : Result :=
  .next (s.jumpInstr c f (f.legal .zero .a .zero resZero) true fun x => x.ga f.ra)
/-- R149: RET. -/
def execRet (c : Fin 6) (f : RForm) (s : State) : Result :=
  .next (s.jumpInstr c f (f.legal .zero .zero .zero resZero) false fun x => x.a[7])

/-! ### Loops (R150) -/

/-- R133, R150: LOOP; loops nest only with lc1 inside lc0. -/
def State.loopInstr (s : State) (c : Fin 6) (f : LForm) : State :=
  s.instr c 4 f.pred f.legal 1 (fun s _ =>
    let x := s.cpu[c]
    let n := if f.cr then (x.d[f.count.toNat % 16]).toNat % 2 ^ 16 else f.count.toNat
    let last := x.pc + BitVec.ofNat 32 (4 * f.stop.toNat)
    if n = 0 then .skip s (last + 4) 2
    else
      .done (s.cpuM c fun x =>
        { x with lc := x.lc.set f.lc (BitVec.ofNat 16 n), loops := x.loops.set f.lc (some ⟨(x.pc + 4).toNat, last.toNat⟩) }) 1)
    fun s => s.cpu[c].loops[f.lc].isNone && s.cpu[c].loops[(1 : Fin 2)].isNone

/-- R150: LOOP. -/
def execLoop (c : Fin 6) (f : LForm) (s : State) : Result := .next (s.loopInstr c f)
/-- R150: the instruction ending at a body's last word has completed. -/
def execLoopBodyEnd (c : Fin 6) (s : State) : Result :=
  .next (if s.cpu[c].wait.isNone then s.cpuM c Cpu.loopEnd else s)
/-- R155: ENDL. -/
def execEndl (c : Fin 6) (f : RForm) (s : State) : Result :=
  .next (s.regOp c f (f.legal .lc .zero .zero resZero) 1 fun x => { x with loops := x.loops.set (f.rd.toNat % 2) none })

/-! ### Samples and staging (R151–R153, R172) -/

/-- R151, R152: SMP. -/
def execSmp (c : Fin 6) (f : SForm) (s : State) : Result :=
  .next (s.instr c 4 f.pred (isRk c && f.legal) 1 fun s t =>
    match coreKind c with
    | .st _ => .stay
    | .rk n =>
      let x := s.cpu[c]
      let ch := if f.cr then (x.d[f.ch.toNat % 16]).toNat % 256 else f.ch.toNat
      let m : Sample := if 57 ≤ ch ∧ ch < 64 then {} else s.sampleAt (Fin.ofNat 256 ch) t
      let s := s.cpuM c fun x => { x with d := x.d.set f.rd m.value, p := setBitAt x.p f.p.val m.valid }
      .done (s.rkM n fun r => { r with stamp := m.stamp }) 1)

/-- R172: whether a staging destination is mapped. -/
def destOk (d : Nat) : Bool :=
  d < 0x30 || (0x40 ≤ d && d < 0x70) || (0x80 ≤ d && d < 0xB0) || (0xC0 ≤ d && d ≤ 0xC8) || d == 0xD0 ||
    (0x100 ≤ d && d < 0x130) || (0x200 ≤ d && d < 0x204) || (0x210 ≤ d && d < 0x214)

/-- R153: a value replaces an earlier one of its destination, or is staged last. -/
def stage (d : Nat) (v : Word) : List (Nat × Word) → List (Nat × Word)
  | [] => [(d, v)]
  | (e, w) :: t => if e = d then (d, v) :: t else (e, w) :: stage d v t

/-- R153: STG. -/
def execStg (c : Fin 6) (f : IForm) (s : State) : Result :=
  .next (s.instr c (extBytes f.ext) f.pred (isRk c && f.legal .d (if f.small.testBit 12 then .d else .zero) 13) (1 + extCycle f.ext) fun s _ =>
    match coreKind c with
    | .st _ => .stay
    | .rk n =>
      let x := s.cpu[c]
      let i := f.small
      let d := if i.testBit 12 then (i % 4096 + (x.gd f.ra).toNat) % 4096 else i % 4096
      let st := s.rk[n].staged
      if !destOk d then .exc 6 none false
      else if 128 ≤ st.length ∧ (st.all fun e => e.1 != d) then .exc 5 none false
      else .done (s.rkM n fun r => { r with staged := stage d (x.gd f.rd) st }) (1 + extCycle f.ext))

/-! ### The SYS group (R154, R155) -/

/-- R170: a TDONE that issues in the cycle of its task's deadline does not pass, but sets CARRY if SR.C is 1. -/
def State.tdoneCarry (s : State) (c : Fin 6) (f : RForm) : State :=
  let t := s.issueAt c
  match s.lateAt c t with
  | some (n, d) =>
    let x := s.cpu[c].loopEnd
    if s.canIssue c && d == t && f.legal .zero .zero .zero resZero && predTrue f.pred x.p && x.carry &&
        ((s.cpuM c fun _ => x).fetchFault c 4).isNone then (s.reachNow t).raise (Ev.SYSCFG_RK_FLAGS_CARRY n)
    else s
  | none => s

/-- R154: TDONE. -/
def execTdone (c : Fin 6) (f : RForm) (s : State) : Result :=
  .next ((s.tdoneCarry c f).issueR c f (isRk c && f.legal .zero .zero .zero resZero) 2 fun s t =>
    match coreKind c with
    | .rk n => .left (s.rkTdone n t)
    | .st _ => .stay)

/-- R154: BSWP. -/
def execBswp (c : Fin 6) (f : RForm) (s : State) : Result :=
  .next (s.issueR c f (isRk c && f.legal .zero .zero .zero resZero) 1 fun s _ =>
    match coreKind c with
    | .rk n => .done (s.swapRequest n) 1
    | .st _ => .stay)

/-- R155: NOP. -/
def execNop (c : Fin 6) (f : RForm) (s : State) : Result :=
  .next (s.regOp c f (f.legal .zero .zero .zero resZero) 1 fun x => x)

/-- R155: FENCE. -/
def execFence (c : Fin 6) (f : RForm) (s : State) : Result :=
  .next (s.issueR c f (f.legal .zero .zero .zero resZero) 1 fun s _ => if s.fenceOver c then .done s 1 else .wait s .fence)

/-- R155: the buffer that FENCE awaits is drained. -/
def execFenceDrainEnd (c : Fin 6) (s : State) : Result := .next (s.fenceEnd c)

/-- R155: BKPT: a debug halt after it where the debug port enables it, else the exception. -/
def execBkpt (c : Fin 6) (f : RForm) (s : State) : Result :=
  .next (s.issueR c f (f.legal .zero .zero .zero resZero) 1 fun s _ =>
    if s.cpu[c].bkptEn then .done (s.coreHaltNow c) 1 else .exc 7 none false)

/-- R155: CLRC. -/
def execClrc (c : Fin 6) (f : RForm) (s : State) : Result :=
  .next (s.regOp c f (f.legal .zero .zero .zero resZero) 1 fun x => { x with carry := false })

/-- A SYS instruction of the stewards. -/
def State.stInstr (s : State) (c : Fin 6) (f : RForm) (rb : Fk) (k : Nat) (g : State → Fin 2 → Nat → Eff) : State :=
  s.issueR c f (!isRk c && f.legal .zero .zero rb resZero) k fun s t =>
    match coreKind c with
    | .rk _ => .stay
    | .st n => g s n t

/-- R155: EI. -/
def execEi (c : Fin 6) (f : RForm) (s : State) : Result :=
  .next (s.stInstr c f .zero 1 fun s n _ => .done (s.stM n fun x => { x with estat := setBitAt x.estat 0 true }) 1)

/-- R155: DI; the instruction after it cannot be interrupted. -/
def execDi (c : Fin 6) (f : RForm) (s : State) : Result :=
  .next (s.stInstr c f .zero 1 fun s n _ =>
    .done (s.stM n fun x => { x with estat := setBitAt x.estat 0 false, shadow := true }) 1)

/-- R353: RETI ends both loops; the pc takes EPC, bits [1:0] ignored (R127, log entry 17). -/
def execReti (c : Fin 6) (f : RForm) (s : State) : Result :=
  .next (s.stInstr c f .zero 3 fun s n _ =>
    let e := s.st[n].estat.toNat
    let s := s.stM n fun x => { x with estat := BitVec.ofNat 32 (cut e 1 1 + e % 4 / 2 * 2 + 2 ^ 8 * cut e 12 4 + 2 ^ 12 * cut e 12 4) }
    .jump (s.cpuM c fun x => { x with loops := Vector.replicate 2 none }) (pcOf s.st[n].epc) 3)

/-- R353: a routed source is pending at a level below CURLVL. -/
def State.irqBelow (s : State) (n : Fin 2) : Option (Nat × Nat) :=
  (irqPending s n).filter fun p => p.2 < cut s.st[n].estat.toNat 8 4

/-- R353: WFI. -/
def execWfi (c : Fin 6) (f : RForm) (s : State) : Result :=
  .next (s.stInstr c f .zero 1 fun s n _ =>
    if (s.irqBelow n).isSome then .done s 1 else .left (s.stM n fun x => { x with wfi := true }))

/-- R155: TRAP, with the code RB. -/
def execTrap (c : Fin 6) (f : RForm) (s : State) : Result := .next (s.stInstr c f .d 3 fun _ _ _ => .trap f.rb)

/-! ### Interrupts (R352, R353) -/

/-- Whether a steward stands at an instruction boundary and runs. -/
def State.stReady (s : State) (n : Fin 2) : Bool :=
  let c := s.cpu[stCore n]
  c.wait.isNone && !c.halted && s.on (Fd.SYSCFG_ST_STATUS_RUN n) && !s.on (Fd.SYSCFG_ST_STATUS_DFAULT n) && !s.pmu.clocksOff

/-- R353: execution continues after the WFI. -/
def State.wfiEnd (s : State) (n : Fin 2) : State :=
  if s.st[n].wfi then
    (s.stM n fun x => { x with wfi := false }).cpuM (stCore n) fun x => x.retire 4 (max x.next s.now + s.cycle (stCore n))
  else s

/-- R478: a steward has entered the handler of source `src`, asserted since `since`: the first steward's latency to its first
instruction is a value of class 2. -/
def State.irqLatency (s : State) (n : Fin 2) (src since : Nat) : State :=
  if s.mon.entered.contains (src, since) then s
  else
    let s := s.monM fun m => { m with entered := (src, since) :: m.entered.filter fun e => e.1 != src }
    s.monPost 2 src (roundLatency ((s.cpu[stCore n].next : Int) - since)) s.tbl.count

/-- R352, R353: an interrupt is taken at an instruction boundary, after two cycles of arbitration (R355). -/
def State.interruptEntry (s : State) (n : Fin 2) : State :=
  let e := s.st[n].estat
  match s.irqBelow n with
  | none => s
  | some (src, lvl) =>
    if s.stReady n && e.getLsbD 0 && !e.getLsbD 2 && !s.st[n].shadow then
      let s := (s.wfiEnd n).cpuM (stCore n) Cpu.loopEnd
      let t := s.issueAt (stCore n) + 2 * s.cycle (stCore n)
      (s.stEnter n (2 + lvl) s.cpu[stCore n].pc (16 + 256 * src) (some lvl) t).irqLatency n src (irqSince s src)
    else s

/-- R352, R353: an NMI is taken whatever IE and CURLVL hold, but not while EXL = 1. -/
def State.nmiEntry (s : State) (n : Fin 2) : State :=
  if s.stReady n && s.st[n].nmi && !s.st[n].estat.getLsbD 2 then
    let s := (s.wfiEnd n).cpuM (stCore n) Cpu.loopEnd
    let s := s.stM n fun x => { x with nmi := false }
    s.stEnter n 1 s.cpu[stCore n].pc 17 none (s.issueAt (stCore n) + 2 * s.cycle (stCore n))
  else s

/-- R352. -/
def execInterruptEntry (n : Fin 2) (s : State) : Result := .next (s.interruptEntry n)
/-- R352. -/
def execNmiEntry (n : Fin 2) (s : State) : Result := .next (s.nmiEntry n)
/-- R353: a WFI ends; the handler is entered if IE is 1. -/
def execWfiWake (n : Fin 2) (s : State) : Result :=
  .next (if s.st[n].wfi && s.stReady n && (s.irqBelow n).isSome then (s.wfiEnd n).interruptEntry n else s)

/-! ### System registers (R128, R156, R351) -/

/-- R128: SR. -/
def State.srRead (s : State) (c : Fin 6) : Nat :=
  let x := s.cpu[c]
  let own := match coreKind c with
    | .rk n =>
      2 * s.get (Fd.SYSCFG_RK_STATUS_BANK n) + 4 * s.get (Fd.SYSCFG_RK_STATUS_SWPPEND n) +
        2 ^ 8 * ((s.rk[n].task.map (·.slot.val)).getD (s.get (Fd.SYSCFG_RK_STATUS_SLOT n)))
    | .st _ => 0
  x.carry.toNat + 8 * x.loops[(0 : Fin 2)].isSome.toNat + 16 * x.loops[(1 : Fin 2)].isSome.toNat + own

/-- R156: TCYC at time `t`: the cycles of the task, or those of the stewards since reset (log entry 18). -/
def State.tcyc (s : State) (c : Fin 6) (t : Nat) : Nat :=
  match coreKind c with
  | .rk n => ((s.rk[n].task.map fun k => (t - k.start) / 32).getD 0) % 2 ^ 32
  | .st _ => (s.stCycles + (t - s.stCyclesAt) / s.stCycleT) % 2 ^ 32

/-- R351: the steward system registers. -/
def State.stSysRead (s : State) (n : Fin 2) (i : Nat) : Option Word :=
  let x := s.st[n]
  match i with
  | 16 => some x.epc
  | 17 => some x.ecause
  | 18 => some x.eaddr
  | 19 => some x.estat
  | 20 => some x.vbase
  | 21 => some (match irqPending s n with | some (src, _) => BitVec.ofNat 32 src | none => 0x80)
  | 22 => some x.scratch0
  | 23 => some x.scratch1
  | 24 => some x.ccfg
  | 25 => some 0
  | _ => none

/-- R156: a system register at time `t`; none: the number is reserved on this core. -/
def State.sysRead (s : State) (c : Fin 6) (i t : Nat) : Option Word :=
  match i with
  | 0 => some (BitVec.ofNat 32 (s.srRead c))
  | 1 => some (s.cpu[c].lc[(0 : Fin 2)].setWidth 32)
  | 2 => some (s.cpu[c].lc[(1 : Fin 2)].setWidth 32)
  | 3 => some (match coreKind c with | .rk n => BitVec.ofNat 32 s.rk[n].stamp | .st _ => 0)
  | 4 => some (match coreKind c with | .rk n => BitVec.ofNat 32 (s.rk[n].stamp / 2 ^ 32) | .st _ => 0)
  | 5 => some (BitVec.ofNat 32 (s.tcyc c t))
  | 6 => some (BitVec.ofNat 32 c.val)
  | _ =>
    match coreKind c with
    | .rk _ => none
    | .st n => s.stSysRead n i

/-- R351: a write of a steward system register. -/
def State.stSysWrite (s : State) (n : Fin 2) (i : Nat) (v : Word) : Option State :=
  match i with
  | 16 => some (s.stM n fun x => { x with epc := v })
  | 17 | 18 | 21 => some s
  | 19 => some (s.stM n fun x => { x with estat := v &&& 0xFF07 })
  | 20 => some (s.stM n fun x => { x with vbase := v &&& 0xFFFFFF00 })
  | 22 => some (s.stM n fun x => { x with scratch0 := v })
  | 23 => some (s.stM n fun x => { x with scratch1 := v })
  | 24 => some (s.stM n fun x => { x with ccfg := v &&& 3 })
  | 25 => some (s.cmaintWrite n (v.setWidth 3))
  | _ => none

/-- R156: a write of a system register; none: the number is reserved on this core. -/
def State.sysWrite (s : State) (c : Fin 6) (i : Nat) (v : Word) : Option State :=
  match i with
  | 0 => some (s.cpuM c fun x => { x with carry := v.getLsbD 0 })
  | 1 => some (s.cpuM c fun x => { x with lc := x.lc.set 0 (v.setWidth 16) })
  | 2 => some (s.cpuM c fun x => { x with lc := x.lc.set 1 (v.setWidth 16) })
  | 3 | 4 | 5 | 6 => some s
  | _ =>
    match coreKind c with
    | .rk _ => none
    | .st n => s.stSysWrite n i v

/-- R133, R156: MFS; a reserved number raises ILLEGAL whatever the predicate. -/
def execMfs (c : Fin 6) (f : IForm) (s : State) : Result :=
  .next (s.instr c (extBytes f.ext) f.pred (f.legal .d .zero 6) (1 + extCycle f.ext) (fun s t =>
    match s.sysRead c f.small t with
    | some v => .done (s.cpuM c fun x => x.sd f.rd v) (1 + extCycle f.ext)
    | none => .exc 1 none false) fun s => (s.sysRead c f.small s.now).isSome)

/-- R133, R156: MTS; a reserved number raises ILLEGAL whatever the predicate. -/
def execMts (c : Fin 6) (f : IForm) (s : State) : Result :=
  .next (s.instr c (extBytes f.ext) f.pred (f.legal .d .zero 6) (1 + extCycle f.ext) (fun s _ =>
    match s.sysWrite c f.small (s.cpu[c].gd f.rd) with
    | some s => .done s (1 + extCycle f.ext)
    | none => .exc 1 none false) fun s => (s.sysWrite c f.small 0).isSome)

end Sys2Proof.Machine
end

