-- ==== Sys2Proof/Machine/Ports.lean ====
section
/-! DEFINITION. The crossbar's tags (R21–R24), the host port (R361, R362), the debug port and the test logic (R363, R505). -/
namespace Sys2Proof.Machine

/-! ### The crossbar (R21–R24) -/

/-- The bytes of an access. -/
def accBytes (a : Access) : Nat := 2 ^ a.size.val

/-- An access is performed at its target. -/
def State.perform (s : State) (a : Access) : (Bool × Nat) × State :=
  match a.write with
  | some v => let (ok, s) := s.busWrite a.addr.toNat (accBytes a) v.toNat; ((ok, 0), s)
  | none => s.busRead a.addr.toNat (accBytes a)

/-- R23: the reckoner at whose memory an access from outside waits. -/
def tcmWait (a : Access) : Option (Fin 4) :=
  match region a.addr.toNat with
  | .tcm n => if busOk a.addr.toNat (accBytes a) a.write.isSome then some n else none
  | _ => none

/-- A transaction's result. -/
def State.tagResult (s : State) (t : Fin 64) (r : Bool × Nat) : State :=
  s.xbarM fun x => { x with tags := x.tags.set t (x.tags[t].map fun e => { e with result := some r }) }

/-- R21: the tag that a row's next transaction takes. -/
def State.freeTag (s : State) (row : Nat) : Option (Fin 64) :=
  if s.tagFree row then
    (List.finRange 64).find? fun (t : Fin 64) =>
      (rowTags row).1 ≤ t.val && t.val < (rowTags row).1 + (rowTags row).2 && s.xbar.tags[t].isNone
  else none

/-- R21, R23: a transaction takes a tag and goes to its target. -/
def State.xbarIssue (s : State) (m : Master) (a : Access) (t : Fin 64) : State :=
  let s := (s.xbarM fun x => { x with tags := x.tags.set t (some ⟨m, a, none⟩) }).served (masterRow m) (masterChannel m)
  match tcmWait a with
  | some n => s.xbarM fun x => { x with tcm := x.tcm.set n (x.tcm[n] ++ [t]) }
  | none =>
    if isRemote a.addr.toNat then
      if busOk a.addr.toNat (accBytes a) a.write.isSome then s.remoteIssue (.tag t) a.addr.toNat (accBytes a) (a.write.map (·.toNat))
      else s.tagResult t (false, 0)
    else
      let (r, s) := s.perform a
      s.tagResult t r

/-- R23: a reckoner's own memory is not reached through the crossbar. -/
def ownAccess (m : Master) (a : Access) : Bool :=
  match m with
  | .reckoner n => ownTcm n a.addr.toNat
  | _ => false

/-- R21: a master asks for a transaction: it takes a tag, or the master stalls behind what it already waits for. -/
def State.xbarAsk (s : State) (m : Master) (a : Access) : State :=
  if ownAccess m a || s.pmu.clocksOff then s
  else
    let behind := s.xbar.stalled.any fun w => masterRow w.1 == masterRow m
    match s.freeTag (masterRow m) with
    | some t => if behind then s.xbarM fun x => { x with stalled := x.stalled ++ [(m, a)] } else s.xbarIssue m a t
    | none => s.xbarM fun x => { x with stalled := x.stalled ++ [(m, a)] }

/-- R22, R381: the waiting transaction served next: the oldest of the first master in turn that may take a tag. -/
def State.nextWaiting (s : State) : Option (Master × Access) :=
  let key (w : Master × Access) : Nat := s.grantKey (masterRow w.1) (masterChannel w.1)
  s.xbar.stalled.foldl (fun (b : Option (Master × Access)) (w : Master × Access) =>
    if (s.freeTag (masterRow w.1)).isNone then b
    else
      match b with
      | some v => if key w < key v then some w else some v
      | none => some w) none

/-- R22: the tags that are free go to what waits for one, in turn: a transaction at the crossbar, or a remote access. -/
def State.xbarGrant : Nat → State → State
  | 0, s => s
  | k + 1, s =>
    if s.nextStalled.isSome then (s.remoteGrant 1).xbarGrant k
    else
      match s.nextWaiting with
      | none => s
      | some (m, a) =>
        match s.freeTag (masterRow m) with
        | some t => ((s.xbarM fun x => { x with stalled := x.stalled.erase (m, a) }).xbarIssue m a t).xbarGrant k
        | none => s

/-- R21, R22: everything that waits for a tag is looked at. -/
def State.grantAll (s : State) : State :=
  let s := s.blockDrain.txKicks
  s.xbarGrant (s.xbar.stalled.length + s.stalledOps)

/-- R21, R22: a master's transaction is asked for, after those that wait already. -/
def State.xbarTransaction (s : State) (m : Master) (a : Access) : State := s.grantAll.xbarAsk m a

/-- R24, R379: a bus error ends a channel's descriptor with ERR_BUS; an idle channel has no descriptor to report it in. -/
def State.dmaBusError (s : State) (c : Fin 32) : State :=
  match s.dmaState c with
  | 0 => s
  | 1 => ((s.dmaLoad c (s.rdN (Reg.DMA_CH_DESC c))).dmaM c fun d => { d with status := 3 }).dmaGo c 4
  | 2 => (s.dmaM c fun d => { d with status := 3 }).dmaGo c 4
  | _ => s.dmaM c fun d => { d with status := if d.status = 0 then 3 else d.status }

/-- R24: a bus error is reported to its master: to a steward as a data abort, of the instruction that waits, or at its next
instruction boundary. A link receiver's goes out with the response. -/
def State.xbarError (s : State) (m : Master) (a : Access) : State :=
  match m with
  | .steward n =>
    let c := stCore n
    match s.cpu[c].wait with
    | some (.load ..) | some (.store ..) => s.accessBad c a.addr.toNat false (max s.now s.cpu[c].next)
    | _ => s.stM n fun x => { x with storeErr := x.storeErr ++ [(a.addr.toNat, false)] }
  | .reckoner n =>
    if a.write.isSome then s.rkM n fun r => { r with errors := r.errors ++ [(s.slotOf (rkCore n), s.now)] }
    else if s.cpu[rkCore n].wait.isSome then s.accessBad (rkCore n) a.addr.toNat false (rkUp (max s.now s.cpu[rkCore n].next))
    else s.rkAbort n 3 (s.rkNext n).2 (max (s.rkNext n).1 (rkUp s.now))
  | .dma c => s.dmaBusError c
  | .host => { s with host := { s.host with err := true } }
  | .debug => { s with dport := { s.dport with sticky := true } }
  | .link _ _ | .eth | .block | .scrub => s

/-- R24, R402: the response cell of a link receiver's transaction. -/
def State.xbarRespond (s : State) (m : Master) (a : Access) (r : Bool × Nat) : State :=
  match m with
  | .link l tag =>
    if (s.port l).discard ≠ 0 then s.portM l fun p => { p with discard := p.discard - 1 }
    else s.respond l (!r.1) (match a.write with
      | none => readResp tag.toNat r
      | some _ => writeResp a.addr.toNat r.1)
  | _ => s

/-- R21, R24: the last response beat: the tag is freed, a read's value is handed back, an error is reported, and waiting
masters are served. -/
def State.xbarComplete (s : State) (t : Fin 64) : State :=
  match s.xbar.tags[t] with
  | none => s
  | some e =>
    let fin (r : Bool × Nat) (s : State) : State :=
      let s := s.xbarM fun x => { x with tags := x.tags.set t none }
      let s := if e.acc.write.isNone then s.answer r.2 else s
      let s := (if r.1 then s else s.xbarError e.m e.acc).xbarRespond e.m e.acc r
      s.grantAll
    match e.result with
    | some r => fin r s
    | none =>
      if isRemote e.acc.addr.toNat then
        match s.remoteTake (windowLink e.acc.addr.toNat) (.tag t) with
        | some (r, s) => fin r s
        | none => s
      else s

/-- R21, R135: how far an access that waits at a reckoner's memory is from being served: reckoners' first, in round-robin
order, then block writes, then the rest. -/
def tcmRank (last : Fin 4) : Master → Nat
  | .reckoner m => (m.val + 3 - last.val) % 4
  | .block => 4
  | _ => 5

/-- R21, R23, R135: the access served next at a reckoner's memory: the oldest of the best rank. -/
def State.tcmNext (s : State) (n : Fin 4) : Option (Fin 64 × XTag) :=
  s.xbar.tcm[n].foldl (fun b t =>
    match s.xbar.tags[t], b with
    | some e, some v => if tcmRank s.xbar.tcmLast[n] e.m < tcmRank s.xbar.tcmLast[n] v.2.m then some (t, e) else b
    | some e, none => some (t, e)
    | none, b => b) none

/-- R23, R77: the access served next at a reckoner's memory is performed; it waits while the RK clock stands. -/
def State.tcmAccess (s : State) (n : Fin 4) : State :=
  match s.tcmNext n with
  | none => s
  | some (t, e) =>
    if !s.sysPllClk then s
    else
      let s := s.xbarM fun x =>
        { x with
          tcm := x.tcm.set n (x.tcm[n].erase t)
          tcmLast := match e.m with
            | .reckoner m => x.tcmLast.set n m
            | _ => x.tcmLast }
      let (r, s) := s.perform e.acc
      s.tagResult t r

/-- R21. -/
def execCrossbarTransaction (m : Master) (a : Access) (s : State) : Result := .next (s.xbarTransaction m a)
/-- R21, R24. -/
def execTransactionComplete (tag : Fin 64) (s : State) : Result := .next (s.xbarComplete tag)
/-- R23. -/
def execTcmExternalAccess (rk : Fin 4) (s : State) : Result := .next (s.tcmAccess rk)

/-! ### The host port (R361, R362) -/

/-- Replaces the host port. -/
def State.hostM (s : State) (f : HostPort → HostPort) : State := { s with host := f s.host }

/-- R362: the status byte. -/
def State.hostStatusByte (s : State) (rdy : Bool) : Nat :=
  rdy.toNat + 2 * s.host.err.toNat + 4 * s.host.ref.toNat + 8 * (!s.host.queue.isEmpty).toNat

/-- R361: words kept from an earlier Read are discarded; those still to come from a far device are dropped as they come. -/
def State.hostDiscard (s : State) : State :=
  match s.host.kept with
  | none => s
  | some k =>
    let late := (((List.range k.words.length).filter fun i => (k.words[i]?.getD none).isNone).map fun i => k.addr + 4 * i).filter isRemote
    s.hostM fun h => { h with kept := none, drop := h.drop ++ late }

/-- R21, R361: the words of a Read, from the first on: read at their targets, or asked of a far device; one that finds no tag is
read later. -/
def State.hostFetch : Nat → Nat → State → List (Option Word) × State
  | 0, _, s => ([], s)
  | n + 1, a, s =>
    let (w, s) : Option Word × State :=
      if isRemote a ∧ busOk a 4 false then (none, s.remoteIssue .hostRead a 4 none)
      else if !s.tagFree 12 then (none, s)
      else
        match s.busRead a 4 with
        | ((true, v), s) => (some (BitVec.ofNat 32 v), s)
        | ((false, _), s) => (some 0, s.hostM fun h => { h with err := true })
    let (ws, s) := State.hostFetch n ((a + 4) % 2 ^ 32) s
    (w :: ws, s)

/-- R361: the status byte and the words of a Read that is answered, with the extra words the host clocks. -/
def State.hostAnswer (s : State) (ws : List Word) (extra : Nat) : State :=
  let st := s.hostStatusByte true
  s.hostM fun h =>
    { h with err := h.err || extra != 0, out := BitVec.ofNat 32 st :: (ws ++ List.replicate extra 0) }

/-- R361: a Read whose words are not all held: the status byte alone. -/
def State.hostNotReady (s : State) : State := s.hostM fun h => { h with out := [BitVec.ofNat 32 (s.hostStatusByte false)] }

/-- R361: a Read frame. `inTime`: local words are held by the status phase. -/
def State.hostRead (s : State) (a : Nat) (count : Byte) (inTime : Bool) (extra : Nat) : State :=
  if !s.on Fd.SYSCFG_HOSTCTL_EN then s.hostM fun h => { h with out := [0] }
  else
    let n := count.toNat % 64 + 1
    match s.host.kept.filter fun k => count.toNat < 64 && k.addr == a && k.count == n with
    | some k =>
      if k.complete then (s.hostM fun h => { h with kept := none }).hostAnswer (k.words.map (·.getD 0)) extra else s.hostNotReady
    | none =>
      let s := s.hostDiscard
      if 64 ≤ count.toNat then (s.hostM fun h => { h with err := true }).hostAnswer (List.replicate n 0) extra
      else
        let (ws, s) := State.hostFetch n a s
        if inTime && ws.all (·.isSome) then s.hostAnswer (ws.map (·.getD 0)) extra
        else (s.hostM fun h => { h with kept := some ⟨a, n, ws, false⟩ }).hostNotReady

/-- R362: a Write frame: its words are queued, or it is refused whole. -/
def State.hostWrite (s : State) (a : Nat) (words : List Word) : State :=
  if !s.on Fd.SYSCFG_HOSTCTL_EN then s.hostM fun h => { h with out := [0] }
  else
    let s := s.hostDiscard.hostM fun h => { h with out := [] }
    if 32 - s.host.queue.length < words.length then s.hostM fun h => { h with ref := true }
    else
      let es := (List.range words.length).map fun i => ((a + 4 * i) % 2 ^ 32, words[i]?.getD 0, false)
      s.hostM fun h => { h with queue := h.queue ++ es }

/-- R361, R362: a Status frame. -/
def State.hostStatus (s : State) : State :=
  if !s.on Fd.SYSCFG_HOSTCTL_EN then s.hostM fun h => { h with out := [0, 0] }
  else
    let rdy := match s.host.kept with
      | some k => k.complete
      | none => true
    let st := s.hostStatusByte rdy
    let free := 32 - s.host.queue.length
    s.hostDiscard.hostM fun h => { h with err := false, ref := false, out := [BitVec.ofNat 32 st, BitVec.ofNat 32 free] }

/-- R361: words that nobody wants any more come from far devices. -/
def State.hostDrop (s : State) : List Nat → State
  | [] => s.hostM fun h => { h with drop := [] }
  | a :: t =>
    match s.remoteTake (windowLink a) .hostRead with
    | some (_, s) => s.hostDrop t
    | none => s.hostM fun h => { h with drop := a :: t }

/-- The words of a kept Read that have come from a far device, in order; one of this module that found no tag is read now. -/
def State.hostTake : Nat → List (Option Word) → State → List (Option Word) × State
  | _, [], s => ([], s)
  | a, some w :: t, s => let (r, s) := State.hostTake (a + 4) t s; (some w :: r, s)
  | a, none :: t, s =>
    if !isRemote a then
      if s.tagFree 12 then
        let ((ok, v), s) := s.busRead a 4
        let (r, s) := State.hostTake (a + 4) t (s.hostM fun h => { h with err := h.err || !ok })
        (some (BitVec.ofNat 32 v) :: r, s)
      else (none :: t, s)
    else
    match s.remoteTake (windowLink a) .hostRead with
    | some ((true, v), s) => let (r, s) := State.hostTake (a + 4) t s; (some (BitVec.ofNat 32 v) :: r, s)
    | some ((false, _), s) =>
      let (r, s) := State.hostTake (a + 4) t (s.hostM fun h => { h with err := true })
      (some 0 :: r, s)
    | none => (none :: t, s)

/-- R361: the port holds every declared word of the kept Read. -/
def State.hostReadComplete (s : State) : State :=
  let s := s.hostDrop s.host.drop
  match s.host.kept with
  | none => s
  | some k =>
    if s.host.drop.isEmpty then
      let (ws, s) := State.hostTake k.addr k.words s
      s.hostM fun h => { h with kept := some { k with words := ws, complete := ws.all (·.isSome) } }
    else s

/-- R362: the far writes in flight whose completion has come leave the queue, per link the oldest first. -/
def State.hostRetire (s : State) : State :=
  match s.host.queue.find? fun e => e.2.2 && ((s.port (windowLink e.1)).result .host).isSome with
  | some e =>
    match s.remoteTake (windowLink e.1) .host with
    | some ((ok, _), s) => s.hostM fun h => { h with queue := h.queue.erase e, err := h.err || !ok }
    | none => s
  | none => s

/-- The oldest queued write that has not been issued is marked as issued. -/
def markSent : List (Nat × Word × Bool) → List (Nat × Word × Bool)
  | [] => []
  | (a, w, true) :: t => (a, w, true) :: markSent t
  | (a, w, false) :: t => (a, w, true) :: t

/-- R21, R362: a completed far write leaves the queue, and the oldest write not issued yet is accepted at its target, or goes to
its link as one of up to four in flight; it stalls while no tag is free. -/
def State.hostDrain (s : State) : State :=
  let s := s.hostRetire
  match s.host.queue.find? fun e => !e.2.2 with
  | none => s
  | some (a, w, sent) =>
    if isRemote a ∧ busOk a 4 true then
      if s.host.queue.countP (·.2.2) < 4 then (s.hostM fun h => { h with queue := markSent h.queue }).remoteIssue .host a 4 (some w.toNat)
      else s
    else if !isRemote a && !s.tagFree 12 then s
    else
      let (ok, s) := s.busWrite a 4 w.toNat
      s.hostM fun h => { h with queue := h.queue.erase (a, w, sent), err := h.err || !ok }

/-- R361. -/
def execHostRead (addr : Word) (count : Byte) (inTime : Bool) (extra : BitVec 8) (s : State) : Result :=
  .next (s.hostRead addr.toNat count inTime extra.toNat)
/-- R362. -/
def execHostWrite (addr : Word) (words : List Word) (s : State) : Result := .next (s.hostWrite addr.toNat words)
/-- R361, R362. -/
def execHostStatus (s : State) : Result := .next s.hostStatus
/-- R361. -/
def execHostReadComplete (s : State) : Result := .next s.hostReadComplete

/-! ### The debug port (R363) -/

/-- Replaces the debug port. -/
def State.debugM (s : State) (f : DebugPort → DebugPort) : State := { s with dport := f s.dport }

/-- R437: an access while debug is closed is refused. -/
def State.debugIf (s : State) (f : State → State) : State :=
  if s.on Fd.SEC_STATUS_DBGOPEN then f s else s.debugM fun d => { d with sticky := true }

/-- R363: the debug port steps a halted core by one instruction. -/
def State.debugStep (s : State) (c : Fin 6) : State :=
  if s.cpu[c].halted then s.cpuM c fun x => { x with step := true } else s

/-- The value of a core's register; none: a reserved system register. -/
def State.coreRead (s : State) (c : Fin 6) (r : CoreReg) : Option (BitVec 72) :=
  let x := s.cpu[c]
  match r with
  | .d n => some (x.d[n].setWidth 72)
  | .a n => some (x.a[n].setWidth 72)
  | .w n => some x.w[n]
  | .p n => some (BitVec.ofNat 72 (x.p.getLsbD n.val).toNat)
  | .lc n => some (x.lc[n].setWidth 72)
  | .sys n => (s.sysRead c n.toNat s.now).map (·.setWidth 72)
  | .pc => some (x.pc.setWidth 72)
  | .bkpt => some (BitVec.ofNat 72 x.bkptEn.toNat)

/-- Writes a core's register; none: a reserved system register. -/
def State.coreWrite (s : State) (c : Fin 6) (r : CoreReg) (v : BitVec 72) : Option State :=
  match r with
  | .d n => some (s.cpuM c fun x => { x with d := x.d.set n (v.setWidth 32) })
  | .a n => some (s.cpuM c fun x => { x with a := x.a.set n (v.setWidth 32) })
  | .w n => some (s.cpuM c fun x => { x with w := x.w.set n v })
  | .p n => some (s.cpuM c fun x => { x with p := setBitAt x.p n.val (v.getLsbD 0) })
  | .lc n => some (s.cpuM c fun x => { x with lc := x.lc.set n (v.setWidth 16) })
  | .sys n => s.sysWrite c n.toNat (v.setWidth 32)
  | .pc => some (s.cpuM c fun x => { x with pc := pcOf (v.setWidth 32), ended := none })
  | .bkpt => some (s.cpuM c fun x => { x with bkptEn := v.getLsbD 0 })

/-- R363: the registers of a halted core; BKPT is enabled whether or not the core is halted. -/
def State.debugReg (s : State) (c : Fin 6) (r : CoreReg) (v : Option (BitVec 72)) : State :=
  let s := if s.cpu[c].wait.isNone then s.cpuM c Cpu.loopEnd else s
  let bad := s.debugM fun d => { d with sticky := true }
  if s.cpu[c].halted || r == .bkpt then
    match v with
    | some v => (s.coreWrite c r v).getD bad
    | none =>
      match s.coreRead c r with
      | some x => (s.debugM fun d => { d with dr := x }).answer x.toNat
      | none => bad
  else bad

/-- R363: the debug port's access to a far device on its link that this command asks for. -/
def LinkPort.debugOp (p : LinkPort) (a : Access) : Option RemoteOp :=
  p.ops.find? fun o => o.who == .debug && some o.far == farAddr a.addr.toNat && o.size == accBytes a && o.data == a.write.map (·.toNat)

/-- R363: the debug port's accesses to far devices that have not been taken. -/
def State.debugBusy (s : State) : Nat := ((List.finRange 4).map fun l => (s.port l).ops.countP fun o => o.who == .debug).sum

/-- R21, R363: the debug port accesses memory as a master, unless it stalls for a tag. An access to a far device is handed to the
link by the first such command, two of them at a time, and taken from it by a later command for the same access. -/
def State.debugMem (s : State) (a : Access) : State :=
  let fin (r : Bool × Nat) (s : State) : State :=
    let s := if a.write.isNone then (s.debugM fun d => { d with dr := BitVec.ofNat 72 r.2 }).answer r.2 else s
    if r.1 then s else s.debugM fun d => { d with sticky := true }
  if isRemote a.addr.toNat then
    let l := windowLink a.addr.toNat
    match (s.port l).debugOp a with
    | some o =>
      match o.stage with
      | .done ok v => fin (ok, v) (s.portM l fun p => { p with ops := p.ops.erase o })
      | _ => s
    | none =>
      if !busOk a.addr.toNat (accBytes a) a.write.isSome then fin (false, 0) s
      else if s.debugBusy < 2 then s.remoteIssue .debug a.addr.toNat (accBytes a) (a.write.map (·.toNat))
      else s
  else if s.tagFree 13 then
    let (r, s) := s.perform a
    fin r s
  else s

/-- R363. -/
def execDebugHalt (c : Fin 6) (s : State) : Result := .next (s.debugIf fun s => s.coreHalt c)
/-- R363. -/
def execDebugResume (c : Fin 6) (s : State) : Result := .next (s.debugIf fun s => s.coreResume c)
/-- R363. -/
def execDebugStep (c : Fin 6) (s : State) : Result := .next (s.debugIf fun s => s.debugStep c)
/-- R363. -/
def execDebugRegisterAccess (c : Fin 6) (r : CoreReg) (value : Option (BitVec 72)) (s : State) : Result :=
  .next (s.debugIf fun s => s.debugReg c r value)
/-- R363. -/
def execDebugMemoryAccess (a : Access) (s : State) : Result := .next (s.debugIf fun s => s.debugMem a)
/-- R363, R459. -/
def execDebugReset (s : State) : Result := .next (s.debugIf fun s => s.warning 4 0)

/-! ### The test logic (R505) -/

/-- R505: an instruction of the test logic: its code, what it does to the balls, whether the bypass register is selected. -/
def State.jtag (s : State) (code : BitVec 5) (pads : PadMode) (bypass : Bool) : State :=
  s.debugM fun d => { d with ir := code, pads := pads, bypass := bypass }

/-- R505: the identification code. -/
def idcode : BitVec 72 := 0x14810C93

/-- R505. -/
def execJtagExtest (captured : List Bool) (s : State) : Result :=
  .next ((s.jtag 0b00000 .scan false).debugM fun d => { d with captured := captured })
/-- R505. -/
def execJtagSamplePreload (captured cells : List Bool) (s : State) : Result :=
  .next ((s.jtag 0b00001 .normal false).debugM fun d => { d with captured := captured, cells := cells })
/-- R505. -/
def execJtagIdcode (s : State) : Result := .next ((s.jtag 0b00010 .normal false).debugM fun d => { d with dr := idcode })
/-- R505. -/
def execJtagClamp (s : State) : Result := .next (s.jtag 0b00100 .scan true)
/-- R505. -/
def execJtagHighz (s : State) : Result := .next (s.jtag 0b00101 .highz true)
/-- R437, R505: DEBUG is refused when debug is closed. -/
def execJtagDebug (s : State) : Result := .next ((s.jtag 0b01000 .normal false).debugIf fun s => s)
/-- R505: BYPASS, and every code that names no other instruction. -/
def execJtagBypass (code : BitVec 5) (s : State) : Result :=
  .next (if code = 0 ∨ code = 1 ∨ code = 2 ∨ code = 4 ∨ code = 5 ∨ code = 8 then s else s.jtag code .normal true)

end Sys2Proof.Machine
end

