-- ==== Sys2Proof/Machine/Dispatch.lean ====
section
/-! DEFINITION. The dispatch: one arm per command. -/
namespace Sys2Proof.Machine

/-- The effect of a command on everything but the queue. -/
def exec (i : Instr) (s : State) : Host.Outcome State Fault Refusal :=
  match i with
  | .registerWrite addr value => Sys2Proof.Machine.execRegisterWrite addr value s
  | .counterReadClear addr => Sys2Proof.Machine.execCounterReadClear addr s
  | .stampLoRead addr => Sys2Proof.Machine.execStampLoRead addr s
  | .crossbarTransaction m a => Sys2Proof.Machine.execCrossbarTransaction m a s
  | .transactionComplete tag => Sys2Proof.Machine.execTransactionComplete tag s
  | .tcmExternalAccess rk => Sys2Proof.Machine.execTcmExternalAccess rk s
  | .mramWriteDurable => Sys2Proof.Machine.execMramWriteDurable s
  | .wearLevelMove => Sys2Proof.Machine.execWearLevelMove s
  | .wearLevelMoveEnd => Sys2Proof.Machine.execWearLevelMoveEnd s
  | .addfracWrite value => Sys2Proof.Machine.execAddfracWrite value s
  | .stepApply => Sys2Proof.Machine.execStepApply s
  | .nowLoRead => Sys2Proof.Machine.execNowLoRead s
  | .rodArm n irq => Sys2Proof.Machine.execRodArm n irq s
  | .rodPeriodCommit n hi => Sys2Proof.Machine.execRodPeriodCommit n hi s
  | .rodFiring n => Sys2Proof.Machine.execRodFiring n s
  | .queuePush => Sys2Proof.Machine.execQueuePush s
  | .queueEntryFire => Sys2Proof.Machine.execQueueEntryFire s
  | .queueCancel handle => Sys2Proof.Machine.execQueueCancel handle s
  | .queueFlush => Sys2Proof.Machine.execQueueFlush s
  | .softwareLaunch swl => Sys2Proof.Machine.execSoftwareLaunch swl s
  | .trginEdge pin edge => Sys2Proof.Machine.execTrginEdge pin edge s
  | .trgoutLaunch j => Sys2Proof.Machine.execTrgoutLaunch j s
  | .trgoutPulseEnd j => Sys2Proof.Machine.execTrgoutPulseEnd j s
  | .forwardedEventFire l c => Sys2Proof.Machine.execForwardedEventFire l c s
  | .launchHoldResume => Sys2Proof.Machine.execLaunchHoldResume s
  | .relockSys => Sys2Proof.Machine.execRelockSys s
  | .relockSync => Sys2Proof.Machine.execRelockSync s
  | .pllLockComplete pll band => Sys2Proof.Machine.execPllLockComplete pll band s
  | .referenceLoss pll => Sys2Proof.Machine.execReferenceLoss pll s
  | .referenceReturn pll => Sys2Proof.Machine.execReferenceReturn pll s
  | .syncPllLossOfLock => Sys2Proof.Machine.execSyncPllLossOfLock s
  | .sysPllLossOfLock => Sys2Proof.Machine.execSysPllLossOfLock s
  | .pllUpdateGo => Sys2Proof.Machine.execPllUpdateGo s
  | .pllUpdateApply vck => Sys2Proof.Machine.execPllUpdateApply vck s
  | .mainResultIssue n bits => Sys2Proof.Machine.execMainResultIssue n bits s
  | .captureStrobe g => Sys2Proof.Machine.execCaptureStrobe g s
  | .overcurrentAssert n hi bits => Sys2Proof.Machine.execOvercurrentAssert n hi bits s
  | .overcurrentDeassert n hi bits => Sys2Proof.Machine.execOvercurrentDeassert n hi bits s
  | .clklossDetect missing => Sys2Proof.Machine.execClklossDetect missing s
  | .stuckDetect line => Sys2Proof.Machine.execStuckDetect line s
  | .manchesterViolation cell => Sys2Proof.Machine.execManchesterViolation cell s
  | .healthFaultEnd n absent => Sys2Proof.Machine.execHealthFaultEnd n absent s
  | .inputCfgWrite n value => Sys2Proof.Machine.execInputCfgWrite n value s
  | .groupCfgWrite g value => Sys2Proof.Machine.execGroupCfgWrite g value s
  | .acuSingle => Sys2Proof.Machine.execAcuSingle s
  | .acuListgo => Sys2Proof.Machine.execAcuListgo s
  | .acuListstop => Sys2Proof.Machine.execAcuListstop s
  | .acuCalzero => Sys2Proof.Machine.execAcuCalzero s
  | .acuCalfull => Sys2Proof.Machine.execAcuCalfull s
  | .acuUrgent byLaunch => Sys2Proof.Machine.execAcuUrgent byLaunch s
  | .acuCfgWrite value => Sys2Proof.Machine.execAcuCfgWrite value s
  | .acuListStep => Sys2Proof.Machine.execAcuListStep s
  | .acuConversionStart => Sys2Proof.Machine.execAcuConversionStart s
  | .acuResult bits => Sys2Proof.Machine.execAcuResult bits s
  | .acuNoclk => Sys2Proof.Machine.execAcuNoclk s
  | .acuCalEntryDurable => Sys2Proof.Machine.execAcuCalEntryDurable s
  | .acuCalLoadDone => Sys2Proof.Machine.execAcuCalLoadDone s
  | .add c f => Sys2Proof.Machine.execAdd c f s
  | .sub c f => Sys2Proof.Machine.execSub c f s
  | .adds c f => Sys2Proof.Machine.execAdds c f s
  | .subs c f => Sys2Proof.Machine.execSubs c f s
  | .andd c f => Sys2Proof.Machine.execAndd c f s
  | .orr c f => Sys2Proof.Machine.execOrr c f s
  | .xor c f => Sys2Proof.Machine.execXor c f s
  | .andn c f => Sys2Proof.Machine.execAndn c f s
  | .shl c f => Sys2Proof.Machine.execShl c f s
  | .shr c f => Sys2Proof.Machine.execShr c f s
  | .sra c f => Sys2Proof.Machine.execSra c f s
  | .shls c f => Sys2Proof.Machine.execShls c f s
  | .mul c f => Sys2Proof.Machine.execMul c f s
  | .mulh c f => Sys2Proof.Machine.execMulh c f s
  | .mulhu c f => Sys2Proof.Machine.execMulhu c f s
  | .mulq c f => Sys2Proof.Machine.execMulq c f s
  | .div c f => Sys2Proof.Machine.execDiv c f s
  | .divu c f => Sys2Proof.Machine.execDivu c f s
  | .min c f => Sys2Proof.Machine.execMin c f s
  | .max c f => Sys2Proof.Machine.execMax c f s
  | .minu c f => Sys2Proof.Machine.execMinu c f s
  | .maxu c f => Sys2Proof.Machine.execMaxu c f s
  | .abss c f => Sys2Proof.Machine.execAbss c f s
  | .negs c f => Sys2Proof.Machine.execNegs c f s
  | .clz c f => Sys2Proof.Machine.execClz c f s
  | .mov c f => Sys2Proof.Machine.execMov c f s
  | .sel c f => Sys2Proof.Machine.execSel c f s
  | .mda c f => Sys2Proof.Machine.execMda c f s
  | .mad c f => Sys2Proof.Machine.execMad c f s
  | .addar c f => Sys2Proof.Machine.execAddar c f s
  | .cmpeq c f => Sys2Proof.Machine.execCmpeq c f s
  | .cmpne c f => Sys2Proof.Machine.execCmpne c f s
  | .cmplt c f => Sys2Proof.Machine.execCmplt c f s
  | .cmple c f => Sys2Proof.Machine.execCmple c f s
  | .cmpltu c f => Sys2Proof.Machine.execCmpltu c f s
  | .cmpleu c f => Sys2Proof.Machine.execCmpleu c f s
  | .addi c f => Sys2Proof.Machine.execAddi c f s
  | .addsi c f => Sys2Proof.Machine.execAddsi c f s
  | .andi c f => Sys2Proof.Machine.execAndi c f s
  | .ori c f => Sys2Proof.Machine.execOri c f s
  | .xori c f => Sys2Proof.Machine.execXori c f s
  | .shli c f => Sys2Proof.Machine.execShli c f s
  | .shri c f => Sys2Proof.Machine.execShri c f s
  | .srai c f => Sys2Proof.Machine.execSrai c f s
  | .movi c f => Sys2Proof.Machine.execMovi c f s
  | .muli c f => Sys2Proof.Machine.execMuli c f s
  | .cmpeqi c f => Sys2Proof.Machine.execCmpeqi c f s
  | .cmplti c f => Sys2Proof.Machine.execCmplti c f s
  | .cmpltui c f => Sys2Proof.Machine.execCmpltui c f s
  | .mova c f => Sys2Proof.Machine.execMova c f s
  | .adda c f => Sys2Proof.Machine.execAdda c f s
  | .pand c f => Sys2Proof.Machine.execPand c f s
  | .por c f => Sys2Proof.Machine.execPor c f s
  | .pxor c f => Sys2Proof.Machine.execPxor c f s
  | .pandn c f => Sys2Proof.Machine.execPandn c f s
  | .pnot c f => Sys2Proof.Machine.execPnot c f s
  | .pset c f => Sys2Proof.Machine.execPset c f s
  | .movdp c f => Sys2Proof.Machine.execMovdp c f s
  | .movpd c f => Sys2Proof.Machine.execMovpd c f s
  | .ldB c f => Sys2Proof.Machine.execLdB c f s
  | .ldBu c f => Sys2Proof.Machine.execLdBu c f s
  | .ldH c f => Sys2Proof.Machine.execLdH c f s
  | .ldHu c f => Sys2Proof.Machine.execLdHu c f s
  | .ldW c f => Sys2Proof.Machine.execLdW c f s
  | .ldD c f => Sys2Proof.Machine.execLdD c f s
  | .lda c f => Sys2Proof.Machine.execLda c f s
  | .stB c f => Sys2Proof.Machine.execStB c f s
  | .stH c f => Sys2Proof.Machine.execStH c f s
  | .stW c f => Sys2Proof.Machine.execStW c f s
  | .stD c f => Sys2Proof.Machine.execStD c f s
  | .sta c f => Sys2Proof.Machine.execSta c f s
  | .nonlocalLoadDone c => Sys2Proof.Machine.execNonlocalLoadDone c s
  | .postedStoreAccept rk => Sys2Proof.Machine.execPostedStoreAccept rk s
  | .postedStoreBusError rk => Sys2Proof.Machine.execPostedStoreBusError rk s
  | .macd c f => Sys2Proof.Machine.execMacd c f s
  | .msud c f => Sys2Proof.Machine.execMsud c f s
  | .macc c f => Sys2Proof.Machine.execMacc c f s
  | .msuc c f => Sys2Proof.Machine.execMsuc c f s
  | .clrw c f => Sys2Proof.Machine.execClrw c f s
  | .movw c f => Sys2Proof.Machine.execMovw c f s
  | .addw c f => Sys2Proof.Machine.execAddw c f s
  | .subw c f => Sys2Proof.Machine.execSubw c f s
  | .negw c f => Sys2Proof.Machine.execNegw c f s
  | .movqw c f => Sys2Proof.Machine.execMovqw c f s
  | .rdwl c f => Sys2Proof.Machine.execRdwl c f s
  | .rdwh c f => Sys2Proof.Machine.execRdwh c f s
  | .rdwg c f => Sys2Proof.Machine.execRdwg c f s
  | .wrwl c f => Sys2Proof.Machine.execWrwl c f s
  | .wrwh c f => Sys2Proof.Machine.execWrwh c f s
  | .wrwg c f => Sys2Proof.Machine.execWrwg c f s
  | .macr c f => Sys2Proof.Machine.execMacr c f s
  | .msur c f => Sys2Proof.Machine.execMsur c f s
  | .extr c f => Sys2Proof.Machine.execExtr c f s
  | .br c f => Sys2Proof.Machine.execBr c f s
  | .call c f => Sys2Proof.Machine.execCall c f s
  | .jr c f => Sys2Proof.Machine.execJr c f s
  | .callr c f => Sys2Proof.Machine.execCallr c f s
  | .ret c f => Sys2Proof.Machine.execRet c f s
  | .loop c f => Sys2Proof.Machine.execLoop c f s
  | .loopBodyEnd c => Sys2Proof.Machine.execLoopBodyEnd c s
  | .smp c f => Sys2Proof.Machine.execSmp c f s
  | .stg c f => Sys2Proof.Machine.execStg c f s
  | .tdone c f => Sys2Proof.Machine.execTdone c f s
  | .bswp c f => Sys2Proof.Machine.execBswp c f s
  | .nop c f => Sys2Proof.Machine.execNop c f s
  | .fence c f => Sys2Proof.Machine.execFence c f s
  | .fenceDrainEnd c => Sys2Proof.Machine.execFenceDrainEnd c s
  | .bkpt c f => Sys2Proof.Machine.execBkpt c f s
  | .clrc c f => Sys2Proof.Machine.execClrc c f s
  | .endl c f => Sys2Proof.Machine.execEndl c f s
  | .ei c f => Sys2Proof.Machine.execEi c f s
  | .di c f => Sys2Proof.Machine.execDi c f s
  | .reti c f => Sys2Proof.Machine.execReti c f s
  | .wfi c f => Sys2Proof.Machine.execWfi c f s
  | .wfiWake n => Sys2Proof.Machine.execWfiWake n s
  | .trap c f => Sys2Proof.Machine.execTrap c f s
  | .mfs c f => Sys2Proof.Machine.execMfs c f s
  | .mts c f => Sys2Proof.Machine.execMts c f s
  | .swap c f => Sys2Proof.Machine.execSwap c f s
  | .aadd c f => Sys2Proof.Machine.execAadd c f s
  | .ccln c f => Sys2Proof.Machine.execCcln c f s
  | .cinv c f => Sys2Proof.Machine.execCinv c f s
  | .cci c f => Sys2Proof.Machine.execCci c f s
  | .icinv c f => Sys2Proof.Machine.execIcinv c f s
  | .reckonerLaunch n k => Sys2Proof.Machine.execReckonerLaunch n k s
  | .taskDispatch n => Sys2Proof.Machine.execTaskDispatch n s
  | .taskEndRelease n => Sys2Proof.Machine.execTaskEndRelease n s
  | .releaseLanding rks sys => Sys2Proof.Machine.execReleaseLanding rks sys s
  | .deadlineMiss n => Sys2Proof.Machine.execDeadlineMiss n s
  | .reckonerEnableWrite n en => Sys2Proof.Machine.execReckonerEnableWrite n en s
  | .abortnow n => Sys2Proof.Machine.execAbortnow n s
  | .bankSwapRequest n => Sys2Proof.Machine.execBankSwapRequest n s
  | .bankSwapCancel n => Sys2Proof.Machine.execBankSwapCancel n s
  | .carrierZero c => Sys2Proof.Machine.execCarrierZero c s
  | .carrierPeak c => Sys2Proof.Machine.execCarrierPeak c s
  | .carrierRestart c => Sys2Proof.Machine.execCarrierRestart c s
  | .pwmRestartWrite mask => Sys2Proof.Machine.execPwmRestartWrite mask s
  | .carrierCfgWrite c value => Sys2Proof.Machine.execCarrierCfgWrite c value s
  | .loadallWrite value => Sys2Proof.Machine.execLoadallWrite value s
  | .carrierLoadallLaunch c => Sys2Proof.Machine.execCarrierLoadallLaunch c s
  | .loadcnclWrite mask => Sys2Proof.Machine.execLoadcnclWrite mask s
  | .shadowWriteLand shadow value sameCycle => Sys2Proof.Machine.execShadowWriteLand shadow value sameCycle s
  | .refEdge n => Sys2Proof.Machine.execRefEdge n s
  | .deadTimeEnd n => Sys2Proof.Machine.execDeadTimeEnd n s
  | .legOvrWrite n value => Sys2Proof.Machine.execLegOvrWrite n value s
  | .legCfgWrite n value => Sys2Proof.Machine.execLegCfgWrite n value s
  | .forceEventAssert e => Sys2Proof.Machine.execForceEventAssert e s
  | .fltinAssert k => Sys2Proof.Machine.execFltinAssert k s
  | .forceSafeOn n => Sys2Proof.Machine.execForceSafeOn n s
  | .forceDomainClear k => Sys2Proof.Machine.execForceDomainClear k s
  | .pwmFreeze => Sys2Proof.Machine.execPwmFreeze s
  | .pwmFreezeEnd => Sys2Proof.Machine.execPwmFreezeEnd s
  | .maxonGuardTrip n => Sys2Proof.Machine.execMaxonGuardTrip n s
  | .delayLineCalibration n spans => Sys2Proof.Machine.execDelayLineCalibration n spans s
  | .driveCodeLand n value sameCycle => Sys2Proof.Machine.execDriveCodeLand n value sameCycle s
  | .dslFrameSend k => Sys2Proof.Machine.execDslFrameSend k s
  | .dslRefreshFrame k => Sys2Proof.Machine.execDslRefreshFrame k s
  | .driveGroupCfgWrite k value => Sys2Proof.Machine.execDriveGroupCfgWrite k value s
  | .primingBurstEnd k => Sys2Proof.Machine.execPrimingBurstEnd k s
  | .bootstrapRefresh n => Sys2Proof.Machine.execBootstrapRefresh n s
  | .driverFaultReport k legs => Sys2Proof.Machine.execDriverFaultReport k legs s
  | .driverFaultClassify leg width => Sys2Proof.Machine.execDriverFaultClassify leg width s
  | .retryWaitEnd k fltn => Sys2Proof.Machine.execRetryWaitEnd k fltn s
  | .tryWindowExpire k => Sys2Proof.Machine.execTryWindowExpire k s
  | .driveClear k fltn => Sys2Proof.Machine.execDriveClear k fltn s
  | .gridUpdateIssue g q => Sys2Proof.Machine.execGridUpdateIssue g q s
  | .seqInputSample g j bits => Sys2Proof.Machine.execSeqInputSample g j bits s
  | .stageLatch k => Sys2Proof.Machine.execStageLatch k s
  | .excursionReturnExpire c => Sys2Proof.Machine.execExcursionReturnExpire c s
  | .curveTimeExpire c => Sys2Proof.Machine.execCurveTimeExpire c s
  | .protUpdateTimeout => Sys2Proof.Machine.execProtUpdateTimeout s
  | .protSwtrip => Sys2Proof.Machine.execProtSwtrip s
  | .tripLatchClear mask => Sys2Proof.Machine.execTripLatchClear mask s
  | .dcArm => Sys2Proof.Machine.execDcArm s
  | .dcSoftwareTrigger => Sys2Proof.Machine.execDcSoftwareTrigger s
  | .dcFrame => Sys2Proof.Machine.execDcFrame s
  | .dcPostComplete => Sys2Proof.Machine.execDcPostComplete s
  | .dcCopyComplete => Sys2Proof.Machine.execDcCopyComplete s
  | .dcCfgWrite k reg value => Sys2Proof.Machine.execDcCfgWrite k reg value s
  | .sweepGo k => Sys2Proof.Machine.execSweepGo k s
  | .sweepStop k => Sys2Proof.Machine.execSweepStop k s
  | .sweepStepStart k => Sys2Proof.Machine.execSweepStepStart k s
  | .sweepEntryWrite k => Sys2Proof.Machine.execSweepEntryWrite k s
  | .sweepNoZeroTimeout k => Sys2Proof.Machine.execSweepNoZeroTimeout k s
  | .nightEnter k => Sys2Proof.Machine.execNightEnter k s
  | .wakeDetect k => Sys2Proof.Machine.execWakeDetect k s
  | .probeChipStep => Sys2Proof.Machine.execProbeChipStep s
  | .probeStepMiss => Sys2Proof.Machine.execProbeStepMiss s
  | .probePeriodResult => Sys2Proof.Machine.execProbePeriodResult s
  | .islClear => Sys2Proof.Machine.execIslClear s
  | .meterSample x => Sys2Proof.Machine.execMeterSample x s
  | .meterWindowEnd p x => Sys2Proof.Machine.execMeterWindowEnd p x s
  | .meterSnapshot p byLaunch => Sys2Proof.Machine.execMeterSnapshot p byLaunch s
  | .meterSnapshotWritten p => Sys2Proof.Machine.execMeterSnapshotWritten p s
  | .meterPulseStart q => Sys2Proof.Machine.execMeterPulseStart q s
  | .meterPulseEnd q => Sys2Proof.Machine.execMeterPulseEnd q s
  | .meterPeriodicSave => Sys2Proof.Machine.execMeterPeriodicSave s
  | .meterSaveDone ok => Sys2Proof.Machine.execMeterSaveDone ok s
  | .meterTsgWrite value => Sys2Proof.Machine.execMeterTsgWrite value s
  | .safeInputChange input chB change => Sys2Proof.Machine.execSafeInputChange input chB change s
  | .testPulseStart onB rawA rawB => Sys2Proof.Machine.execTestPulseStart onB rawA rawB s
  | .testPulseCheck onB rawA rawB => Sys2Proof.Machine.execTestPulseCheck onB rawA rawB s
  | .safeDiscrepancy k => Sys2Proof.Machine.execSafeDiscrepancy k s
  | .safeReadbackFault j chB => Sys2Proof.Machine.execSafeReadbackFault j chB s
  | .safeLogicCompareFault => Sys2Proof.Machine.execSafeLogicCompareFault s
  | .safeOscFault => Sys2Proof.Machine.execSafeOscFault s
  | .safePwmClockLoss => Sys2Proof.Machine.execSafePwmClockLoss s
  | .safePwmClockReturn => Sys2Proof.Machine.execSafePwmClockReturn s
  | .safeSupplyDemand => Sys2Proof.Machine.execSafeSupplyDemand s
  | .safeLockoutRecord => Sys2Proof.Machine.execSafeLockoutRecord s
  | .safeResetPulseStart => Sys2Proof.Machine.execSafeResetPulseStart s
  | .safeResetProcedure widthUs selfTestOk => Sys2Proof.Machine.execSafeResetProcedure widthUs selfTestOk s
  | .safeResetDone => Sys2Proof.Machine.execSafeResetDone s
  | .safeSelftestDone pass => Sys2Proof.Machine.execSafeSelftestDone pass s
  | .interruptEntry n => Sys2Proof.Machine.execInterruptEntry n s
  | .nmiEntry n => Sys2Proof.Machine.execNmiEntry n s
  | .cmaintIcinv n => Sys2Proof.Machine.execCmaintIcinv n s
  | .cmaintClean n => Sys2Proof.Machine.execCmaintClean n s
  | .cmaintDcinv n => Sys2Proof.Machine.execCmaintDcinv n s
  | .cacheMaintDone n => Sys2Proof.Machine.execCacheMaintDone n s
  | .cacheMissFill n => Sys2Proof.Machine.execCacheMissFill n s
  | .writeBufferAccept n => Sys2Proof.Machine.execWriteBufferAccept n s
  | .remoteStoreError n => Sys2Proof.Machine.execRemoteStoreError n s
  | .watchdogEnable k => Sys2Proof.Machine.execWatchdogEnable k s
  | .watchdogKick k key => Sys2Proof.Machine.execWatchdogKick k key s
  | .watchdogStage1 k => Sys2Proof.Machine.execWatchdogStage1 k s
  | .watchdogStage2 k => Sys2Proof.Machine.execWatchdogStage2 k s
  | .hostRead addr count inTime extra => Sys2Proof.Machine.execHostRead addr count inTime extra s
  | .hostWrite addr words => Sys2Proof.Machine.execHostWrite addr words s
  | .hostStatus => Sys2Proof.Machine.execHostStatus s
  | .hostReadComplete => Sys2Proof.Machine.execHostReadComplete s
  | .debugHalt c => Sys2Proof.Machine.execDebugHalt c s
  | .debugResume c => Sys2Proof.Machine.execDebugResume c s
  | .debugStep c => Sys2Proof.Machine.execDebugStep c s
  | .debugRegisterAccess c r value => Sys2Proof.Machine.execDebugRegisterAccess c r value s
  | .debugMemoryAccess a => Sys2Proof.Machine.execDebugMemoryAccess a s
  | .debugReset => Sys2Proof.Machine.execDebugReset s
  | .jtagExtest captured => Sys2Proof.Machine.execJtagExtest captured s
  | .jtagSamplePreload captured cells => Sys2Proof.Machine.execJtagSamplePreload captured cells s
  | .jtagIdcode => Sys2Proof.Machine.execJtagIdcode s
  | .jtagClamp => Sys2Proof.Machine.execJtagClamp s
  | .jtagHighz => Sys2Proof.Machine.execJtagHighz s
  | .jtagDebug => Sys2Proof.Machine.execJtagDebug s
  | .jtagBypass code => Sys2Proof.Machine.execJtagBypass code s
  | .dmaStart ch => Sys2Proof.Machine.execDmaStart ch s
  | .dmaStop ch => Sys2Proof.Machine.execDmaStop ch s
  | .dmaResume ch => Sys2Proof.Machine.execDmaResume ch s
  | .dmaDescWrite ch value => Sys2Proof.Machine.execDmaDescWrite ch value s
  | .dmaSwtrig ch => Sys2Proof.Machine.execDmaSwtrig ch s
  | .dmaLaunchTrigger ch => Sys2Proof.Machine.execDmaLaunchTrigger ch s
  | .dmaDescriptorFetch ch => Sys2Proof.Machine.execDmaDescriptorFetch ch s
  | .dmaBlockEnd ch => Sys2Proof.Machine.execDmaBlockEnd ch s
  | .dmaDescriptorComplete ch moved => Sys2Proof.Machine.execDmaDescriptorComplete ch moved s
  | .linkEnableWrite l value => Sys2Proof.Machine.execLinkEnableWrite l value s
  | .linkTrain l => Sys2Proof.Machine.execLinkTrain l s
  | .linkTrainingComplete l lane0 lane1 => Sys2Proof.Machine.execLinkTrainingComplete l lane0 lane1 s
  | .linkTrainingFail l clkOk => Sys2Proof.Machine.execLinkTrainingFail l clkOk s
  | .linkAutoRetrain l => Sys2Proof.Machine.execLinkAutoRetrain l s
  | .cellIdle l cell => Sys2Proof.Machine.execCellIdle l cell s
  | .cellRdreq l cell => Sys2Proof.Machine.execCellRdreq l cell s
  | .cellRdresp l cell => Sys2Proof.Machine.execCellRdresp l cell s
  | .cellWr l cell => Sys2Proof.Machine.execCellWr l cell s
  | .cellWrcmp l cell => Sys2Proof.Machine.execCellWrcmp l cell s
  | .cellEvent l cell => Sys2Proof.Machine.execCellEvent l cell s
  | .cellStream l lane0 lane1 => Sys2Proof.Machine.execCellStream l lane0 lane1 s
  | .cellTbxReq l cell => Sys2Proof.Machine.execCellTbxReq l cell s
  | .cellTbxResp l cell => Sys2Proof.Machine.execCellTbxResp l cell s
  | .cellTbxFin l cell => Sys2Proof.Machine.execCellTbxFin l cell s
  | .cellMarkRequest l cell => Sys2Proof.Machine.execCellMarkRequest l cell s
  | .cellMarkEcho l cell rtt => Sys2Proof.Machine.execCellMarkEcho l cell rtt s
  | .cellCrcClassError l cell => Sys2Proof.Machine.execCellCrcClassError l cell s
  | .nakHoldoffExpire l => Sys2Proof.Machine.execNakHoldoffExpire l s
  | .replayTimeout l => Sys2Proof.Machine.execReplayTimeout l s
  | .remoteAccessSend l => Sys2Proof.Machine.execRemoteAccessSend l s
  | .timebaseExchangeRequest l => Sys2Proof.Machine.execTimebaseExchangeRequest l s
  | .streamRawSend l c g lines => Sys2Proof.Machine.execStreamRawSend l c g lines s
  | .linkClockLoss l => Sys2Proof.Machine.execLinkClockLoss l s
  | .linkStuffViolation line => Sys2Proof.Machine.execLinkStuffViolation line s
  | .prbsInject l lanes => Sys2Proof.Machine.execPrbsInject l lanes s
  | .prbsCfgWrite l value => Sys2Proof.Machine.execPrbsCfgWrite l value s
  | .ethFrameReceive p frame bad residence => Sys2Proof.Machine.execEthFrameReceive p frame bad residence s
  | .ethTxKick p => Sys2Proof.Machine.execEthTxKick p s
  | .ethTxComplete p => Sys2Proof.Machine.execEthTxComplete p s
  | .ethCfgWrite value => Sys2Proof.Machine.execEthCfgWrite value s
  | .dupEntryAge => Sys2Proof.Machine.execDupEntryAge s
  | .gooseTalExpire k => Sys2Proof.Machine.execGooseTalExpire k s
  | .ptpResidenceTimeout => Sys2Proof.Machine.execPtpResidenceTimeout s
  | .svPublishRequest n => Sys2Proof.Machine.execSvPublishRequest n s
  | .svFrameSend n => Sys2Proof.Machine.execSvFrameSend n s
  | .bootRomSequence otpOk => Sys2Proof.Machine.execBootRomSequence otpOk s
  | .st1Entry addr => Sys2Proof.Machine.execSt1Entry addr s
  | .secHash => Sys2Proof.Machine.execSecHash s
  | .secVerify => Sys2Proof.Machine.execSecVerify s
  | .secAttest => Sys2Proof.Machine.execSecAttest s
  | .secAppsign => Sys2Proof.Machine.execSecAppsign s
  | .secRolladv => Sys2Proof.Machine.execSecRolladv s
  | .secOtpowner => Sys2Proof.Machine.execSecOtpowner s
  | .secReboot => Sys2Proof.Machine.execSecReboot s
  | .secDbgclose => Sys2Proof.Machine.execSecDbgclose s
  | .secCommandDone => Sys2Proof.Machine.execSecCommandDone s
  | .trngRead healthy => Sys2Proof.Machine.execTrngRead healthy s
  | .consentOpen set => Sys2Proof.Machine.execConsentOpen set s
  | .consentStagingWrite k value => Sys2Proof.Machine.execConsentStagingWrite k value s
  | .consentRequest => Sys2Proof.Machine.execConsentRequest s
  | .consentDigestDone => Sys2Proof.Machine.execConsentDigestDone s
  | .consentApprove key => Sys2Proof.Machine.execConsentApprove key s
  | .consentCheckDone => Sys2Proof.Machine.execConsentCheckDone s
  | .consentCancel => Sys2Proof.Machine.execConsentCancel s
  | .physicalConsent => Sys2Proof.Machine.execPhysicalConsent s
  | .consentWindowTimeout => Sys2Proof.Machine.execConsentWindowTimeout s
  | .consentLockEnd => Sys2Proof.Machine.execConsentLockEnd s
  | .consentSwitchover => Sys2Proof.Machine.execConsentSwitchover s
  | .consentCounterDurable => Sys2Proof.Machine.execConsentCounterDurable s
  | .consentRestoreDone => Sys2Proof.Machine.execConsentRestoreDone s
  | .powerUp vinFell vio => Sys2Proof.Machine.execPowerUp vinFell vio s
  | .resetRelease => Sys2Proof.Machine.execResetRelease s
  | .holdupReady mv => Sys2Proof.Machine.execHoldupReady mv s
  | .vioFault b => Sys2Proof.Machine.execVioFault b s
  | .powerFailWarning rail => Sys2Proof.Machine.execPowerFailWarning rail s
  | .stewardWindowEnd => Sys2Proof.Machine.execStewardWindowEnd s
  | .saveEngineStart => Sys2Proof.Machine.execSaveEngineStart s
  | .saveCaptureInstant => Sys2Proof.Machine.execSaveCaptureInstant s
  | .saveComplete => Sys2Proof.Machine.execSaveComplete s
  | .pmuSleep => Sys2Proof.Machine.execPmuSleep s
  | .sentinelStart fromVin => Sys2Proof.Machine.execSentinelStart fromVin s
  | .sentinelStop => Sys2Proof.Machine.execSentinelStop s
  | .sentinelVinLoss => Sys2Proof.Machine.execSentinelVinLoss s
  | .sentinelVinReturn => Sys2Proof.Machine.execSentinelVinReturn s
  | .longDarkness lstore sstore vbat => Sys2Proof.Machine.execLongDarkness lstore sstore vbat s
  | .sentinelResume lstore => Sys2Proof.Machine.execSentinelResume lstore s
  | .ledgerBurst sstore words => Sys2Proof.Machine.execLedgerBurst sstore words s
  | .ledgerCheckpoint => Sys2Proof.Machine.execLedgerCheckpoint s
  | .tamperEvent input => Sys2Proof.Machine.execTamperEvent input s
  | .wakeInput => Sys2Proof.Machine.execWakeInput s
  | .rtcAlarm => Sys2Proof.Machine.execRtcAlarm s
  | .rtcset => Sys2Proof.Machine.execRtcset s
  | .hv1Sample mv => Sys2Proof.Machine.execHv1Sample mv s
  | .monitorValue k cls => Sys2Proof.Machine.execMonitorValue k cls s
  | .monitorWindowLaunch w => Sys2Proof.Machine.execMonitorWindowLaunch w s
  | .monitorWindowClose w => Sys2Proof.Machine.execMonitorWindowClose w s
  | .monitorClear mask => Sys2Proof.Machine.execMonitorClear mask s
  | .monitorMark k => Sys2Proof.Machine.execMonitorMark k s
  | .telemetrySample t => Sys2Proof.Machine.execTelemetrySample t s
  | .sramScrub find => Sys2Proof.Machine.execSramScrub find s
  | .gpioSet mask => Sys2Proof.Machine.execGpioSet mask s
  | .gpioClr mask => Sys2Proof.Machine.execGpioClr mask s
  | .testPulseEnd onB => Sys2Proof.Machine.execTestPulseEnd onB s
  | .vioReturn b => Sys2Proof.Machine.execVioReturn b s
  | .holdupMeasure cap esr => Sys2Proof.Machine.execHoldupMeasure cap esr s
  | .fltinDeassert k => Sys2Proof.Machine.execFltinDeassert k s
  | .rgmiiInbandStatus p link speed => Sys2Proof.Machine.execRgmiiInbandStatus p link speed s
  | .tamperInputInactive input => Sys2Proof.Machine.execTamperInputInactive input s

end Sys2Proof.Machine
end

