-- ==== Sys2Proof/Machine/Fetch.lean ====
section
/-! DEFINITION. The instruction that a core's memory holds at its pc, and its execution (R129–R132, R145, R344). -/
namespace Sys2Proof.Machine

/-- R145, R344, R345: the word that a core fetches at an address: a steward's comes from its instruction cache, if that is enabled
and holds the line. -/
def State.fetchWord (s : State) (c : Fin 6) (a : Nat) : Word :=
  let mem := BitVec.ofNat 32 (s.memRd a 4)
  match coreKind c with
  | .rk _ => mem
  | .st n =>
    match s.st[n].icache.find a with
    | some l => if s.st[n].ccfg.getLsbD 0 then BitVec.ofNat 32 (lineGet l.data a 4) else mem
    | none => mem

/-- The word at the pc of a core, a loop's turn taken, and the word after it. -/
def State.nextWords (s : State) (c : Fin 6) : Word × Word :=
  let pc := s.cpu[c].nextPc.toNat
  (s.fetchWord c pc, s.fetchWord c ((pc + 4) % 2 ^ 32))

/-- R132: a word with a reserved OP or FN raises ILLEGAL. -/
def State.reservedWord (s : State) (c : Fin 6) : State := s.instr c 4 0 false 1 fun _ _ => .stay

/-- R131, R132: core `c` executes the instruction word `w`, `x` being the word after it. -/
def State.runWords (s : State) (c : Fin 6) (w x : Word) : Result :=
  match decodeInsn c w x with
  | some i => exec i s
  | none => .next (s.reservedWord c)

/-- Core `c` executes the instruction at its pc. -/
def State.runNext (s : State) (c : Fin 6) : Result := s.runWords c (s.nextWords c).1 (s.nextWords c).2

/-- Core `c` executes the instruction at its pc if it can issue by now. -/
def State.runCore (s : State) (c : Fin 6) : State :=
  if s.canIssue c && decide (s.issueAt c ≤ s.now) then
    match s.runNext c with
    | .next t => t
    | _ => s
  else s

/-- The instructions that the cores issue in a PWM cycle: a steward's two cycles of 1.25 ns bring up to two (R343). -/
def State.runCores (s : State) : State :=
  let all (s : State) := (List.finRange 6).foldl (fun s c => s.runCore c) s
  all (all s)

/-- What passes without a command (log entry 4): one PWM cycle, the cell slots of the links, up to four of the host port's
queued writes (R362), and the instructions of the cores. -/
def State.idle (s : State) : State :=
  s.advance 1 |>.sentSettle |>.linkTick |>.grantAll |>.hostDrain |>.hostDrain |>.hostDrain |>.hostDrain |>.runCores

end Sys2Proof.Machine
end

