-- ==== Sys2Proof/WellFormed.lean ====
section
/-! DEFINITION. Which commands are well-formed: the instruction words that R132 calls legal for the core that runs them, and
the operands that a sender can give. -/
namespace Sys2Proof
open Sys2Proof.Machine

/-- The cores 0–3 are the reckoners, 4 and 5 the stewards. -/
def isReckoner (c : Fin 6) : Bool := c.val < 4

/-- R129–R132, R362: whether a command is well-formed. The legality of an instruction word is that of its own form; an
ill-formed word is a command all the same, which raises ILLEGAL. -/
def Instr.wf : Instr → Bool
  | .registerWrite _ _ => true
  | .counterReadClear _ => true
  | .stampLoRead _ => true
  | .crossbarTransaction _ _ => true
  | .transactionComplete _ => true
  | .tcmExternalAccess _ => true
  | .mramWriteDurable => true
  | .wearLevelMove => true
  | .wearLevelMoveEnd => true
  | .addfracWrite _ => true
  | .stepApply => true
  | .nowLoRead => true
  | .rodArm _ _ => true
  | .rodPeriodCommit _ _ => true
  | .rodFiring _ => true
  | .queuePush => true
  | .queueEntryFire => true
  | .queueCancel _ => true
  | .queueFlush => true
  | .softwareLaunch _ => true
  | .trginEdge _ _ => true
  | .trgoutLaunch _ => true
  | .trgoutPulseEnd _ => true
  | .forwardedEventFire _ _ => true
  | .launchHoldResume => true
  | .relockSys => true
  | .relockSync => true
  | .pllLockComplete _ _ => true
  | .referenceLoss _ => true
  | .referenceReturn _ => true
  | .syncPllLossOfLock => true
  | .sysPllLossOfLock => true
  | .pllUpdateGo => true
  | .pllUpdateApply _ => true
  | .mainResultIssue _ _ => true
  | .captureStrobe _ => true
  | .overcurrentAssert _ _ _ => true
  | .overcurrentDeassert _ _ _ => true
  | .clklossDetect _ => true
  | .stuckDetect _ => true
  | .manchesterViolation _ => true
  | .healthFaultEnd _ _ => true
  | .inputCfgWrite _ _ => true
  | .groupCfgWrite _ _ => true
  | .acuSingle => true
  | .acuListgo => true
  | .acuListstop => true
  | .acuCalzero => true
  | .acuCalfull => true
  | .acuUrgent _ => true
  | .acuCfgWrite _ => true
  | .acuListStep => true
  | .acuConversionStart => true
  | .acuResult _ => true
  | .acuNoclk => true
  | .acuCalEntryDurable => true
  | .acuCalLoadDone => true
  | .add _ f => f.legal .d .d .d resZero
  | .sub _ f => f.legal .d .d .d resZero
  | .adds _ f => f.legal .d .d .d resZero
  | .subs _ f => f.legal .d .d .d resZero
  | .andd _ f => f.legal .d .d .d resZero
  | .orr _ f => f.legal .d .d .d resZero
  | .xor _ f => f.legal .d .d .d resZero
  | .andn _ f => f.legal .d .d .d resZero
  | .shl _ f => f.legal .d .d .d resZero
  | .shr _ f => f.legal .d .d .d resZero
  | .sra _ f => f.legal .d .d .d resZero
  | .shls _ f => f.legal .d .d .d resZero
  | .mul _ f => f.legal .d .d .d resZero
  | .mulh _ f => f.legal .d .d .d resZero
  | .mulhu _ f => f.legal .d .d .d resZero
  | .mulq _ f => f.legal .d .d .d resZero
  | .div _ f => f.legal .d .d .d resZero
  | .divu _ f => f.legal .d .d .d resZero
  | .min _ f => f.legal .d .d .d resZero
  | .max _ f => f.legal .d .d .d resZero
  | .minu _ f => f.legal .d .d .d resZero
  | .maxu _ f => f.legal .d .d .d resZero
  | .abss _ f => f.legal .d .d .zero resZero
  | .negs _ f => f.legal .d .d .zero resZero
  | .clz _ f => f.legal .d .d .zero resZero
  | .mov _ f => f.legal .d .d .zero resZero
  | .sel _ f => f.legal .d .d .d resSel
  | .mda _ f => f.legal .a .d .zero resZero
  | .mad _ f => f.legal .d .a .zero resZero
  | .addar _ f => f.legal .a .a .d resZero
  | .cmpeq _ f => f.legal .p .d .d resZero
  | .cmpne _ f => f.legal .p .d .d resZero
  | .cmplt _ f => f.legal .p .d .d resZero
  | .cmple _ f => f.legal .p .d .d resZero
  | .cmpltu _ f => f.legal .p .d .d resZero
  | .cmpleu _ f => f.legal .p .d .d resZero
  | .addi _ f => f.legal .d .d 32
  | .addsi _ f => f.legal .d .d 32
  | .andi _ f => f.legal .d .d 32
  | .ori _ f => f.legal .d .d 32
  | .xori _ f => f.legal .d .d 32
  | .shli _ f => f.legal .d .d 6
  | .shri _ f => f.legal .d .d 6
  | .srai _ f => f.legal .d .d 6
  | .movi _ f => f.legal .d .zero 32
  | .muli _ f => f.legal .d .d 32
  | .cmpeqi _ f => f.legal .p .d 32
  | .cmplti _ f => f.legal .p .d 32
  | .cmpltui _ f => f.legal .p .d 32
  | .mova _ f => f.legal .a .zero 32
  | .adda _ f => f.legal .a .a 32
  | .pand _ f => f.legal .p .p .p resZero
  | .por _ f => f.legal .p .p .p resZero
  | .pxor _ f => f.legal .p .p .p resZero
  | .pandn _ f => f.legal .p .p .p resZero
  | .pnot _ f => f.legal .p .p .zero resZero
  | .pset _ f => f.legal .p .zero .bit resZero
  | .movdp _ f => f.legal .p .d .zero resZero
  | .movpd _ f => f.legal .d .p .zero resZero
  | .ldB _ f => f.legal rdAny 3
  | .ldBu _ f => f.legal rdAny 3
  | .ldH _ f => f.legal rdAny 3
  | .ldHu _ f => f.legal rdAny 3
  | .ldW _ f => f.legal rdAny 3
  | .ldD _ f => f.legal rdEven 3
  | .lda _ f => f.legal rdAddr 3
  | .stB _ f => f.legal rdAny 3
  | .stH _ f => f.legal rdAny 3
  | .stW _ f => f.legal rdAny 3
  | .stD _ f => f.legal rdEven 3
  | .sta _ f => f.legal rdAddr 3
  | .nonlocalLoadDone _ => true
  | .postedStoreAccept _ => true
  | .postedStoreBusError _ => true
  | .macd _ f => f.legal true
  | .msud _ f => f.legal true
  | .macc _ f => f.legal false
  | .msuc _ f => f.legal false
  | .clrw _ f => f.legal .w .zero .zero resZero
  | .movw _ f => f.legal .w .w .zero resZero
  | .addw _ f => f.legal .w .w .zero resZero
  | .subw _ f => f.legal .w .w .zero resZero
  | .negw _ f => f.legal .w .w .zero resZero
  | .movqw _ f => f.legal .w .zero .d resZero
  | .rdwl _ f => f.legal .zero .w .d resZero
  | .rdwh _ f => f.legal .zero .w .d resZero
  | .rdwg _ f => f.legal .zero .w .d resZero
  | .wrwl _ f => f.legal .w .zero .d resZero
  | .wrwh _ f => f.legal .w .zero .d resZero
  | .wrwg _ f => f.legal .w .zero .d resZero
  | .macr _ f => f.legal .w .d .d resZero
  | .msur _ f => f.legal .w .d .d resZero
  | .extr _ f => f.legal .d .w 6
  | .br _ f => f.legal
  | .call _ f => f.legal
  | .jr _ f => f.legal .zero .a .zero resZero
  | .callr _ f => f.legal .zero .a .zero resZero
  | .ret _ f => f.legal .zero .zero .zero resZero
  | .loop _ f => f.legal
  | .loopBodyEnd _ => true
  | .smp c f => isReckoner c && f.legal
  | .stg c f => isReckoner c && f.legal .d (if f.small.testBit 12 then .d else .zero) 13
  | .tdone c f => isReckoner c && f.legal .zero .zero .zero resZero
  | .bswp c f => isReckoner c && f.legal .zero .zero .zero resZero
  | .nop _ f => f.legal .zero .zero .zero resZero
  | .fence _ f => f.legal .zero .zero .zero resZero
  | .fenceDrainEnd _ => true
  | .bkpt _ f => f.legal .zero .zero .zero resZero
  | .clrc _ f => f.legal .zero .zero .zero resZero
  | .endl _ f => f.legal .lc .zero .zero resZero
  | .ei c f => !isReckoner c && f.legal .zero .zero .zero resZero
  | .di c f => !isReckoner c && f.legal .zero .zero .zero resZero
  | .reti c f => !isReckoner c && f.legal .zero .zero .zero resZero
  | .wfi c f => !isReckoner c && f.legal .zero .zero .zero resZero
  | .wfiWake _ => true
  | .trap c f => !isReckoner c && f.legal .zero .zero .d resZero
  | .mfs _ f => f.legal .d .zero 6
  | .mts _ f => f.legal .d .zero 6
  | .swap c f => !isReckoner c && f.legal rdAny 1
  | .aadd c f => !isReckoner c && f.legal rdAny 1
  | .ccln c f => !isReckoner c && f.legal (· == 0) 2
  | .cinv c f => !isReckoner c && f.legal (· == 1) 2
  | .cci c f => !isReckoner c && f.legal (· == 2) 2
  | .icinv c f => !isReckoner c && f.legal (· == 3) 2
  | .reckonerLaunch _ _ => true
  | .taskDispatch _ => true
  | .taskEndRelease _ => true
  | .releaseLanding _ _ => true
  | .deadlineMiss _ => true
  | .reckonerEnableWrite _ _ => true
  | .abortnow _ => true
  | .bankSwapRequest _ => true
  | .bankSwapCancel _ => true
  | .carrierZero _ => true
  | .carrierPeak _ => true
  | .carrierRestart _ => true
  | .pwmRestartWrite _ => true
  | .carrierCfgWrite _ _ => true
  | .loadallWrite _ => true
  | .carrierLoadallLaunch _ => true
  | .loadcnclWrite _ => true
  | .shadowWriteLand _ _ _ => true
  | .refEdge _ => true
  | .deadTimeEnd _ => true
  | .legOvrWrite _ _ => true
  | .legCfgWrite _ _ => true
  | .forceEventAssert _ => true
  | .fltinAssert _ => true
  | .forceSafeOn _ => true
  | .forceDomainClear _ => true
  | .pwmFreeze => true
  | .pwmFreezeEnd => true
  | .maxonGuardTrip _ => true
  | .delayLineCalibration _ _ => true
  | .driveCodeLand _ _ _ => true
  | .dslFrameSend _ => true
  | .dslRefreshFrame _ => true
  | .driveGroupCfgWrite _ _ => true
  | .primingBurstEnd _ => true
  | .bootstrapRefresh _ => true
  | .driverFaultReport _ _ => true
  | .driverFaultClassify _ _ => true
  | .retryWaitEnd _ _ => true
  | .tryWindowExpire _ => true
  | .driveClear _ _ => true
  | .gridUpdateIssue _ _ => true
  | .seqInputSample _ _ _ => true
  | .stageLatch _ => true
  | .excursionReturnExpire _ => true
  | .curveTimeExpire _ => true
  | .protUpdateTimeout => true
  | .protSwtrip => true
  | .tripLatchClear _ => true
  | .dcArm => true
  | .dcSoftwareTrigger => true
  | .dcFrame => true
  | .dcPostComplete => true
  | .dcCopyComplete => true
  | .dcCfgWrite _ _ _ => true
  | .sweepGo _ => true
  | .sweepStop _ => true
  | .sweepStepStart _ => true
  | .sweepEntryWrite _ => true
  | .sweepNoZeroTimeout _ => true
  | .nightEnter _ => true
  | .wakeDetect _ => true
  | .probeChipStep => true
  | .probeStepMiss => true
  | .probePeriodResult => true
  | .islClear => true
  | .meterSample _ => true
  | .meterWindowEnd _ _ => true
  | .meterSnapshot _ _ => true
  | .meterSnapshotWritten _ => true
  | .meterPulseStart _ => true
  | .meterPulseEnd _ => true
  | .meterPeriodicSave => true
  | .meterSaveDone _ => true
  | .meterTsgWrite _ => true
  | .safeInputChange _ _ _ => true
  | .testPulseStart _ _ _ => true
  | .testPulseCheck _ _ _ => true
  | .safeDiscrepancy _ => true
  | .safeReadbackFault _ _ => true
  | .safeLogicCompareFault => true
  | .safeOscFault => true
  | .safePwmClockLoss => true
  | .safePwmClockReturn => true
  | .safeSupplyDemand => true
  | .safeLockoutRecord => true
  | .safeResetPulseStart => true
  | .safeResetProcedure _ _ => true
  | .safeResetDone => true
  | .safeSelftestDone _ => true
  | .interruptEntry _ => true
  | .nmiEntry _ => true
  | .cmaintIcinv _ => true
  | .cmaintClean _ => true
  | .cmaintDcinv _ => true
  | .cacheMaintDone _ => true
  | .cacheMissFill _ => true
  | .writeBufferAccept _ => true
  | .remoteStoreError _ => true
  | .watchdogEnable _ => true
  | .watchdogKick _ _ => true
  | .watchdogStage1 _ => true
  | .watchdogStage2 _ => true
  | .hostRead _ _ _ _ => true
  | .hostWrite _ words => decide (1 ≤ words.length)
  | .hostStatus => true
  | .hostReadComplete => true
  | .debugHalt _ => true
  | .debugResume _ => true
  | .debugStep _ => true
  | .debugRegisterAccess _ _ _ => true
  | .debugMemoryAccess _ => true
  | .debugReset => true
  | .jtagExtest _ => true
  | .jtagSamplePreload _ _ => true
  | .jtagIdcode => true
  | .jtagClamp => true
  | .jtagHighz => true
  | .jtagDebug => true
  | .jtagBypass _ => true
  | .dmaStart _ => true
  | .dmaStop _ => true
  | .dmaResume _ => true
  | .dmaDescWrite _ _ => true
  | .dmaSwtrig _ => true
  | .dmaLaunchTrigger _ => true
  | .dmaDescriptorFetch _ => true
  | .dmaBlockEnd _ => true
  | .dmaDescriptorComplete _ _ => true
  | .linkEnableWrite _ _ => true
  | .linkTrain _ => true
  | .linkTrainingComplete _ _ _ => true
  | .linkTrainingFail _ _ => true
  | .linkAutoRetrain _ => true
  | .cellIdle _ _ => true
  | .cellRdreq _ _ => true
  | .cellRdresp _ _ => true
  | .cellWr _ _ => true
  | .cellWrcmp _ _ => true
  | .cellEvent _ _ => true
  | .cellStream _ _ _ => true
  | .cellTbxReq _ _ => true
  | .cellTbxResp _ _ => true
  | .cellTbxFin _ _ => true
  | .cellMarkRequest _ _ => true
  | .cellMarkEcho _ _ _ => true
  | .cellCrcClassError _ _ => true
  | .nakHoldoffExpire _ => true
  | .replayTimeout _ => true
  | .remoteAccessSend _ => true
  | .timebaseExchangeRequest _ => true
  | .streamRawSend _ _ _ _ => true
  | .linkClockLoss _ => true
  | .linkStuffViolation _ => true
  | .prbsInject _ _ => true
  | .prbsCfgWrite _ _ => true
  | .ethFrameReceive _ _ _ _ => true
  | .ethTxKick _ => true
  | .ethTxComplete _ => true
  | .ethCfgWrite _ => true
  | .dupEntryAge => true
  | .gooseTalExpire _ => true
  | .ptpResidenceTimeout => true
  | .svPublishRequest _ => true
  | .svFrameSend _ => true
  | .bootRomSequence _ => true
  | .st1Entry _ => true
  | .secHash => true
  | .secVerify => true
  | .secAttest => true
  | .secAppsign => true
  | .secRolladv => true
  | .secOtpowner => true
  | .secReboot => true
  | .secDbgclose => true
  | .secCommandDone => true
  | .trngRead _ => true
  | .consentOpen set => decide (set.toNat < 5)
  | .consentStagingWrite _ _ => true
  | .consentRequest => true
  | .consentDigestDone => true
  | .consentApprove _ => true
  | .consentCheckDone => true
  | .consentCancel => true
  | .physicalConsent => true
  | .consentWindowTimeout => true
  | .consentLockEnd => true
  | .consentSwitchover => true
  | .consentCounterDurable => true
  | .consentRestoreDone => true
  | .powerUp _ _ => true
  | .resetRelease => true
  | .holdupReady _ => true
  | .vioFault _ => true
  | .powerFailWarning _ => true
  | .stewardWindowEnd => true
  | .saveEngineStart => true
  | .saveCaptureInstant => true
  | .saveComplete => true
  | .pmuSleep => true
  | .sentinelStart _ => true
  | .sentinelStop => true
  | .sentinelVinLoss => true
  | .sentinelVinReturn => true
  | .longDarkness _ _ _ => true
  | .sentinelResume _ => true
  | .ledgerBurst _ _ => true
  | .ledgerCheckpoint => true
  | .tamperEvent _ => true
  | .wakeInput => true
  | .rtcAlarm => true
  | .rtcset => true
  | .hv1Sample _ => true
  | .monitorValue _ _ => true
  | .monitorWindowLaunch _ => true
  | .monitorWindowClose _ => true
  | .monitorClear _ => true
  | .monitorMark _ => true
  | .telemetrySample _ => true
  | .sramScrub _ => true
  | .gpioSet _ => true
  | .gpioClr _ => true
  | .testPulseEnd _ => true
  | .vioReturn _ => true
  | .holdupMeasure _ _ => true
  | .fltinDeassert _ => true
  | .rgmiiInbandStatus _ _ _ => true
  | .tamperInputInactive _ => true

end Sys2Proof
end

