-- ==== Sys2Proof/Safety.lean ====
section
/-! DEFINITION. The terms that claims use: a command that answers, what it leaves alone, and the canonical form of the state. -/
namespace Sys2Proof.Machine

/-- The command answers a next state, and `P` holds of that state. -/
def Answers (i : Instr) (s : State) (P : State → Prop) : Prop := ∃ t, exec i s = .next t ∧ P t

/-- The command answers a next state. -/
def Completes (i : Instr) (s : State) : Prop := ∃ t, exec i s = .next t

/-- Every byte of memory reads in `t` as in `s`. -/
def SameMemory (s t : State) : Prop := ∀ a, Memory.read t.mem a = Memory.read s.mem a

/-- Every byte of memory outside the `n` bytes from `a` on reads in `t` as in `s`. -/
def SameMemoryBut (a n : Nat) (s t : State) : Prop := ∀ b, (b < a ∨ a + n ≤ b) → Memory.read t.mem b = Memory.read s.mem b

/-- Every register reads in `t` as in `s`. -/
def SameRegisters (s t : State) : Prop := ∀ a, t.rd a = s.rd a

/-- Every register but those listed reads in `t` as in `s`. -/
def SameRegistersBut (l : List Nat) (s t : State) : Prop := ∀ a, a ∉ l → t.rd a = s.rd a

/-- No DC input sweeps and PROBE injects nothing: no doubleword in a reckoner's memory follows what the module does (R263,
R280). -/
abbrev Undisturbed (s : State) : Prop := (∀ k : Fin 8, s.sweeping k = false) ∧ s.probeRuns = false

/-- R113: a conversion whose start command is given now: the URGMODE and CORREN of this instant hold for it. -/
abbrev State.asked (s : State) (k : AcuKind) (ch osr : Nat) : AcuConv :=
  ⟨k, ch, osr, none, s.now, s.on Fd.ACU_CFG_URGMODE, s.on Fd.ACU_CFG_CORREN⟩

/-- R218, R220: the first bit boundary after group `k`'s lane is free and has been idle for `idle`. -/
abbrev State.laneFree (s : State) (k : Fin 12) (idle : Nat) : State := s.reachNow (s.bitUp (max s.now (s.drive.groups[k].freeAt + idle)))

/-! ### The cores -/

/-- The core `c` issues an instruction of `len` bytes whose predicate holds: it runs and waits for nothing, no loop's body
ends before it, its task is in time (R167), no store's error comes first (R168, R357), its fetch is good. -/
abbrev Issues (s : State) (c : Fin 6) (len : Nat) (pred : BitVec 4) : Prop :=
  s.canIssue c = true ∧ s.cpu[c].ended = none ∧ (s.lateAt c (s.issueAt c)).isNone = true ∧ (s.storeErrAt c (s.issueAt c)).isNone = true ∧
    s.fetchFault c len = none ∧ predTrue pred s.cpu[c].p = true

/-- The core `c` issues an instruction of `len` bytes as in `Issues`, whatever its predicate. -/
abbrev Reaches (s : State) (c : Fin 6) (len : Nat) : Prop :=
  s.canIssue c = true ∧ s.cpu[c].ended = none ∧ (s.lateAt c (s.issueAt c)).isNone = true ∧ (s.storeErrAt c (s.issueAt c)).isNone = true ∧
    s.fetchFault c len = none

/-- R158, R167, R169: task `k` of reckoner `n` is aborted with `code`, and the pc of the instruction is recorded. -/
abbrev Aborts (s t : State) (n : Fin 4) (k : RkTask) (code : Nat) : Prop :=
  t.rk[n].task = none ∧ t.rk[n].staged = [] ∧ t.flag (Ev.SYSCFG_RK_FLAGS_EXC n) = true ∧
  t.rdN (Reg.SYSCFG_RK_LASTABORT n) = code + 256 * k.slot.val + 65536 * pcWord n (s.pc (rkCore n)) ∧
  t.cpu[rkCore n].d = s.cpu[rkCore n].d ∧ t.cpu[rkCore n].a = s.cpu[rkCore n].a ∧ t.mem = s.mem

/-- R352: steward `n` enters its exception handler with `code` and EPC = `epc`. -/
abbrev Enters (s t : State) (n : Fin 2) (code : Nat) (epc : Word) : Prop :=
  t.cpu[stCore n].pc = s.st[n].vbase ∧ t.st[n].epc = epc ∧ t.st[n].ecause = BitVec.ofNat 32 code ∧
  t.st[n].estat.getLsbD 2 = true ∧ t.st[n].estat.getLsbD 1 = s.st[n].estat.getLsbD 0 ∧ t.st[n].estat.getLsbD 0 = false ∧
  t.st[n].estat.extractLsb' 12 4 = s.st[n].estat.extractLsb' 8 4 ∧ t.st[n].estat.extractLsb' 8 4 = s.st[n].estat.extractLsb' 8 4 ∧
  t.st[n].eaddr = s.st[n].eaddr ∧ t.st[n].vbase = s.st[n].vbase ∧
  t.cpu[stCore n].d = s.cpu[stCore n].d ∧ t.cpu[stCore n].a = s.cpu[stCore n].a ∧ t.regs = s.regs ∧ t.mem = s.mem

/-- R353: an exception of steward `n` while EXL = 1: a double fault. -/
abbrev DoubleFaults (s t : State) (n : Fin 2) : Prop :=
  t.get (Fd.SYSCFG_ST_STATUS_DFAULT n) = 1 ∧ t.st[n].epc = s.st[n].epc ∧ t.st[n].ecause = s.st[n].ecause ∧
  t.st[n].estat = s.st[n].estat ∧ t.cpu[stCore n].pc = s.cpu[stCore n].pc ∧ t.cpu[stCore n].d = s.cpu[stCore n].d ∧
  SameRegistersBut [Reg.SYSCFG_ST_STATUS n] s t ∧ t.mem = s.mem

/-- The core `c` goes on to the next instruction, `len` bytes on and `k` of its cycles later; its loops, the other cores and
the registers of the blocks stay. -/
abbrev Moves (s t : State) (c : Fin 6) (len k : Nat) : Prop :=
  t.cpu[c].pc = s.cpu[c].pc + BitVec.ofNat 32 len ∧ t.cpu[c].next = s.issueAt c + k * s.cycle c ∧ t.cpu[c].wait = none ∧
  t.cpu[c].lc = s.cpu[c].lc ∧ t.cpu[c].loops = s.cpu[c].loops ∧ (∀ j : Fin 6, j ≠ c → t.cpu[j] = s.cpu[j]) ∧
  t.regs = s.regs

/-- The same, and memory stays. -/
abbrev Passes (s t : State) (c : Fin 6) (len k : Nat) : Prop := Moves s t c len k ∧ t.mem = s.mem

/-- The answer is a next state in which data register `n` of core `c` holds `v`, SR.C is set if `sat` holds, the core's other
registers stay, and it goes on `len` bytes further after `k` cycles. -/
def GivesD (r : Result) (s : State) (c : Fin 6) (len k : Nat) (n : BitVec 4) (v : Word) (sat : Bool) : Prop :=
  ∃ t, r = .next t ∧ (∀ j : Fin 16, t.cpu[c].d[j] = if j.val = n.toNat then v else s.cpu[c].d[j]) ∧
    t.cpu[c].carry = (s.cpu[c].carry || sat) ∧ t.cpu[c].a = s.cpu[c].a ∧ t.cpu[c].w = s.cpu[c].w ∧ t.cpu[c].p = s.cpu[c].p ∧
    Passes s t c len k

/-- The same of address register `n`; no flag changes. -/
def GivesA (r : Result) (s : State) (c : Fin 6) (len k : Nat) (n : BitVec 4) (v : Word) : Prop :=
  ∃ t, r = .next t ∧ (∀ j : Fin 8, t.cpu[c].a[j] = if j.val = n.toNat then v else s.cpu[c].a[j]) ∧
    t.cpu[c].carry = s.cpu[c].carry ∧ t.cpu[c].d = s.cpu[c].d ∧ t.cpu[c].w = s.cpu[c].w ∧ t.cpu[c].p = s.cpu[c].p ∧
    Passes s t c len k

/-- The same of predicate register `n`; no flag changes. -/
def GivesP (r : Result) (s : State) (c : Fin 6) (len k : Nat) (n : BitVec 4) (b : Bool) : Prop :=
  ∃ t, r = .next t ∧ (∀ j : Fin 4, t.cpu[c].p.getLsbD j.val = if j.val = n.toNat then b else s.cpu[c].p.getLsbD j.val) ∧
    t.cpu[c].carry = s.cpu[c].carry ∧ t.cpu[c].d = s.cpu[c].d ∧ t.cpu[c].a = s.cpu[c].a ∧ t.cpu[c].w = s.cpu[c].w ∧
    Passes s t c len k

/-- The same of accumulator `n`, SR.C set if `sat` holds. -/
def GivesW (r : Result) (s : State) (c : Fin 6) (len k : Nat) (n : BitVec 4) (v : Acc) (sat : Bool) : Prop :=
  ∃ t, r = .next t ∧ (∀ j : Fin 4, t.cpu[c].w[j] = if j.val = n.toNat then v else s.cpu[c].w[j]) ∧
    t.cpu[c].carry = (s.cpu[c].carry || sat) ∧ t.cpu[c].d = s.cpu[c].d ∧ t.cpu[c].a = s.cpu[c].a ∧ t.cpu[c].p = s.cpu[c].p ∧
    Passes s t c len k

/-- R135: an aligned address in the tightly coupled memory of reckoner `n`. -/
abbrev LocalAt (n : Fin 4) (a size : Nat) : Prop := ownTcm n a = true ∧ region a ≠ .unmapped ∧ a % size = 0

/-- R144: the effective address of `f` at core `c`. -/
def State.ea (s : State) (c : Fin 6) (f : MForm) (size : Nat) : Nat := (f.addr s.cpu[c].a[f.ab] size).toNat

/-- R144: what a load or store by `f` leaves in the address registers: a[AB] updated in the modes that update it. -/
abbrev Updated (s t : State) (c : Fin 6) (f : MForm) (size : Nat) : Prop :=
  ∀ j : Fin 8, t.cpu[c].a[j] = if f.am ≠ 0 ∧ j = f.ab then s.cpu[c].a[f.ab] + f.off size else s.cpu[c].a[j]

/-- The answer is that of a load into data register `n`: `v` arrives, a[AB] is updated, the rest stays. -/
def LoadsD (r : Result) (s : State) (c : Fin 6) (f : MForm) (size k : Nat) (v : Word) : Prop :=
  ∃ t, r = .next t ∧ (∀ j : Fin 16, t.cpu[c].d[j] = if j.val = f.rd.toNat then v else s.cpu[c].d[j]) ∧ Updated s t c f size ∧
    t.cpu[c].carry = s.cpu[c].carry ∧ t.cpu[c].w = s.cpu[c].w ∧ t.cpu[c].p = s.cpu[c].p ∧ Passes s t c (extBytes f.ext) k

/-- The answer is that of a store of the `size` low bytes of `v` at `a`: those bytes read back, every other byte stays. -/
def Stores (r : Result) (s : State) (c : Fin 6) (f : MForm) (a size k : Nat) (v : BitVec 64) : Prop :=
  ∃ t, r = .next t ∧ (∀ i : Fin size, Memory.read t.mem (a + i.val) = v.extractLsb' (8 * i.val) 8) ∧ SameMemoryBut a size s t ∧
    t.cpu[c].d = s.cpu[c].d ∧ Updated s t c f size ∧ t.cpu[c].carry = s.cpu[c].carry ∧ t.cpu[c].w = s.cpu[c].w ∧
    t.cpu[c].p = s.cpu[c].p ∧ Moves s t c (extBytes f.ext) k

/-- R137: sat32. -/
def clip32 (x : Int) : Word := BitVec.ofInt 32 (max (-2147483648) (min 2147483647 x))

/-- R137: sat32 changes its argument. -/
def over32 (x : Int) : Bool := decide (x < -2147483648 ∨ 2147483647 < x)

/-- R137: sat72. -/
def clip72 (x : Int) : Acc := BitVec.ofInt 72 (max (-2 ^ 71) (min (2 ^ 71 - 1) x))

/-- R137: sat72 changes its argument. -/
def over72 (x : Int) : Bool := decide (x < -2 ^ 71 ∨ 2 ^ 71 - 1 < x)

/-- R137: round(x / 2^k), a half away from zero. -/
def nearest (x : Int) (k : Nat) : Int := if 0 ≤ x then (2 * x + 2 ^ k) / 2 ^ (k + 1) else -((-(2 * x) + 2 ^ k) / 2 ^ (k + 1))

/-- The canonical form of a state: the memory, the registers and the words that wait behind LO registers are listed with rising
addresses and without entries that read as their default. -/
def State.canonical (s : State) : Bool :=
  Memory.wf s.mem && regsWf s.regs && mapWfFrom (fun _ => (0 : Word)) none s.hiLive

/-- A state of which every waiting command is well-formed. -/
def State.queueWf (s : State) : Bool := s.pending.all Instr.wf

/-- R474: no write to a SENT register is due to take effect in the sentinel. -/
abbrev State.settled (s : State) : Prop := ∀ w ∈ s.sentinel.writes, s.now < w.1

/-- A state from which no step stops: every step answers a next state. -/
def RunsOn (s : State) : Prop := ∃ t, step s = .next t

end Sys2Proof.Machine
end

