-- ==== Sys2Proof/Certificates/Slice0/Obligations.lean ====
section
/-! DEFINITION. The obligations: what the rules of the specification say that the block does, command by command. -/
open Sys2Proof Sys2Proof.Machine

/-- The queue's rule: a step with a command in front is exec of that command on the state with the queue's rest. -/
def Obligations.StepRunsFrontCommand : Prop :=
  ∀ (c : Instr) (rest : List Instr) (s : State), s.pending = c :: rest → step s = exec c { s with pending := rest }

/-- The model's choice (log entry 4): on an empty queue a step answers a next state, and nothing waits; the cores run the
instructions that their memory holds, the links send a cell slot each, and what waits for a tag of the crossbar is
looked at. Where no core runs, no write of the host port waits, and nothing waits for the crossbar, one PWM cycle of
physical time has passed. A command does not touch the queue. -/
def Obligations.QueueAndIdleStep : Prop :=
  (∀ s : State, s.pending = [] → ∃ t, step s = .next t ∧ t.pending = []) ∧
  (∀ s : State, s.pending = [] → s.host.queue = [] → (∀ l : Fin 4, (s.port l).reqIn = [] ∧ (s.port l).strIn = []) →
     s.xbar.stalled = [] → s.stalledOps = 0 → s.xbar.blocked = [] → s.eth.kicked = 0 → (∀ n : Fin 4, s.rk[n].task = none) →
     (∀ n : Fin 2, s.on (Fd.SYSCFG_ST_STATUS_RUN n) = false) → ∃ t, step s = .next t ∧ t.now = s.now + 40) ∧
  (∀ (c : Instr) (s t : State), exec c s = .next t → t.pending = s.pending)

/-- No command is refused and none faults: every command of the table answers a next state, whatever its operands and
whatever the state. -/
def Obligations.EveryCommandCompletes : Prop :=
  ∀ (c : Instr) (s : State), Completes c s

/-- The canonical form holds after reset. -/
def Obligations.CanonicalAtReset : Prop :=
  State.reset.canonical ∧ State.reset.queueWf

/-- Every step keeps the canonical form of memory and registers. -/
def Obligations.StepKeepsCanonical : Prop :=
  ∀ s t : State, s.canonical → step s = .next t → t.canonical

/-- Every step keeps a queue of well-formed commands well-formed. -/
def Obligations.StepKeepsQueueWellFormed : Prop :=
  ∀ s t : State, s.queueWf → step s = .next t → t.queueWf

/-- R7, R8: a write to a register none of whose fields has an operation and none of whose flags hardware sets in that same
cycle: RW bits take the written value, 1 clears a W1C bit and sets a W1S bit, every other bit and every other register
and all memory stay. `r` is the register's row of the access table. R7: a read of a saturating event counter answers
its count and clears it; a read of a stamp's LO register answers it and latches the high word into the register four
bytes above; both leave everything else. R507: a write of GPIO_SET sets, and one of GPIO_CLR clears, the outputs whose
bit is 1, and leaves the others. -/
def Obligations.RegisterAccesses : Prop :=
  (∀ (a v : Word) (r : RegRow) (s : State), isReg a.toNat → region a.toNat = .regs → s.writeOp a.toNat v = none →
     regRow a.toNat = some r → s.pmu.clocksOff = false → s.justSetMask a.toNat = 0 →
     Answers (.registerWrite a v) s fun t =>
     (∀ i : Fin 32, (t.rd a.toNat).getLsbD i =
     (((if r.rw.testBit i then v.getLsbD i else (s.rd a.toNat).getLsbD i) && !(r.w1c.testBit i && v.getLsbD i)) ||
     (r.w1s.testBit i && v.getLsbD i))) ∧
     SameRegistersBut [a.toNat] s t ∧ t.mem = s.mem ∧ t.now = s.now) ∧
  (∀ (a : Word) (r : RegRow) (s : State), isReg a.toNat → s.readActs a.toNat = none → s.shown a.toNat = none →
     regRow a.toNat = some r → r.rd = .clear →
     Answers (.counterReadClear a) s fun t =>
     t.rdata = (s.rd a.toNat).setWidth 72 ∧ t.rd a.toNat = 0 ∧ SameRegistersBut [a.toNat] s t ∧ t.mem = s.mem) ∧
  (∀ (a : Word) (r : RegRow) (s : State), isReg a.toNat → s.readActs a.toNat = none → s.shown a.toNat = none →
     regRow a.toNat = some r → r.rd = .latch →
     Answers (.stampLoRead a) s fun t =>
     t.rdata = (s.rd a.toNat).setWidth 72 ∧ t.rdN a.toNat + 2 ^ 32 * t.rdN (a.toNat + 4) = s.stamp a.toNat ∧
     SameRegistersBut [a.toNat + 4] s t ∧ t.mem = s.mem) ∧
  (∀ (m : BitVec 16) (s : State), s.gpioPort.wrote ≠ some s.now → Answers (.gpioSet m) s fun t =>
     (∀ i : Fin 16, (t.get Fd.SYSCFG_GPIO_OUT_OUT).testBit i = ((s.get Fd.SYSCFG_GPIO_OUT_OUT).testBit i || m.getLsbD i)) ∧
     SameRegistersBut [Reg.SYSCFG_GPIO_OUT] s t ∧ t.mem = s.mem) ∧
  (∀ (m : BitVec 16) (s : State), s.gpioPort.wrote ≠ some s.now → Answers (.gpioClr m) s fun t =>
     (∀ i : Fin 16, (t.get Fd.SYSCFG_GPIO_OUT_OUT).testBit i = ((s.get Fd.SYSCFG_GPIO_OUT_OUT).testBit i && !m.getLsbD i)) ∧
     SameRegistersBut [Reg.SYSCFG_GPIO_OUT] s t ∧ t.mem = s.mem)

/-- R21, R23, R24: a read of local memory, asked by a master that holds fewer transactions than its cap with a tag of its
own free and nothing waiting before it, takes that tag with its result in it; completing a tag that holds a good
read's result frees the tag and hands the value back; an access that waits first at a reckoner's memory is performed
there. -/
def Obligations.CrossbarTransactions : Prop :=
  (∀ (m : Master) (a : Access) (tag : Fin 64) (s : State), ownAccess m a = false → s.pmu.clocksOff = false → s.xbar.stalled = [] →
    s.blockIdle = true →
     s.freeTag (masterRow m) = some tag → a.write = none →
     (region a.addr.toNat = .rom ∨ (region a.addr.toNat = .sram ∧ s.eccBad a.addr.toNat = false)) → busOk a.addr.toNat (accBytes a) false →
     Answers (.crossbarTransaction m a) s fun t =>
     t.xbar.tags[tag] = some ⟨m, a, some (true, s.memRd a.addr.toNat (accBytes a))⟩ ∧
     t.mem = s.mem ∧ SameRegisters s t ∧ t.xbar.stalled = []) ∧
  (∀ (m : Master) (a : Access) (s : State), ownAccess m a = false → s.pmu.clocksOff = false → s.freeTag (masterRow m) = none →
    s.blockIdle = true →
     Answers (.crossbarTransaction m a) s fun t =>
     t.xbar.stalled = s.xbar.stalled ++ [(m, a)] ∧ t.xbar.tags = s.xbar.tags ∧ t.mem = s.mem ∧ SameRegisters s t) ∧
  (∀ (tag : Fin 64) (m : Master) (a : Access) (v : Nat) (s : State), s.xbar.tags[tag] = some ⟨m, a, some (true, v)⟩ →
     a.write = none → s.xbar.stalled = [] → s.blockIdle = true → s.stalledOps = 0 → (∀ (l : Fin 4) (g : BitVec 6), m ≠ .link l g) →
     Answers (.transactionComplete tag) s fun t =>
     t.xbar.tags[tag] = none ∧ t.rdata = BitVec.ofNat 72 v ∧ t.mem = s.mem ∧ SameRegisters s t) ∧
  (∀ (n : Fin 4) (tag : Fin 64) (rest : List (Fin 64)) (m : Master) (a : Access) (d : BitVec 64) (s : State),
     s.sysPllClk = true → s.xbar.tcm[n] = tag :: rest → s.tcmNext n = some (tag, ⟨m, a, none⟩) → a.write = some d →
       region a.addr.toNat = .tcm n →
     busOk a.addr.toNat (accBytes a) true →
     Answers (.tcmExternalAccess n) s fun t =>
     t.xbar.tcm[n] = rest ∧ t.xbar.tags[tag] = some ⟨m, a, some (true, 0)⟩ ∧ SameRegisters s t ∧
     (∀ i : Fin (accBytes a), Memory.read t.mem (a.addr.toNat + i) = d.extractLsb' (8 * i) 8) ∧
     SameMemoryBut a.addr.toNat (accBytes a) s t)

/-- R485, R486: the last accepted write becomes durable and BUSY falls; a page 2^20 writes ahead of the least-written one
starts to move; the end of a move counts it and clears MOVING; no address changes its content. -/
def Obligations.MramDurabilityAndWear : Prop :=
  (∀ s : State, s.get Fd.MRAMC_STATUS_DEPTH = 1 → s.mramc.moving = none → Answers .mramWriteDurable s fun t =>
     t.get Fd.MRAMC_STATUS_DEPTH = 0 ∧ t.get Fd.MRAMC_STATUS_BUSY = 0 ∧ SameRegistersBut [Reg.MRAMC_STATUS] s t ∧ t.mem = s.mem) ∧
  (∀ s : State, 1 < s.get Fd.MRAMC_STATUS_DEPTH → Answers .mramWriteDurable s fun t =>
     t.get Fd.MRAMC_STATUS_DEPTH = s.get Fd.MRAMC_STATUS_DEPTH - 1 ∧ t.get Fd.MRAMC_STATUS_BUSY = s.get Fd.MRAMC_STATUS_BUSY ∧
     t.mem = s.mem) ∧
  (∀ s : State, s.mramc.moving = none → s.pmu.warned = false → s.on Fd.PLL_STATUS_SYSLOCK → s.leastWritten.2 + 2 ^ 20 ≤ s.mostWritten.2 →
     Answers .wearLevelMove s fun t =>
     t.mramc.moving = some (s.mostWritten.1, s.leastWritten.1) ∧ t.get Fd.MRAMC_STATUS_MOVING = 1 ∧
     t.get Fd.MRAMC_STATUS_BUSY = 1 ∧ t.mem = s.mem) ∧
  (∀ (s : State) (p q : Nat), s.mramc.moving = some (p, q) → s.mramc.stalled = [] → Answers .wearLevelMoveEnd s fun t =>
     t.mramc.moving = none ∧ t.get Fd.MRAMC_STATUS_MOVING = 0 ∧ t.mem = s.mem)

/-- R36: TBL_ADDFRAC is limited to ±0x0A3D_70A4; a write beyond the limit is clamped and the clamped value reads back. On
a follower the write is ignored (R41). While the PWM clock stands the clamped write waits (R77). -/
def Obligations.AddfracClamp : Prop :=
  (∀ (v : Word) (s : State), s.follower = false → s.pwmClk = true → s.landing = false → Answers (.addfracWrite v) s fun t =>
     (t.rd Reg.TBL_ADDFRAC).toInt = max (-0x0A3D70A4) (min 0x0A3D70A4 v.toInt) ∧
     SameRegistersBut [Reg.TBL_ADDFRAC] s t ∧ t.mem = s.mem ∧ t.tbl.count = (s.advance 2).tbl.count ∧ t.tbl.frac = (s.advance 2).tbl.frac ∧
     t.tbl.queue = s.tbl.queue ∧ t.tbl.rods = s.tbl.rods ∧ t.tbl.inflight = s.tbl.inflight ∧ t.now = s.now + 80) ∧
  (∀ (v : Word) (s : State), s.follower = false → s.pwmClk = false → s.parked = [] → Answers (.addfracWrite v) s fun t =>
     (∃ w : Word, w.toInt = max (-0x0A3D70A4) (min 0x0A3D70A4 v.toInt) ∧ t.parked = [(Reg.TBL_ADDFRAC, w)]) ∧
     t.regs = s.regs ∧ t.mem = s.mem ∧ t.tbl = s.tbl ∧ t.now = s.now) ∧
  (∀ (v : Word) (s : State), s.follower = true → exec (.addfracWrite v) s = .next s)

/-- R37, R41, R39: a step adds the staged signed value to the count of the next PWM cycle and leaves the hidden fraction
to the addend. A backward step, or none, leaves rods and queue entries; a forward one makes every queue entry then due
a late one, and a rod whose firing lies after the count before the step and more than 40 tbu before the new count
skips every firing of that kind, each counted and consuming a repeat, and raises RODSKIP. A step waits in its crossing
while the PWM clock stands (R77); a follower ignores it. The read of the count answers its low word and latches its
high word. That a step lands in the next cycle of the model and that a read takes the count of the present cycle, one
of those that R39 allows, are the model's choices (log entries 49 and 11). -/
def Obligations.StepAndCountRead : Prop :=
  (∀ s : State, s.follower = false → s.pwmClk = true → Answers .stepApply s fun t =>
     t.tbl.count = enc 64 ((s.advance 1).tbl.count + sx 64 (s.rdN Reg.TBL_STEP_LO + 2 ^ 32 * s.rdN Reg.TBL_STEP_HI)) ∧
     t.tbl.frac = (s.advance 1).tbl.frac ∧ t.now = s.now + 40 ∧ t.mem = s.mem) ∧
  (∀ s : State, s.follower = false → s.pwmClk = true → sx 64 (s.rdN Reg.TBL_STEP_LO + 2 ^ 32 * s.rdN Reg.TBL_STEP_HI) ≤ 0 →
     Answers .stepApply s fun t => t.tbl.rods = s.tbl.rods ∧ t.tbl.queue = s.tbl.queue ∧ t.regs = s.regs ∧ t.mem = s.mem) ∧
  (∀ s : State, s.follower = false → s.pwmClk = true → 0 < sx 64 (s.rdN Reg.TBL_STEP_LO + 2 ^ 32 * s.rdN Reg.TBL_STEP_HI) →
     Answers .stepApply s fun t =>
     (∀ k : Fin 48, t.tbl.queue[k] = s.tbl.queue[k].map fun e => { e with late := e.late || decide (e.time ≤ t.tbl.count) }) ∧
     (∀ n : Fin 16, (s.on (Fd.TBL_ROD_STATE_ACTIVE n) = false ∨ s.tbl.rods[n].next ≤ s.tbl.count ∨ t.tbl.count ≤ s.tbl.rods[n].next + 40) →
     t.tbl.rods[n] = s.tbl.rods[n] ∧ t.rd (Reg.TBL_ROD_STATE n) = s.rd (Reg.TBL_ROD_STATE n) ∧
       t.rd (Reg.TBL_ROD_SKIPCNT n) = s.rd (Reg.TBL_ROD_SKIPCNT n)) ∧
     t.mem = s.mem) ∧
  (∀ (n : Fin 16) (s : State), s.follower = false → s.pwmClk = true → 0 < sx 64 (s.rdN Reg.TBL_STEP_LO + 2 ^ 32 * s.rdN Reg.TBL_STEP_HI) →
     s.on (Fd.TBL_ROD_STATE_ACTIVE n) = true → s.tbl.count < s.tbl.rods[n].next → 0 < s.tbl.rods[n].per →
     s.tbl.rods[n].next + 40 < enc 64 ((s.advance 1).tbl.count + sx 64 (s.rdN Reg.TBL_STEP_LO + 2 ^ 32 * s.rdN Reg.TBL_STEP_HI)) →
     Answers .stepApply s fun t =>
     t.flag Ev.TBL_STATUS_RODSKIP = true ∧
     (s.get (Fd.TBL_ROD_COUNT_COUNT n) = 0 → ∃ k : Nat, t.tbl.rods[n] = ⟨s.tbl.rods[n].next + k * s.tbl.rods[n].per, s.tbl.rods[n].per⟩ ∧
     t.tbl.count ≤ t.tbl.rods[n].next + 40 ∧ t.tbl.rods[n].next + 40 < t.tbl.count + s.tbl.rods[n].per ∧
     t.rdN (Reg.TBL_ROD_SKIPCNT n) = min 0xFFFF (s.rdN (Reg.TBL_ROD_SKIPCNT n) + k)) ∧
     t.mem = s.mem) ∧
  (∀ (n : Fin 16) (s : State), s.follower = false → s.pwmClk = true → 0 < sx 64 (s.rdN Reg.TBL_STEP_LO + 2 ^ 32 * s.rdN Reg.TBL_STEP_HI) →
     s.on (Fd.TBL_ROD_STATE_ACTIVE n) = true → s.tbl.count < s.tbl.rods[n].next → 0 < s.tbl.rods[n].per →
       0 < s.get (Fd.TBL_ROD_COUNT_COUNT n) →
     s.get (Fd.TBL_ROD_STATE_REMAIN n) = 1 →
     s.tbl.rods[n].next + 40 < enc 64 ((s.advance 1).tbl.count + sx 64 (s.rdN Reg.TBL_STEP_LO + 2 ^ 32 * s.rdN Reg.TBL_STEP_HI)) →
     Answers .stepApply s fun t =>
     t.get (Fd.TBL_ROD_CTRL_ARM n) = 0 ∧ t.get (Fd.TBL_ROD_STATE_ACTIVE n) = 0 ∧ t.get (Fd.TBL_ROD_STATE_REMAIN n) = 0 ∧
     t.rdN (Reg.TBL_ROD_SKIPCNT n) = min 0xFFFF (s.rdN (Reg.TBL_ROD_SKIPCNT n) + 1) ∧ t.flag Ev.TBL_STATUS_RODSKIP = true ∧ t.mem = s.mem) ∧
  (∀ s : State, s.follower = false → s.pwmClk = false → Answers .stepApply s fun t =>
     t.tbl.stepWait = s.tbl.stepWait ++ [sx 64 (s.rdN Reg.TBL_STEP_LO + 2 ^ 32 * s.rdN Reg.TBL_STEP_HI)] ∧
     t.parked = s.parked ++ [(Reg.TBL_STEPCMD, 1)] ∧ t.tbl.count = s.tbl.count ∧ t.regs = s.regs ∧ t.mem = s.mem) ∧
  (∀ s : State, s.follower = true → exec .stepApply s = .next s) ∧
  (∀ s : State, Answers .nowLoRead s fun t =>
     t.rdata = BitVec.ofNat 72 s.tbl.count ∧ t.rd Reg.TBL_NOW_HI = BitVec.ofNat 32 (s.tbl.count / 2 ^ 32) ∧
     SameRegistersBut [Reg.TBL_NOW_HI] s t ∧ t.mem = s.mem ∧ t.tbl = s.tbl)

/-- R43, R44: arming a rod, where the write lands, takes START, PER and COUNT and clears BADPER; a start that is past is
moved by whole periods to the first firing that is not, the skipped firings counted and consuming repeats; a period
below 80 tbu is refused. A write of PER_HI commits the pair of an armed rod for the intervals after its next firing,
and one below 80 tbu leaves the period and sets BADPER. A firing launches every enabled target that selects the rod
with the firing time as exact time (R49), advances the rod by its period and consumes a repeat, and the last repeat
disarms the rod, with RODEND if IRQ is 1. While the PWM clock stands an arming and a commit wait in their crossings
(R77). The two cycles of a crossing, the REMAIN of 0 of a rod without end, and that an armed rod is not started again
are the model's choices (log entries 49 and 11). -/
def Obligations.Rods : Prop :=
  (∀ (n : Fin 16) (irq : Bool) (s : State), s.pwmClk = true → s.landing = false → s.on (Fd.TBL_ROD_STATE_ACTIVE n) = false →
    80 ≤ s.rodPer n →
     (s.advance 2).tbl.count ≤ s.rdN (Reg.TBL_ROD_START_LO n) + 2 ^ 32 * s.rdN (Reg.TBL_ROD_START_HI n) →
     Answers (.rodArm n irq) s fun t =>
     t.get (Fd.TBL_ROD_CTRL_ARM n) = 1 ∧ t.get (Fd.TBL_ROD_CTRL_IRQ n) = irq.toNat ∧ t.get (Fd.TBL_ROD_STATE_ACTIVE n) = 1 ∧
     t.get (Fd.TBL_ROD_STATE_BADPER n) = 0 ∧ t.get (Fd.TBL_ROD_STATE_REMAIN n) = s.get (Fd.TBL_ROD_COUNT_COUNT n) ∧
     t.tbl.rods[n] = ⟨s.rdN (Reg.TBL_ROD_START_LO n) + 2 ^ 32 * s.rdN (Reg.TBL_ROD_START_HI n), s.rodPer n⟩ ∧
     SameRegistersBut [Reg.TBL_ROD_CTRL n, Reg.TBL_ROD_STATE n] s t ∧ t.mem = s.mem) ∧
  (∀ (n : Fin 16) (irq : Bool) (k : Nat) (s : State), s.pwmClk = true → s.landing = false → s.on (Fd.TBL_ROD_STATE_ACTIVE n) = false →
    80 ≤ s.rodPer n → 0 < k →
     s.rdN (Reg.TBL_ROD_START_LO n) + 2 ^ 32 * s.rdN (Reg.TBL_ROD_START_HI n) + (k - 1) * s.rodPer n < (s.advance 2).tbl.count →
     (s.advance 2).tbl.count ≤ s.rdN (Reg.TBL_ROD_START_LO n) + 2 ^ 32 * s.rdN (Reg.TBL_ROD_START_HI n) + k * s.rodPer n →
     Answers (.rodArm n irq) s fun t =>
     t.flag Ev.TBL_STATUS_RODSKIP = true ∧
     (s.get (Fd.TBL_ROD_COUNT_COUNT n) = 0 ∨ k < s.get (Fd.TBL_ROD_COUNT_COUNT n) →
     t.get (Fd.TBL_ROD_CTRL_ARM n) = 1 ∧ t.get (Fd.TBL_ROD_STATE_ACTIVE n) = 1 ∧
     t.tbl.rods[n] = ⟨s.rdN (Reg.TBL_ROD_START_LO n) + 2 ^ 32 * s.rdN (Reg.TBL_ROD_START_HI n) + k * s.rodPer n, s.rodPer n⟩ ∧
     t.get (Fd.TBL_ROD_STATE_REMAIN n) = s.get (Fd.TBL_ROD_COUNT_COUNT n) - k ∧
     t.rdN (Reg.TBL_ROD_SKIPCNT n) = min 0xFFFF (s.rdN (Reg.TBL_ROD_SKIPCNT n) + k)) ∧
     (0 < s.get (Fd.TBL_ROD_COUNT_COUNT n) → s.get (Fd.TBL_ROD_COUNT_COUNT n) ≤ k →
     t.get (Fd.TBL_ROD_CTRL_ARM n) = 0 ∧ t.get (Fd.TBL_ROD_STATE_ACTIVE n) = 0 ∧
     t.rdN (Reg.TBL_ROD_SKIPCNT n) = min 0xFFFF (s.rdN (Reg.TBL_ROD_SKIPCNT n) + s.get (Fd.TBL_ROD_COUNT_COUNT n)) ∧
     (irq = true → t.flag Ev.TBL_STATUS_RODEND = true)) ∧ t.mem = s.mem) ∧
  (∀ (n : Fin 16) (irq : Bool) (s : State), s.pwmClk = true → s.landing = false → s.on (Fd.TBL_ROD_STATE_ACTIVE n) = false →
    s.rodPer n < 80 →
     Answers (.rodArm n irq) s fun t =>
     t.get (Fd.TBL_ROD_CTRL_ARM n) = 0 ∧ t.get (Fd.TBL_ROD_STATE_BADPER n) = 1 ∧ t.on (Fd.TBL_ROD_STATE_ACTIVE n) = false ∧
     t.tbl = (s.advance 2).tbl ∧ SameRegistersBut [Reg.TBL_ROD_CTRL n, Reg.TBL_ROD_STATE n] s t ∧ t.mem = s.mem) ∧
  (∀ (n : Fin 16) (irq : Bool) (s : State), s.pwmClk = true → s.landing = false → s.on (Fd.TBL_ROD_STATE_ACTIVE n) = true →
     Answers (.rodArm n irq) s fun t =>
     t.get (Fd.TBL_ROD_CTRL_IRQ n) = irq.toNat ∧ t.on (Fd.TBL_ROD_STATE_ACTIVE n) = true ∧ t.tbl = (s.advance 2).tbl ∧
     SameRegistersBut [Reg.TBL_ROD_CTRL n] s t ∧ t.mem = s.mem) ∧
  (∀ (n : Fin 16) (irq : Bool) (hi : BitVec 8) (s : State), s.pwmClk = false →
     exec (.rodArm n irq) s = .next { s with parked := s.parked ++ [(Reg.TBL_ROD_CTRL n, BitVec.ofNat 32 (1 + 2 * irq.toNat))] } ∧
     exec (.rodPeriodCommit n hi) s = .next { s with parked := s.parked ++ [(Reg.TBL_ROD_PER_HI n, hi.setWidth 32)] }) ∧
  (∀ (n : Fin 16) (hi : BitVec 8) (s : State), s.pwmClk = true → s.on (Fd.TBL_ROD_STATE_ACTIVE n) = true →
     80 ≤ s.rdN (Reg.TBL_ROD_PER_LO n) + 2 ^ 32 * hi.toNat →
     Answers (.rodPeriodCommit n hi) s fun t =>
     t.tbl.rods[n].per = s.rdN (Reg.TBL_ROD_PER_LO n) + 2 ^ 32 * hi.toNat ∧ t.tbl.rods[n].next = s.tbl.rods[n].next ∧
     t.get (Fd.TBL_ROD_PER_HI_PER n) = hi.toNat ∧ t.get (Fd.TBL_ROD_STATE_BADPER n) = 0 ∧
     SameRegistersBut [Reg.TBL_ROD_PER_HI n, Reg.TBL_ROD_STATE n] s t ∧ t.mem = s.mem) ∧
  (∀ (n : Fin 16) (hi : BitVec 8) (s : State), s.pwmClk = true → s.on (Fd.TBL_ROD_STATE_ACTIVE n) = true →
     s.rdN (Reg.TBL_ROD_PER_LO n) + 2 ^ 32 * hi.toNat < 80 →
     Answers (.rodPeriodCommit n hi) s fun t =>
     t.tbl.rods[n] = s.tbl.rods[n] ∧ t.get (Fd.TBL_ROD_STATE_BADPER n) = 1 ∧ t.get (Fd.TBL_ROD_STATE_ACTIVE n) = 1 ∧
     SameRegistersBut [Reg.TBL_ROD_PER_HI n, Reg.TBL_ROD_STATE n] s t ∧ t.mem = s.mem) ∧
  (∀ (n : Fin 16) (hi : BitVec 8) (s : State), s.pwmClk = true → s.on (Fd.TBL_ROD_STATE_ACTIVE n) = false →
     Answers (.rodPeriodCommit n hi) s fun t =>
     t.get (Fd.TBL_ROD_PER_HI_PER n) = hi.toNat ∧ t.tbl.rods = s.tbl.rods ∧ SameRegistersBut [Reg.TBL_ROD_PER_HI n] s t ∧ t.mem = s.mem) ∧
  (∀ (n : Fin 16) (s : State), s.on (Fd.TBL_ROD_STATE_ACTIVE n) = true → s.pwmClk = true →
     Answers (.rodFiring n) s fun t =>
     t.tbl.rods[n] = ⟨s.tbl.rods[n].next + s.tbl.rods[n].per, s.tbl.rods[n].per⟩ ∧
     (∀ j : Fin 16, j ≠ n → t.tbl.rods[j] = s.tbl.rods[j]) ∧
     (s.get (Fd.TBL_ROD_COUNT_COUNT n) ≠ 0 → t.get (Fd.TBL_ROD_STATE_REMAIN n) = s.get (Fd.TBL_ROD_STATE_REMAIN n) - 1) ∧
     (s.get (Fd.TBL_ROD_COUNT_COUNT n) ≠ 0 → s.get (Fd.TBL_ROD_STATE_REMAIN n) = 1 →
     t.get (Fd.TBL_ROD_CTRL_ARM n) = 0 ∧ t.get (Fd.TBL_ROD_STATE_ACTIVE n) = 0 ∧
     (s.on (Fd.TBL_ROD_CTRL_IRQ n) = true → t.flag Ev.TBL_STATUS_RODEND = true)) ∧
     (s.get (Fd.TBL_ROD_COUNT_COUNT n) = 0 ∨ 1 < s.get (Fd.TBL_ROD_STATE_REMAIN n) →
     t.get (Fd.TBL_ROD_STATE_ACTIVE n) = 1 ∧ t.get (Fd.TBL_ROD_CTRL_ARM n) = s.get (Fd.TBL_ROD_CTRL_ARM n)) ∧ t.mem = s.mem) ∧
  (∀ (n : Fin 16) (g : Nat) (s : State), s.on (Fd.TBL_ROD_STATE_ACTIVE n) = true → s.pwmClk = true → g < 112 → s.selects g n.val = true →
    s.suppressed = false →
     Answers (.rodFiring n) s fun t => (∃ l ∈ t.tbl.inflight, l.target = g ∧ l.exact = s.tbl.rods[n].next) ∧ t.mem = s.mem)

/-- R45–R48: a push with a free handle arms the lowest one and answers it; a full queue answers 0xFF with QREF, a bad
target 0xFE; the first due entry leaves the queue; a cancel removes an armed entry and is a CANMISS on an empty
handle, or where the entry fires in the cycle in which it lands; a flush empties the queue. -/
def Obligations.LaunchQueue : Prop :=
  (∀ (h : Fin 48) (s : State), s.get Fd.TBL_QTARGET_TARGET ≤ 111 → s.tbl.freeHandle = some h →
     Answers .queuePush s fun t =>
     t.rdata = BitVec.ofNat 72 h.val ∧
     (t.tbl.queue[h].map fun e => (e.time, e.target)) =
     some (s.rdN Reg.TBL_QTIME_LO + 2 ^ 32 * s.rdN Reg.TBL_QTIME_HI, s.get Fd.TBL_QTARGET_TARGET) ∧
     (∀ k : Fin 48, k ≠ h → t.tbl.queue[k] = s.tbl.queue[k]) ∧ t.mem = s.mem) ∧
  (∀ s : State, s.get Fd.TBL_QTARGET_TARGET ≤ 111 → s.tbl.freeHandle = none →
     Answers .queuePush s fun t => t.rdata = 0xFF ∧ t.flag Ev.TBL_STATUS_QREF = true ∧ t.tbl = s.tbl ∧ t.mem = s.mem) ∧
  (∀ s : State, 111 < s.get Fd.TBL_QTARGET_TARGET →
     Answers .queuePush s fun t => t.rdata = 0xFE ∧ t.regs = s.regs ∧ t.tbl = s.tbl ∧ t.mem = s.mem) ∧
  (∀ (h : Fin 48) (e : QEntry) (s : State), s.tbl.firstEntry = some (h, e) → s.pwmClk = true →
     Answers .queueEntryFire s fun t =>
     t.tbl.queue[h] = none ∧ (∀ k : Fin 48, k ≠ h → t.tbl.queue[k] = s.tbl.queue[k]) ∧ t.mem = s.mem) ∧
  (∀ (k : BitVec 6) (hk : k.toNat < 48) (e : QEntry) (s : State), (s.tbl.queue[k.toNat]'hk) = some e → s.pwmClk = true →
     Answers (.queueCancel k) s fun t =>
     (t.tbl.queue[k.toNat]'hk) = none ∧ t.get Fd.TBL_QSTATUS_LEVEL = t.tbl.level ∧ t.mem = s.mem) ∧
  (∀ (k : BitVec 6) (hk : k.toNat < 48) (e : QEntry) (s : State), (s.tbl.queue[k.toNat]'hk) = some e → s.pwmClk = true → s.landing = false →
     e.time ≤ (s.advance 2).tbl.count → s.tbl.level ≤ 1 → (s.advance 2).tbl.firedNow = 0 → s.suppressed = false →
     Answers (.queueCancel k) s fun t =>
     t.flag Ev.TBL_QSTATUS_CANMISS = true ∧ (∃ l ∈ t.tbl.inflight, l.target = e.target) ∧ t.mem = s.mem) ∧
  (∀ (k : BitVec 6) (hk : k.toNat < 48) (s : State), (s.tbl.queue[k.toNat]'hk) = none → s.pwmClk = true → s.landing = false →
     Answers (.queueCancel k) s fun t => t.flag Ev.TBL_QSTATUS_CANMISS = true ∧ t.tbl = (s.advance 2).tbl ∧ t.mem = s.mem) ∧
  (∀ s : State, s.pwmClk = true → Answers .queueFlush s fun t =>
     (∀ k : Fin 48, t.tbl.queue[k] = none) ∧ t.get Fd.TBL_QSTATUS_LEVEL = 0 ∧ t.mem = s.mem)

/-- R49–R53: a source that fires puts a launch in flight to every enabled target that selects it, unless launches are
suppressed. It is said of software launches, trigger pins and forwarded events. R56, R58: a launch of target 100 + j
drives TRGOUTj by its mode (a pulse, a toggle, high, low); a running pulse ends low; the hold of launches ends by
RESUME while the sync PLL is locked. -/
def Obligations.LaunchSourcesAndTriggers : Prop :=
  (∀ (v : BitVec 16) (i g : Nat) (s : State), i < 16 → v.getLsbD i = true → g < 112 → s.selects g (84 + i) = true →
     s.suppressed = false → s.pwmClk = true → Answers (.softwareLaunch v) s fun t => (∃ l ∈ t.tbl.inflight, l.target = g) ∧ t.mem = s.mem) ∧
  (∀ (i : Fin 8) (rising : Bool) (held g : Nat) (s : State), s.tbl.trgin.getLsbD i.val = !rising → s.pwmClk = true →
     s.get (Fd.TBL_TRGIN_CFG_FILT i) ≤ held → (s.get (Fd.TBL_TRGIN_CFG_EDGE i)).testBit (if rising then 0 else 1) = true → g < 112 →
     s.selects g (16 + i.val) = true → s.suppressed = false →
     Answers (.trginEdge i ⟨rising, held⟩) s fun t =>
     t.tbl.trgin.getLsbD i.val = rising ∧ (∃ l ∈ t.tbl.inflight, l.target = g) ∧ t.mem = s.mem) ∧
  (∀ (i : Fin 8) (rising : Bool) (held : Nat) (s : State), held < s.get (Fd.TBL_TRGIN_CFG_FILT i) ∨ s.pwmClk = false →
     exec (.trginEdge i ⟨rising, held⟩) s = .next s) ∧
  (∀ (l : Fin 4) (c : Fin 8) (e : FwdEvent) (g : Nat) (s : State),
     firstFwd (24 + 8 * l.val + c.val) s.tbl.fwdIn = some e → e.late = true → s.pwmClk = true →
     g < 112 → s.selects g e.src = true → s.suppressed = false →
     Answers (.forwardedEventFire l c) s fun t =>
     t.tbl.fwdIn = s.tbl.fwdIn.erase e ∧ (∃ l ∈ t.tbl.inflight, l.target = g) ∧ t.mem = s.mem) ∧
  (∀ (j : Fin 8) (l : Launch) (s : State), s.launchOf (100 + j.val) = some l → s.pwmClk = true →
     Answers (.trgoutLaunch j) s fun t =>
     t.tbl.inflight = s.tbl.inflight.erase l ∧ t.regs = s.regs ∧ t.mem = s.mem ∧
     t.tbl.trgout.getLsbD j.val =
     (match s.get (Fd.TBL_TRGOUT_CFG_MODE j) with
     | 0 => true | 1 => !s.tbl.trgout.getLsbD j.val | 2 => true | _ => false) ∧
     t.tbl.pulse[j] = if s.get (Fd.TBL_TRGOUT_CFG_MODE j) = 0 then some (max 1 (s.get (Fd.TBL_TRGOUT_CFG_WIDTH j))) else none) ∧
  (∀ (j : Fin 8) (s : State), s.pwmClk = false → exec (.trgoutLaunch j) s = .next s) ∧
  (∀ (j : Fin 8) (w : Nat) (s : State), s.tbl.pulse[j] = some w → s.pwmClk = true →
     Answers (.trgoutPulseEnd j) s fun t =>
     t.tbl.trgout.getLsbD j.val = false ∧ t.tbl.pulse[j] = none ∧ t.now = s.now + 40 * w ∧ t.mem = s.mem) ∧
  (∀ s : State, s.on Fd.PLL_STATUS_SYNCLOCK = true → Answers .launchHoldResume s fun t =>
     t.get Fd.TBL_STATUS_HOLD = 0 ∧ SameRegistersBut [Reg.TBL_STATUS] s t ∧ t.mem = s.mem ∧ t.tbl = s.tbl)

/-- R65, R66, R67: a relock clears the lock bit and restarts the lock phases; a PLL in its lock phases with its reference
present locks, not before the band search has passed, takes its band and, for the sync PLL, has a deterministic phase;
one without its reference stays as it is; a loss of lock sets its flag and restarts the lock phases. R67: the loss of
a reference sets REFLOSS and puts a locked PLL in holdover; its return ends the holdover, and a sync PLL that held
over no longer has a deterministic phase. Only PLL's status and flags, and the count of the flag, change. R69, R70,
R72, R73: GO catches every divider and clock-output shadow and sets PEND, a second GO while PEND is 1 does nothing;
the second reference edge, at least 40 ns on, takes what was caught and clears PEND; an output in format 0 stays off
without an error. -/
def Obligations.PllLockAndDividers : Prop :=
  (∀ s : State, Answers .relockSys s fun t => t.get Fd.PLL_STATUS_SYSLOCK = 0 ∧ t.pll.sysLocking = true ∧
     (Undisturbed s → t.mem = s.mem)) ∧
  (∀ s : State, Answers .relockSync s fun t =>
     t.get Fd.PLL_STATUS_SYNCLOCK = 0 ∧ t.pll.syncLocking = true ∧ t.get Fd.TBL_STATUS_HOLD = 1 ∧ (Undisturbed s → t.mem = s.mem)) ∧
  (∀ (band : Fin 32) (s : State), s.pll.sysLocking = true → s.pll.sysRefLost = false → s.parked = [] →
     Answers (.pllLockComplete .sys band) s fun t =>
       t.get Fd.PLL_STATUS_SYSLOCK = 1 ∧ t.get Fd.PLL_STATUS_SYSBAND = band.val ∧ t.pll.sysLocking = false ∧
       SameRegistersBut [Reg.PLL_STATUS, Reg.PLL_CKOUTSTAT] s t ∧ t.mem = s.mem ∧ s.pll.sysSince + 204800 ≤ t.now) ∧
  (∀ (band : Fin 32) (s : State), s.pll.syncLocking = true → s.pll.syncRefLost = false → s.pll.syncStopped = false → s.tbl.stepWait = [] →
     s.pll.mclkEn = 0 → s.parked = [] → (∀ k : Fin 12, s.on (Fd.DRIVE_G_CFG_LANEEN k) = false) →
     Answers (.pllLockComplete .sync band) s fun t =>
       t.get Fd.PLL_STATUS_SYNCLOCK = 1 ∧ t.get Fd.PLL_STATUS_SYNCBAND = band.val ∧ t.get Fd.PLL_STATUS_PHASEDET = 1 ∧
       t.pll.syncLocking = false ∧ t.pll.syncRefInUse = s.pll.syncRefInUse ∧
       SameRegistersBut [Reg.PLL_STATUS, Reg.PLL_CKOUTSTAT] s t ∧ t.mem = s.mem ∧ s.pll.syncSince + 204800 ≤ t.now) ∧
  (∀ (band : Fin 32) (s : State), s.pll.syncLocking = true → s.pll.syncRefLost = false → s.pll.syncStopped = true → s.tbl.stepWait = [] →
    s.parked = [] →
     Answers (.pllLockComplete .sync band) s fun t =>
       t.get Fd.PLL_STATUS_SYNCLOCK = 1 ∧ t.get Fd.PLL_STATUS_SYNCBAND = band.val ∧ t.get Fd.PLL_STATUS_PHASEDET = 1 ∧
       t.pll.syncLocking = false ∧ t.pll.syncStopped = false ∧ (Undisturbed s → t.mem = s.mem) ∧ s.pll.syncSince + 204800 ≤ t.now) ∧
  (∀ (band : Fin 32) (s : State), s.pll.sysRefLost = true → s.parked = [] → exec (.pllLockComplete .sys band) s = .next s) ∧
  (∀ (band : Fin 32) (s : State), s.pll.syncRefLost = true → s.parked = [] → exec (.pllLockComplete .sync band) s = .next s) ∧
  (∀ s : State, s.on Fd.PLL_STATUS_SYNCLOCK = true → Answers .syncPllLossOfLock s fun t =>
     t.flag Ev.PLL_FLAGS_SYNCLOL = true ∧ t.get Fd.PLL_STATUS_SYNCLOCK = 0 ∧ t.pll.syncLocking = true ∧
     (Undisturbed s → t.mem = s.mem)) ∧
  (∀ s : State, s.on Fd.PLL_STATUS_SYSLOCK = true → Answers .sysPllLossOfLock s fun t =>
     t.flag Ev.PLL_FLAGS_SYSLOL = true ∧ t.get Fd.PLL_STATUS_SYSLOCK = 0 ∧ t.pll.sysLocking = true ∧
     (Undisturbed s → t.mem = s.mem)) ∧
  (∀ s : State, s.on Fd.PLL_STATUS_SYSLOCK = true → Answers (.referenceLoss .sys) s fun t =>
     t.flag Ev.PLL_FLAGS_REFLOSS = true ∧ t.get Fd.PLL_STATUS_SYSHOLD = 1 ∧ t.get Fd.PLL_STATUS_SYSLOCK = 1 ∧
     t.pll.sysRefLost = true ∧ SameRegistersBut [Reg.PLL_STATUS, Reg.PLL_FLAGS, Reg.PLL_EVCNT 2] s t ∧ t.mem = s.mem) ∧
  (∀ s : State, s.on Fd.PLL_STATUS_SYNCLOCK = true → Answers (.referenceLoss .sync) s fun t =>
     t.flag Ev.PLL_FLAGS_REFLOSS = true ∧ t.get Fd.PLL_STATUS_SYNCHOLD = 1 ∧ t.get Fd.PLL_STATUS_SYNCLOCK = 1 ∧
     t.pll.syncRefLost = true ∧ SameRegistersBut [Reg.PLL_STATUS, Reg.PLL_FLAGS, Reg.PLL_EVCNT 2] s t ∧ t.mem = s.mem) ∧
  (∀ s : State, Answers (.referenceReturn .sys) s fun t =>
     t.get Fd.PLL_STATUS_SYSHOLD = 0 ∧ t.get Fd.PLL_STATUS_SYSLOCK = s.get Fd.PLL_STATUS_SYSLOCK ∧ t.pll.sysRefLost = false ∧
     SameRegistersBut [Reg.PLL_STATUS] s t ∧ t.mem = s.mem) ∧
  (∀ s : State, Answers (.referenceReturn .sync) s fun t =>
     t.get Fd.PLL_STATUS_SYNCHOLD = 0 ∧ t.pll.syncRefLost = false ∧
     t.get Fd.PLL_STATUS_PHASEDET = (if s.on Fd.PLL_STATUS_SYNCHOLD = true then 0 else s.get Fd.PLL_STATUS_PHASEDET) ∧
     SameRegistersBut [Reg.PLL_STATUS] s t ∧ t.mem = s.mem) ∧
  (∀ s : State, s.on Fd.PLL_UPDATE_PEND = false → Answers .pllUpdateGo s fun t =>
     t.get Fd.PLL_UPDATE_PEND = 1 ∧
     t.pll.caught = some (Vector.ofFn fun g : Fin 7 => s.rd (Reg.PLL_MCLKDIV g), Vector.ofFn fun n : Fin 8 => s.rd (Reg.PLL_CKOUT n)) ∧
     SameRegistersBut [Reg.PLL_UPDATE] s t ∧ t.mem = s.mem) ∧
  (∀ s : State, s.on Fd.PLL_UPDATE_PEND = true → exec .pllUpdateGo s = .next (s.advance 2)) ∧
  (∀ (vck : Vector Supply 8) (mclk : Vector Word 7) (ck : Vector Word 8) (g : Fin 7) (s : State), s.pll.caught = some (mclk, ck) →
    s.pll.syncRefLost = false → s.parked = [] →
     (∀ n : Fin 56, s.on (Fd.MODIN_IN_CFG_EN n) = false) →
     Answers (.pllUpdateApply vck) s fun t =>
       s.pll.pendAt + 640 ≤ t.now ∧ t.get Fd.PLL_UPDATE_PEND = 0 ∧ t.pll.caught = none ∧
         t.get (Fd.PLL_MCLKDIV_ACTDIV g) = cut mclk[g].toNat 0 10 ∧
       t.pll.mclkEn.getLsbD g.val = mclk[g].getLsbD 15 ∧ t.mem = s.mem) ∧
  (∀ (vck : Vector Supply 8) (mclk : Vector Word 7) (ck : Vector Word 8) (n : Fin 8) (s : State), s.pll.caught = some (mclk, ck) →
    s.pll.syncRefLost = false → s.parked = [] →
     (∀ n : Fin 56, s.on (Fd.MODIN_IN_CFG_EN n) = false) → cut ck[n].toNat 16 3 = 0 →
     Answers (.pllUpdateApply vck) s fun t =>
       t.pll.ckout[n] = ck[n] ∧ (t.get Fd.PLL_CKOUTSTAT_ERR).testBit n.val = false ∧
       (t.get Fd.PLL_CKOUTSTAT_ACTIVE).testBit n.val = false ∧ t.mem = s.mem)

/-- R86–R95: an enabled input of a running group that decimates freely issues its next result: the register and the sample
bus carry the same value, the stamp is the span centre less the external delay, a valid result is the main filter's
value of the bits received up to the newest reference edge, saturated to Q1.31, an invalid one is 0. A pending capture
strobe selects the output issued in strobe mode. -/
def Obligations.ModinResults : Prop :=
  (∀ (n : Fin 56) (line : List MdatPeriod) (s : State), s.on (Fd.MODIN_IN_CFG_EN n) = true → s.mclkOn (grpOf n) = true →
     s.on (Fd.MODIN_GCFG_DEC (grpOf n)) = false →
     Answers (.mainResultIssue n line) s fun t =>
       t.modin.inputs[n].lastEdge = s.nextFree n ∧ t.rd (Reg.MODIN_IN_RES n) = t.samples[n.val]!.value ∧
       t.on (Fd.MODIN_IN_FLAGS_VALID n) = t.samples[n.val]!.valid ∧
       t.samples[n.val]!.stamp = enc 64 ((s.reachNow (s.nextFree n + 8 * s.mclkT (grpOf n))).countAt2
         (2 * (s.nextFree n : Int) - s.get (Fd.MODIN_IN_CFG_ORD n) * ((s.get (Fd.MODIN_IN_CFG_OSR n) : Int) - 1) * s.mclkT (grpOf n))
         - s.get (Fd.MODIN_GEXTDLY_EXTDLY (grpOf n))) ∧
       (t.samples[n.val]!.valid = true → t.samples[n.val]!.value.toInt = satTo 32
         (mainValue (s.on (Fd.MODIN_IN_CFG_INV n)) (s.get (Fd.MODIN_IN_CFG_ORD n)) (s.get (Fd.MODIN_IN_CFG_OSR n))
           ((s.received n line).take ((s.received n line).length - (8 - s.bitDelay (grpOf n)))))) ∧
       (t.samples[n.val]!.valid = false → t.samples[n.val]!.value = 0) ∧ (Undisturbed s → t.mem = s.mem)) ∧
  (∀ (n : Fin 56) (line : List MdatPeriod) (b : Strobe) (s : State), s.on (Fd.MODIN_IN_CFG_EN n) = true → s.mclkOn (grpOf n) = true →
     s.on (Fd.MODIN_GCFG_DEC (grpOf n)) = true →
     s.modin.strobes[grpOf n].find? (fun b => b.left.getLsbD (n.val % 8)) = some b →
     Answers (.mainResultIssue n line) s fun t =>
       t.modin.inputs[n].lastEdge = s.edgeOf n b.time ∧ t.rd (Reg.MODIN_IN_RES n) = t.samples[n.val]!.value ∧
       t.on (Fd.MODIN_IN_FLAGS_VALID n) = t.samples[n.val]!.valid ∧ (Undisturbed s → t.mem = s.mem)) ∧
  (∀ (n : Fin 56) (line : List MdatPeriod) (s : State), s.on (Fd.MODIN_IN_CFG_EN n) = false → exec (.mainResultIssue n line) s = .next s)

/-- R91, R92: a capture strobe at a group in strobe mode waits with one result owed by every enabled input; while four
wait a fifth is dropped with STBOVF; without a running MCLK the strobe is lost. R96, R97: with every one of the last
DEB + 1 fast-filter outputs beyond its threshold an enabled comparator sets its flag and holds its force line; the
first output back inside releases it; the latest output is in the FAST register. Too few bits change nothing. -/
def Obligations.StrobesAndComparators : Prop :=
  (∀ (g : Fin 7) (l : Launch) (s : State), s.pmu.clocksOff = false → s.launchOf (48 + g.val) = some l → s.mclkOn g = true →
    s.on (Fd.MODIN_GCFG_DEC g) = true →
     s.modin.strobes[g].length < 4 → (∃ n : Fin 56, grpOf n = g ∧ s.on (Fd.MODIN_IN_CFG_EN n) = true) →
     Answers (.captureStrobe g) s fun t =>
       t.tbl.inflight = s.tbl.inflight.erase l ∧ t.modin.strobes[g].length = s.modin.strobes[g].length + 1 ∧
       t.modin.strobes[g].take s.modin.strobes[g].length = s.modin.strobes[g] ∧
       t.modin.strobes[g].getLast?.map (·.time) = some ((s.reachNow (l.matched + 80 + 2 * s.mclkT g)).nowAt l.exact) ∧
       (∀ n : Fin 56, grpOf n = g →
         t.modin.strobes[g].getLast?.map (·.left.getLsbD (n.val % 8)) = some (s.on (Fd.MODIN_IN_CFG_EN n))) ∧
       t.regs = s.regs ∧ t.mem = s.mem) ∧
  (∀ (g : Fin 7) (l : Launch) (s : State), s.pmu.clocksOff = false → s.launchOf (48 + g.val) = some l → s.mclkOn g = true →
    s.on (Fd.MODIN_GCFG_DEC g) = true →
     4 ≤ s.modin.strobes[g].length →
     Answers (.captureStrobe g) s fun t =>
       t.flag (Ev.MODIN_GFLAGSG_STBOVF g) = true ∧ t.modin = s.modin ∧ t.tbl.inflight = s.tbl.inflight.erase l ∧ t.mem = s.mem) ∧
  (∀ (g : Fin 7) (l : Launch) (s : State), s.pmu.clocksOff = false → s.launchOf (48 + g.val) = some l → s.mclkOn g = false →
     Answers (.captureStrobe g) s fun t =>
       t.modin = s.modin ∧ t.tbl.inflight = s.tbl.inflight.erase l ∧ t.regs = s.regs ∧ t.mem = s.mem) ∧
  (∀ (n : Fin 56) (line : List MdatPeriod) (vs : List Int) (s : State), s.on (Fd.MODIN_IN_CFG_EN n) = true → s.mclkOn (grpOf n) = true →
     s.ocEnabled n true = true → s.fastOf n (cut (s.ocCfg n) 4 4 + 1) (s.received n line) = some vs →
     (vs.zipIdx.all fun e => s.ocCond n true (vs.length - 1 - e.2) e.1) = true →
     Answers (.overcurrentAssert n true line) s fun t =>
       t.flag (Ev.MODIN_IN_FLAGS_OCHI n) = true ∧ t.modin.inputs[n].hi = true ∧ t.modin.inputs[n].lo = s.modin.inputs[n].lo ∧
       t.rd (Reg.MODIN_IN_FAST n) = BitVec.ofInt 32 (vs.getLast?.getD 0) ∧ t.pwm.modLines.getLsbD (2 * n.val) = true ∧
       (Undisturbed s → t.mem = s.mem)) ∧
  (∀ (n : Fin 56) (line : List MdatPeriod) (vs : List Int) (s : State), s.on (Fd.MODIN_IN_CFG_EN n) = true → s.mclkOn (grpOf n) = true →
     s.ocEnabled n false = true → s.fastOf n (cut (s.ocCfg n) 4 4 + 1) (s.received n line) = some vs →
     (vs.zipIdx.all fun e => s.ocCond n false (vs.length - 1 - e.2) e.1) = true →
     Answers (.overcurrentAssert n false line) s fun t =>
       t.flag (Ev.MODIN_IN_FLAGS_OCLO n) = true ∧ t.modin.inputs[n].lo = true ∧ t.modin.inputs[n].hi = s.modin.inputs[n].hi ∧
       t.pwm.modLines.getLsbD (2 * n.val + 1) = true ∧ (Undisturbed s → t.mem = s.mem)) ∧
  (∀ (n : Fin 56) (hi : Bool) (line : List MdatPeriod) (s : State), s.fastOf n (cut (s.ocCfg n) 4 4 + 1) (s.received n line) = none →
     exec (.overcurrentAssert n hi line) s = .next s) ∧
  (∀ (n : Fin 56) (hi : Bool) (line : List MdatPeriod) (v : Int) (s : State), s.on (Fd.MODIN_IN_CFG_EN n) = true →
    s.mclkOn (grpOf n) = true →
     s.fastOf n 1 (s.received n line) = some [v] → s.ocEnabled n hi = false ∨ s.ocCond n hi 0 v = false →
     Answers (.overcurrentDeassert n hi line) s fun t =>
       (if hi then t.modin.inputs[n].hi else t.modin.inputs[n].lo) = false ∧
       (if hi then t.modin.inputs[n].lo = s.modin.inputs[n].lo else t.modin.inputs[n].hi = s.modin.inputs[n].hi) ∧
       t.rd (Reg.MODIN_IN_FAST n) = BitVec.ofInt 32 v ∧ (Undisturbed s → t.mem = s.mem))

/-- R99, R100: a lost clock, a run of identical bits and Manchester violations set their flags and make the input faulty
(MANVTHR violations within 256 cells, the first of them with a threshold of 1); the fault's end clears it. R101, R102:
a write that enables an enabled input, and one whose fields are out of range, is refused with CFGERR and changes
nothing else; a good write is stored, and enabling starts the filters cleared; EN = 0 disables; a group's
configuration is written only while none of its inputs is enabled. -/
def Obligations.ModinHealthAndConfiguration : Prop :=
  (∀ (n : Fin 56) (missing : Nat) (s : State), s.on (Fd.MODIN_IN_CFG_EN n) = true → 4 ≤ missing → s.checked n missing = true →
     Answers (.clklossDetect ⟨n, missing⟩) s fun t =>
     t.flag (Ev.MODIN_IN_FLAGS_CLKLOSS n) = true ∧ t.modin.inputs[n].clk = true ∧ t.get (Fd.MODIN_IN_FLAGS_FAULT n) = 1 ∧
     (Undisturbed s → t.mem = s.mem)) ∧
  (∀ (n : Fin 56) (missing : Nat) (s : State), missing < (if s.get (Fd.MODIN_GCFG_MODE (grpOf n)) = 0 then 4 else 2) →
     exec (.clklossDetect ⟨n, missing⟩) s = .next s) ∧
  (∀ (n : Fin 56) (line : List MdatPeriod) (s : State), s.on (Fd.MODIN_IN_CFG_EN n) = true → s.mclkOn (grpOf n) = true →
     s.runLimit n ≠ 0 → alike (s.runLimit n + 1) (s.sinceStart n (s.received n line)) = true →
     Answers (.stuckDetect ⟨n, line⟩) s fun t =>
       t.flag (Ev.MODIN_IN_FLAGS_STUCK n) = true ∧ t.modin.inputs[n].stuck = true ∧ t.get (Fd.MODIN_IN_FLAGS_FAULT n) = 1 ∧
       (Undisturbed s → t.mem = s.mem)) ∧
  (∀ (n : Fin 56) (line : List MdatPeriod) (s : State),
     s.runLimit n = 0 ∨ alike (s.runLimit n + 1) (s.sinceStart n (s.received n line)) = false →
     exec (.stuckDetect ⟨n, line⟩) s = .next s) ∧
  (∀ (n : Fin 56) (cell : BitVec 2) (s : State), s.on (Fd.MODIN_IN_CFG_EN n) = true → s.get (Fd.MODIN_GCFG_MODE (grpOf n)) = 1 →
    s.pmu.clocksOff = false →
     cell.getLsbD 0 = cell.getLsbD 1 →
     Answers (.manchesterViolation ⟨n, cell⟩) s fun t =>
       t.flag (Ev.MODIN_IN_FLAGS_MANV n) = true ∧
       (s.get (Fd.MODIN_IN_HCFG_MANVTHR n) = 1 → t.modin.inputs[n].manv = true ∧
         t.modin.inputs[n].manvEnd = t.now + 256 * s.mclkT (grpOf n)) ∧ (Undisturbed s → t.mem = s.mem)) ∧
  (∀ (n : Fin 56) (absent : Nat) (s : State), s.modin.inputs[n].clk = true → s.absentLong n s.modin.inputs[n].clkAt absent = true →
     Answers (.healthFaultEnd n ⟨.clkloss, absent⟩) s fun t =>
     t.modin.inputs[n].clk = false ∧ t.modin.inputs[n].stuck = s.modin.inputs[n].stuck ∧ (Undisturbed s → t.mem = s.mem)) ∧
  (∀ (n : Fin 56) (absent : Nat) (s : State), s.modin.inputs[n].stuck = true → s.absentLong n s.modin.inputs[n].stuckAt absent = true →
     Answers (.healthFaultEnd n ⟨.stuck, absent⟩) s fun t =>
     t.modin.inputs[n].stuck = false ∧ t.modin.inputs[n].clk = s.modin.inputs[n].clk ∧ (Undisturbed s → t.mem = s.mem)) ∧
  (∀ (n : Fin 56) (absent : Nat) (s : State), s.modin.inputs[n].manv = true → s.mclkOn (grpOf n) = true →
    Answers (.healthFaultEnd n ⟨.manv, absent⟩) s fun t =>
     t.modin.inputs[n].manv = false ∧ s.modin.inputs[n].manvEnd ≤ t.now ∧ (Undisturbed s → t.mem = s.mem)) ∧
  (∀ (n : Fin 56) (v : Word) (s : State), s.on (Fd.MODIN_IN_CFG_EN n) = true → s.parked = [] → v.getLsbD 0 = true →
     Answers (.inputCfgWrite n v) s fun t =>
       t.flag Ev.MODIN_GFLAGS_CFGERR = true ∧ SameRegistersBut [Reg.MODIN_GFLAGS, Reg.MODIN_CFGERRCNT] s t ∧ t.modin = s.modin ∧
         t.mem = s.mem) ∧
  (∀ (n : Fin 56) (v : Word) (s : State), s.on (Fd.MODIN_IN_CFG_EN n) = true → s.parked = [] → s.mclkOn (grpOf n) = true →
    v.getLsbD 0 = false →
     Answers (.inputCfgWrite n v) s fun t =>
       t.get (Fd.MODIN_IN_CFG_EN n) = 0 ∧ t.get (Fd.MODIN_IN_FLAGS_FAULT n) = 0 ∧ t.modin.inputs[n] = {} ∧ (Undisturbed s →
         t.mem = s.mem)) ∧
  (∀ (n : Fin 56) (v : Word) (s : State), s.on (Fd.MODIN_IN_CFG_EN n) = true → s.parked = [] → s.mclkOn (grpOf n) = false →
    v.getLsbD 0 = false →
     Answers (.inputCfgWrite n v) s fun t =>
       (t.regView (Reg.MODIN_IN_CFG n)).testBit 0 = false ∧ t.regs = s.regs ∧ t.modin = s.modin ∧ t.mem = s.mem) ∧
  (∀ (n : Fin 56) (v : Word) (s : State), s.on (Fd.MODIN_IN_CFG_EN n) = false → s.parked = [] → inCfgOk v.toNat = false →
     Answers (.inputCfgWrite n v) s fun t =>
       t.flag Ev.MODIN_GFLAGS_CFGERR = true ∧ SameRegistersBut [Reg.MODIN_GFLAGS, Reg.MODIN_CFGERRCNT] s t ∧ t.modin = s.modin ∧
         t.mem = s.mem) ∧
  (∀ (n : Fin 56) (v : Word) (s : State), s.on (Fd.MODIN_IN_CFG_EN n) = false → s.parked = [] → s.landing = false →
    s.mclkOn (grpOf n) = true → inCfgOk v.toNat = true → v.getLsbD 0 = true →
     s.get (Fd.MODIN_GCFG_MODE (grpOf n)) < 2 → 128 ≤ s.get (Fd.PLL_MCLKDIV_ACTDIV (grpOf n)) →
     Answers (.inputCfgWrite n v) s fun t =>
       t.get (Fd.MODIN_IN_CFG_EN n) = 1 ∧ t.get (Fd.MODIN_IN_CFG_ORD n) = cut v.toNat 1 3 ∧
       t.get (Fd.MODIN_IN_CFG_OSR n) = cut v.toNat 4 11 ∧ t.get (Fd.MODIN_IN_CFG_FORD n) = cut v.toNat 16 2 ∧
       t.get (Fd.MODIN_IN_CFG_FOSR n) = cut v.toNat 18 7 ∧ t.settling n = true ∧
       t.modin.inputs[n].restart = s.edgeFrom (grpOf n) (s.now + 2 * s.mclkT (grpOf n) + 1) ∧
       SameRegistersBut [Reg.MODIN_IN_CFG n] s t ∧ t.mem = s.mem) ∧
  (∀ (n : Fin 56) (v : Word) (s : State), s.on (Fd.MODIN_IN_CFG_EN n) = false → s.parked = [] → inCfgOk v.toNat = true →
    v.getLsbD 0 = false →
     Answers (.inputCfgWrite n v) s fun t =>
       t.rd (Reg.MODIN_IN_CFG n) = v &&& 0x07FF7FFF#32 ∧ SameRegistersBut [Reg.MODIN_IN_CFG n] s t ∧ t.modin = s.modin ∧ t.mem = s.mem) ∧
  (∀ (g : Fin 7) (v : Word) (s : State), (∀ n : Fin 56, grpOf n = g → s.on (Fd.MODIN_IN_CFG_EN n) = false) → s.parked = [] →
    s.mclkOn g = true →
     Answers (.groupCfgWrite g v) s fun t =>
       t.rd (Reg.MODIN_GCFG g) = v &&& 0x7F7F#32 ∧ SameRegistersBut [Reg.MODIN_GCFG g] s t ∧ t.mem = s.mem) ∧
  (∀ (g : Fin 7) (v : Word) (s : State), (∀ n : Fin 56, grpOf n = g → s.on (Fd.MODIN_IN_CFG_EN n) = false) → s.parked = [] →
    s.mclkOn g = false →
     exec (.groupCfgWrite g v) s = .next { s with parked := [(Reg.MODIN_GCFG g, v)] }) ∧
  (∀ (g : Fin 7) (v : Word) (n : Fin 56) (s : State), grpOf n = g → s.on (Fd.MODIN_IN_CFG_EN n) = true → s.parked = [] →
     Answers (.groupCfgWrite g v) s fun t =>
       t.flag Ev.MODIN_GFLAGS_CFGERR = true ∧ SameRegistersBut [Reg.MODIN_GFLAGS, Reg.MODIN_CFGERRCNT] s t ∧ t.mem = s.mem)

/-- R113, R114, R116, R117, R121: SINGLE and the calibrations start a conversion of the selected input when nothing runs,
and an invalid select is refused with BADWORD; LISTGO starts the list at FIRST; LISTSTOP stops a list of which no
entry converts, at once; a write of ACU_CFG takes OSR only while nothing runs. -/
def Obligations.AcuCommands : Prop :=
  (∀ s : State, selOk (s.get Fd.ACU_CHSEL_CH) (s.get Fd.ACU_CHSEL_OSR) = true → s.acu.run = none → s.on Fd.ACU_STATUS_LISTRUN = false →
     s.pmu.warned = false →
     Answers .acuSingle s fun t =>
       t.acu.run = some (s.asked .single (s.get Fd.ACU_CHSEL_CH) (s.acuOsr (s.get Fd.ACU_CHSEL_OSR))) ∧ t.get Fd.ACU_STATUS_BUSY = 1 ∧
       SameRegistersBut [Reg.ACU_STATUS] s t ∧ t.mem = s.mem) ∧
  (∀ s : State, selOk (s.get Fd.ACU_CHSEL_CH) (s.get Fd.ACU_CHSEL_OSR) = false →
     Answers .acuSingle s fun t =>
       t.flag Ev.ACU_FLAGS_REFUSED = true ∧ t.flag Ev.ACU_FLAGS_BADWORD = true ∧ t.acu = s.acu ∧ t.mem = s.mem) ∧
  (∀ s : State, s.on Fd.ACU_STATUS_LISTRUN = false → s.acu.cal = none → s.pmu.warned = false → s.acu.run.isSome = true →
     Answers .acuListgo s fun t =>
       t.get Fd.ACU_STATUS_LISTRUN = 1 ∧ t.get Fd.ACU_STATUS_IDX = s.get Fd.ACU_LISTCTRL_FIRST ∧ t.acu.run = s.acu.run ∧ t.mem = s.mem) ∧
  (∀ s : State, s.on Fd.ACU_STATUS_LISTRUN = false → s.acu.cal = none → s.pmu.warned = false → s.acu.run = none → s.acu.urgent = 0 →
     s.acu.interrupted = none → s.on Fd.ACU_CFG_PACE = false →
     Answers .acuListgo s fun t =>
       t.get Fd.ACU_STATUS_LISTRUN = 1 ∧ t.get Fd.ACU_STATUS_IDX = s.get Fd.ACU_LISTCTRL_FIRST ∧
       t.acu.run = some (s.asked .list 0 0) ∧ t.get Fd.ACU_STATUS_BUSY = 1 ∧ t.mem = s.mem) ∧
  (∀ s : State, s.on Fd.ACU_STATUS_LISTRUN = true → Answers .acuListgo s fun t => t.flag Ev.ACU_FLAGS_REFUSED = true ∧ t.acu = s.acu ∧
    t.mem = s.mem) ∧
  (∀ s : State, s.on Fd.ACU_STATUS_LISTRUN = true → s.acu.run = none → s.acu.interrupted = none → Answers .acuListstop s fun t =>
     t.get Fd.ACU_STATUS_LISTRUN = 0 ∧ t.get Fd.ACU_STATUS_STEPPEND = 0 ∧ SameRegistersBut [Reg.ACU_STATUS] s t ∧ t.mem = s.mem) ∧
  (∀ (c : AcuConv) (s : State), s.on Fd.ACU_STATUS_LISTRUN = true → s.acu.run = some c → c.kind = .list → Answers .acuListstop s fun t =>
     t.acu = { s.acu with stopping := true } ∧ t.regs = s.regs ∧ t.mem = s.mem) ∧
  (∀ s : State, selOk (s.get Fd.ACU_CALCH_CH) (s.get Fd.ACU_CALCH_OSR) = true → s.acu.run = none → s.on Fd.ACU_STATUS_LISTRUN = false →
     s.pmu.warned = false → s.acu.urgent = 0 → s.acu.interrupted = none →
     Answers .acuCalzero s fun t =>
       t.acu.cal = some ⟨false, s.get Fd.ACU_CALCH_CH, s.acuOsr (s.get Fd.ACU_CALCH_OSR), 2 ^ min 8 (s.get Fd.ACU_CALCH_AVG), 0, 0⟩ ∧
       t.acu.run = some (s.asked .cal (s.get Fd.ACU_CALCH_CH) (s.acuOsr (s.get Fd.ACU_CALCH_OSR))) ∧ t.get Fd.ACU_STATUS_CALRUN = 1 ∧
       SameRegistersBut [Reg.ACU_STATUS] s t ∧ t.mem = s.mem) ∧
  (∀ s : State, selOk (s.get Fd.ACU_CALCH_CH) (s.get Fd.ACU_CALCH_OSR) = true → s.acu.run = none → s.on Fd.ACU_STATUS_LISTRUN = false →
     s.pmu.warned = false → s.acu.urgent = 0 → s.acu.interrupted = none →
     Answers .acuCalfull s fun t =>
       t.acu.cal = some ⟨true, s.get Fd.ACU_CALCH_CH, s.acuOsr (s.get Fd.ACU_CALCH_OSR), 2 ^ min 8 (s.get Fd.ACU_CALCH_AVG), 0, 0⟩ ∧
       t.acu.run = some (s.asked .cal (s.get Fd.ACU_CALCH_CH) (s.acuOsr (s.get Fd.ACU_CALCH_OSR))) ∧ t.get Fd.ACU_STATUS_CALRUN = 1 ∧
       SameRegistersBut [Reg.ACU_STATUS] s t ∧ t.mem = s.mem) ∧
  (∀ (v : Word) (s : State), s.acu.run = none → s.on Fd.ACU_STATUS_LISTRUN = false → 256 ≤ cut v.toNat 16 13 → cut v.toNat 16 13 ≤ 4096 →
     Answers (.acuCfgWrite v) s fun t =>
       t.get Fd.ACU_CFG_URGMODE = cut v.toNat 0 1 ∧ t.get Fd.ACU_CFG_CORREN = cut v.toNat 1 1 ∧ t.get Fd.ACU_CFG_PACE = cut v.toNat 2 1 ∧
       t.get Fd.ACU_CFG_WRAP = cut v.toNat 3 1 ∧ t.get Fd.ACU_CFG_OSR = cut v.toNat 16 13 ∧
       SameRegistersBut [Reg.ACU_CFG] s t ∧ t.acu = s.acu ∧ t.mem = s.mem) ∧
  (∀ (v : Word) (s : State), s.acu.run.isSome = true → cut v.toNat 16 13 ≠ s.get Fd.ACU_CFG_OSR →
     Answers (.acuCfgWrite v) s fun t =>
       t.get Fd.ACU_CFG_URGMODE = cut v.toNat 0 1 ∧ t.get Fd.ACU_CFG_CORREN = cut v.toNat 1 1 ∧
       t.get Fd.ACU_CFG_OSR = s.get Fd.ACU_CFG_OSR ∧ t.flag Ev.ACU_FLAGS_REFUSED = true ∧ t.mem = s.mem)

/-- R116, R118, R119: an urgent request starts at once when the converter is idle and aborts a running non-urgent
conversion that was started in abort mode and whose result is not due; one that was given its command in the same
cycle waits again (R119); a third outstanding request is dropped with URGOVF. A step of a running stepped list is held
as the one pending step while a conversion runs, and a second is dropped with STEPOVF. -/
def Obligations.AcuUrgentAndSteps : Prop :=
  (∀ s : State, selOk (s.get Fd.ACU_URGSEL_CH) (s.get Fd.ACU_URGSEL_OSR) = true → s.pmu.warned = false → s.acu.run = none →
     Answers (.acuUrgent false) s fun t =>
       t.acu.run = some (s.asked .urgent 0 0) ∧ t.acu.urgent = s.acu.urgent ∧ t.get Fd.ACU_STATUS_BUSY = 1 ∧
       SameRegistersBut [Reg.ACU_STATUS] s t ∧ t.mem = s.mem) ∧
  (∀ (l : Launch) (s : State), s.launchOf 55 = some l → selOk (s.get Fd.ACU_URGSEL_CH) (s.get Fd.ACU_URGSEL_OSR) = true →
     s.pmu.warned = false → s.pmu.clocksOff = false → s.acu.run = none →
     Answers (.acuUrgent true) s fun t =>
       t.acu.run = some ((s.reachNow (l.matched + 80 + 2 * s.sysT)).asked .urgent 0 0) ∧ t.tbl.inflight = s.tbl.inflight.erase l ∧
         t.mem = s.mem) ∧
  (∀ (c : AcuConv) (s : State), selOk (s.get Fd.ACU_URGSEL_CH) (s.get Fd.ACU_URGSEL_OSR) = true → s.pmu.warned = false →
    s.acu.run = some c →
     c.kind ≠ .urgent → c.fall = false → s.acu.urgent ≤ 1 → (∀ d ∈ s.acuDue c, s.now < d) → (c.start = none → c.kind ≠ .single →
       c.asked + s.sysT ≤ s.now) →
     Answers (.acuUrgent false) s fun t =>
       t.flag Ev.ACU_FLAGS_ABORT = true ∧ t.acu.interrupted = some c ∧ t.acu.run = some (s.asked .urgent 0 0) ∧ t.mem = s.mem) ∧
  (∀ (c : AcuConv) (s : State), selOk (s.get Fd.ACU_URGSEL_CH) (s.get Fd.ACU_URGSEL_OSR) = true → s.pmu.warned = false →
    s.acu.run = some c →
     c.kind = .urgent ∨ 2 ≤ s.acu.urgent → s.acu.urgent ≠ 0 →
     Answers (.acuUrgent false) s fun t => t.flag Ev.ACU_FLAGS_URGOVF = true ∧ t.acu = s.acu ∧ t.mem = s.mem) ∧
  (∀ (l : Launch) (s : State), s.launchOf 56 = some l → s.on Fd.ACU_STATUS_LISTRUN = true → s.on Fd.ACU_CFG_PACE = true →
     s.pmu.clocksOff = false → s.on Fd.ACU_STATUS_STEPPEND = false → s.acu.run.isSome = true →
     Answers .acuListStep s fun t =>
       t.get Fd.ACU_STATUS_STEPPEND = 1 ∧ t.acu = s.acu ∧ t.tbl.inflight = s.tbl.inflight.erase l ∧ t.mem = s.mem) ∧
  (∀ (l : Launch) (s : State), s.launchOf 56 = some l → s.on Fd.ACU_STATUS_LISTRUN = true → s.on Fd.ACU_CFG_PACE = true →
     s.pmu.clocksOff = false → s.on Fd.ACU_STATUS_STEPPEND = true →
     Answers .acuListStep s fun t => t.flag Ev.ACU_FLAGS_STEPOVF = true ∧ t.acu = s.acu ∧ t.mem = s.mem)

/-- R110, R111, R112, R115, R121, R122: a list entry with an invalid select is not converted and leaves an invalid result
word; a single conversion starts at the reference edge two to three MCLK periods after its command; its result, while
the clock runs, names its input and its validity, reaches the registers 5.0 ns or more after its issue, fires source
67 and is on sample-bus channel 56; a conversion without a clock for 4 periods ends invalid with NOCLK; a calibration
entry becomes durable; the load of the calibration table, made once, ends CALLOAD. -/
def Obligations.AcuConversions : Prop :=
  (∀ (ch osr at_ : Nat) (fall corr : Bool) (s : State), s.acu.run = some ⟨.single, ch, osr, none, at_, fall, corr⟩ →
    s.mclkOn (ch / 8) = true → s.acu.lost = false → ch < 56 →
     Answers .acuConversionStart s fun t =>
       t.acu.run = some ⟨.single, ch, osr, some (s.edgeFrom (Fin.ofNat 7 (ch / 8)) (at_ + 2 * s.mclkT (ch / 8))), at_, fall, corr⟩ ∧
       s.edgeFrom (Fin.ofNat 7 (ch / 8)) (at_ + 2 * s.mclkT (ch / 8)) ≤ t.now ∧ t.regs = s.regs ∧ t.mem = s.mem) ∧
  (∀ (ch osr at_ : Nat) (fall corr : Bool) (s : State), s.acu.run = some ⟨.list, ch, osr, none, at_, fall, corr⟩ →
     selOk (cut (s.rdN (Reg.ACU_LIST (s.get Fd.ACU_STATUS_IDX))) 0 6) (cut (s.rdN (Reg.ACU_LIST (s.get Fd.ACU_STATUS_IDX))) 16 13) = false →
     Answers .acuConversionStart s fun t =>
       t.flag Ev.ACU_FLAGS_BADWORD = true ∧
       t.rd (Reg.ACU_RESMEM (s.get Fd.ACU_STATUS_IDX)) =
         BitVec.ofNat 32 (2 ^ 25 * cut (s.rdN (Reg.ACU_LIST (s.get Fd.ACU_STATUS_IDX))) 0 6) ∧ t.mem = s.mem) ∧
  (∀ (ch osr e at_ g : Nat) (fall corr : Bool) (line : List MdatPeriod) (s : State),
    s.acu.run = some ⟨.single, ch, osr, some e, at_, fall, corr⟩ →
     s.acu.turns = [] → s.acu.lost = false → s.mclkOn (ch / 8) = true → g < 112 → s.selects g 67 = true →
     s.suppressed = false → ch < 56 → 256 ≤ osr →
     Answers (.acuResult line) s fun t =>
       t.get Fd.ACU_RESINFO_CH = ch ∧ t.get Fd.ACU_RESINFO_KIND = 0 ∧ t.on Fd.ACU_RESINFO_VALID = t.samples[56].valid ∧
       t.flag Ev.ACU_FLAGS_SINGLEDONE = true ∧ (∃ l ∈ t.tbl.inflight, l.target = g) ∧
       e + (5 * osr + 8) * s.mclkT (ch / 8) + 80 ≤ t.now ∧ t.mem = s.mem) ∧
  (∀ (ch osr e at_ : Nat) (fall corr : Bool) (s : State), s.acu.run = some ⟨.single, ch, osr, some e, at_, fall, corr⟩ → ch < 56 →
     s.mclkOn (ch / 8) = false →
     Answers .acuNoclk s fun t =>
       t.flag Ev.ACU_FLAGS_NOCLK = true ∧ t.flag Ev.ACU_FLAGS_SINGLEDONE = true ∧ t.rd Reg.ACU_RES = 0 ∧ t.get Fd.ACU_RESINFO_CH = ch ∧
       t.get Fd.ACU_RESINFO_VALID = 0 ∧ t.samples[56].valid = false ∧ at_ + 4 * s.mclkT (ch / 8) ≤ t.now ∧ t.mem = s.mem) ∧
  (∀ s : State, s.acu.run = none → exec .acuNoclk s = .next s) ∧
  (∀ (c : AcuConv) (s : State), s.acu.run = some c → c.kind = .single → s.acu.lost = false → s.mclkOn (c.ch % 56 / 8) = true → c.ch < 56 →
    exec .acuNoclk s = .next s) ∧
  (∀ s : State, s.acu.calWrite = true → s.blockIdle = true → Answers .acuCalEntryDurable s fun t =>
     t.flag Ev.ACU_FLAGS_CALDONE = true ∧ t.acu = { s.acu with calWrite := false } ∧ t.mem = s.mem) ∧
  (∀ (n : Nat) (s : State), n < 32 → s.on Fd.ACU_STATUS_CALLOAD = true → cut (s.memRd (calEntry n) 8) 48 8 = 0xA5 →
     Answers .acuCalLoadDone s fun t =>
       t.get Fd.ACU_STATUS_CALLOAD = 0 ∧ t.rdN (Reg.ACU_CAL_OFS n) = cut (s.memRd (calEntry n) 8) 0 24 ∧
       t.rdN (Reg.ACU_CAL_GAIN n) = cut (s.memRd (calEntry n) 8) 24 24 ∧ t.mem = s.mem) ∧
  (∀ s : State, s.on Fd.ACU_STATUS_CALLOAD = false → exec .acuCalLoadDone s = .next s)

/-- R129–R131: two words that spell the same instruction are the same word, so that no bit of a word is dropped; R131,
R132: a word with a reserved OP spells none, and a core that meets it raises ILLEGAL; a word whose OP is one of an
instruction alone in its row always spells that instruction; the all-zero word is NOP. -/
def Obligations.InstructionWords : Prop :=
  (∀ (c : Fin 6) (w v x : Word) (i : Instr), decodeInsn c w x = some i → decodeInsn c v x = some i → w = v) ∧
  (∀ (c : Fin 6) (w x : Word) (s : State), insnOp w ∈ [0x06, 0x07, 0x17, 0x1F, 0x25, 0x26, 0x27, 0x2B, 0x2C, 0x2D, 0x2E, 0x2F, 0x32, 0x33,
    0x34, 0x35, 0x36, 0x37, 0x3A, 0x3B, 0x3F] →
     decodeInsn c w x = none ∧ s.runWords c w x = .next (s.reservedWord c)) ∧
  (∀ (c : Fin 6) (w x : Word), (insnOp w = 0x1C → decodeInsn c w x = some (.ldW c (.ofWord w x))) ∧ (insnOp w = 0x08 →
    decodeInsn c w x = some (.addi c (.ofWord w x))) ∧
     (insnOp w = 0x28 → decodeInsn c w x = some (.br c (.ofWord w x))) ∧ (insnOp w = 0x2A → decodeInsn c w x = some (.loop c (.ofWord w))) ∧
     (insnOp w = 0x30 → decodeInsn c w x = some (.smp c (.ofWord w)))) ∧
  (∀ (c : Fin 6) (x : Word), decodeInsn c 0 x = some (.nop c ⟨0, false, 0, 0, 0, 0⟩))

/-- R141: each three-register instruction of the ALU group, on every core: its result in the destination register, SR.C
where the table gives the flag, one cycle (18 for a division), and everything else unchanged. R141: ABSS, NEGS, CLZ,
MOV; SEL by the predicate in PS; the moves to and from address registers and ADDAR. -/
def Obligations.AluInstructions : Prop :=
  (∀ (c : Fin 6) (f : RForm) (s : State), Issues s c 4 f.pred → f.legal .d .d .d resZero = true →
     let a := s.cpu[c].gd f.ra
     let b := s.cpu[c].gd f.rb
     GivesD (exec (.add c f) s) s c 4 1 f.rd (a + b) false ∧
     GivesD (exec (.sub c f) s) s c 4 1 f.rd (a - b) false ∧
     GivesD (exec (.adds c f) s) s c 4 1 f.rd (clip32 (a.toInt + b.toInt)) (over32 (a.toInt + b.toInt)) ∧
     GivesD (exec (.subs c f) s) s c 4 1 f.rd (clip32 (a.toInt - b.toInt)) (over32 (a.toInt - b.toInt)) ∧
     GivesD (exec (.andd c f) s) s c 4 1 f.rd (a &&& b) false ∧
     GivesD (exec (.orr c f) s) s c 4 1 f.rd (a ||| b) false ∧
     GivesD (exec (.xor c f) s) s c 4 1 f.rd (a ^^^ b) false ∧
     GivesD (exec (.andn c f) s) s c 4 1 f.rd (a &&& ~~~b) false ∧
     GivesD (exec (.shl c f) s) s c 4 1 f.rd (BitVec.ofNat 32 (a.toNat * 2 ^ (b.toNat % 64))) false ∧
     GivesD (exec (.shr c f) s) s c 4 1 f.rd (BitVec.ofNat 32 (a.toNat / 2 ^ (b.toNat % 64))) false ∧
     GivesD (exec (.sra c f) s) s c 4 1 f.rd (BitVec.ofInt 32 (a.toInt / 2 ^ (b.toNat % 64))) false ∧
     GivesD (exec (.shls c f) s) s c 4 1 f.rd (clip32 (a.toInt * 2 ^ (b.toNat % 64))) (over32 (a.toInt * 2 ^ (b.toNat % 64))) ∧
     GivesD (exec (.mul c f) s) s c 4 1 f.rd (BitVec.ofInt 32 (a.toInt * b.toInt)) false ∧
     GivesD (exec (.mulh c f) s) s c 4 1 f.rd (BitVec.ofInt 32 (a.toInt * b.toInt / 2 ^ 32)) false ∧
     GivesD (exec (.mulhu c f) s) s c 4 1 f.rd (BitVec.ofNat 32 (a.toNat * b.toNat / 2 ^ 32)) false ∧
     GivesD (exec (.mulq c f) s) s c 4 1 f.rd (clip32 (nearest (a.toInt * b.toInt) 31)) (over32 (nearest (a.toInt * b.toInt) 31)) ∧
     GivesD (exec (.min c f) s) s c 4 1 f.rd (BitVec.ofInt 32 (Min.min a.toInt b.toInt)) false ∧
     GivesD (exec (.max c f) s) s c 4 1 f.rd (BitVec.ofInt 32 (Max.max a.toInt b.toInt)) false ∧
     GivesD (exec (.minu c f) s) s c 4 1 f.rd (BitVec.ofNat 32 (Min.min a.toNat b.toNat)) false ∧
     GivesD (exec (.maxu c f) s) s c 4 1 f.rd (BitVec.ofNat 32 (Max.max a.toNat b.toNat)) false) ∧
  (∀ (c : Fin 6) (f : RForm) (s : State), Issues s c 4 f.pred → f.legal .d .d .d resZero = true →
     let a := s.cpu[c].gd f.ra
     let b := s.cpu[c].gd f.rb
     (b = 0 → GivesD (exec (.div c f) s) s c 4 18 f.rd (if a.toInt < 0 then 0x80000000#32 else 0x7FFFFFFF#32) true) ∧
     (b ≠ 0 → GivesD (exec (.div c f) s) s c 4 18 f.rd (clip32 (a.toInt.tdiv b.toInt)) (over32 (a.toInt.tdiv b.toInt))) ∧
     GivesD (exec (.divu c f) s) s c 4 18 f.rd (if b = 0 then 0xFFFFFFFF#32 else BitVec.ofNat 32 (a.toNat / b.toNat)) (b == 0)) ∧
  (∀ (c : Fin 6) (f : RForm) (s : State), Issues s c 4 f.pred → f.legal .d .d .zero resZero = true →
     let a := s.cpu[c].gd f.ra
     GivesD (exec (.abss c f) s) s c 4 1 f.rd (clip32 (if a.toInt < 0 then -a.toInt else a.toInt)) (over32 (if a.toInt < 0 then -a.toInt else a.toInt)) ∧
     GivesD (exec (.negs c f) s) s c 4 1 f.rd (clip32 (-a.toInt)) (over32 (-a.toInt)) ∧
     GivesD (exec (.clz c f) s) s c 4 1 f.rd (BitVec.ofNat 32 (if a = 0 then 32 else 31 - a.toNat.log2)) false ∧
     GivesD (exec (.mov c f) s) s c 4 1 f.rd (a) false) ∧
  (∀ (c : Fin 6) (f : RForm) (s : State), Issues s c 4 f.pred → f.legal .d .d .d resSel = true →
     GivesD (exec (.sel c f) s) s c 4 1 f.rd (if s.cpu[c].p.getLsbD (f.res.toNat % 4) = true then s.cpu[c].gd f.ra else s.cpu[c].gd f.rb) false) ∧
  (∀ (c : Fin 6) (f : RForm) (s : State), Issues s c 4 f.pred → f.legal .a .d .zero resZero = true →
     GivesA (exec (.mda c f) s) s c 4 1 f.rd (s.cpu[c].gd f.ra)) ∧
  (∀ (c : Fin 6) (f : RForm) (s : State), Issues s c 4 f.pred → f.legal .d .a .zero resZero = true →
     GivesD (exec (.mad c f) s) s c 4 1 f.rd (s.cpu[c].ga f.ra) false) ∧
  (∀ (c : Fin 6) (f : RForm) (s : State), Issues s c 4 f.pred → f.legal .a .a .d resZero = true →
     GivesA (exec (.addar c f) s) s c 4 1 f.rd (s.cpu[c].ga f.ra + s.cpu[c].gd f.rb))

/-- R142: each immediate instruction, with IMM sign-extended or the extension word (which takes 4 more bytes and a cycle
more). R141, R143: each compare writes its predicate and each instruction of the predicate group its result; nothing
else changes. -/
def Obligations.ImmediatesAndCompares : Prop :=
  (∀ (c : Fin 6) (f : IForm) (s : State), Issues s c (extBytes f.ext) f.pred → f.legal .d .d 32 = true →
     let a := s.cpu[c].gd f.ra
     GivesD (exec (.addi c f) s) s c (extBytes f.ext) (1 + extCycle f.ext) f.rd (a + f.value) false ∧
     GivesD (exec (.addsi c f) s) s c (extBytes f.ext) (1 + extCycle f.ext) f.rd (clip32 (a.toInt + f.value.toInt)) (over32 (a.toInt + f.value.toInt)) ∧
     GivesD (exec (.andi c f) s) s c (extBytes f.ext) (1 + extCycle f.ext) f.rd (a &&& f.value) false ∧
     GivesD (exec (.ori c f) s) s c (extBytes f.ext) (1 + extCycle f.ext) f.rd (a ||| f.value) false ∧
     GivesD (exec (.xori c f) s) s c (extBytes f.ext) (1 + extCycle f.ext) f.rd (a ^^^ f.value) false ∧
     GivesD (exec (.muli c f) s) s c (extBytes f.ext) (1 + extCycle f.ext) f.rd (a * f.value) false) ∧
  (∀ (c : Fin 6) (f : IForm) (s : State), Issues s c (extBytes f.ext) f.pred → f.legal .d .d 6 = true →
     let a := s.cpu[c].gd f.ra
     GivesD (exec (.shli c f) s) s c (extBytes f.ext) (1 + extCycle f.ext) f.rd (BitVec.ofNat 32 (a.toNat * 2 ^ f.small)) false ∧
     GivesD (exec (.shri c f) s) s c (extBytes f.ext) (1 + extCycle f.ext) f.rd (BitVec.ofNat 32 (a.toNat / 2 ^ f.small)) false ∧
     GivesD (exec (.srai c f) s) s c (extBytes f.ext) (1 + extCycle f.ext) f.rd (BitVec.ofInt 32 (a.toInt / 2 ^ f.small)) false) ∧
  (∀ (c : Fin 6) (f : IForm) (s : State), Issues s c (extBytes f.ext) f.pred → f.legal .p .d 32 = true →
     let a := s.cpu[c].gd f.ra
     GivesP (exec (.cmpeqi c f) s) s c (extBytes f.ext) (1 + extCycle f.ext) f.rd (a == f.value) ∧
     GivesP (exec (.cmplti c f) s) s c (extBytes f.ext) (1 + extCycle f.ext) f.rd (decide (a.toInt < f.value.toInt)) ∧
     GivesP (exec (.cmpltui c f) s) s c (extBytes f.ext) (1 + extCycle f.ext) f.rd (decide (a.toNat < f.value.toNat))) ∧
  (∀ (c : Fin 6) (f : IForm) (s : State), Issues s c (extBytes f.ext) f.pred → f.legal .d .zero 32 = true →
     GivesD (exec (.movi c f) s) s c (extBytes f.ext) (1 + extCycle f.ext) f.rd (f.value) false) ∧
  (∀ (c : Fin 6) (f : IForm) (s : State), Issues s c (extBytes f.ext) f.pred → f.legal .a .zero 32 = true →
     GivesA (exec (.mova c f) s) s c (extBytes f.ext) (1 + extCycle f.ext) f.rd f.value) ∧
  (∀ (c : Fin 6) (f : IForm) (s : State), Issues s c (extBytes f.ext) f.pred → f.legal .a .a 32 = true →
     GivesA (exec (.adda c f) s) s c (extBytes f.ext) (1 + extCycle f.ext) f.rd (s.cpu[c].ga f.ra + f.value)) ∧
  (∀ (c : Fin 6) (f : RForm) (s : State), Issues s c 4 f.pred → f.legal .p .d .d resZero = true →
     let a := s.cpu[c].gd f.ra
     let b := s.cpu[c].gd f.rb
     GivesP (exec (.cmpeq c f) s) s c 4 1 f.rd (a == b) ∧
     GivesP (exec (.cmpne c f) s) s c 4 1 f.rd (a != b) ∧
     GivesP (exec (.cmplt c f) s) s c 4 1 f.rd (decide (a.toInt < b.toInt)) ∧
     GivesP (exec (.cmple c f) s) s c 4 1 f.rd (decide (a.toInt ≤ b.toInt)) ∧
     GivesP (exec (.cmpltu c f) s) s c 4 1 f.rd (decide (a.toNat < b.toNat)) ∧
     GivesP (exec (.cmpleu c f) s) s c 4 1 f.rd (decide (a.toNat ≤ b.toNat))) ∧
  (∀ (c : Fin 6) (f : RForm) (s : State), Issues s c 4 f.pred → f.legal .p .p .p resZero = true →
     let a := s.cpu[c].p.getLsbD f.ra.toNat
     let b := s.cpu[c].p.getLsbD f.rb.toNat
     GivesP (exec (.pand c f) s) s c 4 1 f.rd (a && b) ∧
     GivesP (exec (.por c f) s) s c 4 1 f.rd (a || b) ∧
     GivesP (exec (.pxor c f) s) s c 4 1 f.rd (a != b) ∧
     GivesP (exec (.pandn c f) s) s c 4 1 f.rd (a && !b)) ∧
  (∀ (c : Fin 6) (f : RForm) (s : State), Issues s c 4 f.pred → f.legal .p .p .zero resZero = true →
     GivesP (exec (.pnot c f) s) s c 4 1 f.rd (!s.cpu[c].p.getLsbD f.ra.toNat)) ∧
  (∀ (c : Fin 6) (f : RForm) (s : State), Issues s c 4 f.pred → f.legal .p .zero .bit resZero = true →
     GivesP (exec (.pset c f) s) s c 4 1 f.rd (f.rb == 1)) ∧
  (∀ (c : Fin 6) (f : RForm) (s : State), Issues s c 4 f.pred → f.legal .p .d .zero resZero = true →
     GivesP (exec (.movdp c f) s) s c 4 1 f.rd (s.cpu[c].gd f.ra != 0)) ∧
  (∀ (c : Fin 6) (f : RForm) (s : State), Issues s c 4 f.pred → f.legal .d .p .zero resZero = true →
     GivesD (exec (.movpd c f) s) s c 4 1 f.rd (if s.cpu[c].p.getLsbD f.ra.toNat = true then 1 else 0) false)

/-- R147: each accumulator instruction, its reads and writes by words, and the register multiply-accumulates. -/
def Obligations.AccumulatorInstructions : Prop :=
  (∀ (c : Fin 6) (f : RForm) (s : State), Issues s c 4 f.pred → f.legal .w .zero .zero resZero = true →
     GivesW (exec (.clrw c f) s) s c 4 1 f.rd (0) false) ∧
  (∀ (c : Fin 6) (f : RForm) (s : State), Issues s c 4 f.pred → f.legal .w .w .zero resZero = true →
     GivesW (exec (.movw c f) s) s c 4 1 f.rd (s.cpu[c].gw f.ra) false ∧
     GivesW (exec (.addw c f) s) s c 4 1 f.rd (clip72 ((s.cpu[c].gw f.rd).toInt + (s.cpu[c].gw f.ra).toInt)) (over72 ((s.cpu[c].gw f.rd).toInt + (s.cpu[c].gw f.ra).toInt)) ∧
     GivesW (exec (.subw c f) s) s c 4 1 f.rd (clip72 ((s.cpu[c].gw f.rd).toInt - (s.cpu[c].gw f.ra).toInt)) (over72 ((s.cpu[c].gw f.rd).toInt - (s.cpu[c].gw f.ra).toInt)) ∧
     GivesW (exec (.negw c f) s) s c 4 1 f.rd (clip72 (-(s.cpu[c].gw f.ra).toInt)) (over72 (-(s.cpu[c].gw f.ra).toInt))) ∧
  (∀ (c : Fin 6) (f : RForm) (s : State), Issues s c 4 f.pred → f.legal .w .zero .d resZero = true →
     GivesW (exec (.movqw c f) s) s c 4 1 f.rd (BitVec.ofInt 72 ((s.cpu[c].gd f.rb).toInt * 2 ^ 31)) false ∧
     GivesW (exec (.wrwl c f) s) s c 4 1 f.rd ((s.cpu[c].gw f.rd).extractLsb' 32 40 ++ s.cpu[c].gd f.rb) false ∧
     GivesW (exec (.wrwh c f) s) s c 4 1 f.rd ((s.cpu[c].gw f.rd).extractLsb' 64 8 ++ s.cpu[c].gd f.rb ++ (s.cpu[c].gw f.rd).extractLsb' 0 32) false ∧
     GivesW (exec (.wrwg c f) s) s c 4 1 f.rd ((s.cpu[c].gd f.rb).extractLsb' 0 8 ++ (s.cpu[c].gw f.rd).extractLsb' 0 64) false) ∧
  (∀ (c : Fin 6) (f : RForm) (s : State), Issues s c 4 f.pred → f.legal .zero .w .d resZero = true →
     GivesD (exec (.rdwl c f) s) s c 4 1 f.rb ((s.cpu[c].gw f.ra).extractLsb' 0 32) false ∧
     GivesD (exec (.rdwh c f) s) s c 4 1 f.rb ((s.cpu[c].gw f.ra).extractLsb' 32 32) false ∧
     GivesD (exec (.rdwg c f) s) s c 4 1 f.rb (((s.cpu[c].gw f.ra).extractLsb' 64 8).signExtend 32) false) ∧
  (∀ (c : Fin 6) (f : RForm) (s : State), Issues s c 4 f.pred → f.legal .w .d .d resZero = true →
     GivesW (exec (.macr c f) s) s c 4 1 f.rd (clip72 ((s.cpu[c].gw f.rd).toInt + (s.cpu[c].gd f.ra).toInt * (s.cpu[c].gd f.rb).toInt)) (over72 ((s.cpu[c].gw f.rd).toInt + (s.cpu[c].gd f.ra).toInt * (s.cpu[c].gd f.rb).toInt)) ∧
     GivesW (exec (.msur c f) s) s c 4 1 f.rd (clip72 ((s.cpu[c].gw f.rd).toInt - (s.cpu[c].gd f.ra).toInt * (s.cpu[c].gd f.rb).toInt)) (over72 ((s.cpu[c].gw f.rd).toInt - (s.cpu[c].gd f.ra).toInt * (s.cpu[c].gd f.rb).toInt)))

/-- R135, R144, R145: a load of a reckoner from its own tightly coupled memory, in every addressing mode and with an
extension word or without: the value, sign- or zero-extended, the update of a[AB], 1 or 2 cycles by region, nothing
else. -/
def Obligations.LocalLoads : Prop :=
  (∀ (n : Fin 4) (f : MForm) (s : State), Issues s (rkCore n) (extBytes f.ext) f.pred → f.legal rdAny 3 = true →
     LocalAt n (s.ea (rkCore n) f 1) 1 →
     LoadsD (exec (.ldB (rkCore n) f) s) s (rkCore n) f 1 (localCycles n (s.ea (rkCore n) f 1) + extCycle f.ext)
       ((Memory.read s.mem (s.ea (rkCore n) f 1 + 0)).signExtend 32) ∧
     LoadsD (exec (.ldBu (rkCore n) f) s) s (rkCore n) f 1 (localCycles n (s.ea (rkCore n) f 1) + extCycle f.ext)
       ((Memory.read s.mem (s.ea (rkCore n) f 1 + 0)).zeroExtend 32)) ∧
  (∀ (n : Fin 4) (f : MForm) (s : State), Issues s (rkCore n) (extBytes f.ext) f.pred → f.legal rdAny 3 = true →
     LocalAt n (s.ea (rkCore n) f 2) 2 →
     LoadsD (exec (.ldH (rkCore n) f) s) s (rkCore n) f 2 (localCycles n (s.ea (rkCore n) f 2) + extCycle f.ext)
       ((Memory.read s.mem (s.ea (rkCore n) f 2 + 1) ++ Memory.read s.mem (s.ea (rkCore n) f 2 + 0)).signExtend 32) ∧
     LoadsD (exec (.ldHu (rkCore n) f) s) s (rkCore n) f 2 (localCycles n (s.ea (rkCore n) f 2) + extCycle f.ext)
       ((Memory.read s.mem (s.ea (rkCore n) f 2 + 1) ++ Memory.read s.mem (s.ea (rkCore n) f 2 + 0)).zeroExtend 32)) ∧
  (∀ (n : Fin 4) (f : MForm) (s : State), Issues s (rkCore n) (extBytes f.ext) f.pred → f.legal rdAny 3 = true →
     LocalAt n (s.ea (rkCore n) f 4) 4 →
     LoadsD (exec (.ldW (rkCore n) f) s) s (rkCore n) f 4 (localCycles n (s.ea (rkCore n) f 4) + extCycle f.ext)
       (Memory.read s.mem (s.ea (rkCore n) f 4 + 3) ++ Memory.read s.mem (s.ea (rkCore n) f 4 + 2) ++
       Memory.read s.mem (s.ea (rkCore n) f 4 + 1) ++ Memory.read s.mem (s.ea (rkCore n) f 4 + 0))) ∧
  (∀ (n : Fin 4) (f : MForm) (s : State), Issues s (rkCore n) (extBytes f.ext) f.pred → f.legal rdEven 3 = true →
     LocalAt n (s.ea (rkCore n) f 8) 8 →
     Answers (.ldD (rkCore n) f) s fun t =>
       (∀ j : Fin 16, t.cpu[rkCore n].d[j] =
         if j.val = f.rd.toNat then BitVec.ofNat 32 (s.memRd (s.ea (rkCore n) f 8) 4)
         else if j.val = f.rd.toNat + 1 then BitVec.ofNat 32 (s.memRd (s.ea (rkCore n) f 8 + 4) 4) else s.cpu[rkCore n].d[j]) ∧
       Updated s t (rkCore n) f 8 ∧ t.cpu[rkCore n].w = s.cpu[rkCore n].w ∧ t.cpu[rkCore n].p = s.cpu[rkCore n].p ∧
       t.cpu[rkCore n].carry = s.cpu[rkCore n].carry ∧
       Passes s t (rkCore n) (extBytes f.ext) (localCycles n (s.ea (rkCore n) f 8) + extCycle f.ext)) ∧
  (∀ (n : Fin 4) (f : MForm) (s : State), Issues s (rkCore n) (extBytes f.ext) f.pred → f.legal rdAddr 3 = true →
     LocalAt n (s.ea (rkCore n) f 4) 4 →
     Answers (.lda (rkCore n) f) s fun t =>
       (∀ j : Fin 8, t.cpu[rkCore n].a[j] =
         if j.val = f.rd.toNat then BitVec.ofNat 32 (s.memRd (s.ea (rkCore n) f 4) 4)
         else if f.am ≠ 0 ∧ j = f.ab then s.cpu[rkCore n].a[f.ab] + f.off 4 else s.cpu[rkCore n].a[j]) ∧
       t.cpu[rkCore n].d = s.cpu[rkCore n].d ∧ t.cpu[rkCore n].w = s.cpu[rkCore n].w ∧ t.cpu[rkCore n].p = s.cpu[rkCore n].p ∧
       t.cpu[rkCore n].carry = s.cpu[rkCore n].carry ∧
       Passes s t (rkCore n) (extBytes f.ext) (localCycles n (s.ea (rkCore n) f 4) + extCycle f.ext))

/-- R6, R135, R144, R145: a store of a reckoner to its own tightly coupled memory: the bytes of the form's width from the
effective address on, little-endian; every other byte of memory, every register but a[AB], and the flags stay. -/
def Obligations.LocalStores : Prop :=
  (∀ (n : Fin 4) (f : MForm) (s : State), Issues s (rkCore n) (extBytes f.ext) f.pred → f.legal rdAny 3 = true →
     LocalAt n (s.ea (rkCore n) f 1) 1 →
     Stores (exec (.stB (rkCore n) f) s) s (rkCore n) f (s.ea (rkCore n) f 1) 1
       (localCycles n (s.ea (rkCore n) f 1) + extCycle f.ext) ((s.cpu[rkCore n].gd f.rd).zeroExtend 64)) ∧
  (∀ (n : Fin 4) (f : MForm) (s : State), Issues s (rkCore n) (extBytes f.ext) f.pred → f.legal rdAny 3 = true →
     LocalAt n (s.ea (rkCore n) f 2) 2 →
     Stores (exec (.stH (rkCore n) f) s) s (rkCore n) f (s.ea (rkCore n) f 2) 2
       (localCycles n (s.ea (rkCore n) f 2) + extCycle f.ext) ((s.cpu[rkCore n].gd f.rd).zeroExtend 64)) ∧
  (∀ (n : Fin 4) (f : MForm) (s : State), Issues s (rkCore n) (extBytes f.ext) f.pred → f.legal rdAny 3 = true →
     LocalAt n (s.ea (rkCore n) f 4) 4 →
     Stores (exec (.stW (rkCore n) f) s) s (rkCore n) f (s.ea (rkCore n) f 4) 4
       (localCycles n (s.ea (rkCore n) f 4) + extCycle f.ext) ((s.cpu[rkCore n].gd f.rd).zeroExtend 64)) ∧
  (∀ (n : Fin 4) (f : MForm) (s : State), Issues s (rkCore n) (extBytes f.ext) f.pred → f.legal rdEven 3 = true →
     LocalAt n (s.ea (rkCore n) f 8) 8 →
     Stores (exec (.stD (rkCore n) f) s) s (rkCore n) f (s.ea (rkCore n) f 8) 8
       (localCycles n (s.ea (rkCore n) f 8) + extCycle f.ext) (s.cpu[rkCore n].gd (f.rd ||| 1) ++ s.cpu[rkCore n].gd f.rd)) ∧
  (∀ (n : Fin 4) (f : MForm) (s : State), Issues s (rkCore n) (extBytes f.ext) f.pred → f.legal rdAddr 3 = true →
     LocalAt n (s.ea (rkCore n) f 4) 4 →
     Stores (exec (.sta (rkCore n) f) s) s (rkCore n) f (s.ea (rkCore n) f 4) 4
       (localCycles n (s.ea (rkCore n) f 4) + extCycle f.ext) ((s.cpu[rkCore n].ga f.rd).zeroExtend 64))

/-- R135, R136, R343, R346: a load that is not local waits and changes nothing else; when it returns from system SRAM it
writes its register and the core goes on; a store that is not local enters the buffer while there is room; the oldest
store is accepted, its bytes are in memory, and it leaves the buffer; a posted store's bus error without a running
task is recorded (R168). -/
def Obligations.WaitingAccesses : Prop :=
  (∀ (c : Fin 6) (f : MForm) (s : State), Issues s c (extBytes f.ext) f.pred → f.legal rdAny 3 = true → s.ea c f 4 % 4 = 0 →
     s.lookLoad c (s.ea c f 4) 4 = .miss false → isRemote (s.ea c f 4) = false →
     Answers (.ldW c f) s fun t =>
       t.cpu[c].wait = some (.load (s.ea c f 4) 4 (.d (dReg f.rd) false) (f.update s.cpu[c].a[f.ab] 4) (extBytes f.ext) false) ∧
       t.cpu[c].pc = s.cpu[c].pc ∧ t.cpu[c].d = s.cpu[c].d ∧ t.cpu[c].a = s.cpu[c].a ∧ t.regs = s.regs ∧ t.mem = s.mem) ∧
  (∀ (c : Fin 6) (a : Nat) (rd : Fin 16) (sg : Bool) (len : Nat) (s : State), s.cpu[c].wait = some (.load a 4 (.d rd sg) [] len false) →
     s.buf c = [] → region a = .sram → a % 4 = 0 → s.eccBad a = false → s.lateAt c (s.waitEnd c a false len) = none →
     s.tagFree (coreRow c) = true → s.cpu[c].haltReq = false →
     (∀ n : Fin 4, coreKind c = .rk n → s.rk[n].discard = [] ∧ s.rk[n].abortNow = false ∧ s.rk[n].errors = []) →
     Answers (.nonlocalLoadDone c) s fun t =>
       (∀ j : Fin 16, t.cpu[c].d[j] = if j = rd then BitVec.ofNat 32 (s.memRd a 4) else s.cpu[c].d[j]) ∧
       t.cpu[c].wait = none ∧ t.cpu[c].pc = s.cpu[c].pc + BitVec.ofNat 32 len ∧ t.cpu[c].next = s.waitEnd c a false len ∧
       t.cpu[c].a = s.cpu[c].a ∧ t.regs = s.regs ∧ t.mem = s.mem) ∧
  (∀ (c : Fin 6) (f : MForm) (s : State), Issues s c (extBytes f.ext) f.pred → f.legal rdAny 3 = true → s.ea c f 4 % 4 = 0 →
     region (s.ea c f 4) = .sram → (s.buf c).length < bufMax c → (∀ n : Fin 2, coreKind c = .st n → s.cachedData n (s.ea c f 4) = false) →
     (∀ e ∈ s.buf c, isRemote e.addr = false) →
     Answers (.stW c f) s fun t =>
       t.buf c = s.buf c ++ [{ addr := s.ea c f 4, size := 4, data := (s.cpu[c].gd f.rd).toNat, slot := s.slotOf c }] ∧
       t.cpu[c].d = s.cpu[c].d ∧ Updated s t c f 4 ∧ Passes s t c (extBytes f.ext) (1 + extCycle f.ext)) ∧
  (∀ (n : Fin 4) (e : Posted) (s : State), s.rk[n].posted = [e] → e.line = false → region e.addr = .sram → e.addr % 4 = 0 → e.size = 4 →
     s.cpu[rkCore n].wait = none → s.tagFree (coreRow (rkCore n)) = true →
     Answers (.postedStoreAccept n) s fun t =>
       t.rk[n].posted = [] ∧ (∀ i : Fin 4, Memory.read t.mem (e.addr + i.val) = BitVec.ofNat 8 (e.data / 2 ^ (8 * i.val))) ∧
       SameMemoryBut e.addr 4 s t ∧ t.cpu = s.cpu ∧ t.regs = s.regs) ∧
  (∀ (n : Fin 2) (e : Posted) (s : State), s.st[n].wbuf = [e] → e.line = false → region e.addr = .sram → e.addr % 4 = 0 → e.size = 4 →
     s.cpu[stCore n].wait = none → s.tagFree (coreRow (stCore n)) = true →
     Answers (.writeBufferAccept n) s fun t =>
       t.st[n].wbuf = [] ∧ (∀ i : Fin 4, Memory.read t.mem (e.addr + i.val) = BitVec.ofNat 8 (e.data / 2 ^ (8 * i.val))) ∧
       SameMemoryBut e.addr 4 s t ∧ t.cpu = s.cpu ∧ t.regs = s.regs) ∧
  (∀ (n : Fin 4) (k e : Nat) (rest : List (Nat × Nat)) (s : State), s.rk[n].errors = (k, e) :: rest → s.rk[n].task = none → k < 8 →
     Answers (.postedStoreBusError n) s fun t =>
       t.rk[n].errors = rest ∧ t.flag (Ev.SYSCFG_RK_FLAGS_EXC n) = true ∧ t.rdN (Reg.SYSCFG_RK_LASTABORT n) = 3 + 256 * k ∧ t.mem = s.mem)

/-- R139, R146: a multiply-accumulate step of a reckoner: the product of the data operand and the VALUE of the coefficient
entry, shifted by SHIFT, saturated to 72 bits, added to or subtracted from the accumulator, saturated; SR.C set by
either saturation; a[AC] advanced in its 12 low bits when IC is 1. -/
def Obligations.MultiplyAccumulate : Prop :=
  (∀ (n : Fin 4) (f : CForm) (s : State), Issues s (rkCore n) 4 f.pred → f.legal false = true →
     let e := BitVec.ofNat 64 (s.bankEntry n s.cpu[rkCore n].a[f.ac].toNat)
     let x := s.cpu[rkCore n].d[f.d]
     let shift := (e.extractLsb' 32 6).toInt
     let p := x.toInt * (e.extractLsb' 0 32).toInt
     let q := if 0 ≤ shift then p * 2 ^ shift.toNat else p / 2 ^ (-shift).toNat
     let r := s.cpu[rkCore n].w[f.w].toInt + (clip72 q).toInt
     Answers (.macc (rkCore n) f) s fun t =>
       (∀ j : Fin 4, t.cpu[rkCore n].w[j] = if j = f.w then clip72 r else s.cpu[rkCore n].w[j]) ∧
       t.cpu[rkCore n].carry = (s.cpu[rkCore n].carry || over72 q || over72 r) ∧ t.cpu[rkCore n].d = s.cpu[rkCore n].d ∧
       (f.ic = true → (t.cpu[rkCore n].a[f.ac].toNat % 4096 = (s.cpu[rkCore n].a[f.ac].toNat + 1) % 4096 ∨ f.ac = f.ax ∧ f.ix ≠ 0)) ∧
       (∀ j : Fin 8, j ≠ f.ac → j ≠ f.ax → t.cpu[rkCore n].a[j] = s.cpu[rkCore n].a[j]) ∧
       t.cpu[rkCore n].p = s.cpu[rkCore n].p ∧ Passes s t (rkCore n) 4 1) ∧
  (∀ (n : Fin 4) (f : CForm) (s : State), Issues s (rkCore n) 4 f.pred → f.legal false = true →
     let e := BitVec.ofNat 64 (s.bankEntry n s.cpu[rkCore n].a[f.ac].toNat)
     let x := s.cpu[rkCore n].d[f.d]
     let shift := (e.extractLsb' 32 6).toInt
     let p := x.toInt * (e.extractLsb' 0 32).toInt
     let q := if 0 ≤ shift then p * 2 ^ shift.toNat else p / 2 ^ (-shift).toNat
     let r := s.cpu[rkCore n].w[f.w].toInt - (clip72 q).toInt
     Answers (.msuc (rkCore n) f) s fun t =>
       (∀ j : Fin 4, t.cpu[rkCore n].w[j] = if j = f.w then clip72 r else s.cpu[rkCore n].w[j]) ∧
       t.cpu[rkCore n].carry = (s.cpu[rkCore n].carry || over72 q || over72 r) ∧ t.cpu[rkCore n].d = s.cpu[rkCore n].d ∧
       (f.ic = true → (t.cpu[rkCore n].a[f.ac].toNat % 4096 = (s.cpu[rkCore n].a[f.ac].toNat + 1) % 4096 ∨ f.ac = f.ax ∧ f.ix ≠ 0)) ∧
       (∀ j : Fin 8, j ≠ f.ac → j ≠ f.ax → t.cpu[rkCore n].a[j] = s.cpu[rkCore n].a[j]) ∧
       t.cpu[rkCore n].p = s.cpu[rkCore n].p ∧ Passes s t (rkCore n) 4 1) ∧
  (∀ (n : Fin 4) (f : CForm) (s : State), Issues s (rkCore n) 4 f.pred → f.legal true = true → LocalAt n s.cpu[rkCore n].a[f.ax].toNat 4 →
     let e := BitVec.ofNat 64 (s.bankEntry n s.cpu[rkCore n].a[f.ac].toNat)
     let x := BitVec.ofNat 32 (s.memRd s.cpu[rkCore n].a[f.ax].toNat 4)
     let shift := (e.extractLsb' 32 6).toInt
     let p := x.toInt * (e.extractLsb' 0 32).toInt
     let q := if 0 ≤ shift then p * 2 ^ shift.toNat else p / 2 ^ (-shift).toNat
     let r := s.cpu[rkCore n].w[f.w].toInt + (clip72 q).toInt
     Answers (.macd (rkCore n) f) s fun t =>
       (∀ j : Fin 4, t.cpu[rkCore n].w[j] = if j = f.w then clip72 r else s.cpu[rkCore n].w[j]) ∧
       t.cpu[rkCore n].carry = (s.cpu[rkCore n].carry || over72 q || over72 r) ∧ t.cpu[rkCore n].d = s.cpu[rkCore n].d ∧
       (f.ic = true → (t.cpu[rkCore n].a[f.ac].toNat % 4096 = (s.cpu[rkCore n].a[f.ac].toNat + 1) % 4096 ∨ f.ac = f.ax ∧ f.ix ≠ 0)) ∧
       (∀ j : Fin 8, j ≠ f.ac → j ≠ f.ax → t.cpu[rkCore n].a[j] = s.cpu[rkCore n].a[j]) ∧
       t.cpu[rkCore n].p = s.cpu[rkCore n].p ∧ Passes s t (rkCore n) 4 (localCycles n s.cpu[rkCore n].a[f.ax].toNat)) ∧
  (∀ (n : Fin 4) (f : CForm) (s : State), Issues s (rkCore n) 4 f.pred → f.legal true = true → LocalAt n s.cpu[rkCore n].a[f.ax].toNat 4 →
     let e := BitVec.ofNat 64 (s.bankEntry n s.cpu[rkCore n].a[f.ac].toNat)
     let x := BitVec.ofNat 32 (s.memRd s.cpu[rkCore n].a[f.ax].toNat 4)
     let shift := (e.extractLsb' 32 6).toInt
     let p := x.toInt * (e.extractLsb' 0 32).toInt
     let q := if 0 ≤ shift then p * 2 ^ shift.toNat else p / 2 ^ (-shift).toNat
     let r := s.cpu[rkCore n].w[f.w].toInt - (clip72 q).toInt
     Answers (.msud (rkCore n) f) s fun t =>
       (∀ j : Fin 4, t.cpu[rkCore n].w[j] = if j = f.w then clip72 r else s.cpu[rkCore n].w[j]) ∧
       t.cpu[rkCore n].carry = (s.cpu[rkCore n].carry || over72 q || over72 r) ∧ t.cpu[rkCore n].d = s.cpu[rkCore n].d ∧
       (f.ic = true → (t.cpu[rkCore n].a[f.ac].toNat % 4096 = (s.cpu[rkCore n].a[f.ac].toNat + 1) % 4096 ∨ f.ac = f.ax ∧ f.ix ≠ 0)) ∧
       (∀ j : Fin 8, j ≠ f.ac → j ≠ f.ax → t.cpu[rkCore n].a[j] = s.cpu[rkCore n].a[j]) ∧
       t.cpu[rkCore n].p = s.cpu[rkCore n].p ∧ Passes s t (rkCore n) 4 (localCycles n s.cpu[rkCore n].a[f.ax].toNat))

/-- R149: BR and CALL go to the target the form names, with the return address in a7 for CALL; JR, CALLR and RET go to the
address in a register; each takes 2 cycles, one more with an extension word; a target that is not a multiple of 4
raises ALIGN (on a steward, with the address in EADDR). R150, R155: LOOP with a count arms its loop and goes on; with
a count of 0 it skips the body; the end of the body repeats it while more than one pass is left and otherwise ends the
loop; ENDL disarms. -/
def Obligations.BranchesAndLoops : Prop :=
  (∀ (c : Fin 6) (f : BForm) (s : State), Issues s c (extBytes f.ext) f.pred → f.legal = true →
     (Answers (.br c f) s fun t =>
       t.cpu[c].pc = f.ext.getD (s.cpu[c].pc + BitVec.ofInt 32 (4 * f.off.toInt)) ∧ t.cpu[c].a = s.cpu[c].a ∧ t.cpu[c].d = s.cpu[c].d ∧
       t.cpu[c].next = s.issueAt c + (2 + extCycle f.ext) * s.cycle c ∧ t.cpu[c].p = s.cpu[c].p ∧ t.regs = s.regs ∧ t.mem = s.mem) ∧
     (Answers (.call c f) s fun t =>
       t.cpu[c].pc = f.ext.getD (s.cpu[c].pc + BitVec.ofInt 32 (4 * f.off.toInt)) ∧
       t.cpu[c].a = s.cpu[c].a.set 7 (s.cpu[c].pc + BitVec.ofNat 32 (extBytes f.ext)) ∧ t.cpu[c].d = s.cpu[c].d ∧
       t.cpu[c].next = s.issueAt c + (2 + extCycle f.ext) * s.cycle c ∧ t.cpu[c].p = s.cpu[c].p ∧ t.regs = s.regs ∧ t.mem = s.mem)) ∧
  (∀ (c : Fin 6) (f : RForm) (s : State), Issues s c 4 f.pred → f.legal .zero .a .zero resZero = true → (s.cpu[c].ga f.ra).toNat % 4 = 0 →
     (Answers (.jr c f) s fun t =>
       t.cpu[c].pc = s.cpu[c].ga f.ra ∧ t.cpu[c].a = s.cpu[c].a ∧ t.cpu[c].d = s.cpu[c].d ∧
       t.cpu[c].next = s.issueAt c + 2 * s.cycle c ∧ t.regs = s.regs ∧ t.mem = s.mem) ∧
     (Answers (.callr c f) s fun t =>
       t.cpu[c].pc = s.cpu[c].ga f.ra ∧ t.cpu[c].a = s.cpu[c].a.set 7 (s.cpu[c].pc + 4) ∧ t.cpu[c].d = s.cpu[c].d ∧
       t.cpu[c].next = s.issueAt c + 2 * s.cycle c ∧ t.regs = s.regs ∧ t.mem = s.mem)) ∧
  (∀ (c : Fin 6) (f : RForm) (s : State), Issues s c 4 f.pred → f.legal .zero .zero .zero resZero = true → s.cpu[c].a[7].toNat % 4 = 0 →
     Answers (.ret c f) s fun t =>
       t.cpu[c].pc = s.cpu[c].a[7] ∧ t.cpu[c].a = s.cpu[c].a ∧ t.cpu[c].d = s.cpu[c].d ∧
       t.cpu[c].next = s.issueAt c + 2 * s.cycle c ∧ t.regs = s.regs ∧ t.mem = s.mem) ∧
  (∀ (n : Fin 2) (f : RForm) (s : State), Issues s (stCore n) 4 f.pred → f.legal .zero .a .zero resZero = true →
     (s.cpu[stCore n].ga f.ra).toNat % 4 ≠ 0 → s.st[n].estat.getLsbD 2 = false →
     Answers (.jr (stCore n) f) s fun t =>
       t.cpu[stCore n].pc = s.st[n].vbase ∧ t.st[n].epc = s.cpu[stCore n].pc ∧ t.st[n].ecause = 2 ∧
         t.st[n].eaddr = s.cpu[stCore n].ga f.ra ∧
       t.mem = s.mem) ∧
  (∀ (c : Fin 6) (f : LForm) (s : State), Issues s c 4 f.pred → f.legal = true → s.cpu[c].loops = Vector.replicate 2 none →
     let n := if f.cr = true then s.cpu[c].d[f.count.toNat % 16].toNat % 65536 else f.count.toNat
     (n ≠ 0 → Answers (.loop c f) s fun t =>
       t.cpu[c].lc[f.lc].toNat = n ∧ t.cpu[c].loops[f.lc] = some ⟨(s.cpu[c].pc + 4).toNat, (s.cpu[c].pc + BitVec.ofNat 32 (4 * f.stop.toNat)).toNat⟩ ∧
       t.cpu[c].pc = s.cpu[c].pc + 4 ∧ t.cpu[c].d = s.cpu[c].d ∧ t.regs = s.regs ∧ t.mem = s.mem) ∧
     (n = 0 → Answers (.loop c f) s fun t =>
       t.cpu[c].lc = s.cpu[c].lc ∧ t.cpu[c].loops = s.cpu[c].loops ∧ t.cpu[c].pc = s.cpu[c].pc + BitVec.ofNat 32 (4 * f.stop.toNat) + 4 ∧
       t.cpu[c].d = s.cpu[c].d ∧ t.regs = s.regs ∧ t.mem = s.mem)) ∧
  (∀ (c : Fin 6) (e : Nat) (l : LoopArm) (s : State), s.cpu[c].wait = none → s.cpu[c].ended = some e →
    s.cpu[c].loops[(1 : Fin 2)] = some l → l.last = e →
     1 < s.cpu[c].lc[(1 : Fin 2)].toNat →
     Answers (.loopBodyEnd c) s fun t =>
       t.cpu[c].lc[(1 : Fin 2)].toNat = s.cpu[c].lc[(1 : Fin 2)].toNat - 1 ∧ t.cpu[c].pc = BitVec.ofNat 32 l.start ∧
         t.cpu[c].loops = s.cpu[c].loops ∧
       t.cpu[c].d = s.cpu[c].d ∧ t.regs = s.regs ∧ t.mem = s.mem) ∧
  (∀ (c : Fin 6) (e : Nat) (l : LoopArm) (s : State), s.cpu[c].wait = none → s.cpu[c].ended = some e →
    s.cpu[c].loops[(1 : Fin 2)] = some l → l.last = e →
     s.cpu[c].lc[(1 : Fin 2)].toNat ≤ 1 → s.cpu[c].loops[(0 : Fin 2)] = none →
     Answers (.loopBodyEnd c) s fun t =>
       t.cpu[c].lc[(1 : Fin 2)] = 0 ∧ t.cpu[c].pc = s.cpu[c].pc ∧ t.cpu[c].loops[(1 : Fin 2)] = none ∧ t.cpu[c].d = s.cpu[c].d ∧
       t.regs = s.regs ∧ t.mem = s.mem) ∧
  (∀ (c : Fin 6) (f : RForm) (s : State), Issues s c 4 f.pred → f.legal .lc .zero .zero resZero = true →
     Answers (.endl c f) s fun t =>
       t.cpu[c].loops = s.cpu[c].loops.set (f.rd.toNat % 2) none ∧ t.cpu[c].lc = s.cpu[c].lc ∧ t.cpu[c].pc = s.cpu[c].pc + 4 ∧
       t.cpu[c].d = s.cpu[c].d ∧ t.regs = s.regs ∧ t.mem = s.mem)

/-- R151, R153, R154: SMP reads a sample-bus channel into a register, its validity into a predicate and its stamp into the
latch; STG stages a value for its destination, in place of an earlier one; TDONE records the response time, counts and
starts the drain; BSWP requests a bank swap. -/
def Obligations.SamplesAndStaging : Prop :=
  (∀ (n : Fin 4) (f : SForm) (s : State), Issues s (rkCore n) 4 f.pred → f.legal = true → f.cr = false →
    (f.ch.toNat < 57 ∨ 64 ≤ f.ch.toNat) →
     Answers (.smp (rkCore n) f) s fun t =>
       (∀ j : Fin 16, t.cpu[rkCore n].d[j] = if j = f.rd then s.samples[f.ch.toNat]!.value else s.cpu[rkCore n].d[j]) ∧
       (∀ j : Fin 4, t.cpu[rkCore n].p.getLsbD j.val = if j = f.p then s.samples[f.ch.toNat]!.valid else s.cpu[rkCore n].p.getLsbD j.val) ∧
       t.rk[n].stamp = s.samples[f.ch.toNat]!.stamp ∧ t.cpu[rkCore n].a = s.cpu[rkCore n].a ∧ Passes s t (rkCore n) 4 1) ∧
  (∀ (n : Fin 4) (f : IForm) (s : State), Issues s (rkCore n) (extBytes f.ext) f.pred → f.legal .d .zero 13 = true → f.small < 4096 →
     destOk f.small = true → s.rk[n].staged.length < 128 →
     Answers (.stg (rkCore n) f) s fun t =>
       t.rk[n].staged.find? (fun e => e.1 == f.small) = some (f.small, s.cpu[rkCore n].gd f.rd) ∧
       t.rk[n].staged.filter (fun e => e.1 != f.small) = s.rk[n].staged.filter (fun e => e.1 != f.small) ∧
       t.cpu[rkCore n].d = s.cpu[rkCore n].d ∧ Passes s t (rkCore n) (extBytes f.ext) (1 + extCycle f.ext)) ∧
  (∀ (n : Fin 4) (f : RForm) (k : RkTask) (s : State), Issues s (rkCore n) 4 f.pred → f.legal .zero .zero .zero resZero = true →
    s.rk[n].task = some k →
     Answers (.tdone (rkCore n) f) s fun t =>
       t.rk[n].tdone = some (s.issueAt (rkCore n)) ∧ t.cpu[rkCore n].wait = some .drain ∧
       t.get (Fd.SYSCFG_SLOT_LASTCYC_CYC n k.slot) = (s.issueAt (rkCore n) - k.launch) / 32 % 2 ^ 24 ∧
       t.rd (Reg.SYSCFG_SLOT_DONECNT n k.slot) = s.rd (Reg.SYSCFG_SLOT_DONECNT n k.slot) + 1 ∧ t.cpu[rkCore n].d = s.cpu[rkCore n].d ∧
         t.mem = s.mem) ∧
  (∀ (n : Fin 4) (f : RForm) (s : State), Issues s (rkCore n) 4 f.pred → f.legal .zero .zero .zero resZero = true →
     Answers (.bswp (rkCore n) f) s fun t =>
       t.get (Fd.SYSCFG_RK_STATUS_SWPPEND n) = 1 ∧ t.get (Fd.SYSCFG_RK_STATUS_BANK n) = s.get (Fd.SYSCFG_RK_STATUS_BANK n) ∧
       t.cpu[rkCore n].pc = s.cpu[rkCore n].pc + 4 ∧ t.cpu[rkCore n].d = s.cpu[rkCore n].d ∧
       SameRegistersBut [Reg.SYSCFG_RK_STATUS n] s t ∧ t.mem = s.mem)

/-- R155, R156, R353: NOP only goes on; CLRC clears SR.C; FENCE goes on once nothing is buffered and otherwise waits, and
its wait ends when the buffer is drained. EI and DI set ESTAT.IE, and DI holds interrupts off for the instruction
after it; RETI restores IE and CURLVL, clears EXL, ends the loops and goes to EPC (bits [1:0] ignored, R127 and log
entry 17); WFI goes on if a routed source is pending below CURLVL and otherwise waits. TRAP raises code 8 with EPC
after it, its code field kept (log entry 18), and a BKPT that the debug port does not enable raises code 7 with EPC at
it; while EXL is 1 each is a double fault; an enabled BKPT halts the core. On a reckoner TRAP, EI, DI, RETI and WFI
are ILLEGAL (code 1), and BKPT aborts the task with code 7 (R158). MFS and MTS move every system register that the
core has; a write of a read-only one has no effect; a number that the core has not is ILLEGAL. -/
def Obligations.SystemInstructions : Prop :=
  (∀ (c : Fin 6) (f : RForm) (s : State), Issues s c 4 f.pred → f.legal .zero .zero .zero resZero = true →
     (Answers (.nop c f) s fun t =>
       t.cpu[c].d = s.cpu[c].d ∧ t.cpu[c].a = s.cpu[c].a ∧ t.cpu[c].w = s.cpu[c].w ∧ t.cpu[c].p = s.cpu[c].p ∧
       t.cpu[c].carry = s.cpu[c].carry ∧ Passes s t c 4 1) ∧
     (Answers (.clrc c f) s fun t =>
       t.cpu[c].d = s.cpu[c].d ∧ t.cpu[c].a = s.cpu[c].a ∧ t.cpu[c].w = s.cpu[c].w ∧ t.cpu[c].p = s.cpu[c].p ∧
       t.cpu[c].carry = false ∧ Passes s t c 4 1) ∧
     (s.fenceOver c = true → Answers (.fence c f) s fun t =>
       t.cpu[c].d = s.cpu[c].d ∧ t.cpu[c].a = s.cpu[c].a ∧ t.cpu[c].w = s.cpu[c].w ∧ t.cpu[c].p = s.cpu[c].p ∧
       t.cpu[c].carry = s.cpu[c].carry ∧ Passes s t c 4 1) ∧
     (s.fenceOver c = false → Answers (.fence c f) s fun t =>
       t.cpu[c].wait = some .fence ∧ t.cpu[c].pc = s.cpu[c].pc ∧ t.cpu[c].d = s.cpu[c].d ∧ t.cpu[c].a = s.cpu[c].a ∧ t.regs = s.regs ∧
         t.mem = s.mem)) ∧
  (∀ (n : Fin 2) (s : State), s.cpu[stCore n].wait = some .fence → s.st[n].wbuf = [] → s.st[n].maint = 0 → s.cpu[stCore n].haltReq = false →
     Answers (.fenceDrainEnd (stCore n)) s fun t =>
       t.cpu[stCore n].wait = none ∧ t.cpu[stCore n].pc = s.cpu[stCore n].pc + 4 ∧ t.cpu[stCore n].d = s.cpu[stCore n].d ∧ t.regs = s.regs ∧
         t.mem = s.mem) ∧
  (∀ (n : Fin 2) (s : State), s.cpu[stCore n].wait = some .fence → (s.st[n].wbuf ≠ [] ∨ s.st[n].maint ≠ 0) →
     exec (.fenceDrainEnd (stCore n)) s = .next s) ∧
  (∀ (n : Fin 4) (s : State), s.cpu[rkCore n].wait = some .fence → s.rk[n].posted = [] → s.rk[n].abortNow = false → s.rk[n].errors = [] →
    s.cpu[rkCore n].haltReq = false →
     Answers (.fenceDrainEnd (rkCore n)) s fun t =>
       t.cpu[rkCore n].wait = none ∧ t.cpu[rkCore n].pc = s.cpu[rkCore n].pc + 4 ∧ t.cpu[rkCore n].d = s.cpu[rkCore n].d ∧ t.regs = s.regs ∧
         t.mem = s.mem) ∧
  (∀ (n : Fin 4) (s : State), s.cpu[rkCore n].wait = some .fence → s.rk[n].posted ≠ [] → exec (.fenceDrainEnd (rkCore n)) s = .next s) ∧
  (∀ (n : Fin 2) (f : RForm) (s : State), Issues s (stCore n) 4 f.pred → f.legal .zero .zero .zero resZero = true →
     (Answers (.ei (stCore n) f) s fun t =>
       t.st[n].estat = s.st[n].estat ||| 1 ∧ t.st[n].epc = s.st[n].epc ∧ t.cpu[stCore n].d = s.cpu[stCore n].d ∧
         Passes s t (stCore n) 4 1) ∧
     (Answers (.di (stCore n) f) s fun t =>
       t.st[n].estat = s.st[n].estat &&& ~~~1 ∧ t.st[n].shadow = true ∧ t.st[n].epc = s.st[n].epc ∧
       t.cpu[stCore n].d = s.cpu[stCore n].d ∧ Passes s t (stCore n) 4 1) ∧
     (Answers (.reti (stCore n) f) s fun t =>
       t.cpu[stCore n].pc = s.st[n].epc &&& ~~~3 ∧ t.st[n].estat.getLsbD 0 = s.st[n].estat.getLsbD 1 ∧
         t.st[n].estat.getLsbD 1 = s.st[n].estat.getLsbD 1 ∧
       t.st[n].estat.getLsbD 2 = false ∧ t.st[n].estat.extractLsb' 8 4 = s.st[n].estat.extractLsb' 12 4 ∧
         t.cpu[stCore n].loops = Vector.replicate 2 none ∧
       t.st[n].epc = s.st[n].epc ∧ t.st[n].ecause = s.st[n].ecause ∧ t.cpu[stCore n].next = s.issueAt (stCore n) + 3 * s.cycle (stCore n) ∧
       t.cpu[stCore n].d = s.cpu[stCore n].d ∧ t.cpu[stCore n].a = s.cpu[stCore n].a ∧ t.regs = s.regs ∧ t.mem = s.mem) ∧
     (s.irqBelow n = none → Answers (.wfi (stCore n) f) s fun t =>
       t.st[n].wfi = true ∧ t.cpu[stCore n].pc = s.cpu[stCore n].pc ∧ t.cpu[stCore n].d = s.cpu[stCore n].d ∧ t.regs = s.regs ∧
         t.mem = s.mem) ∧
     ((s.irqBelow n).isSome = true → Answers (.wfi (stCore n) f) s fun t =>
       t.st[n].wfi = s.st[n].wfi ∧ t.cpu[stCore n].d = s.cpu[stCore n].d ∧ Passes s t (stCore n) 4 1)) ∧
  (∀ (n : Fin 2) (f : RForm) (s : State), Issues s (stCore n) 4 f.pred → f.legal .zero .zero .d resZero = true →
    s.st[n].estat.getLsbD 2 = false →
     Answers (.trap (stCore n) f) s fun t => Enters s t n 8 (s.cpu[stCore n].pc + 4) ∧ t.st[n].trapCode = f.rb) ∧
  (∀ (n : Fin 2) (f : RForm) (s : State), Issues s (stCore n) 4 f.pred → f.legal .zero .zero .d resZero = true →
    s.st[n].estat.getLsbD 2 = true →
     Answers (.trap (stCore n) f) s fun t => DoubleFaults s t n) ∧
  (∀ (n : Fin 2) (f : RForm) (s : State), Issues s (stCore n) 4 f.pred → f.legal .zero .zero .zero resZero = true →
     s.cpu[stCore n].bkptEn = false →
     (s.st[n].estat.getLsbD 2 = false → Answers (.bkpt (stCore n) f) s fun t => Enters s t n 7 s.cpu[stCore n].pc) ∧
     (s.st[n].estat.getLsbD 2 = true → Answers (.bkpt (stCore n) f) s fun t => DoubleFaults s t n)) ∧
  (∀ (c : Fin 6) (f : RForm) (s : State), Issues s c 4 f.pred → f.legal .zero .zero .zero resZero = true → s.cpu[c].bkptEn = true →
     s.cpu[c].halted = false →
     Answers (.bkpt c f) s fun t =>
       t.cpu[c].halted = true ∧ t.cpu[c].pc = s.cpu[c].pc + 4 ∧ t.cpu[c].d = s.cpu[c].d ∧ t.cpu[c].a = s.cpu[c].a ∧ t.mem = s.mem) ∧
  (∀ (n : Fin 4) (k : RkTask) (f : RForm) (s : State), s.rk[n].task = some k → Issues s (rkCore n) 4 f.pred →
    f.legal .zero .zero .zero resZero = true →
     s.cpu[rkCore n].bkptEn = false → Answers (.bkpt (rkCore n) f) s fun t => Aborts s t n k 7) ∧
  (∀ (n : Fin 4) (k : RkTask) (f : RForm) (s : State), s.rk[n].task = some k → Reaches s (rkCore n) 4 →
     (Answers (.ei (rkCore n) f) s fun t => Aborts s t n k 1) ∧ (Answers (.di (rkCore n) f) s fun t => Aborts s t n k 1) ∧
     (Answers (.reti (rkCore n) f) s fun t => Aborts s t n k 1) ∧ (Answers (.wfi (rkCore n) f) s fun t => Aborts s t n k 1) ∧
     (Answers (.trap (rkCore n) f) s fun t => Aborts s t n k 1)) ∧
  (∀ (c : Fin 6) (f : IForm) (v : Word) (s : State), Issues s c (extBytes f.ext) f.pred → f.legal .d .zero 6 = true →
     s.sysRead c f.small (s.issueAt c) = some v →
     GivesD (exec (.mfs c f) s) s c (extBytes f.ext) (1 + extCycle f.ext) f.rd v false) ∧
  (∀ (c : Fin 6) (f : IForm) (s : State), Issues s c (extBytes f.ext) f.pred → f.legal .d .zero 6 = true → f.small < 7 →
     Answers (.mts c f) s fun t =>
       t.cpu[c].carry = (if f.small = 0 then (s.cpu[c].gd f.rd).getLsbD 0 else s.cpu[c].carry) ∧
       t.cpu[c].lc[(0 : Fin 2)] = (if f.small = 1 then (s.cpu[c].gd f.rd).setWidth 16 else s.cpu[c].lc[(0 : Fin 2)]) ∧
       t.cpu[c].lc[(1 : Fin 2)] = (if f.small = 2 then (s.cpu[c].gd f.rd).setWidth 16 else s.cpu[c].lc[(1 : Fin 2)]) ∧
       t.cpu[c].pc = s.cpu[c].pc + BitVec.ofNat 32 (extBytes f.ext) ∧ t.cpu[c].next = s.issueAt c + (1 + extCycle f.ext) * s.cycle c ∧
       t.cpu[c].d = s.cpu[c].d ∧ t.cpu[c].a = s.cpu[c].a ∧ t.cpu[c].w = s.cpu[c].w ∧ t.cpu[c].p = s.cpu[c].p ∧ t.regs = s.regs ∧
         t.mem = s.mem) ∧
  (∀ (n : Fin 2) (f : IForm) (s : State), Issues s (stCore n) (extBytes f.ext) f.pred → f.legal .d .zero 6 = true → 16 ≤ f.small →
    f.small < 26 →
     Answers (.mts (stCore n) f) s fun t =>
       t.st[n].epc = (if f.small = 16 then s.cpu[stCore n].gd f.rd else s.st[n].epc) ∧ t.st[n].ecause = s.st[n].ecause ∧
         t.st[n].eaddr = s.st[n].eaddr ∧
       t.st[n].estat = (if f.small = 19 then s.cpu[stCore n].gd f.rd &&& 0xFF07 else s.st[n].estat) ∧
         t.st[n].vbase = (if f.small = 20 then s.cpu[stCore n].gd f.rd &&& 0xFFFFFF00 else s.st[n].vbase) ∧
       t.st[n].scratch0 = (if f.small = 22 then s.cpu[stCore n].gd f.rd else s.st[n].scratch0) ∧
         t.st[n].scratch1 = (if f.small = 23 then s.cpu[stCore n].gd f.rd else s.st[n].scratch1) ∧
       t.st[n].ccfg = (if f.small = 24 then s.cpu[stCore n].gd f.rd &&& 3 else s.st[n].ccfg) ∧
       (f.small = 25 → (s.cpu[stCore n].gd f.rd).getLsbD 1 = true → t.st[n].maint.getLsbD 1 = true ∨ s.st[n].maint.getLsbD 2 = true) ∧
       (f.small = 25 → t.st[n].maint.getLsbD 2 = (s.st[n].maint.getLsbD 2 || (s.cpu[stCore n].gd f.rd).getLsbD 2)) ∧ (f.small ≠ 25 →
         t.st[n].maint = s.st[n].maint) ∧
       t.cpu[stCore n].d = s.cpu[stCore n].d ∧ t.cpu[stCore n].carry = s.cpu[stCore n].carry ∧
         Passes s t (stCore n) (extBytes f.ext) (1 + extCycle f.ext)) ∧
  (∀ (n : Fin 4) (k : RkTask) (f : IForm) (s : State), s.rk[n].task = some k → Reaches s (rkCore n) (extBytes f.ext) → 7 ≤ f.small →
     (Answers (.mfs (rkCore n) f) s fun t => Aborts s t n k 1) ∧ (Answers (.mts (rkCore n) f) s fun t => Aborts s t n k 1)) ∧
  (∀ (n : Fin 2) (f : IForm) (s : State), Reaches s (stCore n) (extBytes f.ext) → (7 ≤ f.small ∧ f.small < 16) ∨ 26 ≤ f.small →
     (s.st[n].estat.getLsbD 2 = false → (Answers (.mfs (stCore n) f) s fun t => Enters s t n 1 s.cpu[stCore n].pc) ∧
       (Answers (.mts (stCore n) f) s fun t => Enters s t n 1 s.cpu[stCore n].pc)) ∧
     (s.st[n].estat.getLsbD 2 = true → (Answers (.mfs (stCore n) f) s fun t => DoubleFaults s t n) ∧
       (Answers (.mts (stCore n) f) s fun t => DoubleFaults s t n)))

/-- R352, R353: an enabled routed source below CURLVL is taken at an instruction boundary by its level's vector, with the
pc and the status saved; an NMI by vector 1 whatever IE holds; a pending source ends a WFI, without entry while IE is
0; a failed store that was buffered raises BUS with POSTED set (R357). -/
def Obligations.StewardInterrupts : Prop :=
  (∀ (n : Fin 2) (src lvl : Nat) (s : State), s.irqBelow n = some (src, lvl) → s.stReady n = true → s.st[n].estat.getLsbD 0 = true →
     s.st[n].estat.getLsbD 2 = false → s.st[n].shadow = false → s.st[n].wfi = false → s.cpu[stCore n].ended = none →
     Answers (.interruptEntry n) s fun t =>
       t.cpu[stCore n].pc = s.st[n].vbase + BitVec.ofNat 32 (0x20 * (2 + lvl)) ∧ t.st[n].epc = s.cpu[stCore n].pc ∧
       t.st[n].ecause = BitVec.ofNat 32 (16 + 256 * src) ∧ t.st[n].estat.getLsbD 0 = false ∧ t.st[n].estat.getLsbD 1 = true ∧
       t.st[n].estat.getLsbD 2 = true ∧ (t.st[n].estat.extractLsb' 8 4).toNat = lvl ∧
       t.st[n].estat.extractLsb' 12 4 = s.st[n].estat.extractLsb' 8 4 ∧ t.cpu[stCore n].d = s.cpu[stCore n].d ∧ t.regs = s.regs ∧
         t.mem = s.mem) ∧
  (∀ (n : Fin 2) (s : State), s.stReady n = true → s.st[n].nmi = true → s.st[n].estat.getLsbD 2 = false → s.st[n].wfi = false →
     s.cpu[stCore n].ended = none →
     Answers (.nmiEntry n) s fun t =>
       t.cpu[stCore n].pc = s.st[n].vbase + 0x20 ∧ t.st[n].epc = s.cpu[stCore n].pc ∧ t.st[n].ecause = 17 ∧ t.st[n].nmi = false ∧
       t.st[n].estat.getLsbD 1 = s.st[n].estat.getLsbD 0 ∧ t.st[n].estat.getLsbD 0 = false ∧ t.cpu[stCore n].d = s.cpu[stCore n].d ∧
       t.regs = s.regs ∧ t.mem = s.mem) ∧
  (∀ (n : Fin 2) (s : State), s.st[n].wfi = true → s.stReady n = true → (s.irqBelow n).isSome = true → s.st[n].estat.getLsbD 0 = false →
     Answers (.wfiWake n) s fun t =>
       t.st[n].wfi = false ∧ t.cpu[stCore n].pc = s.cpu[stCore n].pc + 4 ∧ t.st[n].estat = s.st[n].estat ∧ t.regs = s.regs ∧
         t.mem = s.mem) ∧
  (∀ (n : Fin 2) (a : Nat) (posted : Bool) (rest : List (Nat × Bool)) (s : State), s.st[n].storeErr = (a, posted) :: rest →
    s.stReady n = true → s.cpu[stCore n].ended = none →
     s.st[n].wfi = false → s.st[n].estat.getLsbD 2 = false →
     Answers (.remoteStoreError n) s fun t =>
       t.st[n].storeErr = rest ∧ t.st[n].ecause = (if posted then 35 else 3) ∧ t.st[n].eaddr = BitVec.ofNat 32 a ∧
         t.st[n].epc = s.cpu[stCore n].pc ∧
       t.cpu[stCore n].pc = s.st[n].vbase ∧ t.cpu[stCore n].d = s.cpu[stCore n].d ∧ t.regs = s.regs ∧ t.mem = s.mem)

/-- R157, R344, R345, R350: SWAP and AADD read a word of system SRAM and write it in one operation, once the buffer is
empty and a tag is free (R21); CCLN queues a dirty line and keeps it clean; CINV and ICINV drop a line, CCI cleans and
drops it; the whole-cache operations are wanted by a write of CMAINT and done once the buffer is empty, a clean with a
free tag; a clean wanted after a DCINV that still waits finds nothing to write; a line that a load waits for is filled
and the load completes. -/
def Obligations.AtomicsAndCaches : Prop :=
  (∀ (n : Fin 2) (f : MForm) (s : State), Issues s (stCore n) (extBytes f.ext) f.pred → f.legal rdAny 1 = true →
    s.ea (stCore n) f 4 % 4 = 0 →
     region (s.ea (stCore n) f 4) = .sram → s.fenceOver (stCore n) = true → s.tagFree n.val = true →
       s.eccBad (s.ea (stCore n) f 4) = false →
     (Answers (.swap (stCore n) f) s fun t =>
       (∀ j : Fin 16, t.cpu[stCore n].d[j] = if j.val = f.rd.toNat then BitVec.ofNat 32 (s.memRd (s.ea (stCore n) f 4) 4) else s.cpu[stCore n].d[j]) ∧
       BitVec.ofNat 32 (t.memRd (s.ea (stCore n) f 4) 4) = s.cpu[stCore n].gd f.rd ∧ SameMemoryBut (s.ea (stCore n) f 4) 4 s t ∧
       t.cpu[stCore n].a = s.cpu[stCore n].a ∧ t.cpu[stCore n].pc = s.cpu[stCore n].pc + BitVec.ofNat 32 (extBytes f.ext) ∧
         t.regs = s.regs) ∧
     (Answers (.aadd (stCore n) f) s fun t =>
       (∀ j : Fin 16, t.cpu[stCore n].d[j] = if j.val = f.rd.toNat then BitVec.ofNat 32 (s.memRd (s.ea (stCore n) f 4) 4) else s.cpu[stCore n].d[j]) ∧
       BitVec.ofNat 32 (t.memRd (s.ea (stCore n) f 4) 4) = BitVec.ofNat 32 (s.memRd (s.ea (stCore n) f 4) 4) + s.cpu[stCore n].gd f.rd ∧
       SameMemoryBut (s.ea (stCore n) f 4) 4 s t ∧
       t.cpu[stCore n].a = s.cpu[stCore n].a ∧ t.cpu[stCore n].pc = s.cpu[stCore n].pc + BitVec.ofNat 32 (extBytes f.ext) ∧
         t.regs = s.regs)) ∧
  (∀ (n : Fin 2) (f : MForm) (l : CLine) (s : State), Issues s (stCore n) (extBytes f.ext) f.pred → f.legal (· == 0) 2 = true →
     s.st[n].dcache.find (s.ea (stCore n) f 32) = some l → l.dirty = true → s.st[n].wbuf.length < 8 →
     Answers (.ccln (stCore n) f) s fun t =>
       (t.st[n].wbuf.getLast?.map fun e => (e.addr, e.size, e.data, e.line)) = some (l.addr, 32, l.data, true) ∧
       t.st[n].wbuf.length = s.st[n].wbuf.length + 1 ∧
       (t.st[n].dcache.find (s.ea (stCore n) f 32)).map (fun x => (x.data, x.dirty)) = some (l.data, false) ∧
       t.cpu[stCore n].pc = s.cpu[stCore n].pc + BitVec.ofNat 32 (extBytes f.ext) ∧ t.cpu[stCore n].d = s.cpu[stCore n].d ∧ t.mem = s.mem) ∧
  (∀ (n : Fin 2) (f : MForm) (s : State), Issues s (stCore n) (extBytes f.ext) f.pred → f.legal (· == 1) 2 = true →
     Answers (.cinv (stCore n) f) s fun t =>
       t.st[n].dcache.find (s.ea (stCore n) f 32) = none ∧ t.st[n].wbuf = s.st[n].wbuf ∧
       t.cpu[stCore n].d = s.cpu[stCore n].d ∧ t.cpu[stCore n].pc = s.cpu[stCore n].pc + BitVec.ofNat 32 (extBytes f.ext) ∧
         t.regs = s.regs ∧ t.mem = s.mem) ∧
  (∀ (n : Fin 2) (f : MForm) (l : CLine) (s : State), Issues s (stCore n) (extBytes f.ext) f.pred → f.legal (· == 2) 2 = true →
     s.st[n].dcache.find (s.ea (stCore n) f 32) = some l → l.dirty = true → s.st[n].wbuf.length < 8 →
     Answers (.cci (stCore n) f) s fun t =>
       (t.st[n].wbuf.getLast?.map fun e => (e.addr, e.size, e.data, e.line)) = some (l.addr, 32, l.data, true) ∧
       t.st[n].dcache.find (s.ea (stCore n) f 32) = none ∧ t.cpu[stCore n].d = s.cpu[stCore n].d ∧
       t.cpu[stCore n].pc = s.cpu[stCore n].pc + BitVec.ofNat 32 (extBytes f.ext) ∧ t.mem = s.mem) ∧
  (∀ (n : Fin 2) (f : MForm) (s : State), Issues s (stCore n) (extBytes f.ext) f.pred → f.legal (· == 3) 2 = true →
     Answers (.icinv (stCore n) f) s fun t =>
       t.st[n].icache.find (s.ea (stCore n) f 32) = none ∧ t.st[n].dcache = s.st[n].dcache ∧
       t.cpu[stCore n].d = s.cpu[stCore n].d ∧ t.cpu[stCore n].pc = s.cpu[stCore n].pc + BitVec.ofNat 32 (extBytes f.ext) ∧
         t.regs = s.regs ∧ t.mem = s.mem) ∧
  (∀ (n : Fin 2) (s : State),
     (Answers (.cmaintIcinv n) s fun t => t.st[n].icache = {} ∧ t.st[n].maint = s.st[n].maint ||| 1 ∧ t.st[n].dcache = s.st[n].dcache ∧
       t.regs = s.regs ∧ t.mem = s.mem) ∧
     (Answers (.cmaintClean n) s fun t => t.st[n].maint = (if s.st[n].maint.getLsbD 2 then s.st[n].maint else s.st[n].maint ||| 2) ∧
       t.st[n].dcache = s.st[n].dcache ∧ t.st[n].icache = s.st[n].icache ∧ t.regs = s.regs ∧ t.mem = s.mem) ∧
     (Answers (.cmaintDcinv n) s fun t => t.st[n].maint = s.st[n].maint ||| 4 ∧ t.st[n].dcache = s.st[n].dcache ∧
       t.st[n].icache = s.st[n].icache ∧ t.regs = s.regs ∧ t.mem = s.mem)) ∧
  (∀ (n : Fin 2) (s : State), s.st[n].wbuf = [] → s.st[n].maint = 4 →
     Answers (.cacheMaintDone n) s fun t => t.st[n].maint = 0 ∧ t.st[n].dcache = {} ∧ t.st[n].icache = s.st[n].icache ∧ t.regs = s.regs ∧
       t.mem = s.mem) ∧
  (∀ (n : Fin 2) (s : State), s.st[n].wbuf = [] → s.st[n].maint = 2 → s.tagFree n.val = true →
     Answers (.cacheMaintDone n) s fun t =>
       t.st[n].maint = 0 ∧ t.st[n].dcache.lines.all (fun l => !l.dirty) = true ∧
         t.st[n].dcache.lines.length = s.st[n].dcache.lines.length) ∧
  (∀ (n : Fin 2) (a : Nat) (rd : Fin 16) (s : State), s.cpu[stCore n].wait = some (.load a 4 (.d rd false) [] 4 true) → region a = .sram →
     s.bufLine n a = none → (s.st[n].dcache.victim a).filter (·.dirty) = none → s.st[n].dcache.find a = none →
     (∀ i : Fin 4, s.eccBad (lineOf a + 8 * i.val) = false) → s.tagFree n.val = true → s.cpu[stCore n].haltReq = false →
     Answers (.cacheMissFill n) s fun t =>
       (∀ j : Fin 16, t.cpu[stCore n].d[j] = if j = rd then BitVec.ofNat 32 (lineGet (s.memRd (lineOf a) 32) a 4) else s.cpu[stCore n].d[j]) ∧
       t.cpu[stCore n].wait = none ∧ t.cpu[stCore n].pc = s.cpu[stCore n].pc + 4 ∧
         (t.st[n].dcache.find a).map (·.data) = some (s.memRd (lineOf a) 32) ∧
       t.regs = s.regs ∧ t.mem = s.mem)

/-- R54, R161–R166, R176: a launch of an enabled slot that finds the reckoner idle starts its task 13 ns or more after the
match, at the slot's entry; one that finds a task running waits, with the time of its match; one that finds itself
waiting is an overrun; one to a disabled slot is dropped. The dispatch starts the lowest pending slot when the gap
ends, and a start takes a wanted bank swap. -/
def Obligations.TaskLaunchAndDispatch : Prop :=
  (∀ (n : Fin 4) (k : Fin 8) (l : Launch) (T : Nat) (s : State), s.launchOf (16 + 8 * n.val + k.val) = some l →
     T = rkUp (max (l.matched + 208) (s.pll.sysBackAt + 128)) → s.sysPllClk = true → s.pmu.warned = false →
       s.on (Fd.SYSCFG_RK_CTRL_EN n) = true →
     s.on (Fd.SYSCFG_SLOT_CFG_EN n k) = true → s.rk[n].pend = Vector.replicate 8 none → s.rk[n].task = none → s.rk[n].freeAt ≤ T →
     s.rkHalted n = false →
     Answers (.reckonerLaunch n k) s fun t =>
       t.rk[n].task = some ⟨k, T, s.rkDue n k T, T⟩ ∧
         t.cpu[rkCore n].pc = BitVec.ofNat 32 (tcmBase n + 4 * s.get (Fd.SYSCFG_SLOT_CFG_ENTRY n k)) ∧
       t.cpu[rkCore n].next = T ∧ t.cpu[rkCore n].carry = false ∧ t.rk[n].staged = [] ∧ t.get (Fd.SYSCFG_RK_STATUS_RUN n) = 1 ∧
       t.get (Fd.SYSCFG_RK_STATUS_SLOT n) = k.val ∧ t.cpu[rkCore n].d = s.cpu[rkCore n].d ∧ T ≤ t.now ∧ t.mem = s.mem) ∧
  (∀ (n : Fin 4) (k : Fin 8) (l : Launch) (T : Nat) (s : State), s.launchOf (16 + 8 * n.val + k.val) = some l →
     T = rkUp (max (l.matched + 208) (s.pll.sysBackAt + 128)) → s.sysPllClk = true → s.pmu.warned = false →
       s.on (Fd.SYSCFG_RK_CTRL_EN n) = true →
     s.on (Fd.SYSCFG_SLOT_CFG_EN n k) = true → s.rk[n].pend[k] = none → s.rk[n].task.isSome = true →
     Answers (.reckonerLaunch n k) s fun t =>
       t.rk[n].pend[k] = some ⟨T, s.rkDue n k T, l.matched⟩ ∧ t.rk[n].task = s.rk[n].task ∧
         (t.get (Fd.SYSCFG_RK_STATUS_PEND n)).testBit k.val = true ∧
       t.cpu = s.cpu ∧ t.mem = s.mem) ∧
  (∀ (n : Fin 4) (k : Fin 8) (l : Launch) (s : State), s.launchOf (16 + 8 * n.val + k.val) = some l → s.sysPllClk = true →
    s.pmu.warned = false →
     s.on (Fd.SYSCFG_RK_CTRL_EN n) = true → s.on (Fd.SYSCFG_SLOT_CFG_EN n k) = true → s.rk[n].pend[k].isSome = true →
     Answers (.reckonerLaunch n k) s fun t =>
       t.flag (Ev.SYSCFG_RK_FLAGS_OVR n) = true ∧ t.rk = s.rk ∧ t.cpu = s.cpu ∧ t.mem = s.mem) ∧
  (∀ (n : Fin 4) (k : Fin 8) (l : Launch) (s : State), s.launchOf (16 + 8 * n.val + k.val) = some l → s.sysPllClk = true →
    s.pmu.warned = false →
     s.on (Fd.SYSCFG_SLOT_CFG_EN n k) = false →
     Answers (.reckonerLaunch n k) s fun t => t.flag (Ev.SYSCFG_RK_FLAGS_DROP n) = true ∧ t.rk = s.rk ∧ t.cpu = s.cpu ∧ t.mem = s.mem) ∧
  (∀ (n : Fin 4) (k : Fin 8) (p : RkPend) (s : State), s.rk[n].task = none → s.rkHalted n = false → s.sysPllClk = true →
     s.rk[n].cancelAt ≠ some s.rk[n].freeAt →
     (∀ j : Fin 8, j < k → s.rk[n].pend[j] = none) → s.rk[n].pend[k] = some p →
     (∀ j : Fin 8, dueBy (s.rk[n].pend[j].bind (·.due)) s.rk[n].freeAt = false) →
     Answers (.taskDispatch n) s fun t =>
       t.rk[n].task = some ⟨k, p.launch, p.due, s.rk[n].freeAt⟩ ∧ t.rk[n].pend[k] = none ∧
       t.cpu[rkCore n].pc = BitVec.ofNat 32 (tcmBase n + 4 * s.get (Fd.SYSCFG_SLOT_CFG_ENTRY n k)) ∧ t.cpu[rkCore n].next = s.rk[n].freeAt ∧
       t.get (Fd.SYSCFG_RK_STATUS_SWPPEND n) = 0 ∧
       t.get (Fd.SYSCFG_RK_STATUS_BANK n) = (if s.on (Fd.SYSCFG_RK_STATUS_SWPPEND n) = true then 1 - s.get (Fd.SYSCFG_RK_STATUS_BANK n) else s.get (Fd.SYSCFG_RK_STATUS_BANK n)) ∧
       t.mem = s.mem)

/-- R163, R167–R169, R173, R176: the end of the drain ends the task and sends its staging on its way as one unit; a
deadline that comes without TDONE aborts the task with code 16, ABORTNOW with 17, an illegal word with 1, each
recorded with slot and word; EN = 0 discards the pending launches; a bank swap is requested and cancelled. -/
def Obligations.TaskEnds : Prop :=
  (∀ (n : Fin 4) (t0 : Nat) (k : RkTask) (s : State), s.rk[n].task = some k → s.cpu[rkCore n].haltReq = false → s.rk[n].errors = [] →
    s.rk[n].tdone = some t0 → s.rk[n].posted = [] → s.rk[n].staged.all (fun d => !sysDest d.1) = true → s.rk[n].staged ≠ [] →
     Answers (.taskEndRelease n) s fun t =>
       t.rk[n].task = none ∧ t.rk[n].staged = [] ∧ t.rk[n].freeAt = max (t0 + 64) (rkUp s.rk[n].emptyAt) + 96 ∧
       t.rk[n].relPwm = s.rk[n].relPwm ++ [⟨max (t0 + 64) (rkUp s.rk[n].emptyAt), s.rk[n].staged⟩] ∧ t.rk[n].relSys = s.rk[n].relSys ∧
       t.get (Fd.SYSCFG_RK_STATUS_RUN n) = 0 ∧ t.cpu[rkCore n].d = s.cpu[rkCore n].d ∧ t.mem = s.mem) ∧
  (∀ (n : Fin 4) (r : Release) (rest : List Release) (k : Fin 48) (v : Word) (s : State), s.pwmClk = true → s.rk[n].relPwm = r :: rest →
    r.dests = [(k.val, v)] →
     (s.get Fd.PWM_LOADALL_ALL).testBit (s.carOf k).val = false → s.pwm.landAt < r.ended →
     Answers (.releaseLanding (1#4 <<< n.val) false) s fun t =>
       t.rk[n].relPwm = rest ∧ t.rd (Reg.PWM_LEG_CMPA k) = v ∧ r.ended + 80 ≤ t.now ∧ SameRegistersBut [Reg.PWM_LEG_CMPA k] s t ∧
         t.mem = s.mem) ∧
  (∀ (n : Fin 4) (k : RkTask) (d : Nat) (s : State), s.rk[n].task = some k → k.due = some d → s.rk[n].tdone = none → s.rkHalted n = false →
    s.cpu[rkCore n].haltReq = false →
     s.rk[n].pend = Vector.replicate 8 none →
     Answers (.deadlineMiss n) s fun t =>
       t.rk[n].task = none ∧ t.flag (Ev.SYSCFG_RK_FLAGS_MISS n) = true ∧ t.rk[n].staged = [] ∧ t.rk[n].freeAt = d + 96 ∧
       t.rdN (Reg.SYSCFG_RK_LASTABORT n) = 16 + 256 * k.slot.val + 65536 * pcWord n (s.pc (rkCore n)) ∧ t.mem = s.mem) ∧
  (∀ (n : Fin 4) (s : State), s.sysPllClk = true → s.rk[n].haltAt = none → Answers (.reckonerEnableWrite n false) s fun t =>
     t.get (Fd.SYSCFG_RK_CTRL_EN n) = 0 ∧ t.rk[n].pend = Vector.replicate 8 none ∧ t.rk[n].task = s.rk[n].task ∧ t.cpu = s.cpu ∧
       t.mem = s.mem) ∧
  (∀ (n : Fin 4) (s : State), s.sysPllClk = true → s.rk[n].haltAt = none → Answers (.reckonerEnableWrite n true) s fun t =>
     t.get (Fd.SYSCFG_RK_CTRL_EN n) = 1 ∧ SameRegistersBut [Reg.SYSCFG_RK_CTRL n] s t ∧ t.rk = s.rk ∧ t.cpu = s.cpu ∧ t.mem = s.mem) ∧
  (∀ (n : Fin 4) (en : Bool) (s : State), s.sysPllClk = false → Answers (.reckonerEnableWrite n en) s fun t =>
     t.parked.length = s.parked.length + 1 ∧ t.regs = s.regs ∧ t.rk = s.rk ∧ t.cpu = s.cpu ∧ t.mem = s.mem) ∧
  (∀ (n : Fin 4) (k : RkTask) (s : State), s.rk[n].task = some k → s.rk[n].tdone = none → s.cpu[rkCore n].wait = none →
     s.sysPllClk = true → s.rk[n].haltAt = none → s.on (Fd.SYSCFG_RK_CTRL_EN n) = true → s.cpu[rkCore n].haltReq = false →
     Answers (.abortnow n) s fun t =>
       t.rk[n].task = none ∧ t.flag (Ev.SYSCFG_RK_FLAGS_EXC n) = true ∧ t.rk[n].staged = [] ∧
       t.rdN (Reg.SYSCFG_RK_LASTABORT n) = 17 + 256 * k.slot.val + 65536 * pcWord n (s.pc (rkCore n)) ∧ t.mem = s.mem) ∧
  (∀ (n : Fin 4) (k : RkTask) (f : RForm) (s : State), s.rk[n].task = some k → s.canIssue (rkCore n) = true → s.cpu[rkCore n].ended = none →
     (s.lateAt (rkCore n) (s.issueAt (rkCore n))).isNone = true → (s.storeErrAt (rkCore n) (s.issueAt (rkCore n))).isNone = true →
     s.cpu[rkCore n].haltReq = false → s.fetchFault (rkCore n) 4 = none → f.legal .d .d .d resZero = false →
     Answers (.add (rkCore n) f) s fun t =>
       t.rk[n].task = none ∧ t.flag (Ev.SYSCFG_RK_FLAGS_EXC n) = true ∧
       t.rdN (Reg.SYSCFG_RK_LASTABORT n) = 1 + 256 * k.slot.val + 65536 * pcWord n (s.pc (rkCore n)) ∧
       t.cpu[rkCore n].d = s.cpu[rkCore n].d ∧ t.mem = s.mem) ∧
  (∀ (c : Fin 6) (f : RForm) (s : State), s.canIssue c = true → s.cpu[c].ended = none → (s.lateAt c (s.issueAt c)).isNone = true →
     (s.storeErrAt c (s.issueAt c)).isNone = true → s.fetchFault c 4 = none →
     f.legal .d .d .d resZero = true → predTrue f.pred s.cpu[c].p = false →
     Answers (.add c f) s fun t => t.cpu[c].d = s.cpu[c].d ∧ t.cpu[c].carry = s.cpu[c].carry ∧ Passes s t c 4 1) ∧
  (∀ (n : Fin 4) (s : State), s.sysPllClk = true → (s.rk[n].task.map (·.start)) ≠ some (rkUp s.now + 64) → s.landing = false →
    Answers (.bankSwapRequest n) s fun t =>
     t.get (Fd.SYSCFG_RK_STATUS_SWPPEND n) = 1 ∧ t.rk[n].swapWrite = true ∧ SameRegistersBut [Reg.SYSCFG_RK_STATUS n] s t ∧ t.mem = s.mem) ∧
  (∀ (n : Fin 4) (s : State), s.sysPllClk = true → s.on (Fd.SYSCFG_RK_STATUS_SWPPEND n) = true → Answers (.bankSwapCancel n) s fun t =>
     t.get (Fd.SYSCFG_RK_STATUS_SWPPEND n) = 0 ∧ t.rk[n].swapWrite = false ∧ SameRegistersBut [Reg.SYSCFG_RK_STATUS n] s t ∧ t.mem = s.mem)

/-- R189, R191: a running carrier reaches its zero and its peak and fires their sources; a restart starts a new period of
an enabled carrier; R197: an armed carrier loads its legs' compares at a zero load point; R211: a change of an enabled
carrier's mode is refused, a good write stored. -/
def Obligations.CarrierEvents : Prop :=
  (∀ (c : Fin 8) (g : Nat) (s : State), s.pwm.carriers[c].run = true → s.pwmRuns = true → (s.get Fd.PWM_LOADALL_ALL).testBit c.val = false →
     g < 112 → s.selects g (68 + c.val) = true → s.suppressed = false →
     Answers (.carrierZero c) s fun t =>
       t.pwm.carriers[c].tau = (s.reachTau c (s.period c)).pwm.carriers[c].tau - s.period c ∧ t.pwm.carriers[c].peaked = false ∧
       t.pwm.carriers[c].run = true ∧ (∃ l ∈ t.tbl.inflight, l.target = g) ∧ t.now = (s.reachTau c (s.period c)).now ∧ t.mem = s.mem) ∧
  (∀ (c : Fin 8) (n : Fin 48) (s : State), s.pwm.carriers[c].run = true → s.pwmRuns = true →
    (s.get Fd.PWM_LOADALL_ALL).testBit c.val = true →
     s.get (Fd.PWM_C_CFG_LDPT c) = 0 → s.pwm.carriers[c].armedAt + 120 ≤ s.now → s.pwm.carriers[c].tau = s.period c → s.carOf n = c →
     s.on (Fd.PWM_LEG_CFG_EDGE n) = false →
     Answers (.carrierZero c) s fun t =>
       (t.get Fd.PWM_LOADALL_ALL).testBit c.val = false ∧ t.flag (Ev.PWM_C_FLAGS_LOADED c) = true ∧
       t.get (Fd.PWM_C_ACTPER_PER c) = max 32000 (min (2 ^ 30) (s.get (Fd.PWM_C_PER_PER c))) ∧
       t.rdN (Reg.PWM_LEG_ACTA n) = min (if t.centre c = true then t.half c else t.get (Fd.PWM_C_ACTPER_PER c)) (cut (s.rdN (Reg.PWM_LEG_CMPA n)) 0 31) ∧
       t.rdN (Reg.PWM_LEG_ACTB n) = min (if t.centre c = true then t.half c else t.get (Fd.PWM_C_ACTPER_PER c)) (cut (s.rdN (Reg.PWM_LEG_CMPB n)) 0 31) ∧
       t.mem = s.mem) ∧
  (∀ (c : Fin 8) (g : Nat) (s : State), s.pwm.carriers[c].run = true → s.pwmRuns = true → s.pwm.carriers[c].peaked = false →
     (s.get Fd.PWM_LOADALL_ALL).testBit c.val = false → g < 112 → s.selects g (76 + c.val) = true → s.suppressed = false →
     Answers (.carrierPeak c) s fun t =>
       t.pwm.carriers[c].peaked = true ∧ t.pwm.carriers[c].tau = (s.reachTau c (s.half c)).pwm.carriers[c].tau ∧
       (∃ l ∈ t.tbl.inflight, l.target = g) ∧ t.now = (s.reachTau c (s.half c)).now ∧ t.mem = s.mem) ∧
  (∀ (c : Fin 8) (l : Launch) (s : State), s.launchOf c.val = some l → s.pwmRuns = true → s.on (Fd.PWM_C_CFG_EN c) = true →
     Answers (.carrierRestart c) s fun t =>
       t.pwm.carriers[c].run = true ∧ t.pwm.carriers[c].peaked = false ∧ (t.get Fd.PWM_STATUS_RUN).testBit c.val = true ∧ t.mem = s.mem) ∧
  (∀ (m : BitVec 8) (c : Fin 8) (s : State), m.getLsbD c.val = true → s.pwmRuns = true → s.landing = false →
    s.on (Fd.PWM_C_CFG_EN c) = true →
     Answers (.pwmRestartWrite m) s fun t =>
       t.pwm.carriers[c].run = true ∧ t.pwm.carriers[c].peaked = false ∧ (t.get Fd.PWM_STATUS_RUN).testBit c.val = true ∧
       s.now + 80 = t.now ∧ t.mem = s.mem) ∧
  (∀ (m : BitVec 8) (c : Fin 8) (s : State), m.getLsbD c.val = true → s.pwmClk = true → s.pwm.frozen = true → s.landing = false →
     s.on (Fd.PWM_C_CFG_EN c) = true →
     Answers (.pwmRestartWrite m) s fun t =>
       t.pwm.carriers[c].restartPend = true ∧ t.pwm.carriers[c].run = s.pwm.carriers[c].run ∧ t.regs = s.regs ∧ t.mem = s.mem) ∧
  (∀ (m : BitVec 8) (s : State), s.pwmClk = false → Answers (.pwmRestartWrite m) s fun t =>
     t.parked = s.parked ++ [(Reg.PWM_RESTART, BitVec.ofNat 32 m.toNat)] ∧ t.regs = s.regs ∧ t.pwm = s.pwm ∧ t.mem = s.mem) ∧
  (∀ (c : Fin 8) (v : Word) (s : State), s.pwmClk = true → s.landing = false → cut v.toNat 2 2 = 3 →
     Answers (.carrierCfgWrite c v) s fun t =>
       t.flag Ev.PWM_GFLAGS_CFGERR = true ∧ SameRegistersBut [Reg.PWM_GFLAGS, Ev.PWM_GFLAGS_CFGERR.cnt] s t ∧ t.pwm = (s.advance 2).pwm ∧
         t.mem = s.mem) ∧
  (∀ (c : Fin 8) (v : Word) (s : State), s.pwmClk = true → s.landing = false → s.on (Fd.PWM_C_CFG_EN c) = true →
    cut v.toNat 1 1 ≠ s.get (Fd.PWM_C_CFG_MODE c) →
     Answers (.carrierCfgWrite c v) s fun t =>
       t.flag Ev.PWM_GFLAGS_CFGERR = true ∧ SameRegistersBut [Reg.PWM_GFLAGS, Ev.PWM_GFLAGS_CFGERR.cnt] s t ∧ t.pwm = (s.advance 2).pwm ∧
         t.mem = s.mem) ∧
  (∀ (c : Fin 8) (v : Word) (s : State), s.pwmClk = true → s.landing = false → s.on (Fd.PWM_C_CFG_EN c) = false → cut v.toNat 2 2 ≠ 3 →
     Answers (.carrierCfgWrite c v) s fun t =>
       t.get (Fd.PWM_C_CFG_EN c) = cut v.toNat 0 1 ∧ t.get (Fd.PWM_C_CFG_MODE c) = cut v.toNat 1 1 ∧
         t.get (Fd.PWM_C_CFG_LDPT c) = cut v.toNat 2 2 ∧
       SameRegistersBut [Reg.PWM_C_CFG c] s t ∧ t.pwm = (s.advance 2).pwm ∧ t.mem = s.mem) ∧
  (∀ (c : Fin 8) (v : Word) (s : State), s.pwmClk = true → s.landing = false → s.on (Fd.PWM_C_CFG_EN c) = true → cut v.toNat 0 1 = 0 →
    cut v.toNat 1 1 = s.get (Fd.PWM_C_CFG_MODE c) →
     cut v.toNat 2 2 = s.get (Fd.PWM_C_CFG_LDPT c) → s.get (Fd.PWM_C_CFG_LDPT c) ≠ 3 →
     Answers (.carrierCfgWrite c v) s fun t =>
       t.get (Fd.PWM_C_CFG_EN c) = 0 ∧ t.pwm.carriers[c].run = false ∧ (t.get Fd.PWM_STATUS_RUN).testBit c.val = false ∧
       (∀ n : Fin 48, s.carOf n = c → t.get (Fd.PWM_LEG_STATE_REF n) = 0) ∧ t.mem = s.mem)

/-- R197, R199, R200: a write of LOADALL and a load-all launch arm carriers; a cancel disarms a carrier that is not near
its load point and lets a held value enter; a value that lands on a shadow enters it, or, while its carrier is armed,
is held aside with LATE. -/
def Obligations.LoadingShadows : Prop :=
  (∀ (m : BitVec 8) (c : Fin 8) (s : State), s.pwmClk = true → s.landing = false → Answers (.loadallWrite ⟨m, false⟩) s fun t =>
     (t.get Fd.PWM_LOADALL_ALL).testBit c.val = ((s.get Fd.PWM_LOADALL_ALL).testBit c.val || m.getLsbD c.val) ∧
     SameRegistersBut (Reg.PWM_LOADALL :: (List.finRange 8).flatMap fun (k : Fin 8) => [Reg.PWM_C_FLAGS k,
       (Ev.PWM_C_FLAGS_LATE k).cnt]) s t ∧
     t.now = s.now + 80 ∧ t.mem = s.mem) ∧
  (∀ (m : BitVec 8) (c : Fin 8) (s : State), s.pwmClk = true → Answers (.loadallWrite ⟨m, true⟩) s fun t =>
     (t.get Fd.PWM_LOADALL_ALL).testBit c.val = ((s.get Fd.PWM_LOADALL_ALL).testBit c.val || m.getLsbD c.val) ∧ t.now = s.now ∧
       t.mem = s.mem) ∧
  (∀ (c : Fin 8) (l : Launch) (s : State), s.launchOf (8 + c.val) = some l → s.pwmClk = true → Answers (.carrierLoadallLaunch c) s fun t =>
     (t.get Fd.PWM_LOADALL_ALL).testBit c.val = true ∧ t.tbl.inflight = s.tbl.inflight.erase l ∧
     SameRegistersBut [Reg.PWM_LOADALL, Reg.PWM_C_FLAGS c, (Ev.PWM_C_FLAGS_LATE c).cnt] s t ∧ t.mem = s.mem) ∧
  (∀ (c : Fin 8) (s : State), s.pwmClk = true → s.landing = false → s.pwm.carriers[c].run = false → s.pwm.held = [] → s.pwm.rearmed = [] →
     Answers (.loadcnclWrite (1#8 <<< c.val)) s fun t =>
     (t.get Fd.PWM_LOADALL_ALL).testBit c.val = false ∧ SameRegistersBut [Reg.PWM_LOADALL] s t ∧ t.now = s.now + 80 ∧ t.mem = s.mem) ∧
  (∀ (c : Fin 8) (x : Nat) (s : State), s.pwmClk = true → s.landing = false → (s.advance 2).pwm.carriers[c].run = true →
    (s.advance 2).nextLoad c = some x →
     x < (s.advance 2).pwm.carriers[c].abs + 120 →
     (s.advance 2).pwm.carriers[c].armedAt + 120 ≤ (s.advance 2).now + (x - (s.advance 2).pwm.carriers[c].abs) →
     Answers (.loadcnclWrite (1#8 <<< c.val)) s fun t =>
       (t.get Fd.PWM_LOADALL_ALL).testBit c.val = (s.get Fd.PWM_LOADALL_ALL).testBit c.val ∧ t.regs = s.regs ∧ t.mem = s.mem) ∧
  (∀ (sh : Shadow) (v : Word) (s : State), s.pwmClk = true → s.landing = false →
    (s.get Fd.PWM_LOADALL_ALL).testBit (s.shadowCar sh).val = false →
     s.pwm.relAt ≠ s.now + 80 →
     Answers (.shadowWriteLand sh v false) s fun t =>
       t.rdN (shadowReg sh) = v.toNat % shadowMask sh ∧ SameRegistersBut [shadowReg sh] s t ∧ t.now = s.now + 80 ∧ t.mem = s.mem) ∧
  (∀ (sh : Shadow) (v : Word) (s : State), s.pwmClk = true → s.landing = false →
    (s.get Fd.PWM_LOADALL_ALL).testBit (s.shadowCar sh).val = true →
     s.pwm.relAt ≠ s.now + 80 → s.pwm.carriers[s.shadowCar sh].armCycle ≠ some (s.now + 80) →
     Answers (.shadowWriteLand sh v false) s fun t =>
       t.rd (shadowReg sh) = s.rd (shadowReg sh) ∧ (t.shadowRead (shadowReg sh)).toNat = v.toNat % shadowMask sh ∧
       t.flag (Ev.PWM_C_FLAGS_LATE (s.shadowCar sh)) = true ∧ t.mem = s.mem)

/-- R192, R201–R203, R209: a reference edge toggles REF unless it is found short; the end of a dead time turns on the
switch that the leg's command names; an override is stored; MAXON turns both switches off and sets GUARD; an illegal
SAFE is refused; a calibration that cannot span is discarded with CALERR. -/
def Obligations.LegSwitching : Prop :=
  (∀ (n : Fin 48) (x : Nat) (s : State), s.pwm.carriers[s.carOf n].run = true → s.pwmRuns = true → s.nextEdge n = some x →
     Answers (.refEdge n) s fun t =>
       t.pwm.legs[n].last = x ∧ (t.flag (Ev.PWM_LEG_FLAGS_SHORT n) = false →
         t.get (Fd.PWM_LEG_STATE_REF n) = 1 - s.get (Fd.PWM_LEG_STATE_REF n)) ∧
       t.mem = s.mem) ∧
  (∀ (n : Fin 48) (d : Nat) (s : State), s.pwmRuns = true → s.pwm.legs[n].turnOn = some (true, d) → s.legCmd n = (true, false) →
     s.on (Fd.PWM_LEG_STATE_GUARDED n) = false → s.on (Fd.PWM_LEG_STATE_H n) = false → s.on (Fd.PWM_LEG_STATE_L n) = false →
     Answers (.deadTimeEnd n) s fun t =>
       t.get (Fd.PWM_LEG_STATE_H n) = 1 ∧ t.get (Fd.PWM_LEG_STATE_L n) = 0 ∧ t.pwm.legs[n].turnOn = none ∧ t.mem = s.mem) ∧
  (∀ (n : Fin 48) (d : Nat) (s : State), s.pwmRuns = true → s.pwm.legs[n].turnOn = some (false, d) → s.legCmd n = (false, true) →
     s.on (Fd.PWM_LEG_STATE_GUARDED n) = false → s.on (Fd.PWM_LEG_STATE_H n) = false → s.on (Fd.PWM_LEG_STATE_L n) = false →
     Answers (.deadTimeEnd n) s fun t =>
       t.get (Fd.PWM_LEG_STATE_L n) = 1 ∧ t.get (Fd.PWM_LEG_STATE_H n) = 0 ∧ t.pwm.legs[n].turnOn = none ∧ t.mem = s.mem) ∧
  (∀ (n : Fin 48) (v : Word) (s : State), s.pwmClk = true → s.landing = false → Answers (.legOvrWrite n v) s fun t =>
     t.rd (Reg.PWM_LEG_OVR n) = v &&& 7 ∧ t.get (Fd.PWM_LEG_CFG_MODE n) = s.get (Fd.PWM_LEG_CFG_MODE n) ∧ t.now = s.now + 80 ∧
       t.mem = s.mem) ∧
  (∀ (n : Fin 48) (v : Word) (s : State), s.pwmClk = true → s.landing = false → cut v.toNat 12 2 = 3 →
     Answers (.legCfgWrite n v) s fun t =>
       t.flag Ev.PWM_GFLAGS_CFGERR = true ∧ SameRegistersBut [Reg.PWM_GFLAGS, Ev.PWM_GFLAGS_CFGERR.cnt] s t ∧ t.pwm = (s.advance 2).pwm ∧
         t.mem = s.mem) ∧
  (∀ (n : Fin 48) (v : Word) (s : State), s.pwmClk = true → s.landing = false → cut v.toNat 12 2 ≠ 3 → s.on (Fd.PWM_LEG_CFG_EN n) = false →
     Answers (.legCfgWrite n v) s fun t => t.rd (Reg.PWM_LEG_CFG n) = v &&& 0x37FF#32 ∧ (Undisturbed s → t.mem = s.mem)) ∧
  (∀ (n : Fin 48) (a : Nat) (s : State), s.get (Fd.PWM_LEG_GUARD_MAXON n) ≠ 0 → s.pwm.legs[n].onH = some a →
     Answers (.maxonGuardTrip n) s fun t =>
       t.flag (Ev.PWM_LEG_FLAGS_GUARD n) = true ∧ t.get (Fd.PWM_LEG_STATE_GUARDED n) = 1 ∧ t.get (Fd.PWM_LEG_STATE_H n) = 0 ∧
       t.get (Fd.PWM_LEG_STATE_L n) = 0 ∧ a + s.get (Fd.PWM_LEG_GUARD_MAXON n) * 15200 ≤ t.now ∧ t.mem = s.mem) ∧
  (∀ (n : Fin 48) (s : State), Answers (.delayLineCalibration n false) s fun t =>
     t.flag Ev.PWM_GFLAGS_CALERR = true ∧ t.get Fd.PWM_CALSTAT_LEG = n.val ∧ t.pwm = s.pwm ∧ t.mem = s.mem) ∧
  (∀ (n : Fin 48) (s : State), exec (.delayLineCalibration n true) s = .next s)

/-- R204–R208: an asserted force event latches every domain it maps to and forces every leg of that domain; a pin's
release leaves the latch; a latch clears only when nothing demands its domain, else the set wins; a forced leg's safe
switch may turn on 80 tbu after the force; a selected debug halt freezes PWM, and the freeze ends when no selected
core is halted, with PHLOST. -/
def Obligations.ForcingAndFreeze : Prop :=
  (∀ (e : ForceEvent) (k : Fin 8) (s : State), (s.forceMask e).testBit k.val = true → (∀ i : Fin 8, e = .fltin i →
    (s.get Fd.PWM_FLTINCFG_EN).testBit i.val = true) →
     Answers (.forceEventAssert e) s fun t =>
       (t.get Fd.PWM_FSTAT_DOM).testBit k.val = true ∧ (t.get Fd.PWM_FSTAT_DEMAND).testBit k.val = true ∧
       (∀ n : Fin 48, s.get (Fd.PWM_LEG_CFG_FDOM n) = k.val → t.pwm.legs[n].forced = true) ∧ (Undisturbed s → t.mem = s.mem)) ∧
  (∀ (i k : Fin 8) (s : State), (s.forceMask (.fltin i)).testBit k.val = true → (s.get Fd.PWM_FLTINCFG_EN).testBit i.val = true →
     Answers (.fltinAssert i) s fun t =>
       (t.pwm.fltPins.getLsbD i.val == (s.get Fd.PWM_FLTINCFG_POL).testBit i.val) = true ∧ (t.get Fd.PWM_FSTAT_DOM).testBit k.val = true ∧
       (∀ n : Fin 48, s.get (Fd.PWM_LEG_CFG_FDOM n) = k.val → t.pwm.legs[n].forced = true) ∧ (Undisturbed s → t.mem = s.mem)) ∧
  (∀ (i k : Fin 8) (s : State), Answers (.fltinDeassert i) s fun t =>
     (t.pwm.fltPins.getLsbD i.val == (s.get Fd.PWM_FLTINCFG_POL).testBit i.val) = false ∧ ((s.get Fd.PWM_FSTAT_DOM).testBit k.val = true →
       (t.get Fd.PWM_FSTAT_DOM).testBit k.val = true) ∧
     (Undisturbed s → t.mem = s.mem)) ∧
  (∀ (n : Fin 48) (s : State), s.pwm.legs[n].forced = true → s.on Fd.PWM_FSTAT_PFW = false → s.pwmRuns = true →
     Answers (.forceSafeOn n) s fun t => t.pwm.legs[n].safeOn = true ∧ s.pwm.legs[n].forcedAt + 80 ≤ t.now ∧ t.mem = s.mem) ∧
  (∀ (k : Fin 8) (s : State), s.pwmClk = true → s.landing = false → s.demand.testBit k.val = false →
     Answers (.forceDomainClear k) s fun t =>
       (t.get Fd.PWM_FSTAT_DOM).testBit k.val = false ∧
       (∀ j : Fin 8, j ≠ k → (t.get Fd.PWM_FSTAT_DOM).testBit j.val = (s.get Fd.PWM_FSTAT_DOM).testBit j.val) ∧ (Undisturbed s →
         t.mem = s.mem)) ∧
  (∀ (k : Fin 8) (s : State), s.pwmClk = true → s.landing = false → s.demand.testBit k.val = true →
     Answers (.forceDomainClear k) s fun t =>
       (t.get Fd.PWM_FSTAT_DOM).testBit k.val = true ∧ t.flag Ev.PWM_GFLAGS_FORCE = true ∧ t.pwm = (s.advance 2).pwm ∧ t.mem = s.mem) ∧
  (∀ s : State, s.selHalted = true → s.on Fd.PWM_CTRL_DBGACT = false → s.pwm.frozen = false →
     Answers .pwmFreeze s fun t =>
       t.pwm.frozen = true ∧ t.get Fd.PWM_STATUS_FROZEN = 1 ∧ t.now = s.now + 80 ∧ SameRegistersBut [Reg.PWM_STATUS] s t ∧ t.mem = s.mem) ∧
  (∀ s : State, s.selHalted = true → s.on Fd.PWM_CTRL_DBGACT = true →
     Answers .pwmFreeze s fun t =>
       t.get Fd.PWM_FSTAT_DBG = 1 ∧ t.flag Ev.PWM_GFLAGS_DBGF = true ∧ (∀ n : Fin 48, t.pwm.legs[n].forced = true) ∧ (Undisturbed s →
         t.mem = s.mem)) ∧
  (∀ s : State, s.pwmClk = true → s.selHalted = false → s.pwm.frozen = true →
     Answers .pwmFreezeEnd s fun t =>
       t.pwm.frozen = false ∧ t.get Fd.PWM_STATUS_FROZEN = 0 ∧
       (∀ c : Fin 8, s.pwm.carriers[c].run = true → t.flag (Ev.PWM_C_FLAGS_PHLOST c) = true) ∧ t.mem = s.mem)

/-- R216, R217: a frame's fields stand where the table puts them, and its bits [14:1] are divisible by x^4 + x + 1; R218,
R219: the pending frame that was filled first is sent; R220: an idle lane refreshes the next pair with KA = 1; R223: a
drive-code word lands, or is lost to a release of the same PWM cycle with WCOLL; R221, R233: a change of polarity with
a leg enabled is refused, else the group's configuration is stored; R225, R226: a refresh is inserted at the zero
where the count reaches K, and counted. -/
def Obligations.DriveFrames : Prop :=
  (∀ (leg : Fin 4) (low off cpen ka : Bool) (step : Fin 16),
     frameWord leg low off step cpen ka < 2 ^ 16 ∧ cut (frameWord leg low off step cpen ka) 15 1 = 1 ∧
     cut (frameWord leg low off step cpen ka) 13 2 = leg ∧ cut (frameWord leg low off step cpen ka) 12 1 = low.toNat ∧
     cut (frameWord leg low off step cpen ka) 11 1 = off.toNat ∧ cut (frameWord leg low off step cpen ka) 7 4 = step ∧
     cut (frameWord leg low off step cpen ka) 6 1 = cpen.toNat ∧ cut (frameWord leg low off step cpen ka) 5 1 = ka.toNat ∧
     cut (frameWord leg low off step cpen ka) 0 1 = 0 ∧
     ∃ q : Fin 1024, (List.range 10).foldl (fun a i => if q.val.testBit i then a ^^^ (19 <<< i) else a) 0 =
       cut (frameWord leg low off step cpen ka) 1 14) ∧
  (∀ (k : Fin 12) (p : Nat) (l : List Nat) (s : State), s.laneOpen k = true → s.drive.groups[k].slots = p :: l → p < 16 →
     (s.laneFree k 0).tooLate k p (s.laneFree k 0).now = false →
     Answers (.dslFrameSend k) s fun t =>
       t.drive.groups[k].slots = l ∧ t.now = (s.laneFree k 0).now ∧ t.drive.groups[k].freeAt = t.now + 160 * tNs ∧
       (t.drive.groups[k].frames.head?.map fun f => (f.leg, f.low, f.off, f.start)) = some (p / 4, p / 2 % 2 == 1, p % 2 == 1, t.now) ∧
       (t.drive.groups[k].frames.head?.map fun f => (cut f.word 7 4, cut f.word 11 4, cut f.word 5 1)) =
         some (cut (s.rdN (Reg.DRIVE_LEG_CODE (4 * k.val + p / 4))) (4 * (p % 4)) 4, p, 0) ∧
       cut (t.rdN (Reg.DRIVE_LEG_SENT (4 * k.val + p / 4))) (4 * (p % 4)) 4 = cut (s.rdN (Reg.DRIVE_LEG_CODE (4 * k.val + p / 4))) (4 * (p % 4)) 4 ∧
       t.mem = s.mem) ∧
  (∀ (k : Fin 12) (p : Nat) (l : List Nat) (s : State), s.laneOpen k = true → s.drive.groups[k].slots = p :: l →
     (s.laneFree k 0).tooLate k p (s.laneFree k 0).now = true → p ∉ s.drive.groups[k].late →
     Answers (.dslFrameSend k) s fun t =>
       t.drive.groups[k].slots = p :: l ∧ t.flag (Ev.DRIVE_G_FLAGS_LATEFR k) = true ∧ t.drive.groups[k].frames = s.drive.groups[k].frames ∧
       t.drive.groups[k].late = p :: s.drive.groups[k].late ∧ t.now = (s.laneFree k 0).now ∧ t.mem = s.mem) ∧
  (∀ (k : Fin 12) (s : State), s.laneOpen k = true → s.drive.groups[k].slots = [] → s.drive.groups[k].refresh < 16 →
     (s.laneFree k (10 * tUs)).tooLate k s.drive.groups[k].refresh (s.laneFree k (10 * tUs)).now = false →
     Answers (.dslRefreshFrame k) s fun t =>
       t.drive.groups[k].refresh = (s.drive.groups[k].refresh + 1) % 16 ∧ t.now = (s.laneFree k (10 * tUs)).now ∧
       (t.drive.groups[k].frames.head?.map fun f => (f.start, cut f.word 5 1, cut f.word 7 4)) = some (t.now, 1,
         cut (s.rdN (Reg.DRIVE_LEG_CODE (4 * k.val + s.drive.groups[k].refresh / 4))) (4 * (s.drive.groups[k].refresh % 4)) 4) ∧
           t.mem = s.mem) ∧
  (∀ (n : Fin 48) (v : Word) (i : Fin 4) (s : State), s.pwmClk = true → s.landing = false → s.drive.relAt ≠ s.now + 80 →
    Answers (.driveCodeLand n v false) s fun t =>
     t.rd (Reg.DRIVE_LEG_CODE n) = v &&& 0x1FFFF ∧ SameRegistersBut [Reg.DRIVE_LEG_CODE n] s t ∧
     (cut v.toNat (4 * i.val) 4 ≠ cut (s.rdN (Reg.DRIVE_LEG_CODE n)) (4 * i.val) 4 →
       4 * (n.val % 4) + i.val ∈ (t.drive.groups[n.val / 4]).slots) ∧ t.mem = s.mem) ∧
  (∀ (n : Fin 48) (v : Word) (s : State), s.pwmClk = true → s.drive.relAt = s.now → n.val ∈ s.drive.relLegs →
    Answers (.driveCodeLand n v true) s fun t =>
     t.rd (Reg.DRIVE_LEG_CODE n) = s.rd (Reg.DRIVE_LEG_CODE n) ∧ t.flag (Ev.DRIVE_G_FLAGS_WCOLL (n.val / 4)) = true ∧ t.drive = s.drive ∧
       t.mem = s.mem) ∧
  (∀ (k : Fin 12) (v : Word) (i : Fin 4) (s : State), s.pwmClk = true → s.landing = false →
    cut v.toNat 1 2 ≠ cut (s.rdN (Reg.DRIVE_G_CFG k)) 1 2 →
     s.on (Fd.PWM_LEG_CFG_EN (4 * k.val + i.val)) = true → Answers (.driveGroupCfgWrite k v) s fun t =>
       t.rd (Reg.DRIVE_G_CFG k) = s.rd (Reg.DRIVE_G_CFG k) ∧ t.flag (Ev.DRIVE_G_FLAGS_CFGERR k) = true ∧ t.drive = s.drive ∧
         t.mem = s.mem) ∧
  (∀ (k : Fin 12) (v : Word) (s : State), s.pwmClk = true → s.landing = false →
    (∀ i : Fin 4, s.on (Fd.PWM_LEG_CFG_EN (4 * k.val + i.val)) = false) →
     Answers (.driveGroupCfgWrite k v) s fun t => t.rd (Reg.DRIVE_G_CFG k) = v &&& 7 ∧ (Undisturbed s → t.mem = s.mem)) ∧
  (∀ (k : Fin 12) (v : Word) (s : State), s.pwmClk = true → s.landing = false →
    (∀ i : Fin 4, s.on (Fd.PWM_LEG_CFG_EN (4 * k.val + i.val)) = false) →
     s.get (Fd.DRIVE_G_STAT_STATE k) = 3 → s.on (Fd.DRIVE_G_CFG_LANEEN k) = false → v.getLsbD 0 = true →
     s.pmu.warned = false → s.drive.groups[k].reports = 0 → Answers (.driveGroupCfgWrite k v) s fun t =>
       t.get (Fd.DRIVE_G_STAT_STATE k) = 0 ∧ t.get (Fd.DRIVE_G_STAT_BREAK k) = 0 ∧
         t.drive.groups[k].priming = some (s.bitUp (s.now + 80 + 400 * tNs) + 2560 * tNs) ∧ t.mem = s.mem) ∧
  (∀ (n : Fin 48) (s : State), s.pwm.legs[n].refresh = none → s.needsRefresh n = true → s.pwm.legs[n].zeroSeen = true →
     max 1 (s.get (Fd.DRIVE_LEG_HS_K n)) ≤ s.pwm.legs[n].zeros →
     Answers (.bootstrapRefresh n) s fun t =>
       t.rd (Reg.DRIVE_LEG_RFCNT n) = s.rd (Reg.DRIVE_LEG_RFCNT n) + 1 ∧
       (s.get (Fd.DRIVE_LEG_HS_RFW n) < s.minp n → t.flag (Ev.DRIVE_G_FLAGS_RFWIDE (n.val / 4)) = true) ∧
       (t.pwm.legs[n].refresh.any fun r => decide (r.offAt = r.onAt + s.refreshW n ∧ r.backAt = r.offAt + s.get (Fd.PWM_LEG_DT_DTR n) ∧
         s.now < r.onAt + 40 ∧ r.onAt ≤ s.now + s.get (Fd.PWM_LEG_DT_DTF n))) = true ∧
       t.get (Fd.PWM_LEG_STATE_H n) = 0 ∧ t.now = s.now ∧ t.mem = s.mem) ∧
  (∀ (n : Fin 48) (r : Refresh) (s : State), s.pwm.legs[n].refresh = some r → s.pwmRuns = true → r.step = 1 →
     Answers (.bootstrapRefresh n) s fun t => (t.pwm.legs[n].refresh.map (·.step)) = some 2 ∧ r.onAt ≤ t.now ∧ t.mem = s.mem) ∧
  (∀ (n : Fin 48) (r : Refresh) (s : State), s.pwm.legs[n].refresh = some r → s.pwmRuns = true → r.step = 3 →
     Answers (.bootstrapRefresh n) s fun t => t.pwm.legs[n].refresh = none ∧ r.backAt ≤ t.now ∧ t.mem = s.mem)

/-- R227: a report sets FAULT and LEG, asserts the lock-out line and breaks the lane; its classification sets KIND; R228:
the report of a running group counts a try at its classification, and the group waits, or locks out past MAXTRY; a
wait that ends with every FLT_N high sends the priming burst; the end of the burst releases the lock-out line with
RETRY, or with a FLT_N low starts a wait; the window's end returns TRIES to 0; R229, R230: CLEAR ends a lock-out with
every FLT_N high, else it is refused with CLRREF. -/
def Obligations.DriverFaults : Prop :=
  (∀ (k : Fin 12) (legs : BitVec 4) (s : State), legs ≠ 0 → Answers (.driverFaultReport k legs) s fun t =>
     t.flag (Ev.DRIVE_G_FLAGS_FAULT k) = true ∧ t.drive.locked.getLsbD k.val = true ∧ t.get ⟨Reg.PWM_FSTAT, 20 + k.val, 1⟩ = 1 ∧
     t.drive.groups[k].reports.getLsbD (t.get (Fd.DRIVE_G_STAT_LEG k)) = true ∧ t.get (Fd.DRIVE_G_STAT_BREAK k) = 1 ∧
     (∀ j : Fin 4, legs.getLsbD j.val = true → t.get (Fd.DRIVE_G_STAT_LEG k) ≤ j.val) ∧
     (∀ j : Fin 4, legs.getLsbD j.val = true → (t.grpFltn k).testBit j.val = false) ∧
     (∀ j : Fin 48, j.val / 4 = k.val → t.pwm.legs[j].forced = true) ∧ t.now = s.now ∧ (Undisturbed s → t.mem = s.mem)) ∧
  (∀ (k : Fin 12) (leg : Fin 4) (w : Option (BitVec 17)) (s : State), s.drive.groups[k].reports.getLsbD leg.val = true →
     s.drive.groups[k].isTry = true → s.get (Fd.DRIVE_G_STAT_STATE k) = 0 →
     s.get (Fd.DRIVE_G_STAT_TRIES k) < s.get (Fd.DRIVE_G_RETRY_MAXTRY k) → Answers (.driverFaultClassify ⟨k, leg⟩ w) s fun t =>
       t.get (Fd.DRIVE_G_STAT_TRIES k) = s.get (Fd.DRIVE_G_STAT_TRIES k) + 1 ∧ t.get (Fd.DRIVE_G_STAT_STATE k) = 1 ∧
       t.drive.groups[k].reports = s.drive.groups[k].reports &&& ~~~(1#4 <<< leg.val) ∧ t.get (Fd.DRIVE_G_STAT_BREAK k) = 1 ∧
         t.drive.locked = s.drive.locked ∧
       t.drive.groups[k].waitEnd = some (s.now + max 1 (min 1000 (s.get (Fd.DRIVE_G_RETRY_WAIT k))) * tMs) ∧ t.mem = s.mem) ∧
  (∀ (k : Fin 12) (leg : Fin 4) (w : Option (BitVec 17)) (s : State), s.drive.groups[k].reports.getLsbD leg.val = true →
     s.drive.groups[k].isTry = true → s.get (Fd.DRIVE_G_STAT_STATE k) = 0 →
     s.get (Fd.DRIVE_G_STAT_TRIES k) = s.get (Fd.DRIVE_G_RETRY_MAXTRY k) → Answers (.driverFaultClassify ⟨k, leg⟩ w) s fun t =>
       t.get (Fd.DRIVE_G_STAT_STATE k) = 2 ∧ t.flag (Ev.DRIVE_G_FLAGS_LOCK k) = true ∧
       t.drive.groups[k].waitEnd = none ∧ t.get (Fd.DRIVE_G_STAT_BREAK k) = 1 ∧ t.drive.locked = s.drive.locked ∧ t.mem = s.mem) ∧
  (∀ (k : Fin 12) (leg : Fin 4) (w : BitVec 17) (s : State), s.drive.groups[k].reports.getLsbD leg.val = true →
     Answers (.driverFaultClassify ⟨k, leg⟩ (some w)) s fun t => t.get (Fd.DRIVE_G_STAT_LEG k) = leg.val ∧
       (8000 ≤ w.toNat ∧ w.toNat ≤ 24000 → t.get (Fd.DRIVE_G_STAT_KIND k) = 1) ∧
       (40000 ≤ w.toNat ∧ w.toNat ≤ 56000 → t.get (Fd.DRIVE_G_STAT_KIND k) = 2) ∧
       ((w.toNat < 8000 ∨ 24000 < w.toNat) ∧ (w.toNat < 40000 ∨ 56000 < w.toNat) → t.get (Fd.DRIVE_G_STAT_KIND k) = 3) ∧
       t.drive.groups[k].reports.getLsbD leg.val = false ∧ t.mem = s.mem) ∧
  (∀ (k : Fin 12) (x : Nat) (s : State), s.drive.groups[k].waitEnd = some x → s.get (Fd.DRIVE_G_STAT_STATE k) = 1 → s.pmu.warned = false →
     s.pwmClk = true → s.on (Fd.DRIVE_G_CFG_LANEEN k) = true → s.drive.groups[k].reports = 0 → Answers (.retryWaitEnd k 15) s fun t =>
       t.get (Fd.DRIVE_G_STAT_STATE k) = 0 ∧ t.drive.groups[k].retrying = true ∧ t.drive.groups[k].waitEnd = none ∧
       t.drive.groups[k].priming = some (s.bitUp (t.now + 400 * tNs) + 2560 * tNs) ∧ t.now = (s.reachNow x).now ∧ t.mem = s.mem) ∧
  (∀ (k : Fin 12) (x : Nat) (v : BitVec 4) (s : State), s.drive.groups[k].waitEnd = some x → s.get (Fd.DRIVE_G_STAT_STATE k) = 1 →
    s.pmu.warned = false →
     v ≠ 15 → s.get (Fd.DRIVE_G_STAT_TRIES k) < s.get (Fd.DRIVE_G_RETRY_MAXTRY k) → Answers (.retryWaitEnd k v) s fun t =>
       t.get (Fd.DRIVE_G_STAT_STATE k) = 1 ∧ t.get (Fd.DRIVE_G_STAT_TRIES k) = s.get (Fd.DRIVE_G_STAT_TRIES k) + 1 ∧
       t.get (Fd.DRIVE_G_STAT_FLTN k) = v.toNat ∧ t.mem = s.mem) ∧
  (∀ (k : Fin 12) (x : Nat) (s : State), s.drive.groups[k].priming = some x → s.grpFltn k = 15 → Answers (.primingBurstEnd k) s fun t =>
     t.drive.locked.getLsbD k.val = false ∧ t.get ⟨Reg.PWM_FSTAT, 20 + k.val, 1⟩ = 0 ∧ t.drive.groups[k].priming = none ∧
     (s.drive.groups[k].retrying = true → t.flag (Ev.DRIVE_G_FLAGS_RETRY k) = true) ∧
     (∀ i : Fin 4, cut (t.rdN (Reg.DRIVE_LEG_SENT (4 * k.val + i.val))) 0 16 = cut (s.rdN (Reg.DRIVE_LEG_CODE (4 * k.val + i.val))) 0 16) ∧
     (∀ j : Fin 12, j ≠ k → t.drive.locked.getLsbD j.val = s.drive.locked.getLsbD j.val) ∧ t.now = (s.reachNow x).now ∧ (Undisturbed s →
       t.mem = s.mem)) ∧
  (∀ (k : Fin 12) (x : Nat) (s : State), s.drive.groups[k].priming = some x → s.grpFltn k ≠ 15 → Answers (.primingBurstEnd k) s fun t =>
     t.drive.locked.getLsbD k.val = true ∧ t.get (Fd.DRIVE_G_STAT_STATE k) = 1 ∧
       t.get (Fd.DRIVE_G_STAT_TRIES k) = s.get (Fd.DRIVE_G_STAT_TRIES k) ∧
     (Undisturbed s → t.mem = s.mem)) ∧
  (∀ (k : Fin 12) (x : Nat) (s : State), s.drive.groups[k].series = some x → s.drive.groups[k].isTry = false →
    Answers (.tryWindowExpire k) s fun t =>
     t.get (Fd.DRIVE_G_STAT_TRIES k) = 0 ∧ t.drive.groups[k].series = none ∧
     t.now = (s.reachNow (x + max 1 (min 60 (s.get (Fd.DRIVE_G_RETRY_WINDOW k))) * tSec)).now ∧ SameRegistersBut [Reg.DRIVE_G_STAT k] s t ∧
       t.mem = s.mem) ∧
  (∀ (k : Fin 12) (s : State), s.get (Fd.DRIVE_G_STAT_STATE k) = 2 → s.pmu.warned = false → s.drive.groups[k].reports = 0 →
     s.pwmClk = true → s.on (Fd.DRIVE_G_CFG_LANEEN k) = true → Answers (.driveClear k 15) s fun t =>
       t.get (Fd.DRIVE_G_STAT_STATE k) = 0 ∧ t.get (Fd.DRIVE_G_STAT_TRIES k) = 0 ∧ t.get (Fd.DRIVE_G_STAT_RESTORED k) = 0 ∧
       t.drive.groups[k].priming = some (s.bitUp (s.now + 400 * tNs) + 2560 * tNs) ∧ t.drive.groups[k].retrying = true ∧
       SameRegistersBut [Reg.DRIVE_G_STAT k] s t ∧ t.mem = s.mem) ∧
  (∀ (k : Fin 12) (v : BitVec 4) (s : State), s.get (Fd.DRIVE_G_STAT_STATE k) = 2 → s.pmu.warned = false →
    (v ≠ 15 ∨ s.drive.groups[k].reports ≠ 0) →
     Answers (.driveClear k v) s fun t =>
       t.get (Fd.DRIVE_G_STAT_STATE k) = 2 ∧ t.flag (Ev.DRIVE_G_FLAGS_CLRREF k) = true ∧ t.drive.groups = s.drive.groups ∧ t.mem = s.mem)

/-- R234, R236, R243: a running grid point issues its update, one update further, with its channels, their VALID and its
lock and negative-sequence status; one with bad settings shows BADCFG and stays; R235: an input sample arrives; R245,
R246: a stage picks up above LEVEL (stages 2 and 3 below it), latches at TSET and drives its trips; R247: without
updates the channels read VALID = 0; SWTRIP picks stage 14 up and drops it; R248: a latch that is picked up stays with
CLRREF, another clears; R251: an excursion ends after CONTRET, and a spent time moves the curve's region. -/
def Obligations.GridUpdatesAndStages : Prop :=
  (∀ (g : Fin 4) (q : GridUpdate) (s : State), s.gpRuns g = true → s.gpFed g = true → s.gpBracketed g (s.gpNext g) = true →
     Answers (.gridUpdateIssue g q) s fun t =>
       t.rd (Reg.SEQ_GP_UPDCNT g) = s.rd (Reg.SEQ_GP_UPDCNT g) + 1 ∧ t.get (Fd.SEQ_GP_STATUS_BADCFG g) = 0 ∧
       t.get (Fd.SEQ_GP_STATUS_VALID g) = 1 - t.get (Fd.SEQ_GP_STATUS_SETTLE g) ∧
       (∀ c : Fin 35, t.samples[64 + 48 * g.val + c.val]!.value = t.rd (Reg.SEQ_GP_CH g c) ∧
         t.samples[64 + 48 * g.val + c.val]!.stamp = s.gpNext g ∧
         (t.samples[64 + 48 * g.val + c.val]!.valid = false → t.rd (Reg.SEQ_GP_CH g c) = 0) ∧
         (t.get (Fd.SEQ_GP_STATUS_SETTLE g) = 1 → t.samples[64 + 48 * g.val + c.val]!.valid = false)) ∧
       t.get (Fd.SEQ_GP_STATUS_V2 g) = (t.samples[65 + 48 * g.val]!.valid &&
         decide (s.get (Fd.SEQ_GP_V2DET_V2DET g) * 2 ^ 28 ≤ (t.rd (Reg.SEQ_GP_CH g 1)).toInt * 10000)).toNat ∧
       (t.get (Fd.SEQ_GP_STATUS_LOCK g) = 0 → t.get (Fd.SEQ_GP_STATUS_HOLD g) = 1) ∧
       s.now ≤ t.now ∧ (Undisturbed s → t.mem = s.mem)) ∧
  (∀ (c : Nat) (x : Int) (w : Word), c < 3 ∨ 5 < c → c < 17 ∨ 19 < c → c ≠ 38 → -(2 ^ 31) + 2 ^ 27 ≤ x → x < 2 ^ 31 - 2 ^ 27 →
     ((gpReading c x w).toInt - x).natAbs ≤ gpError c) ∧
  (∀ (c : Nat) (x : Int) (w : Word), 17 ≤ c → c < 20 → 0 ≤ x → x < 2 ^ 32 → ((gpReading c x w).toNat - x).natAbs ≤ gpError c) ∧
  (∀ (g : Fin 4) (q : GridUpdate) (s : State), s.on (Fd.SEQ_GP_CFG_EN g) = true → s.gpBad g = true →
    Answers (.gridUpdateIssue g q) s fun t =>
     t.get (Fd.SEQ_GP_STATUS_BADCFG g) = 1 ∧ t.get (Fd.SEQ_GP_STATUS_VALID g) = 0 ∧
       t.rd (Reg.SEQ_GP_UPDCNT g) = s.rd (Reg.SEQ_GP_UPDCNT g) ∧
     (∀ c : Fin 39, t.rd (Reg.SEQ_GP_CH g c) = 0 ∧ t.samples[64 + 48 * g.val + c.val]!.valid = false) ∧ t.now = s.now ∧ t.mem = s.mem) ∧
  (∀ (g : Fin 4) (j : Fin 6) (l : List MdatPeriod) (b : List Bool) (s : State), s.gpRuns g = true → s.gpFed g = true → s.gpInput g j < 56 →
     b = s.received (s.gpInput g j) l →
     Answers (.seqInputSample g j l) s fun t =>
       t.gp[g].input[j] = BitVec.ofInt 32 (satTo 32 (mainValue (s.on (Fd.MODIN_IN_CFG_INV (s.gpInput g j))) 3 (s.get (Fd.SEQ_GP_CFG_IOSR g))
         (b.take (b.length - (8 - s.bitDelay (Fin.ofNat 7 (s.gpInput g j / 8))))))) ∧
       t.gp[g].edge[j] = s.gpEdge g j ∧
       t.now = (s.reachNow (s.gpEdge g j + 8 * s.mclkT (Fin.ofNat 7 (s.gpInput g j / 8)))).now ∧ (Undisturbed s → t.mem = s.mem)) ∧
  (∀ (k : Fin 16) (q : Quantity) (u : Nat) (s : State), s.on (Fd.PROT_STG_CFG_EN k) = true → q.valid = true →
    (s.get Fd.PROT_PICKUP_PICKUP).testBit k.val = false →
     ((s.stgEval k q u).get Fd.PROT_PICKUP_PICKUP).testBit k.val =
       if k.val = 2 ∨ k.val = 3 then decide (q.x < s.get (Fd.PROT_STG_CFG_LEVEL k) * q.unit) else decide (s.get (Fd.PROT_STG_CFG_LEVEL k) * q.unit < q.x)) ∧
  (∀ (k : Fin 16) (x : Nat) (s : State), s.prot.stages[k].since = some x → (s.get Fd.PROT_PICKUP_PICKUP).testBit k.val = true →
     s.on (Fd.PROT_STG_CFG_EN k) = true → s.pmu.warned = false → Answers (.stageLatch k) s fun t =>
       (t.get Fd.PROT_TRIPLAT_LAT).testBit k.val = true ∧ (∀ j : Fin 16, j ≠ k →
         (t.get Fd.PROT_TRIPLAT_LAT).testBit j.val = (s.get Fd.PROT_TRIPLAT_LAT).testBit j.val) ∧
       ((s.get Fd.PROT_TRIPLAT_LAT).testBit k.val = false → t.flag Ev.PROT_FLAGS_TRIP = true ∧ t.get Fd.PROT_STATUS_TRIPPED = 1 ∧
         (s.on (Fd.PROT_STG_CFG_TRIP0 k) = true → t.prot.trips.getLsbD 0 = true) ∧ (s.on (Fd.PROT_STG_CFG_TRIP1 k) = true →
           t.prot.trips.getLsbD 1 = true)) ∧
       t.now = (s.reachNow (x + (s.get (Fd.PROT_STG_TIME_TSET k) * 100 * tUs - s.prot.stages[k].acc))).now ∧ (Undisturbed s →
         t.mem = s.mem)) ∧
  (∀ (c : Fin 4) (i e : Nat) (s : State), s.prot.curves[c].inside = some i → s.prot.curves[c].exc = some e → s.pmu.warned = false →
     Answers (.excursionReturnExpire c) s fun t =>
       t.prot.curves[c] = {} ∧ (∀ d : Fin 4, d ≠ c → t.prot.curves[d] = s.prot.curves[d]) ∧
       t.now = (s.reachNow (i + s.get Fd.PROT_RTCFG_CONTRET * tMs)).now ∧ (Undisturbed s → t.mem = s.mem)) ∧
  (∀ (c : Fin 4) (e a r : Nat) (s : State), s.prot.curves[c].exc = some e → s.prot.curves[c].expire = some (a, r) → r < 8 →
    s.pmu.warned = false →
     Answers (.curveTimeExpire c) s fun t =>
       t.get ⟨Reg.PROT_STATUS, 8 + 4 * c.val, 3⟩ = r ∧ r ≤ t.get Fd.PROT_STATUS_REGION ∧
       (∀ d : Fin 4, d ≠ c → t.get ⟨Reg.PROT_STATUS, 8 + 4 * d.val, 3⟩ = s.get ⟨Reg.PROT_STATUS, 8 + 4 * d.val, 3⟩) ∧
       (s.get Fd.PROT_STATUS_REGION < r → t.flag Ev.PROT_FLAGS_REGCHG = true) ∧ t.now = (s.reachNow (e + a)).now ∧ (Undisturbed s →
         t.mem = s.mem)) ∧
  (∀ s : State, s.pmu.warned = false → 0 < s.gpStep s.rtGp → Answers .protUpdateTimeout s fun t =>
     t.get (Fd.SEQ_GP_STATUS_VALID s.rtGp) = 0 ∧ t.prot.timedOut = true ∧ t.prot.lastEval ≤ t.now ∧
     t.prot.lastEval = s.prot.lastEval + (if s.prot.timedOut then 1 else 2) * s.gpStep s.rtGp ∧ (s.on (Fd.PROT_STG_CFG_EN 11) = true →
       t.flag Ev.PROT_FLAGS_MEASINV = true) ∧
     (Undisturbed s → t.mem = s.mem)) ∧
  (∀ s : State, s.on (Fd.PROT_STG_CFG_EN 14) = true → Answers .protSwtrip s fun t =>
     (t.get Fd.PROT_PICKUP_PICKUP).testBit 14 = false ∧ (t.get Fd.PROT_TRIPLAT_LAT).testBit 14 = ((s.get Fd.PROT_TRIPLAT_LAT).testBit 14 ||
       decide (s.get (Fd.PROT_STG_TIME_TSET 14) = 0 ∧ (s.get Fd.PROT_PICKUP_PICKUP).testBit 14 = false)) ∧
     ((s.get Fd.PROT_PICKUP_PICKUP).testBit 14 = false → t.flag Ev.PROT_FLAGS_PICKUP = true) ∧ t.now = s.now ∧ (Undisturbed s →
       t.mem = s.mem)) ∧
  (∀ (m : BitVec 16) (k : Fin 16) (s : State), Answers (.tripLatchClear m) s fun t =>
     (t.get Fd.PROT_TRIPLAT_LAT).testBit k.val = ((s.get Fd.PROT_TRIPLAT_LAT).testBit k.val && !(m.getLsbD k.val && !(s.get Fd.PROT_PICKUP_PICKUP).testBit k.val)) ∧
     (m.getLsbD k.val = true ∧ (s.get Fd.PROT_TRIPLAT_LAT).testBit k.val = true ∧ (s.get Fd.PROT_PICKUP_PICKUP).testBit k.val = true →
       t.flag Ev.PROT_FLAGS_CLRREF = true) ∧
     t.get Fd.PROT_PICKUP_PICKUP = s.get Fd.PROT_PICKUP_PICKUP ∧ t.now = s.now ∧ (Undisturbed s → t.mem = s.mem))

/-- R254: arming is refused with DCLOST or takes the settings; a frame lists VALID bits, its number and the channels'
values in the ring; R255: a software trigger while armed starts the post-trigger frames with cause 33, one in another
state but the recording is lost; R256: the last frame starts the copy, whose header word 0 is written last, and DCDONE
is set. -/
def Obligations.DisturbanceCapture : Prop :=
  (∀ s : State, s.on Fd.PROT_DCCFG_EN = true → s.get Fd.PROT_DCSTAT_STATE = 0 → s.capRefused = true → Answers .dcArm s fun t =>
     t.flag Ev.PROT_FLAGS_DCLOST = true ∧ SameRegistersBut [Reg.PROT_FLAGS, Ev.PROT_FLAGS_DCLOST.cnt] s t ∧ t.prot = s.prot ∧
       t.mem = s.mem) ∧
  (∀ s : State, s.on Fd.PROT_DCCFG_EN = true → s.get Fd.PROT_DCSTAT_STATE = 0 → s.capRefused = false → Answers .dcArm s fun t =>
     t.get Fd.PROT_DCSTAT_STATE = 1 ∧ t.get Fd.PROT_DCSTAT_FILL = 0 ∧ t.prot.capture.rate = s.get Fd.PROT_DCCFG_RATE ∧
       t.prot.capture.nch = s.get Fd.PROT_DCCFG_NCH ∧
     SameRegistersBut [Reg.PROT_DCSTAT] s t ∧ t.mem = s.mem) ∧
  (∀ s : State, s.get Fd.PROT_DCSTAT_STATE = 1 → Answers .dcSoftwareTrigger s fun t =>
     t.get Fd.PROT_DCSTAT_STATE = 2 ∧ t.prot.capture.cause = 33 ∧ t.prot.capture.trig = s.tbl.count ∧
     t.prot.capture.pre = min (s.get Fd.PROT_DCPRE_FRAMES) s.prot.capture.frames ∧ t.prot.capture.left = s.get Fd.PROT_DCPOST_FRAMES ∧
     SameRegistersBut [Reg.PROT_DCSTAT] s t ∧ t.mem = s.mem) ∧
  (∀ s : State, (s.get Fd.PROT_DCSTAT_STATE = 0 ∨ s.get Fd.PROT_DCSTAT_STATE = 3) → Answers .dcSoftwareTrigger s fun t =>
     t.flag Ev.PROT_FLAGS_DCLOST = true ∧ t.prot = s.prot ∧ SameRegistersBut [Reg.PROT_FLAGS, Ev.PROT_FLAGS_DCLOST.cnt] s t ∧
       t.mem = s.mem) ∧
  (∀ s : State, s.on Fd.PROT_DCCFG_EN = true → s.get Fd.PROT_DCSTAT_STATE = 1 → s.pwmClk = true → 0 < s.prot.capture.rate →
    s.prot.capture.nch = 1 →
     s.prot.capture.buflen = 80 → s.prot.capture.buf < 2 ^ 30 → s.tagFree 6 = true → Answers .dcFrame s fun t =>
       t.prot.capture.frames = s.prot.capture.frames + 1 ∧
       t.memRd (s.prot.capture.buf + (s.prot.capture.frames % 10) * 8) 4 = (s.samples[s.prot.capture.chan 0]!.valid.toNat + 2 ^ 16 * (s.prot.capture.frames % 2 ^ 16)) ∧
       t.memRd (s.prot.capture.buf + (s.prot.capture.frames % 10) * 8 + 4) 4 = (s.samples[s.prot.capture.chan 0]!).value.toNat ∧
       t.prot.capture.last = (s.prot.capture.last / (s.prot.capture.rate * 1600000) + 1) * (s.prot.capture.rate * 1600000) ∧
       SameMemoryBut (s.prot.capture.buf + (s.prot.capture.frames % 10) * 8) 8 s t ∧ SameRegistersBut [Reg.PROT_DCSTAT] s t) ∧
  (∀ s : State, s.get Fd.PROT_DCSTAT_STATE = 2 → s.prot.capture.left = 0 → s.prot.capture.recs = [] → Answers .dcPostComplete s fun t =>
     t.get Fd.PROT_DCSTAT_STATE = 3 ∧ SameRegistersBut [Reg.PROT_DCSTAT] s t ∧ t.mem = s.mem ∧
     t.prot.capture.dest = (if s.rdN Reg.PROT_DCMBASE ≤ s.prot.capture.wptr ∧
       s.prot.capture.wptr + (64 + (s.prot.capture.pre + s.prot.capture.post) * (4 * (s.prot.capture.nch + 1))) ≤ s.rdN Reg.PROT_DCMBASE + s.rdN Reg.PROT_DCMLEN
       then s.prot.capture.wptr else s.rdN Reg.PROT_DCMBASE)) ∧
  (∀ s : State, s.get Fd.PROT_DCSTAT_STATE = 3 → s.on Fd.PROT_DCCFG_AUTO = false → s.mramc.moving = none → s.tagFree 6 = true →
    Answers .dcCopyComplete s fun t =>
     t.get Fd.PROT_DCSTAT_STATE = 0 ∧ t.flag Ev.PROT_FLAGS_DCDONE = true ∧ t.rdN Reg.PROT_DCLAST = s.prot.capture.dest % 2 ^ 32 ∧
     t.rd Reg.PROT_DCCNT = s.rd Reg.PROT_DCCNT + 1 ∧ t.memRd s.prot.capture.dest 4 = 0x1D15C ∧
       t.memRd (s.prot.capture.dest + 4) 4 = s.prot.capture.length % 2 ^ 32 ∧
         t.memRd (s.prot.capture.dest + 8) 4 = s.prot.capture.trig % 2 ^ 32 ∧
       SameMemoryBut s.prot.capture.dest s.prot.capture.length s t)

/-- R262, R266: a configuration write or GO that breaks a rule is refused with CFGERR or REFUSED, a good GO counts and
waits for the first zero; R267: a step writes its table entry into the doubleword with ACT; R268, R269: a finished
capture is written, and the last one completes the sweep with DONE; R270: STOP and missing zeros abort with their
cause, ABT in the doubleword; R272: night and wake after their times; R279, R280: a timely step starts its chip and
writes the command, a late one is STEPERR, a missing one STEPMISS; R283–R285: a period ends with PERDONE; R286: ISL
clears only after a low period. -/
def Obligations.DcInputsAndProbe : Prop :=
  (∀ (k : Fin 8) (v : Word) (s : State), s.sweeping k = false → v.getLsbD 0 = true → s.dcBad k v.toNat (s.dcLegs k) = true →
     Answers (.dcCfgWrite k .cfg v) s fun t =>
       t.flag (Ev.SYSCFG_DC_FLAGS_CFGERR k) = true ∧ t.rd (Reg.SYSCFG_DC_CFG k) = s.rd (Reg.SYSCFG_DC_CFG k) ∧ t.dc = s.dc ∧
         t.mem = s.mem) ∧
  (∀ (k : Fin 8) (v : Word) (s : State), s.sweeping k = false → (v.getLsbD 0 = false ∨ s.dcBad k v.toNat (s.dcLegs k) = false) →
     Answers (.dcCfgWrite k .cfg v) s fun t =>
       t.rd (Reg.SYSCFG_DC_CFG k) = v &&& 0x1FFFFFFF ∧ SameRegistersBut [Reg.SYSCFG_DC_CFG k] s t ∧ t.dc[k].caps = s.dc[k].caps ∧
         t.mem = s.mem) ∧
  (∀ (k : Fin 8) (r : DcCfgReg) (v : Word) (s : State), s.sweeping k = true → Answers (.dcCfgWrite k r v) s fun t =>
     t.flag (Ev.SYSCFG_DC_FLAGS_CFGERR k) = true ∧ SameRegistersBut [Reg.SYSCFG_DC_FLAGS k, (Ev.SYSCFG_DC_FLAGS_CFGERR k).cnt] s t ∧
       t.dc = s.dc ∧ t.mem = s.mem) ∧
  (∀ (k : Fin 8) (s : State), s.sweepRefused k = false → s.dc[k].stopTime ≠ some s.now → Answers (.sweepGo k) s fun t =>
     t.get (Fd.SYSCFG_DC_SWSTAT_STATE k) = 1 ∧ t.rd (Reg.SYSCFG_DC_SWCNT k) = s.rd (Reg.SYSCFG_DC_SWCNT k) + 1 ∧ t.dc[k].caps = [] ∧
     t.dc[k].goAt = s.tbl.count ∧ t.dc[k].steps = s.dcSteps k ∧ t.dc[k].dwell = s.dcDwell k ∧
       SameRegistersBut [Reg.SYSCFG_DC_SWCNT k, Reg.SYSCFG_DC_SWSTAT k] s t ∧ t.mem = s.mem) ∧
  (∀ (k : Fin 8) (s : State), s.sweepRefused k = true → Answers (.sweepGo k) s fun t =>
     t.flag (Ev.SYSCFG_DC_FLAGS_REFUSED k) = true ∧ SameRegistersBut [Reg.SYSCFG_DC_FLAGS k, (Ev.SYSCFG_DC_FLAGS_REFUSED k).cnt] s t ∧
       t.dc = s.dc ∧ t.mem = s.mem) ∧
  (∀ (k : Fin 8) (c z : Nat) (s : State), s.sweeping k = true → s.get (Fd.SYSCFG_DC_CFG_CAR k) = c →
    s.get (Fd.SYSCFG_DC_SWSTAT_STATE k) = 1 →
     s.dc[k].due = none → s.dc[k].goAt + 120 ≤ z → ((s.dcZero c z).dc[k].due = some z ∧ (s.dcZero c z).dc[k].entry = s.tableNow k 0 ∧
       (s.dcZero c z).dc[k].dueAt = s.now)) ∧
  (∀ (k : Fin 8) (z : Nat) (s : State), s.dc[k].due = some z → s.get (Fd.SYSCFG_DC_SWSTAT_STATE k) = 1 → s.blockFree = true →
    Answers (.sweepStepStart k) s fun t =>
     t.get (Fd.SYSCFG_DC_SWSTAT_STATE k) = 2 ∧ t.get (Fd.SYSCFG_DC_SWSTAT_STEP k) = 0 ∧ t.dc[k].due = none ∧
     t.memRd (s.dcDword k) 4 = s.dc[k].entry % 2 ^ 32 ∧ s.dc[k].dueAt + 240 ≤ t.now ∧
       t.memRd (s.dcDword k + 4) 4 = 1 + 2 ^ 8 * (s.rdN (Reg.SYSCFG_DC_SWCNT k) % 256) ∧
     SameMemoryBut (s.dcDword k) 8 s t ∧ SameRegistersBut [Reg.SYSCFG_DC_SWSTAT k] s t) ∧
  (∀ (k : Fin 8) (x : DcCap) (l : List DcCap) (s : State), s.dc[k].caps = x :: l → x.doneV = true → x.doneI = true →
     x.step + 1 < s.dc[k].steps → x.step < 64 → Answers (.sweepEntryWrite k) s fun t =>
       t.rdN (Reg.SYSCFG_DC_CAP k (4 * x.step)) = enc 32 (meanAway x.sumV x.nV) ∧
         t.rdN (Reg.SYSCFG_DC_CAP k (4 * x.step + 1)) = enc 32 (meanAway x.sumI x.nI) ∧
       cut (t.rdN (Reg.SYSCFG_DC_CAP k (4 * x.step + 3))) 0 16 = min 0xFFFF x.nV ∧
         cut (t.rdN (Reg.SYSCFG_DC_CAP k (4 * x.step + 3))) 24 8 = x.step ∧
       cut (t.rdN (Reg.SYSCFG_DC_CAP k (4 * x.step + 3))) 16 1 = (!x.bad && x.nV != 0 && x.nI != 0).toNat ∧ t.dc[k].caps = l ∧
       SameRegistersBut [Reg.SYSCFG_DC_CAP k (4 * x.step), Reg.SYSCFG_DC_CAP k (4 * x.step + 1), Reg.SYSCFG_DC_CAP k (4 * x.step + 2),
         Reg.SYSCFG_DC_CAP k (4 * x.step + 3)] s t ∧ t.mem = s.mem) ∧
  (∀ (k : Fin 8) (x : DcCap) (l : List DcCap) (s : State), s.dc[k].caps = x :: l → x.doneV = true → x.doneI = true →
     x.step + 1 = s.dc[k].steps → x.step < 256 → Answers (.sweepEntryWrite k) s fun t =>
       t.flag (Ev.SYSCFG_DC_FLAGS_DONE k) = true ∧ t.get (Fd.SYSCFG_DC_SWSTAT_STATE k) = 0 ∧ t.memRd (s.dcDword k + 4) 1 % 2 = 0 ∧
         SameMemoryBut (s.dcDword k) 8 s t) ∧
  (∀ (k : Fin 8) (s : State), s.sweeping k = true → s.dc[k].goTime ≠ some s.now → s.sweepLast k = none → s.blockFree = true →
    Answers (.sweepStop k) s fun t =>
     t.flag (Ev.SYSCFG_DC_FLAGS_ABORT k) = true ∧ t.get (Fd.SYSCFG_DC_SWSTAT_ACAUSE k) = 1 ∧ t.get (Fd.SYSCFG_DC_SWSTAT_STATE k) = 0 ∧
     t.memRd (s.dcDword k) 4 = 0 ∧ t.memRd (s.dcDword k + 4) 1 = 4 ∧ SameMemoryBut (s.dcDword k) 8 s t) ∧
  (∀ (k : Fin 8) (s : State), s.sweeping k = false → Answers (.sweepStop k) s fun t => t.regs = s.regs ∧ t.now = s.now ∧ t.mem = s.mem) ∧
  (∀ (k : Fin 8) (s : State), s.sweeping k = true → s.dc[k].caps = [] → s.blockFree = true → Answers (.sweepNoZeroTimeout k) s fun t =>
     t.flag (Ev.SYSCFG_DC_FLAGS_ABORT k) = true ∧ t.get (Fd.SYSCFG_DC_SWSTAT_ACAUSE k) = 6 ∧ t.get (Fd.SYSCFG_DC_SWSTAT_STATE k) = 0 ∧
     s.dc[k].lastZero + 2 * s.get (Fd.PWM_C_ACTPER_PER (s.get (Fd.SYSCFG_DC_CFG_CAR k))) ≤ t.now ∧ t.memRd (s.dcDword k + 4) 1 = 4 ∧
       SameMemoryBut (s.dcDword k) 8 s t) ∧
  (∀ (k : Fin 8) (a : Nat) (s : State), s.dc[k].since = some a → s.on (Fd.SYSCFG_DC_NSTAT_NIGHT k) = false →
    s.on (Fd.SYSCFG_DC_CFG_EN k) = true →
     s.get (Fd.SYSCFG_DC_NWTIME_SLEEPT k) ≠ 0 → s.pmu.warned = false → Answers (.nightEnter k) s fun t =>
       t.get (Fd.SYSCFG_DC_NSTAT_NIGHT k) = 1 ∧ t.flag (Ev.SYSCFG_DC_FLAGS_NIGHT k) = true ∧ t.dc[k].since = none ∧
       a + s.get (Fd.SYSCFG_DC_NWTIME_SLEEPT k) * tSec ≤ t.now ∧ t.mem = s.mem) ∧
  (∀ (k : Fin 8) (a : Nat) (s : State), s.dc[k].since = some a → s.on (Fd.SYSCFG_DC_NSTAT_NIGHT k) = true →
    s.on (Fd.SYSCFG_DC_CFG_EN k) = true →
     s.get (Fd.SYSCFG_DC_NWTIME_WAKET k) ≠ 0 → s.pmu.warned = false → Answers (.wakeDetect k) s fun t =>
       t.get (Fd.SYSCFG_DC_NSTAT_NIGHT k) = 0 ∧ t.flag (Ev.SYSCFG_DC_FLAGS_WAKE k) = true ∧ t.dc[k].since = none ∧
       a + s.get (Fd.SYSCFG_DC_NWTIME_WAKET k) * tSec ≤ t.now ∧ t.mem = s.mem) ∧
  (∀ (l : Launch) (s : State), s.launchOf 61 = some l → s.probeRuns = true → s.blockFree = true → s.pmu.clocksOff = false →
    l.matched + 80 + 2 * s.sysT ≤ s.now →
     s.tbl.count % s.rdN Reg.PROBE_CHIPLEN ≤ 100 * tUs → 0 < s.rdN Reg.PROBE_CHIPLEN → Answers .probeChipStep s fun t =>
       t.probe.boundary = s.tbl.count / s.rdN Reg.PROBE_CHIPLEN ∧ t.get Fd.PROBE_STATUS_CHIP = t.probe.boundary % 64 ∧
       t.memRd (0x24010000 + 0x40000 * s.get Fd.PROBE_CMDADDR_RK + 8 * s.get Fd.PROBE_CMDADDR_ADDR + 4) 1 = t.probe.boundary % 64 ∧
       SameMemoryBut (0x24010000 + 0x40000 * s.get Fd.PROBE_CMDADDR_RK + 8 * s.get Fd.PROBE_CMDADDR_ADDR) 8 s t ∧
         t.tbl.inflight = s.tbl.inflight.erase l) ∧
  (∀ (l : Launch) (s : State), s.launchOf 61 = some l → s.probeRuns = true → s.blockFree = true → s.pmu.clocksOff = false →
    l.matched + 80 + 2 * s.sysT ≤ s.now →
     100 * tUs < s.tbl.count % s.rdN Reg.PROBE_CHIPLEN → 0 < s.rdN Reg.PROBE_CHIPLEN → Answers .probeChipStep s fun t =>
       t.flag Ev.PROBE_FLAGS_STEPERR = true ∧ t.probe.boundary = s.probe.boundary ∧ t.mem = s.mem ∧
         t.tbl.inflight = s.tbl.inflight.erase l) ∧
  (∀ s : State, s.probeRuns = true → Answers .probeStepMiss s fun t =>
     t.flag Ev.PROBE_FLAGS_STEPMISS = true ∧ t.probe.boundary = s.probe.boundary + 1 ∧
       t.get Fd.PROBE_STATUS_CHIP = (s.probe.boundary + 1) % 64 ∧
     t.get Fd.PROBE_STATUS_STATE = (if s.get Fd.PROBE_STATUS_STATE = 2 then 3 else s.get Fd.PROBE_STATUS_STATE) ∧ s.probe.missAt ≤ t.now) ∧
  (∀ s : State, s.probeRuns = true → s.canReach ((s.probe.period + 1) * 64 * s.rdN Reg.PROBE_CHIPLEN + tPwm) = true →
    Answers .probePeriodResult s fun t =>
     t.flag Ev.PROBE_FLAGS_PERDONE = true ∧ t.rdN Reg.PROBE_PERNUM = s.probe.period % 2 ^ 32 ∧ t.probe.period = s.probe.period + 1 ∧
     (t.get Fd.PROBE_PCAUSE_CAUSE ≠ 0 → t.flag Ev.PROBE_FLAGS_UNUSED = true ∧ t.get Fd.PROBE_STATUS_COUNT = 0 ∧
       t.get Fd.PROBE_STATUS_ISL = s.get Fd.PROBE_STATUS_ISL) ∧
     (Undisturbed s → t.mem = s.mem)) ∧
  (∀ s : State, s.on Fd.PROBE_STATUS_ISL = true → s.probe.low = true → s.justSet Ev.PROBE_FLAGS_ISL.addr Ev.PROBE_FLAGS_ISL.bit = false →
    Answers .islClear s fun t =>
     t.get Fd.PROBE_STATUS_ISL = 0 ∧ t.probe = s.probe ∧ (Undisturbed s → t.mem = s.mem)) ∧
  (∀ s : State, s.on Fd.PROBE_STATUS_ISL = true → s.probe.low = false → Answers .islClear s fun t =>
     t.get Fd.PROBE_STATUS_ISL = 1 ∧ t.flag Ev.PROBE_FLAGS_CLRREF = true ∧
       SameRegistersBut [Reg.PROBE_FLAGS, Ev.PROBE_FLAGS_CLRREF.cnt] s t ∧ t.mem = s.mem)

/-- R296, R299, R305: a sample's active energy enters import or export by its sign, from the corrected channels; a sample
in test enters the test accumulators; an unused sample is counted as missed; R303: a window's end writes its stamp,
sequence and validity; R311: a snapshot is taken at its instant, without a sample of that very instant (log entry 54),
a second one refused with SNAPOVF, and written whole; R313: the oldest pulse starts and ends after its width; R315,
R317: a periodic save clears its slot's mark, a durable one writes mark and sequence, the next record begins then, and
a failed one sets SAVEERR and stays to be written again; R308: a test without TESTOK is refused. -/
def Obligations.Metering : Prop :=
  (∀ (p : Fin 4) (S : Nat) (raw : Nat → Int) (s : State), s.inTest p = false → s.meter.pts[p].acc[0] < 2 ^ 128 →
    s.meter.pts[p].acc[1] < 2 ^ 128 →
       let v := fun k : Nat => s.correct p k (raw k)
       let w := v 0 * v 3 + v 1 * v 4 + v 2 * v 5
       let e := (meanAway (w * s.rdN (Reg.METER_MP_PFS p)) 28800).natAbs
       let t := s.sampleEnergy p (s.tickOf p S false raw)
       t.meter.pts[p].acc[0] = (if 0 < w then (s.meter.pts[p].acc[0] + e) % 2 ^ 128 else s.meter.pts[p].acc[0]) ∧
       t.meter.pts[p].acc[1] = (if w < 0 then (s.meter.pts[p].acc[1] + e) % 2 ^ 128 else s.meter.pts[p].acc[1]) ∧
       t.meter.pts[p].acc[6] = s.meter.pts[p].acc[6] ∧ t.now = s.now ∧ t.mem = s.mem) ∧
  (∀ (x : Vector MeterSample 4) (p : Fin 4) (s : State), s.mpRuns p = true → s.on Fd.PLL_STATUS_SYSLOCK = true → s.inTest p = true →
     s.on Fd.METER_TSGCFG_EN = true → s.get Fd.METER_TSGCFG_PT = p.val → s.on (Fd.METER_MP_STATUS_NOLOAD p) = false →
       s.meter.pts[p].test[0] < 2 ^ 128 →
     Answers (.meterSample x) s fun t =>
       let v := fun k : Nat => s.generator p t.meter.last k
       let w := v 0 * v 3 + v 1 * v 4 + v 2 * v 5
       let e := (meanAway (w * s.rdN (Reg.METER_MP_PFS p)) 28800).natAbs
       t.meter.pts[p].test[0] = (if 0 < w then (s.meter.pts[p].test[0] + e) % 2 ^ 128 else s.meter.pts[p].test[0]) ∧
       t.meter.pts[p].acc = s.meter.pts[p].acc ∧ t.get (Fd.METER_MP_STATUS_RUN p) = 1 ∧ t.get (Fd.METER_MP_STATUS_INVAL p) = 0 ∧
       t.rdN (Reg.METER_MP_MISSCNT p) = min (2 ^ 32 - 1) (s.rdN (Reg.METER_MP_MISSCNT p) + 1) ∧ t.mem = s.mem) ∧
  (∀ (x : Vector MeterSample 4) (p : Fin 4) (s : State), s.mpRuns p = true → s.pwmClk = false → s.on Fd.PLL_STATUS_SYSLOCK = true →
     s.inTest p = false → s.on Fd.METER_TSGCFG_EN = false → Answers (.meterSample x) s fun t =>
       t.rdN (Reg.METER_MP_MISSCNT p) = min (2 ^ 32 - 1) (s.rdN (Reg.METER_MP_MISSCNT p) + 1) ∧ t.get (Fd.METER_MP_STATUS_INVAL p) = 1 ∧
       t.flag Ev.METER_FLAGS_INVAL = true ∧ t.meter.pts[p].acc = s.meter.pts[p].acc ∧
         t.meter.pts[p].bad = t.meter.last :: s.meter.pts[p].bad ∧ t.mem = s.mem) ∧
  (∀ (p : Fin 4) (x : MeterSample) (e : Nat) (s : State), s.mpRuns p = true → s.pwmClk = true → s.on Fd.PLL_STATUS_SYSLOCK = true →
     e = s.meter.pts[p].winStart + 16 * 10 ^ 15 / s.meter.pts[p].winFreq → Answers (.meterWindowEnd p x) s fun t =>
       t.rdN (Reg.METER_WINRES p 0) = e % 2 ^ 32 ∧ t.rdN (Reg.METER_WINRES p 1) = e / 2 ^ 32 % 2 ^ 32 ∧
       t.rd (Reg.METER_WINRES p 2) = s.rd (Reg.METER_WINRES p 2) + 1 ∧
       (s.meter.pts[p].bad.any (fun b => decide (s.meter.pts[p].winStart ≤ b ∧ b ≤ e)) = true → t.rd (Reg.METER_WINRES p 3) = 0 ∧
         t.rd (Reg.METER_WINRES p 4) = s.rd (Reg.METER_WINRES p 4) ∧ t.meter.pts[p].acc = s.meter.pts[p].acc) ∧
       t.meter.pts[p].winStart = e ∧ t.meter.pts[p].bad.all (fun b => decide (e < b + 500000)) = true ∧ t.mem = s.mem) ∧
  (∀ (p : Fin 4) (s : State), s.pmu.warned = false → s.meter.pts[p].snap = none → Answers (.meterSnapshot p false) s fun t =>
     t.meter.pts[p].snap = some ⟨s.tbl.count, if s.meter.last < s.tbl.count then none else some s.meter.before.acc[p]⟩ ∧ t.regs = s.regs ∧
       t.mem = s.mem) ∧
  (∀ (p : Fin 4) (l : Launch) (s : State), s.pmu.warned = false → s.meter.pts[p].snap = none → s.launchOf (57 + p.val) = some l →
    s.pmu.clocksOff = false → Answers (.meterSnapshot p true) s fun t =>
     t.meter.pts[p].snap = some ⟨l.exact, if s.meter.last < l.exact then none else some s.meter.before.acc[p]⟩ ∧
       t.tbl.inflight = s.tbl.inflight.erase l ∧ t.regs = s.regs ∧ t.mem = s.mem) ∧
  (∀ (p : Fin 4) (x : MeterSnap) (s : State), s.pmu.warned = false → s.meter.pts[p].snap = some x →
    Answers (.meterSnapshot p false) s fun t =>
     t.flag Ev.METER_FLAGS_SNAPOVF = true ∧ t.meter = s.meter ∧ SameRegistersBut [Reg.METER_FLAGS, Ev.METER_FLAGS_SNAPOVF.cnt] s t ∧
       t.mem = s.mem) ∧
  (∀ (p : Fin 4) (x : MeterSnap) (v : Accumulators) (a : Fin 14) (s : State), s.pmu.warned = false → s.meter.pts[p].snap = some x →
    x.acc = some v →
     Answers (.meterSnapshotWritten p) s fun t =>
       t.rdN (Reg.METER_SNAP_LO p a) = v[a] / 2 ^ 64 % 2 ^ 32 ∧ t.rdN (Reg.METER_SNAP_LO p a + 4) = v[a] / 2 ^ 96 % 2 ^ 32 ∧
       t.rdN (Reg.METER_SNAP_LO p a + 8) = v[a] / 2 ^ 32 % 2 ^ 32 ∧ t.rdN (Reg.METER_SNAPSTAMP_LO p) = x.time % 2 ^ 32 ∧
       t.rd (Reg.METER_SNAPSEQ p) = s.rd (Reg.METER_SNAPSEQ p) + 1 ∧ t.flag Ev.METER_FLAGS_SNAP = true ∧ t.meter.pts[p].snap = none ∧
         t.mem = s.mem) ∧
  (∀ (q : Fin 4) (d w : Nat) (l : List (Nat × Nat)) (s : State), s.pmu.warned = false → s.on (Fd.METER_PLS_STAT_HIGH q) = false →
    s.on (Fd.METER_PLS_CFG_EN q) = true → s.meter.pulses[q].due = (d, w) :: l →
     Answers (.meterPulseStart q) s fun t =>
       t.get (Fd.METER_PLS_STAT_HIGH q) = 1 ∧ t.get (Fd.METER_PLS_STAT_PEND q) = l.length % 65536 ∧ t.meter.pulses[q].due = l ∧
         t.meter.pulses[q].width = w ∧
       t.meter.pulses[q].start = some t.now ∧ d + 100 * tUs ≤ t.now ∧ SameRegistersBut [Reg.METER_PLS_STAT q] s t ∧ t.mem = s.mem) ∧
  (∀ (q : Fin 4) (x : Nat) (s : State), s.on (Fd.METER_PLS_STAT_HIGH q) = true → s.meter.pulses[q].start = some x →
    Answers (.meterPulseEnd q) s fun t =>
     t.get (Fd.METER_PLS_STAT_HIGH q) = 0 ∧ x + s.meter.pulses[q].width ≤ t.now ∧ SameRegistersBut [Reg.METER_PLS_STAT q] s t ∧
       t.mem = s.mem) ∧
  (∀ s : State, s.pmu.warned = false → s.on Fd.METER_STATUS_RESTORING = false → s.pwmClk = true → s.mramc.moving = none →
    s.meter.saves = [] →
     0 < s.get Fd.METER_SAVECFG_SAVEINT → s.blockIdle = true → s.tagFree 14 = true → Answers .meterPeriodicSave s fun t =>
     t.get Fd.METER_STATUS_SAVING = 1 ∧ t.meter.saves.map (fun v => (v.kind, v.time)) = [(0, t.meter.savedAt)] ∧
     t.meter.savedAt % (s.get Fd.METER_SAVECFG_SAVEINT * 160000000) = 0 ∧ s.meter.savedAt < t.meter.savedAt ∧
       s.tbl.count < t.meter.savedAt + 500000 ∧
     t.memRd (ringSlot s.meter.slot) 4 = 0 ∧ SameMemoryBut (ringSlot s.meter.slot) 4 s t) ∧
  (∀ (v : MeterSave) (s : State), s.pmu.warned = false → s.mramc.moving = none → s.meter.saves = [v] →
     s.on Fd.METER_STATUS_SAVING = true → s.blockIdle = true → s.tagFree 14 = true → Answers (.meterSaveDone true) s fun t =>
     t.memRd (ringSlot s.meter.slot) 4 = 0xABAC0001 ∧ t.memRd (ringSlot s.meter.slot + 4) 4 = (s.rdN Reg.METER_SAVESEQ + 1) % 2 ^ 32 ∧
     t.memRd (ringSlot s.meter.slot + 8) 4 = v.time % 2 ^ 32 ∧ SameMemoryBut (ringSlot s.meter.slot) 1024 s t ∧
     t.rd Reg.METER_SAVESEQ = s.rd Reg.METER_SAVESEQ + 1 ∧ t.flag Ev.METER_FLAGS_SAVEDONE = true ∧ t.get Fd.METER_STATUS_SAVING = 0 ∧
     t.get Fd.METER_STATUS_SAVEFAIL = 0 ∧ t.meter.saves = [] ∧ t.meter.slot = (s.meter.slot + 1) % 1024) ∧
  (∀ (v u : MeterSave) (r : List MeterSave) (s : State), s.pmu.warned = false → s.mramc.moving = none → s.meter.saves = v :: u :: r →
     s.on Fd.METER_STATUS_SAVING = true → s.blockIdle = true → s.tagFree 14 = true → Answers (.meterSaveDone true) s fun t =>
     t.memRd (ringSlot s.meter.slot) 4 = 0xABAC0001 ∧ t.memRd (ringSlot ((s.meter.slot + 1) % 1024)) 4 = 0 ∧ t.meter.saves = u :: r ∧
     t.get Fd.METER_STATUS_SAVING = 1 ∧ t.flag Ev.METER_FLAGS_SAVEDONE = true) ∧
  (∀ (v : MeterSave) (s : State), s.pmu.warned = false → s.meter.saves.head? = some v → s.on Fd.METER_STATUS_SAVING = true →
    Answers (.meterSaveDone false) s fun t =>
     t.flag Ev.METER_FLAGS_SAVEERR = true ∧ t.get Fd.METER_STATUS_SAVEFAIL = 1 ∧ t.get Fd.METER_STATUS_SAVING = 0 ∧ t.meter = s.meter ∧
       t.mem = s.mem) ∧
  (∀ (v : Word) (s : State), v.getLsbD 0 = true → s.on (Fd.METER_MP_CFG_TESTOK (cut v.toNat 1 2)) = false →
    Answers (.meterTsgWrite v) s fun t =>
     t.rd Reg.METER_TSGCFG = s.rd Reg.METER_TSGCFG ∧ t.flag Ev.METER_FLAGS_BADCFG = true ∧ t.meter = s.meter ∧ t.mem = s.mem) ∧
  (∀ (v : Word) (s : State), (v.getLsbD 0 = false ∨ s.on (Fd.METER_MP_CFG_TESTOK (cut v.toNat 1 2)) = true) →
    Answers (.meterTsgWrite v) s fun t =>
     t.rd Reg.METER_TSGCFG = v &&& 7 ∧ SameRegistersBut [Reg.METER_TSGCFG] s t ∧ t.meter = s.meter ∧ t.mem = s.mem)

/-- R326: a channel's new level enters the filtered channel; R329, R330: a test pulse falls, is checked and ends in its
cycle; R331, R332: a discrepancy, a readback, a logic or an oscillator fault locks SAFE out with its cause and turns
every output off, with the pending marker; the recorded channel of a discrepancy is left open by the spec, and is free
in the model (log entry 1); R328: the loss of the PWM clock is a demand, and a lock-out if an output was on; R333: the
record becomes durable; R335: the reset procedure ends the lock-out and acknowledges every output; R337: a fault of
the SAFE cycle in which the reset procedure ends takes that end back; R338: the self-test passes or locks out with
cause 9; R339: without power nothing of SAFE happens. -/
def Obligations.SafetyFunction : Prop :=
  (∀ (i : Fin 8) (b l : Bool) (h : Nat) (s : State), s.pmu.clocksOff = false → s.filterHeld i b = false → s.filtSamples i h ≤ h →
    Answers (.safeInputChange i b ⟨l, h⟩) s fun t =>
     (if b = true then t.safe.filtB else t.safe.filtA).getLsbD i.val = l ∧
       (if b = true then t.safe.filtA = s.safe.filtA else t.safe.filtB = s.safe.filtB) ∧
     (∀ j : Fin 8, j ≠ i → t.safe.filtA.getLsbD j.val = s.safe.filtA.getLsbD j.val ∧
       t.safe.filtB.getLsbD j.val = s.safe.filtB.getLsbD j.val) ∧
     (t.get Fd.SAFE_INPUTS_PERMIT).testBit i.val = (s.on (Fd.SAFE_IN_CFG_EN i) && t.safe.filtA.getLsbD i.val && t.safe.filtB.getLsbD i.val) ∧
     (s.get (Fd.SAFE_OUT_CFG_MAP 0) = 2 ^ i.val → t.safe.filtA.getLsbD i.val = false → (t.get Fd.SAFE_STATUS_OUTON).testBit 0 = false) ∧
       t.now = s.now ∧ t.mem = s.mem) ∧
  (∀ (i : Fin 8) (x : Nat) (s : State), s.pmu.clocksOff = false → s.safe.differ[i] = some x → s.on (Fd.SAFE_IN_CFG_EN i) = true →
    s.on Fd.SAFE_STATUS_LOCK = false → s.safe.undo = none →
     Answers (.safeDiscrepancy i) s fun t =>
       t.get Fd.SAFE_STATUS_LOCK = 1 ∧ t.get Fd.SAFE_STATUS_OUTON = 0 ∧ t.get Fd.SAFE_LOCKREC_CAUSE = 1 ∧
         t.get Fd.SAFE_LOCKREC_INDEX = i.val ∧
       t.flag Ev.SAFE_FLAGS_LOCK = true ∧ t.safe.array.marker = true ∧ x + 20 * tMs ≤ t.now ∧ t.mem = s.mem) ∧
  (∀ (j : Fin 4) (b : Bool) (s : State), s.pmu.clocksOff = false → s.safe.undo = none → s.on Fd.SAFE_STATUS_LOCK = false →
    Answers (.safeReadbackFault j b) s fun t =>
     t.get Fd.SAFE_STATUS_LOCK = 1 ∧ t.get Fd.SAFE_STATUS_OUTON = 0 ∧ t.get Fd.SAFE_LOCKREC_CAUSE = 4 ∧
       t.get Fd.SAFE_LOCKREC_INDEX = j.val ∧
     t.get Fd.SAFE_LOCKREC_CH = b.toNat ∧ t.get Fd.SAFE_LOCKREC_LOCKCNT = min 0xFFFF (s.safe.array.count + 1) ∧
       t.flag Ev.SAFE_FLAGS_LOCK = true ∧
     t.safe.array.marker = true ∧ t.safe.acked = s.safe.acked &&& ~~~(BitVec.ofNat 4 (s.get Fd.SAFE_STATUS_OUTON)) ∧
       s.safe.outAt[j] + 500 * tUs < t.now ∧ t.mem = s.mem) ∧
  (∀ s : State, s.pmu.clocksOff = false → s.safe.undo = none → s.on Fd.SAFE_STATUS_LOCK = false → Answers .safeLogicCompareFault s fun t =>
     t.get Fd.SAFE_STATUS_LOCK = 1 ∧ t.get Fd.SAFE_STATUS_OUTON = 0 ∧ t.get Fd.SAFE_LOCKREC_CAUSE = 5 ∧ t.safe.array.marker = true ∧
       t.now = s.now ∧ t.mem = s.mem) ∧
  (∀ s : State, s.pmu.clocksOff = false → s.safe.undo = none → s.on Fd.SAFE_STATUS_LOCK = false → Answers .safeOscFault s fun t =>
     t.get Fd.SAFE_STATUS_LOCK = 1 ∧ t.get Fd.SAFE_STATUS_OUTON = 0 ∧ t.get Fd.SAFE_LOCKREC_CAUSE = 7 ∧ t.safe.array.marker = true ∧
       t.now = s.now ∧ t.mem = s.mem) ∧
  (∀ s : State, s.pmu.clocksOff = false → s.pwmClk = false → s.safe.undo = none → s.on Fd.SAFE_STATUS_PWMCLK = true →
    Answers .safePwmClockLoss s fun t =>
     t.get Fd.SAFE_STATUS_PWMCLK = 0 ∧ (s.on Fd.SAFE_STATUS_LOCK = false ∨ s.get Fd.SAFE_STATUS_OUTON = 0 →
       t.get Fd.SAFE_STATUS_OUTON = 0) ∧ s.now + tUs ≤ t.now ∧
     (s.get Fd.SAFE_STATUS_OUTON ≠ 0 ∧ s.on Fd.SAFE_STATUS_LOCK = false → t.get Fd.SAFE_STATUS_LOCK = 1 ∧ t.get Fd.SAFE_LOCKREC_CAUSE = 8) ∧
     (s.get Fd.SAFE_STATUS_OUTON = 0 → t.get Fd.SAFE_STATUS_LOCK = s.get Fd.SAFE_STATUS_LOCK) ∧ t.mem = s.mem) ∧
  (∀ s : State, s.pmu.clocksOff = false → s.pwmClk = true → Answers .safePwmClockReturn s fun t =>
     t.get Fd.SAFE_STATUS_PWMCLK = 1 ∧ t.get Fd.SAFE_STATUS_LOCK = s.get Fd.SAFE_STATUS_LOCK ∧ t.now = s.now ∧ t.mem = s.mem) ∧
  (∀ s : State, s.pmu.clocksOff = false → Answers .safeSupplyDemand s fun t =>
     t.get Fd.SAFE_STATUS_SUPPLY = 1 ∧ t.get Fd.SAFE_STATUS_OUTON = 0 ∧ t.get Fd.SAFE_STATUS_LOCK = s.get Fd.SAFE_STATUS_LOCK ∧
     (s.get Fd.SAFE_STATUS_OUTON ≠ 0 → s.on Fd.SAFE_STATUS_LOCK = false → t.flag Ev.SAFE_FLAGS_DEMAND = true) ∧ t.now = s.now ∧
       t.mem = s.mem) ∧
  (∀ s : State, s.pmu.clocksOff = false → s.safe.array.marker = true → s.on Fd.SAFE_STATUS_LOCK = true →
    Answers .safeLockoutRecord s fun t =>
     t.safe.array.marker = false ∧ t.safe.array.record = some (s.rdN Reg.SAFE_LOCKREC % 256) ∧ t.safe.array.count = s.safe.array.count ∧
       t.regs = s.regs ∧ t.mem = s.mem) ∧
  (∀ s : State, s.pmu.clocksOff = false → s.safe.proc = .idle → Answers .safeResetPulseStart s fun t =>
     t.get Fd.SAFE_STATUS_RSTRUN = 1 ∧ t.safe.proc = .pulse s.now s.inputsSafe ∧ SameRegistersBut [Reg.SAFE_STATUS] s t ∧ t.mem = s.mem) ∧
  (∀ (n a : Nat) (b c : Bool) (s : State), s.pmu.clocksOff = false → s.safe.proc = .pulse a b →
    (c && b && s.inputsSafe && decide (200000 ≤ n) && decide (n ≤ 2000000)) = true →
     Answers (.safeResetProcedure n c) s fun t =>
       t.safe.proc = .clearing ∧ t.get Fd.SAFE_STATUS_SELFTEST = 1 ∧ SameRegistersBut [Reg.SAFE_STATUS] s t ∧ a + n * tUs ≤ t.now ∧
         t.mem = s.mem) ∧
  (∀ (n a : Nat) (b c : Bool) (s : State), s.pmu.clocksOff = false → s.safe.proc = .pulse a b →
    (c && b && s.inputsSafe && decide (200000 ≤ n) && decide (n ≤ 2000000)) = false →
     Answers (.safeResetProcedure n c) s fun t =>
       t.safe.proc = .idle ∧ t.flag Ev.SAFE_FLAGS_RSTREF = true ∧ t.get Fd.SAFE_STATUS_RSTRUN = 0 ∧
         t.get Fd.SAFE_STATUS_LOCK = s.get Fd.SAFE_STATUS_LOCK ∧ t.mem = s.mem) ∧
  (∀ s : State, s.pmu.clocksOff = false → s.safe.proc = .clearing → Answers .safeResetDone s fun t =>
     t.get Fd.SAFE_STATUS_LOCK = 0 ∧ t.get Fd.SAFE_STATUS_RSTRUN = 0 ∧ t.flag Ev.SAFE_FLAGS_RSTDONE = true ∧
       t.get Fd.SAFE_LOCKREC_CAUSE = 0 ∧
     t.safe.proc = .idle ∧ t.safe.array.record = none ∧ (s.get Fd.SAFE_STATUS_OUTON = 0 → t.safe.acked = 15) ∧ t.now = s.now ∧
       t.mem = s.mem) ∧
  (∀ s : State, s.pmu.clocksOff = false → s.safe.proc = .clearing → s.on Fd.SAFE_STATUS_LOCK = true → s.on Fd.SAFE_FLAGS_RSTDONE = false →
     Answers .safeResetDone s fun u => Answers .safeOscFault u fun t =>
     t.get Fd.SAFE_STATUS_LOCK = 1 ∧ t.get Fd.SAFE_LOCKREC_CAUSE = s.get Fd.SAFE_LOCKREC_CAUSE ∧ t.safe.array.record = s.safe.array.record ∧
     t.flag Ev.SAFE_FLAGS_RSTREF = true ∧ t.on Fd.SAFE_FLAGS_RSTDONE = false ∧ t.safe.proc = .idle ∧ t.now = s.now ∧ t.mem = s.mem) ∧
  (∀ (b : Bool) (s : State), s.pmu.clocksOff = true →
     exec .safeOscFault s = .next s ∧ exec .safeResetDone s = .next s ∧ exec .safeLockoutRecord s = .next s ∧
       exec (.testPulseEnd b) s = .next s) ∧
  (∀ s : State, s.pmu.clocksOff = false → s.safe.tested = false → Answers (.safeSelftestDone true) s fun t =>
     t.get Fd.SAFE_STATUS_SELFTEST = 0 ∧ t.safe.tested = true ∧ t.safe.cycle = some s.now ∧
       t.get Fd.SAFE_STATUS_LOCK = s.get Fd.SAFE_STATUS_LOCK ∧ t.mem = s.mem) ∧
  (∀ s : State, s.pmu.clocksOff = false → s.safe.tested = false → s.safe.undo = none → s.on Fd.SAFE_STATUS_LOCK = false →
    Answers (.safeSelftestDone false) s fun t =>
     t.get Fd.SAFE_STATUS_SELFTEST = 0 ∧ t.safe.tested = true ∧ t.get Fd.SAFE_STATUS_LOCK = 1 ∧ t.get Fd.SAFE_LOCKREC_CAUSE = 9 ∧
       t.mem = s.mem) ∧
  (∀ (b : Bool) (x : BitVec 8) (y : BitVec 8) (a : Nat) (s : State), s.pmu.clocksOff = false → s.safe.cycle = some a → (b = true →
    s.safe.tpB.mask ≠ a + 10 * tMs + 700 * tUs) →
     Answers (.testPulseStart b x y) s fun t =>
     (if b = true then t.safe.tpB else t.safe.tpA).low.isSome = true ∧ (if b = true then t.safe.tpB else t.safe.tpA).highA = x ∧ a ≤ t.now ∧
     (b = true → t.safe.tpB.low = some (a + 10 * tMs) ∧ t.safe.tpA = s.safe.tpA) ∧
     t.get Fd.SAFE_INPUTS_RAWA = x.toNat ∧ t.get Fd.SAFE_INPUTS_RAWB = y.toNat ∧ t.mem = s.mem) ∧
  (∀ (b : Bool) (x y : BitVec 8) (a : Nat) (s : State), s.pmu.clocksOff = false →
    (if b = true then s.safe.tpB else s.safe.tpA).low = some a → (if b = true then s.safe.tpB else s.safe.tpA).toCheck = true →
     s.safe.undo = none → s.on Fd.SAFE_STATUS_LOCK = false → Answers (.testPulseCheck b x y) s fun t =>
       (if b = true then t.safe.tpB else t.safe.tpA).toCheck = false ∧ a + 350 * tUs ≤ t.now ∧
       (t.get Fd.SAFE_STATUS_LOCK = 1 ↔ ∃ i : Fin 8, s.on (Fd.SAFE_IN_CFG_TPEN i) = true ∧
         (if b = true then s.safe.tpB.highA.getLsbD i.val && !x.getLsbD i.val || s.safe.tpB.highB.getLsbD i.val && y.getLsbD i.val
           else s.safe.tpA.highB.getLsbD i.val && !y.getLsbD i.val || s.safe.tpA.highA.getLsbD i.val && x.getLsbD i.val) = true) ∧
       (t.get Fd.SAFE_STATUS_LOCK = 1 → t.get Fd.SAFE_LOCKREC_CAUSE = 2 ∨ t.get Fd.SAFE_LOCKREC_CAUSE = 3) ∧ t.mem = s.mem) ∧
  (∀ (b : Bool) (a : Nat) (s : State), s.pmu.clocksOff = false → (if b = true then s.safe.tpB else s.safe.tpA).low = some a →
    Answers (.testPulseEnd b) s fun t =>
     (if b = true then t.safe.tpB else t.safe.tpA).low = none ∧ a + 400 * tUs ≤ t.now ∧ t.regs = s.regs ∧ t.mem = s.mem)

/-- R358, R359: EN starts a watchdog, two keys in order kick it, a wrong key or a missed period fires stage 1 with an NMI,
a missed grace warns of cause 3; R361, R362: a Read of local words answers them behind the status byte, a Write is
queued or refused whole, a Status answers and clears the bits, a kept Read completes; R363, R437: with debug open a
core halts, resumes, steps and shows its registers, memory is reached and the module reset, with debug closed the
access is refused; R505: the test logic's instructions select the balls' state and their register. -/
def Obligations.WatchdogsHostAndDebug : Prop :=
  (∀ (k : Fin 2) (s : State), s.on (Fd.SYSCFG_WDG_CFG_EN k) = false → Answers (.watchdogEnable k) s fun t =>
     t.get (Fd.SYSCFG_WDG_CFG_EN k) = 1 ∧ t.wdg[k].fired = false ∧ t.wdg[k].kick = none ∧
     t.wdg[k].due = s.now + msOf k (s.get (Fd.SYSCFG_WDG_PERIOD_MS k)) ∧ SameRegistersBut [Reg.SYSCFG_WDG_CFG k] s t ∧ t.mem = s.mem) ∧
  (∀ (k : Fin 2) (s : State), s.on (Fd.SYSCFG_WDG_CFG_EN k) = true → s.wdg[k].first = none → Answers (.watchdogKick k 0x5A5A) s fun t =>
     t.wdg[k].first = some (s.wdgNow k) ∧ t.wdg[k].due = s.wdg[k].due ∧ t.regs = s.regs ∧ t.mem = s.mem) ∧
  (∀ (k : Fin 2) (a : Nat) (s : State), s.on (Fd.SYSCFG_WDG_CFG_EN k) = true → s.wdg[k].first = some a → s.wdgNow k ≤ a + wdgMs k →
    s.wdg[k].kick = none →
     Answers (.watchdogKick k 0xA5A5) s fun t =>
       t.wdg[k].first = none ∧ t.wdg[k].kick = some (s.wdgNow k) ∧ t.wdg[k].fired = false ∧
       t.wdg[k].due = s.wdgNow k + msOf k (s.get (Fd.SYSCFG_WDG_PERIOD_MS k)) ∧ t.regs = s.regs ∧ t.mem = s.mem) ∧
  (∀ (k : Fin 2) (v : Word) (s : State), s.on (Fd.SYSCFG_WDG_CFG_EN k) = true → s.wdg[k].first = none → v ≠ 0x5A5A →
    s.wdg[k].fired = false →
     Answers (.watchdogKick k v) s fun t =>
       t.flag (Ev.SYSCFG_WDG_STATUS_FIRED k) = true ∧ t.wdg[k].fired = true ∧ t.st[s.wdgOwner k].nmi = true ∧ t.mem = s.mem) ∧
  (∀ (k : Fin 2) (s : State), s.on (Fd.SYSCFG_WDG_CFG_EN k) = true → s.wdg[k].fired = false → s.wdg[k].paused = none →
     Answers (.watchdogStage1 k) s fun t =>
       t.flag (Ev.SYSCFG_WDG_STATUS_FIRED k) = true ∧ t.wdg[k].fired = true ∧ t.st[s.wdgOwner k].nmi = true ∧ s.wdg[k].due ≤ t.now ∧
       t.wdg[k].due = t.now + msOf k (s.get (Fd.SYSCFG_WDG_GRACE_MS k)) ∧ t.mem = s.mem) ∧
  (∀ (k : Fin 2) (s : State), s.on (Fd.SYSCFG_WDG_CFG_EN k) = true → s.wdg[k].fired = true → s.wdg[k].paused = none → s.pmu.warned = false →
     s.pmu.clocksOff = false → Answers (.watchdogStage2 k) s fun t =>
       t.pmu.warned = true ∧ t.get Fd.PMU_RSTINFO_CAUSE = 3 ∧ t.pmu.watchdog = k.val ∧ t.get Fd.PMU_STATUS_PFW = 1 ∧ s.wdg[k].due ≤ t.now) ∧
  (∀ (a : Word) (s : State), s.on Fd.SYSCFG_HOSTCTL_EN = true → s.host.kept = none → region a.toNat = .sram → a.toNat % 4 = 0 →
    s.eccBad a.toNat = false → s.tagFree 12 = true →
     Answers (.hostRead a 0 true 0) s fun t =>
       t.host.out = [BitVec.ofNat 32 (1 + 2 * s.host.err.toNat + 4 * s.host.ref.toNat + 8 * (!s.host.queue.isEmpty).toNat),
         BitVec.ofNat 32 (s.memRd a.toNat 4)] ∧
       t.host.kept = none ∧ t.host.queue = s.host.queue ∧ t.regs = s.regs ∧ t.mem = s.mem) ∧
  (∀ (a : Word) (l : List Word) (i : Fin 32) (s : State), s.on Fd.SYSCFG_HOSTCTL_EN = true → s.host.queue = [] → l.length ≤ 32 →
    i.val < l.length →
     Answers (.hostWrite a l) s fun t =>
       t.host.queue.length = l.length ∧ t.host.queue[i.val]? = some ((a.toNat + 4 * i.val) % 2 ^ 32, l.getD i.val 0, false) ∧
       t.host.ref = s.host.ref ∧ t.host.kept = none ∧ t.regs = s.regs ∧ t.mem = s.mem) ∧
  (∀ (a : Word) (l : List Word) (s : State), s.on Fd.SYSCFG_HOSTCTL_EN = true → 32 < l.length → Answers (.hostWrite a l) s fun t =>
     t.host.ref = true ∧ t.host.queue = s.host.queue ∧ t.regs = s.regs ∧ t.mem = s.mem) ∧
  (∀ s : State, s.on Fd.SYSCFG_HOSTCTL_EN = true → s.host.kept = none → Answers .hostStatus s fun t =>
     t.host.err = false ∧ t.host.ref = false ∧ t.host.queue = s.host.queue ∧
     t.host.out = [BitVec.ofNat 32 (1 + 2 * s.host.err.toNat + 4 * s.host.ref.toNat + 8 * (!s.host.queue.isEmpty).toNat),
       BitVec.ofNat 32 (32 - s.host.queue.length)] ∧
     t.regs = s.regs ∧ t.mem = s.mem) ∧
  (∀ (a n : Nat) (v : Word) (s : State), s.host.drop = [] → s.host.kept = some ⟨a, n, [some v], false⟩ →
    Answers .hostReadComplete s fun t =>
     t.host.kept = some ⟨a, n, [some v], true⟩ ∧ t.regs = s.regs ∧ t.mem = s.mem) ∧
  (∀ (c : Fin 6) (s : State), s.on Fd.SEC_STATUS_DBGOPEN = true → s.cpu[c].halted = false → s.cpu[c].wait = none →
    Answers (.debugHalt c) s fun t =>
     t.cpu[c].halted = true ∧ t.cpu[c].pc = s.cpu[c].pc ∧ t.cpu[c].d = s.cpu[c].d ∧ (∀ j : Fin 6, j ≠ c → t.cpu[j] = s.cpu[j]) ∧
       t.mem = s.mem) ∧
  (∀ (c : Fin 6) (s : State), s.on Fd.SEC_STATUS_DBGOPEN = true → s.cpu[c].halted = true → s.cpu[c].haltReq = false →
    Answers (.debugResume c) s fun t =>
     t.cpu[c].halted = false ∧ t.cpu[c].pc = s.cpu[c].pc ∧ (∀ j : Fin 6, j ≠ c → t.cpu[j] = s.cpu[j]) ∧ t.mem = s.mem) ∧
  (∀ (c : Fin 6) (s : State), s.on Fd.SEC_STATUS_DBGOPEN = true → s.cpu[c].halted = true → Answers (.debugStep c) s fun t =>
     t.cpu[c].step = true ∧ t.cpu[c].halted = true ∧ t.cpu[c].pc = s.cpu[c].pc ∧ (∀ j : Fin 6, j ≠ c → t.cpu[j] = s.cpu[j]) ∧
       t.regs = s.regs ∧ t.mem = s.mem) ∧
  (∀ (c : Fin 6) (n : Fin 16) (v : BitVec 72) (s : State), s.on Fd.SEC_STATUS_DBGOPEN = true → s.cpu[c].halted = true →
    s.cpu[c].ended = none → Answers (.debugRegisterAccess c (.d n) (some v)) s fun t =>
     (∀ j : Fin 16, t.cpu[c].d[j] = if j = n then v.setWidth 32 else s.cpu[c].d[j]) ∧ t.cpu[c].a = s.cpu[c].a ∧
       t.dport.sticky = s.dport.sticky ∧ t.regs = s.regs ∧ t.mem = s.mem) ∧
  (∀ (c : Fin 6) (n : Fin 4) (s : State), s.on Fd.SEC_STATUS_DBGOPEN = true → s.cpu[c].halted = true → s.cpu[c].ended = none →
    Answers (.debugRegisterAccess c (.w n) none) s fun t =>
     t.dport.dr = s.cpu[c].w[n] ∧ t.cpu[c].w = s.cpu[c].w ∧ t.dport.sticky = s.dport.sticky ∧ t.regs = s.regs ∧ t.mem = s.mem) ∧
  (∀ (x : Access) (v : BitVec 64) (s : State), s.on Fd.SEC_STATUS_DBGOPEN = true → x.write = some v → region x.addr.toNat = .sram →
    x.addr.toNat % 2 ^ x.size.val = 0 →
     s.tagFree 13 = true →
     Answers (.debugMemoryAccess x) s fun t =>
       (∀ i : Fin 8, i.val < 2 ^ x.size.val → Memory.read t.mem (x.addr.toNat + i.val) = v.extractLsb' (8 * i.val) 8) ∧
       SameMemoryBut x.addr.toNat (2 ^ x.size.val) s t ∧ t.dport.sticky = s.dport.sticky ∧ t.regs = s.regs) ∧
  (∀ s : State, s.on Fd.SEC_STATUS_DBGOPEN = true → s.pmu.warned = false → s.pmu.clocksOff = false → Answers .debugReset s fun t =>
     t.pmu.warned = true ∧ t.get Fd.PMU_RSTINFO_CAUSE = 4 ∧ t.get Fd.PMU_STATUS_PFW = 1 ∧ t.now = s.now) ∧
  (∀ (c : Fin 6) (x : Access) (s : State), s.on Fd.SEC_STATUS_DBGOPEN = false →
     (Answers (.debugHalt c) s fun t => t.dport.sticky = true ∧ t.cpu = s.cpu ∧ t.regs = s.regs ∧ t.mem = s.mem) ∧
     (Answers (.debugMemoryAccess x) s fun t => t.dport.sticky = true ∧ t.cpu = s.cpu ∧ t.regs = s.regs ∧ t.mem = s.mem) ∧
     (Answers .debugReset s fun t => t.dport.sticky = true ∧ t.pmu = s.pmu ∧ t.regs = s.regs ∧ t.mem = s.mem)) ∧
  (∀ (l m : List Bool) (s : State),
     (Answers (.jtagExtest l) s fun t => t.dport.pads = .scan ∧ t.dport.captured = l ∧ t.dport.bypass = false ∧ t.regs = s.regs ∧
       t.mem = s.mem) ∧
     (Answers (.jtagSamplePreload l m) s fun t => t.dport.pads = .normal ∧ t.dport.captured = l ∧ t.dport.cells = m ∧
       t.dport.bypass = false ∧ t.regs = s.regs ∧ t.mem = s.mem) ∧
     (Answers .jtagIdcode s fun t => t.dport.pads = .normal ∧ t.dport.dr = idcode ∧ t.dport.bypass = false ∧ t.regs = s.regs ∧
       t.mem = s.mem) ∧
     (Answers .jtagClamp s fun t => t.dport.pads = .scan ∧ t.dport.bypass = true ∧ t.regs = s.regs ∧ t.mem = s.mem) ∧
     (Answers .jtagHighz s fun t => t.dport.pads = .highz ∧ t.dport.bypass = true ∧ t.regs = s.regs ∧ t.mem = s.mem) ∧
     (Answers .jtagDebug s fun t => t.dport.pads = .normal ∧ t.dport.bypass = false ∧ t.dport.ir = 8 ∧ t.regs = s.regs ∧ t.mem = s.mem)) ∧
  (∀ (c : BitVec 5) (s : State), c ≠ 0 ∧ c ≠ 1 ∧ c ≠ 2 ∧ c ≠ 4 ∧ c ≠ 5 ∧ c ≠ 8 → Answers (.jtagBypass c) s fun t =>
     t.dport.pads = .normal ∧ t.dport.bypass = true ∧ t.dport.ir = c ∧ t.regs = s.regs ∧ t.mem = s.mem)

/-- R371, R382: START and RESUME of an enabled idle channel fetch, any other sets CFGERR, and DESC takes an aligned SRAM
address while idle; R380: STOP ends a channel that fetches or waits; R376: a selected trigger starts the waiting
block, is held, or is an overrun, another is ignored; R372, R379: a fetch takes the descriptor's words and checks
them, an inactive one ends with EMPTY; R374: a block copies its bytes within the SRAM; R378: a completed descriptor is
written back, counted, and the channel goes idle. -/
def Obligations.DmaChannels : Prop :=
  (∀ (c : Fin 32) (s : State), s.on (Fd.DMA_CH_CTRL_EN c) = true → s.dmaState c = 0 →
     (Answers (.dmaStart c) s fun t => t.dmaState c = 1 ∧ SameRegistersBut [Reg.DMA_CH_STAT c] s t ∧ t.dma = s.dma ∧ t.mem = s.mem) ∧
     (Answers (.dmaResume c) s fun t => t.dmaState c = 1 ∧ SameRegistersBut [Reg.DMA_CH_STAT c] s t ∧ t.dma = s.dma ∧ t.mem = s.mem)) ∧
  (∀ (c : Fin 32) (s : State), (s.on (Fd.DMA_CH_CTRL_EN c) = false ∨ s.dmaState c ≠ 0) →
     (Answers (.dmaStart c) s fun t => t.flag (Ev.DMA_CH_FLAGS_CFGERR c) = true ∧
       SameRegistersBut [Reg.DMA_CH_FLAGS c, (Ev.DMA_CH_FLAGS_CFGERR c).cnt] s t ∧ t.dma = s.dma ∧ t.mem = s.mem) ∧
     (Answers (.dmaResume c) s fun t => t.flag (Ev.DMA_CH_FLAGS_CFGERR c) = true ∧
       SameRegistersBut [Reg.DMA_CH_FLAGS c, (Ev.DMA_CH_FLAGS_CFGERR c).cnt] s t ∧ t.dma = s.dma ∧ t.mem = s.mem)) ∧
  (∀ (c : Fin 32) (s : State), s.dmaState c = 0 → s.dma[c].trigAt ≠ some s.now → Answers (.dmaStop c) s fun t =>
     t.regs = s.regs ∧ t.dma[c].stop = s.dma[c].stop ∧ t.now = s.now ∧ t.mem = s.mem) ∧
  (∀ (c : Fin 32) (s : State), s.dmaState c = 1 → Answers (.dmaStop c) s fun t =>
     t.dmaState c = 0 ∧ t.flag (Ev.DMA_CH_FLAGS_STOPPED c) = true ∧ t.get (Fd.DMA_CH_STAT_TPEND c) = 0 ∧ t.mem = s.mem) ∧
  (∀ (c : Fin 32) (s : State), (s.dmaState c = 2 ∨ s.dmaState c = 3) → s.dma[c].trigAt ≠ some s.now → Answers (.dmaStop c) s fun t =>
     t.dma[c].stop = true ∧ t.dmaState c = (if s.dmaState c = 2 then 4 else 3) ∧ (s.dmaState c = 2 → t.dma[c].status = 6) ∧
     t.dma[c].pos = s.dma[c].pos ∧ SameRegistersBut [Reg.DMA_CH_STAT c] s t ∧ t.mem = s.mem) ∧
  (∀ (c : Fin 32) (v : Word) (s : State), s.dmaState c = 0 → v.toNat % 32 = 0 → 0x20000000 ≤ v.toNat → v.toNat < 0x20400000 →
    Answers (.dmaDescWrite c v) s fun t =>
     t.rd (Reg.DMA_CH_DESC c) = v ∧ SameRegistersBut [Reg.DMA_CH_DESC c] s t ∧ t.mem = s.mem) ∧
  (∀ (c : Fin 32) (v : Word) (s : State), (s.dmaState c ≠ 0 ∨ v.toNat % 32 ≠ 0 ∨ v.toNat < 0x20000000 ∨ 0x20400000 ≤ v.toNat) →
    Answers (.dmaDescWrite c v) s fun t =>
     t.flag (Ev.DMA_CH_FLAGS_CFGERR c) = true ∧ SameRegistersBut [Reg.DMA_CH_FLAGS c, (Ev.DMA_CH_FLAGS_CFGERR c).cnt] s t ∧ t.mem = s.mem) ∧
  (∀ (c : Fin 32) (s : State), cut (s.dma[c].words[5]).toNat 0 2 ≠ 0 → s.dma[c].stop = false → s.dmaState c = 2 →
     s.get (Fd.DMA_CH_STAT_TPEND c) = 0 → s.dma[c].trigAt ≠ some (s.reachNow (s.now + s.sysT)).now →
       s.dma[c].stopAt ≠ some (s.reachNow (s.now + s.sysT)).now → Answers (.dmaSwtrig c) s fun t =>
     t.dmaState c = 3 ∧ t.dma[c].block = s.dma[c].nextBlock ∧ t.dma[c].words = s.dma[c].words ∧ t.dma[c].pos = s.dma[c].pos ∧
       t.mem = s.mem) ∧
  (∀ (c : Fin 32) (s : State), cut (s.dma[c].words[5]).toNat 0 2 ≠ 0 → s.dma[c].stop = false → s.dmaState c ≠ 2 →
     s.dma[c].trigAt ≠ some (s.reachNow (s.now + s.sysT)).now → s.dma[c].stopAt ≠ some (s.reachNow (s.now + s.sysT)).now →
       Answers (.dmaSwtrig c) s fun t =>
     t.get (Fd.DMA_CH_STAT_TPEND c) = 1 ∧ t.dmaState c = s.dmaState c ∧ (s.get (Fd.DMA_CH_STAT_TPEND c) = 1 →
       t.flag (Ev.DMA_CH_FLAGS_OVR c) = true) ∧
     (s.get (Fd.DMA_CH_STAT_TPEND c) = 0 → SameRegistersBut [Reg.DMA_CH_STAT c] s t) ∧ t.dma[c].block = s.dma[c].block ∧
     t.now = (s.reachNow (s.now + s.sysT)).now ∧ t.mem = s.mem) ∧
  (∀ (c : Fin 32) (l : Launch) (s : State), s.launchOf (62 + c.val) = some l → cut (s.dma[c].words[5]).toNat 0 2 = 1 →
    s.dma[c].stop = false → s.dmaState c = 2 →
     s.pmu.clocksOff = false → s.get (Fd.DMA_CH_STAT_TPEND c) = 0 → s.dma[c].trigAt ≠ some (s.reachNow (l.matched + 80 + 2 * s.sysT)).now →
       s.dma[c].stopAt ≠ some (s.reachNow (l.matched + 80 + 2 * s.sysT)).now →
     Answers (.dmaLaunchTrigger c) s fun t =>
       t.dmaState c = 3 ∧ t.dma[c].block = s.dma[c].nextBlock ∧ t.tbl.inflight = s.tbl.inflight.erase l ∧ t.mem = s.mem) ∧
  (∀ (c : Fin 32) (l : Launch) (s : State), s.launchOf (62 + c.val) = some l → cut (s.dma[c].words[5]).toNat 0 2 ≠ 1 →
    s.pmu.clocksOff = false → Answers (.dmaLaunchTrigger c) s fun t =>
     t.flag (Ev.DMA_CH_FLAGS_IGN c) = true ∧ t.dma = s.dma ∧ t.dmaState c = s.dmaState c ∧ t.mem = s.mem) ∧
  (∀ (c : Fin 32) (s : State), s.dmaState c = 1 → s.dmaPaused = false → s.tagFree 6 = true →
    (s.memRd (s.rdN (Reg.DMA_CH_DESC c)) 4).testBit 31 = false →
     Answers (.dmaDescriptorFetch c) s fun t => t.dmaState c = 0 ∧ t.flag (Ev.DMA_CH_FLAGS_EMPTY c) = true ∧ t.mem = s.mem) ∧
  (∀ (c : Fin 32) (i : Fin 8) (s : State), s.dmaState c = 1 → s.dmaPaused = false → s.tagFree 6 = true →
    (s.memRd (s.rdN (Reg.DMA_CH_DESC c)) 4).testBit 31 = true →
     s.mon.ecc = [] → Answers (.dmaDescriptorFetch c) s fun t =>
       (t.dma[c].words[i]).toNat = s.memRd (s.rdN (Reg.DMA_CH_DESC c) + 4 * i.val) 4 ∧ t.dma[c].pos = 0 ∧
         t.dma[c].addr = s.rdN (Reg.DMA_CH_DESC c) ∧
       t.get (Fd.DMA_CH_STAT_BYTES c) = 0 ∧ (t.dma[c].fetchStatus ≠ 0 → t.dmaState c = 4 ∧ t.dma[c].status = t.dma[c].fetchStatus) ∧
       (t.dma[c].fetchStatus = 0 → t.dma[c].trig = 0 → t.dmaState c = 3 ∧ t.dma[c].block = t.dma[c].len) ∧
       (t.dma[c].fetchStatus = 0 → t.dma[c].trig ≠ 0 → s.get (Fd.DMA_CH_STAT_TPEND c) = 0 → t.dmaState c = 2) ∧ t.mem = s.mem) ∧
  (∀ (c : Fin 32) (i : Nat) (s : State), s.dmaState c = 3 → s.dmaPaused = false → s.tagFree 6 = true → s.dmaReading c = false →
    s.dma[c].stop = false → s.dma[c].status = 0 →
     s.dma[c].op = 0 → s.dma[c].bit0 2 = true → s.dma[c].bit0 3 = true → s.mon.ecc = [] → s.get (Fd.DMA_CH_STAT_TPEND c) = 0 →
     0x20000000 ≤ s.dma[c].word 1 → s.dma[c].word 1 + s.dma[c].pos + s.dma[c].block ≤ 0x20400000 →
     0x20000000 ≤ s.dma[c].word 2 → s.dma[c].word 2 + s.dma[c].pos + s.dma[c].block ≤ 0x20400000 →
     (s.dma[c].word 1 + s.dma[c].pos + s.dma[c].block ≤ s.dma[c].word 2 + s.dma[c].pos ∨
       s.dma[c].word 2 + s.dma[c].pos + s.dma[c].block ≤ s.dma[c].word 1 + s.dma[c].pos) →
     (s.dma[c].wordBeats = true → (s.dma[c].word 1 + s.dma[c].pos) % 4 = 0 ∧ (s.dma[c].word 2 + s.dma[c].pos) % 4 = 0 ∧
       s.dma[c].block % 4 = 0) →
     i < s.dma[c].block → Answers (.dmaBlockEnd c) s fun t =>
       Memory.read t.mem (s.dma[c].word 2 + s.dma[c].pos + i) = Memory.read s.mem (s.dma[c].word 1 + s.dma[c].pos + i) ∧
       SameMemoryBut (s.dma[c].word 2 + s.dma[c].pos) s.dma[c].block s t ∧ t.dma[c].pos = s.dma[c].pos + s.dma[c].block ∧
       t.dma[c].status = 0 ∧ t.dmaState c = (if s.dma[c].len ≤ s.dma[c].pos + s.dma[c].block then 4 else 2)) ∧
  (∀ (c : Fin 32) (v : BitVec 24) (s : State), s.dmaState c = 4 → s.dmaPaused = false → s.tagFree 6 = true →
    (∀ l : Fin 4, (s.port l).ops = []) → descAddrOk s.dma[c].addr = true →
     s.dma[c].bit0 5 = false → Answers (.dmaDescriptorComplete c v) s fun t =>
       t.memRd (s.dma[c].addr + 24) 4 = s.dma[c].pos % 2 ^ 24 ∧ t.memRd (s.dma[c].addr + 28) 4 = s.dma[c].stamp % 2 ^ 32 ∧
       (t.memRd s.dma[c].addr 4).testBit 31 = false ∧ cut (t.memRd s.dma[c].addr 4) 28 3 = s.dma[c].status % 8 ∧
       cut (t.memRd s.dma[c].addr 4) 0 28 = cut (s.dma[c].word 0) 0 28 ∧ SameMemoryBut s.dma[c].addr 32 s t ∧
       t.rd (Reg.DMA_CH_DONECNT c) = s.rd (Reg.DMA_CH_DONECNT c) + 1 ∧ t.get (Fd.DMA_CH_LASTST_STATUS c) = s.dma[c].status % 8 ∧
       (s.dma[c].bit0 4 = true → t.flag (Ev.DMA_CH_FLAGS_DONE c) = true) ∧ (2 ≤ s.dma[c].status → t.flag (Ev.DMA_CH_FLAGS_ERR c) = true) ∧
       t.dmaState c = 0 ∧ t.get (Fd.DMA_CH_STAT_TPEND c) = 0)

/-- R387, R389: an illegal rate or loop is refused with CFGERR, enabling and TRAIN start training, which ends UP with 16
credits and its round trip, or fails with TRAINFAIL, and is tried again under AUTO; R398, R399: the NAK hold-off ends,
a replay sends the buffer again and the eighth in a row takes the link down; R401: a remote access leaves for one
credit; R405, R408: an exchange and a raw stream cell start; R393, R410: a stuffing violation or a lost clock takes
the link down; R412: the test pattern is set, and an injected error counts in a near-end loop. -/
def Obligations.LinkControl : Prop :=
  (∀ (l : Fin 4) (v : Word) (s : State), (cut v.toNat 4 2 = 3 ∨ 3 < cut v.toNat 8 3) → Answers (.linkEnableWrite l v) s fun t =>
     t.flag (Ev.LINK_L_FLAGS_CFGERR l) = true ∧ SameRegistersBut [Reg.LINK_L_FLAGS l, (Ev.LINK_L_FLAGS_CFGERR l).cnt] s t ∧
       t.linkState l = s.linkState l ∧ t.mem = s.mem) ∧
  (∀ (l : Fin 4) (v : Word) (s : State), cut v.toNat 4 2 ≠ 3 → cut v.toNat 8 3 ≤ 3 → v.getLsbD 0 = true → s.linkState l = 0 →
    s.pmu.warned = false → Answers (.linkEnableWrite l v) s fun t =>
     t.linkState l = 1 ∧ t.get (Fd.LINK_L_CTRL_EN l) = 1 ∧ t.get (Fd.LINK_L_CTRL_RATE l) = cut v.toNat 4 2 ∧
       t.get (Fd.LINK_L_CTRL_LOOP l) = cut v.toNat 8 3 ∧
     t.get (Fd.LINK_L_CTRL_AUTO l) = cut v.toNat 2 1 ∧ (t.port l).loop = cut v.toNat 8 3 ∧ (t.port l).marks = 0 ∧
     SameRegistersBut [Reg.LINK_L_CTRL l, Reg.LINK_L_STATUS l] s t ∧ t.mem = s.mem) ∧
  (∀ (l : Fin 4) (v : Word) (s : State), cut v.toNat 4 2 = s.get (Fd.LINK_L_CTRL_RATE l) → cut v.toNat 8 3 = s.get (Fd.LINK_L_CTRL_LOOP l) →
    s.get (Fd.LINK_L_CTRL_RATE l) ≠ 3 →
     s.get (Fd.LINK_L_CTRL_LOOP l) ≤ 3 → v.getLsbD 0 = false → s.linkState l = 2 → Answers (.linkEnableWrite l v) s fun t =>
       t.linkState l = 0 ∧ t.get (Fd.LINK_L_CTRL_EN l) = 0 ∧ t.flag (Ev.LINK_L_FLAGS_DOWN l) = true ∧ (t.port l).retrain = none ∧
         t.mem = s.mem) ∧
  (∀ (l : Fin 4) (s : State), s.on (Fd.LINK_L_CTRL_EN l) = true → s.pmu.warned = false → Answers (.linkTrain l) s fun t =>
     t.linkState l = 1 ∧ (t.port l).marks = 0 ∧ (t.port l).replay = [] ∧ (t.port l).expect = 0 ∧ (s.linkState l = 2 →
       t.flag (Ev.LINK_L_FLAGS_DOWN l) = true) ∧
     t.now = s.now ∧ t.mem = s.mem) ∧
  (∀ (l : Fin 4) (a b : LaneScan) (s : State), s.linkState l = 1 → s.on Fd.PLL_STATUS_SYNCLOCK = true → 16 ≤ (s.port l).marks →
    (s.port l).loop ≠ 2 → s.eyeNarrow l a b = false →
     Answers (.linkTrainingComplete l a b) s fun t =>
       t.linkState l = 2 ∧ t.get (Fd.LINK_L_STATUS_CRED l) = 16 ∧ t.flag (Ev.LINK_L_FLAGS_UP l) = true ∧
         t.rdN (Reg.LINK_L_RTT l) = (s.port l).markMax % 2 ^ 32 ∧
       t.get (Fd.LINK_L_STATUS_LPLLOCK l) = 1 ∧ t.get (Fd.LINK_L_MARGIN_WIDTH0 l) = (s.laneResult l a (Fd.LINK_L_EQ_SET0 l)).2.1 % 128 ∧
         t.get (Fd.LINK_L_MARGIN_WIDTH1 l) = (s.laneResult l b (Fd.LINK_L_EQ_SET1 l)).2.1 % 128 ∧
       t.get (Fd.LINK_L_STATUS_EQ0 l) = (s.laneResult l a (Fd.LINK_L_EQ_SET0 l)).1 % 16 ∧
         t.get (Fd.LINK_L_STATUS_EQ1 l) = (s.laneResult l b (Fd.LINK_L_EQ_SET1 l)).1 % 16 ∧ t.mem = s.mem) ∧
  (∀ (l : Fin 4) (a b : LaneScan) (s : State), s.linkState l = 1 → s.on Fd.PLL_STATUS_SYNCLOCK = true → 16 ≤ (s.port l).marks →
    (s.port l).loop ≠ 2 → s.eyeNarrow l a b = true →
     Answers (.linkTrainingComplete l a b) s fun t => t.linkState l = 0 ∧ t.flag (Ev.LINK_L_FLAGS_TRAINFAIL l) = true ∧ t.mem = s.mem) ∧
  (∀ (l : Fin 4) (s : State), s.linkState l = 1 → (s.port l).loop ≠ 2 → (s.port l).ready = false →
    Answers (.linkTrainingFail l .clock) s fun t =>
     t.linkState l = 0 ∧ t.flag (Ev.LINK_L_FLAGS_TRAINFAIL l) = true ∧ t.get (Fd.LINK_L_STATUS_CLKOK l) = 0 ∧
       (s.port l).trainAt + 100 * tUs ≤ t.now ∧
     (t.port l).retrain = (if s.on (Fd.LINK_L_CTRL_AUTO l) = true then some (t.now + 10 * tMs) else none)) ∧
  (∀ (l : Fin 4) (a b : LaneScan) (s : State), s.linkState l = 1 → (s.port l).loop ≠ 2 → s.eyeNarrow l a b = true →
    Answers (.linkTrainingFail l (.scanned a b)) s fun t =>
     t.linkState l = 0 ∧ t.flag (Ev.LINK_L_FLAGS_TRAINFAIL l) = true ∧ t.get (Fd.LINK_L_STATUS_CLKOK l) = 1 ∧
     (t.port l).retrain = (if s.on (Fd.LINK_L_CTRL_AUTO l) = true then some (t.now + 10 * tMs) else none) ∧ t.now = s.now ∧ t.mem = s.mem) ∧
  (∀ (l : Fin 4) (a b : LaneScan) (s : State), s.linkState l = 1 → (s.port l).loop ≠ 2 → s.eyeNarrow l a b = false →
    (s.port l).ready = false → Answers (.linkTrainingFail l (.scanned a b)) s fun t =>
     t.linkState l = 0 ∧ t.flag (Ev.LINK_L_FLAGS_TRAINFAIL l) = true ∧ t.get (Fd.LINK_L_STATUS_CLKOK l) = 1 ∧
       (s.port l).trainAt + tMs ≤ t.now) ∧
  (∀ (l : Fin 4) (x : Nat) (s : State), (s.port l).retrain = some x → s.on (Fd.LINK_L_CTRL_EN l) = true →
    s.on (Fd.LINK_L_CTRL_AUTO l) = true → s.pmu.warned = false →
     Answers (.linkAutoRetrain l) s fun t => t.linkState l = 1 ∧ (t.port l).retrain = none ∧ x ≤ t.now) ∧
  (∀ (l : Fin 4) (x : Nat) (s : State), (s.port l).nakAt = some x → Answers (.nakHoldoffExpire l) s fun t =>
     (t.port l).nakAt = none ∧ x + 2 * tUs ≤ t.now ∧ t.linkState l = s.linkState l ∧ (t.port l).ops = (s.port l).ops) ∧
  (∀ (l : Fin 4) (s : State), s.linkState l = 2 → (s.port l).replay ≠ [] → (s.port l).rounds < 7 → Answers (.replayTimeout l) s fun t =>
     t.flag (Ev.LINK_L_FLAGS_REPLAY l) = true ∧ t.rd (Reg.LINK_L_REPLAYCNT l) = s.rd (Reg.LINK_L_REPLAYCNT l) + 1 ∧
       (t.port l).rounds = (s.port l).rounds + 1 ∧
     (t.port l).sent.length = (s.port l).replay.length ∧ (t.port l).replay.map (·.1) = (s.port l).replay.map (·.1) ∧ t.linkState l = 2 ∧
     (s.port l).oldest + cellSlots400 (s.get (Fd.LINK_L_CTRL_RATE l)) ≤ t.now) ∧
  (∀ (l : Fin 4) (s : State), s.linkState l = 2 → (s.port l).replay ≠ [] → (s.port l).rounds = 7 → Answers (.replayTimeout l) s fun t =>
     t.linkState l = 0 ∧ t.flag (Ev.LINK_L_FLAGS_DOWN l) = true ∧ (t.port l).replay = []) ∧
  (∀ (l : Fin 4) (o : RemoteOp) (r : List RemoteOp) (s : State), s.linkState l = 2 → (s.port l).loop ≠ 3 →
    0 < s.get (Fd.LINK_L_STATUS_CRED l) →
     (s.port l).ops = o :: r → s.stalledOps = 0 → o.stage = .queued → (s.port l).evOut = [] → (s.port l).respOut = [] →
       (s.port l).strOut = [] → (s.port l).replay.length < 48 →
     (∀ x ∈ r, x.data = none → ∀ n : Fin 64, x.stage ≠ .sent n) → Answers (.remoteAccessSend l) s fun t =>
       t.get (Fd.LINK_L_STATUS_CRED l) = s.get (Fd.LINK_L_STATUS_CRED l) - 1 ∧ (t.port l).ops = { o with stage := .sent 0 } :: r ∧
       (t.port l).replay.length = (s.port l).replay.length + 1 ∧ (t.port l).seq = ((s.port l).seq + 1) % 256 ∧
       SameRegistersBut [Reg.LINK_L_STATUS l] s t ∧ t.mem = s.mem) ∧
  (∀ (l : Fin 4) (x : Launch) (s : State), s.launchOf (96 + l.val) = some x → s.launchRuns (96 + l.val) = true → s.upstream l = false →
    s.linkState l = 2 → Answers (.timebaseExchangeRequest l) s fun t =>
     (t.port l).upper = some t.stamp16 ∧ (t.port l).sent.length = 1 ∧
       t.launchOf (96 + l.val) = (s.tbl.inflight.erase x).find? (fun y => y.target == 96 + l.val) ∧
     ((s.port l).upper.isSome = true → t.flag (Ev.LINK_L_FLAGS_XLOST l) = true) ∧ x.matched + s.launchDelay (96 + l.val) ≤ t.now) ∧
  (∀ (l : Fin 4) (c : Fin 8) (g : Fin 7) (x : Vector (List MdatPeriod) 8) (s : State), s.on (Fd.LINK_STX_CFG_EN l c) = true →
    s.on (Fd.LINK_STX_CFG_KIND l c) = true →
     s.get (Fd.LINK_STX_CFG_SRC l c) = g.val → s.mclkOn g = true → s.linkState l = 2 → (s.port l).loop ≠ 3 →
     (s.port l).evOut.length + (s.port l).respOut.length + (s.port l).strOut.length + (s.port l).replay.length < 48 →
       Answers (.streamRawSend l c g x) s fun t =>
       (t.port l).strOut = [] ∧ (t.port l).rawNext[c] ≤ t.now ∧ ((t.port l).replay.any fun e => decide (e.2.typ = 6 ∧
         e.2.sub = c.val + 8 + 16 * g.val ∧
         (List.finRange 20).all fun i => (List.finRange 8).all fun j => e.2.body.testBit (8 * i.val + j.val) == (s.received (8 * g) x[j]).getD i.val false)) = true) ∧
  (∀ (l : Fin 4) (s : State), s.linkState l = 2 → Answers (.linkClockLoss l) s fun t =>
     t.linkState l = 0 ∧ t.get (Fd.LINK_L_STATUS_CLKOK l) = 0 ∧ t.flag (Ev.LINK_L_FLAGS_DOWN l) = true ∧ (t.port l).replay = []) ∧
  (∀ (l : Fin 4) (x : LaneBits) (s : State), s.linkState l = 2 → (s.port l).loop ≠ 3 → (s.port l).stuffBad x = true →
    Answers (.linkStuffViolation ⟨l, x⟩) s fun t =>
     t.linkState l = 0 ∧ t.flag (Ev.LINK_L_FLAGS_DOWN l) = true ∧ (t.port l).replay = [] ∧ t.now = s.now ∧ t.mem = s.mem) ∧
  (∀ (l : Fin 4) (b : BitVec 2) (i : Fin 2) (s : State), s.on (Fd.LINK_L_PRBS_GEN l) = true → s.on (Fd.LINK_L_PRBS_CHK l) = true →
    (s.port l).loop = 1 → b.getLsbD i.val = true →
     Answers (.prbsInject l b) s fun t =>
       t.rdN (Reg.LINK_L_PRBSERR l i) = min (2 ^ 32 - 1) (s.rdN (Reg.LINK_L_PRBSERR l i) + 1) ∧ t.flag (Ev.LINK_L_FLAGS_PRBSERR l) = true ∧
       (t.port l).injected[i] = (s.port l).injected[i] + 1 ∧ t.mem = s.mem) ∧
  (∀ (l : Fin 4) (v : Word) (s : State), v.getLsbD 2 = true → (s.linkState l = 1 ∨ s.linkState l = 2) →
    Answers (.prbsCfgWrite l v) s fun t =>
     t.flag (Ev.LINK_L_FLAGS_CFGERR l) = true ∧ t.rd (Reg.LINK_L_PRBS l) = s.rd (Reg.LINK_L_PRBS l) ∧ t.linkState l = s.linkState l ∧
       t.link = s.link ∧ t.mem = s.mem) ∧
  (∀ (l : Fin 4) (v : Word) (s : State), v.getLsbD 2 = true → (s.linkState l = 0 ∨ s.linkState l = 3) →
    Answers (.prbsCfgWrite l v) s fun t =>
     t.linkState l = 3 ∧ t.get (Fd.LINK_L_PRBS_PAT l) = cut v.toNat 0 2 ∧ t.get (Fd.LINK_L_PRBS_GEN l) = 1 ∧
       t.get (Fd.LINK_L_PRBS_CHK l) = cut v.toNat 3 1 ∧ t.mem = s.mem)

/-- R397, R398: a CRC-class error is discarded whole with CRCERR, the fourth in a row takes the link down, a duplicate
only counts; R399: a NAK replays the buffer; R402: a read request is answered with the bytes, a write request stores
them and is answered, the answers complete their accesses; R404: an event is held for its time; R409: a stream result
is written as one doubleword, or dropped with STRMOVF; R405: the exchange's three cells; R407: a MARK request is
echoed and an echo gives the round trip. -/
def Obligations.LinkCells : Prop :=
  (∀ (l : Fin 4) (z : LaneBits) (c : BitVec 256) (s : State), s.linkState l = 2 → (s.port l).loop ≠ 3 → (s.port l).lineCell z = some c →
    (s.port l).classError c = true → (s.port l).bad < 3 →
     Answers (.cellCrcClassError l z) s fun t =>
       t.flag (Ev.LINK_L_FLAGS_CRCERR l) = true ∧ t.rd (Reg.LINK_L_CRCCNT l) = s.rd (Reg.LINK_L_CRCCNT l) + 1 ∧
         (t.port l).bad = (s.port l).bad + 1 ∧
       (t.port l).expect = (s.port l).expect ∧ (t.port l).nakAt.isSome = true ∧ (t.port l).ops = (s.port l).ops ∧ t.linkState l = 2 ∧
         t.mem = s.mem) ∧
  (∀ (l : Fin 4) (z : LaneBits) (c : BitVec 256) (s : State), s.linkState l = 2 → (s.port l).loop ≠ 3 → (s.port l).lineCell z = some c →
    (s.port l).classError c = true → (s.port l).bad = 3 →
     Answers (.cellWr l z) s fun t =>
       t.flag (Ev.LINK_L_FLAGS_CRCERR l) = true ∧ t.linkState l = 0 ∧ t.flag (Ev.LINK_L_FLAGS_DOWN l) = true ∧ t.mem = s.mem) ∧
  (∀ (l : Fin 4) (z : LaneBits) (c : BitVec 256) (s : State), s.linkState l = 2 → (s.port l).loop ≠ 3 → (s.port l).lineCell z = some c →
    (s.port l).classError c = false → cellType c = 3 → cellSeq c ≠ (s.port l).expect →
     Answers (.cellWr l z) s fun t =>
       t.flag (Ev.LINK_L_FLAGS_DUP l) = true ∧ t.rd (Reg.LINK_L_DUPCNT l) = s.rd (Reg.LINK_L_DUPCNT l) + 1 ∧
         (t.port l).expect = (s.port l).expect ∧
       (t.port l).bad = 0 ∧ t.mem = s.mem) ∧
  (∀ (l : Fin 4) (z : LaneBits) (c : BitVec 256) (s : State), s.linkState l = 2 → (s.port l).loop ≠ 3 → (s.port l).lineCell z = some c →
    (s.port l).classError c = false → cellType c = 0 → cellCtl c 22 2 = 0 →
     Answers (.cellIdle l z) s fun t =>
       (t.port l).bad = 0 ∧ t.get (Fd.LINK_L_STATUS_CRED l) = min 16 (s.get (Fd.LINK_L_STATUS_CRED l) + cellCtl c 18 4) ∧
         t.linkState l = 2 ∧
       (t.port l).expect = (s.port l).expect ∧ SameRegistersBut [Reg.LINK_L_STATUS l] s t ∧ t.mem = s.mem) ∧
  (∀ (l : Fin 4) (z : LaneBits) (c : BitVec 256) (s : State), s.linkState l = 2 → (s.port l).loop ≠ 3 → (s.port l).lineCell z = some c →
    (s.port l).classError c = false → cellType c = 0 → cellCtl c 22 2 = 1 →
     (s.port l).replay ≠ [] → (s.port l).rounds < 7 → Answers (.cellIdle l z) s fun t =>
       t.flag (Ev.LINK_L_FLAGS_REPLAY l) = true ∧ t.rd (Reg.LINK_L_REPLAYCNT l) = s.rd (Reg.LINK_L_REPLAYCNT l) + 1 ∧
       (s.port l).replay.length ≤ (t.port l).sent.length ∧ t.linkState l = 2 ∧ t.mem = s.mem) ∧
  (∀ (l : Fin 4) (z : LaneBits) (c : BitVec 256) (i : Fin 8) (s : State), s.linkState l = 2 → (s.port l).loop ≠ 3 →
    (s.port l).lineCell z = some c → (s.port l).classError c = false → cellType c = 3 → cellSeq c = (s.port l).expect →
     region (cellBody c 160 32) = .sram → (cellBody c 152 8 = 1 ∨ cellBody c 152 8 = 2 ∨ cellBody c 152 8 = 4 ∨ cellBody c 152 8 = 8) →
     cellBody c 160 32 % cellBody c 152 8 = 0 → i.val < cellBody c 152 8 → (s.port l).reqIn = [] → s.tagFree (7 + l.val) = true →
       Answers (.cellWr l z) s fun t =>
       Memory.read t.mem (cellBody c 160 32 + i.val) = BitVec.ofNat 8 (cellBody c (8 * i.val) 8) ∧
         SameMemoryBut (cellBody c 160 32) (cellBody c 152 8) s t ∧
       (t.linkState l = 2 → (t.port l).expect = ((s.port l).expect + 1) % 256 ∧ (t.port l).bad = 0)) ∧
  (∀ (l : Fin 4) (z : LaneBits) (c : BitVec 256) (s : State), s.linkState l = 2 → (s.port l).loop ≠ 3 → (s.port l).lineCell z = some c →
    (s.port l).classError c = false → cellType c = 1 → cellSeq c = (s.port l).expect →
     cellCtl c 22 2 = 0 → region (cellBody c 160 32) = .sram →
       (cellBody c 152 8 = 1 ∨ cellBody c 152 8 = 2 ∨ cellBody c 152 8 = 4 ∨ cellBody c 152 8 = 8) →
     cellBody c 160 32 % cellBody c 152 8 = 0 → s.eccBad (cellBody c 160 32) = false →
     (s.port l).evOut.length + (s.port l).respOut.length + (s.port l).strOut.length + (s.port l).replay.length < 48 →
       (s.port l).reqIn = [] → s.tagFree (7 + l.val) = true → Answers (.cellRdreq l z) s fun t =>
       (∃ e ∈ (t.port l).replay, e.2.typ = 2 ∧ e.2.sub = cellSub c % 64 ∧ e.2.body = s.memRd (cellBody c 160 32) (cellBody c 152 8)) ∧
       (t.port l).expect = ((s.port l).expect + 1) % 256 ∧ t.linkState l = 2 ∧ t.mem = s.mem) ∧
  (∀ (l : Fin 4) (z : LaneBits) (c : BitVec 256) (o : RemoteOp) (r : List RemoteOp) (s : State), s.linkState l = 2 → (s.port l).loop ≠ 3 →
    (s.port l).lineCell z = some c → (s.port l).classError c = false → cellType c = 2 →
     cellSeq c = (s.port l).expect → cellCtl c 22 2 = 0 → (s.port l).ops = o :: r → o.stage = .sent (cellSub c) → o.data = none →
       Answers (.cellRdresp l z) s fun t =>
       (t.port l).ops.head? = some { o with stage := .done (cellBody c 184 8 == 0) (if cellBody c 184 8 = 0 then cellBody c 0 128 % 2 ^ (8 * o.size) else 0) } ∧
       (t.port l).expect = ((s.port l).expect + 1) % 256 ∧ t.mem = s.mem) ∧
  (∀ (l : Fin 4) (z : LaneBits) (c : BitVec 256) (o : RemoteOp) (r : List RemoteOp) (n : Nat) (s : State), s.linkState l = 2 →
    (s.port l).loop ≠ 3 → (s.port l).lineCell z = some c → (s.port l).classError c = false → cellType c = 4 →
     cellSeq c = (s.port l).expect → cellCtl c 22 2 = 0 → (s.port l).ops = o :: r → o.stage = .sent n → o.data.isSome = true →
       cellSub c = 1 → Answers (.cellWrcmp l z) s fun t =>
       (t.port l).ops = { o with stage := .done (decide (cellBody c 184 8 = 0 ∨ cellBody c 176 8 ≠ 0)) 0 } :: r ∧ t.mem = s.mem) ∧
  (∀ (l : Fin 4) (z : LaneBits) (c : BitVec 256) (s : State), s.linkState l = 2 → (s.port l).loop ≠ 3 → (s.port l).lineCell z = some c →
    (s.port l).classError c = false → cellType c = 5 →
     cellSeq c = (s.port l).expect → cellCtl c 22 2 = 0 → s.tbl.count < 2 ^ 31 → cellBody c 160 32 < 2 ^ 31 →
       Answers (.cellEvent l z) s fun t =>
       t.tbl.fwdIn = s.tbl.fwdIn ++ [⟨24 + 8 * l.val + cellSub c % 8, cellBody c 160 32 + s.get (Fd.TBL_LFWDDLY_DLY l), decide (cellBody c 160 32 + s.get (Fd.TBL_LFWDDLY_DLY l) < s.tbl.count)⟩] ∧
       (cellBody c 160 32 + s.get (Fd.TBL_LFWDDLY_DLY l) < s.tbl.count → t.flag Ev.TBL_STATUS_LFWDLATE = true) ∧ t.mem = s.mem) ∧
  (∀ (l : Fin 4) (z : LaneBits) (c : BitVec 256) (k : Fin 8) (s : State), s.linkState l = 2 → (s.port l).loop ≠ 3 →
    (s.port l).lineCell z = some c → (s.port l).classError c = false → cellType c = 6 →
     cellSeq c = (s.port l).expect → cellCtl c 22 2 = 0 → cellSub c % 16 = k.val → s.on (Fd.LINK_SRX_CFG_EN l k) = true →
       (s.port l).strIn = [] → s.tagFree (7 + l.val) = true → Answers (.cellStream l z.lane0 z.lane1) s fun t =>
       t.memRd (0x24010000 + 0x40000 * s.get (Fd.LINK_SRX_CFG_RK l k) + s.get (Fd.LINK_SRX_BASE_ADDR l k) % 2 ^ 16 / 8 * 8) 4 = cellBody c 160 32 ∧
       SameMemoryBut (0x24010000 + 0x40000 * s.get (Fd.LINK_SRX_CFG_RK l k) + s.get (Fd.LINK_SRX_BASE_ADDR l k) % 2 ^ 16 / 8 * 8) 8 s t ∧
       t.rd (Reg.LINK_SRX_CNT l k) = s.rd (Reg.LINK_SRX_CNT l k) + 1) ∧
  (∀ (l : Fin 4) (z : LaneBits) (c : BitVec 256) (k : Fin 8) (s : State), s.linkState l = 2 → (s.port l).loop ≠ 3 →
    (s.port l).lineCell z = some c → (s.port l).classError c = false → cellType c = 6 →
     cellSeq c = (s.port l).expect → cellCtl c 22 2 = 0 → cellSub c % 8 = k.val → s.on (Fd.LINK_SRX_CFG_EN l k) = true →
       16 ≤ (s.port l).strIn.length → s.tagFree (7 + l.val) = false → Answers (.cellStream l z.lane0 z.lane1) s fun t =>
       t.flag (Ev.LINK_L_FLAGS_STRMOVF l) = true ∧ t.rd (Reg.LINK_SRX_CNT l k) = s.rd (Reg.LINK_SRX_CNT l k) + 1 ∧ t.mem = s.mem) ∧
  (∀ (l : Fin 4) (z : LaneBits) (c : BitVec 256) (s : State), s.linkState l = 2 → (s.port l).loop ≠ 3 → (s.port l).lineCell z = some c →
    (s.port l).classError c = false → cellType c = 7 → cellSub c % 4 = 0 →
     cellCtl c 22 2 = 0 → s.upstream l = true → Answers (.cellTbxReq l z) s fun t =>
       (t.port l).lower = some (s.stamp16, s.stamp16) ∧ ((t.port l).sent.any fun x => decide (cellType x = 7 ∧ cellSub x = 1 ∧
         cellBody x 128 64 = s.stamp16 % 2 ^ 64 ∧ cellBody x 64 64 = s.stamp16 % 2 ^ 64)) = true ∧
       ((s.port l).lower.isSome = true → t.flag (Ev.LINK_L_FLAGS_XLOST l) = true) ∧ t.mem = s.mem) ∧
  (∀ (l : Fin 4) (z : LaneBits) (c : BitVec 256) (x : Nat) (s : State), s.linkState l = 2 → (s.port l).loop ≠ 3 →
    (s.port l).lineCell z = some c → (s.port l).classError c = false → cellType c = 7 → cellSub c % 4 = 1 →
     cellCtl c 22 2 = 0 → (s.port l).upper = some x → x < 2 ^ 64 → Answers (.cellTbxResp l z) s fun t =>
       (t.port l).upper = none ∧ ((t.port l).sent.any fun y => decide (cellType y = 7 ∧ cellSub y = 2 ∧ cellBody y 128 64 = x ∧
         cellBody y 64 64 = s.stamp16 ∧ cellBody y 32 32 = s.rdN Reg.TBL_ADDFRAC)) = true ∧ t.mem = s.mem) ∧
  (∀ (l : Fin 4) (z : LaneBits) (c : BitVec 256) (x y : Nat) (s : State), s.linkState l = 2 → (s.port l).loop ≠ 3 →
    (s.port l).lineCell z = some c → (s.port l).classError c = false → cellType c = 7 → cellSub c % 4 = 2 →
     cellCtl c 22 2 = 0 → s.upstream l = true → (s.port l).lower = some (x, y) → Answers (.cellTbxFin l z) s fun t =>
       (t.port l).lower = none ∧ t.rdN Reg.TBL_ADDFRAC = enc 32 (clampFrac (sx 32 (cellBody c 32 32))) ∧ t.mem = s.mem) ∧
  (∀ (l : Fin 4) (z : LaneBits) (c : BitVec 256) (s : State), (s.linkState l = 1 ∨ s.linkState l = 2) → (s.port l).loop ≠ 3 →
    (s.port l).lineCell z = some c → (s.port l).classError c = false → cellType c = 8 → cellSub c = 0 →
     cellCtl c 22 2 = 0 → Answers (.cellMarkRequest l z) s fun t =>
       ((t.port l).sent.any fun y => decide (cellType y = 8 ∧ cellSub y = 1)) = true ∧ t.linkState l = s.linkState l ∧ t.mem = s.mem) ∧
  (∀ (l : Fin 4) (z : LaneBits) (c : BitVec 256) (v : Word) (s : State), (s.linkState l = 1 ∨ s.linkState l = 2) → (s.port l).loop ≠ 3 →
    (s.port l).lineCell z = some c → (s.port l).classError c = false → cellType c = 8 → cellSub c = 1 →
     cellCtl c 22 2 = 0 → (s.port l).marks < 16 → Answers (.cellMarkEcho l z v) s fun t =>
       (s.linkState l = 1 → (t.port l).marks = (s.port l).marks + 1 ∧ (t.port l).markMax = max (s.port l).markMax v.toNat) ∧
       (s.linkState l = 2 → t.mon = (s.monPost 4 l.val (roundLatency ((v.toNat + 15) / 16 : Nat)) s.tbl.count).mon) ∧
         t.linkState l = s.linkState l ∧ t.mem = s.mem)

/-- R391, R392, R393: what a transmitter puts on the two lanes for a cell is read back as that cell by a receiver whose
runs stand where the transmitter's do; a lane never carries more than 30 identical bits in a row; a half-cell carries
at most 5 stuffed bits; and the first eight values of the scrambler's output on lane 0 are 0, 0, 1, 0, 0, 0, 1, 0. -/
def Obligations.LaneCodingRoundTrip : Prop :=
  (∀ (c : BitVec 256) (p : LinkPort), p.rxRun[0].n < 30 → p.rxRun[1].n < 30 →
     p.lineCell ⟨(laneSend c 0 p.rxRun[0]).1, (laneSend c 1 p.rxRun[1]).1⟩ = some c) ∧
  (∀ (b : Bool) (l : List Bool), ¬ (List.replicate 31 b) <:+: (stuff {} l).1) ∧
  (∀ (r : LineRun) (l : List Bool), r.n < 30 → l.length ≤ 128 → (stuff r l).1.length ≤ l.length + 5) ∧
  (scramble (laneSeed 0) (List.replicate 8 false) = [false, false, true, false, false, false, true, false])

/-- R419, R420: a good frame for this port is written to the next descriptor's buffer, a damaged one dropped with FRMERR,
one without a descriptor dropped with RXEMPTY; a kick fetches the next descriptor, and a sent frame's descriptor is
written back; R421: a change of redundancy mode with a port enabled is refused; R422, R424, R426: an old duplicate
entry, an old Sync and a filter's supervision run out; R427: a publisher's frame is built, lost with SVOVR behind
another, and sent; R418: the in-band status shows. -/
def Obligations.EthernetPorts : Prop :=
  (∀ (p : Fin 2) (l : List Byte) (w : Word) (i : Nat) (s : State), s.portLive p = true → s.on (Fd.ETH_P_CTRL_RXEN p) = true →
    s.tagFree 11 = true → s.get Fd.ETH_CFG_REDMODE = 0 →
     60 ≤ l.length → l.length ≤ 1532 → l.length ≤ s.get (Fd.ETH_P_RXBUFSZ_SIZE p) → s.on (Fd.ETH_P_CTRL_PROMISC p) = true →
     beAt (l.map BitVec.toNat) (typeAt (l.map BitVec.toNat)) 2 ≠ 0x8808 →
       beAt (l.map BitVec.toNat) (typeAt (l.map BitVec.toNat)) 2 ≠ 0x88B8 →
     beAt (l.map BitVec.toNat) (typeAt (l.map BitVec.toNat)) 2 ≠ 0x88F7 →
     2 ^ 31 ≤ s.memRd (s.rdN (Reg.ETH_P_RXBASE p) / 16 * 16 + 16 * s.get (Fd.ETH_P_RXIDX_IDX p)) 4 →
     inSram (s.memRd (s.rdN (Reg.ETH_P_RXBASE p) / 16 * 16 + 16 * s.get (Fd.ETH_P_RXIDX_IDX p) + 4) 4) l.length = true →
     (s.memRd (s.rdN (Reg.ETH_P_RXBASE p) / 16 * 16 + 16 * s.get (Fd.ETH_P_RXIDX_IDX p) + 4) 4 + l.length ≤ s.rdN (Reg.ETH_P_RXBASE p) / 16 * 16 + 16 * s.get (Fd.ETH_P_RXIDX_IDX p) ∨
      s.rdN (Reg.ETH_P_RXBASE p) / 16 * 16 + 16 * s.get (Fd.ETH_P_RXIDX_IDX p) + 16 ≤ s.memRd (s.rdN (Reg.ETH_P_RXBASE p) / 16 * 16 + 16 * s.get (Fd.ETH_P_RXIDX_IDX p) + 4) 4) →
     i < l.length → Answers (.ethFrameReceive p l false w) s fun t =>
       Memory.read t.mem (s.memRd (s.rdN (Reg.ETH_P_RXBASE p) / 16 * 16 + 16 * s.get (Fd.ETH_P_RXIDX_IDX p) + 4) 4 + i) = l.getD i 0 ∧
       t.memRd (s.rdN (Reg.ETH_P_RXBASE p) / 16 * 16 + 16 * s.get (Fd.ETH_P_RXIDX_IDX p)) 4 = l.length + p.val * 2 ^ 17 ∧
       t.get (Fd.ETH_P_RXIDX_IDX p) = (s.get (Fd.ETH_P_RXIDX_IDX p) + 1) % max 1 (s.get (Fd.ETH_P_RXCNT_COUNT p)) % 2 ^ (Fd.ETH_P_RXIDX_IDX p).w ∧
       t.rd (Reg.ETH_P_RXFRM p) = s.rd (Reg.ETH_P_RXFRM p) + 1 ∧ t.flag (if p = 0 then Ev.ETH_FLAGS_RXD0 else Ev.ETH_FLAGS_RXD1) = true ∧
         t.now = s.now) ∧
  (∀ (p : Fin 2) (l : List Byte) (b : Bool) (w : Word) (s : State), s.portLive p = true → s.on (Fd.ETH_P_CTRL_RXEN p) = true →
    s.tagFree 11 = true → (b = true ∨ l.length < 60 ∨ 1532 < l.length) →
     Answers (.ethFrameReceive p l b w) s fun t =>
       t.rd (Reg.ETH_P_RXDROP p) = s.rd (Reg.ETH_P_RXDROP p) + 1 ∧ t.flag Ev.ETH_FLAGS_FRMERR = true ∧
       SameRegistersBut [Reg.ETH_P_RXDROP p, Reg.ETH_FLAGS, Ev.ETH_FLAGS_FRMERR.cnt] s t ∧ t.mem = s.mem) ∧
  (∀ (p : Fin 2) (l : List Byte) (w : Word) (s : State), s.portLive p = true → s.on (Fd.ETH_P_CTRL_RXEN p) = true → s.tagFree 11 = true →
    s.get Fd.ETH_CFG_REDMODE = 0 →
     60 ≤ l.length → l.length ≤ 1532 → l.length ≤ s.get (Fd.ETH_P_RXBUFSZ_SIZE p) → s.on (Fd.ETH_P_CTRL_PROMISC p) = true →
     beAt (l.map BitVec.toNat) (typeAt (l.map BitVec.toNat)) 2 ≠ 0x8808 →
       beAt (l.map BitVec.toNat) (typeAt (l.map BitVec.toNat)) 2 ≠ 0x88B8 →
     beAt (l.map BitVec.toNat) (typeAt (l.map BitVec.toNat)) 2 ≠ 0x88F7 →
     s.memRd (s.rdN (Reg.ETH_P_RXBASE p) / 16 * 16 + 16 * s.get (Fd.ETH_P_RXIDX_IDX p)) 4 < 2 ^ 31 →
       Answers (.ethFrameReceive p l false w) s fun t =>
       t.rd (Reg.ETH_P_RXDROP p) = s.rd (Reg.ETH_P_RXDROP p) + 1 ∧
         t.flag (if p = 0 then Ev.ETH_FLAGS_RXEMPTY0 else Ev.ETH_FLAGS_RXEMPTY1) = true ∧
       t.rd (Reg.ETH_P_RXFRM p) = s.rd (Reg.ETH_P_RXFRM p) ∧ t.mem = s.mem) ∧
  (∀ (p : Fin 2) (s : State), s.portLive p = true → s.on (Fd.ETH_P_CTRL_TXEN p) = true → s.eth.sending[p] = false →
    s.get Fd.ETH_CFG_REDMODE = 0 → s.tagFree 11 = true → Answers (.ethTxKick p) s fun t =>
     t.eth.sending[p] = (s.memRd (s.rdN (Reg.ETH_P_TXBASE p) / 16 * 16 + 16 * s.get (Fd.ETH_P_TXIDX_IDX p)) 4).testBit 31 ∧
     t.regs = s.regs ∧ t.mem = s.mem) ∧
  (∀ (p : Fin 2) (s : State), s.portLive p = true → s.eth.sending[p] = true → s.eth.svFirst[p] = false → s.tagFree 11 = true →
    s.on (Fd.ETH_P_CTRL_TXEN p) = true → s.get Fd.ETH_CFG_REDMODE = 0 →
     (s.memRd (s.rdN (Reg.ETH_P_TXBASE p) / 16 * 16 + 16 * s.get (Fd.ETH_P_TXIDX_IDX p)) 4).testBit 16 = false →
       Answers (.ethTxComplete p) s fun t =>
       t.eth.sent = [(p.val, s.memList (s.memRd (s.rdN (Reg.ETH_P_TXBASE p) / 16 * 16 + 16 * s.get (Fd.ETH_P_TXIDX_IDX p) + 4) 4)
         (s.memRd (s.rdN (Reg.ETH_P_TXBASE p) / 16 * 16 + 16 * s.get (Fd.ETH_P_TXIDX_IDX p)) 4 % 65536))] ∧
       (t.memRd (s.rdN (Reg.ETH_P_TXBASE p) / 16 * 16 + 16 * s.get (Fd.ETH_P_TXIDX_IDX p)) 4).testBit 31 = false ∧
       SameMemoryBut (s.rdN (Reg.ETH_P_TXBASE p) / 16 * 16 + 16 * s.get (Fd.ETH_P_TXIDX_IDX p)) 4 s t ∧
       t.rd (Reg.ETH_P_TXFRM p) = s.rd (Reg.ETH_P_TXFRM p) + 1 ∧ t.flag (if p = 0 then Ev.ETH_FLAGS_TXD0 else Ev.ETH_FLAGS_TXD1) = true) ∧
  (∀ (v : Word) (s : State), (cut v.toNat 0 2 = 3 ∨ cut v.toNat 0 2 ≠ s.get Fd.ETH_CFG_REDMODE ∧
    (s.on (Fd.ETH_P_CTRL_EN 0) = true ∨ s.on (Fd.ETH_P_CTRL_EN 1) = true)) →
     Answers (.ethCfgWrite v) s fun t => t.flag Ev.ETH_FLAGS_CFGERR = true ∧ t.rd Reg.ETH_CFG = s.rd Reg.ETH_CFG ∧ t.eth = s.eth ∧
       t.mem = s.mem) ∧
  (∀ (v : Word) (s : State), cut v.toNat 0 2 ≠ 3 → s.on (Fd.ETH_P_CTRL_EN 0) = false → s.on (Fd.ETH_P_CTRL_EN 1) = false →
     Answers (.ethCfgWrite v) s fun t =>
       t.get Fd.ETH_CFG_REDMODE = cut v.toNat 0 2 ∧ t.get Fd.ETH_CFG_FORGET = cut v.toNat 16 16 ∧ SameRegistersBut [Reg.ETH_CFG] s t ∧
         t.mem = s.mem) ∧
  (∀ (d : DupEntry) (l : List DupEntry) (s : State), s.eth.offAt = none → s.eth.dups = d :: l → Answers .dupEntryAge s fun t =>
     d ∉ t.eth.dups ∧ (∀ x ∈ t.eth.dups, x ∈ l) ∧ d.time + s.forget < t.now ∧ SameRegistersBut [Reg.ETH_DUPFILL] s t ∧ t.mem = s.mem) ∧
  (∀ (k : Fin 32) (x : Nat) (s : State), s.eth.offAt = none → s.eth.tal[k] = some x → Answers (.gooseTalExpire k) s fun t =>
     t.get (Fd.ETH_GF_CFG_ALIVE k) = 0 ∧ t.get (Fd.ETH_GF_CFG_TALREM k) = 0 ∧ t.flag Ev.ETH_FLAGS_GTAL = true ∧ t.eth.tal[k] = none ∧
       x ≤ t.now ∧ t.mem = s.mem) ∧
  (∀ (r : Residence) (l : List Residence) (s : State), s.eth.offAt = none → s.eth.residence = r :: l →
    Answers .ptpResidenceTimeout s fun t =>
     t.eth.residence = l ∧ t.flag Ev.ETH_FLAGS_FRMERR = true ∧ r.time + 100 * tMs ≤ t.now ∧ t.mem = s.mem) ∧
  (∀ (n : Fin 2) (l : Launch) (s : State), s.launchOf (94 + n.val) = some l → s.launchRuns (94 + n.val) = true →
    s.on (Fd.ETH_SV_CFG_EN n) = true → s.eth.sv[n] = none → Answers (.svPublishRequest n) s fun t =>
     t.eth.sv[n] = some (t.svFrame n l.exact) ∧ t.launchOf (94 + n.val) = (s.tbl.inflight.erase l).find? (fun y => y.target == 94 + n.val) ∧
       l.matched + 336 ≤ t.now) ∧
  (∀ (n : Fin 2) (l : Launch) (f : List Nat) (s : State), s.launchOf (94 + n.val) = some l → s.launchRuns (94 + n.val) = true →
    s.on (Fd.ETH_SV_CFG_EN n) = true → s.eth.sv[n] = some f → Answers (.svPublishRequest n) s fun t =>
     t.flag (if n = 0 then Ev.ETH_FLAGS_SVOVR0 else Ev.ETH_FLAGS_SVOVR1) = true ∧ t.eth.sv = s.eth.sv ∧
       t.launchOf (94 + n.val) = (s.tbl.inflight.erase l).find? (fun y => y.target == 94 + n.val)) ∧
  (∀ (n : Fin 2) (f : List Nat) (s : State), s.eth.sv[n] = some f → s.get Fd.ETH_CFG_REDMODE = 0 →
    s.portLive (Fin.ofNat 2 (s.get (Fd.ETH_SV_CFG_PORT n))) = true →
     s.on (Fd.ETH_P_CTRL_TXEN (s.get (Fd.ETH_SV_CFG_PORT n))) = true → (n = 0 ∨ s.eth.sv[0] = none) → Answers (.svFrameSend n) s fun t =>
       t.eth.sent = [(s.get (Fd.ETH_SV_CFG_PORT n), f)] ∧ t.eth.sv[n] = none ∧ t.rd (Reg.ETH_SV_SENT n) = s.rd (Reg.ETH_SV_SENT n) + 1 ∧
         t.mem = s.mem) ∧
  (∀ (p : Fin 2) (b : Bool) (x : Fin 4) (s : State), Answers (.rgmiiInbandStatus p b x) s fun t =>
     t.get (if p = 0 then Fd.ETH_STATUS_LINK0 else Fd.ETH_STATUS_LINK1) = b.toNat ∧
       t.get (if p = 0 then Fd.ETH_STATUS_SPEED0 else Fd.ETH_STATUS_SPEED1) = x.val ∧
     SameRegistersBut [Reg.ETH_STATUS] s t ∧ t.now = s.now ∧ t.mem = s.mem)

/-- R435, R436: the boot sequence enters the chosen slot or recovery, and a good ST1 entry releases ST1; R438–R441: a SEC
command starts with BUSY or is refused, REBOOT warns of cause 5, a finished command writes its outputs with DONE, and
a TRNG word is a free value (log entry 1) or 0 with TRNGERR; R443–R449: a commit opens with the live words, is staged,
requested, digested, approved by key or physically, checked, cancelled, timed out, switched over and made durable, and
the live sets are restored at reset. -/
def Obligations.SecurityAndConsent : Prop :=
  (∀ s : State, s.sec.booted = false → s.on (Fd.SYSCFG_ST_STATUS_RUN 0) = true → s.on Fd.CONSENT_STATUS_RESTORING = false →
     (Answers (.bootRomSequence false) s fun t => t.flag Ev.SEC_FLAGS_OTPERR = true ∧ t.get Fd.SEC_STATUS_RECOV = 1 ∧
       t.get Fd.SYSCFG_HOSTCTL_EN = 1 ∧ t.sec.booted = true ∧ t.cpu = s.cpu ∧ t.mem = s.mem) ∧
     (Answers (.bootRomSequence true) s fun t => t.sec.booted = true ∧ t.mem = s.mem ∧
       (s.bootSlot = none → t.get Fd.SEC_STATUS_RECOV = 1 ∧ t.get Fd.SYSCFG_HOSTCTL_EN = 1 ∧ t.cpu = s.cpu) ∧
       (∀ b : Bool, s.bootSlot = some b → t.get Fd.SEC_STATUS_ROMEXIT = 1 ∧ t.get Fd.SEC_STATUS_SLOT = b.toNat ∧
         t.rdN Reg.SEC_VERSION = s.imgWord b 4 % 2 ^ 32 ∧
         t.cpu[4].pc = BitVec.ofNat 32 (slotBase b + s.imgWord b 12) ∧
           t.get Fd.SEC_STATUS_DBGOPEN = (!s.sec.otp.dbglock || s.imgWord b 16 % 2 == 1).toNat))) ∧
  (∀ (v : Word) (s : State), s.sec.st1Waits = true → s.on (Fd.SYSCFG_ST_STATUS_RUN 1) = true → v ≠ 0 → v.toNat % 4 = 0 →
    Answers (.st1Entry v) s fun t =>
     t.cpu[5].pc = v ∧ t.rd Reg.SEC_ST1ENTRY = v ∧ t.sec.st1Waits = false ∧ SameRegistersBut [Reg.SEC_ST1ENTRY] s t ∧ t.mem = s.mem) ∧
  (∀ s : State, s.on Fd.SEC_STATUS_BUSY = true →
     (Answers .secHash s fun t => t.flag Ev.SEC_FLAGS_REFUSED = true ∧ t.sec = s.sec ∧ t.mem = s.mem) ∧
       (Answers .secVerify s fun t => t.flag Ev.SEC_FLAGS_REFUSED = true ∧ t.sec = s.sec ∧ t.mem = s.mem) ∧
     (Answers .secAttest s fun t => t.flag Ev.SEC_FLAGS_REFUSED = true ∧ t.sec = s.sec ∧ t.mem = s.mem) ∧
       (Answers .secReboot s fun t => t.flag Ev.SEC_FLAGS_REFUSED = true ∧ t.pmu = s.pmu ∧ t.mem = s.mem)) ∧
  (∀ s : State, s.on Fd.SEC_STATUS_BUSY = false → s.consentWants = false → hashable (s.rdN Reg.SEC_HADDR) (s.rdN Reg.SEC_HLEN) = true →
    Answers .secHash s fun t =>
     t.get Fd.SEC_STATUS_BUSY = 1 ∧ t.sec.run = some { outs := wordsTo (Reg.SEC_BUF 0) (sha512 (s.bytesAt (s.rdN Reg.SEC_HADDR) (s.rdN Reg.SEC_HLEN))) } ∧
     SameRegistersBut [Reg.SEC_STATUS] s t ∧ t.mem = s.mem) ∧
  (∀ s : State, s.on Fd.SEC_STATUS_BUSY = false → s.consentWants = false →
     (Answers .secVerify s fun t => t.get Fd.SEC_STATUS_BUSY = 1 ∧
       t.sec.run = some { outs := [], pass := some (edVerify (s.regBytes (Reg.SEC_BUF 0) 8) (s.regBytes (Reg.SEC_BUF 8) 16) (s.regBytes (Reg.SEC_BUF 24) 16)) } ∧
       SameRegistersBut [Reg.SEC_STATUS] s t ∧ t.mem = s.mem) ∧
     (Answers .secAttest s fun t => t.get Fd.SEC_STATUS_BUSY = 1 ∧
       t.sec.run = some { outs := wordsTo (Reg.SEC_BUF 0) (s.attestBody ++ edSign idSeedBytes s.attestBody) } ∧
       SameRegistersBut [Reg.SEC_STATUS] s t ∧ t.mem = s.mem) ∧
     (Answers .secAppsign s fun t => t.get Fd.SEC_STATUS_BUSY = 1 ∧
       t.sec.run = some { outs := wordsTo (Reg.SEC_BUF 16) (edSign s.appSeed (s.regBytes (Reg.SEC_BUF 0) 16)) } ∧
       SameRegistersBut [Reg.SEC_STATUS] s t ∧ t.mem = s.mem) ∧
     (Answers .secDbgclose s fun t => t.get Fd.SEC_STATUS_BUSY = 1 ∧
       t.sec.run = some { outs := [], otp := some { s.sec.otp with dbglock := true } } ∧
       SameRegistersBut [Reg.SEC_STATUS] s t ∧ t.mem = s.mem)) ∧
  (∀ s : State, s.on Fd.SEC_STATUS_BUSY = false → s.consentWants = false →
    (s.slotValid (s.get Fd.SEC_STATUS_SLOT == 0) && decide (s.imgWord (s.get Fd.SEC_STATUS_SLOT == 0) 4 < s.rdN Reg.SEC_VERSION)) = false →
     Answers .secRolladv s fun t =>
       t.get Fd.SEC_STATUS_BUSY = 1 ∧ t.sec.run = some { outs := [], otp := some { s.sec.otp with rollback := max s.sec.otp.rollback (min 255 (s.rdN Reg.SEC_VERSION)) } } ∧
       SameRegistersBut [Reg.SEC_STATUS] s t ∧ t.mem = s.mem) ∧
  (∀ s : State, s.on Fd.SEC_STATUS_BUSY = false → s.consentWants = false → s.sec.otp.okh = 0 → Answers .secOtpowner s fun t =>
     t.get Fd.SEC_STATUS_BUSY = 1 ∧ t.sec.run = some { outs := [], otp := some { s.sec.otp with okh := BitVec.ofNat 512 (fromLE (s.regBytes (Reg.SEC_BUF 0) 16)) } } ∧
     SameRegistersBut [Reg.SEC_STATUS] s t ∧ t.mem = s.mem) ∧
  (∀ s : State, s.on Fd.SEC_STATUS_BUSY = false → s.consentWants = false → s.sec.otp.okh ≠ 0 →
    Answers .secOtpowner s fun t => t.flag Ev.SEC_FLAGS_REFUSED = true ∧ t.sec = s.sec ∧ t.mem = s.mem) ∧
  (∀ s : State, s.on Fd.SEC_STATUS_BUSY = false → s.consentWants = true → s.sec.run = none →
     (Answers .secVerify s fun t => t.get Fd.SEC_STATUS_BUSY = 1 ∧ t.sec.waiting = some 2 ∧ t.sec.run = none ∧
       SameRegistersBut [Reg.SEC_STATUS] s t ∧ t.mem = s.mem) ∧
     (Answers .secAttest s fun t => t.get Fd.SEC_STATUS_BUSY = 1 ∧ t.sec.waiting = some 3 ∧ t.sec.run = none ∧
       SameRegistersBut [Reg.SEC_STATUS] s t ∧ t.mem = s.mem)) ∧
  (∀ (i : Fin 16) (s : State), s.consent.digesting = true → s.sec.run = none → s.sec.waiting = some 2 → s.consState ≠ 3 →
    Answers .consentDigestDone s fun t =>
     t.consent.digesting = false ∧ t.sec.waiting = none ∧ t.get Fd.SEC_STATUS_BUSY = 1 ∧ t.sec.run.isSome = true ∧ t.mem = s.mem) ∧
  (∀ s : State, s.on Fd.SEC_STATUS_BUSY = false → s.pmu.warned = false → s.pmu.clocksOff = false → Answers .secReboot s fun t =>
     t.pmu.warned = true ∧ t.get Fd.PMU_RSTINFO_CAUSE = 5 ∧ t.get Fd.PMU_STATUS_PFW = 1) ∧
  (∀ (l : List Nat) (i : Fin 16) (s : State), l.length = 64 → s.sec.run = some { outs := wordsTo (Reg.SEC_BUF 0) l } →
    Answers .secCommandDone s fun t =>
     t.rdN (Reg.SEC_BUF i) = fromLE ((l.drop (4 * i.val)).take 4) % 2 ^ 32 ∧ t.get Fd.SEC_STATUS_BUSY = 0 ∧
       t.flag Ev.SEC_FLAGS_DONE = true ∧ t.sec.run = none ∧ t.sec.otp = s.sec.otp ∧ t.mem = s.mem) ∧
  (∀ s : State, (Answers (.trngRead true) s fun t => t.free = s.free + 1 ∧ t.rdata = BitVec.ofNat 72 (Config.freeWord s.free).toNat ∧
    t.regs = s.regs ∧ t.mem = s.mem) ∧
     (Answers (.trngRead false) s fun t => t.rdata = 0 ∧ t.flag Ev.SEC_FLAGS_TRNGERR = true ∧ t.free = s.free ∧ t.mem = s.mem)) ∧
  (∀ (n : BitVec 3) (i : Fin 1024) (s : State), s.consState = 0 → n.toNat ≤ 4 → i.val < (setRegs n.toNat).length →
    Answers (.consentOpen n) s fun t =>
     t.consState = 1 ∧ t.get Fd.CONSENT_STATUS_SETID = n.toNat ∧ t.rdN (Reg.CONSENT_STAGE i) = s.liveView n.toNat i % 2 ^ 32 ∧
       t.mem = s.mem) ∧
  (∀ (n : BitVec 3) (s : State), (s.consState ≠ 0 ∨ 4 < n.toNat) → Answers (.consentOpen n) s fun t =>
     t.flag Ev.CONSENT_FLAGS_REFUSED = true ∧ t.consState = s.consState ∧ t.consent = s.consent ∧ t.mem = s.mem) ∧
  (∀ (i : BitVec 10) (v : Word) (s : State), s.consState = 1 → i.toNat < (setRegs s.consSet).length →
    Answers (.consentStagingWrite i v) s fun t =>
     t.rd (Reg.CONSENT_STAGE i.toNat) = v ∧ SameRegistersBut [Reg.CONSENT_STAGE i.toNat] s t ∧ t.mem = s.mem) ∧
  (∀ (i : BitVec 10) (v : Word) (s : State), (s.consState ≠ 1 ∨ (setRegs s.consSet).length ≤ i.toNat) →
    Answers (.consentStagingWrite i v) s fun t =>
     t.flag Ev.CONSENT_FLAGS_REFUSED = true ∧ t.rd (Reg.CONSENT_STAGE i.toNat) = s.rd (Reg.CONSENT_STAGE i.toNat) ∧ t.mem = s.mem) ∧
  (∀ s : State, s.consState = 1 → s.consSet ≠ 4 → Answers .consentRequest s fun t =>
     t.consState = (if s.consLocked = true then 5 else 2) ∧ t.consent.req = s.now ∧ t.consent.digesting = true ∧
       SameRegistersBut [Reg.CONSENT_STATUS] s t ∧ t.mem = s.mem) ∧
  (∀ s : State, s.consState = 1 → s.consSet = 4 → (s.rdN (Reg.CONSENT_STAGE 0)).testBit 0 = false →
    cut (s.rdN (Reg.CONSENT_STAGE 0)) 4 4 = 0 → Answers .consentRequest s fun t =>
     t.flag Ev.CONSENT_FLAGS_REFUSED = true ∧ t.consState = 1 ∧ t.consent = s.consent ∧ t.mem = s.mem) ∧
  (∀ (i : Fin 16) (s : State), s.consent.digesting = true → s.sec.run = none → s.sec.waiting = none → Answers .consentDigestDone s fun t =>
     t.consent.digesting = false ∧ t.rd (Reg.CONSENT_DIGEST i) = BitVec.ofNat 32 (fromLE (((sha512 (s.commitHeader ++ wordBytes s.staged)).drop (4 * i.val)).take 4)) ∧ t.mem = s.mem) ∧
  (∀ (k : Fin 4) (s : State), s.consState = 2 → s.consLocked = false → (cut (s.rdN (Reg.CONSENT_LIVE 4 0)) 4 4).testBit k.val = true →
    s.now < s.consWindowEnd →
     Answers (.consentApprove k) s fun t =>
       t.consState = 3 ∧ t.consent.key = k.val ∧ t.consent.sig = s.regBytes (Reg.CONSENT_SIG 0) 16 ∧
         SameRegistersBut [Reg.CONSENT_STATUS] s t ∧ t.mem = s.mem) ∧
  (∀ (k : Fin 4) (s : State), s.consState = 2 → s.consLocked = false → (cut (s.rdN (Reg.CONSENT_LIVE 4 0)) 4 4).testBit k.val = true →
    s.consWindowEnd ≤ s.now →
     Answers (.consentApprove k) s fun t =>
       t.consState = 0 ∧ t.flag Ev.CONSENT_FLAGS_TIMEOUT = true ∧ t.flag Ev.CONSENT_FLAGS_REFUSED = true ∧ t.mem = s.mem) ∧
  (∀ s : State, s.consState = 3 → s.sec.run = none → s.sec.waiting = none → s.blockFree = true → s.consent.digesting = false →
    s.consent.physDone = false → s.mramc.moving = none → Answers .consentCheckDone s fun t =>
     (edVerify (s.regBytes (Reg.CONSENT_LIVE 4 (1 + 8 * s.consent.key)) 8) s.consent.sig (s.regBytes (Reg.CONSENT_DIGEST 0) 16) = true →
       t.consState = 4 ∧ t.get Fd.CONSENT_STATUS_REJCNT = 0) ∧
     (edVerify (s.regBytes (Reg.CONSENT_LIVE 4 (1 + 8 * s.consent.key)) 8) s.consent.sig (s.regBytes (Reg.CONSENT_DIGEST 0) 16) = false →
       t.get Fd.CONSENT_STATUS_REJCNT = min 15 (s.get Fd.CONSENT_STATUS_REJCNT + 1) ∧ t.flag Ev.CONSENT_FLAGS_REJECT = true ∧
         SameMemoryBut rejcntAddr 8 s t ∧
       (s.get Fd.CONSENT_STATUS_REJCNT < 7 → t.consState = 2) ∧
       (7 ≤ s.get Fd.CONSENT_STATUS_REJCNT → t.consState = 5 ∧ t.flag Ev.CONSENT_FLAGS_LOCKOUT = true ∧
         t.consent.lockEnd = some (s.now + 60 * tSec)))) ∧
  (∀ s : State, (s.consState = 1 ∨ s.consState = 2 ∨ s.consState = 4 ∨ s.consState = 5) → (s.consState = 4 → s.atBoundary = false) →
    s.consent.counter = none → s.sec.waiting = none → Answers .consentCancel s fun t =>
     t.consState = 0 ∧ t.flag Ev.CONSENT_FLAGS_CANCELLED = true ∧ t.consent.digesting = false ∧ t.mem = s.mem) ∧
  (∀ s : State, (s.consState = 0 ∨ s.consState = 3) → Answers .consentCancel s fun t => t.flag Ev.CONSENT_FLAGS_REFUSED = true ∧
    t.consState = s.consState ∧ t.consent = s.consent ∧ t.mem = s.mem) ∧
  (∀ s : State, s.consLocked = false → (s.rdN (Reg.CONSENT_LIVE 4 0)).testBit 0 = true → s.consState = 2 → s.blockFree = true →
     max s.now (s.consent.req + 10 * tMs + cut (s.rdN (Reg.CONSENT_LIVE 4 0)) 8 8 * tSec) ≤ s.consWindowEnd →
       Answers .physicalConsent s fun t =>
       t.consState = 4 ∧ t.get Fd.CONSENT_STATUS_REJCNT = 0 ∧
         s.consent.req + 10 * tMs + cut (s.rdN (Reg.CONSENT_LIVE 4 0)) 8 8 * tSec ≤ t.now) ∧
  (∀ s : State, (s.consState = 2 ∨ s.consState = 5) → s.sec.waiting = none → Answers .consentWindowTimeout s fun t =>
     t.consState = 0 ∧ t.flag Ev.CONSENT_FLAGS_TIMEOUT = true ∧ s.consWindowEnd ≤ t.now ∧ t.mem = s.mem) ∧
  (∀ (a : Nat) (s : State), s.consent.lockEnd = some a → Answers .consentLockEnd s fun t =>
     t.consent.lockEnd = none ∧ t.consState = (if s.consState = 5 then 2 else s.consState) ∧ a ≤ t.now ∧ t.mem = s.mem) ∧
  (∀ s : State, s.consState = 4 → s.consent.counter = none → s.pmu.warned = false → s.pwmClk = true → s.blockIdle = true →
    s.consHeld = true → Answers .consentSwitchover s fun t =>
     t.get Fd.CONSENT_STATUS_HELD = 1 ∧ t.consState = 4 ∧ t.consent = s.consent ∧ SameRegistersBut [Reg.CONSENT_STATUS] s t ∧
       t.mem = s.mem) ∧
  (∀ (i : Fin 33) (s : State), s.consState = 4 → s.consent.counter = none → s.pmu.warned = false → s.pwmClk = true → s.blockIdle = true →
    s.consHeld = false → s.consSet = 4 →
     s.mramc.moving = none → s.tagFree 14 = true → Answers .consentSwitchover s fun t =>
       t.rd (Reg.CONSENT_LIVE 4 i) = s.rd (Reg.CONSENT_STAGE i) ∧ t.consent.counter = some (s.consCounter + 1) ∧
         t.get Fd.CONSENT_STATUS_HELD = 0 ∧
       t.memRd counterAddr 8 = (s.consCounter + 1) % 2 ^ 64 ∧ SameMemoryBut counterAddr 8 s t) ∧
  (∀ s : State, s.consState = 4 → s.consent.counter = none → s.pmu.warned = false → s.pwmClk = true → s.blockIdle = true →
    s.consHeld = false → Answers .consentSwitchover s fun t =>
     t.consent.counter = some (s.consCounter + 1) ∧ t.get Fd.CONSENT_STATUS_HELD = 0) ∧
  (∀ (n : Nat) (s : State), s.consent.counter = some n → s.blockIdle = true → Answers .consentCounterDurable s fun t =>
     t.rdN Reg.CONSENT_CTR_LO = n % 2 ^ 32 ∧ t.rdN Reg.CONSENT_CTR_HI = n / 2 ^ 32 % 2 ^ 32 ∧
       t.rdN (Reg.CONSENT_SETCTR s.consSet) = n % 2 ^ 32 ∧
     t.flag Ev.CONSENT_FLAGS_SWITCHED = true ∧ t.consState = 0 ∧ t.consent.counter = none ∧ t.mem = s.mem) ∧
  (∀ s : State, s.on Fd.CONSENT_STATUS_RESTORING = true → Answers .consentRestoreDone s fun t =>
     t.get Fd.CONSENT_STATUS_RESTORING = 0 ∧ t.get Fd.PMU_STATUS_RESTORING = 0 ∧ t.rdN Reg.CONSENT_CTR_LO = s.globalCounter % 2 ^ 32 ∧
       t.rdN Reg.CONSENT_CTR_HI = s.globalCounter / 2 ^ 32)

/-- R456: power-up keeps the nonvolatile memory and waits for good VIN; R366, R465: the release counts the reset causes,
starts the stewards and takes the newest saved block or none; R458: CHOLD is measured, and reaching PMU_HUREQ ends the
hold-up wait; R455: a bank's supply fails and returns; R459, R460: the first power-fail warning records its cause, the
window ends after 2 ms with both stewards stopped; R461, R464: the save engine starts, captures and completes; R463,
R473: SLEEP is refused without a wake source and otherwise is a warning of cause 6. -/
def Obligations.PowerAndSaving : Prop :=
  (∀ (v : Bool) (vio : Vector Supply 8) (s : State), s.pmu.clocksOff = true → Answers (.powerUp v vio) s fun t =>
     t.pmu.clocksOff = false ∧ t.pmu.warned = false ∧ t.pmu.held = true ∧ t.pmu.vinFell = v ∧ s.now + 10 * tMs ≤ t.now ∧
     t.get Fd.PMU_RSTINFO_CAUSE = s.pmu.cause % 8 ∧ t.sentinel = s.sentinel ∧ t.safe.array = s.safe.array ∧
     t.mem = (s.mem.filter fun c => decide (c.1 < 0x20000000)) ∧
     (∀ b : Fin 8, vio[b] = .none → t.get ⟨Reg.PMU_STATUS, 8 + b.val, 1⟩ = 1) ∧ t.pending = s.pending) ∧
  (∀ s : State, s.pmu.held = true → s.pmu.clocksOff = false → s.on Fd.PLL_STATUS_SYSLOCK = true → s.on Fd.PLL_STATUS_SYNCLOCK = true →
    Answers .resetRelease s fun t =>
     t.pmu.held = false ∧ t.get (Fd.SYSCFG_ST_STATUS_RUN 0) = 1 ∧ t.get (Fd.SYSCFG_ST_STATUS_RUN 1) = 1 ∧ t.cpu[4].pc = 0 ∧
       t.cpu[5].pc = 0 ∧
     t.get Fd.PMU_STATUS_RESTORING = 1 ∧ t.pending = s.pending) ∧
  (∀ (c e : Word) (s : State), Answers (.holdupMeasure c e) s fun t =>
     t.get Fd.PMU_HUMEAS_CAP = min 65535 (c.toNat / 120) ∧ t.get Fd.PMU_HUMEAS_ESR = min 65535 (e.toNat / 50) ∧
     (c.toNat / 120 < 1000 ∨ 500 < e.toNat / 50 → t.flag Ev.PMU_FLAGS_HUWEAK = true) ∧ t.now = s.now ∧ t.mem = s.mem) ∧
  (∀ (v : BitVec 16) (s : State), s.on Fd.PMU_STATUS_HUWAIT = true → v.toNat < 18000 → 0 < s.get Fd.PMU_HUREQ_MJ →
    Answers (.holdupReady v) s fun t =>
     t.get Fd.PMU_CHOLD_MV = v.toNat ∧ t.get Fd.PMU_HUEAV_MJ = 0 ∧ t.get Fd.PMU_STATUS_HUWAIT = 1 ∧
       t.get Fd.PWM_STATUS_HUWAIT = s.get Fd.PWM_STATUS_HUWAIT ∧ t.now = s.now ∧ t.mem = s.mem) ∧
  (∀ (v : BitVec 16) (s : State), s.on Fd.PMU_STATUS_HUWAIT = true → s.get Fd.PMU_HUREQ_MJ = 0 → Answers (.holdupReady v) s fun t =>
     t.get Fd.PMU_CHOLD_MV = v.toNat ∧ t.get Fd.PMU_STATUS_HUWAIT = 0 ∧ t.get Fd.PWM_STATUS_HUWAIT = 0 ∧
       t.flag Ev.PMU_FLAGS_HUREADY = true ∧
     s.now + 2 * s.sysT ≤ t.now) ∧
  (∀ (b : Fin 8) (s : State), Answers (.vioFault b) s fun t =>
     t.get ⟨Reg.PMU_STATUS, 8 + b.val, 1⟩ = 1 ∧ t.flag Ev.PMU_FLAGS_RAILERR = true ∧ (b.val = 6 → t.get Fd.SAFE_STATUS_SUPPLY = 1 ∧
       t.get Fd.SAFE_STATUS_OUTON = 0) ∧
     (b.val ≠ 6 → t.get Fd.SAFE_STATUS_SUPPLY = s.get Fd.SAFE_STATUS_SUPPLY) ∧ t.now = s.now ∧ t.mem = s.mem) ∧
  (∀ (b : Fin 8) (s : State), Answers (.vioReturn b) s fun t =>
     t.get ⟨Reg.PMU_STATUS, 8 + b.val, 1⟩ = 0 ∧ (b.val = 6 → s.pmu.warned = false → t.get Fd.SAFE_STATUS_SUPPLY = 0) ∧
     (b.val ≠ 6 → SameRegistersBut [Reg.PMU_STATUS] s t) ∧ t.now = s.now ∧ t.mem = s.mem) ∧
  (∀ (r : Bool) (s : State), s.pmu.warned = false → s.pmu.clocksOff = false → Answers (.powerFailWarning r) s fun t =>
     t.pmu.warned = true ∧ t.pmu.warnAt = s.now ∧ t.get Fd.PMU_STATUS_PFW = 1 ∧ t.flag Ev.PMU_FLAGS_PFW = true ∧
     t.get Fd.PMU_RSTINFO_CAUSE = (if r = true then 2 else 1) ∧ (r = true → t.flag Ev.PMU_FLAGS_RAILERR = true) ∧
     (s.on Fd.PMU_STATUS_HUWAIT = true → t.pmu.windowEnded = true ∧ t.get (Fd.SYSCFG_ST_STATUS_RUN 0) = 0 ∧
       t.get (Fd.SYSCFG_ST_STATUS_RUN 1) = 0) ∧
     (s.on Fd.PMU_STATUS_HUWAIT = false → t.pmu.windowEnded = false) ∧ t.pending = s.pending) ∧
  (∀ (r : Bool) (s : State), s.pmu.warned = true → s.pmu.clocksOff = false → s.pmu.warnAt = s.now → s.get Fd.PMU_RSTINFO_CAUSE = 6 →
    Answers (.powerFailWarning r) s fun t =>
     t.get Fd.PMU_RSTINFO_CAUSE = (if r = true then 2 else 1) ∧ t.flag Ev.PMU_FLAGS_SLEEPREF = true ∧
       t.sentinel.queue = s.sentinel.queue.filter (fun e => e.typ != 8) ∧ t.mem = s.mem) ∧
  (∀ (r : Bool) (s : State), s.pmu.warned = true → s.pmu.warnAt ≠ s.now → exec (.powerFailWarning r) s = .next s) ∧
  (∀ s : State, s.pmu.warned = true → s.pmu.windowEnded = false → Answers .stewardWindowEnd s fun t =>
     t.pmu.windowEnded = true ∧ s.pmu.warnAt + 2 * tMs ≤ t.now ∧ t.get (Fd.SYSCFG_ST_STATUS_RUN 0) = 0 ∧
       t.get (Fd.SYSCFG_ST_STATUS_RUN 1) = 0 ∧ t.mem = s.mem) ∧
  (∀ s : State, s.pmu.warned = true → s.pmu.windowEnded = true → s.pmu.engine = none → (∀ n : Fin 4, s.rk[n].task = none) →
    s.consent.counter = none →
     Answers .saveEngineStart s fun t => t.get Fd.PMU_STATUS_SAVING = 1 ∧ t.pmu.engine = some s.now ∧
       SameRegistersBut [Reg.PMU_STATUS] s t ∧ t.now = s.now ∧ t.mem = s.mem) ∧
  (∀ s : State, s.pmu.engine = none → exec .saveCaptureInstant s = .next s) ∧
  (∀ (n : Nat) (s : State), s.pmu.engine = some n → s.pmu.image = none → s.pwmClk = false → Answers .saveCaptureInstant s fun t =>
     t.pmu.image = some ((s.saveWords s.meterBody).filter fun w => w.2 != 0) ∧ t.regs = s.regs ∧ t.now = s.now ∧ t.mem = s.mem) ∧
  (∀ (n : Nat) (l : List (Nat × Word)) (s : State), s.pmu.engine = some n → s.pmu.image = some l → s.pmu.noBlock = false →
    s.pmu.clocksOff = false →
     Answers .saveComplete s fun t =>
       t.get Fd.PMU_STATUS_SAVING = 0 ∧ t.flag Ev.PMU_FLAGS_SAVEDONE = true ∧ t.pmu.clocksOff = true ∧
         t.pmu.cause = s.get Fd.PMU_RSTINFO_CAUSE ∧
       t.prot.trips = 0 ∧ (s.get Fd.PMU_RSTINFO_CAUSE = 6 → t.sentinel.pwrreq = false) ∧ (s.get Fd.PMU_RSTINFO_CAUSE ≠ 6 →
         t.sentinel = s.sentinel) ∧
       SameMemoryBut 0x08F00000 0x80000 s t) ∧
  (∀ s : State, s.settled → s.pmu.warned = true ∨ s.on Fd.SENT_CFG_WAKEEN = false ∧ s.on Fd.SENT_CFG_ALARMEN = false →
    Answers .pmuSleep s fun t =>
     t.flag Ev.PMU_FLAGS_SLEEPREF = true ∧ t.pmu = s.pmu ∧ t.sentinel = s.sentinel ∧ t.now = s.now ∧ t.mem = s.mem) ∧
  (∀ s : State, s.settled → s.pmu.warned = false → s.pmu.clocksOff = false →
    s.on Fd.SENT_CFG_WAKEEN = true ∨ s.on Fd.SENT_CFG_ALARMEN = true → Answers .pmuSleep s fun t =>
     t.pmu.warned = true ∧ t.get Fd.PMU_RSTINFO_CAUSE = 6 ∧ t.get Fd.PMU_STATUS_PFW = 1 ∧ t.pending = s.pending)

/-- R467: the sentinel starts with its RTC at 0 and not valid, and stops with everything lost; R471: the loss and the
return of VIN and each checkpoint are entries; R469: long darkness takes VBAT or cuts off, and the recovery resumes;
R470: an admitted burst takes the oldest waiting entry, a refused one sets BURSTREF; R472: a tamper input is an entry
and is then ignored until inactive; R473: WAKE_N and the alarm raise PWRREQ; R474, R477: a register write takes effect
61.0 µs on, and so does RTCSET, which loads the alarm value; R468: HV1 finds its target. -/
def Obligations.SentinelAndLedger : Prop :=
  (∀ (v : Bool) (s : State), s.sentinel.running = false → Answers (.sentinelStart v) s fun t =>
     t.sentinel.running = true ∧ t.rtc = 0 ∧ t.get Fd.SENT_STATUS_RTCVALID = 0 ∧ t.sentinel.pwrreq = v ∧ t.sentinel.queue = [] ∧
       t.sentinel.ignored = 0 ∧
     t.get Fd.SENT_STATUS_ONVIN = v.toNat ∧ t.get Fd.SENT_STATUS_ONVBAT = (!v).toNat ∧ t.rd Reg.SENT_CFG = regReset Reg.SENT_CFG ∧
       t.now = s.now ∧ t.mem = s.mem) ∧
  (∀ s : State, s.settled → s.sentinel.running = true → Answers .sentinelStop s fun t =>
     t.sentinel.running = false ∧ t.sentinel.pwrreq = false ∧ t.sentinel.queue = [] ∧ t.rd Reg.SENT_CFG = regReset Reg.SENT_CFG ∧
       t.now = s.now ∧ t.mem = s.mem) ∧
  (∀ s : State, s.settled → s.sentinel.running = true → s.vinPresent = true → s.sentinel.queue.length < 4 →
    Answers .sentinelVinLoss s fun t =>
     t.get Fd.SENT_STATUS_ONVIN = 0 ∧ t.sentinel.queue = s.sentinel.queue ++ [⟨1, s.rtc, s.on Fd.SENT_STATUS_RTCVALID, s.get Fd.SENT_VSTORE_LSTORE, 0⟩] ∧
     t.get Fd.SENT_STATUS_QLEVEL = t.sentinel.queue.length ∧
       t.sentinel.checkpoint = some (s.now + max 1 (s.get Fd.SENT_CFG_CKINT) * 3600 * tSec) ∧ t.now = s.now ∧ t.mem = s.mem) ∧
  (∀ s : State, s.settled → s.sentinel.running = true → s.vinPresent = false → s.sentinel.queue.length < 4 →
    Answers .sentinelVinReturn s fun t =>
     t.get Fd.SENT_STATUS_ONVIN = 1 ∧ t.get Fd.SENT_STATUS_ONVBAT = 0 ∧ t.sentinel.checkpoint = none ∧
     t.sentinel.queue = s.sentinel.queue ++ [⟨2, s.rtc, s.on Fd.SENT_STATUS_RTCVALID, s.get Fd.SENT_VSTORE_LSTORE, 0⟩] ∧ t.now = s.now ∧
       t.mem = s.mem) ∧
  (∀ (l v b : BitVec 16) (s : State), s.settled → s.sentinelLive = true → s.vinPresent = false → s.on Fd.SENT_STATUS_ONVBAT = false →
    l.toNat < s.get Fd.SENT_LCUT_MV →
     s.on Fd.SENT_CFG_LDPOL = true → 2500 ≤ b.toNat → s.sentinel.queue.length < 4 → Answers (.longDarkness l v b) s fun t =>
       t.get Fd.SENT_STATUS_ONVBAT = 1 ∧ t.get Fd.SENT_STATUS_CUT = 0 ∧ t.get Fd.SENT_VSTORE_LSTORE = l.toNat ∧
         t.get Fd.SENT_VBAT_MV = b.toNat ∧
       t.sentinel.queue = s.sentinel.queue ++ [⟨7, s.rtc, s.on Fd.SENT_STATUS_RTCVALID, l.toNat, 0⟩] ∧ t.now = s.now ∧ t.mem = s.mem) ∧
  (∀ (l v b : BitVec 16) (s : State), s.settled → s.sentinelLive = true → s.vinPresent = false → s.on Fd.SENT_STATUS_ONVBAT = false →
    l.toNat < s.get Fd.SENT_LCUT_MV →
     s.on Fd.SENT_CFG_LDPOL = false → v.toNat < 3100 → Answers (.longDarkness l v b) s fun t =>
       t.get Fd.SENT_STATUS_CUT = 1 ∧ t.get Fd.SENT_STATUS_RTCVALID = 0 ∧ t.sentinel.rtcRuns = false ∧
         t.flag Ev.SENT_FLAGS_BURSTREF = true ∧
       t.sentinel.queue = s.sentinel.queue ∧ t.now = s.now ∧ t.mem = s.mem) ∧
  (∀ (l : BitVec 16) (s : State), s.settled → s.sentinel.running = true → s.on Fd.SENT_STATUS_CUT = true →
    s.get Fd.SENT_LCUT_MV + 300 ≤ l.toNat → Answers (.sentinelResume l) s fun t =>
     t.get Fd.SENT_STATUS_CUT = 0 ∧ t.get Fd.SENT_VSTORE_LSTORE = l.toNat ∧ t.sentinel.rtcRuns = true ∧ t.flag Ev.SENT_FLAGS_CUTOFF = true ∧
       t.now = s.now ∧ t.mem = s.mem) ∧
  (∀ (v : BitVec 16) (e : LedgerEntry) (q : List LedgerEntry) (s : State), s.settled → s.sentinelLive = true → s.sentinel.queue = e :: q →
    3100 ≤ v.toNat →
     Answers (.ledgerBurst v 8) s fun t =>
       t.sentinel.queue = q ∧ t.sentinel.seq = s.sentinel.seq + 1 ∧ t.get Fd.SENT_STATUS_QLEVEL = q.length % 8 ∧
         t.get Fd.SENT_VSTORE_SSTORE = v.toNat ∧
       t.memRd (ledgerSlot s.ledgerNext + 28) 4 = 0x49444C45 ∧
         t.memRd (ledgerSlot s.ledgerNext) 24 = e.body (s.sentinel.seq + 1) % 2 ^ 192 ∧
       SameMemoryBut (ledgerSlot s.ledgerNext) 32 s t ∧ t.now = s.now) ∧
  (∀ (v : BitVec 16) (n : Fin 9) (s : State), s.settled → s.sentinelLive = true → s.sentinel.queue ≠ [] → v.toNat < 3100 →
    Answers (.ledgerBurst v n) s fun t =>
     t.flag Ev.SENT_FLAGS_BURSTREF = true ∧ t.sentinel.queue = s.sentinel.queue ∧ t.get Fd.SENT_VSTORE_SSTORE = v.toNat ∧ t.now = s.now ∧
       t.mem = s.mem) ∧
  (∀ (x : Nat) (s : State), s.settled → s.sentinel.checkpoint = some x → s.sentinelLive = true → s.vinPresent = false →
    s.sentinel.queue.length < 4 → Answers .ledgerCheckpoint s fun t =>
     x ≤ t.now ∧ t.sentinel.checkpoint = some (x + max 1 (s.get Fd.SENT_CFG_CKINT) * 3600 * tSec) ∧
       t.sentinel.queue.length = s.sentinel.queue.length + 1 ∧
     t.sentinel.queue.getLast?.map (·.typ) = some 4 ∧ t.mem = s.mem) ∧
  (∀ (n : Fin 2) (b : Bool) (h : Nat) (s : State), s.settled → s.sentinelLive = true → (s.get Fd.SENT_CFG_TAMPEN).testBit n.val = true →
    s.sentinel.ignored.getLsbD n.val = false → s.sentinel.queue.length < 4 →
     s.tamperActive n b = true → 10 * tMs ≤ h → Answers (.tamperEvent ⟨n, b, h⟩) s fun t =>
       t.flag (tamperFlag n) = true ∧ t.sentinel.ignored.getLsbD n.val = true ∧ (∀ j : Fin 2, j ≠ n →
         t.sentinel.ignored.getLsbD j.val = s.sentinel.ignored.getLsbD j.val) ∧
       t.sentinel.queue = s.sentinel.queue ++ [⟨3, s.rtc, s.on Fd.SENT_STATUS_RTCVALID, s.get Fd.SENT_VSTORE_LSTORE, 2 ^ n.val⟩] ∧
         t.now = s.now ∧ t.mem = s.mem) ∧
  (∀ (n : Fin 2) (b : Bool) (h : Nat) (s : State), s.settled → s.sentinelLive = true →
    s.sentinel.ignored.getLsbD n.val = true ∨ h < 10 * tMs ∨ s.tamperActive n b = false → exec (.tamperEvent ⟨n, b, h⟩) s = .next s) ∧
  (∀ (n : Fin 2) (b : Bool) (h : Nat) (s : State), s.settled → s.sentinelLive = true → s.tamperActive n b = false → 10 * tMs ≤ h →
    Answers (.tamperInputInactive ⟨n, b, h⟩) s fun t =>
     t.sentinel.ignored.getLsbD n.val = false ∧ (∀ j : Fin 2, j ≠ n → t.sentinel.ignored.getLsbD j.val = s.sentinel.ignored.getLsbD j.val) ∧
     t.sentinel.queue = s.sentinel.queue ∧ t.regs = s.regs ∧ t.mem = s.mem) ∧
  (∀ s : State, s.settled → s.sentinelLive = true → s.on Fd.SENT_CFG_WAKEEN = true →
    exec .wakeInput s = .next { s with sentinel := { s.sentinel with pwrreq := true } }) ∧
  (∀ s : State, s.settled → s.sentinelLive = true → s.on Fd.SENT_CFG_ALARMEN = true → s.rtc ≤ s.alarm → Answers .rtcAlarm s fun t =>
     t.sentinel.pwrreq = true ∧ t.sentinel.queue = s.sentinel.queue ∧ s.now ≤ t.now) ∧
  (∀ s : State, s.sentinel.writes = [] → s.sentinelLive = true → s.vinPresent = true → Answers .rtcset s fun t =>
     t.rtc = s.alarm % 2 ^ 48 ∧ t.get Fd.SENT_STATUS_RTCVALID = 1 ∧ s.now + sentCrossing ≤ t.now) ∧
  (∀ s : State, s.sentinel.writes = [] → s.vinPresent = false → Answers .rtcset s fun t =>
     t.sentinel = s.sentinel ∧ t.get Fd.SENT_STATUS_RTCVALID = s.get Fd.SENT_STATUS_RTCVALID ∧ s.now + sentCrossing ≤ t.now) ∧
  (∀ (v : BitVec 16) (s : State), s.settled → s.sentinel.running = true → s.on Fd.SENT_CFG_HV1EN = true → Answers (.hv1Sample v) s fun t =>
     t.sentinel.hv1Mv = v.toNat * s.get Fd.SENT_HV1_FRAC / 100 ∧ t.sentinel.hv1At = max s.now (s.sentinel.hv1At + 8 * tSec) ∧
       t.sentinel.hv1At + 50 * tMs ≤ t.now) ∧
  (∀ (v : Word) (s : State), s.sentinel.writes = [] →
     (s.sentPost Reg.SENT_ALARM_LO v).rd Reg.SENT_ALARM_LO = s.rd Reg.SENT_ALARM_LO ∧
     ({ s.sentPost Reg.SENT_ALARM_LO v with now := s.now + sentCrossing }).sentSettle.rd Reg.SENT_ALARM_LO = v)

/-- R478, R479: an accepted value updates MIN, MAX, COUNT, the bin or UNDER or OVER, and ALARM; R480, R481: a launch of
target 108 + w opens its window, which closes after its length; R482: a clear sets MIN, MAX and the counts of the
monitors named; R478: a class-4 monitor's mark request is due every 100 µs; R483: telemetry fills its registers; R484:
the scrub walks the SRAM and counts what it finds. -/
def Obligations.MonitorsAndScrub : Prop :=
  (∀ (k : Fin 16) (c : Fin 8) (x : Int) (q : List (Int × Bool)) (s : State), s.mon.queue[k] = (x, false) :: q → s.pmu.warned = false →
    s.get (Fd.MON_M_CFG_CLASS k) = c.val → -2 ^ 31 ≤ x → x < 2 ^ 31 → Answers (.monitorValue k c) s fun t =>
       (t.rd (Reg.MON_M_MIN k)).toInt = min (s.rd (Reg.MON_M_MIN k)).toInt x ∧
         (t.rd (Reg.MON_M_MAX k)).toInt = max (s.rd (Reg.MON_M_MAX k)).toInt x ∧
       t.rdN (Reg.MON_M_COUNT k) = min 0xFFFFFFFF (s.rdN (Reg.MON_M_COUNT k) + 1) ∧
       (x < (s.rd (Reg.MON_M_ORIGIN k)).toInt → t.rdN (Reg.MON_M_UNDER k) = min 0xFFFFFFFF (s.rdN (Reg.MON_M_UNDER k) + 1)) ∧
       ((s.rd (Reg.MON_M_ALARM k)).toInt < x → t.flag (Ev.MON_FLAGS_ALARM k) = true) ∧
       (∀ b : Fin 64, (s.rd (Reg.MON_M_ORIGIN k)).toInt ≤ x →
         (x - (s.rd (Reg.MON_M_ORIGIN k)).toInt) / (max 1 (s.rdN (Reg.MON_M_WIDTH k)) : Nat) = (b.val : Int) →
         t.rdN (Reg.MON_M_BIN k b.val) = min 0xFFFFFFFF (s.rdN (Reg.MON_M_BIN k b.val) + 1)) ∧ t.mon.queue[k] = q ∧ t.now = s.now ∧
           t.mem = s.mem) ∧
  (∀ (k : Fin 16) (c : Fin 8) (x : Int) (q : List (Int × Bool)) (s : State), s.mon.queue[k] = (x, true) :: q → s.pmu.warned = false →
    s.get (Fd.MON_M_CFG_CLASS k) = c.val → Answers (.monitorValue k c) s fun t =>
       t.rdN (Reg.MON_M_MISSED k) = min 0xFFFFFFFF (s.rdN (Reg.MON_M_MISSED k) + 1) ∧ t.mon.queue[k] = q ∧
         SameRegistersBut [Reg.MON_M_MISSED k] s t ∧ t.now = s.now ∧ t.mem = s.mem) ∧
  (∀ (k : Fin 16) (c : Fin 8) (s : State), s.get (Fd.MON_M_CFG_CLASS k) ≠ c.val → exec (.monitorValue k c) s = .next s) ∧
  (∀ (w : Fin 4) (l : Launch) (s : State), s.launchOf (108 + w.val) = some l → s.launchRuns (108 + w.val) = true →
    s.rdN (Reg.MON_WINLEN w) ≠ 0 → Answers (.monitorWindowLaunch w) s fun t =>
     t.get ⟨Reg.MON_WINSTAT, w.val, 1⟩ = 1 ∧ t.mon.win[w] = some (t.tbl.count, t.tbl.count + s.rdN (Reg.MON_WINLEN w)) ∧
       t.launchOf (108 + w.val) = (s.tbl.inflight.erase l).find? (fun y => y.target == 108 + w.val) ∧
     (∀ j : Fin 4, j ≠ w → t.mon.win[j] = s.mon.win[j]) ∧ l.matched + 80 + 2 * s.sysT ≤ t.now) ∧
  (∀ (w : Fin 4) (l : Launch) (s : State), s.launchOf (108 + w.val) = some l → s.launchRuns (108 + w.val) = true →
    s.rdN (Reg.MON_WINLEN w) = 0 → Answers (.monitorWindowLaunch w) s fun t =>
     t.mon.win = s.mon.win ∧ t.launchOf (108 + w.val) = (s.tbl.inflight.erase l).find? (fun y => y.target == 108 + w.val) ∧
       l.matched + 80 + 2 * s.sysT ≤ t.now) ∧
  (∀ (w : Fin 4) (a b : Nat) (s : State), s.mon.win[w] = some (a, b) → s.on ⟨Reg.MON_WINSTAT, w.val, 1⟩ = true → s.canReach b = true →
    Answers (.monitorWindowClose w) s fun t =>
     t.get ⟨Reg.MON_WINSTAT, w.val, 1⟩ = 0 ∧ SameRegistersBut [Reg.MON_WINSTAT] s t ∧ s.now ≤ t.now ∧ t.mem = s.mem) ∧
  (∀ (m : BitVec 16) (k : Fin 16) (s : State), (s.mon.recent[k]).all (fun p => p.1 != s.now) = true → Answers (.monitorClear m) s fun t =>
     (m.getLsbD k.val = true → t.rd (Reg.MON_M_MIN k) = 0x7FFFFFFF ∧ t.rd (Reg.MON_M_MAX k) = 0x80000000 ∧ t.rd (Reg.MON_M_COUNT k) = 0 ∧
       t.rd (Reg.MON_M_UNDER k) = 0 ∧ t.rd (Reg.MON_M_OVER k) = 0 ∧ t.rd (Reg.MON_M_MISSED k) = 0 ∧
         ∀ b : Fin 64, t.rd (Reg.MON_M_BIN k b.val) = 0) ∧
     (m.getLsbD k.val = false → t.rd (Reg.MON_M_COUNT k) = s.rd (Reg.MON_M_COUNT k) ∧ t.rd (Reg.MON_M_MIN k) = s.rd (Reg.MON_M_MIN k)) ∧
       t.now = s.now ∧ t.mem = s.mem) ∧
  (∀ (k : Fin 16) (s : State), s.on (Fd.MON_M_CFG_EN k) = true → s.get (Fd.MON_M_CFG_CLASS k) = 4 → s.get (Fd.MON_M_CFG_INDEX k) < 4 →
    s.pmu.warned = false →
     s.linkState (Fin.ofNat 4 (s.get (Fd.MON_M_CFG_INDEX k))) = 2 → Answers (.monitorMark k) s fun t =>
       s.mon.mark[k] ≤ t.now ∧ t.mon.mark[k] = t.now + 100 * tUs ∧ t.mem = s.mem) ∧
  (∀ (x : Telemetry) (s : State), Answers (.telemetrySample x) s fun t =>
     (∀ i : Fin 4, t.rd (Reg.MON_TEMP i) = x.temps[i]) ∧ t.get Fd.PMU_VIN_MV = x.vin.toNat ∧ t.get Fd.PMU_CHOLD_MV = x.chold.toNat ∧
     (x.chold.toNat < 18000 → t.get Fd.PMU_HUEAV_MJ = 0) ∧ (∀ i : Fin 8, t.mon.vio[i] = x.vio[i].toNat) ∧ t.now = s.now ∧ t.mem = s.mem) ∧
  (∀ s : State, s.pmu.warned = false → s.on Fd.PLL_STATUS_SYSLOCK = true → s.tagFree 15 = true →
     (Answers (.sramScrub .clean) s fun t => s.mon.scrubAt ≤ t.now ∧
       t.mon.scrub = (if s.mon.scrub + 8 = 0x20400000 then 0x20000000 else s.mon.scrub + 8) ∧
       SameRegistersBut [Reg.MON_SCRUBPASS] s t ∧ t.mem = s.mem) ∧
     (Answers (.sramScrub .single) s fun t => t.rdN Reg.MON_SRAMCE = min 0xFFFFFFFF (s.rdN Reg.MON_SRAMCE + 1) ∧
       t.flag Ev.MON_FLAGS_SRAMCE = true ∧ t.mon.ecc = s.mon.ecc ∧ t.mem = s.mem) ∧
     (Answers (.sramScrub .double) s fun t => t.rdN Reg.MON_SRAMUE = min 0xFFFFFFFF (s.rdN Reg.MON_SRAMUE + 1) ∧
       t.flag Ev.MON_FLAGS_SRAMUE = true ∧
       s.mon.scrub ∈ t.mon.ecc ∧ t.mem = s.mem))

/-- R140: EXTR writes sat32(round(wk × 2^s / 2^31)) for every s from −32 to +31, in exact arithmetic (the product with
2^(s+32) is divided by 2^63), sets C when it saturates (R148), and leaves the accumulator, every other register and
memory. -/
def Obligations.ExtrRoundsAndSaturates : Prop :=
  ∀ (c : Fin 6) (f : IForm) (s : State), Issues s c (extBytes f.ext) f.pred → f.legal .d .w 6 = true →
    let x := nearest ((s.cpu[c].gw f.ra).toInt * 2 ^ (f.shift + 32).toNat) 63
    GivesD (exec (.extr c f) s) s c (extBytes f.ext) (1 + extCycle f.ext) f.rd (clip32 x) (over32 x)

/-- R413: while the link is neither DOWN nor in TEST, a write of LINKl_CTRL that changes RATE or LOOP, and a write of
LINKl_PRBS that sets GEN, leave the register and everything else as it was and set CFGERR; the cells that the link
sent last are no part of its state. -/
def Obligations.LinkConfigurationRefused : Prop :=
  (∀ (l : Fin 4) (v : Word) (s : State), s.linkState l ≠ 0 → s.linkState l ≠ 3 →
     (cut v.toNat 4 2 ≠ s.get (Fd.LINK_L_CTRL_RATE l) ∨ cut v.toNat 8 3 ≠ s.get (Fd.LINK_L_CTRL_LOOP l)) →
       Answers (.linkEnableWrite l v) s fun t =>
       t.rd (Reg.LINK_L_CTRL l) = s.rd (Reg.LINK_L_CTRL l) ∧ t.flag (Ev.LINK_L_FLAGS_CFGERR l) = true ∧
       SameRegistersBut [Reg.LINK_L_FLAGS l, (Ev.LINK_L_FLAGS_CFGERR l).cnt] s t ∧ t.tbl = s.tbl ∧ t.now = s.now ∧ t.mem = s.mem) ∧
  (∀ (l : Fin 4) (v : Word) (s : State), s.linkState l ≠ 0 → s.linkState l ≠ 3 → v.getLsbD 2 = true → Answers (.prbsCfgWrite l v) s fun t =>
     t.rd (Reg.LINK_L_PRBS l) = s.rd (Reg.LINK_L_PRBS l) ∧ t.flag (Ev.LINK_L_FLAGS_CFGERR l) = true ∧
     SameRegistersBut [Reg.LINK_L_FLAGS l, (Ev.LINK_L_FLAGS_CFGERR l).cnt] s t ∧ t.link = s.link ∧ t.tbl = s.tbl ∧ t.now = s.now ∧
       t.mem = s.mem)

/-- R190: when an armed carrier loads at its zero, the active period is the shadow period held between 32,000 and 2^30
tbu, and CLAMP is set if the bound was used; when it loads at its peak, the same value waits for the following zero,
with CLAMP. -/
def Obligations.ShadowPeriodClamp : Prop :=
  (∀ (c : Fin 8) (s : State), s.pwm.carriers[c].run = true → s.pwmRuns = true → (s.get Fd.PWM_LOADALL_ALL).testBit c.val = true →
     s.get (Fd.PWM_C_CFG_LDPT c) ≠ 1 → s.pwm.carriers[c].armedAt + 120 ≤ s.now → s.pwm.carriers[c].tau = s.period c →
       Answers (.carrierZero c) s fun t =>
       t.get (Fd.PWM_C_ACTPER_PER c) = max 32000 (min (2 ^ 30) (s.get (Fd.PWM_C_PER_PER c))) ∧
       (s.get (Fd.PWM_C_PER_PER c) < 32000 ∨ 2 ^ 30 < s.get (Fd.PWM_C_PER_PER c) → t.flag (Ev.PWM_C_FLAGS_CLAMP c) = true) ∧
         t.mem = s.mem) ∧
  (∀ (c : Fin 8) (s : State), s.pwm.carriers[c].run = true → s.pwmRuns = true → s.pwm.carriers[c].peaked = false →
    (s.get Fd.PWM_LOADALL_ALL).testBit c.val = true →
     s.get (Fd.PWM_C_CFG_LDPT c) ≠ 0 → s.pwm.carriers[c].armedAt + 120 ≤ s.now → s.pwm.carriers[c].tau = s.half c →
       Answers (.carrierPeak c) s fun t =>
       t.pwm.carriers[c].nextPer = some (max 32000 (min (2 ^ 30) (s.get (Fd.PWM_C_PER_PER c)))) ∧
         t.get (Fd.PWM_C_ACTPER_PER c) = s.get (Fd.PWM_C_ACTPER_PER c) ∧
       (s.get (Fd.PWM_C_PER_PER c) < 32000 ∨ 2 ^ 30 < s.get (Fd.PWM_C_PER_PER c) → t.flag (Ev.PWM_C_FLAGS_CLAMP c) = true) ∧ t.mem = s.mem)
end

