-- ==== Sys2Proof/Laws/Memory.lean ====
section
/-! SUPPORT. What the operations over the sparse maps, the memory and the registers do: a read after a write, and the canonical
form that each of them keeps. -/
namespace Sys2Proof.Machine

/-! ### Sparse maps -/

theorem mapGet_mapIns {α : Type} (dflt : Nat → α) (m : List (Nat × α)) (a c : Nat) (v : α) :
    mapGet dflt (mapIns m a v) c = if c = a then v else mapGet dflt m c := by
  induction m with
  | nil => simp [mapIns, mapGet]
  | cons e t ih =>
    obtain ⟨b, w⟩ := e
    unfold mapIns
    split
    · simp [mapGet]
    · split
      · subst_vars; by_cases h : c = b <;> simp [mapGet, h]
      · rw [mapGet, ih, mapGet]; split <;> simp_all; omega

theorem mapGet_filter {α : Type} (dflt : Nat → α) (m : List (Nat × α)) (a c : Nat) :
    mapGet dflt (m.filter fun e => e.1 != a) c = if c = a then dflt a else mapGet dflt m c := by
  induction m with
  | nil => by_cases h : c = a <;> simp [mapGet, h]
  | cons e t ih =>
    obtain ⟨b, w⟩ := e
    by_cases hb : b = a
    · subst hb; simp only [List.filter, bne_self_eq_false]; rw [ih]; by_cases h : c = b <;> simp [mapGet, h]
    · have : ((b, w).1 != a) = true := by simpa using hb
      simp only [List.filter, this, mapGet, ih]
      by_cases h : c = b <;> simp [h, hb]

theorem filter_mapIns {α : Type} (m : List (Nat × α)) (a : Nat) (v : α) :
    ((mapIns m a v).filter fun e => e.1 != a) = m.filter fun e => e.1 != a := by
  induction m with
  | nil => simp [mapIns]
  | cons e t ih =>
    obtain ⟨b, w⟩ := e
    unfold mapIns
    split
    · simp
    · split
      · subst_vars; simp
      · simp only [List.filter_cons, ih]

/-- Setting a sparse map lists the value, or lists nothing where the value is the default. -/
theorem mapSet_eq {α : Type} [DecidableEq α] (dflt : Nat → α) (m : List (Nat × α)) (a : Nat) (v : α) :
    mapSet dflt m a v = if v = dflt a then m.filter (fun e => e.1 != a) else mapIns m a v := by
  unfold mapSet
  by_cases h : v = dflt a
  · simp [h, filter_mapIns]
  · simp [h]

/-- A sparse map reads at `a` what was set there, and elsewhere what it read before. -/
theorem mapGet_mapSet {α : Type} [DecidableEq α] (dflt : Nat → α) (m : List (Nat × α)) (a c : Nat) (v : α) :
    mapGet dflt (mapSet dflt m a v) c = if c = a then v else mapGet dflt m c := by
  rw [mapSet_eq]
  split
  · rename_i h; rw [mapGet_filter, h]
  · exact mapGet_mapIns dflt m a c v

theorem mapWfFrom_weaken {α : Type} [DecidableEq α] (dflt : Nat → α) (m : List (Nat × α)) (lo lo' : Option Nat)
    (h : ∀ b, (∀ l, lo = some l → l < b) → (∀ l, lo' = some l → l < b)) (hm : mapWfFrom dflt lo m) :
    mapWfFrom dflt lo' m := by
  cases m with
  | nil => rfl
  | cons e t =>
    obtain ⟨b, w⟩ := e
    simp only [mapWfFrom, Bool.and_eq_true] at hm ⊢
    refine ⟨⟨?_, hm.1.2⟩, hm.2⟩
    have hb := h b
    cases lo <;> cases lo' <;> simp_all

theorem mapWfFrom_filter {α : Type} [DecidableEq α] (dflt : Nat → α) (m : List (Nat × α)) (a : Nat) :
    ∀ lo, mapWfFrom dflt lo m → mapWfFrom dflt lo (m.filter fun e => e.1 != a) := by
  induction m with
  | nil => intro lo _; rfl
  | cons e t ih =>
    obtain ⟨b, w⟩ := e
    intro lo h
    simp only [mapWfFrom, Bool.and_eq_true] at h
    by_cases hb : b = a
    · subst hb
      simp only [List.filter, bne_self_eq_false]
      refine mapWfFrom_weaken dflt _ (some b) lo ?_ (ih _ h.2)
      intro x hx l hl
      have h1 := hx b rfl
      have h2 : l < b := by simpa [hl] using h.1.1
      omega
    · have : ((b, w).1 != a) = true := by simpa using hb
      simp only [List.filter, this, mapWfFrom, Bool.and_eq_true]
      exact ⟨h.1, ih _ h.2⟩

theorem mapWfFrom_mapIns {α : Type} [DecidableEq α] (dflt : Nat → α) (m : List (Nat × α)) (a : Nat) (v : α)
    (hv : v ≠ dflt a) : ∀ lo, (∀ l, lo = some l → l < a) → mapWfFrom dflt lo m → mapWfFrom dflt lo (mapIns m a v) := by
  induction m with
  | nil => intro lo hl _; cases lo <;> simp_all [mapIns, mapWfFrom]
  | cons e t ih =>
    obtain ⟨b, w⟩ := e
    intro lo hl h
    simp only [mapWfFrom, Bool.and_eq_true] at h
    unfold mapIns
    split
    · cases lo <;> simp_all [mapWfFrom]
    · split
      · subst_vars; cases lo <;> simp_all [mapWfFrom]
      · have := ih (some b) (by intro l hl'; cases hl'; omega) h.2
        cases lo <;> simp_all [mapWfFrom]

/-- Setting a sparse map keeps its canonical form. -/
theorem mapWfFrom_mapSet {α : Type} [DecidableEq α] (dflt : Nat → α) (m : List (Nat × α)) (a : Nat) (v : α)
    (h : mapWfFrom dflt none m) : mapWfFrom dflt none (mapSet dflt m a v) := by
  rw [mapSet_eq]
  split
  · exact mapWfFrom_filter dflt m a none h
  · exact mapWfFrom_mapIns dflt m a v ‹_› none (by simp) h

/-! ### Memory -/

/-- A byte reads as it was written; every other byte as before. -/
theorem Memory.read_write (m : List (Nat × Byte)) (a c : Nat) (v : Byte) :
    Memory.read (Memory.write m a v) c = if c = a then v else Memory.read m c := mapGet_mapSet _ m a c v

theorem Memory.wf_write (m : List (Nat × Byte)) (a : Nat) (v : Byte) (h : Memory.wf m) : Memory.wf (Memory.write m a v) :=
  mapWfFrom_mapSet _ m a v h

/-- A write of `n` bytes changes no byte outside them. -/
theorem Memory.read_writeLE_of_outside (n : Nat) : ∀ (m : List (Nat × Byte)) (a v c : Nat), (c < a ∨ a + n ≤ c) →
    Memory.read (Memory.writeLE m a n v) c = Memory.read m c := by
  induction n with
  | zero => intros; rfl
  | succ n ih =>
    intro m a v c h
    rw [Memory.writeLE, ih _ _ _ _ (by omega), Memory.read_write, if_neg (by omega)]

/-- A write of `n` bytes stores byte `i` of the value at `a + i`. -/
theorem Memory.read_writeLE_of_inside (n : Nat) : ∀ (m : List (Nat × Byte)) (a v i : Nat), i < n →
    Memory.read (Memory.writeLE m a n v) (a + i) = BitVec.ofNat 8 (v / 256 ^ i) := by
  induction n with
  | zero => intro _ _ _ _ h; omega
  | succ n ih =>
    intro m a v i h
    rw [Memory.writeLE]
    cases i with
    | zero => rw [Memory.read_writeLE_of_outside _ _ _ _ _ (by omega), Memory.read_write, if_pos (by omega)]; simp
    | succ i =>
      rw [show a + (i + 1) = a + 1 + i by omega, ih _ _ _ _ (by omega), Nat.div_div_eq_div_mul, Nat.pow_succ, Nat.mul_comm]

theorem Memory.wf_writeLE (n : Nat) : ∀ (m : List (Nat × Byte)) (a v : Nat), Memory.wf m → Memory.wf (Memory.writeLE m a n v) := by
  induction n with
  | zero => intro m a v h; exact h
  | succ n ih => intro m a v h; exact ih _ _ _ (Memory.wf_write m a _ h)

/-! ### Registers -/

/-- A register reads as it was written; every other register as before. -/
theorem State.rd_wr (s : State) (a c : Nat) (v : Word) : (s.wr a v).rd c = if c = a then v else s.rd c :=
  mapGet_mapSet _ s.regs a c v

theorem State.wr_regsWf (s : State) (a : Nat) (v : Word) (h : regsWf s.regs) : regsWf (s.wr a v).regs :=
  mapWfFrom_mapSet _ s.regs a v h

theorem State.memWr_wf (s : State) (a n v : Nat) (h : Memory.wf s.mem) : Memory.wf (s.memWr a n v).mem :=
  Memory.wf_writeLE n s.mem a v h

/-! ### Fields -/

theorem cut_paste (x lo w v : Nat) : cut (paste x lo w v) lo w = v % 2 ^ w := by
  have h1 : x % 2 ^ lo < 2 ^ lo := Nat.mod_lt _ (Nat.two_pow_pos lo)
  unfold cut paste
  rw [Nat.shiftRight_eq_div_pow, Nat.pow_add, Nat.mul_comm (2 ^ lo), ← Nat.mul_assoc, ← Nat.add_mul,
    Nat.mul_comm (_ + _) (2 ^ lo), Nat.mul_add_div (Nat.two_pow_pos lo), Nat.div_eq_of_lt h1, Nat.add_zero,
    Nat.mul_comm _ (2 ^ w), Nat.mul_add_mod, Nat.mod_mod]

theorem testBit_paste (x lo w v i : Nat) :
    (paste x lo w v).testBit i = if i < lo ∨ lo + w ≤ i then x.testBit i else v.testBit (i - lo) := by
  have h1 : x % 2 ^ lo < 2 ^ lo := Nat.mod_lt _ (Nat.two_pow_pos lo)
  have h2 : v % 2 ^ w < 2 ^ w := Nat.mod_lt _ (Nat.two_pow_pos w)
  have h3 : (v % 2 ^ w) * 2 ^ lo + x % 2 ^ lo < 2 ^ (lo + w) := by
    have : (v % 2 ^ w) * 2 ^ lo + 2 ^ lo ≤ 2 ^ w * 2 ^ lo := by
      rw [← Nat.succ_mul]; exact Nat.mul_le_mul_right _ h2
    rw [Nat.pow_add, Nat.mul_comm (2 ^ lo)]; omega
  unfold paste
  rw [Nat.add_assoc, Nat.mul_comm _ (2 ^ (lo + w)), Nat.testBit_two_pow_mul_add _ h3, Nat.mul_comm _ (2 ^ lo),
    Nat.testBit_two_pow_mul_add _ h1, Nat.shiftRight_eq_div_pow]
  by_cases ha : i < lo
  · have : i < lo + w := by omega
    simp [ha, this]
  · by_cases hb : i < lo + w
    · have hd : ¬lo + w ≤ i := by omega
      have : i - lo < w := by omega
      simp [ha, hb, hd, this, Nat.testBit_mod_two_pow]
    · have hc : lo + w ≤ i := by omega
      simp only [ha, hb, hc, if_false, or_true, if_true, Nat.testBit_div_two_pow]
      congr 1; omega

theorem testBit_cut (x lo w i : Nat) : (cut x lo w).testBit i = (decide (i < w) && x.testBit (lo + i)) := by
  simp [cut, Nat.testBit_mod_two_pow, Nat.testBit_shiftRight]

/-- A field beside the one that is replaced keeps its value. -/
theorem cut_paste_disjoint (x lo w v lo' w' : Nat) (h : lo' + w' ≤ lo ∨ lo + w ≤ lo') :
    cut (paste x lo w v) lo' w' = cut x lo' w' := by
  apply Nat.eq_of_testBit_eq
  intro i
  rw [testBit_cut, testBit_cut, testBit_paste]
  by_cases hi : i < w'
  · rw [if_pos (by omega)]
  · simp [hi]

theorem paste_lt (x lo w v : Nat) (hx : x < 2 ^ 32) (h : lo + w ≤ 32) : paste x lo w v < 2 ^ 32 := by
  apply Nat.lt_pow_two_of_testBit
  intro i hi
  rw [testBit_paste, if_pos (by omega)]
  exact Nat.testBit_lt_two_pow (Nat.lt_of_lt_of_le hx (Nat.pow_le_pow_right (by omega) hi))

/-- A field within its register. -/
def Fld.ok (f : Fld) : Prop := f.lo + f.w ≤ 32

theorem State.rdN_put (s : State) (f : Fld) (v c : Nat) (h : f.ok) :
    (s.put f v).rdN c = if c = f.addr then paste (s.rdN f.addr) f.lo f.w v else s.rdN c := by
  unfold State.put State.wrN State.rdN
  rw [State.rd_wr]
  split
  · rw [BitVec.toNat_ofNat, Nat.mod_eq_of_lt]
    exact paste_lt _ _ _ _ (s.rd f.addr).isLt h
  · rfl

/-- A field reads as it was set. -/
theorem State.get_put (s : State) (f : Fld) (v : Nat) (h : f.ok) : (s.put f v).get f = v % 2 ^ f.w := by
  unfold State.get
  rw [State.rdN_put _ _ _ _ h, if_pos rfl, cut_paste]

/-- Setting a field leaves every field of another register, or beside it, as it was. -/
theorem State.get_put_other (s : State) (f g : Fld) (v : Nat) (h : f.ok)
    (hd : g.addr ≠ f.addr ∨ g.lo + g.w ≤ f.lo ∨ f.lo + f.w ≤ g.lo) : (s.put f v).get g = s.get g := by
  unfold State.get
  rw [State.rdN_put _ _ _ _ h]
  split
  · rename_i ha
    rcases hd with h1 | h1
    · exact absurd ha h1
    · rw [cut_paste_disjoint _ _ _ _ _ _ h1, ha]
  · rfl

/-- Every register but a field's own stays as it was when the field is set. -/
theorem State.rd_put_other (s : State) (f : Fld) (v c : Nat) (h : c ≠ f.addr) : (s.put f v).rd c = s.rd c := by
  simp [State.put, State.wrN, State.rd_wr, h]

/-! ### Flags and counters (R9) -/

theorem State.rd_sat16_other (s : State) (a c : Nat) (h : c ≠ a) : (s.sat16 a).rd c = s.rd c := by
  unfold State.sat16; split
  · simp [State.wrN, State.rd_wr, h]
  · rfl

/-- What a register reads when hardware sets a flag: as after a write of that bit. -/
theorem State.rd_setNow (s : State) (e : EvFlag) (c : Nat) : (s.setNow e).rd c = (s.put ⟨e.addr, e.bit, 1⟩ 1).rd c := rfl

/-- A setting event touches the flag's register and its counter, no other. -/
theorem State.rd_raise_other (s : State) (e : EvFlag) (c : Nat) (h1 : c ≠ e.addr) (h2 : c ≠ e.cnt) :
    (s.raise e).rd c = s.rd c := by
  rw [State.raise, State.rd_sat16_other _ _ _ h2, State.rd_setNow, State.rd_put_other _ _ _ _ h1]

/-- A flag reads 1 after a setting event. -/
theorem State.flag_raise (s : State) (e : EvFlag) (h1 : e.cnt ≠ e.addr) (h2 : e.bit < 32) : (s.raise e).flag e = true := by
  have : (s.raise e).get ⟨e.addr, e.bit, 1⟩ = 1 := by
    unfold State.raise State.get State.rdN
    rw [State.rd_sat16_other _ _ _ (Ne.symm h1)]
    exact State.get_put s ⟨e.addr, e.bit, 1⟩ 1 (by simp [Fld.ok]; omega)
  simp [State.flag, State.on, this]

/-- A setting event counts, up to 0xFFFF. -/
theorem State.rdN_raise_cnt (s : State) (e : EvFlag) (h : e.cnt ≠ e.addr) (hc : s.rdN e.cnt ≤ 0xFFFF) :
    (s.raise e).rdN e.cnt = min 0xFFFF (s.rdN e.cnt + 1) := by
  have h0 : (s.setNow e).rdN e.cnt = s.rdN e.cnt := by
    unfold State.rdN; rw [State.rd_setNow, State.rd_put_other _ ⟨e.addr, e.bit, 1⟩ _ _ h]
  unfold State.raise State.sat16
  rw [h0]
  split
  · simp [State.rdN, State.wrN, State.rd_wr] at *; omega
  · rw [h0]; omega

end Sys2Proof.Machine
end

