-- ==== Sys2Proof/Laws/State.lean ====
section
/-! SUPPORT. What each update of the state leaves as it was, field by field. -/
namespace Sys2Proof.Machine

/-! ### Vectors -/

/-- The entry that is changed. -/
@[simp] theorem upd_get_self {α : Type} {n : Nat} (v : Vector α n) (i : Fin n) (f : α → α) : (v.upd i f)[i] = f v[i] := by
  simp [Vector.upd]

/-- The entry that is changed, by its number. -/
@[simp] theorem upd_getElem_self {α : Type} {n : Nat} (v : Vector α n) (i : Fin n) (f : α → α) :
    (v.upd i f)[i.val] = f v[i.val] := by simp [Vector.upd]

/-- Every other entry. -/
theorem upd_get_other {α : Type} {n : Nat} (v : Vector α n) (i j : Fin n) (f : α → α) (h : j ≠ i) : (v.upd i f)[j] = v[j] := by
  have : i.val ≠ j.val := fun e => h (Fin.ext e.symm)
  simp [Vector.upd, this]

/-! ### The named operations -/

@[simp] theorem State.wr_now (s : State) (a : Nat) (v : Word) : (s.wr a v).now = s.now := rfl
@[simp] theorem State.wr_hiLive (s : State) (a : Nat) (v : Word) : (s.wr a v).hiLive = s.hiLive := rfl
@[simp] theorem State.wr_mem (s : State) (a : Nat) (v : Word) : (s.wr a v).mem = s.mem := rfl
@[simp] theorem State.wr_free (s : State) (a : Nat) (v : Word) : (s.wr a v).free = s.free := rfl
@[simp] theorem State.wr_rdata (s : State) (a : Nat) (v : Word) : (s.wr a v).rdata = s.rdata := rfl
@[simp] theorem State.wr_stCycles (s : State) (a : Nat) (v : Word) : (s.wr a v).stCycles = s.stCycles := rfl
@[simp] theorem State.wr_stCyclesAt (s : State) (a : Nat) (v : Word) : (s.wr a v).stCyclesAt = s.stCyclesAt := rfl
@[simp] theorem State.wr_setAt (s : State) (a : Nat) (v : Word) : (s.wr a v).setAt = s.setAt := rfl
@[simp] theorem State.wr_setFlags (s : State) (a : Nat) (v : Word) : (s.wr a v).setFlags = s.setFlags := rfl
@[simp] theorem State.wr_flagSince (s : State) (a : Nat) (v : Word) : (s.wr a v).flagSince = s.flagSince := rfl
@[simp] theorem State.wr_parked (s : State) (a : Nat) (v : Word) : (s.wr a v).parked = s.parked := rfl
@[simp] theorem State.wr_landing (s : State) (a : Nat) (v : Word) : (s.wr a v).landing = s.landing := rfl
@[simp] theorem State.wr_pending (s : State) (a : Nat) (v : Word) : (s.wr a v).pending = s.pending := rfl
@[simp] theorem State.wr_tbl (s : State) (a : Nat) (v : Word) : (s.wr a v).tbl = s.tbl := rfl
@[simp] theorem State.wr_pll (s : State) (a : Nat) (v : Word) : (s.wr a v).pll = s.pll := rfl
@[simp] theorem State.wr_modin (s : State) (a : Nat) (v : Word) : (s.wr a v).modin = s.modin := rfl
@[simp] theorem State.wr_samples (s : State) (a : Nat) (v : Word) : (s.wr a v).samples = s.samples := rfl
@[simp] theorem State.wr_samplesOld (s : State) (a : Nat) (v : Word) : (s.wr a v).samplesOld = s.samplesOld := rfl
@[simp] theorem State.wr_acu (s : State) (a : Nat) (v : Word) : (s.wr a v).acu = s.acu := rfl
@[simp] theorem State.wr_mramc (s : State) (a : Nat) (v : Word) : (s.wr a v).mramc = s.mramc := rfl
@[simp] theorem State.wr_pwm (s : State) (a : Nat) (v : Word) : (s.wr a v).pwm = s.pwm := rfl
@[simp] theorem State.wr_drive (s : State) (a : Nat) (v : Word) : (s.wr a v).drive = s.drive := rfl
@[simp] theorem State.wr_gp (s : State) (a : Nat) (v : Word) : (s.wr a v).gp = s.gp := rfl
@[simp] theorem State.wr_prot (s : State) (a : Nat) (v : Word) : (s.wr a v).prot = s.prot := rfl
@[simp] theorem State.wr_probe (s : State) (a : Nat) (v : Word) : (s.wr a v).probe = s.probe := rfl
@[simp] theorem State.wr_meter (s : State) (a : Nat) (v : Word) : (s.wr a v).meter = s.meter := rfl
@[simp] theorem State.wr_dc (s : State) (a : Nat) (v : Word) : (s.wr a v).dc = s.dc := rfl
@[simp] theorem State.wr_safe (s : State) (a : Nat) (v : Word) : (s.wr a v).safe = s.safe := rfl
@[simp] theorem State.wr_dma (s : State) (a : Nat) (v : Word) : (s.wr a v).dma = s.dma := rfl
@[simp] theorem State.wr_eth (s : State) (a : Nat) (v : Word) : (s.wr a v).eth = s.eth := rfl
@[simp] theorem State.wr_mon (s : State) (a : Nat) (v : Word) : (s.wr a v).mon = s.mon := rfl
@[simp] theorem State.wr_cpu (s : State) (a : Nat) (v : Word) : (s.wr a v).cpu = s.cpu := rfl
@[simp] theorem State.wr_rk (s : State) (a : Nat) (v : Word) : (s.wr a v).rk = s.rk := rfl
@[simp] theorem State.wr_st (s : State) (a : Nat) (v : Word) : (s.wr a v).st = s.st := rfl
@[simp] theorem State.wr_wdg (s : State) (a : Nat) (v : Word) : (s.wr a v).wdg = s.wdg := rfl
@[simp] theorem State.wr_xbar (s : State) (a : Nat) (v : Word) : (s.wr a v).xbar = s.xbar := rfl
@[simp] theorem State.wr_host (s : State) (a : Nat) (v : Word) : (s.wr a v).host = s.host := rfl
@[simp] theorem State.wr_dport (s : State) (a : Nat) (v : Word) : (s.wr a v).dport = s.dport := rfl
@[simp] theorem State.wr_sec (s : State) (a : Nat) (v : Word) : (s.wr a v).sec = s.sec := rfl
@[simp] theorem State.wr_consent (s : State) (a : Nat) (v : Word) : (s.wr a v).consent = s.consent := rfl
@[simp] theorem State.wr_link (s : State) (a : Nat) (v : Word) : (s.wr a v).link = s.link := rfl
@[simp] theorem State.wr_sentinel (s : State) (a : Nat) (v : Word) : (s.wr a v).sentinel = s.sentinel := rfl
@[simp] theorem State.wr_pmu (s : State) (a : Nat) (v : Word) : (s.wr a v).pmu = s.pmu := rfl
@[simp] theorem State.wr_gpio (s : State) (a : Nat) (v : Word) : (s.wr a v).gpio = s.gpio := rfl
@[simp] theorem State.wr_gpioPort (s : State) (a : Nat) (v : Word) : (s.wr a v).gpioPort = s.gpioPort := rfl

@[simp] theorem State.wrN_now (s : State) (a v : Nat) : (s.wrN a v).now = s.now := rfl
@[simp] theorem State.wrN_hiLive (s : State) (a v : Nat) : (s.wrN a v).hiLive = s.hiLive := rfl
@[simp] theorem State.wrN_mem (s : State) (a v : Nat) : (s.wrN a v).mem = s.mem := rfl
@[simp] theorem State.wrN_free (s : State) (a v : Nat) : (s.wrN a v).free = s.free := rfl
@[simp] theorem State.wrN_rdata (s : State) (a v : Nat) : (s.wrN a v).rdata = s.rdata := rfl
@[simp] theorem State.wrN_stCycles (s : State) (a v : Nat) : (s.wrN a v).stCycles = s.stCycles := rfl
@[simp] theorem State.wrN_stCyclesAt (s : State) (a v : Nat) : (s.wrN a v).stCyclesAt = s.stCyclesAt := rfl
@[simp] theorem State.wrN_setAt (s : State) (a v : Nat) : (s.wrN a v).setAt = s.setAt := rfl
@[simp] theorem State.wrN_setFlags (s : State) (a v : Nat) : (s.wrN a v).setFlags = s.setFlags := rfl
@[simp] theorem State.wrN_flagSince (s : State) (a v : Nat) : (s.wrN a v).flagSince = s.flagSince := rfl
@[simp] theorem State.wrN_parked (s : State) (a v : Nat) : (s.wrN a v).parked = s.parked := rfl
@[simp] theorem State.wrN_landing (s : State) (a v : Nat) : (s.wrN a v).landing = s.landing := rfl
@[simp] theorem State.wrN_pending (s : State) (a v : Nat) : (s.wrN a v).pending = s.pending := rfl
@[simp] theorem State.wrN_tbl (s : State) (a v : Nat) : (s.wrN a v).tbl = s.tbl := rfl
@[simp] theorem State.wrN_pll (s : State) (a v : Nat) : (s.wrN a v).pll = s.pll := rfl
@[simp] theorem State.wrN_modin (s : State) (a v : Nat) : (s.wrN a v).modin = s.modin := rfl
@[simp] theorem State.wrN_samples (s : State) (a v : Nat) : (s.wrN a v).samples = s.samples := rfl
@[simp] theorem State.wrN_samplesOld (s : State) (a v : Nat) : (s.wrN a v).samplesOld = s.samplesOld := rfl
@[simp] theorem State.wrN_acu (s : State) (a v : Nat) : (s.wrN a v).acu = s.acu := rfl
@[simp] theorem State.wrN_mramc (s : State) (a v : Nat) : (s.wrN a v).mramc = s.mramc := rfl
@[simp] theorem State.wrN_pwm (s : State) (a v : Nat) : (s.wrN a v).pwm = s.pwm := rfl
@[simp] theorem State.wrN_drive (s : State) (a v : Nat) : (s.wrN a v).drive = s.drive := rfl
@[simp] theorem State.wrN_gp (s : State) (a v : Nat) : (s.wrN a v).gp = s.gp := rfl
@[simp] theorem State.wrN_prot (s : State) (a v : Nat) : (s.wrN a v).prot = s.prot := rfl
@[simp] theorem State.wrN_probe (s : State) (a v : Nat) : (s.wrN a v).probe = s.probe := rfl
@[simp] theorem State.wrN_meter (s : State) (a v : Nat) : (s.wrN a v).meter = s.meter := rfl
@[simp] theorem State.wrN_dc (s : State) (a v : Nat) : (s.wrN a v).dc = s.dc := rfl
@[simp] theorem State.wrN_safe (s : State) (a v : Nat) : (s.wrN a v).safe = s.safe := rfl
@[simp] theorem State.wrN_dma (s : State) (a v : Nat) : (s.wrN a v).dma = s.dma := rfl
@[simp] theorem State.wrN_eth (s : State) (a v : Nat) : (s.wrN a v).eth = s.eth := rfl
@[simp] theorem State.wrN_mon (s : State) (a v : Nat) : (s.wrN a v).mon = s.mon := rfl
@[simp] theorem State.wrN_cpu (s : State) (a v : Nat) : (s.wrN a v).cpu = s.cpu := rfl
@[simp] theorem State.wrN_rk (s : State) (a v : Nat) : (s.wrN a v).rk = s.rk := rfl
@[simp] theorem State.wrN_st (s : State) (a v : Nat) : (s.wrN a v).st = s.st := rfl
@[simp] theorem State.wrN_wdg (s : State) (a v : Nat) : (s.wrN a v).wdg = s.wdg := rfl
@[simp] theorem State.wrN_xbar (s : State) (a v : Nat) : (s.wrN a v).xbar = s.xbar := rfl
@[simp] theorem State.wrN_host (s : State) (a v : Nat) : (s.wrN a v).host = s.host := rfl
@[simp] theorem State.wrN_dport (s : State) (a v : Nat) : (s.wrN a v).dport = s.dport := rfl
@[simp] theorem State.wrN_sec (s : State) (a v : Nat) : (s.wrN a v).sec = s.sec := rfl
@[simp] theorem State.wrN_consent (s : State) (a v : Nat) : (s.wrN a v).consent = s.consent := rfl
@[simp] theorem State.wrN_link (s : State) (a v : Nat) : (s.wrN a v).link = s.link := rfl
@[simp] theorem State.wrN_sentinel (s : State) (a v : Nat) : (s.wrN a v).sentinel = s.sentinel := rfl
@[simp] theorem State.wrN_pmu (s : State) (a v : Nat) : (s.wrN a v).pmu = s.pmu := rfl
@[simp] theorem State.wrN_gpio (s : State) (a v : Nat) : (s.wrN a v).gpio = s.gpio := rfl
@[simp] theorem State.wrN_gpioPort (s : State) (a v : Nat) : (s.wrN a v).gpioPort = s.gpioPort := rfl

@[simp] theorem State.put_now (s : State) (f : Fld) (v : Nat) : (s.put f v).now = s.now := rfl
@[simp] theorem State.put_hiLive (s : State) (f : Fld) (v : Nat) : (s.put f v).hiLive = s.hiLive := rfl
@[simp] theorem State.put_mem (s : State) (f : Fld) (v : Nat) : (s.put f v).mem = s.mem := rfl
@[simp] theorem State.put_free (s : State) (f : Fld) (v : Nat) : (s.put f v).free = s.free := rfl
@[simp] theorem State.put_rdata (s : State) (f : Fld) (v : Nat) : (s.put f v).rdata = s.rdata := rfl
@[simp] theorem State.put_stCycles (s : State) (f : Fld) (v : Nat) : (s.put f v).stCycles = s.stCycles := rfl
@[simp] theorem State.put_stCyclesAt (s : State) (f : Fld) (v : Nat) : (s.put f v).stCyclesAt = s.stCyclesAt := rfl
@[simp] theorem State.put_setAt (s : State) (f : Fld) (v : Nat) : (s.put f v).setAt = s.setAt := rfl
@[simp] theorem State.put_setFlags (s : State) (f : Fld) (v : Nat) : (s.put f v).setFlags = s.setFlags := rfl
@[simp] theorem State.put_flagSince (s : State) (f : Fld) (v : Nat) : (s.put f v).flagSince = s.flagSince := rfl
@[simp] theorem State.put_parked (s : State) (f : Fld) (v : Nat) : (s.put f v).parked = s.parked := rfl
@[simp] theorem State.put_landing (s : State) (f : Fld) (v : Nat) : (s.put f v).landing = s.landing := rfl
@[simp] theorem State.put_pending (s : State) (f : Fld) (v : Nat) : (s.put f v).pending = s.pending := rfl
@[simp] theorem State.put_tbl (s : State) (f : Fld) (v : Nat) : (s.put f v).tbl = s.tbl := rfl
@[simp] theorem State.put_pll (s : State) (f : Fld) (v : Nat) : (s.put f v).pll = s.pll := rfl
@[simp] theorem State.put_modin (s : State) (f : Fld) (v : Nat) : (s.put f v).modin = s.modin := rfl
@[simp] theorem State.put_samples (s : State) (f : Fld) (v : Nat) : (s.put f v).samples = s.samples := rfl
@[simp] theorem State.put_samplesOld (s : State) (f : Fld) (v : Nat) : (s.put f v).samplesOld = s.samplesOld := rfl
@[simp] theorem State.put_acu (s : State) (f : Fld) (v : Nat) : (s.put f v).acu = s.acu := rfl
@[simp] theorem State.put_mramc (s : State) (f : Fld) (v : Nat) : (s.put f v).mramc = s.mramc := rfl
@[simp] theorem State.put_pwm (s : State) (f : Fld) (v : Nat) : (s.put f v).pwm = s.pwm := rfl
@[simp] theorem State.put_drive (s : State) (f : Fld) (v : Nat) : (s.put f v).drive = s.drive := rfl
@[simp] theorem State.put_gp (s : State) (f : Fld) (v : Nat) : (s.put f v).gp = s.gp := rfl
@[simp] theorem State.put_prot (s : State) (f : Fld) (v : Nat) : (s.put f v).prot = s.prot := rfl
@[simp] theorem State.put_probe (s : State) (f : Fld) (v : Nat) : (s.put f v).probe = s.probe := rfl
@[simp] theorem State.put_meter (s : State) (f : Fld) (v : Nat) : (s.put f v).meter = s.meter := rfl
@[simp] theorem State.put_dc (s : State) (f : Fld) (v : Nat) : (s.put f v).dc = s.dc := rfl
@[simp] theorem State.put_safe (s : State) (f : Fld) (v : Nat) : (s.put f v).safe = s.safe := rfl
@[simp] theorem State.put_dma (s : State) (f : Fld) (v : Nat) : (s.put f v).dma = s.dma := rfl
@[simp] theorem State.put_eth (s : State) (f : Fld) (v : Nat) : (s.put f v).eth = s.eth := rfl
@[simp] theorem State.put_mon (s : State) (f : Fld) (v : Nat) : (s.put f v).mon = s.mon := rfl
@[simp] theorem State.put_cpu (s : State) (f : Fld) (v : Nat) : (s.put f v).cpu = s.cpu := rfl
@[simp] theorem State.put_rk (s : State) (f : Fld) (v : Nat) : (s.put f v).rk = s.rk := rfl
@[simp] theorem State.put_st (s : State) (f : Fld) (v : Nat) : (s.put f v).st = s.st := rfl
@[simp] theorem State.put_wdg (s : State) (f : Fld) (v : Nat) : (s.put f v).wdg = s.wdg := rfl
@[simp] theorem State.put_xbar (s : State) (f : Fld) (v : Nat) : (s.put f v).xbar = s.xbar := rfl
@[simp] theorem State.put_host (s : State) (f : Fld) (v : Nat) : (s.put f v).host = s.host := rfl
@[simp] theorem State.put_dport (s : State) (f : Fld) (v : Nat) : (s.put f v).dport = s.dport := rfl
@[simp] theorem State.put_sec (s : State) (f : Fld) (v : Nat) : (s.put f v).sec = s.sec := rfl
@[simp] theorem State.put_consent (s : State) (f : Fld) (v : Nat) : (s.put f v).consent = s.consent := rfl
@[simp] theorem State.put_link (s : State) (f : Fld) (v : Nat) : (s.put f v).link = s.link := rfl
@[simp] theorem State.put_sentinel (s : State) (f : Fld) (v : Nat) : (s.put f v).sentinel = s.sentinel := rfl
@[simp] theorem State.put_pmu (s : State) (f : Fld) (v : Nat) : (s.put f v).pmu = s.pmu := rfl
@[simp] theorem State.put_gpio (s : State) (f : Fld) (v : Nat) : (s.put f v).gpio = s.gpio := rfl
@[simp] theorem State.put_gpioPort (s : State) (f : Fld) (v : Nat) : (s.put f v).gpioPort = s.gpioPort := rfl

@[simp] theorem State.putB_now (s : State) (f : Fld) (b : Bool) : (s.putB f b).now = s.now := rfl
@[simp] theorem State.putB_hiLive (s : State) (f : Fld) (b : Bool) : (s.putB f b).hiLive = s.hiLive := rfl
@[simp] theorem State.putB_mem (s : State) (f : Fld) (b : Bool) : (s.putB f b).mem = s.mem := rfl
@[simp] theorem State.putB_free (s : State) (f : Fld) (b : Bool) : (s.putB f b).free = s.free := rfl
@[simp] theorem State.putB_rdata (s : State) (f : Fld) (b : Bool) : (s.putB f b).rdata = s.rdata := rfl
@[simp] theorem State.putB_stCycles (s : State) (f : Fld) (b : Bool) : (s.putB f b).stCycles = s.stCycles := rfl
@[simp] theorem State.putB_stCyclesAt (s : State) (f : Fld) (b : Bool) : (s.putB f b).stCyclesAt = s.stCyclesAt := rfl
@[simp] theorem State.putB_setAt (s : State) (f : Fld) (b : Bool) : (s.putB f b).setAt = s.setAt := rfl
@[simp] theorem State.putB_setFlags (s : State) (f : Fld) (b : Bool) : (s.putB f b).setFlags = s.setFlags := rfl
@[simp] theorem State.putB_flagSince (s : State) (f : Fld) (b : Bool) : (s.putB f b).flagSince = s.flagSince := rfl
@[simp] theorem State.putB_parked (s : State) (f : Fld) (b : Bool) : (s.putB f b).parked = s.parked := rfl
@[simp] theorem State.putB_landing (s : State) (f : Fld) (b : Bool) : (s.putB f b).landing = s.landing := rfl
@[simp] theorem State.putB_pending (s : State) (f : Fld) (b : Bool) : (s.putB f b).pending = s.pending := rfl
@[simp] theorem State.putB_tbl (s : State) (f : Fld) (b : Bool) : (s.putB f b).tbl = s.tbl := rfl
@[simp] theorem State.putB_pll (s : State) (f : Fld) (b : Bool) : (s.putB f b).pll = s.pll := rfl
@[simp] theorem State.putB_modin (s : State) (f : Fld) (b : Bool) : (s.putB f b).modin = s.modin := rfl
@[simp] theorem State.putB_samples (s : State) (f : Fld) (b : Bool) : (s.putB f b).samples = s.samples := rfl
@[simp] theorem State.putB_samplesOld (s : State) (f : Fld) (b : Bool) : (s.putB f b).samplesOld = s.samplesOld := rfl
@[simp] theorem State.putB_acu (s : State) (f : Fld) (b : Bool) : (s.putB f b).acu = s.acu := rfl
@[simp] theorem State.putB_mramc (s : State) (f : Fld) (b : Bool) : (s.putB f b).mramc = s.mramc := rfl
@[simp] theorem State.putB_pwm (s : State) (f : Fld) (b : Bool) : (s.putB f b).pwm = s.pwm := rfl
@[simp] theorem State.putB_drive (s : State) (f : Fld) (b : Bool) : (s.putB f b).drive = s.drive := rfl
@[simp] theorem State.putB_gp (s : State) (f : Fld) (b : Bool) : (s.putB f b).gp = s.gp := rfl
@[simp] theorem State.putB_prot (s : State) (f : Fld) (b : Bool) : (s.putB f b).prot = s.prot := rfl
@[simp] theorem State.putB_probe (s : State) (f : Fld) (b : Bool) : (s.putB f b).probe = s.probe := rfl
@[simp] theorem State.putB_meter (s : State) (f : Fld) (b : Bool) : (s.putB f b).meter = s.meter := rfl
@[simp] theorem State.putB_dc (s : State) (f : Fld) (b : Bool) : (s.putB f b).dc = s.dc := rfl
@[simp] theorem State.putB_safe (s : State) (f : Fld) (b : Bool) : (s.putB f b).safe = s.safe := rfl
@[simp] theorem State.putB_dma (s : State) (f : Fld) (b : Bool) : (s.putB f b).dma = s.dma := rfl
@[simp] theorem State.putB_eth (s : State) (f : Fld) (b : Bool) : (s.putB f b).eth = s.eth := rfl
@[simp] theorem State.putB_mon (s : State) (f : Fld) (b : Bool) : (s.putB f b).mon = s.mon := rfl
@[simp] theorem State.putB_cpu (s : State) (f : Fld) (b : Bool) : (s.putB f b).cpu = s.cpu := rfl
@[simp] theorem State.putB_rk (s : State) (f : Fld) (b : Bool) : (s.putB f b).rk = s.rk := rfl
@[simp] theorem State.putB_st (s : State) (f : Fld) (b : Bool) : (s.putB f b).st = s.st := rfl
@[simp] theorem State.putB_wdg (s : State) (f : Fld) (b : Bool) : (s.putB f b).wdg = s.wdg := rfl
@[simp] theorem State.putB_xbar (s : State) (f : Fld) (b : Bool) : (s.putB f b).xbar = s.xbar := rfl
@[simp] theorem State.putB_host (s : State) (f : Fld) (b : Bool) : (s.putB f b).host = s.host := rfl
@[simp] theorem State.putB_dport (s : State) (f : Fld) (b : Bool) : (s.putB f b).dport = s.dport := rfl
@[simp] theorem State.putB_sec (s : State) (f : Fld) (b : Bool) : (s.putB f b).sec = s.sec := rfl
@[simp] theorem State.putB_consent (s : State) (f : Fld) (b : Bool) : (s.putB f b).consent = s.consent := rfl
@[simp] theorem State.putB_link (s : State) (f : Fld) (b : Bool) : (s.putB f b).link = s.link := rfl
@[simp] theorem State.putB_sentinel (s : State) (f : Fld) (b : Bool) : (s.putB f b).sentinel = s.sentinel := rfl
@[simp] theorem State.putB_pmu (s : State) (f : Fld) (b : Bool) : (s.putB f b).pmu = s.pmu := rfl
@[simp] theorem State.putB_gpio (s : State) (f : Fld) (b : Bool) : (s.putB f b).gpio = s.gpio := rfl
@[simp] theorem State.putB_gpioPort (s : State) (f : Fld) (b : Bool) : (s.putB f b).gpioPort = s.gpioPort := rfl

@[simp] theorem State.memWr_now (s : State) (a n v : Nat) : (s.memWr a n v).now = s.now := rfl
@[simp] theorem State.memWr_regs (s : State) (a n v : Nat) : (s.memWr a n v).regs = s.regs := rfl
@[simp] theorem State.memWr_hiLive (s : State) (a n v : Nat) : (s.memWr a n v).hiLive = s.hiLive := rfl
@[simp] theorem State.memWr_free (s : State) (a n v : Nat) : (s.memWr a n v).free = s.free := rfl
@[simp] theorem State.memWr_rdata (s : State) (a n v : Nat) : (s.memWr a n v).rdata = s.rdata := rfl
@[simp] theorem State.memWr_stCycles (s : State) (a n v : Nat) : (s.memWr a n v).stCycles = s.stCycles := rfl
@[simp] theorem State.memWr_stCyclesAt (s : State) (a n v : Nat) : (s.memWr a n v).stCyclesAt = s.stCyclesAt := rfl
@[simp] theorem State.memWr_setAt (s : State) (a n v : Nat) : (s.memWr a n v).setAt = s.setAt := rfl
@[simp] theorem State.memWr_setFlags (s : State) (a n v : Nat) : (s.memWr a n v).setFlags = s.setFlags := rfl
@[simp] theorem State.memWr_flagSince (s : State) (a n v : Nat) : (s.memWr a n v).flagSince = s.flagSince := rfl
@[simp] theorem State.memWr_parked (s : State) (a n v : Nat) : (s.memWr a n v).parked = s.parked := rfl
@[simp] theorem State.memWr_landing (s : State) (a n v : Nat) : (s.memWr a n v).landing = s.landing := rfl
@[simp] theorem State.memWr_pending (s : State) (a n v : Nat) : (s.memWr a n v).pending = s.pending := rfl
@[simp] theorem State.memWr_tbl (s : State) (a n v : Nat) : (s.memWr a n v).tbl = s.tbl := rfl
@[simp] theorem State.memWr_pll (s : State) (a n v : Nat) : (s.memWr a n v).pll = s.pll := rfl
@[simp] theorem State.memWr_modin (s : State) (a n v : Nat) : (s.memWr a n v).modin = s.modin := rfl
@[simp] theorem State.memWr_samples (s : State) (a n v : Nat) : (s.memWr a n v).samples = s.samples := rfl
@[simp] theorem State.memWr_samplesOld (s : State) (a n v : Nat) : (s.memWr a n v).samplesOld = s.samplesOld := rfl
@[simp] theorem State.memWr_acu (s : State) (a n v : Nat) : (s.memWr a n v).acu = s.acu := rfl
@[simp] theorem State.memWr_mramc (s : State) (a n v : Nat) : (s.memWr a n v).mramc = s.mramc := rfl
@[simp] theorem State.memWr_pwm (s : State) (a n v : Nat) : (s.memWr a n v).pwm = s.pwm := rfl
@[simp] theorem State.memWr_drive (s : State) (a n v : Nat) : (s.memWr a n v).drive = s.drive := rfl
@[simp] theorem State.memWr_gp (s : State) (a n v : Nat) : (s.memWr a n v).gp = s.gp := rfl
@[simp] theorem State.memWr_prot (s : State) (a n v : Nat) : (s.memWr a n v).prot = s.prot := rfl
@[simp] theorem State.memWr_probe (s : State) (a n v : Nat) : (s.memWr a n v).probe = s.probe := rfl
@[simp] theorem State.memWr_meter (s : State) (a n v : Nat) : (s.memWr a n v).meter = s.meter := rfl
@[simp] theorem State.memWr_dc (s : State) (a n v : Nat) : (s.memWr a n v).dc = s.dc := rfl
@[simp] theorem State.memWr_safe (s : State) (a n v : Nat) : (s.memWr a n v).safe = s.safe := rfl
@[simp] theorem State.memWr_dma (s : State) (a n v : Nat) : (s.memWr a n v).dma = s.dma := rfl
@[simp] theorem State.memWr_eth (s : State) (a n v : Nat) : (s.memWr a n v).eth = s.eth := rfl
@[simp] theorem State.memWr_mon (s : State) (a n v : Nat) : (s.memWr a n v).mon = s.mon := rfl
@[simp] theorem State.memWr_cpu (s : State) (a n v : Nat) : (s.memWr a n v).cpu = s.cpu := rfl
@[simp] theorem State.memWr_rk (s : State) (a n v : Nat) : (s.memWr a n v).rk = s.rk := rfl
@[simp] theorem State.memWr_st (s : State) (a n v : Nat) : (s.memWr a n v).st = s.st := rfl
@[simp] theorem State.memWr_wdg (s : State) (a n v : Nat) : (s.memWr a n v).wdg = s.wdg := rfl
@[simp] theorem State.memWr_xbar (s : State) (a n v : Nat) : (s.memWr a n v).xbar = s.xbar := rfl
@[simp] theorem State.memWr_host (s : State) (a n v : Nat) : (s.memWr a n v).host = s.host := rfl
@[simp] theorem State.memWr_dport (s : State) (a n v : Nat) : (s.memWr a n v).dport = s.dport := rfl
@[simp] theorem State.memWr_sec (s : State) (a n v : Nat) : (s.memWr a n v).sec = s.sec := rfl
@[simp] theorem State.memWr_consent (s : State) (a n v : Nat) : (s.memWr a n v).consent = s.consent := rfl
@[simp] theorem State.memWr_link (s : State) (a n v : Nat) : (s.memWr a n v).link = s.link := rfl
@[simp] theorem State.memWr_sentinel (s : State) (a n v : Nat) : (s.memWr a n v).sentinel = s.sentinel := rfl
@[simp] theorem State.memWr_pmu (s : State) (a n v : Nat) : (s.memWr a n v).pmu = s.pmu := rfl
@[simp] theorem State.memWr_gpio (s : State) (a n v : Nat) : (s.memWr a n v).gpio = s.gpio := rfl
@[simp] theorem State.memWr_gpioPort (s : State) (a n v : Nat) : (s.memWr a n v).gpioPort = s.gpioPort := rfl

@[simp] theorem State.answer_now (s : State) (v : Nat) : (s.answer v).now = s.now := rfl
@[simp] theorem State.answer_regs (s : State) (v : Nat) : (s.answer v).regs = s.regs := rfl
@[simp] theorem State.answer_hiLive (s : State) (v : Nat) : (s.answer v).hiLive = s.hiLive := rfl
@[simp] theorem State.answer_mem (s : State) (v : Nat) : (s.answer v).mem = s.mem := rfl
@[simp] theorem State.answer_free (s : State) (v : Nat) : (s.answer v).free = s.free := rfl
@[simp] theorem State.answer_stCycles (s : State) (v : Nat) : (s.answer v).stCycles = s.stCycles := rfl
@[simp] theorem State.answer_stCyclesAt (s : State) (v : Nat) : (s.answer v).stCyclesAt = s.stCyclesAt := rfl
@[simp] theorem State.answer_setAt (s : State) (v : Nat) : (s.answer v).setAt = s.setAt := rfl
@[simp] theorem State.answer_setFlags (s : State) (v : Nat) : (s.answer v).setFlags = s.setFlags := rfl
@[simp] theorem State.answer_flagSince (s : State) (v : Nat) : (s.answer v).flagSince = s.flagSince := rfl
@[simp] theorem State.answer_parked (s : State) (v : Nat) : (s.answer v).parked = s.parked := rfl
@[simp] theorem State.answer_landing (s : State) (v : Nat) : (s.answer v).landing = s.landing := rfl
@[simp] theorem State.answer_pending (s : State) (v : Nat) : (s.answer v).pending = s.pending := rfl
@[simp] theorem State.answer_tbl (s : State) (v : Nat) : (s.answer v).tbl = s.tbl := rfl
@[simp] theorem State.answer_pll (s : State) (v : Nat) : (s.answer v).pll = s.pll := rfl
@[simp] theorem State.answer_modin (s : State) (v : Nat) : (s.answer v).modin = s.modin := rfl
@[simp] theorem State.answer_samples (s : State) (v : Nat) : (s.answer v).samples = s.samples := rfl
@[simp] theorem State.answer_samplesOld (s : State) (v : Nat) : (s.answer v).samplesOld = s.samplesOld := rfl
@[simp] theorem State.answer_acu (s : State) (v : Nat) : (s.answer v).acu = s.acu := rfl
@[simp] theorem State.answer_mramc (s : State) (v : Nat) : (s.answer v).mramc = s.mramc := rfl
@[simp] theorem State.answer_pwm (s : State) (v : Nat) : (s.answer v).pwm = s.pwm := rfl
@[simp] theorem State.answer_drive (s : State) (v : Nat) : (s.answer v).drive = s.drive := rfl
@[simp] theorem State.answer_gp (s : State) (v : Nat) : (s.answer v).gp = s.gp := rfl
@[simp] theorem State.answer_prot (s : State) (v : Nat) : (s.answer v).prot = s.prot := rfl
@[simp] theorem State.answer_probe (s : State) (v : Nat) : (s.answer v).probe = s.probe := rfl
@[simp] theorem State.answer_meter (s : State) (v : Nat) : (s.answer v).meter = s.meter := rfl
@[simp] theorem State.answer_dc (s : State) (v : Nat) : (s.answer v).dc = s.dc := rfl
@[simp] theorem State.answer_safe (s : State) (v : Nat) : (s.answer v).safe = s.safe := rfl
@[simp] theorem State.answer_dma (s : State) (v : Nat) : (s.answer v).dma = s.dma := rfl
@[simp] theorem State.answer_eth (s : State) (v : Nat) : (s.answer v).eth = s.eth := rfl
@[simp] theorem State.answer_mon (s : State) (v : Nat) : (s.answer v).mon = s.mon := rfl
@[simp] theorem State.answer_cpu (s : State) (v : Nat) : (s.answer v).cpu = s.cpu := rfl
@[simp] theorem State.answer_rk (s : State) (v : Nat) : (s.answer v).rk = s.rk := rfl
@[simp] theorem State.answer_st (s : State) (v : Nat) : (s.answer v).st = s.st := rfl
@[simp] theorem State.answer_wdg (s : State) (v : Nat) : (s.answer v).wdg = s.wdg := rfl
@[simp] theorem State.answer_xbar (s : State) (v : Nat) : (s.answer v).xbar = s.xbar := rfl
@[simp] theorem State.answer_host (s : State) (v : Nat) : (s.answer v).host = s.host := rfl
@[simp] theorem State.answer_dport (s : State) (v : Nat) : (s.answer v).dport = s.dport := rfl
@[simp] theorem State.answer_sec (s : State) (v : Nat) : (s.answer v).sec = s.sec := rfl
@[simp] theorem State.answer_consent (s : State) (v : Nat) : (s.answer v).consent = s.consent := rfl
@[simp] theorem State.answer_link (s : State) (v : Nat) : (s.answer v).link = s.link := rfl
@[simp] theorem State.answer_sentinel (s : State) (v : Nat) : (s.answer v).sentinel = s.sentinel := rfl
@[simp] theorem State.answer_pmu (s : State) (v : Nat) : (s.answer v).pmu = s.pmu := rfl
@[simp] theorem State.answer_gpio (s : State) (v : Nat) : (s.answer v).gpio = s.gpio := rfl
@[simp] theorem State.answer_gpioPort (s : State) (v : Nat) : (s.answer v).gpioPort = s.gpioPort := rfl

@[simp] theorem State.setStamp_now (s : State) (a v : Nat) : (s.setStamp a v).now = s.now := rfl
@[simp] theorem State.setStamp_mem (s : State) (a v : Nat) : (s.setStamp a v).mem = s.mem := rfl
@[simp] theorem State.setStamp_free (s : State) (a v : Nat) : (s.setStamp a v).free = s.free := rfl
@[simp] theorem State.setStamp_rdata (s : State) (a v : Nat) : (s.setStamp a v).rdata = s.rdata := rfl
@[simp] theorem State.setStamp_stCycles (s : State) (a v : Nat) : (s.setStamp a v).stCycles = s.stCycles := rfl
@[simp] theorem State.setStamp_stCyclesAt (s : State) (a v : Nat) : (s.setStamp a v).stCyclesAt = s.stCyclesAt := rfl
@[simp] theorem State.setStamp_setAt (s : State) (a v : Nat) : (s.setStamp a v).setAt = s.setAt := rfl
@[simp] theorem State.setStamp_setFlags (s : State) (a v : Nat) : (s.setStamp a v).setFlags = s.setFlags := rfl
@[simp] theorem State.setStamp_flagSince (s : State) (a v : Nat) : (s.setStamp a v).flagSince = s.flagSince := rfl
@[simp] theorem State.setStamp_parked (s : State) (a v : Nat) : (s.setStamp a v).parked = s.parked := rfl
@[simp] theorem State.setStamp_landing (s : State) (a v : Nat) : (s.setStamp a v).landing = s.landing := rfl
@[simp] theorem State.setStamp_pending (s : State) (a v : Nat) : (s.setStamp a v).pending = s.pending := rfl
@[simp] theorem State.setStamp_tbl (s : State) (a v : Nat) : (s.setStamp a v).tbl = s.tbl := rfl
@[simp] theorem State.setStamp_pll (s : State) (a v : Nat) : (s.setStamp a v).pll = s.pll := rfl
@[simp] theorem State.setStamp_modin (s : State) (a v : Nat) : (s.setStamp a v).modin = s.modin := rfl
@[simp] theorem State.setStamp_samples (s : State) (a v : Nat) : (s.setStamp a v).samples = s.samples := rfl
@[simp] theorem State.setStamp_samplesOld (s : State) (a v : Nat) : (s.setStamp a v).samplesOld = s.samplesOld := rfl
@[simp] theorem State.setStamp_acu (s : State) (a v : Nat) : (s.setStamp a v).acu = s.acu := rfl
@[simp] theorem State.setStamp_mramc (s : State) (a v : Nat) : (s.setStamp a v).mramc = s.mramc := rfl
@[simp] theorem State.setStamp_pwm (s : State) (a v : Nat) : (s.setStamp a v).pwm = s.pwm := rfl
@[simp] theorem State.setStamp_drive (s : State) (a v : Nat) : (s.setStamp a v).drive = s.drive := rfl
@[simp] theorem State.setStamp_gp (s : State) (a v : Nat) : (s.setStamp a v).gp = s.gp := rfl
@[simp] theorem State.setStamp_prot (s : State) (a v : Nat) : (s.setStamp a v).prot = s.prot := rfl
@[simp] theorem State.setStamp_probe (s : State) (a v : Nat) : (s.setStamp a v).probe = s.probe := rfl
@[simp] theorem State.setStamp_meter (s : State) (a v : Nat) : (s.setStamp a v).meter = s.meter := rfl
@[simp] theorem State.setStamp_dc (s : State) (a v : Nat) : (s.setStamp a v).dc = s.dc := rfl
@[simp] theorem State.setStamp_safe (s : State) (a v : Nat) : (s.setStamp a v).safe = s.safe := rfl
@[simp] theorem State.setStamp_dma (s : State) (a v : Nat) : (s.setStamp a v).dma = s.dma := rfl
@[simp] theorem State.setStamp_eth (s : State) (a v : Nat) : (s.setStamp a v).eth = s.eth := rfl
@[simp] theorem State.setStamp_mon (s : State) (a v : Nat) : (s.setStamp a v).mon = s.mon := rfl
@[simp] theorem State.setStamp_cpu (s : State) (a v : Nat) : (s.setStamp a v).cpu = s.cpu := rfl
@[simp] theorem State.setStamp_rk (s : State) (a v : Nat) : (s.setStamp a v).rk = s.rk := rfl
@[simp] theorem State.setStamp_st (s : State) (a v : Nat) : (s.setStamp a v).st = s.st := rfl
@[simp] theorem State.setStamp_wdg (s : State) (a v : Nat) : (s.setStamp a v).wdg = s.wdg := rfl
@[simp] theorem State.setStamp_xbar (s : State) (a v : Nat) : (s.setStamp a v).xbar = s.xbar := rfl
@[simp] theorem State.setStamp_host (s : State) (a v : Nat) : (s.setStamp a v).host = s.host := rfl
@[simp] theorem State.setStamp_dport (s : State) (a v : Nat) : (s.setStamp a v).dport = s.dport := rfl
@[simp] theorem State.setStamp_sec (s : State) (a v : Nat) : (s.setStamp a v).sec = s.sec := rfl
@[simp] theorem State.setStamp_consent (s : State) (a v : Nat) : (s.setStamp a v).consent = s.consent := rfl
@[simp] theorem State.setStamp_link (s : State) (a v : Nat) : (s.setStamp a v).link = s.link := rfl
@[simp] theorem State.setStamp_sentinel (s : State) (a v : Nat) : (s.setStamp a v).sentinel = s.sentinel := rfl
@[simp] theorem State.setStamp_pmu (s : State) (a v : Nat) : (s.setStamp a v).pmu = s.pmu := rfl
@[simp] theorem State.setStamp_gpio (s : State) (a v : Nat) : (s.setStamp a v).gpio = s.gpio := rfl
@[simp] theorem State.setStamp_gpioPort (s : State) (a v : Nat) : (s.setStamp a v).gpioPort = s.gpioPort := rfl

@[simp] theorem State.latchHi_now (s : State) (a : Nat) : (s.latchHi a).now = s.now := rfl
@[simp] theorem State.latchHi_hiLive (s : State) (a : Nat) : (s.latchHi a).hiLive = s.hiLive := rfl
@[simp] theorem State.latchHi_mem (s : State) (a : Nat) : (s.latchHi a).mem = s.mem := rfl
@[simp] theorem State.latchHi_free (s : State) (a : Nat) : (s.latchHi a).free = s.free := rfl
@[simp] theorem State.latchHi_rdata (s : State) (a : Nat) : (s.latchHi a).rdata = s.rdata := rfl
@[simp] theorem State.latchHi_stCycles (s : State) (a : Nat) : (s.latchHi a).stCycles = s.stCycles := rfl
@[simp] theorem State.latchHi_stCyclesAt (s : State) (a : Nat) : (s.latchHi a).stCyclesAt = s.stCyclesAt := rfl
@[simp] theorem State.latchHi_setAt (s : State) (a : Nat) : (s.latchHi a).setAt = s.setAt := rfl
@[simp] theorem State.latchHi_setFlags (s : State) (a : Nat) : (s.latchHi a).setFlags = s.setFlags := rfl
@[simp] theorem State.latchHi_flagSince (s : State) (a : Nat) : (s.latchHi a).flagSince = s.flagSince := rfl
@[simp] theorem State.latchHi_parked (s : State) (a : Nat) : (s.latchHi a).parked = s.parked := rfl
@[simp] theorem State.latchHi_landing (s : State) (a : Nat) : (s.latchHi a).landing = s.landing := rfl
@[simp] theorem State.latchHi_pending (s : State) (a : Nat) : (s.latchHi a).pending = s.pending := rfl
@[simp] theorem State.latchHi_tbl (s : State) (a : Nat) : (s.latchHi a).tbl = s.tbl := rfl
@[simp] theorem State.latchHi_pll (s : State) (a : Nat) : (s.latchHi a).pll = s.pll := rfl
@[simp] theorem State.latchHi_modin (s : State) (a : Nat) : (s.latchHi a).modin = s.modin := rfl
@[simp] theorem State.latchHi_samples (s : State) (a : Nat) : (s.latchHi a).samples = s.samples := rfl
@[simp] theorem State.latchHi_samplesOld (s : State) (a : Nat) : (s.latchHi a).samplesOld = s.samplesOld := rfl
@[simp] theorem State.latchHi_acu (s : State) (a : Nat) : (s.latchHi a).acu = s.acu := rfl
@[simp] theorem State.latchHi_mramc (s : State) (a : Nat) : (s.latchHi a).mramc = s.mramc := rfl
@[simp] theorem State.latchHi_pwm (s : State) (a : Nat) : (s.latchHi a).pwm = s.pwm := rfl
@[simp] theorem State.latchHi_drive (s : State) (a : Nat) : (s.latchHi a).drive = s.drive := rfl
@[simp] theorem State.latchHi_gp (s : State) (a : Nat) : (s.latchHi a).gp = s.gp := rfl
@[simp] theorem State.latchHi_prot (s : State) (a : Nat) : (s.latchHi a).prot = s.prot := rfl
@[simp] theorem State.latchHi_probe (s : State) (a : Nat) : (s.latchHi a).probe = s.probe := rfl
@[simp] theorem State.latchHi_meter (s : State) (a : Nat) : (s.latchHi a).meter = s.meter := rfl
@[simp] theorem State.latchHi_dc (s : State) (a : Nat) : (s.latchHi a).dc = s.dc := rfl
@[simp] theorem State.latchHi_safe (s : State) (a : Nat) : (s.latchHi a).safe = s.safe := rfl
@[simp] theorem State.latchHi_dma (s : State) (a : Nat) : (s.latchHi a).dma = s.dma := rfl
@[simp] theorem State.latchHi_eth (s : State) (a : Nat) : (s.latchHi a).eth = s.eth := rfl
@[simp] theorem State.latchHi_mon (s : State) (a : Nat) : (s.latchHi a).mon = s.mon := rfl
@[simp] theorem State.latchHi_cpu (s : State) (a : Nat) : (s.latchHi a).cpu = s.cpu := rfl
@[simp] theorem State.latchHi_rk (s : State) (a : Nat) : (s.latchHi a).rk = s.rk := rfl
@[simp] theorem State.latchHi_st (s : State) (a : Nat) : (s.latchHi a).st = s.st := rfl
@[simp] theorem State.latchHi_wdg (s : State) (a : Nat) : (s.latchHi a).wdg = s.wdg := rfl
@[simp] theorem State.latchHi_xbar (s : State) (a : Nat) : (s.latchHi a).xbar = s.xbar := rfl
@[simp] theorem State.latchHi_host (s : State) (a : Nat) : (s.latchHi a).host = s.host := rfl
@[simp] theorem State.latchHi_dport (s : State) (a : Nat) : (s.latchHi a).dport = s.dport := rfl
@[simp] theorem State.latchHi_sec (s : State) (a : Nat) : (s.latchHi a).sec = s.sec := rfl
@[simp] theorem State.latchHi_consent (s : State) (a : Nat) : (s.latchHi a).consent = s.consent := rfl
@[simp] theorem State.latchHi_link (s : State) (a : Nat) : (s.latchHi a).link = s.link := rfl
@[simp] theorem State.latchHi_sentinel (s : State) (a : Nat) : (s.latchHi a).sentinel = s.sentinel := rfl
@[simp] theorem State.latchHi_pmu (s : State) (a : Nat) : (s.latchHi a).pmu = s.pmu := rfl
@[simp] theorem State.latchHi_gpio (s : State) (a : Nat) : (s.latchHi a).gpio = s.gpio := rfl
@[simp] theorem State.latchHi_gpioPort (s : State) (a : Nat) : (s.latchHi a).gpioPort = s.gpioPort := rfl

@[simp] theorem State.inc32_now (s : State) (a : Nat) : (s.inc32 a).now = s.now := rfl
@[simp] theorem State.inc32_hiLive (s : State) (a : Nat) : (s.inc32 a).hiLive = s.hiLive := rfl
@[simp] theorem State.inc32_mem (s : State) (a : Nat) : (s.inc32 a).mem = s.mem := rfl
@[simp] theorem State.inc32_free (s : State) (a : Nat) : (s.inc32 a).free = s.free := rfl
@[simp] theorem State.inc32_rdata (s : State) (a : Nat) : (s.inc32 a).rdata = s.rdata := rfl
@[simp] theorem State.inc32_stCycles (s : State) (a : Nat) : (s.inc32 a).stCycles = s.stCycles := rfl
@[simp] theorem State.inc32_stCyclesAt (s : State) (a : Nat) : (s.inc32 a).stCyclesAt = s.stCyclesAt := rfl
@[simp] theorem State.inc32_setAt (s : State) (a : Nat) : (s.inc32 a).setAt = s.setAt := rfl
@[simp] theorem State.inc32_setFlags (s : State) (a : Nat) : (s.inc32 a).setFlags = s.setFlags := rfl
@[simp] theorem State.inc32_flagSince (s : State) (a : Nat) : (s.inc32 a).flagSince = s.flagSince := rfl
@[simp] theorem State.inc32_parked (s : State) (a : Nat) : (s.inc32 a).parked = s.parked := rfl
@[simp] theorem State.inc32_landing (s : State) (a : Nat) : (s.inc32 a).landing = s.landing := rfl
@[simp] theorem State.inc32_pending (s : State) (a : Nat) : (s.inc32 a).pending = s.pending := rfl
@[simp] theorem State.inc32_tbl (s : State) (a : Nat) : (s.inc32 a).tbl = s.tbl := rfl
@[simp] theorem State.inc32_pll (s : State) (a : Nat) : (s.inc32 a).pll = s.pll := rfl
@[simp] theorem State.inc32_modin (s : State) (a : Nat) : (s.inc32 a).modin = s.modin := rfl
@[simp] theorem State.inc32_samples (s : State) (a : Nat) : (s.inc32 a).samples = s.samples := rfl
@[simp] theorem State.inc32_samplesOld (s : State) (a : Nat) : (s.inc32 a).samplesOld = s.samplesOld := rfl
@[simp] theorem State.inc32_acu (s : State) (a : Nat) : (s.inc32 a).acu = s.acu := rfl
@[simp] theorem State.inc32_mramc (s : State) (a : Nat) : (s.inc32 a).mramc = s.mramc := rfl
@[simp] theorem State.inc32_pwm (s : State) (a : Nat) : (s.inc32 a).pwm = s.pwm := rfl
@[simp] theorem State.inc32_drive (s : State) (a : Nat) : (s.inc32 a).drive = s.drive := rfl
@[simp] theorem State.inc32_gp (s : State) (a : Nat) : (s.inc32 a).gp = s.gp := rfl
@[simp] theorem State.inc32_prot (s : State) (a : Nat) : (s.inc32 a).prot = s.prot := rfl
@[simp] theorem State.inc32_probe (s : State) (a : Nat) : (s.inc32 a).probe = s.probe := rfl
@[simp] theorem State.inc32_meter (s : State) (a : Nat) : (s.inc32 a).meter = s.meter := rfl
@[simp] theorem State.inc32_dc (s : State) (a : Nat) : (s.inc32 a).dc = s.dc := rfl
@[simp] theorem State.inc32_safe (s : State) (a : Nat) : (s.inc32 a).safe = s.safe := rfl
@[simp] theorem State.inc32_dma (s : State) (a : Nat) : (s.inc32 a).dma = s.dma := rfl
@[simp] theorem State.inc32_eth (s : State) (a : Nat) : (s.inc32 a).eth = s.eth := rfl
@[simp] theorem State.inc32_mon (s : State) (a : Nat) : (s.inc32 a).mon = s.mon := rfl
@[simp] theorem State.inc32_cpu (s : State) (a : Nat) : (s.inc32 a).cpu = s.cpu := rfl
@[simp] theorem State.inc32_rk (s : State) (a : Nat) : (s.inc32 a).rk = s.rk := rfl
@[simp] theorem State.inc32_st (s : State) (a : Nat) : (s.inc32 a).st = s.st := rfl
@[simp] theorem State.inc32_wdg (s : State) (a : Nat) : (s.inc32 a).wdg = s.wdg := rfl
@[simp] theorem State.inc32_xbar (s : State) (a : Nat) : (s.inc32 a).xbar = s.xbar := rfl
@[simp] theorem State.inc32_host (s : State) (a : Nat) : (s.inc32 a).host = s.host := rfl
@[simp] theorem State.inc32_dport (s : State) (a : Nat) : (s.inc32 a).dport = s.dport := rfl
@[simp] theorem State.inc32_sec (s : State) (a : Nat) : (s.inc32 a).sec = s.sec := rfl
@[simp] theorem State.inc32_consent (s : State) (a : Nat) : (s.inc32 a).consent = s.consent := rfl
@[simp] theorem State.inc32_link (s : State) (a : Nat) : (s.inc32 a).link = s.link := rfl
@[simp] theorem State.inc32_sentinel (s : State) (a : Nat) : (s.inc32 a).sentinel = s.sentinel := rfl
@[simp] theorem State.inc32_pmu (s : State) (a : Nat) : (s.inc32 a).pmu = s.pmu := rfl
@[simp] theorem State.inc32_gpio (s : State) (a : Nat) : (s.inc32 a).gpio = s.gpio := rfl
@[simp] theorem State.inc32_gpioPort (s : State) (a : Nat) : (s.inc32 a).gpioPort = s.gpioPort := rfl

@[simp] theorem State.sat16_now (s : State) (a : Nat) : (s.sat16 a).now = s.now := by unfold State.sat16; split <;> rfl
@[simp] theorem State.sat16_hiLive (s : State) (a : Nat) : (s.sat16 a).hiLive = s.hiLive := by unfold State.sat16; split <;> rfl
@[simp] theorem State.sat16_mem (s : State) (a : Nat) : (s.sat16 a).mem = s.mem := by unfold State.sat16; split <;> rfl
@[simp] theorem State.sat16_free (s : State) (a : Nat) : (s.sat16 a).free = s.free := by unfold State.sat16; split <;> rfl
@[simp] theorem State.sat16_rdata (s : State) (a : Nat) : (s.sat16 a).rdata = s.rdata := by unfold State.sat16; split <;> rfl
@[simp] theorem State.sat16_stCycles (s : State) (a : Nat) : (s.sat16 a).stCycles = s.stCycles := by unfold State.sat16; split <;> rfl
@[simp] theorem State.sat16_stCyclesAt (s : State) (a : Nat) : (s.sat16 a).stCyclesAt = s.stCyclesAt := by unfold State.sat16; split <;> rfl
@[simp] theorem State.sat16_setAt (s : State) (a : Nat) : (s.sat16 a).setAt = s.setAt := by unfold State.sat16; split <;> rfl
@[simp] theorem State.sat16_setFlags (s : State) (a : Nat) : (s.sat16 a).setFlags = s.setFlags := by unfold State.sat16; split <;> rfl
@[simp] theorem State.sat16_flagSince (s : State) (a : Nat) : (s.sat16 a).flagSince = s.flagSince := by unfold State.sat16; split <;> rfl
@[simp] theorem State.sat16_parked (s : State) (a : Nat) : (s.sat16 a).parked = s.parked := by unfold State.sat16; split <;> rfl
@[simp] theorem State.sat16_landing (s : State) (a : Nat) : (s.sat16 a).landing = s.landing := by unfold State.sat16; split <;> rfl
@[simp] theorem State.sat16_pending (s : State) (a : Nat) : (s.sat16 a).pending = s.pending := by unfold State.sat16; split <;> rfl
@[simp] theorem State.sat16_tbl (s : State) (a : Nat) : (s.sat16 a).tbl = s.tbl := by unfold State.sat16; split <;> rfl
@[simp] theorem State.sat16_pll (s : State) (a : Nat) : (s.sat16 a).pll = s.pll := by unfold State.sat16; split <;> rfl
@[simp] theorem State.sat16_modin (s : State) (a : Nat) : (s.sat16 a).modin = s.modin := by unfold State.sat16; split <;> rfl
@[simp] theorem State.sat16_samples (s : State) (a : Nat) : (s.sat16 a).samples = s.samples := by unfold State.sat16; split <;> rfl
@[simp] theorem State.sat16_samplesOld (s : State) (a : Nat) : (s.sat16 a).samplesOld = s.samplesOld := by unfold State.sat16; split <;> rfl
@[simp] theorem State.sat16_acu (s : State) (a : Nat) : (s.sat16 a).acu = s.acu := by unfold State.sat16; split <;> rfl
@[simp] theorem State.sat16_mramc (s : State) (a : Nat) : (s.sat16 a).mramc = s.mramc := by unfold State.sat16; split <;> rfl
@[simp] theorem State.sat16_pwm (s : State) (a : Nat) : (s.sat16 a).pwm = s.pwm := by unfold State.sat16; split <;> rfl
@[simp] theorem State.sat16_drive (s : State) (a : Nat) : (s.sat16 a).drive = s.drive := by unfold State.sat16; split <;> rfl
@[simp] theorem State.sat16_gp (s : State) (a : Nat) : (s.sat16 a).gp = s.gp := by unfold State.sat16; split <;> rfl
@[simp] theorem State.sat16_prot (s : State) (a : Nat) : (s.sat16 a).prot = s.prot := by unfold State.sat16; split <;> rfl
@[simp] theorem State.sat16_probe (s : State) (a : Nat) : (s.sat16 a).probe = s.probe := by unfold State.sat16; split <;> rfl
@[simp] theorem State.sat16_meter (s : State) (a : Nat) : (s.sat16 a).meter = s.meter := by unfold State.sat16; split <;> rfl
@[simp] theorem State.sat16_dc (s : State) (a : Nat) : (s.sat16 a).dc = s.dc := by unfold State.sat16; split <;> rfl
@[simp] theorem State.sat16_safe (s : State) (a : Nat) : (s.sat16 a).safe = s.safe := by unfold State.sat16; split <;> rfl
@[simp] theorem State.sat16_dma (s : State) (a : Nat) : (s.sat16 a).dma = s.dma := by unfold State.sat16; split <;> rfl
@[simp] theorem State.sat16_eth (s : State) (a : Nat) : (s.sat16 a).eth = s.eth := by unfold State.sat16; split <;> rfl
@[simp] theorem State.sat16_mon (s : State) (a : Nat) : (s.sat16 a).mon = s.mon := by unfold State.sat16; split <;> rfl
@[simp] theorem State.sat16_cpu (s : State) (a : Nat) : (s.sat16 a).cpu = s.cpu := by unfold State.sat16; split <;> rfl
@[simp] theorem State.sat16_rk (s : State) (a : Nat) : (s.sat16 a).rk = s.rk := by unfold State.sat16; split <;> rfl
@[simp] theorem State.sat16_st (s : State) (a : Nat) : (s.sat16 a).st = s.st := by unfold State.sat16; split <;> rfl
@[simp] theorem State.sat16_wdg (s : State) (a : Nat) : (s.sat16 a).wdg = s.wdg := by unfold State.sat16; split <;> rfl
@[simp] theorem State.sat16_xbar (s : State) (a : Nat) : (s.sat16 a).xbar = s.xbar := by unfold State.sat16; split <;> rfl
@[simp] theorem State.sat16_host (s : State) (a : Nat) : (s.sat16 a).host = s.host := by unfold State.sat16; split <;> rfl
@[simp] theorem State.sat16_dport (s : State) (a : Nat) : (s.sat16 a).dport = s.dport := by unfold State.sat16; split <;> rfl
@[simp] theorem State.sat16_sec (s : State) (a : Nat) : (s.sat16 a).sec = s.sec := by unfold State.sat16; split <;> rfl
@[simp] theorem State.sat16_consent (s : State) (a : Nat) : (s.sat16 a).consent = s.consent := by unfold State.sat16; split <;> rfl
@[simp] theorem State.sat16_link (s : State) (a : Nat) : (s.sat16 a).link = s.link := by unfold State.sat16; split <;> rfl
@[simp] theorem State.sat16_sentinel (s : State) (a : Nat) : (s.sat16 a).sentinel = s.sentinel := by unfold State.sat16; split <;> rfl
@[simp] theorem State.sat16_pmu (s : State) (a : Nat) : (s.sat16 a).pmu = s.pmu := by unfold State.sat16; split <;> rfl
@[simp] theorem State.sat16_gpio (s : State) (a : Nat) : (s.sat16 a).gpio = s.gpio := by unfold State.sat16; split <;> rfl
@[simp] theorem State.sat16_gpioPort (s : State) (a : Nat) : (s.sat16 a).gpioPort = s.gpioPort := by unfold State.sat16; split <;> rfl

@[simp] theorem State.sat16By_now (s : State) (a k : Nat) : (s.sat16By a k).now = s.now := rfl
@[simp] theorem State.sat16By_hiLive (s : State) (a k : Nat) : (s.sat16By a k).hiLive = s.hiLive := rfl
@[simp] theorem State.sat16By_mem (s : State) (a k : Nat) : (s.sat16By a k).mem = s.mem := rfl
@[simp] theorem State.sat16By_free (s : State) (a k : Nat) : (s.sat16By a k).free = s.free := rfl
@[simp] theorem State.sat16By_rdata (s : State) (a k : Nat) : (s.sat16By a k).rdata = s.rdata := rfl
@[simp] theorem State.sat16By_stCycles (s : State) (a k : Nat) : (s.sat16By a k).stCycles = s.stCycles := rfl
@[simp] theorem State.sat16By_stCyclesAt (s : State) (a k : Nat) : (s.sat16By a k).stCyclesAt = s.stCyclesAt := rfl
@[simp] theorem State.sat16By_setAt (s : State) (a k : Nat) : (s.sat16By a k).setAt = s.setAt := rfl
@[simp] theorem State.sat16By_setFlags (s : State) (a k : Nat) : (s.sat16By a k).setFlags = s.setFlags := rfl
@[simp] theorem State.sat16By_flagSince (s : State) (a k : Nat) : (s.sat16By a k).flagSince = s.flagSince := rfl
@[simp] theorem State.sat16By_parked (s : State) (a k : Nat) : (s.sat16By a k).parked = s.parked := rfl
@[simp] theorem State.sat16By_landing (s : State) (a k : Nat) : (s.sat16By a k).landing = s.landing := rfl
@[simp] theorem State.sat16By_pending (s : State) (a k : Nat) : (s.sat16By a k).pending = s.pending := rfl
@[simp] theorem State.sat16By_tbl (s : State) (a k : Nat) : (s.sat16By a k).tbl = s.tbl := rfl
@[simp] theorem State.sat16By_pll (s : State) (a k : Nat) : (s.sat16By a k).pll = s.pll := rfl
@[simp] theorem State.sat16By_modin (s : State) (a k : Nat) : (s.sat16By a k).modin = s.modin := rfl
@[simp] theorem State.sat16By_samples (s : State) (a k : Nat) : (s.sat16By a k).samples = s.samples := rfl
@[simp] theorem State.sat16By_samplesOld (s : State) (a k : Nat) : (s.sat16By a k).samplesOld = s.samplesOld := rfl
@[simp] theorem State.sat16By_acu (s : State) (a k : Nat) : (s.sat16By a k).acu = s.acu := rfl
@[simp] theorem State.sat16By_mramc (s : State) (a k : Nat) : (s.sat16By a k).mramc = s.mramc := rfl
@[simp] theorem State.sat16By_pwm (s : State) (a k : Nat) : (s.sat16By a k).pwm = s.pwm := rfl
@[simp] theorem State.sat16By_drive (s : State) (a k : Nat) : (s.sat16By a k).drive = s.drive := rfl
@[simp] theorem State.sat16By_gp (s : State) (a k : Nat) : (s.sat16By a k).gp = s.gp := rfl
@[simp] theorem State.sat16By_prot (s : State) (a k : Nat) : (s.sat16By a k).prot = s.prot := rfl
@[simp] theorem State.sat16By_probe (s : State) (a k : Nat) : (s.sat16By a k).probe = s.probe := rfl
@[simp] theorem State.sat16By_meter (s : State) (a k : Nat) : (s.sat16By a k).meter = s.meter := rfl
@[simp] theorem State.sat16By_dc (s : State) (a k : Nat) : (s.sat16By a k).dc = s.dc := rfl
@[simp] theorem State.sat16By_safe (s : State) (a k : Nat) : (s.sat16By a k).safe = s.safe := rfl
@[simp] theorem State.sat16By_dma (s : State) (a k : Nat) : (s.sat16By a k).dma = s.dma := rfl
@[simp] theorem State.sat16By_eth (s : State) (a k : Nat) : (s.sat16By a k).eth = s.eth := rfl
@[simp] theorem State.sat16By_mon (s : State) (a k : Nat) : (s.sat16By a k).mon = s.mon := rfl
@[simp] theorem State.sat16By_cpu (s : State) (a k : Nat) : (s.sat16By a k).cpu = s.cpu := rfl
@[simp] theorem State.sat16By_rk (s : State) (a k : Nat) : (s.sat16By a k).rk = s.rk := rfl
@[simp] theorem State.sat16By_st (s : State) (a k : Nat) : (s.sat16By a k).st = s.st := rfl
@[simp] theorem State.sat16By_wdg (s : State) (a k : Nat) : (s.sat16By a k).wdg = s.wdg := rfl
@[simp] theorem State.sat16By_xbar (s : State) (a k : Nat) : (s.sat16By a k).xbar = s.xbar := rfl
@[simp] theorem State.sat16By_host (s : State) (a k : Nat) : (s.sat16By a k).host = s.host := rfl
@[simp] theorem State.sat16By_dport (s : State) (a k : Nat) : (s.sat16By a k).dport = s.dport := rfl
@[simp] theorem State.sat16By_sec (s : State) (a k : Nat) : (s.sat16By a k).sec = s.sec := rfl
@[simp] theorem State.sat16By_consent (s : State) (a k : Nat) : (s.sat16By a k).consent = s.consent := rfl
@[simp] theorem State.sat16By_link (s : State) (a k : Nat) : (s.sat16By a k).link = s.link := rfl
@[simp] theorem State.sat16By_sentinel (s : State) (a k : Nat) : (s.sat16By a k).sentinel = s.sentinel := rfl
@[simp] theorem State.sat16By_pmu (s : State) (a k : Nat) : (s.sat16By a k).pmu = s.pmu := rfl
@[simp] theorem State.sat16By_gpio (s : State) (a k : Nat) : (s.sat16By a k).gpio = s.gpio := rfl
@[simp] theorem State.sat16By_gpioPort (s : State) (a k : Nat) : (s.sat16By a k).gpioPort = s.gpioPort := rfl

@[simp] theorem State.setNow_now (s : State) (e : EvFlag) : (s.setNow e).now = s.now := rfl
@[simp] theorem State.setNow_hiLive (s : State) (e : EvFlag) : (s.setNow e).hiLive = s.hiLive := rfl
@[simp] theorem State.setNow_mem (s : State) (e : EvFlag) : (s.setNow e).mem = s.mem := rfl
@[simp] theorem State.setNow_free (s : State) (e : EvFlag) : (s.setNow e).free = s.free := rfl
@[simp] theorem State.setNow_rdata (s : State) (e : EvFlag) : (s.setNow e).rdata = s.rdata := rfl
@[simp] theorem State.setNow_stCycles (s : State) (e : EvFlag) : (s.setNow e).stCycles = s.stCycles := rfl
@[simp] theorem State.setNow_stCyclesAt (s : State) (e : EvFlag) : (s.setNow e).stCyclesAt = s.stCyclesAt := rfl
@[simp] theorem State.setNow_parked (s : State) (e : EvFlag) : (s.setNow e).parked = s.parked := rfl
@[simp] theorem State.setNow_landing (s : State) (e : EvFlag) : (s.setNow e).landing = s.landing := rfl
@[simp] theorem State.setNow_pending (s : State) (e : EvFlag) : (s.setNow e).pending = s.pending := rfl
@[simp] theorem State.setNow_tbl (s : State) (e : EvFlag) : (s.setNow e).tbl = s.tbl := rfl
@[simp] theorem State.setNow_pll (s : State) (e : EvFlag) : (s.setNow e).pll = s.pll := rfl
@[simp] theorem State.setNow_modin (s : State) (e : EvFlag) : (s.setNow e).modin = s.modin := rfl
@[simp] theorem State.setNow_samples (s : State) (e : EvFlag) : (s.setNow e).samples = s.samples := rfl
@[simp] theorem State.setNow_samplesOld (s : State) (e : EvFlag) : (s.setNow e).samplesOld = s.samplesOld := rfl
@[simp] theorem State.setNow_acu (s : State) (e : EvFlag) : (s.setNow e).acu = s.acu := rfl
@[simp] theorem State.setNow_mramc (s : State) (e : EvFlag) : (s.setNow e).mramc = s.mramc := rfl
@[simp] theorem State.setNow_pwm (s : State) (e : EvFlag) : (s.setNow e).pwm = s.pwm := rfl
@[simp] theorem State.setNow_drive (s : State) (e : EvFlag) : (s.setNow e).drive = s.drive := rfl
@[simp] theorem State.setNow_gp (s : State) (e : EvFlag) : (s.setNow e).gp = s.gp := rfl
@[simp] theorem State.setNow_prot (s : State) (e : EvFlag) : (s.setNow e).prot = s.prot := rfl
@[simp] theorem State.setNow_probe (s : State) (e : EvFlag) : (s.setNow e).probe = s.probe := rfl
@[simp] theorem State.setNow_meter (s : State) (e : EvFlag) : (s.setNow e).meter = s.meter := rfl
@[simp] theorem State.setNow_dc (s : State) (e : EvFlag) : (s.setNow e).dc = s.dc := rfl
@[simp] theorem State.setNow_safe (s : State) (e : EvFlag) : (s.setNow e).safe = s.safe := rfl
@[simp] theorem State.setNow_dma (s : State) (e : EvFlag) : (s.setNow e).dma = s.dma := rfl
@[simp] theorem State.setNow_eth (s : State) (e : EvFlag) : (s.setNow e).eth = s.eth := rfl
@[simp] theorem State.setNow_mon (s : State) (e : EvFlag) : (s.setNow e).mon = s.mon := rfl
@[simp] theorem State.setNow_cpu (s : State) (e : EvFlag) : (s.setNow e).cpu = s.cpu := rfl
@[simp] theorem State.setNow_rk (s : State) (e : EvFlag) : (s.setNow e).rk = s.rk := rfl
@[simp] theorem State.setNow_st (s : State) (e : EvFlag) : (s.setNow e).st = s.st := rfl
@[simp] theorem State.setNow_wdg (s : State) (e : EvFlag) : (s.setNow e).wdg = s.wdg := rfl
@[simp] theorem State.setNow_xbar (s : State) (e : EvFlag) : (s.setNow e).xbar = s.xbar := rfl
@[simp] theorem State.setNow_host (s : State) (e : EvFlag) : (s.setNow e).host = s.host := rfl
@[simp] theorem State.setNow_dport (s : State) (e : EvFlag) : (s.setNow e).dport = s.dport := rfl
@[simp] theorem State.setNow_sec (s : State) (e : EvFlag) : (s.setNow e).sec = s.sec := rfl
@[simp] theorem State.setNow_consent (s : State) (e : EvFlag) : (s.setNow e).consent = s.consent := rfl
@[simp] theorem State.setNow_link (s : State) (e : EvFlag) : (s.setNow e).link = s.link := rfl
@[simp] theorem State.setNow_sentinel (s : State) (e : EvFlag) : (s.setNow e).sentinel = s.sentinel := rfl
@[simp] theorem State.setNow_pmu (s : State) (e : EvFlag) : (s.setNow e).pmu = s.pmu := rfl
@[simp] theorem State.setNow_gpio (s : State) (e : EvFlag) : (s.setNow e).gpio = s.gpio := rfl
@[simp] theorem State.setNow_gpioPort (s : State) (e : EvFlag) : (s.setNow e).gpioPort = s.gpioPort := rfl

@[simp] theorem State.raise_now (s : State) (e : EvFlag) : (s.raise e).now = s.now := by unfold State.raise; simp
@[simp] theorem State.raise_hiLive (s : State) (e : EvFlag) : (s.raise e).hiLive = s.hiLive := by unfold State.raise; simp
@[simp] theorem State.raise_mem (s : State) (e : EvFlag) : (s.raise e).mem = s.mem := by unfold State.raise; simp
@[simp] theorem State.raise_free (s : State) (e : EvFlag) : (s.raise e).free = s.free := by unfold State.raise; simp
@[simp] theorem State.raise_rdata (s : State) (e : EvFlag) : (s.raise e).rdata = s.rdata := by unfold State.raise; simp
@[simp] theorem State.raise_stCycles (s : State) (e : EvFlag) : (s.raise e).stCycles = s.stCycles := by unfold State.raise; simp
@[simp] theorem State.raise_stCyclesAt (s : State) (e : EvFlag) : (s.raise e).stCyclesAt = s.stCyclesAt := by unfold State.raise; simp
@[simp] theorem State.raise_parked (s : State) (e : EvFlag) : (s.raise e).parked = s.parked := by unfold State.raise; simp
@[simp] theorem State.raise_landing (s : State) (e : EvFlag) : (s.raise e).landing = s.landing := by unfold State.raise; simp
@[simp] theorem State.raise_pending (s : State) (e : EvFlag) : (s.raise e).pending = s.pending := by unfold State.raise; simp
@[simp] theorem State.raise_tbl (s : State) (e : EvFlag) : (s.raise e).tbl = s.tbl := by unfold State.raise; simp
@[simp] theorem State.raise_pll (s : State) (e : EvFlag) : (s.raise e).pll = s.pll := by unfold State.raise; simp
@[simp] theorem State.raise_modin (s : State) (e : EvFlag) : (s.raise e).modin = s.modin := by unfold State.raise; simp
@[simp] theorem State.raise_samples (s : State) (e : EvFlag) : (s.raise e).samples = s.samples := by unfold State.raise; simp
@[simp] theorem State.raise_samplesOld (s : State) (e : EvFlag) : (s.raise e).samplesOld = s.samplesOld := by unfold State.raise; simp
@[simp] theorem State.raise_acu (s : State) (e : EvFlag) : (s.raise e).acu = s.acu := by unfold State.raise; simp
@[simp] theorem State.raise_mramc (s : State) (e : EvFlag) : (s.raise e).mramc = s.mramc := by unfold State.raise; simp
@[simp] theorem State.raise_pwm (s : State) (e : EvFlag) : (s.raise e).pwm = s.pwm := by unfold State.raise; simp
@[simp] theorem State.raise_drive (s : State) (e : EvFlag) : (s.raise e).drive = s.drive := by unfold State.raise; simp
@[simp] theorem State.raise_gp (s : State) (e : EvFlag) : (s.raise e).gp = s.gp := by unfold State.raise; simp
@[simp] theorem State.raise_prot (s : State) (e : EvFlag) : (s.raise e).prot = s.prot := by unfold State.raise; simp
@[simp] theorem State.raise_probe (s : State) (e : EvFlag) : (s.raise e).probe = s.probe := by unfold State.raise; simp
@[simp] theorem State.raise_meter (s : State) (e : EvFlag) : (s.raise e).meter = s.meter := by unfold State.raise; simp
@[simp] theorem State.raise_dc (s : State) (e : EvFlag) : (s.raise e).dc = s.dc := by unfold State.raise; simp
@[simp] theorem State.raise_safe (s : State) (e : EvFlag) : (s.raise e).safe = s.safe := by unfold State.raise; simp
@[simp] theorem State.raise_dma (s : State) (e : EvFlag) : (s.raise e).dma = s.dma := by unfold State.raise; simp
@[simp] theorem State.raise_eth (s : State) (e : EvFlag) : (s.raise e).eth = s.eth := by unfold State.raise; simp
@[simp] theorem State.raise_mon (s : State) (e : EvFlag) : (s.raise e).mon = s.mon := by unfold State.raise; simp
@[simp] theorem State.raise_cpu (s : State) (e : EvFlag) : (s.raise e).cpu = s.cpu := by unfold State.raise; simp
@[simp] theorem State.raise_rk (s : State) (e : EvFlag) : (s.raise e).rk = s.rk := by unfold State.raise; simp
@[simp] theorem State.raise_st (s : State) (e : EvFlag) : (s.raise e).st = s.st := by unfold State.raise; simp
@[simp] theorem State.raise_wdg (s : State) (e : EvFlag) : (s.raise e).wdg = s.wdg := by unfold State.raise; simp
@[simp] theorem State.raise_xbar (s : State) (e : EvFlag) : (s.raise e).xbar = s.xbar := by unfold State.raise; simp
@[simp] theorem State.raise_host (s : State) (e : EvFlag) : (s.raise e).host = s.host := by unfold State.raise; simp
@[simp] theorem State.raise_dport (s : State) (e : EvFlag) : (s.raise e).dport = s.dport := by unfold State.raise; simp
@[simp] theorem State.raise_sec (s : State) (e : EvFlag) : (s.raise e).sec = s.sec := by unfold State.raise; simp
@[simp] theorem State.raise_consent (s : State) (e : EvFlag) : (s.raise e).consent = s.consent := by unfold State.raise; simp
@[simp] theorem State.raise_link (s : State) (e : EvFlag) : (s.raise e).link = s.link := by unfold State.raise; simp
@[simp] theorem State.raise_sentinel (s : State) (e : EvFlag) : (s.raise e).sentinel = s.sentinel := by unfold State.raise; simp
@[simp] theorem State.raise_pmu (s : State) (e : EvFlag) : (s.raise e).pmu = s.pmu := by unfold State.raise; simp
@[simp] theorem State.raise_gpio (s : State) (e : EvFlag) : (s.raise e).gpio = s.gpio := by unfold State.raise; simp
@[simp] theorem State.raise_gpioPort (s : State) (e : EvFlag) : (s.raise e).gpioPort = s.gpioPort := by unfold State.raise; simp

@[simp] theorem State.raiseN_now (s : State) (e : EvFlag) (k : Nat) : (s.raiseN e k).now = s.now := by unfold State.raiseN; split <;> simp
@[simp] theorem State.raiseN_hiLive (s : State) (e : EvFlag) (k : Nat) : (s.raiseN e k).hiLive = s.hiLive := by unfold State.raiseN; split <;> simp
@[simp] theorem State.raiseN_mem (s : State) (e : EvFlag) (k : Nat) : (s.raiseN e k).mem = s.mem := by unfold State.raiseN; split <;> simp
@[simp] theorem State.raiseN_free (s : State) (e : EvFlag) (k : Nat) : (s.raiseN e k).free = s.free := by unfold State.raiseN; split <;> simp
@[simp] theorem State.raiseN_rdata (s : State) (e : EvFlag) (k : Nat) : (s.raiseN e k).rdata = s.rdata := by unfold State.raiseN; split <;> simp
@[simp] theorem State.raiseN_stCycles (s : State) (e : EvFlag) (k : Nat) : (s.raiseN e k).stCycles = s.stCycles := by unfold State.raiseN; split <;> simp
@[simp] theorem State.raiseN_stCyclesAt (s : State) (e : EvFlag) (k : Nat) : (s.raiseN e k).stCyclesAt = s.stCyclesAt := by unfold State.raiseN; split <;> simp
@[simp] theorem State.raiseN_parked (s : State) (e : EvFlag) (k : Nat) : (s.raiseN e k).parked = s.parked := by unfold State.raiseN; split <;> simp
@[simp] theorem State.raiseN_landing (s : State) (e : EvFlag) (k : Nat) : (s.raiseN e k).landing = s.landing := by unfold State.raiseN; split <;> simp
@[simp] theorem State.raiseN_pending (s : State) (e : EvFlag) (k : Nat) : (s.raiseN e k).pending = s.pending := by unfold State.raiseN; split <;> simp
@[simp] theorem State.raiseN_tbl (s : State) (e : EvFlag) (k : Nat) : (s.raiseN e k).tbl = s.tbl := by unfold State.raiseN; split <;> simp
@[simp] theorem State.raiseN_pll (s : State) (e : EvFlag) (k : Nat) : (s.raiseN e k).pll = s.pll := by unfold State.raiseN; split <;> simp
@[simp] theorem State.raiseN_modin (s : State) (e : EvFlag) (k : Nat) : (s.raiseN e k).modin = s.modin := by unfold State.raiseN; split <;> simp
@[simp] theorem State.raiseN_samples (s : State) (e : EvFlag) (k : Nat) : (s.raiseN e k).samples = s.samples := by unfold State.raiseN; split <;> simp
@[simp] theorem State.raiseN_samplesOld (s : State) (e : EvFlag) (k : Nat) : (s.raiseN e k).samplesOld = s.samplesOld := by unfold State.raiseN; split <;> simp
@[simp] theorem State.raiseN_acu (s : State) (e : EvFlag) (k : Nat) : (s.raiseN e k).acu = s.acu := by unfold State.raiseN; split <;> simp
@[simp] theorem State.raiseN_mramc (s : State) (e : EvFlag) (k : Nat) : (s.raiseN e k).mramc = s.mramc := by unfold State.raiseN; split <;> simp
@[simp] theorem State.raiseN_pwm (s : State) (e : EvFlag) (k : Nat) : (s.raiseN e k).pwm = s.pwm := by unfold State.raiseN; split <;> simp
@[simp] theorem State.raiseN_drive (s : State) (e : EvFlag) (k : Nat) : (s.raiseN e k).drive = s.drive := by unfold State.raiseN; split <;> simp
@[simp] theorem State.raiseN_gp (s : State) (e : EvFlag) (k : Nat) : (s.raiseN e k).gp = s.gp := by unfold State.raiseN; split <;> simp
@[simp] theorem State.raiseN_prot (s : State) (e : EvFlag) (k : Nat) : (s.raiseN e k).prot = s.prot := by unfold State.raiseN; split <;> simp
@[simp] theorem State.raiseN_probe (s : State) (e : EvFlag) (k : Nat) : (s.raiseN e k).probe = s.probe := by unfold State.raiseN; split <;> simp
@[simp] theorem State.raiseN_meter (s : State) (e : EvFlag) (k : Nat) : (s.raiseN e k).meter = s.meter := by unfold State.raiseN; split <;> simp
@[simp] theorem State.raiseN_dc (s : State) (e : EvFlag) (k : Nat) : (s.raiseN e k).dc = s.dc := by unfold State.raiseN; split <;> simp
@[simp] theorem State.raiseN_safe (s : State) (e : EvFlag) (k : Nat) : (s.raiseN e k).safe = s.safe := by unfold State.raiseN; split <;> simp
@[simp] theorem State.raiseN_dma (s : State) (e : EvFlag) (k : Nat) : (s.raiseN e k).dma = s.dma := by unfold State.raiseN; split <;> simp
@[simp] theorem State.raiseN_eth (s : State) (e : EvFlag) (k : Nat) : (s.raiseN e k).eth = s.eth := by unfold State.raiseN; split <;> simp
@[simp] theorem State.raiseN_mon (s : State) (e : EvFlag) (k : Nat) : (s.raiseN e k).mon = s.mon := by unfold State.raiseN; split <;> simp
@[simp] theorem State.raiseN_cpu (s : State) (e : EvFlag) (k : Nat) : (s.raiseN e k).cpu = s.cpu := by unfold State.raiseN; split <;> simp
@[simp] theorem State.raiseN_rk (s : State) (e : EvFlag) (k : Nat) : (s.raiseN e k).rk = s.rk := by unfold State.raiseN; split <;> simp
@[simp] theorem State.raiseN_st (s : State) (e : EvFlag) (k : Nat) : (s.raiseN e k).st = s.st := by unfold State.raiseN; split <;> simp
@[simp] theorem State.raiseN_wdg (s : State) (e : EvFlag) (k : Nat) : (s.raiseN e k).wdg = s.wdg := by unfold State.raiseN; split <;> simp
@[simp] theorem State.raiseN_xbar (s : State) (e : EvFlag) (k : Nat) : (s.raiseN e k).xbar = s.xbar := by unfold State.raiseN; split <;> simp
@[simp] theorem State.raiseN_host (s : State) (e : EvFlag) (k : Nat) : (s.raiseN e k).host = s.host := by unfold State.raiseN; split <;> simp
@[simp] theorem State.raiseN_dport (s : State) (e : EvFlag) (k : Nat) : (s.raiseN e k).dport = s.dport := by unfold State.raiseN; split <;> simp
@[simp] theorem State.raiseN_sec (s : State) (e : EvFlag) (k : Nat) : (s.raiseN e k).sec = s.sec := by unfold State.raiseN; split <;> simp
@[simp] theorem State.raiseN_consent (s : State) (e : EvFlag) (k : Nat) : (s.raiseN e k).consent = s.consent := by unfold State.raiseN; split <;> simp
@[simp] theorem State.raiseN_link (s : State) (e : EvFlag) (k : Nat) : (s.raiseN e k).link = s.link := by unfold State.raiseN; split <;> simp
@[simp] theorem State.raiseN_sentinel (s : State) (e : EvFlag) (k : Nat) : (s.raiseN e k).sentinel = s.sentinel := by unfold State.raiseN; split <;> simp
@[simp] theorem State.raiseN_pmu (s : State) (e : EvFlag) (k : Nat) : (s.raiseN e k).pmu = s.pmu := by unfold State.raiseN; split <;> simp
@[simp] theorem State.raiseN_gpio (s : State) (e : EvFlag) (k : Nat) : (s.raiseN e k).gpio = s.gpio := by unfold State.raiseN; split <;> simp
@[simp] theorem State.raiseN_gpioPort (s : State) (e : EvFlag) (k : Nat) : (s.raiseN e k).gpioPort = s.gpioPort := by unfold State.raiseN; split <;> simp

@[simp] theorem State.raiseIf_now (s : State) (b : Bool) (e : EvFlag) : (s.raiseIf b e).now = s.now := by unfold State.raiseIf; split <;> simp
@[simp] theorem State.raiseIf_hiLive (s : State) (b : Bool) (e : EvFlag) : (s.raiseIf b e).hiLive = s.hiLive := by unfold State.raiseIf; split <;> simp
@[simp] theorem State.raiseIf_mem (s : State) (b : Bool) (e : EvFlag) : (s.raiseIf b e).mem = s.mem := by unfold State.raiseIf; split <;> simp
@[simp] theorem State.raiseIf_free (s : State) (b : Bool) (e : EvFlag) : (s.raiseIf b e).free = s.free := by unfold State.raiseIf; split <;> simp
@[simp] theorem State.raiseIf_rdata (s : State) (b : Bool) (e : EvFlag) : (s.raiseIf b e).rdata = s.rdata := by unfold State.raiseIf; split <;> simp
@[simp] theorem State.raiseIf_stCycles (s : State) (b : Bool) (e : EvFlag) : (s.raiseIf b e).stCycles = s.stCycles := by unfold State.raiseIf; split <;> simp
@[simp] theorem State.raiseIf_stCyclesAt (s : State) (b : Bool) (e : EvFlag) : (s.raiseIf b e).stCyclesAt = s.stCyclesAt := by unfold State.raiseIf; split <;> simp
@[simp] theorem State.raiseIf_parked (s : State) (b : Bool) (e : EvFlag) : (s.raiseIf b e).parked = s.parked := by unfold State.raiseIf; split <;> simp
@[simp] theorem State.raiseIf_landing (s : State) (b : Bool) (e : EvFlag) : (s.raiseIf b e).landing = s.landing := by unfold State.raiseIf; split <;> simp
@[simp] theorem State.raiseIf_pending (s : State) (b : Bool) (e : EvFlag) : (s.raiseIf b e).pending = s.pending := by unfold State.raiseIf; split <;> simp
@[simp] theorem State.raiseIf_tbl (s : State) (b : Bool) (e : EvFlag) : (s.raiseIf b e).tbl = s.tbl := by unfold State.raiseIf; split <;> simp
@[simp] theorem State.raiseIf_pll (s : State) (b : Bool) (e : EvFlag) : (s.raiseIf b e).pll = s.pll := by unfold State.raiseIf; split <;> simp
@[simp] theorem State.raiseIf_modin (s : State) (b : Bool) (e : EvFlag) : (s.raiseIf b e).modin = s.modin := by unfold State.raiseIf; split <;> simp
@[simp] theorem State.raiseIf_samples (s : State) (b : Bool) (e : EvFlag) : (s.raiseIf b e).samples = s.samples := by unfold State.raiseIf; split <;> simp
@[simp] theorem State.raiseIf_samplesOld (s : State) (b : Bool) (e : EvFlag) : (s.raiseIf b e).samplesOld = s.samplesOld := by unfold State.raiseIf; split <;> simp
@[simp] theorem State.raiseIf_acu (s : State) (b : Bool) (e : EvFlag) : (s.raiseIf b e).acu = s.acu := by unfold State.raiseIf; split <;> simp
@[simp] theorem State.raiseIf_mramc (s : State) (b : Bool) (e : EvFlag) : (s.raiseIf b e).mramc = s.mramc := by unfold State.raiseIf; split <;> simp
@[simp] theorem State.raiseIf_pwm (s : State) (b : Bool) (e : EvFlag) : (s.raiseIf b e).pwm = s.pwm := by unfold State.raiseIf; split <;> simp
@[simp] theorem State.raiseIf_drive (s : State) (b : Bool) (e : EvFlag) : (s.raiseIf b e).drive = s.drive := by unfold State.raiseIf; split <;> simp
@[simp] theorem State.raiseIf_gp (s : State) (b : Bool) (e : EvFlag) : (s.raiseIf b e).gp = s.gp := by unfold State.raiseIf; split <;> simp
@[simp] theorem State.raiseIf_prot (s : State) (b : Bool) (e : EvFlag) : (s.raiseIf b e).prot = s.prot := by unfold State.raiseIf; split <;> simp
@[simp] theorem State.raiseIf_probe (s : State) (b : Bool) (e : EvFlag) : (s.raiseIf b e).probe = s.probe := by unfold State.raiseIf; split <;> simp
@[simp] theorem State.raiseIf_meter (s : State) (b : Bool) (e : EvFlag) : (s.raiseIf b e).meter = s.meter := by unfold State.raiseIf; split <;> simp
@[simp] theorem State.raiseIf_dc (s : State) (b : Bool) (e : EvFlag) : (s.raiseIf b e).dc = s.dc := by unfold State.raiseIf; split <;> simp
@[simp] theorem State.raiseIf_safe (s : State) (b : Bool) (e : EvFlag) : (s.raiseIf b e).safe = s.safe := by unfold State.raiseIf; split <;> simp
@[simp] theorem State.raiseIf_dma (s : State) (b : Bool) (e : EvFlag) : (s.raiseIf b e).dma = s.dma := by unfold State.raiseIf; split <;> simp
@[simp] theorem State.raiseIf_eth (s : State) (b : Bool) (e : EvFlag) : (s.raiseIf b e).eth = s.eth := by unfold State.raiseIf; split <;> simp
@[simp] theorem State.raiseIf_mon (s : State) (b : Bool) (e : EvFlag) : (s.raiseIf b e).mon = s.mon := by unfold State.raiseIf; split <;> simp
@[simp] theorem State.raiseIf_cpu (s : State) (b : Bool) (e : EvFlag) : (s.raiseIf b e).cpu = s.cpu := by unfold State.raiseIf; split <;> simp
@[simp] theorem State.raiseIf_rk (s : State) (b : Bool) (e : EvFlag) : (s.raiseIf b e).rk = s.rk := by unfold State.raiseIf; split <;> simp
@[simp] theorem State.raiseIf_st (s : State) (b : Bool) (e : EvFlag) : (s.raiseIf b e).st = s.st := by unfold State.raiseIf; split <;> simp
@[simp] theorem State.raiseIf_wdg (s : State) (b : Bool) (e : EvFlag) : (s.raiseIf b e).wdg = s.wdg := by unfold State.raiseIf; split <;> simp
@[simp] theorem State.raiseIf_xbar (s : State) (b : Bool) (e : EvFlag) : (s.raiseIf b e).xbar = s.xbar := by unfold State.raiseIf; split <;> simp
@[simp] theorem State.raiseIf_host (s : State) (b : Bool) (e : EvFlag) : (s.raiseIf b e).host = s.host := by unfold State.raiseIf; split <;> simp
@[simp] theorem State.raiseIf_dport (s : State) (b : Bool) (e : EvFlag) : (s.raiseIf b e).dport = s.dport := by unfold State.raiseIf; split <;> simp
@[simp] theorem State.raiseIf_sec (s : State) (b : Bool) (e : EvFlag) : (s.raiseIf b e).sec = s.sec := by unfold State.raiseIf; split <;> simp
@[simp] theorem State.raiseIf_consent (s : State) (b : Bool) (e : EvFlag) : (s.raiseIf b e).consent = s.consent := by unfold State.raiseIf; split <;> simp
@[simp] theorem State.raiseIf_link (s : State) (b : Bool) (e : EvFlag) : (s.raiseIf b e).link = s.link := by unfold State.raiseIf; split <;> simp
@[simp] theorem State.raiseIf_sentinel (s : State) (b : Bool) (e : EvFlag) : (s.raiseIf b e).sentinel = s.sentinel := by unfold State.raiseIf; split <;> simp
@[simp] theorem State.raiseIf_pmu (s : State) (b : Bool) (e : EvFlag) : (s.raiseIf b e).pmu = s.pmu := by unfold State.raiseIf; split <;> simp
@[simp] theorem State.raiseIf_gpio (s : State) (b : Bool) (e : EvFlag) : (s.raiseIf b e).gpio = s.gpio := by unfold State.raiseIf; split <;> simp
@[simp] theorem State.raiseIf_gpioPort (s : State) (b : Bool) (e : EvFlag) : (s.raiseIf b e).gpioPort = s.gpioPort := by unfold State.raiseIf; split <;> simp

/-! ### The blocks -/

@[simp] theorem State.acuM_acu (s : State) (f : Acu → Acu) : (s.acuM f).acu = f s.acu := rfl
@[simp] theorem State.acuM_now (s : State) (f : Acu → Acu) : (s.acuM f).now = s.now := rfl
@[simp] theorem State.acuM_regs (s : State) (f : Acu → Acu) : (s.acuM f).regs = s.regs := rfl
@[simp] theorem State.acuM_hiLive (s : State) (f : Acu → Acu) : (s.acuM f).hiLive = s.hiLive := rfl
@[simp] theorem State.acuM_mem (s : State) (f : Acu → Acu) : (s.acuM f).mem = s.mem := rfl
@[simp] theorem State.acuM_free (s : State) (f : Acu → Acu) : (s.acuM f).free = s.free := rfl
@[simp] theorem State.acuM_rdata (s : State) (f : Acu → Acu) : (s.acuM f).rdata = s.rdata := rfl
@[simp] theorem State.acuM_stCycles (s : State) (f : Acu → Acu) : (s.acuM f).stCycles = s.stCycles := rfl
@[simp] theorem State.acuM_stCyclesAt (s : State) (f : Acu → Acu) : (s.acuM f).stCyclesAt = s.stCyclesAt := rfl
@[simp] theorem State.acuM_setAt (s : State) (f : Acu → Acu) : (s.acuM f).setAt = s.setAt := rfl
@[simp] theorem State.acuM_setFlags (s : State) (f : Acu → Acu) : (s.acuM f).setFlags = s.setFlags := rfl
@[simp] theorem State.acuM_flagSince (s : State) (f : Acu → Acu) : (s.acuM f).flagSince = s.flagSince := rfl
@[simp] theorem State.acuM_parked (s : State) (f : Acu → Acu) : (s.acuM f).parked = s.parked := rfl
@[simp] theorem State.acuM_landing (s : State) (f : Acu → Acu) : (s.acuM f).landing = s.landing := rfl
@[simp] theorem State.acuM_pending (s : State) (f : Acu → Acu) : (s.acuM f).pending = s.pending := rfl
@[simp] theorem State.acuM_tbl (s : State) (f : Acu → Acu) : (s.acuM f).tbl = s.tbl := rfl
@[simp] theorem State.acuM_pll (s : State) (f : Acu → Acu) : (s.acuM f).pll = s.pll := rfl
@[simp] theorem State.acuM_modin (s : State) (f : Acu → Acu) : (s.acuM f).modin = s.modin := rfl
@[simp] theorem State.acuM_samples (s : State) (f : Acu → Acu) : (s.acuM f).samples = s.samples := rfl
@[simp] theorem State.acuM_samplesOld (s : State) (f : Acu → Acu) : (s.acuM f).samplesOld = s.samplesOld := rfl
@[simp] theorem State.acuM_mramc (s : State) (f : Acu → Acu) : (s.acuM f).mramc = s.mramc := rfl
@[simp] theorem State.acuM_pwm (s : State) (f : Acu → Acu) : (s.acuM f).pwm = s.pwm := rfl
@[simp] theorem State.acuM_drive (s : State) (f : Acu → Acu) : (s.acuM f).drive = s.drive := rfl
@[simp] theorem State.acuM_gp (s : State) (f : Acu → Acu) : (s.acuM f).gp = s.gp := rfl
@[simp] theorem State.acuM_prot (s : State) (f : Acu → Acu) : (s.acuM f).prot = s.prot := rfl
@[simp] theorem State.acuM_probe (s : State) (f : Acu → Acu) : (s.acuM f).probe = s.probe := rfl
@[simp] theorem State.acuM_meter (s : State) (f : Acu → Acu) : (s.acuM f).meter = s.meter := rfl
@[simp] theorem State.acuM_dc (s : State) (f : Acu → Acu) : (s.acuM f).dc = s.dc := rfl
@[simp] theorem State.acuM_safe (s : State) (f : Acu → Acu) : (s.acuM f).safe = s.safe := rfl
@[simp] theorem State.acuM_dma (s : State) (f : Acu → Acu) : (s.acuM f).dma = s.dma := rfl
@[simp] theorem State.acuM_eth (s : State) (f : Acu → Acu) : (s.acuM f).eth = s.eth := rfl
@[simp] theorem State.acuM_mon (s : State) (f : Acu → Acu) : (s.acuM f).mon = s.mon := rfl
@[simp] theorem State.acuM_cpu (s : State) (f : Acu → Acu) : (s.acuM f).cpu = s.cpu := rfl
@[simp] theorem State.acuM_rk (s : State) (f : Acu → Acu) : (s.acuM f).rk = s.rk := rfl
@[simp] theorem State.acuM_st (s : State) (f : Acu → Acu) : (s.acuM f).st = s.st := rfl
@[simp] theorem State.acuM_wdg (s : State) (f : Acu → Acu) : (s.acuM f).wdg = s.wdg := rfl
@[simp] theorem State.acuM_xbar (s : State) (f : Acu → Acu) : (s.acuM f).xbar = s.xbar := rfl
@[simp] theorem State.acuM_host (s : State) (f : Acu → Acu) : (s.acuM f).host = s.host := rfl
@[simp] theorem State.acuM_dport (s : State) (f : Acu → Acu) : (s.acuM f).dport = s.dport := rfl
@[simp] theorem State.acuM_sec (s : State) (f : Acu → Acu) : (s.acuM f).sec = s.sec := rfl
@[simp] theorem State.acuM_consent (s : State) (f : Acu → Acu) : (s.acuM f).consent = s.consent := rfl
@[simp] theorem State.acuM_link (s : State) (f : Acu → Acu) : (s.acuM f).link = s.link := rfl
@[simp] theorem State.acuM_sentinel (s : State) (f : Acu → Acu) : (s.acuM f).sentinel = s.sentinel := rfl
@[simp] theorem State.acuM_pmu (s : State) (f : Acu → Acu) : (s.acuM f).pmu = s.pmu := rfl
@[simp] theorem State.acuM_gpio (s : State) (f : Acu → Acu) : (s.acuM f).gpio = s.gpio := rfl
@[simp] theorem State.acuM_gpioPort (s : State) (f : Acu → Acu) : (s.acuM f).gpioPort = s.gpioPort := rfl
@[simp] theorem State.acuM_rd (s : State) (f : Acu → Acu) (x : Nat) : (s.acuM f).rd x = s.rd x := rfl
@[simp] theorem State.acuM_rdN (s : State) (f : Acu → Acu) (x : Nat) : (s.acuM f).rdN x = s.rdN x := rfl
@[simp] theorem State.acuM_get (s : State) (f : Acu → Acu) (x : Fld) : (s.acuM f).get x = s.get x := rfl

@[simp] theorem State.capM_now (s : State) (f : Capture → Capture) : (s.capM f).now = s.now := rfl
@[simp] theorem State.capM_regs (s : State) (f : Capture → Capture) : (s.capM f).regs = s.regs := rfl
@[simp] theorem State.capM_hiLive (s : State) (f : Capture → Capture) : (s.capM f).hiLive = s.hiLive := rfl
@[simp] theorem State.capM_mem (s : State) (f : Capture → Capture) : (s.capM f).mem = s.mem := rfl
@[simp] theorem State.capM_free (s : State) (f : Capture → Capture) : (s.capM f).free = s.free := rfl
@[simp] theorem State.capM_rdata (s : State) (f : Capture → Capture) : (s.capM f).rdata = s.rdata := rfl
@[simp] theorem State.capM_stCycles (s : State) (f : Capture → Capture) : (s.capM f).stCycles = s.stCycles := rfl
@[simp] theorem State.capM_stCyclesAt (s : State) (f : Capture → Capture) : (s.capM f).stCyclesAt = s.stCyclesAt := rfl
@[simp] theorem State.capM_setAt (s : State) (f : Capture → Capture) : (s.capM f).setAt = s.setAt := rfl
@[simp] theorem State.capM_setFlags (s : State) (f : Capture → Capture) : (s.capM f).setFlags = s.setFlags := rfl
@[simp] theorem State.capM_flagSince (s : State) (f : Capture → Capture) : (s.capM f).flagSince = s.flagSince := rfl
@[simp] theorem State.capM_parked (s : State) (f : Capture → Capture) : (s.capM f).parked = s.parked := rfl
@[simp] theorem State.capM_landing (s : State) (f : Capture → Capture) : (s.capM f).landing = s.landing := rfl
@[simp] theorem State.capM_pending (s : State) (f : Capture → Capture) : (s.capM f).pending = s.pending := rfl
@[simp] theorem State.capM_tbl (s : State) (f : Capture → Capture) : (s.capM f).tbl = s.tbl := rfl
@[simp] theorem State.capM_pll (s : State) (f : Capture → Capture) : (s.capM f).pll = s.pll := rfl
@[simp] theorem State.capM_modin (s : State) (f : Capture → Capture) : (s.capM f).modin = s.modin := rfl
@[simp] theorem State.capM_samples (s : State) (f : Capture → Capture) : (s.capM f).samples = s.samples := rfl
@[simp] theorem State.capM_samplesOld (s : State) (f : Capture → Capture) : (s.capM f).samplesOld = s.samplesOld := rfl
@[simp] theorem State.capM_acu (s : State) (f : Capture → Capture) : (s.capM f).acu = s.acu := rfl
@[simp] theorem State.capM_mramc (s : State) (f : Capture → Capture) : (s.capM f).mramc = s.mramc := rfl
@[simp] theorem State.capM_pwm (s : State) (f : Capture → Capture) : (s.capM f).pwm = s.pwm := rfl
@[simp] theorem State.capM_drive (s : State) (f : Capture → Capture) : (s.capM f).drive = s.drive := rfl
@[simp] theorem State.capM_gp (s : State) (f : Capture → Capture) : (s.capM f).gp = s.gp := rfl
@[simp] theorem State.capM_probe (s : State) (f : Capture → Capture) : (s.capM f).probe = s.probe := rfl
@[simp] theorem State.capM_meter (s : State) (f : Capture → Capture) : (s.capM f).meter = s.meter := rfl
@[simp] theorem State.capM_dc (s : State) (f : Capture → Capture) : (s.capM f).dc = s.dc := rfl
@[simp] theorem State.capM_safe (s : State) (f : Capture → Capture) : (s.capM f).safe = s.safe := rfl
@[simp] theorem State.capM_dma (s : State) (f : Capture → Capture) : (s.capM f).dma = s.dma := rfl
@[simp] theorem State.capM_eth (s : State) (f : Capture → Capture) : (s.capM f).eth = s.eth := rfl
@[simp] theorem State.capM_mon (s : State) (f : Capture → Capture) : (s.capM f).mon = s.mon := rfl
@[simp] theorem State.capM_cpu (s : State) (f : Capture → Capture) : (s.capM f).cpu = s.cpu := rfl
@[simp] theorem State.capM_rk (s : State) (f : Capture → Capture) : (s.capM f).rk = s.rk := rfl
@[simp] theorem State.capM_st (s : State) (f : Capture → Capture) : (s.capM f).st = s.st := rfl
@[simp] theorem State.capM_wdg (s : State) (f : Capture → Capture) : (s.capM f).wdg = s.wdg := rfl
@[simp] theorem State.capM_xbar (s : State) (f : Capture → Capture) : (s.capM f).xbar = s.xbar := rfl
@[simp] theorem State.capM_host (s : State) (f : Capture → Capture) : (s.capM f).host = s.host := rfl
@[simp] theorem State.capM_dport (s : State) (f : Capture → Capture) : (s.capM f).dport = s.dport := rfl
@[simp] theorem State.capM_sec (s : State) (f : Capture → Capture) : (s.capM f).sec = s.sec := rfl
@[simp] theorem State.capM_consent (s : State) (f : Capture → Capture) : (s.capM f).consent = s.consent := rfl
@[simp] theorem State.capM_link (s : State) (f : Capture → Capture) : (s.capM f).link = s.link := rfl
@[simp] theorem State.capM_sentinel (s : State) (f : Capture → Capture) : (s.capM f).sentinel = s.sentinel := rfl
@[simp] theorem State.capM_pmu (s : State) (f : Capture → Capture) : (s.capM f).pmu = s.pmu := rfl
@[simp] theorem State.capM_gpio (s : State) (f : Capture → Capture) : (s.capM f).gpio = s.gpio := rfl
@[simp] theorem State.capM_gpioPort (s : State) (f : Capture → Capture) : (s.capM f).gpioPort = s.gpioPort := rfl
@[simp] theorem State.capM_rd (s : State) (f : Capture → Capture) (x : Nat) : (s.capM f).rd x = s.rd x := rfl
@[simp] theorem State.capM_rdN (s : State) (f : Capture → Capture) (x : Nat) : (s.capM f).rdN x = s.rdN x := rfl
@[simp] theorem State.capM_get (s : State) (f : Capture → Capture) (x : Fld) : (s.capM f).get x = s.get x := rfl

@[simp] theorem State.carM_now (s : State) (c : Fin 8) (f : Carrier → Carrier) : (s.carM c f).now = s.now := rfl
@[simp] theorem State.carM_regs (s : State) (c : Fin 8) (f : Carrier → Carrier) : (s.carM c f).regs = s.regs := rfl
@[simp] theorem State.carM_hiLive (s : State) (c : Fin 8) (f : Carrier → Carrier) : (s.carM c f).hiLive = s.hiLive := rfl
@[simp] theorem State.carM_mem (s : State) (c : Fin 8) (f : Carrier → Carrier) : (s.carM c f).mem = s.mem := rfl
@[simp] theorem State.carM_free (s : State) (c : Fin 8) (f : Carrier → Carrier) : (s.carM c f).free = s.free := rfl
@[simp] theorem State.carM_rdata (s : State) (c : Fin 8) (f : Carrier → Carrier) : (s.carM c f).rdata = s.rdata := rfl
@[simp] theorem State.carM_stCycles (s : State) (c : Fin 8) (f : Carrier → Carrier) : (s.carM c f).stCycles = s.stCycles := rfl
@[simp] theorem State.carM_stCyclesAt (s : State) (c : Fin 8) (f : Carrier → Carrier) : (s.carM c f).stCyclesAt = s.stCyclesAt := rfl
@[simp] theorem State.carM_setAt (s : State) (c : Fin 8) (f : Carrier → Carrier) : (s.carM c f).setAt = s.setAt := rfl
@[simp] theorem State.carM_setFlags (s : State) (c : Fin 8) (f : Carrier → Carrier) : (s.carM c f).setFlags = s.setFlags := rfl
@[simp] theorem State.carM_flagSince (s : State) (c : Fin 8) (f : Carrier → Carrier) : (s.carM c f).flagSince = s.flagSince := rfl
@[simp] theorem State.carM_parked (s : State) (c : Fin 8) (f : Carrier → Carrier) : (s.carM c f).parked = s.parked := rfl
@[simp] theorem State.carM_landing (s : State) (c : Fin 8) (f : Carrier → Carrier) : (s.carM c f).landing = s.landing := rfl
@[simp] theorem State.carM_pending (s : State) (c : Fin 8) (f : Carrier → Carrier) : (s.carM c f).pending = s.pending := rfl
@[simp] theorem State.carM_tbl (s : State) (c : Fin 8) (f : Carrier → Carrier) : (s.carM c f).tbl = s.tbl := rfl
@[simp] theorem State.carM_pll (s : State) (c : Fin 8) (f : Carrier → Carrier) : (s.carM c f).pll = s.pll := rfl
@[simp] theorem State.carM_modin (s : State) (c : Fin 8) (f : Carrier → Carrier) : (s.carM c f).modin = s.modin := rfl
@[simp] theorem State.carM_samples (s : State) (c : Fin 8) (f : Carrier → Carrier) : (s.carM c f).samples = s.samples := rfl
@[simp] theorem State.carM_samplesOld (s : State) (c : Fin 8) (f : Carrier → Carrier) : (s.carM c f).samplesOld = s.samplesOld := rfl
@[simp] theorem State.carM_acu (s : State) (c : Fin 8) (f : Carrier → Carrier) : (s.carM c f).acu = s.acu := rfl
@[simp] theorem State.carM_mramc (s : State) (c : Fin 8) (f : Carrier → Carrier) : (s.carM c f).mramc = s.mramc := rfl
@[simp] theorem State.carM_drive (s : State) (c : Fin 8) (f : Carrier → Carrier) : (s.carM c f).drive = s.drive := rfl
@[simp] theorem State.carM_gp (s : State) (c : Fin 8) (f : Carrier → Carrier) : (s.carM c f).gp = s.gp := rfl
@[simp] theorem State.carM_prot (s : State) (c : Fin 8) (f : Carrier → Carrier) : (s.carM c f).prot = s.prot := rfl
@[simp] theorem State.carM_probe (s : State) (c : Fin 8) (f : Carrier → Carrier) : (s.carM c f).probe = s.probe := rfl
@[simp] theorem State.carM_meter (s : State) (c : Fin 8) (f : Carrier → Carrier) : (s.carM c f).meter = s.meter := rfl
@[simp] theorem State.carM_dc (s : State) (c : Fin 8) (f : Carrier → Carrier) : (s.carM c f).dc = s.dc := rfl
@[simp] theorem State.carM_safe (s : State) (c : Fin 8) (f : Carrier → Carrier) : (s.carM c f).safe = s.safe := rfl
@[simp] theorem State.carM_dma (s : State) (c : Fin 8) (f : Carrier → Carrier) : (s.carM c f).dma = s.dma := rfl
@[simp] theorem State.carM_eth (s : State) (c : Fin 8) (f : Carrier → Carrier) : (s.carM c f).eth = s.eth := rfl
@[simp] theorem State.carM_mon (s : State) (c : Fin 8) (f : Carrier → Carrier) : (s.carM c f).mon = s.mon := rfl
@[simp] theorem State.carM_cpu (s : State) (c : Fin 8) (f : Carrier → Carrier) : (s.carM c f).cpu = s.cpu := rfl
@[simp] theorem State.carM_rk (s : State) (c : Fin 8) (f : Carrier → Carrier) : (s.carM c f).rk = s.rk := rfl
@[simp] theorem State.carM_st (s : State) (c : Fin 8) (f : Carrier → Carrier) : (s.carM c f).st = s.st := rfl
@[simp] theorem State.carM_wdg (s : State) (c : Fin 8) (f : Carrier → Carrier) : (s.carM c f).wdg = s.wdg := rfl
@[simp] theorem State.carM_xbar (s : State) (c : Fin 8) (f : Carrier → Carrier) : (s.carM c f).xbar = s.xbar := rfl
@[simp] theorem State.carM_host (s : State) (c : Fin 8) (f : Carrier → Carrier) : (s.carM c f).host = s.host := rfl
@[simp] theorem State.carM_dport (s : State) (c : Fin 8) (f : Carrier → Carrier) : (s.carM c f).dport = s.dport := rfl
@[simp] theorem State.carM_sec (s : State) (c : Fin 8) (f : Carrier → Carrier) : (s.carM c f).sec = s.sec := rfl
@[simp] theorem State.carM_consent (s : State) (c : Fin 8) (f : Carrier → Carrier) : (s.carM c f).consent = s.consent := rfl
@[simp] theorem State.carM_link (s : State) (c : Fin 8) (f : Carrier → Carrier) : (s.carM c f).link = s.link := rfl
@[simp] theorem State.carM_sentinel (s : State) (c : Fin 8) (f : Carrier → Carrier) : (s.carM c f).sentinel = s.sentinel := rfl
@[simp] theorem State.carM_pmu (s : State) (c : Fin 8) (f : Carrier → Carrier) : (s.carM c f).pmu = s.pmu := rfl
@[simp] theorem State.carM_gpio (s : State) (c : Fin 8) (f : Carrier → Carrier) : (s.carM c f).gpio = s.gpio := rfl
@[simp] theorem State.carM_gpioPort (s : State) (c : Fin 8) (f : Carrier → Carrier) : (s.carM c f).gpioPort = s.gpioPort := rfl
@[simp] theorem State.carM_rd (s : State) (c : Fin 8) (f : Carrier → Carrier) (x : Nat) : (s.carM c f).rd x = s.rd x := rfl
@[simp] theorem State.carM_rdN (s : State) (c : Fin 8) (f : Carrier → Carrier) (x : Nat) : (s.carM c f).rdN x = s.rdN x := rfl
@[simp] theorem State.carM_get (s : State) (c : Fin 8) (f : Carrier → Carrier) (x : Fld) : (s.carM c f).get x = s.get x := rfl

@[simp] theorem State.chipM_now (s : State) (b : Nat) (f : ProbeChip → ProbeChip) : (s.chipM b f).now = s.now := rfl
@[simp] theorem State.chipM_regs (s : State) (b : Nat) (f : ProbeChip → ProbeChip) : (s.chipM b f).regs = s.regs := rfl
@[simp] theorem State.chipM_hiLive (s : State) (b : Nat) (f : ProbeChip → ProbeChip) : (s.chipM b f).hiLive = s.hiLive := rfl
@[simp] theorem State.chipM_mem (s : State) (b : Nat) (f : ProbeChip → ProbeChip) : (s.chipM b f).mem = s.mem := rfl
@[simp] theorem State.chipM_free (s : State) (b : Nat) (f : ProbeChip → ProbeChip) : (s.chipM b f).free = s.free := rfl
@[simp] theorem State.chipM_rdata (s : State) (b : Nat) (f : ProbeChip → ProbeChip) : (s.chipM b f).rdata = s.rdata := rfl
@[simp] theorem State.chipM_stCycles (s : State) (b : Nat) (f : ProbeChip → ProbeChip) : (s.chipM b f).stCycles = s.stCycles := rfl
@[simp] theorem State.chipM_stCyclesAt (s : State) (b : Nat) (f : ProbeChip → ProbeChip) : (s.chipM b f).stCyclesAt = s.stCyclesAt := rfl
@[simp] theorem State.chipM_setAt (s : State) (b : Nat) (f : ProbeChip → ProbeChip) : (s.chipM b f).setAt = s.setAt := rfl
@[simp] theorem State.chipM_setFlags (s : State) (b : Nat) (f : ProbeChip → ProbeChip) : (s.chipM b f).setFlags = s.setFlags := rfl
@[simp] theorem State.chipM_flagSince (s : State) (b : Nat) (f : ProbeChip → ProbeChip) : (s.chipM b f).flagSince = s.flagSince := rfl
@[simp] theorem State.chipM_parked (s : State) (b : Nat) (f : ProbeChip → ProbeChip) : (s.chipM b f).parked = s.parked := rfl
@[simp] theorem State.chipM_landing (s : State) (b : Nat) (f : ProbeChip → ProbeChip) : (s.chipM b f).landing = s.landing := rfl
@[simp] theorem State.chipM_pending (s : State) (b : Nat) (f : ProbeChip → ProbeChip) : (s.chipM b f).pending = s.pending := rfl
@[simp] theorem State.chipM_tbl (s : State) (b : Nat) (f : ProbeChip → ProbeChip) : (s.chipM b f).tbl = s.tbl := rfl
@[simp] theorem State.chipM_pll (s : State) (b : Nat) (f : ProbeChip → ProbeChip) : (s.chipM b f).pll = s.pll := rfl
@[simp] theorem State.chipM_modin (s : State) (b : Nat) (f : ProbeChip → ProbeChip) : (s.chipM b f).modin = s.modin := rfl
@[simp] theorem State.chipM_samples (s : State) (b : Nat) (f : ProbeChip → ProbeChip) : (s.chipM b f).samples = s.samples := rfl
@[simp] theorem State.chipM_samplesOld (s : State) (b : Nat) (f : ProbeChip → ProbeChip) : (s.chipM b f).samplesOld = s.samplesOld := rfl
@[simp] theorem State.chipM_acu (s : State) (b : Nat) (f : ProbeChip → ProbeChip) : (s.chipM b f).acu = s.acu := rfl
@[simp] theorem State.chipM_mramc (s : State) (b : Nat) (f : ProbeChip → ProbeChip) : (s.chipM b f).mramc = s.mramc := rfl
@[simp] theorem State.chipM_pwm (s : State) (b : Nat) (f : ProbeChip → ProbeChip) : (s.chipM b f).pwm = s.pwm := rfl
@[simp] theorem State.chipM_drive (s : State) (b : Nat) (f : ProbeChip → ProbeChip) : (s.chipM b f).drive = s.drive := rfl
@[simp] theorem State.chipM_gp (s : State) (b : Nat) (f : ProbeChip → ProbeChip) : (s.chipM b f).gp = s.gp := rfl
@[simp] theorem State.chipM_prot (s : State) (b : Nat) (f : ProbeChip → ProbeChip) : (s.chipM b f).prot = s.prot := rfl
@[simp] theorem State.chipM_meter (s : State) (b : Nat) (f : ProbeChip → ProbeChip) : (s.chipM b f).meter = s.meter := rfl
@[simp] theorem State.chipM_dc (s : State) (b : Nat) (f : ProbeChip → ProbeChip) : (s.chipM b f).dc = s.dc := rfl
@[simp] theorem State.chipM_safe (s : State) (b : Nat) (f : ProbeChip → ProbeChip) : (s.chipM b f).safe = s.safe := rfl
@[simp] theorem State.chipM_dma (s : State) (b : Nat) (f : ProbeChip → ProbeChip) : (s.chipM b f).dma = s.dma := rfl
@[simp] theorem State.chipM_eth (s : State) (b : Nat) (f : ProbeChip → ProbeChip) : (s.chipM b f).eth = s.eth := rfl
@[simp] theorem State.chipM_mon (s : State) (b : Nat) (f : ProbeChip → ProbeChip) : (s.chipM b f).mon = s.mon := rfl
@[simp] theorem State.chipM_cpu (s : State) (b : Nat) (f : ProbeChip → ProbeChip) : (s.chipM b f).cpu = s.cpu := rfl
@[simp] theorem State.chipM_rk (s : State) (b : Nat) (f : ProbeChip → ProbeChip) : (s.chipM b f).rk = s.rk := rfl
@[simp] theorem State.chipM_st (s : State) (b : Nat) (f : ProbeChip → ProbeChip) : (s.chipM b f).st = s.st := rfl
@[simp] theorem State.chipM_wdg (s : State) (b : Nat) (f : ProbeChip → ProbeChip) : (s.chipM b f).wdg = s.wdg := rfl
@[simp] theorem State.chipM_xbar (s : State) (b : Nat) (f : ProbeChip → ProbeChip) : (s.chipM b f).xbar = s.xbar := rfl
@[simp] theorem State.chipM_host (s : State) (b : Nat) (f : ProbeChip → ProbeChip) : (s.chipM b f).host = s.host := rfl
@[simp] theorem State.chipM_dport (s : State) (b : Nat) (f : ProbeChip → ProbeChip) : (s.chipM b f).dport = s.dport := rfl
@[simp] theorem State.chipM_sec (s : State) (b : Nat) (f : ProbeChip → ProbeChip) : (s.chipM b f).sec = s.sec := rfl
@[simp] theorem State.chipM_consent (s : State) (b : Nat) (f : ProbeChip → ProbeChip) : (s.chipM b f).consent = s.consent := rfl
@[simp] theorem State.chipM_link (s : State) (b : Nat) (f : ProbeChip → ProbeChip) : (s.chipM b f).link = s.link := rfl
@[simp] theorem State.chipM_sentinel (s : State) (b : Nat) (f : ProbeChip → ProbeChip) : (s.chipM b f).sentinel = s.sentinel := rfl
@[simp] theorem State.chipM_pmu (s : State) (b : Nat) (f : ProbeChip → ProbeChip) : (s.chipM b f).pmu = s.pmu := rfl
@[simp] theorem State.chipM_gpio (s : State) (b : Nat) (f : ProbeChip → ProbeChip) : (s.chipM b f).gpio = s.gpio := rfl
@[simp] theorem State.chipM_gpioPort (s : State) (b : Nat) (f : ProbeChip → ProbeChip) : (s.chipM b f).gpioPort = s.gpioPort := rfl
@[simp] theorem State.chipM_rd (s : State) (b : Nat) (f : ProbeChip → ProbeChip) (x : Nat) : (s.chipM b f).rd x = s.rd x := rfl
@[simp] theorem State.chipM_rdN (s : State) (b : Nat) (f : ProbeChip → ProbeChip) (x : Nat) : (s.chipM b f).rdN x = s.rdN x := rfl
@[simp] theorem State.chipM_get (s : State) (b : Nat) (f : ProbeChip → ProbeChip) (x : Fld) : (s.chipM b f).get x = s.get x := rfl

@[simp] theorem State.consM_consent (s : State) (f : Consent → Consent) : (s.consM f).consent = f s.consent := rfl
@[simp] theorem State.consM_now (s : State) (f : Consent → Consent) : (s.consM f).now = s.now := rfl
@[simp] theorem State.consM_regs (s : State) (f : Consent → Consent) : (s.consM f).regs = s.regs := rfl
@[simp] theorem State.consM_hiLive (s : State) (f : Consent → Consent) : (s.consM f).hiLive = s.hiLive := rfl
@[simp] theorem State.consM_mem (s : State) (f : Consent → Consent) : (s.consM f).mem = s.mem := rfl
@[simp] theorem State.consM_free (s : State) (f : Consent → Consent) : (s.consM f).free = s.free := rfl
@[simp] theorem State.consM_rdata (s : State) (f : Consent → Consent) : (s.consM f).rdata = s.rdata := rfl
@[simp] theorem State.consM_stCycles (s : State) (f : Consent → Consent) : (s.consM f).stCycles = s.stCycles := rfl
@[simp] theorem State.consM_stCyclesAt (s : State) (f : Consent → Consent) : (s.consM f).stCyclesAt = s.stCyclesAt := rfl
@[simp] theorem State.consM_setAt (s : State) (f : Consent → Consent) : (s.consM f).setAt = s.setAt := rfl
@[simp] theorem State.consM_setFlags (s : State) (f : Consent → Consent) : (s.consM f).setFlags = s.setFlags := rfl
@[simp] theorem State.consM_flagSince (s : State) (f : Consent → Consent) : (s.consM f).flagSince = s.flagSince := rfl
@[simp] theorem State.consM_parked (s : State) (f : Consent → Consent) : (s.consM f).parked = s.parked := rfl
@[simp] theorem State.consM_landing (s : State) (f : Consent → Consent) : (s.consM f).landing = s.landing := rfl
@[simp] theorem State.consM_pending (s : State) (f : Consent → Consent) : (s.consM f).pending = s.pending := rfl
@[simp] theorem State.consM_tbl (s : State) (f : Consent → Consent) : (s.consM f).tbl = s.tbl := rfl
@[simp] theorem State.consM_pll (s : State) (f : Consent → Consent) : (s.consM f).pll = s.pll := rfl
@[simp] theorem State.consM_modin (s : State) (f : Consent → Consent) : (s.consM f).modin = s.modin := rfl
@[simp] theorem State.consM_samples (s : State) (f : Consent → Consent) : (s.consM f).samples = s.samples := rfl
@[simp] theorem State.consM_samplesOld (s : State) (f : Consent → Consent) : (s.consM f).samplesOld = s.samplesOld := rfl
@[simp] theorem State.consM_acu (s : State) (f : Consent → Consent) : (s.consM f).acu = s.acu := rfl
@[simp] theorem State.consM_mramc (s : State) (f : Consent → Consent) : (s.consM f).mramc = s.mramc := rfl
@[simp] theorem State.consM_pwm (s : State) (f : Consent → Consent) : (s.consM f).pwm = s.pwm := rfl
@[simp] theorem State.consM_drive (s : State) (f : Consent → Consent) : (s.consM f).drive = s.drive := rfl
@[simp] theorem State.consM_gp (s : State) (f : Consent → Consent) : (s.consM f).gp = s.gp := rfl
@[simp] theorem State.consM_prot (s : State) (f : Consent → Consent) : (s.consM f).prot = s.prot := rfl
@[simp] theorem State.consM_probe (s : State) (f : Consent → Consent) : (s.consM f).probe = s.probe := rfl
@[simp] theorem State.consM_meter (s : State) (f : Consent → Consent) : (s.consM f).meter = s.meter := rfl
@[simp] theorem State.consM_dc (s : State) (f : Consent → Consent) : (s.consM f).dc = s.dc := rfl
@[simp] theorem State.consM_safe (s : State) (f : Consent → Consent) : (s.consM f).safe = s.safe := rfl
@[simp] theorem State.consM_dma (s : State) (f : Consent → Consent) : (s.consM f).dma = s.dma := rfl
@[simp] theorem State.consM_eth (s : State) (f : Consent → Consent) : (s.consM f).eth = s.eth := rfl
@[simp] theorem State.consM_mon (s : State) (f : Consent → Consent) : (s.consM f).mon = s.mon := rfl
@[simp] theorem State.consM_cpu (s : State) (f : Consent → Consent) : (s.consM f).cpu = s.cpu := rfl
@[simp] theorem State.consM_rk (s : State) (f : Consent → Consent) : (s.consM f).rk = s.rk := rfl
@[simp] theorem State.consM_st (s : State) (f : Consent → Consent) : (s.consM f).st = s.st := rfl
@[simp] theorem State.consM_wdg (s : State) (f : Consent → Consent) : (s.consM f).wdg = s.wdg := rfl
@[simp] theorem State.consM_xbar (s : State) (f : Consent → Consent) : (s.consM f).xbar = s.xbar := rfl
@[simp] theorem State.consM_host (s : State) (f : Consent → Consent) : (s.consM f).host = s.host := rfl
@[simp] theorem State.consM_dport (s : State) (f : Consent → Consent) : (s.consM f).dport = s.dport := rfl
@[simp] theorem State.consM_sec (s : State) (f : Consent → Consent) : (s.consM f).sec = s.sec := rfl
@[simp] theorem State.consM_link (s : State) (f : Consent → Consent) : (s.consM f).link = s.link := rfl
@[simp] theorem State.consM_sentinel (s : State) (f : Consent → Consent) : (s.consM f).sentinel = s.sentinel := rfl
@[simp] theorem State.consM_pmu (s : State) (f : Consent → Consent) : (s.consM f).pmu = s.pmu := rfl
@[simp] theorem State.consM_gpio (s : State) (f : Consent → Consent) : (s.consM f).gpio = s.gpio := rfl
@[simp] theorem State.consM_gpioPort (s : State) (f : Consent → Consent) : (s.consM f).gpioPort = s.gpioPort := rfl
@[simp] theorem State.consM_rd (s : State) (f : Consent → Consent) (x : Nat) : (s.consM f).rd x = s.rd x := rfl
@[simp] theorem State.consM_rdN (s : State) (f : Consent → Consent) (x : Nat) : (s.consM f).rdN x = s.rdN x := rfl
@[simp] theorem State.consM_get (s : State) (f : Consent → Consent) (x : Fld) : (s.consM f).get x = s.get x := rfl

@[simp] theorem State.cpuM_cpu (s : State) (c : Fin 6) (f : Cpu → Cpu) : (s.cpuM c f).cpu = s.cpu.upd c f := rfl
@[simp] theorem State.cpuM_now (s : State) (c : Fin 6) (f : Cpu → Cpu) : (s.cpuM c f).now = s.now := rfl
@[simp] theorem State.cpuM_regs (s : State) (c : Fin 6) (f : Cpu → Cpu) : (s.cpuM c f).regs = s.regs := rfl
@[simp] theorem State.cpuM_hiLive (s : State) (c : Fin 6) (f : Cpu → Cpu) : (s.cpuM c f).hiLive = s.hiLive := rfl
@[simp] theorem State.cpuM_mem (s : State) (c : Fin 6) (f : Cpu → Cpu) : (s.cpuM c f).mem = s.mem := rfl
@[simp] theorem State.cpuM_free (s : State) (c : Fin 6) (f : Cpu → Cpu) : (s.cpuM c f).free = s.free := rfl
@[simp] theorem State.cpuM_rdata (s : State) (c : Fin 6) (f : Cpu → Cpu) : (s.cpuM c f).rdata = s.rdata := rfl
@[simp] theorem State.cpuM_stCycles (s : State) (c : Fin 6) (f : Cpu → Cpu) : (s.cpuM c f).stCycles = s.stCycles := rfl
@[simp] theorem State.cpuM_stCyclesAt (s : State) (c : Fin 6) (f : Cpu → Cpu) : (s.cpuM c f).stCyclesAt = s.stCyclesAt := rfl
@[simp] theorem State.cpuM_setAt (s : State) (c : Fin 6) (f : Cpu → Cpu) : (s.cpuM c f).setAt = s.setAt := rfl
@[simp] theorem State.cpuM_setFlags (s : State) (c : Fin 6) (f : Cpu → Cpu) : (s.cpuM c f).setFlags = s.setFlags := rfl
@[simp] theorem State.cpuM_flagSince (s : State) (c : Fin 6) (f : Cpu → Cpu) : (s.cpuM c f).flagSince = s.flagSince := rfl
@[simp] theorem State.cpuM_parked (s : State) (c : Fin 6) (f : Cpu → Cpu) : (s.cpuM c f).parked = s.parked := rfl
@[simp] theorem State.cpuM_landing (s : State) (c : Fin 6) (f : Cpu → Cpu) : (s.cpuM c f).landing = s.landing := rfl
@[simp] theorem State.cpuM_pending (s : State) (c : Fin 6) (f : Cpu → Cpu) : (s.cpuM c f).pending = s.pending := rfl
@[simp] theorem State.cpuM_tbl (s : State) (c : Fin 6) (f : Cpu → Cpu) : (s.cpuM c f).tbl = s.tbl := rfl
@[simp] theorem State.cpuM_pll (s : State) (c : Fin 6) (f : Cpu → Cpu) : (s.cpuM c f).pll = s.pll := rfl
@[simp] theorem State.cpuM_modin (s : State) (c : Fin 6) (f : Cpu → Cpu) : (s.cpuM c f).modin = s.modin := rfl
@[simp] theorem State.cpuM_samples (s : State) (c : Fin 6) (f : Cpu → Cpu) : (s.cpuM c f).samples = s.samples := rfl
@[simp] theorem State.cpuM_samplesOld (s : State) (c : Fin 6) (f : Cpu → Cpu) : (s.cpuM c f).samplesOld = s.samplesOld := rfl
@[simp] theorem State.cpuM_acu (s : State) (c : Fin 6) (f : Cpu → Cpu) : (s.cpuM c f).acu = s.acu := rfl
@[simp] theorem State.cpuM_mramc (s : State) (c : Fin 6) (f : Cpu → Cpu) : (s.cpuM c f).mramc = s.mramc := rfl
@[simp] theorem State.cpuM_pwm (s : State) (c : Fin 6) (f : Cpu → Cpu) : (s.cpuM c f).pwm = s.pwm := rfl
@[simp] theorem State.cpuM_drive (s : State) (c : Fin 6) (f : Cpu → Cpu) : (s.cpuM c f).drive = s.drive := rfl
@[simp] theorem State.cpuM_gp (s : State) (c : Fin 6) (f : Cpu → Cpu) : (s.cpuM c f).gp = s.gp := rfl
@[simp] theorem State.cpuM_prot (s : State) (c : Fin 6) (f : Cpu → Cpu) : (s.cpuM c f).prot = s.prot := rfl
@[simp] theorem State.cpuM_probe (s : State) (c : Fin 6) (f : Cpu → Cpu) : (s.cpuM c f).probe = s.probe := rfl
@[simp] theorem State.cpuM_meter (s : State) (c : Fin 6) (f : Cpu → Cpu) : (s.cpuM c f).meter = s.meter := rfl
@[simp] theorem State.cpuM_dc (s : State) (c : Fin 6) (f : Cpu → Cpu) : (s.cpuM c f).dc = s.dc := rfl
@[simp] theorem State.cpuM_safe (s : State) (c : Fin 6) (f : Cpu → Cpu) : (s.cpuM c f).safe = s.safe := rfl
@[simp] theorem State.cpuM_dma (s : State) (c : Fin 6) (f : Cpu → Cpu) : (s.cpuM c f).dma = s.dma := rfl
@[simp] theorem State.cpuM_eth (s : State) (c : Fin 6) (f : Cpu → Cpu) : (s.cpuM c f).eth = s.eth := rfl
@[simp] theorem State.cpuM_mon (s : State) (c : Fin 6) (f : Cpu → Cpu) : (s.cpuM c f).mon = s.mon := rfl
@[simp] theorem State.cpuM_rk (s : State) (c : Fin 6) (f : Cpu → Cpu) : (s.cpuM c f).rk = s.rk := rfl
@[simp] theorem State.cpuM_st (s : State) (c : Fin 6) (f : Cpu → Cpu) : (s.cpuM c f).st = s.st := rfl
@[simp] theorem State.cpuM_wdg (s : State) (c : Fin 6) (f : Cpu → Cpu) : (s.cpuM c f).wdg = s.wdg := rfl
@[simp] theorem State.cpuM_xbar (s : State) (c : Fin 6) (f : Cpu → Cpu) : (s.cpuM c f).xbar = s.xbar := rfl
@[simp] theorem State.cpuM_host (s : State) (c : Fin 6) (f : Cpu → Cpu) : (s.cpuM c f).host = s.host := rfl
@[simp] theorem State.cpuM_dport (s : State) (c : Fin 6) (f : Cpu → Cpu) : (s.cpuM c f).dport = s.dport := rfl
@[simp] theorem State.cpuM_sec (s : State) (c : Fin 6) (f : Cpu → Cpu) : (s.cpuM c f).sec = s.sec := rfl
@[simp] theorem State.cpuM_consent (s : State) (c : Fin 6) (f : Cpu → Cpu) : (s.cpuM c f).consent = s.consent := rfl
@[simp] theorem State.cpuM_link (s : State) (c : Fin 6) (f : Cpu → Cpu) : (s.cpuM c f).link = s.link := rfl
@[simp] theorem State.cpuM_sentinel (s : State) (c : Fin 6) (f : Cpu → Cpu) : (s.cpuM c f).sentinel = s.sentinel := rfl
@[simp] theorem State.cpuM_pmu (s : State) (c : Fin 6) (f : Cpu → Cpu) : (s.cpuM c f).pmu = s.pmu := rfl
@[simp] theorem State.cpuM_gpio (s : State) (c : Fin 6) (f : Cpu → Cpu) : (s.cpuM c f).gpio = s.gpio := rfl
@[simp] theorem State.cpuM_gpioPort (s : State) (c : Fin 6) (f : Cpu → Cpu) : (s.cpuM c f).gpioPort = s.gpioPort := rfl
@[simp] theorem State.cpuM_rd (s : State) (c : Fin 6) (f : Cpu → Cpu) (x : Nat) : (s.cpuM c f).rd x = s.rd x := rfl
@[simp] theorem State.cpuM_rdN (s : State) (c : Fin 6) (f : Cpu → Cpu) (x : Nat) : (s.cpuM c f).rdN x = s.rdN x := rfl
@[simp] theorem State.cpuM_get (s : State) (c : Fin 6) (f : Cpu → Cpu) (x : Fld) : (s.cpuM c f).get x = s.get x := rfl

@[simp] theorem State.curveM_now (s : State) (c : Fin 4) (f : Curve → Curve) : (s.curveM c f).now = s.now := rfl
@[simp] theorem State.curveM_regs (s : State) (c : Fin 4) (f : Curve → Curve) : (s.curveM c f).regs = s.regs := rfl
@[simp] theorem State.curveM_hiLive (s : State) (c : Fin 4) (f : Curve → Curve) : (s.curveM c f).hiLive = s.hiLive := rfl
@[simp] theorem State.curveM_mem (s : State) (c : Fin 4) (f : Curve → Curve) : (s.curveM c f).mem = s.mem := rfl
@[simp] theorem State.curveM_free (s : State) (c : Fin 4) (f : Curve → Curve) : (s.curveM c f).free = s.free := rfl
@[simp] theorem State.curveM_rdata (s : State) (c : Fin 4) (f : Curve → Curve) : (s.curveM c f).rdata = s.rdata := rfl
@[simp] theorem State.curveM_stCycles (s : State) (c : Fin 4) (f : Curve → Curve) : (s.curveM c f).stCycles = s.stCycles := rfl
@[simp] theorem State.curveM_stCyclesAt (s : State) (c : Fin 4) (f : Curve → Curve) : (s.curveM c f).stCyclesAt = s.stCyclesAt := rfl
@[simp] theorem State.curveM_setAt (s : State) (c : Fin 4) (f : Curve → Curve) : (s.curveM c f).setAt = s.setAt := rfl
@[simp] theorem State.curveM_setFlags (s : State) (c : Fin 4) (f : Curve → Curve) : (s.curveM c f).setFlags = s.setFlags := rfl
@[simp] theorem State.curveM_flagSince (s : State) (c : Fin 4) (f : Curve → Curve) : (s.curveM c f).flagSince = s.flagSince := rfl
@[simp] theorem State.curveM_parked (s : State) (c : Fin 4) (f : Curve → Curve) : (s.curveM c f).parked = s.parked := rfl
@[simp] theorem State.curveM_landing (s : State) (c : Fin 4) (f : Curve → Curve) : (s.curveM c f).landing = s.landing := rfl
@[simp] theorem State.curveM_pending (s : State) (c : Fin 4) (f : Curve → Curve) : (s.curveM c f).pending = s.pending := rfl
@[simp] theorem State.curveM_tbl (s : State) (c : Fin 4) (f : Curve → Curve) : (s.curveM c f).tbl = s.tbl := rfl
@[simp] theorem State.curveM_pll (s : State) (c : Fin 4) (f : Curve → Curve) : (s.curveM c f).pll = s.pll := rfl
@[simp] theorem State.curveM_modin (s : State) (c : Fin 4) (f : Curve → Curve) : (s.curveM c f).modin = s.modin := rfl
@[simp] theorem State.curveM_samples (s : State) (c : Fin 4) (f : Curve → Curve) : (s.curveM c f).samples = s.samples := rfl
@[simp] theorem State.curveM_samplesOld (s : State) (c : Fin 4) (f : Curve → Curve) : (s.curveM c f).samplesOld = s.samplesOld := rfl
@[simp] theorem State.curveM_acu (s : State) (c : Fin 4) (f : Curve → Curve) : (s.curveM c f).acu = s.acu := rfl
@[simp] theorem State.curveM_mramc (s : State) (c : Fin 4) (f : Curve → Curve) : (s.curveM c f).mramc = s.mramc := rfl
@[simp] theorem State.curveM_pwm (s : State) (c : Fin 4) (f : Curve → Curve) : (s.curveM c f).pwm = s.pwm := rfl
@[simp] theorem State.curveM_drive (s : State) (c : Fin 4) (f : Curve → Curve) : (s.curveM c f).drive = s.drive := rfl
@[simp] theorem State.curveM_gp (s : State) (c : Fin 4) (f : Curve → Curve) : (s.curveM c f).gp = s.gp := rfl
@[simp] theorem State.curveM_probe (s : State) (c : Fin 4) (f : Curve → Curve) : (s.curveM c f).probe = s.probe := rfl
@[simp] theorem State.curveM_meter (s : State) (c : Fin 4) (f : Curve → Curve) : (s.curveM c f).meter = s.meter := rfl
@[simp] theorem State.curveM_dc (s : State) (c : Fin 4) (f : Curve → Curve) : (s.curveM c f).dc = s.dc := rfl
@[simp] theorem State.curveM_safe (s : State) (c : Fin 4) (f : Curve → Curve) : (s.curveM c f).safe = s.safe := rfl
@[simp] theorem State.curveM_dma (s : State) (c : Fin 4) (f : Curve → Curve) : (s.curveM c f).dma = s.dma := rfl
@[simp] theorem State.curveM_eth (s : State) (c : Fin 4) (f : Curve → Curve) : (s.curveM c f).eth = s.eth := rfl
@[simp] theorem State.curveM_mon (s : State) (c : Fin 4) (f : Curve → Curve) : (s.curveM c f).mon = s.mon := rfl
@[simp] theorem State.curveM_cpu (s : State) (c : Fin 4) (f : Curve → Curve) : (s.curveM c f).cpu = s.cpu := rfl
@[simp] theorem State.curveM_rk (s : State) (c : Fin 4) (f : Curve → Curve) : (s.curveM c f).rk = s.rk := rfl
@[simp] theorem State.curveM_st (s : State) (c : Fin 4) (f : Curve → Curve) : (s.curveM c f).st = s.st := rfl
@[simp] theorem State.curveM_wdg (s : State) (c : Fin 4) (f : Curve → Curve) : (s.curveM c f).wdg = s.wdg := rfl
@[simp] theorem State.curveM_xbar (s : State) (c : Fin 4) (f : Curve → Curve) : (s.curveM c f).xbar = s.xbar := rfl
@[simp] theorem State.curveM_host (s : State) (c : Fin 4) (f : Curve → Curve) : (s.curveM c f).host = s.host := rfl
@[simp] theorem State.curveM_dport (s : State) (c : Fin 4) (f : Curve → Curve) : (s.curveM c f).dport = s.dport := rfl
@[simp] theorem State.curveM_sec (s : State) (c : Fin 4) (f : Curve → Curve) : (s.curveM c f).sec = s.sec := rfl
@[simp] theorem State.curveM_consent (s : State) (c : Fin 4) (f : Curve → Curve) : (s.curveM c f).consent = s.consent := rfl
@[simp] theorem State.curveM_link (s : State) (c : Fin 4) (f : Curve → Curve) : (s.curveM c f).link = s.link := rfl
@[simp] theorem State.curveM_sentinel (s : State) (c : Fin 4) (f : Curve → Curve) : (s.curveM c f).sentinel = s.sentinel := rfl
@[simp] theorem State.curveM_pmu (s : State) (c : Fin 4) (f : Curve → Curve) : (s.curveM c f).pmu = s.pmu := rfl
@[simp] theorem State.curveM_gpio (s : State) (c : Fin 4) (f : Curve → Curve) : (s.curveM c f).gpio = s.gpio := rfl
@[simp] theorem State.curveM_gpioPort (s : State) (c : Fin 4) (f : Curve → Curve) : (s.curveM c f).gpioPort = s.gpioPort := rfl
@[simp] theorem State.curveM_rd (s : State) (c : Fin 4) (f : Curve → Curve) (x : Nat) : (s.curveM c f).rd x = s.rd x := rfl
@[simp] theorem State.curveM_rdN (s : State) (c : Fin 4) (f : Curve → Curve) (x : Nat) : (s.curveM c f).rdN x = s.rdN x := rfl
@[simp] theorem State.curveM_get (s : State) (c : Fin 4) (f : Curve → Curve) (x : Fld) : (s.curveM c f).get x = s.get x := rfl

@[simp] theorem State.dcM_dc (s : State) (k : Fin 8) (f : DcIn → DcIn) : (s.dcM k f).dc = s.dc.upd k f := rfl
@[simp] theorem State.dcM_now (s : State) (k : Fin 8) (f : DcIn → DcIn) : (s.dcM k f).now = s.now := rfl
@[simp] theorem State.dcM_regs (s : State) (k : Fin 8) (f : DcIn → DcIn) : (s.dcM k f).regs = s.regs := rfl
@[simp] theorem State.dcM_hiLive (s : State) (k : Fin 8) (f : DcIn → DcIn) : (s.dcM k f).hiLive = s.hiLive := rfl
@[simp] theorem State.dcM_mem (s : State) (k : Fin 8) (f : DcIn → DcIn) : (s.dcM k f).mem = s.mem := rfl
@[simp] theorem State.dcM_free (s : State) (k : Fin 8) (f : DcIn → DcIn) : (s.dcM k f).free = s.free := rfl
@[simp] theorem State.dcM_rdata (s : State) (k : Fin 8) (f : DcIn → DcIn) : (s.dcM k f).rdata = s.rdata := rfl
@[simp] theorem State.dcM_stCycles (s : State) (k : Fin 8) (f : DcIn → DcIn) : (s.dcM k f).stCycles = s.stCycles := rfl
@[simp] theorem State.dcM_stCyclesAt (s : State) (k : Fin 8) (f : DcIn → DcIn) : (s.dcM k f).stCyclesAt = s.stCyclesAt := rfl
@[simp] theorem State.dcM_setAt (s : State) (k : Fin 8) (f : DcIn → DcIn) : (s.dcM k f).setAt = s.setAt := rfl
@[simp] theorem State.dcM_setFlags (s : State) (k : Fin 8) (f : DcIn → DcIn) : (s.dcM k f).setFlags = s.setFlags := rfl
@[simp] theorem State.dcM_flagSince (s : State) (k : Fin 8) (f : DcIn → DcIn) : (s.dcM k f).flagSince = s.flagSince := rfl
@[simp] theorem State.dcM_parked (s : State) (k : Fin 8) (f : DcIn → DcIn) : (s.dcM k f).parked = s.parked := rfl
@[simp] theorem State.dcM_landing (s : State) (k : Fin 8) (f : DcIn → DcIn) : (s.dcM k f).landing = s.landing := rfl
@[simp] theorem State.dcM_pending (s : State) (k : Fin 8) (f : DcIn → DcIn) : (s.dcM k f).pending = s.pending := rfl
@[simp] theorem State.dcM_tbl (s : State) (k : Fin 8) (f : DcIn → DcIn) : (s.dcM k f).tbl = s.tbl := rfl
@[simp] theorem State.dcM_pll (s : State) (k : Fin 8) (f : DcIn → DcIn) : (s.dcM k f).pll = s.pll := rfl
@[simp] theorem State.dcM_modin (s : State) (k : Fin 8) (f : DcIn → DcIn) : (s.dcM k f).modin = s.modin := rfl
@[simp] theorem State.dcM_samples (s : State) (k : Fin 8) (f : DcIn → DcIn) : (s.dcM k f).samples = s.samples := rfl
@[simp] theorem State.dcM_samplesOld (s : State) (k : Fin 8) (f : DcIn → DcIn) : (s.dcM k f).samplesOld = s.samplesOld := rfl
@[simp] theorem State.dcM_acu (s : State) (k : Fin 8) (f : DcIn → DcIn) : (s.dcM k f).acu = s.acu := rfl
@[simp] theorem State.dcM_mramc (s : State) (k : Fin 8) (f : DcIn → DcIn) : (s.dcM k f).mramc = s.mramc := rfl
@[simp] theorem State.dcM_pwm (s : State) (k : Fin 8) (f : DcIn → DcIn) : (s.dcM k f).pwm = s.pwm := rfl
@[simp] theorem State.dcM_drive (s : State) (k : Fin 8) (f : DcIn → DcIn) : (s.dcM k f).drive = s.drive := rfl
@[simp] theorem State.dcM_gp (s : State) (k : Fin 8) (f : DcIn → DcIn) : (s.dcM k f).gp = s.gp := rfl
@[simp] theorem State.dcM_prot (s : State) (k : Fin 8) (f : DcIn → DcIn) : (s.dcM k f).prot = s.prot := rfl
@[simp] theorem State.dcM_probe (s : State) (k : Fin 8) (f : DcIn → DcIn) : (s.dcM k f).probe = s.probe := rfl
@[simp] theorem State.dcM_meter (s : State) (k : Fin 8) (f : DcIn → DcIn) : (s.dcM k f).meter = s.meter := rfl
@[simp] theorem State.dcM_safe (s : State) (k : Fin 8) (f : DcIn → DcIn) : (s.dcM k f).safe = s.safe := rfl
@[simp] theorem State.dcM_dma (s : State) (k : Fin 8) (f : DcIn → DcIn) : (s.dcM k f).dma = s.dma := rfl
@[simp] theorem State.dcM_eth (s : State) (k : Fin 8) (f : DcIn → DcIn) : (s.dcM k f).eth = s.eth := rfl
@[simp] theorem State.dcM_mon (s : State) (k : Fin 8) (f : DcIn → DcIn) : (s.dcM k f).mon = s.mon := rfl
@[simp] theorem State.dcM_cpu (s : State) (k : Fin 8) (f : DcIn → DcIn) : (s.dcM k f).cpu = s.cpu := rfl
@[simp] theorem State.dcM_rk (s : State) (k : Fin 8) (f : DcIn → DcIn) : (s.dcM k f).rk = s.rk := rfl
@[simp] theorem State.dcM_st (s : State) (k : Fin 8) (f : DcIn → DcIn) : (s.dcM k f).st = s.st := rfl
@[simp] theorem State.dcM_wdg (s : State) (k : Fin 8) (f : DcIn → DcIn) : (s.dcM k f).wdg = s.wdg := rfl
@[simp] theorem State.dcM_xbar (s : State) (k : Fin 8) (f : DcIn → DcIn) : (s.dcM k f).xbar = s.xbar := rfl
@[simp] theorem State.dcM_host (s : State) (k : Fin 8) (f : DcIn → DcIn) : (s.dcM k f).host = s.host := rfl
@[simp] theorem State.dcM_dport (s : State) (k : Fin 8) (f : DcIn → DcIn) : (s.dcM k f).dport = s.dport := rfl
@[simp] theorem State.dcM_sec (s : State) (k : Fin 8) (f : DcIn → DcIn) : (s.dcM k f).sec = s.sec := rfl
@[simp] theorem State.dcM_consent (s : State) (k : Fin 8) (f : DcIn → DcIn) : (s.dcM k f).consent = s.consent := rfl
@[simp] theorem State.dcM_link (s : State) (k : Fin 8) (f : DcIn → DcIn) : (s.dcM k f).link = s.link := rfl
@[simp] theorem State.dcM_sentinel (s : State) (k : Fin 8) (f : DcIn → DcIn) : (s.dcM k f).sentinel = s.sentinel := rfl
@[simp] theorem State.dcM_pmu (s : State) (k : Fin 8) (f : DcIn → DcIn) : (s.dcM k f).pmu = s.pmu := rfl
@[simp] theorem State.dcM_gpio (s : State) (k : Fin 8) (f : DcIn → DcIn) : (s.dcM k f).gpio = s.gpio := rfl
@[simp] theorem State.dcM_gpioPort (s : State) (k : Fin 8) (f : DcIn → DcIn) : (s.dcM k f).gpioPort = s.gpioPort := rfl
@[simp] theorem State.dcM_rd (s : State) (k : Fin 8) (f : DcIn → DcIn) (x : Nat) : (s.dcM k f).rd x = s.rd x := rfl
@[simp] theorem State.dcM_rdN (s : State) (k : Fin 8) (f : DcIn → DcIn) (x : Nat) : (s.dcM k f).rdN x = s.rdN x := rfl
@[simp] theorem State.dcM_get (s : State) (k : Fin 8) (f : DcIn → DcIn) (x : Fld) : (s.dcM k f).get x = s.get x := rfl

@[simp] theorem State.debugM_dport (s : State) (f : DebugPort → DebugPort) : (s.debugM f).dport = f s.dport := rfl
@[simp] theorem State.debugM_now (s : State) (f : DebugPort → DebugPort) : (s.debugM f).now = s.now := rfl
@[simp] theorem State.debugM_regs (s : State) (f : DebugPort → DebugPort) : (s.debugM f).regs = s.regs := rfl
@[simp] theorem State.debugM_hiLive (s : State) (f : DebugPort → DebugPort) : (s.debugM f).hiLive = s.hiLive := rfl
@[simp] theorem State.debugM_mem (s : State) (f : DebugPort → DebugPort) : (s.debugM f).mem = s.mem := rfl
@[simp] theorem State.debugM_free (s : State) (f : DebugPort → DebugPort) : (s.debugM f).free = s.free := rfl
@[simp] theorem State.debugM_rdata (s : State) (f : DebugPort → DebugPort) : (s.debugM f).rdata = s.rdata := rfl
@[simp] theorem State.debugM_stCycles (s : State) (f : DebugPort → DebugPort) : (s.debugM f).stCycles = s.stCycles := rfl
@[simp] theorem State.debugM_stCyclesAt (s : State) (f : DebugPort → DebugPort) : (s.debugM f).stCyclesAt = s.stCyclesAt := rfl
@[simp] theorem State.debugM_setAt (s : State) (f : DebugPort → DebugPort) : (s.debugM f).setAt = s.setAt := rfl
@[simp] theorem State.debugM_setFlags (s : State) (f : DebugPort → DebugPort) : (s.debugM f).setFlags = s.setFlags := rfl
@[simp] theorem State.debugM_flagSince (s : State) (f : DebugPort → DebugPort) : (s.debugM f).flagSince = s.flagSince := rfl
@[simp] theorem State.debugM_parked (s : State) (f : DebugPort → DebugPort) : (s.debugM f).parked = s.parked := rfl
@[simp] theorem State.debugM_landing (s : State) (f : DebugPort → DebugPort) : (s.debugM f).landing = s.landing := rfl
@[simp] theorem State.debugM_pending (s : State) (f : DebugPort → DebugPort) : (s.debugM f).pending = s.pending := rfl
@[simp] theorem State.debugM_tbl (s : State) (f : DebugPort → DebugPort) : (s.debugM f).tbl = s.tbl := rfl
@[simp] theorem State.debugM_pll (s : State) (f : DebugPort → DebugPort) : (s.debugM f).pll = s.pll := rfl
@[simp] theorem State.debugM_modin (s : State) (f : DebugPort → DebugPort) : (s.debugM f).modin = s.modin := rfl
@[simp] theorem State.debugM_samples (s : State) (f : DebugPort → DebugPort) : (s.debugM f).samples = s.samples := rfl
@[simp] theorem State.debugM_samplesOld (s : State) (f : DebugPort → DebugPort) : (s.debugM f).samplesOld = s.samplesOld := rfl
@[simp] theorem State.debugM_acu (s : State) (f : DebugPort → DebugPort) : (s.debugM f).acu = s.acu := rfl
@[simp] theorem State.debugM_mramc (s : State) (f : DebugPort → DebugPort) : (s.debugM f).mramc = s.mramc := rfl
@[simp] theorem State.debugM_pwm (s : State) (f : DebugPort → DebugPort) : (s.debugM f).pwm = s.pwm := rfl
@[simp] theorem State.debugM_drive (s : State) (f : DebugPort → DebugPort) : (s.debugM f).drive = s.drive := rfl
@[simp] theorem State.debugM_gp (s : State) (f : DebugPort → DebugPort) : (s.debugM f).gp = s.gp := rfl
@[simp] theorem State.debugM_prot (s : State) (f : DebugPort → DebugPort) : (s.debugM f).prot = s.prot := rfl
@[simp] theorem State.debugM_probe (s : State) (f : DebugPort → DebugPort) : (s.debugM f).probe = s.probe := rfl
@[simp] theorem State.debugM_meter (s : State) (f : DebugPort → DebugPort) : (s.debugM f).meter = s.meter := rfl
@[simp] theorem State.debugM_dc (s : State) (f : DebugPort → DebugPort) : (s.debugM f).dc = s.dc := rfl
@[simp] theorem State.debugM_safe (s : State) (f : DebugPort → DebugPort) : (s.debugM f).safe = s.safe := rfl
@[simp] theorem State.debugM_dma (s : State) (f : DebugPort → DebugPort) : (s.debugM f).dma = s.dma := rfl
@[simp] theorem State.debugM_eth (s : State) (f : DebugPort → DebugPort) : (s.debugM f).eth = s.eth := rfl
@[simp] theorem State.debugM_mon (s : State) (f : DebugPort → DebugPort) : (s.debugM f).mon = s.mon := rfl
@[simp] theorem State.debugM_cpu (s : State) (f : DebugPort → DebugPort) : (s.debugM f).cpu = s.cpu := rfl
@[simp] theorem State.debugM_rk (s : State) (f : DebugPort → DebugPort) : (s.debugM f).rk = s.rk := rfl
@[simp] theorem State.debugM_st (s : State) (f : DebugPort → DebugPort) : (s.debugM f).st = s.st := rfl
@[simp] theorem State.debugM_wdg (s : State) (f : DebugPort → DebugPort) : (s.debugM f).wdg = s.wdg := rfl
@[simp] theorem State.debugM_xbar (s : State) (f : DebugPort → DebugPort) : (s.debugM f).xbar = s.xbar := rfl
@[simp] theorem State.debugM_host (s : State) (f : DebugPort → DebugPort) : (s.debugM f).host = s.host := rfl
@[simp] theorem State.debugM_sec (s : State) (f : DebugPort → DebugPort) : (s.debugM f).sec = s.sec := rfl
@[simp] theorem State.debugM_consent (s : State) (f : DebugPort → DebugPort) : (s.debugM f).consent = s.consent := rfl
@[simp] theorem State.debugM_link (s : State) (f : DebugPort → DebugPort) : (s.debugM f).link = s.link := rfl
@[simp] theorem State.debugM_sentinel (s : State) (f : DebugPort → DebugPort) : (s.debugM f).sentinel = s.sentinel := rfl
@[simp] theorem State.debugM_pmu (s : State) (f : DebugPort → DebugPort) : (s.debugM f).pmu = s.pmu := rfl
@[simp] theorem State.debugM_gpio (s : State) (f : DebugPort → DebugPort) : (s.debugM f).gpio = s.gpio := rfl
@[simp] theorem State.debugM_gpioPort (s : State) (f : DebugPort → DebugPort) : (s.debugM f).gpioPort = s.gpioPort := rfl
@[simp] theorem State.debugM_rd (s : State) (f : DebugPort → DebugPort) (x : Nat) : (s.debugM f).rd x = s.rd x := rfl
@[simp] theorem State.debugM_rdN (s : State) (f : DebugPort → DebugPort) (x : Nat) : (s.debugM f).rdN x = s.rdN x := rfl
@[simp] theorem State.debugM_get (s : State) (f : DebugPort → DebugPort) (x : Fld) : (s.debugM f).get x = s.get x := rfl

@[simp] theorem State.dmaM_dma (s : State) (c : Fin 32) (f : DmaCh → DmaCh) : (s.dmaM c f).dma = s.dma.upd c f := rfl
@[simp] theorem State.dmaM_now (s : State) (c : Fin 32) (f : DmaCh → DmaCh) : (s.dmaM c f).now = s.now := rfl
@[simp] theorem State.dmaM_regs (s : State) (c : Fin 32) (f : DmaCh → DmaCh) : (s.dmaM c f).regs = s.regs := rfl
@[simp] theorem State.dmaM_hiLive (s : State) (c : Fin 32) (f : DmaCh → DmaCh) : (s.dmaM c f).hiLive = s.hiLive := rfl
@[simp] theorem State.dmaM_mem (s : State) (c : Fin 32) (f : DmaCh → DmaCh) : (s.dmaM c f).mem = s.mem := rfl
@[simp] theorem State.dmaM_free (s : State) (c : Fin 32) (f : DmaCh → DmaCh) : (s.dmaM c f).free = s.free := rfl
@[simp] theorem State.dmaM_rdata (s : State) (c : Fin 32) (f : DmaCh → DmaCh) : (s.dmaM c f).rdata = s.rdata := rfl
@[simp] theorem State.dmaM_stCycles (s : State) (c : Fin 32) (f : DmaCh → DmaCh) : (s.dmaM c f).stCycles = s.stCycles := rfl
@[simp] theorem State.dmaM_stCyclesAt (s : State) (c : Fin 32) (f : DmaCh → DmaCh) : (s.dmaM c f).stCyclesAt = s.stCyclesAt := rfl
@[simp] theorem State.dmaM_setAt (s : State) (c : Fin 32) (f : DmaCh → DmaCh) : (s.dmaM c f).setAt = s.setAt := rfl
@[simp] theorem State.dmaM_setFlags (s : State) (c : Fin 32) (f : DmaCh → DmaCh) : (s.dmaM c f).setFlags = s.setFlags := rfl
@[simp] theorem State.dmaM_flagSince (s : State) (c : Fin 32) (f : DmaCh → DmaCh) : (s.dmaM c f).flagSince = s.flagSince := rfl
@[simp] theorem State.dmaM_parked (s : State) (c : Fin 32) (f : DmaCh → DmaCh) : (s.dmaM c f).parked = s.parked := rfl
@[simp] theorem State.dmaM_landing (s : State) (c : Fin 32) (f : DmaCh → DmaCh) : (s.dmaM c f).landing = s.landing := rfl
@[simp] theorem State.dmaM_pending (s : State) (c : Fin 32) (f : DmaCh → DmaCh) : (s.dmaM c f).pending = s.pending := rfl
@[simp] theorem State.dmaM_tbl (s : State) (c : Fin 32) (f : DmaCh → DmaCh) : (s.dmaM c f).tbl = s.tbl := rfl
@[simp] theorem State.dmaM_pll (s : State) (c : Fin 32) (f : DmaCh → DmaCh) : (s.dmaM c f).pll = s.pll := rfl
@[simp] theorem State.dmaM_modin (s : State) (c : Fin 32) (f : DmaCh → DmaCh) : (s.dmaM c f).modin = s.modin := rfl
@[simp] theorem State.dmaM_samples (s : State) (c : Fin 32) (f : DmaCh → DmaCh) : (s.dmaM c f).samples = s.samples := rfl
@[simp] theorem State.dmaM_samplesOld (s : State) (c : Fin 32) (f : DmaCh → DmaCh) : (s.dmaM c f).samplesOld = s.samplesOld := rfl
@[simp] theorem State.dmaM_acu (s : State) (c : Fin 32) (f : DmaCh → DmaCh) : (s.dmaM c f).acu = s.acu := rfl
@[simp] theorem State.dmaM_mramc (s : State) (c : Fin 32) (f : DmaCh → DmaCh) : (s.dmaM c f).mramc = s.mramc := rfl
@[simp] theorem State.dmaM_pwm (s : State) (c : Fin 32) (f : DmaCh → DmaCh) : (s.dmaM c f).pwm = s.pwm := rfl
@[simp] theorem State.dmaM_drive (s : State) (c : Fin 32) (f : DmaCh → DmaCh) : (s.dmaM c f).drive = s.drive := rfl
@[simp] theorem State.dmaM_gp (s : State) (c : Fin 32) (f : DmaCh → DmaCh) : (s.dmaM c f).gp = s.gp := rfl
@[simp] theorem State.dmaM_prot (s : State) (c : Fin 32) (f : DmaCh → DmaCh) : (s.dmaM c f).prot = s.prot := rfl
@[simp] theorem State.dmaM_probe (s : State) (c : Fin 32) (f : DmaCh → DmaCh) : (s.dmaM c f).probe = s.probe := rfl
@[simp] theorem State.dmaM_meter (s : State) (c : Fin 32) (f : DmaCh → DmaCh) : (s.dmaM c f).meter = s.meter := rfl
@[simp] theorem State.dmaM_dc (s : State) (c : Fin 32) (f : DmaCh → DmaCh) : (s.dmaM c f).dc = s.dc := rfl
@[simp] theorem State.dmaM_safe (s : State) (c : Fin 32) (f : DmaCh → DmaCh) : (s.dmaM c f).safe = s.safe := rfl
@[simp] theorem State.dmaM_eth (s : State) (c : Fin 32) (f : DmaCh → DmaCh) : (s.dmaM c f).eth = s.eth := rfl
@[simp] theorem State.dmaM_mon (s : State) (c : Fin 32) (f : DmaCh → DmaCh) : (s.dmaM c f).mon = s.mon := rfl
@[simp] theorem State.dmaM_cpu (s : State) (c : Fin 32) (f : DmaCh → DmaCh) : (s.dmaM c f).cpu = s.cpu := rfl
@[simp] theorem State.dmaM_rk (s : State) (c : Fin 32) (f : DmaCh → DmaCh) : (s.dmaM c f).rk = s.rk := rfl
@[simp] theorem State.dmaM_st (s : State) (c : Fin 32) (f : DmaCh → DmaCh) : (s.dmaM c f).st = s.st := rfl
@[simp] theorem State.dmaM_wdg (s : State) (c : Fin 32) (f : DmaCh → DmaCh) : (s.dmaM c f).wdg = s.wdg := rfl
@[simp] theorem State.dmaM_xbar (s : State) (c : Fin 32) (f : DmaCh → DmaCh) : (s.dmaM c f).xbar = s.xbar := rfl
@[simp] theorem State.dmaM_host (s : State) (c : Fin 32) (f : DmaCh → DmaCh) : (s.dmaM c f).host = s.host := rfl
@[simp] theorem State.dmaM_dport (s : State) (c : Fin 32) (f : DmaCh → DmaCh) : (s.dmaM c f).dport = s.dport := rfl
@[simp] theorem State.dmaM_sec (s : State) (c : Fin 32) (f : DmaCh → DmaCh) : (s.dmaM c f).sec = s.sec := rfl
@[simp] theorem State.dmaM_consent (s : State) (c : Fin 32) (f : DmaCh → DmaCh) : (s.dmaM c f).consent = s.consent := rfl
@[simp] theorem State.dmaM_link (s : State) (c : Fin 32) (f : DmaCh → DmaCh) : (s.dmaM c f).link = s.link := rfl
@[simp] theorem State.dmaM_sentinel (s : State) (c : Fin 32) (f : DmaCh → DmaCh) : (s.dmaM c f).sentinel = s.sentinel := rfl
@[simp] theorem State.dmaM_pmu (s : State) (c : Fin 32) (f : DmaCh → DmaCh) : (s.dmaM c f).pmu = s.pmu := rfl
@[simp] theorem State.dmaM_gpio (s : State) (c : Fin 32) (f : DmaCh → DmaCh) : (s.dmaM c f).gpio = s.gpio := rfl
@[simp] theorem State.dmaM_gpioPort (s : State) (c : Fin 32) (f : DmaCh → DmaCh) : (s.dmaM c f).gpioPort = s.gpioPort := rfl
@[simp] theorem State.dmaM_rd (s : State) (c : Fin 32) (f : DmaCh → DmaCh) (x : Nat) : (s.dmaM c f).rd x = s.rd x := rfl
@[simp] theorem State.dmaM_rdN (s : State) (c : Fin 32) (f : DmaCh → DmaCh) (x : Nat) : (s.dmaM c f).rdN x = s.rdN x := rfl
@[simp] theorem State.dmaM_get (s : State) (c : Fin 32) (f : DmaCh → DmaCh) (x : Fld) : (s.dmaM c f).get x = s.get x := rfl

@[simp] theorem State.ethM_eth (s : State) (f : Eth → Eth) : (s.ethM f).eth = f s.eth := rfl
@[simp] theorem State.ethM_now (s : State) (f : Eth → Eth) : (s.ethM f).now = s.now := rfl
@[simp] theorem State.ethM_regs (s : State) (f : Eth → Eth) : (s.ethM f).regs = s.regs := rfl
@[simp] theorem State.ethM_hiLive (s : State) (f : Eth → Eth) : (s.ethM f).hiLive = s.hiLive := rfl
@[simp] theorem State.ethM_mem (s : State) (f : Eth → Eth) : (s.ethM f).mem = s.mem := rfl
@[simp] theorem State.ethM_free (s : State) (f : Eth → Eth) : (s.ethM f).free = s.free := rfl
@[simp] theorem State.ethM_rdata (s : State) (f : Eth → Eth) : (s.ethM f).rdata = s.rdata := rfl
@[simp] theorem State.ethM_stCycles (s : State) (f : Eth → Eth) : (s.ethM f).stCycles = s.stCycles := rfl
@[simp] theorem State.ethM_stCyclesAt (s : State) (f : Eth → Eth) : (s.ethM f).stCyclesAt = s.stCyclesAt := rfl
@[simp] theorem State.ethM_setAt (s : State) (f : Eth → Eth) : (s.ethM f).setAt = s.setAt := rfl
@[simp] theorem State.ethM_setFlags (s : State) (f : Eth → Eth) : (s.ethM f).setFlags = s.setFlags := rfl
@[simp] theorem State.ethM_flagSince (s : State) (f : Eth → Eth) : (s.ethM f).flagSince = s.flagSince := rfl
@[simp] theorem State.ethM_parked (s : State) (f : Eth → Eth) : (s.ethM f).parked = s.parked := rfl
@[simp] theorem State.ethM_landing (s : State) (f : Eth → Eth) : (s.ethM f).landing = s.landing := rfl
@[simp] theorem State.ethM_pending (s : State) (f : Eth → Eth) : (s.ethM f).pending = s.pending := rfl
@[simp] theorem State.ethM_tbl (s : State) (f : Eth → Eth) : (s.ethM f).tbl = s.tbl := rfl
@[simp] theorem State.ethM_pll (s : State) (f : Eth → Eth) : (s.ethM f).pll = s.pll := rfl
@[simp] theorem State.ethM_modin (s : State) (f : Eth → Eth) : (s.ethM f).modin = s.modin := rfl
@[simp] theorem State.ethM_samples (s : State) (f : Eth → Eth) : (s.ethM f).samples = s.samples := rfl
@[simp] theorem State.ethM_samplesOld (s : State) (f : Eth → Eth) : (s.ethM f).samplesOld = s.samplesOld := rfl
@[simp] theorem State.ethM_acu (s : State) (f : Eth → Eth) : (s.ethM f).acu = s.acu := rfl
@[simp] theorem State.ethM_mramc (s : State) (f : Eth → Eth) : (s.ethM f).mramc = s.mramc := rfl
@[simp] theorem State.ethM_pwm (s : State) (f : Eth → Eth) : (s.ethM f).pwm = s.pwm := rfl
@[simp] theorem State.ethM_drive (s : State) (f : Eth → Eth) : (s.ethM f).drive = s.drive := rfl
@[simp] theorem State.ethM_gp (s : State) (f : Eth → Eth) : (s.ethM f).gp = s.gp := rfl
@[simp] theorem State.ethM_prot (s : State) (f : Eth → Eth) : (s.ethM f).prot = s.prot := rfl
@[simp] theorem State.ethM_probe (s : State) (f : Eth → Eth) : (s.ethM f).probe = s.probe := rfl
@[simp] theorem State.ethM_meter (s : State) (f : Eth → Eth) : (s.ethM f).meter = s.meter := rfl
@[simp] theorem State.ethM_dc (s : State) (f : Eth → Eth) : (s.ethM f).dc = s.dc := rfl
@[simp] theorem State.ethM_safe (s : State) (f : Eth → Eth) : (s.ethM f).safe = s.safe := rfl
@[simp] theorem State.ethM_dma (s : State) (f : Eth → Eth) : (s.ethM f).dma = s.dma := rfl
@[simp] theorem State.ethM_mon (s : State) (f : Eth → Eth) : (s.ethM f).mon = s.mon := rfl
@[simp] theorem State.ethM_cpu (s : State) (f : Eth → Eth) : (s.ethM f).cpu = s.cpu := rfl
@[simp] theorem State.ethM_rk (s : State) (f : Eth → Eth) : (s.ethM f).rk = s.rk := rfl
@[simp] theorem State.ethM_st (s : State) (f : Eth → Eth) : (s.ethM f).st = s.st := rfl
@[simp] theorem State.ethM_wdg (s : State) (f : Eth → Eth) : (s.ethM f).wdg = s.wdg := rfl
@[simp] theorem State.ethM_xbar (s : State) (f : Eth → Eth) : (s.ethM f).xbar = s.xbar := rfl
@[simp] theorem State.ethM_host (s : State) (f : Eth → Eth) : (s.ethM f).host = s.host := rfl
@[simp] theorem State.ethM_dport (s : State) (f : Eth → Eth) : (s.ethM f).dport = s.dport := rfl
@[simp] theorem State.ethM_sec (s : State) (f : Eth → Eth) : (s.ethM f).sec = s.sec := rfl
@[simp] theorem State.ethM_consent (s : State) (f : Eth → Eth) : (s.ethM f).consent = s.consent := rfl
@[simp] theorem State.ethM_link (s : State) (f : Eth → Eth) : (s.ethM f).link = s.link := rfl
@[simp] theorem State.ethM_sentinel (s : State) (f : Eth → Eth) : (s.ethM f).sentinel = s.sentinel := rfl
@[simp] theorem State.ethM_pmu (s : State) (f : Eth → Eth) : (s.ethM f).pmu = s.pmu := rfl
@[simp] theorem State.ethM_gpio (s : State) (f : Eth → Eth) : (s.ethM f).gpio = s.gpio := rfl
@[simp] theorem State.ethM_gpioPort (s : State) (f : Eth → Eth) : (s.ethM f).gpioPort = s.gpioPort := rfl
@[simp] theorem State.ethM_rd (s : State) (f : Eth → Eth) (x : Nat) : (s.ethM f).rd x = s.rd x := rfl
@[simp] theorem State.ethM_rdN (s : State) (f : Eth → Eth) (x : Nat) : (s.ethM f).rdN x = s.rdN x := rfl
@[simp] theorem State.ethM_get (s : State) (f : Eth → Eth) (x : Fld) : (s.ethM f).get x = s.get x := rfl

@[simp] theorem State.gpM_gp (s : State) (g : Fin 4) (f : GridPt → GridPt) : (s.gpM g f).gp = s.gp.upd g f := rfl
@[simp] theorem State.gpM_now (s : State) (g : Fin 4) (f : GridPt → GridPt) : (s.gpM g f).now = s.now := rfl
@[simp] theorem State.gpM_regs (s : State) (g : Fin 4) (f : GridPt → GridPt) : (s.gpM g f).regs = s.regs := rfl
@[simp] theorem State.gpM_hiLive (s : State) (g : Fin 4) (f : GridPt → GridPt) : (s.gpM g f).hiLive = s.hiLive := rfl
@[simp] theorem State.gpM_mem (s : State) (g : Fin 4) (f : GridPt → GridPt) : (s.gpM g f).mem = s.mem := rfl
@[simp] theorem State.gpM_free (s : State) (g : Fin 4) (f : GridPt → GridPt) : (s.gpM g f).free = s.free := rfl
@[simp] theorem State.gpM_rdata (s : State) (g : Fin 4) (f : GridPt → GridPt) : (s.gpM g f).rdata = s.rdata := rfl
@[simp] theorem State.gpM_stCycles (s : State) (g : Fin 4) (f : GridPt → GridPt) : (s.gpM g f).stCycles = s.stCycles := rfl
@[simp] theorem State.gpM_stCyclesAt (s : State) (g : Fin 4) (f : GridPt → GridPt) : (s.gpM g f).stCyclesAt = s.stCyclesAt := rfl
@[simp] theorem State.gpM_setAt (s : State) (g : Fin 4) (f : GridPt → GridPt) : (s.gpM g f).setAt = s.setAt := rfl
@[simp] theorem State.gpM_setFlags (s : State) (g : Fin 4) (f : GridPt → GridPt) : (s.gpM g f).setFlags = s.setFlags := rfl
@[simp] theorem State.gpM_flagSince (s : State) (g : Fin 4) (f : GridPt → GridPt) : (s.gpM g f).flagSince = s.flagSince := rfl
@[simp] theorem State.gpM_parked (s : State) (g : Fin 4) (f : GridPt → GridPt) : (s.gpM g f).parked = s.parked := rfl
@[simp] theorem State.gpM_landing (s : State) (g : Fin 4) (f : GridPt → GridPt) : (s.gpM g f).landing = s.landing := rfl
@[simp] theorem State.gpM_pending (s : State) (g : Fin 4) (f : GridPt → GridPt) : (s.gpM g f).pending = s.pending := rfl
@[simp] theorem State.gpM_tbl (s : State) (g : Fin 4) (f : GridPt → GridPt) : (s.gpM g f).tbl = s.tbl := rfl
@[simp] theorem State.gpM_pll (s : State) (g : Fin 4) (f : GridPt → GridPt) : (s.gpM g f).pll = s.pll := rfl
@[simp] theorem State.gpM_modin (s : State) (g : Fin 4) (f : GridPt → GridPt) : (s.gpM g f).modin = s.modin := rfl
@[simp] theorem State.gpM_samples (s : State) (g : Fin 4) (f : GridPt → GridPt) : (s.gpM g f).samples = s.samples := rfl
@[simp] theorem State.gpM_samplesOld (s : State) (g : Fin 4) (f : GridPt → GridPt) : (s.gpM g f).samplesOld = s.samplesOld := rfl
@[simp] theorem State.gpM_acu (s : State) (g : Fin 4) (f : GridPt → GridPt) : (s.gpM g f).acu = s.acu := rfl
@[simp] theorem State.gpM_mramc (s : State) (g : Fin 4) (f : GridPt → GridPt) : (s.gpM g f).mramc = s.mramc := rfl
@[simp] theorem State.gpM_pwm (s : State) (g : Fin 4) (f : GridPt → GridPt) : (s.gpM g f).pwm = s.pwm := rfl
@[simp] theorem State.gpM_drive (s : State) (g : Fin 4) (f : GridPt → GridPt) : (s.gpM g f).drive = s.drive := rfl
@[simp] theorem State.gpM_prot (s : State) (g : Fin 4) (f : GridPt → GridPt) : (s.gpM g f).prot = s.prot := rfl
@[simp] theorem State.gpM_probe (s : State) (g : Fin 4) (f : GridPt → GridPt) : (s.gpM g f).probe = s.probe := rfl
@[simp] theorem State.gpM_meter (s : State) (g : Fin 4) (f : GridPt → GridPt) : (s.gpM g f).meter = s.meter := rfl
@[simp] theorem State.gpM_dc (s : State) (g : Fin 4) (f : GridPt → GridPt) : (s.gpM g f).dc = s.dc := rfl
@[simp] theorem State.gpM_safe (s : State) (g : Fin 4) (f : GridPt → GridPt) : (s.gpM g f).safe = s.safe := rfl
@[simp] theorem State.gpM_dma (s : State) (g : Fin 4) (f : GridPt → GridPt) : (s.gpM g f).dma = s.dma := rfl
@[simp] theorem State.gpM_eth (s : State) (g : Fin 4) (f : GridPt → GridPt) : (s.gpM g f).eth = s.eth := rfl
@[simp] theorem State.gpM_mon (s : State) (g : Fin 4) (f : GridPt → GridPt) : (s.gpM g f).mon = s.mon := rfl
@[simp] theorem State.gpM_cpu (s : State) (g : Fin 4) (f : GridPt → GridPt) : (s.gpM g f).cpu = s.cpu := rfl
@[simp] theorem State.gpM_rk (s : State) (g : Fin 4) (f : GridPt → GridPt) : (s.gpM g f).rk = s.rk := rfl
@[simp] theorem State.gpM_st (s : State) (g : Fin 4) (f : GridPt → GridPt) : (s.gpM g f).st = s.st := rfl
@[simp] theorem State.gpM_wdg (s : State) (g : Fin 4) (f : GridPt → GridPt) : (s.gpM g f).wdg = s.wdg := rfl
@[simp] theorem State.gpM_xbar (s : State) (g : Fin 4) (f : GridPt → GridPt) : (s.gpM g f).xbar = s.xbar := rfl
@[simp] theorem State.gpM_host (s : State) (g : Fin 4) (f : GridPt → GridPt) : (s.gpM g f).host = s.host := rfl
@[simp] theorem State.gpM_dport (s : State) (g : Fin 4) (f : GridPt → GridPt) : (s.gpM g f).dport = s.dport := rfl
@[simp] theorem State.gpM_sec (s : State) (g : Fin 4) (f : GridPt → GridPt) : (s.gpM g f).sec = s.sec := rfl
@[simp] theorem State.gpM_consent (s : State) (g : Fin 4) (f : GridPt → GridPt) : (s.gpM g f).consent = s.consent := rfl
@[simp] theorem State.gpM_link (s : State) (g : Fin 4) (f : GridPt → GridPt) : (s.gpM g f).link = s.link := rfl
@[simp] theorem State.gpM_sentinel (s : State) (g : Fin 4) (f : GridPt → GridPt) : (s.gpM g f).sentinel = s.sentinel := rfl
@[simp] theorem State.gpM_pmu (s : State) (g : Fin 4) (f : GridPt → GridPt) : (s.gpM g f).pmu = s.pmu := rfl
@[simp] theorem State.gpM_gpio (s : State) (g : Fin 4) (f : GridPt → GridPt) : (s.gpM g f).gpio = s.gpio := rfl
@[simp] theorem State.gpM_gpioPort (s : State) (g : Fin 4) (f : GridPt → GridPt) : (s.gpM g f).gpioPort = s.gpioPort := rfl
@[simp] theorem State.gpM_rd (s : State) (g : Fin 4) (f : GridPt → GridPt) (x : Nat) : (s.gpM g f).rd x = s.rd x := rfl
@[simp] theorem State.gpM_rdN (s : State) (g : Fin 4) (f : GridPt → GridPt) (x : Nat) : (s.gpM g f).rdN x = s.rdN x := rfl
@[simp] theorem State.gpM_get (s : State) (g : Fin 4) (f : GridPt → GridPt) (x : Fld) : (s.gpM g f).get x = s.get x := rfl

@[simp] theorem State.grpM_now (s : State) (k : Fin 12) (f : Group → Group) : (s.grpM k f).now = s.now := rfl
@[simp] theorem State.grpM_regs (s : State) (k : Fin 12) (f : Group → Group) : (s.grpM k f).regs = s.regs := rfl
@[simp] theorem State.grpM_hiLive (s : State) (k : Fin 12) (f : Group → Group) : (s.grpM k f).hiLive = s.hiLive := rfl
@[simp] theorem State.grpM_mem (s : State) (k : Fin 12) (f : Group → Group) : (s.grpM k f).mem = s.mem := rfl
@[simp] theorem State.grpM_free (s : State) (k : Fin 12) (f : Group → Group) : (s.grpM k f).free = s.free := rfl
@[simp] theorem State.grpM_rdata (s : State) (k : Fin 12) (f : Group → Group) : (s.grpM k f).rdata = s.rdata := rfl
@[simp] theorem State.grpM_stCycles (s : State) (k : Fin 12) (f : Group → Group) : (s.grpM k f).stCycles = s.stCycles := rfl
@[simp] theorem State.grpM_stCyclesAt (s : State) (k : Fin 12) (f : Group → Group) : (s.grpM k f).stCyclesAt = s.stCyclesAt := rfl
@[simp] theorem State.grpM_setAt (s : State) (k : Fin 12) (f : Group → Group) : (s.grpM k f).setAt = s.setAt := rfl
@[simp] theorem State.grpM_setFlags (s : State) (k : Fin 12) (f : Group → Group) : (s.grpM k f).setFlags = s.setFlags := rfl
@[simp] theorem State.grpM_flagSince (s : State) (k : Fin 12) (f : Group → Group) : (s.grpM k f).flagSince = s.flagSince := rfl
@[simp] theorem State.grpM_parked (s : State) (k : Fin 12) (f : Group → Group) : (s.grpM k f).parked = s.parked := rfl
@[simp] theorem State.grpM_landing (s : State) (k : Fin 12) (f : Group → Group) : (s.grpM k f).landing = s.landing := rfl
@[simp] theorem State.grpM_pending (s : State) (k : Fin 12) (f : Group → Group) : (s.grpM k f).pending = s.pending := rfl
@[simp] theorem State.grpM_tbl (s : State) (k : Fin 12) (f : Group → Group) : (s.grpM k f).tbl = s.tbl := rfl
@[simp] theorem State.grpM_pll (s : State) (k : Fin 12) (f : Group → Group) : (s.grpM k f).pll = s.pll := rfl
@[simp] theorem State.grpM_modin (s : State) (k : Fin 12) (f : Group → Group) : (s.grpM k f).modin = s.modin := rfl
@[simp] theorem State.grpM_samples (s : State) (k : Fin 12) (f : Group → Group) : (s.grpM k f).samples = s.samples := rfl
@[simp] theorem State.grpM_samplesOld (s : State) (k : Fin 12) (f : Group → Group) : (s.grpM k f).samplesOld = s.samplesOld := rfl
@[simp] theorem State.grpM_acu (s : State) (k : Fin 12) (f : Group → Group) : (s.grpM k f).acu = s.acu := rfl
@[simp] theorem State.grpM_mramc (s : State) (k : Fin 12) (f : Group → Group) : (s.grpM k f).mramc = s.mramc := rfl
@[simp] theorem State.grpM_pwm (s : State) (k : Fin 12) (f : Group → Group) : (s.grpM k f).pwm = s.pwm := rfl
@[simp] theorem State.grpM_gp (s : State) (k : Fin 12) (f : Group → Group) : (s.grpM k f).gp = s.gp := rfl
@[simp] theorem State.grpM_prot (s : State) (k : Fin 12) (f : Group → Group) : (s.grpM k f).prot = s.prot := rfl
@[simp] theorem State.grpM_probe (s : State) (k : Fin 12) (f : Group → Group) : (s.grpM k f).probe = s.probe := rfl
@[simp] theorem State.grpM_meter (s : State) (k : Fin 12) (f : Group → Group) : (s.grpM k f).meter = s.meter := rfl
@[simp] theorem State.grpM_dc (s : State) (k : Fin 12) (f : Group → Group) : (s.grpM k f).dc = s.dc := rfl
@[simp] theorem State.grpM_safe (s : State) (k : Fin 12) (f : Group → Group) : (s.grpM k f).safe = s.safe := rfl
@[simp] theorem State.grpM_dma (s : State) (k : Fin 12) (f : Group → Group) : (s.grpM k f).dma = s.dma := rfl
@[simp] theorem State.grpM_eth (s : State) (k : Fin 12) (f : Group → Group) : (s.grpM k f).eth = s.eth := rfl
@[simp] theorem State.grpM_mon (s : State) (k : Fin 12) (f : Group → Group) : (s.grpM k f).mon = s.mon := rfl
@[simp] theorem State.grpM_cpu (s : State) (k : Fin 12) (f : Group → Group) : (s.grpM k f).cpu = s.cpu := rfl
@[simp] theorem State.grpM_rk (s : State) (k : Fin 12) (f : Group → Group) : (s.grpM k f).rk = s.rk := rfl
@[simp] theorem State.grpM_st (s : State) (k : Fin 12) (f : Group → Group) : (s.grpM k f).st = s.st := rfl
@[simp] theorem State.grpM_wdg (s : State) (k : Fin 12) (f : Group → Group) : (s.grpM k f).wdg = s.wdg := rfl
@[simp] theorem State.grpM_xbar (s : State) (k : Fin 12) (f : Group → Group) : (s.grpM k f).xbar = s.xbar := rfl
@[simp] theorem State.grpM_host (s : State) (k : Fin 12) (f : Group → Group) : (s.grpM k f).host = s.host := rfl
@[simp] theorem State.grpM_dport (s : State) (k : Fin 12) (f : Group → Group) : (s.grpM k f).dport = s.dport := rfl
@[simp] theorem State.grpM_sec (s : State) (k : Fin 12) (f : Group → Group) : (s.grpM k f).sec = s.sec := rfl
@[simp] theorem State.grpM_consent (s : State) (k : Fin 12) (f : Group → Group) : (s.grpM k f).consent = s.consent := rfl
@[simp] theorem State.grpM_link (s : State) (k : Fin 12) (f : Group → Group) : (s.grpM k f).link = s.link := rfl
@[simp] theorem State.grpM_sentinel (s : State) (k : Fin 12) (f : Group → Group) : (s.grpM k f).sentinel = s.sentinel := rfl
@[simp] theorem State.grpM_pmu (s : State) (k : Fin 12) (f : Group → Group) : (s.grpM k f).pmu = s.pmu := rfl
@[simp] theorem State.grpM_gpio (s : State) (k : Fin 12) (f : Group → Group) : (s.grpM k f).gpio = s.gpio := rfl
@[simp] theorem State.grpM_gpioPort (s : State) (k : Fin 12) (f : Group → Group) : (s.grpM k f).gpioPort = s.gpioPort := rfl
@[simp] theorem State.grpM_rd (s : State) (k : Fin 12) (f : Group → Group) (x : Nat) : (s.grpM k f).rd x = s.rd x := rfl
@[simp] theorem State.grpM_rdN (s : State) (k : Fin 12) (f : Group → Group) (x : Nat) : (s.grpM k f).rdN x = s.rdN x := rfl
@[simp] theorem State.grpM_get (s : State) (k : Fin 12) (f : Group → Group) (x : Fld) : (s.grpM k f).get x = s.get x := rfl

@[simp] theorem State.hostM_host (s : State) (f : HostPort → HostPort) : (s.hostM f).host = f s.host := rfl
@[simp] theorem State.hostM_now (s : State) (f : HostPort → HostPort) : (s.hostM f).now = s.now := rfl
@[simp] theorem State.hostM_regs (s : State) (f : HostPort → HostPort) : (s.hostM f).regs = s.regs := rfl
@[simp] theorem State.hostM_hiLive (s : State) (f : HostPort → HostPort) : (s.hostM f).hiLive = s.hiLive := rfl
@[simp] theorem State.hostM_mem (s : State) (f : HostPort → HostPort) : (s.hostM f).mem = s.mem := rfl
@[simp] theorem State.hostM_free (s : State) (f : HostPort → HostPort) : (s.hostM f).free = s.free := rfl
@[simp] theorem State.hostM_rdata (s : State) (f : HostPort → HostPort) : (s.hostM f).rdata = s.rdata := rfl
@[simp] theorem State.hostM_stCycles (s : State) (f : HostPort → HostPort) : (s.hostM f).stCycles = s.stCycles := rfl
@[simp] theorem State.hostM_stCyclesAt (s : State) (f : HostPort → HostPort) : (s.hostM f).stCyclesAt = s.stCyclesAt := rfl
@[simp] theorem State.hostM_setAt (s : State) (f : HostPort → HostPort) : (s.hostM f).setAt = s.setAt := rfl
@[simp] theorem State.hostM_setFlags (s : State) (f : HostPort → HostPort) : (s.hostM f).setFlags = s.setFlags := rfl
@[simp] theorem State.hostM_flagSince (s : State) (f : HostPort → HostPort) : (s.hostM f).flagSince = s.flagSince := rfl
@[simp] theorem State.hostM_parked (s : State) (f : HostPort → HostPort) : (s.hostM f).parked = s.parked := rfl
@[simp] theorem State.hostM_landing (s : State) (f : HostPort → HostPort) : (s.hostM f).landing = s.landing := rfl
@[simp] theorem State.hostM_pending (s : State) (f : HostPort → HostPort) : (s.hostM f).pending = s.pending := rfl
@[simp] theorem State.hostM_tbl (s : State) (f : HostPort → HostPort) : (s.hostM f).tbl = s.tbl := rfl
@[simp] theorem State.hostM_pll (s : State) (f : HostPort → HostPort) : (s.hostM f).pll = s.pll := rfl
@[simp] theorem State.hostM_modin (s : State) (f : HostPort → HostPort) : (s.hostM f).modin = s.modin := rfl
@[simp] theorem State.hostM_samples (s : State) (f : HostPort → HostPort) : (s.hostM f).samples = s.samples := rfl
@[simp] theorem State.hostM_samplesOld (s : State) (f : HostPort → HostPort) : (s.hostM f).samplesOld = s.samplesOld := rfl
@[simp] theorem State.hostM_acu (s : State) (f : HostPort → HostPort) : (s.hostM f).acu = s.acu := rfl
@[simp] theorem State.hostM_mramc (s : State) (f : HostPort → HostPort) : (s.hostM f).mramc = s.mramc := rfl
@[simp] theorem State.hostM_pwm (s : State) (f : HostPort → HostPort) : (s.hostM f).pwm = s.pwm := rfl
@[simp] theorem State.hostM_drive (s : State) (f : HostPort → HostPort) : (s.hostM f).drive = s.drive := rfl
@[simp] theorem State.hostM_gp (s : State) (f : HostPort → HostPort) : (s.hostM f).gp = s.gp := rfl
@[simp] theorem State.hostM_prot (s : State) (f : HostPort → HostPort) : (s.hostM f).prot = s.prot := rfl
@[simp] theorem State.hostM_probe (s : State) (f : HostPort → HostPort) : (s.hostM f).probe = s.probe := rfl
@[simp] theorem State.hostM_meter (s : State) (f : HostPort → HostPort) : (s.hostM f).meter = s.meter := rfl
@[simp] theorem State.hostM_dc (s : State) (f : HostPort → HostPort) : (s.hostM f).dc = s.dc := rfl
@[simp] theorem State.hostM_safe (s : State) (f : HostPort → HostPort) : (s.hostM f).safe = s.safe := rfl
@[simp] theorem State.hostM_dma (s : State) (f : HostPort → HostPort) : (s.hostM f).dma = s.dma := rfl
@[simp] theorem State.hostM_eth (s : State) (f : HostPort → HostPort) : (s.hostM f).eth = s.eth := rfl
@[simp] theorem State.hostM_mon (s : State) (f : HostPort → HostPort) : (s.hostM f).mon = s.mon := rfl
@[simp] theorem State.hostM_cpu (s : State) (f : HostPort → HostPort) : (s.hostM f).cpu = s.cpu := rfl
@[simp] theorem State.hostM_rk (s : State) (f : HostPort → HostPort) : (s.hostM f).rk = s.rk := rfl
@[simp] theorem State.hostM_st (s : State) (f : HostPort → HostPort) : (s.hostM f).st = s.st := rfl
@[simp] theorem State.hostM_wdg (s : State) (f : HostPort → HostPort) : (s.hostM f).wdg = s.wdg := rfl
@[simp] theorem State.hostM_xbar (s : State) (f : HostPort → HostPort) : (s.hostM f).xbar = s.xbar := rfl
@[simp] theorem State.hostM_dport (s : State) (f : HostPort → HostPort) : (s.hostM f).dport = s.dport := rfl
@[simp] theorem State.hostM_sec (s : State) (f : HostPort → HostPort) : (s.hostM f).sec = s.sec := rfl
@[simp] theorem State.hostM_consent (s : State) (f : HostPort → HostPort) : (s.hostM f).consent = s.consent := rfl
@[simp] theorem State.hostM_link (s : State) (f : HostPort → HostPort) : (s.hostM f).link = s.link := rfl
@[simp] theorem State.hostM_sentinel (s : State) (f : HostPort → HostPort) : (s.hostM f).sentinel = s.sentinel := rfl
@[simp] theorem State.hostM_pmu (s : State) (f : HostPort → HostPort) : (s.hostM f).pmu = s.pmu := rfl
@[simp] theorem State.hostM_gpio (s : State) (f : HostPort → HostPort) : (s.hostM f).gpio = s.gpio := rfl
@[simp] theorem State.hostM_gpioPort (s : State) (f : HostPort → HostPort) : (s.hostM f).gpioPort = s.gpioPort := rfl
@[simp] theorem State.hostM_rd (s : State) (f : HostPort → HostPort) (x : Nat) : (s.hostM f).rd x = s.rd x := rfl
@[simp] theorem State.hostM_rdN (s : State) (f : HostPort → HostPort) (x : Nat) : (s.hostM f).rdN x = s.rdN x := rfl
@[simp] theorem State.hostM_get (s : State) (f : HostPort → HostPort) (x : Fld) : (s.hostM f).get x = s.get x := rfl

@[simp] theorem State.inM_now (s : State) (n : Fin 56) (f : ModinInput → ModinInput) : (s.inM n f).now = s.now := rfl
@[simp] theorem State.inM_regs (s : State) (n : Fin 56) (f : ModinInput → ModinInput) : (s.inM n f).regs = s.regs := rfl
@[simp] theorem State.inM_hiLive (s : State) (n : Fin 56) (f : ModinInput → ModinInput) : (s.inM n f).hiLive = s.hiLive := rfl
@[simp] theorem State.inM_mem (s : State) (n : Fin 56) (f : ModinInput → ModinInput) : (s.inM n f).mem = s.mem := rfl
@[simp] theorem State.inM_free (s : State) (n : Fin 56) (f : ModinInput → ModinInput) : (s.inM n f).free = s.free := rfl
@[simp] theorem State.inM_rdata (s : State) (n : Fin 56) (f : ModinInput → ModinInput) : (s.inM n f).rdata = s.rdata := rfl
@[simp] theorem State.inM_stCycles (s : State) (n : Fin 56) (f : ModinInput → ModinInput) : (s.inM n f).stCycles = s.stCycles := rfl
@[simp] theorem State.inM_stCyclesAt (s : State) (n : Fin 56) (f : ModinInput → ModinInput) : (s.inM n f).stCyclesAt = s.stCyclesAt := rfl
@[simp] theorem State.inM_setAt (s : State) (n : Fin 56) (f : ModinInput → ModinInput) : (s.inM n f).setAt = s.setAt := rfl
@[simp] theorem State.inM_setFlags (s : State) (n : Fin 56) (f : ModinInput → ModinInput) : (s.inM n f).setFlags = s.setFlags := rfl
@[simp] theorem State.inM_flagSince (s : State) (n : Fin 56) (f : ModinInput → ModinInput) : (s.inM n f).flagSince = s.flagSince := rfl
@[simp] theorem State.inM_parked (s : State) (n : Fin 56) (f : ModinInput → ModinInput) : (s.inM n f).parked = s.parked := rfl
@[simp] theorem State.inM_landing (s : State) (n : Fin 56) (f : ModinInput → ModinInput) : (s.inM n f).landing = s.landing := rfl
@[simp] theorem State.inM_pending (s : State) (n : Fin 56) (f : ModinInput → ModinInput) : (s.inM n f).pending = s.pending := rfl
@[simp] theorem State.inM_tbl (s : State) (n : Fin 56) (f : ModinInput → ModinInput) : (s.inM n f).tbl = s.tbl := rfl
@[simp] theorem State.inM_pll (s : State) (n : Fin 56) (f : ModinInput → ModinInput) : (s.inM n f).pll = s.pll := rfl
@[simp] theorem State.inM_samples (s : State) (n : Fin 56) (f : ModinInput → ModinInput) : (s.inM n f).samples = s.samples := rfl
@[simp] theorem State.inM_samplesOld (s : State) (n : Fin 56) (f : ModinInput → ModinInput) : (s.inM n f).samplesOld = s.samplesOld := rfl
@[simp] theorem State.inM_acu (s : State) (n : Fin 56) (f : ModinInput → ModinInput) : (s.inM n f).acu = s.acu := rfl
@[simp] theorem State.inM_mramc (s : State) (n : Fin 56) (f : ModinInput → ModinInput) : (s.inM n f).mramc = s.mramc := rfl
@[simp] theorem State.inM_pwm (s : State) (n : Fin 56) (f : ModinInput → ModinInput) : (s.inM n f).pwm = s.pwm := rfl
@[simp] theorem State.inM_drive (s : State) (n : Fin 56) (f : ModinInput → ModinInput) : (s.inM n f).drive = s.drive := rfl
@[simp] theorem State.inM_gp (s : State) (n : Fin 56) (f : ModinInput → ModinInput) : (s.inM n f).gp = s.gp := rfl
@[simp] theorem State.inM_prot (s : State) (n : Fin 56) (f : ModinInput → ModinInput) : (s.inM n f).prot = s.prot := rfl
@[simp] theorem State.inM_probe (s : State) (n : Fin 56) (f : ModinInput → ModinInput) : (s.inM n f).probe = s.probe := rfl
@[simp] theorem State.inM_meter (s : State) (n : Fin 56) (f : ModinInput → ModinInput) : (s.inM n f).meter = s.meter := rfl
@[simp] theorem State.inM_dc (s : State) (n : Fin 56) (f : ModinInput → ModinInput) : (s.inM n f).dc = s.dc := rfl
@[simp] theorem State.inM_safe (s : State) (n : Fin 56) (f : ModinInput → ModinInput) : (s.inM n f).safe = s.safe := rfl
@[simp] theorem State.inM_dma (s : State) (n : Fin 56) (f : ModinInput → ModinInput) : (s.inM n f).dma = s.dma := rfl
@[simp] theorem State.inM_eth (s : State) (n : Fin 56) (f : ModinInput → ModinInput) : (s.inM n f).eth = s.eth := rfl
@[simp] theorem State.inM_mon (s : State) (n : Fin 56) (f : ModinInput → ModinInput) : (s.inM n f).mon = s.mon := rfl
@[simp] theorem State.inM_cpu (s : State) (n : Fin 56) (f : ModinInput → ModinInput) : (s.inM n f).cpu = s.cpu := rfl
@[simp] theorem State.inM_rk (s : State) (n : Fin 56) (f : ModinInput → ModinInput) : (s.inM n f).rk = s.rk := rfl
@[simp] theorem State.inM_st (s : State) (n : Fin 56) (f : ModinInput → ModinInput) : (s.inM n f).st = s.st := rfl
@[simp] theorem State.inM_wdg (s : State) (n : Fin 56) (f : ModinInput → ModinInput) : (s.inM n f).wdg = s.wdg := rfl
@[simp] theorem State.inM_xbar (s : State) (n : Fin 56) (f : ModinInput → ModinInput) : (s.inM n f).xbar = s.xbar := rfl
@[simp] theorem State.inM_host (s : State) (n : Fin 56) (f : ModinInput → ModinInput) : (s.inM n f).host = s.host := rfl
@[simp] theorem State.inM_dport (s : State) (n : Fin 56) (f : ModinInput → ModinInput) : (s.inM n f).dport = s.dport := rfl
@[simp] theorem State.inM_sec (s : State) (n : Fin 56) (f : ModinInput → ModinInput) : (s.inM n f).sec = s.sec := rfl
@[simp] theorem State.inM_consent (s : State) (n : Fin 56) (f : ModinInput → ModinInput) : (s.inM n f).consent = s.consent := rfl
@[simp] theorem State.inM_link (s : State) (n : Fin 56) (f : ModinInput → ModinInput) : (s.inM n f).link = s.link := rfl
@[simp] theorem State.inM_sentinel (s : State) (n : Fin 56) (f : ModinInput → ModinInput) : (s.inM n f).sentinel = s.sentinel := rfl
@[simp] theorem State.inM_pmu (s : State) (n : Fin 56) (f : ModinInput → ModinInput) : (s.inM n f).pmu = s.pmu := rfl
@[simp] theorem State.inM_gpio (s : State) (n : Fin 56) (f : ModinInput → ModinInput) : (s.inM n f).gpio = s.gpio := rfl
@[simp] theorem State.inM_gpioPort (s : State) (n : Fin 56) (f : ModinInput → ModinInput) : (s.inM n f).gpioPort = s.gpioPort := rfl
@[simp] theorem State.inM_rd (s : State) (n : Fin 56) (f : ModinInput → ModinInput) (x : Nat) : (s.inM n f).rd x = s.rd x := rfl
@[simp] theorem State.inM_rdN (s : State) (n : Fin 56) (f : ModinInput → ModinInput) (x : Nat) : (s.inM n f).rdN x = s.rdN x := rfl
@[simp] theorem State.inM_get (s : State) (n : Fin 56) (f : ModinInput → ModinInput) (x : Fld) : (s.inM n f).get x = s.get x := rfl

@[simp] theorem State.legM_now (s : State) (n : Fin 48) (f : Leg → Leg) : (s.legM n f).now = s.now := rfl
@[simp] theorem State.legM_regs (s : State) (n : Fin 48) (f : Leg → Leg) : (s.legM n f).regs = s.regs := rfl
@[simp] theorem State.legM_hiLive (s : State) (n : Fin 48) (f : Leg → Leg) : (s.legM n f).hiLive = s.hiLive := rfl
@[simp] theorem State.legM_mem (s : State) (n : Fin 48) (f : Leg → Leg) : (s.legM n f).mem = s.mem := rfl
@[simp] theorem State.legM_free (s : State) (n : Fin 48) (f : Leg → Leg) : (s.legM n f).free = s.free := rfl
@[simp] theorem State.legM_rdata (s : State) (n : Fin 48) (f : Leg → Leg) : (s.legM n f).rdata = s.rdata := rfl
@[simp] theorem State.legM_stCycles (s : State) (n : Fin 48) (f : Leg → Leg) : (s.legM n f).stCycles = s.stCycles := rfl
@[simp] theorem State.legM_stCyclesAt (s : State) (n : Fin 48) (f : Leg → Leg) : (s.legM n f).stCyclesAt = s.stCyclesAt := rfl
@[simp] theorem State.legM_setAt (s : State) (n : Fin 48) (f : Leg → Leg) : (s.legM n f).setAt = s.setAt := rfl
@[simp] theorem State.legM_setFlags (s : State) (n : Fin 48) (f : Leg → Leg) : (s.legM n f).setFlags = s.setFlags := rfl
@[simp] theorem State.legM_flagSince (s : State) (n : Fin 48) (f : Leg → Leg) : (s.legM n f).flagSince = s.flagSince := rfl
@[simp] theorem State.legM_parked (s : State) (n : Fin 48) (f : Leg → Leg) : (s.legM n f).parked = s.parked := rfl
@[simp] theorem State.legM_landing (s : State) (n : Fin 48) (f : Leg → Leg) : (s.legM n f).landing = s.landing := rfl
@[simp] theorem State.legM_pending (s : State) (n : Fin 48) (f : Leg → Leg) : (s.legM n f).pending = s.pending := rfl
@[simp] theorem State.legM_tbl (s : State) (n : Fin 48) (f : Leg → Leg) : (s.legM n f).tbl = s.tbl := rfl
@[simp] theorem State.legM_pll (s : State) (n : Fin 48) (f : Leg → Leg) : (s.legM n f).pll = s.pll := rfl
@[simp] theorem State.legM_modin (s : State) (n : Fin 48) (f : Leg → Leg) : (s.legM n f).modin = s.modin := rfl
@[simp] theorem State.legM_samples (s : State) (n : Fin 48) (f : Leg → Leg) : (s.legM n f).samples = s.samples := rfl
@[simp] theorem State.legM_samplesOld (s : State) (n : Fin 48) (f : Leg → Leg) : (s.legM n f).samplesOld = s.samplesOld := rfl
@[simp] theorem State.legM_acu (s : State) (n : Fin 48) (f : Leg → Leg) : (s.legM n f).acu = s.acu := rfl
@[simp] theorem State.legM_mramc (s : State) (n : Fin 48) (f : Leg → Leg) : (s.legM n f).mramc = s.mramc := rfl
@[simp] theorem State.legM_drive (s : State) (n : Fin 48) (f : Leg → Leg) : (s.legM n f).drive = s.drive := rfl
@[simp] theorem State.legM_gp (s : State) (n : Fin 48) (f : Leg → Leg) : (s.legM n f).gp = s.gp := rfl
@[simp] theorem State.legM_prot (s : State) (n : Fin 48) (f : Leg → Leg) : (s.legM n f).prot = s.prot := rfl
@[simp] theorem State.legM_probe (s : State) (n : Fin 48) (f : Leg → Leg) : (s.legM n f).probe = s.probe := rfl
@[simp] theorem State.legM_meter (s : State) (n : Fin 48) (f : Leg → Leg) : (s.legM n f).meter = s.meter := rfl
@[simp] theorem State.legM_dc (s : State) (n : Fin 48) (f : Leg → Leg) : (s.legM n f).dc = s.dc := rfl
@[simp] theorem State.legM_safe (s : State) (n : Fin 48) (f : Leg → Leg) : (s.legM n f).safe = s.safe := rfl
@[simp] theorem State.legM_dma (s : State) (n : Fin 48) (f : Leg → Leg) : (s.legM n f).dma = s.dma := rfl
@[simp] theorem State.legM_eth (s : State) (n : Fin 48) (f : Leg → Leg) : (s.legM n f).eth = s.eth := rfl
@[simp] theorem State.legM_mon (s : State) (n : Fin 48) (f : Leg → Leg) : (s.legM n f).mon = s.mon := rfl
@[simp] theorem State.legM_cpu (s : State) (n : Fin 48) (f : Leg → Leg) : (s.legM n f).cpu = s.cpu := rfl
@[simp] theorem State.legM_rk (s : State) (n : Fin 48) (f : Leg → Leg) : (s.legM n f).rk = s.rk := rfl
@[simp] theorem State.legM_st (s : State) (n : Fin 48) (f : Leg → Leg) : (s.legM n f).st = s.st := rfl
@[simp] theorem State.legM_wdg (s : State) (n : Fin 48) (f : Leg → Leg) : (s.legM n f).wdg = s.wdg := rfl
@[simp] theorem State.legM_xbar (s : State) (n : Fin 48) (f : Leg → Leg) : (s.legM n f).xbar = s.xbar := rfl
@[simp] theorem State.legM_host (s : State) (n : Fin 48) (f : Leg → Leg) : (s.legM n f).host = s.host := rfl
@[simp] theorem State.legM_dport (s : State) (n : Fin 48) (f : Leg → Leg) : (s.legM n f).dport = s.dport := rfl
@[simp] theorem State.legM_sec (s : State) (n : Fin 48) (f : Leg → Leg) : (s.legM n f).sec = s.sec := rfl
@[simp] theorem State.legM_consent (s : State) (n : Fin 48) (f : Leg → Leg) : (s.legM n f).consent = s.consent := rfl
@[simp] theorem State.legM_link (s : State) (n : Fin 48) (f : Leg → Leg) : (s.legM n f).link = s.link := rfl
@[simp] theorem State.legM_sentinel (s : State) (n : Fin 48) (f : Leg → Leg) : (s.legM n f).sentinel = s.sentinel := rfl
@[simp] theorem State.legM_pmu (s : State) (n : Fin 48) (f : Leg → Leg) : (s.legM n f).pmu = s.pmu := rfl
@[simp] theorem State.legM_gpio (s : State) (n : Fin 48) (f : Leg → Leg) : (s.legM n f).gpio = s.gpio := rfl
@[simp] theorem State.legM_gpioPort (s : State) (n : Fin 48) (f : Leg → Leg) : (s.legM n f).gpioPort = s.gpioPort := rfl
@[simp] theorem State.legM_rd (s : State) (n : Fin 48) (f : Leg → Leg) (x : Nat) : (s.legM n f).rd x = s.rd x := rfl
@[simp] theorem State.legM_rdN (s : State) (n : Fin 48) (f : Leg → Leg) (x : Nat) : (s.legM n f).rdN x = s.rdN x := rfl
@[simp] theorem State.legM_get (s : State) (n : Fin 48) (f : Leg → Leg) (x : Fld) : (s.legM n f).get x = s.get x := rfl

@[simp] theorem State.metM_meter (s : State) (f : Meter → Meter) : (s.metM f).meter = f s.meter := rfl
@[simp] theorem State.metM_now (s : State) (f : Meter → Meter) : (s.metM f).now = s.now := rfl
@[simp] theorem State.metM_regs (s : State) (f : Meter → Meter) : (s.metM f).regs = s.regs := rfl
@[simp] theorem State.metM_hiLive (s : State) (f : Meter → Meter) : (s.metM f).hiLive = s.hiLive := rfl
@[simp] theorem State.metM_mem (s : State) (f : Meter → Meter) : (s.metM f).mem = s.mem := rfl
@[simp] theorem State.metM_free (s : State) (f : Meter → Meter) : (s.metM f).free = s.free := rfl
@[simp] theorem State.metM_rdata (s : State) (f : Meter → Meter) : (s.metM f).rdata = s.rdata := rfl
@[simp] theorem State.metM_stCycles (s : State) (f : Meter → Meter) : (s.metM f).stCycles = s.stCycles := rfl
@[simp] theorem State.metM_stCyclesAt (s : State) (f : Meter → Meter) : (s.metM f).stCyclesAt = s.stCyclesAt := rfl
@[simp] theorem State.metM_setAt (s : State) (f : Meter → Meter) : (s.metM f).setAt = s.setAt := rfl
@[simp] theorem State.metM_setFlags (s : State) (f : Meter → Meter) : (s.metM f).setFlags = s.setFlags := rfl
@[simp] theorem State.metM_flagSince (s : State) (f : Meter → Meter) : (s.metM f).flagSince = s.flagSince := rfl
@[simp] theorem State.metM_parked (s : State) (f : Meter → Meter) : (s.metM f).parked = s.parked := rfl
@[simp] theorem State.metM_landing (s : State) (f : Meter → Meter) : (s.metM f).landing = s.landing := rfl
@[simp] theorem State.metM_pending (s : State) (f : Meter → Meter) : (s.metM f).pending = s.pending := rfl
@[simp] theorem State.metM_tbl (s : State) (f : Meter → Meter) : (s.metM f).tbl = s.tbl := rfl
@[simp] theorem State.metM_pll (s : State) (f : Meter → Meter) : (s.metM f).pll = s.pll := rfl
@[simp] theorem State.metM_modin (s : State) (f : Meter → Meter) : (s.metM f).modin = s.modin := rfl
@[simp] theorem State.metM_samples (s : State) (f : Meter → Meter) : (s.metM f).samples = s.samples := rfl
@[simp] theorem State.metM_samplesOld (s : State) (f : Meter → Meter) : (s.metM f).samplesOld = s.samplesOld := rfl
@[simp] theorem State.metM_acu (s : State) (f : Meter → Meter) : (s.metM f).acu = s.acu := rfl
@[simp] theorem State.metM_mramc (s : State) (f : Meter → Meter) : (s.metM f).mramc = s.mramc := rfl
@[simp] theorem State.metM_pwm (s : State) (f : Meter → Meter) : (s.metM f).pwm = s.pwm := rfl
@[simp] theorem State.metM_drive (s : State) (f : Meter → Meter) : (s.metM f).drive = s.drive := rfl
@[simp] theorem State.metM_gp (s : State) (f : Meter → Meter) : (s.metM f).gp = s.gp := rfl
@[simp] theorem State.metM_prot (s : State) (f : Meter → Meter) : (s.metM f).prot = s.prot := rfl
@[simp] theorem State.metM_probe (s : State) (f : Meter → Meter) : (s.metM f).probe = s.probe := rfl
@[simp] theorem State.metM_dc (s : State) (f : Meter → Meter) : (s.metM f).dc = s.dc := rfl
@[simp] theorem State.metM_safe (s : State) (f : Meter → Meter) : (s.metM f).safe = s.safe := rfl
@[simp] theorem State.metM_dma (s : State) (f : Meter → Meter) : (s.metM f).dma = s.dma := rfl
@[simp] theorem State.metM_eth (s : State) (f : Meter → Meter) : (s.metM f).eth = s.eth := rfl
@[simp] theorem State.metM_mon (s : State) (f : Meter → Meter) : (s.metM f).mon = s.mon := rfl
@[simp] theorem State.metM_cpu (s : State) (f : Meter → Meter) : (s.metM f).cpu = s.cpu := rfl
@[simp] theorem State.metM_rk (s : State) (f : Meter → Meter) : (s.metM f).rk = s.rk := rfl
@[simp] theorem State.metM_st (s : State) (f : Meter → Meter) : (s.metM f).st = s.st := rfl
@[simp] theorem State.metM_wdg (s : State) (f : Meter → Meter) : (s.metM f).wdg = s.wdg := rfl
@[simp] theorem State.metM_xbar (s : State) (f : Meter → Meter) : (s.metM f).xbar = s.xbar := rfl
@[simp] theorem State.metM_host (s : State) (f : Meter → Meter) : (s.metM f).host = s.host := rfl
@[simp] theorem State.metM_dport (s : State) (f : Meter → Meter) : (s.metM f).dport = s.dport := rfl
@[simp] theorem State.metM_sec (s : State) (f : Meter → Meter) : (s.metM f).sec = s.sec := rfl
@[simp] theorem State.metM_consent (s : State) (f : Meter → Meter) : (s.metM f).consent = s.consent := rfl
@[simp] theorem State.metM_link (s : State) (f : Meter → Meter) : (s.metM f).link = s.link := rfl
@[simp] theorem State.metM_sentinel (s : State) (f : Meter → Meter) : (s.metM f).sentinel = s.sentinel := rfl
@[simp] theorem State.metM_pmu (s : State) (f : Meter → Meter) : (s.metM f).pmu = s.pmu := rfl
@[simp] theorem State.metM_gpio (s : State) (f : Meter → Meter) : (s.metM f).gpio = s.gpio := rfl
@[simp] theorem State.metM_gpioPort (s : State) (f : Meter → Meter) : (s.metM f).gpioPort = s.gpioPort := rfl
@[simp] theorem State.metM_rd (s : State) (f : Meter → Meter) (x : Nat) : (s.metM f).rd x = s.rd x := rfl
@[simp] theorem State.metM_rdN (s : State) (f : Meter → Meter) (x : Nat) : (s.metM f).rdN x = s.rdN x := rfl
@[simp] theorem State.metM_get (s : State) (f : Meter → Meter) (x : Fld) : (s.metM f).get x = s.get x := rfl

@[simp] theorem State.monM_mon (s : State) (f : Mon → Mon) : (s.monM f).mon = f s.mon := rfl
@[simp] theorem State.monM_now (s : State) (f : Mon → Mon) : (s.monM f).now = s.now := rfl
@[simp] theorem State.monM_regs (s : State) (f : Mon → Mon) : (s.monM f).regs = s.regs := rfl
@[simp] theorem State.monM_hiLive (s : State) (f : Mon → Mon) : (s.monM f).hiLive = s.hiLive := rfl
@[simp] theorem State.monM_mem (s : State) (f : Mon → Mon) : (s.monM f).mem = s.mem := rfl
@[simp] theorem State.monM_free (s : State) (f : Mon → Mon) : (s.monM f).free = s.free := rfl
@[simp] theorem State.monM_rdata (s : State) (f : Mon → Mon) : (s.monM f).rdata = s.rdata := rfl
@[simp] theorem State.monM_stCycles (s : State) (f : Mon → Mon) : (s.monM f).stCycles = s.stCycles := rfl
@[simp] theorem State.monM_stCyclesAt (s : State) (f : Mon → Mon) : (s.monM f).stCyclesAt = s.stCyclesAt := rfl
@[simp] theorem State.monM_setAt (s : State) (f : Mon → Mon) : (s.monM f).setAt = s.setAt := rfl
@[simp] theorem State.monM_setFlags (s : State) (f : Mon → Mon) : (s.monM f).setFlags = s.setFlags := rfl
@[simp] theorem State.monM_flagSince (s : State) (f : Mon → Mon) : (s.monM f).flagSince = s.flagSince := rfl
@[simp] theorem State.monM_parked (s : State) (f : Mon → Mon) : (s.monM f).parked = s.parked := rfl
@[simp] theorem State.monM_landing (s : State) (f : Mon → Mon) : (s.monM f).landing = s.landing := rfl
@[simp] theorem State.monM_pending (s : State) (f : Mon → Mon) : (s.monM f).pending = s.pending := rfl
@[simp] theorem State.monM_tbl (s : State) (f : Mon → Mon) : (s.monM f).tbl = s.tbl := rfl
@[simp] theorem State.monM_pll (s : State) (f : Mon → Mon) : (s.monM f).pll = s.pll := rfl
@[simp] theorem State.monM_modin (s : State) (f : Mon → Mon) : (s.monM f).modin = s.modin := rfl
@[simp] theorem State.monM_samples (s : State) (f : Mon → Mon) : (s.monM f).samples = s.samples := rfl
@[simp] theorem State.monM_samplesOld (s : State) (f : Mon → Mon) : (s.monM f).samplesOld = s.samplesOld := rfl
@[simp] theorem State.monM_acu (s : State) (f : Mon → Mon) : (s.monM f).acu = s.acu := rfl
@[simp] theorem State.monM_mramc (s : State) (f : Mon → Mon) : (s.monM f).mramc = s.mramc := rfl
@[simp] theorem State.monM_pwm (s : State) (f : Mon → Mon) : (s.monM f).pwm = s.pwm := rfl
@[simp] theorem State.monM_drive (s : State) (f : Mon → Mon) : (s.monM f).drive = s.drive := rfl
@[simp] theorem State.monM_gp (s : State) (f : Mon → Mon) : (s.monM f).gp = s.gp := rfl
@[simp] theorem State.monM_prot (s : State) (f : Mon → Mon) : (s.monM f).prot = s.prot := rfl
@[simp] theorem State.monM_probe (s : State) (f : Mon → Mon) : (s.monM f).probe = s.probe := rfl
@[simp] theorem State.monM_meter (s : State) (f : Mon → Mon) : (s.monM f).meter = s.meter := rfl
@[simp] theorem State.monM_dc (s : State) (f : Mon → Mon) : (s.monM f).dc = s.dc := rfl
@[simp] theorem State.monM_safe (s : State) (f : Mon → Mon) : (s.monM f).safe = s.safe := rfl
@[simp] theorem State.monM_dma (s : State) (f : Mon → Mon) : (s.monM f).dma = s.dma := rfl
@[simp] theorem State.monM_eth (s : State) (f : Mon → Mon) : (s.monM f).eth = s.eth := rfl
@[simp] theorem State.monM_cpu (s : State) (f : Mon → Mon) : (s.monM f).cpu = s.cpu := rfl
@[simp] theorem State.monM_rk (s : State) (f : Mon → Mon) : (s.monM f).rk = s.rk := rfl
@[simp] theorem State.monM_st (s : State) (f : Mon → Mon) : (s.monM f).st = s.st := rfl
@[simp] theorem State.monM_wdg (s : State) (f : Mon → Mon) : (s.monM f).wdg = s.wdg := rfl
@[simp] theorem State.monM_xbar (s : State) (f : Mon → Mon) : (s.monM f).xbar = s.xbar := rfl
@[simp] theorem State.monM_host (s : State) (f : Mon → Mon) : (s.monM f).host = s.host := rfl
@[simp] theorem State.monM_dport (s : State) (f : Mon → Mon) : (s.monM f).dport = s.dport := rfl
@[simp] theorem State.monM_sec (s : State) (f : Mon → Mon) : (s.monM f).sec = s.sec := rfl
@[simp] theorem State.monM_consent (s : State) (f : Mon → Mon) : (s.monM f).consent = s.consent := rfl
@[simp] theorem State.monM_link (s : State) (f : Mon → Mon) : (s.monM f).link = s.link := rfl
@[simp] theorem State.monM_sentinel (s : State) (f : Mon → Mon) : (s.monM f).sentinel = s.sentinel := rfl
@[simp] theorem State.monM_pmu (s : State) (f : Mon → Mon) : (s.monM f).pmu = s.pmu := rfl
@[simp] theorem State.monM_gpio (s : State) (f : Mon → Mon) : (s.monM f).gpio = s.gpio := rfl
@[simp] theorem State.monM_gpioPort (s : State) (f : Mon → Mon) : (s.monM f).gpioPort = s.gpioPort := rfl
@[simp] theorem State.monM_rd (s : State) (f : Mon → Mon) (x : Nat) : (s.monM f).rd x = s.rd x := rfl
@[simp] theorem State.monM_rdN (s : State) (f : Mon → Mon) (x : Nat) : (s.monM f).rdN x = s.rdN x := rfl
@[simp] theorem State.monM_get (s : State) (f : Mon → Mon) (x : Fld) : (s.monM f).get x = s.get x := rfl

@[simp] theorem State.mramM_mramc (s : State) (f : Mramc → Mramc) : (s.mramM f).mramc = f s.mramc := rfl
@[simp] theorem State.mramM_now (s : State) (f : Mramc → Mramc) : (s.mramM f).now = s.now := rfl
@[simp] theorem State.mramM_regs (s : State) (f : Mramc → Mramc) : (s.mramM f).regs = s.regs := rfl
@[simp] theorem State.mramM_hiLive (s : State) (f : Mramc → Mramc) : (s.mramM f).hiLive = s.hiLive := rfl
@[simp] theorem State.mramM_mem (s : State) (f : Mramc → Mramc) : (s.mramM f).mem = s.mem := rfl
@[simp] theorem State.mramM_free (s : State) (f : Mramc → Mramc) : (s.mramM f).free = s.free := rfl
@[simp] theorem State.mramM_rdata (s : State) (f : Mramc → Mramc) : (s.mramM f).rdata = s.rdata := rfl
@[simp] theorem State.mramM_stCycles (s : State) (f : Mramc → Mramc) : (s.mramM f).stCycles = s.stCycles := rfl
@[simp] theorem State.mramM_stCyclesAt (s : State) (f : Mramc → Mramc) : (s.mramM f).stCyclesAt = s.stCyclesAt := rfl
@[simp] theorem State.mramM_setAt (s : State) (f : Mramc → Mramc) : (s.mramM f).setAt = s.setAt := rfl
@[simp] theorem State.mramM_setFlags (s : State) (f : Mramc → Mramc) : (s.mramM f).setFlags = s.setFlags := rfl
@[simp] theorem State.mramM_flagSince (s : State) (f : Mramc → Mramc) : (s.mramM f).flagSince = s.flagSince := rfl
@[simp] theorem State.mramM_parked (s : State) (f : Mramc → Mramc) : (s.mramM f).parked = s.parked := rfl
@[simp] theorem State.mramM_landing (s : State) (f : Mramc → Mramc) : (s.mramM f).landing = s.landing := rfl
@[simp] theorem State.mramM_pending (s : State) (f : Mramc → Mramc) : (s.mramM f).pending = s.pending := rfl
@[simp] theorem State.mramM_tbl (s : State) (f : Mramc → Mramc) : (s.mramM f).tbl = s.tbl := rfl
@[simp] theorem State.mramM_pll (s : State) (f : Mramc → Mramc) : (s.mramM f).pll = s.pll := rfl
@[simp] theorem State.mramM_modin (s : State) (f : Mramc → Mramc) : (s.mramM f).modin = s.modin := rfl
@[simp] theorem State.mramM_samples (s : State) (f : Mramc → Mramc) : (s.mramM f).samples = s.samples := rfl
@[simp] theorem State.mramM_samplesOld (s : State) (f : Mramc → Mramc) : (s.mramM f).samplesOld = s.samplesOld := rfl
@[simp] theorem State.mramM_acu (s : State) (f : Mramc → Mramc) : (s.mramM f).acu = s.acu := rfl
@[simp] theorem State.mramM_pwm (s : State) (f : Mramc → Mramc) : (s.mramM f).pwm = s.pwm := rfl
@[simp] theorem State.mramM_drive (s : State) (f : Mramc → Mramc) : (s.mramM f).drive = s.drive := rfl
@[simp] theorem State.mramM_gp (s : State) (f : Mramc → Mramc) : (s.mramM f).gp = s.gp := rfl
@[simp] theorem State.mramM_prot (s : State) (f : Mramc → Mramc) : (s.mramM f).prot = s.prot := rfl
@[simp] theorem State.mramM_probe (s : State) (f : Mramc → Mramc) : (s.mramM f).probe = s.probe := rfl
@[simp] theorem State.mramM_meter (s : State) (f : Mramc → Mramc) : (s.mramM f).meter = s.meter := rfl
@[simp] theorem State.mramM_dc (s : State) (f : Mramc → Mramc) : (s.mramM f).dc = s.dc := rfl
@[simp] theorem State.mramM_safe (s : State) (f : Mramc → Mramc) : (s.mramM f).safe = s.safe := rfl
@[simp] theorem State.mramM_dma (s : State) (f : Mramc → Mramc) : (s.mramM f).dma = s.dma := rfl
@[simp] theorem State.mramM_eth (s : State) (f : Mramc → Mramc) : (s.mramM f).eth = s.eth := rfl
@[simp] theorem State.mramM_mon (s : State) (f : Mramc → Mramc) : (s.mramM f).mon = s.mon := rfl
@[simp] theorem State.mramM_cpu (s : State) (f : Mramc → Mramc) : (s.mramM f).cpu = s.cpu := rfl
@[simp] theorem State.mramM_rk (s : State) (f : Mramc → Mramc) : (s.mramM f).rk = s.rk := rfl
@[simp] theorem State.mramM_st (s : State) (f : Mramc → Mramc) : (s.mramM f).st = s.st := rfl
@[simp] theorem State.mramM_wdg (s : State) (f : Mramc → Mramc) : (s.mramM f).wdg = s.wdg := rfl
@[simp] theorem State.mramM_xbar (s : State) (f : Mramc → Mramc) : (s.mramM f).xbar = s.xbar := rfl
@[simp] theorem State.mramM_host (s : State) (f : Mramc → Mramc) : (s.mramM f).host = s.host := rfl
@[simp] theorem State.mramM_dport (s : State) (f : Mramc → Mramc) : (s.mramM f).dport = s.dport := rfl
@[simp] theorem State.mramM_sec (s : State) (f : Mramc → Mramc) : (s.mramM f).sec = s.sec := rfl
@[simp] theorem State.mramM_consent (s : State) (f : Mramc → Mramc) : (s.mramM f).consent = s.consent := rfl
@[simp] theorem State.mramM_link (s : State) (f : Mramc → Mramc) : (s.mramM f).link = s.link := rfl
@[simp] theorem State.mramM_sentinel (s : State) (f : Mramc → Mramc) : (s.mramM f).sentinel = s.sentinel := rfl
@[simp] theorem State.mramM_pmu (s : State) (f : Mramc → Mramc) : (s.mramM f).pmu = s.pmu := rfl
@[simp] theorem State.mramM_gpio (s : State) (f : Mramc → Mramc) : (s.mramM f).gpio = s.gpio := rfl
@[simp] theorem State.mramM_gpioPort (s : State) (f : Mramc → Mramc) : (s.mramM f).gpioPort = s.gpioPort := rfl
@[simp] theorem State.mramM_rd (s : State) (f : Mramc → Mramc) (x : Nat) : (s.mramM f).rd x = s.rd x := rfl
@[simp] theorem State.mramM_rdN (s : State) (f : Mramc → Mramc) (x : Nat) : (s.mramM f).rdN x = s.rdN x := rfl
@[simp] theorem State.mramM_get (s : State) (f : Mramc → Mramc) (x : Fld) : (s.mramM f).get x = s.get x := rfl

@[simp] theorem State.pllM_pll (s : State) (f : Pll → Pll) : (s.pllM f).pll = f s.pll := rfl
@[simp] theorem State.pllM_now (s : State) (f : Pll → Pll) : (s.pllM f).now = s.now := rfl
@[simp] theorem State.pllM_regs (s : State) (f : Pll → Pll) : (s.pllM f).regs = s.regs := rfl
@[simp] theorem State.pllM_hiLive (s : State) (f : Pll → Pll) : (s.pllM f).hiLive = s.hiLive := rfl
@[simp] theorem State.pllM_mem (s : State) (f : Pll → Pll) : (s.pllM f).mem = s.mem := rfl
@[simp] theorem State.pllM_free (s : State) (f : Pll → Pll) : (s.pllM f).free = s.free := rfl
@[simp] theorem State.pllM_rdata (s : State) (f : Pll → Pll) : (s.pllM f).rdata = s.rdata := rfl
@[simp] theorem State.pllM_stCycles (s : State) (f : Pll → Pll) : (s.pllM f).stCycles = s.stCycles := rfl
@[simp] theorem State.pllM_stCyclesAt (s : State) (f : Pll → Pll) : (s.pllM f).stCyclesAt = s.stCyclesAt := rfl
@[simp] theorem State.pllM_setAt (s : State) (f : Pll → Pll) : (s.pllM f).setAt = s.setAt := rfl
@[simp] theorem State.pllM_setFlags (s : State) (f : Pll → Pll) : (s.pllM f).setFlags = s.setFlags := rfl
@[simp] theorem State.pllM_flagSince (s : State) (f : Pll → Pll) : (s.pllM f).flagSince = s.flagSince := rfl
@[simp] theorem State.pllM_parked (s : State) (f : Pll → Pll) : (s.pllM f).parked = s.parked := rfl
@[simp] theorem State.pllM_landing (s : State) (f : Pll → Pll) : (s.pllM f).landing = s.landing := rfl
@[simp] theorem State.pllM_pending (s : State) (f : Pll → Pll) : (s.pllM f).pending = s.pending := rfl
@[simp] theorem State.pllM_tbl (s : State) (f : Pll → Pll) : (s.pllM f).tbl = s.tbl := rfl
@[simp] theorem State.pllM_modin (s : State) (f : Pll → Pll) : (s.pllM f).modin = s.modin := rfl
@[simp] theorem State.pllM_samples (s : State) (f : Pll → Pll) : (s.pllM f).samples = s.samples := rfl
@[simp] theorem State.pllM_samplesOld (s : State) (f : Pll → Pll) : (s.pllM f).samplesOld = s.samplesOld := rfl
@[simp] theorem State.pllM_acu (s : State) (f : Pll → Pll) : (s.pllM f).acu = s.acu := rfl
@[simp] theorem State.pllM_mramc (s : State) (f : Pll → Pll) : (s.pllM f).mramc = s.mramc := rfl
@[simp] theorem State.pllM_pwm (s : State) (f : Pll → Pll) : (s.pllM f).pwm = s.pwm := rfl
@[simp] theorem State.pllM_drive (s : State) (f : Pll → Pll) : (s.pllM f).drive = s.drive := rfl
@[simp] theorem State.pllM_gp (s : State) (f : Pll → Pll) : (s.pllM f).gp = s.gp := rfl
@[simp] theorem State.pllM_prot (s : State) (f : Pll → Pll) : (s.pllM f).prot = s.prot := rfl
@[simp] theorem State.pllM_probe (s : State) (f : Pll → Pll) : (s.pllM f).probe = s.probe := rfl
@[simp] theorem State.pllM_meter (s : State) (f : Pll → Pll) : (s.pllM f).meter = s.meter := rfl
@[simp] theorem State.pllM_dc (s : State) (f : Pll → Pll) : (s.pllM f).dc = s.dc := rfl
@[simp] theorem State.pllM_safe (s : State) (f : Pll → Pll) : (s.pllM f).safe = s.safe := rfl
@[simp] theorem State.pllM_dma (s : State) (f : Pll → Pll) : (s.pllM f).dma = s.dma := rfl
@[simp] theorem State.pllM_eth (s : State) (f : Pll → Pll) : (s.pllM f).eth = s.eth := rfl
@[simp] theorem State.pllM_mon (s : State) (f : Pll → Pll) : (s.pllM f).mon = s.mon := rfl
@[simp] theorem State.pllM_cpu (s : State) (f : Pll → Pll) : (s.pllM f).cpu = s.cpu := rfl
@[simp] theorem State.pllM_rk (s : State) (f : Pll → Pll) : (s.pllM f).rk = s.rk := rfl
@[simp] theorem State.pllM_st (s : State) (f : Pll → Pll) : (s.pllM f).st = s.st := rfl
@[simp] theorem State.pllM_wdg (s : State) (f : Pll → Pll) : (s.pllM f).wdg = s.wdg := rfl
@[simp] theorem State.pllM_xbar (s : State) (f : Pll → Pll) : (s.pllM f).xbar = s.xbar := rfl
@[simp] theorem State.pllM_host (s : State) (f : Pll → Pll) : (s.pllM f).host = s.host := rfl
@[simp] theorem State.pllM_dport (s : State) (f : Pll → Pll) : (s.pllM f).dport = s.dport := rfl
@[simp] theorem State.pllM_sec (s : State) (f : Pll → Pll) : (s.pllM f).sec = s.sec := rfl
@[simp] theorem State.pllM_consent (s : State) (f : Pll → Pll) : (s.pllM f).consent = s.consent := rfl
@[simp] theorem State.pllM_link (s : State) (f : Pll → Pll) : (s.pllM f).link = s.link := rfl
@[simp] theorem State.pllM_sentinel (s : State) (f : Pll → Pll) : (s.pllM f).sentinel = s.sentinel := rfl
@[simp] theorem State.pllM_pmu (s : State) (f : Pll → Pll) : (s.pllM f).pmu = s.pmu := rfl
@[simp] theorem State.pllM_gpio (s : State) (f : Pll → Pll) : (s.pllM f).gpio = s.gpio := rfl
@[simp] theorem State.pllM_gpioPort (s : State) (f : Pll → Pll) : (s.pllM f).gpioPort = s.gpioPort := rfl
@[simp] theorem State.pllM_rd (s : State) (f : Pll → Pll) (x : Nat) : (s.pllM f).rd x = s.rd x := rfl
@[simp] theorem State.pllM_rdN (s : State) (f : Pll → Pll) (x : Nat) : (s.pllM f).rdN x = s.rdN x := rfl
@[simp] theorem State.pllM_get (s : State) (f : Pll → Pll) (x : Fld) : (s.pllM f).get x = s.get x := rfl

@[simp] theorem State.plsM_now (s : State) (q : Fin 4) (f : Pulse → Pulse) : (s.plsM q f).now = s.now := rfl
@[simp] theorem State.plsM_regs (s : State) (q : Fin 4) (f : Pulse → Pulse) : (s.plsM q f).regs = s.regs := rfl
@[simp] theorem State.plsM_hiLive (s : State) (q : Fin 4) (f : Pulse → Pulse) : (s.plsM q f).hiLive = s.hiLive := rfl
@[simp] theorem State.plsM_mem (s : State) (q : Fin 4) (f : Pulse → Pulse) : (s.plsM q f).mem = s.mem := rfl
@[simp] theorem State.plsM_free (s : State) (q : Fin 4) (f : Pulse → Pulse) : (s.plsM q f).free = s.free := rfl
@[simp] theorem State.plsM_rdata (s : State) (q : Fin 4) (f : Pulse → Pulse) : (s.plsM q f).rdata = s.rdata := rfl
@[simp] theorem State.plsM_stCycles (s : State) (q : Fin 4) (f : Pulse → Pulse) : (s.plsM q f).stCycles = s.stCycles := rfl
@[simp] theorem State.plsM_stCyclesAt (s : State) (q : Fin 4) (f : Pulse → Pulse) : (s.plsM q f).stCyclesAt = s.stCyclesAt := rfl
@[simp] theorem State.plsM_setAt (s : State) (q : Fin 4) (f : Pulse → Pulse) : (s.plsM q f).setAt = s.setAt := rfl
@[simp] theorem State.plsM_setFlags (s : State) (q : Fin 4) (f : Pulse → Pulse) : (s.plsM q f).setFlags = s.setFlags := rfl
@[simp] theorem State.plsM_flagSince (s : State) (q : Fin 4) (f : Pulse → Pulse) : (s.plsM q f).flagSince = s.flagSince := rfl
@[simp] theorem State.plsM_parked (s : State) (q : Fin 4) (f : Pulse → Pulse) : (s.plsM q f).parked = s.parked := rfl
@[simp] theorem State.plsM_landing (s : State) (q : Fin 4) (f : Pulse → Pulse) : (s.plsM q f).landing = s.landing := rfl
@[simp] theorem State.plsM_pending (s : State) (q : Fin 4) (f : Pulse → Pulse) : (s.plsM q f).pending = s.pending := rfl
@[simp] theorem State.plsM_tbl (s : State) (q : Fin 4) (f : Pulse → Pulse) : (s.plsM q f).tbl = s.tbl := rfl
@[simp] theorem State.plsM_pll (s : State) (q : Fin 4) (f : Pulse → Pulse) : (s.plsM q f).pll = s.pll := rfl
@[simp] theorem State.plsM_modin (s : State) (q : Fin 4) (f : Pulse → Pulse) : (s.plsM q f).modin = s.modin := rfl
@[simp] theorem State.plsM_samples (s : State) (q : Fin 4) (f : Pulse → Pulse) : (s.plsM q f).samples = s.samples := rfl
@[simp] theorem State.plsM_samplesOld (s : State) (q : Fin 4) (f : Pulse → Pulse) : (s.plsM q f).samplesOld = s.samplesOld := rfl
@[simp] theorem State.plsM_acu (s : State) (q : Fin 4) (f : Pulse → Pulse) : (s.plsM q f).acu = s.acu := rfl
@[simp] theorem State.plsM_mramc (s : State) (q : Fin 4) (f : Pulse → Pulse) : (s.plsM q f).mramc = s.mramc := rfl
@[simp] theorem State.plsM_pwm (s : State) (q : Fin 4) (f : Pulse → Pulse) : (s.plsM q f).pwm = s.pwm := rfl
@[simp] theorem State.plsM_drive (s : State) (q : Fin 4) (f : Pulse → Pulse) : (s.plsM q f).drive = s.drive := rfl
@[simp] theorem State.plsM_gp (s : State) (q : Fin 4) (f : Pulse → Pulse) : (s.plsM q f).gp = s.gp := rfl
@[simp] theorem State.plsM_prot (s : State) (q : Fin 4) (f : Pulse → Pulse) : (s.plsM q f).prot = s.prot := rfl
@[simp] theorem State.plsM_probe (s : State) (q : Fin 4) (f : Pulse → Pulse) : (s.plsM q f).probe = s.probe := rfl
@[simp] theorem State.plsM_dc (s : State) (q : Fin 4) (f : Pulse → Pulse) : (s.plsM q f).dc = s.dc := rfl
@[simp] theorem State.plsM_safe (s : State) (q : Fin 4) (f : Pulse → Pulse) : (s.plsM q f).safe = s.safe := rfl
@[simp] theorem State.plsM_dma (s : State) (q : Fin 4) (f : Pulse → Pulse) : (s.plsM q f).dma = s.dma := rfl
@[simp] theorem State.plsM_eth (s : State) (q : Fin 4) (f : Pulse → Pulse) : (s.plsM q f).eth = s.eth := rfl
@[simp] theorem State.plsM_mon (s : State) (q : Fin 4) (f : Pulse → Pulse) : (s.plsM q f).mon = s.mon := rfl
@[simp] theorem State.plsM_cpu (s : State) (q : Fin 4) (f : Pulse → Pulse) : (s.plsM q f).cpu = s.cpu := rfl
@[simp] theorem State.plsM_rk (s : State) (q : Fin 4) (f : Pulse → Pulse) : (s.plsM q f).rk = s.rk := rfl
@[simp] theorem State.plsM_st (s : State) (q : Fin 4) (f : Pulse → Pulse) : (s.plsM q f).st = s.st := rfl
@[simp] theorem State.plsM_wdg (s : State) (q : Fin 4) (f : Pulse → Pulse) : (s.plsM q f).wdg = s.wdg := rfl
@[simp] theorem State.plsM_xbar (s : State) (q : Fin 4) (f : Pulse → Pulse) : (s.plsM q f).xbar = s.xbar := rfl
@[simp] theorem State.plsM_host (s : State) (q : Fin 4) (f : Pulse → Pulse) : (s.plsM q f).host = s.host := rfl
@[simp] theorem State.plsM_dport (s : State) (q : Fin 4) (f : Pulse → Pulse) : (s.plsM q f).dport = s.dport := rfl
@[simp] theorem State.plsM_sec (s : State) (q : Fin 4) (f : Pulse → Pulse) : (s.plsM q f).sec = s.sec := rfl
@[simp] theorem State.plsM_consent (s : State) (q : Fin 4) (f : Pulse → Pulse) : (s.plsM q f).consent = s.consent := rfl
@[simp] theorem State.plsM_link (s : State) (q : Fin 4) (f : Pulse → Pulse) : (s.plsM q f).link = s.link := rfl
@[simp] theorem State.plsM_sentinel (s : State) (q : Fin 4) (f : Pulse → Pulse) : (s.plsM q f).sentinel = s.sentinel := rfl
@[simp] theorem State.plsM_pmu (s : State) (q : Fin 4) (f : Pulse → Pulse) : (s.plsM q f).pmu = s.pmu := rfl
@[simp] theorem State.plsM_gpio (s : State) (q : Fin 4) (f : Pulse → Pulse) : (s.plsM q f).gpio = s.gpio := rfl
@[simp] theorem State.plsM_gpioPort (s : State) (q : Fin 4) (f : Pulse → Pulse) : (s.plsM q f).gpioPort = s.gpioPort := rfl
@[simp] theorem State.plsM_rd (s : State) (q : Fin 4) (f : Pulse → Pulse) (x : Nat) : (s.plsM q f).rd x = s.rd x := rfl
@[simp] theorem State.plsM_rdN (s : State) (q : Fin 4) (f : Pulse → Pulse) (x : Nat) : (s.plsM q f).rdN x = s.rdN x := rfl
@[simp] theorem State.plsM_get (s : State) (q : Fin 4) (f : Pulse → Pulse) (x : Fld) : (s.plsM q f).get x = s.get x := rfl

@[simp] theorem State.pmuM_pmu (s : State) (f : Pmu → Pmu) : (s.pmuM f).pmu = f s.pmu := rfl
@[simp] theorem State.pmuM_now (s : State) (f : Pmu → Pmu) : (s.pmuM f).now = s.now := rfl
@[simp] theorem State.pmuM_regs (s : State) (f : Pmu → Pmu) : (s.pmuM f).regs = s.regs := rfl
@[simp] theorem State.pmuM_hiLive (s : State) (f : Pmu → Pmu) : (s.pmuM f).hiLive = s.hiLive := rfl
@[simp] theorem State.pmuM_mem (s : State) (f : Pmu → Pmu) : (s.pmuM f).mem = s.mem := rfl
@[simp] theorem State.pmuM_free (s : State) (f : Pmu → Pmu) : (s.pmuM f).free = s.free := rfl
@[simp] theorem State.pmuM_rdata (s : State) (f : Pmu → Pmu) : (s.pmuM f).rdata = s.rdata := rfl
@[simp] theorem State.pmuM_stCycles (s : State) (f : Pmu → Pmu) : (s.pmuM f).stCycles = s.stCycles := rfl
@[simp] theorem State.pmuM_stCyclesAt (s : State) (f : Pmu → Pmu) : (s.pmuM f).stCyclesAt = s.stCyclesAt := rfl
@[simp] theorem State.pmuM_setAt (s : State) (f : Pmu → Pmu) : (s.pmuM f).setAt = s.setAt := rfl
@[simp] theorem State.pmuM_setFlags (s : State) (f : Pmu → Pmu) : (s.pmuM f).setFlags = s.setFlags := rfl
@[simp] theorem State.pmuM_flagSince (s : State) (f : Pmu → Pmu) : (s.pmuM f).flagSince = s.flagSince := rfl
@[simp] theorem State.pmuM_parked (s : State) (f : Pmu → Pmu) : (s.pmuM f).parked = s.parked := rfl
@[simp] theorem State.pmuM_landing (s : State) (f : Pmu → Pmu) : (s.pmuM f).landing = s.landing := rfl
@[simp] theorem State.pmuM_pending (s : State) (f : Pmu → Pmu) : (s.pmuM f).pending = s.pending := rfl
@[simp] theorem State.pmuM_tbl (s : State) (f : Pmu → Pmu) : (s.pmuM f).tbl = s.tbl := rfl
@[simp] theorem State.pmuM_pll (s : State) (f : Pmu → Pmu) : (s.pmuM f).pll = s.pll := rfl
@[simp] theorem State.pmuM_modin (s : State) (f : Pmu → Pmu) : (s.pmuM f).modin = s.modin := rfl
@[simp] theorem State.pmuM_samples (s : State) (f : Pmu → Pmu) : (s.pmuM f).samples = s.samples := rfl
@[simp] theorem State.pmuM_samplesOld (s : State) (f : Pmu → Pmu) : (s.pmuM f).samplesOld = s.samplesOld := rfl
@[simp] theorem State.pmuM_acu (s : State) (f : Pmu → Pmu) : (s.pmuM f).acu = s.acu := rfl
@[simp] theorem State.pmuM_mramc (s : State) (f : Pmu → Pmu) : (s.pmuM f).mramc = s.mramc := rfl
@[simp] theorem State.pmuM_pwm (s : State) (f : Pmu → Pmu) : (s.pmuM f).pwm = s.pwm := rfl
@[simp] theorem State.pmuM_drive (s : State) (f : Pmu → Pmu) : (s.pmuM f).drive = s.drive := rfl
@[simp] theorem State.pmuM_gp (s : State) (f : Pmu → Pmu) : (s.pmuM f).gp = s.gp := rfl
@[simp] theorem State.pmuM_prot (s : State) (f : Pmu → Pmu) : (s.pmuM f).prot = s.prot := rfl
@[simp] theorem State.pmuM_probe (s : State) (f : Pmu → Pmu) : (s.pmuM f).probe = s.probe := rfl
@[simp] theorem State.pmuM_meter (s : State) (f : Pmu → Pmu) : (s.pmuM f).meter = s.meter := rfl
@[simp] theorem State.pmuM_dc (s : State) (f : Pmu → Pmu) : (s.pmuM f).dc = s.dc := rfl
@[simp] theorem State.pmuM_safe (s : State) (f : Pmu → Pmu) : (s.pmuM f).safe = s.safe := rfl
@[simp] theorem State.pmuM_dma (s : State) (f : Pmu → Pmu) : (s.pmuM f).dma = s.dma := rfl
@[simp] theorem State.pmuM_eth (s : State) (f : Pmu → Pmu) : (s.pmuM f).eth = s.eth := rfl
@[simp] theorem State.pmuM_mon (s : State) (f : Pmu → Pmu) : (s.pmuM f).mon = s.mon := rfl
@[simp] theorem State.pmuM_cpu (s : State) (f : Pmu → Pmu) : (s.pmuM f).cpu = s.cpu := rfl
@[simp] theorem State.pmuM_rk (s : State) (f : Pmu → Pmu) : (s.pmuM f).rk = s.rk := rfl
@[simp] theorem State.pmuM_st (s : State) (f : Pmu → Pmu) : (s.pmuM f).st = s.st := rfl
@[simp] theorem State.pmuM_wdg (s : State) (f : Pmu → Pmu) : (s.pmuM f).wdg = s.wdg := rfl
@[simp] theorem State.pmuM_xbar (s : State) (f : Pmu → Pmu) : (s.pmuM f).xbar = s.xbar := rfl
@[simp] theorem State.pmuM_host (s : State) (f : Pmu → Pmu) : (s.pmuM f).host = s.host := rfl
@[simp] theorem State.pmuM_dport (s : State) (f : Pmu → Pmu) : (s.pmuM f).dport = s.dport := rfl
@[simp] theorem State.pmuM_sec (s : State) (f : Pmu → Pmu) : (s.pmuM f).sec = s.sec := rfl
@[simp] theorem State.pmuM_consent (s : State) (f : Pmu → Pmu) : (s.pmuM f).consent = s.consent := rfl
@[simp] theorem State.pmuM_link (s : State) (f : Pmu → Pmu) : (s.pmuM f).link = s.link := rfl
@[simp] theorem State.pmuM_sentinel (s : State) (f : Pmu → Pmu) : (s.pmuM f).sentinel = s.sentinel := rfl
@[simp] theorem State.pmuM_gpio (s : State) (f : Pmu → Pmu) : (s.pmuM f).gpio = s.gpio := rfl
@[simp] theorem State.pmuM_gpioPort (s : State) (f : Pmu → Pmu) : (s.pmuM f).gpioPort = s.gpioPort := rfl
@[simp] theorem State.pmuM_rd (s : State) (f : Pmu → Pmu) (x : Nat) : (s.pmuM f).rd x = s.rd x := rfl
@[simp] theorem State.pmuM_rdN (s : State) (f : Pmu → Pmu) (x : Nat) : (s.pmuM f).rdN x = s.rdN x := rfl
@[simp] theorem State.pmuM_get (s : State) (f : Pmu → Pmu) (x : Fld) : (s.pmuM f).get x = s.get x := rfl

@[simp] theorem State.portM_now (s : State) (l : Fin 4) (f : LinkPort → LinkPort) : (s.portM l f).now = s.now := rfl
@[simp] theorem State.portM_regs (s : State) (l : Fin 4) (f : LinkPort → LinkPort) : (s.portM l f).regs = s.regs := rfl
@[simp] theorem State.portM_hiLive (s : State) (l : Fin 4) (f : LinkPort → LinkPort) : (s.portM l f).hiLive = s.hiLive := rfl
@[simp] theorem State.portM_mem (s : State) (l : Fin 4) (f : LinkPort → LinkPort) : (s.portM l f).mem = s.mem := rfl
@[simp] theorem State.portM_free (s : State) (l : Fin 4) (f : LinkPort → LinkPort) : (s.portM l f).free = s.free := rfl
@[simp] theorem State.portM_rdata (s : State) (l : Fin 4) (f : LinkPort → LinkPort) : (s.portM l f).rdata = s.rdata := rfl
@[simp] theorem State.portM_stCycles (s : State) (l : Fin 4) (f : LinkPort → LinkPort) : (s.portM l f).stCycles = s.stCycles := rfl
@[simp] theorem State.portM_stCyclesAt (s : State) (l : Fin 4) (f : LinkPort → LinkPort) : (s.portM l f).stCyclesAt = s.stCyclesAt := rfl
@[simp] theorem State.portM_setAt (s : State) (l : Fin 4) (f : LinkPort → LinkPort) : (s.portM l f).setAt = s.setAt := rfl
@[simp] theorem State.portM_setFlags (s : State) (l : Fin 4) (f : LinkPort → LinkPort) : (s.portM l f).setFlags = s.setFlags := rfl
@[simp] theorem State.portM_flagSince (s : State) (l : Fin 4) (f : LinkPort → LinkPort) : (s.portM l f).flagSince = s.flagSince := rfl
@[simp] theorem State.portM_parked (s : State) (l : Fin 4) (f : LinkPort → LinkPort) : (s.portM l f).parked = s.parked := rfl
@[simp] theorem State.portM_landing (s : State) (l : Fin 4) (f : LinkPort → LinkPort) : (s.portM l f).landing = s.landing := rfl
@[simp] theorem State.portM_pending (s : State) (l : Fin 4) (f : LinkPort → LinkPort) : (s.portM l f).pending = s.pending := rfl
@[simp] theorem State.portM_tbl (s : State) (l : Fin 4) (f : LinkPort → LinkPort) : (s.portM l f).tbl = s.tbl := rfl
@[simp] theorem State.portM_pll (s : State) (l : Fin 4) (f : LinkPort → LinkPort) : (s.portM l f).pll = s.pll := rfl
@[simp] theorem State.portM_modin (s : State) (l : Fin 4) (f : LinkPort → LinkPort) : (s.portM l f).modin = s.modin := rfl
@[simp] theorem State.portM_samples (s : State) (l : Fin 4) (f : LinkPort → LinkPort) : (s.portM l f).samples = s.samples := rfl
@[simp] theorem State.portM_samplesOld (s : State) (l : Fin 4) (f : LinkPort → LinkPort) : (s.portM l f).samplesOld = s.samplesOld := rfl
@[simp] theorem State.portM_acu (s : State) (l : Fin 4) (f : LinkPort → LinkPort) : (s.portM l f).acu = s.acu := rfl
@[simp] theorem State.portM_mramc (s : State) (l : Fin 4) (f : LinkPort → LinkPort) : (s.portM l f).mramc = s.mramc := rfl
@[simp] theorem State.portM_pwm (s : State) (l : Fin 4) (f : LinkPort → LinkPort) : (s.portM l f).pwm = s.pwm := rfl
@[simp] theorem State.portM_drive (s : State) (l : Fin 4) (f : LinkPort → LinkPort) : (s.portM l f).drive = s.drive := rfl
@[simp] theorem State.portM_gp (s : State) (l : Fin 4) (f : LinkPort → LinkPort) : (s.portM l f).gp = s.gp := rfl
@[simp] theorem State.portM_prot (s : State) (l : Fin 4) (f : LinkPort → LinkPort) : (s.portM l f).prot = s.prot := rfl
@[simp] theorem State.portM_probe (s : State) (l : Fin 4) (f : LinkPort → LinkPort) : (s.portM l f).probe = s.probe := rfl
@[simp] theorem State.portM_meter (s : State) (l : Fin 4) (f : LinkPort → LinkPort) : (s.portM l f).meter = s.meter := rfl
@[simp] theorem State.portM_dc (s : State) (l : Fin 4) (f : LinkPort → LinkPort) : (s.portM l f).dc = s.dc := rfl
@[simp] theorem State.portM_safe (s : State) (l : Fin 4) (f : LinkPort → LinkPort) : (s.portM l f).safe = s.safe := rfl
@[simp] theorem State.portM_dma (s : State) (l : Fin 4) (f : LinkPort → LinkPort) : (s.portM l f).dma = s.dma := rfl
@[simp] theorem State.portM_eth (s : State) (l : Fin 4) (f : LinkPort → LinkPort) : (s.portM l f).eth = s.eth := rfl
@[simp] theorem State.portM_mon (s : State) (l : Fin 4) (f : LinkPort → LinkPort) : (s.portM l f).mon = s.mon := rfl
@[simp] theorem State.portM_cpu (s : State) (l : Fin 4) (f : LinkPort → LinkPort) : (s.portM l f).cpu = s.cpu := rfl
@[simp] theorem State.portM_rk (s : State) (l : Fin 4) (f : LinkPort → LinkPort) : (s.portM l f).rk = s.rk := rfl
@[simp] theorem State.portM_st (s : State) (l : Fin 4) (f : LinkPort → LinkPort) : (s.portM l f).st = s.st := rfl
@[simp] theorem State.portM_wdg (s : State) (l : Fin 4) (f : LinkPort → LinkPort) : (s.portM l f).wdg = s.wdg := rfl
@[simp] theorem State.portM_xbar (s : State) (l : Fin 4) (f : LinkPort → LinkPort) : (s.portM l f).xbar = s.xbar := rfl
@[simp] theorem State.portM_host (s : State) (l : Fin 4) (f : LinkPort → LinkPort) : (s.portM l f).host = s.host := rfl
@[simp] theorem State.portM_dport (s : State) (l : Fin 4) (f : LinkPort → LinkPort) : (s.portM l f).dport = s.dport := rfl
@[simp] theorem State.portM_sec (s : State) (l : Fin 4) (f : LinkPort → LinkPort) : (s.portM l f).sec = s.sec := rfl
@[simp] theorem State.portM_consent (s : State) (l : Fin 4) (f : LinkPort → LinkPort) : (s.portM l f).consent = s.consent := rfl
@[simp] theorem State.portM_sentinel (s : State) (l : Fin 4) (f : LinkPort → LinkPort) : (s.portM l f).sentinel = s.sentinel := rfl
@[simp] theorem State.portM_pmu (s : State) (l : Fin 4) (f : LinkPort → LinkPort) : (s.portM l f).pmu = s.pmu := rfl
@[simp] theorem State.portM_gpio (s : State) (l : Fin 4) (f : LinkPort → LinkPort) : (s.portM l f).gpio = s.gpio := rfl
@[simp] theorem State.portM_gpioPort (s : State) (l : Fin 4) (f : LinkPort → LinkPort) : (s.portM l f).gpioPort = s.gpioPort := rfl
@[simp] theorem State.portM_rd (s : State) (l : Fin 4) (f : LinkPort → LinkPort) (x : Nat) : (s.portM l f).rd x = s.rd x := rfl
@[simp] theorem State.portM_rdN (s : State) (l : Fin 4) (f : LinkPort → LinkPort) (x : Nat) : (s.portM l f).rdN x = s.rdN x := rfl
@[simp] theorem State.portM_get (s : State) (l : Fin 4) (f : LinkPort → LinkPort) (x : Fld) : (s.portM l f).get x = s.get x := rfl

@[simp] theorem State.probeM_probe (s : State) (f : Probe → Probe) : (s.probeM f).probe = f s.probe := rfl
@[simp] theorem State.probeM_now (s : State) (f : Probe → Probe) : (s.probeM f).now = s.now := rfl
@[simp] theorem State.probeM_regs (s : State) (f : Probe → Probe) : (s.probeM f).regs = s.regs := rfl
@[simp] theorem State.probeM_hiLive (s : State) (f : Probe → Probe) : (s.probeM f).hiLive = s.hiLive := rfl
@[simp] theorem State.probeM_mem (s : State) (f : Probe → Probe) : (s.probeM f).mem = s.mem := rfl
@[simp] theorem State.probeM_free (s : State) (f : Probe → Probe) : (s.probeM f).free = s.free := rfl
@[simp] theorem State.probeM_rdata (s : State) (f : Probe → Probe) : (s.probeM f).rdata = s.rdata := rfl
@[simp] theorem State.probeM_stCycles (s : State) (f : Probe → Probe) : (s.probeM f).stCycles = s.stCycles := rfl
@[simp] theorem State.probeM_stCyclesAt (s : State) (f : Probe → Probe) : (s.probeM f).stCyclesAt = s.stCyclesAt := rfl
@[simp] theorem State.probeM_setAt (s : State) (f : Probe → Probe) : (s.probeM f).setAt = s.setAt := rfl
@[simp] theorem State.probeM_setFlags (s : State) (f : Probe → Probe) : (s.probeM f).setFlags = s.setFlags := rfl
@[simp] theorem State.probeM_flagSince (s : State) (f : Probe → Probe) : (s.probeM f).flagSince = s.flagSince := rfl
@[simp] theorem State.probeM_parked (s : State) (f : Probe → Probe) : (s.probeM f).parked = s.parked := rfl
@[simp] theorem State.probeM_landing (s : State) (f : Probe → Probe) : (s.probeM f).landing = s.landing := rfl
@[simp] theorem State.probeM_pending (s : State) (f : Probe → Probe) : (s.probeM f).pending = s.pending := rfl
@[simp] theorem State.probeM_tbl (s : State) (f : Probe → Probe) : (s.probeM f).tbl = s.tbl := rfl
@[simp] theorem State.probeM_pll (s : State) (f : Probe → Probe) : (s.probeM f).pll = s.pll := rfl
@[simp] theorem State.probeM_modin (s : State) (f : Probe → Probe) : (s.probeM f).modin = s.modin := rfl
@[simp] theorem State.probeM_samples (s : State) (f : Probe → Probe) : (s.probeM f).samples = s.samples := rfl
@[simp] theorem State.probeM_samplesOld (s : State) (f : Probe → Probe) : (s.probeM f).samplesOld = s.samplesOld := rfl
@[simp] theorem State.probeM_acu (s : State) (f : Probe → Probe) : (s.probeM f).acu = s.acu := rfl
@[simp] theorem State.probeM_mramc (s : State) (f : Probe → Probe) : (s.probeM f).mramc = s.mramc := rfl
@[simp] theorem State.probeM_pwm (s : State) (f : Probe → Probe) : (s.probeM f).pwm = s.pwm := rfl
@[simp] theorem State.probeM_drive (s : State) (f : Probe → Probe) : (s.probeM f).drive = s.drive := rfl
@[simp] theorem State.probeM_gp (s : State) (f : Probe → Probe) : (s.probeM f).gp = s.gp := rfl
@[simp] theorem State.probeM_prot (s : State) (f : Probe → Probe) : (s.probeM f).prot = s.prot := rfl
@[simp] theorem State.probeM_meter (s : State) (f : Probe → Probe) : (s.probeM f).meter = s.meter := rfl
@[simp] theorem State.probeM_dc (s : State) (f : Probe → Probe) : (s.probeM f).dc = s.dc := rfl
@[simp] theorem State.probeM_safe (s : State) (f : Probe → Probe) : (s.probeM f).safe = s.safe := rfl
@[simp] theorem State.probeM_dma (s : State) (f : Probe → Probe) : (s.probeM f).dma = s.dma := rfl
@[simp] theorem State.probeM_eth (s : State) (f : Probe → Probe) : (s.probeM f).eth = s.eth := rfl
@[simp] theorem State.probeM_mon (s : State) (f : Probe → Probe) : (s.probeM f).mon = s.mon := rfl
@[simp] theorem State.probeM_cpu (s : State) (f : Probe → Probe) : (s.probeM f).cpu = s.cpu := rfl
@[simp] theorem State.probeM_rk (s : State) (f : Probe → Probe) : (s.probeM f).rk = s.rk := rfl
@[simp] theorem State.probeM_st (s : State) (f : Probe → Probe) : (s.probeM f).st = s.st := rfl
@[simp] theorem State.probeM_wdg (s : State) (f : Probe → Probe) : (s.probeM f).wdg = s.wdg := rfl
@[simp] theorem State.probeM_xbar (s : State) (f : Probe → Probe) : (s.probeM f).xbar = s.xbar := rfl
@[simp] theorem State.probeM_host (s : State) (f : Probe → Probe) : (s.probeM f).host = s.host := rfl
@[simp] theorem State.probeM_dport (s : State) (f : Probe → Probe) : (s.probeM f).dport = s.dport := rfl
@[simp] theorem State.probeM_sec (s : State) (f : Probe → Probe) : (s.probeM f).sec = s.sec := rfl
@[simp] theorem State.probeM_consent (s : State) (f : Probe → Probe) : (s.probeM f).consent = s.consent := rfl
@[simp] theorem State.probeM_link (s : State) (f : Probe → Probe) : (s.probeM f).link = s.link := rfl
@[simp] theorem State.probeM_sentinel (s : State) (f : Probe → Probe) : (s.probeM f).sentinel = s.sentinel := rfl
@[simp] theorem State.probeM_pmu (s : State) (f : Probe → Probe) : (s.probeM f).pmu = s.pmu := rfl
@[simp] theorem State.probeM_gpio (s : State) (f : Probe → Probe) : (s.probeM f).gpio = s.gpio := rfl
@[simp] theorem State.probeM_gpioPort (s : State) (f : Probe → Probe) : (s.probeM f).gpioPort = s.gpioPort := rfl
@[simp] theorem State.probeM_rd (s : State) (f : Probe → Probe) (x : Nat) : (s.probeM f).rd x = s.rd x := rfl
@[simp] theorem State.probeM_rdN (s : State) (f : Probe → Probe) (x : Nat) : (s.probeM f).rdN x = s.rdN x := rfl
@[simp] theorem State.probeM_get (s : State) (f : Probe → Probe) (x : Fld) : (s.probeM f).get x = s.get x := rfl

@[simp] theorem State.protM_prot (s : State) (f : Prot → Prot) : (s.protM f).prot = f s.prot := rfl
@[simp] theorem State.protM_now (s : State) (f : Prot → Prot) : (s.protM f).now = s.now := rfl
@[simp] theorem State.protM_regs (s : State) (f : Prot → Prot) : (s.protM f).regs = s.regs := rfl
@[simp] theorem State.protM_hiLive (s : State) (f : Prot → Prot) : (s.protM f).hiLive = s.hiLive := rfl
@[simp] theorem State.protM_mem (s : State) (f : Prot → Prot) : (s.protM f).mem = s.mem := rfl
@[simp] theorem State.protM_free (s : State) (f : Prot → Prot) : (s.protM f).free = s.free := rfl
@[simp] theorem State.protM_rdata (s : State) (f : Prot → Prot) : (s.protM f).rdata = s.rdata := rfl
@[simp] theorem State.protM_stCycles (s : State) (f : Prot → Prot) : (s.protM f).stCycles = s.stCycles := rfl
@[simp] theorem State.protM_stCyclesAt (s : State) (f : Prot → Prot) : (s.protM f).stCyclesAt = s.stCyclesAt := rfl
@[simp] theorem State.protM_setAt (s : State) (f : Prot → Prot) : (s.protM f).setAt = s.setAt := rfl
@[simp] theorem State.protM_setFlags (s : State) (f : Prot → Prot) : (s.protM f).setFlags = s.setFlags := rfl
@[simp] theorem State.protM_flagSince (s : State) (f : Prot → Prot) : (s.protM f).flagSince = s.flagSince := rfl
@[simp] theorem State.protM_parked (s : State) (f : Prot → Prot) : (s.protM f).parked = s.parked := rfl
@[simp] theorem State.protM_landing (s : State) (f : Prot → Prot) : (s.protM f).landing = s.landing := rfl
@[simp] theorem State.protM_pending (s : State) (f : Prot → Prot) : (s.protM f).pending = s.pending := rfl
@[simp] theorem State.protM_tbl (s : State) (f : Prot → Prot) : (s.protM f).tbl = s.tbl := rfl
@[simp] theorem State.protM_pll (s : State) (f : Prot → Prot) : (s.protM f).pll = s.pll := rfl
@[simp] theorem State.protM_modin (s : State) (f : Prot → Prot) : (s.protM f).modin = s.modin := rfl
@[simp] theorem State.protM_samples (s : State) (f : Prot → Prot) : (s.protM f).samples = s.samples := rfl
@[simp] theorem State.protM_samplesOld (s : State) (f : Prot → Prot) : (s.protM f).samplesOld = s.samplesOld := rfl
@[simp] theorem State.protM_acu (s : State) (f : Prot → Prot) : (s.protM f).acu = s.acu := rfl
@[simp] theorem State.protM_mramc (s : State) (f : Prot → Prot) : (s.protM f).mramc = s.mramc := rfl
@[simp] theorem State.protM_pwm (s : State) (f : Prot → Prot) : (s.protM f).pwm = s.pwm := rfl
@[simp] theorem State.protM_drive (s : State) (f : Prot → Prot) : (s.protM f).drive = s.drive := rfl
@[simp] theorem State.protM_gp (s : State) (f : Prot → Prot) : (s.protM f).gp = s.gp := rfl
@[simp] theorem State.protM_probe (s : State) (f : Prot → Prot) : (s.protM f).probe = s.probe := rfl
@[simp] theorem State.protM_meter (s : State) (f : Prot → Prot) : (s.protM f).meter = s.meter := rfl
@[simp] theorem State.protM_dc (s : State) (f : Prot → Prot) : (s.protM f).dc = s.dc := rfl
@[simp] theorem State.protM_safe (s : State) (f : Prot → Prot) : (s.protM f).safe = s.safe := rfl
@[simp] theorem State.protM_dma (s : State) (f : Prot → Prot) : (s.protM f).dma = s.dma := rfl
@[simp] theorem State.protM_eth (s : State) (f : Prot → Prot) : (s.protM f).eth = s.eth := rfl
@[simp] theorem State.protM_mon (s : State) (f : Prot → Prot) : (s.protM f).mon = s.mon := rfl
@[simp] theorem State.protM_cpu (s : State) (f : Prot → Prot) : (s.protM f).cpu = s.cpu := rfl
@[simp] theorem State.protM_rk (s : State) (f : Prot → Prot) : (s.protM f).rk = s.rk := rfl
@[simp] theorem State.protM_st (s : State) (f : Prot → Prot) : (s.protM f).st = s.st := rfl
@[simp] theorem State.protM_wdg (s : State) (f : Prot → Prot) : (s.protM f).wdg = s.wdg := rfl
@[simp] theorem State.protM_xbar (s : State) (f : Prot → Prot) : (s.protM f).xbar = s.xbar := rfl
@[simp] theorem State.protM_host (s : State) (f : Prot → Prot) : (s.protM f).host = s.host := rfl
@[simp] theorem State.protM_dport (s : State) (f : Prot → Prot) : (s.protM f).dport = s.dport := rfl
@[simp] theorem State.protM_sec (s : State) (f : Prot → Prot) : (s.protM f).sec = s.sec := rfl
@[simp] theorem State.protM_consent (s : State) (f : Prot → Prot) : (s.protM f).consent = s.consent := rfl
@[simp] theorem State.protM_link (s : State) (f : Prot → Prot) : (s.protM f).link = s.link := rfl
@[simp] theorem State.protM_sentinel (s : State) (f : Prot → Prot) : (s.protM f).sentinel = s.sentinel := rfl
@[simp] theorem State.protM_pmu (s : State) (f : Prot → Prot) : (s.protM f).pmu = s.pmu := rfl
@[simp] theorem State.protM_gpio (s : State) (f : Prot → Prot) : (s.protM f).gpio = s.gpio := rfl
@[simp] theorem State.protM_gpioPort (s : State) (f : Prot → Prot) : (s.protM f).gpioPort = s.gpioPort := rfl
@[simp] theorem State.protM_rd (s : State) (f : Prot → Prot) (x : Nat) : (s.protM f).rd x = s.rd x := rfl
@[simp] theorem State.protM_rdN (s : State) (f : Prot → Prot) (x : Nat) : (s.protM f).rdN x = s.rdN x := rfl
@[simp] theorem State.protM_get (s : State) (f : Prot → Prot) (x : Fld) : (s.protM f).get x = s.get x := rfl

@[simp] theorem State.ptM_now (s : State) (p : Fin 4) (f : MeterPt → MeterPt) : (s.ptM p f).now = s.now := rfl
@[simp] theorem State.ptM_regs (s : State) (p : Fin 4) (f : MeterPt → MeterPt) : (s.ptM p f).regs = s.regs := rfl
@[simp] theorem State.ptM_hiLive (s : State) (p : Fin 4) (f : MeterPt → MeterPt) : (s.ptM p f).hiLive = s.hiLive := rfl
@[simp] theorem State.ptM_mem (s : State) (p : Fin 4) (f : MeterPt → MeterPt) : (s.ptM p f).mem = s.mem := rfl
@[simp] theorem State.ptM_free (s : State) (p : Fin 4) (f : MeterPt → MeterPt) : (s.ptM p f).free = s.free := rfl
@[simp] theorem State.ptM_rdata (s : State) (p : Fin 4) (f : MeterPt → MeterPt) : (s.ptM p f).rdata = s.rdata := rfl
@[simp] theorem State.ptM_stCycles (s : State) (p : Fin 4) (f : MeterPt → MeterPt) : (s.ptM p f).stCycles = s.stCycles := rfl
@[simp] theorem State.ptM_stCyclesAt (s : State) (p : Fin 4) (f : MeterPt → MeterPt) : (s.ptM p f).stCyclesAt = s.stCyclesAt := rfl
@[simp] theorem State.ptM_setAt (s : State) (p : Fin 4) (f : MeterPt → MeterPt) : (s.ptM p f).setAt = s.setAt := rfl
@[simp] theorem State.ptM_setFlags (s : State) (p : Fin 4) (f : MeterPt → MeterPt) : (s.ptM p f).setFlags = s.setFlags := rfl
@[simp] theorem State.ptM_flagSince (s : State) (p : Fin 4) (f : MeterPt → MeterPt) : (s.ptM p f).flagSince = s.flagSince := rfl
@[simp] theorem State.ptM_parked (s : State) (p : Fin 4) (f : MeterPt → MeterPt) : (s.ptM p f).parked = s.parked := rfl
@[simp] theorem State.ptM_landing (s : State) (p : Fin 4) (f : MeterPt → MeterPt) : (s.ptM p f).landing = s.landing := rfl
@[simp] theorem State.ptM_pending (s : State) (p : Fin 4) (f : MeterPt → MeterPt) : (s.ptM p f).pending = s.pending := rfl
@[simp] theorem State.ptM_tbl (s : State) (p : Fin 4) (f : MeterPt → MeterPt) : (s.ptM p f).tbl = s.tbl := rfl
@[simp] theorem State.ptM_pll (s : State) (p : Fin 4) (f : MeterPt → MeterPt) : (s.ptM p f).pll = s.pll := rfl
@[simp] theorem State.ptM_modin (s : State) (p : Fin 4) (f : MeterPt → MeterPt) : (s.ptM p f).modin = s.modin := rfl
@[simp] theorem State.ptM_samples (s : State) (p : Fin 4) (f : MeterPt → MeterPt) : (s.ptM p f).samples = s.samples := rfl
@[simp] theorem State.ptM_samplesOld (s : State) (p : Fin 4) (f : MeterPt → MeterPt) : (s.ptM p f).samplesOld = s.samplesOld := rfl
@[simp] theorem State.ptM_acu (s : State) (p : Fin 4) (f : MeterPt → MeterPt) : (s.ptM p f).acu = s.acu := rfl
@[simp] theorem State.ptM_mramc (s : State) (p : Fin 4) (f : MeterPt → MeterPt) : (s.ptM p f).mramc = s.mramc := rfl
@[simp] theorem State.ptM_pwm (s : State) (p : Fin 4) (f : MeterPt → MeterPt) : (s.ptM p f).pwm = s.pwm := rfl
@[simp] theorem State.ptM_drive (s : State) (p : Fin 4) (f : MeterPt → MeterPt) : (s.ptM p f).drive = s.drive := rfl
@[simp] theorem State.ptM_gp (s : State) (p : Fin 4) (f : MeterPt → MeterPt) : (s.ptM p f).gp = s.gp := rfl
@[simp] theorem State.ptM_prot (s : State) (p : Fin 4) (f : MeterPt → MeterPt) : (s.ptM p f).prot = s.prot := rfl
@[simp] theorem State.ptM_probe (s : State) (p : Fin 4) (f : MeterPt → MeterPt) : (s.ptM p f).probe = s.probe := rfl
@[simp] theorem State.ptM_dc (s : State) (p : Fin 4) (f : MeterPt → MeterPt) : (s.ptM p f).dc = s.dc := rfl
@[simp] theorem State.ptM_safe (s : State) (p : Fin 4) (f : MeterPt → MeterPt) : (s.ptM p f).safe = s.safe := rfl
@[simp] theorem State.ptM_dma (s : State) (p : Fin 4) (f : MeterPt → MeterPt) : (s.ptM p f).dma = s.dma := rfl
@[simp] theorem State.ptM_eth (s : State) (p : Fin 4) (f : MeterPt → MeterPt) : (s.ptM p f).eth = s.eth := rfl
@[simp] theorem State.ptM_mon (s : State) (p : Fin 4) (f : MeterPt → MeterPt) : (s.ptM p f).mon = s.mon := rfl
@[simp] theorem State.ptM_cpu (s : State) (p : Fin 4) (f : MeterPt → MeterPt) : (s.ptM p f).cpu = s.cpu := rfl
@[simp] theorem State.ptM_rk (s : State) (p : Fin 4) (f : MeterPt → MeterPt) : (s.ptM p f).rk = s.rk := rfl
@[simp] theorem State.ptM_st (s : State) (p : Fin 4) (f : MeterPt → MeterPt) : (s.ptM p f).st = s.st := rfl
@[simp] theorem State.ptM_wdg (s : State) (p : Fin 4) (f : MeterPt → MeterPt) : (s.ptM p f).wdg = s.wdg := rfl
@[simp] theorem State.ptM_xbar (s : State) (p : Fin 4) (f : MeterPt → MeterPt) : (s.ptM p f).xbar = s.xbar := rfl
@[simp] theorem State.ptM_host (s : State) (p : Fin 4) (f : MeterPt → MeterPt) : (s.ptM p f).host = s.host := rfl
@[simp] theorem State.ptM_dport (s : State) (p : Fin 4) (f : MeterPt → MeterPt) : (s.ptM p f).dport = s.dport := rfl
@[simp] theorem State.ptM_sec (s : State) (p : Fin 4) (f : MeterPt → MeterPt) : (s.ptM p f).sec = s.sec := rfl
@[simp] theorem State.ptM_consent (s : State) (p : Fin 4) (f : MeterPt → MeterPt) : (s.ptM p f).consent = s.consent := rfl
@[simp] theorem State.ptM_link (s : State) (p : Fin 4) (f : MeterPt → MeterPt) : (s.ptM p f).link = s.link := rfl
@[simp] theorem State.ptM_sentinel (s : State) (p : Fin 4) (f : MeterPt → MeterPt) : (s.ptM p f).sentinel = s.sentinel := rfl
@[simp] theorem State.ptM_pmu (s : State) (p : Fin 4) (f : MeterPt → MeterPt) : (s.ptM p f).pmu = s.pmu := rfl
@[simp] theorem State.ptM_gpio (s : State) (p : Fin 4) (f : MeterPt → MeterPt) : (s.ptM p f).gpio = s.gpio := rfl
@[simp] theorem State.ptM_gpioPort (s : State) (p : Fin 4) (f : MeterPt → MeterPt) : (s.ptM p f).gpioPort = s.gpioPort := rfl
@[simp] theorem State.ptM_rd (s : State) (p : Fin 4) (f : MeterPt → MeterPt) (x : Nat) : (s.ptM p f).rd x = s.rd x := rfl
@[simp] theorem State.ptM_rdN (s : State) (p : Fin 4) (f : MeterPt → MeterPt) (x : Nat) : (s.ptM p f).rdN x = s.rdN x := rfl
@[simp] theorem State.ptM_get (s : State) (p : Fin 4) (f : MeterPt → MeterPt) (x : Fld) : (s.ptM p f).get x = s.get x := rfl

@[simp] theorem State.pwmM_pwm (s : State) (f : Pwm → Pwm) : (s.pwmM f).pwm = f s.pwm := rfl
@[simp] theorem State.pwmM_now (s : State) (f : Pwm → Pwm) : (s.pwmM f).now = s.now := rfl
@[simp] theorem State.pwmM_regs (s : State) (f : Pwm → Pwm) : (s.pwmM f).regs = s.regs := rfl
@[simp] theorem State.pwmM_hiLive (s : State) (f : Pwm → Pwm) : (s.pwmM f).hiLive = s.hiLive := rfl
@[simp] theorem State.pwmM_mem (s : State) (f : Pwm → Pwm) : (s.pwmM f).mem = s.mem := rfl
@[simp] theorem State.pwmM_free (s : State) (f : Pwm → Pwm) : (s.pwmM f).free = s.free := rfl
@[simp] theorem State.pwmM_rdata (s : State) (f : Pwm → Pwm) : (s.pwmM f).rdata = s.rdata := rfl
@[simp] theorem State.pwmM_stCycles (s : State) (f : Pwm → Pwm) : (s.pwmM f).stCycles = s.stCycles := rfl
@[simp] theorem State.pwmM_stCyclesAt (s : State) (f : Pwm → Pwm) : (s.pwmM f).stCyclesAt = s.stCyclesAt := rfl
@[simp] theorem State.pwmM_setAt (s : State) (f : Pwm → Pwm) : (s.pwmM f).setAt = s.setAt := rfl
@[simp] theorem State.pwmM_setFlags (s : State) (f : Pwm → Pwm) : (s.pwmM f).setFlags = s.setFlags := rfl
@[simp] theorem State.pwmM_flagSince (s : State) (f : Pwm → Pwm) : (s.pwmM f).flagSince = s.flagSince := rfl
@[simp] theorem State.pwmM_parked (s : State) (f : Pwm → Pwm) : (s.pwmM f).parked = s.parked := rfl
@[simp] theorem State.pwmM_landing (s : State) (f : Pwm → Pwm) : (s.pwmM f).landing = s.landing := rfl
@[simp] theorem State.pwmM_pending (s : State) (f : Pwm → Pwm) : (s.pwmM f).pending = s.pending := rfl
@[simp] theorem State.pwmM_tbl (s : State) (f : Pwm → Pwm) : (s.pwmM f).tbl = s.tbl := rfl
@[simp] theorem State.pwmM_pll (s : State) (f : Pwm → Pwm) : (s.pwmM f).pll = s.pll := rfl
@[simp] theorem State.pwmM_modin (s : State) (f : Pwm → Pwm) : (s.pwmM f).modin = s.modin := rfl
@[simp] theorem State.pwmM_samples (s : State) (f : Pwm → Pwm) : (s.pwmM f).samples = s.samples := rfl
@[simp] theorem State.pwmM_samplesOld (s : State) (f : Pwm → Pwm) : (s.pwmM f).samplesOld = s.samplesOld := rfl
@[simp] theorem State.pwmM_acu (s : State) (f : Pwm → Pwm) : (s.pwmM f).acu = s.acu := rfl
@[simp] theorem State.pwmM_mramc (s : State) (f : Pwm → Pwm) : (s.pwmM f).mramc = s.mramc := rfl
@[simp] theorem State.pwmM_drive (s : State) (f : Pwm → Pwm) : (s.pwmM f).drive = s.drive := rfl
@[simp] theorem State.pwmM_gp (s : State) (f : Pwm → Pwm) : (s.pwmM f).gp = s.gp := rfl
@[simp] theorem State.pwmM_prot (s : State) (f : Pwm → Pwm) : (s.pwmM f).prot = s.prot := rfl
@[simp] theorem State.pwmM_probe (s : State) (f : Pwm → Pwm) : (s.pwmM f).probe = s.probe := rfl
@[simp] theorem State.pwmM_meter (s : State) (f : Pwm → Pwm) : (s.pwmM f).meter = s.meter := rfl
@[simp] theorem State.pwmM_dc (s : State) (f : Pwm → Pwm) : (s.pwmM f).dc = s.dc := rfl
@[simp] theorem State.pwmM_safe (s : State) (f : Pwm → Pwm) : (s.pwmM f).safe = s.safe := rfl
@[simp] theorem State.pwmM_dma (s : State) (f : Pwm → Pwm) : (s.pwmM f).dma = s.dma := rfl
@[simp] theorem State.pwmM_eth (s : State) (f : Pwm → Pwm) : (s.pwmM f).eth = s.eth := rfl
@[simp] theorem State.pwmM_mon (s : State) (f : Pwm → Pwm) : (s.pwmM f).mon = s.mon := rfl
@[simp] theorem State.pwmM_cpu (s : State) (f : Pwm → Pwm) : (s.pwmM f).cpu = s.cpu := rfl
@[simp] theorem State.pwmM_rk (s : State) (f : Pwm → Pwm) : (s.pwmM f).rk = s.rk := rfl
@[simp] theorem State.pwmM_st (s : State) (f : Pwm → Pwm) : (s.pwmM f).st = s.st := rfl
@[simp] theorem State.pwmM_wdg (s : State) (f : Pwm → Pwm) : (s.pwmM f).wdg = s.wdg := rfl
@[simp] theorem State.pwmM_xbar (s : State) (f : Pwm → Pwm) : (s.pwmM f).xbar = s.xbar := rfl
@[simp] theorem State.pwmM_host (s : State) (f : Pwm → Pwm) : (s.pwmM f).host = s.host := rfl
@[simp] theorem State.pwmM_dport (s : State) (f : Pwm → Pwm) : (s.pwmM f).dport = s.dport := rfl
@[simp] theorem State.pwmM_sec (s : State) (f : Pwm → Pwm) : (s.pwmM f).sec = s.sec := rfl
@[simp] theorem State.pwmM_consent (s : State) (f : Pwm → Pwm) : (s.pwmM f).consent = s.consent := rfl
@[simp] theorem State.pwmM_link (s : State) (f : Pwm → Pwm) : (s.pwmM f).link = s.link := rfl
@[simp] theorem State.pwmM_sentinel (s : State) (f : Pwm → Pwm) : (s.pwmM f).sentinel = s.sentinel := rfl
@[simp] theorem State.pwmM_pmu (s : State) (f : Pwm → Pwm) : (s.pwmM f).pmu = s.pmu := rfl
@[simp] theorem State.pwmM_gpio (s : State) (f : Pwm → Pwm) : (s.pwmM f).gpio = s.gpio := rfl
@[simp] theorem State.pwmM_gpioPort (s : State) (f : Pwm → Pwm) : (s.pwmM f).gpioPort = s.gpioPort := rfl
@[simp] theorem State.pwmM_rd (s : State) (f : Pwm → Pwm) (x : Nat) : (s.pwmM f).rd x = s.rd x := rfl
@[simp] theorem State.pwmM_rdN (s : State) (f : Pwm → Pwm) (x : Nat) : (s.pwmM f).rdN x = s.rdN x := rfl
@[simp] theorem State.pwmM_get (s : State) (f : Pwm → Pwm) (x : Fld) : (s.pwmM f).get x = s.get x := rfl

@[simp] theorem State.rkM_rk (s : State) (n : Fin 4) (f : Rk → Rk) : (s.rkM n f).rk = s.rk.upd n f := rfl
@[simp] theorem State.rkM_now (s : State) (n : Fin 4) (f : Rk → Rk) : (s.rkM n f).now = s.now := rfl
@[simp] theorem State.rkM_regs (s : State) (n : Fin 4) (f : Rk → Rk) : (s.rkM n f).regs = s.regs := rfl
@[simp] theorem State.rkM_hiLive (s : State) (n : Fin 4) (f : Rk → Rk) : (s.rkM n f).hiLive = s.hiLive := rfl
@[simp] theorem State.rkM_mem (s : State) (n : Fin 4) (f : Rk → Rk) : (s.rkM n f).mem = s.mem := rfl
@[simp] theorem State.rkM_free (s : State) (n : Fin 4) (f : Rk → Rk) : (s.rkM n f).free = s.free := rfl
@[simp] theorem State.rkM_rdata (s : State) (n : Fin 4) (f : Rk → Rk) : (s.rkM n f).rdata = s.rdata := rfl
@[simp] theorem State.rkM_stCycles (s : State) (n : Fin 4) (f : Rk → Rk) : (s.rkM n f).stCycles = s.stCycles := rfl
@[simp] theorem State.rkM_stCyclesAt (s : State) (n : Fin 4) (f : Rk → Rk) : (s.rkM n f).stCyclesAt = s.stCyclesAt := rfl
@[simp] theorem State.rkM_setAt (s : State) (n : Fin 4) (f : Rk → Rk) : (s.rkM n f).setAt = s.setAt := rfl
@[simp] theorem State.rkM_setFlags (s : State) (n : Fin 4) (f : Rk → Rk) : (s.rkM n f).setFlags = s.setFlags := rfl
@[simp] theorem State.rkM_flagSince (s : State) (n : Fin 4) (f : Rk → Rk) : (s.rkM n f).flagSince = s.flagSince := rfl
@[simp] theorem State.rkM_parked (s : State) (n : Fin 4) (f : Rk → Rk) : (s.rkM n f).parked = s.parked := rfl
@[simp] theorem State.rkM_landing (s : State) (n : Fin 4) (f : Rk → Rk) : (s.rkM n f).landing = s.landing := rfl
@[simp] theorem State.rkM_pending (s : State) (n : Fin 4) (f : Rk → Rk) : (s.rkM n f).pending = s.pending := rfl
@[simp] theorem State.rkM_tbl (s : State) (n : Fin 4) (f : Rk → Rk) : (s.rkM n f).tbl = s.tbl := rfl
@[simp] theorem State.rkM_pll (s : State) (n : Fin 4) (f : Rk → Rk) : (s.rkM n f).pll = s.pll := rfl
@[simp] theorem State.rkM_modin (s : State) (n : Fin 4) (f : Rk → Rk) : (s.rkM n f).modin = s.modin := rfl
@[simp] theorem State.rkM_samples (s : State) (n : Fin 4) (f : Rk → Rk) : (s.rkM n f).samples = s.samples := rfl
@[simp] theorem State.rkM_samplesOld (s : State) (n : Fin 4) (f : Rk → Rk) : (s.rkM n f).samplesOld = s.samplesOld := rfl
@[simp] theorem State.rkM_acu (s : State) (n : Fin 4) (f : Rk → Rk) : (s.rkM n f).acu = s.acu := rfl
@[simp] theorem State.rkM_mramc (s : State) (n : Fin 4) (f : Rk → Rk) : (s.rkM n f).mramc = s.mramc := rfl
@[simp] theorem State.rkM_pwm (s : State) (n : Fin 4) (f : Rk → Rk) : (s.rkM n f).pwm = s.pwm := rfl
@[simp] theorem State.rkM_drive (s : State) (n : Fin 4) (f : Rk → Rk) : (s.rkM n f).drive = s.drive := rfl
@[simp] theorem State.rkM_gp (s : State) (n : Fin 4) (f : Rk → Rk) : (s.rkM n f).gp = s.gp := rfl
@[simp] theorem State.rkM_prot (s : State) (n : Fin 4) (f : Rk → Rk) : (s.rkM n f).prot = s.prot := rfl
@[simp] theorem State.rkM_probe (s : State) (n : Fin 4) (f : Rk → Rk) : (s.rkM n f).probe = s.probe := rfl
@[simp] theorem State.rkM_meter (s : State) (n : Fin 4) (f : Rk → Rk) : (s.rkM n f).meter = s.meter := rfl
@[simp] theorem State.rkM_dc (s : State) (n : Fin 4) (f : Rk → Rk) : (s.rkM n f).dc = s.dc := rfl
@[simp] theorem State.rkM_safe (s : State) (n : Fin 4) (f : Rk → Rk) : (s.rkM n f).safe = s.safe := rfl
@[simp] theorem State.rkM_dma (s : State) (n : Fin 4) (f : Rk → Rk) : (s.rkM n f).dma = s.dma := rfl
@[simp] theorem State.rkM_eth (s : State) (n : Fin 4) (f : Rk → Rk) : (s.rkM n f).eth = s.eth := rfl
@[simp] theorem State.rkM_mon (s : State) (n : Fin 4) (f : Rk → Rk) : (s.rkM n f).mon = s.mon := rfl
@[simp] theorem State.rkM_cpu (s : State) (n : Fin 4) (f : Rk → Rk) : (s.rkM n f).cpu = s.cpu := rfl
@[simp] theorem State.rkM_st (s : State) (n : Fin 4) (f : Rk → Rk) : (s.rkM n f).st = s.st := rfl
@[simp] theorem State.rkM_wdg (s : State) (n : Fin 4) (f : Rk → Rk) : (s.rkM n f).wdg = s.wdg := rfl
@[simp] theorem State.rkM_xbar (s : State) (n : Fin 4) (f : Rk → Rk) : (s.rkM n f).xbar = s.xbar := rfl
@[simp] theorem State.rkM_host (s : State) (n : Fin 4) (f : Rk → Rk) : (s.rkM n f).host = s.host := rfl
@[simp] theorem State.rkM_dport (s : State) (n : Fin 4) (f : Rk → Rk) : (s.rkM n f).dport = s.dport := rfl
@[simp] theorem State.rkM_sec (s : State) (n : Fin 4) (f : Rk → Rk) : (s.rkM n f).sec = s.sec := rfl
@[simp] theorem State.rkM_consent (s : State) (n : Fin 4) (f : Rk → Rk) : (s.rkM n f).consent = s.consent := rfl
@[simp] theorem State.rkM_link (s : State) (n : Fin 4) (f : Rk → Rk) : (s.rkM n f).link = s.link := rfl
@[simp] theorem State.rkM_sentinel (s : State) (n : Fin 4) (f : Rk → Rk) : (s.rkM n f).sentinel = s.sentinel := rfl
@[simp] theorem State.rkM_pmu (s : State) (n : Fin 4) (f : Rk → Rk) : (s.rkM n f).pmu = s.pmu := rfl
@[simp] theorem State.rkM_gpio (s : State) (n : Fin 4) (f : Rk → Rk) : (s.rkM n f).gpio = s.gpio := rfl
@[simp] theorem State.rkM_gpioPort (s : State) (n : Fin 4) (f : Rk → Rk) : (s.rkM n f).gpioPort = s.gpioPort := rfl
@[simp] theorem State.rkM_rd (s : State) (n : Fin 4) (f : Rk → Rk) (x : Nat) : (s.rkM n f).rd x = s.rd x := rfl
@[simp] theorem State.rkM_rdN (s : State) (n : Fin 4) (f : Rk → Rk) (x : Nat) : (s.rkM n f).rdN x = s.rdN x := rfl
@[simp] theorem State.rkM_get (s : State) (n : Fin 4) (f : Rk → Rk) (x : Fld) : (s.rkM n f).get x = s.get x := rfl

@[simp] theorem State.safeM_safe (s : State) (f : SafeUnit → SafeUnit) : (s.safeM f).safe = f s.safe := rfl
@[simp] theorem State.safeM_now (s : State) (f : SafeUnit → SafeUnit) : (s.safeM f).now = s.now := rfl
@[simp] theorem State.safeM_regs (s : State) (f : SafeUnit → SafeUnit) : (s.safeM f).regs = s.regs := rfl
@[simp] theorem State.safeM_hiLive (s : State) (f : SafeUnit → SafeUnit) : (s.safeM f).hiLive = s.hiLive := rfl
@[simp] theorem State.safeM_mem (s : State) (f : SafeUnit → SafeUnit) : (s.safeM f).mem = s.mem := rfl
@[simp] theorem State.safeM_free (s : State) (f : SafeUnit → SafeUnit) : (s.safeM f).free = s.free := rfl
@[simp] theorem State.safeM_rdata (s : State) (f : SafeUnit → SafeUnit) : (s.safeM f).rdata = s.rdata := rfl
@[simp] theorem State.safeM_stCycles (s : State) (f : SafeUnit → SafeUnit) : (s.safeM f).stCycles = s.stCycles := rfl
@[simp] theorem State.safeM_stCyclesAt (s : State) (f : SafeUnit → SafeUnit) : (s.safeM f).stCyclesAt = s.stCyclesAt := rfl
@[simp] theorem State.safeM_setAt (s : State) (f : SafeUnit → SafeUnit) : (s.safeM f).setAt = s.setAt := rfl
@[simp] theorem State.safeM_setFlags (s : State) (f : SafeUnit → SafeUnit) : (s.safeM f).setFlags = s.setFlags := rfl
@[simp] theorem State.safeM_flagSince (s : State) (f : SafeUnit → SafeUnit) : (s.safeM f).flagSince = s.flagSince := rfl
@[simp] theorem State.safeM_parked (s : State) (f : SafeUnit → SafeUnit) : (s.safeM f).parked = s.parked := rfl
@[simp] theorem State.safeM_landing (s : State) (f : SafeUnit → SafeUnit) : (s.safeM f).landing = s.landing := rfl
@[simp] theorem State.safeM_pending (s : State) (f : SafeUnit → SafeUnit) : (s.safeM f).pending = s.pending := rfl
@[simp] theorem State.safeM_tbl (s : State) (f : SafeUnit → SafeUnit) : (s.safeM f).tbl = s.tbl := rfl
@[simp] theorem State.safeM_pll (s : State) (f : SafeUnit → SafeUnit) : (s.safeM f).pll = s.pll := rfl
@[simp] theorem State.safeM_modin (s : State) (f : SafeUnit → SafeUnit) : (s.safeM f).modin = s.modin := rfl
@[simp] theorem State.safeM_samples (s : State) (f : SafeUnit → SafeUnit) : (s.safeM f).samples = s.samples := rfl
@[simp] theorem State.safeM_samplesOld (s : State) (f : SafeUnit → SafeUnit) : (s.safeM f).samplesOld = s.samplesOld := rfl
@[simp] theorem State.safeM_acu (s : State) (f : SafeUnit → SafeUnit) : (s.safeM f).acu = s.acu := rfl
@[simp] theorem State.safeM_mramc (s : State) (f : SafeUnit → SafeUnit) : (s.safeM f).mramc = s.mramc := rfl
@[simp] theorem State.safeM_pwm (s : State) (f : SafeUnit → SafeUnit) : (s.safeM f).pwm = s.pwm := rfl
@[simp] theorem State.safeM_drive (s : State) (f : SafeUnit → SafeUnit) : (s.safeM f).drive = s.drive := rfl
@[simp] theorem State.safeM_gp (s : State) (f : SafeUnit → SafeUnit) : (s.safeM f).gp = s.gp := rfl
@[simp] theorem State.safeM_prot (s : State) (f : SafeUnit → SafeUnit) : (s.safeM f).prot = s.prot := rfl
@[simp] theorem State.safeM_probe (s : State) (f : SafeUnit → SafeUnit) : (s.safeM f).probe = s.probe := rfl
@[simp] theorem State.safeM_meter (s : State) (f : SafeUnit → SafeUnit) : (s.safeM f).meter = s.meter := rfl
@[simp] theorem State.safeM_dc (s : State) (f : SafeUnit → SafeUnit) : (s.safeM f).dc = s.dc := rfl
@[simp] theorem State.safeM_dma (s : State) (f : SafeUnit → SafeUnit) : (s.safeM f).dma = s.dma := rfl
@[simp] theorem State.safeM_eth (s : State) (f : SafeUnit → SafeUnit) : (s.safeM f).eth = s.eth := rfl
@[simp] theorem State.safeM_mon (s : State) (f : SafeUnit → SafeUnit) : (s.safeM f).mon = s.mon := rfl
@[simp] theorem State.safeM_cpu (s : State) (f : SafeUnit → SafeUnit) : (s.safeM f).cpu = s.cpu := rfl
@[simp] theorem State.safeM_rk (s : State) (f : SafeUnit → SafeUnit) : (s.safeM f).rk = s.rk := rfl
@[simp] theorem State.safeM_st (s : State) (f : SafeUnit → SafeUnit) : (s.safeM f).st = s.st := rfl
@[simp] theorem State.safeM_wdg (s : State) (f : SafeUnit → SafeUnit) : (s.safeM f).wdg = s.wdg := rfl
@[simp] theorem State.safeM_xbar (s : State) (f : SafeUnit → SafeUnit) : (s.safeM f).xbar = s.xbar := rfl
@[simp] theorem State.safeM_host (s : State) (f : SafeUnit → SafeUnit) : (s.safeM f).host = s.host := rfl
@[simp] theorem State.safeM_dport (s : State) (f : SafeUnit → SafeUnit) : (s.safeM f).dport = s.dport := rfl
@[simp] theorem State.safeM_sec (s : State) (f : SafeUnit → SafeUnit) : (s.safeM f).sec = s.sec := rfl
@[simp] theorem State.safeM_consent (s : State) (f : SafeUnit → SafeUnit) : (s.safeM f).consent = s.consent := rfl
@[simp] theorem State.safeM_link (s : State) (f : SafeUnit → SafeUnit) : (s.safeM f).link = s.link := rfl
@[simp] theorem State.safeM_sentinel (s : State) (f : SafeUnit → SafeUnit) : (s.safeM f).sentinel = s.sentinel := rfl
@[simp] theorem State.safeM_pmu (s : State) (f : SafeUnit → SafeUnit) : (s.safeM f).pmu = s.pmu := rfl
@[simp] theorem State.safeM_gpio (s : State) (f : SafeUnit → SafeUnit) : (s.safeM f).gpio = s.gpio := rfl
@[simp] theorem State.safeM_gpioPort (s : State) (f : SafeUnit → SafeUnit) : (s.safeM f).gpioPort = s.gpioPort := rfl
@[simp] theorem State.safeM_rd (s : State) (f : SafeUnit → SafeUnit) (x : Nat) : (s.safeM f).rd x = s.rd x := rfl
@[simp] theorem State.safeM_rdN (s : State) (f : SafeUnit → SafeUnit) (x : Nat) : (s.safeM f).rdN x = s.rdN x := rfl
@[simp] theorem State.safeM_get (s : State) (f : SafeUnit → SafeUnit) (x : Fld) : (s.safeM f).get x = s.get x := rfl

@[simp] theorem State.secM_sec (s : State) (f : Sec → Sec) : (s.secM f).sec = f s.sec := rfl
@[simp] theorem State.secM_now (s : State) (f : Sec → Sec) : (s.secM f).now = s.now := rfl
@[simp] theorem State.secM_regs (s : State) (f : Sec → Sec) : (s.secM f).regs = s.regs := rfl
@[simp] theorem State.secM_hiLive (s : State) (f : Sec → Sec) : (s.secM f).hiLive = s.hiLive := rfl
@[simp] theorem State.secM_mem (s : State) (f : Sec → Sec) : (s.secM f).mem = s.mem := rfl
@[simp] theorem State.secM_free (s : State) (f : Sec → Sec) : (s.secM f).free = s.free := rfl
@[simp] theorem State.secM_rdata (s : State) (f : Sec → Sec) : (s.secM f).rdata = s.rdata := rfl
@[simp] theorem State.secM_stCycles (s : State) (f : Sec → Sec) : (s.secM f).stCycles = s.stCycles := rfl
@[simp] theorem State.secM_stCyclesAt (s : State) (f : Sec → Sec) : (s.secM f).stCyclesAt = s.stCyclesAt := rfl
@[simp] theorem State.secM_setAt (s : State) (f : Sec → Sec) : (s.secM f).setAt = s.setAt := rfl
@[simp] theorem State.secM_setFlags (s : State) (f : Sec → Sec) : (s.secM f).setFlags = s.setFlags := rfl
@[simp] theorem State.secM_flagSince (s : State) (f : Sec → Sec) : (s.secM f).flagSince = s.flagSince := rfl
@[simp] theorem State.secM_parked (s : State) (f : Sec → Sec) : (s.secM f).parked = s.parked := rfl
@[simp] theorem State.secM_landing (s : State) (f : Sec → Sec) : (s.secM f).landing = s.landing := rfl
@[simp] theorem State.secM_pending (s : State) (f : Sec → Sec) : (s.secM f).pending = s.pending := rfl
@[simp] theorem State.secM_tbl (s : State) (f : Sec → Sec) : (s.secM f).tbl = s.tbl := rfl
@[simp] theorem State.secM_pll (s : State) (f : Sec → Sec) : (s.secM f).pll = s.pll := rfl
@[simp] theorem State.secM_modin (s : State) (f : Sec → Sec) : (s.secM f).modin = s.modin := rfl
@[simp] theorem State.secM_samples (s : State) (f : Sec → Sec) : (s.secM f).samples = s.samples := rfl
@[simp] theorem State.secM_samplesOld (s : State) (f : Sec → Sec) : (s.secM f).samplesOld = s.samplesOld := rfl
@[simp] theorem State.secM_acu (s : State) (f : Sec → Sec) : (s.secM f).acu = s.acu := rfl
@[simp] theorem State.secM_mramc (s : State) (f : Sec → Sec) : (s.secM f).mramc = s.mramc := rfl
@[simp] theorem State.secM_pwm (s : State) (f : Sec → Sec) : (s.secM f).pwm = s.pwm := rfl
@[simp] theorem State.secM_drive (s : State) (f : Sec → Sec) : (s.secM f).drive = s.drive := rfl
@[simp] theorem State.secM_gp (s : State) (f : Sec → Sec) : (s.secM f).gp = s.gp := rfl
@[simp] theorem State.secM_prot (s : State) (f : Sec → Sec) : (s.secM f).prot = s.prot := rfl
@[simp] theorem State.secM_probe (s : State) (f : Sec → Sec) : (s.secM f).probe = s.probe := rfl
@[simp] theorem State.secM_meter (s : State) (f : Sec → Sec) : (s.secM f).meter = s.meter := rfl
@[simp] theorem State.secM_dc (s : State) (f : Sec → Sec) : (s.secM f).dc = s.dc := rfl
@[simp] theorem State.secM_safe (s : State) (f : Sec → Sec) : (s.secM f).safe = s.safe := rfl
@[simp] theorem State.secM_dma (s : State) (f : Sec → Sec) : (s.secM f).dma = s.dma := rfl
@[simp] theorem State.secM_eth (s : State) (f : Sec → Sec) : (s.secM f).eth = s.eth := rfl
@[simp] theorem State.secM_mon (s : State) (f : Sec → Sec) : (s.secM f).mon = s.mon := rfl
@[simp] theorem State.secM_cpu (s : State) (f : Sec → Sec) : (s.secM f).cpu = s.cpu := rfl
@[simp] theorem State.secM_rk (s : State) (f : Sec → Sec) : (s.secM f).rk = s.rk := rfl
@[simp] theorem State.secM_st (s : State) (f : Sec → Sec) : (s.secM f).st = s.st := rfl
@[simp] theorem State.secM_wdg (s : State) (f : Sec → Sec) : (s.secM f).wdg = s.wdg := rfl
@[simp] theorem State.secM_xbar (s : State) (f : Sec → Sec) : (s.secM f).xbar = s.xbar := rfl
@[simp] theorem State.secM_host (s : State) (f : Sec → Sec) : (s.secM f).host = s.host := rfl
@[simp] theorem State.secM_dport (s : State) (f : Sec → Sec) : (s.secM f).dport = s.dport := rfl
@[simp] theorem State.secM_consent (s : State) (f : Sec → Sec) : (s.secM f).consent = s.consent := rfl
@[simp] theorem State.secM_link (s : State) (f : Sec → Sec) : (s.secM f).link = s.link := rfl
@[simp] theorem State.secM_sentinel (s : State) (f : Sec → Sec) : (s.secM f).sentinel = s.sentinel := rfl
@[simp] theorem State.secM_pmu (s : State) (f : Sec → Sec) : (s.secM f).pmu = s.pmu := rfl
@[simp] theorem State.secM_gpio (s : State) (f : Sec → Sec) : (s.secM f).gpio = s.gpio := rfl
@[simp] theorem State.secM_gpioPort (s : State) (f : Sec → Sec) : (s.secM f).gpioPort = s.gpioPort := rfl
@[simp] theorem State.secM_rd (s : State) (f : Sec → Sec) (x : Nat) : (s.secM f).rd x = s.rd x := rfl
@[simp] theorem State.secM_rdN (s : State) (f : Sec → Sec) (x : Nat) : (s.secM f).rdN x = s.rdN x := rfl
@[simp] theorem State.secM_get (s : State) (f : Sec → Sec) (x : Fld) : (s.secM f).get x = s.get x := rfl

@[simp] theorem State.sentM_sentinel (s : State) (f : Sentinel → Sentinel) : (s.sentM f).sentinel = f s.sentinel := rfl
@[simp] theorem State.sentM_now (s : State) (f : Sentinel → Sentinel) : (s.sentM f).now = s.now := rfl
@[simp] theorem State.sentM_regs (s : State) (f : Sentinel → Sentinel) : (s.sentM f).regs = s.regs := rfl
@[simp] theorem State.sentM_hiLive (s : State) (f : Sentinel → Sentinel) : (s.sentM f).hiLive = s.hiLive := rfl
@[simp] theorem State.sentM_mem (s : State) (f : Sentinel → Sentinel) : (s.sentM f).mem = s.mem := rfl
@[simp] theorem State.sentM_free (s : State) (f : Sentinel → Sentinel) : (s.sentM f).free = s.free := rfl
@[simp] theorem State.sentM_rdata (s : State) (f : Sentinel → Sentinel) : (s.sentM f).rdata = s.rdata := rfl
@[simp] theorem State.sentM_stCycles (s : State) (f : Sentinel → Sentinel) : (s.sentM f).stCycles = s.stCycles := rfl
@[simp] theorem State.sentM_stCyclesAt (s : State) (f : Sentinel → Sentinel) : (s.sentM f).stCyclesAt = s.stCyclesAt := rfl
@[simp] theorem State.sentM_setAt (s : State) (f : Sentinel → Sentinel) : (s.sentM f).setAt = s.setAt := rfl
@[simp] theorem State.sentM_setFlags (s : State) (f : Sentinel → Sentinel) : (s.sentM f).setFlags = s.setFlags := rfl
@[simp] theorem State.sentM_flagSince (s : State) (f : Sentinel → Sentinel) : (s.sentM f).flagSince = s.flagSince := rfl
@[simp] theorem State.sentM_parked (s : State) (f : Sentinel → Sentinel) : (s.sentM f).parked = s.parked := rfl
@[simp] theorem State.sentM_landing (s : State) (f : Sentinel → Sentinel) : (s.sentM f).landing = s.landing := rfl
@[simp] theorem State.sentM_pending (s : State) (f : Sentinel → Sentinel) : (s.sentM f).pending = s.pending := rfl
@[simp] theorem State.sentM_tbl (s : State) (f : Sentinel → Sentinel) : (s.sentM f).tbl = s.tbl := rfl
@[simp] theorem State.sentM_pll (s : State) (f : Sentinel → Sentinel) : (s.sentM f).pll = s.pll := rfl
@[simp] theorem State.sentM_modin (s : State) (f : Sentinel → Sentinel) : (s.sentM f).modin = s.modin := rfl
@[simp] theorem State.sentM_samples (s : State) (f : Sentinel → Sentinel) : (s.sentM f).samples = s.samples := rfl
@[simp] theorem State.sentM_samplesOld (s : State) (f : Sentinel → Sentinel) : (s.sentM f).samplesOld = s.samplesOld := rfl
@[simp] theorem State.sentM_acu (s : State) (f : Sentinel → Sentinel) : (s.sentM f).acu = s.acu := rfl
@[simp] theorem State.sentM_mramc (s : State) (f : Sentinel → Sentinel) : (s.sentM f).mramc = s.mramc := rfl
@[simp] theorem State.sentM_pwm (s : State) (f : Sentinel → Sentinel) : (s.sentM f).pwm = s.pwm := rfl
@[simp] theorem State.sentM_drive (s : State) (f : Sentinel → Sentinel) : (s.sentM f).drive = s.drive := rfl
@[simp] theorem State.sentM_gp (s : State) (f : Sentinel → Sentinel) : (s.sentM f).gp = s.gp := rfl
@[simp] theorem State.sentM_prot (s : State) (f : Sentinel → Sentinel) : (s.sentM f).prot = s.prot := rfl
@[simp] theorem State.sentM_probe (s : State) (f : Sentinel → Sentinel) : (s.sentM f).probe = s.probe := rfl
@[simp] theorem State.sentM_meter (s : State) (f : Sentinel → Sentinel) : (s.sentM f).meter = s.meter := rfl
@[simp] theorem State.sentM_dc (s : State) (f : Sentinel → Sentinel) : (s.sentM f).dc = s.dc := rfl
@[simp] theorem State.sentM_safe (s : State) (f : Sentinel → Sentinel) : (s.sentM f).safe = s.safe := rfl
@[simp] theorem State.sentM_dma (s : State) (f : Sentinel → Sentinel) : (s.sentM f).dma = s.dma := rfl
@[simp] theorem State.sentM_eth (s : State) (f : Sentinel → Sentinel) : (s.sentM f).eth = s.eth := rfl
@[simp] theorem State.sentM_mon (s : State) (f : Sentinel → Sentinel) : (s.sentM f).mon = s.mon := rfl
@[simp] theorem State.sentM_cpu (s : State) (f : Sentinel → Sentinel) : (s.sentM f).cpu = s.cpu := rfl
@[simp] theorem State.sentM_rk (s : State) (f : Sentinel → Sentinel) : (s.sentM f).rk = s.rk := rfl
@[simp] theorem State.sentM_st (s : State) (f : Sentinel → Sentinel) : (s.sentM f).st = s.st := rfl
@[simp] theorem State.sentM_wdg (s : State) (f : Sentinel → Sentinel) : (s.sentM f).wdg = s.wdg := rfl
@[simp] theorem State.sentM_xbar (s : State) (f : Sentinel → Sentinel) : (s.sentM f).xbar = s.xbar := rfl
@[simp] theorem State.sentM_host (s : State) (f : Sentinel → Sentinel) : (s.sentM f).host = s.host := rfl
@[simp] theorem State.sentM_dport (s : State) (f : Sentinel → Sentinel) : (s.sentM f).dport = s.dport := rfl
@[simp] theorem State.sentM_sec (s : State) (f : Sentinel → Sentinel) : (s.sentM f).sec = s.sec := rfl
@[simp] theorem State.sentM_consent (s : State) (f : Sentinel → Sentinel) : (s.sentM f).consent = s.consent := rfl
@[simp] theorem State.sentM_link (s : State) (f : Sentinel → Sentinel) : (s.sentM f).link = s.link := rfl
@[simp] theorem State.sentM_pmu (s : State) (f : Sentinel → Sentinel) : (s.sentM f).pmu = s.pmu := rfl
@[simp] theorem State.sentM_gpio (s : State) (f : Sentinel → Sentinel) : (s.sentM f).gpio = s.gpio := rfl
@[simp] theorem State.sentM_gpioPort (s : State) (f : Sentinel → Sentinel) : (s.sentM f).gpioPort = s.gpioPort := rfl
@[simp] theorem State.sentM_rd (s : State) (f : Sentinel → Sentinel) (x : Nat) : (s.sentM f).rd x = s.rd x := rfl
@[simp] theorem State.sentM_rdN (s : State) (f : Sentinel → Sentinel) (x : Nat) : (s.sentM f).rdN x = s.rdN x := rfl
@[simp] theorem State.sentM_get (s : State) (f : Sentinel → Sentinel) (x : Fld) : (s.sentM f).get x = s.get x := rfl

@[simp] theorem State.stM_st (s : State) (n : Fin 2) (f : Steward → Steward) : (s.stM n f).st = s.st.upd n f := rfl
@[simp] theorem State.stM_now (s : State) (n : Fin 2) (f : Steward → Steward) : (s.stM n f).now = s.now := rfl
@[simp] theorem State.stM_regs (s : State) (n : Fin 2) (f : Steward → Steward) : (s.stM n f).regs = s.regs := rfl
@[simp] theorem State.stM_hiLive (s : State) (n : Fin 2) (f : Steward → Steward) : (s.stM n f).hiLive = s.hiLive := rfl
@[simp] theorem State.stM_mem (s : State) (n : Fin 2) (f : Steward → Steward) : (s.stM n f).mem = s.mem := rfl
@[simp] theorem State.stM_free (s : State) (n : Fin 2) (f : Steward → Steward) : (s.stM n f).free = s.free := rfl
@[simp] theorem State.stM_rdata (s : State) (n : Fin 2) (f : Steward → Steward) : (s.stM n f).rdata = s.rdata := rfl
@[simp] theorem State.stM_stCycles (s : State) (n : Fin 2) (f : Steward → Steward) : (s.stM n f).stCycles = s.stCycles := rfl
@[simp] theorem State.stM_stCyclesAt (s : State) (n : Fin 2) (f : Steward → Steward) : (s.stM n f).stCyclesAt = s.stCyclesAt := rfl
@[simp] theorem State.stM_setAt (s : State) (n : Fin 2) (f : Steward → Steward) : (s.stM n f).setAt = s.setAt := rfl
@[simp] theorem State.stM_setFlags (s : State) (n : Fin 2) (f : Steward → Steward) : (s.stM n f).setFlags = s.setFlags := rfl
@[simp] theorem State.stM_flagSince (s : State) (n : Fin 2) (f : Steward → Steward) : (s.stM n f).flagSince = s.flagSince := rfl
@[simp] theorem State.stM_parked (s : State) (n : Fin 2) (f : Steward → Steward) : (s.stM n f).parked = s.parked := rfl
@[simp] theorem State.stM_landing (s : State) (n : Fin 2) (f : Steward → Steward) : (s.stM n f).landing = s.landing := rfl
@[simp] theorem State.stM_pending (s : State) (n : Fin 2) (f : Steward → Steward) : (s.stM n f).pending = s.pending := rfl
@[simp] theorem State.stM_tbl (s : State) (n : Fin 2) (f : Steward → Steward) : (s.stM n f).tbl = s.tbl := rfl
@[simp] theorem State.stM_pll (s : State) (n : Fin 2) (f : Steward → Steward) : (s.stM n f).pll = s.pll := rfl
@[simp] theorem State.stM_modin (s : State) (n : Fin 2) (f : Steward → Steward) : (s.stM n f).modin = s.modin := rfl
@[simp] theorem State.stM_samples (s : State) (n : Fin 2) (f : Steward → Steward) : (s.stM n f).samples = s.samples := rfl
@[simp] theorem State.stM_samplesOld (s : State) (n : Fin 2) (f : Steward → Steward) : (s.stM n f).samplesOld = s.samplesOld := rfl
@[simp] theorem State.stM_acu (s : State) (n : Fin 2) (f : Steward → Steward) : (s.stM n f).acu = s.acu := rfl
@[simp] theorem State.stM_mramc (s : State) (n : Fin 2) (f : Steward → Steward) : (s.stM n f).mramc = s.mramc := rfl
@[simp] theorem State.stM_pwm (s : State) (n : Fin 2) (f : Steward → Steward) : (s.stM n f).pwm = s.pwm := rfl
@[simp] theorem State.stM_drive (s : State) (n : Fin 2) (f : Steward → Steward) : (s.stM n f).drive = s.drive := rfl
@[simp] theorem State.stM_gp (s : State) (n : Fin 2) (f : Steward → Steward) : (s.stM n f).gp = s.gp := rfl
@[simp] theorem State.stM_prot (s : State) (n : Fin 2) (f : Steward → Steward) : (s.stM n f).prot = s.prot := rfl
@[simp] theorem State.stM_probe (s : State) (n : Fin 2) (f : Steward → Steward) : (s.stM n f).probe = s.probe := rfl
@[simp] theorem State.stM_meter (s : State) (n : Fin 2) (f : Steward → Steward) : (s.stM n f).meter = s.meter := rfl
@[simp] theorem State.stM_dc (s : State) (n : Fin 2) (f : Steward → Steward) : (s.stM n f).dc = s.dc := rfl
@[simp] theorem State.stM_safe (s : State) (n : Fin 2) (f : Steward → Steward) : (s.stM n f).safe = s.safe := rfl
@[simp] theorem State.stM_dma (s : State) (n : Fin 2) (f : Steward → Steward) : (s.stM n f).dma = s.dma := rfl
@[simp] theorem State.stM_eth (s : State) (n : Fin 2) (f : Steward → Steward) : (s.stM n f).eth = s.eth := rfl
@[simp] theorem State.stM_mon (s : State) (n : Fin 2) (f : Steward → Steward) : (s.stM n f).mon = s.mon := rfl
@[simp] theorem State.stM_cpu (s : State) (n : Fin 2) (f : Steward → Steward) : (s.stM n f).cpu = s.cpu := rfl
@[simp] theorem State.stM_rk (s : State) (n : Fin 2) (f : Steward → Steward) : (s.stM n f).rk = s.rk := rfl
@[simp] theorem State.stM_wdg (s : State) (n : Fin 2) (f : Steward → Steward) : (s.stM n f).wdg = s.wdg := rfl
@[simp] theorem State.stM_xbar (s : State) (n : Fin 2) (f : Steward → Steward) : (s.stM n f).xbar = s.xbar := rfl
@[simp] theorem State.stM_host (s : State) (n : Fin 2) (f : Steward → Steward) : (s.stM n f).host = s.host := rfl
@[simp] theorem State.stM_dport (s : State) (n : Fin 2) (f : Steward → Steward) : (s.stM n f).dport = s.dport := rfl
@[simp] theorem State.stM_sec (s : State) (n : Fin 2) (f : Steward → Steward) : (s.stM n f).sec = s.sec := rfl
@[simp] theorem State.stM_consent (s : State) (n : Fin 2) (f : Steward → Steward) : (s.stM n f).consent = s.consent := rfl
@[simp] theorem State.stM_link (s : State) (n : Fin 2) (f : Steward → Steward) : (s.stM n f).link = s.link := rfl
@[simp] theorem State.stM_sentinel (s : State) (n : Fin 2) (f : Steward → Steward) : (s.stM n f).sentinel = s.sentinel := rfl
@[simp] theorem State.stM_pmu (s : State) (n : Fin 2) (f : Steward → Steward) : (s.stM n f).pmu = s.pmu := rfl
@[simp] theorem State.stM_gpio (s : State) (n : Fin 2) (f : Steward → Steward) : (s.stM n f).gpio = s.gpio := rfl
@[simp] theorem State.stM_gpioPort (s : State) (n : Fin 2) (f : Steward → Steward) : (s.stM n f).gpioPort = s.gpioPort := rfl
@[simp] theorem State.stM_rd (s : State) (n : Fin 2) (f : Steward → Steward) (x : Nat) : (s.stM n f).rd x = s.rd x := rfl
@[simp] theorem State.stM_rdN (s : State) (n : Fin 2) (f : Steward → Steward) (x : Nat) : (s.stM n f).rdN x = s.rdN x := rfl
@[simp] theorem State.stM_get (s : State) (n : Fin 2) (f : Steward → Steward) (x : Fld) : (s.stM n f).get x = s.get x := rfl

@[simp] theorem State.stgM_now (s : State) (k : Fin 16) (f : ProtStage → ProtStage) : (s.stgM k f).now = s.now := rfl
@[simp] theorem State.stgM_regs (s : State) (k : Fin 16) (f : ProtStage → ProtStage) : (s.stgM k f).regs = s.regs := rfl
@[simp] theorem State.stgM_hiLive (s : State) (k : Fin 16) (f : ProtStage → ProtStage) : (s.stgM k f).hiLive = s.hiLive := rfl
@[simp] theorem State.stgM_mem (s : State) (k : Fin 16) (f : ProtStage → ProtStage) : (s.stgM k f).mem = s.mem := rfl
@[simp] theorem State.stgM_free (s : State) (k : Fin 16) (f : ProtStage → ProtStage) : (s.stgM k f).free = s.free := rfl
@[simp] theorem State.stgM_rdata (s : State) (k : Fin 16) (f : ProtStage → ProtStage) : (s.stgM k f).rdata = s.rdata := rfl
@[simp] theorem State.stgM_stCycles (s : State) (k : Fin 16) (f : ProtStage → ProtStage) : (s.stgM k f).stCycles = s.stCycles := rfl
@[simp] theorem State.stgM_stCyclesAt (s : State) (k : Fin 16) (f : ProtStage → ProtStage) : (s.stgM k f).stCyclesAt = s.stCyclesAt := rfl
@[simp] theorem State.stgM_setAt (s : State) (k : Fin 16) (f : ProtStage → ProtStage) : (s.stgM k f).setAt = s.setAt := rfl
@[simp] theorem State.stgM_setFlags (s : State) (k : Fin 16) (f : ProtStage → ProtStage) : (s.stgM k f).setFlags = s.setFlags := rfl
@[simp] theorem State.stgM_flagSince (s : State) (k : Fin 16) (f : ProtStage → ProtStage) : (s.stgM k f).flagSince = s.flagSince := rfl
@[simp] theorem State.stgM_parked (s : State) (k : Fin 16) (f : ProtStage → ProtStage) : (s.stgM k f).parked = s.parked := rfl
@[simp] theorem State.stgM_landing (s : State) (k : Fin 16) (f : ProtStage → ProtStage) : (s.stgM k f).landing = s.landing := rfl
@[simp] theorem State.stgM_pending (s : State) (k : Fin 16) (f : ProtStage → ProtStage) : (s.stgM k f).pending = s.pending := rfl
@[simp] theorem State.stgM_tbl (s : State) (k : Fin 16) (f : ProtStage → ProtStage) : (s.stgM k f).tbl = s.tbl := rfl
@[simp] theorem State.stgM_pll (s : State) (k : Fin 16) (f : ProtStage → ProtStage) : (s.stgM k f).pll = s.pll := rfl
@[simp] theorem State.stgM_modin (s : State) (k : Fin 16) (f : ProtStage → ProtStage) : (s.stgM k f).modin = s.modin := rfl
@[simp] theorem State.stgM_samples (s : State) (k : Fin 16) (f : ProtStage → ProtStage) : (s.stgM k f).samples = s.samples := rfl
@[simp] theorem State.stgM_samplesOld (s : State) (k : Fin 16) (f : ProtStage → ProtStage) : (s.stgM k f).samplesOld = s.samplesOld := rfl
@[simp] theorem State.stgM_acu (s : State) (k : Fin 16) (f : ProtStage → ProtStage) : (s.stgM k f).acu = s.acu := rfl
@[simp] theorem State.stgM_mramc (s : State) (k : Fin 16) (f : ProtStage → ProtStage) : (s.stgM k f).mramc = s.mramc := rfl
@[simp] theorem State.stgM_pwm (s : State) (k : Fin 16) (f : ProtStage → ProtStage) : (s.stgM k f).pwm = s.pwm := rfl
@[simp] theorem State.stgM_drive (s : State) (k : Fin 16) (f : ProtStage → ProtStage) : (s.stgM k f).drive = s.drive := rfl
@[simp] theorem State.stgM_gp (s : State) (k : Fin 16) (f : ProtStage → ProtStage) : (s.stgM k f).gp = s.gp := rfl
@[simp] theorem State.stgM_probe (s : State) (k : Fin 16) (f : ProtStage → ProtStage) : (s.stgM k f).probe = s.probe := rfl
@[simp] theorem State.stgM_meter (s : State) (k : Fin 16) (f : ProtStage → ProtStage) : (s.stgM k f).meter = s.meter := rfl
@[simp] theorem State.stgM_dc (s : State) (k : Fin 16) (f : ProtStage → ProtStage) : (s.stgM k f).dc = s.dc := rfl
@[simp] theorem State.stgM_safe (s : State) (k : Fin 16) (f : ProtStage → ProtStage) : (s.stgM k f).safe = s.safe := rfl
@[simp] theorem State.stgM_dma (s : State) (k : Fin 16) (f : ProtStage → ProtStage) : (s.stgM k f).dma = s.dma := rfl
@[simp] theorem State.stgM_eth (s : State) (k : Fin 16) (f : ProtStage → ProtStage) : (s.stgM k f).eth = s.eth := rfl
@[simp] theorem State.stgM_mon (s : State) (k : Fin 16) (f : ProtStage → ProtStage) : (s.stgM k f).mon = s.mon := rfl
@[simp] theorem State.stgM_cpu (s : State) (k : Fin 16) (f : ProtStage → ProtStage) : (s.stgM k f).cpu = s.cpu := rfl
@[simp] theorem State.stgM_rk (s : State) (k : Fin 16) (f : ProtStage → ProtStage) : (s.stgM k f).rk = s.rk := rfl
@[simp] theorem State.stgM_st (s : State) (k : Fin 16) (f : ProtStage → ProtStage) : (s.stgM k f).st = s.st := rfl
@[simp] theorem State.stgM_wdg (s : State) (k : Fin 16) (f : ProtStage → ProtStage) : (s.stgM k f).wdg = s.wdg := rfl
@[simp] theorem State.stgM_xbar (s : State) (k : Fin 16) (f : ProtStage → ProtStage) : (s.stgM k f).xbar = s.xbar := rfl
@[simp] theorem State.stgM_host (s : State) (k : Fin 16) (f : ProtStage → ProtStage) : (s.stgM k f).host = s.host := rfl
@[simp] theorem State.stgM_dport (s : State) (k : Fin 16) (f : ProtStage → ProtStage) : (s.stgM k f).dport = s.dport := rfl
@[simp] theorem State.stgM_sec (s : State) (k : Fin 16) (f : ProtStage → ProtStage) : (s.stgM k f).sec = s.sec := rfl
@[simp] theorem State.stgM_consent (s : State) (k : Fin 16) (f : ProtStage → ProtStage) : (s.stgM k f).consent = s.consent := rfl
@[simp] theorem State.stgM_link (s : State) (k : Fin 16) (f : ProtStage → ProtStage) : (s.stgM k f).link = s.link := rfl
@[simp] theorem State.stgM_sentinel (s : State) (k : Fin 16) (f : ProtStage → ProtStage) : (s.stgM k f).sentinel = s.sentinel := rfl
@[simp] theorem State.stgM_pmu (s : State) (k : Fin 16) (f : ProtStage → ProtStage) : (s.stgM k f).pmu = s.pmu := rfl
@[simp] theorem State.stgM_gpio (s : State) (k : Fin 16) (f : ProtStage → ProtStage) : (s.stgM k f).gpio = s.gpio := rfl
@[simp] theorem State.stgM_gpioPort (s : State) (k : Fin 16) (f : ProtStage → ProtStage) : (s.stgM k f).gpioPort = s.gpioPort := rfl
@[simp] theorem State.stgM_rd (s : State) (k : Fin 16) (f : ProtStage → ProtStage) (x : Nat) : (s.stgM k f).rd x = s.rd x := rfl
@[simp] theorem State.stgM_rdN (s : State) (k : Fin 16) (f : ProtStage → ProtStage) (x : Nat) : (s.stgM k f).rdN x = s.rdN x := rfl
@[simp] theorem State.stgM_get (s : State) (k : Fin 16) (f : ProtStage → ProtStage) (x : Fld) : (s.stgM k f).get x = s.get x := rfl

@[simp] theorem State.tblM_tbl (s : State) (f : Tbl → Tbl) : (s.tblM f).tbl = f s.tbl := rfl
@[simp] theorem State.tblM_now (s : State) (f : Tbl → Tbl) : (s.tblM f).now = s.now := rfl
@[simp] theorem State.tblM_regs (s : State) (f : Tbl → Tbl) : (s.tblM f).regs = s.regs := rfl
@[simp] theorem State.tblM_hiLive (s : State) (f : Tbl → Tbl) : (s.tblM f).hiLive = s.hiLive := rfl
@[simp] theorem State.tblM_mem (s : State) (f : Tbl → Tbl) : (s.tblM f).mem = s.mem := rfl
@[simp] theorem State.tblM_free (s : State) (f : Tbl → Tbl) : (s.tblM f).free = s.free := rfl
@[simp] theorem State.tblM_rdata (s : State) (f : Tbl → Tbl) : (s.tblM f).rdata = s.rdata := rfl
@[simp] theorem State.tblM_stCycles (s : State) (f : Tbl → Tbl) : (s.tblM f).stCycles = s.stCycles := rfl
@[simp] theorem State.tblM_stCyclesAt (s : State) (f : Tbl → Tbl) : (s.tblM f).stCyclesAt = s.stCyclesAt := rfl
@[simp] theorem State.tblM_setAt (s : State) (f : Tbl → Tbl) : (s.tblM f).setAt = s.setAt := rfl
@[simp] theorem State.tblM_setFlags (s : State) (f : Tbl → Tbl) : (s.tblM f).setFlags = s.setFlags := rfl
@[simp] theorem State.tblM_flagSince (s : State) (f : Tbl → Tbl) : (s.tblM f).flagSince = s.flagSince := rfl
@[simp] theorem State.tblM_parked (s : State) (f : Tbl → Tbl) : (s.tblM f).parked = s.parked := rfl
@[simp] theorem State.tblM_landing (s : State) (f : Tbl → Tbl) : (s.tblM f).landing = s.landing := rfl
@[simp] theorem State.tblM_pending (s : State) (f : Tbl → Tbl) : (s.tblM f).pending = s.pending := rfl
@[simp] theorem State.tblM_pll (s : State) (f : Tbl → Tbl) : (s.tblM f).pll = s.pll := rfl
@[simp] theorem State.tblM_modin (s : State) (f : Tbl → Tbl) : (s.tblM f).modin = s.modin := rfl
@[simp] theorem State.tblM_samples (s : State) (f : Tbl → Tbl) : (s.tblM f).samples = s.samples := rfl
@[simp] theorem State.tblM_samplesOld (s : State) (f : Tbl → Tbl) : (s.tblM f).samplesOld = s.samplesOld := rfl
@[simp] theorem State.tblM_acu (s : State) (f : Tbl → Tbl) : (s.tblM f).acu = s.acu := rfl
@[simp] theorem State.tblM_mramc (s : State) (f : Tbl → Tbl) : (s.tblM f).mramc = s.mramc := rfl
@[simp] theorem State.tblM_pwm (s : State) (f : Tbl → Tbl) : (s.tblM f).pwm = s.pwm := rfl
@[simp] theorem State.tblM_drive (s : State) (f : Tbl → Tbl) : (s.tblM f).drive = s.drive := rfl
@[simp] theorem State.tblM_gp (s : State) (f : Tbl → Tbl) : (s.tblM f).gp = s.gp := rfl
@[simp] theorem State.tblM_prot (s : State) (f : Tbl → Tbl) : (s.tblM f).prot = s.prot := rfl
@[simp] theorem State.tblM_probe (s : State) (f : Tbl → Tbl) : (s.tblM f).probe = s.probe := rfl
@[simp] theorem State.tblM_meter (s : State) (f : Tbl → Tbl) : (s.tblM f).meter = s.meter := rfl
@[simp] theorem State.tblM_dc (s : State) (f : Tbl → Tbl) : (s.tblM f).dc = s.dc := rfl
@[simp] theorem State.tblM_safe (s : State) (f : Tbl → Tbl) : (s.tblM f).safe = s.safe := rfl
@[simp] theorem State.tblM_dma (s : State) (f : Tbl → Tbl) : (s.tblM f).dma = s.dma := rfl
@[simp] theorem State.tblM_eth (s : State) (f : Tbl → Tbl) : (s.tblM f).eth = s.eth := rfl
@[simp] theorem State.tblM_mon (s : State) (f : Tbl → Tbl) : (s.tblM f).mon = s.mon := rfl
@[simp] theorem State.tblM_cpu (s : State) (f : Tbl → Tbl) : (s.tblM f).cpu = s.cpu := rfl
@[simp] theorem State.tblM_rk (s : State) (f : Tbl → Tbl) : (s.tblM f).rk = s.rk := rfl
@[simp] theorem State.tblM_st (s : State) (f : Tbl → Tbl) : (s.tblM f).st = s.st := rfl
@[simp] theorem State.tblM_wdg (s : State) (f : Tbl → Tbl) : (s.tblM f).wdg = s.wdg := rfl
@[simp] theorem State.tblM_xbar (s : State) (f : Tbl → Tbl) : (s.tblM f).xbar = s.xbar := rfl
@[simp] theorem State.tblM_host (s : State) (f : Tbl → Tbl) : (s.tblM f).host = s.host := rfl
@[simp] theorem State.tblM_dport (s : State) (f : Tbl → Tbl) : (s.tblM f).dport = s.dport := rfl
@[simp] theorem State.tblM_sec (s : State) (f : Tbl → Tbl) : (s.tblM f).sec = s.sec := rfl
@[simp] theorem State.tblM_consent (s : State) (f : Tbl → Tbl) : (s.tblM f).consent = s.consent := rfl
@[simp] theorem State.tblM_link (s : State) (f : Tbl → Tbl) : (s.tblM f).link = s.link := rfl
@[simp] theorem State.tblM_sentinel (s : State) (f : Tbl → Tbl) : (s.tblM f).sentinel = s.sentinel := rfl
@[simp] theorem State.tblM_pmu (s : State) (f : Tbl → Tbl) : (s.tblM f).pmu = s.pmu := rfl
@[simp] theorem State.tblM_gpio (s : State) (f : Tbl → Tbl) : (s.tblM f).gpio = s.gpio := rfl
@[simp] theorem State.tblM_gpioPort (s : State) (f : Tbl → Tbl) : (s.tblM f).gpioPort = s.gpioPort := rfl
@[simp] theorem State.tblM_rd (s : State) (f : Tbl → Tbl) (x : Nat) : (s.tblM f).rd x = s.rd x := rfl
@[simp] theorem State.tblM_rdN (s : State) (f : Tbl → Tbl) (x : Nat) : (s.tblM f).rdN x = s.rdN x := rfl
@[simp] theorem State.tblM_get (s : State) (f : Tbl → Tbl) (x : Fld) : (s.tblM f).get x = s.get x := rfl

@[simp] theorem State.wdgM_wdg (s : State) (k : Fin 2) (f : Watchdog → Watchdog) : (s.wdgM k f).wdg = s.wdg.upd k f := rfl
@[simp] theorem State.wdgM_now (s : State) (k : Fin 2) (f : Watchdog → Watchdog) : (s.wdgM k f).now = s.now := rfl
@[simp] theorem State.wdgM_regs (s : State) (k : Fin 2) (f : Watchdog → Watchdog) : (s.wdgM k f).regs = s.regs := rfl
@[simp] theorem State.wdgM_hiLive (s : State) (k : Fin 2) (f : Watchdog → Watchdog) : (s.wdgM k f).hiLive = s.hiLive := rfl
@[simp] theorem State.wdgM_mem (s : State) (k : Fin 2) (f : Watchdog → Watchdog) : (s.wdgM k f).mem = s.mem := rfl
@[simp] theorem State.wdgM_free (s : State) (k : Fin 2) (f : Watchdog → Watchdog) : (s.wdgM k f).free = s.free := rfl
@[simp] theorem State.wdgM_rdata (s : State) (k : Fin 2) (f : Watchdog → Watchdog) : (s.wdgM k f).rdata = s.rdata := rfl
@[simp] theorem State.wdgM_stCycles (s : State) (k : Fin 2) (f : Watchdog → Watchdog) : (s.wdgM k f).stCycles = s.stCycles := rfl
@[simp] theorem State.wdgM_stCyclesAt (s : State) (k : Fin 2) (f : Watchdog → Watchdog) : (s.wdgM k f).stCyclesAt = s.stCyclesAt := rfl
@[simp] theorem State.wdgM_setAt (s : State) (k : Fin 2) (f : Watchdog → Watchdog) : (s.wdgM k f).setAt = s.setAt := rfl
@[simp] theorem State.wdgM_setFlags (s : State) (k : Fin 2) (f : Watchdog → Watchdog) : (s.wdgM k f).setFlags = s.setFlags := rfl
@[simp] theorem State.wdgM_flagSince (s : State) (k : Fin 2) (f : Watchdog → Watchdog) : (s.wdgM k f).flagSince = s.flagSince := rfl
@[simp] theorem State.wdgM_parked (s : State) (k : Fin 2) (f : Watchdog → Watchdog) : (s.wdgM k f).parked = s.parked := rfl
@[simp] theorem State.wdgM_landing (s : State) (k : Fin 2) (f : Watchdog → Watchdog) : (s.wdgM k f).landing = s.landing := rfl
@[simp] theorem State.wdgM_pending (s : State) (k : Fin 2) (f : Watchdog → Watchdog) : (s.wdgM k f).pending = s.pending := rfl
@[simp] theorem State.wdgM_tbl (s : State) (k : Fin 2) (f : Watchdog → Watchdog) : (s.wdgM k f).tbl = s.tbl := rfl
@[simp] theorem State.wdgM_pll (s : State) (k : Fin 2) (f : Watchdog → Watchdog) : (s.wdgM k f).pll = s.pll := rfl
@[simp] theorem State.wdgM_modin (s : State) (k : Fin 2) (f : Watchdog → Watchdog) : (s.wdgM k f).modin = s.modin := rfl
@[simp] theorem State.wdgM_samples (s : State) (k : Fin 2) (f : Watchdog → Watchdog) : (s.wdgM k f).samples = s.samples := rfl
@[simp] theorem State.wdgM_samplesOld (s : State) (k : Fin 2) (f : Watchdog → Watchdog) : (s.wdgM k f).samplesOld = s.samplesOld := rfl
@[simp] theorem State.wdgM_acu (s : State) (k : Fin 2) (f : Watchdog → Watchdog) : (s.wdgM k f).acu = s.acu := rfl
@[simp] theorem State.wdgM_mramc (s : State) (k : Fin 2) (f : Watchdog → Watchdog) : (s.wdgM k f).mramc = s.mramc := rfl
@[simp] theorem State.wdgM_pwm (s : State) (k : Fin 2) (f : Watchdog → Watchdog) : (s.wdgM k f).pwm = s.pwm := rfl
@[simp] theorem State.wdgM_drive (s : State) (k : Fin 2) (f : Watchdog → Watchdog) : (s.wdgM k f).drive = s.drive := rfl
@[simp] theorem State.wdgM_gp (s : State) (k : Fin 2) (f : Watchdog → Watchdog) : (s.wdgM k f).gp = s.gp := rfl
@[simp] theorem State.wdgM_prot (s : State) (k : Fin 2) (f : Watchdog → Watchdog) : (s.wdgM k f).prot = s.prot := rfl
@[simp] theorem State.wdgM_probe (s : State) (k : Fin 2) (f : Watchdog → Watchdog) : (s.wdgM k f).probe = s.probe := rfl
@[simp] theorem State.wdgM_meter (s : State) (k : Fin 2) (f : Watchdog → Watchdog) : (s.wdgM k f).meter = s.meter := rfl
@[simp] theorem State.wdgM_dc (s : State) (k : Fin 2) (f : Watchdog → Watchdog) : (s.wdgM k f).dc = s.dc := rfl
@[simp] theorem State.wdgM_safe (s : State) (k : Fin 2) (f : Watchdog → Watchdog) : (s.wdgM k f).safe = s.safe := rfl
@[simp] theorem State.wdgM_dma (s : State) (k : Fin 2) (f : Watchdog → Watchdog) : (s.wdgM k f).dma = s.dma := rfl
@[simp] theorem State.wdgM_eth (s : State) (k : Fin 2) (f : Watchdog → Watchdog) : (s.wdgM k f).eth = s.eth := rfl
@[simp] theorem State.wdgM_mon (s : State) (k : Fin 2) (f : Watchdog → Watchdog) : (s.wdgM k f).mon = s.mon := rfl
@[simp] theorem State.wdgM_cpu (s : State) (k : Fin 2) (f : Watchdog → Watchdog) : (s.wdgM k f).cpu = s.cpu := rfl
@[simp] theorem State.wdgM_rk (s : State) (k : Fin 2) (f : Watchdog → Watchdog) : (s.wdgM k f).rk = s.rk := rfl
@[simp] theorem State.wdgM_st (s : State) (k : Fin 2) (f : Watchdog → Watchdog) : (s.wdgM k f).st = s.st := rfl
@[simp] theorem State.wdgM_xbar (s : State) (k : Fin 2) (f : Watchdog → Watchdog) : (s.wdgM k f).xbar = s.xbar := rfl
@[simp] theorem State.wdgM_host (s : State) (k : Fin 2) (f : Watchdog → Watchdog) : (s.wdgM k f).host = s.host := rfl
@[simp] theorem State.wdgM_dport (s : State) (k : Fin 2) (f : Watchdog → Watchdog) : (s.wdgM k f).dport = s.dport := rfl
@[simp] theorem State.wdgM_sec (s : State) (k : Fin 2) (f : Watchdog → Watchdog) : (s.wdgM k f).sec = s.sec := rfl
@[simp] theorem State.wdgM_consent (s : State) (k : Fin 2) (f : Watchdog → Watchdog) : (s.wdgM k f).consent = s.consent := rfl
@[simp] theorem State.wdgM_link (s : State) (k : Fin 2) (f : Watchdog → Watchdog) : (s.wdgM k f).link = s.link := rfl
@[simp] theorem State.wdgM_sentinel (s : State) (k : Fin 2) (f : Watchdog → Watchdog) : (s.wdgM k f).sentinel = s.sentinel := rfl
@[simp] theorem State.wdgM_pmu (s : State) (k : Fin 2) (f : Watchdog → Watchdog) : (s.wdgM k f).pmu = s.pmu := rfl
@[simp] theorem State.wdgM_gpio (s : State) (k : Fin 2) (f : Watchdog → Watchdog) : (s.wdgM k f).gpio = s.gpio := rfl
@[simp] theorem State.wdgM_gpioPort (s : State) (k : Fin 2) (f : Watchdog → Watchdog) : (s.wdgM k f).gpioPort = s.gpioPort := rfl
@[simp] theorem State.wdgM_rd (s : State) (k : Fin 2) (f : Watchdog → Watchdog) (x : Nat) : (s.wdgM k f).rd x = s.rd x := rfl
@[simp] theorem State.wdgM_rdN (s : State) (k : Fin 2) (f : Watchdog → Watchdog) (x : Nat) : (s.wdgM k f).rdN x = s.rdN x := rfl
@[simp] theorem State.wdgM_get (s : State) (k : Fin 2) (f : Watchdog → Watchdog) (x : Fld) : (s.wdgM k f).get x = s.get x := rfl

@[simp] theorem State.xbarM_xbar (s : State) (f : Xbar → Xbar) : (s.xbarM f).xbar = f s.xbar := rfl
@[simp] theorem State.xbarM_now (s : State) (f : Xbar → Xbar) : (s.xbarM f).now = s.now := rfl
@[simp] theorem State.xbarM_regs (s : State) (f : Xbar → Xbar) : (s.xbarM f).regs = s.regs := rfl
@[simp] theorem State.xbarM_hiLive (s : State) (f : Xbar → Xbar) : (s.xbarM f).hiLive = s.hiLive := rfl
@[simp] theorem State.xbarM_mem (s : State) (f : Xbar → Xbar) : (s.xbarM f).mem = s.mem := rfl
@[simp] theorem State.xbarM_free (s : State) (f : Xbar → Xbar) : (s.xbarM f).free = s.free := rfl
@[simp] theorem State.xbarM_rdata (s : State) (f : Xbar → Xbar) : (s.xbarM f).rdata = s.rdata := rfl
@[simp] theorem State.xbarM_stCycles (s : State) (f : Xbar → Xbar) : (s.xbarM f).stCycles = s.stCycles := rfl
@[simp] theorem State.xbarM_stCyclesAt (s : State) (f : Xbar → Xbar) : (s.xbarM f).stCyclesAt = s.stCyclesAt := rfl
@[simp] theorem State.xbarM_setAt (s : State) (f : Xbar → Xbar) : (s.xbarM f).setAt = s.setAt := rfl
@[simp] theorem State.xbarM_setFlags (s : State) (f : Xbar → Xbar) : (s.xbarM f).setFlags = s.setFlags := rfl
@[simp] theorem State.xbarM_flagSince (s : State) (f : Xbar → Xbar) : (s.xbarM f).flagSince = s.flagSince := rfl
@[simp] theorem State.xbarM_parked (s : State) (f : Xbar → Xbar) : (s.xbarM f).parked = s.parked := rfl
@[simp] theorem State.xbarM_landing (s : State) (f : Xbar → Xbar) : (s.xbarM f).landing = s.landing := rfl
@[simp] theorem State.xbarM_pending (s : State) (f : Xbar → Xbar) : (s.xbarM f).pending = s.pending := rfl
@[simp] theorem State.xbarM_tbl (s : State) (f : Xbar → Xbar) : (s.xbarM f).tbl = s.tbl := rfl
@[simp] theorem State.xbarM_pll (s : State) (f : Xbar → Xbar) : (s.xbarM f).pll = s.pll := rfl
@[simp] theorem State.xbarM_modin (s : State) (f : Xbar → Xbar) : (s.xbarM f).modin = s.modin := rfl
@[simp] theorem State.xbarM_samples (s : State) (f : Xbar → Xbar) : (s.xbarM f).samples = s.samples := rfl
@[simp] theorem State.xbarM_samplesOld (s : State) (f : Xbar → Xbar) : (s.xbarM f).samplesOld = s.samplesOld := rfl
@[simp] theorem State.xbarM_acu (s : State) (f : Xbar → Xbar) : (s.xbarM f).acu = s.acu := rfl
@[simp] theorem State.xbarM_mramc (s : State) (f : Xbar → Xbar) : (s.xbarM f).mramc = s.mramc := rfl
@[simp] theorem State.xbarM_pwm (s : State) (f : Xbar → Xbar) : (s.xbarM f).pwm = s.pwm := rfl
@[simp] theorem State.xbarM_drive (s : State) (f : Xbar → Xbar) : (s.xbarM f).drive = s.drive := rfl
@[simp] theorem State.xbarM_gp (s : State) (f : Xbar → Xbar) : (s.xbarM f).gp = s.gp := rfl
@[simp] theorem State.xbarM_prot (s : State) (f : Xbar → Xbar) : (s.xbarM f).prot = s.prot := rfl
@[simp] theorem State.xbarM_probe (s : State) (f : Xbar → Xbar) : (s.xbarM f).probe = s.probe := rfl
@[simp] theorem State.xbarM_meter (s : State) (f : Xbar → Xbar) : (s.xbarM f).meter = s.meter := rfl
@[simp] theorem State.xbarM_dc (s : State) (f : Xbar → Xbar) : (s.xbarM f).dc = s.dc := rfl
@[simp] theorem State.xbarM_safe (s : State) (f : Xbar → Xbar) : (s.xbarM f).safe = s.safe := rfl
@[simp] theorem State.xbarM_dma (s : State) (f : Xbar → Xbar) : (s.xbarM f).dma = s.dma := rfl
@[simp] theorem State.xbarM_eth (s : State) (f : Xbar → Xbar) : (s.xbarM f).eth = s.eth := rfl
@[simp] theorem State.xbarM_mon (s : State) (f : Xbar → Xbar) : (s.xbarM f).mon = s.mon := rfl
@[simp] theorem State.xbarM_cpu (s : State) (f : Xbar → Xbar) : (s.xbarM f).cpu = s.cpu := rfl
@[simp] theorem State.xbarM_rk (s : State) (f : Xbar → Xbar) : (s.xbarM f).rk = s.rk := rfl
@[simp] theorem State.xbarM_st (s : State) (f : Xbar → Xbar) : (s.xbarM f).st = s.st := rfl
@[simp] theorem State.xbarM_wdg (s : State) (f : Xbar → Xbar) : (s.xbarM f).wdg = s.wdg := rfl
@[simp] theorem State.xbarM_host (s : State) (f : Xbar → Xbar) : (s.xbarM f).host = s.host := rfl
@[simp] theorem State.xbarM_dport (s : State) (f : Xbar → Xbar) : (s.xbarM f).dport = s.dport := rfl
@[simp] theorem State.xbarM_sec (s : State) (f : Xbar → Xbar) : (s.xbarM f).sec = s.sec := rfl
@[simp] theorem State.xbarM_consent (s : State) (f : Xbar → Xbar) : (s.xbarM f).consent = s.consent := rfl
@[simp] theorem State.xbarM_link (s : State) (f : Xbar → Xbar) : (s.xbarM f).link = s.link := rfl
@[simp] theorem State.xbarM_sentinel (s : State) (f : Xbar → Xbar) : (s.xbarM f).sentinel = s.sentinel := rfl
@[simp] theorem State.xbarM_pmu (s : State) (f : Xbar → Xbar) : (s.xbarM f).pmu = s.pmu := rfl
@[simp] theorem State.xbarM_gpio (s : State) (f : Xbar → Xbar) : (s.xbarM f).gpio = s.gpio := rfl
@[simp] theorem State.xbarM_gpioPort (s : State) (f : Xbar → Xbar) : (s.xbarM f).gpioPort = s.gpioPort := rfl
@[simp] theorem State.xbarM_rd (s : State) (f : Xbar → Xbar) (x : Nat) : (s.xbarM f).rd x = s.rd x := rfl
@[simp] theorem State.xbarM_rdN (s : State) (f : Xbar → Xbar) (x : Nat) : (s.xbarM f).rdN x = s.rdN x := rfl
@[simp] theorem State.xbarM_get (s : State) (f : Xbar → Xbar) (x : Fld) : (s.xbarM f).get x = s.get x := rfl

end Sys2Proof.Machine
end

