-- ==== Sys2Proof/Laws/Timebase.lean ====
section
/-! SUPPORT. What the passage of time, a launch and a firing source change and what they leave. -/
namespace Sys2Proof.Machine

/-! ### Folds over the state -/

/-- What every step of a fold leaves, the fold leaves. -/
theorem foldl_same {σ α β : Type} (g : σ → β) (f : σ → α → σ) (h : ∀ s x, g (f s x) = g s) (l : List α) (s : σ) :
    g (l.foldl f s) = g s := by
  induction l generalizing s with
  | nil => rfl
  | cons x t ih => rw [List.foldl_cons, ih, h]

/-- What every step of a fold keeps, the fold keeps. -/
theorem foldl_keeps {σ α : Type} (P : σ → Prop) (f : σ → α → σ) (h : ∀ s x, P s → P (f s x)) (l : List α) (s : σ) (hs : P s) :
    P (l.foldl f s) := by
  induction l generalizing s with
  | nil => exact hs
  | cons x t ih => exact ih _ (h _ _ hs)

/-- What one element's step brings about and every step keeps, the fold brings about. -/
theorem foldl_brings {σ α : Type} (P Q : σ → Prop) (f : σ → α → σ) (hq : ∀ s x, Q s → Q (f s x)) (hp : ∀ s x, P s → P (f s x))
    (l : List α) (a : α) (ha : a ∈ l) (hf : ∀ s, Q s → P (f s a)) (s : σ) (hs : Q s) : P (l.foldl f s) := by
  induction l generalizing s with
  | nil => cases ha
  | cons x t ih =>
    rcases List.mem_cons.mp ha with rfl | h
    · exact foldl_keeps P f hp t _ (hf _ hs)
    · exact ih h _ (hq _ _ hs)

/-! ### Time (R35) -/

/-- A count that stands keeps all but what it records of its rate. -/
theorem Tbl.stood_eq (t : Tbl) (a b : Nat) (r : Int) : ∃ ks, t.stood a b r = { t with knots := ks } := by
  unfold Tbl.stood
  split
  · exact ⟨t.knots, rfl⟩
  · split
    · split <;> exact ⟨_, rfl⟩
    · exact ⟨_, rfl⟩

theorem State.advance_eq (s : State) (k : Nat) :
    ∃ b p, s.advance k = { s with now := s.now + 40 * k, tbl := b, pwm := p } ∧
      b.rods = s.tbl.rods ∧ b.queue = s.tbl.queue ∧ b.inflight = s.tbl.inflight ∧ b.fwdIn = s.tbl.fwdIn ∧
      b.trgin = s.tbl.trgin ∧ b.trgout = s.tbl.trgout ∧ b.stepWait = s.tbl.stepWait := by
  unfold State.advance
  simp only []
  split
  · unfold State.advanceCarriers
    split
    · exact ⟨_, _, rfl, rfl, rfl, rfl, rfl, rfl, rfl, rfl⟩
    · exact ⟨_, _, rfl, rfl, rfl, rfl, rfl, rfl, rfl, rfl⟩
  · obtain ⟨ks, h⟩ := s.tbl.stood_eq s.now (s.now + 40 * k) s.addend
    exact ⟨_, s.pwm, rfl, by rw [h]; exact ⟨rfl, rfl, rfl, rfl, rfl, rfl, rfl⟩⟩

@[simp] theorem State.advance_now (s : State) (k : Nat) : (s.advance k).now = s.now + 40 * k := by
  obtain ⟨b, p, h, -⟩ := s.advance_eq k; rw [h]
@[simp] theorem State.advance_regs (s : State) (k : Nat) : (s.advance k).regs = s.regs := by
  obtain ⟨b, p, h, -⟩ := s.advance_eq k; rw [h]
@[simp] theorem State.advance_mem (s : State) (k : Nat) : (s.advance k).mem = s.mem := by
  obtain ⟨b, p, h, -⟩ := s.advance_eq k; rw [h]
@[simp] theorem State.advance_pending (s : State) (k : Nat) : (s.advance k).pending = s.pending := by
  obtain ⟨b, p, h, -⟩ := s.advance_eq k; rw [h]
@[simp] theorem State.advance_hiLive (s : State) (k : Nat) : (s.advance k).hiLive = s.hiLive := by
  obtain ⟨b, p, h, -⟩ := s.advance_eq k; rw [h]
@[simp] theorem State.advance_cpu (s : State) (k : Nat) : (s.advance k).cpu = s.cpu := by
  obtain ⟨b, p, h, -⟩ := s.advance_eq k; rw [h]
@[simp] theorem State.advance_pmu (s : State) (k : Nat) : (s.advance k).pmu = s.pmu := by
  obtain ⟨b, p, h, -⟩ := s.advance_eq k; rw [h]
@[simp] theorem State.advance_rods (s : State) (k : Nat) : (s.advance k).tbl.rods = s.tbl.rods := by
  obtain ⟨b, p, h, h1, -⟩ := s.advance_eq k; rw [h]; exact h1
@[simp] theorem State.advance_queue (s : State) (k : Nat) : (s.advance k).tbl.queue = s.tbl.queue := by
  obtain ⟨b, p, h, -, h1, -⟩ := s.advance_eq k; rw [h]; exact h1
@[simp] theorem State.advance_inflight (s : State) (k : Nat) : (s.advance k).tbl.inflight = s.tbl.inflight := by
  obtain ⟨b, p, h, -, -, h1, -⟩ := s.advance_eq k; rw [h]; exact h1
@[simp] theorem State.advance_fwdIn (s : State) (k : Nat) : (s.advance k).tbl.fwdIn = s.tbl.fwdIn := by
  obtain ⟨b, p, h, -, -, -, h1, -⟩ := s.advance_eq k; rw [h]; exact h1
@[simp] theorem State.advance_trgin (s : State) (k : Nat) : (s.advance k).tbl.trgin = s.tbl.trgin := by
  obtain ⟨b, p, h, -, -, -, -, h1, -⟩ := s.advance_eq k; rw [h]; exact h1
@[simp] theorem State.advance_trgout (s : State) (k : Nat) : (s.advance k).tbl.trgout = s.tbl.trgout := by
  obtain ⟨b, p, h, -, -, -, -, -, h1, -⟩ := s.advance_eq k; rw [h]; exact h1
@[simp] theorem State.advance_rd (s : State) (k a : Nat) : (s.advance k).rd a = s.rd a := by simp [State.rd]
@[simp] theorem State.advance_rdN (s : State) (k a : Nat) : (s.advance k).rdN a = s.rdN a := by simp [State.rdN]
@[simp] theorem State.advance_get (s : State) (k : Nat) (f : Fld) : (s.advance k).get f = s.get f := by simp [State.get]

/-! ### Launches (R52, R53, R58) -/

/-- A launch changes two counters and the launches in flight. -/
theorem State.launch_eq (s : State) (t e : Nat) :
    ∃ r b, s.launch t e = { s with regs := r, tbl := { s.tbl with inflight := b } } ∧
      (∀ a, a ≠ Reg.TBL_SUPPRCNT → a ≠ Reg.TBL_MERGECNT → mapGet regReset r a = s.rd a) := by
  unfold State.launch
  split
  · unfold State.sat16
    split
    · refine ⟨_, s.tbl.inflight, rfl, ?_⟩
      intro a h1 _
      have := State.rd_wr s Reg.TBL_SUPPRCNT a (BitVec.ofNat 32 (s.rdN Reg.TBL_SUPPRCNT + 1))
      rw [if_neg h1] at this
      exact this
    · exact ⟨s.regs, s.tbl.inflight, rfl, fun _ _ _ => rfl⟩
  · simp only []
    split
    · unfold State.sat16
      split
      · refine ⟨_, _, rfl, ?_⟩
        intro a _ h2
        have := State.rd_wr s Reg.TBL_MERGECNT a (BitVec.ofNat 32 (s.rdN Reg.TBL_MERGECNT + 1))
        rw [if_neg h2] at this
        exact this
      · exact ⟨s.regs, _, rfl, fun _ _ _ => rfl⟩
    · exact ⟨s.regs, _, rfl, fun _ _ _ => rfl⟩

@[simp] theorem State.launch_mem (s : State) (t e : Nat) : (s.launch t e).mem = s.mem := by
  obtain ⟨r, b, h, -⟩ := s.launch_eq t e; rw [h]
@[simp] theorem State.launch_pending (s : State) (t e : Nat) : (s.launch t e).pending = s.pending := by
  obtain ⟨r, b, h, -⟩ := s.launch_eq t e; rw [h]
@[simp] theorem State.launch_now (s : State) (t e : Nat) : (s.launch t e).now = s.now := by
  obtain ⟨r, b, h, -⟩ := s.launch_eq t e; rw [h]
@[simp] theorem State.launch_cpu (s : State) (t e : Nat) : (s.launch t e).cpu = s.cpu := by
  obtain ⟨r, b, h, -⟩ := s.launch_eq t e; rw [h]
@[simp] theorem State.launch_pmu (s : State) (t e : Nat) : (s.launch t e).pmu = s.pmu := by
  obtain ⟨r, b, h, -⟩ := s.launch_eq t e; rw [h]
@[simp] theorem State.launch_rods (s : State) (t e : Nat) : (s.launch t e).tbl.rods = s.tbl.rods := by
  obtain ⟨r, b, h, -⟩ := s.launch_eq t e; rw [h]
@[simp] theorem State.launch_queue (s : State) (t e : Nat) : (s.launch t e).tbl.queue = s.tbl.queue := by
  obtain ⟨r, b, h, -⟩ := s.launch_eq t e; rw [h]
@[simp] theorem State.launch_count (s : State) (t e : Nat) : (s.launch t e).tbl.count = s.tbl.count := by
  obtain ⟨r, b, h, -⟩ := s.launch_eq t e; rw [h]
@[simp] theorem State.launch_fwdIn (s : State) (t e : Nat) : (s.launch t e).tbl.fwdIn = s.tbl.fwdIn := by
  obtain ⟨r, b, h, -⟩ := s.launch_eq t e; rw [h]
@[simp] theorem State.launch_trgin (s : State) (t e : Nat) : (s.launch t e).tbl.trgin = s.tbl.trgin := by
  obtain ⟨r, b, h, -⟩ := s.launch_eq t e; rw [h]

/-- A launch touches no register but its two counters. -/
theorem State.launch_rd (s : State) (t e a : Nat) (h1 : a ≠ Reg.TBL_SUPPRCNT) (h2 : a ≠ Reg.TBL_MERGECNT) :
    (s.launch t e).rd a = s.rd a := by
  obtain ⟨r, b, h, hr⟩ := s.launch_eq t e
  rw [h]; exact hr a h1 h2

theorem State.launch_get (s : State) (t e : Nat) (f : Fld) (h1 : f.addr ≠ Reg.TBL_SUPPRCNT) (h2 : f.addr ≠ Reg.TBL_MERGECNT) :
    (s.launch t e).get f = s.get f := by
  unfold State.get State.rdN; rw [State.launch_rd _ _ _ _ h1 h2]

/-- A launch to `g` is on its way. -/
def State.hasLaunch (s : State) (g : Nat) : Prop := ∃ l ∈ s.tbl.inflight, l.target = g

theorem addLaunch_has (l : Launch) (m : List Launch) : ∃ x ∈ (addLaunch l m).1, x.target = l.target := by
  induction m with
  | nil => exact ⟨l, by simp [addLaunch], rfl⟩
  | cons y t ih =>
    unfold addLaunch
    split
    · rename_i h; exact ⟨_, List.mem_cons_self, h.1⟩
    · obtain ⟨x, hx, he⟩ := ih; exact ⟨x, List.mem_cons_of_mem _ hx, he⟩

theorem addLaunch_keeps (l : Launch) (m : List Launch) (g : Nat) (h : ∃ x ∈ m, x.target = g) :
    ∃ x ∈ (addLaunch l m).1, x.target = g := by
  induction m with
  | nil => obtain ⟨x, hx, -⟩ := h; cases hx
  | cons y t ih =>
    obtain ⟨x, hx, he⟩ := h
    unfold addLaunch
    split
    · rcases List.mem_cons.mp hx with rfl | h'
      · exact ⟨_, List.mem_cons_self, he⟩
      · exact ⟨x, List.mem_cons_of_mem _ h', he⟩
    · rcases List.mem_cons.mp hx with rfl | h'
      · exact ⟨x, List.mem_cons_self, he⟩
      · obtain ⟨z, hz, hz'⟩ := ih ⟨x, h', he⟩; exact ⟨z, List.mem_cons_of_mem _ hz, hz'⟩

theorem State.launch_hasLaunch (s : State) (t e : Nat) (h : s.suppressed = false) : (s.launch t e).hasLaunch t := by
  unfold State.launch State.hasLaunch
  simp only [h, Bool.false_eq_true, if_false]
  split
  · simpa using addLaunch_has ⟨t, e, s.tbl.count, s.now⟩ s.tbl.inflight
  · simpa using addLaunch_has ⟨t, e, s.tbl.count, s.now⟩ s.tbl.inflight

theorem State.launch_keeps (s : State) (t e g : Nat) (h : s.hasLaunch g) : (s.launch t e).hasLaunch g := by
  unfold State.launch State.hasLaunch
  unfold State.hasLaunch at h
  split
  · simpa using h
  · simp only []
    split
    · simpa using addLaunch_keeps ⟨t, e, s.tbl.count, s.now⟩ s.tbl.inflight g h
    · simpa using addLaunch_keeps ⟨t, e, s.tbl.count, s.now⟩ s.tbl.inflight g h

/-- A launch does not change whether launches are suppressed. -/
theorem State.launch_suppressed (s : State) (t e : Nat) : (s.launch t e).suppressed = s.suppressed := by
  have h1 : (s.launch t e).get Fd.TBL_CTRL_DBGSTOP = s.get Fd.TBL_CTRL_DBGSTOP := State.launch_get _ _ _ _ (by decide) (by decide)
  have h2 : (s.launch t e).get Fd.TBL_STATUS_HOLD = s.get Fd.TBL_STATUS_HOLD := State.launch_get _ _ _ _ (by decide) (by decide)
  have h3 : (s.launch t e).get Fd.SYSCFG_DBGSEL_SEL = s.get Fd.SYSCFG_DBGSEL_SEL := State.launch_get _ _ _ _ (by decide) (by decide)
  simp [State.suppressed, State.selHalted, State.on, h1, h2, h3]

theorem State.launch_selects (s : State) (t e g src : Nat) (hg : g < 112) : (s.launch t e).selects g src = s.selects g src := by
  have h1 : (s.launch t e).get (Fd.TBL_TGTSEL_EN g) = s.get (Fd.TBL_TGTSEL_EN g) := by
    apply State.launch_get <;> simp [Fd.TBL_TGTSEL_EN, Reg.TBL_TGTSEL, Reg.TBL_SUPPRCNT, Reg.TBL_MERGECNT] <;> omega
  have h2 : (s.launch t e).get (Fd.TBL_TGTSEL_SRC g) = s.get (Fd.TBL_TGTSEL_SRC g) := by
    apply State.launch_get <;> simp [Fd.TBL_TGTSEL_SRC, Reg.TBL_TGTSEL, Reg.TBL_SUPPRCNT, Reg.TBL_MERGECNT] <;> omega
  simp [State.selects, State.on, h1, h2]

/-! ### Forwarding and firing (R49, R50) -/

/-- Forwarding touches nothing but the link's queue of events. -/
theorem State.forward_eq (s : State) (l : Fin 4) (c e : Nat) : ∃ k, s.forward l c e = { s with link := k } := by
  unfold State.forward
  split
  · exact ⟨_, rfl⟩
  · exact ⟨s.link, rfl⟩

/-- What neither a launch nor a forwarding changes, a firing source leaves. -/
theorem State.fire_same {β : Type} (g : State → β) (h1 : ∀ s t e, g (s.launch t e) = g s)
    (h2 : ∀ (s : State) k, g { s with link := k } = g s) (s : State) (src e : Nat) : g (s.fire src e) = g s := by
  unfold State.fire
  rw [foldl_same g]
  · rw [foldl_same g]
    intro s x; split
    · exact h1 _ _ _
    · rfl
  · intro s l
    rw [foldl_same g]
    intro s c; split
    · obtain ⟨k, hk⟩ := s.forward_eq l c e; rw [hk, h2]
    · rfl

@[simp] theorem State.fire_mem (s : State) (src e : Nat) : (s.fire src e).mem = s.mem :=
  State.fire_same _ (by simp) (fun _ _ => rfl) s src e
@[simp] theorem State.fire_now (s : State) (src e : Nat) : (s.fire src e).now = s.now :=
  State.fire_same _ (by simp) (fun _ _ => rfl) s src e
@[simp] theorem State.fire_pending (s : State) (src e : Nat) : (s.fire src e).pending = s.pending :=
  State.fire_same _ (by simp) (fun _ _ => rfl) s src e
@[simp] theorem State.fire_rods (s : State) (src e : Nat) : (s.fire src e).tbl.rods = s.tbl.rods :=
  State.fire_same (fun s => s.tbl.rods) (by simp) (fun _ _ => rfl) s src e
@[simp] theorem State.fire_queue (s : State) (src e : Nat) : (s.fire src e).tbl.queue = s.tbl.queue :=
  State.fire_same (fun s => s.tbl.queue) (by simp) (fun _ _ => rfl) s src e
@[simp] theorem State.fire_count (s : State) (src e : Nat) : (s.fire src e).tbl.count = s.tbl.count :=
  State.fire_same (fun s => s.tbl.count) (by simp) (fun _ _ => rfl) s src e
@[simp] theorem State.fire_fwdIn (s : State) (src e : Nat) : (s.fire src e).tbl.fwdIn = s.tbl.fwdIn :=
  State.fire_same (fun s => s.tbl.fwdIn) (by simp) (fun _ _ => rfl) s src e
@[simp] theorem State.fire_trgin (s : State) (src e : Nat) : (s.fire src e).tbl.trgin = s.tbl.trgin :=
  State.fire_same (fun s => s.tbl.trgin) (by simp) (fun _ _ => rfl) s src e
@[simp] theorem State.fire_suppressed (s : State) (src e : Nat) : (s.fire src e).suppressed = s.suppressed :=
  State.fire_same _ State.launch_suppressed (fun _ _ => rfl) s src e

/-- A firing source touches no register but the two counters of the launches. -/
theorem State.fire_rd (s : State) (src e a : Nat) (h1 : a ≠ Reg.TBL_SUPPRCNT) (h2 : a ≠ Reg.TBL_MERGECNT) :
    (s.fire src e).rd a = s.rd a :=
  State.fire_same (fun s => s.rd a) (fun s t e => s.launch_rd t e a h1 h2) (fun _ _ => rfl) s src e

theorem State.fire_get (s : State) (src e : Nat) (f : Fld) (h1 : f.addr ≠ Reg.TBL_SUPPRCNT) (h2 : f.addr ≠ Reg.TBL_MERGECNT) :
    (s.fire src e).get f = s.get f := by
  unfold State.get State.rdN; rw [State.fire_rd _ _ _ _ h1 h2]

theorem State.fire_keeps (s : State) (src e g : Nat) (h : s.hasLaunch g) : (s.fire src e).hasLaunch g := by
  unfold State.fire
  simp only []
  refine foldl_keeps (fun s : State => s.hasLaunch g) _ ?_ _ _ ?_
  · intro s l hs
    refine foldl_keeps (fun s : State => s.hasLaunch g) _ ?_ _ _ hs
    intro s c hs; split
    · obtain ⟨k, hk⟩ := s.forward_eq l c e; rw [hk]; exact hs
    · exact hs
  · refine foldl_keeps (fun s : State => s.hasLaunch g) _ ?_ _ _ h
    intro s t hs; split
    · exact s.launch_keeps t e g hs
    · exact hs

/-- R52: a source that fires launches every enabled target that selects it. -/
theorem State.fire_hasLaunch (s : State) (src e g : Nat) (hg : g < 112) (h : s.selects g src = true)
    (hn : s.suppressed = false) : (s.fire src e).hasLaunch g := by
  unfold State.fire
  simp only []
  refine foldl_keeps (fun s : State => s.hasLaunch g) _ ?_ _ _ ?_
  · intro s l hs
    refine foldl_keeps (fun s : State => s.hasLaunch g) _ ?_ _ _ hs
    intro s c hs; split
    · obtain ⟨k, hk⟩ := s.forward_eq l c e; rw [hk]; exact hs
    · exact hs
  · refine foldl_brings (fun s => s.hasLaunch g) (fun s => s.selects g src = true ∧ s.suppressed = false) _ ?_ ?_ _ g
      (List.mem_range.mpr hg) ?_ s ⟨h, hn⟩
    · intro s x hs
      split
      · exact ⟨by rw [State.launch_selects _ _ _ _ _ hg]; exact hs.1, by rw [State.launch_suppressed]; exact hs.2⟩
      · exact hs
    · intro s x hs; split
      · exact s.launch_keeps x e g hs
      · exact hs
    · intro s hs
      rw [if_pos hs.1]
      exact s.launch_hasLaunch g e hs.2

theorem State.fire_selects (s : State) (src e g src' : Nat) (hg : g < 112) : (s.fire src e).selects g src' = s.selects g src' :=
  State.fire_same (fun s => s.selects g src') (fun s t e => s.launch_selects t e g src' hg) (fun _ _ => rfl) s src e

end Sys2Proof.Machine
end

