-- ==== Sys2Proof/Tests/Build.lean ====
section
/-! SUPPORT. Helpers that build the small states of the tests and the witnesses. -/
namespace Sys2Proof.Tests
open Sys2Proof.Machine

/-- The state after reset with registers stored: pairs of address and word. -/
def withRegs (l : List (Nat × Word)) : State := l.foldl (fun s e => s.wr e.1 e.2) State.reset

/-- The state after reset with fields set: pairs of field and value. -/
def withFields (l : List (Fld × Nat)) : State := l.foldl (fun s e => s.put e.1 e.2) State.reset

/-- A line that carries one bit a period, in either mode. -/
def mdat (bits : List Bool) : List MdatPeriod := bits.map fun b => ⟨if b then BitVec.allOnes 640 else 0, if b then 1 else 2⟩

/-- Registers of a core for the witnesses: small and extreme words. -/
def someCpu (pc : Word) : Cpu :=
  { d := Vector.ofFn fun i : Fin 16 => BitVec.ofNat 32 (i.val * 0x10000003 + 5), a := Vector.ofFn fun i : Fin 8 => pc + BitVec.ofNat 32 (0x800 + 8 * i.val),
    w := Vector.ofFn fun i : Fin 4 => BitVec.ofNat 72 (i.val * 2 ^ 69 + 7), p := 5, pc := pc }

/-- Reckoner 0 runs a task in its instruction memory. -/
def rkRunning : State :=
  { withFields [(Fd.PLL_STATUS_SYSLOCK, 1)] with
    cpu := State.reset.cpu.set 0 (someCpu 0x24000000)
    rk := State.reset.rk.set 0 { task := some ⟨3, 0, none, 0⟩ } }

/-- Steward 0 runs in system SRAM. -/
def stRunning : State :=
  { (State.reset.put (Fd.SYSCFG_ST_STATUS_RUN 0) 1) with cpu := State.reset.cpu.set 4 (someCpu 0x20000100) }

/-- Group 11's lane is open and has frames to send. -/
def lane11 : State :=
  { withFields [(Fd.PLL_STATUS_SYNCLOCK, 1), (Fd.DRIVE_G_CFG_LANEEN 11, 1), (Fd.DRIVE_G_STAT_STATE 11, 0)] with
    drive := { groups := Vector.replicate 12 { slots := [15, 3, 4], freeAt := 90 } } }

/-- Group 11's lane is open and idle. -/
def lane11idle : State := { lane11 with drive := { groups := Vector.replicate 12 { refresh := 15 } } }

/-- Group 0's lane has a frame whose edge is near. -/
def lateLane : State :=
  { withFields [(Fd.PLL_STATUS_SYNCLOCK, 1), (Fd.DRIVE_G_CFG_LANEEN 0, 1), (Fd.DRIVE_G_STAT_STATE 0, 0), (Fd.PWM_C_ACTPER_PER 0, 32000),
      (Fd.PWM_LEG_CFG_EN 0, 1), (Fd.PWM_LEG_CFG_MODE 0, 1), (Fd.PWM_CTRL_OUTEN, 1), (Fd.PWM_STATUS_HUWAIT, 0),
      (Fd.PWM_LEG_ACTA_VALUE 0, 1000), (Fd.PWM_LEG_ACTB_VALUE 0, 20000)] with
    drive := { groups := Vector.replicate 12 { slots := [0, 4] } }
    pwm := { carriers := Vector.replicate 8 { run := true } } }

/-- Leg 47 is due for a refresh. -/
def rfLeg : State :=
  { withFields [(Fd.PLL_STATUS_SYNCLOCK, 1), (Fd.PWM_C_ACTPER_PER 0, 32000), (Fd.PWM_LEG_CFG_EN 47, 1), (Fd.PWM_CTRL_OUTEN, 1),
      (Fd.PWM_STATUS_HUWAIT, 0), (Fd.DRIVE_LEG_HS_K 47, 2), (Fd.PWM_LEG_STATE_H 47, 1), (Fd.PWM_LEG_STATE_REF 47, 1)] with
    pwm := { carriers := Vector.replicate 8 { run := true }, legs := Vector.replicate 48 { zeros := 2, zeroSeen := true } } }

/-- Every setting's eye is open from step 8 to step 55. -/
def eyesOpen : LaneScan := ⟨Vector.replicate 16 0xFF000000000000FF⟩

/-- The bits of a cell on lanes that have carried nothing. -/
def lanesOf (c : BitVec 256) : LaneBits := ⟨(laneSend c 0 {}).1, (laneSend c 1 {}).1⟩

/-- Grid point `g` runs and a full cycle of its inputs' samples has arrived. -/
def gridFed (g : Fin 4) : State :=
  { withFields [(Fd.PLL_STATUS_SYNCLOCK, 1), (Fd.PLL_STATUS_SYSLOCK, 1), (Fd.PLL_MCLKDIV_ACTEN 0, 1), (Fd.SEQ_GP_CFG_EN g, 1),
      (⟨Reg.SEQ_GP_NOMV g, 0, 32⟩, 100), (Fd.SEQ_GP_CFG_RATE g, 1)] with
    gp := State.reset.gp.upd g fun p =>
      { p with lastU := some 320800000, hist := Vector.replicate 6 [(321600100, 90#32), (0, 70#32)] } }

end Sys2Proof.Tests
end

