-- ==== Sys2Proof/Tests/Slice0.lean ====
section
/-! SUPPORT. Tests of the model: ill-formed commands, and worked examples of the specification with the numbers that it gives. -/
namespace Sys2Proof.Tests
open Sys2Proof.Machine

/-! ### Ill-formed commands: one term for each check of `Instr.wf` -/

theorem test_wf_good_word : (Instr.add 0 ⟨0, false, 1, 2, 3, 0⟩).wf = true := by decide
theorem test_wf_reserved_predicate : (Instr.add 0 ⟨9, false, 1, 2, 3, 0⟩).wf = false := by decide
theorem test_wf_extension_on_register_form : (Instr.add 0 ⟨0, true, 1, 2, 3, 0⟩).wf = false := by decide
theorem test_wf_reserved_bits : (Instr.add 0 ⟨0, false, 1, 2, 3, 1⟩).wf = false := by decide
theorem test_wf_select_reserved_bit : (Instr.sel 0 ⟨0, false, 1, 2, 3, 4⟩).wf = false := by decide
theorem test_wf_unused_field : (Instr.tdone 0 ⟨0, false, 1, 0, 0, 0⟩).wf = false := by decide
theorem test_wf_accumulator_field : (Instr.clrw 0 ⟨0, false, 4, 0, 0, 0⟩).wf = false := by decide
theorem test_wf_predicate_field : (Instr.pand 0 ⟨0, false, 4, 0, 0, 0⟩).wf = false := by decide
theorem test_wf_address_field : (Instr.callr 0 ⟨0, false, 0, 8, 0, 0⟩).wf = false := by decide
theorem test_wf_extr_shift_bits : (Instr.extr 0 ⟨0, 0, 0, 64, none⟩).wf = false := by decide
theorem test_wf_extension_word_bits : (Instr.extr 0 ⟨0, 0, 0, 0, some 64⟩).wf = false := by decide
theorem test_wf_address_mode : (Instr.ldW 0 ⟨0, 0, 0, 3, 0, none⟩).wf = false := by decide
theorem test_wf_doubleword_register : (Instr.ldD 0 ⟨0, 1, 0, 0, 0, none⟩).wf = false := by decide
theorem test_wf_address_register : (Instr.lda 0 ⟨0, 8, 0, 0, 0, none⟩).wf = false := by decide
theorem test_wf_macd_data_field : (Instr.macd 0 ⟨0, false, 0, 1, 0, 0, 0, false, 0⟩).wf = false := by decide
theorem test_wf_macd_index_mode : (Instr.macd 0 ⟨0, false, 0, 0, 0, 0, 3, false, 0⟩).wf = false := by decide
theorem test_wf_macc_index_field : (Instr.macc 0 ⟨0, false, 0, 0, 0, 1, 0, false, 0⟩).wf = false := by decide
theorem test_wf_loop_without_body : (Instr.loop 0 ⟨0, false, 0, false, 0, 5⟩).wf = false := by decide
theorem test_wf_branch_predicate : (Instr.br 0 ⟨9, 0, none⟩).wf = false := by decide
theorem test_wf_smp_on_steward : (Instr.smp 4 ⟨0, false, 0, 0, 0, false, 0⟩).wf = false := by decide
theorem test_wf_reti_on_reckoner : (Instr.reti 0 ⟨0, false, 0, 0, 0, 0⟩).wf = false := by decide
theorem test_wf_cache_operation : (Instr.ccln 4 ⟨0, 1, 0, 0, 0, none⟩).wf = false := by decide
theorem test_wf_host_write_of_nothing : (Instr.hostWrite 0 []).wf = false := by decide
theorem test_wf_consent_set : (Instr.consentOpen 5).wf = false := by decide

/-! ### Worked examples of the specification -/

/-- 02_timebase_launch.md: a correction of 12.5 ppm is written as 0x0020_C49C. -/
theorem test_addfrac_example : (((withFields [(Fd.PLL_STATUS_SYNCLOCK, 1)]).addfracWrite 0x0020C49C).rd Reg.TBL_ADDFRAC) = 0x0020C49C := by decide +kernel

/-- 01_architecture.md: 0xAC02_0104 on device 0 is PWM_LOADALL of the far device. -/
theorem test_remote_address_example : farAddr 0xAC020104 = some 0x40020104 := by decide

/-- 09_gate_drive.md: the frame word of leg 1, high switch, turn-on at step 11, charge pump. -/
theorem test_frame_example : frameWord 1 false false 11 true false = 0xA5C8 := by decide

/-- 06_reckoner_isa.md: the first MACD of the example. -/
def macdExample : State :=
  let c : Cpu := { pc := 0x24000000, a := (Vector.replicate 8 0).set 0 0x24010100 }
  { rkRunning with
    cpu := rkRunning.cpu.set 0 c
    mem := [(0x24010100, 0x33), (0x24010101, 0x33), (0x24010102, 0x33), (0x24010103, 0x33), (0x24020003, 0x60), (0x24020004, 1)] }

theorem test_macd_example :
    (match exec (.macd 0 ⟨0, false, 0, 0, 1, 0, 1, true, 0⟩) macdExample with
      | .next t => t.cpu[0].w[0] == BitVec.ofNat 72 (2576980377 * 2 ^ 30) && t.cpu[0].a[0] == 0x24010104 && t.cpu[0].a[1] == 1
      | _ => false) = true := by decide +kernel

/-- 06_reckoner_isa.md: the extraction at the end of the example. -/
theorem test_extr_example : (extract (BitVec.ofNat 72 (2576980377 * 2 ^ 30 + 1649267442 * 2 ^ 21)) 0).1 = 0x4CE56041 := by decide

/-- 05_aux_converter.md: a raw full-scale reading of 6,710,000 is corrected to 6,710,885. -/
theorem test_acu_gain_example :
    ((withRegs [(calOfs 5, 0x4D2), (calGain 5, 0x40052D), (Reg.ACU_CFG, 0xFFFFFFFF)]).corrected true 5 6710000).1 = 6710885 := by decide +kernel

/-- 17_ocelo_links.md: RTT = 24,352 at 10 Gbit/s gives MEAS = 1,520 tbu. -/
theorem test_link_meas_example :
    ((withFields [(Fd.LINK_L_CTRL_RATE 2, 2)]).linkRtt 2 24352).get (Fd.TBL_LFWDMEAS_MEAS 2) = 1520 := by decide +kernel

/-- 20_power_holdup_sentinel.md: 1,200 µF and 0.3 Ω at 20 V hold 177.6 mJ. -/
theorem test_holdup_example :
    (withFields [(Fd.PMU_HUMEAS_CAP, 1200), (Fd.PMU_HUMEAS_ESR, 300), (Fd.PMU_CHOLD_MV, 20000)]).eAvail = 177 := by decide +kernel

/-- 21_monitors_background.md: the worst case of 192,272 tbu is rounded up to 192,280. -/
theorem test_latency_example : roundLatency 192272 = 192280 := by decide

/-- 17_ocelo_links.md: the first eight values of the scrambler's output on lane 0. -/
theorem test_scrambler_example :
    scramble (laneSeed 0) (List.replicate 8 false) = [false, false, true, false, false, false, true, false] := by decide

/-! ### Instruction words, written out from R129–R131: PRED, E, OP, then the fields of the format -/

theorem test_word_nop : decodeInsn 0 0 9 = some (.nop 0 ⟨0, false, 0, 0, 0, 0⟩) := by decide
/-- (p3) ADDS d1, d2, d3: 0111 0 000001 0001 0010 0011 000010 000. -/
theorem test_word_adds : decodeInsn 1 0b01110000001000100100011000010000 9 = some (.adds 1 ⟨7, false, 1, 2, 3, 0⟩) := by decide
/-- MOVI d15, with its extension word: 0000 1 010000 1111 0000 0000000000000. -/
theorem test_word_movi : decodeInsn 5 0b00001010000111100000000000000000 0x89ABCDEF = some (.movi 5 ⟨0, 15, 0, 0, some 0x89ABCDEF⟩) := by decide
/-- LD.W d9, [a5 + OFS −1], mode 2: 0000 0 011100 1001 101 10 111111111111. -/
theorem test_word_ldw : decodeInsn 0 0b00000011100100110110111111111111 9 = some (.ldW 0 ⟨0, 9, 5, 2, 0xFFF, none⟩) := by decide
/-- MSUC w2, d12, a6, IX 3, IC: 0000 0 000100 10 1100 110 000 011 11 1 000. -/
theorem test_word_msuc : decodeInsn 0 0b00000000100101100110000011111000 9 = some (.msuc 0 ⟨0, false, 2, 12, 6, 0, 3, true, 0⟩) := by decide
/-- (not p0) BR −2: 1100 0 101000 111111111111111111110. -/
theorem test_word_br : decodeInsn 0 0b11000101000111111111111111111110 9 = some (.br 0 ⟨12, 0x1FFFFE, none⟩) := by decide
/-- LOOP lc1, 5 words, 200 turns: 0000 0 101010 1 0 00000000101 11001000. -/
theorem test_word_loop : decodeInsn 0 0b00000101010100000000010111001000 9 = some (.loop 0 ⟨0, false, 1, false, 5, 200⟩) := by decide
/-- SMP d3, p2, channel 67: 0000 0 110000 0011 10 000000 0 01000011. -/
theorem test_word_smp : decodeInsn 0 0b00000110000001110000000001000011 9 = some (.smp 0 ⟨0, false, 3, 2, 0, false, 67⟩) := by decide
/-- CINV, RD = 1: 0000 0 111110 0001 000 00 000000000000. -/
theorem test_word_cinv : decodeInsn 4 0b00000111110000100000000000000000 9 = some (.cinv 4 ⟨0, 1, 0, 0, 0, none⟩) := by decide
theorem test_word_reserved_opcode : decodeInsn 0 0b00000111111000000000000000000000 9 = none := by decide
theorem test_word_reserved_function : decodeInsn 0 0b00000000001000000000000011011000 9 = none := by decide

/-! ### The step -/

/-- A command in front runs; the rest of the queue stays. -/
theorem test_step_takes_the_front :
    (match step { (withFields [(Fd.PLL_STATUS_SYNCLOCK, 1)]) with pending := [.addfracWrite 7, .queuePush] } with
      | .next t => t.rd Reg.TBL_ADDFRAC == 7 && t.pending == [.queuePush]
      | _ => false) = true := by decide +kernel

/-- On an empty queue one PWM cycle of physical time passes. -/
theorem test_step_idles : (match step State.reset with | .next t => t.now == 40 && t.pending == [] | _ => false) = true := by
  decide +kernel

end Sys2Proof.Tests
end

