-- ==== Sys2Proof/Tests/Witnesses.lean ====
section
/-! SUPPORT. For every clause of an obligation that has hypotheses, a state and operands that meet all of them. -/
set_option Elab.async false
set_option linter.unusedVariables false
namespace Sys2Proof.Tests
open Sys2Proof.Machine

theorem witness_StepRunsFrontCommand_a :
    ∃ (c : Instr) (rest : List Instr) (s : State), s.pending = c :: rest :=
  ⟨.acuSingle, [.queuePush], { State.reset with pending := [.acuSingle, .queuePush] }, by decide +kernel⟩

theorem witness_QueueAndIdleStep_a :
    ∃ (s : State), s.pending = [] :=
  ⟨State.reset, by decide +kernel⟩

theorem witness_QueueAndIdleStep_b :
    ∃ (s : State), s.pending = [] ∧ s.host.queue = [] ∧ (∀ l : Fin 4, (s.port l).reqIn = [] ∧ (s.port l).strIn = []) ∧ s.xbar.stalled = [] ∧
      s.stalledOps = 0 ∧ s.xbar.blocked = [] ∧ s.eth.kicked = 0 ∧ (∀ n : Fin 4, s.rk[n].task = none) ∧
      (∀ n : Fin 2, s.on (Fd.SYSCFG_ST_STATUS_RUN n) = false) :=
  ⟨State.reset, by decide +kernel⟩

theorem witness_QueueAndIdleStep_c :
    ∃ (c : Instr) (s : State) (t : State), exec c s = .next t :=
  ⟨.queuePush, State.reset, State.reset.queuePush, rfl⟩

theorem witness_StepKeepsCanonical_a :
    ∃ (s : State) (t : State), s.canonical ∧ step s = .next t :=
  ⟨State.reset, State.reset.idle, by decide +kernel, rfl⟩

theorem witness_StepKeepsQueueWellFormed_a :
    ∃ (s : State) (t : State), s.queueWf ∧ step s = .next t :=
  ⟨{ State.reset with pending := [.queuePush] }, State.reset.queuePush, by decide +kernel, rfl⟩

theorem witness_RegisterAccesses_a :
    ∃ (a : Word) (v : Word) (r : RegRow) (s : State), isReg a.toNat ∧ region a.toNat = .regs ∧ s.writeOp a.toNat v = none ∧
      regRow a.toNat = some r ∧ s.pmu.clocksOff = false ∧ s.justSetMask a.toNat = 0 :=
  ⟨0x40000400#32, 7, ((regRow 0x40000400).get (by decide +kernel)), State.reset, by decide +kernel⟩

theorem witness_RegisterAccesses_b :
    ∃ (a : Word) (r : RegRow) (s : State), isReg a.toNat ∧ s.readActs a.toNat = none ∧ s.shown a.toNat = none ∧ regRow a.toNat = some r ∧
      r.rd = .clear :=
  ⟨0x40000040#32, ((regRow 0x40000040).get (by decide +kernel)), withRegs [(0x40000040, 5)], by decide +kernel⟩

theorem witness_RegisterAccesses_c :
    ∃ (a : Word) (r : RegRow) (s : State), isReg a.toNat ∧ s.readActs a.toNat = none ∧ s.shown a.toNat = none ∧ regRow a.toNat = some r ∧
      r.rd = .latch :=
  ⟨0x40000c04#32, ((regRow 0x40000c04).get (by decide +kernel)), (State.reset.setStamp 0x40000c04 0x123456789A), by decide +kernel⟩

theorem witness_RegisterAccesses_d :
    ∃ (m : BitVec 16) (s : State), s.gpioPort.wrote ≠ some s.now :=
  ⟨0xA5#16, withFields [(Fd.SYSCFG_GPIO_OUT_OUT, 0x0F)], by decide +kernel⟩

theorem witness_RegisterAccesses_e :
    ∃ (m : BitVec 16) (s : State), s.gpioPort.wrote ≠ some s.now :=
  ⟨0xA5#16, withFields [(Fd.SYSCFG_GPIO_OUT_OUT, 0x0F)], by decide +kernel⟩

theorem witness_CrossbarTransactions_a :
    ∃ (m : Master) (a : Access) (tag : Fin 64) (s : State), ownAccess m a = false ∧ s.pmu.clocksOff = false ∧ s.xbar.stalled = [] ∧
      s.blockIdle = true ∧ s.freeTag (masterRow m) = some tag ∧ a.write = none ∧
      (region a.addr.toNat = .rom ∨ (region a.addr.toNat = .sram ∧ s.eccBad a.addr.toNat = false)) ∧
      busOk a.addr.toNat (accBytes a) false :=
  ⟨.steward 0, ⟨0x20000000, 2, none⟩, 10, { State.reset with mem := [(0x20000001, 7)] }, by decide +kernel⟩

theorem witness_CrossbarTransactions_b :
    ∃ (m : Master) (a : Access) (s : State), ownAccess m a = false ∧ s.pmu.clocksOff = false ∧ s.freeTag (masterRow m) = none ∧
      s.blockIdle = true :=
  ⟨.reckoner 0, ⟨0x20000000, 2, none⟩, { State.reset with xbar := { tags := Vector.replicate 64 (some ⟨.reckoner 0, ⟨0, 2, none⟩, none⟩) } }, by decide +kernel⟩

theorem witness_CrossbarTransactions_c :
    ∃ (tag : Fin 64) (m : Master) (a : Access) (v : Nat) (s : State), s.xbar.tags[tag] = some ⟨m, a, some (true, v)⟩ ∧ a.write = none ∧
      s.xbar.stalled = [] ∧ s.blockIdle = true ∧ s.stalledOps = 0 ∧ (∀ (l : Fin 4) (g : BitVec 6), m ≠ .link l g) :=
  ⟨10, .steward 0, ⟨0x20000000, 2, none⟩, 9, { State.reset with xbar := { tags := Vector.replicate 64 (some ⟨.steward 0, ⟨0x20000000, 2, none⟩, some (true, 9)⟩) } }, by decide +kernel⟩

theorem witness_CrossbarTransactions_d :
    ∃ (n : Fin 4) (tag : Fin 64) (rest : List (Fin 64)) (m : Master) (a : Access) (d : BitVec 64) (s : State), s.sysPllClk = true ∧
      s.xbar.tcm[n] = tag :: rest ∧ s.tcmNext n = some (tag, ⟨m, a, none⟩) ∧ a.write = some d ∧ region a.addr.toNat = .tcm n ∧
      busOk a.addr.toNat (accBytes a) true :=
  ⟨1, 10, [], .steward 0, ⟨0x24040004, 2, some 0x11223344⟩, 0x11223344, { withFields [(Fd.PLL_STATUS_SYSLOCK, 1)] with xbar := { tcm := Vector.replicate 4 [10], tags := Vector.replicate 64 (some ⟨.steward 0, ⟨0x24040004, 2, some 0x11223344⟩, none⟩) } }, by decide +kernel⟩

theorem witness_MramDurabilityAndWear_a :
    ∃ (s : State), s.get Fd.MRAMC_STATUS_DEPTH = 1 ∧ s.mramc.moving = none :=
  ⟨withFields [(Fd.MRAMC_STATUS_DEPTH, 1), (Fd.MRAMC_STATUS_BUSY, 1)], by decide +kernel⟩

theorem witness_MramDurabilityAndWear_b :
    ∃ (s : State), 1 < s.get Fd.MRAMC_STATUS_DEPTH :=
  ⟨withFields [(Fd.MRAMC_STATUS_DEPTH, 2)], by decide +kernel⟩

theorem witness_MramDurabilityAndWear_c :
    ∃ (s : State), s.mramc.moving = none ∧ s.pmu.warned = false ∧ s.on Fd.PLL_STATUS_SYSLOCK ∧
      s.leastWritten.2 + 2 ^ 20 ≤ s.mostWritten.2 :=
  ⟨{ withFields [(Fd.PLL_STATUS_SYSLOCK, 1)] with mramc := { pages := [(3, 2000000)] } }, by decide +kernel⟩

theorem witness_MramDurabilityAndWear_d :
    ∃ (s : State) (p : Nat) (q : Nat), s.mramc.moving = some (p, q) ∧ s.mramc.stalled = [] :=
  ⟨{ State.reset with mramc := { moving := some (3, 0) } }, 3, 0, by decide +kernel⟩

theorem witness_AddfracClamp_a :
    ∃ (v : Word) (s : State), s.follower = false ∧ s.pwmClk = true ∧ s.landing = false :=
  ⟨0x7FFFFFFF#32, withFields [(Fd.PLL_STATUS_SYNCLOCK, 1)], by decide +kernel⟩

theorem witness_AddfracClamp_b :
    ∃ (v : Word) (s : State), s.follower = false ∧ s.pwmClk = false ∧ s.parked = [] :=
  ⟨0x7FFFFFFF#32, State.reset, by decide +kernel⟩

theorem witness_AddfracClamp_c :
    ∃ (v : Word) (s : State), s.follower = true :=
  ⟨5, withFields [(Fd.TBL_CTRL_ROLE, 2)], by decide +kernel⟩

theorem witness_StepAndCountRead_a :
    ∃ (s : State), s.follower = false ∧ s.pwmClk = true :=
  ⟨withFields [(Fd.TBL_STEP_LO_STEP_LO, 100), (Fd.PLL_STATUS_SYNCLOCK, 1)], by decide +kernel⟩

theorem witness_StepAndCountRead_b :
    ∃ (s : State), s.follower = false ∧ s.pwmClk = true ∧ sx 64 (s.rdN Reg.TBL_STEP_LO + 2 ^ 32 * s.rdN Reg.TBL_STEP_HI) ≤ 0 :=
  ⟨withFields [(Fd.TBL_STEP_HI_STEP_HI, 0x80000000), (Fd.PLL_STATUS_SYNCLOCK, 1)], by decide +kernel⟩

theorem witness_StepAndCountRead_c :
    ∃ (s : State), s.follower = false ∧ s.pwmClk = true ∧ 0 < sx 64 (s.rdN Reg.TBL_STEP_LO + 2 ^ 32 * s.rdN Reg.TBL_STEP_HI) :=
  ⟨{ withFields [(Fd.TBL_STEP_LO_STEP_LO, 100), (Fd.PLL_STATUS_SYNCLOCK, 1)] with tbl := { queue := Vector.replicate 48 (some ⟨100, 2, false⟩) } }, by decide +kernel⟩

theorem witness_StepAndCountRead_d :
    ∃ (n : Fin 16) (s : State), s.follower = false ∧ s.pwmClk = true ∧ 0 < sx 64 (s.rdN Reg.TBL_STEP_LO + 2 ^ 32 * s.rdN Reg.TBL_STEP_HI) ∧
      s.on (Fd.TBL_ROD_STATE_ACTIVE n) = true ∧ s.tbl.count < s.tbl.rods[n].next ∧ 0 < s.tbl.rods[n].per ∧
      s.tbl.rods[n].next + 40 < enc 64 ((s.advance 1).tbl.count + sx 64 (s.rdN Reg.TBL_STEP_LO + 2 ^ 32 * s.rdN Reg.TBL_STEP_HI)) :=
  ⟨3, { withFields [(Fd.TBL_STEP_LO_STEP_LO, 1000), (Fd.PLL_STATUS_SYNCLOCK, 1), (Fd.TBL_ROD_STATE_ACTIVE 3, 1)] with tbl := { rods := Vector.replicate 16 ⟨90, 80⟩ } }, by decide +kernel⟩

theorem witness_StepAndCountRead_e :
    ∃ (n : Fin 16) (s : State), s.follower = false ∧ s.pwmClk = true ∧ 0 < sx 64 (s.rdN Reg.TBL_STEP_LO + 2 ^ 32 * s.rdN Reg.TBL_STEP_HI) ∧
      s.on (Fd.TBL_ROD_STATE_ACTIVE n) = true ∧ s.tbl.count < s.tbl.rods[n].next ∧ 0 < s.tbl.rods[n].per ∧
      0 < s.get (Fd.TBL_ROD_COUNT_COUNT n) ∧ s.get (Fd.TBL_ROD_STATE_REMAIN n) = 1 ∧
      s.tbl.rods[n].next + 40 < enc 64 ((s.advance 1).tbl.count + sx 64 (s.rdN Reg.TBL_STEP_LO + 2 ^ 32 * s.rdN Reg.TBL_STEP_HI)) :=
  ⟨3, { withFields [(Fd.TBL_STEP_LO_STEP_LO, 1000), (Fd.PLL_STATUS_SYNCLOCK, 1), (Fd.TBL_ROD_STATE_ACTIVE 3, 1), (Fd.TBL_ROD_COUNT_COUNT 3, 5), (Fd.TBL_ROD_STATE_REMAIN 3, 1), (Fd.TBL_ROD_CTRL_ARM 3, 1)] with tbl := { rods := Vector.replicate 16 ⟨90, 80⟩ } }, by decide +kernel⟩

theorem witness_StepAndCountRead_f :
    ∃ (s : State), s.follower = false ∧ s.pwmClk = false :=
  ⟨State.reset, by decide +kernel⟩

theorem witness_StepAndCountRead_g :
    ∃ (s : State), s.follower = true :=
  ⟨withFields [(Fd.TBL_CTRL_ROLE, 2)], by decide +kernel⟩

theorem witness_Rods_a :
    ∃ (n : Fin 16) (irq : Bool) (s : State), s.pwmClk = true ∧ s.landing = false ∧ s.on (Fd.TBL_ROD_STATE_ACTIVE n) = false ∧
      80 ≤ s.rodPer n ∧ (s.advance 2).tbl.count ≤ s.rdN (Reg.TBL_ROD_START_LO n) + 2 ^ 32 * s.rdN (Reg.TBL_ROD_START_HI n) :=
  ⟨3, true, withFields [(Fd.PLL_STATUS_SYNCLOCK, 1), (Fd.TBL_ROD_START_LO_START 3, 80), (Fd.TBL_ROD_PER_LO_PER 3, 80)], by decide +kernel⟩

theorem witness_Rods_b1 :
    ∃ (n : Fin 16) (irq : Bool) (k : Nat) (s : State), s.pwmClk = true ∧ s.landing = false ∧ s.on (Fd.TBL_ROD_STATE_ACTIVE n) = false ∧
      80 ≤ s.rodPer n ∧ 0 < k ∧ s.rdN (Reg.TBL_ROD_START_LO n) + 2 ^ 32 * s.rdN (Reg.TBL_ROD_START_HI n) + (k - 1) * s.rodPer n < (s.advance 2).tbl.count ∧ (s.advance 2).tbl.count ≤ s.rdN (Reg.TBL_ROD_START_LO n) + 2 ^ 32 * s.rdN (Reg.TBL_ROD_START_HI n) + k * s.rodPer n :=
  ⟨3, true, 1, withFields [(Fd.PLL_STATUS_SYNCLOCK, 1), (Fd.TBL_ROD_START_LO_START 3, 79), (Fd.TBL_ROD_PER_LO_PER 3, 80)], by decide +kernel⟩

theorem witness_Rods_b2 :
    ∃ (n : Fin 16) (irq : Bool) (k : Nat) (s : State), s.pwmClk = true ∧ s.landing = false ∧ s.on (Fd.TBL_ROD_STATE_ACTIVE n) = false ∧
      80 ≤ s.rodPer n ∧ 0 < k ∧ s.rdN (Reg.TBL_ROD_START_LO n) + 2 ^ 32 * s.rdN (Reg.TBL_ROD_START_HI n) + (k - 1) * s.rodPer n < (s.advance 2).tbl.count ∧ (s.advance 2).tbl.count ≤ s.rdN (Reg.TBL_ROD_START_LO n) + 2 ^ 32 * s.rdN (Reg.TBL_ROD_START_HI n) + k * s.rodPer n :=
  ⟨3, true, 1, withFields [(Fd.PLL_STATUS_SYNCLOCK, 1), (Fd.TBL_ROD_COUNT_COUNT 3, 1), (Fd.TBL_ROD_PER_LO_PER 3, 80)], by decide +kernel⟩

theorem witness_Rods_c :
    ∃ (n : Fin 16) (irq : Bool) (s : State), s.pwmClk = true ∧ s.landing = false ∧ s.on (Fd.TBL_ROD_STATE_ACTIVE n) = false ∧
      s.rodPer n < 80 :=
  ⟨3, true, withFields [(Fd.PLL_STATUS_SYNCLOCK, 1), (Fd.TBL_ROD_PER_LO_PER 3, 79)], by decide +kernel⟩

theorem witness_Rods_d :
    ∃ (n : Fin 16) (irq : Bool) (s : State), s.pwmClk = true ∧ s.landing = false ∧ s.on (Fd.TBL_ROD_STATE_ACTIVE n) = true :=
  ⟨3, true, withFields [(Fd.PLL_STATUS_SYNCLOCK, 1), (Fd.TBL_ROD_STATE_ACTIVE 3, 1)], by decide +kernel⟩

theorem witness_Rods_e :
    ∃ (n : Fin 16) (irq : Bool) (hi : BitVec 8) (s : State), s.pwmClk = false :=
  ⟨3, true, 1, State.reset, by decide +kernel⟩

theorem witness_Rods_f :
    ∃ (n : Fin 16) (hi : BitVec 8) (s : State), s.pwmClk = true ∧ s.on (Fd.TBL_ROD_STATE_ACTIVE n) = true ∧
      80 ≤ s.rdN (Reg.TBL_ROD_PER_LO n) + 2 ^ 32 * hi.toNat :=
  ⟨3, 1, withFields [(Fd.PLL_STATUS_SYNCLOCK, 1), (Fd.TBL_ROD_STATE_ACTIVE 3, 1)], by decide +kernel⟩

theorem witness_Rods_g :
    ∃ (n : Fin 16) (hi : BitVec 8) (s : State), s.pwmClk = true ∧ s.on (Fd.TBL_ROD_STATE_ACTIVE n) = true ∧
      s.rdN (Reg.TBL_ROD_PER_LO n) + 2 ^ 32 * hi.toNat < 80 :=
  ⟨3, 0, withFields [(Fd.PLL_STATUS_SYNCLOCK, 1), (Fd.TBL_ROD_STATE_ACTIVE 3, 1), (Fd.TBL_ROD_PER_LO_PER 3, 79)], by decide +kernel⟩

theorem witness_Rods_h :
    ∃ (n : Fin 16) (hi : BitVec 8) (s : State), s.pwmClk = true ∧ s.on (Fd.TBL_ROD_STATE_ACTIVE n) = false :=
  ⟨3, 1, withFields [(Fd.PLL_STATUS_SYNCLOCK, 1)], by decide +kernel⟩

theorem witness_Rods_i :
    ∃ (n : Fin 16) (s : State), s.on (Fd.TBL_ROD_STATE_ACTIVE n) = true ∧ s.pwmClk = true :=
  ⟨3, { withFields [(Fd.PLL_STATUS_SYNCLOCK, 1), (Fd.TBL_ROD_STATE_ACTIVE 3, 1), (Fd.TBL_ROD_COUNT_COUNT 3, 1), (Fd.TBL_ROD_STATE_REMAIN 3, 1), (Fd.TBL_ROD_CTRL_IRQ 3, 1)] with tbl := { rods := Vector.replicate 16 ⟨0, 80⟩ } }, by decide +kernel⟩

theorem witness_Rods_j :
    ∃ (n : Fin 16) (g : Nat) (s : State), s.on (Fd.TBL_ROD_STATE_ACTIVE n) = true ∧ s.pwmClk = true ∧ g < 112 ∧ s.selects g n.val = true ∧
      s.suppressed = false :=
  ⟨3, 111, { withFields [(Fd.PLL_STATUS_SYNCLOCK, 1), (Fd.TBL_ROD_STATE_ACTIVE 3, 1), (Fd.TBL_TGTSEL_EN 111, 1), (Fd.TBL_TGTSEL_SRC 111, 3)] with tbl := { rods := Vector.replicate 16 ⟨0, 80⟩ } }, by decide +kernel⟩

theorem witness_LaunchQueue_a :
    ∃ (h : Fin 48) (s : State), s.get Fd.TBL_QTARGET_TARGET ≤ 111 ∧ s.tbl.freeHandle = some h :=
  ⟨0, withFields [(Fd.TBL_QTARGET_TARGET, 111)], by decide +kernel⟩

theorem witness_LaunchQueue_b :
    ∃ (s : State), s.get Fd.TBL_QTARGET_TARGET ≤ 111 ∧ s.tbl.freeHandle = none :=
  ⟨{ State.reset with tbl := { queue := Vector.replicate 48 (some ⟨9, 2, false⟩) } }, by decide +kernel⟩

theorem witness_LaunchQueue_c :
    ∃ (s : State), 111 < s.get Fd.TBL_QTARGET_TARGET :=
  ⟨withFields [(Fd.TBL_QTARGET_TARGET, 112)], by decide +kernel⟩

theorem witness_LaunchQueue_d :
    ∃ (h : Fin 48) (e : QEntry) (s : State), s.tbl.firstEntry = some (h, e) ∧ s.pwmClk = true :=
  ⟨0, ⟨0, 2, false⟩, { withFields [(Fd.PLL_STATUS_SYNCLOCK, 1)] with tbl := { queue := Vector.replicate 48 (some ⟨0, 2, false⟩) } }, by decide +kernel⟩

theorem witness_LaunchQueue_e :
    ∃ (k : BitVec 6) (hk : k.toNat < 48) (e : QEntry) (s : State), (s.tbl.queue[k.toNat]'hk) = some e ∧ s.pwmClk = true :=
  ⟨47, (by decide), ⟨9, 2, false⟩, { withFields [(Fd.PLL_STATUS_SYNCLOCK, 1)] with tbl := { queue := Vector.replicate 48 (some ⟨9, 2, false⟩) } }, by decide +kernel⟩

theorem witness_LaunchQueue_f :
    ∃ (k : BitVec 6) (hk : k.toNat < 48) (e : QEntry) (s : State), (s.tbl.queue[k.toNat]'hk) = some e ∧ s.pwmClk = true ∧
      s.landing = false ∧ e.time ≤ (s.advance 2).tbl.count ∧ s.tbl.level ≤ 1 ∧ (s.advance 2).tbl.firedNow = 0 ∧ s.suppressed = false :=
  ⟨47, (by decide), ⟨9, 2, false⟩, { withFields [(Fd.PLL_STATUS_SYNCLOCK, 1)] with tbl := { queue := (Vector.replicate 48 none).set 47 (some ⟨9, 2, false⟩) } }, by decide +kernel⟩

theorem witness_LaunchQueue_g :
    ∃ (k : BitVec 6) (hk : k.toNat < 48) (s : State), (s.tbl.queue[k.toNat]'hk) = none ∧ s.pwmClk = true ∧ s.landing = false :=
  ⟨47, (by decide), withFields [(Fd.PLL_STATUS_SYNCLOCK, 1)], by decide +kernel⟩

theorem witness_LaunchQueue_h :
    ∃ (s : State), s.pwmClk = true :=
  ⟨withFields [(Fd.PLL_STATUS_SYNCLOCK, 1)], by decide +kernel⟩

theorem witness_LaunchSourcesAndTriggers_a :
    ∃ (v : BitVec 16) (i : Nat) (g : Nat) (s : State), i < 16 ∧ v.getLsbD i = true ∧ g < 112 ∧ s.selects g (84 + i) = true ∧
      s.suppressed = false ∧ s.pwmClk = true :=
  ⟨0x8001#16, 15, 111, withFields [(Fd.PLL_STATUS_SYNCLOCK, 1), (Fd.TBL_TGTSEL_EN 111, 1), (Fd.TBL_TGTSEL_SRC 111, 99)], by decide +kernel⟩

theorem witness_LaunchSourcesAndTriggers_b :
    ∃ (i : Fin 8) (rising : Bool) (held : Nat) (g : Nat) (s : State), s.tbl.trgin.getLsbD i.val = !rising ∧ s.pwmClk = true ∧
      s.get (Fd.TBL_TRGIN_CFG_FILT i) ≤ held ∧ (s.get (Fd.TBL_TRGIN_CFG_EDGE i)).testBit (if rising then 0 else 1) = true ∧ g < 112 ∧
      s.selects g (16 + i.val) = true ∧ s.suppressed = false :=
  ⟨7, false, 0, 0, { withFields [(Fd.PLL_STATUS_SYNCLOCK, 1), (Fd.TBL_TRGIN_CFG_EDGE 7, 2), (Fd.TBL_TGTSEL_EN 0, 1), (Fd.TBL_TGTSEL_SRC 0, 23)] with tbl := { trgin := 0x80 } }, by decide +kernel⟩

theorem witness_LaunchSourcesAndTriggers_c :
    ∃ (i : Fin 8) (rising : Bool) (held : Nat) (s : State), (held < s.get (Fd.TBL_TRGIN_CFG_FILT i) ∨ s.pwmClk = false) :=
  ⟨7, true, 2, withFields [(Fd.PLL_STATUS_SYNCLOCK, 1), (Fd.TBL_TRGIN_CFG_FILT 7, 3)], by decide +kernel⟩

theorem witness_LaunchSourcesAndTriggers_d :
    ∃ (l : Fin 4) (c : Fin 8) (e : FwdEvent) (g : Nat) (s : State), firstFwd (24 + 8 * l.val + c.val) s.tbl.fwdIn = some e ∧ e.late = true ∧
      s.pwmClk = true ∧ g < 112 ∧ s.selects g e.src = true ∧ s.suppressed = false :=
  ⟨1, 2, ⟨34, 0, true⟩, 5, { withFields [(Fd.PLL_STATUS_SYNCLOCK, 1), (Fd.TBL_TGTSEL_EN 5, 1), (Fd.TBL_TGTSEL_SRC 5, 34)] with tbl := { fwdIn := [⟨34, 0, true⟩] } }, by decide +kernel⟩

theorem witness_LaunchSourcesAndTriggers_e :
    ∃ (j : Fin 8) (l : Launch) (s : State), s.launchOf (100 + j.val) = some l ∧ s.pwmClk = true :=
  ⟨2, ⟨102, 5, 5, 0⟩, { withFields [(Fd.PLL_STATUS_SYNCLOCK, 1)] with tbl := { inflight := [⟨102, 5, 5, 0⟩] } }, by decide +kernel⟩

theorem witness_LaunchSourcesAndTriggers_f :
    ∃ (j : Fin 8) (s : State), s.pwmClk = false :=
  ⟨2, { State.reset with tbl := { inflight := [⟨102, 5, 5, 0⟩] } }, by decide +kernel⟩

theorem witness_LaunchSourcesAndTriggers_g :
    ∃ (j : Fin 8) (w : Nat) (s : State), s.tbl.pulse[j] = some w ∧ s.pwmClk = true :=
  ⟨2, 4, { withFields [(Fd.PLL_STATUS_SYNCLOCK, 1)] with tbl := { pulse := Vector.replicate 8 (some 4) } }, by decide +kernel⟩

theorem witness_LaunchSourcesAndTriggers_h :
    ∃ (s : State), s.on Fd.PLL_STATUS_SYNCLOCK = true :=
  ⟨withFields [(Fd.PLL_STATUS_SYNCLOCK, 1), (Fd.TBL_STATUS_HOLD, 1)], by decide +kernel⟩

theorem witness_PllLockAndDividers_c :
    ∃ (band : Fin 32) (s : State), s.pll.sysLocking = true ∧ s.pll.sysRefLost = false ∧ s.parked = [] :=
  ⟨31, State.reset, by decide +kernel⟩

theorem witness_PllLockAndDividers_d :
    ∃ (band : Fin 32) (s : State), s.pll.syncLocking = true ∧ s.pll.syncRefLost = false ∧ s.pll.syncStopped = false ∧ s.tbl.stepWait = [] ∧
      s.pll.mclkEn = 0 ∧ s.parked = [] ∧ (∀ k : Fin 12, s.on (Fd.DRIVE_G_CFG_LANEEN k) = false) :=
  ⟨7, State.reset, by decide +kernel⟩

theorem witness_PllLockAndDividers_e :
    ∃ (band : Fin 32) (s : State), s.pll.syncLocking = true ∧ s.pll.syncRefLost = false ∧ s.pll.syncStopped = true ∧ s.tbl.stepWait = [] ∧
      s.parked = [] :=
  ⟨7, { State.reset with pll := { syncStopped := true } }, by decide +kernel⟩

theorem witness_PllLockAndDividers_f :
    ∃ (band : Fin 32) (s : State), s.pll.sysRefLost = true ∧ s.parked = [] :=
  ⟨7, { State.reset with pll := { sysRefLost := true } }, by decide +kernel⟩

theorem witness_PllLockAndDividers_g :
    ∃ (band : Fin 32) (s : State), s.pll.syncRefLost = true ∧ s.parked = [] :=
  ⟨7, { State.reset with pll := { syncRefLost := true } }, by decide +kernel⟩

theorem witness_PllLockAndDividers_h :
    ∃ (s : State), s.on Fd.PLL_STATUS_SYNCLOCK = true :=
  ⟨withFields [(Fd.PLL_STATUS_SYNCLOCK, 1)], by decide +kernel⟩

theorem witness_PllLockAndDividers_i :
    ∃ (s : State), s.on Fd.PLL_STATUS_SYSLOCK = true :=
  ⟨withFields [(Fd.PLL_STATUS_SYSLOCK, 1)], by decide +kernel⟩

theorem witness_PllLockAndDividers_j :
    ∃ (s : State), s.on Fd.PLL_STATUS_SYSLOCK = true :=
  ⟨withFields [(Fd.PLL_STATUS_SYSLOCK, 1)], by decide +kernel⟩

theorem witness_PllLockAndDividers_k :
    ∃ (s : State), s.on Fd.PLL_STATUS_SYNCLOCK = true :=
  ⟨withFields [(Fd.PLL_STATUS_SYNCLOCK, 1)], by decide +kernel⟩

theorem witness_PllLockAndDividers_n :
    ∃ (s : State), s.on Fd.PLL_UPDATE_PEND = false :=
  ⟨State.reset, by decide +kernel⟩

theorem witness_PllLockAndDividers_o :
    ∃ (s : State), s.on Fd.PLL_UPDATE_PEND = true :=
  ⟨withFields [(Fd.PLL_UPDATE_PEND, 1)], by decide +kernel⟩

theorem witness_PllLockAndDividers_p :
    ∃ (vck : Vector Supply 8) (mclk : Vector Word 7) (ck : Vector Word 8) (g : Fin 7) (s : State), s.pll.caught = some (mclk, ck) ∧
      s.pll.syncRefLost = false ∧ s.parked = [] ∧ (∀ n : Fin 56, s.on (Fd.MODIN_IN_CFG_EN n) = false) :=
  ⟨Vector.replicate 8 .v33, Vector.replicate 7 0x8140#32, Vector.replicate 8 0, 6, { withFields [(Fd.PLL_UPDATE_PEND, 1)] with pll := { caught := some (Vector.replicate 7 0x8140#32, Vector.replicate 8 0) } }, by decide +kernel⟩

theorem witness_PllLockAndDividers_q :
    ∃ (vck : Vector Supply 8) (mclk : Vector Word 7) (ck : Vector Word 8) (n : Fin 8) (s : State), s.pll.caught = some (mclk, ck) ∧
      s.pll.syncRefLost = false ∧ s.parked = [] ∧ (∀ n : Fin 56, s.on (Fd.MODIN_IN_CFG_EN n) = false) ∧ cut ck[n].toNat 16 3 = 0 :=
  ⟨Vector.replicate 8 .v33, Vector.replicate 7 0x8140#32, Vector.replicate 8 0, 7, { withFields [(Fd.PLL_UPDATE_PEND, 1), (Fd.PLL_CKOUTSTAT_ERR, 255)] with pll := { caught := some (Vector.replicate 7 0x8140#32, Vector.replicate 8 0) } }, by decide +kernel⟩

theorem witness_ModinResults_a :
    ∃ (n : Fin 56) (line : List MdatPeriod) (s : State), s.on (Fd.MODIN_IN_CFG_EN n) = true ∧ s.mclkOn (grpOf n) = true ∧
      s.on (Fd.MODIN_GCFG_DEC (grpOf n)) = false :=
  ⟨9, mdat [true, true], withFields [(Fd.MODIN_IN_CFG_EN 9, 1), (Fd.MODIN_IN_CFG_ORD 9, 3), (Fd.MODIN_IN_CFG_OSR 9, 8), (Fd.PLL_MCLKDIV_ACTDIV 1, 160), (Fd.PLL_MCLKDIV_ACTEN 1, 1)], by decide +kernel⟩

theorem witness_ModinResults_b :
    ∃ (n : Fin 56) (line : List MdatPeriod) (b : Strobe) (s : State), s.on (Fd.MODIN_IN_CFG_EN n) = true ∧ s.mclkOn (grpOf n) = true ∧
      s.on (Fd.MODIN_GCFG_DEC (grpOf n)) = true ∧ s.modin.strobes[grpOf n].find? (fun b => b.left.getLsbD (n.val % 8)) = some b :=
  ⟨9, mdat [true, true], ⟨0, 2⟩, { withFields [(Fd.MODIN_IN_CFG_EN 9, 1), (Fd.MODIN_IN_CFG_ORD 9, 3), (Fd.MODIN_IN_CFG_OSR 9, 8), (Fd.PLL_MCLKDIV_ACTDIV 1, 160), (Fd.PLL_MCLKDIV_ACTEN 1, 1), (Fd.MODIN_GCFG_DEC 1, 1)] with modin := { strobes := Vector.replicate 7 [⟨0, 2⟩] } }, by decide +kernel⟩

theorem witness_ModinResults_c :
    ∃ (n : Fin 56) (line : List MdatPeriod) (s : State), s.on (Fd.MODIN_IN_CFG_EN n) = false :=
  ⟨9, [], State.reset, by decide +kernel⟩

theorem witness_StrobesAndComparators_a :
    ∃ (g : Fin 7) (l : Launch) (s : State), s.pmu.clocksOff = false ∧ s.launchOf (48 + g.val) = some l ∧ s.mclkOn g = true ∧
      s.on (Fd.MODIN_GCFG_DEC g) = true ∧ s.modin.strobes[g].length < 4 ∧ (∃ n : Fin 56, grpOf n = g ∧
      s.on (Fd.MODIN_IN_CFG_EN n) = true) :=
  ⟨6, ⟨54, 100, 100, 0⟩, { withFields [(Fd.MODIN_IN_CFG_EN 55, 1), (Fd.PLL_MCLKDIV_ACTEN 6, 1), (Fd.MODIN_GCFG_DEC 6, 1)] with tbl := { inflight := [⟨54, 100, 100, 0⟩] } }, by decide +kernel⟩

theorem witness_StrobesAndComparators_b :
    ∃ (g : Fin 7) (l : Launch) (s : State), s.pmu.clocksOff = false ∧ s.launchOf (48 + g.val) = some l ∧ s.mclkOn g = true ∧
      s.on (Fd.MODIN_GCFG_DEC g) = true ∧ 4 ≤ s.modin.strobes[g].length :=
  ⟨6, ⟨54, 100, 100, 0⟩, { withFields [(Fd.PLL_MCLKDIV_ACTEN 6, 1), (Fd.MODIN_GCFG_DEC 6, 1)] with tbl := { inflight := [⟨54, 100, 100, 0⟩] }, modin := { strobes := Vector.replicate 7 [⟨0, 2⟩, ⟨0, 2⟩, ⟨0, 2⟩, ⟨0, 2⟩] } }, by decide +kernel⟩

theorem witness_StrobesAndComparators_c :
    ∃ (g : Fin 7) (l : Launch) (s : State), s.pmu.clocksOff = false ∧ s.launchOf (48 + g.val) = some l ∧ s.mclkOn g = false :=
  ⟨6, ⟨54, 100, 100, 0⟩, { State.reset with tbl := { inflight := [⟨54, 100, 100, 0⟩] } }, by decide +kernel⟩

theorem witness_StrobesAndComparators_d :
    ∃ (n : Fin 56) (line : List MdatPeriod) (vs : List Int) (s : State), s.on (Fd.MODIN_IN_CFG_EN n) = true ∧ s.mclkOn (grpOf n) = true ∧
      s.ocEnabled n true = true ∧ s.fastOf n (cut (s.ocCfg n) 4 4 + 1) (s.received n line) = some vs :=
  ⟨3, mdat (List.replicate 24 true), [2147483647], { withFields [(Fd.MODIN_IN_CFG_EN 3, 1), (Fd.MODIN_IN_CFG_FORD 3, 1), (Fd.MODIN_IN_CFG_FOSR 3, 8), (Fd.PLL_MCLKDIV_ACTEN 0, 1), (Fd.MODIN_IN_OCCFG_HIEN 3, 1), (Fd.MODIN_IN_THHI_TH 3, 100)] with now := 100000 }, by decide +kernel⟩

theorem witness_StrobesAndComparators_e :
    ∃ (n : Fin 56) (line : List MdatPeriod) (vs : List Int) (s : State), s.on (Fd.MODIN_IN_CFG_EN n) = true ∧ s.mclkOn (grpOf n) = true ∧
      s.ocEnabled n false = true ∧ s.fastOf n (cut (s.ocCfg n) 4 4 + 1) (s.received n line) = some vs :=
  ⟨3, mdat (List.replicate 24 false), [-2147483648], { withFields [(Fd.MODIN_IN_CFG_EN 3, 1), (Fd.MODIN_IN_CFG_FORD 3, 1), (Fd.MODIN_IN_CFG_FOSR 3, 8), (Fd.PLL_MCLKDIV_ACTEN 0, 1), (Fd.MODIN_IN_OCCFG_LOEN 3, 1), (Fd.MODIN_IN_THLO_TH 3, 100)] with now := 100000 }, by decide +kernel⟩

theorem witness_StrobesAndComparators_f :
    ∃ (n : Fin 56) (hi : Bool) (line : List MdatPeriod) (s : State), s.fastOf n (cut (s.ocCfg n) 4 4 + 1) (s.received n line) = none :=
  ⟨3, true, [], withFields [(Fd.MODIN_IN_CFG_EN 3, 1), (Fd.MODIN_IN_CFG_FORD 3, 1), (Fd.MODIN_IN_CFG_FOSR 3, 8)], by decide +kernel⟩

theorem witness_StrobesAndComparators_g :
    ∃ (n : Fin 56) (hi : Bool) (line : List MdatPeriod) (v : Int) (s : State), s.on (Fd.MODIN_IN_CFG_EN n) = true ∧
      s.mclkOn (grpOf n) = true ∧ s.fastOf n 1 (s.received n line) = some [v] ∧ (s.ocEnabled n hi = false ∨ s.ocCond n hi 0 v = false) :=
  ⟨3, true, mdat (List.replicate 24 false), -2147483648, { withFields [(Fd.MODIN_IN_CFG_EN 3, 1), (Fd.MODIN_IN_CFG_FORD 3, 1), (Fd.MODIN_IN_CFG_FOSR 3, 8), (Fd.PLL_MCLKDIV_ACTEN 0, 1), (Fd.MODIN_IN_OCCFG_HIEN 3, 1), (Fd.MODIN_IN_THHI_TH 3, 100)] with now := 100000 }, by decide +kernel⟩

theorem witness_ModinHealthAndConfiguration_a :
    ∃ (n : Fin 56) (missing : Nat) (s : State), s.on (Fd.MODIN_IN_CFG_EN n) = true ∧ 4 ≤ missing ∧ s.checked n missing = true :=
  ⟨55, 4, { withFields [(Fd.MODIN_IN_CFG_EN 55, 1)] with now := 100000 }, by decide +kernel⟩

theorem witness_ModinHealthAndConfiguration_b :
    ∃ (n : Fin 56) (missing : Nat) (s : State), missing < (if s.get (Fd.MODIN_GCFG_MODE (grpOf n)) = 0 then 4 else 2) :=
  ⟨55, 3, withFields [(Fd.MODIN_IN_CFG_EN 55, 1)], by decide +kernel⟩

theorem witness_ModinHealthAndConfiguration_c :
    ∃ (n : Fin 56) (line : List MdatPeriod) (s : State), s.on (Fd.MODIN_IN_CFG_EN n) = true ∧ s.mclkOn (grpOf n) = true ∧ s.runLimit n ≠ 0 ∧
      alike (s.runLimit n + 1) (s.sinceStart n (s.received n line)) = true :=
  ⟨55, mdat (List.replicate 17 true), withFields [(Fd.MODIN_IN_CFG_EN 55, 1), (Fd.MODIN_IN_HCFG_ACTMAX 55, 8), (Fd.PLL_MCLKDIV_ACTEN 6, 1), (Fd.PLL_MCLKDIV_ACTDIV 6, 128), (Fd.PLL_STATUS_SYNCLOCK, 1)] |> fun s => { s with now := 1000000 }, by decide +kernel⟩

theorem witness_ModinHealthAndConfiguration_d :
    ∃ (n : Fin 56) (line : List MdatPeriod) (s : State), (s.runLimit n = 0 ∨
      alike (s.runLimit n + 1) (s.sinceStart n (s.received n line)) = false) :=
  ⟨55, [], withFields [(Fd.MODIN_IN_HCFG_ACTMAX 55, 0)], by decide +kernel⟩

theorem witness_ModinHealthAndConfiguration_e :
    ∃ (n : Fin 56) (cell : BitVec 2) (s : State), s.on (Fd.MODIN_IN_CFG_EN n) = true ∧ s.get (Fd.MODIN_GCFG_MODE (grpOf n)) = 1 ∧
      s.pmu.clocksOff = false ∧ cell.getLsbD 0 = cell.getLsbD 1 :=
  ⟨55, 3, withFields [(Fd.MODIN_IN_CFG_EN 55, 1), (Fd.MODIN_GCFG_MODE 6, 1), (Fd.MODIN_IN_HCFG_MANVTHR 55, 1)], by decide +kernel⟩

theorem witness_ModinHealthAndConfiguration_f :
    ∃ (n : Fin 56) (absent : Nat) (s : State), s.modin.inputs[n].clk = true ∧ s.absentLong n s.modin.inputs[n].clkAt absent = true :=
  ⟨55, 400, { withFields [(Fd.PLL_MCLKDIV_ACTDIV 6, 128), (Fd.PLL_MCLKDIV_ACTEN 6, 1)] with now := 1000000, modin := { inputs := Vector.replicate 56 { clk := true } } }, by decide +kernel⟩

theorem witness_ModinHealthAndConfiguration_g :
    ∃ (n : Fin 56) (absent : Nat) (s : State), s.modin.inputs[n].stuck = true ∧ s.absentLong n s.modin.inputs[n].stuckAt absent = true :=
  ⟨55, 400, { withFields [(Fd.PLL_MCLKDIV_ACTDIV 6, 128), (Fd.PLL_MCLKDIV_ACTEN 6, 1)] with now := 1000000, modin := { inputs := Vector.replicate 56 { stuck := true } } }, by decide +kernel⟩

theorem witness_ModinHealthAndConfiguration_h :
    ∃ (n : Fin 56) (absent : Nat) (s : State), s.modin.inputs[n].manv = true ∧ s.mclkOn (grpOf n) = true :=
  ⟨55, 0, { withFields [(Fd.PLL_MCLKDIV_ACTDIV 6, 128), (Fd.PLL_MCLKDIV_ACTEN 6, 1)] with modin := { inputs := Vector.replicate 56 { manv := true, manvEnd := 1000 } } }, by decide +kernel⟩

theorem witness_ModinHealthAndConfiguration_i :
    ∃ (n : Fin 56) (v : Word) (s : State), s.on (Fd.MODIN_IN_CFG_EN n) = true ∧ s.parked = [] ∧ v.getLsbD 0 = true :=
  ⟨5, 1#32, withFields [(Fd.MODIN_IN_CFG_EN 5, 1)], by decide +kernel⟩

theorem witness_ModinHealthAndConfiguration_j :
    ∃ (n : Fin 56) (v : Word) (s : State), s.on (Fd.MODIN_IN_CFG_EN n) = true ∧ s.parked = [] ∧ s.mclkOn (grpOf n) = true ∧
      v.getLsbD 0 = false :=
  ⟨5, 0#32, withFields [(Fd.MODIN_IN_CFG_EN 5, 1), (Fd.PLL_MCLKDIV_ACTDIV 0, 128), (Fd.PLL_MCLKDIV_ACTEN 0, 1)], by decide +kernel⟩

theorem witness_ModinHealthAndConfiguration_k :
    ∃ (n : Fin 56) (v : Word) (s : State), s.on (Fd.MODIN_IN_CFG_EN n) = true ∧ s.parked = [] ∧ s.mclkOn (grpOf n) = false ∧
      v.getLsbD 0 = false :=
  ⟨5, 0#32, withFields [(Fd.MODIN_IN_CFG_EN 5, 1)], by decide +kernel⟩

theorem witness_ModinHealthAndConfiguration_l :
    ∃ (n : Fin 56) (v : Word) (s : State), s.on (Fd.MODIN_IN_CFG_EN n) = false ∧ s.parked = [] ∧ inCfgOk v.toNat = false :=
  ⟨5, 0#32, State.reset, by decide +kernel⟩

theorem witness_ModinHealthAndConfiguration_m :
    ∃ (n : Fin 56) (v : Word) (s : State), s.on (Fd.MODIN_IN_CFG_EN n) = false ∧ s.parked = [] ∧ s.landing = false ∧
      s.mclkOn (grpOf n) = true ∧ inCfgOk v.toNat = true ∧ v.getLsbD 0 = true ∧ s.get (Fd.MODIN_GCFG_MODE (grpOf n)) < 2 ∧
      128 ≤ s.get (Fd.PLL_MCLKDIV_ACTDIV (grpOf n)) :=
  ⟨5, 0x00A50087#32, withFields [(Fd.PLL_MCLKDIV_ACTDIV 0, 128), (Fd.PLL_MCLKDIV_ACTEN 0, 1)], by decide +kernel⟩

theorem witness_ModinHealthAndConfiguration_n :
    ∃ (n : Fin 56) (v : Word) (s : State), s.on (Fd.MODIN_IN_CFG_EN n) = false ∧ s.parked = [] ∧ inCfgOk v.toNat = true ∧
      v.getLsbD 0 = false :=
  ⟨5, 0x00A50086#32, State.reset, by decide +kernel⟩

theorem witness_ModinHealthAndConfiguration_o :
    ∃ (g : Fin 7) (v : Word) (s : State), (∀ n : Fin 56, grpOf n = g → s.on (Fd.MODIN_IN_CFG_EN n) = false) ∧ s.parked = [] ∧
      s.mclkOn g = true :=
  ⟨5, 0x1234#32, withFields [(Fd.PLL_MCLKDIV_ACTDIV 5, 128), (Fd.PLL_MCLKDIV_ACTEN 5, 1)], by decide +kernel⟩

theorem witness_ModinHealthAndConfiguration_p :
    ∃ (g : Fin 7) (v : Word) (s : State), (∀ n : Fin 56, grpOf n = g → s.on (Fd.MODIN_IN_CFG_EN n) = false) ∧ s.parked = [] ∧
      s.mclkOn g = false :=
  ⟨5, 0x1234#32, State.reset, by decide +kernel⟩

theorem witness_ModinHealthAndConfiguration_q :
    ∃ (g : Fin 7) (v : Word) (n : Fin 56) (s : State), grpOf n = g ∧ s.on (Fd.MODIN_IN_CFG_EN n) = true ∧ s.parked = [] :=
  ⟨6, 0x1234#32, 55, withFields [(Fd.MODIN_IN_CFG_EN 55, 1)], by decide +kernel⟩

theorem witness_AcuCommands_a :
    ∃ (s : State), selOk (s.get Fd.ACU_CHSEL_CH) (s.get Fd.ACU_CHSEL_OSR) = true ∧ s.acu.run = none ∧ s.on Fd.ACU_STATUS_LISTRUN = false ∧
      s.pmu.warned = false :=
  ⟨withFields [(Fd.ACU_CHSEL_CH, 55)], by decide +kernel⟩

theorem witness_AcuCommands_b :
    ∃ (s : State), selOk (s.get Fd.ACU_CHSEL_CH) (s.get Fd.ACU_CHSEL_OSR) = false :=
  ⟨withFields [(Fd.ACU_CHSEL_CH, 56)], by decide +kernel⟩

theorem witness_AcuCommands_c :
    ∃ (s : State), s.on Fd.ACU_STATUS_LISTRUN = false ∧ s.acu.cal = none ∧ s.pmu.warned = false ∧ s.acu.run.isSome = true :=
  ⟨{ State.reset with acu := { run := some { kind := .single, ch := 0, osr := 256 } } }, by decide +kernel⟩

theorem witness_AcuCommands_d :
    ∃ (s : State), s.on Fd.ACU_STATUS_LISTRUN = false ∧ s.acu.cal = none ∧ s.pmu.warned = false ∧ s.acu.run = none ∧ s.acu.urgent = 0 ∧
      s.acu.interrupted = none ∧ s.on Fd.ACU_CFG_PACE = false :=
  ⟨withFields [(Fd.ACU_LISTCTRL_FIRST, 1023)], by decide +kernel⟩

theorem witness_AcuCommands_e :
    ∃ (s : State), s.on Fd.ACU_STATUS_LISTRUN = true :=
  ⟨withFields [(Fd.ACU_STATUS_LISTRUN, 1)], by decide +kernel⟩

theorem witness_AcuCommands_f :
    ∃ (s : State), s.on Fd.ACU_STATUS_LISTRUN = true ∧ s.acu.run = none ∧ s.acu.interrupted = none :=
  ⟨withFields [(Fd.ACU_STATUS_LISTRUN, 1)], by decide +kernel⟩

theorem witness_AcuCommands_g :
    ∃ (c : AcuConv) (s : State), s.on Fd.ACU_STATUS_LISTRUN = true ∧ s.acu.run = some c ∧ c.kind = .list :=
  ⟨{ kind := .list, ch := 0, osr := 256 }, { withFields [(Fd.ACU_STATUS_LISTRUN, 1)] with acu := { run := some { kind := .list, ch := 0, osr := 256 } } }, by decide +kernel⟩

theorem witness_AcuCommands_h :
    ∃ (s : State), selOk (s.get Fd.ACU_CALCH_CH) (s.get Fd.ACU_CALCH_OSR) = true ∧ s.acu.run = none ∧ s.on Fd.ACU_STATUS_LISTRUN = false ∧
      s.pmu.warned = false ∧ s.acu.urgent = 0 ∧ s.acu.interrupted = none :=
  ⟨withFields [(Fd.ACU_CALCH_CH, 3), (Fd.ACU_CALCH_AVG, 2)], by decide +kernel⟩

theorem witness_AcuCommands_i :
    ∃ (s : State), selOk (s.get Fd.ACU_CALCH_CH) (s.get Fd.ACU_CALCH_OSR) = true ∧ s.acu.run = none ∧ s.on Fd.ACU_STATUS_LISTRUN = false ∧
      s.pmu.warned = false ∧ s.acu.urgent = 0 ∧ s.acu.interrupted = none :=
  ⟨withFields [(Fd.ACU_CALCH_CH, 3), (Fd.ACU_CALCH_AVG, 15)], by decide +kernel⟩

theorem witness_AcuCommands_j1 :
    ∃ (v : Word) (s : State), s.acu.run = none ∧ s.on Fd.ACU_STATUS_LISTRUN = false ∧ 256 ≤ cut v.toNat 16 13 ∧ cut v.toNat 16 13 ≤ 4096 :=
  ⟨0x01000005#32, State.reset, by decide +kernel⟩

theorem witness_AcuCommands_j2 :
    ∃ (v : Word) (s : State), s.acu.run = none ∧ s.on Fd.ACU_STATUS_LISTRUN = false ∧ 256 ≤ cut v.toNat 16 13 ∧ cut v.toNat 16 13 ≤ 4096 :=
  ⟨0x10000005#32, State.reset, by decide +kernel⟩

theorem witness_AcuCommands_k :
    ∃ (v : Word) (s : State), s.acu.run.isSome = true ∧ cut v.toNat 16 13 ≠ s.get Fd.ACU_CFG_OSR :=
  ⟨0x01010005#32, { State.reset with acu := { run := some { kind := .single, ch := 0, osr := 256 } } }, by decide +kernel⟩

theorem witness_AcuUrgentAndSteps_a :
    ∃ (s : State), selOk (s.get Fd.ACU_URGSEL_CH) (s.get Fd.ACU_URGSEL_OSR) = true ∧ s.pmu.warned = false ∧ s.acu.run = none :=
  ⟨State.reset, by decide +kernel⟩

theorem witness_AcuUrgentAndSteps_b :
    ∃ (l : Launch) (s : State), s.launchOf 55 = some l ∧ selOk (s.get Fd.ACU_URGSEL_CH) (s.get Fd.ACU_URGSEL_OSR) = true ∧
      s.pmu.warned = false ∧ s.pmu.clocksOff = false ∧ s.acu.run = none :=
  ⟨⟨55, 7, 7, 0⟩, { State.reset with tbl := { inflight := [⟨55, 7, 7, 0⟩] } }, by decide +kernel⟩

theorem witness_AcuUrgentAndSteps_c :
    ∃ (c : AcuConv) (s : State), selOk (s.get Fd.ACU_URGSEL_CH) (s.get Fd.ACU_URGSEL_OSR) = true ∧ s.pmu.warned = false ∧
      s.acu.run = some c ∧ c.kind ≠ .urgent ∧ c.fall = false ∧ s.acu.urgent ≤ 1 ∧ (∀ d ∈ s.acuDue c, s.now < d) ∧ (c.start = none →
      c.kind ≠ .single → c.asked + s.sysT ≤ s.now) :=
  ⟨{ kind := .list, ch := 0, osr := 256 }, { State.reset with now := 640, acu := { run := some { kind := .list, ch := 0, osr := 256 } } }, by decide +kernel⟩

theorem witness_AcuUrgentAndSteps_d :
    ∃ (c : AcuConv) (s : State), selOk (s.get Fd.ACU_URGSEL_CH) (s.get Fd.ACU_URGSEL_OSR) = true ∧ s.pmu.warned = false ∧
      s.acu.run = some c ∧ (c.kind = .urgent ∨ 2 ≤ s.acu.urgent) ∧ s.acu.urgent ≠ 0 :=
  ⟨{ kind := .urgent, ch := 0, osr := 256 }, { State.reset with acu := { run := some { kind := .urgent, ch := 0, osr := 256 }, urgent := 1 } }, by decide +kernel⟩

theorem witness_AcuUrgentAndSteps_e :
    ∃ (l : Launch) (s : State), s.launchOf 56 = some l ∧ s.on Fd.ACU_STATUS_LISTRUN = true ∧ s.on Fd.ACU_CFG_PACE = true ∧
      s.pmu.clocksOff = false ∧ s.on Fd.ACU_STATUS_STEPPEND = false ∧ s.acu.run.isSome = true :=
  ⟨⟨56, 7, 7, 0⟩, { withFields [(Fd.ACU_STATUS_LISTRUN, 1), (Fd.ACU_CFG_PACE, 1)] with acu := { run := some { kind := .list, ch := 0, osr := 256 } }, tbl := { inflight := [⟨56, 7, 7, 0⟩] } }, by decide +kernel⟩

theorem witness_AcuUrgentAndSteps_f :
    ∃ (l : Launch) (s : State), s.launchOf 56 = some l ∧ s.on Fd.ACU_STATUS_LISTRUN = true ∧ s.on Fd.ACU_CFG_PACE = true ∧
      s.pmu.clocksOff = false ∧ s.on Fd.ACU_STATUS_STEPPEND = true :=
  ⟨⟨56, 7, 7, 0⟩, { withFields [(Fd.ACU_STATUS_LISTRUN, 1), (Fd.ACU_CFG_PACE, 1), (Fd.ACU_STATUS_STEPPEND, 1)] with tbl := { inflight := [⟨56, 7, 7, 0⟩] } }, by decide +kernel⟩

theorem witness_AcuConversions_a :
    ∃ (ch : Nat) (osr : Nat) (at_ : Nat) (fall : Bool) (corr : Bool) (s : State),
      s.acu.run = some ⟨.single, ch, osr, none, at_, fall, corr⟩ ∧ s.mclkOn (ch / 8) = true ∧ s.acu.lost = false ∧ ch < 56 :=
  ⟨55, 256, 0, false, false, { withFields [(Fd.PLL_MCLKDIV_ACTEN 6, 1), (Fd.PLL_MCLKDIV_ACTDIV 6, 160)] with acu := { run := some { kind := .single, ch := 55, osr := 256 } } }, by decide +kernel⟩

theorem witness_AcuConversions_b :
    ∃ (ch : Nat) (osr : Nat) (at_ : Nat) (fall : Bool) (corr : Bool) (s : State), s.acu.run = some ⟨.list, ch, osr, none, at_, fall, corr⟩ ∧
      selOk (cut (s.rdN (Reg.ACU_LIST (s.get Fd.ACU_STATUS_IDX))) 0 6) (cut (s.rdN (Reg.ACU_LIST (s.get Fd.ACU_STATUS_IDX))) 16 13) = false :=
  ⟨0, 0, 0, false, false, { withFields [(⟨Reg.ACU_LIST 0, 0, 32⟩, 56)] with acu := { run := some { kind := .list, ch := 0, osr := 0 } } }, by decide +kernel⟩

theorem witness_AcuConversions_c :
    ∃ (ch : Nat) (osr : Nat) (e : Nat) (at_ : Nat) (g : Nat) (fall : Bool) (corr : Bool) (line : List MdatPeriod) (s : State),
      s.acu.run = some ⟨.single, ch, osr, some e, at_, fall, corr⟩ ∧ s.acu.turns = [] ∧ s.acu.lost = false ∧ s.mclkOn (ch / 8) = true ∧
      g < 112 ∧ s.selects g 67 = true ∧ s.suppressed = false ∧ ch < 56 ∧ 256 ≤ osr :=
  ⟨55, 256, 0, 0, 8, false, false, [], { withFields [(Fd.PLL_MCLKDIV_ACTEN 6, 1), (Fd.TBL_TGTSEL_EN 8, 1), (Fd.TBL_TGTSEL_SRC 8, 67)] with acu := { run := some { kind := .single, ch := 55, osr := 256, start := some 0 } } }, by decide +kernel⟩

theorem witness_AcuConversions_d :
    ∃ (ch : Nat) (osr : Nat) (e : Nat) (at_ : Nat) (fall : Bool) (corr : Bool) (s : State),
      s.acu.run = some ⟨.single, ch, osr, some e, at_, fall, corr⟩ ∧ ch < 56 ∧ s.mclkOn (ch / 8) = false :=
  ⟨55, 256, 0, 0, false, false, { withFields [(Fd.PLL_STATUS_SYNCLOCK, 1)] with acu := { run := some { kind := .single, ch := 55, osr := 256, start := some 0 } } }, by decide +kernel⟩

theorem witness_AcuConversions_e :
    ∃ (s : State), s.acu.run = none :=
  ⟨State.reset, by decide +kernel⟩

theorem witness_AcuConversions_f :
    ∃ (c : AcuConv) (s : State), s.acu.run = some c ∧ c.kind = .single ∧ s.acu.lost = false ∧ s.mclkOn (c.ch % 56 / 8) = true ∧ c.ch < 56 :=
  ⟨{ kind := .single, ch := 55, osr := 256 }, { withFields [(Fd.PLL_MCLKDIV_ACTEN 6, 1)] with acu := { run := some { kind := .single, ch := 55, osr := 256 } } }, by decide +kernel⟩

theorem witness_AcuConversions_g :
    ∃ (s : State), s.acu.calWrite = true ∧ s.blockIdle = true :=
  ⟨{ State.reset with acu := { calWrite := true } }, by decide +kernel⟩

theorem witness_AcuConversions_h :
    ∃ (n : Nat) (s : State), n < 32 ∧ s.on Fd.ACU_STATUS_CALLOAD = true ∧ cut (s.memRd (calEntry n) 8) 48 8 = 0xA5 :=
  ⟨31, { withFields [(Fd.ACU_STATUS_CALLOAD, 1)] with mem := [(0x089FF0FE, 0xA5)] }, by decide +kernel⟩

theorem witness_AcuConversions_i :
    ∃ (s : State), s.on Fd.ACU_STATUS_CALLOAD = false :=
  ⟨withFields [(Fd.ACU_STATUS_CALLOAD, 0)], by decide +kernel⟩

theorem witness_InstructionWords_a :
    ∃ (c : Fin 6) (w : Word) (v : Word) (x : Word) (i : Instr), decodeInsn c w x = some i ∧ decodeInsn c v x = some i :=
  ⟨0, 0x00264000#32, 0x00264000#32, 7, .add 0 ⟨0, false, 3, 2, 0, 0⟩, by decide +kernel⟩

theorem witness_InstructionWords_b :
    ∃ (c : Fin 6) (w : Word) (x : Word) (s : State), insnOp w ∈ [0x06, 0x07, 0x17, 0x1F, 0x25, 0x26, 0x27, 0x2B, 0x2C, 0x2D, 0x2E, 0x2F,
      0x32, 0x33, 0x34, 0x35, 0x36, 0x37, 0x3A, 0x3B, 0x3F] :=
  ⟨0, 0x07E00000#32, 7, State.reset, by decide +kernel⟩

theorem witness_AluInstructions_a1 :
    ∃ (c : Fin 6) (f : RForm) (s : State), Issues s c 4 f.pred ∧ f.legal .d .d .d resZero = true :=
  ⟨0, ⟨0, false, 3, 4, 5, 0⟩, rkRunning, by decide +kernel⟩

theorem witness_AluInstructions_a2 :
    ∃ (c : Fin 6) (f : RForm) (s : State), Issues s c 4 f.pred ∧ f.legal .d .d .d resZero = true :=
  ⟨4, ⟨4, false, 15, 15, 1, 0⟩, stRunning, by decide +kernel⟩

theorem witness_AluInstructions_b1 :
    ∃ (c : Fin 6) (f : RForm) (s : State), Issues s c 4 f.pred ∧ f.legal .d .d .d resZero = true :=
  ⟨0, ⟨0, false, 3, 4, 5, 0⟩, rkRunning, by decide +kernel⟩

theorem witness_AluInstructions_b2 :
    ∃ (c : Fin 6) (f : RForm) (s : State), Issues s c 4 f.pred ∧ f.legal .d .d .d resZero = true :=
  ⟨4, ⟨4, false, 15, 15, 1, 0⟩, stRunning, by decide +kernel⟩

theorem witness_AluInstructions_c :
    ∃ (c : Fin 6) (f : RForm) (s : State), Issues s c 4 f.pred ∧ f.legal .d .d .zero resZero = true :=
  ⟨0, ⟨0, false, 3, 4, 0, 0⟩, rkRunning, by decide +kernel⟩

theorem witness_AluInstructions_d :
    ∃ (c : Fin 6) (f : RForm) (s : State), Issues s c 4 f.pred ∧ f.legal .d .d .d resSel = true :=
  ⟨0, ⟨0, false, 3, 4, 5, 3⟩, rkRunning, by decide +kernel⟩

theorem witness_AluInstructions_e :
    ∃ (c : Fin 6) (f : RForm) (s : State), Issues s c 4 f.pred ∧ f.legal .a .d .zero resZero = true :=
  ⟨4, ⟨0, false, 7, 15, 0, 0⟩, stRunning, by decide +kernel⟩

theorem witness_AluInstructions_f :
    ∃ (c : Fin 6) (f : RForm) (s : State), Issues s c 4 f.pred ∧ f.legal .d .a .zero resZero = true :=
  ⟨4, ⟨0, false, 15, 7, 0, 0⟩, stRunning, by decide +kernel⟩

theorem witness_AluInstructions_g :
    ∃ (c : Fin 6) (f : RForm) (s : State), Issues s c 4 f.pred ∧ f.legal .a .a .d resZero = true :=
  ⟨4, ⟨0, false, 7, 7, 15, 0⟩, stRunning, by decide +kernel⟩

theorem witness_ImmediatesAndCompares_a1 :
    ∃ (c : Fin 6) (f : IForm) (s : State), Issues s c (extBytes f.ext) f.pred ∧ f.legal .d .d 32 = true :=
  ⟨0, ⟨0, 3, 4, 0x1FFF, none⟩, rkRunning, by decide +kernel⟩

theorem witness_ImmediatesAndCompares_a2 :
    ∃ (c : Fin 6) (f : IForm) (s : State), Issues s c (extBytes f.ext) f.pred ∧ f.legal .d .d 32 = true :=
  ⟨4, ⟨0, 3, 4, 0, some 0x7FFFFFFF⟩, stRunning, by decide +kernel⟩

theorem witness_ImmediatesAndCompares_b1 :
    ∃ (c : Fin 6) (f : IForm) (s : State), Issues s c (extBytes f.ext) f.pred ∧ f.legal .d .d 6 = true :=
  ⟨0, ⟨0, 3, 4, 63, none⟩, rkRunning, by decide +kernel⟩

theorem witness_ImmediatesAndCompares_b2 :
    ∃ (c : Fin 6) (f : IForm) (s : State), Issues s c (extBytes f.ext) f.pred ∧ f.legal .d .d 6 = true :=
  ⟨4, ⟨0, 3, 4, 0, some 31⟩, stRunning, by decide +kernel⟩

theorem witness_ImmediatesAndCompares_c :
    ∃ (c : Fin 6) (f : IForm) (s : State), Issues s c (extBytes f.ext) f.pred ∧ f.legal .p .d 32 = true :=
  ⟨0, ⟨0, 3, 4, 0x1FFF, none⟩, rkRunning, by decide +kernel⟩

theorem witness_ImmediatesAndCompares_d :
    ∃ (c : Fin 6) (f : IForm) (s : State), Issues s c (extBytes f.ext) f.pred ∧ f.legal .d .zero 32 = true :=
  ⟨0, ⟨0, 3, 0, 0x1000, none⟩, rkRunning, by decide +kernel⟩

theorem witness_ImmediatesAndCompares_e :
    ∃ (c : Fin 6) (f : IForm) (s : State), Issues s c (extBytes f.ext) f.pred ∧ f.legal .a .zero 32 = true :=
  ⟨0, ⟨0, 7, 0, 0x1000, none⟩, rkRunning, by decide +kernel⟩

theorem witness_ImmediatesAndCompares_f :
    ∃ (c : Fin 6) (f : IForm) (s : State), Issues s c (extBytes f.ext) f.pred ∧ f.legal .a .a 32 = true :=
  ⟨0, ⟨0, 7, 7, 0x1000, none⟩, rkRunning, by decide +kernel⟩

theorem witness_ImmediatesAndCompares_g :
    ∃ (c : Fin 6) (f : RForm) (s : State), Issues s c 4 f.pred ∧ f.legal .p .d .d resZero = true :=
  ⟨0, ⟨0, false, 3, 4, 5, 0⟩, rkRunning, by decide +kernel⟩

theorem witness_ImmediatesAndCompares_h :
    ∃ (c : Fin 6) (f : RForm) (s : State), Issues s c 4 f.pred ∧ f.legal .p .p .p resZero = true :=
  ⟨0, ⟨0, false, 3, 0, 1, 0⟩, rkRunning, by decide +kernel⟩

theorem witness_ImmediatesAndCompares_i :
    ∃ (c : Fin 6) (f : RForm) (s : State), Issues s c 4 f.pred ∧ f.legal .p .p .zero resZero = true :=
  ⟨0, ⟨0, false, 3, 0, 0, 0⟩, rkRunning, by decide +kernel⟩

theorem witness_ImmediatesAndCompares_j :
    ∃ (c : Fin 6) (f : RForm) (s : State), Issues s c 4 f.pred ∧ f.legal .p .zero .bit resZero = true :=
  ⟨0, ⟨0, false, 3, 0, 1, 0⟩, rkRunning, by decide +kernel⟩

theorem witness_ImmediatesAndCompares_k :
    ∃ (c : Fin 6) (f : RForm) (s : State), Issues s c 4 f.pred ∧ f.legal .p .d .zero resZero = true :=
  ⟨0, ⟨0, false, 3, 9, 0, 0⟩, rkRunning, by decide +kernel⟩

theorem witness_ImmediatesAndCompares_l :
    ∃ (c : Fin 6) (f : RForm) (s : State), Issues s c 4 f.pred ∧ f.legal .d .p .zero resZero = true :=
  ⟨0, ⟨0, false, 3, 2, 0, 0⟩, rkRunning, by decide +kernel⟩

theorem witness_AccumulatorInstructions_a :
    ∃ (c : Fin 6) (f : RForm) (s : State), Issues s c 4 f.pred ∧ f.legal .w .zero .zero resZero = true :=
  ⟨0, ⟨0, false, 3, 0, 0, 0⟩, rkRunning, by decide +kernel⟩

theorem witness_AccumulatorInstructions_b :
    ∃ (c : Fin 6) (f : RForm) (s : State), Issues s c 4 f.pred ∧ f.legal .w .w .zero resZero = true :=
  ⟨0, ⟨0, false, 3, 1, 0, 0⟩, rkRunning, by decide +kernel⟩

theorem witness_AccumulatorInstructions_c :
    ∃ (c : Fin 6) (f : RForm) (s : State), Issues s c 4 f.pred ∧ f.legal .w .zero .d resZero = true :=
  ⟨4, ⟨0, false, 3, 0, 9, 0⟩, stRunning, by decide +kernel⟩

theorem witness_AccumulatorInstructions_d :
    ∃ (c : Fin 6) (f : RForm) (s : State), Issues s c 4 f.pred ∧ f.legal .zero .w .d resZero = true :=
  ⟨0, ⟨0, false, 0, 3, 15, 0⟩, rkRunning, by decide +kernel⟩

theorem witness_AccumulatorInstructions_e :
    ∃ (c : Fin 6) (f : RForm) (s : State), Issues s c 4 f.pred ∧ f.legal .w .d .d resZero = true :=
  ⟨0, ⟨0, false, 3, 14, 15, 0⟩, rkRunning, by decide +kernel⟩

theorem witness_LocalLoads_a1 :
    ∃ (n : Fin 4) (f : MForm) (s : State), Issues s (rkCore n) (extBytes f.ext) f.pred ∧ f.legal rdAny 3 = true ∧
      LocalAt n (s.ea (rkCore n) f 1) 1 :=
  ⟨0, ⟨0, 3, 0, 0, 2, none⟩, { rkRunning with mem := [(0x24000802, 0x81), (0x24000805, 0x92)] }, by decide +kernel⟩

theorem witness_LocalLoads_a2 :
    ∃ (n : Fin 4) (f : MForm) (s : State), Issues s (rkCore n) (extBytes f.ext) f.pred ∧ f.legal rdAny 3 = true ∧
      LocalAt n (s.ea (rkCore n) f 1) 1 :=
  ⟨0, ⟨0, 3, 0, 2, 0, (some 2)⟩, { rkRunning with mem := [(0x24000802, 0x81), (0x24000805, 0x92)] }, by decide +kernel⟩

theorem witness_LocalLoads_a3 :
    ∃ (n : Fin 4) (f : MForm) (s : State), Issues s (rkCore n) (extBytes f.ext) f.pred ∧ f.legal rdAny 3 = true ∧
      LocalAt n (s.ea (rkCore n) f 1) 1 :=
  ⟨0, ⟨0, 3, 0, 1, 4095, none⟩, { rkRunning with mem := [(0x24000802, 0x81), (0x24000805, 0x92)] }, by decide +kernel⟩

theorem witness_LocalLoads_b1 :
    ∃ (n : Fin 4) (f : MForm) (s : State), Issues s (rkCore n) (extBytes f.ext) f.pred ∧ f.legal rdAny 3 = true ∧
      LocalAt n (s.ea (rkCore n) f 2) 2 :=
  ⟨0, ⟨0, 3, 0, 0, 1, none⟩, { rkRunning with mem := [(0x24000802, 0x81), (0x24000805, 0x92)] }, by decide +kernel⟩

theorem witness_LocalLoads_b2 :
    ∃ (n : Fin 4) (f : MForm) (s : State), Issues s (rkCore n) (extBytes f.ext) f.pred ∧ f.legal rdAny 3 = true ∧
      LocalAt n (s.ea (rkCore n) f 2) 2 :=
  ⟨0, ⟨0, 3, 0, 2, 1, none⟩, { rkRunning with mem := [(0x24000802, 0x81), (0x24000805, 0x92)] }, by decide +kernel⟩

theorem witness_LocalLoads_c1 :
    ∃ (n : Fin 4) (f : MForm) (s : State), Issues s (rkCore n) (extBytes f.ext) f.pred ∧ f.legal rdAny 3 = true ∧
      LocalAt n (s.ea (rkCore n) f 4) 4 :=
  ⟨0, ⟨0, 3, 0, 0, 0, none⟩, { rkRunning with mem := [(0x24000802, 0x81), (0x24000805, 0x92)] }, by decide +kernel⟩

theorem witness_LocalLoads_c2 :
    ∃ (n : Fin 4) (f : MForm) (s : State), Issues s (rkCore n) (extBytes f.ext) f.pred ∧ f.legal rdAny 3 = true ∧
      LocalAt n (s.ea (rkCore n) f 4) 4 :=
  ⟨0, ⟨0, 3, 0, 2, 1, none⟩, { rkRunning with mem := [(0x24000802, 0x81), (0x24000805, 0x92)] }, by decide +kernel⟩

theorem witness_LocalLoads_d1 :
    ∃ (n : Fin 4) (f : MForm) (s : State), Issues s (rkCore n) (extBytes f.ext) f.pred ∧ f.legal rdEven 3 = true ∧
      LocalAt n (s.ea (rkCore n) f 8) 8 :=
  ⟨0, ⟨0, 14, 0, 0, 0, none⟩, { rkRunning with mem := [(0x24000802, 0x81), (0x24000805, 0x92)] }, by decide +kernel⟩

theorem witness_LocalLoads_d2 :
    ∃ (n : Fin 4) (f : MForm) (s : State), Issues s (rkCore n) (extBytes f.ext) f.pred ∧ f.legal rdEven 3 = true ∧
      LocalAt n (s.ea (rkCore n) f 8) 8 :=
  ⟨0, ⟨0, 2, 0, 2, 0, none⟩, { rkRunning with mem := [(0x24000802, 0x81), (0x24000805, 0x92)] }, by decide +kernel⟩

theorem witness_LocalLoads_e1 :
    ∃ (n : Fin 4) (f : MForm) (s : State), Issues s (rkCore n) (extBytes f.ext) f.pred ∧ f.legal rdAddr 3 = true ∧
      LocalAt n (s.ea (rkCore n) f 4) 4 :=
  ⟨0, ⟨0, 7, 0, 1, 3, none⟩, { rkRunning with mem := [(0x24000802, 0x81), (0x24000805, 0x92)] }, by decide +kernel⟩

theorem witness_LocalLoads_e2 :
    ∃ (n : Fin 4) (f : MForm) (s : State), Issues s (rkCore n) (extBytes f.ext) f.pred ∧ f.legal rdAddr 3 = true ∧
      LocalAt n (s.ea (rkCore n) f 4) 4 :=
  ⟨0, ⟨0, 0, 0, 1, 3, none⟩, { rkRunning with mem := [(0x24000802, 0x81), (0x24000805, 0x92)] }, by decide +kernel⟩

theorem witness_LocalStores_a :
    ∃ (n : Fin 4) (f : MForm) (s : State), Issues s (rkCore n) (extBytes f.ext) f.pred ∧ f.legal rdAny 3 = true ∧
      LocalAt n (s.ea (rkCore n) f 1) 1 :=
  ⟨0, ⟨0, 15, 0, 2, 1, none⟩, rkRunning, by decide +kernel⟩

theorem witness_LocalStores_b :
    ∃ (n : Fin 4) (f : MForm) (s : State), Issues s (rkCore n) (extBytes f.ext) f.pred ∧ f.legal rdAny 3 = true ∧
      LocalAt n (s.ea (rkCore n) f 2) 2 :=
  ⟨0, ⟨0, 15, 0, 1, 1, none⟩, rkRunning, by decide +kernel⟩

theorem witness_LocalStores_c :
    ∃ (n : Fin 4) (f : MForm) (s : State), Issues s (rkCore n) (extBytes f.ext) f.pred ∧ f.legal rdAny 3 = true ∧
      LocalAt n (s.ea (rkCore n) f 4) 4 :=
  ⟨0, ⟨0, 15, 0, 0, 0, some 0x20000⟩, rkRunning, by decide +kernel⟩

theorem witness_LocalStores_d :
    ∃ (n : Fin 4) (f : MForm) (s : State), Issues s (rkCore n) (extBytes f.ext) f.pred ∧ f.legal rdEven 3 = true ∧
      LocalAt n (s.ea (rkCore n) f 8) 8 :=
  ⟨0, ⟨0, 14, 0, 0, 1, none⟩, rkRunning, by decide +kernel⟩

theorem witness_LocalStores_e :
    ∃ (n : Fin 4) (f : MForm) (s : State), Issues s (rkCore n) (extBytes f.ext) f.pred ∧ f.legal rdAddr 3 = true ∧
      LocalAt n (s.ea (rkCore n) f 4) 4 :=
  ⟨0, ⟨0, 7, 0, 0, 1, none⟩, rkRunning, by decide +kernel⟩

theorem witness_WaitingAccesses_a1 :
    ∃ (c : Fin 6) (f : MForm) (s : State), Issues s c (extBytes f.ext) f.pred ∧ f.legal rdAny 3 = true ∧ s.ea c f 4 % 4 = 0 ∧
      s.lookLoad c (s.ea c f 4) 4 = .miss false ∧ isRemote (s.ea c f 4) = false :=
  ⟨4, ⟨0, 3, 0, 1, 1, none⟩, stRunning, by decide +kernel⟩

theorem witness_WaitingAccesses_a2 :
    ∃ (c : Fin 6) (f : MForm) (s : State), Issues s c (extBytes f.ext) f.pred ∧ f.legal rdAny 3 = true ∧ s.ea c f 4 % 4 = 0 ∧
      s.lookLoad c (s.ea c f 4) 4 = .miss false ∧ isRemote (s.ea c f 4) = false :=
  ⟨0, ⟨0, 3, 0, 0, 0, some 0xFC000000⟩, rkRunning, by decide +kernel⟩

theorem witness_WaitingAccesses_b :
    ∃ (c : Fin 6) (a : Nat) (rd : Fin 16) (sg : Bool) (len : Nat) (s : State), s.cpu[c].wait = some (.load a 4 (.d rd sg) [] len false) ∧
      s.buf c = [] ∧ region a = .sram ∧ a % 4 = 0 ∧ s.eccBad a = false ∧ s.lateAt c (s.waitEnd c a false len) = none ∧
      s.tagFree (coreRow c) = true ∧ s.cpu[c].haltReq = false ∧ (∀ n : Fin 4, coreKind c = .rk n → s.rk[n].discard = [] ∧
      s.rk[n].abortNow = false ∧ s.rk[n].errors = []) :=
  ⟨4, 0x20000010, 15, false, 4, { stRunning with mem := [(0x20000011, 9)], cpu := stRunning.cpu.set 4 { someCpu 0x20000100 with wait := some (.load 0x20000010 4 (.d 15 false) [] 4 false) } }, by decide +kernel⟩

theorem witness_WaitingAccesses_c1 :
    ∃ (c : Fin 6) (f : MForm) (s : State), Issues s c (extBytes f.ext) f.pred ∧ f.legal rdAny 3 = true ∧ s.ea c f 4 % 4 = 0 ∧
      region (s.ea c f 4) = .sram ∧ (s.buf c).length < bufMax c ∧ (∀ n : Fin 2, coreKind c = .st n → s.cachedData n (s.ea c f 4) = false) ∧
      (∀ e ∈ s.buf c, isRemote e.addr = false) :=
  ⟨4, ⟨0, 3, 0, 1, 1, none⟩, stRunning, by decide +kernel⟩

theorem witness_WaitingAccesses_c2 :
    ∃ (c : Fin 6) (f : MForm) (s : State), Issues s c (extBytes f.ext) f.pred ∧ f.legal rdAny 3 = true ∧ s.ea c f 4 % 4 = 0 ∧
      region (s.ea c f 4) = .sram ∧ (s.buf c).length < bufMax c ∧ (∀ n : Fin 2, coreKind c = .st n → s.cachedData n (s.ea c f 4) = false) ∧
      (∀ e ∈ s.buf c, isRemote e.addr = false) :=
  ⟨0, ⟨0, 3, 0, 0, 0, some 0xFC000000⟩, rkRunning, by decide +kernel⟩

theorem witness_WaitingAccesses_d :
    ∃ (n : Fin 4) (e : Posted) (s : State), s.rk[n].posted = [e] ∧ e.line = false ∧ region e.addr = .sram ∧ e.addr % 4 = 0 ∧ e.size = 4 ∧
      s.cpu[rkCore n].wait = none ∧ s.tagFree (coreRow (rkCore n)) = true :=
  ⟨3, { addr := 0x20000010, size := 4, data := 0x11223344 }, { State.reset with rk := State.reset.rk.set 3 { posted := [{ addr := 0x20000010, size := 4, data := 0x11223344 }] } }, by decide +kernel⟩

theorem witness_WaitingAccesses_e :
    ∃ (n : Fin 2) (e : Posted) (s : State), s.st[n].wbuf = [e] ∧ e.line = false ∧ region e.addr = .sram ∧ e.addr % 4 = 0 ∧ e.size = 4 ∧
      s.cpu[stCore n].wait = none ∧ s.tagFree (coreRow (stCore n)) = true :=
  ⟨1, { addr := 0x20000010, size := 4, data := 0x11223344 }, { State.reset with st := State.reset.st.set 1 { wbuf := [{ addr := 0x20000010, size := 4, data := 0x11223344 }] } }, by decide +kernel⟩

theorem witness_WaitingAccesses_f :
    ∃ (n : Fin 4) (k : Nat) (e : Nat) (rest : List (Nat × Nat)) (s : State), s.rk[n].errors = (k, e) :: rest ∧ s.rk[n].task = none ∧
      k < 8 :=
  ⟨3, 7, 0, [], { State.reset with rk := State.reset.rk.set 3 { errors := [(7, 0)] } }, by decide +kernel⟩

theorem witness_MultiplyAccumulate_a :
    ∃ (n : Fin 4) (f : CForm) (s : State), Issues s (rkCore n) 4 f.pred ∧ f.legal false = true :=
  ⟨0, ⟨0, false, 2, 9, 0, 0, 0, true, 0⟩, { rkRunning with mem := [(0x24020803, 0x40), (0x24020804, 0x3C), (0x24000803, 0x7F)] }, by decide +kernel⟩

theorem witness_MultiplyAccumulate_b :
    ∃ (n : Fin 4) (f : CForm) (s : State), Issues s (rkCore n) 4 f.pred ∧ f.legal false = true :=
  ⟨0, ⟨0, false, 2, 9, 0, 0, 0, true, 0⟩, { rkRunning with mem := [(0x24020803, 0x40), (0x24020804, 0x3C), (0x24000803, 0x7F)] }, by decide +kernel⟩

theorem witness_MultiplyAccumulate_c :
    ∃ (n : Fin 4) (f : CForm) (s : State), Issues s (rkCore n) 4 f.pred ∧ f.legal true = true ∧ LocalAt n s.cpu[rkCore n].a[f.ax].toNat 4 :=
  ⟨0, ⟨0, false, 2, 0, 1, 0, 1, true, 0⟩, { rkRunning with mem := [(0x24020803, 0x40), (0x24020804, 0x3C), (0x24000803, 0x7F)] }, by decide +kernel⟩

theorem witness_MultiplyAccumulate_d :
    ∃ (n : Fin 4) (f : CForm) (s : State), Issues s (rkCore n) 4 f.pred ∧ f.legal true = true ∧ LocalAt n s.cpu[rkCore n].a[f.ax].toNat 4 :=
  ⟨0, ⟨0, false, 2, 0, 1, 0, 1, true, 0⟩, { rkRunning with mem := [(0x24020803, 0x40), (0x24020804, 0x3C), (0x24000803, 0x7F)] }, by decide +kernel⟩

theorem witness_BranchesAndLoops_a1 :
    ∃ (c : Fin 6) (f : BForm) (s : State), Issues s c (extBytes f.ext) f.pred ∧ f.legal = true :=
  ⟨0, ⟨0, 0x1FFFFF, none⟩, rkRunning, by decide +kernel⟩

theorem witness_BranchesAndLoops_a2 :
    ∃ (c : Fin 6) (f : BForm) (s : State), Issues s c (extBytes f.ext) f.pred ∧ f.legal = true :=
  ⟨4, ⟨0, 0, some 0x20000400⟩, stRunning, by decide +kernel⟩

theorem witness_BranchesAndLoops_b :
    ∃ (c : Fin 6) (f : RForm) (s : State), Issues s c 4 f.pred ∧ f.legal .zero .a .zero resZero = true ∧ (s.cpu[c].ga f.ra).toNat % 4 = 0 :=
  ⟨4, ⟨0, false, 0, 7, 0, 0⟩, stRunning, by decide +kernel⟩

theorem witness_BranchesAndLoops_c :
    ∃ (c : Fin 6) (f : RForm) (s : State), Issues s c 4 f.pred ∧ f.legal .zero .zero .zero resZero = true ∧ s.cpu[c].a[7].toNat % 4 = 0 :=
  ⟨4, ⟨0, false, 0, 0, 0, 0⟩, stRunning, by decide +kernel⟩

theorem witness_BranchesAndLoops_d :
    ∃ (n : Fin 2) (f : RForm) (s : State), Issues s (stCore n) 4 f.pred ∧ f.legal .zero .a .zero resZero = true ∧
      (s.cpu[stCore n].ga f.ra).toNat % 4 ≠ 0 ∧ s.st[n].estat.getLsbD 2 = false :=
  ⟨0, ⟨0, false, 0, 7, 0, 0⟩, { stRunning with cpu := stRunning.cpu.set 4 { pc := 0x20000100, a := Vector.replicate 8 0x20000102 } }, by decide +kernel⟩

theorem witness_BranchesAndLoops_e1 :
    ∃ (c : Fin 6) (f : LForm) (s : State), Issues s c 4 f.pred ∧ f.legal = true ∧ s.cpu[c].loops = Vector.replicate 2 none :=
  ⟨0, ⟨0, false, 1, false, 5, 255⟩, rkRunning, by decide +kernel⟩

theorem witness_BranchesAndLoops_e2 :
    ∃ (c : Fin 6) (f : LForm) (s : State), Issues s c 4 f.pred ∧ f.legal = true ∧ s.cpu[c].loops = Vector.replicate 2 none :=
  ⟨0, ⟨0, false, 0, false, 5, 0⟩, rkRunning, by decide +kernel⟩

theorem witness_BranchesAndLoops_f :
    ∃ (c : Fin 6) (e : Nat) (l : LoopArm) (s : State), s.cpu[c].wait = none ∧ s.cpu[c].ended = some e ∧
      s.cpu[c].loops[(1 : Fin 2)] = some l ∧ l.last = e ∧ 1 < s.cpu[c].lc[(1 : Fin 2)].toNat :=
  ⟨4, 0x20000110, ⟨0x20000104, 0x20000110⟩, { stRunning with cpu := stRunning.cpu.set 4 { pc := 0x20000114, ended := some 0x20000110, loops := Vector.replicate 2 (some ⟨0x20000104, 0x20000110⟩), lc := Vector.replicate 2 2 } }, by decide +kernel⟩

theorem witness_BranchesAndLoops_g :
    ∃ (c : Fin 6) (e : Nat) (l : LoopArm) (s : State), s.cpu[c].wait = none ∧ s.cpu[c].ended = some e ∧
      s.cpu[c].loops[(1 : Fin 2)] = some l ∧ l.last = e ∧ s.cpu[c].lc[(1 : Fin 2)].toNat ≤ 1 ∧ s.cpu[c].loops[(0 : Fin 2)] = none :=
  ⟨4, 0x20000110, ⟨0x20000104, 0x20000110⟩, { stRunning with cpu := stRunning.cpu.set 4 { pc := 0x20000114, ended := some 0x20000110, loops := (Vector.replicate 2 none).set 1 (some ⟨0x20000104, 0x20000110⟩), lc := Vector.replicate 2 1 } }, by decide +kernel⟩

theorem witness_BranchesAndLoops_h :
    ∃ (c : Fin 6) (f : RForm) (s : State), Issues s c 4 f.pred ∧ f.legal .lc .zero .zero resZero = true :=
  ⟨0, ⟨0, false, 1, 0, 0, 0⟩, rkRunning, by decide +kernel⟩

theorem witness_SamplesAndStaging_a1 :
    ∃ (n : Fin 4) (f : SForm) (s : State), Issues s (rkCore n) 4 f.pred ∧ f.legal = true ∧ f.cr = false ∧
      (f.ch.toNat < 57 ∨ 64 ≤ f.ch.toNat) :=
  ⟨0, ⟨0, false, 15, 3, 0, false, 255⟩, rkRunning, by decide +kernel⟩

theorem witness_SamplesAndStaging_a2 :
    ∃ (n : Fin 4) (f : SForm) (s : State), Issues s (rkCore n) 4 f.pred ∧ f.legal = true ∧ f.cr = false ∧
      (f.ch.toNat < 57 ∨ 64 ≤ f.ch.toNat) :=
  ⟨0, ⟨0, false, 15, 3, 0, false, 56⟩, rkRunning, by decide +kernel⟩

theorem witness_SamplesAndStaging_b1 :
    ∃ (n : Fin 4) (f : IForm) (s : State), Issues s (rkCore n) (extBytes f.ext) f.pred ∧ f.legal .d .zero 13 = true ∧ f.small < 4096 ∧
      destOk f.small = true ∧ s.rk[n].staged.length < 128 :=
  ⟨0, ⟨0, 4, 0, 0x2F, none⟩, rkRunning, by decide +kernel⟩

theorem witness_SamplesAndStaging_b2 :
    ∃ (n : Fin 4) (f : IForm) (s : State), Issues s (rkCore n) (extBytes f.ext) f.pred ∧ f.legal .d .zero 13 = true ∧ f.small < 4096 ∧
      destOk f.small = true ∧ s.rk[n].staged.length < 128 :=
  ⟨0, ⟨0, 4, 0, 0, some 0x213⟩, { rkRunning with rk := rkRunning.rk.set 0 { task := some ⟨3, 0, none, 0⟩, staged := [(1, 2), (0x213, 7)] } }, by decide +kernel⟩

theorem witness_SamplesAndStaging_c :
    ∃ (n : Fin 4) (f : RForm) (k : RkTask) (s : State), Issues s (rkCore n) 4 f.pred ∧ f.legal .zero .zero .zero resZero = true ∧
      s.rk[n].task = some k :=
  ⟨0, ⟨0, false, 0, 0, 0, 0⟩, ⟨3, 0, none, 0⟩, rkRunning, by decide +kernel⟩

theorem witness_SamplesAndStaging_d :
    ∃ (n : Fin 4) (f : RForm) (s : State), Issues s (rkCore n) 4 f.pred ∧ f.legal .zero .zero .zero resZero = true :=
  ⟨0, ⟨0, false, 0, 0, 0, 0⟩, rkRunning, by decide +kernel⟩

theorem witness_SystemInstructions_a1 :
    ∃ (c : Fin 6) (f : RForm) (s : State), Issues s c 4 f.pred ∧ f.legal .zero .zero .zero resZero = true :=
  ⟨0, ⟨0, false, 0, 0, 0, 0⟩, rkRunning, by decide +kernel⟩

theorem witness_SystemInstructions_a2 :
    ∃ (c : Fin 6) (f : RForm) (s : State), Issues s c 4 f.pred ∧ f.legal .zero .zero .zero resZero = true :=
  ⟨4, ⟨0, false, 0, 0, 0, 0⟩, { stRunning with st := stRunning.st.set 0 { maint := 2 } }, by decide +kernel⟩

theorem witness_SystemInstructions_b :
    ∃ (n : Fin 2) (s : State), s.cpu[stCore n].wait = some .fence ∧ s.st[n].wbuf = [] ∧ s.st[n].maint = 0 ∧
      s.cpu[stCore n].haltReq = false :=
  ⟨1, { State.reset with cpu := State.reset.cpu.set 5 { wait := some .fence } }, by decide +kernel⟩

theorem witness_SystemInstructions_c :
    ∃ (n : Fin 2) (s : State), s.cpu[stCore n].wait = some .fence ∧ (s.st[n].wbuf ≠ [] ∨ s.st[n].maint ≠ 0) :=
  ⟨1, { State.reset with cpu := State.reset.cpu.set 5 { wait := some .fence }, st := State.reset.st.set 1 { maint := 2 } }, by decide +kernel⟩

theorem witness_SystemInstructions_d :
    ∃ (n : Fin 4) (s : State), s.cpu[rkCore n].wait = some .fence ∧ s.rk[n].posted = [] ∧ s.rk[n].abortNow = false ∧ s.rk[n].errors = [] ∧
      s.cpu[rkCore n].haltReq = false :=
  ⟨3, { State.reset with cpu := State.reset.cpu.set 3 { wait := some .fence } }, by decide +kernel⟩

theorem witness_SystemInstructions_e :
    ∃ (n : Fin 4) (s : State), s.cpu[rkCore n].wait = some .fence ∧ s.rk[n].posted ≠ [] :=
  ⟨3, { State.reset with cpu := State.reset.cpu.set 3 { wait := some .fence }, rk := State.reset.rk.set 3 { posted := [⟨0x40000000, 4, 7, false, false, 0⟩] } }, by decide +kernel⟩

theorem witness_SystemInstructions_f1 :
    ∃ (n : Fin 2) (f : RForm) (s : State), Issues s (stCore n) 4 f.pred ∧ f.legal .zero .zero .zero resZero = true :=
  ⟨0, ⟨0, false, 0, 0, 0, 0⟩, stRunning, by decide +kernel⟩

theorem witness_SystemInstructions_f2 :
    ∃ (n : Fin 2) (f : RForm) (s : State), Issues s (stCore n) 4 f.pred ∧ f.legal .zero .zero .zero resZero = true :=
  ⟨0, ⟨0, false, 0, 0, 0, 0⟩, (((stRunning.wrN (Reg.SYSCFG_IRQ 0) 16).wrN Reg.TBL_STATUS 1).wrN Reg.TBL_IRQEN 1), by decide +kernel⟩

theorem witness_SystemInstructions_g :
    ∃ (n : Fin 2) (f : RForm) (s : State), Issues s (stCore n) 4 f.pred ∧ f.legal .zero .zero .d resZero = true ∧
      s.st[n].estat.getLsbD 2 = false :=
  ⟨0, ⟨0, false, 0, 0, 15, 0⟩, stRunning, by decide +kernel⟩

theorem witness_SystemInstructions_h :
    ∃ (n : Fin 2) (f : RForm) (s : State), Issues s (stCore n) 4 f.pred ∧ f.legal .zero .zero .d resZero = true ∧
      s.st[n].estat.getLsbD 2 = true :=
  ⟨0, ⟨0, false, 0, 0, 15, 0⟩, { stRunning with st := stRunning.st.set 0 { estat := 4 } }, by decide +kernel⟩

theorem witness_SystemInstructions_i1 :
    ∃ (n : Fin 2) (f : RForm) (s : State), Issues s (stCore n) 4 f.pred ∧ f.legal .zero .zero .zero resZero = true ∧
      s.cpu[stCore n].bkptEn = false :=
  ⟨0, ⟨0, false, 0, 0, 0, 0⟩, stRunning, by decide +kernel⟩

theorem witness_SystemInstructions_i2 :
    ∃ (n : Fin 2) (f : RForm) (s : State), Issues s (stCore n) 4 f.pred ∧ f.legal .zero .zero .zero resZero = true ∧
      s.cpu[stCore n].bkptEn = false :=
  ⟨0, ⟨0, false, 0, 0, 0, 0⟩, { stRunning with st := stRunning.st.set 0 { estat := 4 } }, by decide +kernel⟩

theorem witness_SystemInstructions_j1 :
    ∃ (c : Fin 6) (f : RForm) (s : State), Issues s c 4 f.pred ∧ f.legal .zero .zero .zero resZero = true ∧ s.cpu[c].bkptEn = true ∧
      s.cpu[c].halted = false :=
  ⟨4, ⟨0, false, 0, 0, 0, 0⟩, { stRunning with cpu := stRunning.cpu.set 4 { pc := 0x20000100, bkptEn := true } }, by decide +kernel⟩

theorem witness_SystemInstructions_j2 :
    ∃ (c : Fin 6) (f : RForm) (s : State), Issues s c 4 f.pred ∧ f.legal .zero .zero .zero resZero = true ∧ s.cpu[c].bkptEn = true ∧
      s.cpu[c].halted = false :=
  ⟨0, ⟨0, false, 0, 0, 0, 0⟩, { rkRunning with cpu := rkRunning.cpu.set 0 { pc := 0x24000000, bkptEn := true } }, by decide +kernel⟩

theorem witness_SystemInstructions_k :
    ∃ (n : Fin 4) (k : RkTask) (f : RForm) (s : State), s.rk[n].task = some k ∧ Issues s (rkCore n) 4 f.pred ∧
      f.legal .zero .zero .zero resZero = true ∧ s.cpu[rkCore n].bkptEn = false :=
  ⟨0, ⟨3, 0, none, 0⟩, ⟨0, false, 0, 0, 0, 0⟩, rkRunning, by decide +kernel⟩

theorem witness_SystemInstructions_l :
    ∃ (n : Fin 4) (k : RkTask) (f : RForm) (s : State), s.rk[n].task = some k ∧ Reaches s (rkCore n) 4 :=
  ⟨0, ⟨3, 0, none, 0⟩, ⟨5, false, 0, 0, 0, 0⟩, rkRunning, by decide +kernel⟩

theorem witness_SystemInstructions_m1 :
    ∃ (c : Fin 6) (f : IForm) (v : Word) (s : State), Issues s c (extBytes f.ext) f.pred ∧ f.legal .d .zero 6 = true ∧
      s.sysRead c f.small (s.issueAt c) = some v :=
  ⟨4, ⟨0, 9, 0, 6, none⟩, 4, stRunning, by decide +kernel⟩

theorem witness_SystemInstructions_m2 :
    ∃ (c : Fin 6) (f : IForm) (v : Word) (s : State), Issues s c (extBytes f.ext) f.pred ∧ f.legal .d .zero 6 = true ∧
      s.sysRead c f.small (s.issueAt c) = some v :=
  ⟨0, ⟨0, 9, 0, 1, none⟩, 0, rkRunning, by decide +kernel⟩

theorem witness_SystemInstructions_m3 :
    ∃ (c : Fin 6) (f : IForm) (v : Word) (s : State), Issues s c (extBytes f.ext) f.pred ∧ f.legal .d .zero 6 = true ∧
      s.sysRead c f.small (s.issueAt c) = some v :=
  ⟨0, ⟨0, 9, 0, 5, none⟩, 0, rkRunning, by decide +kernel⟩

theorem witness_SystemInstructions_m4 :
    ∃ (c : Fin 6) (f : IForm) (v : Word) (s : State), Issues s c (extBytes f.ext) f.pred ∧ f.legal .d .zero 6 = true ∧
      s.sysRead c f.small (s.issueAt c) = some v :=
  ⟨4, ⟨0, 9, 0, 25, none⟩, 0, stRunning, by decide +kernel⟩

theorem witness_SystemInstructions_n1 :
    ∃ (c : Fin 6) (f : IForm) (s : State), Issues s c (extBytes f.ext) f.pred ∧ f.legal .d .zero 6 = true ∧ f.small < 7 :=
  ⟨0, ⟨0, 9, 0, 0, none⟩, rkRunning, by decide +kernel⟩

theorem witness_SystemInstructions_n2 :
    ∃ (c : Fin 6) (f : IForm) (s : State), Issues s c (extBytes f.ext) f.pred ∧ f.legal .d .zero 6 = true ∧ f.small < 7 :=
  ⟨4, ⟨0, 9, 0, 2, none⟩, stRunning, by decide +kernel⟩

theorem witness_SystemInstructions_n3 :
    ∃ (c : Fin 6) (f : IForm) (s : State), Issues s c (extBytes f.ext) f.pred ∧ f.legal .d .zero 6 = true ∧ f.small < 7 :=
  ⟨4, ⟨0, 9, 0, 6, none⟩, stRunning, by decide +kernel⟩

theorem witness_SystemInstructions_o1 :
    ∃ (n : Fin 2) (f : IForm) (s : State), Issues s (stCore n) (extBytes f.ext) f.pred ∧ f.legal .d .zero 6 = true ∧ 16 ≤ f.small ∧
      f.small < 26 :=
  ⟨0, ⟨0, 9, 0, 22, none⟩, stRunning, by decide +kernel⟩

theorem witness_SystemInstructions_o2 :
    ∃ (n : Fin 2) (f : IForm) (s : State), Issues s (stCore n) (extBytes f.ext) f.pred ∧ f.legal .d .zero 6 = true ∧ 16 ≤ f.small ∧
      f.small < 26 :=
  ⟨0, ⟨0, 9, 0, 16, none⟩, stRunning, by decide +kernel⟩

theorem witness_SystemInstructions_o3 :
    ∃ (n : Fin 2) (f : IForm) (s : State), Issues s (stCore n) (extBytes f.ext) f.pred ∧ f.legal .d .zero 6 = true ∧ 16 ≤ f.small ∧
      f.small < 26 :=
  ⟨0, ⟨0, 9, 0, 25, none⟩, stRunning, by decide +kernel⟩

theorem witness_SystemInstructions_p :
    ∃ (n : Fin 4) (k : RkTask) (f : IForm) (s : State), s.rk[n].task = some k ∧ Reaches s (rkCore n) (extBytes f.ext) ∧ 7 ≤ f.small :=
  ⟨0, ⟨3, 0, none, 0⟩, ⟨5, 9, 0, 7, none⟩, rkRunning, by decide +kernel⟩

theorem witness_SystemInstructions_q1 :
    ∃ (n : Fin 2) (f : IForm) (s : State), Reaches s (stCore n) (extBytes f.ext) ∧ (7 ≤ f.small ∧ f.small < 16) ∨ 26 ≤ f.small :=
  ⟨0, ⟨5, 9, 0, 7, none⟩, stRunning, by decide +kernel⟩

theorem witness_SystemInstructions_q2 :
    ∃ (n : Fin 2) (f : IForm) (s : State), Reaches s (stCore n) (extBytes f.ext) ∧ (7 ≤ f.small ∧ f.small < 16) ∨ 26 ≤ f.small :=
  ⟨0, ⟨5, 9, 0, 26, none⟩, { stRunning with st := stRunning.st.set 0 { estat := 4 } }, by decide +kernel⟩

theorem witness_StewardInterrupts_a :
    ∃ (n : Fin 2) (src : Nat) (lvl : Nat) (s : State), s.irqBelow n = some (src, lvl) ∧ s.stReady n = true ∧
      s.st[n].estat.getLsbD 0 = true ∧ s.st[n].estat.getLsbD 2 = false ∧ s.st[n].shadow = false ∧ s.st[n].wfi = false ∧
      s.cpu[stCore n].ended = none :=
  ⟨0, 0, 0, (((({ stRunning with st := stRunning.st.set 0 { estat := 0x801, vbase := 0x20001000 } } : State).wrN (Reg.SYSCFG_IRQ 0) 16).wrN Reg.TBL_STATUS 1).wrN Reg.TBL_IRQEN 1), by decide +kernel⟩

theorem witness_StewardInterrupts_b :
    ∃ (n : Fin 2) (s : State), s.stReady n = true ∧ s.st[n].nmi = true ∧ s.st[n].estat.getLsbD 2 = false ∧ s.st[n].wfi = false ∧
      s.cpu[stCore n].ended = none :=
  ⟨0, { stRunning with st := stRunning.st.set 0 { nmi := true } }, by decide +kernel⟩

theorem witness_StewardInterrupts_c :
    ∃ (n : Fin 2) (s : State), s.st[n].wfi = true ∧ s.stReady n = true ∧ (s.irqBelow n).isSome = true ∧ s.st[n].estat.getLsbD 0 = false :=
  ⟨0, (((({ stRunning with st := stRunning.st.set 0 { wfi := true } } : State).wrN (Reg.SYSCFG_IRQ 0) 16).wrN Reg.TBL_STATUS 1).wrN Reg.TBL_IRQEN 1), by decide +kernel⟩

theorem witness_StewardInterrupts_d :
    ∃ (n : Fin 2) (a : Nat) (posted : Bool) (rest : List (Nat × Bool)) (s : State), s.st[n].storeErr = (a, posted) :: rest ∧
      s.stReady n = true ∧ s.cpu[stCore n].ended = none ∧ s.st[n].wfi = false ∧ s.st[n].estat.getLsbD 2 = false :=
  ⟨0, 0x80000000, true, [], { stRunning with st := stRunning.st.set 0 { storeErr := [(0x80000000, true)] } }, by decide +kernel⟩

theorem witness_AtomicsAndCaches_a :
    ∃ (n : Fin 2) (f : MForm) (s : State), Issues s (stCore n) (extBytes f.ext) f.pred ∧ f.legal rdAny 1 = true ∧
      s.ea (stCore n) f 4 % 4 = 0 ∧ region (s.ea (stCore n) f 4) = .sram ∧ s.fenceOver (stCore n) = true ∧ s.tagFree n.val = true ∧
      s.eccBad (s.ea (stCore n) f 4) = false :=
  ⟨0, ⟨0, 15, 0, 0, 1, none⟩, { stRunning with mem := [(0x20000904, 0xFF), (0x20000905, 0xFF)] }, by decide +kernel⟩

theorem witness_AtomicsAndCaches_b :
    ∃ (n : Fin 2) (f : MForm) (l : CLine) (s : State), Issues s (stCore n) (extBytes f.ext) f.pred ∧ f.legal (· == 0) 2 = true ∧
      s.st[n].dcache.find (s.ea (stCore n) f 32) = some l ∧ l.dirty = true ∧ s.st[n].wbuf.length < 8 :=
  ⟨0, ⟨0, 0, 0, 0, 0, none⟩, ⟨0x20000900, 0, true, 77⟩, { stRunning with st := stRunning.st.set 0 { dcache := { lines := [⟨0x20000900, 0, true, 77⟩] } } }, by decide +kernel⟩

theorem witness_AtomicsAndCaches_c :
    ∃ (n : Fin 2) (f : MForm) (s : State), Issues s (stCore n) (extBytes f.ext) f.pred ∧ f.legal (· == 1) 2 = true :=
  ⟨0, ⟨0, 1, 0, 0, 0, none⟩, { stRunning with st := stRunning.st.set 0 { dcache := { lines := [⟨0x20000900, 0, true, 77⟩] } } }, by decide +kernel⟩

theorem witness_AtomicsAndCaches_d :
    ∃ (n : Fin 2) (f : MForm) (l : CLine) (s : State), Issues s (stCore n) (extBytes f.ext) f.pred ∧ f.legal (· == 2) 2 = true ∧
      s.st[n].dcache.find (s.ea (stCore n) f 32) = some l ∧ l.dirty = true ∧ s.st[n].wbuf.length < 8 :=
  ⟨0, ⟨0, 2, 0, 0, 0, none⟩, ⟨0x20000900, 0, true, 77⟩, { stRunning with st := stRunning.st.set 0 { dcache := { lines := [⟨0x20000900, 0, true, 77⟩] } } }, by decide +kernel⟩

theorem witness_AtomicsAndCaches_e :
    ∃ (n : Fin 2) (f : MForm) (s : State), Issues s (stCore n) (extBytes f.ext) f.pred ∧ f.legal (· == 3) 2 = true :=
  ⟨0, ⟨0, 3, 0, 0, 0, none⟩, { stRunning with st := stRunning.st.set 0 { icache := { lines := [⟨0x20000900, 0, true, 77⟩] } } }, by decide +kernel⟩

theorem witness_AtomicsAndCaches_g :
    ∃ (n : Fin 2) (s : State), s.st[n].wbuf = [] ∧ s.st[n].maint = 4 :=
  ⟨1, { State.reset with st := State.reset.st.set 1 { maint := 4 } }, by decide +kernel⟩

theorem witness_AtomicsAndCaches_h :
    ∃ (n : Fin 2) (s : State), s.st[n].wbuf = [] ∧ s.st[n].maint = 2 ∧ s.tagFree n.val = true :=
  ⟨1, { State.reset with st := State.reset.st.set 1 { maint := 2, dcache := { lines := [⟨0x20000900, 0, true, 77⟩] } } }, by decide +kernel⟩

theorem witness_AtomicsAndCaches_i :
    ∃ (n : Fin 2) (a : Nat) (rd : Fin 16) (s : State), s.cpu[stCore n].wait = some (.load a 4 (.d rd false) [] 4 true) ∧ region a = .sram ∧
      s.bufLine n a = none ∧ (s.st[n].dcache.victim a).filter (·.dirty) = none ∧ s.st[n].dcache.find a = none ∧
      (∀ i : Fin 4, s.eccBad (lineOf a + 8 * i.val) = false) ∧ s.tagFree n.val = true ∧ s.cpu[stCore n].haltReq = false :=
  ⟨1, 0x20000024, 15, { State.reset with mem := [(0x20000025, 8)], cpu := State.reset.cpu.set 5 { wait := some (.load 0x20000024 4 (.d 15 false) [] 4 true) } }, by decide +kernel⟩

theorem witness_TaskLaunchAndDispatch_a :
    ∃ (n : Fin 4) (k : Fin 8) (l : Launch) (T : Nat) (s : State), s.launchOf (16 + 8 * n.val + k.val) = some l ∧
      T = rkUp (max (l.matched + 208) (s.pll.sysBackAt + 128)) ∧ s.sysPllClk = true ∧ s.pmu.warned = false ∧
      s.on (Fd.SYSCFG_RK_CTRL_EN n) = true ∧ s.on (Fd.SYSCFG_SLOT_CFG_EN n k) = true ∧ s.rk[n].pend = Vector.replicate 8 none ∧
      s.rk[n].task = none ∧ s.rk[n].freeAt ≤ T ∧ s.rkHalted n = false :=
  ⟨3, 7, ⟨47, 100, 80, 0⟩, 224, { withFields [(Fd.PLL_STATUS_SYSLOCK, 1), (Fd.SYSCFG_RK_CTRL_EN 3, 1), (Fd.SYSCFG_SLOT_CFG_EN 3 7, 1), (Fd.SYSCFG_SLOT_CFG_ENTRY 3 7, 5)] with tbl := { count := 80, inflight := [⟨47, 100, 80, 0⟩] } }, by decide +kernel⟩

theorem witness_TaskLaunchAndDispatch_b :
    ∃ (n : Fin 4) (k : Fin 8) (l : Launch) (T : Nat) (s : State), s.launchOf (16 + 8 * n.val + k.val) = some l ∧
      T = rkUp (max (l.matched + 208) (s.pll.sysBackAt + 128)) ∧ s.sysPllClk = true ∧ s.pmu.warned = false ∧
      s.on (Fd.SYSCFG_RK_CTRL_EN n) = true ∧ s.on (Fd.SYSCFG_SLOT_CFG_EN n k) = true ∧ s.rk[n].pend[k] = none ∧
      s.rk[n].task.isSome = true :=
  ⟨0, 7, ⟨23, 100, 80, 0⟩, 224, { withFields [(Fd.PLL_STATUS_SYSLOCK, 1), (Fd.SYSCFG_RK_CTRL_EN 0, 1), (Fd.SYSCFG_SLOT_CFG_EN 0 7, 1), (Fd.SYSCFG_SLOT_CFG_ENTRY 0 7, 5)] with tbl := { count := 80, inflight := [⟨23, 100, 80, 0⟩] }, rk := rkRunning.rk }, by decide +kernel⟩

theorem witness_TaskLaunchAndDispatch_c :
    ∃ (n : Fin 4) (k : Fin 8) (l : Launch) (s : State), s.launchOf (16 + 8 * n.val + k.val) = some l ∧ s.sysPllClk = true ∧
      s.pmu.warned = false ∧ s.on (Fd.SYSCFG_RK_CTRL_EN n) = true ∧ s.on (Fd.SYSCFG_SLOT_CFG_EN n k) = true ∧
      s.rk[n].pend[k].isSome = true :=
  ⟨0, 7, ⟨23, 100, 80, 0⟩, { withFields [(Fd.PLL_STATUS_SYSLOCK, 1), (Fd.SYSCFG_RK_CTRL_EN 0, 1), (Fd.SYSCFG_SLOT_CFG_EN 0 7, 1)] with tbl := { count := 80, inflight := [⟨23, 100, 80, 0⟩] }, rk := State.reset.rk.set 0 { pend := Vector.replicate 8 (some ⟨0, none, 0⟩) } }, by decide +kernel⟩

theorem witness_TaskLaunchAndDispatch_d :
    ∃ (n : Fin 4) (k : Fin 8) (l : Launch) (s : State), s.launchOf (16 + 8 * n.val + k.val) = some l ∧ s.sysPllClk = true ∧
      s.pmu.warned = false ∧ s.on (Fd.SYSCFG_SLOT_CFG_EN n k) = false :=
  ⟨0, 7, ⟨23, 100, 80, 0⟩, { withFields [(Fd.PLL_STATUS_SYSLOCK, 1)] with tbl := { count := 80, inflight := [⟨23, 100, 80, 0⟩] } }, by decide +kernel⟩

theorem witness_TaskLaunchAndDispatch_e :
    ∃ (n : Fin 4) (k : Fin 8) (p : RkPend) (s : State), s.rk[n].task = none ∧ s.rkHalted n = false ∧ s.sysPllClk = true ∧
      s.rk[n].cancelAt ≠ some s.rk[n].freeAt ∧ (∀ j : Fin 8, j < k → s.rk[n].pend[j] = none) ∧ s.rk[n].pend[k] = some p ∧
      (∀ j : Fin 8, dueBy (s.rk[n].pend[j].bind (·.due)) s.rk[n].freeAt = false) :=
  ⟨2, 3, ⟨40, none, 0⟩, { withFields [(Fd.PLL_STATUS_SYSLOCK, 1), (Fd.SYSCFG_RK_STATUS_SWPPEND 2, 1)] with rk := State.reset.rk.set 2 { pend := (Vector.replicate 8 none).set 3 (some ⟨40, none, 0⟩) } }, by decide +kernel⟩

theorem witness_TaskEnds_a :
    ∃ (n : Fin 4) (t0 : Nat) (k : RkTask) (s : State), s.rk[n].task = some k ∧ s.cpu[rkCore n].haltReq = false ∧ s.rk[n].errors = [] ∧
      s.rk[n].tdone = some t0 ∧ s.rk[n].posted = [] ∧ s.rk[n].staged.all (fun d => !sysDest d.1) = true ∧ s.rk[n].staged ≠ [] :=
  ⟨1, 320, ⟨3, 0, none, 0⟩, { State.reset with rk := State.reset.rk.set 1 { task := some ⟨3, 0, none, 0⟩, tdone := some 320, staged := [(0x2F, 7)] } }, by decide +kernel⟩

theorem witness_TaskEnds_b :
    ∃ (n : Fin 4) (r : Release) (rest : List Release) (k : Fin 48) (v : Word) (s : State), s.pwmClk = true ∧ s.rk[n].relPwm = r :: rest ∧
      r.dests = [(k.val, v)] ∧ (s.get Fd.PWM_LOADALL_ALL).testBit (s.carOf k).val = false ∧ s.pwm.landAt < r.ended :=
  ⟨3, ⟨100, [(47, 9)]⟩, [], 47, 9, { withFields [(Fd.PLL_STATUS_SYNCLOCK, 1)] with rk := State.reset.rk.set 3 { relPwm := [⟨100, [(47, 9)]⟩] } }, by decide +kernel⟩

theorem witness_TaskEnds_c :
    ∃ (n : Fin 4) (k : RkTask) (d : Nat) (s : State), s.rk[n].task = some k ∧ k.due = some d ∧ s.rk[n].tdone = none ∧ s.rkHalted n = false ∧
      s.cpu[rkCore n].haltReq = false ∧ s.rk[n].pend = Vector.replicate 8 none :=
  ⟨2, ⟨5, 0, some 640, 0⟩, 640, { State.reset with rk := State.reset.rk.set 2 { task := some ⟨5, 0, some 640, 0⟩ } }, by decide +kernel⟩

theorem witness_TaskEnds_d :
    ∃ (n : Fin 4) (s : State), s.sysPllClk = true ∧ s.rk[n].haltAt = none :=
  ⟨3, withFields [(Fd.PLL_STATUS_SYSLOCK, 1)], by decide +kernel⟩

theorem witness_TaskEnds_e :
    ∃ (n : Fin 4) (s : State), s.sysPllClk = true ∧ s.rk[n].haltAt = none :=
  ⟨3, withFields [(Fd.PLL_STATUS_SYSLOCK, 1)], by decide +kernel⟩

theorem witness_TaskEnds_f :
    ∃ (n : Fin 4) (en : Bool) (s : State), s.sysPllClk = false :=
  ⟨3, true, State.reset, by decide +kernel⟩

theorem witness_TaskEnds_g :
    ∃ (n : Fin 4) (k : RkTask) (s : State), s.rk[n].task = some k ∧ s.rk[n].tdone = none ∧ s.cpu[rkCore n].wait = none ∧
      s.sysPllClk = true ∧ s.rk[n].haltAt = none ∧ s.on (Fd.SYSCFG_RK_CTRL_EN n) = true ∧ s.cpu[rkCore n].haltReq = false :=
  ⟨0, ⟨3, 0, none, 0⟩, rkRunning.put (Fd.SYSCFG_RK_CTRL_EN 0) 1, by decide +kernel⟩

theorem witness_TaskEnds_h :
    ∃ (n : Fin 4) (k : RkTask) (f : RForm) (s : State), s.rk[n].task = some k ∧ s.canIssue (rkCore n) = true ∧
      s.cpu[rkCore n].ended = none ∧ (s.lateAt (rkCore n) (s.issueAt (rkCore n))).isNone = true ∧
      (s.storeErrAt (rkCore n) (s.issueAt (rkCore n))).isNone = true ∧ s.cpu[rkCore n].haltReq = false ∧ s.fetchFault (rkCore n) 4 = none ∧
      f.legal .d .d .d resZero = false :=
  ⟨0, ⟨3, 0, none, 0⟩, ⟨1, false, 0, 0, 0, 0⟩, rkRunning, by decide +kernel⟩

theorem witness_TaskEnds_i :
    ∃ (c : Fin 6) (f : RForm) (s : State), s.canIssue c = true ∧ s.cpu[c].ended = none ∧ (s.lateAt c (s.issueAt c)).isNone = true ∧
      (s.storeErrAt c (s.issueAt c)).isNone = true ∧ s.fetchFault c 4 = none ∧ f.legal .d .d .d resZero = true ∧
      predTrue f.pred s.cpu[c].p = false :=
  ⟨0, ⟨5, false, 0, 0, 0, 0⟩, rkRunning, by decide +kernel⟩

theorem witness_TaskEnds_j :
    ∃ (n : Fin 4) (s : State), s.sysPllClk = true ∧ (s.rk[n].task.map (·.start)) ≠ some (rkUp s.now + 64) ∧ s.landing = false :=
  ⟨3, withFields [(Fd.PLL_STATUS_SYSLOCK, 1)], by decide +kernel⟩

theorem witness_TaskEnds_k :
    ∃ (n : Fin 4) (s : State), s.sysPllClk = true ∧ s.on (Fd.SYSCFG_RK_STATUS_SWPPEND n) = true :=
  ⟨3, withFields [(Fd.PLL_STATUS_SYSLOCK, 1), (Fd.SYSCFG_RK_STATUS_SWPPEND 3, 1)], by decide +kernel⟩

theorem witness_CarrierEvents_a :
    ∃ (c : Fin 8) (g : Nat) (s : State), s.pwm.carriers[c].run = true ∧ s.pwmRuns = true ∧
      (s.get Fd.PWM_LOADALL_ALL).testBit c.val = false ∧ g < 112 ∧ s.selects g (68 + c.val) = true ∧ s.suppressed = false :=
  ⟨7, 5, { withFields [(Fd.PLL_STATUS_SYNCLOCK, 1), (Fd.PWM_C_ACTPER_PER 7, 32000), (Fd.TBL_TGTSEL_EN 5, 1), (Fd.TBL_TGTSEL_SRC 5, 75)] with pwm := { carriers := Vector.replicate 8 { run := true } } }, by decide +kernel⟩

theorem witness_CarrierEvents_b :
    ∃ (c : Fin 8) (n : Fin 48) (s : State), s.pwm.carriers[c].run = true ∧ s.pwmRuns = true ∧
      (s.get Fd.PWM_LOADALL_ALL).testBit c.val = true ∧ s.get (Fd.PWM_C_CFG_LDPT c) = 0 ∧ s.pwm.carriers[c].armedAt + 120 ≤ s.now ∧
      s.pwm.carriers[c].tau = s.period c ∧ s.carOf n = c ∧ s.on (Fd.PWM_LEG_CFG_EDGE n) = false :=
  ⟨0, 47, { withFields [(Fd.PLL_STATUS_SYNCLOCK, 1), (Fd.PWM_C_ACTPER_PER 0, 32000), (Fd.PWM_C_PER_PER 0, 40000), (Fd.PWM_LEG_CMPA_CMPA 47, 50000), (⟨Reg.PWM_LOADALL, 0, 1⟩, 1)] with pwm := { carriers := Vector.replicate 8 { run := true, tau := 32000 } }, now := 1000 }, by decide +kernel⟩

theorem witness_CarrierEvents_c :
    ∃ (c : Fin 8) (g : Nat) (s : State), s.pwm.carriers[c].run = true ∧ s.pwmRuns = true ∧ s.pwm.carriers[c].peaked = false ∧
      (s.get Fd.PWM_LOADALL_ALL).testBit c.val = false ∧ g < 112 ∧ s.selects g (76 + c.val) = true ∧ s.suppressed = false :=
  ⟨7, 5, { withFields [(Fd.PLL_STATUS_SYNCLOCK, 1), (Fd.PWM_C_ACTPER_PER 7, 32000), (Fd.TBL_TGTSEL_EN 5, 1), (Fd.TBL_TGTSEL_SRC 5, 83)] with pwm := { carriers := Vector.replicate 8 { run := true } } }, by decide +kernel⟩

theorem witness_CarrierEvents_d :
    ∃ (c : Fin 8) (l : Launch) (s : State), s.launchOf c.val = some l ∧ s.pwmRuns = true ∧ s.on (Fd.PWM_C_CFG_EN c) = true :=
  ⟨7, ⟨7, 100, 100, 0⟩, { withFields [(Fd.PLL_STATUS_SYNCLOCK, 1), (Fd.PWM_C_CFG_EN 7, 1)] with tbl := { inflight := [⟨7, 100, 100, 0⟩] } }, by decide +kernel⟩

theorem witness_CarrierEvents_e :
    ∃ (m : BitVec 8) (c : Fin 8) (s : State), m.getLsbD c.val = true ∧ s.pwmRuns = true ∧ s.landing = false ∧
      s.on (Fd.PWM_C_CFG_EN c) = true :=
  ⟨0x81#8, 7, withFields [(Fd.PLL_STATUS_SYNCLOCK, 1), (Fd.PWM_C_CFG_EN 7, 1)], by decide +kernel⟩

theorem witness_CarrierEvents_f :
    ∃ (m : BitVec 8) (c : Fin 8) (s : State), m.getLsbD c.val = true ∧ s.pwmClk = true ∧ s.pwm.frozen = true ∧ s.landing = false ∧
      s.on (Fd.PWM_C_CFG_EN c) = true :=
  ⟨0x81#8, 7, { withFields [(Fd.PLL_STATUS_SYNCLOCK, 1), (Fd.PWM_C_CFG_EN 7, 1)] with pwm := { frozen := true } }, by decide +kernel⟩

theorem witness_CarrierEvents_g :
    ∃ (m : BitVec 8) (s : State), s.pwmClk = false :=
  ⟨0x81#8, State.reset, by decide +kernel⟩

theorem witness_CarrierEvents_h :
    ∃ (c : Fin 8) (v : Word) (s : State), s.pwmClk = true ∧ s.landing = false ∧ cut v.toNat 2 2 = 3 :=
  ⟨3, 0xD#32, withFields [(Fd.PLL_STATUS_SYNCLOCK, 1)], by decide +kernel⟩

theorem witness_CarrierEvents_i :
    ∃ (c : Fin 8) (v : Word) (s : State), s.pwmClk = true ∧ s.landing = false ∧ s.on (Fd.PWM_C_CFG_EN c) = true ∧
      cut v.toNat 1 1 ≠ s.get (Fd.PWM_C_CFG_MODE c) :=
  ⟨3, 3#32, withFields [(Fd.PLL_STATUS_SYNCLOCK, 1), (Fd.PWM_C_CFG_EN 3, 1)], by decide +kernel⟩

theorem witness_CarrierEvents_j :
    ∃ (c : Fin 8) (v : Word) (s : State), s.pwmClk = true ∧ s.landing = false ∧ s.on (Fd.PWM_C_CFG_EN c) = false ∧ cut v.toNat 2 2 ≠ 3 :=
  ⟨3, 0xB#32, withFields [(Fd.PLL_STATUS_SYNCLOCK, 1)], by decide +kernel⟩

theorem witness_CarrierEvents_k :
    ∃ (c : Fin 8) (v : Word) (s : State), s.pwmClk = true ∧ s.landing = false ∧ s.on (Fd.PWM_C_CFG_EN c) = true ∧ cut v.toNat 0 1 = 0 ∧
      cut v.toNat 1 1 = s.get (Fd.PWM_C_CFG_MODE c) ∧ cut v.toNat 2 2 = s.get (Fd.PWM_C_CFG_LDPT c) ∧ s.get (Fd.PWM_C_CFG_LDPT c) ≠ 3 :=
  ⟨3, 0, withFields [(Fd.PLL_STATUS_SYNCLOCK, 1), (Fd.PWM_C_CFG_EN 3, 1)], by decide +kernel⟩

theorem witness_LoadingShadows_a :
    ∃ (m : BitVec 8) (c : Fin 8) (s : State), s.pwmClk = true ∧ s.landing = false :=
  ⟨0x81#8, 7, withFields [(Fd.PLL_STATUS_SYNCLOCK, 1)], by decide +kernel⟩

theorem witness_LoadingShadows_b :
    ∃ (m : BitVec 8) (c : Fin 8) (s : State), s.pwmClk = true :=
  ⟨0x81#8, 7, withFields [(Fd.PLL_STATUS_SYNCLOCK, 1)], by decide +kernel⟩

theorem witness_LoadingShadows_c :
    ∃ (c : Fin 8) (l : Launch) (s : State), s.launchOf (8 + c.val) = some l ∧ s.pwmClk = true :=
  ⟨7, ⟨15, 100, 100, 0⟩, { withFields [(Fd.PLL_STATUS_SYNCLOCK, 1)] with tbl := { count := 220, inflight := [⟨15, 100, 100, 0⟩] } }, by decide +kernel⟩

theorem witness_LoadingShadows_d :
    ∃ (c : Fin 8) (s : State), s.pwmClk = true ∧ s.landing = false ∧ s.pwm.carriers[c].run = false ∧ s.pwm.held = [] ∧ s.pwm.rearmed = [] :=
  ⟨7, withFields [(Fd.PLL_STATUS_SYNCLOCK, 1), (⟨Reg.PWM_LOADALL, 7, 1⟩, 1)], by decide +kernel⟩

theorem witness_LoadingShadows_e :
    ∃ (c : Fin 8) (x : Nat) (s : State), s.pwmClk = true ∧ s.landing = false ∧ (s.advance 2).pwm.carriers[c].run = true ∧
      (s.advance 2).nextLoad c = some x ∧ x < (s.advance 2).pwm.carriers[c].abs + 120 ∧
      (s.advance 2).pwm.carriers[c].armedAt + 120 ≤ (s.advance 2).now + (x - (s.advance 2).pwm.carriers[c].abs) :=
  ⟨7, 32000, { withFields [(Fd.PLL_STATUS_SYNCLOCK, 1), (⟨Reg.PWM_LOADALL, 7, 1⟩, 1), (Fd.PWM_C_ACTPER_PER 7, 32000)] with now := 1000, pwm := { carriers := Vector.replicate 8 { run := true, abs := 31900, tau := 31900 } } }, by decide +kernel⟩

theorem witness_LoadingShadows_f1 :
    ∃ (sh : Shadow) (v : Word) (s : State), s.pwmClk = true ∧ s.landing = false ∧
      (s.get Fd.PWM_LOADALL_ALL).testBit (s.shadowCar sh).val = false ∧ s.pwm.relAt ≠ s.now + 80 :=
  ⟨.cmpb 47, 0xFFFFFFFF#32, withFields [(Fd.PLL_STATUS_SYNCLOCK, 1)], by decide +kernel⟩

theorem witness_LoadingShadows_f2 :
    ∃ (sh : Shadow) (v : Word) (s : State), s.pwmClk = true ∧ s.landing = false ∧
      (s.get Fd.PWM_LOADALL_ALL).testBit (s.shadowCar sh).val = false ∧ s.pwm.relAt ≠ s.now + 80 :=
  ⟨.ofs 0, 0xFFFFFFFF#32, withFields [(Fd.PLL_STATUS_SYNCLOCK, 1)], by decide +kernel⟩

theorem witness_LoadingShadows_g :
    ∃ (sh : Shadow) (v : Word) (s : State), s.pwmClk = true ∧ s.landing = false ∧
      (s.get Fd.PWM_LOADALL_ALL).testBit (s.shadowCar sh).val = true ∧ s.pwm.relAt ≠ s.now + 80 ∧
      s.pwm.carriers[s.shadowCar sh].armCycle ≠ some (s.now + 80) :=
  ⟨.per 7, 0xFFFFFFFF#32, withFields [(Fd.PLL_STATUS_SYNCLOCK, 1), (⟨Reg.PWM_LOADALL, 7, 1⟩, 1)], by decide +kernel⟩

theorem witness_LegSwitching_a :
    ∃ (n : Fin 48) (x : Nat) (s : State), s.pwm.carriers[s.carOf n].run = true ∧ s.pwmRuns = true ∧ s.nextEdge n = some x :=
  ⟨47, 1000, { withFields [(Fd.PLL_STATUS_SYNCLOCK, 1), (Fd.PWM_C_ACTPER_PER 0, 32000), (Fd.PWM_LEG_ACTA_VALUE 47, 1000), (Fd.PWM_LEG_ACTB_VALUE 47, 20000)] with pwm := { carriers := Vector.replicate 8 { run := true } } }, by decide +kernel⟩

theorem witness_LegSwitching_b :
    ∃ (n : Fin 48) (d : Nat) (s : State), s.pwmRuns = true ∧ s.pwm.legs[n].turnOn = some (true, d) ∧ s.legCmd n = (true, false) ∧
      s.on (Fd.PWM_LEG_STATE_GUARDED n) = false ∧ s.on (Fd.PWM_LEG_STATE_H n) = false ∧ s.on (Fd.PWM_LEG_STATE_L n) = false :=
  ⟨47, 5, { withFields [(Fd.PLL_STATUS_SYNCLOCK, 1), (Fd.PWM_LEG_CFG_EN 47, 1), (Fd.PWM_CTRL_OUTEN, 1), (Fd.PWM_STATUS_HUWAIT, 0), (Fd.PWM_LEG_OVR_EN 47, 1), (Fd.PWM_LEG_OVR_H 47, 1)] with pwm := { carriers := Vector.replicate 8 { run := true }, legs := Vector.replicate 48 { turnOn := some (true, 5) } } }, by decide +kernel⟩

theorem witness_LegSwitching_c :
    ∃ (n : Fin 48) (d : Nat) (s : State), s.pwmRuns = true ∧ s.pwm.legs[n].turnOn = some (false, d) ∧ s.legCmd n = (false, true) ∧
      s.on (Fd.PWM_LEG_STATE_GUARDED n) = false ∧ s.on (Fd.PWM_LEG_STATE_H n) = false ∧ s.on (Fd.PWM_LEG_STATE_L n) = false :=
  ⟨47, 5, { withFields [(Fd.PLL_STATUS_SYNCLOCK, 1), (Fd.PWM_LEG_CFG_EN 47, 1), (Fd.PWM_CTRL_OUTEN, 1), (Fd.PWM_STATUS_HUWAIT, 0), (Fd.PWM_LEG_OVR_EN 47, 1), (Fd.PWM_LEG_OVR_L 47, 1)] with pwm := { carriers := Vector.replicate 8 { run := true }, legs := Vector.replicate 48 { turnOn := some (false, 5) } } }, by decide +kernel⟩

theorem witness_LegSwitching_d :
    ∃ (n : Fin 48) (v : Word) (s : State), s.pwmClk = true ∧ s.landing = false :=
  ⟨47, 7, withFields [(Fd.PLL_STATUS_SYNCLOCK, 1)], by decide +kernel⟩

theorem witness_LegSwitching_e :
    ∃ (n : Fin 48) (v : Word) (s : State), s.pwmClk = true ∧ s.landing = false ∧ cut v.toNat 12 2 = 3 :=
  ⟨47, 0x3000#32, withFields [(Fd.PLL_STATUS_SYNCLOCK, 1)], by decide +kernel⟩

theorem witness_LegSwitching_f :
    ∃ (n : Fin 48) (v : Word) (s : State), s.pwmClk = true ∧ s.landing = false ∧ cut v.toNat 12 2 ≠ 3 ∧
      s.on (Fd.PWM_LEG_CFG_EN n) = false :=
  ⟨47, 0x2FFF#32, withFields [(Fd.PLL_STATUS_SYNCLOCK, 1)], by decide +kernel⟩

theorem witness_LegSwitching_g :
    ∃ (n : Fin 48) (a : Nat) (s : State), s.get (Fd.PWM_LEG_GUARD_MAXON n) ≠ 0 ∧ s.pwm.legs[n].onH = some a :=
  ⟨47, 100, { withFields [(Fd.PWM_LEG_GUARD_MAXON 47, 1), (Fd.PWM_LEG_STATE_H 47, 1)] with pwm := { legs := Vector.replicate 48 { onH := some 100 } } }, by decide +kernel⟩

theorem witness_ForcingAndFreeze_a1 :
    ∃ (e : ForceEvent) (k : Fin 8) (s : State), (s.forceMask e).testBit k.val = true ∧ (∀ i : Fin 8, e = .fltin i →
      (s.get Fd.PWM_FLTINCFG_EN).testBit i.val = true) :=
  ⟨.modin 111, 7, withRegs [(Reg.PWM_FMAPMOD 27, 0x80000000)], by decide +kernel⟩

theorem witness_ForcingAndFreeze_a2 :
    ∃ (e : ForceEvent) (k : Fin 8) (s : State), (s.forceMask e).testBit k.val = true ∧ (∀ i : Fin 8, e = .fltin i →
      (s.get Fd.PWM_FLTINCFG_EN).testBit i.val = true) :=
  ⟨.fltin 7, 0, withRegs [(Reg.PWM_FMAPFLT 1, 0x01000000), (Reg.PWM_FLTINCFG, 0xFFFF)], by decide +kernel⟩

theorem witness_ForcingAndFreeze_a3 :
    ∃ (e : ForceEvent) (k : Fin 8) (s : State), (s.forceMask e).testBit k.val = true ∧ (∀ i : Fin 8, e = .fltin i →
      (s.get Fd.PWM_FLTINCFG_EN).testBit i.val = true) :=
  ⟨.prot 1, 3, withRegs [(Reg.PWM_FMAPPROT, 0x800)], by decide +kernel⟩

theorem witness_ForcingAndFreeze_b :
    ∃ (i : Fin 8) (k : Fin 8) (s : State), (s.forceMask (.fltin i)).testBit k.val = true ∧
      (s.get Fd.PWM_FLTINCFG_EN).testBit i.val = true :=
  ⟨7, 0, withRegs [(Reg.PWM_FMAPFLT 1, 0x01000000), (Reg.PWM_FLTINCFG, 0xFFFF)], by decide +kernel⟩

theorem witness_ForcingAndFreeze_d :
    ∃ (n : Fin 48) (s : State), s.pwm.legs[n].forced = true ∧ s.on Fd.PWM_FSTAT_PFW = false ∧ s.pwmRuns = true :=
  ⟨47, { withFields [(Fd.PLL_STATUS_SYNCLOCK, 1)] with pwm := { legs := Vector.replicate 48 { forced := true } } }, by decide +kernel⟩

theorem witness_ForcingAndFreeze_e :
    ∃ (k : Fin 8) (s : State), s.pwmClk = true ∧ s.landing = false ∧ s.demand.testBit k.val = false :=
  ⟨7, (withFields [(Fd.PLL_STATUS_SYNCLOCK, 1)]).wrN Reg.PWM_FSTAT 0xFF, by decide +kernel⟩

theorem witness_ForcingAndFreeze_f :
    ∃ (k : Fin 8) (s : State), s.pwmClk = true ∧ s.landing = false ∧ s.demand.testBit k.val = true :=
  ⟨7, { (withFields [(Fd.PLL_STATUS_SYNCLOCK, 1)]).wrN Reg.PWM_FMAPPROT 0x80 with pwm := { protLines := 1 } }, by decide +kernel⟩

theorem witness_ForcingAndFreeze_g :
    ∃ (s : State), s.selHalted = true ∧ s.on Fd.PWM_CTRL_DBGACT = false ∧ s.pwm.frozen = false :=
  ⟨{ withFields [(Fd.SYSCFG_DBGSEL_SEL, 32)] with cpu := Vector.replicate 6 { halted := true } }, by decide +kernel⟩

theorem witness_ForcingAndFreeze_h :
    ∃ (s : State), s.selHalted = true ∧ s.on Fd.PWM_CTRL_DBGACT = true :=
  ⟨{ withFields [(Fd.SYSCFG_DBGSEL_SEL, 1), (Fd.PWM_CTRL_DBGACT, 1)] with cpu := Vector.replicate 6 { halted := true } }, by decide +kernel⟩

theorem witness_ForcingAndFreeze_i :
    ∃ (s : State), s.pwmClk = true ∧ s.selHalted = false ∧ s.pwm.frozen = true :=
  ⟨{ withFields [(Fd.PLL_STATUS_SYNCLOCK, 1)] with pwm := { frozen := true } }, by decide +kernel⟩

theorem witness_DriveFrames_b :
    ∃ (k : Fin 12) (p : Nat) (l : List Nat) (s : State), s.laneOpen k = true ∧ s.drive.groups[k].slots = p :: l ∧ p < 16 ∧
      (s.laneFree k 0).tooLate k p (s.laneFree k 0).now = false :=
  ⟨11, 15, [3, 4], lane11, by decide +kernel⟩

theorem witness_DriveFrames_c :
    ∃ (k : Fin 12) (p : Nat) (l : List Nat) (s : State), s.laneOpen k = true ∧ s.drive.groups[k].slots = p :: l ∧
      (s.laneFree k 0).tooLate k p (s.laneFree k 0).now = true ∧ p ∉ s.drive.groups[k].late :=
  ⟨0, 0, [4], lateLane, by decide +kernel⟩

theorem witness_DriveFrames_d :
    ∃ (k : Fin 12) (s : State), s.laneOpen k = true ∧ s.drive.groups[k].slots = [] ∧ s.drive.groups[k].refresh < 16 ∧
      (s.laneFree k (10 * tUs)).tooLate k s.drive.groups[k].refresh (s.laneFree k (10 * tUs)).now = false :=
  ⟨11, lane11idle, by decide +kernel⟩

theorem witness_DriveFrames_e1 :
    ∃ (n : Fin 48) (v : Word) (i : Fin 4) (s : State), s.pwmClk = true ∧ s.landing = false ∧ s.drive.relAt ≠ s.now + 80 :=
  ⟨47, 0xFFFFFFFF#32, 3, withFields [(Fd.PLL_STATUS_SYNCLOCK, 1)], by decide +kernel⟩

theorem witness_DriveFrames_e2 :
    ∃ (n : Fin 48) (v : Word) (i : Fin 4) (s : State), s.pwmClk = true ∧ s.landing = false ∧ s.drive.relAt ≠ s.now + 80 :=
  ⟨5, 0x08888#32, 3, withFields [(Fd.PLL_STATUS_SYNCLOCK, 1)], by decide +kernel⟩

theorem witness_DriveFrames_f :
    ∃ (n : Fin 48) (v : Word) (s : State), s.pwmClk = true ∧ s.drive.relAt = s.now ∧ n.val ∈ s.drive.relLegs :=
  ⟨47, 0xFFFFFFFF#32, { withFields [(Fd.PLL_STATUS_SYNCLOCK, 1)] with drive := { relLegs := [47] } }, by decide +kernel⟩

theorem witness_DriveFrames_g :
    ∃ (k : Fin 12) (v : Word) (i : Fin 4) (s : State), s.pwmClk = true ∧ s.landing = false ∧
      cut v.toNat 1 2 ≠ cut (s.rdN (Reg.DRIVE_G_CFG k)) 1 2 ∧ s.on (Fd.PWM_LEG_CFG_EN (4 * k.val + i.val)) = true :=
  ⟨11, 6, 3, withFields [(Fd.PLL_STATUS_SYNCLOCK, 1), (Fd.PWM_LEG_CFG_EN 47, 1)], by decide +kernel⟩

theorem witness_DriveFrames_h :
    ∃ (k : Fin 12) (v : Word) (s : State), s.pwmClk = true ∧ s.landing = false ∧
      (∀ i : Fin 4, s.on (Fd.PWM_LEG_CFG_EN (4 * k.val + i.val)) = false) :=
  ⟨11, 7, withFields [(Fd.PLL_STATUS_SYNCLOCK, 1)], by decide +kernel⟩

theorem witness_DriveFrames_i :
    ∃ (k : Fin 12) (v : Word) (s : State), s.pwmClk = true ∧ s.landing = false ∧
      (∀ i : Fin 4, s.on (Fd.PWM_LEG_CFG_EN (4 * k.val + i.val)) = false) ∧ s.get (Fd.DRIVE_G_STAT_STATE k) = 3 ∧
      s.on (Fd.DRIVE_G_CFG_LANEEN k) = false ∧ v.getLsbD 0 = true ∧ s.pmu.warned = false ∧ s.drive.groups[k].reports = 0 :=
  ⟨11, 7, { withFields [(Fd.PLL_STATUS_SYNCLOCK, 1)] with pmu := { warned := false } }, by decide +kernel⟩

theorem witness_DriveFrames_j :
    ∃ (n : Fin 48) (s : State), s.pwm.legs[n].refresh = none ∧ s.needsRefresh n = true ∧ s.pwm.legs[n].zeroSeen = true ∧
      max 1 (s.get (Fd.DRIVE_LEG_HS_K n)) ≤ s.pwm.legs[n].zeros :=
  ⟨47, rfLeg, by decide +kernel⟩

theorem witness_DriveFrames_k :
    ∃ (n : Fin 48) (r : Refresh) (s : State), s.pwm.legs[n].refresh = some r ∧ s.pwmRuns = true ∧ r.step = 1 :=
  ⟨47, { onAt := 90, offAt := 900, backAt := 999 }, { rfLeg with pwm := { carriers := Vector.replicate 8 { run := true }, legs := Vector.replicate 48 { refresh := some { onAt := 90, offAt := 900, backAt := 999 } } } }, by decide +kernel⟩

theorem witness_DriveFrames_l :
    ∃ (n : Fin 48) (r : Refresh) (s : State), s.pwm.legs[n].refresh = some r ∧ s.pwmRuns = true ∧ r.step = 3 :=
  ⟨47, { onAt := 90, offAt := 900, backAt := 999, step := 3 }, { rfLeg with pwm := { carriers := Vector.replicate 8 { run := true }, legs := Vector.replicate 48 { refresh := some { onAt := 90, offAt := 900, backAt := 999, step := 3 } } } }, by decide +kernel⟩

theorem witness_DriverFaults_a :
    ∃ (k : Fin 12) (legs : BitVec 4) (s : State), legs ≠ 0 :=
  ⟨11, 0xC#4, State.reset, by decide +kernel⟩

theorem witness_DriverFaults_b :
    ∃ (k : Fin 12) (leg : Fin 4) (w : Option (BitVec 17)) (s : State), s.drive.groups[k].reports.getLsbD leg.val = true ∧
      s.drive.groups[k].isTry = true ∧ s.get (Fd.DRIVE_G_STAT_STATE k) = 0 ∧
      s.get (Fd.DRIVE_G_STAT_TRIES k) < s.get (Fd.DRIVE_G_RETRY_MAXTRY k) :=
  ⟨11, 2, some 16000#17, { withFields [(Fd.DRIVE_G_STAT_STATE 11, 0), (Fd.DRIVE_G_RETRY_MAXTRY 11, 3)] with drive := { groups := Vector.replicate 12 { reports := 6#4, isTry := true } } }, by decide +kernel⟩

theorem witness_DriverFaults_c :
    ∃ (k : Fin 12) (leg : Fin 4) (w : Option (BitVec 17)) (s : State), s.drive.groups[k].reports.getLsbD leg.val = true ∧
      s.drive.groups[k].isTry = true ∧ s.get (Fd.DRIVE_G_STAT_STATE k) = 0 ∧
      s.get (Fd.DRIVE_G_STAT_TRIES k) = s.get (Fd.DRIVE_G_RETRY_MAXTRY k) :=
  ⟨11, 2, none, { withFields [(Fd.DRIVE_G_STAT_STATE 11, 0), (Fd.DRIVE_G_RETRY_MAXTRY 11, 0)] with drive := { groups := Vector.replicate 12 { reports := 6#4, isTry := true } } }, by decide +kernel⟩

theorem witness_DriverFaults_d1 :
    ∃ (k : Fin 12) (leg : Fin 4) (w : BitVec 17) (s : State), s.drive.groups[k].reports.getLsbD leg.val = true :=
  ⟨11, 1, 24000#17, { State.reset with drive := { groups := Vector.replicate 12 { reports := 6#4, isTry := true } } }, by decide +kernel⟩

theorem witness_DriverFaults_d2 :
    ∃ (k : Fin 12) (leg : Fin 4) (w : BitVec 17) (s : State), s.drive.groups[k].reports.getLsbD leg.val = true :=
  ⟨11, 1, 40000#17, { State.reset with drive := { groups := Vector.replicate 12 { reports := 6#4, isTry := true } } }, by decide +kernel⟩

theorem witness_DriverFaults_d3 :
    ∃ (k : Fin 12) (leg : Fin 4) (w : BitVec 17) (s : State), s.drive.groups[k].reports.getLsbD leg.val = true :=
  ⟨11, 1, 24001#17, { State.reset with drive := { groups := Vector.replicate 12 { reports := 6#4, isTry := true } } }, by decide +kernel⟩

theorem witness_DriverFaults_d4 :
    ∃ (k : Fin 12) (leg : Fin 4) (w : BitVec 17) (s : State), s.drive.groups[k].reports.getLsbD leg.val = true :=
  ⟨11, 1, 56001#17, { State.reset with drive := { groups := Vector.replicate 12 { reports := 6#4, isTry := true } } }, by decide +kernel⟩

theorem witness_DriverFaults_e :
    ∃ (k : Fin 12) (x : Nat) (s : State), s.drive.groups[k].waitEnd = some x ∧ s.get (Fd.DRIVE_G_STAT_STATE k) = 1 ∧ s.pmu.warned = false ∧
      s.pwmClk = true ∧ s.on (Fd.DRIVE_G_CFG_LANEEN k) = true ∧ s.drive.groups[k].reports = 0 :=
  ⟨11, 77, { withFields [(Fd.PLL_STATUS_SYNCLOCK, 1), (Fd.DRIVE_G_CFG_LANEEN 11, 1), (Fd.DRIVE_G_STAT_STATE 11, 1)] with drive := { groups := Vector.replicate 12 { waitEnd := some 77 } } }, by decide +kernel⟩

theorem witness_DriverFaults_f :
    ∃ (k : Fin 12) (x : Nat) (v : BitVec 4) (s : State), s.drive.groups[k].waitEnd = some x ∧ s.get (Fd.DRIVE_G_STAT_STATE k) = 1 ∧
      s.pmu.warned = false ∧ v ≠ 15 ∧ s.get (Fd.DRIVE_G_STAT_TRIES k) < s.get (Fd.DRIVE_G_RETRY_MAXTRY k) :=
  ⟨11, 77, 7, { withFields [(Fd.DRIVE_G_CFG_LANEEN 11, 1), (Fd.DRIVE_G_STAT_STATE 11, 1)] with drive := { groups := Vector.replicate 12 { waitEnd := some 77 } } }, by decide +kernel⟩

theorem witness_DriverFaults_g :
    ∃ (k : Fin 12) (x : Nat) (s : State), s.drive.groups[k].priming = some x ∧ s.grpFltn k = 15 :=
  ⟨11, 77, { State.reset with drive := { groups := Vector.replicate 12 { priming := some 77, retrying := true } } }, by decide +kernel⟩

theorem witness_DriverFaults_h :
    ∃ (k : Fin 12) (x : Nat) (s : State), s.drive.groups[k].priming = some x ∧ s.grpFltn k ≠ 15 :=
  ⟨11, 77, { State.reset with drive := { fltn := 0x7FFFFFFFFFFF, groups := Vector.replicate 12 { priming := some 77 } } }, by decide +kernel⟩

theorem witness_DriverFaults_i :
    ∃ (k : Fin 12) (x : Nat) (s : State), s.drive.groups[k].series = some x ∧ s.drive.groups[k].isTry = false :=
  ⟨11, 77, { withFields [(Fd.DRIVE_G_STAT_TRIES 11, 2)] with drive := { groups := Vector.replicate 12 { series := some 77 } } }, by decide +kernel⟩

theorem witness_DriverFaults_j :
    ∃ (k : Fin 12) (s : State), s.get (Fd.DRIVE_G_STAT_STATE k) = 2 ∧ s.pmu.warned = false ∧ s.drive.groups[k].reports = 0 ∧
      s.pwmClk = true ∧ s.on (Fd.DRIVE_G_CFG_LANEEN k) = true :=
  ⟨11, withFields [(Fd.PLL_STATUS_SYNCLOCK, 1), (Fd.DRIVE_G_CFG_LANEEN 11, 1), (Fd.DRIVE_G_STAT_STATE 11, 2), (Fd.DRIVE_G_STAT_TRIES 11, 3)], by decide +kernel⟩

theorem witness_DriverFaults_k :
    ∃ (k : Fin 12) (v : BitVec 4) (s : State), s.get (Fd.DRIVE_G_STAT_STATE k) = 2 ∧ s.pmu.warned = false ∧
      (v ≠ 15 ∨ s.drive.groups[k].reports ≠ 0) :=
  ⟨11, 14, withFields [(Fd.DRIVE_G_STAT_STATE 11, 2)], by decide +kernel⟩

theorem witness_GridUpdatesAndStages_a1 :
    ∃ (g : Fin 4) (q : GridUpdate) (s : State), s.gpRuns g = true ∧ s.gpFed g = true ∧ s.gpBracketed g (s.gpNext g) = true :=
  ⟨3, ⟨Vector.replicate 39 50000000#32⟩, gridFed 3, by decide +kernel⟩

theorem witness_GridUpdatesAndStages_a2 :
    ∃ (g : Fin 4) (q : GridUpdate) (s : State), s.gpRuns g = true ∧ s.gpFed g = true ∧ s.gpBracketed g (s.gpNext g) = true :=
  ⟨0, ⟨Vector.replicate 39 0x10000000#32⟩, (gridFed 0).put (Fd.PROT_STG_CFG_EN 0) 1, by decide +kernel⟩

theorem witness_GridUpdatesAndStages_b :
    ∃ (c : Nat) (x : Int) (w : Word), (c < 3 ∨ 5 < c) ∧ (c < 17 ∨ 19 < c) ∧ c ≠ 38 ∧ -(2 ^ 31) + 2 ^ 27 ≤ x ∧ x < 2 ^ 31 - 2 ^ 27 :=
  ⟨8, -12345, 0xFFFFFFFF#32, by decide +kernel⟩

theorem witness_GridUpdatesAndStages_c :
    ∃ (c : Nat) (x : Int) (w : Word), 17 ≤ c ∧ c < 20 ∧ 0 ≤ x ∧ x < 2 ^ 32 :=
  ⟨17, 0, 0xFFFFFFFF#32, by decide +kernel⟩

theorem witness_GridUpdatesAndStages_d :
    ∃ (g : Fin 4) (q : GridUpdate) (s : State), s.on (Fd.SEQ_GP_CFG_EN g) = true ∧ s.gpBad g = true :=
  ⟨3, ⟨Vector.replicate 39 50000000#32⟩, withFields [(Fd.SEQ_GP_CFG_EN 3, 1)], by decide +kernel⟩

theorem witness_GridUpdatesAndStages_e :
    ∃ (g : Fin 4) (j : Fin 6) (l : List MdatPeriod) (b : List Bool) (s : State), s.gpRuns g = true ∧ s.gpFed g = true ∧ s.gpInput g j < 56 ∧
      b = s.received (s.gpInput g j) l :=
  ⟨3, 2, mdat (List.replicate 64 true), (gridFed 3).received ((gridFed 3).gpInput 3 2) (mdat (List.replicate 64 true)), gridFed 3, by decide +kernel⟩

theorem witness_GridUpdatesAndStages_f1 :
    ∃ (k : Fin 16) (q : Quantity) (u : Nat) (s : State), s.on (Fd.PROT_STG_CFG_EN k) = true ∧ q.valid = true ∧
      (s.get Fd.PROT_PICKUP_PICKUP).testBit k.val = false :=
  ⟨3, ⟨99, 1, true⟩, 7, withFields [(Fd.PROT_STG_CFG_EN 3, 1), (Fd.PROT_STG_CFG_LEVEL 3, 100)], by decide +kernel⟩

theorem witness_GridUpdatesAndStages_f2 :
    ∃ (k : Fin 16) (q : Quantity) (u : Nat) (s : State), s.on (Fd.PROT_STG_CFG_EN k) = true ∧ q.valid = true ∧
      (s.get Fd.PROT_PICKUP_PICKUP).testBit k.val = false :=
  ⟨3, ⟨100, 1, true⟩, 7, withFields [(Fd.PROT_STG_CFG_EN 3, 1), (Fd.PROT_STG_CFG_LEVEL 3, 100)], by decide +kernel⟩

theorem witness_GridUpdatesAndStages_f3 :
    ∃ (k : Fin 16) (q : Quantity) (u : Nat) (s : State), s.on (Fd.PROT_STG_CFG_EN k) = true ∧ q.valid = true ∧
      (s.get Fd.PROT_PICKUP_PICKUP).testBit k.val = false :=
  ⟨12, ⟨101, 1, true⟩, 7, withFields [(Fd.PROT_STG_CFG_EN 12, 1), (Fd.PROT_STG_CFG_LEVEL 12, 100)], by decide +kernel⟩

theorem witness_GridUpdatesAndStages_g :
    ∃ (k : Fin 16) (x : Nat) (s : State), s.prot.stages[k].since = some x ∧ (s.get Fd.PROT_PICKUP_PICKUP).testBit k.val = true ∧
      s.on (Fd.PROT_STG_CFG_EN k) = true ∧ s.pmu.warned = false :=
  ⟨15, 7, { withFields [(⟨Reg.PROT_PICKUP, 15, 1⟩, 1), (Fd.PROT_STG_CFG_EN 15, 1), (Fd.PROT_STG_CFG_TRIP1 15, 1), (Fd.PROT_STG_TIME_TSET 15, 3)] with prot := { stages := Vector.replicate 16 { since := some 7 } } }, by decide +kernel⟩

theorem witness_GridUpdatesAndStages_h :
    ∃ (c : Fin 4) (i : Nat) (e : Nat) (s : State), s.prot.curves[c].inside = some i ∧ s.prot.curves[c].exc = some e ∧
      s.pmu.warned = false :=
  ⟨3, 9, 7, { State.reset with prot := { curves := Vector.replicate 4 { inside := some 9, exc := some 7 } } }, by decide +kernel⟩

theorem witness_GridUpdatesAndStages_i :
    ∃ (c : Fin 4) (e : Nat) (a : Nat) (r : Nat) (s : State), s.prot.curves[c].exc = some e ∧ s.prot.curves[c].expire = some (a, r) ∧ r < 8 ∧
      s.pmu.warned = false :=
  ⟨3, 7, 9000, 4, { State.reset with prot := { curves := Vector.replicate 4 { exc := some 7, expire := some (9000, 4) } } }, by decide +kernel⟩

theorem witness_GridUpdatesAndStages_j :
    ∃ (s : State), s.pmu.warned = false ∧ 0 < s.gpStep s.rtGp :=
  ⟨withFields [(Fd.SEQ_GP_STATUS_VALID 0, 1), (Fd.PROT_STG_CFG_EN 11, 1), (Fd.SEQ_GP_CFG_RATE 0, 2)], by decide +kernel⟩

theorem witness_GridUpdatesAndStages_k :
    ∃ (s : State), s.on (Fd.PROT_STG_CFG_EN 14) = true :=
  ⟨withFields [(Fd.PROT_STG_CFG_EN 14, 1)], by decide +kernel⟩

theorem witness_DisturbanceCapture_a :
    ∃ (s : State), s.on Fd.PROT_DCCFG_EN = true ∧ s.get Fd.PROT_DCSTAT_STATE = 0 ∧ s.capRefused = true :=
  ⟨withFields [(Fd.PROT_DCCFG_EN, 1)], by decide +kernel⟩

theorem witness_DisturbanceCapture_b :
    ∃ (s : State), s.on Fd.PROT_DCCFG_EN = true ∧ s.get Fd.PROT_DCSTAT_STATE = 0 ∧ s.capRefused = false :=
  ⟨withFields [(Fd.PROT_DCCFG_EN, 1), (Fd.PROT_DCCFG_RATE, 100), (Fd.PROT_DCCFG_NCH, 16), (⟨Reg.PROT_DCBUF, 0, 32⟩, 0x203FF000), (⟨Reg.PROT_DCBUFLEN, 0, 32⟩, 0x1000), (⟨Reg.PROT_DCMBASE, 0, 32⟩, 0x8B00000), (⟨Reg.PROT_DCMLEN, 0, 32⟩, 0x400000), (Fd.PROT_DCPRE_FRAMES, 10), (Fd.PROT_DCPOST_FRAMES, 10)], by decide +kernel⟩

theorem witness_DisturbanceCapture_c :
    ∃ (s : State), s.get Fd.PROT_DCSTAT_STATE = 1 :=
  ⟨withFields [(Fd.PROT_DCSTAT_STATE, 1)], by decide +kernel⟩

theorem witness_DisturbanceCapture_d :
    ∃ (s : State), (s.get Fd.PROT_DCSTAT_STATE = 0 ∨ s.get Fd.PROT_DCSTAT_STATE = 3) :=
  ⟨withFields [(Fd.PROT_DCSTAT_STATE, 3)], by decide +kernel⟩

theorem witness_DisturbanceCapture_e :
    ∃ (s : State), s.on Fd.PROT_DCCFG_EN = true ∧ s.get Fd.PROT_DCSTAT_STATE = 1 ∧ s.pwmClk = true ∧ 0 < s.prot.capture.rate ∧
      s.prot.capture.nch = 1 ∧ s.prot.capture.buflen = 80 ∧ s.prot.capture.buf < 2 ^ 30 ∧ s.tagFree 6 = true :=
  ⟨{ withFields [(Fd.PLL_STATUS_SYNCLOCK, 1), (Fd.PROT_DCCFG_EN, 1), (Fd.PROT_DCSTAT_STATE, 1)] with prot := { capture := { rate := 1, nch := 1, chans := Vector.replicate 4 0x40#32, buf := 0x20000000, buflen := 80, frames := 70009 } }, samples := Vector.replicate 256 ⟨0xDEADBEEF#32, true, 5⟩ }, by decide +kernel⟩

theorem witness_DisturbanceCapture_f :
    ∃ (s : State), s.get Fd.PROT_DCSTAT_STATE = 2 ∧ s.prot.capture.left = 0 ∧ s.prot.capture.recs = [] :=
  ⟨withFields [(Fd.PROT_DCSTAT_STATE, 2)], by decide +kernel⟩

theorem witness_DisturbanceCapture_g :
    ∃ (s : State), s.get Fd.PROT_DCSTAT_STATE = 3 ∧ s.on Fd.PROT_DCCFG_AUTO = false ∧ s.mramc.moving = none ∧ s.tagFree 6 = true :=
  ⟨{ withFields [(Fd.PROT_DCSTAT_STATE, 3)] with prot := { capture := { dest := 0x8B00000, pre := 1, post := 1, nch := 1, buflen := 80, trig := 77, frames := 9 } } }, by decide +kernel⟩

theorem witness_DcInputsAndProbe_a :
    ∃ (k : Fin 8) (v : Word) (s : State), s.sweeping k = false ∧ v.getLsbD 0 = true ∧ s.dcBad k v.toNat (s.dcLegs k) = true :=
  ⟨7, 0x3FFFFF#32, State.reset, by decide +kernel⟩

theorem witness_DcInputsAndProbe_b1 :
    ∃ (k : Fin 8) (v : Word) (s : State), s.sweeping k = false ∧ (v.getLsbD 0 = false ∨ s.dcBad k v.toNat (s.dcLegs k) = false) :=
  ⟨7, 0xFFFFFFFE#32, State.reset, by decide +kernel⟩

theorem witness_DcInputsAndProbe_b2 :
    ∃ (k : Fin 8) (v : Word) (s : State), s.sweeping k = false ∧ (v.getLsbD 0 = false ∨ s.dcBad k v.toNat (s.dcLegs k) = false) :=
  ⟨7, 1, State.reset, by decide +kernel⟩

theorem witness_DcInputsAndProbe_c :
    ∃ (k : Fin 8) (r : DcCfgReg) (v : Word) (s : State), s.sweeping k = true :=
  ⟨7, .legsHi, 5, withFields [(Fd.SYSCFG_DC_SWSTAT_STATE 7, 2)], by decide +kernel⟩

theorem witness_DcInputsAndProbe_d :
    ∃ (k : Fin 8) (s : State), s.sweepRefused k = false ∧ s.dc[k].stopTime ≠ some s.now :=
  ⟨7, withFields [(Fd.SYSCFG_DC_CFG_EN 7, 1), (Fd.SYSCFG_DC_SWCFG_NSTEP 7, 2), (Fd.SYSCFG_DC_SWCFG_CAPP 7, 1), (⟨Reg.SYSCFG_DC_SWCFG 7, 8, 8⟩, 2), (⟨Reg.SYSCFG_DC_SWCFG 7, 16, 8⟩, 2), (Fd.MODIN_IN_CFG_EN 0, 1), (Fd.SYSCFG_DC_SWCFG_CAPP 7, 1)], by decide +kernel⟩

theorem witness_DcInputsAndProbe_e :
    ∃ (k : Fin 8) (s : State), s.sweepRefused k = true :=
  ⟨7, State.reset, by decide +kernel⟩

theorem witness_DcInputsAndProbe_f :
    ∃ (k : Fin 8) (c : Nat) (z : Nat) (s : State), s.sweeping k = true ∧ s.get (Fd.SYSCFG_DC_CFG_CAR k) = c ∧
      s.get (Fd.SYSCFG_DC_SWSTAT_STATE k) = 1 ∧ s.dc[k].due = none ∧ s.dc[k].goAt + 120 ≤ z :=
  ⟨7, 5, 720, { withFields [(Fd.SYSCFG_DC_SWSTAT_STATE 7, 1), (Fd.SYSCFG_DC_CFG_CAR 7, 5)] with dc := Vector.replicate 8 { goAt := 600 } }, by decide +kernel⟩

theorem witness_DcInputsAndProbe_g :
    ∃ (k : Fin 8) (z : Nat) (s : State), s.dc[k].due = some z ∧ s.get (Fd.SYSCFG_DC_SWSTAT_STATE k) = 1 ∧ s.blockFree = true :=
  ⟨7, 500, { withFields [(Fd.SYSCFG_DC_SWSTAT_STATE 7, 1), (⟨Reg.SYSCFG_DC_SWCNT 7, 0, 32⟩, 0x1FF), (Fd.SYSCFG_DC_CFG_RK 7, 3), (Fd.SYSCFG_DC_REFADDR_ADDR 7, 9)] with dc := Vector.replicate 8 { due := some 500, entry := 0xCAFE1234 } }, by decide +kernel⟩

theorem witness_DcInputsAndProbe_h :
    ∃ (k : Fin 8) (x : DcCap) (l : List DcCap) (s : State), s.dc[k].caps = x :: l ∧ x.doneV = true ∧ x.doneI = true ∧
      x.step + 1 < s.dc[k].steps ∧ x.step < 64 :=
  ⟨7, { step := 5, sumV := -7, nV := 2, sumI := 9, nI := 2, doneV := true, doneI := true }, [{ step := 6 }], { State.reset with dc := Vector.replicate 8 { steps := 32, caps := [{ step := 5, sumV := -7, nV := 2, sumI := 9, nI := 2, doneV := true, doneI := true }, { step := 6 }] } }, by decide +kernel⟩

theorem witness_DcInputsAndProbe_i :
    ∃ (k : Fin 8) (x : DcCap) (l : List DcCap) (s : State), s.dc[k].caps = x :: l ∧ x.doneV = true ∧ x.doneI = true ∧
      x.step + 1 = s.dc[k].steps ∧ x.step < 256 :=
  ⟨7, { step := 1, sumV := 2 ^ 33, nV := 2, sumI := 2 ^ 32, nI := 2, doneV := true, doneI := true }, [], { withFields [(Fd.SYSCFG_DC_CFG_RTN 7, 1)] with dc := Vector.replicate 8 { steps := 2, caps := [{ step := 1, sumV := 2 ^ 33, nV := 2, sumI := 2 ^ 32, nI := 2, doneV := true, doneI := true }] } }, by decide +kernel⟩

theorem witness_DcInputsAndProbe_j :
    ∃ (k : Fin 8) (s : State), s.sweeping k = true ∧ s.dc[k].goTime ≠ some s.now ∧ s.sweepLast k = none ∧ s.blockFree = true :=
  ⟨7, withFields [(Fd.SYSCFG_DC_SWSTAT_STATE 7, 1)], by decide +kernel⟩

theorem witness_DcInputsAndProbe_k :
    ∃ (k : Fin 8) (s : State), s.sweeping k = false :=
  ⟨7, State.reset, by decide +kernel⟩

theorem witness_DcInputsAndProbe_l :
    ∃ (k : Fin 8) (s : State), s.sweeping k = true ∧ s.dc[k].caps = [] ∧ s.blockFree = true :=
  ⟨7, withFields [(Fd.SYSCFG_DC_SWSTAT_STATE 7, 2)], by decide +kernel⟩

theorem witness_DcInputsAndProbe_m :
    ∃ (k : Fin 8) (a : Nat) (s : State), s.dc[k].since = some a ∧ s.on (Fd.SYSCFG_DC_NSTAT_NIGHT k) = false ∧
      s.on (Fd.SYSCFG_DC_CFG_EN k) = true ∧ s.get (Fd.SYSCFG_DC_NWTIME_SLEEPT k) ≠ 0 ∧ s.pmu.warned = false :=
  ⟨7, 9, { withFields [(Fd.SYSCFG_DC_CFG_EN 7, 1), (Fd.SYSCFG_DC_NWTIME_SLEEPT 7, 1)] with dc := Vector.replicate 8 { since := some 9 } }, by decide +kernel⟩

theorem witness_DcInputsAndProbe_n :
    ∃ (k : Fin 8) (a : Nat) (s : State), s.dc[k].since = some a ∧ s.on (Fd.SYSCFG_DC_NSTAT_NIGHT k) = true ∧
      s.on (Fd.SYSCFG_DC_CFG_EN k) = true ∧ s.get (Fd.SYSCFG_DC_NWTIME_WAKET k) ≠ 0 ∧ s.pmu.warned = false :=
  ⟨7, 9, { withFields [(Fd.SYSCFG_DC_CFG_EN 7, 1), (Fd.SYSCFG_DC_NSTAT_NIGHT 7, 1), (Fd.SYSCFG_DC_NWTIME_WAKET 7, 1)] with dc := Vector.replicate 8 { since := some 9 } }, by decide +kernel⟩

theorem witness_DcInputsAndProbe_o :
    ∃ (l : Launch) (s : State), s.launchOf 61 = some l ∧ s.probeRuns = true ∧ s.blockFree = true ∧ s.pmu.clocksOff = false ∧
      l.matched + 80 + 2 * s.sysT ≤ s.now ∧ s.tbl.count % s.rdN Reg.PROBE_CHIPLEN ≤ 100 * tUs ∧ 0 < s.rdN Reg.PROBE_CHIPLEN :=
  ⟨⟨61, 0, 0, 0⟩, { withFields [(Fd.PLL_STATUS_SYNCLOCK, 1), (Fd.PROBE_CFG_EN, 1), (⟨Reg.PROBE_CHIPLEN, 0, 32⟩, 100000000)] with tbl := { count := 6500000005, inflight := [⟨61, 0, 0, 0⟩] }, now := 5000 }, by decide +kernel⟩

theorem witness_DcInputsAndProbe_p :
    ∃ (l : Launch) (s : State), s.launchOf 61 = some l ∧ s.probeRuns = true ∧ s.blockFree = true ∧ s.pmu.clocksOff = false ∧
      l.matched + 80 + 2 * s.sysT ≤ s.now ∧ 100 * tUs < s.tbl.count % s.rdN Reg.PROBE_CHIPLEN ∧ 0 < s.rdN Reg.PROBE_CHIPLEN :=
  ⟨⟨61, 0, 0, 0⟩, { withFields [(Fd.PLL_STATUS_SYNCLOCK, 1), (Fd.PROBE_CFG_EN, 1), (⟨Reg.PROBE_CHIPLEN, 0, 32⟩, 100000000)] with tbl := { count := 6501600001, inflight := [⟨61, 0, 0, 0⟩] }, now := 5000 }, by decide +kernel⟩

theorem witness_DcInputsAndProbe_q :
    ∃ (s : State), s.probeRuns = true :=
  ⟨{ withFields [(Fd.PROBE_CFG_EN, 1), (⟨Reg.PROBE_CHIPLEN, 0, 32⟩, 100000000), (Fd.PROBE_STATUS_STATE, 2)] with probe := { boundary := 63 } }, by decide +kernel⟩

theorem witness_DcInputsAndProbe_r :
    ∃ (s : State), s.probeRuns = true ∧ s.canReach ((s.probe.period + 1) * 64 * s.rdN Reg.PROBE_CHIPLEN + tPwm) = true :=
  ⟨{ withFields [(Fd.PLL_STATUS_SYNCLOCK, 1), (Fd.PROBE_CFG_EN, 1), (⟨Reg.PROBE_CHIPLEN, 0, 32⟩, 100000000)] with probe := { period := 9 } }, by decide +kernel⟩

theorem witness_DcInputsAndProbe_s :
    ∃ (s : State), s.on Fd.PROBE_STATUS_ISL = true ∧ s.probe.low = true ∧
      s.justSet Ev.PROBE_FLAGS_ISL.addr Ev.PROBE_FLAGS_ISL.bit = false :=
  ⟨{ withFields [(Fd.PROBE_STATUS_ISL, 1), (Fd.PROBE_CFG_TRIP0, 1)] with probe := { low := true } }, by decide +kernel⟩

theorem witness_DcInputsAndProbe_t :
    ∃ (s : State), s.on Fd.PROBE_STATUS_ISL = true ∧ s.probe.low = false :=
  ⟨withFields [(Fd.PROBE_STATUS_ISL, 1)], by decide +kernel⟩

theorem witness_Metering_a1 :
    ∃ (p : Fin 4) (S : Nat) (raw : Nat → Int) (s : State), s.inTest p = false ∧ s.meter.pts[p].acc[0] < 2 ^ 128 ∧
      s.meter.pts[p].acc[1] < 2 ^ 128 :=
  ⟨3, 500000, (fun k => if k < 3 then 1000 else -2000), withFields [(⟨Reg.METER_MP_PFS 3, 0, 32⟩, 1000000)], by decide +kernel⟩

theorem witness_Metering_a2 :
    ∃ (p : Fin 4) (S : Nat) (raw : Nat → Int) (s : State), s.inTest p = false ∧ s.meter.pts[p].acc[0] < 2 ^ 128 ∧
      s.meter.pts[p].acc[1] < 2 ^ 128 :=
  ⟨0, 500000, (fun k => 1000 * k), withFields [(⟨Reg.METER_MP_PFS 0, 0, 32⟩, 1000000)], by decide +kernel⟩

theorem witness_Metering_b :
    ∃ (x : Vector MeterSample 4) (p : Fin 4) (s : State), s.mpRuns p = true ∧ s.on Fd.PLL_STATUS_SYSLOCK = true ∧ s.inTest p = true ∧
      s.on Fd.METER_TSGCFG_EN = true ∧ s.get Fd.METER_TSGCFG_PT = p.val ∧ s.on (Fd.METER_MP_STATUS_NOLOAD p) = false ∧
      s.meter.pts[p].test[0] < 2 ^ 128 :=
  ⟨Vector.replicate 4 ⟨Vector.replicate 7 [], 0⟩, 3, withFields [(Fd.PLL_STATUS_SYNCLOCK, 1), (Fd.PLL_STATUS_SYSLOCK, 1), (Fd.METER_STATUS_RESTORING, 0), (Fd.METER_MP_CFG_EN 3, 1), (⟨Reg.METER_MP_PFS 3, 0, 32⟩, 1000000), (⟨Reg.METER_MP_INOM 3, 0, 32⟩, 5), (Fd.METER_MP_STATUS_TEST 3, 1), (Fd.METER_TSGCFG_EN, 1), (Fd.METER_TSGCFG_PT, 3), (⟨Reg.METER_TSGV, 0, 32⟩, 0x20000000), (⟨Reg.METER_TSGI, 0, 32⟩, 0x20000000)], by decide +kernel⟩

theorem witness_Metering_c :
    ∃ (x : Vector MeterSample 4) (p : Fin 4) (s : State), s.mpRuns p = true ∧ s.pwmClk = false ∧ s.on Fd.PLL_STATUS_SYSLOCK = true ∧
      s.inTest p = false ∧ s.on Fd.METER_TSGCFG_EN = false :=
  ⟨Vector.replicate 4 ⟨Vector.replicate 7 [], 0⟩, 3, withFields [(Fd.PLL_STATUS_SYSLOCK, 1), (Fd.METER_STATUS_RESTORING, 0), (Fd.METER_MP_CFG_EN 3, 1), (⟨Reg.METER_MP_PFS 3, 0, 32⟩, 1000000), (⟨Reg.METER_MP_INOM 3, 0, 32⟩, 5)], by decide +kernel⟩

theorem witness_Metering_d :
    ∃ (p : Fin 4) (x : MeterSample) (e : Nat) (s : State), s.mpRuns p = true ∧ s.pwmClk = true ∧ s.on Fd.PLL_STATUS_SYSLOCK = true ∧
      e = s.meter.pts[p].winStart + 16 * 10 ^ 15 / s.meter.pts[p].winFreq :=
  ⟨3, ⟨Vector.replicate 7 [], 0⟩, 320000000, { withFields [(Fd.PLL_STATUS_SYNCLOCK, 1), (Fd.PLL_STATUS_SYSLOCK, 1), (Fd.METER_STATUS_RESTORING, 0), (Fd.METER_MP_CFG_EN 3, 1), (⟨Reg.METER_MP_PFS 3, 0, 32⟩, 1000000), (⟨Reg.METER_MP_INOM 3, 0, 32⟩, 5)] with meter := { pts := Vector.replicate 4 { winFreq := 50000000, bad := [500000] } } }, by decide +kernel⟩

theorem witness_Metering_e :
    ∃ (p : Fin 4) (s : State), s.pmu.warned = false ∧ s.meter.pts[p].snap = none :=
  ⟨3, State.reset, by decide +kernel⟩

theorem witness_Metering_f :
    ∃ (p : Fin 4) (l : Launch) (s : State), s.pmu.warned = false ∧ s.meter.pts[p].snap = none ∧ s.launchOf (57 + p.val) = some l ∧
      s.pmu.clocksOff = false :=
  ⟨3, ⟨60, 5, 7, 0⟩, { State.reset with tbl := { inflight := [⟨60, 5, 7, 0⟩] } }, by decide +kernel⟩

theorem witness_Metering_g :
    ∃ (p : Fin 4) (x : MeterSnap) (s : State), s.pmu.warned = false ∧ s.meter.pts[p].snap = some x :=
  ⟨3, ⟨5, none⟩, { State.reset with meter := { pts := Vector.replicate 4 { snap := some ⟨5, none⟩ } } }, by decide +kernel⟩

theorem witness_Metering_h :
    ∃ (p : Fin 4) (x : MeterSnap) (v : Accumulators) (a : Fin 14) (s : State), s.pmu.warned = false ∧ s.meter.pts[p].snap = some x ∧
      x.acc = some v :=
  ⟨3, ⟨2 ^ 40 + 5, some (Vector.replicate 14 (2 ^ 120 + 2 ^ 90 + 2 ^ 60))⟩, Vector.replicate 14 (2 ^ 120 + 2 ^ 90 + 2 ^ 60), 13, { State.reset with meter := { pts := Vector.replicate 4 { snap := some ⟨2 ^ 40 + 5, some (Vector.replicate 14 (2 ^ 120 + 2 ^ 90 + 2 ^ 60))⟩ } } }, by decide +kernel⟩

theorem witness_Metering_i :
    ∃ (q : Fin 4) (d : Nat) (w : Nat) (l : List (Nat × Nat)) (s : State), s.pmu.warned = false ∧ s.on (Fd.METER_PLS_STAT_HIGH q) = false ∧
      s.on (Fd.METER_PLS_CFG_EN q) = true ∧ s.meter.pulses[q].due = (d, w) :: l :=
  ⟨3, 5, 32000000, [(7, 8)], { withFields [(Fd.METER_PLS_CFG_EN 3, 1)] with meter := { pulses := Vector.replicate 4 { due := [(5, 32000000), (7, 8)] } } }, by decide +kernel⟩

theorem witness_Metering_j :
    ∃ (q : Fin 4) (x : Nat) (s : State), s.on (Fd.METER_PLS_STAT_HIGH q) = true ∧ s.meter.pulses[q].start = some x :=
  ⟨3, 5, { withFields [(Fd.METER_PLS_STAT_HIGH 3, 1)] with meter := { pulses := Vector.replicate 4 { start := some 5, width := 100 } } }, by decide +kernel⟩

theorem witness_Metering_k :
    ∃ (s : State), s.pmu.warned = false ∧ s.on Fd.METER_STATUS_RESTORING = false ∧ s.pwmClk = true ∧ s.mramc.moving = none ∧
      s.meter.saves = [] ∧ 0 < s.get Fd.METER_SAVECFG_SAVEINT ∧ s.blockIdle = true ∧ s.tagFree 14 = true :=
  ⟨{ withFields [(Fd.PLL_STATUS_SYNCLOCK, 1), (Fd.METER_STATUS_RESTORING, 0), (Fd.METER_SAVECFG_SAVEINT, 100)] with mem := [(0x8A00001, 7#8)] }, by decide +kernel⟩

theorem witness_Metering_l :
    ∃ (v : MeterSave) (s : State), s.pmu.warned = false ∧ s.mramc.moving = none ∧ s.meter.saves = [v] ∧ s.on Fd.METER_STATUS_SAVING = true ∧
      s.blockIdle = true ∧ s.tagFree 14 = true :=
  ⟨⟨0, 2 ^ 40 + 7, 0, none⟩, { withFields [(Fd.METER_STATUS_SAVING, 1)] with meter := { slot := 1023, saves := [⟨0, 2 ^ 40 + 7, 0, none⟩] } }, by decide +kernel⟩

theorem witness_Metering_m :
    ∃ (v : MeterSave) (u : MeterSave) (r : List MeterSave) (s : State), s.pmu.warned = false ∧ s.mramc.moving = none ∧
      s.meter.saves = v :: u :: r ∧ s.on Fd.METER_STATUS_SAVING = true ∧ s.blockIdle = true ∧ s.tagFree 14 = true :=
  ⟨⟨0, 2 ^ 40 + 7, 0, none⟩, ⟨3, 8, 0, none⟩, [], { withFields [(Fd.METER_STATUS_SAVING, 1)] with meter := { slot := 1022, saves := [⟨0, 2 ^ 40 + 7, 0, none⟩, ⟨3, 8, 0, none⟩] } }, by decide +kernel⟩

theorem witness_Metering_n :
    ∃ (v : MeterSave) (s : State), s.pmu.warned = false ∧ s.meter.saves.head? = some v ∧ s.on Fd.METER_STATUS_SAVING = true :=
  ⟨⟨0, 7, 0, none⟩, { withFields [(Fd.METER_STATUS_SAVING, 1)] with meter := { saves := [⟨0, 7, 0, none⟩] } }, by decide +kernel⟩

theorem witness_Metering_o :
    ∃ (v : Word) (s : State), v.getLsbD 0 = true ∧ s.on (Fd.METER_MP_CFG_TESTOK (cut v.toNat 1 2)) = false :=
  ⟨7, withFields [(Fd.METER_MP_CFG_TESTOK 3, 0)], by decide +kernel⟩

theorem witness_Metering_p :
    ∃ (v : Word) (s : State), (v.getLsbD 0 = false ∨ s.on (Fd.METER_MP_CFG_TESTOK (cut v.toNat 1 2)) = true) :=
  ⟨0xF#32, withFields [(Fd.METER_MP_CFG_TESTOK 3, 1)], by decide +kernel⟩

theorem witness_SafetyFunction_a1 :
    ∃ (i : Fin 8) (b : Bool) (l : Bool) (h : Nat) (s : State), s.pmu.clocksOff = false ∧ s.filterHeld i b = false ∧ s.filtSamples i h ≤ h :=
  ⟨7, false, true, 500, State.reset, by decide +kernel⟩

theorem witness_SafetyFunction_a2 :
    ∃ (i : Fin 8) (b : Bool) (l : Bool) (h : Nat) (s : State), s.pmu.clocksOff = false ∧ s.filterHeld i b = false ∧ s.filtSamples i h ≤ h :=
  ⟨7, true, false, 500, { withFields [(Fd.SAFE_IN_CFG_EN 7, 1), (Fd.SAFE_OUT_CFG_MAP 0, 128), (Fd.SAFE_STATUS_OUTON, 1)] with safe := { filtA := 0xFF, filtB := 0xFF } }, by decide +kernel⟩

theorem witness_SafetyFunction_b :
    ∃ (i : Fin 8) (x : Nat) (s : State), s.pmu.clocksOff = false ∧ s.safe.differ[i] = some x ∧ s.on (Fd.SAFE_IN_CFG_EN i) = true ∧
      s.on Fd.SAFE_STATUS_LOCK = false ∧ s.safe.undo = none :=
  ⟨7, 9, { withFields [(Fd.SAFE_IN_CFG_EN 7, 1)] with safe := { differ := Vector.replicate 8 (some 9) } }, by decide +kernel⟩

theorem witness_SafetyFunction_c :
    ∃ (j : Fin 4) (b : Bool) (s : State), s.pmu.clocksOff = false ∧ s.safe.undo = none ∧ s.on Fd.SAFE_STATUS_LOCK = false :=
  ⟨3, true, withFields [(Fd.SAFE_STATUS_OUTON, 5)], by decide +kernel⟩

theorem witness_SafetyFunction_d :
    ∃ (s : State), s.pmu.clocksOff = false ∧ s.safe.undo = none ∧ s.on Fd.SAFE_STATUS_LOCK = false :=
  ⟨withFields [(Fd.SAFE_STATUS_OUTON, 5)], by decide +kernel⟩

theorem witness_SafetyFunction_e :
    ∃ (s : State), s.pmu.clocksOff = false ∧ s.safe.undo = none ∧ s.on Fd.SAFE_STATUS_LOCK = false :=
  ⟨withFields [(Fd.SAFE_STATUS_OUTON, 5)], by decide +kernel⟩

theorem witness_SafetyFunction_f1 :
    ∃ (s : State), s.pmu.clocksOff = false ∧ s.pwmClk = false ∧ s.safe.undo = none ∧ s.on Fd.SAFE_STATUS_PWMCLK = true :=
  ⟨withFields [(Fd.SAFE_STATUS_PWMCLK, 1), (Fd.SAFE_STATUS_OUTON, 1)], by decide +kernel⟩

theorem witness_SafetyFunction_f2 :
    ∃ (s : State), s.pmu.clocksOff = false ∧ s.pwmClk = false ∧ s.safe.undo = none ∧ s.on Fd.SAFE_STATUS_PWMCLK = true :=
  ⟨withFields [(Fd.SAFE_STATUS_PWMCLK, 1), (Fd.SAFE_STATUS_OUTON, 0)], by decide +kernel⟩

theorem witness_SafetyFunction_g :
    ∃ (s : State), s.pmu.clocksOff = false ∧ s.pwmClk = true :=
  ⟨withFields [(Fd.PLL_STATUS_SYNCLOCK, 1), (Fd.SAFE_STATUS_PWMCLK, 0)], by decide +kernel⟩

theorem witness_SafetyFunction_h :
    ∃ (s : State), s.pmu.clocksOff = false :=
  ⟨withFields [(Fd.SAFE_STATUS_OUTON, 1)], by decide +kernel⟩

theorem witness_SafetyFunction_i :
    ∃ (s : State), s.pmu.clocksOff = false ∧ s.safe.array.marker = true ∧ s.on Fd.SAFE_STATUS_LOCK = true :=
  ⟨{ withFields [(Fd.SAFE_STATUS_LOCK, 1)] with safe := { array := { marker := true } } }, by decide +kernel⟩

theorem witness_SafetyFunction_j :
    ∃ (s : State), s.pmu.clocksOff = false ∧ s.safe.proc = .idle :=
  ⟨State.reset, by decide +kernel⟩

theorem witness_SafetyFunction_k1 :
    ∃ (n : Nat) (a : Nat) (b : Bool) (c : Bool) (s : State), s.pmu.clocksOff = false ∧ s.safe.proc = .pulse a b ∧
      (c && b && s.inputsSafe && decide (200000 ≤ n) && decide (n ≤ 2000000)) = true :=
  ⟨200000, 5, true, true, { State.reset with safe := { proc := .pulse 5 true } }, by decide +kernel⟩

theorem witness_SafetyFunction_k2 :
    ∃ (n : Nat) (a : Nat) (b : Bool) (c : Bool) (s : State), s.pmu.clocksOff = false ∧ s.safe.proc = .pulse a b ∧
      (c && b && s.inputsSafe && decide (200000 ≤ n) && decide (n ≤ 2000000)) = true :=
  ⟨2000000, 5, true, true, { State.reset with safe := { proc := .pulse 5 true } }, by decide +kernel⟩

theorem witness_SafetyFunction_l :
    ∃ (n : Nat) (a : Nat) (b : Bool) (c : Bool) (s : State), s.pmu.clocksOff = false ∧ s.safe.proc = .pulse a b ∧
      (c && b && s.inputsSafe && decide (200000 ≤ n) && decide (n ≤ 2000000)) = false :=
  ⟨2000001, 5, true, true, { State.reset with safe := { proc := .pulse 5 true } }, by decide +kernel⟩

theorem witness_SafetyFunction_m :
    ∃ (s : State), s.pmu.clocksOff = false ∧ s.safe.proc = .clearing :=
  ⟨{ withFields [(Fd.SAFE_STATUS_LOCK, 1), (Fd.SAFE_STATUS_RSTRUN, 1)] with safe := { proc := .clearing } }, by decide +kernel⟩

theorem witness_SafetyFunction_n :
    ∃ (s : State), s.pmu.clocksOff = false ∧ s.safe.proc = .clearing ∧ s.on Fd.SAFE_STATUS_LOCK = true ∧
      s.on Fd.SAFE_FLAGS_RSTDONE = false :=
  ⟨{ withFields [(Fd.SAFE_STATUS_LOCK, 1), (Fd.SAFE_STATUS_RSTRUN, 1), (Fd.SAFE_LOCKREC_CAUSE, 4)] with safe := { proc := .clearing, array := { record := some 4 } } }, by decide +kernel⟩

theorem witness_SafetyFunction_o :
    ∃ (b : Bool) (s : State), s.pmu.clocksOff = true :=
  ⟨true, { State.reset with pmu := { clocksOff := true } }, by decide +kernel⟩

theorem witness_SafetyFunction_p :
    ∃ (s : State), s.pmu.clocksOff = false ∧ s.safe.tested = false :=
  ⟨withFields [(Fd.SAFE_STATUS_SELFTEST, 1)], by decide +kernel⟩

theorem witness_SafetyFunction_q :
    ∃ (s : State), s.pmu.clocksOff = false ∧ s.safe.tested = false ∧ s.safe.undo = none ∧ s.on Fd.SAFE_STATUS_LOCK = false :=
  ⟨withFields [(Fd.SAFE_STATUS_SELFTEST, 1)], by decide +kernel⟩

theorem witness_SafetyFunction_r :
    ∃ (b : Bool) (x : BitVec 8) (y : BitVec 8) (a : Nat) (s : State), s.pmu.clocksOff = false ∧ s.safe.cycle = some a ∧ (b = true →
      s.safe.tpB.mask ≠ a + 10 * tMs + 700 * tUs) :=
  ⟨true, 0x81#8, 0x18#8, 5, { State.reset with safe := { cycle := some 5 } }, by decide +kernel⟩

theorem witness_SafetyFunction_s1 :
    ∃ (b : Bool) (x : BitVec 8) (y : BitVec 8) (a : Nat) (s : State), s.pmu.clocksOff = false ∧
      (if b = true then s.safe.tpB else s.safe.tpA).low = some a ∧ (if b = true then s.safe.tpB else s.safe.tpA).toCheck = true ∧
      s.safe.undo = none ∧ s.on Fd.SAFE_STATUS_LOCK = false :=
  ⟨true, 0, 0xFF#8, 5, { withFields [(Fd.SAFE_IN_CFG_TPEN 7, 1)] with safe := { tpB := { low := some 5, toCheck := true, highA := 0xFF } } }, by decide +kernel⟩

theorem witness_SafetyFunction_s2 :
    ∃ (b : Bool) (x : BitVec 8) (y : BitVec 8) (a : Nat) (s : State), s.pmu.clocksOff = false ∧
      (if b = true then s.safe.tpB else s.safe.tpA).low = some a ∧ (if b = true then s.safe.tpB else s.safe.tpA).toCheck = true ∧
      s.safe.undo = none ∧ s.on Fd.SAFE_STATUS_LOCK = false :=
  ⟨false, 0, 0xFF#8, 5, { withFields [(Fd.SAFE_IN_CFG_TPEN 7, 1)] with safe := { tpA := { low := some 5, toCheck := true, highA := 0xFF } } }, by decide +kernel⟩

theorem witness_SafetyFunction_t :
    ∃ (b : Bool) (a : Nat) (s : State), s.pmu.clocksOff = false ∧ (if b = true then s.safe.tpB else s.safe.tpA).low = some a :=
  ⟨true, 5, { State.reset with safe := { tpB := { low := some 5 } } }, by decide +kernel⟩

theorem witness_WatchdogsHostAndDebug_a :
    ∃ (k : Fin 2) (s : State), s.on (Fd.SYSCFG_WDG_CFG_EN k) = false :=
  ⟨1, withFields [(Fd.SYSCFG_WDG_PERIOD_MS 1, 7)], by decide +kernel⟩

theorem witness_WatchdogsHostAndDebug_b :
    ∃ (k : Fin 2) (s : State), s.on (Fd.SYSCFG_WDG_CFG_EN k) = true ∧ s.wdg[k].first = none :=
  ⟨1, withFields [(Fd.SYSCFG_WDG_CFG_EN 1, 1)], by decide +kernel⟩

theorem witness_WatchdogsHostAndDebug_c :
    ∃ (k : Fin 2) (a : Nat) (s : State), s.on (Fd.SYSCFG_WDG_CFG_EN k) = true ∧ s.wdg[k].first = some a ∧ s.wdgNow k ≤ a + wdgMs k ∧
      s.wdg[k].kick = none :=
  ⟨0, 5, { withFields [(Fd.SYSCFG_WDG_CFG_EN 0, 1)] with now := 16000005, wdg := Vector.replicate 2 { first := some 5 } }, by decide +kernel⟩

theorem witness_WatchdogsHostAndDebug_d :
    ∃ (k : Fin 2) (v : Word) (s : State), s.on (Fd.SYSCFG_WDG_CFG_EN k) = true ∧ s.wdg[k].first = none ∧ v ≠ 0x5A5A ∧
      s.wdg[k].fired = false :=
  ⟨1, 0xA5A5, withFields [(Fd.SYSCFG_WDG_CFG_EN 1, 1), (Fd.SYSCFG_WDG_CFG_OWNER 1, 1)], by decide +kernel⟩

theorem witness_WatchdogsHostAndDebug_e :
    ∃ (k : Fin 2) (s : State), s.on (Fd.SYSCFG_WDG_CFG_EN k) = true ∧ s.wdg[k].fired = false ∧ s.wdg[k].paused = none :=
  ⟨1, { withFields [(Fd.SYSCFG_WDG_CFG_EN 1, 1)] with wdg := Vector.replicate 2 { due := 500 } }, by decide +kernel⟩

theorem witness_WatchdogsHostAndDebug_f :
    ∃ (k : Fin 2) (s : State), s.on (Fd.SYSCFG_WDG_CFG_EN k) = true ∧ s.wdg[k].fired = true ∧ s.wdg[k].paused = none ∧
      s.pmu.warned = false ∧ s.pmu.clocksOff = false :=
  ⟨1, { withFields [(Fd.SYSCFG_WDG_CFG_EN 1, 1)] with wdg := Vector.replicate 2 { due := 500, fired := true } }, by decide +kernel⟩

theorem witness_WatchdogsHostAndDebug_g :
    ∃ (a : Word) (s : State), s.on Fd.SYSCFG_HOSTCTL_EN = true ∧ s.host.kept = none ∧ region a.toNat = .sram ∧ a.toNat % 4 = 0 ∧
      s.eccBad a.toNat = false ∧ s.tagFree 12 = true :=
  ⟨0x20000000#32, { withFields [(Fd.SYSCFG_HOSTCTL_EN, 1)] with mem := [(0x20000001, 0x77#8)], host := { err := true, queue := [(0x20000000, 5#32, false)] } }, by decide +kernel⟩

theorem witness_WatchdogsHostAndDebug_h :
    ∃ (a : Word) (l : List Word) (i : Fin 32) (s : State), s.on Fd.SYSCFG_HOSTCTL_EN = true ∧ s.host.queue = [] ∧ l.length ≤ 32 ∧
      i.val < l.length :=
  ⟨0xFFFFFFFC#32, [1#32, 2#32, 3#32], 2, withFields [(Fd.SYSCFG_HOSTCTL_EN, 1)], by decide +kernel⟩

theorem witness_WatchdogsHostAndDebug_i :
    ∃ (a : Word) (l : List Word) (s : State), s.on Fd.SYSCFG_HOSTCTL_EN = true ∧ 32 < l.length :=
  ⟨0x20000000#32, List.replicate 33 7#32, withFields [(Fd.SYSCFG_HOSTCTL_EN, 1)], by decide +kernel⟩

theorem witness_WatchdogsHostAndDebug_j :
    ∃ (s : State), s.on Fd.SYSCFG_HOSTCTL_EN = true ∧ s.host.kept = none :=
  ⟨{ withFields [(Fd.SYSCFG_HOSTCTL_EN, 1)] with host := { err := true, ref := true, queue := [(0x20000000, 5#32, false)] } }, by decide +kernel⟩

theorem witness_WatchdogsHostAndDebug_k :
    ∃ (a : Nat) (n : Nat) (v : Word) (s : State), s.host.drop = [] ∧ s.host.kept = some ⟨a, n, [some v], false⟩ :=
  ⟨0x20000000, 1, 7#32, { State.reset with host := { kept := some ⟨0x20000000, 1, [some 7#32], false⟩ } }, by decide +kernel⟩

theorem witness_WatchdogsHostAndDebug_l1 :
    ∃ (c : Fin 6) (s : State), s.on Fd.SEC_STATUS_DBGOPEN = true ∧ s.cpu[c].halted = false ∧ s.cpu[c].wait = none :=
  ⟨5, withFields [(Fd.SEC_STATUS_DBGOPEN, 1)], by decide +kernel⟩

theorem witness_WatchdogsHostAndDebug_l2 :
    ∃ (c : Fin 6) (s : State), s.on Fd.SEC_STATUS_DBGOPEN = true ∧ s.cpu[c].halted = false ∧ s.cpu[c].wait = none :=
  ⟨0, { withFields [(Fd.SEC_STATUS_DBGOPEN, 1)] with cpu := rkRunning.cpu, rk := rkRunning.rk }, by decide +kernel⟩

theorem witness_WatchdogsHostAndDebug_m :
    ∃ (c : Fin 6) (s : State), s.on Fd.SEC_STATUS_DBGOPEN = true ∧ s.cpu[c].halted = true ∧ s.cpu[c].haltReq = false :=
  ⟨5, { withFields [(Fd.SEC_STATUS_DBGOPEN, 1)] with cpu := Vector.replicate 6 { halted := true } }, by decide +kernel⟩

theorem witness_WatchdogsHostAndDebug_n :
    ∃ (c : Fin 6) (s : State), s.on Fd.SEC_STATUS_DBGOPEN = true ∧ s.cpu[c].halted = true :=
  ⟨5, { withFields [(Fd.SEC_STATUS_DBGOPEN, 1)] with cpu := Vector.replicate 6 { halted := true } }, by decide +kernel⟩

theorem witness_WatchdogsHostAndDebug_o :
    ∃ (c : Fin 6) (n : Fin 16) (v : BitVec 72) (s : State), s.on Fd.SEC_STATUS_DBGOPEN = true ∧ s.cpu[c].halted = true ∧
      s.cpu[c].ended = none :=
  ⟨5, 15, 0xF123456789#72, { withFields [(Fd.SEC_STATUS_DBGOPEN, 1)] with cpu := Vector.replicate 6 { halted := true } }, by decide +kernel⟩

theorem witness_WatchdogsHostAndDebug_p :
    ∃ (c : Fin 6) (n : Fin 4) (s : State), s.on Fd.SEC_STATUS_DBGOPEN = true ∧ s.cpu[c].halted = true ∧ s.cpu[c].ended = none :=
  ⟨5, 3, { withFields [(Fd.SEC_STATUS_DBGOPEN, 1)] with cpu := Vector.replicate 6 { someCpu 0x20000000 with halted := true } }, by decide +kernel⟩

theorem witness_WatchdogsHostAndDebug_q :
    ∃ (x : Access) (v : BitVec 64) (s : State), s.on Fd.SEC_STATUS_DBGOPEN = true ∧ x.write = some v ∧ region x.addr.toNat = .sram ∧
      x.addr.toNat % 2 ^ x.size.val = 0 ∧ s.tagFree 13 = true :=
  ⟨⟨0x203FFFF8, 3, some 0x1122334455667788#64⟩, 0x1122334455667788#64, withFields [(Fd.SEC_STATUS_DBGOPEN, 1)], by decide +kernel⟩

theorem witness_WatchdogsHostAndDebug_r :
    ∃ (s : State), s.on Fd.SEC_STATUS_DBGOPEN = true ∧ s.pmu.warned = false ∧ s.pmu.clocksOff = false :=
  ⟨withFields [(Fd.SEC_STATUS_DBGOPEN, 1)], by decide +kernel⟩

theorem witness_WatchdogsHostAndDebug_s :
    ∃ (c : Fin 6) (x : Access) (s : State), s.on Fd.SEC_STATUS_DBGOPEN = false :=
  ⟨5, ⟨0x20000000, 2, none⟩, withFields [(Fd.SEC_STATUS_DBGOPEN, 0)], by decide +kernel⟩

theorem witness_WatchdogsHostAndDebug_u :
    ∃ (c : BitVec 5) (s : State), c ≠ 0 ∧ c ≠ 1 ∧ c ≠ 2 ∧ c ≠ 4 ∧ c ≠ 5 ∧ c ≠ 8 :=
  ⟨0x1F#5, State.reset, by decide +kernel⟩

theorem witness_DmaChannels_a :
    ∃ (c : Fin 32) (s : State), s.on (Fd.DMA_CH_CTRL_EN c) = true ∧ s.dmaState c = 0 :=
  ⟨31, withFields [(Fd.DMA_CH_CTRL_EN 31, 1)], by decide +kernel⟩

theorem witness_DmaChannels_b :
    ∃ (c : Fin 32) (s : State), (s.on (Fd.DMA_CH_CTRL_EN c) = false ∨ s.dmaState c ≠ 0) :=
  ⟨31, State.reset, by decide +kernel⟩

theorem witness_DmaChannels_c :
    ∃ (c : Fin 32) (s : State), s.dmaState c = 0 ∧ s.dma[c].trigAt ≠ some s.now :=
  ⟨31, State.reset, by decide +kernel⟩

theorem witness_DmaChannels_d :
    ∃ (c : Fin 32) (s : State), s.dmaState c = 1 :=
  ⟨31, withFields [(Fd.DMA_CH_STAT_STATE 31, 1)], by decide +kernel⟩

theorem witness_DmaChannels_e1 :
    ∃ (c : Fin 32) (s : State), (s.dmaState c = 2 ∨ s.dmaState c = 3) ∧ s.dma[c].trigAt ≠ some s.now :=
  ⟨31, withFields [(Fd.DMA_CH_STAT_STATE 31, 2)], by decide +kernel⟩

theorem witness_DmaChannels_e2 :
    ∃ (c : Fin 32) (s : State), (s.dmaState c = 2 ∨ s.dmaState c = 3) ∧ s.dma[c].trigAt ≠ some s.now :=
  ⟨31, withFields [(Fd.DMA_CH_STAT_STATE 31, 3)], by decide +kernel⟩

theorem witness_DmaChannels_f :
    ∃ (c : Fin 32) (v : Word) (s : State), s.dmaState c = 0 ∧ v.toNat % 32 = 0 ∧ 0x20000000 ≤ v.toNat ∧ v.toNat < 0x20400000 :=
  ⟨31, 0x203FFFE0#32, State.reset, by decide +kernel⟩

theorem witness_DmaChannels_g :
    ∃ (c : Fin 32) (v : Word) (s : State), (s.dmaState c ≠ 0 ∨ v.toNat % 32 ≠ 0 ∨ v.toNat < 0x20000000 ∨ 0x20400000 ≤ v.toNat) :=
  ⟨31, 0x20400000#32, State.reset, by decide +kernel⟩

theorem witness_DmaChannels_h :
    ∃ (c : Fin 32) (s : State), cut (s.dma[c].words[5]).toNat 0 2 ≠ 0 ∧ s.dma[c].stop = false ∧ s.dmaState c = 2 ∧
      s.get (Fd.DMA_CH_STAT_TPEND c) = 0 ∧ s.dma[c].trigAt ≠ some (s.reachNow (s.now + s.sysT)).now ∧
      s.dma[c].stopAt ≠ some (s.reachNow (s.now + s.sysT)).now :=
  ⟨31, { withFields [(Fd.DMA_CH_STAT_STATE 31, 2)] with dma := Vector.replicate 32 { words := ⟨#[0xC, 0x20000000, 0x20001000, 0x04000100, 0, 1, 0, 0], by decide⟩, pos := 0xF8 } }, by decide +kernel⟩

theorem witness_DmaChannels_i1 :
    ∃ (c : Fin 32) (s : State), cut (s.dma[c].words[5]).toNat 0 2 ≠ 0 ∧ s.dma[c].stop = false ∧ s.dmaState c ≠ 2 ∧
      s.dma[c].trigAt ≠ some (s.reachNow (s.now + s.sysT)).now ∧ s.dma[c].stopAt ≠ some (s.reachNow (s.now + s.sysT)).now :=
  ⟨31, { withFields [(Fd.DMA_CH_STAT_STATE 31, 3), (Fd.DMA_CH_STAT_TPEND 31, 1)] with dma := Vector.replicate 32 { words := Vector.replicate 8 1 } }, by decide +kernel⟩

theorem witness_DmaChannels_i2 :
    ∃ (c : Fin 32) (s : State), cut (s.dma[c].words[5]).toNat 0 2 ≠ 0 ∧ s.dma[c].stop = false ∧ s.dmaState c ≠ 2 ∧
      s.dma[c].trigAt ≠ some (s.reachNow (s.now + s.sysT)).now ∧ s.dma[c].stopAt ≠ some (s.reachNow (s.now + s.sysT)).now :=
  ⟨31, { withFields [(Fd.DMA_CH_STAT_STATE 31, 3)] with dma := Vector.replicate 32 { words := Vector.replicate 8 1 } }, by decide +kernel⟩

theorem witness_DmaChannels_j :
    ∃ (c : Fin 32) (l : Launch) (s : State), s.launchOf (62 + c.val) = some l ∧ cut (s.dma[c].words[5]).toNat 0 2 = 1 ∧
      s.dma[c].stop = false ∧ s.dmaState c = 2 ∧ s.pmu.clocksOff = false ∧ s.get (Fd.DMA_CH_STAT_TPEND c) = 0 ∧
      s.dma[c].trigAt ≠ some (s.reachNow (l.matched + 80 + 2 * s.sysT)).now ∧
      s.dma[c].stopAt ≠ some (s.reachNow (l.matched + 80 + 2 * s.sysT)).now :=
  ⟨31, ⟨93, 5, 5, 0⟩, { withFields [(Fd.DMA_CH_STAT_STATE 31, 2)] with dma := Vector.replicate 32 { words := Vector.replicate 8 1 }, tbl := { inflight := [⟨93, 5, 5, 0⟩] } }, by decide +kernel⟩

theorem witness_DmaChannels_k :
    ∃ (c : Fin 32) (l : Launch) (s : State), s.launchOf (62 + c.val) = some l ∧ cut (s.dma[c].words[5]).toNat 0 2 ≠ 1 ∧
      s.pmu.clocksOff = false :=
  ⟨31, ⟨93, 5, 5, 0⟩, { State.reset with tbl := { inflight := [⟨93, 5, 5, 0⟩] } }, by decide +kernel⟩

theorem witness_DmaChannels_l :
    ∃ (c : Fin 32) (s : State), s.dmaState c = 1 ∧ s.dmaPaused = false ∧ s.tagFree 6 = true ∧
      (s.memRd (s.rdN (Reg.DMA_CH_DESC c)) 4).testBit 31 = false :=
  ⟨31, withFields [(Fd.DMA_CH_STAT_STATE 31, 1), (⟨Reg.DMA_CH_DESC 31, 0, 32⟩, 0x20000000)], by decide +kernel⟩

theorem witness_DmaChannels_m1 :
    ∃ (c : Fin 32) (i : Fin 8) (s : State), s.dmaState c = 1 ∧ s.dmaPaused = false ∧ s.tagFree 6 = true ∧
      (s.memRd (s.rdN (Reg.DMA_CH_DESC c)) 4).testBit 31 = true ∧ s.mon.ecc = [] :=
  ⟨31, 7, { withFields [(Fd.DMA_CH_STAT_STATE 31, 1), (⟨Reg.DMA_CH_DESC 31, 0, 32⟩, 0x20000000)] with mem := [(0x20000000, 0xC#8), (0x20000003, 0x80#8), (0x20000007, 0x20#8), (0x20000009, 0x10#8), (0x2000000B, 0x20#8), (0x2000000C, 0x10#8), (0x20000014, 1#8), (0x2000001F, 9#8)] }, by decide +kernel⟩

theorem witness_DmaChannels_m2 :
    ∃ (c : Fin 32) (i : Fin 8) (s : State), s.dmaState c = 1 ∧ s.dmaPaused = false ∧ s.tagFree 6 = true ∧
      (s.memRd (s.rdN (Reg.DMA_CH_DESC c)) 4).testBit 31 = true ∧ s.mon.ecc = [] :=
  ⟨31, 3, { withFields [(Fd.DMA_CH_STAT_STATE 31, 1), (⟨Reg.DMA_CH_DESC 31, 0, 32⟩, 0x20000000)] with mem := [(0x20000000, 0xC#8), (0x20000003, 0x80#8), (0x20000007, 0x20#8), (0x20000009, 0x10#8), (0x2000000B, 0x20#8), (0x2000000C, 0x10#8)] }, by decide +kernel⟩

theorem witness_DmaChannels_m3 :
    ∃ (c : Fin 32) (i : Fin 8) (s : State), s.dmaState c = 1 ∧ s.dmaPaused = false ∧ s.tagFree 6 = true ∧
      (s.memRd (s.rdN (Reg.DMA_CH_DESC c)) 4).testBit 31 = true ∧ s.mon.ecc = [] :=
  ⟨31, 3, { withFields [(Fd.DMA_CH_STAT_STATE 31, 1), (⟨Reg.DMA_CH_DESC 31, 0, 32⟩, 0x20000000)] with mem := [(0x20000000, 0xC#8), (0x20000003, 0x80#8), (0x20000007, 0x20#8), (0x20000009, 0x10#8), (0x2000000B, 0x20#8)] }, by decide +kernel⟩

theorem witness_DmaChannels_n1 :
    ∃ (c : Fin 32) (i : Nat) (s : State), s.dmaState c = 3 ∧ s.dmaPaused = false ∧ s.tagFree 6 = true ∧ s.dmaReading c = false ∧
      s.dma[c].stop = false ∧ s.dma[c].status = 0 ∧ s.dma[c].op = 0 ∧ s.dma[c].bit0 2 = true ∧ s.dma[c].bit0 3 = true ∧ s.mon.ecc = [] ∧
      s.get (Fd.DMA_CH_STAT_TPEND c) = 0 ∧ 0x20000000 ≤ s.dma[c].word 1 ∧ s.dma[c].word 1 + s.dma[c].pos + s.dma[c].block ≤ 0x20400000 ∧
      0x20000000 ≤ s.dma[c].word 2 ∧ s.dma[c].word 2 + s.dma[c].pos + s.dma[c].block ≤ 0x20400000 ∧
      (s.dma[c].word 1 + s.dma[c].pos + s.dma[c].block ≤ s.dma[c].word 2 + s.dma[c].pos ∨
      s.dma[c].word 2 + s.dma[c].pos + s.dma[c].block ≤ s.dma[c].word 1 + s.dma[c].pos) ∧ (s.dma[c].wordBeats = true →
      (s.dma[c].word 1 + s.dma[c].pos) % 4 = 0 ∧ (s.dma[c].word 2 + s.dma[c].pos) % 4 = 0 ∧ s.dma[c].block % 4 = 0) ∧ i < s.dma[c].block :=
  ⟨31, 36, { withFields [(Fd.DMA_CH_STAT_STATE 31, 3)] with dma := Vector.replicate 32 { words := ⟨#[0xC, 0x20000001, 0x20001005, 0x50, 0, 1, 0, 0], by decide⟩, pos := 7, block := 37 }, mem := [(0x20000008, 0x7#8), (0x20000011, 0x77#8), (0x2000002C, 0x78#8), (0x20001020, 0x99#8)] }, by decide +kernel⟩

theorem witness_DmaChannels_n2 :
    ∃ (c : Fin 32) (i : Nat) (s : State), s.dmaState c = 3 ∧ s.dmaPaused = false ∧ s.tagFree 6 = true ∧ s.dmaReading c = false ∧
      s.dma[c].stop = false ∧ s.dma[c].status = 0 ∧ s.dma[c].op = 0 ∧ s.dma[c].bit0 2 = true ∧ s.dma[c].bit0 3 = true ∧ s.mon.ecc = [] ∧
      s.get (Fd.DMA_CH_STAT_TPEND c) = 0 ∧ 0x20000000 ≤ s.dma[c].word 1 ∧ s.dma[c].word 1 + s.dma[c].pos + s.dma[c].block ≤ 0x20400000 ∧
      0x20000000 ≤ s.dma[c].word 2 ∧ s.dma[c].word 2 + s.dma[c].pos + s.dma[c].block ≤ 0x20400000 ∧
      (s.dma[c].word 1 + s.dma[c].pos + s.dma[c].block ≤ s.dma[c].word 2 + s.dma[c].pos ∨
      s.dma[c].word 2 + s.dma[c].pos + s.dma[c].block ≤ s.dma[c].word 1 + s.dma[c].pos) ∧ (s.dma[c].wordBeats = true →
      (s.dma[c].word 1 + s.dma[c].pos) % 4 = 0 ∧ (s.dma[c].word 2 + s.dma[c].pos) % 4 = 0 ∧ s.dma[c].block % 4 = 0) ∧ i < s.dma[c].block :=
  ⟨31, 3, { withFields [(Fd.DMA_CH_STAT_STATE 31, 3)] with dma := Vector.replicate 32 { words := ⟨#[0x4C, 0x20000004, 0x20001008, 0x50, 0, 1, 0, 0], by decide⟩, pos := 0x3C, block := 20 }, mem := [(0x20000040, 0x7#8), (0x20000043, 0x77#8)] }, by decide +kernel⟩

theorem witness_DmaChannels_o :
    ∃ (c : Fin 32) (v : BitVec 24) (s : State), s.dmaState c = 4 ∧ s.dmaPaused = false ∧ s.tagFree 6 = true ∧
      (∀ l : Fin 4, (s.port l).ops = []) ∧ descAddrOk s.dma[c].addr = true ∧ s.dma[c].bit0 5 = false :=
  ⟨31, 5, { withFields [(Fd.DMA_CH_STAT_STATE 31, 4)] with dma := Vector.replicate 32 { addr := 0x20000020, words := ⟨#[0xD000001C, 0x20000004, 0x20001008, 0x50, 0, 1, 0, 0], by decide⟩, pos := 0x1000057, status := 6, stamp := 0x1234567890 } }, by decide +kernel⟩

theorem witness_LinkControl_a1 :
    ∃ (l : Fin 4) (v : Word) (s : State), (cut v.toNat 4 2 = 3 ∨ 3 < cut v.toNat 8 3) :=
  ⟨3, 0x31#32, State.reset, by decide +kernel⟩

theorem witness_LinkControl_a2 :
    ∃ (l : Fin 4) (v : Word) (s : State), (cut v.toNat 4 2 = 3 ∨ 3 < cut v.toNat 8 3) :=
  ⟨3, 0x401#32, State.reset, by decide +kernel⟩

theorem witness_LinkControl_b :
    ∃ (l : Fin 4) (v : Word) (s : State), cut v.toNat 4 2 ≠ 3 ∧ cut v.toNat 8 3 ≤ 3 ∧ v.getLsbD 0 = true ∧ s.linkState l = 0 ∧
      s.pmu.warned = false :=
  ⟨3, 0x325#32, State.reset, by decide +kernel⟩

theorem witness_LinkControl_c :
    ∃ (l : Fin 4) (v : Word) (s : State), cut v.toNat 4 2 = s.get (Fd.LINK_L_CTRL_RATE l) ∧
      cut v.toNat 8 3 = s.get (Fd.LINK_L_CTRL_LOOP l) ∧ s.get (Fd.LINK_L_CTRL_RATE l) ≠ 3 ∧ s.get (Fd.LINK_L_CTRL_LOOP l) ≤ 3 ∧
      v.getLsbD 0 = false ∧ s.linkState l = 2 :=
  ⟨3, 0x110#32, withFields [(Fd.LINK_L_CTRL_EN 3, 1), (Fd.LINK_L_CTRL_RATE 3, 1), (Fd.LINK_L_CTRL_LOOP 3, 1), (Fd.LINK_L_STATUS_STATE 3, 2)], by decide +kernel⟩

theorem witness_LinkControl_d :
    ∃ (l : Fin 4) (s : State), s.on (Fd.LINK_L_CTRL_EN l) = true ∧ s.pmu.warned = false :=
  ⟨3, withFields [(Fd.LINK_L_CTRL_EN 3, 1), (Fd.LINK_L_STATUS_STATE 3, 2)], by decide +kernel⟩

theorem witness_LinkControl_e :
    ∃ (l : Fin 4) (a : LaneScan) (b : LaneScan) (s : State), s.linkState l = 1 ∧ s.on Fd.PLL_STATUS_SYNCLOCK = true ∧
      16 ≤ (s.port l).marks ∧ (s.port l).loop ≠ 2 ∧ s.eyeNarrow l a b = false :=
  ⟨3, eyesOpen, eyesOpen, { withFields [(Fd.PLL_STATUS_SYNCLOCK, 1), (Fd.LINK_L_STATUS_STATE 3, 1)] with link := { ports := Vector.replicate 4 { marks := 16, markMax := 700 } } }, by decide +kernel⟩

theorem witness_LinkControl_f :
    ∃ (l : Fin 4) (a : LaneScan) (b : LaneScan) (s : State), s.linkState l = 1 ∧ s.on Fd.PLL_STATUS_SYNCLOCK = true ∧
      16 ≤ (s.port l).marks ∧ (s.port l).loop ≠ 2 ∧ s.eyeNarrow l a b = true :=
  ⟨3, eyesOpen, ⟨Vector.replicate 16 0x7FFF7FFF7FFF7FFF⟩, { withFields [(Fd.PLL_STATUS_SYNCLOCK, 1), (Fd.LINK_L_STATUS_STATE 3, 1)] with link := { ports := Vector.replicate 4 { marks := 16, markMax := 700 } } }, by decide +kernel⟩

theorem witness_LinkControl_g :
    ∃ (l : Fin 4) (s : State), s.linkState l = 1 ∧ (s.port l).loop ≠ 2 ∧ (s.port l).ready = false :=
  ⟨3, { withFields [(Fd.LINK_L_CTRL_AUTO 3, 1), (Fd.LINK_L_STATUS_STATE 3, 1)] with link := { ports := Vector.replicate 4 { trainAt := 77 } } }, by decide +kernel⟩

theorem witness_LinkControl_h :
    ∃ (l : Fin 4) (a : LaneScan) (b : LaneScan) (s : State), s.linkState l = 1 ∧ (s.port l).loop ≠ 2 ∧ s.eyeNarrow l a b = true :=
  ⟨3, eyesOpen, ⟨Vector.replicate 16 0x7FFF7FFF7FFF7FFF⟩, withFields [(Fd.LINK_L_STATUS_STATE 3, 1)], by decide +kernel⟩

theorem witness_LinkControl_i :
    ∃ (l : Fin 4) (a : LaneScan) (b : LaneScan) (s : State), s.linkState l = 1 ∧ (s.port l).loop ≠ 2 ∧ s.eyeNarrow l a b = false ∧
      (s.port l).ready = false :=
  ⟨3, eyesOpen, eyesOpen, withFields [(Fd.LINK_L_STATUS_STATE 3, 1)], by decide +kernel⟩

theorem witness_LinkControl_j :
    ∃ (l : Fin 4) (x : Nat) (s : State), (s.port l).retrain = some x ∧ s.on (Fd.LINK_L_CTRL_EN l) = true ∧
      s.on (Fd.LINK_L_CTRL_AUTO l) = true ∧ s.pmu.warned = false :=
  ⟨3, 77, { withFields [(Fd.LINK_L_CTRL_AUTO 3, 1), (Fd.LINK_L_CTRL_EN 3, 1)] with link := { ports := Vector.replicate 4 { retrain := some 77 } } }, by decide +kernel⟩

theorem witness_LinkControl_k :
    ∃ (l : Fin 4) (x : Nat) (s : State), (s.port l).nakAt = some x :=
  ⟨3, 77, { State.reset with link := { ports := Vector.replicate 4 { nakAt := some 77 } } }, by decide +kernel⟩

theorem witness_LinkControl_l :
    ∃ (l : Fin 4) (s : State), s.linkState l = 2 ∧ (s.port l).replay ≠ [] ∧ (s.port l).rounds < 7 :=
  ⟨3, { withFields [(Fd.LINK_L_STATUS_STATE 3, 2)] with link := { ports := Vector.replicate 4 { replay := [(5, { typ := 3, sub := 0, len := 224, body := 7 }), (6, { typ := 1, sub := 9, len := 72, body := 8 })], rounds := 6 } } }, by decide +kernel⟩

theorem witness_LinkControl_m :
    ∃ (l : Fin 4) (s : State), s.linkState l = 2 ∧ (s.port l).replay ≠ [] ∧ (s.port l).rounds = 7 :=
  ⟨3, { withFields [(Fd.LINK_L_STATUS_STATE 3, 2)] with link := { ports := Vector.replicate 4 { replay := [(5, { typ := 3, sub := 0, len := 224, body := 7 })], rounds := 7 } } }, by decide +kernel⟩

theorem witness_LinkControl_n :
    ∃ (l : Fin 4) (o : RemoteOp) (r : List RemoteOp) (s : State), s.linkState l = 2 ∧ (s.port l).loop ≠ 3 ∧
      0 < s.get (Fd.LINK_L_STATUS_CRED l) ∧ (s.port l).ops = o :: r ∧ s.stalledOps = 0 ∧ o.stage = .queued ∧ (s.port l).evOut = [] ∧
      (s.port l).respOut = [] ∧ (s.port l).strOut = [] ∧ (s.port l).replay.length < 48 ∧ (∀ x ∈ r, x.data = none →
      ∀ n : Fin 64, x.stage ≠ .sent n) :=
  ⟨3, ⟨.core 0, 0x20000000, 4, some 7, .queued, 0⟩, [⟨.core 1, 0x20000000, 4, none, .queued, 0⟩], { withFields [(Fd.LINK_L_STATUS_STATE 3, 2), (Fd.LINK_L_STATUS_CRED 3, 16)] with link := { ports := Vector.replicate 4 { ops := [⟨.core 0, 0x20000000, 4, some 7, .queued, 0⟩, ⟨.core 1, 0x20000000, 4, none, .queued, 0⟩], seq := 255, ackDue := true } } }, by decide +kernel⟩

theorem witness_LinkControl_o :
    ∃ (l : Fin 4) (x : Launch) (s : State), s.launchOf (96 + l.val) = some x ∧ s.launchRuns (96 + l.val) = true ∧ s.upstream l = false ∧
      s.linkState l = 2 :=
  ⟨3, ⟨99, 7, 7, 77⟩, { withFields [(Fd.PLL_STATUS_SYNCLOCK, 1), (Fd.LINK_L_STATUS_STATE 3, 2)] with tbl := { count := 77, inflight := [⟨99, 7, 7, 77⟩] }, link := { ports := Vector.replicate 4 { upper := some 5 } } }, by decide +kernel⟩

theorem witness_LinkControl_p :
    ∃ (l : Fin 4) (c : Fin 8) (g : Fin 7) (x : Vector (List MdatPeriod) 8) (s : State), s.on (Fd.LINK_STX_CFG_EN l c) = true ∧
      s.on (Fd.LINK_STX_CFG_KIND l c) = true ∧ s.get (Fd.LINK_STX_CFG_SRC l c) = g.val ∧ s.mclkOn g = true ∧ s.linkState l = 2 ∧
      (s.port l).loop ≠ 3 ∧ (s.port l).evOut.length + (s.port l).respOut.length + (s.port l).strOut.length + (s.port l).replay.length < 48 :=
  ⟨3, 7, 6, (Vector.replicate 8 (mdat [true, false, true, true])), withFields [(Fd.PLL_STATUS_SYNCLOCK, 1), (Fd.LINK_L_STATUS_STATE 3, 2), (Fd.LINK_STX_CFG_EN 3 7, 1), (Fd.LINK_STX_CFG_KIND 3 7, 1), (Fd.LINK_STX_CFG_SRC 3 7, 6), (Fd.PLL_MCLKDIV_ACTEN 6, 1)], by decide +kernel⟩

theorem witness_LinkControl_q :
    ∃ (l : Fin 4) (s : State), s.linkState l = 2 :=
  ⟨3, withFields [(Fd.LINK_L_STATUS_STATE 3, 2), (Fd.LINK_L_STATUS_CLKOK 3, 1)], by decide +kernel⟩

theorem witness_LinkControl_r :
    ∃ (l : Fin 4) (x : LaneBits) (s : State), s.linkState l = 2 ∧ (s.port l).loop ≠ 3 ∧ (s.port l).stuffBad x = true :=
  ⟨3, ⟨List.replicate 31 true, []⟩, withFields [(Fd.LINK_L_STATUS_STATE 3, 2)], by decide +kernel⟩

theorem witness_LinkControl_s :
    ∃ (l : Fin 4) (b : BitVec 2) (i : Fin 2) (s : State), s.on (Fd.LINK_L_PRBS_GEN l) = true ∧ s.on (Fd.LINK_L_PRBS_CHK l) = true ∧
      (s.port l).loop = 1 ∧ b.getLsbD i.val = true :=
  ⟨3, 3, 1, { withFields [(Fd.LINK_L_PRBS_GEN 3, 1), (Fd.LINK_L_PRBS_CHK 3, 1)] with link := { ports := Vector.replicate 4 { loop := 1 } } }, by decide +kernel⟩

theorem witness_LinkControl_t :
    ∃ (l : Fin 4) (v : Word) (s : State), v.getLsbD 2 = true ∧ (s.linkState l = 1 ∨ s.linkState l = 2) :=
  ⟨3, 4, withFields [(Fd.LINK_L_STATUS_STATE 3, 2)], by decide +kernel⟩

theorem witness_LinkControl_u :
    ∃ (l : Fin 4) (v : Word) (s : State), v.getLsbD 2 = true ∧ (s.linkState l = 0 ∨ s.linkState l = 3) :=
  ⟨3, 0x3F#32, State.reset, by decide +kernel⟩

theorem witness_LinkCells_a :
    ∃ (l : Fin 4) (z : LaneBits) (c : BitVec 256) (s : State), s.linkState l = 2 ∧ (s.port l).loop ≠ 3 ∧ (s.port l).lineCell z = some c ∧
      (s.port l).classError c = true ∧ (s.port l).bad < 3 :=
  ⟨3, (lanesOf 5), 5, { withFields [(Fd.LINK_L_STATUS_STATE 3, 2)] with link := { ports := Vector.replicate 4 { bad := 2, expect := 9 } } }, by decide +kernel⟩

theorem witness_LinkCells_b :
    ∃ (l : Fin 4) (z : LaneBits) (c : BitVec 256) (s : State), s.linkState l = 2 ∧ (s.port l).loop ≠ 3 ∧ (s.port l).lineCell z = some c ∧
      (s.port l).classError c = true ∧ (s.port l).bad = 3 :=
  ⟨3, (lanesOf 5), 5, { withFields [(Fd.LINK_L_STATUS_STATE 3, 2)] with link := { ports := Vector.replicate 4 { bad := 3, expect := 9 } } }, by decide +kernel⟩

theorem witness_LinkCells_c :
    ∃ (l : Fin 4) (z : LaneBits) (c : BitVec 256) (s : State), s.linkState l = 2 ∧ (s.port l).loop ≠ 3 ∧ (s.port l).lineCell z = some c ∧
      (s.port l).classError c = false ∧ cellType c = 3 ∧ cellSeq c ≠ (s.port l).expect :=
  ⟨3, (lanesOf 0x3fe00000e00020000000040000000000000000000000000000000000004dd463#256), 0x3fe00000e00020000000040000000000000000000000000000000000004dd463#256, { withFields [(Fd.LINK_L_STATUS_STATE 3, 2)] with link := { ports := Vector.replicate 4 { expect := 46 } } }, by decide +kernel⟩

theorem witness_LinkCells_d :
    ∃ (l : Fin 4) (z : LaneBits) (c : BitVec 256) (s : State), s.linkState l = 2 ∧ (s.port l).loop ≠ 3 ∧ (s.port l).lineCell z = some c ∧
      (s.port l).classError c = false ∧ cellType c = 0 ∧ cellCtl c 22 2 = 0 :=
  ⟨3, (lanesOf 0x3c2000000000000000000000000000000000000000000000000000d09a#256), 0x3c2000000000000000000000000000000000000000000000000000d09a#256, { withFields [(Fd.LINK_L_STATUS_STATE 3, 2), (Fd.LINK_L_STATUS_CRED 3, 3)] with link := { ports := Vector.replicate 4 { bad := 2, expect := 9 } } }, by decide +kernel⟩

theorem witness_LinkCells_e :
    ∃ (l : Fin 4) (z : LaneBits) (c : BitVec 256) (s : State), s.linkState l = 2 ∧ (s.port l).loop ≠ 3 ∧ (s.port l).lineCell z = some c ∧
      (s.port l).classError c = false ∧ cellType c = 0 ∧ cellCtl c 22 2 = 1 ∧ (s.port l).replay ≠ [] ∧ (s.port l).rounds < 7 :=
  ⟨3, (lanesOf 0x402000000000000000000000000000000000000000000000000000edd4#256), 0x402000000000000000000000000000000000000000000000000000edd4#256, { withFields [(Fd.LINK_L_STATUS_STATE 3, 2)] with link := { ports := Vector.replicate 4 { replay := [(5, { typ := 3, sub := 0, len := 224, body := 7 })], rounds := 6 } } }, by decide +kernel⟩

theorem witness_LinkCells_f :
    ∃ (l : Fin 4) (z : LaneBits) (c : BitVec 256) (i : Fin 8) (s : State), s.linkState l = 2 ∧ (s.port l).loop ≠ 3 ∧
      (s.port l).lineCell z = some c ∧ (s.port l).classError c = false ∧ cellType c = 3 ∧ cellSeq c = (s.port l).expect ∧
      region (cellBody c 160 32) = .sram ∧ (cellBody c 152 8 = 1 ∨ cellBody c 152 8 = 2 ∨ cellBody c 152 8 = 4 ∨ cellBody c 152 8 = 8) ∧
      cellBody c 160 32 % cellBody c 152 8 = 0 ∧ i.val < cellBody c 152 8 ∧ (s.port l).reqIn = [] ∧ s.tagFree (7 + l.val) = true :=
  ⟨3, (lanesOf 0x3ff00000e000203ffff8080000000000000000000000112233445566778840fe#256), 0x3ff00000e000203ffff8080000000000000000000000112233445566778840fe#256, 7, { withFields [(Fd.LINK_L_STATUS_STATE 3, 2)] with link := { ports := Vector.replicate 4 { expect := 255 } } }, by decide +kernel⟩

theorem witness_LinkCells_g :
    ∃ (l : Fin 4) (z : LaneBits) (c : BitVec 256) (s : State), s.linkState l = 2 ∧ (s.port l).loop ≠ 3 ∧ (s.port l).lineCell z = some c ∧
      (s.port l).classError c = false ∧ cellType c = 1 ∧ cellSeq c = (s.port l).expect ∧ cellCtl c 22 2 = 0 ∧
      region (cellBody c 160 32) = .sram ∧ (cellBody c 152 8 = 1 ∨ cellBody c 152 8 = 2 ∨ cellBody c 152 8 = 4 ∨ cellBody c 152 8 = 8) ∧
      cellBody c 160 32 % cellBody c 152 8 = 0 ∧ s.eccBad (cellBody c 160 32) = false ∧
      (s.port l).evOut.length + (s.port l).respOut.length + (s.port l).strOut.length + (s.port l).replay.length < 48 ∧
      (s.port l).reqIn = [] ∧ s.tagFree (7 + l.val) = true :=
  ⟨3, (lanesOf 0x1ff00000483f200000040400000000000000000000000000000000000000f8d6#256), 0x1ff00000483f200000040400000000000000000000000000000000000000f8d6#256, { withFields [(Fd.LINK_L_STATUS_STATE 3, 2)] with mem := [(0x20000005, 0x77#8)], link := { ports := Vector.replicate 4 { expect := 255, evOut := [(1, 7)] } } }, by decide +kernel⟩

theorem witness_LinkCells_h1 :
    ∃ (l : Fin 4) (z : LaneBits) (c : BitVec 256) (o : RemoteOp) (r : List RemoteOp) (s : State), s.linkState l = 2 ∧ (s.port l).loop ≠ 3 ∧
      (s.port l).lineCell z = some c ∧ (s.port l).classError c = false ∧ cellType c = 2 ∧ cellSeq c = (s.port l).expect ∧
      cellCtl c 22 2 = 0 ∧ (s.port l).ops = o :: r ∧ o.stage = .sent (cellSub c) ∧ o.data = none :=
  ⟨3, (lanesOf 0x2ff00000e0090000000000000000000000000000000000000011223344551ec9#256), 0x2ff00000e0090000000000000000000000000000000000000011223344551ec9#256, ⟨.host, 0x20000000, 4, none, .sent 9, 0⟩, [⟨.debug, 0x20000000, 4, none, .queued, 0⟩], { withFields [(Fd.LINK_L_STATUS_STATE 3, 2)] with link := { ports := Vector.replicate 4 { expect := 255, ops := [⟨.host, 0x20000000, 4, none, .sent 9, 0⟩, ⟨.debug, 0x20000000, 4, none, .queued, 0⟩] } } }, by decide +kernel⟩

theorem witness_LinkCells_h2 :
    ∃ (l : Fin 4) (z : LaneBits) (c : BitVec 256) (o : RemoteOp) (r : List RemoteOp) (s : State), s.linkState l = 2 ∧ (s.port l).loop ≠ 3 ∧
      (s.port l).lineCell z = some c ∧ (s.port l).classError c = false ∧ cellType c = 2 ∧ cellSeq c = (s.port l).expect ∧
      cellCtl c 22 2 = 0 ∧ (s.port l).ops = o :: r ∧ o.stage = .sent (cellSub c) ∧ o.data = none :=
  ⟨3, (lanesOf 0x2ff00000e0090100000000000000000000000000000000000000000000055aef#256), 0x2ff00000e0090100000000000000000000000000000000000000000000055aef#256, ⟨.host, 0x20000000, 4, none, .sent 9, 0⟩, [], { withFields [(Fd.LINK_L_STATUS_STATE 3, 2)] with link := { ports := Vector.replicate 4 { expect := 255, ops := [⟨.host, 0x20000000, 4, none, .sent 9, 0⟩] } } }, by decide +kernel⟩

theorem witness_LinkCells_i :
    ∃ (l : Fin 4) (z : LaneBits) (c : BitVec 256) (o : RemoteOp) (r : List RemoteOp) (n : Nat) (s : State), s.linkState l = 2 ∧
      (s.port l).loop ≠ 3 ∧ (s.port l).lineCell z = some c ∧ (s.port l).classError c = false ∧ cellType c = 4 ∧
      cellSeq c = (s.port l).expect ∧ cellCtl c 22 2 = 0 ∧ (s.port l).ops = o :: r ∧ o.stage = .sent n ∧ o.data.isSome = true ∧
      cellSub c = 1 :=
  ⟨3, (lanesOf 0x4ff0000060010100000000000000000000000000000000000000000000005958#256), 0x4ff0000060010100000000000000000000000000000000000000000000005958#256, ⟨.host, 0x20000000, 4, some 5, .sent 9, 0⟩, [⟨.core 1, 0x20000000, 4, some 7, .sent 9, 0⟩], 9, { withFields [(Fd.LINK_L_STATUS_STATE 3, 2)] with link := { ports := Vector.replicate 4 { expect := 255, ops := [⟨.host, 0x20000000, 4, some 5, .sent 9, 0⟩, ⟨.core 1, 0x20000000, 4, some 7, .sent 9, 0⟩] } } }, by decide +kernel⟩

theorem witness_LinkCells_j :
    ∃ (l : Fin 4) (z : LaneBits) (c : BitVec 256) (s : State), s.linkState l = 2 ∧ (s.port l).loop ≠ 3 ∧ (s.port l).lineCell z = some c ∧
      (s.port l).classError c = false ∧ cellType c = 5 ∧ cellSeq c = (s.port l).expect ∧ cellCtl c 22 2 = 0 ∧ s.tbl.count < 2 ^ 31 ∧
      cellBody c 160 32 < 2 ^ 31 :=
  ⟨3, (lanesOf 0x5ff00000400700001000000000000000000000000000000000000000000001c0#256), 0x5ff00000400700001000000000000000000000000000000000000000000001c0#256, { withFields [(Fd.LINK_L_STATUS_STATE 3, 2), (Fd.TBL_LFWDDLY_DLY 3, 0x10)] with tbl := { count := 0x1011 }, link := { ports := Vector.replicate 4 { expect := 255 } } }, by decide +kernel⟩

theorem witness_LinkCells_k :
    ∃ (l : Fin 4) (z : LaneBits) (c : BitVec 256) (k : Fin 8) (s : State), s.linkState l = 2 ∧ (s.port l).loop ≠ 3 ∧
      (s.port l).lineCell z = some c ∧ (s.port l).classError c = false ∧ cellType c = 6 ∧ cellSeq c = (s.port l).expect ∧
      cellCtl c 22 2 = 0 ∧ cellSub c % 16 = k.val ∧ s.on (Fd.LINK_SRX_CFG_EN l k) = true ∧ (s.port l).strIn = [] ∧
      s.tagFree (7 + l.val) = true :=
  ⟨3, (lanesOf 0x6ff00000e007cafebabe00000000800000000000000000000000000000003d4d#256), 0x6ff00000e007cafebabe00000000800000000000000000000000000000003d4d#256, 7, { withFields [(Fd.LINK_L_STATUS_STATE 3, 2), (Fd.LINK_SRX_CFG_EN 3 7, 1), (Fd.LINK_SRX_CFG_RK 3 7, 3), (Fd.LINK_SRX_BASE_ADDR 3 7, 0x1FF9)] with link := { ports := Vector.replicate 4 { expect := 255 } } }, by decide +kernel⟩

theorem witness_LinkCells_l :
    ∃ (l : Fin 4) (z : LaneBits) (c : BitVec 256) (k : Fin 8) (s : State), s.linkState l = 2 ∧ (s.port l).loop ≠ 3 ∧
      (s.port l).lineCell z = some c ∧ (s.port l).classError c = false ∧ cellType c = 6 ∧ cellSeq c = (s.port l).expect ∧
      cellCtl c 22 2 = 0 ∧ cellSub c % 8 = k.val ∧ s.on (Fd.LINK_SRX_CFG_EN l k) = true ∧ 16 ≤ (s.port l).strIn.length ∧
      s.tagFree (7 + l.val) = false :=
  ⟨3, (lanesOf 0x6ff00000e00f00000000000000000000000000000000000000000000000587f7#256), 0x6ff00000e00f00000000000000000000000000000000000000000000000587f7#256, 7, { withFields [(Fd.LINK_L_STATUS_STATE 3, 2), (Fd.LINK_SRX_CFG_EN 3 7, 1)] with xbar := { tags := Vector.replicate 64 (some ⟨.link 3 0, ⟨0, 2, none⟩, none⟩) }, link := { ports := Vector.replicate 4 { expect := 255, strIn := List.replicate 16 (0, 0) } } }, by decide +kernel⟩

theorem witness_LinkCells_m :
    ∃ (l : Fin 4) (z : LaneBits) (c : BitVec 256) (s : State), s.linkState l = 2 ∧ (s.port l).loop ≠ 3 ∧ (s.port l).lineCell z = some c ∧
      (s.port l).classError c = false ∧ cellType c = 7 ∧ cellSub c % 4 = 0 ∧ cellCtl c 22 2 = 0 ∧ s.upstream l = true :=
  ⟨3, (lanesOf 0x7000000020000000000000000000000000000000000000000000000000002142#256), 0x7000000020000000000000000000000000000000000000000000000000002142#256, { withFields [(Fd.LINK_L_STATUS_STATE 3, 2), (Fd.TBL_CTRL_ROLE, 2), (Fd.TBL_CTRL_LINKSEL, 3)] with tbl := { count := 0x123456789ABCDEF }, link := { ports := Vector.replicate 4 { lower := some (1, 2) } } }, by decide +kernel⟩

theorem witness_LinkCells_n :
    ∃ (l : Fin 4) (z : LaneBits) (c : BitVec 256) (x : Nat) (s : State), s.linkState l = 2 ∧ (s.port l).loop ≠ 3 ∧
      (s.port l).lineCell z = some c ∧ (s.port l).classError c = false ∧ cellType c = 7 ∧ cellSub c % 4 = 1 ∧ cellCtl c 22 2 = 0 ∧
      (s.port l).upper = some x ∧ x < 2 ^ 64 :=
  ⟨3, (lanesOf 0x70000000a0010000000000000000000000000000000000000000000000006e45#256), 0x70000000a0010000000000000000000000000000000000000000000000006e45#256, 0xFFFFFFFFFFFFFFFF, { withFields [(Fd.LINK_L_STATUS_STATE 3, 2), (Fd.TBL_ADDFRAC_FRAC, 77)] with tbl := { count := 0x123456789ABCDEF }, link := { ports := Vector.replicate 4 { upper := some 0xFFFFFFFFFFFFFFFF } } }, by decide +kernel⟩

theorem witness_LinkCells_o :
    ∃ (l : Fin 4) (z : LaneBits) (c : BitVec 256) (x : Nat) (y : Nat) (s : State), s.linkState l = 2 ∧ (s.port l).loop ≠ 3 ∧
      (s.port l).lineCell z = some c ∧ (s.port l).classError c = false ∧ cellType c = 7 ∧ cellSub c % 4 = 2 ∧ cellCtl c 22 2 = 0 ∧
      s.upstream l = true ∧ (s.port l).lower = some (x, y) :=
  ⟨3, (lanesOf 0x70000000c002000000000000400000000000000050000000000900000000560b#256), 0x70000000c002000000000000400000000000000050000000000900000000560b#256, 7, 8, { withFields [(Fd.LINK_L_STATUS_STATE 3, 2), (Fd.TBL_CTRL_ROLE, 2), (Fd.TBL_CTRL_LINKSEL, 3)] with link := { ports := Vector.replicate 4 { lower := some (7, 8) } } }, by decide +kernel⟩

theorem witness_LinkCells_p1 :
    ∃ (l : Fin 4) (z : LaneBits) (c : BitVec 256) (s : State), (s.linkState l = 1 ∨ s.linkState l = 2) ∧ (s.port l).loop ≠ 3 ∧
      (s.port l).lineCell z = some c ∧ (s.port l).classError c = false ∧ cellType c = 8 ∧ cellSub c = 0 ∧ cellCtl c 22 2 = 0 :=
  ⟨3, (lanesOf 0x8000000020000000000000000000000000000000000000000000000000002bf5#256), 0x8000000020000000000000000000000000000000000000000000000000002bf5#256, withFields [(Fd.LINK_L_STATUS_STATE 3, 1)], by decide +kernel⟩

theorem witness_LinkCells_p2 :
    ∃ (l : Fin 4) (z : LaneBits) (c : BitVec 256) (s : State), (s.linkState l = 1 ∨ s.linkState l = 2) ∧ (s.port l).loop ≠ 3 ∧
      (s.port l).lineCell z = some c ∧ (s.port l).classError c = false ∧ cellType c = 8 ∧ cellSub c = 0 ∧ cellCtl c 22 2 = 0 :=
  ⟨3, (lanesOf 0x8000000020000000000000000000000000000000000000000000000000002bf5#256), 0x8000000020000000000000000000000000000000000000000000000000002bf5#256, withFields [(Fd.LINK_L_STATUS_STATE 3, 2)], by decide +kernel⟩

theorem witness_LinkCells_q1 :
    ∃ (l : Fin 4) (z : LaneBits) (c : BitVec 256) (v : Word) (s : State), (s.linkState l = 1 ∨ s.linkState l = 2) ∧ (s.port l).loop ≠ 3 ∧
      (s.port l).lineCell z = some c ∧ (s.port l).classError c = false ∧ cellType c = 8 ∧ cellSub c = 1 ∧ cellCtl c 22 2 = 0 ∧
      (s.port l).marks < 16 :=
  ⟨3, (lanesOf 0x8000000020010000000000000000000000000000000000000000000000006e41#256), 0x8000000020010000000000000000000000000000000000000000000000006e41#256, 700#32, withFields [(Fd.LINK_L_STATUS_STATE 3, 1)], by decide +kernel⟩

theorem witness_LinkCells_q2 :
    ∃ (l : Fin 4) (z : LaneBits) (c : BitVec 256) (v : Word) (s : State), (s.linkState l = 1 ∨ s.linkState l = 2) ∧ (s.port l).loop ≠ 3 ∧
      (s.port l).lineCell z = some c ∧ (s.port l).classError c = false ∧ cellType c = 8 ∧ cellSub c = 1 ∧ cellCtl c 22 2 = 0 ∧
      (s.port l).marks < 16 :=
  ⟨3, (lanesOf 0x8000000020010000000000000000000000000000000000000000000000006e41#256), 0x8000000020010000000000000000000000000000000000000000000000006e41#256, 700#32, withFields [(Fd.LINK_L_STATUS_STATE 3, 2)], by decide +kernel⟩

theorem witness_LaneCodingRoundTrip_a :
    ∃ (c : BitVec 256) (p : LinkPort), p.rxRun[0].n < 30 ∧ p.rxRun[1].n < 30 :=
  ⟨0x123456789ABCDEF#256, { rxRun := #v[⟨true, 29⟩, ⟨false, 7⟩] }, by decide +kernel⟩

theorem witness_LaneCodingRoundTrip_c :
    ∃ (r : LineRun) (l : List Bool), r.n < 30 ∧ l.length ≤ 128 :=
  ⟨⟨true, 29⟩, List.replicate 128 true, by decide +kernel⟩

theorem witness_EthernetPorts_a :
    ∃ (p : Fin 2) (l : List Byte) (w : Word) (i : Nat) (s : State), s.portLive p = true ∧ s.on (Fd.ETH_P_CTRL_RXEN p) = true ∧
      s.tagFree 11 = true ∧ s.get Fd.ETH_CFG_REDMODE = 0 ∧ 60 ≤ l.length ∧ l.length ≤ 1532 ∧ l.length ≤ s.get (Fd.ETH_P_RXBUFSZ_SIZE p) ∧
      s.on (Fd.ETH_P_CTRL_PROMISC p) = true ∧ beAt (l.map BitVec.toNat) (typeAt (l.map BitVec.toNat)) 2 ≠ 0x8808 ∧
      beAt (l.map BitVec.toNat) (typeAt (l.map BitVec.toNat)) 2 ≠ 0x88B8 ∧
      beAt (l.map BitVec.toNat) (typeAt (l.map BitVec.toNat)) 2 ≠ 0x88F7 ∧
      2 ^ 31 ≤ s.memRd (s.rdN (Reg.ETH_P_RXBASE p) / 16 * 16 + 16 * s.get (Fd.ETH_P_RXIDX_IDX p)) 4 ∧
      inSram (s.memRd (s.rdN (Reg.ETH_P_RXBASE p) / 16 * 16 + 16 * s.get (Fd.ETH_P_RXIDX_IDX p) + 4) 4) l.length = true ∧
      (s.memRd (s.rdN (Reg.ETH_P_RXBASE p) / 16 * 16 + 16 * s.get (Fd.ETH_P_RXIDX_IDX p) + 4) 4 + l.length ≤ s.rdN (Reg.ETH_P_RXBASE p) / 16 * 16 + 16 * s.get (Fd.ETH_P_RXIDX_IDX p) ∨ s.rdN (Reg.ETH_P_RXBASE p) / 16 * 16 + 16 * s.get (Fd.ETH_P_RXIDX_IDX p) + 16 ≤ s.memRd (s.rdN (Reg.ETH_P_RXBASE p) / 16 * 16 + 16 * s.get (Fd.ETH_P_RXIDX_IDX p) + 4) 4) ∧ i < l.length :=
  ⟨1, List.replicate 59 0x5A#8 ++ [0x77#8], 0, 59, { withFields [(Fd.ETH_P_CTRL_EN 1, 1), (Fd.ETH_P_CTRL_RXEN 1, 1), (Fd.ETH_P_CTRL_PROMISC 1, 1), (Fd.ETH_P_RXBUFSZ_SIZE 1, 60), (⟨Reg.ETH_P_RXBASE 1, 0, 32⟩, 0x20000010), (Fd.ETH_P_RXCNT_COUNT 1, 2)] with mem := [(0x20000013, 0x80#8), (0x20000015, 1#8), (0x20000017, 0x20#8)] }, by decide +kernel⟩

theorem witness_EthernetPorts_b1 :
    ∃ (p : Fin 2) (l : List Byte) (b : Bool) (w : Word) (s : State), s.portLive p = true ∧ s.on (Fd.ETH_P_CTRL_RXEN p) = true ∧
      s.tagFree 11 = true ∧ (b = true ∨ l.length < 60 ∨ 1532 < l.length) :=
  ⟨1, [1, 2, 3], false, 0, withFields [(Fd.ETH_P_CTRL_EN 1, 1), (Fd.ETH_P_CTRL_RXEN 1, 1)], by decide +kernel⟩

theorem witness_EthernetPorts_b2 :
    ∃ (p : Fin 2) (l : List Byte) (b : Bool) (w : Word) (s : State), s.portLive p = true ∧ s.on (Fd.ETH_P_CTRL_RXEN p) = true ∧
      s.tagFree 11 = true ∧ (b = true ∨ l.length < 60 ∨ 1532 < l.length) :=
  ⟨1, List.replicate 60 1#8, true, 0, withFields [(Fd.ETH_P_CTRL_EN 1, 1), (Fd.ETH_P_CTRL_RXEN 1, 1)], by decide +kernel⟩

theorem witness_EthernetPorts_c :
    ∃ (p : Fin 2) (l : List Byte) (w : Word) (s : State), s.portLive p = true ∧ s.on (Fd.ETH_P_CTRL_RXEN p) = true ∧ s.tagFree 11 = true ∧
      s.get Fd.ETH_CFG_REDMODE = 0 ∧ 60 ≤ l.length ∧ l.length ≤ 1532 ∧ l.length ≤ s.get (Fd.ETH_P_RXBUFSZ_SIZE p) ∧
      s.on (Fd.ETH_P_CTRL_PROMISC p) = true ∧ beAt (l.map BitVec.toNat) (typeAt (l.map BitVec.toNat)) 2 ≠ 0x8808 ∧
      beAt (l.map BitVec.toNat) (typeAt (l.map BitVec.toNat)) 2 ≠ 0x88B8 ∧
      beAt (l.map BitVec.toNat) (typeAt (l.map BitVec.toNat)) 2 ≠ 0x88F7 ∧
      s.memRd (s.rdN (Reg.ETH_P_RXBASE p) / 16 * 16 + 16 * s.get (Fd.ETH_P_RXIDX_IDX p)) 4 < 2 ^ 31 :=
  ⟨1, List.replicate 60 0x5A#8, 0, withFields [(Fd.ETH_P_CTRL_EN 1, 1), (Fd.ETH_P_CTRL_RXEN 1, 1), (Fd.ETH_P_CTRL_PROMISC 1, 1), (Fd.ETH_P_RXBUFSZ_SIZE 1, 60)], by decide +kernel⟩

theorem witness_EthernetPorts_d :
    ∃ (p : Fin 2) (s : State), s.portLive p = true ∧ s.on (Fd.ETH_P_CTRL_TXEN p) = true ∧ s.eth.sending[p] = false ∧
      s.get Fd.ETH_CFG_REDMODE = 0 ∧ s.tagFree 11 = true :=
  ⟨1, { withFields [(Fd.ETH_P_CTRL_EN 1, 1), (Fd.ETH_P_CTRL_TXEN 1, 1)] with mem := [(3, 0x80#8)] }, by decide +kernel⟩

theorem witness_EthernetPorts_e :
    ∃ (p : Fin 2) (s : State), s.portLive p = true ∧ s.eth.sending[p] = true ∧ s.eth.svFirst[p] = false ∧ s.tagFree 11 = true ∧
      s.on (Fd.ETH_P_CTRL_TXEN p) = true ∧ s.get Fd.ETH_CFG_REDMODE = 0 ∧
      (s.memRd (s.rdN (Reg.ETH_P_TXBASE p) / 16 * 16 + 16 * s.get (Fd.ETH_P_TXIDX_IDX p)) 4).testBit 16 = false :=
  ⟨1, { withFields [(Fd.ETH_P_CTRL_EN 1, 1), (Fd.ETH_P_CTRL_TXEN 1, 1), (⟨Reg.ETH_P_TXBASE 1, 0, 32⟩, 0x20000000), (Fd.ETH_P_TXCNT_COUNT 1, 4)] with mem := [(0x20000000, 3#8), (0x20000003, 0x80#8), (0x20000005, 1#8), (0x20000007, 0x20#8), (0x20000101, 9#8)], eth := { sending := Vector.replicate 2 true } }, by decide +kernel⟩

theorem witness_EthernetPorts_f1 :
    ∃ (v : Word) (s : State), (cut v.toNat 0 2 = 3 ∨ cut v.toNat 0 2 ≠ s.get Fd.ETH_CFG_REDMODE ∧
      (s.on (Fd.ETH_P_CTRL_EN 0) = true ∨ s.on (Fd.ETH_P_CTRL_EN 1) = true)) :=
  ⟨3, State.reset, by decide +kernel⟩

theorem witness_EthernetPorts_f2 :
    ∃ (v : Word) (s : State), (cut v.toNat 0 2 = 3 ∨ cut v.toNat 0 2 ≠ s.get Fd.ETH_CFG_REDMODE ∧
      (s.on (Fd.ETH_P_CTRL_EN 0) = true ∨ s.on (Fd.ETH_P_CTRL_EN 1) = true)) :=
  ⟨2, withFields [(Fd.ETH_P_CTRL_EN 1, 1)], by decide +kernel⟩

theorem witness_EthernetPorts_g :
    ∃ (v : Word) (s : State), cut v.toNat 0 2 ≠ 3 ∧ s.on (Fd.ETH_P_CTRL_EN 0) = false ∧ s.on (Fd.ETH_P_CTRL_EN 1) = false :=
  ⟨0xFFFF0002#32, State.reset, by decide +kernel⟩

theorem witness_EthernetPorts_h :
    ∃ (d : DupEntry) (l : List DupEntry) (s : State), s.eth.offAt = none ∧ s.eth.dups = d :: l :=
  ⟨⟨7, 8, 9⟩, [⟨7, 9, 9⟩, ⟨7, 9, 1000000000⟩], { State.reset with eth := { dups := [⟨7, 8, 9⟩, ⟨7, 9, 9⟩, ⟨7, 9, 1000000000⟩] } }, by decide +kernel⟩

theorem witness_EthernetPorts_i :
    ∃ (k : Fin 32) (x : Nat) (s : State), s.eth.offAt = none ∧ s.eth.tal[k] = some x :=
  ⟨31, 77, { withFields [(Fd.ETH_GF_CFG_ALIVE 31, 1)] with eth := { tal := Vector.replicate 32 (some 77) } }, by decide +kernel⟩

theorem witness_EthernetPorts_j :
    ∃ (r : Residence) (l : List Residence) (s : State), s.eth.offAt = none ∧ s.eth.residence = r :: l :=
  ⟨⟨5, 6, 7⟩, [⟨8, 9, 10⟩], { State.reset with eth := { residence := [⟨5, 6, 7⟩, ⟨8, 9, 10⟩] } }, by decide +kernel⟩

theorem witness_EthernetPorts_k :
    ∃ (n : Fin 2) (l : Launch) (s : State), s.launchOf (94 + n.val) = some l ∧ s.launchRuns (94 + n.val) = true ∧
      s.on (Fd.ETH_SV_CFG_EN n) = true ∧ s.eth.sv[n] = none :=
  ⟨1, ⟨95, 7, 7, 77⟩, { withFields [(Fd.PLL_STATUS_SYSLOCK, 1), (Fd.ETH_SV_CFG_EN 1, 1)] with tbl := { inflight := [⟨95, 7, 7, 77⟩] } }, by decide +kernel⟩

theorem witness_EthernetPorts_l :
    ∃ (n : Fin 2) (l : Launch) (f : List Nat) (s : State), s.launchOf (94 + n.val) = some l ∧ s.launchRuns (94 + n.val) = true ∧
      s.on (Fd.ETH_SV_CFG_EN n) = true ∧ s.eth.sv[n] = some f :=
  ⟨1, ⟨95, 7, 7, 77⟩, [1], { withFields [(Fd.PLL_STATUS_SYSLOCK, 1), (Fd.ETH_SV_CFG_EN 1, 1)] with tbl := { inflight := [⟨95, 7, 7, 77⟩] }, eth := { sv := Vector.replicate 2 (some [1]) } }, by decide +kernel⟩

theorem witness_EthernetPorts_m :
    ∃ (n : Fin 2) (f : List Nat) (s : State), s.eth.sv[n] = some f ∧ s.get Fd.ETH_CFG_REDMODE = 0 ∧
      s.portLive (Fin.ofNat 2 (s.get (Fd.ETH_SV_CFG_PORT n))) = true ∧ s.on (Fd.ETH_P_CTRL_TXEN (s.get (Fd.ETH_SV_CFG_PORT n))) = true ∧
      (n = 0 ∨ s.eth.sv[0] = none) :=
  ⟨0, [1, 2], { withFields [(Fd.ETH_P_CTRL_EN 1, 1), (Fd.ETH_P_CTRL_TXEN 1, 1), (Fd.ETH_SV_CFG_PORT 0, 1)] with eth := { sv := Vector.replicate 2 (some [1, 2]) } }, by decide +kernel⟩

theorem witness_SecurityAndConsent_a :
    ∃ (s : State), s.sec.booted = false ∧ s.on (Fd.SYSCFG_ST_STATUS_RUN 0) = true ∧ s.on Fd.CONSENT_STATUS_RESTORING = false :=
  ⟨withFields [(Fd.SYSCFG_ST_STATUS_RUN 0, 1), (Fd.CONSENT_STATUS_RESTORING, 0)], by decide +kernel⟩

theorem witness_SecurityAndConsent_b :
    ∃ (v : Word) (s : State), s.sec.st1Waits = true ∧ s.on (Fd.SYSCFG_ST_STATUS_RUN 1) = true ∧ v ≠ 0 ∧ v.toNat % 4 = 0 :=
  ⟨0x20000104#32, withFields [(Fd.SYSCFG_ST_STATUS_RUN 1, 1)], by decide +kernel⟩

theorem witness_SecurityAndConsent_c :
    ∃ (s : State), s.on Fd.SEC_STATUS_BUSY = true :=
  ⟨withFields [(Fd.SEC_STATUS_BUSY, 1)], by decide +kernel⟩

theorem witness_SecurityAndConsent_d :
    ∃ (s : State), s.on Fd.SEC_STATUS_BUSY = false ∧ s.consentWants = false ∧ hashable (s.rdN Reg.SEC_HADDR) (s.rdN Reg.SEC_HLEN) = true :=
  ⟨withFields [(⟨Reg.SEC_HADDR, 0, 32⟩, 0x203FFFFD), (⟨Reg.SEC_HLEN, 0, 32⟩, 3)], by decide +kernel⟩

theorem witness_SecurityAndConsent_e :
    ∃ (s : State), s.on Fd.SEC_STATUS_BUSY = false ∧ s.consentWants = false :=
  ⟨State.reset, by decide +kernel⟩

theorem witness_SecurityAndConsent_f :
    ∃ (s : State), s.on Fd.SEC_STATUS_BUSY = false ∧ s.consentWants = false ∧
      (s.slotValid (s.get Fd.SEC_STATUS_SLOT == 0) && decide (s.imgWord (s.get Fd.SEC_STATUS_SLOT == 0) 4 < s.rdN Reg.SEC_VERSION)) = false :=
  ⟨withFields [(⟨Reg.SEC_VERSION, 0, 32⟩, 300)], by decide +kernel⟩

theorem witness_SecurityAndConsent_g :
    ∃ (s : State), s.on Fd.SEC_STATUS_BUSY = false ∧ s.consentWants = false ∧ s.sec.otp.okh = 0 :=
  ⟨State.reset, by decide +kernel⟩

theorem witness_SecurityAndConsent_h :
    ∃ (s : State), s.on Fd.SEC_STATUS_BUSY = false ∧ s.consentWants = false ∧ s.sec.otp.okh ≠ 0 :=
  ⟨{ State.reset with sec := { otp := { okh := 5 } } }, by decide +kernel⟩

theorem witness_SecurityAndConsent_i :
    ∃ (s : State), s.on Fd.SEC_STATUS_BUSY = false ∧ s.consentWants = true ∧ s.sec.run = none :=
  ⟨withFields [(Fd.CONSENT_STATUS_STATE, 3)], by decide +kernel⟩

theorem witness_SecurityAndConsent_j :
    ∃ (i : Fin 16) (s : State), s.consent.digesting = true ∧ s.sec.run = none ∧ s.sec.waiting = some 2 ∧ s.consState ≠ 3 :=
  ⟨15, { withFields [(Fd.CONSENT_STATUS_SETID, 1), (Fd.SEC_STATUS_BUSY, 1)] with consent := { digesting := true }, sec := { waiting := some 2 } }, by decide +kernel⟩

theorem witness_SecurityAndConsent_k :
    ∃ (s : State), s.on Fd.SEC_STATUS_BUSY = false ∧ s.pmu.warned = false ∧ s.pmu.clocksOff = false :=
  ⟨State.reset, by decide +kernel⟩

theorem witness_SecurityAndConsent_l :
    ∃ (l : List Nat) (i : Fin 16) (s : State), l.length = 64 ∧ s.sec.run = some { outs := wordsTo (Reg.SEC_BUF 0) l } :=
  ⟨List.replicate 64 9, 15, { withFields [(Fd.SEC_STATUS_BUSY, 1)] with sec := { run := some { outs := wordsTo (Reg.SEC_BUF 0) (List.replicate 64 9) } } }, by decide +kernel⟩

theorem witness_SecurityAndConsent_n1 :
    ∃ (n : BitVec 3) (i : Fin 1024) (s : State), s.consState = 0 ∧ n.toNat ≤ 4 ∧ i.val < (setRegs n.toNat).length :=
  ⟨4, 32, withFields [(⟨Reg.CONSENT_LIVE 4 32, 0, 32⟩, 77)], by decide +kernel⟩

theorem witness_SecurityAndConsent_n2 :
    ∃ (n : BitVec 3) (i : Fin 1024) (s : State), s.consState = 0 ∧ n.toNat ≤ 4 ∧ i.val < (setRegs n.toNat).length :=
  ⟨0, 199, State.reset, by decide +kernel⟩

theorem witness_SecurityAndConsent_o :
    ∃ (n : BitVec 3) (s : State), (s.consState ≠ 0 ∨ 4 < n.toNat) :=
  ⟨5, State.reset, by decide +kernel⟩

theorem witness_SecurityAndConsent_p :
    ∃ (i : BitVec 10) (v : Word) (s : State), s.consState = 1 ∧ i.toNat < (setRegs s.consSet).length :=
  ⟨32, 0x77#32, withFields [(Fd.CONSENT_STATUS_STATE, 1), (Fd.CONSENT_STATUS_SETID, 4)], by decide +kernel⟩

theorem witness_SecurityAndConsent_q :
    ∃ (i : BitVec 10) (v : Word) (s : State), (s.consState ≠ 1 ∨ (setRegs s.consSet).length ≤ i.toNat) :=
  ⟨33, 0x77#32, withFields [(Fd.CONSENT_STATUS_STATE, 1), (Fd.CONSENT_STATUS_SETID, 4)], by decide +kernel⟩

theorem witness_SecurityAndConsent_r1 :
    ∃ (s : State), s.consState = 1 ∧ s.consSet ≠ 4 :=
  ⟨{ withFields [(Fd.CONSENT_STATUS_STATE, 1)] with consent := { lockEnd := some 5 } }, by decide +kernel⟩

theorem witness_SecurityAndConsent_r2 :
    ∃ (s : State), s.consState = 1 ∧ s.consSet ≠ 4 :=
  ⟨withFields [(Fd.CONSENT_STATUS_STATE, 1)], by decide +kernel⟩

theorem witness_SecurityAndConsent_s :
    ∃ (s : State), s.consState = 1 ∧ s.consSet = 4 ∧ (s.rdN (Reg.CONSENT_STAGE 0)).testBit 0 = false ∧
      cut (s.rdN (Reg.CONSENT_STAGE 0)) 4 4 = 0 :=
  ⟨withFields [(Fd.CONSENT_STATUS_STATE, 1), (Fd.CONSENT_STATUS_SETID, 4)], by decide +kernel⟩

theorem witness_SecurityAndConsent_t :
    ∃ (i : Fin 16) (s : State), s.consent.digesting = true ∧ s.sec.run = none ∧ s.sec.waiting = none :=
  ⟨15, { withFields [(Fd.CONSENT_STATUS_SETID, 1)] with consent := { digesting := true } }, by decide +kernel⟩

theorem witness_SecurityAndConsent_u :
    ∃ (k : Fin 4) (s : State), s.consState = 2 ∧ s.consLocked = false ∧ (cut (s.rdN (Reg.CONSENT_LIVE 4 0)) 4 4).testBit k.val = true ∧
      s.now < s.consWindowEnd :=
  ⟨3, withFields [(Fd.CONSENT_STATUS_STATE, 2), (⟨Reg.CONSENT_LIVE 4 0, 4, 4⟩, 8)], by decide +kernel⟩

theorem witness_SecurityAndConsent_v :
    ∃ (k : Fin 4) (s : State), s.consState = 2 ∧ s.consLocked = false ∧ (cut (s.rdN (Reg.CONSENT_LIVE 4 0)) 4 4).testBit k.val = true ∧
      s.consWindowEnd ≤ s.now :=
  ⟨3, { withFields [(Fd.CONSENT_STATUS_STATE, 2), (⟨Reg.CONSENT_LIVE 4 0, 4, 4⟩, 8)] with now := 9600000000000 }, by decide +kernel⟩

theorem witness_SecurityAndConsent_w :
    ∃ (s : State), s.consState = 3 ∧ s.sec.run = none ∧ s.sec.waiting = none ∧ s.blockFree = true ∧ s.consent.digesting = false ∧
      s.consent.physDone = false ∧ s.mramc.moving = none :=
  ⟨withFields [(Fd.CONSENT_STATUS_STATE, 3), (Fd.CONSENT_STATUS_REJCNT, 7)], by decide +kernel⟩

theorem witness_SecurityAndConsent_x :
    ∃ (s : State), (s.consState = 1 ∨ s.consState = 2 ∨ s.consState = 4 ∨ s.consState = 5) ∧ (s.consState = 4 → s.atBoundary = false) ∧
      s.consent.counter = none ∧ s.sec.waiting = none :=
  ⟨withFields [(Fd.CONSENT_STATUS_STATE, 5)], by decide +kernel⟩

theorem witness_SecurityAndConsent_y :
    ∃ (s : State), (s.consState = 0 ∨ s.consState = 3) :=
  ⟨State.reset, by decide +kernel⟩

theorem witness_SecurityAndConsent_z :
    ∃ (s : State), s.consLocked = false ∧ (s.rdN (Reg.CONSENT_LIVE 4 0)).testBit 0 = true ∧ s.consState = 2 ∧ s.blockFree = true ∧
      max s.now (s.consent.req + 10 * tMs + cut (s.rdN (Reg.CONSENT_LIVE 4 0)) 8 8 * tSec) ≤ s.consWindowEnd :=
  ⟨withFields [(Fd.CONSENT_STATUS_STATE, 2), (Fd.CONSENT_STATUS_SETID, 1)], by decide +kernel⟩

theorem witness_SecurityAndConsent_za :
    ∃ (s : State), (s.consState = 2 ∨ s.consState = 5) ∧ s.sec.waiting = none :=
  ⟨withFields [(Fd.CONSENT_STATUS_STATE, 5)], by decide +kernel⟩

theorem witness_SecurityAndConsent_zb :
    ∃ (a : Nat) (s : State), s.consent.lockEnd = some a :=
  ⟨77, { withFields [(Fd.CONSENT_STATUS_STATE, 5)] with consent := { lockEnd := some 77 } }, by decide +kernel⟩

theorem witness_SecurityAndConsent_zc :
    ∃ (s : State), s.consState = 4 ∧ s.consent.counter = none ∧ s.pmu.warned = false ∧ s.pwmClk = true ∧ s.blockIdle = true ∧
      s.consHeld = true :=
  ⟨withFields [(Fd.PLL_STATUS_SYNCLOCK, 1), (Fd.CONSENT_STATUS_STATE, 4), (Fd.PROT_STATUS_REGION, 2)], by decide +kernel⟩

theorem witness_SecurityAndConsent_zd :
    ∃ (i : Fin 33) (s : State), s.consState = 4 ∧ s.consent.counter = none ∧ s.pmu.warned = false ∧ s.pwmClk = true ∧ s.blockIdle = true ∧
      s.consHeld = false ∧ s.consSet = 4 ∧ s.mramc.moving = none ∧ s.tagFree 14 = true :=
  ⟨32, withFields [(Fd.PLL_STATUS_SYNCLOCK, 1), (Fd.CONSENT_STATUS_STATE, 4), (Fd.CONSENT_STATUS_SETID, 4), (⟨Reg.CONSENT_STAGE 32, 0, 32⟩, 0xDEADBEEF)], by decide +kernel⟩

theorem witness_SecurityAndConsent_ze1 :
    ∃ (s : State), s.consState = 4 ∧ s.consent.counter = none ∧ s.pmu.warned = false ∧ s.pwmClk = true ∧ s.blockIdle = true ∧
      s.consHeld = false :=
  ⟨withFields [(Fd.PLL_STATUS_SYNCLOCK, 1), (Fd.CONSENT_STATUS_STATE, 4)], by decide +kernel⟩

theorem witness_SecurityAndConsent_ze2 :
    ∃ (s : State), s.consState = 4 ∧ s.consent.counter = none ∧ s.pmu.warned = false ∧ s.pwmClk = true ∧ s.blockIdle = true ∧
      s.consHeld = false :=
  ⟨withFields [(Fd.PLL_STATUS_SYNCLOCK, 1), (Fd.CONSENT_STATUS_STATE, 4), (Fd.CONSENT_STATUS_SETID, 2)], by decide +kernel⟩

theorem witness_SecurityAndConsent_zf :
    ∃ (n : Nat) (s : State), s.consent.counter = some n ∧ s.blockIdle = true :=
  ⟨0x100000005, { withFields [(Fd.CONSENT_STATUS_STATE, 4), (Fd.CONSENT_STATUS_SETID, 3)] with consent := { counter := some 0x100000005 } }, by decide +kernel⟩

theorem witness_SecurityAndConsent_zg :
    ∃ (s : State), s.on Fd.CONSENT_STATUS_RESTORING = true :=
  ⟨withFields [(Fd.CONSENT_STATUS_RESTORING, 1)], by decide +kernel⟩

theorem witness_PowerAndSaving_a :
    ∃ (v : Bool) (vio : Vector Supply 8) (s : State), s.pmu.clocksOff = true :=
  ⟨true, Vector.replicate 8 .none, { State.reset with pmu := { clocksOff := true, cause := 6 } }, by decide +kernel⟩

theorem witness_PowerAndSaving_b :
    ∃ (s : State), s.pmu.held = true ∧ s.pmu.clocksOff = false ∧ s.on Fd.PLL_STATUS_SYSLOCK = true ∧ s.on Fd.PLL_STATUS_SYNCLOCK = true :=
  ⟨withFields [(Fd.PLL_STATUS_SYSLOCK, 1), (Fd.PLL_STATUS_SYNCLOCK, 1)], by decide +kernel⟩

theorem witness_PowerAndSaving_d :
    ∃ (v : BitVec 16) (s : State), s.on Fd.PMU_STATUS_HUWAIT = true ∧ v.toNat < 18000 ∧ 0 < s.get Fd.PMU_HUREQ_MJ :=
  ⟨17999, withFields [(Fd.PMU_STATUS_HUWAIT, 1), (Fd.PMU_HUREQ_MJ, 50)], by decide +kernel⟩

theorem witness_PowerAndSaving_e :
    ∃ (v : BitVec 16) (s : State), s.on Fd.PMU_STATUS_HUWAIT = true ∧ s.get Fd.PMU_HUREQ_MJ = 0 :=
  ⟨20000, withFields [(Fd.PMU_STATUS_HUWAIT, 1), (Fd.PMU_HUREQ_MJ, 0), (Fd.PWM_STATUS_HUWAIT, 1)], by decide +kernel⟩

theorem witness_PowerAndSaving_h1 :
    ∃ (r : Bool) (s : State), s.pmu.warned = false ∧ s.pmu.clocksOff = false :=
  ⟨true, withFields [(Fd.PMU_STATUS_HUWAIT, 1)], by decide +kernel⟩

theorem witness_PowerAndSaving_h2 :
    ∃ (r : Bool) (s : State), s.pmu.warned = false ∧ s.pmu.clocksOff = false :=
  ⟨false, withFields [(Fd.PMU_STATUS_HUWAIT, 0)], by decide +kernel⟩

theorem witness_PowerAndSaving_i :
    ∃ (r : Bool) (s : State), s.pmu.warned = true ∧ s.pmu.clocksOff = false ∧ s.pmu.warnAt = s.now ∧ s.get Fd.PMU_RSTINFO_CAUSE = 6 :=
  ⟨false, { withFields [(Fd.PMU_RSTINFO_CAUSE, 6)] with pmu := { warned := true }, sentinel := { queue := [⟨8, 3, true, 7, 0⟩] } }, by decide +kernel⟩

theorem witness_PowerAndSaving_j :
    ∃ (r : Bool) (s : State), s.pmu.warned = true ∧ s.pmu.warnAt ≠ s.now :=
  ⟨true, { State.reset with pmu := { warned := true, warnAt := 3 } }, by decide +kernel⟩

theorem witness_PowerAndSaving_k :
    ∃ (s : State), s.pmu.warned = true ∧ s.pmu.windowEnded = false :=
  ⟨{ withFields [(Fd.SYSCFG_ST_STATUS_RUN 0, 1)] with pmu := { warned := true, warnAt := 5 } }, by decide +kernel⟩

theorem witness_PowerAndSaving_l :
    ∃ (s : State), s.pmu.warned = true ∧ s.pmu.windowEnded = true ∧ s.pmu.engine = none ∧ (∀ n : Fin 4, s.rk[n].task = none) ∧
      s.consent.counter = none :=
  ⟨{ State.reset with pmu := { warned := true, windowEnded := true } }, by decide +kernel⟩

theorem witness_PowerAndSaving_m :
    ∃ (s : State), s.pmu.engine = none :=
  ⟨State.reset, by decide +kernel⟩

theorem witness_PowerAndSaving_n :
    ∃ (n : Nat) (s : State), s.pmu.engine = some n ∧ s.pmu.image = none ∧ s.pwmClk = false :=
  ⟨5, { State.reset with pmu := { engine := some 5 } }, by decide +kernel⟩

theorem witness_PowerAndSaving_o :
    ∃ (n : Nat) (l : List (Nat × Word)) (s : State), s.pmu.engine = some n ∧ s.pmu.image = some l ∧ s.pmu.noBlock = false ∧
      s.pmu.clocksOff = false :=
  ⟨5, [(1024, 7#32)], { withFields [(Fd.PMU_RSTINFO_CAUSE, 6), (Fd.PMU_STATUS_SAVING, 1)] with pmu := { engine := some 5, image := some [(1024, 7#32)] } }, by decide +kernel⟩

theorem witness_PowerAndSaving_p :
    ∃ (s : State), s.settled ∧ (s.pmu.warned = true ∨ s.on Fd.SENT_CFG_WAKEEN = false ∧ s.on Fd.SENT_CFG_ALARMEN = false) :=
  ⟨State.reset, by decide +kernel⟩

theorem witness_PowerAndSaving_q :
    ∃ (s : State), s.settled ∧ s.pmu.warned = false ∧ s.pmu.clocksOff = false ∧
      (s.on Fd.SENT_CFG_WAKEEN = true ∨ s.on Fd.SENT_CFG_ALARMEN = true) :=
  ⟨withFields [(Fd.SENT_CFG_WAKEEN, 1)], by decide +kernel⟩

theorem witness_SentinelAndLedger_a :
    ∃ (v : Bool) (s : State), s.sentinel.running = false :=
  ⟨true, { State.reset with sentinel := { running := false } }, by decide +kernel⟩

theorem witness_SentinelAndLedger_b :
    ∃ (s : State), s.settled ∧ s.sentinel.running = true :=
  ⟨withFields [(Fd.SENT_CFG_WAKEEN, 1)], by decide +kernel⟩

theorem witness_SentinelAndLedger_c :
    ∃ (s : State), s.settled ∧ s.sentinel.running = true ∧ s.vinPresent = true ∧ s.sentinel.queue.length < 4 :=
  ⟨{ withFields [(Fd.SENT_STATUS_ONVIN, 1), (Fd.SENT_CFG_CKINT, 5)] with sentinel := { queue := [⟨3, 4, true, 5, 1⟩] } }, by decide +kernel⟩

theorem witness_SentinelAndLedger_d :
    ∃ (s : State), s.settled ∧ s.sentinel.running = true ∧ s.vinPresent = false ∧ s.sentinel.queue.length < 4 :=
  ⟨{ withFields [(Fd.SENT_STATUS_ONVIN, 0), (Fd.SENT_STATUS_ONVBAT, 1)] with sentinel := { queue := [⟨3, 4, true, 5, 1⟩] } }, by decide +kernel⟩

theorem witness_SentinelAndLedger_e :
    ∃ (l : BitVec 16) (v : BitVec 16) (b : BitVec 16) (s : State), s.settled ∧ s.sentinelLive = true ∧ s.vinPresent = false ∧
      s.on Fd.SENT_STATUS_ONVBAT = false ∧ l.toNat < s.get Fd.SENT_LCUT_MV ∧ s.on Fd.SENT_CFG_LDPOL = true ∧ 2500 ≤ b.toNat ∧
      s.sentinel.queue.length < 4 :=
  ⟨2499, 3300, 2500, withFields [(Fd.SENT_LCUT_MV, 2500), (Fd.SENT_CFG_LDPOL, 1), (Fd.SENT_STATUS_ONVIN, 0), (Fd.SENT_STATUS_CUT, 0)], by decide +kernel⟩

theorem witness_SentinelAndLedger_f :
    ∃ (l : BitVec 16) (v : BitVec 16) (b : BitVec 16) (s : State), s.settled ∧ s.sentinelLive = true ∧ s.vinPresent = false ∧
      s.on Fd.SENT_STATUS_ONVBAT = false ∧ l.toNat < s.get Fd.SENT_LCUT_MV ∧ s.on Fd.SENT_CFG_LDPOL = false ∧ v.toNat < 3100 :=
  ⟨2499, 3099, 2500, withFields [(Fd.SENT_LCUT_MV, 2500), (Fd.SENT_CFG_LDPOL, 0), (Fd.SENT_STATUS_ONVIN, 0), (Fd.SENT_STATUS_CUT, 0)], by decide +kernel⟩

theorem witness_SentinelAndLedger_g :
    ∃ (l : BitVec 16) (s : State), s.settled ∧ s.sentinel.running = true ∧ s.on Fd.SENT_STATUS_CUT = true ∧
      s.get Fd.SENT_LCUT_MV + 300 ≤ l.toNat :=
  ⟨2800, withFields [(Fd.SENT_STATUS_CUT, 1), (Fd.SENT_LCUT_MV, 2500)], by decide +kernel⟩

theorem witness_SentinelAndLedger_h :
    ∃ (v : BitVec 16) (e : LedgerEntry) (q : List LedgerEntry) (s : State), s.settled ∧ s.sentinelLive = true ∧ s.sentinel.queue = e :: q ∧
      3100 ≤ v.toNat :=
  ⟨3100, ⟨1, 77, true, 2700, 0⟩, [], { State.reset with sentinel := { queue := [⟨1, 77, true, 2700, 0⟩] } }, by decide +kernel⟩

theorem witness_SentinelAndLedger_i :
    ∃ (v : BitVec 16) (n : Fin 9) (s : State), s.settled ∧ s.sentinelLive = true ∧ s.sentinel.queue ≠ [] ∧ v.toNat < 3100 :=
  ⟨3099, 8, { State.reset with sentinel := { queue := [⟨1, 77, true, 2700, 0⟩] } }, by decide +kernel⟩

theorem witness_SentinelAndLedger_j :
    ∃ (x : Nat) (s : State), s.settled ∧ s.sentinel.checkpoint = some x ∧ s.sentinelLive = true ∧ s.vinPresent = false ∧
      s.sentinel.queue.length < 4 :=
  ⟨90, { withFields [(Fd.SENT_STATUS_ONVIN, 0)] with sentinel := { checkpoint := some 90 } }, by decide +kernel⟩

theorem witness_SentinelAndLedger_k :
    ∃ (n : Fin 2) (b : Bool) (h : Nat) (s : State), s.settled ∧ s.sentinelLive = true ∧ (s.get Fd.SENT_CFG_TAMPEN).testBit n.val = true ∧
      s.sentinel.ignored.getLsbD n.val = false ∧ s.sentinel.queue.length < 4 ∧ s.tamperActive n b = true ∧ 10 * tMs ≤ h :=
  ⟨1, true, 160000000, withFields [(Fd.SENT_CFG_TAMPEN, 3), (Fd.SENT_CFG_TAMPPOL, 0), (Fd.SENT_STATUS_CUT, 0)], by decide +kernel⟩

theorem witness_SentinelAndLedger_l1 :
    ∃ (n : Fin 2) (b : Bool) (h : Nat) (s : State), s.settled ∧ s.sentinelLive = true ∧
      (s.sentinel.ignored.getLsbD n.val = true ∨ h < 10 * tMs ∨ s.tamperActive n b = false) :=
  ⟨1, true, 160000000, { withFields [(Fd.SENT_CFG_TAMPEN, 3), (Fd.SENT_STATUS_CUT, 0)] with sentinel := { ignored := 2 } }, by decide +kernel⟩

theorem witness_SentinelAndLedger_l2 :
    ∃ (n : Fin 2) (b : Bool) (h : Nat) (s : State), s.settled ∧ s.sentinelLive = true ∧
      (s.sentinel.ignored.getLsbD n.val = true ∨ h < 10 * tMs ∨ s.tamperActive n b = false) :=
  ⟨1, true, 159999999, withFields [(Fd.SENT_CFG_TAMPEN, 3), (Fd.SENT_STATUS_CUT, 0)], by decide +kernel⟩

theorem witness_SentinelAndLedger_l3 :
    ∃ (n : Fin 2) (b : Bool) (h : Nat) (s : State), s.settled ∧ s.sentinelLive = true ∧
      (s.sentinel.ignored.getLsbD n.val = true ∨ h < 10 * tMs ∨ s.tamperActive n b = false) :=
  ⟨1, false, 160000000, withFields [(Fd.SENT_CFG_TAMPEN, 3), (Fd.SENT_CFG_TAMPPOL, 0), (Fd.SENT_STATUS_CUT, 0)], by decide +kernel⟩

theorem witness_SentinelAndLedger_m :
    ∃ (n : Fin 2) (b : Bool) (h : Nat) (s : State), s.settled ∧ s.sentinelLive = true ∧ s.tamperActive n b = false ∧ 10 * tMs ≤ h :=
  ⟨1, false, 160000000, { withFields [(Fd.SENT_CFG_TAMPPOL, 0), (Fd.SENT_STATUS_CUT, 0)] with sentinel := { ignored := 3 } }, by decide +kernel⟩

theorem witness_SentinelAndLedger_n :
    ∃ (s : State), s.settled ∧ s.sentinelLive = true ∧ s.on Fd.SENT_CFG_WAKEEN = true :=
  ⟨withFields [(Fd.SENT_CFG_WAKEEN, 1), (Fd.SENT_STATUS_CUT, 0)], by decide +kernel⟩

theorem witness_SentinelAndLedger_o :
    ∃ (s : State), s.settled ∧ s.sentinelLive = true ∧ s.on Fd.SENT_CFG_ALARMEN = true ∧ s.rtc ≤ s.alarm :=
  ⟨withFields [(Fd.SENT_CFG_ALARMEN, 1), (Fd.SENT_STATUS_CUT, 0), (⟨Reg.SENT_ALARM_LO, 0, 32⟩, 300)], by decide +kernel⟩

theorem witness_SentinelAndLedger_p :
    ∃ (s : State), s.sentinel.writes = [] ∧ s.sentinelLive = true ∧ s.vinPresent = true :=
  ⟨withFields [(Fd.SENT_STATUS_ONVIN, 1), (Fd.SENT_STATUS_CUT, 0), (⟨Reg.SENT_ALARM_LO, 0, 32⟩, 300)], by decide +kernel⟩

theorem witness_SentinelAndLedger_q :
    ∃ (s : State), s.sentinel.writes = [] ∧ s.vinPresent = false :=
  ⟨withFields [(Fd.SENT_STATUS_ONVIN, 0)], by decide +kernel⟩

theorem witness_SentinelAndLedger_r :
    ∃ (v : BitVec 16) (s : State), s.settled ∧ s.sentinel.running = true ∧ s.on Fd.SENT_CFG_HV1EN = true :=
  ⟨5000, withFields [(Fd.SENT_CFG_HV1EN, 1), (Fd.SENT_HV1_FRAC, 80)], by decide +kernel⟩

theorem witness_SentinelAndLedger_s :
    ∃ (v : Word) (s : State), s.sentinel.writes = [] :=
  ⟨7#32, State.reset, by decide +kernel⟩

theorem witness_MonitorsAndScrub_a1 :
    ∃ (k : Fin 16) (c : Fin 8) (x : Int) (q : List (Int × Bool)) (s : State), s.mon.queue[k] = (x, false) :: q ∧ s.pmu.warned = false ∧
      s.get (Fd.MON_M_CFG_CLASS k) = c.val ∧ -2 ^ 31 ≤ x ∧ x < 2 ^ 31 :=
  ⟨15, 0, 120, [], { withFields [(Fd.MON_M_CFG_EN 15, 1), (⟨Reg.MON_M_WIDTH 15, 0, 32⟩, 40)] with mon := { queue := Vector.replicate 16 [(120, false)] } }, by decide +kernel⟩

theorem witness_MonitorsAndScrub_a2 :
    ∃ (k : Fin 16) (c : Fin 8) (x : Int) (q : List (Int × Bool)) (s : State), s.mon.queue[k] = (x, false) :: q ∧ s.pmu.warned = false ∧
      s.get (Fd.MON_M_CFG_CLASS k) = c.val ∧ -2 ^ 31 ≤ x ∧ x < 2 ^ 31 :=
  ⟨15, 0, (-120), [], { withFields [(Fd.MON_M_CFG_EN 15, 1), (⟨Reg.MON_M_WIDTH 15, 0, 32⟩, 40)] with mon := { queue := Vector.replicate 16 [(-120, false)] } }, by decide +kernel⟩

theorem witness_MonitorsAndScrub_b :
    ∃ (k : Fin 16) (c : Fin 8) (x : Int) (q : List (Int × Bool)) (s : State), s.mon.queue[k] = (x, true) :: q ∧ s.pmu.warned = false ∧
      s.get (Fd.MON_M_CFG_CLASS k) = c.val :=
  ⟨15, 0, 81, [], { State.reset with mon := { queue := Vector.replicate 16 [(81, true)] } }, by decide +kernel⟩

theorem witness_MonitorsAndScrub_c :
    ∃ (k : Fin 16) (c : Fin 8) (s : State), s.get (Fd.MON_M_CFG_CLASS k) ≠ c.val :=
  ⟨15, 7, { withFields [(Fd.MON_M_CFG_EN 15, 1)] with mon := { queue := Vector.replicate 16 [(81, true)] } }, by decide +kernel⟩

theorem witness_MonitorsAndScrub_d :
    ∃ (w : Fin 4) (l : Launch) (s : State), s.launchOf (108 + w.val) = some l ∧ s.launchRuns (108 + w.val) = true ∧
      s.rdN (Reg.MON_WINLEN w) ≠ 0 :=
  ⟨3, ⟨111, 7, 7, 77⟩, { withRegs [(Reg.MON_WINLEN 3, 0xFFFFFFFF#32)] with tbl := { count := 900, inflight := [⟨111, 7, 7, 77⟩] } }, by decide +kernel⟩

theorem witness_MonitorsAndScrub_e :
    ∃ (w : Fin 4) (l : Launch) (s : State), s.launchOf (108 + w.val) = some l ∧ s.launchRuns (108 + w.val) = true ∧
      s.rdN (Reg.MON_WINLEN w) = 0 :=
  ⟨3, ⟨111, 7, 7, 77⟩, { State.reset with tbl := { count := 900, inflight := [⟨111, 7, 7, 77⟩] } }, by decide +kernel⟩

theorem witness_MonitorsAndScrub_f :
    ∃ (w : Fin 4) (a : Nat) (b : Nat) (s : State), s.mon.win[w] = some (a, b) ∧ s.on ⟨Reg.MON_WINSTAT, w.val, 1⟩ = true ∧
      s.canReach b = true :=
  ⟨3, 5, 70000, { withFields [(⟨Reg.MON_WINSTAT, 3, 1⟩, 1), (Fd.PLL_STATUS_SYNCLOCK, 1)] with mon := { win := Vector.replicate 4 (some (5, 70000)) } }, by decide +kernel⟩

theorem witness_MonitorsAndScrub_g :
    ∃ (m : BitVec 16) (k : Fin 16) (s : State), (s.mon.recent[k]).all (fun p => p.1 != s.now) = true :=
  ⟨0x8000#16, 15, withFields [(⟨Reg.MON_M_COUNT 15, 0, 32⟩, 9)], by decide +kernel⟩

theorem witness_MonitorsAndScrub_h :
    ∃ (k : Fin 16) (s : State), s.on (Fd.MON_M_CFG_EN k) = true ∧ s.get (Fd.MON_M_CFG_CLASS k) = 4 ∧ s.get (Fd.MON_M_CFG_INDEX k) < 4 ∧
      s.pmu.warned = false ∧ s.linkState (Fin.ofNat 4 (s.get (Fd.MON_M_CFG_INDEX k))) = 2 :=
  ⟨15, withFields [(Fd.MON_M_CFG_EN 15, 1), (Fd.MON_M_CFG_CLASS 15, 4), (Fd.MON_M_CFG_INDEX 15, 3), (Fd.LINK_L_STATUS_STATE 3, 2)], by decide +kernel⟩

theorem witness_MonitorsAndScrub_j :
    ∃ (s : State), s.pmu.warned = false ∧ s.on Fd.PLL_STATUS_SYSLOCK = true ∧ s.tagFree 15 = true :=
  ⟨{ withFields [(Fd.PLL_STATUS_SYSLOCK, 1)] with mon := { scrub := 0x203FFFF8 } }, by decide +kernel⟩

theorem witness_ExtrRoundsAndSaturates_a :
    ∃ (c : Fin 6) (f : IForm) (s : State), Issues s c (extBytes f.ext) f.pred ∧ f.legal .d .w 6 = true :=
  ⟨0, ⟨0, 3, 1, 32, none⟩, rkRunning, by decide +kernel⟩

theorem witness_LinkConfigurationRefused_a1 :
    ∃ (l : Fin 4) (v : Word) (s : State), s.linkState l ≠ 0 ∧ s.linkState l ≠ 3 ∧
      (cut v.toNat 4 2 ≠ s.get (Fd.LINK_L_CTRL_RATE l) ∨ cut v.toNat 8 3 ≠ s.get (Fd.LINK_L_CTRL_LOOP l)) :=
  ⟨3, 0x11#32, withFields [(Fd.LINK_L_STATUS_STATE 3, 1), (Fd.LINK_L_CTRL_RATE 3, 2), (Fd.LINK_L_CTRL_EN 3, 1)], by decide +kernel⟩

theorem witness_LinkConfigurationRefused_a2 :
    ∃ (l : Fin 4) (v : Word) (s : State), s.linkState l ≠ 0 ∧ s.linkState l ≠ 3 ∧
      (cut v.toNat 4 2 ≠ s.get (Fd.LINK_L_CTRL_RATE l) ∨ cut v.toNat 8 3 ≠ s.get (Fd.LINK_L_CTRL_LOOP l)) :=
  ⟨3, 0x321#32, withFields [(Fd.LINK_L_STATUS_STATE 3, 2), (Fd.LINK_L_CTRL_RATE 3, 2), (Fd.LINK_L_CTRL_EN 3, 1)], by decide +kernel⟩

theorem witness_LinkConfigurationRefused_b :
    ∃ (l : Fin 4) (v : Word) (s : State), s.linkState l ≠ 0 ∧ s.linkState l ≠ 3 ∧ v.getLsbD 2 = true :=
  ⟨3, 0x3F#32, withFields [(Fd.LINK_L_STATUS_STATE 3, 2)], by decide +kernel⟩

theorem witness_ShadowPeriodClamp_a1 :
    ∃ (c : Fin 8) (s : State), s.pwm.carriers[c].run = true ∧ s.pwmRuns = true ∧ (s.get Fd.PWM_LOADALL_ALL).testBit c.val = true ∧
      s.get (Fd.PWM_C_CFG_LDPT c) ≠ 1 ∧ s.pwm.carriers[c].armedAt + 120 ≤ s.now ∧ s.pwm.carriers[c].tau = s.period c :=
  ⟨7, { withFields [(Fd.PLL_STATUS_SYNCLOCK, 1), (Fd.PWM_C_ACTPER_PER 7, 32000), (Fd.PWM_C_PER_PER 7, 31999), (⟨Reg.PWM_LOADALL, 7, 1⟩, 1)] with pwm := { carriers := Vector.replicate 8 { run := true, tau := 32000 } }, now := 1000 }, by decide +kernel⟩

theorem witness_ShadowPeriodClamp_a2 :
    ∃ (c : Fin 8) (s : State), s.pwm.carriers[c].run = true ∧ s.pwmRuns = true ∧ (s.get Fd.PWM_LOADALL_ALL).testBit c.val = true ∧
      s.get (Fd.PWM_C_CFG_LDPT c) ≠ 1 ∧ s.pwm.carriers[c].armedAt + 120 ≤ s.now ∧ s.pwm.carriers[c].tau = s.period c :=
  ⟨0, { withFields [(Fd.PLL_STATUS_SYNCLOCK, 1), (Fd.PWM_C_ACTPER_PER 0, 32000), (Fd.PWM_C_PER_PER 0, 0x40000001), (⟨Reg.PWM_LOADALL, 0, 1⟩, 1)] with pwm := { carriers := Vector.replicate 8 { run := true, tau := 32000 } }, now := 1000 }, by decide +kernel⟩

theorem witness_ShadowPeriodClamp_b :
    ∃ (c : Fin 8) (s : State), s.pwm.carriers[c].run = true ∧ s.pwmRuns = true ∧ s.pwm.carriers[c].peaked = false ∧
      (s.get Fd.PWM_LOADALL_ALL).testBit c.val = true ∧ s.get (Fd.PWM_C_CFG_LDPT c) ≠ 0 ∧ s.pwm.carriers[c].armedAt + 120 ≤ s.now ∧
      s.pwm.carriers[c].tau = s.half c :=
  ⟨7, { withFields [(Fd.PLL_STATUS_SYNCLOCK, 1), (Fd.PWM_C_ACTPER_PER 7, 32000), (Fd.PWM_C_PER_PER 7, 31999), (Fd.PWM_C_CFG_LDPT 7, 1), (⟨Reg.PWM_LOADALL, 7, 1⟩, 1)] with pwm := { carriers := Vector.replicate 8 { run := true, tau := 16000 } }, now := 1000 }, by decide +kernel⟩

end Sys2Proof.Tests
end

/-! SUPPORT. Register accesses (R7, R8, R507): a read of a SENT counter lets a write that is due land. -/
namespace Sys2Proof.Machine

/-- SENT_LCUT has been written after reset, and a pulse of 100 µs on SRST_N has followed: the write's 61.0 µs are over, and it
takes effect at the next access to the sentinel (R474). -/
def lcutWriteDue : State :=
  ((State.reset.regWrite Reg.SENT_LCUT 3000).safeRun State.safeResetStart).safeRun fun s => s.safeResetRise 100 true

/-- The machine reaches that state from reset. -/
theorem run_reaches_lcutWriteDue :
    core.run 3 { State.reset with pending := [.registerWrite (BitVec.ofNat 32 Reg.SENT_LCUT) 3000, .safeResetPulseStart,
      .safeResetProcedure 100 true] } = .next lcutWriteDue := by
  rfl

/-- The value handed back changes no register. -/
@[simp] theorem State.answer_rd (s : State) (v a : Nat) : (s.answer v).rd a = s.rd a := rfl

/-- A read of a counter answers with what `State.regRead` reads. -/
theorem exec_counterReadClear (a : Word) (s : State) (h : isReg a.toNat = true) :
    exec (.counterReadClear a) s = .next ((s.regRead a.toNat).2.answer (s.regRead a.toNat).1) := by
  change execCounterReadClear a s = _
  rw [execCounterReadClear, if_pos h]

/-- The first saturating counter of SENT. -/
def sentCounter : Word := 0x40100040

/-- Reading the counter lets the write of SENT_LCUT land: LCUT goes from its reset value to 3000. -/
theorem lcut_after_sentCounter_read :
    lcutWriteDue.rd Reg.SENT_LCUT = 2500 ∧ (lcutWriteDue.regRead sentCounter.toNat).2.rd Reg.SENT_LCUT = 3000 := by
  decide +kernel

/-- Refutes O7: the clause of the saturating counters lets no other register change, and it lacks the premise
`State.settled` (R474). Where a posted write of SENT is due, the read of a SENT counter is the access at which that write
takes effect, so SENT_LCUT changes beside the counter that was read. -/
theorem not_registerAccesses : ¬ Obligations.RegisterAccesses := by
  unfold Obligations.RegisterAccesses
  rintro ⟨-, hclear, -⟩
  obtain ⟨r, hr, hrd⟩ : ∃ r, regRow sentCounter.toNat = some r ∧ r.rd = .clear := ⟨_, rfl, rfl⟩
  have hreg : isReg sentCounter.toNat = true := by decide +kernel
  have hacts : lcutWriteDue.readActs sentCounter.toNat = none := by decide +kernel
  have hshown : lcutWriteDue.shown sentCounter.toNat = none := by decide +kernel
  obtain ⟨t, ht, -, -, hsame, -⟩ := hclear sentCounter r lcutWriteDue hreg hacts hshown hr hrd
  rw [exec_counterReadClear _ _ hreg] at ht
  cases ht
  have hlcut := hsame Reg.SENT_LCUT (by decide)
  obtain ⟨hbefore, hafter⟩ := lcut_after_sentCounter_read
  rw [State.answer_rd, hafter, hbefore] at hlcut
  exact absurd hlcut (by decide)

end Sys2Proof.Machine

/-! SUPPORT. Issue of an instruction at a reckoner (R133, R164), and stores to its own memory (R135, R144, R145). -/
namespace Sys2Proof.Machine

/-! ### The reckoners among the cores -/

@[simp] theorem coreKind_rkCore (n : Fin 4) : coreKind (rkCore n) = .rk n := by
  revert n; decide

@[simp] theorem State.cycle_rkCore (s : State) (n : Fin 4) : s.cycle (rkCore n) = 32 := by
  have : isRk (rkCore n) = true := by revert n; decide
  simp [State.cycle, this]

theorem extBytes_div_four_sub_one (ext : Option Word) : extBytes ext / 4 - 1 = extCycle ext := by
  cases ext with
  | none => rfl
  | some w => simp [extBytes, extCycle]

/-! ### The state at issue -/

/-- A core at issue: the debug step that it may have been asked for is under way. -/
def Cpu.issued (x : Cpu) : Cpu := { x with step := false }

@[simp] theorem Cpu.issued_gd (x : Cpu) (r : BitVec 4) : x.issued.gd r = x.gd r := rfl
@[simp] theorem Cpu.issued_ga (x : Cpu) (r : BitVec 4) : x.issued.ga r = x.ga r := rfl

/-- The state in which the body of an instruction of core `c` acts: a loop's turn is taken and its issue time has come. -/
def State.atIssue (s : State) (c : Fin 6) : State :=
  (s.cpuM c fun x => x.loopEnd.issued).reachNow (s.issueAt c)

@[simp] theorem State.atIssue_mem (s : State) (c : Fin 6) : (s.atIssue c).mem = s.mem := by
  simp [State.atIssue, State.reachNow]

@[simp] theorem State.atIssue_regs (s : State) (c : Fin 6) : (s.atIssue c).regs = s.regs := by
  simp [State.atIssue, State.reachNow]

theorem Cpu.loopEnd_of_ended_none (x : Cpu) (h : x.ended = none) : x.loopEnd = x := by
  rw [Cpu.loopEnd, h]

/-- Where no loop's body has just ended, the core's registers are those before issue. -/
theorem State.atIssue_cpu_self (s : State) (c : Fin 6) (h : s.cpu[c].ended = none) :
    (s.atIssue c).cpu[c] = s.cpu[c].issued := by
  simp only [State.atIssue, State.reachNow, State.advance_cpu, State.cpuM_cpu, upd_get_self,
    Cpu.loopEnd_of_ended_none _ h]

theorem State.atIssue_cpu_other (s : State) (c j : Fin 6) (h : j ≠ c) : (s.atIssue c).cpu[j] = s.cpu[j] := by
  simp only [State.atIssue, State.reachNow, State.advance_cpu, State.cpuM_cpu, upd_get_other _ _ _ _ h]

/-- A reckoner's fetch depends on its pc and the address of the instruction before. -/
theorem State.fetchFault_rk_congr (s t : State) (n : Fin 4) (len : Nat) (hpc : t.cpu[rkCore n].pc = s.cpu[rkCore n].pc)
    (hprev : t.cpu[rkCore n].prev = s.cpu[rkCore n].prev) : t.fetchFault (rkCore n) len = s.fetchFault (rkCore n) len := by
  simp only [State.fetchFault, coreKind_rkCore, hpc, hprev]

/-- R133, R164: a reckoner's legal instruction that issues has the effect of its body on the state at issue. -/
theorem State.instr_of_issues_rk (s : State) (n : Fin 4) (len k : Nat) (pred : BitVec 4) (body : State → Nat → Eff)
    (h : Issues s (rkCore n) len pred) :
    s.instr (rkCore n) len pred true k body =
      (s.atIssue (rkCore n)).settleEff (rkCore n) len (s.issueAt (rkCore n)) (body (s.atIssue (rkCore n)) (s.issueAt (rkCore n))) := by
  obtain ⟨hcan, hended, hlate, herr, hfetch, hpred⟩ := h
  have hcpu := s.atIssue_cpu_self (rkCore n) hended
  have hfetch' : (s.atIssue (rkCore n)).fetchFault (rkCore n) len = none := by
    rw [s.fetchFault_rk_congr _ n len (by rw [hcpu]; rfl) (by rw [hcpu]; rfl), hfetch]
  have hpred' : predTrue pred (s.atIssue (rkCore n)).cpu[rkCore n].p = true := by rw [hcpu]; exact hpred
  rw [Option.isNone_iff_eq_none] at hlate herr
  unfold State.atIssue Cpu.issued at hfetch' hpred' ⊢
  simp only [State.instr, hcan, hlate, herr, hfetch', coreKind_rkCore, State.shadowEnd, hpred', Bool.not_true, Bool.or_self,
    Bool.false_eq_true, if_false]

/-- What a body leaves of the core's place in the program, with the other cores and the registers of the blocks, is what
`Moves` asks for once the instruction has retired. -/
theorem moves_retire (s u : State) (c : Fin 6) (len k : Nat) (hpc : u.cpu[c].pc = s.cpu[c].pc) (hwait : u.cpu[c].wait = none)
    (hlc : u.cpu[c].lc = s.cpu[c].lc) (hloops : u.cpu[c].loops = s.cpu[c].loops) (hother : ∀ j : Fin 6, j ≠ c → u.cpu[j] = s.cpu[j])
    (hregs : u.regs = s.regs) :
    Moves s (u.cpuM c fun x => x.retire len (s.issueAt c + k * s.cycle c)) c len k := by
  have hself : (u.cpuM c fun x => x.retire len (s.issueAt c + k * s.cycle c)).cpu[c] =
      u.cpu[c].retire len (s.issueAt c + k * s.cycle c) := by simp only [State.cpuM_cpu, upd_get_self]
  refine ⟨?_, ?_, ?_, ?_, ?_, ?_, hregs⟩
  · rw [hself, ← hpc]; rfl
  · rw [hself]; rfl
  · rw [hself]; exact hwait
  · rw [hself]; exact hlc
  · rw [hself]; exact hloops
  · intro j hj
    rw [State.cpuM_cpu, upd_get_other _ _ _ _ hj, hother j hj]

/-! ### The update of a[AB] (R144) -/

/-- Writing address registers leaves the rest of a core. -/
theorem Cpu.updates_eq (l : List (Fin 8 × Word)) (x : Cpu) : ∃ a, x.updates l = { x with a := a } := by
  unfold Cpu.updates
  induction l generalizing x with
  | nil => exact ⟨x.a, rfl⟩
  | cons u l ih =>
    obtain ⟨a, h⟩ := ih { x with a := x.a.set u.1 u.2 }
    exact ⟨a, h⟩

/-- R144: the modes that update a[AB] write it, and no other address register changes. -/
theorem Cpu.updates_update_a (x : Cpu) (f : MForm) (b : Word) (size : Nat) (j : Fin 8) :
    (x.updates (f.update b size)).a[j] = if f.am ≠ 0 ∧ j = f.ab then b + f.off size else x.a[j] := by
  by_cases ham : f.am = 0
  · simp [MForm.update, Cpu.updates, ham]
  · rw [MForm.update, if_neg ham]
    by_cases hj : j = f.ab
    · subst hj
      simpa [Cpu.updates] using fun h => absurd h ham
    · have hv : f.ab.val ≠ j.val := fun e => hj (Fin.ext e.symm)
      simp [Cpu.updates, hj, hv]

/-! ### Stores to a reckoner's own memory -/

/-- R135: a store at issue whose address is in the reckoner's own memory writes that memory and updates a[AB]. -/
theorem State.storeEff_local (s : State) (n : Fin 4) (a size data len : Nat) (upd : List (Fin 8 × Word)) (h : LocalAt n a size) :
    s.storeEff (rkCore n) a size data upd len =
      .done ((s.cpuM (rkCore n) fun x => x.updates upd).memWr a size data) (localCycles n a + (len / 4 - 1)) := by
  obtain ⟨hown, hmapped, halign⟩ := h
  simp only [State.storeEff, halign, coreKind_rkCore, hown, hmapped, ne_eq, not_true_eq_false, if_false, if_true]

/-- R6: two numbers that agree in their `size` low bytes agree in byte `i` of them. -/
theorem byte_eq_extractLsb' (x size i : Nat) (v : BitVec 64) (hi : i < size)
    (h : x % 2 ^ (8 * size) = v.toNat % 2 ^ (8 * size)) : BitVec.ofNat 8 (x / 256 ^ i) = v.extractLsb' (8 * i) 8 := by
  apply BitVec.eq_of_getLsbD_eq
  intro j hj
  have hbit := congrArg (fun y => y.testBit (8 * i + j)) h
  have hin : 8 * i + j < 8 * size := by omega
  simp only [Nat.testBit_mod_two_pow, hin, decide_true, Bool.true_and] at hbit
  rw [show (256 : Nat) ^ i = 2 ^ (8 * i) by rw [Nat.pow_mul]]
  rw [BitVec.getLsbD_ofNat, BitVec.getLsbD_extractLsb', Nat.testBit_div_two_pow, Nat.add_comm j, hbit]
  rfl

/-- A core that can issue waits for nothing. -/
theorem State.wait_of_canIssue (s : State) (c : Fin 6) (h : s.canIssue c = true) : s.cpu[c].wait = none := by
  simp only [State.canIssue, Bool.and_eq_true, Option.isNone_iff_eq_none] at h
  obtain ⟨⟨⟨hwait, -⟩, -⟩, -⟩ := h
  exact hwait

/-- The state that a store of `data` by `f` at core `c` leaves before the instruction retires. -/
def State.stored (s : State) (c : Fin 6) (f : MForm) (size data : Nat) : State :=
  ((s.atIssue c).cpuM c fun x => x.updates (f.update s.cpu[c].a[f.ab] size)).memWr (s.ea c f size) size data

/-- R135, R145: a reckoner's store to its own memory that issues stores and retires. -/
theorem State.storeInstr_local (s : State) (n : Fin 4) (f : MForm) (size : Nat) (data : Cpu → Nat)
    (hissue : Issues s (rkCore n) (extBytes f.ext) f.pred) (hlocal : LocalAt n (s.ea (rkCore n) f size) size) :
    s.storeInstr (rkCore n) f true size data =
      (s.stored (rkCore n) f size (data s.cpu[rkCore n].issued)).cpuM (rkCore n) fun x => x.retire (extBytes f.ext)
        (s.issueAt (rkCore n) + (localCycles n (s.ea (rkCore n) f size) + extCycle f.ext) * s.cycle (rkCore n)) := by
  have ⟨_, hended, _⟩ := hissue
  have hcpu := s.atIssue_cpu_self (rkCore n) hended
  have heff := (s.atIssue (rkCore n)).storeEff_local n _ size (data s.cpu[rkCore n].issued) (extBytes f.ext)
    (f.update s.cpu[rkCore n].a[f.ab] size) hlocal
  rw [extBytes_div_four_sub_one] at heff
  rw [State.storeInstr, State.memInstr, s.instr_of_issues_rk n _ _ _ _ hissue]
  simp only [hcpu, State.cycle_rkCore]
  exact (congrArg _ heff).trans (by simp only [State.settleEff, State.cycle_rkCore, State.stored])

@[simp] theorem State.stored_mem (s : State) (c : Fin 6) (f : MForm) (size data : Nat) :
    (s.stored c f size data).mem = Memory.writeLE s.mem (s.ea c f size) size data := by
  simp [State.stored, State.memWr]

@[simp] theorem State.stored_regs (s : State) (c : Fin 6) (f : MForm) (size data : Nat) :
    (s.stored c f size data).regs = s.regs := by
  simp [State.stored]

theorem State.stored_cpu_self (s : State) (c : Fin 6) (f : MForm) (size data : Nat) (h : s.cpu[c].ended = none) :
    (s.stored c f size data).cpu[c] = s.cpu[c].issued.updates (f.update s.cpu[c].a[f.ab] size) := by
  simp only [State.stored, State.memWr_cpu, State.cpuM_cpu, upd_get_self, s.atIssue_cpu_self c h]

theorem State.stored_cpu_other (s : State) (c j : Fin 6) (f : MForm) (size data : Nat) (h : j ≠ c) :
    (s.stored c f size data).cpu[j] = s.cpu[j] := by
  simp only [State.stored, State.memWr_cpu, State.cpuM_cpu, upd_get_other _ _ _ _ h, s.atIssue_cpu_other c j h]

/-- R135, R144, R145: a reckoner's legal store to its own memory, of a datum whose `size` low bytes are those of `v`. -/
theorem stores_local (s : State) (n : Fin 4) (f : MForm) (size : Nat) (data : Cpu → Nat) (v : BitVec 64) (legal : Bool)
    (hlegal : legal = true) (hissue : Issues s (rkCore n) (extBytes f.ext) f.pred) (hlocal : LocalAt n (s.ea (rkCore n) f size) size)
    (hdata : data s.cpu[rkCore n].issued % 2 ^ (8 * size) = v.toNat % 2 ^ (8 * size)) :
    Stores (.next (s.storeInstr (rkCore n) f legal size data)) s (rkCore n) f (s.ea (rkCore n) f size) size
      (localCycles n (s.ea (rkCore n) f size) + extCycle f.ext) v := by
  rw [hlegal, s.storeInstr_local n f size data hissue hlocal]
  generalize data s.cpu[rkCore n].issued = x at hdata
  have ⟨hcan, hended, _⟩ := hissue
  have hwait := s.wait_of_canIssue (rkCore n) hcan
  have hself := s.stored_cpu_self (rkCore n) f size x hended
  have hother := fun j => s.stored_cpu_other (rkCore n) j f size x
  have ha := s.cpu[rkCore n].issued.updates_update_a f s.cpu[rkCore n].a[f.ab] size
  obtain ⟨a, hupd⟩ := Cpu.updates_eq (f.update s.cpu[rkCore n].a[f.ab] size) s.cpu[rkCore n].issued
  rw [hupd] at hself ha
  have hmoves := moves_retire s _ (rkCore n) (extBytes f.ext) (localCycles n (s.ea (rkCore n) f size) + extCycle f.ext)
    (by rw [hself]; rfl) (by rw [hself]; exact hwait) (by rw [hself]; rfl) (by rw [hself]; rfl) hother (s.stored_regs _ f size x)
  refine ⟨_, rfl, fun i => ?bytes, fun b hb => ?otherBytes, ?_, fun j => ?addressRegisters, ?_, ?_, ?_, hmoves⟩
  case bytes =>
    rw [State.cpuM_mem, State.stored_mem, Memory.read_writeLE_of_inside _ _ _ _ _ i.isLt, byte_eq_extractLsb' x size i v i.isLt hdata]
  case otherBytes => rw [State.cpuM_mem, State.stored_mem, Memory.read_writeLE_of_outside _ _ _ _ _ hb]
  case addressRegisters =>
    rw [State.cpuM_cpu, upd_get_self, hself]
    exact ha j
  all_goals
    rw [State.cpuM_cpu, upd_get_self, hself]
    rfl

/-- R6: a doubleword of two words, the low one first. -/
theorem toNat_append_word (hi lo : Word) : (hi ++ lo).toNat = lo.toNat + 2 ^ 32 * hi.toNat := by
  rw [BitVec.toNat_append, ← Nat.shiftLeft_add_eq_or_of_lt lo.isLt, Nat.shiftLeft_eq]
  omega

/-- Settles O27: each form is a store to the reckoner's own memory (`stores_local`) whose datum has the form's low bytes. -/
theorem localStores : Obligations.LocalStores := by
  unfold Obligations.LocalStores
  refine ⟨?byte, ?half, ?word, ?double, ?address⟩
  case byte =>
    intro n f s hissue hlegal hlocal
    exact stores_local s n f 1 _ _ _ hlegal hissue hlocal (by simp)
  case half =>
    intro n f s hissue hlegal hlocal
    exact stores_local s n f 2 _ _ _ hlegal hissue hlocal (by simp)
  case word =>
    intro n f s hissue hlegal hlocal
    exact stores_local s n f 4 _ _ _ hlegal hissue hlocal (by simp)
  case double =>
    intro n f s hissue hlegal hlocal
    exact stores_local s n f 8 _ _ _ hlegal hissue hlocal (by simp only [Cpu.issued_gd, toNat_append_word])
  case address =>
    intro n f s hissue hlegal hlocal
    exact stores_local s n f 4 _ _ _ hlegal hissue hlocal (by simp)

end Sys2Proof.Machine

/-! SUPPORT. The crossbar (R21, R22): a master that stalls takes a tag that has become free at the next transaction asked for. -/
namespace Sys2Proof.Machine

/-! ### States that a run reaches -/

/-- The run answers a next state that satisfies `P`. -/
def nextSatisfies (o : Result) (P : State → Prop) [DecidablePred P] : Bool :=
  match o with
  | .next t => decide (P t)
  | _ => false

theorem exists_next_of_nextSatisfies {o : Result} {P : State → Prop} [DecidablePred P] (h : nextSatisfies o P = true) :
    ∃ t, o = .next t ∧ P t := by
  cases o with
  | next t => exact ⟨t, rfl, of_decide_eq_true h⟩
  | fault r => exact absurd h Bool.false_ne_true
  | refused r => exact absurd h Bool.false_ne_true

/-! ### A transaction that waits, with a tag free for it -/

/-- R21: what holds of the state that CROSSBAR_TRANSACTION answers. -/
theorem answers_crossbarTransaction_iff (m : Master) (a : Access) (s : State) (P : State → Prop) :
    Answers (.crossbarTransaction m a) s P ↔ P (s.xbarTransaction m a) := by
  have hexec : exec (.crossbarTransaction m a) s = .next (s.xbarTransaction m a) := rfl
  simp [Answers, hexec]

/-- A read of the first word of SRAM. -/
def sramRead : Access := ⟨0x20000000, 2, none⟩

/-- R391, R407: what the lanes bring with the echo of a MARK request. -/
def markEchoLine : LaneBits := (({} : LinkPort).sendUnseq { typ := 8, sub := 1, len := 32, body := 0 }).line

/-- R390: a margin scan without an error. -/
def cleanScan : LaneScan := ⟨Vector.replicate 16 0⟩

/-- R21: the host port's read stalls although a tag is free for it now, and reckoner 0 holds both of its tags. -/
abbrev HostReadWaits (s : State) : Prop :=
  s.pmu.clocksOff = false ∧ s.blockIdle = true ∧ s.freeTag (masterRow (.reckoner 0)) = none ∧
    s.freeTag (masterRow .host) ≠ none ∧ s.xbar.stalled = [(.host, sramRead)]

/-- The machine reaches such a state from reset: link 0 trains and comes up, four far reads of the host port take its four
tags, its read of SRAM stalls, reckoner 0 takes both of its tags, and link 0 is disabled, at which the far reads fail and
their tags are free (R410). Where reckoner 0 then asks for a third transaction, that one stalls and the host port's does not
any more. -/
theorem run_reaches_hostReadWaits :
    ∃ s : State, core.run 25 { State.reset with pending :=
        [.pllLockComplete .sync 0, .linkEnableWrite 0 1] ++ List.replicate 16 (.cellMarkEcho 0 markEchoLine 700) ++
        [.linkTrainingComplete 0 cleanScan cleanScan, .registerWrite (BitVec.ofNat 32 Reg.SYSCFG_HOSTCTL) 1,
          .hostRead 0x84000000 3 false 0, .crossbarTransaction .host sramRead, .crossbarTransaction (.reckoner 0) sramRead,
          .crossbarTransaction (.reckoner 0) sramRead, .linkEnableWrite 0 0] } = .next s ∧
      HostReadWaits s ∧ (s.xbarTransaction (.reckoner 0) sramRead).xbar.stalled = [(.reckoner 0, sramRead)] :=
  exists_next_of_nextSatisfies (by decide +kernel)

/-- Refutes O8: the clause of a stalled transaction keeps everything that stalled before, and it lacks the premise that none
of it can take a tag. Before a transaction is asked for, what waits takes the tags that are free for it (R21, R22), so the
host port's read leaves the queue that reckoner 0's third transaction joins. -/
theorem not_crossbarTransactions : ¬ Obligations.CrossbarTransactions := by
  unfold Obligations.CrossbarTransactions
  rintro ⟨-, hstall, -, -⟩
  obtain ⟨s, -, ⟨hclocks, hblock, hfull, -, hwaits⟩, hafter⟩ := run_reaches_hostReadWaits
  obtain ⟨hqueue, -⟩ := (answers_crossbarTransaction_iff ..).mp
    (hstall (.reckoner 0) sramRead s (by decide) hclocks hfull hblock)
  rw [hafter, hwaits] at hqueue
  exact absurd hqueue (by decide)

end Sys2Proof.Machine

/-! SUPPORT. Writes that cross into the PWM domain (R77), and the addend fraction (R36). -/
namespace Sys2Proof.Machine

/-! ### Writes that cross into the PWM domain (R77) -/

/-- R77: the state in which a write that crosses into the PWM domain acts: two PWM cycles on, or, where it waited, at once. -/
def State.crossed (s : State) : State := if s.landing then s else s.advance 2

theorem State.crossed_of_not_landing (s : State) (h : s.landing = false) : s.crossed = s.advance 2 := by simp [State.crossed, h]

@[simp] theorem State.crossed_mem (s : State) : s.crossed.mem = s.mem := by unfold State.crossed; split <;> simp
@[simp] theorem State.crossed_queue (s : State) : s.crossed.tbl.queue = s.tbl.queue := by unfold State.crossed; split <;> simp

theorem State.landPwm_of_running (s : State) (a : Nat) (v : Word) (f : State → State) (h : s.pwmClk = true) :
    s.landPwm a v f = f s.crossed := if_pos h

theorem State.landPwm_of_stopped (s : State) (a : Nat) (v : Word) (f : State → State) (h : s.pwmClk = false) :
    s.landPwm a v f = { s with parked := s.parked ++ [(a, v)] } := if_neg (by simp [h])

/-! ### The addend fraction (R36) -/

/-- The two's complement code of an integer that a word holds. -/
theorem toInt_ofNat_enc (x : Int) (h1 : -2 ^ 31 ≤ x) (h2 : x < 2 ^ 31) : (BitVec.ofNat 32 (enc 32 x)).toInt = x := by
  have hcode : BitVec.ofNat 32 (enc 32 x) = BitVec.ofInt 32 x := by
    apply BitVec.eq_of_toNat_eq
    simp [enc]
    omega
  rw [hcode]
  exact BitVec.toInt_ofInt_eq_self (by decide) h1 h2

/-- The word that a write of TBL_ADDFRAC leaves there. -/
def addfracWord (v : Word) : Word := BitVec.ofNat 32 (enc 32 (clampFrac v.toInt))

theorem addfracWord_toInt (v : Word) : (addfracWord v).toInt = max (-0x0A3D70A4) (min 0x0A3D70A4 v.toInt) :=
  toInt_ofNat_enc _ (by simp [clampFrac, addLimit]) (by simp [clampFrac, addLimit])

theorem State.addfracWrite_of_follower (s : State) (v : Word) (h : s.follower = true) : s.addfracWrite v = s := if_pos h

theorem State.addfracWrite_of_leader (s : State) (v : Word) (h : s.follower = false) :
    s.addfracWrite v = s.landPwm Reg.TBL_ADDFRAC (addfracWord v) fun s => s.addfracSet (addfracWord v) := if_neg (by simp [h])

theorem State.addfracSet_rd (s : State) (w : Word) (a : Nat) :
    (s.addfracSet w).rd a = if a = Reg.TBL_ADDFRAC then w else s.rd a := by
  rw [State.addfracSet, State.rd_wr, State.tblM_rd]

/-- R36: of the timebase a change of the addend touches the history of its rate alone. -/
theorem State.addfracSet_tbl (s : State) (w : Word) : ∃ ks, (s.addfracSet w).tbl = { s.tbl with knots := ks } := by
  rw [State.addfracSet, State.wr_tbl, State.tblM_tbl]
  exact ⟨_, rfl⟩

@[simp] theorem State.addfracSet_mem (s : State) (w : Word) : (s.addfracSet w).mem = s.mem := by
  rw [State.addfracSet, State.wr_mem, State.tblM_mem]
@[simp] theorem State.addfracSet_now (s : State) (w : Word) : (s.addfracSet w).now = s.now := by
  rw [State.addfracSet, State.wr_now, State.tblM_now]

/-- Settles O10: the write crosses into the PWM domain with the clamped word, whose value is the clamp of the written one. -/
theorem addfracClamp : Obligations.AddfracClamp := by
  unfold Obligations.AddfracClamp
  refine ⟨?running, ?stopped, ?follower⟩
  case running =>
    intro v s hfollower hclk hlanding
    refine ⟨_, rfl, ?_⟩
    rw [s.addfracWrite_of_leader v hfollower, s.landPwm_of_running _ _ _ hclk, s.crossed_of_not_landing hlanding]
    refine ⟨?_, ?_, ?_⟩
    · rw [State.addfracSet_rd, if_pos rfl, addfracWord_toInt]
    · intro a ha
      rw [State.addfracSet_rd, if_neg (by simpa using ha), State.advance_rd]
    · obtain ⟨ks, htbl⟩ := (s.advance 2).addfracSet_tbl (addfracWord v)
      rw [htbl]
      simp
  case stopped =>
    intro v s hfollower hclk hparked
    refine ⟨_, rfl, ?_⟩
    rw [s.addfracWrite_of_leader v hfollower, s.landPwm_of_stopped _ _ _ hclk, hparked]
    exact ⟨⟨addfracWord v, addfracWord_toInt v, rfl⟩, rfl, rfl, rfl, rfl⟩
  case follower =>
    intro v s hfollower
    exact congrArg Host.Outcome.next (s.addfracWrite_of_follower v hfollower)

end Sys2Proof.Machine

/-! SUPPORT. The launch queue (R45–R48): what a push, a firing, a cancel and a flush do to the entries, and what QSTATUS shows. -/
namespace Sys2Proof.Machine

/-! ### Vectors, fields and flags -/

theorem set_get_self {α : Type} {n : Nat} (v : Vector α n) (i : Fin n) (x : α) : (v.set i x)[i] = x := by simp

theorem set_get_other {α : Type} {n : Nat} (v : Vector α n) (i j : Fin n) (x : α) (h : j ≠ i) : (v.set i x)[j] = v[j] := by
  have : i.val ≠ j.val := fun e => h (Fin.ext e.symm)
  simp [this]

theorem State.get_sat16_other (s : State) (a : Nat) (f : Fld) (h : f.addr ≠ a) : (s.sat16 a).get f = s.get f := by
  unfold State.get State.rdN
  rw [State.rd_sat16_other _ _ _ h]

/-- A setting event leaves every field beside the flag and outside the flag's counter. -/
theorem State.get_raise_other (s : State) (e : EvFlag) (f : Fld) (hbit : e.bit < 32)
    (hflag : f.addr ≠ e.addr ∨ f.lo + f.w ≤ e.bit ∨ e.bit + 1 ≤ f.lo) (hcnt : f.addr ≠ e.cnt) :
    (s.raise e).get f = s.get f := by
  rw [State.raise, State.get_sat16_other _ _ _ hcnt]
  exact s.get_put_other ⟨e.addr, e.bit, 1⟩ f 1 hbit hflag

theorem State.get_raiseIf_other (s : State) (b : Bool) (e : EvFlag) (f : Fld) (hbit : e.bit < 32)
    (hflag : f.addr ≠ e.addr ∨ f.lo + f.w ≤ e.bit ∨ e.bit + 1 ≤ f.lo) (hcnt : f.addr ≠ e.cnt) :
    (s.raiseIf b e).get f = s.get f := by
  unfold State.raiseIf
  split
  · exact s.get_raise_other e f hbit hflag hcnt
  · rfl

theorem State.rd_raiseIf_other (s : State) (b : Bool) (e : EvFlag) (a : Nat) (h1 : a ≠ e.addr) (h2 : a ≠ e.cnt) :
    (s.raiseIf b e).rd a = s.rd a := by
  unfold State.raiseIf
  split
  · exact s.rd_raise_other e a h1 h2
  · rfl

theorem Fld.ok_of_le {f : Fld} (h : f.lo + f.w ≤ 32) : f.ok := h

/-! ### Suppression (R58) -/

/-- R58: whether launches are suppressed rests on the warning, the cores' halts and three fields. -/
theorem State.suppressed_congr {s t : State} (hcpu : t.cpu = s.cpu) (hpmu : t.pmu = s.pmu)
    (hstop : t.get Fd.TBL_CTRL_DBGSTOP = s.get Fd.TBL_CTRL_DBGSTOP) (hhold : t.get Fd.TBL_STATUS_HOLD = s.get Fd.TBL_STATUS_HOLD)
    (hsel : t.get Fd.SYSCFG_DBGSEL_SEL = s.get Fd.SYSCFG_DBGSEL_SEL) : t.suppressed = s.suppressed := by
  simp only [State.suppressed, State.selHalted, State.on, hcpu, hpmu, hstop, hhold, hsel]

@[simp] theorem State.advance_suppressed (s : State) (k : Nat) : (s.advance k).suppressed = s.suppressed :=
  State.suppressed_congr (by simp) (by simp) (by simp) (by simp) (by simp)

/-! ### What the queue's registers show -/

theorem Tbl.level_le (t : Tbl) : t.level ≤ 48 := by
  have h := List.countP_le_length (p := Option.isSome) (l := t.queue.toList)
  rwa [Vector.length_toList] at h

@[simp] theorem State.queueShow_tbl (s : State) : s.queueShow.tbl = s.tbl := by
  rw [State.queueShow, State.putB_tbl, State.put_tbl]
@[simp] theorem State.queueShow_mem (s : State) : s.queueShow.mem = s.mem := by
  rw [State.queueShow, State.putB_mem, State.put_mem]
@[simp] theorem State.queueShow_cpu (s : State) : s.queueShow.cpu = s.cpu := by
  rw [State.queueShow, State.putB_cpu, State.put_cpu]
@[simp] theorem State.queueShow_pmu (s : State) : s.queueShow.pmu = s.pmu := by
  rw [State.queueShow, State.putB_pmu, State.put_pmu]

/-- R45: LEVEL shows the number of armed entries. -/
@[simp] theorem State.queueShow_level (s : State) : s.queueShow.get Fd.TBL_QSTATUS_LEVEL = s.tbl.level := by
  rw [State.queueShow, State.putB, State.get_put_other _ _ _ _ (Fld.ok_of_le (by decide)) (by decide),
    State.get_put _ _ _ (Fld.ok_of_le (by decide))]
  exact Nat.mod_eq_of_lt (Nat.lt_of_le_of_lt s.tbl.level_le (by decide))

/-- A field outside LEVEL and QFULL. -/
theorem State.queueShow_get (s : State) (f : Fld) (hlevel : f.addr ≠ Reg.TBL_QSTATUS)
    (hfull : f.addr ≠ Reg.TBL_STATUS ∨ f.lo + f.w ≤ 9 ∨ 9 + 1 ≤ f.lo) : s.queueShow.get f = s.get f := by
  rw [State.queueShow, State.putB, State.get_put_other _ _ _ _ (Fld.ok_of_le (by decide)) hfull,
    State.get_put_other _ _ _ _ (Fld.ok_of_le (by decide)) (Or.inl hlevel)]

@[simp] theorem State.queueShow_suppressed (s : State) : s.queueShow.suppressed = s.suppressed :=
  State.suppressed_congr (by simp) (by simp) (s.queueShow_get _ (by decide) (by decide)) (s.queueShow_get _ (by decide) (by decide))
    (s.queueShow_get _ (by decide) (by decide))

/-! ### A firing entry (R47) -/

/-- R47: the state in which a firing entry launches its target: the entry has left the queue. -/
def State.queueTaken (s : State) (h : Fin 48) (e : QEntry) : State :=
  ((s.tblM fun t => { t with queue := t.queue.set h none, qfired := t.firedNow + 1, qcycle := t.count }).raiseIf
    (e.late || e.time ≤ s.tbl.prev) Ev.TBL_STATUS_QLATE).queueShow

theorem State.queueFire_eq (s : State) (h : Fin 48) (e : QEntry) :
    ∃ exact', s.queueFire h e = (s.queueTaken h e).launch e.target exact' := ⟨_, rfl⟩

@[simp] theorem State.queueTaken_queue (s : State) (h : Fin 48) (e : QEntry) :
    (s.queueTaken h e).tbl.queue = s.tbl.queue.set h none := by
  rw [State.queueTaken, State.queueShow_tbl, State.raiseIf_tbl, State.tblM_tbl]

@[simp] theorem State.queueTaken_mem (s : State) (h : Fin 48) (e : QEntry) : (s.queueTaken h e).mem = s.mem := by
  rw [State.queueTaken, State.queueShow_mem, State.raiseIf_mem, State.tblM_mem]

theorem State.queueTaken_level (s : State) (h : Fin 48) (e : QEntry) :
    (s.queueTaken h e).get Fd.TBL_QSTATUS_LEVEL = (s.queueTaken h e).tbl.level := by
  rw [State.queueTaken, State.queueShow_level, State.queueShow_tbl]

theorem State.queueTaken_suppressed (s : State) (h : Fin 48) (e : QEntry) : (s.queueTaken h e).suppressed = s.suppressed := by
  rw [State.queueTaken, State.queueShow_suppressed]
  refine State.suppressed_congr (by rw [State.raiseIf_cpu, State.tblM_cpu]) (by rw [State.raiseIf_pmu, State.tblM_pmu]) ?_ ?_ ?_ <;>
    rw [State.get_raiseIf_other _ _ _ _ (by decide) (by decide) (by decide), State.tblM_get]

@[simp] theorem State.queueFire_queue (s : State) (h : Fin 48) (e : QEntry) :
    (s.queueFire h e).tbl.queue = s.tbl.queue.set h none := by
  obtain ⟨x, hx⟩ := s.queueFire_eq h e
  rw [hx, State.launch_queue, State.queueTaken_queue]

@[simp] theorem State.queueFire_mem (s : State) (h : Fin 48) (e : QEntry) : (s.queueFire h e).mem = s.mem := by
  obtain ⟨x, hx⟩ := s.queueFire_eq h e
  rw [hx, State.launch_mem, State.queueTaken_mem]

theorem State.queueFire_level (s : State) (h : Fin 48) (e : QEntry) :
    (s.queueFire h e).get Fd.TBL_QSTATUS_LEVEL = (s.queueFire h e).tbl.level := by
  obtain ⟨x, hx⟩ := s.queueFire_eq h e
  rw [hx, State.launch_get _ _ _ _ (by decide) (by decide), State.queueTaken_level, Tbl.level, Tbl.level, State.launch_queue]

/-- R47: an entry that fires launches its target, unless launches are suppressed. -/
theorem State.queueFire_hasLaunch (s : State) (h : Fin 48) (e : QEntry) (hn : s.suppressed = false) :
    (s.queueFire h e).hasLaunch e.target := by
  obtain ⟨x, hx⟩ := s.queueFire_eq h e
  rw [hx]
  exact State.launch_hasLaunch _ _ _ ((s.queueTaken_suppressed h e).trans hn)

/-- R47: the state in which the queue's first entry fires: its time has come, and fewer than four have fired in the cycle. -/
def State.entryDue (s : State) (e : QEntry) : State :=
  if 4 ≤ (s.reachCount e.time).tbl.firedNow then (s.reachCount e.time).advance 1 else s.reachCount e.time

@[simp] theorem State.entryDue_queue (s : State) (e : QEntry) : (s.entryDue e).tbl.queue = s.tbl.queue := by
  unfold State.entryDue State.reachCount; split <;> simp
@[simp] theorem State.entryDue_mem (s : State) (e : QEntry) : (s.entryDue e).mem = s.mem := by
  unfold State.entryDue State.reachCount; split <;> simp

theorem State.queueEntryFire_of_first (s : State) (h : Fin 48) (e : QEntry) (hfirst : s.tbl.firstEntry = some (h, e))
    (hclk : s.pwmClk = true) : s.queueEntryFire = (s.entryDue e).queueFire h e := by
  simp only [State.queueEntryFire, hfirst, hclk, if_true]
  rfl

/-! ### A push (R45) -/

theorem State.queuePush_of_badTarget (s : State) (h : 111 < s.get Fd.TBL_QTARGET_TARGET) : s.queuePush = s.answer 0xFE := if_pos h

theorem State.queuePush_of_full (s : State) (h : s.get Fd.TBL_QTARGET_TARGET ≤ 111) (hfull : s.tbl.freeHandle = none) :
    s.queuePush = (s.raise Ev.TBL_STATUS_QREF).answer 0xFF := by
  simp only [State.queuePush, if_neg (Nat.not_lt.mpr h), hfull]

/-- R45: the entry that a push arms. -/
def State.pushed (s : State) : QEntry :=
  ⟨s.rdN Reg.TBL_QTIME_LO + 2 ^ 32 * s.rdN Reg.TBL_QTIME_HI, s.get Fd.TBL_QTARGET_TARGET,
    decide (s.rdN Reg.TBL_QTIME_LO + 2 ^ 32 * s.rdN Reg.TBL_QTIME_HI < s.tbl.count)⟩

theorem State.queuePush_of_free (s : State) (h : Fin 48) (htarget : s.get Fd.TBL_QTARGET_TARGET ≤ 111)
    (hfree : s.tbl.freeHandle = some h) :
    s.queuePush = ((s.tblM fun t => { t with queue := t.queue.set h (some s.pushed) }).queueShow).answer h.val := by
  simp only [State.queuePush, if_neg (Nat.not_lt.mpr htarget), hfree]
  rfl

/-! ### A cancel and a flush (R48) -/

theorem State.queueCancel_of_running (s : State) (k : Nat) (hk : k < 48) (hclk : s.pwmClk = true) :
    s.queueCancel k = s.crossed.queueCancelled ⟨k, hk⟩ := by
  rw [State.queueCancel, dif_pos hk, s.landPwm_of_running _ _ _ hclk]

theorem State.queueCancelled_of_empty (s : State) (h : Fin 48) (hq : s.tbl.queue[h] = none) :
    s.queueCancelled h = s.raise Ev.TBL_QSTATUS_CANMISS := by
  simp only [State.queueCancelled, hq]

theorem State.queueCancelled_of_fires (s : State) (h : Fin 48) (e : QEntry) (hq : s.tbl.queue[h] = some e)
    (hfires : s.tbl.firesNow h e = true) : s.queueCancelled h = (s.queueFire h e).raise Ev.TBL_QSTATUS_CANMISS := by
  simp only [State.queueCancelled, hq, hfires, if_true]

theorem State.queueCancelled_of_armed (s : State) (h : Fin 48) (e : QEntry) (hq : s.tbl.queue[h] = some e)
    (hfires : s.tbl.firesNow h e = false) :
    s.queueCancelled h = (s.tblM fun t => { t with queue := t.queue.set h none }).queueShow := by
  simp only [State.queueCancelled, hq, hfires, Bool.false_eq_true, if_false]

theorem State.flag_canmiss (s : State) : (s.raise Ev.TBL_QSTATUS_CANMISS).flag Ev.TBL_QSTATUS_CANMISS = true :=
  s.flag_raise _ (by decide) (by decide)

/-- R48: an armed entry that is cancelled has left the queue, whether it fired or was removed, and LEVEL shows that. -/
theorem State.queueCancelled_leaves (s : State) (h : Fin 48) (e : QEntry) (hq : s.tbl.queue[h] = some e) :
    (s.queueCancelled h).tbl.queue = s.tbl.queue.set h none ∧
      (s.queueCancelled h).get Fd.TBL_QSTATUS_LEVEL = (s.queueCancelled h).tbl.level ∧ (s.queueCancelled h).mem = s.mem := by
  cases hfires : s.tbl.firesNow h e with
  | true =>
    rw [s.queueCancelled_of_fires h e hq hfires, State.raise_tbl, State.raise_mem,
      State.get_raise_other _ _ _ (by decide) (by decide) (by decide)]
    exact ⟨s.queueFire_queue h e, s.queueFire_level h e, s.queueFire_mem h e⟩
  | false =>
    rw [s.queueCancelled_of_armed h e hq hfires, State.queueShow_tbl, State.queueShow_mem, State.queueShow_level, State.tblM_tbl,
      State.tblM_mem]
    exact ⟨rfl, rfl, rfl⟩

/-- With one entry armed at most, every other handle is empty. -/
theorem Tbl.queue_other_of_level_le_one (t : Tbl) (h g : Fin 48) (e : QEntry) (hq : t.queue[h] = some e) (hlevel : t.level ≤ 1)
    (hg : g ≠ h) : t.queue[g] = none := by
  have hzero : (t.queue.set h none).countP Option.isSome = 0 := by
    have hq' : t.queue[h.val].isSome = true := by rw [show t.queue[h.val] = some e from hq]; rfl
    rw [Vector.countP_set h.isLt, if_pos hq', if_neg (by simp), ← Vector.countP_toList]
    exact Nat.sub_eq_zero_of_le hlevel
  have hother := Vector.countP_eq_zero.mp hzero _ (Vector.getElem_mem g.isLt)
  rw [Option.not_isSome_iff_eq_none] at hother
  exact (set_get_other t.queue h g none hg).symm.trans hother

/-- R47: with one entry armed at most, none fires before it. -/
theorem Tbl.firesNow_of_level_le_one (t : Tbl) (h : Fin 48) (e : QEntry) (hq : t.queue[h] = some e) (hlevel : t.level ≤ 1)
    (hdue : e.time ≤ t.count) (hfired : t.firedNow = 0) : t.firesNow h e = true := by
  have hahead : t.aheadOf h e = 0 := by
    rw [Tbl.aheadOf, List.countP_eq_zero]
    intro g _
    by_cases hg : g = h
    · subst hg
      simp [hq]
    · simp [t.queue_other_of_level_le_one h g e hq hlevel hg]
  simp [Tbl.firesNow, hdue, hfired, hahead]

theorem State.queueFlush_of_running (s : State) (hclk : s.pwmClk = true) :
    s.queueFlush = (s.crossed.tblM fun t => { t with queue := Vector.replicate 48 none }).queueShow :=
  s.landPwm_of_running _ _ _ hclk

theorem Tbl.level_of_queue_empty (t : Tbl) (h : t.queue = Vector.replicate 48 none) : t.level = 0 := by
  rw [Tbl.level, h]
  decide

/-- Settles O13: each command is brought to the case of it that the clause names; a cancel that meets its entry's firing finds
the entry alone in the queue, so that it fires in that cycle. -/
theorem launchQueue : Obligations.LaunchQueue := by
  unfold Obligations.LaunchQueue
  refine ⟨?push, ?full, ?badTarget, ?fire, ?cancel, ?cancelFires, ?cancelEmpty, ?flush⟩
  case push =>
    intro h s htarget hfree
    refine ⟨_, congrArg Host.Outcome.next (s.queuePush_of_free h htarget hfree), rfl, ?_⟩
    rw [State.answer_tbl, State.answer_mem, State.queueShow_tbl, State.queueShow_mem, State.tblM_tbl, State.tblM_mem]
    refine ⟨?_, fun k hk => set_get_other _ _ _ _ hk, rfl⟩
    rw [set_get_self]
    rfl
  case full =>
    intro s htarget hfull
    refine ⟨_, congrArg Host.Outcome.next (s.queuePush_of_full htarget hfull), rfl, ?_⟩
    exact ⟨s.flag_raise _ (by decide) (by decide), s.raise_tbl _, s.raise_mem _⟩
  case badTarget =>
    intro s htarget
    exact ⟨_, congrArg Host.Outcome.next (s.queuePush_of_badTarget htarget), rfl, rfl, rfl, rfl⟩
  case fire =>
    intro h e s hfirst hclk
    refine ⟨_, congrArg Host.Outcome.next (s.queueEntryFire_of_first h e hfirst hclk), ?_⟩
    beta_reduce
    rw [State.queueFire_queue, State.queueFire_mem, State.entryDue_queue, State.entryDue_mem]
    exact ⟨set_get_self _ _ _, fun k hk => set_get_other _ _ _ _ hk, rfl⟩
  case cancel =>
    intro k hk e s hq hclk
    refine ⟨_, congrArg Host.Outcome.next (s.queueCancel_of_running _ hk hclk), ?_⟩
    obtain ⟨hqueue, hlevel, hmem⟩ := s.crossed.queueCancelled_leaves ⟨k.toNat, hk⟩ e (by rw [State.crossed_queue]; exact hq)
    rw [hqueue, hmem]
    exact ⟨set_get_self _ (⟨k.toNat, hk⟩ : Fin 48) none, hlevel, s.crossed_mem⟩
  case cancelFires =>
    intro k hk e s hq hclk hlanding hdue hlevel hfired hn
    refine ⟨_, congrArg Host.Outcome.next (s.queueCancel_of_running _ hk hclk), ?_⟩
    have hq' : (s.advance 2).tbl.queue[(⟨k.toNat, hk⟩ : Fin 48)] = some e := by rw [State.advance_queue]; exact hq
    have hlevel' : (s.advance 2).tbl.level ≤ 1 := by rw [Tbl.level, State.advance_queue]; exact hlevel
    have hfires := (s.advance 2).tbl.firesNow_of_level_le_one _ e hq' hlevel' hdue hfired
    rw [s.crossed_of_not_landing hlanding, State.queueCancelled_of_fires _ _ e hq' hfires]
    beta_reduce
    rw [State.raise_tbl, State.raise_mem, State.queueFire_mem, State.advance_mem]
    exact ⟨State.flag_canmiss _, State.queueFire_hasLaunch _ _ e ((s.advance_suppressed 2).trans hn), rfl⟩
  case cancelEmpty =>
    intro k hk s hq hclk hlanding
    refine ⟨_, congrArg Host.Outcome.next (s.queueCancel_of_running _ hk hclk), ?_⟩
    rw [s.crossed_of_not_landing hlanding, State.queueCancelled_of_empty _ _ (by rw [State.advance_queue]; exact hq)]
    exact ⟨State.flag_canmiss _, State.raise_tbl _ _, (State.raise_mem _ _).trans (s.advance_mem 2)⟩
  case flush =>
    intro s hclk
    refine ⟨_, congrArg Host.Outcome.next (s.queueFlush_of_running hclk), ?_⟩
    beta_reduce
    rw [State.queueShow_level, State.queueShow_tbl, State.queueShow_mem, State.tblM_tbl, State.tblM_mem, State.crossed_mem]
    exact ⟨fun k => by simp, Tbl.level_of_queue_empty _ rfl, rfl⟩

end Sys2Proof.Machine

/-! SUPPORT. Software launches, trigger pins and forwarded events (R49, R51, R55), trigger outputs (R54, R56) and the launch
hold (R58). -/
namespace Sys2Proof.Machine

/-! ### Firing sources (R49, R52) -/

/-- R52: a target's source is read from its TBL_TGTSEL. -/
theorem State.selects_congr {s t : State} (g src : Nat) (h : t.rd (Reg.TBL_TGTSEL g) = s.rd (Reg.TBL_TGTSEL g)) :
    t.selects g src = s.selects g src := by
  have hN : t.rdN (Reg.TBL_TGTSEL g) = s.rdN (Reg.TBL_TGTSEL g) := congrArg BitVec.toNat h
  simp only [State.selects, State.on, State.get, Fd.TBL_TGTSEL_EN, Fd.TBL_TGTSEL_SRC, hN]

@[simp] theorem State.advance_selects (s : State) (k g src : Nat) : (s.advance k).selects g src = s.selects g src :=
  State.selects_congr g src (s.advance_rd k _)

/-- Target `g` would be launched if source `src` fired. -/
def State.launchable (s : State) (g src : Nat) : Prop := s.selects g src = true ∧ s.suppressed = false

theorem State.fireNow_hasLaunch (s : State) (g src : Nat) (hg : g < 112) (h : s.launchable g src) : (s.fireNow src).hasLaunch g := by
  obtain ⟨hselects, hn⟩ := h
  exact s.fire_hasLaunch src _ g hg hselects hn

theorem State.fireNow_launchable (s : State) (g src x : Nat) (hg : g < 112) (h : s.launchable g src) :
    (s.fireNow x).launchable g src := by
  unfold State.launchable State.fireNow
  rwa [State.fire_selects _ _ _ _ _ hg, State.fire_suppressed]

theorem State.crossed_launchable (s : State) (g src : Nat) (h : s.launchable g src) : s.crossed.launchable g src := by
  unfold State.crossed State.launchable
  split
  · exact h
  · rwa [State.advance_selects, State.advance_suppressed]

/-! ### Software launches (R49) -/

@[simp] theorem State.swlFire_mem (s : State) (v : Nat) : (s.swlFire v).mem = s.mem := by
  unfold State.swlFire
  refine foldl_same (fun s : State => s.mem) _ (fun s i => ?_) _ s
  split
  · exact s.fire_mem _ _
  · rfl

/-- R49: each bit set fires its source: what selects source 84 + i is launched. -/
theorem State.swlFire_hasLaunch (s : State) (v i g : Nat) (hi : i < 16) (hv : v.testBit i = true) (hg : g < 112)
    (h : s.launchable g (84 + i)) : (s.swlFire v).hasLaunch g := by
  unfold State.swlFire
  refine foldl_brings (fun s => s.hasLaunch g) (fun s => s.launchable g (84 + i)) _ ?stays ?keeps _ i (List.mem_range.mpr hi)
    ?brings s h
  case stays =>
    intro s x hs
    split
    · exact s.fireNow_launchable g _ _ hg hs
    · exact hs
  case keeps =>
    intro s x hs
    split
    · exact s.fire_keeps _ _ g hs
    · exact hs
  case brings =>
    intro s hs
    rw [if_pos hv]
    exact s.fireNow_hasLaunch g _ hg hs

/-! ### Trigger pins (R55) -/

/-- A bit that is set or cleared by a mask reads so. -/
theorem getLsbD_setOrClear (x : BitVec 8) (i : Fin 8) (b : Bool) :
    (if b then x ||| (1#8 <<< i.val) else x &&& ~~~(1#8 <<< i.val)).getLsbD i.val = b := by
  have hi := i.isLt
  cases b <;> simp [hi]

/-- The state in which pin `i` has taken its new level, and its stamp the count at the edge. -/
def State.trginTaken (s : State) (i : Fin 8) (rising : Bool) : State :=
  (s.tblM fun t => { t with trgin := if rising then t.trgin ||| (1#8 <<< i.val) else t.trgin &&& ~~~(1#8 <<< i.val) }).setStamp
    (Reg.TBL_TRGIN_STAMP_LO i) (enc 64 ((s.tbl.count : Int) - 40 * (s.get (Fd.TBL_TRGIN_CFG_FILT i) + 2)))

/-- The state in which an accepted edge of pin `i` fires its source: the flag is set, if the pin asks for it. -/
def State.trginRaised (s : State) (i : Fin 8) (rising : Bool) : State :=
  (s.trginTaken i rising).raiseIf ((s.trginTaken i rising).on (Fd.TBL_TRGIN_CFG_IRQ i)) Ev.TBL_STATUS_TRGIN

theorem State.trginEdge_of_rejected (s : State) (i : Fin 8) (rising : Bool) (held : Nat)
    (h : held < s.get (Fd.TBL_TRGIN_CFG_FILT i) ∨ s.pwmClk = false) : s.trginEdge i rising held = s := by
  unfold State.trginEdge
  refine if_pos (Or.inr (h.imp_right fun hclk => ?_))
  simp [hclk]

theorem State.trginEdge_of_accepted (s : State) (i : Fin 8) (rising : Bool) (held : Nat)
    (hlevel : s.tbl.trgin.getLsbD i.val = !rising) (hclk : s.pwmClk = true) (hheld : s.get (Fd.TBL_TRGIN_CFG_FILT i) ≤ held)
    (hedge : (s.get (Fd.TBL_TRGIN_CFG_EDGE i)).testBit (if rising then 0 else 1) = true) :
    s.trginEdge i rising held = (s.trginRaised i rising).fireNow (16 + i) := by
  have hnot : ¬(s.tbl.trgin.getLsbD i.val = rising ∨ held < s.get (Fd.TBL_TRGIN_CFG_FILT i) ∨ (!s.pwmClk) = true) := by
    rw [hlevel, hclk]
    simp [hheld]
  unfold State.trginEdge
  rw [if_neg hnot]
  have hpick : (if rising then (s.get (Fd.TBL_TRGIN_CFG_EDGE i)).testBit 0 else (s.get (Fd.TBL_TRGIN_CFG_EDGE i)).testBit 1) = true := by
    cases rising <;> exact hedge
  simp only [State.tblM_get, State.tblM_tbl, hpick, if_true]
  rfl

theorem State.rd_setStamp_other (s : State) (lo v a : Nat) (h : a ≠ lo) : (s.setStamp lo v).rd a = s.rd a :=
  (s.rd_wr lo a _).trans (if_neg h)

@[simp] theorem State.trginTaken_mem (s : State) (i : Fin 8) (rising : Bool) : (s.trginTaken i rising).mem = s.mem := by
  rw [State.trginTaken, State.setStamp_mem, State.tblM_mem]
@[simp] theorem State.trginTaken_cpu (s : State) (i : Fin 8) (rising : Bool) : (s.trginTaken i rising).cpu = s.cpu := by
  rw [State.trginTaken, State.setStamp_cpu, State.tblM_cpu]
@[simp] theorem State.trginTaken_pmu (s : State) (i : Fin 8) (rising : Bool) : (s.trginTaken i rising).pmu = s.pmu := by
  rw [State.trginTaken, State.setStamp_pmu, State.tblM_pmu]

theorem State.trginTaken_level (s : State) (i : Fin 8) (rising : Bool) : (s.trginTaken i rising).tbl.trgin.getLsbD i.val = rising := by
  rw [State.trginTaken, State.setStamp_tbl, State.tblM_tbl]
  exact getLsbD_setOrClear _ i rising

theorem State.trginTaken_rd (s : State) (i : Fin 8) (rising : Bool) (a : Nat) (h : a ≠ Reg.TBL_TRGIN_STAMP_LO i) :
    (s.trginTaken i rising).rd a = s.rd a := by
  rw [State.trginTaken, State.rd_setStamp_other _ _ _ _ h, State.tblM_rd]

theorem State.trginTaken_get (s : State) (i : Fin 8) (rising : Bool) (f : Fld) (h : f.addr ≠ Reg.TBL_TRGIN_STAMP_LO i) :
    (s.trginTaken i rising).get f = s.get f := by
  unfold State.get State.rdN
  rw [State.trginTaken_rd _ _ _ _ h]

/-- An edge of a trigger pin changes nothing that a launch rests on. -/
theorem State.trginRaised_launchable (s : State) (i : Fin 8) (rising : Bool) (g src : Nat) (hg : g < 112) (h : s.launchable g src) :
    (s.trginRaised i rising).launchable g src := by
  have hselects : (s.trginRaised i rising).selects g src = s.selects g src := by
    refine State.selects_congr g src ?_
    rw [State.trginRaised, State.rd_raiseIf_other _ _ _ _ (by simp [Reg.TBL_TGTSEL, Ev.TBL_STATUS_TRGIN, Reg.TBL_STATUS]; omega)
      (by simp [Reg.TBL_TGTSEL, Ev.TBL_STATUS_TRGIN]; omega)]
    exact s.trginTaken_rd i rising _ (by simp [Reg.TBL_TGTSEL, Reg.TBL_TRGIN_STAMP_LO]; omega)
  have hsuppressed : (s.trginRaised i rising).suppressed = s.suppressed := by
    refine State.suppressed_congr (by rw [State.trginRaised, State.raiseIf_cpu, State.trginTaken_cpu])
      (by rw [State.trginRaised, State.raiseIf_pmu, State.trginTaken_pmu]) ?_ ?_ ?_ <;>
    rw [State.trginRaised, State.get_raiseIf_other _ _ _ _ (by decide) (by decide) (by decide), State.trginTaken_get] <;>
    simp [Fd.TBL_CTRL_DBGSTOP, Fd.TBL_STATUS_HOLD, Fd.SYSCFG_DBGSEL_SEL, Reg.TBL_CTRL, Reg.TBL_STATUS, Reg.SYSCFG_DBGSEL,
      Reg.TBL_TRGIN_STAMP_LO] <;> omega
  unfold State.launchable
  rwa [hselects, hsuppressed]

/-! ### Launches that reach their target (R54) -/

/-- R54: the state in which the action of launch `l` to target `t` starts: its delay has passed and it is no longer in flight. -/
def State.launchTaken (s : State) (t : Nat) (l : Launch) : State :=
  (s.reachNow (l.matched + s.launchDelay t)).tblM fun b => { b with inflight := b.inflight.erase l }

@[simp] theorem State.launchTaken_regs (s : State) (t : Nat) (l : Launch) : (s.launchTaken t l).regs = s.regs :=
  s.advance_regs _
@[simp] theorem State.launchTaken_mem (s : State) (t : Nat) (l : Launch) : (s.launchTaken t l).mem = s.mem :=
  s.advance_mem _
@[simp] theorem State.launchTaken_trgout (s : State) (t : Nat) (l : Launch) : (s.launchTaken t l).tbl.trgout = s.tbl.trgout :=
  s.advance_trgout _
@[simp] theorem State.launchTaken_inflight (s : State) (t : Nat) (l : Launch) :
    (s.launchTaken t l).tbl.inflight = s.tbl.inflight.erase l :=
  congrArg (List.erase · l) (s.advance_inflight _)

theorem State.takeLaunch_of_inflight (s : State) (t : Nat) (l : Launch) (f : State → Launch → State) (hl : s.launchOf t = some l)
    (hruns : s.launchRuns t = true) : s.takeLaunch t f = f (s.launchTaken t l) l := by
  simp only [State.takeLaunch, hl, hruns, if_true]
  rfl

theorem State.takeLaunch_of_stopped (s : State) (t : Nat) (f : State → Launch → State) (hruns : s.launchRuns t = false) :
    s.takeLaunch t f = s := by
  unfold State.takeLaunch
  split
  · rfl
  · exact if_neg (by simp [hruns])

theorem State.launchRuns_trgout (s : State) (j : Fin 8) : s.launchRuns (100 + j.val) = s.pwmClk := if_pos (by omega)

/-! ### Trigger outputs (R56) -/

/-- R56: the level that a launch gives a trigger output, by its MODE and the level before. -/
def trgoutLevel (mode : Nat) (old : Bool) : Bool := if mode = 0 then true else if mode = 1 then !old else mode == 2

/-- R56: the width of the pulse that a launch starts, in PWM cycles; none where the pin's MODE gives no pulse. -/
def State.trgoutPulse (s : State) (j : Fin 8) : Option Nat :=
  if s.get (Fd.TBL_TRGOUT_CFG_MODE j) = 0 then some (max 1 (s.get (Fd.TBL_TRGOUT_CFG_WIDTH j))) else none

@[simp] theorem State.trgoutSet_level (s : State) (j : Fin 8) (b : Bool) : (s.trgoutSet j b).tbl.trgout.getLsbD j.val = b :=
  getLsbD_setOrClear s.tbl.trgout j b

@[simp] theorem State.trgoutSet_pulse (s : State) (j : Fin 8) (b : Bool) : (s.trgoutSet j b).tbl.pulse = s.tbl.pulse := rfl
@[simp] theorem State.trgoutSet_inflight (s : State) (j : Fin 8) (b : Bool) : (s.trgoutSet j b).tbl.inflight = s.tbl.inflight := rfl
@[simp] theorem State.trgoutSet_regs (s : State) (j : Fin 8) (b : Bool) : (s.trgoutSet j b).regs = s.regs := rfl
@[simp] theorem State.trgoutSet_mem (s : State) (j : Fin 8) (b : Bool) : (s.trgoutSet j b).mem = s.mem := rfl
@[simp] theorem State.trgoutSet_now (s : State) (j : Fin 8) (b : Bool) : (s.trgoutSet j b).now = s.now := rfl

/-- R56: a launch sets the pin's pulse, or ends it, and its level. -/
theorem State.trgoutAct_eq (s : State) (j : Fin 8) :
    s.trgoutAct j = (s.tblM fun t => { t with pulse := t.pulse.set j (s.trgoutPulse j) }).trgoutSet j
      (trgoutLevel (s.get (Fd.TBL_TRGOUT_CFG_MODE j)) (s.tbl.trgout.getLsbD j)) := by
  by_cases hmode : s.get (Fd.TBL_TRGOUT_CFG_MODE j) = 0
  · simp only [State.trgoutAct, State.trgoutPulse, trgoutLevel, if_pos hmode]
  · simp only [State.trgoutAct, State.trgoutPulse, trgoutLevel, if_neg hmode]
    split <;> rfl

/-- R56: the state in which the pin acts on launch `l` of target 100 + j: its delay and its 160 tbu have passed. -/
def State.trgoutReached (s : State) (j : Fin 8) (l : Launch) : State := (s.launchTaken (100 + j) l).reachCount (l.exact + 160)

theorem State.trgoutReached_frame (s : State) (j : Fin 8) (l : Launch) :
    (s.trgoutReached j l).regs = s.regs ∧ (s.trgoutReached j l).mem = s.mem ∧ (s.trgoutReached j l).tbl.trgout = s.tbl.trgout ∧
      (s.trgoutReached j l).tbl.inflight = s.tbl.inflight.erase l := by
  unfold State.trgoutReached State.reachCount
  simp

/-- R56: a launch of target 100 + j in flight acts on the pin. -/
theorem exec_trgoutLaunch_of_inflight (s : State) (j : Fin 8) (l : Launch) (hl : s.launchOf (100 + j.val) = some l)
    (hclk : s.pwmClk = true) :
    exec (.trgoutLaunch j) s = .next ((s.trgoutReached j l).trgoutAct j) :=
  congrArg Host.Outcome.next (s.takeLaunch_of_inflight _ l _ hl ((s.launchRuns_trgout j).trans hclk))

theorem State.trgoutPulseEnd_of_running (s : State) (j : Fin 8) (w : Nat) (hw : s.tbl.pulse[j] = some w) (hclk : s.pwmClk = true) :
    s.trgoutPulseEnd j = ((s.advance w).tblM fun t => { t with pulse := t.pulse.set j none }).trgoutSet j false := by
  simp only [State.trgoutPulseEnd, hw, hclk, or_true, if_true]

/-! ### Forwarded events (R51) -/

theorem State.forwardedEventFire_of_late (s : State) (l : Fin 4) (c : Fin 8) (e : FwdEvent)
    (he : firstFwd (24 + 8 * l.val + c.val) s.tbl.fwdIn = some e) (hlate : e.late = true) (hclk : s.pwmClk = true) :
    s.forwardedEventFire l c = (s.tblM fun t => { t with fwdIn := t.fwdIn.erase e }).fire e.src s.tbl.count := by
  simp only [State.forwardedEventFire, he, hlate, hclk, if_true]
  rfl

/-! ### The hold of launches (R58) -/

theorem State.launchHoldResume_of_locked (s : State) (h : s.on Fd.PLL_STATUS_SYNCLOCK = true) :
    s.launchHoldResume = s.put Fd.TBL_STATUS_HOLD 0 := if_pos h

/-- Settles O14: a source that fires launches what selects it (`State.fire_hasLaunch`), where what comes before the firing
leaves the selections and the suppression as they were; the outputs and the hold are equations of their commands. -/
theorem launchSourcesAndTriggers : Obligations.LaunchSourcesAndTriggers := by
  unfold Obligations.LaunchSourcesAndTriggers
  refine ⟨?software, ?pin, ?pinRejected, ?forwarded, ?output, ?outputStopped, ?pulseEnd, ?resume⟩
  case software =>
    intro v i g s hi hv hg hselects hn hclk
    refine ⟨_, congrArg Host.Outcome.next (s.landPwm_of_running _ _ _ hclk), ?_, ?_⟩
    · exact s.crossed.swlFire_hasLaunch _ i g hi hv hg (s.crossed_launchable g _ ⟨hselects, hn⟩)
    · exact (s.crossed.swlFire_mem _).trans s.crossed_mem
  case pin =>
    intro i rising held g s hlevel hclk hheld hedge hg hselects hn
    refine ⟨_, congrArg Host.Outcome.next (s.trginEdge_of_accepted i rising held hlevel hclk hheld hedge), ?_, ?_, ?_⟩
    · rw [State.fireNow, State.fire_trgin, State.trginRaised, State.raiseIf_tbl]
      exact s.trginTaken_level i rising
    · exact State.fireNow_hasLaunch _ g _ hg (s.trginRaised_launchable i rising g _ hg ⟨hselects, hn⟩)
    · rw [State.fireNow, State.fire_mem, State.trginRaised, State.raiseIf_mem, State.trginTaken_mem]
  case pinRejected =>
    intro i rising held s h
    exact congrArg Host.Outcome.next (s.trginEdge_of_rejected i rising held h)
  case forwarded =>
    intro l c e g s he hlate hclk hg hselects hn
    refine ⟨_, congrArg Host.Outcome.next (s.forwardedEventFire_of_late l c e he hlate hclk), ?_, ?_, ?_⟩
    · exact State.fire_fwdIn _ _ _
    · exact State.fire_hasLaunch _ _ _ g hg hselects hn
    · exact State.fire_mem _ _ _
  case output =>
    intro j l s hl hclk
    refine ⟨_, exec_trgoutLaunch_of_inflight s j l hl hclk, ?_⟩
    obtain ⟨hregs, hmem, htrgout, hinflight⟩ := s.trgoutReached_frame j l
    have hget (f : Fld) : (s.trgoutReached j l).get f = s.get f := by
      simp only [State.get, State.rdN, State.rd, hregs]
    rw [State.trgoutAct_eq, State.trgoutPulse, hget, hget, htrgout, State.trgoutSet_inflight, State.trgoutSet_regs,
      State.trgoutSet_mem, State.trgoutSet_level, State.trgoutSet_pulse, State.tblM_tbl, State.tblM_regs, State.tblM_mem]
    refine ⟨hinflight, hregs, hmem, ?_, set_get_self _ j _⟩
    generalize s.get (Fd.TBL_TRGOUT_CFG_MODE j) = mode
    match mode with
    | 0 | 1 | 2 => rfl
    | n + 3 => simp [trgoutLevel]
  case outputStopped =>
    intro j s hclk
    exact congrArg Host.Outcome.next (s.takeLaunch_of_stopped _ _ ((s.launchRuns_trgout j).trans hclk))
  case pulseEnd =>
    intro j w s hw hclk
    refine ⟨_, congrArg Host.Outcome.next (s.trgoutPulseEnd_of_running j w hw hclk), ?_⟩
    beta_reduce
    rw [State.trgoutSet_level, State.trgoutSet_pulse, State.trgoutSet_now, State.trgoutSet_mem]
    exact ⟨rfl, set_get_self _ j none, s.advance_now w, s.advance_mem w⟩
  case resume =>
    intro s hlock
    refine ⟨_, congrArg Host.Outcome.next (s.launchHoldResume_of_locked hlock), ?_, ?_, ?_, ?_⟩
    · exact s.get_put _ 0 (Fld.ok_of_le (by decide))
    · intro a ha
      exact s.rd_put_other _ 0 a fun h => ha (List.mem_singleton.mpr h)
    · exact s.put_mem _ _
    · exact s.put_tbl _ _

end Sys2Proof.Machine

/-! SUPPORT. The reckoners' tasks: the delivery of a launch (R54, R161, R162), the start actions (R165, R176, R177), what RK_STATUS
shows (R188) and the dispatch (R164). -/
namespace Sys2Proof.Machine

/-! ### Time -/

@[simp] theorem State.advance_rk (s : State) (k : Nat) : (s.advance k).rk = s.rk := by
  obtain ⟨b, p, h, -⟩ := s.advance_eq k; rw [h]
@[simp] theorem State.advance_pll (s : State) (k : Nat) : (s.advance k).pll = s.pll := by
  obtain ⟨b, p, h, -⟩ := s.advance_eq k; rw [h]

/-- An event that falls due at `t` occurs at `t` or, if the time has passed it, later. -/
theorem State.le_reachNow_now (s : State) (t : Nat) : t ≤ (s.reachNow t).now := by
  rw [State.reachNow, State.advance_now]
  omega

/-! ### Monitors (R478) -/

/-- What a posted value leaves: all but the monitors' queues. -/
theorem State.monPost_same {β : Type} (g : State → β) (h : ∀ (s : State) m, g { s with mon := m } = g s) (s : State)
    (cls idx : Nat) (x : Int) (t : Nat) : g (s.monPost cls idx x t) = g s := by
  unfold State.monPost
  split
  · rfl
  · refine foldl_same g _ (fun s k => ?_) _ s
    split
    · exact h s _
    · rfl

@[simp] theorem State.monPost_regs (s : State) (c i : Nat) (x : Int) (t : Nat) : (s.monPost c i x t).regs = s.regs :=
  State.monPost_same _ (fun _ _ => rfl) s c i x t
@[simp] theorem State.monPost_mem (s : State) (c i : Nat) (x : Int) (t : Nat) : (s.monPost c i x t).mem = s.mem :=
  State.monPost_same _ (fun _ _ => rfl) s c i x t
@[simp] theorem State.monPost_now (s : State) (c i : Nat) (x : Int) (t : Nat) : (s.monPost c i x t).now = s.now :=
  State.monPost_same _ (fun _ _ => rfl) s c i x t
@[simp] theorem State.monPost_cpu (s : State) (c i : Nat) (x : Int) (t : Nat) : (s.monPost c i x t).cpu = s.cpu :=
  State.monPost_same _ (fun _ _ => rfl) s c i x t

/-! ### What RK_STATUS shows (R188) -/

/-- R188: the pending slots as a mask. -/
def Rk.pendMask (r : Rk) : Nat := (List.finRange 8).foldl (fun (a : Nat) (k : Fin 8) => a + r.pend[k].isSome.toNat * 2 ^ k.val) 0

theorem Rk.pendMask_eq_ofBits (r : Rk) : r.pendMask = Nat.ofBits fun k : Fin 8 => r.pend[k].isSome := by
  simp [Rk.pendMask, Nat.ofBits, List.finRange, Fin.foldr, Fin.foldr.loop, List.ofFn]
  omega

theorem Rk.testBit_pendMask (r : Rk) (k : Fin 8) : r.pendMask.testBit k.val = r.pend[k].isSome := by
  rw [r.pendMask_eq_ofBits, Nat.testBit_ofBits_lt _ _ k.isLt]

/-- A field reads as it was set. -/
theorem State.get_put_field (s : State) (a lo w v : Nat) (h : lo + w ≤ 32) : (s.put ⟨a, lo, w⟩ v).get ⟨a, lo, w⟩ = v % 2 ^ w :=
  s.get_put _ v h

/-- A field beside the one that is set, in the same register. -/
theorem State.get_put_beside (s : State) (a lo w v lo' w' : Nat) (h : lo + w ≤ 32) (hd : lo' + w' ≤ lo ∨ lo + w ≤ lo') :
    (s.put ⟨a, lo, w⟩ v).get ⟨a, lo', w'⟩ = s.get ⟨a, lo', w'⟩ := s.get_put_other _ _ v h (Or.inr hd)

/-- R188: SLOT shows the slot of the task, if there is one. -/
def State.showSlot (s : State) (n : Fin 4) (task : Option RkTask) : State :=
  match task with
  | some t => s.put (Fd.SYSCFG_RK_STATUS_SLOT n) t.slot
  | none => s

theorem State.showSlot_get_beside (s : State) (n : Fin 4) (o : Option RkTask) (lo w : Nat) (h : lo + w ≤ 1 ∨ 4 ≤ lo) :
    (s.showSlot n o).get ⟨Reg.SYSCFG_RK_STATUS n, lo, w⟩ = s.get ⟨Reg.SYSCFG_RK_STATUS n, lo, w⟩ := by
  cases o with
  | none => rfl
  | some t => exact s.get_put_beside _ 1 3 _ lo w (by decide) h

theorem State.rkShow_eq (s : State) (n : Fin 4) :
    s.rkShow n = (((s.putB (Fd.SYSCFG_RK_STATUS_RUN n) s.rk[n].task.isSome).put (Fd.SYSCFG_RK_STATUS_PEND n)
      s.rk[n].pendMask).showSlot n s.rk[n].task).putB (Fd.SYSCFG_RK_STATUS_IDLE n) (s.rk[n].task.isNone && s.rk[n].pendMask == 0) := rfl

/-- R188: what no field's setting changes, showing the reckoner's work leaves. -/
theorem State.rkShow_same {β : Type} (g : State → β) (h : ∀ (s : State) (f : Fld) (v : Nat), g (s.put f v) = g s) (s : State)
    (n : Fin 4) : g (s.rkShow n) = g s := by
  rw [State.rkShow_eq, State.putB, h]
  cases s.rk[n].task with
  | none => rw [State.showSlot, h, State.putB, h]
  | some t => rw [State.showSlot, h, h, State.putB, h]

@[simp] theorem State.rkShow_rk (s : State) (n : Fin 4) : (s.rkShow n).rk = s.rk := State.rkShow_same _ (fun _ _ _ => rfl) s n
@[simp] theorem State.rkShow_cpu (s : State) (n : Fin 4) : (s.rkShow n).cpu = s.cpu := State.rkShow_same _ (fun _ _ _ => rfl) s n
@[simp] theorem State.rkShow_mem (s : State) (n : Fin 4) : (s.rkShow n).mem = s.mem := State.rkShow_same _ (fun _ _ _ => rfl) s n
@[simp] theorem State.rkShow_now (s : State) (n : Fin 4) : (s.rkShow n).now = s.now := State.rkShow_same _ (fun _ _ _ => rfl) s n

theorem State.rkShow_get_run (s : State) (n : Fin 4) :
    (s.rkShow n).get (Fd.SYSCFG_RK_STATUS_RUN n) = s.rk[n].task.isSome.toNat := by
  simp only [State.rkShow_eq, State.putB, Fd.SYSCFG_RK_STATUS_RUN, Fd.SYSCFG_RK_STATUS_PEND, Fd.SYSCFG_RK_STATUS_IDLE]
  rw [State.get_put_beside _ _ _ _ _ _ _ (by decide) (by decide), State.showSlot_get_beside _ _ _ _ _ (by decide),
    State.get_put_beside _ _ _ _ _ _ _ (by decide) (by decide), State.get_put_field _ _ _ _ _ (by decide)]
  cases s.rk[n].task.isSome <;> rfl

theorem State.rkShow_get_pend (s : State) (n : Fin 4) :
    (s.rkShow n).get (Fd.SYSCFG_RK_STATUS_PEND n) = s.rk[n].pendMask % 2 ^ 8 := by
  simp only [State.rkShow_eq, State.putB, Fd.SYSCFG_RK_STATUS_RUN, Fd.SYSCFG_RK_STATUS_PEND, Fd.SYSCFG_RK_STATUS_IDLE]
  rw [State.get_put_beside _ _ _ _ _ _ _ (by decide) (by decide), State.showSlot_get_beside _ _ _ _ _ (by decide),
    State.get_put_field _ _ _ _ _ (by decide)]

theorem State.rkShow_get_slot (s : State) (n : Fin 4) (k : RkTask) (h : s.rk[n].task = some k) :
    (s.rkShow n).get (Fd.SYSCFG_RK_STATUS_SLOT n) = k.slot.val := by
  simp only [State.rkShow_eq, State.putB, h, State.showSlot, Fd.SYSCFG_RK_STATUS_SLOT, Fd.SYSCFG_RK_STATUS_IDLE]
  rw [State.get_put_beside _ _ _ _ _ _ _ (by decide) (by decide),
    State.get_put_field _ _ _ _ _ (by decide)]
  exact Nat.mod_eq_of_lt k.slot.isLt

/-- BANK and SWPPEND. -/
theorem State.rkShow_get_bank_fields (s : State) (n : Fin 4) (lo w : Nat) (h1 : 4 ≤ lo) (h2 : lo + w ≤ 8) :
    (s.rkShow n).get ⟨Reg.SYSCFG_RK_STATUS n, lo, w⟩ = s.get ⟨Reg.SYSCFG_RK_STATUS n, lo, w⟩ := by
  simp only [State.rkShow_eq, State.putB, Fd.SYSCFG_RK_STATUS_RUN, Fd.SYSCFG_RK_STATUS_PEND, Fd.SYSCFG_RK_STATUS_IDLE]
  rw [State.get_put_beside _ _ _ _ _ _ _ (by decide) (by omega), State.showSlot_get_beside _ _ _ _ _ (by omega),
    State.get_put_beside _ _ _ _ _ _ _ (by decide) (by omega), State.get_put_beside _ _ _ _ _ _ _ (by decide) (by omega)]

/-! ### The start actions (R165, R168, R176) -/

theorem SameRegistersBut.get {l : List Nat} {s t : State} (h : SameRegistersBut l s t) (f : Fld) (hf : f.addr ∉ l) :
    t.get f = s.get f := by
  simp only [State.get, State.rdN, h f.addr hf]

/-- What neither a flag nor a write of LASTABORT changes, the errors of the gap leave. -/
theorem State.rkGapErrors_same {β : Type} (g : State → β) (n : Fin 4) (hraise : ∀ s : State, g (s.raise (Ev.SYSCFG_RK_FLAGS_EXC n)) = g s)
    (habort : ∀ (s : State) (v : Nat), g (s.wrN (Reg.SYSCFG_RK_LASTABORT n) v) = g s) (s : State) (t : Nat) :
    g (s.rkGapErrors n t) = g (s.rkM n fun r => { r with errors := r.errors.filter fun e => t ≤ e.2 }) := by
  unfold State.rkGapErrors
  exact foldl_same g _ (fun s e => (habort _ _).trans (hraise s)) _ _

@[simp] theorem State.rkGapErrors_mem (s : State) (n : Fin 4) (t : Nat) : (s.rkGapErrors n t).mem = s.mem :=
  State.rkGapErrors_same (fun s => s.mem) n (fun s => s.raise_mem _) (fun s v => s.wrN_mem _ v) s t
@[simp] theorem State.rkGapErrors_now (s : State) (n : Fin 4) (t : Nat) : (s.rkGapErrors n t).now = s.now :=
  State.rkGapErrors_same (fun s => s.now) n (fun s => s.raise_now _) (fun s v => s.wrN_now _ v) s t
@[simp] theorem State.rkGapErrors_cpu (s : State) (n : Fin 4) (t : Nat) : (s.rkGapErrors n t).cpu = s.cpu :=
  State.rkGapErrors_same (fun s => s.cpu) n (fun s => s.raise_cpu _) (fun s v => s.wrN_cpu _ v) s t

theorem State.rkGapErrors_cancelAt (s : State) (n : Fin 4) (t : Nat) : (s.rkGapErrors n t).rk[n].cancelAt = s.rk[n].cancelAt := by
  rw [State.rkGapErrors_same (fun s => s.rk) n (fun s => s.raise_rk _) (fun s v => s.wrN_rk _ v) s t, State.rkM_rk, upd_get_self]

theorem State.rkGapErrors_sameRegistersBut (s : State) (n : Fin 4) (t : Nat) :
    SameRegistersBut [Reg.SYSCFG_RK_FLAGS n, (Ev.SYSCFG_RK_FLAGS_EXC n).cnt, Reg.SYSCFG_RK_LASTABORT n] s (s.rkGapErrors n t) := by
  intro a ha
  simp only [List.mem_cons, List.not_mem_nil, or_false, not_or] at ha
  obtain ⟨hflags, hcnt, habort⟩ := ha
  refine State.rkGapErrors_same (fun s => s.rd a) n (fun s => s.rd_raise_other _ a hflags hcnt) (fun s v => ?_) s t
  exact (s.rd_wr _ a _).trans (if_neg habort)

/-- The registers that the taking of a bank swap changes. -/
def rkSwapRegs (n : Fin 4) : List Nat :=
  [Reg.SYSCFG_RK_STATUS n, Reg.SYSCFG_RK_BANKCTL n, Reg.SYSCFG_RK_FLAGS n, (Ev.SYSCFG_RK_FLAGS_SWAPD n).cnt]

theorem State.rkSwapTake_sameRegistersBut (s : State) (n : Fin 4) (t : Nat) : SameRegistersBut (rkSwapRegs n) s (s.rkSwapTake n t) := by
  intro a ha
  simp only [rkSwapRegs, List.mem_cons, List.not_mem_nil, or_false, not_or] at ha
  obtain ⟨hstatus, hbank, hflags, hcnt⟩ := ha
  rw [State.rkSwapTake, State.rkM_rd, State.rd_raise_other _ _ _ hflags hcnt, State.rd_put_other _ _ _ _ hbank,
    State.rd_put_other _ _ _ _ hstatus, State.rd_put_other _ _ _ _ hstatus]

@[simp] theorem State.rkSwapTake_mem (s : State) (n : Fin 4) (t : Nat) : (s.rkSwapTake n t).mem = s.mem := by
  rw [State.rkSwapTake, State.rkM_mem, State.raise_mem, State.put_mem, State.put_mem, State.put_mem]
@[simp] theorem State.rkSwapTake_now (s : State) (n : Fin 4) (t : Nat) : (s.rkSwapTake n t).now = s.now := by
  rw [State.rkSwapTake, State.rkM_now, State.raise_now, State.put_now, State.put_now, State.put_now]
@[simp] theorem State.rkSwapTake_cpu (s : State) (n : Fin 4) (t : Nat) : (s.rkSwapTake n t).cpu = s.cpu := by
  rw [State.rkSwapTake, State.rkM_cpu, State.raise_cpu, State.put_cpu, State.put_cpu, State.put_cpu]

/-- A field of RK_STATUS, once a swap is taken, is as the setting of SWPPEND and BANK left it. -/
theorem State.rkSwapTake_get_status (s : State) (n : Fin 4) (t lo w : Nat) :
    (s.rkSwapTake n t).get ⟨Reg.SYSCFG_RK_STATUS n, lo, w⟩ = ((s.put (Fd.SYSCFG_RK_STATUS_SWPPEND n) 0).put
      (Fd.SYSCFG_RK_STATUS_BANK n) (1 - s.get (Fd.SYSCFG_RK_STATUS_BANK n))).get ⟨Reg.SYSCFG_RK_STATUS n, lo, w⟩ := by
  have hbank : Reg.SYSCFG_RK_STATUS n ≠ Reg.SYSCFG_RK_BANKCTL n := by simp [Reg.SYSCFG_RK_STATUS, Reg.SYSCFG_RK_BANKCTL]
  have hflags : Reg.SYSCFG_RK_STATUS n ≠ Reg.SYSCFG_RK_FLAGS n := by simp [Reg.SYSCFG_RK_STATUS, Reg.SYSCFG_RK_FLAGS]
  have hcnt : Reg.SYSCFG_RK_STATUS n ≠ (Ev.SYSCFG_RK_FLAGS_SWAPD n).cnt := by
    simp only [Reg.SYSCFG_RK_STATUS, Ev.SYSCFG_RK_FLAGS_SWAPD]
    omega
  have hok : (Fd.SYSCFG_RK_BANKCTL_SWAPCNT n).ok := (by decide : 16 + 16 ≤ 32)
  rw [State.rkSwapTake, State.rkM_get, State.get_raise_other _ _ _ (by decide : 6 < 32) (Or.inl hflags) hcnt,
    State.get_put_other _ _ _ _ hok (Or.inl hbank)]

theorem State.rkSwapTake_swppend (s : State) (n : Fin 4) (t : Nat) : (s.rkSwapTake n t).get (Fd.SYSCFG_RK_STATUS_SWPPEND n) = 0 :=
  calc (s.rkSwapTake n t).get (Fd.SYSCFG_RK_STATUS_SWPPEND n)
    _ = _ := s.rkSwapTake_get_status n t 5 1
    _ = _ := State.get_put_beside _ _ 4 1 _ 5 1 (by decide) (by decide)
    _ = 0 % 2 ^ 1 := s.get_put_field _ 5 1 0 (by decide)

theorem State.rkSwapTake_bank (s : State) (n : Fin 4) (t : Nat) :
    (s.rkSwapTake n t).get (Fd.SYSCFG_RK_STATUS_BANK n) = 1 - s.get (Fd.SYSCFG_RK_STATUS_BANK n) :=
  calc (s.rkSwapTake n t).get (Fd.SYSCFG_RK_STATUS_BANK n)
    _ = _ := s.rkSwapTake_get_status n t 4 1
    _ = (1 - s.get (Fd.SYSCFG_RK_STATUS_BANK n)) % 2 ^ 1 := State.get_put_field _ _ 4 1 _ (by decide)
    _ = _ := Nat.mod_eq_of_lt (by omega)

/-- The state in which a task of reckoner `n` starts at `t`: the errors of the gap are reported, a wanted bank swap is taken. -/
def State.rkPrepared (s : State) (n : Fin 4) (t : Nat) : State :=
  if (s.rkGapErrors n t).on (Fd.SYSCFG_RK_STATUS_SWPPEND n) || (s.rkGapErrors n t).rk[n].cancelAt == some t then
    (s.rkGapErrors n t).rkSwapTake n t
  else s.rkGapErrors n t

@[simp] theorem State.rkPrepared_mem (s : State) (n : Fin 4) (t : Nat) : (s.rkPrepared n t).mem = s.mem := by
  unfold State.rkPrepared; split <;> simp
@[simp] theorem State.rkPrepared_now (s : State) (n : Fin 4) (t : Nat) : (s.rkPrepared n t).now = s.now := by
  unfold State.rkPrepared; split <;> simp
@[simp] theorem State.rkPrepared_cpu (s : State) (n : Fin 4) (t : Nat) : (s.rkPrepared n t).cpu = s.cpu := by
  unfold State.rkPrepared; split <;> simp

/-- A field of RK_STATUS is not one of the registers that the errors of the gap change. -/
theorem State.rkGapErrors_get_status (s : State) (n : Fin 4) (t lo w : Nat) :
    (s.rkGapErrors n t).get ⟨Reg.SYSCFG_RK_STATUS n, lo, w⟩ = s.get ⟨Reg.SYSCFG_RK_STATUS n, lo, w⟩ := by
  refine (s.rkGapErrors_sameRegistersBut n t).get _ ?_
  simp only [List.mem_cons, List.not_mem_nil, or_false, not_or, Reg.SYSCFG_RK_STATUS, Reg.SYSCFG_RK_FLAGS, Ev.SYSCFG_RK_FLAGS_EXC,
    Reg.SYSCFG_RK_LASTABORT]
  omega

/-- R165: the slot's entry is not one of the registers that the start actions change. -/
theorem State.rkPrepared_entry (s : State) (n : Fin 4) (k : Fin 8) (t : Nat) :
    (s.rkPrepared n t).get (Fd.SYSCFG_SLOT_CFG_ENTRY n k) = s.get (Fd.SYSCFG_SLOT_CFG_ENTRY n k) := by
  have hgap : (s.rkGapErrors n t).get (Fd.SYSCFG_SLOT_CFG_ENTRY n k) = s.get (Fd.SYSCFG_SLOT_CFG_ENTRY n k) := by
    refine (s.rkGapErrors_sameRegistersBut n t).get _ ?_
    simp only [List.mem_cons, List.not_mem_nil, or_false, not_or, Fd.SYSCFG_SLOT_CFG_ENTRY, Reg.SYSCFG_SLOT_CFG, Reg.SYSCFG_RK_FLAGS,
      Ev.SYSCFG_RK_FLAGS_EXC, Reg.SYSCFG_RK_LASTABORT]
    omega
  unfold State.rkPrepared
  split
  · refine (((s.rkGapErrors n t).rkSwapTake_sameRegistersBut n t).get _ ?_).trans hgap
    simp only [rkSwapRegs, List.mem_cons, List.not_mem_nil, or_false, not_or, Fd.SYSCFG_SLOT_CFG_ENTRY, Reg.SYSCFG_SLOT_CFG,
      Reg.SYSCFG_RK_STATUS, Reg.SYSCFG_RK_BANKCTL, Reg.SYSCFG_RK_FLAGS, Ev.SYSCFG_RK_FLAGS_SWAPD]
    omega
  · exact hgap

/-- R176: after the start actions no swap is wanted, and the bank has changed if one was. A CANCEL of the same RK cycle is left
out by the premise. -/
theorem State.rkPrepared_bank (s : State) (n : Fin 4) (t : Nat) (hcancel : s.rk[n].cancelAt ≠ some t) :
    (s.rkPrepared n t).get (Fd.SYSCFG_RK_STATUS_SWPPEND n) = 0 ∧
      (s.rkPrepared n t).get (Fd.SYSCFG_RK_STATUS_BANK n) = (if s.on (Fd.SYSCFG_RK_STATUS_SWPPEND n) = true then
        1 - s.get (Fd.SYSCFG_RK_STATUS_BANK n) else s.get (Fd.SYSCFG_RK_STATUS_BANK n)) := by
  have hpend : (s.rkGapErrors n t).get (Fd.SYSCFG_RK_STATUS_SWPPEND n) = s.get (Fd.SYSCFG_RK_STATUS_SWPPEND n) :=
    s.rkGapErrors_get_status n t 5 1
  have hbank : (s.rkGapErrors n t).get (Fd.SYSCFG_RK_STATUS_BANK n) = s.get (Fd.SYSCFG_RK_STATUS_BANK n) :=
    s.rkGapErrors_get_status n t 4 1
  have hwants : ((s.rkGapErrors n t).on (Fd.SYSCFG_RK_STATUS_SWPPEND n) || (s.rkGapErrors n t).rk[n].cancelAt == some t) =
      s.on (Fd.SYSCFG_RK_STATUS_SWPPEND n) := by
    rw [s.rkGapErrors_cancelAt, beq_eq_false_iff_ne.mpr hcancel, Bool.or_false, State.on, State.on, hpend]
  rw [State.rkPrepared, hwants]
  split
  · exact ⟨State.rkSwapTake_swppend _ n t, (State.rkSwapTake_bank _ n t).trans (by rw [hbank])⟩
  · next hoff =>
    refine ⟨hpend.trans ?_, hbank⟩
    simpa [State.on] using hoff

/-! ### The start of a task (R165) -/

/-- R165: a core at the start of a task whose entry is at `pc`; its first instruction may issue at `t`. -/
def Cpu.started (pc : Word) (t : Nat) (c : Cpu) : Cpu :=
  { c with carry := false, loops := Vector.replicate 2 none, pc := pc, prev := pc, ended := none, next := t, wait := none }

/-- R165: a reckoner that has started slot `k` for launch `p` at `t`. -/
def Rk.started (k : Fin 8) (p : RkPend) (t : Nat) (r : Rk) : Rk :=
  { r with task := some ⟨k, p.launch, p.due, t⟩, pend := r.pend.set k none, staged := [], swapWrite := false, tdone := none
           cancelAt := none, abortNow := false }

/-- R165: the address of the first instruction of slot `k`. -/
def State.entryPc (s : State) (n : Fin 4) (k : Fin 8) : Word := BitVec.ofNat 32 (tcmBase n + 4 * s.get (Fd.SYSCFG_SLOT_CFG_ENTRY n k))

/-- The state of a task's start before RK_STATUS shows it. -/
def State.rkBegun (s : State) (n : Fin 4) (k : Fin 8) (p : RkPend) (t : Nat) : State :=
  (((s.rkPrepared n t).cpuM (rkCore n) (Cpu.started (s.entryPc n k) t)).monPost 0 (16 + 8 * n.val + k.val)
    (roundLatency ((t : Int) - p.matched)) (s.rkPrepared n t).tbl.count).rkM n (Rk.started k p t)

theorem State.rkStart_eq (s : State) (n : Fin 4) (k : Fin 8) (p : RkPend) (t : Nat) : s.rkStart n k p t = (s.rkBegun n k p t).rkShow n := by
  rw [State.rkBegun, State.entryPc, ← s.rkPrepared_entry n k t]
  rfl

@[simp] theorem State.rkStart_mem (s : State) (n : Fin 4) (k : Fin 8) (p : RkPend) (t : Nat) : (s.rkStart n k p t).mem = s.mem := by
  rw [State.rkStart_eq, State.rkShow_mem, State.rkBegun, State.rkM_mem, State.monPost_mem, State.cpuM_mem, State.rkPrepared_mem]

@[simp] theorem State.rkStart_now (s : State) (n : Fin 4) (k : Fin 8) (p : RkPend) (t : Nat) : (s.rkStart n k p t).now = s.now := by
  rw [State.rkStart_eq, State.rkShow_now, State.rkBegun, State.rkM_now, State.monPost_now, State.cpuM_now, State.rkPrepared_now]

theorem State.rkStart_cpu (s : State) (n : Fin 4) (k : Fin 8) (p : RkPend) (t : Nat) :
    (s.rkStart n k p t).cpu[rkCore n] = s.cpu[rkCore n].started (s.entryPc n k) t := by
  rw [State.rkStart_eq, State.rkShow_cpu, State.rkBegun, State.rkM_cpu, State.monPost_cpu, State.cpuM_cpu, upd_get_self,
    State.rkPrepared_cpu]

theorem State.rkBegun_rk (s : State) (n : Fin 4) (k : Fin 8) (p : RkPend) (t : Nat) :
    ∃ r : Rk, (s.rkBegun n k p t).rk[n] = r.started k p t := by
  rw [State.rkBegun, State.rkM_rk, upd_get_self]
  exact ⟨_, rfl⟩

theorem State.rkBegun_task (s : State) (n : Fin 4) (k : Fin 8) (p : RkPend) (t : Nat) :
    (s.rkBegun n k p t).rk[n].task = some ⟨k, p.launch, p.due, t⟩ := by
  obtain ⟨r, hr⟩ := s.rkBegun_rk n k p t
  rw [hr, Rk.started]

theorem State.rkStart_task (s : State) (n : Fin 4) (k : Fin 8) (p : RkPend) (t : Nat) :
    (s.rkStart n k p t).rk[n].task = some ⟨k, p.launch, p.due, t⟩ := by
  rw [State.rkStart_eq, State.rkShow_rk, State.rkBegun_task]

theorem State.rkStart_pend (s : State) (n : Fin 4) (k : Fin 8) (p : RkPend) (t : Nat) : (s.rkStart n k p t).rk[n].pend[k] = none := by
  obtain ⟨r, hr⟩ := s.rkBegun_rk n k p t
  rw [State.rkStart_eq, State.rkShow_rk, hr, Rk.started, set_get_self]

theorem State.rkStart_staged (s : State) (n : Fin 4) (k : Fin 8) (p : RkPend) (t : Nat) : (s.rkStart n k p t).rk[n].staged = [] := by
  obtain ⟨r, hr⟩ := s.rkBegun_rk n k p t
  rw [State.rkStart_eq, State.rkShow_rk, hr, Rk.started]

theorem State.rkStart_run (s : State) (n : Fin 4) (k : Fin 8) (p : RkPend) (t : Nat) :
    (s.rkStart n k p t).get (Fd.SYSCFG_RK_STATUS_RUN n) = 1 := by
  rw [State.rkStart_eq, State.rkShow_get_run, State.rkBegun_task]
  rfl

theorem State.rkStart_slot (s : State) (n : Fin 4) (k : Fin 8) (p : RkPend) (t : Nat) :
    (s.rkStart n k p t).get (Fd.SYSCFG_RK_STATUS_SLOT n) = k.val := by
  rw [State.rkStart_eq, State.rkShow_get_slot _ _ _ (s.rkBegun_task n k p t)]

/-- BANK and SWPPEND are those that the start actions leave. -/
theorem State.rkStart_bank_fields (s : State) (n : Fin 4) (k : Fin 8) (p : RkPend) (t lo w : Nat) (h1 : 4 ≤ lo) (h2 : lo + w ≤ 8) :
    (s.rkStart n k p t).get ⟨Reg.SYSCFG_RK_STATUS n, lo, w⟩ = (s.rkPrepared n t).get ⟨Reg.SYSCFG_RK_STATUS n, lo, w⟩ := by
  rw [State.rkStart_eq, State.rkShow_get_bank_fields _ _ _ _ h1 h2]
  simp only [State.get, State.rdN, State.rd, State.rkBegun, State.rkM_regs, State.monPost_regs, State.cpuM_regs]

end Sys2Proof.Machine

/-! SUPPORT. What becomes of a launch that reaches a reckoner (R54, R161, R162), and the dispatch at the end of a gap (R164). -/
namespace Sys2Proof.Machine

theorem State.get_of_regs_eq {s t : State} (h : t.regs = s.regs) (f : Fld) : t.get f = s.get f := by
  simp only [State.get, State.rdN, State.rd, h]

theorem State.on_of_regs_eq {s t : State} (h : t.regs = s.regs) (f : Fld) : t.on f = s.on f := by
  simp only [State.on, State.get_of_regs_eq h f]

/-! ### The delivery (R54, R161) -/

/-- R54, R161: when launch `l` is delivered to a reckoner. -/
def State.rkDeliveryAt (s : State) (l : Launch) : Nat := rkUp (max (l.matched + 208) (s.pll.sysBackAt + 128))

/-- R161: the state in which launch `l` of slot `k` is delivered to reckoner `n`. -/
def State.rkDelivered (s : State) (n : Fin 4) (k : Fin 8) (l : Launch) : State :=
  (s.launchTaken (16 + 8 * n.val + k.val) l).reachNow (s.rkDeliveryAt l)

@[simp] theorem State.rkDelivered_regs (s : State) (n : Fin 4) (k : Fin 8) (l : Launch) : (s.rkDelivered n k l).regs = s.regs :=
  (State.advance_regs _ _).trans (s.launchTaken_regs _ l)
@[simp] theorem State.rkDelivered_mem (s : State) (n : Fin 4) (k : Fin 8) (l : Launch) : (s.rkDelivered n k l).mem = s.mem :=
  (State.advance_mem _ _).trans (s.launchTaken_mem _ l)
@[simp] theorem State.rkDelivered_cpu (s : State) (n : Fin 4) (k : Fin 8) (l : Launch) : (s.rkDelivered n k l).cpu = s.cpu :=
  (State.advance_cpu _ _).trans (s.advance_cpu _)
@[simp] theorem State.rkDelivered_pmu (s : State) (n : Fin 4) (k : Fin 8) (l : Launch) : (s.rkDelivered n k l).pmu = s.pmu :=
  (State.advance_pmu _ _).trans (s.advance_pmu _)
@[simp] theorem State.rkDelivered_rk (s : State) (n : Fin 4) (k : Fin 8) (l : Launch) : (s.rkDelivered n k l).rk = s.rk :=
  (State.advance_rk _ _).trans (s.advance_rk _)

@[simp] theorem State.rkDelivered_on (s : State) (n : Fin 4) (k : Fin 8) (l : Launch) (f : Fld) : (s.rkDelivered n k l).on f = s.on f :=
  State.on_of_regs_eq (s.rkDelivered_regs n k l) f
@[simp] theorem State.rkDelivered_halted (s : State) (n : Fin 4) (k : Fin 8) (l : Launch) :
    (s.rkDelivered n k l).rkHalted n = s.rkHalted n := by
  rw [State.rkHalted, State.rkHalted, State.rkDelivered_cpu]

theorem State.rkDeliveryAt_le_now (s : State) (n : Fin 4) (k : Fin 8) (l : Launch) : s.rkDeliveryAt l ≤ (s.rkDelivered n k l).now :=
  State.le_reachNow_now _ _

theorem State.rkDelivered_due (s : State) (n : Fin 4) (k : Fin 8) (l : Launch) (t : Nat) :
    (s.rkDelivered n k l).rkDue n k t = s.rkDue n k t := by
  simp only [State.rkDue, State.get_of_regs_eq (s.rkDelivered_regs n k l)]

theorem State.launchRuns_rk (s : State) (n : Fin 4) (k : Fin 8) : s.launchRuns (16 + 8 * n.val + k.val) = s.sysPllClk := by
  have h1 : ¬(16 + 8 * n.val + k.val < 16 ∨ 96 ≤ 16 + 8 * n.val + k.val ∧ 16 + 8 * n.val + k.val < 108) := by omega
  have h2 : 16 + 8 * n.val + k.val < 48 ∨ 16 + 8 * n.val + k.val = 94 ∨ 16 + 8 * n.val + k.val = 95 := by omega
  rw [State.launchRuns, if_neg h1, if_pos h2]

/-- R161: a launch in flight to a slot is delivered to its reckoner. -/
theorem exec_reckonerLaunch_of_inflight (s : State) (n : Fin 4) (k : Fin 8) (l : Launch)
    (hl : s.launchOf (16 + 8 * n.val + k.val) = some l) (hclk : s.sysPllClk = true) :
    exec (.reckonerLaunch n k) s = .next ((s.rkDelivered n k l).rkDeliver n k (s.rkDeliveryAt l) l.matched) := by
  have hpll : (s.launchTaken (16 + 8 * n.val + k.val) l).pll = s.pll := s.advance_pll _
  refine congrArg Host.Outcome.next ((s.takeLaunch_of_inflight _ l _ hl ((s.launchRuns_rk n k).trans hclk)).trans ?_)
  rw [hpll]
  rfl

/-! ### What the delivery does (R162) -/

/-- R162: the pending launch that a delivery of slot `k` at `l` makes. -/
def State.rkLaunched (s : State) (n : Fin 4) (k : Fin 8) (l matched : Nat) : RkPend := ⟨l, s.rkDue n k l, matched⟩

theorem State.rkDeliver_of_slotDisabled (s : State) (n : Fin 4) (k : Fin 8) (l matched : Nat) (hwarned : s.pmu.warned = false)
    (hslot : s.on (Fd.SYSCFG_SLOT_CFG_EN n k) = false) : s.rkDeliver n k l matched = s.raise (Ev.SYSCFG_RK_FLAGS_DROP n) := by
  simp only [State.rkDeliver, hwarned, hslot, Bool.not_false, Bool.or_true, Bool.false_eq_true, if_false, if_true]

section Enabled

variable (s : State) (n : Fin 4) (k : Fin 8) (l matched : Nat) (hwarned : s.pmu.warned = false)
  (hen : s.on (Fd.SYSCFG_RK_CTRL_EN n) = true) (hslot : s.on (Fd.SYSCFG_SLOT_CFG_EN n k) = true)
include hwarned hen hslot

theorem State.rkDeliver_of_pending (hpend : s.rk[n].pend[k].isSome = true) :
    s.rkDeliver n k l matched = (s.raise (Ev.SYSCFG_RK_FLAGS_OVR n)).sat16 (Reg.SYSCFG_SLOT_OVRCNT n k) := by
  simp only [State.rkDeliver, hwarned, hen, hslot, hpend, Bool.not_true, Bool.or_self, Bool.false_eq_true, if_false, if_true]

theorem State.rkDeliver_of_idle (hpend : s.rk[n].pend = Vector.replicate 8 none) (htask : s.rk[n].task = none)
    (hfree : s.rk[n].freeAt ≤ l) (hhalted : s.rkHalted n = false) :
    s.rkDeliver n k l matched = s.rkStart n k (s.rkLaunched n k l matched) l := by
  have hempty : (Vector.replicate 8 (none : Option RkPend)).toList.all Option.isNone = true := by decide
  have hnone : (Vector.replicate 8 (none : Option RkPend))[k] = none := by simp
  simp only [State.rkDeliver, hwarned, hen, hslot, hpend, hnone, htask, hfree, hhalted, hempty, Option.isSome_none, Option.isNone_none,
    Bool.not_true, Bool.not_false, Bool.or_self, Bool.and_self, decide_true, Bool.false_eq_true, if_false, if_true]
  rfl

theorem State.rkDeliver_of_busy (hpend : s.rk[n].pend[k] = none) (htask : s.rk[n].task.isSome = true) :
    s.rkDeliver n k l matched =
      (s.rkM n fun r => { r with pend := r.pend.set k (some (s.rkLaunched n k l matched)) }).rkShow n := by
  have hbusy : s.rk[n].task.isNone = false := by rw [← Option.not_isSome, htask]; rfl
  simp only [State.rkDeliver, hwarned, hen, hslot, hpend, hbusy, Option.isSome_none, Bool.not_true, Bool.or_self, Bool.false_and,
    Bool.false_eq_true, if_false]
  rfl

end Enabled

/-! ### The dispatch (R164) -/

/-- R167: where no deadline has come, no pending launch is removed. -/
theorem State.rkExpire_of_none_due (s : State) (n : Fin 4) (t : Nat)
    (h : ∀ j : Fin 8, dueBy (s.rk[n].pend[j].bind (·.due)) t = false) : s.rkExpire n t = s := by
  unfold State.rkExpire
  refine foldl_keeps (fun u => u = s) _ (fun u j hu => ?_) _ s rfl
  subst hu
  have hj := h j
  split
  · next p hp =>
    rw [hp, Option.bind_some] at hj
    rw [if_neg (by simp [hj])]
  · rfl

/-- R164: the lowest pending slot. -/
theorem Rk.find_lowest_pending (r : Rk) (k : Fin 8) (hk : r.pend[k].isSome = true) (hlow : ∀ j : Fin 8, j < k → r.pend[j] = none) :
    ((List.finRange 8).find? fun (j : Fin 8) => r.pend[j].isSome) = some k := by
  rw [List.find?_eq_some_iff_getElem]
  refine ⟨hk, k.val, by simp, by simp, fun j hj => ?_⟩
  have := hlow ⟨j, hj.trans k.isLt⟩ hj
  simp_all

theorem State.rkDispatch_of_pending (s : State) (n : Fin 4) (k : Fin 8) (p : RkPend) (htask : s.rk[n].task = none)
    (hhalted : s.rkHalted n = false) (hclk : s.sysPllClk = true) (hlow : ∀ j : Fin 8, j < k → s.rk[n].pend[j] = none)
    (hp : s.rk[n].pend[k] = some p) (hdue : ∀ j : Fin 8, dueBy (s.rk[n].pend[j].bind (·.due)) s.rk[n].freeAt = false) :
    s.rkDispatch n = (s.reachNow s.rk[n].freeAt).rkStart n k p s.rk[n].freeAt := by
  have hfind := s.rk[n].find_lowest_pending k (by rw [hp]; rfl) hlow
  simp only [State.rkDispatch, htask, hhalted, hclk, s.rkExpire_of_none_due n _ hdue, hfind, hp, Option.isSome_none, Bool.not_true,
    Bool.or_self, Bool.false_eq_true, if_false]

/-! ### The obligation -/

/-- R162: an overrun sets OVR; the slot's own count of overruns stands in another register. -/
theorem State.flag_overrun (s : State) (n : Fin 4) (k : Fin 8) :
    ((s.raise (Ev.SYSCFG_RK_FLAGS_OVR n)).sat16 (Reg.SYSCFG_SLOT_OVRCNT n k)).flag (Ev.SYSCFG_RK_FLAGS_OVR n) = true := by
  have hcount : Reg.SYSCFG_RK_FLAGS n ≠ Reg.SYSCFG_SLOT_OVRCNT n k := by
    simp only [Reg.SYSCFG_RK_FLAGS, Reg.SYSCFG_SLOT_OVRCNT]
    omega
  rw [State.flag, State.on, State.get_sat16_other _ _ _ hcount]
  refine s.flag_raise (Ev.SYSCFG_RK_FLAGS_OVR n) ?_ (by decide : 1 < 32)
  simp only [Ev.SYSCFG_RK_FLAGS_OVR, Reg.SYSCFG_RK_FLAGS]
  omega

theorem State.flag_drop (s : State) (n : Fin 4) :
    (s.raise (Ev.SYSCFG_RK_FLAGS_DROP n)).flag (Ev.SYSCFG_RK_FLAGS_DROP n) = true := by
  refine s.flag_raise (Ev.SYSCFG_RK_FLAGS_DROP n) ?_ (by decide : 5 < 32)
  simp only [Ev.SYSCFG_RK_FLAGS_DROP, Reg.SYSCFG_RK_FLAGS]
  omega

/-- R162, R188: a launch that joins the pending ones shows in PEND. -/
theorem State.rkPend_shows (s : State) (n : Fin 4) (k : Fin 8) (p : RkPend) :
    (((s.rkM n fun r => { r with pend := r.pend.set k (some p) }).rkShow n).get (Fd.SYSCFG_RK_STATUS_PEND n)).testBit k.val = true := by
  rw [State.rkShow_get_pend, Nat.testBit_mod_two_pow, Rk.testBit_pendMask, State.rkM_rk, upd_get_self, set_get_self]
  simp

/-- Settles O35: the delivery of a launch, and the dispatch, are brought to the case that the clause names; a start's effects are
those of `State.rkStart`. -/
theorem taskLaunchAndDispatch : Obligations.TaskLaunchAndDispatch := by
  unfold Obligations.TaskLaunchAndDispatch
  refine ⟨?idle, ?busy, ?overrun, ?disabled, ?dispatch⟩
  case idle =>
    intro n k l T s hl hT hclk hwarned hen hslot hpend htask hfree hhalted
    obtain rfl : T = s.rkDeliveryAt l := hT
    refine ⟨_, exec_reckonerLaunch_of_inflight s n k l hl hclk, ?_⟩
    rw [State.rkDeliver_of_idle _ n k _ _ (by simpa) (by simpa) (by simpa) (by simpa) (by simpa) (by simpa) (by simpa)]
    beta_reduce
    rw [State.rkStart_task, State.rkStart_staged, State.rkStart_run, State.rkStart_slot, State.rkStart_cpu, State.rkStart_now,
      State.rkStart_mem, State.rkDelivered_cpu, State.rkDelivered_mem, State.entryPc, State.get_of_regs_eq (s.rkDelivered_regs n k l),
      State.rkLaunched, s.rkDelivered_due]
    exact ⟨rfl, rfl, rfl, rfl, rfl, rfl, rfl, rfl, s.rkDeliveryAt_le_now n k l, rfl⟩
  case busy =>
    intro n k l T s hl hT hclk hwarned hen hslot hpend htask
    obtain rfl : T = s.rkDeliveryAt l := hT
    refine ⟨_, exec_reckonerLaunch_of_inflight s n k l hl hclk, ?_⟩
    rw [State.rkDeliver_of_busy _ n k _ _ (by simpa) (by simpa) (by simpa) (by simpa) (by simpa)]
    beta_reduce
    rw [State.rkPend_shows, State.rkShow_rk, State.rkShow_cpu, State.rkShow_mem, State.rkM_rk, State.rkM_cpu, State.rkM_mem, upd_get_self,
      set_get_self, State.rkDelivered_rk, State.rkDelivered_cpu, State.rkDelivered_mem, State.rkLaunched, s.rkDelivered_due]
    exact ⟨rfl, rfl, rfl, rfl, rfl⟩
  case overrun =>
    intro n k l s hl hclk hwarned hen hslot hpend
    refine ⟨_, exec_reckonerLaunch_of_inflight s n k l hl hclk, ?_⟩
    rw [State.rkDeliver_of_pending _ n k _ _ (by simpa) (by simpa) (by simpa) (by simpa)]
    refine ⟨State.flag_overrun _ n k, ?_, ?_, ?_⟩ <;> simp
  case disabled =>
    intro n k l s hl hclk hwarned hslot
    refine ⟨_, exec_reckonerLaunch_of_inflight s n k l hl hclk, ?_⟩
    rw [State.rkDeliver_of_slotDisabled _ n k _ _ (by simpa) (by simpa)]
    refine ⟨State.flag_drop _ n, ?_, ?_, ?_⟩ <;> simp
  case dispatch =>
    intro n k p s htask hhalted hclk hcancel hlow hp hdue
    refine ⟨_, congrArg Host.Outcome.next (s.rkDispatch_of_pending n k p htask hhalted hclk hlow hp hdue), ?_⟩
    have hregs : (s.reachNow s.rk[n].freeAt).regs = s.regs := s.advance_regs _
    have hrk : (s.reachNow s.rk[n].freeAt).rk = s.rk := s.advance_rk _
    have hmem : (s.reachNow s.rk[n].freeAt).mem = s.mem := s.advance_mem _
    obtain ⟨hpend, hbank⟩ := (s.reachNow s.rk[n].freeAt).rkPrepared_bank n s.rk[n].freeAt (by rwa [hrk])
    rw [State.on_of_regs_eq hregs, State.get_of_regs_eq hregs] at hbank
    beta_reduce
    rw [State.rkStart_task, State.rkStart_pend, State.rkStart_cpu, State.rkStart_mem, State.entryPc, State.get_of_regs_eq hregs, hmem]
    refine ⟨rfl, rfl, rfl, rfl, ?_, ?_, rfl⟩
    · exact (State.rkStart_bank_fields _ n k p _ 5 1 (by decide) (by decide)).trans hpend
    · exact (State.rkStart_bank_fields _ n k p _ 4 1 (by decide) (by decide)).trans hbank

end Sys2Proof.Machine

/-! SUPPORT. A relock of the system PLL (R65, R67) and the command doubleword of PROBE (R280, R290). -/
namespace Sys2Proof.Machine

/-- R65: what holds of the state that RELOCK_SYS answers. -/
theorem answers_relockSys_iff (s : State) (P : State → Prop) : Answers .relockSys s P ↔ P s.relockSys := by
  have hexec : exec .relockSys s = .next s.relockSys := rfl
  simp [Answers, hexec]

/-- PROBE_STATUS.STATE reads as injecting, in chip 1 of a code period, while PROBE_CFG.EN = 0, so that PROBE does not run (R290,
R292); all else is as after reset. PROBE_CHIP_STEP enters this STATE only while PROBE runs; that no run reaches such a state is not
proved here, and the obligation has no such premise. -/
def injectingWhileOff : State := { State.reset.put Fd.PROBE_STATUS_STATE 2 with probe := { boundary := 1 } }

theorem injectingWhileOff_undisturbed : Undisturbed injectingWhileOff := by decide +kernel

/-- R280: the low byte of the command doubleword's second word, which shows the chip, before the relock. -/
theorem injectingWhileOff_commandByte : Memory.read injectingWhileOff.mem 0x24010004 = 0 := by decide +kernel

/-- R67, R290: the relock stops the clocks of the system PLL, at which an injection stops: its command doubleword, with IQ = 0 and
ACT = 0, shows chip 1. -/
theorem relockSys_injectingWhileOff_commandByte : Memory.read injectingWhileOff.relockSys.mem 0x24010004 = 1 := by decide +kernel

/-- Refutes O15: its first clause has a relock of the system PLL keep memory where `Undisturbed` holds. That asks whether PROBE runs
(`State.probeRuns`), but what stops an injection (`State.probeStop`) looks at PROBE_STATUS.STATE alone and writes the command
doubleword. The premise that STATE is not 2 is missing. -/
theorem not_pllLockAndDividers : ¬ Obligations.PllLockAndDividers := by
  unfold Obligations.PllLockAndDividers
  rintro ⟨hrelock, -⟩
  obtain ⟨-, -, hmem⟩ := (answers_relockSys_iff ..).mp (hrelock injectingWhileOff)
  have hbyte := relockSys_injectingWhileOff_commandByte
  rw [hmem injectingWhileOff_undisturbed, injectingWhileOff_commandByte] at hbyte
  exact absurd hbyte (by decide)

end Sys2Proof.Machine

/-! SUPPORT. What a change of the force lines leaves of the rest of the module (R204–R207): it changes PWM and DRIVE, and aborts the
sweeps that name a forced leg (R270). -/
namespace Sys2Proof.Machine

/-! ### What an observation of the state does not see -/

theorem same_of_ite {σ β : Type} {g : σ → β} {c : Prop} [Decidable c] {s t : σ} (h : g t = g s) : g (if c then t else s) = g s := by
  split
  · exact h
  · rfl

/-- The observation `g` sees neither the registers in `W` nor when a flag was set. -/
structure Blind {β : Type} (W : Nat → Prop) (g : State → β) : Prop where
  wr (s : State) (a : Nat) (v : Word) : W a → g (s.wr a v) = g s
  flags (s : State) (t : Nat) (l m : List (Nat × Nat)) : g { s with setAt := t, setFlags := l, flagSince := m } = g s

section
variable {β : Type} {W : Nat → Prop} {g : State → β} (h : Blind W g)
include h

theorem Blind.mono {V : Nat → Prop} (hv : ∀ a, V a → W a) : Blind V g := ⟨fun s a v ha => h.wr s a v (hv a ha), h.flags⟩

theorem Blind.put (s : State) (f : Fld) (v : Nat) (hf : W f.addr) : g (s.put f v) = g s := h.wr s f.addr _ hf

theorem Blind.sat16 (s : State) (a : Nat) (ha : W a) : g (s.sat16 a) = g s := by
  unfold State.sat16
  split
  · exact h.wr s a _ ha
  · rfl

theorem Blind.setNow (s : State) (e : EvFlag) (he : W e.addr) : g (s.setNow e) = g s :=
  (h.flags _ _ _ _).trans (h.put s ⟨e.addr, e.bit, 1⟩ 1 he)

theorem Blind.raise (s : State) (e : EvFlag) (he : W e.addr) (hc : W e.cnt) : g (s.raise e) = g s :=
  (h.sat16 _ e.cnt hc).trans (h.setNow s e he)

theorem Blind.raiseN (s : State) (e : EvFlag) (k : Nat) (he : W e.addr) (hc : W e.cnt) : g (s.raiseN e k) = g s := by
  unfold State.raiseN
  split
  · rfl
  · exact (h.wr _ e.cnt _ hc).trans (h.setNow s e he)

theorem Blind.raiseIf (s : State) (b : Bool) (e : EvFlag) (he : W e.addr) (hc : W e.cnt) : g (s.raiseIf b e) = g s := by
  unfold State.raiseIf
  split
  · exact h.raise s e he hc
  · rfl

end

/-! ### The legs of PWM (R193, R203, R206) -/

/-- The addresses of PWM's registers and DRIVE's. -/
abbrev InPwm (a : Nat) : Prop := 0x40020000 ≤ a ∧ a < 0x40040000

theorem inPwm_legState (n : Fin 48) : InPwm (Reg.PWM_LEG_STATE n) := by
  simp only [InPwm, Reg.PWM_LEG_STATE]
  omega

/-- The observation `g` sees nothing of PWM's and DRIVE's registers and of the legs. -/
structure PwmBlind {β : Type} (g : State → β) : Prop extends Blind InPwm g where
  legM (s : State) (n : Fin 48) (f : Leg → Leg) : g (s.legM n f) = g s

section
variable {β : Type} {g : State → β} (h : PwmBlind g)
include h

theorem PwmBlind.legState (s : State) (n : Fin 48) (lo w v : Nat) : g (s.put ⟨Reg.PWM_LEG_STATE n, lo, w⟩ v) = g s :=
  h.put s _ v (inPwm_legState n)

theorem PwmBlind.legZero (s : State) (n : Fin 48) (t : Nat) : g (s.legZero n t) = g s := by
  unfold State.legZero
  split
  · exact h.legM s n _
  · rfl

theorem PwmBlind.ballOff (s : State) (n : Fin 48) (high : Bool) (t : Nat) : g (s.ballOff n high t) = g s := by
  unfold State.ballOff
  split
  · exact (h.legM _ n _).trans (h.legState s n _ _ 0)
  · exact (h.legM _ n _).trans ((h.legState _ n _ _ 0).trans (h.legZero s n _))

theorem PwmBlind.ballOn (s : State) (n : Fin 48) (high : Bool) (t : Nat) : g (s.ballOn n high t) = g s := by
  unfold State.ballOn
  split <;> exact (h.legM _ n _).trans (h.legState s n _ _ 1)

theorem PwmBlind.heldShow (s : State) (n : Fin 48) : g (s.heldShow n) = g s := h.legState s n _ _ _

theorem PwmBlind.turnOnAt (s : State) (n : Fin 48) (high dead : Bool) (t : Nat) : g (s.turnOnAt n high dead t) = g s := by
  simp only [State.turnOnAt, apply_ite g, h.ballOn, h.legM, ite_self]

theorem PwmBlind.shoot (s : State) (n : Fin 48) (k : Nat) : g (s.raiseN (Ev.PWM_LEG_FLAGS_SHOOT n) k) = g s := by
  refine h.raiseN s _ k ?_ ?_ <;> simp only [InPwm, Ev.PWM_LEG_FLAGS_SHOOT, Reg.PWM_LEG_FLAGS] <;> omega

theorem PwmBlind.legApplyWith (s : State) (n : Fin 48) (dead : Bool) (t : Nat) : g (s.legApplyWith n dead t) = g s := by
  unfold State.legApplyWith
  obtain ⟨ch, cl⟩ := s.legCmd n
  simp only [apply_ite g, h.legM, h.ballOff, h.turnOnAt, h.heldShow, h.shoot, ite_self]

theorem PwmBlind.movedEdge (s : State) (n : Fin 48) (low off : Bool) (t : Nat) : g (s.movedEdge n low off t) = g s := by
  refine h.raiseIf s _ _ ?_ ?_ <;> simp only [InPwm, Ev.DRIVE_G_FLAGS_LATEFR, Reg.DRIVE_G_FLAGS] <;> omega

end

/-- PWM's registers and DRIVE's and the legs apart, `t` is `s`. -/
def PwmSame (s t : State) : Prop := ∀ (β : Type) (g : State → β), PwmBlind g → g t = g s

/-- R204–R207: a leg that takes its forced state changes PWM, and aborts the sweeps that name it; one that leaves it changes PWM. -/
theorem State.forceLeg_cases (s : State) (n : Fin 48) :
    ∃ t, PwmSame s t ∧ (s.forceLeg n = t ∨ s.forceLeg n = t.sweepLegForced n) := by
  unfold State.forceLeg
  simp only []
  split
  · refine ⟨_, fun β g h => ?_, Or.inr rfl⟩
    refine (same_of_ite (h.movedEdge _ n true true _)).trans ((same_of_ite (h.movedEdge _ n false true _)).trans ?_)
    exact (h.legApplyWith _ n _ _).trans ((h.legM _ n _).trans (h.legState s n _ _ 1))
  · split
    · exact ⟨_, fun β g h => (h.legApplyWith _ n _ _).trans ((h.legM _ n _).trans (h.legState s n _ _ 0)), Or.inl rfl⟩
    · exact ⟨s, fun _ _ _ => rfl, Or.inl rfl⟩

/-- R204, R207: a domain newly demanded changes PWM. -/
theorem PwmSame.domLatched (s : State) (k : Nat) (hk : k < 8) : PwmSame s ((s.raise (Ev.PWM_FSTAT_DOM k)).raise Ev.PWM_GFLAGS_FORCE) := by
  intro β g h
  have hcnt : InPwm (Ev.PWM_FSTAT_DOM k).cnt := by
    simp only [InPwm, Ev.PWM_FSTAT_DOM]
    omega
  exact (h.raise _ _ (by decide) (by decide)).trans (h.raise s _ (by decide : InPwm Reg.PWM_FSTAT) hcnt)

/-- R204, R207: what PWM's changes and the aborted sweeps keep, an update of the force lines keeps. -/
theorem State.forceUpdate_keeps (P : State → Prop) (hpwm : ∀ s t, PwmSame s t → P s → P t)
    (hsweep : ∀ (s : State) (n : Nat), P s → P (s.sweepLegForced n)) (s : State) (hs : P s) : P s.forceUpdate := by
  have hleg (u : State) (n : Fin 48) (hu : P u) : P (u.forceLeg n) := by
    obtain ⟨t, ht, heq | heq⟩ := u.forceLeg_cases n <;> rw [heq]
    · exact hpwm u t ht hu
    · exact hsweep t n (hpwm u t ht hu)
  refine foldl_keeps P State.forceLeg hleg _ _ (List.foldlRecOn _ _ ?_ fun u hu k hk => ?_)
  · exact hpwm s _ (fun β g h => h.put s _ _ (by decide)) hs
  · split
    · exact hpwm u _ (PwmSame.domLatched u k (List.mem_range.mp hk)) hu
    · exact hu

/-! ### The aborted sweeps (R269, R270, R274) -/

/-- The addresses outside MODIN's. -/
abbrev OutsideModin (a : Nat) : Prop := a < 0x40040000 ∨ 0x40042000 ≤ a

/-- The observation `g` sees nothing of the registers outside MODIN, nor of what an aborted sweep changes behind them. -/
structure SweepBlind {β : Type} (g : State → β) : Prop extends Blind OutsideModin g where
  behind (s : State) (d : Vector DcIn 8) (b : Tbl) (l : Links) (m : List (Nat × Byte)) (x : Xbar) (p : List (Nat × Word)) :
    g { s with dc := d, tbl := b, link := l, mem := m, xbar := x, parked := p } = g s

section
variable {β : Type} {g : State → β} (h : SweepBlind g)
include h

theorem SweepBlind.dcM (s : State) (k : Fin 8) (f : DcIn → DcIn) : g (s.dcM k f) = g s := h.behind s _ s.tbl s.link s.mem s.xbar s.parked

theorem SweepBlind.launch (s : State) (t e : Nat) : g (s.launch t e) = g s := by
  unfold State.launch
  split
  · exact h.sat16 s _ (by decide)
  · have hfly (b : List Launch) : g (s.tblM fun t => { t with inflight := b }) = g s := h.behind s s.dc _ s.link s.mem s.xbar s.parked
    simp only []
    split
    · exact (h.sat16 _ _ (by decide)).trans (hfly _)
    · exact hfly _

theorem SweepBlind.swlFire (s : State) (v : Nat) : g (s.swlFire v) = g s :=
  foldl_same g _ (fun s _ => same_of_ite (State.fire_same g h.launch (fun s k => h.behind s s.dc s.tbl k s.mem s.xbar s.parked) s _ _)) _ s

theorem SweepBlind.dcEvent (s : State) (k : Fin 8) (b : Nat) : g (s.dcEvent k b) = g s := by
  unfold State.dcEvent
  split
  · simp only []
    split
    · exact h.swlFire s _
    · exact h.behind s s.dc s.tbl s.link s.mem s.xbar _
  · rfl

theorem SweepBlind.dcDwordWrite (s : State) (k r : Nat) (act fin' abt : Bool) : g (s.dcDwordWrite k r act fin' abt) = g s := by
  have haddr : ¬(0x08000000 ≤ s.dcDword k ∧ s.dcDword k < 0x09000000) := by
    unfold State.dcDword
    omega
  simp only [State.dcDwordWrite, State.blockWrite, State.blockLand, if_neg haddr]
  split
  · exact h.behind s s.dc s.tbl s.link _ s.xbar s.parked
  · exact h.behind s s.dc s.tbl s.link s.mem _ s.parked

theorem SweepBlind.sweepEntry (s : State) (k : Nat) (c : DcCap) : g (s.sweepEntry k c) = g s := by
  have hcap (t : State) (b v : Nat) : g (t.wrN (Reg.SYSCFG_DC_CAP k b) v) = g t :=
    h.wr t _ _ (by simp only [OutsideModin, Reg.SYSCFG_DC_CAP]; omega)
  simp only [State.sweepEntry, hcap]

theorem SweepBlind.dcPut (s : State) (f : Fld) (v : Nat) (hf : 0x40124000 ≤ f.addr) : g (s.put f v) = g s :=
  h.put s f v (Or.inr (by omega))

theorem SweepBlind.dcRaise (s : State) (e : EvFlag) (he : 0x40124000 ≤ e.addr) (hc : 0x40124000 ≤ e.cnt) : g (s.raise e) = g s :=
  h.raise s e (Or.inr (by omega)) (Or.inr (by omega))

theorem SweepBlind.sweepComplete (s : State) (k : Fin 8) : g (s.sweepComplete k) = g s := by
  have hres (t : State) (lo w v : Nat) : g (t.put ⟨Reg.SYSCFG_DC_SWRES k, lo, w⟩ v) = g t :=
    h.dcPut t _ v (by simp only [Reg.SYSCFG_DC_SWRES]; omega)
  refine (h.dcM _ k _).trans ((h.dcPut _ _ _ ?_).trans ((h.dcRaise _ _ ?_ ?_).trans ((hres _ _ _ _).trans (hres s _ _ _))))
  all_goals simp only [Fd.SYSCFG_DC_SWSTAT_STATE, Ev.SYSCFG_DC_FLAGS_DONE, Reg.SYSCFG_DC_SWSTAT, Reg.SYSCFG_DC_FLAGS]; omega

theorem SweepBlind.sweepTake (s : State) (k : Fin 8) (c : DcCap) : g (s.sweepTake k c).1 = g s := by
  unfold State.sweepTake
  have hentry : g ((s.sweepEntry k c).dcM k fun d => { d with caps := d.caps.tail }) = g s := (h.dcM _ k _).trans (h.sweepEntry s k c)
  simp only []
  split
  · exact (h.sweepComplete _ k).trans hentry
  · exact hentry

theorem SweepBlind.sweepHalt (s : State) (k : Fin 8) (cause : Nat) : g (s.sweepHalt k cause) = g s := by
  refine (h.dcM _ k _).trans ((h.dcPut _ _ _ ?_).trans ((h.dcPut _ _ _ ?_).trans (h.dcRaise s _ ?_ ?_)))
  all_goals
    simp only [Fd.SYSCFG_DC_SWSTAT_STATE, Fd.SYSCFG_DC_SWSTAT_ACAUSE, Ev.SYSCFG_DC_FLAGS_ABORT, Reg.SYSCFG_DC_SWSTAT,
      Reg.SYSCFG_DC_FLAGS]
    omega

theorem SweepBlind.sweepCut (s : State) (k : Fin 8) (cause : Nat) : g (s.sweepCut k cause).1 = g s := by
  unfold State.sweepCut
  split
  · split
    · exact h.sweepTake s k _
    · exact h.sweepHalt s k cause
  · rfl

theorem SweepBlind.sweepTells (s : State) (l : List (Fin 8 × Option Nat)) : g (s.sweepTells l) = g s := by
  refine foldl_same g _ (fun s e => ?_) l s
  split
  · rfl
  · exact (h.dcEvent _ _ 0).trans (h.dcDwordWrite s _ _ _ _ _)
  · exact (h.dcEvent _ _ 1).trans (by split; rfl; exact h.dcDwordWrite s _ _ _ _ _)

theorem SweepBlind.sweepLegForced (s : State) (n : Nat) : g (s.sweepLegForced n) = g s :=
  foldl_same g _ (fun s k => same_of_ite ((h.sweepTells _ _).trans (h.sweepCut s k 2))) _ s

end

end Sys2Proof.Machine

/-! SUPPORT. MODIN's force lines, its flags and its comparators (R96, R97, R99), and the capture strobes (R91, R92). -/
namespace Sys2Proof.Machine

/-! ### What an update of the force lines leaves -/

theorem Blind.rd {W : Nat → Prop} {a : Nat} (ha : ¬ W a) : Blind W (fun s : State => s.rd a) :=
  ⟨fun s b v hb => (s.rd_wr b a v).trans (if_neg fun e : a = b => ha (e ▸ hb)), fun _ _ _ _ => rfl⟩

theorem SweepBlind.pwmBlind {β : Type} {g : State → β} (h : SweepBlind g)
    (hleg : ∀ (s : State) (n : Fin 48) (f : Leg → Leg), g (s.legM n f) = g s) : PwmBlind g :=
  ⟨h.toBlind.mono fun _ ha => Or.inl ha.2, hleg⟩

theorem State.forceUpdate_same {β : Type} {g : State → β} (h : SweepBlind g)
    (hleg : ∀ (s : State) (n : Fin 48) (f : Leg → Leg), g (s.legM n f) = g s) (s : State) : g s.forceUpdate = g s :=
  State.forceUpdate_keeps (fun t => g t = g s) (fun _ _ hpwm hu => (hpwm β g (h.pwmBlind hleg)).trans hu)
    (fun u n hu => (h.sweepLegForced u n).trans hu) s rfl

@[simp] theorem State.forceUpdate_now (s : State) : s.forceUpdate.now = s.now :=
  State.forceUpdate_same (g := State.now) ⟨⟨fun _ _ _ _ => rfl, fun _ _ _ _ => rfl⟩, fun _ _ _ _ _ _ _ => rfl⟩ (fun _ _ _ => rfl) s
@[simp] theorem State.forceUpdate_modin (s : State) : s.forceUpdate.modin = s.modin :=
  State.forceUpdate_same (g := State.modin) ⟨⟨fun _ _ _ _ => rfl, fun _ _ _ _ => rfl⟩, fun _ _ _ _ _ _ _ => rfl⟩
    (fun _ _ _ => rfl) s
@[simp] theorem State.forceUpdate_modLines (s : State) : s.forceUpdate.pwm.modLines = s.pwm.modLines :=
  State.forceUpdate_same (g := fun s => s.pwm.modLines) ⟨⟨fun _ _ _ _ => rfl, fun _ _ _ _ => rfl⟩, fun _ _ _ _ _ _ _ => rfl⟩
    (fun _ _ _ => rfl) s
theorem State.forceUpdate_rd (s : State) (a : Nat) (ha : ¬ OutsideModin a) : s.forceUpdate.rd a = s.rd a :=
  State.forceUpdate_same (g := fun s => s.rd a) ⟨Blind.rd ha, fun _ _ _ _ _ _ _ => rfl⟩ (fun _ _ _ => rfl) s

/-- R266: no DC input's sweep waits or runs. -/
def State.Quiet (s : State) : Prop := ∀ k : Fin 8, s.sweeping k = false

theorem State.Quiet.of_rd {s t : State} (h : s.Quiet) (hrd : ∀ k : Fin 8, t.rd (Reg.SYSCFG_DC_SWSTAT k) = s.rd (Reg.SYSCFG_DC_SWSTAT k)) :
    t.Quiet := by
  intro k
  have hk := h k
  simp only [State.sweeping, State.on, State.get, State.rdN, Fd.SYSCFG_DC_SWSTAT_STATE] at hk ⊢
  rw [hrd k, hk]

/-- R270: where no sweep runs, a forced leg aborts none. -/
theorem State.Quiet.sweepLegForced {s : State} (h : s.Quiet) (n : Nat) : s.sweepLegForced n = s := by
  refine foldl_keeps (fun t => t = s) _ (fun t k ht => ?_) _ s rfl
  subst ht
  have hcut : t.sweepCut k 2 = (t, none) := if_neg (by rw [h k]; decide)
  rw [State.sweepAbort, hcut]
  exact ite_self t

/-- R263, R270: where no sweep runs, a change of the force lines writes no memory. -/
theorem State.Quiet.forceUpdate {s : State} (h : s.Quiet) : s.forceUpdate.Quiet ∧ s.forceUpdate.mem = s.mem := by
  refine State.forceUpdate_keeps (fun t => t.Quiet ∧ t.mem = s.mem) (fun u t hpwm hu => ⟨hu.1.of_rd fun k => ?_, ?_⟩)
    (fun u n hu => by rwa [hu.1.sweepLegForced n]) s ⟨h, rfl⟩
  · refine hpwm _ (fun s => s.rd (Reg.SYSCFG_DC_SWSTAT k)) ⟨Blind.rd ?_, fun _ _ _ => rfl⟩
    simp only [InPwm, Reg.SYSCFG_DC_SWSTAT]
    omega
  · exact (hpwm _ State.mem ⟨⟨fun _ _ _ _ => rfl, fun _ _ _ _ => rfl⟩, fun _ _ _ => rfl⟩).trans hu.2

/-! ### A force line of MODIN (R97, R100) -/

/-- R97: line `k` takes the level `b`. -/
def State.lineTo (s : State) (k : Nat) (b : Bool) : State :=
  if s.pwm.modLines.getLsbD k == b then s else s.forceSet (.modin (Fin.ofNat 112 k)) b

theorem State.lineTo_cases (s : State) (k : Nat) (b : Bool) :
    s.lineTo k b = s ∨ s.lineTo k b = (s.pwmM fun p => { p with modLines := setBit p.modLines (Fin.ofNat 112 k).val b }).forceUpdate := by
  unfold State.lineTo
  split
  · exact Or.inl rfl
  · exact Or.inr rfl

@[simp] theorem State.lineTo_now (s : State) (k : Nat) (b : Bool) : (s.lineTo k b).now = s.now := by
  obtain h | h := s.lineTo_cases k b <;> simp [h]
@[simp] theorem State.lineTo_modin (s : State) (k : Nat) (b : Bool) : (s.lineTo k b).modin = s.modin := by
  obtain h | h := s.lineTo_cases k b <;> simp [h]
theorem State.lineTo_rd (s : State) (k : Nat) (b : Bool) (a : Nat) (ha : ¬ OutsideModin a) : (s.lineTo k b).rd a = s.rd a := by
  obtain h | h := s.lineTo_cases k b <;> rw [h]
  rw [State.forceUpdate_rd _ _ ha, State.pwmM_rd]

theorem State.Quiet.lineTo {s : State} (h : s.Quiet) (k : Nat) (b : Bool) : (s.lineTo k b).Quiet ∧ (s.lineTo k b).mem = s.mem := by
  obtain heq | heq := s.lineTo_cases k b <;> rw [heq]
  · exact ⟨h, rfl⟩
  · exact State.Quiet.forceUpdate (h.of_rd fun _ => rfl)

theorem getLsbD_setBit {w : Nat} (x : BitVec w) (i j : Nat) (b : Bool) (hi : i < w) :
    (setBit x i b).getLsbD j = if j = i then b else x.getLsbD j := by
  unfold setBit
  by_cases hji : j = i
  · subst hji
    cases b <;> simp [hi]
  · have hone : (1#w <<< i).getLsbD j = false := by
      simp [BitVec.getLsbD_one]
      omega
    rw [if_neg hji]
    cases b
    · by_cases hj : j < w
      · simp only [Bool.false_eq_true, if_false, BitVec.getLsbD_and, BitVec.getLsbD_not, hone, hj]
        simp
      · rw [BitVec.getLsbD_of_ge _ _ (Nat.le_of_not_lt hj), BitVec.getLsbD_of_ge _ _ (Nat.le_of_not_lt hj)]
    · simp only [if_true, BitVec.getLsbD_or, hone, Bool.or_false]

/-- R97: the line reads as it was set, every other line as before. -/
theorem State.lineTo_line (s : State) (k j : Nat) (b : Bool) (hk : k < 112) :
    (s.lineTo k b).pwm.modLines.getLsbD j = if j = k then b else s.pwm.modLines.getLsbD j := by
  unfold State.lineTo
  split
  · next h => split <;> simp_all
  · have hval : (Fin.ofNat 112 k).val = k := Nat.mod_eq_of_lt hk
    rw [State.forceSet, State.forceUpdate_modLines, State.pwmM_pwm]
    simp only [hval, getLsbD_setBit _ _ _ _ hk]

/-! ### The force lines of an input and its FAULT bit (R97, R99, R100) -/

/-- R97, R99: FAULT follows the input's health, and its two lines take their levels: asserted at least while its comparators are. -/
theorem State.inputLines_eq (s : State) (n : Fin 56) :
    ∃ hi lo, s.inputLines n =
        ((s.putB (Fd.MODIN_IN_FLAGS_FAULT n) s.modin.inputs[n].fault).lineTo (2 * n.val) hi).lineTo (2 * n.val + 1) lo ∧
      (s.modin.inputs[n].hi = true → hi = true) ∧ (s.modin.inputs[n].lo = true → lo = true) := by
  refine ⟨_, _, rfl, fun h => ?_, fun h => ?_⟩ <;> rw [h, Bool.true_or]

@[simp] theorem State.inputLines_now (s : State) (n : Fin 56) : (s.inputLines n).now = s.now := by
  obtain ⟨hi, lo, h, -⟩ := s.inputLines_eq n
  rw [h, State.lineTo_now, State.lineTo_now, State.putB_now]
@[simp] theorem State.inputLines_modin (s : State) (n : Fin 56) : (s.inputLines n).modin = s.modin := by
  obtain ⟨hi, lo, h, -⟩ := s.inputLines_eq n
  rw [h, State.lineTo_modin, State.lineTo_modin, State.putB_modin]

/-- Of MODIN's registers FAULT alone changes. -/
theorem State.inputLines_rd_eq (s : State) (n : Fin 56) (a : Nat) (ha : ¬ OutsideModin a) :
    (s.inputLines n).rd a = (s.putB (Fd.MODIN_IN_FLAGS_FAULT n) s.modin.inputs[n].fault).rd a := by
  obtain ⟨hi, lo, h, -⟩ := s.inputLines_eq n
  rw [h, State.lineTo_rd _ _ _ _ ha, State.lineTo_rd _ _ _ _ ha]

theorem State.inputLines_rd (s : State) (n : Fin 56) (a : Nat) (ha : ¬ OutsideModin a) (hf : a ≠ Reg.MODIN_IN_FLAGS n) :
    (s.inputLines n).rd a = s.rd a :=
  (s.inputLines_rd_eq n a ha).trans (s.rd_put_other _ _ a hf)

theorem State.inputLines_get_eq (s : State) (n : Fin 56) (f : Fld) (ha : ¬ OutsideModin f.addr) :
    (s.inputLines n).get f = (s.putB (Fd.MODIN_IN_FLAGS_FAULT n) s.modin.inputs[n].fault).get f := by
  rw [State.get, State.rdN, s.inputLines_rd_eq n _ ha]
  rfl

/-- A field of MODIN beside FAULT. -/
theorem State.inputLines_get (s : State) (n : Fin 56) (f : Fld) (ha : ¬ OutsideModin f.addr)
    (hf : f.addr ≠ Reg.MODIN_IN_FLAGS n ∨ f.lo + f.w ≤ 10 ∨ 11 ≤ f.lo) : (s.inputLines n).get f = s.get f :=
  (s.inputLines_get_eq n f ha).trans (s.get_put_other _ f _ (by decide : 10 + 1 ≤ 32) hf)

theorem flags_not_outsideModin (n : Fin 56) : ¬ OutsideModin (Reg.MODIN_IN_FLAGS n) := by
  simp only [OutsideModin, Reg.MODIN_IN_FLAGS]
  omega

/-- R99: FAULT reads as the input's health. -/
theorem State.inputLines_fault (s : State) (n : Fin 56) :
    (s.inputLines n).get (Fd.MODIN_IN_FLAGS_FAULT n) = s.modin.inputs[n].fault.toNat := by
  rw [s.inputLines_get_eq n _ (flags_not_outsideModin n)]
  exact (s.get_put_field _ 10 1 _ (by decide)).trans (Nat.mod_eq_of_lt (Bool.toNat_lt _))

/-- R97: an asserted comparator holds its force line. -/
theorem State.inputLines_hi (s : State) (n : Fin 56) (hhi : s.modin.inputs[n].hi = true) :
    (s.inputLines n).pwm.modLines.getLsbD (2 * n.val) = true := by
  obtain ⟨hi, lo, h, hcomp, -⟩ := s.inputLines_eq n
  rw [h, State.lineTo_line _ _ _ _ (by omega), if_neg (by omega), State.lineTo_line _ _ _ _ (by omega), if_pos rfl, hcomp hhi]

theorem State.inputLines_lo (s : State) (n : Fin 56) (hlo : s.modin.inputs[n].lo = true) :
    (s.inputLines n).pwm.modLines.getLsbD (2 * n.val + 1) = true := by
  obtain ⟨hi, lo, h, -, hcomp⟩ := s.inputLines_eq n
  rw [h, State.lineTo_line _ _ _ _ (by omega), if_pos rfl, hcomp hlo]

/-- R263, R270: where no sweep runs, no memory is written. -/
theorem State.Quiet.inputLines {s : State} (h : s.Quiet) (n : Fin 56) : (s.inputLines n).Quiet ∧ (s.inputLines n).mem = s.mem := by
  have hfault : (s.putB (Fd.MODIN_IN_FLAGS_FAULT n) s.modin.inputs[n].fault).Quiet := h.of_rd fun k =>
    s.rd_put_other _ _ _ (by simp only [Fd.MODIN_IN_FLAGS_FAULT, Reg.MODIN_IN_FLAGS, Reg.SYSCFG_DC_SWSTAT]; omega)
  obtain ⟨hi, lo, heq, -⟩ := s.inputLines_eq n
  rw [heq]
  obtain ⟨hquiet, hmem⟩ := hfault.lineTo (2 * n.val) hi
  obtain ⟨hquiet', hmem'⟩ := hquiet.lineTo (2 * n.val + 1) lo
  exact ⟨hquiet', hmem'.trans hmem⟩

/-! ### An input's state and its flags (R97, R99) -/

@[simp] theorem State.inM_input (s : State) (n : Fin 56) (f : ModinInput → ModinInput) :
    (s.inM n f).modin.inputs[n] = f s.modin.inputs[n] := upd_get_self s.modin.inputs n f

/-- R9, R107: flag `b` of input `n`, with its counter. -/
def inFlag (n b : Nat) : EvFlag := ⟨Reg.MODIN_IN_FLAGS n, b, Reg.MODIN_IN_EVCNT n b⟩

theorem inFlag_regs (n : Fin 56) (b : Nat) (hb : b ≤ 5) :
    (inFlag n b).cnt ≠ (inFlag n b).addr ∧ ¬ OutsideModin (inFlag n b).cnt ∧ ¬ OutsideModin (inFlag n b).addr := by
  simp only [inFlag, OutsideModin, Reg.MODIN_IN_FLAGS, Reg.MODIN_IN_EVCNT]
  omega

theorem State.flag_raise_inFlag (s : State) (n : Fin 56) (b : Nat) (hb : b ≤ 5) :
    (s.raise (inFlag n b)).flag (inFlag n b) = true :=
  s.flag_raise _ (inFlag_regs n b hb).1 (Nat.lt_of_le_of_lt hb (by decide))

theorem State.inputLines_flag (s : State) (n : Fin 56) (b : Nat) (hb : b ≤ 5) :
    (s.inputLines n).flag (inFlag n b) = s.flag (inFlag n b) :=
  congrArg (· != 0) (s.inputLines_get n ⟨_, b, 1⟩ (flags_not_outsideModin n)
    (Or.inr (Or.inl (Nat.add_le_add_right (hb.trans (by decide)) 1))))

/-- A write of MODIN's registers starts no sweep. -/
theorem State.Quiet.of_modin {s t : State} (h : s.Quiet) (hrd : ∀ a, OutsideModin a → t.rd a = s.rd a) : t.Quiet :=
  h.of_rd fun k => hrd _ (by simp only [OutsideModin, Reg.SYSCFG_DC_SWSTAT]; omega)

theorem State.Quiet.raise_inFlag {s : State} (h : s.Quiet) (n : Fin 56) (b : Nat) (hb : b ≤ 5) : (s.raise (inFlag n b)).Quiet := by
  obtain ⟨-, hcnt, hflag⟩ := inFlag_regs n b hb
  exact h.of_modin fun a ha => s.rd_raise_other _ a (fun e => hflag (e ▸ ha)) (fun e => hcnt (e ▸ ha))

theorem State.Quiet.inM {s : State} (h : s.Quiet) (n : Fin 56) (f : ModinInput → ModinInput) : (s.inM n f).Quiet := h.of_rd fun _ => rfl

theorem State.Quiet.advance {s : State} (h : s.Quiet) (k : Nat) : (s.advance k).Quiet := h.of_rd fun _ => s.advance_rd k _

/-! ### The fast filter's output and the comparators (R96, R97) -/

theorem ofNat_enc (x : Int) : BitVec.ofNat 32 (enc 32 x) = BitVec.ofInt 32 x := by
  apply BitVec.eq_of_toNat_eq
  simp [enc]
  omega

/-- R96: INn_FAST takes a value. -/
def State.fastSet (s : State) (n : Fin 56) (v : Int) : State := s.wrN (Reg.MODIN_IN_FAST n) (enc 32 v)

theorem State.fastSet_rd (s : State) (n : Fin 56) (v : Int) (a : Nat) :
    (s.fastSet n v).rd a = if a = Reg.MODIN_IN_FAST n then BitVec.ofInt 32 v else s.rd a := by
  rw [State.fastSet, State.wrN, State.rd_wr, ofNat_enc]

theorem State.Quiet.fastSet {s : State} (h : s.Quiet) (n : Fin 56) (v : Int) : (s.fastSet n v).Quiet :=
  h.of_modin fun a ha => (s.fastSet_rd n v a).trans (if_neg fun e => by
    simp only [OutsideModin, Reg.MODIN_IN_FAST] at ha e
    omega)

/-- R83: a group's period rests on its divider. -/
theorem State.mclkT_congr {s t : State} {g : Nat} (h : t.rd (Reg.PLL_MCLKDIV g) = s.rd (Reg.PLL_MCLKDIV g)) : t.mclkT g = s.mclkT g := by
  simp only [State.mclkT, State.get, State.rdN, Fd.PLL_MCLKDIV_ACTDIV, h]

/-- R81, R105: whether a group's clock runs rests on its enable and on PMU's gate. -/
theorem State.mclkOn_congr {s t : State} {g : Nat} (h : t.rd (Reg.PLL_MCLKDIV g) = s.rd (Reg.PLL_MCLKDIV g)) (hpmu : t.pmu = s.pmu) :
    t.mclkOn g = s.mclkOn g := by
  simp only [State.mclkOn, State.on, State.get, State.rdN, Fd.PLL_MCLKDIV_ACTEN, h, hpmu]

/-- R77: the word that decides rests on the register and on the old words that still decide. -/
theorem State.modWord_congr {s t : State} {a : Nat} (holds : t.modin.olds = s.modin.olds) (hrd : t.rd a = s.rd a) (x : Nat) :
    t.modWord a x = s.modWord a x := by
  simp only [State.modWord, State.rdN, holds, hrd]

theorem State.fastSet_modWord (s : State) (n : Fin 56) (v : Int) (a x : Nat) (ha : a ≠ Reg.MODIN_IN_FAST n) :
    (s.fastSet n v).modWord a x = s.modWord a x :=
  State.modWord_congr (s := s) (t := s.fastSet n v) rfl ((s.fastSet_rd n v a).trans (if_neg ha)) x

@[simp] theorem State.fastSet_ocEnabled (s : State) (n : Fin 56) (v : Int) (hi : Bool) :
    (s.fastSet n v).ocEnabled n hi = s.ocEnabled n hi := by
  rw [State.ocEnabled, State.ocCfg, s.fastSet_modWord n v _ _ (by simp [Reg.MODIN_IN_OCCFG, Reg.MODIN_IN_FAST])]
  rfl

@[simp] theorem State.fastSet_ocCond (s : State) (n : Fin 56) (v : Int) (hi : Bool) (ago : Nat) (x : Int) :
    (s.fastSet n v).ocCond n hi ago x = s.ocCond n hi ago x := by
  have hT : (s.fastSet n v).mclkT (grpOf n) = s.mclkT (grpOf n) := State.mclkT_congr ((s.fastSet_rd n v _).trans (if_neg (by
    simp only [Reg.PLL_MCLKDIV, Reg.MODIN_IN_FAST]
    omega)))
  simp only [State.ocCond]
  rw [hT, s.fastSet_modWord n v _ _ (by simp [Reg.MODIN_IN_THHI, Reg.MODIN_IN_FAST]),
    s.fastSet_modWord n v _ _ (by simp [Reg.MODIN_IN_THLO, Reg.MODIN_IN_FAST])]
  rfl

/-- R97: a comparator asserts or deasserts. -/
def ModinInput.compared (hi b : Bool) (i : ModinInput) : ModinInput := if hi then { i with hi := b } else { i with lo := b }

/-- R97: a comparator asserts: its input's lines follow, and its flag is set. -/
def State.ocAsserted (s : State) (n : Fin 56) (hi : Bool) : State :=
  ((s.inM n (ModinInput.compared hi true)).raise (inFlag n (if hi then 0 else 1))).inputLines n

section
variable (s : State) (n : Fin 56) (hi : Bool) (line : List MdatPeriod) (hen : s.on (Fd.MODIN_IN_CFG_EN n) = true)
  (hclk : s.mclkOn (grpOf n) = true)
include hen hclk

theorem State.overcurrentAssert_of_held (vs : List Int) (hon : s.ocEnabled n hi = true)
    (hfast : s.fastOf n (cut (s.ocCfg n) 4 4 + 1) (s.received n line) = some vs)
    (hheld : (vs.zipIdx.all fun e => s.ocCond n hi (vs.length - 1 - e.2) e.1) = true) :
    s.overcurrentAssert n hi line = (s.fastSet n (vs.getLast?.getD 0)).ocAsserted n hi := by
  have hcond : ((s.fastSet n (vs.getLast?.getD 0)).ocEnabled n hi &&
      vs.zipIdx.all fun e => (s.fastSet n (vs.getLast?.getD 0)).ocCond n hi (vs.length - 1 - e.2) e.1) = true := by
    simp only [State.fastSet_ocEnabled, State.fastSet_ocCond, hon, hheld, Bool.and_self]
  unfold State.overcurrentAssert
  simp only [hfast, hen, hclk, Bool.and_self, if_true]
  refine (if_pos hcond).trans ?_
  cases hi <;> rfl

theorem State.overcurrentDeassert_of_back (v : Int) (hfast : s.fastOf n 1 (s.received n line) = some [v])
    (hback : s.ocEnabled n hi = false ∨ s.ocCond n hi 0 v = false) :
    s.overcurrentDeassert n hi line = ((s.fastSet n v).inM n (ModinInput.compared hi false)).inputLines n := by
  have hcond : ¬((s.fastSet n v).ocEnabled n hi && (s.fastSet n v).ocCond n hi 0 v) = true := by
    simp only [State.fastSet_ocEnabled, State.fastSet_ocCond, Bool.and_eq_true, not_and, Bool.not_eq_true]
    intro hon
    simpa [hon] using hback
  unfold State.overcurrentDeassert
  simp only [hfast, hen, hclk, Bool.and_self, if_true]
  exact if_neg hcond

end

theorem State.ocAsserted_flag (s : State) (n : Fin 56) (hi : Bool) :
    (s.ocAsserted n hi).flag (inFlag n (if hi then 0 else 1)) = true := by
  have hb : (if hi then 0 else 1) ≤ 5 := by cases hi <;> decide
  rw [State.ocAsserted, State.inputLines_flag _ _ _ hb, State.flag_raise_inFlag _ _ _ hb]

theorem State.ocAsserted_input (s : State) (n : Fin 56) (hi : Bool) :
    (s.ocAsserted n hi).modin.inputs[n] = s.modin.inputs[n].compared hi true := by
  rw [State.ocAsserted, State.inputLines_modin, State.raise_modin, State.inM_input]

theorem State.ocAsserted_hi (s : State) (n : Fin 56) : (s.ocAsserted n true).pwm.modLines.getLsbD (2 * n.val) = true := by
  refine State.inputLines_hi _ n ?_
  rw [State.raise_modin, State.inM_input]
  rfl

theorem State.ocAsserted_lo (s : State) (n : Fin 56) : (s.ocAsserted n false).pwm.modLines.getLsbD (2 * n.val + 1) = true := by
  refine State.inputLines_lo _ n ?_
  rw [State.raise_modin, State.inM_input]
  rfl

theorem fast_regs (n : Fin 56) : ¬ OutsideModin (Reg.MODIN_IN_FAST n) ∧ Reg.MODIN_IN_FAST n ≠ Reg.MODIN_IN_FLAGS n ∧
    ∀ b, Reg.MODIN_IN_FAST n ≠ Reg.MODIN_IN_EVCNT n b := by
  refine ⟨?_, ?_, fun b => ?_⟩ <;> simp only [OutsideModin, Reg.MODIN_IN_FAST, Reg.MODIN_IN_FLAGS, Reg.MODIN_IN_EVCNT] <;> omega

theorem State.ocAsserted_fast (s : State) (n : Fin 56) (hi : Bool) :
    (s.ocAsserted n hi).rd (Reg.MODIN_IN_FAST n) = s.rd (Reg.MODIN_IN_FAST n) := by
  obtain ⟨hmodin, hflags, hcnt⟩ := fast_regs n
  rw [State.ocAsserted, State.inputLines_rd _ _ _ hmodin hflags, State.rd_raise_other _ _ _ hflags (hcnt _), State.inM_rd]

theorem State.Quiet.ocAsserted {s : State} (h : s.Quiet) (n : Fin 56) (hi : Bool) : (s.ocAsserted n hi).mem = s.mem := by
  have hb : (if hi then 0 else 1) ≤ 5 := by cases hi <;> decide
  rw [State.ocAsserted, (((h.inM n _).raise_inFlag n _ hb).inputLines n).2, State.raise_mem, State.inM_mem]

/-! ### Capture strobes (R91, R92) -/

@[simp] theorem State.advance_modin (s : State) (k : Nat) : (s.advance k).modin = s.modin := by
  obtain ⟨b, p, h, -⟩ := s.advance_eq k; rw [h]

/-- R91: the inputs of group `g` that owe a result of a strobe, by their places in the group: the enabled ones. -/
def State.strobeLeft (s : State) (g : Fin 7) : BitVec 8 :=
  (List.finRange 56).foldl (fun (m : BitVec 8) (n : Fin 56) =>
    if grpOf n = g ∧ s.on (Fd.MODIN_IN_CFG_EN n) then setBit m (n.val % 8) true else m) 0

theorem getLsbD_foldl_setBit {α : Type} (p : α → Prop) [DecidablePred p] (k : α → Nat) (hk : ∀ x, k x < 8) (j : Nat) (l : List α)
    (m : BitVec 8) : (l.foldl (fun m x => if p x then setBit m (k x) true else m) m).getLsbD j =
      (m.getLsbD j || l.any fun x => decide (p x ∧ k x = j)) := by
  induction l generalizing m with
  | nil => simp
  | cons x l ih =>
    rw [List.foldl_cons, ih, List.any_cons]
    by_cases hp : p x
    · rw [if_pos hp, getLsbD_setBit _ _ _ _ (hk x)]
      by_cases hj : j = k x
      · simp [hp, hj]
      · simp [hp, hj, Ne.symm hj]
    · simp [hp]

theorem eq_of_grpOf_eq {m n : Fin 56} (hgrp : grpOf m = grpOf n) (hplace : m.val % 8 = n.val % 8) : m = n := by
  have h := congrArg Fin.val hgrp
  simp only [grpOf, Fin.ofNat] at h
  omega

/-- R91: an input of the group owes a result if it is enabled. -/
theorem State.strobeLeft_getLsbD (s : State) (n : Fin 56) :
    (s.strobeLeft (grpOf n)).getLsbD (n.val % 8) = s.on (Fd.MODIN_IN_CFG_EN n) := by
  rw [State.strobeLeft, getLsbD_foldl_setBit _ (fun n : Fin 56 => n.val % 8) fun n => Nat.mod_lt _ (by decide)]
  rw [Bool.eq_iff_iff]
  simp only [BitVec.ofNat_eq_ofNat, BitVec.getLsbD_zero, Bool.false_or, List.any_eq_true, List.mem_finRange, true_and, decide_eq_true_eq]
  constructor
  · rintro ⟨m, ⟨hgrp, hen⟩, hplace⟩
    rwa [← eq_of_grpOf_eq hgrp hplace]
  · exact fun hen => ⟨n, ⟨rfl, hen⟩, rfl⟩

/-- R54: a strobe is launch target 48 + g. -/
theorem State.launchRuns_strobe (s : State) (g : Fin 7) (h : s.pmu.clocksOff = false) : s.launchRuns (48 + g.val) = true := by
  simp only [State.launchRuns, h]
  rw [if_neg (by omega), if_neg (by omega)]
  rfl

theorem State.launchDelay_strobe (s : State) (g : Fin 7) : s.launchDelay (48 + g.val) = 80 + 2 * s.mclkT g := by
  unfold State.launchDelay
  rw [if_neg (by omega), if_neg (by omega), if_neg (by omega), if_pos (by omega), Nat.add_sub_cancel_left]

@[simp] theorem State.launchTaken_modin (s : State) (t : Nat) (l : Launch) : (s.launchTaken t l).modin = s.modin := s.advance_modin _
@[simp] theorem State.launchTaken_pmu (s : State) (t : Nat) (l : Launch) : (s.launchTaken t l).pmu = s.pmu := s.advance_pmu _

theorem State.launchTaken_rd (s : State) (t : Nat) (l : Launch) (a : Nat) : (s.launchTaken t l).rd a = s.rd a := by
  rw [State.rd, s.launchTaken_regs t l]
  rfl

theorem State.launchTaken_nowAt (s : State) (t : Nat) (l : Launch) (x : Nat) :
    (s.launchTaken t l).nowAt x = (s.reachNow (l.matched + s.launchDelay t)).nowAt x := rfl

section
variable (s : State) (g : Fin 7) (l : Launch) (hclk : s.pmu.clocksOff = false) (hl : s.launchOf (48 + g.val) = some l)
include hclk hl

/-- R92: a strobe without an MCLK is lost. -/
theorem State.captureStrobe_of_stopped (hoff : s.mclkOn g = false) : s.captureStrobe g = s.launchTaken (48 + g.val) l := by
  rw [State.captureStrobe, s.takeLaunch_of_inflight _ l _ hl (s.launchRuns_strobe g hclk)]
  refine if_pos ?_
  rw [State.mclkOn_congr (s := s) (s.launchTaken_rd _ l _) (s.launchTaken_pmu _ l), hoff]
  rfl

variable (hon : s.mclkOn g = true) (hdec : s.on (Fd.MODIN_GCFG_DEC g) = true)
include hon hdec

/-- R92: a strobe in strobe mode, in the state in which it arrives. -/
theorem State.captureStrobe_of_strobed : s.captureStrobe g =
    if 4 ≤ s.modin.strobes[g].length then (s.launchTaken (48 + g.val) l).raise (Ev.MODIN_GFLAGSG_STBOVF g)
    else if s.strobeLeft g = 0 then s.launchTaken (48 + g.val) l
    else { s.launchTaken (48 + g.val) l with modin := { s.modin with
      strobes := s.modin.strobes.upd g (· ++ [⟨(s.launchTaken (48 + g.val) l).nowAt l.exact, s.strobeLeft g⟩]) } } := by
  have hon' : (s.launchTaken (48 + g.val) l).mclkOn g = true := by
    rw [State.mclkOn_congr (s := s) (s.launchTaken_rd _ l _) (s.launchTaken_pmu _ l), hon]
  have hdec' : (s.launchTaken (48 + g.val) l).on (Fd.MODIN_GCFG_DEC g) = true := by
    rw [State.on_of_regs_eq (s.launchTaken_regs _ l), hdec]
  have hleft : (s.launchTaken (48 + g.val) l).strobeLeft g = s.strobeLeft g := by
    simp only [State.strobeLeft, State.on_of_regs_eq (s.launchTaken_regs _ l)]
  rw [State.captureStrobe, s.takeLaunch_of_inflight _ l _ hl (s.launchRuns_strobe g hclk), ← hleft]
  simp only [hon', hdec', Bool.not_true, Bool.false_eq_true, if_false, if_true, State.launchTaken_modin]
  rfl

end

/-! ### The obligation -/

/-- Settles O17: a strobe by the state in which it arrives, a comparator by the state that its assertion or its release leaves. -/
theorem strobesAndComparators : Obligations.StrobesAndComparators := by
  unfold Obligations.StrobesAndComparators
  refine ⟨?waits, ?full, ?lost, ?high, ?low, ?few, ?back⟩
  case waits =>
    intro g l s hclk hl hon hdec hlen ⟨n, hgrp, hen⟩
    have hleft : s.strobeLeft g ≠ 0 := by
      intro hzero
      have hbit := s.strobeLeft_getLsbD n
      rw [hgrp, hzero, hen] at hbit
      simp at hbit
    refine ⟨_, congrArg Host.Outcome.next (s.captureStrobe_of_strobed g l hclk hl hon hdec), ?_⟩
    rw [if_neg (by omega), if_neg hleft]
    refine ⟨s.launchTaken_inflight _ l, ?_, ?_, ?_, fun m hm => ?_, s.launchTaken_regs _ l, s.launchTaken_mem _ l⟩
    · simp
    · simp
    · rw [upd_get_self, List.getLast?_concat, Option.map_some, s.launchTaken_nowAt, s.launchDelay_strobe, Nat.add_assoc]
    · simp [← hm, State.strobeLeft_getLsbD]
  case full =>
    intro g l s hclk hl hon hdec hlen
    refine ⟨_, congrArg Host.Outcome.next (s.captureStrobe_of_strobed g l hclk hl hon hdec), ?_⟩
    rw [if_pos hlen]
    refine ⟨State.flag_raise _ _ ?_ (by decide : 0 < 32), by simp, by simp, by simp⟩
    simp only [Ev.MODIN_GFLAGSG_STBOVF, Reg.MODIN_GFLAGSG]
    omega
  case lost =>
    intro g l s hclk hl hoff
    refine ⟨_, congrArg Host.Outcome.next (s.captureStrobe_of_stopped g l hclk hl hoff), ?_⟩
    exact ⟨s.launchTaken_modin _ l, s.launchTaken_inflight _ l, s.launchTaken_regs _ l, s.launchTaken_mem _ l⟩
  case high =>
    intro n line vs s hen hclk hon hfast hheld
    refine ⟨_, congrArg Host.Outcome.next (s.overcurrentAssert_of_held n true line hen hclk vs hon hfast hheld), ?_⟩
    refine ⟨State.ocAsserted_flag _ n true, ?_, ?_, ?_, State.ocAsserted_hi _ n, fun hquiet => ?_⟩
    · rw [State.ocAsserted_input]; rfl
    · rw [State.ocAsserted_input]; rfl
    · rw [State.ocAsserted_fast, State.fastSet_rd, if_pos rfl]
    · exact (State.Quiet.fastSet hquiet.1 n _).ocAsserted n true
  case low =>
    intro n line vs s hen hclk hon hfast hheld
    refine ⟨_, congrArg Host.Outcome.next (s.overcurrentAssert_of_held n false line hen hclk vs hon hfast hheld), ?_⟩
    refine ⟨State.ocAsserted_flag _ n false, ?_, ?_, State.ocAsserted_lo _ n, fun hquiet => ?_⟩
    · rw [State.ocAsserted_input]; rfl
    · rw [State.ocAsserted_input]; rfl
    · exact (State.Quiet.fastSet hquiet.1 n _).ocAsserted n false
  case few =>
    intro n hi line s hfast
    refine congrArg Host.Outcome.next ?_
    unfold State.overcurrentAssert
    simp only [hfast]
  case back =>
    intro n hi line v s hen hclk hfast hback
    refine ⟨_, congrArg Host.Outcome.next (s.overcurrentDeassert_of_back n hi line hen hclk v hfast hback), ?_⟩
    obtain ⟨hmodin, hflags, -⟩ := fast_regs n
    rw [State.inputLines_modin, State.inM_input, State.inputLines_rd _ _ _ hmodin hflags, State.inM_rd,
      State.fastSet_rd, if_pos rfl]
    refine ⟨?_, ?_, rfl, fun hquiet => (((State.Quiet.fastSet hquiet.1 n v).inM n _).inputLines n).2⟩ <;> cases hi <;> rfl

end Sys2Proof.Machine

/-! SUPPORT. A result's stamp while a write of GEXTDLY crosses (R77, R90). -/
namespace Sys2Proof.Machine

/-- R93: what holds of the state that an input's result answers. -/
theorem answers_mainResultIssue_iff (n : Fin 56) (line : List MdatPeriod) (s : State) (P : State → Prop) :
    Answers (.mainResultIssue n line) s P ↔ P (s.mainResult n line) := by
  have hexec : exec (.mainResultIssue n line) s = .next (s.mainResult n line) := rfl
  simp [Answers, hexec]

/-- Input 9 decimates freely by 8 on MCLK1 at 20 MHz, a period of 800 tbu; seven periods have passed since the reference edge of
12,800 tbu, at which its next result has its newest bit. -/
def input9Runs : State :=
  { ((((State.reset.put (Fd.MODIN_IN_CFG_EN 9) 1).put (Fd.MODIN_IN_CFG_OSR 9) 8).put (Fd.PLL_MCLKDIV_ACTDIV 1) 160).put
      (Fd.PLL_MCLKDIV_ACTEN 1) 1).put Fd.PLL_STATUS_SYNCLOCK 1 with now := 18400, tbl := { count := 18400 } }

/-- The same, 100 tbu just written to GEXTDLY1: the register reads so at once, and decides from 20,000 tbu on (R77), after the
result has issued at 19,200 tbu. -/
def delayCrosses : State := input9Runs.regWrite (Reg.MODIN_GEXTDLY 1) 100#32

/-- R90: the span's centre is 10.5 periods before 12,800 tbu, and GEXTDLY1 was 0. -/
theorem delayCrosses_stamp : (delayCrosses.mainResult 9 []).samples[9]!.stamp = 4400 := by decide +kernel

/-- Refutes O16: its first clause takes GEXTDLY as the register reads. Of a write that has not crossed into the MOD domain yet the
old word decides (R77), which the model follows (`State.extDelay`); the premise that no such write crosses is missing. -/
theorem not_modinResults : ¬ Obligations.ModinResults := by
  unfold Obligations.ModinResults
  rintro ⟨hfree, -⟩
  obtain ⟨-, -, -, hstamp, -⟩ := (answers_mainResultIssue_iff ..).mp
    (hfree 9 [] delayCrosses (by decide +kernel) (by decide +kernel) (by decide +kernel))
  exact absurd (delayCrosses_stamp.symm.trans hstamp) (by decide +kernel)

end Sys2Proof.Machine

/-! SUPPORT. The health of the bit streams (R99, R100), and the configuration of inputs and groups (R101, R102). -/
namespace Sys2Proof.Machine

/-! ### A health event: its flag, the input's state and its lines (R99) -/

/-- R99: flag `b` is set, the input's state follows, and so do its lines. -/
def State.healthSeen (s : State) (n : Fin 56) (b : Nat) (f : ModinInput → ModinInput) : State :=
  ((s.raise (inFlag n b)).inM n f).inputLines n

section
variable (s : State) (n : Fin 56) (b : Nat) (f : ModinInput → ModinInput)

@[simp] theorem State.healthSeen_now : (s.healthSeen n b f).now = s.now := by
  rw [State.healthSeen, State.inputLines_now, State.inM_now, State.raise_now]

theorem State.healthSeen_input : (s.healthSeen n b f).modin.inputs[n] = f s.modin.inputs[n] := by
  rw [State.healthSeen, State.inputLines_modin, State.inM_input, State.raise_modin]

theorem State.healthSeen_fault : (s.healthSeen n b f).get (Fd.MODIN_IN_FLAGS_FAULT n) = (f s.modin.inputs[n]).fault.toNat := by
  rw [State.healthSeen, State.inputLines_fault, State.inM_input, State.raise_modin]

theorem State.healthSeen_input_other (m : Fin 56) (h : n ≠ m) : (s.healthSeen m b f).modin.inputs[n] = s.modin.inputs[n] := by
  rw [State.healthSeen, State.inputLines_modin]
  exact (upd_get_other _ m n f h).trans (by rw [State.raise_modin])

/-- The registers of MODIN but the input's flags and the event's counter stay. -/
theorem State.healthSeen_rd (a : Nat) (ha : ¬ OutsideModin a) (hflags : a ≠ Reg.MODIN_IN_FLAGS n) (hcnt : a ≠ Reg.MODIN_IN_EVCNT n b) :
    (s.healthSeen n b f).rd a = s.rd a := by
  rw [State.healthSeen, State.inputLines_rd _ _ _ ha hflags, State.inM_rd, State.rd_raise_other _ _ _ hflags hcnt]

variable (hb : b ≤ 5)
include hb

theorem State.healthSeen_flag : (s.healthSeen n b f).flag (inFlag n b) = true :=
  (State.inputLines_flag _ n b hb).trans (s.flag_raise_inFlag n b hb)

theorem State.healthSeen_flags_other (m : Fin 56) (h : n ≠ m) :
    (s.healthSeen m b f).rd (Reg.MODIN_IN_FLAGS n) = s.rd (Reg.MODIN_IN_FLAGS n) := by
  have hne : n.val ≠ m.val := fun e => h (Fin.ext e)
  refine s.healthSeen_rd m b f _ (flags_not_outsideModin n) ?_ ?_ <;> simp only [Reg.MODIN_IN_FLAGS, Reg.MODIN_IN_EVCNT] <;> omega

theorem State.healthSeen_en (m : Fin 56) : (s.healthSeen m b f).on (Fd.MODIN_IN_CFG_EN n) = s.on (Fd.MODIN_IN_CFG_EN n) := by
  have hrd := s.healthSeen_rd m b f (Reg.MODIN_IN_CFG n)
  simp only [OutsideModin, Reg.MODIN_IN_CFG, Reg.MODIN_IN_FLAGS, Reg.MODIN_IN_EVCNT] at hrd
  simp only [State.on, State.get, State.rdN, Fd.MODIN_IN_CFG_EN, Reg.MODIN_IN_CFG]
  rw [hrd (by omega) (by omega) (by omega)]

end

theorem State.Quiet.healthSeen {s : State} (h : s.Quiet) (n : Fin 56) (b : Nat) (hb : b ≤ 5) (f : ModinInput → ModinInput) :
    (s.healthSeen n b f).Quiet ∧ (s.healthSeen n b f).mem = s.mem := by
  obtain ⟨hquiet, hmem⟩ := ((h.raise_inFlag n b hb).inM n f).inputLines n
  exact ⟨hquiet, by rw [State.healthSeen, hmem, State.inM_mem, State.raise_mem]⟩

/-! ### The clock-present check (R99) -/

/-- R99: CLKLOSS is detected at an input. -/
def State.clkSeen (s : State) (n : Fin 56) : State := s.healthSeen n 2 fun i => i.clkSeen s.now

@[simp] theorem ModinInput.clkSeen_clk (i : ModinInput) (t : Nat) : (i.clkSeen t).clk = true := by
  unfold ModinInput.clkSeen
  split <;> rfl

@[simp] theorem ModinInput.stuckSeen_stuck (i : ModinInput) (t : Nat) : (i.stuckSeen t).stuck = true := by
  unfold ModinInput.stuckSeen
  split <;> rfl

theorem State.clkloss_of_missing (s : State) (n : Fin 56) (missing : Nat) (hen : s.on (Fd.MODIN_IN_CFG_EN n) = true) (hmiss : 4 ≤ missing)
    (hcheck : s.checked n missing = true) :
    s.clkloss n missing =
      if s.get (Fd.MODIN_GCFG_MODE (grpOf n)) = 0 then s.enabledIn (grpOf n) State.clkSeen else s.clkSeen n := by
  simp only [State.clkloss, hen, hcheck, Bool.and_self, if_true]
  rw [if_pos hmiss, if_pos (by omega : 2 ≤ missing)]
  rfl

theorem State.clkloss_of_present (s : State) (n : Fin 56) (missing : Nat)
    (hmiss : missing < if s.get (Fd.MODIN_GCFG_MODE (grpOf n)) = 0 then 4 else 2) : s.clkloss n missing = s := by
  simp only [State.clkloss]
  split
  · split
    · next hmode => rw [if_pos hmode] at hmiss; exact if_neg (by omega)
    · next hmode => rw [if_neg hmode] at hmiss; exact if_neg (by omega)
  · rfl

/-- R99: CLKLOSS shows at an input. -/
def State.clkShown (n : Fin 56) (s : State) : Prop :=
  s.flag (inFlag n 2) = true ∧ s.modin.inputs[n].clk = true ∧ s.get (Fd.MODIN_IN_FLAGS_FAULT n) = 1

theorem State.clkSeen_shown (s : State) (n : Fin 56) : (s.clkSeen n).clkShown n := by
  refine ⟨s.healthSeen_flag n 2 _ (by decide), ?_, ?_⟩
  · rw [State.clkSeen, State.healthSeen_input, ModinInput.clkSeen_clk]
  · rw [State.clkSeen, State.healthSeen_fault, ModinInput.fault, ModinInput.clkSeen_clk]
    rfl

theorem State.clkShown.clkSeen {s : State} {n : Fin 56} (h : s.clkShown n) (m : Fin 56) : (s.clkSeen m).clkShown n := by
  by_cases hnm : n = m
  · subst hnm
    exact s.clkSeen_shown n
  · obtain ⟨hflag, hclk, hfault⟩ := h
    have hrd := s.healthSeen_flags_other n 2 (fun i => i.clkSeen s.now) (by decide) m hnm
    simp only [State.flag, State.on, State.get, State.rdN] at hflag hfault
    simp only [State.clkShown, State.clkSeen, State.flag, State.on, State.get, State.rdN, State.healthSeen_input_other _ _ _ _ _ hnm]
    exact ⟨hrd ▸ hflag, hclk, hrd ▸ hfault⟩

/-- R99: every enabled input of the group is flagged. -/
theorem State.clkShown_enabledIn (s : State) (n : Fin 56) (hen : s.on (Fd.MODIN_IN_CFG_EN n) = true) :
    (s.enabledIn (grpOf n) State.clkSeen).clkShown n := by
  refine foldl_brings (State.clkShown n) (fun t => t.on (Fd.MODIN_IN_CFG_EN n) = true) _ (fun t m ht => ?_) (fun t m ht => ?_) _ n
    (List.mem_finRange n) (fun t ht => ?_) s hen
  · split
    · exact (t.healthSeen_en n 2 _ (by decide) m).trans ht
    · exact ht
  · split
    · exact ht.clkSeen m
    · exact ht
  · rw [if_pos ⟨rfl, ht⟩]
    exact t.clkSeen_shown n

theorem State.Quiet.clkSeen_enabledIn {s : State} (h : s.Quiet) (g : Fin 7) : (s.enabledIn g State.clkSeen).mem = s.mem := by
  refine (foldl_keeps (fun t => t.Quiet ∧ t.mem = s.mem) _ (fun t m ht => ?_) _ s ⟨h, rfl⟩).2
  split
  · obtain ⟨hquiet, hmem⟩ := ht.1.healthSeen m 2 (by decide) fun i => i.clkSeen t.now
    exact ⟨hquiet, hmem.trans ht.2⟩
  · exact ht

/-! ### Runs and violations (R99) -/

theorem State.stuckDetect_of_run (s : State) (n : Fin 56) (line : List MdatPeriod) (hen : s.on (Fd.MODIN_IN_CFG_EN n) = true)
    (hclk : s.mclkOn (grpOf n) = true) (hlimit : s.runLimit n ≠ 0)
    (hrun : alike (s.runLimit n + 1) (s.sinceStart n (s.received n line)) = true) :
    s.stuckDetect n line = s.healthSeen n 3 fun i => i.stuckSeen s.now :=
  if_pos (by simp [hen, hclk, hlimit, hrun])

theorem State.stuckDetect_of_no_run (s : State) (n : Fin 56) (line : List MdatPeriod)
    (h : s.runLimit n = 0 ∨ alike (s.runLimit n + 1) (s.sinceStart n (s.received n line)) = false) : s.stuckDetect n line = s := by
  refine if_neg ?_
  rcases h with h | h <;> simp [h]

/-- R99: an input's state after the violation of instant `now`, where `vs` lie in the last 256 cells. -/
def ModinInput.violated (now span thr : Nat) (vs : List Nat) (i : ModinInput) : ModinInput :=
  let i := { i with violations := vs }
  if thr ≠ 0 ∧ thr ≤ vs.length then { i with manv := true, manvAt := if i.manv then i.manvAt else now, manvEnd := now + span } else i

/-- R99: with a threshold of 1 each violation begins a fault of 256 cells. -/
theorem ModinInput.violated_of_one (now span x : Nat) (vs : List Nat) (i : ModinInput) :
    (i.violated now span 1 (x :: vs)).manv = true ∧ (i.violated now span 1 (x :: vs)).manvEnd = now + span := by
  have hthr : 1 ≠ 0 ∧ 1 ≤ (x :: vs).length := ⟨by decide, Nat.succ_le_succ (Nat.zero_le _)⟩
  unfold ModinInput.violated
  simp only [if_pos hthr, and_self]

/-- R99: the violations of the last 256 cells, one of this instant among them. -/
def State.violationsNow (s : State) (n : Fin 56) (span : Nat) : List Nat :=
  s.now :: s.modin.inputs[n].violations.filter fun v => s.now < v + span

/-- R99: the instant of a violation: a cell after the last one at the least. -/
def State.violationAt (s : State) (n : Fin 56) : State :=
  match s.modin.inputs[n].violations with
  | [] => s
  | v :: _ => s.reachNow (v + s.mclkT (grpOf n))

theorem State.violationAt_cases (s : State) (n : Fin 56) : s.violationAt n = s ∨ ∃ k, s.violationAt n = s.advance k := by
  unfold State.violationAt
  split
  · exact Or.inl rfl
  · exact Or.inr ⟨_, rfl⟩

@[simp] theorem State.violationAt_mem (s : State) (n : Fin 56) : (s.violationAt n).mem = s.mem := by
  obtain h | ⟨k, h⟩ := s.violationAt_cases n <;> simp [h]

theorem State.violationAt_rd (s : State) (n : Fin 56) (a : Nat) : (s.violationAt n).rd a = s.rd a := by
  obtain h | ⟨k, h⟩ := s.violationAt_cases n <;> simp [h]

theorem State.manchester_of_violation (s : State) (n : Fin 56) (cell : BitVec 2) (hen : s.on (Fd.MODIN_IN_CFG_EN n) = true)
    (hmode : s.get (Fd.MODIN_GCFG_MODE (grpOf n)) = 1) (hclk : s.pmu.clocksOff = false) (hcell : cell.getLsbD 0 = cell.getLsbD 1) :
    s.manchester n cell = (s.violationAt n).healthSeen n 4 (ModinInput.violated (s.violationAt n).now (256 * s.mclkT (grpOf n))
      (s.get (Fd.MODIN_IN_HCFG_MANVTHR n)) ((s.violationAt n).violationsNow n (256 * s.mclkT (grpOf n)))) := by
  have hthr : ((s.violationAt n).raise (inFlag n 4)).get (Fd.MODIN_IN_HCFG_MANVTHR n) = s.get (Fd.MODIN_IN_HCFG_MANVTHR n) := by
    have hrd : ((s.violationAt n).raise (inFlag n 4)).rd (Reg.MODIN_IN_HCFG n) = s.rd (Reg.MODIN_IN_HCFG n) := by
      rw [State.rd_raise_other, State.violationAt_rd] <;>
        simp only [inFlag, Reg.MODIN_IN_HCFG, Reg.MODIN_IN_FLAGS, Reg.MODIN_IN_EVCNT] <;> omega
    simp only [State.get, State.rdN, Fd.MODIN_IN_HCFG_MANVTHR, hrd]
  unfold State.manchester State.healthSeen State.violationsNow
  rw [← hthr, ← (s.violationAt n).raise_now (inFlag n 4), ← (s.violationAt n).raise_modin (inFlag n 4)]
  refine (if_pos (by rw [hen, hclk, hmode, hcell, beq_self_eq_true, beq_self_eq_true]; rfl)).trans ?_
  rfl

/-! ### The end of a health fault (R99) -/

section
variable (s : State) (n : Fin 56) (absent : Nat)

/-- R99: the instant from which the condition has been absent for `absent` periods. -/
def State.goneAt : Nat := s.now - absent * s.mclkT (grpOf n)

theorem State.healthEnd_clkloss (hact : s.modin.inputs[n].clk = true) (hlong : s.absentLong n s.modin.inputs[n].clkAt absent = true) :
    s.healthEnd n .clkloss absent = (s.inM n fun i =>
      { i with clk := false, clkGone := none, bad := (i.clkAt, s.goneAt n absent) :: i.bad }).inputLines n :=
  if_pos (by rw [hact, hlong]; rfl)

theorem State.healthEnd_stuck (hact : s.modin.inputs[n].stuck = true) (hlong : s.absentLong n s.modin.inputs[n].stuckAt absent = true) :
    s.healthEnd n .stuck absent = (s.inM n fun i =>
      { i with stuck := false, stuckGone := none, bad := (i.stuckAt, s.goneAt n absent) :: i.bad }).inputLines n :=
  if_pos (by rw [hact, hlong]; rfl)

theorem State.healthEnd_manv (hact : s.modin.inputs[n].manv = true) (hclk : s.mclkOn (grpOf n) = true) :
    s.healthEnd n .manv absent = ((s.reachNow s.modin.inputs[n].manvEnd).inM n fun i =>
      { i with manv := false, bad := (i.manvAt, i.manvEnd) :: i.bad }).inputLines n := by
  simp only [State.healthEnd, hact, hclk, Bool.and_self, if_true]

end

/-! ### A refused write (R101) -/

/-- R101: a refusal sets CFGERR and changes nothing else. -/
theorem State.cfgerr_raised (s : State) :
    (s.raise Ev.MODIN_GFLAGS_CFGERR).flag Ev.MODIN_GFLAGS_CFGERR = true ∧
      SameRegistersBut [Reg.MODIN_GFLAGS, Reg.MODIN_CFGERRCNT] s (s.raise Ev.MODIN_GFLAGS_CFGERR) ∧
      (s.raise Ev.MODIN_GFLAGS_CFGERR).modin = s.modin ∧ (s.raise Ev.MODIN_GFLAGS_CFGERR).mem = s.mem := by
  refine ⟨s.flag_raise _ (by decide) (by decide), fun a ha => ?_, s.raise_modin _, s.raise_mem _⟩
  rw [List.mem_pair, not_or] at ha
  exact s.rd_raise_other _ a ha.1 ha.2

/-! ### A register as it reads (R77) -/

theorem State.regView_of_none_parked (s : State) (a : Nat) (h : s.parked = []) : s.regView a = s.rdN a := by
  unfold State.regView State.parkedView
  rw [h]
  split <;> rfl

/-- R107: bit 0 of INn_CFG is EN. -/
theorem State.testBit_inCfg (s : State) (n : Nat) : (s.rdN (Reg.MODIN_IN_CFG n)).testBit 0 = s.on (Fd.MODIN_IN_CFG_EN n) := by
  simp only [Nat.testBit_zero, State.on, State.get, Fd.MODIN_IN_CFG_EN, cut, Nat.shiftRight_zero]
  rcases Nat.mod_two_eq_zero_or_one (s.rdN (Reg.MODIN_IN_CFG n)) with h | h <;> simp [h]

theorem State.regView_inCfg (s : State) (n : Nat) (h : s.parked = []) :
    (s.regView (Reg.MODIN_IN_CFG n)).testBit 0 = s.on (Fd.MODIN_IN_CFG_EN n) := by
  rw [s.regView_of_none_parked _ h, s.testBit_inCfg]

/-- R8: a bit that is neither a flag nor a command is stored as written. -/
theorem RegRow.testBit_written (r : RegRow) (old v i : Nat) (hrw : r.rw.testBit i = true) (hw1c : r.w1c.testBit i = false)
    (hw1s : r.w1s.testBit i = false) : (r.written old v 0).testBit i = v.testBit i := by
  simp only [RegRow.written, Nat.testBit_or, Nat.testBit_xor, Nat.testBit_and, hrw, hw1c, hw1s]
  cases old.testBit i <;> cases v.testBit i <;> rfl

/-- R107: INn_CFG's register kind. -/
theorem regRow_inCfg (n : Fin 56) :
    regRow (Reg.MODIN_IN_CFG n) = some ⟨0x40040400, 0x20, 56, 0x20, 1, 0x20, 1, 0x420406, 0x7ff7fff, 0x0, 0x0, 0x0, .plain⟩ := by
  decide +revert +kernel

/-! ### The word that INn_CFG holds (R107) -/

/-- R107: a written word without its reserved bits. -/
def inCfgWord (v : Word) : Word := v &&& 0x07FF7FFF#32

/-- Two fields of a word put back in their places. -/
theorem getLsbD_twoFields (v : Word) (a b w i : Nat) (h : a ≤ b) :
    (BitVec.ofNat 32 (cut v.toNat 0 a + 2 ^ b * cut v.toNat b w)).getLsbD i =
      (v.getLsbD i && decide (i < a ∨ b ≤ i ∧ i < b + w)) := by
  have hlow : cut v.toNat 0 a < 2 ^ b := Nat.lt_of_lt_of_le (Nat.mod_lt _ (Nat.two_pow_pos a)) (Nat.pow_le_pow_right (by decide) h)
  rw [BitVec.getLsbD_ofNat, Nat.add_comm, Nat.testBit_two_pow_mul_add _ hlow, testBit_cut, testBit_cut, Nat.zero_add]
  by_cases hi : i < 32
  · by_cases hb : i < b
    · simp only [hi, hb, decide_true, Bool.true_and, if_true, BitVec.testBit_toNat]
      rw [Bool.and_comm]
      congr 2
      simp only [eq_iff_iff]
      omega
    · simp only [hi, hb, decide_true, Bool.true_and, if_false, BitVec.testBit_toNat, show b + (i - b) = i by omega]
      rw [Bool.and_comm]
      congr 2
      simp only [eq_iff_iff]
      omega
  · rw [BitVec.getLsbD_of_ge v i (by omega)]
    simp [hi]

theorem ofNat_inCfg (v : Word) : BitVec.ofNat 32 (cut v.toNat 0 15 + 2 ^ 16 * cut v.toNat 16 11) = inCfgWord v := by
  have hmask : ∀ i : Fin 32, (0x07FF7FFF#32).getLsbD i = decide (i.val < 15 ∨ 16 ≤ i.val ∧ i.val < 16 + 11) := by decide
  refine BitVec.eq_of_getLsbD_eq fun i hi => ?_
  rw [getLsbD_twoFields _ _ _ _ _ (by decide), inCfgWord, BitVec.getLsbD_and, hmask ⟨i, hi⟩]

theorem ofNat_groupCfg (v : Word) : BitVec.ofNat 32 (cut v.toNat 0 7 + 2 ^ 8 * cut v.toNat 8 7) = v &&& 0x7F7F#32 := by
  have hmask : ∀ i : Fin 32, (0x7F7F#32).getLsbD i = decide (i.val < 7 ∨ 8 ≤ i.val ∧ i.val < 8 + 7) := by decide
  refine BitVec.eq_of_getLsbD_eq fun i hi => ?_
  rw [getLsbD_twoFields _ _ _ _ _ (by decide), BitVec.getLsbD_and, hmask ⟨i, hi⟩]

/-- A field without reserved bits is stored as written. -/
theorem cut_inCfgWord (v : Word) (lo w : Nat) (h : lo + w ≤ 15 ∨ 16 ≤ lo ∧ lo + w ≤ 27) :
    cut (inCfgWord v).toNat lo w = cut v.toNat lo w := by
  refine Nat.eq_of_testBit_eq fun i => ?_
  rw [testBit_cut, testBit_cut]
  by_cases hi : i < w
  · rw [BitVec.testBit_toNat, BitVec.testBit_toNat, ← ofNat_inCfg, getLsbD_twoFields _ _ _ _ _ (by decide),
      decide_eq_true (by omega : lo + i < 15 ∨ 16 ≤ lo + i ∧ lo + i < 16 + 11), Bool.and_true]
  · simp [hi]

/-! ### Enabling (R91, R102) -/

theorem State.le_edgeFrom (s : State) (g : Fin 7) (x : Nat) (hT : 0 < s.mclkT g) : x ≤ s.edgeFrom g x := by
  have h := Nat.lt_div_mul_add (a := x - s.modin.origin[g] + s.mclkT g - 1) hT
  unfold State.edgeFrom
  simp only []
  omega

theorem State.edgeFrom_congr {s t : State} {g : Fin 7} (horigin : t.modin.origin = s.modin.origin) (hT : t.mclkT g = s.mclkT g) (x : Nat) :
    t.edgeFrom g x = s.edgeFrom g x := by
  simp only [State.edgeFrom, horigin, hT]

/-- R101: INn_CFG holds a written word. -/
def State.inCfgSet (s : State) (n : Fin 56) (v : Word) : State := s.wr (Reg.MODIN_IN_CFG n) (inCfgWord v)

theorem State.inCfgSet_same (s : State) (n : Fin 56) (v : Word) : SameRegistersBut [Reg.MODIN_IN_CFG n] s (s.inCfgSet n v) := by
  intro a ha
  rw [List.mem_singleton] at ha
  exact (s.rd_wr _ a _).trans (if_neg ha)

theorem State.inCfgSet_rd (s : State) (n : Fin 56) (v : Word) : (s.inCfgSet n v).rd (Reg.MODIN_IN_CFG n) = inCfgWord v :=
  (s.rd_wr _ _ _).trans (if_pos rfl)

theorem State.inCfgSet_get (s : State) (n : Fin 56) (v : Word) (lo w : Nat) (h : lo + w ≤ 15 ∨ 16 ≤ lo ∧ lo + w ≤ 27) :
    (s.inCfgSet n v).get ⟨Reg.MODIN_IN_CFG n, lo, w⟩ = cut v.toNat lo w := by
  rw [State.get, State.rdN, s.inCfgSet_rd n v, cut_inCfgWord v lo w h]

theorem State.inCfgSet_en (s : State) (n : Fin 56) (v : Word) (h : v.getLsbD 0 = true) :
    (s.inCfgSet n v).get (Fd.MODIN_IN_CFG_EN n) = 1 := by
  refine (s.inCfgSet_get n v 0 1 (by decide)).trans ?_
  rwa [BitVec.getLsbD, Nat.testBit_zero, decide_eq_true_eq] at h

theorem State.inCfgSet_mclk (s : State) (n : Fin 56) (v : Word) (g : Fin 7) :
    (s.inCfgSet n v).mclkT g = s.mclkT g ∧ (s.inCfgSet n v).mclkOn g = s.mclkOn g := by
  have hrd : (s.inCfgSet n v).rd (Reg.PLL_MCLKDIV g) = s.rd (Reg.PLL_MCLKDIV g) := s.inCfgSet_same n v _ (by
    simp only [List.mem_singleton, Reg.PLL_MCLKDIV, Reg.MODIN_IN_CFG]
    omega)
  exact ⟨State.mclkT_congr hrd, State.mclkOn_congr hrd rfl⟩

theorem State.inCfgSet_edgeFrom (s : State) (n : Fin 56) (v : Word) (g : Fin 7) (x : Nat) :
    (s.inCfgSet n v).edgeFrom g x = s.edgeFrom g x :=
  State.edgeFrom_congr (s := s) (t := s.inCfgSet n v) rfl (s.inCfgSet_mclk n v g).1 x

section
variable (s : State) (n : Fin 56) (v : Word) (hpark : s.parked = [])
include hpark

theorem State.inputCfg_of_enabled (hen : s.on (Fd.MODIN_IN_CFG_EN n) = true) : s.inputCfg n v =
    if v.getLsbD 0 then s.raise Ev.MODIN_GFLAGS_CFGERR
    else s.landMod (grpOf n) (Reg.MODIN_IN_CFG n) (BitVec.ofNat 32 (s.rdN (Reg.MODIN_IN_CFG n) - 1)) fun s => s.inputStop n := by
  simp only [State.inputCfg, s.regView_of_none_parked _ hpark, s.testBit_inCfg, hen, if_true]

variable (hdis : s.on (Fd.MODIN_IN_CFG_EN n) = false)
include hdis

theorem State.inputCfg_of_out_of_range (hrange : inCfgOk v.toNat = false) : s.inputCfg n v = s.raise Ev.MODIN_GFLAGS_CFGERR := by
  simp only [State.inputCfg, s.regView_of_none_parked _ hpark, s.testBit_inCfg, hdis, hrange, Bool.not_false, Bool.true_or, if_true,
    Bool.false_eq_true, if_false]

variable (hrange : inCfgOk v.toNat = true)
include hrange

theorem State.inputCfg_of_stored (hoff : v.getLsbD 0 = false) : s.inputCfg n v = s.inCfgSet n v := by
  rw [State.inCfgSet, ← ofNat_inCfg]
  simp only [State.inputCfg, s.regView_of_none_parked _ hpark, s.testBit_inCfg, hdis, hrange, hoff, Bool.not_true, Bool.false_and,
    Bool.or_self, Bool.false_eq_true, if_false]
  rfl

theorem State.inputCfg_of_enabling (hon : v.getLsbD 0 = true) (hclk : s.mclkOn (grpOf n) = true)
    (hmode : s.get (Fd.MODIN_GCFG_MODE (grpOf n)) < 2) : s.inputCfg n v = (s.inCfgSet n v).inputStart n := by
  have hmode' : ¬ 2 ≤ cut (s.rdN (Reg.MODIN_GCFG (grpOf n))) 0 2 := Nat.not_le_of_lt hmode
  rw [State.inCfgSet, ← ofNat_inCfg]
  simp only [State.inputCfg, s.regView_of_none_parked _ hpark, s.testBit_inCfg, hdis, hrange, hon, hclk, hmode', Bool.not_true,
    Bool.true_and, decide_false, Bool.or_self, Bool.false_eq_true, if_false, if_true]
  rfl

end

/-- R102: the filters start cleared at the next reference edge but two periods. -/
theorem State.inputStart_input (s : State) (n : Fin 56) (hland : s.landing = false) : (s.inputStart n).modin.inputs[n] =
    { restart := s.edgeFrom (grpOf n) (s.now + 2 * s.mclkT (grpOf n) + 1), phase := s.groupPhase n } := by
  simp only [State.inputStart, State.inM_input, hland, Bool.false_eq_true, if_false]

theorem State.inputStart_regs (s : State) (n : Fin 56) : (s.inputStart n).regs = s.regs := rfl
theorem State.inputStart_mem (s : State) (n : Fin 56) : (s.inputStart n).mem = s.mem := rfl
theorem State.inputStart_now (s : State) (n : Fin 56) : (s.inputStart n).now = s.now := rfl

/-- R89, R102: an input that has just been enabled settles. -/
theorem State.inputStart_settling (s : State) (n : Fin 56) (hland : s.landing = false) (hen : s.on (Fd.MODIN_IN_CFG_EN n) = true)
    (hT : 0 < s.mclkT (grpOf n)) : (s.inputStart n).settling n = true := by
  have hedge := s.le_edgeFrom (grpOf n) (s.now + 2 * s.mclkT (grpOf n) + 1) hT
  have hnow : s.now < s.edgeFrom (grpOf n) (s.now + 2 * s.mclkT (grpOf n) + 1) + (s.inputStart n).settle n := by omega
  rw [State.settling, State.on_of_regs_eq (s.inputStart_regs n), hen, s.inputStart_input n hland, s.inputStart_now n]
  simp only [hnow, decide_true, Bool.or_true, Bool.and_self]

/-! ### Disabling (R102) -/

theorem State.landMod_of_running (s : State) (g : Fin 7) (a : Nat) (v : Word) (f : State → State) (h : s.mclkOn g = true) :
    ∃ t, s.landMod g a v f = f (s.reachNow t) := ⟨_, if_pos h⟩

theorem State.landMod_of_stopped (s : State) (g : Fin 7) (a : Nat) (v : Word) (f : State → State) (h : s.mclkOn g = false) :
    s.landMod g a v f = { s with parked := s.parked ++ [(a, v)] } := if_neg (by rw [h]; decide)

/-- R92, R102: a disabled input's state, ahead of its lines. -/
def State.inputCleared (s : State) (n : Fin 56) : State := ((s.put (Fd.MODIN_IN_CFG_EN n) 0).strobeDrop n).inM n fun _ => {}

theorem State.inputCleared_input (s : State) (n : Fin 56) : (s.inputCleared n).modin.inputs[n] = {} :=
  State.inM_input _ n _

theorem State.inputStop_input (s : State) (n : Fin 56) : (s.inputStop n).modin.inputs[n] = {} := by
  rw [State.inputStop, State.inputLines_modin]
  exact s.inputCleared_input n

theorem State.inputStop_fault (s : State) (n : Fin 56) : (s.inputStop n).get (Fd.MODIN_IN_FLAGS_FAULT n) = 0 := by
  refine (State.inputLines_fault (s.inputCleared n) n).trans ?_
  rw [s.inputCleared_input n]
  rfl

theorem State.inputStop_en (s : State) (n : Fin 56) : (s.inputStop n).get (Fd.MODIN_IN_CFG_EN n) = 0 := by
  refine (State.inputLines_get (s.inputCleared n) n _ ?_ (Or.inl ?_)).trans (s.get_put_field _ 0 1 0 (by decide))
  all_goals simp only [OutsideModin, Fd.MODIN_IN_CFG_EN, Reg.MODIN_IN_CFG, Reg.MODIN_IN_FLAGS]; omega

theorem State.Quiet.inputStop {s : State} (h : s.Quiet) (n : Fin 56) : (s.inputStop n).mem = s.mem := by
  refine (State.Quiet.inputLines (s := s.inputCleared n) (h.of_modin fun a ha => ?_) n).2
  refine s.rd_put_other (Fd.MODIN_IN_CFG_EN n) 0 a ?_
  simp only [OutsideModin] at ha
  simp only [Fd.MODIN_IN_CFG_EN, Reg.MODIN_IN_CFG]
  omega

/-- R77, R102: while the clock stands the disabling write waits, and reads back at once. -/
theorem State.regView_parked_off (s : State) (n : Fin 56) (hen : s.on (Fd.MODIN_IN_CFG_EN n) = true) :
    (State.regView { s with parked := [(Reg.MODIN_IN_CFG n, BitVec.ofNat 32 (s.rdN (Reg.MODIN_IN_CFG n) - 1))] }
      (Reg.MODIN_IN_CFG n)).testBit 0 = false := by
  have hbit := (s.testBit_inCfg n).trans hen
  have hlt : s.rdN (Reg.MODIN_IN_CFG n) < 2 ^ 32 := (s.rd _).isLt
  rw [Nat.testBit_zero, decide_eq_true_eq] at hbit
  have hword : (BitVec.ofNat 32 (s.rdN (Reg.MODIN_IN_CFG n) - 1)).toNat.testBit 0 = false := by
    rw [BitVec.toNat_ofNat, Nat.mod_eq_of_lt (by omega), Nat.testBit_zero, decide_eq_false_iff_not]
    omega
  unfold State.regView State.parkedView
  simp only [regRow_inCfg n, List.filter_cons, beq_self_eq_true, if_true, List.filter_nil, List.foldl_cons, List.foldl_nil]
  exact (RegRow.testBit_written _ _ _ 0 (by decide : Nat.testBit 0x7ff7fff 0 = true) rfl rfl).trans hword

/-! ### The configuration of a group (R101, R102) -/

section
variable (s : State) (g : Fin 7) (v : Word) (hpark : s.parked = [])
include hpark

theorem State.groupCfgWrite_of_enabled (n : Fin 56) (hgrp : grpOf n = g) (hen : s.on (Fd.MODIN_IN_CFG_EN n) = true) :
    s.groupCfgWrite g v = s.raise Ev.MODIN_GFLAGS_CFGERR := by
  refine if_pos (List.any_eq_true.mpr ⟨n, List.mem_finRange n, ?_⟩)
  rw [s.regView_inCfg n hpark, hen, hgrp, beq_self_eq_true]
  rfl

theorem State.groupCfgWrite_of_disabled (hdis : ∀ n : Fin 56, grpOf n = g → s.on (Fd.MODIN_IN_CFG_EN n) = false) :
    s.groupCfgWrite g v = s.landMod g (Reg.MODIN_GCFG g) v fun s => s.wr (Reg.MODIN_GCFG g) (v &&& 0x7F7F#32) := by
  rw [← ofNat_groupCfg]
  refine if_neg fun h => ?_
  obtain ⟨n, -, hn⟩ := List.any_eq_true.mp h
  rw [s.regView_inCfg n hpark, Bool.and_eq_true, beq_iff_eq] at hn
  rw [hdis n hn.1] at hn
  exact absurd hn.2 (by decide)

end

/-! ### The obligation -/

/-- Settles O18: each command answers the state that its case's lemma names, and the state's laws give the clause. -/
theorem modinHealthAndConfiguration : Obligations.ModinHealthAndConfiguration := by
  unfold Obligations.ModinHealthAndConfiguration
  refine ⟨?clkloss, ?clkPresent, ?stuck, ?noRun, ?violation, ?clkEnd, ?stuckEnd, ?manvEnd, ?enabledOn, ?disable, ?disableWaits,
    ?outOfRange, ?enable, ?store, ?group, ?groupWaits, ?groupRefused⟩
  case clkloss =>
    intro n missing s hen hmiss hcheck
    refine ⟨_, congrArg Host.Outcome.next (s.clkloss_of_missing n missing hen hmiss hcheck), ?_⟩
    split
    · obtain ⟨hflag, hclk, hfault⟩ := s.clkShown_enabledIn n hen
      exact ⟨hflag, hclk, hfault, fun hquiet => State.Quiet.clkSeen_enabledIn hquiet.1 _⟩
    · obtain ⟨hflag, hclk, hfault⟩ := s.clkSeen_shown n
      exact ⟨hflag, hclk, hfault, fun hquiet => (State.Quiet.healthSeen hquiet.1 n 2 (by decide) _).2⟩
  case clkPresent =>
    intro n missing s hmiss
    exact congrArg Host.Outcome.next (s.clkloss_of_present n missing hmiss)
  case stuck =>
    intro n line s hen hclk hlimit hrun
    refine ⟨_, congrArg Host.Outcome.next (s.stuckDetect_of_run n line hen hclk hlimit hrun), s.healthSeen_flag n 3 _ (by decide), ?_, ?_,
      fun hquiet => (State.Quiet.healthSeen hquiet.1 n 3 (by decide) _).2⟩
    · rw [State.healthSeen_input, ModinInput.stuckSeen_stuck]
    · rw [State.healthSeen_fault, ModinInput.fault, ModinInput.stuckSeen_stuck, Bool.or_true]
      rfl
  case noRun =>
    intro n line s hnone
    exact congrArg Host.Outcome.next (s.stuckDetect_of_no_run n line hnone)
  case violation =>
    intro n cell s hen hmode hclk hcell
    refine ⟨_, congrArg Host.Outcome.next (s.manchester_of_violation n cell hen hmode hclk hcell),
      State.healthSeen_flag _ n 4 _ (by decide), fun hthr => ?_, fun hquiet => ?_⟩
    · rw [State.healthSeen_input, State.healthSeen_now, hthr]
      exact ModinInput.violated_of_one ..
    · have hat : (s.violationAt n).Quiet := State.Quiet.of_rd hquiet.1 fun _ => s.violationAt_rd n _
      exact (hat.healthSeen n 4 (by decide) _).2.trans (s.violationAt_mem n)
  case clkEnd =>
    intro n absent s hact hlong
    refine ⟨_, congrArg Host.Outcome.next (s.healthEnd_clkloss n absent hact hlong), ?_⟩
    beta_reduce
    rw [State.inputLines_modin, State.inM_input]
    exact ⟨rfl, rfl, fun hquiet => ((State.Quiet.inM hquiet.1 n _).inputLines n).2⟩
  case stuckEnd =>
    intro n absent s hact hlong
    refine ⟨_, congrArg Host.Outcome.next (s.healthEnd_stuck n absent hact hlong), ?_⟩
    beta_reduce
    rw [State.inputLines_modin, State.inM_input]
    exact ⟨rfl, rfl, fun hquiet => ((State.Quiet.inM hquiet.1 n _).inputLines n).2⟩
  case manvEnd =>
    intro n absent s hact hclk
    refine ⟨_, congrArg Host.Outcome.next (s.healthEnd_manv n absent hact hclk), ?_⟩
    beta_reduce
    rw [State.inputLines_modin, State.inM_input, State.inputLines_now]
    refine ⟨rfl, s.le_reachNow_now _, fun hquiet => ?_⟩
    exact ((State.Quiet.inM (State.Quiet.advance hquiet.1 _) n _).inputLines n).2.trans (s.advance_mem _)
  case enabledOn =>
    intro n v s hen hpark hon
    refine ⟨_, congrArg Host.Outcome.next (s.inputCfg_of_enabled n v hpark hen), ?_⟩
    rw [if_pos hon]
    exact s.cfgerr_raised
  case disable =>
    intro n v s hen hpark hclk hoff
    refine ⟨_, congrArg Host.Outcome.next (s.inputCfg_of_enabled n v hpark hen), ?_⟩
    obtain ⟨t, ht⟩ := s.landMod_of_running (grpOf n) (Reg.MODIN_IN_CFG n) (BitVec.ofNat 32 (s.rdN (Reg.MODIN_IN_CFG n) - 1))
      (fun s => s.inputStop n) hclk
    rw [if_neg (by rw [hoff]; decide), ht]
    exact ⟨State.inputStop_en _ n, State.inputStop_fault _ n, State.inputStop_input _ n,
      fun hquiet => (State.Quiet.inputStop (State.Quiet.advance hquiet.1 _) n).trans (s.advance_mem _)⟩
  case disableWaits =>
    intro n v s hen hpark hclk hoff
    refine ⟨_, congrArg Host.Outcome.next (s.inputCfg_of_enabled n v hpark hen), ?_⟩
    rw [if_neg (by rw [hoff]; decide), State.landMod_of_stopped _ _ _ _ _ hclk, hpark]
    exact ⟨s.regView_parked_off n hen, rfl, rfl, rfl⟩
  case outOfRange =>
    intro n v s hdis hpark hrange
    exact ⟨_, congrArg Host.Outcome.next (s.inputCfg_of_out_of_range n v hpark hdis hrange), s.cfgerr_raised⟩
  case enable =>
    intro n v s hdis hpark hland hclk hrange hon hmode hdiv
    refine ⟨_, congrArg Host.Outcome.next (s.inputCfg_of_enabling n v hpark hdis hrange hon hclk hmode), ?_⟩
    obtain ⟨hT, -⟩ := s.inCfgSet_mclk n v (grpOf n)
    have hT0 : 0 < (s.inCfgSet n v).mclkT (grpOf n) := hT ▸ Nat.mul_pos (by decide) (by omega)
    have hen := s.inCfgSet_en n v hon
    rw [(s.inCfgSet n v).inputStart_input n hland, hT, s.inCfgSet_edgeFrom n v]
    simp only [State.get_of_regs_eq (State.inputStart_regs _ n)]
    refine ⟨hen, s.inCfgSet_get n v 1 3 (by decide), s.inCfgSet_get n v 4 11 (by decide), s.inCfgSet_get n v 16 2 (by decide),
      s.inCfgSet_get n v 18 7 (by decide), ?_, rfl, s.inCfgSet_same n v, rfl⟩
    exact (s.inCfgSet n v).inputStart_settling n hland (by rw [State.on, hen]; rfl) hT0
  case store =>
    intro n v s hdis hpark hrange hoff
    exact ⟨_, congrArg Host.Outcome.next (s.inputCfg_of_stored n v hpark hdis hrange hoff), s.inCfgSet_rd n v,
      s.inCfgSet_same n v, rfl, rfl⟩
  case group =>
    intro g v s hdis hpark hclk
    refine ⟨_, congrArg Host.Outcome.next (s.groupCfgWrite_of_disabled g v hpark hdis), ?_⟩
    obtain ⟨t, ht⟩ := s.landMod_of_running g (Reg.MODIN_GCFG g) v (fun s => s.wr (Reg.MODIN_GCFG g) (v &&& 0x7F7F#32)) hclk
    rw [ht]
    refine ⟨(State.rd_wr _ _ _ _).trans (if_pos rfl), fun a ha => ?_, s.advance_mem _⟩
    rw [List.mem_singleton] at ha
    exact (State.rd_wr _ _ _ _).trans ((if_neg ha).trans (s.advance_rd _ a))
  case groupWaits =>
    intro g v s hdis hpark hclk
    refine congrArg Host.Outcome.next ((s.groupCfgWrite_of_disabled g v hpark hdis).trans ?_)
    rw [State.landMod_of_stopped _ _ _ _ _ hclk, hpark]
    rfl
  case groupRefused =>
    intro g v n s hgrp hen hpark
    obtain ⟨hflag, hsame, -, hmem⟩ := s.cfgerr_raised
    exact ⟨_, congrArg Host.Outcome.next (s.groupCfgWrite_of_enabled g v hpark n hgrp hen), hflag, hsame, hmem⟩

end Sys2Proof.Machine

/-! SUPPORT. The ACU's commands (R113, R114, R116, R117, R121): what STATUS shows, what a start command puts in front of the
converter, and what converts next. -/
namespace Sys2Proof.Machine

/-! ### Fields and frames -/

theorem SameRegistersBut.trans {l : List Nat} {s t u : State} (h1 : SameRegistersBut l s t) (h2 : SameRegistersBut l t u) :
    SameRegistersBut l s u := fun a ha => (h2 a ha).trans (h1 a ha)

theorem State.put_sameRegistersBut (s : State) (f : Fld) (v : Nat) : SameRegistersBut [f.addr] s (s.put f v) :=
  fun a ha => s.rd_put_other f v a (by simpa using ha)

theorem State.acuM_sameRegistersBut (l : List Nat) (s : State) (f : Acu → Acu) : SameRegistersBut l s (s.acuM f) :=
  fun a _ => s.acuM_rd f a

/-- `State.get_put` with the field's bound written out, which `decide` discharges. -/
theorem State.get_put_within (s : State) (f : Fld) (v : Nat) (h : f.lo + f.w ≤ 32) : (s.put f v).get f = v % 2 ^ f.w :=
  s.get_put f v h

/-- `State.get_put_other` with the field's bound written out, which `decide` discharges. -/
theorem State.get_put_apart (s : State) (f g : Fld) (v : Nat) (h : f.lo + f.w ≤ 32)
    (hd : g.addr ≠ f.addr ∨ g.lo + g.w ≤ f.lo ∨ f.lo + f.w ≤ g.lo) : (s.put f v).get g = s.get g :=
  s.get_put_other f g v h hd

/-- A field's value fits into a field of its width. -/
theorem cut_mod (x lo w : Nat) : cut x lo w % 2 ^ w = cut x lo w := Nat.mod_mod _ _

/-! ### What STATUS shows -/

@[simp] theorem State.acuShow_acu (s : State) : s.acuShow.acu = s.acu := rfl
@[simp] theorem State.acuShow_mem (s : State) : s.acuShow.mem = s.mem := rfl

theorem State.acuShow_sameRegistersBut (s : State) : SameRegistersBut [Reg.ACU_STATUS] s s.acuShow :=
  ((s.put_sameRegistersBut Fd.ACU_STATUS_BUSY _).trans (State.put_sameRegistersBut _ Fd.ACU_STATUS_URGPEND _)).trans
    (State.put_sameRegistersBut _ Fd.ACU_STATUS_CALRUN _)

theorem State.acuShow_busy (s : State) : s.acuShow.get Fd.ACU_STATUS_BUSY = s.acu.run.isSome.toNat := by
  unfold State.acuShow State.putB
  simp (disch := decide) only [State.get_put_apart, State.get_put_within]
  cases s.acu.run <;> rfl

theorem State.acuShow_calrun (s : State) : s.acuShow.get Fd.ACU_STATUS_CALRUN = s.acu.cal.isSome.toNat := by
  unfold State.acuShow State.putB
  simp (disch := decide) only [State.get_put_within]
  cases s.acu.cal <;> rfl

/-- A field outside the bits BUSY, URGPEND and CALRUN. -/
theorem State.acuShow_get (s : State) (f : Fld)
    (h : ∀ b ∈ [Fd.ACU_STATUS_BUSY, Fd.ACU_STATUS_URGPEND, Fd.ACU_STATUS_CALRUN],
      f.addr ≠ b.addr ∨ f.lo + f.w ≤ b.lo ∨ b.lo + b.w ≤ f.lo) : s.acuShow.get f = s.get f := by
  simp only [List.forall_mem_cons] at h
  obtain ⟨hbusy, hurgpend, hcalrun, -⟩ := h
  rw [State.acuShow, State.putB, State.get_put_apart _ _ _ _ (by decide) hcalrun, State.putB,
    State.get_put_apart _ _ _ _ (by decide) hurgpend, State.putB, State.get_put_apart _ _ _ _ (by decide) hbusy]

/-! ### A start command (R113) -/

/-- R113: a conversion's start command depends on the instant and on the register ACU_CFG. -/
theorem State.asked_congr {s t : State} (hnow : t.now = s.now) (hregs : SameRegistersBut [Reg.ACU_STATUS] s t) (k : AcuKind)
    (ch osr : Nat) : t.asked k ch osr = s.asked k ch osr := by
  have hfall : t.get Fd.ACU_CFG_URGMODE = s.get Fd.ACU_CFG_URGMODE := hregs.get _ (by decide)
  have hcorr : t.get Fd.ACU_CFG_CORREN = s.get Fd.ACU_CFG_CORREN := hregs.get _ (by decide)
  simp only [State.asked, State.on, hnow, hfall, hcorr]

/-- R113: a conversion stands in front of the converter, and nothing of an earlier one is left. -/
def Acu.begun (c : AcuConv) (a : Acu) : Acu := { a with run := some c, turns := [], lost := false }

theorem State.acuBegin_eq (s : State) (c : AcuConv) :
    s.acuBegin c = (s.acuM (Acu.begun (s.asked c.kind c.ch c.osr))).acuShow := rfl

@[simp] theorem State.acuBegin_acu (s : State) (c : AcuConv) : (s.acuBegin c).acu = s.acu.begun (s.asked c.kind c.ch c.osr) := rfl
@[simp] theorem State.acuBegin_mem (s : State) (c : AcuConv) : (s.acuBegin c).mem = s.mem := rfl

theorem State.acuBegin_busy (s : State) (c : AcuConv) : (s.acuBegin c).get Fd.ACU_STATUS_BUSY = 1 :=
  State.acuShow_busy (s.acuM (Acu.begun (s.asked c.kind c.ch c.osr)))

theorem State.acuBegin_calrun (s : State) (c : AcuConv) : (s.acuBegin c).get Fd.ACU_STATUS_CALRUN = s.acu.cal.isSome.toNat :=
  State.acuShow_calrun (s.acuM (Acu.begun (s.asked c.kind c.ch c.osr)))

/-- A field outside the bits BUSY, URGPEND and CALRUN. -/
theorem State.acuBegin_get (s : State) (c : AcuConv) (f : Fld)
    (h : ∀ b ∈ [Fd.ACU_STATUS_BUSY, Fd.ACU_STATUS_URGPEND, Fd.ACU_STATUS_CALRUN],
      f.addr ≠ b.addr ∨ f.lo + f.w ≤ b.lo ∨ b.lo + b.w ≤ f.lo) : (s.acuBegin c).get f = s.get f :=
  State.acuShow_get (s.acuM (Acu.begun (s.asked c.kind c.ch c.osr))) f h

theorem State.acuBegin_sameRegistersBut (s : State) (c : AcuConv) : SameRegistersBut [Reg.ACU_STATUS] s (s.acuBegin c) :=
  State.acuShow_sameRegistersBut (s.acuM (Acu.begun (s.asked c.kind c.ch c.osr)))

/-! ### What converts next (R116, R118) -/

theorem State.acuNext_of_running (s : State) (hrun : s.acu.run.isSome = true) : s.acuNext = s.acuShow :=
  if_pos (by rw [hrun, Bool.true_or])

section Free

variable (s : State) (hrun : s.acu.run = none) (hwarned : s.pmu.warned = false) (hurgent : s.acu.urgent = 0)
  (hinterrupted : s.acu.interrupted = none)
include hrun hwarned hurgent hinterrupted

theorem State.acuNext_of_cal (c : AcuCal) (hcal : s.acu.cal = some c) :
    s.acuNext = s.acuBegin { kind := .cal, ch := c.ch, osr := c.osr } := by
  simp [State.acuNext, hrun, hwarned, hurgent, hinterrupted, hcal]

theorem State.acuNext_of_list (hcal : s.acu.cal = none) (hlist : s.on Fd.ACU_STATUS_LISTRUN = true)
    (hpace : s.on Fd.ACU_CFG_PACE = false) :
    s.acuNext = (s.put Fd.ACU_STATUS_STEPPEND 0).acuBegin { kind := .list, ch := 0, osr := 0 } := by
  simp [State.acuNext, hrun, hwarned, hurgent, hinterrupted, hcal, hlist, hpace]

end Free

/-! ### Refusals (R113, R114) -/

theorem State.acuRefuse_flag (s : State) (bad : Bool) : (s.acuRefuse bad).flag Ev.ACU_FLAGS_REFUSED = true := by
  have hflag : (s.raise Ev.ACU_FLAGS_REFUSED).flag Ev.ACU_FLAGS_REFUSED = true := s.flag_raise _ (by decide) (by decide)
  rwa [State.acuRefuse, State.flag, State.on, State.get_raiseIf_other _ _ _ _ (by decide) (by decide) (by decide)]

theorem State.acuRefuse_badword (s : State) : (s.acuRefuse true).flag Ev.ACU_FLAGS_BADWORD = true :=
  State.flag_raise _ _ (by decide) (by decide)

@[simp] theorem State.acuRefuse_acu (s : State) (bad : Bool) : (s.acuRefuse bad).acu = s.acu := by
  rw [State.acuRefuse, State.raiseIf_acu, State.raise_acu]
@[simp] theorem State.acuRefuse_mem (s : State) (bad : Bool) : (s.acuRefuse bad).mem = s.mem := by
  rw [State.acuRefuse, State.raiseIf_mem, State.raise_mem]

theorem State.acuRefuse_sameRegistersBut (s : State) (bad : Bool) :
    SameRegistersBut [Reg.ACU_FLAGS, Ev.ACU_FLAGS_REFUSED.cnt, Ev.ACU_FLAGS_BADWORD.cnt] s (s.acuRefuse bad) := by
  intro a ha
  simp only [List.mem_cons, List.not_mem_nil, or_false, not_or] at ha
  obtain ⟨hflags, hrefused, hbadword⟩ := ha
  rw [State.acuRefuse, State.rd_raiseIf_other _ _ _ _ hflags hbadword, State.rd_raise_other _ _ _ hflags hrefused]

/-! ### SINGLE and the calibrations (R113, R121) -/

theorem State.acuSingle_of_invalid (s : State) (hsel : selOk (s.get Fd.ACU_CHSEL_CH) (s.get Fd.ACU_CHSEL_OSR) = false) :
    s.acuSingle = s.acuRefuse true :=
  if_pos (by rw [hsel]; rfl)

/-- R121: the calibration step that a command of CALZERO or CALFULL starts. -/
def State.calAsked (s : State) (full : Bool) : AcuCal :=
  ⟨full, s.get Fd.ACU_CALCH_CH, s.acuOsr (s.get Fd.ACU_CALCH_OSR), 2 ^ min 8 (s.get Fd.ACU_CALCH_AVG), 0, 0⟩

/-- R121: the state in which that step is to make its first conversion. -/
def State.calStarted (s : State) (full : Bool) : State := s.acuM fun a => { a with cal := some (s.calAsked full) }

section Idle

variable (s : State) (hrun : s.acu.run = none) (hlist : s.on Fd.ACU_STATUS_LISTRUN = false) (hwarned : s.pmu.warned = false)
include hrun hlist hwarned

theorem State.acuSingle_of_valid (hsel : selOk (s.get Fd.ACU_CHSEL_CH) (s.get Fd.ACU_CHSEL_OSR) = true) :
    s.acuSingle = s.acuBegin { kind := .single, ch := s.get Fd.ACU_CHSEL_CH, osr := s.acuOsr (s.get Fd.ACU_CHSEL_OSR) } := by
  simp [State.acuSingle, State.acuIdle, hsel, hrun, hlist, hwarned]

/-- R121: a calibration whose select is valid starts its first conversion at once. -/
theorem State.acuCal_of_valid (full : Bool) (hsel : selOk (s.get Fd.ACU_CALCH_CH) (s.get Fd.ACU_CALCH_OSR) = true)
    (hurgent : s.acu.urgent = 0) (hinterrupted : s.acu.interrupted = none) :
    s.acuCal full = (s.calStarted full).acuBegin { kind := .cal, ch := (s.calAsked full).ch, osr := (s.calAsked full).osr } := by
  have hstart : s.acuCal full = (s.calStarted full).acuNext := by
    simp [State.acuCal, State.acuIdle, State.calStarted, State.calAsked, hsel, hrun, hlist, hwarned]
  exact hstart.trans ((s.calStarted full).acuNext_of_cal hrun hwarned hurgent hinterrupted (s.calAsked full) rfl)

/-- R113, R121: what the start of a calibration leaves: the step, its first conversion, and STATUS. -/
theorem State.acuCal_starts (full : Bool) (hsel : selOk (s.get Fd.ACU_CALCH_CH) (s.get Fd.ACU_CALCH_OSR) = true)
    (hurgent : s.acu.urgent = 0) (hinterrupted : s.acu.interrupted = none) :
    (s.acuCal full).acu.cal = some (s.calAsked full) ∧
      (s.acuCal full).acu.run = some (s.asked .cal (s.calAsked full).ch (s.calAsked full).osr) ∧
      (s.acuCal full).get Fd.ACU_STATUS_CALRUN = 1 ∧ SameRegistersBut [Reg.ACU_STATUS] s (s.acuCal full) ∧
      (s.acuCal full).mem = s.mem := by
  rw [s.acuCal_of_valid hrun hlist hwarned full hsel hurgent hinterrupted]
  exact ⟨rfl, rfl, (s.calStarted full).acuBegin_calrun _,
    (State.acuM_sameRegistersBut _ _ _).trans ((s.calStarted full).acuBegin_sameRegistersBut _), rfl⟩

end Idle

/-! ### Lists (R116, R117) -/

theorem State.acuListgo_of_running (s : State) (hlist : s.on Fd.ACU_STATUS_LISTRUN = true) : s.acuListgo = s.acuRefuse false :=
  if_pos (by rw [hlist]; rfl)

/-- R116: the list runs and stands at FIRST. -/
def State.listStarted (s : State) : State :=
  ((s.put Fd.ACU_STATUS_LISTRUN 1).put Fd.ACU_STATUS_IDX (s.get Fd.ACU_LISTCTRL_FIRST)).acuM fun a => { a with stopping := false }

@[simp] theorem State.listStarted_acu (s : State) : s.listStarted.acu = { s.acu with stopping := false } := rfl
@[simp] theorem State.listStarted_mem (s : State) : s.listStarted.mem = s.mem := rfl
@[simp] theorem State.listStarted_pmu (s : State) : s.listStarted.pmu = s.pmu := rfl

theorem State.listStarted_listrun (s : State) : s.listStarted.get Fd.ACU_STATUS_LISTRUN = 1 := by
  unfold State.listStarted
  rw [State.acuM_get, State.get_put_apart _ _ _ _ (by decide) (by decide), State.get_put_within _ _ _ (by decide)]
  rfl

theorem State.listStarted_idx (s : State) : s.listStarted.get Fd.ACU_STATUS_IDX = s.get Fd.ACU_LISTCTRL_FIRST := by
  unfold State.listStarted
  rw [State.acuM_get, State.get_put_within _ _ _ (by decide)]
  exact cut_mod _ 0 10

theorem State.listStarted_sameRegistersBut (s : State) : SameRegistersBut [Reg.ACU_STATUS] s s.listStarted :=
  ((s.put_sameRegistersBut Fd.ACU_STATUS_LISTRUN 1).trans (State.put_sameRegistersBut _ Fd.ACU_STATUS_IDX _)).trans
    (State.acuM_sameRegistersBut _ _ _)

theorem State.acuListgo_of_stopped (s : State) (hlist : s.on Fd.ACU_STATUS_LISTRUN = false) (hcal : s.acu.cal = none)
    (hwarned : s.pmu.warned = false) : s.acuListgo = s.listStarted.acuNext := by
  simp only [State.acuListgo, hlist, hcal, hwarned, Option.isSome_none, Bool.or_self, Bool.false_eq_true, if_false]
  rfl

/-- R116: with nothing else to convert, LISTGO of a free-running list starts its first entry. -/
theorem State.acuListgo_of_idle (s : State) (hlist : s.on Fd.ACU_STATUS_LISTRUN = false) (hcal : s.acu.cal = none)
    (hwarned : s.pmu.warned = false) (hrun : s.acu.run = none) (hurgent : s.acu.urgent = 0) (hinterrupted : s.acu.interrupted = none)
    (hpace : s.on Fd.ACU_CFG_PACE = false) :
    s.acuListgo = (s.listStarted.put Fd.ACU_STATUS_STEPPEND 0).acuBegin { kind := .list, ch := 0, osr := 0 } := by
  rw [s.acuListgo_of_stopped hlist hcal hwarned]
  refine s.listStarted.acuNext_of_list hrun hwarned hurgent hinterrupted hcal ?_ ?_
  · rw [State.on, s.listStarted_listrun]
    rfl
  · rwa [State.on, s.listStarted_sameRegistersBut.get Fd.ACU_CFG_PACE (by decide)]

theorem State.listStop_sameRegistersBut (s : State) : SameRegistersBut [Reg.ACU_STATUS] s s.listStop :=
  ((s.put_sameRegistersBut Fd.ACU_STATUS_LISTRUN 0).trans (State.put_sameRegistersBut _ Fd.ACU_STATUS_STEPPEND 0)).trans
    (State.acuM_sameRegistersBut _ _ _)

theorem State.listStop_listrun (s : State) : s.listStop.get Fd.ACU_STATUS_LISTRUN = 0 := by
  unfold State.listStop
  rw [State.acuM_get, State.get_put_apart _ _ _ _ (by decide) (by decide), State.get_put_within _ _ _ (by decide)]
  rfl

theorem State.listStop_steppend (s : State) : s.listStop.get Fd.ACU_STATUS_STEPPEND = 0 := by
  unfold State.listStop
  rw [State.acuM_get, State.get_put_within _ _ _ (by decide)]
  rfl

/-- R117: a list of which no entry converts stops at once. -/
theorem State.acuListstop_of_no_entry (s : State) (hlist : s.on Fd.ACU_STATUS_LISTRUN = true) (hrun : s.acu.run = none)
    (hinterrupted : s.acu.interrupted = none) : s.acuListstop = s.listStop := by
  simp [State.acuListstop, hlist, hrun, hinterrupted]

/-- R117: a list of which an entry converts stops when that has completed. -/
theorem State.acuListstop_of_entry (s : State) (c : AcuConv) (hlist : s.on Fd.ACU_STATUS_LISTRUN = true) (hrun : s.acu.run = some c)
    (hkind : c.kind = .list) : s.acuListstop = s.acuM fun a => { a with stopping := true } := by
  simp [State.acuListstop, hlist, hrun, hkind]

/-! ### ACU_CFG (R113) -/

/-- R113: URGMODE and CORREN as a write of ACU_CFG leaves them, whatever runs. -/
def State.cfgAlways (s : State) (v : Word) : State :=
  (s.put Fd.ACU_CFG_URGMODE (cut v.toNat 0 1)).put Fd.ACU_CFG_CORREN (cut v.toNat 1 1)

/-- R113: ACU_CFG as a write that is taken whole leaves it. -/
def State.cfgWhole (s : State) (v : Word) : State :=
  (((s.cfgAlways v).put Fd.ACU_CFG_PACE (cut v.toNat 2 1)).put Fd.ACU_CFG_WRAP (cut v.toNat 3 1)).put Fd.ACU_CFG_OSR
    (cut v.toNat 16 13)

theorem State.acuCfgWrite_of_idle (s : State) (v : Word) (hrun : s.acu.run = none) (hlist : s.on Fd.ACU_STATUS_LISTRUN = false)
    (hlow : 256 ≤ cut v.toNat 16 13) (hhigh : cut v.toNat 16 13 ≤ 4096) : s.acuCfgWrite v = s.cfgWhole v := by
  have hrange : decide (cut v.toNat 16 13 < 256 ∨ 4096 < cut v.toNat 16 13) = false := decide_eq_false (by omega)
  have hidle : s.acuIdle = true := by rw [State.acuIdle, hrun]; rfl
  refine if_neg ?_
  rw [hidle, hlist, hrange]
  simp

theorem State.acuCfgWrite_of_running (s : State) (v : Word) (hrun : s.acu.run.isSome = true)
    (hosr : cut v.toNat 16 13 ≠ s.get Fd.ACU_CFG_OSR) : s.acuCfgWrite v = (s.cfgAlways v).acuRefuse false := by
  have hbusy : s.acuIdle = false := by rw [State.acuIdle, ← Option.not_isSome, hrun]; rfl
  refine if_pos ?_
  rw [hbusy, decide_eq_true (Or.inl hosr)]
  rfl

theorem State.cfgAlways_fields (s : State) (v : Word) :
    (s.cfgAlways v).get Fd.ACU_CFG_URGMODE = cut v.toNat 0 1 ∧ (s.cfgAlways v).get Fd.ACU_CFG_CORREN = cut v.toNat 1 1 ∧
      (s.cfgAlways v).get Fd.ACU_CFG_OSR = s.get Fd.ACU_CFG_OSR := by
  unfold State.cfgAlways
  simp (disch := decide) only [State.get_put_apart, State.get_put_within, and_true]
  exact ⟨cut_mod _ 0 1, cut_mod _ 1 1⟩

theorem State.cfgWhole_fields (s : State) (v : Word) :
    (s.cfgWhole v).get Fd.ACU_CFG_URGMODE = cut v.toNat 0 1 ∧ (s.cfgWhole v).get Fd.ACU_CFG_CORREN = cut v.toNat 1 1 ∧
      (s.cfgWhole v).get Fd.ACU_CFG_PACE = cut v.toNat 2 1 ∧ (s.cfgWhole v).get Fd.ACU_CFG_WRAP = cut v.toNat 3 1 ∧
      (s.cfgWhole v).get Fd.ACU_CFG_OSR = cut v.toNat 16 13 := by
  obtain ⟨hurgmode, hcorren, -⟩ := s.cfgAlways_fields v
  unfold State.cfgWhole
  simp (disch := decide) only [State.get_put_apart, State.get_put_within]
  exact ⟨hurgmode, hcorren, cut_mod _ 2 1, cut_mod _ 3 1, cut_mod _ 16 13⟩

theorem State.cfgWhole_sameRegistersBut (s : State) (v : Word) : SameRegistersBut [Reg.ACU_CFG] s (s.cfgWhole v) := by
  have halways : SameRegistersBut [Reg.ACU_CFG] s (s.cfgAlways v) :=
    (s.put_sameRegistersBut Fd.ACU_CFG_URGMODE _).trans (State.put_sameRegistersBut _ Fd.ACU_CFG_CORREN _)
  exact ((halways.trans (State.put_sameRegistersBut _ Fd.ACU_CFG_PACE _)).trans (State.put_sameRegistersBut _ Fd.ACU_CFG_WRAP _)).trans
    (State.put_sameRegistersBut _ Fd.ACU_CFG_OSR _)

/-! ### The obligation -/

/-- Settles O19: each command is brought to the case of it that the clause names, and that case's laws give the clause. -/
theorem acuCommands : Obligations.AcuCommands := by
  unfold Obligations.AcuCommands
  refine ⟨?single, ?singleInvalid, ?listgoWaits, ?listgo, ?listgoRefused, ?liststop, ?liststopLater, ?calzero, ?calfull, ?cfg,
    ?cfgRefused⟩
  case single =>
    intro s hsel hrun hlist hwarned
    exact ⟨_, congrArg Host.Outcome.next (s.acuSingle_of_valid hrun hlist hwarned hsel), rfl, s.acuBegin_busy _,
      s.acuBegin_sameRegistersBut _, rfl⟩
  case singleInvalid =>
    intro s hsel
    exact ⟨_, congrArg Host.Outcome.next (s.acuSingle_of_invalid hsel), s.acuRefuse_flag true, s.acuRefuse_badword,
      s.acuRefuse_acu true, s.acuRefuse_mem true⟩
  case listgoWaits =>
    intro s hlist hcal hwarned hrun
    have hnext := (s.acuListgo_of_stopped hlist hcal hwarned).trans (s.listStarted.acuNext_of_running hrun)
    exact ⟨_, congrArg Host.Outcome.next hnext, (s.listStarted.acuShow_get _ (by decide)).trans s.listStarted_listrun,
      (s.listStarted.acuShow_get _ (by decide)).trans s.listStarted_idx, rfl, rfl⟩
  case listgo =>
    intro s hlist hcal hwarned hrun hurgent hinterrupted hpace
    refine ⟨_, congrArg Host.Outcome.next (s.acuListgo_of_idle hlist hcal hwarned hrun hurgent hinterrupted hpace), ?_, ?_, ?_,
      State.acuBegin_busy _ _, rfl⟩
    · rw [State.acuBegin_get _ _ _ (by decide), State.get_put_apart _ _ _ _ (by decide) (by decide), s.listStarted_listrun]
    · rw [State.acuBegin_get _ _ _ (by decide), State.get_put_apart _ _ _ _ (by decide) (by decide), s.listStarted_idx]
    · have hregs := s.listStarted_sameRegistersBut.trans (s.listStarted.put_sameRegistersBut Fd.ACU_STATUS_STEPPEND 0)
      have hnow : (s.listStarted.put Fd.ACU_STATUS_STEPPEND 0).now = s.now := rfl
      exact congrArg some (State.asked_congr hnow hregs .list 0 0)
  case listgoRefused =>
    intro s hlist
    exact ⟨_, congrArg Host.Outcome.next (s.acuListgo_of_running hlist), s.acuRefuse_flag false, s.acuRefuse_acu false,
      s.acuRefuse_mem false⟩
  case liststop =>
    intro s hlist hrun hinterrupted
    exact ⟨_, congrArg Host.Outcome.next (s.acuListstop_of_no_entry hlist hrun hinterrupted), s.listStop_listrun, s.listStop_steppend,
      s.listStop_sameRegistersBut, rfl⟩
  case liststopLater =>
    intro c s hlist hrun hkind
    exact ⟨_, congrArg Host.Outcome.next (s.acuListstop_of_entry c hlist hrun hkind), rfl, rfl, rfl⟩
  case calzero =>
    intro s hsel hrun hlist hwarned hurgent hinterrupted
    exact ⟨_, rfl, s.acuCal_starts hrun hlist hwarned false hsel hurgent hinterrupted⟩
  case calfull =>
    intro s hsel hrun hlist hwarned hurgent hinterrupted
    exact ⟨_, rfl, s.acuCal_starts hrun hlist hwarned true hsel hurgent hinterrupted⟩
  case cfg =>
    intro v s hrun hlist hlow hhigh
    obtain ⟨hurgmode, hcorren, hpace, hwrap, hosr⟩ := s.cfgWhole_fields v
    exact ⟨_, congrArg Host.Outcome.next (s.acuCfgWrite_of_idle v hrun hlist hlow hhigh), hurgmode, hcorren, hpace, hwrap, hosr,
      s.cfgWhole_sameRegistersBut v, rfl, rfl⟩
  case cfgRefused =>
    intro v s hrun hne
    obtain ⟨hurgmode, hcorren, hosr⟩ := s.cfgAlways_fields v
    have hregs := (s.cfgAlways v).acuRefuse_sameRegistersBut false
    exact ⟨_, congrArg Host.Outcome.next (s.acuCfgWrite_of_running v hrun hne), (hregs.get _ (by decide)).trans hurgmode,
      (hregs.get _ (by decide)).trans hcorren, (hregs.get _ (by decide)).trans hosr,
      State.acuRefuse_flag _ _, State.acuRefuse_mem _ _⟩

end Sys2Proof.Machine

/-! SUPPORT. A conversion without its clock (R112). -/
namespace Sys2Proof.Machine

/-- R112: what holds of the state that ACU_NOCLK answers. -/
theorem answers_acuNoclk_iff (s : State) (P : State → Prop) : Answers .acuNoclk s P ↔ P s.acuNoclk := by
  have hexec : exec .acuNoclk s = .next s.acuNoclk := rfl
  simp [Answers, hexec]

/-- R114: nothing ends for want of a clock while the running conversion's select is invalid. -/
theorem State.acuNoclk_of_invalid (s : State) (c : AcuConv) (hrun : s.acu.run = some c)
    (hsel : selOk (s.acuTarget c).ch (s.acuTarget c).osr = false) : s.acuNoclk = s := by
  simp [State.acuNoclk, hrun, hsel]

/-- A single conversion of input 0 by the ratio 1, started at time 0; MCLK0 stands. -/
def ratioOneRuns : State := { State.reset with acu := { run := some { kind := .single, ch := 0, osr := 1, start := some 0 } } }

/-- Refutes O21: the clause of a single conversion whose clock stands lacks the premise `selOk ch osr`, which SINGLE checks before it
starts a conversion (R114). By it a conversion with the ratio 1 would end with NOCLK too, and ACU_NOCLK leaves that one as it
is. -/
theorem not_acuConversions : ¬ Obligations.AcuConversions := by
  unfold Obligations.AcuConversions
  rintro ⟨-, -, -, hstands, -⟩
  obtain ⟨hnoclk, -⟩ := (answers_acuNoclk_iff ..).mp (hstands 0 1 0 0 false false ratioOneRuns rfl (by decide) (by decide +kernel))
  rw [ratioOneRuns.acuNoclk_of_invalid _ rfl rfl] at hnoclk
  exact absurd hnoclk (by decide +kernel)

end Sys2Proof.Machine

/-! SUPPORT. The load of a carrier for which a value has landed with a repeated arming (R190, R197, R200). -/
namespace Sys2Proof.Machine

/-- R189: what holds of the state that CARRIER_ZERO answers. -/
theorem answers_carrierZero_iff (c : Fin 8) (s : State) (P : State → Prop) : Answers (.carrierZero c) s P ↔ P (s.carrierZero c) := by
  have hexec : exec (.carrierZero c) s = .next (s.carrierZero c) := rfl
  simp [Answers, hexec]

/-- Carrier 0 runs with the least period, 240 tbu before its zero, and is armed since its start; all else is as after reset. -/
def armedNearZero : State :=
  { ((State.reset.put Fd.PLL_STATUS_SYNCLOCK 1).put (Fd.PWM_C_ACTPER_PER (0 : Fin 8)) 32000).put Fd.PWM_LOADALL_ALL 1 with
    now := 31760, tbl := { count := 31760 }, pwm := { carriers := Vector.replicate 8 { run := true, tau := 31760, abs := 31760 } } }

/-- Armed carrier 0, which loads at its zero, has come to its zero; leg 0 follows it; its shadow period holds 32,000. -/
abbrev MeetsZeroArmed (s : State) : Prop :=
  s.pwm.carriers[(0 : Fin 8)].run = true ∧ s.pwmRuns = true ∧ (s.get Fd.PWM_LOADALL_ALL).testBit (0 : Fin 8).val = true ∧
    s.get (Fd.PWM_C_CFG_LDPT (0 : Fin 8)) = 0 ∧ s.pwm.carriers[(0 : Fin 8)].armedAt + 120 ≤ s.now ∧
    s.pwm.carriers[(0 : Fin 8)].tau = s.period 0 ∧ s.carOf 0 = 0 ∧ s.on (Fd.PWM_LEG_CFG_EDGE (0 : Fin 48)) = false ∧
    s.get (Fd.PWM_C_PER_PER (0 : Fin 8)) = 32000

/-- The carrier is armed again in the PWM cycle in which a write of 40,000 lands on its shadow period, 160 tbu before its zero; the
shadow register keeps its 32,000, and at the zero 40,000 loads. -/
theorem run_loads_rearmed_period :
    ∃ s : State, core.run 4 { armedNearZero with pending :=
        [.loadallWrite ⟨1, false⟩, .shadowWriteLand (.per 0) 40000 true, .loadcnclWrite 0, .loadcnclWrite 0] } = .next s ∧
      MeetsZeroArmed s ∧ (s.carrierZero 0).get (Fd.PWM_C_ACTPER_PER (0 : Fin 8)) = 40000 :=
  exists_next_of_nextSatisfies (by decide +kernel)

/-- Refutes O37: its clause on the load has every shadow load as the register stands. A value that landed with a repeated arming
loads in its place (R200): the model keeps it beside the register until the load (`Pwm.rearmed`), and the premise that none waits
for the carrier is missing. -/
theorem not_carrierEvents : ¬ Obligations.CarrierEvents := by
  unfold Obligations.CarrierEvents
  rintro ⟨-, hload, -⟩
  obtain ⟨s, -, ⟨hrun, hruns, harmed, hldpt, hearly, htau, hcar, hedge, hper⟩, hactive⟩ := run_loads_rearmed_period
  obtain ⟨-, -, hclaimed, -⟩ := (answers_carrierZero_iff ..).mp (hload 0 0 s hrun hruns harmed hldpt hearly htau hcar hedge)
  rw [hper, hactive] at hclaimed
  exact absurd hclaimed (by decide)

/-- Refutes O60: its first clause loads the period that stands in the shadow register. With 32,000 there and 40,000 landed with a
repeated arming, 40,000 loads (R200); the premise that no such value waits for the carrier is missing. -/
theorem not_shadowPeriodClamp : ¬ Obligations.ShadowPeriodClamp := by
  unfold Obligations.ShadowPeriodClamp
  rintro ⟨hload, -⟩
  obtain ⟨s, -, ⟨hrun, hruns, harmed, hldpt, hearly, htau, -, -, hper⟩, hactive⟩ := run_loads_rearmed_period
  obtain ⟨hclaimed, -⟩ := (answers_carrierZero_iff ..).mp (hload 0 s hrun hruns harmed (by rw [hldpt]; decide) hearly htau)
  rw [hper, hactive] at hclaimed
  exact absurd hclaimed (by decide)

end Sys2Proof.Machine

/-! SUPPORT. Loading (R196–R200): what an arming and a cancel do to a carrier, and a value that lands on a shadow. -/
namespace Sys2Proof.Machine

/-! ### PWM as time passes (R189) -/

/-- R189: of PWM's hidden state time changes the running carriers' counters alone. -/
theorem State.advance_pwm_eq (s : State) (k : Nat) : ∃ d, (s.advance k).pwm = { s.pwm with
    carriers := s.pwm.carriers.map fun c => if c.run then { c with tau := c.tau + d, abs := c.abs + d } else c } := by
  have hstands : s.pwm = { s.pwm with
      carriers := s.pwm.carriers.map fun c => if c.run then { c with tau := c.tau + 0, abs := c.abs + 0 } else c } := by simp
  unfold State.advance
  simp only []
  split
  · unfold State.advanceCarriers
    split
    · exact ⟨0, hstands⟩
    · exact ⟨_, rfl⟩
  · exact ⟨0, hstands⟩

@[simp] theorem State.advance_legs (s : State) (k : Nat) : (s.advance k).pwm.legs = s.pwm.legs := by
  obtain ⟨d, h⟩ := s.advance_pwm_eq k; rw [h]
@[simp] theorem State.advance_frozen (s : State) (k : Nat) : (s.advance k).pwm.frozen = s.pwm.frozen := by
  obtain ⟨d, h⟩ := s.advance_pwm_eq k; rw [h]
@[simp] theorem State.advance_held (s : State) (k : Nat) : (s.advance k).pwm.held = s.pwm.held := by
  obtain ⟨d, h⟩ := s.advance_pwm_eq k; rw [h]
@[simp] theorem State.advance_rearmed (s : State) (k : Nat) : (s.advance k).pwm.rearmed = s.pwm.rearmed := by
  obtain ⟨d, h⟩ := s.advance_pwm_eq k; rw [h]
@[simp] theorem State.advance_relAt (s : State) (k : Nat) : (s.advance k).pwm.relAt = s.pwm.relAt := by
  obtain ⟨d, h⟩ := s.advance_pwm_eq k; rw [h]
@[simp] theorem State.advance_run (s : State) (k : Nat) (c : Fin 8) : (s.advance k).pwm.carriers[c].run = s.pwm.carriers[c].run := by
  obtain ⟨d, h⟩ := s.advance_pwm_eq k
  simp only [h, Fin.getElem_fin, Vector.getElem_map]
  split <;> rfl
@[simp] theorem State.advance_armCycle (s : State) (k : Nat) (c : Fin 8) :
    (s.advance k).pwm.carriers[c].armCycle = s.pwm.carriers[c].armCycle := by
  obtain ⟨d, h⟩ := s.advance_pwm_eq k
  simp only [h, Fin.getElem_fin, Vector.getElem_map]
  split <;> rfl

/-! ### Armings (R197, R200) -/

/-- R197: carrier `c` is armed. -/
abbrev State.armed (s : State) (c : Fin 8) : Bool := (s.get Fd.PWM_LOADALL_ALL).testBit c.val

theorem State.armed_congr {s t : State} (h : t.rd Reg.PWM_LOADALL = s.rd Reg.PWM_LOADALL) (c : Fin 8) : t.armed c = s.armed c := by
  simp only [State.armed, State.get, State.rdN, Fd.PWM_LOADALL_ALL, h]

/-- The bit of one carrier is set. -/
theorem State.armed_put (s : State) (c j : Fin 8) (v : Nat) :
    (s.put ⟨Reg.PWM_LOADALL, c.val, 1⟩ v).armed j = if j = c then v.testBit 0 else s.armed j := by
  have hok : (⟨Reg.PWM_LOADALL, c.val, 1⟩ : Fld).ok := by simp only [Fld.ok]; omega
  simp only [State.armed, State.get, Fd.PWM_LOADALL_ALL, testBit_cut, s.rdN_put _ _ _ hok, if_true, testBit_paste, j.isLt,
    decide_true, Bool.true_and, Nat.zero_add]
  by_cases h : j = c
  · simp [h]
  · rw [if_pos (by omega), if_neg h]

/-- R200: what undoing a LATE changes: the flag and its counter, and where the values stand. -/
theorem State.unlate_cases (s : State) (c : Fin 8) :
    s.unlate c = s ∨ ∃ p flag count f, s.unlate c =
      (((s.pwmM p).put (Fd.PWM_C_FLAGS_LATE c) flag).wrN (Ev.PWM_C_FLAGS_LATE c).cnt count).carM c f := by
  unfold State.unlate
  split
  · exact Or.inl rfl
  · split
    · exact Or.inr ⟨_, _, _, _, rfl⟩
    · exact Or.inl rfl

theorem State.unlate_rd (s : State) (c : Fin 8) (a : Nat) (hflags : a ≠ Reg.PWM_C_FLAGS c) (hcnt : a ≠ (Ev.PWM_C_FLAGS_LATE c).cnt) :
    (s.unlate c).rd a = s.rd a := by
  obtain h | ⟨p, flag, count, f, h⟩ := s.unlate_cases c <;> rw [h]
  rw [State.carM_rd, State.wrN, State.rd_wr, if_neg hcnt, State.rd_put_other _ _ _ _ hflags, State.pwmM_rd]

/-- R197, R200: an arming sets the carrier's bit, or, repeated, may undo a LATE. -/
theorem State.armCarrier_cases (s : State) (c : Fin 8) :
    (s.armed c = true ∧ ∃ f, s.armCarrier c = (s.unlate c).carM c f) ∨
    (s.armed c = false ∧ ∃ f, s.armCarrier c = (s.put ⟨Reg.PWM_LOADALL, c.val, 1⟩ 1).carM c f) := by
  unfold State.armCarrier
  split
  · next h => exact Or.inl ⟨h, _, rfl⟩
  · next h => exact Or.inr ⟨Bool.eq_false_of_not_eq_true h, _, rfl⟩

theorem State.armCarrier_rd (s : State) (c : Fin 8) (a : Nat) (hloadall : a ≠ Reg.PWM_LOADALL) (hflags : a ≠ Reg.PWM_C_FLAGS c)
    (hcnt : a ≠ (Ev.PWM_C_FLAGS_LATE c).cnt) : (s.armCarrier c).rd a = s.rd a := by
  obtain ⟨-, f, h⟩ | ⟨-, f, h⟩ := s.armCarrier_cases c <;> rw [h, State.carM_rd]
  · exact s.unlate_rd c a hflags hcnt
  · exact s.rd_put_other _ _ a hloadall

@[simp] theorem State.armCarrier_mem (s : State) (c : Fin 8) : (s.armCarrier c).mem = s.mem := by
  obtain ⟨-, f, h⟩ | ⟨-, f, h⟩ := s.armCarrier_cases c <;> rw [h]
  · obtain h | ⟨p, flag, count, f, h⟩ := s.unlate_cases c <;> rw [h] <;> rfl
  · rfl
@[simp] theorem State.armCarrier_now (s : State) (c : Fin 8) : (s.armCarrier c).now = s.now := by
  obtain ⟨-, f, h⟩ | ⟨-, f, h⟩ := s.armCarrier_cases c <;> rw [h]
  · obtain h | ⟨p, flag, count, f, h⟩ := s.unlate_cases c <;> rw [h] <;> rfl
  · rfl
@[simp] theorem State.armCarrier_tbl (s : State) (c : Fin 8) : (s.armCarrier c).tbl = s.tbl := by
  obtain ⟨-, f, h⟩ | ⟨-, f, h⟩ := s.armCarrier_cases c <;> rw [h]
  · obtain h | ⟨p, flag, count, f, h⟩ := s.unlate_cases c <;> rw [h] <;> rfl
  · rfl

theorem loadall_ne_late (c : Fin 8) : Reg.PWM_LOADALL ≠ Reg.PWM_C_FLAGS c ∧ Reg.PWM_LOADALL ≠ (Ev.PWM_C_FLAGS_LATE c).cnt := by
  simp only [Reg.PWM_LOADALL, Reg.PWM_C_FLAGS, Ev.PWM_C_FLAGS_LATE]
  omega

/-- R197: the arming arms its carrier alone. -/
theorem State.armCarrier_armed (s : State) (c j : Fin 8) : (s.armCarrier c).armed j = (s.armed j || decide (j = c)) := by
  obtain ⟨harmed, f, h⟩ | ⟨-, f, h⟩ := s.armCarrier_cases c <;> rw [h]
  · have hrd := s.unlate_rd c Reg.PWM_LOADALL (loadall_ne_late c).1 (loadall_ne_late c).2
    rw [State.armed_congr (((s.unlate c).carM_rd c f _).trans hrd) j]
    by_cases hj : j = c
    · rw [hj, harmed]; rfl
    · simp [hj]
  · rw [State.armed_congr (State.carM_rd _ c f _) j, s.armed_put]
    by_cases hj : j = c <;> simp [hj]

/-- The carriers that a mask names. -/
def carriersOf (mask : Nat) : List (Fin 8) := (List.finRange 8).filter fun c => mask.testBit c.val

theorem mem_carriersOf (mask : Nat) (c : Fin 8) : c ∈ carriersOf mask ↔ mask.testBit c.val = true := by
  simp [carriersOf]

theorem carriersOf_single (c : Fin 8) : carriersOf (1#8 <<< c.val).toNat = [c] := by
  revert c; decide

/-- R197: every carrier that the mask names is armed. -/
def State.armAll (s : State) (mask : Nat) : State := (carriersOf mask).foldl State.armCarrier s

theorem State.loadallWrite_eq (s : State) (mask : Nat) (same : Bool) :
    s.loadallWrite mask same = s.stewardLand Reg.PWM_LOADALL (BitVec.ofNat 32 mask) same fun s => s.armAll mask := by
  simp only [State.loadallWrite, State.armAll, carriersOf, List.foldl_filter]

theorem State.armAll_armed (s : State) (mask : Nat) (c : Fin 8) : (s.armAll mask).armed c = (s.armed c || mask.testBit c.val) := by
  have hfold (l : List (Fin 8)) (s : State) : (l.foldl State.armCarrier s).armed c = (s.armed c || decide (c ∈ l)) := by
    induction l generalizing s with
    | nil => simp
    | cons x l ih => rw [List.foldl_cons, ih, State.armCarrier_armed]; simp [Bool.or_assoc]
  rw [State.armAll, hfold]
  simp [mem_carriersOf]

@[simp] theorem State.armAll_mem (s : State) (mask : Nat) : (s.armAll mask).mem = s.mem := foldl_same State.mem _ State.armCarrier_mem _ s
@[simp] theorem State.armAll_now (s : State) (mask : Nat) : (s.armAll mask).now = s.now := foldl_same State.now _ State.armCarrier_now _ s

theorem State.armAll_rd (s : State) (mask a : Nat) (hloadall : a ≠ Reg.PWM_LOADALL)
    (hlate : ∀ k : Fin 8, a ≠ Reg.PWM_C_FLAGS k ∧ a ≠ (Ev.PWM_C_FLAGS_LATE k).cnt) : (s.armAll mask).rd a = s.rd a :=
  foldl_same (fun s => s.rd a) _ (fun s k => s.armCarrier_rd k a hloadall (hlate k).1 (hlate k).2) _ s

/-! ### A steward's landing (R77, R199) -/

theorem State.stewardLand_alone (s : State) (a : Nat) (v : Word) (f : State → State) (hclk : s.pwmClk = true) (hland : s.landing = false) :
    s.stewardLand a v false f = f (s.advance 2) :=
  (s.landPwm_of_running a v f hclk).trans (by rw [s.crossed_of_not_landing hland])

theorem State.stewardLand_same (s : State) (a : Nat) (v : Word) (f : State → State) (hclk : s.pwmClk = true) :
    s.stewardLand a v true f = f s := by
  simp [State.stewardLand, hclk]

/-! ### Cancels (R199) -/

theorem State.loadcnclWrite_single (s : State) (c : Fin 8) (hclk : s.pwmClk = true) (hland : s.landing = false) :
    s.loadcnclWrite (1#8 <<< c.val).toNat = (s.advance 2).loadCancel c := by
  have hfold (t : State) : (List.finRange 8).foldl
      (fun t (j : Fin 8) => if (1#8 <<< c.val).toNat.testBit j.val then t.loadCancel j else t) t = t.loadCancel c := by
    rw [← List.foldl_filter]
    exact congrArg (List.foldl State.loadCancel t) (carriersOf_single c)
  rw [State.loadcnclWrite, s.landPwm_of_running _ _ _ hclk, s.crossed_of_not_landing hland, hfold]

/-- R199: the cancel that comes too late for the load leaves every register. -/
theorem State.loadCancel_of_near (s : State) (c : Fin 8) (x : Nat) (hrun : s.pwm.carriers[c].run = true) (hx : s.nextLoad c = some x)
    (hnear : x < s.pwm.carriers[c].abs + 120) (harmed : s.pwm.carriers[c].armedAt + 120 ≤ s.now + (x - s.pwm.carriers[c].abs)) :
    ∃ f, s.loadCancel c = s.pwmM f := by
  simp only [State.loadCancel, hx, hrun, hnear, harmed, decide_true, Bool.and_self, if_true]
  exact ⟨_, rfl⟩

/-- An armed carrier has a load point ahead. -/
theorem State.nextLoad_eq_none_iff (s : State) (c : Fin 8) : s.nextLoad c = none ↔ s.armed c = false := by
  unfold State.nextLoad
  simp only []
  split
  · next h => simpa using h
  · next h => split <;> simpa using h

theorem State.rearmedEnter_of_none (s : State) (c : Fin 8) (l : Nat) (h : s.pwm.rearmed = []) : s.rearmedEnter c l = s := by
  unfold State.rearmedEnter
  rw [h]
  exact congrArg (fun l => s.pwmM fun p => { p with rearmed := l }) h.symm

theorem State.heldEnter_of_none (s : State) (c : Fin 8) (h : s.pwm.held = []) : s.heldEnter c = s := by
  unfold State.heldEnter
  rw [h]
  exact congrArg (fun l => s.pwmM fun p => { p with held := l }) h.symm

/-- R199: the cancel disarms a carrier that does not run; where no value waits, nothing else changes. -/
theorem State.loadCancel_of_stopped (s : State) (c : Fin 8) (hrun : s.pwm.carriers[c].run = false) (hheld : s.pwm.held = [])
    (hrearmed : s.pwm.rearmed = []) :
    s.loadCancel c = if s.armed c then s.put ⟨Reg.PWM_LOADALL, c.val, 1⟩ 0 else s := by
  cases hx : s.nextLoad c with
  | none =>
    rw [(s.nextLoad_eq_none_iff c).mp hx]
    simp only [State.loadCancel, hx, Bool.false_eq_true, if_false]
  | some x =>
    have harmed : s.armed c = true := by
      rw [← Bool.not_eq_false, ← s.nextLoad_eq_none_iff c, hx]
      exact Option.some_ne_none x
    simp only [State.loadCancel, hx, hrun, harmed, Bool.false_and, Bool.false_eq_true, if_false, if_true]
    rw [State.rearmedEnter_of_none (s.put _ 0) c _ hrearmed, State.heldEnter_of_none (s.put _ 0) c hheld]

theorem State.loadCancel_of_stopped_armed (s : State) (c : Fin 8) (hrun : s.pwm.carriers[c].run = false) (hheld : s.pwm.held = [])
    (hrearmed : s.pwm.rearmed = []) : (s.loadCancel c).armed c = false := by
  rw [s.loadCancel_of_stopped c hrun hheld hrearmed]
  split
  · rw [State.armed_put, if_pos rfl]; rfl
  · next h => exact Bool.eq_false_of_not_eq_true h

theorem State.loadCancel_of_stopped_frame (s : State) (c : Fin 8) (hrun : s.pwm.carriers[c].run = false) (hheld : s.pwm.held = [])
    (hrearmed : s.pwm.rearmed = []) : SameRegistersBut [Reg.PWM_LOADALL] s (s.loadCancel c) ∧ (s.loadCancel c).now = s.now ∧
      (s.loadCancel c).mem = s.mem := by
  rw [s.loadCancel_of_stopped c hrun hheld hrearmed]
  split
  · exact ⟨s.put_sameRegistersBut ⟨Reg.PWM_LOADALL, c.val, 1⟩ 0, rfl, rfl⟩
  · exact ⟨fun _ _ => rfl, rfl, rfl⟩

/-! ### Values that land on shadows (R200) -/

/-- R200: the word that a value puts on a shadow register. -/
def shadowWord (sh : Shadow) (v : Word) : Word := BitVec.ofNat 32 (v.toNat % shadowMask sh)

theorem shadowWord_toNat (sh : Shadow) (v : Word) : (shadowWord sh v).toNat = v.toNat % shadowMask sh := by
  rw [shadowWord, BitVec.toNat_ofNat, Nat.mod_eq_of_lt (Nat.lt_of_le_of_lt (Nat.mod_le _ _) v.isLt)]

theorem shadowReg_ne_late (sh : Shadow) (c : Fin 8) :
    shadowReg sh ≠ Reg.PWM_C_FLAGS c ∧ shadowReg sh ≠ (Ev.PWM_C_FLAGS_LATE c).cnt := by
  cases sh <;>
    simp only [shadowReg, Reg.PWM_C_PER, Reg.PWM_LEG_CMPA, Reg.PWM_LEG_CMPB, Reg.PWM_LEG_OFS, Reg.PWM_C_FLAGS,
      Ev.PWM_C_FLAGS_LATE] <;> omega

/-- The value held aside is the one that a read of the shadow finds. -/
theorem find?_holdAside (a : Nat) (v : Word) (l : List (Nat × Word)) : (holdAside a v l).find? (fun h => h.1 == a) = some (a, v) := by
  induction l with
  | nil => simp [holdAside]
  | cons e l ih =>
    unfold holdAside
    split
    · simp
    · next h => rw [List.find?_cons_of_neg (by simpa using Ne.symm h), ih]

/-- R200: the value held aside is what a read of the shadow returns. -/
theorem State.shadowRead_of_held (s : State) (a : Nat) (v : Word) (l : List (Nat × Word)) (h : s.pwm.held = holdAside a v l) :
    s.shadowRead a = v := by
  rw [State.shadowRead, h, find?_holdAside]

@[simp] theorem State.advance_shadowCar (s : State) (k : Nat) (sh : Shadow) : (s.advance k).shadowCar sh = s.shadowCar sh := by
  cases sh <;> simp only [State.shadowCar, State.carOf, State.advance_get]

@[simp] theorem State.advance_armed (s : State) (k : Nat) (c : Fin 8) : (s.advance k).armed c = s.armed c :=
  State.armed_congr (s.advance_rd k _) c

/-- R200: a value that lands in a cycle of its own, in which no release lands. -/
theorem State.shadowWrite_alone (s : State) (sh : Shadow) (v : Word) (hclk : s.pwmClk = true) (hland : s.landing = false)
    (hrel : s.pwm.relAt ≠ s.now + 80) :
    ∃ f : Pwm → Pwm, (∀ p, (f p).held = p.held) ∧ s.shadowWrite sh v false = ((s.advance 2).shadowEnter sh v
      ((s.advance 2).pwm.carriers[(s.advance 2).shadowCar sh].armCycle == some (s.advance 2).now)).pwmM f := by
  have hmeets : ((s.advance 2).pwm.relAt == (s.advance 2).now) = false := by simpa using hrel
  rw [State.shadowWrite, s.stewardLand_alone _ _ _ hclk hland]
  simp only [hmeets, Bool.false_and, Bool.false_eq_true, if_false]
  refine ⟨_, ?_, rfl⟩
  exact fun _ => rfl

/-- R197, R200: a value enters the shadow of a carrier that is not armed. -/
theorem State.shadowEnter_of_unarmed (s : State) (sh : Shadow) (v : Word) (b : Bool) (h : s.armed (s.shadowCar sh) = false) :
    ∃ f g, s.shadowEnter sh v b = ((s.pwmM f).pwmM g).wr (shadowReg sh) (shadowWord sh v) := by
  unfold State.shadowEnter
  simp only [State.armed] at h
  simp only [h, Bool.false_and, Bool.false_eq_true, if_false]
  exact ⟨_, _, rfl⟩

/-- R200: without an arming in its cycle a value for an armed carrier is late. -/
theorem State.shadowEnter_of_armed (s : State) (sh : Shadow) (v : Word) (h : s.armed (s.shadowCar sh) = true) :
    s.shadowEnter sh v false = s.shadowLate (s.shadowCar sh) (shadowReg sh) (shadowWord sh v) := by
  unfold State.shadowEnter
  simp only [State.armed] at h
  simp only [h, Bool.not_false, Bool.and_self, if_true]
  rfl

@[simp] theorem State.pwmM_flag (s : State) (f : Pwm → Pwm) (e : EvFlag) : (s.pwmM f).flag e = s.flag e := rfl

section
variable (s : State) (c : Fin 8) (a : Nat) (w : Word)

theorem State.shadowLate_rd (x : Nat) (hflags : x ≠ Reg.PWM_C_FLAGS c) (hcnt : x ≠ (Ev.PWM_C_FLAGS_LATE c).cnt) :
    (s.shadowLate c a w).rd x = s.rd x := by
  rw [State.shadowLate, State.pwmM_rd, State.rd_raise_other _ _ _ hflags hcnt, State.carM_rd]

@[simp] theorem State.shadowLate_mem : (s.shadowLate c a w).mem = s.mem := by
  rw [State.shadowLate, State.pwmM_mem, State.raise_mem, State.carM_mem]

theorem State.shadowLate_held : (s.shadowLate c a w).pwm.held = holdAside a w s.pwm.held := by
  rw [State.shadowLate, State.pwmM_pwm, State.raise_pwm]
  rfl

theorem State.shadowLate_flag : (s.shadowLate c a w).flag (Ev.PWM_C_FLAGS_LATE c) = true := by
  rw [State.shadowLate, State.pwmM_flag]
  refine State.flag_raise _ _ ?_ (by decide : 1 < 32)
  simp only [Ev.PWM_C_FLAGS_LATE, Reg.PWM_C_FLAGS]
  omega

end

/-! ### The obligation -/

/-- Settles O38: each command is brought to the armings, the cancel or the shadow that it names, and their laws give the clause. -/
theorem loadingShadows : Obligations.LoadingShadows := by
  unfold Obligations.LoadingShadows
  refine ⟨?alone, ?same, ?launch, ?stopped, ?near, ?enters, ?late⟩
  case alone =>
    intro m c s hclk hland
    refine ⟨_, rfl, ?_⟩
    rw [s.loadallWrite_eq, s.stewardLand_alone _ _ _ hclk hland]
    refine ⟨?_, fun a ha => ?_, ?_, ?_⟩
    · exact (State.armAll_armed _ _ c).trans (by rw [State.advance_armed]; rfl)
    · have hloadall : a ≠ Reg.PWM_LOADALL := fun h => ha (by simp [h])
      have hlate (k : Fin 8) : a ≠ Reg.PWM_C_FLAGS k ∧ a ≠ (Ev.PWM_C_FLAGS_LATE k).cnt := by
        constructor <;> refine fun h => ha (List.mem_cons_of_mem _ (List.mem_flatMap.mpr ⟨k, List.mem_finRange k, ?_⟩)) <;> simp [h]
      rw [State.armAll_rd _ _ a hloadall hlate, State.advance_rd]
    · rw [State.armAll_now, State.advance_now]
    · rw [State.armAll_mem, State.advance_mem]
  case same =>
    intro m c s hclk
    refine ⟨_, rfl, ?_⟩
    rw [s.loadallWrite_eq, s.stewardLand_same _ _ _ hclk]
    exact ⟨s.armAll_armed _ c, s.armAll_now _, s.armAll_mem _⟩
  case launch =>
    intro c l s hl hclk
    have hruns : s.launchRuns (8 + c.val) = true := by rw [State.launchRuns, if_pos (by omega), hclk]
    refine ⟨_, rfl, ?_⟩
    rw [s.takeLaunch_of_inflight _ l _ hl hruns]
    refine ⟨?_, ?_, fun a ha => ?_, ?_⟩
    · exact (State.armCarrier_armed _ c c).trans (by simp)
    · rw [State.armCarrier_tbl, State.launchTaken_inflight]
    · obtain ⟨hloadall, hflags, hcnt⟩ : a ≠ Reg.PWM_LOADALL ∧ a ≠ Reg.PWM_C_FLAGS c ∧ a ≠ (Ev.PWM_C_FLAGS_LATE c).cnt := by simpa using ha
      rw [State.armCarrier_rd _ c a hloadall hflags hcnt, State.launchTaken_rd]
    · rw [State.armCarrier_mem, State.launchTaken_mem]
  case stopped =>
    intro c s hclk hland hrun hheld hrearmed
    refine ⟨_, rfl, ?_⟩
    rw [s.loadcnclWrite_single c hclk hland]
    have hrun' := (s.advance_run 2 c).trans hrun
    have hheld' := (s.advance_held 2).trans hheld
    have hrearmed' := (s.advance_rearmed 2).trans hrearmed
    obtain ⟨hregs, hnow, hmem⟩ := State.loadCancel_of_stopped_frame _ c hrun' hheld' hrearmed'
    exact ⟨State.loadCancel_of_stopped_armed _ c hrun' hheld' hrearmed', fun a ha => (hregs a ha).trans (s.advance_rd 2 a),
      hnow.trans (s.advance_now 2), hmem.trans (s.advance_mem 2)⟩
  case near =>
    intro c x s hclk hland hrun hx hnear harmed
    refine ⟨_, rfl, ?_⟩
    rw [s.loadcnclWrite_single c hclk hland]
    obtain ⟨f, hcancel⟩ := (s.advance 2).loadCancel_of_near c x hrun hx hnear harmed
    rw [hcancel]
    exact ⟨s.advance_armed 2 c, s.advance_regs 2, s.advance_mem 2⟩
  case enters =>
    intro sh v s hclk hland hunarmed hrel
    refine ⟨_, rfl, ?_⟩
    obtain ⟨f, -, hwrite⟩ := s.shadowWrite_alone sh v hclk hland hrel
    obtain ⟨g, g', henter⟩ := (s.advance 2).shadowEnter_of_unarmed sh v
      ((s.advance 2).pwm.carriers[(s.advance 2).shadowCar sh].armCycle == some (s.advance 2).now)
      (by rw [State.advance_armed, State.advance_shadowCar]; exact hunarmed)
    rw [hwrite, henter]
    refine ⟨?_, fun a ha => ?_, ?_, ?_⟩
    · rw [State.pwmM_rdN, State.rdN, State.rd_wr, if_pos rfl, shadowWord_toNat]
    · rw [State.pwmM_rd, State.rd_wr, if_neg (by simpa using ha), State.pwmM_rd, State.pwmM_rd, State.advance_rd]
    · rw [State.pwmM_now, State.wr_now, State.pwmM_now, State.pwmM_now, State.advance_now]
    · rw [State.pwmM_mem, State.wr_mem, State.pwmM_mem, State.pwmM_mem, State.advance_mem]
  case late =>
    intro sh v s hclk hland harmed hrel hcycle
    refine ⟨_, rfl, ?_⟩
    obtain ⟨f, hf, hwrite⟩ := s.shadowWrite_alone sh v hclk hland hrel
    have hnoarm : ((s.advance 2).pwm.carriers[(s.advance 2).shadowCar sh].armCycle == some (s.advance 2).now) = false := by
      simpa only [State.advance_armCycle, State.advance_shadowCar, State.advance_now, beq_eq_false_iff_ne] using hcycle
    rw [hwrite, hnoarm, State.shadowEnter_of_armed _ sh v (by rw [State.advance_armed, State.advance_shadowCar]; exact harmed),
      State.advance_shadowCar]
    refine ⟨?_, ?_, ?_, ?_⟩
    · obtain ⟨hflags, hcnt⟩ := shadowReg_ne_late sh (s.shadowCar sh)
      rw [State.pwmM_rd, State.shadowLate_rd _ _ _ _ _ hflags hcnt, State.advance_rd]
    · rw [State.shadowRead_of_held _ (shadowReg sh) (shadowWord sh v) (s.advance 2).pwm.held ?_, shadowWord_toNat]
      rw [State.pwmM_pwm, hf, State.shadowLate_held]
    · rw [State.pwmM_flag, State.shadowLate_flag]
    · rw [State.pwmM_mem, State.shadowLate_mem, State.advance_mem]

end Sys2Proof.Machine

/-! SUPPORT. The interlock of a leg (R193, R201–R203, R209): what applying a leg's commands leaves, and what it does to the
switches. -/
namespace Sys2Proof.Machine

/-! ### What the interlock leaves -/

/-- The observation `g` sees nothing that the interlock of leg `n` changes: the switches and HELD in STATE, SHOOT, and what stands
behind the leg's switches. -/
structure SwitchBlind (n : Fin 48) {β : Type} (g : State → β) : Prop where
  switch (s : State) (lo v : Nat) : lo = 0 ∨ lo = 1 ∨ lo = 4 → g (s.put ⟨Reg.PWM_LEG_STATE n, lo, 1⟩ v) = g s
  shoot (s : State) (k : Nat) : g (s.raiseN (Ev.PWM_LEG_FLAGS_SHOOT n) k) = g s
  legM (s : State) (f : Leg → Leg) : (∀ x, (f x).last = x.last) → g (s.legM n f) = g s

section
variable {n : Fin 48} {β : Type} {g : State → β} (h : SwitchBlind n g)
include h

theorem SwitchBlind.legZero (s : State) (t : Nat) : g (s.legZero n t) = g s := by
  unfold State.legZero
  split
  · exact h.legM s _ fun _ => rfl
  · rfl

theorem SwitchBlind.ballOff (s : State) (high : Bool) (t : Nat) : g (s.ballOff n high t) = g s := by
  unfold State.ballOff
  split
  · exact (h.legM _ _ (by intro; rfl)).trans (h.switch s 0 0 (by decide))
  · exact (h.legM _ _ (by intro; rfl)).trans ((h.switch _ 1 0 (by decide)).trans (h.legZero s _))

theorem SwitchBlind.ballOn (s : State) (high : Bool) (t : Nat) : g (s.ballOn n high t) = g s := by
  unfold State.ballOn
  split
  · exact (h.legM _ _ (by intro; rfl)).trans (h.switch s 0 1 (by decide))
  · exact (h.legM _ _ (by intro; rfl)).trans (h.switch s 1 1 (by decide))

theorem SwitchBlind.heldShow (s : State) : g (s.heldShow n) = g s := h.switch s 4 _ (by decide)

theorem SwitchBlind.turnOnAt (s : State) (high dead : Bool) (t : Nat) : g (s.turnOnAt n high dead t) = g s := by
  simp only [State.turnOnAt, apply_ite g, h.ballOn, h.legM, implies_true, ite_self]

theorem SwitchBlind.legApplyWith (s : State) (dead : Bool) (t : Nat) : g (s.legApplyWith n dead t) = g s := by
  unfold State.legApplyWith
  obtain ⟨ch, cl⟩ := s.legCmd n
  simp only [apply_ite g, h.ballOff, h.turnOnAt, h.heldShow, h.shoot, h.legM, implies_true, ite_self]

theorem SwitchBlind.legApply (s : State) (t : Nat) : g (s.legApply n t) = g s := h.legApplyWith s _ t

end

theorem SwitchBlind.rd (n : Fin 48) {a : Nat} (hstate : a ≠ Reg.PWM_LEG_STATE n) (hflags : a ≠ Reg.PWM_LEG_FLAGS n)
    (hcnt : a ≠ (Ev.PWM_LEG_FLAGS_SHOOT n).cnt) : SwitchBlind n fun s => s.rd a where
  switch s lo v _ := s.rd_put_other _ v a hstate
  shoot s k := by
    unfold State.raiseN
    split
    · rfl
    · rw [State.sat16By, State.wrN, State.rd_wr, if_neg hcnt, State.rd_setNow, State.rd_put_other _ _ _ _ hflags]
  legM s f _ := s.legM_rd n f a

/-- A field of STATE or of FLAGS beside those that the interlock changes. -/
theorem SwitchBlind.get (n : Fin 48) (f : Fld) (hf : f.addr = Reg.PWM_LEG_STATE n ∧ (f.lo = 2 ∧ f.w = 1 ∨ 5 ≤ f.lo) ∨
    f.addr = Reg.PWM_LEG_FLAGS n ∧ (f.lo + f.w ≤ 2 ∨ 3 ≤ f.lo)) : SwitchBlind n fun s => s.get f where
  switch s lo v hlo := by
    refine s.get_put_apart _ f v (show lo + 1 ≤ 32 by omega) ?_
    simp only [Reg.PWM_LEG_STATE, Reg.PWM_LEG_FLAGS] at hf ⊢
    omega
  shoot s k := by
    unfold State.raiseN
    split
    · rfl
    · have hne : f.addr ≠ (Ev.PWM_LEG_FLAGS_SHOOT n).cnt := by
        simp only [Reg.PWM_LEG_STATE, Reg.PWM_LEG_FLAGS, Ev.PWM_LEG_FLAGS_SHOOT] at hf ⊢
        omega
      have hset : ((s.setNow (Ev.PWM_LEG_FLAGS_SHOOT n)).get f) = s.get f := by
        refine s.get_put_apart ⟨Reg.PWM_LEG_FLAGS n, 2, 1⟩ f 1 (show 2 + 1 ≤ 32 by decide) ?_
        simp only [Reg.PWM_LEG_STATE, Reg.PWM_LEG_FLAGS] at hf ⊢
        omega
      rw [State.sat16By, State.get, State.rdN, State.wrN, State.rd_wr, if_neg hne]
      exact hset
  legM s f' _ := s.legM_get n f' f

theorem SwitchBlind.last (n : Fin 48) : SwitchBlind n fun s => s.pwm.legs[n].last where
  switch _ _ _ _ := rfl
  shoot s k := by rw [State.raiseN_pwm]
  legM s f hf := by
    rw [← hf s.pwm.legs[n]]
    exact congrArg Leg.last (upd_get_self s.pwm.legs n f)

theorem pwmBlind_mem : PwmBlind State.mem := ⟨⟨fun _ _ _ _ => rfl, fun _ _ _ _ => rfl⟩, fun _ _ _ => rfl⟩
theorem pwmBlind_now : PwmBlind State.now := ⟨⟨fun _ _ _ _ => rfl, fun _ _ _ _ => rfl⟩, fun _ _ _ => rfl⟩

@[simp] theorem State.legApply_mem (s : State) (n : Fin 48) (t : Nat) : (s.legApply n t).mem = s.mem := pwmBlind_mem.legApplyWith s n _ t
@[simp] theorem State.legApply_now (s : State) (n : Fin 48) (t : Nat) : (s.legApply n t).now = s.now := pwmBlind_now.legApplyWith s n _ t
@[simp] theorem State.heldShow_mem (s : State) (n : Fin 48) : (s.heldShow n).mem = s.mem := rfl
@[simp] theorem State.heldShow_pwm (s : State) (n : Fin 48) : (s.heldShow n).pwm = s.pwm := rfl
@[simp] theorem State.legM_on (s : State) (n : Fin 48) (f : Leg → Leg) (x : Fld) : (s.legM n f).on x = s.on x := rfl
@[simp] theorem State.legM_flag (s : State) (n : Fin 48) (f : Leg → Leg) (e : EvFlag) : (s.legM n f).flag e = s.flag e := rfl
@[simp] theorem State.legM_leg (s : State) (n : Fin 48) (f : Leg → Leg) : (s.legM n f).pwm.legs[n] = f s.pwm.legs[n] :=
  upd_get_self s.pwm.legs n f
@[simp] theorem State.legM_frozen (s : State) (n : Fin 48) (f : Leg → Leg) : (s.legM n f).pwm.frozen = s.pwm.frozen := rfl
@[simp] theorem State.legM_pwmRuns (s : State) (n : Fin 48) (f : Leg → Leg) : (s.legM n f).pwmRuns = s.pwmRuns := rfl
@[simp] theorem State.raiseN_zero (s : State) (e : EvFlag) : s.raiseN e 0 = s := if_pos rfl

end Sys2Proof.Machine

/-! SUPPORT. What the interlock does to a leg's switches (R201, R203, R209), and the edges of its reference (R192, R202). -/
namespace Sys2Proof.Machine

/-! ### Balls (R203) -/

theorem State.get_eq_zero_of_off {s : State} {f : Fld} (h : s.on f = false) : s.get f = 0 := by
  simpa [State.on] using h

/-- The bit of STATE that shows a switch: H is bit 0, L is bit 1. -/
abbrev switchFld (n : Fin 48) (high : Bool) : Fld := ⟨Reg.PWM_LEG_STATE n, (!high).toNat, 1⟩

theorem State.get_put_switch (s : State) (n : Fin 48) (high : Bool) (v : Nat) :
    (s.put (switchFld n high) v).get (switchFld n high) = v % 2 ∧
      (s.put (switchFld n high) v).get (switchFld n !high) = s.get (switchFld n !high) := by
  cases high
  · exact ⟨s.get_put_field _ 1 1 v (by decide), s.get_put_beside _ 1 1 v 0 1 (by decide) (by decide)⟩
  · exact ⟨s.get_put_field _ 0 1 v (by decide), s.get_put_beside _ 0 1 v 1 1 (by decide) (by decide)⟩

@[simp] theorem State.heldShow_switch (s : State) (n : Fin 48) (high : Bool) :
    (s.heldShow n).get (switchFld n high) = s.get (switchFld n high) :=
  s.get_put_beside _ 4 1 _ _ 1 (by decide) (Or.inl (by cases high <;> decide))

theorem State.ballOff_eq (s : State) (n : Fin 48) (high : Bool) (t : Nat) :
    ∃ (u : State) (f : Leg → Leg), s.ballOff n high t = (u.put (switchFld n high) 0).legM n f ∧ u.regs = s.regs := by
  cases high
  · refine ⟨_, _, rfl, ?_⟩
    unfold State.legZero
    split <;> rfl
  · exact ⟨s, _, rfl, rfl⟩

/-- R203: a switch that goes off leaves the other. -/
theorem State.ballOff_switch (s : State) (n : Fin 48) (high : Bool) (t : Nat) :
    (s.ballOff n high t).get (switchFld n high) = 0 ∧ (s.ballOff n high t).get (switchFld n !high) = s.get (switchFld n !high) := by
  obtain ⟨u, f, h, hregs⟩ := s.ballOff_eq n high t
  obtain ⟨hself, hother⟩ := u.get_put_switch n high 0
  rw [h, State.legM_get, State.legM_get]
  exact ⟨hself, hother.trans (State.get_of_regs_eq hregs _)⟩

/-- R203: a switch that goes on leaves the other, and no switch waits. -/
theorem State.ballOn_switch (s : State) (n : Fin 48) (high : Bool) (t : Nat) :
    (s.ballOn n high t).get (switchFld n high) = 1 ∧ (s.ballOn n high t).get (switchFld n !high) = s.get (switchFld n !high) ∧
      (s.ballOn n high t).pwm.legs[n].turnOn = none := by
  obtain ⟨f, hf, h⟩ : ∃ f : Leg → Leg, (∀ x, (f x).turnOn = none) ∧ s.ballOn n high t = (s.put (switchFld n high) 1).legM n f := by
    cases high <;> refine ⟨_, ?_, rfl⟩ <;> exact fun _ => rfl
  obtain ⟨hself, hother⟩ := s.get_put_switch n high 1
  rw [h, State.legM_get, State.legM_get, State.legM_leg]
  exact ⟨hself, hother, hf _⟩

/-! ### A switch turns on at the end of its dead time (R201, R203) -/

/-- R203: a timer that has run out turns its switch on. -/
theorem State.turnOnAt_of_due (s : State) (n : Fin 48) (high dead : Bool) (t d : Nat) (h : s.pwm.legs[n].turnOn = some (high, d))
    (hd : d ≤ t) : s.turnOnAt n high dead t = s.ballOn n high t := by
  simp only [State.turnOnAt, h, if_true, hd]

/-- R203: with both switches off and one alone commanded on, whose timer has run out, that one turns on. -/
theorem State.legApplyWith_turnsOn (s : State) (n : Fin 48) (high dead : Bool) (t d : Nat) (hruns : s.pwmRuns = true)
    (hcmd : s.legCmd n = (high, !high)) (hguarded : s.on (Fd.PWM_LEG_STATE_GUARDED n) = false)
    (hH : s.on (Fd.PWM_LEG_STATE_H n) = false) (hL : s.on (Fd.PWM_LEG_STATE_L n) = false)
    (hturn : s.pwm.legs[n].turnOn = some (high, d)) (hd : d ≤ t) :
    ∃ f g, s.legApplyWith n dead t = (((s.legM n f).legM n g).ballOn n high t).heldShow n := by
  have hfrozen : s.pwm.frozen = false := by
    simp only [State.pwmRuns, Bool.and_eq_true, Bool.not_eq_true'] at hruns
    exact hruns.2
  cases high
  all_goals
    simp only [State.legApplyWith, hcmd, State.legM_on, State.legM_frozen, State.legM_pwmRuns, hruns, hguarded, hH, hL, hfrozen, passes,
      State.raiseN_zero, Bool.not_false, Bool.not_true, Bool.and_true, Bool.and_false, Bool.true_and, Bool.false_and, Bool.or_true,
      Bool.or_false, Bool.false_or, Bool.true_or, Bool.false_eq_true, if_true, if_false, Bool.toNat_false, Nat.add_zero]
    rw [State.turnOnAt_of_due (d := d) (hd := hd)]
    · exact ⟨_, _, rfl⟩
    · simp only [State.legM_leg, hturn]

@[simp] theorem State.advance_on (s : State) (k : Nat) (f : Fld) : (s.advance k).on f = s.on f := by
  rw [State.on, State.on, State.advance_get]

@[simp] theorem State.advance_pwmRuns (s : State) (k : Nat) : (s.advance k).pwmRuns = s.pwmRuns := by
  simp only [State.pwmRuns, State.pwmClk, State.advance_on, State.advance_pmu, State.advance_frozen]

@[simp] theorem State.advance_carOf (s : State) (k : Nat) (n : Fin 48) : (s.advance k).carOf n = s.carOf n := by
  rw [State.carOf, State.advance_get, State.carOf]

@[simp] theorem State.advance_isOff (s : State) (k : Nat) (n : Fin 48) : (s.advance k).isOff n = s.isOff n := by
  simp only [State.isOff, State.advance_on, State.advance_carOf, State.advance_run]

@[simp] theorem State.advance_refreshActs (s : State) (k : Nat) (n : Fin 48) : (s.advance k).refreshActs n = s.refreshActs n := by
  simp only [State.refreshActs, State.advance_on, State.advance_get, State.advance_legs, State.advance_isOff]

@[simp] theorem State.advance_safeCmd (s : State) (k : Nat) (n : Fin 48) : (s.advance k).safeCmd n = s.safeCmd n := by
  simp only [State.safeCmd, State.advance_on, State.advance_get, State.advance_legs]

/-- R193: time changes no command of a leg. -/
@[simp] theorem State.advance_legCmd (s : State) (k : Nat) (n : Fin 48) : (s.advance k).legCmd n = s.legCmd n := by
  simp only [State.legCmd, State.advance_isOff, State.advance_refreshActs, State.advance_safeCmd, State.advance_on, State.advance_get,
    State.advance_legs]

/-- R201, R203: the end of the dead time turns on the switch that the leg's command names. -/
theorem State.deadTimeEnd_turnsOn (s : State) (n : Fin 48) (high : Bool) (d : Nat) (hruns : s.pwmRuns = true)
    (hturn : s.pwm.legs[n].turnOn = some (high, d)) (hcmd : s.legCmd n = (high, !high))
    (hguarded : s.on (Fd.PWM_LEG_STATE_GUARDED n) = false) (hH : s.on (Fd.PWM_LEG_STATE_H n) = false)
    (hL : s.on (Fd.PWM_LEG_STATE_L n) = false) :
    (s.deadTimeEnd n).get (switchFld n high) = 1 ∧ (s.deadTimeEnd n).get (switchFld n !high) = 0 ∧
      (s.deadTimeEnd n).pwm.legs[n].turnOn = none ∧ (s.deadTimeEnd n).mem = s.mem := by
  have hother : s.get (switchFld n !high) = 0 := by
    cases high
    · exact State.get_eq_zero_of_off hH
    · exact State.get_eq_zero_of_off hL
  have hend : s.deadTimeEnd n = ((s.reachNow d).legApply n (max d ((s.reachNow d).now - 40))).heldShow n := by
    simp only [State.deadTimeEnd, hruns, hturn, if_true]
  obtain ⟨f, g, happly⟩ := (s.reachNow d).legApplyWith_turnsOn n high ((s.reachNow d).deadTimed n) (max d ((s.reachNow d).now - 40)) d
    (by simpa [State.reachNow] using hruns) (by simpa [State.reachNow] using hcmd) (by simpa [State.reachNow] using hguarded)
    (by simpa [State.reachNow] using hH) (by simpa [State.reachNow] using hL) (by simpa [State.reachNow] using hturn) (Nat.le_max_left _ _)
  have hmem : (s.deadTimeEnd n).mem = s.mem := by rw [hend, State.heldShow_mem, State.legApply_mem, State.reachNow, State.advance_mem]
  obtain ⟨hon, hoff, hnone⟩ :=
    (((s.reachNow d).legM n f).legM n g).ballOn_switch n high (max d ((s.reachNow d).now - 40))
  refine ⟨?_, ?_, ?_, hmem⟩ <;> rw [hend, State.legApply, happly]
  · rw [State.heldShow_switch, State.heldShow_switch, hon]
  · rw [State.heldShow_switch, State.heldShow_switch, hoff, State.legM_get, State.legM_get, State.reachNow, State.advance_get, hother]
  · exact hnone

/-! ### The guard (R209) -/

/-- The switches that are on go off. -/
def State.switchesOff (s : State) (n : Fin 48) (t : Nat) : State :=
  let u := if s.on (Fd.PWM_LEG_STATE_H n) then s.ballOff n true t else s
  if s.on (Fd.PWM_LEG_STATE_L n) then u.ballOff n false t else u

theorem State.switchesOff_switch (s : State) (n : Fin 48) (t : Nat) (high : Bool) : (s.switchesOff n t).get (switchFld n high) = 0 := by
  have hhigh : ∃ u, s.switchesOff n t = (if s.on (Fd.PWM_LEG_STATE_L n) then u.ballOff n false t else u) ∧
      u.get (switchFld n true) = 0 ∧ u.get (switchFld n false) = s.get (switchFld n false) := by
    refine ⟨_, rfl, ?_⟩
    split
    · exact s.ballOff_switch n true t
    · next h => exact ⟨State.get_eq_zero_of_off (Bool.eq_false_of_not_eq_true h), rfl⟩
  obtain ⟨u, hu, hH, hL⟩ := hhigh
  rw [hu]
  split
  · obtain ⟨hself, hother⟩ := u.ballOff_switch n false t
    cases high
    · exact hself
    · exact hother.trans hH
  · next h =>
    cases high
    · exact hL.trans (State.get_eq_zero_of_off (Bool.eq_false_of_not_eq_true h))
    · exact hH

theorem State.heldShow_legM_of_ite (s : State) (n : Fin 48) (c : Prop) [Decidable c] (f f' : Leg → Leg) :
    ∃ g, (if c then (s.legM n f).heldShow n else (s.legM n f').heldShow n) = (s.legM n g).heldShow n := by
  split <;> exact ⟨_, rfl⟩

/-- R209: a guarded leg's switches go off, frozen or not. -/
theorem State.legApplyWith_guarded (s : State) (n : Fin 48) (dead : Bool) (t : Nat) (h : s.on (Fd.PWM_LEG_STATE_GUARDED n) = true) :
    ∃ f g, s.legApplyWith n dead t = (((s.legM n f).switchesOff n t).legM n g).heldShow n := by
  unfold State.legApplyWith
  obtain ⟨ch, cl⟩ := s.legCmd n
  simp only [State.legM_on, State.legM_frozen, h, passes, Bool.not_true, Bool.and_false, Bool.false_and, Bool.or_true, Bool.not_false,
    Bool.and_true, Bool.false_eq_true, if_false, Bool.toNat_false, Nat.add_zero, State.raiseN_zero]
  exact ⟨_, State.heldShow_legM_of_ite ((s.legM n _).switchesOff n t) n _ _ _⟩

theorem State.legApply_guarded (s : State) (n : Fin 48) (t : Nat) (h : s.on (Fd.PWM_LEG_STATE_GUARDED n) = true) (high : Bool) :
    (s.legApply n t).get (switchFld n high) = 0 := by
  obtain ⟨f, g, happly⟩ := s.legApplyWith_guarded n (s.deadTimed n) t h
  rw [State.legApply, happly, State.heldShow_switch, State.legM_get, State.switchesOff_switch]

/-! ### Edges of the reference (R192, R202) -/

theorem switchBlind_ref (n : Fin 48) : SwitchBlind n fun s => s.get (Fd.PWM_LEG_STATE_REF n) :=
  SwitchBlind.get n _ (Or.inl ⟨rfl, Or.inl ⟨rfl, rfl⟩⟩)

theorem switchBlind_short (n : Fin 48) : SwitchBlind n fun s => s.get (Fd.PWM_LEG_FLAGS_SHORT n) :=
  SwitchBlind.get n _ (Or.inr ⟨rfl, Or.inl (show 1 + 1 ≤ 2 by decide)⟩)

/-- R202: a pulse that starts is dropped as short, or its edge is taken. -/
theorem State.edgeTake_cases (s : State) (n : Fin 48) (x : Nat) (v : Bool) :
    (∃ f : Leg → Leg, (∀ g, (f g).last = x) ∧ s.edgeTake n x v = (s.raise (Ev.PWM_LEG_FLAGS_SHORT n)).legM n f) ∨
    ∃ (b : Bool) (f : Leg → Leg) (t : Nat), (∀ g, (f g).last = x) ∧ s.edgeTake n x v =
      (((s.raiseIf b (Ev.PWM_LEG_FLAGS_SHORT n)).putB (Fd.PWM_LEG_STATE_REF n) v).legM n f).legApply n t := by
  unfold State.edgeTake
  obtain ⟨e, short⟩ := s.pulseOf n x v
  simp only []
  split
  · next h =>
    obtain ⟨hshort, -⟩ := Bool.and_eq_true_iff.mp h
    refine Or.inl ⟨_, ?_, by rw [hshort]; rfl⟩
    exact fun _ => rfl
  · refine Or.inr ⟨short, _, _, ?_, rfl⟩
    exact fun _ => rfl

/-- R198, R202: an edge that a load made early is found short, once; else, or as well, the next pulse starts. -/
theorem State.edgeAt_cases (s : State) (n : Fin 48) (x : Nat) :
    (∃ f g : Leg → Leg, (∀ l, (g l).last = x) ∧ s.edgeAt n x = ((s.raise (Ev.PWM_LEG_FLAGS_SHORT n)).legM n f).legM n g) ∨
    (∃ f, s.edgeAt n x = ((s.raise (Ev.PWM_LEG_FLAGS_SHORT n)).legM n f).edgeTake n x (!s.on (Fd.PWM_LEG_STATE_REF n))) ∨
    s.edgeAt n x = s.edgeTake n x (!s.on (Fd.PWM_LEG_STATE_REF n)) := by
  unfold State.edgeAt
  simp only []
  split
  · split
    · refine Or.inl ⟨_, _, ?_, rfl⟩
      exact fun _ => rfl
    · exact Or.inr (Or.inl ⟨_, rfl⟩)
  · exact Or.inr (Or.inr rfl)

/-- R192: the edge is placed once the carrier has reached it. -/
theorem State.refEdge_of_next (s : State) (n : Fin 48) (x : Nat) (hrun : s.pwm.carriers[s.carOf n].run = true) (hruns : s.pwmRuns = true)
    (hx : s.nextEdge n = some x) : ∃ k, s.refEdge n = (s.advance k).edgeAt n x := by
  simp only [State.refEdge, hrun, hruns, hx, Bool.and_self, if_true]
  exact ⟨_, rfl⟩

theorem State.edgeTake_last (s : State) (n : Fin 48) (x : Nat) (v : Bool) : (s.edgeTake n x v).pwm.legs[n].last = x := by
  obtain ⟨f, hf, h⟩ | ⟨b, f, t, hf, h⟩ := s.edgeTake_cases n x v
  · rw [h, State.legM_leg, hf]
  · rw [h, (SwitchBlind.last n).legApply, State.legM_leg, hf]

theorem State.edgeAt_last (s : State) (n : Fin 48) (x : Nat) : (s.edgeAt n x).pwm.legs[n].last = x := by
  obtain ⟨f, g, hg, h⟩ | ⟨f, h⟩ | h := s.edgeAt_cases n x <;> rw [h]
  · rw [State.legM_leg, hg]
  · exact State.edgeTake_last _ _ _ _
  · exact State.edgeTake_last _ _ _ _

@[simp] theorem State.edgeTake_mem (s : State) (n : Fin 48) (x : Nat) (v : Bool) : (s.edgeTake n x v).mem = s.mem := by
  obtain ⟨f, -, h⟩ | ⟨b, f, t, -, h⟩ := s.edgeTake_cases n x v <;> simp [h]

@[simp] theorem State.edgeAt_mem (s : State) (n : Fin 48) (x : Nat) : (s.edgeAt n x).mem = s.mem := by
  obtain ⟨f, g, -, h⟩ | ⟨f, h⟩ | h := s.edgeAt_cases n x <;> simp [h]

theorem short_cnt_ne (n : Fin 48) : (Ev.PWM_LEG_FLAGS_SHORT n).cnt ≠ Reg.PWM_LEG_FLAGS n ∧
    (Ev.PWM_LEG_FLAGS_SHORT n).cnt ≠ Reg.PWM_LEG_STATE n := by
  simp only [Ev.PWM_LEG_FLAGS_SHORT, Reg.PWM_LEG_FLAGS, Reg.PWM_LEG_STATE]
  omega

theorem State.flag_short (s : State) (n : Fin 48) :
    (s.raise (Ev.PWM_LEG_FLAGS_SHORT n)).flag (Ev.PWM_LEG_FLAGS_SHORT n) = true :=
  s.flag_raise _ (short_cnt_ne n).1 (by decide : 1 < 32)

/-- A one-bit field's value is that of its Bool. -/
theorem State.get_eq_toNat_on (s : State) (a b : Nat) : s.get ⟨a, b, 1⟩ = (s.on ⟨a, b, 1⟩).toNat := by
  have hlt : s.get ⟨a, b, 1⟩ < 2 := Nat.mod_lt _ (show 0 < 2 ^ 1 by decide)
  rw [State.on]
  obtain h | h : s.get ⟨a, b, 1⟩ = 0 ∨ s.get ⟨a, b, 1⟩ = 1 := by omega
  all_goals rw [h]; rfl

/-- R202: a pulse that starts is found short, or its level is REF's. -/
theorem State.edgeTake_ref (s : State) (n : Fin 48) (x : Nat) (v : Bool) :
    (s.edgeTake n x v).flag (Ev.PWM_LEG_FLAGS_SHORT n) = true ∨ (s.edgeTake n x v).get (Fd.PWM_LEG_STATE_REF n) = v.toNat := by
  obtain ⟨f, -, h⟩ | ⟨b, f, t, -, h⟩ := s.edgeTake_cases n x v <;> rw [h]
  · exact Or.inl ((State.legM_flag _ _ _ _).trans (s.flag_short n))
  · refine Or.inr ?_
    rw [(switchBlind_ref n).legApply, State.legM_get, State.putB]
    exact (State.get_put_field _ _ 2 1 _ (by decide)).trans (Nat.mod_eq_of_lt (Bool.toNat_lt v))

/-- A flag SHORT that is set stays set while an edge is taken. -/
theorem State.edgeTake_short (s : State) (n : Fin 48) (x : Nat) (v : Bool) (hs : s.flag (Ev.PWM_LEG_FLAGS_SHORT n) = true) :
    (s.edgeTake n x v).flag (Ev.PWM_LEG_FLAGS_SHORT n) = true := by
  obtain ⟨f, -, h⟩ | ⟨b, f, t, -, h⟩ := s.edgeTake_cases n x v <;> rw [h]
  · exact (State.legM_flag _ _ _ _).trans (s.flag_short n)
  · have hraise : (s.raiseIf b (Ev.PWM_LEG_FLAGS_SHORT n)).flag (Ev.PWM_LEG_FLAGS_SHORT n) = true := by
      unfold State.raiseIf
      split
      · exact s.flag_short n
      · exact hs
    have hput : ((s.raiseIf b (Ev.PWM_LEG_FLAGS_SHORT n)).putB (Fd.PWM_LEG_STATE_REF n) v).get (Fd.PWM_LEG_FLAGS_SHORT n) =
        (s.raiseIf b (Ev.PWM_LEG_FLAGS_SHORT n)).get (Fd.PWM_LEG_FLAGS_SHORT n) := by
      refine State.get_put_apart _ _ _ _ (by decide : 2 + 1 ≤ 32) (Or.inl ?_)
      simp only [Fd.PWM_LEG_FLAGS_SHORT, Fd.PWM_LEG_STATE_REF, Reg.PWM_LEG_FLAGS, Reg.PWM_LEG_STATE]
      omega
    have hkept := ((switchBlind_short n).legApply _ t).trans ((State.legM_get _ n f _).trans hput)
    exact (congrArg (· != 0) hkept).trans hraise

/-- R192, R202: REF leaves its level, or the edge is found short. -/
theorem State.edgeAt_ref (s : State) (n : Fin 48) (x : Nat) :
    (s.edgeAt n x).flag (Ev.PWM_LEG_FLAGS_SHORT n) = true ∨
      (s.edgeAt n x).get (Fd.PWM_LEG_STATE_REF n) = 1 - s.get (Fd.PWM_LEG_STATE_REF n) := by
  have hnot : (!s.on (Fd.PWM_LEG_STATE_REF n)).toNat = 1 - s.get (Fd.PWM_LEG_STATE_REF n) := by
    rw [Fd.PWM_LEG_STATE_REF, s.get_eq_toNat_on]
    cases s.on _ <;> rfl
  obtain ⟨f, g, -, h⟩ | ⟨f, h⟩ | h := s.edgeAt_cases n x <;> rw [h]
  · exact Or.inl ((State.legM_flag _ _ _ _).trans ((State.legM_flag _ _ _ _).trans (s.flag_short n)))
  · exact Or.inl (State.edgeTake_short _ n x _ ((State.legM_flag _ _ _ _).trans (s.flag_short n)))
  · rw [← hnot]
    exact s.edgeTake_ref n x _

end Sys2Proof.Machine

/-! SUPPORT. What a forced leg leaves of PWM's registers (R204–R206, R270), and the legs' obligation (R192–R211). -/
namespace Sys2Proof.Machine

/-! ### The aborted sweeps leave PWM's registers (R270) -/

/-- R263: the doubleword lies in a reckoner's memory, and changes no register. -/
theorem State.dcDwordWrite_rd (s : State) (k r : Nat) (act fin' abt : Bool) (a : Nat) :
    (s.dcDwordWrite k r act fin' abt).rd a = s.rd a := by
  have haddr : ¬(0x08000000 ≤ s.dcDword k ∧ s.dcDword k < 0x09000000) := by
    unfold State.dcDword
    omega
  simp only [State.dcDwordWrite, State.blockWrite, State.blockLand, if_neg haddr]
  split <;> rfl

section
variable {a : Nat} (ha : InPwm a)
include ha

theorem InPwm.rd_wrN (s : State) (b v : Nat) (hb : 0x40124000 ≤ b) : (s.wrN b v).rd a = s.rd a :=
  (s.rd_wr b a _).trans (if_neg (by omega))

theorem InPwm.rd_put (s : State) (f : Fld) (v : Nat) (hf : 0x40124000 ≤ f.addr) : (s.put f v).rd a = s.rd a :=
  s.rd_put_other f v a (by omega)

theorem InPwm.rd_raise (s : State) (e : EvFlag) (he : 0x40124000 ≤ e.addr) (hc : 0x40124000 ≤ e.cnt) : (s.raise e).rd a = s.rd a :=
  s.rd_raise_other e a (by omega) (by omega)

theorem InPwm.rd_dcEvent (s : State) (k : Fin 8) (b : Nat) : (s.dcEvent k b).rd a = s.rd a := by
  have hfire (t : State) (src e : Nat) : (t.fire src e).rd a = t.rd a := by
    refine t.fire_rd src e a ?_ ?_ <;> simp only [Reg.TBL_SUPPRCNT, Reg.TBL_MERGECNT] <;> omega
  have hswl (v : Nat) : (s.swlFire v).rd a = s.rd a := by
    refine foldl_same (fun s => s.rd a) _ (fun t (i : Nat) => ?_) _ s
    split
    · exact hfire t _ _
    · rfl
  unfold State.dcEvent
  simp only []
  split
  · split
    · exact hswl _
    · rfl
  · rfl

theorem InPwm.rd_sweepComplete (s : State) (k : Fin 8) : (s.sweepComplete k).rd a = s.rd a := by
  rw [State.sweepComplete, State.dcM_rd, InPwm.rd_put ha, InPwm.rd_raise ha, State.putB, InPwm.rd_put ha, InPwm.rd_put ha]
  all_goals
    simp only [Fd.SYSCFG_DC_SWSTAT_STATE, Fd.SYSCFG_DC_SWRES_MAXIDX, Fd.SYSCFG_DC_SWRES_MAXVALID, Ev.SYSCFG_DC_FLAGS_DONE,
      Reg.SYSCFG_DC_SWSTAT, Reg.SYSCFG_DC_SWRES, Reg.SYSCFG_DC_FLAGS]
    omega

theorem InPwm.rd_sweepTake (s : State) (k : Fin 8) (c : DcCap) : (s.sweepTake k c).1.rd a = s.rd a := by
  have hcap (t : State) (b v : Nat) : (t.wrN (Reg.SYSCFG_DC_CAP k b) v).rd a = t.rd a :=
    InPwm.rd_wrN ha t _ v (by simp only [Reg.SYSCFG_DC_CAP]; omega)
  have hentry : (s.sweepEntry k c).rd a = s.rd a := by simp only [State.sweepEntry, hcap]
  unfold State.sweepTake
  simp only []
  split
  · rw [InPwm.rd_sweepComplete ha, State.dcM_rd, hentry]
  · rw [State.dcM_rd, hentry]

theorem InPwm.rd_sweepHalt (s : State) (k : Fin 8) (cause : Nat) : (s.sweepHalt k cause).rd a = s.rd a := by
  rw [State.sweepHalt, State.dcM_rd, InPwm.rd_put ha, InPwm.rd_put ha, InPwm.rd_raise ha]
  all_goals
    simp only [Fd.SYSCFG_DC_SWSTAT_STATE, Fd.SYSCFG_DC_SWSTAT_ACAUSE, Ev.SYSCFG_DC_FLAGS_ABORT, Reg.SYSCFG_DC_SWSTAT,
      Reg.SYSCFG_DC_FLAGS]
    omega

theorem InPwm.rd_sweepAbort (s : State) (k : Fin 8) (cause : Nat) : (s.sweepAbort k cause).rd a = s.rd a := by
  have hcut : (s.sweepCut k cause).1.rd a = s.rd a := by
    unfold State.sweepCut
    split
    · split
      · exact InPwm.rd_sweepTake ha s k _
      · exact InPwm.rd_sweepHalt ha s k cause
    · rfl
  have htells (t : State) (l : List (Fin 8 × Option Nat)) : (t.sweepTells l).rd a = t.rd a := by
    refine foldl_same (fun s => s.rd a) _ (fun t e => ?_) l t
    split
    · rfl
    · exact (InPwm.rd_dcEvent ha _ _ 0).trans (t.dcDwordWrite_rd _ _ _ _ _ a)
    · refine (InPwm.rd_dcEvent ha _ _ 1).trans ?_
      split
      · rfl
      · exact t.dcDwordWrite_rd _ _ _ _ _ a
  rw [State.sweepAbort, htells, hcut]

theorem InPwm.rd_sweepLegForced (s : State) (n : Nat) : (s.sweepLegForced n).rd a = s.rd a := by
  refine foldl_same (fun s => s.rd a) _ (fun t (k : Fin 8) => ?_) _ s
  split
  · exact InPwm.rd_sweepAbort ha t k 2
  · rfl

end

/-! ### A forced leg keeps its configuration (R206) -/

theorem inPwm_legCfg (n : Fin 48) : InPwm (Reg.PWM_LEG_CFG n) := by
  simp only [InPwm, Reg.PWM_LEG_CFG]
  omega

theorem switchBlind_legCfg (n : Fin 48) : SwitchBlind n fun s => s.rd (Reg.PWM_LEG_CFG n) := by
  refine SwitchBlind.rd n ?_ ?_ ?_ <;>
    simp only [Reg.PWM_LEG_CFG, Reg.PWM_LEG_STATE, Reg.PWM_LEG_FLAGS, Ev.PWM_LEG_FLAGS_SHOOT] <;> omega

theorem State.put_legState_cfg (s : State) (n : Fin 48) (lo w v : Nat) :
    (s.put ⟨Reg.PWM_LEG_STATE n, lo, w⟩ v).rd (Reg.PWM_LEG_CFG n) = s.rd (Reg.PWM_LEG_CFG n) :=
  s.rd_put_other _ v _ (by simp only [Reg.PWM_LEG_CFG, Reg.PWM_LEG_STATE]; omega)

theorem State.legApply_cfg (s : State) (n : Fin 48) (t : Nat) :
    (s.legApply n t).rd (Reg.PWM_LEG_CFG n) = s.rd (Reg.PWM_LEG_CFG n) := (switchBlind_legCfg n).legApply s t

theorem State.movedEdge_cfg (s : State) (n : Fin 48) (low off : Bool) (t : Nat) :
    (s.movedEdge n low off t).rd (Reg.PWM_LEG_CFG n) = s.rd (Reg.PWM_LEG_CFG n) := by
  refine s.rd_raiseIf_other _ _ _ ?_ ?_ <;>
    simp only [Reg.PWM_LEG_CFG, Ev.DRIVE_G_FLAGS_LATEFR, Reg.DRIVE_G_FLAGS] <;> omega

theorem State.forceLeg_cfg (s : State) (n : Fin 48) : (s.forceLeg n).rd (Reg.PWM_LEG_CFG n) = s.rd (Reg.PWM_LEG_CFG n) := by
  unfold State.forceLeg
  simp only []
  split
  · rw [InPwm.rd_sweepLegForced (inPwm_legCfg n)]
    have hmoved (c : Prop) [Decidable c] (t : State) (low : Bool) (at' : Nat) :
        (if c then t.movedEdge n low true at' else t).rd (Reg.PWM_LEG_CFG n) = t.rd (Reg.PWM_LEG_CFG n) :=
      same_of_ite (g := fun s : State => s.rd (Reg.PWM_LEG_CFG n)) (t.movedEdge_cfg n low true at')
    rw [hmoved, hmoved, State.legApply_cfg, State.legM_rd, Fd.PWM_LEG_STATE_FORCED, State.put_legState_cfg]
  · split
    · rw [State.legApply_cfg, State.legM_rd, Fd.PWM_LEG_STATE_FORCED, State.put_legState_cfg]
    · rfl

/-- R263, R270: where no sweep runs, a leg that takes or leaves its forced state writes no memory. -/
theorem State.Quiet.forceLeg_mem {s : State} (h : s.Quiet) (n : Fin 48) : (s.forceLeg n).mem = s.mem := by
  obtain ⟨t, hsame, heq⟩ := s.forceLeg_cases n
  have hquiet : t.Quiet := h.of_rd fun k => hsame _ (fun s => s.rd (Reg.SYSCFG_DC_SWSTAT k)) ⟨Blind.rd (by
    simp only [InPwm, Reg.SYSCFG_DC_SWSTAT]
    omega), fun _ _ _ => rfl⟩
  rw [hquiet.sweepLegForced n, or_self] at heq
  rw [heq]
  exact hsame _ State.mem pwmBlind_mem

end Sys2Proof.Machine

/-! SUPPORT. The configuration, the guard and the calibration of a leg (R194, R203, R209, R211). -/
namespace Sys2Proof.Machine

/-! ### PWM_LEGn_CFG and PWM_LEGn_OVR (R203, R211) -/

/-- R211: the state once LEGn_CFG of a leg that was not enabled holds its word, before the leg's forcing is looked at again. -/
def State.legCfgStored (s : State) (n : Fin 48) (v : Word) : State :=
  let edge := decide (cut v.toNat 6 1 ≠ s.get (Fd.PWM_LEG_CFG_EDGE n))
  let changes := edge || decide (cut v.toNat 1 3 ≠ s.get (Fd.PWM_LEG_CFG_CAR n) ∨ cut v.toNat 4 2 ≠ s.get (Fd.PWM_LEG_CFG_MODE n))
  let s := s.wrN (Reg.PWM_LEG_CFG n) (cut v.toNat 0 11 + 2 ^ 12 * cut v.toNat 12 2)
  let s := if changes then s.noPulse n else s
  let s := if edge then s.legM n fun g => { g with edgeA := 0, edgeB := 0 } else s
  let k := s.pwm.carriers[s.carOf n]
  if k.run then s.legM n fun g => { g with last := k.abs, holdTo := 0, drop := none } else s.put (Fd.PWM_LEG_STATE_REF n) 0

theorem State.legCfgLand_of_off (s : State) (n : Fin 48) (v : Word) (hsafe : cut v.toNat 12 2 ≠ 3)
    (hoff : s.on (Fd.PWM_LEG_CFG_EN n) = false) :
    s.legCfgLand n v = ((s.legCfgStored n v).forceLeg n).legApply n ((s.legCfgStored n v).forceLeg n).now := by
  simp only [State.legCfgLand, hsafe, hoff, Bool.false_and, Bool.false_eq_true, if_false]
  rfl

theorem State.legCfgLand_of_illegal (s : State) (n : Fin 48) (v : Word) (hsafe : cut v.toNat 12 2 = 3) :
    s.legCfgLand n v = s.raise Ev.PWM_GFLAGS_CFGERR := if_pos hsafe

/-- R211: the word of LEGn_CFG, without its reserved bits. -/
theorem ofNat_legCfg (v : Word) : BitVec.ofNat 32 (cut v.toNat 0 11 + 2 ^ 12 * cut v.toNat 12 2) = v &&& 0x37FF#32 := by
  have hmask : ∀ i < 32, (0x37FF#32).getLsbD i = decide (i < 11 ∨ 12 ≤ i ∧ i < 12 + 2) := by decide
  refine BitVec.eq_of_getLsbD_eq fun i hi => ?_
  rw [getLsbD_twoFields v 11 12 2 i (by decide), BitVec.getLsbD_and, hmask i hi]

/-- A register that is neither the leg's CFG nor its STATE keeps its word; CFG takes its own. -/
theorem State.legCfgStored_rd (s : State) (n : Fin 48) (v : Word) (a : Nat) (ha : a ≠ Reg.PWM_LEG_STATE n) :
    (s.legCfgStored n v).rd a = if a = Reg.PWM_LEG_CFG n then v &&& 0x37FF#32 else s.rd a := by
  have hput (t : State) (x : Nat) : (t.put (Fd.PWM_LEG_STATE_REF n) x).rd a = t.rd a := t.rd_put_other _ x a ha
  simp only [State.legCfgStored, State.noPulse, apply_ite (fun t : State => t.rd a), State.legM_rd, hput, ite_self,
    State.wrN, State.rd_wr, ofNat_legCfg]

@[simp] theorem State.legCfgStored_mem (s : State) (n : Fin 48) (v : Word) : (s.legCfgStored n v).mem = s.mem := by
  unfold State.legCfgStored State.noPulse
  simp only [apply_ite State.mem, State.legM_mem, State.put_mem, State.wrN_mem, ite_self]

theorem State.Quiet.legCfgStored {s : State} (h : s.Quiet) (n : Fin 48) (v : Word) : (s.legCfgStored n v).Quiet := by
  refine h.of_rd fun k => (s.legCfgStored_rd n v _ ?_).trans (if_neg ?_) <;>
    simp only [Reg.SYSCFG_DC_SWSTAT, Reg.PWM_LEG_STATE, Reg.PWM_LEG_CFG] <;> omega

/-- R211: the word is stored. -/
theorem State.legCfgLand_cfg (s : State) (n : Fin 48) (v : Word) (hsafe : cut v.toNat 12 2 ≠ 3)
    (hoff : s.on (Fd.PWM_LEG_CFG_EN n) = false) : (s.legCfgLand n v).rd (Reg.PWM_LEG_CFG n) = v &&& 0x37FF#32 := by
  rw [s.legCfgLand_of_off n v hsafe hoff, State.legApply_cfg, State.forceLeg_cfg, State.legCfgStored_rd, if_pos rfl]
  simp only [Reg.PWM_LEG_CFG, Reg.PWM_LEG_STATE]
  omega

theorem State.legCfgLand_mem {s : State} (h : s.Quiet) (n : Fin 48) (v : Word) (hsafe : cut v.toNat 12 2 ≠ 3)
    (hoff : s.on (Fd.PWM_LEG_CFG_EN n) = false) : (s.legCfgLand n v).mem = s.mem := by
  rw [s.legCfgLand_of_off n v hsafe hoff, State.legApply_mem, (h.legCfgStored n v).forceLeg_mem, State.legCfgStored_mem]

/-- A refusal of PWM sets CFGERR and changes nothing else. -/
theorem State.pwmCfgerr_raised (s : State) :
    (s.raise Ev.PWM_GFLAGS_CFGERR).flag Ev.PWM_GFLAGS_CFGERR = true ∧
      SameRegistersBut [Reg.PWM_GFLAGS, Ev.PWM_GFLAGS_CFGERR.cnt] s (s.raise Ev.PWM_GFLAGS_CFGERR) := by
  refine ⟨s.flag_raise _ (by decide) (by decide), fun a ha => ?_⟩
  rw [List.mem_pair, not_or] at ha
  exact s.rd_raise_other _ a ha.1 ha.2

theorem ofNat_cut_three (v : Word) : BitVec.ofNat 32 (cut v.toNat 0 3) = v &&& 7 := by
  apply BitVec.eq_of_toNat_eq
  rw [BitVec.toNat_ofNat, BitVec.toNat_and]
  have hmod : v.toNat &&& 7 = v.toNat % 2 ^ 3 := Nat.and_two_pow_sub_one_eq_mod v.toNat 3
  have hcut : cut v.toNat 0 3 = v.toNat % 2 ^ 3 := rfl
  refine Eq.trans ?_ hmod.symm
  omega

/-- R203: what applying the commands leaves of a leg's OVR and CFG. -/
theorem State.legApply_ovr (s : State) (n : Fin 48) (t : Nat) : (s.legApply n t).rd (Reg.PWM_LEG_OVR n) = s.rd (Reg.PWM_LEG_OVR n) := by
  refine (SwitchBlind.rd n ?_ ?_ ?_).legApply s t <;>
    simp only [Reg.PWM_LEG_OVR, Reg.PWM_LEG_STATE, Reg.PWM_LEG_FLAGS, Ev.PWM_LEG_FLAGS_SHOOT] <;> omega

/-- R203: a write of OVR where the PWM clock runs. -/
theorem State.legOvrWrite_of_running (s : State) (n : Fin 48) (v : Word) (hclk : s.pwmClk = true) (hland : s.landing = false) :
    ∃ t, s.legOvrWrite n v = ((s.advance 2).wr (Reg.PWM_LEG_OVR n) (v &&& 7)).legApply n t := by
  rw [State.legOvrWrite, s.landPwm_of_running _ _ _ hclk, s.crossed_of_not_landing hland]
  simp only [State.wrN, ofNat_cut_three]
  exact ⟨_, rfl⟩

/-! ### The guard (R209) -/

/-- R209: the state in which the guard trips. -/
def State.guarded (s : State) (n : Fin 48) (t : Nat) : State :=
  ((s.reachNow t).raise (Ev.PWM_LEG_FLAGS_GUARD n)).put (Fd.PWM_LEG_STATE_GUARDED n) 1

theorem State.guardTrip_of_onH (s : State) (n : Fin 48) (a : Nat) (hmax : s.get (Fd.PWM_LEG_GUARD_MAXON n) ≠ 0)
    (hon : s.pwm.legs[n].onH = some a) :
    ∃ t, s.guardTrip n = (s.guarded n (a + s.get (Fd.PWM_LEG_GUARD_MAXON n) * 15200)).legApply n t := by
  simp only [State.guardTrip, hmax, if_false, hon]
  exact ⟨_, rfl⟩

@[simp] theorem State.guarded_mem (s : State) (n : Fin 48) (t : Nat) : (s.guarded n t).mem = s.mem := by
  rw [State.guarded, State.put_mem, State.raise_mem, State.reachNow, State.advance_mem]

theorem State.le_guarded_now (s : State) (n : Fin 48) (t : Nat) : t ≤ (s.guarded n t).now := by
  rw [State.guarded, State.put_now, State.raise_now]
  exact s.le_reachNow_now t

theorem State.guarded_get (s : State) (n : Fin 48) (t : Nat) : (s.guarded n t).get (Fd.PWM_LEG_STATE_GUARDED n) = 1 :=
  State.get_put_field _ _ 5 1 1 (by decide)

theorem State.guarded_flag (s : State) (n : Fin 48) (t : Nat) : (s.guarded n t).get (Fd.PWM_LEG_FLAGS_GUARD n) ≠ 0 := by
  have hput : (s.guarded n t).get (Fd.PWM_LEG_FLAGS_GUARD n) = ((s.reachNow t).raise (Ev.PWM_LEG_FLAGS_GUARD n)).get (Fd.PWM_LEG_FLAGS_GUARD n) := by
    refine State.get_put_apart _ _ _ _ (show 5 + 1 ≤ 32 by decide) (Or.inl ?_)
    simp only [Fd.PWM_LEG_FLAGS_GUARD, Fd.PWM_LEG_STATE_GUARDED, Reg.PWM_LEG_FLAGS, Reg.PWM_LEG_STATE]
    omega
  have hflag : ((s.reachNow t).raise (Ev.PWM_LEG_FLAGS_GUARD n)).flag (Ev.PWM_LEG_FLAGS_GUARD n) = true := by
    refine State.flag_raise _ _ ?_ (show 3 < 32 by decide)
    simp only [Ev.PWM_LEG_FLAGS_GUARD, Reg.PWM_LEG_FLAGS]
    omega
  rw [hput]
  exact bne_iff_ne.mp hflag

/-! ### The obligation -/

/-- Settles O39: each command is brought to the edge, the switch, the guard or the write that it names, and their laws give the
clause. -/
theorem legSwitching : Obligations.LegSwitching := by
  unfold Obligations.LegSwitching
  refine ⟨?edge, ?high, ?low, ?ovr, ?illegal, ?stored, ?guard, ?discarded, ?spans⟩
  case edge =>
    intro n x s hrun hruns hx
    obtain ⟨k, hedge⟩ := s.refEdge_of_next n x hrun hruns hx
    refine ⟨_, rfl, ?_⟩
    rw [hedge]
    refine ⟨State.edgeAt_last _ n x, fun hshort => ?_, (State.edgeAt_mem _ n x).trans (s.advance_mem k)⟩
    obtain h | h := (s.advance k).edgeAt_ref n x
    · exact absurd (h.symm.trans hshort) (by decide)
    · rw [h, State.advance_get]
  case high =>
    intro n d s hruns hturn hcmd hguarded hH hL
    exact ⟨_, rfl, s.deadTimeEnd_turnsOn n true d hruns hturn hcmd hguarded hH hL⟩
  case low =>
    intro n d s hruns hturn hcmd hguarded hH hL
    exact ⟨_, rfl, s.deadTimeEnd_turnsOn n false d hruns hturn hcmd hguarded hH hL⟩
  case ovr =>
    intro n v s hclk hland
    obtain ⟨t, hwrite⟩ := s.legOvrWrite_of_running n v hclk hland
    have hcfg : Reg.PWM_LEG_CFG n ≠ Reg.PWM_LEG_OVR n := by
      simp only [Reg.PWM_LEG_CFG, Reg.PWM_LEG_OVR]
      omega
    refine ⟨_, rfl, ?_⟩
    rw [hwrite]
    refine ⟨?_, ?_, ?_, ?_⟩
    · rw [State.legApply_ovr, State.rd_wr, if_pos rfl]
    · rw [State.get, State.rdN, Fd.PWM_LEG_CFG_MODE, State.legApply_cfg, State.rd_wr, if_neg hcfg, State.advance_rd]
      rfl
    · rw [State.legApply_now, State.wr_now, State.advance_now]
    · rw [State.legApply_mem, State.wr_mem, State.advance_mem]
  case illegal =>
    intro n v s hclk hland hsafe
    refine ⟨_, rfl, ?_⟩
    rw [State.legCfgWrite, s.landPwm_of_running _ _ _ hclk, s.crossed_of_not_landing hland, State.legCfgLand_of_illegal _ n v hsafe]
    obtain ⟨hflag, hregs⟩ := (s.advance 2).pwmCfgerr_raised
    exact ⟨hflag, fun a ha => (hregs a ha).trans (s.advance_rd 2 a), State.raise_pwm _ _, (State.raise_mem _ _).trans (s.advance_mem 2)⟩
  case stored =>
    intro n v s hclk hland hsafe hoff
    have hoff' := (s.advance_on 2 _).trans hoff
    refine ⟨_, rfl, ?_⟩
    rw [State.legCfgWrite, s.landPwm_of_running _ _ _ hclk, s.crossed_of_not_landing hland]
    refine ⟨State.legCfgLand_cfg _ n v hsafe hoff', fun hquiet => ?_⟩
    exact (State.legCfgLand_mem (State.Quiet.advance hquiet.1 2) n v hsafe hoff').trans (s.advance_mem 2)
  case guard =>
    intro n a s hmax hon
    obtain ⟨t, htrip⟩ := s.guardTrip_of_onH n a hmax hon
    generalize hat : a + s.get (Fd.PWM_LEG_GUARD_MAXON n) * 15200 = at' at htrip ⊢
    have hguarded : (s.guarded n at').on (Fd.PWM_LEG_STATE_GUARDED n) = true := by rw [State.on, State.guarded_get]; rfl
    refine ⟨_, rfl, ?_⟩
    rw [htrip]
    refine ⟨?_, ?_, ?_, ?_, ?_, ?_⟩
    · have hkept := (SwitchBlind.get n (Fd.PWM_LEG_FLAGS_GUARD n) (Or.inr ⟨rfl, Or.inr (show 3 ≤ 3 by decide)⟩)).legApply (s.guarded n at') t
      exact bne_iff_ne.mpr (hkept.trans_ne (s.guarded_flag n at'))
    · exact ((SwitchBlind.get n (Fd.PWM_LEG_STATE_GUARDED n) (Or.inl ⟨rfl, Or.inr (show 5 ≤ 5 by decide)⟩)).legApply _ t).trans
        (s.guarded_get n at')
    · exact State.legApply_guarded _ n t hguarded true
    · exact State.legApply_guarded _ n t hguarded false
    · rw [State.legApply_now]
      exact s.le_guarded_now n at'
    · rw [State.legApply_mem, State.guarded_mem]
  case discarded =>
    intro n s
    refine ⟨_, rfl, ?_⟩
    have hcal : s.calibrate n false = (s.raise Ev.PWM_GFLAGS_CALERR).put Fd.PWM_CALSTAT_LEG n.val := rfl
    have hflag : (s.calibrate n false).get Fd.PWM_GFLAGS_CALERR = (s.raise Ev.PWM_GFLAGS_CALERR).get Fd.PWM_GFLAGS_CALERR :=
      State.get_put_apart _ _ _ _ (by decide) (Or.inl (by decide))
    refine ⟨?_, ?_, ?_, ?_⟩
    · exact (congrArg (· != 0) hflag).trans (s.flag_raise Ev.PWM_GFLAGS_CALERR (by decide) (by decide))
    · rw [hcal, State.get_put_within _ _ _ (by decide)]
      exact Nat.mod_eq_of_lt (show n.val < 64 by omega)
    · rw [hcal, State.put_pwm, State.raise_pwm]
    · rw [hcal, State.put_mem, State.raise_mem]
  case spans => exact fun n s => rfl

end Sys2Proof.Machine

/-! SUPPORT. What taking or leaving the forced state leaves of DRIVE and of the legs (R204–R207, R225). -/
namespace Sys2Proof.Machine

/-! ### What stays behind a leg while its commands are applied (R203, R206, R225) -/

/-- R206, R225: what the interlock leaves behind a leg: whether it is forced, and the refresh in progress. -/
def Leg.hold (g : Leg) : Bool × Option Refresh := (g.forced, g.refresh)

/-- The same of leg `j`. -/
def State.legHold (s : State) (j : Fin 48) : Bool × Option Refresh := s.pwm.legs[j].hold

theorem State.legHold_legM (s : State) (n j : Fin 48) (f : Leg → Leg) (hforced : ∀ g, (f g).forced = g.forced)
    (hrefresh : ∀ g, (f g).refresh = g.refresh) : (s.legM n f).legHold j = s.legHold j := by
  by_cases h : j = n
  · subst h
    rw [State.legHold, State.legM_leg, Leg.hold, hforced, hrefresh, State.legHold, Leg.hold]
  · exact congrArg Leg.hold (upd_get_other s.pwm.legs n j f h)

theorem State.legHold_of_pwm {s t : State} (h : t.pwm = s.pwm) (j : Fin 48) : t.legHold j = s.legHold j := by
  rw [State.legHold, h, State.legHold]

theorem State.legHold_legZero (s : State) (n j : Fin 48) (t : Nat) : (s.legZero n t).legHold j = s.legHold j := by
  unfold State.legZero
  split
  · exact s.legHold_legM n j _ (fun _ => rfl) fun _ => rfl
  · rfl

theorem State.legHold_ballOff (s : State) (n j : Fin 48) (high : Bool) (t : Nat) : (s.ballOff n high t).legHold j = s.legHold j := by
  unfold State.ballOff
  split
  · exact State.legHold_legM _ n j _ (by intro; rfl) (by intro; rfl)
  · exact (State.legHold_legM _ n j _ (by intro; rfl) (by intro; rfl)).trans (s.legHold_legZero n j _)

theorem State.legHold_ballOn (s : State) (n j : Fin 48) (high : Bool) (t : Nat) : (s.ballOn n high t).legHold j = s.legHold j := by
  unfold State.ballOn
  split <;> exact State.legHold_legM _ n j _ (by intro; rfl) (by intro; rfl)

theorem State.legHold_turnOnAt (s : State) (n j : Fin 48) (high dead : Bool) (t : Nat) :
    (s.turnOnAt n high dead t).legHold j = s.legHold j := by
  simp only [State.turnOnAt, apply_ite fun s : State => s.legHold j, State.legHold_ballOn, State.legHold_legM,
    implies_true, ite_self]

theorem State.legHold_legApplyWith (s : State) (n j : Fin 48) (dead : Bool) (t : Nat) :
    (s.legApplyWith n dead t).legHold j = s.legHold j := by
  have hshoot (s : State) (e : EvFlag) (k : Nat) : (s.raiseN e k).legHold j = s.legHold j := State.legHold_of_pwm (s.raiseN_pwm e k) j
  have hheld (s : State) : (s.heldShow n).legHold j = s.legHold j := rfl
  unfold State.legApplyWith
  obtain ⟨ch, cl⟩ := s.legCmd n
  simp only [apply_ite fun s : State => s.legHold j, State.legHold_ballOff, State.legHold_turnOnAt, hshoot, hheld, State.legHold_legM,
    implies_true, ite_self]

theorem State.legHold_legApply (s : State) (n j : Fin 48) (t : Nat) : (s.legApply n t).legHold j = s.legHold j :=
  s.legHold_legApplyWith n j _ t

/-! ### What the forcing of legs does not show in (R204–R207) -/

/-- The observation `g` sees nothing of what leg `n` does that takes or leaves its forced state. -/
structure ForceBlind (n : Fin 48) {β : Type} (g : State → β) : Prop extends SwitchBlind n g where
  forced (s : State) (v : Nat) : g (s.put (Fd.PWM_LEG_STATE_FORCED n) v) = g s
  late (s : State) (b : Bool) : g (s.raiseIf b (Ev.DRIVE_G_FLAGS_LATEFR (n.val / 4))) = g s
  sweep (s : State) : g (s.sweepLegForced n.val) = g s

section
variable {n : Fin 48} {β : Type} {g : State → β} (h : ForceBlind n g)
include h

theorem ForceBlind.movedIf (s : State) (c : Prop) [Decidable c] (low : Bool) (t : Nat) :
    g (if c then s.movedEdge n low true t else s) = g s := same_of_ite (h.late s _)

theorem ForceBlind.forceLeg (s : State) : g (s.forceLeg n) = g s := by
  unfold State.forceLeg
  simp only []
  split
  · rw [h.sweep, h.movedIf, h.movedIf, h.legApply, h.legM _ _ (by intro; rfl), h.forced]
  · split
    · rw [h.legApply, h.legM _ _ (by intro; rfl), h.forced]
    · rfl

end

theorem State.forceLegs_same {β : Type} {g : State → β} (h : ∀ n, ForceBlind n g) (s : State) : g s.forceLegs = g s :=
  foldl_same g _ (fun s n => (h n).forceLeg s) _ s

/-- What sees nothing of the registers outside MODIN, and nothing of a leg. -/
theorem SweepBlind.forceBlind {β : Type} {g : State → β} (h : SweepBlind g) {n : Fin 48} (hleg : ∀ s f, g (State.legM s n f) = g s) :
    ForceBlind n g where
  switch s lo v _ := h.put s _ v (Or.inl (inPwm_legState n).2)
  shoot s k := by
    refine h.raiseN s _ k (Or.inl ?_) (Or.inl ?_) <;> simp only [Ev.PWM_LEG_FLAGS_SHOOT, Reg.PWM_LEG_FLAGS] <;> omega
  legM s f _ := hleg s f
  forced s v := h.put s _ v (Or.inl (inPwm_legState n).2)
  late s b := by
    refine h.raiseIf s b _ (Or.inl ?_) (Or.inl ?_) <;> simp only [Ev.DRIVE_G_FLAGS_LATEFR, Reg.DRIVE_G_FLAGS] <;> omega
  sweep s := h.sweepLegForced s n.val

/-- R270: an aborted sweep leaves the time, PMU, DRIVE and PWM alone. -/
theorem sweepBlind_of_parts {β : Type} (k : Nat → Pmu → Drive → Pwm → β) : SweepBlind fun s => k s.now s.pmu s.drive s.pwm :=
  ⟨⟨fun _ _ _ _ => rfl, fun _ _ _ _ => rfl⟩, fun _ _ _ _ _ _ _ => rfl⟩

@[simp] theorem State.forceLeg_drive (s : State) (n : Fin 48) : (s.forceLeg n).drive = s.drive :=
  ((sweepBlind_of_parts fun _ _ d _ => d).forceBlind fun _ _ => rfl).forceLeg s
@[simp] theorem State.forceLegs_drive (s : State) : s.forceLegs.drive = s.drive := foldl_same State.drive _ State.forceLeg_drive _ s
@[simp] theorem State.forceLegs_now (s : State) : s.forceLegs.now = s.now :=
  State.forceLegs_same (fun _ => (sweepBlind_of_parts fun t _ _ _ => t).forceBlind fun _ _ => rfl) s

/-- The registers of PWM and DRIVE that the forcing of leg `n` writes. -/
def forceRegs (n : Fin 48) : List Nat :=
  [Reg.PWM_LEG_STATE n, Reg.PWM_LEG_FLAGS n, (Ev.PWM_LEG_FLAGS_SHOOT n).cnt, Reg.DRIVE_G_FLAGS (n.val / 4),
    (Ev.DRIVE_G_FLAGS_LATEFR (n.val / 4)).cnt]

theorem ForceBlind.rd {a : Nat} {n : Fin 48} (ha : InPwm a) (h : a ∉ forceRegs n) : ForceBlind n fun s => s.rd a := by
  simp only [forceRegs, List.mem_cons, List.not_mem_nil, or_false, not_or] at h
  obtain ⟨hstate, hflags, hshoot, hlate, hcnt⟩ := h
  exact { SwitchBlind.rd n hstate hflags hshoot with
    forced := fun s v => s.rd_put_other _ v a hstate
    late := fun s b => s.rd_raiseIf_other b _ a hlate hcnt
    sweep := fun s => InPwm.rd_sweepLegForced ha s n.val }

/-- A register of PWM or DRIVE that no leg's forcing writes. -/
theorem State.forceLegs_rd (s : State) {a : Nat} (ha : InPwm a) (h : ∀ n, a ∉ forceRegs n) : s.forceLegs.rd a = s.rd a :=
  State.forceLegs_same (fun n => ForceBlind.rd ha (h n)) s

/-- R263, R270: where no sweep runs, forcing legs writes no memory. -/
theorem State.Quiet.forceLegs {s : State} (h : s.Quiet) : s.forceLegs.mem = s.mem := by
  have hkept : s.forceLegs.Quiet ∧ s.forceLegs.mem = s.mem := by
    refine foldl_keeps (fun t => t.Quiet ∧ t.mem = s.mem) _ (fun t n ht => ⟨?_, (ht.1.forceLeg_mem n).trans ht.2⟩) _ s ⟨h, rfl⟩
    obtain ⟨u, hsame, hu⟩ := t.forceLeg_cases n
    have hquiet : u.Quiet := ht.1.of_rd fun k => hsame _ (fun s => s.rd (Reg.SYSCFG_DC_SWSTAT k)) ⟨Blind.rd (by
      simp only [InPwm, Reg.SYSCFG_DC_SWSTAT]
      omega), fun _ _ _ => rfl⟩
    rw [hquiet.sweepLegForced, or_self] at hu
    rwa [hu]
  exact hkept.2

/-! ### A lock-out line forces its legs (R204) -/

theorem State.forceLeg_other (s : State) (n j : Fin 48) (h : j ≠ n) : (s.forceLeg n).pwm.legs[j] = s.pwm.legs[j] :=
  ((sweepBlind_of_parts fun _ _ _ p => p.legs[j]).forceBlind fun s f => upd_get_other s.pwm.legs n j f h).forceLeg s

theorem State.forceLeg_forced (s : State) (n : Fin 48) (h : s.drive.locked.getLsbD (n.val / 4) = true) :
    (s.forceLeg n).pwm.legs[n].forced = true := by
  have hforced : s.isForced n = true := by rw [State.isForced, h, Bool.or_true]
  have hsweep (t : State) : (t.sweepLegForced n.val).legHold n = t.legHold n :=
    (sweepBlind_of_parts fun _ _ _ p => p.legs[n].hold).sweepLegForced t n.val
  have hmoved (c : Prop) [Decidable c] (t : State) (low : Bool) (at' : Nat) :
      (if c then t.movedEdge n low true at' else t).legHold n = t.legHold n :=
    same_of_ite (g := fun s : State => s.legHold n) (State.legHold_of_pwm (State.raiseIf_pwm _ _ _) n)
  unfold State.forceLeg
  simp only [hforced, Bool.true_and, Bool.not_true, Bool.false_and, Bool.false_eq_true, if_false]
  split
  · refine congrArg Prod.fst ((hsweep _).trans ((hmoved _ _ _ _).trans ((hmoved _ _ _ _).trans (State.legHold_legApply _ n n _)))) |>.trans ?_
    rw [State.legHold, State.legM_leg]
    rfl
  · next h => simpa using h

theorem State.forceLegs_forced (s : State) (j : Fin 48) (h : s.drive.locked.getLsbD (j.val / 4) = true) :
    s.forceLegs.pwm.legs[j].forced = true := by
  have hlocked (t : State) (n : Fin 48) (ht : t.drive.locked.getLsbD (j.val / 4) = true) :
      (t.forceLeg n).drive.locked.getLsbD (j.val / 4) = true := by rwa [State.forceLeg_drive]
  refine (foldl_brings (fun t => t.drive.locked.getLsbD (j.val / 4) = true ∧ t.pwm.legs[j].forced = true)
    (fun t => t.drive.locked.getLsbD (j.val / 4) = true) _ hlocked (fun t n ht => ⟨hlocked t n ht.1, ?_⟩) _ j (List.mem_finRange j)
    (fun t ht => ⟨hlocked t j ht, t.forceLeg_forced j ht⟩) s h).2
  by_cases hn : j = n
  · exact hn ▸ t.forceLeg_forced j ht.1
  · rw [t.forceLeg_other n j hn]
    exact ht.2

end Sys2Proof.Machine

/-! SUPPORT. DRIVE's registers, its groups behind them, and the operations over both (R221, R227–R231). -/
namespace Sys2Proof.Machine

/-! ### DRIVE's registers -/

@[simp] theorem State.grpM_group (s : State) (k : Fin 12) (f : Group → Group) : (s.grpM k f).drive.groups[k] = f s.drive.groups[k] :=
  upd_get_self s.drive.groups k f
@[simp] theorem State.grpM_locked (s : State) (k : Fin 12) (f : Group → Group) : (s.grpM k f).drive.locked = s.drive.locked := rfl
@[simp] theorem State.grpM_fltn (s : State) (k : Fin 12) (f : Group → Group) : (s.grpM k f).drive.fltn = s.drive.fltn := rfl
@[simp] theorem State.grpM_flag (s : State) (k : Fin 12) (f : Group → Group) (e : EvFlag) : (s.grpM k f).flag e = s.flag e := rfl
@[simp] theorem State.grpM_on (s : State) (k : Fin 12) (f : Group → Group) (x : Fld) : (s.grpM k f).on x = s.on x := rfl

/-- R9, R233: flag `b` of group `k`, with its counter. -/
def driveFlag (k b : Nat) : EvFlag := ⟨Reg.DRIVE_G_FLAGS k, b, Reg.DRIVE_G_EVCNT k b⟩

theorem State.flag_raise_drive (s : State) {k b : Nat} (hk : k < 12) (hb : b < 8) : (s.raise (driveFlag k b)).flag (driveFlag k b) = true := by
  refine s.flag_raise _ ?_ (show b < 32 by omega)
  simp only [driveFlag, Reg.DRIVE_G_FLAGS, Reg.DRIVE_G_EVCNT]
  omega

/-- The addresses of DRIVE's registers that hold no flags and no counters. -/
abbrev PlainDrive (a : Nat) : Prop := (0x40031000 ≤ a ∨ a < 0x40030400 ∧ a % 0x40 ≠ 0x10) ∧ 0x40030000 ≤ a ∧ a < 0x40040000

theorem plainDrive_stat (k : Fin 12) : PlainDrive (Reg.DRIVE_G_STAT k) := by
  simp only [PlainDrive, Reg.DRIVE_G_STAT]
  omega

theorem plainDrive_cfg (k : Fin 12) : PlainDrive (Reg.DRIVE_G_CFG k) := by
  simp only [PlainDrive, Reg.DRIVE_G_CFG]
  omega

theorem plainDrive_code (n : Fin 48) : PlainDrive (Reg.DRIVE_LEG_CODE n) := by
  simp only [PlainDrive, Reg.DRIVE_LEG_CODE]
  omega

theorem plainDrive_sent {n : Nat} (h : n < 48) : PlainDrive (Reg.DRIVE_LEG_SENT n) := by
  simp only [PlainDrive, Reg.DRIVE_LEG_SENT]
  omega

theorem PlainDrive.inPwm {a : Nat} (ha : PlainDrive a) : InPwm a := by
  simp only [InPwm]
  omega

theorem State.rd_raise_drive (s : State) {k b a : Nat} (hk : k < 12) (hb : b < 8) (ha : PlainDrive a) :
    (s.raise (driveFlag k b)).rd a = s.rd a := by
  refine s.rd_raise_other _ a ?_ ?_ <;> simp only [driveFlag, Reg.DRIVE_G_FLAGS, Reg.DRIVE_G_EVCNT] <;> omega

theorem State.rd_raiseIf_drive (s : State) (c : Bool) {k b a : Nat} (hk : k < 12) (hb : b < 8) (ha : PlainDrive a) :
    (s.raiseIf c (driveFlag k b)).rd a = s.rd a := by
  unfold State.raiseIf
  split
  · exact s.rd_raise_drive hk hb ha
  · rfl

theorem State.get_of_rd {s t : State} {f : Fld} (h : t.rd f.addr = s.rd f.addr) : t.get f = s.get f := by
  rw [State.get, State.rdN, h, State.get, State.rdN]

theorem State.on_of_get {s t : State} {f : Fld} (h : t.get f = s.get f) : t.on f = s.on f := by
  rw [State.on, h, State.on]

theorem State.raise_stat (s : State) (k j : Fin 12) {b : Nat} (hb : b < 8) (lo w : Nat) :
    (s.raise (driveFlag k b)).get ⟨Reg.DRIVE_G_STAT j, lo, w⟩ = s.get ⟨Reg.DRIVE_G_STAT j, lo, w⟩ :=
  State.get_of_rd (s.rd_raise_drive k.isLt hb (plainDrive_stat j))

/-- A field of another register than GkSTAT stays when a field of GkSTAT is set. -/
theorem State.put_stat_get (s : State) (k lo w v : Nat) (f : Fld) (h : f.addr ≠ Reg.DRIVE_G_STAT k) :
    (s.put ⟨Reg.DRIVE_G_STAT k, lo, w⟩ v).get f = s.get f := State.get_of_rd (s.rd_put_other _ v _ h)

theorem State.put_stat_flag (s : State) (k j : Fin 12) (lo w v b : Nat) :
    (s.put ⟨Reg.DRIVE_G_STAT k, lo, w⟩ v).flag (driveFlag j b) = s.flag (driveFlag j b) := by
  refine State.on_of_get (s.put_stat_get k lo w v _ ?_)
  simp only [driveFlag, Reg.DRIVE_G_FLAGS, Reg.DRIVE_G_STAT]
  omega

theorem retry_ne_stat (k : Nat) : Reg.DRIVE_G_RETRY k ≠ Reg.DRIVE_G_STAT k := by
  simp only [Reg.DRIVE_G_RETRY, Reg.DRIVE_G_STAT]
  omega

theorem cfg_ne_stat (k : Nat) : Reg.DRIVE_G_CFG k ≠ Reg.DRIVE_G_STAT k := by
  simp only [Reg.DRIVE_G_CFG, Reg.DRIVE_G_STAT]
  omega

/-! ### What does not see DRIVE -/

/-- The observation `g` sees nothing of PWM's and DRIVE's registers, of the legs and of what stands behind DRIVE. -/
structure DriveBlind {β : Type} (g : State → β) : Prop extends PwmBlind g where
  drive (s : State) (d : Drive) : g { s with drive := d } = g s

section
variable {β : Type} {g : State → β} (h : DriveBlind g)
include h

theorem DriveBlind.grpM (s : State) (k : Fin 12) (f : Group → Group) : g (s.grpM k f) = g s := h.drive s _

theorem DriveBlind.stat (s : State) (k : Fin 12) (lo w v : Nat) : g (s.put ⟨Reg.DRIVE_G_STAT k, lo, w⟩ v) = g s :=
  h.put s _ v (plainDrive_stat k).inPwm

theorem DriveBlind.flag (s : State) {k b : Nat} (hk : k < 12) (hb : b < 8) : g (s.raise (driveFlag k b)) = g s := by
  refine h.raise s _ ?_ ?_ <;> simp only [InPwm, driveFlag, Reg.DRIVE_G_FLAGS, Reg.DRIVE_G_EVCNT] <;> omega

theorem DriveBlind.setFltn (s : State) (k : Fin 12) (v : Nat) : g (s.setFltn k v) = g s := (h.stat _ k _ _ v).trans (h.drive s _)

theorem DriveBlind.breakShow (s : State) (k : Fin 12) : g (s.breakShow k) = g s := h.stat s k _ _ _

theorem DriveBlind.prime (s : State) (k : Fin 12) : g (s.prime k) = g s := (h.breakShow _ k).trans (h.grpM s k _)

theorem DriveBlind.enterWait (s : State) (k : Fin 12) : g (s.enterWait k) = g s :=
  (h.breakShow _ k).trans ((h.grpM _ k _).trans (h.stat s k _ _ 1))

theorem DriveBlind.lockOut (s : State) (k : Fin 12) : g (s.lockOut k) = g s :=
  (h.breakShow _ k).trans ((h.grpM _ k _).trans ((h.flag (b := 2) _ k.isLt (by decide)).trans (h.stat s k _ _ 2)))

theorem DriveBlind.unclear (s : State) (k : Fin 12) : g (s.unclear k) = g s := by
  unfold State.unclear
  split
  · rfl
  · split
    · exact (h.grpM _ k _).trans ((h.flag (b := 5) _ k.isLt (by decide)).trans
        ((h.stat _ k _ _ _).trans ((h.stat _ k _ _ _).trans (h.stat s k _ _ 2))))
    · rfl

theorem DriveBlind.retry (s : State) (k : Fin 12) : g (s.retry k) = g s := by
  unfold State.retry
  simp only []
  split
  · split
    · exact (h.prime _ k).trans ((h.stat _ k _ _ 0).trans (h.grpM s k _))
    · exact (h.breakShow _ k).trans ((h.stat _ k _ _ 0).trans (h.grpM s k _))
  · exact (h.breakShow _ k).trans ((h.stat _ k _ _ 3).trans (h.grpM s k _))

end

theorem driveBlind_mem : DriveBlind State.mem := ⟨⟨⟨fun _ _ _ _ => rfl, fun _ _ _ _ => rfl⟩, fun _ _ _ => rfl⟩, fun _ _ => rfl⟩
theorem driveBlind_now : DriveBlind State.now := ⟨⟨⟨fun _ _ _ _ => rfl, fun _ _ _ _ => rfl⟩, fun _ _ _ => rfl⟩, fun _ _ => rfl⟩
theorem driveBlind_pmu : DriveBlind State.pmu := ⟨⟨⟨fun _ _ _ _ => rfl, fun _ _ _ _ => rfl⟩, fun _ _ _ => rfl⟩, fun _ _ => rfl⟩
theorem DriveBlind.rd {a : Nat} (ha : ¬ InPwm a) : DriveBlind fun s => s.rd a := ⟨⟨Blind.rd ha, fun _ _ _ => rfl⟩, fun _ _ => rfl⟩

theorem driveBlind_pwmClk : DriveBlind State.pwmClk := by
  have hrd : DriveBlind fun s => s.rd Reg.PLL_STATUS := DriveBlind.rd (by decide)
  have hclk {s t : State} (hpmu : t.pmu = s.pmu) (hst : t.rd Reg.PLL_STATUS = s.rd Reg.PLL_STATUS) : t.pwmClk = s.pwmClk := by
    rw [State.pwmClk, hpmu, State.on_of_get (State.get_of_rd hst), State.pwmClk]
  exact ⟨⟨⟨fun s a v ha => hclk rfl (hrd.wr s a v ha), fun _ _ _ _ => rfl⟩, fun _ _ _ => rfl⟩, fun _ _ => rfl⟩

/-! ### The break of a lane (R221) -/

@[simp] theorem State.breakShow_drive (s : State) (k : Fin 12) : (s.breakShow k).drive = s.drive := rfl
@[simp] theorem State.breakShow_pwm (s : State) (k : Fin 12) : (s.breakShow k).pwm = s.pwm := rfl

theorem State.breakShow_break (s : State) (k : Fin 12) : (s.breakShow k).get (Fd.DRIVE_G_STAT_BREAK k) = (s.inBreak k).toNat :=
  (s.get_put_field _ 20 1 _ (by decide)).trans (Nat.mod_eq_of_lt (Bool.toNat_lt _))

theorem State.breakShow_stat (s : State) (k : Fin 12) (lo w : Nat) (h : lo + w ≤ 20 ∨ 21 ≤ lo) :
    (s.breakShow k).get ⟨Reg.DRIVE_G_STAT k, lo, w⟩ = s.get ⟨Reg.DRIVE_G_STAT k, lo, w⟩ :=
  s.get_put_beside _ 20 1 _ lo w (by decide) h

theorem State.breakShow_rd (s : State) (k : Fin 12) (a : Nat) (h : a ≠ Reg.DRIVE_G_STAT k) : (s.breakShow k).rd a = s.rd a :=
  s.rd_put_other _ _ a h

theorem State.inBreak_of_waiting {s : State} {k : Fin 12} (h : s.get (Fd.DRIVE_G_STAT_STATE k) = 1) : s.inBreak k = true := by
  simp [State.inBreak, h]
theorem State.inBreak_of_lockedOut {s : State} {k : Fin 12} (h : s.get (Fd.DRIVE_G_STAT_STATE k) = 2) : s.inBreak k = true := by
  simp [State.inBreak, h]
theorem State.inBreak_of_reports {s : State} {k : Fin 12} (h : s.drive.groups[k].reports ≠ 0) : s.inBreak k = true := by
  simp only [State.inBreak, bne_iff_ne.mpr h, Bool.or_true, Bool.true_or]

/-- R221: the lane of an enabled, running group without a report, while the PWM clock runs and no warning came, is in no break. -/
theorem State.inBreak_eq_false {s : State} {k : Fin 12} (hlane : s.on (Fd.DRIVE_G_CFG_LANEEN k) = true)
    (hstate : s.get (Fd.DRIVE_G_STAT_STATE k) = 0) (hreports : s.drive.groups[k].reports = 0) (hwarned : s.pmu.warned = false)
    (hclk : s.pwmClk = true) : s.inBreak k = false := by
  simp only [State.inBreak, hlane, hstate, hreports, hwarned, hclk]
  rfl

theorem State.grpM_inBreak (s : State) (k : Fin 12) (f : Group → Group) (hf : ∀ g, (f g).reports = g.reports) :
    (s.grpM k f).inBreak k = s.inBreak k := by
  have hclk : (s.grpM k f).pwmClk = s.pwmClk := rfl
  simp only [State.inBreak, State.grpM_on, State.grpM_get, State.grpM_group, hf, State.grpM_pmu, hclk]

/-! ### The priming burst (R221) -/

/-- R221: the end of a priming burst whose break ends at `t`. -/
def State.primedAt (s : State) (t : Nat) : Nat := s.bitUp (t + 400 * tNs) + 2560 * tNs

theorem State.prime_group (s : State) (k : Fin 12) : (s.prime k).drive.groups[k] =
    { s.drive.groups[k] with slots := [], late := [], priming := some (s.primedAt s.now), freeAt := s.primedAt s.now } :=
  s.grpM_group k _

theorem State.prime_stat (s : State) (k : Fin 12) (lo w : Nat) (h : lo + w ≤ 20 ∨ 21 ≤ lo) :
    (s.prime k).get ⟨Reg.DRIVE_G_STAT k, lo, w⟩ = s.get ⟨Reg.DRIVE_G_STAT k, lo, w⟩ := State.breakShow_stat _ k lo w h

theorem State.prime_break (s : State) (k : Fin 12) : (s.prime k).get (Fd.DRIVE_G_STAT_BREAK k) = (s.inBreak k).toNat := by
  rw [State.prime, State.breakShow_break, State.grpM_inBreak _ _ _ (by intro; rfl)]

theorem State.prime_rd (s : State) (k : Fin 12) (a : Nat) (h : a ≠ Reg.DRIVE_G_STAT k) : (s.prime k).rd a = s.rd a :=
  State.breakShow_rd _ k a h

/-! ### The wait, the lock-out and the tries (R228, R229) -/

theorem State.enterWait_group (s : State) (k : Fin 12) : (s.enterWait k).drive.groups[k] =
    { s.drive.groups[k] with waitEnd := some (s.now + s.waitTime k), priming := none } :=
  State.grpM_group _ k _

@[simp] theorem State.enterWait_locked (s : State) (k : Fin 12) : (s.enterWait k).drive.locked = s.drive.locked := rfl

theorem State.enterWait_state (s : State) (k : Fin 12) : (s.enterWait k).get (Fd.DRIVE_G_STAT_STATE k) = 1 :=
  (State.breakShow_stat _ k 0 2 (by decide)).trans (s.get_put_field _ 0 2 1 (by decide))

theorem State.enterWait_stat (s : State) (k : Fin 12) (lo w : Nat) (h : 2 ≤ lo) (h' : lo + w ≤ 20 ∨ 21 ≤ lo) :
    (s.enterWait k).get ⟨Reg.DRIVE_G_STAT k, lo, w⟩ = s.get ⟨Reg.DRIVE_G_STAT k, lo, w⟩ :=
  (State.breakShow_stat _ k lo w h').trans (s.get_put_beside _ 0 2 1 lo w (by decide) (Or.inr h))

theorem State.enterWait_break (s : State) (k : Fin 12) : (s.enterWait k).get (Fd.DRIVE_G_STAT_BREAK k) = 1 := by
  rw [State.enterWait, State.breakShow_break, State.inBreak_of_waiting]
  · rfl
  · exact s.get_put_field _ 0 2 1 (by decide)

theorem State.enterWait_rd (s : State) (k : Fin 12) (a : Nat) (h : a ≠ Reg.DRIVE_G_STAT k) : (s.enterWait k).rd a = s.rd a :=
  (State.breakShow_rd _ k a h).trans (s.rd_put_other _ 1 a h)

theorem State.enterWait_flag (s : State) (k j : Fin 12) (b : Nat) : (s.enterWait k).flag (driveFlag j b) = s.flag (driveFlag j b) :=
  (State.put_stat_flag _ k j 20 1 _ b).trans (s.put_stat_flag k j 0 2 1 b)

theorem State.lockOut_group (s : State) (k : Fin 12) : (s.lockOut k).drive.groups[k] =
    { s.drive.groups[k] with waitEnd := none, priming := none, series := none } := by
  refine (State.grpM_group _ k _).trans ?_
  rw [State.raise_drive]
  rfl

@[simp] theorem State.lockOut_locked (s : State) (k : Fin 12) : (s.lockOut k).drive.locked = s.drive.locked := by
  rw [State.lockOut, State.breakShow_drive, State.grpM_locked, State.raise_drive, State.put_drive]

theorem State.lockOut_state (s : State) (k : Fin 12) : (s.lockOut k).get (Fd.DRIVE_G_STAT_STATE k) = 2 :=
  (State.breakShow_stat _ k 0 2 (by decide)).trans
    ((State.raise_stat _ k k (b := 2) (by decide) 0 2).trans (s.get_put_field _ 0 2 2 (by decide)))

theorem State.lockOut_stat (s : State) (k : Fin 12) (lo w : Nat) (h : 2 ≤ lo) (h' : lo + w ≤ 20 ∨ 21 ≤ lo) :
    (s.lockOut k).get ⟨Reg.DRIVE_G_STAT k, lo, w⟩ = s.get ⟨Reg.DRIVE_G_STAT k, lo, w⟩ :=
  (State.breakShow_stat _ k lo w h').trans
    ((State.raise_stat _ k k (b := 2) (by decide) lo w).trans (s.get_put_beside _ 0 2 2 lo w (by decide) (Or.inr h)))

theorem State.lockOut_break (s : State) (k : Fin 12) : (s.lockOut k).get (Fd.DRIVE_G_STAT_BREAK k) = 1 := by
  rw [State.lockOut, State.breakShow_break, State.inBreak_of_lockedOut]
  · rfl
  · exact (State.raise_stat _ k k (b := 2) (by decide) 0 2).trans (s.get_put_field _ 0 2 2 (by decide))

theorem State.lockOut_flag (s : State) (k : Fin 12) : (s.lockOut k).flag (Ev.DRIVE_G_FLAGS_LOCK k) = true :=
  (State.put_stat_flag _ k k 20 1 _ 2).trans ((s.put _ 2).flag_raise_drive k.isLt (by decide))

/-- R228: a try has been counted in the series that began at `x`. -/
def State.tried (s : State) (k : Fin 12) (x : Option Nat) : State :=
  (s.grpM k fun g => { g with series := x }).put (Fd.DRIVE_G_STAT_TRIES k) (s.get (Fd.DRIVE_G_STAT_TRIES k) + 1)

theorem State.grpM_self (s : State) (k : Fin 12) : s.grpM k (fun g => { g with series := s.drive.groups[k].series }) = s := by
  have hgroups : s.drive.groups.upd k (fun g => { g with series := s.drive.groups[k].series }) = s.drive.groups := by
    rw [Vector.upd]
    exact Vector.set_getElem_self k.isLt
  rw [State.grpM, hgroups]

/-- R228, R229: a try that is counted makes the group wait, or past MAXTRY locks it out. -/
theorem State.countTry_eq (s : State) (k : Fin 12) (at' : Nat) : ∃ x, s.countTry k at' =
    if s.get (Fd.DRIVE_G_RETRY_MAXTRY k) < s.get (Fd.DRIVE_G_STAT_TRIES k) + 1 then (s.tried k x).lockOut k else (s.tried k x).enterWait k := by
  have hmax (x : Option Nat) : (s.tried k x).get (Fd.DRIVE_G_RETRY_MAXTRY k) = s.get (Fd.DRIVE_G_RETRY_MAXTRY k) :=
    State.put_stat_get _ k _ _ _ _ (retry_ne_stat k)
  have hcount (x : Option Nat) (hx : (if s.get (Fd.DRIVE_G_STAT_TRIES k) = 0 then s.grpM k fun g => { g with series := some at' } else s) =
      s.grpM k fun g => { g with series := x }) : s.countTry k at' =
        if (s.tried k x).get (Fd.DRIVE_G_RETRY_MAXTRY k) < s.get (Fd.DRIVE_G_STAT_TRIES k) + 1 then (s.tried k x).lockOut k
        else (s.tried k x).enterWait k := by
    rw [State.countTry, hx]
    rfl
  by_cases h : s.get (Fd.DRIVE_G_STAT_TRIES k) = 0
  · exact ⟨some at', by rw [← hmax (some at')]; exact hcount _ (if_pos h)⟩
  · exact ⟨s.drive.groups[k].series, by rw [← hmax]; exact hcount _ ((if_neg h).trans (s.grpM_self k).symm)⟩

theorem State.tried_tries (s : State) (k : Fin 12) (x : Option Nat) (h : s.get (Fd.DRIVE_G_STAT_TRIES k) ≤ 15) :
    (s.tried k x).get (Fd.DRIVE_G_STAT_TRIES k) = s.get (Fd.DRIVE_G_STAT_TRIES k) + 1 :=
  (State.get_put_field _ _ 4 5 _ (by decide)).trans (Nat.mod_eq_of_lt (Nat.lt_of_le_of_lt (Nat.succ_le_succ h) (by decide)))

theorem State.tried_stat (s : State) (k : Fin 12) (x : Option Nat) (lo w : Nat) (h : lo + w ≤ 4 ∨ 9 ≤ lo) :
    (s.tried k x).get ⟨Reg.DRIVE_G_STAT k, lo, w⟩ = s.get ⟨Reg.DRIVE_G_STAT k, lo, w⟩ := State.get_put_beside _ _ 4 5 _ lo w (by decide) h

theorem State.tried_group (s : State) (k : Fin 12) (x : Option Nat) :
    (s.tried k x).drive.groups[k] = { s.drive.groups[k] with series := x } := State.grpM_group _ k _

@[simp] theorem State.tried_locked (s : State) (k : Fin 12) (x : Option Nat) : (s.tried k x).drive.locked = s.drive.locked := rfl
@[simp] theorem State.tried_now (s : State) (k : Fin 12) (x : Option Nat) : (s.tried k x).now = s.now := rfl

theorem State.tried_waitTime (s : State) (k : Fin 12) (x : Option Nat) : (s.tried k x).waitTime k = s.waitTime k := by
  rw [State.waitTime, State.tried, Fd.DRIVE_G_STAT_TRIES, State.put_stat_get _ _ _ _ _ _ (retry_ne_stat k), State.grpM_get, State.waitTime]

/-- R228: what a counted try leaves of GkSTAT: KIND, LEG, FLTN and RESTORED. -/
theorem State.countTry_stat (s : State) (k : Fin 12) (at' lo w : Nat) (h : 9 ≤ lo) (h' : lo + w ≤ 20 ∨ 21 ≤ lo) :
    (s.countTry k at').get ⟨Reg.DRIVE_G_STAT k, lo, w⟩ = s.get ⟨Reg.DRIVE_G_STAT k, lo, w⟩ := by
  obtain ⟨x, hx⟩ := s.countTry_eq k at'
  rw [hx]
  split
  · exact (State.lockOut_stat _ k lo w (by omega) h').trans (s.tried_stat k x lo w (Or.inr h))
  · exact (State.enterWait_stat _ k lo w (by omega) h').trans (s.tried_stat k x lo w (Or.inr h))

theorem State.countTry_reports (s : State) (k : Fin 12) (at' : Nat) :
    (s.countTry k at').drive.groups[k].reports = s.drive.groups[k].reports := by
  obtain ⟨x, hx⟩ := s.countTry_eq k at'
  rw [hx]
  split
  · rw [State.lockOut_group, State.tried_group]
  · rw [State.enterWait_group, State.tried_group]

theorem DriveBlind.countTry {β : Type} {g : State → β} (h : DriveBlind g) (s : State) (k : Fin 12) (at' : Nat) :
    g (s.countTry k at') = g s := by
  obtain ⟨x, hx⟩ := s.countTry_eq k at'
  have htried : g (s.tried k x) = g s := (h.stat _ k _ _ _).trans (h.grpM s k _)
  rw [hx]
  split
  · exact (h.lockOut _ k).trans htried
  · exact (h.enterWait _ k).trans htried

/-- R228: a counted try within MAXTRY: the group waits. -/
theorem State.countTry_of_le (s : State) (k : Fin 12) (at' : Nat)
    (h : s.get (Fd.DRIVE_G_STAT_TRIES k) < s.get (Fd.DRIVE_G_RETRY_MAXTRY k)) : ∃ x, s.countTry k at' = (s.tried k x).enterWait k := by
  obtain ⟨x, hx⟩ := s.countTry_eq k at'
  exact ⟨x, hx.trans (if_neg (by omega))⟩

/-- R229: a counted try past MAXTRY: the group locks out. -/
theorem State.countTry_of_eq (s : State) (k : Fin 12) (at' : Nat)
    (h : s.get (Fd.DRIVE_G_STAT_TRIES k) = s.get (Fd.DRIVE_G_RETRY_MAXTRY k)) : ∃ x, s.countTry k at' = (s.tried k x).lockOut k := by
  obtain ⟨x, hx⟩ := s.countTry_eq k at'
  exact ⟨x, hx.trans (if_pos (by omega))⟩

theorem State.maxtry_le (s : State) (k : Fin 12) : s.get (Fd.DRIVE_G_RETRY_MAXTRY k) ≤ 15 :=
  Nat.le_of_lt_succ (Nat.mod_lt _ (show 0 < 2 ^ 4 by decide))

/-! ### The end of a wait or of a lock-out (R228, R229) -/

/-- R228, R229: with the lane enabled and the PWM clock running the priming burst is sent at once. -/
theorem State.retry_of_running (s : State) (k : Fin 12) (hlane : s.on (Fd.DRIVE_G_CFG_LANEEN k) = true) (hclk : s.pwmClk = true) :
    s.retry k = ((s.grpM k fun g => { g with waitEnd := none }).put (Fd.DRIVE_G_STAT_STATE k) 0).prime k := by
  have hclk' : ((s.grpM k fun g => { g with waitEnd := none }).put (Fd.DRIVE_G_STAT_STATE k) 0).pwmClk = true :=
    (driveBlind_pwmClk.stat _ k _ _ 0).trans hclk
  simp only [State.retry, State.grpM_on, hlane, hclk', if_true]

/-! ### FLT_N (R227, R233) -/

/-- A field lies within the bits that are kept. -/
theorem cut_mod_two_pow (x : Nat) {lo w n : Nat} (h : lo + w ≤ n) : cut (x % 2 ^ n) lo w = cut x lo w := by
  refine Nat.eq_of_testBit_eq fun i => ?_
  rw [testBit_cut, testBit_cut, Nat.testBit_mod_two_pow]
  by_cases hi : i < w
  · rw [decide_eq_true (show lo + i < n by omega), Bool.true_and]
  · rw [decide_eq_false hi, Bool.false_and, Bool.false_and]

theorem State.setFltn_grpFltn (s : State) (k : Fin 12) (v : Nat) : (s.setFltn k v).grpFltn k = v % 16 := by
  show cut (BitVec.ofNat 48 (paste s.drive.fltn.toNat (4 * k.val) 4 v)).toNat (4 * k.val) 4 = v % 2 ^ 4
  rw [BitVec.toNat_ofNat, cut_mod_two_pow _ (by omega), cut_paste]

theorem State.setFltn_fltn (s : State) (k : Fin 12) (v : Nat) : (s.setFltn k v).get (Fd.DRIVE_G_STAT_FLTN k) = v % 16 :=
  State.get_put_field _ _ 16 4 v (by decide)

theorem State.setFltn_stat (s : State) (k : Fin 12) (v lo w : Nat) (h : lo + w ≤ 16 ∨ 20 ≤ lo) :
    (s.setFltn k v).get ⟨Reg.DRIVE_G_STAT k, lo, w⟩ = s.get ⟨Reg.DRIVE_G_STAT k, lo, w⟩ :=
  State.get_put_beside _ _ 16 4 v lo w (by decide) h

theorem State.setFltn_rd (s : State) (k : Fin 12) (v a : Nat) (h : a ≠ Reg.DRIVE_G_STAT k) : (s.setFltn k v).rd a = s.rd a :=
  State.rd_put_other _ _ v a h

@[simp] theorem State.setFltn_groups (s : State) (k : Fin 12) (v : Nat) : (s.setFltn k v).drive.groups = s.drive.groups := rfl
@[simp] theorem State.setFltn_locked (s : State) (k : Fin 12) (v : Nat) : (s.setFltn k v).drive.locked = s.drive.locked := rfl
@[simp] theorem State.setFltn_gridAt (s : State) (k : Fin 12) (v : Nat) : (s.setFltn k v).drive.gridAt = s.drive.gridAt := rfl

/-! ### The lock-out line (R204, R221) -/

theorem PlainDrive.not_mem_forceRegs {a : Nat} (ha : PlainDrive a) (n : Fin 48) : a ∉ forceRegs n := by
  simp only [forceRegs, List.mem_cons, List.not_mem_nil, or_false, not_or, Reg.PWM_LEG_STATE, Reg.PWM_LEG_FLAGS,
    Ev.PWM_LEG_FLAGS_SHOOT, Reg.DRIVE_G_FLAGS, Ev.DRIVE_G_FLAGS_LATEFR]
  omega

theorem fstat_not_mem_forceRegs (n : Fin 48) : Reg.PWM_FSTAT ∉ forceRegs n := by
  simp only [forceRegs, List.mem_cons, List.not_mem_nil, or_false, not_or, Reg.PWM_FSTAT, Reg.PWM_LEG_STATE, Reg.PWM_LEG_FLAGS,
    Ev.PWM_LEG_FLAGS_SHOOT, Reg.DRIVE_G_FLAGS, Ev.DRIVE_G_FLAGS_LATEFR]
  omega

@[simp] theorem State.setLock_now (s : State) (k : Fin 12) (b : Bool) : (s.setLock k b).now = s.now := State.forceLegs_now _
@[simp] theorem State.setLock_drive (s : State) (k : Fin 12) (b : Bool) :
    (s.setLock k b).drive = { s.drive with locked := setBit s.drive.locked k.val b } := State.forceLegs_drive _

theorem State.setLock_line (s : State) (k : Fin 12) (b : Bool) : (s.setLock k b).get ⟨Reg.PWM_FSTAT, 20 + k.val, 1⟩ = b.toNat := by
  refine (State.get_of_rd (State.forceLegs_rd _ (show InPwm Reg.PWM_FSTAT by decide) fstat_not_mem_forceRegs)).trans ?_
  exact (State.get_put_field _ _ _ 1 _ (by omega)).trans (Nat.mod_eq_of_lt (Bool.toNat_lt b))

theorem State.setLock_rd (s : State) (k : Fin 12) (b : Bool) {a : Nat} (ha : PlainDrive a) : (s.setLock k b).rd a = s.rd a := by
  refine (State.forceLegs_rd _ ha.inPwm ha.not_mem_forceRegs).trans (State.rd_put_other _ _ _ a ?_)
  simp only [Reg.PWM_FSTAT]
  omega

/-- R204: the line's assertion forces every leg of its group. -/
theorem State.setLock_forced (s : State) (k : Fin 12) (j : Fin 48) (h : j.val / 4 = k.val) :
    (s.setLock k true).pwm.legs[j].forced = true := by
  refine State.forceLegs_forced _ j ?_
  show (setBit s.drive.locked k.val true).getLsbD (j.val / 4) = true
  rw [getLsbD_setBit _ _ _ _ k.isLt, if_pos h]

/-- R219: the forcing of legs sets no flag of DRIVE but LATEFR. -/
theorem ForceBlind.driveFlag (n : Fin 48) (k : Fin 12) {b : Nat} (hb : b ≠ 3) : ForceBlind n fun s => s.get ⟨Reg.DRIVE_G_FLAGS k, b, 1⟩ := by
  have hrd : SwitchBlind n fun s => s.rd (Reg.DRIVE_G_FLAGS k) := by
    refine SwitchBlind.rd n ?_ ?_ ?_ <;>
      simp only [Reg.DRIVE_G_FLAGS, Reg.PWM_LEG_STATE, Reg.PWM_LEG_FLAGS, Ev.PWM_LEG_FLAGS_SHOOT] <;> omega
  have hin : InPwm (Reg.DRIVE_G_FLAGS k) := by
    simp only [InPwm, Reg.DRIVE_G_FLAGS]
    omega
  refine ⟨⟨fun s lo v h => State.get_of_rd (hrd.switch s lo v h), fun s i => State.get_of_rd (hrd.shoot s i),
    fun s f h => State.get_of_rd (hrd.legM s f h)⟩, fun s v => State.get_of_rd (s.rd_put_other _ v _ ?_), fun s c => ?_,
    fun s => State.get_of_rd (InPwm.rd_sweepLegForced hin s n.val)⟩
  · simp only [Fd.PWM_LEG_STATE_FORCED, Reg.DRIVE_G_FLAGS, Reg.PWM_LEG_STATE]
    omega
  · refine s.get_raiseIf_other c _ _ (show 3 < 32 by decide) (Or.inr (show b + 1 ≤ 3 ∨ 3 + 1 ≤ b by omega)) ?_
    simp only [Reg.DRIVE_G_FLAGS, Ev.DRIVE_G_FLAGS_LATEFR]
    omega

theorem State.setLock_flag (s : State) (k j : Fin 12) (c : Bool) {b : Nat} (hb : b ≠ 3) :
    (s.setLock k c).flag (driveFlag j b) = s.flag (driveFlag j b) := by
  refine State.on_of_get ((State.forceLegs_same (fun n => ForceBlind.driveFlag n j hb) _).trans (State.get_of_rd (State.rd_put_other _ _ _ _ ?_)))
  simp only [Reg.DRIVE_G_FLAGS, Reg.PWM_FSTAT]
  omega

/-- R263, R270: where no sweep runs, the forcing writes no memory. -/
theorem State.Quiet.setLock {s : State} (h : s.Quiet) (k : Fin 12) (b : Bool) : (s.setLock k b).mem = s.mem := by
  refine State.Quiet.forceLegs (h.of_rd fun j => State.rd_put_other _ _ _ _ ?_)
  simp only [Reg.SYSCFG_DC_SWSTAT, Reg.PWM_FSTAT]
  omega

/-- What DRIVE does starts no sweep. -/
theorem State.Quiet.of_driveBlind {s t : State} (h : s.Quiet) (hsame : ∀ a, ¬ InPwm a → t.rd a = s.rd a) : t.Quiet :=
  h.of_rd fun k => hsame _ (by simp only [InPwm, Reg.SYSCFG_DC_SWSTAT]; omega)

end Sys2Proof.Machine

/-! SUPPORT. A driver's report and its classification (R227, R228, R230). -/
namespace Sys2Proof.Machine

@[simp] theorem State.advance_drive (s : State) (k : Nat) : (s.advance k).drive = s.drive := by
  obtain ⟨b, p, h, -⟩ := s.advance_eq k; rw [h]

/-! ### A report (R227, R230) -/

/-- R230: the lowest-numbered leg of a cycle's reports. -/
def lowestLeg (legs : Nat) : Nat := ((List.range 4).find? legs.testBit).getD 0

theorem lowestLeg_le : ∀ legs : BitVec 4, legs ≠ 0 → lowestLeg legs.toNat < 4 ∧
    ∀ j : Fin 4, legs.getLsbD j.val = true → lowestLeg legs.toNat ≤ j.val := by decide

/-- R227, R230: the state in which a report is taken: the pins read low, and a CLEAR of the same cycle has lost. -/
def State.reportMet (s : State) (k : Fin 12) (legs : Nat) : State :=
  (s.setFltn k (s.grpFltn k &&& (15 ^^^ (legs % 16)))).unclear k

/-- R230: the leg that a report is classified by: the lowest-numbered of the cycle's reports. -/
def State.reportLeg (s : State) (k : Fin 12) (legs : Nat) : Nat :=
  if s.drive.groups[k].reports != 0 && s.drive.groups[k].reportAt == s.now then min (lowestLeg legs) (s.get (Fd.DRIVE_G_STAT_LEG k))
  else lowestLeg legs

/-- R227, R228, R230: what a report by `leg` leaves behind a group. -/
def State.reportGroup (s : State) (k : Fin 12) (leg : Nat) (g : Group) : Group :=
  let first := s.get (Fd.DRIVE_G_STAT_STATE k) == 0 && g.reports == 0
  let others := if s.drive.groups[k].reports != 0 && s.drive.groups[k].reportAt == s.now then
    setBit s.drive.groups[k].reports (s.get (Fd.DRIVE_G_STAT_LEG k)) false else s.drive.groups[k].reports
  { g with reports := setBit others leg true, reportAt := s.now, isTry := g.isTry || first, tryAt := if first then s.now else g.tryAt
           priming := none, retrying := false, slots := [], late := [] }

/-- R227: a report has been taken: FAULT, LEG, what stands behind the group, the lock-out line and the break. -/
def State.reported (s : State) (k : Fin 12) (leg : Nat) : State :=
  ((((s.raise (Ev.DRIVE_G_FLAGS_FAULT k)).put (Fd.DRIVE_G_STAT_LEG k) leg).grpM k (s.reportGroup k leg)).setLock k true).breakShow k

/-- R227, R230: what a report comes to; during a wait the wait restarts. -/
theorem State.faultReport_eq (s : State) (k : Fin 12) (legs : Nat) (h : legs % 16 ≠ 0) : s.faultReport k legs =
    if (s.reportMet k legs).get (Fd.DRIVE_G_STAT_STATE k) = 1 then
      ((s.reportMet k legs).reported k ((s.reportMet k legs).reportLeg k legs)).enterWait k
    else (s.reportMet k legs).reported k ((s.reportMet k legs).reportLeg k legs) := by
  rw [State.faultReport, if_neg h, ← State.reportMet]
  generalize s.reportMet k legs = u
  simp only [State.put_now, State.raise_now]
  rfl

theorem State.reportLeg_le (s : State) (k : Fin 12) (legs : Nat) : s.reportLeg k legs ≤ lowestLeg legs := by
  unfold State.reportLeg
  split
  · exact Nat.min_le_left _ _
  · exact Nat.le_refl _

theorem State.reportGroup_reports (s : State) (k : Fin 12) (leg : Nat) (h : leg < 4) (g : Group) :
    (s.reportGroup k leg g).reports.getLsbD leg = true :=
  (getLsbD_setBit _ leg leg true h).trans (if_pos rfl)

theorem State.unclear_kept (s : State) (k : Fin 12) :
    (s.unclear k).drive.locked = s.drive.locked ∧ (s.unclear k).drive.fltn = s.drive.fltn := by
  unfold State.unclear
  split
  · exact ⟨rfl, rfl⟩
  · split
    · rw [State.grpM_locked, State.grpM_fltn, State.raise_drive]
      exact ⟨rfl, rfl⟩
    · exact ⟨rfl, rfl⟩

/-- R233: the pins of the legs that reported read low. -/
theorem State.reportMet_fltn (s : State) (k : Fin 12) (legs : BitVec 4) (j : Fin 4) (h : legs.getLsbD j.val = true) :
    ((s.reportMet k legs.toNat).grpFltn k).testBit j.val = false := by
  have hmet : (s.reportMet k legs.toNat).grpFltn k = (s.grpFltn k &&& (15 ^^^ (legs.toNat % 16))) % 2 ^ 4 := by
    rw [State.grpFltn, State.reportMet, (State.unclear_kept _ k).2]
    exact s.setFltn_grpFltn k _
  have hlow : (15 ^^^ (legs.toNat % 16)).testBit j.val = false := by
    rw [Nat.testBit_xor, Nat.mod_eq_of_lt legs.isLt, show legs.toNat.testBit j.val = true from h]
    exact (by decide : ∀ j : Fin 4, (Nat.testBit 15 j.val ^^ true) = false) j
  rw [hmet, Nat.testBit_mod_two_pow, Nat.testBit_and, hlow, Bool.and_false, Bool.and_false]

theorem DriveBlind.reportMet {β : Type} {g : State → β} (h : DriveBlind g) (s : State) (k : Fin 12) (legs : Nat) :
    g (s.reportMet k legs) = g s := (h.unclear _ k).trans (h.setFltn s k _)

section
variable (s : State) (k : Fin 12) (leg : Nat)

@[simp] theorem State.reported_now : (s.reported k leg).now = s.now :=
  (State.setLock_now _ k true).trans (State.raise_now _ _)

theorem State.reported_drive : (s.reported k leg).drive =
    { s.drive with groups := s.drive.groups.upd k (s.reportGroup k leg), locked := setBit s.drive.locked k.val true } := by
  rw [State.reported, State.breakShow_drive, State.setLock_drive, State.grpM, State.put_drive, State.raise_drive]

theorem State.reported_group : (s.reported k leg).drive.groups[k] = s.reportGroup k leg s.drive.groups[k] := by
  rw [State.reported_drive]
  exact upd_get_self s.drive.groups k _

theorem State.reported_flag : (s.reported k leg).flag (Ev.DRIVE_G_FLAGS_FAULT k) = true := by
  refine (State.put_stat_flag _ k k 20 1 _ 0).trans ?_
  rw [State.setLock_flag _ k k true (by decide), State.grpM_flag]
  exact (State.put_stat_flag _ k k 12 2 leg 0).trans (s.flag_raise_drive k.isLt (by decide))

theorem State.reported_line : (s.reported k leg).get ⟨Reg.PWM_FSTAT, 20 + k.val, 1⟩ = 1 := by
  rw [State.reported]
  refine (State.get_of_rd (f := ⟨Reg.PWM_FSTAT, 20 + k.val, 1⟩) (State.breakShow_rd _ k _ ?_)).trans (State.setLock_line _ k true)
  simp only [Reg.PWM_FSTAT, Reg.DRIVE_G_STAT]
  omega

theorem State.reported_leg (h : leg < 4) : (s.reported k leg).get (Fd.DRIVE_G_STAT_LEG k) = leg := by
  refine (State.breakShow_stat _ k 12 2 (by decide)).trans ((State.get_of_rd (State.setLock_rd _ k true (plainDrive_stat k))).trans ?_)
  exact (State.grpM_get _ k _ _).trans <| (State.get_put_field _ _ 12 2 leg (by decide)).trans (Nat.mod_eq_of_lt h)

theorem State.reported_reports (h : leg < 4) : (s.reported k leg).drive.groups[k].reports.getLsbD leg = true := by
  rw [State.reported_group]
  exact s.reportGroup_reports k leg h _

theorem State.reported_break (h : leg < 4) : (s.reported k leg).get (Fd.DRIVE_G_STAT_BREAK k) = 1 := by
  have hreports := s.reported_reports k leg h
  rw [State.reported, State.breakShow_drive] at hreports
  rw [State.reported, State.breakShow_break, State.inBreak_of_reports]
  · rfl
  · intro hzero
    rw [hzero, BitVec.ofNat_eq_ofNat, BitVec.getLsbD_zero] at hreports
    exact absurd hreports (by decide)

theorem State.reported_forced (j : Fin 48) (h : j.val / 4 = k.val) : (s.reported k leg).pwm.legs[j].forced = true := by
  rw [State.reported, State.breakShow_pwm]
  exact State.setLock_forced _ k j h

theorem State.Quiet.reported_mem {s : State} (h : s.Quiet) (k : Fin 12) (leg : Nat) : (s.reported k leg).mem = s.mem := by
  have hquiet : (((s.raise (driveFlag k 0)).put (Fd.DRIVE_G_STAT_LEG k) leg).grpM k (s.reportGroup k leg)).Quiet :=
    h.of_driveBlind fun a ha =>
      ((DriveBlind.rd ha).grpM _ k _).trans (((DriveBlind.rd ha).stat _ k _ _ leg).trans ((DriveBlind.rd ha).flag s k.isLt (by decide)))
  exact (hquiet.setLock k true).trans (State.raise_mem s _)

end

/-- R227, R230: what the wait leaves alone, a report during a wait brings about as any other. -/
theorem State.faultReport_reported (s : State) (k : Fin 12) (legs : Nat) (h : legs % 16 ≠ 0) : ∃ leg ≤ lowestLeg legs,
    ∀ {β : Type} (g : State → β), (∀ t, g (t.enterWait k) = g t) → g (s.faultReport k legs) = g ((s.reportMet k legs).reported k leg) := by
  refine ⟨_, (s.reportMet k legs).reportLeg_le k legs, fun g hwait => ?_⟩
  rw [s.faultReport_eq k legs h]
  exact same_of_ite (hwait _)

theorem State.faultReport_break (s : State) (k : Fin 12) (legs : Nat) (h : legs % 16 ≠ 0) (hlow : lowestLeg legs < 4) :
    (s.faultReport k legs).get (Fd.DRIVE_G_STAT_BREAK k) = 1 := by
  rw [s.faultReport_eq k legs h]
  split
  · exact State.enterWait_break _ k
  · exact State.reported_break _ k _ (Nat.lt_of_le_of_lt (State.reportLeg_le _ k legs) hlow)

/-! ### The classification (R227, R228) -/

/-- R227: a leg's report has been classified: KIND and LEG are its, and a rise of its FLT_N shows. -/
def State.classed (s : State) (k : Fin 12) (leg : Nat) (w : Option Nat) : State :=
  let s := (s.put (Fd.DRIVE_G_STAT_KIND k) (faultKind w)).put (Fd.DRIVE_G_STAT_LEG k) leg
  let s := if w.isSome then s.setFltn k (s.grpFltn k ||| 2 ^ leg) else s
  s.grpM k fun g => { g with reports := setBit g.reports leg false, isTry := false }

section
variable (s : State) (k : Fin 12) (leg : Nat) (w : Option Nat)

theorem DriveBlind.classed {β : Type} {g : State → β} (h : DriveBlind g) : g (s.classed k leg w) = g s :=
  (h.grpM _ k _).trans ((same_of_ite (h.setFltn _ k _)).trans ((h.stat _ k _ _ leg).trans (h.stat s k _ _ _)))

theorem State.classed_rd (a : Nat) (h : a ≠ Reg.DRIVE_G_STAT k) : (s.classed k leg w).rd a = s.rd a := by
  refine (same_of_ite (g := fun s : State => s.rd a) (State.setFltn_rd _ k _ a h)).trans ?_
  exact (State.rd_put_other _ _ leg a h).trans (State.rd_put_other _ _ _ a h)

/-- What the classification leaves of GkSTAT beside KIND and LEG: all below KIND, and what is not FLTN above LEG. -/
theorem State.classed_kept (lo n : Nat) (h : lo + n ≤ 16 ∨ 20 ≤ lo) : (s.classed k leg w).get ⟨Reg.DRIVE_G_STAT k, lo, n⟩ =
    ((s.put (Fd.DRIVE_G_STAT_KIND k) (faultKind w)).put (Fd.DRIVE_G_STAT_LEG k) leg).get ⟨Reg.DRIVE_G_STAT k, lo, n⟩ :=
  same_of_ite (g := fun s : State => s.get ⟨Reg.DRIVE_G_STAT k, lo, n⟩) (State.setFltn_stat _ k _ lo n h)

theorem State.classed_stat (lo n : Nat) (h : lo + n ≤ 10) :
    (s.classed k leg w).get ⟨Reg.DRIVE_G_STAT k, lo, n⟩ = s.get ⟨Reg.DRIVE_G_STAT k, lo, n⟩ :=
  (s.classed_kept k leg w lo n (by omega)).trans ((State.get_put_beside _ _ 12 2 _ lo n (by decide) (by omega)).trans
    (State.get_put_beside _ _ 10 2 _ lo n (by decide) (by omega)))

theorem State.classed_leg (h : leg < 4) : (s.classed k leg w).get (Fd.DRIVE_G_STAT_LEG k) = leg :=
  (s.classed_kept k leg w 12 2 (by decide)).trans ((State.get_put_field _ _ 12 2 _ (by decide)).trans (Nat.mod_eq_of_lt h))

theorem State.classed_kind : (s.classed k leg w).get (Fd.DRIVE_G_STAT_KIND k) = faultKind w % 4 :=
  (s.classed_kept k leg w 10 2 (by decide)).trans ((State.get_put_beside _ _ 12 2 _ 10 2 (by decide) (by decide)).trans
    (State.get_put_field _ _ 10 2 _ (by decide)))

theorem State.classed_group : (s.classed k leg w).drive.groups[k] =
    { s.drive.groups[k] with reports := setBit s.drive.groups[k].reports leg false, isTry := false } := by
  refine (State.grpM_group _ k _).trans ?_
  rw [same_of_ite (g := fun s : State => s.drive.groups[k]) (congrArg (·[k]) (State.setFltn_groups _ k _))]
  rfl

theorem State.classed_locked : (s.classed k leg w).drive.locked = s.drive.locked :=
  same_of_ite (g := fun s : State => s.drive.locked) (State.setFltn_locked _ k _)

/-- R227, R228: a report of a leg is classified; a try counts, else a break without further reason ends. -/
theorem State.faultClassify_of_report (h : s.drive.groups[k].reports.getLsbD leg = true) : s.faultClassify k leg w =
    if s.drive.groups[k].isTry && (s.get (Fd.DRIVE_G_STAT_STATE k) == 0 || s.get (Fd.DRIVE_G_STAT_STATE k) == 3) then
      (s.classed k leg w).countTry k s.drive.groups[k].tryAt
    else if s.get (Fd.DRIVE_G_STAT_STATE k) == 0 && !(s.classed k leg w).inBreak k then (s.classed k leg w).prime k
    else (s.classed k leg w).breakShow k := by
  have hstate := s.classed_stat k leg w 0 2 (by decide)
  unfold State.faultClassify
  rw [if_pos h]
  cases w with
  | none => exact hstate ▸ rfl
  | some x => exact hstate ▸ rfl

/-- R228: the report of a running group is a try. -/
theorem State.faultClassify_of_try (h : s.drive.groups[k].reports.getLsbD leg = true) (htry : s.drive.groups[k].isTry = true)
    (hstate : s.get (Fd.DRIVE_G_STAT_STATE k) = 0) :
    s.faultClassify k leg w = (s.classed k leg w).countTry k s.drive.groups[k].tryAt := by
  rw [s.faultClassify_of_report k leg w h, htry, hstate]
  rfl

theorem State.classed_tries : (s.classed k leg w).get (Fd.DRIVE_G_STAT_TRIES k) = s.get (Fd.DRIVE_G_STAT_TRIES k) :=
  s.classed_stat k leg w 4 5 (by decide)

theorem State.classed_retry (lo n : Nat) : (s.classed k leg w).get ⟨Reg.DRIVE_G_RETRY k, lo, n⟩ = s.get ⟨Reg.DRIVE_G_RETRY k, lo, n⟩ :=
  State.get_of_rd (s.classed_rd k leg w _ (retry_ne_stat k))

/-- R227: KIND, LEG and the end of the report stand, whatever follows from them. -/
theorem State.faultClassify_shows (h : s.drive.groups[k].reports.getLsbD leg = true) (hleg : leg < 4) :
    (s.faultClassify k leg w).get (Fd.DRIVE_G_STAT_LEG k) = leg ∧
      (s.faultClassify k leg w).get (Fd.DRIVE_G_STAT_KIND k) = faultKind w % 4 ∧
      (s.faultClassify k leg w).drive.groups[k].reports.getLsbD leg = false ∧ (s.faultClassify k leg w).mem = s.mem := by
  have hreports : (s.classed k leg w).drive.groups[k].reports.getLsbD leg = false := by
    rw [State.classed_group]
    exact (getLsbD_setBit _ leg leg false hleg).trans (if_pos rfl)
  have hmem := driveBlind_mem.classed s k leg w
  have hshow := s.classed_leg k leg w hleg
  have hkind := s.classed_kind k leg w
  rw [s.faultClassify_of_report k leg w h]
  split
  · exact ⟨(State.countTry_stat _ k _ 12 2 (by decide) (by decide)).trans hshow,
      (State.countTry_stat _ k _ 10 2 (by decide) (by decide)).trans hkind,
      (congrArg (·.getLsbD leg) (State.countTry_reports _ k _)).trans hreports, (driveBlind_mem.countTry _ k _).trans hmem⟩
  · split
    · refine ⟨(State.prime_stat _ k 12 2 (by decide)).trans hshow, (State.prime_stat _ k 10 2 (by decide)).trans hkind, ?_,
        (driveBlind_mem.prime _ k).trans hmem⟩
      rw [State.prime_group]
      exact hreports
    · exact ⟨(State.breakShow_stat _ k 12 2 (by decide)).trans hshow, (State.breakShow_stat _ k 10 2 (by decide)).trans hkind, hreports, hmem⟩

end

end Sys2Proof.Machine

/-! SUPPORT. The end of a wait, the priming burst and CLEAR (R221, R228–R230), and the faults' obligation. -/
namespace Sys2Proof.Machine

/-! ### The end of a wait (R228) -/

theorem State.primedAt_congr {s t : State} (h : t.drive.gridAt = s.drive.gridAt) (x : Nat) : t.primedAt x = s.primedAt x := by
  rw [State.primedAt, State.bitUp, h, State.primedAt, State.bitUp]

/-- R228: the wait of a group ends, the pins of its legs at `v`. -/
def State.waited (s : State) (k : Fin 12) (x v : Nat) : State := (s.reachNow x).setFltn k v

theorem DriveBlind.waited {β : Type} {g : State → β} (h : DriveBlind g) (s : State) (k : Fin 12) (x v : Nat) :
    g (s.waited k x v) = g (s.reachNow x) := h.setFltn _ k v

theorem State.waited_get (s : State) (k : Fin 12) (x v : Nat) (f : Fld) (h : f.addr ≠ Reg.DRIVE_G_STAT k) :
    (s.waited k x v).get f = s.get f := (State.get_of_rd (State.setFltn_rd _ k v _ h)).trans (s.advance_get _ f)

theorem State.waited_stat (s : State) (k : Fin 12) (x v lo w : Nat) (h : lo + w ≤ 16 ∨ 20 ≤ lo) :
    (s.waited k x v).get ⟨Reg.DRIVE_G_STAT k, lo, w⟩ = s.get ⟨Reg.DRIVE_G_STAT k, lo, w⟩ :=
  (State.setFltn_stat _ k v lo w h).trans (s.advance_get _ _)

theorem State.waited_groups (s : State) (k : Fin 12) (x v : Nat) : (s.waited k x v).drive.groups = s.drive.groups := by
  rw [State.waited, State.setFltn_groups, State.reachNow, State.advance_drive]

theorem State.waited_gridAt (s : State) (k : Fin 12) (x v : Nat) : (s.waited k x v).drive.gridAt = s.drive.gridAt := by
  rw [State.waited, State.setFltn_gridAt, State.reachNow, State.advance_drive]

theorem State.waited_pwmClk (s : State) (k : Fin 12) (x v : Nat) : (s.waited k x v).pwmClk = s.pwmClk := by
  rw [driveBlind_pwmClk.waited, State.reachNow, State.pwmClk, State.advance_on, State.advance_pmu, State.pwmClk]

section
variable (s : State) (k : Fin 12) (x : Nat) (hwait : s.drive.groups[k].waitEnd = some x) (hstate : s.get (Fd.DRIVE_G_STAT_STATE k) = 1)
  (hwarned : s.pmu.warned = false)
include hwait hstate hwarned

/-- R228: with a FLT_N low the end of the wait is a further try. -/
theorem State.retryWaitEnd_of_low (v : Nat) (hv : v % 16 ≠ 15) :
    s.retryWaitEnd k v = (s.waited k x v).countTry k (s.waited k x v).now := by
  simp only [State.retryWaitEnd, hwait, hstate, hwarned, Bool.not_false, and_self, if_true]
  exact if_pos hv

/-- R228: with every FLT_N high, no report and the PWM clock running, the break ends. -/
theorem State.retryWaitEnd_of_high (hclk : s.pwmClk = true) (hreports : s.drive.groups[k].reports = 0) :
    s.retryWaitEnd k 15 = ((s.waited k x 15).grpM k fun g => { g with retrying := true }).retry k := by
  have hgo : ((s.waited k x 15).pwmClk && (s.waited k x 15).drive.groups[k].reports == 0) = true := by
    rw [s.waited_pwmClk, hclk, s.waited_groups, hreports]
    rfl
  simp only [State.retryWaitEnd, hwait, hstate, hwarned, Bool.not_false, and_self, if_true]
  exact (if_neg (by decide)).trans (if_pos hgo)

end

/-! ### The priming burst (R221) -/

/-- R221: a frame of a priming burst has carried leg `n`'s code. -/
def State.codeSent (s : State) (n : Nat) : State :=
  (s.legZeroNow (Fin.ofNat 48 n)).wrN (Reg.DRIVE_LEG_SENT n)
    (cut ((s.legZeroNow (Fin.ofNat 48 n)).rdN (Reg.DRIVE_LEG_CODE n)) 0 16 + 2 ^ 16 * ((s.legZeroNow (Fin.ofNat 48 n)).frameCpen n).toNat)

/-- R221: the codes of a group's four legs have been carried. -/
def State.codesSent (s : State) (k : Fin 12) : State := (List.range 4).foldl (fun s (i : Nat) => s.codeSent (4 * k.val + i)) s

theorem State.burstSent_eq (s : State) (k : Fin 12) (t : Nat) : ∃ f, s.burstSent k t = (s.codesSent k).grpM k fun g => { g with frames := f } :=
  ⟨_, rfl⟩

@[simp] theorem State.legZeroNow_rd (s : State) (n : Fin 48) (a : Nat) : (s.legZeroNow n).rd a = s.rd a := by
  unfold State.legZeroNow State.legZero
  split <;> rfl

@[simp] theorem State.legZeroNow_drive (s : State) (n : Fin 48) : (s.legZeroNow n).drive = s.drive := by
  unfold State.legZeroNow State.legZero
  split <;> rfl

theorem State.codeSent_rd (s : State) (n a : Nat) (h : a ≠ Reg.DRIVE_LEG_SENT n) : (s.codeSent n).rd a = s.rd a := by
  rw [State.codeSent, State.wrN, State.rd_wr, if_neg h, State.legZeroNow_rd]

theorem State.codeSent_sent (s : State) (n : Nat) :
    cut ((s.codeSent n).rdN (Reg.DRIVE_LEG_SENT n)) 0 16 = cut (s.rdN (Reg.DRIVE_LEG_CODE n)) 0 16 := by
  have hcut (x c : Nat) : cut ((cut x 0 16 + 2 ^ 16 * c) % 2 ^ 32) 0 16 = cut x 0 16 := by
    rw [cut_mod_two_pow _ (by decide : 0 + 16 ≤ 32)]
    exact (Nat.add_mul_mod_self_left _ _ _).trans (cut_mod x 0 16)
  rw [State.codeSent, State.rdN, State.wrN, State.rd_wr, if_pos rfl, BitVec.toNat_ofNat, hcut, State.rdN, State.legZeroNow_rd, State.rdN]

@[simp] theorem State.codeSent_drive (s : State) (n : Nat) : (s.codeSent n).drive = s.drive := s.legZeroNow_drive _

@[simp] theorem State.codesSent_drive (s : State) (k : Fin 12) : (s.codesSent k).drive = s.drive :=
  foldl_same State.drive _ (fun s _ => s.codeSent_drive _) _ s

theorem State.codesSent_rd (s : State) (k : Fin 12) (a : Nat) (h : ∀ n < 48, a ≠ Reg.DRIVE_LEG_SENT n) : (s.codesSent k).rd a = s.rd a := by
  refine List.foldlRecOn (motive := fun t : State => t.rd a = s.rd a) _ _ rfl fun t ht i hi => ?_
  rw [t.codeSent_rd _ a (h _ (by have := List.mem_range.mp hi; omega)), ht]

/-- R221: after a burst SENT shows the current codes. -/
theorem State.codesSent_sent (s : State) (k : Fin 12) (i : Fin 4) :
    cut ((s.codesSent k).rdN (Reg.DRIVE_LEG_SENT (4 * k.val + i.val))) 0 16 = cut (s.rdN (Reg.DRIVE_LEG_CODE (4 * k.val + i.val))) 0 16 := by
  have hcode (t : State) (j : Nat) : (t.codeSent j).rdN (Reg.DRIVE_LEG_CODE (4 * k.val + i.val)) = t.rdN (Reg.DRIVE_LEG_CODE (4 * k.val + i.val)) :=
    congrArg BitVec.toNat (t.codeSent_rd j _ (by simp only [Reg.DRIVE_LEG_CODE, Reg.DRIVE_LEG_SENT]; omega))
  refine foldl_brings
    (fun t : State => cut (t.rdN (Reg.DRIVE_LEG_SENT (4 * k.val + i.val))) 0 16 = cut (s.rdN (Reg.DRIVE_LEG_CODE (4 * k.val + i.val))) 0 16 ∧
      t.rdN (Reg.DRIVE_LEG_CODE (4 * k.val + i.val)) = s.rdN (Reg.DRIVE_LEG_CODE (4 * k.val + i.val)))
    (fun t => t.rdN (Reg.DRIVE_LEG_CODE (4 * k.val + i.val)) = s.rdN (Reg.DRIVE_LEG_CODE (4 * k.val + i.val)))
    _ (fun t j ht => (hcode t _).trans ht) (fun t j ht => ⟨?_, (hcode t _).trans ht.2⟩) _ i.val (List.mem_range.mpr i.isLt)
    (fun t ht => ⟨?_, (hcode t _).trans ht⟩) s rfl |>.1
  · by_cases hj : j = i.val
    · rw [hj, t.codeSent_sent, ht.2]
    · rw [State.rdN, t.codeSent_rd _ _ (by simp only [Reg.DRIVE_LEG_SENT]; omega)]
      exact ht.1
  · rw [t.codeSent_sent, ht]

theorem DriveBlind.codesSent {β : Type} {g : State → β} (h : DriveBlind g) (s : State) (k : Fin 12) : g (s.codesSent k) = g s := by
  refine List.foldlRecOn (motive := fun t : State => g t = g s) _ _ rfl fun t ht i hi => ?_
  refine (h.wr _ _ _ ?_).trans ((h.legZero t _ _).trans ht)
  have hlt := List.mem_range.mp hi
  simp only [InPwm, Reg.DRIVE_LEG_SENT]
  omega

/-- R221, R228: the burst has been sent, and its group's burst is over. -/
def State.burst (s : State) (k : Fin 12) (x : Nat) : State :=
  ((s.reachNow x).burstSent k x).grpM k fun g => { g with priming := none, retrying := false }

theorem DriveBlind.burst {β : Type} {g : State → β} (h : DriveBlind g) (s : State) (k : Fin 12) (x : Nat) :
    g (s.burst k x) = g (s.reachNow x) := by
  obtain ⟨f, hf⟩ := (s.reachNow x).burstSent_eq k x
  rw [State.burst, hf]
  exact (h.grpM _ k _).trans ((h.grpM _ k _).trans (h.codesSent _ k))

theorem State.burst_drive (s : State) (k : Fin 12) (x : Nat) : ∃ f, (s.burst k x).drive =
    { s.drive with groups := s.drive.groups.upd k fun g => { g with frames := f, priming := none, retrying := false } } := by
  obtain ⟨f, hf⟩ := (s.reachNow x).burstSent_eq k x
  refine ⟨f, ?_⟩
  rw [State.burst, hf, State.grpM, State.grpM, State.codesSent_drive, State.reachNow, State.advance_drive]
  simp [Vector.upd]

theorem State.burst_locked (s : State) (k : Fin 12) (x : Nat) : (s.burst k x).drive.locked = s.drive.locked := by
  obtain ⟨f, hf⟩ := s.burst_drive k x
  rw [hf]

theorem State.burst_grpFltn (s : State) (k : Fin 12) (x : Nat) : (s.burst k x).grpFltn k = s.grpFltn k := by
  obtain ⟨f, hf⟩ := s.burst_drive k x
  rw [State.grpFltn, hf, State.grpFltn]

theorem State.burst_priming (s : State) (k : Fin 12) (x : Nat) : (s.burst k x).drive.groups[k].priming = none := by
  rw [State.burst, State.grpM_group]

theorem State.burst_rd (s : State) (k : Fin 12) (x a : Nat) (h : ∀ n < 48, a ≠ Reg.DRIVE_LEG_SENT n) : (s.burst k x).rd a = s.rd a := by
  obtain ⟨f, hf⟩ := (s.reachNow x).burstSent_eq k x
  rw [State.burst, hf, State.grpM_rd, State.grpM_rd, State.codesSent_rd _ k a h, State.reachNow, State.advance_rd]

theorem State.burst_sent (s : State) (k : Fin 12) (x : Nat) (i : Fin 4) :
    cut ((s.burst k x).rdN (Reg.DRIVE_LEG_SENT (4 * k.val + i.val))) 0 16 = cut (s.rdN (Reg.DRIVE_LEG_CODE (4 * k.val + i.val))) 0 16 := by
  obtain ⟨f, hf⟩ := (s.reachNow x).burstSent_eq k x
  rw [State.burst, hf, State.grpM_rdN, State.grpM_rdN, State.codesSent_sent, State.reachNow, State.advance_rdN]

/-- R221, R228, R230: at the end of the burst the lock-out line is released, unless a FLT_N is low. -/
theorem State.primingEnd_of_burst (s : State) (k : Fin 12) (x : Nat) (h : s.drive.groups[k].priming = some x) : s.primingEnd k =
    if s.grpFltn k = 15 then ((s.burst k x).setLock k false).raiseIf s.drive.groups[k].retrying (driveFlag k 1)
    else ((s.burst k x).setLock k true).enterWait k := by
  have hretrying : ((s.reachNow x).burstSent k x).drive.groups[k].retrying = s.drive.groups[k].retrying := by
    obtain ⟨f, hf⟩ := (s.reachNow x).burstSent_eq k x
    rw [hf, State.grpM_group, State.codesSent_drive, State.reachNow, State.advance_drive]
  simp only [State.primingEnd, h]
  rw [hretrying, ← State.burst, State.burst_grpFltn]
  rfl

theorem State.Quiet.burst {s : State} (h : s.Quiet) (k : Fin 12) (x : Nat) : (s.burst k x).Quiet :=
  State.Quiet.of_driveBlind (h.advance _) fun _ ha => (DriveBlind.rd ha).burst s k x

theorem State.Quiet.burst_setLock_mem {s : State} (h : s.Quiet) (k : Fin 12) (x : Nat) (b : Bool) :
    ((s.burst k x).setLock k b).mem = s.mem := by
  rw [(h.burst k x).setLock, driveBlind_mem.burst, State.reachNow, State.advance_mem]

/-! ### CLEAR and the window (R228, R229) -/

/-- R229: a CLEAR that ends a lock-out: TRIES and RESTORED read 0. -/
def State.clearTaken (s : State) (k : Fin 12) (was : Nat × Nat × Nat) : State :=
  ((s.put (Fd.DRIVE_G_STAT_TRIES k) 0).put (Fd.DRIVE_G_STAT_RESTORED k) 0).grpM k fun g => { g with retrying := true, cleared := some was }

section
variable (s : State) (k : Fin 12) (was : Nat × Nat × Nat)

theorem State.clearTaken_rd (a : Nat) (h : a ≠ Reg.DRIVE_G_STAT k) : (s.clearTaken k was).rd a = s.rd a := by
  rw [State.clearTaken, State.grpM_rd]
  exact (State.rd_put_other _ _ 0 a h).trans (s.rd_put_other _ 0 a h)

theorem State.clearTaken_tries : (s.clearTaken k was).get (Fd.DRIVE_G_STAT_TRIES k) = 0 :=
  (State.grpM_get _ k _ _).trans ((State.get_put_beside _ _ 21 1 0 4 5 (by decide) (by decide)).trans (s.get_put_field _ 4 5 0 (by decide)))

theorem State.clearTaken_restored : (s.clearTaken k was).get (Fd.DRIVE_G_STAT_RESTORED k) = 0 :=
  (State.grpM_get _ k _ _).trans (State.get_put_field _ _ 21 1 0 (by decide))

theorem DriveBlind.clearTaken {β : Type} {g : State → β} (h : DriveBlind g) : g (s.clearTaken k was) = g s :=
  (h.grpM _ k _).trans ((h.stat _ k _ _ 0).trans (h.stat s k _ _ 0))

end

theorem State.driveClear_of_high (s : State) (k : Fin 12) (hstate : s.get (Fd.DRIVE_G_STAT_STATE k) = 2) (hwarned : s.pmu.warned = false)
    (hfltn : s.grpFltn k = 15) (hreports : s.drive.groups[k].reports = 0) : ∃ was, s.driveClear k = (s.clearTaken k was).retry k := by
  simp only [State.driveClear, hstate, hwarned, hfltn, hreports, Bool.not_false, and_self, if_true, ne_eq, not_true_eq_false, or_self,
    if_false]
  exact ⟨_, rfl⟩

theorem State.driveClear_of_low (s : State) (k : Fin 12) (hstate : s.get (Fd.DRIVE_G_STAT_STATE k) = 2) (hwarned : s.pmu.warned = false)
    (h : s.grpFltn k ≠ 15 ∨ s.drive.groups[k].reports ≠ 0) : s.driveClear k = s.raise (driveFlag k 5) := by
  simp only [State.driveClear, hstate, hwarned, Bool.not_false, and_self, if_true]
  exact if_pos h

theorem State.tryWindowExpire_of_series (s : State) (k : Fin 12) (x : Nat) (h : s.drive.groups[k].series = some x)
    (htry : s.drive.groups[k].isTry = false) : s.tryWindowExpire k =
      ((s.reachNow (x + s.windowTime k)).put (Fd.DRIVE_G_STAT_TRIES k) 0).grpM k fun g => { g with series := none } := by
  simp only [State.tryWindowExpire, h, State.reachNow, State.advance_drive, htry, Bool.false_and, Bool.false_eq_true, if_false]

/-! ### The obligation -/

/-- R228, R229: what stands after a break has ended with its priming burst. -/
theorem State.retry_running (s : State) (k : Fin 12) (hlane : s.on (Fd.DRIVE_G_CFG_LANEEN k) = true) (hclk : s.pwmClk = true) :
    (s.retry k).get (Fd.DRIVE_G_STAT_STATE k) = 0 ∧ (s.retry k).drive.groups[k].retrying = s.drive.groups[k].retrying ∧
      (s.retry k).drive.groups[k].waitEnd = none ∧ (s.retry k).drive.groups[k].priming = some (s.primedAt s.now) := by
  rw [s.retry_of_running k hlane hclk, State.prime_group]
  refine ⟨(State.prime_stat _ k 0 2 (by decide)).trans (State.get_put_field _ _ 0 2 0 (by decide)), ?_, ?_, rfl⟩ <;>
    rw [State.put_drive, State.grpM_group]

theorem State.retry_stat (s : State) (k : Fin 12) (lo w : Nat) (h : 2 ≤ lo) (h' : lo + w ≤ 20 ∨ 21 ≤ lo)
    (hlane : s.on (Fd.DRIVE_G_CFG_LANEEN k) = true) (hclk : s.pwmClk = true) :
    (s.retry k).get ⟨Reg.DRIVE_G_STAT k, lo, w⟩ = s.get ⟨Reg.DRIVE_G_STAT k, lo, w⟩ := by
  rw [s.retry_of_running k hlane hclk]
  exact (State.prime_stat _ k lo w h').trans (State.get_put_beside _ _ 0 2 0 lo w (by decide) (Or.inr h))

theorem State.retry_rd (s : State) (k : Fin 12) (a : Nat) (h : a ≠ Reg.DRIVE_G_STAT k) (hlane : s.on (Fd.DRIVE_G_CFG_LANEEN k) = true)
    (hclk : s.pwmClk = true) : (s.retry k).rd a = s.rd a := by
  rw [s.retry_of_running k hlane hclk, State.prime_rd _ k a h]
  exact State.rd_put_other _ _ 0 a h

/-- R227: KIND by the width of the first low interval. -/
theorem faultKind_cases (w : Nat) : (8000 ≤ w ∧ w ≤ 24000 → faultKind (some w) % 4 = 1) ∧ (40000 ≤ w ∧ w ≤ 56000 → faultKind (some w) % 4 = 2) ∧
    ((w < 8000 ∨ 24000 < w) ∧ (w < 40000 ∨ 56000 < w) → faultKind (some w) % 4 = 3) := by
  simp only [faultKind]
  split_ifs <;> omega

/-- Settles O42: each command is brought to the state that its case's lemma names, and that state's laws give the clause. -/
theorem driverFaults : Obligations.DriverFaults := by
  unfold Obligations.DriverFaults
  refine ⟨?report, ?tryWaits, ?tryLocks, ?classify, ?waitHigh, ?waitLow, ?burstHigh, ?burstLow, ?window, ?clear, ?refused⟩
  case report =>
    intro k legs s hlegs
    have hne : legs.toNat % 16 ≠ 0 := by
      rw [Nat.mod_eq_of_lt legs.isLt]
      exact fun h => hlegs (BitVec.eq_of_toNat_eq h)
    obtain ⟨hlow, hlowest⟩ := lowestLeg_le legs hlegs
    obtain ⟨leg, hleg, hsame⟩ := s.faultReport_reported k legs.toNat hne
    have hlt := Nat.lt_of_le_of_lt hleg hlow
    have hshown := (hsame (fun t => t.get (Fd.DRIVE_G_STAT_LEG k)) fun t => t.enterWait_stat k 12 2 (by decide) (by decide)).trans
      (State.reported_leg _ k leg hlt)
    refine ⟨_, rfl, ?_, ?_, ?_, ?_, ?_, fun j hj => ?_, fun j hj => ?_, fun j hj => ?_, ?_, fun hquiet => ?_⟩
    · exact (hsame (fun t => t.flag (Ev.DRIVE_G_FLAGS_FAULT k)) fun t => t.enterWait_flag k k 0).trans (State.reported_flag _ k leg)
    · rw [hsame (fun t => t.drive.locked) fun t => t.enterWait_locked k, State.reported_drive]
      exact (getLsbD_setBit _ _ _ true k.isLt).trans (if_pos rfl)
    · refine (hsame (fun t => t.get ⟨Reg.PWM_FSTAT, 20 + k.val, 1⟩) fun t => State.get_of_rd (t.enterWait_rd k _ ?_)).trans
        (State.reported_line _ k leg)
      simp only [Reg.PWM_FSTAT, Reg.DRIVE_G_STAT]
      omega
    · rw [hshown, hsame (fun t => t.drive.groups[k].reports) fun t => by rw [t.enterWait_group k]]
      exact State.reported_reports _ k leg hlt
    · exact s.faultReport_break k legs.toNat hne hlow
    · exact hshown.le.trans (hleg.trans (hlowest j hj))
    · rw [hsame (fun t => t.grpFltn k) fun t => rfl, State.grpFltn, State.reported_drive]
      exact s.reportMet_fltn k legs j hj
    · rw [hsame (fun t => t.pwm) fun t => rfl]
      exact State.reported_forced _ k leg j hj
    · rw [hsame (fun t => t.now) fun t => driveBlind_now.enterWait t k, State.reported_now, driveBlind_now.reportMet]
    · rw [hsame (fun t => t.mem) fun t => driveBlind_mem.enterWait t k,
        State.Quiet.reported_mem (State.Quiet.of_driveBlind hquiet.1 fun _ ha => (DriveBlind.rd ha).reportMet s k _), driveBlind_mem.reportMet]
  case tryWaits =>
    intro k leg w s hreport htry hstate hmax
    obtain ⟨x, hx⟩ := (s.classed k leg.val (w.map BitVec.toNat)).countTry_of_le k s.drive.groups[k].tryAt
      (by rwa [State.classed_tries, Fd.DRIVE_G_RETRY_MAXTRY, State.classed_retry])
    have htries : (s.classed k leg.val (w.map BitVec.toNat)).get (Fd.DRIVE_G_STAT_TRIES k) ≤ 15 := by
      rw [State.classed_tries]
      exact hmax.le.trans (s.maxtry_le k)
    refine ⟨_, rfl, ?_⟩
    rw [s.faultClassify_of_try k leg.val _ hreport htry hstate, hx]
    refine ⟨?_, State.enterWait_state _ k, ?_, State.enterWait_break _ k, ?_, ?_, ?_⟩
    · exact (State.enterWait_stat _ k 4 5 (by decide) (by decide)).trans
        ((State.tried_tries _ k x htries).trans (congrArg (· + 1) (s.classed_tries k leg.val _)))
    · rw [State.enterWait_group, State.tried_group, State.classed_group]
      rfl
    · rw [State.enterWait_locked, State.tried_locked, State.classed_locked]
    · rw [State.enterWait_group, State.tried_waitTime, State.tried_now, driveBlind_now.classed, State.waitTime, Fd.DRIVE_G_RETRY_WAIT,
        State.classed_retry]
    · rw [← hx, driveBlind_mem.countTry, driveBlind_mem.classed]
  case tryLocks =>
    intro k leg w s hreport htry hstate hmax
    obtain ⟨x, hx⟩ := (s.classed k leg.val (w.map BitVec.toNat)).countTry_of_eq k s.drive.groups[k].tryAt
      (by rwa [State.classed_tries, Fd.DRIVE_G_RETRY_MAXTRY, State.classed_retry])
    refine ⟨_, rfl, ?_⟩
    rw [s.faultClassify_of_try k leg.val _ hreport htry hstate, hx]
    refine ⟨State.lockOut_state _ k, State.lockOut_flag _ k, ?_, State.lockOut_break _ k, ?_, ?_⟩
    · rw [State.lockOut_group]
    · rw [State.lockOut_locked, State.tried_locked, State.classed_locked]
    · rw [← hx, driveBlind_mem.countTry, driveBlind_mem.classed]
  case classify =>
    intro k leg w s hreport
    obtain ⟨hleg, hkind, hreports, hmem⟩ := s.faultClassify_shows k leg.val (some w.toNat) hreport leg.isLt
    obtain ⟨huvlo, hdesat, hunknown⟩ := faultKind_cases w.toNat
    exact ⟨_, rfl, hleg, fun h => hkind.trans (huvlo h), fun h => hkind.trans (hdesat h), fun h => hkind.trans (hunknown h), hreports, hmem⟩
  case waitHigh =>
    intro k x s hwait hstate hwarned hclk hlane hreports
    generalize hu : (s.waited k x 15).grpM k (fun g => { g with retrying := true }) = u
    have hlane' : u.on (Fd.DRIVE_G_CFG_LANEEN k) = true := by
      rw [← hu, State.grpM_on, State.on_of_get (s.waited_get k x 15 _ (cfg_ne_stat k)), hlane]
    have hclk' : u.pwmClk = true := by rw [← hu, driveBlind_pwmClk.grpM, s.waited_pwmClk, hclk]
    have hnow : u.now = (s.reachNow x).now := by rw [← hu, State.grpM_now, driveBlind_now.waited]
    have hgrid : u.drive.gridAt = s.drive.gridAt := by rw [← hu]; exact s.waited_gridAt k x 15
    obtain ⟨hstate', hretrying, hwait', hpriming⟩ := u.retry_running k hlane' hclk'
    have hend : s.retryWaitEnd k 15 = u.retry k := hu ▸ s.retryWaitEnd_of_high k x hwait hstate hwarned hclk hreports
    refine ⟨u.retry k, congrArg Host.Outcome.next hend, hstate', ?_, hwait', ?_, (driveBlind_now.retry u k).trans hnow, ?_⟩
    · rw [hretrying, ← hu, State.grpM_group]
    · rw [hpriming, driveBlind_now.retry, State.primedAt_congr hgrid]
      rfl
    · rw [driveBlind_mem.retry, ← hu, State.grpM_mem, driveBlind_mem.waited, State.reachNow, State.advance_mem]
  case waitLow =>
    intro k x v s hwait hstate hwarned hv hmax
    have hv' : v.toNat % 16 ≠ 15 := by
      rw [Nat.mod_eq_of_lt v.isLt]
      exact fun h => hv (BitVec.eq_of_toNat_eq h)
    have htries : (s.waited k x v.toNat).get (Fd.DRIVE_G_STAT_TRIES k) = s.get (Fd.DRIVE_G_STAT_TRIES k) :=
      s.waited_stat k x _ 4 5 (by decide)
    obtain ⟨y, hy⟩ := (s.waited k x v.toNat).countTry_of_le k (s.waited k x v.toNat).now
      (by rwa [htries, s.waited_get k x _ _ (retry_ne_stat k)])
    refine ⟨_, rfl, ?_⟩
    rw [s.retryWaitEnd_of_low k x hwait hstate hwarned _ hv']
    refine ⟨?_, ?_, ?_, ?_⟩
    · rw [hy, State.enterWait_state]
    · rw [hy, ← htries]
      exact (State.enterWait_stat _ k 4 5 (by decide) (by decide)).trans
        (State.tried_tries _ k y (htries ▸ hmax.le.trans (s.maxtry_le k)))
    · exact (State.countTry_stat _ k _ 16 4 (by decide) (by decide)).trans
        ((State.setFltn_fltn _ k _).trans (Nat.mod_eq_of_lt v.isLt))
    · rw [driveBlind_mem.countTry, driveBlind_mem.waited, State.reachNow, State.advance_mem]
  case burstHigh =>
    intro k x s hpriming hfltn
    refine ⟨_, rfl, ?_⟩
    rw [s.primingEnd_of_burst k x hpriming, if_pos hfltn]
    refine ⟨?_, ?_, ?_, fun hretrying => ?_, fun i => ?_, fun j hj => ?_, ?_, fun hquiet => ?_⟩
    · rw [State.raiseIf_drive, State.setLock_drive]
      exact (getLsbD_setBit _ _ _ false k.isLt).trans (if_pos rfl)
    · refine (State.get_of_rd (State.rd_raiseIf_other _ _ _ _ ?_ ?_)).trans (State.setLock_line _ k false) <;>
        simp only [driveFlag, Reg.PWM_FSTAT, Reg.DRIVE_G_FLAGS, Reg.DRIVE_G_EVCNT] <;> omega
    · rw [State.raiseIf_drive, State.setLock_drive]
      exact s.burst_priming k x
    · rw [hretrying]
      exact State.flag_raise_drive _ k.isLt (by decide)
    · rw [State.rdN, State.rd_raiseIf_drive _ _ k.isLt (by decide) (plainDrive_sent (by omega)),
        State.setLock_rd _ k false (plainDrive_sent (by omega))]
      exact s.burst_sent k x i
    · rw [State.raiseIf_drive, State.setLock_drive]
      refine (getLsbD_setBit _ _ _ false k.isLt).trans ((if_neg (Fin.val_ne_of_ne hj)).trans ?_)
      rw [State.burst_locked]
    · rw [State.raiseIf_now, State.setLock_now, driveBlind_now.burst]
    · rw [State.raiseIf_mem, State.Quiet.burst_setLock_mem hquiet.1]
  case burstLow =>
    intro k x s hpriming hfltn
    refine ⟨_, rfl, ?_⟩
    rw [s.primingEnd_of_burst k x hpriming, if_neg hfltn]
    refine ⟨?_, State.enterWait_state _ k, ?_, fun hquiet => ?_⟩
    · rw [State.enterWait_locked, State.setLock_drive]
      exact (getLsbD_setBit _ _ _ true k.isLt).trans (if_pos rfl)
    · exact (State.enterWait_stat _ k 4 5 (by decide) (by decide)).trans (State.get_of_rd
        ((State.setLock_rd _ k true (plainDrive_stat k)).trans (s.burst_rd k x _ fun n _ => by
          simp only [Reg.DRIVE_G_STAT, Reg.DRIVE_LEG_SENT]
          omega)))
    · rw [driveBlind_mem.enterWait, State.Quiet.burst_setLock_mem hquiet.1]
  case window =>
    intro k x s hseries htry
    refine ⟨_, rfl, ?_⟩
    rw [s.tryWindowExpire_of_series k x hseries htry]
    refine ⟨?_, ?_, rfl, fun a ha => ?_, ?_⟩
    · exact (State.grpM_get _ k _ _).trans (State.get_put_field _ _ 4 5 0 (by decide))
    · rw [State.grpM_group]
    · rw [State.grpM_rd, State.rd_put_other _ _ _ a (fun h => ha (List.mem_singleton.mpr h)), State.reachNow, State.advance_rd]
    · rw [State.grpM_mem, State.put_mem, State.reachNow, State.advance_mem]
  case clear =>
    intro k s hstate hwarned hreports hclk hlane
    generalize hu : s.setFltn k 15 = u
    have hfltn : u.grpFltn k = 15 := hu ▸ s.setFltn_grpFltn k 15
    obtain ⟨was, hclear⟩ := u.driveClear_of_high k (hu ▸ (s.setFltn_stat k 15 0 2 (by decide)).trans hstate)
      (hu ▸ (congrArg Pmu.warned (driveBlind_pmu.setFltn s k 15)).trans hwarned) hfltn (by rw [← hu, State.setFltn_groups, hreports])
    have hrd (a : Nat) (ha : a ≠ Reg.DRIVE_G_STAT k) : (u.clearTaken k was).rd a = s.rd a :=
      (u.clearTaken_rd k was a ha).trans (hu ▸ s.setFltn_rd k 15 a ha)
    have hlane' : (u.clearTaken k was).on (Fd.DRIVE_G_CFG_LANEEN k) = true :=
      (State.on_of_get (State.get_of_rd (hrd _ (cfg_ne_stat k)))).trans hlane
    have hclk' : (u.clearTaken k was).pwmClk = true := by rw [driveBlind_pwmClk.clearTaken, ← hu, driveBlind_pwmClk.setFltn, hclk]
    have hnow : (u.clearTaken k was).now = s.now := by rw [driveBlind_now.clearTaken, ← hu, driveBlind_now.setFltn]
    have hgrid : (u.clearTaken k was).drive.gridAt = s.drive.gridAt := by rw [← hu]; rfl
    obtain ⟨hstate', hretrying, -, hpriming⟩ := State.retry_running _ k hlane' hclk'
    have hend : (s.setFltn k 15).driveClear k = (u.clearTaken k was).retry k := hu ▸ hclear
    refine ⟨_, congrArg Host.Outcome.next hend, hstate', ?_, ?_, ?_, ?_, fun a ha => ?_, ?_⟩
    · exact (State.retry_stat _ k 4 5 (by decide) (by decide) hlane' hclk').trans (u.clearTaken_tries k was)
    · exact (State.retry_stat _ k 21 1 (by decide) (by decide) hlane' hclk').trans (u.clearTaken_restored k was)
    · rw [hpriming, State.primedAt_congr hgrid, hnow]
      rfl
    · rw [hretrying, State.clearTaken, State.grpM_group]
    · have hne := fun h => ha (List.mem_singleton.mpr h)
      exact (State.retry_rd _ k a hne hlane' hclk').trans (hrd a hne)
    · rw [driveBlind_mem.retry, driveBlind_mem.clearTaken, ← hu, driveBlind_mem.setFltn]
  case refused =>
    intro k v s hstate hwarned hor
    have hset : (s.setFltn k v.toNat).grpFltn k = v.toNat := (s.setFltn_grpFltn k _).trans (Nat.mod_eq_of_lt v.isLt)
    refine ⟨_, rfl, ?_⟩
    rw [(s.setFltn k v.toNat).driveClear_of_low k ((s.setFltn_stat k _ 0 2 (by decide)).trans hstate)
      ((congrArg Pmu.warned (driveBlind_pmu.setFltn s k _)).trans hwarned)
      (hor.imp_left fun h heq => h (BitVec.eq_of_toNat_eq (hset.symm.trans heq)))]
    refine ⟨?_, State.flag_raise_drive _ k.isLt (by decide), ?_, ?_⟩
    · exact (State.raise_stat _ k k (by decide) 0 2).trans ((s.setFltn_stat k _ 0 2 (by decide)).trans hstate)
    · rw [State.raise_drive, State.setFltn_groups]
    · rw [State.raise_mem, driveBlind_mem.setFltn]

end Sys2Proof.Machine

/-! SUPPORT. Frames, drive codes and the slots that they fill (R216–R220, R223). -/
namespace Sys2Proof.Machine

/-! ### A frame's CRC (R217) -/

/-- R217: the product of `q` and the CRC's polynomial x^4 + x + 1, coefficients modulo 2. -/
def crcTimes (q : Nat) : Nat := q ^^^ q <<< 1 ^^^ q <<< 4

theorem crcTimes_push (q : Nat) (b : Bool) : crcTimes (q <<< 1 ^^^ b.toNat) = crcTimes q <<< 1 ^^^ crcTimes b.toNat := by
  simp only [crcTimes, Nat.shiftLeft_xor_distrib, ← Nat.shiftLeft_add, Nat.add_comm 1 4]
  ac_rfl

theorem shiftLeft_xor_of_lt {c n : Nat} (h : c < 2 ^ n) (x : Nat) : x <<< n ^^^ c = 2 ^ n * x + c := by
  rw [← Nat.div_add_mod (x <<< n ^^^ c) (2 ^ n), Nat.xor_div_two_pow, Nat.xor_mod_two_pow, Nat.shiftLeft_eq,
    Nat.mul_div_cancel _ (Nat.two_pow_pos n), Nat.mul_mod_left, Nat.div_eq_of_lt h, Nat.mod_eq_of_lt h, Nat.xor_zero, Nat.zero_xor]

/-- R217: one step of the CRC is one step of the division by its polynomial. -/
theorem crc4Step_divides : ∀ (c : Fin 16) (b : Bool), crc4Step c b < 16 ∧
    c.val <<< 1 ^^^ crcTimes (c.val.testBit 3 != b).toNat = b.toNat <<< 4 ^^^ crc4Step c b := by decide

theorem cut_push (w lo n : Nat) : cut w lo (n + 1) = cut w (lo + 1) n <<< 1 ^^^ (w.testBit lo).toNat := by
  refine Nat.eq_of_testBit_eq fun i => ?_
  rw [Nat.testBit_xor, Nat.testBit_shiftLeft, testBit_cut, testBit_cut, Nat.testBit_bool_toNat]
  cases i with
  | zero => simp
  | succ i => simp [Nat.add_assoc, Nat.add_comm 1 i]

/-- R217: what the CRC is after `n` bits: the remainder of the bits so far. -/
theorem crc4_divides (w : Nat) : ∀ n ≤ 10, ∃ q < 2 ^ n, ∃ c : Fin 16,
    (List.range n).foldl (fun c (i : Nat) => crc4Step c (w.testBit (14 - i))) 0 = c ∧ crcTimes q = cut w (15 - n) n <<< 4 ^^^ c.val := by
  intro n
  induction n with
  | zero => exact fun _ => ⟨0, by decide, 0, rfl, by simp [crcTimes, cut, Nat.mod_one]⟩
  | succ n ih =>
    intro hn
    obtain ⟨q, hq, c, hc, hdiv⟩ := ih (by omega)
    obtain ⟨hlt, hstep⟩ := crc4Step_divides c (w.testBit (14 - n))
    refine ⟨q <<< 1 ^^^ (c.val.testBit 3 != w.testBit (14 - n)).toNat, ?_, ⟨_, hlt⟩, ?_, ?_⟩
    · rw [shiftLeft_xor_of_lt (Bool.toNat_lt _)]
      have := Bool.toNat_lt (c.val.testBit 3 != w.testBit (14 - n))
      omega
    · rw [List.range_succ, List.foldl_append, hc]
      rfl
    · rw [crcTimes_push, hdiv, cut_push, show 15 - (n + 1) + 1 = 15 - n by omega, show 15 - (n + 1) = 14 - n by omega]
      simp only [Nat.shiftLeft_xor_distrib, ← Nat.shiftLeft_add, Nat.xor_assoc, hstep]

theorem crcTimes_eq_foldl (q : Nat) : ∀ n, (List.range n).foldl (fun a i => if q.testBit i then a ^^^ (19 <<< i) else a) 0 =
    crcTimes (q % 2 ^ n) := by
  intro n
  induction n with
  | zero => simp [crcTimes, Nat.mod_one]
  | succ n ih =>
    have hpush : q % 2 ^ (n + 1) = q % 2 ^ n ^^^ (q.testBit n).toNat <<< n := by
      refine Nat.eq_of_testBit_eq fun i => ?_
      rw [Nat.testBit_xor, Nat.testBit_mod_two_pow, Nat.testBit_mod_two_pow, Nat.testBit_shiftLeft, Nat.testBit_bool_toNat]
      rcases lt_trichotomy i n with h | rfl | h
      · simp [h, h.le, Nat.lt_succ_of_lt h, Nat.not_le.mpr h]
      · simp
      · simp [show ¬ i < n + 1 by omega, show ¬ i < n by omega, show ¬ i - n = 0 by omega]
    rw [List.range_succ, List.foldl_append, ih, hpush]
    cases hbit : q.testBit n with
    | false => simp [hbit]
    | true =>
      simp only [List.foldl_cons, List.foldl_nil, hbit, if_true, Bool.toNat_true, crcTimes, Nat.shiftLeft_xor_distrib]
      rw [show (19 : Nat) = 1 ^^^ 1 <<< 1 ^^^ 1 <<< 4 by decide]
      simp only [Nat.shiftLeft_xor_distrib, ← Nat.shiftLeft_add, Nat.add_comm n]
      ac_rfl

/-- R216: a frame's fields at the places that the table gives them. -/
def frameBits (leg : Nat) (low off : Bool) (step : Nat) (cpen ka : Bool) : Nat :=
  2 ^ 15 + 2 ^ 13 * (leg % 4) + 2 ^ 12 * low.toNat + 2 ^ 11 * off.toNat + 2 ^ 7 * (step % 16) + 2 ^ 6 * cpen.toNat + 2 ^ 5 * ka.toNat

theorem frameWord_eq (leg : Nat) (low off : Bool) (step : Nat) (cpen ka : Bool) :
    frameWord leg low off step cpen ka = frameBits leg low off step cpen ka + 2 * crc4 (frameBits leg low off step cpen ka) := rfl

theorem crc4_lt (w : Nat) : crc4 w < 16 := by
  obtain ⟨-, -, c, hc, -⟩ := crc4_divides w 10 le_rfl
  exact hc.trans_lt c.isLt

/-- R216: the table's fields of a frame. -/
theorem frameWord_fields (leg : Nat) (low off : Bool) (step : Nat) (cpen ka : Bool) :
    frameWord leg low off step cpen ka < 2 ^ 16 ∧ cut (frameWord leg low off step cpen ka) 15 1 = 1 ∧
      cut (frameWord leg low off step cpen ka) 13 2 = leg % 4 ∧ cut (frameWord leg low off step cpen ka) 12 1 = low.toNat ∧
      cut (frameWord leg low off step cpen ka) 11 1 = off.toNat ∧ cut (frameWord leg low off step cpen ka) 7 4 = step % 16 ∧
      cut (frameWord leg low off step cpen ka) 6 1 = cpen.toNat ∧ cut (frameWord leg low off step cpen ka) 5 1 = ka.toNat ∧
      cut (frameWord leg low off step cpen ka) 0 1 = 0 := by
  have hcrc := crc4_lt (frameBits leg low off step cpen ka)
  have hlow := low.toNat_lt
  have hoff := off.toNat_lt
  have hcpen := cpen.toNat_lt
  have hka := ka.toNat_lt
  rw [frameWord_eq]
  generalize crc4 (frameBits leg low off step cpen ka) = c at hcrc
  simp only [cut, Nat.shiftRight_eq_div_pow, frameBits]
  omega

/-- R217: bits [14:1] of a frame are a multiple of the CRC's polynomial. -/
theorem frameWord_divides (leg : Nat) (low off : Bool) (step : Nat) (cpen ka : Bool) :
    ∃ q < 2 ^ 10, crcTimes q = cut (frameWord leg low off step cpen ka) 1 14 := by
  obtain ⟨q, hq, c, hc, hdiv⟩ := crc4_divides (frameBits leg low off step cpen ka) 10 le_rfl
  refine ⟨q, hq, hdiv.trans ?_⟩
  have hlow := low.toNat_lt
  have hoff := off.toNat_lt
  have hcpen := cpen.toNat_lt
  have hka := ka.toNat_lt
  have hcrc := c.isLt
  rw [frameWord_eq, crc4, hc, shiftLeft_xor_of_lt c.isLt]
  simp only [cut, Nat.shiftRight_eq_div_pow, frameBits]
  omega

/-! ### A lane sends a frame (R216, R218–R220) -/

/-- R216: the frame of a pair that a lane starts now, its step field taken from the leg's drive code. -/
def State.startedFrame (s : State) (k : Fin 12) (p : Nat) (cpen ka : Bool) : Frame :=
  ⟨p / 4, p / 2 % 2 == 1, p % 2 == 1, s.now,
    frameWord (p / 4) (p / 2 % 2 == 1) (p % 2 == 1) (cut (s.rdN (Reg.DRIVE_LEG_CODE (4 * k.val + p / 4))) (pairLo p) 4) cpen ka⟩

/-- R218: a group whose lane has started a frame of pair `p`. -/
def Group.sends (g : Group) (p : Nat) (f : Frame) : Group :=
  { g with slots := g.slots.erase p, late := g.late.erase p, freeAt := f.start + 160 * tNs, frames := (f :: g.frames).take 3 }

section
variable (s : State) (k : Fin 12) (p : Nat) (ka : Bool)

/-- R216: DRIVE_LEGn_SENT after a frame. -/
def State.sentShow (cpen : Bool) : State :=
  ((s.legZeroNow (Fin.ofNat 48 (4 * k.val + p / 4))).put ⟨Reg.DRIVE_LEG_SENT (4 * k.val + p / 4), pairLo p, 4⟩
    (cut (s.rdN (Reg.DRIVE_LEG_CODE (4 * k.val + p / 4))) (pairLo p) 4)).putB ⟨Reg.DRIVE_LEG_SENT (4 * k.val + p / 4), 16, 1⟩ cpen

theorem State.sendFrame_eq : ∃ cpen, s.sendFrame k p ka = (s.sentShow k p cpen).grpM k fun g => g.sends p (s.startedFrame k p cpen ka) := by
  have hcode : (s.legZeroNow (Fin.ofNat 48 (4 * k.val + p / 4))).rdN (Reg.DRIVE_LEG_CODE (4 * k.val + p / 4)) =
      s.rdN (Reg.DRIVE_LEG_CODE (4 * k.val + p / 4)) := by rw [State.rdN, State.legZeroNow_rd, State.rdN]
  have hnow : (s.legZeroNow (Fin.ofNat 48 (4 * k.val + p / 4))).now = s.now := driveBlind_now.legZero s _ _
  refine ⟨(s.legZeroNow (Fin.ofNat 48 (4 * k.val + p / 4))).frameCpen (4 * k.val + p / 4), ?_⟩
  rw [State.sendFrame, hcode, State.sentShow, State.startedFrame, ← hnow]
  rfl

theorem State.sentShow_sent (cpen : Bool) : (s.sentShow k p cpen).get ⟨Reg.DRIVE_LEG_SENT (4 * k.val + p / 4), pairLo p, 4⟩ =
    cut (s.rdN (Reg.DRIVE_LEG_CODE (4 * k.val + p / 4))) (pairLo p) 4 := by
  have hlo : pairLo p + 4 ≤ 16 := by
    simp only [pairLo]
    omega
  refine (State.get_put_beside _ _ 16 1 _ (pairLo p) 4 (by decide) (Or.inl hlo)).trans ?_
  exact (State.get_put_field _ _ (pairLo p) 4 _ (by omega)).trans (cut_mod _ _ _)

theorem State.sentShow_drive (cpen : Bool) : (s.sentShow k p cpen).drive = s.drive := by
  rw [State.sentShow, State.putB, State.put_drive, State.put_drive, State.legZeroNow_drive]

theorem DriveBlind.sentShow {β : Type} {g : State → β} (h : DriveBlind g) (hp : p < 16) (cpen : Bool) : g (s.sentShow k p cpen) = g s := by
  have hreg : InPwm (Reg.DRIVE_LEG_SENT (4 * k.val + p / 4)) := by
    simp only [InPwm, Reg.DRIVE_LEG_SENT]
    omega
  exact (h.wr _ _ _ hreg).trans ((h.wr _ _ _ hreg).trans (h.legZero s _ _))

end

/-- R219: a frame waits at most once with LATEFR. -/
theorem State.frameWaits_of_new (s : State) (k : Fin 12) (p : Nat) (h : p ∉ s.drive.groups[k].late) :
    s.frameWaits k p = (s.raise (driveFlag k 3)).grpM k fun g => { g with late := p :: g.late } :=
  if_neg (by simpa using h)

/-! ### Drive codes (R218, R223) -/

/-- R218: the filled slots of group `k`. -/
def State.slotsOf (s : State) (k : Fin 12) : List Nat := s.drive.groups[k].slots

theorem State.mem_slotsOf_fillSlot (s : State) (k : Fin 12) (p q : Nat) :
    q ∈ (s.fillSlot k p).slotsOf k ↔ q ∈ s.slotsOf k ∨ q = p := by
  rw [State.slotsOf, State.fillSlot, State.grpM_group, State.slotsOf]
  split_ifs with h
  · exact ⟨Or.inl, fun hq => hq.elim id fun hq => hq ▸ by simpa using h⟩
  · simp

section
variable (s : State) (n : Fin 48) (v : Word)

/-- R223: a drive-code word is stored, and the slots of the fields that it changes are filled. -/
def State.fieldsTaken : State :=
  (List.range 4).foldl (fun t (i : Nat) => if cut (s.rdN (Reg.DRIVE_LEG_CODE n)) (4 * i) 4 != cut (cut v.toNat 0 17) (4 * i) 4 then
    t.fillSlot (Fin.ofNat 12 (n.val / 4)) (4 * (n.val % 4) + i) else t) (s.wrN (Reg.DRIVE_LEG_CODE n) (cut v.toNat 0 17))

theorem State.codeTake_eq : s.codeTake n v =
    if (s.rdN (Reg.DRIVE_LEG_CODE n)).testBit 16 != (cut v.toNat 0 17).testBit 16 then
      (s.fieldsTaken n v).fillSlot (Fin.ofNat 12 (n.val / 4)) (4 * (n.val % 4))
    else s.fieldsTaken n v := rfl

theorem State.same_codeTake {β : Type} (g : State → β) (hfill : ∀ t k p, g (State.fillSlot t k p) = g t) :
    g (s.codeTake n v) = g (s.wrN (Reg.DRIVE_LEG_CODE n) (cut v.toNat 0 17)) := by
  rw [State.codeTake_eq]
  exact (same_of_ite (hfill _ _ _)).trans (foldl_same g _ (fun t i => same_of_ite (hfill _ _ _)) _ _)

theorem State.codeTake_mem : (s.codeTake n v).mem = s.mem := s.same_codeTake n v State.mem fun _ _ _ => rfl

theorem State.codeTake_rd_other (a : Nat) (h : a ≠ Reg.DRIVE_LEG_CODE n) : (s.codeTake n v).rd a = s.rd a := by
  rw [s.same_codeTake n v (fun t => t.rd a) fun t k p => t.grpM_rd k _ a, State.wrN, State.rd_wr, if_neg h]

theorem State.codeTake_code : (s.codeTake n v).rd (Reg.DRIVE_LEG_CODE n) = v &&& 0x1FFFF := by
  rw [s.same_codeTake n v (fun t => t.rd (Reg.DRIVE_LEG_CODE n)) fun t k p => t.grpM_rd k _ _, State.wrN, State.rd_wr, if_pos rfl]
  refine BitVec.eq_of_toNat_eq ?_
  rw [BitVec.toNat_ofNat, BitVec.toNat_and]
  refine Eq.trans ?_ (Nat.and_two_pow_sub_one_eq_mod v.toNat 17).symm
  simp only [cut, Nat.shiftRight_zero]
  omega

/-- R223: a changed field's slot is filled. -/
theorem State.codeTake_slot (i : Fin 4) (h : cut v.toNat (4 * i.val) 4 ≠ cut (s.rdN (Reg.DRIVE_LEG_CODE n)) (4 * i.val) 4) :
    4 * (n.val % 4) + i.val ∈ (s.codeTake n v).slotsOf (Fin.ofNat 12 (n.val / 4)) := by
  have hcut : cut (cut v.toNat 0 17) (4 * i.val) 4 = cut v.toNat (4 * i.val) 4 := by
    exact cut_mod_two_pow v.toNat (by omega : 4 * i.val + 4 ≤ 17)
  have hkeep (t : State) (p : Nat) (q : Nat) (c : Prop) [Decidable c] (hq : q ∈ t.slotsOf (Fin.ofNat 12 (n.val / 4))) :
      q ∈ (if c then t.fillSlot (Fin.ofNat 12 (n.val / 4)) p else t).slotsOf (Fin.ofNat 12 (n.val / 4)) := by
    split_ifs
    · exact (t.mem_slotsOf_fillSlot _ _ _).mpr (Or.inl hq)
    · exact hq
  rw [State.codeTake_eq]
  refine hkeep _ _ _ _ (foldl_brings (fun t : State => 4 * (n.val % 4) + i.val ∈ t.slotsOf (Fin.ofNat 12 (n.val / 4))) (fun _ => True) _
    (fun _ _ _ => trivial) (fun t j ht => hkeep t _ _ _ ht) _ i.val (List.mem_range.mpr i.isLt) (fun t _ => ?_) _ trivial)
  rw [if_pos (by rw [hcut]; simpa using h.symm)]
  exact (t.mem_slotsOf_fillSlot _ _ _).mpr (Or.inr rfl)

/-- R223: the words that have landed in the present cycle are remembered, for a release to take them back. -/
def State.landed (s : State) (legs : List (Nat × Nat × List Nat)) (x : Nat) : State :=
  { s with drive := { s.drive with landLegs := legs, landAt := x } }

/-- R223: a word that lands where no release lands is taken. -/
theorem State.codeWrite_alone (hclk : s.pwmClk = true) (hland : s.landing = false) (hrel : s.drive.relAt ≠ s.now + 80) :
    ∃ legs x, s.codeWrite n v false = ((s.advance 2).codeTake n v).landed legs x := by
  have hmeets : ((s.advance 2).drive.relAt == (s.advance 2).now) = false := by
    rw [State.advance_drive, State.advance_now]
    simpa using hrel
  rw [State.codeWrite, s.stewardLand_alone _ _ _ hclk hland, hmeets, Bool.false_and, if_neg Bool.false_ne_true]
  exact ⟨_, _, rfl⟩

/-- R223: a word that meets a release on its leg is lost. -/
theorem State.codeWrite_lost (hclk : s.pwmClk = true) (hrel : s.drive.relAt = s.now) (hleg : n.val ∈ s.drive.relLegs) :
    s.codeWrite n v true = s.raise (driveFlag (n.val / 4) 6) := by
  rw [State.codeWrite, s.stewardLand_same _ _ _ hclk]
  exact if_pos (by simp [hrel, hleg])

end

/-! ### A lane's next frame (R218–R220) -/

@[simp] theorem State.laneFree_drive (s : State) (k : Fin 12) (idle : Nat) : (s.laneFree k idle).drive = s.drive := s.advance_drive _
@[simp] theorem State.laneFree_rdN (s : State) (k : Fin 12) (idle a : Nat) : (s.laneFree k idle).rdN a = s.rdN a := s.advance_rdN _ a
@[simp] theorem State.laneFree_mem (s : State) (k : Fin 12) (idle : Nat) : (s.laneFree k idle).mem = s.mem := s.advance_mem _

section
variable (s : State) (k : Fin 12) (p : Nat)

theorem State.dslFrameSend_sends (l : List Nat) (hopen : s.laneOpen k = true) (hslots : s.drive.groups[k].slots = p :: l)
    (hlate : (s.laneFree k 0).tooLate k p (s.laneFree k 0).now = false) : s.dslFrameSend k = (s.laneFree k 0).sendFrame k p false := by
  simp only [State.dslFrameSend, hopen, hslots, if_true]
  exact if_neg (hlate.trans_ne Bool.false_ne_true)

theorem State.dslFrameSend_waits (l : List Nat) (hopen : s.laneOpen k = true) (hslots : s.drive.groups[k].slots = p :: l)
    (hlate : (s.laneFree k 0).tooLate k p (s.laneFree k 0).now = true) : s.dslFrameSend k = (s.laneFree k 0).frameWaits k p := by
  simp only [State.dslFrameSend, hopen, hslots, if_true]
  exact if_pos hlate

/-- R220: the lane has sent the frame of the next pair, and goes on to the pair after it. -/
def State.refreshSent : State := (s.sendFrame k p true).grpM k fun g => { g with refresh := (g.refresh + 1) % 16 }

theorem State.dslRefresh_sends (hopen : s.laneOpen k = true) (hslots : s.drive.groups[k].slots = [])
    (hlate : (s.laneFree k (10 * tUs)).tooLate k s.drive.groups[k].refresh (s.laneFree k (10 * tUs)).now = false) :
    s.dslRefresh k = (s.laneFree k (10 * tUs)).refreshSent k s.drive.groups[k].refresh := by
  simp only [State.dslRefresh, hopen, hslots, List.isEmpty_nil, Bool.and_self, if_true]
  exact if_neg (hlate.trans_ne Bool.false_ne_true)

end

/-- R216: what stands after a lane has started a frame. -/
theorem State.sendFrame_group (s : State) (k : Fin 12) (p : Nat) (ka : Bool) :
    ∃ cpen, (s.sendFrame k p ka).drive.groups[k] = s.drive.groups[k].sends p (s.startedFrame k p cpen ka) := by
  obtain ⟨cpen, h⟩ := s.sendFrame_eq k p ka
  exact ⟨cpen, by rw [h, State.grpM_group, State.sentShow_drive]⟩

theorem DriveBlind.sendFrame {β : Type} {g : State → β} (h : DriveBlind g) (s : State) (k : Fin 12) (p : Nat) (ka : Bool) (hp : p < 16) :
    g (s.sendFrame k p ka) = g s := by
  obtain ⟨cpen, heq⟩ := s.sendFrame_eq k p ka
  rw [heq, h.grpM, h.sentShow s k p hp]

theorem State.sendFrame_sent (s : State) (k : Fin 12) (p : Nat) (ka : Bool) :
    cut ((s.sendFrame k p ka).rdN (Reg.DRIVE_LEG_SENT (4 * k.val + p / 4))) (4 * (p % 4)) 4 =
      cut (s.rdN (Reg.DRIVE_LEG_CODE (4 * k.val + p / 4))) (4 * (p % 4)) 4 := by
  obtain ⟨cpen, h⟩ := s.sendFrame_eq k p ka
  rw [h, State.grpM_rdN]
  exact s.sentShow_sent k p cpen

theorem State.startedFrame_step (s : State) (k : Fin 12) (p : Nat) (cpen ka : Bool) : cut (s.startedFrame k p cpen ka).word 7 4 =
    cut (s.rdN (Reg.DRIVE_LEG_CODE (4 * k.val + p / 4))) (4 * (p % 4)) 4 ∧ cut (s.startedFrame k p cpen ka).word 5 1 = ka.toNat := by
  obtain ⟨-, -, -, -, -, hstep, -, hka, -⟩ := frameWord_fields (p / 4) (p / 2 % 2 == 1) (p % 2 == 1)
    (cut (s.rdN (Reg.DRIVE_LEG_CODE (4 * k.val + p / 4))) (pairLo p) 4) cpen ka
  exact ⟨hstep.trans (cut_mod _ _ _), hka⟩

/-- R216: bits [14:11] of a frame are its pair's number. -/
theorem State.startedFrame_pair (s : State) (k : Fin 12) (p : Nat) (cpen ka : Bool) (hp : p < 16) :
    cut (s.startedFrame k p cpen ka).word 11 4 = p := by
  obtain ⟨-, -, hleg, hlow, hoff, -⟩ := frameWord_fields (p / 4) (p / 2 % 2 == 1) (p % 2 == 1)
    (cut (s.rdN (Reg.DRIVE_LEG_CODE (4 * k.val + p / 4))) (pairLo p) 4) cpen ka
  have hbit (x : Nat) : (x % 2 == 1).toNat = x % 2 := by
    rcases Nat.mod_two_eq_zero_or_one x with h | h <;> rw [h] <;> rfl
  rw [hbit] at hlow hoff
  simp only [State.startedFrame]
  revert hleg hlow hoff
  generalize frameWord _ _ _ _ _ _ = w
  simp only [cut, Nat.shiftRight_eq_div_pow]
  omega

end Sys2Proof.Machine

/-! SUPPORT. A group's configuration (R221, R233). -/
namespace Sys2Proof.Machine

@[simp] theorem State.advance_pwmClk (s : State) (k : Nat) : (s.advance k).pwmClk = s.pwmClk := by
  simp only [State.pwmClk, State.advance_on, State.advance_pmu]

/-- R221: the lane of a group that is enabled for the first time leaves its break, unless another cause holds it there. -/
def State.laneEnable (s : State) (k : Fin 12) : State :=
  let t := (s.put (Fd.DRIVE_G_STAT_STATE k) 0).setFltn k (s.grpFltn k)
  if t.inBreak k then t.breakShow k else t.prime k

/-- R221: the lane of a running group is disabled. -/
def State.laneDisable (s : State) (k : Fin 12) : State :=
  (((s.put (Fd.DRIVE_G_STAT_STATE k) 3).grpM k fun g => { g with slots := [], late := [], priming := none, retrying := false }).breakShow k).setLock
    k true

/-- R221, R233: a configuration is stored, and its LANEEN takes effect. -/
def State.groupTake (s : State) (k : Fin 12) (v : Word) : State :=
  let t := s.wrN (Reg.DRIVE_G_CFG k) (cut v.toNat 0 3)
  if v.getLsbD 0 && !s.on (Fd.DRIVE_G_CFG_LANEEN k) && t.get (Fd.DRIVE_G_STAT_STATE k) == 3 then t.laneEnable k
  else if !v.getLsbD 0 && s.on (Fd.DRIVE_G_CFG_LANEEN k) && t.get (Fd.DRIVE_G_STAT_STATE k) == 0 then t.laneDisable k
  else t

section
variable (s : State) (k : Fin 12) (v : Word)

theorem State.groupCfg_refused (i : Fin 4) (hclk : s.pwmClk = true) (hland : s.landing = false)
    (hpol : cut v.toNat 1 2 ≠ cut (s.rdN (Reg.DRIVE_G_CFG k)) 1 2) (hen : s.on (Fd.PWM_LEG_CFG_EN (4 * k.val + i.val)) = true) :
    s.groupCfg k v = (s.advance 2).raise (driveFlag k 7) := by
  have hany : ((List.range 4).any fun i => (s.advance 2).on (Fd.PWM_LEG_CFG_EN (4 * k.val + i))) = true :=
    List.any_eq_true.mpr ⟨i.val, List.mem_range.mpr i.isLt, (s.advance_on 2 _).trans hen⟩
  rw [State.groupCfg, s.landPwm_of_running _ _ _ hclk, s.crossed_of_not_landing hland]
  simp only [hany, State.advance_rdN, Bool.and_true]
  exact if_pos (bne_iff_ne.mpr hpol)

theorem State.groupCfg_taken (hclk : s.pwmClk = true) (hland : s.landing = false)
    (hen : ∀ i : Fin 4, s.on (Fd.PWM_LEG_CFG_EN (4 * k.val + i.val)) = false) : s.groupCfg k v = (s.advance 2).groupTake k v := by
  have hany : ((List.range 4).any fun i => (s.advance 2).on (Fd.PWM_LEG_CFG_EN (4 * k.val + i))) = false :=
    List.any_eq_false.mpr fun i hi => by rw [State.advance_on, hen ⟨i, List.mem_range.mp hi⟩]; exact Bool.false_ne_true
  rw [State.groupCfg, s.landPwm_of_running _ _ _ hclk, s.crossed_of_not_landing hland]
  simp only [hany, Bool.and_false, Bool.false_eq_true, if_false]
  rfl

theorem DriveBlind.laneEnable {β : Type} {g : State → β} (h : DriveBlind g) : g (s.laneEnable k) = g s := by
  have hput : g ((s.put (Fd.DRIVE_G_STAT_STATE k) 0).setFltn k (s.grpFltn k)) = g s := (h.setFltn _ k _).trans (h.stat s k _ _ _)
  rw [State.laneEnable]
  split
  · exact (h.breakShow _ k).trans hput
  · exact (h.prime _ k).trans hput

theorem State.laneEnable_rd (a : Nat) (h : a ≠ Reg.DRIVE_G_STAT k) : (s.laneEnable k).rd a = s.rd a := by
  have hput : ((s.put (Fd.DRIVE_G_STAT_STATE k) 0).setFltn k (s.grpFltn k)).rd a = s.rd a :=
    (State.setFltn_rd _ k _ a h).trans (s.rd_put_other _ 0 a h)
  rw [State.laneEnable]
  split
  · exact (State.breakShow_rd _ k a h).trans hput
  · exact (State.prime_rd _ k a h).trans hput

/-- R221: nothing else holds the lane in its break: it primes. -/
theorem State.laneEnable_primes (hlane : s.on (Fd.DRIVE_G_CFG_LANEEN k) = true) (hclk : s.pwmClk = true) (hwarned : s.pmu.warned = false)
    (hreports : s.drive.groups[k].reports = 0) : (s.laneEnable k).get (Fd.DRIVE_G_STAT_STATE k) = 0 ∧
      (s.laneEnable k).get (Fd.DRIVE_G_STAT_BREAK k) = 0 ∧ (s.laneEnable k).drive.groups[k].priming = some (s.primedAt s.now) := by
  have hstate : ((s.put (Fd.DRIVE_G_STAT_STATE k) 0).setFltn k (s.grpFltn k)).get (Fd.DRIVE_G_STAT_STATE k) = 0 :=
    (State.setFltn_stat _ k _ 0 2 (by decide)).trans (State.get_put_field _ _ 0 2 0 (by decide))
  have hnot : ((s.put (Fd.DRIVE_G_STAT_STATE k) 0).setFltn k (s.grpFltn k)).inBreak k = false := by
    refine State.inBreak_eq_false ((State.on_of_get ?_).trans hlane) hstate ?_ ?_ ?_
    · exact State.get_of_rd ((State.setFltn_rd _ k _ _ (cfg_ne_stat k)).trans (s.rd_put_other _ 0 _ (cfg_ne_stat k)))
    · rw [State.setFltn_groups, State.put_drive, hreports]
    · exact (congrArg Pmu.warned ((driveBlind_pmu.setFltn _ k _).trans (driveBlind_pmu.stat s k 0 2 0))).trans hwarned
    · exact ((driveBlind_pwmClk.setFltn _ k _).trans (driveBlind_pwmClk.stat s k _ _ _)).trans hclk
  rw [State.laneEnable, if_neg (by rw [hnot]; exact Bool.false_ne_true)]
  refine ⟨(State.prime_stat _ k 0 2 (by decide)).trans hstate, (State.prime_break _ k).trans (by rw [hnot]; rfl), ?_⟩
  rw [State.prime_group, State.primedAt_congr (s := s) (by rw [State.setFltn_gridAt, State.put_drive]), driveBlind_now.setFltn, State.put_now]

theorem State.laneDisable_rd {a : Nat} (ha : PlainDrive a) (h : a ≠ Reg.DRIVE_G_STAT k) : (s.laneDisable k).rd a = s.rd a := by
  rw [State.laneDisable, State.setLock_rd _ k true ha, State.breakShow_rd _ k a h, State.grpM_rd]
  exact s.rd_put_other _ 3 a h

theorem State.Quiet.laneDisable {s : State} (h : s.Quiet) (k : Fin 12) : (s.laneDisable k).mem = s.mem := by
  have hq : ((s.put (Fd.DRIVE_G_STAT_STATE k) 3).grpM k fun g =>
      { g with slots := [], late := [], priming := none, retrying := false }).Quiet := State.Quiet.of_driveBlind h fun _ ha =>
    ((DriveBlind.rd ha).grpM _ k _).trans ((DriveBlind.rd ha).stat s k _ _ 3)
  rw [State.laneDisable, State.Quiet.setLock (State.Quiet.of_driveBlind hq fun _ ha => (DriveBlind.rd ha).breakShow _ k), driveBlind_mem.breakShow,
    driveBlind_mem.grpM]
  exact driveBlind_mem.stat s k _ _ 3

/-! ### A configuration is stored (R233) -/

theorem State.groupTake_rd {a : Nat} (ha : PlainDrive a) (h : a ≠ Reg.DRIVE_G_STAT k) :
    (s.groupTake k v).rd a = (s.wrN (Reg.DRIVE_G_CFG k) (cut v.toNat 0 3)).rd a := by
  rw [State.groupTake]
  split
  · exact State.laneEnable_rd _ k a h
  · exact same_of_ite (g := fun t : State => t.rd a) (State.laneDisable_rd _ k ha h)

theorem State.groupTake_cfg : (s.groupTake k v).rd (Reg.DRIVE_G_CFG k) = v &&& 7 := by
  rw [s.groupTake_rd k v (plainDrive_cfg k) (cfg_ne_stat k), State.wrN, State.rd_wr, if_pos rfl, ofNat_cut_three]

theorem State.Quiet.groupTake {s : State} (h : s.Quiet) (k : Fin 12) (v : Word) : (s.groupTake k v).mem = s.mem := by
  have hq : (s.wrN (Reg.DRIVE_G_CFG k) (cut v.toNat 0 3)).Quiet :=
    State.Quiet.of_driveBlind h fun _ ha => (DriveBlind.rd ha).wr s _ _ (plainDrive_cfg k).inPwm
  rw [State.groupTake]
  split
  · exact driveBlind_mem.laneEnable _ k
  · exact same_of_ite (g := State.mem) (hq.laneDisable k)

/-- R221: the first enabling of a group whose lane nothing else holds. -/
theorem State.groupTake_enables (hstate : s.get (Fd.DRIVE_G_STAT_STATE k) = 3) (hlane : s.on (Fd.DRIVE_G_CFG_LANEEN k) = false)
    (hv : v.getLsbD 0 = true) : s.groupTake k v = (s.wrN (Reg.DRIVE_G_CFG k) (cut v.toNat 0 3)).laneEnable k := by
  have hkept : (s.wrN (Reg.DRIVE_G_CFG k) (cut v.toNat 0 3)).get (Fd.DRIVE_G_STAT_STATE k) = 3 := by
    refine (State.get_of_rd ?_).trans hstate
    rw [State.wrN, State.rd_wr]
    exact if_neg (cfg_ne_stat k).symm
  exact if_pos (by rw [hv, hlane, hkept]; rfl)

theorem State.wrCfg_lane (hv : v.getLsbD 0 = true) :
    (s.wrN (Reg.DRIVE_G_CFG k) (cut v.toNat 0 3)).on (Fd.DRIVE_G_CFG_LANEEN k) = true := by
  have hodd : v.toNat % 2 = 1 := by simpa [BitVec.getLsbD, Nat.testBit_zero] using hv
  have hget : (s.wrN (Reg.DRIVE_G_CFG k) (cut v.toNat 0 3)).get (Fd.DRIVE_G_CFG_LANEEN k) = 1 := by
    rw [State.get, State.rdN, State.wrN, Fd.DRIVE_G_CFG_LANEEN, State.rd_wr, if_pos rfl, BitVec.toNat_ofNat,
      cut_mod_two_pow _ (by decide : 0 + 1 ≤ 32)]
    exact (cut_mod_two_pow v.toNat (by decide : 0 + 1 ≤ 3)).trans hodd
  rw [State.on, hget]
  rfl

end

end Sys2Proof.Machine

/-! SUPPORT. The refreshes of a bootstrap supply (R225, R226), and the frames' obligation (R216–R226, R233). -/
namespace Sys2Proof.Machine

/-! ### A command that turns both switches off (R203) -/

/-- R203: a leg commanded off, in a unit that is not frozen: what is on goes off. -/
theorem State.legApplyWith_off (s : State) (n : Fin 48) (dead : Bool) (t : Nat) (hcmd : s.legCmd n = (false, false))
    (hfrozen : s.pwm.frozen = false) : ∃ f g, s.legApplyWith n dead t = (((s.legM n f).switchesOff n t).legM n g).heldShow n := by
  unfold State.legApplyWith
  simp only [hcmd, State.legM_on, State.legM_frozen, hfrozen, passes, Bool.false_and, Bool.not_false, Bool.and_true, Bool.false_eq_true,
    if_false, Bool.toNat_false, Nat.add_zero, State.raiseN_zero]
  exact ⟨_, State.heldShow_legM_of_ite ((s.legM n _).switchesOff n t) n _ _ _⟩

theorem State.legApplyWith_off_switch (s : State) (n : Fin 48) (dead : Bool) (t : Nat) (hcmd : s.legCmd n = (false, false))
    (hfrozen : s.pwm.frozen = false) (high : Bool) : (s.legApplyWith n dead t).get (switchFld n high) = 0 := by
  obtain ⟨f, g, happly⟩ := s.legApplyWith_off n dead t hcmd hfrozen
  rw [happly, State.heldShow_switch, State.legM_get, State.switchesOff_switch]

/-! ### A refresh is inserted (R225, R226) -/

theorem switchBlind_drive (n : Fin 48) {a : Nat} (h : 0x40030000 ≤ a) : SwitchBlind n fun s => s.rd a := by
  refine SwitchBlind.rd n ?_ ?_ ?_ <;> simp only [Reg.PWM_LEG_STATE, Reg.PWM_LEG_FLAGS, Ev.PWM_LEG_FLAGS_SHOOT] <;> omega

/-- R225: the refresh that a zero at `z` inserts. -/
def State.refreshOf (s : State) (n : Fin 48) (z : Nat) : Refresh :=
  { onAt := z + s.get (Fd.PWM_LEG_DT_DTF n), offAt := z + s.get (Fd.PWM_LEG_DT_DTF n) + s.refreshW n
    backAt := z + s.get (Fd.PWM_LEG_DT_DTF n) + s.refreshW n + s.get (Fd.PWM_LEG_DT_DTR n) }

/-- R225, R226: the refresh is in progress and counted, before the leg's commands are applied. -/
def State.refreshCounted (s : State) (n : Fin 48) (z : Nat) : State :=
  (s.legM n fun g => { g with refresh := some (s.refreshOf n z), turnOn := none }).inc32 (Reg.DRIVE_LEG_RFCNT n)

/-- R226: the same, with RFWIDE where RFW is below MINP. -/
def State.refreshShown (s : State) (n : Fin 48) (z : Nat) : State :=
  (s.refreshCounted n z).raiseIf (decide ((s.refreshCounted n z).get (Fd.DRIVE_LEG_HS_RFW n) < (s.refreshCounted n z).minp n))
    (driveFlag (n.val / 4) 4)

theorem State.refreshStart_eq (s : State) (n : Fin 48) (z : Nat) : s.refreshStart n z = (s.refreshShown n z).legApplyWith n false z := rfl

section
variable (s : State) (n : Fin 48) (z : Nat)

theorem State.refreshCounted_rd (a : Nat) : (s.refreshCounted n z).rd a =
    if a = Reg.DRIVE_LEG_RFCNT n then s.rd (Reg.DRIVE_LEG_RFCNT n) + 1 else s.rd a := by
  rw [State.refreshCounted, State.inc32, State.wrN, State.rd_wr, State.legM_rd, State.rdN, State.legM_rd]
  refine congrArg (ite _ · _) (BitVec.eq_of_toNat_eq ?_)
  rw [BitVec.toNat_ofNat, BitVec.toNat_add]
  rfl

theorem State.refreshCounted_get (f : Fld) (h : f.addr ≠ Reg.DRIVE_LEG_RFCNT n) : (s.refreshCounted n z).get f = s.get f :=
  State.get_of_rd ((s.refreshCounted_rd n z f.addr).trans (if_neg h))

@[simp] theorem State.refreshShown_pwm : (s.refreshShown n z).pwm = (s.refreshCounted n z).pwm := State.raiseIf_pwm _ _ _

/-- R226: RFWIDE, where RFW is below MINP. -/
theorem State.refreshShown_wide (h : s.get (Fd.DRIVE_LEG_HS_RFW n) < s.minp n) :
    (s.refreshShown n z).flag (driveFlag (n.val / 4) 4) = true := by
  have hwide : (s.refreshCounted n z).get (Fd.DRIVE_LEG_HS_RFW n) < (s.refreshCounted n z).minp n := by
    rw [State.minp, s.refreshCounted_get, s.refreshCounted_get]
    · exact h
    · simp only [Reg.DRIVE_LEG_RFCNT, Fd.PWM_LEG_MINP_MINP, Reg.PWM_LEG_MINP]
      omega
    · simp only [Reg.DRIVE_LEG_RFCNT, Fd.DRIVE_LEG_HS_RFW, Reg.DRIVE_LEG_HS]
      omega
  rw [State.refreshShown, decide_eq_true hwide, State.raiseIf, if_pos rfl]
  exact State.flag_raise_drive _ (by omega) (by decide)

theorem State.refreshShown_plain {a : Nat} (ha : PlainDrive a) : (s.refreshShown n z).rd a = (s.refreshCounted n z).rd a :=
  State.rd_raiseIf_drive _ _ (by omega) (by decide) ha

theorem State.refreshShown_count : (s.refreshShown n z).rd (Reg.DRIVE_LEG_RFCNT n) = s.rd (Reg.DRIVE_LEG_RFCNT n) + 1 := by
  rw [s.refreshShown_plain, s.refreshCounted_rd, if_pos rfl]
  simp only [PlainDrive, Reg.DRIVE_LEG_RFCNT]
  omega

theorem State.refreshShown_below {a : Nat} (h : a < 0x40030000) : (s.refreshShown n z).rd a = s.rd a := by
  have hraise (u : State) (b : Bool) : (u.raiseIf b (driveFlag (n.val / 4) 4)).rd a = u.rd a := by
    unfold State.raiseIf
    refine same_of_ite (g := fun u : State => u.rd a) (u.rd_raise_other _ a ?_ ?_) <;>
      simp only [driveFlag, Reg.DRIVE_G_FLAGS, Reg.DRIVE_G_EVCNT] <;> omega
  rw [State.refreshShown, hraise, s.refreshCounted_rd, if_neg]
  simp only [Reg.DRIVE_LEG_RFCNT]
  omega

end

/-- R225: what decides whether a refresh acts on a leg. -/
theorem State.refreshActs_congr {s t : State} (n : Fin 48) (hrd : ∀ a < 0x40030000, t.rd a = s.rd a)
    (hcar : t.pwm.carriers = s.pwm.carriers) (hforced : t.pwm.legs[n].forced = s.pwm.legs[n].forced)
    (hwaits : t.pwm.legs[n].waits = s.pwm.legs[n].waits) (hsafe : t.pwm.legs[n].waitSafe = s.pwm.legs[n].waitSafe) :
    t.refreshActs n = s.refreshActs n := by
  have hcfg := hrd (Reg.PWM_LEG_CFG n) (by simp only [Reg.PWM_LEG_CFG]; omega)
  have hstate := hrd (Reg.PWM_LEG_STATE n) (by simp only [Reg.PWM_LEG_STATE]; omega)
  have hctrl := hrd Reg.PWM_CTRL (by decide)
  have hstatus := hrd Reg.PWM_STATUS (by decide)
  have hfstat := hrd Reg.PWM_FSTAT (by decide)
  simp only [State.refreshActs, State.isOff, State.carOf, State.on, State.get, State.rdN, Fd.PWM_LEG_CFG_EN, Fd.PWM_STATUS_HUWAIT,
    Fd.PWM_CTRL_OUTEN, Fd.PWM_LEG_CFG_CAR, Fd.PWM_LEG_CFG_MODE, Fd.PWM_LEG_STATE_GUARDED, Fd.PWM_LEG_CFG_SAFE, Fd.PWM_FSTAT_PFW, hcfg, hstate,
    hctrl, hstatus, hfstat, hcar, hforced, hwaits, hsafe]
  rfl

section
variable (s : State) (n : Fin 48) (z : Nat)

theorem State.refreshShown_leg : (s.refreshShown n z).pwm.legs[n] = { s.pwm.legs[n] with refresh := some (s.refreshOf n z), turnOn := none } := by
  rw [State.refreshShown_pwm, State.refreshCounted, State.inc32_pwm]
  exact s.legM_leg n _

theorem State.refreshShown_acts : (s.refreshShown n z).refreshActs n = s.refreshActs n := by
  refine State.refreshActs_congr n (fun a ha => s.refreshShown_below n z ha) ?_ ?_ ?_ ?_
  · rw [State.refreshShown_pwm]
    rfl
  all_goals rw [State.refreshShown_leg]

/-- R225: the first step of a refresh commands both switches off. -/
theorem State.refreshShown_cmd (h : s.refreshActs n = true) : (s.refreshShown n z).legCmd n = (false, false) := by
  have hacts := (s.refreshShown_acts n z).trans h
  have hrefresh : (s.refreshShown n z).pwm.legs[n].refresh = some (s.refreshOf n z) := congrArg Leg.refresh (s.refreshShown_leg n z)
  simp only [State.legCmd, hrefresh, hacts, Option.isSome_some, Bool.and_self, if_true]
  split <;> rfl

theorem State.refreshStart_high (hacts : s.refreshActs n = true) (hruns : s.pwmRuns = true) :
    (s.refreshStart n z).get (Fd.PWM_LEG_STATE_H n) = 0 := by
  have hfrozen : (s.refreshShown n z).pwm.frozen = false := by
    rw [State.refreshShown_pwm, State.refreshCounted, State.inc32_pwm, State.legM_frozen]
    exact (Bool.not_eq_true' _).mp (Bool.and_eq_true_iff.mp hruns).2
  rw [State.refreshStart_eq]
  exact State.legApplyWith_off_switch _ n false z (s.refreshShown_cmd n z hacts) hfrozen true

theorem State.refreshStart_refresh : (s.refreshStart n z).pwm.legs[n].refresh = some (s.refreshOf n z) := by
  have hhold := (s.refreshShown n z).legHold_legApplyWith n n false z
  exact (congrArg Prod.snd hhold).trans (congrArg Leg.refresh (s.refreshShown_leg n z))

theorem State.refreshStart_drive {a : Nat} (h : 0x40030000 ≤ a) : (s.refreshStart n z).rd a = (s.refreshShown n z).rd a :=
  (switchBlind_drive n h).legApplyWith _ false z

theorem PwmBlind.refreshStart {β : Type} {g : State → β} (h : PwmBlind g) : g (s.refreshStart n z) = g s := by
  have hraise (u : State) (b : Bool) : g (u.raiseIf b (driveFlag (n.val / 4) 4)) = g u := by
    refine h.raiseIf u b _ ?_ ?_ <;> simp only [InPwm, driveFlag, Reg.DRIVE_G_FLAGS, Reg.DRIVE_G_EVCNT] <;> omega
  have hcount : g (s.refreshCounted n z) = g s := (h.wr _ _ _ (by simp only [InPwm, Reg.DRIVE_LEG_RFCNT]; omega)).trans (h.legM s n _)
  rw [State.refreshStart_eq, h.legApplyWith, State.refreshShown, hraise, hcount]

end

/-! ### The steps of a refresh (R225) -/

theorem State.legApplyWith_refresh (s : State) (n : Fin 48) (dead : Bool) (t : Nat) :
    (s.legApplyWith n dead t).pwm.legs[n].refresh = s.pwm.legs[n].refresh := congrArg Prod.snd (s.legHold_legApplyWith n n dead t)

/-- R225: a refresh is inserted at the zero that has been counted. -/
theorem State.bootstrapRefresh_inserts (s : State) (n : Fin 48) (hnone : s.pwm.legs[n].refresh = none) (hneeds : s.needsRefresh n = true)
    (hseen : s.pwm.legs[n].zeroSeen = true) (hzeros : max 1 (s.get (Fd.DRIVE_LEG_HS_K n)) ≤ s.pwm.legs[n].zeros) :
    ∃ z, s.now < z + 40 ∧ z ≤ s.now ∧ s.bootstrapRefresh n = s.refreshStart n z := by
  simp only [State.bootstrapRefresh, hnone, hneeds, hseen, hzeros, Bool.not_true, Bool.toNat_false, Nat.add_zero, Bool.true_and, decide_true,
    if_true, Bool.false_eq_true, if_false]
  have hbound (past : Nat) : s.now < (if past < 40 then s.now - past else s.now) + 40 ∧ (if past < 40 then s.now - past else s.now) ≤ s.now := by
    split_ifs <;> omega
  exact ⟨_, (hbound _).1, (hbound _).2, rfl⟩

theorem State.bootstrapRefresh_steps (s : State) (n : Fin 48) (r : Refresh) (h : s.pwm.legs[n].refresh = some r) (hruns : s.pwmRuns = true) :
    s.bootstrapRefresh n = s.refreshStep n r := by
  simp only [State.bootstrapRefresh, h, hruns, if_true]

/-- R225: the first step: the low switch goes on. -/
theorem State.refreshStep_lowOn (s : State) (n : Fin 48) (r : Refresh) (h : r.step = 1) :
    (s.refreshStep n r).pwm.legs[n].refresh = some { r with step := 2 } ∧ r.onAt ≤ (s.refreshStep n r).now ∧ (s.refreshStep n r).mem = s.mem := by
  have hstep : s.refreshStep n r =
      ((s.reachNow r.onAt).legM n fun g => { g with refresh := some { r with step := 2 } }).legApplyWith n false r.onAt := by
    simp only [State.refreshStep, h]
  rw [hstep, State.legApplyWith_refresh, State.legM_leg, pwmBlind_now.legApplyWith, pwmBlind_mem.legApplyWith]
  exact ⟨rfl, s.le_reachNow_now _, s.advance_mem _⟩

/-- R225: the last step: REF takes effect again. -/
theorem State.refreshStep_back (s : State) (n : Fin 48) (r : Refresh) (h : r.step = 3) : ∃ u : State,
    s.refreshStep n r = u.legApplyWith n false r.backAt ∧ u.pwm.legs[n].refresh = none ∧ u.now = (s.reachNow r.backAt).now ∧
      u.mem = (s.reachNow r.backAt).mem := by
  simp only [State.refreshStep, h]
  refine ⟨_, rfl, ?_⟩
  split
  · rw [State.legM_leg]
    exact ⟨rfl, rfl, rfl⟩
  · rw [State.legM_leg]
    exact ⟨rfl, rfl, rfl⟩

/-! ### The obligation -/

/-- Settles O41: each command is brought to the state that its lemma names, and that state's laws give the clause. -/
theorem driveFrames : Obligations.DriveFrames := by
  unfold Obligations.DriveFrames
  refine ⟨?fields, ?sends, ?waits, ?refreshes, ?codeTaken, ?codeLost, ?refused, ?stored, ?enabled, ?inserted, ?lowOn, ?back⟩
  case fields =>
    intro leg low off cpen ka step
    obtain ⟨hlt, htop, hleg, hlow, hoff, hstep, hcpen, hka, hzero⟩ := frameWord_fields leg low off step cpen ka
    obtain ⟨q, hq, hdiv⟩ := frameWord_divides leg low off step cpen ka
    refine ⟨hlt, htop, hleg.trans (Nat.mod_eq_of_lt leg.isLt), hlow, hoff, hstep.trans (Nat.mod_eq_of_lt step.isLt), hcpen, hka, hzero, ⟨q, hq⟩, ?_⟩
    rw [crcTimes_eq_foldl q 10, Nat.mod_eq_of_lt hq, hdiv]
  case sends =>
    intro k p l s hopen hslots hp hlate
    obtain ⟨cpen, hgroup⟩ := (s.laneFree k 0).sendFrame_group k p false
    obtain ⟨hstep, hka⟩ := (s.laneFree k 0).startedFrame_step k p cpen false
    have hnow : ((s.laneFree k 0).sendFrame k p false).now = (s.laneFree k 0).now := driveBlind_now.sendFrame _ k p false hp
    have hold : (s.laneFree k 0).drive.groups[k].slots = p :: l := by rw [State.laneFree_drive, hslots]
    refine ⟨_, congrArg Host.Outcome.next (s.dslFrameSend_sends k p l hopen hslots hlate), ?_, hnow, ?_, ?_, ?_, ?_, ?_⟩
    · rw [hgroup]
      exact (congrArg (·.erase p) hold).trans (List.erase_cons_head p l)
    · rw [hgroup, hnow]
      rfl
    · rw [hgroup, hnow]
      rfl
    · rw [hgroup, ← s.laneFree_rdN k 0]
      exact congrArg some (Prod.ext hstep (Prod.ext (State.startedFrame_pair _ k p cpen false hp) hka))
    · exact (State.sendFrame_sent _ k p false).trans (by rw [State.laneFree_rdN])
    · exact (driveBlind_mem.sendFrame _ k p false hp).trans (s.laneFree_mem k 0)
  case waits =>
    intro k p l s hopen hslots hlate hnew
    have hdrive : ((s.laneFree k 0).raise (driveFlag k 3)).drive = s.drive := by rw [State.raise_drive, State.laneFree_drive]
    have hwaits := (s.laneFree k 0).frameWaits_of_new k p (by rwa [State.laneFree_drive])
    have hgroup : (((s.laneFree k 0).raise (driveFlag k 3)).grpM k fun g => { g with late := p :: g.late }).drive.groups[k] =
        { s.drive.groups[k] with late := p :: s.drive.groups[k].late } := by rw [State.grpM_group, hdrive]
    refine ⟨_, congrArg Host.Outcome.next ((s.dslFrameSend_waits k p l hopen hslots hlate).trans hwaits), ?_, ?_, ?_, ?_, ?_, ?_⟩
    · rw [hgroup, hslots]
    · exact (State.grpM_flag _ k _ _).trans (State.flag_raise_drive _ k.isLt (by decide))
    · rw [hgroup]
    · rw [hgroup]
    · exact (driveBlind_now.grpM _ k _).trans (State.raise_now _ _)
    · exact (driveBlind_mem.grpM _ k _).trans ((State.raise_mem _ _).trans (s.laneFree_mem k 0))
  case refreshes =>
    intro k s hopen hslots hpair hlate
    obtain ⟨cpen, hgroup⟩ := (s.laneFree k (10 * tUs)).sendFrame_group k s.drive.groups[k].refresh true
    obtain ⟨hstep, hka⟩ := (s.laneFree k (10 * tUs)).startedFrame_step k s.drive.groups[k].refresh cpen true
    have hblind {β : Type} {g : State → β} (h : DriveBlind g) : g ((s.laneFree k (10 * tUs)).refreshSent k s.drive.groups[k].refresh) =
        g (s.laneFree k (10 * tUs)) := (h.grpM _ k _).trans (h.sendFrame _ k _ true hpair)
    refine ⟨_, congrArg Host.Outcome.next (s.dslRefresh_sends k hopen hslots hlate), ?_, hblind driveBlind_now, ?_, ?_⟩
    · rw [State.refreshSent, State.grpM_group, hgroup]
      exact congrArg (fun d : Drive => (d.groups[k].refresh + 1) % 16) (s.laneFree_drive k _)
    · rw [hblind driveBlind_now, State.refreshSent, State.grpM_group, hgroup, ← s.laneFree_rdN k (10 * tUs)]
      exact congrArg some (Prod.ext rfl (Prod.ext hka hstep))
    · exact (hblind driveBlind_mem).trans (s.laneFree_mem k _)
  case codeTaken =>
    intro n v i s hclk hland hrel
    obtain ⟨legs, x, hwrite⟩ := s.codeWrite_alone n v hclk hland hrel
    refine ⟨_, congrArg Host.Outcome.next hwrite, State.codeTake_code _ n v, fun a ha => ?_, fun hchanged => ?_, ?_⟩
    · exact (State.codeTake_rd_other _ n v a (by simpa using ha)).trans (s.advance_rd 2 a)
    · have hgroup : Fin.ofNat 12 (n.val / 4) = ⟨n.val / 4, by omega⟩ := Fin.ext (Nat.mod_eq_of_lt (by omega))
      have hslot := (s.advance 2).codeTake_slot n v i (by rwa [State.advance_rdN])
      rw [hgroup] at hslot
      exact hslot
    · exact (State.codeTake_mem _ n v).trans (s.advance_mem 2)
  case codeLost =>
    intro n v s hclk hrel hleg
    refine ⟨_, congrArg Host.Outcome.next (s.codeWrite_lost n v hclk hrel hleg), ?_, ?_, s.raise_drive _, s.raise_mem _⟩
    · exact s.rd_raise_drive (by omega) (by decide) (plainDrive_code n)
    · exact s.flag_raise_drive (by omega) (by decide)
  case refused =>
    intro k v i s hclk hland hpol hen
    refine ⟨_, congrArg Host.Outcome.next (s.groupCfg_refused k v i hclk hland hpol hen), ?_, State.flag_raise_drive _ k.isLt (by decide), ?_, ?_⟩
    · exact (State.rd_raise_drive _ k.isLt (by decide) (plainDrive_cfg k)).trans (s.advance_rd 2 _)
    · rw [State.raise_drive, State.advance_drive]
    · rw [State.raise_mem, State.advance_mem]
  case stored =>
    intro k v s hclk hland hen
    refine ⟨_, congrArg Host.Outcome.next (s.groupCfg_taken k v hclk hland hen), State.groupTake_cfg _ k v, fun hquiet => ?_⟩
    exact (State.Quiet.groupTake (State.Quiet.advance hquiet.1 2) k v).trans (s.advance_mem 2)
  case enabled =>
    intro k v s hclk hland hen hstate hlane hv hwarned hreports
    have htake := (s.advance 2).groupTake_enables k v ((s.advance_get 2 _).trans hstate) ((s.advance_on 2 _).trans hlane) hv
    have hcfg : InPwm (Reg.DRIVE_G_CFG k) := (plainDrive_cfg k).inPwm
    obtain ⟨hzero, hbreak, hpriming⟩ := ((s.advance 2).wrN (Reg.DRIVE_G_CFG k) (cut v.toNat 0 3)).laneEnable_primes k
      ((s.advance 2).wrCfg_lane k v hv) ((driveBlind_pwmClk.wr _ _ _ hcfg).trans ((s.advance_pwmClk 2).trans hclk))
      ((congrArg Pmu.warned (s.advance_pmu 2)).trans hwarned) ((congrArg (·.groups[k].reports) (s.advance_drive 2)).trans hreports)
    refine ⟨_, congrArg Host.Outcome.next ((s.groupCfg_taken k v hclk hland hen).trans htake), hzero, hbreak, ?_, ?_⟩
    · have hgrid := State.primedAt_congr (t := (s.advance 2).wrN (Reg.DRIVE_G_CFG k) (cut v.toNat 0 3)) (congrArg Drive.gridAt (s.advance_drive 2))
      rw [hpriming, hgrid]
      exact congrArg (fun x => some (s.primedAt x)) (s.advance_now 2)
    · exact (driveBlind_mem.laneEnable _ k).trans (s.advance_mem 2)
  case inserted =>
    intro n s hnone hneeds hseen hzeros
    obtain ⟨z, hlow, hhigh, hstart⟩ := s.bootstrapRefresh_inserts n hnone hneeds hseen hzeros
    obtain ⟨hruns, hacts⟩ : s.pwmRuns = true ∧ s.refreshActs n = true := by
      simp only [State.needsRefresh, Bool.and_eq_true] at hneeds
      exact ⟨hneeds.1.2, hneeds.2⟩
    refine ⟨_, congrArg Host.Outcome.next hstart, ?_, fun hwide => ?_, ?_, s.refreshStart_high n z hacts hruns, pwmBlind_now.refreshStart s n z,
      pwmBlind_mem.refreshStart s n z⟩
    · rw [s.refreshStart_drive n z (by simp only [Reg.DRIVE_LEG_RFCNT]; omega), s.refreshShown_count]
    · refine (State.on_of_get (State.get_of_rd (s.refreshStart_drive n z ?_))).trans (s.refreshShown_wide n z hwide)
      simp only [Ev.DRIVE_G_FLAGS_RFWIDE, Reg.DRIVE_G_FLAGS]
      omega
    · rw [s.refreshStart_refresh, Option.any_some, decide_eq_true_iff]
      refine ⟨rfl, rfl, ?_, ?_⟩ <;> simp only [State.refreshOf] <;> omega
  case lowOn =>
    intro n r s hrefresh hruns hstep
    obtain ⟨hnext, hnow, hmem⟩ := s.refreshStep_lowOn n r hstep
    refine ⟨_, congrArg Host.Outcome.next (s.bootstrapRefresh_steps n r hrefresh hruns), ?_, hnow, hmem⟩
    rw [hnext]
    rfl
  case back =>
    intro n r s hrefresh hruns hstep
    obtain ⟨u, hu, hnone, hnow, hmem⟩ := s.refreshStep_back n r hstep
    refine ⟨_, congrArg Host.Outcome.next ((s.bootstrapRefresh_steps n r hrefresh hruns).trans hu), ?_, ?_, ?_⟩
    · rw [State.legApplyWith_refresh, hnone]
    · rw [pwmBlind_now.legApplyWith, hnow]
      exact s.le_reachNow_now _
    · rw [pwmBlind_mem.legApplyWith, hmem]
      exact s.advance_mem _

end Sys2Proof.Machine

/-! SUPPORT. Disturbance capture (R254–R256): words written to memory one after the other, the writes of a record to the MRAM, and
what each command of capture does. -/
namespace Sys2Proof.Machine

/-! ### Words in memory (R6) -/

/-- R6: a read of bytes just written gives their number back, as far as it fits in them. -/
theorem Memory.readLE_writeLE_same (n : Nat) : ∀ (m : List (Nat × Byte)) (a v : Nat),
    Memory.readLE (Memory.writeLE m a n v) a n = v % 256 ^ n := by
  induction n with
  | zero => intro m a v; rw [pow_zero, Nat.mod_one]; rfl
  | succ n ih =>
    intro m a v
    have hbyte : Memory.read (Memory.writeLE (Memory.write m a (BitVec.ofNat 8 v)) (a + 1) n (v / 256)) a = BitVec.ofNat 8 v := by
      rw [Memory.read_writeLE_of_outside n _ _ _ _ (by omega), Memory.read_write, if_pos rfl]
    rw [Memory.readLE, Memory.writeLE, hbyte, ih, BitVec.toNat_ofNat, pow_succ' 256 n, Nat.mod_mul]

theorem Memory.readLE_congr {m m' : List (Nat × Byte)} (n : Nat) : ∀ a : Nat,
    (∀ b, a ≤ b → b < a + n → Memory.read m' b = Memory.read m b) → Memory.readLE m' a n = Memory.readLE m a n := by
  induction n with
  | zero => intro a _; rfl
  | succ n ih =>
    intro a h
    rw [Memory.readLE, Memory.readLE, h a (by omega) (by omega), ih (a + 1) fun b hlow hhigh => h b (by omega) (by omega)]

theorem State.memRd_memWr_word (s : State) (a v : Nat) : (s.memWr a 4 v).memRd a 4 = v % 2 ^ 32 :=
  Memory.readLE_writeLE_same 4 s.mem a v

theorem State.memWr_sameMemoryBut (s : State) (a n v : Nat) : SameMemoryBut a n s (s.memWr a n v) :=
  fun b hb => Memory.read_writeLE_of_outside n s.mem a v b hb

theorem SameMemoryBut.trans {a n : Nat} {s t u : State} (h1 : SameMemoryBut a n s t) (h2 : SameMemoryBut a n t u) :
    SameMemoryBut a n s u := fun b hb => (h2 b hb).trans (h1 b hb)

theorem SameMemoryBut.widen {a n c k : Nat} {s t : State} (h : SameMemoryBut a n s t) (hlow : c ≤ a) (hhigh : a + n ≤ c + k) :
    SameMemoryBut c k s t := fun b hb => h b (by omega)

/-- A read beside the bytes that changed. -/
theorem SameMemoryBut.memRd {a n : Nat} {s t : State} (h : SameMemoryBut a n s t) (c k : Nat) (hd : c + k ≤ a ∨ a + n ≤ c) :
    t.memRd c k = s.memRd c k :=
  Memory.readLE_congr k c fun b hlow hhigh => h b (by omega)

/-- Writing words changes memory alone. -/
theorem State.memWords_eq (l : List Nat) : ∀ (s : State) (a : Nat), s.memWords a l = { s with mem := (s.memWords a l).mem } := by
  induction l with
  | nil => intro s a; rfl
  | cons w l ih => intro s a; exact ih (s.memWr a 4 w) (a + 4)

@[simp] theorem State.memWords_prot (s : State) (a : Nat) (l : List Nat) : (s.memWords a l).prot = s.prot := by
  rw [State.memWords_eq]

@[simp] theorem State.memWords_rd (s : State) (a : Nat) (l : List Nat) (x : Nat) : (s.memWords a l).rd x = s.rd x := by
  rw [State.memWords_eq, State.rd, State.rd]

theorem State.memWords_sameMemoryBut (l : List Nat) : ∀ (s : State) (a : Nat), SameMemoryBut a (4 * l.length) s (s.memWords a l) := by
  induction l with
  | nil => intro s a b _; rfl
  | cons w l ih =>
    intro s a
    rw [List.length_cons]
    exact ((s.memWr_sameMemoryBut a 4 w).widen (by omega) (by omega)).trans ((ih (s.memWr a 4 w) (a + 4)).widen (by omega) (by omega))

/-- Each word reads as it was written. -/
theorem State.memRd_memWords (l : List Nat) : ∀ (s : State) (a i : Nat) (hi : i < l.length),
    (s.memWords a l).memRd (a + 4 * i) 4 = l[i] % 2 ^ 32 := by
  induction l with
  | nil => intro s a i hi; exact absurd hi (by simp)
  | cons w l ih =>
    intro s a i hi
    cases i with
    | zero => exact ((State.memWords_sameMemoryBut l _ (a + 4)).memRd a 4 (by omega)).trans (s.memRd_memWr_word a w)
    | succ i =>
      rw [show a + 4 * (i + 1) = a + 4 + 4 * i by omega]
      exact ih (s.memWr a 4 w) (a + 4) i (Nat.lt_of_succ_lt_succ hi)

theorem State.memWr_mem_congr {s t : State} (h : t.mem = s.mem) (a n v : Nat) : (t.memWr a n v).mem = (s.memWr a n v).mem := by
  simp only [State.memWr, h]

theorem State.memWords_mem_congr (l : List Nat) : ∀ {s t : State} (a : Nat), t.mem = s.mem →
    (t.memWords a l).mem = (s.memWords a l).mem := by
  induction l with
  | nil => intro s t a h; exact h
  | cons w l ih => intro s t a h; exact ih (a + 4) (State.memWr_mem_congr h a 4 w)

/-! ### Words in the MRAM (R485, R486) -/

/-- The registers that change as MRAMC accepts a write and makes it durable. -/
def mramRegs : List Nat := [Reg.MRAMC_WRITES_LO, Reg.MRAMC_STATUS, Reg.MRAMC_SPREAD, Reg.MON_MRAMWEAR]

/-- What writes to the MRAM leave: PROT, and every register that does not show MRAMC. -/
structure MramOnly (s t : State) : Prop where
  prot : t.prot = s.prot
  regs : SameRegistersBut mramRegs s t

theorem MramOnly.trans {s t u : State} (h1 : MramOnly s t) (h2 : MramOnly t u) : MramOnly s u :=
  ⟨h2.prot.trans h1.prot, h1.regs.trans h2.regs⟩

theorem MramOnly.put (s : State) (f : Fld) (v : Nat) (hf : f.addr ∈ mramRegs) : MramOnly s (s.put f v) :=
  ⟨rfl, fun a ha => s.rd_put_other f v a fun h => ha (h ▸ hf)⟩

theorem State.wearShow_mramOnly (s : State) : MramOnly s s.wearShow :=
  (MramOnly.put s Fd.MRAMC_SPREAD_WRITES _ (by decide)).trans (MramOnly.put _ Fd.MON_MRAMWEAR_PPM _ (by decide))

@[simp] theorem State.wearShow_mem (s : State) : s.wearShow.mem = s.mem := rfl

theorem State.mramAccept_mramOnly (s : State) (a : Nat) : MramOnly s (s.mramAccept a) := by
  have hstamp (u : State) (v : Nat) : MramOnly u (u.setStamp Reg.MRAMC_WRITES_LO v) :=
    ⟨rfl, fun a ha => u.rd_setStamp_other _ v a fun h => ha (h ▸ by decide)⟩
  have hpages (f : Mramc → Mramc) : MramOnly s (s.mramM f) := ⟨rfl, fun _ _ => rfl⟩
  exact ((((hpages _).trans (hstamp _ _)).trans (MramOnly.put _ Fd.MRAMC_STATUS_DEPTH _ (by decide))).trans
    (MramOnly.put _ Fd.MRAMC_STATUS_BUSY _ (by decide))).trans (State.wearShow_mramOnly _)

@[simp] theorem State.mramAccept_mem (s : State) (a : Nat) : (s.mramAccept a).mem = s.mem := by
  simp [State.mramAccept]

/-- R485: a write to the MRAM is accepted, or waits for the end of a page's move. -/
theorem State.mramWrite_cases (s : State) (a n v : Nat) :
    s.mramWrite a n v = (s.memWr a n v).mramAccept a ∨ ∃ f, s.mramWrite a n v = (s.memWr a n v).mramM f := by
  unfold State.mramWrite
  simp only []
  split
  · split
    · exact .inr ⟨_, rfl⟩
    · exact .inl rfl
  · exact .inl rfl

theorem State.mramWrite_mem (s : State) (a n v : Nat) : (s.mramWrite a n v).mem = (s.memWr a n v).mem := by
  obtain h | ⟨f, h⟩ := s.mramWrite_cases a n v
  · rw [h, State.mramAccept_mem]
  · rw [h, State.mramM_mem]

theorem State.mramWrite_mramOnly (s : State) (a n v : Nat) : MramOnly s (s.mramWrite a n v) := by
  have hmem : MramOnly s (s.memWr a n v) := ⟨rfl, fun _ _ => rfl⟩
  obtain h | ⟨f, h⟩ := s.mramWrite_cases a n v
  · rw [h]; exact hmem.trans (State.mramAccept_mramOnly _ a)
  · rw [h]; exact ⟨hmem.prot, hmem.regs⟩

theorem State.mramWords_mem (l : List Nat) : ∀ (s : State) (a : Nat), (s.mramWords a l).mem = (s.memWords a l).mem := by
  induction l with
  | nil => intro s a; rfl
  | cons w l ih => intro s a; exact (ih _ (a + 4)).trans (State.memWords_mem_congr l (a + 4) (s.mramWrite_mem a 4 w))

theorem State.mramWords_mramOnly (l : List Nat) : ∀ (s : State) (a : Nat), MramOnly s (s.mramWords a l) := by
  induction l with
  | nil => intro s a; exact ⟨rfl, fun _ _ => rfl⟩
  | cons w l ih => intro s a; exact (s.mramWrite_mramOnly a 4 w).trans (ih _ (a + 4))

theorem State.mramFlush_mem (s : State) : s.mramFlush.mem = s.mem := by
  unfold State.mramFlush
  simp only []
  split <;> rfl

theorem State.mramFlush_mramOnly (s : State) : MramOnly s s.mramFlush := by
  have hdepth := MramOnly.put s Fd.MRAMC_STATUS_DEPTH 0 (by decide)
  unfold State.mramFlush
  simp only []
  split
  · exact hdepth.trans (MramOnly.put _ Fd.MRAMC_STATUS_BUSY 0 (by decide))
  · exact hdepth

/-- What a state's memory keeps, every state with that memory keeps. -/
theorem SameMemoryBut.of_mem_eq {a n : Nat} {s t u : State} (h : SameMemoryBut a n s t) (hmem : u.mem = t.mem) :
    SameMemoryBut a n s u := fun b hb => by rw [hmem]; exact h b hb

theorem State.memRd_of_mem_eq {s t : State} (h : t.mem = s.mem) (a n : Nat) : t.memRd a n = s.memRd a n := by
  rw [State.memRd, h, State.memRd]

/-! ### Capture's own state (R254) -/

@[simp] theorem State.capM_capture (s : State) (f : Capture → Capture) : (s.capM f).prot.capture = f s.prot.capture := rfl

theorem State.capM_congr {s : State} {f g : Capture → Capture} (h : f s.prot.capture = g s.prot.capture) : s.capM f = s.capM g := by
  simp only [State.capM, State.protM, h]

/-- Capture's own state is no register. -/
theorem SameRegistersBut.capM {l : List Nat} {s t : State} (h : SameRegistersBut l s t) (f : Capture → Capture) :
    SameRegistersBut l s (t.capM f) := h

theorem State.raise_sameRegistersBut (s : State) (e : EvFlag) : SameRegistersBut [e.addr, e.cnt] s (s.raise e) := by
  intro a ha
  rw [List.mem_pair, not_or] at ha
  exact s.rd_raise_other e a ha.1 ha.2

theorem State.flag_dclost (s : State) : (s.raise Ev.PROT_FLAGS_DCLOST).flag Ev.PROT_FLAGS_DCLOST = true :=
  s.flag_raise _ (by decide) (by decide)

@[simp] theorem State.advance_prot (s : State) (k : Nat) : (s.advance k).prot = s.prot := by
  obtain ⟨b, p, h, -⟩ := s.advance_eq k; rw [h]

@[simp] theorem State.advance_samples (s : State) (k : Nat) : (s.advance k).samples = s.samples := by
  obtain ⟨b, p, h, -⟩ := s.advance_eq k; rw [h]

/-! ### Arming and triggers (R254, R255) -/

section Commands
variable {s : State}

theorem State.dcArm_of_refused (hen : s.on Fd.PROT_DCCFG_EN = true) (hidle : s.get Fd.PROT_DCSTAT_STATE = 0)
    (hrefused : s.capRefused = true) : s.dcArm = s.raise Ev.PROT_FLAGS_DCLOST := by
  simp only [State.dcArm, hen, hidle, hrefused, Bool.not_true, bne_self_eq_false, Bool.or_self, Bool.false_eq_true, if_false, if_true]

theorem State.dcArm_of_taken (hen : s.on Fd.PROT_DCCFG_EN = true) (hidle : s.get Fd.PROT_DCSTAT_STATE = 0)
    (htaken : s.capRefused = false) : s.dcArm = s.capArm := by
  simp only [State.dcArm, hen, hidle, htaken, Bool.not_true, bne_self_eq_false, Bool.or_self, Bool.false_eq_true, if_false]

theorem State.capArm_sameRegistersBut (s : State) : SameRegistersBut [Reg.PROT_DCSTAT] s s.capArm := by
  unfold State.capArm
  exact ((s.put_sameRegistersBut Fd.PROT_DCSTAT_STATE 1).trans (State.put_sameRegistersBut _ Fd.PROT_DCSTAT_FILL 0)).capM _

theorem State.capArm_state (s : State) : s.capArm.get Fd.PROT_DCSTAT_STATE = 1 := by
  rw [State.capArm, State.capM_get, State.get_put_apart _ _ _ _ (by decide) (by decide), State.get_put_within _ _ _ (by decide)]
  rfl

theorem State.capArm_fill (s : State) : s.capArm.get Fd.PROT_DCSTAT_FILL = 0 := by
  rw [State.capArm, State.capM_get, State.get_put_within _ _ _ (by decide)]
  rfl

/-- R254: arming leaves RATE and NCH as it takes them. -/
theorem State.capArm_settings (s : State) :
    s.capArm.prot.capture.rate = s.get Fd.PROT_DCCFG_RATE ∧ s.capArm.prot.capture.nch = s.get Fd.PROT_DCCFG_NCH := by
  have hsame := (s.put_sameRegistersBut Fd.PROT_DCSTAT_STATE 1).trans (State.put_sameRegistersBut _ Fd.PROT_DCSTAT_FILL 0)
  rw [State.capArm, State.capM_capture]
  exact ⟨hsame.get Fd.PROT_DCCFG_RATE (by decide), hsame.get Fd.PROT_DCCFG_NCH (by decide)⟩

/-- R255: the trigger of an armed capture: its instant, cause and region, and the frames before and after it. -/
def Capture.triggered (c : Capture) (s : State) (cause : Nat) : Capture :=
  { c with trig := s.tbl.count, cause := cause, region := s.get Fd.PROT_STATUS_REGION
           pre := min (s.get Fd.PROT_DCPRE_FRAMES) c.frames
           post := s.get Fd.PROT_DCPOST_FRAMES, left := s.get Fd.PROT_DCPOST_FRAMES }

theorem State.capTrigger_of_armed (cause : Nat) (harmed : s.get Fd.PROT_DCSTAT_STATE = 1) :
    s.capTrigger cause = (s.put Fd.PROT_DCSTAT_STATE 2).capM fun c => c.triggered s cause := by
  simp only [State.capTrigger, harmed, Capture.triggered]

theorem State.capTrigger_of_lost (cause : Nat) (hstate : s.get Fd.PROT_DCSTAT_STATE = 0 ∨ s.get Fd.PROT_DCSTAT_STATE = 3) :
    s.capTrigger cause = s.raise Ev.PROT_FLAGS_DCLOST := by
  obtain h | h := hstate <;> simp only [State.capTrigger, h]

/-! ### A frame (R254) -/

/-- R254: the next capture instant. -/
def Capture.nextAt (c : Capture) : Nat := (c.last / (c.rate * 1600000) + 1) * (c.rate * 1600000)

/-- R254: where the next frame stands in the ring. -/
def Capture.frameAt (c : Capture) : Nat := c.buf + (c.frames % max 1 (capFrames c.buflen c.nch)) * (4 * (c.nch + 1))

/-- R254: the next frame of an armed capture has been written to the ring at its instant. -/
def State.framed (s : State) : State :=
  (((s.reachCount s.prot.capture.nextAt).memWords s.prot.capture.frameAt (s.frameWords s.prot.capture)).put
    Fd.PROT_DCSTAT_FILL (min (2 ^ 24 - 1) (s.prot.capture.frames + 1))).capM
      fun c => { c with frames := c.frames + 1, last := s.prot.capture.nextAt }

theorem State.dcFrame_of_armed (hen : s.on Fd.PROT_DCCFG_EN = true) (harmed : s.get Fd.PROT_DCSTAT_STATE = 1)
    (hclk : s.pwmClk = true) (hrate : 0 < s.prot.capture.rate) (htag : s.tagFree 6 = true) :
    s.dcFrame = s.framed := by
  have hstep : max 1 (s.prot.capture.rate * 1600000) = s.prot.capture.rate * 1600000 := by omega
  have hwords (c : Capture) (t : Nat) : (s.reachCount t).frameWords c = s.frameWords c := by
    simp only [State.frameWords, State.reachCount, State.advance_samples]
  have hprot (t : Nat) : (s.reachCount t).prot = s.prot := s.advance_prot _
  simp only [State.dcFrame, hen, harmed, hstep, State.canReach, hclk, htag, beq_self_eq_true, Bool.true_or, Bool.or_true,
    Bool.and_self, if_true, hprot, hwords, State.framed, Capture.nextAt, Capture.frameAt, Nat.reduceEqDiff, if_false]

theorem State.framed_frames (s : State) : s.framed.prot.capture.frames = s.prot.capture.frames + 1 := by
  rw [State.framed, State.capM_capture, State.put_prot, State.memWords_prot, State.reachCount, State.advance_prot]

theorem State.framed_last (s : State) : s.framed.prot.capture.last = s.prot.capture.nextAt := by
  rw [State.framed, State.capM_capture]

theorem State.framed_mem (s : State) : s.framed.mem = (s.memWords s.prot.capture.frameAt (s.frameWords s.prot.capture)).mem := by
  rw [State.framed, State.capM_mem, State.put_mem]
  exact State.memWords_mem_congr _ _ (s.advance_mem _)

theorem State.framed_sameRegistersBut (s : State) : SameRegistersBut [Reg.PROT_DCSTAT] s s.framed := by
  intro a ha
  rw [State.framed, State.capM_rd, State.rd_put_other _ _ _ _ (List.ne_of_not_mem_cons ha), State.memWords_rd, State.reachCount,
    State.advance_rd]

/-- R254: with one channel a frame is the word with VALID and the frame's number, and the channel's value. -/
theorem State.frameWords_single (s : State) (c : Capture) (h : c.nch = 1) : s.frameWords c =
    [s.samples[c.chan 0]!.valid.toNat + 2 ^ 16 * (c.frames % 2 ^ 16), s.samples[c.chan 0]!.value.toNat] := by
  have hvalid (b : Bool) : (if b = true then 0 + 2 ^ 0 else 0) = b.toNat := by cases b <;> rfl
  simp only [State.frameWords, h, List.range_one, List.foldl_cons, List.foldl_nil, List.map_cons, List.map_nil, hvalid]

/-! ### The record and its copy (R256) -/

/-- R256: where the copy of the record starts. -/
def State.copyAt (s : State) : Nat :=
  if s.rdN Reg.PROT_DCMBASE ≤ s.prot.capture.wptr ∧
      s.prot.capture.wptr + s.prot.capture.length ≤ s.rdN Reg.PROT_DCMBASE + s.rdN Reg.PROT_DCMLEN
    then s.prot.capture.wptr else s.rdN Reg.PROT_DCMBASE

/-- R256: with no older record in the ring, the last frame starts the copy and nothing else. -/
theorem State.dcPostComplete_of_no_records (hpost : s.get Fd.PROT_DCSTAT_STATE = 2) (hlast : s.prot.capture.left = 0)
    (hrecs : s.prot.capture.recs = []) :
    s.dcPostComplete = (s.put Fd.PROT_DCSTAT_STATE 3).capM fun c => { c with dest := s.copyAt } := by
  simp only [State.dcPostComplete, hpost, hlast, hrecs, and_self, if_true, List.filter_nil, List.foldl_nil]
  exact State.capM_congr (by simp only [State.put_prot, hrecs, List.filter_nil, State.copyAt])

theorem State.capFramesOf_length (s : State) (c : Capture) : (s.capFramesOf c).length = (c.pre + c.post) * (c.nch + 1) := by
  simp only [State.capFramesOf, List.length_flatMap, List.length_map, List.length_range, List.map_const', List.sum_replicate_nat]

/-- R256: the record's frames stand in the MRAM. -/
def State.framesCopied (s : State) : State := s.mramWords (s.prot.capture.dest + 64) (s.capFramesOf s.prot.capture)

/-- R256: the whole record stands in the MRAM: after the frames its header, word 0 of the header last. -/
def State.recorded (s : State) : State :=
  ((s.framesCopied.mramWords (s.prot.capture.dest + 4) (s.framesCopied.capHeader s.prot.capture)).mramWrite
    s.prot.capture.dest 4 0x1D15C).mramFlush

theorem State.recorded_mramOnly (s : State) : MramOnly s s.recorded :=
  (((State.mramWords_mramOnly _ s _).trans (State.mramWords_mramOnly _ _ _)).trans (State.mramWrite_mramOnly _ _ _ _)).trans
    (State.mramFlush_mramOnly _)

theorem State.framesCopied_sameMemoryBut (s : State) :
    SameMemoryBut (s.prot.capture.dest + 64) (s.prot.capture.length - 64) s s.framesCopied := by
  have hbytes : 4 * (s.capFramesOf s.prot.capture).length = s.prot.capture.length - 64 := by
    rw [s.capFramesOf_length, Capture.length, Nat.add_sub_cancel_left, Nat.mul_left_comm]
  exact hbytes ▸ (State.memWords_sameMemoryBut _ s _).of_mem_eq (State.mramWords_mem _ s _)

/-- R256: the copy of a record writes the record's bytes alone; word 0 of its header holds the mark, word 1 the length and word 2
the low word of the trigger's time. -/
theorem State.recorded_memory (s : State) :
    s.recorded.memRd s.prot.capture.dest 4 = 0x1D15C ∧
    s.recorded.memRd (s.prot.capture.dest + 4) 4 = s.prot.capture.length % 2 ^ 32 ∧
    s.recorded.memRd (s.prot.capture.dest + 8) 4 = s.prot.capture.trig % 2 ^ 32 ∧
    SameMemoryBut s.prot.capture.dest s.prot.capture.length s s.recorded := by
  have hcopied := s.framesCopied_sameMemoryBut
  have hlength : 64 ≤ s.prot.capture.length := Nat.le_add_right _ _
  have hheader := State.memWords_sameMemoryBut (s.framesCopied.capHeader s.prot.capture) s.framesCopied (s.prot.capture.dest + 4)
  have hword := State.memRd_memWords (s.framesCopied.capHeader s.prot.capture) s.framesCopied (s.prot.capture.dest + 4)
  rw [show (s.framesCopied.capHeader s.prot.capture).length = 15 from rfl] at hheader
  have hmem : s.recorded.mem = ((s.framesCopied.memWords (s.prot.capture.dest + 4)
      (s.framesCopied.capHeader s.prot.capture)).memWr s.prot.capture.dest 4 0x1D15C).mem := by
    rw [State.recorded, State.mramFlush_mem, State.mramWrite_mem]
    exact State.memWr_mem_congr (State.mramWords_mem _ _ _) _ 4 _
  generalize s.framesCopied.memWords (s.prot.capture.dest + 4) (s.framesCopied.capHeader s.prot.capture) = w at hheader hword hmem
  have hmark := w.memWr_sameMemoryBut s.prot.capture.dest 4 0x1D15C
  refine ⟨?_, ?_, ?_, SameMemoryBut.of_mem_eq ?_ hmem⟩
  · rw [State.memRd_of_mem_eq hmem, State.memRd_memWr_word, Nat.mod_eq_of_lt (by decide)]
  · rw [State.memRd_of_mem_eq hmem, hmark.memRd _ _ (by omega)]
    exact hword 0 (Nat.zero_lt_succ 14)
  · rw [State.memRd_of_mem_eq hmem, hmark.memRd _ _ (by omega)]
    exact (hword 1 (Nat.one_lt_succ_succ 13)).trans (Nat.mod_mod _ _)
  · exact ((hcopied.widen (by omega) (by omega)).trans (hheader.widen (by omega) (by omega))).trans
      (hmark.widen (by omega) (by omega))

/-- R256: the record is entered: DCLAST and DCCNT show it, and the ring's next free position follows it. -/
def State.capEntered (s : State) : State :=
  ((s.recorded.wrN Reg.PROT_DCLAST s.prot.capture.dest).inc32 Reg.PROT_DCCNT).capM fun c =>
    { c with wptr := c.dest + c.length, recs := c.recs ++ [(c.dest, c.length)] }

/-- Entering the record changes, beside MRAMC's registers, DCLAST and DCCNT alone. -/
theorem State.capEntered_rd_other (s : State) (a : Nat) (hmram : a ∉ mramRegs) (hlast : a ≠ Reg.PROT_DCLAST) (hcnt : a ≠ Reg.PROT_DCCNT) :
    s.capEntered.rd a = s.rd a := by
  rw [State.capEntered, State.capM_rd, State.inc32, State.wrN, State.rd_wr, if_neg hcnt, State.wrN, State.rd_wr, if_neg hlast]
  exact s.recorded_mramOnly.regs a hmram

theorem State.capEntered_rdN_dclast (s : State) : s.capEntered.rdN Reg.PROT_DCLAST = s.prot.capture.dest % 2 ^ 32 := by
  rw [State.rdN, State.capEntered, State.capM_rd, State.inc32, State.wrN, State.rd_wr, if_neg (by decide), State.wrN, State.rd_wr,
    if_pos rfl, BitVec.toNat_ofNat]

theorem State.capEntered_rd_dccnt (s : State) : s.capEntered.rd Reg.PROT_DCCNT = s.rd Reg.PROT_DCCNT + 1 := by
  have hcnt : (s.recorded.wrN Reg.PROT_DCLAST s.prot.capture.dest).rd Reg.PROT_DCCNT = s.rd Reg.PROT_DCCNT := by
    rw [State.wrN, State.rd_wr, if_neg (by decide)]
    exact s.recorded_mramOnly.regs _ (by decide)
  rw [State.capEntered, State.capM_rd, State.inc32, State.rdN, hcnt, State.wrN, State.rd_wr, if_pos rfl, BitVec.ofNat_add,
    BitVec.ofNat_toNat, BitVec.setWidth_eq]
  rfl

theorem State.capEntered_mem (s : State) : s.capEntered.mem = s.recorded.mem := by
  rw [State.capEntered, State.capM_mem, State.inc32_mem, State.wrN_mem]

/-- R256: without AUTO the end of the copy leaves capture idle, with DCDONE. -/
theorem State.dcCopyComplete_of_manual (hcopy : s.get Fd.PROT_DCSTAT_STATE = 3) (hmanual : s.on Fd.PROT_DCCFG_AUTO = false)
    (hmoving : s.mramc.moving = none) (htag : s.tagFree 6 = true) :
    s.dcCopyComplete = (s.capEntered.raise Ev.PROT_FLAGS_DCDONE).put Fd.PROT_DCSTAT_STATE 0 := by
  have hauto : ((s.capEntered.raise Ev.PROT_FLAGS_DCDONE).put Fd.PROT_DCSTAT_STATE 0).on Fd.PROT_DCCFG_AUTO = false := by
    rw [← hmanual]
    refine State.on_of_get (State.get_of_rd ?_)
    rw [State.rd_put_other _ _ _ _ (by decide), State.rd_raise_other _ _ _ (by decide) (by decide)]
    exact s.capEntered_rd_other _ (by decide) (by decide) (by decide)
  unfold State.capEntered State.recorded State.framesCopied at hauto ⊢
  simp only [State.dcCopyComplete, hcopy, hmoving, htag, Option.isNone_none, and_self, if_true, hauto, Bool.false_eq_true, if_false]

end Commands

/-- Settles O44: each command is an equation of its own above; what the frame and the record leave in memory comes from the rules
for words written one after the other. -/
theorem disturbanceCapture : Obligations.DisturbanceCapture := by
  unfold Obligations.DisturbanceCapture
  refine ⟨?refused, ?armed, ?triggered, ?lost, ?frame, ?post, ?copy⟩
  case refused =>
    intro s hen hidle hrefused
    exact ⟨_, congrArg Host.Outcome.next (State.dcArm_of_refused hen hidle hrefused), s.flag_dclost,
      s.raise_sameRegistersBut Ev.PROT_FLAGS_DCLOST, s.raise_prot _, s.raise_mem _⟩
  case armed =>
    intro s hen hidle htaken
    obtain ⟨hrate, hnch⟩ := s.capArm_settings
    exact ⟨_, congrArg Host.Outcome.next (State.dcArm_of_taken hen hidle htaken), s.capArm_state, s.capArm_fill, hrate, hnch,
      s.capArm_sameRegistersBut, rfl⟩
  case triggered =>
    intro s harmed
    exact ⟨_, congrArg Host.Outcome.next (State.capTrigger_of_armed 33 harmed), s.get_put_within _ _ (by decide), rfl, rfl, rfl, rfl,
      (s.put_sameRegistersBut Fd.PROT_DCSTAT_STATE 2).capM _, rfl⟩
  case lost =>
    intro s hstate
    exact ⟨_, congrArg Host.Outcome.next (State.capTrigger_of_lost 33 hstate), s.flag_dclost, s.raise_prot _,
      s.raise_sameRegistersBut Ev.PROT_FLAGS_DCLOST, s.raise_mem _⟩
  case frame =>
    intro s hen harmed hclk hrate hnch hlen _ htag
    have hat : s.prot.capture.frameAt = s.prot.capture.buf + (s.prot.capture.frames % 10) * 8 := by
      rw [Capture.frameAt, hlen, hnch]
      rfl
    have hbytes := State.memWords_sameMemoryBut (s.frameWords s.prot.capture) s s.prot.capture.frameAt
    have hword := State.memRd_memWords (s.frameWords s.prot.capture) s s.prot.capture.frameAt
    have hmem := s.framed_mem
    generalize s.memWords s.prot.capture.frameAt (s.frameWords s.prot.capture) = w at hbytes hword hmem
    rw [s.frameWords_single _ hnch] at hbytes hword
    have hvalid := Bool.toNat_le s.samples[s.prot.capture.chan 0]!.valid
    refine ⟨_, congrArg Host.Outcome.next (State.dcFrame_of_armed hen harmed hclk hrate htag), s.framed_frames, ?_, ?_, s.framed_last,
      hat ▸ hbytes.of_mem_eq hmem, s.framed_sameRegistersBut⟩
    · rw [← hat, State.memRd_of_mem_eq hmem]
      exact (hword 0 (Nat.zero_lt_succ 1)).trans (Nat.mod_eq_of_lt (by simp only [List.getElem_cons_zero]; omega))
    · rw [← hat, State.memRd_of_mem_eq hmem]
      exact (hword 1 (Nat.one_lt_succ_succ 0)).trans (Nat.mod_eq_of_lt (BitVec.isLt _))
  case post =>
    intro s hpost hlast hrecs
    exact ⟨_, congrArg Host.Outcome.next (State.dcPostComplete_of_no_records hpost hlast hrecs), s.get_put_within _ _ (by decide),
      (s.put_sameRegistersBut Fd.PROT_DCSTAT_STATE 3).capM _, rfl, rfl⟩
  case copy =>
    intro s hcopy hmanual hmoving htag
    obtain ⟨hmark, hlength, htrig, hsame⟩ := s.recorded_memory
    have hmem : ((s.capEntered.raise Ev.PROT_FLAGS_DCDONE).put Fd.PROT_DCSTAT_STATE 0).mem = s.recorded.mem := by
      rw [State.put_mem, State.raise_mem, State.capEntered_mem]
    have hrd (a : Nat) (hstat : a ≠ Reg.PROT_DCSTAT) (hflags : a ≠ Reg.PROT_FLAGS) (hcnt : a ≠ Ev.PROT_FLAGS_DCDONE.cnt) :
        ((s.capEntered.raise Ev.PROT_FLAGS_DCDONE).put Fd.PROT_DCSTAT_STATE 0).rd a = s.capEntered.rd a :=
      (State.rd_put_other _ _ _ _ hstat).trans (s.capEntered.rd_raise_other _ a hflags hcnt)
    refine ⟨_, congrArg Host.Outcome.next (State.dcCopyComplete_of_manual hcopy hmanual hmoving htag),
      State.get_put_within _ _ _ (by decide), ?_, ?_, ?_, (State.memRd_of_mem_eq hmem _ _).trans hmark,
      (State.memRd_of_mem_eq hmem _ _).trans hlength, (State.memRd_of_mem_eq hmem _ _).trans htrig, hsame.of_mem_eq hmem⟩
    · refine (State.on_of_get (State.get_put_apart _ _ _ _ (by decide) (by decide))).trans ?_
      exact s.capEntered.flag_raise Ev.PROT_FLAGS_DCDONE (by decide) (by decide)
    · rw [State.rdN, hrd _ (by decide) (by decide) (by decide)]
      exact s.capEntered_rdN_dclast
    · rw [hrd _ (by decide) (by decide) (by decide)]
      exact s.capEntered_rd_dccnt

end Sys2Proof.Machine

/-! SUPPORT. The doubleword of a DC input whose sweep completes while the block port is not free (R21, R263, R269). -/
namespace Sys2Proof.Machine

/-! ### A doubleword that stalls -/

/-- R21: whether the block port is free shows in the crossbar and the links. -/
theorem State.blockFree_congr {s t : State} (hxbar : t.xbar = s.xbar) (hlink : t.link = s.link) : t.blockFree = s.blockFree := by
  have hparts (u : State) : u.blockFree = { State.reset with xbar := u.xbar, link := u.link }.blockFree := rfl
  rw [hparts t, hxbar, hlink, ← hparts s]

@[simp] theorem State.advance_blockFree (s : State) (k : Nat) : (s.advance k).blockFree = s.blockFree := by
  obtain ⟨b, p, h, -⟩ := s.advance_eq k
  rw [h]
  rfl

@[simp] theorem State.advance_dc (s : State) (k : Nat) : (s.advance k).dc = s.dc := by
  obtain ⟨b, p, h, -⟩ := s.advance_eq k
  rw [h]

/-- R21: a block write that stalls has not landed. -/
theorem State.blockWrite_mem_of_stall (s : State) (a n v : Nat) (h : s.blockFree = false) : (s.blockWrite a n v).mem = s.mem := by
  have hstall : (s.xbar.blocked.isEmpty && s.tagFree 14) = false := h
  rw [State.blockWrite, hstall]
  rfl

/-- R274: the software launch of an event writes no memory. -/
@[simp] theorem State.dcEvent_mem (s : State) (k : Fin 8) (b : Nat) : (s.dcEvent k b).mem = s.mem := by
  unfold State.dcEvent
  split
  · simp only []
    split
    · exact s.swlFire_mem _
    · rfl
  · rfl

/-- R269: the doubleword of a completed sweep stalls. -/
theorem State.sweepReturn_mem_of_stall (s : State) (k : Fin 8) (h : s.blockFree = false) : (s.sweepReturn k).mem = s.mem :=
  (State.dcEvent_mem _ k 0).trans (s.blockWrite_mem_of_stall _ _ _ h)

/-! ### The completion (R268, R269) -/

/-- R268: an entry is written and its capture dropped. -/
def State.entryTaken (s : State) (k : Fin 8) (x : DcCap) : State := (s.sweepEntry k x).dcM k fun d => { d with caps := d.caps.tail }

/-- R268, R269: the last entry and the completion are written to registers and the input's own state alone. -/
theorem State.completed_leaves (s : State) (k : Fin 8) (x : DcCap) :
    ((s.entryTaken k x).sweepComplete k).mem = s.mem ∧ ((s.entryTaken k x).sweepComplete k).xbar = s.xbar ∧
      ((s.entryTaken k x).sweepComplete k).link = s.link := by
  simp [State.sweepComplete, State.entryTaken, State.sweepEntry]

section
variable (s : State) (k : Fin 8) (x : DcCap) (l : List DcCap) (hcaps : s.dc[k].caps = x :: l) (hready : x.ready = true)
  (hlast : x.step + 1 = s.dc[k].steps)
include hlast

/-- R269: the entry of the last step completes the sweep. -/
theorem State.sweepTake_of_last : s.sweepTake k x = ((s.entryTaken k x).sweepComplete k, some 0) := by
  have hsteps : (s.entryTaken k x).dc[k].steps = s.dc[k].steps := by
    simp [State.entryTaken, State.sweepEntry, State.dcM]
  exact if_pos (hlast.trans hsteps.symm)

include hcaps hready

/-- R264, R268: the last entry is written when it is due, and the doubleword 5.0 ns on. -/
theorem State.sweepEntryWrite_of_last :
    s.sweepEntryWrite k = ((((s.reachNow (x.doneAt + 2 * s.sysT)).entryTaken k x).sweepComplete k).advance 2).sweepReturn k := by
  have hdc : (s.reachNow (x.doneAt + 2 * s.sysT)).dc = s.dc := s.advance_dc _
  have htake := (s.reachNow (x.doneAt + 2 * s.sysT)).sweepTake_of_last k x (by rw [hdc]; exact hlast)
  simp only [State.sweepEntryWrite, hcaps, hready, htake]
  rfl

/-- R21, R269: where the block port is not free, the completion leaves memory as it is. -/
theorem State.sweepEntryWrite_mem_of_stall (hstall : s.blockFree = false) : (s.sweepEntryWrite k).mem = s.mem := by
  obtain ⟨hmem, hxbar, hlink⟩ := (s.reachNow (x.doneAt + 2 * s.sysT)).completed_leaves k x
  rw [s.sweepEntryWrite_of_last k x l hcaps hready hlast, State.sweepReturn_mem_of_stall, State.advance_mem, hmem]
  · exact s.advance_mem _
  · rw [State.advance_blockFree, State.blockFree_congr hxbar hlink]
    exact (s.advance_blockFree _).trans hstall

end

/-! ### A run that reaches such a completion -/

/-- The sync PLL is locked and MCLK 0 runs, MODIN input 0 is enabled (first order, OSR 4), carrier 5, which no leg follows, runs, and
DC input 0 is enabled on that carrier with input 0 as VIN, IIN and LINKIN; NSTEP, CAPP and DWELL are 1; all else is as after
reset. -/
def readyForSweep : State :=
  (((((((State.reset.put Fd.PLL_STATUS_SYNCLOCK 1).put (Fd.PLL_MCLKDIV_ACTEN 0) 1).wr (Reg.MODIN_IN_CFG 0) 0x00210043).put
    (Fd.PWM_C_CFG_EN 5) 1).wr (Reg.SYSCFG_DC_CFG 0) 11).wr (Reg.SYSCFG_DC_SWCFG 0) 0x01000001).wr (Reg.SYSCFG_DC_SWDWELL 0) 1).carM 5
      fun c => { c with run := true }

/-- A sweep of one step runs to the end of its window, and input 0 issues three results of the window and one behind it. -/
def oneStepSweep : List Instr :=
  [.sweepGo 0, .carrierZero 5, .sweepStepStart 0, .carrierZero 5, .mainResultIssue 0 [], .mainResultIssue 0 [],
    .mainResultIssue 0 [], .mainResultIssue 0 []]

/-- Two transactions of the block port, which take its two reserved tags (R21). -/
def blockPortTaken : List Instr := List.replicate 2 (.crossbarTransaction .block ⟨0x20000000, 3, none⟩)

/-- R268: what that sweep has captured of its only step. -/
def onlyCapture : DcCap :=
  { start := some 32000, stop := some 64000, nV := 3, nI := 3, doneV := true, doneI := true, doneAt := 73600 }

/-- R21, R268: the last entry of input 0's sweep is due, the block port is not free, and ACT is 1 in the doubleword. -/
abbrev CompletionStalls (s : State) : Prop :=
  s.dc[(0 : Fin 8)].caps = [onlyCapture] ∧ s.dc[(0 : Fin 8)].steps = 1 ∧ s.blockFree = false ∧
    s.memRd (s.dcDword (0 : Fin 8) + 4) 1 % 2 = 1

/-- The sweep runs whole from GO to the last result of its window, and two transactions then take the block port's tags. -/
theorem run_reaches_completionStalls :
    ∃ s : State, core.run 10 { readyForSweep with pending := oneStepSweep ++ blockPortTaken } = .next s ∧ CompletionStalls s :=
  exists_next_of_nextSatisfies (by decide +kernel)

/-- R268: what holds of the state that SWEEP_ENTRY_WRITE answers. -/
theorem answers_sweepEntryWrite_iff (k : Fin 8) (s : State) (P : State → Prop) :
    Answers (.sweepEntryWrite k) s P ↔ P (s.sweepEntryWrite k) := by
  have hexec : exec (.sweepEntryWrite k) s = .next (s.sweepEntryWrite k) := rfl
  simp [Answers, hexec]

/-- Refutes O45: the clause of the last entry has ACT = 0 in the doubleword at once, and it lacks the premise `State.blockFree` that
the clauses of a step, of STOP and of a missing zero have. While two transactions hold the block port's reserved tags, the
doubleword of the completion stalls (R21), so that the ACT = 1 of the step still stands in memory. -/
theorem not_dcInputsAndProbe : ¬ Obligations.DcInputsAndProbe := by
  unfold Obligations.DcInputsAndProbe
  rintro ⟨-, -, -, -, -, -, -, -, hcompletes, -⟩
  obtain ⟨s, -, hcaps, hsteps, hstall, hact⟩ := run_reaches_completionStalls
  have hlast : onlyCapture.step + 1 = s.dc[(0 : Fin 8)].steps := hsteps.symm
  obtain ⟨-, -, hclear, -⟩ := (answers_sweepEntryWrite_iff ..).mp
    (hcompletes 0 onlyCapture [] s hcaps rfl rfl hlast (by decide))
  rw [State.memRd_of_mem_eq (s.sweepEntryWrite_mem_of_stall 0 onlyCapture [] hcaps rfl hlast hstall), hact] at hclear
  exact absurd hclear (by decide)

end Sys2Proof.Machine

/-! SUPPORT. What every operation of the model keeps: the queue, and the canonical form of memory and registers. This part: what the relation
is, the state's updates, the timebase, MODIN, the ACU, PWM, the carriers and the drivers. -/
namespace Sys2Proof.Machine

set_option Elab.async false

/-- Leaving cells out of a canonical map by any test of them leaves it canonical. -/
theorem mapWfFrom_filter_keys {α : Type} [DecidableEq α] (dflt : Nat → α) (p : Nat × α → Bool) (m : List (Nat × α)) :
    ∀ lo, mapWfFrom dflt lo m → mapWfFrom dflt lo (m.filter p) := by
  induction m with
  | nil => exact fun _ _ => rfl
  | cons e t ih =>
    obtain ⟨b, w⟩ := e
    intro lo h
    simp only [mapWfFrom, Bool.and_eq_true] at h
    cases hp : p (b, w)
    · rw [List.filter_cons_of_neg (by simp [hp])]
      refine mapWfFrom_weaken dflt _ (some b) lo (fun x hx l hl => ?_) (ih _ h.2)
      have h1 := hx b rfl
      have h2 : l < b := by simpa [hl] using h.1.1
      omega
    · rw [List.filter_cons_of_pos hp]
      simp only [mapWfFrom, Bool.and_eq_true]
      exact ⟨h.1, ih _ h.2⟩

/-- From `s₀` to `s` the queue has stayed, and the canonical form has been kept. -/
def Keeps (s₀ s : State) : Prop := s.pending = s₀.pending ∧ (s₀.canonical = true → s.canonical = true)

/-- The same of the state that an operation answers, if it answers one. -/
def KeepsAny (s₀ : State) (o : Option State) : Prop := ∀ t, o = some t → Keeps s₀ t

/-- The same of the state that an instruction's effect carries, if it carries one. -/
def KeepsEff (s₀ : State) : Eff → Prop
  | .done s _ | .jump s _ _ | .skip s _ _ | .wait s _ | .left s => Keeps s₀ s
  | .exc .. | .trap _ | .stay => True

/-- The same of a command's answer, which is a next state. -/
def KeepsIn (s₀ : State) (r : Result) : Prop := ∃ t, r = .next t ∧ Keeps s₀ t

section
variable {s₀ s : State}

/-! ### How the relation is composed -/

theorem State.canonical_iff : s.canonical = true ↔
    Memory.wf s.mem = true ∧ regsWf s.regs = true ∧ mapWfFrom (fun _ => (0 : Word)) none s.hiLive = true := by
  simp only [State.canonical, Bool.and_eq_true, and_assoc]

theorem Keeps.refl (s : State) : Keeps s s := ⟨rfl, id⟩

/-- The queue, the memory, the registers and the words behind LO registers alone matter. -/
theorem Keeps.same {t : State} (hs : Keeps s₀ s) (hregs : t.regs = s.regs := by rfl) (hmem : t.mem = s.mem := by rfl)
    (hhi : t.hiLive = s.hiLive := by rfl) (hpending : t.pending = s.pending := by rfl) : Keeps s₀ t := by
  refine ⟨hpending.trans hs.1, fun h => ?_⟩
  rw [State.canonical_iff, hregs, hmem, hhi]
  exact State.canonical_iff.mp (hs.2 h)

theorem Keeps.ite {t : State} {c : Prop} [Decidable c] (ht : Keeps s₀ s) (hu : Keeps s₀ t) : Keeps s₀ (if c then s else t) := by
  split
  · exact ht
  · exact hu

theorem Keeps.dite {c : Prop} [Decidable c] {f : c → State} {g : ¬c → State} (hf : ∀ h, Keeps s₀ (f h)) (hg : ∀ h, Keeps s₀ (g h)) :
    Keeps s₀ (dite c f g) := by
  split
  · exact hf _
  · exact hg _

theorem Keeps.foldl {α : Type} {f : State → α → State} {l : List α} (hf : ∀ t x, Keeps s₀ t → Keeps s₀ (f t x)) (hs : Keeps s₀ s) :
    Keeps s₀ (l.foldl f s) :=
  foldl_keeps (Keeps s₀) f hf l s hs

/-- The state beside a value is kept where that pair is known. -/
theorem Keeps.of_snd {α : Type} {x : α} {r : α × State} (e : r = (x, s)) (h : Keeps s₀ r.2) : Keeps s₀ s := by
  rw [e] at h
  exact h

theorem Keeps.iteSnd {α : Type} {a b : α × State} {c : Prop} [Decidable c] (ha : Keeps s₀ a.2) (hb : Keeps s₀ b.2) :
    Keeps s₀ (if c then a else b).2 := by
  split
  · exact ha
  · exact hb

theorem forall_mem_orElse {α : Type} {P : α → Prop} {o p : Option α} (ho : ∀ r ∈ o, P r) (hp : ∀ r ∈ p, P r) :
    ∀ r ∈ (o <|> p), P r := by
  cases o with
  | none => exact hp
  | some x => exact ho

theorem forall_mem_ite_some {α : Type} {P : α → Prop} {x : α} {c : Prop} [Decidable c] (hx : P x) :
    ∀ r ∈ (if c then some x else none), P r := by
  split
  · exact fun r h => Option.mem_some.mp h ▸ hx
  · exact fun r h => nomatch h

theorem Keeps.getD {t : State} {o : Option State} (ho : KeepsAny s₀ o) (ht : Keeps s₀ t) : Keeps s₀ (o.getD t) := by
  cases o with
  | none => exact ht
  | some u => exact ho u rfl

theorem KeepsAny.none : KeepsAny s₀ none := fun _ h => nomatch h

theorem KeepsAny.some (hs : Keeps s₀ s) : KeepsAny s₀ (some s) := fun _ h => Option.some.inj h ▸ hs

theorem KeepsAny.or {o p : Option State} (ho : KeepsAny s₀ o) (hp : KeepsAny s₀ p) : KeepsAny s₀ (o <|> p) := by
  cases o with
  | none => exact hp
  | some u => exact ho

theorem KeepsAny.map {α : Type} {f : α → State} {o : Option α} (hf : ∀ x, Keeps s₀ (f x)) : KeepsAny s₀ (o.map f) := by
  cases o with
  | none => exact .none
  | some x => exact .some (hf x)

theorem KeepsAny.ite {o p : Option State} {c : Prop} [Decidable c] (ho : KeepsAny s₀ o) (hp : KeepsAny s₀ p) :
    KeepsAny s₀ (if c then o else p) := by
  split
  · exact ho
  · exact hp

theorem KeepsEff.done (hs : Keeps s₀ s) : KeepsEff s₀ (.done s k) := hs
theorem KeepsEff.jump (hs : Keeps s₀ s) : KeepsEff s₀ (.jump s a k) := hs
theorem KeepsEff.skip (hs : Keeps s₀ s) : KeepsEff s₀ (.skip s a k) := hs
theorem KeepsEff.wait (hs : Keeps s₀ s) : KeepsEff s₀ (.wait s w) := hs
theorem KeepsEff.left (hs : Keeps s₀ s) : KeepsEff s₀ (.left s) := hs
theorem KeepsEff.exc : KeepsEff s₀ (.exc code a ecc) := trivial
theorem KeepsEff.trap : KeepsEff s₀ (.trap code) := trivial
theorem KeepsEff.stay : KeepsEff s₀ .stay := trivial

theorem KeepsEff.ite {e f : Eff} {c : Prop} [Decidable c] (he : KeepsEff s₀ e) (hf : KeepsEff s₀ f) :
    KeepsEff s₀ (if c then e else f) := by
  split
  · exact he
  · exact hf

theorem KeepsIn.next (hs : Keeps s₀ s) : KeepsIn s₀ (.next s) := ⟨s, rfl, hs⟩

/-! ### Registers, memory and the words behind LO registers -/

theorem Keeps.wr (hs : Keeps s₀ s) : Keeps s₀ (s.wr a v) :=
  ⟨hs.1, fun h => by
    obtain ⟨hm, hr, hh⟩ := State.canonical_iff.mp (hs.2 h)
    exact State.canonical_iff.mpr ⟨hm, s.wr_regsWf a v hr, hh⟩⟩

theorem Keeps.memWr (hs : Keeps s₀ s) : Keeps s₀ (s.memWr a n v) :=
  ⟨hs.1, fun h => by
    obtain ⟨hm, hr, hh⟩ := State.canonical_iff.mp (hs.2 h)
    exact State.canonical_iff.mpr ⟨s.memWr_wf a n v hm, hr, hh⟩⟩

theorem Keeps.setStamp (hs : Keeps s₀ s) : Keeps s₀ (s.setStamp loAddr v) :=
  ⟨hs.1, fun h => by
    obtain ⟨hm, hr, hh⟩ := State.canonical_iff.mp (hs.2 h)
    exact State.canonical_iff.mpr ⟨hm, s.wr_regsWf loAddr _ hr, mapWfFrom_mapSet _ _ _ _ hh⟩⟩

theorem Keeps.wrN (hs : Keeps s₀ s) : Keeps s₀ (s.wrN a v) := .wr hs

theorem Keeps.put (hs : Keeps s₀ s) : Keeps s₀ (s.put f v) := .wrN hs

theorem Keeps.putB (hs : Keeps s₀ s) : Keeps s₀ (s.putB f b) := .put hs

theorem Keeps.sat16 (hs : Keeps s₀ s) : Keeps s₀ (s.sat16 a) := .ite (.wrN hs) hs

theorem Keeps.sat16By (hs : Keeps s₀ s) : Keeps s₀ (s.sat16By a k) := .wrN hs

theorem Keeps.inc32 (hs : Keeps s₀ s) : Keeps s₀ (s.inc32 a) := .wrN hs

theorem Keeps.setNow (hs : Keeps s₀ s) : Keeps s₀ (s.setNow e) :=
  .same (s := s.put ⟨e.addr, e.bit, 1⟩ 1) (.put hs)

theorem Keeps.raise (hs : Keeps s₀ s) : Keeps s₀ (s.raise e) := .sat16 (.setNow hs)

theorem Keeps.raiseN (hs : Keeps s₀ s) : Keeps s₀ (s.raiseN e k) := .ite hs (.sat16By (.setNow hs))

theorem Keeps.raiseIf (hs : Keeps s₀ s) : Keeps s₀ (s.raiseIf b e) := .ite (.raise hs) hs

theorem Keeps.latchHi (hs : Keeps s₀ s) : Keeps s₀ (s.latchHi loAddr) := .wr hs

theorem Keeps.fresh (hs : Keeps s₀ s) : Keeps s₀ s.fresh.2 := .same hs

theorem Keeps.answer (hs : Keeps s₀ s) : Keeps s₀ (s.answer v) := .same hs

theorem Keeps.plainWrite (hs : Keeps s₀ s) : Keeps s₀ (s.plainWrite a v) := by
  unfold State.plainWrite
  split
  · exact .wrN hs
  · exact hs

/-! ### Mram -/

theorem Keeps.mramM (hs : Keeps s₀ s) : Keeps s₀ (s.mramM f) := .same hs

theorem Keeps.wearShow (hs : Keeps s₀ s) : Keeps s₀ s.wearShow := .put (.put hs)

theorem Keeps.mramAccept (hs : Keeps s₀ s) : Keeps s₀ (s.mramAccept a) := .wearShow (.put (.put (.setStamp (.mramM hs))))

theorem Keeps.mramWrite (hs : Keeps s₀ s) : Keeps s₀ (s.mramWrite a n v) := by
  unfold State.mramWrite
  dsimp only
  split
  · exact .ite (.mramM (.memWr hs)) (.mramAccept (.memWr hs))
  · exact .mramAccept (.memWr hs)

theorem Keeps.mramWrites (hs : Keeps s₀ s) : Keeps s₀ (s.mramWrites a l) := by
  induction l generalizing s a with
  | nil => exact hs
  | cons v t ih => exact ih (.mramWrite hs)

theorem Keeps.mramDurable (hs : Keeps s₀ s) : Keeps s₀ s.mramDurable := .ite hs (.ite (.put (.put hs)) (.put hs))

theorem Keeps.mramFlush (hs : Keeps s₀ s) : Keeps s₀ s.mramFlush := .ite (.put (.put hs)) (.put hs)

theorem Keeps.wearMove (hs : Keeps s₀ s) : Keeps s₀ s.wearMove := .ite (.mramM (.put (.put (.put hs)))) hs

theorem Keeps.wearMoveEnd (hs : Keeps s₀ s) : Keeps s₀ s.wearMoveEnd := by
  unfold State.wearMoveEnd
  split
  · exact hs
  · exact .wearShow (.foldl (fun _ _ h1 => .mramAccept h1) (.ite (.put (.put (.inc32 (.mramM hs)))) (.put (.inc32 (.mramM hs)))))

/-! ### Tags -/

theorem Keeps.portM (hs : Keeps s₀ s) : Keeps s₀ (s.portM l f) := .same hs

theorem Keeps.xbarM (hs : Keeps s₀ s) : Keeps s₀ (s.xbarM f) := .same hs

theorem Keeps.blockLand (hs : Keeps s₀ s) : Keeps s₀ (s.blockLand a n v) := .ite (.mramWrite hs) (.memWr hs)

theorem Keeps.blockWrite (hs : Keeps s₀ s) : Keeps s₀ (s.blockWrite a n v) := .ite (.blockLand hs) (.xbarM hs)

theorem Keeps.blockWrites (hs : Keeps s₀ s) : Keeps s₀ (s.blockWrites a n l) := by
  induction l generalizing s a with
  | nil => exact hs
  | cons v t ih => exact ih (.blockWrite hs)

theorem Keeps.blockDrain (hs : Keeps s₀ s) : Keeps s₀ s.blockDrain := .ite (.foldl (fun _ _ h1 => .blockLand h1) (.xbarM hs)) hs

/-! ### Timebase -/

theorem Keeps.tblM (hs : Keeps s₀ s) : Keeps s₀ (s.tblM f) := .same hs

theorem Keeps.advanceCount (hs : Keeps s₀ s) : Keeps s₀ (s.advanceCount k) := .tblM hs

theorem Keeps.advanceCarriers (hs : Keeps s₀ s) : Keeps s₀ (s.advanceCarriers d) := .ite hs (.same hs)

theorem Keeps.advance (hs : Keeps s₀ s) : Keeps s₀ (s.advance k) :=
  .ite (.advanceCarriers (.same (s := s.advanceCount k) (.advanceCount hs))) (.same hs)

theorem Keeps.reachNow (hs : Keeps s₀ s) : Keeps s₀ (s.reachNow t) := .advance hs

theorem Keeps.reachCount (hs : Keeps s₀ s) : Keeps s₀ (s.reachCount t) := .advance hs

theorem Keeps.stCyclesSettle (hs : Keeps s₀ s) : Keeps s₀ s.stCyclesSettle := .same hs

theorem Keeps.landPwm (hs : Keeps s₀ s) (hf : ∀ t, Keeps s₀ t → Keeps s₀ (f t)) : Keeps s₀ (s.landPwm a v f) :=
  .ite (hf _ (.ite hs (.advance hs))) (.same hs)

theorem Keeps.landRk (hs : Keeps s₀ s) (hf : ∀ t x2, Keeps s₀ t → Keeps s₀ (f t x2)) : Keeps s₀ (s.landRk a v f) :=
  .ite (hf _ _ (.reachNow hs)) (.same hs)

theorem Keeps.landWhen (hs : Keeps s₀ s) (hf : ∀ t, Keeps s₀ t → Keeps s₀ (f t)) : Keeps s₀ (s.landWhen runs a v f) :=
  .ite (hf _ hs) (.same hs)

theorem Keeps.launch (hs : Keeps s₀ s) : Keeps s₀ (s.launch t exact) := .ite (.sat16 hs) (.ite (.sat16 (.tblM hs)) (.tblM hs))

theorem Keeps.forward (hs : Keeps s₀ s) : Keeps s₀ (s.forward l c exact) := .ite (.same hs) hs

theorem Keeps.fire (hs : Keeps s₀ s) : Keeps s₀ (s.fire src exact) :=
  .foldl (fun _ _ h1 => .foldl (fun _ _ h2 => .ite (.forward h2) h2) h1) (.foldl (fun _ _ h1 => .ite (.launch h1) h1) hs)

theorem Keeps.fireNow (hs : Keeps s₀ s) : Keeps s₀ (s.fireNow src) := .fire hs

theorem Keeps.fireLater (hs : Keeps s₀ s) : Keeps s₀ (s.fireLater src) := .fireNow (.advance hs)

theorem Keeps.takeLaunch (hs : Keeps s₀ s) (hf : ∀ t x2, Keeps s₀ t → Keeps s₀ (f t x2)) : Keeps s₀ (s.takeLaunch t f) := by
  unfold State.takeLaunch
  split
  · exact hs
  · exact .ite (hf _ _ (.tblM (.reachNow hs))) hs

theorem Keeps.addfracSet (hs : Keeps s₀ s) : Keeps s₀ (s.addfracSet w) := .wr (.tblM hs)

theorem Keeps.addfracWrite (hs : Keeps s₀ s) : Keeps s₀ (s.addfracWrite v) := .ite hs (.landPwm hs (fun _ h1 => .addfracSet h1))

theorem Keeps.rodEnd (hs : Keeps s₀ s) : Keeps s₀ (s.rodEnd n) := .raiseIf (.put (.put hs))

theorem Keeps.rodConsume (hs : Keeps s₀ s) : Keeps s₀ (s.rodConsume n k) := .ite hs (.ite (.rodEnd (.put hs)) (.put hs))

theorem Keeps.rodSkip (hs : Keeps s₀ s) : Keeps s₀ (s.rodSkip n lim) := .ite hs (.rodConsume (.raiseN (.sat16By (.tblM hs))))

theorem Keeps.probeRegrid (hs : Keeps s₀ s) : Keeps s₀ s.probeRegrid := .ite hs (.same hs)

theorem Keeps.stepCount (hs : Keeps s₀ s) : Keeps s₀ (s.stepCount d) :=
  .ite (.foldl (fun _ _ h1 => .ite (.rodSkip h1) h1) (.tblM (.probeRegrid (.tblM (.advance hs))))) (.probeRegrid (.tblM (.advance hs)))

theorem Keeps.stepBy (hs : Keeps s₀ s) : Keeps s₀ (s.stepBy d) :=
  .ite (.stepCount hs) (.same hs)

theorem Keeps.stepLand (hs : Keeps s₀ s) : Keeps s₀ s.stepLand := by
  unfold State.stepLand
  split
  · exact .stepBy (.tblM hs)
  · exact hs

theorem Keeps.stepApply (hs : Keeps s₀ s) : Keeps s₀ s.stepApply := .ite hs (.stepBy hs)

theorem Keeps.nowLoRead (hs : Keeps s₀ s) : Keeps s₀ s.nowLoRead := .answer (.wrN hs)

theorem Keeps.rodArmed (hs : Keeps s₀ s) : Keeps s₀ (s.rodArmed n irq) :=
  .ite (.putB hs) (.ite (.put (.put (.putB hs))) (.rodSkip (.tblM (.put (.put (.put (.put (.putB hs))))))))

theorem Keeps.rodArm (hs : Keeps s₀ s) : Keeps s₀ (s.rodArm n irq) := .landPwm hs (fun _ h1 => .rodArmed h1)

theorem Keeps.rodFire (hs : Keeps s₀ s) : Keeps s₀ (s.rodFire n) := .rodConsume (.tblM (.fire hs))

theorem Keeps.rodDisarm (hs : Keeps s₀ s) : Keeps s₀ (s.rodDisarm n) := .put (.put (.ite (.rodFire hs) hs))

theorem Keeps.rodCtrlWrite (hs : Keeps s₀ s) : Keeps s₀ (s.rodCtrlWrite n v) :=
  .ite (.rodArm hs) (.landPwm hs (fun _ h1 => .rodDisarm (.putB h1)))

theorem Keeps.rodPeriodCommit (hs : Keeps s₀ s) : Keeps s₀ (s.rodPeriodCommit n hi) :=
  .landPwm hs (fun _ h1 => .ite (.put h1) (.ite (.put (.put h1)) (.tblM (.put (.put h1)))))

theorem Keeps.rodFiring (hs : Keeps s₀ s) : Keeps s₀ (s.rodFiring n) := .ite (.rodFire (.reachCount hs)) hs

theorem Keeps.queueShow (hs : Keeps s₀ s) : Keeps s₀ s.queueShow := .putB (.put hs)

theorem Keeps.queuePush (hs : Keeps s₀ s) : Keeps s₀ s.queuePush := by
  refine .ite (.answer hs) ?_
  split
  · exact .answer (.raise hs)
  · exact .answer (.queueShow (.tblM hs))

theorem Keeps.queueFire (hs : Keeps s₀ s) : Keeps s₀ (s.queueFire h e) := .launch (.queueShow (.raiseIf (.tblM hs)))

theorem Keeps.queueEntryFire (hs : Keeps s₀ s) : Keeps s₀ s.queueEntryFire := by
  unfold State.queueEntryFire
  split
  · exact hs
  · exact .ite (.queueFire (.ite (.advance (.reachCount hs)) (.reachCount hs))) hs

theorem Keeps.queueCancelled (hs : Keeps s₀ s) : Keeps s₀ (s.queueCancelled h) := by
  unfold State.queueCancelled
  split
  · exact .raise hs
  · exact .ite (.raise (.queueFire hs)) (.queueShow (.tblM hs))

theorem Keeps.queueCancel (hs : Keeps s₀ s) : Keeps s₀ (s.queueCancel h) :=
  .dite (fun _ => .landPwm hs (fun _ h1 => .queueCancelled h1)) (fun _ => hs)

theorem Keeps.queueFlush (hs : Keeps s₀ s) : Keeps s₀ s.queueFlush := .landPwm hs (fun _ h1 => .queueShow (.tblM h1))

theorem Keeps.swlFire (hs : Keeps s₀ s) : Keeps s₀ (s.swlFire v) := .foldl (fun _ _ h1 => .ite (.fireNow h1) h1) hs

theorem Keeps.softwareLaunch (hs : Keeps s₀ s) : Keeps s₀ (s.softwareLaunch v) := .landPwm hs (fun _ h1 => .swlFire h1)

theorem Keeps.trginEdge (hs : Keeps s₀ s) : Keeps s₀ (s.trginEdge i rising held) :=
  .ite hs (.ite (.fireNow (.raiseIf (.setStamp (.tblM hs)))) (.tblM hs))

theorem Keeps.trgoutSet (hs : Keeps s₀ s) : Keeps s₀ (s.trgoutSet j b) := .tblM hs

theorem Keeps.trgoutAct (hs : Keeps s₀ s) : Keeps s₀ (s.trgoutAct j) :=
  .ite (.trgoutSet (.tblM hs)) (.ite (.trgoutSet (.tblM hs)) (.trgoutSet (.tblM hs)))

theorem Keeps.trgoutPulseEnd (hs : Keeps s₀ s) : Keeps s₀ (s.trgoutPulseEnd j) := by
  unfold State.trgoutPulseEnd
  split
  · exact hs
  · exact .ite (.trgoutSet (.tblM (.advance hs))) hs

theorem Keeps.forwardedEventFire (hs : Keeps s₀ s) : Keeps s₀ (s.forwardedEventFire l c) := by
  unfold State.forwardedEventFire
  split
  · exact hs
  · exact .ite (.fire (.tblM (.ite hs (.reachCount hs)))) hs

theorem Keeps.launchHoldResume (hs : Keeps s₀ s) : Keeps s₀ s.launchHoldResume := .ite (.put hs) hs

theorem Keeps.tblCtrlWrite (hs : Keeps s₀ s) : Keeps s₀ (s.tblCtrlWrite v) :=
  .ite (.launchHoldResume (.put (.putB (.ite hs (.put hs))))) (.put (.putB (.ite hs (.put hs))))

theorem Keeps.tblHold (hs : Keeps s₀ s) : Keeps s₀ s.tblHold := .raise (.put hs)

theorem Keeps.tblWarning (hs : Keeps s₀ s) : Keeps s₀ s.tblWarning := .tblM hs

/-! ### DcInput -/

theorem Keeps.dcM (hs : Keeps s₀ s) : Keeps s₀ (s.dcM k f) := .same hs

theorem Keeps.dcEvent (hs : Keeps s₀ s) : Keeps s₀ (s.dcEvent k b) := .ite (.ite (.swlFire hs) (.same hs)) hs

theorem Keeps.dcDwordWrite (hs : Keeps s₀ s) : Keeps s₀ (s.dcDwordWrite k sref act fin' abt) := .blockWrite hs

theorem Keeps.dcCfgWrite (hs : Keeps s₀ s) : Keeps s₀ (s.dcCfgWrite k r v) := by
  refine .ite (.raise hs) ?_
  split
  · exact .ite (.raise hs) (.dcM (.wrN hs))
  · exact .wr hs
  · exact .put hs

theorem Keeps.sweepGo (hs : Keeps s₀ s) : Keeps s₀ (s.sweepGo k) := .ite (.raise hs) (.dcM (.put (.inc32 hs)))

theorem Keeps.sweepComplete (hs : Keeps s₀ s) : Keeps s₀ (s.sweepComplete k) := .dcM (.put (.raise (.putB (.put hs))))

theorem Keeps.sweepReturn (hs : Keeps s₀ s) : Keeps s₀ (s.sweepReturn k) := .dcEvent (.dcDwordWrite hs)

theorem Keeps.sweepEntry (hs : Keeps s₀ s) : Keeps s₀ (s.sweepEntry k c) := .wrN (.wrN (.wrN (.wrN hs)))

theorem Keeps.sweepTake (hs : Keeps s₀ s) : Keeps s₀ (s.sweepTake k c).1 := by
  unfold State.sweepTake
  dsimp only
  split
  · exact .sweepComplete (.dcM (.sweepEntry hs))
  · exact .dcM (.sweepEntry hs)

theorem Keeps.sweepHalt (hs : Keeps s₀ s) : Keeps s₀ (s.sweepHalt k cause) := .dcM (.put (.put (.raise hs)))

theorem Keeps.sweepTell (hs : Keeps s₀ s) : Keeps s₀ (s.sweepTell k cause) := .dcEvent (.ite hs (.dcDwordWrite hs))

theorem Keeps.sweepCut (hs : Keeps s₀ s) : Keeps s₀ (s.sweepCut k cause).1 := by
  unfold State.sweepCut
  split
  · split
    · exact .sweepTake hs
    · exact .sweepHalt hs
  · exact hs

theorem Keeps.sweepTells (hs : Keeps s₀ s) : Keeps s₀ (s.sweepTells l) := by
  refine .foldl (fun _ _ h1 => ?_) hs
  split
  · exact h1
  · exact .sweepReturn h1
  · exact .sweepTell h1

theorem Keeps.sweepAbort (hs : Keeps s₀ s) : Keeps s₀ (s.sweepAbort k cause) :=
  .sweepTells (.sweepCut hs)

theorem Keeps.sweepAbortOwn (hs : Keeps s₀ s) : Keeps s₀ (s.sweepAbortOwn k cause) :=
  .sweepTells (.ite (.advance (.sweepCut hs)) (.sweepCut hs))

theorem Keeps.sweepAbortAll (hs : Keeps s₀ s) : Keeps s₀ (s.sweepAbortAll cause) := .foldl (fun _ _ h1 => .sweepAbort h1) hs

theorem Keeps.sweepLegForced (hs : Keeps s₀ s) : Keeps s₀ (s.sweepLegForced n) := .foldl (fun _ _ h1 => .ite (.sweepAbort h1) h1) hs

theorem Keeps.dcTableWrite (hs : Keeps s₀ s) : Keeps s₀ (s.dcTableWrite n v) := .wr (.dcM hs)

theorem Keeps.stepDue (hs : Keeps s₀ s) : Keeps s₀ (s.stepDue k i z) := .dcM hs

theorem Keeps.sweepZero (hs : Keeps s₀ s) : Keeps s₀ (s.sweepZero k z) :=
  .ite (.ite (.stepDue (.dcM hs)) (.dcM hs)) (.ite (.stepDue (.dcM (.dcM hs))) (.dcM (.dcM hs)))

theorem Keeps.dcZero (hs : Keeps s₀ s) : Keeps s₀ (s.dcZero c z) := .foldl (fun _ _ h1 => .ite (.sweepZero h1) h1) hs

theorem Keeps.sweepStepStart (hs : Keeps s₀ s) : Keeps s₀ (s.sweepStepStart k) := by
  unfold State.sweepStepStart
  split
  · exact hs
  · exact .dcDwordWrite (.advance (.dcM (.put (.put (.reachNow hs)))))

theorem Keeps.dcResult (hs : Keeps s₀ s) : Keeps s₀ (s.dcResult n v valid stamp).1 := by
  unfold State.dcResult
  refine foldl_keeps (fun b : State × List (Fin 8 × Option Nat) => Keeps s₀ b.1) _ (fun b k hb => ?_) _ _ hs
  extract_lets s1 isV isI isL s2 s3 x y s4 s5
  have h2 : Keeps s₀ s2 := .ite (.dcM hb) hb
  have h3 : Keeps s₀ s3 := .ite (.dcM h2) h2
  have hx : Keeps s₀ x.1 := by
    unfold x
    split
    · exact .sweepCut h3
    · exact h3
  have hy : Keeps s₀ y.1 := by
    unfold y
    split
    · exact .sweepCut hx
    · exact hx
  have h5 : Keeps s₀ s5 := .ite (.ite (.dcM hy) (.dcM hy)) hy
  split
  · exact h5
  · exact hb

theorem Keeps.sweepEntryWrite (hs : Keeps s₀ s) : Keeps s₀ (s.sweepEntryWrite k) := by
  unfold State.sweepEntryWrite
  split
  · exact hs
  · exact .ite (.sweepTells (.ite (.advance (.sweepTake (.reachNow hs))) (.sweepTake (.reachNow hs)))) hs

theorem Keeps.sweepNoZero (hs : Keeps s₀ s) : Keeps s₀ (s.sweepNoZero k) := .ite (.sweepAbortOwn (.reachNow hs)) hs

theorem Keeps.sweepOverdue (hs : Keeps s₀ s) : Keeps s₀ s.sweepOverdue := .foldl (fun _ _ h1 => .ite (.sweepAbort h1) h1) hs

theorem Keeps.goUndone (hs : Keeps s₀ s) : Keeps s₀ (s.goUndone k) := .dcM (.raise (.put (.wrN hs)))

theorem Keeps.sweepStop (hs : Keeps s₀ s) : Keeps s₀ (s.sweepStop k) := .ite (.goUndone (.dcM hs)) (.sweepAbortOwn (.dcM hs))

theorem Keeps.swcmdWrite (hs : Keeps s₀ s) : Keeps s₀ (s.swcmdWrite k v) := .ite (.raiseIf (.sweepStop hs)) (.ite (.sweepGo hs) hs)

theorem Keeps.nightWrite (hs : Keeps s₀ s) : Keeps s₀ (s.nightWrite k addr v) := .ite (.raise hs) (.wr hs)

theorem Keeps.nightEnter (hs : Keeps s₀ s) : Keeps s₀ (s.nightEnter k) := by
  unfold State.nightEnter
  dsimp only
  split
  · exact hs
  · exact .ite hs (.dcEvent (.advance (.raise (.put (.dcM (.reachNow hs))))))

theorem Keeps.wakeDetect (hs : Keeps s₀ s) : Keeps s₀ (s.wakeDetect k) := by
  unfold State.wakeDetect
  dsimp only
  split
  · exact hs
  · exact .ite hs (.dcEvent (.advance (.raise (.put (.dcM (.reachNow hs))))))

theorem Keeps.nightRestart (hs : Keeps s₀ s) : Keeps s₀ s.nightRestart := .same hs

/-! ### SampleBus -/

theorem Keeps.monM (hs : Keeps s₀ s) : Keeps s₀ (s.monM f) := .same hs

theorem Keeps.monPost (hs : Keeps s₀ s) : Keeps s₀ (s.monPost cls idx x t) := .ite hs (.foldl (fun _ _ h1 => .ite (.monM h1) h1) hs)

theorem Keeps.sampleSet (hs : Keeps s₀ s) : Keeps s₀ (s.sampleSet ch x) := .ite (.monPost (.same hs)) (.same hs)

/-! ### Pwm -/

theorem Keeps.pwmM (hs : Keeps s₀ s) : Keeps s₀ (s.pwmM f) := .same hs

theorem Keeps.carM (hs : Keeps s₀ s) : Keeps s₀ (s.carM c f) := .same hs

theorem Keeps.legM (hs : Keeps s₀ s) : Keeps s₀ (s.legM n f) := .same hs

theorem Keeps.legsOf (hs : Keeps s₀ s) (hf : ∀ t x2, Keeps s₀ t → Keeps s₀ (f t x2)) : Keeps s₀ (s.legsOf c f) :=
  .foldl (fun _ _ h1 => .ite (hf _ _ h1) h1) hs

theorem Keeps.reachTau (hs : Keeps s₀ s) : Keeps s₀ (s.reachTau c t) := .reachCount hs

theorem Keeps.legZero (hs : Keeps s₀ s) : Keeps s₀ (s.legZero n t) := .ite (.legM hs) hs

theorem Keeps.legZeroNow (hs : Keeps s₀ s) : Keeps s₀ (s.legZeroNow n) := .legZero hs

theorem Keeps.ballOff (hs : Keeps s₀ s) : Keeps s₀ (s.ballOff n high at') := .ite (.legM (.put hs)) (.legM (.put (.legZero hs)))

theorem Keeps.ballOn (hs : Keeps s₀ s) : Keeps s₀ (s.ballOn n high at') := .ite (.legM (.put hs)) (.legM (.put hs))

theorem Keeps.heldShow (hs : Keeps s₀ s) : Keeps s₀ (s.heldShow n) := .putB hs

theorem Keeps.turnOnAt (hs : Keeps s₀ s) : Keeps s₀ (s.turnOnAt n high dead at') := .ite (.ballOn hs) (.legM hs)

theorem Keeps.legApplyWith (hs : Keeps s₀ s) : Keeps s₀ (s.legApplyWith n dead at') := by
  unfold State.legApplyWith
  split
  extract_lets +onlyGivenNames s1 g guarded ch cl h l
  have h1 : Keeps s₀ s1 := .legM hs
  split
  refine .ite h1 ?_
  extract_lets +onlyGivenNames s2 s3
  have h2 : Keeps s₀ s2 := .ite (.ballOff h1) h1
  have h3 : Keeps s₀ s3 := .ite (.ballOff h2) h2
  refine .ite (.heldShow (.legM h3)) ?_
  extract_lets +onlyGivenNames heldH heldL new s4 s5
  have h4 : Keeps s₀ s4 := .legM (.raiseN h3)
  have h5 : Keeps s₀ s5 := .ite (.turnOnAt h4) h4
  exact .heldShow (.ite (.turnOnAt h5) h5)

theorem Keeps.legApply (hs : Keeps s₀ s) : Keeps s₀ (s.legApply n at') := .legApplyWith hs

theorem Keeps.movedEdge (hs : Keeps s₀ s) : Keeps s₀ (s.movedEdge n low off t) := .raiseIf hs

theorem Keeps.forceLeg (hs : Keeps s₀ s) : Keeps s₀ (s.forceLeg n) :=
  .ite (.sweepLegForced (.ite (.movedEdge (.ite (.movedEdge (.legApply (.legM (.put hs)))) (.legApply (.legM (.put hs))))) (.ite
      (.movedEdge (.legApply (.legM (.put hs)))) (.legApply (.legM (.put hs)))))) (.ite (.legApply (.legM (.put hs))) hs)

theorem Keeps.forceLegs (hs : Keeps s₀ s) : Keeps s₀ s.forceLegs := .foldl (fun _ _ h1 => .forceLeg h1) hs

theorem Keeps.forceUpdate (hs : Keeps s₀ s) : Keeps s₀ s.forceUpdate :=
  .forceLegs (.foldl (fun _ _ h1 => .ite (.raise (.raise h1)) h1) (.put hs))

theorem Keeps.forceSet (hs : Keeps s₀ s) : Keeps s₀ (s.forceSet e b) := .forceUpdate (.pwmM hs)

theorem Keeps.forceSys (hs : Keeps s₀ s) : Keeps s₀ s.forceSys := .forceLegs (.raise (.raise hs))

theorem Keeps.forcePfw (hs : Keeps s₀ s) : Keeps s₀ s.forcePfw :=
  .foldl (fun _ _ h1 => .legApply h1) (.forceLegs (.sat16 (.put (.put hs))))

theorem Keeps.forceClear (hs : Keeps s₀ s) : Keeps s₀ (s.forceClear k) := .ite (.raise (.raise hs)) (.forceLegs (.put hs))

theorem Keeps.resumeLeg (hs : Keeps s₀ s) : Keeps s₀ (State.resumeLeg z s n) := .ite (.legApply (.legM hs)) hs

theorem Keeps.outputsChanged (hs : Keeps s₀ s) : Keeps s₀ (s.outputsChanged held) :=
  .foldl (fun _ _ h1 => .legApply (.ite (.legM h1) h1)) hs

theorem Keeps.loadShadows (hs : Keeps s₀ s) : Keeps s₀ (State.loadShadows l tau x s n) :=
  .ite (.raiseIf (.legM (.wrN (.wrN (.wrN hs))))) (.raiseIf (.wrN (.wrN (.wrN hs))))

theorem Keeps.holdAtLoad (hs : Keeps s₀ s) : Keeps s₀ (State.holdAtLoad x s n) := .legM hs

theorem Keeps.loadMoved (hs : Keeps s₀ s) : Keeps s₀ (State.loadMoved x s n) := by
  refine .ite hs (.foldl (fun _ _ h1 => ?_) hs)
  dsimp only
  split
  · exact .ite (.movedEdge (.movedEdge h1)) (.movedEdge (.movedEdge h1))
  · exact .movedEdge h1
  · exact .movedEdge h1
  · exact h1

theorem Keeps.loadLeg (hs : Keeps s₀ s) : Keeps s₀ (State.loadLeg l tau x s n) :=
  .loadMoved (.holdAtLoad (.legM (.loadShadows (.ite hs (.legZero hs)))))

theorem Keeps.rearmedEnter (hs : Keeps s₀ s) : Keeps s₀ (s.rearmedEnter c l) := by
  unfold State.rearmedEnter
  split
  exact .foldl (fun _ _ h1 => .wr h1) (.pwmM hs)

theorem Keeps.heldEnter (hs : Keeps s₀ s) : Keeps s₀ (s.heldEnter c) := by
  unfold State.heldEnter
  split
  exact .foldl (fun _ _ h1 => .wr h1) (.pwmM hs)

theorem Keeps.armAfterLoad (hs : Keeps s₀ s) : Keeps s₀ (s.armAfterLoad c) := .ite (.heldEnter (.put hs)) (.carM (.rearmedEnter hs))

theorem Keeps.loadCarrier (hs : Keeps s₀ s) : Keeps s₀ (s.loadCarrier c zero past) :=
  .armAfterLoad (.inc32 (.raise (.foldl (fun _ _ h1 => .ite h1 (.monPost h1)) (.legsOf (.ite (.carM (.wrN (.raiseIf (.rearmedEnter
      hs)))) (.carM (.raiseIf (.rearmedEnter hs)))) (fun _ _ h1 => .loadLeg h1)))))

theorem Keeps.loadIfArmed (hs : Keeps s₀ s) : Keeps s₀ (s.loadIfArmed c zero past) := .ite (.loadCarrier hs) hs

theorem Keeps.unlate (hs : Keeps s₀ s) : Keeps s₀ (s.unlate c) := by
  unfold State.unlate
  split
  · exact hs
  · exact .ite (.carM (.wrN (.put (.pwmM hs)))) hs

theorem Keeps.armCarrier (hs : Keeps s₀ s) : Keeps s₀ (s.armCarrier c) := .ite (.carM (.unlate hs)) (.carM (.put hs))

theorem Keeps.stewardLand (hs : Keeps s₀ s) (hf : ∀ t, Keeps s₀ t → Keeps s₀ (f t)) : Keeps s₀ (s.stewardLand a v sameCycle f) :=
  .ite (hf _ hs) (.landPwm hs (fun _ h1 => hf _ h1))

theorem Keeps.loadallWrite (hs : Keeps s₀ s) : Keeps s₀ (s.loadallWrite mask sameCycle) :=
  .stewardLand hs (fun _ h1 => .foldl (fun _ _ h2 => .ite (.armCarrier h2) h2) h1)

theorem Keeps.loadCancel (hs : Keeps s₀ s) : Keeps s₀ (s.loadCancel c) := by
  unfold State.loadCancel
  dsimp only
  split
  · exact .ite (.pwmM hs) (.heldEnter (.rearmedEnter (.put hs)))
  · exact hs

theorem Keeps.loadcnclWrite (hs : Keeps s₀ s) : Keeps s₀ (s.loadcnclWrite mask) :=
  .landPwm hs (fun _ h1 => .foldl (fun _ _ h2 => .ite (.loadCancel h2) h2) h1)

theorem Keeps.shadowLate (hs : Keeps s₀ s) : Keeps s₀ (s.shadowLate c a v) := .pwmM (.raise (.carM hs))

theorem Keeps.shadowEnter (hs : Keeps s₀ s) : Keeps s₀ (s.shadowEnter sh v armsNow) :=
  .ite (.shadowLate hs) (.ite (.pwmM (.pwmM hs)) (.wr (.pwmM (.pwmM hs))))

theorem Keeps.shadowWrite (hs : Keeps s₀ s) : Keeps s₀ (s.shadowWrite sh v sameCycle) :=
  .stewardLand hs (fun _ h1 => .ite (.raise h1) (.pwmM (.shadowEnter h1)))

theorem Keeps.shadowRelease (hs : Keeps s₀ s) : Keeps s₀ (s.shadowRelease sh v arms) := .pwmM (.shadowEnter (.raiseIf hs))

theorem Keeps.edgeRepeat (hs : Keeps s₀ s) : Keeps s₀ (State.edgeRepeat z s n) := .legM hs

theorem Keeps.zeroAt (hs : Keeps s₀ s) : Keeps s₀ (s.zeroAt c past) := by
  refine .dcZero (.legsOf (.legsOf (.ite (.loadIfArmed (.fire (.legsOf (.carM ?_) (fun _ _ h1 => .edgeRepeat h1)))) (.fire (.legsOf
      (.carM ?_) (fun _ _ h1 => .edgeRepeat h1)))) (fun _ _ h1 => .legZeroNow h1)) (fun _ _ h1 => .resumeLeg h1))
  · split
    · exact .carM (.wrN (.legsOf hs (fun _ _ h1 => .legZero h1)))
    · exact .legsOf hs (fun _ _ h1 => .legZero h1)
  · split
    · exact .carM (.wrN (.legsOf hs (fun _ _ h1 => .legZero h1)))
    · exact .legsOf hs (fun _ _ h1 => .legZero h1)

theorem Keeps.carrierZero (hs : Keeps s₀ s) : Keeps s₀ (s.carrierZero c) := .ite (.zeroAt (.reachTau hs)) hs

theorem Keeps.carrierPeak (hs : Keeps s₀ s) : Keeps s₀ (s.carrierPeak c) :=
  .ite (.ite (.loadIfArmed (.fire (.carM (.reachTau hs)))) (.fire (.carM (.reachTau hs)))) hs

theorem Keeps.restart (hs : Keeps s₀ s) : Keeps s₀ (s.restart c past) :=
  .ite hs (.ite (.carM hs) (.legsOf (.zeroAt (.legsOf (.put (.carM hs)) (fun _ _ h1 => .legM h1))) (fun _ _ h1 => .legApply h1)))

theorem Keeps.carrierRestart (hs : Keeps s₀ s) : Keeps s₀ (s.carrierRestart c) :=
  .takeLaunch hs (fun _ _ h1 => .restart (.reachCount h1))

theorem Keeps.pwmRestartWrite (hs : Keeps s₀ s) : Keeps s₀ (s.pwmRestartWrite mask) :=
  .landPwm hs (fun _ h1 => .foldl (fun _ _ h2 => .ite (.restart h2) h2) h1)

theorem Keeps.noPulse (hs : Keeps s₀ s) : Keeps s₀ (s.noPulse n) := .legM hs

theorem Keeps.carrierStop (hs : Keeps s₀ s) : Keeps s₀ (s.carrierStop c) :=
  .legsOf (.carM (.put (.put hs))) (fun _ _ h1 => .legApply (.noPulse (.put h1)))

theorem Keeps.carrierCfgWrite (hs : Keeps s₀ s) : Keeps s₀ (s.carrierCfgWrite c v) :=
  .landPwm hs (fun _ h1 => .ite (.raise h1) (.ite (.put (.put (.put h1))) (.ite (.carrierStop (.put (.put h1))) (.put (.put h1)))))

theorem Keeps.edgeTake (hs : Keeps s₀ s) : Keeps s₀ (s.edgeTake n x v) :=
  .ite (.legM (.raiseIf hs)) (.legApply (.legM (.putB (.raiseIf hs))))

theorem Keeps.edgeAt (hs : Keeps s₀ s) : Keeps s₀ (s.edgeAt n x) :=
  .ite (.ite (.legM (.legM (.raise hs))) (.edgeTake (.legM (.raise hs)))) (.edgeTake hs)

theorem Keeps.refEdge (hs : Keeps s₀ s) : Keeps s₀ (s.refEdge n) := by
  refine .ite ?_ hs
  split
  · exact hs
  · exact .edgeAt (.reachTau hs)

theorem Keeps.deadTimeEnd (hs : Keeps s₀ s) : Keeps s₀ (s.deadTimeEnd n) := by
  refine .ite ?_ hs
  split
  · exact hs
  · exact .heldShow (.legApply (.reachNow hs))

theorem Keeps.forceSafeOn (hs : Keeps s₀ s) : Keeps s₀ (s.forceSafeOn n) := by
  refine .ite (.ite (.movedEdge (.ite (.movedEdge ?_) ?_)) (.ite (.movedEdge ?_) ?_)) hs
  · split
    · exact .legApply (.reachNow (.legApply (.legM (.reachNow hs))))
    · exact .legApply (.legM (.reachNow hs))
  · split
    · exact .legApply (.reachNow (.legApply (.legM (.reachNow hs))))
    · exact .legApply (.legM (.reachNow hs))
  · split
    · exact .legApply (.reachNow (.legApply (.legM (.reachNow hs))))
    · exact .legApply (.legM (.reachNow hs))
  · split
    · exact .legApply (.reachNow (.legApply (.legM (.reachNow hs))))
    · exact .legApply (.legM (.reachNow hs))

theorem Keeps.legOvrWrite (hs : Keeps s₀ s) : Keeps s₀ (s.legOvrWrite n v) := .landPwm hs (fun _ h1 => .legApply (.wrN h1))

theorem Keeps.legCfgLand (hs : Keeps s₀ s) : Keeps s₀ (s.legCfgLand n v) :=
  .ite (.raise hs) (.ite (.ite (.raise hs) (.legApply (.put hs))) (.legApply (.forceLeg (.ite (.ite (.ite (.legM (.ite (.noPulse
      (.wrN hs)) (.wrN hs))) (.ite (.noPulse (.wrN hs)) (.wrN hs))) (.legM (.ite (.legM (.ite (.noPulse (.wrN hs)) (.wrN hs))) (.ite
      (.noPulse (.wrN hs)) (.wrN hs))))) (.put (.ite (.legM (.ite (.noPulse (.wrN hs)) (.wrN hs))) (.ite (.noPulse (.wrN hs)) (.wrN
      hs))))))))

theorem Keeps.legCfgWrite (hs : Keeps s₀ s) : Keeps s₀ (s.legCfgWrite n v) := .landPwm hs (fun _ h1 => .legCfgLand h1)

theorem Keeps.forceCfgWrite (hs : Keeps s₀ s) : Keeps s₀ (s.forceCfgWrite a v) :=
  .landPwm hs (fun _ h1 => .forceUpdate (.plainWrite h1))

theorem Keeps.legTimeWrite (hs : Keeps s₀ s) : Keeps s₀ (s.legTimeWrite a v) := .landPwm hs (fun _ h1 => .plainWrite h1)

theorem Keeps.guardWrite (hs : Keeps s₀ s) : Keeps s₀ (s.guardWrite a v) := .plainWrite (.advance hs)

theorem Keeps.fltinSet (hs : Keeps s₀ s) : Keeps s₀ (s.fltinSet i b) := .forceSet hs

theorem Keeps.cycleEdges (hs : Keeps s₀ s) : Keeps s₀ s.cycleEdges := by
  unfold State.cycleEdges
  refine .foldl (fun t n ht => ?_) hs
  extract_lets k t1
  have h1 : Keeps s₀ t1 := by
    unfold t1
    split
    · exact .ite (.edgeAt ht) ht
    · exact ht
  split
  · exact .ite (.heldShow (.ballOn h1)) h1
  · exact h1

theorem Keeps.freezeNow (hs : Keeps s₀ s) : Keeps s₀ s.freezeNow := .ite hs (.pwmM (.put (.cycleEdges hs)))

theorem Keeps.pwmFreeze (hs : Keeps s₀ s) : Keeps s₀ s.pwmFreeze :=
  .ite (.ite (.forceLegs (.raise (.raise hs))) (.ite hs (.freezeNow (.advance hs)))) hs

theorem Keeps.unfreeze (hs : Keeps s₀ s) : Keeps s₀ s.unfreeze :=
  .ite (.foldl (fun _ _ h1 => .legApply h1) (.foldl (fun _ _ h1 => .ite (.restart h1) h1) (.foldl (fun _ _ h1 => .raiseIf h1) (.pwmM
      (.put hs))))) hs

theorem Keeps.pwmFreezeEnd (hs : Keeps s₀ s) : Keeps s₀ s.pwmFreezeEnd := .ite (.unfreeze hs) hs

theorem Keeps.pwmClockStop (hs : Keeps s₀ s) : Keeps s₀ s.pwmClockStop := .freezeNow hs

theorem Keeps.pwmClockReturn (hs : Keeps s₀ s) : Keeps s₀ s.pwmClockReturn := .ite hs (.unfreeze hs)

theorem Keeps.guardTrip (hs : Keeps s₀ s) : Keeps s₀ (s.guardTrip n) := by
  unfold State.guardTrip
  dsimp only
  split
  · exact hs
  · exact .legApply (.put (.raise (.reachNow hs)))

theorem Keeps.guardClear (hs : Keeps s₀ s) : Keeps s₀ (s.guardClear n) :=
  .ite (.put hs) (.ite hs (.ite (.raise hs) (.legApply (.legM (.put (.put hs))))))

theorem Keeps.legFlagsWrite (hs : Keeps s₀ s) : Keeps s₀ (s.legFlagsWrite n v) := .ite (.guardClear (.plainWrite hs)) (.plainWrite hs)

theorem Keeps.calibrate (hs : Keeps s₀ s) : Keeps s₀ (s.calibrate n spans) := .ite hs (.put (.raise hs))

theorem Keeps.fstatWrite (hs : Keeps s₀ s) : Keeps s₀ (s.fstatWrite v) :=
  .landPwm hs (fun _ h1 => .ite (.ite (.ite (.forceLegs (.put (.foldl (fun _ _ h2 => .ite (.forceClear h2) h2) h1))) (.foldl (fun _ _
      h2 => .ite (.forceClear h2) h2) h1)) (.ite (.raise (.raise (.ite (.forceLegs (.put (.foldl (fun _ _ h2 => .ite (.forceClear h2)
      h2) h1))) (.foldl (fun _ _ h2 => .ite (.forceClear h2) h2) h1)))) (.forceLegs (.put (.ite (.forceLegs (.put (.foldl (fun _ _ h2
      => .ite (.forceClear h2) h2) h1))) (.foldl (fun _ _ h2 => .ite (.forceClear h2) h2) h1)))))) (.ite (.forceLegs (.put (.foldl
      (fun _ _ h2 => .ite (.forceClear h2) h2) h1))) (.foldl (fun _ _ h2 => .ite (.forceClear h2) h2) h1)))

theorem Keeps.pwmCtrlWrite (hs : Keeps s₀ s) : Keeps s₀ (s.pwmCtrlWrite v) := .landPwm hs (fun _ h1 => .outputsChanged (.wrN h1))

/-! ### Drive -/

theorem Keeps.grpM (hs : Keeps s₀ s) : Keeps s₀ (s.grpM k f) := .same hs

theorem Keeps.setLock (hs : Keeps s₀ s) : Keeps s₀ (s.setLock k b) := .forceLegs (.putB (.same hs))

theorem Keeps.setFltn (hs : Keeps s₀ s) : Keeps s₀ (s.setFltn k v) := .put (.same hs)

theorem Keeps.breakShow (hs : Keeps s₀ s) : Keeps s₀ (s.breakShow k) := .putB hs

theorem Keeps.prime (hs : Keeps s₀ s) : Keeps s₀ (s.prime k) := .breakShow (.grpM hs)

theorem Keeps.sendFrame (hs : Keeps s₀ s) : Keeps s₀ (s.sendFrame k pair ka) := .grpM (.putB (.put (.legZeroNow hs)))

theorem Keeps.frameWaits (hs : Keeps s₀ s) : Keeps s₀ (s.frameWaits k pair) := .ite hs (.grpM (.raise hs))

theorem Keeps.dslFrameSend (hs : Keeps s₀ s) : Keeps s₀ (s.dslFrameSend k) := by
  refine .ite ?_ hs
  split
  · exact hs
  · exact .ite (.frameWaits (.reachNow hs)) (.sendFrame (.reachNow hs))

theorem Keeps.dslRefresh (hs : Keeps s₀ s) : Keeps s₀ (s.dslRefresh k) :=
  .ite (.ite (.frameWaits (.reachNow hs)) (.grpM (.sendFrame (.reachNow hs)))) hs

theorem Keeps.fillSlot (hs : Keeps s₀ s) : Keeps s₀ (s.fillSlot k pair) := .grpM hs

theorem Keeps.codeTake (hs : Keeps s₀ s) : Keeps s₀ (s.codeTake n v) :=
  .ite (.fillSlot (.foldl (fun _ _ h1 => .ite (.fillSlot h1) h1) (.wrN hs))) (.foldl (fun _ _ h1 => .ite (.fillSlot h1) h1) (.wrN hs))

theorem Keeps.codeWrite (hs : Keeps s₀ s) : Keeps s₀ (s.codeWrite n v sameCycle) :=
  .stewardLand hs fun _ h => .ite (.raise h) (.same (s := State.codeTake _ n v) (.codeTake h))

theorem Keeps.codeLost (hs : Keeps s₀ s) : Keeps s₀ (s.codeLost n) := .ite (.foldl (fun _ _ h1 => .grpM (.wrN h1)) (.raiseIf hs)) hs

theorem Keeps.codeRelease (hs : Keeps s₀ s) : Keeps s₀ (s.codeRelease n v) :=
  .same (s := (s.codeLost n).codeTake n v) (.codeTake (.codeLost hs))

theorem Keeps.refreshStart (hs : Keeps s₀ s) : Keeps s₀ (s.refreshStart n z) := .legApplyWith (.raiseIf (.inc32 (.legM hs)))

theorem Keeps.refreshStep (hs : Keeps s₀ s) : Keeps s₀ (s.refreshStep n r) := by
  unfold State.refreshStep
  split
  · exact .legApplyWith (.legM (.reachNow hs))
  · exact .ite (.legApplyWith (.legM (.reachNow hs))) (.legM (.legApplyWith (.legM (.reachNow hs))))
  · exact .legApplyWith (.ite (.legM (.reachNow hs)) (.legM (.putB (.reachNow hs))))

theorem Keeps.bootstrapRefresh (hs : Keeps s₀ s) : Keeps s₀ (s.bootstrapRefresh n) := by
  unfold State.bootstrapRefresh
  dsimp only
  split
  · exact .ite (.refreshStep hs) hs
  · exact .ite (.ite (.refreshStart (.ite (.legZeroNow (.reachTau hs)) hs)) (.ite (.legZeroNow (.reachTau hs)) hs)) hs

theorem Keeps.hsWrite (hs : Keeps s₀ s) : Keeps s₀ (s.hsWrite n v) := .landPwm hs (fun _ h1 => .plainWrite (.legZeroNow h1))

theorem Keeps.enterWait (hs : Keeps s₀ s) : Keeps s₀ (s.enterWait k) := .breakShow (.grpM (.put hs))

theorem Keeps.lockOut (hs : Keeps s₀ s) : Keeps s₀ (s.lockOut k) := .breakShow (.grpM (.raise (.put hs)))

theorem Keeps.countTry (hs : Keeps s₀ s) : Keeps s₀ (s.countTry k from_) :=
  .ite (.lockOut (.put (.ite (.grpM hs) hs))) (.enterWait (.put (.ite (.grpM hs) hs)))

theorem Keeps.unclear (hs : Keeps s₀ s) : Keeps s₀ (s.unclear k) := by
  unfold State.unclear
  split
  · exact hs
  · exact .ite (.grpM (.raise (.put (.put (.put hs))))) hs

theorem Keeps.faultReport (hs : Keeps s₀ s) : Keeps s₀ (s.faultReport k legs) :=
  .ite hs (.ite (.enterWait (.breakShow (.setLock (.grpM (.put (.raise (.unclear (.setFltn hs)))))))) (.breakShow (.setLock (.grpM
      (.put (.raise (.unclear (.setFltn hs))))))))

theorem Keeps.faultClassify (hs : Keeps s₀ s) : Keeps s₀ (s.faultClassify k leg width) :=
  .ite (.ite (.countTry (.grpM (.ite (.setFltn (.put (.put hs))) (.put (.put hs))))) (.ite (.prime (.grpM (.ite (.setFltn (.put (.put
      hs))) (.put (.put hs))))) (.breakShow (.grpM (.ite (.setFltn (.put (.put hs))) (.put (.put hs))))))) (.ite (.setFltn hs) hs)

theorem Keeps.retry (hs : Keeps s₀ s) : Keeps s₀ (s.retry k) :=
  .ite (.ite (.prime (.put (.grpM hs))) (.breakShow (.put (.grpM hs)))) (.breakShow (.put (.grpM hs)))

theorem Keeps.retryWaitEnd (hs : Keeps s₀ s) : Keeps s₀ (s.retryWaitEnd k fltn) := by
  unfold State.retryWaitEnd
  split
  · exact hs
  · exact .ite (.ite (.countTry (.setFltn (.reachNow hs))) (.ite (.retry (.grpM (.setFltn (.reachNow hs)))) (.setFltn (.reachNow
        hs)))) hs

theorem Keeps.burstSent (hs : Keeps s₀ s) : Keeps s₀ (s.burstSent k t) := .grpM (.foldl (fun _ _ h1 => .wrN (.legZeroNow h1)) hs)

theorem Keeps.primingEnd (hs : Keeps s₀ s) : Keeps s₀ (s.primingEnd k) := by
  unfold State.primingEnd
  split
  · exact hs
  · exact .ite (.raiseIf (.setLock (.grpM (.burstSent (.reachNow hs))))) (.enterWait (.setLock (.grpM (.burstSent (.reachNow hs)))))

theorem Keeps.tryWindowExpire (hs : Keeps s₀ s) : Keeps s₀ (s.tryWindowExpire k) := by
  unfold State.tryWindowExpire
  split
  · exact hs
  · exact .ite (.reachNow hs) (.grpM (.put (.reachNow hs)))

theorem Keeps.driveClear (hs : Keeps s₀ s) : Keeps s₀ (s.driveClear k) := .ite (.ite (.raise hs) (.retry (.grpM (.put (.put hs))))) hs

theorem Keeps.groupCfg (hs : Keeps s₀ s) : Keeps s₀ (s.groupCfg k v) :=
  .landPwm hs (fun _ h1 => .ite (.raise h1) (.ite (.ite (.breakShow (.setFltn (.put (.wrN h1)))) (.prime (.setFltn (.put (.wrN
      h1))))) (.ite (.setLock (.breakShow (.grpM (.put (.wrN h1))))) (.wrN h1))))

theorem Keeps.driveBreak (hs : Keeps s₀ s) : Keeps s₀ s.driveBreak := .foldl (fun _ _ h1 => .breakShow (.grpM h1)) hs

theorem Keeps.driveClockReturn (hs : Keeps s₀ s) : Keeps s₀ s.driveClockReturn := .foldl (fun _ _ h1 => .ite (.prime h1) h1) (.same hs)

theorem Keeps.driveWarning (hs : Keeps s₀ s) : Keeps s₀ s.driveWarning := .driveBreak (.foldl (fun _ _ h1 => .grpM h1) hs)

end

end Sys2Proof.Machine

/-! SUPPORT. What every operation keeps, continued: protection, PROBE, METER, SAFE and the boot. -/
namespace Sys2Proof.Machine

set_option Elab.async false

section
variable {s₀ s : State}

/-! ### Modin -/

theorem Keeps.inM (hs : Keeps s₀ s) : Keeps s₀ (s.inM n f) := .same hs

theorem Keeps.enabledIn (hs : Keeps s₀ s) (hf : ∀ t x2, Keeps s₀ t → Keeps s₀ (f t x2)) : Keeps s₀ (s.enabledIn g f) :=
  .foldl (fun _ _ h1 => .ite (hf _ _ h1) h1) hs

theorem Keeps.modWrite (hs : Keeps s₀ s) : Keeps s₀ (s.modWrite g a v) := .plainWrite (.same hs)

theorem Keeps.landMod (hs : Keeps s₀ s) (hf : ∀ t, Keeps s₀ t → Keeps s₀ (f t)) : Keeps s₀ (s.landMod g a v f) :=
  .ite (hf _ (.reachNow hs)) (.same hs)

theorem Keeps.inputLines (hs : Keeps s₀ s) : Keeps s₀ (s.inputLines n) :=
  .ite (.ite (.putB hs) (.forceSet (.putB hs))) (.forceSet (.ite (.putB hs) (.forceSet (.putB hs))))

theorem Keeps.fastShow (hs : Keeps s₀ s) : Keeps s₀ (s.fastShow n bits) := .wrN hs

theorem Keeps.overcurrentAssert (hs : Keeps s₀ s) : Keeps s₀ (s.overcurrentAssert n hi line) := by
  unfold State.overcurrentAssert
  dsimp only
  split
  · exact hs
  · exact .ite (.ite (.inputLines (.ite (.raise (.inM (.wrN hs))) (.raise (.inM (.wrN hs))))) (.wrN hs)) hs

theorem Keeps.overcurrentDeassert (hs : Keeps s₀ s) : Keeps s₀ (s.overcurrentDeassert n hi line) := by
  unfold State.overcurrentDeassert
  split
  · exact hs
  · exact .ite (.ite (.wrN hs) (.inputLines (.inM (.wrN hs)))) hs

theorem Keeps.clkloss (hs : Keeps s₀ s) : Keeps s₀ (s.clkloss n missing) :=
  .ite (.ite (.ite (.enabledIn hs fun _ _ h => .inputLines (.inM (.raise h))) hs) (.ite (.inputLines (.inM (.raise hs))) hs)) hs

theorem Keeps.stuckDetect (hs : Keeps s₀ s) : Keeps s₀ (s.stuckDetect n line) := .ite (.inputLines (.inM (.raise hs))) hs

theorem Keeps.manchester (hs : Keeps s₀ s) : Keeps s₀ (s.manchester n cell) := by
  refine .ite (.inputLines (.inM (.raise ?_))) hs
  split
  · exact hs
  · exact .reachNow hs

theorem Keeps.healthEnd (hs : Keeps s₀ s) : Keeps s₀ (s.healthEnd n k absent) := by
  unfold State.healthEnd
  dsimp only
  split
  · exact .ite (.inputLines (.inM hs)) (.ite (.inM hs) hs)
  · exact .ite (.inputLines (.inM hs)) (.ite (.inM hs) hs)
  · exact .ite (.inputLines (.inM (.reachNow hs))) hs

theorem Keeps.streamResult (hs : Keeps s₀ s) : Keeps s₀ (s.streamResult n v valid stamp) :=
  .foldl (fun _ _ h1 => .foldl (fun _ _ h2 => .ite (.same h2) h2) h1) hs

theorem Keeps.issue (hs : Keeps s₀ s) : Keeps s₀ (s.issue n e line) := by
  unfold State.issue
  extract_lets g t k m s1 i bits late arrive settled valid raw sat v stamp s2 s3 s4 s5 s6 s7 r s8 s9
  have h6 : Keeps s₀ s7 := .sampleSet (.inM (.setStamp (.raiseIf (.fastShow (.putB (.wrN (.reachNow hs)))))))
  have h8 : Keeps s₀ s8 := .streamResult (.dcResult h6)
  exact .sweepTells (.ite (.fireLater (.inc32 h8)) (.ite h8 (.advance h8)))

theorem Keeps.mainResult (hs : Keeps s₀ s) : Keeps s₀ (s.mainResult n line) := by
  refine .ite (.ite ?_ (.issue hs)) hs
  split
  · exact hs
  · exact .issue (.same hs)

theorem Keeps.captureStrobe (hs : Keeps s₀ s) : Keeps s₀ (s.captureStrobe g) :=
  .takeLaunch hs (fun _ _ h1 => .ite h1 (.ite (.ite (.raise h1) (.ite h1 (.same h1))) (.enabledIn (.same h1) (fun _ _ h2 => .inM h2))))

theorem Keeps.modinClockStart (hs : Keeps s₀ s) : Keeps s₀ (s.modinClockStart g e) :=
  .enabledIn (.same (s := s) (.same hs)) (fun _ _ h1 => .inputLines (.inM h1))

theorem Keeps.modinClockGate (hs : Keeps s₀ s) : Keeps s₀ (s.modinClockGate g) := by
  unfold State.modinClockGate
  extract_lets +onlyGivenNames m s1 s2
  have h1 : Keeps s₀ s1 := .ite (.same hs) hs
  have h2 : Keeps s₀ s2 := .put h1
  exact .same h2

theorem Keeps.modinClockStop (hs : Keeps s₀ s) : Keeps s₀ (s.modinClockStop g e) :=
  .enabledIn (.same hs) (fun _ _ h1 => .inputLines (.inM h1))

theorem Keeps.inputStart (hs : Keeps s₀ s) : Keeps s₀ (s.inputStart n) := .inM hs

theorem Keeps.strobeDrop (hs : Keeps s₀ s) : Keeps s₀ (s.strobeDrop n) := .same hs

theorem Keeps.inputStop (hs : Keeps s₀ s) : Keeps s₀ (s.inputStop n) := .inputLines (.inM (.strobeDrop (.put hs)))

theorem Keeps.inputCfg (hs : Keeps s₀ s) : Keeps s₀ (s.inputCfg n v) :=
  .ite (.ite (.raise hs) (.landMod hs (fun _ h1 => .inputStop h1))) (.ite (.raise hs) (.ite (.same hs) (.ite (.inputStart (.wrN hs))
      (.wrN hs))))

theorem Keeps.groupCfgWrite (hs : Keeps s₀ s) : Keeps s₀ (s.groupCfgWrite g v) := .ite (.raise hs) (.landMod hs (fun _ h1 => .wrN h1))

theorem Keeps.healthCfgWrite (hs : Keeps s₀ s) : Keeps s₀ (s.healthCfgWrite n v) :=
  .landMod hs (fun _ h1 => .inputLines (.plainWrite h1))

/-! ### Acu -/

theorem Keeps.acuM (hs : Keeps s₀ s) : Keeps s₀ (s.acuM f) := .same hs

theorem Keeps.acuShow (hs : Keeps s₀ s) : Keeps s₀ s.acuShow := .putB (.putB (.putB hs))

theorem Keeps.acuRefuse (hs : Keeps s₀ s) : Keeps s₀ (s.acuRefuse bad) := .raiseIf (.raise hs)

theorem Keeps.acuBegin (hs : Keeps s₀ s) : Keeps s₀ (s.acuBegin c) := .acuShow (.acuM hs)

theorem Keeps.acuNext (hs : Keeps s₀ s) : Keeps s₀ s.acuNext := by
  refine .ite (.acuShow hs) (.ite (.acuBegin (.acuM hs)) ?_)
  split
  · exact .acuBegin (.acuM hs)
  · split
    · exact .acuBegin hs
    · exact .ite (.acuBegin (.put hs)) (.acuShow hs)

theorem Keeps.acuSingle (hs : Keeps s₀ s) : Keeps s₀ s.acuSingle := .ite (.acuRefuse hs) (.ite (.acuRefuse hs) (.acuBegin hs))

theorem Keeps.acuListgo (hs : Keeps s₀ s) : Keeps s₀ s.acuListgo := .ite (.acuRefuse hs) (.acuNext (.acuM (.put (.put hs))))

theorem Keeps.listStop (hs : Keeps s₀ s) : Keeps s₀ s.listStop := .acuM (.put (.put hs))

theorem Keeps.acuListstop (hs : Keeps s₀ s) : Keeps s₀ s.acuListstop := .ite hs (.ite (.acuM hs) (.listStop hs))

theorem Keeps.acuCal (hs : Keeps s₀ s) : Keeps s₀ (s.acuCal full) := .ite (.acuRefuse hs) (.ite (.acuRefuse hs) (.acuNext (.acuM hs)))

theorem Keeps.acuYield (hs : Keeps s₀ s) : Keeps s₀ (s.acuYield c) := by
  unfold State.acuYield
  dsimp only
  split
  · exact .ite (.put (.acuM hs)) (.acuM hs)
  · exact .acuM hs
  · exact .acuM (.acuM hs)

theorem Keeps.acuUrgent (hs : Keeps s₀ s) : Keeps s₀ (s.acuUrgent t) := by
  refine .ite (.acuRefuse hs) (.ite hs ?_)
  split
  · exact .acuNext (.acuM hs)
  · exact .ite (.raise hs) (.ite (.acuShow (.acuM hs)) (.ite (.acuNext (.acuYield hs)) (.acuNext (.acuM (.raise hs)))))

theorem Keeps.acuCfgWrite (hs : Keeps s₀ s) : Keeps s₀ (s.acuCfgWrite v) :=
  .ite (.acuRefuse (.put (.put hs))) (.put (.put (.put (.put (.put hs)))))

theorem Keeps.acuListStep (hs : Keeps s₀ s) : Keeps s₀ s.acuListStep := .ite hs (.ite (.raise hs) (.acuNext (.put hs)))

theorem Keeps.listAdvance (hs : Keeps s₀ s) : Keeps s₀ (s.listAdvance last) :=
  .ite (.listStop hs) (.ite (.ite (.put (.raise hs)) (.listStop (.raise hs))) (.ite (.listStop (.raise hs)) (.put hs)))

theorem Keeps.badEntry (hs : Keeps s₀ s) : Keeps s₀ (s.badEntry w) := .acuNext (.listAdvance (.acuM (.wrN (.raise hs))))

theorem Keeps.acuStartConv (hs : Keeps s₀ s) : Keeps s₀ (s.acuStartConv c) := .ite (.ite hs (.acuM (.reachNow hs))) (.acuM hs)

theorem Keeps.urgentInvalid (hs : Keeps s₀ s) : Keeps s₀ s.urgentInvalid :=
  .fireLater (.acuNext (.acuM (.raise (.raise (.wrN (.wrN hs))))))

theorem Keeps.acuConversionStart (hs : Keeps s₀ s) : Keeps s₀ s.acuConversionStart := by
  unfold State.acuConversionStart
  split
  · exact .ite (.acuStartConv (.acuM hs)) (.badEntry hs)
  · exact .ite (.acuStartConv hs) (.urgentInvalid hs)
  · exact .ite (.acuStartConv hs) hs
  · exact hs

theorem Keeps.window (hs : Keeps s₀ s) : Keeps s₀ (s.window k v) := .ite (.ite (.put hs) hs) (.ite (.raise (.put hs)) hs)

theorem Keeps.windows (hs : Keeps s₀ s) : Keeps s₀ (s.windows ch v) := .foldl (fun _ _ h1 => .ite (.window h1) h1) hs

theorem Keeps.calStore (hs : Keeps s₀ s) : Keeps s₀ (s.calStore ch ofs gain) := .acuM (.blockWrite (.put (.wrN hs)))

theorem Keeps.calFinish (hs : Keeps s₀ s) : Keeps s₀ (s.calFinish c) :=
  .ite (.ite (.raise (.acuM hs)) (.ite (.calStore (.fresh (.acuM hs))) (.calStore (.acuM hs)))) (.calStore (.acuM hs))

theorem Keeps.calTake (hs : Keeps s₀ s) : Keeps s₀ (s.calTake raw valid) := by
  unfold State.calTake
  split
  · exact hs
  · exact .ite (.raise (.acuM hs)) (.ite (.calFinish hs) (.acuM hs))

theorem Keeps.acuIssue (hs : Keeps s₀ s) : Keeps s₀ (s.acuIssue c raw rawSat valid stamp) := by
  unfold State.acuIssue
  split
  refine .fireLater (.acuNext (.ite (.windows ?_) ?_))
  · split
    · exact .raise (.acuM (.sampleSet (.setStamp (.wrN (.wrN (.raiseIf hs))))))
    · exact .listAdvance (.wrN (.acuM (.sampleSet (.setStamp (.wrN (.wrN (.raiseIf hs)))))))
    · exact .raise (.wrN (.acuM (.sampleSet (.setStamp (.wrN (.wrN (.raiseIf hs)))))))
    · exact .calTake (.acuM (.sampleSet (.setStamp (.wrN (.wrN (.raiseIf hs))))))
  · split
    · exact .raise (.acuM (.sampleSet (.setStamp (.wrN (.wrN (.raiseIf hs))))))
    · exact .listAdvance (.wrN (.acuM (.sampleSet (.setStamp (.wrN (.wrN (.raiseIf hs)))))))
    · exact .raise (.wrN (.acuM (.sampleSet (.setStamp (.wrN (.wrN (.raiseIf hs)))))))
    · exact .calTake (.acuM (.sampleSet (.setStamp (.wrN (.wrN (.raiseIf hs))))))

theorem Keeps.acuResult (hs : Keeps s₀ s) : Keeps s₀ (s.acuResult line) := by
  unfold State.acuResult
  split
  · exact hs
  · split
    · exact hs
    · exact .ite (.acuIssue (.reachNow hs)) hs

theorem Keeps.acuListEnd (hs : Keeps s₀ s) : Keeps s₀ (s.acuListEnd c) := .ite hs (.ite (.acuM hs) (.listStop (.acuM hs)))

theorem Keeps.acuNoclk (hs : Keeps s₀ s) : Keeps s₀ s.acuNoclk := by
  unfold State.acuNoclk
  split
  · exact hs
  · exact .ite hs (.acuIssue (.raise (.ite (.ite hs (.reachNow hs)) (.acuListEnd (.ite hs (.reachNow hs))))))

theorem Keeps.acuMark (hs : Keeps s₀ s) : Keeps s₀ (s.acuMark g) := by
  unfold State.acuMark
  split
  · exact .ite (.acuM hs) hs
  · exact hs

theorem Keeps.acuReclock (hs : Keeps s₀ s) : Keeps s₀ (s.acuReclock g told sync) := by
  unfold State.acuReclock
  split
  · exact hs
  · refine .ite hs (.ite (.ite (.acuListEnd (.acuM hs)) (.acuM hs)) ?_)
    split
    · exact .acuM hs
    · exact hs

theorem Keeps.acuCalDurable (hs : Keeps s₀ s) : Keeps s₀ s.acuCalDurable := .ite (.raise (.acuM hs)) hs

theorem Keeps.acuCalLoad (hs : Keeps s₀ s) : Keeps s₀ s.acuCalLoad :=
  .ite hs (.put (.foldl (fun _ _ h1 => .ite (.wrN (.wrN h1)) (.wrN (.wrN h1))) hs))

theorem Keeps.acuWarning (hs : Keeps s₀ s) : Keeps s₀ s.acuWarning := .acuShow (.listStop (.acuM hs))

theorem Keeps.winCfgWrite (hs : Keeps s₀ s) : Keeps s₀ (s.winCfgWrite k v) := .ite (.wrN hs) (.put (.wrN hs))

theorem Keeps.acuCmdWrite (hs : Keeps s₀ s) : Keeps s₀ (s.acuCmdWrite v) := by
  unfold State.acuCmdWrite
  extract_lets +onlyGivenNames s1 s2 s3 s4 s5
  have hs1 : Keeps s₀ s1 := .ite (.acuSingle hs) hs
  have hs2 : Keeps s₀ s2 := .ite (.acuListgo hs1) hs1
  have hs3 : Keeps s₀ s3 := .ite (.acuListstop hs2) hs2
  have hs4 : Keeps s₀ s4 := .ite (.acuCal hs3) hs3
  have hs5 : Keeps s₀ s5 := .ite (.acuCal hs4) hs4
  exact .ite (.acuUrgent hs5) hs5

/-! ### Trip -/

theorem Keeps.protM (hs : Keeps s₀ s) : Keeps s₀ (s.protM f) := .same hs

theorem Keeps.blockLine (hs : Keeps s₀ s) : Keeps s₀ (s.blockLine l) := .ite hs (.forceSet hs)

theorem Keeps.tripUpdate (hs : Keeps s₀ s) : Keeps s₀ s.tripUpdate := .blockLine (.blockLine (.ite hs (.protM hs)))

/-! ### Probe -/

theorem Keeps.probeM (hs : Keeps s₀ s) : Keeps s₀ (s.probeM f) := .same hs

theorem Keeps.probeCommand (hs : Keeps s₀ s) : Keeps s₀ (s.probeCommand act) := .blockWrite hs

theorem Keeps.chipM (hs : Keeps s₀ s) : Keeps s₀ (s.chipM b f) := .probeM hs

theorem Keeps.probeTest (hs : Keeps s₀ s) : Keeps s₀ s.probeTest := .ite (.probeM (.chipM hs)) hs

theorem Keeps.probeRefRelease (hs : Keeps s₀ s) : Keeps s₀ (s.probeRefRelease g v) := .wr (.ite hs (.probeTest hs))

theorem Keeps.probeStop (hs : Keeps s₀ s) : Keeps s₀ s.probeStop := .ite (.probeCommand (.chipM (.put (.raise (.put hs))))) hs

theorem Keeps.probeMissed (hs : Keeps s₀ s) : Keeps s₀ (s.probeMissed b) := .ite (.reachNow (.reachCount hs)) (.reachNow hs)

theorem Keeps.probeStep (hs : Keeps s₀ s) : Keeps s₀ (s.probeStep l) := by
  unfold State.probeStep
  extract_lets +onlyGivenNames s1
  have hs1 : Keeps s₀ s1 := .probeTest (.reachNow hs)
  exact .ite hs1 (.ite (.chipM (.raise hs1)) (.probeCommand (.advance (.chipM (.ite (.put (.put (.probeM hs1))) (.put (.probeM
      hs1)))))))

theorem Keeps.probeStepMiss (hs : Keeps s₀ s) : Keeps s₀ s.probeStepMiss :=
  .ite (.probeStop (.put (.probeM (.chipM (.raise (.probeTest (.probeMissed hs))))))) hs

theorem Keeps.probeUpdate (hs : Keeps s₀ s) : Keeps s₀ (s.probeUpdate g u) := .ite (.ite (.chipM hs) hs) hs

theorem Keeps.probeResp (hs : Keeps s₀ s) : Keeps s₀ (s.probeResp cs d n j) := .ite (.wrN hs) hs

theorem Keeps.probeDecide (hs : Keeps s₀ s) : Keeps s₀ (s.probeDecide high) :=
  .ite (.tripUpdate (.raise (.put (.raiseIf (.probeM (.put hs)))))) (.probeM (.put hs))

theorem Keeps.probeReport (hs : Keeps s₀ s) : Keeps s₀ (s.probeReport n) := by
  unfold State.probeReport
  extract_lets +onlyGivenNames s1 cs d w z weak cause r x m t1 t2 s2 s3 s4 s5
  have h1 : Keeps s₀ s1 := .probeTest hs
  have h2 : Keeps s₀ s2 := .ite (.wr (.wr (.wr (.fresh (.fresh (.fresh h1)))))) (.wrN (.wrN (.wrN h1)))
  have h3 : Keeps s₀ s3 := .foldl (fun _ _ h => .probeResp h) h2
  have h5 : Keeps s₀ s5 := .probeM (.put (.raise (.wrN h3)))
  exact .ite (.probeDecide h5) (.put (.raise h5))

theorem Keeps.probePeriod (hs : Keeps s₀ s) : Keeps s₀ s.probePeriod := .ite (.probeReport (.reachCount hs)) hs

theorem Keeps.probeSettle (hs : Keeps s₀ s) : Keeps s₀ s.probeSettle := .ite (.probeReport hs) hs

theorem Keeps.islClear (hs : Keeps s₀ s) : Keeps s₀ s.islClear := .ite (.ite (.tripUpdate (.put hs)) (.raise hs)) (.probeM hs)

theorem Keeps.probeCheck (hs : Keeps s₀ s) : Keeps s₀ s.probeCheck := .raiseIf (.putB hs)

theorem Keeps.probeAnchor (hs : Keeps s₀ s) : Keeps s₀ s.probeAnchor := .probeM hs

theorem Keeps.probeWait (hs : Keeps s₀ s) : Keeps s₀ s.probeWait := .put hs

theorem Keeps.probeTake (hs : Keeps s₀ s) : Keeps s₀ s.probeTake := .probeWait (.probeAnchor (.probeCheck hs))

theorem Keeps.probeSwitch (hs : Keeps s₀ s) : Keeps s₀ (s.probeSwitch was) := by
  unfold State.probeSwitch
  extract_lets +onlyGivenNames goes n old s1 s2 s3
  have h1 : Keeps s₀ s1 := .probeM (.probeStop hs)
  have h2 : Keeps s₀ s2 := .ite (.probeCheck h1) (.probeAnchor (.probeCheck h1))
  have h3 : Keeps s₀ s3 := .probeM (.probeWait h2)
  exact .tripUpdate (.chipM h3)

/-! ### Grid -/

theorem Keeps.gpM (hs : Keeps s₀ s) : Keeps s₀ (s.gpM g f) := .same hs

theorem Keeps.gpChannel (hs : Keeps s₀ s) : Keeps s₀ (s.gpChannel g c v ok u) := .wr (.sampleSet hs)

theorem Keeps.gpInvalid (hs : Keeps s₀ s) : Keeps s₀ (s.gpInvalid g u) :=
  .gpM (.put (.put (.raiseIf (.foldl (fun _ _ h1 => .gpChannel h1) hs))))

theorem Keeps.gpCheckOne (hs : Keeps s₀ s) : Keeps s₀ (s.gpCheckOne g) := .ite (.putB hs) (.gpInvalid (.putB hs))

theorem Keeps.gpRestart (hs : Keeps s₀ s) : Keeps s₀ (s.gpRestart g) := .gpM (.gpInvalid hs)

theorem Keeps.gpUpdate (hs : Keeps s₀ s) : Keeps s₀ (s.gpUpdate g u q) :=
  .setStamp (.inc32 (.gpM (.putB (.putB (.putB (.putB (.putB (.raiseIf (.raiseIf (.foldl (fun _ _ h1 => .gpChannel h1)
    (.gpM (.raiseIf (.raiseIf hs)))))))))))))

theorem Keeps.frefWrite (hs : Keeps s₀ s) : Keeps s₀ (s.frefWrite g v) := .ite (.raise hs) (.gpM (.wr hs))

theorem Keeps.seqRefRelease (hs : Keeps s₀ s) : Keeps s₀ (s.seqRefRelease g v) := .gpM (.wr (.raiseIf hs))

theorem Keeps.capM (hs : Keeps s₀ s) : Keeps s₀ (s.capM f) := .protM hs

theorem Keeps.capArm (hs : Keeps s₀ s) : Keeps s₀ s.capArm := .capM (.put (.put hs))

theorem Keeps.dcArm (hs : Keeps s₀ s) : Keeps s₀ s.dcArm := .ite hs (.ite (.raise hs) (.capArm hs))

theorem Keeps.capTrigger (hs : Keeps s₀ s) : Keeps s₀ (s.capTrigger cause) := by
  unfold State.capTrigger
  split
  · exact .capM (.put hs)
  · exact .capM hs
  · exact .raise hs

theorem Keeps.capPickup (hs : Keeps s₀ s) : Keeps s₀ (s.capPickup k) := .ite (.capTrigger hs) hs

theorem Keeps.capLatch (hs : Keeps s₀ s) : Keeps s₀ (s.capLatch k) := .ite (.capTrigger hs) hs

theorem Keeps.memWords (hs : Keeps s₀ s) : Keeps s₀ (s.memWords a l) := by
  induction l generalizing s a with
  | nil => exact hs
  | cons v t ih => exact ih (.memWr hs)

theorem Keeps.dcFrame (hs : Keeps s₀ s) : Keeps s₀ s.dcFrame := .ite (.capM (.put (.memWords (.reachCount hs)))) hs

theorem Keeps.dcPostComplete (hs : Keeps s₀ s) : Keeps s₀ s.dcPostComplete :=
  .ite (.capM (.put (.foldl (fun _ _ h1 => .mramWrite h1) hs))) hs

theorem Keeps.mramWords (hs : Keeps s₀ s) : Keeps s₀ (s.mramWords a l) := by
  induction l generalizing s a with
  | nil => exact hs
  | cons v t ih => exact ih (.mramWrite hs)

theorem Keeps.dcCopyComplete (hs : Keeps s₀ s) : Keeps s₀ s.dcCopyComplete :=
  .ite (.ite (.dcArm (.put (.raise (.capM (.inc32 (.wrN (.mramFlush (.mramWrite (.mramWords (.mramWords hs)))))))))) (.put (.raise
      (.capM (.inc32 (.wrN (.mramFlush (.mramWrite (.mramWords (.mramWords hs)))))))))) hs

theorem Keeps.stgM (hs : Keeps s₀ s) : Keeps s₀ (s.stgM k f) := .protM hs

theorem Keeps.protShow (hs : Keeps s₀ s) : Keeps s₀ s.protShow := .putB (.putB (.foldl (fun _ _ h1 => .putB (.putB (.putB h1))) hs))

theorem Keeps.stgLatch (hs : Keeps s₀ s) : Keeps s₀ (s.stgLatch k) :=
  .ite hs (.capLatch (.tripUpdate (.protShow (.raise (.raise (.stgM hs))))))

theorem Keeps.stgPickup (hs : Keeps s₀ s) : Keeps s₀ (s.stgPickup k t) :=
  .ite hs (.ite (.stgLatch (.capPickup (.protShow (.stgM (.raise (.put hs)))))) (.capPickup (.protShow (.stgM (.raise (.put hs))))))

theorem Keeps.stgDrop (hs : Keeps s₀ s) : Keeps s₀ (s.stgDrop k) := .protShow (.stgM (.put hs))

theorem Keeps.stgEval (hs : Keeps s₀ s) : Keeps s₀ (s.stgEval k q t) :=
  .ite (.ite (.stgDrop hs) hs) (.ite (.ite (.ite (.stgDrop (.stgM hs)) (.stgM hs)) (.ite (.stgPickup (.stgM hs)) (.stgM hs))) (.ite
      (.stgPickup hs) (.ite (.stgM hs) hs)))

theorem Keeps.stgCond (hs : Keeps s₀ s) : Keeps s₀ (s.stgCond k b t) := .ite (.stgPickup hs) (.ite (.stgDrop hs) hs)

theorem Keeps.stagesEval (hs : Keeps s₀ s) : Keeps s₀ (s.stagesEval inv t) :=
  .raiseIf (.ite (.stgEval (.stgEval (.foldl (fun _ _ h1 => .stgEval h1) hs))) (.foldl (fun _ _ h1 => .stgEval h1) hs))

theorem Keeps.ocEval (hs : Keeps s₀ s) : Keeps s₀ (s.ocEval u) := .stgEval (.stgEval hs)

theorem Keeps.curveM (hs : Keeps s₀ s) : Keeps s₀ (s.curveM c f) := .protM hs

theorem Keeps.curveEval (hs : Keeps s₀ s) : Keeps s₀ (s.curveEval c t) := by
  refine .ite (.curveM (.put hs)) (.ite hs (.ite (.curveM (.put hs)) ?_))
  extract_lets s1
  have h1 : Keeps s₀ s1 := .curveM hs
  split
  · exact .put h1
  · refine .ite h1 ?_
    extract_lets spent
    split
    · exact .put h1
    · exact .ite (.curveM (.put h1)) (.put h1)

theorem Keeps.regionUpdate (hs : Keeps s₀ s) : Keeps s₀ (s.regionUpdate t) := by
  unfold State.regionUpdate
  extract_lets +onlyGivenNames old new running s4 s5
  have hs4 : Keeps s₀ s4 := .putB (.put hs)
  have hs5 : Keeps s₀ s5 := .stgCond hs4
  exact .ite hs5 (.ite (.capTrigger (.tripUpdate (.ite (.sweepAbortAll (.probeStop (.raiseIf (.raise hs5)))) (.raiseIf (.raise
      hs5))))) (.tripUpdate (.ite (.sweepAbortAll (.probeStop (.raiseIf (.raise hs5)))) (.raiseIf (.raise hs5)))))

theorem Keeps.sequencer (hs : Keeps s₀ s) : Keeps s₀ (s.sequencer t) :=
  .ite (.regionUpdate (.foldl (fun _ _ h1 => .curveEval h1) (.putB hs))) hs

theorem Keeps.wordChannels (hs : Keeps s₀ s) : Keeps s₀ (s.wordChannels g u) := .gpChannel (.gpChannel (.gpChannel hs))

theorem Keeps.gridUpdate (hs : Keeps s₀ s) : Keeps s₀ (s.gridUpdate g q) :=
  .ite (.fireLater (.probeUpdate (.wordChannels (.ite (.protM (.sequencer (.stagesEval (.gpUpdate (.reachCount (.gpCheckOne hs))))))
      (.gpUpdate (.reachCount (.gpCheckOne hs))))))) (.gpCheckOne hs)

theorem Keeps.seqInput (hs : Keeps s₀ s) : Keeps s₀ (s.seqInput g j line) :=
  .ite (.ite (.ocEval (.gpM (.reachNow hs))) (.gpM (.reachNow hs))) hs

theorem Keeps.stageLatch (hs : Keeps s₀ s) : Keeps s₀ (s.stageLatch k) := by
  unfold State.stageLatch
  split
  · exact hs
  · exact .ite (.stgLatch (.reachNow hs)) hs

theorem Keeps.excursionReturn (hs : Keeps s₀ s) : Keeps s₀ (s.excursionReturn c) := by
  unfold State.excursionReturn
  split
  · exact .ite hs (.regionUpdate (.curveM (.reachNow hs)))
  · exact hs

theorem Keeps.curveExpire (hs : Keeps s₀ s) : Keeps s₀ (s.curveExpire c) := by
  unfold State.curveExpire
  split
  · exact .ite hs (.regionUpdate (.curveM (.put (.reachNow hs))))
  · exact hs

theorem Keeps.protTimeout (hs : Keeps s₀ s) : Keeps s₀ s.protTimeout :=
  .ite hs (.protM (.stagesEval (.ite (.gpInvalid (.reachNow hs)) (.reachNow hs))))

theorem Keeps.protSwtrip (hs : Keeps s₀ s) : Keeps s₀ s.protSwtrip := .stgCond (.stgCond hs)

theorem Keeps.triplatClear (hs : Keeps s₀ s) : Keeps s₀ (s.triplatClear mask) := .tripUpdate (.protShow (.put (.raiseIf hs)))

theorem Keeps.gpCheck (hs : Keeps s₀ s) : Keeps s₀ s.gpCheck := .foldl (fun _ _ h1 => .gpCheckOne h1) hs

theorem Keeps.protSwitch (hs : Keeps s₀ s) : Keeps s₀ (s.protSwitch changed) :=
  .tripUpdate (.gpCheck (.foldl (fun _ _ h1 => .gpRestart h1) (.protShow (.put (.protM hs)))))

theorem Keeps.seqStop (hs : Keeps s₀ s) : Keeps s₀ s.seqStop := .foldl (fun _ _ h1 => .gpRestart h1) hs

theorem Keeps.capStop (hs : Keeps s₀ s) : Keeps s₀ s.capStop := .put (.raiseIf hs)

theorem Keeps.protWarning (hs : Keeps s₀ s) : Keeps s₀ s.protWarning := .protM (.capStop hs)

/-! ### Meter -/

theorem Keeps.metM (hs : Keeps s₀ s) : Keeps s₀ (s.metM f) := .same hs

theorem Keeps.ptM (hs : Keeps s₀ s) : Keeps s₀ (s.ptM p f) := .metM hs

theorem Keeps.plsM (hs : Keeps s₀ s) : Keeps s₀ (s.plsM q f) := .metM hs

theorem Keeps.segSet (hs : Keeps s₀ s) : Keeps s₀ (s.segSet p f) := .put hs

theorem Keeps.pulseDue (hs : Keeps s₀ s) : Keeps s₀ (s.pulseDue q) := by
  refine .ite (.put (.plsM ?_)) (.sat16 (.plsM ?_))
  · split
    · exact .raiseIf hs
    · exact hs
  · split
    · exact .raiseIf hs
    · exact hs

theorem Keeps.pulsesDue (hs : Keeps s₀ s) : Keeps s₀ (s.pulsesDue q n) := by
  induction n generalizing s with
  | zero => exact hs
  | succ n ih => exact ih (.pulseDue hs)

theorem Keeps.pulseFeed (hs : Keeps s₀ s) : Keeps s₀ (s.pulseFeed p a inc) := .foldl (fun _ _ h1 => .ite (.pulsesDue (.plsM h1)) h1) hs

theorem Keeps.energy (hs : Keeps s₀ s) : Keeps s₀ (s.energy p a inc) := .ite hs (.pulseFeed (.ite (.ptM hs) (.ptM hs)))

theorem Keeps.pulseStart (hs : Keeps s₀ s) : Keeps s₀ (s.pulseStart q) := by
  refine .ite hs ?_
  split
  · exact hs
  · exact .plsM (.put (.put (.reachNow hs)))

theorem Keeps.pulseEnd (hs : Keeps s₀ s) : Keeps s₀ (s.pulseEnd q) := by
  unfold State.pulseEnd
  split
  · exact .ite (.put (.reachNow hs)) hs
  · exact hs

theorem Keeps.mpRefilter (hs : Keeps s₀ s) : Keeps s₀ (s.mpRefilter p noload) := .putB (.segSet hs)

theorem Keeps.mpStart (hs : Keeps s₀ s) : Keeps s₀ (s.mpStart p noload) := .ptM (.mpRefilter hs)

theorem Keeps.testApply (hs : Keeps s₀ s) : Keeps s₀ (s.testApply p) :=
  .ite hs (.ite (.mpStart (.ptM (.fresh (.raise (.put hs))))) (.mpStart (.put hs)))

theorem Keeps.missCount (hs : Keeps s₀ s) : Keeps s₀ (s.missCount p) := .wrN hs

theorem Keeps.sampleEnergy (hs : Keeps s₀ s) : Keeps s₀ (s.sampleEnergy p x) :=
  .ite (.ite (.energy hs) (.ite (.energy hs) hs)) (.energy (.ite (.energy hs) (.ite (.energy hs) hs)))

theorem Keeps.mpSample (hs : Keeps s₀ s) : Keeps s₀ (s.mpSample p S x) := by
  unfold State.mpSample
  extract_lets +onlyGivenNames s1
  have hs1 : Keeps s₀ s1 := .ite hs (.testApply hs)
  refine .ite (.put hs1) (.ite (.ptM (.ite (.missCount (.ptM (.ite (.mpRefilter (.put hs1)) (.put hs1)))) (.ptM (.ite (.mpRefilter
      (.put hs1)) (.put hs1))))) ?_)
  split
  · exact .ptM (.put (.raise (.missCount (.ite (.missCount (.ptM (.ite (.mpRefilter (.put hs1)) (.put hs1)))) (.ptM (.ite
        (.mpRefilter (.put hs1)) (.put hs1)))))))
  · exact .ite (.ptM (.put (.ite (.missCount (.ptM (.ite (.mpRefilter (.put hs1)) (.put hs1)))) (.ptM (.ite (.mpRefilter (.put hs1))
        (.put hs1)))))) (.sampleEnergy (.ptM (.put (.ite (.missCount (.ptM (.ite (.mpRefilter (.put hs1)) (.put hs1)))) (.ptM (.ite
        (.mpRefilter (.put hs1)) (.put hs1)))))))

theorem Keeps.meterCapture (hs : Keeps s₀ s) : Keeps s₀ (s.meterCapture t) := .metM (.foldl (fun _ _ h1 => .ptM h1) hs)

theorem Keeps.saveBegin (hs : Keeps s₀ s) : Keeps s₀ s.saveBegin := .ite hs (.put (.blockWrite hs))

theorem Keeps.saveRetry (hs : Keeps s₀ s) : Keeps s₀ s.saveRetry := .ite (.saveBegin hs) hs

theorem Keeps.meterSample (hs : Keeps s₀ s) : Keeps s₀ (s.meterSample x) :=
  .ite (.metM (.saveRetry (.meterCapture (.ite (.reachCount hs) (.advance hs))))) (.foldl (fun _ _ h1 => .mpSample h1) (.metM
      (.saveRetry (.meterCapture (.ite (.reachCount hs) (.advance hs))))))

theorem Keeps.resWords (hs : Keeps s₀ s) : Keeps s₀ (s.resWords p k l) := by
  induction l generalizing s k with
  | nil => exact hs
  | cons v t ih => exact ih (.wrN hs)

theorem Keeps.harmWords (hs : Keeps s₀ s) : Keeps s₀ (s.harmWords p c l) := by
  induction l generalizing s c with
  | nil => exact hs
  | cons v t ih => exact ih (.foldl (fun _ _ h => .wrN h) hs)

theorem Keeps.windowEnergy (hs : Keeps s₀ s) : Keeps s₀ (s.windowEnergy p w len) :=
  .energy (.ite (.ite (.energy (.energy hs)) (.ite (.energy (.energy hs)) (.energy hs))) (.energy (.ite (.energy (.energy hs)) (.ite
      (.energy (.energy hs)) (.energy hs)))))

theorem Keeps.noloadDecide (hs : Keeps s₀ s) : Keeps s₀ (s.noloadDecide p w) :=
  .ite (.ite (.raise (.put hs)) hs) (.ite (.raise (.put hs)) hs)

theorem Keeps.windowTake (hs : Keeps s₀ s) : Keeps s₀ (s.windowTake p w freq len) :=
  .noloadDecide (.segSet (.ite (.harmWords (.resWords hs)) (.windowEnergy (.harmWords (.resWords hs)))))

theorem Keeps.windowEnd (hs : Keeps s₀ s) : Keeps s₀ (s.windowEnd p x) := by
  refine .ite hs (.ptM ?_)
  split
  · exact .wrN (.metM (.inc32 (.wrN (.wrN (.reachCount hs)))))
  · exact .windowTake (.wrN (.metM (.inc32 (.wrN (.wrN (.reachCount hs))))))

theorem Keeps.snapRequest (hs : Keeps s₀ s) : Keeps s₀ (s.snapRequest p t) := .ite hs (.ite (.raise hs) (.ptM hs))

theorem Keeps.accWords (hs : Keeps s₀ s) : Keeps s₀ (s.accWords lo acc) := .wrN (.wrN (.wrN hs))

theorem Keeps.snapWritten (hs : Keeps s₀ s) : Keeps s₀ (s.snapWritten p) := by
  unfold State.snapWritten
  split
  · exact hs
  · exact .ite hs (.ptM (.raise (.inc32 (.wrN (.wrN (.foldl (fun _ _ h1 => .accWords h1) hs))))))

theorem Keeps.energyRead (hs : Keeps s₀ s) : Keeps s₀ (s.energyRead p a) := .accWords hs

theorem Keeps.saveStart (hs : Keeps s₀ s) : Keeps s₀ (s.saveStart kind time counter) := .ite (.saveBegin (.metM hs)) (.metM hs)

theorem Keeps.periodicSave (hs : Keeps s₀ s) : Keeps s₀ s.periodicSave := .ite hs (.metM (.saveStart (.reachCount hs)))

theorem Keeps.saveDone (hs : Keeps s₀ s) : Keeps s₀ (s.saveDone ok) := by
  unfold State.saveDone
  split
  · exact hs
  · exact .ite hs (.ite (.ite hs (.saveBegin (.metM (.put (.put (.raise (.put (.inc32 (.mramFlush (.mramWrite (.mramWords
        hs))))))))))) (.put (.put (.raise hs))))

theorem Keeps.tsgWrite (hs : Keeps s₀ s) : Keeps s₀ (s.tsgWrite v) := .ite (.raise hs) (.wrN hs)

theorem Keeps.meterSwitch (hs : Keeps s₀ s) : Keeps s₀ (s.meterSwitch old counter) := by
  unfold State.meterSwitch
  refine .saveStart (.foldl (fun t p ht => ?_) hs)
  extract_lets bad t1 anew
  have h1 : Keeps s₀ t1 := .raiseIf (.putB ht)
  exact .ite (.mpStart (.ptM h1)) h1

theorem Keeps.meterWarning (hs : Keeps s₀ s) : Keeps s₀ s.meterWarning := .metM (.put (.foldl (fun _ _ h1 => .put h1) hs))

theorem Keeps.bodyRestore (hs : Keeps s₀ s) : Keeps s₀ (s.bodyRestore a) := .foldl (fun _ _ h1 => .put h1) (.metM hs)

theorem Keeps.meterRestore (hs : Keeps s₀ s) : Keeps s₀ (s.meterRestore csb) := by
  unfold State.meterRestore
  extract_lets +onlyGivenNames newest s1 useCsb s2 s3
  clear_value newest
  have h1 : Keeps s₀ s1 := by
    unfold s1
    split
    · exact .metM (.put (.wrN hs))
    · exact hs
  have h2 : Keeps s₀ s2 := by
    refine .ite ?_ ?_
    · split
      · exact .saveStart (.raise (.bodyRestore h1))
      · exact h1
    · split
      · exact .saveStart (.foldl (fun _ _ h => .ite (.metM (.wrN h)) h) (.raise (.bodyRestore h1)))
      · exact .saveStart (.put h1)
  exact .foldl (fun _ _ h => .mpStart (.raiseIf (.putB h))) (.put h2)

/-! ### Safe -/

theorem Keeps.safeM (hs : Keeps s₀ s) : Keeps s₀ (s.safeM f) := .same hs

theorem Keeps.readbackShow (hs : Keeps s₀ s) : Keeps s₀ s.readbackShow := .put (.put hs)

theorem Keeps.safeEval (hs : Keeps s₀ s) : Keeps s₀ s.safeEval :=
  .raiseIf (.readbackShow (.put (.put (.safeM (.put (.put (.put (.put (.safeM hs)))))))))

theorem Keeps.safeProcEnd (hs : Keeps s₀ s) : Keeps s₀ s.safeProcEnd := by
  unfold State.safeProcEnd
  split
  · exact hs
  · exact .raise (.put (.safeM (.ite (.put hs) hs)))

theorem Keeps.lockRecord (hs : Keeps s₀ s) : Keeps s₀ (s.lockRecord cause idx chB) := .putB (.put (.put hs))

theorem Keeps.safeUndone (hs : Keeps s₀ s) : Keeps s₀ s.safeUndone := by
  unfold State.safeUndone
  split
  · exact hs
  · exact .ite (.safeEval (.raise (.safeM (.wrN (.put (.put (.wrN hs))))))) hs

theorem Keeps.safeLock (hs : Keeps s₀ s) : Keeps s₀ (s.safeLock cause idx chB) :=
  .ite (.ite (.lockRecord (.safeUndone (.safeProcEnd hs))) (.safeUndone (.safeProcEnd hs))) (.safeEval (.raise (.put (.put (.safeM
      (.lockRecord (.safeUndone (.safeProcEnd hs))))))))

theorem Keeps.safeRecord (hs : Keeps s₀ s) : Keeps s₀ s.safeRecord := .ite (.safeM hs) hs

theorem Keeps.readbackFault (hs : Keeps s₀ s) : Keeps s₀ (s.readbackFault j chB) := .safeLock (.readbackShow (.safeM (.reachNow hs)))

theorem Keeps.safeInput (hs : Keeps s₀ s) : Keeps s₀ (s.safeInput i chB level held) :=
  .ite (.putB hs) (.safeEval (.safeM (.safeM (.safeM (.putB hs)))))

theorem Keeps.safeDiscrepancy (hs : Keeps s₀ s) : Keeps s₀ (s.safeDiscrepancy i) := by
  unfold State.safeDiscrepancy
  split
  · exact .ite (.safeLock (.fresh (.reachNow hs))) hs
  · exact hs

theorem Keeps.safeRaw (hs : Keeps s₀ s) : Keeps s₀ (s.safeRaw rawA rawB) := .put (.put hs)

theorem Keeps.testPulseStart (hs : Keeps s₀ s) : Keeps s₀ (s.testPulseStart onB rawA rawB) := by
  unfold State.testPulseStart
  split
  · exact hs
  · exact .ite hs (.safeRaw (.ite (.inc32 (.safeM (.reachNow hs))) (.safeM (.reachNow hs))))

theorem Keeps.testPulseCheck (hs : Keeps s₀ s) : Keeps s₀ (s.testPulseCheck onB rawA rawB) := by
  unfold State.testPulseCheck
  extract_lets p
  split
  · extract_lets s1 s2
    have h2 : Keeps s₀ s2 := .safeM (.safeRaw (.reachNow hs))
    split
    · exact h2
    · exact .safeLock h2
  · exact hs

theorem Keeps.testPulseEnd (hs : Keeps s₀ s) : Keeps s₀ (s.testPulseEnd onB) := by
  unfold State.testPulseEnd
  dsimp only
  split
  · exact hs
  · exact .safeM (.reachNow hs)

theorem Keeps.safePwmLoss (hs : Keeps s₀ s) : Keeps s₀ s.safePwmLoss :=
  .ite hs (.ite (.safeLock (.put (.reachNow hs))) (.safeEval (.put (.reachNow hs))))

theorem Keeps.safePwmReturn (hs : Keeps s₀ s) : Keeps s₀ s.safePwmReturn := .ite (.safeEval (.put hs)) hs

theorem Keeps.safeSupply (hs : Keeps s₀ s) : Keeps s₀ s.safeSupply := .safeEval (.put hs)

theorem Keeps.safeSupplyEnd (hs : Keeps s₀ s) : Keeps s₀ s.safeSupplyEnd := .safeEval (.put hs)

theorem Keeps.safeResetStart (hs : Keeps s₀ s) : Keeps s₀ s.safeResetStart := by
  unfold State.safeResetStart
  split
  · exact .put (.safeM hs)
  · exact hs

theorem Keeps.safeResetRise (hs : Keeps s₀ s) : Keeps s₀ (s.safeResetRise us selfOk) := by
  unfold State.safeResetRise
  split
  · exact .ite (.put (.safeM (.reachNow hs))) (.safeProcEnd (.reachNow hs))
  · exact hs

theorem Keeps.safeResetDone (hs : Keeps s₀ s) : Keeps s₀ s.safeResetDone := by
  unfold State.safeResetDone
  split
  · exact .safeEval (.raise (.put (.put (.put (.put (.put (.put (.safeM hs))))))))
  · exact hs

theorem Keeps.safeSelftestDone (hs : Keeps s₀ s) : Keeps s₀ (s.safeSelftestDone passed) :=
  .ite hs (.ite (.safeEval (.safeM (.put hs))) (.safeLock (.safeM (.put hs))))

theorem Keeps.safeShowSet (hs : Keeps s₀ s) : Keeps s₀ s.safeShowSet := .putB (.wrN hs)

theorem Keeps.safeDeliver (ht : Keeps s₀ t) (hs : Keeps s₀ s) : Keeps s₀ (s.safeDeliver t crcOk) :=
  .ite (.safeEval (.safeM (.safeM (.raise (.safeShowSet (.safeProcEnd (.safeM ht))))))) (.safeLock (.safeProcEnd hs))

theorem Keeps.safePowerUp (hs : Keeps s₀ s) : Keeps s₀ (s.safePowerUp a) := by
  unfold State.safePowerUp
  extract_lets +onlyGivenNames s1 s2 s3 s4
  have hs1 : Keeps s₀ s1 := .same hs
  have hs2 : Keeps s₀ s2 := .put hs1
  have hs3 : Keeps s₀ s3 := by
    unfold s3
    split
    · exact hs2
    · exact .safeShowSet (.foldl (fun _ _ h1 => .wr h1) hs2)
  have hs4 : Keeps s₀ s4 := .safeEval (.put hs3)
  split
  · exact .raise (.put (.wrN hs4))
  · exact .ite (.safeLock hs4) hs4

theorem Keeps.safeRun (hs : Keeps s₀ s) (hf : ∀ t, Keeps s₀ t → Keeps s₀ (f t)) : Keeps s₀ (s.safeRun f) := .ite hs (hf _ hs)

/-! ### Sec -/

theorem Keeps.secM (hs : Keeps s₀ s) : Keeps s₀ (s.secM f) := .same hs

theorem Keeps.wrAll (hs : Keeps s₀ s) : Keeps s₀ (s.wrAll ws) := .foldl (fun _ _ h1 => .wr h1) hs

theorem Keeps.secShow (hs : Keeps s₀ s) : Keeps s₀ s.secShow := .putB (.put (.wrAll (.wrAll (.wrAll hs))))

theorem Keeps.cpuM (hs : Keeps s₀ s) : Keeps s₀ (s.cpuM c f) := .same hs

theorem Keeps.stM (hs : Keeps s₀ s) : Keeps s₀ (s.stM n f) := .same hs

theorem Keeps.recovery (hs : Keeps s₀ s) : Keeps s₀ s.recovery := .put (.put hs)

theorem Keeps.bootRom (hs : Keeps s₀ s) : Keeps s₀ (s.bootRom otpOk) := by
  refine .ite hs (.ite (.recovery (.raise (.stM (.secShow (.secM hs))))) ?_)
  split
  · exact .recovery (.stM (.secShow (.secM hs)))
  · exact .cpuM (.stM (.put (.putB (.wrN (.putB (.wrAll (.stM (.secShow (.secM hs)))))))))

theorem Keeps.st1EntryWrite (hs : Keeps s₀ s) : Keeps s₀ (s.st1EntryWrite v) := .ite (.cpuM (.secM (.wr hs))) (.wr hs)

theorem Keeps.secRefuse (hs : Keeps s₀ s) : Keeps s₀ s.secRefuse := .raise hs

theorem Keeps.secRun (hs : Keeps s₀ s) : Keeps s₀ (s.secRun r) := .secM (.put hs)

theorem Keeps.secHash (hs : Keeps s₀ s) : Keeps s₀ s.secHash := .ite (.secRun hs) (.secRefuse hs)

theorem Keeps.secVerify (hs : Keeps s₀ s) : Keeps s₀ s.secVerify := .secRun hs

theorem Keeps.secAttest (hs : Keeps s₀ s) : Keeps s₀ s.secAttest := .secRun hs

theorem Keeps.secAppsign (hs : Keeps s₀ s) : Keeps s₀ s.secAppsign := .secRun hs

theorem Keeps.secRolladv (hs : Keeps s₀ s) : Keeps s₀ s.secRolladv := .ite (.secRefuse hs) (.secRun hs)

theorem Keeps.secOtpowner (hs : Keeps s₀ s) : Keeps s₀ s.secOtpowner := .ite (.secRefuse hs) (.secRun hs)

theorem Keeps.secDbgclose (hs : Keeps s₀ s) : Keeps s₀ s.secDbgclose := .secRun hs

theorem Keeps.secStart (hs : Keeps s₀ s) : Keeps s₀ (s.secStart op) := by
  unfold State.secStart
  split
  · exact .secHash hs
  · exact .secVerify hs
  · exact .secAttest hs
  · exact .secAppsign hs
  · exact .secRolladv hs
  · exact .secOtpowner hs
  · exact .secDbgclose hs
  · exact .secRefuse hs

theorem Keeps.secCommand (hs : Keeps s₀ s) : Keeps s₀ (s.secCommand op) :=
  .ite (.secRefuse hs) (.ite (.ite (.secStart hs) (.secM (.put hs))) (.secStart hs))

theorem Keeps.secNext (hs : Keeps s₀ s) : Keeps s₀ s.secNext := by
  unfold State.secNext
  split
  · exact hs
  · exact .ite hs (.secStart (.secM (.put hs)))

theorem Keeps.secDone (hs : Keeps s₀ s) : Keeps s₀ s.secDone := by
  unfold State.secDone
  split
  · exact hs
  · refine .raise (.put ?_)
    split
    · exact .ite (.secShow (.wrAll (.secM hs))) (.wrAll (.secM hs))
    · exact .raiseIf (.putB (.ite (.secShow (.wrAll (.secM hs))) (.wrAll (.secM hs))))

theorem Keeps.trngRead (hs : Keeps s₀ s) : Keeps s₀ (s.trngRead healthy) := .ite (.answer (.fresh hs)) (.answer (.raise hs))

theorem Keeps.secWarning (hs : Keeps s₀ s) : Keeps s₀ s.secWarning := .secM (.put hs)

end

end Sys2Proof.Machine

/-! SUPPORT. What every operation keeps, continued: CONSENT, the PLLs, LINK, ETH, the reckoners, the sentinel, PMU and the registers. -/
namespace Sys2Proof.Machine

set_option Elab.async false

section
variable {s₀ s : State}

/-! ### Consent -/

theorem Keeps.consM (hs : Keeps s₀ s) : Keeps s₀ (s.consM f) := .same hs

theorem Keeps.liveWrite (hs : Keeps s₀ s) : Keeps s₀ (s.liveWrite setId img) := .foldl (fun _ _ h1 => .wrN h1) hs

theorem Keeps.recWrite (hs : Keeps s₀ s) : Keeps s₀ (s.recWrite setId ctr img) := .blockWrites hs

theorem Keeps.consGo (hs : Keeps s₀ s) : Keeps s₀ (s.consGo st) := .put hs

theorem Keeps.consRefuse (hs : Keeps s₀ s) : Keeps s₀ s.consRefuse := .raise hs

theorem Keeps.consOpen (hs : Keeps s₀ s) : Keeps s₀ (s.consOpen setId) :=
  .ite (.consGo (.put (.foldl (fun _ _ h1 => .wrN h1) hs))) (.consRefuse hs)

theorem Keeps.consStage (hs : Keeps s₀ s) : Keeps s₀ (s.consStage i v) := .ite (.wr hs) (.consRefuse hs)

theorem Keeps.consRequest (hs : Keeps s₀ s) : Keeps s₀ s.consRequest := .ite (.consGo (.consM hs)) (.consRefuse hs)

theorem Keeps.consDigest (hs : Keeps s₀ s) : Keeps s₀ s.consDigest := .ite (.secNext (.consM (.wrAll hs))) hs

theorem Keeps.consTimeout (hs : Keeps s₀ s) : Keeps s₀ s.consTimeout := .secNext (.consM (.raise (.consGo hs)))

theorem Keeps.consApprove (hs : Keeps s₀ s) : Keeps s₀ (s.consApprove key) :=
  .ite (.ite (.consRefuse (.consTimeout hs)) (.consM (.consGo hs))) (.consRefuse hs)

theorem Keeps.rejSet (hs : Keeps s₀ s) : Keeps s₀ (s.rejSet n) := .blockWrite (.put hs)

theorem Keeps.consApproved (hs : Keeps s₀ s) : Keeps s₀ s.consApproved := .consGo (.rejSet (.recWrite hs))

theorem Keeps.consVerdict (hs : Keeps s₀ s) : Keeps s₀ s.consVerdict :=
  .ite (.ite (.consApproved hs) (.ite (.consApproved (.raise (.rejSet hs))) (.ite (.raise (.consGo (.consM (.raise (.rejSet hs)))))
      (.consGo (.raise (.rejSet hs)))))) hs

theorem Keeps.consCheck (hs : Keeps s₀ s) : Keeps s₀ s.consCheck := .secNext (.consVerdict hs)

theorem Keeps.consPhysical (hs : Keeps s₀ s) : Keeps s₀ s.consPhysical :=
  .ite (.consRefuse hs) (.ite (.ite (.consApproved (.reachNow hs)) (.consM (.reachNow hs))) hs)

theorem Keeps.consWindow (hs : Keeps s₀ s) : Keeps s₀ s.consWindow := .ite (.consTimeout (.reachNow hs)) hs

theorem Keeps.consLockEnd (hs : Keeps s₀ s) : Keeps s₀ s.consLockEnd := by
  unfold State.consLockEnd
  split
  · exact hs
  · exact .ite (.consGo (.consM (.reachNow hs))) (.consM (.reachNow hs))

theorem Keeps.consApply (hs : Keeps s₀ s) : Keeps s₀ (s.consApply setId img n) := by
  unfold State.consApply
  extract_lets t
  have ht : Keeps s₀ t := .liveWrite hs
  split
  · exact .protSwitch ht
  · exact .probeSwitch (.liveWrite (.probeSettle hs))
  · exact .safeDeliver ht hs
  · exact .meterSwitch ht
  · exact ht

theorem Keeps.consCancel (hs : Keeps s₀ s) : Keeps s₀ s.consCancel :=
  .ite (.secNext (.consM (.raise (.put (.consGo hs))))) (.consRefuse hs)

theorem Keeps.consSwitch (hs : Keeps s₀ s) : Keeps s₀ s.consSwitch :=
  .ite (.ite (.put (.reachCount hs)) (.consM (.blockWrite (.consApply (.put (.reachCount hs)))))) hs

theorem Keeps.consDurable (hs : Keeps s₀ s) : Keeps s₀ s.consDurable := by
  unfold State.consDurable
  split
  · exact hs
  · exact .ite hs (.consM (.consGo (.raise (.wrN (.wrN (.wrN hs))))))

theorem Keeps.consWarning (hs : Keeps s₀ s) : Keeps s₀ s.consWarning := .ite hs (.consM (.put (.consGo hs)))

theorem Keeps.consRestoreSet (hs : Keeps s₀ s) : Keeps s₀ (s.consRestoreSet setId) := by
  unfold State.consRestoreSet
  split
  · exact .ite (.wrN hs) (.liveWrite (.wrN hs))
  · exact .raiseIf hs

theorem Keeps.consReset (hs : Keeps s₀ s) : Keeps s₀ s.consReset := by
  unfold State.consReset
  extract_lets s1 n s2
  have h2 : Keeps s₀ s2 := .put (.put (.put hs))
  exact .ite (.consM h2) h2

theorem Keeps.consRestore (hs : Keeps s₀ s) : Keeps s₀ s.consRestore :=
  .ite (.put (.meterRestore (.put (.wrN (.wrN (.ite (.probeTake (.tripUpdate (.gpCheck (.foldl (fun _ _ h1 => .consRestoreSet h1)
      hs)))) (.tripUpdate (.gpCheck (.foldl (fun _ _ h1 => .consRestoreSet h1) hs))))))))) hs

theorem Keeps.consCmd (hs : Keeps s₀ s) : Keeps s₀ (s.consCmd v) := by
  unfold State.consCmd
  extract_lets +onlyGivenNames s1 s2 s3
  have hs1 : Keeps s₀ s1 := .ite (.consOpen hs) hs
  have hs2 : Keeps s₀ s2 := .ite (.consRequest hs1) hs1
  have hs3 : Keeps s₀ s3 := .ite (.consApprove hs2) hs2
  exact .ite (.consCancel hs3) hs3

/-! ### PllRef -/

theorem Keeps.pllM (hs : Keeps s₀ s) : Keeps s₀ (s.pllM f) := .same hs

theorem Keeps.ckoutShow (hs : Keeps s₀ s) : Keeps s₀ s.ckoutShow := .put hs

theorem Keeps.referenceLoss (hs : Keeps s₀ s) : Keeps s₀ (s.referenceLoss pll) := by
  unfold State.referenceLoss
  split <;> exact .ite (.put (.pllM (.raise hs))) (.pllM (.raise hs))

theorem Keeps.referenceReturn (hs : Keeps s₀ s) : Keeps s₀ (s.referenceReturn pll) := by
  unfold State.referenceReturn
  split
  · exact .pllM (.put hs)
  · exact .ite (.put (.pllM (.put hs))) (.pllM (.put hs))

/-! ### Link -/

theorem Keeps.linkShow (hs : Keeps s₀ s) : Keeps s₀ (s.linkShow l) := .put hs

theorem Keeps.linkPump (hs : Keeps s₀ s) : Keeps s₀ (s.linkPump l) := .ite (.linkShow (.portM hs)) hs

theorem Keeps.linkFresh (hs : Keeps s₀ s) : Keeps s₀ (s.linkFresh l) := .portM hs

theorem Keeps.served (hs : Keeps s₀ s) : Keeps s₀ (s.served row ch) := .xbarM hs

theorem Keeps.remoteGrant (hs : Keeps s₀ s) : Keeps s₀ (s.remoteGrant k) := by
  induction k generalizing s with
  | zero => exact hs
  | succ k ih =>
    unfold State.remoteGrant
    split
    · exact hs
    · exact ih (.served (.portM hs))

theorem Keeps.remoteIssue (hs : Keeps s₀ s) : Keeps s₀ (s.remoteIssue who a size data) := by
  unfold State.remoteIssue
  dsimp only
  split
  · exact .portM hs
  · split
    · exact .portM hs
    · exact .ite (.served (.portM (.remoteGrant hs))) (.portM (.remoteGrant hs))

theorem Keeps.remoteLater (hs : Keeps s₀ s) : Keeps s₀ (s.remoteLater who a size since data) := .portM hs

theorem Keeps.of_remoteTake (hs : Keeps s₀ s) (e : s.remoteTake l who = some (r, t)) : Keeps s₀ t := by
  unfold State.remoteTake at e
  split at e
  · injection e with e
    exact .of_snd e (.portM hs)
  · contradiction

theorem Keeps.remoteSend (hs : Keeps s₀ s) : Keeps s₀ (s.remoteSend l) := by
  unfold State.remoteSend
  dsimp only
  split
  · exact .ite (.linkShow (.put (.portM (.linkPump (.linkFresh (.remoteGrant hs)))))) (.linkPump (.linkFresh (.remoteGrant hs)))
  · exact .linkPump (.linkFresh (.remoteGrant hs))

theorem Keeps.linkOff (hs : Keeps s₀ s) : Keeps s₀ (s.linkOff l) := .put (.put (.put (.portM hs)))

theorem Keeps.linkDown (hs : Keeps s₀ s) : Keeps s₀ (s.linkDown l) :=
  .ite hs (.ite (.portM (.ite (.raiseIf (.raiseN (.raise (.linkOff hs)))) (.linkOff hs))) (.ite (.raiseIf (.raiseN (.raise (.linkOff
      hs)))) (.linkOff hs)))

theorem Keeps.linksDown (hs : Keeps s₀ s) : Keeps s₀ s.linksDown := .foldl (fun _ _ h1 => .linkDown h1) hs

theorem Keeps.laneStop (hs : Keeps s₀ s) : Keeps s₀ s.laneStop := .foldl (fun _ _ h1 => .put (.put (.linkDown h1))) hs

theorem Keeps.linkTrain (hs : Keeps s₀ s) : Keeps s₀ (s.linkTrain l) := .ite hs (.put (.portM (.linkDown hs)))

theorem Keeps.linkCtrlWrite (hs : Keeps s₀ s) : Keeps s₀ (s.linkCtrlWrite l v) :=
  .ite (.raise (.linkFresh hs)) (.ite (.portM (.linkDown (.put (.put (.putB (.putB (.linkFresh hs))))))) (.ite (.linkTrain (.put
      (.put (.putB (.putB (.linkFresh hs)))))) (.put (.put (.putB (.putB (.linkFresh hs)))))))

theorem Keeps.linkRetrain (hs : Keeps s₀ s) : Keeps s₀ (s.linkRetrain l) := .ite (.linkTrain (.linkFresh hs)) hs

theorem Keeps.linkMargin (hs : Keeps s₀ s) : Keeps s₀ (s.linkMargin l a b) := .put (.put (.put (.put (.put (.put hs)))))

theorem Keeps.trainFailed (hs : Keeps s₀ s) : Keeps s₀ (s.trainFailed l clkOk) := .portM (.raise (.put (.putB (.linkOff hs))))

theorem Keeps.linkTrainFail (hs : Keeps s₀ s) : Keeps s₀ (s.linkTrainFail l cause) := by
  refine .ite hs ?_
  dsimp only
  split
  · exact .ite hs (.trainFailed (.reachNow hs))
  · exact .ite (.trainFailed (.ite hs (.linkMargin hs))) (.ite (.ite hs (.linkMargin hs)) (.trainFailed (.reachNow (.ite hs
        (.linkMargin hs)))))

theorem Keeps.linkRtt (hs : Keeps s₀ s) : Keeps s₀ (s.linkRtt l rtt) := .put (.wrN hs)

theorem Keeps.linkTrained (hs : Keeps s₀ s) : Keeps s₀ (s.linkTrained l a b) :=
  .ite (.ite (.trainFailed (.ite (.linkMargin (.linkFresh hs)) (.linkFresh hs))) (.raise (.put (.put (.put (.put (.linkRtt (.ite
      (.linkMargin (.linkFresh hs)) (.linkFresh hs))))))))) hs

theorem Keeps.linkAutoRetrain (hs : Keeps s₀ s) : Keeps s₀ (s.linkAutoRetrain l) := by
  unfold State.linkAutoRetrain
  split
  · exact .ite (.linkTrain (.reachNow hs)) hs
  · exact hs

theorem Keeps.exchangeStart (hs : Keeps s₀ s) : Keeps s₀ (s.exchangeStart l) :=
  .takeLaunch hs (fun _ _ h1 => .ite h1 (.portM (.linkFresh (.raiseIf h1))))

theorem Keeps.linkClockLoss (hs : Keeps s₀ s) : Keeps s₀ (s.linkClockLoss l) :=
  .ite (.referenceLoss (.put (.linkDown (.linkFresh hs)))) (.put (.linkDown (.linkFresh hs)))

theorem Keeps.linkStuff (hs : Keeps s₀ s) : Keeps s₀ (s.linkStuff l x) := .ite (.linkDown (.linkFresh hs)) (.linkFresh hs)

theorem Keeps.linkReplay (hs : Keeps s₀ s) : Keeps s₀ (s.linkReplay l) :=
  .ite hs (.ite (.linkDown (.portM (.inc32 (.raise hs)))) (.portM (.inc32 (.raise hs))))

theorem Keeps.replayTimeout (hs : Keeps s₀ s) : Keeps s₀ (s.replayTimeout l) := .ite (.linkReplay (.linkFresh (.reachNow hs))) hs

theorem Keeps.nakExpire (hs : Keeps s₀ s) : Keeps s₀ (s.nakExpire l) := by
  unfold State.nakExpire
  split
  · exact .portM (.reachNow hs)
  · exact hs

theorem Keeps.sat32 (hs : Keeps s₀ s) : Keeps s₀ (s.sat32 a) := .ite (.wrN hs) hs

theorem Keeps.prbsInject (hs : Keeps s₀ s) : Keeps s₀ (s.prbsInject l lanes) :=
  .ite (.linkFresh hs) (.foldl (fun _ _ h1 => .ite (.ite (.raise (.sat32 (.portM h1))) (.portM h1)) h1) (.linkFresh hs))

theorem Keeps.prbsWrite (hs : Keeps s₀ s) : Keeps s₀ (s.prbsWrite l v) :=
  .ite (.raise hs) (.prbsInject (.ite (.put (.portM (.ite (.wrN (.wrN (.putB (.putB (.put hs))))) (.putB (.putB (.put hs)))))) (.ite
      (.put (.ite (.wrN (.wrN (.putB (.putB (.put hs))))) (.putB (.putB (.put hs))))) (.ite (.wrN (.wrN (.putB (.putB (.put hs)))))
      (.putB (.putB (.put hs)))))))

/-! ### Dma -/

theorem Keeps.dmaM (hs : Keeps s₀ s) : Keeps s₀ (s.dmaM c f) := .same hs

theorem Keeps.dmaGo (hs : Keeps s₀ s) : Keeps s₀ (s.dmaGo c st) := .put hs

theorem Keeps.dmaHalt (hs : Keeps s₀ s) : Keeps s₀ (s.dmaHalt c) := .dmaM (.put (.dmaGo hs))

theorem Keeps.dmaStart (hs : Keeps s₀ s) : Keeps s₀ (s.dmaStart c) := .ite (.dmaGo hs) (.raise hs)

theorem Keeps.dmaResume (hs : Keeps s₀ s) : Keeps s₀ (s.dmaResume c) := .dmaStart hs

theorem Keeps.dmaUntrigger (hs : Keeps s₀ s) : Keeps s₀ (s.dmaUntrigger c) := by
  refine .ite hs (.ite (.dmaGo (.dmaM (.foldl (fun _ _ h1 => .portM h1) ?_))) (.put ?_))
  · split
    · exact .wrN (.put (.raise (.dmaM hs)))
    · exact .raise (.dmaM hs)
  · split
    · exact .wrN (.put (.raise (.dmaM hs)))
    · exact .raise (.dmaM hs)

theorem Keeps.dmaUnread (hs : Keeps s₀ s) : Keeps s₀ (s.dmaUnread c) := .ite hs (.dmaM (.foldl (fun _ _ h1 => .portM h1) hs))

theorem Keeps.dmaStop (hs : Keeps s₀ s) : Keeps s₀ (s.dmaStop c) := by
  unfold State.dmaStop
  dsimp only
  split
  · exact .dmaM (.dmaUntrigger hs)
  · exact .raise (.dmaHalt (.dmaM (.dmaUntrigger hs)))
  · exact .dmaGo (.dmaM (.dmaM (.dmaUntrigger hs)))
  · exact .dmaM (.dmaUnread (.dmaM (.dmaUntrigger hs)))

theorem Keeps.dmaDescWrite (hs : Keeps s₀ s) : Keeps s₀ (s.dmaDescWrite c v) := .ite (.wr hs) (.raise hs)

theorem Keeps.dmaRemoteReads (hs : Keeps s₀ s) : Keeps s₀ (State.dmaRemoteReads who since words inc fuel a n s) := by
  induction fuel generalizing s a n with
  | zero => exact hs
  | succ fuel ih =>
    cases n with
    | zero => exact hs
    | succ n => exact ih (.remoteLater hs)

theorem Keeps.dmaBlockStart (hs : Keeps s₀ s) : Keeps s₀ (s.dmaBlockStart c) :=
  .ite (.dmaRemoteReads (.ite (.dmaRemoteReads (.dmaGo (.dmaM hs))) (.dmaGo (.dmaM hs)))) (.ite (.dmaRemoteReads (.dmaGo (.dmaM hs)))
      (.dmaGo (.dmaM hs)))

theorem Keeps.dmaTrigger (hs : Keeps s₀ s) : Keeps s₀ (s.dmaTrigger c t) :=
  .ite (.raise hs) (.ite (.raise (.ite hs (.dmaM hs))) (.ite (.dmaBlockStart (.dmaM hs)) (.put (.dmaM hs))))

theorem Keeps.dmaSwtrig (hs : Keeps s₀ s) : Keeps s₀ (s.dmaSwtrig c) := .dmaTrigger (.reachNow hs)

theorem Keeps.dmaCtrlWrite (hs : Keeps s₀ s) : Keeps s₀ (s.dmaCtrlWrite c v) := by
  unfold State.dmaCtrlWrite
  extract_lets +onlyGivenNames s1 s2 s3
  have hs1 : Keeps s₀ s1 := .putB hs
  have hs2 : Keeps s₀ s2 := .ite (.dmaStart hs1) hs1
  have hs3 : Keeps s₀ s3 := .ite (.dmaResume hs2) hs2
  exact .ite (.dmaStop hs3) hs3

/-! ### Eth -/

theorem Keeps.ethM (hs : Keeps s₀ s) : Keeps s₀ (s.ethM f) := .same hs

theorem Keeps.ethStamp (hs : Keeps s₀ s) : Keeps s₀ (s.ethStamp p n).2 := .fresh hs

theorem Keeps.memBytes (hs : Keeps s₀ s) : Keeps s₀ (s.memBytes a l) := by
  induction l generalizing s a with
  | nil => exact hs
  | cons v t ih => exact ih (.memWr hs)

theorem Keeps.ethBad (hs : Keeps s₀ s) : Keeps s₀ (s.ethBad p) := .raise (.inc32 hs)

theorem Keeps.ringWrite (hs : Keeps s₀ s) : Keeps s₀ (s.ringWrite q f x) :=
  .ite (.raise (.inc32 hs)) (.raise (.inc32 (.put (.memWr (.ethM (.memWr (.memWr (.iteSnd (.iteSnd (.ite (.memBytes hs) hs) (.fresh
      (.ite (.memBytes hs) hs))) (.fresh (.iteSnd (.ite (.memBytes hs) hs) (.fresh (.ite (.memBytes hs) hs))))))))))))

theorem Keeps.gooseAlive (hs : Keeps s₀ s) : Keeps s₀ (s.gooseAlive k tal) := .put (.put (.ethM hs))

theorem Keeps.ethDeliver (hs : Keeps s₀ s) : Keeps s₀ (s.ethDeliver p q f) := by
  unfold State.ethDeliver
  extract_lets +onlyGivenNames i ty event hold s1
  have h1 : Keeps s₀ s1 := .raiseIf hs
  split
  next x t heq =>
    have ht : Keeps s₀ t := by
      refine .of_snd heq (.iteSnd ?_ h1)
      split
      next heq => exact .of_snd heq (.ethStamp h1)
    refine .ite ?_ (.ringWrite ht)
    split
    · exact .ite (.ringWrite (.raise (.wrN (.gooseAlive ht)))) (.ite (.ringWrite (.gooseAlive ht)) (.inc32 (.gooseAlive ht)))
    · exact .inc32 ht

theorem Keeps.dupShow (hs : Keeps s₀ s) : Keeps s₀ s.dupShow := .put hs

theorem Keeps.dupPurge (hs : Keeps s₀ s) : Keeps s₀ s.dupPurge := .dupShow (.ethM hs)

theorem Keeps.dupCheck (hs : Keeps s₀ s) : Keeps s₀ (s.dupCheck src seq).2 := by
  unfold State.dupCheck
  dsimp only
  split
  · exact .dupShow (.ethM (.dupPurge hs))
  · exact .iteSnd (.raise (.ethM (.dupPurge hs))) (.dupShow (.raiseIf (.ethM (.dupPurge hs))))

theorem Keeps.transparent (hs : Keeps s₀ s) : Keeps s₀ (s.transparent p f residence).2 := by
  refine .iteSnd hs (.iteSnd (.iteSnd hs (.raiseIf (.ethM hs))) (.iteSnd ?_ hs))
  split
  · exact .ethM hs
  · exact hs

theorem Keeps.ethOut (hs : Keeps s₀ s) : Keeps s₀ (s.ethOut p f) := .ite (.ethM hs) hs

theorem Keeps.ethTogether (hs : Keeps s₀ s) : Keeps s₀ (s.ethTogether p) := .ite (.memWr hs) hs

theorem Keeps.ethForward (hs : Keeps s₀ s) : Keeps s₀ (s.ethForward p f residence) := .ite hs (.ethOut (.transparent hs))

theorem Keeps.ethReceive (hs : Keeps s₀ s) : Keeps s₀ (s.ethReceive p f bad residence) := by
  refine .ite hs (.ite (.ethBad (.ethM hs)) (.ite (.raise (.ethM hs)) (.ite (.inc32 (.ethM hs)) (.ite (.ite (.ethTogether ?_) ?_)
      (.ite (.ethForward (.ite (.ethDeliver ?_) ?_)) (.ite (.ethDeliver ?_) ?_))))))
  · split
    · exact .dupCheck (.ethM hs)
    · exact .ethM hs
  · split
    · exact .dupCheck (.ethM hs)
    · exact .ethM hs
  · split
    · exact .dupCheck (.ethM hs)
    · exact .ethM hs
  · split
    · exact .dupCheck (.ethM hs)
    · exact .ethM hs
  · split
    · exact .dupCheck (.ethM hs)
    · exact .ethM hs
  · split
    · exact .dupCheck (.ethM hs)
    · exact .ethM hs

theorem Keeps.txFetch (hs : Keeps s₀ s) : Keeps s₀ (s.txFetch p) := .ethM hs

theorem Keeps.txKick (hs : Keeps s₀ s) : Keeps s₀ (s.txKick p) := .ite (.ite (.txFetch hs) (.ethM hs)) hs

theorem Keeps.txKicks (hs : Keeps s₀ s) : Keeps s₀ s.txKicks := .ite hs (.foldl (fun _ _ h1 => .ite (.txKick h1) h1) (.ethM hs))

theorem Keeps.ethSendOut (hs : Keeps s₀ s) : Keeps s₀ (s.ethSendOut p f) := .ite (.ethOut hs) (.ethM (.ethOut (.ethOut hs)))

theorem Keeps.txComplete (hs : Keeps s₀ s) : Keeps s₀ (s.txComplete p) := by
  unfold State.txComplete
  refine .ite hs ?_
  extract_lets +onlyGivenNames s1 idx d w0 s2 req hold s3 s4
  have h3 : Keeps s₀ s3 := .raiseIf (.ethSendOut (.ethM hs))
  have h4 : Keeps s₀ s4 := by
    refine .ite ?_ h3
    split
    next heq => exact .memWr (.memWr (.of_snd heq (.ethStamp h3)))
  exact .txFetch (.raise (.inc32 (.put (.memWr h4))))

theorem Keeps.ethCfgWrite (hs : Keeps s₀ s) : Keeps s₀ (s.ethCfgWrite v) :=
  .ite (.raise hs) (.ite (.ethM (.put (.put hs))) (.put (.put hs)))

theorem Keeps.ethCtrlWrite (hs : Keeps s₀ s) : Keeps s₀ (s.ethCtrlWrite p v) := .ethM (.wrN hs)

theorem Keeps.ethBaseWrite (hs : Keeps s₀ s) : Keeps s₀ (s.ethBaseWrite p a v) := .ite (.raise hs) (.wrN hs)

theorem Keeps.svCfgWrite (hs : Keeps s₀ s) : Keeps s₀ (s.svCfgWrite n v) := .raiseIf (.putB (.put (.put (.put hs))))

theorem Keeps.svLayoutWrite (hs : Keeps s₀ s) : Keeps s₀ (s.svLayoutWrite n v) := .ite (.wr hs) (.raise hs)

theorem Keeps.dupAge (hs : Keeps s₀ s) : Keeps s₀ s.dupAge := by
  unfold State.dupAge
  split
  · exact hs
  · exact hs
  · exact .dupPurge (.reachNow hs)

theorem Keeps.talExpire (hs : Keeps s₀ s) : Keeps s₀ (s.talExpire k) := by
  unfold State.talExpire
  split
  · exact hs
  · exact hs
  · exact .raise (.put (.put (.ethM (.reachNow hs))))

theorem Keeps.residenceTimeout (hs : Keeps s₀ s) : Keeps s₀ s.residenceTimeout := by
  unfold State.residenceTimeout
  split
  · exact hs
  · exact hs
  · exact .raise (.ethM (.reachNow hs))

theorem Keeps.svRequest (hs : Keeps s₀ s) : Keeps s₀ (s.svRequest n) :=
  .takeLaunch hs (fun _ _ h1 => .ite h1 (.ite (.raise h1) (.ethM h1)))

theorem Keeps.svSend (hs : Keeps s₀ s) : Keeps s₀ (s.svSend n) := by
  unfold State.svSend
  split
  · exact hs
  · exact .ite hs (.inc32 (.inc32 (.ethSendOut (.ethM (.ethM hs)))))

theorem Keeps.rgmii (hs : Keeps s₀ s) : Keeps s₀ (s.rgmii p link speed) := .put (.putB hs)

theorem Keeps.ethWarning (hs : Keeps s₀ s) : Keeps s₀ s.ethWarning := .ethM hs

theorem Keeps.ethSysStop (hs : Keeps s₀ s) : Keeps s₀ s.ethSysStop := .ethM hs

theorem Keeps.ethClockBack (hs : Keeps s₀ s) : Keeps s₀ s.ethClockBack := by
  unfold State.ethClockBack
  split
  · exact hs
  · exact .ethM hs

/-! ### Mon -/

theorem Keeps.tally (hs : Keeps s₀ s) : Keeps s₀ (s.tally a) := .sat32 hs

theorem Keeps.monCount (hs : Keeps s₀ s) : Keeps s₀ (s.monCount k x) :=
  .ite (.tally (.tally (.wrN (.wrN hs)))) (.ite (.tally (.tally (.wrN (.wrN hs)))) (.tally (.tally (.wrN (.wrN hs)))))

theorem Keeps.monRecord (hs : Keeps s₀ s) : Keeps s₀ (s.monRecord k x) := .raiseIf (.monM (.monCount hs))

theorem Keeps.monValue (hs : Keeps s₀ s) : Keeps s₀ (s.monValue k cls) := by
  unfold State.monValue
  split
  · exact hs
  · exact .ite hs (.ite (.tally (.monM hs)) (.monRecord (.monM hs)))

theorem Keeps.monOpen (hs : Keeps s₀ s) : Keeps s₀ (s.monOpen w) := .takeLaunch hs (fun _ _ h1 => .ite h1 (.monM (.put h1)))

theorem Keeps.monClose (hs : Keeps s₀ s) : Keeps s₀ (s.monClose w) := by
  unfold State.monClose
  split
  · exact .ite (.put (.reachCount hs)) hs
  · exact hs

theorem Keeps.monWipe (hs : Keeps s₀ s) : Keeps s₀ (s.monWipe k) := .foldl (fun _ _ h1 => .wr h1) (.wr (.wr (.wr (.wr (.wr (.wr hs))))))

theorem Keeps.monClearOne (hs : Keeps s₀ s) : Keeps s₀ (s.monClearOne k) := by
  unfold State.monClearOne
  split
  · exact .ite (.monCount (.monWipe hs)) (.monWipe hs)
  · exact .monWipe hs

theorem Keeps.monClear (hs : Keeps s₀ s) : Keeps s₀ (s.monClear mask) := .foldl (fun _ _ h1 => .ite (.monClearOne h1) h1) hs

theorem Keeps.monMark (hs : Keeps s₀ s) : Keeps s₀ (s.monMark k) :=
  .ite (.ite (.monM (.portM (.linkFresh (.reachNow hs)))) (.reachNow hs)) hs

theorem Keeps.telemetry (hs : Keeps s₀ s) : Keeps s₀ (s.telemetry t) :=
  .foldl (fun _ _ h1 => .monPost h1) (.foldl (fun _ _ h1 => .monPost h1) (.monM (.put (.put (.put (.put (.foldl (fun _ _ h1 => .wr
      h1) hs)))))))

theorem Keeps.scrub (hs : Keeps s₀ s) : Keeps s₀ (s.scrub f) := by
  refine .ite hs ?_
  dsimp only
  split
  · exact .ite (.inc32 (.monM (.reachNow hs))) (.monM (.reachNow hs))
  · exact .raise (.tally (.ite (.inc32 (.monM (.reachNow hs))) (.monM (.reachNow hs))))
  · exact .monM (.put (.raise (.tally (.ite (.inc32 (.monM (.reachNow hs))) (.monM (.reachNow hs))))))

/-! ### RkTasks -/

theorem Keeps.rkM (hs : Keeps s₀ s) : Keeps s₀ (s.rkM n f) := .same hs

theorem Keeps.rkShow (hs : Keeps s₀ s) : Keeps s₀ (s.rkShow n) := by
  refine .putB ?_
  split
  · exact .put (.put (.putB hs))
  · exact .put (.putB hs)

theorem Keeps.rkSwapTake (hs : Keeps s₀ s) : Keeps s₀ (s.rkSwapTake n t) := .rkM (.raise (.put (.put (.put hs))))

theorem Keeps.rkGapErrors (hs : Keeps s₀ s) : Keeps s₀ (s.rkGapErrors n t) := .foldl (fun _ _ h1 => .wrN (.raise h1)) (.rkM hs)

theorem Keeps.rkStart (hs : Keeps s₀ s) : Keeps s₀ (s.rkStart n k p at') :=
  .rkShow (.rkM (.monPost (.cpuM (.ite (.rkSwapTake (.rkGapErrors hs)) (.rkGapErrors hs)))))

theorem Keeps.rkDeliver (hs : Keeps s₀ s) : Keeps s₀ (s.rkDeliver n k l matched) :=
  .ite hs (.ite (.raise hs) (.ite (.sat16 (.raise hs)) (.ite (.rkStart hs) (.rkShow (.rkM hs)))))

theorem Keeps.rkLaunch (hs : Keeps s₀ s) : Keeps s₀ (s.rkLaunch n k) := .takeLaunch hs (fun _ _ h1 => .rkDeliver (.reachNow h1))

theorem Keeps.rkRecord (hs : Keeps s₀ s) : Keeps s₀ (s.rkRecord n code slot pcw) := .wrN hs

theorem Keeps.rkDropPend (hs : Keeps s₀ s) : Keeps s₀ (s.rkDropPend n k) := .rkShow (.rkRecord (.sat16 (.raise (.rkM hs))))

theorem Keeps.rkExpire (hs : Keeps s₀ s) : Keeps s₀ (s.rkExpire n t) := by
  refine .foldl (fun _ _ h1 => ?_) hs
  split
  · exact .ite (.rkDropPend h1) h1
  · exact h1

theorem Keeps.rkDispatch (hs : Keeps s₀ s) : Keeps s₀ (s.rkDispatch n) := by
  refine .ite hs ?_
  dsimp only
  split
  · exact .rkExpire hs
  · split
    · exact .rkStart (.reachNow (.rkExpire hs))
    · exact .rkExpire hs

theorem Keeps.rkHaltNow (hs : Keeps s₀ s) : Keeps s₀ (s.rkHaltNow n) := .put (.rkM (.cpuM hs))

theorem Keeps.rkEnd (hs : Keeps s₀ s) : Keeps s₀ (s.rkEnd n t) := .rkShow (.rkM (.ite (.rkHaltNow (.reachNow (.cpuM hs))) (.cpuM hs)))

theorem Keeps.rkAbort (hs : Keeps s₀ s) : Keeps s₀ (s.rkAbort n code pc t) := by
  unfold State.rkAbort
  split
  · exact hs
  · refine .rkEnd (.rkRecord (.ite (.sat16 (.raise (.putB ?_))) (.ite (.putB ?_) (.raise (.putB ?_)))))
    · split
      · exact .ite (.rkM hs) hs
      · exact hs
    · split
      · exact .ite (.rkM hs) hs
      · exact hs
    · split
      · exact .ite (.rkM hs) hs
      · exact hs

theorem Keeps.rkAbortAt (hs : Keeps s₀ s) : Keeps s₀ (s.rkAbortAt n code t) := by
  unfold State.rkAbortAt
  dsimp only
  split
  · exact .rkAbort (.reachNow hs)
  · exact .rkAbort hs

theorem Keeps.rkAbortNow (hs : Keeps s₀ s) : Keeps s₀ (s.rkAbortNow n at') := .ite hs (.ite (.rkM hs) (.rkAbortAt hs))

theorem Keeps.rkStoreError (hs : Keeps s₀ s) : Keeps s₀ (s.rkStoreError n) := by
  unfold State.rkStoreError
  split
  · exact hs
  · exact .ite hs (.ite (.rkAbortAt (.rkM hs)) (.rkRecord (.raise (.rkM hs))))

theorem Keeps.rkBoundary (hs : Keeps s₀ s) : Keeps s₀ (s.rkBoundary n) := .ite hs (.ite (.rkAbortNow (.rkM hs)) (.rkStoreError hs))

theorem Keeps.rkDeadline (hs : Keeps s₀ s) : Keeps s₀ (s.rkDeadline n) := by
  refine .ite hs ?_
  split
  · exact .ite (.rkDropPend (.reachNow hs)) (.rkAbort (.reachNow hs))
  · exact .rkAbort (.reachNow hs)
  · exact .rkDropPend (.reachNow hs)
  · exact hs

theorem Keeps.rkTdone (hs : Keeps s₀ s) : Keeps s₀ (s.rkTdone n t) := by
  unfold State.rkTdone
  split
  · exact hs
  · exact .rkM (.cpuM (.inc32 (.ite (.wrN (.wrN (.raiseIf hs))) (.wrN (.raiseIf hs)))))

theorem Keeps.rkTaskEnd (hs : Keeps s₀ s) : Keeps s₀ (s.rkTaskEnd n) := by
  unfold State.rkTaskEnd
  dsimp only
  split
  · exact hs
  · exact .ite (.ite (.rkAbort (.rkM (.reachNow hs))) (.rkEnd (.rkM (.reachNow hs)))) hs

theorem Keeps.landOne (hs : Keeps s₀ s) : Keeps s₀ (s.landOne arms x) := by
  unfold State.landOne
  split
  · exact .shadowRelease hs
  · exact .ite (.codeRelease hs) (.ite (.seqRefRelease hs) (.ite (.probeRefRelease hs) hs))

theorem Keeps.relLand (hs : Keeps s₀ s) : Keeps s₀ (s.relLand rks sys) :=
  .ite hs (.ite (.foldl (fun _ _ h1 => .landOne h1) (.foldl (fun _ _ h1 => .raiseIf h1) (.foldl (fun _ _ h1 => .rkM h1) (.reachNow
      hs)))) (.swlFire (.foldl (fun _ _ h1 => .ite (.armCarrier h1) h1) (.foldl (fun _ _ h1 => .landOne h1) (.foldl (fun _ _ h1 =>
      .raiseIf h1) (.foldl (fun _ _ h1 => .rkM h1) (.reachNow hs)))))))

theorem Keeps.rkEnable (hs : Keeps s₀ s) : Keeps s₀ (s.rkEnable n en) := .ite (.putB hs) (.rkShow (.rkM (.putB hs)))

theorem Keeps.rkHold (hs : Keeps s₀ s) : Keeps s₀ (s.rkHold n) := by
  unfold State.rkHold
  split
  · exact hs
  · exact .rkM hs

theorem Keeps.rkCtrlWrite (hs : Keeps s₀ s) : Keeps s₀ (s.rkCtrlWrite n v) :=
  .landRk hs (fun _ _ h1 => .ite (.rkAbortNow (.putB (.rkEnable (.rkHold h1)))) (.putB (.rkEnable (.rkHold h1))))

theorem Keeps.rkSlotWrite (hs : Keeps s₀ s) : Keeps s₀ (s.rkSlotWrite a v) := .landRk hs (fun _ _ h1 => .plainWrite h1)

theorem Keeps.swapRequest (hs : Keeps s₀ s) : Keeps s₀ (s.swapRequest n) := .put hs

theorem Keeps.swapWrite (hs : Keeps s₀ s) : Keeps s₀ (s.swapWrite n t) := .ite (.ite hs (.rkSwapTake hs)) (.rkM (.swapRequest hs))

theorem Keeps.swapCancel (hs : Keeps s₀ s) : Keeps s₀ (s.swapCancel n t) := .ite (.rkM (.put hs)) hs

theorem Keeps.bankctlWrite (hs : Keeps s₀ s) : Keeps s₀ (s.bankctlWrite n v) :=
  .landRk hs (fun _ _ h1 => .ite (.swapCancel (.ite (.swapWrite h1) h1)) (.ite (.swapWrite h1) h1))

theorem Keeps.rkResume (hs : Keeps s₀ s) : Keeps s₀ (s.rkResume n) := .put (.cpuM (.rkM (.rkHold hs)))

theorem Keeps.rkWarning (hs : Keeps s₀ s) : Keeps s₀ s.rkWarning := .foldl (fun _ _ h1 => .rkShow (.rkM h1)) hs

theorem Keeps.scramble (hs : Keeps s₀ s) : Keeps s₀ (s.scramble c) :=
  .same hs

theorem Keeps.rkSysStop (hs : Keeps s₀ s) : Keeps s₀ s.rkSysStop :=
  .foldl (fun _ _ h1 => .cpuM (.scramble (.rkEnable (.rkAbort h1)))) hs

/-! ### Sentinel -/

theorem Keeps.sentM (hs : Keeps s₀ s) : Keeps s₀ (s.sentM f) := .same hs

theorem Keeps.rtcSet (hs : Keeps s₀ s) : Keeps s₀ (s.rtcSet v runs) := .sentM hs

theorem Keeps.rtcRead (hs : Keeps s₀ s) : Keeps s₀ s.rtcRead := .answer (.wrN (.wrN (.fresh hs)))

theorem Keeps.ledgerWrite (hs : Keeps s₀ s) : Keeps s₀ (s.ledgerWrite e words) :=
  .ite (.sentM (.put (.memWr (.memWr (.memWr hs))))) (.memWr (.memWr hs))

theorem Keeps.ledgerShow (hs : Keeps s₀ s) : Keeps s₀ s.ledgerShow := .put hs

theorem Keeps.ledgerAdd (hs : Keeps s₀ s) : Keeps s₀ (s.ledgerAdd typ tamper) := by
  refine .ite (.ledgerShow (.sentM hs)) ?_
  split
  · exact .ledgerShow (.sentM hs)
  · exact .raise hs

theorem Keeps.ledgerBurst (hs : Keeps s₀ s) : Keeps s₀ (s.ledgerBurst sstore words) := by
  unfold State.ledgerBurst
  split
  · exact hs
  · exact .ite (.ite (.ite (.ledgerShow (.sentM (.ledgerWrite (.put hs)))) (.ledgerWrite (.put hs))) (.raise (.put hs))) hs

theorem Keeps.ledgerDrain (hs : Keeps s₀ s) : Keeps s₀ s.ledgerDrain := .ledgerShow (.sentM (.foldl (fun _ _ h1 => .ledgerWrite h1) hs))

theorem Keeps.sentRegsReset (hs : Keeps s₀ s) : Keeps s₀ s.sentRegsReset := .foldl (fun _ _ h1 => .wr h1) hs

theorem Keeps.sentinelSet (hs : Keeps s₀ s) : Keeps s₀ { s with sentinel := x } := .same hs

theorem Keeps.sentinelStart (hs : Keeps s₀ s) : Keeps s₀ (s.sentinelStart fromVin) := by
  have h1 {x : Sentinel} : Keeps s₀ { s.sentRegsReset with sentinel := x } := .sentinelSet (.sentRegsReset hs)
  exact .ite hs (.ite (.put (.put (.sentM h1))) (.put (.put (.sentM h1))))

theorem Keeps.sentinelStop (hs : Keeps s₀ s) : Keeps s₀ s.sentinelStop := .ite (.sentinelSet (.sentRegsReset hs)) hs

theorem Keeps.sentinelVinLoss (hs : Keeps s₀ s) : Keeps s₀ s.sentinelVinLoss := .ite (.sentM (.ledgerAdd (.put hs))) hs

theorem Keeps.sentinelVinReturn (hs : Keeps s₀ s) : Keeps s₀ s.sentinelVinReturn := .ite (.sentM (.ledgerAdd (.put (.put hs)))) hs

theorem Keeps.ledgerCheckpoint (hs : Keeps s₀ s) : Keeps s₀ s.ledgerCheckpoint := by
  unfold State.ledgerCheckpoint
  split
  · exact hs
  · exact .ite (.sentM (.ledgerAdd (.reachNow hs))) hs

theorem Keeps.cutOff (hs : Keeps s₀ s) : Keeps s₀ (s.cutOff sstore) :=
  .put (.put (.rtcSet (.ite (.ledgerDrain (.ledgerAdd (.ledgerDrain hs))) (.raise hs))))

theorem Keeps.longDarkness (hs : Keeps s₀ s) : Keeps s₀ (s.longDarkness lstore sstore vbat) :=
  .ite (.ite (.ledgerAdd (.put (.put (.put (.put hs))))) (.cutOff (.put (.put (.put hs))))) hs

theorem Keeps.sentinelResume (hs : Keeps s₀ s) : Keeps s₀ (s.sentinelResume lstore) :=
  .ite (.raise (.ledgerAdd (.rtcSet (.put (.put hs))))) hs

theorem Keeps.tamperEvent (hs : Keeps s₀ s) : Keeps s₀ (s.tamperEvent n level held) := .ite (.sentM (.raise (.ledgerAdd hs))) hs

theorem Keeps.tamperInactive (hs : Keeps s₀ s) : Keeps s₀ (s.tamperInactive n level held) := .ite (.sentM hs) hs

theorem Keeps.wakeInput (hs : Keeps s₀ s) : Keeps s₀ s.wakeInput := .ite (.sentM hs) hs

theorem Keeps.rtcAlarm (hs : Keeps s₀ s) : Keeps s₀ s.rtcAlarm := .ite (.sentM (.reachNow hs)) hs

theorem Keeps.rtcLoad (hs : Keeps s₀ s) : Keeps s₀ (s.rtcLoad t) := .ite (.put (.sentM (.rtcSet hs))) hs

theorem Keeps.hv1Sample (hs : Keeps s₀ s) : Keeps s₀ (s.hv1Sample mv) := .ite (.sentM (.reachNow hs)) hs

theorem Keeps.sentWrite (hs : Keeps s₀ s) : Keeps s₀ (s.sentWrite t a v) :=
  .ite (.wrN hs) (.ite (.wrN hs) (.ite (.wrN hs) (.ite (.ite (.rtcLoad hs) hs) (.plainWrite hs))))

theorem Keeps.sentSettle (hs : Keeps s₀ s) : Keeps s₀ s.sentSettle := .foldl (fun _ _ h1 => .sentWrite h1) (.sentM hs)

theorem Keeps.sentPost (hs : Keeps s₀ s) : Keeps s₀ (s.sentPost a v) := .sentM (.sentSettle hs)

theorem Keeps.rtcSetLand (hs : Keeps s₀ s) : Keeps s₀ s.rtcSetLand := .rtcLoad (.sentSettle (.reachNow hs))

/-! ### Power -/

theorem Keeps.pmuM (hs : Keeps s₀ s) : Keeps s₀ (s.pmuM f) := .same hs

theorem Keeps.stewardsStop (hs : Keeps s₀ s) : Keeps s₀ s.stewardsStop := .put (.put hs)

theorem Keeps.warningActs (hs : Keeps s₀ s) : Keeps s₀ s.warningActs :=
  .consWarning (.secWarning (.meterWarning (.acuWarning (.probeStop (.protWarning (.ethWarning (.linksDown (.tblWarning (.rkWarning
      (.safeSupply (.forcePfw (.driveWarning (.sweepAbortAll hs)))))))))))))

theorem Keeps.warning (hs : Keeps s₀ s) : Keeps s₀ (s.warning cause watchdog) :=
  .ite hs (.ite (.ite (.raiseIf (.raise (.ledgerShow (.sentM (.pmuM (.put hs)))))) hs) (.ite (.stewardsStop (.warningActs (.raiseIf
      (.raise (.put (.put (.pmuM hs))))))) (.warningActs (.raiseIf (.raise (.put (.put (.pmuM hs))))))))

theorem Keeps.secReboot (hs : Keeps s₀ s) : Keeps s₀ s.secReboot := .ite (.secRefuse hs) (.warning hs)

theorem Keeps.pmuSleep (hs : Keeps s₀ s) : Keeps s₀ s.pmuSleep :=
  .ite (.raise (.sentSettle hs)) (.warning (.ite (.ledgerAdd (.sentSettle hs)) (.sentSettle hs)))

theorem Keeps.windowStop (hs : Keeps s₀ s) : Keeps s₀ s.windowStop := .ite (.pmuM (.stewardsStop (.reachNow hs))) hs

theorem Keeps.engineStart (hs : Keeps s₀ s) : Keeps s₀ s.engineStart := .ite (.pmuM (.put hs)) hs

theorem Keeps.saveCapture (hs : Keeps s₀ s) : Keeps s₀ s.saveCapture := .ite (.pmuM (.ite (.reachCount hs) hs)) hs

theorem Keeps.writeBlock (hs : Keeps s₀ s) : Keeps s₀ (s.writeBlock img) := .wrN (.mramFlush (.mramWrites hs))

theorem Keeps.saveComplete (hs : Keeps s₀ s) : Keeps s₀ s.saveComplete := by
  unfold State.saveComplete
  refine .ite ?_ hs
  extract_lets +onlyGivenNames s1 cause s2
  have h1 : Keeps s₀ s1 := by
    unfold s1
    split
    · exact .ite hs (.raise (.writeBlock hs))
    · exact hs
  have h2 : Keeps s₀ s2 := .ite (.sentM h1) h1
  exact .ckoutShow (.pmuM (.put (.same h2)))

theorem Keeps.powerUp (hs : Keeps s₀ s) : Keeps s₀ (s.powerUp vinFell vio) := by
  unfold State.powerUp
  refine .ite ?_ hs
  extract_lets t1 t2 t3
  have h1 : Keeps s₀ t1 := by
    refine ⟨hs.1, fun h => ?_⟩
    obtain ⟨hm, hr, -⟩ := State.canonical_iff.mp (hs.2 h)
    exact State.canonical_iff.mpr ⟨mapWfFrom_filter_keys _ _ _ none hm, mapWfFrom_filter_keys _ _ _ none hr, rfl⟩
  have h3 : Keeps s₀ t3 := .pllM (.put (.reachNow h1))
  exact .foldl (fun _ _ h => .ite (.put (.put h)) (.put h)) h3

theorem Keeps.causeSet (hs : Keeps s₀ s) : Keeps s₀ (s.causeSet b) := .raise hs

theorem Keeps.resetCauses (hs : Keeps s₀ s) : Keeps s₀ s.resetCauses := by
  unfold State.resetCauses
  dsimp only
  split
  · exact .causeSet (.ite (.causeSet (.foldl (fun _ _ h1 => .wrN h1) (.wrN hs))) hs)
  · exact .ite (.causeSet (.foldl (fun _ _ h1 => .wrN h1) (.wrN hs))) hs

theorem Keeps.countFrom (hs : Keeps s₀ s) : Keeps s₀ (s.countFrom c) := .metM (.tblM hs)

theorem Keeps.restoreCount (hs : Keeps s₀ s) : Keeps s₀ (s.restoreCount k) := .countFrom hs

theorem Keeps.restoreBlock (hs : Keeps s₀ s) : Keeps s₀ (s.restoreBlock k) :=
  .foldl (fun _ _ h1 => .wrN h1) (.wrN (.wrN (.forceLegs (.put (.put (.put (.foldl (fun _ _ h1 => .ite (.put (.put (.put (.put h1))))
      h1) (.tripUpdate (.probeM (.wrN (.put (.putB (.protShow (.put (.wrN (.restoreCount hs))))))))))))))))

theorem Keeps.restore (hs : Keeps s₀ s) : Keeps s₀ s.restore := by
  unfold State.restore
  dsimp only
  split
  · exact .pmuM (.put (.countFrom (.raise (.put hs))))
  · exact .pmuM (.restoreBlock (.raiseIf (.putB (.wrN (.put (.raise (.put hs)))))))

theorem Keeps.stewardsStart (hs : Keeps s₀ s) : Keeps s₀ s.stewardsStart := .foldl (fun _ _ h1 => .cpuM (.put h1)) hs

theorem Keeps.ledgerFind (hs : Keeps s₀ s) : Keeps s₀ s.ledgerFind := by
  unfold State.ledgerFind
  split
  · exact .sentM (.put hs)
  · exact hs

theorem Keeps.resetRelease (hs : Keeps s₀ s) : Keeps s₀ s.resetRelease :=
  .ite (.stewardsStart (.consReset (.restore (.safePowerUp (.ite (.ledgerFind (.put (.resetCauses (.pmuM hs)))) (.resetCauses (.pmuM
      hs))))))) hs

theorem Keeps.huMeasure (hs : Keeps s₀ s) : Keeps s₀ (s.huMeasure rise stp) := .raiseIf (.put (.put hs))

theorem Keeps.huReady (hs : Keeps s₀ s) : Keeps s₀ (s.huReady mv) :=
  .ite (.outputsChanged (.put (.reachNow (.raise (.put (.put (.put hs))))))) (.put (.put hs))

theorem Keeps.vioFault (hs : Keeps s₀ s) : Keeps s₀ (s.vioFault b) := .ite (.safeSupply (.raise (.put hs))) (.raise (.put hs))

theorem Keeps.vioReturn (hs : Keeps s₀ s) : Keeps s₀ (s.vioReturn b) := .ite (.safeSupplyEnd (.put hs)) (.put hs)

/-! ### Reactions -/

theorem Keeps.syncClockStop (hs : Keeps s₀ s) : Keeps s₀ s.syncClockStop :=
  .nightRestart (.probeStop (.seqStop (.driveBreak (.laneStop (.foldl (fun _ _ h1 => .ite (.acuMark (.modinClockGate h1))
      (.modinClockGate h1)) (.tblHold (.pwmClockStop hs)))))))

theorem Keeps.sysClockStop (hs : Keeps s₀ s) : Keeps s₀ s.sysClockStop :=
  .probeStop (.capStop (.seqStop (.ethSysStop (.rkSysStop (.forceSys (.sweepAbortAll hs))))))

/-! ### Pll -/

theorem Keeps.relockSys (hs : Keeps s₀ s) : Keeps s₀ s.relockSys :=
  .sysClockStop (.ckoutShow (.pllM (.put (.put (.stCyclesSettle hs)))))

theorem Keeps.relockSync (hs : Keeps s₀ s) : Keeps s₀ s.relockSync :=
  .syncClockStop (.ckoutShow (.pllM (.put (.put (.ite (.pwmClockStop hs) hs)))))

theorem Keeps.mclkRelease (hs : Keeps s₀ s) : Keeps s₀ s.mclkRelease :=
  .foldl (fun _ _ h1 => .ite (.acuReclock (.modinClockStart (.put h1))) h1) hs

theorem Keeps.sysLocked (hs : Keeps s₀ s) : Keeps s₀ (s.sysLocked band) :=
  .ethClockBack (.ckoutShow (.pllM (.put (.put (.stCyclesSettle hs)))))

theorem Keeps.syncLocked (hs : Keeps s₀ s) : Keeps s₀ (s.syncLocked band) :=
  .ite (.sweepOverdue (.nightRestart (.driveClockReturn (.pwmClockReturn (.mclkRelease (.ckoutShow (.pllM (.put (.put (.put
      hs)))))))))) (.driveClockReturn (.mclkRelease (.ckoutShow (.pllM (.put (.put (.put hs)))))))

theorem Keeps.pllLockComplete (hs : Keeps s₀ s) : Keeps s₀ (s.pllLockComplete pll band) := by
  unfold State.pllLockComplete
  split
  · exact .ite (.sysLocked (.reachNow hs)) hs
  · exact .ite (.syncLocked (.reachNow hs)) hs

theorem Keeps.syncLoss (hs : Keeps s₀ s) : Keeps s₀ s.syncLoss := .ite (.relockSync (.raise hs)) hs

theorem Keeps.sysLoss (hs : Keeps s₀ s) : Keeps s₀ s.sysLoss := .ite (.relockSys (.raise hs)) hs

theorem Keeps.mclkdivWrite (hs : Keeps s₀ s) : Keeps s₀ (s.mclkdivWrite g v) := .putB (.put hs)

theorem Keeps.pllUpdateGo (hs : Keeps s₀ s) : Keeps s₀ s.pllUpdateGo := .ite (.advance hs) (.pllM (.put (.advance hs)))

theorem Keeps.mclkTake (hs : Keeps s₀ s) : Keeps s₀ (s.mclkTake g w) := by
  unfold State.mclkTake
  extract_lets +onlyGivenNames div en edge ends told changed m s1 s2 s3
  have h1 : Keeps s₀ s1 := .ite (.acuMark (.same hs)) hs
  have h3 : Keeps s₀ s3 := .pllM (.putB (.put h1))
  exact .ite h3 (.ite (.acuReclock (.modinClockStart h3)) (.modinClockStop h3))

theorem Keeps.ckoutTake (hs : Keeps s₀ s) : Keeps s₀ (s.ckoutTake n w v) := .ckoutShow (.putB (.pllM hs))

theorem Keeps.pllUpdateApply (hs : Keeps s₀ s) : Keeps s₀ (s.pllUpdateApply vck) := by
  unfold State.pllUpdateApply
  split
  · exact hs
  · exact .ite hs (.raiseIf (.foldl (fun _ _ h1 => .ckoutTake h1) (.gpCheck (.foldl (fun _ _ h1 => .mclkTake h1) (.pllM (.put
        (.reachNow hs)))))))

theorem Keeps.pllCtrlWrite (hs : Keeps s₀ s) : Keeps s₀ (s.pllCtrlWrite v) :=
  .ite (.relockSync (.ite (.relockSys (.put hs)) (.put hs))) (.ite (.relockSys (.put hs)) (.put hs))

/-! ### Watchdog -/

theorem Keeps.wdgM (hs : Keeps s₀ s) : Keeps s₀ (s.wdgM k f) := .same hs

theorem Keeps.wdgPause (hs : Keeps s₀ s) : Keeps s₀ (s.wdgPause k) := by
  unfold State.wdgPause
  dsimp only
  split
  · exact .wdgM hs
  · exact .wdgM hs
  · exact hs

theorem Keeps.wdgEnable (hs : Keeps s₀ s) : Keeps s₀ (s.wdgEnable k) := .ite hs (.wdgPause (.wdgM (.put hs)))

theorem Keeps.wdgCfgWrite (hs : Keeps s₀ s) : Keeps s₀ (s.wdgCfgWrite k v) :=
  .wdgPause (.ite (.wdgEnable (.putB (.ite hs (.putB hs)))) (.putB (.ite hs (.putB hs))))

theorem Keeps.wdgTimeWrite (hs : Keeps s₀ s) : Keeps s₀ (s.wdgTimeWrite k f v) := .ite hs (.put hs)

theorem Keeps.wdgFire (hs : Keeps s₀ s) : Keeps s₀ (s.wdgFire k) := .ite hs (.wdgM (.stM (.raise hs)))

theorem Keeps.wdgKick (hs : Keeps s₀ s) : Keeps s₀ (s.wdgKick k v) := by
  refine .ite hs ?_
  dsimp only
  split
  · exact .ite (.wdgM hs) (.wdgFire hs)
  · exact .ite (.wdgM hs) (.wdgFire (.wdgM hs))

theorem Keeps.wdgStage1 (hs : Keeps s₀ s) : Keeps s₀ (s.wdgStage1 k) := .ite (.wdgFire (.reachNow hs)) hs

theorem Keeps.wdgStage2 (hs : Keeps s₀ s) : Keeps s₀ (s.wdgStage2 k) := .ite (.warning (.reachNow hs)) hs

/-! ### Bus -/

theorem Keeps.quiet (hf : Keeps s₀ (f s)) : Keeps s₀ (s.quiet f).2 := .same (s := f s) hf

theorem Keeps.of_readActs (hs : Keeps s₀ s) : ∀ r ∈ s.readActs a, Keeps s₀ r.2 := by
  refine forall_mem_orElse (forall_mem_ite_some (.quiet (.nowLoRead hs))) ?_
  refine forall_mem_orElse (forall_mem_ite_some (.quiet (.queuePush hs))) ?_
  refine forall_mem_orElse (forall_mem_ite_some (.quiet (.rtcRead hs))) ?_
  refine forall_mem_orElse (forall_mem_ite_some (.quiet (.trngRead (.fresh hs)))) ?_
  split
  · split
    · exact fun r h => Option.mem_some.mp h ▸ .energyRead hs
    · exact fun r h => nomatch h
  · exact fun r h => nomatch h

theorem Keeps.regReadNow (hs : Keeps s₀ s) : Keeps s₀ (s.regReadNow a).2 := by
  unfold State.regReadNow
  split
  next heq => exact .of_readActs hs _ heq
  next =>
    split
    · exact hs
    · split
      · exact .wr hs
      · exact .latchHi hs
      · exact hs
      · exact hs

theorem Keeps.regRead (hs : Keeps s₀ s) : Keeps s₀ (s.regRead a).2 := .regReadNow (.ite (.sentSettle hs) hs)

theorem Keeps.gpioMoved (ht : Keeps s₀ t) : Keeps s₀ (s.gpioMoved t) := .ite ht (.same ht)

theorem Keeps.gpioDrive (hs : Keeps s₀ s) : Keeps s₀ (s.gpioDrive out sets clrs) := .gpioMoved (.put (.same hs))

theorem Keeps.gpioSet (hs : Keeps s₀ s) : Keeps s₀ (s.gpioSet m) := .gpioDrive hs

theorem Keeps.gpioClr (hs : Keeps s₀ s) : Keeps s₀ (s.gpioClr m) := .gpioDrive hs

theorem Keeps.unlessArmed (hs : Keeps s₀ s) : Keeps s₀ (s.unlessArmed n a v) := .ite hs (.plainWrite hs)

theorem KeepsAny.timingWrite (hs : Keeps s₀ s) : KeepsAny s₀ (s.timingWrite a v) :=
  .or (.ite (.some (.tblCtrlWrite hs)) .none) (.or (.ite (.some (.addfracWrite hs)) .none) (.or (.ite (.some (.ite (.stepLand hs)
      (.ite (.stepApply hs) hs))) .none) (.or (.map fun _ => .unlessArmed hs) (.or (.map fun _ => .unlessArmed hs) (.or (.map fun _
      => .unlessArmed hs) (.or (.map fun _ => .rodPeriodCommit hs) (.or (.map fun _ => .rodCtrlWrite hs) (.or (.ite (.some
      (.queueCancel hs)) .none) (.or (.ite (.some (.ite (.queueFlush hs) hs)) .none) (.or (.ite (.some (.softwareLaunch hs)) .none)
      (.or (.ite (.some (.landPwm hs (fun _ h1 => .plainWrite h1))) .none) (.or (.ite (.some (.pllCtrlWrite hs)) .none) (.or (.map
      fun _ => .mclkdivWrite hs) (.ite (.some (.ite (.pllUpdateGo hs) hs)) .none))))))))))))))

theorem KeepsAny.switchWrite (hs : Keeps s₀ s) : KeepsAny s₀ (s.switchWrite a v) :=
  .or (.ite (.some (.pwmCtrlWrite hs)) .none) (.or (.ite (.some (.fstatWrite hs)) .none) (.or (.ite (.some (.pwmRestartWrite hs))
      .none) (.or (.ite (.some (.loadallWrite hs)) .none) (.or (.ite (.some (.loadcnclWrite hs)) .none) (.or (.map fun _ =>
      .carrierCfgWrite hs) (.or (.map fun _ => .shadowWrite hs) (.or (.map fun _ => .legCfgWrite hs) (.or (.map fun _ => .shadowWrite
      hs) (.or (.map fun _ => .shadowWrite hs) (.or (.map fun _ => .shadowWrite hs) (.or (.map fun _ => .legOvrWrite hs) (.or (.map
      fun _ => .legFlagsWrite hs) (.or (.map fun _ => .legTimeWrite hs) (.or (.map fun _ => .legTimeWrite hs) (.or (.map fun _ =>
      .guardWrite hs) (.or (.ite (.some (.forceCfgWrite hs)) .none) (.or (.map fun _ => .groupCfg hs) (.or (.map fun _ => .ite
      (.landPwm hs (fun _ h1 => .driveClear h1)) hs) (.or (.map fun _ => .hsWrite hs) (.map fun _ => .codeWrite hs))))))))))))))))))))

theorem KeepsAny.senseWrite (hs : Keeps s₀ s) : KeepsAny s₀ (s.senseWrite a v) :=
  .or (.map fun _ => .groupCfgWrite hs) (.or (.map fun _ => .inputCfg hs) (.or (.map fun _ => .modWrite hs) (.or (.map fun _ =>
      .modWrite hs) (.or (.map fun _ => .modWrite hs) (.or (.map fun _ => .healthCfgWrite hs) (.or (.map fun _ => .modWrite hs) (.or
      (.ite (.some (.acuCfgWrite hs)) .none) (.or (.ite (.some (.acuCmdWrite hs)) .none) (.or (.map fun _ => .winCfgWrite hs) (.or
      (.ite (.some (.tsgWrite hs)) .none) (.or (.map fun _ => .ite (.snapRequest hs) hs) (.or (.map fun _ => .frefWrite hs) (.or
      (.ite (.some (.ite (.islClear hs) hs)) .none) (.or (.ite (.some (.triplatClear hs)) .none) (.ite (.some (.ite (.dcArm (.ite
      (.capTrigger (.ite (.protSwtrip hs) hs)) (.ite (.protSwtrip hs) hs))) (.ite (.capTrigger (.ite (.protSwtrip hs) hs)) (.ite
      (.protSwtrip hs) hs)))) .none)))))))))))))))

theorem KeepsAny.serviceWrite (hs : Keeps s₀ s) : KeepsAny s₀ (s.serviceWrite a v) :=
  .or (.map fun _ => .dmaCtrlWrite hs) (.or (.map fun _ => .dmaDescWrite hs) (.or (.map fun _ => .ite (.dmaSwtrig hs) hs) (.or (.map
      fun _ => .linkCtrlWrite hs) (.or (.map fun _ => .prbsWrite hs) (.or (.ite (.some (.ethCfgWrite hs)) .none) (.or (.map fun _ =>
      .ethCtrlWrite hs) (.or (.map fun _ => .ethBaseWrite hs) (.or (.map fun _ => .ethBaseWrite hs) (.or (.map fun _ => .ite (.txKick
      hs) hs) (.or (.map fun _ => .svCfgWrite hs) (.or (.map fun _ => .svLayoutWrite hs) (.or (.ite (.some (.ite (.secReboot hs)
      (.secCommand hs))) .none) (.or (.ite (.some (.st1EntryWrite hs)) .none) (.or (.ite (.some (.ite (.pmuSleep hs) hs)) .none) (.or
      (.ite (.some (.put hs)) .none) (.or (.ite (.some (.sentPost hs)) .none) (.or (.ite (.some (.monClear hs)) .none) (.or (.ite
      (.some (.consCmd hs)) .none) (.map fun _ => .consStage hs)))))))))))))))))))

theorem KeepsAny.syscfgWrite (hs : Keeps s₀ s) : KeepsAny s₀ (s.syscfgWrite a v) :=
  .or (.map fun _ => .wdgCfgWrite hs) (.or (.map fun _ => .wdgTimeWrite hs) (.or (.map fun _ => .wdgTimeWrite hs) (.or (.map fun _ =>
      .wdgTimeWrite hs) (.or (.map fun _ => .wdgKick hs) (.or (.ite (.some (.gpioSet hs)) .none) (.or (.ite (.some (.gpioClr hs))
      .none) (.or (.ite (.some (.gpioDrive hs)) .none) (.or (.ite (.some (.gpioMoved (.plainWrite hs))) .none) (.or (.map fun _ =>
      .rkCtrlWrite hs) (.or (.map fun _ => .bankctlWrite hs) (.or (.ite (.some (.rkSlotWrite hs)) .none) (.or (.map fun _ =>
      .dcCfgWrite hs) (.or (.map fun _ => .dcCfgWrite hs) (.or (.map fun _ => .dcCfgWrite hs) (.or (.map fun _ => .swcmdWrite hs)
      (.or (.map fun _ => .dcTableWrite hs) (.or (.map fun _ => .nightWrite hs) (.or (.map fun _ => .nightWrite hs) (.map fun _ =>
      .nightWrite hs)))))))))))))))))))

theorem KeepsAny.writeOp (hs : Keeps s₀ s) : KeepsAny s₀ (s.writeOp a v) :=
  .or (.timingWrite hs) (.or (.switchWrite hs) (.or (.senseWrite hs) (.or (.serviceWrite hs) (.syscfgWrite hs))))

theorem Keeps.regWrite (hs : Keeps s₀ s) : Keeps s₀ (s.regWrite a v) := .ite hs (.getD (.writeOp hs) (.plainWrite hs))

theorem Keeps.unpark (hs : Keeps s₀ s) : Keeps s₀ s.unpark := by
  unfold State.unpark
  refine .ite hs ?_
  extract_lets steps rest s1 s2
  have h1 : Keeps s₀ s1 := .foldl (fun _ _ h => .stepLand h) (.same hs)
  have h2 : Keeps s₀ s2 := .ite h1 (.advance h1)
  have h3 : Keeps s₀ (rest.foldl (fun s e => s.regWrite e.1 e.2) s2) := .foldl (fun _ _ h => .regWrite h) h2
  exact .same h3

theorem Keeps.busRead (hs : Keeps s₀ s) : Keeps s₀ (s.busRead a n).2 := by
  refine .iteSnd ?_ hs
  split
  · exact .regRead hs
  · exact .regRead hs
  · exact .iteSnd hs hs
  · exact hs
  · exact hs

theorem Keeps.busWrite (hs : Keeps s₀ s) : Keeps s₀ (s.busWrite a n v).2 := by
  refine .iteSnd ?_ hs
  split
  · exact .regWrite hs
  · exact .mramWrite hs
  · exact .monM (.memWr hs)
  · exact .memWr hs
  · exact hs

end

end Sys2Proof.Machine

/-! SUPPORT. What every operation keeps, continued: the cores, the cells, DMA, the crossbar, the host port and the debug port. -/
namespace Sys2Proof.Machine

set_option Elab.async false

section
variable {s₀ s : State}

/-! ### CoreOps -/

theorem Keeps.stEnter (hs : Keeps s₀ s) : Keeps s₀ (s.stEnter n v epc cause level t) := .cpuM (.stM (.reachNow hs))

theorem Keeps.doubleFault (hs : Keeps s₀ s) : Keeps s₀ (s.doubleFault n) := .cpuM (.stM (.put hs))

theorem Keeps.stException (hs : Keeps s₀ s) : Keeps s₀ (s.stException n code epc addr posted ecc t) := by
  refine .ite (.doubleFault (.reachNow hs)) (.stEnter (.cpuM ?_))
  split
  · exact .stM hs
  · exact hs

theorem Keeps.coreExc (hs : Keeps s₀ s) : Keeps s₀ (s.coreExc c code pc addr ecc t) := by
  unfold State.coreExc
  split
  · exact .rkAbort (.reachNow hs)
  · exact .stException hs

theorem Keeps.icacheFetch (hs : Keeps s₀ s) : Keeps s₀ (s.icacheFetch n a) := .ite (.stM hs) hs

theorem Keeps.shadowEnd (hs : Keeps s₀ s) : Keeps s₀ (s.shadowEnd c) := by
  unfold State.shadowEnd
  split
  · exact hs
  · exact .stM hs

theorem Keeps.settleEff (hs : Keeps s₀ s) (he : KeepsEff s₀ e) : Keeps s₀ (s.settleEff c len t e) := by
  unfold State.settleEff
  cases e with
  | done u k => exact .cpuM he
  | jump u a k => exact .cpuM he
  | skip u a k => exact .cpuM he
  | exc code a ecc => exact .coreExc hs
  | trap code =>
    refine .coreExc ?_
    split
    · exact hs
    · exact .stM hs
  | wait u w => exact .cpuM he
  | left u => exact he
  | stay => exact .cpuM hs

theorem Keeps.remoteStoreError (hs : Keeps s₀ s) : Keeps s₀ (s.remoteStoreError n) := by
  unfold State.remoteStoreError
  dsimp only
  split
  · exact hs
  · exact .ite hs (.stException (.ite (.cpuM (.cpuM (.stM hs))) (.cpuM (.stM hs))))

theorem KeepsAny.storeErrAt (hs : Keeps s₀ s) : KeepsAny s₀ (s.storeErrAt c t) := by
  unfold State.storeErrAt
  split
  · exact .ite (.some (.rkStoreError hs)) .none
  · exact .ite .none (.some (.remoteStoreError hs))

theorem Keeps.instr (hs : Keeps s₀ s) (hbody : ∀ t x2, Keeps s₀ t → KeepsEff s₀ (body t x2)) :
    Keeps s₀ (s.instr c len pred legal falseCycles body ok) := by
  unfold State.instr
  refine .ite hs ?_
  extract_lets +onlyGivenNames t
  split
  · exact .rkAbort (.reachNow hs)
  next u _ heq => exact KeepsAny.storeErrAt hs u heq
  · extract_lets +onlyGivenNames k s1 s2
    have h2 : Keeps s₀ s2 := .reachNow (.cpuM hs)
    split
    · exact .coreExc h2
    · clear_value k
      extract_lets +onlyGivenNames s3 s4
      have h3 : Keeps s₀ s3 := by
        unfold s3
        split
        · exact h2
        · exact .icacheFetch (.icacheFetch h2)
      have h4 : Keeps s₀ s4 := .shadowEnd h3
      exact .ite (.coreExc h3) (.ite (.settleEff h4 (.done h4)) (.settleEff h4 (hbody _ _ h4)))

theorem Keeps.issueR (hs : Keeps s₀ s) (hbody : ∀ t x2, Keeps s₀ t → KeepsEff s₀ (body t x2)) : Keeps s₀ (s.issueR c f legal k body) :=
  .instr hs (fun _ _ h1 => hbody _ _ h1)

theorem Keeps.regOp (hs : Keeps s₀ s) : Keeps s₀ (s.regOp c f legal k g) := .issueR hs (fun _ _ h1 => .done (.cpuM h1))

theorem Keeps.immOp (hs : Keeps s₀ s) : Keeps s₀ (s.immOp c f legal g) := .instr hs (fun _ _ h1 => .done (.cpuM h1))

theorem Keeps.coreHaltNow (hs : Keeps s₀ s) : Keeps s₀ (s.coreHaltNow c) := by
  unfold State.coreHaltNow
  split
  · exact .rkHaltNow hs
  · exact .wdgPause (.wdgPause (.put (.cpuM hs)))

theorem Keeps.haltAtNext (hs : Keeps s₀ s) : Keeps s₀ (s.haltAtNext c) := by
  unfold State.haltAtNext
  split
  · exact .coreHaltNow (.rkAbort (.reachNow hs))
  · exact .coreHaltNow (.reachNow hs)

theorem Keeps.coreHalt (hs : Keeps s₀ s) : Keeps s₀ (s.coreHalt c) := .ite hs (.ite (.cpuM hs) (.haltAtNext hs))

theorem Keeps.haltBoundary (hs : Keeps s₀ s) : Keeps s₀ (s.haltBoundary c) := .ite (.haltAtNext hs) hs

theorem Keeps.coreResume (hs : Keeps s₀ s) : Keeps s₀ (s.coreResume c) := by
  refine .ite (.cpuM hs) (.ite ?_ hs)
  dsimp only
  split
  · exact .rkResume (.cpuM hs)
  · exact .wdgPause (.wdgPause (.put (.cpuM hs)))

/-! ### Cells -/

theorem Keeps.cellError (hs : Keeps s₀ s) : Keeps s₀ (s.cellError l) :=
  .ite (.linkDown (.portM (.inc32 (.raise hs)))) (.portM (.inc32 (.raise hs)))

theorem Keeps.cellDup (hs : Keeps s₀ s) : Keeps s₀ (s.cellDup l) := .portM (.inc32 (.raise hs))

theorem Keeps.cellAcks (hs : Keeps s₀ s) : Keeps s₀ (s.cellAcks l c) := .put (.portM hs)

theorem Keeps.cellNak (hs : Keeps s₀ s) : Keeps s₀ (s.cellNak l c) := .ite (.linkReplay hs) (.linkShow hs)

theorem Keeps.cellControl (hs : Keeps s₀ s) : Keeps s₀ (s.cellControl l c) := .cellNak (.cellAcks hs)

theorem Keeps.cellIn (hs : Keeps s₀ s) (hf : ∀ t, Keeps s₀ t → Keeps s₀ (f t)) : Keeps s₀ (s.cellIn l c here f) :=
  .ite (.linkPump (.cellError hs)) (.ite hs (.ite (.ite (.linkPump (hf _ (.cellControl (.portM hs)))) (.linkPump (.cellDup hs)))
      (.ite (.linkPump (.cellNak (hf _ (.cellAcks (.portM hs))))) (.linkPump (hf _ (.cellControl (.portM hs)))))))

theorem Keeps.cellArrive (hs : Keeps s₀ s) (hf : ∀ x1 t, Keeps s₀ t → Keeps s₀ (f x1 t)) : Keeps s₀ (s.cellArrive l x early f) := by
  unfold State.cellArrive
  extract_lets +onlyGivenNames s1
  have hs1 : Keeps s₀ s1 := .linkFresh hs
  refine .ite hs1 (.ite (.portM hs1) ?_)
  split
  · exact .ite (hf _ _ (.portM hs1)) hs1
  · exact .ite hs1 (.ite (.linkDown hs1) (.portM hs1))

theorem Keeps.respond (hs : Keeps s₀ s) : Keeps s₀ (s.respond l bad c) := .raiseIf (.portM hs)

theorem Keeps.farRead (hs : Keeps s₀ s) : Keeps s₀ (s.farRead a n).2 := by
  unfold State.farRead
  split
  · split
    · exact hs
    · split
      next heq =>
        have h1 := Keeps.of_snd heq (.busRead hs)
        split
        next heq => exact .of_snd heq (.busRead h1)
        next => exact .busRead h1
      next => exact .busRead hs
  · exact .busRead hs

theorem Keeps.farWrite (hs : Keeps s₀ s) : Keeps s₀ (s.farWrite a n v).2 := by
  unfold State.farWrite
  split
  · split
    · exact hs
    · split
      next heq => exact .busWrite (.of_snd heq (.busWrite hs))
      next => exact .busWrite hs
  · exact .busWrite hs

theorem Keeps.rdreq (hs : Keeps s₀ s) : Keeps s₀ (s.rdreq l c) := .respond (.farRead hs)

theorem Keeps.wrreq (hs : Keeps s₀ s) : Keeps s₀ (s.wrreq l c) := .respond (.farWrite hs)

theorem Keeps.requestDrain (hs : Keeps s₀ s) : Keeps s₀ (State.requestDrain l k s) := by
  induction k generalizing s with
  | zero => exact hs
  | succ k ih =>
    unfold State.requestDrain
    split
    · exact hs
    · exact .ite (ih (.ite (.rdreq (.portM hs)) (.wrreq (.portM hs)))) hs

theorem Keeps.requestIn (hs : Keeps s₀ s) : Keeps s₀ (s.requestIn l c) := .requestDrain (.portM hs)

theorem Keeps.rdresp (hs : Keeps s₀ s) : Keeps s₀ (s.rdresp l c) := .portM hs

theorem Keeps.wrcmp (hs : Keeps s₀ s) : Keeps s₀ (s.wrcmp l c) := .foldl (fun _ _ h1 => .ite (.dmaM h1) h1) (.portM hs)

theorem Keeps.eventIn (hs : Keeps s₀ s) : Keeps s₀ (s.eventIn l c) := .raiseIf (.tblM hs)

theorem Keeps.resultIn (hs : Keeps s₀ s) : Keeps s₀ (s.resultIn l ch c) := .memWr hs

theorem Keeps.busWrites (hs : Keeps s₀ s) : Keeps s₀ (s.busWrites a l).2 := by
  induction l generalizing s a with
  | nil => exact hs
  | cons v t ih =>
    unfold State.busWrites
    split
    next heq => exact ih (.of_snd heq (.busWrite hs))
    next => exact .busWrite hs

theorem Keeps.rawIn (hs : Keeps s₀ s) : Keeps s₀ (s.rawIn l ch c number) := by
  refine .ite ?_ hs
  split
  next heq => exact .put (.of_snd heq (.busWrites hs))
  next heq => exact .of_snd heq (.busWrites hs)

theorem Keeps.streamDrain (hs : Keeps s₀ s) : Keeps s₀ (State.streamDrain l k s) := by
  induction k generalizing s with
  | zero => exact hs
  | succ k ih =>
    unfold State.streamDrain
    split
    · exact hs
    · exact .ite (ih (.ite (.rawIn (.portM hs)) (.resultIn (.portM hs)))) hs

theorem Keeps.streamIn (hs : Keeps s₀ s) : Keeps s₀ (s.streamIn l c) :=
  .ite hs (.ite (.raise (.streamDrain (.inc32 hs))) (.streamDrain (.portM (.streamDrain (.inc32 hs)))))

theorem Keeps.linkSlot (hs : Keeps s₀ s) : Keeps s₀ (s.linkSlot l) := .ite (.linkShow (.portM hs)) hs

theorem Keeps.linkTick (hs : Keeps s₀ s) : Keeps s₀ s.linkTick :=
  .foldl (fun _ _ h1 => .linkSlot (.linkPump (.streamDrain (.requestDrain (.linkFresh h1))))) hs

theorem Keeps.rawSend (hs : Keeps s₀ s) : Keeps s₀ (s.rawSend l c g lines) := .ite (.linkPump (.portM (.linkFresh (.reachNow hs)))) hs

theorem Keeps.tbxReq (hs : Keeps s₀ s) : Keeps s₀ (s.tbxReq l) := .ite hs (.portM (.raiseIf hs))

theorem Keeps.tbxResp (hs : Keeps s₀ s) : Keeps s₀ (s.tbxResp l) := by
  unfold State.tbxResp
  split
  · exact hs
  · exact .portM hs

theorem Keeps.alignTo (hs : Keeps s₀ s) : Keeps s₀ (s.alignTo o) :=
  .ite (.tblM (.raiseIf (.wrN hs))) (.stepBy (.tblM (.raiseIf (.wrN hs))))

theorem Keeps.tbxFin (hs : Keeps s₀ s) : Keeps s₀ (s.tbxFin l c) := by
  unfold State.tbxFin
  split
  · exact hs
  · exact .ite hs (.alignTo (.fresh (.addfracSet (.portM hs))))

theorem Keeps.trainReady (hs : Keeps s₀ s) : Keeps s₀ (s.trainReady l) := .ite (.portM (.put (.put (.put hs)))) hs

theorem Keeps.markEcho (hs : Keeps s₀ s) : Keeps s₀ (s.markEcho l) := .portM hs

theorem Keeps.markTime (hs : Keeps s₀ s) : Keeps s₀ (s.markTime l rtt) := .portM (.ite (.monPost hs) hs)

theorem Keeps.markIn (hs : Keeps s₀ s) (hf : ∀ t, Keeps s₀ t → Keeps s₀ (f t)) : Keeps s₀ (s.markIn l sub c f) :=
  .cellIn (.ite (.trainReady hs) hs) (fun _ h1 => hf _ h1)

/-! ### CoreMem -/

theorem Keeps.setBuf (hs : Keeps s₀ s) : Keeps s₀ (s.setBuf c l) := by
  unfold State.setBuf
  split
  · exact .rkM hs
  · exact .stM hs

theorem Keeps.bufKick (hs : Keeps s₀ s) : Keeps s₀ (s.bufKick c) := by
  unfold State.bufKick
  split
  · exact .ite (.remoteIssue (.setBuf hs)) hs
  · exact hs

theorem Keeps.bufPush (hs : Keeps s₀ s) : Keeps s₀ (s.bufPush c e) := .bufKick (.setBuf hs)

theorem Keeps.loadKick (hs : Keeps s₀ s) : Keeps s₀ (s.loadKick c) := by
  unfold State.loadKick
  split
  · exact .ite (.remoteIssue hs) hs
  · exact hs

theorem Keeps.pushLine (hs : Keeps s₀ s) : Keeps s₀ (s.pushLine n l) := .bufPush hs

theorem Keeps.lineM (hs : Keeps s₀ s) : Keeps s₀ (s.lineM n a f) := .stM hs

theorem Keeps.of_lineFill (hs : Keeps s₀ s) (e : s.lineFill n a = some (ok, t)) : Keeps s₀ t := by
  unfold State.lineFill at e
  dsimp only at e
  split at e
  · contradiction
  · split at e
    · cases e
      exact hs
    · cases e
      refine .stM ?_
      split
      · exact .pushLine hs
      · exact hs

theorem KeepsEff.loadEff (hs : Keeps s₀ s) : KeepsEff s₀ (s.loadEff c a size dst upd len) := by
  refine .ite .exc ?_
  split
  · exact .done (.cpuM hs)
  · exact .exc
  · exact .wait (.ite (.remoteIssue hs) hs)

theorem KeepsEff.storeEff (hs : Keeps s₀ s) : KeepsEff s₀ (s.storeEff c a size data upd len) := by
  refine .ite .exc ?_
  split
  · exact .ite (.ite .exc (.done (.memWr (.cpuM hs)))) (.ite (.done (.bufPush (.cpuM hs))) (.wait hs))
  · exact .ite .exc (.ite (.ite (.done (.lineM (.cpuM hs))) (.wait hs)) (.ite (.done (.bufPush (.cpuM hs))) (.wait hs)))

theorem Keeps.boundary (hs : Keeps s₀ s) : Keeps s₀ (s.boundary c) := by
  unfold State.boundary
  split
  · exact .haltBoundary (.rkBoundary hs)
  · exact .haltBoundary hs

theorem KeepsAny.lateLoad (hs : Keeps s₀ s) : KeepsAny s₀ (s.lateLoad c t) := by
  refine .map fun _ => ?_
  split
  exact .rkAbort (.cpuM hs)

theorem Keeps.accessBad (hs : Keeps s₀ s) : Keeps s₀ (s.accessBad c a ecc t) := by
  unfold State.accessBad
  split
  next u heq => exact KeepsAny.lateLoad hs u heq
  next => exact .boundary (.coreExc (.cpuM hs))

theorem Keeps.loadValue (hs : Keeps s₀ s) : Keeps s₀ (s.loadValue c size v dst upd len t) := by
  unfold State.loadValue
  split
  next u heq => exact KeepsAny.lateLoad hs u heq
  next =>
    split
    · split
      · exact .boundary (.cpuM hs)
      · exact .accessBad hs
      · exact .loadKick (.cpuM hs)
    · exact .boundary (.cpuM hs)

theorem Keeps.discardOne (hs : Keeps s₀ s) : Keeps s₀ (s.discardOne n a z rest) := by
  refine .ite ?_ (.rkM (.busRead hs))
  split
  next heq => exact .rkM (.of_remoteTake hs heq)
  next => exact hs

theorem Keeps.loadDone (hs : Keeps s₀ s) : Keeps s₀ (s.loadDone c) := by
  unfold State.loadDone
  extract_lets go
  have hgo : Keeps s₀ (go s) := by
    unfold go
    dsimp only
    split
    · refine .ite hs (.ite ?_ ?_)
      · split
        next heq => exact .loadValue (.reachNow (.of_remoteTake hs heq))
        next heq => exact .accessBad (.reachNow (.of_remoteTake hs heq))
        next => exact .loadKick hs
      · split
        next heq => exact .loadValue (.of_snd heq (.busRead (.reachNow hs)))
        next heq => exact .accessBad (.of_snd heq (.busRead (.reachNow hs)))
    · exact hs
  split
  · split
    · exact .discardOne hs
    · exact hgo
  · exact hgo

theorem Keeps.missFill (hs : Keeps s₀ s) : Keeps s₀ (s.missFill n) := by
  unfold State.missFill
  extract_lets c fill
  have hfill {a len : Nat} {k : State → Nat → State} (hk : ∀ u t, Keeps s₀ u → Keeps s₀ (k u t)) : Keeps s₀ (fill a len k) := by
    refine .ite hs ?_
    extract_lets t
    split
    · exact hs
    next heq => exact .accessBad (.reachNow (.of_lineFill hs heq))
    next heq => exact hk _ _ (.reachNow (.of_lineFill hs heq))
  split
  next a z dst upd len _ =>
    refine hfill (k := fun s t => match s.st[n].dcache.find a with
      | some l => s.loadValue c z (lineGet l.data a z) dst upd len t
      | none => s) fun u t hu => ?_
    split
    · exact .loadValue hu
    · exact hu
  · exact hfill fun u t hu => .boundary (.cpuM (.lineM hu))
  · exact hs

theorem Keeps.stalledStore (hs : Keeps s₀ s) : Keeps s₀ (s.stalledStore c) := by
  unfold State.stalledStore
  split
  · exact .ite (.boundary (.cpuM (.bufPush hs))) hs
  · exact hs

theorem Keeps.bufPop (hs : Keeps s₀ s) : Keeps s₀ (s.bufPop c e rest ok) := by
  refine .loadKick (.stalledStore (.bufKick ?_))
  split
  · exact .ite (.setBuf hs) (.rkM (.setBuf hs))
  · exact .ite (.setBuf hs) (.stM (.setBuf hs))

theorem Keeps.writeLine (hs : Keeps s₀ s) : Keeps s₀ (s.writeLine a data) := .foldl (fun _ _ h1 => .busWrite h1) hs

theorem Keeps.bufAccept (hs : Keeps s₀ s) : Keeps s₀ (s.bufAccept c) := by
  unfold State.bufAccept
  split
  · exact hs
  · refine .ite hs (.ite (.bufPop (.writeLine hs)) (.ite (.ite hs ?_) ?_))
    · split
      next heq => exact .bufPop (.of_remoteTake hs heq)
      next => exact .bufKick hs
    · exact .bufPop (.busWrite hs)

theorem Keeps.atomicDo (hs : Keeps s₀ s) : Keeps s₀ (s.atomicDo c a add rd) := .cpuM (.busWrite hs)

theorem KeepsEff.atomicEff (hs : Keeps s₀ s) : KeepsEff s₀ (s.atomicEff c a add rd len) :=
  .ite .exc (.ite .exc (.ite (.ite .exc (.done (.atomicDo hs))) (.wait hs)))

theorem Keeps.fenceEnd (hs : Keeps s₀ s) : Keeps s₀ (s.fenceEnd c) := by
  refine .ite hs ?_
  dsimp only
  split
  · exact .boundary (.cpuM hs)
  · exact .ite hs (.ite (.accessBad hs) (.boundary (.cpuM (.atomicDo hs))))
  · exact hs

theorem KeepsEff.macRegEff (hs : Keeps s₀ s) : KeepsEff s₀ (s.macRegEff c f sub) := by
  unfold State.macRegEff
  dsimp only
  split
  · exact .done (.cpuM hs)
  · exact .loadEff hs

theorem KeepsEff.macMemEff (hs : Keeps s₀ s) : KeepsEff s₀ (s.macMemEff c f sub) := by
  unfold State.macMemEff
  dsimp only
  split
  · exact .loadEff hs
  · refine .ite .exc (.ite .exc ?_)
    split <;> exact .loadEff hs

/-! ### CoreAccess -/

theorem Keeps.memInstr (hs : Keeps s₀ s) (hbody : ∀ t, Keeps s₀ t → KeepsEff s₀ (body t)) : Keeps s₀ (s.memInstr c f legal body) :=
  .instr hs (fun _ _ h1 => hbody _ h1)

theorem Keeps.loadInstr (hs : Keeps s₀ s) : Keeps s₀ (s.loadInstr c f legal size dst) := .memInstr hs (fun _ h1 => .loadEff h1)

theorem Keeps.storeInstr (hs : Keeps s₀ s) : Keeps s₀ (s.storeInstr c f legal size data) := .memInstr hs (fun _ h1 => .storeEff h1)

theorem Keeps.atomicInstr (hs : Keeps s₀ s) : Keeps s₀ (s.atomicInstr c f add) := .memInstr hs (fun _ h1 => .atomicEff h1)

theorem KeepsAny.lineClean (hs : Keeps s₀ s) : KeepsAny s₀ (s.lineClean n a) := by
  unfold State.lineClean
  split
  · exact .some hs
  · exact .ite .none (.some (.pushLine (.lineM hs)))

theorem Keeps.lineDrop (hs : Keeps s₀ s) : Keeps s₀ (s.lineDrop n a) := .stM hs

theorem Keeps.cacheInstr (hs : Keeps s₀ s) (hg : ∀ t n a, Keeps s₀ t → KeepsAny s₀ (g t n a)) : Keeps s₀ (s.cacheInstr c f op g) := by
  refine .memInstr hs fun t ht => ?_
  split
  · exact .stay
  · extract_lets b
    split
    next u heq => exact .done (.cpuM (hg _ _ _ ht u heq))
    next => exact .stay

theorem Keeps.cmaintWrite (hs : Keeps s₀ s) : Keeps s₀ (s.cmaintWrite n v) := .stM hs

theorem Keeps.cmaintDone (hs : Keeps s₀ s) : Keeps s₀ (s.cmaintDone n) :=
  .ite hs (.stM (.ite (.foldl (fun _ _ h1 => .writeLine h1) hs) hs))

/-! ### DmaRun -/

theorem Keeps.dmaStamp (hs : Keeps s₀ s) : Keeps s₀ (s.dmaStamp c) := .dmaM hs

theorem Keeps.dmaAwait (hs : Keeps s₀ s) : Keeps s₀ (s.dmaAwait c) := .ite (.dmaBlockStart (.put hs)) (.dmaGo hs)

theorem Keeps.dmaLoad (hs : Keeps s₀ s) : Keeps s₀ (s.dmaLoad c a) := .dmaM hs

theorem Keeps.dmaFetch (hs : Keeps s₀ s) : Keeps s₀ (s.dmaFetch c) :=
  .ite hs (.ite (.raise (.dmaHalt (.dmaLoad hs))) (.ite (.dmaGo (.dmaStamp (.dmaM (.put (.dmaLoad hs))))) (.ite (.dmaBlockStart (.put
      (.dmaLoad hs))) (.dmaAwait (.put (.dmaLoad hs))))))

theorem Keeps.readRange (hs : Keeps s₀ s) : Keeps s₀ (State.readRange words fuel a n s).2 := by
  induction fuel generalizing s a n with
  | zero => exact hs
  | succ fuel ih =>
    cases n with
    | zero => exact hs
    | succ n =>
      rw [State.readRange.eq_3 _ _ _ _ _ (Nat.succ_ne_zero n)]
      split
      next heq => exact .of_snd heq (.busRead hs)
      next heq => exact ih (.of_snd heq (.busRead hs))

theorem Keeps.takeRemote (hs : Keeps s₀ s) : Keeps s₀ (State.takeRemote l who fuel n ok s).2 := by
  induction fuel generalizing s n ok with
  | zero => exact hs
  | succ fuel ih =>
    cases n with
    | zero => exact hs
    | succ n =>
      rw [State.takeRemote.eq_3 _ _ _ _ _ _ (Nat.succ_ne_zero n)]
      split
      · exact hs
      · split
        · exact ih (.portM hs)
        · exact ih (.portM hs)

theorem Keeps.beatBytes (hs : Keeps s₀ s) : Keeps s₀ (s.beatBytes words far a off k).2 := by
  unfold State.beatBytes
  split
  · exact hs
  · exact .readRange hs

theorem Keeps.dmaPut (hs : Keeps s₀ s) : Keeps s₀ (s.dmaPut c a k v).2 := by
  unfold State.dmaPut
  split
  · exact .remoteIssue hs
  · split
    · split
      next heq => exact .busWrite (.of_snd heq (.busWrite hs))
      next => exact .busWrite hs
    · exact .busWrite hs

theorem Keeps.dmaPutBytes (hs : Keeps s₀ s) : Keeps s₀ (State.dmaPutBytes c fuel a l s).2.2 := by
  induction fuel generalizing s a l with
  | zero => exact hs
  | succ fuel ih =>
    cases l with
    | nil => exact hs
    | cons v t =>
      rw [State.dmaPutBytes.eq_3 _ _ _ _ _ (List.cons_ne_nil v t)]
      split
      next heq => exact .of_snd heq (.dmaPut hs)
      next heq => exact ih (.of_snd heq (.dmaPut hs))

theorem Keeps.dmaStartup (hs : Keeps s₀ s) : Keeps s₀ (s.dmaStartup c) := .reachNow hs

theorem Keeps.dmaBeats (hs : Keeps s₀ s) : Keeps s₀ (State.dmaBeats c d src ref start fuel pos n s).2.2 := by
  induction fuel generalizing s pos n with
  | zero => exact hs
  | succ fuel ih =>
    cases n with
    | zero => exact hs
    | succ n =>
      rw [State.dmaBeats.eq_3 _ _ _ _ _ _ _ _ _ (Nat.succ_ne_zero n)]
      split
      next x whole u heq =>
        have hu : Keeps s₀ u := .of_snd heq (.iteSnd hs (.beatBytes hs))
        split
        · split
          next y wholeY w heq =>
            have hw : Keeps s₀ w := .of_snd heq (.beatBytes hu)
            split
            · exact hw
            · split
              · exact ih hw
              · exact hw
        · split
          · split
            next heq => exact .of_snd heq (.dmaPut hu)
            next heq => exact ih (.of_snd heq (.dmaPut hu))
          · exact .dmaPutBytes hu

theorem Keeps.blockRemote (hs : Keeps s₀ s) : Keeps s₀ (s.blockRemote c used a n).2 := .iteSnd (.takeRemote hs) hs

theorem Keeps.dmaMove (hs : Keeps s₀ s) : Keeps s₀ (s.dmaMove c n) :=
  .dmaStamp (.put (.dmaM (.dmaBeats (.blockRemote (.blockRemote hs)))))

theorem Keeps.dmaBlockEnd (hs : Keeps s₀ s) : Keeps s₀ (s.dmaBlockEnd c) :=
  .ite hs (.ite (.dmaGo (.dmaM hs)) (.ite (.dmaGo (.dmaMove (.dmaStartup hs))) (.ite (.dmaGo (.dmaM (.dmaMove (.dmaStartup hs))))
      (.ite (.dmaGo (.dmaMove (.dmaStartup hs))) (.dmaAwait (.dmaMove (.dmaStartup hs)))))))

theorem Keeps.dmaLanded (hs : Keeps s₀ s) : Keeps s₀ (s.dmaLanded c) :=
  .ite (.foldl (fun _ _ h1 => .portM h1) hs) (.put (.dmaM (.foldl (fun _ _ h1 => .portM h1) hs)))

theorem Keeps.dmaWriteBack (hs : Keeps s₀ s) : Keeps s₀ (s.dmaWriteBack c) := .busWrite (.busWrite (.busWrite hs))

theorem Keeps.dmaSignal (hs : Keeps s₀ s) : Keeps s₀ (s.dmaSignal c) :=
  .foldl (fun _ _ h1 => .ite (.dmaTrigger h1) h1) (.ite (.reachNow hs) hs)

theorem Keeps.dmaFinish (hs : Keeps s₀ s) : Keeps s₀ (s.dmaFinish c) :=
  .ite (.dmaGo (.wrN (.dmaSignal (.raiseIf (.raiseIf (.raiseIf (.raiseIf (.ite (.put (.inc32 (.dmaWriteBack (.dmaLanded hs))))
      (.monPost (.put (.inc32 (.dmaWriteBack (.dmaLanded hs))))))))))))) (.dmaHalt (.dmaSignal (.raiseIf (.raiseIf (.raiseIf
      (.raiseIf (.ite (.put (.inc32 (.dmaWriteBack (.dmaLanded hs)))) (.monPost (.put (.inc32 (.dmaWriteBack (.dmaLanded hs))))))))))))

theorem Keeps.dmaComplete (hs : Keeps s₀ s) : Keeps s₀ (s.dmaComplete c moved) :=
  .ite hs (.ite (.dmaFinish (.ite hs (.ite (.dmaGo (.dmaM (.dmaMove (.dmaStartup hs)))) (.ite (.dmaBlockEnd hs) hs)))) (.ite hs (.ite
      (.dmaGo (.dmaM (.dmaMove (.dmaStartup hs)))) (.ite (.dmaBlockEnd hs) hs))))

/-! ### Flow -/

theorem Keeps.branchInstr (hs : Keeps s₀ s) : Keeps s₀ (s.branchInstr c f call) := .instr hs (fun _ _ h1 => .jump (.ite (.cpuM h1) h1))

theorem Keeps.jumpInstr (hs : Keeps s₀ s) : Keeps s₀ (s.jumpInstr c f legal call g) :=
  .issueR hs (fun _ _ h1 => .ite .exc (.jump (.ite (.cpuM h1) h1)))

theorem Keeps.loopInstr (hs : Keeps s₀ s) : Keeps s₀ (s.loopInstr c f) := .instr hs (fun _ _ h1 => .ite (.skip h1) (.done (.cpuM h1)))

theorem Keeps.tdoneCarry (hs : Keeps s₀ s) : Keeps s₀ (s.tdoneCarry c f) := by
  unfold State.tdoneCarry
  dsimp only
  split
  · exact .ite (.raise (.reachNow hs)) hs
  · exact hs

theorem Keeps.stInstr (hs : Keeps s₀ s) (hg : ∀ t x2 x3, Keeps s₀ t → KeepsEff s₀ (g t x2 x3)) : Keeps s₀ (s.stInstr c f rb k g) := by
  refine .issueR hs (fun _ _ h1 => ?_)
  split
  · exact .stay
  · exact hg _ _ _ h1

theorem Keeps.wfiEnd (hs : Keeps s₀ s) : Keeps s₀ (s.wfiEnd n) := .ite (.cpuM (.stM hs)) hs

theorem Keeps.irqLatency (hs : Keeps s₀ s) : Keeps s₀ (s.irqLatency n src since) := .ite hs (.monPost (.monM hs))

theorem Keeps.interruptEntry (hs : Keeps s₀ s) : Keeps s₀ (s.interruptEntry n) := by
  unfold State.interruptEntry
  dsimp only
  split
  · exact hs
  · exact .ite (.irqLatency (.stEnter (.cpuM (.wfiEnd hs)))) hs

theorem Keeps.nmiEntry (hs : Keeps s₀ s) : Keeps s₀ (s.nmiEntry n) := .ite (.stEnter (.stM (.cpuM (.wfiEnd hs)))) hs

theorem KeepsAny.stSysWrite (hs : Keeps s₀ s) : KeepsAny s₀ (s.stSysWrite n i v) := by
  unfold State.stSysWrite
  split
  · exact .some (.stM hs)
  · exact .some hs
  · exact .some hs
  · exact .some hs
  · exact .some (.stM hs)
  · exact .some (.stM hs)
  · exact .some (.stM hs)
  · exact .some (.stM hs)
  · exact .some (.stM hs)
  · exact .some (.cmaintWrite hs)
  · exact .none

theorem KeepsAny.sysWrite (hs : Keeps s₀ s) : KeepsAny s₀ (s.sysWrite c i v) := by
  unfold State.sysWrite
  split
  · exact .some (.cpuM hs)
  · exact .some (.cpuM hs)
  · exact .some (.cpuM hs)
  · exact .some hs
  · exact .some hs
  · exact .some hs
  · exact .some hs
  · split
    · exact .none
    · exact .stSysWrite hs

/-! ### Ports -/

theorem Keeps.perform (hs : Keeps s₀ s) : Keeps s₀ (s.perform a).2 := by
  unfold State.perform
  split
  · exact .busWrite hs
  · exact .busRead hs

theorem Keeps.tagResult (hs : Keeps s₀ s) : Keeps s₀ (s.tagResult t r) := .xbarM hs

theorem Keeps.xbarIssue (hs : Keeps s₀ s) : Keeps s₀ (s.xbarIssue m a t) := by
  unfold State.xbarIssue
  dsimp only
  split
  · exact .xbarM (.served (.xbarM hs))
  · exact .ite (.ite (.remoteIssue (.served (.xbarM hs))) (.tagResult (.served (.xbarM hs)))) (.tagResult (.perform (.served (.xbarM
        hs))))

theorem Keeps.xbarAsk (hs : Keeps s₀ s) : Keeps s₀ (s.xbarAsk m a) := by
  refine .ite hs ?_
  dsimp only
  split
  · exact .ite (.xbarM hs) (.xbarIssue hs)
  · exact .xbarM hs

theorem Keeps.xbarGrant (hs : Keeps s₀ s) : Keeps s₀ (s.xbarGrant k) := by
  induction k generalizing s with
  | zero => exact hs
  | succ k ih =>
    unfold State.xbarGrant
    refine .ite (ih (.remoteGrant hs)) ?_
    split
    · exact hs
    · split
      · exact ih (.xbarIssue (.xbarM hs))
      · exact hs

theorem Keeps.grantAll (hs : Keeps s₀ s) : Keeps s₀ s.grantAll := .xbarGrant (.txKicks (.blockDrain hs))

theorem Keeps.xbarTransaction (hs : Keeps s₀ s) : Keeps s₀ (s.xbarTransaction m a) := .xbarAsk (.grantAll hs)

theorem Keeps.dmaBusError (hs : Keeps s₀ s) : Keeps s₀ (s.dmaBusError c) := by
  unfold State.dmaBusError
  split
  · exact hs
  · exact .dmaGo (.dmaM (.dmaLoad hs))
  · exact .dmaGo (.dmaM hs)
  · exact .dmaM hs

theorem Keeps.xbarError (hs : Keeps s₀ s) : Keeps s₀ (s.xbarError m a) := by
  unfold State.xbarError
  split
  · dsimp only
    split
    · exact .accessBad hs
    · exact .accessBad hs
    · exact .stM hs
  · exact .ite (.rkM hs) (.ite (.accessBad hs) (.rkAbort hs))
  · exact .dmaBusError hs
  · exact .same hs
  · exact .same hs
  · exact hs
  · exact hs
  · exact hs
  · exact hs

theorem Keeps.xbarRespond (hs : Keeps s₀ s) : Keeps s₀ (s.xbarRespond m a r) := by
  unfold State.xbarRespond
  split
  · exact .ite (.portM hs) (.respond hs)
  · exact hs

theorem Keeps.xbarComplete (hs : Keeps s₀ s) : Keeps s₀ (s.xbarComplete t) := by
  unfold State.xbarComplete
  split
  · exact hs
  next e _ =>
    extract_lets fin
    have hfin {r : Bool × Nat} {u : State} (hu : Keeps s₀ u) : Keeps s₀ (fin r u) := by
      unfold fin
      extract_lets u1 u2 u3
      have h1 : Keeps s₀ u1 := .xbarM hu
      have h2 : Keeps s₀ u2 := .ite (.answer h1) h1
      have h3 : Keeps s₀ u3 := .xbarRespond (.ite h2 (.xbarError h2))
      exact .grantAll h3
    split
    · exact hfin hs
    · refine .ite ?_ hs
      split
      next heq => exact hfin (.of_remoteTake hs heq)
      next => exact hs

theorem Keeps.tcmAccess (hs : Keeps s₀ s) : Keeps s₀ (s.tcmAccess n) := by
  unfold State.tcmAccess
  split
  · exact hs
  · exact .ite hs (.tagResult (.perform (.xbarM hs)))

theorem Keeps.hostM (hs : Keeps s₀ s) : Keeps s₀ (s.hostM f) := .same hs

theorem Keeps.hostDiscard (hs : Keeps s₀ s) : Keeps s₀ s.hostDiscard := by
  unfold State.hostDiscard
  split
  · exact hs
  · exact .hostM hs

theorem Keeps.hostFetch (hs : Keeps s₀ s) : Keeps s₀ (State.hostFetch n a s).2 := by
  induction n generalizing s a with
  | zero => exact hs
  | succ n ih =>
    unfold State.hostFetch
    split
    next w u heq =>
      refine ih (.of_snd heq (.iteSnd (.remoteIssue hs) (.iteSnd hs ?_)))
      split
      next heq => exact .of_snd heq (.busRead hs)
      next heq => exact .hostM (.of_snd heq (.busRead hs))

theorem Keeps.hostAnswer (hs : Keeps s₀ s) : Keeps s₀ (s.hostAnswer ws extra) := .hostM hs

theorem Keeps.hostNotReady (hs : Keeps s₀ s) : Keeps s₀ s.hostNotReady := .hostM hs

theorem Keeps.hostRead (hs : Keeps s₀ s) : Keeps s₀ (s.hostRead a count inTime extra) := by
  refine .ite (.hostM hs) ?_
  dsimp only
  split
  · exact .ite (.hostAnswer (.hostM hs)) (.hostNotReady hs)
  · exact .ite (.hostAnswer (.hostM (.hostDiscard hs))) (.ite (.hostAnswer (.hostFetch (.hostDiscard hs))) (.hostNotReady (.hostM
        (.hostFetch (.hostDiscard hs)))))

theorem Keeps.hostWrite (hs : Keeps s₀ s) : Keeps s₀ (s.hostWrite a words) :=
  .ite (.hostM hs) (.ite (.hostM (.hostM (.hostDiscard hs))) (.hostM (.hostM (.hostDiscard hs))))

theorem Keeps.hostStatus (hs : Keeps s₀ s) : Keeps s₀ s.hostStatus := .ite (.hostM hs) (.hostM (.hostDiscard hs))

theorem Keeps.hostDrop (hs : Keeps s₀ s) : Keeps s₀ (s.hostDrop l) := by
  induction l generalizing s with
  | nil => exact .hostM hs
  | cons a t ih =>
    unfold State.hostDrop
    split
    next heq => exact ih (.of_remoteTake hs heq)
    next => exact .hostM hs

theorem Keeps.hostTake (hs : Keeps s₀ s) : Keeps s₀ (State.hostTake a l s).2 := by
  induction l generalizing s a with
  | nil => exact hs
  | cons w t ih =>
    cases w with
    | some w => exact ih hs
    | none =>
      unfold State.hostTake
      split
      · split
        · exact ih (.hostM (.busRead hs))
        · exact hs
      · split
        next heq => exact ih (.of_remoteTake hs heq)
        next heq => exact ih (.hostM (.of_remoteTake hs heq))
        next => exact hs

theorem Keeps.hostReadComplete (hs : Keeps s₀ s) : Keeps s₀ s.hostReadComplete := by
  unfold State.hostReadComplete
  dsimp only
  split
  · exact .hostDrop hs
  · exact .ite (.hostM (.hostTake (.hostDrop hs))) (.hostDrop hs)

theorem Keeps.hostRetire (hs : Keeps s₀ s) : Keeps s₀ s.hostRetire := by
  unfold State.hostRetire
  split
  · split
    next heq => exact .hostM (.of_remoteTake hs heq)
    next => exact hs
  · exact hs

theorem Keeps.hostDrain (hs : Keeps s₀ s) : Keeps s₀ s.hostDrain := by
  unfold State.hostDrain
  dsimp only
  split
  · exact .hostRetire hs
  · exact .ite (.ite (.remoteIssue (.hostM (.hostRetire hs))) (.hostRetire hs)) (.ite (.hostRetire hs) (.hostM (.busWrite
        (.hostRetire hs))))

theorem Keeps.debugM (hs : Keeps s₀ s) : Keeps s₀ (s.debugM f) := .same hs

theorem Keeps.debugIf (hs : Keeps s₀ s) (hf : ∀ t, Keeps s₀ t → Keeps s₀ (f t)) : Keeps s₀ (s.debugIf f) := .ite (hf _ hs) (.debugM hs)

theorem Keeps.debugStep (hs : Keeps s₀ s) : Keeps s₀ (s.debugStep c) := .ite (.cpuM hs) hs

theorem KeepsAny.coreWrite (hs : Keeps s₀ s) : KeepsAny s₀ (s.coreWrite c r v) := by
  unfold State.coreWrite
  split
  · exact .some (.cpuM hs)
  · exact .some (.cpuM hs)
  · exact .some (.cpuM hs)
  · exact .some (.cpuM hs)
  · exact .some (.cpuM hs)
  · exact .sysWrite hs
  · exact .some (.cpuM hs)
  · exact .some (.cpuM hs)

theorem Keeps.debugReg (hs : Keeps s₀ s) : Keeps s₀ (s.debugReg c r v) := by
  unfold State.debugReg
  extract_lets +onlyGivenNames s1 bad
  have hs1 : Keeps s₀ s1 := .ite (.cpuM hs) hs
  have hbad : Keeps s₀ bad := .debugM hs1
  refine .ite ?_ hbad
  split
  · exact .getD (.coreWrite hs1) hbad
  · split
    · exact .answer (.debugM hs1)
    · exact hbad

theorem Keeps.debugMem (hs : Keeps s₀ s) : Keeps s₀ (s.debugMem a) := by
  unfold State.debugMem
  extract_lets +onlyGivenNames fin
  have hfin {r : Bool × Nat} {u : State} (hu : Keeps s₀ u) : Keeps s₀ (fin r u) := by
    unfold fin
    extract_lets u1
    have h1 : Keeps s₀ u1 := .ite (.answer (.debugM hu)) hu
    exact .ite h1 (.debugM h1)
  refine .ite ?_ (.ite (hfin (.perform hs)) hs)
  extract_lets l
  split
  · split
    · exact hfin (.portM hs)
    · exact hs
  · exact .ite (hfin hs) (.ite (.remoteIssue hs) hs)

theorem Keeps.jtag (hs : Keeps s₀ s) : Keeps s₀ (s.jtag code pads bypass) := .debugM hs

/-! ### Fetch -/

theorem Keeps.reservedWord (hs : Keeps s₀ s) : Keeps s₀ (s.reservedWord c) := .instr hs (fun _ _ _ => .stay)

/-! ### WellFormed -/

theorem Keeps.laneFree (hs : Keeps s₀ s) : Keeps s₀ (s.laneFree k idle) := .reachNow hs

end

end Sys2Proof.Machine

/-! SUPPORT. What every command keeps. -/
namespace Sys2Proof.Machine

set_option Elab.async false

section
variable {s₀ s : State}

theorem KeepsAny.mapOf {f : State → State} {p : Option State} (hp : KeepsAny s₀ p) (hf : ∀ t, Keeps s₀ t → Keeps s₀ (f t)) :
    KeepsAny s₀ (p.map f) := by
  cases p with
  | none => exact .none
  | some u => exact .some (hf u (hp u rfl))

theorem KeepsIn.smp (hs : Keeps s₀ s) : KeepsIn s₀ (execSmp c f s) := by
  refine .next (.instr hs (fun _ _ h1 => ?_))
  split
  · exact .stay
  · exact .done (.rkM (.cpuM h1))

theorem KeepsIn.stg (hs : Keeps s₀ s) : KeepsIn s₀ (execStg c f s) := by
  refine .next (.instr hs (fun _ _ h1 => ?_))
  split
  · exact .stay
  · exact .ite .exc (.ite .exc (.done (.rkM h1)))

theorem KeepsIn.tdone (hs : Keeps s₀ s) : KeepsIn s₀ (execTdone c f s) := by
  refine .next (.issueR (.tdoneCarry hs) (fun _ _ h1 => ?_))
  split
  · exact .left (.rkTdone h1)
  · exact .stay

theorem KeepsIn.bswp (hs : Keeps s₀ s) : KeepsIn s₀ (execBswp c f s) := by
  refine .next (.issueR hs (fun _ _ h1 => ?_))
  split
  · exact .done (.swapRequest h1)
  · exact .stay

theorem KeepsIn.mfs (hs : Keeps s₀ s) : KeepsIn s₀ (execMfs c f s) := by
  refine .next (.instr hs (fun _ _ h1 => ?_))
  split
  · exact .done (.cpuM h1)
  · exact .exc

theorem KeepsIn.mts (hs : Keeps s₀ s) : KeepsIn s₀ (execMts c f s) := by
  refine .next (.instr hs (fun _ _ h1 => ?_))
  split
  · exact .done (KeepsAny.sysWrite h1 _ ‹_›)
  · exact .exc

/-- Every command answers a next state that keeps the queue and the canonical form. -/
theorem KeepsIn.exec (hs : Keeps s₀ s) : KeepsIn s₀ (exec i s) := by
  cases i with
  | registerWrite => exact .next (.ite (.busWrite hs) hs)
  | counterReadClear => exact .next (.ite (.answer (.regRead hs)) (.answer hs))
  | stampLoRead => exact .next (.ite (.answer (.regRead hs)) (.answer hs))
  | crossbarTransaction => exact .next (.xbarTransaction hs)
  | transactionComplete => exact .next (.xbarComplete hs)
  | tcmExternalAccess => exact .next (.tcmAccess hs)
  | mramWriteDurable => exact .next (.mramDurable hs)
  | wearLevelMove => exact .next (.wearMove hs)
  | wearLevelMoveEnd => exact .next (.wearMoveEnd hs)
  | addfracWrite => exact .next (.addfracWrite hs)
  | stepApply => exact .next (.stepApply hs)
  | nowLoRead => exact .next (.nowLoRead hs)
  | rodArm => exact .next (.rodArm hs)
  | rodPeriodCommit => exact .next (.rodPeriodCommit hs)
  | rodFiring => exact .next (.rodFiring hs)
  | queuePush => exact .next (.queuePush hs)
  | queueEntryFire => exact .next (.queueEntryFire hs)
  | queueCancel => exact .next (.queueCancel hs)
  | queueFlush => exact .next (.queueFlush hs)
  | softwareLaunch => exact .next (.softwareLaunch hs)
  | trginEdge => exact .next (.trginEdge hs)
  | trgoutLaunch => exact .next (.takeLaunch hs (fun _ _ h1 => .trgoutAct (.reachCount h1)))
  | trgoutPulseEnd => exact .next (.trgoutPulseEnd hs)
  | forwardedEventFire => exact .next (.forwardedEventFire hs)
  | launchHoldResume => exact .next (.launchHoldResume hs)
  | relockSys => exact .next (.relockSys hs)
  | relockSync => exact .next (.relockSync hs)
  | pllLockComplete => exact .next (.unpark (.pllLockComplete hs))
  | referenceLoss => exact .next (.referenceLoss hs)
  | referenceReturn => exact .next (.referenceReturn hs)
  | syncPllLossOfLock => exact .next (.syncLoss hs)
  | sysPllLossOfLock => exact .next (.sysLoss hs)
  | pllUpdateGo => exact .next (.pllUpdateGo hs)
  | pllUpdateApply => exact .next (.unpark (.pllUpdateApply hs))
  | mainResultIssue => exact .next (.mainResult hs)
  | captureStrobe => exact .next (.captureStrobe hs)
  | overcurrentAssert => exact .next (.overcurrentAssert hs)
  | overcurrentDeassert => exact .next (.overcurrentDeassert hs)
  | clklossDetect => exact .next (.clkloss hs)
  | stuckDetect => exact .next (.stuckDetect hs)
  | manchesterViolation => exact .next (.manchester hs)
  | healthFaultEnd => exact .next (.healthEnd hs)
  | inputCfgWrite => exact .next (.inputCfg hs)
  | groupCfgWrite => exact .next (.groupCfgWrite hs)
  | acuSingle => exact .next (.acuSingle hs)
  | acuListgo => exact .next (.acuListgo hs)
  | acuListstop => exact .next (.acuListstop hs)
  | acuCalzero => exact .next (.acuCal hs)
  | acuCalfull => exact .next (.acuCal hs)
  | acuUrgent => exact .next (.ite (.takeLaunch hs (fun _ _ h1 => .acuUrgent h1)) (.acuUrgent hs))
  | acuCfgWrite => exact .next (.acuCfgWrite hs)
  | acuListStep => exact .next (.takeLaunch hs (fun _ _ h1 => .acuListStep h1))
  | acuConversionStart => exact .next (.acuConversionStart hs)
  | acuResult => exact .next (.acuResult hs)
  | acuNoclk => exact .next (.acuNoclk hs)
  | acuCalEntryDurable => exact .next (.acuCalDurable hs)
  | acuCalLoadDone => exact .next (.acuCalLoad hs)
  | add => exact .next (.regOp hs)
  | sub => exact .next (.regOp hs)
  | adds => exact .next (.regOp hs)
  | subs => exact .next (.regOp hs)
  | andd => exact .next (.regOp hs)
  | orr => exact .next (.regOp hs)
  | xor => exact .next (.regOp hs)
  | andn => exact .next (.regOp hs)
  | shl => exact .next (.regOp hs)
  | shr => exact .next (.regOp hs)
  | sra => exact .next (.regOp hs)
  | shls => exact .next (.regOp hs)
  | mul => exact .next (.regOp hs)
  | mulh => exact .next (.regOp hs)
  | mulhu => exact .next (.regOp hs)
  | mulq => exact .next (.regOp hs)
  | div => exact .next (.regOp hs)
  | divu => exact .next (.regOp hs)
  | min => exact .next (.regOp hs)
  | max => exact .next (.regOp hs)
  | minu => exact .next (.regOp hs)
  | maxu => exact .next (.regOp hs)
  | abss => exact .next (.regOp hs)
  | negs => exact .next (.regOp hs)
  | clz => exact .next (.regOp hs)
  | mov => exact .next (.regOp hs)
  | sel => exact .next (.regOp hs)
  | mda => exact .next (.regOp hs)
  | mad => exact .next (.regOp hs)
  | addar => exact .next (.regOp hs)
  | cmpeq => exact .next (.regOp hs)
  | cmpne => exact .next (.regOp hs)
  | cmplt => exact .next (.regOp hs)
  | cmple => exact .next (.regOp hs)
  | cmpltu => exact .next (.regOp hs)
  | cmpleu => exact .next (.regOp hs)
  | addi => exact .next (.immOp hs)
  | addsi => exact .next (.immOp hs)
  | andi => exact .next (.immOp hs)
  | ori => exact .next (.immOp hs)
  | xori => exact .next (.immOp hs)
  | shli => exact .next (.immOp hs)
  | shri => exact .next (.immOp hs)
  | srai => exact .next (.immOp hs)
  | movi => exact .next (.immOp hs)
  | muli => exact .next (.immOp hs)
  | cmpeqi => exact .next (.immOp hs)
  | cmplti => exact .next (.immOp hs)
  | cmpltui => exact .next (.immOp hs)
  | mova => exact .next (.immOp hs)
  | adda => exact .next (.immOp hs)
  | pand => exact .next (.regOp hs)
  | por => exact .next (.regOp hs)
  | pxor => exact .next (.regOp hs)
  | pandn => exact .next (.regOp hs)
  | pnot => exact .next (.regOp hs)
  | pset => exact .next (.regOp hs)
  | movdp => exact .next (.regOp hs)
  | movpd => exact .next (.regOp hs)
  | ldB => exact .next (.loadInstr hs)
  | ldBu => exact .next (.loadInstr hs)
  | ldH => exact .next (.loadInstr hs)
  | ldHu => exact .next (.loadInstr hs)
  | ldW => exact .next (.loadInstr hs)
  | ldD => exact .next (.loadInstr hs)
  | lda => exact .next (.loadInstr hs)
  | stB => exact .next (.storeInstr hs)
  | stH => exact .next (.storeInstr hs)
  | stW => exact .next (.storeInstr hs)
  | stD => exact .next (.storeInstr hs)
  | sta => exact .next (.storeInstr hs)
  | nonlocalLoadDone => exact .next (.loadDone hs)
  | postedStoreAccept => exact .next (.bufAccept hs)
  | postedStoreBusError => exact .next (.rkStoreError hs)
  | macd => exact .next (.instr hs (fun _ _ h1 => .macMemEff h1))
  | msud => exact .next (.instr hs (fun _ _ h1 => .macMemEff h1))
  | macc => exact .next (.instr hs (fun _ _ h1 => .macRegEff h1))
  | msuc => exact .next (.instr hs (fun _ _ h1 => .macRegEff h1))
  | clrw => exact .next (.regOp hs)
  | movw => exact .next (.regOp hs)
  | addw => exact .next (.regOp hs)
  | subw => exact .next (.regOp hs)
  | negw => exact .next (.regOp hs)
  | movqw => exact .next (.regOp hs)
  | rdwl => exact .next (.regOp hs)
  | rdwh => exact .next (.regOp hs)
  | rdwg => exact .next (.regOp hs)
  | wrwl => exact .next (.regOp hs)
  | wrwh => exact .next (.regOp hs)
  | wrwg => exact .next (.regOp hs)
  | macr => exact .next (.regOp hs)
  | msur => exact .next (.regOp hs)
  | extr => exact .next (.immOp hs)
  | br => exact .next (.branchInstr hs)
  | call => exact .next (.branchInstr hs)
  | jr => exact .next (.jumpInstr hs)
  | callr => exact .next (.jumpInstr hs)
  | ret => exact .next (.jumpInstr hs)
  | loop => exact .next (.loopInstr hs)
  | loopBodyEnd => exact .next (.ite (.cpuM hs) hs)
  | smp => exact .smp hs
  | stg => exact .stg hs
  | tdone => exact .tdone hs
  | bswp => exact .bswp hs
  | nop => exact .next (.regOp hs)
  | fence => exact .next (.issueR hs (fun _ _ h1 => .ite (.done h1) (.wait h1)))
  | fenceDrainEnd => exact .next (.fenceEnd hs)
  | bkpt => exact .next (.issueR hs (fun _ _ h1 => .ite (.done (.coreHaltNow h1)) .exc))
  | clrc => exact .next (.regOp hs)
  | endl => exact .next (.regOp hs)
  | ei => exact .next (.stInstr hs (fun _ _ _ h1 => .done (.stM h1)))
  | di => exact .next (.stInstr hs (fun _ _ _ h1 => .done (.stM h1)))
  | reti => exact .next (.stInstr hs (fun _ _ _ h1 => .jump (.cpuM (.stM h1))))
  | wfi => exact .next (.stInstr hs (fun _ _ _ h1 => .ite (.done h1) (.left (.stM h1))))
  | wfiWake => exact .next (.ite (.interruptEntry (.wfiEnd hs)) hs)
  | trap => exact .next (.stInstr hs (fun _ _ _ h1 => .trap))
  | mfs => exact .mfs hs
  | mts => exact .mts hs
  | swap => exact .next (.atomicInstr hs)
  | aadd => exact .next (.atomicInstr hs)
  | ccln => exact .next (.cacheInstr hs (fun _ _ _ h1 => .lineClean h1))
  | cinv => exact .next (.cacheInstr hs (fun _ _ _ h1 => .some (.lineDrop h1)))
  | cci => exact .next (.cacheInstr hs (fun _ _ _ h1 => .mapOf (.lineClean h1) (fun _ h2 => .lineDrop h2)))
  | icinv => exact .next (.cacheInstr hs (fun _ _ _ h1 => .some (.stM h1)))
  | reckonerLaunch => exact .next (.rkLaunch hs)
  | taskDispatch => exact .next (.rkDispatch hs)
  | taskEndRelease => exact .next (.rkTaskEnd hs)
  | releaseLanding => exact .next (.relLand hs)
  | deadlineMiss => exact .next (.rkDeadline hs)
  | reckonerEnableWrite => exact .next (.rkCtrlWrite hs)
  | abortnow => exact .next (.rkCtrlWrite hs)
  | bankSwapRequest => exact .next (.bankctlWrite hs)
  | bankSwapCancel => exact .next (.bankctlWrite hs)
  | carrierZero => exact .next (.carrierZero hs)
  | carrierPeak => exact .next (.carrierPeak hs)
  | carrierRestart => exact .next (.carrierRestart hs)
  | pwmRestartWrite => exact .next (.pwmRestartWrite hs)
  | carrierCfgWrite => exact .next (.carrierCfgWrite hs)
  | loadallWrite => exact .next (.loadallWrite hs)
  | carrierLoadallLaunch => exact .next (.takeLaunch hs (fun _ _ h1 => .armCarrier h1))
  | loadcnclWrite => exact .next (.loadcnclWrite hs)
  | shadowWriteLand => exact .next (.shadowWrite hs)
  | refEdge => exact .next (.refEdge hs)
  | deadTimeEnd => exact .next (.deadTimeEnd hs)
  | legOvrWrite => exact .next (.legOvrWrite hs)
  | legCfgWrite => exact .next (.legCfgWrite hs)
  | forceEventAssert => exact .next (.forceSet hs)
  | fltinAssert => exact .next (.fltinSet hs)
  | forceSafeOn => exact .next (.forceSafeOn hs)
  | forceDomainClear => exact .next (.fstatWrite hs)
  | pwmFreeze => exact .next (.pwmFreeze hs)
  | pwmFreezeEnd => exact .next (.pwmFreezeEnd hs)
  | maxonGuardTrip => exact .next (.guardTrip hs)
  | delayLineCalibration => exact .next (.calibrate hs)
  | driveCodeLand => exact .next (.codeWrite hs)
  | dslFrameSend => exact .next (.dslFrameSend hs)
  | dslRefreshFrame => exact .next (.dslRefresh hs)
  | driveGroupCfgWrite => exact .next (.groupCfg hs)
  | primingBurstEnd => exact .next (.primingEnd hs)
  | bootstrapRefresh => exact .next (.bootstrapRefresh hs)
  | driverFaultReport => exact .next (.faultReport hs)
  | driverFaultClassify => exact .next (.faultClassify hs)
  | retryWaitEnd => exact .next (.retryWaitEnd hs)
  | tryWindowExpire => exact .next (.tryWindowExpire hs)
  | driveClear => exact .next (.driveClear (.setFltn hs))
  | gridUpdateIssue => exact .next (.gridUpdate hs)
  | seqInputSample => exact .next (.seqInput hs)
  | stageLatch => exact .next (.stageLatch hs)
  | excursionReturnExpire => exact .next (.excursionReturn hs)
  | curveTimeExpire => exact .next (.curveExpire hs)
  | protUpdateTimeout => exact .next (.protTimeout hs)
  | protSwtrip => exact .next (.protSwtrip hs)
  | tripLatchClear => exact .next (.triplatClear hs)
  | dcArm => exact .next (.dcArm hs)
  | dcSoftwareTrigger => exact .next (.capTrigger hs)
  | dcFrame => exact .next (.dcFrame hs)
  | dcPostComplete => exact .next (.dcPostComplete hs)
  | dcCopyComplete => exact .next (.dcCopyComplete hs)
  | dcCfgWrite => exact .next (.dcCfgWrite hs)
  | sweepGo => exact .next (.sweepGo hs)
  | sweepStop => exact .next (.sweepStop hs)
  | sweepStepStart => exact .next (.sweepStepStart hs)
  | sweepEntryWrite => exact .next (.sweepEntryWrite hs)
  | sweepNoZeroTimeout => exact .next (.sweepNoZero hs)
  | nightEnter => exact .next (.nightEnter hs)
  | wakeDetect => exact .next (.wakeDetect hs)
  | probeChipStep => exact .next (.takeLaunch hs (fun _ _ h1 => .probeStep h1))
  | probeStepMiss => exact .next (.probeStepMiss hs)
  | probePeriodResult => exact .next (.probePeriod hs)
  | islClear => exact .next (.islClear hs)
  | meterSample => exact .next (.meterSample hs)
  | meterWindowEnd => exact .next (.windowEnd hs)
  | meterSnapshot => exact .next (.ite (.takeLaunch hs (fun _ _ h1 => .snapRequest h1)) (.snapRequest hs))
  | meterSnapshotWritten => exact .next (.snapWritten hs)
  | meterPulseStart => exact .next (.pulseStart hs)
  | meterPulseEnd => exact .next (.pulseEnd hs)
  | meterPeriodicSave => exact .next (.periodicSave hs)
  | meterSaveDone => exact .next (.saveDone hs)
  | meterTsgWrite => exact .next (.tsgWrite hs)
  | safeInputChange => exact .next (.safeRun hs (fun _ h1 => .safeInput h1))
  | testPulseStart => exact .next (.safeRun hs (fun _ h1 => .testPulseStart h1))
  | testPulseCheck => exact .next (.safeRun hs (fun _ h1 => .testPulseCheck h1))
  | safeDiscrepancy => exact .next (.safeRun hs (fun _ h1 => .safeDiscrepancy h1))
  | safeReadbackFault => exact .next (.safeRun hs (fun _ h1 => .readbackFault h1))
  | safeLogicCompareFault => exact .next (.safeRun hs (fun _ h1 => .safeLock h1))
  | safeOscFault => exact .next (.safeRun hs (fun _ h1 => .safeLock h1))
  | safePwmClockLoss => exact .next (.safeRun hs (fun _ h1 => .safePwmLoss h1))
  | safePwmClockReturn => exact .next (.safeRun hs (fun _ h1 => .safePwmReturn h1))
  | safeSupplyDemand => exact .next (.safeRun hs (fun _ h1 => .safeSupply h1))
  | safeLockoutRecord => exact .next (.safeRun hs (fun _ h1 => .safeRecord h1))
  | safeResetPulseStart => exact .next (.safeRun hs (fun _ h1 => .safeResetStart h1))
  | safeResetProcedure => exact .next (.safeRun hs (fun _ h1 => .safeResetRise h1))
  | safeResetDone => exact .next (.safeRun hs (fun _ h1 => .safeResetDone h1))
  | safeSelftestDone => exact .next (.safeRun hs (fun _ h1 => .safeSelftestDone h1))
  | interruptEntry => exact .next (.interruptEntry hs)
  | nmiEntry => exact .next (.nmiEntry hs)
  | cmaintIcinv => exact .next (.cmaintWrite hs)
  | cmaintClean => exact .next (.cmaintWrite hs)
  | cmaintDcinv => exact .next (.cmaintWrite hs)
  | cacheMaintDone => exact .next (.cmaintDone hs)
  | cacheMissFill => exact .next (.missFill hs)
  | writeBufferAccept => exact .next (.bufAccept hs)
  | remoteStoreError => exact .next (.remoteStoreError hs)
  | watchdogEnable => exact .next (.wdgEnable hs)
  | watchdogKick => exact .next (.wdgKick hs)
  | watchdogStage1 => exact .next (.wdgStage1 hs)
  | watchdogStage2 => exact .next (.wdgStage2 hs)
  | hostRead => exact .next (.hostRead hs)
  | hostWrite => exact .next (.hostWrite hs)
  | hostStatus => exact .next (.hostStatus hs)
  | hostReadComplete => exact .next (.hostReadComplete hs)
  | debugHalt => exact .next (.debugIf hs (fun _ h1 => .coreHalt h1))
  | debugResume => exact .next (.debugIf hs (fun _ h1 => .coreResume h1))
  | debugStep => exact .next (.debugIf hs (fun _ h1 => .debugStep h1))
  | debugRegisterAccess => exact .next (.debugIf hs (fun _ h1 => .debugReg h1))
  | debugMemoryAccess => exact .next (.debugIf hs (fun _ h1 => .debugMem h1))
  | debugReset => exact .next (.debugIf hs (fun _ h1 => .warning h1))
  | jtagExtest => exact .next (.debugM (.jtag hs))
  | jtagSamplePreload => exact .next (.debugM (.jtag hs))
  | jtagIdcode => exact .next (.debugM (.jtag hs))
  | jtagClamp => exact .next (.jtag hs)
  | jtagHighz => exact .next (.jtag hs)
  | jtagDebug => exact .next (.debugIf (.jtag hs) (fun _ h1 => h1))
  | jtagBypass => exact .next (.ite hs (.jtag hs))
  | dmaStart => exact .next (.dmaStart hs)
  | dmaStop => exact .next (.dmaStop hs)
  | dmaResume => exact .next (.dmaResume hs)
  | dmaDescWrite => exact .next (.dmaDescWrite hs)
  | dmaSwtrig => exact .next (.dmaSwtrig hs)
  | dmaLaunchTrigger => exact .next (.takeLaunch hs (fun _ _ h1 => .dmaTrigger h1))
  | dmaDescriptorFetch => exact .next (.dmaFetch hs)
  | dmaBlockEnd => exact .next (.dmaBlockEnd hs)
  | dmaDescriptorComplete => exact .next (.dmaComplete hs)
  | linkEnableWrite => exact .next (.linkCtrlWrite hs)
  | linkTrain => exact .next (.linkRetrain hs)
  | linkTrainingComplete => exact .next (.linkTrained hs)
  | linkTrainingFail => exact .next (.linkTrainFail hs)
  | linkAutoRetrain => exact .next (.linkAutoRetrain hs)
  | cellIdle => exact .next (.cellArrive hs (fun _ _ h1 => .cellIn h1 (fun _ h2 => h2)))
  | cellRdreq => exact .next (.cellArrive hs (fun _ _ h1 => .cellIn h1 (fun _ h2 => .requestIn h2)))
  | cellRdresp => exact .next (.cellArrive hs (fun _ _ h1 => .cellIn h1 (fun _ h2 => .rdresp h2)))
  | cellWr => exact .next (.cellArrive hs (fun _ _ h1 => .cellIn h1 (fun _ h2 => .requestIn h2)))
  | cellWrcmp => exact .next (.cellArrive hs (fun _ _ h1 => .cellIn h1 (fun _ h2 => .wrcmp h2)))
  | cellEvent => exact .next (.cellArrive hs (fun _ _ h1 => .cellIn h1 (fun _ h2 => .eventIn h2)))
  | cellStream => exact .next (.cellArrive hs (fun _ _ h1 => .cellIn h1 (fun _ h2 => .streamIn h2)))
  | cellTbxReq => exact .next (.cellArrive hs (fun _ _ h1 => .cellIn h1 (fun _ h2 => .tbxReq h2)))
  | cellTbxResp => exact .next (.cellArrive hs (fun _ _ h1 => .cellIn h1 (fun _ h2 => .tbxResp h2)))
  | cellTbxFin => exact .next (.cellArrive hs (fun _ _ h1 => .cellIn h1 (fun _ h2 => .tbxFin h2)))
  | cellMarkRequest => exact .next (.cellArrive hs (fun _ _ h1 => .markIn h1 (fun _ h2 => .markEcho h2)))
  | cellMarkEcho => exact .next (.cellArrive hs (fun _ _ h1 => .markIn h1 (fun _ h2 => .markTime h2)))
  | cellCrcClassError => exact .next (.cellArrive hs (fun _ _ h1 => .cellIn h1 (fun _ h2 => h2)))
  | nakHoldoffExpire => exact .next (.nakExpire hs)
  | replayTimeout => exact .next (.replayTimeout hs)
  | remoteAccessSend => exact .next (.remoteSend hs)
  | timebaseExchangeRequest => exact .next (.exchangeStart hs)
  | streamRawSend => exact .next (.rawSend hs)
  | linkClockLoss => exact .next (.linkClockLoss hs)
  | linkStuffViolation => exact .next (.linkStuff hs)
  | prbsInject => exact .next (.prbsInject hs)
  | prbsCfgWrite => exact .next (.prbsWrite hs)
  | ethFrameReceive => exact .next (.ethReceive hs)
  | ethTxKick => exact .next (.txKick hs)
  | ethTxComplete => exact .next (.txComplete hs)
  | ethCfgWrite => exact .next (.ethCfgWrite hs)
  | dupEntryAge => exact .next (.dupAge hs)
  | gooseTalExpire => exact .next (.talExpire hs)
  | ptpResidenceTimeout => exact .next (.residenceTimeout hs)
  | svPublishRequest => exact .next (.svRequest hs)
  | svFrameSend => exact .next (.svSend hs)
  | bootRomSequence => exact .next (.bootRom hs)
  | st1Entry => exact .next (.st1EntryWrite hs)
  | secHash => exact .next (.secCommand hs)
  | secVerify => exact .next (.secCommand hs)
  | secAttest => exact .next (.secCommand hs)
  | secAppsign => exact .next (.secCommand hs)
  | secRolladv => exact .next (.secCommand hs)
  | secOtpowner => exact .next (.secCommand hs)
  | secReboot => exact .next (.secReboot hs)
  | secDbgclose => exact .next (.secCommand hs)
  | secCommandDone => exact .next (.secDone hs)
  | trngRead => exact .next (.trngRead hs)
  | consentOpen => exact .next (.consOpen hs)
  | consentStagingWrite => exact .next (.consStage hs)
  | consentRequest => exact .next (.consRequest hs)
  | consentDigestDone => exact .next (.consDigest hs)
  | consentApprove => exact .next (.consApprove hs)
  | consentCheckDone => exact .next (.consCheck hs)
  | consentCancel => exact .next (.consCancel hs)
  | physicalConsent => exact .next (.consPhysical hs)
  | consentWindowTimeout => exact .next (.consWindow hs)
  | consentLockEnd => exact .next (.consLockEnd hs)
  | consentSwitchover => exact .next (.consSwitch hs)
  | consentCounterDurable => exact .next (.consDurable hs)
  | consentRestoreDone => exact .next (.consRestore hs)
  | powerUp => exact .next (.powerUp hs)
  | resetRelease => exact .next (.resetRelease hs)
  | holdupReady => exact .next (.huReady hs)
  | vioFault => exact .next (.vioFault hs)
  | powerFailWarning => exact .next (.warning hs)
  | stewardWindowEnd => exact .next (.windowStop hs)
  | saveEngineStart => exact .next (.engineStart hs)
  | saveCaptureInstant => exact .next (.saveCapture hs)
  | saveComplete => exact .next (.saveComplete hs)
  | pmuSleep => exact .next (.pmuSleep hs)
  | sentinelStart => exact .next (.sentinelStart (.sentSettle hs))
  | sentinelStop => exact .next (.sentinelStop (.sentSettle hs))
  | sentinelVinLoss => exact .next (.sentinelVinLoss (.sentSettle hs))
  | sentinelVinReturn => exact .next (.sentinelVinReturn (.sentSettle hs))
  | longDarkness => exact .next (.longDarkness (.sentSettle hs))
  | sentinelResume => exact .next (.sentinelResume (.sentSettle hs))
  | ledgerBurst => exact .next (.ledgerBurst (.sentSettle hs))
  | ledgerCheckpoint => exact .next (.ledgerCheckpoint (.sentSettle hs))
  | tamperEvent => exact .next (.tamperEvent (.sentSettle hs))
  | wakeInput => exact .next (.wakeInput (.sentSettle hs))
  | rtcAlarm => exact .next (.rtcAlarm (.sentSettle hs))
  | rtcset => exact .next (.rtcSetLand (.sentSettle hs))
  | hv1Sample => exact .next (.hv1Sample (.sentSettle hs))
  | monitorValue => exact .next (.monValue hs)
  | monitorWindowLaunch => exact .next (.monOpen hs)
  | monitorWindowClose => exact .next (.monClose hs)
  | monitorClear => exact .next (.monClear hs)
  | monitorMark => exact .next (.monMark hs)
  | telemetrySample => exact .next (.telemetry hs)
  | sramScrub => exact .next (.scrub hs)
  | gpioSet => exact .next (.gpioSet hs)
  | gpioClr => exact .next (.gpioClr hs)
  | testPulseEnd => exact .next (.safeRun hs (fun _ h1 => .testPulseEnd h1))
  | vioReturn => exact .next (.vioReturn hs)
  | holdupMeasure => exact .next (.huMeasure hs)
  | fltinDeassert => exact .next (.fltinSet hs)
  | rgmiiInbandStatus => exact .next (.rgmii hs)
  | tamperInputInactive => exact .next (.tamperInactive (.sentSettle hs))

end

end Sys2Proof.Machine

/-! SUPPORT. What a step keeps, and the obligations on commands, steps and the reset state. -/
namespace Sys2Proof.Machine

set_option Elab.async false

theorem KeepsIn.runWords {s₀ s : State} (hs : Keeps s₀ s) : KeepsIn s₀ (s.runWords c w x) := by
  unfold State.runWords
  split
  · exact .exec hs
  · exact .next (.reservedWord hs)

theorem Keeps.runCore {s₀ s : State} (hs : Keeps s₀ s) : Keeps s₀ (s.runCore c) := by
  refine .ite ?_ hs
  obtain ⟨t, hrun, ht⟩ : KeepsIn s₀ (s.runNext c) := .runWords hs
  rw [hrun]
  exact ht

theorem Keeps.runCores {s₀ s : State} (hs : Keeps s₀ s) : Keeps s₀ s.runCores :=
  .foldl (fun _ _ h => .runCore h) (.foldl (fun _ _ h => .runCore h) hs)

theorem Keeps.idle {s₀ s : State} (hs : Keeps s₀ s) : Keeps s₀ s.idle :=
  .runCores (.hostDrain (.hostDrain (.hostDrain (.hostDrain (.grantAll (.linkTick (.sentSettle (.advance hs))))))))

theorem step_nil (s : State) (h : s.pending = []) : step s = .next s.idle := by
  simp [step, h]

theorem step_cons (s : State) (h : s.pending = c :: rest) : step s = exec c { s with pending := rest } := by
  simp [step, h]

/-- What a step answers keeps the canonical form, and its queue is the rest of the queue. -/
theorem step_keeps {s t : State} (h : step s = .next t) : t.pending = s.pending.tail ∧ (s.canonical = true → t.canonical = true) := by
  cases hq : s.pending with
  | nil =>
    rw [step_nil s hq] at h
    obtain ⟨hpending, hcanonical⟩ : Keeps s s.idle := .idle (.refl s)
    obtain rfl := Host.Outcome.next.inj h
    exact ⟨hpending.trans hq, hcanonical⟩
  | cons c rest =>
    rw [step_cons s hq] at h
    obtain ⟨u, hu, hpending, hcanonical⟩ : KeepsIn { s with pending := rest } (exec c { s with pending := rest }) := .exec (.refl _)
    obtain rfl := Host.Outcome.next.inj (hu.symm.trans h)
    exact ⟨hpending, hcanonical⟩

/-- Settles O1. -/
theorem stepRunsFrontCommand : Obligations.StepRunsFrontCommand := fun _ _ s h => step_cons s h

/-- Settles O3: every arm of `exec` answers a next state. -/
theorem everyCommandCompletes : Obligations.EveryCommandCompletes := fun c s =>
  let ⟨t, ht, _⟩ : KeepsIn s (exec c s) := .exec (.refl s)
  ⟨t, ht⟩

/-- Settles O4. -/
theorem canonicalAtReset : Obligations.CanonicalAtReset := by
  unfold Obligations.CanonicalAtReset
  decide

/-- Settles O5, by the relation `Keeps`, which every operation of the model meets. -/
theorem stepKeepsCanonical : Obligations.StepKeepsCanonical := fun _ _ hs h => (step_keeps h).2 hs

/-- Settles O6: a step takes the front command from the queue and leaves the others. -/
theorem stepKeepsQueueWellFormed : Obligations.StepKeepsQueueWellFormed := by
  intro s t hs h
  unfold State.queueWf at hs ⊢
  rw [(step_keeps h).1, List.all_eq_true]
  exact fun c hc => List.all_eq_true.mp hs c (List.mem_of_mem_tail hc)

end Sys2Proof.Machine

/-! SUPPORT. An idle step of a module in which nothing waits and no core runs takes one PWM cycle. -/
namespace Sys2Proof.Machine

/-- The instant is `k`, nothing waits for the crossbar or in the host port, and no core runs. -/
structure State.AtRest (k : Nat) (s : State) : Prop where
  now : s.now = k
  host : s.host.queue = []
  ports : ∀ l : Fin 4, (s.port l).reqIn = [] ∧ (s.port l).strIn = []
  stalled : s.xbar.stalled = []
  blocked : s.xbar.blocked = []
  kicked : s.eth.kicked = 0
  tasks : ∀ n : Fin 4, s.rk[n].task = none
  stewards : ∀ n : Fin 2, s.on (Fd.SYSCFG_ST_STATUS_RUN n) = false

/-- A write changes nothing of a register that has neither RW nor W1C nor W1S bits. -/
theorem RegRow.written_of_readOnly (r : RegRow) (old v keep : Nat) (hrw : r.rw = 0) (hw1c : r.w1c = 0) (hw1s : r.w1s = 0) :
    r.written old v keep = old := by
  simp only [RegRow.written, hrw, hw1c, hw1s, Nat.and_zero, Nat.xor_zero, Nat.or_zero]
  refine Nat.eq_of_testBit_eq fun i => ?_
  rw [Nat.testBit_or, Nat.testBit_and]
  cases old.testBit i <;> simp

theorem regRow_stStatus (n : Fin 2) (r : RegRow) (h : regRow (Reg.SYSCFG_ST_STATUS n) = some r) : r.rw = 0 ∧ r.w1c = 0 ∧ r.w1s = 0 := by
  revert h
  fin_cases n <;> rintro ⟨⟩ <;> exact ⟨rfl, rfl, rfl⟩

namespace State.AtRest
variable {k : Nat} {s : State}

theorem same {t : State} (h : s.AtRest k) (hnow : t.now = s.now := by rfl) (hhost : t.host = s.host := by rfl) (hlink : t.link = s.link := by rfl)
    (hstalled : t.xbar.stalled = s.xbar.stalled := by rfl) (hblocked : t.xbar.blocked = s.xbar.blocked := by rfl)
    (heth : t.eth = s.eth := by rfl) (hrk : t.rk = s.rk := by rfl) (hregs : t.regs = s.regs := by rfl) : t.AtRest k where
  now := hnow.trans h.now
  host := by rw [hhost]; exact h.host
  ports := by unfold State.port; rw [hlink]; exact h.ports
  stalled := hstalled.trans h.stalled
  blocked := hblocked.trans h.blocked
  kicked := by rw [heth]; exact h.kicked
  tasks := by rw [hrk]; exact h.tasks
  stewards := by unfold State.on State.get State.rdN State.rd; rw [hregs]; exact h.stewards

theorem wrN (h : s.AtRest k) {a v : Nat} (ha : ∀ n : Fin 2, Reg.SYSCFG_ST_STATUS n ≠ a) : (s.wrN a v).AtRest k :=
  { h with
    stewards := fun n => by
      have hn : (Fd.SYSCFG_ST_STATUS_RUN n).addr ≠ a := ha n
      simp only [State.on, State.get, State.rdN, State.wrN, State.rd_wr, if_neg hn]
      exact h.stewards n }

theorem put (h : s.AtRest k) {f : Fld} {v : Nat} (ha : ∀ n : Fin 2, Reg.SYSCFG_ST_STATUS n ≠ f.addr) : (s.put f v).AtRest k := h.wrN ha

/-- A steward's status register has no bit that a write changes. -/
theorem plainWrite (h : s.AtRest k) : (s.plainWrite a v).AtRest k := by
  unfold State.plainWrite
  split
  next r hr =>
    by_cases ha : ∀ n : Fin 2, Reg.SYSCFG_ST_STATUS n ≠ a
    · exact h.wrN ha
    · push Not at ha
      obtain ⟨n, rfl⟩ := ha
      obtain ⟨hrw, hw1c, hw1s⟩ := regRow_stStatus n r hr
      rw [r.written_of_readOnly _ _ _ hrw hw1c hw1s]
      refine { h with stewards := fun m => ?_ }
      have hrd : (s.wrN (Reg.SYSCFG_ST_STATUS n) (s.rdN (Reg.SYSCFG_ST_STATUS n))).rd (Reg.SYSCFG_ST_STATUS m) =
          s.rd (Reg.SYSCFG_ST_STATUS m) := by
        simp only [State.wrN, State.rd_wr, State.rdN, BitVec.ofNat_toNat, BitVec.setWidth_eq]
        split
        next hm => rw [hm]
        next => rfl
      have hrun : (s.wrN (Reg.SYSCFG_ST_STATUS n) (s.rdN (Reg.SYSCFG_ST_STATUS n))).get (Fd.SYSCFG_ST_STATUS_RUN m) =
          s.get (Fd.SYSCFG_ST_STATUS_RUN m) := congrArg (fun w : Word => cut w.toNat 0 1) hrd
      unfold State.on
      rw [hrun]
      exact h.stewards m
  next => exact h

theorem rtcLoad (h : s.AtRest k) : (s.rtcLoad t).AtRest k := by
  unfold State.rtcLoad
  split
  · refine .put ?_ (by decide)
    exact h.same
  · exact h

theorem sentWrite (h : s.AtRest k) : (s.sentWrite t a v).AtRest k := by
  unfold State.sentWrite
  split
  · exact h.wrN (by subst a; decide)
  · split
    · exact h.wrN (by subst a; decide)
    · split
      · exact h.wrN (by subst a; decide)
      · split
        · split
          · exact h.rtcLoad
          · exact h
        · exact h.plainWrite

theorem sentSettle (h : s.AtRest k) : s.sentSettle.AtRest k :=
  foldl_keeps (State.AtRest k) _ (fun _ _ ht => ht.sentWrite) _ _ h.same

theorem portM (h : s.AtRest k) {l : Fin 4} {f : LinkPort → LinkPort} (hf : ∀ p, (f p).reqIn = p.reqIn ∧ (f p).strIn = p.strIn) :
    (s.portM l f).AtRest k :=
  { h with
    ports := fun m => by
      by_cases hm : m = l
      · subst hm
        have : (s.portM m f).port m = f (s.port m) := upd_get_self _ _ _
        rw [this, (hf _).1, (hf _).2]
        exact h.ports m
      · have : (s.portM l f).port m = s.port m := upd_get_other _ _ _ _ hm
        rw [this]
        exact h.ports m }

theorem linkShow (h : s.AtRest k) : (s.linkShow l).AtRest k :=
  h.put fun n => by
    simp only [Fd.LINK_L_STATUS_RPLFILL, Reg.LINK_L_STATUS, Reg.SYSCFG_ST_STATUS]
    omega

end State.AtRest

/-! ### What a link sends leaves what it has received -/

theorem LinkPort.sendSeq_received (p : LinkPort) : (p.sendSeq k c).reqIn = p.reqIn ∧ (p.sendSeq k c).strIn = p.strIn := ⟨rfl, rfl⟩

theorem LinkPort.sendUnseq_received (p : LinkPort) : (p.sendUnseq c).reqIn = p.reqIn ∧ (p.sendUnseq c).strIn = p.strIn := ⟨rfl, rfl⟩

theorem LinkPort.pumpOne_received (p : LinkPort) : (p.pumpOne k).reqIn = p.reqIn ∧ (p.pumpOne k).strIn = p.strIn := by
  unfold LinkPort.pumpOne
  split
  · exact ⟨rfl, rfl⟩
  · split <;> exact ⟨rfl, rfl⟩

theorem LinkPort.pump_received (p : LinkPort) : (p.pump k).reqIn = p.reqIn ∧ (p.pump k).strIn = p.strIn := by
  unfold LinkPort.pump
  extract_lets n q
  have hq : q.reqIn = p.reqIn ∧ q.strIn = p.strIn :=
    foldl_keeps (fun x : LinkPort => x.reqIn = p.reqIn ∧ x.strIn = p.strIn) _
      (fun x _ hx => ⟨x.pumpOne_received.1.trans hx.1, x.pumpOne_received.2.trans hx.2⟩) _ p ⟨rfl, rfl⟩
  split
  · exact ⟨q.sendUnseq_received.1.trans hq.1, q.sendUnseq_received.2.trans hq.2⟩
  · exact hq

namespace State.AtRest
variable {k : Nat} {s : State}

theorem linkTick (h : s.AtRest k) : s.linkTick.AtRest k := by
  refine foldl_keeps (State.AtRest k) _ (fun t l ht => ?_) _ _ h
  have h1 : (t.linkFresh l).AtRest k := ht.portM fun _ => ⟨rfl, rfl⟩
  have h2 : State.requestDrain l (t.port l).reqIn.length (t.linkFresh l) = t.linkFresh l := by rw [(ht.ports l).1]; rfl
  have h3 : State.streamDrain l ((t.linkFresh l).port l).strIn.length (t.linkFresh l) = t.linkFresh l := by rw [(h1.ports l).2]; rfl
  have h4 : ((t.linkFresh l).linkPump l).AtRest k := by
    unfold State.linkPump
    split
    · exact (h1.portM fun p => p.pump_received).linkShow
    · exact h1
  dsimp only
  rw [h2, h3]
  unfold State.linkSlot
  split
  · exact (h4.portM fun p => p.sendUnseq_received).linkShow
  · exact h4

theorem served (h : s.AtRest k) : (s.served row ch).AtRest k := h.same

theorem remoteGrant (h : s.AtRest k) (n : Nat) : (s.remoteGrant n).AtRest k := by
  induction n generalizing s with
  | zero => exact h
  | succ n ih =>
    unfold State.remoteGrant
    split
    · exact h
    · exact ih (served (h.portM fun _ => ⟨rfl, rfl⟩))

theorem xbarGrant (h : s.AtRest k) (n : Nat) : (s.xbarGrant n).AtRest k := by
  induction n generalizing s with
  | zero => exact h
  | succ n ih =>
    have hnone : s.nextWaiting = none := by
      unfold State.nextWaiting
      rw [h.stalled]
      rfl
    unfold State.xbarGrant
    rw [hnone]
    split
    · exact ih (h.remoteGrant 1)
    · exact h

theorem grantAll (h : s.AtRest k) : s.grantAll.AtRest k := by
  have hb : s.blockDrain.AtRest k := by
    unfold State.blockDrain
    split
    · rw [h.blocked]
      exact { h with blocked := rfl }
    · exact h
  have hk : s.blockDrain.txKicks = s.blockDrain := by
    unfold State.txKicks
    rw [hb.kicked]
    rfl
  unfold State.grantAll
  rw [hk]
  exact hb.xbarGrant _

theorem hostDrain (h : s.AtRest k) : s.hostDrain = s := by
  have hr : s.hostRetire = s := by
    unfold State.hostRetire
    rw [h.host]
    rfl
  unfold State.hostDrain
  rw [hr]
  dsimp only
  rw [h.host]
  rfl

theorem runCores (h : s.AtRest k) : s.runCores = s := by
  have hc : ∀ c, s.canIssue c = false := fun c => by
    unfold State.canIssue
    extract_lets x
    cases coreKind c with
    | rk n =>
      have ht : s.rk[n].task.isSome = false := by rw [h.tasks n]; rfl
      simp only [ht, Bool.false_and, Bool.and_false]
    | st n => simp only [h.stewards n, Bool.false_and, Bool.and_false]
  have hrun : ∀ c, s.runCore c = s := fun c => by simp [State.runCore, hc c]
  have hall : (List.finRange 6).foldl (fun s c => s.runCore c) s = s :=
    foldl_keeps (· = s) _ (fun t c ht => by rw [ht, hrun c]) _ s rfl
  unfold State.runCores
  dsimp only
  rw [hall, hall]

theorem advance (h : s.AtRest k) (n : Nat) : (s.advance n).AtRest (k + 40 * n) := by
  obtain ⟨b, p, hs, -⟩ := s.advance_eq n
  rw [hs]
  exact { h with now := congrArg (· + 40 * n) h.now }

theorem idle (h : s.AtRest k) : s.idle.AtRest (k + 40) := by
  have h1 : (s.advance 1).sentSettle.linkTick.grantAll.AtRest (k + 40) := (h.advance 1).sentSettle.linkTick.grantAll
  unfold State.idle
  rw [h1.hostDrain, h1.hostDrain, h1.hostDrain, h1.hostDrain, h1.runCores]
  exact h1

end State.AtRest

/-- Settles O2. -/
theorem queueAndIdleStep : Obligations.QueueAndIdleStep := by
  refine ⟨fun s hq => ?_, fun s hq hhost hports hstalled _ hblocked hkicked htasks hstewards => ?_, fun c s t h => ?_⟩
  · have hidle : Keeps s s.idle := .idle (.refl s)
    exact ⟨s.idle, step_nil s hq, hidle.1.trans hq⟩
  · have hs : s.AtRest s.now := ⟨rfl, hhost, hports, hstalled, hblocked, hkicked, htasks, hstewards⟩
    exact ⟨s.idle, step_nil s hq, hs.idle.now⟩
  · obtain ⟨u, hu, hpending, -⟩ : KeepsIn s (exec c s) := .exec (.refl s)
    obtain rfl := Host.Outcome.next.inj (hu.symm.trans h)
    exact hpending

end Sys2Proof.Machine

/-! SUPPORT. O9: the MRAM's writes become durable, and the wear levelling moves pages. -/
namespace Sys2Proof.Machine

set_option Elab.async false

theorem State.mramDurable_of_last (s : State) (hd : s.get Fd.MRAMC_STATUS_DEPTH = 1) (hm : s.mramc.moving = none) :
    s.mramDurable = (s.put Fd.MRAMC_STATUS_DEPTH 0).put Fd.MRAMC_STATUS_BUSY 0 := by
  simp [State.mramDurable, hd, hm]

theorem State.mramDurable_of_more (s : State) (hd : 1 < s.get Fd.MRAMC_STATUS_DEPTH) :
    s.mramDurable = s.put Fd.MRAMC_STATUS_DEPTH (s.get Fd.MRAMC_STATUS_DEPTH - 1) := by
  have h0 : s.get Fd.MRAMC_STATUS_DEPTH ≠ 0 := by omega
  have h1 : s.get Fd.MRAMC_STATUS_DEPTH ≠ 1 := by omega
  simp [State.mramDurable, h0, h1]

theorem State.wearMove_of_spread (s : State) (hm : s.mramc.moving = none) (hw : s.pmu.warned = false)
    (hlock : s.on Fd.PLL_STATUS_SYSLOCK = true) (hspread : s.leastWritten.2 + 2 ^ 20 ≤ s.mostWritten.2) :
    s.wearMove = (((s.put Fd.MRAMC_STATUS_MOVING 1).put Fd.MRAMC_STATUS_BUSY 1).put Fd.MRAMC_MOVEPAGE_PAGE s.mostWritten.1).mramM
      fun m => { m with moving := some (s.mostWritten.1, s.leastWritten.1) } :=
  if_pos (by rw [hm, hw, hlock, decide_eq_true hspread]; rfl)

theorem State.wearShow_get_moving (s : State) : s.wearShow.get Fd.MRAMC_STATUS_MOVING = s.get Fd.MRAMC_STATUS_MOVING := by
  unfold State.wearShow
  simp (disch := decide) only [State.get_put_apart]

/-- The end of a move that no write waits for. -/
theorem State.wearMoveEnd_of_moving (s : State) (p q : Nat) (hm : s.mramc.moving = some (p, q)) (hq : s.mramc.stalled = []) :
    (s.wearMoveEnd.mramc.moving = none) ∧ s.wearMoveEnd.get Fd.MRAMC_STATUS_MOVING = 0 ∧ s.wearMoveEnd.mem = s.mem := by
  unfold State.wearMoveEnd
  rw [hm, hq]
  dsimp only [List.foldl_nil]
  rw [State.wearShow_get_moving]
  split
  · exact ⟨rfl, by simp (disch := decide) only [State.get_put_apart, State.get_put_within]; rfl, rfl⟩
  · exact ⟨rfl, by simp (disch := decide) only [State.get_put_within]; rfl, rfl⟩

/-- Settles O9. -/
theorem mramDurabilityAndWear : Obligations.MramDurabilityAndWear := by
  refine ⟨fun s hd hm => ⟨s.mramDurable, rfl, ?_⟩, fun s hd => ⟨s.mramDurable, rfl, ?_⟩,
    fun s hm hw hlock hspread => ⟨s.wearMove, rfl, ?_⟩, fun s p q hm hq => ⟨s.wearMoveEnd, rfl, s.wearMoveEnd_of_moving p q hm hq⟩⟩
  · rw [s.mramDurable_of_last hd hm]
    refine ⟨?_, ?_, SameRegistersBut.trans (s.put_sameRegistersBut Fd.MRAMC_STATUS_DEPTH 0)
      (State.put_sameRegistersBut _ Fd.MRAMC_STATUS_BUSY 0), rfl⟩
    · simp (disch := decide) only [State.get_put_apart, State.get_put_within]
      rfl
    · simp (disch := decide) only [State.get_put_within]
      rfl
  · rw [s.mramDurable_of_more hd]
    have hlt : s.get Fd.MRAMC_STATUS_DEPTH < 2 ^ 16 := Nat.mod_lt _ (by decide)
    refine ⟨?_, by simp (disch := decide) only [State.get_put_apart], rfl⟩
    rw [State.get_put_within _ _ _ (by decide)]
    exact Nat.mod_eq_of_lt (by change _ < 2 ^ 16; omega)
  · rw [s.wearMove_of_spread hm hw hlock hspread]
    refine ⟨rfl, ?_, ?_, rfl⟩
    · simp (disch := decide) only [State.mramM_get, State.get_put_apart, State.get_put_within]
      rfl
    · simp (disch := decide) only [State.mramM_get, State.get_put_apart, State.get_put_within]
      rfl

end Sys2Proof.Machine

/-! SUPPORT. O59: a refused change of a link's configuration. -/
namespace Sys2Proof.Machine

set_option Elab.async false

/-- The state that a refused write of a link's configuration leaves of the registers. -/
theorem State.linkRefused_frame (s : State) (l : Fin 4) (a : Nat) (ha : a = Reg.LINK_L_CTRL l ∨ a = Reg.LINK_L_PRBS l) :
    (s.raise (Ev.LINK_L_FLAGS_CFGERR l)).rd a = s.rd a ∧
      (s.raise (Ev.LINK_L_FLAGS_CFGERR l)).flag (Ev.LINK_L_FLAGS_CFGERR l) = true := by
  have hregs : a ≠ (Ev.LINK_L_FLAGS_CFGERR l).addr ∧ a ≠ (Ev.LINK_L_FLAGS_CFGERR l).cnt ∧
      (Ev.LINK_L_FLAGS_CFGERR l).cnt ≠ (Ev.LINK_L_FLAGS_CFGERR l).addr := by
    simp only [Ev.LINK_L_FLAGS_CFGERR, Reg.LINK_L_FLAGS, Reg.LINK_L_CTRL, Reg.LINK_L_PRBS] at ha ⊢
    omega
  exact ⟨s.rd_raise_other _ _ hregs.1 hregs.2.1, s.flag_raise _ hregs.2.2 (show 3 < 32 by decide)⟩

/-- A link that is neither down nor in test is in training or up. -/
theorem State.linkState_busy (s : State) (l : Fin 4) (h0 : s.linkState l ≠ 0) (h3 : s.linkState l ≠ 3) :
    s.linkState l = 1 ∨ s.linkState l = 2 := by
  have hlt : s.linkState l < 2 ^ 2 := Nat.mod_lt _ (Nat.two_pow_pos 2)
  omega

theorem State.linkCtrlWrite_of_busy (s : State) (l : Fin 4) (v : Word) (hbusy : s.linkState l = 1 ∨ s.linkState l = 2)
    (hchanged : cut v.toNat 4 2 ≠ s.get (Fd.LINK_L_CTRL_RATE l) ∨ cut v.toNat 8 3 ≠ s.get (Fd.LINK_L_CTRL_LOOP l)) :
    s.linkCtrlWrite l v = (s.linkFresh l).raise (Ev.LINK_L_FLAGS_CFGERR l) :=
  if_pos (.inr (.inr ⟨hbusy, hchanged⟩))

theorem State.prbsWrite_of_busy (s : State) (l : Fin 4) (v : Word) (hbusy : s.linkState l = 1 ∨ s.linkState l = 2)
    (hgen : v.getLsbD 2 = true) : s.prbsWrite l v = s.raise (Ev.LINK_L_FLAGS_CFGERR l) :=
  if_pos ⟨hgen, hbusy⟩

/-- Settles O59. -/
theorem linkConfigurationRefused : Obligations.LinkConfigurationRefused := by
  refine ⟨fun l v s h0 h3 hchanged => ⟨s.linkCtrlWrite l v, rfl, ?_⟩, fun l v s h0 h3 hgen => ⟨s.prbsWrite l v, rfl, ?_⟩⟩
  · rw [s.linkCtrlWrite_of_busy l v (s.linkState_busy l h0 h3) hchanged]
    obtain ⟨hctrl, hflag⟩ := (s.linkFresh l).linkRefused_frame l _ (.inl rfl)
    exact ⟨hctrl, hflag, (s.linkFresh l).raise_sameRegistersBut (Ev.LINK_L_FLAGS_CFGERR l), State.raise_tbl .., State.raise_now .., State.raise_mem ..⟩
  · rw [s.prbsWrite_of_busy l v (s.linkState_busy l h0 h3) hgen]
    obtain ⟨hprbs, hflag⟩ := s.linkRefused_frame l _ (.inr rfl)
    exact ⟨hprbs, hflag, s.raise_sameRegistersBut (Ev.LINK_L_FLAGS_CFGERR l), s.raise_link _, s.raise_tbl _, s.raise_now _, s.raise_mem _⟩

end Sys2Proof.Machine

/-! SUPPORT. O52: the lanes do not give every cell back: a receiver with a half-cell waiting on one lane pairs it with the next cell's half. -/
namespace Sys2Proof.Machine

set_option Elab.async false

/-- The receiver of a link after a slot that brought a half-cell of ones on lane 0, and nothing yet on lane 1. -/
def halfWaits : LinkPort := ({} : LinkPort).lineTake ⟨(laneSend (BitVec.allOnes 256) 0 {}).1, []⟩

/-- The half-cell waits on lane 0 for its partner, and both lanes' runs are short. -/
theorem halfWaits_half : halfWaits.rxHalf[0] = [List.replicate 128 true] ∧ halfWaits.rxRun[0].n < 30 ∧ halfWaits.rxRun[1].n < 30 := by
  decide +kernel

/-- The half-cells are paired in order (R391): the next cell's lane 1 completes the half that waits, not its own. -/
theorem halfWaits_lineCell :
    halfWaits.lineCell ⟨(laneSend 0 0 halfWaits.rxRun[0]).1, (laneSend 0 1 halfWaits.rxRun[1]).1⟩ =
      some (pairCell (List.replicate 128 true) (List.replicate 128 false)) := by
  decide +kernel

/-- Refutes O52: its first clause speaks of the receiver's runs alone, and lacks the premise that no half-cell waits on a lane. With a
half-cell of ones that waits on lane 0, the cell of zeros is read as that half and its own second half. -/
theorem not_laneCodingRoundTrip : ¬ Obligations.LaneCodingRoundTrip := by
  unfold Obligations.LaneCodingRoundTrip
  rintro ⟨hread, -⟩
  obtain ⟨-, hrun0, hrun1⟩ := halfWaits_half
  have hcell := (hread 0 halfWaits hrun0 hrun1).symm.trans halfWaits_lineCell
  exact absurd hcell (by decide +kernel)

end Sys2Proof.Machine

/-! SUPPORT. O33: how a steward is entered, woken, and told of a failed store. -/
namespace Sys2Proof.Machine

set_option Elab.async false

@[simp] theorem State.advance_st (s : State) (k : Nat) : (s.advance k).st = s.st := by
  obtain ⟨b, p, h, -⟩ := s.advance_eq k
  rw [h]

/-- ESTAT as an entry leaves it (R352): IE 0, PIE the old IE, EXL 1, CURLVL the level, PLVL the old CURLVL. -/
def enteredStat (old : Word) (level : Option Nat) : Word :=
  BitVec.ofNat 32 (2 * (old.toNat % 2) + 4 + 2 ^ 8 * level.getD (cut old.toNat 8 4) + 2 ^ 12 * cut old.toNat 8 4)

theorem getLsbD_eq_decide (w : Word) (i : Nat) : w.getLsbD i = decide (w.toNat / 2 ^ i % 2 = 1) := by
  rw [← BitVec.testBit_toNat, Nat.testBit_eq_decide_div_mod_eq]

theorem enteredStat_toNat (old : Word) (level : Option Nat) (h : level.getD (cut old.toNat 8 4) < 16) :
    (enteredStat old level).toNat =
      2 * (old.toNat % 2) + 4 + 256 * level.getD (cut old.toNat 8 4) + 4096 * cut old.toNat 8 4 := by
  have hcur : cut old.toNat 8 4 < 16 := Nat.mod_lt _ (by decide)
  rw [enteredStat, BitVec.toNat_ofNat, Nat.mod_eq_of_lt (by omega)]
  rfl

/-- What the bits of `enteredStat` are. -/
theorem enteredStat_bits (old : Word) (level : Option Nat) (h : level.getD (cut old.toNat 8 4) < 16) :
    (enteredStat old level).getLsbD 0 = false ∧ (enteredStat old level).getLsbD 1 = old.getLsbD 0 ∧
      (enteredStat old level).getLsbD 2 = true ∧ ((enteredStat old level).extractLsb' 8 4).toNat = level.getD (cut old.toNat 8 4) ∧
      (enteredStat old level).extractLsb' 12 4 = old.extractLsb' 8 4 := by
  have hcur : cut old.toNat 8 4 < 16 := Nat.mod_lt _ (by decide)
  have hx := enteredStat_toNat old level h
  refine ⟨?_, ?_, ?_, ?_, ?_⟩
  · rw [getLsbD_eq_decide, hx]
    exact decide_eq_false (by omega)
  · rw [getLsbD_eq_decide, getLsbD_eq_decide, hx]
    exact decide_eq_decide.mpr (by omega)
  · rw [getLsbD_eq_decide, hx]
    exact decide_eq_true (by omega)
  · rw [BitVec.extractLsb'_toNat, hx, Nat.shiftRight_eq_div_pow]
    omega
  · refine BitVec.eq_of_toNat_eq ?_
    rw [BitVec.extractLsb'_toNat, BitVec.extractLsb'_toNat, hx, Nat.shiftRight_eq_div_pow]
    change _ = cut old.toNat 8 4
    omega

/-- What an entry by a vector makes of a steward's registers. -/
def Steward.entered (x : Steward) (epc : Word) (cause : Nat) (level : Option Nat) : Steward :=
  { x with estat := enteredStat x.estat level, epc := epc, ecause := BitVec.ofNat 32 cause, wfi := false, shadow := false }

section
variable (s : State) (n : Fin 2) (v : Nat) (epc : Word) (cause : Nat) (level : Option Nat) (t : Nat)

@[simp] theorem State.stEnter_regs : (s.stEnter n v epc cause level t).regs = s.regs := s.advance_regs _
@[simp] theorem State.stEnter_mem : (s.stEnter n v epc cause level t).mem = s.mem := s.advance_mem _

theorem State.stEnter_st : (s.stEnter n v epc cause level t).st[n] = s.st[n].entered epc cause level := by
  unfold State.stEnter State.reachNow
  dsimp only
  rw [State.cpuM_st, State.stM_st, upd_get_self, State.advance_st]
  rfl

theorem State.stEnter_pc : (s.stEnter n v epc cause level t).cpu[stCore n].pc = s.st[n].vbase + BitVec.ofNat 32 (0x20 * v) := by
  unfold State.stEnter State.reachNow
  dsimp only
  rw [State.cpuM_cpu, upd_get_self, State.stM_st, upd_get_self, State.advance_st]

theorem State.stEnter_d : (s.stEnter n v epc cause level t).cpu[stCore n].d = s.cpu[stCore n].d := by
  unfold State.stEnter State.reachNow
  dsimp only
  rw [State.cpuM_cpu, upd_get_self, State.stM_cpu, State.advance_cpu]

end

/-- MON takes a value: no more changes. -/
theorem State.irqLatency_eq (s : State) (n : Fin 2) (src since : Nat) : ∃ m, s.irqLatency n src since = { s with mon := m } := by
  unfold State.irqLatency
  split
  · exact ⟨s.mon, rfl⟩
  · unfold State.monPost
    extract_lets u
    split
    · exact ⟨u.mon, rfl⟩
    · refine foldl_keeps (fun x : State => ∃ m, x = { s with mon := m }) _ (fun x k hx => ?_) _ _ ⟨u.mon, rfl⟩
      obtain ⟨m, rfl⟩ := hx
      split
      · exact ⟨_, rfl⟩
      · exact ⟨m, rfl⟩

theorem State.wfiEnd_of_awake (s : State) (n : Fin 2) (h : s.st[n].wfi = false) : s.wfiEnd n = s :=
  if_neg (by rw [h]; decide)

theorem State.cpuM_loopEnd_of_not_ended (s : State) (c : Fin 6) (h : s.cpu[c].ended = none) : s.cpuM c Cpu.loopEnd = s := by
  have hcpu : s.cpu.upd c Cpu.loopEnd = s.cpu := by
    unfold Vector.upd
    rw [Cpu.loopEnd_of_ended_none _ h]
    exact Vector.set_getElem_self _
  change { s with cpu := s.cpu.upd c Cpu.loopEnd } = s
  rw [hcpu]

/-- A steward that is ready runs, and is neither halted nor waiting. -/
theorem State.stReady_running (s : State) (n : Fin 2) (h : s.stReady n = true) :
    s.cpu[stCore n].wait = none ∧ s.cpu[stCore n].halted = false ∧ s.on (Fd.SYSCFG_ST_STATUS_RUN n) = true ∧
      s.on (Fd.SYSCFG_ST_STATUS_DFAULT n) = false := by
  simp only [State.stReady, Bool.and_eq_true, Bool.not_eq_true', Option.isNone_iff_eq_none] at h
  obtain ⟨⟨⟨⟨hwait, hhalted⟩, hrun⟩, hfault⟩, -⟩ := h
  exact ⟨hwait, hhalted, hrun, hfault⟩

/-- A source is taken only at a level below CURLVL. -/
theorem State.irqBelow_level (s : State) (n : Fin 2) (src lvl : Nat) (h : s.irqBelow n = some (src, lvl)) :
    lvl < cut s.st[n].estat.toNat 8 4 := by
  have := (Option.filter_eq_some_iff.mp h).2
  exact of_decide_eq_true this

section
variable (s : State) (n : Fin 2)

theorem State.interruptEntry_of_pending (src lvl : Nat) (hirq : s.irqBelow n = some (src, lvl)) (hready : s.stReady n = true)
    (hie : s.st[n].estat.getLsbD 0 = true) (hexl : s.st[n].estat.getLsbD 2 = false) (hshadow : s.st[n].shadow = false)
    (hwfi : s.st[n].wfi = false) (hended : s.cpu[stCore n].ended = none) :
    ∃ t m, s.interruptEntry n =
      { s.stEnter n (2 + lvl) s.cpu[stCore n].pc (16 + 256 * src) (some lvl) t with mon := m } := by
  unfold State.interruptEntry
  rw [hirq]
  dsimp only
  rw [if_pos (by rw [hready, hie, hexl, hshadow]; rfl), s.wfiEnd_of_awake n hwfi, s.cpuM_loopEnd_of_not_ended _ hended]
  obtain ⟨m, hm⟩ := State.irqLatency_eq (s.stEnter n (2 + lvl) s.cpu[stCore n].pc (16 + 256 * src) (some lvl)
    (s.issueAt (stCore n) + 2 * s.cycle (stCore n))) n src (irqSince s src)
  exact ⟨_, m, hm⟩

/-- R353: no entry while IE is 0. -/
theorem State.interruptEntry_of_disabled (hie : s.st[n].estat.getLsbD 0 = false) : s.interruptEntry n = s := by
  unfold State.interruptEntry
  split
  · rfl
  · exact if_neg (by rw [hie]; simp)

theorem State.nmiEntry_of_pending (hready : s.stReady n = true) (hnmi : s.st[n].nmi = true) (hexl : s.st[n].estat.getLsbD 2 = false)
    (hwfi : s.st[n].wfi = false) (hended : s.cpu[stCore n].ended = none) :
    ∃ t, s.nmiEntry n = (s.stM n fun x => { x with nmi := false }).stEnter n 1 s.cpu[stCore n].pc 17 none t := by
  unfold State.nmiEntry
  rw [if_pos (by rw [hready, hnmi, hexl]; rfl), s.wfiEnd_of_awake n hwfi, s.cpuM_loopEnd_of_not_ended _ hended]
  exact ⟨_, rfl⟩

/-- The state in which a steward reports the store error in front of `rest` (R357). -/
def State.storeErrSeen (s : State) (n : Fin 2) (a : Nat) (rest : List (Nat × Bool)) : State :=
  ((s.stM n fun x => { x with storeErr := rest }).stM n fun x => { x with eaddr := BitVec.ofNat 32 a }).cpuM (stCore n) fun c =>
    { c with loops := Vector.replicate 2 none, wait := none }

theorem State.remoteStoreError_of_pending (a : Nat) (posted : Bool) (rest : List (Nat × Bool))
    (herr : s.st[n].storeErr = (a, posted) :: rest) (hready : s.stReady n = true) (hended : s.cpu[stCore n].ended = none)
    (hwfi : s.st[n].wfi = false) (hexl : s.st[n].estat.getLsbD 2 = false) :
    ∃ t, s.remoteStoreError n = (s.storeErrSeen n a rest).stEnter n 0 s.cpu[stCore n].pc (if posted then 35 else 3) none t := by
  obtain ⟨hwait, hhalted, hrun, hfault⟩ := s.stReady_running n hready
  have hended' : (s.stM n fun x => { x with storeErr := rest }).cpu[stCore n].ended = none := hended
  have hst : (s.stM n fun x => { x with storeErr := rest }).st[n] = { s.st[n] with storeErr := rest } := by
    rw [State.stM_st, upd_get_self]
  unfold State.remoteStoreError
  dsimp only
  rw [herr]
  dsimp only
  rw [if_neg (by rw [hwait, hhalted, hrun, hfault]; decide), State.cpuM_loopEnd_of_not_ended _ _ hended', hst,
    if_neg (by rw [hwfi]; decide)]
  unfold State.stException
  rw [hst, if_neg (by rw [hexl]; decide)]
  exact ⟨_, by cases posted <;> rfl⟩

end

/-- Settles O33. -/
theorem stewardInterrupts : Obligations.StewardInterrupts := by
  refine ⟨fun n src lvl s hirq hready hie hexl hshadow hwfi hended => ⟨s.interruptEntry n, rfl, ?interrupt⟩,
    fun n s hready hnmi hexl hwfi hended => ⟨s.nmiEntry n, rfl, ?nmi⟩, fun n s hwfi hready hirq hie => ⟨_, rfl, ?wake⟩,
    fun n a posted rest s herr hready hended hwfi hexl => ⟨s.remoteStoreError n, rfl, ?storeError⟩⟩
  case interrupt =>
    have hlvl := s.irqBelow_level n src lvl hirq
    have hcur : cut s.st[n].estat.toNat 8 4 < 16 := Nat.mod_lt _ (by decide)
    obtain ⟨hbit0, hbit1, hbit2, hcurlvl, hplvl⟩ := enteredStat_bits s.st[n].estat (some lvl) (Nat.lt_trans hlvl hcur)
    obtain ⟨t, m, ht⟩ := s.interruptEntry_of_pending n src lvl hirq hready hie hexl hshadow hwfi hended
    rw [ht]
    dsimp only
    rw [State.stEnter_pc, State.stEnter_st, State.stEnter_d, State.stEnter_regs, State.stEnter_mem]
    exact ⟨rfl, rfl, rfl, hbit0, hbit1.trans hie, hbit2, hcurlvl, hplvl, rfl, rfl, rfl⟩
  case nmi =>
    have hcur : cut s.st[n].estat.toNat 8 4 < 16 := Nat.mod_lt _ (by decide)
    obtain ⟨hbit0, hbit1, -⟩ := enteredStat_bits s.st[n].estat none hcur
    obtain ⟨t, ht⟩ := s.nmiEntry_of_pending n hready hnmi hexl hwfi hended
    rw [ht]
    beta_reduce
    rw [State.stEnter_pc, State.stEnter_st, State.stEnter_d, State.stEnter_regs, State.stEnter_mem, State.stM_st, upd_get_self]
    exact ⟨rfl, rfl, rfl, rfl, hbit1, hbit0, rfl, rfl, rfl⟩
  case wake =>
    have hst : (s.wfiEnd n).st[n] = { s.st[n] with wfi := false } := by
      rw [State.wfiEnd, if_pos hwfi, State.cpuM_st, State.stM_st, upd_get_self]
    rw [if_pos (by rw [hwfi, hready, hirq]; rfl), State.interruptEntry_of_disabled _ _ (by rw [hst]; exact hie)]
    beta_reduce
    rw [hst]
    unfold State.wfiEnd
    rw [if_pos hwfi, State.cpuM_cpu, upd_get_self]
    exact ⟨rfl, rfl, rfl, rfl, rfl⟩
  case storeError =>
    obtain ⟨t, ht⟩ := s.remoteStoreError_of_pending n a posted rest herr hready hended hwfi hexl
    rw [ht]
    rw [State.stEnter_pc, State.stEnter_st, State.stEnter_d, State.stEnter_regs, State.stEnter_mem, State.storeErrSeen,
      State.cpuM_st, State.stM_st, State.stM_st, upd_get_self, upd_get_self, State.cpuM_cpu, upd_get_self]
    refine ⟨rfl, ?_, rfl, rfl, ?_, rfl, rfl, rfl⟩
    · cases posted <;> rfl
    · exact BitVec.add_zero _

end Sys2Proof.Machine

/-! SUPPORT. O46: once the save engine has captured its image, METER counts no sample (R318). -/
namespace Sys2Proof.Machine

set_option Elab.async false

theorem State.on_eq_of_regs {s t : State} (h : t.regs = s.regs) (f : Fld) : t.on f = s.on f := by
  simp only [State.on, State.get, State.rdN, State.rd, h]

theorem State.meterCapture_regs (s : State) (t : Nat) : (s.meterCapture t).regs = s.regs := by
  rw [State.meterCapture, State.metM_regs]
  exact foldl_keeps (fun u => u.regs = s.regs) _ (fun u p hu => (State.ptM_regs u p _).trans hu) _ _ rfl

theorem State.saveRetry_of_ok (s : State) (h : s.on Fd.METER_STATUS_SAVEFAIL = false) : s.saveRetry = s := by
  simp [State.saveRetry, h]

/-- R318: after the capture a sampling instant leaves every register as it was, but for a record that is written again. -/
theorem State.meterSample_captured_regs (s : State) (x : Vector MeterSample 4) (hclk : s.pwmClk = false)
    (himage : s.pmu.image.isSome = true) (hok : s.on Fd.METER_STATUS_SAVEFAIL = false) : (s.meterSample x).regs = s.regs := by
  have hregs : ((s.advance 12500).meterCapture (s.advance 12500).tbl.count).regs = s.regs :=
    (State.meterCapture_regs _ _).trans (State.advance_regs s 12500)
  have hpmu : ((s.advance 12500).meterCapture (s.advance 12500).tbl.count).pmu = s.pmu := by
    rw [State.meterCapture, State.metM_pmu]
    exact (foldl_keeps (fun u => u.pmu = (s.advance 12500).pmu) _ (fun u p hu => (State.ptM_pmu u p _).trans hu) _ _ rfl).trans
      (State.advance_pmu s 12500)
  have hretry := State.saveRetry_of_ok ((s.advance 12500).meterCapture (s.advance 12500).tbl.count)
    ((State.on_eq_of_regs hregs _).trans hok)
  simp [State.meterSample, hclk, hretry, hpmu, himage, hregs]

/-- Point 3 runs and has its settings, the PWM clock stands, and the save engine has captured its image (R461). -/
def engineCaptured : State :=
  { (State.reset.put Fd.PLL_STATUS_SYSLOCK 1 |>.put Fd.METER_STATUS_RESTORING 0 |>.put (Fd.METER_MP_CFG_EN 3) 1
      |>.wrN (Reg.METER_MP_PFS 3) 1000000 |>.wrN (Reg.METER_MP_INOM 3) 5) with
    pmu := { engine := some 0, warned := true, image := some [] } }

/-- Refutes O46: a sample without its input is counted as missed only while the save engine has not captured (R318), and the third
clause has no premise on that. Point 3 runs, the PWM clock stands, the image is captured: its miss count stays 0. -/
theorem not_metering : ¬ Obligations.Metering := by
  unfold Obligations.Metering
  rintro ⟨-, -, hmiss, -⟩
  have hclk : engineCaptured.pwmClk = false := by decide +kernel
  obtain ⟨t, ht, hcount, -⟩ := hmiss (Vector.replicate 4 ⟨Vector.replicate 7 [], 0⟩) 3 engineCaptured
    (by decide +kernel) hclk (by decide +kernel) (by decide +kernel) (by decide +kernel)
  have hregs : t.regs = engineCaptured.regs := by
    obtain rfl := Host.Outcome.next.inj ht
    exact State.meterSample_captured_regs _ _ hclk rfl (by decide +kernel)
  have hkept (a : Nat) : t.rdN a = engineCaptured.rdN a := by simp only [State.rdN, State.rd, hregs]
  rw [hkept] at hcount
  exact absurd hcount (by decide +kernel)

end Sys2Proof.Machine

/-! SUPPORT. O49: a STOP takes back a trigger of its own SYS cycle, at whichever instant of that cycle the trigger came (R382). -/
namespace Sys2Proof.Machine

set_option Elab.async false

/-- A trigger reached channel 0, which is idle, 1 tbu ago, in the SYS cycle that still runs. -/
def triggeredThisCycle : State :=
  { State.reset with now := 1, dma := State.reset.dma.upd 0 fun d => { d with trigAt := some 0 } }

/-- Refutes O49: its clause of a STOP at an idle channel asks only that no trigger came at the very instant of the STOP. One that
came 1 tbu before is of the same SYS cycle (`State.sameSys`), so the STOP sets IGN (R382) and a register changes. -/
theorem not_dmaChannels : ¬ Obligations.DmaChannels := by
  unfold Obligations.DmaChannels
  rintro ⟨-, -, hidle, -⟩
  obtain ⟨t, ht, hregs, -⟩ := hidle 0 triggeredThisCycle (by decide +kernel) (by decide +kernel)
  obtain rfl := Host.Outcome.next.inj ht
  have hset : (triggeredThisCycle.dmaStop 0).flag (Ev.DMA_CH_FLAGS_IGN 0) = true := by decide +kernel
  have hclear : triggeredThisCycle.flag (Ev.DMA_CH_FLAGS_IGN 0) = false := by decide +kernel
  rw [State.flag, State.on_eq_of_regs hregs, ← State.flag, hclear] at hset
  exact absurd hset (by decide)

end Sys2Proof.Machine

/-! SUPPORT. The sentinel (R467–R474, R477): its writes on their way, its ledger queue, and what each of its events leaves. -/
namespace Sys2Proof.Machine

set_option Elab.async false

/-! ### Writes on their way (R474) -/

/-- R474: with no write due nothing takes effect. -/
theorem State.sentSettle_of_settled (s : State) (h : s.settled) : s.sentSettle = s := by
  have hdue : s.sentinel.writes.filter (fun w => decide (w.1 ≤ s.now)) = [] :=
    List.filter_eq_nil_iff.mpr fun w hw => by simpa using h w hw
  have hrest : s.sentinel.writes.filter (fun w => decide (s.now < w.1)) = s.sentinel.writes :=
    List.filter_eq_self.mpr fun w hw => by simpa using h w hw
  simp only [State.sentSettle, hdue, List.foldl_nil, State.sentM, hrest]

theorem State.settled_of_none (s : State) (h : s.sentinel.writes = []) : s.settled := by simp [State.settled, h]

theorem State.plainWrite_same {β : Type} (g : State → β) (h : ∀ s a v, g (State.wrN s a v) = g s) (s : State) (a : Nat) (v : Word) :
    g (s.plainWrite a v) = g s := by
  unfold State.plainWrite
  split
  · exact h _ _ _
  · rfl

theorem State.rtcLoad_same {β : Type} (g : State → β) (hput : ∀ s f v, g (State.put s f v) = g s)
    (hrtc : ∀ (s : State) b t r, g (s.sentM fun x => { x with rtcBase := b, rtcAt := t, rtcRuns := r }) = g s) (s : State) (t : Nat) :
    g (s.rtcLoad t) = g s := by
  unfold State.rtcLoad
  split
  · exact (hput _ _ _).trans (hrtc s _ _ _)
  · rfl

/-- What a write of SENT that takes effect does not reach, the writes that are due leave. -/
theorem State.sentSettle_same {β : Type} (g : State → β) (hwr : ∀ s a v, g (State.wrN s a v) = g s)
    (hrtc : ∀ (s : State) b t r, g (s.sentM fun x => { x with rtcBase := b, rtcAt := t, rtcRuns := r }) = g s)
    (hwrites : ∀ (s : State) l, g (s.sentM fun x => { x with writes := l }) = g s) (s : State) : g s.sentSettle = g s := by
  refine (foldl_same g _ (fun u w => ?_) _ _).trans (hwrites s _)
  unfold State.sentWrite
  split
  · exact hwr _ _ _
  split
  · exact hwr _ _ _
  split
  · exact hwr _ _ _
  split
  · split
    · exact State.rtcLoad_same g (fun s f v => hwr s _ _) hrtc _ _
    · rfl
  · exact State.plainWrite_same g hwr _ _ _

theorem State.sentSettle_running (s : State) : s.sentSettle.sentinel.running = s.sentinel.running :=
  State.sentSettle_same (fun s => s.sentinel.running) (fun _ _ _ => rfl) (fun _ _ _ _ => rfl) (fun _ _ => rfl) s

theorem State.sentSettle_now (s : State) : s.sentSettle.now = s.now :=
  State.sentSettle_same State.now (fun _ _ _ => rfl) (fun _ _ _ _ => rfl) (fun _ _ => rfl) s

theorem State.sentSettle_mem (s : State) : s.sentSettle.mem = s.mem :=
  State.sentSettle_same State.mem (fun _ _ _ => rfl) (fun _ _ _ _ => rfl) (fun _ _ => rfl) s

/-! ### The registers at reset (R467) -/

/-- R467: a register of SENT reads its reset value once they have been reset. -/
theorem State.sentRegsReset_rd (s : State) (k : Nat) (hk : k < 21) :
    s.sentRegsReset.rd (Reg.SENT_CFG + 4 * k) = regReset (Reg.SENT_CFG + 4 * k) :=
  foldl_brings (fun u : State => u.rd (Reg.SENT_CFG + 4 * k) = regReset (Reg.SENT_CFG + 4 * k)) (fun _ => True) _
    (fun _ _ _ => trivial)
    (fun u j hu => by
      rw [State.rd_wr]
      split
      · next h => rw [h]
      · exact hu)
    (List.range 21) k (List.mem_range.mpr hk) (fun u _ => by rw [State.rd_wr, if_pos rfl]) s trivial

theorem State.sentRegsReset_now (s : State) : s.sentRegsReset.now = s.now := by
  rw [State.sentRegsReset]
  exact foldl_same State.now _ (fun u k => u.wr_now _ _) _ _

theorem State.sentRegsReset_mem (s : State) : s.sentRegsReset.mem = s.mem := by
  rw [State.sentRegsReset]
  exact foldl_same State.mem _ (fun u k => u.wr_mem _ _) _ _

theorem State.sentRegsReset_cfg (s : State) : s.sentRegsReset.rd Reg.SENT_CFG = regReset Reg.SENT_CFG := s.sentRegsReset_rd 0 (by decide)

theorem State.sentRegsReset_status (s : State) : s.sentRegsReset.rdN Reg.SENT_STATUS = 0 := by
  rw [State.rdN, show Reg.SENT_STATUS = Reg.SENT_CFG + 4 * 1 from rfl, s.sentRegsReset_rd 1 (by decide)]
  decide +kernel

/-! ### The queue of the ledger (R470) -/

/-- The entry of an event. -/
def State.entry (s : State) (typ tamper : Nat) : LedgerEntry :=
  ⟨typ, s.rtc, s.on Fd.SENT_STATUS_RTCVALID, s.get Fd.SENT_VSTORE_LSTORE, tamper⟩

/-- R470: an entry that finds room waits as the last. -/
theorem State.ledgerAdd_of_room (s : State) (typ tamper : Nat) (h : s.sentinel.queue.length < 4) :
    s.ledgerAdd typ tamper = (s.sentM fun x => { x with queue := s.sentinel.queue ++ [s.entry typ tamper] }).ledgerShow :=
  if_pos h

/-- An entry touches the queue, what shows it, and QDROP. -/
theorem State.ledgerAdd_same {β : Type} (g : State → β) (hqueue : ∀ (s : State) q, g (s.sentM fun x => { x with queue := q }) = g s)
    (hlevel : ∀ s v, g (State.put s Fd.SENT_STATUS_QLEVEL v) = g s) (hdrop : ∀ s, g (State.raise s Ev.SENT_FLAGS_QDROP) = g s)
    (s : State) (typ tamper : Nat) : g (s.ledgerAdd typ tamper) = g s := by
  unfold State.ledgerAdd State.ledgerShow
  dsimp only
  split
  · exact (hlevel _ _).trans (hqueue _ _)
  split
  · exact (hlevel _ _).trans (hqueue _ _)
  · exact hdrop _

/-! ### Start and stop (R467) -/

/-- The sentinel as it starts. -/
theorem State.sentinelStart_of_stopped (s : State) (v : Bool) (h : s.sentinel.running = false) :
    ∃ (q : Nat) (u : State), s.sentinelStart v = (if v then u.put Fd.SENT_STATUS_ONVIN 1 else u.put Fd.SENT_STATUS_ONVBAT 1) ∧
      u.sentinel = { rtcAt := s.now, pwrreq := v, hv1At := s.now, seq := q } ∧ u.rdN Reg.SENT_STATUS = 0 ∧
      u.rd Reg.SENT_CFG = regReset Reg.SENT_CFG ∧ u.now = s.now ∧ u.mem = s.mem := by
  have hnow := s.sentRegsReset_now
  have hmem := s.sentRegsReset_mem
  have hstatus := s.sentRegsReset_status
  have hcfg := s.sentRegsReset_cfg
  unfold State.sentinelStart
  rw [if_neg (by rw [h]; decide)]
  generalize s.sentRegsReset = r at hnow hmem hstatus hcfg ⊢
  refine ⟨_, _, rfl, by rw [hnow]; rfl, ?_, ?_, hnow, hmem⟩
  · rw [State.rdN, State.rd_put_other _ _ _ _ (by decide)]
    exact hstatus
  · rw [State.rd_put_other _ _ _ _ (by decide)]
    exact hcfg

theorem State.get_eq_zero_of_rdN {s : State} {f : Fld} (h : s.rdN f.addr = 0) : s.get f = 0 := by
  simp [State.get, h, cut]

theorem sentinelStart_answers (v : Bool) (s : State) (h : s.sentinel.running = false) : Answers (.sentinelStart v) s fun t =>
    t.sentinel.running = true ∧ t.rtc = 0 ∧ t.get Fd.SENT_STATUS_RTCVALID = 0 ∧ t.sentinel.pwrreq = v ∧ t.sentinel.queue = [] ∧
      t.sentinel.ignored = 0 ∧ t.get Fd.SENT_STATUS_ONVIN = v.toNat ∧ t.get Fd.SENT_STATUS_ONVBAT = (!v).toNat ∧
      t.rd Reg.SENT_CFG = regReset Reg.SENT_CFG ∧ t.now = s.now ∧ t.mem = s.mem := by
  obtain ⟨q, u, hu, hsent, hstatus, hcfg, hnow, hmem⟩ := s.sentSettle.sentinelStart_of_stopped v (s.sentSettle_running.trans h)
  rw [State.sentSettle_now] at hnow hsent
  rw [State.sentSettle_mem] at hmem
  have hvalid : u.get Fd.SENT_STATUS_RTCVALID = 0 := State.get_eq_zero_of_rdN hstatus
  have hvin : u.get Fd.SENT_STATUS_ONVIN = 0 := State.get_eq_zero_of_rdN hstatus
  have hvbat : u.get Fd.SENT_STATUS_ONVBAT = 0 := State.get_eq_zero_of_rdN hstatus
  refine ⟨_, rfl, ?_⟩
  beta_reduce
  rw [hu]
  have hrtc (f : Fld) : (u.put f 1).rtc = 0 := by
    rw [State.rtc, State.put_sentinel, hsent, State.put_now, hnow]
    exact (if_pos rfl).trans (by rw [Nat.sub_self, Nat.zero_mul, Nat.zero_div, Nat.add_zero, Nat.zero_mod])
  cases v
  all_goals
    simp (disch := decide) only [Bool.false_eq_true, if_true, if_false, State.put_sentinel, State.put_now, State.put_mem, hsent, hrtc, hnow,
      hmem, State.get_put_within, State.get_put_apart, State.rd_put_other, hvalid, hvin, hvbat, hcfg]
    exact ⟨trivial, trivial, trivial, trivial, trivial, trivial, rfl, rfl, trivial, trivial, trivial⟩

theorem sentinelStop_answers (s : State) (hset : s.settled) (h : s.sentinel.running = true) : Answers .sentinelStop s fun t =>
    t.sentinel.running = false ∧ t.sentinel.pwrreq = false ∧ t.sentinel.queue = [] ∧ t.rd Reg.SENT_CFG = regReset Reg.SENT_CFG ∧
      t.now = s.now ∧ t.mem = s.mem := by
  have hnow := s.sentRegsReset_now
  have hmem := s.sentRegsReset_mem
  have hcfg := s.sentRegsReset_cfg
  refine ⟨s.sentSettle.sentinelStop, rfl, ?_⟩
  rw [s.sentSettle_of_settled hset, State.sentinelStop, if_pos h]
  generalize s.sentRegsReset = r at hnow hmem hcfg ⊢
  exact ⟨rfl, rfl, rfl, hcfg, hnow, hmem⟩

/-! ### Entries -/

theorem State.put_rtc (s : State) (f : Fld) (v : Nat) : (s.put f v).rtc = s.rtc := rfl

/-- What an event changes in SENT's registers beside RTCVALID and LSTORE does not show in its entry. -/
theorem State.entry_put (s : State) (f : Fld) (v typ tamper : Nat) (hf : f.lo + f.w ≤ 32)
    (hvalid : Fd.SENT_STATUS_RTCVALID.addr ≠ f.addr ∨ Fd.SENT_STATUS_RTCVALID.lo + Fd.SENT_STATUS_RTCVALID.w ≤ f.lo ∨
      f.lo + f.w ≤ Fd.SENT_STATUS_RTCVALID.lo)
    (hlstore : Fd.SENT_VSTORE_LSTORE.addr ≠ f.addr ∨ Fd.SENT_VSTORE_LSTORE.lo + Fd.SENT_VSTORE_LSTORE.w ≤ f.lo ∨
      f.lo + f.w ≤ Fd.SENT_VSTORE_LSTORE.lo) : (s.put f v).entry typ tamper = s.entry typ tamper := by
  rw [State.entry, State.on, s.get_put_apart _ _ _ hf hvalid, s.get_put_apart _ _ _ hf hlstore]
  rfl

/-- The level of a queue that holds at most four entries stands in QLEVEL. -/
theorem State.ledgerShow_qlevel (s : State) : s.ledgerShow.get Fd.SENT_STATUS_QLEVEL = s.sentinel.queue.length % 8 :=
  s.get_put_within _ _ (by decide)

theorem State.ledgerShow_get (s : State) (f : Fld) (h : f.addr ≠ Reg.SENT_STATUS ∨ f.lo + f.w ≤ 4 ∨ 7 ≤ f.lo) :
    s.ledgerShow.get f = s.get f := s.get_put_apart _ _ _ (by decide) h

@[simp] theorem State.ledgerShow_sentinel (s : State) : s.ledgerShow.sentinel = s.sentinel := rfl
@[simp] theorem State.ledgerShow_now (s : State) : s.ledgerShow.now = s.now := rfl
@[simp] theorem State.ledgerShow_mem (s : State) : s.ledgerShow.mem = s.mem := rfl

theorem sentinelVinLoss_answers (s : State) (hset : s.settled) (hrun : s.sentinel.running = true) (hvin : s.vinPresent = true)
    (hroom : s.sentinel.queue.length < 4) : Answers .sentinelVinLoss s fun t =>
    t.get Fd.SENT_STATUS_ONVIN = 0 ∧ t.sentinel.queue = s.sentinel.queue ++ [s.entry 1 0] ∧
      t.get Fd.SENT_STATUS_QLEVEL = t.sentinel.queue.length ∧
      t.sentinel.checkpoint = some (s.now + max 1 (s.get Fd.SENT_CFG_CKINT) * 3600 * tSec) ∧ t.now = s.now ∧ t.mem = s.mem := by
  refine ⟨s.sentSettle.sentinelVinLoss, rfl, ?_⟩
  rw [s.sentSettle_of_settled hset, State.sentinelVinLoss, if_pos (by rw [hrun, hvin]; rfl)]
  dsimp only
  rw [State.ledgerAdd_of_room (s.put _ _) _ _ hroom, s.entry_put _ _ _ _ (by decide) (by decide) (by decide)]
  have hlen : (s.sentinel.queue ++ [s.entry 1 0]).length % 8 = (s.sentinel.queue ++ [s.entry 1 0]).length := by
    rw [List.length_append, List.length_singleton]
    omega
  refine ⟨?_, rfl, (State.ledgerShow_qlevel _).trans hlen, ?_, rfl, rfl⟩
  · simp (disch := decide) only [State.sentM_get, State.ledgerShow_get, State.get_put_within]
    rfl
  · simp (disch := decide) only [State.sentM_sentinel, State.checkpointGap, State.sentM_get, State.ledgerShow_get, State.get_put_apart,
      State.sentM_now, State.ledgerShow_now, State.put_now]

theorem sentinelVinReturn_answers (s : State) (hset : s.settled) (hrun : s.sentinel.running = true) (hvin : s.vinPresent = false)
    (hroom : s.sentinel.queue.length < 4) : Answers .sentinelVinReturn s fun t =>
    t.get Fd.SENT_STATUS_ONVIN = 1 ∧ t.get Fd.SENT_STATUS_ONVBAT = 0 ∧ t.sentinel.checkpoint = none ∧
      t.sentinel.queue = s.sentinel.queue ++ [s.entry 2 0] ∧ t.now = s.now ∧ t.mem = s.mem := by
  refine ⟨s.sentSettle.sentinelVinReturn, rfl, ?_⟩
  rw [s.sentSettle_of_settled hset, State.sentinelVinReturn, if_pos (by rw [hrun, hvin]; rfl)]
  dsimp only
  rw [State.ledgerAdd_of_room ((s.put _ _).put _ _) _ _ hroom, State.entry_put _ _ _ _ _ (by decide) (by decide) (by decide),
    s.entry_put _ _ _ _ (by decide) (by decide) (by decide)]
  refine ⟨?_, ?_, rfl, rfl, rfl, rfl⟩
  all_goals
    simp (disch := decide) only [State.sentM_get, State.ledgerShow_get, State.get_put_within, State.get_put_apart]
    rfl

end Sys2Proof.Machine

/-! SUPPORT. The sentinel, continued: long darkness, bursts, checkpoints, tamper inputs, the wake sources and the RTC. -/
namespace Sys2Proof.Machine

set_option Elab.async false

/-! ### Long darkness (R469) -/

/-- The readings of an event of long darkness. -/
def State.darkRead (s : State) (l v b : Nat) : State :=
  ((s.put Fd.SENT_VSTORE_LSTORE l).put Fd.SENT_VSTORE_SSTORE v).put Fd.SENT_VBAT_MV b

theorem State.darkRead_on (s : State) (l v b : Nat) (f : Fld) (h : f.addr ≠ Reg.SENT_VSTORE) (h' : f.addr ≠ Reg.SENT_VBAT) :
    (s.darkRead l v b).on f = s.on f := by
  rw [State.on, State.on, State.darkRead, State.get_put_apart _ _ _ _ (by decide) (.inl h'),
    State.get_put_apart _ _ _ _ (by decide) (.inl h), State.get_put_apart _ _ _ _ (by decide) (.inl h)]

/-- R469: LSTORE below LCUT, neither on VIN nor on VBAT: VBAT takes over, where it may and can; otherwise the cut-off. -/
theorem State.longDarkness_of_low (s : State) (l v b : Nat) (hlive : s.sentinelLive = true) (hvin : s.vinPresent = false)
    (hvbat : s.on Fd.SENT_STATUS_ONVBAT = false) (hlow : l < s.get Fd.SENT_LCUT_MV) :
    s.longDarkness l v b = if s.on Fd.SENT_CFG_LDPOL && 2500 ≤ b then ((s.darkRead l v b).put Fd.SENT_STATUS_ONVBAT 1).ledgerAdd 7 0
      else (s.darkRead l v b).cutOff v := by
  have hpol : (s.darkRead l v b).on Fd.SENT_CFG_LDPOL = s.on Fd.SENT_CFG_LDPOL := s.darkRead_on _ _ _ _ (by decide) (by decide)
  have hfirst : (s.sentinelLive && !s.vinPresent && !s.on Fd.SENT_STATUS_ONVBAT && decide (l < s.get Fd.SENT_LCUT_MV)) = true := by
    rw [hlive, hvin, hvbat, decide_eq_true hlow]
    rfl
  rw [← hpol, State.longDarkness, if_pos hfirst]
  exact if_congr Iff.rfl rfl rfl

/-- An entry that finds room leaves every field but QLEVEL. -/
theorem State.ledgerAdd_get (s : State) (typ tamper : Nat) (h : s.sentinel.queue.length < 4) (f : Fld)
    (hf : f.addr ≠ Reg.SENT_STATUS ∨ f.lo + f.w ≤ 4 ∨ 7 ≤ f.lo) : (s.ledgerAdd typ tamper).get f = s.get f := by
  rw [s.ledgerAdd_of_room _ _ h, State.ledgerShow_get _ _ hf, State.sentM_get]

theorem State.ledgerAdd_queue (s : State) (typ tamper : Nat) (h : s.sentinel.queue.length < 4) :
    (s.ledgerAdd typ tamper).sentinel.queue = s.sentinel.queue ++ [s.entry typ tamper] := by
  rw [s.ledgerAdd_of_room _ _ h, State.ledgerShow_sentinel, State.sentM_sentinel]

theorem State.ledgerAdd_now (s : State) (typ tamper : Nat) : (s.ledgerAdd typ tamper).now = s.now :=
  State.ledgerAdd_same State.now (fun _ _ => rfl) (fun s _ => s.put_now _ _) (fun s => s.raise_now _) s typ tamper

theorem State.ledgerAdd_mem (s : State) (typ tamper : Nat) : (s.ledgerAdd typ tamper).mem = s.mem :=
  State.ledgerAdd_same State.mem (fun _ _ => rfl) (fun s _ => s.put_mem _ _) (fun s => s.raise_mem _) s typ tamper

theorem State.darkRead_lstore (s : State) (l v b : Nat) (h : l < 2 ^ 16) : (s.darkRead l v b).get Fd.SENT_VSTORE_LSTORE = l := by
  rw [State.darkRead, State.get_put_apart _ _ _ _ (by decide) (by decide), State.get_put_apart _ _ _ _ (by decide) (by decide),
    State.get_put_within _ _ _ (by decide)]
  exact Nat.mod_eq_of_lt h

theorem State.darkRead_vbat (s : State) (l v b : Nat) (h : b < 2 ^ 16) : (s.darkRead l v b).get Fd.SENT_VBAT_MV = b := by
  rw [State.darkRead, State.get_put_within _ _ _ (by decide)]
  exact Nat.mod_eq_of_lt h

theorem State.darkRead_sentinel (s : State) (l v b : Nat) : (s.darkRead l v b).sentinel = s.sentinel := by
  rw [State.darkRead, State.put_sentinel, State.put_sentinel, State.put_sentinel]

theorem State.darkRead_now (s : State) (l v b : Nat) : (s.darkRead l v b).now = s.now := by
  rw [State.darkRead, State.put_now, State.put_now, State.put_now]

theorem State.darkRead_mem (s : State) (l v b : Nat) : (s.darkRead l v b).mem = s.mem := by
  rw [State.darkRead, State.put_mem, State.put_mem, State.put_mem]

theorem State.rtc_of_same {s t : State} (hsent : t.sentinel = s.sentinel) (hnow : t.now = s.now) : t.rtc = s.rtc := by
  rw [State.rtc, State.rtc, hsent, hnow]

theorem State.darkRead_entry (s : State) (l v b typ tamper : Nat) (h : l < 2 ^ 16) :
    (s.darkRead l v b).entry typ tamper = ⟨typ, s.rtc, s.on Fd.SENT_STATUS_RTCVALID, l, tamper⟩ := by
  rw [State.entry, s.darkRead_lstore _ _ _ h, s.darkRead_on _ _ _ _ (by decide) (by decide),
    State.rtc_of_same (s.darkRead_sentinel l v b) (s.darkRead_now l v b)]

theorem longDarkness_vbat (l v b : BitVec 16) (s : State) (hset : s.settled) (hlive : s.sentinelLive = true) (hvin : s.vinPresent = false)
    (hvbat : s.on Fd.SENT_STATUS_ONVBAT = false) (hlow : l.toNat < s.get Fd.SENT_LCUT_MV) (hpol : s.on Fd.SENT_CFG_LDPOL = true)
    (hb : 2500 ≤ b.toNat) (hroom : s.sentinel.queue.length < 4) : Answers (.longDarkness l v b) s fun t =>
    t.get Fd.SENT_STATUS_ONVBAT = 1 ∧ t.get Fd.SENT_STATUS_CUT = 0 ∧ t.get Fd.SENT_VSTORE_LSTORE = l.toNat ∧
      t.get Fd.SENT_VBAT_MV = b.toNat ∧
      t.sentinel.queue = s.sentinel.queue ++ [⟨7, s.rtc, s.on Fd.SENT_STATUS_RTCVALID, l.toNat, 0⟩] ∧ t.now = s.now ∧ t.mem = s.mem := by
  have hcut : s.on Fd.SENT_STATUS_CUT = false := by
    rw [State.sentinelLive, Bool.and_eq_true, Bool.not_eq_true'] at hlive
    exact hlive.2
  have hl : l.toNat < 2 ^ 16 := l.isLt
  have hb' : b.toNat < 2 ^ 16 := b.isLt
  refine ⟨s.sentSettle.longDarkness l.toNat v.toNat b.toNat, rfl, ?_⟩
  rw [s.sentSettle_of_settled hset, s.longDarkness_of_low _ _ _ hlive hvin hvbat hlow, hpol, Bool.true_and, if_pos (decide_eq_true hb)]
  have hdarkcut : (s.darkRead l.toNat v.toNat b.toNat).on Fd.SENT_STATUS_CUT = s.on Fd.SENT_STATUS_CUT :=
    s.darkRead_on _ _ _ _ (by decide) (by decide)
  have hlstore := s.darkRead_lstore l.toNat v.toNat b.toNat hl
  have hmv := s.darkRead_vbat l.toNat v.toNat b.toNat hb'
  have hentry := s.darkRead_entry l.toNat v.toNat b.toNat 7 0 hl
  have hsent := s.darkRead_sentinel l.toNat v.toNat b.toNat
  have hnow := s.darkRead_now l.toNat v.toNat b.toNat
  have hmem := s.darkRead_mem l.toNat v.toNat b.toNat
  generalize s.darkRead l.toNat v.toNat b.toNat = d at hdarkcut hlstore hmv hentry hsent hnow hmem ⊢
  have hroom' : (d.put Fd.SENT_STATUS_ONVBAT 1).sentinel.queue.length < 4 := by rw [State.put_sentinel, hsent]; exact hroom
  refine ⟨?_, ?_, ?_, ?_, ?_, ?_, ?_⟩
  · rw [State.ledgerAdd_get _ _ _ hroom' _ (by decide), State.get_put_within _ _ _ (by decide)]
    rfl
  · rw [State.ledgerAdd_get _ _ _ hroom' _ (by decide), State.get_put_apart _ _ _ _ (by decide) (by decide)]
    exact State.get_eq_zero_of_off (hdarkcut.trans hcut)
  · rw [State.ledgerAdd_get _ _ _ hroom' _ (by decide), State.get_put_apart _ _ _ _ (by decide) (by decide), hlstore]
  · rw [State.ledgerAdd_get _ _ _ hroom' _ (by decide), State.get_put_apart _ _ _ _ (by decide) (by decide), hmv]
  · rw [State.ledgerAdd_queue _ _ _ hroom', State.entry_put _ _ _ _ _ (by decide) (by decide) (by decide), hentry, State.put_sentinel, hsent]
  · rw [State.ledgerAdd_now, State.put_now, hnow]
  · rw [State.ledgerAdd_mem, State.put_mem, hmem]

/-- R470: the cut-off below 3.1 V writes nothing, and stops the RTC. -/
theorem State.cutOff_of_refused (s : State) (v : Nat) (h : v < 3100) :
    s.cutOff v = (((s.raise Ev.SENT_FLAGS_BURSTREF).rtcSet (s.raise Ev.SENT_FLAGS_BURSTREF).rtc false).put Fd.SENT_STATUS_RTCVALID 0).put
      Fd.SENT_STATUS_CUT 1 := by
  rw [State.cutOff, if_neg (Nat.not_le.mpr h)]

theorem longDarkness_cutOff (l v b : BitVec 16) (s : State) (hset : s.settled) (hlive : s.sentinelLive = true) (hvin : s.vinPresent = false)
    (hvbat : s.on Fd.SENT_STATUS_ONVBAT = false) (hlow : l.toNat < s.get Fd.SENT_LCUT_MV) (hpol : s.on Fd.SENT_CFG_LDPOL = false)
    (hv : v.toNat < 3100) : Answers (.longDarkness l v b) s fun t =>
    t.get Fd.SENT_STATUS_CUT = 1 ∧ t.get Fd.SENT_STATUS_RTCVALID = 0 ∧ t.sentinel.rtcRuns = false ∧
      t.flag Ev.SENT_FLAGS_BURSTREF = true ∧ t.sentinel.queue = s.sentinel.queue ∧ t.now = s.now ∧ t.mem = s.mem := by
  refine ⟨s.sentSettle.longDarkness l.toNat v.toNat b.toNat, rfl, ?_⟩
  rw [s.sentSettle_of_settled hset, s.longDarkness_of_low _ _ _ hlive hvin hvbat hlow, hpol, Bool.false_and, if_neg (by decide),
    State.cutOff_of_refused _ _ hv]
  have hsent := s.darkRead_sentinel l.toNat v.toNat b.toNat
  have hnow := s.darkRead_now l.toNat v.toNat b.toNat
  have hmem := s.darkRead_mem l.toNat v.toNat b.toNat
  generalize s.darkRead l.toNat v.toNat b.toNat = d at hsent hnow hmem ⊢
  have hflag : (d.raise Ev.SENT_FLAGS_BURSTREF).flag Ev.SENT_FLAGS_BURSTREF = true := d.flag_raise _ (by decide) (by decide)
  refine ⟨?_, ?_, ?_, ?_, ?_, ?_, ?_⟩
  · rw [State.get_put_within _ _ _ (by decide)]
    rfl
  · rw [State.get_put_apart _ _ _ _ (by decide) (by decide), State.get_put_within _ _ _ (by decide)]
    rfl
  · rw [State.put_sentinel, State.put_sentinel, State.rtcSet, State.sentM_sentinel]
  · rw [← hflag, State.flag, State.on, State.get_put_apart _ _ _ _ (by decide) (by decide),
      State.get_put_apart _ _ _ _ (by decide) (by decide), State.rtcSet, State.sentM_get]
    rfl
  · rw [State.put_sentinel, State.put_sentinel, State.rtcSet, State.sentM_sentinel, State.raise_sentinel, hsent]
  · rw [State.put_now, State.put_now, State.rtcSet, State.sentM_now, State.raise_now, hnow]
  · rw [State.put_mem, State.put_mem, State.rtcSet, State.sentM_mem, State.raise_mem, hmem]

theorem sentinelResume_answers (l : BitVec 16) (s : State) (hset : s.settled) (hrun : s.sentinel.running = true)
    (hcut : s.on Fd.SENT_STATUS_CUT = true) (hl : s.get Fd.SENT_LCUT_MV + 300 ≤ l.toNat) : Answers (.sentinelResume l) s fun t =>
    t.get Fd.SENT_STATUS_CUT = 0 ∧ t.get Fd.SENT_VSTORE_LSTORE = l.toNat ∧ t.sentinel.rtcRuns = true ∧ t.flag Ev.SENT_FLAGS_CUTOFF = true ∧
      t.now = s.now ∧ t.mem = s.mem := by
  refine ⟨s.sentSettle.sentinelResume l.toNat, rfl, ?_⟩
  rw [s.sentSettle_of_settled hset, State.sentinelResume, if_pos (by rw [hrun, hcut, decide_eq_true hl]; rfl)]
  dsimp only
  have hget (f : Fld) (hlevel : f.addr ≠ Fd.SENT_STATUS_QLEVEL.addr ∨ f.lo + f.w ≤ Fd.SENT_STATUS_QLEVEL.lo ∨
      Fd.SENT_STATUS_QLEVEL.lo + Fd.SENT_STATUS_QLEVEL.w ≤ f.lo)
      (hflag : f.addr ≠ Ev.SENT_FLAGS_QDROP.addr) (hcnt : f.addr ≠ Ev.SENT_FLAGS_QDROP.cnt)
      (hcnt' : f.addr ≠ Ev.SENT_FLAGS_CUTOFF.cnt) (u : State) :
      ((u.ledgerAdd 6 0).raise Ev.SENT_FLAGS_CUTOFF).get f = u.get f := by
    refine ((u.ledgerAdd 6 0).get_raise_other Ev.SENT_FLAGS_CUTOFF f (by decide) (.inl hflag) hcnt').trans ?_
    exact State.ledgerAdd_same (fun w => w.get f) (fun _ _ => rfl) (fun w v => w.get_put_apart _ _ _ (by decide) hlevel)
      (fun w => w.get_raise_other _ _ (by decide) (.inl hflag) hcnt) u 6 0
  have hruns (u : State) : ((u.ledgerAdd 6 0).raise Ev.SENT_FLAGS_CUTOFF).sentinel.rtcRuns = u.sentinel.rtcRuns := by
    rw [State.raise_sentinel]
    exact State.ledgerAdd_same (fun w => w.sentinel.rtcRuns) (fun _ _ => rfl) (fun w v => rfl) (fun w => by rw [State.raise_sentinel]) u 6 0
  have hflag (u : State) : (u.raise Ev.SENT_FLAGS_CUTOFF).flag Ev.SENT_FLAGS_CUTOFF = true := u.flag_raise _ (by decide) (by decide)
  refine ⟨?_, ?_, ?_, ?_, ?_, ?_⟩
  · rw [hget _ (by decide) (by decide) (by decide) (by decide), State.rtcSet, State.sentM_get, State.get_put_within _ _ _ (by decide)]
    rfl
  · rw [hget _ (by decide) (by decide) (by decide) (by decide), State.rtcSet, State.sentM_get, State.get_put_apart _ _ _ _ (by decide) (by decide),
      State.get_put_within _ _ _ (by decide)]
    exact Nat.mod_eq_of_lt l.isLt
  · rw [hruns, State.rtcSet, State.sentM_sentinel]
  · rw [hflag]
  · rw [State.raise_now, State.ledgerAdd_now, State.rtcSet, State.sentM_now, State.put_now, State.put_now]
  · rw [State.raise_mem, State.ledgerAdd_mem, State.rtcSet, State.sentM_mem, State.put_mem, State.put_mem]

/-! ### Bursts (R470, R471) -/

/-- The first bytes of a longer write. -/
theorem Memory.readLE_writeLE_prefix (m : List (Nat × Byte)) (a v : Nat) {k n : Nat} (h : k ≤ n) :
    Memory.readLE (Memory.writeLE m a n v) a k = v % 256 ^ k := by
  rw [← Memory.readLE_writeLE_same k m a v]
  refine Memory.readLE_congr k a fun b hlow hhigh => ?_
  obtain ⟨i, rfl⟩ := Nat.exists_eq_add_of_le hlow
  rw [Memory.read_writeLE_of_inside n m a v i (by omega), Memory.read_writeLE_of_inside k m a v i (by omega)]

theorem State.memRd_memWr_prefix (s : State) (a v : Nat) {k n : Nat} (h : k ≤ n) : (s.memWr a n v).memRd a k = v % 256 ^ k :=
  Memory.readLE_writeLE_prefix s.mem a v h

theorem State.memWr_field (s : State) (a n v : Nat) (f : Fld) : (s.memWr a n v).get f = s.get f := rfl

/-- R471: the memory that a whole burst leaves: the slot's mark cleared, its words 0–6, its mark. -/
theorem State.ledgerWrite_whole (s : State) (e : LedgerEntry) : ∃ (i all : Nat) (u : State),
    s.ledgerWrite e 8 = (u.put Fd.SENT_LEDGER_HEAD i).sentM (fun x => { x with seq := s.sentinel.seq + 1 }) ∧
      all % 2 ^ 192 = e.body (s.sentinel.seq + 1) % 2 ^ 192 ∧
      u = ((s.memWr (ledgerSlot s.ledgerNext + 28) 4 0).memWr (ledgerSlot s.ledgerNext) 28 all).memWr (ledgerSlot s.ledgerNext + 28) 4
        0x49444C45 := by
  have hlen : 4 * min 7 8 = 28 := rfl
  rw [State.ledgerWrite, if_pos rfl, hlen]
  exact ⟨_, e.body (s.sentinel.seq + 1) + 2 ^ 192 * crc32 (bytesLE 24 (e.body (s.sentinel.seq + 1))), _, rfl,
    Nat.add_mul_mod_self_left _ _ _, rfl⟩

/-- What stands in a slot after its words and its mark were written. -/
theorem State.slot_written (s u : State) (a all mark : Nat) (hm : mark < 2 ^ 32)
    (hu : u = ((s.memWr (a + 28) 4 0).memWr a 28 all).memWr (a + 28) 4 mark) :
    u.memRd (a + 28) 4 = mark ∧ u.memRd a 24 = all % 2 ^ 192 ∧ SameMemoryBut a 32 s u := by
  have h1 := s.memWr_sameMemoryBut (a + 28) 4 0
  have h2 := (s.memWr (a + 28) 4 0).memWr_sameMemoryBut a 28 all
  have hread : ((s.memWr (a + 28) 4 0).memWr a 28 all).memRd a 24 = all % 256 ^ 24 :=
    State.memRd_memWr_prefix _ _ _ (by decide)
  generalize (s.memWr (a + 28) 4 0) = x at hu h1 h2 hread
  generalize (x.memWr a 28 all) = y at hu h2 hread
  have h3 := y.memWr_sameMemoryBut (a + 28) 4 mark
  rw [← hu] at h3
  refine ⟨?_, ?_, ?_⟩
  · rw [hu, State.memRd_memWr_word, Nat.mod_eq_of_lt hm]
  · rw [h3.memRd a 24 (.inl (by omega)), hread, show (256 : Nat) ^ 24 = 2 ^ 192 from by norm_num]
  · exact ((h1.widen (by omega) (by omega)).trans (h2.widen (by omega) (by omega))).trans (h3.widen (by omega) (by omega))

theorem ledgerBurst_whole (v : BitVec 16) (e : LedgerEntry) (q : List LedgerEntry) (s : State) (hset : s.settled) (hlive : s.sentinelLive = true)
    (hq : s.sentinel.queue = e :: q) (hv : 3100 ≤ v.toNat) : Answers (.ledgerBurst v 8) s fun t =>
    t.sentinel.queue = q ∧ t.sentinel.seq = s.sentinel.seq + 1 ∧ t.get Fd.SENT_STATUS_QLEVEL = q.length % 8 ∧
      t.get Fd.SENT_VSTORE_SSTORE = v.toNat ∧ t.memRd (ledgerSlot s.ledgerNext + 28) 4 = 0x49444C45 ∧
      t.memRd (ledgerSlot s.ledgerNext) 24 = e.body (s.sentinel.seq + 1) % 2 ^ 192 ∧ SameMemoryBut (ledgerSlot s.ledgerNext) 32 s t ∧
      t.now = s.now := by
  refine ⟨s.sentSettle.ledgerBurst v.toNat 8, rfl, ?_⟩
  rw [s.sentSettle_of_settled hset, State.ledgerBurst, hq]
  dsimp only
  rw [if_pos hlive, if_pos hv, if_pos rfl]
  obtain ⟨i, all, u, hu, hall, hmem⟩ := (s.put Fd.SENT_VSTORE_SSTORE v.toNat).ledgerWrite_whole e
  have hnext : (s.put Fd.SENT_VSTORE_SSTORE v.toNat).ledgerNext = s.ledgerNext := rfl
  rw [hnext] at hmem
  rw [State.put_sentinel] at hu hall
  have hsstore : u.get Fd.SENT_VSTORE_SSTORE = v.toNat := by
    rw [hmem, State.memWr_field, State.memWr_field, State.memWr_field, State.get_put_within _ _ _ (by decide)]
    exact Nat.mod_eq_of_lt v.isLt
  have hnow : u.now = s.now := by rw [hmem, State.memWr_now, State.memWr_now, State.memWr_now, State.put_now]
  obtain ⟨hmark, hbody, hsame⟩ := (s.put Fd.SENT_VSTORE_SSTORE v.toNat).slot_written u (ledgerSlot s.ledgerNext) all 0x49444C45 (by decide) hmem
  rw [hu]
  clear hu hmem
  have hmemory (x : State) (h : x.mem = u.mem) : x.memRd (ledgerSlot s.ledgerNext + 28) 4 = 0x49444C45 ∧
      x.memRd (ledgerSlot s.ledgerNext) 24 = e.body (s.sentinel.seq + 1) % 2 ^ 192 ∧ SameMemoryBut (ledgerSlot s.ledgerNext) 32 s x :=
    ⟨(State.memRd_of_mem_eq h _ _).trans hmark, (State.memRd_of_mem_eq h _ _).trans (hbody.trans hall),
      SameMemoryBut.of_mem_eq (t := u) (fun b hb => hsame b hb) h⟩
  obtain ⟨h1, h2, h3⟩ := hmemory (((u.put Fd.SENT_LEDGER_HEAD i).sentM fun x => { x with seq := s.sentinel.seq + 1 }).sentM
    fun x => { x with queue := q }).ledgerShow (by rw [State.ledgerShow_mem, State.sentM_mem, State.sentM_mem, State.put_mem])
  refine ⟨?_, ?_, ?_, ?_, h1, h2, h3, ?_⟩
  · rw [State.ledgerShow_sentinel, State.sentM_sentinel]
  · rw [State.ledgerShow_sentinel, State.sentM_sentinel, State.sentM_sentinel]
  · rw [State.ledgerShow_qlevel, State.sentM_sentinel]
  · rw [State.ledgerShow_get _ _ (by decide), State.sentM_get, State.sentM_get, State.get_put_apart _ _ _ _ (by decide) (by decide), hsstore]
  · rw [State.ledgerShow_now, State.sentM_now, State.sentM_now, State.put_now, hnow]

theorem ledgerBurst_refused (v : BitVec 16) (n : Fin 9) (s : State) (hset : s.settled) (hlive : s.sentinelLive = true)
    (hq : s.sentinel.queue ≠ []) (hv : v.toNat < 3100) : Answers (.ledgerBurst v n) s fun t =>
    t.flag Ev.SENT_FLAGS_BURSTREF = true ∧ t.sentinel.queue = s.sentinel.queue ∧ t.get Fd.SENT_VSTORE_SSTORE = v.toNat ∧ t.now = s.now ∧
      t.mem = s.mem := by
  obtain ⟨e, q, hcons⟩ := List.exists_cons_of_ne_nil hq
  refine ⟨s.sentSettle.ledgerBurst v.toNat n.val, rfl, ?_⟩
  rw [s.sentSettle_of_settled hset, State.ledgerBurst, hcons]
  dsimp only
  rw [if_pos hlive, if_neg (Nat.not_le.mpr hv)]
  have hflag (u : State) : (u.raise Ev.SENT_FLAGS_BURSTREF).flag Ev.SENT_FLAGS_BURSTREF = true := u.flag_raise _ (by decide) (by decide)
  refine ⟨by rw [hflag], ?_, ?_, ?_, ?_⟩
  · rw [State.raise_sentinel, State.put_sentinel, hcons]
  · rw [State.get_raise_other _ _ _ (by decide) (.inl (by decide)) (by decide), State.get_put_within _ _ _ (by decide)]
    exact Nat.mod_eq_of_lt v.isLt
  · rw [State.raise_now, State.put_now]
  · rw [State.raise_mem, State.put_mem]

end Sys2Proof.Machine

/-! SUPPORT. The sentinel's checkpoints, tamper inputs, wake sources, RTC and HV1, and the obligation (R467–R474, R477). -/
namespace Sys2Proof.Machine

set_option Elab.async false

/-! ### Checkpoints (R471) -/

theorem State.advance_sentinel (s : State) (k : Nat) : (s.advance k).sentinel = s.sentinel := by
  obtain ⟨b, p, h, -⟩ := s.advance_eq k
  rw [h]

theorem State.reachNow_sentinel (s : State) (t : Nat) : (s.reachNow t).sentinel = s.sentinel := s.advance_sentinel _

theorem State.reachNow_get (s : State) (t : Nat) (f : Fld) : (s.reachNow t).get f = s.get f := s.advance_get _ f

theorem State.reachNow_rdN (s : State) (t a : Nat) : (s.reachNow t).rdN a = s.rdN a := s.advance_rdN _ a

theorem State.reachNow_mem (s : State) (t : Nat) : (s.reachNow t).mem = s.mem := s.advance_mem _

theorem ledgerCheckpoint_answers (x : Nat) (s : State) (hset : s.settled) (hx : s.sentinel.checkpoint = some x)
    (hlive : s.sentinelLive = true) (hvin : s.vinPresent = false) (hroom : s.sentinel.queue.length < 4) : Answers .ledgerCheckpoint s fun t =>
    x ≤ t.now ∧ t.sentinel.checkpoint = some (x + max 1 (s.get Fd.SENT_CFG_CKINT) * 3600 * tSec) ∧
      t.sentinel.queue.length = s.sentinel.queue.length + 1 ∧ t.sentinel.queue.getLast?.map (·.typ) = some 4 ∧ t.mem = s.mem := by
  refine ⟨s.sentSettle.ledgerCheckpoint, rfl, ?_⟩
  rw [s.sentSettle_of_settled hset, State.ledgerCheckpoint, hx]
  dsimp only
  rw [if_pos (by rw [hlive, hvin]; rfl), State.checkpointGap]
  have hnow := s.le_reachNow_now x
  have hsent := s.reachNow_sentinel x
  have hckint := s.reachNow_get x Fd.SENT_CFG_CKINT
  have hmem := s.reachNow_mem x
  generalize s.reachNow x = r at hnow hsent hckint hmem ⊢
  have hroom' : r.sentinel.queue.length < 4 := by rw [hsent]; exact hroom
  refine ⟨?_, ?_, ?_, ?_, ?_⟩
  · rw [State.sentM_now, State.ledgerAdd_now]
    exact hnow
  · rw [State.sentM_sentinel, State.ledgerAdd_get _ _ _ hroom' _ (by decide), hckint]
  · rw [State.sentM_sentinel, State.ledgerAdd_queue _ _ _ hroom', List.length_append, List.length_singleton, hsent]
  · rw [State.sentM_sentinel, State.ledgerAdd_queue _ _ _ hroom', List.getLast?_concat]
    rfl
  · rw [State.sentM_mem, State.ledgerAdd_mem, hmem]

/-! ### Tamper inputs (R472) -/

theorem tamperFlag_regs (n : Fin 2) : (tamperFlag n).cnt ≠ (tamperFlag n).addr ∧ (tamperFlag n).bit < 32 := by
  unfold tamperFlag
  split <;> decide

theorem getLsbD_or_one_shift (m : BitVec 2) (n : Fin 2) : (m ||| (1#2 <<< n.val)).getLsbD n.val = true ∧
    ∀ j : Fin 2, j ≠ n → (m ||| (1#2 <<< n.val)).getLsbD j.val = m.getLsbD j.val := by
  revert m n
  decide

theorem getLsbD_and_not_one_shift (m : BitVec 2) (n : Fin 2) : (m &&& ~~~(1#2 <<< n.val)).getLsbD n.val = false ∧
    ∀ j : Fin 2, j ≠ n → (m &&& ~~~(1#2 <<< n.val)).getLsbD j.val = m.getLsbD j.val := by
  revert m n
  decide

theorem tamperEvent_answers (n : Fin 2) (b : Bool) (h : Nat) (s : State) (hset : s.settled) (hlive : s.sentinelLive = true)
    (hen : (s.get Fd.SENT_CFG_TAMPEN).testBit n.val = true) (hign : s.sentinel.ignored.getLsbD n.val = false)
    (hroom : s.sentinel.queue.length < 4) (hact : s.tamperActive n b = true) (hheld : 10 * tMs ≤ h) :
    Answers (.tamperEvent ⟨n, b, h⟩) s fun t =>
    t.flag (tamperFlag n) = true ∧ t.sentinel.ignored.getLsbD n.val = true ∧
      (∀ j : Fin 2, j ≠ n → t.sentinel.ignored.getLsbD j.val = s.sentinel.ignored.getLsbD j.val) ∧
      t.sentinel.queue = s.sentinel.queue ++ [s.entry 3 (2 ^ n.val)] ∧ t.now = s.now ∧ t.mem = s.mem := by
  refine ⟨s.sentSettle.tamperEvent n b h, rfl, ?_⟩
  rw [s.sentSettle_of_settled hset, State.tamperEvent, if_pos (by rw [hlive, hen, hign, hact, decide_eq_true hheld]; rfl)]
  have hqueue := s.ledgerAdd_queue 3 (2 ^ n.val) hroom
  have hignored : (s.ledgerAdd 3 (2 ^ n.val)).sentinel.ignored = s.sentinel.ignored :=
    State.ledgerAdd_same (fun u => u.sentinel.ignored) (fun _ _ => rfl) (fun u v => by rw [State.put_sentinel])
      (fun u => by rw [State.raise_sentinel]) s 3 _
  have hnow := s.ledgerAdd_now 3 (2 ^ n.val)
  have hmem := s.ledgerAdd_mem 3 (2 ^ n.val)
  generalize s.ledgerAdd 3 (2 ^ n.val) = r at hqueue hignored hnow hmem ⊢
  have hflag := r.flag_raise (tamperFlag n) (tamperFlag_regs n).1 (tamperFlag_regs n).2
  obtain ⟨hbit, hother⟩ := getLsbD_or_one_shift s.sentinel.ignored n
  refine ⟨?_, ?_, fun j hj => ?_, ?_, ?_, ?_⟩
  · rw [State.flag, State.on, State.sentM_get]
    exact hflag
  · rw [State.sentM_sentinel, State.raise_sentinel, hignored]
    exact hbit
  · rw [State.sentM_sentinel, State.raise_sentinel, hignored]
    exact hother j hj
  · rw [State.sentM_sentinel, State.raise_sentinel, hqueue]
  · rw [State.sentM_now, State.raise_now, hnow]
  · rw [State.sentM_mem, State.raise_mem, hmem]

theorem tamperEvent_ignored (n : Fin 2) (b : Bool) (h : Nat) (s : State) (hset : s.settled)
    (hno : s.sentinel.ignored.getLsbD n.val = true ∨ h < 10 * tMs ∨ s.tamperActive n b = false) :
    exec (.tamperEvent ⟨n, b, h⟩) s = .next s := by
  refine congrArg Host.Outcome.next (?_ : s.sentSettle.tamperEvent n b h = s)
  rw [s.sentSettle_of_settled hset, State.tamperEvent, if_neg]
  intro hall
  simp only [Bool.and_eq_true, Bool.not_eq_true', decide_eq_true_eq] at hall
  obtain ⟨⟨⟨-, hign⟩, hact⟩, hheld⟩ := hall
  obtain hyes | hshort | hoff := hno
  · rw [hign] at hyes
    cases hyes
  · omega
  · rw [hact] at hoff
    cases hoff

theorem tamperInputInactive_answers (n : Fin 2) (b : Bool) (h : Nat) (s : State) (hset : s.settled) (hlive : s.sentinelLive = true)
    (hoff : s.tamperActive n b = false) (hheld : 10 * tMs ≤ h) : Answers (.tamperInputInactive ⟨n, b, h⟩) s fun t =>
    t.sentinel.ignored.getLsbD n.val = false ∧
      (∀ j : Fin 2, j ≠ n → t.sentinel.ignored.getLsbD j.val = s.sentinel.ignored.getLsbD j.val) ∧
      t.sentinel.queue = s.sentinel.queue ∧ t.regs = s.regs ∧ t.mem = s.mem := by
  obtain ⟨hbit, hother⟩ := getLsbD_and_not_one_shift s.sentinel.ignored n
  refine ⟨s.sentSettle.tamperInactive n b h, rfl, ?_⟩
  rw [s.sentSettle_of_settled hset, State.tamperInactive, if_pos (by rw [hlive, hoff, decide_eq_true hheld]; rfl)]
  exact ⟨hbit, hother, rfl, rfl, rfl⟩

/-! ### The wake sources and the RTC (R473, R477) -/

theorem wakeInput_eq (s : State) (hset : s.settled) (hlive : s.sentinelLive = true) (hen : s.on Fd.SENT_CFG_WAKEEN = true) :
    exec .wakeInput s = .next { s with sentinel := { s.sentinel with pwrreq := true } } := by
  refine congrArg Host.Outcome.next (?_ : s.sentSettle.wakeInput = _)
  rw [s.sentSettle_of_settled hset, State.wakeInput, if_pos (by rw [hlive, hen]; rfl)]
  rfl

theorem sentinelAlarms_answer (s : State) (hset : s.settled) (hlive : s.sentinelLive = true) (hen : s.on Fd.SENT_CFG_ALARMEN = true)
    (hle : s.rtc ≤ s.alarm) : Answers .rtcAlarm s fun t =>
    t.sentinel.pwrreq = true ∧ t.sentinel.queue = s.sentinel.queue ∧ s.now ≤ t.now := by
  refine ⟨s.sentSettle.rtcAlarm, rfl, ?_⟩
  rw [s.sentSettle_of_settled hset, State.rtcAlarm, if_pos (by rw [hlive, hen, decide_eq_true hle]; rfl)]
  dsimp only
  refine ⟨?_, ?_, ?_⟩
  · rw [State.sentM_sentinel]
  · rw [State.sentM_sentinel, State.reachNow_sentinel]
  · rw [State.sentM_now, State.reachNow, State.advance_now]
    omega

/-- R477: with VIN the alarm value is loaded into the RTC. -/
theorem State.rtcLoad_of_vin (s : State) (t : Nat) (hlive : s.sentinelLive = true) (hvin : s.vinPresent = true) :
    s.rtcLoad t = ((s.rtcSet s.alarm true).sentM fun x => { x with rtcAt := t }).put Fd.SENT_STATUS_RTCVALID 1 := by
  rw [State.rtcLoad, hlive, hvin]
  exact if_pos rfl

theorem State.rtcSetLand_of_none (s : State) (h : s.sentinel.writes = []) :
    s.rtcSetLand = (s.reachNow (s.now + sentCrossing)).rtcLoad (s.reachNow (s.now + sentCrossing)).now := by
  have hset : (s.reachNow (s.now + sentCrossing)).settled := State.settled_of_none _ (by rw [State.reachNow_sentinel, h])
  rw [State.rtcSetLand, State.sentSettle_of_settled _ hset]

theorem rtcset_loads (s : State) (hnone : s.sentinel.writes = []) (hlive : s.sentinelLive = true) (hvin : s.vinPresent = true) :
    Answers .rtcset s fun t =>
    t.rtc = s.alarm % 2 ^ 48 ∧ t.get Fd.SENT_STATUS_RTCVALID = 1 ∧ s.now + sentCrossing ≤ t.now := by
  refine ⟨s.sentSettle.rtcSetLand, rfl, ?_⟩
  rw [s.sentSettle_of_settled (s.settled_of_none hnone), s.rtcSetLand_of_none hnone]
  have hsent := s.reachNow_sentinel (s.now + sentCrossing)
  have hget := s.reachNow_get (s.now + sentCrossing)
  have hrdN := s.reachNow_rdN (s.now + sentCrossing)
  have hnow := s.le_reachNow_now (s.now + sentCrossing)
  generalize s.reachNow (s.now + sentCrossing) = r at hsent hget hrdN hnow ⊢
  have hlive' : r.sentinelLive = true := by rw [← hlive, State.sentinelLive, State.sentinelLive, hsent, State.on, State.on, hget]
  have hvin' : r.vinPresent = true := by rw [← hvin, State.vinPresent, State.vinPresent, State.on, State.on, hget]
  have halarm : r.alarm = s.alarm := by rw [State.alarm, State.alarm, hrdN, hget]
  rw [r.rtcLoad_of_vin _ hlive' hvin', halarm, State.rtcSet]
  refine ⟨?_, ?_, ?_⟩
  · rw [State.rtc, State.put_sentinel, State.sentM_sentinel, State.sentM_sentinel, State.put_now, State.sentM_now, State.sentM_now]
    exact (if_pos rfl).trans (by rw [Nat.sub_self, Nat.zero_mul, Nat.zero_div, Nat.add_zero, Nat.mod_mod])
  · rw [State.get_put_within _ _ _ (by decide)]
    rfl
  · rw [State.put_now, State.sentM_now, State.sentM_now]
    exact hnow

theorem rtcset_refused (s : State) (hnone : s.sentinel.writes = []) (hvin : s.vinPresent = false) : Answers .rtcset s fun t =>
    t.sentinel = s.sentinel ∧ t.get Fd.SENT_STATUS_RTCVALID = s.get Fd.SENT_STATUS_RTCVALID ∧ s.now + sentCrossing ≤ t.now := by
  refine ⟨s.sentSettle.rtcSetLand, rfl, ?_⟩
  rw [s.sentSettle_of_settled (s.settled_of_none hnone), s.rtcSetLand_of_none hnone]
  have hvin' : (s.reachNow (s.now + sentCrossing)).vinPresent = false := by
    rw [← hvin, State.vinPresent, State.vinPresent, State.on, State.on, State.reachNow_get]
  rw [State.rtcLoad, hvin', Bool.and_false, if_neg (by decide)]
  exact ⟨s.reachNow_sentinel _, s.reachNow_get _ _, s.le_reachNow_now _⟩

/-! ### HV1 (R468) -/

theorem hv1Sample_answers (v : BitVec 16) (s : State) (hset : s.settled) (hrun : s.sentinel.running = true)
    (hen : s.on Fd.SENT_CFG_HV1EN = true) : Answers (.hv1Sample v) s fun t =>
    t.sentinel.hv1Mv = v.toNat * s.get Fd.SENT_HV1_FRAC / 100 ∧ t.sentinel.hv1At = max s.now (s.sentinel.hv1At + 8 * tSec) ∧
      t.sentinel.hv1At + 50 * tMs ≤ t.now := by
  refine ⟨s.sentSettle.hv1Sample v.toNat, rfl, ?_⟩
  rw [s.sentSettle_of_settled hset, State.hv1Sample, if_pos (by rw [hrun, hen]; rfl)]
  dsimp only
  refine ⟨?_, ?_, ?_⟩
  · rw [State.sentM_sentinel]
  · rw [State.sentM_sentinel]
  · rw [State.sentM_sentinel, State.sentM_now]
    exact s.le_reachNow_now _

/-! ### Register writes (R474) -/

/-- R474: the one write on its way takes effect once its time has come. -/
theorem State.sentSettle_of_single (s : State) (t a : Nat) (v : Word) (h : s.sentinel.writes = [(t, a, v)]) (hdue : t ≤ s.now) :
    s.sentSettle = (s.sentM fun x => { x with writes := [] }).sentWrite t a v := by
  have hfirst : s.sentinel.writes.filter (fun w => decide (w.1 ≤ s.now)) = [(t, a, v)] := by
    rw [h, List.filter_cons_of_pos (by simpa using hdue), List.filter_nil]
  have hrest : s.sentinel.writes.filter (fun w => decide (s.now < w.1)) = [] := by
    rw [h, List.filter_cons_of_neg (by simpa using hdue), List.filter_nil]
  rw [State.sentSettle, hfirst, State.sentM, hrest]
  rfl

/-- SENT_ALARM_LO takes every bit that is written. -/
theorem alarmLo_row : regRow Reg.SENT_ALARM_LO = some ⟨0x40100018, 0x4, 1, 0x4, 1, 0x4, 1, 0x0, 0xffffffff, 0x0, 0x0, 0x0, .plain⟩ := by
  decide +kernel

theorem RegRow.written_all (r : RegRow) (hrw : r.rw = 2 ^ 32 - 1) (hw1c : r.w1c = 0) (hw1s : r.w1s = 0) {old v : Nat} (hold : old < 2 ^ 32)
    (hv : v < 2 ^ 32) (keep : Nat) : r.written old v keep = v := by
  have hfull {x : Nat} (hx : x < 2 ^ 32) : x &&& (2 ^ 32 - 1) = x := by rw [Nat.and_two_pow_sub_one_eq_mod, Nat.mod_eq_of_lt hx]
  have hself : v ||| (v &&& keep) = v := Nat.eq_of_testBit_eq fun i => by simpa using fun h _ => h
  unfold RegRow.written
  dsimp only
  rw [hrw, hw1c, hw1s, hfull hold, hfull hv, Nat.xor_self, Nat.zero_or, Nat.and_zero, Nat.and_zero, Nat.xor_zero, hself, Nat.or_zero]

theorem State.sentWrite_alarmLo (s : State) (t : Nat) (v : Word) : (s.sentWrite t Reg.SENT_ALARM_LO v).rd Reg.SENT_ALARM_LO = v := by
  rw [State.sentWrite, if_neg (by decide), if_neg (by decide), if_neg (by decide), if_neg (by decide), State.plainWrite, alarmLo_row]
  dsimp only
  rw [State.rdN, RegRow.written_all _ rfl rfl rfl (s.rd Reg.SENT_ALARM_LO).isLt v.isLt, State.wrN, State.rd_wr, if_pos rfl, BitVec.ofNat_toNat, BitVec.setWidth_eq]

theorem sentPost_alarmLo (v : Word) (s : State) (hnone : s.sentinel.writes = []) :
    (s.sentPost Reg.SENT_ALARM_LO v).rd Reg.SENT_ALARM_LO = s.rd Reg.SENT_ALARM_LO ∧
      ({ s.sentPost Reg.SENT_ALARM_LO v with now := s.now + sentCrossing }).sentSettle.rd Reg.SENT_ALARM_LO = v := by
  have hpost : s.sentPost Reg.SENT_ALARM_LO v =
      s.sentM fun x => { x with writes := x.writes ++ [(s.now + sentCrossing, Reg.SENT_ALARM_LO, v)] } := by
    rw [State.sentPost, s.sentSettle_of_settled (s.settled_of_none hnone)]
  have hwrites : (s.sentPost Reg.SENT_ALARM_LO v).sentinel.writes = [(s.now + sentCrossing, Reg.SENT_ALARM_LO, v)] := by
    rw [hpost, State.sentM_sentinel, hnone, List.nil_append]
  have hrd : (s.sentPost Reg.SENT_ALARM_LO v).rd Reg.SENT_ALARM_LO = s.rd Reg.SENT_ALARM_LO := by rw [hpost, State.sentM_rd]
  generalize s.sentPost Reg.SENT_ALARM_LO v = u at hwrites hrd ⊢
  refine ⟨hrd, ?_⟩
  exact (congrArg (fun w : State => w.rd Reg.SENT_ALARM_LO)
    (State.sentSettle_of_single { u with now := s.now + sentCrossing } _ _ _ hwrites (Nat.le_refl _))).trans (State.sentWrite_alarmLo _ _ _)

/-- Settles O56. -/
theorem sentinelAndLedger : Obligations.SentinelAndLedger := by
  unfold Obligations.SentinelAndLedger
  exact ⟨sentinelStart_answers, sentinelStop_answers, sentinelVinLoss_answers, sentinelVinReturn_answers, longDarkness_vbat,
    longDarkness_cutOff, sentinelResume_answers, ledgerBurst_whole, ledgerBurst_refused, ledgerCheckpoint_answers, tamperEvent_answers,
    fun n b h s hset _ hno => tamperEvent_ignored n b h s hset hno, tamperInputInactive_answers, wakeInput_eq, sentinelAlarms_answer,
    rtcset_loads, rtcset_refused, hv1Sample_answers, sentPost_alarmLo⟩

end Sys2Proof.Machine

/-! SUPPORT. Ethernet's registers and rings (R418–R420): what a received frame's delivery leaves. -/
namespace Sys2Proof.Machine

set_option Elab.async false

/-! ### Counters and flags -/

theorem State.rd_inc32_same (s : State) (a : Nat) : (s.inc32 a).rd a = s.rd a + 1 := by
  rw [State.inc32, State.wrN, State.rd_wr, if_pos rfl, State.rdN]
  exact BitVec.eq_of_toNat_eq (by simp)

theorem State.rd_inc32_other (s : State) (a c : Nat) (h : c ≠ a) : (s.inc32 a).rd c = s.rd c := by
  rw [State.inc32, State.wrN, State.rd_wr, if_neg h]

theorem State.get_inc32_other (s : State) (a : Nat) (f : Fld) (h : f.addr ≠ a) : (s.inc32 a).get f = s.get f := by
  rw [State.get, State.get, State.rdN, State.rdN, s.rd_inc32_other a _ h]

theorem State.inc32_sameRegistersBut (s : State) (a : Nat) : SameRegistersBut [a] s (s.inc32 a) :=
  fun c hc => s.rd_inc32_other a c (by simpa using hc)

/-- A flag of ETH_FLAGS: its counter stands below the ports' registers. -/
def EthFlag (e : EvFlag) : Prop := e.addr = Reg.ETH_FLAGS ∧ e.bit < 32 ∧ 0x400c0040 ≤ e.cnt ∧ e.cnt < 0x400c0080

theorem EthFlag.rd {e : EvFlag} (h : EthFlag e) (s : State) {a : Nat} (ha : 0x400c0100 ≤ a) : (s.raise e).rd a = s.rd a := by
  obtain ⟨haddr, -, -, hcnt⟩ := h
  refine s.rd_raise_other e a ?_ (by omega)
  rw [haddr, Reg.ETH_FLAGS]
  omega

theorem EthFlag.get {e : EvFlag} (h : EthFlag e) (s : State) {f : Fld} (ha : 0x400c0100 ≤ f.addr) : (s.raise e).get f = s.get f := by
  rw [State.get, State.get, State.rdN, State.rdN, h.rd s ha]

theorem EthFlag.flag {e : EvFlag} (h : EthFlag e) (s : State) : (s.raise e).flag e = true := by
  obtain ⟨haddr, hbit, hcnt, -⟩ := h
  refine s.flag_raise e ?_ hbit
  rw [haddr, Reg.ETH_FLAGS]
  omega

theorem portFlag_eth (p : Fin 2) {a b : EvFlag} (ha : EthFlag a) (hb : EthFlag b) : EthFlag (portFlag p a b) := by
  unfold portFlag
  split
  · exact ha
  · exact hb

/-! ### Bytes in memory -/

theorem State.memBytes_eq (l : List Nat) : ∀ (s : State) (a : Nat), s.memBytes a l = { s with mem := (s.memBytes a l).mem } := by
  induction l with
  | nil => intro s a; rfl
  | cons b l ih => intro s a; exact ih (s.memWr a 1 b) (a + 1)

theorem Memory.read_memBytes_outside (l : List Nat) : ∀ (s : State) (a c : Nat), (c < a ∨ a + l.length ≤ c) →
    Memory.read (s.memBytes a l).mem c = Memory.read s.mem c := by
  induction l with
  | nil => intros; rfl
  | cons b l ih =>
    intro s a c h
    rw [List.length_cons] at h
    rw [State.memBytes, ih _ _ _ (by omega)]
    exact Memory.read_writeLE_of_outside 1 s.mem a b c (by omega)

theorem Memory.read_memBytes_inside (l : List Nat) : ∀ (s : State) (a i : Nat), i < l.length →
    Memory.read (s.memBytes a l).mem (a + i) = BitVec.ofNat 8 (l.getD i 0) := by
  induction l with
  | nil => intro _ _ _ h; cases h
  | cons b l ih =>
    intro s a i h
    rw [State.memBytes]
    cases i with
    | zero =>
      rw [Memory.read_memBytes_outside l _ _ _ (by omega)]
      exact (Memory.read_writeLE_of_inside 1 s.mem a b 0 (by decide)).trans (by simp)
    | succ i =>
      rw [show a + (i + 1) = a + 1 + i by omega, ih _ _ _ (by simpa using h), List.getD_cons_succ]

/-! ### A frame goes to a ring (R419, R420) -/

/-- The receive descriptor at RXIDX. -/
def State.rxDesc (s : State) (q : Fin 2) : Nat := s.rdN (Reg.ETH_P_RXBASE q) / 16 * 16 + 16 * s.get (Fd.ETH_P_RXIDX_IDX q)

/-- R419: with OWN = 0 the frame is dropped. -/
theorem State.ringWrite_of_empty (s : State) (q : Fin 2) (f : List Nat) (x : RxInfo) (h : s.memRd (s.rxDesc q) 4 < 2 ^ 31) :
    s.ringWrite q f x = (s.inc32 (Reg.ETH_P_RXDROP q)).raise (portFlag q Ev.ETH_FLAGS_RXEMPTY0 Ev.ETH_FLAGS_RXEMPTY1) := if_pos h

theorem State.memWr_get' (s : State) (a n v : Nat) (f : Fld) : (s.memWr a n v).get f = s.get f := rfl

/-- The state after a free value has been taken. -/
def State.freed (s : State) : State := { s with free := s.free + 1 }

theorem State.fresh_eq (s : State) : s.fresh = (Config.freeWord s.free, s.freed) := rfl

/-- R420: the bytes go to the buffer, two words beside the descriptor's first say nothing, and the first is written back. -/
theorem State.ringWrite_of_owned (s : State) (q : Fin 2) (f : List Nat) (p : Nat) (h : ¬ s.memRd (s.rxDesc q) 4 < 2 ^ 31)
    (hin : inSram (s.memRd (s.rxDesc q + 4) 4) f.length = true) :
    ∃ u : State, s.ringWrite q f ⟨false, 0, p, none⟩ = ((((u.memWr (s.rxDesc q) 4 (f.length % 65536 + p * 2 ^ 17)).put
        (Fd.ETH_P_RXIDX_IDX q) ((s.get (Fd.ETH_P_RXIDX_IDX q) + 1) % max 1 (s.get (Fd.ETH_P_RXCNT_COUNT q)))).inc32
        (Reg.ETH_P_RXFRM q)).raise (portFlag q Ev.ETH_FLAGS_RXD0 Ev.ETH_FLAGS_RXD1)) ∧
      u.regs = s.regs ∧ u.now = s.now ∧
      (∀ c, (c < s.rxDesc q + 8 ∨ s.rxDesc q + 16 ≤ c) → Memory.read u.mem c = Memory.read (s.memBytes (s.memRd (s.rxDesc q + 4) 4) f).mem c) := by
  have hb := State.memBytes_eq f s (s.memRd (s.rxDesc q + 4) 4)
  unfold State.ringWrite
  dsimp only
  rw [← State.rxDesc, if_neg h, if_pos hin]
  generalize s.memRd (s.rxDesc q + 4) 4 = buf at hb ⊢
  generalize s.memBytes buf f = b at hb ⊢
  have hregs : b.freed.freed.regs = s.regs := by rw [hb]; rfl
  have hget (x : Fld) : b.freed.freed.get x = s.get x := by simp only [State.get, State.rdN, State.rd, hregs]
  have hnow : b.freed.freed.now = s.now := by rw [hb]; rfl
  have hmem : b.freed.freed.mem = b.mem := rfl
  simp only [Bool.false_eq_true, if_false, State.fresh_eq, Bool.toNat_false, Nat.zero_mul, Nat.add_zero, State.ethM_get, State.memWr_get']
  generalize b.freed.freed = c at hregs hget hnow hmem ⊢
  rw [hget]
  refine ⟨_, rfl, by rw [State.ethM_regs, State.memWr_regs, State.memWr_regs, hregs],
    by rw [State.ethM_now, State.memWr_now, State.memWr_now, hnow], fun a ha => ?_⟩
  rw [State.ethM_mem, ← hmem]
  exact ((c.memWr_sameMemoryBut (s.rxDesc q + 8) 4 _ |>.widen (c := s.rxDesc q + 8) (k := 8) (by omega) (by omega)).trans
    ((State.memWr_sameMemoryBut _ (s.rxDesc q + 12) 4 _).widen (by omega) (by omega))) a (by omega)

end Sys2Proof.Machine

/-! SUPPORT. A frame arrives at an Ethernet port (R418–R420). -/
namespace Sys2Proof.Machine

set_option Elab.async false

theorem State.ethM_memRd (s : State) (f : Eth → Eth) (a n : Nat) : (s.ethM f).memRd a n = s.memRd a n := rfl

theorem State.ethM_rxDesc (s : State) (f : Eth → Eth) (q : Fin 2) : (s.ethM f).rxDesc q = s.rxDesc q := rfl

/-- What is sent is cleared as a frame event begins. -/
def State.ethBegin (s : State) : State := s.ethM fun e => { e with sent := [] }

/-- R423: a frame that is neither PTP nor GOOSE goes to the ring without a stamp. -/
theorem State.ethDeliver_plain (s : State) (p q : Fin 2) (f : List Nat) (hptp : beAt f (typeAt f) 2 ≠ 0x88F7)
    (hgoose : beAt f (typeAt f) 2 ≠ 0x88B8) : s.ethDeliver p q f = s.ringWrite q f ⟨false, 0, p.val, none⟩ := by
  simp [State.ethDeliver, hptp, hgoose, State.raiseIf]

/-- R420: a frame that a port drops as damaged. -/
theorem State.ethReceive_bad (s : State) (p : Fin 2) (f : List Nat) (bad : Bool) (r : Nat) (hlive : s.portLive p = true)
    (hen : s.on (Fd.ETH_P_CTRL_RXEN p) = true) (htag : s.tagFree 11 = true) (hbad : bad = true ∨ f.length < 60 ∨ 1532 < f.length) :
    s.ethReceive p f bad r = s.ethBegin.ethBad p := by
  unfold State.ethReceive
  rw [if_neg (by simp [hlive, hen, htag])]
  refine if_pos ?_
  simp only [Bool.or_eq_true, decide_eq_true_eq]
  tauto

/-- R420: with REDMODE = 0 a good frame that the port takes goes to its own ring. -/
theorem State.ethReceive_plain (s : State) (p : Fin 2) (f : List Nat) (r : Nat) (hlive : s.portLive p = true)
    (hen : s.on (Fd.ETH_P_CTRL_RXEN p) = true) (htag : s.tagFree 11 = true) (hmode : s.get Fd.ETH_CFG_REDMODE = 0) (hmin : 60 ≤ f.length)
    (hmax : f.length ≤ 1532) (hsize : f.length ≤ s.get (Fd.ETH_P_RXBUFSZ_SIZE p)) (hall : s.on (Fd.ETH_P_CTRL_PROMISC p) = true)
    (hpause : beAt f (typeAt f) 2 ≠ 0x8808) (hgoose : beAt f (typeAt f) 2 ≠ 0x88B8) (hptp : beAt f (typeAt f) 2 ≠ 0x88F7) :
    s.ethReceive p f false r = s.ethBegin.ringWrite p f ⟨false, 0, p.val, none⟩ := by
  have hmode' : s.ethBegin.redMode = 0 := hmode
  have hall' : s.ethBegin.on (Fd.ETH_P_CTRL_PROMISC p) = true := hall
  have hsize' : ¬ s.ethBegin.get (Fd.ETH_P_RXBUFSZ_SIZE p) < f.length := Nat.not_lt.mpr hsize
  unfold State.ethReceive
  rw [if_neg (by simp [hlive, hen, htag])]
  rw [← State.ethBegin]
  generalize s.ethBegin = b at hmode' hall' hsize' ⊢
  dsimp only
  rw [hmode', if_pos rfl, hall']
  have hgood : ¬ (false || decide (f.length < 60) || decide (1532 < f.length) || decide (b.get (Fd.ETH_P_RXBUFSZ_SIZE p) < f.length)) = true := by
    simp only [Bool.or_eq_true, decide_eq_true_eq, Bool.false_eq_true, false_or]
    omega
  rw [if_neg hgood, if_neg hpause, if_neg (by simp)]
  simp only [frameSeq, Nat.zero_ne_one, OfNat.zero_ne_ofNat, if_false, Bool.true_or, if_true, Bool.false_eq_true]
  exact b.ethDeliver_plain p p f hptp hgoose

/-! ### The rings' answers -/

theorem rxd_eth (p : Fin 2) : EthFlag (portFlag p Ev.ETH_FLAGS_RXD0 Ev.ETH_FLAGS_RXD1) := portFlag_eth p (by unfold EthFlag; decide) (by unfold EthFlag; decide)

theorem rxEmpty_eth (p : Fin 2) : EthFlag (portFlag p Ev.ETH_FLAGS_RXEMPTY0 Ev.ETH_FLAGS_RXEMPTY1) := portFlag_eth p (by unfold EthFlag; decide) (by unfold EthFlag; decide)

theorem State.ringWrite_empty_leaves (s : State) (p : Fin 2) (f : List Nat) (x : RxInfo) (h : s.memRd (s.rxDesc p) 4 < 2 ^ 31) :
    let t := s.ringWrite p f x
    t.rd (Reg.ETH_P_RXDROP p) = s.rd (Reg.ETH_P_RXDROP p) + 1 ∧
      t.flag (portFlag p Ev.ETH_FLAGS_RXEMPTY0 Ev.ETH_FLAGS_RXEMPTY1) = true ∧ t.rd (Reg.ETH_P_RXFRM p) = s.rd (Reg.ETH_P_RXFRM p) ∧
      t.mem = s.mem := by
  dsimp only
  rw [s.ringWrite_of_empty p f x h]
  refine ⟨?_, (rxEmpty_eth p).flag _, ?_, ?_⟩
  · rw [(rxEmpty_eth p).rd _ (by unfold Reg.ETH_P_RXDROP; omega), State.rd_inc32_same]
  · rw [(rxEmpty_eth p).rd _ (by unfold Reg.ETH_P_RXFRM; omega), State.rd_inc32_other _ _ _ (by unfold Reg.ETH_P_RXFRM Reg.ETH_P_RXDROP; omega)]
  · rw [State.raise_mem, State.inc32_mem]

theorem State.ringWrite_owned_leaves (s : State) (p : Fin 2) (l : List Byte) (i : Nat) (hmax : l.length ≤ 1532)
    (howned : 2 ^ 31 ≤ s.memRd (s.rxDesc p) 4) (hin : inSram (s.memRd (s.rxDesc p + 4) 4) l.length = true)
    (hapart : s.memRd (s.rxDesc p + 4) 4 + l.length ≤ s.rxDesc p ∨ s.rxDesc p + 16 ≤ s.memRd (s.rxDesc p + 4) 4) (hi : i < l.length) :
    let t := s.ringWrite p (l.map BitVec.toNat) ⟨false, 0, p.val, none⟩
    Memory.read t.mem (s.memRd (s.rxDesc p + 4) 4 + i) = l.getD i 0 ∧ t.memRd (s.rxDesc p) 4 = l.length + p.val * 2 ^ 17 ∧
      t.get (Fd.ETH_P_RXIDX_IDX p) = (s.get (Fd.ETH_P_RXIDX_IDX p) + 1) % max 1 (s.get (Fd.ETH_P_RXCNT_COUNT p)) % 2 ^ (Fd.ETH_P_RXIDX_IDX p).w ∧
      t.rd (Reg.ETH_P_RXFRM p) = s.rd (Reg.ETH_P_RXFRM p) + 1 ∧
      t.flag (portFlag p Ev.ETH_FLAGS_RXD0 Ev.ETH_FLAGS_RXD1) = true ∧ t.now = s.now := by
  dsimp only
  obtain ⟨u, hu, hregs, hnow, hmem⟩ := s.ringWrite_of_owned p (l.map BitVec.toNat) p.val (Nat.not_lt.mpr howned) (by rw [List.length_map]; exact hin)
  rw [hu, List.length_map]
  clear hu
  have hbyte := Memory.read_memBytes_inside (l.map BitVec.toNat) s (s.memRd (s.rxDesc p + 4) 4) i (by rw [List.length_map]; exact hi)
  have hdesc : (l.length % 65536 + p.val * 2 ^ 17) % 2 ^ 32 = l.length + p.val * 2 ^ 17 := by omega
  generalize s.memRd (s.rxDesc p + 4) 4 = buf at hapart hmem hbyte ⊢
  generalize s.rxDesc p = d at hapart hmem ⊢
  generalize (s.get (Fd.ETH_P_RXIDX_IDX p) + 1) % max 1 (s.get (Fd.ETH_P_RXCNT_COUNT p)) = next
  refine ⟨?_, ?_, ?_, ?_, (rxd_eth p).flag _, ?_⟩
  · rw [State.raise_mem, State.inc32_mem, State.put_mem, u.memWr_sameMemoryBut d 4 _ _ (by omega), hmem _ (by omega), hbyte,
      List.getD_eq_getElem _ _ (by rw [List.length_map]; exact hi), List.getElem_map, List.getD_eq_getElem _ _ hi, BitVec.ofNat_toNat,
      BitVec.setWidth_eq]
  · rw [State.memRd_of_mem_eq (show _ = (u.memWr d 4 (l.length % 65536 + p.val * 2 ^ 17)).mem by rw [State.raise_mem, State.inc32_mem, State.put_mem]),
      State.memRd_memWr_word, hdesc]
  · rw [(rxd_eth p).get _ (by simp only [Fd.ETH_P_RXIDX_IDX, Reg.ETH_P_RXIDX]; omega),
      State.get_inc32_other _ _ _ (by simp only [Fd.ETH_P_RXIDX_IDX, Reg.ETH_P_RXIDX, Reg.ETH_P_RXFRM]; omega),
      State.get_put_within _ _ _ (show 0 + 8 ≤ 32 by decide)]
  · rw [(rxd_eth p).rd _ (by unfold Reg.ETH_P_RXFRM; omega), State.rd_inc32_same,
      State.rd_put_other _ _ _ _ (by simp only [Fd.ETH_P_RXIDX_IDX, Reg.ETH_P_RXIDX, Reg.ETH_P_RXFRM]; omega), State.rd, State.memWr_regs, hregs]
    rfl
  · rw [State.raise_now, State.inc32_now, State.put_now, State.memWr_now, hnow]

end Sys2Proof.Machine

/-! SUPPORT. Ethernet's transmission, timed events, sampled values and in-band status, and the obligation (R418–R427). -/
namespace Sys2Proof.Machine

set_option Elab.async false

/-! ### Reception: the answers -/

theorem State.ethBegin_rd (s : State) (a : Nat) : s.ethBegin.rd a = s.rd a := rfl
theorem State.ethBegin_mem (s : State) : s.ethBegin.mem = s.mem := rfl
theorem State.ethBegin_now (s : State) : s.ethBegin.now = s.now := rfl
theorem State.ethBegin_get (s : State) (f : Fld) : s.ethBegin.get f = s.get f := rfl
theorem State.ethBegin_memRd (s : State) (a n : Nat) : s.ethBegin.memRd a n = s.memRd a n := rfl
theorem State.ethBegin_rxDesc (s : State) (q : Fin 2) : s.ethBegin.rxDesc q = s.rxDesc q := rfl

theorem frmErr_eth : EthFlag Ev.ETH_FLAGS_FRMERR := by
  unfold EthFlag
  decide

theorem ethFrameReceive_bad (p : Fin 2) (l : List Byte) (b : Bool) (w : Word) (s : State) (hlive : s.portLive p = true)
    (hen : s.on (Fd.ETH_P_CTRL_RXEN p) = true) (htag : s.tagFree 11 = true) (hbad : b = true ∨ l.length < 60 ∨ 1532 < l.length) :
    Answers (.ethFrameReceive p l b w) s fun t =>
    t.rd (Reg.ETH_P_RXDROP p) = s.rd (Reg.ETH_P_RXDROP p) + 1 ∧ t.flag Ev.ETH_FLAGS_FRMERR = true ∧
      SameRegistersBut [Reg.ETH_P_RXDROP p, Reg.ETH_FLAGS, Ev.ETH_FLAGS_FRMERR.cnt] s t ∧ t.mem = s.mem := by
  refine ⟨s.ethReceive p (l.map BitVec.toNat) b w.toNat, rfl, ?_⟩
  rw [s.ethReceive_bad p _ b _ hlive hen htag (by rwa [List.length_map]), State.ethBad]
  refine ⟨?_, frmErr_eth.flag _, fun a ha => ?_, ?_⟩
  · rw [frmErr_eth.rd _ (by unfold Reg.ETH_P_RXDROP; omega), State.rd_inc32_same, State.ethBegin_rd]
  · simp only [List.mem_cons, List.not_mem_nil, or_false, not_or] at ha
    obtain ⟨hdrop, hflags, hcnt⟩ := ha
    rw [State.rd_raise_other _ _ _ hflags hcnt, State.rd_inc32_other _ _ _ hdrop, State.ethBegin_rd]
  · rw [State.raise_mem, State.inc32_mem, State.ethBegin_mem]

/-! ### Transmission (R419) -/

/-- The transmit descriptor at TXIDX. -/
def State.txDesc (s : State) (p : Fin 2) : Nat := s.rdN (Reg.ETH_P_TXBASE p) / 16 * 16 + 16 * s.get (Fd.ETH_P_TXIDX_IDX p)

theorem State.memRd_lt (s : State) (a n : Nat) : s.memRd a n < 256 ^ n := by
  rw [State.memRd]
  induction n generalizing a with
  | zero => exact Nat.one_pos
  | succ n ih =>
    have hbyte : (Memory.read s.mem a).toNat < 256 := (Memory.read s.mem a).isLt
    have hrest := ih (a + 1)
    rw [Memory.readLE, pow_succ]
    omega

theorem testBit_31_of_word {x : Nat} (h : x < 2 ^ 32) : decide (2 ^ 31 ≤ x) = x.testBit 31 := by
  rw [Nat.testBit_eq_decide_div_mod_eq]
  refine decide_eq_decide.mpr ?_
  omega

/-- R419: OWN of the descriptor at TXIDX decides whether the transmitter has a frame. -/
theorem State.txFetch_sending (s : State) (p : Fin 2) : (s.txFetch p).eth.sending[p] = (s.memRd (s.txDesc p) 4).testBit 31 := by
  rw [← testBit_31_of_word (s.memRd_lt (s.txDesc p) 4)]
  exact Vector.getElem_set_self _

theorem State.txFetch_frame (s : State) (p : Fin 2) : ∃ g, s.txFetch p = s.ethM g ∧ ∀ e, (g e).sent = e.sent :=
  ⟨fun e => { e with sending := e.sending.set p (decide (2 ^ 31 ≤ s.memRd (s.txDesc p) 4)), svFirst := e.svFirst.set p (s.svWaits p) }, rfl,
    fun _ => rfl⟩

theorem ethTxKick_answers (p : Fin 2) (s : State) (hlive : s.portLive p = true) (hen : s.on (Fd.ETH_P_CTRL_TXEN p) = true)
    (hidle : s.eth.sending[p] = false) (hmode : s.get Fd.ETH_CFG_REDMODE = 0) (htag : s.tagFree 11 = true) : Answers (.ethTxKick p) s fun t =>
    t.eth.sending[p] = (s.memRd (s.txDesc p) 4).testBit 31 ∧ t.regs = s.regs ∧ t.mem = s.mem := by
  refine ⟨s.txKick p, rfl, ?_⟩
  have hcond : (s.portLive p && s.on (Fd.ETH_P_CTRL_TXEN p) && !s.eth.sending[p] && !(s.redMode != 0 && p == 1)) = true := by
    rw [hlive, hen, hidle, show s.redMode = 0 from hmode]
    rfl
  rw [State.txKick, if_pos hcond, if_pos htag]
  exact ⟨s.txFetch_sending p, rfl, rfl⟩

theorem txd_eth (p : Fin 2) : EthFlag (portFlag p Ev.ETH_FLAGS_TXD0 Ev.ETH_FLAGS_TXD1) :=
  portFlag_eth p (by unfold EthFlag; decide) (by unfold EthFlag; decide)

/-- R419: the frame of the fetched descriptor has left without a stamp: the descriptor comes back without OWN. -/
theorem State.txComplete_plain (s : State) (p : Fin 2) (hlive : s.portLive p = true) (hsend : s.eth.sending[p] = true)
    (hfirst : s.eth.svFirst[p] = false) (htag : s.tagFree 11 = true) (hen : s.on (Fd.ETH_P_CTRL_TXEN p) = true)
    (hmode : s.get Fd.ETH_CFG_REDMODE = 0) (hreq : (s.memRd (s.txDesc p) 4).testBit 16 = false) :
    ∃ next, s.txComplete p = ((((((s.ethM fun e => { e with sent := [(p.val, s.memList (s.memRd (s.txDesc p + 4) 4)
        (s.memRd (s.txDesc p) 4 % 65536))] }).memWr (s.txDesc p) 4 (paste (s.memRd (s.txDesc p) 4 % 2 ^ 31) 17 1 0)).put
        (Fd.ETH_P_TXIDX_IDX p) next).inc32 (Reg.ETH_P_TXFRM p)).raise (portFlag p Ev.ETH_FLAGS_TXD0 Ev.ETH_FLAGS_TXD1)).txFetch p) := by
  have hout (f : List Nat) : s.ethBegin.ethSendOut p.val f = s.ethM fun e => { e with sent := [(p.val, f)] } := by
    have hmode' : s.ethBegin.redMode = 0 := hmode
    have hlive' : s.ethBegin.portLive p = true := hlive
    have hen' : s.ethBegin.on (Fd.ETH_P_CTRL_TXEN p) = true := hen
    have hfin : Fin.ofNat 2 p.val = p := by simp
    rw [State.ethSendOut]
    dsimp only
    rw [if_pos hmode', State.ethOut, hfin, hlive', hen']
    rfl
  unfold State.txComplete
  rw [if_neg (by simp [hlive, hsend, hfirst, htag]), ← State.ethBegin]
  dsimp only
  have hdesc : s.ethBegin.rdN (Reg.ETH_P_TXBASE p) / 16 * 16 + 16 * s.ethBegin.get (Fd.ETH_P_TXIDX_IDX p) = s.txDesc p := rfl
  rw [hdesc, s.ethBegin_memRd (s.txDesc p) 4, hreq, State.ethBegin_memRd]
  have hlist (a n : Nat) : s.ethBegin.memList a n = s.memList a n := rfl
  rw [hlist, hout]
  simp only [Bool.false_and, Bool.toNat_false, Bool.false_eq_true, if_false, State.raiseIf]
  exact ⟨_, rfl⟩

theorem ethTxComplete_answers (p : Fin 2) (s : State) (hlive : s.portLive p = true) (hsend : s.eth.sending[p] = true)
    (hfirst : s.eth.svFirst[p] = false) (htag : s.tagFree 11 = true) (hen : s.on (Fd.ETH_P_CTRL_TXEN p) = true)
    (hmode : s.get Fd.ETH_CFG_REDMODE = 0) (hreq : (s.memRd (s.txDesc p) 4).testBit 16 = false) : Answers (.ethTxComplete p) s fun t =>
    t.eth.sent = [(p.val, s.memList (s.memRd (s.txDesc p + 4) 4) (s.memRd (s.txDesc p) 4 % 65536))] ∧
      (t.memRd (s.txDesc p) 4).testBit 31 = false ∧ SameMemoryBut (s.txDesc p) 4 s t ∧
      t.rd (Reg.ETH_P_TXFRM p) = s.rd (Reg.ETH_P_TXFRM p) + 1 ∧ t.flag (portFlag p Ev.ETH_FLAGS_TXD0 Ev.ETH_FLAGS_TXD1) = true := by
  refine ⟨s.txComplete p, rfl, ?_⟩
  obtain ⟨next, hnext⟩ := s.txComplete_plain p hlive hsend hfirst htag hen hmode hreq
  rw [hnext]
  clear hnext
  generalize s.memList (s.memRd (s.txDesc p + 4) 4) (s.memRd (s.txDesc p) 4 % 65536) = f
  have hword : paste (s.memRd (s.txDesc p) 4 % 2 ^ 31) 17 1 0 < 2 ^ 31 := by
    unfold paste
    omega
  generalize paste (s.memRd (s.txDesc p) 4 % 2 ^ 31) 17 1 0 = word at hword ⊢
  generalize s.txDesc p = d
  obtain ⟨g, hg, hsent⟩ := State.txFetch_frame (((((s.ethM fun e => { e with sent := [(p.val, f)] }).memWr d 4 word).put
    (Fd.ETH_P_TXIDX_IDX p) next).inc32 (Reg.ETH_P_TXFRM p)).raise (portFlag p Ev.ETH_FLAGS_TXD0 Ev.ETH_FLAGS_TXD1)) p
  rw [hg]
  clear hg
  refine ⟨?_, ?_, ?_, ?_, ?_⟩
  · rw [State.ethM_eth, hsent, State.raise_eth, State.inc32_eth, State.put_eth, State.memWr_eth, State.ethM_eth]
  · rw [State.memRd_of_mem_eq (show _ = ((s.ethM fun e => { e with sent := [(p.val, f)] }).memWr d 4 word).mem by
      rw [State.ethM_mem, State.raise_mem, State.inc32_mem, State.put_mem]), State.memRd_memWr_word, Nat.mod_eq_of_lt (by omega)]
    exact Nat.testBit_lt_two_pow hword
  · refine SameMemoryBut.of_mem_eq (t := (s.ethM fun e => { e with sent := [(p.val, f)] }).memWr d 4 word)
      (State.memWr_sameMemoryBut (s.ethM fun e => { e with sent := [(p.val, f)] }) d 4 word) ?_
    rw [State.ethM_mem, State.raise_mem, State.inc32_mem, State.put_mem]
  · rw [State.ethM_rd, (txd_eth p).rd _ (by unfold Reg.ETH_P_TXFRM; omega), State.rd_inc32_same,
      State.rd_put_other _ _ _ _ (by simp only [Fd.ETH_P_TXIDX_IDX, Reg.ETH_P_TXIDX, Reg.ETH_P_TXFRM]; omega), State.rd, State.memWr_regs,
      State.ethM_regs]
    rfl
  · rw [State.flag, State.on, State.ethM_get]
    exact (txd_eth p).flag _

/-! ### Configuration and in-band status (R418, R421) -/

/-- Two fields of one register set one after the other. -/
theorem State.put_put_leaves (s : State) (f g : Fld) (x y : Nat) (hf : f.lo + f.w ≤ 32) (hg : g.lo + g.w ≤ 32) (hreg : g.addr = f.addr)
    (hapart : f.lo + f.w ≤ g.lo ∨ g.lo + g.w ≤ f.lo) (hx : x < 2 ^ f.w) (hy : y < 2 ^ g.w) :
    let t := (s.put f x).put g y
    t.get f = x ∧ t.get g = y ∧ SameRegistersBut [f.addr] s t ∧ t.now = s.now ∧ t.mem = s.mem := by
  dsimp only
  refine ⟨?_, ?_, ?_, ?_, ?_⟩
  · rw [State.get_put_apart _ _ _ _ hg (.inr hapart), State.get_put_within _ _ _ hf, Nat.mod_eq_of_lt hx]
  · rw [State.get_put_within _ _ _ hg, Nat.mod_eq_of_lt hy]
  · exact (s.put_sameRegistersBut f x).trans (hreg ▸ State.put_sameRegistersBut (s.put f x) g y)
  · rw [State.put_now, State.put_now]
  · rw [State.put_mem, State.put_mem]

theorem cut_lt_two_pow (x lo w : Nat) : cut x lo w < 2 ^ w := Nat.mod_lt _ (Nat.two_pow_pos w)

theorem ethCfgWrite_refused (v : Word) (s : State) (hbad : cut v.toNat 0 2 = 3 ∨ cut v.toNat 0 2 ≠ s.get Fd.ETH_CFG_REDMODE ∧
    (s.on (Fd.ETH_P_CTRL_EN 0) = true ∨ s.on (Fd.ETH_P_CTRL_EN 1) = true)) : Answers (.ethCfgWrite v) s fun t =>
    t.flag Ev.ETH_FLAGS_CFGERR = true ∧ t.rd Reg.ETH_CFG = s.rd Reg.ETH_CFG ∧ t.eth = s.eth ∧ t.mem = s.mem := by
  refine ⟨s.ethCfgWrite v, rfl, ?_⟩
  rw [State.ethCfgWrite]
  dsimp only
  rw [if_pos (by rw [bne_iff_ne]; exact hbad)]
  exact ⟨s.flag_raise _ (by decide) (by decide), s.rd_raise_other _ _ (by decide) (by decide), s.raise_eth _, s.raise_mem _⟩

theorem State.ethM_sameRegistersBut {l : List Nat} {s t : State} (h : SameRegistersBut l s t) (f : Eth → Eth) :
    SameRegistersBut l s (t.ethM f) := h

theorem ethCfgWrite_taken (v : Word) (s : State) (h3 : cut v.toNat 0 2 ≠ 3) (h0 : s.on (Fd.ETH_P_CTRL_EN 0) = false)
    (h1 : s.on (Fd.ETH_P_CTRL_EN 1) = false) : Answers (.ethCfgWrite v) s fun t =>
    t.get Fd.ETH_CFG_REDMODE = cut v.toNat 0 2 ∧ t.get Fd.ETH_CFG_FORGET = cut v.toNat 16 16 ∧ SameRegistersBut [Reg.ETH_CFG] s t ∧
      t.mem = s.mem := by
  refine ⟨s.ethCfgWrite v, rfl, ?_⟩
  rw [State.ethCfgWrite]
  dsimp only
  have hok : ¬ (cut v.toNat 0 2 = 3 ∨ (cut v.toNat 0 2 != s.redMode) = true ∧
      (s.on (Fd.ETH_P_CTRL_EN 0) = true ∨ s.on (Fd.ETH_P_CTRL_EN 1) = true)) := by
    rw [h0, h1]
    rintro (h | ⟨-, h | h⟩)
    · exact h3 h
    · cases h
    · cases h
  rw [if_neg hok]
  obtain ⟨hmode, hforget, hsame, -, hmem⟩ := s.put_put_leaves Fd.ETH_CFG_REDMODE Fd.ETH_CFG_FORGET (cut v.toNat 0 2) (cut v.toNat 16 16)
    (by decide) (by decide) rfl (by decide) (cut_lt_two_pow _ _ _) (cut_lt_two_pow _ _ _)
  generalize (s.put Fd.ETH_CFG_REDMODE (cut v.toNat 0 2)).put Fd.ETH_CFG_FORGET (cut v.toNat 16 16) = u at hmode hforget hsame hmem ⊢
  split
  · rw [State.ethM_get, State.ethM_get, State.ethM_mem]
    exact ⟨hmode, hforget, State.ethM_sameRegistersBut hsame _, hmem⟩
  · exact ⟨hmode, hforget, hsame, hmem⟩

theorem rgmiiInbandStatus_answers (p : Fin 2) (b : Bool) (x : Fin 4) (s : State) : Answers (.rgmiiInbandStatus p b x) s fun t =>
    t.get (if p = 0 then Fd.ETH_STATUS_LINK0 else Fd.ETH_STATUS_LINK1) = b.toNat ∧
      t.get (if p = 0 then Fd.ETH_STATUS_SPEED0 else Fd.ETH_STATUS_SPEED1) = x.val ∧
      SameRegistersBut [Reg.ETH_STATUS] s t ∧ t.now = s.now ∧ t.mem = s.mem := by
  refine ⟨s.rgmii p b x, rfl, ?_⟩
  have hb : b.toNat < 2 := Bool.toNat_lt b
  rw [State.rgmii]
  split
  · exact s.put_put_leaves Fd.ETH_STATUS_LINK0 Fd.ETH_STATUS_SPEED0 b.toNat x.val (by decide) (by decide) rfl (by decide) hb x.isLt
  · exact s.put_put_leaves Fd.ETH_STATUS_LINK1 Fd.ETH_STATUS_SPEED1 b.toNat x.val (by decide) (by decide) rfl (by decide) hb x.isLt

/-! ### Timed events (R422, R424, R426) -/

theorem dupEntryAge_answers (d : DupEntry) (l : List DupEntry) (s : State) (hon : s.eth.offAt = none) (hd : s.eth.dups = d :: l) :
    Answers .dupEntryAge s fun t =>
    d ∉ t.eth.dups ∧ (∀ x ∈ t.eth.dups, x ∈ l) ∧ d.time + s.forget < t.now ∧ SameRegistersBut [Reg.ETH_DUPFILL] s t ∧ t.mem = s.mem := by
  refine ⟨s.dupAge, rfl, ?_⟩
  rw [State.dupAge, hon, hd]
  dsimp only
  have hnow := s.le_reachNow_now (d.time + s.forget + 1)
  have hrd (a : Nat) : (s.reachNow (d.time + s.forget + 1)).rd a = s.rd a := s.advance_rd _ a
  have hmem : (s.reachNow (d.time + s.forget + 1)).mem = s.mem := s.advance_mem _
  have hdups : (s.reachNow (d.time + s.forget + 1)).eth.dups = d :: l := by
    obtain ⟨b, p, h, -⟩ := s.advance_eq ((d.time + s.forget + 1 - s.now + 39) / 40)
    rw [State.reachNow, h, ← hd]
  have hforget : (s.reachNow (d.time + s.forget + 1)).forget = s.forget :=
    congrArg (fun n => max 1 (min 1000 n) * tMs) (s.advance_get _ Fd.ETH_CFG_FORGET)
  generalize s.reachNow (d.time + s.forget + 1) = r at hnow hrd hmem hdups hforget ⊢
  rw [State.dupPurge]
  dsimp only
  have hkept {x : DupEntry} (hx : x ∈ (d :: l).filter fun e => !decide (e.time + r.forget < r.now)) : x ≠ d ∧ x ∈ l := by
    rw [List.mem_filter, Bool.not_eq_true', decide_eq_false_iff_not, hforget] at hx
    obtain ⟨hin, hnew⟩ := hx
    have hne : x ≠ d := fun h => hnew (by rw [h]; omega)
    exact ⟨hne, (List.mem_cons.mp hin).resolve_left hne⟩
  refine ⟨?_, ?_, ?_, ?_, ?_⟩
  · rw [State.dupShow, State.put_eth, State.ethM_eth, hdups]
    exact fun h => (hkept h).1 rfl
  · rw [State.dupShow, State.put_eth, State.ethM_eth, hdups]
    exact fun x hx => (hkept hx).2
  · rw [State.dupShow, State.put_now, State.ethM_now]
    omega
  · intro a ha
    rw [State.dupShow, State.rd_put_other _ _ _ _ (by simpa [Fd.ETH_DUPFILL_FILL] using ha), State.ethM_rd, hrd]
  · rw [State.dupShow, State.put_mem, State.ethM_mem, hmem]

theorem gooseTalExpire_answers (k : Fin 32) (x : Nat) (s : State) (hon : s.eth.offAt = none) (hx : s.eth.tal[k] = some x) :
    Answers (.gooseTalExpire k) s fun t =>
    t.get (Fd.ETH_GF_CFG_ALIVE k) = 0 ∧ t.get (Fd.ETH_GF_CFG_TALREM k) = 0 ∧ t.flag Ev.ETH_FLAGS_GTAL = true ∧ t.eth.tal[k] = none ∧
      x ≤ t.now ∧ t.mem = s.mem := by
  refine ⟨s.talExpire k, rfl, ?_⟩
  rw [State.talExpire, hon, hx]
  dsimp only
  have hnow := s.le_reachNow_now (x + 128)
  have hmem : (s.reachNow (x + 128)).mem = s.mem := s.advance_mem _
  generalize s.reachNow (x + 128) = r at hnow hmem ⊢
  have hgtal : EthFlag Ev.ETH_FLAGS_GTAL := by
    unfold EthFlag
    decide
  have haddr : 0x400c0100 ≤ (Fd.ETH_GF_CFG_ALIVE k).addr := by
    simp only [Fd.ETH_GF_CFG_ALIVE, Reg.ETH_GF_CFG]
    omega
  obtain ⟨halive, hrem, -, -, -⟩ := (r.ethM fun e => { e with tal := e.tal.set k none }).put_put_leaves (Fd.ETH_GF_CFG_ALIVE k)
    (Fd.ETH_GF_CFG_TALREM k) 0 0 (by simp only [Fd.ETH_GF_CFG_ALIVE]; decide) (by simp only [Fd.ETH_GF_CFG_TALREM]; decide) rfl
    (by simp only [Fd.ETH_GF_CFG_ALIVE, Fd.ETH_GF_CFG_TALREM]; decide) (Nat.two_pow_pos _) (Nat.two_pow_pos _)
  refine ⟨?_, ?_, hgtal.flag _, ?_, ?_, ?_⟩
  · rw [hgtal.get _ haddr, halive]
  · rw [hgtal.get (f := Fd.ETH_GF_CFG_TALREM k) _ haddr, hrem]
  · rw [State.raise_eth, State.put_eth, State.put_eth, State.ethM_eth]
    exact Vector.getElem_set_self _
  · rw [State.raise_now, State.put_now, State.put_now, State.ethM_now]
    omega
  · rw [State.raise_mem, State.put_mem, State.put_mem, State.ethM_mem, hmem]

theorem ptpResidenceTimeout_answers (r : Residence) (l : List Residence) (s : State) (hon : s.eth.offAt = none)
    (hr : s.eth.residence = r :: l) : Answers .ptpResidenceTimeout s fun t =>
    t.eth.residence = l ∧ t.flag Ev.ETH_FLAGS_FRMERR = true ∧ r.time + 100 * tMs ≤ t.now ∧ t.mem = s.mem := by
  refine ⟨s.residenceTimeout, rfl, ?_⟩
  rw [State.residenceTimeout, hon, hr]
  dsimp only
  refine ⟨?_, frmErr_eth.flag _, ?_, ?_⟩
  · rw [State.raise_eth, State.ethM_eth]
  · rw [State.raise_now, State.ethM_now]
    exact s.le_reachNow_now _
  · rw [State.raise_mem, State.ethM_mem]
    exact s.advance_mem _

/-! ### Sampled values (R427) -/

theorem State.launchTaken_eth (s : State) (t : Nat) (l : Launch) : (s.launchTaken t l).eth = s.eth := by
  obtain ⟨b, p, h, -⟩ := s.advance_eq ((l.matched + s.launchDelay t - s.now + 39) / 40)
  rw [State.launchTaken, State.reachNow, h]
  rfl

theorem State.launchTaken_get (s : State) (t : Nat) (l : Launch) (f : Fld) : (s.launchTaken t l).get f = s.get f := by
  rw [State.get, State.get, State.rdN, State.rdN, s.launchTaken_rd t l]

theorem State.launchTaken_launchOf (s : State) (t : Nat) (l : Launch) :
    (s.launchTaken t l).launchOf t = (s.tbl.inflight.erase l).find? fun y => y.target == t := by
  rw [State.launchOf, State.launchTaken_inflight]

/-- R54: a publisher's launch arrives 336 tbu after its match. -/
theorem State.launchTaken_publisher_now (s : State) (n : Fin 2) (l : Launch) : l.matched + 336 ≤ (s.launchTaken (94 + n.val) l).now := by
  have hdelay : s.launchDelay (94 + n.val) = 336 := by
    unfold State.launchDelay
    rw [if_neg (by omega), if_neg (by omega), if_neg (by omega), if_neg (by omega), if_neg (by omega), if_pos (by omega)]
  have h := s.le_reachNow_now (l.matched + s.launchDelay (94 + n.val))
  rw [hdelay] at h
  exact le_of_le_of_eq h (by rw [State.launchTaken, hdelay]; rfl)

theorem svPublishRequest_built (n : Fin 2) (l : Launch) (s : State) (hl : s.launchOf (94 + n.val) = some l)
    (hruns : s.launchRuns (94 + n.val) = true) (hen : s.on (Fd.ETH_SV_CFG_EN n) = true) (hfree : s.eth.sv[n] = none) :
    Answers (.svPublishRequest n) s fun t =>
    t.eth.sv[n] = some (t.svFrame n l.exact) ∧ t.launchOf (94 + n.val) = (s.tbl.inflight.erase l).find? (fun y => y.target == 94 + n.val) ∧
      l.matched + 336 ≤ t.now := by
  refine ⟨s.svRequest n, rfl, ?_⟩
  rw [State.svRequest, s.takeLaunch_of_inflight _ l _ hl hruns]
  have hlaunch := s.launchTaken_launchOf (94 + n.val) l
  have hnow := s.launchTaken_publisher_now n l
  have hen' : (s.launchTaken (94 + n.val) l).on (Fd.ETH_SV_CFG_EN n) = true := by rw [← hen, State.on, State.on, State.launchTaken_get]
  have hfree' : (s.launchTaken (94 + n.val) l).eth.sv[n] = none := by rw [State.launchTaken_eth]; exact hfree
  generalize s.launchTaken (94 + n.val) l = r at hlaunch hnow hen' hfree' ⊢
  rw [hen', hfree', if_neg (by decide), if_neg (by decide)]
  exact ⟨Vector.getElem_set_self _, hlaunch, hnow⟩

theorem svOvr_eth (n : Fin 2) : EthFlag (portFlag n Ev.ETH_FLAGS_SVOVR0 Ev.ETH_FLAGS_SVOVR1) :=
  portFlag_eth n (by unfold EthFlag; decide) (by unfold EthFlag; decide)

theorem svPublishRequest_lost (n : Fin 2) (l : Launch) (f : List Nat) (s : State) (hl : s.launchOf (94 + n.val) = some l)
    (hruns : s.launchRuns (94 + n.val) = true) (hen : s.on (Fd.ETH_SV_CFG_EN n) = true) (hfull : s.eth.sv[n] = some f) :
    Answers (.svPublishRequest n) s fun t =>
    t.flag (portFlag n Ev.ETH_FLAGS_SVOVR0 Ev.ETH_FLAGS_SVOVR1) = true ∧ t.eth.sv = s.eth.sv ∧
      t.launchOf (94 + n.val) = (s.tbl.inflight.erase l).find? (fun y => y.target == 94 + n.val) := by
  refine ⟨s.svRequest n, rfl, ?_⟩
  rw [State.svRequest, s.takeLaunch_of_inflight _ l _ hl hruns]
  have hlaunch := s.launchTaken_launchOf (94 + n.val) l
  have heth := s.launchTaken_eth (94 + n.val) l
  have hen' : (s.launchTaken (94 + n.val) l).on (Fd.ETH_SV_CFG_EN n) = true := by rw [← hen, State.on, State.on, State.launchTaken_get]
  generalize s.launchTaken (94 + n.val) l = r at hlaunch heth hen' ⊢
  have hfull' : r.eth.sv[n] = some f := by rw [heth]; exact hfull
  rw [hen', hfull', if_neg (by decide), if_pos Option.isSome_some]
  refine ⟨(svOvr_eth n).flag _, by rw [State.raise_eth, heth], ?_⟩
  rw [State.launchOf, State.raise_tbl, ← State.launchOf, hlaunch]

/-- A frame leaves on a port that passes frames and whose transmitter is enabled. -/
theorem State.ethSendOut_plain (s : State) (p : Nat) (f : List Nat) (hmode : s.redMode = 0) (hlive : s.portLive (Fin.ofNat 2 p) = true)
    (hen : s.on (Fd.ETH_P_CTRL_TXEN p) = true) : s.ethSendOut p f = s.ethM fun e => { e with sent := e.sent ++ [(p, f)] } := by
  rw [State.ethSendOut]
  dsimp only
  rw [if_pos hmode, State.ethOut, hlive, hen]
  rfl

/-- A publisher's frame is taken for its port. -/
def State.svTaken (s : State) (n p : Fin 2) (e : Eth) : Eth :=
  { e with
    sent := []
    sv := e.sv.set n none
    svFirst := e.svFirst.set p (e.svFirst[p] && (s.ethM fun e => { e with sent := [], sv := e.sv.set n none }).svWaits p) }

/-- R427, R428: a publisher's port is free for its frame. -/
theorem State.svSend_of_able (s : State) (n p : Fin 2) (f : List Nat) (hf : s.eth.sv[n] = some f) (hp : Fin.ofNat 2 (s.svPort n) = p)
    (hlive : s.portLive p = true) (hen : s.on (Fd.ETH_P_CTRL_TXEN p) = true) (hfirst : n = 0 ∨ s.eth.sv[0] = none) :
    s.svSend n = (((s.ethM (s.svTaken n p)).ethSendOut p.val f).inc32 (Reg.ETH_P_TXFRM p)).inc32 (Reg.ETH_SV_SENT n) := by
  have hwait : (n == 1 && s.eth.sv[0].isSome && s.svPort 0 == s.svPort 1) = false := by
    obtain rfl | hnone := hfirst
    · rfl
    · rw [hnone, Option.isSome_none, Bool.and_false, Bool.false_and]
  have hgo : ¬ (!((s.portLive p && s.on (Fd.ETH_P_CTRL_TXEN p)) ||
      s.redMode != 0 && (s.portLive 1 && s.on (Fd.ETH_P_CTRL_TXEN (1 : Fin 2)))) ||
      (n == 1 && s.eth.sv[0].isSome && s.svPort 0 == s.svPort 1)) = true := by
    rw [hwait, hlive, hen]
    simp
  subst hp
  unfold State.svSend
  rw [hf]
  exact if_neg hgo

theorem svFrameSend_answers (n : Fin 2) (f : List Nat) (s : State) (hf : s.eth.sv[n] = some f) (hmode : s.get Fd.ETH_CFG_REDMODE = 0)
    (hlive : s.portLive (Fin.ofNat 2 (s.get (Fd.ETH_SV_CFG_PORT n))) = true)
    (hen : s.on (Fd.ETH_P_CTRL_TXEN (s.get (Fd.ETH_SV_CFG_PORT n))) = true) (hfirst : n = 0 ∨ s.eth.sv[0] = none) :
    Answers (.svFrameSend n) s fun t =>
    t.eth.sent = [(s.get (Fd.ETH_SV_CFG_PORT n), f)] ∧ t.eth.sv[n] = none ∧ t.rd (Reg.ETH_SV_SENT n) = s.rd (Reg.ETH_SV_SENT n) + 1 ∧
      t.mem = s.mem := by
  refine ⟨s.svSend n, rfl, ?_⟩
  have hport : s.svPort n = s.get (Fd.ETH_SV_CFG_PORT n) := if_pos hmode
  have hlt : s.get (Fd.ETH_SV_CFG_PORT n) < 2 := cut_lt_two_pow _ _ 1
  obtain ⟨p, hp⟩ : ∃ p : Fin 2, p.val = s.get (Fd.ETH_SV_CFG_PORT n) := ⟨⟨_, hlt⟩, rfl⟩
  have hfin : Fin.ofNat 2 p.val = p := by simp
  rw [← hp] at hport hlive hen ⊢
  rw [hfin] at hlive
  have hsend := s.svSend_of_able n p f hf (by rw [hport, hfin]) hlive hen hfirst
  have hout := (s.ethM (s.svTaken n p)).ethSendOut_plain p.val f hmode (by rw [hfin]; exact hlive) hen
  rw [hsend, hout]
  refine ⟨?_, ?_, ?_, ?_⟩
  · rw [State.inc32_eth, State.inc32_eth, State.ethM_eth, State.ethM_eth]
    rfl
  · simp only [State.inc32_eth, State.ethM_eth]
    exact Vector.getElem_set_self _
  · rw [State.rd_inc32_same, State.rd_inc32_other _ _ _ (by unfold Reg.ETH_SV_SENT Reg.ETH_P_TXFRM; omega), State.ethM_rd, State.ethM_rd]
  · rw [State.inc32_mem, State.inc32_mem, State.ethM_mem, State.ethM_mem]

/-! ### The obligation -/

/-- Settles O53. -/
theorem ethernetPorts : Obligations.EthernetPorts := by
  unfold Obligations.EthernetPorts
  refine ⟨fun p l w i s hlive hen htag hmode hmin hmax hsize hall hpause hgoose hptp howned hin hapart hi => ?_, ethFrameReceive_bad,
    fun p l w s hlive hen htag hmode hmin hmax hsize hall hpause hgoose hptp hempty => ?_, ethTxKick_answers, ethTxComplete_answers,
    ethCfgWrite_refused, ethCfgWrite_taken, dupEntryAge_answers, gooseTalExpire_answers, ptpResidenceTimeout_answers, svPublishRequest_built,
    svPublishRequest_lost, svFrameSend_answers, rgmiiInbandStatus_answers⟩
  · refine ⟨s.ethReceive p (l.map BitVec.toNat) false w.toNat, rfl, ?_⟩
    rw [s.ethReceive_plain p _ w.toNat hlive hen htag hmode (by rwa [List.length_map]) (by rwa [List.length_map]) (by rwa [List.length_map])
      hall hpause hgoose hptp]
    exact s.ethBegin.ringWrite_owned_leaves p l i hmax howned hin hapart hi
  · refine ⟨s.ethReceive p (l.map BitVec.toNat) false w.toNat, rfl, ?_⟩
    rw [s.ethReceive_plain p _ w.toNat hlive hen htag hmode (by rwa [List.length_map]) (by rwa [List.length_map]) (by rwa [List.length_map])
      hall hpause hgoose hptp]
    exact s.ethBegin.ringWrite_empty_leaves p _ _ hempty

end Sys2Proof.Machine

/-! SUPPORT. SAFE's evaluation and lock-out (R327, R331–R333): what they set, and what they leave. -/
namespace Sys2Proof.Machine

set_option Elab.async false

/-! ### Bits gathered from a predicate -/

theorem gather_succ (n : Nat) (p : Nat → Bool) : gather (n + 1) p = gather n p + (p n).toNat * 2 ^ n := by
  rw [gather, List.range_succ, List.foldl_append]
  rfl

theorem gather_lt (n : Nat) (p : Nat → Bool) : gather n p < 2 ^ n := by
  induction n with
  | zero => exact Nat.one_pos
  | succ n ih =>
    rw [gather_succ, pow_succ]
    cases p n <;> simp only [Bool.toNat_false, Bool.toNat_true] <;> omega

theorem testBit_gather (n : Nat) (p : Nat → Bool) {i : Nat} (hi : i < n) : (gather n p).testBit i = p i := by
  induction n with
  | zero => cases hi
  | succ n ih =>
    have hlt := gather_lt n p
    rw [gather_succ, Nat.add_comm]
    obtain h | rfl := Nat.lt_succ_iff_lt_or_eq.mp hi
    · rw [Nat.mul_comm, Nat.testBit_two_pow_mul_add _ hlt, if_pos h, ih h]
    · rw [Nat.mul_comm, Nat.testBit_two_pow_mul_add _ hlt, if_neg (Nat.lt_irrefl _), Nat.sub_self]
      cases p i <;> rfl

theorem gather_congr {n : Nat} {p q : Nat → Bool} (h : ∀ i, i < n → p i = q i) : gather n p = gather n q := by
  induction n with
  | zero => rfl
  | succ n ih => rw [gather_succ, gather_succ, ih fun i hi => h i (Nat.lt_succ_of_lt hi), h n (Nat.lt_succ_self n)]

theorem gather_false (n : Nat) : gather n (fun _ => false) = 0 := by
  induction n with
  | zero => rfl
  | succ n ih => rw [gather_succ, ih, Bool.toNat_false, Nat.zero_mul]

/-! ### The evaluation of the outputs (R327) -/

/-- The outputs that are on and go off. -/
def State.safeOff (s : State) : Nat := s.get Fd.SAFE_STATUS_OUTON &&& (15 ^^^ gather 4 s.outputOn)

/-- A field that the evaluation of the outputs leaves. -/
abbrev SafeKept (f : Fld) : Prop :=
  (f.addr ≠ Reg.SAFE_STATUS ∨ f.lo + f.w ≤ 4 ∨ 12 ≤ f.lo) ∧ (f.addr ≠ Reg.SAFE_INPUTS ∨ 8 ≤ f.lo ∧ f.lo + f.w ≤ 24) ∧
    f.addr ≠ Reg.SAFE_OUTPUTS ∧ (f.addr ≠ Reg.SAFE_FLAGS ∨ f.lo + f.w ≤ 1 ∨ 2 ≤ f.lo) ∧ f.addr ≠ Ev.SAFE_FLAGS_DEMAND.cnt

/-- R326: an input permits by its enable and its filtered channels alone. -/
theorem State.permits_of_same {s t : State} (hen : ∀ i, t.get (Fd.SAFE_IN_CFG_EN i) = s.get (Fd.SAFE_IN_CFG_EN i))
    (hA : t.safe.filtA = s.safe.filtA) (hB : t.safe.filtB = s.safe.filtB) (i : Nat) : t.permits i = s.permits i := by
  rw [State.permits, State.permits, State.on, State.on, hen, hA, hB]

theorem State.get_inCfg_put (s : State) (f : Fld) (v i : Nat) (h : f.addr < Reg.SAFE_FLAGS ∧ f.lo + f.w ≤ 32) :
    (s.put f v).get (Fd.SAFE_IN_CFG_EN i) = s.get (Fd.SAFE_IN_CFG_EN i) := by
  refine s.get_put_apart _ _ _ h.2 (.inl ?_)
  obtain ⟨haddr, -⟩ := h
  simp only [Fd.SAFE_IN_CFG_EN, Reg.SAFE_IN_CFG, Reg.SAFE_FLAGS] at haddr ⊢
  omega

/-- The evaluation up to the flag. -/
def State.safeShown (s : State) : State :=
  let s1 := (s.safeM fun u => { u with acked := u.acked &&& ~~~(BitVec.ofNat 4 s.safeOff) }).put Fd.SAFE_STATUS_OUTON (gather 4 s.outputOn)
  let s2 := s1.put Fd.SAFE_STATUS_ACKWAIT
    (gather 4 fun j => s1.on (Fd.SAFE_OUT_CFG_EN j) && s1.on (Fd.SAFE_OUT_CFG_MANUAL j) && !s1.safe.acked.getLsbD j)
  let s3 := s2.put Fd.SAFE_INPUTS_PERMIT (gather 8 s2.permits)
  let s4 := s3.put Fd.SAFE_INPUTS_DISC (s3.safe.filtA ^^^ s3.safe.filtB).toNat
  let s5 := s4.safeM fun u => { u with outAt := Vector.ofFn fun j =>
    if (s.get Fd.SAFE_STATUS_OUTON ^^^ gather 4 s.outputOn).testBit j.val then s4.now else u.outAt[j] }
  ((s5.put Fd.SAFE_OUTPUTS_CMDA (gather 4 s.outputOn)).put Fd.SAFE_OUTPUTS_CMDB (gather 4 s.outputOn)).readbackShow

theorem State.safeEval_eq (s : State) :
    s.safeEval = s.safeShown.raiseIf (s.safeOff != 0 && !s.safeShown.on Fd.SAFE_STATUS_LOCK) Ev.SAFE_FLAGS_DEMAND := rfl

theorem State.readbackShow_get (s : State) (f : Fld) (h : f.addr ≠ Reg.SAFE_OUTPUTS) : s.readbackShow.get f = s.get f := by
  rw [State.readbackShow]
  rw [State.get_put_apart _ _ _ _ (by decide) (.inl h), State.get_put_apart _ _ _ _ (by decide) (.inl h)]

theorem State.readbackShow_safe (s : State) : s.readbackShow.safe = s.safe := by
  rw [State.readbackShow]
  rw [State.put_safe, State.put_safe]

theorem State.readbackShow_now (s : State) : s.readbackShow.now = s.now := by
  rw [State.readbackShow]
  rw [State.put_now, State.put_now]

theorem State.readbackShow_mem (s : State) : s.readbackShow.mem = s.mem := by
  rw [State.readbackShow]
  rw [State.put_mem, State.put_mem]

theorem State.safeShown_get (s : State) (f : Fld) (hstatus : f.addr ≠ Reg.SAFE_STATUS ∨ f.lo + f.w ≤ 4 ∨ 12 ≤ f.lo)
    (hinputs : f.addr ≠ Reg.SAFE_INPUTS ∨ 8 ≤ f.lo ∧ f.lo + f.w ≤ 24) (houtputs : f.addr ≠ Reg.SAFE_OUTPUTS) : s.safeShown.get f = s.get f := by
  have hin : (f.addr ≠ Reg.SAFE_INPUTS ∨ f.lo + f.w ≤ 0 ∨ 8 ≤ f.lo) ∧ (f.addr ≠ Reg.SAFE_INPUTS ∨ f.lo + f.w ≤ 24 ∨ 32 ≤ f.lo) := by omega
  have hst : (f.addr ≠ Reg.SAFE_STATUS ∨ f.lo + f.w ≤ 4 ∨ 8 ≤ f.lo) ∧ (f.addr ≠ Reg.SAFE_STATUS ∨ f.lo + f.w ≤ 8 ∨ 12 ≤ f.lo) := by omega
  rw [State.safeShown]
  rw [State.readbackShow_get _ _ houtputs, State.get_put_apart _ _ _ _ (by decide) (.inl houtputs),
    State.get_put_apart _ _ _ _ (by decide) (.inl houtputs), State.safeM_get, State.get_put_apart _ _ _ _ (by decide) hin.2,
    State.get_put_apart _ _ _ _ (by decide) hin.1, State.get_put_apart _ _ _ _ (by decide) hst.2,
    State.get_put_apart _ _ _ _ (by decide) hst.1, State.safeM_get]

theorem State.safeEval_get (s : State) (f : Fld) (h : SafeKept f) : s.safeEval.get f = s.get f := by
  obtain ⟨hstatus, hinputs, houtputs, hflags, hcnt⟩ := h
  rw [State.safeEval_eq, State.get_raiseIf_other _ _ _ _ (by decide) hflags hcnt, s.safeShown_get f hstatus hinputs houtputs]

theorem State.safeEval_on (s : State) (f : Fld) (h : SafeKept f) : s.safeEval.on f = s.on f := by rw [State.on, State.on, s.safeEval_get f h]

/-- R327: OUTON shows the outputs that are on. -/
theorem State.safeEval_outon (s : State) : s.safeEval.get Fd.SAFE_STATUS_OUTON = gather 4 s.outputOn := by
  have h : s.safeShown.get Fd.SAFE_STATUS_OUTON = gather 4 s.outputOn % 2 ^ 4 := by
    rw [State.safeShown]
    rw [State.readbackShow_get _ _ (by decide), State.get_put_apart _ _ _ _ (by decide) (by decide),
      State.get_put_apart _ _ _ _ (by decide) (by decide), State.safeM_get, State.get_put_apart _ _ _ _ (by decide) (by decide),
      State.get_put_apart _ _ _ _ (by decide) (by decide), State.get_put_apart _ _ _ _ (by decide) (by decide),
      State.get_put_within _ _ _ (by decide)]
    rfl
  rw [State.safeEval_eq, State.get_raiseIf_other _ _ _ _ (by decide) (by decide) (by decide), h, Nat.mod_eq_of_lt (gather_lt 4 _)]

/-- R326: PERMIT shows the inputs that permit. -/
theorem State.safeEval_permit (s : State) : s.safeEval.get Fd.SAFE_INPUTS_PERMIT = gather 8 s.permits := by
  have hen (u : State) (g : SafeUnit → SafeUnit) (o w i : Nat) :
      (((u.safeM g).put Fd.SAFE_STATUS_OUTON o).put Fd.SAFE_STATUS_ACKWAIT w).get (Fd.SAFE_IN_CFG_EN i) = u.get (Fd.SAFE_IN_CFG_EN i) := by
    rw [State.get_inCfg_put _ _ _ _ (by decide), State.get_inCfg_put _ _ _ _ (by decide), State.safeM_get]
  have h : s.safeShown.get Fd.SAFE_INPUTS_PERMIT = gather 8 s.permits % 2 ^ 8 := by
    rw [State.safeShown]
    rw [State.readbackShow_get _ _ (by decide), State.get_put_apart _ _ _ _ (by decide) (by decide),
      State.get_put_apart _ _ _ _ (by decide) (by decide), State.safeM_get, State.get_put_apart _ _ _ _ (by decide) (by decide),
      State.get_put_within _ _ _ (by decide), gather_congr fun i _ => State.permits_of_same (hen s _ _ _) rfl rfl i]
    rfl
  rw [State.safeEval_eq, State.get_raiseIf_other _ _ _ _ (by decide) (by decide) (by decide), h, Nat.mod_eq_of_lt (gather_lt 8 _)]

/-- What an evaluation leaves of SAFE behind its registers: acknowledgements go with the outputs that go off. -/
theorem State.safeEval_safe (s : State) : ∃ o : Vector Nat 4,
    s.safeEval.safe = { s.safe with acked := s.safe.acked &&& ~~~(BitVec.ofNat 4 s.safeOff), outAt := o } := by
  rw [State.safeEval_eq, State.raiseIf_safe, State.safeShown]
  rw [State.readbackShow_safe, State.put_safe, State.put_safe, State.safeM_safe, State.put_safe, State.put_safe, State.put_safe, State.put_safe,
    State.safeM_safe]
  exact ⟨_, rfl⟩

theorem State.safeEval_now (s : State) : s.safeEval.now = s.now := by
  rw [State.safeEval_eq, State.raiseIf_now, State.safeShown]
  rw [State.readbackShow_now, State.put_now, State.put_now, State.safeM_now, State.put_now, State.put_now, State.put_now, State.put_now,
    State.safeM_now]

theorem State.safeEval_mem (s : State) : s.safeEval.mem = s.mem := by
  rw [State.safeEval_eq, State.raiseIf_mem, State.safeShown]
  rw [State.readbackShow_mem, State.put_mem, State.put_mem, State.safeM_mem, State.put_mem, State.put_mem, State.put_mem, State.put_mem,
    State.safeM_mem]

/-- R327: outside a lock-out DEMAND says that an output went off. -/
theorem State.safeEval_demand (s : State) (hoff : s.safeOff ≠ 0) (hlock : s.on Fd.SAFE_STATUS_LOCK = false) :
    s.safeEval.flag Ev.SAFE_FLAGS_DEMAND = true := by
  have h : s.safeShown.on Fd.SAFE_STATUS_LOCK = false := by rw [← hlock, State.on, State.on, s.safeShown_get _ (by decide) (by decide) (by decide)]
  rw [State.safeEval_eq, h, bne_iff_ne.mpr hoff, State.raiseIf, if_pos (by decide)]
  exact s.safeShown.flag_raise _ (by decide) (by decide)

/-- R327, R332: a common condition of all outputs that fails turns them all off. -/
theorem State.outputOn_of_blocked (s : State) (h : s.on Fd.SAFE_STATUS_PWMCLK = false ∨ s.on Fd.SAFE_STATUS_SUPPLY = true ∨
    s.on Fd.SAFE_STATUS_LOCK = true) : gather 4 s.outputOn = 0 := by
  rw [← gather_false 4]
  refine gather_congr fun j _ => ?_
  rw [State.outputOn]
  obtain h | h | h := h <;> simp [h]

/-- What goes off when none stays on is what was on. -/
theorem State.safeOff_of_blocked (s : State) (h : gather 4 s.outputOn = 0) : s.safeOff = s.get Fd.SAFE_STATUS_OUTON := by
  have hlt : s.get Fd.SAFE_STATUS_OUTON < 2 ^ 4 := cut_lt_two_pow _ _ 4
  rw [State.safeOff, h, Nat.xor_zero, show 15 = 2 ^ 4 - 1 from rfl, Nat.and_two_pow_sub_one_eq_mod, Nat.mod_eq_of_lt hlt]

end Sys2Proof.Machine

/-! SUPPORT. SAFE's lock-out (R331–R333, R337): what a fault leaves. -/
namespace Sys2Proof.Machine

set_option Elab.async false

/-! ### The end of a reset procedure without effect (R335, R337) -/

/-- A field that the end of a reset procedure leaves. -/
abbrev ProcKept (f : Fld) : Prop :=
  (f.addr ≠ Reg.SAFE_STATUS ∨ f.lo + f.w ≤ 1 ∨ 2 ≤ f.lo) ∧ (f.addr ≠ Reg.SAFE_STATUS ∨ f.lo + f.w ≤ 12 ∨ 13 ≤ f.lo) ∧
    (f.addr ≠ Reg.SAFE_FLAGS ∨ f.lo + f.w ≤ 3 ∨ 4 ≤ f.lo) ∧ f.addr ≠ Ev.SAFE_FLAGS_RSTREF.cnt

/-- A running procedure that ends without effect. -/
def State.procEnded (s : State) : State :=
  ((s.safeM fun u => { u with proc := .idle }).put Fd.SAFE_STATUS_RSTRUN 0).raise Ev.SAFE_FLAGS_RSTREF

theorem State.safeProcEnd_cases (s : State) : s.safe.proc = .idle ∧ s.safeProcEnd = s ∨
    (∃ t b, s.safe.proc = .pulse t b) ∧ s.safeProcEnd = s.procEnded ∨
    s.safe.proc = .clearing ∧ s.safeProcEnd = (s.put Fd.SAFE_STATUS_SELFTEST 0).procEnded := by
  unfold State.safeProcEnd
  split
  · next h => exact .inl ⟨h, rfl⟩
  · next p h =>
    cases hp : s.safe.proc with
    | idle => exact absurd hp h
    | pulse t b => exact .inr (.inl ⟨⟨t, b, rfl⟩, by rw [if_neg (by simp)]; rfl⟩)
    | clearing => exact .inr (.inr ⟨rfl, by rw [if_pos rfl]; rfl⟩)

theorem State.procEnded_get (s : State) (f : Fld) (h : ProcKept f) : s.procEnded.get f = s.get f := by
  obtain ⟨-, hrun, hflags, hcnt⟩ := h
  rw [State.procEnded, State.get_raise_other _ _ _ (by decide) hflags hcnt, State.get_put_apart _ _ _ _ (by decide) hrun, State.safeM_get]

theorem State.procEnded_safe (s : State) : s.procEnded.safe = { s.safe with proc := .idle } := by
  rw [State.procEnded, State.raise_safe, State.put_safe, State.safeM_safe]

theorem State.procEnded_now (s : State) : s.procEnded.now = s.now := by
  rw [State.procEnded, State.raise_now, State.put_now, State.safeM_now]

theorem State.procEnded_mem (s : State) : s.procEnded.mem = s.mem := by
  rw [State.procEnded, State.raise_mem, State.put_mem, State.safeM_mem]

theorem State.safeProcEnd_get (s : State) (f : Fld) (h : ProcKept f) : s.safeProcEnd.get f = s.get f := by
  obtain ⟨-, h'⟩ | ⟨-, h'⟩ | ⟨-, h'⟩ := s.safeProcEnd_cases <;> rw [h']
  · exact s.procEnded_get f h
  · rw [State.procEnded_get _ f h, State.get_put_apart _ _ _ _ (by decide) h.1]

/-- The self-test bit is cleared or stays. -/
theorem State.safeProcEnd_selftest (s : State) (h : s.get Fd.SAFE_STATUS_SELFTEST = 0) : s.safeProcEnd.get Fd.SAFE_STATUS_SELFTEST = 0 := by
  have hended (u : State) (hu : u.get Fd.SAFE_STATUS_SELFTEST = 0) : u.procEnded.get Fd.SAFE_STATUS_SELFTEST = 0 := by
    rw [State.procEnded, State.get_raise_other _ _ _ (by decide) (by decide) (by decide), State.get_put_apart _ _ _ _ (by decide) (by decide),
      State.safeM_get, hu]
  obtain ⟨-, h'⟩ | ⟨-, h'⟩ | ⟨-, h'⟩ := s.safeProcEnd_cases <;> rw [h']
  · exact h
  · exact hended s h
  · exact hended _ (by rw [State.get_put_within _ _ _ (by decide)]; rfl)

theorem State.safeProcEnd_safe (s : State) : s.safeProcEnd.safe = { s.safe with proc := .idle } := by
  obtain ⟨hp, h'⟩ | ⟨-, h'⟩ | ⟨-, h'⟩ := s.safeProcEnd_cases <;> rw [h']
  · rw [← hp]
  · exact s.procEnded_safe
  · rw [State.procEnded_safe, State.put_safe]

theorem State.safeProcEnd_now (s : State) : s.safeProcEnd.now = s.now := by
  obtain ⟨-, h'⟩ | ⟨-, h'⟩ | ⟨-, h'⟩ := s.safeProcEnd_cases <;> rw [h']
  · exact s.procEnded_now
  · rw [State.procEnded_now, State.put_now]

theorem State.safeProcEnd_mem (s : State) : s.safeProcEnd.mem = s.mem := by
  obtain ⟨-, h'⟩ | ⟨-, h'⟩ | ⟨-, h'⟩ := s.safeProcEnd_cases <;> rw [h']
  · exact s.procEnded_mem
  · rw [State.procEnded_mem, State.put_mem]

/-! ### The lock-out (R331–R333) -/

theorem State.safeUndone_of_none (s : State) (h : s.safe.undo = none) : s.safeUndone = s := by rw [State.safeUndone, h]

/-- The unit as it enters a lock-out. -/
def SafeUnit.marked (u : SafeUnit) (now : Nat) : SafeUnit :=
  { u with lockAt := some now, array := { u.array with marker := true, count := min 0xFFFF (u.array.count + 1) } }

/-- The unit as a fault outside a lock-out leaves it, before its outputs are evaluated. -/
def SafeUnit.locked (u : SafeUnit) (now : Nat) : SafeUnit := { u with proc := .idle }.marked now

/-- The lock-out is entered, with its marker and its count. -/
def State.lockEntered (s : State) : State :=
  let m := s.safeM fun u => u.marked s.now
  ((m.put Fd.SAFE_LOCKREC_LOCKCNT m.safe.array.count).put Fd.SAFE_STATUS_LOCK 1).raise Ev.SAFE_FLAGS_LOCK

theorem State.lockEntered_get (s : State) (f : Fld) (hcnt : f.addr ≠ Reg.SAFE_LOCKREC ∨ f.lo + f.w ≤ 16 ∨ 32 ≤ f.lo)
    (hst : f.addr ≠ Reg.SAFE_STATUS ∨ f.lo + f.w ≤ 0 ∨ 1 ≤ f.lo) (hfl : f.addr ≠ Reg.SAFE_FLAGS) (hc : f.addr ≠ Ev.SAFE_FLAGS_LOCK.cnt) :
    s.lockEntered.get f = s.get f := by
  rw [State.lockEntered, State.get_raise_other _ _ _ (by decide) (.inl hfl) hc, State.get_put_apart _ _ _ _ (by decide) hst,
    State.get_put_apart _ _ _ _ (by decide) hcnt, State.safeM_get]

theorem State.lockEntered_lock (s : State) : s.lockEntered.get Fd.SAFE_STATUS_LOCK = 1 := by
  rw [State.lockEntered, State.get_raise_other _ _ _ (by decide) (by decide) (by decide), State.get_put_within _ _ _ (by decide)]
  rfl

theorem State.lockEntered_lockcnt (s : State) : s.lockEntered.get Fd.SAFE_LOCKREC_LOCKCNT = min 0xFFFF (s.safe.array.count + 1) := by
  rw [State.lockEntered, State.get_raise_other _ _ _ (by decide) (by decide) (by decide), State.get_put_apart _ _ _ _ (by decide) (by decide),
    State.get_put_within _ _ _ (by decide)]
  exact Nat.mod_eq_of_lt (Nat.lt_of_le_of_lt (Nat.min_le_left 0xFFFF _) (by decide))

theorem State.lockEntered_flag (s : State) : s.lockEntered.flag Ev.SAFE_FLAGS_LOCK = true := State.flag_raise _ _ (by decide) (by decide)

theorem State.lockEntered_safe (s : State) : s.lockEntered.safe = s.safe.marked s.now := by
  rw [State.lockEntered, State.raise_safe, State.put_safe, State.put_safe, State.safeM_safe]

theorem State.lockEntered_now (s : State) : s.lockEntered.now = s.now := by
  rw [State.lockEntered, State.raise_now, State.put_now, State.put_now, State.safeM_now]

theorem State.lockEntered_mem (s : State) : s.lockEntered.mem = s.mem := by
  rw [State.lockEntered, State.raise_mem, State.put_mem, State.put_mem, State.safeM_mem]

/-- R332: the record's cause, number and channel. -/
theorem State.lockRecord_get (s : State) (c i : Nat) (b : Bool) :
    (s.lockRecord c i b).get Fd.SAFE_LOCKREC_CAUSE = c % 16 ∧ (s.lockRecord c i b).get Fd.SAFE_LOCKREC_INDEX = i % 8 ∧
      (s.lockRecord c i b).get Fd.SAFE_LOCKREC_CH = b.toNat % 2 ∧
      ∀ f : Fld, f.addr ≠ Reg.SAFE_LOCKREC → (s.lockRecord c i b).get f = s.get f := by
  rw [State.lockRecord, State.putB]
  refine ⟨?_, ?_, ?_, fun f hf => ?_⟩
  · rw [State.get_put_apart _ _ _ _ (by decide) (by decide), State.get_put_apart _ _ _ _ (by decide) (by decide),
      State.get_put_within _ _ _ (by decide)]
    rfl
  · rw [State.get_put_apart _ _ _ _ (by decide) (by decide), State.get_put_within _ _ _ (by decide)]
    rfl
  · rw [State.get_put_within _ _ _ (by decide)]
    rfl
  · rw [State.get_put_apart _ _ _ _ (by decide) (.inl hf), State.get_put_apart _ _ _ _ (by decide) (.inl hf),
      State.get_put_apart _ _ _ _ (by decide) (.inl hf)]

/-- R331–R333: what a fault outside a lock-out leaves. -/
structure Locked (s t : State) (c i : Nat) (b : Bool) : Prop where
  lock : t.get Fd.SAFE_STATUS_LOCK = 1
  outon : t.get Fd.SAFE_STATUS_OUTON = 0
  cause : t.get Fd.SAFE_LOCKREC_CAUSE = c % 16
  index : t.get Fd.SAFE_LOCKREC_INDEX = i % 8
  ch : t.get Fd.SAFE_LOCKREC_CH = b.toNat % 2
  lockcnt : t.get Fd.SAFE_LOCKREC_LOCKCNT = min 0xFFFF (s.safe.array.count + 1)
  flag : t.flag Ev.SAFE_FLAGS_LOCK = true
  selftest : s.get Fd.SAFE_STATUS_SELFTEST = 0 → t.get Fd.SAFE_STATUS_SELFTEST = 0
  kept : ∀ f, SafeKept f → ProcKept f → f.addr ≠ Reg.SAFE_LOCKREC → (f.addr ≠ Reg.SAFE_STATUS ∨ 1 ≤ f.lo) → f.addr ≠ Reg.SAFE_FLAGS →
    f.addr ≠ Ev.SAFE_FLAGS_LOCK.cnt → t.get f = s.get f
  safe : ∃ o : Vector Nat 4, t.safe =
    { s.safe.locked s.now with acked := s.safe.acked &&& ~~~(BitVec.ofNat 4 (s.get Fd.SAFE_STATUS_OUTON)), outAt := o }
  now : t.now = s.now
  mem : t.mem = s.mem

/-- R331, R332: a fault outside a lock-out, with no reset procedure to take back, is recorded and entered. -/
theorem State.safeLock_eq_of_free (s : State) (c i : Nat) (b : Bool) (hundo : s.safe.undo = none) (hlock : s.on Fd.SAFE_STATUS_LOCK = false) :
    s.safeLock c i b = (s.safeProcEnd.lockRecord c i b).lockEntered.safeEval := by
  have hundone : s.safeProcEnd.safeUndone = s.safeProcEnd := State.safeUndone_of_none _ (by rw [s.safeProcEnd_safe]; exact hundo)
  have hfree : ¬ s.safeProcEnd.on Fd.SAFE_STATUS_LOCK = true := by
    rw [State.on, s.safeProcEnd_get _ (by decide), ← State.on, hlock]
    decide
  rw [State.safeLock]
  dsimp only
  rw [hundone, if_neg hfree]
  rfl

theorem State.safeLock_of_free (s : State) (c i : Nat) (b : Bool) (hundo : s.safe.undo = none) (hlock : s.on Fd.SAFE_STATUS_LOCK = false) :
    Locked s (s.safeLock c i b) c i b := by
  have hget := s.safeProcEnd_get
  have hself := s.safeProcEnd_selftest
  have hsafe := s.safeProcEnd_safe
  have hnow := s.safeProcEnd_now
  have hmem := s.safeProcEnd_mem
  rw [s.safeLock_eq_of_free c i b hundo hlock]
  generalize s.safeProcEnd = p at hget hself hsafe hnow hmem ⊢
  obtain ⟨hcause, hindex, hch, hrest⟩ := p.lockRecord_get c i b
  have hrsafe : (p.lockRecord c i b).safe = p.safe := by rw [State.lockRecord, State.putB, State.put_safe, State.put_safe, State.put_safe]
  have hrnow : (p.lockRecord c i b).now = p.now := by rw [State.lockRecord, State.putB, State.put_now, State.put_now, State.put_now]
  have hrmem : (p.lockRecord c i b).mem = p.mem := by rw [State.lockRecord, State.putB, State.put_mem, State.put_mem, State.put_mem]
  generalize p.lockRecord c i b = r at hcause hindex hch hrest hrsafe hrnow hrmem ⊢
  have hvget := r.lockEntered_get
  have hvlock := r.lockEntered_lock
  have hvcnt := r.lockEntered_lockcnt
  have hvflag := r.lockEntered_flag
  have hvsafe : r.lockEntered.safe = s.safe.locked s.now := by
    rw [r.lockEntered_safe, hrsafe, hsafe, hrnow, hnow]
    rfl
  have hvnow := r.lockEntered_now
  have hvmem := r.lockEntered_mem
  rw [hrsafe, hsafe] at hvcnt
  generalize r.lockEntered = v at hvget hvlock hvcnt hvflag hvsafe hvnow hvmem ⊢
  have hvouton : v.get Fd.SAFE_STATUS_OUTON = s.get Fd.SAFE_STATUS_OUTON := by
    rw [hvget _ (by decide) (by decide) (by decide) (by decide), hrest _ (by decide), hget _ (by decide)]
  have hnone : gather 4 v.outputOn = 0 := State.outputOn_of_blocked _ (.inr (.inr (by rw [State.on, hvlock]; rfl)))
  obtain ⟨o, ho⟩ := v.safeEval_safe
  exact {
    lock := by rw [v.safeEval_get _ (by decide), hvlock]
    outon := by rw [v.safeEval_outon, hnone]
    cause := by rw [v.safeEval_get _ (by decide), hvget _ (by decide) (by decide) (by decide) (by decide), hcause]
    index := by rw [v.safeEval_get _ (by decide), hvget _ (by decide) (by decide) (by decide) (by decide), hindex]
    ch := by rw [v.safeEval_get _ (by decide), hvget _ (by decide) (by decide) (by decide) (by decide), hch]
    lockcnt := by rw [v.safeEval_get _ (by decide), hvcnt]
    flag := by
      rw [← hvflag]
      exact v.safeEval_on ⟨_, _, _⟩ (by decide)
    selftest := fun h => by
      rw [v.safeEval_get _ (by decide), hvget _ (by decide) (by decide) (by decide) (by decide), hrest _ (by decide), hself h]
    kept := fun f hs hp hrec hst hfl hc => by
      rw [v.safeEval_get f hs, hvget f (.inl hrec) (by omega) hfl hc, hrest f hrec, hget f hp]
    safe := ⟨o, by rw [ho, State.safeOff_of_blocked _ hnone, hvouton, hvsafe]; rfl⟩
    now := by rw [v.safeEval_now, hvnow, hrnow, hnow]
    mem := by rw [v.safeEval_mem, hvmem, hrmem, hmem] }

end Sys2Proof.Machine

/-! SUPPORT. SAFE's faults, demands, inputs and record (R326–R333, R339). -/
namespace Sys2Proof.Machine

set_option Elab.async false

theorem State.safeRun_of_on (s : State) (f : State → State) (h : s.pmu.clocksOff = false) : s.safeRun f = f s := by
  rw [State.safeRun, h]
  exact if_neg Bool.false_ne_true

theorem State.safeRun_of_off (s : State) (f : State → State) (h : s.pmu.clocksOff = true) : s.safeRun f = s := by
  rw [State.safeRun, h]
  exact if_pos rfl

theorem State.reachNow_safe (s : State) (t : Nat) : (s.reachNow t).safe = s.safe := by
  obtain ⟨b, p, h, -⟩ := s.advance_eq ((t - s.now + 39) / 40)
  rw [State.reachNow, h]

theorem State.reachNow_field (s : State) (t : Nat) (f : Fld) : (s.reachNow t).get f = s.get f := s.advance_get _ f

theorem State.reachNow_on (s : State) (t : Nat) (f : Fld) : (s.reachNow t).on f = s.on f := by rw [State.on, State.on, State.reachNow_field]

theorem State.reachNow_memory (s : State) (t : Nat) : (s.reachNow t).mem = s.mem := s.advance_mem _

/-- R339: without power nothing of SAFE happens. -/
theorem safe_without_power (b : Bool) (s : State) (h : s.pmu.clocksOff = true) :
    exec .safeOscFault s = .next s ∧ exec .safeResetDone s = .next s ∧ exec .safeLockoutRecord s = .next s ∧ exec (.testPulseEnd b) s = .next s :=
  ⟨congrArg Host.Outcome.next (s.safeRun_of_off (fun s => s.safeLock 7 0 false) h),
    congrArg Host.Outcome.next (s.safeRun_of_off State.safeResetDone h), congrArg Host.Outcome.next (s.safeRun_of_off State.safeRecord h),
    congrArg Host.Outcome.next (s.safeRun_of_off (fun s => s.testPulseEnd b) h)⟩

/-! ### Faults (R331, R332) -/

theorem Locked.marker {s t : State} {c i : Nat} {b : Bool} (h : Locked s t c i b) : t.safe.array.marker = true := by
  obtain ⟨o, ho⟩ := h.safe
  rw [ho]
  rfl

theorem Locked.acked {s t : State} {c i : Nat} {b : Bool} (h : Locked s t c i b) :
    t.safe.acked = s.safe.acked &&& ~~~(BitVec.ofNat 4 (s.get Fd.SAFE_STATUS_OUTON)) := by
  obtain ⟨o, ho⟩ := h.safe
  rw [ho]

theorem safeDiscrepancy_answers (i : Fin 8) (x : Nat) (s : State) (hon : s.pmu.clocksOff = false) (hx : s.safe.differ[i] = some x)
    (hen : s.on (Fd.SAFE_IN_CFG_EN i) = true) (hlock : s.on Fd.SAFE_STATUS_LOCK = false) (hundo : s.safe.undo = none) :
    Answers (.safeDiscrepancy i) s fun t =>
    t.get Fd.SAFE_STATUS_LOCK = 1 ∧ t.get Fd.SAFE_STATUS_OUTON = 0 ∧ t.get Fd.SAFE_LOCKREC_CAUSE = 1 ∧ t.get Fd.SAFE_LOCKREC_INDEX = i.val ∧
      t.flag Ev.SAFE_FLAGS_LOCK = true ∧ t.safe.array.marker = true ∧ x + 20 * tMs ≤ t.now ∧ t.mem = s.mem := by
  refine ⟨s.safeRun fun s => s.safeDiscrepancy i, rfl, ?_⟩
  rw [s.safeRun_of_on _ hon, State.safeDiscrepancy, hx]
  dsimp only
  rw [if_pos hen, State.fresh_eq]
  dsimp only
  have hnow := s.le_reachNow_now (x + 20 * tMs)
  have hsafe : (s.reachNow (x + 20 * tMs)).freed.safe = s.safe := s.reachNow_safe _
  have hlock' : (s.reachNow (x + 20 * tMs)).freed.on Fd.SAFE_STATUS_LOCK = false := (s.reachNow_on _ _).trans hlock
  have hmem : (s.reachNow (x + 20 * tMs)).freed.mem = s.mem := s.reachNow_memory _
  have hnow' : x + 20 * tMs ≤ (s.reachNow (x + 20 * tMs)).freed.now := hnow
  generalize Config.freeWord _ = w
  generalize (s.reachNow (x + 20 * tMs)).freed = r at hsafe hlock' hmem hnow' ⊢
  have h := r.safeLock_of_free 1 i.val (w.getLsbD 0) (by rw [hsafe]; exact hundo) hlock'
  exact ⟨h.lock, h.outon, h.cause, h.index.trans (Nat.mod_eq_of_lt i.isLt), h.flag, h.marker, by rw [h.now]; exact hnow', h.mem.trans hmem⟩

theorem safeReadbackFault_answers (j : Fin 4) (b : Bool) (s : State) (hon : s.pmu.clocksOff = false) (hundo : s.safe.undo = none)
    (hlock : s.on Fd.SAFE_STATUS_LOCK = false) : Answers (.safeReadbackFault j b) s fun t =>
    t.get Fd.SAFE_STATUS_LOCK = 1 ∧ t.get Fd.SAFE_STATUS_OUTON = 0 ∧ t.get Fd.SAFE_LOCKREC_CAUSE = 4 ∧ t.get Fd.SAFE_LOCKREC_INDEX = j.val ∧
      t.get Fd.SAFE_LOCKREC_CH = b.toNat ∧ t.get Fd.SAFE_LOCKREC_LOCKCNT = min 0xFFFF (s.safe.array.count + 1) ∧
      t.flag Ev.SAFE_FLAGS_LOCK = true ∧ t.safe.array.marker = true ∧
      t.safe.acked = s.safe.acked &&& ~~~(BitVec.ofNat 4 (s.get Fd.SAFE_STATUS_OUTON)) ∧ s.safe.outAt[j] + 500 * tUs < t.now ∧ t.mem = s.mem := by
  refine ⟨s.safeRun fun s => s.readbackFault j b, rfl, ?_⟩
  rw [s.safeRun_of_on _ hon, State.readbackFault]
  dsimp only
  have hnow := s.le_reachNow_now (s.safe.outAt[j] + 500 * tUs + 1)
  have hsafe := s.reachNow_safe (s.safe.outAt[j] + 500 * tUs + 1)
  have hfield := s.reachNow_field (s.safe.outAt[j] + 500 * tUs + 1)
  have hmem := s.reachNow_memory (s.safe.outAt[j] + 500 * tUs + 1)
  generalize s.reachNow (s.safe.outAt[j] + 500 * tUs + 1) = r at hnow hsafe hfield hmem ⊢
  obtain ⟨v, hv⟩ : ∃ v, v = (r.safeM fun u => { u with
      rbStuck := putBit8 u.rbStuck (j.val + 4 * b.toNat) true, rbLevel := putBit8 u.rbLevel (j.val + 4 * b.toNat)
        (!(s.get (if b = true then Fd.SAFE_OUTPUTS_CMDB else Fd.SAFE_OUTPUTS_CMDA)).testBit j.val) }).readbackShow := ⟨_, rfl⟩
  have hvsafe : v.safe.undo = none ∧ v.safe.acked = s.safe.acked ∧ v.safe.array = s.safe.array := by
    rw [hv, State.readbackShow_safe, State.safeM_safe, hsafe]
    exact ⟨hundo, rfl, rfl⟩
  have hvget (f : Fld) (hf : f.addr ≠ Reg.SAFE_OUTPUTS) : v.get f = s.get f := by rw [hv, State.readbackShow_get _ _ hf, State.safeM_get, hfield]
  have hvnow : v.now = r.now := by rw [hv, State.readbackShow_now, State.safeM_now]
  have hvmem : v.mem = s.mem := by rw [hv, State.readbackShow_mem, State.safeM_mem, hmem]
  rw [← hv]
  clear hv
  obtain ⟨hvundo, hvacked, hvarray⟩ := hvsafe
  have h := v.safeLock_of_free 4 j.val b hvundo (by rw [State.on, hvget _ (by decide)]; exact hlock)
  refine ⟨h.lock, h.outon, h.cause, h.index.trans (Nat.mod_eq_of_lt (by omega)), h.ch.trans (Nat.mod_eq_of_lt (Bool.toNat_lt b)), ?_, h.flag,
    h.marker, ?_, ?_, h.mem.trans hvmem⟩
  · rw [h.lockcnt, hvarray]
  · rw [h.acked, hvacked, hvget _ (by decide)]
  · rw [h.now, hvnow]
    omega

theorem safeLogicCompareFault_answers (s : State) (hon : s.pmu.clocksOff = false) (hundo : s.safe.undo = none)
    (hlock : s.on Fd.SAFE_STATUS_LOCK = false) : Answers .safeLogicCompareFault s fun t =>
    t.get Fd.SAFE_STATUS_LOCK = 1 ∧ t.get Fd.SAFE_STATUS_OUTON = 0 ∧ t.get Fd.SAFE_LOCKREC_CAUSE = 5 ∧ t.safe.array.marker = true ∧
      t.now = s.now ∧ t.mem = s.mem := by
  refine ⟨s.safeRun fun s => s.safeLock 5 0 false, rfl, ?_⟩
  rw [s.safeRun_of_on _ hon]
  have h := s.safeLock_of_free 5 0 false hundo hlock
  exact ⟨h.lock, h.outon, h.cause, h.marker, h.now, h.mem⟩

theorem safeOscFault_answers (s : State) (hon : s.pmu.clocksOff = false) (hundo : s.safe.undo = none)
    (hlock : s.on Fd.SAFE_STATUS_LOCK = false) : Answers .safeOscFault s fun t =>
    t.get Fd.SAFE_STATUS_LOCK = 1 ∧ t.get Fd.SAFE_STATUS_OUTON = 0 ∧ t.get Fd.SAFE_LOCKREC_CAUSE = 7 ∧ t.safe.array.marker = true ∧
      t.now = s.now ∧ t.mem = s.mem := by
  refine ⟨s.safeRun fun s => s.safeLock 7 0 false, rfl, ?_⟩
  rw [s.safeRun_of_on _ hon]
  have h := s.safeLock_of_free 7 0 false hundo hlock
  exact ⟨h.lock, h.outon, h.cause, h.marker, h.now, h.mem⟩

/-- R332: a fault during a lock-out changes nothing but a running reset procedure and, within its SAFE cycle, the record. -/
theorem State.safeLock_of_locked (s : State) (c i : Nat) (b : Bool) (hundo : s.safe.undo = none) (hlock : s.on Fd.SAFE_STATUS_LOCK = true) :
    (∀ f : Fld, ProcKept f → f.addr ≠ Reg.SAFE_LOCKREC → (s.safeLock c i b).get f = s.get f) ∧ (s.safeLock c i b).now = s.now ∧
      (s.safeLock c i b).mem = s.mem := by
  have hget := s.safeProcEnd_get
  have hnow := s.safeProcEnd_now
  have hmem := s.safeProcEnd_mem
  have hundone : s.safeProcEnd.safeUndone = s.safeProcEnd := State.safeUndone_of_none _ (by rw [s.safeProcEnd_safe]; exact hundo)
  have hheld : s.safeProcEnd.on Fd.SAFE_STATUS_LOCK = true := by rw [State.on, s.safeProcEnd_get _ (by decide), ← State.on, hlock]
  rw [State.safeLock]
  dsimp only
  rw [hundone, if_pos hheld]
  generalize s.safeProcEnd = p at hget hnow hmem ⊢
  split
  · obtain ⟨-, -, -, hrest⟩ := p.lockRecord_get c i b
    refine ⟨fun f hf hrec => (hrest f hrec).trans (hget f hf), ?_, ?_⟩
    · rw [State.lockRecord, State.putB, State.put_now, State.put_now, State.put_now, hnow]
    · rw [State.lockRecord, State.putB, State.put_mem, State.put_mem, State.put_mem, hmem]
  · exact ⟨fun f hf _ => hget f hf, hnow, hmem⟩

/-! ### Demands (R328) -/

theorem safePwmClockLoss_answers (s : State) (hon : s.pmu.clocksOff = false) (hclk : s.pwmClk = false) (hundo : s.safe.undo = none)
    (hran : s.on Fd.SAFE_STATUS_PWMCLK = true) : Answers .safePwmClockLoss s fun t =>
    t.get Fd.SAFE_STATUS_PWMCLK = 0 ∧ (s.on Fd.SAFE_STATUS_LOCK = false ∨ s.get Fd.SAFE_STATUS_OUTON = 0 → t.get Fd.SAFE_STATUS_OUTON = 0) ∧
      s.now + tUs ≤ t.now ∧
      (s.get Fd.SAFE_STATUS_OUTON ≠ 0 ∧ s.on Fd.SAFE_STATUS_LOCK = false → t.get Fd.SAFE_STATUS_LOCK = 1 ∧ t.get Fd.SAFE_LOCKREC_CAUSE = 8) ∧
      (s.get Fd.SAFE_STATUS_OUTON = 0 → t.get Fd.SAFE_STATUS_LOCK = s.get Fd.SAFE_STATUS_LOCK) ∧ t.mem = s.mem := by
  refine ⟨s.safeRun State.safePwmLoss, rfl, ?_⟩
  rw [s.safeRun_of_on _ hon, State.safePwmLoss, if_neg (by rw [hclk, hran]; decide)]
  dsimp only
  have hnow := s.le_reachNow_now (s.now + tUs)
  have hsafe := s.reachNow_safe (s.now + tUs)
  have hfield := s.reachNow_field (s.now + tUs)
  have hmem := s.reachNow_memory (s.now + tUs)
  generalize s.reachNow (s.now + tUs) = r at hnow hsafe hfield hmem ⊢
  have hclk0 : (r.put Fd.SAFE_STATUS_PWMCLK 0).get Fd.SAFE_STATUS_PWMCLK = 0 := by
    rw [State.get_put_within _ _ _ (by decide)]
    rfl
  have hlock : (r.put Fd.SAFE_STATUS_PWMCLK 0).get Fd.SAFE_STATUS_LOCK = s.get Fd.SAFE_STATUS_LOCK := by
    rw [State.get_put_apart _ _ _ _ (by decide) (by decide), hfield]
  have hundo' : (r.put Fd.SAFE_STATUS_PWMCLK 0).safe.undo = none := by rw [State.put_safe, hsafe, hundo]
  have hnow' : s.now + tUs ≤ (r.put Fd.SAFE_STATUS_PWMCLK 0).now := by rw [State.put_now]; exact hnow
  have hmem' : (r.put Fd.SAFE_STATUS_PWMCLK 0).mem = s.mem := by rw [State.put_mem, hmem]
  generalize r.put Fd.SAFE_STATUS_PWMCLK 0 = v at hclk0 hlock hundo' hnow' hmem' ⊢
  by_cases hany : s.get Fd.SAFE_STATUS_OUTON = 0
  · have hnone : gather 4 v.outputOn = 0 := State.outputOn_of_blocked _ (.inl (by rw [State.on, hclk0]; rfl))
    rw [hany, if_neg (by decide), v.safeEval_outon, v.safeEval_now, v.safeEval_mem,
      v.safeEval_get Fd.SAFE_STATUS_PWMCLK (by decide), v.safeEval_get Fd.SAFE_STATUS_LOCK (by decide)]
    exact ⟨hclk0, fun _ => hnone, hnow', fun h => absurd rfl h.1, fun _ => hlock, hmem'⟩
  rw [if_pos (bne_iff_ne.mpr hany)]
  cases hheld : s.on Fd.SAFE_STATUS_LOCK with
  | false =>
    have h := v.safeLock_of_free 8 0 false hundo' (by rw [State.on, hlock]; exact hheld)
    exact ⟨(h.kept _ (by decide) (by decide) (by decide) (by decide) (by decide) (by decide)).trans hclk0, fun _ => h.outon,
      by rw [h.now]; exact hnow', fun _ => ⟨h.lock, h.cause⟩, fun h0 => absurd h0 hany, h.mem.trans hmem'⟩
  | true =>
    obtain ⟨hget, hnow2, hmem2⟩ := v.safeLock_of_locked 8 0 false hundo' (by rw [State.on, hlock]; exact hheld)
    exact ⟨(hget _ (by decide) (by decide)).trans hclk0, fun h => absurd (h.resolve_left Bool.noConfusion) hany, by rw [hnow2]; exact hnow',
      fun h => Bool.noConfusion h.2, fun h0 => absurd h0 hany, hmem2.trans hmem'⟩

theorem safePwmClockReturn_answers (s : State) (hon : s.pmu.clocksOff = false) (hclk : s.pwmClk = true) : Answers .safePwmClockReturn s fun t =>
    t.get Fd.SAFE_STATUS_PWMCLK = 1 ∧ t.get Fd.SAFE_STATUS_LOCK = s.get Fd.SAFE_STATUS_LOCK ∧ t.now = s.now ∧ t.mem = s.mem := by
  refine ⟨s.safeRun State.safePwmReturn, rfl, ?_⟩
  rw [s.safeRun_of_on _ hon, State.safePwmReturn, if_pos hclk]
  refine ⟨?_, ?_, ?_, ?_⟩
  · rw [State.safeEval_get _ _ (by decide), State.get_put_within _ _ _ (by decide)]
    rfl
  · rw [State.safeEval_get _ _ (by decide), State.get_put_apart _ _ _ _ (by decide) (by decide)]
  · rw [State.safeEval_now, State.put_now]
  · rw [State.safeEval_mem, State.put_mem]

theorem safeSupplyDemand_answers (s : State) (hon : s.pmu.clocksOff = false) : Answers .safeSupplyDemand s fun t =>
    t.get Fd.SAFE_STATUS_SUPPLY = 1 ∧ t.get Fd.SAFE_STATUS_OUTON = 0 ∧ t.get Fd.SAFE_STATUS_LOCK = s.get Fd.SAFE_STATUS_LOCK ∧
      (s.get Fd.SAFE_STATUS_OUTON ≠ 0 → s.on Fd.SAFE_STATUS_LOCK = false → t.flag Ev.SAFE_FLAGS_DEMAND = true) ∧ t.now = s.now ∧
      t.mem = s.mem := by
  refine ⟨s.safeRun State.safeSupply, rfl, ?_⟩
  rw [s.safeRun_of_on _ hon, State.safeSupply]
  have hsupply : (s.put Fd.SAFE_STATUS_SUPPLY 1).get Fd.SAFE_STATUS_SUPPLY = 1 := by
    rw [State.get_put_within _ _ _ (by decide)]
    rfl
  have hlock : (s.put Fd.SAFE_STATUS_SUPPLY 1).get Fd.SAFE_STATUS_LOCK = s.get Fd.SAFE_STATUS_LOCK :=
    State.get_put_apart _ _ _ _ (by decide) (by decide)
  have houton : (s.put Fd.SAFE_STATUS_SUPPLY 1).get Fd.SAFE_STATUS_OUTON = s.get Fd.SAFE_STATUS_OUTON :=
    State.get_put_apart _ _ _ _ (by decide) (by decide)
  have hnone : gather 4 (s.put Fd.SAFE_STATUS_SUPPLY 1).outputOn = 0 :=
    State.outputOn_of_blocked _ (.inr (.inl (by rw [State.on, hsupply]; rfl)))
  refine ⟨?_, ?_, ?_, fun hwas hfree => ?_, ?_, ?_⟩
  · rw [State.safeEval_get _ _ (by decide), hsupply]
  · rw [State.safeEval_outon, hnone]
  · rw [State.safeEval_get _ _ (by decide), hlock]
  · exact State.safeEval_demand _ (by rw [State.safeOff_of_blocked _ hnone, houton]; exact hwas) (by rw [State.on, hlock]; exact hfree)
  · rw [State.safeEval_now, State.put_now]
  · rw [State.safeEval_mem, State.put_mem]

/-! ### The record (R333) -/

theorem safeLockoutRecord_answers (s : State) (hon : s.pmu.clocksOff = false) (hmark : s.safe.array.marker = true)
    (hlock : s.on Fd.SAFE_STATUS_LOCK = true) : Answers .safeLockoutRecord s fun t =>
    t.safe.array.marker = false ∧ t.safe.array.record = some (s.rdN Reg.SAFE_LOCKREC % 256) ∧ t.safe.array.count = s.safe.array.count ∧
      t.regs = s.regs ∧ t.mem = s.mem := by
  refine ⟨s.safeRun State.safeRecord, rfl, ?_⟩
  rw [s.safeRun_of_on _ hon, State.safeRecord, if_pos (by rw [hmark, hlock]; rfl)]
  exact ⟨rfl, rfl, rfl, rfl, rfl⟩

end Sys2Proof.Machine

/-! SUPPORT. SAFE's inputs, test pulses, reset procedure and self-test, and the obligation (R326–R338). -/
namespace Sys2Proof.Machine

set_option Elab.async false

/-! ### Inputs (R326) -/

theorem getLsbD_one_shift8 : ∀ i j : Fin 8, (1#8 <<< i.val).getLsbD j.val = decide (j = i) := by decide

theorem getLsbD_putBit8 (v : BitVec 8) (i j : Fin 8) (b : Bool) : (putBit8 v i.val b).getLsbD j.val = if j = i then b else v.getLsbD j.val := by
  have hbit := getLsbD_one_shift8 i j
  rw [putBit8]
  cases b with
  | true =>
    rw [if_pos rfl, BitVec.getLsbD_or, hbit]
    by_cases h : j = i <;> simp [h]
  | false =>
    rw [if_neg Bool.false_ne_true, BitVec.getLsbD_and, BitVec.getLsbD_not, hbit, decide_eq_true j.isLt]
    by_cases h : j = i <;> simp [h]

/-- The status view's raw sample. -/
def rawBit (i : Fin 8) (b : Bool) : Fld :=
  ⟨(if b then Fd.SAFE_INPUTS_RAWB else Fd.SAFE_INPUTS_RAWA).addr, (if b then Fd.SAFE_INPUTS_RAWB else Fd.SAFE_INPUTS_RAWA).lo + i.val, 1⟩

/-- The unit as a channel's new level leaves it. -/
def SafeUnit.filtered (u : SafeUnit) (i : Fin 8) (b l : Bool) : SafeUnit :=
  if b then { u with filtB := putBit8 u.filtB i l } else { u with filtA := putBit8 u.filtA i l }

/-- R326: what a channel's new level changes, after its samples. -/
theorem State.safeInput_of_held (s : State) (i : Fin 8) (b l : Bool) (n : Nat) (hheld : s.filterHeld i b = false) (hn : s.filtSamples i n ≤ n) :
    ∃ v : State, s.safeInput i b l n = v.safeEval ∧ v.safe.filtA = (s.safe.filtered i b l).filtA ∧
      v.safe.filtB = (s.safe.filtered i b l).filtB ∧ v.now = s.now ∧ v.mem = s.mem ∧
      (∀ f : Fld, f.addr ≠ Reg.SAFE_INPUTS → v.get f = s.get f) := by
  have hraw : (rawBit i b).addr = Reg.SAFE_INPUTS ∧ (rawBit i b).lo + (rawBit i b).w ≤ 32 := by
    unfold rawBit
    cases b <;> exact ⟨rfl, by simp only [Fd.SAFE_INPUTS_RAWA, Fd.SAFE_INPUTS_RAWB, if_true, Bool.false_eq_true, if_false]; omega⟩
  obtain ⟨r, hr⟩ : ∃ r, r = s.putB (rawBit i b) l := ⟨_, rfl⟩
  have hrget (f : Fld) (hf : f.addr ≠ Reg.SAFE_INPUTS) : r.get f = s.get f := by
    rw [hr, State.putB, State.get_put_apart _ _ _ _ hraw.2 (.inl (by rw [hraw.1]; exact hf))]
  have hrsafe : r.safe = s.safe := by rw [hr, State.putB, State.put_safe]
  have hrnow : r.now = s.now := by rw [hr, State.putB, State.put_now]
  have hrmem : r.mem = s.mem := by rw [hr, State.putB, State.put_mem]
  have hcfg (x : Nat) : Reg.SAFE_IN_CFG x ≠ Reg.SAFE_INPUTS := by
    unfold Reg.SAFE_IN_CFG Reg.SAFE_INPUTS
    omega
  have hheld' : r.filterHeld i b = false := by
    rw [← hheld, State.filterHeld, State.filterHeld, State.on, State.on, hrget _ (hcfg i.val), hrsafe, hrnow]
  have hn' : ¬ n < r.filtSamples i n := by
    rw [State.filtSamples, hrget _ (hcfg i.val), hrsafe, hrnow, ← State.filtSamples]
    omega
  rw [State.safeInput]
  dsimp only
  rw [show (⟨(if b = true then Fd.SAFE_INPUTS_RAWB else Fd.SAFE_INPUTS_RAWA).addr,
    (if b = true then Fd.SAFE_INPUTS_RAWB else Fd.SAFE_INPUTS_RAWA).lo + i.val, 1⟩ : Fld) = rawBit i b from rfl, ← hr,
    hheld', if_neg (by simpa using hn')]
  refine ⟨_, rfl, ?_, ?_, ?_, ?_, fun f hf => ?_⟩
  · rw [State.safeM_safe, State.safeM_safe, State.safeM_safe, hrsafe, SafeUnit.filtered]
    split <;> rfl
  · rw [State.safeM_safe, State.safeM_safe, State.safeM_safe, hrsafe, SafeUnit.filtered]
    split <;> rfl
  · rw [State.safeM_now, State.safeM_now, State.safeM_now, hrnow]
  · rw [State.safeM_mem, State.safeM_mem, State.safeM_mem, hrmem]
  · rw [State.safeM_get, State.safeM_get, State.safeM_get, hrget f hf]

theorem SafeUnit.filtered_bits (u : SafeUnit) (i : Fin 8) (b l : Bool) :
    (if b = true then (u.filtered i b l).filtB else (u.filtered i b l).filtA).getLsbD i.val = l ∧
      (if b = true then (u.filtered i b l).filtA = u.filtA else (u.filtered i b l).filtB = u.filtB) ∧
      ∀ j : Fin 8, j ≠ i → (u.filtered i b l).filtA.getLsbD j.val = u.filtA.getLsbD j.val ∧
        (u.filtered i b l).filtB.getLsbD j.val = u.filtB.getLsbD j.val := by
  have hself (v : BitVec 8) : (putBit8 v i.val l).getLsbD i.val = l := (getLsbD_putBit8 v i i l).trans (if_pos rfl)
  have hother (v : BitVec 8) (j : Fin 8) (hj : j ≠ i) : (putBit8 v i.val l).getLsbD j.val = v.getLsbD j.val :=
    (getLsbD_putBit8 v i j l).trans (if_neg hj)
  cases b with
  | true => exact ⟨hself _, rfl, fun j hj => ⟨rfl, hother _ j hj⟩⟩
  | false => exact ⟨hself _, rfl, fun j hj => ⟨hother _ j hj, rfl⟩⟩

theorem safeInputChange_answers (i : Fin 8) (b l : Bool) (n : Nat) (s : State) (hon : s.pmu.clocksOff = false)
    (hheld : s.filterHeld i b = false) (hn : s.filtSamples i n ≤ n) : Answers (.safeInputChange i b ⟨l, n⟩) s fun t =>
    (if b = true then t.safe.filtB else t.safe.filtA).getLsbD i.val = l ∧
      (if b = true then t.safe.filtA = s.safe.filtA else t.safe.filtB = s.safe.filtB) ∧
      (∀ j : Fin 8, j ≠ i → t.safe.filtA.getLsbD j.val = s.safe.filtA.getLsbD j.val ∧
        t.safe.filtB.getLsbD j.val = s.safe.filtB.getLsbD j.val) ∧
      (t.get Fd.SAFE_INPUTS_PERMIT).testBit i.val = (s.on (Fd.SAFE_IN_CFG_EN i) && t.safe.filtA.getLsbD i.val && t.safe.filtB.getLsbD i.val) ∧
      (s.get (Fd.SAFE_OUT_CFG_MAP 0) = 2 ^ i.val → t.safe.filtA.getLsbD i.val = false → (t.get Fd.SAFE_STATUS_OUTON).testBit 0 = false) ∧
      t.now = s.now ∧ t.mem = s.mem := by
  refine ⟨s.safeRun fun s => s.safeInput i b l n, rfl, ?_⟩
  obtain ⟨v, hv, hA, hB, hnow, hmem, hget⟩ := s.safeInput_of_held i b l n hheld hn
  rw [s.safeRun_of_on _ hon, hv]
  obtain ⟨o, ho⟩ := v.safeEval_safe
  have hA' : v.safeEval.safe.filtA = (s.safe.filtered i b l).filtA := by rw [ho]; exact hA
  have hB' : v.safeEval.safe.filtB = (s.safe.filtered i b l).filtB := by rw [ho]; exact hB
  have hpermits : v.permits i.val = (s.on (Fd.SAFE_IN_CFG_EN i) && (s.safe.filtered i b l).filtA.getLsbD i.val &&
      (s.safe.filtered i b l).filtB.getLsbD i.val) := by
    rw [State.permits, hA, hB, State.on, hget _ (by simp only [Fd.SAFE_IN_CFG_EN, Reg.SAFE_IN_CFG, Reg.SAFE_INPUTS]; omega), ← State.on]
  obtain ⟨hself, hsame, hother⟩ := s.safe.filtered_bits i b l
  rw [hA', hB', v.safeEval_permit, v.safeEval_outon, v.safeEval_now, v.safeEval_mem, testBit_gather 8 _ i.isLt, testBit_gather 4 _ (by decide)]
  refine ⟨hself, hsame, hother, hpermits, fun hmap hoff => ?_, hnow, hmem⟩
  have hmap' : v.get (Fd.SAFE_OUT_CFG_MAP 0) = 2 ^ i.val := by rw [hget _ (by decide), hmap]
  have hno : v.permits i.val = false := by rw [hpermits, hoff, Bool.and_false, Bool.false_and]
  have hall : (List.range 8).all (fun j => !(2 ^ i.val).testBit j || v.permits j) = false := by
    rw [List.all_eq_false]
    exact ⟨i.val, List.mem_range.mpr i.isLt, by rw [Nat.testBit_two_pow_self, hno]; decide⟩
  rw [State.outputOn, hmap', hall]
  simp only [Bool.and_false, Bool.false_and]

/-! ### Test pulses (R329, R330) -/

theorem State.safeRaw_leaves (s : State) (x y : BitVec 8) : (s.safeRaw x y).get Fd.SAFE_INPUTS_RAWA = x.toNat ∧
    (s.safeRaw x y).get Fd.SAFE_INPUTS_RAWB = y.toNat ∧ (s.safeRaw x y).safe = s.safe ∧ (s.safeRaw x y).now = s.now ∧
    (s.safeRaw x y).mem = s.mem ∧ ∀ f : Fld, f.addr ≠ Reg.SAFE_INPUTS → (s.safeRaw x y).get f = s.get f := by
  rw [State.safeRaw]
  refine ⟨?_, ?_, ?_, ?_, ?_, fun f hf => ?_⟩
  · rw [State.get_put_apart _ _ _ _ (by decide) (by decide), State.get_put_within _ _ _ (by decide)]
    exact Nat.mod_eq_of_lt x.isLt
  · rw [State.get_put_within _ _ _ (by decide)]
    exact Nat.mod_eq_of_lt y.isLt
  · rw [State.put_safe, State.put_safe]
  · rw [State.put_now, State.put_now]
  · rw [State.put_mem, State.put_mem]
  · rw [State.get_put_apart _ _ _ _ (by decide) (.inl hf), State.get_put_apart _ _ _ _ (by decide) (.inl hf)]

theorem testPulseEnd_answers (b : Bool) (a : Nat) (s : State) (hon : s.pmu.clocksOff = false)
    (hlow : (if b = true then s.safe.tpB else s.safe.tpA).low = some a) : Answers (.testPulseEnd b) s fun t =>
    (if b = true then t.safe.tpB else t.safe.tpA).low = none ∧ a + 400 * tUs ≤ t.now ∧ t.regs = s.regs ∧ t.mem = s.mem := by
  refine ⟨s.safeRun fun s => s.testPulseEnd b, rfl, ?_⟩
  rw [s.safeRun_of_on _ hon, State.testPulseEnd]
  dsimp only
  rw [hlow]
  dsimp only
  have hnow := s.le_reachNow_now (a + 400 * tUs)
  have hregs : (s.reachNow (a + 400 * tUs)).regs = s.regs := s.advance_regs _
  have hmem := s.reachNow_memory (a + 400 * tUs)
  generalize s.reachNow (a + 400 * tUs) = r at hnow hregs hmem ⊢
  refine ⟨?_, hnow, hregs, hmem⟩
  rw [State.safeM_safe]
  cases b <;> rfl

/-- R329: a pulse as it falls. -/
def TestPulse.fallen (due : Nat) (x y : BitVec 8) : TestPulse := { low := some due, mask := due + 700 * tUs, highA := x, highB := y, toCheck := true }

/-- R329, R330: the state in which a pulse has fallen. -/
theorem State.testPulseStart_of_cycle (s : State) (b : Bool) (x y : BitVec 8) (a : Nat) (ha : s.safe.cycle = some a)
    (hfresh : b = true → s.safe.tpB.mask ≠ a + 10 * tMs + 700 * tUs) : ∃ (due : Nat) (v : State), s.testPulseStart b x y = v.safeRaw x y ∧
    a ≤ due ∧ (b = true → due = a + 10 * tMs) ∧ due ≤ v.now ∧ v.mem = s.mem ∧
      v.safe = (if b = true then { s.safe with tpB := .fallen due x y } else { s.safe with tpA := .fallen due x y, cycle := some due }) := by
  rw [State.testPulseStart, ha]
  dsimp only
  cases b with
  | true =>
    rw [if_pos rfl, if_neg (by simpa using hfresh rfl), Bool.not_true, Bool.false_and, if_neg Bool.false_ne_true]
    refine ⟨a + 10 * tMs, _, rfl, Nat.le_add_right _ _, fun _ => rfl, s.le_reachNow_now _, s.reachNow_memory _, ?_⟩
    rw [State.safeM_safe, State.reachNow_safe]
    rfl
  | false =>
    rw [if_neg Bool.false_ne_true, Bool.false_and, if_neg Bool.false_ne_true, Bool.not_false, Bool.true_and]
    obtain ⟨due, hdue⟩ : ∃ due, due = if (decide (s.safe.tpA.mask = 0) && decide (s.safe.tpB.mask = 0)) = true then a else a + 20 * tMs := ⟨_, rfl⟩
    have hle : a ≤ due := by
      rw [hdue]
      split <;> omega
    rw [← hdue]
    have hnow := s.le_reachNow_now due
    have hmem := s.reachNow_memory due
    have hsafe := s.reachNow_safe due
    generalize s.reachNow due = r at hnow hmem hsafe ⊢
    split
    · refine ⟨due, _, rfl, hle, Bool.noConfusion, ?_, ?_, ?_⟩
      · rw [State.inc32_now, State.safeM_now]
        exact hnow
      · rw [State.inc32_mem, State.safeM_mem, hmem]
      · rw [State.inc32_safe, State.safeM_safe, hsafe]
        rfl
    · refine ⟨due, _, rfl, hle, Bool.noConfusion, ?_, ?_, ?_⟩
      · rw [State.safeM_now]
        exact hnow
      · rw [State.safeM_mem, hmem]
      · rw [State.safeM_safe, hsafe]
        rfl

theorem testPulseStart_answers (b : Bool) (x y : BitVec 8) (a : Nat) (s : State) (hon : s.pmu.clocksOff = false) (ha : s.safe.cycle = some a)
    (hfresh : b = true → s.safe.tpB.mask ≠ a + 10 * tMs + 700 * tUs) : Answers (.testPulseStart b x y) s fun t =>
    (if b = true then t.safe.tpB else t.safe.tpA).low.isSome = true ∧ (if b = true then t.safe.tpB else t.safe.tpA).highA = x ∧ a ≤ t.now ∧
      (b = true → t.safe.tpB.low = some (a + 10 * tMs) ∧ t.safe.tpA = s.safe.tpA) ∧ t.get Fd.SAFE_INPUTS_RAWA = x.toNat ∧
      t.get Fd.SAFE_INPUTS_RAWB = y.toNat ∧ t.mem = s.mem := by
  refine ⟨s.safeRun fun s => s.testPulseStart b x y, rfl, ?_⟩
  obtain ⟨due, v, hv, hle, hb, hnow, hmem, hsafe⟩ := s.testPulseStart_of_cycle b x y a ha hfresh
  rw [s.safeRun_of_on _ hon, hv]
  obtain ⟨hA, hB, hrsafe, hrnow, hrmem, -⟩ := v.safeRaw_leaves x y
  rw [hA, hB, hrnow, hrmem, hrsafe, hsafe]
  cases b with
  | true => exact ⟨rfl, rfl, Nat.le_trans hle hnow, fun _ => ⟨congrArg some (hb rfl), rfl⟩, rfl, rfl, hmem⟩
  | false => exact ⟨rfl, rfl, Nat.le_trans hle hnow, Bool.noConfusion, rfl, rfl, hmem⟩

/-! ### The check sample (R330) -/

/-- R330: the fault of an input at a check sample, as the statement names it. -/
def pulseResponse (b hA hB x y : Bool) : Bool := if b then hA && !x || hB && y else hB && !y || hA && x

theorem pulseFault_isSome (b hA hB x y : Bool) : (pulseFault b hA hB x y).isSome = pulseResponse b hA hB x y := by
  revert b hA hB x y
  decide

/-- R332: a fault of a check sample has cause 2 or 3. -/
theorem pulseFault_cause : ∀ b hA hB x y : Bool, (pulseFault b hA hB x y).all (fun p => p.1 == 2 || p.1 == 3) = true := by decide

/-- One input of a check sample. -/
def State.pulseStep (s : State) (b : Bool) (p : TestPulse) (x y : BitVec 8) (best : Option (Nat × Nat × Bool)) (i : Nat) : Option (Nat × Nat × Bool) :=
  if s.on (Fd.SAFE_IN_CFG_TPEN i) then
    match pulseFault b (p.highA.getLsbD i) (p.highB.getLsbD i) (x.getLsbD i) (y.getLsbD i), best with
    | none, b => b
    | some (c, ch), none => some (c, i, ch)
    | some (c, ch), some (c', i', ch') => if c < c' then some (c, i, ch) else some (c', i', ch')
  else best

theorem State.pulseFaults_eq (s : State) (b : Bool) (p : TestPulse) (x y : BitVec 8) :
    s.pulseFaults b p x y = (List.range 8).foldl (s.pulseStep b p x y) none := rfl

/-- Whether an input responds at a check sample. -/
def State.responds (s : State) (b : Bool) (p : TestPulse) (x y : BitVec 8) (i : Nat) : Bool :=
  s.on (Fd.SAFE_IN_CFG_TPEN i) && pulseResponse b (p.highA.getLsbD i) (p.highB.getLsbD i) (x.getLsbD i) (y.getLsbD i)

theorem State.pulseStep_isSome (s : State) (b : Bool) (p : TestPulse) (x y : BitVec 8) (best : Option (Nat × Nat × Bool)) (i : Nat) :
    (s.pulseStep b p x y best i).isSome = (best.isSome || s.responds b p x y i) := by
  unfold State.pulseStep
  rw [State.responds, ← pulseFault_isSome]
  cases s.on (Fd.SAFE_IN_CFG_TPEN i) with
  | false => rw [if_neg Bool.false_ne_true, Bool.false_and, Bool.or_false]
  | true =>
    rw [if_pos rfl, Bool.true_and]
    generalize pulseFault b (p.highA.getLsbD i) (p.highB.getLsbD i) (x.getLsbD i) (y.getLsbD i) = fault
    obtain _ | ⟨c, ch⟩ := fault
    · rw [Option.isSome_none, Bool.or_false]
    · rw [Option.isSome_some, Bool.or_true]
      obtain _ | ⟨c', i', ch'⟩ := best
      · rfl
      · dsimp only
        split <;> rfl

theorem State.pulseStep_cause (s : State) (b : Bool) (p : TestPulse) (x y : BitVec 8) (best : Option (Nat × Nat × Bool)) (i : Nat)
    (h : ∀ q ∈ best, q.1 = 2 ∨ q.1 = 3) : ∀ q ∈ s.pulseStep b p x y best i, q.1 = 2 ∨ q.1 = 3 := by
  have hcause := pulseFault_cause b (p.highA.getLsbD i) (p.highB.getLsbD i) (x.getLsbD i) (y.getLsbD i)
  unfold State.pulseStep
  split
  swap
  · exact h
  generalize pulseFault b (p.highA.getLsbD i) (p.highB.getLsbD i) (x.getLsbD i) (y.getLsbD i) = fault at hcause ⊢
  obtain _ | ⟨c, ch⟩ := fault
  · exact h
  · have hc : c = 2 ∨ c = 3 := by simpa using hcause
    obtain _ | ⟨c', i', ch'⟩ := best
    · rintro q hq
      obtain rfl := Option.mem_some.mp hq
      exact hc
    · dsimp only
      split
      · rintro q hq
        obtain rfl := Option.mem_some.mp hq
        exact hc
      · exact h

theorem State.pulseFaults_isSome (s : State) (b : Bool) (p : TestPulse) (x y : BitVec 8) :
    (s.pulseFaults b p x y).isSome = true ↔ ∃ i : Fin 8, s.responds b p x y i.val = true := by
  have hfold (l : List Nat) : ∀ best, (l.foldl (s.pulseStep b p x y) best).isSome = (best.isSome || l.any (s.responds b p x y)) := by
    induction l with
    | nil => intro best; rw [List.foldl_nil, List.any_nil, Bool.or_false]
    | cons i l ih => intro best; rw [List.foldl_cons, ih, s.pulseStep_isSome, List.any_cons, Bool.or_assoc]
  rw [s.pulseFaults_eq, hfold, Option.isSome_none, Bool.false_or, List.any_eq_true]
  constructor
  · rintro ⟨i, hi, h⟩
    exact ⟨⟨i, List.mem_range.mp hi⟩, h⟩
  · rintro ⟨i, h⟩
    exact ⟨i.val, List.mem_range.mpr i.isLt, h⟩

theorem State.pulseFaults_cause (s : State) (b : Bool) (p : TestPulse) (x y : BitVec 8) : ∀ q ∈ s.pulseFaults b p x y, q.1 = 2 ∨ q.1 = 3 := by
  rw [s.pulseFaults_eq]
  exact foldl_keeps (fun best => ∀ q ∈ best, q.1 = 2 ∨ q.1 = 3) _ (fun best i => s.pulseStep_cause b p x y best i) _ _ (fun q hq => absurd hq (Option.not_mem_none q))

theorem State.responds_of_same {s t : State} (h : ∀ i : Fin 8, t.get (Fd.SAFE_IN_CFG_TPEN i) = s.get (Fd.SAFE_IN_CFG_TPEN i)) (b : Bool)
    (p : TestPulse) (x y : BitVec 8) (i : Fin 8) : t.responds b p x y i = s.responds b p x y i := by
  rw [State.responds, State.responds, State.on, State.on, h]

theorem testPulseCheck_answers (b : Bool) (x y : BitVec 8) (a : Nat) (s : State) (hon : s.pmu.clocksOff = false)
    (hlow : (if b = true then s.safe.tpB else s.safe.tpA).low = some a) (hcheck : (if b = true then s.safe.tpB else s.safe.tpA).toCheck = true)
    (hundo : s.safe.undo = none) (hlock : s.on Fd.SAFE_STATUS_LOCK = false) : Answers (.testPulseCheck b x y) s fun t =>
    (if b = true then t.safe.tpB else t.safe.tpA).toCheck = false ∧ a + 350 * tUs ≤ t.now ∧
      (t.get Fd.SAFE_STATUS_LOCK = 1 ↔ ∃ i : Fin 8, s.responds b (if b = true then s.safe.tpB else s.safe.tpA) x y i.val = true) ∧
      (t.get Fd.SAFE_STATUS_LOCK = 1 → t.get Fd.SAFE_LOCKREC_CAUSE = 2 ∨ t.get Fd.SAFE_LOCKREC_CAUSE = 3) ∧ t.mem = s.mem := by
  refine ⟨s.safeRun fun s => s.testPulseCheck b x y, rfl, ?_⟩
  rw [s.safeRun_of_on _ hon, State.testPulseCheck]
  dsimp only
  generalize (if b = true then s.safe.tpB else s.safe.tpA) = p at hlow hcheck ⊢
  rw [hlow, hcheck]
  dsimp only
  obtain ⟨-, -, hrsafe, hrnow, hrmem, hrget⟩ := (s.reachNow (a + 350 * tUs)).safeRaw_leaves x y
  have hnow := s.le_reachNow_now (a + 350 * tUs)
  rw [State.reachNow_safe] at hrsafe
  rw [State.reachNow_memory] at hrmem
  rw [← hrnow] at hnow
  have hget (f : Fld) (hf : f.addr ≠ Reg.SAFE_INPUTS) := (hrget f hf).trans (s.reachNow_field _ f)
  generalize (s.reachNow (a + 350 * tUs)).safeRaw x y = r at hrsafe hrmem hnow hget ⊢
  obtain ⟨v, hv⟩ : ∃ v, v = r.safeM fun u => if b = true then { u with tpB := { p with low := some a, toCheck := false } } else
      { u with tpA := { p with low := some a, toCheck := false } } := ⟨_, rfl⟩
  have hvget (f : Fld) (hf : f.addr ≠ Reg.SAFE_INPUTS) : v.get f = s.get f := by rw [hv, State.safeM_get, hget f hf]
  have hvcheck : (if b = true then v.safe.tpB else v.safe.tpA).toCheck = false := by
    rw [hv, State.safeM_safe]
    cases b <;> rfl
  have hvundo : v.safe.undo = none := by
    rw [hv, State.safeM_safe, hrsafe]
    cases b <;> exact hundo
  have hvnow : a + 350 * tUs ≤ v.now := by rw [hv, State.safeM_now]; exact hnow
  have hvmem : v.mem = s.mem := by rw [hv, State.safeM_mem, hrmem]
  rw [← hv]
  clear hv
  have hfaults := v.pulseFaults_isSome b p x y
  have hcause := v.pulseFaults_cause b p x y
  have hsame (i : Fin 8) : v.responds b p x y i = s.responds b p x y i :=
    State.responds_of_same (fun i => hvget _ (by simp only [Fd.SAFE_IN_CFG_TPEN, Reg.SAFE_IN_CFG, Reg.SAFE_INPUTS]; omega)) b p x y i
  simp only [hsame] at hfaults
  have hfree : v.get Fd.SAFE_STATUS_LOCK = 0 := (hvget _ (by decide)).trans (State.get_eq_zero_of_off hlock)
  generalize v.pulseFaults b p x y = faults at hfaults hcause ⊢
  cases faults with
  | none =>
    refine ⟨hvcheck, hvnow, ?_, fun h => ?_, hvmem⟩
    · rw [← hfaults, hfree]
      decide
    · rw [hfree] at h
      cases h
  | some q =>
    obtain ⟨c, i, ch⟩ := q
    have hc : c = 2 ∨ c = 3 := hcause _ rfl
    have h := v.safeLock_of_free c i ch hvundo (by rw [State.on, hfree]; rfl)
    obtain ⟨o, ho⟩ := h.safe
    refine ⟨?_, by rw [h.now]; exact hvnow, ?_, fun _ => ?_, h.mem.trans hvmem⟩
    · rw [ho]
      exact hvcheck
    · rw [← hfaults, h.lock]
      exact iff_of_true rfl rfl
    · rw [h.cause]
      omega

end Sys2Proof.Machine

/-! SUPPORT. SAFE's reset procedure and self-test (R335, R337, R338), and the obligation. -/
namespace Sys2Proof.Machine

set_option Elab.async false

/-! ### The reset procedure (R335) -/

theorem safeResetPulseStart_answers (s : State) (hon : s.pmu.clocksOff = false) (hidle : s.safe.proc = .idle) :
    Answers .safeResetPulseStart s fun t =>
    t.get Fd.SAFE_STATUS_RSTRUN = 1 ∧ t.safe.proc = .pulse s.now s.inputsSafe ∧ SameRegistersBut [Reg.SAFE_STATUS] s t ∧ t.mem = s.mem := by
  refine ⟨s.safeRun State.safeResetStart, rfl, ?_⟩
  rw [s.safeRun_of_on _ hon, State.safeResetStart, hidle]
  dsimp only
  refine ⟨?_, ?_, fun a ha => ?_, ?_⟩
  · rw [State.get_put_within _ _ _ (by decide)]
    rfl
  · rw [State.put_safe, State.safeM_safe]
  · rw [State.rd_put_other _ _ _ _ (by simpa [Fd.SAFE_STATUS_RSTRUN] using ha), State.safeM_rd]
  · rw [State.put_mem, State.safeM_mem]

theorem State.inputsSafe_of_same {s t : State} (hget : ∀ f, t.get f = s.get f) (hsafe : t.safe = s.safe) : t.inputsSafe = s.inputsSafe := by
  simp only [State.inputsSafe, State.on, hget, hsafe]

/-- R335: the rising edge of SRST_N, after the reset pulse's width has passed. -/
theorem State.safeResetRise_of_pulse (s : State) (n a : Nat) (b c : Bool) (hp : s.safe.proc = .pulse a b) :
    s.safeResetRise n c = if (c && b && s.inputsSafe && decide (200000 ≤ n) && decide (n ≤ 2000000)) = true then
      ((s.reachNow (a + n * tUs)).safeM fun u => { u with proc := .clearing }).put Fd.SAFE_STATUS_SELFTEST 1
    else (s.reachNow (a + n * tUs)).safeProcEnd := by
  have hin : (s.reachNow (a + n * tUs)).inputsSafe = s.inputsSafe := State.inputsSafe_of_same (s.reachNow_field _) (s.reachNow_safe _)
  have hcond : (decide (200000 ≤ n) && decide (n ≤ 2000000) && b && s.inputsSafe && c) =
      (c && b && s.inputsSafe && decide (200000 ≤ n) && decide (n ≤ 2000000)) := by
    rw [Bool.eq_iff_iff]
    simp only [Bool.and_eq_true]
    tauto
  rw [State.safeResetRise, hp]
  dsimp only
  rw [hin, hcond]

theorem safeResetProcedure_clears (n a : Nat) (b c : Bool) (s : State) (hon : s.pmu.clocksOff = false) (hp : s.safe.proc = .pulse a b)
    (hok : (c && b && s.inputsSafe && decide (200000 ≤ n) && decide (n ≤ 2000000)) = true) : Answers (.safeResetProcedure n c) s fun t =>
    t.safe.proc = .clearing ∧ t.get Fd.SAFE_STATUS_SELFTEST = 1 ∧ SameRegistersBut [Reg.SAFE_STATUS] s t ∧ a + n * tUs ≤ t.now ∧
      t.mem = s.mem := by
  refine ⟨s.safeRun fun s => s.safeResetRise n c, rfl, ?_⟩
  rw [s.safeRun_of_on _ hon, s.safeResetRise_of_pulse n a b c hp, if_pos hok]
  have hnow := s.le_reachNow_now (a + n * tUs)
  have hrd (x : Nat) : (s.reachNow (a + n * tUs)).rd x = s.rd x := s.advance_rd _ x
  have hmem := s.reachNow_memory (a + n * tUs)
  generalize s.reachNow (a + n * tUs) = r at hnow hrd hmem ⊢
  refine ⟨?_, ?_, fun x hx => ?_, ?_, ?_⟩
  · rw [State.put_safe, State.safeM_safe]
  · rw [State.get_put_within _ _ _ (by decide)]
    rfl
  · rw [State.rd_put_other _ _ _ _ (by simpa [Fd.SAFE_STATUS_SELFTEST] using hx), State.safeM_rd, hrd]
  · rw [State.put_now, State.safeM_now]
    exact hnow
  · rw [State.put_mem, State.safeM_mem, hmem]

theorem safeResetProcedure_refused (n a : Nat) (b c : Bool) (s : State) (hon : s.pmu.clocksOff = false) (hp : s.safe.proc = .pulse a b)
    (hno : (c && b && s.inputsSafe && decide (200000 ≤ n) && decide (n ≤ 2000000)) = false) : Answers (.safeResetProcedure n c) s fun t =>
    t.safe.proc = .idle ∧ t.flag Ev.SAFE_FLAGS_RSTREF = true ∧ t.get Fd.SAFE_STATUS_RSTRUN = 0 ∧
      t.get Fd.SAFE_STATUS_LOCK = s.get Fd.SAFE_STATUS_LOCK ∧ t.mem = s.mem := by
  refine ⟨s.safeRun fun s => s.safeResetRise n c, rfl, ?_⟩
  rw [s.safeRun_of_on _ hon, s.safeResetRise_of_pulse n a b c hp, if_neg (by rw [hno]; decide)]
  have hget := s.reachNow_field (a + n * tUs)
  have hsafe := s.reachNow_safe (a + n * tUs)
  have hmem := s.reachNow_memory (a + n * tUs)
  generalize s.reachNow (a + n * tUs) = r at hget hsafe hmem ⊢
  have hended : r.safeProcEnd = r.procEnded := by
    obtain ⟨h, -⟩ | ⟨-, h⟩ | ⟨h, -⟩ := r.safeProcEnd_cases
    · rw [hsafe, hp] at h
      cases h
    · exact h
    · rw [hsafe, hp] at h
      cases h
  refine ⟨?_, ?_, ?_, ?_, ?_⟩
  · rw [r.safeProcEnd_safe]
  · rw [hended]
    exact State.flag_raise _ _ (by decide) (by decide)
  · rw [hended, State.procEnded, State.get_raise_other _ _ _ (by decide) (by decide) (by decide), State.get_put_within _ _ _ (by decide)]
    rfl
  · rw [r.safeProcEnd_get _ (by decide), hget]
  · rw [r.safeProcEnd_mem, hmem]

/-- The unit as the end of a reset procedure leaves it, before its outputs are evaluated. -/
def SafeUnit.cleared (u : SafeUnit) (before : SafeUndo) : SafeUnit :=
  { u with undo := some before, proc := .idle, acked := 15#4, rbStuck := 0, lockAt := none, array := { u.array with marker := false, record := none } }

/-- R335: the status and the record as the end of a reset procedure clears them. -/
def State.resetCleared (s : State) : State :=
  ((((((s.safeM fun u => u.cleared s.safeBefore).put Fd.SAFE_STATUS_RSTRUN 0).put Fd.SAFE_STATUS_SELFTEST 0).put Fd.SAFE_STATUS_LOCK 0).put
    Fd.SAFE_LOCKREC_CAUSE 0).put Fd.SAFE_LOCKREC_INDEX 0).put Fd.SAFE_LOCKREC_CH 0

theorem State.safeResetDone_of_clearing (s : State) (h : s.safe.proc = .clearing) :
    s.safeResetDone = (s.resetCleared.raise Ev.SAFE_FLAGS_RSTDONE).safeEval := by
  rw [State.safeResetDone, h]
  rfl

theorem State.resetCleared_safe (s : State) : s.resetCleared.safe = s.safe.cleared s.safeBefore := by
  rw [State.resetCleared, State.put_safe, State.put_safe, State.put_safe, State.put_safe, State.put_safe, State.put_safe, State.safeM_safe]

theorem State.resetCleared_pmu (s : State) : s.resetCleared.pmu = s.pmu := by
  rw [State.resetCleared, State.put_pmu, State.put_pmu, State.put_pmu, State.put_pmu, State.put_pmu, State.put_pmu, State.safeM_pmu]

theorem State.resetCleared_now (s : State) : s.resetCleared.now = s.now := by
  rw [State.resetCleared, State.put_now, State.put_now, State.put_now, State.put_now, State.put_now, State.put_now, State.safeM_now]

theorem State.resetCleared_mem (s : State) : s.resetCleared.mem = s.mem := by
  rw [State.resetCleared, State.put_mem, State.put_mem, State.put_mem, State.put_mem, State.put_mem, State.put_mem, State.safeM_mem]

theorem State.resetCleared_get (s : State) (f : Fld) (hrun : f.addr ≠ Reg.SAFE_STATUS ∨ f.lo + f.w ≤ 12 ∨ 13 ≤ f.lo)
    (hself : f.addr ≠ Reg.SAFE_STATUS ∨ f.lo + f.w ≤ 1 ∨ 2 ≤ f.lo) (hlock : f.addr ≠ Reg.SAFE_STATUS ∨ f.lo + f.w ≤ 0 ∨ 1 ≤ f.lo)
    (hrec : f.addr ≠ Reg.SAFE_LOCKREC) : s.resetCleared.get f = s.get f := by
  rw [State.resetCleared, State.get_put_apart _ _ _ _ (by decide) (.inl hrec), State.get_put_apart _ _ _ _ (by decide) (.inl hrec),
    State.get_put_apart _ _ _ _ (by decide) (.inl hrec), State.get_put_apart _ _ _ _ (by decide) hlock,
    State.get_put_apart _ _ _ _ (by decide) hself, State.get_put_apart _ _ _ _ (by decide) hrun, State.safeM_get]

theorem State.resetCleared_zero (s : State) : s.resetCleared.get Fd.SAFE_STATUS_LOCK = 0 ∧ s.resetCleared.get Fd.SAFE_STATUS_RSTRUN = 0 ∧
    s.resetCleared.get Fd.SAFE_LOCKREC_CAUSE = 0 := by
  unfold State.resetCleared
  refine ⟨?_, ?_, ?_⟩
  · rw [State.get_put_apart _ _ _ _ (by decide) (by decide), State.get_put_apart _ _ _ _ (by decide) (by decide),
      State.get_put_apart _ _ _ _ (by decide) (by decide), State.get_put_within _ _ _ (by decide)]
    rfl
  · rw [State.get_put_apart _ _ _ _ (by decide) (by decide), State.get_put_apart _ _ _ _ (by decide) (by decide),
      State.get_put_apart _ _ _ _ (by decide) (by decide), State.get_put_apart _ _ _ _ (by decide) (by decide),
      State.get_put_apart _ _ _ _ (by decide) (by decide), State.get_put_within _ _ _ (by decide)]
    rfl
  · rw [State.get_put_apart _ _ _ _ (by decide) (by decide), State.get_put_apart _ _ _ _ (by decide) (by decide),
      State.get_put_within _ _ _ (by decide)]
    rfl

/-- R335: what the end of a reset procedure leaves. -/
structure ResetEnded (s t : State) : Prop where
  lock : t.get Fd.SAFE_STATUS_LOCK = 0
  run : t.get Fd.SAFE_STATUS_RSTRUN = 0
  cause : t.get Fd.SAFE_LOCKREC_CAUSE = 0
  flag : t.flag Ev.SAFE_FLAGS_RSTDONE = true
  safe : ∃ o : Vector Nat 4, ∃ off, t.safe = { s.safe.cleared s.safeBefore with acked := 15#4 &&& ~~~(BitVec.ofNat 4 off), outAt := o } ∧
    (s.get Fd.SAFE_STATUS_OUTON = 0 → off = 0)
  pmu : t.pmu = s.pmu
  now : t.now = s.now
  mem : t.mem = s.mem

theorem State.safeShown_pmu (s : State) : s.safeShown.pmu = s.pmu := by
  rw [State.safeShown, State.readbackShow, State.put_pmu, State.put_pmu, State.put_pmu, State.put_pmu, State.safeM_pmu, State.put_pmu,
    State.put_pmu, State.put_pmu, State.put_pmu, State.safeM_pmu]

theorem State.safeEval_pmu (s : State) : s.safeEval.pmu = s.pmu := by rw [State.safeEval_eq, State.raiseIf_pmu, s.safeShown_pmu]

theorem State.safeResetDone_ended (s : State) (h : s.safe.proc = .clearing) : ResetEnded s s.safeResetDone := by
  have hget := s.resetCleared_get
  have hsafe := s.resetCleared_safe
  have hpmu := s.resetCleared_pmu
  have hnow := s.resetCleared_now
  have hmem := s.resetCleared_mem
  obtain ⟨hlock, hrun, hcause⟩ := s.resetCleared_zero
  rw [s.safeResetDone_of_clearing h]
  generalize s.resetCleared = r at hget hsafe hpmu hnow hmem hlock hrun hcause ⊢
  have hflag := r.flag_raise Ev.SAFE_FLAGS_RSTDONE (by decide) (by decide)
  obtain ⟨o, ho⟩ := (r.raise Ev.SAFE_FLAGS_RSTDONE).safeEval_safe
  exact {
    lock := by rw [State.safeEval_get _ _ (by decide), State.get_raise_other _ _ _ (by decide) (by decide) (by decide), hlock]
    run := by rw [State.safeEval_get _ _ (by decide), State.get_raise_other _ _ _ (by decide) (by decide) (by decide), hrun]
    cause := by rw [State.safeEval_get _ _ (by decide), State.get_raise_other _ _ _ (by decide) (by decide) (by decide), hcause]
    flag := by
      rw [← hflag]
      exact State.safeEval_on _ ⟨_, _, _⟩ (by decide)
    safe := ⟨o, _, by rw [ho, State.raise_safe, hsafe]; rfl, fun h0 => by
      rw [State.safeOff, State.get_raise_other _ _ _ (by decide) (by decide) (by decide), hget _ (by decide) (by decide) (by decide) (by decide),
        h0, Nat.zero_and]⟩
    pmu := by rw [State.safeEval_pmu, State.raise_pmu, hpmu]
    now := by rw [State.safeEval_now, State.raise_now, hnow]
    mem := by rw [State.safeEval_mem, State.raise_mem, hmem] }

theorem safeResetDone_answers (s : State) (hon : s.pmu.clocksOff = false) (hp : s.safe.proc = .clearing) : Answers .safeResetDone s fun t =>
    t.get Fd.SAFE_STATUS_LOCK = 0 ∧ t.get Fd.SAFE_STATUS_RSTRUN = 0 ∧ t.flag Ev.SAFE_FLAGS_RSTDONE = true ∧
      t.get Fd.SAFE_LOCKREC_CAUSE = 0 ∧ t.safe.proc = .idle ∧ t.safe.array.record = none ∧
      (s.get Fd.SAFE_STATUS_OUTON = 0 → t.safe.acked = 15) ∧ t.now = s.now ∧ t.mem = s.mem := by
  refine ⟨s.safeRun State.safeResetDone, rfl, ?_⟩
  rw [s.safeRun_of_on _ hon]
  have h := s.safeResetDone_ended hp
  obtain ⟨o, off, hsafe, hoff⟩ := h.safe
  refine ⟨h.lock, h.run, h.flag, h.cause, ?_, ?_, fun h0 => ?_, h.now, h.mem⟩
  · rw [hsafe]
    rfl
  · rw [hsafe]
    rfl
  · rw [hsafe, hoff h0]
    rfl

/-! ### The self-test (R338) -/

theorem State.safeSelftestDone_of_untested (s : State) (pass : Bool) (h : s.safe.tested = false) : s.safeSelftestDone pass =
    if pass then ((s.put Fd.SAFE_STATUS_SELFTEST 0).safeM fun u => { u with tested := true, cycle := some s.now }).safeEval
    else ((s.put Fd.SAFE_STATUS_SELFTEST 0).safeM fun u => { u with tested := true, cycle := some s.now }).safeLock 9 0 false := by
  rw [State.safeSelftestDone, h]
  exact if_neg Bool.false_ne_true

theorem safeSelftestDone_passed (s : State) (hon : s.pmu.clocksOff = false) (hnew : s.safe.tested = false) :
    Answers (.safeSelftestDone true) s fun t =>
    t.get Fd.SAFE_STATUS_SELFTEST = 0 ∧ t.safe.tested = true ∧ t.safe.cycle = some s.now ∧
      t.get Fd.SAFE_STATUS_LOCK = s.get Fd.SAFE_STATUS_LOCK ∧ t.mem = s.mem := by
  refine ⟨s.safeRun fun s => s.safeSelftestDone true, rfl, ?_⟩
  rw [s.safeRun_of_on _ hon, s.safeSelftestDone_of_untested true hnew, if_pos rfl]
  obtain ⟨o, ho⟩ := ((s.put Fd.SAFE_STATUS_SELFTEST 0).safeM fun u => { u with tested := true, cycle := some s.now }).safeEval_safe
  refine ⟨?_, ?_, ?_, ?_, ?_⟩
  · rw [State.safeEval_get _ _ (by decide), State.safeM_get, State.get_put_within _ _ _ (by decide)]
    rfl
  · rw [ho, State.safeM_safe]
  · rw [ho, State.safeM_safe]
  · rw [State.safeEval_get _ _ (by decide), State.safeM_get, State.get_put_apart _ _ _ _ (by decide) (by decide)]
  · rw [State.safeEval_mem, State.safeM_mem, State.put_mem]

theorem safeSelftestDone_failed (s : State) (hon : s.pmu.clocksOff = false) (hnew : s.safe.tested = false) (hundo : s.safe.undo = none)
    (hlock : s.on Fd.SAFE_STATUS_LOCK = false) : Answers (.safeSelftestDone false) s fun t =>
    t.get Fd.SAFE_STATUS_SELFTEST = 0 ∧ t.safe.tested = true ∧ t.get Fd.SAFE_STATUS_LOCK = 1 ∧ t.get Fd.SAFE_LOCKREC_CAUSE = 9 ∧
      t.mem = s.mem := by
  refine ⟨s.safeRun fun s => s.safeSelftestDone false, rfl, ?_⟩
  rw [s.safeRun_of_on _ hon, s.safeSelftestDone_of_untested false hnew, if_neg Bool.false_ne_true]
  obtain ⟨v, hv⟩ : ∃ v, v = (s.put Fd.SAFE_STATUS_SELFTEST 0).safeM fun u => { u with tested := true, cycle := some s.now } := ⟨_, rfl⟩
  have hself : v.get Fd.SAFE_STATUS_SELFTEST = 0 := by
    rw [hv, State.safeM_get, State.get_put_within _ _ _ (by decide)]
    rfl
  have hfree : v.on Fd.SAFE_STATUS_LOCK = false := by
    rw [hv, State.on, State.safeM_get, State.get_put_apart _ _ _ _ (by decide) (by decide)]
    exact hlock
  have htested : v.safe.tested = true ∧ v.safe.undo = none := by
    rw [hv, State.safeM_safe, State.put_safe]
    exact ⟨rfl, hundo⟩
  have hmem : v.mem = s.mem := by rw [hv, State.safeM_mem, State.put_mem]
  rw [← hv]
  have h := v.safeLock_of_free 9 0 false htested.2 hfree
  obtain ⟨o, ho⟩ := h.safe
  refine ⟨h.selftest hself, ?_, h.lock, h.cause, h.mem.trans hmem⟩
  rw [ho]
  exact htested.1

end Sys2Proof.Machine

/-! SUPPORT. SAFE: a fault takes the end of a reset procedure of its own cycle back (R337), and the obligation. -/
namespace Sys2Proof.Machine

set_option Elab.async false

theorem State.get_wrN (s : State) (a v : Nat) (f : Fld) : (s.wrN a v).get f = if f.addr = a then cut (v % 2 ^ 32) f.lo f.w else s.get f := by
  rw [State.get, State.rdN, State.wrN, State.rd_wr]
  split
  · rw [BitVec.toNat_ofNat]
  · rfl

/-- R337: what stood in the registers before the end that is taken back. -/
def SafeUndo.old (u : SafeUndo) (a : Nat) : Nat := ((u.regs.find? fun r => r.1 == a).map (·.2.toNat)).getD 0

theorem State.safeBefore_old (s : State) : s.safeBefore.old Reg.SAFE_LOCKREC = s.rdN Reg.SAFE_LOCKREC ∧
    s.safeBefore.old Reg.SAFE_STATUS = s.rdN Reg.SAFE_STATUS ∧ s.safeBefore.old Reg.SAFE_FLAGS = s.rdN Reg.SAFE_FLAGS := ⟨rfl, rfl, rfl⟩

/-- R337: the registers with the end taken back. -/
def State.endTakenBack (s : State) (u : SafeUndo) : State :=
  (((s.wrN Reg.SAFE_LOCKREC (u.old Reg.SAFE_LOCKREC)).put Fd.SAFE_STATUS_LOCK (cut (u.old Reg.SAFE_STATUS) 0 1)).put Fd.SAFE_FLAGS_RSTDONE
    (cut (u.old Reg.SAFE_FLAGS) 2 1)).wrN (Reg.SAFE_EVCNT 2) (u.old (Reg.SAFE_EVCNT 2))

/-- The unit with the end taken back. -/
def SafeUnit.takenBack (x : SafeUnit) (u : SafeUndo) : SafeUnit :=
  { x with undo := none, acked := u.acked, lockAt := u.lockAt, array := { x.array with record := u.record } }

theorem State.safeUndone_of_cycle (s : State) (u : SafeUndo) (hu : s.safe.undo = some u) (hat : u.at_ / 160 = s.now / 160) :
    s.safeUndone = (((s.endTakenBack u).safeM fun x => x.takenBack u).raise Ev.SAFE_FLAGS_RSTREF).safeEval := by
  rw [State.safeUndone, hu]
  exact if_pos hat

theorem State.endTakenBack_fields (s : State) (u : SafeUndo) (x : State) (hrec : u.old Reg.SAFE_LOCKREC = x.rdN Reg.SAFE_LOCKREC)
    (hstatus : u.old Reg.SAFE_STATUS = x.rdN Reg.SAFE_STATUS) (hflags : u.old Reg.SAFE_FLAGS = x.rdN Reg.SAFE_FLAGS) :
    (s.endTakenBack u).get Fd.SAFE_STATUS_LOCK = x.get Fd.SAFE_STATUS_LOCK ∧
      (s.endTakenBack u).get Fd.SAFE_LOCKREC_CAUSE = x.get Fd.SAFE_LOCKREC_CAUSE ∧
      (s.endTakenBack u).get Fd.SAFE_FLAGS_RSTDONE = x.get Fd.SAFE_FLAGS_RSTDONE := by
  rw [State.endTakenBack, hrec, hstatus, hflags]
  refine ⟨?_, ?_, ?_⟩
  · rw [State.get_wrN, if_neg (by decide), State.get_put_apart _ _ _ _ (by decide) (by decide), State.get_put_within _ _ _ (by decide)]
    exact Nat.mod_eq_of_lt (cut_lt_two_pow _ _ _)
  · rw [State.get_wrN, if_neg (by decide), State.get_put_apart _ _ _ _ (by decide) (by decide),
      State.get_put_apart _ _ _ _ (by decide) (by decide), State.get_wrN, if_pos (show Fd.SAFE_LOCKREC_CAUSE.addr = Reg.SAFE_LOCKREC from rfl), State.rdN,
      Nat.mod_eq_of_lt (x.rd Reg.SAFE_LOCKREC).isLt]
    rfl
  · rw [State.get_wrN, if_neg (by decide), State.get_put_within _ _ _ (by decide)]
    exact Nat.mod_eq_of_lt (cut_lt_two_pow _ _ _)

theorem State.endTakenBack_safe (s : State) (u : SafeUndo) : (s.endTakenBack u).safe = s.safe := rfl
theorem State.endTakenBack_now (s : State) (u : SafeUndo) : (s.endTakenBack u).now = s.now := rfl
theorem State.endTakenBack_mem (s : State) (u : SafeUndo) : (s.endTakenBack u).mem = s.mem := rfl

/-- R332: a fault of a lock-out without its marker leaves the record. -/
theorem State.safeLock_of_undone (s : State) (c i : Nat) (b : Bool) (hidle : s.safe.proc = .idle) (hlock : s.safeUndone.on Fd.SAFE_STATUS_LOCK = true)
    (hmark : s.safeUndone.safe.array.marker = false) : s.safeLock c i b = s.safeUndone := by
  have hend : s.safeProcEnd = s := by rw [State.safeProcEnd, hidle]
  rw [State.safeLock]
  dsimp only
  rw [hend, if_pos hlock, hmark, Bool.and_false, Bool.false_and, if_neg Bool.false_ne_true]

theorem safeResetDone_taken_back (s : State) (hon : s.pmu.clocksOff = false) (hp : s.safe.proc = .clearing)
    (hlock : s.on Fd.SAFE_STATUS_LOCK = true) (hdone : s.on Fd.SAFE_FLAGS_RSTDONE = false) :
    Answers .safeResetDone s fun u => Answers .safeOscFault u fun t =>
    t.get Fd.SAFE_STATUS_LOCK = 1 ∧ t.get Fd.SAFE_LOCKREC_CAUSE = s.get Fd.SAFE_LOCKREC_CAUSE ∧ t.safe.array.record = s.safe.array.record ∧
      t.flag Ev.SAFE_FLAGS_RSTREF = true ∧ t.on Fd.SAFE_FLAGS_RSTDONE = false ∧ t.safe.proc = .idle ∧ t.now = s.now ∧ t.mem = s.mem := by
  refine ⟨s.safeRun State.safeResetDone, rfl, ?_⟩
  rw [s.safeRun_of_on _ hon]
  have h := s.safeResetDone_ended hp
  generalize s.safeResetDone = d at h ⊢
  obtain ⟨o, off, hsafe, -⟩ := h.safe
  refine ⟨d.safeRun fun s => s.safeLock 7 0 false, rfl, ?_⟩
  rw [d.safeRun_of_on _ (by rw [h.pmu, hon])]
  have hidle : d.safe.proc = .idle := by rw [hsafe]; rfl
  have hundo : d.safe.undo = some s.safeBefore := by rw [hsafe]; rfl
  have hmark : d.safe.array.marker = false := by rw [hsafe]; rfl
  have hat : s.safeBefore.at_ / 160 = d.now / 160 := by rw [h.now]; rfl
  have hrecord : s.safeBefore.record = s.safe.array.record := rfl
  obtain ⟨hrec, hstatus, hflags⟩ := s.safeBefore_old
  obtain ⟨hblock, hbcause, hbdone⟩ := d.endTakenBack_fields s.safeBefore s hrec hstatus hflags
  have hundone := d.safeUndone_of_cycle _ hundo hat
  generalize s.safeBefore = u at hundo hat hrecord hblock hbcause hbdone hundone
  have hlock1 : s.get Fd.SAFE_STATUS_LOCK = 1 := by
    have hlt : s.get Fd.SAFE_STATUS_LOCK < 2 := cut_lt_two_pow _ _ 1
    have hne : s.get Fd.SAFE_STATUS_LOCK ≠ 0 := by simpa [State.on] using hlock
    omega
  have hsafe' := d.endTakenBack_safe u
  have hnow' := d.endTakenBack_now u
  have hmem' := d.endTakenBack_mem u
  generalize d.endTakenBack u = e at hblock hbcause hbdone hundone hsafe' hnow' hmem'
  have hget (f : Fld) (hk : SafeKept f) (hf : f.addr ≠ Reg.SAFE_FLAGS ∨ f.lo + f.w ≤ 3 ∨ 4 ≤ f.lo) (hc : f.addr ≠ Ev.SAFE_FLAGS_RSTREF.cnt) :
      d.safeUndone.get f = e.get f := by
    rw [hundone, State.safeEval_get _ f hk, State.get_raise_other _ _ _ (by decide) hf hc, State.safeM_get]
  have hvlock : d.safeUndone.get Fd.SAFE_STATUS_LOCK = 1 := by rw [hget _ (by decide) (by decide) (by decide), hblock, hlock1]
  have hvsafe : ∃ o' a, d.safeUndone.safe = { d.safe.takenBack u with acked := a, outAt := o' } := by
    obtain ⟨o', ho'⟩ := ((e.safeM fun x => x.takenBack u).raise Ev.SAFE_FLAGS_RSTREF).safeEval_safe
    exact ⟨o', _, by rw [hundone, ho', State.raise_safe, State.safeM_safe, hsafe']⟩
  obtain ⟨o', a, hv⟩ := hvsafe
  rw [d.safeLock_of_undone 7 0 false hidle (by rw [State.on, hvlock]; rfl) (by rw [hv]; exact hmark)]
  refine ⟨hvlock, ?_, ?_, ?_, ?_, ?_, ?_, ?_⟩
  · rw [hget _ (by decide) (by decide) (by decide), hbcause]
  · rw [hv]
    exact hrecord
  · rw [hundone]
    refine (State.safeEval_on _ ⟨_, _, _⟩ (by decide)).trans ?_
    exact State.flag_raise _ _ (by decide) (by decide)
  · rw [State.on, hget _ (by decide) (by decide) (by decide), hbdone]
    exact hdone
  · rw [hv]
    exact hidle
  · rw [hundone, State.safeEval_now, State.raise_now, State.safeM_now, hnow', h.now]
  · rw [hundone, State.safeEval_mem, State.raise_mem, State.safeM_mem, hmem', h.mem]

/-- R330: the responses of a check sample, written out for either supply. -/
theorem State.responds_iff (s : State) (b : Bool) (x y : BitVec 8) (i : Fin 8) :
    s.responds b (if b = true then s.safe.tpB else s.safe.tpA) x y i = true ↔ s.on (Fd.SAFE_IN_CFG_TPEN i) = true ∧
      (if b = true then s.safe.tpB.highA.getLsbD i.val && !x.getLsbD i.val || s.safe.tpB.highB.getLsbD i.val && y.getLsbD i.val
        else s.safe.tpA.highB.getLsbD i.val && !y.getLsbD i.val || s.safe.tpA.highA.getLsbD i.val && x.getLsbD i.val) = true := by
  rw [State.responds, Bool.and_eq_true, pulseResponse]
  cases b <;> exact Iff.rfl

/-- Settles O47. -/
theorem safetyFunction : Obligations.SafetyFunction := by
  unfold Obligations.SafetyFunction
  refine ⟨fun i b l n s => safeInputChange_answers i b l n s, safeDiscrepancy_answers, safeReadbackFault_answers, safeLogicCompareFault_answers,
    safeOscFault_answers, safePwmClockLoss_answers, safePwmClockReturn_answers, safeSupplyDemand_answers, safeLockoutRecord_answers,
    safeResetPulseStart_answers, safeResetProcedure_clears, safeResetProcedure_refused, safeResetDone_answers, safeResetDone_taken_back,
    safe_without_power, safeSelftestDone_passed, safeSelftestDone_failed, testPulseStart_answers, fun b x y a s hon hlow hcheck hundo hlock => ?_,
    testPulseEnd_answers⟩
  have h := testPulseCheck_answers b x y a s hon hlow hcheck hundo hlock
  simp only [State.responds_iff] at h
  exact h

end Sys2Proof.Machine

/-! SUPPORT. LINK: what the operations of a link leave of its port, its registers and the memory. -/
namespace Sys2Proof.Machine

set_option Elab.async false

/-! ### The port and the registers under single updates -/

theorem State.portM_port (s : State) (l : Fin 4) (f : LinkPort → LinkPort) : (s.portM l f).port l = f (s.port l) :=
  upd_get_self ..

theorem State.port_of_link {s t : State} (h : t.link = s.link) (l : Fin 4) : t.port l = s.port l := by unfold State.port; rw [h]

theorem State.put_port (s : State) (f : Fld) (v : Nat) (l : Fin 4) : (s.put f v).port l = s.port l := rfl

theorem State.wrN_port (s : State) (a v : Nat) (l : Fin 4) : (s.wrN a v).port l = s.port l := rfl

theorem State.raise_port (s : State) (e : EvFlag) (l : Fin 4) : (s.raise e).port l = s.port l := State.port_of_link (s.raise_link e) l

theorem State.raiseIf_port (s : State) (b : Bool) (e : EvFlag) (l : Fin 4) : (s.raiseIf b e).port l = s.port l :=
  State.port_of_link (s.raiseIf_link b e) l

theorem State.raiseN_port (s : State) (e : EvFlag) (k : Nat) (l : Fin 4) : (s.raiseN e k).port l = s.port l :=
  State.port_of_link (s.raiseN_link e k) l

theorem State.advance_link (s : State) (k : Nat) : (s.advance k).link = s.link := by
  obtain ⟨b, p, h, -⟩ := s.advance_eq k
  rw [h]

theorem State.reachNow_port (s : State) (t : Nat) (l : Fin 4) : (s.reachNow t).port l = s.port l :=
  State.port_of_link (s.advance_link _) l

theorem State.get_raiseN_other (s : State) (e : EvFlag) (k : Nat) (f : Fld) (hbit : e.bit < 32)
    (hflag : f.addr ≠ e.addr ∨ f.lo + f.w ≤ e.bit ∨ e.bit + 1 ≤ f.lo) (hcnt : f.addr ≠ e.cnt) : (s.raiseN e k).get f = s.get f := by
  unfold State.raiseN
  split
  · rfl
  · rw [show ((s.setNow e).sat16By e.cnt k).get f = (s.setNow e).get f from (s.setNow e).get_wrN .. |>.trans (if_neg hcnt)]
    exact s.get_put_other ⟨e.addr, e.bit, 1⟩ f 1 hbit hflag

theorem State.raiseN_sameRegistersBut (s : State) (e : EvFlag) (k : Nat) : SameRegistersBut [e.addr, e.cnt] s (s.raiseN e k) := by
  intro a ha
  obtain ⟨h1, h2⟩ : a ≠ e.addr ∧ a ≠ e.cnt := by simpa using ha
  unfold State.raiseN
  split
  · rfl
  · rw [State.sat16By, State.wrN, State.rd_wr, if_neg h2, State.rd_setNow, State.rd_put_other _ _ _ _ h1]

theorem State.raiseIf_sameRegistersBut (s : State) (b : Bool) (e : EvFlag) : SameRegistersBut [e.addr, e.cnt] s (s.raiseIf b e) := by
  cases b
  · exact fun _ _ => rfl
  · exact s.raise_sameRegistersBut e

theorem SameRegistersBut.widen {l k : List Nat} {s t : State} (h : SameRegistersBut l s t) (hl : l ⊆ k) : SameRegistersBut k s t :=
  fun a ha => h a fun hm => ha (hl hm)

theorem SameRegistersBut.of_regs {l : List Nat} {s t : State} (h : t.regs = s.regs) : SameRegistersBut l s t :=
  fun a _ => by unfold State.rd; rw [h]

/-- A flag keeps its value when another flag is set. -/
theorem State.flag_raiseIf_beside (s : State) (b : Bool) (e k : EvFlag) (hbit : e.bit < 32) (hne : k.bit ≠ e.bit) (hcnt : k.addr ≠ e.cnt) :
    (s.raiseIf b e).flag k = s.flag k := by
  unfold State.flag State.on
  rw [s.get_raiseIf_other b e _ hbit (.inr (by show k.bit + 1 ≤ e.bit ∨ e.bit + 1 ≤ k.bit; omega)) hcnt]

theorem State.flag_raiseN_beside (s : State) (n : Nat) (e k : EvFlag) (hbit : e.bit < 32) (hne : k.bit ≠ e.bit) (hcnt : k.addr ≠ e.cnt) :
    (s.raiseN e n).flag k = s.flag k := by
  unfold State.flag State.on
  rw [s.get_raiseN_other e n _ hbit (.inr (by show k.bit + 1 ≤ e.bit ∨ e.bit + 1 ≤ k.bit; omega)) hcnt]

theorem State.flag_put_apart (s : State) (f : Fld) (v : Nat) (e : EvFlag) (h : e.addr ≠ f.addr) : (s.put f v).flag e = s.flag e := by
  unfold State.flag State.on State.get State.rdN
  rw [s.rd_put_other f v e.addr h]

theorem State.flag_of_regs {s t : State} (h : t.regs = s.regs) (e : EvFlag) : t.flag e = s.flag e := State.on_of_regs_eq h _

theorem State.linkState_of_regs {s t : State} (h : t.regs = s.regs) (l : Fin 4) : t.linkState l = s.linkState l := by
  unfold State.linkState State.get State.rdN State.rd
  rw [h]

theorem SameRegistersBut.linkState {k : List Nat} {s t : State} (h : SameRegistersBut k s t) (l : Fin 4) (hl : Reg.LINK_L_STATUS l ∉ k) :
    t.linkState l = s.linkState l := h.get (Fd.LINK_L_STATUS_STATE l) hl

/-! ### A link that goes down -/

/-- The registers that a loss of link `l` can change. -/
def linkLossRegs (l : Fin 4) : List Nat :=
  [Reg.LINK_L_STATUS l, Reg.LINK_L_FLAGS l, (Ev.LINK_L_FLAGS_DOWN l).cnt, (Ev.LINK_L_FLAGS_EVLOST l).cnt, (Ev.LINK_L_FLAGS_XLOST l).cnt]

theorem State.linkOff_linkState (s : State) (l : Fin 4) : (s.linkOff l).linkState l = 0 := by
  unfold State.linkOff State.linkState
  rw [State.get_put_apart _ _ _ _ (show 24 + 6 ≤ 32 by decide) (.inr (.inl (show 0 + 2 ≤ 24 by decide))),
    State.get_put_apart _ _ _ _ (show 16 + 5 ≤ 32 by decide) (.inr (.inl (show 0 + 2 ≤ 16 by decide))),
    State.get_put_within _ _ _ (show 0 + 2 ≤ 32 by decide)]
  rfl

theorem State.linkOff_sameRegistersBut (s : State) (l : Fin 4) : SameRegistersBut [Reg.LINK_L_STATUS l] s (s.linkOff l) :=
  (((SameRegistersBut.of_regs rfl).trans (State.put_sameRegistersBut _ (Fd.LINK_L_STATUS_STATE l) 0)).trans
    (State.put_sameRegistersBut _ (Fd.LINK_L_STATUS_CRED l) 0)).trans (State.put_sameRegistersBut _ (Fd.LINK_L_STATUS_RPLFILL l) 0)

theorem State.linkOff_port (s : State) (l : Fin 4) : (s.linkOff l).port l = { (s.port l).lost with discard := s.linkRequests l } := by
  unfold State.linkOff
  rw [State.put_port, State.put_port, State.put_port, State.portM_port]

/-- The state after the flags of a loss, and whether the link will train again. -/
def State.linkLost (s : State) (l : Fin 4) (up : Bool) (n : Nat) (x : Bool) : State :=
  if up then ((s.raise (Ev.LINK_L_FLAGS_DOWN l)).raiseN (Ev.LINK_L_FLAGS_EVLOST l) n).raiseIf x (Ev.LINK_L_FLAGS_XLOST l) else s

theorem State.linkDown_eq (s : State) (l : Fin 4) (h : s.linkState l ≠ 0) : ∃ (n : Nat) (x c : Bool),
    s.linkDown l = if c then ((s.linkOff l).linkLost l (s.linkState l == 2) n x).portM l fun p =>
      { p with retrain := some (((s.linkOff l).linkLost l (s.linkState l == 2) n x).now + 10 * tMs) }
    else (s.linkOff l).linkLost l (s.linkState l == 2) n x := by
  unfold State.linkDown
  rw [if_neg h]
  exact ⟨_, _, _, rfl⟩

theorem State.linkDown_of_down (s : State) (l : Fin 4) (h : s.linkState l = 0) : s.linkDown l = s := if_pos h

theorem State.linkLost_sameRegistersBut (s : State) (l : Fin 4) (up : Bool) (n : Nat) (x : Bool) :
    SameRegistersBut (linkLossRegs l) s (s.linkLost l up n x) := by
  unfold State.linkLost
  split
  · refine (((s.raise_sameRegistersBut (Ev.LINK_L_FLAGS_DOWN l)).widen ?_).trans
      ((State.raiseN_sameRegistersBut _ (Ev.LINK_L_FLAGS_EVLOST l) n).widen ?_)).trans
      ((State.raiseIf_sameRegistersBut _ x (Ev.LINK_L_FLAGS_XLOST l)).widen ?_)
    all_goals simp [linkLossRegs, Ev.LINK_L_FLAGS_DOWN, Ev.LINK_L_FLAGS_EVLOST, Ev.LINK_L_FLAGS_XLOST]
  · exact fun _ _ => rfl

theorem State.linkLost_mem (s : State) (l : Fin 4) (up : Bool) (n : Nat) (x : Bool) : (s.linkLost l up n x).mem = s.mem := by
  unfold State.linkLost
  split
  · rw [State.raiseIf_mem, State.raiseN_mem, State.raise_mem]
  · rfl

theorem State.linkLost_now (s : State) (l : Fin 4) (up : Bool) (n : Nat) (x : Bool) : (s.linkLost l up n x).now = s.now := by
  unfold State.linkLost
  split
  · rw [State.raiseIf_now, State.raiseN_now, State.raise_now]
  · rfl

theorem State.linkLost_port (s : State) (l : Fin 4) (up : Bool) (n : Nat) (x : Bool) : (s.linkLost l up n x).port l = s.port l := by
  unfold State.linkLost
  split
  · rw [State.raiseIf_port, State.raiseN_port, State.raise_port]
  · rfl

theorem State.linkLost_linkState (s : State) (l : Fin 4) (up : Bool) (n : Nat) (x : Bool) :
    (s.linkLost l up n x).linkState l = s.linkState l := by
  unfold State.linkLost State.linkState
  split
  · rw [State.get_raiseIf_other _ _ _ _ (show 9 < 32 by decide) (.inl (by decide +revert)) (by decide +revert),
      State.get_raiseN_other _ _ _ _ (show 8 < 32 by decide) (.inl (by decide +revert)) (by decide +revert),
      State.get_raise_other _ _ _ (show 1 < 32 by decide) (.inl (by decide +revert)) (by decide +revert)]
  · rfl

theorem State.linkLost_flag_down (s : State) (l : Fin 4) (n : Nat) (x : Bool) :
    (s.linkLost l true n x).flag (Ev.LINK_L_FLAGS_DOWN l) = true := by
  unfold State.linkLost
  rw [if_pos rfl, State.flag_raiseIf_beside _ _ _ _ (show 9 < 32 by decide) (show 1 ≠ 9 by decide) (by decide +revert),
    State.flag_raiseN_beside _ _ _ _ (show 8 < 32 by decide) (show 1 ≠ 8 by decide) (by decide +revert)]
  exact s.flag_raise _ (by decide +revert) (show 1 < 32 by decide)

theorem State.linkDown_linkState (s : State) (l : Fin 4) : (s.linkDown l).linkState l = 0 := by
  by_cases h : s.linkState l = 0
  · rw [s.linkDown_of_down l h, h]
  · obtain ⟨n, x, c, heq⟩ := s.linkDown_eq l h
    have hlost := ((s.linkOff l).linkLost_linkState l (s.linkState l == 2) n x).trans (s.linkOff_linkState l)
    rw [heq]
    cases c
    · exact hlost
    · exact hlost

theorem State.linkDown_sameRegistersBut (s : State) (l : Fin 4) : SameRegistersBut (linkLossRegs l) s (s.linkDown l) := by
  by_cases h : s.linkState l = 0
  · rw [s.linkDown_of_down l h]
    exact fun _ _ => rfl
  · obtain ⟨n, x, c, heq⟩ := s.linkDown_eq l h
    have hlost := ((s.linkOff_sameRegistersBut l).widen (k := linkLossRegs l) (by simp [linkLossRegs])).trans
      ((s.linkOff l).linkLost_sameRegistersBut l (s.linkState l == 2) n x)
    rw [heq]
    cases c
    · exact hlost
    · exact hlost

theorem State.linkDown_mem (s : State) (l : Fin 4) : (s.linkDown l).mem = s.mem := by
  by_cases h : s.linkState l = 0
  · rw [s.linkDown_of_down l h]
  · obtain ⟨n, x, c, heq⟩ := s.linkDown_eq l h
    rw [heq]
    cases c
    · exact (s.linkOff l).linkLost_mem l _ n x
    · exact (s.linkOff l).linkLost_mem l _ n x

theorem State.linkDown_now (s : State) (l : Fin 4) : (s.linkDown l).now = s.now := by
  by_cases h : s.linkState l = 0
  · rw [s.linkDown_of_down l h]
  · obtain ⟨n, x, c, heq⟩ := s.linkDown_eq l h
    rw [heq]
    cases c
    · exact (s.linkOff l).linkLost_now l _ n x
    · exact (s.linkOff l).linkLost_now l _ n x

theorem State.linkDown_flag (s : State) (l : Fin 4) (h : s.linkState l = 2) : (s.linkDown l).flag (Ev.LINK_L_FLAGS_DOWN l) = true := by
  obtain ⟨n, x, c, heq⟩ := s.linkDown_eq l (by rw [h]; decide)
  rw [h] at heq
  rw [heq]
  cases c
  · exact (s.linkOff l).linkLost_flag_down l n x
  · exact (s.linkOff l).linkLost_flag_down l n x

/-- A link that was not down has nothing left in its replay buffer once it is. -/
theorem State.linkDown_replay (s : State) (l : Fin 4) (h : s.linkState l ≠ 0) : ((s.linkDown l).port l).replay = [] := by
  obtain ⟨n, x, c, heq⟩ := s.linkDown_eq l h
  have hlost : (((s.linkOff l).linkLost l (s.linkState l == 2) n x).port l).replay = [] := by
    rw [State.linkLost_port, State.linkOff_port]
    rfl
  rw [heq]
  cases c
  · exact hlost
  · rw [if_pos rfl, State.portM_port]
    exact hlost

/-! ### Training -/

theorem State.linkTrain_eq (s : State) (l : Fin 4) (h : s.pmu.warned = false) :
    s.linkTrain l = (((s.linkDown l).portM l fun p =>
      { p.lost with retrain := none, loop := (s.linkDown l).get (Fd.LINK_L_CTRL_LOOP l), trainAt := (s.linkDown l).now }).put
        (Fd.LINK_L_STATUS_STATE l) 1) := by
  unfold State.linkTrain
  rw [if_neg (by rw [h]; decide)]

theorem State.linkTrain_linkState (s : State) (l : Fin 4) (h : s.pmu.warned = false) : (s.linkTrain l).linkState l = 1 := by
  rw [s.linkTrain_eq l h, State.linkState, State.get_put_within _ _ _ (show 0 + 2 ≤ 32 by decide)]
  rfl

theorem State.linkTrain_port (s : State) (l : Fin 4) (h : s.pmu.warned = false) : (s.linkTrain l).port l =
    { ((s.linkDown l).port l).lost with
      retrain := none, loop := (s.linkDown l).get (Fd.LINK_L_CTRL_LOOP l), trainAt := (s.linkDown l).now } := by
  rw [s.linkTrain_eq l h, State.put_port, State.portM_port]

theorem State.linkTrain_mem (s : State) (l : Fin 4) (h : s.pmu.warned = false) : (s.linkTrain l).mem = s.mem := by
  rw [s.linkTrain_eq l h]
  exact s.linkDown_mem l

theorem State.linkTrain_now (s : State) (l : Fin 4) (h : s.pmu.warned = false) : (s.linkTrain l).now = s.now := by
  rw [s.linkTrain_eq l h]
  exact s.linkDown_now l

theorem State.linkTrain_flag (s : State) (l : Fin 4) (h : s.pmu.warned = false) (hup : s.linkState l = 2) :
    (s.linkTrain l).flag (Ev.LINK_L_FLAGS_DOWN l) = true := by
  have hreg : Reg.LINK_L_FLAGS l ≠ Reg.LINK_L_STATUS l := (show ∀ l : Fin 4, Reg.LINK_L_FLAGS l ≠ Reg.LINK_L_STATUS l by decide) l
  rw [s.linkTrain_eq l h, State.flag_put_apart _ _ _ _ hreg]
  exact s.linkDown_flag l hup

/-- The state of a failed training before it is known whether it will be tried again. -/
def State.trainOff (s : State) (l : Fin 4) (clkOk : Bool) : State :=
  (((s.linkOff l).putB (Fd.LINK_L_STATUS_CLKOK l) clkOk).put (Fd.LINK_L_STATUS_LPLLOCK l) 1).raise (Ev.LINK_L_FLAGS_TRAINFAIL l)

theorem State.trainFailed_eq (s : State) (l : Fin 4) (clkOk : Bool) : s.trainFailed l clkOk =
    (s.trainOff l clkOk).portM l fun p =>
      { p with retrain := if (s.trainOff l clkOk).on (Fd.LINK_L_CTRL_AUTO l) then some ((s.trainOff l clkOk).now + 10 * tMs) else none } := rfl

theorem State.trainOff_get (s : State) (l : Fin 4) (clkOk : Bool) (f : Fld) (hs : f.addr ≠ Reg.LINK_L_STATUS l)
    (hf : f.addr ≠ Reg.LINK_L_FLAGS l) (hc : f.addr ≠ (Ev.LINK_L_FLAGS_TRAINFAIL l).cnt) : (s.trainOff l clkOk).get f = s.get f := by
  unfold State.trainOff
  rw [State.get_raise_other _ _ _ (show 2 < 32 by decide) (.inl hf) hc,
    State.get_put_apart _ _ _ _ (show 3 + 1 ≤ 32 by decide) (.inl hs), State.putB,
    State.get_put_apart _ _ _ _ (show 2 + 1 ≤ 32 by decide) (.inl hs)]
  exact (s.linkOff_sameRegistersBut l).get f (by simpa using hs)

theorem State.trainFailed_linkState (s : State) (l : Fin 4) (clkOk : Bool) : (s.trainFailed l clkOk).linkState l = 0 := by
  rw [State.trainFailed_eq, State.linkState, State.portM_get, State.trainOff,
    State.get_raise_other _ _ _ (show 2 < 32 by decide) (.inl (by decide +revert)) (by decide +revert),
    State.get_put_apart _ _ _ _ (show 3 + 1 ≤ 32 by decide) (.inr (.inl (show 0 + 2 ≤ 3 by decide))), State.putB,
    State.get_put_apart _ _ _ _ (show 2 + 1 ≤ 32 by decide) (.inr (.inl (show 0 + 2 ≤ 2 by decide)))]
  exact s.linkOff_linkState l

theorem State.trainFailed_clkok (s : State) (l : Fin 4) (clkOk : Bool) :
    (s.trainFailed l clkOk).get (Fd.LINK_L_STATUS_CLKOK l) = clkOk.toNat := by
  rw [State.trainFailed_eq, State.portM_get, State.trainOff,
    State.get_raise_other _ _ _ (show 2 < 32 by decide) (.inl (by decide +revert)) (by decide +revert),
    State.get_put_apart _ _ _ _ (show 3 + 1 ≤ 32 by decide) (.inr (.inl (show 2 + 1 ≤ 3 by decide))), State.putB,
    State.get_put_within _ _ _ (show 2 + 1 ≤ 32 by decide)]
  cases clkOk <;> rfl

theorem State.trainOff_now (s : State) (l : Fin 4) (clkOk : Bool) : (s.trainOff l clkOk).now = s.now := by
  rw [State.trainOff, State.raise_now, State.put_now, State.putB_now]
  rfl

theorem State.trainOff_flag (s : State) (l : Fin 4) (clkOk : Bool) : (s.trainOff l clkOk).flag (Ev.LINK_L_FLAGS_TRAINFAIL l) = true :=
  State.flag_raise _ (Ev.LINK_L_FLAGS_TRAINFAIL l) (by decide +revert) (show 2 < 32 by decide)

theorem State.trainFailed_flag (s : State) (l : Fin 4) (clkOk : Bool) :
    (s.trainFailed l clkOk).flag (Ev.LINK_L_FLAGS_TRAINFAIL l) = true := by
  rw [State.trainFailed_eq, State.flag_of_regs (State.portM_regs ..)]
  exact s.trainOff_flag l clkOk

theorem State.trainFailed_now (s : State) (l : Fin 4) (clkOk : Bool) : (s.trainFailed l clkOk).now = s.now := by
  rw [State.trainFailed_eq, State.portM_now, State.trainOff_now]

theorem State.trainFailed_mem (s : State) (l : Fin 4) (clkOk : Bool) : (s.trainFailed l clkOk).mem = s.mem := by
  rw [State.trainFailed_eq, State.portM_mem, State.trainOff, State.raise_mem, State.put_mem, State.putB_mem]
  rfl

theorem State.trainFailed_retrain (s : State) (l : Fin 4) (clkOk : Bool) : ((s.trainFailed l clkOk).port l).retrain =
    if s.on (Fd.LINK_L_CTRL_AUTO l) then some (s.now + 10 * tMs) else none := by
  have hon : (s.trainOff l clkOk).on (Fd.LINK_L_CTRL_AUTO l) = s.on (Fd.LINK_L_CTRL_AUTO l) := by
    unfold State.on
    rw [s.trainOff_get l clkOk _ (by decide +revert) (by decide +revert) (by decide +revert)]
  rw [State.trainFailed_eq, State.portM_port, hon, State.trainOff_now]

/-! ### The margin scan and the round trip -/

theorem State.linkMargin_sameRegistersBut (s : State) (l : Fin 4) (a b : LaneScan) :
    SameRegistersBut [Reg.LINK_L_STATUS l, Reg.LINK_L_MARGIN l] s (s.linkMargin l a b) := by
  have hput (s : State) (f : Fld) (v : Nat) (hf : f.addr ∈ [Reg.LINK_L_STATUS l, Reg.LINK_L_MARGIN l]) :
      SameRegistersBut [Reg.LINK_L_STATUS l, Reg.LINK_L_MARGIN l] s (s.put f v) :=
    (s.put_sameRegistersBut f v).widen (by simpa using hf)
  have hs : Reg.LINK_L_STATUS l ∈ [Reg.LINK_L_STATUS l, Reg.LINK_L_MARGIN l] := .head _
  have hm : Reg.LINK_L_MARGIN l ∈ [Reg.LINK_L_STATUS l, Reg.LINK_L_MARGIN l] := .tail _ (.head _)
  exact (((((hput _ (Fd.LINK_L_STATUS_EQ0 l) _ hs).trans (hput _ (Fd.LINK_L_STATUS_EQ1 l) _ hs)).trans
    (hput _ (Fd.LINK_L_MARGIN_WIDTH0 l) _ hm)).trans (hput _ (Fd.LINK_L_MARGIN_WIDTH1 l) _ hm)).trans
    (hput _ (Fd.LINK_L_MARGIN_PHASE0 l) _ hm)).trans (hput _ (Fd.LINK_L_MARGIN_PHASE1 l) _ hm)

theorem State.laneResult_congr {s t : State} (l : Fin 4) (x : LaneScan) (set : Fld)
    (hm : t.get (Fd.LINK_L_EQ_MANUAL l) = s.get (Fd.LINK_L_EQ_MANUAL l)) (hs : t.get set = s.get set) :
    t.laneResult l x set = s.laneResult l x set := by
  unfold State.laneResult State.on
  rw [hm, hs]

theorem State.eyeNarrow_congr {s t : State} (l : Fin 4) (a b : LaneScan) (h : t.rd (Reg.LINK_L_EQ l) = s.rd (Reg.LINK_L_EQ l)) :
    t.eyeNarrow l a b = s.eyeNarrow l a b := by
  have hget (f : Fld) (hf : f.addr = Reg.LINK_L_EQ l) : t.get f = s.get f := by
    unfold State.get State.rdN
    rw [hf, h]
  have hset0 := hget (Fd.LINK_L_EQ_SET0 l) rfl
  have hset1 := hget (Fd.LINK_L_EQ_SET1 l) rfl
  have hmanual := hget (Fd.LINK_L_EQ_MANUAL l) rfl
  unfold State.eyeNarrow
  rw [State.laneResult_congr l a _ hmanual hset0, State.laneResult_congr l b _ hmanual hset1]

theorem State.linkMargin_eyeNarrow (s : State) (l : Fin 4) (a b : LaneScan) : (s.linkMargin l a b).eyeNarrow l a b = s.eyeNarrow l a b :=
  State.eyeNarrow_congr l a b (s.linkMargin_sameRegistersBut l a b _ (by decide +revert))

theorem State.linkMargin_widths (s : State) (l : Fin 4) (a b : LaneScan) :
    (s.linkMargin l a b).get (Fd.LINK_L_MARGIN_WIDTH0 l) = (s.laneResult l a (Fd.LINK_L_EQ_SET0 l)).2.1 % 128 ∧
    (s.linkMargin l a b).get (Fd.LINK_L_MARGIN_WIDTH1 l) = (s.laneResult l b (Fd.LINK_L_EQ_SET1 l)).2.1 % 128 := by
  unfold State.linkMargin
  constructor
  · rw [State.get_put_apart _ _ _ _ (show 24 + 6 ≤ 32 by decide) (.inr (.inl (show 0 + 7 ≤ 24 by decide))),
      State.get_put_apart _ _ _ _ (show 16 + 6 ≤ 32 by decide) (.inr (.inl (show 0 + 7 ≤ 16 by decide))),
      State.get_put_apart _ _ _ _ (show 8 + 7 ≤ 32 by decide) (.inr (.inl (show 0 + 7 ≤ 8 by decide))),
      State.get_put_within _ _ _ (show 0 + 7 ≤ 32 by decide)]
    rfl
  · rw [State.get_put_apart _ _ _ _ (show 24 + 6 ≤ 32 by decide) (.inr (.inl (show 8 + 7 ≤ 24 by decide))),
      State.get_put_apart _ _ _ _ (show 16 + 6 ≤ 32 by decide) (.inr (.inl (show 8 + 7 ≤ 16 by decide))),
      State.get_put_within _ _ _ (show 8 + 7 ≤ 32 by decide)]
    rfl

theorem State.linkMargin_settings (s : State) (l : Fin 4) (a b : LaneScan) :
    (s.linkMargin l a b).get (Fd.LINK_L_STATUS_EQ0 l) = (s.laneResult l a (Fd.LINK_L_EQ_SET0 l)).1 % 16 ∧
    (s.linkMargin l a b).get (Fd.LINK_L_STATUS_EQ1 l) = (s.laneResult l b (Fd.LINK_L_EQ_SET1 l)).1 % 16 := by
  have hne : Reg.LINK_L_STATUS l ≠ Reg.LINK_L_MARGIN l := by decide +revert
  unfold State.linkMargin
  constructor
  · rw [State.get_put_apart _ _ _ _ (show 24 + 6 ≤ 32 by decide) (.inl hne), State.get_put_apart _ _ _ _ (show 16 + 6 ≤ 32 by decide) (.inl hne),
      State.get_put_apart _ _ _ _ (show 8 + 7 ≤ 32 by decide) (.inl hne), State.get_put_apart _ _ _ _ (show 0 + 7 ≤ 32 by decide) (.inl hne),
      State.get_put_apart _ _ _ _ (show 12 + 4 ≤ 32 by decide) (.inr (.inl (show 8 + 4 ≤ 12 by decide))),
      State.get_put_within _ _ _ (show 8 + 4 ≤ 32 by decide)]
    rfl
  · rw [State.get_put_apart _ _ _ _ (show 24 + 6 ≤ 32 by decide) (.inl hne), State.get_put_apart _ _ _ _ (show 16 + 6 ≤ 32 by decide) (.inl hne),
      State.get_put_apart _ _ _ _ (show 8 + 7 ≤ 32 by decide) (.inl hne), State.get_put_apart _ _ _ _ (show 0 + 7 ≤ 32 by decide) (.inl hne),
      State.get_put_within _ _ _ (show 12 + 4 ≤ 32 by decide)]
    rfl

/-- The registers that a measured round trip writes. -/
theorem State.linkRtt_sameRegistersBut (s : State) (l : Fin 4) (rtt : Nat) :
    SameRegistersBut [Reg.LINK_L_RTT l, Reg.TBL_LFWDMEAS l] s (s.linkRtt l rtt) := by
  intro a ha
  obtain ⟨h1, h2⟩ : a ≠ Reg.LINK_L_RTT l ∧ a ≠ Reg.TBL_LFWDMEAS l := by simpa using ha
  unfold State.linkRtt
  rw [State.rd_put_other _ _ _ _ h2, State.wrN, State.rd_wr, if_neg h1]

theorem State.linkRtt_rtt (s : State) (l : Fin 4) (rtt : Nat) : (s.linkRtt l rtt).rdN (Reg.LINK_L_RTT l) = rtt % 2 ^ 32 := by
  unfold State.linkRtt
  rw [State.rdN, State.rd_put_other _ _ _ _ (by decide +revert), State.wrN, State.rd_wr, if_pos rfl, BitVec.toNat_ofNat]

end Sys2Proof.Machine

/-! SUPPORT. O50, the first part: the configuration of a link, its training, and its losses. -/
namespace Sys2Proof.Machine

set_option Elab.async false

/-! ### LINKl_CTRL (R387, R389) -/

/-- LINKl_CTRL after a legal write. -/
def State.linkCtrlSet (s : State) (l : Fin 4) (v : Word) : State :=
  (((s.putB (Fd.LINK_L_CTRL_EN l) (v.getLsbD 0)).putB (Fd.LINK_L_CTRL_AUTO l) (v.getLsbD 2)).put (Fd.LINK_L_CTRL_RATE l) (cut v.toNat 4 2)).put
    (Fd.LINK_L_CTRL_LOOP l) (cut v.toNat 8 3)

theorem State.linkCtrlWrite_of_illegal (s : State) (l : Fin 4) (v : Word) (h : cut v.toNat 4 2 = 3 ∨ 3 < cut v.toNat 8 3) :
    s.linkCtrlWrite l v = (s.linkFresh l).raise (Ev.LINK_L_FLAGS_CFGERR l) :=
  if_pos (h.imp_right .inl)

theorem State.linkCtrlWrite_of_legal (s : State) (l : Fin 4) (v : Word) (hrate : cut v.toNat 4 2 ≠ 3) (hloop : cut v.toNat 8 3 ≤ 3)
    (h : (s.linkState l ≠ 1 ∧ s.linkState l ≠ 2) ∨
      (cut v.toNat 4 2 = s.get (Fd.LINK_L_CTRL_RATE l) ∧ cut v.toNat 8 3 = s.get (Fd.LINK_L_CTRL_LOOP l))) :
    s.linkCtrlWrite l v =
      let t := (s.linkFresh l).linkCtrlSet l v
      if !v.getLsbD 0 then (t.linkDown l).portM l fun p => { p with retrain := none }
      else if t.linkState l = 0 ∨ v.getLsbD 1 then t.linkTrain l
      else t := by
  refine if_neg ?_
  rintro (hr | hl | ⟨hbusy, hchanged⟩)
  · exact hrate hr
  · omega
  · obtain ⟨h1, h2⟩ | ⟨hr, hl⟩ := h
    · exact hbusy.elim h1 h2
    · exact hchanged.elim (· hr) (· hl)

theorem State.linkCtrlSet_sameRegistersBut (s : State) (l : Fin 4) (v : Word) : SameRegistersBut [Reg.LINK_L_CTRL l] s (s.linkCtrlSet l v) :=
  (((s.put_sameRegistersBut (Fd.LINK_L_CTRL_EN l) _).trans (State.put_sameRegistersBut _ (Fd.LINK_L_CTRL_AUTO l) _)).trans
    (State.put_sameRegistersBut _ (Fd.LINK_L_CTRL_RATE l) _)).trans (State.put_sameRegistersBut _ (Fd.LINK_L_CTRL_LOOP l) _)

theorem cut_three_lt (x lo : Nat) : cut x lo 3 < 8 := Nat.mod_lt _ (by decide)

theorem State.linkCtrlSet_fields (s : State) (l : Fin 4) (v : Word) :
    (s.linkCtrlSet l v).get (Fd.LINK_L_CTRL_EN l) = (v.getLsbD 0).toNat ∧
    (s.linkCtrlSet l v).get (Fd.LINK_L_CTRL_AUTO l) = (v.getLsbD 2).toNat ∧
    (s.linkCtrlSet l v).get (Fd.LINK_L_CTRL_RATE l) = cut v.toNat 4 2 ∧
    (s.linkCtrlSet l v).get (Fd.LINK_L_CTRL_LOOP l) = cut v.toNat 8 3 := by
  unfold State.linkCtrlSet
  refine ⟨?_, ?_, ?_, ?_⟩
  · rw [State.get_put_apart _ _ _ _ (show 8 + 3 ≤ 32 by decide) (.inr (.inl (show 0 + 1 ≤ 8 by decide))),
      State.get_put_apart _ _ _ _ (show 4 + 2 ≤ 32 by decide) (.inr (.inl (show 0 + 1 ≤ 4 by decide))), State.putB, State.putB,
      State.get_put_apart _ _ _ _ (show 2 + 1 ≤ 32 by decide) (.inr (.inl (show 0 + 1 ≤ 2 by decide))),
      State.get_put_within _ _ _ (show 0 + 1 ≤ 32 by decide)]
    cases v.getLsbD 0 <;> rfl
  · rw [State.get_put_apart _ _ _ _ (show 8 + 3 ≤ 32 by decide) (.inr (.inl (show 2 + 1 ≤ 8 by decide))),
      State.get_put_apart _ _ _ _ (show 4 + 2 ≤ 32 by decide) (.inr (.inl (show 2 + 1 ≤ 4 by decide))), State.putB,
      State.get_put_within _ _ _ (show 2 + 1 ≤ 32 by decide)]
    cases v.getLsbD 2 <;> rfl
  · rw [State.get_put_apart _ _ _ _ (show 8 + 3 ≤ 32 by decide) (.inr (.inl (show 4 + 2 ≤ 8 by decide))),
      State.get_put_within _ _ _ (show 4 + 2 ≤ 32 by decide)]
    exact Nat.mod_eq_of_lt (Nat.mod_lt _ (Nat.two_pow_pos 2))
  · rw [State.get_put_within _ _ _ (show 8 + 3 ≤ 32 by decide)]
    exact Nat.mod_eq_of_lt (cut_three_lt _ _)

theorem State.linkFresh_linkState (s : State) (l : Fin 4) : (s.linkFresh l).linkState l = s.linkState l := rfl

theorem State.linkCtrlSet_linkState (s : State) (l : Fin 4) (v : Word) : (s.linkCtrlSet l v).linkState l = s.linkState l :=
  (s.linkCtrlSet_sameRegistersBut l v).linkState l (by decide +revert)

theorem State.linkTrain_of_down (s : State) (l : Fin 4) (h : s.pmu.warned = false) (hdown : s.linkState l = 0) :
    SameRegistersBut [Reg.LINK_L_CTRL l, Reg.LINK_L_STATUS l] s (s.linkTrain l) := by
  rw [s.linkTrain_eq l h, s.linkDown_of_down l hdown]
  exact (State.put_sameRegistersBut _ (Fd.LINK_L_STATUS_STATE l) 1).widen (by simp [Fd.LINK_L_STATUS_STATE])

theorem bit_toNat_eq_cut (v : Word) (i : Nat) : (v.getLsbD i).toNat = cut v.toNat i 1 := by
  unfold cut
  rw [BitVec.getLsbD, Nat.toNat_testBit, Nat.shiftRight_eq_div_pow, Nat.pow_one]

theorem State.linkEnable_refused (l : Fin 4) (v : Word) (s : State) (h : cut v.toNat 4 2 = 3 ∨ 3 < cut v.toNat 8 3) :
    (s.linkCtrlWrite l v).flag (Ev.LINK_L_FLAGS_CFGERR l) = true ∧
      SameRegistersBut [Reg.LINK_L_FLAGS l, (Ev.LINK_L_FLAGS_CFGERR l).cnt] s (s.linkCtrlWrite l v) ∧
      (s.linkCtrlWrite l v).linkState l = s.linkState l ∧ (s.linkCtrlWrite l v).mem = s.mem := by
  rw [s.linkCtrlWrite_of_illegal l v h]
  have hregs : SameRegistersBut [Reg.LINK_L_FLAGS l, (Ev.LINK_L_FLAGS_CFGERR l).cnt] s
      ((s.linkFresh l).raise (Ev.LINK_L_FLAGS_CFGERR l)) :=
    (SameRegistersBut.of_regs rfl).trans ((s.linkFresh l).raise_sameRegistersBut (Ev.LINK_L_FLAGS_CFGERR l))
  have hstatus := (show ∀ l : Fin 4, Reg.LINK_L_STATUS l ∉ [Reg.LINK_L_FLAGS l, (Ev.LINK_L_FLAGS_CFGERR l).cnt] by decide) l
  exact ⟨((s.linkFresh l).linkRefused_frame l _ (.inl rfl)).2, hregs, hregs.linkState l hstatus, State.raise_mem ..⟩

theorem State.linkEnable_trains (l : Fin 4) (v : Word) (s : State) (hrate : cut v.toNat 4 2 ≠ 3) (hloop : cut v.toNat 8 3 ≤ 3)
    (hen : v.getLsbD 0 = true) (hdown : s.linkState l = 0) (hwarned : s.pmu.warned = false) :
    (s.linkCtrlWrite l v).linkState l = 1 ∧ (s.linkCtrlWrite l v).get (Fd.LINK_L_CTRL_EN l) = 1 ∧
      (s.linkCtrlWrite l v).get (Fd.LINK_L_CTRL_RATE l) = cut v.toNat 4 2 ∧
      (s.linkCtrlWrite l v).get (Fd.LINK_L_CTRL_LOOP l) = cut v.toNat 8 3 ∧
      (s.linkCtrlWrite l v).get (Fd.LINK_L_CTRL_AUTO l) = cut v.toNat 2 1 ∧ ((s.linkCtrlWrite l v).port l).loop = cut v.toNat 8 3 ∧
      ((s.linkCtrlWrite l v).port l).marks = 0 ∧
      SameRegistersBut [Reg.LINK_L_CTRL l, Reg.LINK_L_STATUS l] s (s.linkCtrlWrite l v) ∧ (s.linkCtrlWrite l v).mem = s.mem := by
  obtain ⟨t, ht⟩ : ∃ t, t = (s.linkFresh l).linkCtrlSet l v := ⟨_, rfl⟩
  have htd : t.linkState l = 0 := by rw [ht, State.linkCtrlSet_linkState, State.linkFresh_linkState, hdown]
  have htw : t.pmu.warned = false := by rw [ht]; exact hwarned
  have htregs : SameRegistersBut [Reg.LINK_L_CTRL l] s t := by
    rw [ht]
    exact (SameRegistersBut.of_regs rfl).trans ((s.linkFresh l).linkCtrlSet_sameRegistersBut l v)
  obtain ⟨hten, htauto, htrate, htloop⟩ := (s.linkFresh l).linkCtrlSet_fields l v
  have htmem : t.mem = s.mem := by rw [ht]; rfl
  rw [← ht] at hten htauto htrate htloop
  have hw : s.linkCtrlWrite l v = t.linkTrain l := by
    rw [s.linkCtrlWrite_of_legal l v hrate hloop (.inl ⟨by rw [hdown]; decide, by rw [hdown]; decide⟩), ← ht]
    dsimp only
    rw [if_neg (by rw [hen]; decide), if_pos (.inl htd)]
  rw [hw]
  have htrain := t.linkTrain_of_down l htw htd
  have hport := t.linkTrain_port l htw
  have hctrl (f : Fld) (hf : f.addr = Reg.LINK_L_CTRL l) : (t.linkTrain l).get f = t.get f := by
    rw [t.linkTrain_eq l htw, t.linkDown_of_down l htd, State.get_put_apart _ _ _ _ (show 0 + 2 ≤ 32 by decide)
      (.inl (by rw [hf]; exact (show ∀ l : Fin 4, Reg.LINK_L_CTRL l ≠ Reg.LINK_L_STATUS l by decide) l))]
    rfl
  have hloopNow : (t.linkDown l).get (Fd.LINK_L_CTRL_LOOP l) = cut v.toNat 8 3 := by rw [t.linkDown_of_down l htd, htloop]
  refine ⟨t.linkTrain_linkState l htw, ?_, ?_, ?_, ?_, ?_, ?_, (htregs.widen (by simp)).trans htrain, (t.linkTrain_mem l htw).trans htmem⟩
  · rw [hctrl _ rfl, hten, hen]; rfl
  · rw [hctrl _ rfl, htrate]
  · rw [hctrl _ rfl, htloop]
  · rw [hctrl _ rfl, htauto, bit_toNat_eq_cut]
  · rw [hport]; exact hloopNow
  · rw [hport]; rfl

theorem State.linkEnable_off (l : Fin 4) (v : Word) (s : State) (hrate : cut v.toNat 4 2 = s.get (Fd.LINK_L_CTRL_RATE l))
    (hloop : cut v.toNat 8 3 = s.get (Fd.LINK_L_CTRL_LOOP l)) (hr3 : s.get (Fd.LINK_L_CTRL_RATE l) ≠ 3)
    (hl3 : s.get (Fd.LINK_L_CTRL_LOOP l) ≤ 3) (hen : v.getLsbD 0 = false) (hup : s.linkState l = 2) :
    (s.linkCtrlWrite l v).linkState l = 0 ∧ (s.linkCtrlWrite l v).get (Fd.LINK_L_CTRL_EN l) = 0 ∧
      (s.linkCtrlWrite l v).flag (Ev.LINK_L_FLAGS_DOWN l) = true ∧ ((s.linkCtrlWrite l v).port l).retrain = none ∧
      (s.linkCtrlWrite l v).mem = s.mem := by
  obtain ⟨t, ht⟩ : ∃ t, t = (s.linkFresh l).linkCtrlSet l v := ⟨_, rfl⟩
  have htu : t.linkState l = 2 := by rw [ht, State.linkCtrlSet_linkState, State.linkFresh_linkState, hup]
  have hten := ((s.linkFresh l).linkCtrlSet_fields l v).1
  have htmem : t.mem = s.mem := by rw [ht]; rfl
  rw [← ht, hen] at hten
  have hw : s.linkCtrlWrite l v = (t.linkDown l).portM l fun p => { p with retrain := none } := by
    rw [s.linkCtrlWrite_of_legal l v (hrate ▸ hr3) (hloop ▸ hl3) (.inr ⟨hrate, hloop⟩), ← ht]
    dsimp only
    rw [if_pos (by rw [hen]; rfl)]
  have hctrl : (t.linkDown l).get (Fd.LINK_L_CTRL_EN l) = t.get (Fd.LINK_L_CTRL_EN l) :=
    (t.linkDown_sameRegistersBut l).get _ ((show ∀ l : Fin 4, Reg.LINK_L_CTRL l ∉ linkLossRegs l by decide) l)
  rw [hw]
  refine ⟨t.linkDown_linkState l, hctrl.trans hten, t.linkDown_flag l htu, ?_, (t.linkDown_mem l).trans htmem⟩
  rw [State.portM_port]

theorem State.linkRetrain_trains (l : Fin 4) (s : State) (hen : s.on (Fd.LINK_L_CTRL_EN l) = true) (hwarned : s.pmu.warned = false) :
    (s.linkRetrain l).linkState l = 1 ∧ ((s.linkRetrain l).port l).marks = 0 ∧ ((s.linkRetrain l).port l).replay = [] ∧
      ((s.linkRetrain l).port l).expect = 0 ∧ (s.linkState l = 2 → (s.linkRetrain l).flag (Ev.LINK_L_FLAGS_DOWN l) = true) ∧
      (s.linkRetrain l).now = s.now ∧ (s.linkRetrain l).mem = s.mem := by
  have hw : (s.linkFresh l).pmu.warned = false := hwarned
  rw [show s.linkRetrain l = (s.linkFresh l).linkTrain l from if_pos hen]
  have hport := (s.linkFresh l).linkTrain_port l hw
  refine ⟨State.linkTrain_linkState _ l hw, ?_, ?_, ?_, fun hup => State.linkTrain_flag _ l hw hup,
    State.linkTrain_now _ l hw, State.linkTrain_mem _ l hw⟩
  · rw [hport]; rfl
  · rw [hport]; rfl
  · rw [hport]; rfl

/-! ### The end of a training (R389) -/

/-- The state that a training leaves that ends well. -/
def State.trainedUp (s : State) (l : Fin 4) : State :=
  ((((s.linkRtt l (s.port l).markMax).put (Fd.LINK_L_STATUS_LPLLOCK l) 1).put (Fd.LINK_L_STATUS_CLKOK l) 1).put
    (Fd.LINK_L_STATUS_STATE l) 2).put (Fd.LINK_L_STATUS_CRED l) 16 |>.raise (Ev.LINK_L_FLAGS_UP l)

theorem State.linkTrained_eq (s : State) (l : Fin 4) (a b : LaneScan) (hst : s.linkState l = 1) (hlock : s.on Fd.PLL_STATUS_SYNCLOCK = true)
    (hmarks : 16 ≤ (s.port l).marks) (hloop : (s.port l).loop ≠ 2) :
    s.linkTrained l a b = if s.eyeNarrow l a b then ((s.linkFresh l).linkMargin l a b).trainFailed l true
      else ((s.linkFresh l).linkMargin l a b).trainedUp l := by
  unfold State.linkTrained
  rw [if_pos ⟨hst, hlock, hmarks⟩]
  have hscan : (((s.linkFresh l).port l).loop != 2) = true := by
    rw [State.linkFresh, State.portM_port]
    exact bne_iff_ne.2 hloop
  have heye : ((s.linkFresh l).linkMargin l a b).eyeNarrow l a b = s.eyeNarrow l a b := (s.linkFresh l).linkMargin_eyeNarrow l a b
  dsimp only
  rw [hscan, if_pos rfl, heye, Bool.true_and]
  rfl

/-- A field of LINKl_STATUS reads after a training what the scan's results and the new state leave of it. -/
theorem State.trainedUp_status (s : State) (l : Fin 4) (f : Fld) (hf : f.addr = Reg.LINK_L_STATUS l) :
    ∃ u : State, (s.trainedUp l).get f = ((((u.put (Fd.LINK_L_STATUS_LPLLOCK l) 1).put (Fd.LINK_L_STATUS_CLKOK l) 1).put
      (Fd.LINK_L_STATUS_STATE l) 2).put (Fd.LINK_L_STATUS_CRED l) 16).get f ∧ u.get f = s.get f := by
  have hflags : f.addr ≠ Reg.LINK_L_FLAGS l := by rw [hf]; exact (show ∀ l : Fin 4, Reg.LINK_L_STATUS l ≠ Reg.LINK_L_FLAGS l by decide) l
  have hcnt : f.addr ≠ (Ev.LINK_L_FLAGS_UP l).cnt := by
    rw [hf]; exact (show ∀ l : Fin 4, Reg.LINK_L_STATUS l ≠ (Ev.LINK_L_FLAGS_UP l).cnt by decide) l
  refine ⟨s.linkRtt l (s.port l).markMax, State.get_raise_other _ _ _ (show 0 < 32 by decide) (.inl hflags) hcnt, ?_⟩
  refine (s.linkRtt_sameRegistersBut l _).get f ?_
  rw [hf]
  exact (show ∀ l : Fin 4, Reg.LINK_L_STATUS l ∉ [Reg.LINK_L_RTT l, Reg.TBL_LFWDMEAS l] by decide) l

theorem State.trainedUp_linkState (s : State) (l : Fin 4) : (s.trainedUp l).linkState l = 2 := by
  obtain ⟨u, hu, -⟩ := s.trainedUp_status l (Fd.LINK_L_STATUS_STATE l) rfl
  rw [State.linkState, hu, State.get_put_apart _ _ _ _ (show 16 + 5 ≤ 32 by decide) (.inr (.inl (show 0 + 2 ≤ 16 by decide))),
    State.get_put_within _ _ _ (show 0 + 2 ≤ 32 by decide)]
  rfl

theorem State.trainedUp_cred (s : State) (l : Fin 4) : (s.trainedUp l).get (Fd.LINK_L_STATUS_CRED l) = 16 := by
  obtain ⟨u, hu, -⟩ := s.trainedUp_status l (Fd.LINK_L_STATUS_CRED l) rfl
  rw [hu, State.get_put_within _ _ _ (show 16 + 5 ≤ 32 by decide)]
  rfl

theorem State.trainedUp_lock (s : State) (l : Fin 4) : (s.trainedUp l).get (Fd.LINK_L_STATUS_LPLLOCK l) = 1 := by
  obtain ⟨u, hu, -⟩ := s.trainedUp_status l (Fd.LINK_L_STATUS_LPLLOCK l) rfl
  rw [hu, State.get_put_apart _ _ _ _ (show 16 + 5 ≤ 32 by decide) (.inr (.inl (show 3 + 1 ≤ 16 by decide))),
    State.get_put_apart _ _ _ _ (show 0 + 2 ≤ 32 by decide) (.inr (.inr (show 0 + 2 ≤ 3 by decide))),
    State.get_put_apart _ _ _ _ (show 2 + 1 ≤ 32 by decide) (.inr (.inr (show 2 + 1 ≤ 3 by decide))),
    State.get_put_within _ _ _ (show 3 + 1 ≤ 32 by decide)]
  rfl

/-- The end of a training leaves the settings that the scan has reported. -/
theorem State.trainedUp_setting (s : State) (l : Fin 4) (f : Fld) (hf : f.addr = Reg.LINK_L_STATUS l) (hlo : 4 ≤ f.lo) (hhi : f.lo + f.w ≤ 16) :
    (s.trainedUp l).get f = s.get f := by
  obtain ⟨u, hu, hs⟩ := s.trainedUp_status l f hf
  rw [hu, State.get_put_apart _ _ _ _ (show 16 + 5 ≤ 32 by decide) (.inr (.inl hhi)),
    State.get_put_apart _ _ _ _ (show 0 + 2 ≤ 32 by decide) (.inr (.inr (show 0 + 2 ≤ f.lo by omega))),
    State.get_put_apart _ _ _ _ (show 2 + 1 ≤ 32 by decide) (.inr (.inr (show 2 + 1 ≤ f.lo by omega))),
    State.get_put_apart _ _ _ _ (show 3 + 1 ≤ 32 by decide) (.inr (.inr (show 3 + 1 ≤ f.lo by omega))), hs]

theorem State.trainedUp_sameRegistersBut (s : State) (l : Fin 4) : SameRegistersBut
    [Reg.LINK_L_RTT l, Reg.TBL_LFWDMEAS l, Reg.LINK_L_STATUS l, Reg.LINK_L_FLAGS l, (Ev.LINK_L_FLAGS_UP l).cnt] s (s.trainedUp l) := by
  refine ((((((s.linkRtt_sameRegistersBut l (s.port l).markMax).widen ?_).trans
    ((State.put_sameRegistersBut _ (Fd.LINK_L_STATUS_LPLLOCK l) 1).widen ?_)).trans
    ((State.put_sameRegistersBut _ (Fd.LINK_L_STATUS_CLKOK l) 1).widen ?_)).trans
    ((State.put_sameRegistersBut _ (Fd.LINK_L_STATUS_STATE l) 2).widen ?_)).trans
    ((State.put_sameRegistersBut _ (Fd.LINK_L_STATUS_CRED l) 16).widen ?_)).trans
    ((State.raise_sameRegistersBut _ (Ev.LINK_L_FLAGS_UP l)).widen ?_)
  all_goals
    simp [Fd.LINK_L_STATUS_LPLLOCK, Fd.LINK_L_STATUS_CLKOK, Fd.LINK_L_STATUS_STATE, Fd.LINK_L_STATUS_CRED, Ev.LINK_L_FLAGS_UP]

theorem State.trainedUp_rtt (s : State) (l : Fin 4) : (s.trainedUp l).rdN (Reg.LINK_L_RTT l) = (s.port l).markMax % 2 ^ 32 := by
  have hne : Reg.LINK_L_RTT l ≠ Reg.LINK_L_STATUS l ∧ Reg.LINK_L_RTT l ≠ Reg.LINK_L_FLAGS l ∧ Reg.LINK_L_RTT l ≠ (Ev.LINK_L_FLAGS_UP l).cnt := by
    decide +revert
  obtain ⟨hs, hf, hc⟩ := hne
  rw [← s.linkRtt_rtt l (s.port l).markMax]
  unfold State.rdN State.trainedUp
  rw [State.rd_raise_other _ _ _ hf hc, State.rd_put_other _ _ _ _ hs, State.rd_put_other _ _ _ _ hs, State.rd_put_other _ _ _ _ hs,
    State.rd_put_other _ _ _ _ hs]

theorem State.trainedUp_flag (s : State) (l : Fin 4) : (s.trainedUp l).flag (Ev.LINK_L_FLAGS_UP l) = true :=
  State.flag_raise _ (Ev.LINK_L_FLAGS_UP l) (by decide +revert) (show 0 < 32 by decide)

theorem State.trainedUp_mem (s : State) (l : Fin 4) : (s.trainedUp l).mem = s.mem := by
  unfold State.trainedUp
  rw [State.raise_mem]
  rfl

theorem State.linkTrained_up (l : Fin 4) (a b : LaneScan) (s : State) (hst : s.linkState l = 1) (hlock : s.on Fd.PLL_STATUS_SYNCLOCK = true)
    (hmarks : 16 ≤ (s.port l).marks) (hloop : (s.port l).loop ≠ 2) (heye : s.eyeNarrow l a b = false) :
    (s.linkTrained l a b).linkState l = 2 ∧ (s.linkTrained l a b).get (Fd.LINK_L_STATUS_CRED l) = 16 ∧
      (s.linkTrained l a b).flag (Ev.LINK_L_FLAGS_UP l) = true ∧
      (s.linkTrained l a b).rdN (Reg.LINK_L_RTT l) = (s.port l).markMax % 2 ^ 32 ∧
      (s.linkTrained l a b).get (Fd.LINK_L_STATUS_LPLLOCK l) = 1 ∧
      (s.linkTrained l a b).get (Fd.LINK_L_MARGIN_WIDTH0 l) = (s.laneResult l a (Fd.LINK_L_EQ_SET0 l)).2.1 % 128 ∧
      (s.linkTrained l a b).get (Fd.LINK_L_MARGIN_WIDTH1 l) = (s.laneResult l b (Fd.LINK_L_EQ_SET1 l)).2.1 % 128 ∧
      (s.linkTrained l a b).get (Fd.LINK_L_STATUS_EQ0 l) = (s.laneResult l a (Fd.LINK_L_EQ_SET0 l)).1 % 16 ∧
      (s.linkTrained l a b).get (Fd.LINK_L_STATUS_EQ1 l) = (s.laneResult l b (Fd.LINK_L_EQ_SET1 l)).1 % 16 ∧
      (s.linkTrained l a b).mem = s.mem := by
  have hmargin : Reg.LINK_L_MARGIN l ∉
      [Reg.LINK_L_RTT l, Reg.TBL_LFWDMEAS l, Reg.LINK_L_STATUS l, Reg.LINK_L_FLAGS l, (Ev.LINK_L_FLAGS_UP l).cnt] :=
    (show ∀ l : Fin 4, Reg.LINK_L_MARGIN l ∉
      [Reg.LINK_L_RTT l, Reg.TBL_LFWDMEAS l, Reg.LINK_L_STATUS l, Reg.LINK_L_FLAGS l, (Ev.LINK_L_FLAGS_UP l).cnt] by decide) l
  obtain ⟨hw0, hw1⟩ := (s.linkFresh l).linkMargin_widths l a b
  obtain ⟨hq0, hq1⟩ := (s.linkFresh l).linkMargin_settings l a b
  have hmark : (((s.linkFresh l).linkMargin l a b).port l).markMax = (s.port l).markMax := by
    show ((s.linkFresh l).port l).markMax = (s.port l).markMax
    rw [State.linkFresh, State.portM_port]
  have hmem : ((s.linkFresh l).linkMargin l a b).mem = s.mem := rfl
  rw [s.linkTrained_eq l a b hst hlock hmarks hloop, heye, if_neg Bool.false_ne_true]
  generalize (s.linkFresh l).linkMargin l a b = u at *
  refine ⟨u.trainedUp_linkState l, u.trainedUp_cred l, u.trainedUp_flag l, ?_, u.trainedUp_lock l, ?_, ?_, ?_, ?_, (u.trainedUp_mem l).trans hmem⟩
  · rw [u.trainedUp_rtt l, hmark]
  · exact ((u.trainedUp_sameRegistersBut l).get _ hmargin).trans hw0
  · exact ((u.trainedUp_sameRegistersBut l).get _ hmargin).trans hw1
  · exact (u.trainedUp_setting l _ rfl (show 4 ≤ 8 by decide) (show 8 + 4 ≤ 16 by decide)).trans hq0
  · exact (u.trainedUp_setting l _ rfl (show 4 ≤ 12 by decide) (show 12 + 4 ≤ 16 by decide)).trans hq1

theorem State.linkTrained_narrow (l : Fin 4) (a b : LaneScan) (s : State) (hst : s.linkState l = 1)
    (hlock : s.on Fd.PLL_STATUS_SYNCLOCK = true) (hmarks : 16 ≤ (s.port l).marks) (hloop : (s.port l).loop ≠ 2)
    (heye : s.eyeNarrow l a b = true) :
    (s.linkTrained l a b).linkState l = 0 ∧ (s.linkTrained l a b).flag (Ev.LINK_L_FLAGS_TRAINFAIL l) = true ∧
      (s.linkTrained l a b).mem = s.mem := by
  rw [s.linkTrained_eq l a b hst hlock hmarks hloop, heye, if_pos rfl]
  exact ⟨State.trainFailed_linkState .., State.trainFailed_flag .., State.trainFailed_mem ..⟩

/-! ### A training that fails (R389) -/

theorem State.linkTrainFail_of_scan (s : State) (l : Fin 4) (a b : LaneScan) (hst : s.linkState l = 1) (hloop : (s.port l).loop ≠ 2) :
    s.linkTrainFail l (.scanned a b) = if s.eyeNarrow l a b then (s.linkMargin l a b).trainFailed l true
      else if (s.port l).ready then s.linkMargin l a b
      else ((s.linkMargin l a b).reachNow ((s.port l).trainAt + tMs)).trainFailed l true := by
  unfold State.linkTrainFail
  rw [if_neg (by rw [hst]; decide)]
  dsimp only
  rw [if_neg hloop, s.linkMargin_eyeNarrow]
  by_cases heye : s.eyeNarrow l a b = true
  · rw [if_pos ⟨hloop, heye⟩, if_pos heye]
  · rw [if_neg (fun h => heye h.2), if_neg heye]

theorem State.linkMargin_auto (s : State) (l : Fin 4) (a b : LaneScan) :
    (s.linkMargin l a b).on (Fd.LINK_L_CTRL_AUTO l) = s.on (Fd.LINK_L_CTRL_AUTO l) := by
  unfold State.on
  rw [(s.linkMargin_sameRegistersBut l a b).get _
    ((show ∀ l : Fin 4, Reg.LINK_L_CTRL l ∉ [Reg.LINK_L_STATUS l, Reg.LINK_L_MARGIN l] by decide) l)]

theorem State.linkTrainFail_noClock (l : Fin 4) (s : State) (hst : s.linkState l = 1) (hloop : (s.port l).loop ≠ 2)
    (hready : (s.port l).ready = false) :
    (s.linkTrainFail l .clock).linkState l = 0 ∧ (s.linkTrainFail l .clock).flag (Ev.LINK_L_FLAGS_TRAINFAIL l) = true ∧
      (s.linkTrainFail l .clock).get (Fd.LINK_L_STATUS_CLKOK l) = 0 ∧ (s.port l).trainAt + 100 * tUs ≤ (s.linkTrainFail l .clock).now ∧
      ((s.linkTrainFail l .clock).port l).retrain =
        if s.on (Fd.LINK_L_CTRL_AUTO l) = true then some ((s.linkTrainFail l .clock).now + 10 * tMs) else none := by
  have heq : s.linkTrainFail l .clock = (s.reachNow ((s.port l).trainAt + 100 * tUs)).trainFailed l false := by
    unfold State.linkTrainFail
    rw [if_neg (by rw [hst]; decide)]
    exact if_neg (not_or.2 ⟨hloop, by rw [hready]; decide⟩)
  rw [heq, State.trainFailed_retrain, State.trainFailed_now, State.reachNow_on]
  exact ⟨State.trainFailed_linkState .., State.trainFailed_flag .., State.trainFailed_clkok .., s.le_reachNow_now _, rfl⟩

theorem State.linkTrainFail_narrow (l : Fin 4) (a b : LaneScan) (s : State) (hst : s.linkState l = 1) (hloop : (s.port l).loop ≠ 2)
    (heye : s.eyeNarrow l a b = true) :
    (s.linkTrainFail l (.scanned a b)).linkState l = 0 ∧ (s.linkTrainFail l (.scanned a b)).flag (Ev.LINK_L_FLAGS_TRAINFAIL l) = true ∧
      (s.linkTrainFail l (.scanned a b)).get (Fd.LINK_L_STATUS_CLKOK l) = 1 ∧
      ((s.linkTrainFail l (.scanned a b)).port l).retrain =
        (if s.on (Fd.LINK_L_CTRL_AUTO l) = true then some ((s.linkTrainFail l (.scanned a b)).now + 10 * tMs) else none) ∧
      (s.linkTrainFail l (.scanned a b)).now = s.now ∧ (s.linkTrainFail l (.scanned a b)).mem = s.mem := by
  rw [s.linkTrainFail_of_scan l a b hst hloop, if_pos heye, State.trainFailed_retrain, State.trainFailed_now, State.linkMargin_auto]
  exact ⟨State.trainFailed_linkState .., State.trainFailed_flag .., State.trainFailed_clkok .., rfl, rfl, State.trainFailed_mem ..⟩

theorem State.linkTrainFail_late (l : Fin 4) (a b : LaneScan) (s : State) (hst : s.linkState l = 1) (hloop : (s.port l).loop ≠ 2)
    (heye : s.eyeNarrow l a b = false) (hready : (s.port l).ready = false) :
    (s.linkTrainFail l (.scanned a b)).linkState l = 0 ∧ (s.linkTrainFail l (.scanned a b)).flag (Ev.LINK_L_FLAGS_TRAINFAIL l) = true ∧
      (s.linkTrainFail l (.scanned a b)).get (Fd.LINK_L_STATUS_CLKOK l) = 1 ∧
      (s.port l).trainAt + tMs ≤ (s.linkTrainFail l (.scanned a b)).now := by
  rw [s.linkTrainFail_of_scan l a b hst hloop, heye, if_neg Bool.false_ne_true, hready, if_neg Bool.false_ne_true, State.trainFailed_now]
  exact ⟨State.trainFailed_linkState .., State.trainFailed_flag .., State.trainFailed_clkok .., State.le_reachNow_now _ _⟩

theorem State.linkAutoRetrain_trains (l : Fin 4) (x : Nat) (s : State) (hx : (s.port l).retrain = some x)
    (hen : s.on (Fd.LINK_L_CTRL_EN l) = true) (hauto : s.on (Fd.LINK_L_CTRL_AUTO l) = true) (hwarned : s.pmu.warned = false) :
    (s.linkAutoRetrain l).linkState l = 1 ∧ ((s.linkAutoRetrain l).port l).retrain = none ∧ x ≤ (s.linkAutoRetrain l).now := by
  have heq : s.linkAutoRetrain l = (s.reachNow x).linkTrain l := by
    unfold State.linkAutoRetrain
    rw [hx]
    exact if_pos (by rw [hen, hauto]; rfl)
  have hw : (s.reachNow x).pmu.warned = false := by rw [State.reachNow, State.advance_pmu, hwarned]
  rw [heq, State.linkTrain_port _ l hw, State.linkTrain_now _ l hw]
  exact ⟨State.linkTrain_linkState _ l hw, rfl, s.le_reachNow_now x⟩

theorem State.nakExpire_ends (l : Fin 4) (x : Nat) (s : State) (hx : (s.port l).nakAt = some x) :
    ((s.nakExpire l).port l).nakAt = none ∧ x + 2 * tUs ≤ (s.nakExpire l).now ∧ (s.nakExpire l).linkState l = s.linkState l ∧
      ((s.nakExpire l).port l).ops = (s.port l).ops := by
  have heq : s.nakExpire l = (s.reachNow (x + 2 * tUs)).portM l fun p => { p with nakAt := none } := by
    unfold State.nakExpire
    rw [hx]
  rw [heq, State.portM_port]
  refine ⟨rfl, s.le_reachNow_now _, ?_, by rw [State.reachNow_port]⟩
  rw [State.linkState_of_regs (State.portM_regs ..)]
  exact s.reachNow_field _ _

/-! ### Losses (R393, R410) -/

/-- R67: what the loss of the sync PLL's reference leaves of a link. -/
theorem State.referenceLoss_get (s : State) (l : Fin 4) (f : Fld) (hf : f.addr = Reg.LINK_L_STATUS l ∨ f.addr = Reg.LINK_L_FLAGS l) :
    (s.referenceLoss .sync).get f = s.get f := by
  have hapart : ∀ l : Fin 4, ∀ a ∈ [Reg.LINK_L_STATUS l, Reg.LINK_L_FLAGS l],
      a ≠ Ev.PLL_FLAGS_REFLOSS.addr ∧ a ≠ Ev.PLL_FLAGS_REFLOSS.cnt ∧ a ≠ Fd.PLL_STATUS_SYNCHOLD.addr := by decide
  obtain ⟨h1, h2, h3⟩ := hapart l f.addr (by simpa using hf)
  have hraise : ((s.raise Ev.PLL_FLAGS_REFLOSS).pllM fun p => { p with syncRefLost := true }).get f = s.get f :=
    s.get_raise_other _ _ (by decide) (.inl h1) h2
  unfold State.referenceLoss
  dsimp only
  split
  · rw [State.get_put_apart _ _ _ _ (by decide) (.inl h3), hraise]
  · exact hraise

theorem State.referenceLoss_port (s : State) (l : Fin 4) : (s.referenceLoss .sync).port l = s.port l := by
  unfold State.referenceLoss
  dsimp only
  split
  · rw [State.put_port]
    exact s.raise_port _ l
  · exact s.raise_port _ l

/-- The link without its clock, before the sync PLL notices. -/
def State.clockLost (s : State) (l : Fin 4) : State := ((s.linkFresh l).linkDown l).put (Fd.LINK_L_STATUS_CLKOK l) 0

theorem State.linkClockLoss_down (l : Fin 4) (s : State) (hup : s.linkState l = 2) :
    (s.linkClockLoss l).linkState l = 0 ∧ (s.linkClockLoss l).get (Fd.LINK_L_STATUS_CLKOK l) = 0 ∧
      (s.linkClockLoss l).flag (Ev.LINK_L_FLAGS_DOWN l) = true ∧ ((s.linkClockLoss l).port l).replay = [] := by
  have hup' : (s.linkFresh l).linkState l = 2 := hup
  have hne : Reg.LINK_L_FLAGS l ≠ Reg.LINK_L_STATUS l := (show ∀ l : Fin 4, Reg.LINK_L_FLAGS l ≠ Reg.LINK_L_STATUS l by decide) l
  have hstate : (s.clockLost l).linkState l = 0 := by
    rw [State.clockLost, State.linkState, State.get_put_apart _ _ _ _ (show 2 + 1 ≤ 32 by decide) (.inr (.inl (show 0 + 2 ≤ 2 by decide)))]
    exact State.linkDown_linkState _ l
  have hclk : (s.clockLost l).get (Fd.LINK_L_STATUS_CLKOK l) = 0 := State.get_put_within _ _ _ (show 2 + 1 ≤ 32 by decide)
  have hflag : (s.clockLost l).flag (Ev.LINK_L_FLAGS_DOWN l) = true := by
    rw [State.clockLost, State.flag_put_apart _ _ _ _ hne]
    exact State.linkDown_flag _ l hup'
  have hreplay : ((s.clockLost l).port l).replay = [] := by
    rw [State.clockLost, State.put_port]
    exact State.linkDown_replay _ l (by rw [hup']; decide)
  rw [show s.linkClockLoss l = if (s.clockLost l).syncFrom l.val && !(s.clockLost l).pll.syncRefLost then (s.clockLost l).referenceLoss .sync
    else s.clockLost l from rfl]
  generalize s.clockLost l = u at *
  split
  · refine ⟨(u.referenceLoss_get l _ (.inl rfl)).trans hstate, (u.referenceLoss_get l _ (.inl rfl)).trans hclk, ?_, ?_⟩
    · unfold State.flag State.on
      rw [u.referenceLoss_get l _ (.inr rfl)]
      exact hflag
    · rw [u.referenceLoss_port, hreplay]
  · exact ⟨hstate, hclk, hflag, hreplay⟩

theorem State.linkStuff_down (l : Fin 4) (x : LaneBits) (s : State) (hup : s.linkState l = 2) (hloop : (s.port l).loop ≠ 3)
    (hbad : (s.port l).stuffBad x = true) :
    (s.linkStuff l x).linkState l = 0 ∧ (s.linkStuff l x).flag (Ev.LINK_L_FLAGS_DOWN l) = true ∧ ((s.linkStuff l x).port l).replay = [] ∧
      (s.linkStuff l x).now = s.now ∧ (s.linkStuff l x).mem = s.mem := by
  have hup' : (s.linkFresh l).linkState l = 2 := hup
  have hport : (s.linkFresh l).port l = { s.port l with sent := [], line := ⟨[], []⟩ } := s.portM_port l _
  have heq : s.linkStuff l x = (s.linkFresh l).linkDown l := by
    refine if_pos ⟨?_, ?_, ?_⟩
    · unfold State.linkCells
      rw [hup']; rfl
    · rw [hport]; exact hloop
    · rw [hport]; exact hbad
  rw [heq]
  exact ⟨State.linkDown_linkState _ l, State.linkDown_flag _ l hup', State.linkDown_replay _ l (by rw [hup']; decide),
    State.linkDown_now _ l, State.linkDown_mem _ l⟩

end Sys2Proof.Machine

/-! SUPPORT. O50, the second part: what a link sends, its replays, its exchange, its raw stream cells and its test pattern. -/
namespace Sys2Proof.Machine

set_option Elab.async false

/-! ### Cells leave (R391, R398–R400) -/

theorem LinkPort.emit_sent (p : LinkPort) (seq : Nat) (c : TxCell) : (p.emit seq c).sent = p.sent ++ [encodeCell p seq p.nakDue c] := rfl

/-- A cell that leaves changes what the port has sent and what is due, nothing else. -/
theorem LinkPort.emit_eq (p : LinkPort) (seq : Nat) (c : TxCell) : p.emit seq c =
    { p with
      sent := (p.emit seq c).sent, nakDue := false, ackDue := false, line := (p.emit seq c).line, txRun := (p.emit seq c).txRun } := rfl

theorem LinkPort.sendUnseq_eq (p : LinkPort) (c : TxCell) : p.sendUnseq c =
    ({ p with credRet := p.credRet - min 15 p.credRet }).emit 0 { c with cred := min 15 p.credRet } := rfl

/-- A new sequenced cell as it leaves. -/
def LinkPort.launched (p : LinkPort) (c : TxCell) : LinkPort :=
  ({ p with credRet := p.credRet - min 15 p.credRet }).emit p.seq { c with cred := min 15 p.credRet }

theorem LinkPort.sendSeq_eq (p : LinkPort) (now : Nat) (c : TxCell) : p.sendSeq now c =
    { p.launched c with
      replay := p.replay ++ [(p.seq, { c with cred := min 15 p.credRet, at_ := now })], seq := (p.seq + 1) % 256 } := rfl

/-- What an empty transmit side sends leaves the accesses, the replay buffer and the numbering as they were. -/
theorem LinkPort.pump_of_empty (p : LinkPort) (now : Nat) (he : p.evOut = []) (hr : p.respOut = []) (hs : p.strOut = []) :
    (p.pump now).ops = p.ops ∧ (p.pump now).replay = p.replay ∧ (p.pump now).seq = p.seq ∧ (p.pump now).loop = p.loop := by
  have hpump : p.pump now = if p.nakDue || p.ackDue || p.credRet != 0 then p.sendUnseq { typ := 0, sub := 0, len := 32, body := 0 } else p := by
    unfold LinkPort.pump
    rw [he, hr, hs]
    rfl
  rw [hpump]
  split
  · exact ⟨rfl, rfl, rfl, rfl⟩
  · exact ⟨rfl, rfl, rfl, rfl⟩

/-- The cells that wait to be sent. -/
def LinkPort.waiting (p : LinkPort) : Nat := p.evOut.length + p.respOut.length + p.strOut.length

/-- A response or a stream cell waits, or has left and is kept for a replay. -/
def LinkPort.Carries (p : LinkPort) (c : TxCell) : Prop :=
  (c ∈ p.respOut ∨ c ∈ p.strOut) ∨ ∃ e ∈ p.replay, e.2.typ = c.typ ∧ e.2.sub = c.sub ∧ e.2.body = c.body

theorem LinkPort.pumpOne_event (p : LinkPort) (now : Nat) (x : Nat × Nat) (r : List (Nat × Nat)) (hroom : p.replay.length < 48)
    (hev : p.evOut = x :: r) :
    p.pumpOne now = ({ p with evOut := r }).sendSeq now { typ := 5, sub := x.1, len := 64, body := x.2 * 2 ^ 160 } := by
  unfold LinkPort.pumpOne
  rw [if_neg (by omega), hev]

theorem LinkPort.pumpOne_response (p : LinkPort) (now : Nat) (c : TxCell) (r : List TxCell) (hroom : p.replay.length < 48)
    (hev : p.evOut = []) (hresp : p.respOut = c :: r) : p.pumpOne now = ({ p with respOut := r }).sendSeq now c := by
  unfold LinkPort.pumpOne
  rw [if_neg (by omega), hev, hresp]

theorem LinkPort.pumpOne_stream (p : LinkPort) (now : Nat) (c : TxCell) (r : List TxCell) (hroom : p.replay.length < 48)
    (hev : p.evOut = []) (hresp : p.respOut = []) (hstr : p.strOut = c :: r) :
    p.pumpOne now = ({ p with strOut := r }).sendSeq now c := by
  unfold LinkPort.pumpOne
  rw [if_neg (by omega), hev, hresp, hstr]

theorem LinkPort.sendSeq_length (p : LinkPort) (now : Nat) (c : TxCell) : (p.sendSeq now c).replay.length = p.replay.length + 1 := by
  rw [LinkPort.sendSeq_eq, List.length_append, List.length_singleton]

theorem LinkPort.sendSeq_carries (p : LinkPort) (now : Nat) (c d : TxCell) (h : p.Carries c ∨ c = d) : (p.sendSeq now d).Carries c := by
  rcases h with (h | ⟨e, he, hc⟩) | rfl
  · exact .inl h
  · refine .inr ⟨e, ?_, hc⟩
    rw [LinkPort.sendSeq_eq]
    exact List.mem_append_left _ he
  · refine .inr ⟨(p.seq, { c with cred := min 15 p.credRet, at_ := now }), ?_, rfl, rfl, rfl⟩
    rw [LinkPort.sendSeq_eq]
    exact List.mem_append_right _ (.head _)

/-- R400: a cell that leaves takes a place in the replay buffer; a response or a stream cell that waits, waits on or has left. -/
theorem LinkPort.pumpOne_sends (p : LinkPort) (now : Nat) (hroom : p.replay.length < 48) (hsome : p.waiting ≠ 0) :
    (p.pumpOne now).waiting + 1 = p.waiting ∧ (p.pumpOne now).replay.length = p.replay.length + 1 ∧
      (p.pumpOne now).rawNext = p.rawNext ∧ ∀ c, p.Carries c → (p.pumpOne now).Carries c := by
  cases hev : p.evOut with
  | cons x r =>
    rw [p.pumpOne_event now x r hroom hev]
    refine ⟨?_, LinkPort.sendSeq_length .., rfl, fun c hc => LinkPort.sendSeq_carries _ now c _ (.inl hc)⟩
    show r.length + p.respOut.length + p.strOut.length + 1 = p.waiting
    simp only [LinkPort.waiting, hev, List.length_cons]; omega
  | nil =>
    cases hresp : p.respOut with
    | cons x r =>
      rw [p.pumpOne_response now x r hroom hev hresp]
      refine ⟨?_, LinkPort.sendSeq_length .., rfl, fun c hc => LinkPort.sendSeq_carries _ now c _ ?_⟩
      · show p.evOut.length + r.length + p.strOut.length + 1 = p.waiting
        simp only [LinkPort.waiting, hresp, List.length_cons]; omega
      · unfold LinkPort.Carries at hc ⊢
        rw [hresp, List.mem_cons] at hc
        obtain ((hc | hc) | hc) | hc := hc
        · exact .inr hc
        · exact .inl (.inl (.inl hc))
        · exact .inl (.inl (.inr hc))
        · exact .inl (.inr hc)
    | nil =>
      cases hstr : p.strOut with
      | cons x r =>
        rw [p.pumpOne_stream now x r hroom hev hresp hstr]
        refine ⟨?_, LinkPort.sendSeq_length .., rfl, fun c hc => LinkPort.sendSeq_carries _ now c _ ?_⟩
        · show p.evOut.length + p.respOut.length + r.length + 1 = p.waiting
          simp only [LinkPort.waiting, hstr, List.length_cons]; omega
        · unfold LinkPort.Carries at hc ⊢
          rw [hstr, List.mem_cons] at hc
          obtain (hc | hc | hc) | hc := hc
          · exact .inl (.inl (.inl hc))
          · exact .inr hc
          · exact .inl (.inl (.inr hc))
          · exact .inl (.inr hc)
      | nil =>
        exact absurd (by simp [LinkPort.waiting, hev, hresp, hstr]) hsome

/-- All that waits leaves while the replay buffer has room for it. -/
theorem LinkPort.pumpAll_sends {α : Type} (now : Nat) : ∀ (l : List α) (p : LinkPort), p.waiting = l.length → p.replay.length + l.length ≤ 48 →
    (l.foldl (fun p _ => p.pumpOne now) p).waiting = 0 ∧ (l.foldl (fun p _ => p.pumpOne now) p).rawNext = p.rawNext ∧
      ∀ c, p.Carries c → (l.foldl (fun p _ => p.pumpOne now) p).Carries c
  | [], p, hw, _ => ⟨hw, rfl, fun _ hc => hc⟩
  | x :: t, p, hw, hroom => by
    rw [List.length_cons] at hw hroom
    obtain ⟨hwait, hlen, hraw, hcarry⟩ := p.pumpOne_sends now (by omega) (by omega)
    obtain ⟨h1, h2, h3⟩ := LinkPort.pumpAll_sends now t (p.pumpOne now) (by omega) (by omega)
    exact ⟨h1, h2.trans hraw, fun c hc => h3 c (hcarry c hc)⟩

theorem LinkPort.pump_sends (p : LinkPort) (now : Nat) (hroom : p.replay.length + p.waiting ≤ 48) :
    (p.pump now).strOut = [] ∧ (p.pump now).rawNext = p.rawNext ∧
      ∀ c, p.Carries c → ∃ e ∈ (p.pump now).replay, e.2.typ = c.typ ∧ e.2.sub = c.sub ∧ e.2.body = c.body := by
  obtain ⟨hwait, hraw, hcarry⟩ := LinkPort.pumpAll_sends now (List.range p.waiting) p (List.length_range).symm (by rwa [List.length_range])
  have hpump : p.pump now = let q := (List.range p.waiting).foldl (fun p _ => p.pumpOne now) p
    if q.nakDue || q.ackDue || q.credRet != 0 then q.sendUnseq { typ := 0, sub := 0, len := 32, body := 0 } else q := rfl
  generalize (List.range p.waiting).foldl (fun p _ => p.pumpOne now) p = q at hwait hraw hcarry hpump
  have hstr : q.strOut = [] := List.length_eq_zero_iff.1 (by unfold LinkPort.waiting at hwait; omega)
  have hresp : q.respOut = [] := List.length_eq_zero_iff.1 (by unfold LinkPort.waiting at hwait; omega)
  have hleft (c : TxCell) (hc : p.Carries c) : ∃ e ∈ q.replay, e.2.typ = c.typ ∧ e.2.sub = c.sub ∧ e.2.body = c.body :=
    (hcarry c hc).resolve_left (by rw [hresp, hstr]; exact not_or.2 ⟨List.not_mem_nil, List.not_mem_nil⟩)
  rw [hpump]
  dsimp only
  split
  · exact ⟨hstr, hraw, hleft⟩
  · exact ⟨hstr, hraw, hleft⟩

/-! ### Replays (R399) -/

theorem LinkPort.emitAll (l : List (Nat × TxCell)) (p : LinkPort) :
    (l.foldl (fun q e => q.emit e.1 e.2) p).sent.length = p.sent.length + l.length ∧
      (l.foldl (fun q e => q.emit e.1 e.2) p).rounds = p.rounds ∧ (l.foldl (fun q e => q.emit e.1 e.2) p).replay = p.replay := by
  induction l generalizing p with
  | nil => exact ⟨rfl, rfl, rfl⟩
  | cons e t ih =>
    obtain ⟨hsent, hrounds, hreplay⟩ := ih (p.emit e.1 e.2)
    refine ⟨?_, hrounds, hreplay⟩
    rw [List.foldl_cons, hsent, LinkPort.emit_sent, List.length_append, List.length_cons, List.length_nil, List.length_cons]
    omega

/-- The port after a replay. -/
def LinkPort.replayed (p : LinkPort) (now : Nat) : LinkPort :=
  { p.replay.foldl (fun q e => q.emit e.1 e.2) p with
    rounds := p.rounds + 1, replay := p.replay.map fun e => (e.1, { e.2 with at_ := now }) }

/-- A link's state after a replay, before its rounds are looked at. -/
def State.replaySent (s : State) (l : Fin 4) : State :=
  ((s.raise (Ev.LINK_L_FLAGS_REPLAY l)).inc32 (Reg.LINK_L_REPLAYCNT l)).portM l fun p => p.replayed s.now

theorem State.linkReplay_eq (s : State) (l : Fin 4) (h : (s.port l).replay ≠ []) :
    s.linkReplay l = if 8 ≤ (s.port l).rounds + 1 then (s.replaySent l).linkDown l else s.replaySent l := by
  have hnow : ((s.raise (Ev.LINK_L_FLAGS_REPLAY l)).inc32 (Reg.LINK_L_REPLAYCNT l)).now = s.now := by rw [State.inc32_now, State.raise_now]
  have hport : ((s.replaySent l).port l).rounds = (s.port l).rounds + 1 := by
    rw [State.replaySent, State.portM_port, State.port_of_link (State.inc32_link ..), State.raise_port]
    rfl
  rw [← hport]
  unfold State.linkReplay
  rw [if_neg (by rw [List.isEmpty_iff]; exact h)]
  dsimp only
  rw [hnow]
  rfl

theorem State.replaySent_port (s : State) (l : Fin 4) : (s.replaySent l).port l = (s.port l).replayed s.now := by
  rw [State.replaySent, State.portM_port, State.port_of_link (State.inc32_link ..), State.raise_port]

theorem State.replaySent_linkState (s : State) (l : Fin 4) : (s.replaySent l).linkState l = s.linkState l := by
  rw [State.replaySent, State.linkState_of_regs (State.portM_regs ..), State.linkState, State.get_inc32_other _ _ _ (by decide +revert),
    State.get_raise_other _ _ _ (show 5 < 32 by decide) (.inl (by decide +revert)) (by decide +revert)]
  rfl

theorem State.replaySent_flag (s : State) (l : Fin 4) : (s.replaySent l).flag (Ev.LINK_L_FLAGS_REPLAY l) = true := by
  rw [State.replaySent, State.flag_of_regs (State.portM_regs ..), State.flag, State.on, State.get_inc32_other _ _ _ (by decide +revert)]
  exact s.flag_raise (Ev.LINK_L_FLAGS_REPLAY l) (by decide +revert) (show 5 < 32 by decide)

theorem State.replaySent_count (s : State) (l : Fin 4) : (s.replaySent l).rd (Reg.LINK_L_REPLAYCNT l) = s.rd (Reg.LINK_L_REPLAYCNT l) + 1 := by
  rw [State.replaySent, State.portM_rd, State.rd_inc32_same, State.rd_raise_other _ _ _ (by decide +revert) (by decide +revert)]

theorem State.replaySent_mem (s : State) (l : Fin 4) : (s.replaySent l).mem = s.mem := by
  rw [State.replaySent, State.portM_mem, State.inc32_mem, State.raise_mem]

theorem State.replaySent_now (s : State) (l : Fin 4) : (s.replaySent l).now = s.now := by
  rw [State.replaySent, State.portM_now, State.inc32_now, State.raise_now]

theorem LinkPort.replayed_fields (p : LinkPort) (now : Nat) : (p.replayed now).rounds = p.rounds + 1 ∧
    (p.replayed now).sent.length = p.sent.length + p.replay.length ∧ (p.replayed now).replay.map (·.1) = p.replay.map (·.1) := by
  refine ⟨rfl, (LinkPort.emitAll p.replay p).1, ?_⟩
  show (p.replay.map fun e => (e.1, { e.2 with at_ := now })).map (·.1) = _
  rw [List.map_map]
  rfl

/-- The state in which a replay that is due begins. -/
def State.replayDue (s : State) (l : Fin 4) : State :=
  (s.reachNow ((s.port l).oldest + cellSlots400 (s.get (Fd.LINK_L_CTRL_RATE l)))).linkFresh l

theorem State.replayTimeout_eq (s : State) (l : Fin 4) (hup : s.linkState l = 2) (h : (s.port l).replay ≠ []) :
    s.replayTimeout l = (s.replayDue l).linkReplay l := by
  refine if_pos ⟨?_, ?_⟩
  · unfold State.linkCells
    rw [hup]; rfl
  · rw [Bool.not_eq_true', List.isEmpty_eq_false_iff]
    exact h

theorem State.replayDue_port (s : State) (l : Fin 4) : (s.replayDue l).port l = { s.port l with sent := [], line := ⟨[], []⟩ } := by
  rw [State.replayDue, State.linkFresh, State.portM_port, State.reachNow_port]

theorem State.replayDue_linkState (s : State) (l : Fin 4) : (s.replayDue l).linkState l = s.linkState l := by
  rw [State.replayDue, State.linkFresh_linkState, State.linkState, State.reachNow_field]
  rfl

theorem State.replayTimeout_replays (l : Fin 4) (s : State) (hup : s.linkState l = 2) (hsome : (s.port l).replay ≠ [])
    (hrounds : (s.port l).rounds < 7) :
    (s.replayTimeout l).flag (Ev.LINK_L_FLAGS_REPLAY l) = true ∧
      (s.replayTimeout l).rd (Reg.LINK_L_REPLAYCNT l) = s.rd (Reg.LINK_L_REPLAYCNT l) + 1 ∧
      ((s.replayTimeout l).port l).rounds = (s.port l).rounds + 1 ∧
      ((s.replayTimeout l).port l).sent.length = (s.port l).replay.length ∧
      ((s.replayTimeout l).port l).replay.map (·.1) = (s.port l).replay.map (·.1) ∧ (s.replayTimeout l).linkState l = 2 ∧
      (s.port l).oldest + cellSlots400 (s.get (Fd.LINK_L_CTRL_RATE l)) ≤ (s.replayTimeout l).now := by
  have hport := s.replayDue_port l
  have hrd : (s.replayDue l).rd (Reg.LINK_L_REPLAYCNT l) = s.rd (Reg.LINK_L_REPLAYCNT l) := s.advance_rd _ _
  have hnow : (s.port l).oldest + cellSlots400 (s.get (Fd.LINK_L_CTRL_RATE l)) ≤ (s.replayDue l).now := s.le_reachNow_now _
  have hst := (s.replayDue_linkState l).trans hup
  rw [s.replayTimeout_eq l hup hsome]
  generalize s.replayDue l = u at hport hrd hnow hst ⊢
  obtain ⟨h1, h2, h3⟩ := (u.port l).replayed_fields u.now
  rw [u.linkReplay_eq l (by rw [hport]; exact hsome), if_neg (by rw [hport]; show ¬ 8 ≤ (s.port l).rounds + 1; omega)]
  rw [State.replaySent_port, h1, h2, h3, State.replaySent_count, State.replaySent_linkState, State.replaySent_now, hport, hrd]
  exact ⟨u.replaySent_flag l, rfl, rfl, Nat.zero_add _, rfl, hst, hnow⟩

theorem State.replayTimeout_down (l : Fin 4) (s : State) (hup : s.linkState l = 2) (hsome : (s.port l).replay ≠ [])
    (hrounds : (s.port l).rounds = 7) :
    (s.replayTimeout l).linkState l = 0 ∧ (s.replayTimeout l).flag (Ev.LINK_L_FLAGS_DOWN l) = true ∧
      ((s.replayTimeout l).port l).replay = [] := by
  have hport := s.replayDue_port l
  have hst := ((s.replayDue l).replaySent_linkState l).trans ((s.replayDue_linkState l).trans hup)
  rw [s.replayTimeout_eq l hup hsome, (s.replayDue l).linkReplay_eq l (by rw [hport]; exact hsome),
    if_pos (by rw [hport]; show 8 ≤ (s.port l).rounds + 1; omega)]
  exact ⟨State.linkDown_linkState _ l, State.linkDown_flag _ l hst, State.linkDown_replay _ l (by rw [hst]; decide)⟩

end Sys2Proof.Machine

/-! SUPPORT. O50, the third part: remote accesses, the exchange, raw stream cells and the test pattern; and the obligation. -/
namespace Sys2Proof.Machine

set_option Elab.async false

/-! ### A remote access leaves (R401) -/

theorem State.linkFresh_port (s : State) (l : Fin 4) : (s.linkFresh l).port l = { s.port l with sent := [], line := ⟨[], []⟩ } := s.portM_port l _

theorem State.linkFresh_regs (s : State) (l : Fin 4) : (s.linkFresh l).regs = s.regs := rfl

theorem State.linkPump_of_up (s : State) (l : Fin 4) (hup : s.linkState l = 2) (hloop : (s.port l).loop ≠ 3) :
    s.linkPump l = (s.portM l fun p => p.pump s.now).linkShow l := by
  refine if_pos ⟨?_, hloop⟩
  unfold State.linkCells
  rw [hup]; rfl

theorem State.linkShow_sameRegistersBut (s : State) (l : Fin 4) : SameRegistersBut [Reg.LINK_L_STATUS l] s (s.linkShow l) :=
  s.put_sameRegistersBut (Fd.LINK_L_STATUS_RPLFILL l) _

/-- RPLFILL stands beside what else LINKl_STATUS shows. -/
theorem State.linkShow_get (s : State) (l : Fin 4) (f : Fld) (h : f.addr ≠ Reg.LINK_L_STATUS l ∨ f.lo + f.w ≤ 24) :
    (s.linkShow l).get f = s.get f :=
  s.get_put_apart _ _ _ (show 24 + 6 ≤ 32 by decide) (h.imp_right .inl)

theorem LinkPort.freeTag_zero (p : LinkPort) (h : ∀ x ∈ p.ops, x.data = none → ∀ n : Fin 64, x.stage ≠ .sent n) : p.freeTag = some 0 := by
  have hfree : (!p.ops.any fun o => o.stage == .sent 0 && o.data.isNone) = true := by
    rw [Bool.not_eq_true', List.any_eq_false]
    intro x hx hb
    obtain ⟨hstage, hdata⟩ := Bool.and_eq_true_iff.1 hb
    exact h x hx (Option.isNone_iff_eq_none.1 hdata) 0 (eq_of_beq hstage)
  unfold LinkPort.freeTag
  rw [List.range_succ_eq_map]
  exact List.find?_cons_of_pos hfree

/-- The link in which the oldest access of the queue looks for its cell. -/
def State.sendReady (s : State) (l : Fin 4) : State := (s.linkFresh l).linkPump l

theorem State.sendReady_port (s : State) (l : Fin 4) (hup : s.linkState l = 2) (hloop : (s.port l).loop ≠ 3) (hev : (s.port l).evOut = [])
    (hresp : (s.port l).respOut = []) (hstr : (s.port l).strOut = []) :
    ((s.sendReady l).port l).ops = (s.port l).ops ∧ ((s.sendReady l).port l).replay = (s.port l).replay ∧
      ((s.sendReady l).port l).seq = (s.port l).seq ∧ ((s.sendReady l).port l).loop = (s.port l).loop := by
  have hfresh := s.linkFresh_port l
  rw [State.sendReady, (s.linkFresh l).linkPump_of_up l hup (by rw [hfresh]; exact hloop), State.linkShow, State.put_port, State.portM_port, hfresh]
  exact LinkPort.pump_of_empty _ _ hev hresp hstr

theorem State.sendReady_regs (s : State) (l : Fin 4) (hup : s.linkState l = 2) (hloop : (s.port l).loop ≠ 3) :
    SameRegistersBut [Reg.LINK_L_STATUS l] s (s.sendReady l) ∧ (s.sendReady l).linkState l = 2 ∧
      (s.sendReady l).get (Fd.LINK_L_STATUS_CRED l) = s.get (Fd.LINK_L_STATUS_CRED l) ∧ (s.sendReady l).mem = s.mem := by
  rw [State.sendReady, (s.linkFresh l).linkPump_of_up l hup (by rw [s.linkFresh_port l]; exact hloop)]
  refine ⟨(SameRegistersBut.of_regs ((State.portM_regs ..).trans (s.linkFresh_regs l))).trans (State.linkShow_sameRegistersBut _ l), ?_, ?_, rfl⟩
  · exact (State.linkShow_get _ l _ (.inr (show 0 + 2 ≤ 24 by decide))).trans hup
  · exact State.linkShow_get _ l _ (.inr (show 16 + 5 ≤ 24 by decide))

/-- The state after a request has left in a cell. -/
def State.requestSent (s : State) (l : Fin 4) (o : RemoteOp) : State :=
  ((s.portM l fun p => ({ p with ops := replaceOp o { o with stage := .sent 0 } p.ops }).sendSeq s.now (reqCell o 0)).put
    (Fd.LINK_L_STATUS_CRED l) (s.get (Fd.LINK_L_STATUS_CRED l) - 1)).linkShow l

theorem State.requestSent_port (s : State) (l : Fin 4) (o : RemoteOp) : (s.requestSent l o).port l =
    ({ s.port l with ops := replaceOp o { o with stage := .sent 0 } (s.port l).ops }).sendSeq s.now (reqCell o 0) := by
  rw [State.requestSent, State.linkShow, State.put_port, State.put_port, State.portM_port]

theorem State.requestSent_cred (s : State) (l : Fin 4) (o : RemoteOp) :
    (s.requestSent l o).get (Fd.LINK_L_STATUS_CRED l) = s.get (Fd.LINK_L_STATUS_CRED l) - 1 := by
  have hlt : s.get (Fd.LINK_L_STATUS_CRED l) < 2 ^ 5 := Nat.mod_lt _ (Nat.two_pow_pos 5)
  rw [State.requestSent, State.linkShow_get _ _ _ (.inr (show 16 + 5 ≤ 24 by decide)), State.get_put_within _ _ _ (show 16 + 5 ≤ 32 by decide)]
  exact Nat.mod_eq_of_lt (Nat.lt_of_le_of_lt (Nat.sub_le _ _) hlt)

theorem State.requestSent_sameRegistersBut (s : State) (l : Fin 4) (o : RemoteOp) :
    SameRegistersBut [Reg.LINK_L_STATUS l] s (s.requestSent l o) :=
  (SameRegistersBut.trans (SameRegistersBut.of_regs (State.portM_regs ..)) (State.put_sameRegistersBut _ (Fd.LINK_L_STATUS_CRED l) _)).trans
    (State.linkShow_sameRegistersBut _ l)

theorem State.remoteSend_sends (l : Fin 4) (o : RemoteOp) (r : List RemoteOp) (s : State) (hup : s.linkState l = 2)
    (hloop : (s.port l).loop ≠ 3) (hcred : 0 < s.get (Fd.LINK_L_STATUS_CRED l)) (hops : (s.port l).ops = o :: r) (hstall : s.stalledOps = 0)
    (ho : o.stage = .queued) (hev : (s.port l).evOut = []) (hresp : (s.port l).respOut = []) (hstr : (s.port l).strOut = [])
    (hroom : (s.port l).replay.length < 48) (htags : ∀ x ∈ r, x.data = none → ∀ n : Fin 64, x.stage ≠ .sent n) :
    (s.remoteSend l).get (Fd.LINK_L_STATUS_CRED l) = s.get (Fd.LINK_L_STATUS_CRED l) - 1 ∧
      ((s.remoteSend l).port l).ops = { o with stage := .sent 0 } :: r ∧
      ((s.remoteSend l).port l).replay.length = (s.port l).replay.length + 1 ∧
      ((s.remoteSend l).port l).seq = ((s.port l).seq + 1) % 256 ∧
      SameRegistersBut [Reg.LINK_L_STATUS l] s (s.remoteSend l) ∧ (s.remoteSend l).mem = s.mem := by
  obtain ⟨hpops, hpreplay, hpseq, hploop⟩ := s.sendReady_port l hup hloop hev hresp hstr
  obtain ⟨hregs, hst, hpcred, hmem⟩ := s.sendReady_regs l hup hloop
  have hfind : ((s.sendReady l).port l).ops.find? (fun o => o.stage == .queued) = some o := by
    rw [hpops, hops]
    exact List.find?_cons_of_pos (beq_iff_eq.2 ho)
  have htag : ((s.sendReady l).port l).freeTag = some 0 := by
    refine LinkPort.freeTag_zero _ fun x hx hd n => ?_
    rw [hpops, hops] at hx
    rcases List.mem_cons.1 hx with rfl | hx
    · rw [ho]; exact RemoteStage.noConfusion
    · exact htags x hx hd n
  have hsend : s.remoteSend l = (s.sendReady l).requestSent l o := by
    unfold State.remoteSend
    rw [hstall, show s.remoteGrant 0 = s from rfl, show (s.linkFresh l).linkPump l = s.sendReady l from rfl]
    dsimp only
    rw [hfind, htag]
    exact if_pos ⟨hst, by rw [hploop]; exact hloop, by rw [hpcred]; exact hcred, by rw [hpreplay]; exact hroom⟩
  have hreplace : replaceOp o { o with stage := .sent 0 } (o :: r) = { o with stage := .sent 0 } :: r := if_pos rfl
  rw [hsend, State.requestSent_cred, State.requestSent_port, LinkPort.sendSeq_length, hpcred]
  refine ⟨rfl, ?_, ?_, ?_, hregs.trans (State.requestSent_sameRegistersBut _ l o), hmem⟩
  · show replaceOp o { o with stage := .sent 0 } ((s.sendReady l).port l).ops = _
    rw [hpops, hops, hreplace]
  · rw [hpreplay]
  · show (((s.sendReady l).port l).seq + 1) % 256 = _
    rw [hpseq]

/-! ### The exchange starts (R405) -/

theorem State.stamp16_congr {s t : State} (h : t.tbl = s.tbl) : t.stamp16 = s.stamp16 := by unfold State.stamp16; rw [h]

theorem State.launchTaken_port (s : State) (t : Nat) (x : Launch) (l : Fin 4) : (s.launchTaken t x).port l = s.port l := s.reachNow_port _ l

theorem State.exchangeStart_starts (l : Fin 4) (x : Launch) (s : State) (hx : s.launchOf (96 + l.val) = some x)
    (hruns : s.launchRuns (96 + l.val) = true) (hlow : s.upstream l = false) (hup : s.linkState l = 2) :
    ((s.exchangeStart l).port l).upper = some (s.exchangeStart l).stamp16 ∧ ((s.exchangeStart l).port l).sent.length = 1 ∧
      (s.exchangeStart l).launchOf (96 + l.val) = (s.tbl.inflight.erase x).find? (fun y => y.target == 96 + l.val) ∧
      ((s.port l).upper.isSome = true → (s.exchangeStart l).flag (Ev.LINK_L_FLAGS_XLOST l) = true) ∧
      x.matched + s.launchDelay (96 + l.val) ≤ (s.exchangeStart l).now := by
  obtain ⟨u, hu⟩ : ∃ u, u = s.launchTaken (96 + l.val) x := ⟨_, rfl⟩
  have hulow : u.upstream l = false := by
    rw [← hlow, hu]
    unfold State.upstream State.follower
    rw [State.launchTaken_get, State.launchTaken_get]
  have huup : u.linkState l = 2 := by rw [hu, State.linkState, State.launchTaken_get]; exact hup
  have huport : u.port l = s.port l := by rw [hu, State.launchTaken_port]
  have huof := s.launchTaken_launchOf (96 + l.val) x
  have hunow : x.matched + s.launchDelay (96 + l.val) ≤ u.now := by rw [hu]; exact s.le_reachNow_now _
  obtain ⟨v, hv⟩ : ∃ v, v = u.raiseIf (s.port l).upper.isSome (Ev.LINK_L_FLAGS_XLOST l) := ⟨_, rfl⟩
  have hvtbl : v.tbl = u.tbl := by rw [hv, State.raiseIf_tbl]
  have hvnow : v.now = u.now := by rw [hv, State.raiseIf_now]
  have hvflag : (s.port l).upper.isSome = true → v.flag (Ev.LINK_L_FLAGS_XLOST l) = true := by
    intro h
    rw [hv, h]
    exact u.flag_raise (Ev.LINK_L_FLAGS_XLOST l) ((show ∀ l : Fin 4, (Ev.LINK_L_FLAGS_XLOST l).cnt ≠ (Ev.LINK_L_FLAGS_XLOST l).addr by decide) l)
      (show 9 < 32 by decide)
  have heq : s.exchangeStart l = (v.linkFresh l).portM l fun p =>
      ({ p with upper := some v.stamp16 }).sendUnseq { typ := 7, sub := 0, len := 32, body := 0 } := by
    rw [State.exchangeStart, s.takeLaunch_of_inflight _ x _ hx hruns, ← hu]
    rw [if_neg (by rw [hulow, huup]; decide), hv, huport]
  have hstamp : (s.exchangeStart l).stamp16 = v.stamp16 := by rw [heq]; rfl
  rw [hstamp, heq, State.portM_port, State.linkFresh_port]
  refine ⟨rfl, rfl, ?_, hvflag, ?_⟩
  · show v.launchOf (96 + l.val) = _
    rw [← huof, ← hu, State.launchOf, State.launchOf, hvtbl]
  · show _ ≤ v.now
    rw [hvnow]
    exact hunow

/-! ### A raw stream cell (R408) -/

theorem State.reachNow_received (s : State) (t n : Nat) (x : List MdatPeriod) : (s.reachNow t).received n x = s.received n x := by
  unfold State.received
  dsimp only
  rw [State.reachNow_field, State.reachNow_field, State.reachNow_field, State.reachNow_on]

theorem State.reachNow_mclkT (s : State) (t g : Nat) : (s.reachNow t).mclkT g = s.mclkT g := by
  rw [State.mclkT, State.mclkT, State.reachNow_field]

/-- The number that eight bits spell, the first the least. -/
def octet (b : Fin 8 → Bool) : Nat :=
  (b 0).toNat + (b 1).toNat * 2 + (b 2).toNat * 4 + (b 3).toNat * 8 + (b 4).toNat * 16 + (b 5).toNat * 32 + (b 6).toNat * 64 + (b 7).toNat * 128

theorem octet_lt (b : Fin 8 → Bool) : octet b < 256 := by
  have h (i : Fin 8) := (b i).toNat_lt
  have h0 := h 0; have h1 := h 1; have h2 := h 2; have h3 := h 3
  have h4 := h 4; have h5 := h 5; have h6 := h 6; have h7 := h 7
  unfold octet
  omega

theorem octet_testBit (b : Fin 8 → Bool) (j : Fin 8) : (octet b).testBit j.val = b j := by
  have hbits : ∀ b0 b1 b2 b3 b4 b5 b6 b7 : Bool, ∀ j : Fin 8,
      (b0.toNat + b1.toNat * 2 + b2.toNat * 4 + b3.toNat * 8 + b4.toNat * 16 + b5.toNat * 32 + b6.toNat * 64 + b7.toNat * 128).testBit j.val =
        #v[b0, b1, b2, b3, b4, b5, b6, b7][j] := by decide
  rw [octet, hbits]
  revert j
  simp [Fin.forall_fin_succ]

theorem rawByte_eq (bits : Vector (List Bool) 8) (i : Nat) : rawByte bits i = octet fun j => bits[j].getD i false := by
  simp [rawByte, octet, List.finRange_succ]

/-- The bytes of a raw cell stand one above the other. -/
theorem bytes_testBit (f : Nat → Nat) (hf : ∀ i, f i < 256) (n : Nat) :
    ((List.range n).map fun i => f i * 2 ^ (8 * i)).sum < 2 ^ (8 * n) ∧ ∀ i < n, ∀ j < 8,
      ((List.range n).map fun i => f i * 2 ^ (8 * i)).sum.testBit (8 * i + j) = (f i).testBit j := by
  induction n with
  | zero => exact ⟨Nat.one_pos, fun i hi => absurd hi (Nat.not_lt_zero i)⟩
  | succ n ih =>
    obtain ⟨hlt, hbits⟩ := ih
    have hsum : ((List.range (n + 1)).map fun i => f i * 2 ^ (8 * i)).sum =
        2 ^ (8 * n) * f n + ((List.range n).map fun i => f i * 2 ^ (8 * i)).sum := by
      rw [List.range_succ, List.map_append, List.sum_append, List.map_singleton, List.sum_singleton, Nat.mul_comm, Nat.add_comm]
    rw [hsum]
    generalize ((List.range n).map fun i => f i * 2 ^ (8 * i)).sum = x at hlt hbits
    constructor
    · have hpow : 2 ^ (8 * (n + 1)) = 2 ^ (8 * n) * 256 := by rw [Nat.mul_add, Nat.pow_add]
      calc 2 ^ (8 * n) * f n + x < 2 ^ (8 * n) * f n + 2 ^ (8 * n) := Nat.add_lt_add_left hlt _
        _ = 2 ^ (8 * n) * (f n + 1) := (Nat.mul_succ _ _).symm
        _ ≤ 2 ^ (8 * n) * 256 := Nat.mul_le_mul_left _ (hf n)
        _ = 2 ^ (8 * (n + 1)) := hpow.symm
    · intro i hi j hj
      rw [Nat.testBit_two_pow_mul_add _ hlt]
      by_cases hin : i = n
      · rw [hin, if_neg (by omega), Nat.add_sub_cancel_left]
      · rw [if_pos (by omega)]
        exact hbits i (by omega) j hj

/-- R408: the raw cell of twenty periods from the edge `e` on. -/
def State.rawCell (s : State) (c : Fin 8) (g : Fin 7) (lines : Vector (List MdatPeriod) 8) (e : Nat) : TxCell :=
  { typ := 6, sub := c.val + 8 + 16 * g.val, len := 224
    body := enc 32 (s.countAt2 (2 * (e : Int))) * 2 ^ 160 +
      ((List.range 20).map fun i => rawByte (lines.map fun x => s.received (8 * g) x) i * 2 ^ (8 * i)).sum }

theorem State.rawCell_testBit (s : State) (c : Fin 8) (g : Fin 7) (lines : Vector (List MdatPeriod) 8) (e : Nat) (i : Fin 20) (j : Fin 8) :
    (s.rawCell c g lines e).body.testBit (8 * i.val + j.val) = (s.received (8 * g) lines[j]).getD i.val false := by
  obtain ⟨hlt, hbits⟩ := bytes_testBit (rawByte (lines.map fun x => s.received (8 * g) x)) (fun i => by rw [rawByte_eq]; exact octet_lt _) 20
  show (enc 32 (s.countAt2 (2 * (e : Int))) * 2 ^ 160 +
    ((List.range 20).map fun i => rawByte (lines.map fun x => s.received (8 * g) x) i * 2 ^ (8 * i)).sum).testBit _ = _
  rw [Nat.mul_comm (enc 32 _), Nat.testBit_two_pow_mul_add _ hlt, if_pos (by omega), hbits i.val i.isLt j.val j.isLt, rawByte_eq, octet_testBit]
  rw [Fin.getElem_fin, Fin.getElem_fin, Vector.getElem_map]

/-- The state that a raw channel's twenty periods leave before the cell is sent. -/
def State.rawQueued (s : State) (l : Fin 4) (c : Fin 8) (g : Fin 7) (lines : Vector (List MdatPeriod) 8) (e : Nat) : State :=
  (s.linkFresh l).portM l fun p => { p with strOut := p.strOut ++ [s.rawCell c g lines e], rawNext := p.rawNext.set c (e + 20 * s.mclkT g) }

theorem State.rawSend_sends (l : Fin 4) (c : Fin 8) (g : Fin 7) (x : Vector (List MdatPeriod) 8) (s : State)
    (hen : s.on (Fd.LINK_STX_CFG_EN l c) = true) (hkind : s.on (Fd.LINK_STX_CFG_KIND l c) = true) (hsrc : s.get (Fd.LINK_STX_CFG_SRC l c) = g.val)
    (hclk : s.mclkOn g = true) (hup : s.linkState l = 2) (hloop : (s.port l).loop ≠ 3)
    (hroom : (s.port l).evOut.length + (s.port l).respOut.length + (s.port l).strOut.length + (s.port l).replay.length < 48) :
    ((s.rawSend l c g x).port l).strOut = [] ∧ ((s.rawSend l c g x).port l).rawNext[c] ≤ (s.rawSend l c g x).now ∧
      (((s.rawSend l c g x).port l).replay.any fun e => decide (e.2.typ = 6 ∧ e.2.sub = c.val + 8 + 16 * g.val ∧
        (List.finRange 20).all fun i => (List.finRange 8).all fun j =>
          e.2.body.testBit (8 * i.val + j.val) == (s.received (8 * g) x[j]).getD i.val false)) = true := by
  obtain ⟨e, he⟩ : ∃ e, e = s.rawEdge g (s.port l).rawNext[c] := ⟨_, rfl⟩
  obtain ⟨u, hu⟩ : ∃ u, u = s.reachNow (e + (20 + s.bitDelay g) * s.mclkT g) := ⟨_, rfl⟩
  have hsend : s.rawSend l c g x = (u.rawQueued l c g x e).linkPump l := by
    unfold State.rawSend
    rw [if_pos (by rw [hen, hkind, hsrc, hclk, hup]; simp), ← he]
    dsimp only
    rw [← hu]
    rfl
  have hunow : e + 20 * s.mclkT g ≤ u.now := by
    have hreach := s.le_reachNow_now (e + (20 + s.bitDelay g) * s.mclkT g)
    rw [← hu, Nat.add_mul] at hreach
    omega
  have huport : u.port l = s.port l := by rw [hu, State.reachNow_port]
  have huT : u.mclkT g = s.mclkT g := by rw [hu, State.reachNow_mclkT]
  have hureceived (n : Nat) (y : List MdatPeriod) : u.received n y = s.received n y := by rw [hu, State.reachNow_received]
  have huup : u.linkState l = 2 := by rw [hu, State.linkState, State.reachNow_field]; exact hup
  have hport : (u.rawQueued l c g x e).port l = { s.port l with
      sent := [], line := ⟨[], []⟩, strOut := (s.port l).strOut ++ [u.rawCell c g x e]
      rawNext := (s.port l).rawNext.set c (e + 20 * s.mclkT g) } := by
    rw [State.rawQueued, State.portM_port, State.linkFresh_port, huport, huT]
  have hwaits : ((u.rawQueued l c g x e).port l).Carries (u.rawCell c g x e) := by
    rw [hport]
    exact .inl (.inr (List.mem_append_right _ (.head _)))
  obtain ⟨hstr, hraw, hcarry⟩ := ((u.rawQueued l c g x e).port l).pump_sends (u.rawQueued l c g x e).now (by
    rw [hport, LinkPort.waiting]
    simp only [List.length_append, List.length_singleton]
    omega)
  obtain ⟨y, hy, htyp, hsub, hbody⟩ := hcarry _ hwaits
  have hqup : (u.rawQueued l c g x e).linkState l = 2 := huup
  rw [hsend, State.linkPump_of_up _ l hqup (by rw [hport]; exact hloop), State.linkShow, State.put_port, State.portM_port]
  refine ⟨hstr, ?_, ?_⟩
  · rw [hraw, hport]
    show ((s.port l).rawNext.set c (e + 20 * s.mclkT g))[c] ≤ u.now
    rw [Fin.getElem_fin, Vector.getElem_set_self]
    exact hunow
  · refine List.any_eq_true.2 ⟨y, hy, decide_eq_true ⟨htyp, hsub, ?_⟩⟩
    refine List.all_eq_true.2 fun i _ => List.all_eq_true.2 fun j _ => beq_iff_eq.2 ?_
    rw [hbody, State.rawCell_testBit, hureceived]

end Sys2Proof.Machine

/-! SUPPORT. O50, the last part: the test pattern (R412, R413), and the obligation. -/
namespace Sys2Proof.Machine

set_option Elab.async false

/-- The port after one inverted bit on a lane. -/
def LinkPort.inverted (p : LinkPort) (pat : Nat) (i : Fin 2) : LinkPort :=
  { p with
    injected := p.injected.upd i (· + 1), prbs := p.prbs.upd i (prbsStep pat)
    line := if i = 0 then { p.line with lane0 := p.line.lane0 ++ [!prbsBit pat p.prbs[i]] }
      else { p.line with lane1 := p.line.lane1 ++ [!prbsBit pat p.prbs[i]] } }

/-- A lane's checker counts an error and sets its flag. -/
def State.checkerCounts (s : State) (l : Fin 4) (i : Fin 2) : State := (s.sat32 (Reg.LINK_L_PRBSERR l i)).raise (Ev.LINK_L_FLAGS_PRBSERR l)

/-- R412: one inverted bit of a lane, in a near-end loop counted by this device's own checker. -/
def State.injectLane (s : State) (l : Fin 4) (i : Fin 2) : State :=
  let t := s.portM l fun p => p.inverted (s.get (Fd.LINK_L_PRBS_PAT l)) i
  if ((s.port l).loop == 1 || (s.port l).loop == 2) && s.on (Fd.LINK_L_PRBS_CHK l) then t.checkerCounts l i else t

theorem State.prbsInject_of_gen (s : State) (l : Fin 4) (b : BitVec 2) (h : s.on (Fd.LINK_L_PRBS_GEN l) = true) :
    s.prbsInject l b = (List.finRange 2).foldl (fun s (i : Fin 2) => if b.getLsbD i.val then s.injectLane l i else s) (s.linkFresh l) := by
  unfold State.prbsInject
  dsimp only
  rw [if_neg (by rw [show (s.linkFresh l).on (Fd.LINK_L_PRBS_GEN l) = true from h]; decide)]
  refine congrArg (fun f => List.foldl f (s.linkFresh l) (List.finRange 2)) (funext fun u => funext fun i => ?_)
  split
  · unfold State.injectLane
    rw [State.portM_port]
    rfl
  · rfl

theorem State.prbsInject_of_lanes (s : State) (l : Fin 4) (b : BitVec 2) (h : s.on (Fd.LINK_L_PRBS_GEN l) = true) : s.prbsInject l b =
    if b.getLsbD 1 then (if b.getLsbD 0 then (s.linkFresh l).injectLane l 0 else s.linkFresh l).injectLane l 1
    else if b.getLsbD 0 then (s.linkFresh l).injectLane l 0 else s.linkFresh l := by
  rw [s.prbsInject_of_gen l b h]
  rfl

/-- The registers that inverted bits can change. -/
def injectRegs (l : Fin 4) : List Nat :=
  [Reg.LINK_L_PRBSERR l 0, Reg.LINK_L_PRBSERR l 1, Reg.LINK_L_FLAGS l, (Ev.LINK_L_FLAGS_PRBSERR l).cnt]

theorem State.rd_sat32_other (s : State) (a c : Nat) (h : c ≠ a) : (s.sat32 a).rd c = s.rd c := by
  unfold State.sat32
  split
  · rw [State.wrN, State.rd_wr, if_neg h]
  · rfl

theorem State.rdN_sat32 (s : State) (a : Nat) : (s.sat32 a).rdN a = min (2 ^ 32 - 1) (s.rdN a + 1) := by
  have hlt : s.rdN a < 2 ^ 32 := (s.rd a).isLt
  unfold State.sat32
  split
  · rw [State.rdN, State.wrN, State.rd_wr, if_pos rfl, BitVec.toNat_ofNat, Nat.mod_eq_of_lt (by omega), Nat.min_eq_right (by omega)]
  · rw [Nat.min_eq_left (by omega)]
    omega

theorem State.sat32_link (s : State) (a : Nat) : (s.sat32 a).link = s.link := by unfold State.sat32; split <;> rfl

theorem State.sat32_mem (s : State) (a : Nat) : (s.sat32 a).mem = s.mem := by unfold State.sat32; split <;> rfl

theorem State.checkerCounts_rd (s : State) (l : Fin 4) (i : Fin 2) (a : Nat) (ha : a ≠ Reg.LINK_L_PRBSERR l i) (hf : a ≠ Reg.LINK_L_FLAGS l)
    (hc : a ≠ (Ev.LINK_L_FLAGS_PRBSERR l).cnt) : (s.checkerCounts l i).rd a = s.rd a := by
  rw [State.checkerCounts, State.rd_raise_other _ _ _ hf hc, State.rd_sat32_other _ _ _ ha]

theorem State.injectLane_rd (s : State) (l : Fin 4) (i : Fin 2) (a : Nat) (ha : a ≠ Reg.LINK_L_PRBSERR l i) (hf : a ≠ Reg.LINK_L_FLAGS l)
    (hc : a ≠ (Ev.LINK_L_FLAGS_PRBSERR l).cnt) : (s.injectLane l i).rd a = s.rd a := by
  unfold State.injectLane
  dsimp only
  split
  · exact State.checkerCounts_rd _ l i a ha hf hc
  · rfl

theorem State.injectLane_mem (s : State) (l : Fin 4) (i : Fin 2) : (s.injectLane l i).mem = s.mem := by
  unfold State.injectLane
  dsimp only
  split
  · rw [State.checkerCounts, State.raise_mem, State.sat32_mem]
    rfl
  · rfl

theorem State.injectLane_port (s : State) (l : Fin 4) (i : Fin 2) : (s.injectLane l i).port l = (s.port l).inverted (s.get (Fd.LINK_L_PRBS_PAT l)) i := by
  unfold State.injectLane
  dsimp only
  split
  · rw [State.checkerCounts, State.raise_port, State.port_of_link (State.sat32_link ..), State.portM_port]
  · rw [State.portM_port]

theorem State.injectLane_sameRegistersBut (s : State) (l : Fin 4) (i : Fin 2) : SameRegistersBut (injectRegs l) s (s.injectLane l i) := by
  intro a ha
  simp only [injectRegs, List.mem_cons, List.not_mem_nil, or_false, not_or] at ha
  obtain ⟨h0, h1, hf, hc⟩ := ha
  refine s.injectLane_rd l i a ?_ hf hc
  match i with
  | 0 => exact h0
  | 1 => exact h1

/-- What holds of a near-end loop whose generator and checker run. -/
structure State.NearTest (s : State) (l : Fin 4) : Prop where
  chk : s.on (Fd.LINK_L_PRBS_CHK l) = true
  loop : (s.port l).loop = 1

theorem State.NearTest.injectLane {s : State} {l : Fin 4} (h : s.NearTest l) (i : Fin 2) : (s.injectLane l i).NearTest l where
  chk := by
    have hrd := (s.injectLane_sameRegistersBut l i).get (Fd.LINK_L_PRBS_CHK l)
      ((show ∀ l : Fin 4, Reg.LINK_L_PRBS l ∉ injectRegs l by decide) l)
    unfold State.on
    rw [hrd]
    exact h.chk
  loop := by rw [State.injectLane_port]; exact h.loop

theorem State.NearTest.counts {s : State} {l : Fin 4} (h : s.NearTest l) (i : Fin 2) :
    (s.injectLane l i).rdN (Reg.LINK_L_PRBSERR l i) = min (2 ^ 32 - 1) (s.rdN (Reg.LINK_L_PRBSERR l i) + 1) ∧
      (s.injectLane l i).flag (Ev.LINK_L_FLAGS_PRBSERR l) = true ∧ ((s.injectLane l i).port l).injected[i] = (s.port l).injected[i] + 1 := by
  have hregs := (show ∀ l : Fin 4, ∀ i : Fin 2, Reg.LINK_L_PRBSERR l i ≠ Reg.LINK_L_FLAGS l ∧
    Reg.LINK_L_PRBSERR l i ≠ (Ev.LINK_L_FLAGS_PRBSERR l).cnt ∧ (Ev.LINK_L_FLAGS_PRBSERR l).cnt ≠ (Ev.LINK_L_FLAGS_PRBSERR l).addr by decide) l i
  obtain ⟨hf, hc, hcnt⟩ := hregs
  have heq : s.injectLane l i = (s.portM l fun p => p.inverted (s.get (Fd.LINK_L_PRBS_PAT l)) i).checkerCounts l i :=
    if_pos (by rw [h.loop, h.chk]; rfl)
  refine ⟨?_, ?_, ?_⟩
  · rw [heq, State.checkerCounts, State.rdN, State.rd_raise_other _ _ _ hf hc]
    exact State.rdN_sat32 _ _
  · rw [heq]
    exact State.flag_raise _ (Ev.LINK_L_FLAGS_PRBSERR l) hcnt (show 11 < 32 by decide)
  · rw [State.injectLane_port]
    exact upd_get_self ..

/-- An inverted bit of the other lane leaves what the first lane has counted. -/
theorem State.injectLane_beside (s : State) (l : Fin 4) {i j : Fin 2} (hne : i ≠ j) :
    (s.injectLane l j).rdN (Reg.LINK_L_PRBSERR l i) = s.rdN (Reg.LINK_L_PRBSERR l i) ∧
      ((s.injectLane l j).port l).injected[i] = (s.port l).injected[i] := by
  have hregs := (show ∀ l : Fin 4, ∀ i j : Fin 2, i ≠ j → Reg.LINK_L_PRBSERR l i ≠ Reg.LINK_L_PRBSERR l j ∧ Reg.LINK_L_PRBSERR l i ≠ Reg.LINK_L_FLAGS l ∧
    Reg.LINK_L_PRBSERR l i ≠ (Ev.LINK_L_FLAGS_PRBSERR l).cnt by decide) l i j hne
  obtain ⟨hj, hf, hc⟩ := hregs
  refine ⟨?_, ?_⟩
  · unfold State.rdN
    rw [s.injectLane_rd l j _ hj hf hc]
  · rw [State.injectLane_port]
    exact upd_get_other _ j i _ hne

theorem State.prbsInject_counts (l : Fin 4) (b : BitVec 2) (i : Fin 2) (s : State) (hgen : s.on (Fd.LINK_L_PRBS_GEN l) = true)
    (hchk : s.on (Fd.LINK_L_PRBS_CHK l) = true) (hloop : (s.port l).loop = 1) (hb : b.getLsbD i.val = true) :
    (s.prbsInject l b).rdN (Reg.LINK_L_PRBSERR l i) = min (2 ^ 32 - 1) (s.rdN (Reg.LINK_L_PRBSERR l i) + 1) ∧
      (s.prbsInject l b).flag (Ev.LINK_L_FLAGS_PRBSERR l) = true ∧
      ((s.prbsInject l b).port l).injected[i] = (s.port l).injected[i] + 1 ∧ (s.prbsInject l b).mem = s.mem := by
  have hfresh : (s.linkFresh l).NearTest l := ⟨hchk, by rw [State.linkFresh_port]; exact hloop⟩
  have hinj : ((s.linkFresh l).port l).injected[i] = (s.port l).injected[i] := by rw [State.linkFresh_port]
  have hrd : (s.linkFresh l).rdN (Reg.LINK_L_PRBSERR l i) = s.rdN (Reg.LINK_L_PRBSERR l i) := rfl
  have hmem : (s.linkFresh l).mem = s.mem := rfl
  rw [s.prbsInject_of_lanes l b hgen, ← hinj, ← hrd, ← hmem]
  generalize s.linkFresh l = u at hfresh ⊢
  obtain ⟨hcount, hflag, hbits⟩ := hfresh.counts i
  obtain rfl | rfl := (show ∀ i : Fin 2, i = 0 ∨ i = 1 by decide) i
  · rw [if_pos (show b.getLsbD 0 = true from hb)]
    split
    · obtain ⟨hcount', hbits'⟩ := (u.injectLane l 0).injectLane_beside l (show (0 : Fin 2) ≠ 1 by decide)
      exact ⟨hcount'.trans hcount, ((hfresh.injectLane 0).counts 1).2.1, hbits'.trans hbits,
        (State.injectLane_mem _ l 1).trans (u.injectLane_mem l 0)⟩
    · exact ⟨hcount, hflag, hbits, u.injectLane_mem l 0⟩
  · rw [if_pos (show b.getLsbD 1 = true from hb)]
    split
    · obtain ⟨hcount', hflag', hbits'⟩ := (hfresh.injectLane 0).counts 1
      obtain ⟨hbefore, hbitsBefore⟩ := u.injectLane_beside l (show (1 : Fin 2) ≠ 0 by decide)
      rw [hbefore] at hcount'
      rw [hbitsBefore] at hbits'
      exact ⟨hcount', hflag', hbits', (State.injectLane_mem _ l 1).trans (u.injectLane_mem l 0)⟩
    · exact ⟨hcount, hflag, hbits, u.injectLane_mem l 1⟩

/-! ### LINKl_PRBS (R412, R413) -/

theorem State.prbsInject_sameRegistersBut (s : State) (l : Fin 4) (b : BitVec 2) : SameRegistersBut (injectRegs l) s (s.prbsInject l b) ∧
    (s.prbsInject l b).mem = s.mem := by
  by_cases hgen : s.on (Fd.LINK_L_PRBS_GEN l) = true
  · rw [s.prbsInject_of_gen l b hgen]
    refine foldl_keeps (fun u => SameRegistersBut (injectRegs l) s u ∧ u.mem = s.mem) _ (fun u i hu => ?_) _ _ ⟨SameRegistersBut.of_regs rfl, rfl⟩
    split
    · exact ⟨hu.1.trans (u.injectLane_sameRegistersBut l i), (u.injectLane_mem l i).trans hu.2⟩
    · exact hu
  · have heq : s.prbsInject l b = s.linkFresh l := if_pos (by
      rw [Bool.not_eq_true', ← Bool.not_eq_true]; exact hgen)
    rw [heq]
    exact ⟨SameRegistersBut.of_regs rfl, rfl⟩

/-- LINKl_PRBS after a write that sets GEN. -/
def State.prbsSet (s : State) (l : Fin 4) (v : Word) : State :=
  ((s.put (Fd.LINK_L_PRBS_PAT l) (cut v.toNat 0 2)).putB (Fd.LINK_L_PRBS_GEN l) true).putB (Fd.LINK_L_PRBS_CHK l) (v.getLsbD 3)

/-- The link in test, its generators at their seeds. -/
def State.prbsStart (s : State) (l : Fin 4) (rise : Bool) : State :=
  ((if rise then (s.wrN (Reg.LINK_L_PRBSERR l 0) 0).wrN (Reg.LINK_L_PRBSERR l 1) 0 else s).portM l fun p =>
    { p with prbs := Vector.replicate 2 (BitVec.ofNat 31 (2 ^ 31 - 1)) }).put (Fd.LINK_L_STATUS_STATE l) 3

theorem State.prbsWrite_of_gen (s : State) (l : Fin 4) (v : Word) (hgen : v.getLsbD 2 = true) (hst : s.linkState l = 0 ∨ s.linkState l = 3) :
    ∃ (rise : Bool) (b : BitVec 2), s.prbsWrite l v = ((s.prbsSet l v).prbsStart l rise).prbsInject l b := by
  have hidle : ¬ (v.getLsbD 2 = true ∧ (s.linkState l = 1 ∨ s.linkState l = 2)) := by
    rintro ⟨-, h⟩
    omega
  refine ⟨v.getLsbD 3 && !s.on (Fd.LINK_L_PRBS_CHK l), BitVec.ofNat 2 (cut v.toNat 4 2), ?_⟩
  unfold State.prbsWrite
  dsimp only
  rw [if_neg hidle, hgen, if_pos rfl]
  rfl

theorem State.prbsSet_fields (s : State) (l : Fin 4) (v : Word) : (s.prbsSet l v).get (Fd.LINK_L_PRBS_PAT l) = cut v.toNat 0 2 ∧
    (s.prbsSet l v).get (Fd.LINK_L_PRBS_GEN l) = 1 ∧ (s.prbsSet l v).get (Fd.LINK_L_PRBS_CHK l) = cut v.toNat 3 1 := by
  unfold State.prbsSet State.putB
  refine ⟨?_, ?_, ?_⟩
  · rw [State.get_put_apart _ _ _ _ (show 3 + 1 ≤ 32 by decide) (.inr (.inl (show 0 + 2 ≤ 3 by decide))),
      State.get_put_apart _ _ _ _ (show 2 + 1 ≤ 32 by decide) (.inr (.inl (show 0 + 2 ≤ 2 by decide))),
      State.get_put_within _ _ _ (show 0 + 2 ≤ 32 by decide)]
    exact Nat.mod_eq_of_lt (Nat.mod_lt _ (Nat.two_pow_pos 2))
  · rw [State.get_put_apart _ _ _ _ (show 3 + 1 ≤ 32 by decide) (.inr (.inl (show 2 + 1 ≤ 3 by decide))),
      State.get_put_within _ _ _ (show 2 + 1 ≤ 32 by decide)]
    rfl
  · rw [State.get_put_within _ _ _ (show 3 + 1 ≤ 32 by decide), bit_toNat_eq_cut]
    exact Nat.mod_eq_of_lt (Nat.mod_lt _ (Nat.two_pow_pos 1))

theorem State.prbsStart_sameRegistersBut (s : State) (l : Fin 4) (rise : Bool) :
    SameRegistersBut [Reg.LINK_L_PRBSERR l 0, Reg.LINK_L_PRBSERR l 1, Reg.LINK_L_STATUS l] s (s.prbsStart l rise) := by
  intro a ha
  simp only [List.mem_cons, List.not_mem_nil, or_false, not_or] at ha
  obtain ⟨h0, h1, hs⟩ := ha
  rw [State.prbsStart, State.rd_put_other _ _ _ _ hs, State.portM_rd]
  cases rise
  · rfl
  · rw [if_pos rfl, State.wrN, State.rd_wr, if_neg h1, State.wrN, State.rd_wr, if_neg h0]

theorem State.prbsStart_linkState (s : State) (l : Fin 4) (rise : Bool) : (s.prbsStart l rise).linkState l = 3 :=
  State.get_put_within _ _ _ (show 0 + 2 ≤ 32 by decide)

theorem State.prbsStart_mem (s : State) (l : Fin 4) (rise : Bool) : (s.prbsStart l rise).mem = s.mem := by
  cases rise <;> rfl

theorem State.prbsWrite_starts (l : Fin 4) (v : Word) (s : State) (hgen : v.getLsbD 2 = true) (hst : s.linkState l = 0 ∨ s.linkState l = 3) :
    (s.prbsWrite l v).linkState l = 3 ∧ (s.prbsWrite l v).get (Fd.LINK_L_PRBS_PAT l) = cut v.toNat 0 2 ∧
      (s.prbsWrite l v).get (Fd.LINK_L_PRBS_GEN l) = 1 ∧ (s.prbsWrite l v).get (Fd.LINK_L_PRBS_CHK l) = cut v.toNat 3 1 ∧
      (s.prbsWrite l v).mem = s.mem := by
  obtain ⟨hpat, hgenOn, hchk⟩ := s.prbsSet_fields l v
  have hsmem : (s.prbsSet l v).mem = s.mem := rfl
  obtain ⟨rise, b, heq⟩ := s.prbsWrite_of_gen l v hgen hst
  rw [heq]
  generalize s.prbsSet l v = u at hpat hgenOn hchk hsmem
  obtain ⟨hregs, hmem⟩ := (u.prbsStart l rise).prbsInject_sameRegistersBut l b
  have hstart := u.prbsStart_sameRegistersBut l rise
  have hfield (f : Fld) (hf : f.addr = Reg.LINK_L_PRBS l) : ((u.prbsStart l rise).prbsInject l b).get f = u.get f := by
    rw [hregs.get f (by rw [hf]; exact (show ∀ l : Fin 4, Reg.LINK_L_PRBS l ∉ injectRegs l by decide) l),
      hstart.get f (by rw [hf]; exact (show ∀ l : Fin 4,
        Reg.LINK_L_PRBS l ∉ [Reg.LINK_L_PRBSERR l 0, Reg.LINK_L_PRBSERR l 1, Reg.LINK_L_STATUS l] by decide) l)]
  have hlink : ((u.prbsStart l rise).prbsInject l b).linkState l = 3 :=
    (hregs.linkState l ((show ∀ l : Fin 4, Reg.LINK_L_STATUS l ∉ injectRegs l by decide) l)).trans (u.prbsStart_linkState l rise)
  exact ⟨hlink, (hfield _ rfl).trans hpat, (hfield _ rfl).trans hgenOn, (hfield _ rfl).trans hchk,
    hmem.trans ((u.prbsStart_mem l rise).trans hsmem)⟩

theorem State.prbsWrite_refused (l : Fin 4) (v : Word) (s : State) (hgen : v.getLsbD 2 = true) (hst : s.linkState l = 1 ∨ s.linkState l = 2) :
    (s.prbsWrite l v).flag (Ev.LINK_L_FLAGS_CFGERR l) = true ∧ (s.prbsWrite l v).rd (Reg.LINK_L_PRBS l) = s.rd (Reg.LINK_L_PRBS l) ∧
      (s.prbsWrite l v).linkState l = s.linkState l ∧ (s.prbsWrite l v).link = s.link ∧ (s.prbsWrite l v).mem = s.mem := by
  rw [s.prbsWrite_of_busy l v hst hgen]
  obtain ⟨hprbs, hflag⟩ := s.linkRefused_frame l _ (.inr rfl)
  exact ⟨hflag, hprbs, (s.raise_sameRegistersBut _).linkState l
    ((show ∀ l : Fin 4, Reg.LINK_L_STATUS l ∉ [Reg.LINK_L_FLAGS l, (Ev.LINK_L_FLAGS_CFGERR l).cnt] by decide) l), s.raise_link _, s.raise_mem _⟩

/-- Settles O50. -/
theorem linkControl : Obligations.LinkControl := by
  unfold Obligations.LinkControl
  refine ⟨?_, ?_, ?_, ?_, ?_, ?_, ?_, ?_, ?_, ?_, ?_, ?_, ?_, ?_, ?_, ?_, ?_, ?_, ?_, ?_, ?_⟩
  · exact fun l v s h => ⟨_, rfl, State.linkEnable_refused l v s h⟩
  · exact fun l v s h1 h2 h3 h4 h5 => ⟨_, rfl, State.linkEnable_trains l v s h1 h2 h3 h4 h5⟩
  · exact fun l v s h1 h2 h3 h4 h5 h6 => ⟨_, rfl, State.linkEnable_off l v s h1 h2 h3 h4 h5 h6⟩
  · exact fun l s h1 h2 => ⟨_, rfl, State.linkRetrain_trains l s h1 h2⟩
  · exact fun l a b s h1 h2 h3 h4 h5 => ⟨_, rfl, State.linkTrained_up l a b s h1 h2 h3 h4 h5⟩
  · exact fun l a b s h1 h2 h3 h4 h5 => ⟨_, rfl, State.linkTrained_narrow l a b s h1 h2 h3 h4 h5⟩
  · exact fun l s h1 h2 h3 => ⟨_, rfl, State.linkTrainFail_noClock l s h1 h2 h3⟩
  · exact fun l a b s h1 h2 h3 => ⟨_, rfl, State.linkTrainFail_narrow l a b s h1 h2 h3⟩
  · exact fun l a b s h1 h2 h3 h4 => ⟨_, rfl, State.linkTrainFail_late l a b s h1 h2 h3 h4⟩
  · exact fun l x s h1 h2 h3 h4 => ⟨_, rfl, State.linkAutoRetrain_trains l x s h1 h2 h3 h4⟩
  · exact fun l x s h => ⟨_, rfl, State.nakExpire_ends l x s h⟩
  · exact fun l s h1 h2 h3 => ⟨_, rfl, State.replayTimeout_replays l s h1 h2 h3⟩
  · exact fun l s h1 h2 h3 => ⟨_, rfl, State.replayTimeout_down l s h1 h2 h3⟩
  · exact fun l o r s h1 h2 h3 h4 h5 h6 h7 h8 h9 h10 h11 => ⟨_, rfl, State.remoteSend_sends l o r s h1 h2 h3 h4 h5 h6 h7 h8 h9 h10 h11⟩
  · exact fun l x s h1 h2 h3 h4 => ⟨_, rfl, State.exchangeStart_starts l x s h1 h2 h3 h4⟩
  · exact fun l c g x s h1 h2 h3 h4 h5 h6 h7 => ⟨_, rfl, State.rawSend_sends l c g x s h1 h2 h3 h4 h5 h6 h7⟩
  · exact fun l s h => ⟨_, rfl, State.linkClockLoss_down l s h⟩
  · exact fun l x s h1 h2 h3 => ⟨_, rfl, State.linkStuff_down l x s h1 h2 h3⟩
  · exact fun l b i s h1 h2 h3 h4 => ⟨_, rfl, State.prbsInject_counts l b i s h1 h2 h3 h4⟩
  · exact fun l v s h1 h2 => ⟨_, rfl, State.prbsWrite_refused l v s h1 h2⟩
  · exact fun l v s h1 h2 => ⟨_, rfl, State.prbsWrite_starts l v s h1 h2⟩

end Sys2Proof.Machine

/-! SUPPORT. LINK: what a cell that arrives leaves of the port, the registers and the memory. -/
namespace Sys2Proof.Machine

set_option Elab.async false

/-! ### What sending leaves of a port -/

/-- `q` is `p` after it has sent: what has left, what is due, the replay buffer, the numbering and the queues differ. -/
structure LinkPort.Sends (p q : LinkPort) : Prop where
  same : q = { p with
    sent := q.sent, nakDue := q.nakDue, ackDue := q.ackDue, line := q.line, txRun := q.txRun, credRet := q.credRet, replay := q.replay
    seq := q.seq, evOut := q.evOut, respOut := q.respOut, strOut := q.strOut }
  grows : p.sent <+: q.sent

theorem LinkPort.Sends.refl (p : LinkPort) : p.Sends p := ⟨rfl, List.prefix_rfl⟩

theorem LinkPort.Sends.trans {p q r : LinkPort} (h1 : p.Sends q) (h2 : q.Sends r) : p.Sends r where
  same := by rw [h2.same, h1.same]
  grows := h1.grows.trans h2.grows

theorem LinkPort.sendUnseq_sends (p : LinkPort) (c : TxCell) : p.Sends (p.sendUnseq c) := ⟨rfl, List.prefix_append _ _⟩

theorem LinkPort.sendSeq_sends (p : LinkPort) (now : Nat) (c : TxCell) : p.Sends (p.sendSeq now c) := ⟨rfl, List.prefix_append _ _⟩

theorem LinkPort.queues_sends (p : LinkPort) (e : List (Nat × Nat)) (r s : List TxCell) :
    p.Sends { p with evOut := e, respOut := r, strOut := s } := ⟨rfl, List.prefix_rfl⟩

theorem LinkPort.pumpOne_keeps (p : LinkPort) (now : Nat) : p.Sends (p.pumpOne now) := by
  by_cases hroom : 48 ≤ p.replay.length
  · rw [show p.pumpOne now = p from if_pos hroom]
    exact .refl p
  · cases hev : p.evOut with
    | cons x r =>
      rw [p.pumpOne_event now x r (by omega) hev]
      exact (p.queues_sends r p.respOut p.strOut).trans (LinkPort.sendSeq_sends ..)
    | nil =>
      cases hresp : p.respOut with
      | cons x r =>
        rw [p.pumpOne_response now x r (by omega) hev hresp]
        exact (p.queues_sends p.evOut r p.strOut).trans (LinkPort.sendSeq_sends ..)
      | nil =>
        cases hstr : p.strOut with
        | cons x r =>
          rw [p.pumpOne_stream now x r (by omega) hev hresp hstr]
          exact (p.queues_sends p.evOut p.respOut r).trans (LinkPort.sendSeq_sends ..)
        | nil =>
          rw [show p.pumpOne now = p from by unfold LinkPort.pumpOne; rw [if_neg hroom, hev, hresp, hstr]]
          exact .refl p

theorem LinkPort.pump_keeps (p : LinkPort) (now : Nat) : p.Sends (p.pump now) := by
  have hall : p.Sends ((List.range p.waiting).foldl (fun p _ => p.pumpOne now) p) :=
    foldl_keeps (fun q => p.Sends q) _ (fun q _ hq => hq.trans (q.pumpOne_keeps now)) _ _ (.refl p)
  have hpump : p.pump now = let q := (List.range p.waiting).foldl (fun p _ => p.pumpOne now) p
    if q.nakDue || q.ackDue || q.credRet != 0 then q.sendUnseq { typ := 0, sub := 0, len := 32, body := 0 } else q := rfl
  rw [hpump]
  dsimp only
  split
  · exact hall.trans (LinkPort.sendUnseq_sends ..)
  · exact hall

/-! ### What sending leaves of the state -/

/-- `t` is `s` after link `l` has sent what waits. -/
structure State.LinkSends (l : Fin 4) (s t : State) : Prop where
  port : (s.port l).Sends (t.port l)
  regs : SameRegistersBut [Reg.LINK_L_STATUS l] s t
  status (f : Fld) (h : f.lo + f.w ≤ 24) : t.get f = s.get f
  mem : t.mem = s.mem
  tbl : t.tbl = s.tbl
  mon : t.mon = s.mon

theorem State.linkPump_sends (s : State) (l : Fin 4) : State.LinkSends l s (s.linkPump l) := by
  unfold State.linkPump
  split
  · refine ⟨?_, (SameRegistersBut.of_regs (State.portM_regs ..)).trans (State.linkShow_sameRegistersBut _ l),
      fun f h => State.linkShow_get _ l f (.inr h), rfl, rfl, rfl⟩
    rw [State.linkShow, State.put_port, State.portM_port]
    exact (s.port l).pump_keeps s.now
  · exact ⟨.refl _, fun _ _ => rfl, fun _ _ => rfl, rfl, rfl, rfl⟩

theorem State.LinkSends.linkState {l : Fin 4} {s t : State} (h : State.LinkSends l s t) : t.linkState l = s.linkState l :=
  h.status _ (show 0 + 2 ≤ 24 by decide)

theorem State.LinkSends.flag {l : Fin 4} {s t : State} (h : State.LinkSends l s t) (e : EvFlag) (he : e.addr ≠ Reg.LINK_L_STATUS l) :
    t.flag e = s.flag e := by
  unfold State.flag State.on
  rw [h.regs.get _ (by simpa using he)]

theorem State.LinkSends.rd {l : Fin 4} {s t : State} (h : State.LinkSends l s t) (a : Nat) (ha : a ≠ Reg.LINK_L_STATUS l) :
    t.rd a = s.rd a := h.regs a (by simpa using ha)

/-! ### The cell that the lanes bring (R391–R393) -/

/-- The state in which a cell that the lanes spell acts. -/
def State.cellTaken (s : State) (l : Fin 4) (z : LaneBits) : State := (s.linkFresh l).portM l fun p => p.lineTake z

theorem LinkPort.lineTake_eq (p : LinkPort) (z : LaneBits) : p.lineTake z = { p with rxRun := (p.lineTake z).rxRun, rxHalf := (p.lineTake z).rxHalf } := by
  unfold LinkPort.lineTake
  split
  · rfl
  · rfl

theorem State.cellTaken_port (s : State) (l : Fin 4) (z : LaneBits) : ∃ r h, (s.cellTaken l z).port l =
    { s.port l with sent := [], line := ⟨[], []⟩, rxRun := r, rxHalf := h } := by
  rw [State.cellTaken, State.portM_port, State.linkFresh_port, LinkPort.lineTake_eq]
  exact ⟨_, _, rfl⟩

theorem State.cellArrive_of_cell (s : State) (l : Fin 4) (z : LaneBits) (early : BitVec 256 → Bool) (f : BitVec 256 → State → State)
    (c : BitVec 256) (hst : s.linkState l = 2 ∨ s.linkState l = 1 ∧ early c = true) (hloop : (s.port l).loop ≠ 3)
    (hc : (s.port l).lineCell z = some c) : s.cellArrive l z early f = f c (s.cellTaken l z) := by
  have hcell : ((s.linkFresh l).port l).lineCell z = some c := by rw [State.linkFresh_port]; exact hc
  unfold State.cellArrive
  dsimp only
  rw [if_neg (by rw [State.linkFresh_linkState]; omega), if_neg (by rw [State.linkFresh_port]; exact hloop), hcell]
  dsimp only
  rw [if_pos]
  · rfl
  · rcases hst with hst | ⟨-, hearly⟩
    · refine .inl ?_
      unfold State.linkCells
      rw [State.linkFresh_linkState, hst]
      rfl
    · exact .inr (.inl hearly)

theorem State.cellTaken_linkState (s : State) (l : Fin 4) (z : LaneBits) : (s.cellTaken l z).linkState l = s.linkState l := rfl

theorem State.cellTaken_regs (s : State) (l : Fin 4) (z : LaneBits) : (s.cellTaken l z).regs = s.regs := rfl

theorem State.cellTaken_classError (s : State) (l : Fin 4) (z : LaneBits) (c : BitVec 256) :
    ((s.cellTaken l z).port l).classError c = (s.port l).classError c := by
  obtain ⟨r, h, hport⟩ := s.cellTaken_port l z
  rw [hport]
  rfl

/-! ### The four ways of a cell (R397, R398) -/

theorem State.cellIn_error (s : State) (l : Fin 4) (c : BitVec 256) (here : Bool) (f : State → State) (h : (s.port l).classError c = true) :
    s.cellIn l c here f = (s.cellError l).linkPump l := if_pos h

/-- The state in which a cell with the expected SEQ acts. -/
def State.cellAccepted (s : State) (l : Fin 4) : State :=
  s.portM l fun p => { p with expect := (p.expect + 1) % 256, accepted := true, bad := 0, nakAt := none, ackDue := true }

/-- The state in which a cell without SEQ acts. -/
def State.cellGood (s : State) (l : Fin 4) : State := s.portM l fun p => { p with bad := 0 }

theorem State.cellIn_accepted (s : State) (l : Fin 4) (c : BitVec 256) (f : State → State) (h : (s.port l).classError c = false)
    (htype : sequenced (cellType c) = true) (hseq : cellSeq c = (s.port l).expect) :
    s.cellIn l c true f = (f ((s.cellAccepted l).cellControl l c)).linkPump l := by
  unfold State.cellIn
  rw [if_neg (by rw [h]; decide), if_neg (by decide), if_pos htype, if_pos hseq]
  rfl

theorem State.cellIn_duplicate (s : State) (l : Fin 4) (c : BitVec 256) (f : State → State) (h : (s.port l).classError c = false)
    (htype : sequenced (cellType c) = true) (hseq : cellSeq c ≠ (s.port l).expect) : s.cellIn l c true f = (s.cellDup l).linkPump l := by
  unfold State.cellIn
  rw [if_neg (by rw [h]; decide), if_neg (by decide), if_pos htype, if_neg hseq]

theorem State.cellIn_unnumbered (s : State) (l : Fin 4) (c : BitVec 256) (f : State → State) (h : (s.port l).classError c = false)
    (htype : sequenced (cellType c) = false) (h7 : cellType c ≠ 7) :
    s.cellIn l c true f = (f ((s.cellGood l).cellControl l c)).linkPump l := by
  unfold State.cellIn
  rw [if_neg (by rw [h]; decide), if_neg (by decide), if_neg (by rw [htype]; decide)]
  dsimp only
  rw [if_neg h7]
  rfl

theorem State.cellIn_exchange (s : State) (l : Fin 4) (c : BitVec 256) (f : State → State) (h : (s.port l).classError c = false)
    (h7 : cellType c = 7) : s.cellIn l c true f = ((f ((s.cellGood l).cellAcks l c)).cellNak l c).linkPump l := by
  unfold State.cellIn
  rw [if_neg (by rw [h]; decide), if_neg (by decide), if_neg (by rw [h7]; decide)]
  dsimp only
  rw [if_pos h7]
  rfl

/-! ### A cell that acknowledges nothing and asks for no replay -/

theorem State.portM_id (s : State) (l : Fin 4) : s.portM l (fun p => p) = s := by
  have hports : s.link.ports.upd l (fun p => p) = s.link.ports := Vector.set_getElem_self ..
  unfold State.portM
  rw [hports]

theorem cellCtl_bits {c : BitVec 256} {n : Nat} (h : cellCtl c 22 2 = n) : cellCtl c 22 1 = n % 2 ∧ cellCtl c 23 1 = n / 2 % 2 := by
  unfold cellCtl cut at *
  rw [Nat.shiftRight_eq_div_pow] at h ⊢
  rw [Nat.shiftRight_eq_div_pow]
  omega

/-- What a cell without acknowledgement and NAK leaves: the credits that it brings. -/
def State.cellCredit (s : State) (l : Fin 4) (c : BitVec 256) : State :=
  s.put (Fd.LINK_L_STATUS_CRED l) (min 16 (s.get (Fd.LINK_L_STATUS_CRED l) + cellCtl c 18 4))

theorem State.cellAcks_of_none (s : State) (l : Fin 4) (c : BitVec 256) (h : cellCtl c 23 1 = 0) : s.cellAcks l c = s.cellCredit l c := by
  have hid : (fun p : LinkPort => if cellCtl c 23 1 = 1 then p.acked (cellCtl c 24 8) else p) = fun p => p :=
    funext fun p => if_neg (by rw [h]; decide)
  unfold State.cellAcks
  rw [hid, State.portM_id]
  rfl

theorem State.cellNak_of_none (s : State) (l : Fin 4) (c : BitVec 256) (h : cellCtl c 22 1 = 0) : s.cellNak l c = s.linkShow l :=
  if_neg (by rw [h]; decide)

theorem State.cellControl_of_none (s : State) (l : Fin 4) (c : BitVec 256) (h : cellCtl c 22 2 = 0) :
    s.cellControl l c = (s.cellCredit l c).linkShow l := by
  obtain ⟨hnak, hack⟩ := cellCtl_bits h
  rw [State.cellControl, s.cellAcks_of_none l c hack, State.cellNak_of_none _ l c hnak]

theorem State.cellCredit_port (s : State) (l : Fin 4) (c : BitVec 256) (k : Fin 4) : (s.cellCredit l c).port k = s.port k := rfl

theorem State.linkShow_port (s : State) (l k : Fin 4) : (s.linkShow l).port k = s.port k := rfl

theorem State.cellCredit_sameRegistersBut (s : State) (l : Fin 4) (c : BitVec 256) :
    SameRegistersBut [Reg.LINK_L_STATUS l] s (s.cellCredit l c) := s.put_sameRegistersBut (Fd.LINK_L_STATUS_CRED l) _

theorem State.cellCredit_linkState (s : State) (l : Fin 4) (c : BitVec 256) : (s.cellCredit l c).linkState l = s.linkState l :=
  s.get_put_apart _ _ _ (show 16 + 5 ≤ 32 by decide) (.inr (.inl (show 0 + 2 ≤ 16 by decide)))

theorem State.linkShow_linkState (s : State) (l : Fin 4) : (s.linkShow l).linkState l = s.linkState l :=
  s.linkShow_get l _ (.inr (show 0 + 2 ≤ 24 by decide))

theorem State.cellCredit_cred (s : State) (l : Fin 4) (c : BitVec 256) :
    (s.cellCredit l c).get (Fd.LINK_L_STATUS_CRED l) = min 16 (s.get (Fd.LINK_L_STATUS_CRED l) + cellCtl c 18 4) := by
  have hlt : min 16 (s.get (Fd.LINK_L_STATUS_CRED l) + cellCtl c 18 4) < 2 ^ 5 := Nat.lt_of_le_of_lt (Nat.min_le_left _ _) (by decide)
  exact (s.get_put_within _ _ (show 16 + 5 ≤ 32 by decide)).trans (Nat.mod_eq_of_lt hlt)

/-! ### The crossbar's tags -/

theorem State.tagFree_of_le {s t : State} (h : ∀ q, t.tagsHeld q ≤ s.tagsHeld q) {row : Nat} (hs : s.tagFree row = true) :
    t.tagFree row = true := by
  unfold State.tagFree at hs ⊢
  obtain ⟨hcap, hrow⟩ := Bool.and_eq_true_iff.1 hs
  refine Bool.and_eq_true_iff.2 ⟨decide_eq_true (Nat.lt_of_le_of_lt (h _) (of_decide_eq_true hcap)), ?_⟩
  rcases Bool.or_eq_true_iff.1 hrow with hr | hfree
  · exact Bool.or_eq_true_iff.2 (.inl hr)
  · exact Bool.or_eq_true_iff.2 (.inr (decide_eq_true (Nat.lt_of_le_of_lt (h _) (of_decide_eq_true hfree))))

theorem State.tagsHeld_le {s t : State} (hx : t.xbar = s.xbar) (hops : ∀ (k : Fin 4) (p : RemoteOp → Bool), (t.port k).ops.countP (fun o => o.stage.inFlight && p o) ≤
    (s.port k).ops.countP fun o => o.stage.inFlight && p o) (q : Nat → Bool) : t.tagsHeld q ≤ s.tagsHeld q := by
  unfold State.tagsHeld
  rw [hx]
  refine Nat.add_le_add_left ?_ _
  exact List.sum_le_sum fun k _ => hops k _

theorem State.tagFree_congr {s t : State} (hx : t.xbar = s.xbar) (hops : ∀ k, (t.port k).ops = (s.port k).ops) (row : Nat) :
    t.tagFree row = s.tagFree row := by
  have hheld (q : Nat → Bool) : t.tagsHeld q = s.tagsHeld q := by
    unfold State.tagsHeld
    rw [hx]
    simp only [hops]
  unfold State.tagFree
  rw [hheld, hheld]

theorem State.portM_ops (s : State) (l : Fin 4) (f : LinkPort → LinkPort) (hf : (f (s.port l)).ops = (s.port l).ops) (k : Fin 4) :
    ((s.portM l f).port k).ops = (s.port k).ops := by
  by_cases h : k = l
  · rw [h, State.portM_port, hf]
  · exact congrArg LinkPort.ops (upd_get_other _ l k f h)

end Sys2Proof.Machine

/-! SUPPORT. O51, the first part: damaged and repeated cells, credits and replays, answers and events. -/
namespace Sys2Proof.Machine

set_option Elab.async false

/-- The lanes of a link that is up bring an undamaged cell. -/
structure State.Brings (s : State) (l : Fin 4) (z : LaneBits) (c : BitVec 256) : Prop where
  up : s.linkState l = 2
  loop : (s.port l).loop ≠ 3
  cell : (s.port l).lineCell z = some c
  good : (s.port l).classError c = false

/-- The state in which a cell with the expected SEQ, without acknowledgement and NAK, acts. -/
def State.numberedIn (s : State) (l : Fin 4) (z : LaneBits) (c : BitVec 256) : State :=
  (((s.cellTaken l z).cellAccepted l).cellCredit l c).linkShow l

/-- The state in which a cell without SEQ, acknowledgement and NAK acts. -/
def State.plainIn (s : State) (l : Fin 4) (z : LaneBits) (c : BitVec 256) : State :=
  (((s.cellTaken l z).cellGood l).cellCredit l c).linkShow l

theorem State.Brings.arrive {s : State} {l : Fin 4} {z : LaneBits} {c : BitVec 256} (h : s.Brings l z c) (early : BitVec 256 → Bool)
    (f : BitVec 256 → State → State) : s.cellArrive l z early f = f c (s.cellTaken l z) :=
  s.cellArrive_of_cell l z early f c (.inl h.up) h.loop h.cell

theorem State.cellTaken_expect (s : State) (l : Fin 4) (z : LaneBits) : ((s.cellTaken l z).port l).expect = (s.port l).expect := by
  obtain ⟨r, k, hport⟩ := s.cellTaken_port l z
  rw [hport]

theorem State.Brings.numbered {s : State} {l : Fin 4} {z : LaneBits} {c : BitVec 256} (h : s.Brings l z c) (f : BitVec 256 → State → State)
    (n : Nat) (htype : cellType c = n) (hn : sequenced n = true) (hseq : cellSeq c = (s.port l).expect) (hctl : cellCtl c 22 2 = 0) :
    (s.cellArrive l z never fun c s => s.cellIn l c (cellType c == n) (f c)) = (f c (s.numberedIn l z c)).linkPump l := by
  rw [h.arrive, htype, beq_self_eq_true, State.cellIn_accepted _ l c _ (by rw [State.cellTaken_classError, h.good]) (by rw [htype, hn])
    (by rw [State.cellTaken_expect, hseq]), State.cellControl_of_none _ l c hctl]
  rfl

theorem State.numberedIn_port (s : State) (l : Fin 4) (z : LaneBits) (c : BitVec 256) : ∃ r k, (s.numberedIn l z c).port l =
    { s.port l with
      sent := [], line := ⟨[], []⟩, rxRun := r, rxHalf := k, expect := ((s.port l).expect + 1) % 256, accepted := true, bad := 0
      nakAt := none, ackDue := true } := by
  obtain ⟨r, k, hport⟩ := s.cellTaken_port l z
  rw [State.numberedIn, State.linkShow_port, State.cellCredit_port, State.cellAccepted, State.portM_port, hport]
  exact ⟨r, k, rfl⟩

theorem State.plainIn_port (s : State) (l : Fin 4) (z : LaneBits) (c : BitVec 256) : ∃ r k, (s.plainIn l z c).port l =
    { s.port l with sent := [], line := ⟨[], []⟩, rxRun := r, rxHalf := k, bad := 0 } := by
  obtain ⟨r, k, hport⟩ := s.cellTaken_port l z
  rw [State.plainIn, State.linkShow_port, State.cellCredit_port, State.cellGood, State.portM_port, hport]
  exact ⟨r, k, rfl⟩

/-- What the state in which a cell acts shares with the state before it, whether it is numbered or not. -/
structure State.ActsOn (l : Fin 4) (s t : State) : Prop where
  regs : SameRegistersBut [Reg.LINK_L_STATUS l] s t
  linkState : t.linkState l = s.linkState l
  ops : ∀ k, (t.port k).ops = (s.port k).ops
  mem : t.mem = s.mem
  tbl : t.tbl = s.tbl
  xbar : t.xbar = s.xbar
  mon : t.mon = s.mon
  pmu : t.pmu = s.pmu
  cpu : t.cpu = s.cpu

theorem State.ActsOn.trans {l : Fin 4} {s t u : State} (h1 : State.ActsOn l s t) (h2 : State.ActsOn l t u) : State.ActsOn l s u where
  regs := h1.regs.trans h2.regs
  linkState := h2.linkState.trans h1.linkState
  ops k := (h2.ops k).trans (h1.ops k)
  mem := h2.mem.trans h1.mem
  tbl := h2.tbl.trans h1.tbl
  xbar := h2.xbar.trans h1.xbar
  mon := h2.mon.trans h1.mon
  pmu := h2.pmu.trans h1.pmu
  cpu := h2.cpu.trans h1.cpu

theorem State.portM_actsOn (s : State) (l : Fin 4) (f : LinkPort → LinkPort) (hf : (f (s.port l)).ops = (s.port l).ops) :
    State.ActsOn l s (s.portM l f) :=
  ⟨fun _ _ => rfl, rfl, s.portM_ops l f hf, rfl, rfl, rfl, rfl, rfl, rfl⟩

theorem State.cellCredit_actsOn (s : State) (l : Fin 4) (c : BitVec 256) : State.ActsOn l s (s.cellCredit l c) :=
  ⟨s.cellCredit_sameRegistersBut l c, s.cellCredit_linkState l c, fun _ => rfl, rfl, rfl, rfl, rfl, rfl, rfl⟩

theorem State.linkShow_actsOn (s : State) (l : Fin 4) : State.ActsOn l s (s.linkShow l) :=
  ⟨s.linkShow_sameRegistersBut l, s.linkShow_linkState l, fun _ => rfl, rfl, rfl, rfl, rfl, rfl, rfl⟩

theorem State.cellTaken_actsOn (s : State) (l : Fin 4) (z : LaneBits) : State.ActsOn l s (s.cellTaken l z) :=
  (s.portM_actsOn l _ rfl).trans (State.portM_actsOn _ l _ (by rw [LinkPort.lineTake_eq]))

theorem State.numberedIn_actsOn (s : State) (l : Fin 4) (z : LaneBits) (c : BitVec 256) : State.ActsOn l s (s.numberedIn l z c) :=
  (((s.cellTaken_actsOn l z).trans (State.portM_actsOn _ l _ rfl)).trans (State.cellCredit_actsOn _ l c)).trans (State.linkShow_actsOn _ l)

theorem State.plainIn_actsOn (s : State) (l : Fin 4) (z : LaneBits) (c : BitVec 256) : State.ActsOn l s (s.plainIn l z c) :=
  (((s.cellTaken_actsOn l z).trans (State.portM_actsOn _ l _ rfl)).trans (State.cellCredit_actsOn _ l c)).trans (State.linkShow_actsOn _ l)

theorem State.plainIn_cred (s : State) (l : Fin 4) (z : LaneBits) (c : BitVec 256) :
    (s.plainIn l z c).get (Fd.LINK_L_STATUS_CRED l) = min 16 (s.get (Fd.LINK_L_STATUS_CRED l) + cellCtl c 18 4) := by
  rw [State.plainIn, State.linkShow_get _ l _ (.inr (show 16 + 5 ≤ 24 by decide)), State.cellCredit_cred]
  rfl

theorem State.ActsOn.tagFree {l : Fin 4} {s t : State} (h : State.ActsOn l s t) (row : Nat) : t.tagFree row = s.tagFree row :=
  State.tagFree_congr h.xbar h.ops row

theorem State.ActsOn.rd {l : Fin 4} {s t : State} (h : State.ActsOn l s t) (a : Nat) (ha : a ≠ Reg.LINK_L_STATUS l) : t.rd a = s.rd a :=
  h.regs a (by simpa using ha)

theorem State.ActsOn.get {l : Fin 4} {s t : State} (h : State.ActsOn l s t) (f : Fld) (hf : f.addr ≠ Reg.LINK_L_STATUS l) : t.get f = s.get f :=
  h.regs.get f (by simpa using hf)

/-! ### Damaged and repeated cells (R397, R398) -/

/-- The port after a CRC-class error. -/
def LinkPort.spoiled (p : LinkPort) (now : Nat) : LinkPort :=
  if p.nakAt.isSome then { p with bad := p.bad + 1 } else { p with bad := p.bad + 1, nakDue := true, nakAt := some now }

theorem LinkPort.spoiled_fields (p : LinkPort) (now : Nat) : (p.spoiled now).bad = p.bad + 1 ∧ (p.spoiled now).expect = p.expect ∧
    (p.spoiled now).nakAt.isSome = true ∧ (p.spoiled now).ops = p.ops ∧ (p.spoiled now).loop = p.loop := by
  unfold LinkPort.spoiled
  split
  · next h => exact ⟨rfl, rfl, h, rfl, rfl⟩
  · exact ⟨rfl, rfl, rfl, rfl, rfl⟩

/-- A CRC-class error before the succession of errors is looked at. -/
def State.errorNoted (s : State) (l : Fin 4) : State :=
  ((s.raise (Ev.LINK_L_FLAGS_CRCERR l)).inc32 (Reg.LINK_L_CRCCNT l)).portM l fun p => p.spoiled s.now

theorem State.errorNoted_port (s : State) (l : Fin 4) : (s.errorNoted l).port l = (s.port l).spoiled s.now := by
  rw [State.errorNoted, State.portM_port, State.port_of_link (State.inc32_link ..), State.raise_port]

theorem State.cellError_eq (s : State) (l : Fin 4) :
    s.cellError l = if 4 ≤ (s.port l).bad + 1 then (s.errorNoted l).linkDown l else s.errorNoted l := by
  have hnow : ((s.raise (Ev.LINK_L_FLAGS_CRCERR l)).inc32 (Reg.LINK_L_CRCCNT l)).now = s.now := by rw [State.inc32_now, State.raise_now]
  have hport : ((s.errorNoted l).port l).bad = (s.port l).bad + 1 := by rw [State.errorNoted_port, (LinkPort.spoiled_fields _ _).1]
  rw [← hport]
  unfold State.cellError
  dsimp only
  rw [hnow]
  rfl

theorem State.errorNoted_linkState (s : State) (l : Fin 4) : (s.errorNoted l).linkState l = s.linkState l := by
  rw [State.errorNoted, State.linkState_of_regs (State.portM_regs ..), State.linkState, State.get_inc32_other _ _ _ (by decide +revert),
    State.get_raise_other _ _ _ (show 4 < 32 by decide) (.inl (by decide +revert)) (by decide +revert)]
  rfl

theorem State.errorNoted_flag (s : State) (l : Fin 4) : (s.errorNoted l).flag (Ev.LINK_L_FLAGS_CRCERR l) = true := by
  rw [State.errorNoted, State.flag_of_regs (State.portM_regs ..), State.flag, State.on, State.get_inc32_other _ _ _ (by decide +revert)]
  exact s.flag_raise (Ev.LINK_L_FLAGS_CRCERR l) (by decide +revert) (show 4 < 32 by decide)

theorem State.errorNoted_count (s : State) (l : Fin 4) : (s.errorNoted l).rd (Reg.LINK_L_CRCCNT l) = s.rd (Reg.LINK_L_CRCCNT l) + 1 := by
  rw [State.errorNoted, State.portM_rd, State.rd_inc32_same, State.rd_raise_other _ _ _ (by decide +revert) (by decide +revert)]

theorem State.errorNoted_mem (s : State) (l : Fin 4) : (s.errorNoted l).mem = s.mem := by
  rw [State.errorNoted, State.portM_mem, State.inc32_mem, State.raise_mem]

theorem State.flag_raise_beside (s : State) (e k : EvFlag) (hbit : e.bit < 32) (hne : k.bit ≠ e.bit) (hcnt : k.addr ≠ e.cnt) :
    (s.raise e).flag k = s.flag k := s.flag_raiseIf_beside true e k hbit hne hcnt

/-- A flag of a link keeps its value in a loss unless the loss sets it. -/
theorem State.linkDown_flag_other (s : State) (l : Fin 4) (e : EvFlag) (he : e.addr = Reg.LINK_L_FLAGS l) (hbit : e.bit ∉ [1, 8, 9]) :
    (s.linkDown l).flag e = s.flag e := by
  simp only [List.mem_cons, List.not_mem_nil, or_false, not_or] at hbit
  obtain ⟨h1, h8, h9⟩ := hbit
  have hne := (show ∀ l : Fin 4, Reg.LINK_L_FLAGS l ≠ Reg.LINK_L_STATUS l ∧ Reg.LINK_L_FLAGS l ≠ (Ev.LINK_L_FLAGS_DOWN l).cnt ∧
    Reg.LINK_L_FLAGS l ≠ (Ev.LINK_L_FLAGS_EVLOST l).cnt ∧ Reg.LINK_L_FLAGS l ≠ (Ev.LINK_L_FLAGS_XLOST l).cnt by decide) l
  rw [← he] at hne
  obtain ⟨hstatus, hdown, hev, hx⟩ := hne
  have hoff : (s.linkOff l).flag e = s.flag e := by
    unfold State.flag State.on
    rw [(s.linkOff_sameRegistersBut l).get _ (by simpa using hstatus)]
  have hlost (up : Bool) (n : Nat) (x : Bool) : ((s.linkOff l).linkLost l up n x).flag e = s.flag e := by
    unfold State.linkLost
    split
    · rw [State.flag_raiseIf_beside _ _ _ _ (show 9 < 32 by decide) h9 hx, State.flag_raiseN_beside _ _ _ _ (show 8 < 32 by decide) h8 hev,
        State.flag_raise_beside _ _ _ (show 1 < 32 by decide) h1 hdown, hoff]
    · exact hoff
  by_cases h : s.linkState l = 0
  · rw [s.linkDown_of_down l h]
  · obtain ⟨n, x, k, heq⟩ := s.linkDown_eq l h
    rw [heq]
    cases k
    · exact hlost _ n x
    · exact hlost _ n x

theorem State.cellError_first (l : Fin 4) (z : LaneBits) (c : BitVec 256) (s : State) (hup : s.linkState l = 2) (hloop : (s.port l).loop ≠ 3)
    (hc : (s.port l).lineCell z = some c) (hbad : (s.port l).classError c = true) (hfew : (s.port l).bad < 3) :
    Answers (.cellCrcClassError l z) s fun t =>
      t.flag (Ev.LINK_L_FLAGS_CRCERR l) = true ∧ t.rd (Reg.LINK_L_CRCCNT l) = s.rd (Reg.LINK_L_CRCCNT l) + 1 ∧
        (t.port l).bad = (s.port l).bad + 1 ∧
      (t.port l).expect = (s.port l).expect ∧ (t.port l).nakAt.isSome = true ∧ (t.port l).ops = (s.port l).ops ∧ t.linkState l = 2 ∧
        t.mem = s.mem := by
  refine ⟨_, rfl, ?_⟩
  obtain ⟨r, k, hport⟩ := s.cellTaken_port l z
  have hst : (s.cellTaken l z).linkState l = 2 := hup
  have hrd : (s.cellTaken l z).rd (Reg.LINK_L_CRCCNT l) = s.rd (Reg.LINK_L_CRCCNT l) := rfl
  have hmem : (s.cellTaken l z).mem = s.mem := rfl
  rw [s.cellArrive_of_cell l z never _ c (.inl hup) hloop hc, State.cellIn_error _ l c _ _ (by rw [State.cellTaken_classError, hbad])]
  generalize s.cellTaken l z = u at hport hst hrd hmem
  rw [u.cellError_eq l, if_neg (by rw [hport]; show ¬ 4 ≤ (s.port l).bad + 1; omega)]
  have hsend := (u.errorNoted l).linkPump_sends l
  have hne := (show ∀ l : Fin 4, Reg.LINK_L_FLAGS l ≠ Reg.LINK_L_STATUS l ∧ Reg.LINK_L_CRCCNT l ≠ Reg.LINK_L_STATUS l by decide) l
  obtain ⟨hb, hexp, hnak, hops, -⟩ := (u.port l).spoiled_fields u.now
  rw [hsend.flag _ hne.1, hsend.rd _ hne.2, hsend.port.same, hsend.linkState, hsend.mem, State.errorNoted_port, State.errorNoted_linkState,
    State.errorNoted_count, State.errorNoted_mem]
  refine ⟨u.errorNoted_flag l, by rw [hrd], ?_, ?_, hnak, ?_, hst, hmem⟩
  · rw [show _ = (u.port l).bad + 1 from hb, hport]
  · rw [show _ = (u.port l).expect from hexp, hport]
  · rw [show _ = (u.port l).ops from hops, hport]

theorem State.cellError_fourth (l : Fin 4) (z : LaneBits) (c : BitVec 256) (s : State) (hup : s.linkState l = 2) (hloop : (s.port l).loop ≠ 3)
    (hc : (s.port l).lineCell z = some c) (hbad : (s.port l).classError c = true) (hthree : (s.port l).bad = 3) :
    Answers (.cellWr l z) s fun t =>
      t.flag (Ev.LINK_L_FLAGS_CRCERR l) = true ∧ t.linkState l = 0 ∧ t.flag (Ev.LINK_L_FLAGS_DOWN l) = true ∧ t.mem = s.mem := by
  refine ⟨_, rfl, ?_⟩
  obtain ⟨r, k, hport⟩ := s.cellTaken_port l z
  have hst : (s.cellTaken l z).linkState l = 2 := hup
  have hmem : (s.cellTaken l z).mem = s.mem := rfl
  rw [s.cellArrive_of_cell l z never _ c (.inl hup) hloop hc, State.cellIn_error _ l c _ _ (by rw [State.cellTaken_classError, hbad])]
  generalize s.cellTaken l z = u at hport hst hmem
  rw [u.cellError_eq l, if_pos (by rw [hport]; show 4 ≤ (s.port l).bad + 1; omega)]
  have hsend := ((u.errorNoted l).linkDown l).linkPump_sends l
  have hne : Reg.LINK_L_FLAGS l ≠ Reg.LINK_L_STATUS l := (show ∀ l : Fin 4, Reg.LINK_L_FLAGS l ≠ Reg.LINK_L_STATUS l by decide) l
  have hst' : (u.errorNoted l).linkState l = 2 := (u.errorNoted_linkState l).trans hst
  rw [hsend.flag _ hne, hsend.flag _ hne, hsend.linkState, hsend.mem, State.linkDown_mem, State.errorNoted_mem,
    State.linkDown_flag_other _ l _ rfl (show 4 ∉ [1, 8, 9] by decide)]
  exact ⟨u.errorNoted_flag l, State.linkDown_linkState _ l, State.linkDown_flag _ l hst', hmem⟩

theorem State.cellDup_counts (l : Fin 4) (z : LaneBits) (c : BitVec 256) (s : State) (h : s.Brings l z c) (htype : cellType c = 3)
    (hseq : cellSeq c ≠ (s.port l).expect) : Answers (.cellWr l z) s fun t =>
      t.flag (Ev.LINK_L_FLAGS_DUP l) = true ∧ t.rd (Reg.LINK_L_DUPCNT l) = s.rd (Reg.LINK_L_DUPCNT l) + 1 ∧
        (t.port l).expect = (s.port l).expect ∧
      (t.port l).bad = 0 ∧ t.mem = s.mem := by
  refine ⟨_, rfl, ?_⟩
  obtain ⟨r, k, hport⟩ := s.cellTaken_port l z
  have hrd : (s.cellTaken l z).rd (Reg.LINK_L_DUPCNT l) = s.rd (Reg.LINK_L_DUPCNT l) := rfl
  have hmem : (s.cellTaken l z).mem = s.mem := rfl
  rw [h.arrive, htype, beq_self_eq_true, State.cellIn_duplicate _ l c _ (by rw [State.cellTaken_classError, h.good]) (by rw [htype]; rfl)
    (by rw [State.cellTaken_expect]; exact hseq)]
  generalize s.cellTaken l z = u at hport hrd hmem
  have hsend := (u.cellDup l).linkPump_sends l
  have hne := (show ∀ l : Fin 4, Reg.LINK_L_FLAGS l ≠ Reg.LINK_L_STATUS l ∧ Reg.LINK_L_DUPCNT l ≠ Reg.LINK_L_STATUS l ∧
    Reg.LINK_L_FLAGS l ≠ Reg.LINK_L_DUPCNT l ∧ Reg.LINK_L_DUPCNT l ≠ Reg.LINK_L_FLAGS l ∧ Reg.LINK_L_DUPCNT l ≠ (Ev.LINK_L_FLAGS_DUP l).cnt ∧
    (Ev.LINK_L_FLAGS_DUP l).cnt ≠ (Ev.LINK_L_FLAGS_DUP l).addr by decide) l
  obtain ⟨h1, h2, h3, h4, h5, h6⟩ := hne
  have hdup : (u.cellDup l).port l = { u.port l with ackDue := true, bad := 0 } := by
    rw [State.cellDup, State.portM_port, State.port_of_link (State.inc32_link ..), State.raise_port]
  have hflag : (u.cellDup l).flag (Ev.LINK_L_FLAGS_DUP l) = true := by
    rw [State.cellDup, State.flag_of_regs (State.portM_regs ..), State.flag, State.on, State.get_inc32_other _ _ _ h3]
    exact u.flag_raise (Ev.LINK_L_FLAGS_DUP l) h6 (show 6 < 32 by decide)
  have hcount : (u.cellDup l).rd (Reg.LINK_L_DUPCNT l) = s.rd (Reg.LINK_L_DUPCNT l) + 1 := by
    rw [State.cellDup, State.portM_rd, State.rd_inc32_same, State.rd_raise_other _ _ _ h4 h5, hrd]
  have hdupMem : (u.cellDup l).mem = s.mem := by rw [State.cellDup, State.portM_mem, State.inc32_mem, State.raise_mem, hmem]
  rw [hsend.flag _ h1, hsend.rd _ h2, hsend.port.same, hsend.mem, hdup, hport]
  exact ⟨hflag, hcount, rfl, rfl, hdupMem⟩

/-! ### Credits and replays (R399, R401) -/

theorem State.cellIdle_credits (l : Fin 4) (z : LaneBits) (c : BitVec 256) (s : State) (h : s.Brings l z c) (htype : cellType c = 0)
    (hctl : cellCtl c 22 2 = 0) : Answers (.cellIdle l z) s fun t =>
      (t.port l).bad = 0 ∧ t.get (Fd.LINK_L_STATUS_CRED l) = min 16 (s.get (Fd.LINK_L_STATUS_CRED l) + cellCtl c 18 4) ∧ t.linkState l = 2 ∧
      (t.port l).expect = (s.port l).expect ∧ SameRegistersBut [Reg.LINK_L_STATUS l] s t ∧ t.mem = s.mem := by
  refine ⟨_, rfl, ?_⟩
  obtain ⟨r, k, hport⟩ := s.plainIn_port l z c
  have hacts := s.plainIn_actsOn l z c
  have hcred := s.plainIn_cred l z c
  rw [h.arrive, htype, beq_self_eq_true, State.cellIn_unnumbered _ l c _ (by rw [State.cellTaken_classError, h.good]) (by rw [htype]; rfl)
    (by rw [htype]; decide), State.cellControl_of_none _ l c hctl, show (((s.cellTaken l z).cellGood l).cellCredit l c).linkShow l = s.plainIn l z c from rfl]
  generalize s.plainIn l z c = u at hport hacts hcred
  have hsend := (id u).linkPump_sends l
  rw [id_eq] at hsend ⊢
  rw [hsend.port.same, hsend.status _ (show 16 + 5 ≤ 24 by decide), hsend.linkState, hsend.mem, hport, hcred, hacts.linkState, hacts.mem]
  exact ⟨rfl, rfl, h.up, rfl, hacts.regs.trans hsend.regs, rfl⟩

theorem State.cellIdle_replays (l : Fin 4) (z : LaneBits) (c : BitVec 256) (s : State) (h : s.Brings l z c) (htype : cellType c = 0)
    (hctl : cellCtl c 22 2 = 1) (hsome : (s.port l).replay ≠ []) (hrounds : (s.port l).rounds < 7) : Answers (.cellIdle l z) s fun t =>
      t.flag (Ev.LINK_L_FLAGS_REPLAY l) = true ∧ t.rd (Reg.LINK_L_REPLAYCNT l) = s.rd (Reg.LINK_L_REPLAYCNT l) + 1 ∧
      (s.port l).replay.length ≤ (t.port l).sent.length ∧ t.linkState l = 2 ∧ t.mem = s.mem := by
  refine ⟨_, rfl, ?_⟩
  obtain ⟨r, k, hport⟩ := s.cellTaken_port l z
  obtain ⟨hnak, hack⟩ := cellCtl_bits hctl
  rw [h.arrive, htype, beq_self_eq_true, State.cellIn_unnumbered _ l c _ (by rw [State.cellTaken_classError, h.good]) (by rw [htype]; rfl)
    (by rw [htype]; decide), State.cellControl, State.cellAcks_of_none _ l c hack, id_eq]
  have hne := (show ∀ l : Fin 4, Reg.LINK_L_FLAGS l ≠ Reg.LINK_L_STATUS l ∧ Reg.LINK_L_REPLAYCNT l ≠ Reg.LINK_L_STATUS l by decide) l
  obtain ⟨u, hu⟩ : ∃ u, u = ((s.cellTaken l z).cellGood l).cellCredit l c := ⟨_, rfl⟩
  have huport : u.port l = { (s.cellTaken l z).port l with bad := 0 } := by
    rw [hu, State.cellCredit_port, State.cellGood, State.portM_port]
  have hust : u.linkState l = 2 := by
    rw [hu, State.cellCredit_linkState]
    exact h.up
  have hurd : u.rd (Reg.LINK_L_REPLAYCNT l) = s.rd (Reg.LINK_L_REPLAYCNT l) := by
    rw [hu, State.cellCredit, State.rd_put_other _ _ _ _ hne.2]
    rfl
  have humem : u.mem = s.mem := by rw [hu]; rfl
  rw [hport] at huport
  rw [← hu, show u.cellNak l c = u.linkReplay l from if_pos hnak, u.linkReplay_eq l (by rw [huport]; exact hsome),
    if_neg (by rw [huport]; show ¬ 8 ≤ (s.port l).rounds + 1; omega)]
  have hsend := (u.replaySent l).linkPump_sends l
  obtain ⟨-, hlen, -⟩ := (u.port l).replayed_fields u.now
  have hgrows := hsend.port.grows.length_le
  rw [State.replaySent_port, hlen, huport] at hgrows
  rw [hsend.flag _ hne.1, hsend.rd _ hne.2, hsend.linkState, hsend.mem, State.replaySent_count, State.replaySent_linkState,
    State.replaySent_mem, hurd]
  exact ⟨u.replaySent_flag l, rfl, Nat.le_trans (Nat.le_add_left _ _) hgrows, hust, humem⟩

/-! ### Answers (R402) and forwarded events (R404) -/

theorem completeRead_head (tag x v : Nat) (o : RemoteOp) (r : List RemoteOp) (hsent : o.stage = .sent tag) (hdata : o.data = none) :
    ((o :: r).map (completeRead tag (x == 0) v)).head? = some { o with stage := .done (x == 0) (if x = 0 then v % 2 ^ (8 * o.size) else 0) } := by
  rw [List.map_cons, List.head?_cons, completeRead, if_pos ⟨hsent, hdata⟩]
  by_cases hz : x = 0
  · rw [if_pos hz, if_pos (beq_iff_eq.2 hz)]
  · rw [if_neg hz, if_neg (fun h => hz (beq_iff_eq.1 h))]

/-- A port after its read with the tag `tag` has been answered. -/
def LinkPort.readDone (p : LinkPort) (tag x v : Nat) : LinkPort := { p with ops := p.ops.map (completeRead tag (x == 0) v) }

theorem State.rdresp_port (s : State) (l : Fin 4) (c : BitVec 256) :
    (s.rdresp l c).port l = (s.port l).readDone (cellSub c) (cellBody c 184 8) (cellBody c 0 128) := by
  unfold State.rdresp
  rw [State.portM_port]
  rfl

theorem State.rdresp_mem (s : State) (l : Fin 4) (c : BitVec 256) : (s.rdresp l c).mem = s.mem := by
  unfold State.rdresp
  rw [State.portM_mem]

theorem State.cellRdresp_completes (l : Fin 4) (z : LaneBits) (c : BitVec 256) (o : RemoteOp) (r : List RemoteOp) (s : State)
    (h : s.Brings l z c) (htype : cellType c = 2) (hseq : cellSeq c = (s.port l).expect) (hctl : cellCtl c 22 2 = 0)
    (hops : (s.port l).ops = o :: r) (hsent : o.stage = .sent (cellSub c)) (hdata : o.data = none) : Answers (.cellRdresp l z) s fun t =>
      (t.port l).ops.head? = some { o with stage := .done (cellBody c 184 8 == 0) (if cellBody c 184 8 = 0 then cellBody c 0 128 % 2 ^ (8 * o.size) else 0) } ∧
      (t.port l).expect = ((s.port l).expect + 1) % 256 ∧ t.mem = s.mem := by
  refine ⟨_, rfl, ?_⟩
  obtain ⟨x, k, hport⟩ := s.numberedIn_port l z c
  have hacts := s.numberedIn_actsOn l z c
  rw [h.numbered (fun c s => s.rdresp l c) 2 htype rfl hseq hctl]
  generalize s.numberedIn l z c = u at hport hacts
  have hsend := (u.rdresp l c).linkPump_sends l
  rw [hsend.port.same, hsend.mem, State.rdresp_port, State.rdresp_mem, hport, ← completeRead_head (cellSub c) _ _ o r hsent hdata, ← hops]
  exact ⟨rfl, rfl, hacts.mem⟩

theorem completeWrites_zero (bad : Option Nat) : ∀ (i : Nat) (l : List RemoteOp), completeWrites bad 0 i l = l
  | _, [] => rfl
  | i, o :: t => by
    have htail := completeWrites_zero bad i t
    unfold completeWrites
    split
    · next h _ _ => exact absurd h (Nat.succ_ne_zero _).symm
    · next h => rw [htail]

theorem completeWrites_one (x y n : Nat) (o : RemoteOp) (r : List RemoteOp) (hsent : o.stage = .sent n) (hdata : o.data.isSome = true) :
    completeWrites (if x = 0 then none else some y) 1 0 (o :: r) = { o with stage := .done (decide (x = 0 ∨ y ≠ 0)) 0 } :: r := by
  obtain ⟨d, hd⟩ := Option.isSome_iff_exists.1 hdata
  unfold completeWrites
  rw [hsent, hd]
  dsimp only
  rw [completeWrites_zero]
  congr 3
  by_cases hx : x = 0
  · simp [hx]
  · simp [hx]

/-- Stamping the channels whose writes have landed leaves the links and the memory. -/
theorem State.stamped_same (hit : Fin 32 → Bool) (l : List (Fin 32)) (s : State) :
    (l.foldl (fun (s : State) (k : Fin 32) => if hit k then s.dmaM k fun d => { d with stamp := s.tbl.count } else s) s).link = s.link ∧
      (l.foldl (fun (s : State) (k : Fin 32) => if hit k then s.dmaM k fun d => { d with stamp := s.tbl.count } else s) s).mem = s.mem := by
  refine foldl_keeps (fun v : State => v.link = s.link ∧ v.mem = s.mem) _ (fun v i hv => ?_) l s ⟨rfl, rfl⟩
  split
  · exact hv
  · exact hv

/-- A port after the oldest `n` writes have been answered. -/
def LinkPort.writesDone (p : LinkPort) (x y n : Nat) : LinkPort :=
  { p with ops := completeWrites (if x = 0 then none else some y) n 0 p.ops }

theorem State.wrcmp_port (s : State) (l : Fin 4) (c : BitVec 256) :
    (s.wrcmp l c).port l = (s.port l).writesDone (cellBody c 184 8) (cellBody c 176 8) (cellSub c) ∧ (s.wrcmp l c).mem = s.mem := by
  unfold State.wrcmp
  dsimp only
  constructor
  · rw [State.port_of_link (State.stamped_same _ _ _).1, State.portM_port]
    rfl
  · rw [(State.stamped_same _ _ _).2, State.portM_mem]

theorem State.cellWrcmp_completes (l : Fin 4) (z : LaneBits) (c : BitVec 256) (o : RemoteOp) (r : List RemoteOp) (n : Nat) (s : State)
    (h : s.Brings l z c) (htype : cellType c = 4) (hseq : cellSeq c = (s.port l).expect) (hctl : cellCtl c 22 2 = 0)
    (hops : (s.port l).ops = o :: r) (hsent : o.stage = .sent n) (hdata : o.data.isSome = true) (hone : cellSub c = 1) :
    Answers (.cellWrcmp l z) s fun t =>
      (t.port l).ops = { o with stage := .done (decide (cellBody c 184 8 = 0 ∨ cellBody c 176 8 ≠ 0)) 0 } :: r ∧ t.mem = s.mem := by
  refine ⟨_, rfl, ?_⟩
  obtain ⟨x, k, hport⟩ := s.numberedIn_port l z c
  have hacts := s.numberedIn_actsOn l z c
  rw [h.numbered (fun c s => s.wrcmp l c) 4 htype rfl hseq hctl]
  generalize s.numberedIn l z c = u at hport hacts
  have hsend := (u.wrcmp l c).linkPump_sends l
  rw [hsend.port.same, hsend.mem, (u.wrcmp_port l c).1, (u.wrcmp_port l c).2, hport, hone,
    ← completeWrites_one (cellBody c 184 8) (cellBody c 176 8) n o r hsent hdata, ← hops]
  exact ⟨rfl, hacts.mem⟩

theorem enc_of_lt (w : Nat) (n : Nat) (h : n < 2 ^ w) : enc w (n : Int) = n := by
  unfold enc
  have hpow : ((2 ^ w : Nat) : Int) = (2 : Int) ^ w := Nat.cast_pow 2 w
  rw [← hpow, ← Int.natCast_emod, Nat.mod_eq_of_lt h, Int.toNat_natCast]

/-- R404: the carried low word of a time gives the whole time back where both lie in the lower half of the count's range. -/
theorem carried_time (x k d : Nat) (hx : x < 2 ^ 31) (hk : k < 2 ^ 31) (hd : d < 2 ^ 32) :
    enc 64 ((k : Int) + sx 32 (enc 32 ((x : Int) - k)) + d) = x + d := by
  have hsx : sx 32 (enc 32 ((x : Int) - k)) = (x : Int) - k := by
    unfold sx enc
    split <;> omega
  rw [hsx, show (k : Int) + ((x : Int) - k) + d = ((x + d : Nat) : Int) by push_cast; omega]
  exact enc_of_lt 64 _ (by omega)

/-- The state after an event for the time `x + d` has been taken, the count being `k`. -/
def State.eventHeld (s : State) (src x d k : Nat) : State :=
  (s.tblM fun b => { b with fwdIn := b.fwdIn ++ [⟨src, x + d, decide (x + d < k)⟩] }).raiseIf (decide (x + d < k)) Ev.TBL_STATUS_LFWDLATE

theorem State.eventIn_eq (s : State) (l : Fin 4) (c : BitVec 256) (x d k : Nat) (hx : cellBody c 160 32 = x) (hd : s.get (Fd.TBL_LFWDDLY_DLY l) = d)
    (hk : s.tbl.count = k) (hxlt : x < 2 ^ 31) (hklt : k < 2 ^ 31) (hdlt : d < 2 ^ 32) :
    s.eventIn l c = s.eventHeld (24 + 8 * l.val + cellSub c % 8) x d k := by
  unfold State.eventIn
  dsimp only
  rw [hx, hd, hk, carried_time x k d hxlt hklt hdlt]
  rfl

theorem State.eventHeld_fields (s : State) (src x d k : Nat) :
    (s.eventHeld src x d k).tbl.fwdIn = s.tbl.fwdIn ++ [⟨src, x + d, decide (x + d < k)⟩] ∧
      (x + d < k → (s.eventHeld src x d k).flag Ev.TBL_STATUS_LFWDLATE = true) ∧ (s.eventHeld src x d k).mem = s.mem := by
  unfold State.eventHeld
  refine ⟨by rw [State.raiseIf_tbl, State.tblM_tbl], fun hlate => ?_, by rw [State.raiseIf_mem, State.tblM_mem]⟩
  rw [decide_eq_true hlate]
  exact State.flag_raise _ _ (by decide) (by decide)

theorem State.get_lt_word (s : State) (f : Fld) (h : f.w ≤ 32) : s.get f < 2 ^ 32 :=
  Nat.lt_of_lt_of_le (cut_lt_two_pow _ _ _) (Nat.pow_le_pow_right (by decide) h)

theorem State.cellEvent_holds (l : Fin 4) (z : LaneBits) (c : BitVec 256) (s : State) (h : s.Brings l z c) (htype : cellType c = 5)
    (hseq : cellSeq c = (s.port l).expect) (hctl : cellCtl c 22 2 = 0) (hcount : s.tbl.count < 2 ^ 31) (htime : cellBody c 160 32 < 2 ^ 31) :
    Answers (.cellEvent l z) s fun t =>
      t.tbl.fwdIn = s.tbl.fwdIn ++ [⟨24 + 8 * l.val + cellSub c % 8, cellBody c 160 32 + s.get (Fd.TBL_LFWDDLY_DLY l), decide (cellBody c 160 32 + s.get (Fd.TBL_LFWDDLY_DLY l) < s.tbl.count)⟩] ∧
      (cellBody c 160 32 + s.get (Fd.TBL_LFWDDLY_DLY l) < s.tbl.count → t.flag Ev.TBL_STATUS_LFWDLATE = true) ∧ t.mem = s.mem := by
  refine ⟨_, rfl, ?_⟩
  have hacts := s.numberedIn_actsOn l z c
  rw [h.numbered (fun c s => s.eventIn l c) 5 htype rfl hseq hctl]
  generalize s.numberedIn l z c = u at hacts
  have hsend := (u.eventIn l c).linkPump_sends l
  have hdly : u.get (Fd.TBL_LFWDDLY_DLY l) = s.get (Fd.TBL_LFWDDLY_DLY l) :=
    hacts.get _ ((show ∀ l : Fin 4, Reg.TBL_LFWDDLY l ≠ Reg.LINK_L_STATUS l by decide) l)
  have hlt : s.get (Fd.TBL_LFWDDLY_DLY l) < 2 ^ 32 := s.get_lt_word _ (show 16 ≤ 32 by decide)
  have hne : Ev.TBL_STATUS_LFWDLATE.addr ≠ Reg.LINK_L_STATUS l := (show ∀ l : Fin 4, Ev.TBL_STATUS_LFWDLATE.addr ≠ Reg.LINK_L_STATUS l by decide) l
  have hflag := hsend.flag _ hne
  have htbl := hsend.tbl
  have hmem := hsend.mem
  generalize (u.eventIn l c).linkPump l = w at hflag htbl hmem ⊢
  rw [u.eventIn_eq l c _ _ s.tbl.count rfl hdly (by rw [hacts.tbl]) htime hcount hlt] at hflag htbl hmem
  generalize cellBody c 160 32 = x at hflag htbl hmem ⊢
  obtain ⟨hheld, hlate, hheldMem⟩ := u.eventHeld_fields (24 + 8 * l.val + cellSub c % 8) x (s.get (Fd.TBL_LFWDDLY_DLY l)) s.tbl.count
  refine ⟨?_, fun hl => hflag.trans (hlate hl), hmem.trans (hheldMem.trans hacts.mem)⟩
  rw [htbl, hheld, hacts.tbl]

end Sys2Proof.Machine

/-! SUPPORT. O51, the second part: requests of the far device and stream cells. -/
namespace Sys2Proof.Machine

set_option Elab.async false

/-! ### A request that finds its tag free (R21, R402) -/

/-- R402: a response waits. -/
def LinkPort.responds (p : LinkPort) (c : TxCell) : LinkPort := { p with respOut := p.respOut ++ [c], credRet := p.credRet + 1 }

theorem State.respond_of_accepted (s : State) (l : Fin 4) (c : TxCell) : s.respond l false c = s.portM l fun p => p.responds c := rfl

/-- The state in which a request that waited for nothing acts. -/
def State.requestTaken (s : State) (l : Fin 4) (c : BitVec 256) : State :=
  (s.portM l fun p => { p with reqIn := p.reqIn ++ [c] }).portM l fun p => { p with reqIn := [] }

theorem State.requestTaken_port (s : State) (l : Fin 4) (c : BitVec 256) (h : (s.port l).reqIn = []) : (s.requestTaken l c).port l = s.port l := by
  rw [State.requestTaken, State.portM_port, State.portM_port]
  dsimp only
  rw [← h]

theorem State.requestTaken_actsOn (s : State) (l : Fin 4) (c : BitVec 256) : State.ActsOn l s (s.requestTaken l c) :=
  (s.portM_actsOn l _ rfl).trans (State.portM_actsOn _ l _ rfl)

theorem State.requestIn_of_free (s : State) (l : Fin 4) (c : BitVec 256) (h : (s.port l).reqIn = []) (htag : s.tagFree (7 + l.val) = true) :
    s.requestIn l c = if cellType c = 1 then (s.requestTaken l c).rdreq l c else (s.requestTaken l c).wrreq l c := by
  have hq : ((s.portM l fun p => { p with reqIn := p.reqIn ++ [c] }).port l).reqIn = [c] := by
    rw [State.portM_port]
    dsimp only
    rw [h, List.nil_append]
  have hfree : (s.portM l fun p => { p with reqIn := p.reqIn ++ [c] }).tagFree (7 + l.val) = true := by
    rw [(s.portM_actsOn l _ rfl).tagFree, htag]
  unfold State.requestIn
  dsimp only
  rw [hq, List.length_singleton, State.requestDrain, hq]
  dsimp only
  rw [if_pos hfree]
  rfl

theorem busOk_sram (a n : Nat) (w : Bool) (hr : region a = .sram) (hn : n = 1 ∨ n = 2 ∨ n = 4 ∨ n = 8) (hal : a % n = 0) :
    busOk a n w = true := by
  have hsize : sizeOk n = true := by
    rcases hn with rfl | rfl | rfl | rfl <;> rfl
  unfold busOk
  rw [hr, hsize, hal]
  rfl

theorem State.rdreq_sram (s : State) (l : Fin 4) (c : BitVec 256) (a n : Nat) (ha : cellBody c 160 32 = a) (hn : cellBody c 152 8 = n)
    (hr : region a = .sram) (hsize : n = 1 ∨ n = 2 ∨ n = 4 ∨ n = 8) (hal : a % n = 0) (hecc : s.eccBad a = false) :
    s.rdreq l c = s.portM l fun p => p.responds (readResp (cellSub c) (true, s.memRd a n)) := by
  have hread : s.farRead a n = ((true, s.memRd a n), s) := by
    unfold State.farRead State.busRead
    rw [if_neg (by omega), if_pos (busOk_sram a n false hr hsize hal), hr]
    exact if_neg (by rw [hecc]; decide)
  unfold State.rdreq
  rw [ha, hn, hread]
  rfl

/-- The SRAM after a far device's write. -/
def State.farStored (s : State) (a n v : Nat) : State := (s.memWr a n v).monM fun m => { m with ecc := m.ecc.erase (a / 8 * 8) }

theorem State.wrreq_sram (s : State) (l : Fin 4) (c : BitVec 256) (a n v : Nat) (ha : cellBody c 160 32 = a) (hn : cellBody c 152 8 = n)
    (hv : cellBody c 0 128 = v) (hr : region a = .sram) (hsize : n = 1 ∨ n = 2 ∨ n = 4 ∨ n = 8) (hal : a % n = 0) :
    s.wrreq l c = (s.farStored a n (v % 2 ^ (8 * n))).portM l fun p => p.responds (writeResp a true) := by
  have hwrite : s.farWrite a n v = (true, s.farStored a n (v % 2 ^ (8 * n))) := by
    unfold State.farWrite State.busWrite
    rw [if_neg (by omega), if_pos (busOk_sram a n true hr hsize hal), hr]
    rfl
  unfold State.wrreq
  rw [ha, hn, hv]
  dsimp only
  rw [hwrite]
  rfl

/-! ### A read request (R402) -/

theorem readResp_fields (tag v : Nat) : (readResp tag (true, v)).typ = 2 ∧ (readResp tag (true, v)).sub = tag % 64 ∧
    (readResp tag (true, v)).body = v := ⟨rfl, rfl, by show 0 * 2 ^ 184 + v = v; rw [Nat.zero_mul, Nat.zero_add]⟩

/-- A waiting response leaves with the link's next cells, while the replay buffer has room for all that waits. -/
theorem State.linkPump_responds (s : State) (l : Fin 4) (c : TxCell) (hup : s.linkState l = 2) (hloop : (s.port l).loop ≠ 3)
    (hc : c ∈ (s.port l).respOut) (hroom : (s.port l).replay.length + (s.port l).waiting ≤ 48) :
    ∃ e ∈ ((s.linkPump l).port l).replay, e.2.typ = c.typ ∧ e.2.sub = c.sub ∧ e.2.body = c.body := by
  obtain ⟨-, -, hcarry⟩ := (s.port l).pump_sends s.now hroom
  rw [s.linkPump_of_up l hup hloop, State.linkShow_port, State.portM_port]
  exact hcarry c (.inl (.inl hc))

theorem State.eccBad_congr {s t : State} (h : t.mon = s.mon) (a : Nat) : t.eccBad a = s.eccBad a := by
  unfold State.eccBad
  rw [h]

theorem State.cellRdreq_answers (l : Fin 4) (z : LaneBits) (c : BitVec 256) (s : State) (h : s.Brings l z c) (htype : cellType c = 1)
    (hseq : cellSeq c = (s.port l).expect) (hctl : cellCtl c 22 2 = 0) (hr : region (cellBody c 160 32) = .sram)
    (hsize : cellBody c 152 8 = 1 ∨ cellBody c 152 8 = 2 ∨ cellBody c 152 8 = 4 ∨ cellBody c 152 8 = 8)
    (hal : cellBody c 160 32 % cellBody c 152 8 = 0) (hecc : s.eccBad (cellBody c 160 32) = false)
    (hroom : (s.port l).evOut.length + (s.port l).respOut.length + (s.port l).strOut.length + (s.port l).replay.length < 48)
    (hidle : (s.port l).reqIn = []) (htag : s.tagFree (7 + l.val) = true) : Answers (.cellRdreq l z) s fun t =>
      (∃ e ∈ (t.port l).replay, e.2.typ = 2 ∧ e.2.sub = cellSub c % 64 ∧ e.2.body = s.memRd (cellBody c 160 32) (cellBody c 152 8)) ∧
      (t.port l).expect = ((s.port l).expect + 1) % 256 ∧ t.linkState l = 2 ∧ t.mem = s.mem := by
  refine ⟨_, rfl, ?_⟩
  obtain ⟨x, k, hport⟩ := s.numberedIn_port l z c
  have hacts := s.numberedIn_actsOn l z c
  rw [h.numbered (fun c s => s.requestIn l c) 1 htype rfl hseq hctl]
  generalize s.numberedIn l z c = u at hport hacts
  have huidle : (u.port l).reqIn = [] := by rw [hport]; exact hidle
  have hacts' := hacts.trans (u.requestTaken_actsOn l c)
  have hport' := (u.requestTaken_port l c huidle).trans hport
  rw [u.requestIn_of_free l c huidle (by rw [hacts.tagFree, htag]), if_pos htype]
  generalize u.requestTaken l c = v at hacts' hport'
  obtain ⟨a, ha⟩ : ∃ a, cellBody c 160 32 = a := ⟨_, rfl⟩
  obtain ⟨n, hn⟩ : ∃ n, cellBody c 152 8 = n := ⟨_, rfl⟩
  rw [ha] at hr hal hecc ⊢
  rw [hn] at hsize hal ⊢
  rw [v.rdreq_sram l c a n ha hn hr hsize hal (by rw [State.eccBad_congr hacts'.mon, hecc]), State.memRd_of_mem_eq hacts'.mem]
  obtain ⟨htyp, hsub, hbody⟩ := readResp_fields (cellSub c) (s.memRd a n)
  generalize readResp (cellSub c) (true, s.memRd a n) = y at htyp hsub hbody
  obtain ⟨w, hw⟩ : ∃ w, w = v.portM l fun p => p.responds y := ⟨_, rfl⟩
  have hwport : w.port l = (v.port l).responds y := by rw [hw, State.portM_port]
  have hwup : w.linkState l = 2 := by
    rw [hw, State.linkState_of_regs (State.portM_regs ..), hacts'.linkState, h.up]
  have hwmem : w.mem = s.mem := by rw [hw, State.portM_mem, hacts'.mem]
  rw [hport'] at hwport
  rw [← hw]
  have hsend := w.linkPump_sends l
  obtain ⟨e, he, het, hes, heb⟩ := w.linkPump_responds l y hwup (by rw [hwport]; exact h.loop)
    (by rw [hwport]; exact List.mem_append_right _ (.head _)) (by
      rw [hwport, LinkPort.waiting, LinkPort.responds]
      dsimp only
      rw [List.length_append, List.length_singleton]
      omega)
  refine ⟨⟨e, he, het.trans htyp, hes.trans hsub, heb.trans hbody⟩, ?_, hsend.linkState.trans hwup, hsend.mem.trans hwmem⟩
  rw [hsend.port.same, hwport]
  rfl

/-! ### A write request (R402), whatever acknowledgement it carries -/

theorem LinkPort.emit_sends (p : LinkPort) (seq : Nat) (c : TxCell) : p.Sends (p.emit seq c) := ⟨rfl, List.prefix_append _ _⟩

theorem LinkPort.replayed_same (p : LinkPort) (now : Nat) : (p.replayed now).expect = p.expect ∧ (p.replayed now).bad = p.bad ∧
    (p.replayed now).reqIn = p.reqIn ∧ (p.replayed now).ops = p.ops := by
  have hsends : p.Sends (p.replay.foldl (fun q e => q.emit e.1 e.2) p) :=
    foldl_keeps (fun q => p.Sends q) _ (fun q e hq => hq.trans (q.emit_sends e.1 e.2)) _ _ (.refl p)
  unfold LinkPort.replayed
  dsimp only
  rw [hsends.same]
  exact ⟨rfl, rfl, rfl, rfl⟩

/-- What the acknowledgement and the NAK of a cell leave of the receiver: all, or with the link down nothing that waits. -/
structure State.Receives (l : Fin 4) (s t : State) : Prop where
  mem : t.mem = s.mem
  idle : (s.port l).reqIn = [] → (t.port l).reqIn = []
  tags : ∀ q, t.tagsHeld q ≤ s.tagsHeld q
  kept : t.linkState l = 2 → (t.port l).expect = (s.port l).expect ∧ (t.port l).bad = (s.port l).bad

theorem State.Receives.trans {l : Fin 4} {s t u : State} (h1 : State.Receives l s t) (h2 : State.Receives l t u)
    (hst : u.linkState l = 2 → t.linkState l = 2) : State.Receives l s u where
  mem := h2.mem.trans h1.mem
  idle h := h2.idle (h1.idle h)
  tags q := Nat.le_trans (h2.tags q) (h1.tags q)
  kept h := ⟨(h2.kept h).1.trans (h1.kept (hst h)).1, (h2.kept h).2.trans (h1.kept (hst h)).2⟩

theorem State.tagsHeld_of_same {s t : State} (hx : t.xbar = s.xbar) (hops : ∀ k, (t.port k).ops = (s.port k).ops) (q : Nat → Bool) :
    t.tagsHeld q ≤ s.tagsHeld q := State.tagsHeld_le hx (fun k p => by rw [hops k]) q

theorem LinkPort.acked_same (p : LinkPort) (a : Nat) : ∃ r n, p.acked a = { p with replay := r, rounds := n } := by
  unfold LinkPort.acked
  split
  · exact ⟨_, _, rfl⟩
  · exact ⟨p.replay, p.rounds, rfl⟩

theorem State.cellAcks_receives (s : State) (l : Fin 4) (c : BitVec 256) :
    State.Receives l s (s.cellAcks l c) ∧ (s.cellAcks l c).linkState l = s.linkState l := by
  obtain ⟨f, hf, hacks⟩ : ∃ f : LinkPort → LinkPort, (∀ p, ∃ r n, f p = { p with replay := r, rounds := n }) ∧
      s.cellAcks l c = (s.portM l f).cellCredit l c := by
    refine ⟨fun p => if cellCtl c 23 1 = 1 then p.acked (cellCtl c 24 8) else p, fun p => ?_, rfl⟩
    by_cases h : cellCtl c 23 1 = 1
    · simp only [if_pos h]; exact p.acked_same _
    · simp only [if_neg h]; exact ⟨p.replay, p.rounds, rfl⟩
  obtain ⟨r, n, hfp⟩ := hf (s.port l)
  rw [hacks]
  refine ⟨⟨rfl, fun h => ?_, State.tagsHeld_of_same rfl (s.portM_ops l f (by rw [hfp])), fun _ => ?_⟩, State.cellCredit_linkState _ l c⟩
  · rw [State.cellCredit_port, State.portM_port, hfp]
    exact h
  · rw [State.cellCredit_port, State.portM_port, hfp]
    exact ⟨rfl, rfl⟩

theorem State.linkDown_xbar (s : State) (l : Fin 4) : (s.linkDown l).xbar = s.xbar := by
  have hlost (up : Bool) (n : Nat) (x : Bool) : ((s.linkOff l).linkLost l up n x).xbar = s.xbar := by
    unfold State.linkLost
    split
    · rw [State.raiseIf_xbar, State.raiseN_xbar, State.raise_xbar]
      rfl
    · rfl
  by_cases h : s.linkState l = 0
  · rw [s.linkDown_of_down l h]
  · obtain ⟨n, x, k, heq⟩ := s.linkDown_eq l h
    rw [heq]
    cases k
    · exact hlost _ n x
    · exact hlost _ n x

theorem State.linkLost_ports (s : State) (l : Fin 4) (up : Bool) (n : Nat) (x : Bool) (k : Fin 4) : (s.linkLost l up n x).port k = s.port k := by
  unfold State.linkLost
  split
  · rw [State.raiseIf_port, State.raiseN_port, State.raise_port]
  · rfl

/-- The accesses of a lost link are done; those of the others stay. -/
theorem State.linkDown_ops (s : State) (l k : Fin 4) (h : s.linkState l ≠ 0) :
    ((s.linkDown l).port k).ops = if k = l then (s.port l).lost.ops else (s.port k).ops := by
  have hoff : ((s.linkOff l).port k).ops = if k = l then (s.port l).lost.ops else (s.port k).ops := by
    split
    · next hk => rw [hk, State.linkOff_port]
    · next hk => exact congrArg LinkPort.ops (upd_get_other _ l k _ hk)
  obtain ⟨n, x, b, heq⟩ := s.linkDown_eq l h
  rw [heq]
  cases b
  · rw [if_neg Bool.false_ne_true, State.linkLost_ports]
    exact hoff
  · rw [if_pos rfl, State.portM_ops _ l _ rfl, State.linkLost_ports]
    exact hoff

theorem LinkPort.lost_tags (p : LinkPort) (f : RemoteOp → Bool) : p.lost.ops.countP (fun o => o.stage.inFlight && f o) = 0 := by
  rw [List.countP_eq_zero]
  intro o ho
  obtain ⟨x, -, rfl⟩ := List.mem_map.1 ho
  cases hx : x.stage with
  | done ok d => simp [RemoteStage.inFlight, hx]
  | stalled => simp [RemoteStage.inFlight]
  | queued => simp [RemoteStage.inFlight]
  | sent n => simp [RemoteStage.inFlight]

theorem State.linkDown_reqIn (s : State) (l : Fin 4) (h : s.linkState l ≠ 0) : ((s.linkDown l).port l).reqIn = [] := by
  obtain ⟨n, x, b, heq⟩ := s.linkDown_eq l h
  have hlost : (((s.linkOff l).linkLost l (s.linkState l == 2) n x).port l).reqIn = [] := by
    rw [State.linkLost_port, State.linkOff_port]
    rfl
  rw [heq]
  cases b
  · exact hlost
  · rw [if_pos rfl, State.portM_port]
    exact hlost

theorem State.linkDown_receives (s : State) (l : Fin 4) (h : s.linkState l = 2) : State.Receives l s (s.linkDown l) where
  mem := s.linkDown_mem l
  idle _ := s.linkDown_reqIn l (by rw [h]; decide)
  tags := State.tagsHeld_le (s.linkDown_xbar l) fun k f => by
    rw [s.linkDown_ops l k (by rw [h]; decide)]
    split
    · rw [LinkPort.lost_tags]
      exact Nat.zero_le _
    · exact Nat.le_refl _
  kept hst := absurd hst (by rw [State.linkDown_linkState]; decide)

theorem State.replaySent_receives (s : State) (l : Fin 4) : State.Receives l s (s.replaySent l) := by
  obtain ⟨hexp, hbad, hreq, hops⟩ := (s.port l).replayed_same s.now
  have hport := s.replaySent_port l
  refine ⟨s.replaySent_mem l, fun h => by rw [hport, hreq, h], State.tagsHeld_of_same ?_ fun k => ?_, fun _ => by rw [hport, hexp, hbad]; exact ⟨rfl, rfl⟩⟩
  · rw [State.replaySent, State.portM_xbar, State.inc32_xbar, State.raise_xbar]
  · by_cases hk : k = l
    · rw [hk, hport, hops]
    · rw [State.replaySent]
      refine (congrArg LinkPort.ops (upd_get_other _ l k _ hk)).trans ?_
      show (((s.raise (Ev.LINK_L_FLAGS_REPLAY l)).inc32 (Reg.LINK_L_REPLAYCNT l)).port k).ops = _
      rw [State.port_of_link (State.inc32_link ..), State.raise_port]

theorem State.cellNak_receives (s : State) (l : Fin 4) (c : BitVec 256) (hup : s.linkState l = 2) : State.Receives l s (s.cellNak l c) := by
  unfold State.cellNak
  split
  · by_cases hr : (s.port l).replay = []
    · rw [show s.linkReplay l = s from if_pos (by rw [List.isEmpty_iff]; exact hr)]
      exact ⟨rfl, id, fun _ => Nat.le_refl _, fun _ => ⟨rfl, rfl⟩⟩
    · have hst := (s.replaySent_linkState l).trans hup
      rw [s.linkReplay_eq l hr]
      split
      · exact (s.replaySent_receives l).trans (State.linkDown_receives _ l hst) fun _ => hst
      · exact s.replaySent_receives l
  · exact ⟨rfl, id, State.tagsHeld_of_same rfl fun _ => rfl, fun _ => ⟨rfl, rfl⟩⟩

theorem State.cellControl_receives (s : State) (l : Fin 4) (c : BitVec 256) (hup : s.linkState l = 2) :
    State.Receives l s (s.cellControl l c) := by
  obtain ⟨hacks, hst⟩ := s.cellAcks_receives l c
  have hst' := hst.trans hup
  exact hacks.trans (State.cellNak_receives _ l c hst') fun _ => hst'

/-- The payload of a cell, the bits below its LEN cleared. -/
def cellPayload (c : BitVec 256) : Nat := cut c.toNat 16 224 / 2 ^ (224 - cellLen c) * 2 ^ (224 - cellLen c)

/-- A byte of the data that a cell carries, as a write of at most eight bytes stores it. -/
theorem payload_byte (x n i : Nat) (hn : n ≤ 8) (hi : i < n) :
    BitVec.ofNat 8 (cut x 0 128 % 2 ^ (8 * n) / 256 ^ i) = BitVec.ofNat 8 (cut x (8 * i) 8) := by
  refine BitVec.eq_of_getLsbD_eq fun j hj => ?_
  rw [BitVec.getLsbD_ofNat, BitVec.getLsbD_ofNat, show 256 = 2 ^ 8 from rfl, ← Nat.pow_mul, Nat.testBit_div_two_pow, Nat.testBit_mod_two_pow,
    testBit_cut, testBit_cut, Nat.zero_add, decide_eq_true (show j + 8 * i < 8 * n by omega), decide_eq_true (show j + 8 * i < 128 by omega),
    decide_eq_true hj, Nat.add_comm, Bool.true_and]

theorem State.cellWr_stores (l : Fin 4) (z : LaneBits) (c : BitVec 256) (i : Fin 8) (s : State) (h : s.Brings l z c) (htype : cellType c = 3)
    (hseq : cellSeq c = (s.port l).expect) (hr : region (cellBody c 160 32) = .sram)
    (hsize : cellBody c 152 8 = 1 ∨ cellBody c 152 8 = 2 ∨ cellBody c 152 8 = 4 ∨ cellBody c 152 8 = 8)
    (hal : cellBody c 160 32 % cellBody c 152 8 = 0) (hi : i.val < cellBody c 152 8) (hidle : (s.port l).reqIn = [])
    (htag : s.tagFree (7 + l.val) = true) : Answers (.cellWr l z) s fun t =>
      Memory.read t.mem (cellBody c 160 32 + i.val) = BitVec.ofNat 8 (cellBody c (8 * i.val) 8) ∧
        SameMemoryBut (cellBody c 160 32) (cellBody c 152 8) s t ∧
      (t.linkState l = 2 → (t.port l).expect = ((s.port l).expect + 1) % 256 ∧ (t.port l).bad = 0) := by
  refine ⟨_, rfl, ?_⟩
  rw [h.arrive, htype, beq_self_eq_true, State.cellIn_accepted _ l c _ (by rw [State.cellTaken_classError, h.good]) (by rw [htype]; rfl)
    (by rw [State.cellTaken_expect, hseq])]
  have hacts : State.ActsOn l s ((s.cellTaken l z).cellAccepted l) := (s.cellTaken_actsOn l z).trans (State.portM_actsOn _ l _ rfl)
  obtain ⟨x, k, htaken⟩ := s.cellTaken_port l z
  have hport : ((s.cellTaken l z).cellAccepted l).port l = { s.port l with
      sent := [], line := ⟨[], []⟩, rxRun := x, rxHalf := k, expect := ((s.port l).expect + 1) % 256, accepted := true, bad := 0
      nakAt := none, ackDue := true } := by
    rw [State.cellAccepted, State.portM_port, htaken]
  generalize (s.cellTaken l z).cellAccepted l = u at hacts hport
  have hrec := u.cellControl_receives l c (hacts.linkState.trans h.up)
  have hcidle : ((u.cellControl l c).port l).reqIn = [] := hrec.idle (by rw [hport]; exact hidle)
  have hctag : (u.cellControl l c).tagFree (7 + l.val) = true := State.tagFree_of_le hrec.tags (by rw [hacts.tagFree, htag])
  have hcmem := hrec.mem.trans hacts.mem
  have hckept := hrec.kept
  rw [hport] at hckept
  generalize u.cellControl l c = v at hcidle hctag hcmem hckept
  have htaken' := v.requestTaken_actsOn l c
  have hport' := v.requestTaken_port l c hcidle
  rw [v.requestIn_of_free l c hcidle hctag, if_neg (by rw [htype]; decide)]
  generalize v.requestTaken l c = w at htaken' hport'
  obtain ⟨a, ha⟩ : ∃ a, cellBody c 160 32 = a := ⟨_, rfl⟩
  obtain ⟨n, hn⟩ : ∃ n, cellBody c 152 8 = n := ⟨_, rfl⟩
  have hdata : BitVec.ofNat 8 (cellBody c 0 128 % 2 ^ (8 * n) / 256 ^ i.val) = BitVec.ofNat 8 (cellBody c (8 * i.val) 8) :=
    payload_byte (cellPayload c) n i.val (by omega) (by omega)
  generalize hd : cellBody c 0 128 = d at hdata
  generalize cellBody c (8 * i.val) 8 = b at hdata ⊢
  rw [ha] at hr hal ⊢
  rw [hn] at hsize hal hi ⊢
  rw [w.wrreq_sram l c a n d ha hn hd hr hsize hal]
  obtain ⟨y, hy⟩ : ∃ y, y = (w.farStored a n (d % 2 ^ (8 * n))).portM l fun p => p.responds (writeResp a true) := ⟨_, rfl⟩
  have hymem : y.mem = Memory.writeLE w.mem a n (d % 2 ^ (8 * n)) := by rw [hy]; rfl
  have hyport : y.port l = (w.port l).responds (writeResp a true) := by rw [hy, State.portM_port]; rfl
  have hyst : y.linkState l = w.linkState l := by rw [hy]; rfl
  rw [← hy]
  have hsend := y.linkPump_sends l
  have hwmem : w.mem = s.mem := htaken'.mem.trans hcmem
  refine ⟨?_, fun e he => ?_, fun hst => ?_⟩
  · rw [hsend.mem, hymem, Memory.read_writeLE_of_inside n _ _ _ _ hi, hdata]
  · rw [hsend.mem, hymem, Memory.read_writeLE_of_outside n _ _ _ _ he, hwmem]
  · rw [hsend.linkState, hyst, htaken'.linkState] at hst
    obtain ⟨hexp, hbad⟩ := hckept hst
    rw [hsend.port.same, hyport, hport']
    exact ⟨hexp, hbad⟩

end Sys2Proof.Machine

/-! SUPPORT. O51, the third part: stream cells (R409), and what a cell that is sent spells (R394–R396). -/
namespace Sys2Proof.Machine

set_option Elab.async false

/-! ### A main-filter result (R409) -/

/-- The state in which a stream cell that waited for nothing is written. -/
def State.streamTaken (s : State) (l : Fin 4) (c : BitVec 256) (n : Nat) : State :=
  (s.portM l fun p => { p with strIn := p.strIn ++ [(c, n)] }).portM l fun p => { p with strIn := [] }

theorem State.streamTaken_rd (s : State) (l : Fin 4) (c : BitVec 256) (n a : Nat) : (s.streamTaken l c n).rd a = s.rd a := rfl

theorem State.streamTaken_get (s : State) (l : Fin 4) (c : BitVec 256) (n : Nat) (f : Fld) : (s.streamTaken l c n).get f = s.get f := rfl

theorem State.streamTaken_mem (s : State) (l : Fin 4) (c : BitVec 256) (n : Nat) : (s.streamTaken l c n).mem = s.mem := rfl

theorem stream_channel {x : Nat} {k : Fin 8} (h : x % 8 = k.val) : Fin.ofNat 8 x = k := Fin.ext h

theorem stream_kind {x : Nat} {k : Fin 8} (h : x % 16 = k.val) : x.testBit 3 = false := by
  rw [Nat.testBit_eq_decide_div_mod_eq, decide_eq_false_iff_not]
  omega

theorem State.streamIn_of_idle (s : State) (l : Fin 4) (c : BitVec 256) (k : Fin 8) (hk : cellSub c % 16 = k.val)
    (hen : s.on (Fd.LINK_SRX_CFG_EN l k) = true) (hidle : (s.port l).strIn = []) (htag : s.tagFree (7 + l.val) = true) :
    s.streamIn l c = ((s.inc32 (Reg.LINK_SRX_CNT l k)).streamTaken l c (s.rdN (Reg.LINK_SRX_CNT l k))).resultIn l k c := by
  have hch : Fin.ofNat 8 (cellSub c) = k := stream_channel (by omega)
  have hbit := stream_kind hk
  have hidle' : ((s.inc32 (Reg.LINK_SRX_CNT l k)).port l).strIn = [] := by rw [State.port_of_link (State.inc32_link ..), hidle]
  unfold State.streamIn
  dsimp only
  rw [hch, hen, if_neg (by decide), hidle', List.length_nil, State.streamDrain, hidle', if_neg (by rw [List.length_nil]; decide)]
  have hq (n : Nat) : (((s.inc32 (Reg.LINK_SRX_CNT l k)).portM l fun p => { p with strIn := p.strIn ++ [(c, n)] }).port l).strIn = [(c, n)] := by
    rw [State.portM_port]
    dsimp only
    rw [hidle', List.nil_append]
  have hfree (n : Nat) : ((s.inc32 (Reg.LINK_SRX_CNT l k)).portM l fun p => { p with strIn := p.strIn ++ [(c, n)] }).tagFree (7 + l.val) = true := by
    rw [(State.portM_actsOn _ l _ rfl).tagFree, ← htag]
    exact State.tagFree_congr rfl (fun i => by rw [State.port_of_link (State.inc32_link ..)]) _
  rw [hq, List.length_singleton, State.streamDrain, hq]
  dsimp only
  rw [if_pos (hfree _), hch, hbit, if_neg (by decide)]
  rfl

theorem cellBody_lt (c : BitVec 256) (lo w : Nat) : cellBody c lo w < 2 ^ w := cut_lt_two_pow _ _ _

theorem State.memWr_word (s : State) (a n v x : Nat) : (s.memWr a n v).rd x = s.rd x := rfl

/-- Where a channel's results go. -/
def State.resultAddr (s : State) (l : Fin 4) (k : Fin 8) : Nat :=
  0x24010000 + 0x40000 * s.get (Fd.LINK_SRX_CFG_RK l k) + s.get (Fd.LINK_SRX_BASE_ADDR l k) % 2 ^ 16 / 8 * 8

theorem State.resultIn_eq (s : State) (l : Fin 4) (k : Fin 8) (c : BitVec 256) (b : Nat) (hb : cellBody c 160 32 = b) :
    ∃ w, s.resultIn l k c = s.memWr (s.resultAddr l k) 8 (b + 2 ^ 32 * w) := by
  refine ⟨cellBody c 127 1 + 2 * cellBody c 128 31, ?_⟩
  unfold State.resultIn State.resultAddr
  dsimp only
  rw [hb]

theorem State.cellStream_writes (l : Fin 4) (z : LaneBits) (c : BitVec 256) (k : Fin 8) (s : State) (h : s.Brings l z c)
    (htype : cellType c = 6) (hseq : cellSeq c = (s.port l).expect) (hctl : cellCtl c 22 2 = 0) (hk : cellSub c % 16 = k.val)
    (hen : s.on (Fd.LINK_SRX_CFG_EN l k) = true) (hidle : (s.port l).strIn = []) (htag : s.tagFree (7 + l.val) = true) :
    Answers (.cellStream l z.lane0 z.lane1) s fun t =>
      t.memRd (s.resultAddr l k) 4 = cellBody c 160 32 ∧ SameMemoryBut (s.resultAddr l k) 8 s t ∧
      t.rd (Reg.LINK_SRX_CNT l k) = s.rd (Reg.LINK_SRX_CNT l k) + 1 := by
  refine ⟨_, rfl, ?_⟩
  obtain ⟨x, y, hport⟩ := s.numberedIn_port l z c
  have hacts := s.numberedIn_actsOn l z c
  rw [h.numbered (fun c s => s.streamIn l c) 6 htype rfl hseq hctl]
  generalize s.numberedIn l z c = u at hport hacts
  have hne := (show ∀ l : Fin 4, ∀ k : Fin 8, Reg.LINK_SRX_CFG l k ≠ Reg.LINK_L_STATUS l ∧ Reg.LINK_SRX_BASE l k ≠ Reg.LINK_L_STATUS l ∧
    Reg.LINK_SRX_CNT l k ≠ Reg.LINK_L_STATUS l ∧ Reg.LINK_SRX_CFG l k ≠ Reg.LINK_SRX_CNT l k ∧
    Reg.LINK_SRX_BASE l k ≠ Reg.LINK_SRX_CNT l k by decide) l k
  obtain ⟨hcfg, hbase, hcnt, hcfg', hbase'⟩ := hne
  have huen : u.on (Fd.LINK_SRX_CFG_EN l k) = true := by
    unfold State.on
    rw [hacts.get _ hcfg]
    exact hen
  rw [u.streamIn_of_idle l c k hk huen (by rw [hport]; exact hidle) (by rw [hacts.tagFree, htag])]
  obtain ⟨v, hv⟩ : ∃ v, v = (u.inc32 (Reg.LINK_SRX_CNT l k)).streamTaken l c (u.rdN (Reg.LINK_SRX_CNT l k)) := ⟨_, rfl⟩
  have hvget (f : Fld) (hf : f.addr ≠ Reg.LINK_SRX_CNT l k) (hs : f.addr ≠ Reg.LINK_L_STATUS l) : v.get f = s.get f := by
    rw [hv, State.streamTaken_get, State.get_inc32_other _ _ _ hf, hacts.get f hs]
  have haddr : v.resultAddr l k = s.resultAddr l k := by
    unfold State.resultAddr
    rw [hvget _ hcfg' hcfg, hvget _ hbase' hbase]
  have hvmem : v.mem = s.mem := by rw [hv, State.streamTaken_mem, State.inc32_mem, hacts.mem]
  have hvrd : v.rd (Reg.LINK_SRX_CNT l k) = s.rd (Reg.LINK_SRX_CNT l k) + 1 := by
    rw [hv, State.streamTaken_rd, State.rd_inc32_same, hacts.rd _ hcnt]
  obtain ⟨w, hw⟩ := v.resultIn_eq l k c _ rfl
  have hb : cellBody c 160 32 < 2 ^ 32 := cellBody_lt c 160 32
  rw [← hv, hw, haddr]
  clear hw haddr
  generalize s.resultAddr l k = a
  have hsend := (v.memWr a 8 (cellBody c 160 32 + 2 ^ 32 * w)).linkPump_sends l
  have hmem := hsend.mem
  have hrd := hsend.rd _ hcnt
  generalize (v.memWr a 8 (cellBody c 160 32 + 2 ^ 32 * w)).linkPump l = t at hmem hrd
  have hrd' : t.rd (Reg.LINK_SRX_CNT l k) = s.rd (Reg.LINK_SRX_CNT l k) + 1 := hrd.trans ((State.memWr_word _ _ _ _ _).trans hvrd)
  generalize cellBody c 160 32 = b at hb hmem ⊢
  refine ⟨?_, fun e he => ?_, hrd'⟩
  · rw [State.memRd_of_mem_eq hmem, State.memRd_memWr_prefix _ _ _ (by decide), show 256 ^ 4 = 2 ^ 32 from rfl, Nat.add_mul_mod_self_left,
      Nat.mod_eq_of_lt hb]
  · rw [hmem, State.memWr_sameMemoryBut _ _ _ _ e he, hvmem]

theorem State.streamDrain_of_full (l : Fin 4) (n : Nat) (s : State) (h : s.tagFree (7 + l.val) = false) : State.streamDrain l n s = s := by
  cases n with
  | zero => rfl
  | succ n =>
    unfold State.streamDrain
    split
    · rfl
    · exact if_neg (by rw [h]; decide)

theorem State.streamIn_of_full (s : State) (l : Fin 4) (c : BitVec 256) (k : Fin 8) (hk : cellSub c % 8 = k.val)
    (hen : s.on (Fd.LINK_SRX_CFG_EN l k) = true) (hfull : 16 ≤ (s.port l).strIn.length) (htag : s.tagFree (7 + l.val) = false) :
    s.streamIn l c = (s.inc32 (Reg.LINK_SRX_CNT l k)).raise (Ev.LINK_L_FLAGS_STRMOVF l) := by
  have hch : Fin.ofNat 8 (cellSub c) = k := stream_channel hk
  have htag' : (s.inc32 (Reg.LINK_SRX_CNT l k)).tagFree (7 + l.val) = false := by
    rw [← htag]
    exact State.tagFree_congr rfl (fun i => by rw [State.port_of_link (State.inc32_link ..)]) _
  unfold State.streamIn
  dsimp only
  rw [hch, hen, if_neg (by decide), State.streamDrain_of_full _ _ _ htag', State.port_of_link (State.inc32_link ..), if_pos hfull]

theorem State.cellStream_drops (l : Fin 4) (z : LaneBits) (c : BitVec 256) (k : Fin 8) (s : State) (h : s.Brings l z c)
    (htype : cellType c = 6) (hseq : cellSeq c = (s.port l).expect) (hctl : cellCtl c 22 2 = 0) (hk : cellSub c % 8 = k.val)
    (hen : s.on (Fd.LINK_SRX_CFG_EN l k) = true) (hfull : 16 ≤ (s.port l).strIn.length) (htag : s.tagFree (7 + l.val) = false) :
    Answers (.cellStream l z.lane0 z.lane1) s fun t =>
      t.flag (Ev.LINK_L_FLAGS_STRMOVF l) = true ∧ t.rd (Reg.LINK_SRX_CNT l k) = s.rd (Reg.LINK_SRX_CNT l k) + 1 ∧ t.mem = s.mem := by
  refine ⟨_, rfl, ?_⟩
  obtain ⟨x, y, hport⟩ := s.numberedIn_port l z c
  have hacts := s.numberedIn_actsOn l z c
  rw [h.numbered (fun c s => s.streamIn l c) 6 htype rfl hseq hctl]
  generalize s.numberedIn l z c = u at hport hacts
  have hne := (show ∀ l : Fin 4, ∀ k : Fin 8, Reg.LINK_SRX_CFG l k ≠ Reg.LINK_L_STATUS l ∧ Reg.LINK_SRX_CNT l k ≠ Reg.LINK_L_STATUS l ∧
    Reg.LINK_SRX_CNT l k ≠ Reg.LINK_L_FLAGS l ∧ Reg.LINK_SRX_CNT l k ≠ (Ev.LINK_L_FLAGS_STRMOVF l).cnt ∧
    (Ev.LINK_L_FLAGS_STRMOVF l).cnt ≠ (Ev.LINK_L_FLAGS_STRMOVF l).addr ∧ Reg.LINK_L_FLAGS l ≠ Reg.LINK_L_STATUS l by decide) l k
  obtain ⟨hcfg, hcnt, hflags, hevent, hflag, hstatus⟩ := hne
  have huen : u.on (Fd.LINK_SRX_CFG_EN l k) = true := by
    unfold State.on
    rw [hacts.get _ hcfg]
    exact hen
  rw [u.streamIn_of_full l c k hk huen (by rw [hport]; exact hfull) (by rw [hacts.tagFree, htag])]
  have hsend := ((u.inc32 (Reg.LINK_SRX_CNT l k)).raise (Ev.LINK_L_FLAGS_STRMOVF l)).linkPump_sends l
  refine ⟨(hsend.flag _ hstatus).trans (State.flag_raise _ _ hflag (show 7 < 32 by decide)), ?_, ?_⟩
  · refine (hsend.rd _ hcnt).trans ?_
    rw [State.rd_raise_other _ _ _ hflags hevent, State.rd_inc32_same, hacts.rd _ hcnt]
  · refine hsend.mem.trans ?_
    rw [State.raise_mem, State.inc32_mem, hacts.mem]

/-! ### What a cell that is sent spells (R394–R396) -/

theorem crc16Bit_lt (c : Nat) (b : Bool) : crc16Bit c b < 2 ^ 16 := by
  unfold crc16Bit
  dsimp only
  have hlt : c * 2 % 65536 < 2 ^ 16 := Nat.mod_lt _ (by decide)
  split
  · exact Nat.xor_lt_two_pow hlt (by decide)
  · exact hlt

theorem crc16_lt (v n : Nat) : crc16 v n < 2 ^ 16 :=
  foldl_keeps (fun c => c < 2 ^ 16) _ (fun c _ _ => crc16Bit_lt c _) _ _ (by decide)

/-- The parts of a cell as a number, the least part the CRC. -/
theorem encodeCell_parts (p : LinkPort) (seq : Nat) (nak : Bool) (c : TxCell) : ∃ a q r, a < 2 ^ 9 ∧ q < 256 ∧ r < 2 ^ 16 ∧
    (encodeCell p seq nak c).toNat = ((((c.typ % 16) * 2 ^ 8 + q) * 2 ^ 36 + (a * 2 ^ 23 + nak.toNat * 2 ^ 22 + c.cred % 16 * 2 ^ 18 +
      c.len % 256 * 2 ^ 8 + c.sub % 256)) * 2 ^ 192 + c.body % 2 ^ 192) * 2 ^ 16 + r := by
  have hnak := nak.toNat_lt
  have hbody : c.body % 2 ^ 192 < 2 ^ 192 := Nat.mod_lt _ (by decide)
  refine ⟨if p.accepted then (p.expect + 255) % 256 * 2 + 1 else 0, seq % 256,
    crc16 (c.typ % 16 * 2 ^ 236 + seq % 256 * 2 ^ 228 + ((if p.accepted then (p.expect + 255) % 256 * 2 ^ 24 + 2 ^ 23 else 0) + nak.toNat * 2 ^ 22 +
      c.cred % 16 * 2 ^ 18 + c.len % 256 * 2 ^ 8 + c.sub % 256) * 2 ^ 192 + c.body % 2 ^ 192) 240, ?_, Nat.mod_lt _ (by decide), crc16_lt _ _, ?_⟩
  · split <;> omega
  · unfold encodeCell
    dsimp only
    rw [BitVec.toNat_ofNat]
    have hcrc := crc16_lt (c.typ % 16 * 2 ^ 236 + seq % 256 * 2 ^ 228 + ((if p.accepted then (p.expect + 255) % 256 * 2 ^ 24 + 2 ^ 23 else 0) +
      nak.toNat * 2 ^ 22 + c.cred % 16 * 2 ^ 18 + c.len % 256 * 2 ^ 8 + c.sub % 256) * 2 ^ 192 + c.body % 2 ^ 192) 240
    generalize crc16 _ 240 = r at hcrc ⊢
    generalize c.body % 2 ^ 192 = b at hbody ⊢
    split <;> omega

end Sys2Proof.Machine

/-! SUPPORT. O51, the last part: the exchange's cells (R405), MARK cells (R407), and the obligation. -/
namespace Sys2Proof.Machine

set_option Elab.async false

/-! ### The fields of a cell that is sent -/

theorem cellType_encode (p : LinkPort) (seq : Nat) (nak : Bool) (c : TxCell) : cellType (encodeCell p seq nak c) = c.typ % 16 := by
  obtain ⟨a, q, r, ha, hq, hr, h⟩ := encodeCell_parts p seq nak c
  have hnak := nak.toNat_lt
  have hbody : c.body % 2 ^ 192 < 2 ^ 192 := Nat.mod_lt _ (by decide)
  unfold cellType cut
  rw [h, Nat.shiftRight_eq_div_pow]
  generalize c.body % 2 ^ 192 = b at hbody ⊢
  omega

theorem cellSub_encode (p : LinkPort) (seq : Nat) (nak : Bool) (c : TxCell) : cellSub (encodeCell p seq nak c) = c.sub % 256 := by
  obtain ⟨a, q, r, ha, hq, hr, h⟩ := encodeCell_parts p seq nak c
  have hnak := nak.toNat_lt
  have hbody : c.body % 2 ^ 192 < 2 ^ 192 := Nat.mod_lt _ (by decide)
  unfold cellSub cellCtl cut
  rw [h, Nat.shiftRight_eq_div_pow]
  generalize c.body % 2 ^ 192 = b at hbody ⊢
  omega

theorem cellLen_encode (p : LinkPort) (seq : Nat) (nak : Bool) (c : TxCell) : cellLen (encodeCell p seq nak c) = c.len % 256 := by
  obtain ⟨a, q, r, ha, hq, hr, h⟩ := encodeCell_parts p seq nak c
  have hnak := nak.toNat_lt
  have hbody : c.body % 2 ^ 192 < 2 ^ 192 := Nat.mod_lt _ (by decide)
  unfold cellLen cellCtl cut
  rw [h, Nat.shiftRight_eq_div_pow]
  generalize c.body % 2 ^ 192 = b at hbody ⊢
  omega

/-- The payload of a cell that is sent ends in its body. -/
theorem payload_encode (p : LinkPort) (seq : Nat) (nak : Bool) (c : TxCell) :
    ∃ k, cut (encodeCell p seq nak c).toNat 16 224 = k * 2 ^ 192 + c.body % 2 ^ 192 := by
  obtain ⟨a, q, r, ha, hq, hr, h⟩ := encodeCell_parts p seq nak c
  have hnak := nak.toNat_lt
  have hbody : c.body % 2 ^ 192 < 2 ^ 192 := Nat.mod_lt _ (by decide)
  refine ⟨a * 2 ^ 23 + nak.toNat * 2 ^ 22 + c.cred % 16 * 2 ^ 18 + c.len % 256 * 2 ^ 8 + c.sub % 256, ?_⟩
  unfold cut
  rw [h, Nat.shiftRight_eq_div_pow]
  generalize c.body % 2 ^ 192 = b at hbody ⊢
  omega

/-- The three words of the exchange in a body, each in its place. -/
def exchangeBody (a b d : Nat) : Nat := a * 2 ^ 128 + b * 2 ^ 64 + d * 2 ^ 32

theorem cellBody_encode (p : LinkPort) (seq : Nat) (nak : Bool) (c : TxCell) (a b d : Nat) (ha : a < 2 ^ 64) (hb : b < 2 ^ 64) (hd : d < 2 ^ 32)
    (hlen : c.len = 160 ∨ c.len = 192) (hbody : c.body = exchangeBody a b d) :
    cellBody (encodeCell p seq nak c) 128 64 = a ∧ cellBody (encodeCell p seq nak c) 64 64 = b ∧
      (c.len = 192 → cellBody (encodeCell p seq nak c) 32 32 = d) := by
  obtain ⟨k, hk⟩ := payload_encode p seq nak c
  have hl := cellLen_encode p seq nak c
  rw [hbody, exchangeBody] at hk
  unfold cellBody
  dsimp only
  rw [hk, hl]
  rcases hlen with hlen | hlen
  · rw [hlen, show 224 - 160 % 256 = 64 from rfl]
    unfold cut
    rw [Nat.shiftRight_eq_div_pow, Nat.shiftRight_eq_div_pow, Nat.shiftRight_eq_div_pow]
    refine ⟨by omega, by omega, by omega⟩
  · rw [hlen, show 224 - 192 % 256 = 32 from rfl]
    unfold cut
    rw [Nat.shiftRight_eq_div_pow, Nat.shiftRight_eq_div_pow, Nat.shiftRight_eq_div_pow]
    refine ⟨by omega, by omega, fun _ => by omega⟩

/-- An unsequenced cell stands among what the port has sent. -/
theorem LinkPort.sendUnseq_mem (p : LinkPort) (c : TxCell) : encodeCell { p with credRet := p.credRet - min 15 p.credRet } 0 p.nakDue
    { c with cred := min 15 p.credRet } ∈ (p.sendUnseq c).sent := List.mem_append_right _ (.head _)

/-! ### The exchange (R405) -/

/-- The state in which a cell of the exchange acts. -/
def State.exchangeIn (s : State) (l : Fin 4) (z : LaneBits) (c : BitVec 256) : State := ((s.cellTaken l z).cellGood l).cellCredit l c

theorem State.exchangeIn_actsOn (s : State) (l : Fin 4) (z : LaneBits) (c : BitVec 256) : State.ActsOn l s (s.exchangeIn l z c) :=
  ((s.cellTaken_actsOn l z).trans (State.portM_actsOn _ l _ rfl)).trans (State.cellCredit_actsOn _ l c)

theorem State.exchangeIn_port (s : State) (l : Fin 4) (z : LaneBits) (c : BitVec 256) : ∃ r k, (s.exchangeIn l z c).port l =
    { s.port l with sent := [], line := ⟨[], []⟩, rxRun := r, rxHalf := k, bad := 0 } := by
  obtain ⟨r, k, hport⟩ := s.cellTaken_port l z
  rw [State.exchangeIn, State.cellCredit_port, State.cellGood, State.portM_port, hport]
  exact ⟨r, k, rfl⟩

theorem State.Brings.exchange {s : State} {l : Fin 4} {z : LaneBits} {c : BitVec 256} (h : s.Brings l z c) (f : BitVec 256 → State → State)
    (n : Nat) (htype : cellType c = 7) (hsub : cellSub c % 4 = n) (hctl : cellCtl c 22 2 = 0) :
    (s.cellArrive l z never fun c s => s.cellIn l c (cellType c == 7 && cellSub c % 4 == n) (f c)) =
      ((f c (s.exchangeIn l z c)).linkShow l).linkPump l := by
  obtain ⟨hnak, hack⟩ := cellCtl_bits hctl
  rw [h.arrive, htype, hsub, beq_self_eq_true, beq_self_eq_true, Bool.true_and,
    State.cellIn_exchange _ l c _ (by rw [State.cellTaken_classError, h.good]) htype, State.cellAcks_of_none _ l c hack,
    State.cellNak_of_none _ l c hnak]
  rfl

/-- What the end of a cell's handling leaves: the port sends on, STATUS shows. -/
theorem State.shown_sends (s : State) (l : Fin 4) : State.LinkSends l s ((s.linkShow l).linkPump l) where
  port := ((s.linkShow l).linkPump_sends l).port
  regs := (s.linkShow_sameRegistersBut l).trans ((s.linkShow l).linkPump_sends l).regs
  status f hf := (((s.linkShow l).linkPump_sends l).status f hf).trans (s.linkShow_get l f (.inr hf))
  mem := ((s.linkShow l).linkPump_sends l).mem
  tbl := ((s.linkShow l).linkPump_sends l).tbl
  mon := ((s.linkShow l).linkPump_sends l).mon

theorem State.LinkSends.sent {l : Fin 4} {s t : State} (h : State.LinkSends l s t) {x : BitVec 256} (hx : x ∈ (s.port l).sent) :
    x ∈ (t.port l).sent := h.port.grows.subset hx

theorem State.ActsOn.upstream {l : Fin 4} {s t : State} (h : State.ActsOn l s t) : t.upstream l = s.upstream l := by
  have hne : Reg.TBL_CTRL ≠ Reg.LINK_L_STATUS l := (show ∀ l : Fin 4, Reg.TBL_CTRL ≠ Reg.LINK_L_STATUS l by decide) l
  unfold State.upstream State.follower
  rw [h.get Fd.TBL_CTRL_ROLE hne, h.get Fd.TBL_CTRL_LINKSEL hne]

theorem State.flag_raiseIf_set (s : State) {b : Bool} (hb : b = true) (e : EvFlag) (hcnt : e.cnt ≠ e.addr) (hbit : e.bit < 32) :
    (s.raiseIf b e).flag e = true := by
  rw [State.raiseIf, if_pos hb]
  exact s.flag_raise e hcnt hbit

theorem State.stamp16_lt (s : State) : s.stamp16 < 2 ^ 64 := by
  unfold State.stamp16 enc
  omega

theorem State.cellTbxReq_answers (l : Fin 4) (z : LaneBits) (c : BitVec 256) (s : State) (h : s.Brings l z c) (htype : cellType c = 7)
    (hsub : cellSub c % 4 = 0) (hctl : cellCtl c 22 2 = 0) (hlow : s.upstream l = true) : Answers (.cellTbxReq l z) s fun t =>
      (t.port l).lower = some (s.stamp16, s.stamp16) ∧ ((t.port l).sent.any fun x => decide (cellType x = 7 ∧ cellSub x = 1 ∧
        cellBody x 128 64 = s.stamp16 % 2 ^ 64 ∧ cellBody x 64 64 = s.stamp16 % 2 ^ 64)) = true ∧
      ((s.port l).lower.isSome = true → t.flag (Ev.LINK_L_FLAGS_XLOST l) = true) ∧ t.mem = s.mem := by
  refine ⟨_, rfl, ?_⟩
  obtain ⟨r, k, hport⟩ := s.exchangeIn_port l z c
  have hacts := s.exchangeIn_actsOn l z c
  rw [h.exchange (fun _ s => s.tbxReq l) 0 htype hsub hctl]
  generalize s.exchangeIn l z c = u at hport hacts
  have hstamp : u.stamp16 = s.stamp16 := State.stamp16_congr hacts.tbl
  have hlt := s.stamp16_lt
  rw [Nat.mod_eq_of_lt hlt]
  generalize s.stamp16 = x at hstamp hlt ⊢
  obtain ⟨v, hv⟩ : ∃ v, v = u.raiseIf (s.port l).lower.isSome (Ev.LINK_L_FLAGS_XLOST l) := ⟨_, rfl⟩
  have hvport : v.port l = u.port l := by rw [hv, State.raiseIf_port]
  have hvmem : v.mem = s.mem := by rw [hv, State.raiseIf_mem, hacts.mem]
  have hvflag : (s.port l).lower.isSome = true → v.flag (Ev.LINK_L_FLAGS_XLOST l) = true := by
    intro hb
    rw [hv]
    exact u.flag_raiseIf_set hb (Ev.LINK_L_FLAGS_XLOST l) ((show ∀ l : Fin 4, (Ev.LINK_L_FLAGS_XLOST l).cnt ≠ (Ev.LINK_L_FLAGS_XLOST l).addr by decide) l)
      (show 9 < 32 by decide)
  have heq : u.tbxReq l = v.portM l fun p =>
      ({ p with lower := some (x, x) }).sendUnseq { typ := 7, sub := 1, len := 160, body := x * 2 ^ 128 + x * 2 ^ 64 } := by
    unfold State.tbxReq
    rw [if_neg (by rw [hacts.upstream, hlow]; decide), hstamp, hv, hport]
  have hsend := (u.tbxReq l).shown_sends l
  have hne : Reg.LINK_L_FLAGS l ≠ Reg.LINK_L_STATUS l := (show ∀ l : Fin 4, Reg.LINK_L_FLAGS l ≠ Reg.LINK_L_STATUS l by decide) l
  have hq : (u.tbxReq l).port l = ({ v.port l with lower := some (x, x) }).sendUnseq
      { typ := 7, sub := 1, len := 160, body := x * 2 ^ 128 + x * 2 ^ 64 } := by rw [heq, State.portM_port]
  have hmem : (u.tbxReq l).mem = s.mem := by rw [heq, State.portM_mem, hvmem]
  have hflag : (s.port l).lower.isSome = true → (u.tbxReq l).flag (Ev.LINK_L_FLAGS_XLOST l) = true := by
    rw [heq, State.flag_of_regs (State.portM_regs ..)]
    exact hvflag
  refine ⟨?_, ?_, fun hb => (hsend.flag _ hne).trans (hflag hb), hsend.mem.trans hmem⟩
  · rw [hsend.port.same, hq]
    rfl
  · refine List.any_eq_true.2 ⟨_, hsend.sent (by rw [hq]; exact LinkPort.sendUnseq_mem _ _), decide_eq_true ?_⟩
    obtain ⟨h1, h2, -⟩ := cellBody_encode { v.port l with lower := some (x, x), credRet := (v.port l).credRet - min 15 (v.port l).credRet } 0
      (v.port l).nakDue { typ := 7, sub := 1, len := 160, body := x * 2 ^ 128 + x * 2 ^ 64, cred := min 15 (v.port l).credRet } x x 0 hlt hlt
      (by decide) (.inl rfl) (by unfold exchangeBody; rw [Nat.zero_mul, Nat.add_zero])
    exact ⟨cellType_encode _ _ _ _, cellSub_encode _ _ _ _, h1, h2⟩

theorem State.cellTbxResp_answers (l : Fin 4) (z : LaneBits) (c : BitVec 256) (x : Nat) (s : State) (h : s.Brings l z c) (htype : cellType c = 7)
    (hsub : cellSub c % 4 = 1) (hctl : cellCtl c 22 2 = 0) (hupper : (s.port l).upper = some x) (hx : x < 2 ^ 64) :
    Answers (.cellTbxResp l z) s fun t =>
      (t.port l).upper = none ∧ ((t.port l).sent.any fun y => decide (cellType y = 7 ∧ cellSub y = 2 ∧ cellBody y 128 64 = x ∧
        cellBody y 64 64 = s.stamp16 ∧ cellBody y 32 32 = s.rdN Reg.TBL_ADDFRAC)) = true ∧ t.mem = s.mem := by
  refine ⟨_, rfl, ?_⟩
  obtain ⟨r, k, hport⟩ := s.exchangeIn_port l z c
  have hacts := s.exchangeIn_actsOn l z c
  rw [h.exchange (fun _ s => s.tbxResp l) 1 htype hsub hctl]
  generalize s.exchangeIn l z c = u at hport hacts
  have hstamp : u.stamp16 = s.stamp16 := State.stamp16_congr hacts.tbl
  have hfrac : u.rdN Reg.TBL_ADDFRAC = s.rdN Reg.TBL_ADDFRAC := by
    unfold State.rdN
    rw [hacts.rd _ ((show ∀ l : Fin 4, Reg.TBL_ADDFRAC ≠ Reg.LINK_L_STATUS l by decide) l)]
  have hslt := s.stamp16_lt
  have hflt : s.rdN Reg.TBL_ADDFRAC < 2 ^ 32 := (s.rd Reg.TBL_ADDFRAC).isLt
  generalize s.stamp16 = t4 at hstamp hslt
  generalize s.rdN Reg.TBL_ADDFRAC = w at hfrac hflt
  have heq : u.tbxResp l = u.portM l fun p =>
      ({ p with upper := none }).sendUnseq { typ := 7, sub := 2, len := 192, body := x * 2 ^ 128 + t4 * 2 ^ 64 + w * 2 ^ 32 } := by
    unfold State.tbxResp
    rw [show (u.port l).upper = some x by rw [hport]; exact hupper, hstamp, hfrac]
  have hsend := (u.tbxResp l).shown_sends l
  have hq : (u.tbxResp l).port l = ({ u.port l with upper := none }).sendUnseq
      { typ := 7, sub := 2, len := 192, body := x * 2 ^ 128 + t4 * 2 ^ 64 + w * 2 ^ 32 } := by rw [heq, State.portM_port]
  have hmem : (u.tbxResp l).mem = s.mem := by rw [heq, State.portM_mem, hacts.mem]
  refine ⟨?_, ?_, hsend.mem.trans hmem⟩
  · rw [hsend.port.same, hq]
    rfl
  · refine List.any_eq_true.2 ⟨_, hsend.sent (by rw [hq]; exact LinkPort.sendUnseq_mem _ _), decide_eq_true ?_⟩
    obtain ⟨h1, h2, h3⟩ := cellBody_encode { u.port l with upper := none, credRet := (u.port l).credRet - min 15 (u.port l).credRet } 0
      (u.port l).nakDue { typ := 7, sub := 2, len := 192, body := x * 2 ^ 128 + t4 * 2 ^ 64 + w * 2 ^ 32, cred := min 15 (u.port l).credRet } x t4 w
      hx hslt hflt (.inr rfl) rfl
    exact ⟨cellType_encode _ _ _ _, cellSub_encode _ _ _ _, h1, h2, h3 rfl⟩

end Sys2Proof.Machine

/-! SUPPORT. O51, its end: the offset that the follower removes (R41), MARK cells (R407), and the obligation. -/
namespace Sys2Proof.Machine

set_option Elab.async false

/-! ### What a correction of the count leaves (R37, R41) -/

/-- `t` has the links, the memory and the addend of `s`. -/
structure State.Aside (s t : State) : Prop where
  link : t.link = s.link
  mem : t.mem = s.mem
  frac : t.rd Reg.TBL_ADDFRAC = s.rd Reg.TBL_ADDFRAC

theorem State.Aside.refl (s : State) : s.Aside s := ⟨rfl, rfl, rfl⟩

theorem State.Aside.trans {s t u : State} (h1 : s.Aside t) (h2 : t.Aside u) : s.Aside u :=
  ⟨h2.link.trans h1.link, h2.mem.trans h1.mem, h2.frac.trans h1.frac⟩

theorem State.aside_tblM (s : State) (f : Tbl → Tbl) : s.Aside (s.tblM f) := ⟨rfl, rfl, rfl⟩

theorem State.aside_wrN (s : State) (a v : Nat) (h : Reg.TBL_ADDFRAC ≠ a) : s.Aside (s.wrN a v) :=
  ⟨rfl, rfl, by rw [State.wrN, State.rd_wr, if_neg h]⟩

theorem State.aside_put (s : State) (f : Fld) (v : Nat) (h : Reg.TBL_ADDFRAC ≠ f.addr) : s.Aside (s.put f v) :=
  ⟨rfl, rfl, s.rd_put_other f v _ h⟩

theorem State.aside_raiseIf (s : State) (b : Bool) (e : EvFlag) (h1 : Reg.TBL_ADDFRAC ≠ e.addr) (h2 : Reg.TBL_ADDFRAC ≠ e.cnt) :
    s.Aside (s.raiseIf b e) := ⟨s.raiseIf_link b e, s.raiseIf_mem b e, s.rd_raiseIf_other b e _ h1 h2⟩

theorem State.aside_raiseN (s : State) (e : EvFlag) (k : Nat) (h1 : Reg.TBL_ADDFRAC ≠ e.addr) (h2 : Reg.TBL_ADDFRAC ≠ e.cnt) :
    s.Aside (s.raiseN e k) :=
  ⟨s.raiseN_link e k, s.raiseN_mem e k, s.raiseN_sameRegistersBut e k _ (by simp only [List.mem_cons, List.not_mem_nil, or_false, not_or]; exact ⟨h1, h2⟩)⟩

theorem State.aside_advance (s : State) (k : Nat) : s.Aside (s.advance k) := ⟨s.advance_link k, s.advance_mem k, s.advance_rd k _⟩

theorem State.aside_probeRegrid (s : State) : s.Aside s.probeRegrid := by
  unfold State.probeRegrid
  dsimp only
  split
  · exact .refl s
  · exact ⟨rfl, rfl, rfl⟩

theorem State.aside_rodEnd (s : State) (n : Fin 16) : s.Aside (s.rodEnd n) := by
  have hne := (show ∀ n : Fin 16, Reg.TBL_ADDFRAC ≠ (Fd.TBL_ROD_CTRL_ARM n).addr ∧ Reg.TBL_ADDFRAC ≠ (Fd.TBL_ROD_STATE_ACTIVE n).addr by decide) n
  exact ((s.aside_put _ 0 hne.1).trans (State.aside_put _ _ 0 hne.2)).trans (State.aside_raiseIf _ _ _ (by decide) (by decide))

theorem State.aside_rodConsume (s : State) (n : Fin 16) (k : Nat) : s.Aside (s.rodConsume n k) := by
  have hne : Reg.TBL_ADDFRAC ≠ (Fd.TBL_ROD_STATE_REMAIN n).addr :=
    (show ∀ n : Fin 16, Reg.TBL_ADDFRAC ≠ (Fd.TBL_ROD_STATE_REMAIN n).addr by decide) n
  unfold State.rodConsume
  split
  · exact .refl s
  · dsimp only
    split
    · exact (s.aside_put _ _ hne).trans (State.aside_rodEnd _ n)
    · exact s.aside_put _ _ hne

theorem State.aside_sat16By (s : State) (a k : Nat) (h : Reg.TBL_ADDFRAC ≠ a) : s.Aside (s.sat16By a k) := s.aside_wrN a _ h

theorem State.aside_rodSkip (s : State) (n : Fin 16) (lim : Nat) : s.Aside (s.rodSkip n lim) := by
  have hne : Reg.TBL_ADDFRAC ≠ Reg.TBL_ROD_SKIPCNT n := (show ∀ n : Fin 16, Reg.TBL_ADDFRAC ≠ Reg.TBL_ROD_SKIPCNT n by decide) n
  have hskip (k : Nat) (f : Tbl → Tbl) :
      s.Aside ((((s.tblM f).sat16By (Reg.TBL_ROD_SKIPCNT n) k).raiseN Ev.TBL_STATUS_RODSKIP k).rodConsume n k) :=
    (((s.aside_tblM f).trans (State.aside_sat16By _ _ k hne)).trans
      (State.aside_raiseN _ Ev.TBL_STATUS_RODSKIP k (by decide) (by decide))).trans (State.aside_rodConsume _ n k)
  unfold State.rodSkip
  dsimp only
  generalize (if s.get (Fd.TBL_ROD_COUNT_COUNT n) = 0 then _ else _ : Nat) = k
  by_cases hk : k = 0
  · rw [if_pos hk]
    exact .refl s
  · rw [if_neg hk]
    exact hskip k _

theorem State.aside_stepCount (s : State) (d : Int) : s.Aside (s.stepCount d) := by
  unfold State.stepCount
  dsimp only
  have hstep := ((s.aside_advance 1).trans (State.aside_tblM (s.advance 1) fun t =>
    { t.knotted (s.advance 1).now [⟨(s.advance 1).now, t.full, (s.advance 1).addend⟩] with
      count := enc 64 (((s.advance 1).tbl.count : Int) + d)
      prev := if d < 0 then enc 64 ((enc 64 (((s.advance 1).tbl.count : Int) + d) : Int) - 40) else t.prev })).trans (State.aside_probeRegrid _)
  split
  · refine foldl_keeps (fun u => s.Aside u) _ (fun u n hu => ?_) _ _ (hstep.trans (State.aside_tblM _ _))
    split
    · exact hu.trans (u.aside_rodSkip n _)
    · exact hu
  · exact hstep

theorem State.aside_stepBy (s : State) (d : Int) : s.Aside (s.stepBy d) := by
  unfold State.stepBy
  split
  · exact s.aside_stepCount d
  · exact ⟨rfl, rfl, rfl⟩

theorem State.aside_alignTo (s : State) (o : Int) : s.Aside (s.alignTo o) := by
  have hstart (k : Nat) (b : Bool) : s.Aside ((s.wrN Reg.TBL_ALIGN k).raiseIf b Ev.TBL_STATUS_ALIGNERR) :=
    (s.aside_wrN _ k (by decide)).trans (State.aside_raiseIf _ b _ (by decide) (by decide))
  unfold State.alignTo
  dsimp only
  split
  · exact (hstart _ _).trans (State.aside_tblM _ _)
  · exact ((hstart _ _).trans (State.aside_tblM _ _)).trans (State.aside_stepBy _ _)

theorem State.fresh_snd (s : State) : s.Aside s.fresh.2 := ⟨rfl, rfl, rfl⟩

/-- The follower after FIN, its addend set, before its offset is removed. -/
def State.finTaken (s : State) (l : Fin 4) (x : Nat) : State := (s.portM l fun p => { p with lower := none }).addfracSet (BitVec.ofNat 32 x)

theorem State.finTaken_port (s : State) (l : Fin 4) (x : Nat) : (s.finTaken l x).port l = { s.port l with lower := none } := by
  have h : (s.finTaken l x).link = (s.portM l fun p => { p with lower := none }).link := rfl
  rw [State.port_of_link h, State.portM_port]

theorem State.finTaken_mem (s : State) (l : Fin 4) (x : Nat) : (s.finTaken l x).mem = s.mem := by
  rw [State.finTaken, State.addfracSet, State.wr_mem, State.tblM_mem, State.portM_mem]

theorem State.finTaken_frac (s : State) (l : Fin 4) (x : Nat) : (s.finTaken l x).rd Reg.TBL_ADDFRAC = BitVec.ofNat 32 x := by
  rw [State.finTaken, State.addfracSet, State.rd_wr, if_pos rfl]

theorem State.tbxFin_eq (s : State) (l : Fin 4) (c : BitVec 256) (x y : Nat) (hlower : (s.port l).lower = some (x, y)) (hup : s.upstream l = true) :
    ∃ o, s.tbxFin l c = (s.finTaken l (enc 32 (clampFrac (sx 32 (cellBody c 32 32))))).fresh.2.alignTo o := by
  unfold State.tbxFin
  rw [hlower]
  dsimp only
  rw [if_neg (by rw [hup]; decide)]
  unfold State.finTaken
  exact ⟨_, rfl⟩

theorem State.cellTbxFin_aligns (l : Fin 4) (z : LaneBits) (c : BitVec 256) (x y : Nat) (s : State) (h : s.Brings l z c) (htype : cellType c = 7)
    (hsub : cellSub c % 4 = 2) (hctl : cellCtl c 22 2 = 0) (hlow : s.upstream l = true) (hlower : (s.port l).lower = some (x, y)) :
    Answers (.cellTbxFin l z) s fun t =>
      (t.port l).lower = none ∧ t.rdN Reg.TBL_ADDFRAC = enc 32 (clampFrac (sx 32 (cellBody c 32 32))) ∧ t.mem = s.mem := by
  refine ⟨_, rfl, ?_⟩
  obtain ⟨r, k, hport⟩ := s.exchangeIn_port l z c
  have hacts := s.exchangeIn_actsOn l z c
  rw [h.exchange (fun c s => s.tbxFin l c) 2 htype hsub hctl]
  generalize s.exchangeIn l z c = u at hport hacts
  obtain ⟨o, ho⟩ := u.tbxFin_eq l c x y (by rw [hport]; exact hlower) (by rw [hacts.upstream, hlow])
  have hlt : enc 32 (clampFrac (sx 32 (cellBody c 32 32))) < 2 ^ 32 := by
    unfold enc
    omega
  generalize enc 32 (clampFrac (sx 32 (cellBody c 32 32))) = w at ho hlt ⊢
  have haside := (u.finTaken l w).fresh_snd.trans (State.aside_alignTo _ o)
  rw [← ho] at haside
  have hsend := (u.tbxFin l c).shown_sends l
  have hne : Reg.TBL_ADDFRAC ≠ Reg.LINK_L_STATUS l := (show ∀ l : Fin 4, Reg.TBL_ADDFRAC ≠ Reg.LINK_L_STATUS l by decide) l
  refine ⟨?_, ?_, ?_⟩
  · rw [hsend.port.same, State.port_of_link haside.link, u.finTaken_port]
  · rw [State.rdN, hsend.rd _ hne, haside.frac, u.finTaken_frac, BitVec.toNat_ofNat, Nat.mod_eq_of_lt hlt]
  · rw [hsend.mem, haside.mem, u.finTaken_mem, hacts.mem]

/-! ### MARK cells (R407) -/

/-- The lanes of a link that is up or in training bring an undamaged MARK cell. -/
structure State.Marks (s : State) (l : Fin 4) (z : LaneBits) (c : BitVec 256) (n : Nat) : Prop where
  runs : s.linkState l = 1 ∨ s.linkState l = 2
  loop : (s.port l).loop ≠ 3
  cell : (s.port l).lineCell z = some c
  good : (s.port l).classError c = false
  typ : cellType c = 8
  sub : cellSub c = n
  ctl : cellCtl c 22 2 = 0

theorem State.markOk_eq (s : State) (l : Fin 4) (n : Nat) (c : BitVec 256) (hgood : (s.port l).classError c = false) (htype : cellType c = 8)
    (hsub : cellSub c = n) : s.markOk l n c = (s.linkState l == 1) := by
  unfold State.markOk
  rw [hgood, htype, hsub, beq_self_eq_true, beq_self_eq_true]
  simp only [Bool.not_false, Bool.and_true]

/-- The state in which a MARK cell acts: in training the link is past its fifth step. -/
def State.markTaken (s : State) (l : Fin 4) (z : LaneBits) (c : BitVec 256) : State :=
  ((((if s.linkState l == 1 then (s.cellTaken l z).trainReady l else s.cellTaken l z)).cellGood l).cellCredit l c).linkShow l

theorem State.Marks.arrive {s : State} {l : Fin 4} {z : LaneBits} {c : BitVec 256} {n : Nat} (h : s.Marks l z c n) (f : State → State) :
    (s.cellArrive l z (s.markOk l n) fun c s => s.markIn l n c f) = (f (s.markTaken l z c)).linkPump l := by
  have hgood : ((s.cellTaken l z).port l).classError c = false := by rw [State.cellTaken_classError, h.good]
  have hearly : s.linkState l = 2 ∨ s.linkState l = 1 ∧ s.markOk l n c = true :=
    h.runs.symm.imp_right fun h1 => ⟨h1, by rw [s.markOk_eq l n c h.good h.typ h.sub, h1]; rfl⟩
  have hready : ((if s.linkState l == 1 then (s.cellTaken l z).trainReady l else s.cellTaken l z).port l).classError c = false := by
    split
    · next h1 =>
      have hst : (s.cellTaken l z).linkState l = 1 := eq_of_beq h1
      rw [State.trainReady, if_pos hst, State.portM_port]
      exact hgood
    · exact hgood
  rw [s.cellArrive_of_cell l z _ _ c hearly h.loop h.cell, State.markIn, State.markOk_eq _ l n c hgood h.typ h.sub,
    State.cellTaken_linkState, h.typ, h.sub, beq_self_eq_true, beq_self_eq_true, Bool.true_and,
    State.cellIn_unnumbered _ l c f hready (by rw [h.typ]; rfl) (by rw [h.typ]; decide), State.cellControl_of_none _ l c h.ctl]
  rfl

theorem State.trainReady_actsOn (s : State) (l : Fin 4) (h : s.linkState l = 1) : State.ActsOn l s (s.trainReady l) ∧
    (s.trainReady l).port l = { s.port l with ready := true } := by
  have heq : s.trainReady l = (((s.put (Fd.LINK_L_STATUS_LPLLOCK l) 1).put (Fd.LINK_L_STATUS_CLKOK l) 1).put (Fd.LINK_L_STATUS_CRED l) 16).portM l
    fun p => { p with ready := true } := if_pos h
  have hput (t : State) (f : Fld) (v : Nat) (ha : f.addr = Reg.LINK_L_STATUS l) (hlo : 2 ≤ f.lo) (hw : f.lo + f.w ≤ 32) :
      State.ActsOn l t (t.put f v) :=
    ⟨ha ▸ t.put_sameRegistersBut f v, t.get_put_apart f _ v hw (.inr (.inl hlo)), fun _ => rfl, rfl, rfl, rfl, rfl, rfl, rfl⟩
  rw [heq]
  refine ⟨(((hput s (Fd.LINK_L_STATUS_LPLLOCK l) 1 rfl (show 2 ≤ 3 by decide) (show 3 + 1 ≤ 32 by decide)).trans
    (hput _ (Fd.LINK_L_STATUS_CLKOK l) 1 rfl (show 2 ≤ 2 by decide) (show 2 + 1 ≤ 32 by decide))).trans
    (hput _ (Fd.LINK_L_STATUS_CRED l) 16 rfl (show 2 ≤ 16 by decide) (show 16 + 5 ≤ 32 by decide))).trans (State.portM_actsOn _ l _ rfl), ?_⟩
  rw [State.portM_port, State.put_port, State.put_port, State.put_port]

/-- The cell acts on the state before it; its link runs cells. -/
theorem State.markTaken_acts (s : State) (l : Fin 4) (z : LaneBits) (c : BitVec 256) :
    State.ActsOn l s (s.markTaken l z c) ∧ ∃ r k, (s.markTaken l z c).port l =
      { s.port l with sent := [], line := ⟨[], []⟩, rxRun := r, rxHalf := k, bad := 0, ready := s.linkState l == 1 || (s.port l).ready } := by
  obtain ⟨r, k, hport⟩ := s.cellTaken_port l z
  have htaken := s.cellTaken_actsOn l z
  obtain ⟨t, ht, hready, htport⟩ : ∃ t, (if s.linkState l == 1 then (s.cellTaken l z).trainReady l else s.cellTaken l z) = t ∧
      State.ActsOn l s t ∧ t.port l =
        { (s.cellTaken l z).port l with ready := s.linkState l == 1 || ((s.cellTaken l z).port l).ready } := by
    by_cases h1 : s.linkState l = 1
    · obtain ⟨hacts, hp⟩ := (s.cellTaken l z).trainReady_actsOn l h1
      refine ⟨_, rfl, ?_, ?_⟩
      · rw [if_pos (beq_iff_eq.2 h1)]
        exact htaken.trans hacts
      · rw [if_pos (beq_iff_eq.2 h1), hp, beq_iff_eq.2 h1]
        rfl
    · have hb : (s.linkState l == 1) = false := beq_eq_false_iff_ne.2 h1
      rw [hb]
      exact ⟨_, rfl, htaken, rfl⟩
  unfold State.markTaken
  rw [ht]
  refine ⟨((hready.trans (State.portM_actsOn _ l _ rfl)).trans (State.cellCredit_actsOn _ l c)).trans (State.linkShow_actsOn _ l), r, k, ?_⟩
  rw [State.linkShow_port, State.cellCredit_port, State.cellGood, State.portM_port, htport, hport]

theorem State.markEcho_port (s : State) (l : Fin 4) :
    (s.markEcho l).port l = (s.port l).sendUnseq { typ := 8, sub := 1, len := 32, body := 0 } := s.portM_port l _

theorem State.markEcho_mem (s : State) (l : Fin 4) : (s.markEcho l).mem = s.mem := rfl

theorem State.markEcho_linkState (s : State) (l : Fin 4) : (s.markEcho l).linkState l = s.linkState l := rfl

/-- An echo is among the cells that a port has sent. -/
theorem LinkPort.echo_sent (p : LinkPort) :
    ((p.sendUnseq { typ := 8, sub := 1, len := 32, body := 0 }).sent.any fun y => decide (cellType y = 8 ∧ cellSub y = 1)) = true :=
  List.any_eq_true.2 ⟨_, LinkPort.sendUnseq_mem _ _, decide_eq_true ⟨by rw [cellType_encode]; rfl, by rw [cellSub_encode]; rfl⟩⟩

theorem State.cellMark_echoes (l : Fin 4) (z : LaneBits) (c : BitVec 256) (s : State) (h : s.Marks l z c 0) :
    Answers (.cellMarkRequest l z) s fun t =>
      ((t.port l).sent.any fun y => decide (cellType y = 8 ∧ cellSub y = 1)) = true ∧ t.linkState l = s.linkState l ∧ t.mem = s.mem := by
  refine ⟨_, rfl, ?_⟩
  obtain ⟨hacts, -⟩ := s.markTaken_acts l z c
  rw [h.arrive fun s => s.markEcho l]
  generalize s.markTaken l z c = u at hacts
  have hecho := (u.port l).echo_sent
  rw [← u.markEcho_port] at hecho
  have hsend := (u.markEcho l).linkPump_sends l
  refine ⟨?_, ?_, ?_⟩
  · obtain ⟨x, hx, hb⟩ := List.any_eq_true.1 hecho
    exact List.any_eq_true.2 ⟨x, hsend.sent hx, hb⟩
  · rw [hsend.linkState, u.markEcho_linkState, hacts.linkState]
  · rw [hsend.mem, u.markEcho_mem, hacts.mem]

/-- `s` and `t` agree in what a posted value depends on: the monitors, their registers, the halted cores. -/
structure State.MonAlike (l : Fin 4) (s t : State) : Prop where
  mon : t.mon = s.mon
  cpu : t.cpu = s.cpu
  regs : SameRegistersBut [Reg.LINK_L_STATUS l] s t

theorem State.MonAlike.get {l : Fin 4} {s t : State} (h : State.MonAlike l s t) (f : Fld) (hf : f.addr ≠ Reg.LINK_L_STATUS l) :
    t.get f = s.get f := h.regs.get f (by simpa using hf)

theorem State.MonAlike.on {l : Fin 4} {s t : State} (h : State.MonAlike l s t) (f : Fld) (hf : f.addr ≠ Reg.LINK_L_STATUS l) :
    t.on f = s.on f := congrArg (· != 0) (h.get f hf)

theorem monRegs_apart : ∀ (l : Fin 4) (k : Fin 16), (⟨Reg.MON_HOLD, k.val, 1⟩ : Fld).addr ≠ Reg.LINK_L_STATUS l ∧
    Fd.MON_CTRL_DBGSTOP.addr ≠ Reg.LINK_L_STATUS l ∧ Fd.SYSCFG_DBGSEL_SEL.addr ≠ Reg.LINK_L_STATUS l ∧
    Reg.MON_M_CFG k ≠ Reg.LINK_L_STATUS l := by decide

theorem State.MonAlike.monHeld {l : Fin 4} {s t : State} (h : State.MonAlike l s t) (k : Fin 16) : t.monHeld k = s.monHeld k := by
  unfold State.monHeld State.selHalted
  dsimp only
  obtain ⟨hhold, hstop, hsel, -⟩ := monRegs_apart l k
  rw [h.on _ hhold, h.on _ hstop, h.get _ hsel, h.cpu]

theorem State.MonAlike.windowOk {l : Fin 4} {s t : State} (h : State.MonAlike l s t) (k : Fin 16) (n : Nat) : t.windowOk k n = s.windowOk k n := by
  unfold State.windowOk
  dsimp only
  obtain ⟨-, -, -, hcfg⟩ := monRegs_apart l k
  rw [h.get _ hcfg, h.mon]

theorem State.MonAlike.monM {l : Fin 4} {s t : State} (h : State.MonAlike l s t) (f : Mon → Mon) :
    State.MonAlike l (s.monM f) (t.monM f) := ⟨congrArg f h.mon, h.cpu, h.regs⟩

theorem State.monPost_mon_congr {l : Fin 4} {s t : State} (h : State.ActsOn l s t) (cls idx : Nat) (x : Int) (n : Nat) :
    (t.monPost cls idx x n).mon = (s.monPost cls idx x n).mon := by
  unfold State.monPost
  rw [h.pmu]
  split
  · exact h.mon
  · refine (List.foldl_rel (r := fun u v => State.MonAlike l v u) ⟨h.mon, h.cpu, h.regs⟩ fun k _ u v huv => ?_).mon
    obtain ⟨-, -, -, hcfg⟩ := monRegs_apart l k
    rw [huv.on (Fd.MON_M_CFG_EN k) hcfg, huv.get (Fd.MON_M_CFG_CLASS k) hcfg, huv.get (Fd.MON_M_CFG_INDEX k) hcfg, huv.monHeld, huv.windowOk]
    split
    · exact huv.monM _
    · exact huv

end Sys2Proof.Machine

/-! SUPPORT. O51, its end: the echo of a MARK request (R407), and the obligation. -/
namespace Sys2Proof.Machine

set_option Elab.async false

theorem State.markTime_up (s : State) (l : Fin 4) (n : Nat) (h : s.linkState l = 2) :
    s.markTime l n = s.monPost 4 l.val (roundLatency ((n + 15) / 16 : Nat)) s.tbl.count := by
  unfold State.markTime
  dsimp only
  rw [beq_iff_eq.2 h]
  exact State.portM_id _ l

theorem State.markTime_trains (s : State) (l : Fin 4) (n : Nat) (h : s.linkState l = 1) (hfew : (s.port l).marks < 16) :
    ((s.markTime l n).port l).marks = (s.port l).marks + 1 ∧ ((s.markTime l n).port l).markMax = max (s.port l).markMax n := by
  have hup : (s.linkState l == 2) = false := by rw [h]; rfl
  unfold State.markTime
  dsimp only
  rw [hup]
  simp only [Bool.false_eq_true, if_false]
  rw [State.portM_port, if_pos hfew]
  exact ⟨rfl, rfl⟩

theorem State.markTime_mem (s : State) (l : Fin 4) (n : Nat) : (s.markTime l n).mem = s.mem := by
  unfold State.markTime
  dsimp only
  rw [State.portM_mem]
  split
  · exact State.monPost_mem ..
  · rfl

theorem State.markTime_linkState (s : State) (l : Fin 4) (n : Nat) : (s.markTime l n).linkState l = s.linkState l := by
  unfold State.markTime
  dsimp only
  rw [State.linkState_of_regs (State.portM_regs ..)]
  split
  · exact State.linkState_of_regs (State.monPost_regs ..) l
  · rfl

theorem State.cellMarkEcho_times (l : Fin 4) (z : LaneBits) (c : BitVec 256) (v : Word) (s : State) (h : s.Marks l z c 1)
    (hfew : (s.port l).marks < 16) : Answers (.cellMarkEcho l z v) s fun t =>
      (s.linkState l = 1 → (t.port l).marks = (s.port l).marks + 1 ∧ (t.port l).markMax = max (s.port l).markMax v.toNat) ∧
      (s.linkState l = 2 → t.mon = (s.monPost 4 l.val (roundLatency ((v.toNat + 15) / 16 : Nat)) s.tbl.count).mon) ∧
        t.linkState l = s.linkState l ∧ t.mem = s.mem := by
  refine ⟨_, rfl, ?_⟩
  obtain ⟨hacts, r, k, hport⟩ := s.markTaken_acts l z c
  rw [h.arrive fun s => s.markTime l v.toNat]
  generalize s.markTaken l z c = u at hacts hport
  generalize v.toNat = n
  have hsend := (u.markTime l n).linkPump_sends l
  refine ⟨fun h1 => ?_, fun h2 => ?_, ?_, ?_⟩
  · obtain ⟨hmarks, hmax⟩ := u.markTime_trains l n (hacts.linkState.trans h1) (by rw [hport]; exact hfew)
    rw [hsend.port.same]
    dsimp only
    rw [hmarks, hmax, hport]
    exact ⟨rfl, rfl⟩
  · rw [hsend.mon, u.markTime_up l n (hacts.linkState.trans h2), State.monPost_mon_congr hacts, hacts.tbl]
  · rw [hsend.linkState, u.markTime_linkState, hacts.linkState]
  · rw [hsend.mem, u.markTime_mem, hacts.mem]

/-- Settles O51, a lemma for each of the cells. -/
theorem linkCells : Obligations.LinkCells := by
  unfold Obligations.LinkCells
  refine ⟨State.cellError_first, State.cellError_fourth, ?_, ?_, ?_, ?_, ?_, ?_, ?_, ?_, ?_, ?_, ?_, ?_, ?_, ?_, ?_⟩
  · exact fun l z c s hup hloop hc hgood => State.cellDup_counts l z c s ⟨hup, hloop, hc, hgood⟩
  · exact fun l z c s hup hloop hc hgood => State.cellIdle_credits l z c s ⟨hup, hloop, hc, hgood⟩
  · exact fun l z c s hup hloop hc hgood => State.cellIdle_replays l z c s ⟨hup, hloop, hc, hgood⟩
  · exact fun l z c i s hup hloop hc hgood => State.cellWr_stores l z c i s ⟨hup, hloop, hc, hgood⟩
  · exact fun l z c s hup hloop hc hgood => State.cellRdreq_answers l z c s ⟨hup, hloop, hc, hgood⟩
  · exact fun l z c o r s hup hloop hc hgood => State.cellRdresp_completes l z c o r s ⟨hup, hloop, hc, hgood⟩
  · exact fun l z c o r n s hup hloop hc hgood => State.cellWrcmp_completes l z c o r n s ⟨hup, hloop, hc, hgood⟩
  · exact fun l z c s hup hloop hc hgood => State.cellEvent_holds l z c s ⟨hup, hloop, hc, hgood⟩
  · intro l z c k s hup hloop hc hgood htype hseq hctl hk hen hidle htag
    have hwrites := State.cellStream_writes l z c k s ⟨hup, hloop, hc, hgood⟩ htype hseq hctl hk hen hidle htag
    unfold State.resultAddr at hwrites
    exact hwrites
  · exact fun l z c k s hup hloop hc hgood => State.cellStream_drops l z c k s ⟨hup, hloop, hc, hgood⟩
  · exact fun l z c s hup hloop hc hgood => State.cellTbxReq_answers l z c s ⟨hup, hloop, hc, hgood⟩
  · exact fun l z c x s hup hloop hc hgood => State.cellTbxResp_answers l z c x s ⟨hup, hloop, hc, hgood⟩
  · exact fun l z c x y s hup hloop hc hgood => State.cellTbxFin_aligns l z c x y s ⟨hup, hloop, hc, hgood⟩
  · exact fun l z c s hruns hloop hc hgood htype hsub hctl => State.cellMark_echoes l z c s ⟨hruns, hloop, hc, hgood, htype, hsub, hctl⟩
  · exact fun l z c v s hruns hloop hc hgood htype hsub hctl =>
      State.cellMarkEcho_times l z c v s ⟨hruns, hloop, hc, hgood, htype, hsub, hctl⟩

end Sys2Proof.Machine

/-! SUPPORT. What a power-fail warning leaves of PMU: the acts of the blocks (R58, R185, R206, R221, R231, R257, R270, R290, R318, R339,
R415, R429, R450) change neither PMU nor the time (R459). -/
namespace Sys2Proof.Machine

set_option Elab.async false

/-- The addresses outside PMU's. -/
abbrev OutsidePmu (a : Nat) : Prop := a < 0x400f0000 ∨ 0x40100000 ≤ a

/-- The observation `g` sees of the state no more than the time, PMU and PMU's registers. -/
structure WarnBlind {β : Type} (g : State → β) : Prop where
  hidden {s t : State} (hnow : t.now = s.now) (hpmu : t.pmu = s.pmu) (hregs : t.regs = s.regs) : g t = g s
  wr (s : State) (a : Nat) (v : Word) : OutsidePmu a → g (s.wr a v) = g s

section
variable {β : Type} {g : State → β} (h : WarnBlind g)
include h

theorem WarnBlind.blind : Blind OutsidePmu g := ⟨h.wr, fun _ _ _ _ => h.hidden rfl rfl rfl⟩

theorem WarnBlind.driveBlind : DriveBlind g :=
  ⟨⟨h.blind.mono fun _ ha => Or.inl (by omega), fun _ _ _ => h.hidden rfl rfl rfl⟩, fun _ _ => h.hidden rfl rfl rfl⟩

/-! ### The updates -/

theorem WarnBlind.tblM (s : State) (f : Tbl → Tbl) : g (s.tblM f) = g s := h.hidden rfl rfl rfl
theorem WarnBlind.safeM (s : State) (f : SafeUnit → SafeUnit) : g (s.safeM f) = g s := h.hidden rfl rfl rfl
theorem WarnBlind.ethM (s : State) (f : Eth → Eth) : g (s.ethM f) = g s := h.hidden rfl rfl rfl
theorem WarnBlind.protM (s : State) (f : Prot → Prot) : g (s.protM f) = g s := h.hidden rfl rfl rfl
theorem WarnBlind.acuM (s : State) (f : Acu → Acu) : g (s.acuM f) = g s := h.hidden rfl rfl rfl
theorem WarnBlind.metM (s : State) (f : Meter → Meter) : g (s.metM f) = g s := h.hidden rfl rfl rfl
theorem WarnBlind.secM (s : State) (f : Sec → Sec) : g (s.secM f) = g s := h.hidden rfl rfl rfl
theorem WarnBlind.consM (s : State) (f : Consent → Consent) : g (s.consM f) = g s := h.hidden rfl rfl rfl
theorem WarnBlind.dcM (s : State) (k : Fin 8) (f : DcIn → DcIn) : g (s.dcM k f) = g s := h.hidden rfl rfl rfl
theorem WarnBlind.rkM (s : State) (n : Fin 4) (f : Rk → Rk) : g (s.rkM n f) = g s := h.hidden rfl rfl rfl
theorem WarnBlind.portM (s : State) (l : Fin 4) (f : LinkPort → LinkPort) : g (s.portM l f) = g s := h.hidden rfl rfl rfl
theorem WarnBlind.chipM (s : State) (b : Nat) (f : ProbeChip → ProbeChip) : g (s.chipM b f) = g s := h.hidden rfl rfl rfl

/-! ### The aborted sweeps (R270) -/

theorem WarnBlind.wrN (s : State) (a v : Nat) (ha : OutsidePmu a) : g (s.wrN a v) = g s := h.wr s a _ ha

theorem WarnBlind.put (s : State) (f : Fld) (v : Nat) (hf : OutsidePmu f.addr) : g (s.put f v) = g s := h.blind.put s f v hf

theorem WarnBlind.launch (s : State) (t e : Nat) : g (s.launch t e) = g s := by
  have hfly (b : List Launch) : g (s.tblM fun t => { t with inflight := b }) = g s := h.hidden rfl rfl rfl
  unfold State.launch
  split
  · exact h.blind.sat16 s _ (by decide)
  · dsimp only
    split
    · exact (h.blind.sat16 _ _ (by decide)).trans (hfly _)
    · exact hfly _

theorem WarnBlind.dcEvent (s : State) (k : Fin 8) (b : Nat) : g (s.dcEvent k b) = g s := by
  have hswl (v : Nat) : g (s.swlFire v) = g s :=
    foldl_same g _ (fun s _ => same_of_ite (State.fire_same g h.launch (fun _ _ => h.hidden rfl rfl rfl) s _ _)) _ s
  unfold State.dcEvent
  split
  · dsimp only
    split
    · exact hswl _
    · exact h.hidden rfl rfl rfl
  · rfl

/-- A block write outside MRAM. -/
theorem WarnBlind.blockWrite (s : State) (a n v : Nat) (ha : 0x09000000 ≤ a) : g (s.blockWrite a n v) = g s := by
  simp only [State.blockWrite, State.blockLand, if_neg (show ¬(0x08000000 ≤ a ∧ a < 0x09000000) by omega)]
  split
  · exact h.hidden rfl rfl rfl
  · exact h.hidden rfl rfl rfl

theorem WarnBlind.dcDwordWrite (s : State) (k r : Nat) (act fin' abt : Bool) : g (s.dcDwordWrite k r act fin' abt) = g s :=
  h.blockWrite s _ _ _ (by unfold State.dcDword; omega)

theorem WarnBlind.sweepComplete (s : State) (k : Fin 8) : g (s.sweepComplete k) = g s := by
  obtain ⟨hres, hstat, hflags, hcnt⟩ := (show ∀ k : Fin 8, OutsidePmu (Reg.SYSCFG_DC_SWRES k) ∧ OutsidePmu (Reg.SYSCFG_DC_SWSTAT k) ∧
    OutsidePmu (Ev.SYSCFG_DC_FLAGS_DONE k).addr ∧ OutsidePmu (Ev.SYSCFG_DC_FLAGS_DONE k).cnt by decide) k
  exact (h.dcM _ k _).trans ((h.put _ _ _ hstat).trans ((h.blind.raise _ _ hflags hcnt).trans
    ((h.put _ _ _ hres).trans (h.put _ _ _ hres))))

theorem WarnBlind.sweepTake (s : State) (k : Fin 8) (c : DcCap) : g (s.sweepTake k c).1 = g s := by
  have hcap (t : State) (b v : Nat) : g (t.wrN (Reg.SYSCFG_DC_CAP k b) v) = g t :=
    h.wrN t _ _ (by simp only [OutsidePmu, Reg.SYSCFG_DC_CAP]; omega)
  have hentry : g (s.sweepEntry k c) = g s := by simp only [State.sweepEntry, hcap]
  have htaken : g ((s.sweepEntry k c).dcM k fun d => { d with caps := d.caps.tail }) = g s := (h.dcM _ k _).trans hentry
  unfold State.sweepTake
  dsimp only
  split
  · exact (h.sweepComplete _ k).trans htaken
  · exact htaken

theorem WarnBlind.sweepHalt (s : State) (k : Fin 8) (cause : Nat) : g (s.sweepHalt k cause) = g s := by
  obtain ⟨hstat, hflags, hcnt⟩ := (show ∀ k : Fin 8, OutsidePmu (Reg.SYSCFG_DC_SWSTAT k) ∧
    OutsidePmu (Ev.SYSCFG_DC_FLAGS_ABORT k).addr ∧ OutsidePmu (Ev.SYSCFG_DC_FLAGS_ABORT k).cnt by decide) k
  exact (h.dcM _ k _).trans ((h.put _ _ _ hstat).trans ((h.put _ _ _ hstat).trans (h.blind.raise s _ hflags hcnt)))

theorem WarnBlind.sweepCut (s : State) (k : Fin 8) (cause : Nat) : g (s.sweepCut k cause).1 = g s := by
  unfold State.sweepCut
  split
  · split
    · exact h.sweepTake s k _
    · exact h.sweepHalt s k cause
  · rfl

theorem WarnBlind.sweepTells (s : State) (l : List (Fin 8 × Option Nat)) : g (s.sweepTells l) = g s := by
  refine foldl_same g _ (fun s e => ?_) l s
  split
  · rfl
  · exact (h.dcEvent _ _ 0).trans (h.dcDwordWrite s _ _ _ _ _)
  · refine (h.dcEvent _ _ 1).trans ?_
    split
    · rfl
    · exact h.dcDwordWrite s _ _ _ _ _

theorem WarnBlind.sweepAbort (s : State) (k : Fin 8) (cause : Nat) : g (s.sweepAbort k cause) = g s :=
  (h.sweepTells _ _).trans (h.sweepCut s k cause)

theorem WarnBlind.sweepAbortAll (s : State) (cause : Nat) : g (s.sweepAbortAll cause) = g s :=
  foldl_same g _ (fun s k => h.sweepAbort s k cause) _ s

/-! ### DRIVE and PWM (R206, R231) -/

theorem WarnBlind.driveWarning (s : State) : g s.driveWarning = g s :=
  (foldl_same g _ (fun s k => (h.driveBlind.breakShow _ k).trans (h.driveBlind.grpM s k _)) _ _).trans
    (foldl_same g _ (fun s k => h.driveBlind.grpM s k _) _ s)

theorem WarnBlind.forceBlind (n : Fin 48) : ForceBlind n g where
  switch s lo v _ := h.driveBlind.legState s n lo _ v
  shoot s k := h.driveBlind.shoot s n k
  legM s f _ := h.driveBlind.legM s n f
  forced s v := h.driveBlind.legState s n _ _ v
  late s b := by
    refine h.blind.raiseIf s b _ (Or.inl ?_) (Or.inl ?_) <;> simp only [Ev.DRIVE_G_FLAGS_LATEFR, Reg.DRIVE_G_FLAGS] <;> omega
  sweep s := foldl_same g _ (fun s k => same_of_ite (h.sweepAbort s k 2)) _ s

theorem WarnBlind.forcePfw (s : State) : g s.forcePfw = g s :=
  (foldl_same g _ (fun s n => h.driveBlind.legApplyWith s n _ _) _ _).trans ((State.forceLegs_same h.forceBlind _).trans
    ((h.blind.sat16 _ (Reg.PWM_GEVCNT 2) (by decide)).trans
      ((h.put _ Fd.PWM_GFLAGS_PFWF 1 (by decide)).trans (h.put s Fd.PWM_FSTAT_PFW 1 (by decide)))))

/-! ### SAFE, the reckoners, TBL, the links and Ethernet (R58, R185, R339, R415, R429) -/

theorem WarnBlind.safeEval (s : State) : g s.safeEval = g s := by
  rw [State.safeEval_eq, h.blind.raiseIf _ _ _ (by decide) (by decide), State.safeShown, State.readbackShow]
  simp only [h.put _ _ _ (show OutsidePmu Fd.SAFE_OUTPUTS_RBA.addr by decide), h.put _ _ _ (show OutsidePmu Fd.SAFE_OUTPUTS_RBB.addr by decide),
    h.put _ _ _ (show OutsidePmu Fd.SAFE_OUTPUTS_CMDA.addr by decide), h.put _ _ _ (show OutsidePmu Fd.SAFE_OUTPUTS_CMDB.addr by decide),
    h.put _ _ _ (show OutsidePmu Fd.SAFE_INPUTS_DISC.addr by decide), h.put _ _ _ (show OutsidePmu Fd.SAFE_INPUTS_PERMIT.addr by decide),
    h.put _ _ _ (show OutsidePmu Fd.SAFE_STATUS_ACKWAIT.addr by decide), h.put _ _ _ (show OutsidePmu Fd.SAFE_STATUS_OUTON.addr by decide),
    h.safeM]

theorem WarnBlind.safeSupply (s : State) : g s.safeSupply = g s := (h.safeEval _).trans (h.put s Fd.SAFE_STATUS_SUPPLY 1 (by decide))

theorem WarnBlind.rkShow (s : State) (n : Fin 4) : g (s.rkShow n) = g s := by
  have hstat : OutsidePmu (Reg.SYSCFG_RK_STATUS n) := (show ∀ n : Fin 4, OutsidePmu (Reg.SYSCFG_RK_STATUS n) by decide) n
  have hslot (t : State) (r : Option RkTask) :
      g (match r with | some x => t.put (Fd.SYSCFG_RK_STATUS_SLOT n) x.slot | none => t) = g t := by
    cases r with
    | some x => exact h.put t _ _ hstat
    | none => rfl
  exact (h.put _ _ _ hstat).trans ((hslot _ _).trans ((h.put _ _ _ hstat).trans (h.put s _ _ hstat)))

theorem WarnBlind.rkWarning (s : State) : g s.rkWarning = g s :=
  foldl_same g _ (fun s n => (h.rkShow _ n).trans (h.rkM s n _)) _ s

theorem WarnBlind.linkOff (s : State) (l : Fin 4) : g (s.linkOff l) = g s := by
  have hstat : OutsidePmu (Reg.LINK_L_STATUS l) := (show ∀ l : Fin 4, OutsidePmu (Reg.LINK_L_STATUS l) by decide) l
  exact (h.put _ _ _ hstat).trans ((h.put _ _ _ hstat).trans ((h.put _ _ _ hstat).trans (h.portM s l _)))

theorem WarnBlind.linkDown (s : State) (l : Fin 4) : g (s.linkDown l) = g s := by
  obtain ⟨hflags, hdown, hev, hx⟩ := (show ∀ l : Fin 4, OutsidePmu (Reg.LINK_L_FLAGS l) ∧ OutsidePmu (Ev.LINK_L_FLAGS_DOWN l).cnt ∧
    OutsidePmu (Ev.LINK_L_FLAGS_EVLOST l).cnt ∧ OutsidePmu (Ev.LINK_L_FLAGS_XLOST l).cnt by decide) l
  have hlost (t : State) (up x : Bool) (n : Nat) : g (if up then
      ((t.raise (Ev.LINK_L_FLAGS_DOWN l)).raiseN (Ev.LINK_L_FLAGS_EVLOST l) n).raiseIf x (Ev.LINK_L_FLAGS_XLOST l) else t) = g t :=
    same_of_ite ((h.blind.raiseIf _ _ _ hflags hx).trans ((h.blind.raiseN _ _ _ hflags hev).trans (h.blind.raise t _ hflags hdown)))
  unfold State.linkDown
  split
  · rfl
  · dsimp only
    exact (same_of_ite (h.portM _ l _)).trans ((hlost _ _ _ _).trans (h.linkOff s l))

theorem WarnBlind.linksDown (s : State) : g s.linksDown = g s := foldl_same g _ h.linkDown _ s

/-! ### PROT, PROBE, the ACU, METER, SEC and CONSENT (R124, R257, R290, R318, R450) -/

theorem WarnBlind.protWarning (s : State) : g s.protWarning = g s := by
  unfold State.protWarning
  dsimp only
  rw [h.protM, State.capStop, h.put _ _ _ (by decide), h.blind.raiseIf _ _ _ (by decide) (by decide)]

theorem WarnBlind.probeStop (s : State) : g s.probeStop = g s := by
  unfold State.probeStop
  split
  · exact (h.blockWrite _ _ _ _ (by omega)).trans ((h.chipM _ _ _).trans ((h.put _ Fd.PROBE_STATUS_COUNT 0 (by decide)).trans
      ((h.blind.raise _ Ev.PROBE_FLAGS_SUSP (by decide) (by decide)).trans (h.put s Fd.PROBE_STATUS_STATE 3 (by decide)))))
  · rfl

theorem WarnBlind.acuWarning (s : State) : g s.acuWarning = g s := by
  rw [State.acuWarning, State.acuShow, State.listStop]
  simp only [State.putB, h.acuM, h.put _ _ _ (show OutsidePmu Fd.ACU_STATUS_CALRUN.addr by decide),
    h.put _ _ _ (show OutsidePmu Fd.ACU_STATUS_URGPEND.addr by decide), h.put _ _ _ (show OutsidePmu Fd.ACU_STATUS_BUSY.addr by decide),
    h.put _ _ _ (show OutsidePmu Fd.ACU_STATUS_STEPPEND.addr by decide), h.put _ _ _ (show OutsidePmu Fd.ACU_STATUS_LISTRUN.addr by decide)]

theorem WarnBlind.meterWarning (s : State) : g s.meterWarning = g s := by
  have hpls (t : State) (q : Nat) (hq : q ∈ List.range 4) : g (t.put (Fd.METER_PLS_STAT_HIGH q) 0) = g t :=
    h.put t _ _ ((show ∀ q ∈ List.range 4, OutsidePmu (Fd.METER_PLS_STAT_HIGH q).addr by decide) q hq)
  unfold State.meterWarning
  dsimp only
  rw [h.metM, h.put _ _ _ (by decide)]
  exact List.foldlRecOn (motive := fun t => g t = g s) _ _ rfl fun t ht q hq => (hpls t q hq).trans ht

theorem WarnBlind.secWarning (s : State) : g s.secWarning = g s :=
  (h.secM _ _).trans (h.put s Fd.SEC_STATUS_BUSY 0 (by decide))

theorem WarnBlind.consWarning (s : State) : g s.consWarning = g s := by
  unfold State.consWarning
  split
  · rfl
  · exact (h.consM _ _).trans ((h.put _ Fd.CONSENT_STATUS_HELD 0 (by decide)).trans (h.put s Fd.CONSENT_STATUS_STATE 0 (by decide)))

theorem WarnBlind.warningActs (s : State) : g s.warningActs = g s := by
  unfold State.warningActs
  dsimp only
  rw [h.consWarning, h.secWarning, h.meterWarning, h.acuWarning, h.probeStop, h.protWarning]
  exact (h.ethM _ _).trans ((h.linksDown _).trans ((h.tblM _ _).trans ((h.rkWarning _).trans ((h.safeSupply _).trans
    ((h.forcePfw _).trans ((h.driveWarning _).trans (h.sweepAbortAll s 7)))))))

theorem WarnBlind.stewardsStop (s : State) : g s.stewardsStop = g s :=
  (h.put _ (Fd.SYSCFG_ST_STATUS_RUN 1) 0 (by decide)).trans (h.put s (Fd.SYSCFG_ST_STATUS_RUN 0) 0 (by decide))

end

theorem warnBlind_now : WarnBlind State.now := ⟨fun hnow _ _ => hnow, fun _ _ _ _ => rfl⟩
theorem warnBlind_pmu : WarnBlind State.pmu := ⟨fun _ hpmu _ => hpmu, fun _ _ _ _ => rfl⟩
theorem warnBlind_rd {a : Nat} (ha : ¬ OutsidePmu a) : WarnBlind fun s => s.rd a :=
  ⟨fun _ _ hregs => by rw [State.rd, State.rd, hregs], (Blind.rd ha).wr⟩

/-- R459: the first warning is recorded with its cause. -/
structure State.WarnedOf (s t : State) (cause watchdog : Nat) : Prop where
  warned : t.pmu.warned = true
  watchdog : t.pmu.watchdog = watchdog
  cause : t.get Fd.PMU_RSTINFO_CAUSE = cause % 8
  pfw : t.get Fd.PMU_STATUS_PFW = 1
  now : t.now = s.now

theorem State.warning_of_first (s : State) (cause wd : Nat) (hoff : s.pmu.clocksOff = false) (hfirst : s.pmu.warned = false) :
    s.WarnedOf (s.warning cause wd) cause wd := by
  have hget {g : Fld} (hg : ¬ OutsidePmu g.addr) (b : Bool) (t : State) :
      (if b then t.warningActs.stewardsStop else t.warningActs).get g = t.get g := by
    have hrd := warnBlind_rd hg
    have hacts : (if b then t.warningActs.stewardsStop else t.warningActs).rd g.addr = t.rd g.addr :=
      (same_of_ite (g := fun s : State => s.rd g.addr) (hrd.stewardsStop _)).trans (hrd.warningActs t)
    rw [State.get, State.get, State.rdN, State.rdN, hacts]
  have hpmu (b : Bool) (t : State) : (if b then t.warningActs.stewardsStop else t.warningActs).pmu = t.pmu :=
    (same_of_ite (g := State.pmu) (warnBlind_pmu.stewardsStop _)).trans (warnBlind_pmu.warningActs t)
  have hnow (b : Bool) (t : State) : (if b then t.warningActs.stewardsStop else t.warningActs).now = t.now :=
    (same_of_ite (g := State.now) (warnBlind_now.stewardsStop _)).trans (warnBlind_now.warningActs t)
  unfold State.warning
  rw [if_neg (by rw [hoff]; decide), if_neg (by rw [hfirst]; decide)]
  dsimp only
  refine ⟨?_, ?_, ?_, ?_, ?_⟩
  · rw [hpmu, State.raiseIf_pmu, State.raise_pmu]
    rfl
  · rw [hpmu, State.raiseIf_pmu, State.raise_pmu]
    rfl
  · rw [hget (by decide), State.get_raiseIf_other _ _ _ _ (by decide) (.inl (by decide)) (by decide),
      State.get_raise_other _ _ _ (by decide) (.inl (by decide)) (by decide), State.get_put_apart _ _ _ _ (by decide) (.inl (by decide)),
      State.get_put_within _ _ _ (by decide)]
    rfl
  · rw [hget (by decide), State.get_raiseIf_other _ _ _ _ (by decide) (.inl (by decide)) (by decide),
      State.get_raise_other _ _ _ (by decide) (.inl (by decide)) (by decide), State.get_put_within _ _ _ (by decide)]
    rfl
  · rw [hnow, State.raiseIf_now, State.raise_now]
    rfl

end Sys2Proof.Machine

/-! SUPPORT. O48, the first part: the watchdogs (R358–R360). -/
namespace Sys2Proof.Machine

set_option Elab.async false

theorem State.wdgM_self (s : State) (k : Fin 2) (f : Watchdog → Watchdog) : (s.wdgM k f).wdg[k] = f s.wdg[k] := upd_get_self _ _ _

theorem State.reachNow_wdg (s : State) (t : Nat) : (s.reachNow t).wdg = s.wdg := by
  obtain ⟨b, p, h, -⟩ := s.advance_eq ((t - s.now + 39) / 40)
  rw [State.reachNow, h]

/-- R360: a watchdog that is not paused keeps what it counts when it pauses. -/
theorem State.wdgPause_runs (s : State) (k : Fin 2) (h : s.wdg[k].paused = none) : (s.wdgPause k).wdg[k].fired = s.wdg[k].fired ∧
    (s.wdgPause k).wdg[k].kick = s.wdg[k].kick ∧ (s.wdgPause k).wdg[k].due = s.wdg[k].due := by
  unfold State.wdgPause
  rw [h]
  dsimp only
  split
  · rw [State.wdgM_self]
    exact ⟨rfl, rfl, rfl⟩
  · next t heq _ => exact nomatch heq
  · exact ⟨rfl, rfl, rfl⟩

/-- A pause changes no more than the watchdog. -/
theorem State.wdgPause_same {β : Type} (g : State → β) (h : ∀ (s : State) w, g { s with wdg := w } = g s) (s : State) (k : Fin 2) :
    g (s.wdgPause k) = g s := by
  unfold State.wdgPause
  dsimp only
  split
  · exact h s _
  · exact h s _
  · rfl

/-- R358: a watchdog that is enabled. -/
def State.wdgStarted (s : State) (k : Fin 2) : State :=
  (s.put (Fd.SYSCFG_WDG_CFG_EN k) 1).wdgM k fun _ => { due := s.now + msOf k (s.get (Fd.SYSCFG_WDG_PERIOD_MS k)) }

theorem State.wdgEnable_eq (s : State) (k : Fin 2) (h : s.on (Fd.SYSCFG_WDG_CFG_EN k) = false) : s.wdgEnable k = (s.wdgStarted k).wdgPause k := by
  have hperiod : (s.put (Fd.SYSCFG_WDG_CFG_EN k) 1).get (Fd.SYSCFG_WDG_PERIOD_MS k) = s.get (Fd.SYSCFG_WDG_PERIOD_MS k) :=
    s.get_put_apart _ _ _ (show 0 + 1 ≤ 32 by decide)
      (.inl ((show ∀ k : Fin 2, Reg.SYSCFG_WDG_PERIOD k ≠ Reg.SYSCFG_WDG_CFG k by decide) k))
  unfold State.wdgEnable
  rw [if_neg (by rw [h]; decide)]
  dsimp only
  rw [hperiod]
  rfl

theorem watchdogEnable_starts (k : Fin 2) (s : State) (h : s.on (Fd.SYSCFG_WDG_CFG_EN k) = false) : Answers (.watchdogEnable k) s fun t =>
    t.get (Fd.SYSCFG_WDG_CFG_EN k) = 1 ∧ t.wdg[k].fired = false ∧ t.wdg[k].kick = none ∧
    t.wdg[k].due = s.now + msOf k (s.get (Fd.SYSCFG_WDG_PERIOD_MS k)) ∧ SameRegistersBut [Reg.SYSCFG_WDG_CFG k] s t ∧ t.mem = s.mem := by
  refine ⟨_, rfl, ?_⟩
  rw [s.wdgEnable_eq k h]
  have hw : (s.wdgStarted k).wdg[k] = { due := s.now + msOf k (s.get (Fd.SYSCFG_WDG_PERIOD_MS k)) } := State.wdgM_self _ k _
  have hen : (s.wdgStarted k).get (Fd.SYSCFG_WDG_CFG_EN k) = 1 := s.get_put_within (Fd.SYSCFG_WDG_CFG_EN k) 1 (show 0 + 1 ≤ 32 by decide)
  have hregs : SameRegistersBut [Reg.SYSCFG_WDG_CFG k] s (s.wdgStarted k) := s.put_sameRegistersBut (Fd.SYSCFG_WDG_CFG_EN k) 1
  have hmem : (s.wdgStarted k).mem = s.mem := rfl
  generalize s.wdgStarted k = u at hw hen hregs hmem
  obtain ⟨hfired, hkick, hdue⟩ := u.wdgPause_runs k (by rw [hw])
  refine ⟨?_, ?_, ?_, ?_, ?_, ?_⟩
  · rw [State.wdgPause_same (fun s => s.get (Fd.SYSCFG_WDG_CFG_EN k)) (fun _ _ => rfl), hen]
  · rw [hfired, hw]
  · rw [hkick, hw]
  · rw [hdue, hw]
  · exact hregs.trans (SameRegistersBut.of_regs (State.wdgPause_same State.regs (fun _ _ => rfl) u k))
  · rw [State.wdgPause_same State.mem (fun _ _ => rfl), hmem]

/-! ### Kicks (R359) -/

theorem State.wdgKick_first (s : State) (k : Fin 2) (v : Word) (hen : s.on (Fd.SYSCFG_WDG_CFG_EN k) = true) (hnone : s.wdg[k].first = none) :
    s.wdgKick k v = if v = 0x5A5A then s.wdgM k fun w => { w with first := some (s.wdgNow k) } else s.wdgFire k := by
  unfold State.wdgKick
  rw [if_neg (by rw [hen]; decide)]
  dsimp only
  rw [hnone]

theorem watchdogKick_opens (k : Fin 2) (s : State) (hen : s.on (Fd.SYSCFG_WDG_CFG_EN k) = true) (hnone : s.wdg[k].first = none) :
    Answers (.watchdogKick k 0x5A5A) s fun t =>
      t.wdg[k].first = some (s.wdgNow k) ∧ t.wdg[k].due = s.wdg[k].due ∧ t.regs = s.regs ∧ t.mem = s.mem := by
  refine ⟨_, rfl, ?_⟩
  rw [s.wdgKick_first k _ hen hnone, if_pos rfl]
  dsimp only
  rw [State.wdgM_self]
  exact ⟨rfl, rfl, rfl, rfl⟩

theorem watchdogKick_renews (k : Fin 2) (a : Nat) (s : State) (hen : s.on (Fd.SYSCFG_WDG_CFG_EN k) = true) (hfirst : s.wdg[k].first = some a)
    (hin : s.wdgNow k ≤ a + wdgMs k) (hnew : s.wdg[k].kick = none) : Answers (.watchdogKick k 0xA5A5) s fun t =>
      t.wdg[k].first = none ∧ t.wdg[k].kick = some (s.wdgNow k) ∧ t.wdg[k].fired = false ∧
      t.wdg[k].due = s.wdgNow k + msOf k (s.get (Fd.SYSCFG_WDG_PERIOD_MS k)) ∧ t.regs = s.regs ∧ t.mem = s.mem := by
  refine ⟨_, rfl, ?_⟩
  have hkick : s.wdgKick k 0xA5A5 = s.wdgM k fun w => { w with
      first := none, kick := some (s.wdgNow k), fired := false, due := s.wdgNow k + msOf k (s.get (Fd.SYSCFG_WDG_PERIOD_MS k)) } := by
    unfold State.wdgKick
    rw [if_neg (by rw [hen]; decide)]
    dsimp only
    rw [hfirst, hnew]
    exact if_pos ⟨rfl, hin, rfl⟩
  rw [hkick]
  dsimp only
  rw [State.wdgM_self]
  exact ⟨rfl, rfl, rfl, rfl, rfl, rfl⟩

/-! ### The stages (R359) -/

theorem State.wdgFire_of_unfired (s : State) (k : Fin 2) (h : s.wdg[k].fired = false) :
    (s.wdgFire k).flag (Ev.SYSCFG_WDG_STATUS_FIRED k) = true ∧ (s.wdgFire k).wdg[k].fired = true ∧ (s.wdgFire k).st[s.wdgOwner k].nmi = true ∧
      (s.wdgFire k).wdg[k].due = s.now + msOf k (s.get (Fd.SYSCFG_WDG_GRACE_MS k)) ∧ (s.wdgFire k).mem = s.mem ∧ (s.wdgFire k).now = s.now := by
  have hne := (show ∀ k : Fin 2, (Ev.SYSCFG_WDG_STATUS_FIRED k).cnt ≠ (Ev.SYSCFG_WDG_STATUS_FIRED k).addr ∧
    Reg.SYSCFG_WDG_CFG k ≠ Reg.SYSCFG_WDG_STATUS k ∧ Reg.SYSCFG_WDG_CFG k ≠ (Ev.SYSCFG_WDG_STATUS_FIRED k).cnt ∧
    Reg.SYSCFG_WDG_GRACE k ≠ Reg.SYSCFG_WDG_STATUS k ∧ Reg.SYSCFG_WDG_GRACE k ≠ (Ev.SYSCFG_WDG_STATUS_FIRED k).cnt ∧
    (Ev.SYSCFG_WDG_STATUS_FIRED k).bit < 32 by decide) k
  obtain ⟨hcnt, hcfg, hcfg', hgrace, hgrace', hbit⟩ := hne
  have howner : (s.raise (Ev.SYSCFG_WDG_STATUS_FIRED k)).wdgOwner k = s.wdgOwner k :=
    congrArg (Fin.ofNat 2) (s.get_raise_other _ _ hbit (.inl hcfg) hcfg')
  have hflag := s.flag_raise (Ev.SYSCFG_WDG_STATUS_FIRED k) hcnt hbit
  have htime : (s.raise (Ev.SYSCFG_WDG_STATUS_FIRED k)).get (Fd.SYSCFG_WDG_GRACE_MS k) = s.get (Fd.SYSCFG_WDG_GRACE_MS k) :=
    s.get_raise_other _ _ hbit (.inl hgrace) hgrace'
  have hnow := s.raise_now (Ev.SYSCFG_WDG_STATUS_FIRED k)
  have hmem := s.raise_mem (Ev.SYSCFG_WDG_STATUS_FIRED k)
  unfold State.wdgFire
  rw [if_neg (by rw [h]; decide)]
  dsimp only
  generalize s.raise (Ev.SYSCFG_WDG_STATUS_FIRED k) = u at howner hflag htime hnow hmem ⊢
  rw [howner]
  refine ⟨hflag, ?_, ?_, ?_, hmem, hnow⟩
  · rw [State.wdgM_self]
  · rw [State.wdgM_st, State.stM_st, upd_get_self]
  · rw [State.wdgM_self, State.stM_now, State.stM_get, hnow, htime]

theorem watchdogKick_fires (k : Fin 2) (v : Word) (s : State) (hen : s.on (Fd.SYSCFG_WDG_CFG_EN k) = true) (hnone : s.wdg[k].first = none)
    (hv : v ≠ 0x5A5A) (hnew : s.wdg[k].fired = false) : Answers (.watchdogKick k v) s fun t =>
      t.flag (Ev.SYSCFG_WDG_STATUS_FIRED k) = true ∧ t.wdg[k].fired = true ∧ t.st[s.wdgOwner k].nmi = true ∧ t.mem = s.mem := by
  refine ⟨_, rfl, ?_⟩
  obtain ⟨hflag, hfired, hnmi, -, hmem, -⟩ := s.wdgFire_of_unfired k hnew
  rw [s.wdgKick_first k _ hen hnone, if_neg hv]
  exact ⟨hflag, hfired, hnmi, hmem⟩

theorem watchdogStage1_fires (k : Fin 2) (s : State) (hen : s.on (Fd.SYSCFG_WDG_CFG_EN k) = true) (hnew : s.wdg[k].fired = false)
    (hruns : s.wdg[k].paused = none) : Answers (.watchdogStage1 k) s fun t =>
      t.flag (Ev.SYSCFG_WDG_STATUS_FIRED k) = true ∧ t.wdg[k].fired = true ∧ t.st[s.wdgOwner k].nmi = true ∧ s.wdg[k].due ≤ t.now ∧
      t.wdg[k].due = t.now + msOf k (s.get (Fd.SYSCFG_WDG_GRACE_MS k)) ∧ t.mem = s.mem := by
  refine ⟨_, rfl, ?_⟩
  obtain ⟨hflag, hfired, hnmi, hdue, hmem, hnow⟩ := (s.reachNow s.wdg[k].due).wdgFire_of_unfired k (by rw [State.reachNow_wdg, hnew])
  have howner : (s.reachNow s.wdg[k].due).wdgOwner k = s.wdgOwner k := congrArg (Fin.ofNat 2) (s.reachNow_field _ _)
  unfold State.wdgStage1
  dsimp only
  rw [if_pos (by rw [hen, hnew, hruns]; rfl)]
  simp only [howner] at hnmi
  refine ⟨hflag, hfired, hnmi, ?_, ?_, ?_⟩
  · rw [hnow]
    exact s.le_reachNow_now _
  · rw [hdue, hnow, State.reachNow_field]
  · rw [hmem, State.reachNow_memory]

theorem watchdogStage2_warns (k : Fin 2) (s : State) (hen : s.on (Fd.SYSCFG_WDG_CFG_EN k) = true) (hfired : s.wdg[k].fired = true)
    (hruns : s.wdg[k].paused = none) (hfirst : s.pmu.warned = false) (hoff : s.pmu.clocksOff = false) : Answers (.watchdogStage2 k) s fun t =>
      t.pmu.warned = true ∧ t.get Fd.PMU_RSTINFO_CAUSE = 3 ∧ t.pmu.watchdog = k.val ∧ t.get Fd.PMU_STATUS_PFW = 1 ∧ s.wdg[k].due ≤ t.now := by
  refine ⟨_, rfl, ?_⟩
  have hpmu : (s.reachNow s.wdg[k].due).pmu = s.pmu := s.advance_pmu _
  have hw := (s.reachNow s.wdg[k].due).warning_of_first 3 k (by rw [hpmu, hoff]) (by rw [hpmu, hfirst])
  unfold State.wdgStage2
  dsimp only
  rw [if_pos (by rw [hen, hfired, hruns]; rfl)]
  exact ⟨hw.warned, hw.cause, hw.watchdog, hw.pfw, hw.now ▸ s.le_reachNow_now _⟩

end Sys2Proof.Machine

/-! SUPPORT. O48, continued: the host port (R361, R362). -/
namespace Sys2Proof.Machine

set_option Elab.async false

theorem isRemote_of_sram {a : Nat} (h : region a = .sram) : isRemote a = false := by
  unfold region at h
  unfold isRemote
  simp only [Bool.and_eq_false_iff, decide_eq_false_iff_not]
  grind

/-- An aligned read of the SRAM. -/
theorem State.busRead_sram (s : State) (a n : Nat) (hr : region a = .sram) (hn : n = 1 ∨ n = 2 ∨ n = 4 ∨ n = 8) (hal : a % n = 0)
    (hecc : s.eccBad a = false) : s.busRead a n = ((true, s.memRd a n), s) := by
  unfold State.busRead
  rw [if_pos (busOk_sram a n false hr hn hal), hr]
  exact if_neg (by rw [hecc]; decide)

/-- An aligned write of the SRAM. -/
theorem State.busWrite_sram (s : State) (a n v : Nat) (hr : region a = .sram) (hn : n = 1 ∨ n = 2 ∨ n = 4 ∨ n = 8) (hal : a % n = 0) :
    s.busWrite a n v = (true, s.farStored a n v) := by
  unfold State.busWrite
  rw [if_pos (busOk_sram a n true hr hn hal), hr]
  rfl

theorem State.hostDiscard_of_none (s : State) (h : s.host.kept = none) : s.hostDiscard = s := by
  unfold State.hostDiscard
  rw [h]

/-- Words that are discarded leave the port's errors and its queue. -/
theorem State.hostDiscard_fields (s : State) : s.hostDiscard.host.kept = none ∧ s.hostDiscard.host.queue = s.host.queue ∧
    s.hostDiscard.host.ref = s.host.ref ∧ s.hostDiscard.regs = s.regs ∧ s.hostDiscard.mem = s.mem := by
  unfold State.hostDiscard
  split
  · next h => exact ⟨h, rfl, rfl, rfl, rfl⟩
  · exact ⟨rfl, rfl, rfl, rfl, rfl⟩

theorem hostRead_answers (a : Word) (s : State) (hen : s.on Fd.SYSCFG_HOSTCTL_EN = true) (hkept : s.host.kept = none) (hr : region a.toNat = .sram)
    (hal : a.toNat % 4 = 0) (hecc : s.eccBad a.toNat = false) (htag : s.tagFree 12 = true) : Answers (.hostRead a 0 true 0) s fun t =>
      t.host.out = [BitVec.ofNat 32 (1 + 2 * s.host.err.toNat + 4 * s.host.ref.toNat + 8 * (!s.host.queue.isEmpty).toNat),
        BitVec.ofNat 32 (s.memRd a.toNat 4)] ∧
      t.host.kept = none ∧ t.host.queue = s.host.queue ∧ t.regs = s.regs ∧ t.mem = s.mem := by
  refine ⟨_, rfl, ?_⟩
  have hfetch : State.hostFetch 1 a.toNat s = ([some (BitVec.ofNat 32 (s.memRd a.toNat 4))], s) := by
    unfold State.hostFetch
    rw [if_neg (by rw [isRemote_of_sram hr]; simp), if_neg (by rw [htag]; decide), s.busRead_sram _ 4 hr (by decide) hal hecc]
    rfl
  have hread : s.hostRead a.toNat 0 true (0 : BitVec 8).toNat = s.hostAnswer [BitVec.ofNat 32 (s.memRd a.toNat 4)] 0 := by
    unfold State.hostRead
    rw [if_neg (by rw [hen]; decide)]
    dsimp only
    rw [hkept, Option.filter_none]
    dsimp only
    rw [s.hostDiscard_of_none hkept, if_neg (by decide)]
    rw [show (0 : Byte).toNat % 64 + 1 = 1 from rfl, hfetch]
    rfl
  have hout : (s.hostAnswer [BitVec.ofNat 32 (s.memRd a.toNat 4)] 0).host =
      { s.host with err := s.host.err || false, out := [BitVec.ofNat 32 (s.hostStatusByte true), BitVec.ofNat 32 (s.memRd a.toNat 4)] } := rfl
  rw [hread]
  dsimp only
  rw [hout]
  exact ⟨rfl, hkept, rfl, rfl, rfl⟩

theorem hostWrite_queues (a : Word) (l : List Word) (i : Fin 32) (s : State) (hen : s.on Fd.SYSCFG_HOSTCTL_EN = true) (hempty : s.host.queue = [])
    (hfit : l.length ≤ 32) (hi : i.val < l.length) : Answers (.hostWrite a l) s fun t =>
      t.host.queue.length = l.length ∧ t.host.queue[i.val]? = some ((a.toNat + 4 * i.val) % 2 ^ 32, l.getD i.val 0, false) ∧
      t.host.ref = s.host.ref ∧ t.host.kept = none ∧ t.regs = s.regs ∧ t.mem = s.mem := by
  refine ⟨_, rfl, ?_⟩
  obtain ⟨hkept, hqueue, href, hregs, hmem⟩ := s.hostDiscard_fields
  unfold State.hostWrite
  rw [if_neg (by rw [hen]; decide)]
  dsimp only
  rw [if_neg (by rw [State.hostM_host, hqueue, hempty, List.length_nil]; omega)]
  refine ⟨?_, ?_, href, hkept, hregs, hmem⟩
  · rw [State.hostM_host, State.hostM_host]
    dsimp only
    rw [hqueue, hempty, List.nil_append, List.length_map, List.length_range]
  · rw [State.hostM_host, State.hostM_host]
    dsimp only
    rw [hqueue, hempty, List.nil_append, List.getElem?_map, List.getElem?_range hi]
    rfl

theorem hostWrite_refused (a : Word) (l : List Word) (s : State) (hen : s.on Fd.SYSCFG_HOSTCTL_EN = true) (hlong : 32 < l.length) :
    Answers (.hostWrite a l) s fun t => t.host.ref = true ∧ t.host.queue = s.host.queue ∧ t.regs = s.regs ∧ t.mem = s.mem := by
  refine ⟨_, rfl, ?_⟩
  obtain ⟨-, hqueue, -, hregs, hmem⟩ := s.hostDiscard_fields
  unfold State.hostWrite
  rw [if_neg (by rw [hen]; decide)]
  dsimp only
  rw [if_pos (Nat.lt_of_le_of_lt (Nat.sub_le ..) hlong)]
  exact ⟨rfl, hqueue, hregs, hmem⟩

theorem hostStatus_clears (s : State) (hen : s.on Fd.SYSCFG_HOSTCTL_EN = true) (hkept : s.host.kept = none) : Answers .hostStatus s fun t =>
    t.host.err = false ∧ t.host.ref = false ∧ t.host.queue = s.host.queue ∧
    t.host.out = [BitVec.ofNat 32 (1 + 2 * s.host.err.toNat + 4 * s.host.ref.toNat + 8 * (!s.host.queue.isEmpty).toNat),
      BitVec.ofNat 32 (32 - s.host.queue.length)] ∧
    t.regs = s.regs ∧ t.mem = s.mem := by
  refine ⟨_, rfl, ?_⟩
  unfold State.hostStatus
  rw [if_neg (by rw [hen]; decide)]
  dsimp only
  rw [hkept, s.hostDiscard_of_none hkept]
  exact ⟨rfl, rfl, rfl, rfl, rfl, rfl⟩

theorem hostReadComplete_completes (a n : Nat) (v : Word) (s : State) (hdrop : s.host.drop = []) (hkept : s.host.kept = some ⟨a, n, [some v], false⟩) :
    Answers .hostReadComplete s fun t => t.host.kept = some ⟨a, n, [some v], true⟩ ∧ t.regs = s.regs ∧ t.mem = s.mem := by
  refine ⟨_, rfl, ?_⟩
  have hnone : s.hostDrop [] = s.hostM fun h => { h with drop := [] } := rfl
  unfold State.hostReadComplete
  dsimp only
  rw [hdrop, hnone, State.hostM_host, hkept]
  exact ⟨rfl, rfl, rfl⟩

end Sys2Proof.Machine

/-! SUPPORT. O48, its end: the debug port (R363, R437), the test logic (R505), and the obligation. -/
namespace Sys2Proof.Machine

set_option Elab.async false

/-! ### Halt and resumption (R159, R184, R363) -/

/-- `w` has the other cores of `v`, and the pc and the data registers of core `c`. -/
structure CoresKept (c : Fin 6) (v w : Vector Cpu 6) : Prop where
  pc : w[c].pc = v[c].pc
  d : w[c].d = v[c].d
  others (j : Fin 6) (h : j ≠ c) : w[j] = v[j]

theorem CoresKept.refl (c : Fin 6) (v : Vector Cpu 6) : CoresKept c v v := ⟨rfl, rfl, fun _ _ => rfl⟩

theorem CoresKept.trans {c : Fin 6} {u v w : Vector Cpu 6} (h1 : CoresKept c u v) (h2 : CoresKept c v w) : CoresKept c u w :=
  ⟨h2.pc.trans h1.pc, h2.d.trans h1.d, fun j hj => (h2.others j hj).trans (h1.others j hj)⟩

theorem CoresKept.upd (c : Fin 6) (v : Vector Cpu 6) (f : Cpu → Cpu) (hpc : ∀ x, (f x).pc = x.pc) (hd : ∀ x, (f x).d = x.d) :
    CoresKept c v (v.upd c f) where
  pc := by rw [upd_get_self, hpc]
  d := by rw [upd_get_self, hd]
  others j hj := upd_get_other v c j f hj

theorem rkCore_of_kind {c : Fin 6} {n : Fin 4} (h : coreKind c = .rk n) : rkCore n = c :=
  (show ∀ (c : Fin 6) (n : Fin 4), coreKind c = .rk n → rkCore n = c by decide) c n h

/-- A core in debug halt. -/
def Cpu.halts (x : Cpu) : Cpu := { x with halted := true, haltReq := false, step := false }

theorem State.coreHaltNow_cpu (s : State) (c : Fin 6) : (s.coreHaltNow c).cpu = s.cpu.upd c Cpu.halts := by
  unfold State.coreHaltNow
  split
  · next n hk =>
    rw [← rkCore_of_kind hk]
    rfl
  · dsimp only
    rw [State.wdgPause_same State.cpu (fun _ _ => rfl), State.wdgPause_same State.cpu (fun _ _ => rfl)]
    rfl

theorem State.coreHaltNow_mem (s : State) (c : Fin 6) : (s.coreHaltNow c).mem = s.mem := by
  unfold State.coreHaltNow
  split
  · rfl
  · dsimp only
    rw [State.wdgPause_same State.mem (fun _ _ => rfl), State.wdgPause_same State.mem (fun _ _ => rfl)]
    rfl

theorem State.rkEnd_keeps (s : State) (n : Fin 4) (t : Nat) : CoresKept (rkCore n) s.cpu (s.rkEnd n t).cpu ∧ (s.rkEnd n t).mem = s.mem := by
  obtain ⟨f, hf⟩ : ∃ f : Cpu → Cpu, f = fun c => { c with loops := Vector.replicate 2 none, ended := none, wait := none } := ⟨_, rfl⟩
  have hkept : CoresKept (rkCore n) s.cpu (s.cpuM (rkCore n) f).cpu := .upd _ _ _ (fun _ => by rw [hf]) (fun _ => by rw [hf])
  have hmem : (s.cpuM (rkCore n) f).mem = s.mem := rfl
  unfold State.rkEnd
  dsimp only
  rw [State.rkShow_cpu, State.rkShow_mem, State.rkM_cpu, State.rkM_mem, ← hf]
  generalize s.cpuM (rkCore n) f = u at hkept hmem
  have hhalt : ((u.reachNow t).rkHaltNow n).cpu = u.cpu.upd (rkCore n) Cpu.halts := by
    have hcpu : (u.reachNow t).cpu = u.cpu := u.advance_cpu _
    rw [← hcpu]
    rfl
  split
  · refine ⟨?_, ?_⟩
    · rw [hhalt]
      exact hkept.trans (.upd _ _ _ (fun _ => rfl) (fun _ => rfl))
    · exact (u.advance_mem _).trans hmem
  · exact ⟨hkept, hmem⟩

theorem State.rkAbort_keeps (s : State) (n : Fin 4) (code pc t : Nat) :
    CoresKept (rkCore n) s.cpu (s.rkAbort n code pc t).cpu ∧ (s.rkAbort n code pc t).mem = s.mem := by
  unfold State.rkAbort
  split
  · exact ⟨.refl _ _, rfl⟩
  · next k _ =>
    have hend (u : State) (hcpu : u.cpu = s.cpu) (hmem : u.mem = s.mem) :
        CoresKept (rkCore n) s.cpu (u.rkEnd n t).cpu ∧ (u.rkEnd n t).mem = s.mem := by
      obtain ⟨hkept, hend⟩ := u.rkEnd_keeps n t
      exact ⟨hcpu ▸ hkept, hend.trans hmem⟩
    dsimp only
    refine hend _ ?_ ?_
    · simp only [State.rkRecord, State.wrN_cpu, apply_ite State.cpu, State.sat16_cpu, State.raise_cpu, State.putB_cpu, ite_self]
      split
      · exact same_of_ite (g := State.cpu) rfl
      · rfl
    · simp only [State.rkRecord, State.wrN_mem, apply_ite State.mem, State.sat16_mem, State.raise_mem, State.putB_mem, ite_self]
      split
      · exact same_of_ite (g := State.mem) rfl
      · rfl

theorem State.haltAtNext_keeps (s : State) (c : Fin 6) : (s.haltAtNext c).cpu[c].halted = true ∧ CoresKept c s.cpu (s.haltAtNext c).cpu ∧
    (s.haltAtNext c).mem = s.mem := by
  have hhalt (u : State) (hkept : CoresKept c s.cpu u.cpu) (hmem : u.mem = s.mem) : (u.coreHaltNow c).cpu[c].halted = true ∧
      CoresKept c s.cpu (u.coreHaltNow c).cpu ∧ (u.coreHaltNow c).mem = s.mem := by
    rw [State.coreHaltNow_cpu, State.coreHaltNow_mem]
    exact ⟨by rw [upd_get_self]; rfl, hkept.trans (.upd _ _ _ (fun _ => rfl) (fun _ => rfl)), hmem⟩
  have hreach (t : Nat) : (s.reachNow t).cpu = s.cpu ∧ (s.reachNow t).mem = s.mem := ⟨s.advance_cpu _, s.advance_mem _⟩
  unfold State.haltAtNext
  split
  · next n d hlate =>
    have hc : rkCore n = c := by
      unfold State.lateAt at hlate
      split at hlate
      · next m hk =>
        split at hlate
        · exact nomatch hlate
        · obtain ⟨x, -, hx⟩ := Option.map_eq_some_iff.1 hlate
          cases hx
          exact rkCore_of_kind hk
      · exact nomatch hlate
    obtain ⟨hkept, hmem⟩ := (s.reachNow d).rkAbort_keeps n 16 (s.rkNext n).2 d
    rw [hc, (hreach d).1] at hkept
    exact hhalt _ hkept (hmem.trans (hreach d).2)
  · obtain ⟨hcpu, hmem⟩ := hreach s.cpu[c].next
    exact hhalt _ (by rw [hcpu]; exact .refl c s.cpu) hmem

end Sys2Proof.Machine

/-! SUPPORT. O48, its end: the debug port and the test logic (R363, R437, R505), and the obligation. -/
namespace Sys2Proof.Machine

set_option Elab.async false

theorem State.debugIf_open (s : State) (f : State → State) (h : s.on Fd.SEC_STATUS_DBGOPEN = true) : s.debugIf f = f s := if_pos h

theorem State.debugIf_closed (s : State) (f : State → State) (h : s.on Fd.SEC_STATUS_DBGOPEN = false) :
    s.debugIf f = s.debugM fun d => { d with sticky := true } := if_neg (by rw [h]; decide)

theorem debugHalt_halts (c : Fin 6) (s : State) (hopen : s.on Fd.SEC_STATUS_DBGOPEN = true) (hruns : s.cpu[c].halted = false)
    (hwait : s.cpu[c].wait = none) : Answers (.debugHalt c) s fun t =>
      t.cpu[c].halted = true ∧ t.cpu[c].pc = s.cpu[c].pc ∧ t.cpu[c].d = s.cpu[c].d ∧ (∀ j : Fin 6, j ≠ c → t.cpu[j] = s.cpu[j]) ∧
        t.mem = s.mem := by
  refine ⟨_, rfl, ?_⟩
  obtain ⟨hhalt, hkept, hmem⟩ := s.haltAtNext_keeps c
  rw [s.debugIf_open _ hopen, State.coreHalt, if_neg (by rw [hruns]; decide), if_neg (by rw [hwait]; decide)]
  exact ⟨hhalt, hkept.pc, hkept.d, hkept.others, hmem⟩

/-! ### Resumption (R184, R363) -/

theorem State.rkHold_same {β : Type} (g : State → β) (h : ∀ (s : State) r, g { s with rk := r } = g s) (s : State) (n : Fin 4) :
    g (s.rkHold n) = g s := by
  unfold State.rkHold
  split
  · rfl
  · exact h s _

/-- A core's next instruction issues at `t` at the earliest. -/
def Cpu.from (x : Cpu) (t : Nat) : Cpu := { x with next := max x.next t }

theorem State.rkResume_cpu (s : State) (n : Fin 4) : (s.rkResume n).cpu = s.cpu.upd (rkCore n) fun x => x.from (rkUp s.now) := by
  have hcpu : (s.rkHold n).cpu = s.cpu := State.rkHold_same State.cpu (fun _ _ => rfl) s n
  have hnow : (s.rkHold n).now = s.now := State.rkHold_same State.now (fun _ _ => rfl) s n
  rw [← hcpu, ← hnow]
  rfl

theorem State.rkResume_mem (s : State) (n : Fin 4) : (s.rkResume n).mem = s.mem := State.rkHold_same State.mem (fun _ _ => rfl) s n

/-- A core that leaves debug halt. -/
def Cpu.resumes (x : Cpu) : Cpu := { x with halted := false, step := false }

theorem debugResume_resumes (c : Fin 6) (s : State) (hopen : s.on Fd.SEC_STATUS_DBGOPEN = true) (hhalt : s.cpu[c].halted = true)
    (hreq : s.cpu[c].haltReq = false) : Answers (.debugResume c) s fun t =>
      t.cpu[c].halted = false ∧ t.cpu[c].pc = s.cpu[c].pc ∧ (∀ j : Fin 6, j ≠ c → t.cpu[j] = s.cpu[j]) ∧ t.mem = s.mem := by
  refine ⟨_, rfl, ?_⟩
  obtain ⟨u, hu⟩ : ∃ u, u = s.cpuM c Cpu.resumes := ⟨_, rfl⟩
  have hself : u.cpu[c].halted = false := by
    rw [hu, State.cpuM_cpu, upd_get_self]
    rfl
  have hkept : CoresKept c s.cpu u.cpu := hu ▸ .upd _ _ _ (fun _ => rfl) (fun _ => rfl)
  have hmem : u.mem = s.mem := hu ▸ rfl
  have hresume : s.coreResume c = match coreKind c with
      | .rk n => u.rkResume n
      | .st n => ((u.put (Fd.SYSCFG_ST_STATUS_HALT n) 0).wdgPause 0).wdgPause 1 := by
    unfold State.coreResume
    rw [if_neg (by rw [hreq]; decide), if_pos hhalt, hu]
    rfl
  rw [s.debugIf_open _ hopen, hresume]
  split
  · next n hk =>
    have hcpu := u.rkResume_cpu n
    rw [rkCore_of_kind hk] at hcpu
    have hnext : CoresKept c u.cpu (u.rkResume n).cpu := hcpu ▸ .upd _ _ _ (fun _ => rfl) (fun _ => rfl)
    refine ⟨?_, (hkept.trans hnext).pc, (hkept.trans hnext).others, (u.rkResume_mem n).trans hmem⟩
    rw [hcpu, upd_get_self]
    exact hself
  · next n _ =>
    have hpause {β : Type} (g : State → β) (h : ∀ (s : State) w, g { s with wdg := w } = g s) (v : State) :
        g ((v.wdgPause 0).wdgPause 1) = g v := (State.wdgPause_same g h _ 1).trans (State.wdgPause_same g h v 0)
    have hcpu : ((((u.put (Fd.SYSCFG_ST_STATUS_HALT n) 0).wdgPause 0).wdgPause 1)).cpu = u.cpu := hpause State.cpu (fun _ _ => rfl) _
    rw [hcpu]
    exact ⟨hself, hkept.pc, hkept.others, (hpause State.mem (fun _ _ => rfl) _).trans hmem⟩

theorem debugStep_steps (c : Fin 6) (s : State) (hopen : s.on Fd.SEC_STATUS_DBGOPEN = true) (hhalt : s.cpu[c].halted = true) :
    Answers (.debugStep c) s fun t =>
      t.cpu[c].step = true ∧ t.cpu[c].halted = true ∧ t.cpu[c].pc = s.cpu[c].pc ∧ (∀ j : Fin 6, j ≠ c → t.cpu[j] = s.cpu[j]) ∧
        t.regs = s.regs ∧ t.mem = s.mem := by
  refine ⟨_, rfl, ?_⟩
  rw [s.debugIf_open _ hopen, State.debugStep, if_pos hhalt]
  dsimp only
  rw [State.cpuM_cpu, upd_get_self]
  exact ⟨rfl, hhalt, rfl, fun j hj => upd_get_other _ _ _ _ hj, rfl, rfl⟩

/-! ### Registers and memory (R363) -/

theorem Cpu.loopEnd_of_none (x : Cpu) (h : x.ended = none) : x.loopEnd = x := by
  unfold Cpu.loopEnd
  rw [h]

theorem State.cpuM_loopEnd (s : State) (c : Fin 6) (h : s.cpu[c].ended = none) : s.cpuM c Cpu.loopEnd = s := by
  have hcpu : s.cpu.upd c Cpu.loopEnd = s.cpu := by
    unfold Vector.upd
    rw [Cpu.loopEnd_of_none _ h]
    exact Vector.set_getElem_self ..
  unfold State.cpuM
  rw [hcpu]

/-- Where no loop's end waits, the debug port writes the registers as they are. -/
theorem State.debugReg_write (s : State) (c : Fin 6) (r : CoreReg) (v : BitVec 72) (hhalt : s.cpu[c].halted = true)
    (hended : s.cpu[c].ended = none) :
    s.debugReg c r (some v) = (s.coreWrite c r v).getD (s.debugM fun d => { d with sticky := true }) := by
  unfold State.debugReg
  dsimp only
  rw [s.cpuM_loopEnd c hended, ite_self, hhalt]
  rfl

/-- Where no loop's end waits, the debug port reads the registers as they are. -/
theorem State.debugReg_read (s : State) (c : Fin 6) (r : CoreReg) (x : BitVec 72) (hhalt : s.cpu[c].halted = true)
    (hended : s.cpu[c].ended = none) (hx : s.coreRead c r = some x) :
    s.debugReg c r none = (s.debugM fun d => { d with dr := x }).answer x.toNat := by
  unfold State.debugReg
  dsimp only
  rw [s.cpuM_loopEnd c hended, ite_self, hhalt, hx]
  rfl

theorem debugRegisterWrite_d (c : Fin 6) (n : Fin 16) (v : BitVec 72) (s : State) (hopen : s.on Fd.SEC_STATUS_DBGOPEN = true)
    (hhalt : s.cpu[c].halted = true) (hended : s.cpu[c].ended = none) : Answers (.debugRegisterAccess c (.d n) (some v)) s fun t =>
      (∀ j : Fin 16, t.cpu[c].d[j] = if j = n then v.setWidth 32 else s.cpu[c].d[j]) ∧ t.cpu[c].a = s.cpu[c].a ∧
        t.dport.sticky = s.dport.sticky ∧ t.regs = s.regs ∧ t.mem = s.mem := by
  refine ⟨_, rfl, ?_⟩
  rw [s.debugIf_open _ hopen, s.debugReg_write c _ _ hhalt hended]
  unfold State.coreWrite
  dsimp only [Option.getD_some]
  rw [State.cpuM_cpu, upd_get_self]
  refine ⟨fun j => ?_, rfl, rfl, rfl, rfl⟩
  simp only [Fin.getElem_fin, Vector.getElem_set, Fin.ext_iff, eq_comm]

theorem debugRegisterRead_w (c : Fin 6) (n : Fin 4) (s : State) (hopen : s.on Fd.SEC_STATUS_DBGOPEN = true) (hhalt : s.cpu[c].halted = true)
    (hended : s.cpu[c].ended = none) : Answers (.debugRegisterAccess c (.w n) none) s fun t =>
      t.dport.dr = s.cpu[c].w[n] ∧ t.cpu[c].w = s.cpu[c].w ∧ t.dport.sticky = s.dport.sticky ∧ t.regs = s.regs ∧ t.mem = s.mem := by
  refine ⟨_, rfl, ?_⟩
  rw [s.debugIf_open _ hopen, s.debugReg_read c _ s.cpu[c].w[n] hhalt hended rfl]
  exact ⟨rfl, rfl, rfl, rfl, rfl⟩

theorem ofNat8_div_byte (v : BitVec 64) (i : Nat) : BitVec.ofNat 8 (v.toNat / 256 ^ i) = v.extractLsb' (8 * i) 8 := by
  refine BitVec.eq_of_toNat_eq ?_
  rw [BitVec.toNat_ofNat, BitVec.extractLsb'_toNat, Nat.shiftRight_eq_div_pow, show 256 = 2 ^ 8 from rfl, ← Nat.pow_mul]

theorem debugMemoryWrite_stores (x : Access) (v : BitVec 64) (s : State) (hopen : s.on Fd.SEC_STATUS_DBGOPEN = true) (hw : x.write = some v)
    (hr : region x.addr.toNat = .sram) (hal : x.addr.toNat % 2 ^ x.size.val = 0) (htag : s.tagFree 13 = true) :
    Answers (.debugMemoryAccess x) s fun t =>
      (∀ i : Fin 8, i.val < 2 ^ x.size.val → Memory.read t.mem (x.addr.toNat + i.val) = v.extractLsb' (8 * i.val) 8) ∧
      SameMemoryBut x.addr.toNat (2 ^ x.size.val) s t ∧ t.dport.sticky = s.dport.sticky ∧ t.regs = s.regs := by
  refine ⟨_, rfl, ?_⟩
  have hsize : 2 ^ x.size.val = 1 ∨ 2 ^ x.size.val = 2 ∨ 2 ^ x.size.val = 4 ∨ 2 ^ x.size.val = 8 :=
    (show ∀ k : Fin 4, 2 ^ k.val = 1 ∨ 2 ^ k.val = 2 ∨ 2 ^ k.val = 4 ∨ 2 ^ k.val = 8 by decide) x.size
  have hperform : s.perform x = ((true, 0), s.farStored x.addr.toNat (2 ^ x.size.val) v.toNat) := by
    unfold State.perform accBytes
    rw [hw]
    dsimp only
    rw [s.busWrite_sram _ _ _ hr hsize hal]
  have hmem : s.debugMem x = s.farStored x.addr.toNat (2 ^ x.size.val) v.toNat := by
    unfold State.debugMem
    rw [if_neg (by rw [isRemote_of_sram hr]; decide), if_pos htag, hperform, hw]
    rfl
  have hstored : (s.farStored x.addr.toNat (2 ^ x.size.val) v.toNat).mem = Memory.writeLE s.mem x.addr.toNat (2 ^ x.size.val) v.toNat := rfl
  rw [s.debugIf_open _ hopen, hmem]
  refine ⟨fun i hi => ?_, fun e he => ?_, rfl, rfl⟩
  · rw [hstored, Memory.read_writeLE_of_inside _ _ _ _ _ hi, ofNat8_div_byte]
  · rw [hstored, Memory.read_writeLE_of_outside _ _ _ _ _ he]

/-! ### Reset, a closed port, and the test logic (R437, R459, R505) -/

theorem debugReset_warns (s : State) (hopen : s.on Fd.SEC_STATUS_DBGOPEN = true) (hfirst : s.pmu.warned = false) (hoff : s.pmu.clocksOff = false) :
    Answers .debugReset s fun t =>
      t.pmu.warned = true ∧ t.get Fd.PMU_RSTINFO_CAUSE = 4 ∧ t.get Fd.PMU_STATUS_PFW = 1 ∧ t.now = s.now := by
  refine ⟨_, rfl, ?_⟩
  have hw := s.warning_of_first 4 0 hoff hfirst
  rw [s.debugIf_open _ hopen]
  exact ⟨hw.warned, hw.cause, hw.pfw, hw.now⟩

theorem debug_refused (c : Fin 6) (x : Access) (s : State) (h : s.on Fd.SEC_STATUS_DBGOPEN = false) :
    (Answers (.debugHalt c) s fun t => t.dport.sticky = true ∧ t.cpu = s.cpu ∧ t.regs = s.regs ∧ t.mem = s.mem) ∧
    (Answers (.debugMemoryAccess x) s fun t => t.dport.sticky = true ∧ t.cpu = s.cpu ∧ t.regs = s.regs ∧ t.mem = s.mem) ∧
    (Answers .debugReset s fun t => t.dport.sticky = true ∧ t.pmu = s.pmu ∧ t.regs = s.regs ∧ t.mem = s.mem) := by
  have hclosed (f : State → State) := s.debugIf_closed f h
  refine ⟨⟨_, rfl, ?_⟩, ⟨_, rfl, ?_⟩, ⟨_, rfl, ?_⟩⟩
  · rw [hclosed]
    exact ⟨rfl, rfl, rfl, rfl⟩
  · rw [hclosed]
    exact ⟨rfl, rfl, rfl, rfl⟩
  · rw [hclosed]
    exact ⟨rfl, rfl, rfl, rfl⟩

theorem jtagDebug_selects (s : State) : Answers .jtagDebug s fun t =>
    t.dport.pads = .normal ∧ t.dport.bypass = false ∧ t.dport.ir = 8 ∧ t.regs = s.regs ∧ t.mem = s.mem := by
  refine ⟨_, rfl, ?_⟩
  unfold State.debugIf
  split
  · exact ⟨rfl, rfl, rfl, rfl, rfl⟩
  · exact ⟨rfl, rfl, rfl, rfl, rfl⟩

/-- Settles O48, a lemma for each of the commands. -/
theorem watchdogsHostAndDebug : Obligations.WatchdogsHostAndDebug := by
  unfold Obligations.WatchdogsHostAndDebug
  refine ⟨watchdogEnable_starts, watchdogKick_opens, watchdogKick_renews, watchdogKick_fires, watchdogStage1_fires, watchdogStage2_warns,
    hostRead_answers, hostWrite_queues, hostWrite_refused, hostStatus_clears, hostReadComplete_completes, debugHalt_halts, debugResume_resumes,
    debugStep_steps, debugRegisterWrite_d, debugRegisterRead_w, debugMemoryWrite_stores, debugReset_warns, debug_refused, fun l m s => ?_,
    fun c s hc => ?_⟩
  · exact ⟨⟨_, rfl, rfl, rfl, rfl, rfl, rfl⟩, ⟨_, rfl, rfl, rfl, rfl, rfl, rfl, rfl⟩, ⟨_, rfl, rfl, rfl, rfl, rfl, rfl⟩,
      ⟨_, rfl, rfl, rfl, rfl, rfl⟩, ⟨_, rfl, rfl, rfl, rfl, rfl⟩, jtagDebug_selects s⟩
  · have hbypass : ¬(c = 0 ∨ c = 1 ∨ c = 2 ∨ c = 4 ∨ c = 5 ∨ c = 8) := by simpa only [not_or] using hc
    refine ⟨_, rfl, ?_⟩
    rw [if_neg hbypass]
    exact ⟨rfl, rfl, rfl, rfl, rfl⟩

end Sys2Proof.Machine

/-! SUPPORT. O54: a sweep whose step lies past its table writes CONSENT's status during a switch-over (R268, R448). -/
namespace Sys2Proof.Machine

set_option Elab.async false

/-- An approved commit of the anti-islanding set stands at its boundary. Block line 0 is still asserted without a driver, and domain 1 of
leg 0 latched without the leg forced: the switch-over updates both. The leg's forcing ends the sweep of DC input 7 with a last capture of
step 256, one past the 256 entries of its table: the entry's first word goes to CONSENT_STATUS. -/
def sweepPastTable : State :=
  { (State.reset.put Fd.PLL_STATUS_SYNCLOCK 1 |>.put Fd.PLL_STATUS_SYSLOCK 1 |>.put Fd.CONSENT_STATUS_STATE 4
      |>.put Fd.CONSENT_STATUS_SETID 1 |>.put (Fd.PWM_LEG_CFG_FDOM 0) 1 |>.put ⟨Reg.PWM_FSTAT, Fd.PWM_FSTAT_DOM.lo + 1, 1⟩ 1
      |>.put (Fd.SYSCFG_DC_SWSTAT_STATE 7) 1 |>.wrN (Reg.SYSCFG_DC_LEGS_LO 7) 1) with
    now := 1000
    pwm := { State.reset.pwm with protLines := 1 }
    dc := State.reset.dc.upd 7 fun d =>
      { d with steps := 257, caps := [{ step := 256, sumV := 64, nV := 1, doneV := true, doneI := true }] } }

theorem sweepPastTable_held : sweepPastTable.consSwitch.get Fd.CONSENT_STATUS_HELD = 1 := by decide +kernel

/-- Refutes O54: the clause that a switch-over clears HELD has no premise on the sweeps, and a capture's step is not bounded in it. From
`sweepPastTable` the switch-over ends with HELD = 1, which the entry's voltage word 64 sets behind it. -/
theorem not_securityAndConsent : ¬ Obligations.SecurityAndConsent := by
  unfold Obligations.SecurityAndConsent
  rintro ⟨-, -, -, -, -, -, -, -, -, -, -, -, -, -, -, -, -, -, -, -, -, -, -, -, -, -, -, -, -, -, hswitch, -, -⟩
  obtain ⟨t, ht, -, hheld⟩ := hswitch sweepPastTable (by decide +kernel) (by decide +kernel) (by decide +kernel) (by decide +kernel)
    (by decide +kernel) (by decide +kernel)
  obtain rfl := Host.Outcome.next.inj ht
  rw [sweepPastTable_held] at hheld
  exact absurd hheld (by decide)

end Sys2Proof.Machine
